-- ==== Sys2Proof/Word.lean ====
section
/-! DEFINITION. The word types of the model and the plain data types every file uses.  A hexadecimal literal of the
spec (R1) is a Lean numeral; bit 0 is the least significant bit (R2). -/
namespace Sys2Proof

/-- One byte. -/
abbrev Byte := BitVec 8

/-- The 64-bit word of a relay register, a TT64 or an internal address while it is computed. -/
abbrev Word := BitVec 64

/-- Sparse data by number: pairs of a key and a value, keys strictly rising, and no entry holding the value that an
unlisted key reads as.  `Machine/Bits.lean` holds its operations. -/
abbrev Map (α : Type) := List (Nat × α)

/-- A sequence of bytes in ascending address order. -/
abbrev Bytes := List Byte

end Sys2Proof
end

