-- ==== Sys2Proof/Machine/Bits.lean ====
section
/-! DEFINITION. Bit fields, signed readings, byte order, the sparse maps and the cyclic codes that the chapters name
(R2, R5, R7). -/
namespace Sys2Proof.Machine

/-! ### Fields of a number (R2) -/

/-- Bits `[lo + w - 1 : lo]` of `v`. -/
def bitsAt (v lo w : Nat) : Nat := (v >>> lo) % 2 ^ w

/-- Bit `i` of `v`. -/
def bitAt (v i : Nat) : Bool := v.testBit i

/-- `v` with bits `[lo + w - 1 : lo]` replaced by the low `w` bits of `x`. -/
def putBits (v lo w x : Nat) : Nat :=
  v - (bitsAt v lo w) <<< lo + (x % 2 ^ w) <<< lo

/-- `v` with bit `i` set to `b`. -/
def putBit (v i : Nat) (b : Bool) : Nat := putBits v i 1 b.toNat

/-- The two's-complement reading of the low `w` bits of `v`. -/
def signed (w v : Nat) : Int :=
  let x := v % 2 ^ w
  if x < 2 ^ (w - 1) then (x : Int) else (x : Int) - (2 ^ w : Nat)

/-- The low `w` bits of an integer, as an unsigned number. -/
def wrapInt (w : Nat) (x : Int) : Nat := (x % ((2 ^ w : Nat) : Int)).toNat

/-- An integer clamped to the range from `lo` to `hi`. -/
def clampInt (lo hi x : Int) : Int := if x < lo then lo else if hi < x then hi else x

/-- A number clamped above. -/
def satNat (hi x : Nat) : Nat := if hi < x then hi else x

/-- The quotient rounded up. -/
def ceilDiv (a b : Nat) : Nat := (a + b - 1) / b

/-- The count of 1 bits among the low `n` bits. -/
def popCount (n v : Nat) : Nat := ((List.range n).filter (v.testBit ·)).length

/-- The lowest set bit among the low `n` bits. -/
def lowestBit (n v : Nat) : Option Nat := (List.range n).find? (v.testBit ·)

/-- `a - b` modulo `2 ^ w`: how far counter `a` of `w` bits is past counter `b`. -/
def subMod (w a b : Nat) : Nat := (a + 2 ^ w - b % 2 ^ w) % 2 ^ w

/-- `a + b` modulo `2 ^ w`. -/
def addMod (w a b : Nat) : Nat := (a + b) % 2 ^ w

/-- A condition as 0 or 1. -/
def flag (b : Bool) : Nat := if b then 1 else 0

/-! ### Byte order (R5): structures are little-endian, wire headers big-endian -/

/-- `n` bytes of `v`, the least significant first. -/
def leBytes : Nat → Nat → Bytes
  | 0, _ => []
  | n + 1, v => BitVec.ofNat 8 v :: leBytes n (v / 256)

/-- The number whose bytes, the least significant first, are `bs`. -/
def ofLe : Bytes → Nat
  | [] => 0
  | b :: bs => b.toNat + 256 * ofLe bs

/-- `n` bytes of `v` in network byte order. -/
def beBytes (n v : Nat) : Bytes := (leBytes n v).reverse

/-- The number whose bytes in network byte order are `bs`. -/
def ofBe (bs : Bytes) : Nat := bs.foldl (fun a b => a * 256 + b.toNat) 0

/-- `n` bytes of `bs` from offset `o`; past the end the list is shorter. -/
def slice (bs : Bytes) (o n : Nat) : Bytes := (bs.drop o).take n

/-- The number in network byte order in `n` bytes at offset `o`. -/
def beAt (bs : Bytes) (o n : Nat) : Nat := ofBe (slice bs o n)

/-- The little-endian number in `n` bytes at offset `o`. -/
def leAt (bs : Bytes) (o n : Nat) : Nat := ofLe (slice bs o n)

/-- `bs` with the bytes from offset `o` replaced by `xs`, within the length of `bs`. -/
def overlay (bs : Bytes) (o : Nat) (xs : Bytes) : Bytes :=
  (bs.take o ++ xs ++ bs.drop (o + xs.length)).take bs.length

/-- `bs` cut or filled with zeros to exactly `n` bytes. -/
def fitBytes (n : Nat) (bs : Bytes) : Bytes := bs.take n ++ List.replicate (n - bs.length) 0

/-! ### Lists used as fixed tables -/

/-- Element `i` of a list, or `d` past its end. -/
def nth {α : Type} (l : List α) (i : Nat) (d : α) : α := l.getD i d

/-- Removal of the element at place `i`. -/
def dropAt {α : Type} (l : List α) (i : Nat) : List α := l.take i ++ l.drop (i + 1)

/-- Replacement of every element that `p` accepts. -/
def mapIf {α : Type} (p : α → Bool) (f : α → α) (l : List α) : List α :=
  l.map fun x => if p x then f x else x

/-! ### Sparse maps -/

/-- The value at a key; an unlisted key reads as `d`. -/
def Map.getD {α : Type} (m : Map α) (k : Nat) (d : α) : α :=
  match m with
  | [] => d
  | (k', v) :: rest => if k = k' then v else Map.getD rest k d

/-- Insertion in key order. -/
def Map.insert {α : Type} (m : Map α) (k : Nat) (v : α) : Map α :=
  match m with
  | [] => [(k, v)]
  | (k', v') :: rest =>
    if k < k' then (k, v) :: (k', v') :: rest
    else if k = k' then (k, v) :: rest
    else (k', v') :: Map.insert rest k v

/-- Removal of a key. -/
def Map.erase {α : Type} (m : Map α) (k : Nat) : Map α := m.filter fun p => p.1 ≠ k

/-- The value written at a key; writing the value an unlisted key reads as removes the entry. -/
def Map.setD {α : Type} [DecidableEq α] (m : Map α) (k : Nat) (v d : α) : Map α :=
  if v = d then Map.erase m k else Map.insert m k v

/-- The value at a key of a map whose unlisted keys read as the type's default. -/
def Map.get {α : Type} [Inhabited α] (m : Map α) (k : Nat) : α := Map.getD m k default

/-- The value written at a key of a map whose unlisted keys read as the type's default. -/
def Map.set {α : Type} [DecidableEq α] [Inhabited α] (m : Map α) (k : Nat) (v : α) : Map α :=
  Map.setD m k v default

/-- A change of the value at one key. -/
def Map.upd {α : Type} [DecidableEq α] [Inhabited α] (m : Map α) (k : Nat) (f : α → α) : Map α :=
  Map.set m k (f (Map.get m k))

/-- The entry at a key, where one is listed. -/
def Map.find {α : Type} (m : Map α) (k : Nat) : Option α :=
  match m with
  | [] => none
  | (k', v) :: rest => if k = k' then some v else Map.find rest k

/-- The listed keys, rising. -/
def Map.keys {α : Type} (m : Map α) : List Nat := List.map Prod.fst m

/-- The canonical form: keys strictly rising and no entry equal to `d`. -/
def Map.wf {α : Type} [DecidableEq α] (m : Map α) (d : α) : Bool :=
  decide (List.Pairwise (fun a b : Nat × α => a.1 < b.1) m) && m.all fun p => decide (p.2 ≠ d)

/-! ### Cyclic codes -/

/-- One bit of a cyclic code that takes its input most significant bit first, with register width `w`. -/
def crcBitMsb (w poly reg : Nat) (b : Bool) : Nat :=
  let top := reg.testBit (w - 1)
  let shifted := (reg <<< 1) % 2 ^ w
  if top = b then shifted else shifted ^^^ poly

/-- One byte, most significant bit first. -/
def crcByteMsb (w poly reg : Nat) (b : Byte) : Nat :=
  [7, 6, 5, 4, 3, 2, 1, 0].foldl (fun r i => crcBitMsb w poly r (b.toNat.testBit i)) reg

/-- The steps of a code over bytes from a register value.  The match on the value has no effect but that it is evaluated
byte by byte. -/
def crcFold (f : Nat → Byte → Nat) : Bytes → Nat → Nat
  | [], reg => reg
  | b :: bs, 0 => crcFold f bs (f 0 b)
  | b :: bs, reg + 1 => crcFold f bs (f (reg + 1) b)

/-- The CRC-16 of commit words: polynomial 0x8BB7, initial value 0, unreflected, no final XOR (R7). -/
def crc16 (bs : Bytes) : Nat := crcFold (crcByteMsb 16 0x8BB7) bs 0

/-- One bit of a reflected cyclic code. -/
def crcBitLsb (poly reg : Nat) (b : Bool) : Nat :=
  if (reg.testBit 0) = b then reg >>> 1 else (reg >>> 1) ^^^ poly

/-- One byte, least significant bit first. -/
def crcByteLsb (poly reg : Nat) (b : Byte) : Nat :=
  [0, 1, 2, 3, 4, 5, 6, 7].foldl (fun r i => crcBitLsb poly r (b.toNat.testBit i)) reg

/-- The steps of the reflected CRC-32C (Castagnoli) over bytes, from register value `reg`. -/
def crc32cSteps (reg : Nat) (bs : Bytes) : Nat := crcFold (crcByteLsb 0x82F63B78) bs reg

/-- The steps of the reflected CRC-32 of IEEE 802.3 over bytes, from register value `reg`. -/
def crc32Steps (reg : Nat) (bs : Bytes) : Nat := crcFold (crcByteLsb 0xEDB88320) bs reg

/-- The Ethernet frame check sequence of a frame's bytes. -/
def crc32 (bs : Bytes) : Nat := crc32Steps 0xFFFFFFFF bs ^^^ 0xFFFFFFFF

/-! ### Commit words (R7) -/

/-- The tag of a commit word. -/
def commitTag : Nat := 0xC0A1

/-- The commit word of a record with sequence `seq` whose covered bytes are `bs`. -/
def commitWord (seq : Nat) (bs : Bytes) : Nat :=
  commitTag + (crc16 bs) <<< 16 + (seq % 2 ^ 32) <<< 32

/-- A commit word verifies only when all three of its fields hold their expected values. -/
def commitVerifies (word seq : Nat) (bs : Bytes) : Bool :=
  decide (word % 2 ^ 64 = commitWord seq bs)

end Sys2Proof.Machine
end

