-- ==== Sys2Proof/Machine/RegDesc.lean ====
section
/-! DEFINITION. The form of a register field: where it stands in BAR0, its width, access code (R8), change class (R10)
and reset value, and the four registers common to every block (R19). -/
namespace Sys2Proof.Machine

/-- The register blocks of BAR0, named by their prefixes. -/
inductive Blk where
  | dev | tt | nrg | hif | mbx | wq | cq | pp | ft | tm | trn | blk | cip | dma | rly | irq | pmc | boot | mnt | pair
deriving DecidableEq, Repr, Inhabited

/-- The base of a block in BAR0, as its chapter gives it. -/
def Blk.base : Blk → Nat
  | .dev => 0x00010000 | .tt => 0x00100000 | .nrg => 0x00200000 | .hif => 0x00300000 | .mbx => 0x00380000
  | .wq => 0x00400000 | .cq => 0x00480000 | .pp => 0x00500000 | .ft => 0x00600000 | .tm => 0x00700000
  | .trn => 0x00800000 | .blk => 0x00900000 | .cip => 0x00A00000 | .dma => 0x00B00000 | .rly => 0x00C00000
  | .irq => 0x00D00000 | .pmc => 0x00E00000 | .boot => 0x00F00000 | .mnt => 0x01000000 | .pair => 0x01100000

/-- Every block. -/
def Blk.all : List Blk :=
  [.dev, .tt, .nrg, .hif, .mbx, .wq, .cq, .pp, .ft, .tm, .trn, .blk, .cip, .dma, .rly, .irq, .pmc, .boot, .mnt, .pair]

/-- The access codes of R8. -/
inductive Access where
  | rw | ro | wo | w1c | w1s | rc | rwl
deriving DecidableEq, Repr

/-- The change classes of R10; `fixed` is the dash of a field that software cannot write. -/
inductive ChangeClass where
  | fixed | live | staged | static
deriving DecidableEq, Repr

/-- One field of a register table.  A register array has `n1` members `s1` bytes apart, and within each `n2`
members `s2` bytes apart.  `own` marks a field whose write has a row of its own in the table of operations. -/
structure Desc where
  blk   : Blk
  base  : Nat
  n1    : Nat
  s1    : Nat
  n2    : Nat
  s2    : Nat
  lo    : Nat
  width : Nat
  acc   : Access
  cls   : ChangeClass
  reset : Nat
  own   : Bool
deriving DecidableEq, Repr

/-- The bit address in BAR0 of member `(i, j)` of a field, which is its key in the register store. -/
def Desc.key (d : Desc) (i j : Nat) : Nat := (d.base + i * d.s1 + j * d.s2) * 8 + d.lo

/-- A field of a register that is no array. -/
def reg1 (b : Blk) (off lo width : Nat) (acc : Access) (cls : ChangeClass) (reset : Nat) (own : Bool := false) : Desc :=
  ⟨b, b.base + off, 1, 0, 1, 0, lo, width, acc, cls, reset, own⟩

/-- ENABLE.enable of a block (R19); its write is the command ENABLE_WRITE. -/
def enableField (b : Blk) : Desc := reg1 b 0x0 0 1 .rw .live 0 true
/-- ENABLE.lock of a block (R19); its write is the command LOCK_SET. -/
def lockField (b : Blk) : Desc := reg1 b 0x0 1 1 .w1s .live 0 true
/-- APPLY.apply_now (R19); its write is the command APPLY_NOW. -/
def applyNowField (b : Blk) : Desc := reg1 b 0x8 0 1 .wo .live 0 true
/-- APPLY.arm_time (R19); its writes are the commands ARM_TIME and DISARM_TIME. -/
def armTimeField (b : Blk) : Desc := reg1 b 0x8 1 1 .rw .live 0 true
/-- APPLY.pending (R19). -/
def pendingField (b : Blk) : Desc := reg1 b 0x8 2 1 .ro .fixed 0
/-- APPLY_TIME.apply_tt (R19); its write is the command APPLY_TIME_WRITE. -/
def applyTtField (b : Blk) : Desc := reg1 b 0x10 0 64 .rw .live 0 true
/-- CFG_ERR.locked_write (R19). -/
def lockedWriteField (b : Blk) : Desc := reg1 b 0x18 0 1 .w1c .live 0
/-- CFG_ERR.lock_violation (R19). -/
def lockViolationField (b : Blk) : Desc := reg1 b 0x18 1 1 .w1c .live 0
/-- CFG_ERR.apply_late (R19). -/
def applyLateField (b : Blk) : Desc := reg1 b 0x18 2 1 .w1c .live 0
/-- CFG_ERR.apply_reject (R19). -/
def applyRejectField (b : Blk) : Desc := reg1 b 0x18 3 1 .w1c .live 0

/-- The common registers of a block (R19). -/
def commonDescs (b : Blk) : List Desc :=
  [enableField b, lockField b, applyNowField b, armTimeField b, pendingField b, applyTtField b,
   lockedWriteField b, lockViolationField b, applyLateField b, applyRejectField b]

/-- The blocks that have RWL fields and so implement ENABLE.lock (R19). -/
def hasLock (b : Blk) : Bool := b = .hif || b = .boot

end Sys2Proof.Machine
end

