-- ==== Sys2Proof/Syntax.lean ====
section
/-! DEFINITION. The commands of the block: one constructor for each row of the table of operations and events, with the
operands that the row's text speaks of. -/
namespace Sys2Proof

open Machine (Blk)

/-- Who sends a register access, a read or a command: a host function (R793), a steward or a relay thread. -/
inductive Initiator where
  | host (fn : Nat)
  | steward (k : Nat)
  | relay (thread : Nat)
deriving DecidableEq, Repr, Inhabited


/-- What a PCI Express configuration request asks of a function, beside the accesses that have rows of their own: a read,
or a write of the control bits that this part's behaviour depends on. -/
inductive ConfigOp where
  | read
  | msix (enable mask : Bool)
  | timeout (us : Nat)
  | tagBits (bits : Nat)
  | transfer (payload readReq : Nat)
  | pmeEn (on : Bool)
  | atsEn
  | numVfs (n : Nat)
deriving DecidableEq, Repr, Inhabited

/-- A flash slot as the ROM reads it: its bytes from the first, those beyond the list being 0, its commit word, and the
verdicts of the ROM software on the container's two signatures (R842, R849, R851). -/
structure Machine.SlotImage where
  bytes  : Bytes
  commit : Nat
  ecdsa  : Bool
  mldsa  : Bool
deriving DecidableEq, Repr, Inhabited

open Machine (SlotImage)

/-- What a detection code has fired on (R894, R895): a memory line by its internal address over 64; the objects whose
place on chip the spec does not give; or a fabric flit, with the link, and the entry whose data it carries. -/
inductive Detection where
  | line (line : Nat)
  | parked (n : Nat)
  | context (conn : Nat)
  | ringContext (ring : Nat)
  | keyCache (slot : Nat)
  | ternary (table index : Nat)
  | lpm (table : Nat)
  | flit (link : Nat) (entry : Option (Nat × Nat))
deriving DecidableEq, Repr, Inhabited

/-- The commands, in the order of the table. -/
inductive Instr where
  /-- REGISTER_WRITE (R10): A host or steward write to a register field that has no row of its own takes effect under its change class, lock and access rights. -/
  | registerWrite (who : Initiator) (addr len value : Nat)
  /-- ENABLE_WRITE (R968): A write of ENABLE.enable starts or stops a block; a write of 1 that would enable a forbidden combination is ignored and sets apply_reject. -/
  | enableWrite (who : Initiator) (b : Blk) (v : Bool)
  /-- LOCK_SET (R18): A write of 1 to ENABLE.lock makes the block's RWL fields read-only until a device reset. -/
  | lockSet (who : Initiator) (b : Blk)
  /-- APPLY_NOW (R23): A write of APPLY.apply_now requests an application of the staging bank at the next safe point. -/
  | applyNow (who : Initiator) (b : Blk)
  /-- ARM_TIME (R21): A write of 1 to APPLY.arm_time arms an application at apply_tt, or applies at once and sets apply_late when apply_tt has passed. -/
  | armTime (who : Initiator) (b : Blk) (applyNow : Bool)
  /-- DISARM_TIME (R19): A write of 0 to APPLY.arm_time while armed disarms the timed application and keeps the staged writes. -/
  | disarmTime (who : Initiator) (b : Blk)
  /-- APPLY_TIME_WRITE (R24): A write of APPLY_TIME.apply_tt while armed moves the armed application to the new time. -/
  | applyTimeWrite (who : Initiator) (b : Blk) (applyTt : Nat)
  /-- ARMED_APPLICATION (R20): The time of an armed application is reached, and the application waits for the first safe point at or after apply_tt. -/
  | armedApplication (b : Blk)
  /-- APPLICATION (R13): At a safe point the block adopts its whole staging bank as one event. -/
  | application (b : Blk)
  /-- BANK_COPY_DONE (R332): Once the last pass of the old bank has left, the new bank is copied into the old one and held staged writes enter it. -/
  | bankCopyDone (pipe : Nat)
  /-- SCHEDULED_EVENT (R67): An event armed for TT64 T fires at the first tick with TT64 at or after T. -/
  | scheduledEvent
  /-- TT_LOAD (R44): A write to TT_LOAD sets TT64 and sets valid when valid is 0, or is refused and sets step_refused. -/
  | ttLoad (who : Initiator) (value : Nat)
  /-- TT_STEP (R47): A write to TT_STEP advances TT64 by delta when step_enable is 1, or is refused. -/
  | ttStep (who : Initiator) (delta : Nat)
  /-- TT_PHASE_ADJ (R48): A write to TT_PHASE_ADJ adds to the remaining slew, saturating. -/
  | ttPhaseAdj (who : Initiator) (value : Nat)
  /-- TT_FREQ_ADJ (R53): A write to TT_FREQ_ADJ sets the frequency adjustment and feeds the servo watchdog. -/
  | ttFreqAdj (who : Initiator) (value : Nat)
  /-- TT_SERVO_WRITE (R57): A firmware write of TT_SERVO.ptp_locked qualifies or withdraws the PTP phase source and may start holdover. -/
  | ttServoWrite (who : Initiator) (locked : Bool)
  /-- TT_NOW_READ (R77): A read of TT_NOW returns TT64 and latches the fraction into TT_NOW_FRAC. -/
  | ttNowRead (who : Initiator)
  /-- PPS_EDGE (R49): A rising edge on PPS_IN is captured in TT_PPS_CAP, raises TT_PPS and counts toward qualification under phase_src 1. -/
  | ppsEdge
  /-- PPS_WINDOW_EXPIRY (R53): No PPS_IN edge arrives within pps_win of the expected second while locked. -/
  | ppsWindowExpiry
  /-- SERVO_WATCHDOG_EXPIRY (R53): No write to TT_FREQ_ADJ or TT_PHASE_ADJ arrives for wdog × 100 ms under phase_src 2. -/
  | servoWatchdogExpiry
  /-- LOCK_ACQUIRED (R58): The remaining slew falls to lock_thresh after qualification, so locked is set and TT_LOCKED raised. -/
  | lockAcquired
  /-- REFCLK_FAULT (R51): A REFCLK_TT offset or gap fault switches the time clock to the local oscillator and raises TT_FREQ_FAULT. -/
  | refclkFault
  /-- TXTS_POP (R77): A read of TT_TXTS +0x8 removes the head timestamp entry. -/
  | txtsPop (who : Initiator) (port : Nat)
  /-- LEG_BOUNDARY (R109): At a leg boundary the NRG block applies staged settings, closes the leg, credits allotments and renews the allowance. -/
  | legBoundary
  /-- BILLING_MINUTE_BOUNDARY (R72): A billing-minute boundary is reached, which is also a leg boundary. -/
  | billingMinuteBoundary
  /-- PPS_OUT_RISE (R76): PPS_OUT is driven high at each TT64 whole second when pps_out_enable is 1. -/
  | ppsOutRise
  /-- PPS_OUT_FALL (R76): PPS_OUT returns low 100 µs after the whole second. -/
  | ppsOutFall
  /-- IMON_SAMPLE (R84): Every 1 µs each IMON input is sampled and its energy added to the rail's measured energy. -/
  | imonSample (core mem io : Nat)
  /-- LEG_COMMIT (R89): Within 25 µs of the boundary the leg is split into beads and every rod and NRG_DEV_ENERGY is committed together. -/
  | legCommit
  /-- LEDGER_MINUTE_WRITE (R121): After the minute's last commit the account and trailer records are written to the host ring or backlog. -/
  | ledgerMinuteWrite
  /-- LEDGER_CONS_WRITE (R123): A write of NRG_LEDGER_CONS frees ring slots so that backlog records can enter the host ring. -/
  | ledgerConsWrite (who : Initiator) (cons : Nat)
  /-- NRG_CREDIT (R93): A write to NRG_CREDIT adds a signed delta to an account's balance at once. -/
  | nrgCredit (who : Initiator) (account delta : Nat)
  /-- SNAP_DONE (R124): A write of NRG_SNAP_SEQ.done releases the snapshot and clears ready. -/
  | snapDone (who : Initiator)
  /-- DOMAIN_IDLE_OFF (R114): A gated domain that has been idle for idle_us begins to switch off. -/
  | domainIdleOff (domain : Nat)
  /-- DOMAIN_OFF_COMPLETE (R116): The switch-off sequence of a domain reaches the off state. -/
  | domainOffComplete (domain : Nat)
  /-- DOMAIN_WAKE (R115): Work for an off domain wakes it and is delayed by the wake latency, with the wake energy charged. -/
  | domainWake (domain : Nat)
  /-- THERMAL_SAMPLE (R118): Every 10 µs the sensors are sampled and warn, throttle and critical levels start or end. -/
  | thermalSample (readings : List Nat)
  /-- DOORBELL (R143): An 8-byte doorbell write advances dev_prod, is ignored as stale or wrong-gen, or errors the queue with OVERRUN. -/
  | doorbell (fn off len value : Nat)
  /-- PUSH (R148): A 64-byte push advances dev_prod and may take the pushed copy as the entry; a torn push errors the queue. -/
  | push (fn off len image : Nat)
  /-- ARBITRATION_VISIT (R179): The arbiter decides a visit to a taking-part queue and issues a ring read of up to 2 KiB. -/
  | arbitrationVisit
  /-- FETCH_COMPLETION (R160): A ring read completes and the entries it holds are checked and accepted in ring order. -/
  | fetchCompletion (q : Nat) (ok : Bool) (data : List Byte)
  /-- PAD (R136): A PAD moves fetch_idx to the start of the ring once the producer has passed the ring end. -/
  | padEntry (q : Nat)
  /-- NOP (R157): NOP retires OK with no action. -/
  | nopEntry (q sseq : Nat)
  /-- QUEUE_CTL_START (R172): A QUEUE_CTL START takes the target queue from DISABLED or STOPPED to ACTIVE. -/
  | queueCtlStart (q sseq : Nat)
  /-- QUEUE_CTL_STOP (R172): A QUEUE_CTL STOP takes the target to STOPPING and retires once it is STOPPED. -/
  | queueCtlStop (q sseq : Nat)
  /-- QUEUE_CTL_RESET (R172): A QUEUE_CTL RESET takes a STOPPED target to DISABLED and clears its device fields. -/
  | queueCtlReset (q sseq : Nat)
  /-- QCMD_START (R190): WQ_QCMD go with action START starts the target queue. -/
  | qcmdStart (who : Initiator) (queue : Nat)
  /-- QCMD_STOP (R190): WQ_QCMD go with action STOP stops the target queue and stays busy until STOPPED. -/
  | qcmdStop (who : Initiator) (queue : Nat)
  /-- QCMD_RESET (R190): WQ_QCMD go with action RESET resets a STOPPED target to DISABLED. -/
  | qcmdReset (who : Initiator) (queue : Nat)
  /-- QUEUE_CONTEXT_WRITE (R175): A write to a queue context takes effect by field class, queue state and writer rights, or is dropped and counted. -/
  | queueContextWrite (who : Initiator) (q off len value : Nat)
  /-- GROUP_OWNER_WRITE (R187): A write to WQ_GROUP_OWNER takes effect only while every queue of the group is DISABLED. -/
  | groupOwnerWrite (who : Initiator) (group value : Nat)
  /-- WQ_ERRQ_READ (R190): A read of WQ_ERRQ returns and clears the error count. -/
  | wqErrqRead (who : Initiator)
  /-- ENTRY_FINISH (R194): An entry's outcome reaches its queue's retirement unit, which decides its status. -/
  | entryFinish (q sseq : Nat)
  /-- STATUS_BLOCK_UPDATE (R201): Within 1 µs of a change the status block is written in three stages ending with done_head. -/
  | statusBlockUpdate (q : Nat)
  /-- CONSUMER_POLL (R209): The device reads a ring's consumer word, drains the backlog and may end a stall. -/
  | consumerPoll (r : Nat) (ok : Bool) (value : Nat)
  /-- MODERATION_TIMER (R220): mod_ns passes after the first uninterrupted record and the ring sends its vector. -/
  | moderationTimer (r : Nat)
  /-- ABORT (R226): An ABORT entry matches a target entry by tag and sends an abort request to the target's retirement unit. -/
  | abortEntry (q sseq : Nat)
  /-- ABORT_REQUEST_ARRIVAL (R227): An abort request reaches the target retirement unit and the ABORT and target outcomes are decided. -/
  | abortRequestArrival (q sseq : Nat)
  /-- RING_CONTEXT_WRITE (R239): A write to a record-ring context takes effect by class, use and writer rights, or is dropped and counted. -/
  | ringContextWrite (who : Initiator) (r off len value : Nat)
  /-- CQ_STALLQ_READ (R243): A read of CQ_STALLQ returns and clears the stall count. -/
  | cqStallqRead (who : Initiator)
  /-- HURDLE (R255): A HURDLE entry holds its queue and, with use_group, takes covered sets of the group's queues. -/
  | hurdleEntry (q sseq : Nat)
  /-- HURDLE_FINISH (R260): Every covered entry has finished and become visible, so the HURDLE retires OK. -/
  | hurdleFinish (q sseq : Nat)
  /-- FLUSH_READ_COMPLETE (R249): A zero-length read on a host link completes, releasing the record or done_head write or the hurdle it guards. -/
  | flushReadComplete (link q sseq : Nat)
  /-- ABACUS_SWEEP (R270): Every period_us the abacus checks each law instance and logs newly unbalanced ones. -/
  | abacusSweep
  /-- ABACUS_LOG_READ (R282): A read of DEV_ABC_LOG +0x18 removes the oldest log entry. -/
  | abacusLogRead (who : Initiator)
  /-- DETECTION_REREAD (R895): A line whose detection code fired is read again, and on a second failure its owner recomputes it. -/
  | detectionReread (place : Detection) (pass redone : Bool)
  /-- FRAME_RECEIVE (R289): A frame arrives at a MAC, is checked, timestamped and admitted into the packet buffer or discarded. -/
  | frameReceive (port : Nat) (frame : Bytes) (corrected uncorrected : Nat)
  /-- PFC_REFRESH (R299): Half the pause time passes while paused and the port refreshes its PFC frame. -/
  | pfcRefresh (port : Nat)
  /-- PAUSE_EXPIRY (R438): A class's pause time runs out and the class may send again. -/
  | pauseExpiry (port : Nat)
  /-- LINK_CHANGE (R294): A port's link comes up or goes down, link_change is set and PP_LINK raised. -/
  | linkChange (port : Nat) (up : Bool)
  /-- PASS_ENTER (R304): In a pipeline cycle one packet takes the slot by input priority and starts its pass. -/
  | passEnter (pipe : Nat)
  /-- ESP_ENCRYPT (R603): At the cipher point an outbound ESP packet takes a count and sequence number and is encrypted and encapsulated. -/
  | espEncrypt (pipe : Nat)
  /-- ESP_DECRYPT (R604): At the cipher point an inbound ESP packet is checked, decrypted, and reparsed or dropped. -/
  | espDecrypt (pipe : Nat)
  /-- PASS_END (R327): The deparser applies edits and the packet goes to its fate: drop, slow path, recirculation, port, host or Trallasy. -/
  | passEnd (pipe : Nat)
  /-- SLOW_PATH_BATON (R343): A slow-path packet's baton is sent once its channel grants a credit, or the packet is dropped when the queue is full. -/
  | slowPathBaton (pipe : Nat)
  /-- REINJECT (R346): A reinject baton with cmd 1 returns the packet to a pipeline stage through the reinject input. -/
  | reinject (pipe : Nat)
  /-- SEND_TO_PORT (R345): A reinject baton with cmd 2 hands the packet to the traffic manager for a port. -/
  | sendToPort (pipe : Nat)
  /-- DELIVER_TO_HOST (R345): A reinject baton with cmd 3 delivers the packet to a NET_RX queue. -/
  | deliverToHost (pipe : Nat)
  /-- FREE (R344): A reinject baton with cmd 4 frees the packet's lines. -/
  | freeLines (pipe : Nat)
  /-- REINJECT_BAD (R345): A reinject baton with cmd 5 to 7 is discarded and counted in reinject_bad. -/
  | reinjectBad (pipe : Nat)
  /-- NET_SEND (R347): A NET_SEND entry reads a frame from host memory into the packet buffer for the host-transmit input. -/
  | netSend (q sseq : Nat) (ok : Bool) (frame : Bytes)
  /-- NET_POST_RX (R349): A NET_POST_RX entry posts a host buffer for received frames. -/
  | netPostRx (q sseq : Nat)
  /-- PP_ETH_MODE_WRITE (R287): A write to PP_ETH_MODE takes effect only while every port of the quad is disabled. -/
  | ppEthModeWrite (who : Initiator) (quad mode : Nat)
  /-- FLOW_COUNTER_SNAPSHOT (R359): PP_CNT_ADDR go snapshots a flow counter, clearing it when clear is 1. -/
  | flowCounterSnapshot (who : Initiator)
  /-- TABLE_VALIDATE (R369): A write of valid = 1 checks the descriptor, then sets valid and starts clearing, or sets geo_err. -/
  | tableValidate (who : Initiator) (table : Nat)
  /-- TABLE_CLEAR_DONE (R370): Clearing of every copy ends and ready is set. -/
  | tableClearDone (table : Nat)
  /-- TABLE_INVALIDATE (R371): A write of valid = 0 clears ready at once. -/
  | tableInvalidate (who : Initiator) (table : Nat)
  /-- INSERT (R386): FT_CMD INSERT adds a key or prefix to the addressed copies. -/
  | ftInsert (who : Initiator) (port : Nat)
  /-- UPDATE (R386): FT_CMD UPDATE rewrites the action and data of a present key. -/
  | ftUpdate (who : Initiator) (port : Nat)
  /-- UPSERT (R386): FT_CMD UPSERT updates a present key or inserts an absent one. -/
  | ftUpsert (who : Initiator) (port : Nat)
  /-- DELETE (R386): FT_CMD DELETE removes a key or prefix. -/
  | ftDelete (who : Initiator) (port : Nat)
  /-- LOOKUP (R386): FT_CMD LOOKUP reads back the entry of a key or exact prefix. -/
  | ftLookup (who : Initiator) (port : Nat)
  /-- READ_SLOT (R386): FT_CMD READ_SLOT reads back the entry at a bucket and slot. -/
  | ftReadSlot (who : Initiator) (port : Nat)
  /-- WRITE_RESULT (R386): FT_CMD WRITE_RESULT writes an LPM result record. -/
  | ftWriteResult (who : Initiator) (port : Nat)
  /-- TERN_WRITE (R399): FT_CMD TERN_WRITE writes a ternary entry of the table's range. -/
  | ftTernWrite (who : Initiator) (port : Nat)
  /-- TERN_READ (R386): FT_CMD TERN_READ reads back a ternary entry. -/
  | ftTernRead (who : Initiator) (port : Nat)
  /-- LEARN_APPLY (R390): The update unit takes a queued learn and inserts, refreshes or drops it. -/
  | learnApply (pipe : Nat)
  /-- STAMP_WRITE (R392): The update unit applies a stamp write when the slot still holds the key. -/
  | stampWrite (table copy : Nat)
  /-- AGE_SCAN (R394): The ager reads entries across each sweep and sends a removal for each eligible stale entry. -/
  | ageScan (table copy : Nat)
  /-- AGE_REMOVAL (R394): The update unit removes an entry that is still eligible and counts it in aged. -/
  | ageRemoval (table copy : Nat)
  /-- TABLE_AUDIT_COPY_END (R404): At the end of an audited copy the observed signature is stored and a mismatch acted on. -/
  | tableAuditCopyEnd
  /-- FT_LOST_READ (R406): A read of FT_LOST removes the head lost-entry log entry. -/
  | ftLostRead (who : Initiator)
  /-- REFILL_BOUNDARY (R423): At each refill boundary every enabled shaper gains tokens up to its depth. -/
  | refillBoundary
  /-- PORT_CHOICE (R410): A free port chooses a generated pause frame, a strict-priority class or a round-robin class and queue. -/
  | portChoice (port : Nat)
  /-- FRAME_TX_DONE (R416): A frame's last byte leaves the MAC and its lines are freed. -/
  | frameTxDone (port : Nat)
  /-- GATE_ARM (R434): A write of arm = 1 to TM_GATE_CTL arms or replaces a gate-list adoption. -/
  | gateArm (who : Initiator) (port : Nat)
  /-- GATE_ADOPTION (R434): At adopt_tt the named gate list becomes active with origin adopt_tt, or is rejected. -/
  | gateAdoption (port : Nat)
  /-- GATE_ENTRY_CHANGE (R431): The active list passes an entry boundary and the class gates change. -/
  | gateEntryChange (port : Nat)
  /-- METER_READ (R447): TM_MCMD go with write = 0 reads a meter's levels. -/
  | meterRead (who : Initiator)
  /-- METER_WRITE (R444): TM_MCMD go with write = 1 updates a meter and stores new rates and sizes. -/
  | meterWrite (who : Initiator)
  /-- TM_COUNTER_SNAPSHOT (R447): TM_CNT_ADDR go snapshots a group counter, clearing it when clear is 1. -/
  | tmCounterSnapshot (who : Initiator)
  /-- TRN_WRITE (R477): A TRN_WRITE entry sends host data as consecutive-PSN WRITE packets. -/
  | trnWrite (q sseq : Nat)
  /-- TRN_WRITE_IMM (R475): A TRN_WRITE_IMM entry sends a flagged write carrying immediate data. -/
  | trnWriteImm (q sseq : Nat)
  /-- TRN_READ (R478): A TRN_READ entry takes a read slot and sends a READ_REQ. -/
  | trnRead (q sseq : Nat)
  /-- REGION_REGISTER (R507): A REGION_REGISTER writes a region record as VALID and retires with its key. -/
  | regionRegister (q sseq : Nat)
  /-- REGION_REVOKE (R509): A REGION_REVOKE sets the region CLOSING and increments its generation. -/
  | regionRevoke (q sseq : Nat)
  /-- REGION_DRAINED (R509): in_flight of a CLOSING region reaches 0, the region becomes FREE and the revoke retires. -/
  | regionDrained (index : Nat)
  /-- PACER_ADMIT (R519): A connection's pacer has tokens for a data-stream packet, which is then sent. -/
  | pacerAdmit (conn : Nat) (ok : Bool) (data : Bytes)
  /-- TRN_PACKET_RECEIVE (R460): A Trallasy frame reaches the engine and is dropped, parked or passed to sequencing. -/
  | trnPacketReceive
  /-- WRITE_RECEIVE (R490): A WRITE packet is sequenced, key-checked and placed, acknowledged or refused. -/
  | writeReceive (conn : Nat)
  /-- WRITE_IMM_RECEIVE (R488): A WRITE_IMM packet is placed and its last packet writes a NOTIFY record. -/
  | writeImmReceive (conn : Nat)
  /-- READ_REQ_RECEIVE (R479): A READ_REQ is checked and taken up in the responder's operation order. -/
  | readReqReceive (conn : Nat)
  /-- READ_RESP_RECEIVE (R480): A READ_RESP is acknowledged and its payload placed into the read slot when it matches. -/
  | readRespReceive (conn : Nat)
  /-- ACK_RECEIVE (R495): An ACK acknowledges PSNs, may retire operations and cuts the pacer rate on echoed marks. -/
  | ackReceive (conn : Nat)
  /-- NAK_RECEIVE (R455): A NAK acknowledges PSNs and refuses a packet with a status, possibly putting the connection in ERROR. -/
  | nakReceive (conn : Nat)
  /-- RETRY_LATER_RECEIVE (R498): A RETRY_LATER suspends transmission on the connection for rl_backoff_us. -/
  | retryLaterReceive (conn : Nat)
  /-- RETRY_LATER_RESUME (R498): The backoff ends and the refused and later unacknowledged packets are retransmitted. -/
  | retryLaterResume (conn : Nat)
  /-- ACK_TIMER (R492): ack_ns passes since the first unacknowledged accepted packet and an ACK is sent. -/
  | ackTimer (conn : Nat)
  /-- RETRANSMIT_TIMEOUT (R496): The retransmission deadline passes and the sender retransmits or the connection enters ERROR. -/
  | retransmitTimeout (conn : Nat)
  /-- CONTEXT_FETCH_DONE (R515): A connection context arrives on chip and waiting entries and parked packets proceed, or parked packets drop on failure. -/
  | contextFetchDone (conn : Nat) (ok : Bool) (image : Nat)
  /-- PARK_TIMEOUT (R517): A parked packet reaches limit_ns and is dropped with RETRY_LATER. -/
  | parkTimeout
  /-- CREATE (R469): TRN_CCMD CREATE creates a connection from TRN_CCMD_CTX. -/
  | connCreate (who : Initiator) (conn : Nat)
  /-- TRN_CONN_RESET (R468): TRN_CCMD RESET frees a connection and retires its operations. -/
  | trnConnReset (who : Initiator) (conn : Nat)
  /-- TRN_CONN_READ (R470): TRN_CCMD READ copies a context snapshot into TRN_CCMD_CTX. -/
  | trnConnRead (who : Initiator) (conn : Nat)
  /-- RGN_BLOCK_WRITE (R529): A write to TRN_RGN_BLOCK takes effect only while every region of the block is FREE or FAULTED. -/
  | rgnBlockWrite (who : Initiator) (b value : Nat)
  /-- TRN_CONN_ERRQ_READ (R527): A read of TRN_CONN_ERRQ returns and clears the error count. -/
  | trnConnErrqRead (who : Initiator)
  /-- BLK_READ (R546): A BLK_READ requests staging and a backend read, then moves data to the host. -/
  | blkRead (q sseq : Nat) (ok : Bool)
  /-- BLK_WRITE (R546): A BLK_WRITE requests staging, stages host data and is dispatched to the backend. -/
  | blkWrite (q sseq : Nat) (ok : Bool) (data : Bytes)
  /-- BLK_FLUSH (R545): A BLK_FLUSH sends a FLUSH request after earlier conflicting writes. -/
  | blkFlush (q sseq : Nat)
  /-- BLK_TRIM (R539): A BLK_TRIM sends a TRIM request for a block range. -/
  | blkTrim (q sseq : Nat)
  /-- BLK_SELF_TEST (R564): A BLK_SELF_TEST runs a pattern check and VERIFY requests over the volume. -/
  | blkSelfTest (q sseq : Nat) (good : Bool)
  /-- BLK_LOG_READ (R562): A BLK_LOG_READ copies a queue's error log to host memory and may clear it. -/
  | blkLogRead (q sseq : Nat)
  /-- BLK_RESUME (R563): A BLK_RESUME returns a FROZEN queue to ACTIVE. -/
  | blkResume (q sseq : Nat)
  /-- STAGING_GRANT (R547): A staging buffer request at the head of the order is granted when space is free. -/
  | stagingGrant
  /-- STAGING_COMPLETE (R546): A BLK_WRITE's data has been moved into staging, so the command may be dispatched. -/
  | stagingComplete (q sseq : Nat)
  /-- BACKEND_DISPATCH (R550): A command free of earlier conflicts takes a credit of be_ch and its request baton is sent. -/
  | backendDispatch (q sseq : Nat)
  /-- BACKEND_REPLY (R551): A backend reply baton on reply_ch completes its command or is counted as bad or late. -/
  | backendReply
  /-- VERIFY_DISPATCH (R565): A self-test VERIFY segment is dispatched while no host command waits on the volume. -/
  | verifyDispatch (q sseq : Nat)
  /-- VOLUME_WRITE (R567): BLK_VCMD WRITE stores a volume record image. -/
  | volumeWrite (who : Initiator)
  /-- VOLUME_READ (R567): BLK_VCMD READ fills BLK_VCMD_REC with a volume record. -/
  | volumeRead (who : Initiator)
  /-- BLK_FROZENQ_READ (R567): A read of BLK_FROZENQ returns and clears the freeze count. -/
  | blkFrozenqRead (who : Initiator)
  /-- ENCRYPT (R597): A CIP_JOB ENCRYPT encrypts host data under a key slot. -/
  | encryptJob (q sseq : Nat) (ok : Bool) (text aad : Bytes)
  /-- DECRYPT (R598): A CIP_JOB DECRYPT decrypts host data, zeroing the output on tag failure. -/
  | decryptJob (q sseq : Nat) (ok : Bool) (text aad tag : Bytes)
  /-- HASH (R597): A CIP_JOB HASH computes a SHA-2 digest. -/
  | hashJob (q sseq : Nat) (ok : Bool) (text : Bytes)
  /-- MAC (R597): A CIP_JOB MAC computes an HMAC under a key slot. -/
  | macJob (q sseq : Nat) (ok : Bool) (text : Bytes)
  /-- MAC_VERIFY (R598): A CIP_JOB MAC_VERIFY checks an HMAC against the expected value. -/
  | macVerifyJob (q sseq : Nat) (ok : Bool) (text mac : Bytes)
  /-- KEY_LOAD (R576): A KEY_LOAD writes or clears a key slot in one update. -/
  | keyLoad (q sseq : Nat)
  /-- KEY_LOAD_DRAINED (R577): Every invocation bound to the old slot contents has finished and the KEY_LOAD retires. -/
  | keyLoadDrained (q sseq : Nat)
  /-- CIPHER_DISPATCH (R586): The scheduler dispatches a unit to a free core by class and round robin. -/
  | cipherDispatch
  /-- CIPHER_UNIT_DONE (R588): A cipher core finishes a unit and its output is checked. -/
  | cipherUnitDone (core : Nat) (sourceOk writeOk : Bool)
  /-- KEY_SLOT_READ (R573): CIP_KCMD READ copies a slot image without key bytes. -/
  | keySlotRead (who : Initiator)
  /-- LOWER (R584): CIP_KCMD LOWER lowers a slot's usage limit. -/
  | keyLower (who : Initiator)
  /-- KEY_BLOCK_WRITE (R612): A write to CIP_KEY_BLOCK takes effect only while every slot of the block is empty. -/
  | keyBlockWrite (who : Initiator) (block value : Nat)
  /-- CIP_KEYQ_READ (R611): A read of CIP_KEYQ removes the head key-event entry. -/
  | cipKeyqRead (who : Initiator)
  /-- DMA_COPY (R624): A DMA_COPY runs as a single MOVE on a pool channel. -/
  | dmaCopy (q sseq : Nat)
  /-- DMA_RUN_CHAIN (R625): A DMA_RUN_CHAIN runs the chain at its address on a pool channel. -/
  | dmaRunChain (q sseq : Nat)
  /-- DMA_ASSIGN (R623): A queued DMA entry is assigned to a free pool channel. -/
  | dmaAssign
  /-- CHAIN_BLOCK_FETCH_DONE (R627): A chain block fetch completes and the channel runs it, waits on own = 0, or fails. -/
  | chainBlockFetchDone (c : Nat) (ok : Bool) (data : Bytes)
  /-- LINK_POLL (R628): A WAITING channel re-reads an unowned block every poll_ns. -/
  | linkPoll (c : Nat)
  /-- END (R632): A chain END ends the chain with DONE and writes back the block. -/
  | endChain (c : Nat)
  /-- MOVE (R641): A chain MOVE copies data in segments through the funnel. -/
  | chainMove (c : Nat)
  /-- LOOP (R635): A chain LOOP repeats a slot range count times. -/
  | chainLoop (c : Nat)
  /-- DMA_WAIT_UNTIL (R636): A WAIT of kind 0 waits until a TT64. -/
  | dmaWaitUntil (c : Nat)
  /-- DMA_WAIT_DURATION (R636): A WAIT of kind 1 waits for a duration. -/
  | dmaWaitDuration (c : Nat)
  /-- DMA_WAIT_SEMAPHORE (R636): A WAIT of kind 2 waits for the channel semaphore, with an optional timeout. -/
  | dmaWaitSemaphore (c : Nat)
  /-- DMA_WAIT_EXPIRY (R636): A WAIT's time is reached, its semaphore rises above 0, or its timeout ends the chain TIMEOUT. -/
  | dmaWaitExpiry (c : Nat)
  /-- SIGNAL_WRITE (R637): A SIGNAL WRITE writes 4 bytes once earlier moves are visible. -/
  | signalWrite (c : Nat)
  /-- SIGNAL_SEM (R637): A SIGNAL SEM increments another channel's semaphore. -/
  | signalSem (c : Nat)
  /-- SIGNAL_THREAD (R637): A SIGNAL THREAD posts a DMA event to a relay thread. -/
  | signalThread (c : Nat)
  /-- SIGNAL_MSIX (R637): A SIGNAL MSIX requests an MSI-X vector of the channel's function. -/
  | signalMsix (c : Nat)
  /-- DMA_HURDLE (R633): A chain HURDLE waits until every earlier MOVE is visible. -/
  | dmaHurdle (c : Nat)
  /-- LINK (R638): A chain LINK writes back its block and fetches the next. -/
  | chainLink (c : Nat)
  /-- DMA_SEGMENT_DONE (R641): A segment's writes have been issued and the move goes on. -/
  | dmaSegmentDone (c : Nat) (data : Bytes)
  /-- DMA_SEGMENT_FAIL (R650): A segment fails, is repeated, or after retry_max halts the channel. -/
  | dmaSegmentFail (c : Nat)
  /-- VERIFY_READBACK_DONE (R648): A verify read-back completes and is compared with the source. -/
  | verifyReadbackDone (c : Nat) (ok : Bool) (data : Bytes)
  /-- START (R657): DMA_CCMD START runs a relay channel's chain. -/
  | chainStart (who : Initiator)
  /-- RESUME (R657): DMA_CCMD RESUME repeats a halted relay channel's failed segment. -/
  | chainResume (who : Initiator)
  /-- RELEASE (R657): DMA_CCMD RELEASE writes back a held block and returns the channel to IDLE. -/
  | chainRelease (who : Initiator)
  /-- DMA_CHAN_WRITE (R615): A write to DMA_CHAN mode, pf or account takes effect only while IDLE. -/
  | dmaChanWrite (who : Initiator) (c value : Nat)
  /-- DMA_HALTQ_READ (R656): A read of DMA_HALTQ returns and clears the halt count. -/
  | dmaHaltqRead (who : Initiator)
  /-- ADD (R712): ADD writes ra + rb. -/
  | add (agent rd ra rb : Nat)
  /-- SUB (R712): SUB writes ra − rb. -/
  | sub (agent rd ra rb : Nat)
  /-- AND (R712): AND writes the bitwise AND. -/
  | and (agent rd ra rb : Nat)
  /-- OR (R712): OR writes the bitwise OR. -/
  | or (agent rd ra rb : Nat)
  /-- XOR (R712): XOR writes the bitwise XOR. -/
  | xor (agent rd ra rb : Nat)
  /-- SHL (R712): SHL shifts left. -/
  | shl (agent rd ra rb : Nat)
  /-- SHR (R712): SHR shifts right with zero fill. -/
  | shr (agent rd ra rb : Nat)
  /-- SAR (R712): SAR shifts right with sign fill. -/
  | sar (agent rd ra rb : Nat)
  /-- MUL (R712): MUL writes the low 64 bits of the product. -/
  | mul (agent rd ra rb : Nat)
  /-- MULHU (R712): MULHU writes the high 64 bits of the unsigned product. -/
  | mulhu (agent rd ra rb : Nat)
  /-- MINU (R712): MINU writes the unsigned lesser value. -/
  | minu (agent rd ra rb : Nat)
  /-- MAXU (R712): MAXU writes the unsigned greater value. -/
  | maxu (agent rd ra rb : Nat)
  /-- SLT (R712): SLT compares as signed values. -/
  | slt (agent rd ra rb : Nat)
  /-- SLTU (R712): SLTU compares as unsigned values. -/
  | sltu (agent rd ra rb : Nat)
  /-- CRCC (R716): CRCC steps a CRC-32C or CRC-32 over 1 to 8 bytes. -/
  | crcc (agent rd ra rb fn : Nat)
  /-- BITS (R713): BITS applies a count, swap or sign-extension function. -/
  | bits (agent rd ra fn : Nat)
  /-- ADDI (R712): ADDI adds a sign-extended immediate. -/
  | addi (agent rd ra imm : Nat)
  /-- ANDI (R712): ANDI ANDs a zero-extended immediate. -/
  | andi (agent rd ra imm : Nat)
  /-- ORI (R712): ORI ORs a zero-extended immediate. -/
  | ori (agent rd ra imm : Nat)
  /-- XORI (R712): XORI XORs a zero-extended immediate. -/
  | xori (agent rd ra imm : Nat)
  /-- SHI (R712): SHI shifts by an immediate amount. -/
  | shi (agent rd ra imm : Nat)
  /-- SLTI (R712): SLTI compares with a signed immediate. -/
  | slti (agent rd ra imm : Nat)
  /-- MOVK (R712): MOVK inserts a 16-bit immediate into one quarter of rd. -/
  | movk (agent rd k imm : Nat)
  /-- ADDPC (R712): ADDPC writes a pc-relative address. -/
  | addpc (agent rd imm : Nat)
  /-- LDB (R717): LDB issues a 1-byte load. -/
  | ldb (agent rd ra imm : Nat)
  /-- LDH (R717): LDH issues a 2-byte load. -/
  | ldh (agent rd ra imm : Nat)
  /-- LDW (R717): LDW issues a 4-byte load. -/
  | ldw (agent rd ra imm : Nat)
  /-- LDD (R717): LDD issues an 8-byte load. -/
  | ldd (agent rd ra imm : Nat)
  /-- STB (R717): STB stores one byte. -/
  | stb (agent rs ra imm : Nat)
  /-- STH (R717): STH stores 2 bytes. -/
  | sth (agent rs ra imm : Nat)
  /-- STW (R717): STW stores 4 bytes. -/
  | stw (agent rs ra imm : Nat)
  /-- STD (R717): STD stores 8 bytes. -/
  | std (agent rs ra imm : Nat)
  /-- LDL (R718): LDL loads a 64-byte line into eight registers. -/
  | ldl (agent rd ra imm : Nat)
  /-- STL (R718): STL stores eight registers as one 64-byte line. -/
  | stl (agent rs ra imm : Nat)
  /-- AMO (R725): AMO performs an atomic read-modify-write at the line's controller. -/
  | amo (agent rd ra rb fn : Nat)
  /-- CAS (R725): CAS performs an atomic compare-and-swap. -/
  | cas (agent rd ra rb : Nat)
  /-- BEQ (R714): BEQ branches when equal. -/
  | beq (agent ra rb off : Nat)
  /-- BNE (R714): BNE branches when not equal. -/
  | bne (agent ra rb off : Nat)
  /-- BLT (R714): BLT branches on signed less-than. -/
  | blt (agent ra rb off : Nat)
  /-- BGE (R714): BGE branches on signed greater-or-equal. -/
  | bge (agent ra rb off : Nat)
  /-- BLTU (R714): BLTU branches on unsigned less-than. -/
  | bltu (agent ra rb off : Nat)
  /-- BGEU (R714): BGEU branches on unsigned greater-or-equal. -/
  | bgeu (agent ra rb off : Nat)
  /-- JAL (R714): JAL links and jumps pc-relative. -/
  | jal (agent rd off : Nat)
  /-- JALR (R715): JALR links and jumps to a register target. -/
  | jalr (agent rd ra imm : Nat)
  /-- RELAY_HURDLE (R728): The HURDLE instruction fences the thread's accesses and may discard fetched instructions. -/
  | relayHurdle (agent fn : Nat)
  /-- BSEND (R681): BSEND sends the staging area as a baton or blocks or fails without credit. -/
  | bsend (agent rd ra fn : Nat)
  /-- BRECV (R683): BRECV takes the head baton of a home channel or blocks or fails when empty. -/
  | brecv (agent rd ra fn : Nat)
  /-- WAIT (R688): WAIT sleeps until a selected event source is ready. -/
  | wait (agent rd mask : Nat)
  /-- THSET (R663): THSET sets a stopped thread's pc and arg. -/
  | thset (agent rd ra rb n : Nat)
  /-- THGO (R664): THGO starts a stopped thread. -/
  | thgo (agent rd n : Nat)
  /-- THSTOP (R665): THSTOP stops a thread at its next boundary. -/
  | thstop (agent rd n : Nat)
  /-- THEXIT (R666): THEXIT stops the issuing thread. -/
  | thexit (agent : Nat)
  /-- BRK (R745): BRK halts a relay thread or enters supervisor mode in a steward. -/
  | brk (agent imm : Nat)
  /-- SRR (R732): SRR reads a special register, clearing EVCNT. -/
  | srr (agent rd n : Nat)
  /-- SRW (R732): SRW writes a special register, such as TIMER or IEOI. -/
  | srw (agent ra n : Nat)
  /-- CALLS (R738): CALLS enters supervisor mode with a code. -/
  | calls (agent imm : Nat)
  /-- SRET (R743): SRET returns from supervisor entry. -/
  | sret (agent : Nat)
  /-- SLEEP (R744): SLEEP stops a steward until an interrupt is presented. -/
  | sleep (agent : Nat)
  /-- LOAD_RETURN (R721): A load's data returns, writing its register or raising DET_FAULT. -/
  | loadReturn (agent : Nat) (data : List Byte) (ok : Bool)
  /-- CREDIT_GRANT (R680): A channel with a free credit grants it to the next requesting sender in source order. -/
  | creditGrant (ch : Nat)
  /-- THREAD_TIMER (R689): A thread's TIMER TT64 is reached and timer_fired is set. -/
  | threadTimer (thread : Nat)
  /-- STALL_DETECT (R693): A core found stalled for cycles consecutive cycles is recorded and RELAY_STALL raised. -/
  | stallDetect (core : Nat)
  /-- RELAY_START (R706): RLY_TCMD START starts a stopped thread as THGO does. -/
  | relayStart (who : Initiator) (thread : Nat)
  /-- RELAY_STOP (R706): RLY_TCMD STOP stops a thread in any state. -/
  | relayStop (who : Initiator) (thread : Nat)
  /-- HALT (R696): RLY_TCMD HALT halts a READY or WAIT thread. -/
  | threadHalt (who : Initiator) (thread : Nat)
  /-- RELAY_RESUME (R699): RLY_TCMD RESUME returns a halted thread to READY. -/
  | relayResume (who : Initiator) (thread : Nat)
  /-- STEP (R700): RLY_TCMD STEP issues one instruction of a halted thread. -/
  | threadStep (who : Initiator) (thread : Nat)
  /-- DEBUG_READ (R701): RLY_DBG read reads a register or pc of a HALTED or FAULTED thread. -/
  | debugRead (who : Initiator) (thread reg : Nat)
  /-- DEBUG_WRITE (R701): RLY_DBG write writes a register or pc of a HALTED or FAULTED thread. -/
  | debugWrite (who : Initiator) (thread reg value : Nat)
  /-- RLY_STALLQ_READ (R705): A read of RLY_STALLQ returns and clears its count. -/
  | rlyStallqRead (who : Initiator)
  /-- RLY_FAULTQ_READ (R705): A read of RLY_FAULTQ returns and clears its count. -/
  | rlyFaultqRead (who : Initiator)
  /-- INTERRUPT_DELIVERY (R762): A steward takes its presented source at an instruction boundary and the claim stack is pushed. -/
  | interruptDelivery (k : Nat)
  /-- IEOI (R764): A write to IEOI ends the claimed interrupt, pops the stack and re-samples the source. -/
  | ieoi (k source : Nat)
  /-- IRQ_SW_SET (R759): A write to IRQ_SW_SET asserts a software source. -/
  | irqSwSet (who : Initiator) (source : Nat)
  /-- VECTOR_UNMASK (R774): Unmasking a vector whose pending bit is set launches one message. -/
  | vectorUnmask (fn vector : Nat)
  /-- PMC_READ (R782): A read samples the covered counters in address order with their stamps. -/
  | pmcRead (who : Initiator) (n k : Nat)
  /-- CONFIG_REQUEST (R790): A PCIe configuration request receives CRS until readiness, then completes normally. -/
  | configRequest (fn : Nat) (op : ConfigOp)
  /-- BAR4_ACCESS (R798): A host access to BAR4 reads or writes the GDDR6 aperture. -/
  | bar4Access (pf off len : Nat) (data : Option (List Byte))
  /-- COMPLETION_TIMEOUT (R804): A request times out, its tag is quarantined and the request is retried once. -/
  | completionTimeout (port tag : Nat)
  /-- LATE_COMPLETION (R804): A completion for a quarantined tag is discarded and frees the tag. -/
  | lateCompletion (port tag : Nat)
  /-- QUARANTINE_EXPIRY (R804): Four timeout periods after a timeout the quarantined tag becomes free. -/
  | quarantineExpiry (port tag : Nat)
  /-- BME_CLEAR (R808): A function's Bus Master Enable is cleared, its requests stop and ACTIVE queues become HALTED_BME. -/
  | bmeClear (fn : Nat)
  /-- BME_SET (R810): Bus Master Enable returns to 1 and pending unmasked vectors send once. -/
  | bmeSet (fn : Nat)
  /-- FLR_START (R812): An FLR begins: the function issues nothing more and its work ends where it stands. -/
  | flrStart (fn : Nat)
  /-- FLR_COMPLETE (R813): Once outstanding requests have ended the function's state is reset and entries retire together. -/
  | flrComplete (fn : Nat)
  /-- D3HOT_ENTRY (R815): A PF enters D3hot and behaves as with BME 0; with all PFs in D3hot GDDR6 enters self-refresh. -/
  | d3hotEntry (pf : Nat)
  /-- D0_RETURN (R816): A PF returns to D0 and GDDR6 is woken. -/
  | d0Return (pf : Nat)
  /-- PERST (R874): An assertion of PERST_N takes a port's links down and resets its functions. -/
  | perst (port : Nat) (asserted : Bool)
  /-- TRANSLATION_RESPONSE (R818): An ATS translation response fills the cache or gives a translation fault. -/
  | translationResponse (fn page target : Nat) (rd wr ok : Bool)
  /-- INVALIDATE_REQUEST (R819): An Invalidate Request stops use of matching entries. -/
  | invalidateRequest (fn itag page pages : Nat)
  /-- INVALIDATION_COMPLETION (R819): Once requests using the entries have finished the Invalidation Completion is sent. -/
  | invalidationCompletion (fn itag : Nat)
  /-- ATS_DISABLE (R820): Clearing ATS Enable discards the function's translations. -/
  | atsDisable (fn : Nat)
  /-- MAILBOX_SEQ_WRITE (R823): A sender's seq write posts a mailbox message and notifies the receiver. -/
  | mailboxSeqWrite (who : Initiator) (vf : Nat) (up : Bool) (seq : Nat)
  /-- MAILBOX_ACK_WRITE (R823): A receiver's ack write consumes the message and notifies the sender. -/
  | mailboxAckWrite (who : Initiator) (vf : Nat) (up : Bool) (ack : Nat)
  /-- MBX_MSGQ_READ (R834): A read of MBX_MSGQ removes the head VF entry. -/
  | mbxMsgqRead (who : Initiator)
  /-- FREEZE (R825): HIF_MCMD FREEZE moves a VF's queues to MIGRATING and starts draining. -/
  | freeze (who : Initiator) (p : Nat)
  /-- DRAIN_TIMEOUT (R826): drain_us passes before quiescence and unretired entries are stopped. -/
  | drainTimeout (vf : Nat)
  /-- SAVE (R828): HIF_MCMD SAVE writes a quiesced VF's blob and commit word. -/
  | save (who : Initiator) (p : Nat) (ok : Bool)
  /-- RESTORE (R830): HIF_MCMD RESTORE checks and writes a blob into a destination VF. -/
  | restore (who : Initiator) (p : Nat) (ok : Bool) (data : List Byte)
  /-- UNFREEZE (R831): HIF_MCMD UNFREEZE returns each queue to its state before the freeze. -/
  | unfreeze (who : Initiator) (p : Nat)
  /-- HIF_EVQ_READ (R832): A read of HIF_EVQ returns and clears the event count. -/
  | hifEvqRead (who : Initiator)
  /-- DEVICE_RESET (R873): A RESET_N rise, power return or reboot restarts the reset sequence and clears device state. -/
  | deviceReset (straps : Nat) (cool : Bool)
  /-- RESET_N_FALL (R957): RESET_N falls and every output is held inert. -/
  | resetNFall (railsOff : Bool)
  /-- PLL_LOCK (R875): The PLLs lock after reset and osc_ok is recorded. -/
  | pllLock
  /-- SERDES_CALIBRATED (R960): A serdes group finishes calibration and records its reference clock's presence. -/
  | serdesCalibrated (group : Nat) (present : Bool)
  /-- GDDR6_TRAINING_DONE (R877): A GDDR6 training attempt ends, passes, is retried, or marks the device failed. -/
  | gddr6TrainingDone (device : Nat) (pass : Bool)
  /-- MEMORY_INIT_DONE (R876): A memory finishes initialisation with zeros and valid detection codes. -/
  | memoryInitDone (memory : Nat)
  /-- STAGE1_RELEASE (R852): A slot passes authentication and the ROM applies configuration, measures and releases stage one. -/
  | stage1Release (slots : List (Option SlotImage))
  /-- RECOVERY_ENTRY (R865): Every boot source fails or recovery is selected, and the ROM applies recovery defaults. -/
  | recoveryEntry (slots : List (Option SlotImage))
  /-- PHASE_REQUEST (R837): A write of BOOT_CTL.phase_req changes the phase for an allowed transition. -/
  | phaseRequest (who : Initiator) (req : Nat)
  /-- REBOOT (R845): A write of BOOT_CTL.reboot starts a device reset that keeps skip. -/
  | reboot (who : Initiator) (straps : Nat)
  /-- RELAY_RELEASE (R863): BOOT_CTL.relay_release allows relay threads to start. -/
  | relayRelease (who : Initiator)
  /-- BOOT_RELEASE (R864): A BOOT_RELEASE bit releases steward s at its vector, or is rejected. -/
  | bootRelease (who : Initiator) (bits : Nat)
  /-- SVN_ADVANCE (R856): BOOT_FCMD SVN_ADVANCE blows counter bits up to value. -/
  | svnAdvance (who : Initiator) (value : Nat) (vpp : Bool)
  /-- REVOKE (R856): BOOT_FCMD REVOKE blows a key's revocation bit. -/
  | revoke (who : Initiator) (key : Nat) (vpp : Bool)
  /-- PROGRAM_HASH (R856): BOOT_FCMD PROGRAM_HASH writes a root key hash. -/
  | programHash (who : Initiator) (key : Nat) (vpp : Bool)
  /-- SET_FLAG (R856): BOOT_FCMD SET_FLAG blows the selected security flags. -/
  | setFlag (who : Initiator) (value : Nat) (vpp : Bool)
  /-- BOOT_LOCK_SET (R861): A write of 1 to a BOOT_LOCK bit hides secrets or ends fuse, measurement or debug access. -/
  | bootLockSet (who : Initiator) (bits : Nat)
  /-- MEASUREMENT_EXTEND (R862): BOOT_MEAS_CMD go extends a measurement register with BOOT_MEAS_IN. -/
  | measurementExtend (who : Initiator) (index : Nat)
  /-- RECOVERY_READ (R866): BOOT_RCV_CTL go reads a recovery image from host memory and checks it. -/
  | recoveryRead (who : Initiator) (len : Nat) (ok : Bool) (image : SlotImage)
  /-- DATA (R867): A UART DATA block appends to the recovery image. -/
  | uartData (bytes : Bytes) (crc : Nat)
  /-- UART_END (R867): A UART END block makes the ROM check the image and report the result. -/
  | uartEnd (crc : Nat) (ecdsa mldsa : Bool)
  /-- UART_ABORT (R867): A UART ABORT block discards the image. -/
  | uartAbort (crc : Nat)
  /-- MNT_START (R885): A write to MNT_START starts requested activities that conflict with nothing running. -/
  | mntStart (who : Initiator) (bits : Nat)
  /-- MNT_STOP (R889): A write to MNT_STOP ends named activities at their next step boundary. -/
  | mntStop (who : Initiator) (bits : Nat)
  /-- ACTIVITY_AUTO_START (R887): period_ms after an activity with auto_en ended, it starts or becomes PENDING. -/
  | activityAutoStart (act : Nat)
  /-- ACTIVITY_END (R889): An activity ends, end_tt is set and MNT_DONE raised; pending activities may start. -/
  | activityEnd (act fail : Nat)
  /-- SCRUB_LINE (R897): SCRUB reads a line and invokes recomputation or logs a failing line. -/
  | scrubLine (line : Nat) (bad redone : Bool)
  /-- RETRAIN_STEP (R891): Every 100 µs a G6_RETRAIN step retrains part of a GDDR6 device. -/
  | retrainStep (device : Nat) (ok : Bool)
  /-- SCRUB_LOG_READ (R899): A read of MNT_SCRUB_LOG removes the head entry. -/
  | scrubLogRead (who : Initiator)
  /-- PAIR_BLOCK_RECEIVE (R902): A link block arrives, is checked by CRC and its records taken, or it is discarded for replay. -/
  | pairBlockReceive (data : Bytes) (handover : Bool)
  /-- PAIR_LINK_UP (R903): The Unboken link comes up on alignment, FEC lock and heartbeats. -/
  | pairLinkUp
  /-- PAIR_LINK_TIMEOUT (R903): 30 µs without a valid block takes the link down. -/
  | pairLinkTimeout
  /-- HEARTBEAT_RECEIVE (R905): A partner heartbeat carries its state, epoch and configuration digest, and may fence this device. -/
  | heartbeatReceive (state epoch role : Nat) (digest : Bytes)
  /-- ALIVE_IN_CHANGE (R907): PAIR_ALIVE_IN changes level. -/
  | aliveInChange (level : Bool)
  /-- ALIVE_WATCHDOG_EXPIRY (R904): alive_wdog_us passes without PAIR_KICK and PAIR_ALIVE falls. -/
  | aliveWatchdogExpiry
  /-- PAIR_KICK (R904): A write to PAIR_KICK restarts the alive watchdog. -/
  | pairKick (who : Initiator)
  /-- DELTA_RECORD_RECEIVE (R915): A standby applies a verified next delta record and acknowledges it. -/
  | deltaRecordReceive (bytes : Bytes)
  /-- DELTA_ACK_RECEIVE (R918): A partner acknowledgement releases the publications that waited for it. -/
  | deltaAckReceive (pseq : Nat)
  /-- CHARGE_REPORT_RECEIVE (R933): A standby's charge report is subtracted from balances at the next commit. -/
  | chargeReportReceive (account beads : Nat)
  /-- HOLD_EXPIRY (R907): hold_us passes in ACTIVE_HOLD and the device goes ACTIVE_SOLO. -/
  | holdExpiry
  /-- PROMOTION_TIMER (R920): PAIR_ALIVE_IN is low for 30 µs with no block and the standby promotes. -/
  | promotionTimer
  /-- PROMOTE (R921): PAIR_CMD PROMOTE promotes a standby device. -/
  | promote (who : Initiator) (force : Bool)
  /-- HANDOVER (R922): PAIR_CMD HANDOVER drains the active device and hands work to the partner. -/
  | handover (who : Initiator)
  /-- PASS_COMPLETE (R930): The baton pass ends, status blocks are written, vector 0 is sent and the device goes ACTIVE_SOLO. -/
  | passComplete (images : List (Nat × Nat × Nat))
  /-- SMBUS_READ_TEMPERATURE (R962): SMBus command 0x01 returns the hottest temperature. -/
  | smbusReadTemperature
  /-- SMBUS_READ_POWER (R962): SMBus command 0x02 returns the last leg's device power. -/
  | smbusReadPower
  /-- SMBUS_READ_STATUS (R962): SMBus command 0x03 returns DEV_STATUS bits. -/
  | smbusReadStatus
  /-- SMBUS_READ_THERMAL (R962): SMBus command 0x04 returns thermal flags. -/
  | smbusReadThermal
  /-- SMBUS_WAKE (R817): SMBus command 0x5A with 0x01 drives WAKE_N low from D3cold. -/
  | smbusWake (data : Nat)
  /-- SLEW_END (R48): The remaining slew reaches 0, track time returns to the corrected rate and TT_STATUS.slewing clears. -/
  | slewEnd
  /-- PCIE_LINK_DOWN (R805): A host link goes down without a PERST_N assertion, returning its tags and suspending law 7. -/
  | pcieLinkDown (link : Nat)
  /-- PCIE_LINK_UP (R874): A host link finishes training and leaves Detect, so its lanes leave electrical idle and configuration requests can complete. -/
  | pcieLinkUp (link : Nat)
  /-- LANE_ALIGNMENT_LOSS (R901): An Unboken lane loses alignment and takes the pair link down at once. -/
  | laneAlignmentLoss
  /-- PMC_COUNTER_WRAP (R781): A performance counter passes 2^48 − 1, sets its PMC_OVF bit, may raise PMC_OVF and carries into a chained odd counter. -/
  | pmcCounterWrap
  /-- FABRIC_LINK_RETRAIN_END (R268): A fabric link retrained after flit replays were exhausted returns to service, and law 2 is checked for it again. -/
  | fabricLinkRetrainEnd (link : Nat)
  /-- ILLEGAL_INSTRUCTION (R711): A relay thread or steward issues a word with a reserved opcode, function or field and takes an ILLEGAL exception. -/
  | illegalInstruction (agent word : Nat)
  /-- BAD_INSTR (R639): A DMA channel reaches a chain instruction with a reserved op, a WAIT of kind 3 or a SIGNAL of kind 4 to 7, and the chain ends BAD_INSTR. -/
  | badInstr (c : Nat)
deriving DecidableEq, Repr, Inhabited

end Sys2Proof
end

