-- ==== Sys2Proof/Machine/Sha2.lean ====
section
/-! DEFINITION. The SHA-2 digests and the HMACs over them that R569 names, by FIPS 180-4 and RFC 2104 (PRESUMED: the spec names
the standards and gives their padding). -/
namespace Sys2Proof.Machine

/-! ### Constants and functions of FIPS 180-4 -/

/-- The first 64 bits of the fractional parts of the cube roots of the first 80 primes, in four parts. -/
def shaK0 : List Nat :=
  [0x428A2F98D728AE22, 0x7137449123EF65CD, 0xB5C0FBCFEC4D3B2F, 0xE9B5DBA58189DBBC, 0x3956C25BF348B538, 0x59F111F1B605D019, 0x923F82A4AF194F9B, 0xAB1C5ED5DA6D8118,
   0xD807AA98A3030242, 0x12835B0145706FBE, 0x243185BE4EE4B28C, 0x550C7DC3D5FFB4E2, 0x72BE5D74F27B896F, 0x80DEB1FE3B1696B1, 0x9BDC06A725C71235, 0xC19BF174CF692694]
/-- The second part. -/
def shaK1 : List Nat :=
  [0xE49B69C19EF14AD2, 0xEFBE4786384F25E3, 0x0FC19DC68B8CD5B5, 0x240CA1CC77AC9C65, 0x2DE92C6F592B0275, 0x4A7484AA6EA6E483, 0x5CB0A9DCBD41FBD4, 0x76F988DA831153B5,
   0x983E5152EE66DFAB, 0xA831C66D2DB43210, 0xB00327C898FB213F, 0xBF597FC7BEEF0EE4, 0xC6E00BF33DA88FC2, 0xD5A79147930AA725, 0x06CA6351E003826F, 0x142929670A0E6E70]
/-- The third part. -/
def shaK2 : List Nat :=
  [0x27B70A8546D22FFC, 0x2E1B21385C26C926, 0x4D2C6DFC5AC42AED, 0x53380D139D95B3DF, 0x650A73548BAF63DE, 0x766A0ABB3C77B2A8, 0x81C2C92E47EDAEE6, 0x92722C851482353B,
   0xA2BFE8A14CF10364, 0xA81A664BBC423001, 0xC24B8B70D0F89791, 0xC76C51A30654BE30, 0xD192E819D6EF5218, 0xD69906245565A910, 0xF40E35855771202A, 0x106AA07032BBD1B8]
/-- The fourth part. -/
def shaK3 : List Nat :=
  [0x19A4C116B8D2D0C8, 0x1E376C085141AB53, 0x2748774CDF8EEB99, 0x34B0BCB5E19B48A8, 0x391C0CB3C5C95A63, 0x4ED8AA4AE3418ACB, 0x5B9CCA4F7763E373, 0x682E6FF3D6B2B8A3,
   0x748F82EE5DEFB2FC, 0x78A5636F43172F60, 0x84C87814A1F0AB72, 0x8CC702081A6439EC, 0x90BEFFFA23631E28, 0xA4506CEBDE82BDE9, 0xBEF9A3F7B2C67915, 0xC67178F2E372532B]
/-- The last part. -/
def shaK4 : List Nat :=
  [0xCA273ECEEA26619C, 0xD186B8C721C0C207, 0xEADA7DD6CDE0EB1E, 0xF57D4F7FEE6ED178, 0x06F067AA72176FBA, 0x0A637DC5A2C898A6, 0x113F9804BEF90DAE, 0x1B710B35131C471B,
   0x28DB77F523047D84, 0x32CAAB7B40C72493, 0x3C9EBE0A15C9BEBC, 0x431D67C49C100D4C, 0x4CC5D4BECB3E42B6, 0x597F299CFC657E2A, 0x5FCB6FAB3AD6FAEC, 0x6C44198C4A475817]
/-- The round constants of SHA-384 and SHA-512. -/
def shaK : List Nat := shaK0 ++ shaK1 ++ shaK2 ++ shaK3 ++ shaK4

/-- A hash of the family: the bits of its words, its first hash value, and the amounts of its four mixing functions (the
last amount of the two small ones is a shift). -/
structure ShaKind where
  w     : Nat
  init  : List Nat
  big0  : List Nat
  big1  : List Nat
  small0 : List Nat
  small1 : List Nat
deriving DecidableEq, Repr

/-- SHA-256. -/
def sha256Kind : ShaKind :=
  ⟨32, [0x6A09E667, 0xBB67AE85, 0x3C6EF372, 0xA54FF53A, 0x510E527F, 0x9B05688C, 0x1F83D9AB, 0x5BE0CD19],
   [2, 13, 22], [6, 11, 25], [7, 18, 3], [17, 19, 10]⟩
/-- SHA-512 but for its first hash value. -/
def sha512With (init : List Nat) : ShaKind := ⟨64, init, [28, 34, 39], [14, 18, 41], [1, 8, 7], [19, 61, 6]⟩
/-- SHA-384. -/
def sha384Kind : ShaKind := sha512With
  [0xCBBB9D5DC1059ED8, 0x629A292A367CD507, 0x9159015A3070DD17, 0x152FECD8F70E5939,
   0x67332667FFC00B31, 0x8EB44A8768581511, 0xDB0C2E0D64F98FA7, 0x47B5481DBEFA4FA4]
/-- SHA-512. -/
def sha512Kind : ShaKind := sha512With
  [0x6A09E667F3BCC908, 0xBB67AE8584CAA73B, 0x3C6EF372FE94F82B, 0xA54FF53A5F1D36F1,
   0x510E527FADE682D1, 0x9B05688C2B3E6C1F, 0x1F83D9ABFB41BD6B, 0x5BE0CD19137E2179]

/-- The hash of a number: 0 SHA-256, 1 SHA-384, 2 SHA-512, as R594 numbers them. -/
def shaKind (h : Nat) : ShaKind := if h = 0 then sha256Kind else if h = 1 then sha384Kind else sha512Kind

/-- Rotation right of a word of `w` bits. -/
def rotr (w x n : Nat) : Nat := (x >>> n ||| x <<< (w - n)) % 2 ^ w

/-- A large mixing function: three rotations. -/
def shaBig (w : Nat) (l : List Nat) (x : Nat) : Nat :=
  rotr w x (nth l 0 0) ^^^ rotr w x (nth l 1 0) ^^^ rotr w x (nth l 2 0)

/-- A small mixing function: two rotations and a shift. -/
def shaSmall (w : Nat) (l : List Nat) (x : Nat) : Nat :=
  rotr w x (nth l 0 0) ^^^ rotr w x (nth l 1 0) ^^^ x >>> nth l 2 0

/-- The message schedule, the newest word first: `n` more words. -/
def shaSchedule (k : ShaKind) : Nat → List Nat → List Nat
  | 0, ws => ws
  | n + 1, ws => shaSchedule k n
      ((shaSmall k.w k.small1 (nth ws 1 0) + nth ws 6 0 + shaSmall k.w k.small0 (nth ws 14 0) + nth ws 15 0) % 2 ^ k.w :: ws)

/-- The rounds over pairs of a constant and a word of the schedule; the working variables are a to h. -/
def shaRounds (k : ShaKind) : List (Nat × Nat) → List Nat → List Nat
  | [], v => v
  | x :: xs, v =>
    let e := nth v 4 0
    let a := nth v 0 0
    let ch := (e &&& nth v 5 0) ^^^ ((2 ^ k.w - 1 - e) &&& nth v 6 0)
    let maj := (a &&& nth v 1 0) ^^^ (a &&& nth v 2 0) ^^^ (nth v 1 0 &&& nth v 2 0)
    let t := nth v 7 0 + shaBig k.w k.big1 e + ch + x.1 + x.2
    let v := [(t + shaBig k.w k.big0 a + maj) % 2 ^ k.w, a, nth v 1 0, nth v 2 0, (nth v 3 0 + t) % 2 ^ k.w, e, nth v 5 0,
      nth v 6 0]
    shaRounds k xs v

/-- The words of `w` bits of some bytes, in network byte order. -/
def shaWords (w : Nat) : Nat → Bytes → List Nat
  | 0, _ => []
  | n + 1, bs => ofBe (bs.take (w / 8)) :: shaWords w n (bs.drop (w / 8))

/-- The eight words of a hash value as one number, the first in the highest place, and back. -/
def shaPack (w : Nat) (v : List Nat) : Nat := v.foldl (fun x y => x <<< w + y) 0
/-- Word `i` of a hash value. -/
def shaUnpack (w x : Nat) : List Nat := (List.range 8).map fun i => (x >>> (w * (7 - i))) % 2 ^ w

/-- The constants cut to the words of a hash. -/
def shaConsts (k : ShaKind) : List Nat := if k.w = 32 then (shaK.take 64).map (· >>> 32) else shaK

/-- The hash value after one block of 16 words. -/
def shaBlock (k : ShaKind) (bs : Bytes) (x : Nat) : Nat :=
  let v := shaUnpack k.w x
  let ks := shaConsts k
  let ws := (shaSchedule k (ks.length - 16) (shaWords k.w 16 bs).reverse).reverse
  shaPack k.w (List.zipWith (fun a b => (a + b) % 2 ^ k.w) v (shaRounds k (ks.zip ws) v))

/-- The hash value after `n` blocks.  The match on the hash value has no effect but that it is evaluated block by block. -/
def shaBlocks (k : ShaKind) : Nat → Bytes → Nat → Nat
  | 0, _, x => x
  | n + 1, bs, 0 => shaBlocks k n (bs.drop (2 * k.w)) (shaBlock k (bs.take (2 * k.w)) 0)
  | n + 1, bs, x + 1 => shaBlocks k n (bs.drop (2 * k.w)) (shaBlock k (bs.take (2 * k.w)) (x + 1))

/-- The padding of a message of some bytes for blocks of `b` bytes: a 1 bit, zeros, and the length in bits. -/
def shaPad (b len : Nat) : Bytes :=
  0x80 :: List.replicate ((2 * b - 1 - b / 8 - len % b) % b) 0 ++ beBytes (b / 8) (len * 8)

/-- A SHA-2 digest: 0 SHA-256, 1 SHA-384, 2 SHA-512. -/
def sha2 (h : Nat) (bs : Bytes) : Bytes :=
  let k := shaKind h
  let b := 2 * k.w
  let m := bs ++ shaPad b bs.length
  let x := shaBlocks k (m.length / b) m (shaPack k.w k.init)
  (beBytes (k.w) x).take (if h = 1 then 48 else k.w)

/-- An HMAC over a hash of the family under a key. -/
def hmac (h : Nat) (key bs : Bytes) : Bytes :=
  let b := 2 * (shaKind h).w
  let k := fitBytes b (if b < key.length then sha2 h key else key)
  let with_ (p : Byte) (m : Bytes) := sha2 h (k.map (fun x => x ^^^ p) ++ m)
  with_ 0x5C (with_ 0x36 bs)

end Sys2Proof.Machine
end

