-- ==== Sys2Proof/Machine/Ciphers.lean ====
section
/-! DEFINITION. The ciphers that R569 names: AES (FIPS 197) in the modes GCM (NIST SP 800-38D) and XTS (IEEE 1619), and
ChaCha20-Poly1305 (RFC 8439); PRESUMED, since the spec names these standards and does not repeat them. -/
namespace Sys2Proof.Machine

/-! ### AES (FIPS 197) -/

/-- The substitution table, 32 bytes in each number, byte 0 in its lowest place. -/
def aesSub : List Nat :=
  [0xC072A49CAFA2D4ADF04759FA7DC982CA76ABD7FE2B670130C56F6BF27B777C63,
   0x75B227EBE28012079A059618C323C7041531D871F1E5A534CCF73F362693FDB7,
   0xCF584C4A39BECB6A5BB1FC20ED00D153842FE329B3D63B52A05A6E1B1A2C8309,
   0xD2F3FF1021DAB6BCF5389D928F40A351A89F3C507F02F94585334D43FBAAEFD0,
   0xDB0B5EDE14B8EE4688902A22DC4F816073195D643D7EA7C41744975FEC130CCD,
   0x08AE7A65EAF4566CA94ED58D6D37C8E779E4959162ACD3C25C2406490A3A32E0,
   0x9E1DC186B95735610EF6034866B53E708A8BBD4B1F74DDE8C6B4A61C2E2578BA,
   0x16BB54B00F2D99416842E6BF0D89A18CDF2855CEE9871E9B948ED9691198F8E1]
/-- The inverse substitution table. -/
def aesInvSub : List Nat :=
  [0xCBE9DEC444438E3487FF2F9B8239E37CFBD7F3819EA340BF38A53630D56A0952,
   0x25D18B6D49A25B76B224D92866A12E084EC3FA420B954CEE3D23C2A632947B54,
   0x849D8DA75746155EDAB9EDFD5048706C92B6655DCC5CA4D41698688664F6F872,
   0x6B8A130103BDAFC1020F3FCA8F1E2CD00645B3B80558E4F70AD3BC8C00ABD890,
   0x6EDF751CE837F9E28535ADE72274AC9673E6B4F0CECFF297EADC674F4111913A,
   0xF45ACD78FEC0DB9A2079D2C64B3E56FC1BBE18AA0E62B76F89C5291D711AF147,
   0xEF9CC9939F7AE52D0D4AB519A97F51605FEC8027591012B131C7078833A8DD1F,
   0x7D0C2155631469E126D677BA7E042B17619953833CBBEBC8B0F52AAE4D3BE0A0]
/-- A byte looked up in a substitution table. -/
def aesLookup (t : List Nat) (x : Nat) : Nat := bitsAt (nth t (x / 32) 0) (8 * (x % 32)) 8

/-- Multiplication by x of a byte of the field of FIPS 197. -/
def aesTimes2 (x : Nat) : Nat := if x < 128 then 2 * x else (2 * x) % 256 ^^^ 0x1B
/-- Multiplication of a byte of the field by a number of four bits. -/
def aesTimes (c x : Nat) : Nat :=
  let x2 := aesTimes2 x
  let x4 := aesTimes2 x2
  let x8 := aesTimes2 x4
  (if c.testBit 0 then x else 0) ^^^ (if c.testBit 1 then x2 else 0) ^^^ (if c.testBit 2 then x4 else 0)
    ^^^ (if c.testBit 3 then x8 else 0)

/-- The key schedule, the newest word first: `n` more words of a schedule whose next word has number `i`. -/
def aesExpand (nk : Nat) : Nat → Nat → Nat → List (List Nat) → List (List Nat)
  | 0, _, _, ws => ws
  | n + 1, i, rcon, ws =>
    let last := nth ws 0 []
    let sub := last.map (aesLookup aesSub)
    let (x, rcon) :=
      if i % nk = 0 then (match sub with
        | a :: rest => (match rest ++ [a] with
          | b :: more => (b ^^^ rcon) :: more
          | [] => [], aesTimes2 rcon)
        | [] => ([], rcon))
      else if 6 < nk ∧ i % nk = 4 then (sub, rcon)
      else (last, rcon)
    aesExpand nk n (i + 1) rcon (List.zipWith (fun a b => a ^^^ b) (nth ws (nk - 1) []) x :: ws)

/-- Some bytes as lists of `n`. -/
def chunks (n : Nat) : Nat → List Nat → List (List Nat)
  | 0, _ => []
  | k + 1, xs => xs.take n :: chunks n k (xs.drop n)

/-- The round keys of an AES key, the first round's first. -/
def aesKeys (key : Bytes) : List (List Nat) :=
  let nk := key.length / 4
  let ws := aesExpand nk (4 * (nk + 7) - nk) nk 1 (chunks 4 nk (key.map (·.toNat))).reverse
  chunks 16 (nk + 7) (ws.reverse.flatMap fun w => w)

/-- Exclusive or of two lists. -/
def xors (a b : List Nat) : List Nat := List.zipWith (fun x y => x ^^^ y) a b

/-- The rows shifted: byte `i` of the result is byte `5 i` of the state. -/
def aesShift (v : List Nat) : List Nat := (List.range 16).map fun i => nth v (5 * i % 16) 0
/-- The rows shifted back. -/
def aesUnshift (v : List Nat) : List Nat := (List.range 16).map fun i => nth v (13 * i % 16) 0

/-- The columns mixed by the coefficients `c`. -/
def aesMix (c v : List Nat) : List Nat := (List.range 16).map fun i =>
  (List.range 4).foldl (fun r j => r ^^^ aesTimes (nth c j 0) (nth v (i / 4 * 4 + (i + j) % 4) 0)) 0

/-- The rounds of encryption after the first key is added. -/
def aesRounds : List (List Nat) → List Nat → List Nat
  | [], v => v
  | [k], v => xors (aesShift (v.map (aesLookup aesSub))) k
  | k :: ks, v => aesRounds ks (xors (aesMix [2, 3, 1, 1] (aesShift (v.map (aesLookup aesSub)))) k)

/-- The rounds of decryption after the last key is added. -/
def aesInvRounds : List (List Nat) → List Nat → List Nat
  | [], v => v
  | [k], v => xors ((aesUnshift v).map (aesLookup aesInvSub)) k
  | k :: ks, v => aesInvRounds ks (aesMix [14, 11, 13, 9] (xors ((aesUnshift v).map (aesLookup aesInvSub)) k))

/-- One block encrypted under some round keys. -/
def aesBlock (ks : List (List Nat)) (v : List Nat) : List Nat := match ks with
  | [] => v
  | k :: ks => aesRounds ks (xors v k)
/-- One block decrypted. -/
def aesUnblock (ks : List (List Nat)) (v : List Nat) : List Nat := match ks.reverse with
  | [] => v
  | k :: ks => aesInvRounds ks (xors v k)

/-! ### GCM -/

/-- One step for each bit of the multiplier, the highest first, of the product in the field of GHASH. -/
def ghashStep (y : Nat) : Nat → Nat → Nat → Nat
  | 0, _, z => z
  | n + 1, v, z =>
    ghashStep y n (if v.testBit 0 then v >>> 1 ^^^ 0xE1 <<< 120 else v >>> 1) (if y.testBit n then z ^^^ v else z)

/-- GHASH over `n` blocks from the value `y`; the matches have no effect but that it is evaluated block by block. -/
def ghash (h : Nat) : Nat → Bytes → Nat → Nat
  | 0, _, y => y
  | n + 1, bs, 0 => ghash h n (bs.drop 16) (ghashStep (ofBe (bs.take 16)) 128 h 0)
  | n + 1, bs, y + 1 => ghash h n (bs.drop 16) (ghashStep ((y + 1) ^^^ ofBe (bs.take 16)) 128 h 0)

/-- Zeros that fill the last block of 16. -/
def pad16 (bs : Bytes) : Bytes := bs ++ List.replicate ((16 - bs.length % 16) % 16) 0

/-- The key stream of `n` blocks that a block function of a counter gives, cut to a text and added to it. -/
def addStream (f : Nat → Bytes) : Nat → Nat → Nat → Bytes → Bytes
  | _, 0, _, _ => []
  | size, n + 1, i, bs =>
    List.zipWith (fun a b => a ^^^ b) bs (f i) ++ addStream f size n (i + 1) (bs.drop size)

/-- The encrypted counter block of GCM. -/
def gcmBlock (ks : List (List Nat)) (nonce : Bytes) (i : Nat) : Bytes :=
  (aesBlock ks ((fitBytes 12 nonce ++ beBytes 4 i).map (·.toNat))).map (BitVec.ofNat 8 ·)

/-- The text of GCM, encrypted or decrypted. -/
def gcmText (key nonce text : Bytes) : Bytes :=
  addStream (gcmBlock (aesKeys key) nonce) 16 (ceilDiv text.length 16) 2 text

/-- The tag of GCM. -/
def gcmTag (key nonce aad cipher : Bytes) : Bytes :=
  let ks := aesKeys key
  let h := ofBe ((aesBlock ks (List.replicate 16 0)).map (BitVec.ofNat 8 ·))
  let m := pad16 aad ++ pad16 cipher ++ beBytes 8 (8 * aad.length) ++ beBytes 8 (8 * cipher.length)
  List.zipWith (fun a b => a ^^^ b) (beBytes 16 (ghash h (m.length / 16) m 0)) (gcmBlock ks nonce 1)

/-! ### ChaCha20 and Poly1305 -/

/-- Rotation left of a word of 32 bits. -/
def rotl32 (x n : Nat) : Nat := (x <<< n ||| x >>> (32 - n)) % 2 ^ 32

/-- The quarter round on four words at places of the state. -/
def chachaQuarter (v : List Nat) (a b c d : Nat) : List Nat :=
  let add (v : List Nat) (i j k n : Nat) : List Nat :=
    let x := (nth v i 0 + nth v j 0) % 2 ^ 32
    (v.set i x).set k (rotl32 (nth v k 0 ^^^ x) n)
  add (add (add (add v a b d 16) c d b 12) a b d 8) c d b 7

/-- Double rounds of ChaCha20. -/
def chachaRounds : Nat → List Nat → List Nat
  | 0, v => v
  | n + 1, v =>
    let q := fun (v : List Nat) (i : Nat × Nat × Nat × Nat) => chachaQuarter v i.1 i.2.1 i.2.2.1 i.2.2.2
    chachaRounds n ([(0, 4, 8, 12), (1, 5, 9, 13), (2, 6, 10, 14), (3, 7, 11, 15), (0, 5, 10, 15), (1, 6, 11, 12), (2, 7, 8, 13),
      (3, 4, 9, 14)].foldl q v)

/-- Words of 32 bits of some bytes, little-endian. -/
def leWords : Nat → Bytes → List Nat
  | 0, _ => []
  | n + 1, bs => ofLe (bs.take 4) :: leWords n (bs.drop 4)

/-- The key stream block of a counter. -/
def chachaBlock (key nonce : Bytes) (i : Nat) : Bytes :=
  let v := [0x61707865, 0x3320646E, 0x79622D32, 0x6B206574] ++ leWords 8 key ++ [i % 2 ^ 32] ++ leWords 3 nonce
  (List.zipWith (fun a b => (a + b) % 2 ^ 32) v (chachaRounds 10 v)).flatMap (leBytes 4)

/-- The text of ChaCha20, encrypted or decrypted. -/
def chachaText (key nonce text : Bytes) : Bytes := addStream (chachaBlock key nonce) 64 (ceilDiv text.length 64) 1 text

/-- The accumulator of Poly1305 after `n` blocks; the matches have no effect but that it is evaluated block by block. -/
def polyBlocks (r : Nat) : Nat → Bytes → Nat → Nat
  | 0, _, a => a
  | n + 1, bs, 0 => polyBlocks r n (bs.drop 16) (ofLe (bs.take 16 ++ [1]) * r % (2 ^ 130 - 5))
  | n + 1, bs, a + 1 => polyBlocks r n (bs.drop 16) ((a + 1 + ofLe (bs.take 16 ++ [1])) * r % (2 ^ 130 - 5))

/-- The tag of ChaCha20-Poly1305. -/
def polyTag (key nonce aad cipher : Bytes) : Bytes :=
  let k := chachaBlock key nonce 0
  let r := ofLe (k.take 16) &&& 0x0FFFFFFC0FFFFFFC0FFFFFFC0FFFFFFF
  let m := pad16 aad ++ pad16 cipher ++ leBytes 8 aad.length ++ leBytes 8 cipher.length
  leBytes 16 (polyBlocks r (m.length / 16) m 0 + ofLe (slice k 16 16))

/-! ### The AEAD modes of R569 -/

/-- The text of an AEAD mode encrypted; decryption is the same function. -/
def aeadText (mode : Nat) (key nonce text : Bytes) : Bytes :=
  if mode = 5 then chachaText key nonce text else gcmText key nonce text
/-- The 16-byte tag of an AEAD mode. -/
def aeadTag (mode : Nat) (key nonce aad cipher : Bytes) : Bytes :=
  if mode = 5 then polyTag key nonce aad cipher else gcmTag key nonce aad cipher

/-! ### XTS -/

/-- The tweak of the next block. -/
def xtsNext (t : Nat) : Nat := if t.testBit 127 then (2 * t) % 2 ^ 128 ^^^ 0x87 else 2 * t

/-- One block of XTS: a block function between two additions of the tweak. -/
def xtsBlock (f : List Nat → List Nat) (t : Nat) (bs : Bytes) : Bytes :=
  let w := (leBytes 16 t).map (·.toNat)
  (xors (f (xors (bs.map (·.toNat)) w)) w).map (BitVec.ofNat 8 ·)

/-- The blocks of a data unit of 16 bytes or more, the last partial one with ciphertext stealing: decryption uses the
last two tweaks in the other order. -/
def xtsBlocks (f : List Nat → List Nat) (dec : Bool) : Nat → Nat → Bytes → Bytes
  | 0, _, _ => []
  | n + 1, t, bs =>
    if bs.length < 16 then []
    else if bs.length % 16 = 0 ∨ 32 ≤ bs.length then
      xtsBlock f t (bs.take 16) ++ xtsBlocks f dec n (xtsNext t) (bs.drop 16)
    else
      let rest := bs.drop 16
      let x := xtsBlock f (if dec then xtsNext t else t) (bs.take 16)
      xtsBlock f (if dec then t else xtsNext t) (rest ++ x.drop rest.length) ++ x.take rest.length

/-- A data unit of XTS under key 1 and the tweak encrypted under key 2. -/
def xtsData (enc : Bool) (key : Bytes) (tweak : Nat) (text : Bytes) : Bytes :=
  let h := key.length / 2
  let ks := aesKeys (key.take h)
  let t := aesBlock (aesKeys (key.drop h)) ((leBytes 16 tweak).map (·.toNat))
  xtsBlocks (if enc then aesBlock ks else aesUnblock ks) (!enc) (ceilDiv text.length 16) (ofLe (t.map (BitVec.ofNat 8 ·))) text

end Sys2Proof.Machine
end

