-- ==== Sys2Proof/Config.lean ====
section
/-! DEFINITION. What the spec leaves open as a value, as constants without a body: nothing can be proved about a value of theirs, so a claim holds whatever they are. -/
namespace Sys2Proof.Config

/-- A value that the spec leaves undefined, drawn fresh by a counter of the state. -/
opaque freeValue : Nat → Nat

/-- A byte that the spec leaves undefined, drawn fresh by a counter of the state. -/
opaque freeByte : Nat → Byte

/-- The credit allotment of a fabric link (law 2 of R268), which the spec does not give. -/
opaque linkCredits : Nat → Nat

/-- Bytes that a boot flash holds beyond the 64 MiB that it must hold (chapter Boot, images and keys). -/
opaque flashExtra : Nat

end Sys2Proof.Config
end

