-- ==== Sys2Proof/Machine/RegsCore.lean ====
section
/-! DEFINITION. The register fields of the blocks DEV, TT, NRG, IRQ, PMC, BOOT, MNT, PAIR, transcribed from the register
tables of their chapters (DEV: R876-R883, R282; TT: R77; NRG: R126-R128; IRQ: R787; PMC: R788; BOOT: R871; MNT: R899; PAIR: R935). -/
namespace Sys2Proof.Machine

/-! ### DEV -/

/-- DEV_STATUS.hw_ready (R876-R883, R282). -/
def DEV_STATUS.hw_ready : Desc := ⟨.dev, 0x00010020, 1, 0x0, 1, 0x0, 0, 1, .ro, .fixed, 0, false⟩
/-- DEV_STATUS.fw_ready (R876-R883, R282). -/
def DEV_STATUS.fw_ready : Desc := ⟨.dev, 0x00010020, 1, 0x0, 1, 0x0, 1, 1, .ro, .fixed, 0, false⟩
/-- DEV_STATUS.hw_fault (R876-R883, R282). -/
def DEV_STATUS.hw_fault : Desc := ⟨.dev, 0x00010020, 1, 0x0, 1, 0x0, 2, 1, .ro, .fixed, 0, false⟩
/-- DEV_STATUS.crs (R876-R883, R282). -/
def DEV_STATUS.crs : Desc := ⟨.dev, 0x00010020, 1, 0x0, 1, 0x0, 3, 1, .ro, .fixed, 1, false⟩
/-- DEV_STATUS.g6_fail (R876-R883, R282). -/
def DEV_STATUS.g6_fail : Desc := ⟨.dev, 0x00010020, 1, 0x0, 1, 0x0, 4, 12, .ro, .fixed, 0, false⟩
/-- DEV_STATUS.ready_us (R876-R883, R282). -/
def DEV_STATUS.ready_us : Desc := ⟨.dev, 0x00010020, 1, 0x0, 1, 0x0, 32, 32, .ro, .fixed, 0, false⟩
/-- DEV_RESET_CAUSE.cause (R876-R883, R282). -/
def DEV_RESET_CAUSE.cause : Desc := ⟨.dev, 0x00010028, 1, 0x0, 1, 0x0, 0, 2, .ro, .fixed, 0, false⟩
/-- DEV_CTL.fw_ready (R876-R883, R282). -/
def DEV_CTL.fw_ready : Desc := ⟨.dev, 0x00010030, 1, 0x0, 1, 0x0, 0, 1, .w1s, .live, 0, false⟩
/-- DEV_CLK_STAT.osc_ok (R876-R883, R282). -/
def DEV_CLK_STAT.osc_ok : Desc := ⟨.dev, 0x00010038, 1, 0x0, 1, 0x0, 0, 1, .ro, .fixed, 0, false⟩
/-- DEV_CLK_STAT.pcie0 (R876-R883, R282). -/
def DEV_CLK_STAT.pcie0 : Desc := ⟨.dev, 0x00010038, 1, 0x0, 1, 0x0, 1, 1, .ro, .fixed, 0, false⟩
/-- DEV_CLK_STAT.pcie1 (R876-R883, R282). -/
def DEV_CLK_STAT.pcie1 : Desc := ⟨.dev, 0x00010038, 1, 0x0, 1, 0x0, 2, 1, .ro, .fixed, 0, false⟩
/-- DEV_CLK_STAT.eth0 (R876-R883, R282). -/
def DEV_CLK_STAT.eth0 : Desc := ⟨.dev, 0x00010038, 1, 0x0, 1, 0x0, 3, 1, .ro, .fixed, 0, false⟩
/-- DEV_CLK_STAT.eth1 (R876-R883, R282). -/
def DEV_CLK_STAT.eth1 : Desc := ⟨.dev, 0x00010038, 1, 0x0, 1, 0x0, 4, 1, .ro, .fixed, 0, false⟩
/-- DEV_CLK_STAT.pair (R876-R883, R282). -/
def DEV_CLK_STAT.pair : Desc := ⟨.dev, 0x00010038, 1, 0x0, 1, 0x0, 5, 1, .ro, .fixed, 0, false⟩
/-- DEV_CLK_STAT.refclk_tt (R876-R883, R282). -/
def DEV_CLK_STAT.refclk_tt : Desc := ⟨.dev, 0x00010038, 1, 0x0, 1, 0x0, 6, 1, .ro, .fixed, 0, false⟩
/-- DEV_STRAP.boot_src (R876-R883, R282). -/
def DEV_STRAP.boot_src : Desc := ⟨.dev, 0x00010040, 1, 0x0, 1, 0x0, 0, 3, .ro, .fixed, 0, false⟩
/-- DEV_STRAP.bifur0 (R876-R883, R282). -/
def DEV_STRAP.bifur0 : Desc := ⟨.dev, 0x00010040, 1, 0x0, 1, 0x0, 3, 2, .ro, .fixed, 0, false⟩
/-- DEV_STRAP.bifur1 (R876-R883, R282). -/
def DEV_STRAP.bifur1 : Desc := ⟨.dev, 0x00010040, 1, 0x0, 1, 0x0, 5, 2, .ro, .fixed, 0, false⟩
/-- DEV_STRAP.g6_vddq_sel (R876-R883, R282). -/
def DEV_STRAP.g6_vddq_sel : Desc := ⟨.dev, 0x00010040, 1, 0x0, 1, 0x0, 7, 1, .ro, .fixed, 0, false⟩
/-- DEV_ABC_CTL.law_en (R876-R883, R282). -/
def DEV_ABC_CTL.law_en : Desc := ⟨.dev, 0x00014000, 1, 0x0, 1, 0x0, 0, 9, .rw, .live, 511, false⟩
/-- DEV_ABC_CTL.period_us (R876-R883, R282). -/
def DEV_ABC_CTL.period_us : Desc := ⟨.dev, 0x00014000, 1, 0x0, 1, 0x0, 16, 16, .rw, .live, 100, false⟩
/-- DEV_ABC_COUNT.count (R876-R883, R282). -/
def DEV_ABC_COUNT.count : Desc := ⟨.dev, 0x00014040, 9, 0x8, 1, 0x0, 0, 64, .ro, .fixed, 0, false⟩
/-- DEV_ABC_LOG_STAT.held (R876-R883, R282). -/
def DEV_ABC_LOG_STAT.held : Desc := ⟨.dev, 0x000140A0, 1, 0x0, 1, 0x0, 0, 5, .ro, .fixed, 0, false⟩
/-- DEV_ABC_LOG_STAT.lost (R876-R883, R282). -/
def DEV_ABC_LOG_STAT.lost : Desc := ⟨.dev, 0x000140A0, 1, 0x0, 1, 0x0, 16, 16, .w1c, .live, 0, false⟩
/-- DEV_ABC_LOG.law (R876-R883, R282). -/
def DEV_ABC_LOG.law : Desc := ⟨.dev, 0x00014100, 1, 0x0, 1, 0x0, 0, 4, .ro, .fixed, 0, false⟩
/-- DEV_ABC_LOG.instance (R876-R883, R282). -/
def DEV_ABC_LOG.instance : Desc := ⟨.dev, 0x00014100, 1, 0x0, 1, 0x0, 8, 24, .ro, .fixed, 0, false⟩
/-- DEV_ABC_LOG.expected (R876-R883, R282). -/
def DEV_ABC_LOG.expected : Desc := ⟨.dev, 0x00014100, 1, 0x0, 1, 0x0, 64, 64, .ro, .fixed, 0, false⟩
/-- DEV_ABC_LOG.observed (R876-R883, R282). -/
def DEV_ABC_LOG.observed : Desc := ⟨.dev, 0x00014100, 1, 0x0, 1, 0x0, 128, 64, .ro, .fixed, 0, false⟩
/-- DEV_ABC_LOG.tt (R876-R883, R282). -/
def DEV_ABC_LOG.tt : Desc := ⟨.dev, 0x00014100, 1, 0x0, 1, 0x0, 192, 64, .ro, .fixed, 0, false⟩
/-- DEV_DET_COUNT.recomputed (R876-R883, R282). -/
def DEV_DET_COUNT.recomputed : Desc := ⟨.dev, 0x00014200, 1, 0x0, 1, 0x0, 0, 48, .ro, .fixed, 0, false⟩
/-- DEV_DET_COUNT.failed (R876-R883, R282). -/
def DEV_DET_COUNT.failed : Desc := ⟨.dev, 0x00014200, 1, 0x0, 1, 0x0, 48, 16, .ro, .fixed, 0, false⟩

/-- Fields of DEV, piece 0. -/
def devFields0 : List Desc :=
  [DEV_STATUS.hw_ready, DEV_STATUS.fw_ready, DEV_STATUS.hw_fault, DEV_STATUS.crs,
   DEV_STATUS.g6_fail, DEV_STATUS.ready_us, DEV_RESET_CAUSE.cause, DEV_CTL.fw_ready,
   DEV_CLK_STAT.osc_ok, DEV_CLK_STAT.pcie0, DEV_CLK_STAT.pcie1, DEV_CLK_STAT.eth0,
   DEV_CLK_STAT.eth1, DEV_CLK_STAT.pair, DEV_CLK_STAT.refclk_tt, DEV_STRAP.boot_src]

/-- Fields of DEV, piece 1. -/
def devFields1 : List Desc :=
  [DEV_STRAP.bifur0, DEV_STRAP.bifur1, DEV_STRAP.g6_vddq_sel, DEV_ABC_CTL.law_en,
   DEV_ABC_CTL.period_us, DEV_ABC_COUNT.count, DEV_ABC_LOG_STAT.held, DEV_ABC_LOG_STAT.lost,
   DEV_ABC_LOG.law, DEV_ABC_LOG.instance, DEV_ABC_LOG.expected, DEV_ABC_LOG.observed,
   DEV_ABC_LOG.tt, DEV_DET_COUNT.recomputed, DEV_DET_COUNT.failed]

/-- The fields of DEV beside the common registers. -/
def devFields : List Desc :=
  devFields0 ++ devFields1

/-! ### TT -/

/-- TT_NOW.tt64 (R77). -/
def TT_NOW.tt64 : Desc := ⟨.tt, 0x00100020, 1, 0x0, 1, 0x0, 0, 64, .ro, .fixed, 0, false⟩
/-- TT_NOW_FRAC.frac (R77). -/
def TT_NOW_FRAC.frac : Desc := ⟨.tt, 0x00100028, 1, 0x0, 1, 0x0, 0, 16, .ro, .fixed, 0, false⟩
/-- TT_CTL.phase_src (R77). -/
def TT_CTL.phase_src : Desc := ⟨.tt, 0x00100030, 1, 0x0, 1, 0x0, 0, 2, .rw, .staged, 0, false⟩
/-- TT_CTL.freq_src (R77). -/
def TT_CTL.freq_src : Desc := ⟨.tt, 0x00100030, 1, 0x0, 1, 0x0, 2, 1, .rw, .staged, 0, false⟩
/-- TT_CTL.refclk_25 (R77). -/
def TT_CTL.refclk_25 : Desc := ⟨.tt, 0x00100030, 1, 0x0, 1, 0x0, 3, 1, .rw, .static, 0, false⟩
/-- TT_CTL.step_enable (R77). -/
def TT_CTL.step_enable : Desc := ⟨.tt, 0x00100030, 1, 0x0, 1, 0x0, 4, 1, .rw, .live, 0, false⟩
/-- TT_CTL.pps_out_enable (R77). -/
def TT_CTL.pps_out_enable : Desc := ⟨.tt, 0x00100030, 1, 0x0, 1, 0x0, 5, 1, .rw, .live, 0, false⟩
/-- TT_STATUS.valid (R77). -/
def TT_STATUS.valid : Desc := ⟨.tt, 0x00100038, 1, 0x0, 1, 0x0, 0, 1, .ro, .fixed, 0, false⟩
/-- TT_STATUS.locked (R77). -/
def TT_STATUS.locked : Desc := ⟨.tt, 0x00100038, 1, 0x0, 1, 0x0, 1, 1, .ro, .fixed, 0, false⟩
/-- TT_STATUS.holdover (R77). -/
def TT_STATUS.holdover : Desc := ⟨.tt, 0x00100038, 1, 0x0, 1, 0x0, 2, 1, .ro, .fixed, 0, false⟩
/-- TT_STATUS.slewing (R77). -/
def TT_STATUS.slewing : Desc := ⟨.tt, 0x00100038, 1, 0x0, 1, 0x0, 3, 1, .ro, .fixed, 0, false⟩
/-- TT_STATUS.pps_missing (R77). -/
def TT_STATUS.pps_missing : Desc := ⟨.tt, 0x00100038, 1, 0x0, 1, 0x0, 4, 1, .w1c, .live, 0, false⟩
/-- TT_STATUS.freq_fault (R77). -/
def TT_STATUS.freq_fault : Desc := ⟨.tt, 0x00100038, 1, 0x0, 1, 0x0, 5, 1, .w1c, .live, 0, false⟩
/-- TT_STATUS.step_refused (R77). -/
def TT_STATUS.step_refused : Desc := ⟨.tt, 0x00100038, 1, 0x0, 1, 0x0, 6, 1, .w1c, .live, 0, false⟩
/-- TT_HOLD_TT.tt64 (R77). -/
def TT_HOLD_TT.tt64 : Desc := ⟨.tt, 0x00100040, 1, 0x0, 1, 0x0, 0, 64, .ro, .fixed, 0, false⟩
/-- TT_FREQ_ADJ.adj (R77). -/
def TT_FREQ_ADJ.adj : Desc := ⟨.tt, 0x00100048, 1, 0x0, 1, 0x0, 0, 32, .rw, .live, 0, true⟩
/-- TT_PHASE_ADJ.slew_ns (R77). -/
def TT_PHASE_ADJ.slew_ns : Desc := ⟨.tt, 0x00100050, 1, 0x0, 1, 0x0, 0, 32, .rw, .live, 0, true⟩
/-- TT_SLEW.max_ppm (R77). -/
def TT_SLEW.max_ppm : Desc := ⟨.tt, 0x00100058, 1, 0x0, 1, 0x0, 0, 16, .rw, .live, 100, false⟩
/-- TT_STEP.delta (R77). -/
def TT_STEP.delta : Desc := ⟨.tt, 0x00100060, 1, 0x0, 1, 0x0, 0, 32, .wo, .live, 0, true⟩
/-- TT_LOAD.tt64 (R77). -/
def TT_LOAD.tt64 : Desc := ⟨.tt, 0x00100068, 1, 0x0, 1, 0x0, 0, 64, .wo, .live, 0, true⟩
/-- TT_PPS_CAP.tt64 (R77). -/
def TT_PPS_CAP.tt64 : Desc := ⟨.tt, 0x00100070, 1, 0x0, 1, 0x0, 0, 64, .ro, .fixed, 0, false⟩
/-- TT_PPS_CAP_FRAC.frac (R77). -/
def TT_PPS_CAP_FRAC.frac : Desc := ⟨.tt, 0x00100078, 1, 0x0, 1, 0x0, 0, 16, .ro, .fixed, 0, false⟩
/-- TT_QUAL.pps_win (R77). -/
def TT_QUAL.pps_win : Desc := ⟨.tt, 0x00100080, 1, 0x0, 1, 0x0, 0, 16, .rw, .live, 1000, false⟩
/-- TT_QUAL.qual_count (R77). -/
def TT_QUAL.qual_count : Desc := ⟨.tt, 0x00100080, 1, 0x0, 1, 0x0, 16, 4, .rw, .live, 3, false⟩
/-- TT_QUAL.lock_thresh (R77). -/
def TT_QUAL.lock_thresh : Desc := ⟨.tt, 0x00100080, 1, 0x0, 1, 0x0, 20, 12, .rw, .live, 50, false⟩
/-- TT_SERVO.ptp_locked (R77). -/
def TT_SERVO.ptp_locked : Desc := ⟨.tt, 0x00100088, 1, 0x0, 1, 0x0, 0, 1, .rw, .live, 0, true⟩
/-- TT_SERVO.wdog (R77). -/
def TT_SERVO.wdog : Desc := ⟨.tt, 0x00100088, 1, 0x0, 1, 0x0, 16, 16, .rw, .live, 40, false⟩
/-- TT_LEG_LEN.leg_us (R77). -/
def TT_LEG_LEN.leg_us : Desc := ⟨.tt, 0x00100090, 1, 0x0, 1, 0x0, 0, 14, .rw, .staged, 1000, false⟩
/-- TT_LEG_START.start (R77). -/
def TT_LEG_START.start : Desc := ⟨.tt, 0x00100098, 1, 0x0, 1, 0x0, 0, 48, .ro, .fixed, 0, false⟩
/-- TT_LEG_START.crossed (R77). -/
def TT_LEG_START.crossed : Desc := ⟨.tt, 0x00100098, 1, 0x0, 1, 0x0, 48, 16, .ro, .fixed, 1, false⟩
/-- TT_PORT_LAT.rx_lat (R77). -/
def TT_PORT_LAT.rx_lat : Desc := ⟨.tt, 0x00100100, 16, 0x8, 1, 0x0, 0, 16, .rw, .staged, 0, false⟩
/-- TT_PORT_LAT.tx_lat (R77). -/
def TT_PORT_LAT.tx_lat : Desc := ⟨.tt, 0x00100100, 16, 0x8, 1, 0x0, 16, 16, .rw, .staged, 0, false⟩
/-- TT_PORT_LAT.one_step (R77). -/
def TT_PORT_LAT.one_step : Desc := ⟨.tt, 0x00100100, 16, 0x8, 1, 0x0, 32, 1, .rw, .staged, 0, false⟩
/-- TT_TXTS.tt64 (R77). -/
def TT_TXTS.tt64 : Desc := ⟨.tt, 0x00100200, 16, 0x10, 1, 0x0, 0, 64, .ro, .fixed, 0, false⟩
/-- TT_TXTS.frac (R77). -/
def TT_TXTS.frac : Desc := ⟨.tt, 0x00100200, 16, 0x10, 1, 0x0, 64, 16, .ro, .fixed, 0, false⟩
/-- TT_TXTS.seq_id (R77). -/
def TT_TXTS.seq_id : Desc := ⟨.tt, 0x00100200, 16, 0x10, 1, 0x0, 80, 16, .ro, .fixed, 0, false⟩
/-- TT_TXTS.entry_valid (R77). -/
def TT_TXTS.entry_valid : Desc := ⟨.tt, 0x00100200, 16, 0x10, 1, 0x0, 96, 1, .ro, .fixed, 0, false⟩
/-- TT_TXTS_STAT.count (R77). -/
def TT_TXTS_STAT.count : Desc := ⟨.tt, 0x00100300, 16, 0x8, 1, 0x0, 0, 7, .ro, .fixed, 0, false⟩
/-- TT_TXTS_STAT.overflow (R77). -/
def TT_TXTS_STAT.overflow : Desc := ⟨.tt, 0x00100300, 16, 0x8, 1, 0x0, 7, 1, .w1c, .live, 0, false⟩

/-- Fields of TT, piece 0. -/
def ttFields0 : List Desc :=
  [TT_NOW.tt64, TT_NOW_FRAC.frac, TT_CTL.phase_src, TT_CTL.freq_src,
   TT_CTL.refclk_25, TT_CTL.step_enable, TT_CTL.pps_out_enable, TT_STATUS.valid,
   TT_STATUS.locked, TT_STATUS.holdover, TT_STATUS.slewing, TT_STATUS.pps_missing,
   TT_STATUS.freq_fault, TT_STATUS.step_refused, TT_HOLD_TT.tt64, TT_FREQ_ADJ.adj]

/-- Fields of TT, piece 1. -/
def ttFields1 : List Desc :=
  [TT_PHASE_ADJ.slew_ns, TT_SLEW.max_ppm, TT_STEP.delta, TT_LOAD.tt64,
   TT_PPS_CAP.tt64, TT_PPS_CAP_FRAC.frac, TT_QUAL.pps_win, TT_QUAL.qual_count,
   TT_QUAL.lock_thresh, TT_SERVO.ptp_locked, TT_SERVO.wdog, TT_LEG_LEN.leg_us,
   TT_LEG_START.start, TT_LEG_START.crossed, TT_PORT_LAT.rx_lat, TT_PORT_LAT.tx_lat]

/-- Fields of TT, piece 2. -/
def ttFields2 : List Desc :=
  [TT_PORT_LAT.one_step, TT_TXTS.tt64, TT_TXTS.frac, TT_TXTS.seq_id,
   TT_TXTS.entry_valid, TT_TXTS_STAT.count, TT_TXTS_STAT.overflow]

/-- The fields of TT beside the common registers. -/
def ttFields : List Desc :=
  ttFields0 ++ ttFields1 ++ ttFields2

/-! ### NRG -/

/-- NRG_CTL.gate_rly (R126-R128). -/
def NRG_CTL.gate_rly : Desc := ⟨.nrg, 0x00200020, 1, 0x0, 1, 0x0, 0, 1, .rw, .live, 1, false⟩
/-- NRG_CTL.gate_cip (R126-R128). -/
def NRG_CTL.gate_cip : Desc := ⟨.nrg, 0x00200020, 1, 0x0, 1, 0x0, 1, 1, .rw, .live, 1, false⟩
/-- NRG_CTL.ledger_en (R126-R128). -/
def NRG_CTL.ledger_en : Desc := ⟨.nrg, 0x00200020, 1, 0x0, 1, 0x0, 2, 1, .rw, .live, 0, false⟩
/-- NRG_CTL.snap_en (R126-R128). -/
def NRG_CTL.snap_en : Desc := ⟨.nrg, 0x00200020, 1, 0x0, 1, 0x0, 3, 1, .rw, .live, 0, false⟩
/-- NRG_STATUS.est_only (R126-R128). -/
def NRG_STATUS.est_only : Desc := ⟨.nrg, 0x00200028, 1, 0x0, 1, 0x0, 0, 3, .ro, .fixed, 0, false⟩
/-- NRG_STATUS.clamp (R126-R128). -/
def NRG_STATUS.clamp : Desc := ⟨.nrg, 0x00200028, 1, 0x0, 1, 0x0, 3, 3, .w1c, .live, 0, false⟩
/-- NRG_STATUS.allow_spent (R126-R128). -/
def NRG_STATUS.allow_spent : Desc := ⟨.nrg, 0x00200028, 1, 0x0, 1, 0x0, 6, 1, .ro, .fixed, 0, false⟩
/-- NRG_STATUS.warn (R126-R128). -/
def NRG_STATUS.warn : Desc := ⟨.nrg, 0x00200028, 1, 0x0, 1, 0x0, 7, 1, .ro, .fixed, 0, false⟩
/-- NRG_STATUS.throttle (R126-R128). -/
def NRG_STATUS.throttle : Desc := ⟨.nrg, 0x00200028, 1, 0x0, 1, 0x0, 8, 1, .ro, .fixed, 0, false⟩
/-- NRG_STATUS.critical (R126-R128). -/
def NRG_STATUS.critical : Desc := ⟨.nrg, 0x00200028, 1, 0x0, 1, 0x0, 9, 1, .ro, .fixed, 0, false⟩
/-- NRG_STATUS.trip_prior (R126-R128). -/
def NRG_STATUS.trip_prior : Desc := ⟨.nrg, 0x00200028, 1, 0x0, 1, 0x0, 10, 1, .ro, .fixed, 0, false⟩
/-- NRG_STATUS.ledger_overflow (R126-R128). -/
def NRG_STATUS.ledger_overflow : Desc := ⟨.nrg, 0x00200028, 1, 0x0, 1, 0x0, 11, 1, .w1c, .live, 0, false⟩
/-- NRG_STATUS.snap_missed (R126-R128). -/
def NRG_STATUS.snap_missed : Desc := ⟨.nrg, 0x00200028, 1, 0x0, 1, 0x0, 12, 1, .w1c, .live, 0, false⟩
/-- NRG_DEV_ENERGY.beads (R126-R128). -/
def NRG_DEV_ENERGY.beads : Desc := ⟨.nrg, 0x00200030, 1, 0x0, 1, 0x0, 0, 64, .rw, .static, 0, false⟩
/-- NRG_LEG_SEQ.seq (R126-R128). -/
def NRG_LEG_SEQ.seq : Desc := ⟨.nrg, 0x00200038, 1, 0x0, 1, 0x0, 0, 64, .ro, .fixed, 0, false⟩
/-- NRG_ALLOW.cap_mw (R126-R128). -/
def NRG_ALLOW.cap_mw : Desc := ⟨.nrg, 0x00200040, 1, 0x0, 1, 0x0, 0, 20, .rw, .staged, 300000, false⟩
/-- NRG_ALLOW_USED.used (R126-R128). -/
def NRG_ALLOW_USED.used : Desc := ⟨.nrg, 0x00200048, 1, 0x0, 1, 0x0, 0, 32, .ro, .fixed, 0, false⟩
/-- NRG_ALLOW_USED.debt (R126-R128). -/
def NRG_ALLOW_USED.debt : Desc := ⟨.nrg, 0x00200048, 1, 0x0, 1, 0x0, 32, 32, .ro, .fixed, 0, false⟩
/-- NRG_CREDIT.account (R126-R128). -/
def NRG_CREDIT.account : Desc := ⟨.nrg, 0x00200050, 1, 0x0, 1, 0x0, 0, 12, .wo, .live, 0, true⟩
/-- NRG_CREDIT.delta (R126-R128). -/
def NRG_CREDIT.delta : Desc := ⟨.nrg, 0x00200050, 1, 0x0, 1, 0x0, 16, 48, .wo, .live, 0, true⟩
/-- NRG_RAIL.fs_ma (R126-R128). -/
def NRG_RAIL.fs_ma : Desc := ⟨.nrg, 0x00200080, 3, 0x8, 1, 0x0, 0, 20, .rw, .staged, 0, false⟩
/-- NRG_RAIL.v_mv (R126-R128). -/
def NRG_RAIL.v_mv : Desc := ⟨.nrg, 0x00200080, 3, 0x8, 1, 0x0, 20, 16, .rw, .staged, 0, false⟩
/-- NRG_RAIL.avs (R126-R128). -/
def NRG_RAIL.avs : Desc := ⟨.nrg, 0x00200080, 1, 0x0, 1, 0x0, 36, 1, .rw, .staged, 0, false⟩
/-- NRG_RAIL_LEG.beads (R126-R128). -/
def NRG_RAIL_LEG.beads : Desc := ⟨.nrg, 0x002000A0, 3, 0x8, 1, 0x0, 0, 48, .ro, .fixed, 0, false⟩
/-- NRG_RAIL_LEG.k (R126-R128). -/
def NRG_RAIL_LEG.k : Desc := ⟨.nrg, 0x002000A0, 3, 0x8, 1, 0x0, 48, 16, .ro, .fixed, 4096, false⟩
/-- NRG_GATE.idle_us (R126-R128). -/
def NRG_GATE.idle_us : Desc := ⟨.nrg, 0x00200100, 1, 0x0, 1, 0x0, 0, 16, .rw, .live, 50, false⟩
/-- NRG_DOM_ON.on (R126-R128). -/
def NRG_DOM_ON.on : Desc := ⟨.nrg, 0x00200108, 1, 0x0, 1, 0x0, 0, 120, .ro, .fixed, 0xfffffffffffffffffffffffffff, false⟩
/-- NRG_WAKES.count (R126-R128). -/
def NRG_WAKES.count : Desc := ⟨.nrg, 0x00200118, 1, 0x0, 1, 0x0, 0, 64, .ro, .fixed, 0, false⟩
/-- NRG_THERM.warn_c (R126-R128). -/
def NRG_THERM.warn_c : Desc := ⟨.nrg, 0x00200140, 1, 0x0, 1, 0x0, 0, 8, .rw, .staged, 95, false⟩
/-- NRG_THERM.throttle_c (R126-R128). -/
def NRG_THERM.throttle_c : Desc := ⟨.nrg, 0x00200140, 1, 0x0, 1, 0x0, 8, 8, .rw, .staged, 100, false⟩
/-- NRG_THERM.throttle_pct (R126-R128). -/
def NRG_THERM.throttle_pct : Desc := ⟨.nrg, 0x00200140, 1, 0x0, 1, 0x0, 16, 7, .rw, .staged, 50, false⟩
/-- NRG_THERM_STAT.max_c (R126-R128). -/
def NRG_THERM_STAT.max_c : Desc := ⟨.nrg, 0x00200148, 1, 0x0, 1, 0x0, 0, 8, .ro, .fixed, 0, false⟩
/-- NRG_THERM_STAT.hottest (R126-R128). -/
def NRG_THERM_STAT.hottest : Desc := ⟨.nrg, 0x00200148, 1, 0x0, 1, 0x0, 8, 5, .ro, .fixed, 0, false⟩
/-- NRG_LEDGER_BASE.addr (R126-R128). -/
def NRG_LEDGER_BASE.addr : Desc := ⟨.nrg, 0x00200200, 1, 0x0, 1, 0x0, 0, 64, .rw, .static, 0, false⟩
/-- NRG_LEDGER_CFG.log2_slots (R126-R128). -/
def NRG_LEDGER_CFG.log2_slots : Desc := ⟨.nrg, 0x00200208, 1, 0x0, 1, 0x0, 0, 5, .rw, .static, 13, false⟩
/-- NRG_LEDGER_CFG.pf (R126-R128). -/
def NRG_LEDGER_CFG.pf : Desc := ⟨.nrg, 0x00200208, 1, 0x0, 1, 0x0, 5, 3, .rw, .static, 0, false⟩
/-- NRG_LEDGER_CFG.vector (R126-R128). -/
def NRG_LEDGER_CFG.vector : Desc := ⟨.nrg, 0x00200208, 1, 0x0, 1, 0x0, 16, 11, .rw, .static, 0, false⟩
/-- NRG_LEDGER_PROD.prod (R126-R128). -/
def NRG_LEDGER_PROD.prod : Desc := ⟨.nrg, 0x00200210, 1, 0x0, 1, 0x0, 0, 32, .ro, .fixed, 0, false⟩
/-- NRG_LEDGER_CONS.cons (R126-R128). -/
def NRG_LEDGER_CONS.cons : Desc := ⟨.nrg, 0x00200218, 1, 0x0, 1, 0x0, 0, 32, .rw, .live, 0, true⟩
/-- NRG_SNAP_SEQ.seq (R126-R128). -/
def NRG_SNAP_SEQ.seq : Desc := ⟨.nrg, 0x00200240, 1, 0x0, 1, 0x0, 0, 32, .ro, .fixed, 0, false⟩
/-- NRG_SNAP_SEQ.ready (R126-R128). -/
def NRG_SNAP_SEQ.ready : Desc := ⟨.nrg, 0x00200240, 1, 0x0, 1, 0x0, 32, 1, .ro, .fixed, 0, false⟩
/-- NRG_SNAP_SEQ.done (R126-R128). -/
def NRG_SNAP_SEQ.done : Desc := ⟨.nrg, 0x00200240, 1, 0x0, 1, 0x0, 33, 1, .wo, .live, 0, true⟩
/-- NRG_SNAP_SEQ.missed (R126-R128). -/
def NRG_SNAP_SEQ.missed : Desc := ⟨.nrg, 0x00200240, 1, 0x0, 1, 0x0, 34, 16, .ro, .fixed, 0, false⟩
/-- NRG_SENSOR.temp_q (R126-R128). -/
def NRG_SENSOR.temp_q : Desc := ⟨.nrg, 0x00200300, 24, 0x8, 1, 0x0, 0, 12, .ro, .fixed, 0, false⟩
/-- NRG_COEF.coef (R126-R128). -/
def NRG_COEF.coef : Desc := ⟨.nrg, 0x00201000, 7, 0x40, 5, 0x8, 0, 32, .rw, .staged, 0, false⟩
/-- NRG_SNAP.consumed (R126-R128). -/
def NRG_SNAP.consumed : Desc := ⟨.nrg, 0x00240000, 4096, 0x10, 1, 0x0, 0, 64, .ro, .fixed, 0, false⟩
/-- NRG_SNAP.balance (R126-R128). -/
def NRG_SNAP.balance : Desc := ⟨.nrg, 0x00240000, 4096, 0x10, 1, 0x0, 64, 64, .ro, .fixed, 0, false⟩
/-- NRG_ROD.consumed (R126-R128). -/
def NRG_ROD.consumed : Desc := ⟨.nrg, 0x00280000, 4096, 0x40, 1, 0x0, 0, 64, .rw, .static, 0, false⟩
/-- NRG_ROD.balance (R126-R128). -/
def NRG_ROD.balance : Desc := ⟨.nrg, 0x00280000, 4096, 0x40, 1, 0x0, 64, 64, .rw, .static, 0, false⟩
/-- NRG_ROD.allot (R126-R128). -/
def NRG_ROD.allot : Desc := ⟨.nrg, 0x00280000, 4096, 0x40, 1, 0x0, 128, 32, .rw, .live, 0, false⟩
/-- NRG_ROD.overdraft (R126-R128). -/
def NRG_ROD.overdraft : Desc := ⟨.nrg, 0x00280000, 4096, 0x40, 1, 0x0, 160, 32, .rw, .live, 0, false⟩
/-- NRG_ROD.burst_cap (R126-R128). -/
def NRG_ROD.burst_cap : Desc := ⟨.nrg, 0x00280000, 4096, 0x40, 1, 0x0, 192, 64, .rw, .live, 0, false⟩
/-- NRG_ROD.enable (R126-R128). -/
def NRG_ROD.enable : Desc := ⟨.nrg, 0x00280000, 4096, 0x40, 1, 0x0, 256, 1, .rw, .live, 0, false⟩
/-- NRG_ROD.guaranteed (R126-R128). -/
def NRG_ROD.guaranteed : Desc := ⟨.nrg, 0x00280000, 4096, 0x40, 1, 0x0, 257, 1, .rw, .live, 0, false⟩
/-- NRG_ROD.policy (R126-R128). -/
def NRG_ROD.policy : Desc := ⟨.nrg, 0x00280000, 4096, 0x40, 1, 0x0, 258, 1, .rw, .live, 0, false⟩
/-- NRG_ROD.has_budget (R126-R128). -/
def NRG_ROD.has_budget : Desc := ⟨.nrg, 0x00280000, 4096, 0x40, 1, 0x0, 259, 1, .ro, .fixed, 0, false⟩
/-- NRG_ROD.leg_est (R126-R128). -/
def NRG_ROD.leg_est : Desc := ⟨.nrg, 0x00280000, 4096, 0x40, 1, 0x0, 320, 64, .ro, .fixed, 0, false⟩
/-- NRG_ROD.minute_beads (R126-R128). -/
def NRG_ROD.minute_beads : Desc := ⟨.nrg, 0x00280000, 4096, 0x40, 1, 0x0, 384, 64, .ro, .fixed, 0, false⟩

/-- Fields of NRG, piece 0. -/
def nrgFields0 : List Desc :=
  [NRG_CTL.gate_rly, NRG_CTL.gate_cip, NRG_CTL.ledger_en, NRG_CTL.snap_en,
   NRG_STATUS.est_only, NRG_STATUS.clamp, NRG_STATUS.allow_spent, NRG_STATUS.warn,
   NRG_STATUS.throttle, NRG_STATUS.critical, NRG_STATUS.trip_prior, NRG_STATUS.ledger_overflow,
   NRG_STATUS.snap_missed, NRG_DEV_ENERGY.beads, NRG_LEG_SEQ.seq, NRG_ALLOW.cap_mw]

/-- Fields of NRG, piece 1. -/
def nrgFields1 : List Desc :=
  [NRG_ALLOW_USED.used, NRG_ALLOW_USED.debt, NRG_CREDIT.account, NRG_CREDIT.delta,
   NRG_RAIL.fs_ma, NRG_RAIL.v_mv, NRG_RAIL.avs, NRG_RAIL_LEG.beads,
   NRG_RAIL_LEG.k, NRG_GATE.idle_us, NRG_DOM_ON.on, NRG_WAKES.count,
   NRG_THERM.warn_c, NRG_THERM.throttle_c, NRG_THERM.throttle_pct, NRG_THERM_STAT.max_c]

/-- Fields of NRG, piece 2. -/
def nrgFields2 : List Desc :=
  [NRG_THERM_STAT.hottest, NRG_LEDGER_BASE.addr, NRG_LEDGER_CFG.log2_slots, NRG_LEDGER_CFG.pf,
   NRG_LEDGER_CFG.vector, NRG_LEDGER_PROD.prod, NRG_LEDGER_CONS.cons, NRG_SNAP_SEQ.seq,
   NRG_SNAP_SEQ.ready, NRG_SNAP_SEQ.done, NRG_SNAP_SEQ.missed, NRG_SENSOR.temp_q,
   NRG_COEF.coef, NRG_SNAP.consumed, NRG_SNAP.balance, NRG_ROD.consumed]

/-- Fields of NRG, piece 3. -/
def nrgFields3 : List Desc :=
  [NRG_ROD.balance, NRG_ROD.allot, NRG_ROD.overdraft, NRG_ROD.burst_cap,
   NRG_ROD.enable, NRG_ROD.guaranteed, NRG_ROD.policy, NRG_ROD.has_budget,
   NRG_ROD.leg_est, NRG_ROD.minute_beads]

/-- The fields of NRG beside the common registers. -/
def nrgFields : List Desc :=
  nrgFields0 ++ nrgFields1 ++ nrgFields2 ++ nrgFields3

/-! ### IRQ -/

/-- IRQ_CTL.global_en (R787). -/
def IRQ_CTL.global_en : Desc := ⟨.irq, 0x00D00020, 1, 0x0, 1, 0x0, 0, 1, .rw, .live, 0, false⟩
/-- IRQ_STAT.eoi_bad (R787). -/
def IRQ_STAT.eoi_bad : Desc := ⟨.irq, 0x00D00028, 1, 0x0, 1, 0x0, 0, 4, .w1c, .live, 0, false⟩
/-- IRQ_MSIX_BAD.count (R787). -/
def IRQ_MSIX_BAD.count : Desc := ⟨.irq, 0x00D00030, 1, 0x0, 1, 0x0, 0, 64, .ro, .fixed, 0, false⟩
/-- IRQ_SW_SET.source (R787). -/
def IRQ_SW_SET.source : Desc := ⟨.irq, 0x00D00038, 1, 0x0, 1, 0x0, 0, 10, .wo, .live, 0, true⟩
/-- IRQ_SRC.priority (R787). -/
def IRQ_SRC.priority : Desc := ⟨.irq, 0x00D01000, 1024, 0x8, 1, 0x0, 0, 4, .rw, .live, 0, false⟩
/-- IRQ_SRC.dest (R787). -/
def IRQ_SRC.dest : Desc := ⟨.irq, 0x00D01000, 1024, 0x8, 1, 0x0, 4, 3, .rw, .live, 0, false⟩
/-- IRQ_SRC.vector (R787). -/
def IRQ_SRC.vector : Desc := ⟨.irq, 0x00D01000, 1024, 0x8, 1, 0x0, 8, 11, .rw, .live, 0, false⟩
/-- IRQ_SRC.asserted (R787). -/
def IRQ_SRC.asserted : Desc := ⟨.irq, 0x00D01000, 1024, 0x8, 1, 0x0, 32, 1, .w1c, .live, 0, false⟩
/-- IRQ_SRC.claimed (R787). -/
def IRQ_SRC.claimed : Desc := ⟨.irq, 0x00D01000, 1024, 0x8, 1, 0x0, 33, 1, .ro, .fixed, 0, false⟩

/-- Fields of IRQ, piece 0. -/
def irqFields0 : List Desc :=
  [IRQ_CTL.global_en, IRQ_STAT.eoi_bad, IRQ_MSIX_BAD.count, IRQ_SW_SET.source,
   IRQ_SRC.priority, IRQ_SRC.dest, IRQ_SRC.vector, IRQ_SRC.asserted,
   IRQ_SRC.claimed]

/-- The fields of IRQ beside the common registers. -/
def irqFields : List Desc :=
  irqFields0

/-! ### PMC -/

/-- PMC_OVF.ovf (R788). -/
def PMC_OVF.ovf : Desc := ⟨.pmc, 0x00E00020, 1, 0x0, 1, 0x0, 0, 32, .w1c, .live, 0, false⟩
/-- PMC_SEL.event (R788). -/
def PMC_SEL.event : Desc := ⟨.pmc, 0x00E01000, 32, 0x8, 1, 0x0, 0, 12, .rw, .staged, 0, false⟩
/-- PMC_SEL.instance (R788). -/
def PMC_SEL.instance : Desc := ⟨.pmc, 0x00E01000, 32, 0x8, 1, 0x0, 16, 12, .rw, .staged, 4095, false⟩
/-- PMC_SEL.account (R788). -/
def PMC_SEL.account : Desc := ⟨.pmc, 0x00E01000, 32, 0x8, 1, 0x0, 28, 12, .rw, .staged, 0, false⟩
/-- PMC_SEL.acct_en (R788). -/
def PMC_SEL.acct_en : Desc := ⟨.pmc, 0x00E01000, 32, 0x8, 1, 0x0, 40, 1, .rw, .staged, 0, false⟩
/-- PMC_SEL.chain (R788). -/
def PMC_SEL.chain : Desc := ⟨.pmc, 0x00E01000, 32, 0x8, 1, 0x0, 41, 1, .rw, .staged, 0, false⟩
/-- PMC_SEL.enable (R788). -/
def PMC_SEL.enable : Desc := ⟨.pmc, 0x00E01000, 32, 0x8, 1, 0x0, 42, 1, .rw, .staged, 0, false⟩
/-- PMC_SEL.ovf_irq (R788). -/
def PMC_SEL.ovf_irq : Desc := ⟨.pmc, 0x00E01000, 32, 0x8, 1, 0x0, 43, 1, .rw, .staged, 0, false⟩
/-- PMC_CNT.count (R788). -/
def PMC_CNT.count : Desc := ⟨.pmc, 0x00E02000, 32, 0x8, 1, 0x0, 0, 48, .rw, .live, 0, false⟩
/-- PMC_CNT.stamp (R788). -/
def PMC_CNT.stamp : Desc := ⟨.pmc, 0x00E02000, 32, 0x8, 1, 0x0, 48, 16, .ro, .fixed, 0, false⟩

/-- Fields of PMC, piece 0. -/
def pmcFields0 : List Desc :=
  [PMC_OVF.ovf, PMC_SEL.event, PMC_SEL.instance, PMC_SEL.account,
   PMC_SEL.acct_en, PMC_SEL.chain, PMC_SEL.enable, PMC_SEL.ovf_irq,
   PMC_CNT.count, PMC_CNT.stamp]

/-- The fields of PMC beside the common registers. -/
def pmcFields : List Desc :=
  pmcFields0

/-! ### BOOT -/

/-- BOOT_STATUS.phase (R871). -/
def BOOT_STATUS.phase : Desc := ⟨.boot, 0x00F00020, 1, 0x0, 1, 0x0, 0, 3, .ro, .fixed, 0, false⟩
/-- BOOT_STATUS.source (R871). -/
def BOOT_STATUS.source : Desc := ⟨.boot, 0x00F00020, 1, 0x0, 1, 0x0, 3, 3, .ro, .fixed, 7, false⟩
/-- BOOT_STATUS.slot (R871). -/
def BOOT_STATUS.slot : Desc := ⟨.boot, 0x00F00020, 1, 0x0, 1, 0x0, 6, 1, .ro, .fixed, 0, false⟩
/-- BOOT_STATUS.svn (R871). -/
def BOOT_STATUS.svn : Desc := ⟨.boot, 0x00F00020, 1, 0x0, 1, 0x0, 8, 8, .ro, .fixed, 0, false⟩
/-- BOOT_STATUS.key_index (R871). -/
def BOOT_STATUS.key_index : Desc := ⟨.boot, 0x00F00020, 1, 0x0, 1, 0x0, 16, 2, .ro, .fixed, 0, false⟩
/-- BOOT_STATUS.seq (R871). -/
def BOOT_STATUS.seq : Desc := ⟨.boot, 0x00F00020, 1, 0x0, 1, 0x0, 32, 32, .ro, .fixed, 0, false⟩
/-- BOOT_CTL.phase_req (R871). -/
def BOOT_CTL.phase_req : Desc := ⟨.boot, 0x00F00028, 1, 0x0, 1, 0x0, 0, 3, .wo, .live, 0, true⟩
/-- BOOT_CTL.reboot (R871). -/
def BOOT_CTL.reboot : Desc := ⟨.boot, 0x00F00028, 1, 0x0, 1, 0x0, 3, 1, .wo, .live, 0, true⟩
/-- BOOT_CTL.relay_release (R871). -/
def BOOT_CTL.relay_release : Desc := ⟨.boot, 0x00F00028, 1, 0x0, 1, 0x0, 4, 1, .w1s, .live, 0, true⟩
/-- BOOT_CTL.skip (R871). -/
def BOOT_CTL.skip : Desc := ⟨.boot, 0x00F00028, 1, 0x0, 1, 0x0, 8, 4, .rw, .live, 0, false⟩
/-- BOOT_ATTEMPT.code (R871). -/
def BOOT_ATTEMPT.code : Desc := ⟨.boot, 0x00F00040, 4, 0x8, 1, 0x0, 0, 8, .ro, .fixed, 0, false⟩
/-- BOOT_ATTEMPT.seq (R871). -/
def BOOT_ATTEMPT.seq : Desc := ⟨.boot, 0x00F00040, 4, 0x8, 1, 0x0, 32, 32, .ro, .fixed, 0, false⟩
/-- BOOT_FUSE_STAT.svn_count (R871). -/
def BOOT_FUSE_STAT.svn_count : Desc := ⟨.boot, 0x00F00060, 1, 0x0, 1, 0x0, 0, 8, .ro, .fixed, 0, false⟩
/-- BOOT_FUSE_STAT.programmed (R871). -/
def BOOT_FUSE_STAT.programmed : Desc := ⟨.boot, 0x00F00060, 1, 0x0, 1, 0x0, 8, 4, .ro, .fixed, 1, false⟩
/-- BOOT_FUSE_STAT.revoked (R871). -/
def BOOT_FUSE_STAT.revoked : Desc := ⟨.boot, 0x00F00060, 1, 0x0, 1, 0x0, 12, 4, .ro, .fixed, 0, false⟩
/-- BOOT_FUSE_STAT.flags (R871). -/
def BOOT_FUSE_STAT.flags : Desc := ⟨.boot, 0x00F00060, 1, 0x0, 1, 0x0, 16, 3, .ro, .fixed, 0, false⟩
/-- BOOT_FCMD.action (R871). -/
def BOOT_FCMD.action : Desc := ⟨.boot, 0x00F00080, 1, 0x0, 1, 0x0, 0, 2, .rw, .live, 0, false⟩
/-- BOOT_FCMD.key (R871). -/
def BOOT_FCMD.key : Desc := ⟨.boot, 0x00F00080, 1, 0x0, 1, 0x0, 2, 2, .rw, .live, 0, false⟩
/-- BOOT_FCMD.value (R871). -/
def BOOT_FCMD.value : Desc := ⟨.boot, 0x00F00080, 1, 0x0, 1, 0x0, 4, 8, .rw, .live, 0, false⟩
/-- BOOT_FCMD.go (R871). -/
def BOOT_FCMD.go : Desc := ⟨.boot, 0x00F00080, 1, 0x0, 1, 0x0, 12, 1, .wo, .live, 0, true⟩
/-- BOOT_FCMD.busy (R871). -/
def BOOT_FCMD.busy : Desc := ⟨.boot, 0x00F00080, 1, 0x0, 1, 0x0, 13, 1, .ro, .fixed, 0, false⟩
/-- BOOT_FCMD.result (R871). -/
def BOOT_FCMD.result : Desc := ⟨.boot, 0x00F00080, 1, 0x0, 1, 0x0, 14, 3, .ro, .fixed, 0, false⟩
/-- BOOT_FDATA.hash (R871). -/
def BOOT_FDATA.hash : Desc := ⟨.boot, 0x00F00100, 1, 0x0, 1, 0x0, 0, 384, .rw, .live, 0, false⟩
/-- BOOT_LOCK.uds_lock (R871). -/
def BOOT_LOCK.uds_lock : Desc := ⟨.boot, 0x00F00140, 1, 0x0, 1, 0x0, 0, 1, .w1s, .live, 0, true⟩
/-- BOOT_LOCK.seal_lock (R871). -/
def BOOT_LOCK.seal_lock : Desc := ⟨.boot, 0x00F00140, 1, 0x0, 1, 0x0, 1, 1, .w1s, .live, 0, true⟩
/-- BOOT_LOCK.fuse_lock (R871). -/
def BOOT_LOCK.fuse_lock : Desc := ⟨.boot, 0x00F00140, 1, 0x0, 1, 0x0, 2, 1, .w1s, .live, 0, true⟩
/-- BOOT_LOCK.debug_lock (R871). -/
def BOOT_LOCK.debug_lock : Desc := ⟨.boot, 0x00F00140, 1, 0x0, 1, 0x0, 3, 1, .w1s, .live, 0, true⟩
/-- BOOT_LOCK.meas_lock (R871). -/
def BOOT_LOCK.meas_lock : Desc := ⟨.boot, 0x00F00140, 1, 0x0, 1, 0x0, 8, 8, .w1s, .live, 0, true⟩
/-- BOOT_UDS.uds (R871). -/
def BOOT_UDS.uds : Desc := ⟨.boot, 0x00F00200, 1, 0x0, 1, 0x0, 0, 256, .ro, .fixed, 0, false⟩
/-- BOOT_SEAL.seal (R871). -/
def BOOT_SEAL.seal : Desc := ⟨.boot, 0x00F00220, 1, 0x0, 1, 0x0, 0, 256, .ro, .fixed, 0, false⟩
/-- BOOT_MEAS.meas (R871). -/
def BOOT_MEAS.meas : Desc := ⟨.boot, 0x00F00300, 8, 0x40, 1, 0x0, 0, 384, .ro, .fixed, 0, false⟩
/-- BOOT_MEAS_IN.data (R871). -/
def BOOT_MEAS_IN.data : Desc := ⟨.boot, 0x00F00500, 1, 0x0, 1, 0x0, 0, 384, .wo, .live, 0, false⟩
/-- BOOT_MEAS_CMD.index (R871). -/
def BOOT_MEAS_CMD.index : Desc := ⟨.boot, 0x00F00530, 1, 0x0, 1, 0x0, 0, 3, .wo, .live, 0, true⟩
/-- BOOT_MEAS_CMD.go (R871). -/
def BOOT_MEAS_CMD.go : Desc := ⟨.boot, 0x00F00530, 1, 0x0, 1, 0x0, 3, 1, .wo, .live, 0, true⟩
/-- BOOT_VEC.pc (R871). -/
def BOOT_VEC.pc : Desc := ⟨.boot, 0x00F00600, 4, 0x8, 1, 0x0, 0, 48, .rwl, .live, 0, false⟩
/-- BOOT_RELEASE.release (R871). -/
def BOOT_RELEASE.release : Desc := ⟨.boot, 0x00F00620, 1, 0x0, 1, 0x0, 0, 4, .w1s, .live, 0, true⟩
/-- BOOT_RCV_ADDR.addr (R871). -/
def BOOT_RCV_ADDR.addr : Desc := ⟨.boot, 0x00F00700, 1, 0x0, 1, 0x0, 0, 64, .rw, .live, 0, false⟩
/-- BOOT_RCV_CTL.len (R871). -/
def BOOT_RCV_CTL.len : Desc := ⟨.boot, 0x00F00708, 1, 0x0, 1, 0x0, 0, 25, .rw, .live, 0, false⟩
/-- BOOT_RCV_CTL.go (R871). -/
def BOOT_RCV_CTL.go : Desc := ⟨.boot, 0x00F00708, 1, 0x0, 1, 0x0, 25, 1, .wo, .live, 0, true⟩
/-- BOOT_RCV_CTL.busy (R871). -/
def BOOT_RCV_CTL.busy : Desc := ⟨.boot, 0x00F00708, 1, 0x0, 1, 0x0, 26, 1, .ro, .fixed, 0, false⟩
/-- BOOT_RCV_STAT.code (R871). -/
def BOOT_RCV_STAT.code : Desc := ⟨.boot, 0x00F00710, 1, 0x0, 1, 0x0, 0, 8, .ro, .fixed, 0, false⟩
/-- BOOT_RCV_STAT.source (R871). -/
def BOOT_RCV_STAT.source : Desc := ⟨.boot, 0x00F00710, 1, 0x0, 1, 0x0, 8, 8, .ro, .fixed, 0, false⟩
/-- BOOT_RCV_STAT.attempts (R871). -/
def BOOT_RCV_STAT.attempts : Desc := ⟨.boot, 0x00F00710, 1, 0x0, 1, 0x0, 16, 16, .ro, .fixed, 0, false⟩

/-- Fields of BOOT, piece 0. -/
def bootFields0 : List Desc :=
  [BOOT_STATUS.phase, BOOT_STATUS.source, BOOT_STATUS.slot, BOOT_STATUS.svn,
   BOOT_STATUS.key_index, BOOT_STATUS.seq, BOOT_CTL.phase_req, BOOT_CTL.reboot,
   BOOT_CTL.relay_release, BOOT_CTL.skip, BOOT_ATTEMPT.code, BOOT_ATTEMPT.seq,
   BOOT_FUSE_STAT.svn_count, BOOT_FUSE_STAT.programmed, BOOT_FUSE_STAT.revoked, BOOT_FUSE_STAT.flags]

/-- Fields of BOOT, piece 1. -/
def bootFields1 : List Desc :=
  [BOOT_FCMD.action, BOOT_FCMD.key, BOOT_FCMD.value, BOOT_FCMD.go,
   BOOT_FCMD.busy, BOOT_FCMD.result, BOOT_FDATA.hash, BOOT_LOCK.uds_lock,
   BOOT_LOCK.seal_lock, BOOT_LOCK.fuse_lock, BOOT_LOCK.debug_lock, BOOT_LOCK.meas_lock,
   BOOT_UDS.uds, BOOT_SEAL.seal, BOOT_MEAS.meas, BOOT_MEAS_IN.data]

/-- Fields of BOOT, piece 2. -/
def bootFields2 : List Desc :=
  [BOOT_MEAS_CMD.index, BOOT_MEAS_CMD.go, BOOT_VEC.pc, BOOT_RELEASE.release,
   BOOT_RCV_ADDR.addr, BOOT_RCV_CTL.len, BOOT_RCV_CTL.go, BOOT_RCV_CTL.busy,
   BOOT_RCV_STAT.code, BOOT_RCV_STAT.source, BOOT_RCV_STAT.attempts]

/-- The fields of BOOT beside the common registers. -/
def bootFields : List Desc :=
  bootFields0 ++ bootFields1 ++ bootFields2

/-! ### MNT -/

/-- MNT_START.start (R899). -/
def MNT_START.start : Desc := ⟨.mnt, 0x01000020, 1, 0x0, 1, 0x0, 0, 8, .wo, .live, 0, true⟩
/-- MNT_START.started (R899). -/
def MNT_START.started : Desc := ⟨.mnt, 0x01000020, 1, 0x0, 1, 0x0, 8, 8, .ro, .fixed, 0, false⟩
/-- MNT_START.busy_conflict (R899). -/
def MNT_START.busy_conflict : Desc := ⟨.mnt, 0x01000020, 1, 0x0, 1, 0x0, 16, 8, .ro, .fixed, 0, false⟩
/-- MNT_START.not_allowed (R899). -/
def MNT_START.not_allowed : Desc := ⟨.mnt, 0x01000020, 1, 0x0, 1, 0x0, 24, 8, .ro, .fixed, 0, false⟩
/-- MNT_STOP.stop (R899). -/
def MNT_STOP.stop : Desc := ⟨.mnt, 0x01000028, 1, 0x0, 1, 0x0, 0, 8, .wo, .live, 0, true⟩
/-- MNT_ACT.state (R899). -/
def MNT_ACT.state : Desc := ⟨.mnt, 0x01000100, 8, 0x40, 1, 0x0, 0, 3, .ro, .fixed, 0, false⟩
/-- MNT_ACT.auto_en (R899). -/
def MNT_ACT.auto_en : Desc := ⟨.mnt, 0x01000100, 8, 0x40, 1, 0x0, 3, 1, .rw, .live, 0, false⟩
/-- MNT_ACT.result (R899). -/
def MNT_ACT.result : Desc := ⟨.mnt, 0x01000100, 8, 0x40, 1, 0x0, 8, 8, .ro, .fixed, 0, false⟩
/-- MNT_ACT.fail_code (R899). -/
def MNT_ACT.fail_code : Desc := ⟨.mnt, 0x01000100, 8, 0x40, 1, 0x0, 16, 16, .ro, .fixed, 0, false⟩
/-- MNT_ACT.period_ms (R899). -/
def MNT_ACT.period_ms : Desc := ⟨.mnt, 0x01000100, 8, 0x40, 1, 0x0, 32, 32, .rw, .live, 0, false⟩
/-- MNT_ACT.arg (R899). -/
def MNT_ACT.arg : Desc := ⟨.mnt, 0x01000100, 8, 0x40, 1, 0x0, 64, 64, .rw, .live, 0, false⟩
/-- MNT_ACT.start_tt (R899). -/
def MNT_ACT.start_tt : Desc := ⟨.mnt, 0x01000100, 8, 0x40, 1, 0x0, 128, 64, .ro, .fixed, 0, false⟩
/-- MNT_ACT.end_tt (R899). -/
def MNT_ACT.end_tt : Desc := ⟨.mnt, 0x01000100, 8, 0x40, 1, 0x0, 192, 64, .ro, .fixed, 0, false⟩
/-- MNT_ACT.progress (R899). -/
def MNT_ACT.progress : Desc := ⟨.mnt, 0x01000100, 8, 0x40, 1, 0x0, 256, 64, .ro, .fixed, 0, false⟩
/-- MNT_ACT.runs (R899). -/
def MNT_ACT.runs : Desc := ⟨.mnt, 0x01000100, 8, 0x40, 1, 0x0, 320, 32, .ro, .fixed, 0, false⟩
/-- MNT_ACT.deferrals (R899). -/
def MNT_ACT.deferrals : Desc := ⟨.mnt, 0x01000100, 8, 0x40, 1, 0x0, 352, 32, .ro, .fixed, 0, false⟩
/-- MNT_SCRUB_LOG.addr (R899). -/
def MNT_SCRUB_LOG.addr : Desc := ⟨.mnt, 0x01000400, 1, 0x0, 1, 0x0, 0, 48, .ro, .fixed, 0, false⟩
/-- MNT_SCRUB_LOG.entry_valid (R899). -/
def MNT_SCRUB_LOG.entry_valid : Desc := ⟨.mnt, 0x01000400, 1, 0x0, 1, 0x0, 48, 1, .ro, .fixed, 0, false⟩
/-- MNT_SCRUB_LOG.lost (R899). -/
def MNT_SCRUB_LOG.lost : Desc := ⟨.mnt, 0x01000400, 1, 0x0, 1, 0x0, 49, 15, .ro, .fixed, 0, false⟩

/-- Fields of MNT, piece 0. -/
def mntFields0 : List Desc :=
  [MNT_START.start, MNT_START.started, MNT_START.busy_conflict, MNT_START.not_allowed,
   MNT_STOP.stop, MNT_ACT.state, MNT_ACT.auto_en, MNT_ACT.result,
   MNT_ACT.fail_code, MNT_ACT.period_ms, MNT_ACT.arg, MNT_ACT.start_tt,
   MNT_ACT.end_tt, MNT_ACT.progress, MNT_ACT.runs, MNT_ACT.deferrals]

/-- Fields of MNT, piece 1. -/
def mntFields1 : List Desc :=
  [MNT_SCRUB_LOG.addr, MNT_SCRUB_LOG.entry_valid, MNT_SCRUB_LOG.lost]

/-- The fields of MNT beside the common registers. -/
def mntFields : List Desc :=
  mntFields0 ++ mntFields1

/-! ### PAIR -/

/-- PAIR_CFG.unit (R935). -/
def PAIR_CFG.unit : Desc := ⟨.pair, 0x01100020, 1, 0x0, 1, 0x0, 0, 1, .rw, .static, 0, false⟩
/-- PAIR_CFG.role_req (R935). -/
def PAIR_CFG.role_req : Desc := ⟨.pair, 0x01100020, 1, 0x0, 1, 0x0, 1, 1, .rw, .static, 0, false⟩
/-- PAIR_CFG.auto_promote (R935). -/
def PAIR_CFG.auto_promote : Desc := ⟨.pair, 0x01100020, 1, 0x0, 1, 0x0, 2, 1, .rw, .live, 1, false⟩
/-- PAIR_CFG.pmd (R935). -/
def PAIR_CFG.pmd : Desc := ⟨.pair, 0x01100020, 1, 0x0, 1, 0x0, 3, 2, .rw, .static, 0, false⟩
/-- PAIR_CFG.hold_us (R935). -/
def PAIR_CFG.hold_us : Desc := ⟨.pair, 0x01100020, 1, 0x0, 1, 0x0, 16, 16, .rw, .live, 1000, false⟩
/-- PAIR_CFG.alive_wdog_us (R935). -/
def PAIR_CFG.alive_wdog_us : Desc := ⟨.pair, 0x01100020, 1, 0x0, 1, 0x0, 32, 16, .rw, .live, 100, false⟩
/-- PAIR_KICK.kick (R935). -/
def PAIR_KICK.kick : Desc := ⟨.pair, 0x01100028, 1, 0x0, 1, 0x0, 0, 1, .wo, .live, 0, true⟩
/-- PAIR_STATUS.state (R935). -/
def PAIR_STATUS.state : Desc := ⟨.pair, 0x01100030, 1, 0x0, 1, 0x0, 0, 3, .ro, .fixed, 0, false⟩
/-- PAIR_STATUS.link_up (R935). -/
def PAIR_STATUS.link_up : Desc := ⟨.pair, 0x01100030, 1, 0x0, 1, 0x0, 3, 1, .ro, .fixed, 0, false⟩
/-- PAIR_STATUS.peer_alive (R935). -/
def PAIR_STATUS.peer_alive : Desc := ⟨.pair, 0x01100030, 1, 0x0, 1, 0x0, 4, 1, .ro, .fixed, 0, false⟩
/-- PAIR_STATUS.cfg_match (R935). -/
def PAIR_STATUS.cfg_match : Desc := ⟨.pair, 0x01100030, 1, 0x0, 1, 0x0, 5, 1, .ro, .fixed, 0, false⟩
/-- PAIR_STATUS.peer_state (R935). -/
def PAIR_STATUS.peer_state : Desc := ⟨.pair, 0x01100030, 1, 0x0, 1, 0x0, 8, 3, .ro, .fixed, 0, false⟩
/-- PAIR_STATUS.epoch (R935). -/
def PAIR_STATUS.epoch : Desc := ⟨.pair, 0x01100030, 1, 0x0, 1, 0x0, 32, 32, .ro, .fixed, 0, false⟩
/-- PAIR_SEQ.pseq (R935). -/
def PAIR_SEQ.pseq : Desc := ⟨.pair, 0x01100038, 1, 0x0, 1, 0x0, 0, 64, .ro, .fixed, 0, false⟩
/-- PAIR_ACKED.pseq (R935). -/
def PAIR_ACKED.pseq : Desc := ⟨.pair, 0x01100040, 1, 0x0, 1, 0x0, 0, 64, .ro, .fixed, 0, false⟩
/-- PAIR_CMD.action (R935). -/
def PAIR_CMD.action : Desc := ⟨.pair, 0x01100048, 1, 0x0, 1, 0x0, 0, 2, .rw, .live, 0, false⟩
/-- PAIR_CMD.force (R935). -/
def PAIR_CMD.force : Desc := ⟨.pair, 0x01100048, 1, 0x0, 1, 0x0, 2, 1, .rw, .live, 0, false⟩
/-- PAIR_CMD.go (R935). -/
def PAIR_CMD.go : Desc := ⟨.pair, 0x01100048, 1, 0x0, 1, 0x0, 3, 1, .wo, .live, 0, true⟩
/-- PAIR_CMD.busy (R935). -/
def PAIR_CMD.busy : Desc := ⟨.pair, 0x01100048, 1, 0x0, 1, 0x0, 4, 1, .ro, .fixed, 0, false⟩
/-- PAIR_CMD.result (R935). -/
def PAIR_CMD.result : Desc := ⟨.pair, 0x01100048, 1, 0x0, 1, 0x0, 5, 2, .ro, .fixed, 0, false⟩
/-- PAIR_LAST_PASS.tt (R935). -/
def PAIR_LAST_PASS.tt : Desc := ⟨.pair, 0x01100050, 1, 0x0, 1, 0x0, 0, 64, .ro, .fixed, 0, false⟩
/-- PAIR_PASS_STAT.decided (R935). -/
def PAIR_PASS_STAT.decided : Desc := ⟨.pair, 0x01100058, 1, 0x0, 1, 0x0, 0, 32, .ro, .fixed, 0, false⟩
/-- PAIR_PASS_STAT.retried (R935). -/
def PAIR_PASS_STAT.retried : Desc := ⟨.pair, 0x01100058, 1, 0x0, 1, 0x0, 32, 32, .ro, .fixed, 0, false⟩
/-- PAIR_CNT.count (R935). -/
def PAIR_CNT.count : Desc := ⟨.pair, 0x01100100, 8, 0x8, 1, 0x0, 0, 64, .ro, .fixed, 0, false⟩

/-- Fields of PAIR, piece 0. -/
def pairFields0 : List Desc :=
  [PAIR_CFG.unit, PAIR_CFG.role_req, PAIR_CFG.auto_promote, PAIR_CFG.pmd,
   PAIR_CFG.hold_us, PAIR_CFG.alive_wdog_us, PAIR_KICK.kick, PAIR_STATUS.state,
   PAIR_STATUS.link_up, PAIR_STATUS.peer_alive, PAIR_STATUS.cfg_match, PAIR_STATUS.peer_state,
   PAIR_STATUS.epoch, PAIR_SEQ.pseq, PAIR_ACKED.pseq, PAIR_CMD.action]

/-- Fields of PAIR, piece 1. -/
def pairFields1 : List Desc :=
  [PAIR_CMD.force, PAIR_CMD.go, PAIR_CMD.busy, PAIR_CMD.result,
   PAIR_LAST_PASS.tt, PAIR_PASS_STAT.decided, PAIR_PASS_STAT.retried, PAIR_CNT.count]

/-- The fields of PAIR beside the common registers. -/
def pairFields : List Desc :=
  pairFields0 ++ pairFields1

end Sys2Proof.Machine
end

