-- ==== Sys2Proof/Machine/RegsEngine.lean ====
section
/-! DEFINITION. The register fields of the blocks BLK, CIP, DMA, RLY, transcribed from the register
tables of their chapters (BLK: R567; CIP: R611-R612; DMA: R656-R658; RLY: R705-R709). -/
namespace Sys2Proof.Machine

/-! ### BLK -/

/-- BLK_CFG.reply_ch (R567). -/
def BLK_CFG.reply_ch : Desc := ⟨.blk, 0x00900020, 1, 0x0, 1, 0x0, 0, 12, .rw, .static, 0, false⟩
/-- BLK_CFG.seg_blocks (R567). -/
def BLK_CFG.seg_blocks : Desc := ⟨.blk, 0x00900020, 1, 0x0, 1, 0x0, 16, 16, .rw, .live, 2048, false⟩
/-- BLK_FROZENQ.queue (R567). -/
def BLK_FROZENQ.queue : Desc := ⟨.blk, 0x00900028, 1, 0x0, 1, 0x0, 0, 16, .ro, .fixed, 0, false⟩
/-- BLK_FROZENQ.status (R567). -/
def BLK_FROZENQ.status : Desc := ⟨.blk, 0x00900028, 1, 0x0, 1, 0x0, 16, 8, .ro, .fixed, 0, false⟩
/-- BLK_FROZENQ.count (R567). -/
def BLK_FROZENQ.count : Desc := ⟨.blk, 0x00900028, 1, 0x0, 1, 0x0, 24, 8, .rc, .fixed, 0, false⟩
/-- BLK_VCMD.volume (R567). -/
def BLK_VCMD.volume : Desc := ⟨.blk, 0x00900100, 1, 0x0, 1, 0x0, 0, 16, .rw, .live, 0, false⟩
/-- BLK_VCMD.action (R567). -/
def BLK_VCMD.action : Desc := ⟨.blk, 0x00900100, 1, 0x0, 1, 0x0, 16, 1, .rw, .live, 0, false⟩
/-- BLK_VCMD.go (R567). -/
def BLK_VCMD.go : Desc := ⟨.blk, 0x00900100, 1, 0x0, 1, 0x0, 17, 1, .wo, .live, 0, true⟩
/-- BLK_VCMD.busy (R567). -/
def BLK_VCMD.busy : Desc := ⟨.blk, 0x00900100, 1, 0x0, 1, 0x0, 18, 1, .ro, .fixed, 0, false⟩
/-- BLK_VCMD.result (R567). -/
def BLK_VCMD.result : Desc := ⟨.blk, 0x00900100, 1, 0x0, 1, 0x0, 19, 2, .ro, .fixed, 0, false⟩
/-- BLK_VCMD_REC.image (R567). -/
def BLK_VCMD_REC.image : Desc := ⟨.blk, 0x00900140, 1, 0x0, 1, 0x0, 0, 512, .rw, .live, 0, false⟩
/-- BLK_CNT.count (R567). -/
def BLK_CNT.count : Desc := ⟨.blk, 0x00900200, 8, 0x8, 1, 0x0, 0, 64, .ro, .fixed, 0, false⟩

/-- Fields of BLK, piece 0. -/
def blkFields0 : List Desc :=
  [BLK_CFG.reply_ch, BLK_CFG.seg_blocks, BLK_FROZENQ.queue, BLK_FROZENQ.status,
   BLK_FROZENQ.count, BLK_VCMD.volume, BLK_VCMD.action, BLK_VCMD.go,
   BLK_VCMD.busy, BLK_VCMD.result, BLK_VCMD_REC.image, BLK_CNT.count]

/-- The fields of BLK beside the common registers. -/
def blkFields : List Desc :=
  blkFields0

/-! ### CIP -/

/-- CIP_CFG.low_shift (R611-R612). -/
def CIP_CFG.low_shift : Desc := ⟨.cip, 0x00A00020, 1, 0x0, 1, 0x0, 0, 5, .rw, .live, 4, false⟩
/-- CIP_STAT.powered (R611-R612). -/
def CIP_STAT.powered : Desc := ⟨.cip, 0x00A00028, 1, 0x0, 1, 0x0, 0, 24, .ro, .fixed, 0xffffff, false⟩
/-- CIP_STAT.busy (R611-R612). -/
def CIP_STAT.busy : Desc := ⟨.cip, 0x00A00028, 1, 0x0, 1, 0x0, 32, 24, .ro, .fixed, 0, false⟩
/-- CIP_KEYQ.slot (R611-R612). -/
def CIP_KEYQ.slot : Desc := ⟨.cip, 0x00A00030, 1, 0x0, 1, 0x0, 0, 20, .ro, .fixed, 0, false⟩
/-- CIP_KEYQ.event (R611-R612). -/
def CIP_KEYQ.event : Desc := ⟨.cip, 0x00A00030, 1, 0x0, 1, 0x0, 20, 2, .ro, .fixed, 0, false⟩
/-- CIP_KEYQ.entry_valid (R611-R612). -/
def CIP_KEYQ.entry_valid : Desc := ⟨.cip, 0x00A00030, 1, 0x0, 1, 0x0, 22, 1, .ro, .fixed, 0, false⟩
/-- CIP_KEYQ.lost (R611-R612). -/
def CIP_KEYQ.lost : Desc := ⟨.cip, 0x00A00030, 1, 0x0, 1, 0x0, 32, 16, .ro, .fixed, 0, false⟩
/-- CIP_KCMD.slot (R611-R612). -/
def CIP_KCMD.slot : Desc := ⟨.cip, 0x00A00100, 1, 0x0, 1, 0x0, 0, 20, .rw, .live, 0, false⟩
/-- CIP_KCMD.action (R611-R612). -/
def CIP_KCMD.action : Desc := ⟨.cip, 0x00A00100, 1, 0x0, 1, 0x0, 20, 1, .rw, .live, 0, false⟩
/-- CIP_KCMD.go (R611-R612). -/
def CIP_KCMD.go : Desc := ⟨.cip, 0x00A00100, 1, 0x0, 1, 0x0, 21, 1, .wo, .live, 0, true⟩
/-- CIP_KCMD.busy (R611-R612). -/
def CIP_KCMD.busy : Desc := ⟨.cip, 0x00A00100, 1, 0x0, 1, 0x0, 22, 1, .ro, .fixed, 0, false⟩
/-- CIP_KCMD.result (R611-R612). -/
def CIP_KCMD.result : Desc := ⟨.cip, 0x00A00100, 1, 0x0, 1, 0x0, 23, 2, .ro, .fixed, 0, false⟩
/-- CIP_KCMD.limit (R611-R612). -/
def CIP_KCMD.limit : Desc := ⟨.cip, 0x00A00100, 1, 0x0, 1, 0x0, 32, 32, .rw, .live, 0, false⟩
/-- CIP_KCMD_REC.image (R611-R612). -/
def CIP_KCMD_REC.image : Desc := ⟨.cip, 0x00A00140, 1, 0x0, 1, 0x0, 0, 1024, .ro, .fixed, 0, false⟩
/-- CIP_CNT.count (R611-R612). -/
def CIP_CNT.count : Desc := ⟨.cip, 0x00A00200, 7, 0x8, 1, 0x0, 0, 64, .ro, .fixed, 0, false⟩
/-- CIP_ESP_CNT.count (R611-R612). -/
def CIP_ESP_CNT.count : Desc := ⟨.cip, 0x00A00300, 2, 0x80, 7, 0x8, 0, 64, .ro, .fixed, 0, false⟩
/-- CIP_KEY_BLOCK.pf (R611-R612). -/
def CIP_KEY_BLOCK.pf : Desc := ⟨.cip, 0x00A10000, 1024, 0x8, 1, 0x0, 0, 3, .rw, .static, 0, true⟩
/-- CIP_KEY_BLOCK.is_vf (R611-R612). -/
def CIP_KEY_BLOCK.is_vf : Desc := ⟨.cip, 0x00A10000, 1024, 0x8, 1, 0x0, 3, 1, .rw, .static, 0, true⟩
/-- CIP_KEY_BLOCK.vf (R611-R612). -/
def CIP_KEY_BLOCK.vf : Desc := ⟨.cip, 0x00A10000, 1024, 0x8, 1, 0x0, 4, 12, .rw, .static, 0, true⟩
/-- CIP_KEY_BLOCK.valid (R611-R612). -/
def CIP_KEY_BLOCK.valid : Desc := ⟨.cip, 0x00A10000, 1024, 0x8, 1, 0x0, 16, 1, .rw, .static, 0, true⟩

/-- Fields of CIP, piece 0. -/
def cipFields0 : List Desc :=
  [CIP_CFG.low_shift, CIP_STAT.powered, CIP_STAT.busy, CIP_KEYQ.slot,
   CIP_KEYQ.event, CIP_KEYQ.entry_valid, CIP_KEYQ.lost, CIP_KCMD.slot,
   CIP_KCMD.action, CIP_KCMD.go, CIP_KCMD.busy, CIP_KCMD.result,
   CIP_KCMD.limit, CIP_KCMD_REC.image, CIP_CNT.count, CIP_ESP_CNT.count]

/-- Fields of CIP, piece 1. -/
def cipFields1 : List Desc :=
  [CIP_KEY_BLOCK.pf, CIP_KEY_BLOCK.is_vf, CIP_KEY_BLOCK.vf, CIP_KEY_BLOCK.valid]

/-- The fields of CIP beside the common registers. -/
def cipFields : List Desc :=
  cipFields0 ++ cipFields1

/-! ### DMA -/

/-- DMA_CFG.retry_max (R656-R658). -/
def DMA_CFG.retry_max : Desc := ⟨.dma, 0x00B00020, 1, 0x0, 1, 0x0, 0, 3, .rw, .live, 3, false⟩
/-- DMA_CFG.poll_ns (R656-R658). -/
def DMA_CFG.poll_ns : Desc := ⟨.dma, 0x00B00020, 1, 0x0, 1, 0x0, 16, 16, .rw, .live, 1000, false⟩
/-- DMA_HALTQ.channel (R656-R658). -/
def DMA_HALTQ.channel : Desc := ⟨.dma, 0x00B00028, 1, 0x0, 1, 0x0, 0, 8, .ro, .fixed, 0, false⟩
/-- DMA_HALTQ.result (R656-R658). -/
def DMA_HALTQ.result : Desc := ⟨.dma, 0x00B00028, 1, 0x0, 1, 0x0, 8, 8, .ro, .fixed, 0, false⟩
/-- DMA_HALTQ.count (R656-R658). -/
def DMA_HALTQ.count : Desc := ⟨.dma, 0x00B00028, 1, 0x0, 1, 0x0, 24, 8, .rc, .fixed, 0, false⟩
/-- DMA_CCMD.channel (R656-R658). -/
def DMA_CCMD.channel : Desc := ⟨.dma, 0x00B00030, 1, 0x0, 1, 0x0, 0, 8, .rw, .live, 0, false⟩
/-- DMA_CCMD.action (R656-R658). -/
def DMA_CCMD.action : Desc := ⟨.dma, 0x00B00030, 1, 0x0, 1, 0x0, 8, 2, .rw, .live, 0, false⟩
/-- DMA_CCMD.go (R656-R658). -/
def DMA_CCMD.go : Desc := ⟨.dma, 0x00B00030, 1, 0x0, 1, 0x0, 10, 1, .wo, .live, 0, true⟩
/-- DMA_CCMD.busy (R656-R658). -/
def DMA_CCMD.busy : Desc := ⟨.dma, 0x00B00030, 1, 0x0, 1, 0x0, 11, 1, .ro, .fixed, 0, false⟩
/-- DMA_CCMD.result (R656-R658). -/
def DMA_CCMD.result : Desc := ⟨.dma, 0x00B00030, 1, 0x0, 1, 0x0, 12, 2, .ro, .fixed, 0, false⟩
/-- DMA_CNT.count (R656-R658). -/
def DMA_CNT.count : Desc := ⟨.dma, 0x00B00100, 8, 0x8, 1, 0x0, 0, 64, .ro, .fixed, 0, false⟩
/-- DMA_CHAN.mode (R656-R658). -/
def DMA_CHAN.mode : Desc := ⟨.dma, 0x00B01000, 256, 0x40, 1, 0x0, 0, 2, .rw, .static, 0, true⟩
/-- DMA_CHAN.pf (R656-R658). -/
def DMA_CHAN.pf : Desc := ⟨.dma, 0x00B01000, 256, 0x40, 1, 0x0, 2, 3, .rw, .static, 0, true⟩
/-- DMA_CHAN.account (R656-R658). -/
def DMA_CHAN.account : Desc := ⟨.dma, 0x00B01000, 256, 0x40, 1, 0x0, 8, 12, .rw, .static, 0, true⟩
/-- DMA_CHAN.thread (R656-R658). -/
def DMA_CHAN.thread : Desc := ⟨.dma, 0x00B01000, 256, 0x40, 1, 0x0, 20, 9, .rw, .live, 0, false⟩
/-- DMA_CHAN.state (R656-R658). -/
def DMA_CHAN.state : Desc := ⟨.dma, 0x00B01000, 256, 0x40, 1, 0x0, 64, 2, .ro, .fixed, 0, false⟩
/-- DMA_CHAN.slot (R656-R658). -/
def DMA_CHAN.slot : Desc := ⟨.dma, 0x00B01000, 256, 0x40, 1, 0x0, 66, 3, .ro, .fixed, 0, false⟩
/-- DMA_CHAN.retries (R656-R658). -/
def DMA_CHAN.retries : Desc := ⟨.dma, 0x00B01000, 256, 0x40, 1, 0x0, 69, 3, .ro, .fixed, 0, false⟩
/-- DMA_CHAN.result (R656-R658). -/
def DMA_CHAN.result : Desc := ⟨.dma, 0x00B01000, 256, 0x40, 1, 0x0, 72, 8, .ro, .fixed, 0, false⟩
/-- DMA_CHAN.sem (R656-R658). -/
def DMA_CHAN.sem : Desc := ⟨.dma, 0x00B01000, 256, 0x40, 1, 0x0, 80, 16, .ro, .fixed, 0, false⟩
/-- DMA_CHAN.loop_i (R656-R658). -/
def DMA_CHAN.loop_i : Desc := ⟨.dma, 0x00B01000, 256, 0x40, 1, 0x0, 96, 32, .ro, .fixed, 0, false⟩
/-- DMA_CHAN.block (R656-R658). -/
def DMA_CHAN.block : Desc := ⟨.dma, 0x00B01000, 256, 0x40, 1, 0x0, 128, 64, .ro, .fixed, 0, false⟩
/-- DMA_CHAN.bytes (R656-R658). -/
def DMA_CHAN.bytes : Desc := ⟨.dma, 0x00B01000, 256, 0x40, 1, 0x0, 192, 64, .ro, .fixed, 0, false⟩
/-- DMA_CHAN.space (R656-R658). -/
def DMA_CHAN.space : Desc := ⟨.dma, 0x00B01000, 256, 0x40, 1, 0x0, 256, 1, .rw, .live, 0, false⟩
/-- DMA_CHAN.ats (R656-R658). -/
def DMA_CHAN.ats : Desc := ⟨.dma, 0x00B01000, 256, 0x40, 1, 0x0, 257, 1, .rw, .live, 0, false⟩
/-- DMA_CHAN.start_addr (R656-R658). -/
def DMA_CHAN.start_addr : Desc := ⟨.dma, 0x00B01000, 256, 0x40, 1, 0x0, 263, 57, .rw, .live, 0, false⟩

/-- Fields of DMA, piece 0. -/
def dmaFields0 : List Desc :=
  [DMA_CFG.retry_max, DMA_CFG.poll_ns, DMA_HALTQ.channel, DMA_HALTQ.result,
   DMA_HALTQ.count, DMA_CCMD.channel, DMA_CCMD.action, DMA_CCMD.go,
   DMA_CCMD.busy, DMA_CCMD.result, DMA_CNT.count, DMA_CHAN.mode,
   DMA_CHAN.pf, DMA_CHAN.account, DMA_CHAN.thread, DMA_CHAN.state]

/-- Fields of DMA, piece 1. -/
def dmaFields1 : List Desc :=
  [DMA_CHAN.slot, DMA_CHAN.retries, DMA_CHAN.result, DMA_CHAN.sem,
   DMA_CHAN.loop_i, DMA_CHAN.block, DMA_CHAN.bytes, DMA_CHAN.space,
   DMA_CHAN.ats, DMA_CHAN.start_addr]

/-- The fields of DMA beside the common registers. -/
def dmaFields : List Desc :=
  dmaFields0 ++ dmaFields1

/-! ### RLY -/

/-- RLY_STALL_CYCLES.cycles (R705-R709). -/
def RLY_STALL_CYCLES.cycles : Desc := ⟨.rly, 0x00C00020, 1, 0x0, 1, 0x0, 0, 20, .rw, .live, 4096, false⟩
/-- RLY_STALLQ.core (R705-R709). -/
def RLY_STALLQ.core : Desc := ⟨.rly, 0x00C00028, 1, 0x0, 1, 0x0, 0, 6, .ro, .fixed, 0, false⟩
/-- RLY_STALLQ.count (R705-R709). -/
def RLY_STALLQ.count : Desc := ⟨.rly, 0x00C00028, 1, 0x0, 1, 0x0, 24, 8, .rc, .fixed, 0, false⟩
/-- RLY_FAULTQ.thread (R705-R709). -/
def RLY_FAULTQ.thread : Desc := ⟨.rly, 0x00C00030, 1, 0x0, 1, 0x0, 0, 9, .ro, .fixed, 0, false⟩
/-- RLY_FAULTQ.cause (R705-R709). -/
def RLY_FAULTQ.cause : Desc := ⟨.rly, 0x00C00030, 1, 0x0, 1, 0x0, 16, 8, .ro, .fixed, 0, false⟩
/-- RLY_FAULTQ.count (R705-R709). -/
def RLY_FAULTQ.count : Desc := ⟨.rly, 0x00C00030, 1, 0x0, 1, 0x0, 24, 8, .rc, .fixed, 0, false⟩
/-- RLY_TCMD.thread (R705-R709). -/
def RLY_TCMD.thread : Desc := ⟨.rly, 0x00C00040, 1, 0x0, 1, 0x0, 0, 9, .rw, .live, 0, false⟩
/-- RLY_TCMD.action (R705-R709). -/
def RLY_TCMD.action : Desc := ⟨.rly, 0x00C00040, 1, 0x0, 1, 0x0, 9, 3, .rw, .live, 0, false⟩
/-- RLY_TCMD.go (R705-R709). -/
def RLY_TCMD.go : Desc := ⟨.rly, 0x00C00040, 1, 0x0, 1, 0x0, 12, 1, .wo, .live, 0, true⟩
/-- RLY_TCMD.busy (R705-R709). -/
def RLY_TCMD.busy : Desc := ⟨.rly, 0x00C00040, 1, 0x0, 1, 0x0, 13, 1, .ro, .fixed, 0, false⟩
/-- RLY_TCMD.result (R705-R709). -/
def RLY_TCMD.result : Desc := ⟨.rly, 0x00C00040, 1, 0x0, 1, 0x0, 14, 2, .ro, .fixed, 0, false⟩
/-- RLY_DBG.thread (R705-R709). -/
def RLY_DBG.thread : Desc := ⟨.rly, 0x00C00050, 1, 0x0, 1, 0x0, 0, 9, .rw, .live, 0, false⟩
/-- RLY_DBG.reg (R705-R709). -/
def RLY_DBG.reg : Desc := ⟨.rly, 0x00C00050, 1, 0x0, 1, 0x0, 9, 6, .rw, .live, 0, false⟩
/-- RLY_DBG.write (R705-R709). -/
def RLY_DBG.write : Desc := ⟨.rly, 0x00C00050, 1, 0x0, 1, 0x0, 15, 1, .rw, .live, 0, false⟩
/-- RLY_DBG.go (R705-R709). -/
def RLY_DBG.go : Desc := ⟨.rly, 0x00C00050, 1, 0x0, 1, 0x0, 16, 1, .wo, .live, 0, true⟩
/-- RLY_DBG.busy (R705-R709). -/
def RLY_DBG.busy : Desc := ⟨.rly, 0x00C00050, 1, 0x0, 1, 0x0, 17, 1, .ro, .fixed, 0, false⟩
/-- RLY_DBG.bad_state (R705-R709). -/
def RLY_DBG.bad_state : Desc := ⟨.rly, 0x00C00050, 1, 0x0, 1, 0x0, 18, 1, .ro, .fixed, 0, false⟩
/-- RLY_DBG_DATA.data (R705-R709). -/
def RLY_DBG_DATA.data : Desc := ⟨.rly, 0x00C00058, 1, 0x0, 1, 0x0, 0, 64, .rw, .live, 0, false⟩
/-- RLY_THCTX.state (R705-R709). -/
def RLY_THCTX.state : Desc := ⟨.rly, 0x00C10000, 512, 0x40, 1, 0x0, 0, 3, .ro, .fixed, 0, false⟩
/-- RLY_THCTX.budget_held (R705-R709). -/
def RLY_THCTX.budget_held : Desc := ⟨.rly, 0x00C10000, 512, 0x40, 1, 0x0, 3, 1, .ro, .fixed, 0, false⟩
/-- RLY_THCTX.account (R705-R709). -/
def RLY_THCTX.account : Desc := ⟨.rly, 0x00C10000, 512, 0x40, 1, 0x0, 8, 12, .rw, .live, 0, false⟩
/-- RLY_THCTX.pc (R705-R709). -/
def RLY_THCTX.pc : Desc := ⟨.rly, 0x00C10000, 512, 0x40, 1, 0x0, 64, 48, .rw, .live, 0, false⟩
/-- RLY_THCTX.arg (R705-R709). -/
def RLY_THCTX.arg : Desc := ⟨.rly, 0x00C10000, 512, 0x40, 1, 0x0, 128, 64, .rw, .live, 0, false⟩
/-- RLY_THCTX.fault_cause (R705-R709). -/
def RLY_THCTX.fault_cause : Desc := ⟨.rly, 0x00C10000, 512, 0x40, 1, 0x0, 192, 8, .ro, .fixed, 0, false⟩
/-- RLY_THCTX.fault_pc (R705-R709). -/
def RLY_THCTX.fault_pc : Desc := ⟨.rly, 0x00C10000, 512, 0x40, 1, 0x0, 256, 48, .ro, .fixed, 0, false⟩
/-- RLY_THCTX.fault_addr (R705-R709). -/
def RLY_THCTX.fault_addr : Desc := ⟨.rly, 0x00C10000, 512, 0x40, 1, 0x0, 320, 48, .ro, .fixed, 0, false⟩
/-- RLY_THCTX.issued (R705-R709). -/
def RLY_THCTX.issued : Desc := ⟨.rly, 0x00C10000, 512, 0x40, 1, 0x0, 384, 64, .ro, .fixed, 0, false⟩
/-- RLY_THCTX.dma_ev (R705-R709). -/
def RLY_THCTX.dma_ev : Desc := ⟨.rly, 0x00C10000, 512, 0x40, 1, 0x0, 448, 8, .ro, .fixed, 0, false⟩
/-- RLY_THCTX.pkt_ev (R705-R709). -/
def RLY_THCTX.pkt_ev : Desc := ⟨.rly, 0x00C10000, 512, 0x40, 1, 0x0, 456, 8, .ro, .fixed, 0, false⟩
/-- RLY_THCTX.timer_fired (R705-R709). -/
def RLY_THCTX.timer_fired : Desc := ⟨.rly, 0x00C10000, 512, 0x40, 1, 0x0, 464, 1, .ro, .fixed, 0, false⟩
/-- RLY_CHAN.queued (R705-R709). -/
def RLY_CHAN.queued : Desc := ⟨.rly, 0x00C20000, 4096, 0x8, 1, 0x0, 0, 5, .ro, .fixed, 0, false⟩
/-- RLY_CHAN.credits (R705-R709). -/
def RLY_CHAN.credits : Desc := ⟨.rly, 0x00C20000, 4096, 0x8, 1, 0x0, 8, 5, .ro, .fixed, 16, false⟩
/-- RLY_CHAN.receivers (R705-R709). -/
def RLY_CHAN.receivers : Desc := ⟨.rly, 0x00C20000, 4096, 0x8, 1, 0x0, 16, 4, .ro, .fixed, 0, false⟩
/-- RLY_CHAN.senders (R705-R709). -/
def RLY_CHAN.senders : Desc := ⟨.rly, 0x00C20000, 4096, 0x8, 1, 0x0, 20, 4, .ro, .fixed, 0, false⟩
/-- RLY_RPU.threads (R705-R709). -/
def RLY_RPU.threads : Desc := ⟨.rly, 0x00C30000, 64, 0x80, 16, 0x8, 0, 8, .rw, .staged, 0, false⟩
/-- RLY_RPU.base (R705-R709). -/
def RLY_RPU.base : Desc := ⟨.rly, 0x00C30000, 64, 0x80, 16, 0x8, 12, 36, .rw, .staged, 0, false⟩
/-- RLY_RPU.log2_size (R705-R709). -/
def RLY_RPU.log2_size : Desc := ⟨.rly, 0x00C30000, 64, 0x80, 16, 0x8, 48, 6, .rw, .staged, 0, false⟩
/-- RLY_RPU.rd (R705-R709). -/
def RLY_RPU.rd : Desc := ⟨.rly, 0x00C30000, 64, 0x80, 16, 0x8, 54, 1, .rw, .staged, 0, false⟩
/-- RLY_RPU.wr (R705-R709). -/
def RLY_RPU.wr : Desc := ⟨.rly, 0x00C30000, 64, 0x80, 16, 0x8, 55, 1, .rw, .staged, 0, false⟩
/-- RLY_RPU.ex (R705-R709). -/
def RLY_RPU.ex : Desc := ⟨.rly, 0x00C30000, 64, 0x80, 16, 0x8, 56, 1, .rw, .staged, 0, false⟩
/-- RLY_RPU.valid (R705-R709). -/
def RLY_RPU.valid : Desc := ⟨.rly, 0x00C30000, 64, 0x80, 16, 0x8, 57, 1, .rw, .staged, 0, false⟩

/-- Fields of RLY, piece 0. -/
def rlyFields0 : List Desc :=
  [RLY_STALL_CYCLES.cycles, RLY_STALLQ.core, RLY_STALLQ.count, RLY_FAULTQ.thread,
   RLY_FAULTQ.cause, RLY_FAULTQ.count, RLY_TCMD.thread, RLY_TCMD.action,
   RLY_TCMD.go, RLY_TCMD.busy, RLY_TCMD.result, RLY_DBG.thread,
   RLY_DBG.reg, RLY_DBG.write, RLY_DBG.go, RLY_DBG.busy]

/-- Fields of RLY, piece 1. -/
def rlyFields1 : List Desc :=
  [RLY_DBG.bad_state, RLY_DBG_DATA.data, RLY_THCTX.state, RLY_THCTX.budget_held,
   RLY_THCTX.account, RLY_THCTX.pc, RLY_THCTX.arg, RLY_THCTX.fault_cause,
   RLY_THCTX.fault_pc, RLY_THCTX.fault_addr, RLY_THCTX.issued, RLY_THCTX.dma_ev,
   RLY_THCTX.pkt_ev, RLY_THCTX.timer_fired, RLY_CHAN.queued, RLY_CHAN.credits]

/-- Fields of RLY, piece 2. -/
def rlyFields2 : List Desc :=
  [RLY_CHAN.receivers, RLY_CHAN.senders, RLY_RPU.threads, RLY_RPU.base,
   RLY_RPU.log2_size, RLY_RPU.rd, RLY_RPU.wr, RLY_RPU.ex,
   RLY_RPU.valid]

/-- The fields of RLY beside the common registers. -/
def rlyFields : List Desc :=
  rlyFields0 ++ rlyFields1 ++ rlyFields2

end Sys2Proof.Machine
end

