-- ==== Sys2Proof/Machine/RegsHost.lean ====
section
/-! DEFINITION. The register fields of the blocks HIF, MBX, WQ, CQ, QCTX, RCTX, transcribed from the register
tables of their chapters (HIF: R832; MBX: R834; WQ: R190; CQ: R243; QCTX: R177; RCTX: R241). -/
namespace Sys2Proof.Machine

/-! ### HIF -/

/-- HIF_TAG_STAT.free (R832). -/
def HIF_TAG_STAT.free : Desc := ⟨.hif, 0x00300040, 2, 0x8, 1, 0x0, 0, 13, .ro, .fixed, 4096, false⟩
/-- HIF_TAG_STAT.outstanding (R832). -/
def HIF_TAG_STAT.outstanding : Desc := ⟨.hif, 0x00300040, 2, 0x8, 1, 0x0, 16, 13, .ro, .fixed, 0, false⟩
/-- HIF_TAG_STAT.quarantined (R832). -/
def HIF_TAG_STAT.quarantined : Desc := ⟨.hif, 0x00300040, 2, 0x8, 1, 0x0, 32, 13, .ro, .fixed, 0, false⟩
/-- HIF_LATE_CPL.count (R832). -/
def HIF_LATE_CPL.count : Desc := ⟨.hif, 0x00300050, 1, 0x0, 1, 0x0, 0, 64, .ro, .fixed, 0, false⟩
/-- HIF_CTO_CNT.count (R832). -/
def HIF_CTO_CNT.count : Desc := ⟨.hif, 0x00300058, 1, 0x0, 1, 0x0, 0, 64, .ro, .fixed, 0, false⟩
/-- HIF_ACC_DROP.count (R832). -/
def HIF_ACC_DROP.count : Desc := ⟨.hif, 0x00300060, 1, 0x0, 1, 0x0, 0, 64, .ro, .fixed, 0, false⟩
/-- HIF_EVQ.function (R832). -/
def HIF_EVQ.function : Desc := ⟨.hif, 0x00300070, 1, 0x0, 1, 0x0, 0, 13, .ro, .fixed, 0, false⟩
/-- HIF_EVQ.event (R832). -/
def HIF_EVQ.event : Desc := ⟨.hif, 0x00300070, 1, 0x0, 1, 0x0, 13, 3, .ro, .fixed, 0, false⟩
/-- HIF_EVQ.count (R832). -/
def HIF_EVQ.count : Desc := ⟨.hif, 0x00300070, 1, 0x0, 1, 0x0, 24, 8, .rc, .fixed, 0, false⟩
/-- HIF_PF_CFG.enable (R832). -/
def HIF_PF_CFG.enable : Desc := ⟨.hif, 0x00300100, 8, 0x20, 1, 0x0, 0, 1, .rwl, .static, 0, false⟩
/-- HIF_PF_CFG.link (R832). -/
def HIF_PF_CFG.link : Desc := ⟨.hif, 0x00300100, 8, 0x20, 1, 0x0, 1, 3, .rwl, .static, 0, false⟩
/-- HIF_PF_CFG.total_vfs (R832). -/
def HIF_PF_CFG.total_vfs : Desc := ⟨.hif, 0x00300100, 8, 0x20, 1, 0x0, 4, 13, .rwl, .static, 0, false⟩
/-- HIF_PF_CFG.vf_first (R832). -/
def HIF_PF_CFG.vf_first : Desc := ⟨.hif, 0x00300100, 8, 0x20, 1, 0x0, 17, 12, .rwl, .static, 0, false⟩
/-- HIF_PF_CFG.vf_db_log2 (R832). -/
def HIF_PF_CFG.vf_db_log2 : Desc := ⟨.hif, 0x00300100, 8, 0x20, 1, 0x0, 29, 3, .rwl, .static, 0, false⟩
/-- HIF_PF_CFG.bar4_log2 (R832). -/
def HIF_PF_CFG.bar4_log2 : Desc := ⟨.hif, 0x00300100, 8, 0x20, 1, 0x0, 32, 6, .rwl, .static, 0, false⟩
/-- HIF_PF_CFG.pf_vec (R832). -/
def HIF_PF_CFG.pf_vec : Desc := ⟨.hif, 0x00300100, 8, 0x20, 1, 0x0, 38, 12, .rwl, .static, 0, false⟩
/-- HIF_PF_CFG.vf_vec (R832). -/
def HIF_PF_CFG.vf_vec : Desc := ⟨.hif, 0x00300100, 8, 0x20, 1, 0x0, 50, 8, .rwl, .static, 0, false⟩
/-- HIF_PF_CFG.g6_off (R832). -/
def HIF_PF_CFG.g6_off : Desc := ⟨.hif, 0x00300100, 8, 0x20, 1, 0x0, 64, 36, .rw, .live, 0, false⟩
/-- HIF_PF_CFG.bme (R832). -/
def HIF_PF_CFG.bme : Desc := ⟨.hif, 0x00300100, 8, 0x20, 1, 0x0, 128, 1, .ro, .fixed, 0, false⟩
/-- HIF_PF_CFG.dstate (R832). -/
def HIF_PF_CFG.dstate : Desc := ⟨.hif, 0x00300100, 8, 0x20, 1, 0x0, 129, 2, .ro, .fixed, 0, false⟩
/-- HIF_PF_CFG.flr (R832). -/
def HIF_PF_CFG.flr : Desc := ⟨.hif, 0x00300100, 8, 0x20, 1, 0x0, 131, 1, .ro, .fixed, 0, false⟩
/-- HIF_PF_CFG.ats_en (R832). -/
def HIF_PF_CFG.ats_en : Desc := ⟨.hif, 0x00300100, 8, 0x20, 1, 0x0, 132, 1, .ro, .fixed, 0, false⟩
/-- HIF_PF_CFG.num_vfs (R832). -/
def HIF_PF_CFG.num_vfs : Desc := ⟨.hif, 0x00300100, 8, 0x20, 1, 0x0, 144, 13, .ro, .fixed, 0, false⟩
/-- HIF_HWIN_BASE.base (R832). -/
def HIF_HWIN_BASE.base : Desc := ⟨.hif, 0x00300300, 8, 0x8, 1, 0x0, 40, 24, .rw, .live, 0, false⟩
/-- HIF_MCMD.vf (R832). -/
def HIF_MCMD.vf : Desc := ⟨.hif, 0x00301000, 8, 0x100, 1, 0x0, 0, 12, .rw, .live, 0, false⟩
/-- HIF_MCMD.action (R832). -/
def HIF_MCMD.action : Desc := ⟨.hif, 0x00301000, 8, 0x100, 1, 0x0, 12, 3, .rw, .live, 0, false⟩
/-- HIF_MCMD.go (R832). -/
def HIF_MCMD.go : Desc := ⟨.hif, 0x00301000, 8, 0x100, 1, 0x0, 15, 1, .wo, .live, 0, true⟩
/-- HIF_MCMD.busy (R832). -/
def HIF_MCMD.busy : Desc := ⟨.hif, 0x00301000, 8, 0x100, 1, 0x0, 16, 1, .ro, .fixed, 0, false⟩
/-- HIF_MCMD.result (R832). -/
def HIF_MCMD.result : Desc := ⟨.hif, 0x00301000, 8, 0x100, 1, 0x0, 17, 3, .ro, .fixed, 0, false⟩
/-- HIF_MCMD.mig_state (R832). -/
def HIF_MCMD.mig_state : Desc := ⟨.hif, 0x00301000, 8, 0x100, 1, 0x0, 20, 2, .ro, .fixed, 0, false⟩
/-- HIF_MCMD.drain_us (R832). -/
def HIF_MCMD.drain_us : Desc := ⟨.hif, 0x00301000, 8, 0x100, 1, 0x0, 32, 32, .rw, .live, 10000, false⟩
/-- HIF_MCMD.addr (R832). -/
def HIF_MCMD.addr : Desc := ⟨.hif, 0x00301000, 8, 0x100, 1, 0x0, 64, 64, .rw, .live, 0, false⟩
/-- HIF_MCMD.len (R832). -/
def HIF_MCMD.len : Desc := ⟨.hif, 0x00301000, 8, 0x100, 1, 0x0, 128, 32, .rw, .live, 0, false⟩
/-- HIF_MCMD.blob_len (R832). -/
def HIF_MCMD.blob_len : Desc := ⟨.hif, 0x00301000, 8, 0x100, 1, 0x0, 160, 32, .ro, .fixed, 0, false⟩
/-- HIF_MCMD.seq (R832). -/
def HIF_MCMD.seq : Desc := ⟨.hif, 0x00301000, 8, 0x100, 1, 0x0, 192, 32, .rw, .live, 0, false⟩
/-- HIF_MCMD.wrap_en (R832). -/
def HIF_MCMD.wrap_en : Desc := ⟨.hif, 0x00301000, 8, 0x100, 1, 0x0, 224, 1, .rw, .live, 0, false⟩
/-- HIF_MCMD.wrap_slot (R832). -/
def HIF_MCMD.wrap_slot : Desc := ⟨.hif, 0x00301000, 8, 0x100, 1, 0x0, 225, 20, .rw, .live, 0, false⟩

/-- Fields of HIF, piece 0. -/
def hifFields0 : List Desc :=
  [HIF_TAG_STAT.free, HIF_TAG_STAT.outstanding, HIF_TAG_STAT.quarantined, HIF_LATE_CPL.count,
   HIF_CTO_CNT.count, HIF_ACC_DROP.count, HIF_EVQ.function, HIF_EVQ.event,
   HIF_EVQ.count, HIF_PF_CFG.enable, HIF_PF_CFG.link, HIF_PF_CFG.total_vfs,
   HIF_PF_CFG.vf_first, HIF_PF_CFG.vf_db_log2, HIF_PF_CFG.bar4_log2, HIF_PF_CFG.pf_vec]

/-- Fields of HIF, piece 1. -/
def hifFields1 : List Desc :=
  [HIF_PF_CFG.vf_vec, HIF_PF_CFG.g6_off, HIF_PF_CFG.bme, HIF_PF_CFG.dstate,
   HIF_PF_CFG.flr, HIF_PF_CFG.ats_en, HIF_PF_CFG.num_vfs, HIF_HWIN_BASE.base,
   HIF_MCMD.vf, HIF_MCMD.action, HIF_MCMD.go, HIF_MCMD.busy,
   HIF_MCMD.result, HIF_MCMD.mig_state, HIF_MCMD.drain_us, HIF_MCMD.addr]

/-- Fields of HIF, piece 2. -/
def hifFields2 : List Desc :=
  [HIF_MCMD.len, HIF_MCMD.blob_len, HIF_MCMD.seq, HIF_MCMD.wrap_en,
   HIF_MCMD.wrap_slot]

/-- The fields of HIF beside the common registers. -/
def hifFields : List Desc :=
  hifFields0 ++ hifFields1 ++ hifFields2

/-! ### MBX -/

/-- MBX_CFG.route (R834). -/
def MBX_CFG.route : Desc := ⟨.mbx, 0x00380020, 8, 0x8, 1, 0x0, 0, 1, .rw, .live, 0, false⟩
/-- MBX_CFG.vector (R834). -/
def MBX_CFG.vector : Desc := ⟨.mbx, 0x00380020, 8, 0x8, 1, 0x0, 1, 11, .rw, .live, 0, false⟩
/-- MBX_MSGQ.vf (R834). -/
def MBX_MSGQ.vf : Desc := ⟨.mbx, 0x00380080, 1, 0x0, 1, 0x0, 0, 12, .ro, .fixed, 0, false⟩
/-- MBX_MSGQ.entry_valid (R834). -/
def MBX_MSGQ.entry_valid : Desc := ⟨.mbx, 0x00380080, 1, 0x0, 1, 0x0, 12, 1, .ro, .fixed, 0, false⟩
/-- MBX_CNT.count (R834). -/
def MBX_CNT.count : Desc := ⟨.mbx, 0x00380100, 1, 0x0, 1, 0x0, 0, 64, .ro, .fixed, 0, false⟩

/-- Fields of MBX, piece 0. -/
def mbxFields0 : List Desc :=
  [MBX_CFG.route, MBX_CFG.vector, MBX_MSGQ.vf, MBX_MSGQ.entry_valid,
   MBX_CNT.count]

/-- The fields of MBX beside the common registers. -/
def mbxFields : List Desc :=
  mbxFields0

/-! ### WQ -/

/-- WQ_QCMD.queue (R190). -/
def WQ_QCMD.queue : Desc := ⟨.wq, 0x00400020, 1, 0x0, 1, 0x0, 0, 16, .rw, .live, 0, false⟩
/-- WQ_QCMD.action (R190). -/
def WQ_QCMD.action : Desc := ⟨.wq, 0x00400020, 1, 0x0, 1, 0x0, 16, 4, .rw, .live, 0, false⟩
/-- WQ_QCMD.go (R190). -/
def WQ_QCMD.go : Desc := ⟨.wq, 0x00400020, 1, 0x0, 1, 0x0, 20, 1, .wo, .live, 0, true⟩
/-- WQ_QCMD.busy (R190). -/
def WQ_QCMD.busy : Desc := ⟨.wq, 0x00400020, 1, 0x0, 1, 0x0, 21, 1, .ro, .fixed, 0, false⟩
/-- WQ_QCMD.result (R190). -/
def WQ_QCMD.result : Desc := ⟨.wq, 0x00400020, 1, 0x0, 1, 0x0, 24, 8, .ro, .fixed, 0, false⟩
/-- WQ_ERRQ.queue (R190). -/
def WQ_ERRQ.queue : Desc := ⟨.wq, 0x00400028, 1, 0x0, 1, 0x0, 0, 16, .ro, .fixed, 0, false⟩
/-- WQ_ERRQ.cause (R190). -/
def WQ_ERRQ.cause : Desc := ⟨.wq, 0x00400028, 1, 0x0, 1, 0x0, 16, 8, .ro, .fixed, 0, false⟩
/-- WQ_ERRQ.count (R190). -/
def WQ_ERRQ.count : Desc := ⟨.wq, 0x00400028, 1, 0x0, 1, 0x0, 24, 8, .rc, .fixed, 0, false⟩
/-- WQ_ROUND.round (R190). -/
def WQ_ROUND.round : Desc := ⟨.wq, 0x00400030, 1, 0x0, 1, 0x0, 0, 16, .ro, .fixed, 0, false⟩
/-- WQ_DB_IGNORED.count (R190). -/
def WQ_DB_IGNORED.count : Desc := ⟨.wq, 0x00400100, 1, 0x0, 1, 0x0, 0, 64, .ro, .fixed, 0, false⟩
/-- WQ_PUSH_TAKEN.count (R190). -/
def WQ_PUSH_TAKEN.count : Desc := ⟨.wq, 0x00400108, 1, 0x0, 1, 0x0, 0, 64, .ro, .fixed, 0, false⟩
/-- WQ_PUSH_DEFER.count (R190). -/
def WQ_PUSH_DEFER.count : Desc := ⟨.wq, 0x00400110, 1, 0x0, 1, 0x0, 0, 64, .ro, .fixed, 0, false⟩
/-- WQ_FETCH_RETRY.count (R190). -/
def WQ_FETCH_RETRY.count : Desc := ⟨.wq, 0x00400118, 1, 0x0, 1, 0x0, 0, 64, .ro, .fixed, 0, false⟩
/-- WQ_PRIV_DROP.count (R190). -/
def WQ_PRIV_DROP.count : Desc := ⟨.wq, 0x00400120, 1, 0x0, 1, 0x0, 0, 64, .ro, .fixed, 0, false⟩
/-- WQ_GROUP_OWNER.pf (R190). -/
def WQ_GROUP_OWNER.pf : Desc := ⟨.wq, 0x00410000, 2048, 0x8, 1, 0x0, 0, 3, .rw, .static, 0, true⟩
/-- WQ_GROUP_OWNER.is_vf (R190). -/
def WQ_GROUP_OWNER.is_vf : Desc := ⟨.wq, 0x00410000, 2048, 0x8, 1, 0x0, 3, 1, .rw, .static, 0, true⟩
/-- WQ_GROUP_OWNER.vf (R190). -/
def WQ_GROUP_OWNER.vf : Desc := ⟨.wq, 0x00410000, 2048, 0x8, 1, 0x0, 4, 12, .rw, .static, 0, true⟩
/-- WQ_GROUP_OWNER.valid (R190). -/
def WQ_GROUP_OWNER.valid : Desc := ⟨.wq, 0x00410000, 2048, 0x8, 1, 0x0, 16, 1, .rw, .static, 0, true⟩
/-- WQ_HGROUP.mask (R190). -/
def WQ_HGROUP.mask : Desc := ⟨.wq, 0x00420000, 1024, 0x40, 1, 0x0, 256, 16, .rw, .live, 0, false⟩
/-- WQ_HGROUP.valid (R190). -/
def WQ_HGROUP.valid : Desc := ⟨.wq, 0x00420000, 1024, 0x40, 1, 0x0, 272, 1, .rw, .live, 0, false⟩
/-- WQ_HGROUP.member0 (R190). -/
def WQ_HGROUP.member0 : Desc := ⟨.wq, 0x00420000, 1024, 0x40, 1, 0x0, 0, 16, .rw, .live, 0, false⟩
/-- WQ_HGROUP.member1 (R190). -/
def WQ_HGROUP.member1 : Desc := ⟨.wq, 0x00420000, 1024, 0x40, 1, 0x0, 16, 16, .rw, .live, 0, false⟩
/-- WQ_HGROUP.member2 (R190). -/
def WQ_HGROUP.member2 : Desc := ⟨.wq, 0x00420000, 1024, 0x40, 1, 0x0, 32, 16, .rw, .live, 0, false⟩
/-- WQ_HGROUP.member3 (R190). -/
def WQ_HGROUP.member3 : Desc := ⟨.wq, 0x00420000, 1024, 0x40, 1, 0x0, 48, 16, .rw, .live, 0, false⟩
/-- WQ_HGROUP.member4 (R190). -/
def WQ_HGROUP.member4 : Desc := ⟨.wq, 0x00420000, 1024, 0x40, 1, 0x0, 64, 16, .rw, .live, 0, false⟩
/-- WQ_HGROUP.member5 (R190). -/
def WQ_HGROUP.member5 : Desc := ⟨.wq, 0x00420000, 1024, 0x40, 1, 0x0, 80, 16, .rw, .live, 0, false⟩
/-- WQ_HGROUP.member6 (R190). -/
def WQ_HGROUP.member6 : Desc := ⟨.wq, 0x00420000, 1024, 0x40, 1, 0x0, 96, 16, .rw, .live, 0, false⟩
/-- WQ_HGROUP.member7 (R190). -/
def WQ_HGROUP.member7 : Desc := ⟨.wq, 0x00420000, 1024, 0x40, 1, 0x0, 112, 16, .rw, .live, 0, false⟩
/-- WQ_HGROUP.member8 (R190). -/
def WQ_HGROUP.member8 : Desc := ⟨.wq, 0x00420000, 1024, 0x40, 1, 0x0, 128, 16, .rw, .live, 0, false⟩
/-- WQ_HGROUP.member9 (R190). -/
def WQ_HGROUP.member9 : Desc := ⟨.wq, 0x00420000, 1024, 0x40, 1, 0x0, 144, 16, .rw, .live, 0, false⟩
/-- WQ_HGROUP.member10 (R190). -/
def WQ_HGROUP.member10 : Desc := ⟨.wq, 0x00420000, 1024, 0x40, 1, 0x0, 160, 16, .rw, .live, 0, false⟩
/-- WQ_HGROUP.member11 (R190). -/
def WQ_HGROUP.member11 : Desc := ⟨.wq, 0x00420000, 1024, 0x40, 1, 0x0, 176, 16, .rw, .live, 0, false⟩
/-- WQ_HGROUP.member12 (R190). -/
def WQ_HGROUP.member12 : Desc := ⟨.wq, 0x00420000, 1024, 0x40, 1, 0x0, 192, 16, .rw, .live, 0, false⟩
/-- WQ_HGROUP.member13 (R190). -/
def WQ_HGROUP.member13 : Desc := ⟨.wq, 0x00420000, 1024, 0x40, 1, 0x0, 208, 16, .rw, .live, 0, false⟩
/-- WQ_HGROUP.member14 (R190). -/
def WQ_HGROUP.member14 : Desc := ⟨.wq, 0x00420000, 1024, 0x40, 1, 0x0, 224, 16, .rw, .live, 0, false⟩
/-- WQ_HGROUP.member15 (R190). -/
def WQ_HGROUP.member15 : Desc := ⟨.wq, 0x00420000, 1024, 0x40, 1, 0x0, 240, 16, .rw, .live, 0, false⟩

/-- Fields of WQ, piece 0. -/
def wqFields0 : List Desc :=
  [WQ_QCMD.queue, WQ_QCMD.action, WQ_QCMD.go, WQ_QCMD.busy,
   WQ_QCMD.result, WQ_ERRQ.queue, WQ_ERRQ.cause, WQ_ERRQ.count,
   WQ_ROUND.round, WQ_DB_IGNORED.count, WQ_PUSH_TAKEN.count, WQ_PUSH_DEFER.count,
   WQ_FETCH_RETRY.count, WQ_PRIV_DROP.count, WQ_GROUP_OWNER.pf, WQ_GROUP_OWNER.is_vf]

/-- Fields of WQ, piece 1. -/
def wqFields1 : List Desc :=
  [WQ_GROUP_OWNER.vf, WQ_GROUP_OWNER.valid, WQ_HGROUP.mask, WQ_HGROUP.valid,
   WQ_HGROUP.member0, WQ_HGROUP.member1, WQ_HGROUP.member2, WQ_HGROUP.member3,
   WQ_HGROUP.member4, WQ_HGROUP.member5, WQ_HGROUP.member6, WQ_HGROUP.member7,
   WQ_HGROUP.member8, WQ_HGROUP.member9, WQ_HGROUP.member10, WQ_HGROUP.member11]

/-- Fields of WQ, piece 2. -/
def wqFields2 : List Desc :=
  [WQ_HGROUP.member12, WQ_HGROUP.member13, WQ_HGROUP.member14, WQ_HGROUP.member15]

/-- The fields of WQ beside the common registers. -/
def wqFields : List Desc :=
  wqFields0 ++ wqFields1 ++ wqFields2

/-! ### CQ -/

/-- CQ_POOL_STAT.free (R243). -/
def CQ_POOL_STAT.free : Desc := ⟨.cq, 0x00480020, 1, 0x0, 1, 0x0, 0, 17, .ro, .fixed, 65536, false⟩
/-- CQ_POOL_STAT.empty_count (R243). -/
def CQ_POOL_STAT.empty_count : Desc := ⟨.cq, 0x00480020, 1, 0x0, 1, 0x0, 32, 32, .ro, .fixed, 0, false⟩
/-- CQ_POLL.interval_ns (R243). -/
def CQ_POLL.interval_ns : Desc := ⟨.cq, 0x00480028, 1, 0x0, 1, 0x0, 0, 16, .rw, .live, 1000, false⟩
/-- CQ_STALLQ.ring (R243). -/
def CQ_STALLQ.ring : Desc := ⟨.cq, 0x00480030, 1, 0x0, 1, 0x0, 0, 14, .ro, .fixed, 0, false⟩
/-- CQ_STALLQ.cause (R243). -/
def CQ_STALLQ.cause : Desc := ⟨.cq, 0x00480030, 1, 0x0, 1, 0x0, 14, 2, .ro, .fixed, 0, false⟩
/-- CQ_STALLQ.count (R243). -/
def CQ_STALLQ.count : Desc := ⟨.cq, 0x00480030, 1, 0x0, 1, 0x0, 24, 8, .rc, .fixed, 0, false⟩
/-- CQ_CONS_BAD.count (R243). -/
def CQ_CONS_BAD.count : Desc := ⟨.cq, 0x00480100, 1, 0x0, 1, 0x0, 0, 64, .ro, .fixed, 0, false⟩
/-- CQ_PRIV_DROP.count (R243). -/
def CQ_PRIV_DROP.count : Desc := ⟨.cq, 0x00480108, 1, 0x0, 1, 0x0, 0, 64, .ro, .fixed, 0, false⟩
/-- CQ_QUOTA_PF.quota (R243). -/
def CQ_QUOTA_PF.quota : Desc := ⟨.cq, 0x00480200, 8, 0x8, 1, 0x0, 0, 17, .rw, .live, 1024, false⟩
/-- CQ_QUOTA_PF.held (R243). -/
def CQ_QUOTA_PF.held : Desc := ⟨.cq, 0x00480200, 8, 0x8, 1, 0x0, 32, 17, .ro, .fixed, 0, false⟩
/-- CQ_QUOTA_VF.quota (R243). -/
def CQ_QUOTA_VF.quota : Desc := ⟨.cq, 0x00490000, 4096, 0x8, 1, 0x0, 0, 17, .rw, .live, 64, false⟩
/-- CQ_QUOTA_VF.held (R243). -/
def CQ_QUOTA_VF.held : Desc := ⟨.cq, 0x00490000, 4096, 0x8, 1, 0x0, 32, 17, .ro, .fixed, 0, false⟩

/-- Fields of CQ, piece 0. -/
def cqFields0 : List Desc :=
  [CQ_POOL_STAT.free, CQ_POOL_STAT.empty_count, CQ_POLL.interval_ns, CQ_STALLQ.ring,
   CQ_STALLQ.cause, CQ_STALLQ.count, CQ_CONS_BAD.count, CQ_PRIV_DROP.count,
   CQ_QUOTA_PF.quota, CQ_QUOTA_PF.held, CQ_QUOTA_VF.quota, CQ_QUOTA_VF.held]

/-- The fields of CQ beside the common registers. -/
def cqFields : List Desc :=
  cqFields0

/-! ### QCTX -/

/-- WQ_CTX.ring_base (R177). -/
def WQ_CTX.ring_base : Desc := ⟨.wq, 0x01400000, 65536, 0x40, 1, 0x0, 0, 64, .rw, .static, 0, false⟩
/-- WQ_CTX.status_addr (R177). -/
def WQ_CTX.status_addr : Desc := ⟨.wq, 0x01400000, 65536, 0x40, 1, 0x0, 64, 64, .rw, .static, 0, false⟩
/-- WQ_CTX.log2_slots (R177). -/
def WQ_CTX.log2_slots : Desc := ⟨.wq, 0x01400000, 65536, 0x40, 1, 0x0, 128, 5, .rw, .static, 0, false⟩
/-- WQ_CTX.type (R177). -/
def WQ_CTX.type : Desc := ⟨.wq, 0x01400000, 65536, 0x40, 1, 0x0, 133, 3, .rw, .static, 0, false⟩
/-- WQ_CTX.weight (R177). -/
def WQ_CTX.weight : Desc := ⟨.wq, 0x01400000, 65536, 0x40, 1, 0x0, 136, 8, .rw, .live, 1, false⟩
/-- WQ_CTX.burst_m1 (R177). -/
def WQ_CTX.burst_m1 : Desc := ⟨.wq, 0x01400000, 65536, 0x40, 1, 0x0, 144, 6, .rw, .live, 0, false⟩
/-- WQ_CTX.account (R177). -/
def WQ_CTX.account : Desc := ⟨.wq, 0x01400000, 65536, 0x40, 1, 0x0, 152, 12, .rw, .static, 0, false⟩
/-- WQ_CTX.cq_ring (R177). -/
def WQ_CTX.cq_ring : Desc := ⟨.wq, 0x01400000, 65536, 0x40, 1, 0x0, 164, 14, .rw, .static, 0, false⟩
/-- WQ_CTX.ats (R177). -/
def WQ_CTX.ats : Desc := ⟨.wq, 0x01400000, 65536, 0x40, 1, 0x0, 178, 1, .rw, .static, 0, false⟩
/-- WQ_CTX.start_idx (R177). -/
def WQ_CTX.start_idx : Desc := ⟨.wq, 0x01400000, 65536, 0x40, 1, 0x0, 192, 32, .rw, .static, 0, false⟩
/-- WQ_CTX.next_sseq (R177). -/
def WQ_CTX.next_sseq : Desc := ⟨.wq, 0x01400000, 65536, 0x40, 1, 0x0, 224, 16, .rw, .static, 0, false⟩
/-- WQ_CTX.gen (R177). -/
def WQ_CTX.gen : Desc := ⟨.wq, 0x01400000, 65536, 0x40, 1, 0x0, 240, 8, .rw, .static, 0, false⟩
/-- WQ_CTX.dev_prod (R177). -/
def WQ_CTX.dev_prod : Desc := ⟨.wq, 0x01400000, 65536, 0x40, 1, 0x0, 256, 32, .ro, .fixed, 0, false⟩
/-- WQ_CTX.fetch_idx (R177). -/
def WQ_CTX.fetch_idx : Desc := ⟨.wq, 0x01400000, 65536, 0x40, 1, 0x0, 288, 32, .ro, .fixed, 0, false⟩
/-- WQ_CTX.accept_index (R177). -/
def WQ_CTX.accept_index : Desc := ⟨.wq, 0x01400000, 65536, 0x40, 1, 0x0, 320, 32, .ro, .fixed, 0, false⟩
/-- WQ_CTX.accepted_sseq (R177). -/
def WQ_CTX.accepted_sseq : Desc := ⟨.wq, 0x01400000, 65536, 0x40, 1, 0x0, 352, 16, .ro, .fixed, 0, false⟩
/-- WQ_CTX.state (R177). -/
def WQ_CTX.state : Desc := ⟨.wq, 0x01400000, 65536, 0x40, 1, 0x0, 368, 4, .ro, .fixed, 0, false⟩
/-- WQ_CTX.err_cause (R177). -/
def WQ_CTX.err_cause : Desc := ⟨.wq, 0x01400000, 65536, 0x40, 1, 0x0, 372, 8, .ro, .fixed, 0, false⟩
/-- WQ_CTX.err_tag (R177). -/
def WQ_CTX.err_tag : Desc := ⟨.wq, 0x01400000, 65536, 0x40, 1, 0x0, 384, 32, .ro, .fixed, 0, false⟩
/-- WQ_CTX.done_head (R177). -/
def WQ_CTX.done_head : Desc := ⟨.wq, 0x01400000, 65536, 0x40, 1, 0x0, 416, 32, .ro, .fixed, 0, false⟩
/-- WQ_CTX.quota (R177). -/
def WQ_CTX.quota : Desc := ⟨.wq, 0x01400000, 65536, 0x40, 1, 0x0, 448, 8, .ro, .fixed, 0, false⟩

/-- Fields of QCTX, piece 0. -/
def qctxFields0 : List Desc :=
  [WQ_CTX.ring_base, WQ_CTX.status_addr, WQ_CTX.log2_slots, WQ_CTX.type,
   WQ_CTX.weight, WQ_CTX.burst_m1, WQ_CTX.account, WQ_CTX.cq_ring,
   WQ_CTX.ats, WQ_CTX.start_idx, WQ_CTX.next_sseq, WQ_CTX.gen,
   WQ_CTX.dev_prod, WQ_CTX.fetch_idx, WQ_CTX.accept_index, WQ_CTX.accepted_sseq]

/-- Fields of QCTX, piece 1. -/
def qctxFields1 : List Desc :=
  [WQ_CTX.state, WQ_CTX.err_cause, WQ_CTX.err_tag, WQ_CTX.done_head,
   WQ_CTX.quota]

/-- The fields of QCTX beside the common registers. -/
def qctxFields : List Desc :=
  qctxFields0 ++ qctxFields1

/-! ### RCTX -/

/-- CQ_CTX.base (R241). -/
def CQ_CTX.base : Desc := ⟨.cq, 0x01800000, 16384, 0x40, 1, 0x0, 0, 64, .rw, .static, 0, false⟩
/-- CQ_CTX.cons_addr (R241). -/
def CQ_CTX.cons_addr : Desc := ⟨.cq, 0x01800000, 16384, 0x40, 1, 0x0, 64, 64, .rw, .static, 0, false⟩
/-- CQ_CTX.log2_slots (R241). -/
def CQ_CTX.log2_slots : Desc := ⟨.cq, 0x01800000, 16384, 0x40, 1, 0x0, 128, 4, .rw, .static, 0, false⟩
/-- CQ_CTX.ats (R241). -/
def CQ_CTX.ats : Desc := ⟨.cq, 0x01800000, 16384, 0x40, 1, 0x0, 132, 1, .rw, .static, 0, false⟩
/-- CQ_CTX.cseq_base (R241). -/
def CQ_CTX.cseq_base : Desc := ⟨.cq, 0x01800000, 16384, 0x40, 1, 0x0, 144, 16, .rw, .static, 0, false⟩
/-- CQ_CTX.pf (R241). -/
def CQ_CTX.pf : Desc := ⟨.cq, 0x01800000, 16384, 0x40, 1, 0x0, 160, 3, .rw, .static, 0, false⟩
/-- CQ_CTX.is_vf (R241). -/
def CQ_CTX.is_vf : Desc := ⟨.cq, 0x01800000, 16384, 0x40, 1, 0x0, 163, 1, .rw, .static, 0, false⟩
/-- CQ_CTX.vf (R241). -/
def CQ_CTX.vf : Desc := ⟨.cq, 0x01800000, 16384, 0x40, 1, 0x0, 164, 12, .rw, .static, 0, false⟩
/-- CQ_CTX.valid (R241). -/
def CQ_CTX.valid : Desc := ⟨.cq, 0x01800000, 16384, 0x40, 1, 0x0, 176, 1, .rw, .static, 0, false⟩
/-- CQ_CTX.mod_count (R241). -/
def CQ_CTX.mod_count : Desc := ⟨.cq, 0x01800000, 16384, 0x40, 1, 0x0, 192, 16, .rw, .live, 0, false⟩
/-- CQ_CTX.mod_ns (R241). -/
def CQ_CTX.mod_ns : Desc := ⟨.cq, 0x01800000, 16384, 0x40, 1, 0x0, 208, 32, .rw, .live, 0, false⟩
/-- CQ_CTX.vector (R241). -/
def CQ_CTX.vector : Desc := ⟨.cq, 0x01800000, 16384, 0x40, 1, 0x0, 240, 11, .rw, .live, 0, false⟩
/-- CQ_CTX.irq_en (R241). -/
def CQ_CTX.irq_en : Desc := ⟨.cq, 0x01800000, 16384, 0x40, 1, 0x0, 251, 1, .rw, .live, 0, false⟩
/-- CQ_CTX.prod (R241). -/
def CQ_CTX.prod : Desc := ⟨.cq, 0x01800000, 16384, 0x40, 1, 0x0, 256, 32, .ro, .fixed, 0, false⟩
/-- CQ_CTX.cons_seen (R241). -/
def CQ_CTX.cons_seen : Desc := ⟨.cq, 0x01800000, 16384, 0x40, 1, 0x0, 288, 32, .ro, .fixed, 0, false⟩
/-- CQ_CTX.promised (R241). -/
def CQ_CTX.promised : Desc := ⟨.cq, 0x01800000, 16384, 0x40, 1, 0x0, 320, 32, .ro, .fixed, 0, false⟩
/-- CQ_CTX.backlog (R241). -/
def CQ_CTX.backlog : Desc := ⟨.cq, 0x01800000, 16384, 0x40, 1, 0x0, 352, 16, .ro, .fixed, 0, false⟩
/-- CQ_CTX.stalled (R241). -/
def CQ_CTX.stalled : Desc := ⟨.cq, 0x01800000, 16384, 0x40, 1, 0x0, 368, 1, .ro, .fixed, 0, false⟩
/-- CQ_CTX.stall_cause (R241). -/
def CQ_CTX.stall_cause : Desc := ⟨.cq, 0x01800000, 16384, 0x40, 1, 0x0, 369, 2, .ro, .fixed, 0, false⟩
/-- CQ_CTX.last_irq_tt (R241). -/
def CQ_CTX.last_irq_tt : Desc := ⟨.cq, 0x01800000, 16384, 0x40, 1, 0x0, 384, 64, .ro, .fixed, 0, false⟩

/-- Fields of RCTX, piece 0. -/
def rctxFields0 : List Desc :=
  [CQ_CTX.base, CQ_CTX.cons_addr, CQ_CTX.log2_slots, CQ_CTX.ats,
   CQ_CTX.cseq_base, CQ_CTX.pf, CQ_CTX.is_vf, CQ_CTX.vf,
   CQ_CTX.valid, CQ_CTX.mod_count, CQ_CTX.mod_ns, CQ_CTX.vector,
   CQ_CTX.irq_en, CQ_CTX.prod, CQ_CTX.cons_seen, CQ_CTX.promised]

/-- Fields of RCTX, piece 1. -/
def rctxFields1 : List Desc :=
  [CQ_CTX.backlog, CQ_CTX.stalled, CQ_CTX.stall_cause, CQ_CTX.last_irq_tt]

/-- The fields of RCTX beside the common registers. -/
def rctxFields : List Desc :=
  rctxFields0 ++ rctxFields1

end Sys2Proof.Machine
end

