-- ==== Sys2Proof/Machine/RegsNet.lean ====
section
/-! DEFINITION. The register fields of the blocks PP, FT, TM, TRN, transcribed from the register
tables of their chapters (PP: R357-R361; FT: R406; TM: R447; TRN: R527). -/
namespace Sys2Proof.Machine

/-! ### PP -/

/-- PP_ETH_MODE.quad0 (R357-R361). -/
def PP_ETH_MODE.quad0 : Desc := ⟨.pp, 0x00500020, 1, 0x0, 1, 0x0, 0, 3, .rw, .static, 0, true⟩
/-- PP_ETH_MODE.quad1 (R357-R361). -/
def PP_ETH_MODE.quad1 : Desc := ⟨.pp, 0x00500020, 1, 0x0, 1, 0x0, 3, 3, .rw, .static, 0, true⟩
/-- PP_ETH_MODE.quad2 (R357-R361). -/
def PP_ETH_MODE.quad2 : Desc := ⟨.pp, 0x00500020, 1, 0x0, 1, 0x0, 6, 3, .rw, .static, 0, true⟩
/-- PP_ETH_MODE.quad3 (R357-R361). -/
def PP_ETH_MODE.quad3 : Desc := ⟨.pp, 0x00500020, 1, 0x0, 1, 0x0, 9, 3, .rw, .static, 0, true⟩
/-- PP_CFG.start_state (R357-R361). -/
def PP_CFG.start_state : Desc := ⟨.pp, 0x00500100, 2, 0x40, 1, 0x0, 0, 6, .rw, .staged, 0, false⟩
/-- PP_CFG.cipher_after (R357-R361). -/
def PP_CFG.cipher_after : Desc := ⟨.pp, 0x00500100, 2, 0x40, 1, 0x0, 6, 4, .rw, .staged, 0, false⟩
/-- PP_CFG.reinject_ch (R357-R361). -/
def PP_CFG.reinject_ch : Desc := ⟨.pp, 0x00500100, 2, 0x40, 1, 0x0, 10, 12, .rw, .staged, 0, false⟩
/-- PP_ARB.w_htx (R357-R361). -/
def PP_ARB.w_htx : Desc := ⟨.pp, 0x00500108, 2, 0x40, 1, 0x0, 0, 4, .rw, .live, 4, false⟩
/-- PP_ARB.w_rly (R357-R361). -/
def PP_ARB.w_rly : Desc := ⟨.pp, 0x00500108, 2, 0x40, 1, 0x0, 4, 4, .rw, .live, 2, false⟩
/-- PP_ARB.w_trn (R357-R361). -/
def PP_ARB.w_trn : Desc := ⟨.pp, 0x00500108, 2, 0x40, 1, 0x0, 8, 4, .rw, .live, 4, false⟩
/-- PP_PROG_STAT.active_bank (R357-R361). -/
def PP_PROG_STAT.active_bank : Desc := ⟨.pp, 0x00500110, 2, 0x40, 1, 0x0, 0, 1, .ro, .fixed, 0, false⟩
/-- PP_PROG_STAT.draining (R357-R361). -/
def PP_PROG_STAT.draining : Desc := ⟨.pp, 0x00500110, 2, 0x40, 1, 0x0, 1, 1, .ro, .fixed, 0, false⟩
/-- PP_PROG_STAT.copying (R357-R361). -/
def PP_PROG_STAT.copying : Desc := ⟨.pp, 0x00500110, 2, 0x40, 1, 0x0, 2, 1, .ro, .fixed, 0, false⟩
/-- PP_CNT_ADDR.index (R357-R361). -/
def PP_CNT_ADDR.index : Desc := ⟨.pp, 0x00500200, 1, 0x0, 1, 0x0, 0, 17, .rw, .live, 0, false⟩
/-- PP_CNT_ADDR.pipe (R357-R361). -/
def PP_CNT_ADDR.pipe : Desc := ⟨.pp, 0x00500200, 1, 0x0, 1, 0x0, 17, 1, .rw, .live, 0, false⟩
/-- PP_CNT_ADDR.clear (R357-R361). -/
def PP_CNT_ADDR.clear : Desc := ⟨.pp, 0x00500200, 1, 0x0, 1, 0x0, 18, 1, .rw, .live, 0, false⟩
/-- PP_CNT_ADDR.go (R357-R361). -/
def PP_CNT_ADDR.go : Desc := ⟨.pp, 0x00500200, 1, 0x0, 1, 0x0, 19, 1, .wo, .live, 0, true⟩
/-- PP_CNT_ADDR.busy (R357-R361). -/
def PP_CNT_ADDR.busy : Desc := ⟨.pp, 0x00500200, 1, 0x0, 1, 0x0, 20, 1, .ro, .fixed, 0, false⟩
/-- PP_CNT_DATA.packets (R357-R361). -/
def PP_CNT_DATA.packets : Desc := ⟨.pp, 0x00500208, 1, 0x0, 1, 0x0, 0, 64, .ro, .fixed, 0, false⟩
/-- PP_CNT_DATA.bytes (R357-R361). -/
def PP_CNT_DATA.bytes : Desc := ⟨.pp, 0x00500208, 1, 0x0, 1, 0x0, 64, 64, .ro, .fixed, 0, false⟩
/-- PP_MIRROR.valid (R357-R361). -/
def PP_MIRROR.valid : Desc := ⟨.pp, 0x00500400, 16, 0x10, 1, 0x0, 0, 1, .rw, .live, 0, false⟩
/-- PP_MIRROR.point (R357-R361). -/
def PP_MIRROR.point : Desc := ⟨.pp, 0x00500400, 16, 0x10, 1, 0x0, 1, 1, .rw, .live, 0, false⟩
/-- PP_MIRROR.kind (R357-R361). -/
def PP_MIRROR.kind : Desc := ⟨.pp, 0x00500400, 16, 0x10, 1, 0x0, 2, 2, .rw, .live, 0, false⟩
/-- PP_MIRROR.target (R357-R361). -/
def PP_MIRROR.target : Desc := ⟨.pp, 0x00500400, 16, 0x10, 1, 0x0, 4, 16, .rw, .live, 0, false⟩
/-- PP_MIRROR.trunc (R357-R361). -/
def PP_MIRROR.trunc : Desc := ⟨.pp, 0x00500400, 16, 0x10, 1, 0x0, 20, 14, .rw, .live, 0, false⟩
/-- PP_MIRROR.sample (R357-R361). -/
def PP_MIRROR.sample : Desc := ⟨.pp, 0x00500400, 16, 0x10, 1, 0x0, 34, 8, .rw, .live, 0, false⟩
/-- PP_MIRROR.account (R357-R361). -/
def PP_MIRROR.account : Desc := ⟨.pp, 0x00500400, 16, 0x10, 1, 0x0, 42, 12, .rw, .live, 0, false⟩
/-- PP_MIRROR.tc (R357-R361). -/
def PP_MIRROR.tc : Desc := ⟨.pp, 0x00500400, 16, 0x10, 1, 0x0, 54, 3, .rw, .live, 0, false⟩
/-- PP_SLOW.mode (R357-R361). -/
def PP_SLOW.mode : Desc := ⟨.pp, 0x00500800, 8, 0x8, 1, 0x0, 0, 2, .rw, .live, 0, false⟩
/-- PP_SLOW.ch0 (R357-R361). -/
def PP_SLOW.ch0 : Desc := ⟨.pp, 0x00500800, 8, 0x8, 1, 0x0, 2, 12, .rw, .live, 0, false⟩
/-- PP_SLOW.ch1 (R357-R361). -/
def PP_SLOW.ch1 : Desc := ⟨.pp, 0x00500800, 8, 0x8, 1, 0x0, 14, 12, .rw, .live, 0, false⟩
/-- PP_SLOW_CNT.sent (R357-R361). -/
def PP_SLOW_CNT.sent : Desc := ⟨.pp, 0x00500900, 8, 0x10, 1, 0x0, 0, 64, .ro, .fixed, 0, false⟩
/-- PP_SLOW_CNT.dropped (R357-R361). -/
def PP_SLOW_CNT.dropped : Desc := ⟨.pp, 0x00500900, 8, 0x10, 1, 0x0, 64, 64, .ro, .fixed, 0, false⟩
/-- PP_PORT.enable (R357-R361). -/
def PP_PORT.enable : Desc := ⟨.pp, 0x00501000, 16, 0x40, 1, 0x0, 0, 1, .rw, .live, 0, false⟩
/-- PP_PORT.lt_en (R357-R361). -/
def PP_PORT.lt_en : Desc := ⟨.pp, 0x00501000, 16, 0x40, 1, 0x0, 1, 1, .rw, .live, 1, false⟩
/-- PP_PORT.pmd (R357-R361). -/
def PP_PORT.pmd : Desc := ⟨.pp, 0x00501000, 16, 0x40, 1, 0x0, 2, 2, .rw, .live, 0, false⟩
/-- PP_PORT.fc_mode (R357-R361). -/
def PP_PORT.fc_mode : Desc := ⟨.pp, 0x00501000, 16, 0x40, 1, 0x0, 4, 2, .rw, .staged, 0, false⟩
/-- PP_PORT.pfc_en (R357-R361). -/
def PP_PORT.pfc_en : Desc := ⟨.pp, 0x00501000, 16, 0x40, 1, 0x0, 6, 8, .rw, .staged, 0, false⟩
/-- PP_PORT.def_prio (R357-R361). -/
def PP_PORT.def_prio : Desc := ⟨.pp, 0x00501000, 16, 0x40, 1, 0x0, 14, 3, .rw, .live, 0, false⟩
/-- PP_PORT.mtu (R357-R361). -/
def PP_PORT.mtu : Desc := ⟨.pp, 0x00501000, 16, 0x40, 1, 0x0, 32, 14, .rw, .live, 9600, false⟩
/-- PP_PORT.account (R357-R361). -/
def PP_PORT.account : Desc := ⟨.pp, 0x00501000, 16, 0x40, 1, 0x0, 46, 12, .rw, .live, 0, false⟩
/-- PP_PORT_PFC.xoff (R357-R361). -/
def PP_PORT_PFC.xoff : Desc := ⟨.pp, 0x00501008, 16, 0x40, 1, 0x0, 0, 20, .rw, .staged, 0, false⟩
/-- PP_PORT_PFC.xon (R357-R361). -/
def PP_PORT_PFC.xon : Desc := ⟨.pp, 0x00501008, 16, 0x40, 1, 0x0, 20, 20, .rw, .staged, 0, false⟩
/-- PP_PORT_PFC.quanta (R357-R361). -/
def PP_PORT_PFC.quanta : Desc := ⟨.pp, 0x00501008, 16, 0x40, 1, 0x0, 40, 16, .rw, .staged, 65535, false⟩
/-- PP_PORT_BUF.buf_limit (R357-R361). -/
def PP_PORT_BUF.buf_limit : Desc := ⟨.pp, 0x00501010, 16, 0x40, 1, 0x0, 0, 20, .rw, .live, 65536, false⟩
/-- PP_PORT_STAT.link_up (R357-R361). -/
def PP_PORT_STAT.link_up : Desc := ⟨.pp, 0x00501018, 16, 0x40, 1, 0x0, 0, 1, .ro, .fixed, 0, false⟩
/-- PP_PORT_STAT.lt_done (R357-R361). -/
def PP_PORT_STAT.lt_done : Desc := ⟨.pp, 0x00501018, 16, 0x40, 1, 0x0, 1, 1, .ro, .fixed, 0, false⟩
/-- PP_PORT_STAT.fec_lock (R357-R361). -/
def PP_PORT_STAT.fec_lock : Desc := ⟨.pp, 0x00501018, 16, 0x40, 1, 0x0, 2, 1, .ro, .fixed, 0, false⟩
/-- PP_PORT_STAT.align (R357-R361). -/
def PP_PORT_STAT.align : Desc := ⟨.pp, 0x00501018, 16, 0x40, 1, 0x0, 3, 1, .ro, .fixed, 0, false⟩
/-- PP_PORT_STAT.link_change (R357-R361). -/
def PP_PORT_STAT.link_change : Desc := ⟨.pp, 0x00501018, 16, 0x40, 1, 0x0, 4, 1, .w1c, .live, 0, false⟩
/-- PP_PORT_STAT.xoff_sent (R357-R361). -/
def PP_PORT_STAT.xoff_sent : Desc := ⟨.pp, 0x00501018, 16, 0x40, 1, 0x0, 8, 8, .ro, .fixed, 0, false⟩
/-- PP_PORT_MAC.mac (R357-R361). -/
def PP_PORT_MAC.mac : Desc := ⟨.pp, 0x00501020, 16, 0x40, 1, 0x0, 0, 48, .rw, .live, 0, false⟩
/-- PP_PORT_CNT.count (R357-R361). -/
def PP_PORT_CNT.count : Desc := ⟨.pp, 0x00502000, 16, 0x80, 16, 0x8, 0, 64, .ro, .fixed, 0, false⟩
/-- PP_PIPE_CNT.count (R357-R361). -/
def PP_PIPE_CNT.count : Desc := ⟨.pp, 0x00503000, 2, 0x80, 13, 0x8, 0, 64, .ro, .fixed, 0, false⟩
/-- PP_PSTATE.base_len (R357-R361). -/
def PP_PSTATE.base_len : Desc := ⟨.pp, 0x00510000, 2, 0x1000, 64, 0x40, 0, 10, .rw, .staged, 0, false⟩
/-- PP_PSTATE.lf_off (R357-R361). -/
def PP_PSTATE.lf_off : Desc := ⟨.pp, 0x00510000, 2, 0x1000, 64, 0x40, 16, 6, .rw, .staged, 0, false⟩
/-- PP_PSTATE.lf_lsb (R357-R361). -/
def PP_PSTATE.lf_lsb : Desc := ⟨.pp, 0x00510000, 2, 0x1000, 64, 0x40, 22, 4, .rw, .staged, 0, false⟩
/-- PP_PSTATE.lf_width (R357-R361). -/
def PP_PSTATE.lf_width : Desc := ⟨.pp, 0x00510000, 2, 0x1000, 64, 0x40, 26, 4, .rw, .staged, 0, false⟩
/-- PP_PSTATE.lf_unit (R357-R361). -/
def PP_PSTATE.lf_unit : Desc := ⟨.pp, 0x00510000, 2, 0x1000, 64, 0x40, 30, 2, .rw, .staged, 0, false⟩
/-- PP_PSTATE.key_off (R357-R361). -/
def PP_PSTATE.key_off : Desc := ⟨.pp, 0x00510000, 2, 0x1000, 64, 0x40, 32, 6, .rw, .staged, 0, false⟩
/-- PP_PSTATE.key16 (R357-R361). -/
def PP_PSTATE.key16 : Desc := ⟨.pp, 0x00510000, 2, 0x1000, 64, 0x40, 38, 1, .rw, .staged, 0, false⟩
/-- PP_PSTATE.record (R357-R361). -/
def PP_PSTATE.record : Desc := ⟨.pp, 0x00510000, 2, 0x1000, 64, 0x40, 39, 1, .rw, .staged, 0, false⟩
/-- PP_PSTATE.layer_type (R357-R361). -/
def PP_PSTATE.layer_type : Desc := ⟨.pp, 0x00510000, 2, 0x1000, 64, 0x40, 40, 7, .rw, .staged, 0, false⟩
/-- PP_PSTATE.accept (R357-R361). -/
def PP_PSTATE.accept : Desc := ⟨.pp, 0x00510000, 2, 0x1000, 64, 0x40, 47, 1, .rw, .staged, 0, false⟩
/-- PP_PSTATE.ipv4 (R357-R361). -/
def PP_PSTATE.ipv4 : Desc := ⟨.pp, 0x00510000, 2, 0x1000, 64, 0x40, 48, 1, .rw, .staged, 0, false⟩
/-- PP_PSTATE.ipv6 (R357-R361). -/
def PP_PSTATE.ipv6 : Desc := ⟨.pp, 0x00510000, 2, 0x1000, 64, 0x40, 49, 1, .rw, .staged, 0, false⟩
/-- PP_PSTATE.frag6 (R357-R361). -/
def PP_PSTATE.frag6 : Desc := ⟨.pp, 0x00510000, 2, 0x1000, 64, 0x40, 50, 1, .rw, .staged, 0, false⟩
/-- PP_PSTATE.l4_csum (R357-R361). -/
def PP_PSTATE.l4_csum : Desc := ⟨.pp, 0x00510000, 2, 0x1000, 64, 0x40, 51, 1, .rw, .staged, 0, false⟩
/-- PP_PSTATE.vlan (R357-R361). -/
def PP_PSTATE.vlan : Desc := ⟨.pp, 0x00510000, 2, 0x1000, 64, 0x40, 52, 1, .rw, .staged, 0, false⟩
/-- PP_PSTATE.default_next (R357-R361). -/
def PP_PSTATE.default_next : Desc := ⟨.pp, 0x00510000, 2, 0x1000, 64, 0x40, 64, 6, .rw, .staged, 0, false⟩
/-- PP_PSTATE.default_valid (R357-R361). -/
def PP_PSTATE.default_valid : Desc := ⟨.pp, 0x00510000, 2, 0x1000, 64, 0x40, 70, 1, .rw, .staged, 0, false⟩
/-- PP_PSTATE.value0 (R357-R361). -/
def PP_PSTATE.value0 : Desc := ⟨.pp, 0x00510000, 2, 0x1000, 64, 0x40, 128, 16, .rw, .staged, 0, false⟩
/-- PP_PSTATE.mask0 (R357-R361). -/
def PP_PSTATE.mask0 : Desc := ⟨.pp, 0x00510000, 2, 0x1000, 64, 0x40, 144, 16, .rw, .staged, 0, false⟩
/-- PP_PSTATE.next0 (R357-R361). -/
def PP_PSTATE.next0 : Desc := ⟨.pp, 0x00510000, 2, 0x1000, 64, 0x40, 160, 6, .rw, .staged, 0, false⟩
/-- PP_PSTATE.valid0 (R357-R361). -/
def PP_PSTATE.valid0 : Desc := ⟨.pp, 0x00510000, 2, 0x1000, 64, 0x40, 166, 1, .rw, .staged, 0, false⟩
/-- PP_PSTATE.value1 (R357-R361). -/
def PP_PSTATE.value1 : Desc := ⟨.pp, 0x00510000, 2, 0x1000, 64, 0x40, 192, 16, .rw, .staged, 0, false⟩
/-- PP_PSTATE.mask1 (R357-R361). -/
def PP_PSTATE.mask1 : Desc := ⟨.pp, 0x00510000, 2, 0x1000, 64, 0x40, 208, 16, .rw, .staged, 0, false⟩
/-- PP_PSTATE.next1 (R357-R361). -/
def PP_PSTATE.next1 : Desc := ⟨.pp, 0x00510000, 2, 0x1000, 64, 0x40, 224, 6, .rw, .staged, 0, false⟩
/-- PP_PSTATE.valid1 (R357-R361). -/
def PP_PSTATE.valid1 : Desc := ⟨.pp, 0x00510000, 2, 0x1000, 64, 0x40, 230, 1, .rw, .staged, 0, false⟩
/-- PP_PSTATE.value2 (R357-R361). -/
def PP_PSTATE.value2 : Desc := ⟨.pp, 0x00510000, 2, 0x1000, 64, 0x40, 256, 16, .rw, .staged, 0, false⟩
/-- PP_PSTATE.mask2 (R357-R361). -/
def PP_PSTATE.mask2 : Desc := ⟨.pp, 0x00510000, 2, 0x1000, 64, 0x40, 272, 16, .rw, .staged, 0, false⟩
/-- PP_PSTATE.next2 (R357-R361). -/
def PP_PSTATE.next2 : Desc := ⟨.pp, 0x00510000, 2, 0x1000, 64, 0x40, 288, 6, .rw, .staged, 0, false⟩
/-- PP_PSTATE.valid2 (R357-R361). -/
def PP_PSTATE.valid2 : Desc := ⟨.pp, 0x00510000, 2, 0x1000, 64, 0x40, 294, 1, .rw, .staged, 0, false⟩
/-- PP_PSTATE.value3 (R357-R361). -/
def PP_PSTATE.value3 : Desc := ⟨.pp, 0x00510000, 2, 0x1000, 64, 0x40, 320, 16, .rw, .staged, 0, false⟩
/-- PP_PSTATE.mask3 (R357-R361). -/
def PP_PSTATE.mask3 : Desc := ⟨.pp, 0x00510000, 2, 0x1000, 64, 0x40, 336, 16, .rw, .staged, 0, false⟩
/-- PP_PSTATE.next3 (R357-R361). -/
def PP_PSTATE.next3 : Desc := ⟨.pp, 0x00510000, 2, 0x1000, 64, 0x40, 352, 6, .rw, .staged, 0, false⟩
/-- PP_PSTATE.valid3 (R357-R361). -/
def PP_PSTATE.valid3 : Desc := ⟨.pp, 0x00510000, 2, 0x1000, 64, 0x40, 358, 1, .rw, .staged, 0, false⟩
/-- PP_PSTATE.value4 (R357-R361). -/
def PP_PSTATE.value4 : Desc := ⟨.pp, 0x00510000, 2, 0x1000, 64, 0x40, 384, 16, .rw, .staged, 0, false⟩
/-- PP_PSTATE.mask4 (R357-R361). -/
def PP_PSTATE.mask4 : Desc := ⟨.pp, 0x00510000, 2, 0x1000, 64, 0x40, 400, 16, .rw, .staged, 0, false⟩
/-- PP_PSTATE.next4 (R357-R361). -/
def PP_PSTATE.next4 : Desc := ⟨.pp, 0x00510000, 2, 0x1000, 64, 0x40, 416, 6, .rw, .staged, 0, false⟩
/-- PP_PSTATE.valid4 (R357-R361). -/
def PP_PSTATE.valid4 : Desc := ⟨.pp, 0x00510000, 2, 0x1000, 64, 0x40, 422, 1, .rw, .staged, 0, false⟩
/-- PP_PSTATE.value5 (R357-R361). -/
def PP_PSTATE.value5 : Desc := ⟨.pp, 0x00510000, 2, 0x1000, 64, 0x40, 448, 16, .rw, .staged, 0, false⟩
/-- PP_PSTATE.mask5 (R357-R361). -/
def PP_PSTATE.mask5 : Desc := ⟨.pp, 0x00510000, 2, 0x1000, 64, 0x40, 464, 16, .rw, .staged, 0, false⟩
/-- PP_PSTATE.next5 (R357-R361). -/
def PP_PSTATE.next5 : Desc := ⟨.pp, 0x00510000, 2, 0x1000, 64, 0x40, 480, 6, .rw, .staged, 0, false⟩
/-- PP_PSTATE.valid5 (R357-R361). -/
def PP_PSTATE.valid5 : Desc := ⟨.pp, 0x00510000, 2, 0x1000, 64, 0x40, 486, 1, .rw, .staged, 0, false⟩
/-- PP_STAGE.em0_table (R357-R361). -/
def PP_STAGE.em0_table : Desc := ⟨.pp, 0x00520000, 2, 0x800, 12, 0x80, 0, 8, .rw, .staged, 0, false⟩
/-- PP_STAGE.em1_table (R357-R361). -/
def PP_STAGE.em1_table : Desc := ⟨.pp, 0x00520000, 2, 0x800, 12, 0x80, 8, 8, .rw, .staged, 0, false⟩
/-- PP_STAGE.lt_table (R357-R361). -/
def PP_STAGE.lt_table : Desc := ⟨.pp, 0x00520000, 2, 0x800, 12, 0x80, 16, 8, .rw, .staged, 0, false⟩
/-- PP_STAGE.em0_en (R357-R361). -/
def PP_STAGE.em0_en : Desc := ⟨.pp, 0x00520000, 2, 0x800, 12, 0x80, 24, 1, .rw, .staged, 0, false⟩
/-- PP_STAGE.em1_en (R357-R361). -/
def PP_STAGE.em1_en : Desc := ⟨.pp, 0x00520000, 2, 0x800, 12, 0x80, 25, 1, .rw, .staged, 0, false⟩
/-- PP_STAGE.lt_en (R357-R361). -/
def PP_STAGE.lt_en : Desc := ⟨.pp, 0x00520000, 2, 0x800, 12, 0x80, 26, 1, .rw, .staged, 0, false⟩
/-- PP_STAGE.always_en (R357-R361). -/
def PP_STAGE.always_en : Desc := ⟨.pp, 0x00520000, 2, 0x800, 12, 0x80, 27, 1, .rw, .staged, 0, false⟩
/-- PP_STAGE.em0_koff (R357-R361). -/
def PP_STAGE.em0_koff : Desc := ⟨.pp, 0x00520000, 2, 0x800, 12, 0x80, 32, 4, .rw, .staged, 0, false⟩
/-- PP_STAGE.em0_klen (R357-R361). -/
def PP_STAGE.em0_klen : Desc := ⟨.pp, 0x00520000, 2, 0x800, 12, 0x80, 36, 4, .rw, .staged, 0, false⟩
/-- PP_STAGE.em1_koff (R357-R361). -/
def PP_STAGE.em1_koff : Desc := ⟨.pp, 0x00520000, 2, 0x800, 12, 0x80, 40, 4, .rw, .staged, 0, false⟩
/-- PP_STAGE.em1_klen (R357-R361). -/
def PP_STAGE.em1_klen : Desc := ⟨.pp, 0x00520000, 2, 0x800, 12, 0x80, 44, 4, .rw, .staged, 0, false⟩
/-- PP_STAGE.lt_koff (R357-R361). -/
def PP_STAGE.lt_koff : Desc := ⟨.pp, 0x00520000, 2, 0x800, 12, 0x80, 48, 4, .rw, .staged, 0, false⟩
/-- PP_STAGE.lt_klen (R357-R361). -/
def PP_STAGE.lt_klen : Desc := ⟨.pp, 0x00520000, 2, 0x800, 12, 0x80, 52, 4, .rw, .staged, 0, false⟩
/-- PP_STAGE.miss0 (R357-R361). -/
def PP_STAGE.miss0 : Desc := ⟨.pp, 0x00520000, 2, 0x800, 12, 0x80, 64, 8, .rw, .staged, 0, false⟩
/-- PP_STAGE.miss1 (R357-R361). -/
def PP_STAGE.miss1 : Desc := ⟨.pp, 0x00520000, 2, 0x800, 12, 0x80, 72, 8, .rw, .staged, 0, false⟩
/-- PP_STAGE.miss2 (R357-R361). -/
def PP_STAGE.miss2 : Desc := ⟨.pp, 0x00520000, 2, 0x800, 12, 0x80, 80, 8, .rw, .staged, 0, false⟩
/-- PP_STAGE.always_act (R357-R361). -/
def PP_STAGE.always_act : Desc := ⟨.pp, 0x00520000, 2, 0x800, 12, 0x80, 88, 8, .rw, .staged, 0, false⟩
/-- PP_STAGE.src0 (R357-R361). -/
def PP_STAGE.src0 : Desc := ⟨.pp, 0x00520000, 2, 0x800, 12, 0x80, 128, 1, .rw, .staged, 0, false⟩
/-- PP_STAGE.layer0 (R357-R361). -/
def PP_STAGE.layer0 : Desc := ⟨.pp, 0x00520000, 2, 0x800, 12, 0x80, 129, 4, .rw, .staged, 0, false⟩
/-- PP_STAGE.offset0 (R357-R361). -/
def PP_STAGE.offset0 : Desc := ⟨.pp, 0x00520000, 2, 0x800, 12, 0x80, 133, 9, .rw, .staged, 0, false⟩
/-- PP_STAGE.valid0 (R357-R361). -/
def PP_STAGE.valid0 : Desc := ⟨.pp, 0x00520000, 2, 0x800, 12, 0x80, 142, 1, .rw, .staged, 0, false⟩
/-- PP_STAGE.src1 (R357-R361). -/
def PP_STAGE.src1 : Desc := ⟨.pp, 0x00520000, 2, 0x800, 12, 0x80, 144, 1, .rw, .staged, 0, false⟩
/-- PP_STAGE.layer1 (R357-R361). -/
def PP_STAGE.layer1 : Desc := ⟨.pp, 0x00520000, 2, 0x800, 12, 0x80, 145, 4, .rw, .staged, 0, false⟩
/-- PP_STAGE.offset1 (R357-R361). -/
def PP_STAGE.offset1 : Desc := ⟨.pp, 0x00520000, 2, 0x800, 12, 0x80, 149, 9, .rw, .staged, 0, false⟩
/-- PP_STAGE.valid1 (R357-R361). -/
def PP_STAGE.valid1 : Desc := ⟨.pp, 0x00520000, 2, 0x800, 12, 0x80, 158, 1, .rw, .staged, 0, false⟩
/-- PP_STAGE.src2 (R357-R361). -/
def PP_STAGE.src2 : Desc := ⟨.pp, 0x00520000, 2, 0x800, 12, 0x80, 160, 1, .rw, .staged, 0, false⟩
/-- PP_STAGE.layer2 (R357-R361). -/
def PP_STAGE.layer2 : Desc := ⟨.pp, 0x00520000, 2, 0x800, 12, 0x80, 161, 4, .rw, .staged, 0, false⟩
/-- PP_STAGE.offset2 (R357-R361). -/
def PP_STAGE.offset2 : Desc := ⟨.pp, 0x00520000, 2, 0x800, 12, 0x80, 165, 9, .rw, .staged, 0, false⟩
/-- PP_STAGE.valid2 (R357-R361). -/
def PP_STAGE.valid2 : Desc := ⟨.pp, 0x00520000, 2, 0x800, 12, 0x80, 174, 1, .rw, .staged, 0, false⟩
/-- PP_STAGE.src3 (R357-R361). -/
def PP_STAGE.src3 : Desc := ⟨.pp, 0x00520000, 2, 0x800, 12, 0x80, 176, 1, .rw, .staged, 0, false⟩
/-- PP_STAGE.layer3 (R357-R361). -/
def PP_STAGE.layer3 : Desc := ⟨.pp, 0x00520000, 2, 0x800, 12, 0x80, 177, 4, .rw, .staged, 0, false⟩
/-- PP_STAGE.offset3 (R357-R361). -/
def PP_STAGE.offset3 : Desc := ⟨.pp, 0x00520000, 2, 0x800, 12, 0x80, 181, 9, .rw, .staged, 0, false⟩
/-- PP_STAGE.valid3 (R357-R361). -/
def PP_STAGE.valid3 : Desc := ⟨.pp, 0x00520000, 2, 0x800, 12, 0x80, 190, 1, .rw, .staged, 0, false⟩
/-- PP_STAGE.src4 (R357-R361). -/
def PP_STAGE.src4 : Desc := ⟨.pp, 0x00520000, 2, 0x800, 12, 0x80, 192, 1, .rw, .staged, 0, false⟩
/-- PP_STAGE.layer4 (R357-R361). -/
def PP_STAGE.layer4 : Desc := ⟨.pp, 0x00520000, 2, 0x800, 12, 0x80, 193, 4, .rw, .staged, 0, false⟩
/-- PP_STAGE.offset4 (R357-R361). -/
def PP_STAGE.offset4 : Desc := ⟨.pp, 0x00520000, 2, 0x800, 12, 0x80, 197, 9, .rw, .staged, 0, false⟩
/-- PP_STAGE.valid4 (R357-R361). -/
def PP_STAGE.valid4 : Desc := ⟨.pp, 0x00520000, 2, 0x800, 12, 0x80, 206, 1, .rw, .staged, 0, false⟩
/-- PP_STAGE.src5 (R357-R361). -/
def PP_STAGE.src5 : Desc := ⟨.pp, 0x00520000, 2, 0x800, 12, 0x80, 208, 1, .rw, .staged, 0, false⟩
/-- PP_STAGE.layer5 (R357-R361). -/
def PP_STAGE.layer5 : Desc := ⟨.pp, 0x00520000, 2, 0x800, 12, 0x80, 209, 4, .rw, .staged, 0, false⟩
/-- PP_STAGE.offset5 (R357-R361). -/
def PP_STAGE.offset5 : Desc := ⟨.pp, 0x00520000, 2, 0x800, 12, 0x80, 213, 9, .rw, .staged, 0, false⟩
/-- PP_STAGE.valid5 (R357-R361). -/
def PP_STAGE.valid5 : Desc := ⟨.pp, 0x00520000, 2, 0x800, 12, 0x80, 222, 1, .rw, .staged, 0, false⟩
/-- PP_STAGE.src6 (R357-R361). -/
def PP_STAGE.src6 : Desc := ⟨.pp, 0x00520000, 2, 0x800, 12, 0x80, 224, 1, .rw, .staged, 0, false⟩
/-- PP_STAGE.layer6 (R357-R361). -/
def PP_STAGE.layer6 : Desc := ⟨.pp, 0x00520000, 2, 0x800, 12, 0x80, 225, 4, .rw, .staged, 0, false⟩
/-- PP_STAGE.offset6 (R357-R361). -/
def PP_STAGE.offset6 : Desc := ⟨.pp, 0x00520000, 2, 0x800, 12, 0x80, 229, 9, .rw, .staged, 0, false⟩
/-- PP_STAGE.valid6 (R357-R361). -/
def PP_STAGE.valid6 : Desc := ⟨.pp, 0x00520000, 2, 0x800, 12, 0x80, 238, 1, .rw, .staged, 0, false⟩
/-- PP_STAGE.src7 (R357-R361). -/
def PP_STAGE.src7 : Desc := ⟨.pp, 0x00520000, 2, 0x800, 12, 0x80, 240, 1, .rw, .staged, 0, false⟩
/-- PP_STAGE.layer7 (R357-R361). -/
def PP_STAGE.layer7 : Desc := ⟨.pp, 0x00520000, 2, 0x800, 12, 0x80, 241, 4, .rw, .staged, 0, false⟩
/-- PP_STAGE.offset7 (R357-R361). -/
def PP_STAGE.offset7 : Desc := ⟨.pp, 0x00520000, 2, 0x800, 12, 0x80, 245, 9, .rw, .staged, 0, false⟩
/-- PP_STAGE.valid7 (R357-R361). -/
def PP_STAGE.valid7 : Desc := ⟨.pp, 0x00520000, 2, 0x800, 12, 0x80, 254, 1, .rw, .staged, 0, false⟩
/-- PP_STAGE.src8 (R357-R361). -/
def PP_STAGE.src8 : Desc := ⟨.pp, 0x00520000, 2, 0x800, 12, 0x80, 256, 1, .rw, .staged, 0, false⟩
/-- PP_STAGE.layer8 (R357-R361). -/
def PP_STAGE.layer8 : Desc := ⟨.pp, 0x00520000, 2, 0x800, 12, 0x80, 257, 4, .rw, .staged, 0, false⟩
/-- PP_STAGE.offset8 (R357-R361). -/
def PP_STAGE.offset8 : Desc := ⟨.pp, 0x00520000, 2, 0x800, 12, 0x80, 261, 9, .rw, .staged, 0, false⟩
/-- PP_STAGE.valid8 (R357-R361). -/
def PP_STAGE.valid8 : Desc := ⟨.pp, 0x00520000, 2, 0x800, 12, 0x80, 270, 1, .rw, .staged, 0, false⟩
/-- PP_STAGE.src9 (R357-R361). -/
def PP_STAGE.src9 : Desc := ⟨.pp, 0x00520000, 2, 0x800, 12, 0x80, 272, 1, .rw, .staged, 0, false⟩
/-- PP_STAGE.layer9 (R357-R361). -/
def PP_STAGE.layer9 : Desc := ⟨.pp, 0x00520000, 2, 0x800, 12, 0x80, 273, 4, .rw, .staged, 0, false⟩
/-- PP_STAGE.offset9 (R357-R361). -/
def PP_STAGE.offset9 : Desc := ⟨.pp, 0x00520000, 2, 0x800, 12, 0x80, 277, 9, .rw, .staged, 0, false⟩
/-- PP_STAGE.valid9 (R357-R361). -/
def PP_STAGE.valid9 : Desc := ⟨.pp, 0x00520000, 2, 0x800, 12, 0x80, 286, 1, .rw, .staged, 0, false⟩
/-- PP_STAGE.src10 (R357-R361). -/
def PP_STAGE.src10 : Desc := ⟨.pp, 0x00520000, 2, 0x800, 12, 0x80, 288, 1, .rw, .staged, 0, false⟩
/-- PP_STAGE.layer10 (R357-R361). -/
def PP_STAGE.layer10 : Desc := ⟨.pp, 0x00520000, 2, 0x800, 12, 0x80, 289, 4, .rw, .staged, 0, false⟩
/-- PP_STAGE.offset10 (R357-R361). -/
def PP_STAGE.offset10 : Desc := ⟨.pp, 0x00520000, 2, 0x800, 12, 0x80, 293, 9, .rw, .staged, 0, false⟩
/-- PP_STAGE.valid10 (R357-R361). -/
def PP_STAGE.valid10 : Desc := ⟨.pp, 0x00520000, 2, 0x800, 12, 0x80, 302, 1, .rw, .staged, 0, false⟩
/-- PP_STAGE.src11 (R357-R361). -/
def PP_STAGE.src11 : Desc := ⟨.pp, 0x00520000, 2, 0x800, 12, 0x80, 304, 1, .rw, .staged, 0, false⟩
/-- PP_STAGE.layer11 (R357-R361). -/
def PP_STAGE.layer11 : Desc := ⟨.pp, 0x00520000, 2, 0x800, 12, 0x80, 305, 4, .rw, .staged, 0, false⟩
/-- PP_STAGE.offset11 (R357-R361). -/
def PP_STAGE.offset11 : Desc := ⟨.pp, 0x00520000, 2, 0x800, 12, 0x80, 309, 9, .rw, .staged, 0, false⟩
/-- PP_STAGE.valid11 (R357-R361). -/
def PP_STAGE.valid11 : Desc := ⟨.pp, 0x00520000, 2, 0x800, 12, 0x80, 318, 1, .rw, .staged, 0, false⟩
/-- PP_STAGE.src12 (R357-R361). -/
def PP_STAGE.src12 : Desc := ⟨.pp, 0x00520000, 2, 0x800, 12, 0x80, 320, 1, .rw, .staged, 0, false⟩
/-- PP_STAGE.layer12 (R357-R361). -/
def PP_STAGE.layer12 : Desc := ⟨.pp, 0x00520000, 2, 0x800, 12, 0x80, 321, 4, .rw, .staged, 0, false⟩
/-- PP_STAGE.offset12 (R357-R361). -/
def PP_STAGE.offset12 : Desc := ⟨.pp, 0x00520000, 2, 0x800, 12, 0x80, 325, 9, .rw, .staged, 0, false⟩
/-- PP_STAGE.valid12 (R357-R361). -/
def PP_STAGE.valid12 : Desc := ⟨.pp, 0x00520000, 2, 0x800, 12, 0x80, 334, 1, .rw, .staged, 0, false⟩
/-- PP_STAGE.src13 (R357-R361). -/
def PP_STAGE.src13 : Desc := ⟨.pp, 0x00520000, 2, 0x800, 12, 0x80, 336, 1, .rw, .staged, 0, false⟩
/-- PP_STAGE.layer13 (R357-R361). -/
def PP_STAGE.layer13 : Desc := ⟨.pp, 0x00520000, 2, 0x800, 12, 0x80, 337, 4, .rw, .staged, 0, false⟩
/-- PP_STAGE.offset13 (R357-R361). -/
def PP_STAGE.offset13 : Desc := ⟨.pp, 0x00520000, 2, 0x800, 12, 0x80, 341, 9, .rw, .staged, 0, false⟩
/-- PP_STAGE.valid13 (R357-R361). -/
def PP_STAGE.valid13 : Desc := ⟨.pp, 0x00520000, 2, 0x800, 12, 0x80, 350, 1, .rw, .staged, 0, false⟩
/-- PP_STAGE.src14 (R357-R361). -/
def PP_STAGE.src14 : Desc := ⟨.pp, 0x00520000, 2, 0x800, 12, 0x80, 352, 1, .rw, .staged, 0, false⟩
/-- PP_STAGE.layer14 (R357-R361). -/
def PP_STAGE.layer14 : Desc := ⟨.pp, 0x00520000, 2, 0x800, 12, 0x80, 353, 4, .rw, .staged, 0, false⟩
/-- PP_STAGE.offset14 (R357-R361). -/
def PP_STAGE.offset14 : Desc := ⟨.pp, 0x00520000, 2, 0x800, 12, 0x80, 357, 9, .rw, .staged, 0, false⟩
/-- PP_STAGE.valid14 (R357-R361). -/
def PP_STAGE.valid14 : Desc := ⟨.pp, 0x00520000, 2, 0x800, 12, 0x80, 366, 1, .rw, .staged, 0, false⟩
/-- PP_STAGE.src15 (R357-R361). -/
def PP_STAGE.src15 : Desc := ⟨.pp, 0x00520000, 2, 0x800, 12, 0x80, 368, 1, .rw, .staged, 0, false⟩
/-- PP_STAGE.layer15 (R357-R361). -/
def PP_STAGE.layer15 : Desc := ⟨.pp, 0x00520000, 2, 0x800, 12, 0x80, 369, 4, .rw, .staged, 0, false⟩
/-- PP_STAGE.offset15 (R357-R361). -/
def PP_STAGE.offset15 : Desc := ⟨.pp, 0x00520000, 2, 0x800, 12, 0x80, 373, 9, .rw, .staged, 0, false⟩
/-- PP_STAGE.valid15 (R357-R361). -/
def PP_STAGE.valid15 : Desc := ⟨.pp, 0x00520000, 2, 0x800, 12, 0x80, 382, 1, .rw, .staged, 0, false⟩
/-- PP_ACTION.code (R357-R361). -/
def PP_ACTION.code : Desc := ⟨.pp, 0x00540000, 2, 0x40000, 24576, 0x8, 0, 8, .rw, .staged, 0, false⟩
/-- PP_ACTION.ds (R357-R361). -/
def PP_ACTION.ds : Desc := ⟨.pp, 0x00540000, 2, 0x40000, 24576, 0x8, 8, 1, .rw, .staged, 0, false⟩
/-- PP_ACTION.dw (R357-R361). -/
def PP_ACTION.dw : Desc := ⟨.pp, 0x00540000, 2, 0x40000, 24576, 0x8, 9, 3, .rw, .staged, 0, false⟩
/-- PP_ACTION.p (R357-R361). -/
def PP_ACTION.p : Desc := ⟨.pp, 0x00540000, 2, 0x40000, 24576, 0x8, 16, 8, .rw, .staged, 0, false⟩
/-- PP_ACTION.q (R357-R361). -/
def PP_ACTION.q : Desc := ⟨.pp, 0x00540000, 2, 0x40000, 24576, 0x8, 24, 8, .rw, .staged, 0, false⟩
/-- PP_ACTION.imm (R357-R361). -/
def PP_ACTION.imm : Desc := ⟨.pp, 0x00540000, 2, 0x40000, 24576, 0x8, 32, 32, .rw, .staged, 0, false⟩
/-- PP_ENCAP.length (R357-R361). -/
def PP_ENCAP.length : Desc := ⟨.pp, 0x005C0000, 2, 0x8000, 256, 0x80, 0, 7, .rw, .staged, 0, false⟩
/-- PP_ENCAP.bytes (R357-R361). -/
def PP_ENCAP.bytes : Desc := ⟨.pp, 0x005C0000, 2, 0x8000, 256, 0x80, 64, 960, .rw, .staged, 0, false⟩

/-- Fields of PP, piece 0. -/
def ppFields0 : List Desc :=
  [PP_ETH_MODE.quad0, PP_ETH_MODE.quad1, PP_ETH_MODE.quad2, PP_ETH_MODE.quad3,
   PP_CFG.start_state, PP_CFG.cipher_after, PP_CFG.reinject_ch, PP_ARB.w_htx,
   PP_ARB.w_rly, PP_ARB.w_trn, PP_PROG_STAT.active_bank, PP_PROG_STAT.draining,
   PP_PROG_STAT.copying, PP_CNT_ADDR.index, PP_CNT_ADDR.pipe, PP_CNT_ADDR.clear]

/-- Fields of PP, piece 1. -/
def ppFields1 : List Desc :=
  [PP_CNT_ADDR.go, PP_CNT_ADDR.busy, PP_CNT_DATA.packets, PP_CNT_DATA.bytes,
   PP_MIRROR.valid, PP_MIRROR.point, PP_MIRROR.kind, PP_MIRROR.target,
   PP_MIRROR.trunc, PP_MIRROR.sample, PP_MIRROR.account, PP_MIRROR.tc,
   PP_SLOW.mode, PP_SLOW.ch0, PP_SLOW.ch1, PP_SLOW_CNT.sent]

/-- Fields of PP, piece 2. -/
def ppFields2 : List Desc :=
  [PP_SLOW_CNT.dropped, PP_PORT.enable, PP_PORT.lt_en, PP_PORT.pmd,
   PP_PORT.fc_mode, PP_PORT.pfc_en, PP_PORT.def_prio, PP_PORT.mtu,
   PP_PORT.account, PP_PORT_PFC.xoff, PP_PORT_PFC.xon, PP_PORT_PFC.quanta,
   PP_PORT_BUF.buf_limit, PP_PORT_STAT.link_up, PP_PORT_STAT.lt_done, PP_PORT_STAT.fec_lock]

/-- Fields of PP, piece 3. -/
def ppFields3 : List Desc :=
  [PP_PORT_STAT.align, PP_PORT_STAT.link_change, PP_PORT_STAT.xoff_sent, PP_PORT_MAC.mac,
   PP_PORT_CNT.count, PP_PIPE_CNT.count, PP_PSTATE.base_len, PP_PSTATE.lf_off,
   PP_PSTATE.lf_lsb, PP_PSTATE.lf_width, PP_PSTATE.lf_unit, PP_PSTATE.key_off,
   PP_PSTATE.key16, PP_PSTATE.record, PP_PSTATE.layer_type, PP_PSTATE.accept]

/-- Fields of PP, piece 4. -/
def ppFields4 : List Desc :=
  [PP_PSTATE.ipv4, PP_PSTATE.ipv6, PP_PSTATE.frag6, PP_PSTATE.l4_csum,
   PP_PSTATE.vlan, PP_PSTATE.default_next, PP_PSTATE.default_valid, PP_PSTATE.value0,
   PP_PSTATE.mask0, PP_PSTATE.next0, PP_PSTATE.valid0, PP_PSTATE.value1,
   PP_PSTATE.mask1, PP_PSTATE.next1, PP_PSTATE.valid1, PP_PSTATE.value2]

/-- Fields of PP, piece 5. -/
def ppFields5 : List Desc :=
  [PP_PSTATE.mask2, PP_PSTATE.next2, PP_PSTATE.valid2, PP_PSTATE.value3,
   PP_PSTATE.mask3, PP_PSTATE.next3, PP_PSTATE.valid3, PP_PSTATE.value4,
   PP_PSTATE.mask4, PP_PSTATE.next4, PP_PSTATE.valid4, PP_PSTATE.value5,
   PP_PSTATE.mask5, PP_PSTATE.next5, PP_PSTATE.valid5, PP_STAGE.em0_table]

/-- Fields of PP, piece 6. -/
def ppFields6 : List Desc :=
  [PP_STAGE.em1_table, PP_STAGE.lt_table, PP_STAGE.em0_en, PP_STAGE.em1_en,
   PP_STAGE.lt_en, PP_STAGE.always_en, PP_STAGE.em0_koff, PP_STAGE.em0_klen,
   PP_STAGE.em1_koff, PP_STAGE.em1_klen, PP_STAGE.lt_koff, PP_STAGE.lt_klen,
   PP_STAGE.miss0, PP_STAGE.miss1, PP_STAGE.miss2, PP_STAGE.always_act]

/-- Fields of PP, piece 7. -/
def ppFields7 : List Desc :=
  [PP_STAGE.src0, PP_STAGE.layer0, PP_STAGE.offset0, PP_STAGE.valid0,
   PP_STAGE.src1, PP_STAGE.layer1, PP_STAGE.offset1, PP_STAGE.valid1,
   PP_STAGE.src2, PP_STAGE.layer2, PP_STAGE.offset2, PP_STAGE.valid2,
   PP_STAGE.src3, PP_STAGE.layer3, PP_STAGE.offset3, PP_STAGE.valid3]

/-- Fields of PP, piece 8. -/
def ppFields8 : List Desc :=
  [PP_STAGE.src4, PP_STAGE.layer4, PP_STAGE.offset4, PP_STAGE.valid4,
   PP_STAGE.src5, PP_STAGE.layer5, PP_STAGE.offset5, PP_STAGE.valid5,
   PP_STAGE.src6, PP_STAGE.layer6, PP_STAGE.offset6, PP_STAGE.valid6,
   PP_STAGE.src7, PP_STAGE.layer7, PP_STAGE.offset7, PP_STAGE.valid7]

/-- Fields of PP, piece 9. -/
def ppFields9 : List Desc :=
  [PP_STAGE.src8, PP_STAGE.layer8, PP_STAGE.offset8, PP_STAGE.valid8,
   PP_STAGE.src9, PP_STAGE.layer9, PP_STAGE.offset9, PP_STAGE.valid9,
   PP_STAGE.src10, PP_STAGE.layer10, PP_STAGE.offset10, PP_STAGE.valid10,
   PP_STAGE.src11, PP_STAGE.layer11, PP_STAGE.offset11, PP_STAGE.valid11]

/-- Fields of PP, piece 10. -/
def ppFields10 : List Desc :=
  [PP_STAGE.src12, PP_STAGE.layer12, PP_STAGE.offset12, PP_STAGE.valid12,
   PP_STAGE.src13, PP_STAGE.layer13, PP_STAGE.offset13, PP_STAGE.valid13,
   PP_STAGE.src14, PP_STAGE.layer14, PP_STAGE.offset14, PP_STAGE.valid14,
   PP_STAGE.src15, PP_STAGE.layer15, PP_STAGE.offset15, PP_STAGE.valid15]

/-- Fields of PP, piece 11. -/
def ppFields11 : List Desc :=
  [PP_ACTION.code, PP_ACTION.ds, PP_ACTION.dw, PP_ACTION.p,
   PP_ACTION.q, PP_ACTION.imm, PP_ENCAP.length, PP_ENCAP.bytes]

/-- The fields of PP beside the common registers. -/
def ppFields : List Desc :=
  ppFields0 ++ ppFields1 ++ ppFields2 ++ ppFields3 ++ ppFields4 ++ ppFields5 ++ ppFields6 ++ ppFields7 ++ ppFields8 ++ ppFields9 ++ ppFields10 ++ ppFields11

/-! ### FT -/

/-- FT_CMD.op (R406). -/
def FT_CMD.op : Desc := ⟨.ft, 0x00600100, 8, 0x100, 1, 0x0, 0, 4, .rw, .live, 0, false⟩
/-- FT_CMD.table (R406). -/
def FT_CMD.table : Desc := ⟨.ft, 0x00600100, 8, 0x100, 1, 0x0, 4, 6, .rw, .live, 0, false⟩
/-- FT_CMD.copies (R406). -/
def FT_CMD.copies : Desc := ⟨.ft, 0x00600100, 8, 0x100, 1, 0x0, 10, 2, .rw, .live, 0, false⟩
/-- FT_CMD.no_evict (R406). -/
def FT_CMD.no_evict : Desc := ⟨.ft, 0x00600100, 8, 0x100, 1, 0x0, 12, 1, .rw, .live, 0, false⟩
/-- FT_CMD.go (R406). -/
def FT_CMD.go : Desc := ⟨.ft, 0x00600100, 8, 0x100, 1, 0x0, 13, 1, .wo, .live, 0, true⟩
/-- FT_CMD.busy (R406). -/
def FT_CMD.busy : Desc := ⟨.ft, 0x00600100, 8, 0x100, 1, 0x0, 14, 1, .ro, .fixed, 0, false⟩
/-- FT_CMD.result0 (R406). -/
def FT_CMD.result0 : Desc := ⟨.ft, 0x00600100, 8, 0x100, 1, 0x0, 16, 3, .ro, .fixed, 0, false⟩
/-- FT_CMD.result1 (R406). -/
def FT_CMD.result1 : Desc := ⟨.ft, 0x00600100, 8, 0x100, 1, 0x0, 19, 3, .ro, .fixed, 0, false⟩
/-- FT_CMD.arg (R406). -/
def FT_CMD.arg : Desc := ⟨.ft, 0x00600100, 8, 0x100, 1, 0x0, 32, 32, .rw, .live, 0, false⟩
/-- FT_CMD.action (R406). -/
def FT_CMD.action : Desc := ⟨.ft, 0x00600100, 8, 0x100, 1, 0x0, 64, 8, .rw, .live, 0, false⟩
/-- FT_CMD.learned (R406). -/
def FT_CMD.learned : Desc := ⟨.ft, 0x00600100, 8, 0x100, 1, 0x0, 72, 1, .ro, .fixed, 0, false⟩
/-- FT_CMD.t_valid (R406). -/
def FT_CMD.t_valid : Desc := ⟨.ft, 0x00600100, 8, 0x100, 1, 0x0, 73, 1, .rw, .live, 0, false⟩
/-- FT_CMD.hit_stamp (R406). -/
def FT_CMD.hit_stamp : Desc := ⟨.ft, 0x00600100, 8, 0x100, 1, 0x0, 96, 32, .ro, .fixed, 0, false⟩
/-- FT_CMD.key (R406). -/
def FT_CMD.key : Desc := ⟨.ft, 0x00600100, 8, 0x100, 1, 0x0, 512, 512, .rw, .live, 0, false⟩
/-- FT_CMD.mask (R406). -/
def FT_CMD.mask : Desc := ⟨.ft, 0x00600100, 8, 0x100, 1, 0x0, 1024, 512, .rw, .live, 0, false⟩
/-- FT_CMD.data (R406). -/
def FT_CMD.data : Desc := ⟨.ft, 0x00600100, 8, 0x100, 1, 0x0, 1536, 256, .rw, .live, 0, false⟩
/-- FT_LEARN_STAT.learned (R406). -/
def FT_LEARN_STAT.learned : Desc := ⟨.ft, 0x00600A00, 2, 0x20, 1, 0x0, 0, 64, .ro, .fixed, 0, false⟩
/-- FT_LEARN_STAT.refreshed (R406). -/
def FT_LEARN_STAT.refreshed : Desc := ⟨.ft, 0x00600A00, 2, 0x20, 1, 0x0, 64, 64, .ro, .fixed, 0, false⟩
/-- FT_LEARN_STAT.learn_drop (R406). -/
def FT_LEARN_STAT.learn_drop : Desc := ⟨.ft, 0x00600A00, 2, 0x20, 1, 0x0, 128, 64, .ro, .fixed, 0, false⟩
/-- FT_LEARN_STAT.learn_refused (R406). -/
def FT_LEARN_STAT.learn_refused : Desc := ⟨.ft, 0x00600A00, 2, 0x20, 1, 0x0, 192, 64, .ro, .fixed, 0, false⟩
/-- FT_AGE_CFG.sweep_ms (R406). -/
def FT_AGE_CFG.sweep_ms : Desc := ⟨.ft, 0x00600A40, 1, 0x0, 1, 0x0, 0, 16, .rw, .live, 1000, false⟩
/-- FT_NOTIFY_DROP.count (R406). -/
def FT_NOTIFY_DROP.count : Desc := ⟨.ft, 0x00600A48, 1, 0x0, 1, 0x0, 0, 64, .ro, .fixed, 0, false⟩
/-- FT_AUDIT_STAT.table (R406). -/
def FT_AUDIT_STAT.table : Desc := ⟨.ft, 0x00600A80, 1, 0x0, 1, 0x0, 0, 6, .ro, .fixed, 0, false⟩
/-- FT_AUDIT_STAT.copy (R406). -/
def FT_AUDIT_STAT.copy : Desc := ⟨.ft, 0x00600A80, 1, 0x0, 1, 0x0, 6, 1, .ro, .fixed, 0, false⟩
/-- FT_AUDIT_STAT.mismatch (R406). -/
def FT_AUDIT_STAT.mismatch : Desc := ⟨.ft, 0x00600A80, 1, 0x0, 1, 0x0, 7, 1, .w1c, .live, 0, false⟩
/-- FT_AUDIT_STAT.runs (R406). -/
def FT_AUDIT_STAT.runs : Desc := ⟨.ft, 0x00600A80, 1, 0x0, 1, 0x0, 32, 32, .ro, .fixed, 0, false⟩
/-- FT_LOST.table (R406). -/
def FT_LOST.table : Desc := ⟨.ft, 0x00600B00, 1, 0x0, 1, 0x0, 0, 6, .ro, .fixed, 0, false⟩
/-- FT_LOST.copy (R406). -/
def FT_LOST.copy : Desc := ⟨.ft, 0x00600B00, 1, 0x0, 1, 0x0, 6, 1, .ro, .fixed, 0, false⟩
/-- FT_LOST.bucket (R406). -/
def FT_LOST.bucket : Desc := ⟨.ft, 0x00600B00, 1, 0x0, 1, 0x0, 8, 23, .ro, .fixed, 0, false⟩
/-- FT_LOST.entry_valid (R406). -/
def FT_LOST.entry_valid : Desc := ⟨.ft, 0x00600B00, 1, 0x0, 1, 0x0, 32, 1, .ro, .fixed, 0, false⟩
/-- FT_LOST.lost (R406). -/
def FT_LOST.lost : Desc := ⟨.ft, 0x00600B00, 1, 0x0, 1, 0x0, 33, 16, .ro, .fixed, 0, false⟩
/-- FT_TABLE.valid (R406). -/
def FT_TABLE.valid : Desc := ⟨.ft, 0x00601000, 64, 0x40, 1, 0x0, 0, 1, .rw, .live, 0, true⟩
/-- FT_TABLE.ready (R406). -/
def FT_TABLE.ready : Desc := ⟨.ft, 0x00601000, 64, 0x40, 1, 0x0, 1, 1, .ro, .fixed, 0, false⟩
/-- FT_TABLE.faulted (R406). -/
def FT_TABLE.faulted : Desc := ⟨.ft, 0x00601000, 64, 0x40, 1, 0x0, 2, 1, .ro, .fixed, 0, false⟩
/-- FT_TABLE.geo_err (R406). -/
def FT_TABLE.geo_err : Desc := ⟨.ft, 0x00601000, 64, 0x40, 1, 0x0, 3, 1, .w1c, .live, 0, false⟩
/-- FT_TABLE.kind (R406). -/
def FT_TABLE.kind : Desc := ⟨.ft, 0x00601000, 64, 0x40, 1, 0x0, 4, 2, .rw, .static, 0, false⟩
/-- FT_TABLE.mem (R406). -/
def FT_TABLE.mem : Desc := ⟨.ft, 0x00601000, 64, 0x40, 1, 0x0, 6, 1, .rw, .static, 0, false⟩
/-- FT_TABLE.per_pipe (R406). -/
def FT_TABLE.per_pipe : Desc := ⟨.ft, 0x00601000, 64, 0x40, 1, 0x0, 7, 1, .rw, .static, 0, false⟩
/-- FT_TABLE.key_words (R406). -/
def FT_TABLE.key_words : Desc := ⟨.ft, 0x00601000, 64, 0x40, 1, 0x0, 8, 5, .rw, .static, 1, false⟩
/-- FT_TABLE.log2_buckets (R406). -/
def FT_TABLE.log2_buckets : Desc := ⟨.ft, 0x00601000, 64, 0x40, 1, 0x0, 13, 5, .rw, .static, 4, false⟩
/-- FT_TABLE.af (R406). -/
def FT_TABLE.af : Desc := ⟨.ft, 0x00601000, 64, 0x40, 1, 0x0, 18, 1, .rw, .static, 0, false⟩
/-- FT_TABLE.tpipe (R406). -/
def FT_TABLE.tpipe : Desc := ⟨.ft, 0x00601000, 64, 0x40, 1, 0x0, 19, 1, .rw, .static, 0, false⟩
/-- FT_TABLE.base (R406). -/
def FT_TABLE.base : Desc := ⟨.ft, 0x00601000, 64, 0x40, 1, 0x0, 32, 24, .rw, .static, 0, false⟩
/-- FT_TABLE.seed0 (R406). -/
def FT_TABLE.seed0 : Desc := ⟨.ft, 0x00601000, 64, 0x40, 1, 0x0, 64, 32, .rw, .static, 0, false⟩
/-- FT_TABLE.seed1 (R406). -/
def FT_TABLE.seed1 : Desc := ⟨.ft, 0x00601000, 64, 0x40, 1, 0x0, 96, 32, .rw, .static, 0, false⟩
/-- FT_TABLE.evict_mode (R406). -/
def FT_TABLE.evict_mode : Desc := ⟨.ft, 0x00601000, 64, 0x40, 1, 0x0, 128, 2, .rw, .live, 0, false⟩
/-- FT_TABLE.age_mode (R406). -/
def FT_TABLE.age_mode : Desc := ⟨.ft, 0x00601000, 64, 0x40, 1, 0x0, 130, 2, .rw, .live, 0, false⟩
/-- FT_TABLE.learn_en (R406). -/
def FT_TABLE.learn_en : Desc := ⟨.ft, 0x00601000, 64, 0x40, 1, 0x0, 132, 1, .rw, .static, 0, false⟩
/-- FT_TABLE.learn_update (R406). -/
def FT_TABLE.learn_update : Desc := ⟨.ft, 0x00601000, 64, 0x40, 1, 0x0, 133, 1, .rw, .live, 0, false⟩
/-- FT_TABLE.learn_koff (R406). -/
def FT_TABLE.learn_koff : Desc := ⟨.ft, 0x00601000, 64, 0x40, 1, 0x0, 134, 4, .rw, .live, 0, false⟩
/-- FT_TABLE.learn_action (R406). -/
def FT_TABLE.learn_action : Desc := ⟨.ft, 0x00601000, 64, 0x40, 1, 0x0, 138, 8, .rw, .live, 0, false⟩
/-- FT_TABLE.audit_act (R406). -/
def FT_TABLE.audit_act : Desc := ⟨.ft, 0x00601000, 64, 0x40, 1, 0x0, 146, 2, .rw, .live, 0, false⟩
/-- FT_TABLE.notify_en (R406). -/
def FT_TABLE.notify_en : Desc := ⟨.ft, 0x00601000, 64, 0x40, 1, 0x0, 148, 1, .rw, .live, 0, false⟩
/-- FT_TABLE.notify_ch (R406). -/
def FT_TABLE.notify_ch : Desc := ⟨.ft, 0x00601000, 64, 0x40, 1, 0x0, 149, 12, .rw, .live, 0, false⟩
/-- FT_TABLE.age_limit (R406). -/
def FT_TABLE.age_limit : Desc := ⟨.ft, 0x00601000, 64, 0x40, 1, 0x0, 192, 32, .rw, .live, 0, false⟩
/-- FT_TABLE.first (R406). -/
def FT_TABLE.first : Desc := ⟨.ft, 0x00601000, 64, 0x40, 1, 0x0, 256, 12, .rw, .static, 0, false⟩
/-- FT_TABLE.count (R406). -/
def FT_TABLE.count : Desc := ⟨.ft, 0x00601000, 64, 0x40, 1, 0x0, 268, 13, .rw, .static, 0, false⟩
/-- FT_TABLE.entries (R406). -/
def FT_TABLE.entries : Desc := ⟨.ft, 0x00601000, 64, 0x40, 1, 0x0, 320, 64, .ro, .fixed, 0, false⟩
/-- FT_TABLE.evictions (R406). -/
def FT_TABLE.evictions : Desc := ⟨.ft, 0x00601000, 64, 0x40, 1, 0x0, 384, 64, .ro, .fixed, 0, false⟩
/-- FT_TABLE.aged (R406). -/
def FT_TABLE.aged : Desc := ⟨.ft, 0x00601000, 64, 0x40, 1, 0x0, 448, 64, .ro, .fixed, 0, false⟩
/-- FT_SIG.sum (R406). -/
def FT_SIG.sum : Desc := ⟨.ft, 0x00602000, 64, 0x40, 2, 0x20, 0, 64, .rw, .live, 0, false⟩
/-- FT_SIG.count (R406). -/
def FT_SIG.count : Desc := ⟨.ft, 0x00602000, 64, 0x40, 2, 0x20, 64, 32, .rw, .live, 0, false⟩
/-- FT_SIG.valid (R406). -/
def FT_SIG.valid : Desc := ⟨.ft, 0x00602000, 64, 0x40, 2, 0x20, 96, 1, .rw, .live, 0, false⟩
/-- FT_SIG.mismatch (R406). -/
def FT_SIG.mismatch : Desc := ⟨.ft, 0x00602000, 64, 0x40, 2, 0x20, 97, 1, .ro, .fixed, 0, false⟩
/-- FT_SIG.obs_sum (R406). -/
def FT_SIG.obs_sum : Desc := ⟨.ft, 0x00602000, 64, 0x40, 2, 0x20, 128, 64, .ro, .fixed, 0, false⟩
/-- FT_SIG.obs_count (R406). -/
def FT_SIG.obs_count : Desc := ⟨.ft, 0x00602000, 64, 0x40, 2, 0x20, 192, 32, .ro, .fixed, 0, false⟩

/-- Fields of FT, piece 0. -/
def ftFields0 : List Desc :=
  [FT_CMD.op, FT_CMD.table, FT_CMD.copies, FT_CMD.no_evict,
   FT_CMD.go, FT_CMD.busy, FT_CMD.result0, FT_CMD.result1,
   FT_CMD.arg, FT_CMD.action, FT_CMD.learned, FT_CMD.t_valid,
   FT_CMD.hit_stamp, FT_CMD.key, FT_CMD.mask, FT_CMD.data]

/-- Fields of FT, piece 1. -/
def ftFields1 : List Desc :=
  [FT_LEARN_STAT.learned, FT_LEARN_STAT.refreshed, FT_LEARN_STAT.learn_drop, FT_LEARN_STAT.learn_refused,
   FT_AGE_CFG.sweep_ms, FT_NOTIFY_DROP.count, FT_AUDIT_STAT.table, FT_AUDIT_STAT.copy,
   FT_AUDIT_STAT.mismatch, FT_AUDIT_STAT.runs, FT_LOST.table, FT_LOST.copy,
   FT_LOST.bucket, FT_LOST.entry_valid, FT_LOST.lost, FT_TABLE.valid]

/-- Fields of FT, piece 2. -/
def ftFields2 : List Desc :=
  [FT_TABLE.ready, FT_TABLE.faulted, FT_TABLE.geo_err, FT_TABLE.kind,
   FT_TABLE.mem, FT_TABLE.per_pipe, FT_TABLE.key_words, FT_TABLE.log2_buckets,
   FT_TABLE.af, FT_TABLE.tpipe, FT_TABLE.base, FT_TABLE.seed0,
   FT_TABLE.seed1, FT_TABLE.evict_mode, FT_TABLE.age_mode, FT_TABLE.learn_en]

/-- Fields of FT, piece 3. -/
def ftFields3 : List Desc :=
  [FT_TABLE.learn_update, FT_TABLE.learn_koff, FT_TABLE.learn_action, FT_TABLE.audit_act,
   FT_TABLE.notify_en, FT_TABLE.notify_ch, FT_TABLE.age_limit, FT_TABLE.first,
   FT_TABLE.count, FT_TABLE.entries, FT_TABLE.evictions, FT_TABLE.aged,
   FT_SIG.sum, FT_SIG.count, FT_SIG.valid, FT_SIG.mismatch]

/-- Fields of FT, piece 4. -/
def ftFields4 : List Desc :=
  [FT_SIG.obs_sum, FT_SIG.obs_count]

/-- The fields of FT beside the common registers. -/
def ftFields : List Desc :=
  ftFields0 ++ ftFields1 ++ ftFields2 ++ ftFields3 ++ ftFields4

/-! ### TM -/

/-- TM_CFG.refill_ns (R447). -/
def TM_CFG.refill_ns : Desc := ⟨.tm, 0x00700020, 1, 0x0, 1, 0x0, 0, 20, .rw, .staged, 1000, false⟩
/-- TM_METER_LOST.count (R447). -/
def TM_METER_LOST.count : Desc := ⟨.tm, 0x00700028, 1, 0x0, 1, 0x0, 0, 64, .ro, .fixed, 0, false⟩
/-- TM_MCMD.index (R447). -/
def TM_MCMD.index : Desc := ⟨.tm, 0x00700100, 1, 0x0, 1, 0x0, 0, 20, .rw, .live, 0, false⟩
/-- TM_MCMD.write (R447). -/
def TM_MCMD.write : Desc := ⟨.tm, 0x00700100, 1, 0x0, 1, 0x0, 20, 1, .rw, .live, 0, false⟩
/-- TM_MCMD.keep (R447). -/
def TM_MCMD.keep : Desc := ⟨.tm, 0x00700100, 1, 0x0, 1, 0x0, 21, 1, .rw, .live, 0, false⟩
/-- TM_MCMD.go (R447). -/
def TM_MCMD.go : Desc := ⟨.tm, 0x00700100, 1, 0x0, 1, 0x0, 22, 1, .wo, .live, 0, true⟩
/-- TM_MCMD.busy (R447). -/
def TM_MCMD.busy : Desc := ⟨.tm, 0x00700100, 1, 0x0, 1, 0x0, 23, 1, .ro, .fixed, 0, false⟩
/-- TM_MCMD.cir_kbps (R447). -/
def TM_MCMD.cir_kbps : Desc := ⟨.tm, 0x00700100, 1, 0x0, 1, 0x0, 64, 32, .rw, .live, 0, false⟩
/-- TM_MCMD.pir_kbps (R447). -/
def TM_MCMD.pir_kbps : Desc := ⟨.tm, 0x00700100, 1, 0x0, 1, 0x0, 96, 32, .rw, .live, 0, false⟩
/-- TM_MCMD.cbs (R447). -/
def TM_MCMD.cbs : Desc := ⟨.tm, 0x00700100, 1, 0x0, 1, 0x0, 128, 24, .rw, .live, 0, false⟩
/-- TM_MCMD.pbs (R447). -/
def TM_MCMD.pbs : Desc := ⟨.tm, 0x00700100, 1, 0x0, 1, 0x0, 160, 24, .rw, .live, 0, false⟩
/-- TM_MCMD.valid (R447). -/
def TM_MCMD.valid : Desc := ⟨.tm, 0x00700100, 1, 0x0, 1, 0x0, 192, 1, .rw, .live, 0, false⟩
/-- TM_MCMD.aware (R447). -/
def TM_MCMD.aware : Desc := ⟨.tm, 0x00700100, 1, 0x0, 1, 0x0, 193, 1, .rw, .live, 0, false⟩
/-- TM_MCMD.overhead (R447). -/
def TM_MCMD.overhead : Desc := ⟨.tm, 0x00700100, 1, 0x0, 1, 0x0, 194, 7, .rw, .live, 0, false⟩
/-- TM_MCMD.tc_level (R447). -/
def TM_MCMD.tc_level : Desc := ⟨.tm, 0x00700100, 1, 0x0, 1, 0x0, 256, 64, .ro, .fixed, 0, false⟩
/-- TM_MCMD.tp_level (R447). -/
def TM_MCMD.tp_level : Desc := ⟨.tm, 0x00700100, 1, 0x0, 1, 0x0, 320, 64, .ro, .fixed, 0, false⟩
/-- TM_CNT_ADDR.group (R447). -/
def TM_CNT_ADDR.group : Desc := ⟨.tm, 0x00700200, 1, 0x0, 1, 0x0, 0, 13, .rw, .live, 0, false⟩
/-- TM_CNT_ADDR.n (R447). -/
def TM_CNT_ADDR.n : Desc := ⟨.tm, 0x00700200, 1, 0x0, 1, 0x0, 13, 3, .rw, .live, 0, false⟩
/-- TM_CNT_ADDR.clear (R447). -/
def TM_CNT_ADDR.clear : Desc := ⟨.tm, 0x00700200, 1, 0x0, 1, 0x0, 16, 1, .rw, .live, 0, false⟩
/-- TM_CNT_ADDR.go (R447). -/
def TM_CNT_ADDR.go : Desc := ⟨.tm, 0x00700200, 1, 0x0, 1, 0x0, 17, 1, .wo, .live, 0, true⟩
/-- TM_CNT_ADDR.busy (R447). -/
def TM_CNT_ADDR.busy : Desc := ⟨.tm, 0x00700200, 1, 0x0, 1, 0x0, 18, 1, .ro, .fixed, 0, false⟩
/-- TM_CNT_DATA.count (R447). -/
def TM_CNT_DATA.count : Desc := ⟨.tm, 0x00700208, 1, 0x0, 1, 0x0, 0, 64, .ro, .fixed, 0, false⟩
/-- TM_PORT.sp (R447). -/
def TM_PORT.sp : Desc := ⟨.tm, 0x00701000, 16, 0x40, 1, 0x0, 0, 8, .rw, .staged, 0, false⟩
/-- TM_PORT.shape_en (R447). -/
def TM_PORT.shape_en : Desc := ⟨.tm, 0x00701000, 16, 0x40, 1, 0x0, 8, 1, .rw, .staged, 0, false⟩
/-- TM_PORT.overhead (R447). -/
def TM_PORT.overhead : Desc := ⟨.tm, 0x00701000, 16, 0x40, 1, 0x0, 9, 7, .rw, .staged, 20, false⟩
/-- TM_PORT.rate_kbps (R447). -/
def TM_PORT.rate_kbps : Desc := ⟨.tm, 0x00701000, 16, 0x40, 1, 0x0, 64, 32, .rw, .staged, 0, false⟩
/-- TM_PORT.depth (R447). -/
def TM_PORT.depth : Desc := ⟨.tm, 0x00701000, 16, 0x40, 1, 0x0, 96, 24, .rw, .staged, 16384, false⟩
/-- TM_PORT.level (R447). -/
def TM_PORT.level : Desc := ⟨.tm, 0x00701000, 16, 0x40, 1, 0x0, 128, 64, .ro, .fixed, 0, false⟩
/-- TM_PORT.paused (R447). -/
def TM_PORT.paused : Desc := ⟨.tm, 0x00701000, 16, 0x40, 1, 0x0, 192, 8, .ro, .fixed, 0, false⟩
/-- TM_PORT.open (R447). -/
def TM_PORT.open : Desc := ⟨.tm, 0x00701000, 16, 0x40, 1, 0x0, 200, 8, .ro, .fixed, 255, false⟩
/-- TM_PORT.entry (R447). -/
def TM_PORT.entry : Desc := ⟨.tm, 0x00701000, 16, 0x40, 1, 0x0, 208, 8, .ro, .fixed, 0, false⟩
/-- TM_GATE_CTL.gate_en (R447). -/
def TM_GATE_CTL.gate_en : Desc := ⟨.tm, 0x00701020, 16, 0x40, 1, 0x0, 0, 1, .rw, .live, 0, false⟩
/-- TM_GATE_CTL.active (R447). -/
def TM_GATE_CTL.active : Desc := ⟨.tm, 0x00701020, 16, 0x40, 1, 0x0, 1, 1, .ro, .fixed, 0, false⟩
/-- TM_GATE_CTL.adopt_list (R447). -/
def TM_GATE_CTL.adopt_list : Desc := ⟨.tm, 0x00701020, 16, 0x40, 1, 0x0, 2, 1, .rw, .live, 0, false⟩
/-- TM_GATE_CTL.arm (R447). -/
def TM_GATE_CTL.arm : Desc := ⟨.tm, 0x00701020, 16, 0x40, 1, 0x0, 3, 1, .rw, .live, 0, true⟩
/-- TM_GATE_CTL.late (R447). -/
def TM_GATE_CTL.late : Desc := ⟨.tm, 0x00701020, 16, 0x40, 1, 0x0, 4, 1, .w1c, .live, 0, false⟩
/-- TM_GATE_CTL.adopted (R447). -/
def TM_GATE_CTL.adopted : Desc := ⟨.tm, 0x00701020, 16, 0x40, 1, 0x0, 5, 1, .ro, .fixed, 0, false⟩
/-- TM_GATE_TT.adopt_tt (R447). -/
def TM_GATE_TT.adopt_tt : Desc := ⟨.tm, 0x00701028, 16, 0x40, 1, 0x0, 0, 64, .rw, .live, 0, false⟩
/-- TM_GATE_CYCLE.cycle0 (R447). -/
def TM_GATE_CYCLE.cycle0 : Desc := ⟨.tm, 0x00701030, 16, 0x40, 1, 0x0, 0, 32, .rw, .live, 0, false⟩
/-- TM_GATE_CYCLE.cycle1 (R447). -/
def TM_GATE_CYCLE.cycle1 : Desc := ⟨.tm, 0x00701030, 16, 0x40, 1, 0x0, 32, 32, .rw, .live, 0, false⟩
/-- TM_CLASS.weight (R447). -/
def TM_CLASS.weight : Desc := ⟨.tm, 0x00702000, 16, 0x100, 8, 0x20, 0, 8, .rw, .live, 1, false⟩
/-- TM_CLASS.burst_m1 (R447). -/
def TM_CLASS.burst_m1 : Desc := ⟨.tm, 0x00702000, 16, 0x100, 8, 0x20, 8, 6, .rw, .live, 0, false⟩
/-- TM_CLASS.shape_en (R447). -/
def TM_CLASS.shape_en : Desc := ⟨.tm, 0x00702000, 16, 0x100, 8, 0x20, 14, 1, .rw, .staged, 0, false⟩
/-- TM_CLASS.overhead (R447). -/
def TM_CLASS.overhead : Desc := ⟨.tm, 0x00702000, 16, 0x100, 8, 0x20, 15, 7, .rw, .staged, 20, false⟩
/-- TM_CLASS.rate_kbps (R447). -/
def TM_CLASS.rate_kbps : Desc := ⟨.tm, 0x00702000, 16, 0x100, 8, 0x20, 64, 32, .rw, .staged, 0, false⟩
/-- TM_CLASS.depth (R447). -/
def TM_CLASS.depth : Desc := ⟨.tm, 0x00702000, 16, 0x100, 8, 0x20, 96, 24, .rw, .staged, 16384, false⟩
/-- TM_CLASS.level (R447). -/
def TM_CLASS.level : Desc := ⟨.tm, 0x00702000, 16, 0x100, 8, 0x20, 128, 64, .ro, .fixed, 0, false⟩
/-- TM_PORT_CNT.count (R447). -/
def TM_PORT_CNT.count : Desc := ⟨.tm, 0x00704000, 16, 0x20, 3, 0x8, 0, 64, .ro, .fixed, 0, false⟩
/-- TM_GROUP.valid (R447). -/
def TM_GROUP.valid : Desc := ⟨.tm, 0x00710000, 8192, 0x40, 1, 0x0, 0, 1, .rw, .live, 0, false⟩
/-- TM_GROUP.weight (R447). -/
def TM_GROUP.weight : Desc := ⟨.tm, 0x00710000, 8192, 0x40, 1, 0x0, 1, 8, .rw, .live, 1, false⟩
/-- TM_GROUP.burst_m1 (R447). -/
def TM_GROUP.burst_m1 : Desc := ⟨.tm, 0x00710000, 8192, 0x40, 1, 0x0, 9, 6, .rw, .live, 0, false⟩
/-- TM_GROUP.shape_en (R447). -/
def TM_GROUP.shape_en : Desc := ⟨.tm, 0x00710000, 8192, 0x40, 1, 0x0, 15, 1, .rw, .staged, 0, false⟩
/-- TM_GROUP.overhead (R447). -/
def TM_GROUP.overhead : Desc := ⟨.tm, 0x00710000, 8192, 0x40, 1, 0x0, 16, 7, .rw, .staged, 20, false⟩
/-- TM_GROUP.account (R447). -/
def TM_GROUP.account : Desc := ⟨.tm, 0x00710000, 8192, 0x40, 1, 0x0, 23, 12, .rw, .live, 0, false⟩
/-- TM_GROUP.budget_en (R447). -/
def TM_GROUP.budget_en : Desc := ⟨.tm, 0x00710000, 8192, 0x40, 1, 0x0, 35, 1, .rw, .live, 0, false⟩
/-- TM_GROUP.rate_kbps (R447). -/
def TM_GROUP.rate_kbps : Desc := ⟨.tm, 0x00710000, 8192, 0x40, 1, 0x0, 64, 32, .rw, .staged, 0, false⟩
/-- TM_GROUP.depth (R447). -/
def TM_GROUP.depth : Desc := ⟨.tm, 0x00710000, 8192, 0x40, 1, 0x0, 96, 24, .rw, .staged, 16384, false⟩
/-- TM_GROUP.q_limit (R447). -/
def TM_GROUP.q_limit : Desc := ⟨.tm, 0x00710000, 8192, 0x40, 1, 0x0, 128, 20, .rw, .live, 4096, false⟩
/-- TM_GROUP.y_limit (R447). -/
def TM_GROUP.y_limit : Desc := ⟨.tm, 0x00710000, 8192, 0x40, 1, 0x0, 148, 20, .rw, .live, 4096, false⟩
/-- TM_GROUP.r_limit (R447). -/
def TM_GROUP.r_limit : Desc := ⟨.tm, 0x00710000, 8192, 0x40, 1, 0x0, 168, 20, .rw, .live, 0, false⟩
/-- TM_GROUP.level (R447). -/
def TM_GROUP.level : Desc := ⟨.tm, 0x00710000, 8192, 0x40, 1, 0x0, 192, 64, .ro, .fixed, 0, false⟩
/-- TM_GATE.open (R447). -/
def TM_GATE.open : Desc := ⟨.tm, 0x00790000, 32, 0x800, 256, 0x8, 0, 8, .rw, .live, 255, false⟩
/-- TM_GATE.interval_ns (R447). -/
def TM_GATE.interval_ns : Desc := ⟨.tm, 0x00790000, 32, 0x800, 256, 0x8, 8, 24, .rw, .live, 0, false⟩
/-- TM_GATE.end (R447). -/
def TM_GATE.end_ : Desc := ⟨.tm, 0x00790000, 32, 0x800, 256, 0x8, 32, 1, .rw, .live, 0, false⟩

/-- Fields of TM, piece 0. -/
def tmFields0 : List Desc :=
  [TM_CFG.refill_ns, TM_METER_LOST.count, TM_MCMD.index, TM_MCMD.write,
   TM_MCMD.keep, TM_MCMD.go, TM_MCMD.busy, TM_MCMD.cir_kbps,
   TM_MCMD.pir_kbps, TM_MCMD.cbs, TM_MCMD.pbs, TM_MCMD.valid,
   TM_MCMD.aware, TM_MCMD.overhead, TM_MCMD.tc_level, TM_MCMD.tp_level]

/-- Fields of TM, piece 1. -/
def tmFields1 : List Desc :=
  [TM_CNT_ADDR.group, TM_CNT_ADDR.n, TM_CNT_ADDR.clear, TM_CNT_ADDR.go,
   TM_CNT_ADDR.busy, TM_CNT_DATA.count, TM_PORT.sp, TM_PORT.shape_en,
   TM_PORT.overhead, TM_PORT.rate_kbps, TM_PORT.depth, TM_PORT.level,
   TM_PORT.paused, TM_PORT.open, TM_PORT.entry, TM_GATE_CTL.gate_en]

/-- Fields of TM, piece 2. -/
def tmFields2 : List Desc :=
  [TM_GATE_CTL.active, TM_GATE_CTL.adopt_list, TM_GATE_CTL.arm, TM_GATE_CTL.late,
   TM_GATE_CTL.adopted, TM_GATE_TT.adopt_tt, TM_GATE_CYCLE.cycle0, TM_GATE_CYCLE.cycle1,
   TM_CLASS.weight, TM_CLASS.burst_m1, TM_CLASS.shape_en, TM_CLASS.overhead,
   TM_CLASS.rate_kbps, TM_CLASS.depth, TM_CLASS.level, TM_PORT_CNT.count]

/-- Fields of TM, piece 3. -/
def tmFields3 : List Desc :=
  [TM_GROUP.valid, TM_GROUP.weight, TM_GROUP.burst_m1, TM_GROUP.shape_en,
   TM_GROUP.overhead, TM_GROUP.account, TM_GROUP.budget_en, TM_GROUP.rate_kbps,
   TM_GROUP.depth, TM_GROUP.q_limit, TM_GROUP.y_limit, TM_GROUP.r_limit,
   TM_GROUP.level, TM_GATE.open, TM_GATE.interval_ns, TM_GATE.end_]

/-- The fields of TM beside the common registers. -/
def tmFields : List Desc :=
  tmFields0 ++ tmFields1 ++ tmFields2 ++ tmFields3

/-! ### TRN -/

/-- TRN_CFG.rto_us (R527). -/
def TRN_CFG.rto_us : Desc := ⟨.trn, 0x00800020, 1, 0x0, 1, 0x0, 0, 16, .rw, .live, 100, false⟩
/-- TRN_CFG.max_retry (R527). -/
def TRN_CFG.max_retry : Desc := ⟨.trn, 0x00800020, 1, 0x0, 1, 0x0, 16, 3, .rw, .live, 7, false⟩
/-- TRN_CFG.rl_backoff_us (R527). -/
def TRN_CFG.rl_backoff_us : Desc := ⟨.trn, 0x00800020, 1, 0x0, 1, 0x0, 19, 13, .rw, .live, 20, false⟩
/-- TRN_CFG.ack_ns (R527). -/
def TRN_CFG.ack_ns : Desc := ⟨.trn, 0x00800020, 1, 0x0, 1, 0x0, 32, 16, .rw, .live, 2000, false⟩
/-- TRN_CFG.ack_every (R527). -/
def TRN_CFG.ack_every : Desc := ⟨.trn, 0x00800020, 1, 0x0, 1, 0x0, 48, 8, .rw, .live, 16, false⟩
/-- TRN_PARK_LIMIT.limit_ns (R527). -/
def TRN_PARK_LIMIT.limit_ns : Desc := ⟨.trn, 0x00800028, 1, 0x0, 1, 0x0, 0, 20, .rw, .live, 8000, false⟩
/-- TRN_PACER.md (R527). -/
def TRN_PACER.md : Desc := ⟨.trn, 0x00800030, 1, 0x0, 1, 0x0, 0, 10, .rw, .staged, 8, false⟩
/-- TRN_PACER.md_cap (R527). -/
def TRN_PACER.md_cap : Desc := ⟨.trn, 0x00800030, 1, 0x0, 1, 0x0, 10, 10, .rw, .staged, 512, false⟩
/-- TRN_PACER.ai_mbps (R527). -/
def TRN_PACER.ai_mbps : Desc := ⟨.trn, 0x00800030, 1, 0x0, 1, 0x0, 20, 20, .rw, .staged, 50, false⟩
/-- TRN_PACER.fi_mult (R527). -/
def TRN_PACER.fi_mult : Desc := ⟨.trn, 0x00800030, 1, 0x0, 1, 0x0, 40, 4, .rw, .staged, 8, false⟩
/-- TRN_PACER.min_mbps (R527). -/
def TRN_PACER.min_mbps : Desc := ⟨.trn, 0x00800030, 1, 0x0, 1, 0x0, 44, 20, .rw, .staged, 100, false⟩
/-- TRN_HCTX_BASE.addr (R527). -/
def TRN_HCTX_BASE.addr : Desc := ⟨.trn, 0x00800040, 1, 0x0, 1, 0x0, 0, 64, .rw, .static, 0, false⟩
/-- TRN_HCTX_CFG.enable (R527). -/
def TRN_HCTX_CFG.enable : Desc := ⟨.trn, 0x00800048, 1, 0x0, 1, 0x0, 0, 1, .rw, .static, 0, false⟩
/-- TRN_HCTX_CFG.pf (R527). -/
def TRN_HCTX_CFG.pf : Desc := ⟨.trn, 0x00800048, 1, 0x0, 1, 0x0, 1, 3, .rw, .static, 0, false⟩
/-- TRN_HCTX_CFG.ats (R527). -/
def TRN_HCTX_CFG.ats : Desc := ⟨.trn, 0x00800048, 1, 0x0, 1, 0x0, 4, 1, .rw, .static, 0, false⟩
/-- TRN_CONN_ERRQ.conn (R527). -/
def TRN_CONN_ERRQ.conn : Desc := ⟨.trn, 0x00800050, 1, 0x0, 1, 0x0, 0, 24, .ro, .fixed, 0, false⟩
/-- TRN_CONN_ERRQ.status (R527). -/
def TRN_CONN_ERRQ.status : Desc := ⟨.trn, 0x00800050, 1, 0x0, 1, 0x0, 24, 8, .ro, .fixed, 0, false⟩
/-- TRN_CONN_ERRQ.count (R527). -/
def TRN_CONN_ERRQ.count : Desc := ⟨.trn, 0x00800050, 1, 0x0, 1, 0x0, 32, 8, .rc, .fixed, 0, false⟩
/-- TRN_CCMD.conn (R527). -/
def TRN_CCMD.conn : Desc := ⟨.trn, 0x00800100, 1, 0x0, 1, 0x0, 0, 24, .rw, .live, 0, false⟩
/-- TRN_CCMD.action (R527). -/
def TRN_CCMD.action : Desc := ⟨.trn, 0x00800100, 1, 0x0, 1, 0x0, 24, 2, .rw, .live, 0, false⟩
/-- TRN_CCMD.go (R527). -/
def TRN_CCMD.go : Desc := ⟨.trn, 0x00800100, 1, 0x0, 1, 0x0, 26, 1, .wo, .live, 0, true⟩
/-- TRN_CCMD.busy (R527). -/
def TRN_CCMD.busy : Desc := ⟨.trn, 0x00800100, 1, 0x0, 1, 0x0, 27, 1, .ro, .fixed, 0, false⟩
/-- TRN_CCMD.result (R527). -/
def TRN_CCMD.result : Desc := ⟨.trn, 0x00800100, 1, 0x0, 1, 0x0, 28, 3, .ro, .fixed, 0, false⟩
/-- TRN_CCMD_CTX.image (R527). -/
def TRN_CCMD_CTX.image : Desc := ⟨.trn, 0x00800200, 1, 0x0, 1, 0x0, 0, 2048, .rw, .live, 0, false⟩
/-- TRN_CNT.count (R527). -/
def TRN_CNT.count : Desc := ⟨.trn, 0x00800400, 21, 0x8, 1, 0x0, 0, 64, .ro, .fixed, 0, false⟩
/-- TRN_RGN_BLOCK.pf (R527). -/
def TRN_RGN_BLOCK.pf : Desc := ⟨.trn, 0x00810000, 4096, 0x8, 1, 0x0, 0, 3, .rw, .static, 0, true⟩
/-- TRN_RGN_BLOCK.is_vf (R527). -/
def TRN_RGN_BLOCK.is_vf : Desc := ⟨.trn, 0x00810000, 4096, 0x8, 1, 0x0, 3, 1, .rw, .static, 0, true⟩
/-- TRN_RGN_BLOCK.vf (R527). -/
def TRN_RGN_BLOCK.vf : Desc := ⟨.trn, 0x00810000, 4096, 0x8, 1, 0x0, 4, 12, .rw, .static, 0, true⟩
/-- TRN_RGN_BLOCK.valid (R527). -/
def TRN_RGN_BLOCK.valid : Desc := ⟨.trn, 0x00810000, 4096, 0x8, 1, 0x0, 16, 1, .rw, .static, 0, true⟩

/-- Fields of TRN, piece 0. -/
def trnFields0 : List Desc :=
  [TRN_CFG.rto_us, TRN_CFG.max_retry, TRN_CFG.rl_backoff_us, TRN_CFG.ack_ns,
   TRN_CFG.ack_every, TRN_PARK_LIMIT.limit_ns, TRN_PACER.md, TRN_PACER.md_cap,
   TRN_PACER.ai_mbps, TRN_PACER.fi_mult, TRN_PACER.min_mbps, TRN_HCTX_BASE.addr,
   TRN_HCTX_CFG.enable, TRN_HCTX_CFG.pf, TRN_HCTX_CFG.ats, TRN_CONN_ERRQ.conn]

/-- Fields of TRN, piece 1. -/
def trnFields1 : List Desc :=
  [TRN_CONN_ERRQ.status, TRN_CONN_ERRQ.count, TRN_CCMD.conn, TRN_CCMD.action,
   TRN_CCMD.go, TRN_CCMD.busy, TRN_CCMD.result, TRN_CCMD_CTX.image,
   TRN_CNT.count, TRN_RGN_BLOCK.pf, TRN_RGN_BLOCK.is_vf, TRN_RGN_BLOCK.vf,
   TRN_RGN_BLOCK.valid]

/-- The fields of TRN beside the common registers. -/
def trnFields : List Desc :=
  trnFields0 ++ trnFields1

end Sys2Proof.Machine
end

