-- ==== Sys2Proof/Machine/Regs.lean ====
section
/-! DEFINITION. The register map of BAR0: the fields of every block, and the lookup of the fields that an access of
some bytes covers (R967, R796). -/
namespace Sys2Proof.Machine

/-- The fields of a block, the common registers first. -/
def blockFields : Blk → List Desc
  | .dev => commonDescs .dev ++ devFields
  | .tt => commonDescs .tt ++ ttFields
  | .nrg => commonDescs .nrg ++ nrgFields
  | .hif => commonDescs .hif ++ hifFields
  | .mbx => commonDescs .mbx ++ mbxFields
  | .wq => commonDescs .wq ++ wqFields ++ qctxFields
  | .cq => commonDescs .cq ++ cqFields ++ rctxFields
  | .pp => commonDescs .pp ++ ppFields
  | .ft => commonDescs .ft ++ ftFields
  | .tm => commonDescs .tm ++ tmFields
  | .trn => commonDescs .trn ++ trnFields
  | .blk => commonDescs .blk ++ blkFields
  | .cip => commonDescs .cip ++ cipFields
  | .dma => commonDescs .dma ++ dmaFields
  | .rly => commonDescs .rly ++ rlyFields
  | .irq => commonDescs .irq ++ irqFields
  | .pmc => commonDescs .pmc ++ pmcFields
  | .boot => commonDescs .boot ++ bootFields
  | .mnt => commonDescs .mnt ++ mntFields
  | .pair => commonDescs .pair ++ pairFields

/-- Member number `x / s` of an array of `n` members, where the address lies in one. -/
def memberOf (n s x : Nat) : Option Nat :=
  if n ≤ 1 then some 0 else if x / s < n then some (x / s) else none

/-- The member of `d` that bytes `[addr, addr + len)` of BAR0 cover, where they include any bit of it (R967). -/
def Desc.covering (d : Desc) (addr len : Nat) : Option (Nat × Nat) :=
  if addr < d.base then none
  else
    match memberOf d.n1 d.s1 (addr - d.base) with
    | none => none
    | some i =>
      match memberOf d.n2 d.s2 (addr - d.base - i * d.s1) with
      | none => none
      | some j =>
        if d.key i j < (addr + len) * 8 ∧ addr * 8 < d.key i j + d.width then some (i, j) else none

/-- A field of the map together with the member an access covers. -/
structure FieldRef where
  desc : Desc
  i    : Nat
  j    : Nat
deriving DecidableEq, Repr

/-- The field members of a block that an access covers. -/
def coveredIn (b : Blk) (addr len : Nat) : List FieldRef :=
  (blockFields b).filterMap fun d => (d.covering addr len).map fun p => ⟨d, p.1, p.2⟩

/-- The block whose registers hold an address: the block of the greatest base not above it; the two context windows
belong to WQ and CQ (R175, R239). -/
def blockOf (addr : Nat) : Option Blk :=
  if 0x01800000 ≤ addr ∧ addr < 0x01800000 + 0x100000 then some .cq
  else if 0x01400000 ≤ addr ∧ addr < 0x01400000 + 0x400000 then some .wq
  else if 0x01200000 ≤ addr then none
  else (Blk.all.filter fun b => b.base ≤ addr).getLast?

end Sys2Proof.Machine
end

