-- ==== Sys2Proof/Machine/State.lean ====
section
/-! DEFINITION. The state of the block: every register (the register store), the typed state of each unit, the memories,
the pins and the queue of waiting commands, with the state right after reset. -/
namespace Sys2Proof.Machine

/-! ### Track time (chapter Track time) -/

/-- One entry of a TX timestamp FIFO (R65): TT80 and PTP sequenceId. -/
structure TxStamp where
  tt    : Nat
  frac  : Nat
  seqId : Nat
deriving DecidableEq, Repr, Inhabited

/-- Track-time state that is no register field.  `sub` and `slew` are in units of 10^-18 ns. -/
structure TtState where
  tt         : Nat := 0          -- TT64 (R41, R43)
  sub        : Nat := 0          -- part of a nanosecond, below 10^18 (R41)
  ticks      : Nat := 0          -- ticks of the 125 MHz time clock since reset (R42)
  slew       : Int := 0          -- remaining slew (R48)
  onOsc      : Bool := true      -- the time clock runs from the local oscillator (R51, R52)
  qualified  : Bool := false     -- the phase source has qualified (R57, R58, R60)
  qualCount  : Nat := 0          -- consecutive edges counted (R56, R60)
  lastEdge   : Option Nat := none -- TT64 of the last PPS_IN edge that counts (R53)
  servoTt    : Nat := 0          -- TT64 of the last servo write (R53)
  legAdopt   : Option Nat := none -- leg_us that the next minute boundary adopts (R74)
  lastLeg    : Nat := 0          -- TT64 at the last leg-boundary event (R72, R75)
  lastMinute : Nat := 0          -- TT64 at the last minute-boundary event (R72)
  forceLeg   : Bool := false     -- a load owes a leg-boundary event (R75)
  load       : Option Nat := none -- TT_LOAD's value, which the next tick takes (R44)
  stepBy     : Nat := 0          -- what TT_STEP adds at the next tick (R47)
  jumped     : Bool := false     -- a load or step took effect at the last tick (R70)
  txFifo     : Map (List TxStamp) := [] -- TX timestamp FIFO per port (R65)
deriving DecidableEq, Repr, Inhabited

/-! ### Energy (chapter Beads, legs and budget scheduling) -/

/-- State of a switched power domain (R79, R114 to R116). -/
inductive DomainState where
  | on | switchingOff | off | waking
deriving DecidableEq, Repr, Inhabited

/-- The measured side of one rail during a leg (R84 to R86), in 2^-16 bead. -/
structure RailLeg where
  measured : Nat := 0
  samples  : Nat := 0
  zeros    : Nat := 0
  full     : Nat := 0
deriving DecidableEq, Repr, Inhabited

/-- A leg's counts: estimates per domain, activity per domain and account, measurement per rail (R81 to R86). -/
structure LegCounts where
  est   : Map Nat := []        -- key: domain; 2^-16 bead, static and wake included
  act   : Map Nat := []        -- key: domain * 4096 + account; 2^-16 bead
  rails : Map RailLeg := []    -- key: rail 0 CORE, 1 MEM, 2 IO
  unrated : Nat := 0           -- the rails, a bit each, whose full scale was 0 in the leg (R86); set when the leg closes
deriving DecidableEq, Repr, Inhabited

/-- A closed leg that awaits its commit (R109). -/
structure ClosedLeg where
  counts    : LegCounts := {}
  allowance : Nat := 0
  minuteEnd : Option Nat := none  -- start of the minute that the leg's boundary closes (R112, R121)
  flags     : Nat := 0            -- ledger flags that held in the leg (R121)
  us        : Nat := 1000         -- its length in microseconds
deriving DecidableEq, Repr, Inhabited

/-- A closed minute whose last leg has committed: the ledger records without their lseq, and the minute's start (R121). -/
structure MinuteClose where
  start   : Nat := 0
  records : List Nat := []      -- account records in ascending account order, as 64-byte images with lseq 0
  legs    : Nat := 0
  beads   : Nat := 0
  energy  : Nat := 0
  flags   : Nat := 0
deriving DecidableEq, Repr, Inhabited

/-- Energy state that is no register field. -/
structure NrgState where
  metering   : Bool := false        -- a metered leg is open (R970)
  leg        : LegCounts := {}
  legUs      : Nat := 1000          -- length of the leg in progress, in microseconds
  lastUs     : Nat := 1000          -- length of the last committed leg (R962)
  closed     : Option ClosedLeg := none
  frac       : Map Nat := []        -- frac[r] of R89, 2^-16 bead
  avsMv      : Nat := 750           -- set-point last sent over AVSBus (R84)
  domains    : Map DomainState := []
  idleSince  : Map Nat := []        -- TT64 from which a domain has been idle (R114)
  debt       : Nat := 0             -- debt of the leg in progress (R102)
  throttle   : Bool := false        -- the throttle level is in force (R118)
  legFlags   : Nat := 0             -- ledger flags of the leg in progress (R121)
  minFlags   : Nat := 0             -- ledger flags of the minute in progress (R121)
  minLegs    : Nat := 0             -- legs closed in the minute (R121)
  minBeads   : Nat := 0             -- device beads in the minute (R121)
  funded     : Map Nat := []        -- legs of the minute throughout which an account had budget (R121)
  short      : List Nat := []       -- accounts that have lacked budget in the leg in progress (R121)
  refused    : Map Nat := []        -- entries of the minute retired BUDGET_REFUSED (R121)
  minuteDue  : Option MinuteClose := none -- a minute whose records and snapshot are due (R109 step 5)
  prod       : Nat := 0             -- slots of the host ring written, trailers not yet published included (R122)
  lseq       : Nat := 0             -- next ledger sequence number (R121)
  backlog    : List Nat := []       -- ledger records waiting in GDDR6, oldest first (R123)
  reports    : List (Nat × Nat) := [] -- the partner's charge reports, by account, for the next commit (R933)
  lost       : Nat := 0             -- minutes lost since the last trailer (R123)
  rodWrites  : Map Nat := []        -- class L rod writes that wait for the next boundary, by key (R110)
  rodLate    : Map Nat := []        -- those that arrived on a boundary tick, for the boundary after it (R110)
  lateCredits : List (Nat × Nat) := [] -- credits that arrived on a boundary tick, after its allotments (R94)
  tripped    : Bool := false        -- a thermal trip is in force (R118, R119)
  tripLatch  : Bool := false        -- trip latch in VDD_AUX (R119)
deriving DecidableEq, Repr, Inhabited

/-! ### MSI-X and interrupts (chapters Interrupts, Host interface) -/

/-- One MSI-X table entry with its pending bit (R770 to R774, R797).  Every entry is masked at reset. -/
structure MsixEntry where
  addr    : Nat := 0
  data    : Nat := 0
  mask    : Bool := true
  pending : Bool := false
deriving DecidableEq, Repr, Inhabited

/-- Something a function has put on its host link, in order: a posted write, a message (R770), or a zero-length read. -/
inductive LinkItem where
  | write (fn addr : Nat) (bytes : Bytes)
  | message (fn vector addr data : Nat)
  | zeroRead (fn link : Nat)
  | read (fn addr len : Nat)
  | invalidationDone (fn itag : Nat)
deriving DecidableEq, Repr, Inhabited

/-- Interrupt-controller state of one steward (R760, R762, R786). -/
structure ClaimState where
  pri    : Nat := 0
  thresh : Nat := 0
  claim  : Option Nat := none
  stack  : List (Nat × Option Nat) := []   -- pushed IPRI and ICLAIM, the newest first
deriving DecidableEq, Repr, Inhabited

/-! ### Work queues and records -/

/-- What holds the record place promised to an entry (R211). -/
inductive Place where
  | ring | pool
deriving DecidableEq, Repr, Inhabited

/-- A destination buffer of an entry: its address and length, in host or internal space, and whether the host address is
untranslated (R229). -/
structure Dest where
  addr     : Nat
  len      : Nat
  internal : Bool
  ats      : Bool
deriving DecidableEq, Repr, Inhabited

/-- An outcome on its way to a retirement unit, or decided there (R194, R205). -/
structure Finish where
  status : Nat
  bytes  : Nat := 0
  extra  : Nat := 0
  tt     : Nat := 0
  hold   : Bool := false
deriving DecidableEq, Repr, Inhabited

/-- A member of the set that a hurdle waits for: an entry, whether its status is still open, and the host links whose
zero-length read has not completed (R252, R257). -/
structure Cover where
  queue : Nat
  sseq  : Nat
  isOpen : Bool
  links : List Nat
deriving DecidableEq, Repr, Inhabited

/-- An accepted, unretired entry (R160, R193). -/
structure Entry where
  idx      : Nat := 0          -- ring index of its first slot
  size     : Nat := 1          -- slots
  raw      : Nat := 0          -- its image, little-endian
  acceptTt : Nat := 0          -- TT64 of acceptance (R261)
  order    : Nat := 0          -- acceptance number over all queues (R257)
  begun    : Bool := false     -- it has begun executing
  inUnit   : Bool := false     -- an atomic unit of it is in progress (R232)
  outcome  : Option Finish := none   -- finished, the outcome not yet at the retirement unit
  decided  : Option Finish := none   -- its status (R194)
  moved    : Nat := 0          -- bytes moved so far
  links    : List Nat := []    -- host links that its data was written to (R249, R252)
  flushed  : List Nat := []    -- links whose zero-length read has completed
  covers   : List Cover := []  -- what a hurdle waits for (R251, R257)
  waitsFor : Option Nat := none -- the target queue of a QUEUE_CTL STOP
  place    : Place := .ring     -- the record place promised to it (R211)
  dests    : List Dest := []    -- destination buffers that its moves have begun to write (R229, R277)
  mark     : Nat := 0           -- KEY_LOAD: cipher units dispatched before it wrote its slot (R577)
deriving DecidableEq, Repr, Inhabited

/-- A ring read in progress for a queue (R179, R182). -/
structure Fetch where
  start   : Nat          -- first slot index read
  slots   : Nat          -- slots read
  allow   : Nat          -- entries the visit may still accept
  refuse  : Bool         -- the account was without budget under policy REFUSE (R105)
  reread  : Option Nat   -- sseq mismatch seen once at this index (R159)
  retried : Bool         -- the read is the repetition of R162
deriving DecidableEq, Repr, Inhabited

/-- Queue state beside the context registers. -/
structure QueueInt where
  entries   : List Entry := []
  pads      : List (Nat × Nat) := []     -- PAD ranges read and not yet passed by the done-head (R136)
  padAt     : Option Nat := none         -- a PAD header stands at this index and has not been acted on (R137)
  padAllow  : Nat := 0                   -- entries its visit may still accept
  padRefuse : Bool := false              -- what its visit found of the account's budget (R105, R183)
  pushed    : Option (Nat × Nat) := none -- a taken pushed copy: its index and image (R149)
  fetch     : Option Fetch := none
  preFreeze : Nat := 1                   -- state held before the freeze (R167)
  round     : Option Nat := none         -- the round under way, where the queue has been visited in it (R179)
  doneSseq  : Nat := 0
  sbSeq     : Nat := 0
  sbDirty   : Bool := false              -- a change awaits the status block (R203)
  sbHead    : Nat := 0                   -- done_head that the status block shows (R234)
  stallSeen : Bool := false              -- ring_stall as the status block shows it (R215, R216)
  accepted  : Nat := 0                   -- entries accepted, for law 0
  retired   : Nat := 0                   -- entries retired, for law 0
  unflushed : List (Nat × Nat) := []     -- (sseq, link) written by retired entries and not yet flushed (R251, R252)
deriving DecidableEq, Repr, Inhabited

/-- A record held in the backlog pool (R212). -/
structure Held where
  queue : Nat
  image : Nat
  place : Place
deriving DecidableEq, Repr, Inhabited

/-- Record-ring state beside the context registers. -/
structure RingInt where
  backlog  : List Held := []       -- oldest first
  since    : Nat := 0              -- records written since the last interrupt (R220)
  firstTt  : Option Nat := none    -- TT64 of the first of them
  modNs    : Nat := 0              -- mod_ns as the last record found it (R223)
  ringHeld : Nat := 0              -- the ring's own slots held by promise or waiting record (R211)
  poolHeld : Nat := 0              -- pool slots held by promise or record of the ring (R211)
  lastSrc  : Option Nat := none    -- collector: last source served (R265)
  waiting  : List (Nat × Nat) := [] -- collector: results that wait, by queue and sseq, oldest first, at most 4 of a queue (R264)
  taken    : Nat := 0              -- collector: results accepted in the present tick of track time (R263)
  pollAt   : Nat := 0              -- tick at which its consumer word was last read (R209)
  pollNow  : Bool := false         -- a record was about to be written and found the ring full (R209)
deriving DecidableEq, Repr, Inhabited

/-- Who waits for the completion of a non-posted request (R802). -/
inductive ReqOwner where
  | ringFetch (q : Nat)
  | consumer (r : Nat)
  | flush (link q sseq : Nat)
  | entryRead (q sseq : Nat)
  | chainBlock (ch : Nat)
  | segment (ch : Nat)
  | context (conn : Nat)
  | hostLoad (agent : Nat)
  | recovery
  | blob (p : Nat)
  | translation (fn page : Nat)
deriving DecidableEq, Repr, Inhabited

/-- An abort request on its way: the ABORT entry, and the target queue and tag (R227). -/
structure AbortReq where
  queue  : Nat
  sseq   : Nat
  target : Nat
  tag    : Nat
deriving DecidableEq, Repr, Inhabited

/-- The metadata of a pass (R313), field by field. -/
structure Meta where
  arrTt        : Nat := 0
  arrFrac      : Nat := 0
  inPort       : Nat := 0
  source       : Nat := 0
  holdover     : Bool := false
  bank         : Nat := 0
  recirculated : Bool := false
  reinjected   : Bool := false
  account      : Nat := 0
  pktLen       : Nat := 0
  handle       : Nat := 0
  srcQueue     : Nat := 0
  endState     : Nat := 0
  hdrLen       : Nat := 0
  slowFlags    : Nat := 0
  slowReason   : Nat := 0
  slowExtra    : Nat := 0
  layers       : List (Nat × Nat) := []   -- offset and type of each layer recorded
  outerTci     : Nat := 0
  innerTci     : Nat := 0
  tags         : Nat := 0
  prio         : Nat := 0
  tc           : Nat := 0
  colour       : Nat := 0
  ipOk         : Bool := false
  l4Ok         : Bool := false
  flowHash     : Nat := 0
  flowId       : Nat := 0
  destKind     : Nat := 0
  egPort       : Nat := 0
  tmGroup      : Nat := 0
  destQueue    : Nat := 0
  meter        : Nat := 0
  mirrorMask   : Nat := 0
  keySlot      : Nat := 0
  scratch      : Nat := 0
deriving DecidableEq, Repr, Inhabited

/-- A packet in the packet buffer: its frame without FCS and its metadata.  Its lines are those from the handle. -/
structure Packet where
  frame : Bytes := []
  info  : Meta := {}
  tsReq : Bool := false       -- its departure is timestamped (R65, R347)
  order : Nat := 0            -- source 1: the acceptance number of its NET_SEND entry (R250, R439)
deriving DecidableEq, Repr, Inhabited

/-- What waits for the partner's acknowledgement in paired operation (R918). -/
inductive PubItem where
  | write (fn addr : Nat) (bytes : Bytes)
  | vector (fn vector : Nat)
  | packet (pipe : Nat) (pkt : Packet)
deriving DecidableEq, Repr, Inhabited

/-- A publication held back until the delta records up to `need` are acknowledged. -/
structure Publication where
  need : Nat
  item : PubItem
deriving DecidableEq, Repr, Inhabited

/-- A delta record: its sequence, type, object, account, time and body (R911 to R913). -/
structure Delta where
  pseq : Nat
  kind : Nat
  obj  : Nat
  acct : Nat
  tt   : Nat
  body : Bytes
deriving DecidableEq, Repr, Inhabited

/-- An outstanding non-posted request with its tag (R802 to R806).  A number of 4,096 or more is no tag: the tag has
returned with its link (R805), and the requester still waits for its timeout. -/
structure Req where
  port  : Nat
  tag   : Nat
  fn    : Nat
  owner : ReqOwner
  again : Bool           -- it is the second attempt (R806)
  tt    : Nat            -- TT64 at which it was issued (R803)
deriving DecidableEq, Repr, Inhabited

/-- A quarantined tag and the TT64 at which it becomes free at the latest (R804). -/
structure Quarantine where
  port    : Nat
  tag     : Nat
  freeAt  : Nat
  link    : Nat          -- the host link of the request
deriving DecidableEq, Repr, Inhabited

/-- An address-translation cache entry (R818, R819). -/
structure AtcEntry where
  target : Nat := 0      -- translated page number
  rd     : Bool := false
  wr     : Bool := false
  valid  : Bool := false
deriving DecidableEq, Repr, Inhabited

/-- Configuration state of one function. -/
structure FnState where
  bme     : Bool := false
  atsEn   : Bool := false
  flr     : Bool := false
  d3      : Bool := false
  pmeEn   : Bool := false
  msixEn  : Bool := false
  fnMask  : Bool := false
  tagBits : Nat := 8            -- 8, 10 or 14 (R802)
  ctoUs   : Nat := 50000        -- completion timeout (R803)
  flrTt   : Nat := 0            -- TT64 at which the FLR in progress began (R813)
  payload : Nat := 128          -- Max Payload Size in bytes (R644)
  readReq : Nat := 512          -- Max Read Request Size in bytes (R643)
deriving DecidableEq, Repr, Inhabited

/-- One area of a VF mailbox (R821). -/
structure MailArea where
  data : Nat := 0
  len  : Nat := 0
  seq  : Nat := 0
  ack  : Nat := 0
deriving DecidableEq, Repr, Inhabited

/-- The waiting migration of a VF (R825 to R833). -/
inductive MigState where
  | running | draining | quiesced
deriving DecidableEq, Repr, Inhabited

/-- Host-interface state beside its registers. -/
structure HifState where
  fns        : Map FnState := []            -- by function number (R793)
  msix       : Map MsixEntry := []          -- key: function * 4096 + vector
  reqs       : List Req := []
  quar       : List Quarantine := []
  failed     : List ReqOwner := []          -- requests that failed twice (R806)
  atc        : Map AtcEntry := []           -- key: function * 2^52 + page
  atcFault   : List (Nat × Nat) := []       -- (function, page) whose translation faulted
  invPending : List (Nat × Nat × List Req) := [] -- invalidations in progress: function, ITag, requests to finish (R819)
  linksUp    : List Nat := []               -- host links out of Detect
  perst      : Map Bool := []               -- PERST_N asserted per port (true: asserted)
  mail       : Map MailArea := []           -- key: 2 * vf for the up area, 2 * vf + 1 for the down area
  msgq       : List Nat := []               -- MBX_MSGQ log (R834)
  mig        : Map MigState := []           -- by VF
  freezeAt   : Map Nat := []                -- TT64 at which the freeze of a VF began, plus 1 (R826)
  freezeBy   : Map Nat := []                -- page p that issued the freeze in progress, plus 1
  d3AllG6    : Bool := false                -- GDDR6 is in self-refresh (R816)
deriving DecidableEq, Repr, Inhabited

/-- One entry of the abacus log (R271, R282). -/
structure AbcEntry where
  law      : Nat
  inst     : Nat
  expected : Nat
  observed : Nat
  tt       : Nat
deriving DecidableEq, Repr, Inhabited

/-- A fabric link away from rest, in flits: credits that the sender has spent, flits in flight, and freed places of the
receiver whose credits have not returned (law 2 of R268). -/
structure FabricLink where
  spent  : Nat := 0
  flight : Nat := 0
  freed  : Nat := 0
deriving DecidableEq, Repr, Inhabited

/-- Abacus and detection state (R264, R271, R895). -/
structure AbcState where
  log     : List AbcEntry := []         -- oldest first, at most 16
  open_   : List (Nat × Nat) := []      -- instances found out of balance at the last sweep
  lastLaw : Option Nat := none          -- collector: last source served (R265)
  waiting : List AbcEntry := []         -- collector: results that wait, oldest first, at most 4 of a law (R264)
  fabric  : Map FabricLink := []        -- the fabric links that are not at rest (law 2 of R268)
  retrain : List Nat := []              -- fabric links in retraining (R268)
  levels  : Map Int := []               -- law 5: level at the last check per shaper
  flow    : Map Int := []               -- law 5: refills - spent - overflow since the last check
deriving DecidableEq, Repr, Inhabited

/-- Sizes of the fixed GDDR6 areas, in MiB, as the configuration record set them at start-up (R30, R31, R858). -/
structure Areas where
  flow     : Nat := 0
  conn     : Nat := 0
  rgn      : Nat := 0
  key      : Nat := 0
  stage    : Nat := 0
  ledger   : Nat := 0
  blkStage : Nat := 0
deriving DecidableEq, Repr, Inhabited

/-- Levels of the device's pins (chapter Package, pins and electrical).  The N names are active low. -/
structure Pins where
  resetN     : Bool := true
  testEn     : Bool := false     -- TEST_EN, which the board ties to VSS (R946)
  ppsOut     : Bool := false
  ppsSecond  : Nat := 0          -- the TT64 second of the last rise of PPS_OUT, plus 1
  thermAlert : Bool := true      -- THERM_ALERT_N
  thermTrip  : Bool := true      -- THERM_TRIP_N
  wakeN      : Bool := true
  pairAlive  : Bool := false     -- PAIR_ALIVE output
  aliveIn    : Bool := false     -- PAIR_ALIVE_IN
  mainRails  : Bool := true      -- the main rails are on (R958, R962)
  pme        : Bool := false     -- a PF had PME_En = 1 when RESET_N last fell; kept on the auxiliary rail (R817)
  bootSrc    : Nat := 0
  bifur0     : Nat := 0
  bifur1     : Nat := 0
  vddqSel    : Nat := 0
  auxRail    : Bool := true
deriving DecidableEq, Repr, Inhabited

/-! ### Packet pipelines (chapter Ports and packet pipelines) -/

/-- Packet-buffer lines in use: a packet's run of lines, and the port and priority that hold them (R298, R341). -/
structure Hold where
  handle : Nat
  lines  : Nat
  port   : Option Nat
  prio   : Nat
  apart  : List Nat := []          -- the lines, the handle among them, where they are no run
deriving DecidableEq, Repr, Inhabited

/-- A packet waiting at a pipeline input; a reinjected one names its entry (R303, R345). -/
structure Waiting where
  pkt     : Packet
  stage   : Nat := 0
  reparse : Bool := true
deriving DecidableEq, Repr, Inhabited

/-- A header edit recorded by an action: code, operands p and q, and value (R323, R325). -/
structure Edit where
  code  : Nat
  p     : Nat
  q     : Nat
  value : Nat
deriving DecidableEq, Repr, Inhabited

/-- An ESP action that takes effect at the cipher point (R328): key slot, and reparse state or layer. -/
inductive EspAct where
  | decrypt (slot state : Nat)
  | encrypt (slot layer : Nat)
deriving DecidableEq, Repr, Inhabited

/-- A pass in flight between its slot and the deparser's end. -/
structure Pass where
  pkt      : Packet
  orig     : Packet                -- the packet as it entered the pass (R353)
  stage    : Nat := 0              -- next stage; 12: the deparser
  edits    : List Edit := []
  esp      : Option EspAct := none -- an ESP action not yet performed at the cipher point
  drop     : Bool := false
  recirc   : Bool := false
  raised   : List (Nat × Nat) := [] -- slow-path reasons raised, with their extras
  early    : Bool := false          -- parsing decided the fate; no stage runs (R339)
  lost     : Bool := false          -- dropped at the cipher point (R329, R593)
  gone     : List Nat := []         -- layers that the edits performed at the cipher point removed (R603)
  spent    : Nat := 0               -- edits performed at the cipher point (R603)
  sealFrom : Option Nat := none     -- the layer from which the frame is encrypted (R603)
  ipV6     : Bool := false          -- the last IP header that the parser handled: its version, offset and end (R604)
  ipOff    : Nat := 0
  ipStop   : Option Nat := none
  live     : Map Nat := []          -- PP_SLOW and PP_MIRROR as they stood when the pass entered (R10)
deriving DecidableEq, Repr, Inhabited

/-- A packet waiting for a credit of its slow-path channel (R342, R343). -/
structure SlowItem where
  pipe    : Nat
  reason  : Nat
  extra   : Nat
  channel : Nat
  pkt     : Packet
deriving DecidableEq, Repr, Inhabited

/-- A PAUSE or PFC frame to be generated: it gathers the priorities whose state changes or whose refresh falls due within 64
ns of its first (R301). -/
structure PauseGroup where
  tick : Nat                 -- time-clock tick of the first
  mask : Nat                 -- the priorities
  on   : Nat                 -- those of them that it pauses
deriving DecidableEq, Repr, Inhabited

/-- State of the ports and pipelines that is no register field. -/
structure PpState where
  holds     : List Hold := []
  inputs    : Map (List Waiting) := []   -- key: pipe * 8 + source code
  passes    : Map (List Pass) := []      -- per pipe, in the order of entry (R320)
  turn      : Map Nat := []              -- per pipe: the input whose turn it is among 1, 3, 4 (R304)
  credits   : Map Nat := []              -- key: pipe * 8 + source: slots used in this round of turns
  cycle     : Map Nat := []              -- pipeline cycles counted per pipe (R305)
  recircUse : Map Nat := []              -- recirculation slots used in the present window
  oldProg   : Map Nat := []              -- program fields as passes of the old bank see them, where they differ (R331)
  slow      : Map (List SlowItem) := []  -- slow-path queue per pipe (R343)
  slowOut   : List Nat := []             -- handles in the hands of relay firmware (R344)
  mirror    : Map Nat := []              -- requests counted per mirror session (R354)
  toTrn     : List (Nat × Packet) := []  -- packets handed to the Trallasy engine, with their pipeline (R327)
  genPause  : Map (List PauseGroup) := [] -- per port: the PAUSE or PFC frames to generate, oldest first (R301)
  pauseSent : Map Nat := []              -- key: port * 8 + priority: time-clock tick of the last pause generated, plus 1 (R299)
  txDone    : List (Nat × Bytes) := []   -- frames that have left, by port, as on the wire without FCS
deriving DecidableEq, Repr, Inhabited

/-! ### Relay threads, stewards and baton channels (chapters Relay threads, Relay instruction set) -/

/-- A baton: 64 bytes, byte 0 lowest, and the source that sent it (R679 to R686). -/
structure Baton where
  image  : Nat
  source : Nat
deriving DecidableEq, Repr, Inhabited

/-- What a thread in WAIT sleeps for (R682, R684, R688): the channel or the mask, and the register of the result. -/
inductive ThreadWait where
  | none
  | recv (ch rd : Nat)
  | send (ch rd : Nat)
  | events (mask rd : Nat)
deriving DecidableEq, Repr, Inhabited

/-- A load that has been issued and has not returned (R721): the registers it writes, its address and pc, and its data,
or the host link that its data comes from.  A load of 0 bytes is the zero-length read of a HURDLE (R728). -/
structure Load where
  rd   : Nat
  regs : Nat
  size : Nat
  addr : Nat
  pc   : Nat
  data : Nat
  link : Option Nat
  bad  : Bool            -- the line failed detection on its second read (R405, R720)
  host : Nat := 0        -- the address of its host memory request (R37)
deriving DecidableEq, Repr, Inhabited

/-- The part that relay threads and stewards share (R708, R721, R724, R728).  Key: 0 to 511 threads, 512 to 515
stewards. -/
structure AgentInt where
  g         : Map Nat := []         -- g1 to g31
  pc        : Nat := 0
  loads     : List Load := []       -- oldest first
  fence     : Bool := false         -- a HURDLE holds the next access back (R728)
  touched   : List Nat := []        -- host links that stores went to since the last HURDLE (R728)
  hostFail  : Bool := false         -- HOSTERR.failed
  hostLink  : Nat := 0              -- HOSTERR.link
deriving DecidableEq, Repr, Inhabited

/-- The part of a relay thread that is no register field of RLY_THCTX. -/
structure ThreadInt where
  account : Nat := 0                -- the account taken at the start (R668)
  wait    : ThreadWait := .none
  timer   : Nat := 0                -- TIMER (R689)
  armed   : Bool := false
  watch   : Map Nat := []           -- WATCH0 to WATCH3 (R732)
deriving DecidableEq, Repr, Inhabited

/-- A steward beside its general registers (R732, R735 to R744). -/
structure StewardInt where
  running  : Bool := false          -- released (R863)
  locked   : Bool := false          -- stopped by R742
  sleeping : Bool := false          -- in SLEEP (R744)
  user     : Bool := false          -- SSTATUS.mode
  ie       : Bool := false
  pmode    : Bool := false
  pie      : Bool := false
  sepc     : Nat := 0
  scause   : Nat := 0
  saddr    : Nat := 0
  svec     : Nat := 0
  scratch  : Map Nat := []
  srpu     : Map Nat := []
deriving DecidableEq, Repr, Inhabited

/-- State of the relay cores and stewards that is no register field. -/
structure RelayState where
  agents    : Map AgentInt := []
  threads   : Map ThreadInt := []
  stewards  : Map StewardInt := []
  chans     : Map (List Baton) := []   -- queued batons per channel, oldest first
  receivers : Map (List Nat) := []     -- threads blocked in BRECV per channel, in the order in which they blocked
  senders   : Map (List Nat) := []     -- threads blocked in BSEND per channel
  lastIssue : Map Nat := []            -- per core: the thread that issued last, plus 1 (R671)
  lastGrant : Map Nat := []            -- per channel: the source last granted a credit, plus 1 (R680)
  reinject  : Map (List Baton) := []   -- per pipeline: batons taken from its reinject channel (R686)
  replies   : List Baton := []         -- batons taken from the block unit's reply channel (R686)
  stalled   : List Nat := []           -- cores recorded as stalled (R693)
  stallFor  : Map Nat := []            -- per core: relay-clock cycles for which it has been found stalled (R693)
  lane      : Map Nat := []            -- per core: requests in its lane queue (R675)
deriving DecidableEq, Repr, Inhabited

/-! ### Flow tables (chapter Flow tables and learning) -/

/-- A prefix of an LPM table: its address with the bits beyond the length 0, its action and result index (R395, R396). -/
structure LpmPrefix where
  table  : Nat
  addr   : Nat
  len    : Nat
  action : Nat
  result : Nat
deriving DecidableEq, Repr, Inhabited

/-- A ternary entry (R399). -/
structure TernEntry where
  valid  : Bool := false
  value  : Nat := 0
  mask   : Nat := 0
  action : Nat := 0
  data   : Nat := 0
deriving DecidableEq, Repr, Inhabited

/-- A queued learn (R389). -/
structure LearnReq where
  table  : Nat
  key    : Nat
  action : Nat
  data   : Nat
deriving DecidableEq, Repr, Inhabited

/-- A stamp write, or a removal that the ager has sent: the slot and the key that it is for (R392, R394). -/
structure SlotReq where
  table  : Nat
  copy   : Nat
  bucket : Nat
  slot   : Nat
  key    : Nat
deriving DecidableEq, Repr, Inhabited

/-- A command operation at one copy's update unit, with its port's fields as issued (R379, R384). -/
structure FtOp where
  port    : Nat
  copy    : Nat
  op      : Nat
  table   : Nat
  key     : Nat
  mask    : Nat
  data    : Nat
  action  : Nat
  arg     : Nat
  noEvict : Bool
  tValid  : Bool
  first   : Bool          -- the lowest-numbered addressed copy, which is read back (R387)
deriving DecidableEq, Repr, Inhabited

/-- Flow-table state that is neither a register field nor a bucket in memory. -/
structure FtState where
  lpm      : List LpmPrefix := []
  results  : Map Nat := []              -- LPM result records of 32 bytes (R397)
  tern     : Map TernEntry := []        -- key: pipe * 4096 + index
  rotor    : Map Nat := []              -- per table (R380)
  lfsr     : Map Nat := []              -- per table: its 16-bit LFSR as RANDOM last drew from it (R380)
  learns   : Map (List LearnReq) := []  -- learn queue per pipeline, oldest first (R390)
  stamps   : List SlotReq := []
  removals : List SlotReq := []
  lost     : List Nat := []             -- the log behind FT_LOST, oldest first, as register images without entry_valid
  walk     : Option (Nat × Nat) := none -- table and copy that the audit walks (R402)
  waiting  : List FtOp := []            -- operations that wait for a walk to end (R402)
deriving DecidableEq, Repr, Inhabited

/-! ### Traffic manager -/

/-- A frame in an egress queue, with the packet-buffer lines that it holds (R408, R416). -/
structure TmFrame where
  pkt   : Packet
  lines : Nat
deriving DecidableEq, Repr, Inhabited

/-- One level of weighted round robin in bytes (R421, R422). -/
structure Wrr where
  round : Nat := 1
  last  : Option Nat := none           -- child last visited
  visit : Option (Nat × Nat) := none   -- visit in progress: the child and the frames sent in it
  quota : Map Int := []
  seen  : Map Nat := []                -- round in which a child's quota was last increased
  held  : Map Nat := []                -- visits that a pause interrupted, by child: 1 + the frames sent in them (R438)
deriving DecidableEq, Repr, Inhabited

/-- What a port is sending: a frame of an egress queue, or a generated pause frame. -/
inductive Sending where
  | idle
  | pause (bytes : Bytes)
  | frame (queue : Nat) (f : TmFrame)
deriving DecidableEq, Repr, Inhabited

/-- A two-rate three-colour meter; levels in 2^-16 byte (R440 to R444). -/
structure Meter where
  cir      : Nat := 0
  pir      : Nat := 0
  cbs      : Nat := 0
  pbs      : Nat := 0
  valid    : Bool := false
  aware    : Bool := false
  overhead : Nat := 0
  tc       : Nat := 0
  tp       : Nat := 0
  last     : Nat := 0
deriving DecidableEq, Repr, Inhabited

/-- An armed adoption of a gate list (R434). -/
structure Armed where
  on   : Bool := false
  list : Nat := 0
  tt   : Nat := 0
  tick : Nat := 0            -- the tick from which it may take place: the next one, where its time had passed (R434)
deriving DecidableEq, Repr, Inhabited

/-- Traffic-manager state that is no register field. -/
structure TmState where
  queues     : Map (List TmFrame) := []  -- key: port * 4096 + group * 8 + class
  sending    : Map Sending := []         -- per port
  classes    : Map Wrr := []             -- round robin among the classes of a port
  groups     : Map Wrr := []             -- round robin among the groups of a class; key: port * 8 + class
  counters   : Map Nat := []             -- group counters; key: (port * 512 + group) * 8 + n (R447)
  pauseEnd   : Map Nat := []             -- key: port * 8 + class: end of the pause, in ps of the time clock (R438)
  origin     : Map Nat := []             -- per port: origin of the active gate list (R431)
  armed      : Map Armed := []           -- per port
  lastRefill : Nat := 0                  -- TT64 at the last refill (R423)
  meters     : Map Meter := []
deriving DecidableEq, Repr, Inhabited

/-! ### Cipher engine (chapter Cipher engine) -/

/-- A lookaside job that waits for a core, with what it has read (R594, R597): its text, its AAD, and the tag or MAC that
it is to verify. -/
structure CipJob where
  queue : Nat
  sseq  : Nat
  text  : Bytes
  aad   : Bytes
  check : Bytes
deriving DecidableEq, Repr, Inhabited

/-- XTS work of a block command: `count` data units of which `next` is the first not dispatched (R600). -/
structure XtsWork where
  queue : Nat
  sseq  : Nat
  enc   : Bool
  slot  : Nat
  size  : Nat          -- bytes of a data unit
  lba   : Nat          -- of the first unit
  count : Nat
  next  : Nat := 0
deriving DecidableEq, Repr, Inhabited

/-- What a core works for: a job, or data unit `unit` of a block command. -/
inductive UnitFor where
  | job (queue sseq : Nat)
  | xts (queue sseq unit : Nat)
deriving DecidableEq, Repr, Inhabited

/-- A unit on a core, with the slot contents that it has bound (R577). -/
structure CoreUnit where
  work  : UnitFor
  slot  : Option Nat     -- none for HASH
  gen   : Nat            -- loads of the slot before it was bound
  image : Nat            -- the slot as bound, its count taken
  text  : Bytes
  aad   : Bytes
  check : Bytes
  enc   : Bool
  tweak : Nat
  cls   : Nat
  order : Nat            -- units dispatched before it
  acct  : Nat
deriving DecidableEq, Repr, Inhabited

/-- What has been sent to the partner for a slot: used and seq with the reservation, and the record (R916). -/
structure KeyReserve where
  used : Nat
  seq  : Nat
  pseq : Nat
deriving DecidableEq, Repr, Inhabited

/-- Cipher-engine state that is no register field. -/
structure CipState where
  slots     : Map Nat := []                 -- key slots as 128-byte images (R570)
  gens      : Map Nat := []                 -- loads of a slot since reset (R577)
  refused   : List Nat := []                -- slots whose first refusal since the load has been reported (R583)
  jobs      : List CipJob := []             -- waiting jobs, in the order of arrival
  xts       : List XtsWork := []            -- XTS work of the block unit, in the order of arrival
  cores     : Map (Option CoreUnit) := []
  suspended : List CoreUnit := []           -- suspended jobs, the first to resume first (R591)
  turns     : Map Nat := []                 -- per class: the source last served, plus 1 (R586)
  started   : Nat := 0                      -- units dispatched
  keyq      : List Nat := []                -- the log behind CIP_KEYQ, oldest first: slot + event * 2^20
  reserve   : Map (Option KeyReserve) := []
deriving DecidableEq, Repr, Inhabited

/-! ### Block queues (chapter Block queues) -/

/-- The reply of a backend (R551). -/
structure BlkReply where
  result  : Nat
  detail  : Nat
  failLba : Nat
deriving DecidableEq, Repr, Inhabited

/-- A block command from its acceptance until its status is decided and, where it was dispatched, its reply has arrived
(R535, R542, R546, R555). -/
structure BlkCmd where
  queue   : Nat
  sseq    : Nat
  order   : Nat                      -- acceptance number over all queues
  raw     : Nat                      -- its entry
  vol     : Nat                      -- its volume's record as it stood at acceptance (R535)
  waiting : Bool := false            -- its staging request has been counted as waiting (R547)
  buf     : Option Nat := none       -- its staging buffer: offset in block staging
  moved   : Bool := false            -- a write's host data has been read
  staged  : Bool := false            -- a write's data is in the buffer
  slot    : Nat := 0                 -- window slot
  gen     : Nat := 0                 -- generation of the slot at the last dispatch
  sent    : Bool := false            -- dispatched, the reply not yet arrived
  done    : Bool := false            -- it holds no conflict back any more (R542)
  reply   : Option BlkReply := none
  again   : Bool := false            -- a read dispatched again (R549)
  refetch : Bool := false            -- a write whose data has been fetched again (R549)
  orphan  : Bool := false            -- retired while dispatched (R555)
  plain   : Bytes := []              -- host data of a write that is being encrypted
  units   : Map Bytes := []          -- data units done, by number
  phase   : Nat := 0                 -- self-test: 0 pattern, 1 probe, 2 segments
deriving DecidableEq, Repr, Inhabited

/-- The error log of a block queue (R561): its entries as 32-byte images, oldest first. -/
structure BlkLog where
  entries : List Nat := []
  lost    : Nat := 0
  eseq    : Nat := 0
deriving DecidableEq, Repr, Inhabited

/-- Block-unit state that is no register field. -/
structure BlkState where
  vols     : Map Nat := []              -- volume records as 64-byte images (R533)
  cmds     : List BlkCmd := []
  requests : List (Nat × Nat) := []     -- staging requests not yet granted: queue and sseq, in order (R547)
  gens     : Map Nat := []              -- key: queue * 256 + slot (R551)
  logs     : Map BlkLog := []           -- by queue
  cancels  : List Nat := []             -- CANCEL batons that wait for a credit, with their channel in [523:512] (R555)
deriving DecidableEq, Repr, Inhabited

/-! ### DMA chains (chapter DMA chains) -/

/-- What holds a channel in WAITING (R628, R636). -/
inductive ChanWait where
  | none
  | link (pollTt : Nat)              -- a block that the device does not own; TT64 of the last read of it
  | until (tt : Nat)                 -- a time
  | semaphore (endTt : Option Nat)   -- the semaphore, with the time of its timeout
deriving DecidableEq, Repr, Inhabited

/-- A move in progress: source, destination, length, what has been completed, and whether its last word is to be
verified (R641, R647). -/
structure DmaMove where
  src      : Nat
  dst      : Nat
  len      : Nat
  srcInt   : Bool
  dstInt   : Bool
  srcAts   : Bool
  dstAts   : Bool
  verify   : Bool
  off      : Nat := 0             -- bytes of completed segments
  last     : Bytes := []          -- the source bytes of the last destination word
  check    : Bool := false        -- every segment is written; the read-back is awaited
deriving DecidableEq, Repr, Inhabited

/-- A channel beside its registers (R616). -/
structure ChanInt where
  owner      : Option (Nat × Nat) := none  -- pool channel: queue and sseq of its entry
  started    : Bool := false               -- its entry has begun its move or its chain
  copy       : Bool := false               -- it runs a DMA_COPY
  block      : Option Nat := none          -- the block held, as a 128-byte image
  space      : Bool := false               -- the space of the current block: true for internal
  ats        : Bool := false
  fetching   : Bool := false               -- a block fetch is in progress
  wait       : ChanWait := .none
  move       : Option DmaMove := none
  blkBytes   : Nat := 0                    -- bytes of the block's completed segments
  blkRetries : Nat := 0                    -- retries in the block
  links      : List Nat := []              -- host links that moves have written and not flushed (R252)
  ending     : Option Nat := none          -- the result with which the chain ends once its moves are visible
  fault      : Nat := 2                    -- place of the fault that ends it DET_FAULT: 1 SRAM, 2 GDDR6, 3 fabric flit (R276)
deriving DecidableEq, Repr, Inhabited

/-- DMA state that is no register field. -/
structure DmaState where
  dispatch : List (Nat × Nat) := []      -- accepted entries not yet assigned: queue and sseq (R623)
  chans    : Map ChanInt := []
  waitCmd  : Option (Nat × Nat) := none  -- a DMA_CCMD action that waits, with its channel (R619, R657)
  fetched  : Map Nat := []               -- per group: chain blocks fetched, for law 4
  handed   : Map Nat := []               -- per group: chain blocks written back or given up, for law 4
  turns    : Map Nat := []               -- per group: the place in the group at which round robin goes on (R617)
deriving DecidableEq, Repr, Inhabited

/-! ### Trallasy transport (chapter Trallasy transport) -/

/-- A received Trallasy packet that is parked, or that waits to be sequenced: its connection, pipeline, frame, the offsets
of its IP and Trallasy headers, and the parking lines or the packet-buffer handle that it holds (R516). -/
structure RxPkt where
  conn   : Nat
  pipe   : Nat
  frame  : Bytes
  ip     : Nat
  v6     : Bool
  off    : Nat
  len    : Nat                  -- bytes from the Trallasy header to the end of the payload
  handle : Option Nat := none
  lines  : Nat := 0             -- parking lines held
  tt     : Nat := 0             -- TT64 at which it was parked
deriving DecidableEq, Repr, Inhabited

/-- An operation that the device transmits on a connection: an entry's write or read, or the responses to a READ_REQ
(R477 to R486). -/
structure TrnOp where
  id      : Nat
  entry   : Option (Nat × Nat)      -- queue and sseq; none for a responder's read
  order   : Nat := 0                -- its entry's acceptance number, or the next one at a READ_REQ's acceptance (R476, R479)
  kind    : Nat                     -- type of its packets: 1 WRITE, 2 WRITE_IMM, 3 READ_REQ, 4 READ_RESP
  fn      : Nat                     -- the function whose memory its data is read from
  len     : Nat
  laddr   : Nat
  ats     : Bool
  roff    : Nat
  rkey    : Nat
  imm     : Nat
  flagged : Bool
  region  : Nat := 0                -- READ_RESP: the region read
  slot    : Nat := 0                -- READ_REQ: the read slot
  off     : Nat := 0                -- bytes sent
  more    : Bool := true            -- packets remain to be sent
  first   : Option Nat := none      -- its first PSN, once its packets have begun
  count   : Nat := 0                -- packets sent
  pseq    : Nat := 0                -- delta record with its PSN reservation (R918)
  fail    : Bool := false           -- a local access failed (R483)
  refusal : Option (Nat × Nat × Nat) := none -- earliest NAK: place of its PSN in the operation, status, code (R481)
  done    : Bool := false           -- READ_REQ: every byte has been placed
  failover : Bool := false          -- it was the old active device's: its entry ends RETRY_AFTER_FAILOVER (R925)
deriving DecidableEq, Repr, Inhabited

/-- A data-stream packet sent and not yet acknowledged or refused (R495, R496). -/
structure TxPkt where
  psn   : Nat
  op    : Nat
  bytes : Nat                       -- payload bytes
  frame : Bytes
  fast  : Bool := false             -- retransmitted under R497 since the timer last expired
deriving DecidableEq, Repr, Inhabited

/-- What the engine holds for a connection beside its context. -/
structure TrnConn where
  ops     : List TrnOp := []
  sent    : List TxPkt := []
  resend  : List Nat := []          -- PSNs that wait to be retransmitted
  suspend : Option Nat := none         -- end of a suspension (R498)
  ackAt   : Option Nat := none      -- TT64 of the first accepted packet not acknowledged (R492)
  stream  : Nat := 0                -- data-stream packets sent, modulo ack_every (R493)
  ready   : List RxPkt := []        -- received packets that wait to be sequenced
deriving DecidableEq, Repr, Inhabited

/-- A connection context on chip (R513, R514). -/
structure CtxLine where
  image : Nat
  dirty : Bool
deriving DecidableEq, Repr, Inhabited

/-- Leg boundaries that passed under one leg length and one set of pacer parameters (R519, R520). -/
structure LegRun where
  start : Nat      -- TT64 of the boundary before the first of them
  stop  : Nat      -- TT64 at the last of them
  len   : Nat      -- the leg length in ns
  count : Nat
  ai    : Nat      -- ai_mbps
  fi    : Nat      -- fi_mult
deriving DecidableEq, Repr, Inhabited

/-- Trallasy state that is no register field. -/
structure TrnState where
  cache    : Map (Option CtxLine) := [] -- contexts on chip
  conns    : Map TrnConn := []
  parked   : List RxPkt := []           -- in the order of arrival (R516)
  fetching : List Nat := []             -- connections whose context is being fetched
  opNo     : Nat := 0                   -- operations begun
  parkFree : Nat := 32768               -- free lines of the parking buffer (law 3 of R268)
  waitCmd  : Option (Nat × Nat) := none -- a TRN_CCMD action that waits for its context, with its connection
  legRuns  : List LegRun := []          -- the leg boundaries that have passed, oldest first (R520)
deriving DecidableEq, Repr, Inhabited

/-! ### Paired operation (chapter Paired operation) -/

/-- What a device puts on the Unboken link beside its delta records: an acknowledgement, a charge report, or the handover
record (R915, R922, R933). -/
inductive PairItem where
  | ack (pseq : Nat)
  | charge (account beads : Nat)
  | handover (epoch : Nat)
deriving DecidableEq, Repr, Inhabited

/-- An OP record of the mirror: a PSN reservation and the entry that it is for (R913). -/
structure OpRecord where
  conn  : Nat
  first : Nat
  count : Nat
  queue : Nat
  sseq  : Nat
  entry : Bool
deriving DecidableEq, Repr, Inhabited

/-- Pair state that is no register field. -/
structure PairInt where
  kickTt    : Option Nat := none     -- TT64 of the last write of PAIR_KICK (R904)
  lowSince  : Option Nat := none     -- TT64 since which PAIR_ALIVE_IN is low (R920)
  lastBlock : Nat := 0               -- TT64 of the last valid block (R903, R920)
  holdTt    : Nat := 0               -- TT64 at which ACTIVE_HOLD was entered (R907)
  heard     : Bool := false          -- the partner's heartbeat has been received since the link last went down (R903)
  peerEpoch : Nat := 0               -- the partner's epoch, role and digest, from its last heartbeat (R905)
  peerRole  : Nat := 0
  peerDig   : Bytes := []
  conflict  : Bool := false          -- both devices request the same role (R908)
  handover  : Bool := false          -- a HANDOVER is in progress (R922)
  expect    : Option Nat := none     -- standby: the pseq of the next record, once one has been applied (R915)
  sent      : List PairItem := []    -- put on the link, oldest first
  entries   : Map (Option Finish) := []  -- mirror: decided statuses, by queue * 65536 + sseq
  ops       : List OpRecord := []    -- mirror: PSN reservations, oldest first
  records   : List (Nat × Nat) := [] -- mirror: records written to rings: the ring and the image, oldest first
deriving DecidableEq, Repr, Inhabited

/-! ### Boot (chapter Boot, images and keys) -/

/-- The fuses, and what the ROM holds while it waits for a recovery image (R855, R867). -/
structure BootInt where
  hashes   : Map Nat := [(0, 1)]  -- root_hash[k] as the number of its 48 bytes, the first lowest
  revoked  : Nat := 0             -- bit k: root key k
  svn      : Nat := 0             -- the 128 bits of the thermometer counter
  flags    : Nat := 0             -- bit 0 flash_only, 1 uart_off, 2 debug_off
  uds      : Nat := 0
  image    : Bytes := []          -- the recovery image received over the UART
  record   : Bytes := []          -- the configuration record applied; empty: the recovery defaults (R859, R865)
  uartOut  : List Nat := []       -- bytes that the ROM has sent over the UART, oldest first (R867)
deriving DecidableEq, Repr, Inhabited

/-! ### Start-up and maintenance (chapter Start-up, calibration and maintenance) -/

/-- The steps of the reset sequence that have been performed (R875 to R879). -/
structure StartInt where
  pll     : Bool := false         -- the PLLs are locked
  serdes  : List Nat := []        -- serdes groups calibrated: 0, 1 PCIe, 2, 3 Ethernet, 4 Unboken
  tries   : Map Nat := []         -- failed training attempts per GDDR6 device (R877)
  trained : List Nat := []        -- GDDR6 devices trained
  steward : Bool := false         -- steward memory is initialised
  sram    : Bool := false         -- the rest of the SRAM is initialised
  g6      : Bool := false         -- GDDR6 is initialised
deriving DecidableEq, Repr, Inhabited

/-- Maintenance state that is no register field. -/
structure MntInt where
  args     : Map Nat := []        -- arg as taken at the start of an activity (R899)
  stopReq  : List Nat := []       -- activities that MNT_STOP has named and that have not yet ended (R889)
  halted   : List Nat := []       -- activities that MNT_STOP has ended and that R887 does not start again
  log      : List Nat := []       -- the log behind MNT_SCRUB_LOG, oldest first
  kSum     : Map Nat := []        -- ERECAL: sum of the scale factor of each rail over the legs collected (R893)
  kLegs    : Nat := 0             -- ERECAL: legs collected
  statics  : Map Nat := []        -- ERECAL mode 1: static coefficient measured per kind, plus 1
  applied  : Nat := 0             -- ERECAL: 1 the application is awaited, 2 it took place, 3 it was rejected
  retrain  : Map Nat := []        -- G6_RETRAIN: steps done per device; 64 once it is retrained, or has failed a step
deriving DecidableEq, Repr, Inhabited

-- PARTS

/-- The state of the block. -/
structure State where
  pending   : List Instr := []          -- commands waiting, first in, first out
  regs      : Map Nat := []             -- register fields by bit address in BAR0; unlisted: the field's reset value
  staged    : Map Nat := []             -- staging banks: class S writes not yet applied, same keys (R10)
  applyReq  : List Blk := []            -- blocks asked by apply_now to apply at their next safe point (R19, R23)
  armDue    : List Blk := []            -- blocks whose armed application's time has come (R20, R21)
  rdata     : Nat := 0                  -- data that the last read command returned
  tt        : TtState := {}
  nrg       : NrgState := {}
  claims    : Map ClaimState := []      -- interrupt-controller state per steward
  pmcWraps  : List Nat := []            -- performance counters that have wrapped and await PMC_COUNTER_WRAP (R781)
  queues    : Map QueueInt := []
  lastQueue : Option Nat := none        -- last queue visited (R180)
  pushHeld  : Nat := 0                  -- places of the shared push buffer in use (R151)
  qcmdStop  : Option Nat := none        -- target of a WQ_QCMD STOP in progress (R190)
  rings     : Map RingInt := []
  acceptNo  : Nat := 0                  -- entries accepted over all queues
  abortReqs : List AbortReq := []       -- abort requests on their way (R227)
  pubs      : List Publication := []    -- publications that wait for the partner (R918)
  deltas    : List Delta := []          -- delta records sent and not yet acknowledged (R911)
  pseq      : Nat := 0                  -- pair sequence of the last delta record sent (R911)
  flushes   : List (Nat × Nat × Nat) := [] -- zero-length reads in progress: (link, queue, sseq)
  hif       : HifState := {}
  links     : List LinkItem := []       -- what the functions have put on the host links, oldest first
  hostMem   : Map Byte := []            -- host memory as the device has written it; key: function * 2^64 + address
  mem       : List Host.Cell := []      -- SRAM and GDDR6 bytes by internal address; unlisted: 0 (R876)
  poison    : List Nat := []            -- lines (address / 64) whose stored code is bad (R895, R972)
  fresh     : Nat := 0                  -- counter that the free values are drawn with (the model's own)
  abc       : AbcState := {}
  areas     : Areas := {}               -- fixed GDDR6 areas (R30)
  pins      : Pins := {}
  pp        : PpState := {}
  rly       : RelayState := {}
  ft        : FtState := {}
  tm        : TmState := {}
  cip       : CipState := {}
  blk       : BlkState := {}
  dma       : DmaState := {}
  trn       : TrnState := {}
  pair      : PairInt := {}
  boot      : BootInt := {}
  start     : StartInt := {}
  mnt       : MntInt := {}
-- FIELDS
deriving DecidableEq, Repr, Inhabited

-- RESET
/-- The typical figures of NRG_COEF by kind and class (R81). -/
def typicalCoef : List (List Nat) :=
  [[9800, 131072, 24, 160, 40], [3300, 65536, 90], [4900, 32768, 48, 600], [26000, 262144, 157, 170],
   [200000, 524288, 16], [16000, 0, 303], [150000, 0, 12, 30, 25]]

/-- The members of register arrays whose value at reset is not the one of the other members: field, member and value
(R81, R128, R871, R899). -/
def resetMembers : List (Desc × Nat × Nat × Nat) :=
  [(NRG_ROD.enable, 0, 0, 1), (NRG_ROD.has_budget, 0, 0, 1), (BOOT_FUSE_STAT.programmed, 0, 0, 1), (MNT_ACT.auto_en, 1, 0, 1),
   (MNT_ACT.auto_en, 2, 0, 1), (MNT_ACT.period_ms, 2, 0, 1000), (MNT_ACT.arg, 1, 0, 24)]
    ++ (List.range 7).flatMap fun k => (List.range 5).map fun e => (NRG_COEF.coef, k, e, (typicalCoef.getD k []).getD e 0)

/-- The register store right after reset. -/
def resetRegs : Map Nat := resetMembers.foldl (fun m x => Map.setD m (x.1.key x.2.1 x.2.2.1) x.2.2.2 x.1.reset) []

/-- The machine right after reset: every field at the value that the spec states for reset, or that the assumption log
names. -/
def State.reset : State :=
  { regs := resetRegs, rly := { stewards := [(0, { running := true })] }
    nrg := { domains := (List.range 12).map fun i => (108 + i, .off) } }

/-- Why the block stops with a fault.  No command of the table stops: nothing raises it. -/
inductive Fault where
  /-- Raised by no meaning; the type is not empty so that the host's interface has a value of it.  Safe. -/
  | none
deriving DecidableEq, Repr

/-- Why a command has no meaning. -/
inductive Refusal where
  /-- Raised by an arm of `exec` whose command is not modelled, with its mnemonic.  Safe. -/
  | notModelled (mnemonic : String)
deriving DecidableEq, Repr

/-- The outcome of one step of this block. -/
abbrev Out := Host.Outcome State Fault Refusal

end Sys2Proof.Machine
end

