-- ==== Sys2Proof/Machine/Ops.lean ====
section
/-! DEFINITION. The operations that every chapter uses: register fields, time, functions and their rights, interrupt
sources, MSI-X vectors, performance counters, energy activity, host memory and internal memory. -/
namespace Sys2Proof.Machine

/-! ### Register fields -/

/-- Member `(i, j)` of a register array exists. -/
def Desc.has (d : Desc) (i j : Nat) : Bool := decide (i < d.n1) && decide (j < d.n2)

/-- The value in effect of member `(i, j)` of a field; a member that does not exist reads as the reset value. -/
def State.rd (s : State) (d : Desc) (i : Nat := 0) (j : Nat := 0) : Nat :=
  if d.has i j then Map.getD s.regs (d.key i j) d.reset else d.reset

/-- Member `(i, j)` of a field set to `v`, cut to the field's width; a member that does not exist holds nothing. -/
def State.wr (s : State) (d : Desc) (v : Nat) (i : Nat := 0) (j : Nat := 0) : State :=
  if d.has i j then { s with regs := Map.setD s.regs (d.key i j) (v % 2 ^ d.width) d.reset } else s

/-- A one-bit field as a condition. -/
def State.on (s : State) (d : Desc) (i : Nat := 0) (j : Nat := 0) : Bool := s.rd d i j != 0

/-- A counter field advanced, modulo its width. -/
def State.count (s : State) (d : Desc) (n : Nat := 1) (i : Nat := 0) (j : Nat := 0) : State :=
  s.wr d (s.rd d i j + n) i j

/-- A counter field advanced, saturating at the greatest value of its width. -/
def State.countSat (s : State) (d : Desc) (n : Nat := 1) (i : Nat := 0) (j : Nat := 0) : State :=
  s.wr d (satNat (2 ^ d.width - 1) (s.rd d i j + n)) i j

/-- ENABLE.enable of a block (R19). -/
def enabled (s : State) (b : Blk) : Bool := s.on (enableField b)

/-! ### Time (R41) -/

/-- TT64 now. -/
def now (s : State) : Nat := s.tt.tt

/-- The fraction of TT80, in 1/65,536 ns. -/
def nowFrac (s : State) : Nat := s.tt.sub * 65536 / 10 ^ 18

/-- Track time is in holdover. -/
def inHoldover (s : State) : Bool := s.on TT_STATUS.holdover

/-! ### Functions (R791 to R793) -/

/-- The function number of PF `p` or VF `v` as an owner field names it (R186, R241). -/
def fnOf (pf isVf vf : Nat) : Nat := if isVf = 0 then pf else 8 + vf

/-- VF `v` lies in the range of PF `p` (R792). -/
def vfInPf (s : State) (p v : Nat) : Bool :=
  s.on HIF_PF_CFG.enable p && decide (s.rd HIF_PF_CFG.vf_first p ≤ v)
    && decide (v < s.rd HIF_PF_CFG.vf_first p + s.rd HIF_PF_CFG.total_vfs p)

/-- The PF to which a function belongs: itself, or the owner of the VF's range. -/
def pfOf (s : State) (f : Nat) : Option Nat :=
  if f < 8 then (if s.on HIF_PF_CFG.enable f then some f else none)
  else (List.range 8).find? fun p => vfInPf s p (f - 8)

/-- The host link of a function (R791). -/
def linkOf (s : State) (f : Nat) : Option Nat := (pfOf s f).map fun p => s.rd HIF_PF_CFG.link p

/-- The pair state code (R906). -/
def pairState (s : State) : Nat := s.rd PAIR_STATUS.state

/-- The device is in a STANDBY state (R906, R910). -/
def standby (s : State) : Bool := decide (4 ≤ pairState s) && decide (pairState s ≤ 6)

/-- The typed state of a function. -/
def fnSt (s : State) (f : Nat) : FnState := Map.get s.hif.fns f

/-- A change of the typed state of a function. -/
def updFn (s : State) (f : Nat) (g : FnState → FnState) : State :=
  { s with hif := { s.hif with fns := Map.upd s.hif.fns f g } }

/-- The function may issue requests: its Bus Master Enable is 1, its PF is in D0, no FLR is in progress, and the device is
no standby (R808, R812, R815, R910). -/
def fnLive (s : State) (f : Nat) : Bool :=
  match pfOf s f with
  | none => false
  | some p => (fnSt s f).bme && !(fnSt s p).d3 && !(fnSt s f).flr && !(fnSt s p).flr && !standby s

/-- The MSI-X table size of a function (R797). -/
def vectorCount (s : State) (f : Nat) : Nat :=
  if f < 8 then s.rd HIF_PF_CFG.pf_vec f
  else match pfOf s f with
    | none => 0
    | some p => s.rd HIF_PF_CFG.vf_vec p

/-- PF `p` owns the function: it is `p` itself or one of its VFs. -/
def ownedByPf (s : State) (p f : Nat) : Bool := f = p || (decide (8 ≤ f) && vfInPf s p (f - 8))

/-! ### Who may reach a block (R796, R787 and the like) -/

/-- PF 0, a steward, or a relay thread. -/
def isManager : Initiator → Bool
  | .host fn => fn = 0
  | .steward _ => true
  | .relay _ => true

/-- The offsets of BAR0 that relay threads reach: the directory, the blocks whose chapters do not keep them to PF 0 and the
stewards (TT, NRG, HIF, FT, BLK and DMA), and the MSI-X window. -/
def relayReaches (off : Nat) : Bool :=
  decide (off < 0x10000) || (decide (0x100000 ≤ off) && decide (off < 0x380000))
    || (decide (0x600000 ≤ off) && decide (off < 0x700000)) || (decide (0x900000 ≤ off) && decide (off < 0xA00000))
    || (decide (0xB00000 ≤ off) && decide (off < 0xC00000)) || decide (0x2000000 ≤ off)

/-- Whoever acts for the whole device reaches an offset of BAR0: PF 0 and the stewards all of it, a relay thread its part. -/
def reaches (who : Initiator) (off : Nat) : Bool :=
  isManager who && match who with
    | .relay _ => relayReaches off
    | _ => true

/-- An access dropped under R796 or R799 counts in HIF_ACC_DROP when a host made it. -/
def dropAccess (s : State) (who : Initiator) : State :=
  match who with
  | .host _ => s.count HIF_ACC_DROP.count
  | _ => s



/-! ### MSI-X (R770 to R776, R810) -/

/-- The key of a table entry. -/
def msixKey (f v : Nat) : Nat := f * 4096 + v

/-- A table entry with its pending bit. -/
def msixEntry (s : State) (f v : Nat) : MsixEntry := Map.get s.hif.msix (msixKey f v)

/-- A change of a table entry. -/
def updMsix (s : State) (f v : Nat) (g : MsixEntry → MsixEntry) : State :=
  { s with hif := { s.hif with msix := Map.upd s.hif.msix (msixKey f v) g } }

/-- Something put on a function's host link, after everything put there before it. -/
def putLink (s : State) (x : LinkItem) : State := { s with links := s.links ++ [x] }

/-- The launch of one message with the address and data of the table entry (R770, R776). -/
def sendMessage (s : State) (f v : Nat) : State :=
  putLink s (.message f v (msixEntry s f v).addr (msixEntry s f v).data)

/-- A vector request at its launch point (R770 to R773, R775, R810). -/
def requestVector (s : State) (f v : Nat) : State :=
  if vectorCount s f ≤ v then s.count IRQ_MSIX_BAD.count
  else if !fnLive s f then updMsix s f v fun e => { e with pending := true }
  else if !(fnSt s f).msixEn then s
  else if (fnSt s f).fnMask || (msixEntry s f v).mask then updMsix s f v fun e => { e with pending := true }
  else sendMessage s f v

/-- A pending vector of a function that is unmasked launches one message (R774, R810). -/
def launchPending (s : State) (f v : Nat) : State :=
  let e := msixEntry s f v
  if e.pending && fnLive s f && (fnSt s f).msixEn && !(fnSt s f).fnMask && !e.mask then
    sendMessage (updMsix s f v fun e => { e with pending := false }) f v
  else s

/-! ### Interrupt sources (R756 to R769) -/

/-- Source `n` meets the three conditions of a host source (R768). -/
def hostSourceMeets (s : State) (n : Nat) : Bool :=
  s.on IRQ_CTL.global_en && s.on IRQ_SRC.asserted n && decide (1 ≤ s.rd IRQ_SRC.priority n)
    && decide (s.rd IRQ_SRC.dest n = 4)

/-- After a change from `s0` to `s`, every source of `ns` that has come to meet the conditions of R768 requests its
vector of PF 0. -/
def hostSources (s0 : State) (ns : List Nat) (s : State) : State :=
  ns.foldl (fun t n =>
    if !hostSourceMeets s0 n && hostSourceMeets s n then requestVector t 0 (s.rd IRQ_SRC.vector n) else t) s

/-- A block raises an internal source (R756). -/
def raise (s : State) (n : Nat) : State := hostSources s [n] (s.wr IRQ_SRC.asserted 1 n)

/-! ### Performance counters (R777 to R785) -/

/-- Counter `n` counts an activity of `event` on `inst`, tagged with `acct` where the event carries an account. -/
def pmcCounts (s : State) (n event inst : Nat) (acct : Option Nat) : Bool :=
  enabled s .pmc && s.on PMC_SEL.enable n && !(n % 2 = 1 && s.on PMC_SEL.chain n)
    && decide (s.rd PMC_SEL.event n = event)
    && (decide (s.rd PMC_SEL.instance n = 0xFFF) || decide (s.rd PMC_SEL.instance n = inst))
    && (!s.on PMC_SEL.acct_en n || decide (acct = some (s.rd PMC_SEL.account n)))

/-- `amount` added to counter `n`; a wrap modulo 2^48 awaits PMC_COUNTER_WRAP (R777, R781). -/
def pmcAdd (s : State) (n amount : Nat) : State :=
  let c := s.rd PMC_CNT.count n + amount
  let s := s.wr PMC_CNT.count c n
  if 2 ^ 48 ≤ c then { s with pmcWraps := s.pmcWraps ++ [n] } else s

/-- The counters that PMC_SEL selects for an activity count it (R777 to R779).  A counter at its reset selection counts
nothing, so only counters whose selection is listed are looked at. -/
def pmc (s : State) (event inst amount : Nat) (acct : Option Nat) : State :=
  if !enabled s .pmc then s
  else (List.range 32).foldl (fun t n => if pmcCounts s n event inst acct then pmcAdd t n amount else t) s

/-! ### Energy activity (R81) -/

/-- A number of events of class `e` of kind `k` in domain `d`, tagged with an account, in units of 2^-16 bead, while
metering runs (R81, R970). -/
def activity (s : State) (d k e n acct : Nat) : State :=
  if !s.nrg.metering then s
  else
    let w := n * s.rd NRG_COEF.coef k e
    let leg := s.nrg.leg
    { s with nrg := { s.nrg with leg := { leg with
        est := Map.set leg.est d (Map.get leg.est d + w)
        act := Map.set leg.act (d * 4096 + acct) (Map.get leg.act (d * 4096 + acct) + w) } } }

/-- Fabric flits that carry some bytes, up to 64 bytes in each, charged to the always-on CORE part and counted (R80, R81,
R618, R785). -/
def fabricFlits (s : State) (bytes acct : Nat) : State :=
  pmc (activity s 120 6 2 (ceilDiv bytes 64) acct) 0x000 0 (ceilDiv bytes 64) none

/-- Lines read or written in GDDR6, charged to the domain of the device that holds the line (R29), and counted. -/
def g6Access (s : State) (addr : Nat) (write : Bool) (acct : Nat) : State :=
  let dev := ((addr - 0x100000000000) / 256 % 24) / 2
  let s := activity (fabricFlits s 64 acct) (96 + dev) 3 (if write then 3 else 2) 1 acct
  pmc s (if write then 0x801 else 0x800) dev 1 (some acct)

/-- SRAM lines accessed, charged to the always-on CORE part, and counted. -/
def sramAccess (s : State) (n acct : Nat) : State :=
  pmc (activity (fabricFlits s (64 * n) acct) 120 6 3 n acct) 0x002 0 n (some acct)

/-- Energy of bytes over PCIe in either direction, charged per 64 bytes to the always-on part on the rail of the PCIe serdes
(R80, R81, R949). -/
def pcieActivity (s : State) (bytes acct : Nat) : State :=
  activity (fabricFlits s bytes acct) 122 6 4 (ceilDiv bytes 64) acct

/-- Bytes sent over PCIe on behalf of an account, charged and counted. -/
def pcieBytes (s : State) (f bytes acct : Nat) : State :=
  let port := (linkOf s f).getD 0 / 4
  pmc (pcieActivity s bytes acct) 0x900 port bytes (some acct)

/-! ### Budget (R95 to R105) -/

/-- The balance of a rod as a signed number. -/
def balanceOf (s : State) (a : Nat) : Int := signed 64 (s.rd NRG_ROD.balance a)

/-- The power rail of a metering domain: 0 CORE, 1 MEM, 2 IO (R79). -/
def railOf (d : Nat) : Nat :=
  if 96 ≤ d ∧ d ≤ 107 then 1 else if 108 ≤ d ∧ d ≤ 111 then 2
  else if d = 121 then 1 else if d = 122 then 2 else 0

/-- Estimated beads of an account in a leg, scaled by the rail factors (R95). -/
def legEstOf (s : State) (c : LegCounts) (a : Nat) : Nat :=
  (c.act.foldl (fun t p =>
    if p.1 % 4096 = a then t + p.2 * s.rd NRG_RAIL_LEG.k (railOf (p.1 / 4096)) else t) 0) / (4096 * 65536)

/-- `leg_est` of an account: the leg in progress and a closed leg that awaits its commit (R95). -/
def legEst (s : State) (a : Nat) : Nat :=
  legEstOf s s.nrg.leg a + (match s.nrg.closed with | none => 0 | some c => legEstOf s c.counts a)

/-- The live balance (R95). -/
def liveBalance (s : State) (a : Nat) : Int := balanceOf s a - (legEst s a : Int)

/-- An account has budget (R96, R97). -/
def hasBudget (s : State) (a : Nat) : Bool :=
  a = 0 || (s.on NRG_ROD.enable a && decide (-(s.rd NRG_ROD.overdraft a : Int) < liveBalance s a))

/-- Estimated device energy of the leg so far, in whole beads, each rail scaled by its factor (R101). -/
def allowUsed (s : State) : Nat :=
  (s.nrg.leg.est.foldl (fun t p => t + p.2 * s.rd NRG_RAIL_LEG.k (railOf p.1)) 0) / (4096 * 65536)

/-- The gross allowance of the leg in progress (R100). -/
def grossAllowance (s : State) : Nat :=
  let g := s.rd NRG_ALLOW.cap_mw * s.nrg.legUs / 1000
  if s.nrg.throttle then g * s.rd NRG_THERM.throttle_pct / 100 else g

/-- The allowance of the leg in progress: never below 0 (R100). -/
def allowance (s : State) : Nat := grossAllowance s - s.nrg.debt

/-- The allowance is spent (R101); with metering off it is not spent (R970). -/
def allowSpent (s : State) : Bool := s.nrg.metering && decide (allowance s ≤ allowUsed s)

/-- Work of an account is eligible (R99). -/
def eligible (s : State) (a : Nat) : Bool := hasBudget s a && (s.on NRG_ROD.guaranteed a || !allowSpent s)

/-- Work of an account is refused: it is without budget and its policy is REFUSE (R105). -/
def refuses (s : State) (a : Nat) : Bool := !hasBudget s a && s.on NRG_ROD.policy a

/-! ### Host memory as the device writes it -/

/-- Bytes stored from an address on. -/
def storeBytes (m : Map Byte) (a : Nat) : Bytes → Map Byte
  | [] => m
  | b :: bs => storeBytes (Map.set m a b) (a + 1) bs

/-- `n` bytes from an address on. -/
def loadBytes (m : Map Byte) (a : Nat) : Nat → Bytes
  | 0 => []
  | n + 1 => Map.get m a :: loadBytes m (a + 1) n

/-- The key of a byte of a function's memory. -/
def hostKey (f addr : Nat) : Nat := f * 2 ^ 64 + addr % 2 ^ 64

/-- A posted write of a function to its host memory, when the function may issue it (R808, R809, R812). -/
def hostWrite (s : State) (f addr : Nat) (bs : Bytes) : State :=
  if fnLive s f then
    putLink { s with hostMem := storeBytes s.hostMem (hostKey f addr) bs } (.write f addr bs)
  else s

/-- The canonical form of a memory: addresses strictly rising, and no byte listed that equals what an unlisted one reads
as. -/
def Memory.wf (m : List Host.Cell) : Bool := Map.wf m 0

/-- The result of an address translation (R818 to R820). -/
inductive Xlat where
  | ok (addr : Nat)
  | miss
  | fault
deriving DecidableEq, Repr

/-- The address that a request uses: the address itself when it is translated already, else through the cache. -/
def translate (s : State) (f : Nat) (ats : Bool) (addr : Nat) (write : Bool) : Xlat :=
  if !ats then .ok addr
  else if !(fnSt s f).atsEn then .fault
  else
    let page := addr / 4096
    let e := Map.get s.hif.atc (f * 2 ^ 52 + page)
    if e.valid then (if (if write then e.wr else e.rd) then .ok (e.target * 4096 + addr % 4096) else .fault)
    else if s.hif.atcFault.contains (f, page) then .fault
    else .miss

/-- Translation faults of a function have been reported to the access that failed; a later access asks again (R806,
R818). -/
def faultTaken (s : State) (f : Nat) : State :=
  { s with hif := { s.hif with atcFault := s.hif.atcFault.filter fun p => decide (p.1 ≠ f) } }

/-! ### Non-posted requests and tags (R802 to R806) -/

/-- How many requests a port may hold outstanding (R802). -/
def tagLimit (s : State) (port : Nat) : Nat :=
  let bits := ((List.range 8).filter fun p => s.on HIF_PF_CFG.enable p && decide (s.rd HIF_PF_CFG.link p / 4 = port)).map
    fun p => (fnSt s p).tagBits
  if bits.any (· = 14) then 4096 else if bits.any (· = 10) then 768 else 256

/-- A tag of the port is in use: outstanding or quarantined. -/
def tagBusy (s : State) (port tag : Nat) : Bool :=
  (s.hif.reqs.any fun r => decide (r.port = port) && decide (r.tag = tag))
    || s.hif.quar.any fun q => decide (q.port = port) && decide (q.tag = tag)

/-- The counts of a port brought up to date (law 7 of R268). -/
def tagCounts (s : State) (port : Nat) : State :=
  let out := (s.hif.reqs.filter fun r => decide (r.port = port) && decide (r.tag < 4096)).length
  let qu := (s.hif.quar.filter fun q => decide (q.port = port)).length
  ((s.wr HIF_TAG_STAT.free (4096 - out - qu) port).wr HIF_TAG_STAT.outstanding out port).wr HIF_TAG_STAT.quarantined qu port

/-- The lowest free tag of a port below the limit (R802, R805). -/
def freeTag (s : State) (port : Nat) : Option Nat :=
  let used := (s.hif.reqs.filter fun r => decide (r.port = port) && decide (r.tag < 4096)).length
  if tagLimit s port ≤ used then none
  else (List.range (used + s.hif.quar.length + 1)).find? fun t => !tagBusy s port t

/-- A non-posted request of a function for an owner, with a free tag; without one, or from a function that may issue
nothing, nothing is issued. -/
def issueRead (s : State) (f : Nat) (o : ReqOwner) (again : Bool := false) : State :=
  if !fnLive s f then s
  else
    let port := (linkOf s f).getD 0 / 4
    match freeTag s port with
    | none => s
    | some t => tagCounts { s with hif := { s.hif with reqs := s.hif.reqs ++ [⟨port, t, f, o, again, now s⟩] } } port

/-- A Translation Request for the page of an address is in progress (R818). -/
def requestTranslation (s : State) (f addr : Nat) : State :=
  let o := ReqOwner.translation f (addr / 4096)
  if s.hif.reqs.any fun r => decide (r.owner = o) then s
  else issueRead (pmc s 0x902 ((linkOf s f).getD 0 / 4) 1 none) f o

/-- The function whose Max Payload Size and Max Read Request Size hold for a function's requests: its PF. -/
def transferFn (s : State) (f : Nat) : Nat := (pfOf s f).getD f

/-- The completion of a request: its tag becomes free (R805). -/
def endRead (s : State) (o : ReqOwner) : State :=
  match s.hif.reqs.find? fun r => decide (r.owner = o) with
  | none => s
  | some r =>
    tagCounts { s with hif := { s.hif with reqs := s.hif.reqs.filter fun x => decide (x ≠ r) } } r.port

/-- A request of this owner has failed twice (R806). -/
def readFailed (s : State) (o : ReqOwner) : Bool := s.hif.failed.contains o

/-- The failure has been taken by its engine. -/
def takeFailure (s : State) (o : ReqOwner) : State :=
  { s with hif := { s.hif with failed := s.hif.failed.filter fun x => decide (x ≠ o) } }

/-! ### Paired operation: delta records and publications (R911, R918) -/

/-- Delta records are sent: the device is ACTIVE_MIRRORED or ACTIVE_HOLD, or its partner is in STANDBY_SYNC (R911). -/
def mirrors (s : State) : Bool :=
  pairState s = 1 || pairState s = 2
    || (pairState s = 3 && s.on PAIR_STATUS.link_up && s.on PAIR_STATUS.cfg_match && !s.pair.conflict
        && s.rd PAIR_STATUS.peer_state = 4)

/-- A change of mirrored state sends a delta record of a type for an object (R911). -/
def delta (s : State) (kind obj : Nat) (body : Bytes) (acct : Nat := 0) : State :=
  if mirrors s then
    let d : Delta := ⟨s.pseq + 1, kind, obj, acct, now s, body⟩
    (({ s with pseq := s.pseq + 1, deltas := s.deltas ++ [d] } : State).wr PAIR_SEQ.pseq (s.pseq + 1)).count PAIR_CNT.count 1 0
  else s

/-- The image of a context of 64 bytes in a context window (R177, R241). -/
def contextImage (s : State) (fs : List Desc) (i : Nat) : Nat :=
  fs.foldl (fun x d => x + (s.rd d i) <<< d.lo) 0

/-- The QUEUE record of a queue whose context has changed (R913). -/
def deltaQueue (s : State) (q : Nat) : State :=
  delta s 0x01 q (leBytes 64 (contextImage s qctxFields q)) (s.rd WQ_CTX.account q)

/-- The RING record of a record ring whose context has changed (R913). -/
def deltaRing (s : State) (r : Nat) : State := delta s 0x02 r (leBytes 64 (contextImage s rctxFields r))

/-- The RECORD record of a completion record and its place: 0 a ring slot, 1 the backlog (R913). -/
def deltaRecord (s : State) (r image place : Nat) (acct : Nat) : State :=
  delta s 0x03 r (leBytes 32 image ++ leBytes 8 place) acct

/-- The CONFIG record of a setup write: the 8 bytes of BAR0 that hold the bytes written, and a byte mask (R913, R914). -/
def deltaConfig (s : State) (off len value : Nat) : State :=
  delta s 0x0B (off / 8 * 8) (leBytes 8 (value <<< (off % 8 * 8)) ++ leBytes 8 ((2 ^ len - 1) <<< (off % 8)))

/-- In RECOVERY a host reaches no other registers of BAR0 for writing than those of a recovery image (R866). -/
def recoveryShut (s : State) (off : Nat) : Bool :=
  decide (s.rd BOOT_STATUS.phase = 4) && !(decide (0xF00700 ≤ off) && decide (off < 0xF00718))

/-- RECOVERY shuts a host out of an offset of BAR0 (R866). -/
def recoveryDrops (s : State) (who : Initiator) (off : Nat) : Bool :=
  match who with
  | .host _ => recoveryShut s off
  | _ => false

/-- An offset of BAR0 in the PAIR block, which a standby goes on taking and an active device does not mirror (R910,
R914). -/
def isPairOff (off : Nat) : Bool := decide (0x1100000 ≤ off) && decide (off < 0x1200000)

/-- A write to BAR0: a host's is dropped where RECOVERY shuts it out (R866); a standby ignores a host's and counts it
(R910), and an active device mirrors a host's (R914). -/
def barWrite (who : Initiator) (off len value : Nat) (s : State) (f : State → State) : State :=
  match who with
  | .host _ =>
    if recoveryShut s off then dropAccess s who
    else if isPairOff off then f s
    else if standby s then s.count PAIR_CNT.count 1 5
    else f (deltaConfig s off len value)
  | _ => f s

/-- The effect of a write of member `i` of a field by those whom its block's chapter lets reach it. -/
def setupWrite (d : Desc) (i value : Nat) (who : Initiator) (s : State) (f : State → State) : State :=
  let k := d.key i 0
  let v := value <<< (k % 32)
  if reaches who (k / 8) then barWrite who (k / 32 * 4) (if v < 2 ^ 32 then 4 else 8) v s f else dropAccess s who

/-- Publications wait in this state (R918). -/
def pubWaits (s : State) : Bool := pairState s = 1 || pairState s = 2 || pairState s = 7

/-- The key of a pipeline input. -/
def inKey (pipe source : Nat) : Nat := pipe * 8 + source
/-- What waits at an input. -/
def inputOf (s : State) (pipe source : Nat) : List Waiting := Map.get s.pp.inputs (inKey pipe source)
/-- A packet put at the end of an input (R303). -/
def putInput (s : State) (pipe source : Nat) (w : Waiting) : State :=
  { s with pp := { s.pp with inputs := Map.upd s.pp.inputs (inKey pipe source) fun l => l ++ [w] } }

/-- A publication takes place. -/
def doPublish (s : State) : PubItem → State
  | .write f a bs => hostWrite s f a bs
  | .vector f v => requestVector s f v
  | .packet pipe pkt => putInput s pipe 4 { pkt := pkt }

/-- Every delta record up to `need` has been acknowledged, and the state is one in which that suffices (R918). -/
def pubFree (s : State) (need : Nat) : Bool := decide (pairState s = 1) && s.deltas.all fun d => decide (need < d.pseq)

/-- A publication that shows the state up to delta record `need` takes place at once, or waits (R918). -/
def publishAt (s : State) (need : Nat) (x : PubItem) : State :=
  if pubWaits s && !pubFree s need then { s with pubs := s.pubs ++ [⟨need, x⟩] } else doPublish s x

/-- A publication takes place at once, or waits for the acknowledgement of every delta record sent so far (R918). -/
def publish (s : State) (x : PubItem) : State := publishAt s s.pseq x

/-! ### Internal memory (R28, R29, R35) -/

/-- The base of the global SRAM window. -/
def sramBase : Nat := 0x010000000000
/-- The base of the GDDR6 window. -/
def g6Base : Nat := 0x100000000000
/-- Bytes of the SRAM window (R28). -/
def sramSize : Nat := 0x0A000000
/-- Bytes of the GDDR6 window (R29). -/
def g6Size : Nat := 0x5D0000000

/-- The GDDR6 window is disabled (R878). -/
def g6Down (s : State) : Bool := s.on DEV_STATUS.hw_fault

/-- A byte of internal memory exists at this global address (R38, R878). -/
def memExists (s : State) (a : Nat) : Bool :=
  (decide (sramBase ≤ a) && decide (a < sramBase + sramSize))
    || (decide (g6Base ≤ a) && decide (a < g6Base + g6Size) && !g6Down s)

/-- `n` bytes of internal memory. -/
def memLoad (s : State) (a n : Nat) : Bytes := loadBytes s.mem a n

/-- Line `l` lies wholly in the `n` bytes from `a`. -/
def lineWhole (a n l : Nat) : Bool := decide (a ≤ l * 64) && decide (l * 64 + 64 ≤ a + n)
/-- Line `l` shares a byte with the `n` bytes from `a`. -/
def lineTouched (a n l : Nat) : Bool := decide (l * 64 < a + n) && decide (a < l * 64 + 64)

/-- One settled event of a detection code that no recomputation cleared (R280). -/
def detFailed (s : State) : State := raise (s.countSat DEV_DET_COUNT.failed) 0x001

/-- Bytes stored in internal memory.  A write of a whole line stores it with a fresh code; a masked write to a line whose
code is bad leaves it bad, and counts (R972). -/
def memStore (s : State) (a : Nat) (bs : Bytes) : State :=
  let part := s.poison.filter fun l => lineTouched a bs.length l && !lineWhole a bs.length l
  let s := { s with mem := storeBytes s.mem a bs, poison := s.poison.filter fun l => !lineWhole a bs.length l }
  part.foldl (fun t _ => detFailed t) s

/-- A line of some bytes has a bad code. -/
def memBad (s : State) (a n : Nat) : Bool := s.poison.any fun l => lineTouched a n l

/-! ### The GDDR6 areas (R30 to R32) -/

/-- The fixed GDDR6 areas, in MiB, in the order in which they are placed downward from the top (R31). -/
def areaSizes (s : State) : List Nat :=
  [s.areas.flow, s.areas.conn, s.areas.rgn, s.areas.key, s.areas.stage, s.areas.ledger]

/-- The global address of fixed area `n`: 0 flow tables, 1 connection contexts, 2 regions, 3 key slots, 4 overflow and
staging, 5 ledger and telemetry (R31). -/
def areaBase (s : State) (n : Nat) : Nat :=
  g6Base + g6Size - ((areaSizes s).take (n + 1)).foldl (fun x y => x + y) 0 * 0x100000

/-- Bytes of the ledger and telemetry area at an offset; zeros where the area is too small for the structures of R32. -/
def ledgerLoad (s : State) (o n : Nat) : Bytes :=
  if 50 ≤ s.areas.ledger then memLoad s (areaBase s 5 + o) n else List.replicate n 0

/-- Bytes stored in the ledger and telemetry area at an offset, where it holds the structures of R32. -/
def ledgerStore (s : State) (o : Nat) (bs : Bytes) : State :=
  if 50 ≤ s.areas.ledger then memStore s (areaBase s 5 + o) bs else s

/-- The lines of `n` bytes at an offset of the ledger and telemetry area are read or written for an account (R32, R81). -/
def ledgerAccess (s : State) (o n : Nat) (write : Bool) (acct : Nat) : State :=
  (List.range (ceilDiv n 64)).foldl (fun t i => g6Access t (areaBase t 5 + o + 64 * i) write acct) s

/-! ### The shadow copies of the contexts (R32, R896) -/

/-- The software fields of a context: those that software may write. -/
def softFields (fs : List Desc) : List Desc := fs.filter fun d => decide (d.acc = .rw)

/-- The offset of the shadow copy of a queue's context in the ledger and telemetry area. -/
def queueShadow (q : Nat) : Nat := q * 64
/-- The offset of the shadow copy of a record ring's context. -/
def ringShadow (r : Nat) : Nat := 0x400000 + r * 64

/-- The software fields of a context as they are to be are written to its shadow copy (R896). -/
def shadowStore (s : State) (fs : List Desc) (i o : Nat) : State :=
  ledgerStore (ledgerAccess s o 64 true 0) o (leBytes 64 (contextImage s (softFields fs) i))

/-- The shadow copy of a queue's context follows its software fields. -/
def shadowQueue (s : State) (q : Nat) : State := shadowStore s qctxFields q (queueShadow q)
/-- The shadow copy of a record ring's context follows its software fields. -/
def shadowRing (s : State) (r : Nat) : State := shadowStore s rctxFields r (ringShadow r)

/-- The software fields of a context recomputed from its shadow copy; a copy that was never written stands for the reset
values (R895). -/
def fromShadow (s : State) (fs : List Desc) (i o : Nat) : State :=
  let x := leAt (ledgerLoad s o 64) 0 64
  (softFields fs).foldl (fun t d => t.wr d (if x = 0 then d.reset else bitsAt x d.lo d.width) i) (ledgerAccess s o 64 false 0)

/-! ### The areas that hold the device's own structures (R28, R31, R32) -/

/-- What stands at an internal address: a byte of plain memory, of a queue context, a key slot, a volume record or a record
of the ledger's backlog, or of a structure whose layout the spec does not give. -/
inductive MemPlace where
  | plain
  | unlaid
  | queue (q : Nat)
  | slot (k : Nat)
  | volume (v : Nat)
  | backlog (i : Nat)
deriving DecidableEq, Repr

/-- What stands at an address of the SRAM window, by its offset: the connection-context cache, the key cache, the LPM and
ternary part of the table SRAM and the parking buffer have no layout in the spec (R28). -/
def placeInSram (o : Nat) : MemPlace :=
  let within := fun lo hi => decide (lo ≤ o) && decide (o < hi)
  if within 0x04800000 0x04C00000 then .queue ((o - 0x04800000) / 64)
  else if within 0x04000000 0x04800000 || within 0x04C00000 0x04E00000 || within 0x06A00000 0x07A00000
    || within 0x09E00000 0x0A000000 then .unlaid
  else .plain

/-- What stands at an address of the GDDR6 window: the meters have no layout in the spec (R31, R32). -/
def placeInG6 (s : State) (a : Nat) : MemPlace :=
  let within := fun lo hi => decide (lo ≤ a) && decide (a < hi)
  let l := areaBase s 5
  if within (areaBase s 3) (areaBase s 2) then .slot ((a - areaBase s 3) / 128)
  else if s.areas.blkStage ≠ 0 ∧ within (areaBase s 4) (areaBase s 4 + 0x400000) then .volume ((a - areaBase s 4) / 64)
  else if 50 ≤ s.areas.ledger ∧ within (l + 0x500000) (l + 0x2500000) then .unlaid
  else if 50 ≤ s.areas.ledger ∧ within (l + 0x3100000) (areaBase s 4) then .backlog ((a - l - 0x3100000) / 64)
  else .plain

/-- What stands at an internal address. -/
def placeAt (s : State) (a : Nat) : MemPlace := if a < g6Base then placeInSram (a - sramBase) else placeInG6 s a

/-- The bytes of a structure at its place, as a number; key bytes are never returned (R573). -/
def placeImage (s : State) : MemPlace → Nat
  | .queue q => contextImage s qctxFields q
  | .slot k => Map.get s.cip.slots k % 2 ^ 512
  | .volume v => Map.get s.blk.vols v
  | .backlog i => nth s.nrg.backlog i 0
  | _ => 0

/-- A byte of internal memory as an access of a core or a channel finds it; what a structure without a layout holds there is a
free value. -/
def areaByte (s : State) (a : Nat) : Byte :=
  match placeAt s a with
  | .plain => Map.get s.mem a
  | .unlaid => Config.freeByte (s.fresh + a)
  | .slot k => BitVec.ofNat 8 (bitsAt (placeImage s (.slot k)) (a % 128 * 8) 8)
  | x => BitVec.ofNat 8 (bitsAt (placeImage s x) (a % 64 * 8) 8)

/-- Some bytes of internal memory are not all plain memory. -/
def placed (s : State) (a n : Nat) : Bool := decide (placeAt s a ≠ .plain) || decide (placeAt s (a + n - 1) ≠ .plain)

/-- `n` bytes of internal memory as an access finds them. -/
def areaLoad (s : State) (a n : Nat) : Bytes × State :=
  if placed s a n then ((List.range n).map fun i => areaByte s (a + i), { s with fresh := s.fresh + 1 })
  else (memLoad s a n, s)

/-- A byte stored into a queue context: its software fields take it, and the shadow copy follows. -/
def contextByte (s : State) (q i v : Nat) : State :=
  shadowQueue (qctxFields.foldl (fun t d =>
    if d.lo < 8 * i + 8 ∧ 8 * i < d.lo + d.width then
      let x := putBits (contextImage t qctxFields q) (8 * i) 8 v
      t.wr d (bitsAt x d.lo d.width) q
    else t) s) q

/-- A byte stored into what stands at its address. -/
def placeByte (s : State) (a v : Nat) : State :=
  match placeAt s a with
  | .plain | .unlaid => s
  | .queue q => contextByte s q (a % 64) v
  | .slot k => { s with cip := { s.cip with slots := Map.upd s.cip.slots k fun x => putBits x (a % 128 * 8) 8 v } }
  | .volume n => { s with blk := { s.blk with vols := Map.upd s.blk.vols n fun x => putBits x (a % 64 * 8) 8 v } }
  | .backlog i =>
    let l := s.nrg.backlog
    { s with nrg := { s.nrg with backlog := l.take i ++ ((l.drop i).take 1).map (putBits · (a % 64 * 8) 8 v) ++ l.drop (i + 1) } }

/-- Bytes that an access of a core or a channel stores in internal memory: those in a structure change it, and those in one
without a layout change what it holds at places that the spec does not give. -/
def areaStore (s : State) (a : Nat) (bs : Bytes) : State :=
  let t := memStore s a bs
  if placed s a bs.length then
    (List.range bs.length).foldl (fun u i => placeByte u (a + i) (bs.getD i 0).toNat) t
  else t

/-! ### Free values -/

/-- A value that the spec leaves open, and the state with its counter advanced. -/
def freeWord (s : State) : Nat × State := (Config.freeValue s.fresh, { s with fresh := s.fresh + 1 })

/-- Bytes that the spec leaves undefined. -/
def freeBytes (n : Nat) (s : State) : Bytes × State :=
  ((List.range n).map fun i => Config.freeByte (s.fresh + i), { s with fresh := s.fresh + n })

/-! ### The order of a collector (R265) -/

/-- The lowest of some numbers. -/
def lowestOf : List Nat → Option Nat
  | [] => none
  | x :: xs => some (xs.foldl min x)

/-- The first of some numbers in ascending order after the last one served, wrapping at the highest. -/
def nextInTurn (last : Option Nat) (xs : List Nat) : Option Nat :=
  match last with
  | none => lowestOf xs
  | some l => (lowestOf (xs.filter fun x => decide (l < x))).or (lowestOf xs)

/-! ### The form of every meaning -/

/-- The device is held in reset: RESET_N is low (R957), or TEST_EN is high (R946). -/
def heldInReset (s : State) : Bool := !s.pins.resetN || s.pins.testEn

/-- The clocks stand still: after a thermal trip (R118, R119), or while the device is held in reset. -/
def stopped (s : State) : Bool := s.nrg.tripped || heldInReset s

/-- The outcome of a command: its effect while the clocks run; while they stand still nothing changes. -/
def run (s : State) (f : State → State) : Out := .next (if stopped s then s else f s)

/-- The members of an array that the register store lists a value of `d` for, rising. -/
def listedMembers (s : State) (d : Desc) : List Nat :=
  s.regs.filterMap fun p =>
    if d.key 0 0 ≤ p.1 ∧ (p.1 - d.key 0 0) % (d.s1 * 8) = 0 ∧ (p.1 - d.key 0 0) / (d.s1 * 8) < d.n1 then
      some ((p.1 - d.key 0 0) / (d.s1 * 8))
    else none

/-- The data a read command returns. -/
def answer (s : State) (v : Nat) : State := { s with rdata := v }

/-- The effect of a read of a block by those whom its chapter lets reach it; any other reads 0 (R796). -/
def managed (b : Blk) (who : Initiator) (s : State) (f : State → State) : State :=
  if reaches who b.base then f s else answer s 0

end Sys2Proof.Machine
end

