-- ==== Sys2Proof/Machine/Shapers.lean ====
section
/-! DEFINITION. The token-bucket shapers of ports, classes and groups (R423 to R428), on their register fields. -/
namespace Sys2Proof.Machine

/-- The fields of one shaper and its number for law 5. -/
structure Shaper where
  en    : Desc
  rate  : Desc
  depth : Desc
  ohead : Desc
  level : Desc
  i     : Nat
  j     : Nat
  id    : Nat

/-- The shaper of a port. -/
def portShaper (p : Nat) : Shaper :=
  ⟨TM_PORT.shape_en, TM_PORT.rate_kbps, TM_PORT.depth, TM_PORT.overhead, TM_PORT.level, p, 0, p⟩
/-- The shaper of a class. -/
def classShaper (p c : Nat) : Shaper :=
  ⟨TM_CLASS.shape_en, TM_CLASS.rate_kbps, TM_CLASS.depth, TM_CLASS.overhead, TM_CLASS.level, p, c, 16 + p * 8 + c⟩
/-- The shaper of a group; `pg` is port * 512 + group. -/
def groupShaper (pg : Nat) : Shaper :=
  ⟨TM_GROUP.shape_en, TM_GROUP.rate_kbps, TM_GROUP.depth, TM_GROUP.overhead, TM_GROUP.level, pg, 0, 144 + pg⟩

/-- The shaper is on. -/
def shaperOn (s : State) (x : Shaper) : Bool := s.on x.en x.i x.j
/-- Its level, signed, in 2^-16 byte. -/
def shaperLevel (s : State) (x : Shaper) : Int := signed 64 (s.rd x.level x.i x.j)
/-- Its level set, and what law 5 counts of the change (R268). -/
def setLevel (s : State) (x : Shaper) (v : Int) : State :=
  let d := v - shaperLevel s x
  let s := s.wr x.level (wrapInt 64 v) x.i x.j
  { s with abc := { s.abc with flow := Map.upd s.abc.flow x.id fun f => f + d } }

/-- A shaper after an application or a write of its fields: switched on it starts full, and a level above a new depth is
cut (R425, R426). -/
def adjustShaper (s0 s : State) (x : Shaper) : State :=
  let full : Int := ((s.rd x.depth x.i x.j * 65536 : Nat) : Int)
  if !shaperOn s x then s
  else if !shaperOn s0 x || decide (full < shaperLevel s x) then setLevel s x full else s

/-- The shaper that a shape_en or depth field belongs to. -/
def shaperOf (d : Desc) (i j : Nat) : Option Shaper :=
  if d = TM_PORT.shape_en || d = TM_PORT.depth then some (portShaper i)
  else if d = TM_CLASS.shape_en || d = TM_CLASS.depth then some (classShaper i j)
  else if d = TM_GROUP.shape_en || d = TM_GROUP.depth then some (groupShaper i)
  else none

end Sys2Proof.Machine
end

