-- ==== Sys2Proof/Machine/Bindings.lean ====
section
/-! DEFINITION. Which tables a pipeline stage may bind, and what a pipeline program must satisfy (R318, R360, R366). -/
namespace Sys2Proof.Machine

/-- The number of key words that a key-length field names; 0 counts as 16 (R366). -/
def keyLen (k : Nat) : Nat := if k = 0 then 16 else k

/-- An exact-match binding is allowed (R366). -/
def emBindingOk (s : State) (t klen : Nat) : Bool :=
  decide (t ≤ 63) && decide (s.rd FT_TABLE.kind t = 1) && decide (s.rd FT_TABLE.key_words t = keyLen klen)

/-- An LPM or ternary binding is allowed for a pipeline (R366). -/
def ltBindingOk (s : State) (pipe t klen : Nat) : Bool :=
  decide (t ≤ 63) &&
    ((decide (s.rd FT_TABLE.kind t = 2) && decide (klen = if s.on FT_TABLE.af t then 4 else 1))
      || (decide (s.rd FT_TABLE.kind t = 3) && decide (s.rd FT_TABLE.tpipe t = pipe)))

/-- The lookups of a stage satisfy R318 and R366: key parts within the 16 words, and allowed bindings. -/
def stageOk (s : State) (pipe n : Nat) : Bool :=
  let f := fun d : Desc => s.rd d pipe n
  let fits := fun koff klen : Desc => decide (f koff + keyLen (f klen) ≤ 16)
  (f PP_STAGE.em0_en = 0 || (fits PP_STAGE.em0_koff PP_STAGE.em0_klen && emBindingOk s (f PP_STAGE.em0_table) (f PP_STAGE.em0_klen)))
    && (f PP_STAGE.em1_en = 0 || (fits PP_STAGE.em1_koff PP_STAGE.em1_klen && emBindingOk s (f PP_STAGE.em1_table) (f PP_STAGE.em1_klen)))
    && (f PP_STAGE.lt_en = 0 || (fits PP_STAGE.lt_koff PP_STAGE.lt_klen && ltBindingOk s pipe (f PP_STAGE.lt_table) (f PP_STAGE.lt_klen)))

/-! ### Quads and ports (R285, R286) -/

/-- The mode code of a quad. -/
def quadMode (s : State) (n : Nat) : Nat :=
  match n with
  | 0 => s.rd PP_ETH_MODE.quad0
  | 1 => s.rd PP_ETH_MODE.quad1
  | 2 => s.rd PP_ETH_MODE.quad2
  | 3 => s.rd PP_ETH_MODE.quad3
  | _ => 0

/-- The rate of a port in Gb/s under the current quad modes; 0 for a number that is no port. -/
def portRate (s : State) (p : Nat) : Nat :=
  match quadMode s (p / 4) with
  | 1 => 100
  | 2 => if p % 2 = 0 then 200 else 0
  | 3 => if p % 4 = 0 then 400 else 0
  | 4 => if p % 8 = 0 ∧ quadMode s (p / 4 + 1) = 4 then 800 else 0
  | _ => 0

/-- The number is a port under the current quad modes. -/
def isPort (s : State) (p : Nat) : Bool := decide (p < 16) && decide (portRate s p ≠ 0)

/-- The conditions of R360 that join several fields of PP; the fields of a number that is no port are ignored (R288). -/
def pipelineOk (s : State) : Bool :=
  ((List.range 2).all fun p => (List.range 12).all fun n => stageOk s p n)
    && (List.range 16).all fun p => !isPort s p || decide (s.rd PP_PORT.fc_mode p = 0)
      || (decide (s.rd PP_PORT.fc_mode p ≠ 3) && decide (s.rd PP_PORT_PFC.xon p < s.rd PP_PORT_PFC.xoff p))

end Sys2Proof.Machine
end

