-- ==== Sys2Proof/Machine/Rules.lean ====
section
/-! DEFINITION. What each block's chapter lays down about its setup: which values of a field are forbidden, which
combinations an application or an enable rejects (R16, R968), when a class X field refuses writes, and what follows when
a field takes effect. -/
namespace Sys2Proof.Machine

/-- A leg length that R73 allows. -/
def legLenOk (v : Nat) : Bool := decide (100 ≤ v) && decide (v ≤ 10000) && decide (60000000 % v = 0)

/-- A field is the given one, whatever its member. -/
def FieldRef.isField (r : FieldRef) (d : Desc) : Bool := decide (r.desc = d)

/-- A value that breaks no condition on its own field alone (R968). -/
def fieldOk (s : State) (r : FieldRef) (v : Nat) : Bool :=
  match r.desc.blk with
  | .tt =>
    if r.isField TT_CTL.phase_src then decide (v ≠ 3)
    else if r.isField TT_LEG_LEN.leg_us then legLenOk v
    else true
  | .nrg =>
    if r.isField NRG_ALLOW.cap_mw then decide (1000 ≤ v) && decide (v ≤ 300000)
    else if r.isField NRG_RAIL.v_mv then decide (v ≤ 2000)
    else if r.isField NRG_THERM.throttle_c then decide (v ≤ 109)
    else if r.isField NRG_THERM.throttle_pct then decide (1 ≤ v) && decide (v ≤ 100)
    else true
  | .tm =>
    if r.isField TM_PORT.overhead || r.isField TM_CLASS.overhead || r.isField TM_GROUP.overhead then
      decide (-32 ≤ signed 7 v)
    else if r.isField TM_CFG.refill_ns then decide (64 ≤ v) && decide (v ≤ 1000000) && decide (1000000000 % v = 0)
    else true
  | .pp =>
    if r.isField PP_PSTATE.lf_unit then decide (v ≠ 3)
    else if r.isField PP_PORT.fc_mode then decide (v ≠ 3) || !isPort s r.i
    else if r.isField PP_ACTION.code then decide (v ≤ 0x1A)
    else if r.isField PP_CFG.cipher_after then decide (v ≤ 10)
    else true
  | .trn => if r.isField TRN_PACER.min_mbps || r.isField TRN_PACER.md_cap then decide (v ≠ 0) else true
  -- FIELDOK
  | _ => true

/-- The ledger and telemetry area is large enough for the structures of R32. -/
def ledgerAreaOk (s : State) : Bool := decide (50 ≤ s.areas.ledger)

/-- The members of a two-dimensional array that the register store lists a value of `d` for. -/
def listedPairs (s : State) (d : Desc) : List (Nat × Nat) :=
  s.regs.filterMap fun p =>
    let o := p.1 - d.key 0 0
    let i := o / (d.s1 * 8)
    let j := o % (d.s1 * 8) / (d.s2 * 8)
    if d.key 0 0 ≤ p.1 ∧ i < d.n1 ∧ d.key i j = p.1 then some (i, j) else none

/-- A region of a relay core's protection unit that is in use has a size from 2^12 to 2^47 and a base aligned to it (R752). -/
def regionOk (s : State) (c r : Nat) : Bool :=
  let n := s.rd RLY_RPU.log2_size c r
  s.rd RLY_RPU.valid c r = 0 || (decide (12 ≤ n) && decide (n ≤ 47) && decide (s.rd RLY_RPU.base c r * 4096 % 2 ^ n = 0))

/-- No combination of fields in effect is one that the block's chapter forbids (R16, R968): the conditions that join two
or more fields. -/
def comboOk (s : State) (b : Blk) : Bool :=
  match b with
  | .nrg => decide (s.rd NRG_THERM.warn_c ≤ s.rd NRG_THERM.throttle_c)
  | .pp => pipelineOk s
  | .rly => (listedPairs s RLY_RPU.valid).all fun x => regionOk s x.1 x.2
  -- COMBOOK
  | _ => true

/-- Sub-links that a bifurcation code provides on its port (R36, R948). -/
def subLinks (code : Nat) : List Nat := if code = 1 then [0, 1] else if code = 2 then [0, 1, 2, 3] else [0]

/-- The host links that the latched straps provide (R36). -/
def strapLinks (s : State) : List Nat :=
  subLinks (s.rd DEV_STRAP.bifur0) ++ (subLinks (s.rd DEV_STRAP.bifur1)).map fun l => 4 + l

/-- The fields of an image of HIF_PF_CFG at +0x00 that R794 speaks of: enable, link, total_vfs, vf_first, and the vectors
of the PF and of all its VFs together. -/
structure PfImage where
  on    : Bool
  link  : Nat
  vfs   : Nat
  first : Nat
  vecs  : Nat
deriving DecidableEq, Repr

/-- The image of HIF_PF_CFG at +0x00 taken apart (R832). -/
def pfImage (v : Nat) : PfImage :=
  ⟨v.testBit 0, bitsAt v 1 3, bitsAt v 4 13, bitsAt v 17 12, bitsAt v 38 12 + bitsAt v 4 13 * bitsAt v 50 8⟩

/-- HIF_PF_CFG[p] at +0x00. -/
def pfCfgWord (s : State) (p : Nat) : Nat :=
  [HIF_PF_CFG.enable, HIF_PF_CFG.link, HIF_PF_CFG.total_vfs, HIF_PF_CFG.vf_first, HIF_PF_CFG.vf_db_log2,
    HIF_PF_CFG.bar4_log2, HIF_PF_CFG.pf_vec, HIF_PF_CFG.vf_vec].foldl (fun x d => x + (s.rd d p) <<< d.lo) 0

/-- The PF images of a configuration meet the conditions of R792 and R794. -/
def pfCfgOk (links imgs : List Nat) : Bool :=
  let ps := imgs.map pfImage
  let on := ps.filter fun x => x.on
  let apart := fun (a b : PfImage) => decide (a.vfs = 0 ∨ b.vfs = 0 ∨ a.first + a.vfs ≤ b.first ∨ b.first + b.vfs ≤ a.first)
  (match ps with
    | [] => false
    | x :: _ => x.on)
    && decide (List.Pairwise (fun a b : PfImage => a.link ≠ b.link ∧ apart a b = true) on)
    && (on.all fun x => links.contains x.link && decide (x.first % 32 = 0) && decide (x.vfs % 32 = 0))
    && (on.all fun x => decide (x.first + x.vfs ≤ 4096))
    && decide (((on.map fun x => x.vecs).foldl (fun (a b : Nat) => a + b) 0) ≤ 32768)

/-- HIF may be enabled (R794). -/
def hifOk (s : State) : Bool := pfCfgOk (strapLinks s) ((List.range 8).map (pfCfgWord s))

/-- What else an ENABLE.enable write of 1 is checked against, beside the combination (R33, R794 and the like). -/
def enableOk (s : State) (b : Blk) : Bool :=
  match b with
  | .wq | .cq | .pp | .tm | .cip | .nrg => ledgerAreaOk s
  | .hif => hifOk s
  | .blk => decide (256 ≤ s.areas.blkStage)
  -- ENABLEOK
  | _ => true

/-- A class X field refuses writes now: its block is enabled (R10), or the unit that the field describes is in a state
that its chapter names. -/
def staticHeld (s : State) (r : FieldRef) : Bool :=
  if r.desc.blk = .ft && decide (r.desc.base / 0x1000 = FT_TABLE.kind.base / 0x1000) then s.on FT_TABLE.valid r.i
  -- STATICHELD
  else enabled s r.desc.blk

/-- A class L field that ignores writes now and sets locked_write: an entry or the cycle of a port's active gate list
(R436). -/
def liveHeld (s : State) (r : FieldRef) : Bool :=
  let active := fun p l => s.on TM_GATE_CTL.adopted p && decide (s.rd TM_GATE_CTL.active p = l)
  if r.isField TM_GATE.open || r.isField TM_GATE.interval_ns || r.isField TM_GATE.end_ then active (r.i / 2) (r.i % 2)
  else if r.isField TM_GATE_CYCLE.cycle0 then active r.i 0
  else if r.isField TM_GATE_CYCLE.cycle1 then active r.i 1
  -- LIVEHELD
  else false

/-- A change of phase_src clears locked and holdover and discards a qualification in progress (R61). -/
def newPhaseSource (s : State) : State :=
  let s1 := (s.wr TT_STATUS.locked 0).wr TT_STATUS.holdover 0
  { s1 with tt := { s1.tt with qualified := false, qualCount := 0, lastEdge := none } }

/-- A leg boundary of some length in nanoseconds has been reached and not yet acted on (R72, R75). -/
def boundaryDue (s : State) (ns : Nat) : Bool := s.tt.forceLeg || decide (now s / ns ≠ s.tt.lastLeg / ns)

/-- A direct write of the leg length: the leg in progress ends at the first multiple of the new length after it, and a
boundary of the old length that has been reached stays owed (R73). -/
def newLegLength (s0 s : State) : State :=
  { s with tt := { s.tt with forceLeg := boundaryDue s0 (s0.rd TT_LEG_LEN.leg_us * 1000), lastLeg := now s } }

/-- What follows when a field takes a value, beside the value itself; `s0` is the state before. -/
def onEffect (s0 s : State) (r : FieldRef) : State :=
  if r.isField TT_CTL.freq_src then
    { s with tt := { s.tt with onOsc := !s.on TT_CTL.freq_src } }
  else if r.isField TT_CTL.phase_src then
    if s0.rd TT_CTL.phase_src = s.rd TT_CTL.phase_src then s else newPhaseSource s
  else if r.isField TT_LEG_LEN.leg_us then newLegLength s0 s
  -- ONEFFECT
  else match shaperOf r.desc r.i r.j with
    | some x => adjustShaper s0 s x
    | none => s

end Sys2Proof.Machine
end

