-- ==== Sys2Proof/Machine/Setup.lean ====
section
/-! DEFINITION. Register writes by access code and change class, the staging banks and their applications (chapter Scope
and conventions). -/
namespace Sys2Proof.Machine

/-! ### One field of a write -/

/-- The value of a field after the bytes of a write are put into `cur` (R967). -/
def mergedValue (r : FieldRef) (addr len value cur : Nat) : Nat :=
  let k := r.desc.key r.i r.j
  let lo := max k (addr * 8)
  let hi := min (k + r.desc.width) ((addr + len) * 8)
  putBits cur (lo - k) (hi - lo) (bitsAt value (lo - addr * 8) (hi - lo))

/-- The value in effect of a field. -/
def FieldRef.value (s : State) (r : FieldRef) : Nat := s.rd r.desc r.i r.j

/-- The staged value of a field, where its staging bank holds one. -/
def FieldRef.staged (s : State) (r : FieldRef) : Option Nat := Map.find s.staged (r.desc.key r.i r.j)

/-- The write changes the field: it covers the field and carries another value than the one in effect (R967). -/
def changes (s : State) (addr len value : Nat) (r : FieldRef) : Bool :=
  decide (mergedValue r addr len value (r.value s) ≠ r.value s)

/-- A field of a busy DMA channel that DMA_CHAN_WRITE alone may write stands in a word with one that REGISTER_WRITE
writes (R615). -/
def channelHeld (s : State) (r : FieldRef) : Bool :=
  (r.isField DMA_CHAN.mode || r.isField DMA_CHAN.pf || r.isField DMA_CHAN.account) && s.on DMA_CHAN.state r.i

/-- The write would change a class X field that refuses writes (R10, R967). -/
def hitsStatic (s : State) (addr len value : Nat) (r : FieldRef) : Bool :=
  (channelHeld s r && changes s addr len value r)
    || (!r.desc.own && (liveHeld s r || (decide (r.desc.cls = .static) && staticHeld s r && changes s addr len value r))
      && decide (r.desc.acc = .rw ∨ r.desc.acc = .rwl))

/-- The write would change an RWL field of a locked block (R17, R967). -/
def hitsLock (s : State) (addr len value : Nat) (r : FieldRef) : Bool :=
  decide (r.desc.acc = .rwl) && s.on (lockField r.desc.blk) && changes s addr len value r

/-- A field takes a value at once, where R968 does not refuse it, and what follows. -/
def takeValue (r : FieldRef) (v : Nat) (s : State) : State :=
  if !enabled s r.desc.blk && !fieldOk s r v then s.wr (applyRejectField r.desc.blk) 1
  else onEffect s (s.wr r.desc v r.i r.j) r

/-- A class S write while the block is enabled goes to the staging bank (R10). -/
def stageValue (r : FieldRef) (v : Nat) (s : State) : State :=
  ({ s with staged := Map.insert s.staged (r.desc.key r.i r.j) (v % 2 ^ r.desc.width) }).wr (pendingField r.desc.blk) 1

/-- A class L write to a rod field while metering is enabled takes effect at the next leg boundary (R110). -/
def rodDeferred (s : State) (r : FieldRef) : Bool :=
  enabled s .nrg && decide (r.desc.cls = .live) && decide (r.desc.base = NRG_ROD.allot.base)

/-- A deferred rod write joins those that wait for the next boundary; on the tick of a boundary that has not been acted on
it waits for the one after (R110). -/
def deferRod (r : FieldRef) (addr len value : Nat) (s : State) : State :=
  let k := r.desc.key r.i r.j
  let cur := (Map.find s.nrg.rodLate k).getD ((Map.find s.nrg.rodWrites k).getD (r.value s))
  let v := mergedValue r addr len value cur
  if boundaryDue s (s.rd TT_LEG_LEN.leg_us * 1000) then
    { s with nrg := { s.nrg with rodLate := Map.insert s.nrg.rodLate k v } }
  else { s with nrg := { s.nrg with rodWrites := Map.insert s.nrg.rodWrites k v } }

/-- One covered field of a write that is not ignored as a whole. -/
def writeField (addr len value : Nat) (s : State) (r : FieldRef) : State :=
  if r.desc.own then s
  else match r.desc.acc with
    | .ro | .rc => s
    | .wo => takeValue r (mergedValue r addr len value (r.value s)) s
    | .w1c => s.wr r.desc (r.value s - (r.value s &&& mergedValue r addr len value 0)) r.i r.j
    | .w1s => onEffect s (s.wr r.desc (r.value s ||| mergedValue r addr len value 0) r.i r.j) r
    | .rw | .rwl =>
      if r.desc.cls = .staged && enabled s r.desc.blk then
        stageValue r (mergedValue r addr len value ((r.staged s).getD (r.value s))) s
      else if rodDeferred s r then deferRod r addr len value s
      else takeValue r (mergedValue r addr len value (r.value s)) s

/-- A write of some bytes is ignored as a whole: it would change a locked RWL field, or a class X field that refuses writes
(R10, R17, R967). -/
def writeRefused (s : State) (b : Blk) (addr len value : Nat) : Bool :=
  let fs := coveredIn b addr len
  fs.any (hitsLock s addr len value) || fs.any (hitsStatic s addr len value)

/-- A write of some bytes to the registers of a block (R8 to R11, R17, R967, R968).  A write that is ignored sets the flag
of each kind of field that refused it, both where it hits both. -/
def blockWrite (b : Blk) (addr len value : Nat) (s : State) : State :=
  let fs := coveredIn b addr len
  if writeRefused s b addr len value then
    let t := if fs.any (hitsLock s addr len value) then s.wr (lockViolationField b) 1 else s
    if fs.any (hitsStatic s addr len value) then t.wr (lockedWriteField b) 1 else t
  else fs.foldl (writeField addr len value) s

/-! ### Applications -/

/-- The staged writes of a block, as field members and values. -/
def stagedOf (s : State) (b : Blk) : List (FieldRef × Nat) :=
  s.staged.filterMap fun p =>
    if decide (blockOf (p.1 / 8) = some b) then
      ((coveredIn b (p.1 / 8) 1).find? fun r => decide (r.desc.key r.i r.j = p.1)).map fun r => (r, p.2)
    else none

/-- The staging bank of a block without some of its writes. -/
def unstage (s : State) (ks : List Nat) : State :=
  { s with staged := s.staged.filter fun p => !ks.contains p.1 }

/-- The application of a block is asked for no more, and arm_time is clear (R19, R23). -/
def endApply (b : Blk) (s : State) : State :=
  ({ s with applyReq := s.applyReq.filter (fun x => decide (x ≠ b)),
            armDue := s.armDue.filter fun x => decide (x ≠ b) }).wr (armTimeField b) 0

/-- The fields that take effect at an application: all staged fields, but for leg_us of TT (R74). -/
def appliedNow (r : FieldRef) : Bool := !r.isField TT_LEG_LEN.leg_us

/-- The values in effect with a set of staged writes adopted, without what follows from them. -/
def adoptRaw (s : State) (ws : List (FieldRef × Nat)) : State :=
  ws.foldl (fun t w => t.wr w.1.desc w.2 w.1.i w.1.j) s

/-- APPLY.pending of TT stays 1 while a leg_us waits for its minute boundary (R74). -/
def keepPending (b : Blk) (s : State) : State :=
  if b = .tt && s.tt.legAdopt.isSome then s.wr (pendingField .tt) 1 else s

/-- The block adopts its whole staging bank as one event, or rejects it whole (R13, R16, R73, R74). -/
def applyBank (b : Blk) (s : State) : State :=
  let ws := stagedOf s b
  let keys := ws.map fun w => w.1.desc.key w.1.i w.1.j
  let s1 := (unstage (endApply b s) keys).wr (pendingField b) 0
  if ws.all (fun w => fieldOk s1 w.1 w.2) && comboOk (adoptRaw s1 ws) b then
    let eff := ws.filter fun w => appliedNow w.1
    let s2 := eff.foldl (fun t w => onEffect s t w.1) (adoptRaw s1 eff)
    match ws.find? fun w => !appliedNow w.1 with
    | none => keepPending b s2
    | some w => keepPending b { s2 with tt := { s2.tt with legAdopt := some w.2 } }
  else keepPending b (s1.wr (applyRejectField b) 1)

/-- The armed application of a block has reached its time (R20). -/
def armedNow (s : State) (b : Blk) : Bool := s.on (armTimeField b) && decide (s.rd (applyTtField b) ≤ now s)

/-- The block is asked to apply: by apply_now, or by an armed application whose time has come (R19 to R21). -/
def applyAsked (s : State) (b : Blk) : Bool := s.applyReq.contains b || s.armDue.contains b || armedNow s b

end Sys2Proof.Machine
end

