-- ==== Sys2Proof/Machine/TrackTime.lean ====
section
/-! DEFINITION. Track time: the counter and its tick, the reference inputs, holdover and lock, timestamps and boundaries
(chapter Track time). -/
namespace Sys2Proof.Machine

/-! ### The counter (R41 to R48) -/

/-- One nanosecond in the units of `TtState.sub` and `TtState.slew`. -/
def nsUnit : Nat := 10 ^ 18

/-- The frequency adjustment in effect, in 10^-12 (R42). -/
def freqAdj (s : State) : Int := signed 32 (s.rd TT_FREQ_ADJ.adj)

/-- The slew rate: 0 is treated as 1, and more than 500 as 500. -/
def slewPpm (s : State) : Nat := max 1 (min 500 (s.rd TT_SLEW.max_ppm))

/-- One tick at the corrected rate, in 10^-18 ns: 8 ns times one plus the adjustment (R42). -/
def tickUnits (s : State) : Nat := (8 * ((10 ^ 12 : Int) + freqAdj s) * 10 ^ 6).toNat

/-- What the slew moves in one tick: max_ppm of the corrected rate, no more than what remains (R48). -/
def slewUnits (s : State) : Int :=
  let c : Int := 8 * ((10 ^ 12 : Int) + freqAdj s) * (slewPpm s : Int)
  clampInt (-c) c s.tt.slew

/-- A ledger flag that held in the leg in progress (R121). -/
def legFlag (s : State) (b : Nat) : State := { s with nrg := { s.nrg with legFlags := s.nrg.legFlags ||| 2 ^ b } }

/-- One tick of the 125 MHz time clock without a load or step (R42). -/
def plainTick (s : State) : State :=
  let total := s.tt.sub + ((tickUnits s : Int) + slewUnits s).toNat
  { s with tt := { s.tt with
      tt := (s.tt.tt + total / nsUnit) % 2 ^ 64
      sub := total % nsUnit
      ticks := s.tt.ticks + 1
      slew := s.tt.slew - slewUnits s
      jumped := false } }

/-- A load takes effect at a tick: TT64 is the written value, the fraction is 0, valid is set, and a leg boundary is owed
(R44, R75). -/
def loadTick (s : State) (v : Nat) : State :=
  ({ s with tt := { s.tt with
      tt := v % 2 ^ 64, sub := 0, ticks := s.tt.ticks + 1, load := none, forceLeg := true, jumped := true } } : State).wr
    TT_STATUS.valid 1

/-- A step takes effect at a tick (R47). -/
def stepTick (s : State) : State :=
  if s.tt.stepBy = 0 then s
  else { s with tt := { s.tt with tt := (s.tt.tt + s.tt.stepBy) % 2 ^ 64, stepBy := 0, jumped := true } }

/-- One tick of the time clock, with the load or step that waits for it (R42, R44, R47). -/
def tick (s : State) : State :=
  let t := stepTick (match s.tt.load with
    | none => plainTick s
    | some v => loadTick s v)
  if t.tt.jumped then legFlag t 1 else t

/-- TT_STATUS.slewing follows the remaining slew. -/
def noteSlew (s : State) : State := if s.tt.slew = 0 then s else s.wr TT_STATUS.slewing 1

/-- The remaining slew changed by whole nanoseconds, saturating at 2^31 - 1 either way (R48, R77). -/
def addSlew (s : State) (ns : Int) : State :=
  let lim : Int := (2 ^ 31 - 1) * (nsUnit : Int)
  noteSlew { s with tt := { s.tt with slew := clampInt (-lim) lim (s.tt.slew + ns * (nsUnit : Int)) } }

/-- TT_LOAD: the next tick takes the value (R44, R45). -/
def execTtLoad (who : Initiator) (value : Nat) (s : State) : Out :=
  run s fun s => setupWrite TT_LOAD.tt64 0 value who s fun s =>
    if s.on TT_STATUS.valid then s.wr TT_STATUS.step_refused 1
    else { s with tt := { s.tt with load := some (value % 2 ^ 64), stepBy := 0 } }

/-- TT_STEP: the next tick adds delta (R47, R77). -/
def execTtStep (who : Initiator) (delta : Nat) (s : State) : Out :=
  run s fun s => setupWrite TT_STEP.delta 0 delta who s fun s =>
    if s.on TT_CTL.step_enable && decide (1 ≤ delta) && decide (delta ≤ 1000000000) then
      { s with tt := { s.tt with stepBy := s.tt.stepBy + delta } }
    else s.wr TT_STATUS.step_refused 1

/-- A servo write feeds the watchdog of R53. -/
def feedServo (s : State) : State := { s with tt := { s.tt with servoTt := now s } }

/-- TT_PHASE_ADJ (R48, R50, R77). -/
def execTtPhaseAdj (who : Initiator) (value : Nat) (s : State) : Out :=
  run s fun s => setupWrite TT_PHASE_ADJ.slew_ns 0 value who s fun s => feedServo (addSlew s (signed 32 value))

/-- TT_FREQ_ADJ, saturating at 200 ppm either way (R53, R77). -/
def execTtFreqAdj (who : Initiator) (value : Nat) (s : State) : Out :=
  run s fun s => setupWrite TT_FREQ_ADJ.adj 0 value who s fun s =>
    feedServo (s.wr TT_FREQ_ADJ.adj (wrapInt 32 (clampInt (-200000000) 200000000 (signed 32 value))))

/-- The slew has ended (R48). -/
def execSlewEnd (s : State) : Out :=
  run s fun s => if s.tt.slew = 0 then s.wr TT_STATUS.slewing 0 else s

/-- TT_NOW read: TT64, with the fraction latched (R77). -/
def execTtNowRead (who : Initiator) (s : State) : Out :=
  run s fun s => managed .tt who (answer s 0) fun s => answer (s.wr TT_NOW_FRAC.frac (nowFrac s)) (now s)

/-! ### References, holdover and lock (R49 to R61) -/

/-- The device acquires lock (R60). -/
def acquiring (s : State) : Bool :=
  (decide (s.rd TT_CTL.phase_src = 1) || decide (s.rd TT_CTL.phase_src = 2)) && s.on TT_STATUS.valid
    && !s.on TT_STATUS.locked && !s.on TT_STATUS.holdover

/-- The start of holdover (R54). -/
def startHoldover (s : State) : State :=
  let s := ((s.wr TT_STATUS.holdover 1).wr TT_STATUS.locked 0).wr TT_HOLD_TT.tt64 (now s)
  raise (legFlag { s with tt := { s.tt with qualified := false, qualCount := 0 } } 0) 0x041

/-- TT_SERVO.ptp_locked written (R53, R57, R60). -/
def execTtServoWrite (who : Initiator) (locked : Bool) (s : State) : Out :=
  run s fun s => setupWrite TT_SERVO.ptp_locked 0 (flag locked) who s fun s =>
    let s := s.wr TT_SERVO.ptp_locked (flag locked)
    if s.rd TT_CTL.phase_src ≠ 2 then s
    else if locked then
      if s.on TT_STATUS.holdover || acquiring s then { s with tt := { s.tt with qualified := true } } else s
    else if s.on TT_STATUS.locked then startHoldover s
    else { s with tt := { s.tt with qualified := false } }

/-- The TT64 offset of now from the nearest whole second (R56). -/
def phaseError (s : State) : Int :=
  let r := now s % 1000000000
  if r < 500000000 then (r : Int) else (r : Int) - 1000000000

/-- An edge `ns` after the one before it lies within the window of one second (R56, R60). -/
def inPpsWindow (s : State) (last : Nat) : Bool :=
  decide (last + 1000000000 ≤ now s + s.rd TT_QUAL.pps_win) && decide (now s ≤ last + 1000000000 + s.rd TT_QUAL.pps_win)

/-- An edge toward qualification: the count goes on when it lies in the window of the one before it, else it restarts at
1; at qual_count the source qualifies and the phase error joins the slew (R56, R60). -/
def countEdge (s : State) : State :=
  let follows := match s.tt.lastEdge with
    | none => false
    | some l => inPpsWindow s l
  let c := if follows && decide (0 < s.tt.qualCount) then s.tt.qualCount + 1 else 1
  let s1 := { s with tt := { s.tt with lastEdge := some (now s), qualCount := c } }
  if !s.tt.qualified && decide (max 1 (s.rd TT_QUAL.qual_count) ≤ c) then
    addSlew { s1 with tt := { s1.tt with qualified := true } } (-(phaseError s))
  else s1

/-- A rising edge on PPS_IN (R49, R56, R60, R61). -/
def execPpsEdge (s : State) : Out :=
  run s fun s =>
    let s := raise ((s.wr TT_PPS_CAP.tt64 (now s)).wr TT_PPS_CAP_FRAC.frac (nowFrac s)) 0x040
    if s.rd TT_CTL.phase_src ≠ 1 || !s.on TT_STATUS.valid then s
    else if s.on TT_STATUS.locked then
      match s.tt.lastEdge with
      | none => { s with tt := { s.tt with lastEdge := some (now s) } }
      | some l => if inPpsWindow s l then { s with tt := { s.tt with lastEdge := some (now s) } } else s
    else countEdge s

/-- No PPS_IN edge within the window of the expected second while locked (R53, R54). -/
def execPpsWindowExpiry (s : State) : Out :=
  run s fun s =>
    match s.tt.lastEdge with
    | none => s
    | some l =>
      if s.rd TT_CTL.phase_src = 1 && s.on TT_STATUS.locked
          && decide (l + 1000000000 + s.rd TT_QUAL.pps_win ≤ now s) then
        startHoldover (s.wr TT_STATUS.pps_missing 1)
      else s

/-- The servo watchdog (R53, R54). -/
def execServoWatchdogExpiry (s : State) : Out :=
  run s fun s =>
    if s.rd TT_CTL.phase_src = 2 && s.on TT_STATUS.locked && decide (s.rd TT_SERVO.wdog ≠ 0)
        && decide (s.tt.servoTt + s.rd TT_SERVO.wdog * 100000000 ≤ now s) then startHoldover s
    else s

/-- Lock is acquired, or holdover ends (R58, R60). -/
def execLockAcquired (s : State) : Out :=
  run s fun s =>
    if s.tt.qualified && (s.on TT_STATUS.holdover || acquiring s)
        && decide (s.tt.slew.natAbs ≤ s.rd TT_QUAL.lock_thresh * nsUnit) then
      let s := (s.wr TT_STATUS.holdover 0).wr TT_STATUS.locked 1
      raise { s with tt := { s.tt with qualified := false, qualCount := 0 } } 0x042
    else s

/-- A REFCLK_TT offset or gap fault (R51). -/
def execRefclkFault (s : State) : Out :=
  run s fun s =>
    if s.on TT_CTL.freq_src && !s.tt.onOsc then
      raise (({ s with tt := { s.tt with onOsc := true } }).wr TT_STATUS.freq_fault 1) 0x043
    else s

/-! ### TX timestamps (R62, R65, R66) -/

/-- The timestamp FIFO of a port. -/
def txFifo (s : State) (p : Nat) : List TxStamp := Map.get s.tt.txFifo p

/-- The FIFO registers of a port show its head and its count (R77). -/
def syncTxts (s : State) (p : Nat) : State :=
  let s := s.wr TT_TXTS_STAT.count (txFifo s p).length p
  match txFifo s p with
  | [] => (((s.wr TT_TXTS.tt64 0 p).wr TT_TXTS.frac 0 p).wr TT_TXTS.seq_id 0 p).wr TT_TXTS.entry_valid 0 p
  | x :: _ => (((s.wr TT_TXTS.tt64 x.tt p).wr TT_TXTS.frac x.frac p).wr TT_TXTS.seq_id x.seqId p).wr TT_TXTS.entry_valid 1 p

/-- A departing frame pushes its timestamp; a full FIFO discards it (R65, R66). -/
def pushTxStamp (s : State) (p : Nat) (x : TxStamp) : State :=
  if 64 ≤ (txFifo s p).length then s.wr TT_TXTS_STAT.overflow 1 p
  else raise (syncTxts { s with tt := { s.tt with txFifo := Map.set s.tt.txFifo p (txFifo s p ++ [x]) } } p) 0x044

/-- TT80 adjusted by a latency in 1/16 ns (R62): the time `lat` before (receive) or after (transmit) now. -/
def stampShift (s : State) (lat : Int) : Nat × Nat :=
  let t : Int := ((now s : Int) * 65536 + (nowFrac s : Int)) + lat * 4096
  let t := if t < 0 then 0 else t.toNat
  (t / 65536 % 2 ^ 64, t % 65536)

/-- The arrival TT80 of a frame on a port (R62, R63). -/
def arrivalStamp (s : State) (p : Nat) : Nat × Nat := stampShift s (-(s.rd TT_PORT_LAT.rx_lat p : Int))

/-- The departure TT80 of a frame on a port (R62). -/
def departureStamp (s : State) (p : Nat) : Nat × Nat := stampShift s (s.rd TT_PORT_LAT.tx_lat p : Int)

/-- A read of TT_TXTS +0x8 removes the head entry (R77). -/
def execTxtsPop (who : Initiator) (port : Nat) (s : State) : Out :=
  run s fun s => managed .tt who (answer s 0) fun s =>
    if 16 ≤ port then answer s 0
    else
      let v := match txFifo s port with
        | [] => 0
        | x :: _ => x.frac + x.seqId <<< 16 + 1 <<< 32
      syncTxts (answer { s with tt := { s.tt with txFifo := Map.set s.tt.txFifo port (txFifo s port).tail } } v) port

/-! ### Boundaries (R72 to R76) -/

/-- The leg length in effect, in ns. -/
def legNs (s : State) : Nat := s.rd TT_LEG_LEN.leg_us * 1000

/-- Nanoseconds of a billing minute. -/
def minuteNs : Nat := 60000000000

/-- A leg boundary has been reached and not yet acted on (R72, R75). -/
def legDue (s : State) : Bool := boundaryDue s (legNs s)

/-- A billing-minute boundary has been reached and not yet acted on (R72). -/
def minuteReached (s : State) : Bool := decide (now s / minuteNs ≠ s.tt.lastMinute / minuteNs)

/-- The boundaries that one leg-boundary event has crossed, at least 1, saturating (R75). -/
def crossedLegs (s : State) : Nat := satNat 65535 (max 1 (now s / legNs s - s.tt.lastLeg / legNs s))

/-- The boundaries of one leg-boundary event are kept for the pacers: they extend the newest run where the leg length and
the parameters are the same (R520). -/
def keepLeg (s : State) : State :=
  let r : LegRun := {
    start := s.tt.lastLeg, stop := now s, len := legNs s, count := crossedLegs s, ai := s.rd TRN_PACER.ai_mbps
    fi := s.rd TRN_PACER.fi_mult }
  let runs := match s.trn.legRuns.getLast? with
    | some o =>
      if o.stop = r.start ∧ o.len = r.len ∧ o.ai = r.ai ∧ o.fi = r.fi ∧ !s.tt.forceLeg then
        s.trn.legRuns.dropLast ++ [{ o with stop := r.stop, count := o.count + r.count }]
      else s.trn.legRuns ++ [r]
    | none => [r]
  { s with trn := { s.trn with legRuns := runs } }

/-- The leg-boundary event as the TT block reports it (R75). -/
def noteLeg (s : State) : State :=
  let s1 := ((keepLeg s).wr TT_LEG_START.crossed (crossedLegs s)).wr TT_LEG_START.start (now s / legNs s * legNs s)
  { s1 with tt := { s1.tt with lastLeg := now s, forceLeg := false } }

/-- A staged leg length takes effect at the minute boundary (R74). -/
def adoptLeg (s : State) : State :=
  match s.tt.legAdopt with
  | none => s
  | some v =>
    let s := s.wr TT_LEG_LEN.leg_us v
    let left := (stagedOf s .tt).length
    ({ s with tt := { s.tt with legAdopt := none } }).wr (pendingField .tt) (flag (decide (0 < left)))

/-! ### The order of events that are due (R67 to R71) -/

/-- A refill boundary has been reached since the last refill (R423, R428). -/
def refillDue (s : State) : Bool :=
  let r := max 1 (s.rd TM_CFG.refill_ns)
  decide (now s / r ≠ s.tm.lastRefill / r)

/-- An event armed for a time, by the block that armed it. -/
inductive Armament where
  | application (b : Blk)
  | leg
  | refill
  | gate (port : Nat)
  | timer (thread : Nat)
  | wait (chan : Nat)
deriving DecidableEq, Repr

/-- The TT64 of the leg boundary that is due: the first one crossed. -/
def legTime (s : State) : Nat := (s.tt.lastLeg / legNs s + 1) * legNs s
/-- The TT64 of the refill boundary that is due: the first one crossed. -/
def refillTime (s : State) : Nat :=
  let r := max 1 (s.rd TM_CFG.refill_ns)
  (s.tm.lastRefill / r + 1) * r

/-- The timers, gate lists and waits that are armed, with their times. -/
def armedEvents (s : State) : List (Nat × Armament) :=
  (s.tm.armed.filter fun p => p.2.on && decide (p.2.tick ≤ s.tt.ticks)).map (fun p => (p.2.tt, Armament.gate p.1))
    ++ (s.rly.threads.filter fun p => p.2.armed && decide (p.1 < 512) && decide (s.rd RLY_THCTX.state p.1 ≠ 0)).map
        (fun p => (p.2.timer, Armament.timer p.1))
    ++ (if enabled s .dma then s.dma.chans.filterMap (fun p => match p.2.wait with
      | .until t => some (t, Armament.wait p.1)
      | .semaphore (some t) => some (t, Armament.wait p.1)
      | _ => none) else [])

/-- Every event of a block at a stated time that has been reached, with its time. -/
def dueEvents (s : State) : List (Nat × Armament) :=
  (if legDue s then [(legTime s, Armament.leg)] else [])
    ++ (if enabled s .tm && refillDue s then [(refillTime s, Armament.refill)] else [])
    ++ (armedEvents s).filter fun x => decide (x.1 ≤ now s)

/-- An event for an earlier time than `t` is due and fires first (R70). -/
def dueBefore (s : State) (t : Nat) : Bool := (dueEvents s).any fun x => decide (x.1 < t)

/-- A block's armed application fires before its event for time `t`: at the same tick it comes first; at a step or load the
events fire in the order of their times, and it precedes those of its own time (R69, R70). -/
def applicationFirst (s : State) (b : Blk) (t : Nat) : Bool :=
  armedNow s b && (!s.tt.jumped || decide (s.rd (applyTtField b) ≤ t))

/-- The block's armed application, where it fires before the block's event for time `t`. -/
def applyFirst (b : Blk) (t : Nat) (s : State) : State := if applicationFirst s b t then applyBank b s else s

/-- PPS_OUT rises at each whole second (R76). -/
def execPpsOutRise (s : State) : Out :=
  run s fun s =>
    if s.on TT_CTL.pps_out_enable && decide (s.pins.ppsSecond ≠ now s / 1000000000 + 1)
        && decide (now s % 1000000000 < 100000) then
      { s with pins := { s.pins with ppsOut := true, ppsSecond := now s / 1000000000 + 1 } }
    else s

/-- PPS_OUT falls 100 microseconds after the whole second (R76). -/
def execPpsOutFall (s : State) : Out :=
  run s fun s =>
    if s.pins.ppsOut && decide ((s.pins.ppsSecond - 1) * 1000000000 + 100000 ≤ now s) then
      { s with pins := { s.pins with ppsOut := false } }
    else s

end Sys2Proof.Machine
end

