-- ==== Sys2Proof/Machine/Abacus.lean ====
section
/-! DEFINITION. The abacus log and the counts of detected faults (R263 to R282). -/
namespace Sys2Proof.Machine

/-- The registers of the abacus log show its oldest entry and its length (R282). -/
def syncAbcLog (s : State) : State :=
  let s := s.wr DEV_ABC_LOG_STAT.held s.abc.log.length
  match s.abc.log with
  | [] =>
    ((((s.wr DEV_ABC_LOG.law 0).wr DEV_ABC_LOG.instance 0).wr DEV_ABC_LOG.expected 0).wr DEV_ABC_LOG.observed 0).wr
      DEV_ABC_LOG.tt 0
  | e :: _ =>
    ((((s.wr DEV_ABC_LOG.law e.law).wr DEV_ABC_LOG.instance e.inst).wr DEV_ABC_LOG.expected e.expected).wr
      DEV_ABC_LOG.observed e.observed).wr DEV_ABC_LOG.tt e.tt

/-- The abacus log takes an entry, or loses it where it is full (R273). -/
def abcAccept (s : State) (e : AbcEntry) : State :=
  if 16 ≤ s.abc.log.length then s.countSat DEV_ABC_LOG_STAT.lost
  else syncAbcLog { s with abc := { s.abc with log := s.abc.log ++ [e] } }

/-- The results of one law that wait for the collector of the abacus log. -/
def abcHeld (s : State) (law : Nat) : List AbcEntry := s.abc.waiting.filter fun e => decide (e.law = law)

/-- One cycle of the collector of the abacus log: it accepts the oldest result of the law whose turn it is (R263, R265, R267). -/
def abcServe (s : State) : State :=
  match nextInTurn s.abc.lastLaw (s.abc.waiting.map (·.law)) with
  | none => s
  | some law => match abcHeld s law with
    | [] => s
    | e :: _ => abcAccept { s with abc := { s.abc with lastLaw := some law, waiting := s.abc.waiting.erase e } } e

/-- Cycles of the collector of the abacus log; `n` bounds them. -/
def abcServes : Nat → State → State
  | 0, s => s
  | n + 1, s => abcServes n (abcServe s)

/-- The collector of the abacus log accepts every result that waits. -/
def abcDrain (s : State) : State := abcServes s.abc.waiting.length s

/-- A law's check with all its places full holds its result and stalls until the collector has served it; `n` bounds the
cycles (R264). -/
def abcStall (law : Nat) : Nat → State → State
  | 0, s => s
  | n + 1, s => if 4 ≤ (abcHeld s law).length then abcStall law n (abcServe s) else s

/-- One entry sent to the abacus log through its collector (R264, R271). -/
def abcSend (s : State) (e : AbcEntry) : State :=
  let s := abcStall e.law s.abc.waiting.length (s.count DEV_ABC_COUNT.count 1 e.law)
  raise { s with abc := { s.abc with waiting := s.abc.waiting ++ [e] } } 0x000

/-- One instance of a law checked (R271, R274): an instance is logged when it is first found out of balance. -/
def abcCheck (law inst expected observed : Nat) (s : State) : State :=
  if !(s.rd DEV_ABC_CTL.law_en).testBit law then s
  else if expected = observed then
    { s with abc := { s.abc with open_ := s.abc.open_.filter fun x => decide (x ≠ (law, inst)) } }
  else if s.abc.open_.contains (law, inst) then s
  else abcSend { s with abc := { s.abc with open_ := s.abc.open_ ++ [(law, inst)] } } ⟨law, inst, expected, observed, now s⟩

/-- A read of DEV_ABC_LOG +0x18 removes the oldest entry (R282). -/
def execAbacusLogRead (who : Initiator) (s : State) : Out :=
  run s fun s => managed .dev who (answer s 0) fun s =>
    syncAbcLog { answer s (s.rd DEV_ABC_LOG.tt) with abc := { s.abc with log := s.abc.log.tail } }

/-- A detection event settled by the re-read or by recomputation (R280). -/
def detRecomputed (s : State) : State := pmc (s.count DEV_DET_COUNT.recomputed) 0x003 0 1 none

end Sys2Proof.Machine
end

