-- ==== Sys2Proof/Machine/Energy.lean ====
section
/-! DEFINITION. Beads, legs and the device allowance: metering, the split of a leg, rods and credits, the minute ledger
and snapshots, power domains and the thermal levels (chapter Beads, legs and budget scheduling). -/
namespace Sys2Proof.Machine

/-! ### The allowance (R100 to R102) -/

/-- NRG_STATUS.allow_spent follows its condition; a change from 0 to 1 raises NRG_ALLOW_SPENT (R101). -/
def noteAllowance (s : State) : State :=
  let s1 := s.wr NRG_STATUS.allow_spent (flag (allowSpent s))
  if allowSpent s && !s.on NRG_STATUS.allow_spent then raise (legFlag s1 6) 0x061 else s1

/-! ### Measuring (R82 to R86) -/

/-- The domains that draw static power: the three always-on parts and every switched domain that is not off (R82). -/
def poweredDomains (s : State) : List Nat :=
  (List.range 123).filter fun d => decide (Map.get s.nrg.domains d ≠ .off)

/-- The coefficient kind of a domain (the table of R83). -/
def kindOf (d : Nat) : Nat :=
  if d < 64 then 0 else if d < 72 then 1 else if d < 96 then 2 else if d < 108 then 3
  else if d < 112 then 4 else if d < 120 then 5 else 6

/-- An amount of 2^-16 bead joins the estimate of a domain. -/
def addEst (s : State) (d w : Nat) : State :=
  let leg := s.nrg.leg
  { s with nrg := { s.nrg with leg := { leg with est := Map.set leg.est d (Map.get leg.est d + w) } } }

/-- An amount of 2^-16 bead recorded as activity of an account in a domain. -/
def addAct (s : State) (d a w : Nat) : State :=
  let leg := s.nrg.leg
  let k := d * 4096 + a
  { s with nrg := { s.nrg with leg := { leg with act := Map.set leg.act k (Map.get leg.act k + w) } } }

/-- One microsecond of static energy of every powered domain (R82). -/
def accrueStatic (s : State) : State :=
  (poweredDomains s).foldl (fun t d => addEst t d (t.rd NRG_COEF.coef (kindOf d) 0)) s

/-- While avs is 1 the device may send the CORE regulator a set-point between 650 and 850 mV in steps of 5 mV (R84, R952).
The spec does not say when, nor which: both are free values at each sample. -/
def sendSetPoint (s : State) : State :=
  if !s.on NRG_RAIL.avs 0 then s
  else
    let x := freeWord s
    if x.1 % 2 = 0 then x.2
    else { x.2 with nrg := { x.2.nrg with avsMv := 650 + 5 * (x.1 / 2 % 41) } }

/-- The voltage used for a rail, in mV: with avs = 1 the last set-point sent, 750 before the first (R84). -/
def railMv (s : State) (r : Nat) : Nat :=
  if r = 0 && s.on NRG_RAIL.avs 0 then s.nrg.avsMv else s.rd NRG_RAIL.v_mv r

/-- The power of one sample in 2^-16 W: the 12-bit sample over 4,095 of full scale, times the voltage (R84, R85). -/
def samplePower (s : State) (r x : Nat) : Nat :=
  x * s.rd NRG_RAIL.fs_ma r * railMv s r * 65536 / (4095 * 1000000)

/-- One sample joins the measured energy of its rail (R85, R86). -/
def sampleRail (s : State) (r x : Nat) : State :=
  let x := x % 4096
  let leg := s.nrg.leg
  let m := Map.get leg.rails r
  let m' : RailLeg := ⟨m.measured + samplePower s r x, m.samples + 1, m.zeros + flag (decide (x = 0)),
    m.full + flag (decide (x = 4095))⟩
  { s with nrg := { s.nrg with leg := { leg with rails := Map.set leg.rails r m' } } }

/-- IMON_SAMPLE: one microsecond of metering (R82, R84, R85, R101, R970). -/
def execImonSample (core mem io : Nat) (s : State) : Out :=
  run s fun s =>
    if enabled s .nrg && s.nrg.metering then
      noteAllowance (sendSetPoint (sampleRail (sampleRail (sampleRail (accrueStatic s) 0 core) 1 mem) 2 io))
    else s

/-! ### The split of a leg (R86 to R91) -/

/-- The estimate of a rail: the sum over its domains (R89). -/
def railEst (c : LegCounts) (r : Nat) : Nat :=
  c.est.foldl (fun t p => if railOf p.1 = r then t + p.2 else t) 0

/-- A rail is estimate-only for a leg (R86): by the full scale that was in effect in the leg (R971). -/
def estOnly (c : LegCounts) (r : Nat) : Bool :=
  let m := Map.get c.rails r
  c.unrated.testBit r || (decide (m.zeros = m.samples) && decide (railEst c r ≠ 0))
    || decide (m.samples < 2 * m.full)

/-- The measured energy that the split uses (R86). -/
def railMeasured (s : State) (c : LegCounts) (r : Nat) : Nat :=
  if estOnly c r then railEst c r * s.rd NRG_RAIL_LEG.k r / 4096 else (Map.get c.rails r).measured

/-- Charges of whole beads by account, under way. -/
def addCharge (m : Map Nat) (a n : Nat) : Map Nat := Map.set m a (Map.get m a + n)

/-- The share of one domain divided among the accounts by activity; what is left goes to account 0 (R89). -/
def splitDomain (c : LegCounts) (charge : Map Nat) (d share : Nat) : Map Nat :=
  let acts := c.act.filter fun p => decide (p.1 / 4096 = d) && decide (0 < p.2)
  let total := acts.foldl (fun t p => t + p.2) 0
  if total = 0 then addCharge charge 0 share
  else
    let r := acts.foldl (fun (x : Map Nat × Nat) p =>
      let n := share * p.2 / total
      (addCharge x.1 (p.1 % 4096) n, x.2 + n)) (charge, 0)
    addCharge r.1 0 (share - r.2)

/-- The whole beads of one rail divided among its domains and their accounts (R89). -/
def splitRail (c : LegCounts) (r beads : Nat) (charge : Map Nat) : Map Nat :=
  let ds := c.est.filter fun p => decide (railOf p.1 = r)
  let w := railEst c r
  let x := ds.foldl (fun (x : Map Nat × Nat) p =>
    let n := if w = 0 then 0 else beads * p.2 / w
    (splitDomain c x.1 p.1 n, x.2 + n)) (charge, 0)
  addCharge x.1 0 (beads - x.2)

/-- The scale factor of a rail after a commit, with its clamp (R87). -/
def updateScale (s : State) (c : LegCounts) (r : Nat) : State :=
  let w := railEst c r
  let m := railMeasured s c r
  if estOnly c r || decide (w = 0) then s
  else
    let s1 := s.wr NRG_RAIL_LEG.k (max 2048 (min 8192 (m * 4096 / w))) r
    if m * 2 < w ∨ 2 * w < m then
      raise (s1.wr NRG_STATUS.clamp (s1.rd NRG_STATUS.clamp ||| 2 ^ r)) 0x060
    else s1

/-- The charge of one account reaches its rod (R89, R94). -/
def chargeRod (s : State) (a n : Nat) : State :=
  let s := s.count NRG_ROD.consumed n a
  let s := s.wr NRG_ROD.balance (wrapInt 64 (balanceOf s a - (n : Int))) a
  s.count NRG_ROD.minute_beads n a

/-- The flags that a leg shows in the ledger, with what its commit found (R121). -/
def commitFlags (s0 s : State) (c : ClosedLeg) : Nat :=
  let est := decide (s.rd NRG_STATUS.est_only ≠ 0)
  let clamp := (List.range 3).any fun r =>
    let w := railEst c.counts r
    let m := railMeasured s0 c.counts r
    !estOnly c.counts r && decide (w ≠ 0) && decide (m * 2 < w ∨ 2 * w < m)
  c.flags ||| (flag est) <<< 3 ||| (flag clamp) <<< 4

/-- The 64-byte image of a ledger record with lseq 0 (R121). -/
def ledgerImage (type flags minuteTt account legs beads total balance extra : Nat) : Nat :=
  type + flags <<< 8 + minuteTt <<< 64 + account <<< 128 + (legs % 2 ^ 32) <<< 160 + (beads % 2 ^ 64) <<< 192
    + (total % 2 ^ 64) <<< 256 + (balance % 2 ^ 64) <<< 320 + (extra % 2 ^ 32) <<< 384

/-- The accounts of a minute's records: enabled, or charged in the minute, in ascending order (R121). -/
def minuteAccounts (s : State) : List Nat :=
  let ms := 0 :: (listedMembers s NRG_ROD.enable ++ listedMembers s NRG_ROD.minute_beads)
  (ms.foldl (fun (m : Map Nat) a => Map.insert m a a) []).filterMap fun p =>
    if s.on NRG_ROD.enable p.1 || decide (s.rd NRG_ROD.minute_beads p.1 ≠ 0) then some p.1 else none

/-- The close of a minute at the commit of its last leg: the records' contents, and new counts (R109 step 5, R121). -/
def closeMinute (s : State) (start : Nat) : State :=
  let fl := s.nrg.minFlags
  let recs := (minuteAccounts s).map fun a =>
    ledgerImage 1 fl start a (s.nrg.minLegs - Map.get s.nrg.funded a) (s.rd NRG_ROD.minute_beads a) (s.rd NRG_ROD.consumed a)
      (s.rd NRG_ROD.balance a) (Map.get s.nrg.refused a)
  let close : MinuteClose := ⟨start, recs, s.nrg.minLegs, s.nrg.minBeads, s.rd NRG_DEV_ENERGY.beads, fl⟩
  let s1 := { s with nrg := { s.nrg with
    minuteDue := some close, minFlags := 0, minLegs := 0, minBeads := 0, funded := [], refused := [] } }
  (listedMembers s1 NRG_ROD.minute_beads).foldl (fun t a => t.wr NRG_ROD.minute_beads 0 a) s1

/-- Charge reports of the partner are subtracted from the balances at a commit (R933). -/
def applyReports (s : State) : State :=
  let rs := s.nrg.reports
  rs.foldl (fun t p => t.wr NRG_ROD.balance (wrapInt 64 (balanceOf t p.1 - (p.2 : Int))) p.1)
    { s with nrg := { s.nrg with reports := [] } }

/-- At a commit an active device sends the balance of every account, and a standby the charge of each account (R913,
R933). -/
def mirrorCharges (s : State) (charge : Map Nat) : State :=
  if standby s then
    { s with pair := { s.pair with sent := s.pair.sent ++ charge.map fun p => .charge p.1 p.2 } }
  else delta s 0x0C (s.rd NRG_LEG_SEQ.seq) ((List.range 4096).flatMap fun a => leBytes 8 (s.rd NRG_ROD.balance a))

/-! ### Energy recalibration (R893) -/

/-- The rail whose scale factor the coefficients of a kind take; the always-on kind has its activity on CORE. -/
def kindRail (k : Nat) : Nat := if k = 3 then 1 else if k = 4 then 2 else 0

/-- The legs that ERECAL collects: [15:8] of its arg, 0 treated as 1. -/
def erecalLegs (s : State) : Nat := max 1 (bitsAt (Map.get s.mnt.args 6) 8 8)

/-- A coefficient as ERECAL finds it: in mode 1 the static one of a kind is the one measured. -/
def erecalBase (s : State) (k e : Nat) : Nat :=
  if e = 0 ∧ Map.get s.mnt.statics k ≠ 0 then Map.get s.mnt.statics k - 1 else s.rd NRG_COEF.coef k e

/-- ERECAL writes the new coefficients into the NRG staging bank and asks for its application (R893). -/
def erecalStage (s : State) : State :=
  let vals := (List.range 7).flatMap fun k => (List.range 5).map fun e =>
    (NRG_COEF.coef.key k e, erecalBase s k e * Map.get s.mnt.kSum (kindRail k) / (4096 * s.mnt.kLegs) % 2 ^ 32)
  let t : State := { s with
    staged := vals.foldl (fun m p => Map.insert m p.1 p.2) s.staged
    applyReq := if s.applyReq.contains .nrg then s.applyReq else s.applyReq ++ [.nrg]
    mnt := { s.mnt with applied := 1 } }
  t.wr (pendingField .nrg) 1

/-- ERECAL collects the scale factors of a committed leg while it runs (R893). -/
def erecalLeg (s : State) : State :=
  if s.rd MNT_ACT.state 6 ≠ 1 || s.mnt.applied ≠ 0 || s.mnt.stopReq.contains 6 then s
  else
    let sum := [0, 1, 2].foldl (fun m r => Map.set m r (Map.get m r + s.rd NRG_RAIL_LEG.k r)) s.mnt.kSum
    let s := ({ s with mnt := { s.mnt with kSum := sum, kLegs := s.mnt.kLegs + 1 } } : State).count MNT_ACT.progress 1 6
    if s.mnt.kLegs < erecalLegs s then s else erecalStage s

/-- The NRG block applies its staging bank; ERECAL learns whether its coefficients were adopted (R893). -/
def nrgApply (s : State) : State :=
  if s.mnt.applied ≠ 1 then applyBank .nrg s
  else
    let r := s.rd (applyRejectField .nrg)
    let t := applyBank .nrg (s.wr (applyRejectField .nrg) 0)
    let bad := t.on (applyRejectField .nrg)
    ({ t with mnt := { t.mnt with applied := if bad then 3 else 2 } } : State).wr (applyRejectField .nrg) (max r (flag bad))

/-- The commit of a closed leg: the rods, the device energy and the leg sequence change as one event (R89 to R91, R102),
and law 6 is checked (R270). -/
def commitLeg (s : State) (c : ClosedLeg) : State :=
  let rs := [0, 1, 2]
  let beads := fun r => (railMeasured s c.counts r + Map.get s.nrg.frac r) / 65536
  let charge := rs.foldl (fun m r => splitRail c.counts r (beads r) m) []
  let total := rs.foldl (fun t r => t + beads r) 0
  let frac := rs.foldl (fun m r => Map.set m r ((railMeasured s c.counts r + Map.get s.nrg.frac r) % 65536)) s.nrg.frac
  let eo := rs.foldl (fun t r => t + (flag (estOnly c.counts r)) <<< r) 0
  let s1 := charge.foldl (fun t p => chargeRod t p.1 p.2) s
  let s1 := (s1.count NRG_DEV_ENERGY.beads total).count NRG_LEG_SEQ.seq
  let s1 := rs.foldl (fun t r => t.wr NRG_RAIL_LEG.beads (beads r) r) (s1.wr NRG_STATUS.est_only eo)
  let s1 := erecalLeg (rs.foldl (fun t r => updateScale t c.counts r) s1)
  let s1 := applyReports { s1 with nrg := { s1.nrg with
    frac := frac, closed := none, lastUs := c.us, debt := s1.nrg.debt + (total - c.allowance),
    minLegs := s1.nrg.minLegs + 1, minBeads := s1.nrg.minBeads + total,
    minFlags := s1.nrg.minFlags ||| commitFlags s s1 c } }
  let s1 := mirrorCharges s1 charge
  let sum := (listedMembers s1 NRG_ROD.consumed).foldl (fun t a => t + s1.rd NRG_ROD.consumed a) 0
  let s2 := noteAllowance (abcDrain (abcCheck 6 0 (s1.rd NRG_DEV_ENERGY.beads) (sum % 2 ^ 64) s1))
  match c.minuteEnd with
  | none => s2
  | some m => closeMinute s2 m

/-- Accounts enabled in the register store; account 0 is enabled at reset. -/
def enabledAccounts (s : State) : List Nat := ((0 :: listedMembers s NRG_ROD.enable).filter fun a => s.on NRG_ROD.enable a).eraseDups

/-- Accounts that lack budget now are short in the leg in progress (R121). -/
def noteShort (s : State) : State :=
  { s with nrg := { s.nrg with short :=
      (s.nrg.short ++ (enabledAccounts s).filter fun a => !hasBudget s a && !s.nrg.short.contains a) } }

/-- LEG_COMMIT: the split and commit of the closed leg (R89, R109 step 4). -/
def execLegCommit (s : State) : Out :=
  run s fun s =>
    match s.nrg.closed with
    | none => s
    | some c => if enabled s .nrg then noteShort (commitLeg (noteShort s) c) else s

/-! ### The host ring of the ledger and its backlog (R121 to R123) -/

/-- Slots of the host ring (R122, R128). -/
def ledgerSlots (s : State) : Nat := 2 ^ (max 13 (min 24 (s.rd NRG_LEDGER_CFG.log2_slots)))

/-- The function through which the ledger is written. -/
def ledgerFn (s : State) : Nat := s.rd NRG_LEDGER_CFG.pf

/-- The host ring can take a record: it is not full, and its function may write (R122, R809). -/
def ledgerRoom (s : State) : Bool :=
  fnLive s (ledgerFn s) && decide (subMod 32 s.nrg.prod (s.rd NRG_LEDGER_CONS.cons) < ledgerSlots s)

/-- Records that the backlog area can hold: what is left of the ledger and telemetry area past its fixed 49 MiB (R32). -/
def backlogRoom (s : State) : Nat := (s.areas.ledger - 49) * 16384

/-- A record takes its lseq when it enters the ring or the backlog (R121). -/
def stampLseq (s : State) (image : Nat) : Nat × State :=
  (image + (s.nrg.lseq % 2 ^ 32) <<< 32, { s with nrg := { s.nrg with lseq := s.nrg.lseq + 1 } })

/-- A record enters the host ring; after a trailer the producer is published, NRG_LEDGER raised and the vector sent
(R122). -/
def ledgerPut (s : State) (image : Nat) : State :=
  let slot := s.nrg.prod % ledgerSlots s
  let s := hostWrite s (ledgerFn s) (s.rd NRG_LEDGER_BASE.addr + slot * 64) (leBytes 64 image)
  let s := { s with nrg := { s.nrg with prod := addMod 32 s.nrg.prod 1 } }
  if image % 256 = 2 then
    requestVector (raise (s.wr NRG_LEDGER_PROD.prod s.nrg.prod) 0x065) (ledgerFn s) (s.rd NRG_LEDGER_CFG.vector)
  else s

/-- A record is delivered: to the ring when nothing waits before it and the ring has room, else to the backlog
(R122, R123). -/
def ledgerDeliver (s : State) (image : Nat) : State :=
  let x := stampLseq s image
  if x.2.nrg.backlog.isEmpty && ledgerRoom x.2 then ledgerPut x.2 x.1
  else { x.2 with nrg := { x.2.nrg with backlog := x.2.nrg.backlog ++ [x.1] } }

/-- Backlog records enter the ring while it has room, oldest first (R123). -/
def drainLedger (s : State) : State :=
  s.nrg.backlog.foldl (fun t image =>
    if decide (t.nrg.backlog.head? = some image) && ledgerRoom t then
      ledgerPut { t with nrg := { t.nrg with backlog := t.nrg.backlog.tail } } image
    else t) s

/-- Records that wait enter the ring when it can take them again; with the block stopped nothing is written (R123,
R970). -/
def ledgerRetry (s : State) : State := if enabled s .nrg then drainLedger s else s

/-! ### At a leg boundary (R92, R109 to R113) -/

/-- The allotment of one enabled account below its burst cap (R92). -/
def creditAllotment (s : State) (a : Nat) : State :=
  let cap : Int := s.rd NRG_ROD.burst_cap a
  if s.on NRG_ROD.enable a && decide (balanceOf s a < cap) then
    s.wr NRG_ROD.balance (wrapInt 64 (min (balanceOf s a + (s.rd NRG_ROD.allot a : Int)) cap)) a
  else s

/-- The class L rod writes that waited take effect, and those of the boundary tick wait for the next boundary (R110). -/
def applyRodWrites (s : State) : State :=
  let ws := s.nrg.rodWrites
  ws.foldl (fun t w =>
    match (coveredIn .nrg (w.1 / 8) 1).find? fun r => decide (r.desc.key r.i r.j = w.1) with
    | none => t
    | some r => t.wr r.desc w.2 r.i r.j) { s with nrg := { s.nrg with rodWrites := s.nrg.rodLate, rodLate := [] } }

/-- The ledger flags that hold at the opening of a leg (R113, R121). -/
def openFlags (s : State) : Nat :=
  flag (inHoldover s) + (flag (!s.on TT_STATUS.valid)) <<< 2 + (flag s.nrg.throttle) <<< 5

/-- The rails whose full scale is 0, a bit each (R86). -/
def unratedRails (s : State) : Nat := [0, 1, 2].foldl (fun t r => t + (flag (decide (s.rd NRG_RAIL.fs_ma r = 0))) <<< r) 0

/-- The accounts that have had budget throughout the leg in progress: enabled, with budget now, and not found short in the
leg (R96, R121). -/
def fundedAccounts (s : State) : List Nat :=
  (enabledAccounts s).filter fun a => hasBudget s a && !s.nrg.short.contains a

/-- Step 2: the leg is closed and new counters open (R109, R102, R112); `unrated` are the rails of no full scale in it, and
`had` the accounts that had budget throughout it. -/
def closeLeg (s : State) (minuteEnd : Option Nat) (unrated : Nat) (had : List Nat) : State :=
  let c : ClosedLeg := ⟨{ s.nrg.leg with unrated := unrated }, allowance s, minuteEnd, s.nrg.legFlags, s.nrg.legUs⟩
  let s1 := if s.nrg.legFlags.testBit 6 then pmc s 0xA01 0 1 none else s
  { s1 with nrg := { s1.nrg with
      closed := some c, leg := {}, debt := s1.nrg.debt - grossAllowance s
      funded := had.foldl (fun m a => Map.set m a (Map.get m a + 1)) s1.nrg.funded } }

/-- A credit of a signed 48-bit number of beads joins a balance, saturating (R93). -/
def creditRod (s : State) (account delta : Nat) : State :=
  let a := account % 4096
  s.wr NRG_ROD.balance (wrapInt 64 (clampInt (-(2 ^ 63)) (2 ^ 63 - 1) (balanceOf s a + signed 48 delta))) a

/-- The credits that arrived at the boundary's tick follow its allotments (R94). -/
def applyLateCredits (s : State) : State :=
  s.nrg.lateCredits.foldl (fun t c => creditRod t c.1 c.2) { s with nrg := { s.nrg with lateCredits := [] } }

/-- A leg that still awaits its commit is committed (R109). -/
def commitPending (s : State) : State :=
  match s.nrg.closed with
  | none => s
  | some c => commitLeg s c

/-- What the NRG block does at a leg boundary (R109 to R113, R970, R971).  A leg whose commit is still owed is committed
after the allotments (R94), and before the leg in progress closes. -/
def nrgBoundary (s : State) (minuteEnd : Option Nat) : State :=
  let unrated := unratedRails s
  let s := if applyAsked s .nrg then nrgApply s else s
  if !enabled s .nrg then applyLateCredits (applyRodWrites s)
  else
    let had := fundedAccounts s
    let s := applyRodWrites { s with nrg := { s.nrg with short := [] } }
    let s := if 4 ≤ pairState s then s else (enabledAccounts s).foldl creditAllotment s
    let s := commitPending s
    let s := if s.nrg.metering then closeLeg s minuteEnd unrated had else s
    let s := applyLateCredits { s with nrg := { s.nrg with metering := true, legUs := s.rd TT_LEG_LEN.leg_us } }
    let s := noteShort s
    ledgerRetry (noteAllowance ({ s with nrg := { s.nrg with legFlags := openFlags s } }.wr NRG_STATUS.allow_spent 0))

/-- A leg-boundary event: an armed application of the TT block comes first, the TT block reports the boundary, at a minute
boundary it adopts a staged leg length, and the NRG block acts (R69, R74, R75, R109). -/
def legBoundary (s : State) : State :=
  let s := applyFirst .tt (legTime s) s
  let m0 := s.tt.lastLeg / minuteNs
  let s := noteLeg s
  if now s / minuteNs = m0 then nrgBoundary s none else nrgBoundary (adoptLeg s) (some (m0 * minuteNs))

/-- LEG_BOUNDARY (R70, R72, R75, R109). -/
def execLegBoundary (s : State) : Out :=
  run s fun s => if legDue s && !dueBefore s (legTime s) then legBoundary s else s

/-- BILLING_MINUTE_BOUNDARY: it is a leg boundary too, which adopts a staged leg length unless LEG_BOUNDARY has acted on it
already (R72, R74). -/
def execBillingMinuteBoundary (s : State) : Out :=
  run s fun s =>
    if minuteReached s && !(legDue s && dueBefore s (legTime s)) then
      let s := if legDue s then legBoundary s else s
      { s with tt := { s.tt with lastMinute := now s } }
    else s

/-! ### Credits (R93, R94) -/

/-- NRG_CREDIT: a signed 48-bit number of beads joins a balance at once, saturating; at the tick of a boundary that has not
been acted on it follows the boundary's allotments (R93, R94). -/
def execNrgCredit (who : Initiator) (account delta : Nat) (s : State) : Out :=
  run s fun s => setupWrite NRG_CREDIT.account 0 (account + delta <<< 16) who s fun s =>
    if legDue s then { s with nrg := { s.nrg with lateCredits := s.nrg.lateCredits ++ [(account % 4096, delta % 2 ^ 48)] } }
    else noteShort (creditRod (noteShort s) account delta)

/-! ### The minute ledger and snapshots (R121 to R125) -/

/-- The whole minute fits into the ring and the backlog area (R123). -/
def minuteFits (s : State) (n : Nat) : Bool :=
  let free := if s.nrg.backlog.isEmpty && fnLive s (ledgerFn s) then
    ledgerSlots s - subMod 32 s.nrg.prod (s.rd NRG_LEDGER_CONS.cons) else 0
  decide (n ≤ free + (backlogRoom s - s.nrg.backlog.length))

/-- The ledger records of a closed minute (R121, R123). -/
def writeMinute (s : State) (c : MinuteClose) : State :=
  if !s.on NRG_CTL.ledger_en then s
  else if minuteFits s (c.records.length + 1) then
    let trailer := ledgerImage 2 c.flags c.start 0 c.legs c.beads c.energy c.records.length s.nrg.lost
    (c.records ++ [trailer]).foldl ledgerDeliver { s with nrg := { s.nrg with lost := 0 } }
  else raise ({ s with nrg := { s.nrg with lost := s.nrg.lost + 1 } }.wr NRG_STATUS.ledger_overflow 1) 0x066

/-- The minute snapshot, taken or missed (R124, R125). -/
def takeSnapshot (s : State) (start : Nat) : State :=
  if !s.on NRG_CTL.snap_en then s
  else if s.on NRG_SNAP_SEQ.ready then
    raise ((s.countSat NRG_SNAP_SEQ.missed).wr NRG_STATUS.snap_missed 1) 0x067
  else
    let as := listedMembers s NRG_ROD.consumed ++ listedMembers s NRG_ROD.balance
      ++ listedMembers s NRG_SNAP.consumed ++ listedMembers s NRG_SNAP.balance
    let s := as.foldl (fun t a =>
      (t.wr NRG_SNAP.consumed (t.rd NRG_ROD.consumed a) a).wr NRG_SNAP.balance (t.rd NRG_ROD.balance a) a) s
    raise ((s.wr NRG_SNAP_SEQ.seq (start / minuteNs)).wr NRG_SNAP_SEQ.ready 1) 0x067

/-- LEDGER_MINUTE_WRITE: the snapshot and the records of a minute whose last leg has committed (R109 step 5). -/
def execLedgerMinuteWrite (s : State) : Out :=
  run s fun s =>
    match s.nrg.minuteDue with
    | none => s
    | some c =>
      if enabled s .nrg then
        let s := { s with nrg := { s.nrg with minuteDue := none } }
        writeMinute (takeSnapshot s c.start) c
      else s

/-- NRG_LEDGER_CONS written: slots become free and backlog records enter the ring (R123). -/
def execLedgerConsWrite (who : Initiator) (cons : Nat) (s : State) : Out :=
  run s fun s => setupWrite NRG_LEDGER_CONS.cons 0 cons who s fun s => ledgerRetry (s.wr NRG_LEDGER_CONS.cons cons)

/-- NRG_SNAP_SEQ.done written: the snapshot is released (R124). -/
def execSnapDone (who : Initiator) (s : State) : Out :=
  run s fun s => setupWrite NRG_SNAP_SEQ.done 0 1 who s fun s => s.wr NRG_SNAP_SEQ.ready 0

/-! ### Power domains (R79, R82, R83, R114 to R117) -/

/-- The state of a domain. -/
def domainState (s : State) (d : Nat) : DomainState := Map.get s.nrg.domains d

/-- NRG_DOM_ON shows a switched domain on or off, and CIP_STAT the cipher cores (R611). -/
def setDomain (s : State) (d : Nat) (x : DomainState) : State :=
  let s1 := { s with nrg := { s.nrg with domains := Map.set s.nrg.domains d x } }
  let s2 := if d < 120 then s1.wr NRG_DOM_ON.on (putBit (s1.rd NRG_DOM_ON.on) d (decide (x = .on))) else s1
  if 72 ≤ d ∧ d < 96 then s2.wr CIP_STAT.powered (putBit (s2.rd CIP_STAT.powered) (d - 72) (decide (x = .on))) else s2

/-- A domain wakes: it is on, the wake is counted, and its energy joins the estimate and the activity of account 0
(R83, R115). -/
def wakeDomain (s : State) (d : Nat) : State :=
  if domainState s d = .off then
    let w := s.rd NRG_COEF.coef (kindOf d) 1
    let s := pmc ((setDomain s d .on).count NRG_WAKES.count) 0xA00 0 1 none
    if s.nrg.metering then addAct (addEst s d w) d 0 w else s
  else s

/-- Work for a domain that must be on at once: a switch-off that has begun runs to its end first, and the domain then wakes in
full (R115, R116). -/
def needDomain (s : State) (d : Nat) : State :=
  wakeDomain (if domainState s d = .switchingOff then setDomain s d .off else s) d

/-- The TT64 from which a domain has been idle. -/
def touchDomain (s : State) (d : Nat) : State :=
  { s with nrg := { s.nrg with idleSince := Map.set s.nrg.idleSince d (now s) } }

/-- The idle time of R79 has passed. -/
def idleLongEnough (s : State) (d : Nat) : Bool :=
  decide (Map.get s.nrg.idleSince d + s.rd NRG_GATE.idle_us * 1000 ≤ now s)

/-! ### Thermal limits (R118 to R120) -/

/-- The index of the hottest of the readings and its value in 1/4 degree. -/
def hottest (rs : List Nat) : Nat × Int :=
  match rs with
  | [] => (0, 0)
  | r :: rest =>
    let x := rest.foldl (fun (x : Nat × Nat × Int) q =>
      if x.2.2 < signed 12 q then (x.1 + 1, x.1, signed 12 q) else (x.1 + 1, x.2.1, x.2.2)) (1, 0, signed 12 r)
    (x.2.1, x.2.2)

/-- Whether a level is in force after a reading: it starts strictly above its threshold and ends strictly below the
threshold minus 3 degrees (R118). -/
def levelAfter (inForce : Bool) (thresh : Nat) (t : Int) : Bool :=
  if inForce then !decide (t < 4 * (thresh : Int) - 12) else decide (4 * (thresh : Int) < t)

/-- A level's flag follows a reading, and its source is raised when the level starts. -/
def thermalLevel (s : State) (d : Desc) (thresh src : Nat) (t : Int) : State :=
  let after := levelAfter (s.on d) thresh t
  let s1 := s.wr d (flag after)
  if after && !s.on d then raise s1 src else s1

/-- THERMAL_SAMPLE: the 24 sensors are sampled and the levels start or end (R118 to R120). -/
def execThermalSample (readings : List Nat) (s : State) : Out :=
  run s fun s =>
    let rs := (readings ++ List.replicate (24 - readings.length) 0).take 24
    let h := hottest rs
    let s := (rs.foldl (fun (x : Nat × State) q => (x.1 + 1, x.2.wr NRG_SENSOR.temp_q q x.1)) (0, s)).2
    let s := (s.wr NRG_THERM_STAT.max_c (wrapInt 8 (h.2 / 4))).wr NRG_THERM_STAT.hottest h.1
    let s := thermalLevel s NRG_STATUS.warn (s.rd NRG_THERM.warn_c) 0x062 h.2
    let s := thermalLevel s NRG_STATUS.throttle (s.rd NRG_THERM.throttle_c) 0x063 h.2
    let s := thermalLevel s NRG_STATUS.critical 110 0x064 h.2
    let thr := s.on NRG_STATUS.throttle
    let s := { s with nrg := { s.nrg with throttle := thr }, pins := { s.pins with thermAlert := !s.on NRG_STATUS.warn } }
    let s := noteAllowance (if thr then legFlag s 5 else s)
    if 460 < h.2 then
      { s with nrg := { s.nrg with tripped := true, tripLatch := true },
               pins := { s.pins with thermTrip := false, thermAlert := true, ppsOut := false, pairAlive := false } }
    else s

end Sys2Proof.Machine
end

