-- ==== Sys2Proof/Machine/Operands.lean ====
section
/-! DEFINITION. The operands of work entries: the entry header and the words after it (R153), and the status codes of
completion records (R237). -/
namespace Sys2Proof.Machine

/-! ### The entry header (R153) -/

/-- The opcode. -/
def Entry.op (e : Entry) : Nat := bitsAt e.raw 0 8
/-- The size field. -/
def Entry.sizeField (e : Entry) : Nat := bitsAt e.raw 8 4
/-- The hurdle bit; a HURDLE entry has it set in effect (R254). -/
def Entry.fence (e : Entry) : Bool := bitAt e.raw 12 || e.op = 1
/-- The record bit. -/
def Entry.wantsRecord (e : Entry) : Bool := bitAt e.raw 13
/-- The flagged bit. -/
def Entry.flagged (e : Entry) : Bool := bitAt e.raw 14
/-- The reserved bit 15. -/
def Entry.reserved15 (e : Entry) : Bool := bitAt e.raw 15
/-- The submission sequence number. -/
def Entry.sseq (e : Entry) : Nat := bitsAt e.raw 16 16
/-- The tag. -/
def Entry.tag (e : Entry) : Nat := bitsAt e.raw 32 32
/-- Word `k` of the entry, 4 bytes each. -/
def Entry.word (e : Entry) (k : Nat) : Nat := bitsAt e.raw (32 * k) 32
/-- A field at byte offset `o`, bit `lo` of it, of width `w`. -/
def Entry.at (e : Entry) (o lo w : Nat) : Nat := bitsAt e.raw (8 * o + lo) w

/-- The size that an opcode requires (R154); none for an opcode not in the list. -/
def opcodeSize (op : Nat) : Option Nat :=
  match op with
  | 0x00 | 0x01 | 0x02 | 0x03 | 0x10 | 0x11 | 0x25 | 0x32 | 0x34 | 0x36 | 0x51 => some 1
  | 0x20 | 0x21 | 0x22 | 0x24 | 0x30 | 0x31 | 0x33 | 0x35 | 0x40 | 0x50 => some 2
  | 0x41 => some 4
  | _ => none

/-- An opcode is valid in a queue of a type (R156). -/
def opcodeFits (ty op : Nat) : Bool :=
  if op ≤ 2 then true
  else match ty with
    | 0 => op = 0x03
    | 1 => op = 0x10
    | 2 => op = 0x11
    | 3 => op = 0x20 || op = 0x21 || op = 0x22 || op = 0x24 || op = 0x25
    | 4 => decide (0x30 ≤ op) && decide (op ≤ 0x36)
    | 5 => op = 0x40 || op = 0x41
    | 6 => op = 0x50 || op = 0x51
    | _ => false

/-- An accepted entry that R156 finds invalid. -/
def malformed (ty : Nat) (e : Entry) : Bool :=
  !opcodeFits ty e.op || decide (opcodeSize e.op ≠ some e.sizeField) || e.reserved15

/-! ### Status codes (R237) -/

/-- Completed as requested. -/
def stOk : Nat := 0x00
/-- An abort or a stop won. -/
def stAborted : Nat := 0x01
/-- The ABORT's target was already decided. -/
def stAbortLate : Nat := 0x02
/-- No accepted, unretired entry matched. -/
def stAbortNotFound : Nat := 0x03
/-- Accepted, not begun, then stopped. -/
def stQueueStopped : Nat := 0x04
/-- Refused by a frozen block queue. -/
def stQueueFrozen : Nat := 0x05
/-- Malformed or not allowed for the queue. -/
def stInvalid : Nat := 0x06
/-- Account without budget under REFUSE. -/
def stBudgetRefused : Nat := 0x07
/-- Key slot reached its usage limit. -/
def stKeyExhausted : Nat := 0x08
/-- Key slot empty or of the wrong mode. -/
def stKeyInvalid : Nat := 0x09
/-- Authentication tag did not verify. -/
def stAuthFail : Nat := 0x0A
/-- Region is closing or revoked. -/
def stRegionClosed : Nat := 0x0B
/-- Peer refused the key, range or rights. -/
def stRemoteAccess : Nat := 0x0C
/-- Transport retries ran out. -/
def stRetryExceeded : Nat := 0x0D
/-- Connection not usable. -/
def stConnectionError : Nat := 0x0E
/-- An operation's time limit passed. -/
def stTimeout : Nat := 0x0F
/-- Host access failed after retry. -/
def stBusError : Nat := 0x10
/-- Detection code fired and recomputation failed. -/
def stDetectedFault : Nat := 0x11
/-- Function under migration. -/
def stMigrationFrozen : Nat := 0x12
/-- Backend reported a media error. -/
def stMediaError : Nat := 0x13
/-- Range beyond the volume. -/
def stBlockRange : Nat := 0x14
/-- Accepted by the old active device and not shown finished. -/
def stRetryAfterFailover : Nat := 0x15
/-- Self-test found a fault. -/
def stSelfTestFail : Nat := 0x16
/-- Valid entry asking for an option this part lacks. -/
def stUnsupported : Nat := 0x17

/-! ### Queues, contexts and entries -/

/-- Queue state codes (R166). -/
def qDisabled : Nat := 0
/-- ACTIVE. -/
def qActive : Nat := 1
/-- STOPPING. -/
def qStopping : Nat := 2
/-- STOPPED. -/
def qStopped : Nat := 3
/-- ERROR. -/
def qError : Nat := 4
/-- HALTED_BME. -/
def qHalted : Nat := 5
/-- FROZEN. -/
def qFrozen : Nat := 6
/-- MIGRATING. -/
def qMigrating : Nat := 7

/-- The state code of a queue. -/
def queueState (s : State) (q : Nat) : Nat := s.rd WQ_CTX.state q
/-- The typed part of a queue. -/
def queueInt (s : State) (q : Nat) : QueueInt := Map.get s.queues q
/-- A change of the typed part of a queue. -/
def updQueue (s : State) (q : Nat) (f : QueueInt → QueueInt) : State := { s with queues := Map.upd s.queues q f }
/-- The ring size of a queue in slots (R130). -/
def queueSlots (s : State) (q : Nat) : Nat := 2 ^ s.rd WQ_CTX.log2_slots q
/-- The account of a queue. -/
def queueAccount (s : State) (q : Nat) : Nat := s.rd WQ_CTX.account q
/-- The group of a queue is owned (R186). -/
def queueOwned (s : State) (q : Nat) : Bool := s.on WQ_GROUP_OWNER.valid (q / 32)
/-- The function that owns a queue (R186). -/
def queueFn (s : State) (q : Nat) : Nat :=
  fnOf (s.rd WQ_GROUP_OWNER.pf (q / 32)) (s.rd WQ_GROUP_OWNER.is_vf (q / 32)) (s.rd WQ_GROUP_OWNER.vf (q / 32))
/-- Queues of a group that are not DISABLED, or of all groups. -/
def liveQueues (s : State) : List Nat := (listedMembers s WQ_CTX.state).filter fun q => queueState s q ≠ qDisabled

/-- The accepted, unretired entry of a queue with a sequence number. -/
def entryOf (s : State) (q sseq : Nat) : Option Entry := (queueInt s q).entries.find? fun e => decide (e.sseq = sseq)
/-- A change of that entry. -/
def updEntry (s : State) (q sseq : Nat) (f : Entry → Entry) : State :=
  updQueue s q fun x => { x with entries := mapIf (fun e => decide (e.sseq = sseq)) f x.entries }

/-- What a hurdle waits for has finished (R251, R252). -/
def coversDone (e : Entry) : Bool := e.covers.all fun c => !c.isOpen && c.links.isEmpty

/-- The block that executes an opcode runs, where its chapter says nothing else of ENABLE.enable (R19). -/
def blockRuns (s : State) (op : Nat) : Bool :=
  if op = 0x10 then enabled s .pp
  else if op = 0x24 ∨ op = 0x25 then enabled s .trn
  else if 0x30 ≤ op ∧ op ≤ 0x36 then enabled s .blk
  else true

/-- An accepted entry may begin executing: nothing has decided it, no outcome of it is on its way, and no hurdle holds it
back; no engine of a standby begins work (R251, R910). -/
def mayBegin (s : State) (e : Entry) : Bool :=
  !e.begun && e.outcome.isNone && e.decided.isNone && (e.op = 1 || coversDone e) && !standby s && blockRuns s e.op

/-- An accepted entry with the opcode, which may begin. -/
def beginnable (s : State) (q sseq op : Nat) : Option Entry :=
  (entryOf s q sseq).filter fun e => decide (e.op = op) && mayBegin s e

/-- An entry begins executing. -/
def begin_ (s : State) (q sseq : Nat) : State := updEntry s q sseq fun e => { e with begun := true }

/-- A zero-length read on a link for the writes of an entry (R249, R252). -/
def startFlush (s : State) (link q sseq : Nat) : State :=
  if s.flushes.contains (link, q, sseq) then s
  else
    let f := ((List.range 8).find? fun p => s.on HIF_PF_CFG.enable p && decide (s.rd HIF_PF_CFG.link p = link)).getD 0
    issueRead (putLink { s with flushes := s.flushes ++ [(link, q, sseq)] } (.zeroRead f link)) f (.flush link q sseq)

/-- The host link that carries a queue's status block. -/
def statusLink (s : State) (q : Nat) : Option Nat := linkOf s (queueFn s q)

/-- The flushes that an entry's retirement waits for: its data's links other than the status block's (R249). -/
def retireFlushes (s : State) (q : Nat) (e : Entry) : List Nat :=
  e.links.filter fun l => decide (some l ≠ statusLink s q) && !e.flushed.contains l

/-- Links that an entry has written and that are not flushed. -/
def unflushedLinks (e : Entry) : List Nat := e.links.filter fun l => !e.flushed.contains l

/-- Hurdles that cover an entry learn that it writes nothing more, and the links that they still need are flushed (R251,
R252). -/
def coverDecided (s : State) (q : Nat) (e : Entry) : State :=
  let left := unflushedLinks e
  let hit := fun c : Cover => decide (c.queue = q) && decide (c.sseq = e.sseq)
  let covered := (liveQueues s).any fun h => (queueInt s h).entries.any fun x => x.covers.any hit
  let s1 := (liveQueues s).foldl (fun t h => updQueue t h fun x => { x with
    entries := x.entries.map fun y => { y with covers := mapIf hit (fun c => { c with isOpen := false, links := left }) y.covers } }) s
  if covered then left.foldl (fun t l => startFlush t l q e.sseq) s1 else s1

/-- An entry whose status is decided and that has no unit in progress writes nothing more: the zero-length reads that its
retirement and the hurdles over it need follow its last write (R249, R251, R252). -/
def settleEntry (s : State) (q sseq : Nat) : State :=
  match entryOf s q sseq with
  | none => s
  | some e =>
    if e.decided.isSome && !e.inUnit then
      coverDecided ((retireFlushes s q e).foldl (fun t l => startFlush t l q sseq) s) q e
    else s

/-- The atomic unit in progress of an entry ends. -/
def endUnit (s : State) (q sseq : Nat) : State :=
  settleEntry (updEntry s q sseq fun e => { e with inUnit := false }) q sseq

/-- An engine reports that an entry has finished: its outcome is on its way to the retirement unit (R194). -/
def finish (s : State) (q sseq : Nat) (f : Finish) : State :=
  settleEntry (updEntry s q sseq fun e =>
    if e.outcome.isNone && e.decided.isNone then { e with outcome := some f, inUnit := false }
    else { e with inUnit := false }) q sseq

/-- An entry finishes with a status, with what it has moved so far. -/
def finishWith (s : State) (q sseq status : Nat) (extra : Nat := 0) : State :=
  match entryOf s q sseq with
  | none => s
  | some e => finish s q sseq { status := status, bytes := e.moved, extra := extra }

/-! ### Data of entries in host memory -/

/-- The translation of every page of a range: the addresses of its pieces with their lengths, or the first page that is
missing, or a fault (R818 to R820). -/
inductive RangeXlat where
  | ok (pieces : List (Nat × Nat))
  | miss (addr : Nat)
  | fault
deriving DecidableEq, Repr

/-- The pieces of a range, page by page; `fuel` bounds the pages. -/
def rangePieces (s : State) (f : Nat) (write : Bool) : Nat → Nat → Nat → List (Nat × Nat) → RangeXlat
  | 0, _, _, done => .ok done
  | fuel + 1, a, n, done =>
    if n = 0 then .ok done
    else
      let k := min n (4096 - a % 4096)
      match translate s f true a write with
      | .ok x => rangePieces s f write fuel (a + k) (n - k) (done ++ [(x, k)])
      | .miss => .miss a
      | .fault => .fault

/-- The translation of a range of a function's memory. -/
def translateRange (s : State) (f : Nat) (ats : Bool) (a n : Nat) (write : Bool) : RangeXlat :=
  if !ats then .ok [(a, n)] else rangePieces s f write (n / 4096 + 2) a n []

/-- Bytes written to the pieces of a range, in order. -/
def writePieces (s : State) (f : Nat) : List (Nat × Nat) → Bytes → State
  | [], _ => s
  | (a, n) :: rest, bs => writePieces (hostWrite s f a (bs.take n)) f rest (bs.drop n)

/-- Data of an entry written to the memory of its queue's function: the bytes are charged to the queue's account, and the
entry has written to the function's link (R249, R252). -/
def entryWrite (s : State) (q sseq : Nat) (pieces : List (Nat × Nat)) (bs : Bytes) : State :=
  let f := queueFn s q
  let s := pcieBytes (writePieces s f pieces bs) f bs.length (queueAccount s q)
  match linkOf s f with
  | none => s
  | some l => updEntry s q sseq fun e => if e.links.contains l then e else { e with links := e.links ++ [l] }

/-- Data of an entry read from the host: its energy is charged to the queue's account (R81). -/
def chargeRead (s : State) (q n : Nat) : State := pcieActivity s n (queueAccount s q)

/-- A step of an entry that needs ranges of its function's memory translated, each with its direction: it waits while the
function may issue nothing or a translation is missing, and ends BUS_ERROR where one faults (R806, R808, R818). -/
def withRanges (s : State) (q sseq : Nat) (ats : Bool) (rs : List (Nat × Nat × Bool))
    (k : List (List (Nat × Nat)) → State) : State :=
  let f := queueFn s q
  if !fnLive s f then s
  else
    let xs := rs.map fun r => translateRange s f ats r.1 r.2.1 r.2.2
    if xs.contains .fault then finishWith (faultTaken s f) q sseq stBusError
    else match xs.findSome? fun x => match x with
        | .miss a => some a
        | _ => none with
      | some a => requestTranslation s f a
      | none => k (xs.map fun x => match x with
        | .ok ps => ps
        | _ => [])

/-- The VF of a queue is QUIESCED (R826, R827). -/
def quiescedFn (s : State) (f : Nat) : Bool := decide (8 ≤ f) && decide (Map.get s.hif.mig (f - 8) = .quiesced)

/-- An owner field names the function. -/
def ownerIs (pf isVf vf valid f : Nat) : Bool := decide (valid ≠ 0) && decide (fnOf pf isVf vf = f)

end Sys2Proof.Machine
end

