-- ==== Sys2Proof/Machine/KeySlots.lean ====
section
/-! DEFINITION. Key slots, their counts and limits, the CIP_KEYQ log and the cipher functions of a slot (R569 to R585). -/
namespace Sys2Proof.Machine

/-- A choice among some numbers that the spec leaves open. -/
def freePick (s : State) (xs : List Nat) : Option Nat × State :=
  let (v, s1) := freeWord s
  match xs with
  | [] => (none, s)
  | x :: _ => (some (nth xs (v % xs.length) x), s1)

/-! ### Slots (R569 to R573) -/

/-- The slot lies in the key-slot area that R30 sizes (R571). -/
def slotUsable (s : State) (k : Nat) : Bool := decide (k < 1048576) && decide (k < s.areas.key * 8192)

/-- The function owns the block of a slot (R571). -/
def slotOwned (s : State) (k f : Nat) : Bool :=
  let b := k / 1024
  ownerIs (s.rd CIP_KEY_BLOCK.pf b) (s.rd CIP_KEY_BLOCK.is_vf b) (s.rd CIP_KEY_BLOCK.vf b) (s.rd CIP_KEY_BLOCK.valid b) f

/-- The image of a slot. -/
def slotImage (s : State) (k : Nat) : Nat := Map.get s.cip.slots k
/-- The image of a slot set. -/
def setSlot (s : State) (k v : Nat) : State := { s with cip := { s.cip with slots := Map.set s.cip.slots k (v % 2 ^ 1024) } }

/-- mode. -/
def slotMode (x : Nat) : Nat := bitsAt x 0 4
/-- esp. -/
def slotEsp (x : Nat) : Bool := bitAt x 4
/-- outbound. -/
def slotOutbound (x : Nat) : Bool := bitAt x 5
/-- tunnel. -/
def slotTunnel (x : Nat) : Bool := bitAt x 6
/-- esn. -/
def slotEsn (x : Nat) : Bool := bitAt x 7
/-- The bytes of the ESP ICV. -/
def slotIcv (x : Nat) : Nat := match bitsAt x 8 2 with
  | 0 => 16
  | 1 => 12
  | _ => 8
/-- replay: the window index. -/
def slotReplay (x : Nat) : Nat := bitsAt x 32 16
/-- The offset of a slot's replay window in the ledger and telemetry area (R32, R572). -/
def windowPlace (x : Nat) : Nat := 0x2500000 + slotReplay x * 128
/-- limit. -/
def slotLimit (x : Nat) : Nat := bitsAt x 64 32
/-- used. -/
def slotUsed (x : Nat) : Nat := bitsAt x 96 32
/-- spi. -/
def slotSpi (x : Nat) : Nat := bitsAt x 128 32
/-- salt, as bytes. -/
def slotSalt (x : Nat) : Bytes := leBytes 4 (bitsAt x 160 32)
/-- seq. -/
def slotSeq (x : Nat) : Nat := bitsAt x 192 64
/-- The key bytes of a slot for its mode (R569). -/
def slotKey (x : Nat) : Bytes :=
  leBytes (match slotMode x with
    | 1 => 16
    | 2 | 3 | 5 => 32
    | 4 => 64
    | _ => bitsAt x 16 7) (bitsAt x 512 512)

/-- A field of a slot replaced. -/
def putSlot (s : State) (k lo w v : Nat) : State := setSlot s k (putBits (slotImage s k) lo w v)

/-! ### The CIP_KEYQ log (R583, R608, R611) -/

/-- CIP_KEYQ shows the head of its log. -/
def syncKeyq (s : State) : State :=
  match s.cip.keyq with
  | [] => ((s.wr CIP_KEYQ.slot 0).wr CIP_KEYQ.event 0).wr CIP_KEYQ.entry_valid 0
  | x :: _ => ((s.wr CIP_KEYQ.slot (bitsAt x 0 20)).wr CIP_KEYQ.event (bitsAt x 20 2)).wr CIP_KEYQ.entry_valid 1

/-- A slot is pushed with an event: 1 low, 2 exhausted, 3 lost; a full log discards the entry and counts it. -/
def pushKeyq (s : State) (k ev : Nat) : State :=
  let s := if 64 ≤ s.cip.keyq.length then s.countSat CIP_KEYQ.lost
    else syncKeyq { s with cip := { s.cip with keyq := s.cip.keyq ++ [k + ev * 2 ^ 20] } }
  raise s (0x13F + ev)

/-! ### Taking a count (R580 to R583, R916) -/

/-- What an attempt to take a count comes to. -/
inductive CountResult where
  | taken (s : State)
  | refused (s : State)
  | waits (s : State)       -- the reservation is not acknowledged (R916)
deriving DecidableEq, Repr

/-- An outbound ESP slot has no next sequence number (R582). -/
def seqSpent (x : Nat) : Bool :=
  slotEsp x && slotOutbound x && decide ((if slotEsn x then 2 ^ 64 else 2 ^ 32) ≤ slotSeq x + 1)

/-- The KEY record of a changed slot, with the reservation in force (R913, R916). -/
def deltaSlot (s : State) (k : Nat) : State :=
  let x := slotImage s k
  match Map.get s.cip.reserve k with
  | none => delta s 0x08 k (leBytes 128 x)
  | some r =>
    let y := putBits x 96 32 (min (slotLimit x) r.used)
    delta s 0x08 k (leBytes 128 (if slotEsp x && slotOutbound x then putBits y 192 64 r.seq else y))

/-- The reservation of a slot in mirrored operation allows a count now (R916). -/
def reserved (s : State) (k : Nat) : Bool :=
  match Map.get s.cip.reserve k with
  | none => false
  | some r => decide (slotUsed (slotImage s k) < r.used) && (!slotOutbound (slotImage s k) || decide (slotSeq (slotImage s k) < r.seq))
      && !s.deltas.any fun d => decide (d.pseq = r.pseq)

/-- The KEY record of a slot, with used and, for an outbound ESP slot, seq as reserved (R913, R916). -/
def deltaKey (s : State) (k used seq : Nat) : State :=
  let x := putBits (slotImage s k) 96 32 used
  delta s 0x08 k (leBytes 128 (if slotEsp x && slotOutbound x then putBits x 192 64 seq else x))

/-- A KEY record with a new reservation is sent, unless one is on its way (R916). -/
def reserveKey (s : State) (k : Nat) : State :=
  let x := slotImage s k
  let waiting := match Map.get s.cip.reserve k with
    | none => false
    | some r => s.deltas.any fun d => decide (d.pseq = r.pseq)
  if waiting then s
  else
    let r : KeyReserve := ⟨min (slotLimit x) (slotUsed x + 65536), slotSeq x + 65536, s.pseq + 1⟩
    let s := deltaKey s k r.used r.seq
    { s with cip := { s.cip with reserve := Map.set s.cip.reserve k (some r) } }

/-- A refused invocation: counted, and the first one since the load is reported (R583). -/
def refuseCount (s : State) (k : Nat) : State :=
  let s := s.count CIP_CNT.count 1 6
  if s.cip.refused.contains k then s
  else pushKeyq { s with cip := { s.cip with refused := k :: s.cip.refused } } k 2

/-- low_shift; 0 is treated as 1. -/
def lowShift (s : State) : Nat := max 1 (s.rd CIP_CFG.low_shift)

/-- The slot is read through the key cache; whether it is held there is open, and a miss loads it from GDDR6. -/
def readSlot (s : State) (core k acct : Nat) : State :=
  let (v, s1) := freeWord s
  if v % 2 = 0 then s1
  else g6Access (activity (s1.count CIP_CNT.count 1 5) (72 + core) 2 3 1 acct) (areaBase s1 3 + k * 128) false acct

/-- An invocation asks for its count at a slot (R580, R582, R583, R916). -/
def takeCount (s : State) (k : Nat) : CountResult :=
  let x := slotImage s k
  if slotLimit x ≤ slotUsed x || seqSpent x then .refused (refuseCount s k)
  else if mirrors s && !reserved s k then .waits (reserveKey s k)
  else
    let used := slotUsed x + 1
    let s := putSlot s k 96 32 used
    .taken (if used = slotLimit x - slotLimit x >>> lowShift s then pushKeyq s k 1 else s)

/-! ### The functions of a slot -/

/-- A slot mode is AEAD. -/
def isAead (mode : Nat) : Bool := mode = 1 || mode = 2 || mode = 5
/-- A slot mode is XTS. -/
def isXts (mode : Nat) : Bool := mode = 3 || mode = 4
/-- A slot mode is HMAC. -/
def isHmac (mode : Nat) : Bool := mode = 6 || mode = 7 || mode = 8
/-- Bytes of a digest of hash 0 to 2. -/
def digestBytes (h : Nat) : Nat := match h with
  | 0 => 32
  | 1 => 48
  | _ => 64

/-- AEAD ciphertext of the length of its text. -/
def aeadSeal (x : Nat) (nonce text : Bytes) : Bytes :=
  fitBytes text.length (aeadText (slotMode x) (slotKey x) nonce text)
/-- AEAD text of the length of its ciphertext. -/
def aeadOpen (x : Nat) (nonce text : Bytes) : Bytes :=
  fitBytes text.length (aeadText (slotMode x) (slotKey x) nonce text)
/-- The first `n` bytes of an AEAD tag. -/
def aeadIcv (x : Nat) (nonce aad cipher : Bytes) (n : Nat) : Bytes :=
  fitBytes n (fitBytes 16 (aeadTag (slotMode x) (slotKey x) nonce aad cipher))
/-- One XTS data unit. -/
def xtsUnit (x : Nat) (enc : Bool) (tweak : Nat) (text : Bytes) : Bytes :=
  fitBytes text.length (xtsData enc (slotKey x) tweak text)
/-- A digest. -/
def digest (h : Nat) (text : Bytes) : Bytes := fitBytes (digestBytes h) (sha2 h text)
/-- The MAC of a slot. -/
def slotMac (x : Nat) (text : Bytes) : Bytes :=
  fitBytes (digestBytes (slotMode x - 6)) (hmac (slotMode x - 6) (slotKey x) text)

/-! ### Cores (R588, R117) -/

/-- What a core runs. -/
def coreUnit (s : State) (c : Nat) : Option CoreUnit := Map.get s.cip.cores c
/-- What a core runs, set; CIP_STAT shows it. -/
def setCore (s : State) (c : Nat) (u : Option CoreUnit) : State :=
  touchDomain (({ s with cip := { s.cip with cores := Map.set s.cip.cores c u } } : State).wr CIP_STAT.busy
    (putBit (s.rd CIP_STAT.busy) c u.isSome)) (72 + c)

/-- A core becomes free, and a suspended job resumes on it (R591). -/
def releaseCore (s : State) (c : Nat) : State :=
  match s.cip.suspended with
  | [] => setCore s c none
  | u :: rest => setCore { s with cip := { s.cip with suspended := rest } } c (some u)

/-- A free core, powered where one is, and else woken for the work (R117); which one is open. -/
def freeCore (s : State) : Option (Nat × State) :=
  let free := (List.range 24).filter fun c => (coreUnit s c).isNone
  let on := free.filter fun c => domainState s (72 + c) = .on
  let off := free.filter fun c => domainState s (72 + c) = .off
  match freePick s (if on.isEmpty then off else on) with
  | (some c, s1) => some (c, wakeDomain s1 (72 + c))
  | (none, _) => none

/-- Cipher blocks of some bytes on a core, charged and counted (R590). -/
def cipherBlocks (s : State) (core bytes acct : Nat) : State :=
  let n := ceilDiv bytes 16
  pmc (activity s (72 + core) 2 2 n acct) 0x500 core n (some acct)

/-! ### Jobs at acceptance and at a stop (R228, R578, R595) -/

/-- A waiting job leaves the queue of the scheduler. -/
def dropJob (s : State) (j : CipJob) : State :=
  { s with cip := { s.cip with jobs := s.cip.jobs.filter fun x => !(decide (x.queue = j.queue) && decide (x.sseq = j.sseq)) } }

/-- The cases of R595: an accepted CIP_JOB that does not execute. -/
def jobAccept (s : State) (q : Nat) (e : Entry) : Option Nat :=
  let op := e.at 8 20 4
  let k := e.at 8 0 20
  let aead := op ≤ 1 && isAead (slotMode (slotImage s k))
  if e.op ≠ 0x40 then none
  else if 4 < op || e.at 8 28 2 = 3 || e.at 0x2C 1 2 = 3 || 16777216 < e.at 0xC 0 32 || e.at 8 30 2 ≠ 0 || e.at 0x28 16 16 ≠ 0
      || e.at 0x2C 3 29 ≠ 0 || (aead && e.at 0x3C 0 32 ≠ 0)
      || (op ≠ 2 && (!slotUsable s k || !slotOwned s k (queueFn s q))) then some stInvalid
  else none

/-- A stop or an abort of a cipher entry that has begun: a waiting job is dropped, a running one ends after its cipher
block, and a key load goes on to its retirement point (R232, R578). -/
def cipStop (s : State) (q : Nat) (e : Entry) : State :=
  if e.op = 0x41 then updEntry s q e.sseq fun x => { x with inUnit := decide (x.mark ≠ 0) }
  else
    let s := dropJob s ⟨q, e.sseq, [], [], []⟩
    let mine := fun u : CoreUnit => decide (u.work = .job q e.sseq)
    let s := { s with cip := { s.cip with suspended := s.cip.suspended.filter fun u => !mine u } }
    (List.range 24).foldl (fun t c => match coreUnit t c with
      | some u => if mine u then releaseCore t c else t
      | none => t) s

end Sys2Proof.Machine
end

