-- ==== Sys2Proof/Machine/BlockCore.lean ====
section
/-! DEFINITION. Volumes, the checks of block commands at acceptance, staging, conflicts and the error log (R531 to R542,
R547, R555, R557, R561). -/
namespace Sys2Proof.Machine

/-! ### Volume records (R531, R533) -/

/-- The record of a volume; none exists while block staging has no size. -/
def volRecord (s : State) (v : Nat) : Nat := if s.areas.blkStage = 0 then 0 else Map.get s.blk.vols v
/-- A record set. -/
def setVol (s : State) (v x : Nat) : State := { s with blk := { s.blk with vols := Map.set s.blk.vols v (x % 2 ^ 512) } }
/-- The line of a record read or written, charged to an account (R29, R531). -/
def volLine (s : State) (v : Nat) (write : Bool) (acct : Nat) : State :=
  if s.areas.blkStage = 0 then s else g6Access s (areaBase s 4 + v * 64) write acct
/-- A record stored in its area. -/
def storeVol (s : State) (v x acct : Nat) : State := setVol (volLine s v true acct) v x
/-- valid. -/
def volValid (x : Nat) : Bool := bitAt x 0
/-- The block size. -/
def volBs (x : Nat) : Nat := if bitAt x 1 then 4096 else 512
/-- xts. -/
def volXts (x : Nat) : Bool := bitAt x 2
/-- read_only. -/
def volReadOnly (x : Nat) : Bool := bitAt x 3
/-- freeze_en. -/
def volFreezes (x : Nat) : Bool := bitAt x 4
/-- The owning function. -/
def volFn (x : Nat) : Nat := fnOf (bitsAt x 8 3) (bitsAt x 11 1) (bitsAt x 12 12)
/-- key_slot. -/
def volSlot (x : Nat) : Nat := bitsAt x 32 20
/-- capacity. -/
def volCapacity (x : Nat) : Nat := bitsAt x 64 48
/-- be_ch. -/
def volChannel (x : Nat) : Nat := bitsAt x 128 12
/-- be_cookie. -/
def volCookie (x : Nat) : Nat := bitsAt x 160 32
/-- test. -/
def volTest (x : Nat) : Nat := bitsAt x 192 2
/-- test_next. -/
def volTestNext (x : Nat) : Nat := bitsAt x 208 48

/-! ### Fields of commands (R536) -/

/-- volume, or the target of a BLK_LOG_READ or BLK_RESUME. -/
def blkVolume (raw : Nat) : Nat := bitsAt raw 64 16
/-- nblocks. -/
def blkCount (raw : Nat) : Nat := bitsAt raw 96 32
/-- lba. -/
def blkLba (raw : Nat) : Nat := bitsAt raw 128 64
/-- The opcode. -/
def blkOp (raw : Nat) : Nat := bitsAt raw 0 8
/-- Bytes of a command's data. -/
def blkBytes (c : BlkCmd) : Nat := blkCount c.raw * volBs c.vol

/-- A reserved bit of a block command is 1, or nblocks or kind is out of range. -/
def blkFieldsBad (e : Entry) : Bool :=
  let n := e.at 0xC 0 32
  match e.op with
  | 0x30 => e.at 8 17 15 ≠ 0 || n = 0 || 65536 < n || e.at 0x24 0 224 ≠ 0
  | 0x31 => e.at 8 18 14 ≠ 0 || n = 0 || 65536 < n || e.at 0x24 0 224 ≠ 0
  | 0x33 => e.at 8 16 16 ≠ 0 || n = 0 || e.at 0x18 0 64 ≠ 0 || e.at 0x24 0 224 ≠ 0
  | 0x32 => e.at 8 16 16 ≠ 0 || e.at 0xC 0 160 ≠ 0
  | 0x34 => e.at 8 18 14 ≠ 0 || e.at 8 16 2 = 0 || e.at 8 16 2 = 3 || e.at 0xC 0 160 ≠ 0
  | 0x35 => e.at 8 18 14 ≠ 0 || e.at 0xC 0 32 ≠ 0 || e.at 0x18 0 320 ≠ 0
  | _ => e.at 8 16 16 ≠ 0 || e.at 0xC 0 160 ≠ 0

/-- The target of a BLK_LOG_READ or BLK_RESUME is no BLK queue, or not one that the entry's queue may name (R537). -/
def blkTargetBad (s : State) (q t : Nat) : Bool :=
  s.rd WQ_CTX.type t ≠ 4 || (queueOwned s t && queueFn s t ≠ queueFn s q && queueFn s q ≠ 0)

/-- The status of a block command at acceptance, where it does not execute (R537, R538). -/
def blkAccept (s : State) (q : Nat) (e : Entry) : Option Nat :=
  let v := volRecord s (e.at 8 0 16)
  let bad := blkFieldsBad e || (match e.op with
    | 0x35 => blkTargetBad s q (e.at 8 0 16) || e.at 0x10 0 64 % 64 ≠ 0
    | 0x36 => blkTargetBad s q (e.at 8 0 16) || queueState s (e.at 8 0 16) ≠ qFrozen
    | op => !volValid v || volFn v ≠ queueFn s q || ((op = 0x31 || op = 0x33) && volReadOnly v) || (op = 0x34 && volTest v ≠ 0))
  let ranged := e.op = 0x30 || e.op = 0x31 || e.op = 0x33
  if bad then some stInvalid
  else if ranged && (volCapacity v < e.at 0x10 0 64 + e.at 0xC 0 32 || 2 ^ 64 < e.at 0x10 0 64 + e.at 0xC 0 32) then some stBlockRange
  else none

/-! ### Commands in hand -/

/-- The block command of an entry. -/
def blkCmd (s : State) (q sseq : Nat) : Option BlkCmd :=
  s.blk.cmds.find? fun c => decide (c.queue = q) && decide (c.sseq = sseq) && !c.orphan
/-- A change of the block command of an entry. -/
def updCmd (s : State) (q sseq : Nat) (f : BlkCmd → BlkCmd) : State :=
  { s with blk := { s.blk with
      cmds := mapIf (fun c => decide (c.queue = q) && decide (c.sseq = sseq) && !c.orphan) f s.blk.cmds } }
/-- Orphans of a queue (R555). -/
def orphansOf (s : State) (q : Nat) : Nat := (s.blk.cmds.filter fun c => decide (c.queue = q) && c.orphan).length
/-- BLK_CNT shows the orphans held. -/
def syncOrphans (s : State) : State := s.wr BLK_CNT.count (s.blk.cmds.filter (·.orphan)).length 7

/-- The base of block staging (R531). -/
def stageBase (s : State) : Nat := areaBase s 4 + 36 * 0x100000

/-- The XTS work of a command ends. -/
def dropXts (s : State) (q sseq : Nat) : State :=
  { s with cip := { s.cip with xts := s.cip.xts.filter fun w => !(decide (w.queue = q) && decide (w.sseq = sseq)) } }

/-- The cipher engine drops what it has of a command: what waits, and what its cores run. -/
def stopXts (s : State) (q sseq : Nat) : State :=
  let mine := fun u : CoreUnit => match u.work with
    | .xts a b _ => decide (a = q) && decide (b = sseq)
    | _ => false
  let s := dropXts s q sseq
  let s := { s with cip := { s.cip with suspended := s.cip.suspended.filter fun u => !mine u } }
  (List.range 24).foldl (fun t c => if (coreUnit t c).any mine then releaseCore t c else t) s

/-- The staged data of a command has been recomputed before: its next loss is final (R549). -/
def stageSpent (c : BlkCmd) : Bool := (blkOp c.raw = 0x31 && c.refetch) || (blkOp c.raw = 0x30 && c.again)

/-- The staged data of a command has been lost: a write's data is fetched again from the host and a read is dispatched
again, once each; then the command retires DETECTED_FAULT (R549).  The lines of its buffer, which its next whole write stores
afresh, no longer count as bad. -/
def stageLost (s : State) (c : BlkCmd) : State :=
  let a := stageBase s + c.buf.getD 0
  let s := stopXts { s with poison := s.poison.filter fun l => !lineTouched a (blkBytes c) l } c.queue c.sseq
  if stageSpent c then
    finish (updCmd s c.queue c.sseq fun x => { x with buf := none, done := true }) c.queue c.sseq
      { status := stDetectedFault, extra := 2 }
  else if blkOp c.raw = 0x31 then
    updCmd s c.queue c.sseq fun x => { x with moved := false, units := [], refetch := true, staged := x.staged && x.sent }
  else updCmd s c.queue c.sseq fun x => { x with again := true, reply := none, done := false, units := [] }

/-- A read of a command's staged data has met a bad line: the event is settled as the data is recomputed, or cannot be
(R275, R280, R549). -/
def stageRefused (s : State) (c : BlkCmd) : State :=
  if stageSpent c then stageLost (detFailed s) c else stageLost (detRecomputed s) c

/-- The staging request of a command ends. -/
def dropRequest (s : State) (q sseq : Nat) : State :=
  { s with blk := { s.blk with requests := s.blk.requests.filter fun r => decide (r ≠ (q, sseq)) } }

/-- A block command that executes is taken into hand at its acceptance: its volume record, its window slot, and its request
for staging, which waits at once behind a waiting request (R535, R546, R547); a self-test marks its volume (R533).  A command
refused for its range keeps its record and its slot until it retires. -/
def blkTake (s : State) (q : Nat) (e : Entry) : State :=
  let v := e.at 8 0 16
  let a := queueAccount s q
  let names := decide (0x30 ≤ e.op) && decide (e.op ≤ 0x34)
  let s := if names then volLine s v false a else s
  let refused := e.outcome.map (·.status)
  if !names || (refused.isSome && refused ≠ some stBlockRange) then s
  else
    let used := (s.blk.cmds.filter fun c => decide (c.queue = q)).map (·.slot)
    let (slot, s) := freePick s ((List.range 256).filter fun i => !used.contains i)
    let stages := (e.op = 0x30 || e.op = 0x31) && refused.isNone
    let waits := stages && s.blk.requests.any fun r => (blkCmd s r.1 r.2).any (·.waiting)
    let c : BlkCmd := { queue := q, sseq := e.sseq, order := e.order, raw := e.raw, vol := volRecord s v, slot := slot.getD 0,
                        waiting := waits, done := refused.isSome }
    let s := if waits then s.count BLK_CNT.count 1 5 else s
    let s := { s with blk := { s.blk with
      cmds := s.blk.cmds ++ [c]
      requests := if stages then s.blk.requests ++ [(q, e.sseq)] else s.blk.requests } }
    if e.op = 0x34 then storeVol s v (putBits (putBits (volRecord s v) 192 2 (e.at 8 16 2)) 208 48 0) a else s

/-- A block command leaves: its request, its XTS work and its buffer end with it; a self-test frees its volume (R547,
R566). -/
def blkLeave (s : State) (q sseq : Nat) : State :=
  match blkCmd s q sseq with
  | none => s
  | some c =>
    let s := dropXts (dropRequest s q sseq) q sseq
    let s := { s with blk := { s.blk with cmds := s.blk.cmds.filter fun x => decide (x ≠ c) } }
    if blkOp c.raw = 0x34 then
      let v := blkVolume c.raw
      storeVol s v (putBits (volRecord s v) 192 2 0) (queueAccount s q)
    else s

/-! ### Conflicts (R541, R542) -/

/-- Two commands of one queue conflict; `d` was accepted earlier (R541). -/
def conflicts (d c : BlkCmd) : Bool :=
  let changes := fun x : BlkCmd => blkOp x.raw = 0x31 || blkOp x.raw = 0x33
  let ranged := fun x : BlkCmd => changes x || blkOp x.raw = 0x30
  blkVolume d.raw = blkVolume c.raw &&
    ((blkOp c.raw = 0x32 && changes d)
      || (ranged c && ranged d && (changes c || changes d)
        && decide (blkLba d.raw < blkLba c.raw + blkCount c.raw) && decide (blkLba c.raw < blkLba d.raw + blkCount d.raw)))

/-- An earlier command of its queue holds a command back (R542). -/
def heldBack (s : State) (c : BlkCmd) : Bool :=
  s.blk.cmds.any fun d => decide (d.queue = c.queue) && decide (d.order < c.order) && !d.done && conflicts d c

/-- A command may be dispatched to its backend as soon as it has a credit (R542, R546, R547, R550). -/
def cmdReady (s : State) (c : BlkCmd) : Bool :=
  match entryOf s c.queue c.sseq with
  | none => false
  | some e =>
    let open_ := (e.begun || mayBegin s e) && e.outcome.isNone && e.decided.isNone && !standby s
    let able := match blkOp c.raw with
      | 0x30 => c.buf.isSome
      | 0x31 => c.staged
      | 0x32 | 0x33 => true
      | _ => false
    open_ && able && !c.orphan && !c.sent && !c.done && !heldBack s c

/-- The block unit requests a credit of a channel: a command or a CANCEL waits for it (R550, R680). -/
def blkWaits (s : State) (ch : Nat) : Bool :=
  (s.blk.cancels.any fun x => decide (x / 2 ^ 512 = ch)) || s.blk.cmds.any fun c => decide (volChannel c.vol = ch) && cmdReady s c

/-! ### Abort, stop and the error log (R555, R557, R561) -/

/-- The CANCEL request of a dispatched command, with its channel above it (R550). -/
def cancelBaton (s : State) (c : BlkCmd) : Nat :=
  6 + (flag (blkOp c.raw = 0x31) * bitsAt c.raw 81 1) <<< 4 + flag (bitAt c.vol 1) <<< 5 + c.queue <<< 16 + c.slot <<< 32 + c.gen <<< 40 + blkVolume c.raw <<< 64
    + volCookie c.vol <<< 96 + blkLba c.raw <<< 128 + blkCount c.raw <<< 192 + bitsAt c.raw 256 32 <<< 224
    + queueAccount s c.queue <<< 320 + volChannel c.vol <<< 512

/-- A dispatched command becomes an orphan, and a CANCEL is to be sent (R555). -/
def orphanCmd (s : State) (c : BlkCmd) : State :=
  let s := dropXts (updCmd s c.queue c.sseq fun x => { x with orphan := true }) c.queue c.sseq
  syncOrphans { s with blk := { s.blk with cancels := s.blk.cancels ++ [cancelBaton s c] } }

/-- What a stop or an abort does to a block command that has begun; a VERIFY segment in flight ends first (R555, R556). -/
def blkStop (s : State) (q : Nat) (e : Entry) : State :=
  match blkCmd s q e.sseq with
  | none => s
  | some c =>
    if c.sent then
      (if e.op = 0x34 then updEntry s q e.sseq fun x => { x with inUnit := true } else orphanCmd s c)
    else blkLeave s q e.sseq

/-- Statuses that write no log entry (R557). -/
def blkLogs (st : Nat) : Bool :=
  !(st = stOk || st = stAborted || st = stQueueStopped || st = stQueueFrozen || st = stInvalid || st = stBudgetRefused)

/-- Statuses that freeze a queue (R558). -/
def blkFreezing (st : Nat) : Bool :=
  st = stBlockRange || st = stMediaError || st = stBusError || st = stDetectedFault || st = stKeyInvalid || st = stKeyExhausted
    || st = stUnsupported

/-- Where the error log of a queue lies (R531). -/
def logBase (s : State) (q : Nat) : Nat := areaBase s 4 + 0x400000 + q * 512

/-- The error log of a queue. -/
def blkLog (s : State) (q : Nat) : BlkLog := Map.get s.blk.logs q

/-- An entry of the error log at the decision of a command's status (R557, R561). -/
def blkDecided (s : State) (q : Nat) (e : Entry) (st : Nat) : State :=
  if blkLogs st then
    let l := blkLog s q
    let r := ((blkCmd s q e.sseq).bind (·.reply)).filter fun r => decide (r.result ≠ 0)
    let lba := match r with
      | some x => x.failLba
      | none => if e.op = 0x32 ∨ 0x34 ≤ e.op then 0 else e.at 0x10 0 64
    let eseq := addMod 16 l.eseq 1
    let x := eseq + st <<< 16 + e.op <<< 24 + e.tag <<< 32 + e.sseq <<< 64 + (e.at 8 0 16) <<< 80
      + ((r.map (·.detail)).getD 0) <<< 96 + lba <<< 128 + now s <<< 192
    let full := 16 ≤ l.entries.length
    let l' : BlkLog := ⟨(if full then l.entries.tail else l.entries) ++ [x], if full then l.lost + 1 else l.lost, eseq⟩
    let s := g6Access s (logBase s q + eseq % 16 * 32) true (queueAccount s q)
    { s with blk := { s.blk with logs := Map.set s.blk.logs q l' } }
  else s

end Sys2Proof.Machine
end

