-- ==== Sys2Proof/Machine/DmaCore.lean ====
section
/-! DEFINITION. DMA channels: what a channel holds, its accesses, write-backs, visibility, and how a chain of a pool channel
ends (R614 to R630, R652 to R655). -/
namespace Sys2Proof.Machine

/-! ### Channels (R614 to R618, R621) -/

/-- Channel states (R616). -/
def chIdle : Nat := 0
/-- RUNNING. -/
def chRunning : Nat := 1
/-- WAITING. -/
def chWaiting : Nat := 2
/-- HALTED. -/
def chHalted : Nat := 3

/-- The typed part of a channel. -/
def chan (s : State) (c : Nat) : ChanInt := Map.get s.dma.chans c
/-- A change of it. -/
def updChan (s : State) (c : Nat) (f : ChanInt → ChanInt) : State := { s with dma := { s.dma with chans := Map.upd s.dma.chans c f } }
/-- The channel holds its block no longer (law 4 of R268). -/
def handBack (s : State) (c : Nat) : State :=
  if (chan s c).block.isSome then
    let t := updChan s c fun x => { x with block := none }
    { t with dma := { t.dma with handed := Map.set t.dma.handed (c / 64) (Map.get t.dma.handed (c / 64) + 1) } }
  else s
/-- The state code of a channel. -/
def chState (s : State) (c : Nat) : Nat := s.rd DMA_CHAN.state c
/-- The state code set. -/
def setChState (s : State) (c st : Nat) : State := s.wr DMA_CHAN.state st c
/-- The channel is a relay channel (R614). -/
def isRelayChan (s : State) (c : Nat) : Bool := decide (s.rd DMA_CHAN.mode c = 1)
/-- The function whose memory a channel's host addresses lie in (R621). -/
def chanFn (s : State) (c : Nat) : Nat :=
  match (chan s c).owner with
  | some (q, _) => queueFn s q
  | none => s.rd DMA_CHAN.pf c
/-- The account that a channel's activity is charged to (R618). -/
def chanAccount (s : State) (c : Nat) : Nat :=
  match (chan s c).owner with
  | some (q, _) => queueAccount s q
  | none => s.rd DMA_CHAN.account c
/-- Internal space is allowed to a channel's chain (R621). -/
def internalAllowed (s : State) (c : Nat) : Bool :=
  match (chan s c).owner with
  | some (q, _) => decide (queueFn s q = 0)
  | none => true
/-- A DMA counter advanced: 0 segments, 1 bytes, 2 retries, 3 halts, 4 verify_reads, 5 verify_mismatch, 6 link_polls,
7 blocks written back. -/
def dmaCount (s : State) (n amount : Nat) : State := s.count DMA_CNT.count amount n
/-- Every byte of a range lies in global SRAM or GDDR6 (R621, R878). -/
def rangeExists (s : State) (a n : Nat) : Bool :=
  n = 0 || (memExists s a && memExists s (a + n - 1) && decide ((a < g6Base) = (a + n - 1 < g6Base)))

/-! ### Acceptance (R622, R623) -/

/-- The status of a DMA entry at acceptance, where it does not execute (R622). -/
def dmaAccept (s : State) (q : Nat) (e : Entry) : Option Nat :=
  let pf0 := decide (queueFn s q = 0)
  let bad :=
    if e.op = 0x50 then e.at 0x18 30 2 ≠ 0 || e.at 0x1C 5 27 ≠ 0 || e.at 0x20 0 256 ≠ 0 || (e.at 0x1C 0 2 ≠ 0 && !pf0)
    else e.at 0x10 2 30 ≠ 0 || e.at 0x14 0 96 ≠ 0 || (e.at 0x10 0 1 ≠ 0 && !pf0) || e.at 8 0 64 % 128 ≠ 0
  if bad then some stInvalid else none

/-- An accepted DMA entry joins the dispatch queue (R623). -/
def dmaTake (s : State) (q : Nat) (e : Entry) : State :=
  { s with dma := { s.dma with dispatch := s.dma.dispatch ++ [(q, e.sseq)] } }

/-! ### Visibility (R252, R629) -/

/-- The pseudo queue number under which a channel's own zero-length reads are issued. -/
def chanFlush (c : Nat) : Nat := 0x10000 + c
/-- Every move of the chain is visible. -/
def movesVisible (s : State) (c : Nat) : Bool := (chan s c).links.isEmpty
/-- The zero-length reads that the chain's moves need are started. -/
def flushChan (s : State) (c : Nat) : State := (chan s c).links.foldl (fun t l => startFlush t l (chanFlush c) 0) s

/-! ### Host and internal writes of a channel -/

/-- What an access of a channel comes to. -/
inductive ChanAccess where
  | done (s : State)
  | waits (s : State)
  | fails
deriving DecidableEq, Repr

/-- The links of a channel's function, noted as written by its entry and, for a move, by the chain. -/
def noteLink (s : State) (c : Nat) (move : Bool) : State :=
  match linkOf s (chanFn s c) with
  | none => s
  | some l =>
    let add := fun ls : List Nat => if ls.contains l then ls else ls ++ [l]
    let s := if move then updChan s c fun x => { x with links := add x.links } else s
    match (chan s c).owner with
    | some (q, sseq) => updEntry s q sseq fun e => { e with links := add e.links, flushed := e.flushed.filter fun x => decide (x ≠ l) }
    | none => s

/-- The place of a detected fault in internal memory (R276). -/
def faultPlace (a : Nat) : Nat := if a < g6Base then 1 else 2

/-- Pieces of a host range, cut at every boundary aligned to a size (R644); `fuel` bounds them. -/
def alignedCuts (size : Nat) : Nat → Nat → Nat → List (Nat × Nat)
  | 0, _, _ => []
  | fuel + 1, a, n =>
    if n = 0 then []
    else
      let k := min n (size - a % size)
      (a, k) :: alignedCuts size fuel (a + k) (n - k)

/-- The write requests of a channel for the pieces of a host range: each cut at the boundaries of the function's Max Payload
Size (R644). -/
def payloadCuts (s : State) (f : Nat) (ps : List (Nat × Nat)) : List (Nat × Nat) :=
  let m := (fnSt s (transferFn s f)).payload
  ps.flatMap fun p => alignedCuts m (p.2 / m + 2) p.1 p.2

/-- The read requests of a channel for a host range: none crosses a 4 KiB boundary or exceeds the function's Max Read Request
Size (R643); `fuel` bounds them. -/
def readCuts (size : Nat) : Nat → Nat → Nat → List (Nat × Nat)
  | 0, _, _ => []
  | fuel + 1, a, n =>
    if n = 0 then []
    else
      let k := min (min n size) (4096 - a % 4096)
      (a, k) :: readCuts size fuel (a + k) (n - k)

/-- The read requests of a channel for the pieces of a host range reach the link (R643). -/
def issueReads (s : State) (f : Nat) (ps : List (Nat × Nat)) : State :=
  let m := (fnSt s (transferFn s f)).readReq
  (ps.flatMap fun p => readCuts m (p.2 / m + p.2 / 4096 + 2) p.1 p.2).foldl (fun t p => putLink t (.read f p.1 p.2)) s

/-- The lines of internal memory that some bytes touch, charged to a channel's account. -/
def chargeLines (s : State) (c a n : Nat) (write : Bool) : State :=
  let first := a / 64
  (List.range ((a + n + 63) / 64 - first)).foldl (fun t i =>
    if a < g6Base then sramAccess t 1 (chanAccount s c) else g6Access t ((first + i) * 64) write (chanAccount s c)) s

/-- A write of a channel to host or internal space. -/
def chanWrite (s : State) (c : Nat) (internal ats : Bool) (a : Nat) (bs : Bytes) (move : Bool) : ChanAccess :=
  if internal then .done (areaStore (chargeLines s c a bs.length true) a bs)
  else
    let f := chanFn s c
    if !fnLive s f then .waits s
    else match translateRange s f ats a bs.length true with
      | .miss x => .waits (requestTranslation s f x)
      | .fault => .fails
      | .ok ps => .done (noteLink (pcieBytes (writePieces s f (payloadCuts s f ps) bs) f bs.length (chanAccount s c)) c move)

/-! ### Write-back and the end of a chain (R625, R629, R652 to R655) -/

/-- Bytes 0x04 to 0x0F and the word at 0x00 of a written-back block (R626). -/
def writeBackTail (s : State) (c : Nat) : Bytes := leBytes 4 (min (2 ^ 32 - 1) (chan s c).blkBytes) ++ leBytes 8 (now s)
/-- The word at 0x00: own 0, the result, the slot and the retries. -/
def writeBackWord (s : State) (c result slot : Nat) : Bytes :=
  leBytes 4 (result <<< 8 + slot <<< 16 + (min 7 (chan s c).blkRetries) <<< 19)

/-- The current block is written back, its first word last (R629); a block that cannot be written is given up. -/
def writeBack (s : State) (c result slot : Nat) : ChanAccess :=
  let x := chan s c
  let a := s.rd DMA_CHAN.block c
  match x.block with
  | none => .done s
  | some _ =>
    match chanWrite s c x.space x.ats (a + 4) (writeBackTail s c) false with
    | .done t => match chanWrite t c x.space x.ats a (writeBackWord s c result slot) false with
      | .done u => .done (handBack (dmaCount u 7 1) c)
      | r => r
    | r => r

/-- The status that a chain result gives an entry (R654). -/
def chainStatus (r : Nat) : Nat :=
  match r with
  | 0 => stOk
  | 1 => stBusError
  | 4 => stAborted
  | 5 => stTimeout
  | 6 => stDetectedFault
  | _ => stInvalid

/-- The extra of a DMA entry's record (R625, R276). -/
def chainExtra (s : State) (c r : Nat) : Nat :=
  if r = 6 then (chan s c).fault
  else r + (s.rd DMA_CHAN.slot c) <<< 8 + c <<< 16

/-- The channel returns to IDLE with its result (R655). -/
def idleChan (s : State) (c r : Nat) : State :=
  let s := (setChState s c chIdle).wr DMA_CHAN.result r c
  updChan (handBack s c) c fun _ => {}

/-- The entry of a pool channel ends with the chain's result; where an abort or a stop has decided it, it may retire now. -/
def endEntry (s : State) (c r : Nat) : State :=
  match (chan s c).owner with
  | none => s
  | some (q, sseq) =>
    let bytes := s.rd DMA_CHAN.bytes c
    let x := chainExtra s c r
    let s := updEntry s q sseq fun e => { e with
      moved := bytes, inUnit := false, decided := e.decided.map fun f => { f with bytes := bytes, extra := x } }
    finish s q sseq { status := chainStatus r, bytes := bytes, extra := x }

/-- A chain whose moves are visible ends: its block is written back, and the channel is IDLE (R625, R655). -/
def closeChain (s : State) (c r : Nat) : State :=
  match writeBack s c r (s.rd DMA_CHAN.slot c) with
  | .waits t => t
  | .done t => idleChan (endEntry t c r) c r
  | .fails => idleChan (endEntry (faultTaken s (chanFn s c)) c r) c r

/-- A chain ends with a result once every move is visible; the reads that this needs are started (R625, R629). -/
def endChain_ (s : State) (c r : Nat) : State :=
  let s := updChan s c fun x => { x with ending := some r, wait := .none, fetching := false }
  let s := setChState s c chRunning
  if movesVisible s c then closeChain s c r else flushChan s c

/-- The channel that runs an entry. -/
def chanOf (s : State) (q sseq : Nat) : Option Nat :=
  (Map.keys s.dma.chans).find? fun c => decide ((chan s c).owner = some (q, sseq))

/-- A stop or an abort of an executing DMA entry: the channel finishes its current segment, and then writes its block back
and ends ABORTED (R653). -/
def dmaStop (s : State) (q : Nat) (e : Entry) : State :=
  match chanOf s q e.sseq with
  | none => s
  | some c =>
    let s := updEntry s q e.sseq fun x => { x with inUnit := true }
    if (chan s c).move.isSome || (chan s c).ending.isSome then updChan s c fun x => { x with ending := some 4 }
    else endChain_ s c 4

end Sys2Proof.Machine
end

