-- ==== Sys2Proof/Machine/TrnCore.lean ====
section
/-! DEFINITION. Trallasy contexts, operations and regions: what the engine holds for a connection, the tiers of contexts,
region records, and the end of operations (R463 to R474, R481 to R485, R504 to R514, R518). -/
namespace Sys2Proof.Machine

/-- A Trallasy counter advanced (R527). -/
def trnCount (s : State) (n : Nat) (k : Nat := 1) : State := s.count TRN_CNT.count k n

/-- PSNs count modulo 2^24. -/
def psnSub (a b : Nat) : Nat := subMod 24 a b

/-! ### Connection contexts (R464, R472) -/

/-- A field of a context image at byte `o`, bit `lo`, of width `w`. -/
def ctxAt (x o lo w : Nat) : Nat := bitsAt x (8 * o + lo) w
/-- A field of a context image set. -/
def ctxPut (x o lo w v : Nat) : Nat := putBits x (8 * o + lo) w v
/-- state: 0 FREE, 1 READY, 2 ERROR (R466). -/
def ctxState (x : Nat) : Nat := ctxAt x 0 0 2
/-- ord. -/
def ctxOrd (x : Nat) : Bool := bitAt x 2
/-- The payload per packet. -/
def ctxMtu (x : Nat) : Nat := 1024 * 2 ^ ctxAt x 0 3 2
/-- pipe. -/
def ctxPipe (x : Nat) : Nat := ctxAt x 0 5 1
/-- ipv6. -/
def ctxV6 (x : Nat) : Bool := bitAt x 6
/-- tmpl_len. -/
def ctxTmplLen (x : Nat) : Nat := ctxAt x 0 8 7
/-- The owning function. -/
def ctxFn (x : Nat) : Nat := fnOf (ctxAt x 0 16 3) (ctxAt x 0 19 1) (ctxAt x 0 20 12)
/-- account. -/
def ctxAccount (x : Nat) : Nat := ctxAt x 4 0 12
/-- rx_queue. -/
def ctxRxQueue (x : Nat) : Nat := ctxAt x 4 16 16
/-- peer_conn. -/
def ctxPeer (x : Nat) : Nat := ctxAt x 8 0 24
/-- max_mbps. -/
def ctxMaxMbps (x : Nat) : Nat := ctxAt x 0xC 0 32
/-- snd_nxt. -/
def ctxSndNxt (x : Nat) : Nat := ctxAt x 0x10 0 24
/-- snd_una. -/
def ctxSndUna (x : Nat) : Nat := ctxAt x 0x14 0 24
/-- rcv_epsn. -/
def ctxEpsn (x : Nat) : Nat := ctxAt x 0x18 0 24
/-- retries. -/
def ctxRetries (x : Nat) : Nat := ctxAt x 0x1C 0 4
/-- clean_legs. -/
def ctxClean (x : Nat) : Nat := ctxAt x 0x1C 4 8
/-- marked_leg. -/
def ctxMarked (x : Nat) : Bool := ctxAt x 0x1C 12 1 != 0
/-- pend_marks. -/
def ctxMarks (x : Nat) : Nat := ctxAt x 0x1C 16 16
/-- rcv_sack. -/
def ctxSack (x : Nat) : Nat := ctxAt x 0x20 0 64
/-- rate_mbps. -/
def ctxRate (x : Nat) : Nat := ctxAt x 0x28 0 32
/-- tokens. -/
def ctxTokens (x : Nat) : Nat := ctxAt x 0x2C 0 32
/-- rto_tt. -/
def ctxRto (x : Nat) : Nat := ctxAt x 0x30 0 64
/-- pace_tt. -/
def ctxPaceTt (x : Nat) : Nat := ctxAt x 0x38 0 64
/-- The header template. -/
def ctxTemplate (x : Nat) : Bytes := leBytes (ctxTmplLen x) (ctxAt x 0x80 0 576)
/-- peer_addr, 16 bytes. -/
def ctxPeerAddr (x : Nat) : Bytes := leBytes 16 (ctxAt x 0xC8 0 128)
/-- leg_tt. -/
def ctxLegTt (x : Nat) : Nat := ctxAt x 0xD8 0 64
/-- slot[i].laddr. -/
def slotLaddr (x i : Nat) : Nat := ctxAt x (0x40 + i * 0x10) 0 64
/-- slot[i].remaining. -/
def slotRemaining (x i : Nat) : Nat := ctxAt x (0x48 + i * 0x10) 0 32
/-- slot[i].req_psn. -/
def slotReqPsn (x i : Nat) : Nat := ctxAt x (0x48 + i * 0x10) 32 24
/-- slot[i].valid. -/
def slotValid (x i : Nat) : Bool := ctxAt x (0x48 + i * 0x10) 56 1 != 0
/-- slot[i].ats. -/
def slotAts (x i : Nat) : Bool := ctxAt x (0x48 + i * 0x10) 57 1 != 0
/-- slot[i].discard. -/
def slotDiscard (x i : Nat) : Bool := ctxAt x (0x48 + i * 0x10) 58 1 != 0
/-- slot[i].remaining set. -/
def putRemaining (x i v : Nat) : Nat := ctxPut x (0x48 + i * 0x10) 0 32 v
/-- slot[i].valid set. -/
def putSlotValid (x i v : Nat) : Nat := ctxPut x (0x48 + i * 0x10) 56 1 v
/-- slot[i].discard set. -/
def putDiscard (x i v : Nat) : Nat := ctxPut x (0x48 + i * 0x10) 58 1 v

/-- Where the home of a connection lies (R464). -/
inductive Home where
  | memory (addr : Nat)
  | host (addr : Nat)
  | none
deriving DecidableEq, Repr

/-- Context places in GDDR6 (R464). -/
def ctxPlaces (s : State) : Nat := s.areas.conn * 4096

/-- The home of connection `n`. -/
def homeOf (s : State) (n : Nat) : Home :=
  if n < ctxPlaces s then .memory (areaBase s 1 + n * 256)
  else if s.on TRN_HCTX_CFG.enable then .host (s.rd TRN_HCTX_BASE.addr + n * 256)
  else .none

/-- The context of a connection on chip. -/
def chipCtx (s : State) (n : Nat) : Option Nat := (Map.get s.trn.cache n).map (·.image)

/-- What the device knows of a context without a read of the host: the copy on chip, or the home in GDDR6; a connection
without a home is FREE. -/
def knownCtx (s : State) (n : Nat) : Option Nat :=
  match chipCtx s n with
  | some x => some x
  | none => match homeOf s n with
    | .memory a => some (ofLe (memLoad s a 256))
    | .host _ => none
    | .none => some 0

/-- A context on chip changed; the change is mirrored (R911, R913). -/
def putCtx (s : State) (n x : Nat) : State :=
  delta { s with trn := { s.trn with cache := Map.set s.trn.cache n (some ⟨x % 2 ^ 2048, true⟩) } } 0x06 n
    (leBytes 256 x) (ctxAccount x)

/-- What the engine holds for a connection. -/
def trnConn (s : State) (n : Nat) : TrnConn := Map.get s.trn.conns n
/-- A change of it. -/
def updConn (s : State) (n : Nat) (f : TrnConn → TrnConn) : State :=
  { s with trn := { s.trn with conns := Map.upd s.trn.conns n f } }

/-- A context stays on chip (R513). -/
def ctxPinned (s : State) (n : Nat) : Bool :=
  let c := trnConn s n
  let x := (chipCtx s n).getD 0
  !c.sent.isEmpty || !c.ops.isEmpty || !c.ready.isEmpty || decide (ctxRto x ≠ 0)
    || [0, 1, 2, 3].any (slotValid x ·) || s.trn.parked.any fun p => decide (p.conn = n)

/-- A context written back to its home (R514); none while the home's address is not translated. -/
def writeBackCtx (s : State) (n : Nat) (l : CtxLine) : Option State :=
  if !l.dirty then some s
  else match homeOf s n with
    | .memory a => some (memStore ((List.range 4).foldl (fun t i => g6Access t (a + 64 * i) true (ctxAccount l.image)) s) a
        (leBytes 256 l.image))
    | .host a =>
      let f := s.rd TRN_HCTX_CFG.pf
      (match translate s f (s.on TRN_HCTX_CFG.ats) a true with
      | .ok a => if fnLive s f then some (hostWrite (pcieBytes s f 256 (ctxAccount l.image)) f a (leBytes 256 l.image)) else none
      | _ => none)
    | .none => some s

/-- Contexts on chip. -/
def cachedConns (s : State) : List Nat := Map.keys s.trn.cache

/-- A place for one more context: one that is free, or that of a context that need not stay; which one, the spec leaves
open (R513, R514). -/
def makeRoom (s : State) : Option State :=
  if (cachedConns s).length < 32768 then some s
  else match freePick s ((cachedConns s).filter fun n => !ctxPinned s n) with
    | (some n, t) => (Map.get s.trn.cache n).bind fun l =>
        (writeBackCtx t n l).map fun u => { u with trn := { u.trn with cache := Map.set u.trn.cache n none } }
    | (none, _) => none

/-- A context comes on chip. -/
def cacheCtx (s : State) (n x : Nat) : State :=
  { s with trn := { s.trn with cache := Map.set s.trn.cache n (some ⟨x % 2 ^ 2048, false⟩) } }

/-- A context leaves the chip. -/
def dropCtx (s : State) (n : Nat) : State := { s with trn := { s.trn with cache := Map.set s.trn.cache n none } }

/-- A change of a connection whose context may not be on chip: one that was not goes back to its home, and stays on chip
only while its home cannot be reached (R513, R514). -/
def withCtx (s : State) (n x : Nat) (f : State → State) : State :=
  if (chipCtx s n).isSome then f s
  else
    let t := f (cacheCtx s n x)
    match (Map.get t.trn.cache n).bind fun l => writeBackCtx t n l with
    | some u => dropCtx u n
    | none => t

/-- A place on chip for a mirrored context: where none can be made, one of those on chip gives way; which one, the spec
leaves open (R513, R915). -/
def mirrorRoom (s : State) : State :=
  match makeRoom s with
  | some t => t
  | none => match freePick s (cachedConns s) with
    | (some n, t) => dropCtx t n
    | (none, t) => t

/-- The read of a context's home in host memory is issued, where no such read is outstanding. -/
def readHome (s : State) (n : Nat) : State :=
  match homeOf s n with
  | .host a =>
    let f := s.rd TRN_HCTX_CFG.pf
    if s.hif.reqs.any fun r => decide (r.owner = .context n) then s
    else (match translate s f (s.on TRN_HCTX_CFG.ats) a false with
    | .miss => requestTranslation s f a
    | _ => issueRead s f (.context n))
  | _ => s

/-- The fetch of a context begins, unless one is in progress (R515, R516). -/
def fetchCtx (s : State) (n : Nat) : State :=
  if s.trn.fetching.contains n then readHome s n
  else
    let s := { s with trn := { s.trn with fetching := s.trn.fetching ++ [n] } }
    match homeOf s n with
    | .memory _ => trnCount s 17
    | _ => readHome (trnCount s 18) n

/-! ### Regions (R504 to R512) -/

/-- A region index that is usable (R504). -/
def rgnUsable (s : State) (i : Nat) : Bool := decide (i < 4194304) && decide (i < s.areas.rgn * 16384)
/-- The address of a region record. -/
def rgnAddr (s : State) (i : Nat) : Nat := areaBase s 2 + i * 64
/-- A region record. -/
def rgnImage (s : State) (i : Nat) : Nat := ofLe (memLoad s (rgnAddr s i) 64)
/-- A region record written; the change is mirrored (R913). -/
def putRgn (s : State) (i acct v : Nat) : State :=
  delta (memStore (g6Access s (rgnAddr s i) true acct) (rgnAddr s i) (leBytes 64 v)) 0x07 i (leBytes 64 v) acct
/-- state: 0 FREE, 1 VALID, 2 CLOSING, 3 FAULTED. -/
def rgnState (x : Nat) : Nat := bitsAt x 0 2
/-- gen. -/
def rgnGen (x : Nat) : Nat := bitsAt x 8 10
/-- scope. -/
def rgnScope (x : Nat) : Nat := bitsAt x 32 24
/-- host_base. -/
def rgnBase (x : Nat) : Nat := bitsAt x 64 64
/-- length. -/
def rgnLength (x : Nat) : Nat := bitsAt x 128 41
/-- in_flight. -/
def rgnFlight (x : Nat) : Nat := bitsAt x 192 32
/-- The function owns the block of a region (R504). -/
def rgnOwned (s : State) (i f : Nat) : Bool :=
  let b := i / 1024
  ownerIs (s.rd TRN_RGN_BLOCK.pf b) (s.rd TRN_RGN_BLOCK.is_vf b) (s.rd TRN_RGN_BLOCK.vf b) (s.rd TRN_RGN_BLOCK.valid b) f
/-- A packet that had passed the key check of a region has finished (R510). -/
def endFlight (s : State) (i acct : Nat) : State := putRgn s i acct (putBits (rgnImage s i) 192 32 (rgnFlight (rgnImage s i) - 1))

/-! ### Operations (R474, R481 to R485) -/

/-- An operation of a connection changed. -/
def updOp (s : State) (n id : Nat) (f : TrnOp → TrnOp) : State :=
  updConn s n fun c => { c with ops := mapIf (fun o => decide (o.id = id)) f c.ops }

/-- A packet of an operation has been sent and is neither acknowledged nor refused. -/
def opPending (c : TrnConn) (id : Nat) : Bool := c.sent.any fun p => decide (p.op = id)

/-- An operation has come to its end (R481 to R484). -/
def opOver (c : TrnConn) (o : TrnOp) : Bool :=
  !o.more && !opPending c o.id && (o.kind ≠ 3 || o.done || o.fail || o.failover || o.refusal.isSome)

/-- The status of an operation at its end, with the NAK code that decided it (R481 to R484, R925). -/
def opStatus (o : TrnOp) : Nat × Nat :=
  if o.failover then (stRetryAfterFailover, 0)
  else if o.fail then (stBusError, 0)
  else match o.refusal with
    | some (_, st, code) => (st, code)
    | none => (stOk, 0)

/-- An operation leaves its connection, and its entry takes a status. -/
def endTrnOp (s : State) (n : Nat) (o : TrnOp) (status extra : Nat) : State :=
  let s := updConn s n fun c => { c with ops := c.ops.filter fun x => decide (x.id ≠ o.id) }
  match o.entry with
  | none => s
  | some (q, sseq) =>
    let bytes := ((entryOf s q sseq).map (·.moved)).getD 0
    let s := updEntry s q sseq fun e => { e with inUnit := false, decided := e.decided.map fun f => { f with bytes := bytes } }
    finish s q sseq { status := status, bytes := bytes, extra := extra }

/-- Every operation that has come to its end leaves its connection. -/
def settleOps (s : State) (n : Nat) : State :=
  (trnConn s n).ops.foldl (fun t o => if opOver (trnConn t n) o then endTrnOp t n o (opStatus o).1 (opStatus o).2 else t) s

/-- A local access of an operation fails, or a stop reaches it: it sends nothing more, and a read's responses are
discarded (R483, R484). -/
def stopOp (s : State) (n : Nat) (o : TrnOp) : State :=
  let s := updOp s n o.id fun x => { x with more := false, fail := true }
  let s := match chipCtx s n with
    | some x => if o.kind ≠ 3 then s
      else if o.count = 0 then putCtx s n (putSlotValid x o.slot 0)
      else if slotValid x o.slot then putCtx s n (putDiscard x o.slot 1) else s
    | none => s
  settleOps s n

/-- The operation of an entry, with its connection. -/
def opOfEntry (s : State) (q sseq : Nat) : Option (Nat × TrnOp) :=
  s.trn.conns.findSome? fun p => (p.2.ops.find? fun o => decide (o.entry = some (q, sseq))).map fun o => (p.1, o)

/-- A stop or an abort of an executing transport entry: no further packet is sent, and it retires once every packet sent
is acknowledged or refused; a REGION_REVOKE goes on until in_flight is 0 (R232, R484, R511). -/
def trnStop (s : State) (q : Nat) (e : Entry) : State :=
  let held := updEntry s q e.sseq fun x => { x with inUnit := true }
  if e.op = 0x25 then held
  else match opOfEntry s q e.sseq with
    | none => s
    | some (n, o) => stopOp held n o

/-- The checks of a transport entry at acceptance (R474); the owner where the device knows the context. -/
def trnAccept (s : State) (q : Nat) (e : Entry) : Option Nat :=
  let n := e.at 8 0 24
  let len := e.at 0xC 0 32
  if e.op ≠ 0x20 ∧ e.op ≠ 0x21 ∧ e.op ≠ 0x22 then none
  else if n = 0 || 2 ^ 30 < len || (e.op = 0x22 && len = 0) || e.at 8 25 7 ≠ 0 || (e.op ≠ 0x21 && e.at 0x24 0 32 ≠ 0)
      || e.at 0x28 0 192 ≠ 0 then some stInvalid
  else match knownCtx s n with
    | some x => if ctxState x ≠ 0 && ctxFn x ≠ queueFn s q then some stInvalid else none
    | none => none

/-! ### ERROR and RESET (R467, R468) -/

/-- The status of an operation when its connection ends, with the NAK code that decides it: OK where every packet of it
has been acknowledged; `worst` is the operation whose retries ran out, and `nak` the one that a NAK refuses, with its code. -/
def endStatus (c : TrnConn) (o : TrnOp) (worst : Option Nat) (nak : Option (Nat × Nat)) : Nat × Nat :=
  if opOver c o || o.failover then opStatus o
  else if worst = some o.id then (stRetryExceeded, 0)
  else match nak with
    | some (id, code) => (stConnectionError, if id = o.id then code else 0)
    | none => (stConnectionError, 0)

/-- Every unretired operation of a connection ends, and nothing is sent any more. -/
def endConn (s : State) (n : Nat) (worst : Option Nat) (nak : Option (Nat × Nat)) : State :=
  let c := trnConn s n
  let s := c.ops.foldl (fun t o =>
    let t := if o.kind = 4 ∧ o.more then endFlight t o.region (ctxAccount ((chipCtx t n).getD 0)) else t
    endTrnOp t n o (endStatus c o worst nak).1 (endStatus c o worst nak).2) s
  updConn s n fun c => { ready := c.ready }

/-- The context of a connection whose operations have ended: its state, no read slot in use, and no timer. -/
def closedCtx (x st : Nat) : Nat :=
  ctxPut ([0, 1, 2, 3].foldl (fun y i => putSlotValid y i 0) (ctxPut x 0 0 2 st)) 0x30 0 64 0

/-- A connection enters ERROR: its operations end, and the event is recorded and raised (R468). -/
def connError (s : State) (n cause : Nat) (worst : Option Nat) (nak : Option (Nat × Nat)) : State :=
  let s := endConn s n worst nak
  let s := putCtx s n (closedCtx ((chipCtx s n).getD 0) 2)
  raise (((s.wr TRN_CONN_ERRQ.conn n).wr TRN_CONN_ERRQ.status cause).countSat TRN_CONN_ERRQ.count) 0x100

/-- A context is lost to a detected fault: its connection enters ERROR (R522). -/
def ctxLost (s : State) (n : Nat) : State :=
  match knownCtx s n with
  | some x =>
    if ctxState x = 1 then
      connError (if (chipCtx s n).isSome then s else cacheCtx s n x) n stConnectionError none none
    else s
  | none => s

end Sys2Proof.Machine
end

