-- ==== Sys2Proof/Machine/Hooks.lean ====
section
/-! DEFINITION. What each engine lays down for the life of an entry in its queue: the checks at acceptance, whether it
can take an entry, and what an abort or a stop does to its work in progress. -/
namespace Sys2Proof.Machine

-- HOOKDEFS

/-- A START from DISABLED empties the error log of a block queue (R561). -/
def startEmptiesLog (s : State) (q : Nat) : State :=
  if s.rd WQ_CTX.type q = 4 then { s with blk := { s.blk with logs := Map.set s.blk.logs q {} } } else s

/-- The status that an engine's chapter gives an entry at acceptance, where it retires without executing. -/
def engineAccept (s : State) (q : Nat) (e : Entry) : Option Nat :=
  match s.rd WQ_CTX.type q with
  | 3 => trnAccept s q e
  | 4 => blkAccept s q e
  | 5 => jobAccept s q e
  | 6 => dmaAccept s q e
  -- ACCEPT
  | _ => none

/-- An accepted entry reaches its engine: all block commands, and otherwise those that are to execute. -/
def engineTake (s : State) (q : Nat) (e : Entry) : State :=
  match s.rd WQ_CTX.type q with
  | 4 => if e.op ≤ 2 then s else blkTake s q e
  | 6 => if e.op ≤ 2 || e.outcome.isSome then s else dmaTake s q e
  -- TAKE
  | _ => s

/-- The status of an entry is decided at its serialisation point (R557). -/
def engineDecided (s : State) (q : Nat) (e : Entry) (st : Nat) : State :=
  if s.rd WQ_CTX.type q = 4 ∧ 0x30 ≤ e.op ∧ e.op ≤ 0x36 then blkDecided s q e st else s

/-- An entry retires: its engine gives up what it held for it (R547, R566). -/
def engineRetired (s : State) (q : Nat) (e : Entry) : State :=
  match s.rd WQ_CTX.type q with
  | 4 => blkLeave s q e.sseq
  -- RETIRED
  | _ => s

/-- The engine of a queue's type can take an entry (R178). -/
def engineReady (s : State) (q : Nat) : Bool :=
  match s.rd WQ_CTX.type q with
  | 4 => decide ((queueInt s q).entries.length + orphansOf s q < 256)
  | 6 => decide (s.dma.dispatch.length < 1024)
  -- READY
  | _ => true

/-- What a stop or an abort that wins against an executing entry does to the engine's work (R228, R231, R232). -/
def engineStop (s : State) (q : Nat) (e : Entry) : State :=
  match s.rd WQ_CTX.type q with
  | 3 => trnStop s q e
  | 4 => blkStop s q e
  | 5 => cipStop s q e
  | 6 => dmaStop s q e
  -- STOP
  | _ => s

/-! ### Destination buffers (R229, R277, R928) -/

/-- Bytes that a cipher job writes (R597). -/
def jobOutBytes (s : State) (e : Entry) : Nat :=
  let x := slotImage s (e.at 8 0 20)
  let len := e.at 0xC 0 32
  match e.at 8 20 4 with
  | 0 => len + (if isAead (slotMode x) then (match e.at 0x2C 1 2 with
    | 0 => 16
    | 1 => 12
    | _ => 8) else 0)
  | 1 => len
  | 2 => digestBytes (e.at 8 28 2)
  | 3 => digestBytes (slotMode x - 6)
  | _ => 0

/-- The destination buffers of an entry: those that its words give, and those of the moves of its chain. -/
def entryDests (s : State) (q : Nat) (e : Entry) : List Dest :=
  e.dests ++ match e.op with
    | 0x11 => [⟨e.at 8 0 64, e.at 0x10 0 14, false, bitAt e.raw (8 * 0x10 + 15)⟩]
    | 0x22 => [⟨e.at 0x10 0 64, e.at 0xC 0 32, false, bitAt e.raw 88⟩]
    | 0x30 => [⟨e.at 0x18 0 64, ((blkCmd s q e.sseq).map blkBytes).getD 0, false, decide (e.at 8 16 1 = 1)⟩]
    | 0x35 => [⟨e.at 0x10 0 64, 512, false, decide (e.at 8 16 1 = 1)⟩]
    | 0x40 => [⟨e.at 0x18 0 64, jobOutBytes s e, false, decide (e.at 8 27 1 = 1)⟩]
    | 0x50 => [⟨e.at 0x10 0 64, e.at 0x18 0 30, bitAt e.raw (8 * 0x1C + 1), bitAt e.raw (8 * 0x1C + 3)⟩]
    | _ => []

/-- The contents of a destination buffer of a function become undefined: each byte is a free value. -/
def ruinDest (f : Nat) (s : State) (d : Dest) : State :=
  if d.internal then
    (if rangeExists s d.addr d.len then
      let x := freeBytes d.len s
      areaStore x.2 d.addr x.1
    else s)
  else match translateRange s f d.ats d.addr d.len true with
    | .ok ps => ps.foldl (fun t p =>
        let x := freeBytes p.2 t
        { x.2 with hostMem := storeBytes x.2.hostMem (hostKey f p.1) x.1 }) s
    | _ => s

/-- The destination buffers of an entry that retires with a status after which they are undefined; one that has not begun
has written nothing (R228, R229, R277, R928). -/
def ruinDests (s : State) (q : Nat) (e : Entry) (status : Nat) : State :=
  if e.begun && (status = stAborted || status = stDetectedFault || status = stRetryAfterFailover) then
    (entryDests s q e).foldl (ruinDest (queueFn s q)) s
  else s

end Sys2Proof.Machine
end

