-- ==== Sys2Proof/Machine/Records.lean ====
section
/-! DEFINITION. Record places, completion records, stalls, moderation and retirement (chapter Retirement, records and
resynchronisation). -/
namespace Sys2Proof.Machine

/-! ### Record rings (R206 to R219) -/

/-- The typed part of a record ring. -/
def ringInt (s : State) (r : Nat) : RingInt := Map.get s.rings r
/-- A change of the typed part of a record ring. -/
def updRing (s : State) (r : Nat) (f : RingInt → RingInt) : State := { s with rings := Map.upd s.rings r f }
/-- Slots of a record ring (R206). -/
def ringSlots (s : State) (r : Nat) : Nat := 2 ^ s.rd CQ_CTX.log2_slots r
/-- The function that owns a record ring (R241). -/
def ringFn (s : State) (r : Nat) : Nat := fnOf (s.rd CQ_CTX.pf r) (s.rd CQ_CTX.is_vf r) (s.rd CQ_CTX.vf r)
/-- Records in the ring that software has not consumed, by the consumer index last seen (R209). -/
def ringUsed (s : State) (r : Nat) : Nat := subMod 32 (s.rd CQ_CTX.prod r) (s.rd CQ_CTX.cons_seen r)
/-- The ring has a free slot by the consumer index last seen. -/
def ringFree (s : State) (r : Nat) : Bool := decide (ringUsed s r < ringSlots s r)

/-- The field with a function's quota of pool slots, and its member (R243). -/
def quotaOf (s : State) (f : Nat) : Nat := if f < 8 then s.rd CQ_QUOTA_PF.quota f else s.rd CQ_QUOTA_VF.quota (f - 8)
/-- Pool slots that a function holds. -/
def heldOf (s : State) (f : Nat) : Nat := if f < 8 then s.rd CQ_QUOTA_PF.held f else s.rd CQ_QUOTA_VF.held (f - 8)
/-- Pool slots that a function holds, set. -/
def setHeld (s : State) (f n : Nat) : State :=
  if f < 8 then s.wr CQ_QUOTA_PF.held n f else s.wr CQ_QUOTA_VF.held n (f - 8)

/-- A ring slot that is neither used nor promised (R211). -/
def ringPlaceFree (s : State) (r : Nat) : Bool := decide (ringUsed s r + (ringInt s r).ringHeld < ringSlots s r)

/-- Why no place can be promised: 0 when one can, 1 the function's quota, 2 the pool (R211, R213, R219). -/
def placeCause (s : State) (r : Nat) : Nat :=
  if ringPlaceFree s r then 0
  else if quotaOf s (ringFn s r) ≤ heldOf s (ringFn s r) then 1
  else if s.rd CQ_POOL_STAT.free = 0 then 2
  else 0

/-- The place that the next promise of a ring takes: a ring slot where one is not promised, else a pool slot (R211). -/
def placeFor (s : State) (r : Nat) : Place := if ringPlaceFree s r then .ring else .pool

/-- A place promised (R211). -/
def promisePlace (s : State) (r : Nat) : State :=
  let s1 := deltaRing (s.count CQ_CTX.promised 1 r) r
  match placeFor s r with
  | .ring => updRing s1 r fun x => { x with ringHeld := x.ringHeld + 1 }
  | .pool =>
    let f := ringFn s r
    updRing ((setHeld s1 f (heldOf s f + 1)).wr CQ_POOL_STAT.free (s.rd CQ_POOL_STAT.free - 1)) r
      fun x => { x with poolHeld := x.poolHeld + 1 }

/-- A pool slot of the ring's function returns to the pool. -/
def freePool (s : State) (r : Nat) : State :=
  let f := ringFn s r
  updRing ((setHeld s f (heldOf s f - 1)).wr CQ_POOL_STAT.free (s.rd CQ_POOL_STAT.free + 1)) r
    fun x => { x with poolHeld := x.poolHeld - 1 }

/-- A ring slot held by promise becomes free. -/
def freeRingHeld (s : State) (r : Nat) : State := updRing s r fun x => { x with ringHeld := x.ringHeld - 1 }

/-- A place of a kind becomes free. -/
def vacatePlace (s : State) (r : Nat) : Place → State
  | .ring => freeRingHeld s r
  | .pool => freePool s r

/-- The promise of an entry that retires without a record is released (R211). -/
def releasePlace (s : State) (r : Nat) (place : Place) : State :=
  vacatePlace (deltaRing (s.wr CQ_CTX.promised (s.rd CQ_CTX.promised r - 1) r) r) r place

/-- The queues that name a ring and are not DISABLED. -/
def queuesOfRing (s : State) (r : Nat) : List Nat := (liveQueues s).filter fun q => s.rd WQ_CTX.cq_ring q = r

/-- A change of a queue that its status block is to show (R203). -/
def dirty (s : State) (q : Nat) : State := updQueue s q fun x => { x with sbDirty := true }

/-- A ring stalls (R213, R215). -/
def ringStall (s : State) (r cause : Nat) : State :=
  if s.on CQ_CTX.stalled r then s
  else
    let s := deltaRing ((s.wr CQ_CTX.stalled 1 r).wr CQ_CTX.stall_cause cause r) r
    let s := (queuesOfRing s r).foldl dirty s
    let s := ((s.wr CQ_STALLQ.ring r).wr CQ_STALLQ.cause cause).countSat CQ_STALLQ.count
    let s := raise s 0x081
    let s := if s.on CQ_CTX.irq_en r then publish s (.vector (ringFn s r) (s.rd CQ_CTX.vector r)) else s
    if cause = 2 then raise (s.count CQ_POOL_STAT.empty_count) 0x082 else s

/-- A stall ends when a place can be promised again (R216). -/
def endStall (s : State) (r : Nat) : State :=
  if s.on CQ_CTX.stalled r && decide (placeCause s r = 0) then
    let s := deltaRing ((s.wr CQ_CTX.stalled 0 r).wr CQ_CTX.stall_cause 0 r) r
    (queuesOfRing s r).foldl dirty s
  else s

/-- Every stall that can end does (R216). -/
def endStalls (s : State) : State := (listedMembers s CQ_CTX.stalled).foldl endStall s

/-! ### Interrupt moderation (R220 to R223) -/

/-- A ring sends its vector: both conditions return to zero (R220, R222). -/
def ringInterrupt (s : State) (r : Nat) : State :=
  let s := publish s (.vector (ringFn s r) (s.rd CQ_CTX.vector r))
  updRing (deltaRing (s.wr CQ_CTX.last_irq_tt (now s) r) r) r fun x => { x with since := 0, firstTt := none }

/-- A record has been written: changes to mod_count and mod_ns take effect; then the count condition, or every record when
both conditions are 0 (R220, R221, R223). -/
def moderate (s : State) (r : Nat) : State :=
  let s := updRing s r fun x => { x with since := x.since + 1, firstTt := some (x.firstTt.getD (now s)), modNs := s.rd CQ_CTX.mod_ns r }
  let n := s.rd CQ_CTX.mod_count r
  if s.on CQ_CTX.irq_en r && ((decide (n ≠ 0) && decide (n ≤ (ringInt s r).since))
      || (decide (n = 0) && decide (s.rd CQ_CTX.mod_ns r = 0))) then ringInterrupt s r
  else s

/-- The time condition of a ring's moderation is met (R220, R221, R223). -/
def moderationDue (s : State) (r : Nat) : Bool :=
  match (ringInt s r).firstTt with
  | none => false
  | some t => s.on CQ_CTX.irq_en r && decide ((ringInt s r).modNs ≠ 0) && decide (t + (ringInt s r).modNs ≤ now s)

/-! ### Records (R205 to R212) -/

/-- A 32-byte completion record without its cseq (R205). -/
def recordImage (status opcode sseq tag queue kind bytes tt extra : Nat) (hold : Bool) : Nat :=
  status + opcode <<< 8 + sseq <<< 16 + tag <<< 32 + queue <<< 64 + kind <<< 80 + (bytes % 2 ^ 32) <<< 96
    + tt <<< 128 + (extra % 2 ^ 32) <<< 192 + (flag hold) <<< 224

/-- The address of the slot at a ring's producer index (R206). -/
def recordSlot (s : State) (r : Nat) : Nat := s.rd CQ_CTX.base r + s.rd CQ_CTX.prod r % ringSlots s r * 32

/-- The ring takes a record now: its function may write, the ring has a free slot, and the address translates. -/
def ringTakes (s : State) (r : Nat) : Bool :=
  fnLive s (ringFn s r) && ringFree s r
    && (match translate s (ringFn s r) (s.on CQ_CTX.ats r) (recordSlot s r) true with
        | .ok _ => true
        | _ => false)

/-- The translation that a ring's next record needs is asked for (R818). -/
def askSlot (s : State) (r : Nat) : State :=
  match translate s (ringFn s r) (s.on CQ_CTX.ats r) (recordSlot s r) true with
  | .miss => requestTranslation s (ringFn s r) (recordSlot s r)
  | .fault => faultTaken s (ringFn s r)
  | .ok _ => s

/-- A record is written at the producer index with its cseq (R207, R212). -/
def ringPut (s : State) (r queue image : Nat) : State :=
  let i := s.rd CQ_CTX.prod r
  let cseq := (s.rd CQ_CTX.cseq_base r + i) % 65536
  let at_ := recordSlot s r
  let a := match translate s (ringFn s r) (s.on CQ_CTX.ats r) at_ true with
    | .ok x => x
    | _ => at_
  let s := deltaRecord s r (image + cseq <<< 240) 0 (queueAccount s queue)
  let s := deltaRing (s.wr CQ_CTX.prod (addMod 32 i 1) r) r
  let s := publish s (.write (ringFn s r) a (leBytes 32 (image + cseq <<< 240)))
  let s := pmc s 0x102 (queue / 32) 1 (some (queueAccount s queue))
  moderate s r

/-- The first of a list of elements that meets a condition, changed. -/
def mapFirst {α : Type} (p : α → Bool) (f : α → α) : List α → List α
  | [] => []
  | x :: xs => if p x then f x :: xs else x :: mapFirst p f xs

/-- A holder of a ring slot holds a pool slot from now on: the first in the backlog, else the first entry of the ring's
lowest queue with one.  Which holder it is, the spec leaves open (R211, R212). -/
def swapPlace (s : State) (r : Nat) : State :=
  let own := fun e : Entry => decide (e.place = .ring)
  if (ringInt s r).backlog.any fun h => decide (h.place = .ring) then
    updRing s r fun x => { x with
      backlog := mapFirst (fun h => decide (h.place = .ring)) (fun h => { h with place := .pool }) x.backlog }
  else match (queuesOfRing s r).find? fun q => (queueInt s q).entries.any own with
    | some q => updQueue s q fun x => { x with entries := mapFirst own (fun e => { e with place := .pool }) x.entries }
    | none => s

/-- The place of a record that has entered its ring is released.  A record that was promised a pool slot and has taken a
ring slot promised to another leaves that other the pool slot (R211, R212). -/
def releaseAfterPut (s : State) (r : Nat) (place : Place) : State :=
  let s1 := deltaRing (s.wr CQ_CTX.promised (s.rd CQ_CTX.promised r - 1) r) r
  match place with
  | .ring => freeRingHeld s1 r
  | .pool => if ringSlots s1 r < ringUsed s1 r + (ringInt s1 r).ringHeld then swapPlace (freeRingHeld s1 r) r else freePool s1 r

/-- CQ_CTX.backlog shows the records that the backlog holds, in its 16 bits. -/
def syncBacklog (s : State) (r : Nat) : State := s.wr CQ_CTX.backlog (ringInt s r).backlog.length r

/-- A retiring record is written to its ring, or placed in the backlog; a ring found full has its consumer word read (R209,
R212). -/
def writeRecord (s : State) (r queue : Nat) (place : Place) (image : Nat) : State :=
  let x := ringInt s r
  if x.backlog.isEmpty && ringTakes s r then releaseAfterPut (ringPut s r queue image) r place
  else
    let full := x.backlog.isEmpty && !ringFree s r
    let s := askSlot s r
    let s := updRing s r fun x => { x with backlog := x.backlog ++ [⟨queue, image, place⟩], pollNow := x.pollNow || full }
    deltaRing (deltaRecord (syncBacklog s r) r image 1 (queueAccount s queue)) r

/-- Records of a queue that the backlog holds (R200). -/
def backlogOf (s : State) (q : Nat) : Nat :=
  ((ringInt s (s.rd WQ_CTX.cq_ring q)).backlog.filter fun h => decide (h.queue = q)).length

/-- The oldest backlog record enters its ring, where the ring takes it (R208). -/
def drainOne (s : State) (r : Nat) : State :=
  match (ringInt s r).backlog with
  | [] => s
  | h :: rest =>
    if ringTakes s r then
      let s := syncBacklog (updRing (ringPut s r h.queue h.image) r fun x => { x with backlog := rest }) r
      let s := releaseAfterPut s r h.place
      if backlogOf s h.queue = 0 then dirty s h.queue else s
    else askSlot s r

/-- The backlog of a ring drains while the ring takes records (R208, R209). -/
def drainRing (s : State) (r : Nat) : State := (ringInt s r).backlog.foldl (fun t _ => drainOne t r) s

/-! ### Retirement (R193 to R199) -/

/-- The ENTRY record of an entry whose status has been decided (R913). -/
def deltaEntry (s : State) (q sseq : Nat) (f : Finish) : State :=
  delta s 0x04 (q * 65536 + sseq)
    (leBytes 1 f.status ++ leBytes 3 (flag f.hold) ++ leBytes 4 f.bytes ++ leBytes 4 f.extra ++ leBytes 4 0 ++ leBytes 8 f.tt)
    (queueAccount s q)

/-- The status of an entry is decided at its retirement unit (R193, R194). -/
def decideEntry (s : State) (q : Nat) (e : Entry) (f : Finish) : State :=
  if e.decided.isSome then updEntry s q e.sseq fun x => { x with outcome := none }
  else
    let s := updEntry s q e.sseq fun x =>
      { x with outcome := none, decided := some { f with tt := now s, hold := inHoldover s } }
    let s := engineDecided (deltaEntry s q e.sseq { f with tt := now s, hold := inHoldover s }) q e f.status
    settleEntry s q e.sseq

/-- The done-head passes the PAD that starts where it stands (R136, R197). -/
def passPads (s : State) (q : Nat) : State :=
  match (queueInt s q).pads.find? fun p => decide (p.1 = s.rd WQ_CTX.done_head q) with
  | none => s
  | some p =>
    dirty (updQueue (deltaQueue (s.wr WQ_CTX.done_head p.2 q) q) q fun x => { x with pads := x.pads.filter fun y => decide (y ≠ p) }) q

/-- An entry whose status is decided may retire: no atomic unit of it is in progress, its links are flushed, and no FLR
of its function is in progress (R195, R228, R249, R813). -/
def mayRetire (s : State) (q : Nat) (e : Entry) : Bool :=
  e.decided.isSome && !e.inUnit && (retireFlushes s q e).isEmpty && !(fnSt s (queueFn s q)).flr

/-- A retiring entry writes a record (R196). -/
def writesRecord (e : Entry) (f : Finish) : Bool :=
  f.status ≠ stOk || e.wantsRecord || e.op = 0x11 || e.op = 0x24 || e.op = 0x35

/-- The entry at the head of a queue retires, with a record where R196 asks for one. -/
def retireHead (s : State) (q : Nat) (e : Entry) (f : Finish) : State :=
  let r := s.rd WQ_CTX.cq_ring q
  let a := queueAccount s q
  let s := ruinDests s q e f.status
  let s := if writesRecord e f then
      writeRecord s r q e.place (recordImage f.status e.op e.sseq e.tag q 0 f.bytes f.tt f.extra f.hold)
    else releasePlace s r e.place
  let s := updQueue (deltaQueue (s.wr WQ_CTX.done_head (addMod 32 e.idx e.size) q) q) q fun x => { x with
    entries := x.entries.tail
    retired := x.retired + 1
    doneSseq := e.sseq
    sbDirty := true
    unflushed := x.unflushed ++ (unflushedLinks e).map fun l => (e.sseq, l) }
  let s := if f.status = stBudgetRefused then
      { s with nrg := { s.nrg with refused := Map.set s.nrg.refused a (Map.get s.nrg.refused a + 1) } }
    else s
  passPads (engineRetired (pmc s 0x101 (q / 32) 1 (some a)) q e) q

/-- The entry at the head of a queue with its status, where it may retire (R195). -/
def headReady (s : State) (q : Nat) : Option (Entry × Finish) :=
  match (queueInt s q).entries with
  | [] => none
  | e :: _ => match e.decided with
    | some f => if mayRetire s q e then some (e, f) else none
    | none => none

/-- Entries at the head of a queue that write no record retire; `n` bounds them. -/
def retireFree (q : Nat) : Nat → State → State
  | 0, s => s
  | n + 1, s => match headReady s q with
    | some (e, f) => if writesRecord e f then s else retireFree q n (retireHead s q e f)
    | none => s

/-! ### The writer of a record ring as a collector (R263 to R267) -/

/-- Cycles of the 1.6 GHz fabric in the present tick of the 125 MHz clock: 12 or 13 (R263, R267). -/
def fabricCycles (s : State) : Nat := (s.tt.ticks + 1) * 64 / 5 - s.tt.ticks * 64 / 5

/-- Places in which a source's results wait for its collector (R264). -/
def sourcePlaces : Nat := 4

/-- The results that the retirement unit of a queue has ready, in ring order (R195, R196). -/
def readyResults (s : State) (q : Nat) : List (Nat × Nat) :=
  (((queueInt s q).entries.takeWhile (mayRetire s q)).filter fun e => match e.decided with
    | some f => writesRecord e f
    | none => false).map fun e => (q, e.sseq)

/-- The retirement unit of a queue fills its places at the ring's writer; with all of them full it holds its next result and
stalls (R264). -/
def offerResults (s : State) (q : Nat) : State :=
  let r := s.rd WQ_CTX.cq_ring q
  let mine := fun w : Nat × Nat => decide (w.1 = q)
  let ready := (readyResults s q).take sourcePlaces
  if ready.isEmpty && !(ringInt s r).waiting.any mine then s
  else updRing s r fun x => { x with waiting := (x.waiting.filter fun w => !mine w) ++ ready }

/-- The ring's writer accepts one result, of the source whose turn it is, where it has a cycle left (R263, R265). -/
def serveRing (s : State) (r : Nat) : Option State :=
  let x := ringInt s r
  if fabricCycles s ≤ x.taken then none
  else match nextInTurn x.lastSrc ((x.waiting.map (·.1)).filter fun q => (headReady s q).isSome) with
    | none => none
    | some q => match headReady s q with
      | some (e, f) =>
        let s := updRing s r fun x => { x with
          lastSrc := some q, taken := x.taken + 1, waiting := x.waiting.filter fun w => decide (w ≠ (q, e.sseq)) }
        let s := retireHead s q e f
        some (offerResults (retireFree q (queueInt s q).entries.length s) q)
      | none => none

/-- The ring's writer accepts results while it has cycles and results; `n` bounds them. -/
def serveResults (r : Nat) : Nat → State → State
  | 0, s => s
  | n + 1, s => match serveRing s r with
    | some t => serveResults r n t
    | none => s

/-- Decided entries retire in ring order, their records through the ring's writer (R195, R264); stalls that can end do
(R216). -/
def retireQueue (s : State) (q : Nat) : State :=
  let r := s.rd WQ_CTX.cq_ring q
  endStalls (serveResults r 13 (offerResults (retireFree q (queueInt s q).entries.length s) q))

/-- A tick begins the next cycles of a ring's writer. -/
def ringTick (s : State) (r : Nat) : State := serveResults r 13 (updRing s r fun x => { x with taken := 0 })

/-- A tick begins the next cycles of every ring's writer that has accepted or holds a result. -/
def collectorTick (s : State) : State :=
  let rs := (s.rings.filter fun p => decide (p.2.taken ≠ 0) || !p.2.waiting.isEmpty).map (·.1)
  if rs.isEmpty then s else endStalls (rs.foldl ringTick s)

end Sys2Proof.Machine
end

