-- ==== Sys2Proof/Machine/Queues.lean ====
section
/-! DEFINITION. Queue states, doorbells and pushes, acceptance, arbitration, stop, freeze and abort (chapters Work queues
and doorbells, Retirement, Hurdles). -/
namespace Sys2Proof.Machine

/-! ### State changes (R166, R167) -/

/-- The state code of a queue set. -/
def setQueueState (s : State) (q st : Nat) : State := dirty (deltaQueue (s.wr WQ_CTX.state st q) q) q

/-- A queue leaves ACTIVE: a taken copy that has not been accepted is discarded (R151), and reads in progress are not
used. -/
def leaveActive (s : State) (q : Nat) : State :=
  let s1 := match (queueInt s q).pushed with
    | none => s
    | some _ => { s.count WQ_PUSH_DEFER.count with pushHeld := s.pushHeld - 1 }
  updQueue s1 q fun x => { x with pushed := none, fetch := none, padAt := none }

/-- A queue enters ERROR (R165, R167). -/
def queueError (s : State) (q cause tag : Nat) : State :=
  let st := queueState s q
  if st = qActive ∨ st = qFrozen ∨ st = qMigrating then
    let s := ((leaveActive s q).wr WQ_CTX.err_cause cause q).wr WQ_CTX.err_tag tag q
    let s := setQueueState s q qError
    raise (((s.wr WQ_ERRQ.queue q).wr WQ_ERRQ.cause cause).countSat WQ_ERRQ.count) 0x080
  else s

/-- A context is valid for START from DISABLED (R168). -/
def contextValid (s : State) (q : Nat) : Bool :=
  let r := s.rd WQ_CTX.cq_ring q
  decide (5 ≤ s.rd WQ_CTX.log2_slots q) && decide (s.rd WQ_CTX.log2_slots q ≤ 20)
    && decide (s.rd WQ_CTX.ring_base q % 1024 = 0) && decide (s.rd WQ_CTX.status_addr q % 64 = 0)
    && decide (s.rd WQ_CTX.type q ≠ 7) && queueOwned s q
    && s.on CQ_CTX.valid r && decide (ringFn s r = queueFn s q)

/-- The first queue naming a ring leaves DISABLED (R242). -/
def firstOfRing (s : State) (r : Nat) : State :=
  if (queuesOfRing s r).isEmpty && (ringInt s r).backlog.isEmpty then
    let s := (((s.wr CQ_CTX.prod 0 r).wr CQ_CTX.cons_seen 0 r).wr CQ_CTX.stalled 0 r).wr CQ_CTX.stall_cause 0 r
    deltaRing s r
  else s

/-- START from DISABLED with a valid context (R167, R169, R204, R561). -/
def startDisabled (s : State) (q : Nat) : State :=
  let i := s.rd WQ_CTX.start_idx q
  let n := s.rd WQ_CTX.next_sseq q
  let s := firstOfRing s (s.rd WQ_CTX.cq_ring q)
  let s := (((s.wr WQ_CTX.dev_prod i q).wr WQ_CTX.fetch_idx i q).wr WQ_CTX.accept_index i q).wr WQ_CTX.done_head i q
  let s := (s.wr WQ_CTX.accepted_sseq (n + 65535) q).wr WQ_CTX.err_cause 0 q
  let s := updQueue s q fun x => { x with doneSseq := addMod 16 n 65535, pads := [], sbHead := i }
  setQueueState (startEmptiesLog s q) q qActive

/-- START from STOPPED (R170). -/
def startStopped (s : State) (q : Nat) : State :=
  let i := s.rd WQ_CTX.accept_index q
  setQueueState ((s.wr WQ_CTX.dev_prod i q).wr WQ_CTX.fetch_idx i q) q qActive

/-- RESET of a STOPPED queue (R171); what is left of its quota in the round stays (R181). -/
def clearDeviceFields (s : State) (q : Nat) : State :=
  let s := (((s.wr WQ_CTX.dev_prod 0 q).wr WQ_CTX.fetch_idx 0 q).wr WQ_CTX.accept_index 0 q).wr WQ_CTX.done_head 0 q
  let s := ((s.wr WQ_CTX.accepted_sseq 0 q).wr WQ_CTX.err_cause 0 q).wr WQ_CTX.err_tag 0 q
  updQueue s q fun x => { x with pads := [], doneSseq := 0, accepted := 0, retired := 0 }

/-! ### Stop and abort of accepted entries (R228, R231) -/

/-- An abort or a stop decides the status of an entry that has begun: its engine ends the atomic unit in progress; a chain
that ends with it gives the record's extra its result (R228, R625, R653). -/
def stopBegun (s : State) (q : Nat) (e : Entry) (status : Nat) : State :=
  let s := engineStop s q e
  let e := (entryOf s q e.sseq).getD e
  let extra := if s.rd WQ_CTX.type q = 6 then (e.outcome.map (·.extra)).getD 0 else 0
  decideEntry s q e { status := status, bytes := e.moved, extra := extra }

/-- A stop reaches one accepted entry; a HURDLE that waits stops waiting (R231, R262). -/
def stopEntry (begunStatus restStatus : Nat) (q : Nat) (s : State) (e : Entry) : State :=
  if e.decided.isSome then s
  else if e.begun then stopBegun s q e begunStatus
  else decideEntry s q e { status := if e.op = 1 && e.outcome.isNone then begunStatus else restStatus, bytes := e.moved }

/-- STOP: nothing more is fetched or accepted, and each accepted entry is handled by its progress (R167, R231). -/
def stopQueue (s : State) (q : Nat) : State :=
  let s := setQueueState (leaveActive s q) q qStopping
  retireQueue ((queueInt s q).entries.foldl (stopEntry stAborted stQueueStopped q) s) q

/-- A state from which STOP is taken (R167). -/
def stoppable (st : Nat) : Bool := st = qActive || st = qError || st = qHalted || st = qFrozen || st = qMigrating

/-- What R173 and R168 ask before an action on a queue, given the requesting function and queue. -/
def startAllowed (s : State) (q : Nat) : Bool :=
  queueState s q = qStopped || (queueState s q = qDisabled && contextValid s q)

/-- START takes effect on a queue that allows it. -/
def startQueue (s : State) (q : Nat) : State := if queueState s q = qStopped then startStopped s q else startDisabled s q

/-- RESET takes effect (R167, R171). -/
def resetQueue (s : State) (q : Nat) : State := setQueueState (clearDeviceFields s q) q qDisabled

/-! ### Acceptance (R153 to R160, R211) -/

/-- An entry as a hurdle waits for it: open while its status is not decided or a unit of it is in progress, and then for the
flushes of the links that it has written (R251, R252). -/
def coverOf (q : Nat) (e : Entry) : Cover :=
  let still := e.decided.isNone || e.inUnit
  ⟨q, e.sseq, still, if still then [] else unflushedLinks e⟩

/-- What an accepted hurdle-bit entry waits for in its own queue: the entries accepted before it, and the flushes of
those that have retired (R251, R252). -/
def ownCovers (s : State) (q : Nat) : List Cover :=
  (queueInt s q).entries.map (coverOf q) ++ (queueInt s q).unflushed.map fun p => ⟨q, p.1, false, [p.2]⟩

/-- The member queues of a hurdle group (R281). -/
def hgroupMembers (s : State) (h : Nat) : List Nat :=
  let fields := [WQ_HGROUP.member0, WQ_HGROUP.member1, WQ_HGROUP.member2, WQ_HGROUP.member3, WQ_HGROUP.member4,
    WQ_HGROUP.member5, WQ_HGROUP.member6, WQ_HGROUP.member7, WQ_HGROUP.member8, WQ_HGROUP.member9, WQ_HGROUP.member10,
    WQ_HGROUP.member11, WQ_HGROUP.member12, WQ_HGROUP.member13, WQ_HGROUP.member14, WQ_HGROUP.member15]
  (List.range 16).filterMap fun i =>
    if (s.rd WQ_HGROUP.mask h).testBit i then (fields[i]?).map fun d => s.rd d h else none

/-- The group of a HURDLE entry. -/
def Entry.group (e : Entry) : Nat := bitsAt (e.word 2) 0 10
/-- use_group of a HURDLE entry. -/
def Entry.useGroup (e : Entry) : Bool := (e.word 2).testBit 10

/-- A HURDLE of a group that has not finished, behind which nothing of its queue is covered (R258). -/
def openBarrier (e : Entry) : Bool := e.op = 1 && e.useGroup && e.outcome.isNone && e.decided.isNone

/-- The covered set of a member queue for a HURDLE accepted as number `order`: the entries accepted before it that have not
retired (R257 to R259). -/
def coveredSet (s : State) (own order m : Nat) : List Cover :=
  if m = own ∨ queueState s m = qDisabled then []
  else (((queueInt s m).entries.filter fun e => decide (e.order < order)).takeWhile fun e => !openBarrier e).map (coverOf m)

/-- What a HURDLE entry waits for in the queues of its group (R257). -/
def groupCovers (s : State) (q : Nat) (e : Entry) : List Cover :=
  if e.op = 1 && e.useGroup then (hgroupMembers s e.group).flatMap (coveredSet s q e.order) else []

/-- An entry may act on a queue for its owner's sake: its own queue is PF 0's, or no other function owns the target (R173,
R225, R256). -/
def ctlOwnerOk (s : State) (q t : Nat) : Bool := queueFn s q = 0 || !queueOwned s t || queueFn s q = queueFn s t

/-- A HURDLE that retires INVALID_ENTRY without waiting (R256). -/
def hurdleInvalid (s : State) (q : Nat) (e : Entry) : Bool :=
  decide (bitsAt (e.word 2) 11 21 ≠ 0) || decide (bitsAt e.raw 96 160 ≠ 0)
    || (e.useGroup && (!s.on WQ_HGROUP.valid e.group || decide (s.rd WQ_HGROUP.mask e.group = 0)
      || (hgroupMembers s e.group).any fun m => !ctlOwnerOk s q m))

/-- The target belongs to a VF that is QUIESCED, and the entry does not (R827). -/
def namesQuiesced (s : State) (q t : Nat) : Bool :=
  queueOwned s t && quiescedFn s (queueFn s t) && decide (queueFn s t ≠ queueFn s q)

/-- The status of a HURDLE that does not wait, judged with its group as its acceptance finds it (R256, R257, R827). -/
def hurdleAccept (s : State) (q : Nat) (e : Entry) : Option Nat :=
  if hurdleInvalid s q e then some stInvalid
  else if e.useGroup && (hgroupMembers s e.group).any (namesQuiesced s q) then some stMigrationFrozen
  else none

/-- The flushes that a set of covers needs are started. -/
def flushCovers (s : State) (cs : List Cover) : State :=
  cs.foldl (fun t c => if c.isOpen then t else c.links.foldl (fun u l => startFlush u l c.queue c.sseq) t) s

/-- The status that an entry takes at its acceptance without executing, where it does (R105, R156). -/
def acceptStatus (s : State) (q : Nat) (e : Entry) (refuse : Bool) : Option Nat :=
  if malformed (s.rd WQ_CTX.type q) e then some stInvalid
  else if refuse then some stBudgetRefused
  else if e.op = 1 then hurdleAccept s q e
  else if e.op ≤ 2 then none
  else engineAccept s q e

/-- One entry is accepted: a place is promised, the indices advance, and what a hurdle waits for is taken (R160, R211, R257). -/
def acceptEntry (s : State) (q idx raw : Nat) (refuse : Bool) : State :=
  let size := bitsAt raw 8 4
  let e0 : Entry := { idx := idx, size := size, raw := raw % 2 ^ (256 * size), acceptTt := now s, order := s.acceptNo }
  let covers := if e0.fence then ownCovers s q ++ groupCovers s q e0 else []
  let e : Entry := { e0 with
    covers := covers
    place := placeFor s (s.rd WQ_CTX.cq_ring q)
    outcome := (acceptStatus s q e0 refuse).map fun st => { status := st } }
  let s := flushCovers (promisePlace s (s.rd WQ_CTX.cq_ring q)) covers
  let s := updQueue s q fun x => { x with entries := x.entries ++ [e], accepted := x.accepted + 1, sbDirty := true }
  let s := (s.wr WQ_CTX.accept_index (addMod 32 idx size) q).wr WQ_CTX.fetch_idx (addMod 32 idx size) q
  let s := deltaQueue (s.wr WQ_CTX.accepted_sseq e.sseq q) q
  let s := engineTake s q e
  pmc { s with acceptNo := s.acceptNo + 1 } 0x100 (q / 32) 1 (some (queueAccount s q))

/-- The sequence number that the next entry must carry (R158). -/
def expectedSseq (s : State) (q : Nat) : Nat := addMod 16 (s.rd WQ_CTX.accepted_sseq q) 1

/-- Slots from an index to the end of the ring. -/
def toRingEnd (s : State) (q idx : Nat) : Nat := queueSlots s q - idx % queueSlots s q

/-- A hurdle holds a queue: an accepted hurdle-bit or HURDLE entry whose status is not decided (R253). -/
def hurdleHolds (s : State) (q : Nat) : Bool :=
  (queueInt s q).entries.any fun e => e.fence && e.decided.isNone

/-- How the reading of one header ends. -/
inductive ReadStep where
  | more (s : State) (slots : Nat)   -- an entry was accepted
  | stop (s : State)                 -- nothing more is accepted in this visit
  | again (s : State) (sseq : Nat)   -- the entry is read once more (R159)
deriving Repr

/-- The read of a queue's visit is issued where its address translates, or its translation is asked for; a translation
fault fails the read, which is repeated once (R162, R818). -/
def issueFetch (s : State) (q : Nat) : State :=
  match (queueInt s q).fetch with
  | none => s
  | some fe =>
    let f := queueFn s q
    let a := s.rd WQ_CTX.ring_base q + fe.start % queueSlots s q * 32
    let again := fun t : State => updQueue t q fun x => { x with fetch := some { fe with retried := true } }
    let fails := fun t : State => queueError (updQueue (faultTaken t f) q fun x => { x with fetch := none }) q 0x05 0
    match translate s f (s.on WQ_CTX.ats q) a false with
    | .ok _ => issueRead s f (.ringFetch q)
    | .miss => requestTranslation s f a
    | .fault =>
      if fe.retried then fails s
      else
        let t := again (faultTaken (s.count WQ_FETCH_RETRY.count) f)
        match translate t f (t.on WQ_CTX.ats q) a false with
        | .fault => fails t
        | _ => requestTranslation t f a

/-- A ring read of a queue's function at an index, of up to 2 KiB, not past the producer or the end of the ring
(R182). -/
def startFetch (s : State) (q idx allow : Nat) (refuse : Bool) (reread : Option Nat) (retried : Bool) : State :=
  let slots := min 64 (min (subMod 32 (s.rd WQ_CTX.dev_prod q) idx) (toRingEnd s q idx))
  issueFetch (updQueue s q fun x => { x with fetch := some ⟨idx, slots, allow, refuse, reread, retried⟩ }) q

/-- One header of a completed read, checked and where it passes accepted (R137 to R139, R155, R159, R160, R213). -/
def readHeader (s : State) (q idx raw avail : Nat) (fe : Fetch) (allow : Nat) : ReadStep :=
  let op := bitsAt raw 0 8
  let size := bitsAt raw 8 4
  let tag := bitsAt raw 32 32
  if op = 0x7F then
    .stop (updQueue s q fun x => { x with padAt := some idx, padAllow := allow, padRefuse := fe.refuse })
  else if size = 0 ∨ 8 < size then .stop (queueError s q 0x03 tag)
  else if toRingEnd s q idx < size then .stop (queueError s q 0x02 tag)
  else if subMod 32 (s.rd WQ_CTX.dev_prod q) idx < size then .stop s
  else if avail < size then .stop s
  else if bitsAt raw 16 16 ≠ expectedSseq s q then
    if fe.reread = some idx then .stop (queueError s q 0x04 tag) else .again s idx
  else
    let r := s.rd WQ_CTX.cq_ring q
    if s.on CQ_CTX.stalled r || hurdleHolds s q || !engineReady s q || s.pair.handover then .stop s
    else if placeCause s r ≠ 0 then .stop (ringStall s r (placeCause s r))
    else .more (acceptEntry s q idx raw fe.refuse) size

/-- The entries of a completed read, in ring order; `fuel` bounds the headers read. -/
def readEntries (q : Nat) (fe : Fetch) (data : Bytes) : Nat → State → Nat → Nat → State
  | 0, s, _, _ => s
  | fuel + 1, s, off, allow =>
    if allow = 0 ∨ fe.slots ≤ off then s
    else
      let idx := addMod 32 fe.start off
      let raw := ofLe (slice data (off * 32) 256)
      match readHeader s q idx raw (fe.slots - off) fe allow with
      | .more s' n =>
        readEntries q fe data fuel (deltaQueue (s'.wr WQ_CTX.quota (s'.rd WQ_CTX.quota q - 1) q) q) (off + n) (allow - 1)
      | .stop s' => s'
      | .again s' i => startFetch s' q i allow fe.refuse (some i) false

/-! ### Arbitration (R178 to R185) -/

/-- A queue takes part in arbitration (R178, R910). -/
def takesPart (s : State) (q : Nat) : Bool :=
  let x := queueInt s q
  let a := queueAccount s q
  decide (queueState s q = qActive)
    && (decide (s.rd WQ_CTX.fetch_idx q ≠ s.rd WQ_CTX.dev_prod q) || x.pushed.isSome)
    && (eligible s a || refuses s a) && !hurdleHolds s q && !s.on CQ_CTX.stalled (s.rd WQ_CTX.cq_ring q)
    && engineReady s q && !standby s && !s.pair.handover && enabled s .wq && fnLive s (queueFn s q)

/-- The weight of a queue: 0 is treated as 1 (R177). -/
def queueWeight (s : State) (q : Nat) : Nat := max 1 (s.rd WQ_CTX.weight q)

/-- A visit to the queue is under way: a read of its ring is in flight, or it goes on behind a PAD that the producer has
passed (R182, R185). -/
def inVisit (s : State) (q : Nat) : Bool :=
  let x := queueInt s q
  x.fetch.isSome || match x.padAt with
    | none => false
    | some idx => decide (toRingEnd s q idx ≤ subMod 32 (s.rd WQ_CTX.dev_prod q) idx)

/-- The quota that a queue has in the current round: what is left of it since its first visit in the round, else its weight
(R179, R181). -/
def quotaNow (s : State) (q : Nat) : Nat :=
  if (queueInt s q).round.isSome then s.rd WQ_CTX.quota q else queueWeight s q

/-- A round ends: what is left of any quota is discarded, and the next one is numbered (R179, R180). -/
def newRound (s : State) : State :=
  (((Map.keys s.queues).filter fun q => (queueInt s q).round.isSome).foldl (fun t q =>
    let t := updQueue t q fun x => { x with round := none }
    if t.rd WQ_CTX.quota q = 0 then t else deltaQueue (t.wr WQ_CTX.quota 0 q) q) s).count WQ_ROUND.round

/-- Ascending order starting after the last one served, wrapping (R180, R265). -/
def nextAfter (last : Option Nat) (xs : List Nat) : Option Nat :=
  match last with
  | none => xs.head?
  | some l => match xs.find? fun x => decide (l < x) with
    | some x => some x
    | none => xs.head?

/-- The queue that the arbiter visits next, with a new round where none that takes part has quota left; a queue whose visit
is still under way keeps its place in the round (R180). -/
def chooseQueue (s : State) : Option (Nat × State) :=
  let qs := (liveQueues s).filter (takesPart s)
  let free := qs.filter fun q => !inVisit s q
  if qs.any fun q => decide (0 < quotaNow s q) then
    (nextAfter s.lastQueue (free.filter fun q => decide (0 < quotaNow s q))).map fun q => (q, s)
  else (nextAfter s.lastQueue free).map fun q => (q, newRound s)

/-- A visit to a queue: a pushed copy is accepted first, and then the ring is read (R179, R182, R183). -/
def visit (s : State) (q : Nat) : State :=
  let refuse := refuses s (queueAccount s q)
  let s := if s.rd WQ_CTX.quota q = quotaNow s q then s else deltaQueue (s.wr WQ_CTX.quota (quotaNow s q) q) q
  let s := { updQueue s q (fun x => { x with round := some (s.rd WQ_ROUND.round) }) with lastQueue := some q }
  let allow := min (s.rd WQ_CTX.burst_m1 q + 1) (s.rd WQ_CTX.quota q)
  let r := s.rd WQ_CTX.cq_ring q
  match (queueInt s q).pushed with
  | none => startFetch s q (s.rd WQ_CTX.fetch_idx q) allow refuse none false
  | some (idx, raw) =>
    if placeCause s r ≠ 0 then ringStall s r (placeCause s r)
    else
      let s := updQueue s q fun x => { x with pushed := none }
      let s := acceptEntry { s with pushHeld := s.pushHeld - 1 } q idx raw refuse
      let s := deltaQueue (s.wr WQ_CTX.quota (s.rd WQ_CTX.quota q - 1) q) q
      if decide (1 < allow) && decide (s.rd WQ_CTX.fetch_idx q ≠ s.rd WQ_CTX.dev_prod q) && !hurdleHolds s q then
        startFetch s q (s.rd WQ_CTX.fetch_idx q) (allow - 1) refuse none false
      else s

/-! ### Doorbells and pushes (R140 to R152, R188, R189) -/

/-- The groups that a function owns, ascending (R188). -/
def groupsOf (s : State) (f : Nat) : List Nat :=
  (listedMembers s WQ_GROUP_OWNER.valid).filter fun g => queueOwned s (32 * g) && decide (queueFn s (32 * g) = f)

/-- An offset lies in a function's BAR2 (R795). -/
def inBar2 (s : State) (f off : Nat) : Bool :=
  if f < 8 then decide (off < 0x800000)
  else decide (off < 0x1000 * 2 ^ s.rd HIF_PF_CFG.vf_db_log2 ((pfOf s f).getD 0))

/-- The queue whose doorbell slot holds an offset of a function's BAR2 (R188). -/
def doorbellQueue (s : State) (f off : Nat) : Option Nat :=
  ((groupsOf s f)[off / 0x1000]?).map fun g => 32 * g + off % 0x1000 / 0x80

/-- States in which doorbells and pushes are processed (R143, R148, R166). -/
def takesDoorbells (st : Nat) : Bool := st = qActive || st = qFrozen || st = qMigrating

/-- A doorbell that reached its queue (R142 to R144). -/
def ringDoorbell (s : State) (q value : Nat) : State :=
  let prod := bitsAt value 0 32
  if !takesDoorbells (queueState s q) || decide (bitsAt value 32 8 ≠ s.rd WQ_CTX.gen q) then s.count WQ_DB_IGNORED.count
  else if 2 ^ 31 ≤ subMod 32 prod (s.rd WQ_CTX.dev_prod q) then s.count WQ_DB_IGNORED.count
  else if queueSlots s q < subMod 32 prod (s.rd WQ_CTX.done_head q) then queueError s q 0x01 0
  else deltaQueue (s.wr WQ_CTX.dev_prod prod q) q

/-- A 64-byte push that reached its queue (R146, R148, R149, R152).  A PAD carries no sequence number, so that a pushed one is
never taken (R136). -/
def takePush (s : State) (q image : Nat) : State :=
  let size := bitsAt image 8 4
  let tag := bitsAt image 32 32
  let prod := s.rd WQ_CTX.dev_prod q
  if !takesDoorbells (queueState s q) then s.count WQ_DB_IGNORED.count
  else if size = 0 ∨ 2 < size then queueError s q 0x03 tag
  else if toRingEnd s q prod < size then queueError s q 0x02 tag
  else if queueSlots s q < subMod 32 (prod + size) (s.rd WQ_CTX.done_head q) then queueError s q 0x01 tag
  else
    let taken := decide (queueState s q = qActive) && decide (s.rd WQ_CTX.fetch_idx q = prod) && decide (bitsAt image 0 8 ≠ 0x7F)
      && decide (bitsAt image 16 16 = expectedSseq s q) && decide (s.pushHeld < 256)
      && (queueInt s q).pushed.isNone
    let s := deltaQueue (s.wr WQ_CTX.dev_prod (addMod 32 prod size) q) q
    if taken then
      { updQueue (s.count WQ_PUSH_TAKEN.count) q (fun x => { x with pushed := some (prod, image % 2 ^ (256 * size)) }) with
        pushHeld := s.pushHeld + 1 }
    else s.count WQ_PUSH_DEFER.count

/-! ### The status block (R200 to R204) -/

/-- Bytes 0x04 to 0x3F of the status block of a queue (R200). -/
def statusBody (s : State) (q : Nat) : Bytes :=
  let x := queueInt s q
  leBytes 4 (s.rd WQ_CTX.accept_index q)
    ++ leBytes 2 (s.rd WQ_CTX.accepted_sseq q) ++ leBytes 2 x.doneSseq
    ++ leBytes 4 (queueState s q + (s.rd WQ_CTX.err_cause q) <<< 8 + (flag (s.on CQ_CTX.stalled (s.rd WQ_CTX.cq_ring q))) <<< 16)
    ++ leBytes 4 (s.rd WQ_CTX.err_tag q)
    ++ leBytes 2 (satNat 65535 (backlogOf s q)) ++ leBytes 2 x.sbSeq
    ++ leBytes 8 (now s) ++ leBytes 32 0

/-- The QUEUE_CTL STOP entries and the WQ_QCMD STOP that wait for a queue end OK (R174, R190). -/
def stopReached (s : State) (q : Nat) : State :=
  let s := (liveQueues s).foldl (fun t h => (queueInt t h).entries.foldl (fun u e =>
    if e.waitsFor = some q then finish u h e.sseq { status := stOk } else u) t) s
  if s.qcmdStop = some q then
    { (s.wr WQ_QCMD.busy 0).wr WQ_QCMD.result stOk with qcmdStop := none }
  else s

/-- One update of the status block, in its stages: bytes 0x04 to 0x3F, then done_head; a STOPPING queue whose last
retirement the block then shows becomes STOPPED (R201, R203, R234). -/
def writeStatus (s : State) (q addr : Nat) : State :=
  let f := queueFn s q
  let stall := s.on CQ_CTX.stalled (s.rd WQ_CTX.cq_ring q)
  let s := updQueue s q fun x => { x with sbSeq := addMod 16 x.sbSeq 1, sbDirty := false, stallSeen := stall }
  let head := s.rd WQ_CTX.done_head q
  let s := publish s (.write f (addr + 4) (statusBody s q))
  let s := updQueue (publish s (.write f addr (leBytes 4 head))) q fun x => { x with sbHead := head }
  if queueState s q = qStopping && (queueInt s q).entries.isEmpty then stopReached (setQueueState s q qStopped) q else s

/-- The status block of a queue is written, where its function may write and its address translates (R163, R809). -/
def updateStatus (s : State) (q : Nat) : State :=
  let f := queueFn s q
  if !fnLive s f then s
  else match translate s f (s.on WQ_CTX.ats q) (s.rd WQ_CTX.status_addr q) true with
    | .ok a => writeStatus s q a
    | .miss => requestTranslation s f (s.rd WQ_CTX.status_addr q)
    | .fault => queueError (updQueue (faultTaken s f) q fun x => { x with sbDirty := false }) q 0x07 0

end Sys2Proof.Machine
end

