-- ==== Sys2Proof/Machine/QueueCommands.lean ====
section
/-! DEFINITION. The commands of work queues, records, hurdles and aborts. -/
namespace Sys2Proof.Machine

/-! ### Doorbells, pushes, fetches -/

/-- PAIR_CNT[n] counters that a standby advances for what it ignores (R910). -/
def standbyIgnores (s : State) (n : Nat) : State := s.count PAIR_CNT.count 1 n

/-- DOORBELL: a write to a function's BAR2 outside the push slots (R141 to R144, R189, R910). -/
def execDoorbell (fn off len value : Nat) (s : State) : Out :=
  run s fun s =>
    if !inBar2 s fn off then s
    else if standby s then standbyIgnores s 4
    else match doorbellQueue s fn off with
      | none => s.count WQ_DB_IGNORED.count
      | some q =>
        if 0x40 ≤ off % 0x80 then
          (if takesDoorbells (queueState s q) then queueError s q 0x06 0 else s.count WQ_DB_IGNORED.count)
        else if len = 8 ∧ off % 0x80 = 0 then ringDoorbell s q value
        else s.count WQ_DB_IGNORED.count

/-- PUSH: a write to the push slot of a queue (R146 to R152, R189, R795, R910). -/
def execPush (fn off len image : Nat) (s : State) : Out :=
  run s fun s =>
    if !inBar2 s fn off then s
    else if standby s then standbyIgnores s 4
    else match doorbellQueue s fn off with
      | none => s.count WQ_DB_IGNORED.count
      | some q =>
        if off % 0x80 < 0x40 then s.count WQ_DB_IGNORED.count
        else if len = 64 ∧ off % 0x80 = 0x40 then takePush s q image
        else if takesDoorbells (queueState s q) then queueError s q 0x06 0
        else s.count WQ_DB_IGNORED.count

/-- ARBITRATION_VISIT: the arbiter decides a visit (R178 to R183). -/
def execArbitrationVisit (s : State) : Out :=
  run s fun s =>
    match chooseQueue s with
    | none => s
    | some (q, s) => visit s q

/-- A ring read that failed: repeated once, and then an error (R162). -/
def fetchFailed (s : State) (q : Nat) (fe : Fetch) : State :=
  if fe.retried then queueError s q 0x05 0
  else startFetch (s.count WQ_FETCH_RETRY.count) q fe.start fe.allow fe.refuse fe.reread true

/-- A ring read of the queue is outstanding. -/
def fetchOut (s : State) (q : Nat) : Bool := s.hif.reqs.any fun r => decide (r.owner = .ringFetch q)

/-- FETCH_COMPLETION: the completion of a ring read, with its data when it is good (R160, R162); a read that still waits for
its translation or a tag is issued once it can be (R802, R818). -/
def execFetchCompletion (q : Nat) (ok : Bool) (data : List Byte) (s : State) : Out :=
  run s fun s =>
    let out := fetchOut s q
    let s := endRead s (.ringFetch q)
    match (queueInt s q).fetch with
    | none => s
    | some fe =>
      let s1 := updQueue s q fun x => { x with fetch := none }
      if queueState s q ≠ qActive then s1
      else if !out then issueFetch s q
      else if ok && fnLive s (queueFn s q) then readEntries q fe data fe.slots s1 0 fe.allow
      else fetchFailed s1 q fe

/-- PAD: once the producer has passed the end of the ring, fetch_idx moves to the start of the ring and the visit goes
on there (R135 to R137, R185, R197). -/
def execPadEntry (q : Nat) (s : State) : Out :=
  run s fun s =>
    match (queueInt s q).padAt with
    | none => s
    | some idx =>
      let n := toRingEnd s q idx
      if subMod 32 (s.rd WQ_CTX.dev_prod q) idx < n || (queueInt s q).fetch.isSome then s
      else
        let e := addMod 32 idx n
        let allow := (queueInt s q).padAllow
        let s := updQueue (deltaQueue (s.wr WQ_CTX.fetch_idx e q) q) q fun x => { x with padAt := none, pads := x.pads ++ [(idx, e)] }
        let s := passPads s q
        if decide (0 < allow) && decide (s.rd WQ_CTX.dev_prod q ≠ e) && decide (queueState s q = qActive) then
          startFetch s q e allow (queueInt s q).padRefuse none false
        else s

/-- NOP: retires OK with no action (R157). -/
def execNopEntry (q sseq : Nat) (s : State) : Out :=
  run s fun s =>
    match beginnable s q sseq 0x00 with
    | none => s
    | some _ => finish (begin_ s q sseq) q sseq { status := stOk }

/-! ### QUEUE_CTL and WQ_QCMD (R172 to R174, R190, R191) -/

/-- The target queue of a QUEUE_CTL entry. -/
def ctlTarget (e : Entry) : Nat := bitsAt (e.word 2) 0 16
/-- The action of a QUEUE_CTL entry. -/
def ctlAction (e : Entry) : Nat := bitsAt (e.word 2) 16 4

/-- A QUEUE_CTL entry with its action, begun; an entry that R173 refuses finishes INVALID_ENTRY. -/
def queueCtl (s : State) (q sseq action : Nat) (allowed : Nat → Bool) (act : State → Nat → State) : State :=
  match beginnable s q sseq 0x03 with
  | none => s
  | some e =>
    let t := ctlTarget e
    if ctlAction e ≠ action ∧ ctlAction e ≤ 2 then s
    else
      let s := begin_ s q sseq
      if !(decide (ctlAction e ≤ 2) && decide (t ≠ q) && ctlOwnerOk s q t && allowed t) then
        finish s q sseq { status := stInvalid }
      else if namesQuiesced s q t then finish s q sseq { status := stMigrationFrozen }
      else act s t

/-- QUEUE_CTL START (R172 to R174). -/
def execQueueCtlStart (q sseq : Nat) (s : State) : Out :=
  run s fun s => queueCtl s q sseq 0 (startAllowed s) fun s t => finish (startQueue s t) q sseq { status := stOk }

/-- QUEUE_CTL STOP: it waits until the target is STOPPED (R172 to R174). -/
def execQueueCtlStop (q sseq : Nat) (s : State) : Out :=
  run s fun s => queueCtl s q sseq 1 (fun t => stoppable (queueState s t)) fun s t =>
    stopQueue (updEntry s q sseq fun e => { e with waitsFor := some t }) t

/-- QUEUE_CTL RESET (R171 to R174). -/
def execQueueCtlReset (q sseq : Nat) (s : State) : Out :=
  run s fun s => queueCtl s q sseq 2 (fun t => queueState s t = qStopped) fun s t =>
    finish (resetQueue s t) q sseq { status := stOk }

/-- A WQ_QCMD action of PF 0 or a steward: ignored while one is in progress (R190, R191). -/
def queueCommand (who : Initiator) (queue action : Nat) (s : State) (allowed : Bool) (act : State → State) : State :=
  setupWrite WQ_QCMD.go 0 1 who s fun s =>
    if s.on WQ_QCMD.busy then s.wr (lockedWriteField .wq) 1
    else
      let s := (s.wr WQ_QCMD.queue queue).wr WQ_QCMD.action action
      if allowed then act s else s.wr WQ_QCMD.result stInvalid

/-- QCMD_START (R190). -/
def execQcmdStart (who : Initiator) (queue : Nat) (s : State) : Out :=
  run s fun s => queueCommand who queue 0 s (startAllowed s queue) fun s => (startQueue s queue).wr WQ_QCMD.result stOk

/-- QCMD_STOP: busy until the target is STOPPED (R190). -/
def execQcmdStop (who : Initiator) (queue : Nat) (s : State) : Out :=
  run s fun s => queueCommand who queue 1 s (stoppable (queueState s queue)) fun s =>
    stopQueue { s.wr WQ_QCMD.busy 1 with qcmdStop := some queue } queue

/-- QCMD_RESET (R171, R190). -/
def execQcmdReset (who : Initiator) (queue : Nat) (s : State) : Out :=
  run s fun s => queueCommand who queue 2 s (decide (queueState s queue = qStopped)) fun s =>
    (resetQueue s queue).wr WQ_QCMD.result stOk

/-! ### Context windows (R175, R176, R187, R239, R240) -/

/-- A read of a function's BAR2 returns 0 whatever it reads (R141); no row of the table reads BAR2. -/
def doorbellRead (_fn _off : Nat) (s : State) : State := answer s 0

/-- A field that a PF other than 0 may write in a queue context (R176). -/
def pfMayWriteQueueField (d : Desc) : Bool :=
  d = WQ_CTX.ring_base || d = WQ_CTX.status_addr || d = WQ_CTX.log2_slots || d = WQ_CTX.start_idx
    || d = WQ_CTX.next_sseq || d = WQ_CTX.gen

/-- A field that a PF other than 0 may write in a ring context (R240). -/
def pfMayWriteRingField (d : Desc) : Bool :=
  !(d = CQ_CTX.pf || d = CQ_CTX.is_vf || d = CQ_CTX.vf || d = CQ_CTX.valid)

/-- The writable fields that a write would change (R967). -/
def changedWritable (s : State) (b : Blk) (addr len value : Nat) : List FieldRef :=
  (coveredIn b addr len).filter fun r => decide (r.desc.acc = .rw) && changes s addr len value r

/-- A write to a context window: refused as a whole for rights it lacks or for a class X field in use, else taken field
by field.  `mine` says that the writer's PF may write the context, `may` which fields it may change there. -/
def contextWrite (who : Initiator) (b : Blk) (addr len value : Nat) (inUse mine : Bool) (may : Desc → Bool)
    (dropped : Desc) (s : State) : State :=
  let ch := changedWritable s b addr len value
  let bad := match who with
    | .host 0 => false
    | .host _ => !ch.isEmpty && (!mine || ch.any fun r => !may r.desc)
    | _ => false
  if bad then s.count dropped
  else if inUse && ch.any fun r => decide (r.desc.cls = .static) then s.wr (lockedWriteField b) 1
  else ch.foldl (fun t r => t.wr r.desc (mergedValue r addr len value (r.value t)) r.i r.j) s

/-- The PF number of a host initiator owns the function. -/
def hostOwns (s : State) (who : Initiator) (f : Nat) : Bool :=
  match who with
  | .host p => decide (p < 8) && ownedByPf s p f
  | _ => true

/-- VFs and relay threads reach no context window, and a host access to one is 4 or 8 bytes wide and aligned (R176, R240,
R799). -/
def hostAccessOk (who : Initiator) (addr len : Nat) : Bool :=
  match who with
  | .host f => decide (f < 8) && (decide (len = 4) || decide (len = 8)) && decide (addr % len = 0)
  | .steward _ => true
  | .relay _ => false

/-- The effect of QUEUE_CONTEXT_WRITE at an offset of a queue's context. -/
def writeQueueContext (who : Initiator) (q off len value : Nat) (s : State) : State :=
  let addr := 0x01400000 + q % 65536 * 0x40 + off % 0x40
  if !hostAccessOk who addr len then dropAccess s who
  else barWrite who addr len value s fun s =>
    let s1 := contextWrite who .wq addr len value (decide (queueState s q ≠ qDisabled))
      (queueOwned s q && hostOwns s who (queueFn s q)) pfMayWriteQueueField WQ_PRIV_DROP.count s
    if s1.regs = s.regs then s1 else deltaQueue (shadowQueue s1 q) q

/-- QUEUE_CONTEXT_WRITE (R175, R176). -/
def execQueueContextWrite (who : Initiator) (q off len value : Nat) (s : State) : Out :=
  run s fun s => writeQueueContext who q off len value s

/-- A record ring is in use (R239). -/
def ringInUse (s : State) (r : Nat) : Bool := !(queuesOfRing s r).isEmpty || !(ringInt s r).backlog.isEmpty

/-- The effect of RING_CONTEXT_WRITE at an offset of a ring's context. -/
def writeRingContext (who : Initiator) (r off len value : Nat) (s : State) : State :=
  let addr := 0x01800000 + r % 16384 * 0x40 + off % 0x40
  if !hostAccessOk who addr len then dropAccess s who
  else barWrite who addr len value s fun s =>
    let s1 := contextWrite who .cq addr len value (ringInUse s r)
      (s.on CQ_CTX.valid r && hostOwns s who (ringFn s r)) pfMayWriteRingField CQ_PRIV_DROP.count s
    if s1.regs = s.regs then s1 else deltaRing (shadowRing s1 r) r

/-- RING_CONTEXT_WRITE (R239, R240). -/
def execRingContextWrite (who : Initiator) (r off len value : Nat) (s : State) : Out :=
  run s fun s => writeRingContext who r off len value s

/-- An ownership word of a block: PF, is_vf, VF and valid (R190 and the like). -/
def writeOwner (s : State) (pf isVf vf valid : Desc) (i value : Nat) : State :=
  (((s.wr pf (bitsAt value 0 3) i).wr isVf (bitsAt value 3 1) i).wr vf (bitsAt value 4 12) i).wr valid (bitsAt value 16 1) i

/-- The ownership word of a block as it stands. -/
def ownerWord (s : State) (pf isVf vf valid : Desc) (i : Nat) : Nat :=
  s.rd pf i + (s.rd isVf i) <<< 3 + (s.rd vf i) <<< 4 + (s.rd valid i) <<< 16

/-- GROUP_OWNER_WRITE: only while every queue of the group is DISABLED (R187). -/
def execGroupOwnerWrite (who : Initiator) (group value : Nat) (s : State) : Out :=
  run s fun s => setupWrite WQ_GROUP_OWNER.pf group value who s fun s =>
    let g := group % 2048
    let same := decide (ownerWord s WQ_GROUP_OWNER.pf WQ_GROUP_OWNER.is_vf WQ_GROUP_OWNER.vf WQ_GROUP_OWNER.valid g
      = value % 2 ^ 17)
    if same then s
    else if (List.range 32).all fun j => queueState s (32 * g + j) = qDisabled then
      writeOwner s WQ_GROUP_OWNER.pf WQ_GROUP_OWNER.is_vf WQ_GROUP_OWNER.vf WQ_GROUP_OWNER.valid g value
    else s.wr (lockedWriteField .wq) 1

/-- WQ_ERRQ read: its count is returned and cleared (R190). -/
def execWqErrqRead (who : Initiator) (s : State) : Out :=
  run s fun s => managed .wq who (answer s 0) fun s =>
    (answer s (s.rd WQ_ERRQ.queue + (s.rd WQ_ERRQ.cause) <<< 16 + (s.rd WQ_ERRQ.count) <<< 24)).wr WQ_ERRQ.count 0

/-- CQ_STALLQ read: its count is returned and cleared (R243). -/
def execCqStallqRead (who : Initiator) (s : State) : Out :=
  run s fun s => managed .cq who (answer s 0) fun s =>
    (answer s (s.rd CQ_STALLQ.ring + (s.rd CQ_STALLQ.cause) <<< 14 + (s.rd CQ_STALLQ.count) <<< 24)).wr CQ_STALLQ.count 0

/-! ### Retirement -/

/-- STATUS_BLOCK_UPDATE: the status block of a queue is written (R201, R203, R234). -/
def execStatusBlockUpdate (q : Nat) (s : State) : Out :=
  run s fun s =>
    let x := queueInt s q
    if x.sbDirty || x.stallSeen ≠ s.on CQ_CTX.stalled (s.rd WQ_CTX.cq_ring q)
        || (queueState s q = qStopping && x.entries.isEmpty) then updateStatus s q else s

/-- The interval for reading consumer words, in ns: one below 100 is treated as 100 (R209, R243). -/
def pollNs (s : State) : Nat := max 100 (s.rd CQ_POLL.interval_ns)

/-- The consumer word of a ring is read now: a record has found the ring full, or the ring has a backlog or is stalled and
the interval has passed, counted in ticks of the 125 MHz clock (R209). -/
def pollDue (s : State) (r : Nat) : Bool :=
  let x := ringInt s r
  x.pollNow || ((!x.backlog.isEmpty || s.on CQ_CTX.stalled r) && decide (x.pollAt * 8 + pollNs s ≤ s.tt.ticks * 8))

/-- CONSUMER_POLL: the consumer word of a ring is read (R209, R210), the backlog drains and stalls end. -/
def execConsumerPoll (r : Nat) (ok : Bool) (value : Nat) (s : State) : Out :=
  run s fun s =>
    if !ok || !s.on CQ_CTX.valid r || !fnLive s (ringFn s r) || !pollDue s r then s
    else
      let s := updRing s r fun x => { x with pollNow := false, pollAt := s.tt.ticks }
      let c := value % 2 ^ 32
      if 2 ^ 31 ≤ subMod 32 c (s.rd CQ_CTX.cons_seen r) ∨ ringSlots s r < subMod 32 (s.rd CQ_CTX.prod r) c then
        s.count CQ_CONS_BAD.count
      else endStalls (drainRing (deltaRing (s.wr CQ_CTX.cons_seen c r) r) r)

/-- MODERATION_TIMER: the time condition of a ring is met (R220, R223). -/
def execModerationTimer (r : Nat) (s : State) : Out :=
  run s fun s => if moderationDue s r then ringInterrupt s r else s

/-- The zero-length read on a link for an entry's writes has completed: its retirement and the hurdles that cover it learn
of it (R249, R252). -/
def flushedEntry (s : State) (link q sseq : Nat) : State :=
  let s := updEntry s q sseq fun e => { e with flushed := if e.flushed.contains link then e.flushed else e.flushed ++ [link] }
  let s := updQueue s q fun x => { x with unflushed := x.unflushed.filter fun p => decide (p ≠ (sseq, link)) }
  let hit := fun c : Cover => decide (c.queue = q) && decide (c.sseq = sseq)
  let s := (liveQueues s).foldl (fun t h => updQueue t h fun x => { x with
    entries := x.entries.map fun y => { y with
      covers := mapIf hit (fun c => { c with links := c.links.filter fun l => decide (l ≠ link) }) y.covers } }) s
  retireQueue s q

/-! ### Hurdles (R254 to R262) -/

/-- HURDLE: the entry begins to wait for what its acceptance found to be covered (R255 to R260). -/
def execHurdleEntry (q sseq : Nat) (s : State) : Out :=
  run s fun s =>
    match beginnable s q sseq 0x01 with
    | none => s
    | some e => flushCovers (begin_ s q sseq) e.covers

/-- HURDLE_FINISH: everything covered has finished; extra carries the nanoseconds from acceptance (R260, R261). -/
def execHurdleFinish (q sseq : Nat) (s : State) : Out :=
  run s fun s =>
    match entryOf s q sseq with
    | none => s
    | some e =>
      if e.op = 1 && e.begun && e.outcome.isNone && e.decided.isNone && coversDone e then
        finish s q sseq { status := stOk, extra := satNat (2 ^ 32 - 1) (now s - e.acceptTt) }
      else s

/-! ### Aborts (R224 to R230) -/

/-- ABORT: its request is sent to the target's retirement unit (R225 to R227, R827). -/
def execAbortEntry (q sseq : Nat) (s : State) : Out :=
  run s fun s =>
    match beginnable s q sseq 0x02 with
    | none => s
    | some e =>
      let t := bitsAt (e.word 2) 0 16
      let s := begin_ s q sseq
      if !ctlOwnerOk s q t then finish s q sseq { status := stInvalid }
      else if namesQuiesced s q t then finish s q sseq { status := stMigrationFrozen }
      else { s with abortReqs := s.abortReqs ++ [⟨q, sseq, t, e.word 3⟩] }

/-- The entry that an abort request matches (R226). -/
def abortMatch (s : State) (t tag : Nat) : Option Entry :=
  (queueInt s t).entries.find? fun e => decide (e.tag = tag) && !(e.op = 1 || e.op = 2 || e.op = 3)

/-- ABORT_REQUEST_ARRIVAL: the request reaches the target's retirement unit and both outcomes are decided (R227, R228). -/
def execAbortRequestArrival (q sseq : Nat) (s : State) : Out :=
  run s fun s =>
    match s.abortReqs.find? fun a => decide (a.queue = q) && decide (a.sseq = sseq) with
    | none => s
    | some a =>
      let s := { s with abortReqs := s.abortReqs.filter fun x => decide (x ≠ a) }
      match abortMatch s a.target a.tag with
      | none => finish s q sseq { status := stAbortNotFound }
      | some e =>
        if e.decided.isSome then finish s q sseq { status := stAbortLate }
        else
          let s := finish s q sseq { status := stOk }
          let s := if e.begun then stopBegun s a.target e stAborted
            else decideEntry s a.target e { status := stAborted, bytes := e.moved }
          retireQueue s a.target

end Sys2Proof.Machine
end

