-- ==== Sys2Proof/Machine/Channels.lean ====
section
/-! DEFINITION. Relay threads as agents, their states and events, and the baton channels (R660 to R690). -/
namespace Sys2Proof.Machine

/-! ### Agents: relay threads 0 to 511 and stewards 512 to 515 -/

/-- Thread states (R660). -/
def thStopped : Nat := 0
/-- READY. -/
def thReady : Nat := 1
/-- WAIT. -/
def thWait : Nat := 2
/-- HALTED. -/
def thHalted : Nat := 3
/-- FAULTED. -/
def thFaulted : Nat := 4

/-- The agent is a relay thread. -/
def isThread (a : Nat) : Bool := decide (a < 512)
/-- The relay core of a thread. -/
def coreOf (t : Nat) : Nat := t / 8
/-- The cluster of a thread. -/
def clusterOf (t : Nat) : Nat := t / 64

/-- The shared part of an agent. -/
def agentInt (s : State) (a : Nat) : AgentInt := Map.get s.rly.agents a
/-- A change of it. -/
def updAgent (s : State) (a : Nat) (f : AgentInt → AgentInt) : State :=
  { s with rly := { s.rly with agents := Map.upd s.rly.agents a f } }
/-- The typed part of a thread. -/
def threadInt (s : State) (t : Nat) : ThreadInt := Map.get s.rly.threads t
/-- A change of it. -/
def updThread (s : State) (t : Nat) (f : ThreadInt → ThreadInt) : State :=
  { s with rly := { s.rly with threads := Map.upd s.rly.threads t f } }
/-- The typed part of a steward, by its number 0 to 3. -/
def stewardInt (s : State) (k : Nat) : StewardInt := Map.get s.rly.stewards k
/-- A change of it. -/
def updSteward (s : State) (k : Nat) (f : StewardInt → StewardInt) : State :=
  { s with rly := { s.rly with stewards := Map.upd s.rly.stewards k f } }

/-- A general register; g0 reads as 0 (R708). -/
def greg (s : State) (a r : Nat) : Nat := if r % 32 = 0 then 0 else Map.get (agentInt s a).g (r % 32)
/-- A general register written; a write to g0 is discarded (R708). -/
def setGreg (s : State) (a r v : Nat) : State :=
  if r % 32 = 0 then s else updAgent s a fun x => { x with g := Map.set x.g (r % 32) (v % 2 ^ 64) }

/-- The pc of an agent. -/
def agentPc (s : State) (a : Nat) : Nat := (agentInt s a).pc
/-- The pc set, 48 bits (R708). -/
def setPc (s : State) (a pc : Nat) : State := updAgent s a fun x => { x with pc := pc % 2 ^ 48 }

/-- The account that an agent's work is charged to (R668); 0 for a steward. -/
def agentAccount (s : State) (a : Nat) : Nat := if isThread a then (threadInt s a).account else 0

/-- The state code of a thread. -/
def threadState (s : State) (t : Nat) : Nat := s.rd RLY_THCTX.state t
/-- The state code set. -/
def setThreadState (s : State) (t st : Nat) : State := s.wr RLY_THCTX.state st t

/-! ### Starting, stopping and waking (R664 to R669, R696) -/

/-- The core of a thread is not found stalled now; the detector counts anew and may record it again (R693). -/
def unstall (s : State) (t : Nat) : State :=
  { s with rly := { s.rly with
    stalled := s.rly.stalled.filter fun c => decide (c ≠ coreOf t)
    stallFor := Map.set s.rly.stallFor (coreOf t) 0 } }

/-- A thread enters READY out of STOPPED or WAIT; without eligibility it is held (R669). -/
def makeReady (s : State) (t : Nat) : State :=
  let s := unstall s t
  let held := !eligible s (threadInt s t).account
  (setThreadState (updThread s t fun x => { x with wait := .none }) t thReady).wr RLY_THCTX.budget_held (flag held) t

/-- RLY_CHAN shows a channel's queue, credits and blocked threads (R705). -/
def syncChan (s : State) (ch : Nat) : State :=
  let n := (Map.get s.rly.chans ch).length
  let s := (s.wr RLY_CHAN.queued n ch).wr RLY_CHAN.credits (16 - n) ch
  (s.wr RLY_CHAN.receivers (min 15 (Map.get s.rly.receivers ch).length) ch).wr RLY_CHAN.senders
    (min 15 (Map.get s.rly.senders ch).length) ch

/-- A thread leaves the receiver queue or the blocked senders of the channel it waits on (R667, R696). -/
def leaveWait (s : State) (t : Nat) : State :=
  let out := fun l : List Nat => l.filter fun x => decide (x ≠ t)
  match (threadInt s t).wait with
  | .recv ch _ =>
    syncChan (updThread { s with rly := { s.rly with receivers := Map.upd s.rly.receivers ch out } } t
      fun x => { x with wait := .none }) ch
  | .send ch _ =>
    syncChan (updThread { s with rly := { s.rly with senders := Map.upd s.rly.senders ch out } } t
      fun x => { x with wait := .none }) ch
  | _ => updThread s t fun x => { x with wait := .none }

/-- A load whose result is discarded when its data returns (R667). -/
def discardLoad (l : Load) : Load := { l with rd := 0, regs := 0 }

/-- A thread stops: no wait or event is left, its outstanding loads give no result, and its domain begins to idle (R660,
R665, R667). -/
def stopThread (s : State) (t : Nat) : State :=
  let s := setThreadState (leaveWait s t) t thStopped
  let s := ((s.wr RLY_THCTX.dma_ev 0 t).wr RLY_THCTX.pkt_ev 0 t).wr RLY_THCTX.timer_fired 0 t
  let s := updThread s t fun x => { x with armed := false, timer := 0 }
  let s := updAgent s t fun x => { x with loads := x.loads.map discardLoad, fence := false, touched := [] }
  let s := if (List.range 8).all fun j =>
      decide (threadState s (coreOf t * 8 + j) = thStopped ∨ threadState s (coreOf t * 8 + j) = thFaulted) then unstall s t else s
  touchDomain (s.wr RLY_THCTX.budget_held 0 t) (coreOf t)

/-- A STOPPED thread starts at the pc and with the arg of its context (R664, R668, R734); its core's domain wakes
(R117, R706). -/
def startThread (s : State) (t : Nat) : State :=
  let s := wakeDomain (wakeDomain s (64 + clusterOf t)) (coreOf t)
  let s := ((s.wr RLY_THCTX.dma_ev 0 t).wr RLY_THCTX.pkt_ev 0 t).wr RLY_THCTX.timer_fired 0 t
  let s := updThread s t fun _ => { account := s.rd RLY_THCTX.account t }
  let s := updAgent s t fun x => { pc := s.rd RLY_THCTX.pc t, loads := x.loads, hostFail := x.hostFail, hostLink := x.hostLink }
  makeReady (setGreg s t 1 (s.rd RLY_THCTX.arg t)) t

/-- A thread enters HALTED (R696, R697). -/
def haltThread (s : State) (t : Nat) : State :=
  let s := unstall (setThreadState (leaveWait s t) t thHalted) t
  raise ((s.wr RLY_THCTX.pc (agentPc s t) t).wr RLY_THCTX.budget_held 0 t) 0x182

/-! ### Unit channels (R686) -/

/-- The pipeline that takes a baton on a channel that is a reinject channel: the one named in it (R345). -/
def pipeOfChannel (s : State) (ch image : Nat) : Option Nat :=
  if s.rd PP_CFG.reinject_ch 0 = ch ∨ s.rd PP_CFG.reinject_ch 1 = ch then some (bitsAt image 3 1) else none

/-- A device unit receives on the channel (R686). -/
def unitChannel (s : State) (ch : Nat) : Bool :=
  (pipeOfChannel s ch 0).isSome || decide (s.rd BLK_CFG.reply_ch = ch)

/-- A receiving unit takes a baton as soon as it is queued (R686). -/
def unitTake (s : State) (ch : Nat) (b : Baton) : State :=
  match pipeOfChannel s ch b.image with
  | some p => { s with rly := { s.rly with reinject := Map.upd s.rly.reinject p fun l => l ++ [b] } }
  | none => { s with rly := { s.rly with replies := s.rly.replies ++ [b] } }

/-! ### Staging and receive areas (R677) -/

/-- The local memory of a core in global SRAM (R28). -/
def localBase (core : Nat) : Nat := sramBase + 0x07A00000 + core * 0x40000
/-- The offset in local memory of the staging area of thread `j` of a core. -/
def stagingOff (j : Nat) : Nat := 0x3FC00 + j * 0x80
/-- The send staging area of a thread in global SRAM. -/
def stagingAddr (t : Nat) : Nat := localBase (coreOf t) + stagingOff (t % 8)
/-- The receive area of a thread in global SRAM. -/
def receiveAddr (t : Nat) : Nat := stagingAddr t + 0x40
/-- The 64 bytes of a thread's send staging area. -/
def stagingImage (s : State) (t : Nat) : Nat := ofLe (memLoad s (stagingAddr t) 64)

/-! ### Events (R687 to R690) -/

/-- A channel holds a baton that a watching thread sees (R686, R687). -/
def watchShows (s : State) (w : Nat) : Bool :=
  let ch := bitsAt w 0 12
  w.testBit 12 && !unitChannel s ch && !(Map.get s.rly.chans ch).isEmpty

/-- The mask of a thread's event sources that are ready (R688). -/
def readyMask (s : State) (t : Nat) : Nat :=
  let x := threadInt s t
  let ch := (List.range 4).any fun i => watchShows s (Map.get x.watch i)
  flag ch + 2 * flag (s.on RLY_THCTX.timer_fired t) + 4 * flag (s.on RLY_THCTX.dma_ev t)
    + 8 * flag (s.on RLY_THCTX.pkt_ev t)

/-- A waiting instruction completes: its result is written and the thread goes on after it. -/
def completeWait (s : State) (t rd v : Nat) : State :=
  makeReady (setPc (setGreg s t rd v) t (agentPc s t + 4)) t

/-- A thread in WAIT whose selected source is ready wakes (R688). -/
def wakeIfReady (s : State) (t : Nat) : State :=
  match (threadInt s t).wait with
  | .events mask rd =>
    if threadState s t = thWait ∧ readyMask s t &&& mask ≠ 0 then completeWait s t rd (readyMask s t &&& mask) else s
  | _ => s

/-- Every thread of a channel's home cluster that watches it wakes, when a baton is queued (R687). -/
def wakeWatchers (s : State) (ch : Nat) : State :=
  ((Map.keys s.rly.threads).filter fun t => decide (clusterOf t = ch / 512)).foldl wakeIfReady s

/-- A DMA event reaches a thread (R687, R690). -/
def dmaEvent (s : State) (t : Nat) : State :=
  if threadState s t = thStopped then s else wakeIfReady (s.countSat RLY_THCTX.dma_ev 1 t) t

/-- A packet event reaches a thread (R687, R690). -/
def packetEvent (s : State) (t : Nat) : State :=
  if threadState s t = thStopped then s else wakeIfReady (s.countSat RLY_THCTX.pkt_ev 1 t) t

/-! ### Credits and batons (R679 to R684) -/

/-- A pipeline's slow-path unit as a source; the flow-table units and the block unit follow. -/
def srcSlow (pipe : Nat) : Nat := 512 + pipe
/-- The flow-table units as a source. -/
def srcFlow : Nat := 514
/-- The block unit as a source. -/
def srcBlock : Nat := 515

/-- The slow path of a pipeline waits for a credit of a channel (R343). -/
def slowWaits (s : State) (pipe ch : Nat) : Bool :=
  (Map.get s.pp.slow pipe).any fun x => decide (x.channel = ch)

/-- The sources that request a credit of a channel: blocked threads and waiting units (R680). -/
def requesters (s : State) (ch : Nat) : List Nat :=
  Map.get s.rly.senders ch ++ ((List.range 2).filter fun p => slowWaits s p ch).map srcSlow
    ++ (if blkWaits s ch then [srcBlock] else [])

/-- The source that a channel grants a credit to in a cycle with these requesters: the next one in ascending order after
the source last granted (R680). -/
def grantWinner (s : State) (ch : Nat) (rs : List Nat) : Option Nat :=
  if 16 ≤ (Map.get s.rly.chans ch).length then none
  else
    let last := Map.get s.rly.lastGrant ch
    let asc := (List.range 516).filter rs.contains
    match asc.find? fun r => decide (last ≤ r) with
    | some r => some r
    | none => asc.head?

/-- A baton in a thread's receive area (R683). -/
def receiveBaton (s : State) (t : Nat) (b : Baton) : State := memStore s (receiveAddr t) (leBytes 64 b.image)

/-- A baton that has a credit enters its channel as a whole (R681, R684, R686). -/
def putBaton (s : State) (ch : Nat) (b : Baton) : State :=
  let s := { s with rly := { s.rly with lastGrant := Map.set s.rly.lastGrant ch (b.source + 1) } }
  if unitChannel s ch then unitTake s ch b
  else match Map.get s.rly.receivers ch with
    | t :: _ =>
      match (threadInt s t).wait with
      | .recv _ rd => completeWait (receiveBaton (leaveWait s t) t b) t rd 0
      | _ => leaveWait s t
    | [] =>
      wakeWatchers (syncChan { s with rly := { s.rly with chans := Map.upd s.rly.chans ch fun l => l ++ [b] } } ch) ch

/-- A thread that has been granted a credit sends its staging area; the sending is charged to it, with the fabric flit of a
baton that leaves its cluster (R81, R83, R681). -/
def sendStaged (s : State) (t ch : Nat) : State :=
  let s := activity s (coreOf t) 0 4 1 (agentAccount s t)
  let s := if ch / 512 = clusterOf t && !unitChannel s ch then s else fabricFlits s 64 (agentAccount s t)
  putBaton s ch ⟨stagingImage s t, t⟩

/-- A blocked thread is granted a credit: its BSEND completes (R682). -/
def grantThread (s : State) (t ch : Nat) : State :=
  match (threadInt s t).wait with
  | .send _ rd => completeWait (sendStaged (leaveWait s t) t ch) t rd 0
  | _ => s

/-- One cycle of a channel without a new request: a blocked thread that wins is granted (R680). -/
def grantCycle (s : State) (ch : Nat) : State :=
  match grantWinner s ch (requesters s ch) with
  | some r => if isThread r then grantThread s r ch else s
  | none => s

/-- A device unit requests a credit for a baton in one cycle; none when it is not granted one (R680, R686).  The baton's
fabric flit is charged to an account (R81). -/
def deviceSend (s : State) (source ch image acct : Nat) : Option State :=
  let rs := requesters s ch
  if grantWinner s ch (if rs.contains source then rs else rs ++ [source]) = some source then
    some (putBaton (fabricFlits s 64 acct) ch ⟨image, source⟩)
  else none

/-- CREDIT_GRANT: a channel with a free credit grants it to the next requesting sender (R680). -/
def execCreditGrant (ch : Nat) (s : State) : Out := run s fun s => if ch < 4096 then grantCycle s ch else s

end Sys2Proof.Machine
end

