-- ==== Sys2Proof/Machine/RelayCore.lean ====
section
/-! DEFINITION. How an agent issues an instruction: the internal address map, the region protection unit, exceptions and
supervisor entry (R35 to R38, R670, R702 to R724, R737 to R750). -/
namespace Sys2Proof.Machine

/-! ### Exception causes (R703) -/

/-- A reserved encoding. -/
def exIllegal : Nat := 1
/-- A supervisor instruction outside supervisor mode. -/
def exPrivileged : Nat := 2
/-- An address outside the internal map, or the channel range. -/
def exAccess : Nat := 3
/-- The region protection unit. -/
def exProtection : Nat := 4
/-- A misaligned access or target. -/
def exMisaligned : Nat := 5
/-- A channel of another cluster, or one that a device unit receives on. -/
def exChannel : Nat := 6
/-- The staging or receive area of another thread. -/
def exStaging : Nat := 7
/-- A load whose line failed detection on its second read. -/
def exDetFault : Nat := 8

/-! ### The internal address map (R35) -/

/-- Where an internal address leads. -/
inductive AddrAt where
  | ram (addr : Nat)            -- SRAM or GDDR6 at this global address
  | window (link off : Nat)     -- a host window
  | setup (off : Nat)           -- the setup registers, laid out as BAR0
deriving DecidableEq, Repr

/-- The base of the host windows. -/
def windowBase : Nat := 0x200000000000
/-- The base of the setup registers. -/
def setupBase : Nat := 0x3F0000000000

/-- Steward memory in global SRAM (R28). -/
def stewardBase (k : Nat) : Nat := sramBase + 0x09A00000 + k * 0x100000

/-- An access of `n` bytes at an address, in the map that an agent sees; none outside every range, or across the end of
one (R35, R38, R737, R878). -/
def resolve (s : State) (a addr n : Nat) : Option AddrAt :=
  if addr + n ≤ 0x40000 then
    some (.ram (if isThread a then localBase (coreOf a) + addr else stewardBase (a - 512) + addr))
  else if 0x100000000 ≤ addr ∧ addr + n ≤ 0x100200000 then
    if isThread a then some (.ram (sramBase + 0x08A00000 + clusterOf a * 0x200000 + (addr - 0x100000000))) else none
  else if sramBase ≤ addr ∧ addr + n ≤ sramBase + sramSize then some (.ram addr)
  else if g6Base ≤ addr ∧ addr + n ≤ g6Base + g6Size then (if g6Down s then none else some (.ram addr))
  else if windowBase ≤ addr ∧ addr + n ≤ windowBase + 2 ^ 43 ∧ addr / 2 ^ 40 = (addr + n - 1) / 2 ^ 40 then
    some (.window ((addr - windowBase) / 2 ^ 40) (addr % 2 ^ 40))
  else if setupBase ≤ addr ∧ addr + n ≤ setupBase + 0x4000000 then some (.setup (addr - setupBase))
  else none

/-- The access uses the core-local range, which no protection unit checks and no lane carries (R674, R746). -/
def isLocal (addr : Nat) : Bool := decide (addr < 0x40000)

/-- A global address lies in the channel queues of a cluster's shared memory (R676). -/
def inChannelRange (g : Nat) : Bool :=
  let o := g - (sramBase + 0x08A00000)
  decide (sramBase + 0x08A00000 ≤ g) && decide (o < 8 * 0x200000) && decide (0x180000 ≤ o % 0x200000)

/-- The thread whose staging or receive area a global address lies in (R677). -/
def areaOwner (g : Nat) : Option Nat :=
  let o := g - localBase 0
  if localBase 0 ≤ g ∧ o < 64 * 0x40000 ∧ 0x3FC00 ≤ o % 0x40000 then
    some (o / 0x40000 * 8 + (o % 0x40000 - 0x3FC00) / 0x80)
  else none

/-! ### The region protection unit (R746 to R750) -/

/-- A region's rights. -/
structure Rights where
  rd : Bool
  wr : Bool
  ex : Bool
deriving DecidableEq, Repr

/-- Region `r` of a relay core as the 64-bit value of R747. -/
def coreRegion (s : State) (core r : Nat) : Nat :=
  let f := fun (d : Desc) => s.rd d core r
  f RLY_RPU.threads + f RLY_RPU.base <<< 12 + f RLY_RPU.log2_size <<< 48 + f RLY_RPU.rd <<< 54 + f RLY_RPU.wr <<< 55
    + f RLY_RPU.ex <<< 56 + f RLY_RPU.valid <<< 57

/-- The regions that an agent is checked against; none where it is not checked (R748, R750). -/
def regionsOf (s : State) (a : Nat) : Option (List Nat) :=
  if isThread a then some ((List.range 16).map (coreRegion s (coreOf a)))
  else if (stewardInt s (a - 512)).user then some ((List.range 16).map fun i => Map.get (stewardInt s (a - 512)).srpu i)
  else none

/-- A region applies to an agent's access at an address (R747, R748). -/
def regionMatches (a addr v : Nat) : Bool :=
  let n := bitsAt v 48 6
  v.testBit 57 && (!isThread a || v.testBit (a % 8)) && decide (addr >>> n = (bitsAt v 12 36 <<< 12) >>> n)

/-- What the unit grants an access: the first matching region alone decides (R748). -/
def rightsAt (s : State) (a addr : Nat) : Rights :=
  if isLocal addr then ⟨true, true, true⟩
  else match regionsOf s a with
    | none => ⟨true, true, true⟩
    | some l => match l.find? (regionMatches a addr) with
      | none => ⟨false, false, false⟩
      | some v => ⟨v.testBit 54, v.testBit 55, v.testBit 56⟩

/-- The agent's accesses are checked by a unit (R746, R750). -/
def isChecked (s : State) (a addr : Nat) : Bool := !isLocal addr && (regionsOf s a).isSome

/-! ### Exceptions and supervisor entry (R702, R738 to R742) -/

/-- The fetch at a steward's vector fails (R742). -/
def vectorFails (s : State) (k : Nat) : Bool := (resolve s (512 + k) (stewardInt s k).svec 4).isNone

/-- A steward enters supervisor mode (R738); when the fetch at SVEC raises an exception it stops issuing (R742). -/
def enterSupervisor (s : State) (k sepc scause saddr : Nat) : State :=
  let s := updSteward s k fun x => { x with
    sepc := sepc % 2 ^ 48, pmode := x.user, pie := x.ie, ie := false, user := false, scause := scause, saddr := saddr,
    sleeping := false }
  let s := setPc s (512 + k) (stewardInt s k).svec
  if vectorFails s k then raise (updSteward s k fun x => { x with locked := true }) 0x002 else s

/-- A thread takes an exception at `pc`: it enters FAULTED and is recorded (R702). -/
def faultThread (s : State) (t cause pc addr : Nat) : State :=
  let s := setThreadState (leaveWait s t) t thFaulted
  let s := ((s.wr RLY_THCTX.fault_cause cause t).wr RLY_THCTX.fault_pc pc t).wr RLY_THCTX.fault_addr addr t
  let s := s.wr RLY_THCTX.pc (agentPc s t) t
  raise (((s.wr RLY_FAULTQ.thread t).wr RLY_FAULTQ.cause cause).countSat RLY_FAULTQ.count) 0x181

/-- An instruction at `pc` of an agent raises an exception. -/
def exceptionAt (s : State) (a cause pc addr : Nat) : State :=
  if isThread a then faultThread s a cause pc addr else enterSupervisor s (a - 512) pc cause addr

/-- The instruction at the agent's pc raises an exception. -/
def exception (s : State) (a cause addr : Nat) : State := exceptionAt s a cause (agentPc s a) addr

/-! ### Issue (R669 to R672, R709, R721) -/

/-- The domains of a thread's core and cluster are on: work waits for them (R115, R116). -/
def corePowered (s : State) (t : Nat) : Bool :=
  decide (domainState s (coreOf t) = .on) && decide (domainState s (64 + clusterOf t) = .on)

/-- The agent is issuable, as far as its next instruction does not wait: a READY thread whose core is powered, and that is
not held or whose account is eligible again; a released steward that neither sleeps nor is locked (R19, R115, R669, R670,
R742, R744). -/
def issuable (s : State) (a : Nat) : Bool :=
  if isThread a then
    enabled s .rly && decide (threadState s a = thReady) && corePowered s a
      && (!s.on RLY_THCTX.budget_held a || eligible s (threadInt s a).account)
  else
    let x := stewardInt s (a - 512)
    decide (a < 516) && x.running && !x.locked && !x.sleeping

/-- The threads of a core in the order in which they are asked to issue: ascending after the one that issued last (R671). -/
def issueOrder (s : State) (core : Nat) : List Nat :=
  (List.range 8).map fun k => (Map.get s.rly.lastIssue core + k) % 8

/-- No issuable thread of the core comes before this one in the core's turn; one with a load outstanding may have to wait
for it, and does not count (R670, R671). -/
def itsTurn (s : State) (t : Nat) : Bool :=
  let before := (issueOrder s (coreOf t)).takeWhile fun j => decide (j ≠ t % 8)
  before.all fun j => !issuable s (coreOf t * 8 + j) || !(agentInt s (coreOf t * 8 + j)).loads.isEmpty

/-- The agent may issue: it is issuable, and of a core's threads it is the one whose turn it is (R671). -/
def mayIssue (s : State) (a : Nat) : Bool := issuable s a && (!isThread a || itsTurn s a)

/-- A register of the list will be written by an outstanding load (R721). -/
def waitsForLoad (s : State) (a : Nat) (regs : List Nat) : Bool :=
  regs.any fun r => decide (r % 32 ≠ 0) && (agentInt s a).loads.any fun l =>
    decide (l.rd ≤ r % 32) && decide (r % 32 < l.rd + l.regs)

/-- The exception of a fetch at the agent's pc (R38, R709, R746, R749). -/
def fetchFault (s : State) (a : Nat) : Option Nat :=
  let pc := agentPc s a
  if pc % 4 ≠ 0 then some exMisaligned
  else match resolve s a pc 4 with
    | none => some exAccess
    | some (.ram _) => if (rightsAt s a pc).ex then none else some exProtection
    | some _ => if isChecked s a pc || !(rightsAt s a pc).ex then some exProtection else none

/-- One instruction issued: it is counted and its energy charged (R83, R668, R705, R785). -/
def countIssue (s : State) (a : Nat) : State :=
  if isThread a then
    let acct := (threadInt s a).account
    let s := { s with rly := { s.rly with lastIssue := Map.set s.rly.lastIssue (coreOf a) (a % 8 + 1) } }
    let s := (s.wr RLY_THCTX.budget_held 0 a).count RLY_THCTX.issued 1 a
    pmc (activity s (coreOf a) 0 2 1 acct) 0x701 (coreOf a) 1 (some acct)
  else s

/-- An agent issues an instruction that reads or writes some registers; `f` is its effect. -/
def issue (a : Nat) (regs : List Nat) (f : State → State) (s : State) : State :=
  if !mayIssue s a || waitsForLoad s a regs then s
  else match fetchFault s a with
    | some c => exception s a c (agentPc s a)
    | none => f (countIssue s a)

/-- The pc moves to the next instruction. -/
def advance (s : State) (a : Nat) : State := setPc s a (agentPc s a + 4)

/-- A result is written and the pc moves on. -/
def retireTo (s : State) (a rd v : Nat) : State := advance (setGreg s a rd v) a

end Sys2Proof.Machine
end

