-- ==== Sys2Proof/Machine/RelayAlu.lean ====
section
/-! DEFINITION. Arithmetic, constants and control of the relay instruction set (R712 to R716). -/
namespace Sys2Proof.Machine

/-! ### Values -/

/-- A value of 64 bits (R713). -/
def w64 (x : Nat) : Nat := x % 2 ^ 64

/-- Sign extension of the low `n` bits to 64 bits. -/
def sext (n x : Nat) : Nat := wrapInt 64 (signed n x)

/-- Difference modulo 2^64. -/
def sub64 (x y : Nat) : Nat := w64 (x + 2 ^ 64 - w64 y)

/-- Shift left by an amount modulo 64 (R713). -/
def shl64 (x n : Nat) : Nat := w64 (x <<< (n % 64))
/-- Shift right with zero fill. -/
def shr64 (x n : Nat) : Nat := w64 x >>> (n % 64)
/-- Shift right with sign fill. -/
def sar64 (x n : Nat) : Nat := wrapInt 64 (signed 64 x / ((2 ^ (n % 64) : Nat) : Int))

/-- Signed less-than on 64 bits. -/
def slt64 (x y : Nat) : Bool := decide (signed 64 x < signed 64 y)

/-- Zero bits above the highest 1 bit; 64 for 0 (R713). -/
def clz64 (x : Nat) : Nat := ((List.range 64).find? fun i => x.testBit (63 - i)).getD 64
/-- Zero bits below the lowest 1 bit; 64 for 0 (R713). -/
def ctz64 (x : Nat) : Nat := ((List.range 64).find? fun i => x.testBit i).getD 64

/-- The function of a BITS instruction; none for the reserved selector 7 (R712, R713). -/
def bitsFn (f x : Nat) : Option Nat :=
  match f with
  | 0 => some (clz64 x)
  | 1 => some (ctz64 x)
  | 2 => some (popCount 64 x)
  | 3 => some (ofBe (leBytes 8 x))
  | 4 => some (sext 8 x)
  | 5 => some (sext 16 x)
  | 6 => some (sext 32 x)
  | _ => none

/-- The CRC step of R716: polynomial `p`, byte count 2 ^ `n`. -/
def crcStep (p n crc data : Nat) : Nat :=
  let bs := leBytes (2 ^ (n % 4)) data
  if p % 2 = 0 then crc32cSteps (crc % 2 ^ 32) bs else crc32Steps (crc % 2 ^ 32) bs

/-! ### Three-register instructions -/

/-- rd takes a function of ra and rb. -/
def issueAlu (f : Nat → Nat → Nat) (a rd ra rb : Nat) (s : State) : State :=
  issue a [rd, ra, rb] (fun s => retireTo s a rd (w64 (f (greg s a ra) (greg s a rb)))) s

/-- ADD: rd = ra + rb (R712, R713). -/
def execAdd (agent rd ra rb : Nat) (s : State) : Out := run s (issueAlu (fun x y => x + y) agent rd ra rb)
/-- SUB: rd = ra - rb. -/
def execSub (agent rd ra rb : Nat) (s : State) : Out := run s (issueAlu sub64 agent rd ra rb)
/-- AND. -/
def execAnd (agent rd ra rb : Nat) (s : State) : Out := run s (issueAlu (fun x y => x &&& y) agent rd ra rb)
/-- OR. -/
def execOr (agent rd ra rb : Nat) (s : State) : Out := run s (issueAlu (fun x y => x ||| y) agent rd ra rb)
/-- XOR. -/
def execXor (agent rd ra rb : Nat) (s : State) : Out := run s (issueAlu (fun x y => x ^^^ y) agent rd ra rb)
/-- SHL: by rb[5:0]. -/
def execShl (agent rd ra rb : Nat) (s : State) : Out := run s (issueAlu shl64 agent rd ra rb)
/-- SHR: by rb[5:0], zero fill. -/
def execShr (agent rd ra rb : Nat) (s : State) : Out := run s (issueAlu shr64 agent rd ra rb)
/-- SAR: by rb[5:0], sign fill. -/
def execSar (agent rd ra rb : Nat) (s : State) : Out := run s (issueAlu sar64 agent rd ra rb)
/-- MUL: the low 64 bits of the product. -/
def execMul (agent rd ra rb : Nat) (s : State) : Out := run s (issueAlu (fun x y => x * y) agent rd ra rb)
/-- MULHU: the high 64 bits of the unsigned product. -/
def execMulhu (agent rd ra rb : Nat) (s : State) : Out := run s (issueAlu (fun x y => x * y / 2 ^ 64) agent rd ra rb)
/-- MINU: the unsigned lesser. -/
def execMinu (agent rd ra rb : Nat) (s : State) : Out := run s (issueAlu min agent rd ra rb)
/-- MAXU: the unsigned greater. -/
def execMaxu (agent rd ra rb : Nat) (s : State) : Out := run s (issueAlu max agent rd ra rb)
/-- SLT: 1 if ra < rb as signed values. -/
def execSlt (agent rd ra rb : Nat) (s : State) : Out := run s (issueAlu (fun x y => flag (slt64 x y)) agent rd ra rb)
/-- SLTU: 1 if ra < rb as unsigned values. -/
def execSltu (agent rd ra rb : Nat) (s : State) : Out :=
  run s (issueAlu (fun x y => flag (decide (x < y))) agent rd ra rb)

/-- CRCC: fn[0] selects the polynomial and fn[2:1] the byte count (R716). -/
def execCrcc (agent rd ra rb fn : Nat) (s : State) : Out :=
  run s (issueAlu (fun x y => crcStep fn (fn / 2) x y) agent rd ra rb)

/-- BITS: a function of ra; selector 7 is ILLEGAL (R711 to R713). -/
def execBits (agent rd ra fn : Nat) (s : State) : Out :=
  run s (issue agent [rd, ra] fun s =>
    match bitsFn fn (greg s agent ra) with
    | some v => retireTo s agent rd v
    | none => exception s agent exIllegal 0)

/-! ### Immediate instructions -/

/-- rd takes a function of ra. -/
def issueImm (f : Nat → Nat) (a rd ra : Nat) (s : State) : State :=
  issue a [rd, ra] (fun s => retireTo s a rd (w64 (f (greg s a ra)))) s

/-- ADDI: rd = ra + sext(imm16). -/
def execAddi (agent rd ra imm : Nat) (s : State) : Out := run s (issueImm (fun x => x + sext 16 imm) agent rd ra)
/-- ANDI: rd = ra AND zext(imm16). -/
def execAndi (agent rd ra imm : Nat) (s : State) : Out := run s (issueImm (fun x => x &&& imm % 65536) agent rd ra)
/-- ORI: rd = ra OR zext(imm16). -/
def execOri (agent rd ra imm : Nat) (s : State) : Out := run s (issueImm (fun x => x ||| imm % 65536) agent rd ra)
/-- XORI: rd = ra XOR zext(imm16). -/
def execXori (agent rd ra imm : Nat) (s : State) : Out := run s (issueImm (fun x => x ^^^ imm % 65536) agent rd ra)

/-- The shift that SHI makes: kind in imm16[7:6], amount in imm16[5:0]; none for the reserved kind or a reserved bit. -/
def shiFn (imm x : Nat) : Option Nat :=
  match imm / 64 with
  | 0 => some (shl64 x imm)
  | 1 => some (shr64 x imm)
  | 2 => some (sar64 x imm)
  | _ => none

/-- SHI: a shift by an immediate amount; a reserved kind or bit is ILLEGAL (R711, R712). -/
def execShi (agent rd ra imm : Nat) (s : State) : Out :=
  run s (issue agent [rd, ra] fun s =>
    match shiFn imm (greg s agent ra) with
    | some v => retireTo s agent rd v
    | none => exception s agent exIllegal 0)

/-- SLTI: 1 if ra < sext(imm16) as signed values. -/
def execSlti (agent rd ra imm : Nat) (s : State) : Out :=
  run s (issueImm (fun x => flag (slt64 x (sext 16 imm))) agent rd ra)

/-- MOVK: quarter k of rd becomes imm16 and the rest is kept (R712). -/
def execMovk (agent rd k imm : Nat) (s : State) : Out :=
  run s (issue agent [rd] fun s => retireTo s agent rd (putBits (greg s agent rd) (16 * (k % 4)) 16 imm))

/-- ADDPC: rd = pc + sext(imm16) * 4 (R712). -/
def execAddpc (agent rd imm : Nat) (s : State) : Out :=
  run s (issue agent [rd] fun s => retireTo s agent rd (w64 (agentPc s agent + sext 16 imm * 4)))

/-! ### Control (R714, R715) -/

/-- A branch: the pc moves by sext(off16) * 4 when the condition holds, else to the next instruction. -/
def issueBranch (p : Nat → Nat → Bool) (a ra rb off : Nat) (s : State) : State :=
  issue a [ra, rb] (fun s =>
    if p (greg s a ra) (greg s a rb) then setPc s a (agentPc s a + sext 16 off * 4) else advance s a) s

/-- BEQ. -/
def execBeq (agent ra rb off : Nat) (s : State) : Out := run s (issueBranch (fun x y => decide (x = y)) agent ra rb off)
/-- BNE. -/
def execBne (agent ra rb off : Nat) (s : State) : Out := run s (issueBranch (fun x y => decide (x ≠ y)) agent ra rb off)
/-- BLT: signed less-than. -/
def execBlt (agent ra rb off : Nat) (s : State) : Out := run s (issueBranch slt64 agent ra rb off)
/-- BGE: signed greater-or-equal. -/
def execBge (agent ra rb off : Nat) (s : State) : Out := run s (issueBranch (fun x y => !slt64 x y) agent ra rb off)
/-- BLTU: unsigned less-than. -/
def execBltu (agent ra rb off : Nat) (s : State) : Out := run s (issueBranch (fun x y => decide (x < y)) agent ra rb off)
/-- BGEU: unsigned greater-or-equal. -/
def execBgeu (agent ra rb off : Nat) (s : State) : Out := run s (issueBranch (fun x y => decide (y ≤ x)) agent ra rb off)

/-- JAL: rd = pc + 4, then pc = pc + sext(off21) * 4. -/
def execJal (agent rd off : Nat) (s : State) : Out :=
  run s (issue agent [rd] fun s =>
    setPc (setGreg s agent rd (agentPc s agent + 4)) agent (agentPc s agent + sext 21 off * 4))

/-- JALR: the target is ra + sext(imm16); a target that is no multiple of 4 is MISALIGNED and writes nothing (R715). -/
def execJalr (agent rd ra imm : Nat) (s : State) : Out :=
  run s (issue agent [rd, ra] fun s =>
    let t := w64 (greg s agent ra + sext 16 imm)
    if t % 4 ≠ 0 then exception s agent exMisaligned 0
    else setPc (setGreg s agent rd (agentPc s agent + 4)) agent t)

end Sys2Proof.Machine
end

