-- ==== Sys2Proof/Machine/RelayWords.lean ====
section
/-! DEFINITION. The words of the relay instruction set: the formats and the opcode table (R709 to R712). -/
namespace Sys2Proof.Machine

/-- A relay instruction with the fields that its row of the opcode table names. -/
inductive RelayInstr where
  | add (rd ra rb : Nat) | sub (rd ra rb : Nat) | and (rd ra rb : Nat) | or (rd ra rb : Nat) | xor (rd ra rb : Nat)
  | shl (rd ra rb : Nat) | shr (rd ra rb : Nat) | sar (rd ra rb : Nat) | mul (rd ra rb : Nat) | mulhu (rd ra rb : Nat)
  | minu (rd ra rb : Nat) | maxu (rd ra rb : Nat) | slt (rd ra rb : Nat) | sltu (rd ra rb : Nat)
  | crcc (rd ra rb fn : Nat) | bits (rd ra fn : Nat)
  | addi (rd ra imm : Nat) | andi (rd ra imm : Nat) | ori (rd ra imm : Nat) | xori (rd ra imm : Nat)
  | shi (rd ra imm : Nat) | slti (rd ra imm : Nat) | movk (rd k imm : Nat) | addpc (rd imm : Nat)
  | ldb (rd ra imm : Nat) | ldh (rd ra imm : Nat) | ldw (rd ra imm : Nat) | ldd (rd ra imm : Nat)
  | stb (rs ra imm : Nat) | sth (rs ra imm : Nat) | stw (rs ra imm : Nat) | std (rs ra imm : Nat)
  | ldl (rd ra imm : Nat) | stl (rs ra imm : Nat)
  | amo (rd ra rb fn : Nat) | cas (rd ra rb : Nat)
  | beq (ra rb off : Nat) | bne (ra rb off : Nat) | blt (ra rb off : Nat) | bge (ra rb off : Nat)
  | bltu (ra rb off : Nat) | bgeu (ra rb off : Nat)
  | jal (rd off : Nat) | jalr (rd ra imm : Nat)
  | hurdle (fn : Nat)
  | bsend (rd ra fn : Nat) | brecv (rd ra fn : Nat) | wait (rd mask : Nat)
  | thset (rd ra rb n : Nat) | thgo (rd n : Nat) | thstop (rd n : Nat) | thexit
  | brk (imm : Nat) | srr (rd n : Nat) | srw (ra n : Nat) | calls (imm : Nat)
  | sret | sleep
deriving DecidableEq, Repr

/-- A word of format R. -/
def wordR (op rd ra rb fn : Nat) : Nat := op * 2 ^ 26 + rd * 2 ^ 21 + ra * 2 ^ 16 + rb * 2 ^ 11 + fn
/-- A word of formats I and S; a branch has ra and rb in these places (format B). -/
def wordI (op rd ra imm : Nat) : Nat := op * 2 ^ 26 + rd * 2 ^ 21 + ra * 2 ^ 16 + imm
/-- A word of format J. -/
def wordJ (op rd off : Nat) : Nat := op * 2 ^ 26 + rd * 2 ^ 21 + off

/-- The word of an instruction (R712). -/
def encodeRelay : RelayInstr → Nat
  | .add rd ra rb => wordR 0x00 rd ra rb 0
  | .sub rd ra rb => wordR 0x01 rd ra rb 0
  | .and rd ra rb => wordR 0x02 rd ra rb 0
  | .or rd ra rb => wordR 0x03 rd ra rb 0
  | .xor rd ra rb => wordR 0x04 rd ra rb 0
  | .shl rd ra rb => wordR 0x05 rd ra rb 0
  | .shr rd ra rb => wordR 0x06 rd ra rb 0
  | .sar rd ra rb => wordR 0x07 rd ra rb 0
  | .mul rd ra rb => wordR 0x08 rd ra rb 0
  | .mulhu rd ra rb => wordR 0x09 rd ra rb 0
  | .minu rd ra rb => wordR 0x0A rd ra rb 0
  | .maxu rd ra rb => wordR 0x0B rd ra rb 0
  | .slt rd ra rb => wordR 0x0C rd ra rb 0
  | .sltu rd ra rb => wordR 0x0D rd ra rb 0
  | .crcc rd ra rb fn => wordR 0x0E rd ra rb fn
  | .bits rd ra fn => wordR 0x0F rd ra 0 fn
  | .addi rd ra imm => wordI 0x10 rd ra imm
  | .andi rd ra imm => wordI 0x11 rd ra imm
  | .ori rd ra imm => wordI 0x12 rd ra imm
  | .xori rd ra imm => wordI 0x13 rd ra imm
  | .shi rd ra imm => wordI 0x14 rd ra imm
  | .slti rd ra imm => wordI 0x15 rd ra imm
  | .movk rd k imm => wordI 0x16 rd k imm
  | .addpc rd imm => wordI 0x17 rd 0 imm
  | .ldb rd ra imm => wordI 0x18 rd ra imm
  | .ldh rd ra imm => wordI 0x19 rd ra imm
  | .ldw rd ra imm => wordI 0x1A rd ra imm
  | .ldd rd ra imm => wordI 0x1B rd ra imm
  | .stb rs ra imm => wordI 0x1C rs ra imm
  | .sth rs ra imm => wordI 0x1D rs ra imm
  | .stw rs ra imm => wordI 0x1E rs ra imm
  | .std rs ra imm => wordI 0x1F rs ra imm
  | .ldl rd ra imm => wordI 0x20 rd ra imm
  | .stl rs ra imm => wordI 0x21 rs ra imm
  | .amo rd ra rb fn => wordR 0x22 rd ra rb fn
  | .cas rd ra rb => wordR 0x23 rd ra rb 0
  | .beq ra rb off => wordI 0x24 ra rb off
  | .bne ra rb off => wordI 0x25 ra rb off
  | .blt ra rb off => wordI 0x26 ra rb off
  | .bge ra rb off => wordI 0x27 ra rb off
  | .bltu ra rb off => wordI 0x28 ra rb off
  | .bgeu ra rb off => wordI 0x29 ra rb off
  | .jal rd off => wordJ 0x2A rd off
  | .jalr rd ra imm => wordI 0x2B rd ra imm
  | .hurdle fn => wordR 0x2C 0 0 0 fn
  | .bsend rd ra fn => wordR 0x30 rd ra 0 fn
  | .brecv rd ra fn => wordR 0x31 rd ra 0 fn
  | .wait rd mask => wordI 0x32 rd 0 mask
  | .thset rd ra rb n => wordR 0x33 rd ra rb n
  | .thgo rd n => wordR 0x34 rd 0 0 n
  | .thstop rd n => wordR 0x35 rd 0 0 n
  | .thexit => wordR 0x36 0 0 0 0
  | .brk imm => wordI 0x37 0 0 imm
  | .srr rd n => wordI 0x38 rd 0 n
  | .srw ra n => wordI 0x39 0 ra n
  | .calls imm => wordI 0x3A 0 0 imm
  | .sret => wordR 0x3C 0 0 0 0
  | .sleep => wordR 0x3D 0 0 0 0

/-- A decoding that holds only when a condition on the reserved fields does (R711). -/
def onlyIf (c : Bool) (i : RelayInstr) : Option RelayInstr := if c then some i else none

/-- The instruction that a word spells; none where it takes an ILLEGAL exception (R711, R712). -/
def decodeRelay (w : Nat) : Option RelayInstr :=
  let rd := w / 2 ^ 21 % 32
  let ra := w / 2 ^ 16 % 32
  let rb := w / 2 ^ 11 % 32
  let fn := w % 2048
  let imm := w % 65536
  let off := w % 2 ^ 21
  match w / 2 ^ 26 with
  | 0x00 => onlyIf (fn = 0) (.add rd ra rb)
  | 0x01 => onlyIf (fn = 0) (.sub rd ra rb)
  | 0x02 => onlyIf (fn = 0) (.and rd ra rb)
  | 0x03 => onlyIf (fn = 0) (.or rd ra rb)
  | 0x04 => onlyIf (fn = 0) (.xor rd ra rb)
  | 0x05 => onlyIf (fn = 0) (.shl rd ra rb)
  | 0x06 => onlyIf (fn = 0) (.shr rd ra rb)
  | 0x07 => onlyIf (fn = 0) (.sar rd ra rb)
  | 0x08 => onlyIf (fn = 0) (.mul rd ra rb)
  | 0x09 => onlyIf (fn = 0) (.mulhu rd ra rb)
  | 0x0A => onlyIf (fn = 0) (.minu rd ra rb)
  | 0x0B => onlyIf (fn = 0) (.maxu rd ra rb)
  | 0x0C => onlyIf (fn = 0) (.slt rd ra rb)
  | 0x0D => onlyIf (fn = 0) (.sltu rd ra rb)
  | 0x0E => onlyIf (fn < 8) (.crcc rd ra rb fn)
  | 0x0F => onlyIf (rb = 0 && fn < 7) (.bits rd ra fn)
  | 0x10 => some (.addi rd ra imm)
  | 0x11 => some (.andi rd ra imm)
  | 0x12 => some (.ori rd ra imm)
  | 0x13 => some (.xori rd ra imm)
  | 0x14 => onlyIf (imm < 192) (.shi rd ra imm)
  | 0x15 => some (.slti rd ra imm)
  | 0x16 => onlyIf (ra < 4) (.movk rd ra imm)
  | 0x17 => onlyIf (ra = 0) (.addpc rd imm)
  | 0x18 => some (.ldb rd ra imm)
  | 0x19 => some (.ldh rd ra imm)
  | 0x1A => some (.ldw rd ra imm)
  | 0x1B => some (.ldd rd ra imm)
  | 0x1C => some (.stb rd ra imm)
  | 0x1D => some (.sth rd ra imm)
  | 0x1E => some (.stw rd ra imm)
  | 0x1F => some (.std rd ra imm)
  | 0x20 => onlyIf (rd = 8 || rd = 16 || rd = 24) (.ldl rd ra imm)
  | 0x21 => onlyIf (rd = 8 || rd = 16 || rd = 24) (.stl rd ra imm)
  | 0x22 => onlyIf (fn < 5) (.amo rd ra rb fn)
  | 0x23 => onlyIf (fn = 0) (.cas rd ra rb)
  | 0x24 => some (.beq rd ra imm)
  | 0x25 => some (.bne rd ra imm)
  | 0x26 => some (.blt rd ra imm)
  | 0x27 => some (.bge rd ra imm)
  | 0x28 => some (.bltu rd ra imm)
  | 0x29 => some (.bgeu rd ra imm)
  | 0x2A => some (.jal rd off)
  | 0x2B => some (.jalr rd ra imm)
  | 0x2C => onlyIf (rd = 0 && ra = 0 && rb = 0 && fn < 2) (.hurdle fn)
  | 0x30 => onlyIf (rb = 0 && fn < 2) (.bsend rd ra fn)
  | 0x31 => onlyIf (rb = 0 && fn < 2) (.brecv rd ra fn)
  | 0x32 => onlyIf (ra = 0 && imm < 16) (.wait rd imm)
  | 0x33 => onlyIf (fn < 16) (.thset rd ra rb fn)
  | 0x34 => onlyIf (ra = 0 && rb = 0 && fn < 16) (.thgo rd fn)
  | 0x35 => onlyIf (ra = 0 && rb = 0 && fn < 16) (.thstop rd fn)
  | 0x36 => onlyIf (off = 0 && rd = 0) .thexit
  | 0x37 => onlyIf (rd = 0 && ra = 0) (.brk imm)
  | 0x38 => onlyIf (ra = 0 && imm < 4096) (.srr rd imm)
  | 0x39 => onlyIf (rd = 0 && imm < 4096) (.srw ra imm)
  | 0x3A => onlyIf (rd = 0 && ra = 0) (.calls imm)
  | 0x3C => onlyIf (off = 0 && rd = 0) .sret
  | 0x3D => onlyIf (off = 0 && rd = 0) .sleep
  | _ => none

/-- The fields of an instruction lie in the widths and values that its row of the table allows. -/
def RelayInstr.wf : RelayInstr → Bool
  | .add rd ra rb | .sub rd ra rb | .and rd ra rb | .or rd ra rb | .xor rd ra rb | .shl rd ra rb | .shr rd ra rb
  | .sar rd ra rb | .mul rd ra rb | .mulhu rd ra rb | .minu rd ra rb | .maxu rd ra rb | .slt rd ra rb | .sltu rd ra rb
  | .cas rd ra rb => decide (rd < 32) && decide (ra < 32) && decide (rb < 32)
  | .crcc rd ra rb fn => decide (rd < 32) && decide (ra < 32) && decide (rb < 32) && decide (fn < 8)
  | .amo rd ra rb fn => decide (rd < 32) && decide (ra < 32) && decide (rb < 32) && decide (fn < 5)
  | .thset rd ra rb n => decide (rd < 32) && decide (ra < 32) && decide (rb < 32) && decide (n < 16)
  | .bits rd ra fn => decide (rd < 32) && decide (ra < 32) && decide (fn < 7)
  | .addi rd ra imm | .andi rd ra imm | .ori rd ra imm | .xori rd ra imm | .slti rd ra imm | .ldb rd ra imm
  | .ldh rd ra imm | .ldw rd ra imm | .ldd rd ra imm | .stb rd ra imm | .sth rd ra imm | .stw rd ra imm
  | .std rd ra imm | .beq rd ra imm | .bne rd ra imm | .blt rd ra imm | .bge rd ra imm | .bltu rd ra imm
  | .bgeu rd ra imm | .jalr rd ra imm => decide (rd < 32) && decide (ra < 32) && decide (imm < 65536)
  | .ldl rd ra imm | .stl rd ra imm => (rd = 8 || rd = 16 || rd = 24) && decide (ra < 32) && decide (imm < 65536)
  | .shi rd ra imm => decide (rd < 32) && decide (ra < 32) && decide (imm < 192)
  | .movk rd k imm => decide (rd < 32) && decide (k < 4) && decide (imm < 65536)
  | .addpc rd imm => decide (rd < 32) && decide (imm < 65536)
  | .jal rd off => decide (rd < 32) && decide (off < 2 ^ 21)
  | .hurdle fn => decide (fn < 2)
  | .bsend rd ra fn | .brecv rd ra fn => decide (rd < 32) && decide (ra < 32) && decide (fn < 2)
  | .wait rd mask => decide (rd < 32) && decide (mask < 16)
  | .thgo rd n | .thstop rd n => decide (rd < 32) && decide (n < 16)
  | .brk imm | .calls imm => decide (imm < 65536)
  | .srr rd n | .srw rd n => decide (rd < 32) && decide (n < 4096)
  | .thexit | .sret | .sleep => true

end Sys2Proof.Machine
end

