-- ==== Sys2Proof/Machine/RelayThreads.lean ====
section
/-! DEFINITION. Batons, waits, threads, special registers, the supervisor subset, debug and the stall detector (R660 to
R707, R728 to R745), and the delivery of interrupts to stewards (R760 to R767). -/
namespace Sys2Proof.Machine

/-! ### HURDLE, BSEND, BRECV and WAIT (R681 to R688, R728 to R731) -/

/-- The next access of an agent waits for its outstanding loads and for a zero-length read on every host link that a store
of it went to (R728). -/
def fenceAccesses (s : State) (a : Nat) : State :=
  let links := (agentInt s a).touched
  let s := links.foldl (fun t l => putLink t (.zeroRead ((List.range 8).find? (fun p => t.on HIF_PF_CFG.enable p
    && decide (t.rd HIF_PF_CFG.link p = l)) |>.getD 0) l)) s
  updAgent s a fun x => { x with
    fence := true, touched := [],
    loads := x.loads ++ links.map fun l => ⟨0, 0, 0, 0, agentPc s a, 0, some l, false, 0⟩ }

/-- RELAY_HURDLE: the next access is fenced.  Instructions fetched ahead are no state of the model, so fn[0] adds nothing
(R728, R731). -/
def execRelayHurdle (agent _fn : Nat) (s : State) : Out := run s (issue agent [] fun s => advance (fenceAccesses s agent) agent)

/-- A thread blocks in WAIT at its own pc. -/
def block (s : State) (t : Nat) (w : ThreadWait) : State :=
  setThreadState (updThread s t fun x => { x with wait := w }) t thWait

/-- BSEND without a credit: a result of 1, or the thread joins the blocked senders (R682). -/
def noCredit (s : State) (t ch rd : Nat) (nonblocking : Bool) : State :=
  if nonblocking then retireTo s t rd 1
  else
    syncChan (block { s with rly := { s.rly with senders := Map.upd s.rly.senders ch fun l => l ++ [t] } } t (.send ch rd)) ch

/-- BSEND: in the cycle of its request the channel grants a credit to this thread or to another sender (R680 to R682). -/
def execBsend (agent rd ra fn : Nat) (s : State) : Out :=
  run s (issue agent [rd, ra] fun s =>
    if !isThread agent then exception s agent exIllegal 0
    else
      let ch := bitsAt (greg s agent ra) 0 12
      match grantWinner s ch (requesters s ch ++ [agent]) with
      | none => noCredit s agent ch rd (fn % 2 = 1)
      | some r =>
        if r = agent then retireTo (sendStaged s agent ch) agent rd 0
        else noCredit (if isThread r then grantThread s r ch else s) agent ch rd (fn % 2 = 1))

/-- The head baton of a channel taken by a thread (R683). -/
def takeBaton (s : State) (t ch : Nat) (b : Baton) : State :=
  receiveBaton (syncChan { s with rly := { s.rly with chans := Map.upd s.rly.chans ch List.tail } } ch) t b

/-- BRECV: the head baton of a home channel, a result of 1, or a wait in the receiver queue (R683 to R686). -/
def execBrecv (agent rd ra fn : Nat) (s : State) : Out :=
  run s (issue agent [rd, ra] fun s =>
    if !isThread agent then exception s agent exIllegal 0
    else
      let ch := bitsAt (greg s agent ra) 0 12
      if ch / 512 ≠ clusterOf agent || unitChannel s ch then exception s agent exChannel 0
      else match Map.get s.rly.chans ch with
        | b :: _ => retireTo (takeBaton s agent ch b) agent rd 0
        | [] =>
          if fn % 2 = 1 then retireTo s agent rd 1
          else
            syncChan (block { s with rly := { s.rly with receivers := Map.upd s.rly.receivers ch fun l => l ++ [agent] } }
              agent (.recv ch rd)) ch)

/-- A WATCH entry of the thread names a channel of another cluster, and none that a device unit receives on (R685, R686,
R734). -/
def watchesAbroad (s : State) (t : Nat) : Bool :=
  (List.range 4).any fun i =>
    let w := Map.get (threadInt s t).watch i
    w.testBit 12 && decide (bitsAt w 0 12 / 512 ≠ clusterOf t) && !unitChannel s (bitsAt w 0 12)

/-- WAIT: sleeps until a selected event source is ready (R685, R688). -/
def execWait (agent rd mask : Nat) (s : State) : Out :=
  run s (issue agent [rd] fun s =>
    if !isThread agent then exception s agent exIllegal 0
    else if mask % 2 = 1 && watchesAbroad s agent then exception s agent exChannel 0
    else if mask = 0 then retireTo s agent rd 0
    else if readyMask s agent &&& mask ≠ 0 then retireTo s agent rd (readyMask s agent &&& mask)
    else block s agent (.events mask rd))

/-! ### Threads of a core (R662 to R667) -/

/-- The target of THSET, THGO or THSTOP: none where the result is 2 (R662). -/
def threadTarget (a n : Nat) : Option Nat :=
  if a % 8 = 0 ∧ 1 ≤ n ∧ n ≤ 7 then some (a + n) else none

/-- An action of a master thread on a target in a required state; the result goes to rd (R661, R662). -/
def issueThreadOp (a rd n : Nat) (regs : List Nat) (ok : Nat → Bool) (f : State → Nat → State) (s : State) : State :=
  issue a (rd :: regs) (fun s =>
    if !isThread a then exception s a exIllegal 0
    else match threadTarget a n with
      | none => retireTo s a rd 2
      | some t => if ok (threadState s t) then retireTo (f s t) a rd 0 else retireTo s a rd 1) s

/-- A state from which THSTOP stops a thread (R665). -/
def stoppableThread (st : Nat) : Bool := st = thReady || st = thWait || st = thHalted

/-- THSET: the pc and arg of a STOPPED thread (R663). -/
def execThset (agent rd ra rb n : Nat) (s : State) : Out :=
  run s (issueThreadOp agent rd n [ra, rb] (fun st => st = thStopped) fun s t =>
    (s.wr RLY_THCTX.pc (greg s agent ra) t).wr RLY_THCTX.arg (greg s agent rb) t)

/-- THGO: a STOPPED thread starts (R664). -/
def execThgo (agent rd n : Nat) (s : State) : Out :=
  run s (issueThreadOp agent rd n [] (fun st => st = thStopped) startThread)

/-- THSTOP: a thread stops (R665, R667). -/
def execThstop (agent rd n : Nat) (s : State) : Out := run s (issueThreadOp agent rd n [] stoppableThread stopThread)

/-- THEXIT: the issuing thread stops (R666). -/
def execThexit (agent : Nat) (s : State) : Out :=
  run s (issue agent [] fun s =>
    if isThread agent then stopThread (advance s agent) agent else exception s agent exIllegal 0)

/-! ### BRK, CALLS, SRET and SLEEP (R736 to R745) -/

/-- BRK: a thread halts after the BRK; a steward enters supervisor mode (R738, R745). -/
def execBrk (agent imm : Nat) (s : State) : Out :=
  run s (issue agent [] fun s =>
    if isThread agent then haltThread (advance s agent) agent
    else enterSupervisor s (agent - 512) (agentPc s agent + 4) (3 <<< 8 + (imm % 65536) <<< 16) 0)

/-- CALLS: a steward enters supervisor mode with a code (R736, R738). -/
def execCalls (agent imm : Nat) (s : State) : Out :=
  run s (issue agent [] fun s =>
    if isThread agent then exception s agent exIllegal 0
    else enterSupervisor s (agent - 512) (agentPc s agent + 4) (1 <<< 8 + (imm % 65536) <<< 16) 0)

/-- The agent is a steward in supervisor mode. -/
def supervisor (s : State) (a : Nat) : Bool := !isThread a && !(stewardInt s (a - 512)).user

/-- SRET: mode, ie and pc return (R736, R743). -/
def execSret (agent : Nat) (s : State) : Out :=
  run s (issue agent [] fun s =>
    if supervisor s agent then
      let k := agent - 512
      setPc (updSteward s k fun x => { x with user := x.pmode, ie := x.pie }) agent (stewardInt s k).sepc
    else exception s agent exPrivileged 0)

/-- Interrupt source `n` is held in a claim of some steward (R760). -/
def isClaimed (s : State) (n : Nat) : Bool := s.on IRQ_SRC.claimed n

/-- Source `n` is a candidate for steward `k` (R760). -/
def isCandidate (s : State) (k n : Nat) : Bool :=
  let c := Map.get s.claims k
  s.on IRQ_CTL.global_en && s.on IRQ_SRC.asserted n && decide (s.rd IRQ_SRC.dest n = k)
    && decide (1 ≤ s.rd IRQ_SRC.priority n) && decide (c.thresh < s.rd IRQ_SRC.priority n)
    && decide (c.pri < s.rd IRQ_SRC.priority n) && !isClaimed s n

/-- The source presented to a steward: its candidate of highest priority, the lowest number among equals (R761). -/
def presented (s : State) (k : Nat) : Option Nat :=
  ((listedMembers s IRQ_SRC.asserted).filter (isCandidate s k)).foldl (fun best n =>
    match best with
    | none => some n
    | some b => if s.rd IRQ_SRC.priority b < s.rd IRQ_SRC.priority n then some n else some b) none

/-- SLEEP: the steward stops until an interrupt is presented (R736, R744, R767). -/
def execSleep (agent : Nat) (s : State) : Out :=
  run s (issue agent [] fun s =>
    if supervisor s agent then
      let k := agent - 512
      let wakes := (presented s k).isSome
      updSteward (advance s agent) k fun x => { x with sleeping := !wakes || x.ie }
    else exception s agent exPrivileged 0)

/-- A source is delivered: the claim stack is pushed, and the steward enters supervisor mode (R738, R762). -/
def deliverInterrupt (s : State) (k n : Nat) : State :=
  let c := Map.get s.claims k
  let c' : ClaimState := { c with
    pri := s.rd IRQ_SRC.priority n, claim := some n, stack := (c.pri, c.claim) :: c.stack }
  enterSupervisor (({ s with claims := Map.set s.claims k c' } : State).wr IRQ_SRC.claimed 1 n) k (agentPc s (512 + k))
    (2 <<< 8) 0

/-- INTERRUPT_DELIVERY: at an instruction boundary a steward takes its presented source, or only ends its SLEEP (R740,
R744, R762, R767). -/
def execInterruptDelivery (k : Nat) (s : State) : Out :=
  run s fun s =>
    let x := stewardInt s k
    if k < 4 && x.running && !x.locked then
      match presented s k with
      | none => s
      | some n =>
        if x.ie then deliverInterrupt s k n else updSteward s k fun x => { x with sleeping := false }
    else s

/-- A write to IEOI of a steward (R764, R765). -/
def endInterrupt (s : State) (k n : Nat) : State :=
  let c := Map.get s.claims k
  if c.claim = some n then
    let c' : ClaimState := match c.stack with
      | [] => { c with pri := 0, claim := none }
      | (p, q) :: rest => { c with pri := p, claim := q, stack := rest }
    ({ s with claims := Map.set s.claims k c' } : State).wr IRQ_SRC.claimed 0 n
  else s.wr IRQ_STAT.eoi_bad (s.rd IRQ_STAT.eoi_bad ||| 2 ^ k)

/-- IEOI: a steward ends the claimed interrupt (R764, R765, R786). -/
def execIeoi (k source : Nat) (s : State) : Out :=
  run s fun s => if k < 4 then endInterrupt s k (source % 1024) else s

/-! ### Special registers (R732 to R734, R786) -/

/-- The special registers of relay threads only (R732, R733). -/
def isRelayReg (n : Nat) : Bool :=
  n = 0x004 || n = 0x005 || n = 0x007 || n = 0x008 || (decide (0x010 ≤ n) && decide (n ≤ 0x013))
/-- The special registers of any agent. -/
def isAnyReg (n : Nat) : Bool := decide (n ≤ 0x003) || n = 0x006
/-- The special registers of supervisor mode. -/
def isSupervisorReg (n : Nat) : Bool :=
  (decide (0x100 ≤ n) && decide (n ≤ 0x107)) || (decide (0x110 ≤ n) && decide (n ≤ 0x11F))
    || (decide (0x200 ≤ n) && decide (n ≤ 0x204))

/-- The exception of SRR or SRW by its register number (R732, R733). -/
def specialFault (s : State) (a n : Nat) : Option Nat :=
  if isAnyReg n then none
  else if isRelayReg n then (if isThread a then none else some exIllegal)
  else if isSupervisorReg n then (if supervisor s a then none else some exPrivileged)
  else some exIllegal

/-- What a special register reads as. -/
def specialRead (s : State) (a n : Nat) : Nat :=
  let k := a - 512
  let x := stewardInt s k
  match n with
  | 0x000 => a
  | 0x001 => agentAccount s a
  | 0x002 => w64 (if isThread a then s.tt.ticks * 16 else s.tt.ticks * 64 / 5)
  | 0x003 => now s
  | 0x004 => (threadInt s a).timer
  | 0x005 => s.rd RLY_THCTX.dma_ev a + s.rd RLY_THCTX.pkt_ev a * 256
  | 0x006 => flag (agentInt s a).hostFail + (agentInt s a).hostLink * 2
  | 0x007 => stagingOff (a % 8)
  | 0x008 => stagingOff (a % 8) + 0x40
  | 0x100 => flag x.user + 2 * flag x.ie + 4 * flag x.pmode + 8 * flag x.pie
  | 0x101 => x.sepc
  | 0x102 => x.scause
  | 0x103 => x.saddr
  | 0x104 => x.svec
  | 0x200 => (Map.get s.claims k).pri
  | 0x201 => (Map.get s.claims k).thresh
  | 0x202 => match (Map.get s.claims k).claim with
    | some c => c + 2 ^ 15
    | none => 0
  | 0x203 => 0
  | 0x204 => (Map.get s.claims k).stack.length
  | n =>
    if n < 0x100 then Map.get (threadInt s a).watch (n - 0x010)
    else if n < 0x110 then Map.get x.scratch (n - 0x105)
    else Map.get x.srpu (n - 0x110)

/-- A read of EVCNT clears both counts of its thread; any other special register keeps its value (R689, R732). -/
def clearEvents (s : State) (a n : Nat) : State :=
  if n = 0x005 then (s.wr RLY_THCTX.dma_ev 0 a).wr RLY_THCTX.pkt_ev 0 a else s

/-- SRR: rd takes a special register (R689, R732). -/
def execSrr (agent rd n : Nat) (s : State) : Out :=
  run s (issue agent [rd] fun s =>
    match specialFault s agent n with
    | some c => exception s agent c 0
    | none => retireTo (clearEvents s agent n) agent rd (specialRead s agent n))

/-- The writable bits of a protection region (R747). -/
def regionMask : Nat := 2 ^ 58 - 1 - 0xF00

/-- A write to the TIMER of a thread: armed for a new TT64, and timer_fired cleared; 0 disarms it (R689). -/
def armTimer (s : State) (t v : Nat) : State :=
  (updThread s t fun x => { x with timer := v, armed := decide (v ≠ 0) }).wr RLY_THCTX.timer_fired 0 t

/-- What a write to a special register does. -/
def specialWrite (s : State) (a n v : Nat) : State :=
  let k := a - 512
  match n with
  | 0x004 => armTimer s a v
  | 0x006 => updAgent s a fun x => { x with hostFail := x.hostFail && !v.testBit 0 }
  | 0x100 => updSteward s k fun x => { x with ie := v.testBit 1, pmode := v.testBit 2, pie := v.testBit 3 }
  | 0x101 => updSteward s k fun x => { x with sepc := v % 2 ^ 48 }
  | 0x104 => updSteward s k fun x => { x with svec := v - v % 64 }
  | 0x201 => { s with claims := Map.upd s.claims k fun c => { c with thresh := v % 16 } }
  | 0x203 => endInterrupt s k (v % 1024)
  | n =>
    if 0x010 ≤ n ∧ n ≤ 0x013 then updThread s a fun x => { x with watch := Map.set x.watch (n - 0x010) (v % 2 ^ 13) }
    else if 0x105 ≤ n ∧ n ≤ 0x107 then updSteward s k fun x => { x with scratch := Map.set x.scratch (n - 0x105) v }
    else if 0x110 ≤ n ∧ n ≤ 0x11F then
      updSteward s k fun x => { x with srpu := Map.set x.srpu (n - 0x110) (v &&& regionMask) }
    else s

/-- SRW: a special register takes ra; a write to a read-only one is ignored (R732). -/
def execSrw (agent ra n : Nat) (s : State) : Out :=
  run s (issue agent [ra] fun s =>
    match specialFault s agent n with
    | some c => exception s agent c 0
    | none => advance (specialWrite s agent n (greg s agent ra)) agent)

/-! ### Timers (R689, R697) -/

/-- THREAD_TIMER: an armed timer whose TT64 has been reached sets timer_fired and may wake its thread (R67, R689). -/
def execThreadTimer (t : Nat) (s : State) : Out :=
  run s fun s =>
    let x := threadInt s t
    if t < 512 && x.armed && decide (x.timer ≤ now s) && decide (threadState s t ≠ thStopped) && !dueBefore s x.timer then
      let s := applyFirst .rly x.timer s
      wakeIfReady ((updThread s t fun x => { x with armed := false }).wr RLY_THCTX.timer_fired 1 t) t
    else s

/-! ### The stall detector (R692 to R695) -/

/-- A waiting thread's wait counts as a stall (R692). -/
def waitStalls (s : State) (t : Nat) : Bool :=
  match (threadInt s t).wait with
  | .recv ch _ => (Map.get s.rly.chans ch).isEmpty
  | .send ch _ => decide (16 ≤ (Map.get s.rly.chans ch).length)
  | .events mask _ => mask = 1 && readyMask s t % 2 = 0
  | .none => false

/-- A core is found stalled (R692, R695). -/
def coreStalled (s : State) (c : Nat) : Bool :=
  let live := ((List.range 8).map fun j => c * 8 + j).filter fun t =>
    decide (threadState s t ≠ thStopped) && decide (threadState s t ≠ thFaulted)
  !live.isEmpty && live.all fun t => decide (threadState s t = thWait) && waitStalls s t

/-- The cores that are found stalled: each has a thread in WAIT (R692). -/
def stalledCores (s : State) : List Nat := (((Map.keys s.rly.threads).map coreOf).eraseDups).filter (coreStalled s)

/-- One tick of 16 relay-clock cycles: a core's lane sends the requests of two slots, and the cores found stalled are so for
16 cycles more; one that is not may be recorded again (R673, R675, R693). -/
def relayTick (s : State) : State :=
  { s with rly := { s.rly with
    lane := (Map.keys s.rly.lane).foldl (fun m c => Map.set m c (Map.get s.rly.lane c - 2)) []
    stalled := s.rly.stalled.filter (coreStalled s)
    stallFor := (stalledCores s).foldl (fun m c => Map.set m c (Map.get s.rly.stallFor c + 16)) [] } }

/-- STALL_DETECT: the core has been found stalled for the configured cycles; it is recorded once (R693). -/
def execStallDetect (core : Nat) (s : State) : Out :=
  run s fun s =>
    if !coreStalled s core then unstall s (core * 8)
    else if decide (core < 64) && decide (s.rd RLY_STALL_CYCLES.cycles ≠ 0)
        && decide (s.rd RLY_STALL_CYCLES.cycles ≤ Map.get s.rly.stallFor core) && !s.rly.stalled.contains core then
      let s := { s with rly := { s.rly with stalled := s.rly.stalled ++ [core] } }
      raise ((s.wr RLY_STALLQ.core core).countSat RLY_STALLQ.count) 0x180
    else s

/-! ### RLY_TCMD and RLY_DBG (R696 to R706) -/

/-- A RLY_TCMD action on a thread whose state allows it; the result is reported (R705, R706). -/
def threadCommand (who : Initiator) (t action : Nat) (ok : State → Bool) (f : State → State) (s : State) : State :=
  setupWrite RLY_TCMD.go 0 1 who s fun s =>
    let s := (s.wr RLY_TCMD.thread t).wr RLY_TCMD.action action
    if decide (t < 512) && ok s then f (s.wr RLY_TCMD.result 0) else s.wr RLY_TCMD.result 1

/-- RELAY_START: a STOPPED thread starts, once relay threads are released (R706, R863). -/
def execRelayStart (who : Initiator) (t : Nat) (s : State) : Out :=
  run s (threadCommand who t 0 (fun s => decide (threadState s t = thStopped) && s.on BOOT_CTL.relay_release)
    fun s => startThread s t)

/-- RELAY_STOP: a thread in any state but STOPPED stops (R704, R706). -/
def execRelayStop (who : Initiator) (t : Nat) (s : State) : Out :=
  run s (threadCommand who t 1 (fun s => decide (threadState s t ≠ thStopped)) fun s => stopThread s t)

/-- HALT of a READY or WAIT thread (R696, R706). -/
def execThreadHalt (who : Initiator) (t : Nat) (s : State) : Out :=
  run s (threadCommand who t 2 (fun s => decide (threadState s t = thReady ∨ threadState s t = thWait))
    fun s => haltThread s t)

/-- A HALTED thread is READY at its pc again (R699). -/
def resumeThread (s : State) (t : Nat) : State :=
  setThreadState (setPc s t (s.rd RLY_THCTX.pc t)) t thReady

/-- RELAY_RESUME of a HALTED thread (R699, R706). -/
def execRelayResume (who : Initiator) (t : Nat) (s : State) : Out :=
  run s (threadCommand who t 3 (fun s => decide (threadState s t = thHalted)) fun s => resumeThread s t)

/-- The debug unit may reach the registers of a thread (R701). -/
def debugOk (s : State) (t reg : Nat) : Bool :=
  decide (t < 512) && decide (reg ≤ 32) && decide (threadState s t = thHalted ∨ threadState s t = thFaulted)

/-- A debug access in its register (R705). -/
def debugAccess (s : State) (t reg w : Nat) : State :=
  (((s.wr RLY_DBG.thread t).wr RLY_DBG.reg reg).wr RLY_DBG.write w).wr RLY_DBG.bad_state (flag (!debugOk s t reg))

/-- DEBUG_READ: a register or the pc of a HALTED or FAULTED thread (R701, R705). -/
def execDebugRead (who : Initiator) (t reg : Nat) (s : State) : Out :=
  run s fun s => setupWrite RLY_DBG.go 0 1 who s fun s =>
    let ok := debugOk s t reg
    let s := debugAccess s t reg 0
    if ok then
      s.wr RLY_DBG_DATA.data (if reg = 32 then s.rd RLY_THCTX.pc t else greg s t reg)
    else s

/-- DEBUG_WRITE: a register or the pc of a HALTED or FAULTED thread (R701, R705, R709). -/
def execDebugWrite (who : Initiator) (t reg value : Nat) (s : State) : Out :=
  run s fun s => setupWrite RLY_DBG.go 0 1 who s fun s =>
    let ok := debugOk s t reg
    let s := (debugAccess s t reg 1).wr RLY_DBG_DATA.data value
    if ok then
      if reg = 32 then setPc (s.wr RLY_THCTX.pc value t) t value else setGreg s t reg value
    else s

/-- RLY_STALLQ read: its count is returned and cleared (R705). -/
def execRlyStallqRead (who : Initiator) (s : State) : Out :=
  run s fun s => managed .rly who s fun s =>
    (answer s (s.rd RLY_STALLQ.core + s.rd RLY_STALLQ.count <<< 24)).wr RLY_STALLQ.count 0

/-- RLY_FAULTQ read: its count is returned and cleared (R705). -/
def execRlyFaultqRead (who : Initiator) (s : State) : Out :=
  run s fun s => managed .rly who s fun s =>
    (answer s (s.rd RLY_FAULTQ.thread + s.rd RLY_FAULTQ.cause <<< 16 + s.rd RLY_FAULTQ.count <<< 24)).wr
      RLY_FAULTQ.count 0

/-! ### Reserved encodings (R711) -/

/-- ILLEGAL_INSTRUCTION: an agent issues a word that spells no instruction (R702, R711, R738). -/
def execIllegalInstruction (agent word : Nat) (s : State) : Out :=
  run s fun s =>
    if (decodeRelay word).isNone then issue agent [] (fun s => exception s agent exIllegal 0) s else s

end Sys2Proof.Machine
end

