-- ==== Sys2Proof/Machine/FlowTables.lean ====
section
/-! DEFINITION. Flow tables: hashes, entries, placement, command ports, learning, ageing, LPM and ternary tables, and the
audit (chapter Flow tables and learning). -/
namespace Sys2Proof.Machine

/-! ### Geometry (R365, R373) -/

/-- The table has two copies. -/
def twoCopies (s : State) (t : Nat) : Bool := decide (s.rd FT_TABLE.kind t = 1) && s.on FT_TABLE.per_pipe t
/-- The copies of a table. -/
def copiesOf (s : State) (t : Nat) : List Nat := if twoCopies s t then [0, 1] else [0]
/-- Buckets of one copy. -/
def bucketsOf (s : State) (t : Nat) : Nat := 2 ^ s.rd FT_TABLE.log2_buckets t
/-- Bytes of a key. -/
def keyBytes (s : State) (t : Nat) : Nat := 4 * s.rd FT_TABLE.key_words t
/-- A wide table has two entries per bucket. -/
def isWide (s : State) (t : Nat) : Bool := decide (6 ≤ s.rd FT_TABLE.key_words t)
/-- Entries per bucket. -/
def slotsOf (s : State) (t : Nat) : Nat := if isWide s t then 2 else 4
/-- The bytes of one entry. -/
def entrySize (s : State) (t : Nat) : Nat := if isWide s t then 128 else 64
/-- The first byte of the memory that holds a table's buckets (R373). -/
def tableMem (s : State) (t : Nat) : Nat := if s.on FT_TABLE.mem t then areaBase s 0 else sramBase + 0x04E00000
/-- The first bucket of a copy. -/
def copyFirst (s : State) (t c : Nat) : Nat := s.rd FT_TABLE.base t + c * bucketsOf s t
/-- The address of a bucket. -/
def bucketAddr (s : State) (t c b : Nat) : Nat := tableMem s t + (copyFirst s t c + b) * 256
/-- The address of an entry. -/
def entryAddr (s : State) (t c b e : Nat) : Nat := bucketAddr s t c b + e * entrySize s t

/-! ### Entries (R374) -/

/-- An exact-match entry. -/
structure FtEntry where
  valid    : Bool
  learned  : Bool
  action   : Nat
  hitStamp : Nat
  insStamp : Nat
  key      : Nat
  data     : Nat
deriving DecidableEq, Repr, Inhabited

/-- The entry in a slot. -/
def loadEntry (s : State) (t c b e : Nat) : FtEntry :=
  let bs := memLoad s (entryAddr s t c b e) (entrySize s t)
  let w0 := leAt bs 0 4
  { valid := w0.testBit 0, learned := w0.testBit 1, action := bitsAt w0 8 8, hitStamp := leAt bs 4 4,
    insStamp := leAt bs 8 4, key := leAt bs 12 (keyBytes s t), data := leAt bs (if isWide s t then 0x60 else 0x20) 32 }

/-- The bytes of an entry. -/
def entryBytes (wide : Bool) (x : FtEntry) : Bytes :=
  leBytes 4 (flag x.valid + 2 * flag x.learned + x.action * 256) ++ leBytes 4 x.hitStamp ++ leBytes 4 x.insStamp
    ++ leBytes (if wide then 84 else 20) x.key ++ leBytes 32 x.data

/-- The lines of an entry written, charged to account 0: for a table in GDDR6 to the device that holds each (R29, R81). -/
def chargeEntry (s : State) (t a : Nat) : State :=
  let n := entrySize s t / 64
  if s.on FT_TABLE.mem t then (List.range n).foldl (fun u i => g6Access u (a + 64 * i) true 0) s
  else sramAccess s n 0

/-- An entry written in one transaction (R378). -/
def storeEntry (s : State) (t c b e : Nat) (x : FtEntry) : State :=
  memStore (chargeEntry s t (entryAddr s t c b e)) (entryAddr s t c b e) (entryBytes (isWide s t) x)

/-- The stamp of the present time: TT64[55:24] (R374). -/
def stampNow (s : State) : Nat := bitsAt (now s) 24 32

/-- The count of valid entries of a copy (R406). -/
def countEntries (s : State) (t c : Nat) (up : Bool) : State :=
  let n := bitsAt (s.rd FT_TABLE.entries t) (32 * c) 32
  s.wr FT_TABLE.entries (putBits (s.rd FT_TABLE.entries t) (32 * c) 32 (if up then n + 1 else n - 1)) t

/-- An entry becomes invalid. -/
def clearEntry (s : State) (t c b e : Nat) : State :=
  let x := loadEntry s t c b e
  if x.valid then countEntries (storeEntry s t c b e { x with valid := false }) t c false else s

/-! ### Hashes (R375, R376) -/

/-- The two buckets of a key. -/
def bucketPair (s : State) (t key : Nat) : Nat × Nat :=
  let bs := leBytes (keyBytes s t) key
  let n := s.rd FT_TABLE.log2_buckets t
  let h0 := crc32cSteps (s.rd FT_TABLE.seed0 t) bs ^^^ 0xFFFFFFFF
  let h1 := crc32Steps (s.rd FT_TABLE.seed1 t) bs.reverse ^^^ 0xFFFFFFFF
  let b0 := h0 % 2 ^ n
  let b1 := h1 % 2 ^ n
  (b0, if b1 = b0 then b0 ^^^ 1 else b1)

/-- A line of the bucket fails detection again and again: the bucket holds no match for a lookup (R405). -/
def bucketBad (s : State) (t c b : Nat) : Bool :=
  let l := bucketAddr s t c b / 64
  s.poison.any fun p => decide (l ≤ p) && decide (p < l + 4)

/-- The slot of a bucket that holds a valid entry with the key. -/
def slotWith (s : State) (t c b key : Nat) : Option Nat :=
  (List.range (slotsOf s t)).find? fun e =>
    let x := loadEntry s t c b e
    x.valid && decide (x.key = key)

/-- Where a key is: in b0 before b1 (R377). -/
def findKey (s : State) (t c key : Nat) : Option (Nat × Nat) :=
  let bb := bucketPair s t key
  match (if bucketBad s t c bb.1 then none else slotWith s t c bb.1 key) with
  | some e => some (bb.1, e)
  | none => ((if bucketBad s t c bb.2 then none else slotWith s t c bb.2 key)).map fun e => (bb.2, e)

/-! ### The log of lost entries (R405, R406) -/

/-- FT_LOST shows the head of its log. -/
def syncLost (s : State) : State :=
  match s.ft.lost with
  | [] => (((s.wr FT_LOST.table 0).wr FT_LOST.copy 0).wr FT_LOST.bucket 0).wr FT_LOST.entry_valid 0
  | x :: _ =>
    (((s.wr FT_LOST.table (bitsAt x 0 6)).wr FT_LOST.copy (bitsAt x 6 1)).wr FT_LOST.bucket (bitsAt x 8 23)).wr
      FT_LOST.entry_valid 1

/-- A lost entry is logged and reported (R405, R406). -/
def pushLost (s : State) (t c b : Nat) : State :=
  let s := if 64 ≤ s.ft.lost.length then s.countSat FT_LOST.lost
    else syncLost { s with ft := { s.ft with lost := s.ft.lost ++ [t + c <<< 6 + b <<< 8] } }
  raise s 0x0C0

/-- The exact-match table, copy and bucket that a line of memory belongs to. -/
def bucketOfLine (s : State) (addr : Nat) : Option (Nat × Nat × Nat) :=
  ((List.range 64).filter fun t => s.on FT_TABLE.valid t && decide (s.rd FT_TABLE.kind t = 1)).findSome? fun t =>
    (copiesOf s t).findSome? fun c =>
      let lo := bucketAddr s t c 0
      if lo ≤ addr ∧ addr < lo + bucketsOf s t * 256 then some (t, c, (addr - lo) / 256) else none

/-- A line of a table copy is lost: the update unit clears every entry that occupies it, with the whole of a wide entry,
and writes the line with a fresh code (R405). -/
def loseTableLine (s : State) (addr t c b : Nat) : State :=
  let e := (addr - bucketAddr s t c b) / entrySize s t
  let s := clearEntry s t c b e
  pushLost { s with poison := s.poison.filter fun l => decide (l ≠ addr / 64) } t c b

/-- The lines of a table copy in a range of addresses whose code is bad fire as its update unit or a lookup reads them: they
are lost (R405, R972). -/
def loseBadLines (s : State) (t c lo n : Nat) : State :=
  (s.poison.filter fun l => lineTouched lo n l).foldl (fun u l =>
    loseTableLine (detFailed u) (l * 64) t c ((l * 64 - bucketAddr s t c 0) / 256)) s

/-- The two buckets of a key read for an account, 8 lines (R29, R81). -/
def chargeBuckets (s : State) (t c acct : Nat) (bb : Nat × Nat) : State :=
  if s.on FT_TABLE.mem t then
    [bucketAddr s t c bb.1, bucketAddr s t c bb.2].foldl (fun s b =>
      (List.range 4).foldl (fun s i => g6Access s (b + 64 * i) false acct) s) s
  else sramAccess s 8 acct

/-- The two buckets of a key read for an account, with the lines of them that are lost (R377, R405). -/
def readBuckets (s : State) (t c key acct : Nat) : State :=
  let bb := bucketPair s t key
  let s := chargeBuckets s t c acct bb
  loseBadLines (loseBadLines s t c (bucketAddr s t c bb.1) 256) t c (bucketAddr s t c bb.2) 256

/-! ### Notifications (R391) -/

/-- The baton of a notification. -/
def notifyImage (s : State) (ev t c b e : Nat) (x : FtEntry) : Nat :=
  let slot := if isWide s t then 2 * e else e
  ev + t <<< 8 + c <<< 14 + (b + slot <<< 23) <<< 32 + (x.action + flag x.learned <<< 8) <<< 64 + x.hitStamp <<< 96
    + (x.key % 2 ^ 384) <<< 128

/-- The notification of an eviction (1) or an age removal (2), or its drop for want of a credit. -/
def flowNotify (s : State) (ev t c b e : Nat) (x : FtEntry) : State :=
  if s.on FT_TABLE.notify_en t then
    match deviceSend s srcFlow (s.rd FT_TABLE.notify_ch t) (notifyImage s ev t c b e x) 0 with
    | some s' => s'
    | none => s.count FT_NOTIFY_DROP.count
  else s

/-! ### Placement (R380 to R383) -/

/-- The lowest free slot of a bucket. -/
def freeSlot (s : State) (t c b : Nat) : Option Nat :=
  (List.range (slotsOf s t)).find? fun e => !(loadEntry s t c b e).valid

/-- The rotor's next slot of a bucket that is not on the path; it advances past each slot it skips. -/
def pickSlot (t slots b : Nat) (path : List (Nat × Nat)) : Nat → State → Option Nat × State
  | 0, s => (none, s)
  | fuel + 1, s =>
    let e := Map.get s.ft.rotor t % slots
    let s := { s with ft := { s.ft with rotor := Map.set s.ft.rotor t ((Map.get s.ft.rotor t + 1) % 4) } }
    if path.contains (b, e) then pickSlot t slots b path fuel s else (some e, s)

/-- The search for a relocation path: the path, newest move first, and the free slot at its far end. -/
def searchPath (t c : Nat) : Nat → Nat → List (Nat × Nat) → State → Option (List (Nat × Nat) × Nat × Nat) × State
  | 0, _, _, s => (none, s)
  | fuel + 1, b, path, s =>
    match pickSlot t (slotsOf s t) b path (slotsOf s t) s with
    | (none, s) => (none, s)
    | (some e, s) =>
      let bb := bucketPair s t (loadEntry s t c b e).key
      let b' := if bb.1 = b then bb.2 else bb.1
      match freeSlot s t c b' with
      | some f => (some ((b, e) :: path, b', f), s)
      | none => searchPath t c fuel b' ((b, e) :: path) s

/-- A relocation path applied from its far end: each entry is written into its new slot before its old one is reused
(R381).  The slot that becomes free is the path's first. -/
def applyPath (s : State) (t c : Nat) : List (Nat × Nat) → Nat → Nat → State × Nat × Nat
  | [], b, e => (s, b, e)
  | p :: rest, b, e => applyPath (storeEntry s t c b e (loadEntry s t c p.1 p.2)) t c rest p.1 p.2

/-- The entry that an eviction overwrites (R380). -/
def victimOf (s : State) (t c : Nat) (bb : Nat × Nat) : Option (Nat × Nat) × State :=
  let cs := ((List.range (slotsOf s t)).map fun e => (bb.1, e)) ++ (List.range (slotsOf s t)).map fun e => (bb.2, e)
  let cs := cs.filter fun p => (loadEntry s t c p.1 p.2).valid && (loadEntry s t c p.1 p.2).learned
  let age := fun p : Nat × Nat => subMod 32 (stampNow s) (loadEntry s t c p.1 p.2).hitStamp
  match s.rd FT_TABLE.evict_mode t, cs with
  | 1, p :: rest => (some (rest.foldl (fun best q => if age best < age q then q else best) p), s)
  | 2, p :: rest =>
    let (v, s) := freeWord s
    let s := { s with ft := { s.ft with lfsr := Map.set s.ft.lfsr t (v % 65536) } }
    (some (nth (p :: rest) (v % 65536 % (rest.length + 1)) p), s)
  | _, _ => (none, s)

/-- A new key is placed; false where the placement ends FULL (R380 to R383). -/
def placeKey (s : State) (t c : Nat) (x : FtEntry) (noEvict : Bool) : State × Bool :=
  let bb := bucketPair s t x.key
  match freeSlot s t c bb.1, freeSlot s t c bb.2 with
  | some e, _ => (countEntries (storeEntry s t c bb.1 e x) t c true, true)
  | none, some e => (countEntries (storeEntry s t c bb.2 e x) t c true, true)
  | none, none =>
    match searchPath t c 8 bb.1 [] s with
    | (some (path, b, f), s) =>
      let (s, b, e) := applyPath s t c path b f
      (countEntries (storeEntry s t c b e x) t c true, true)
    | (none, s) =>
      if noEvict then (s, false)
      else match victimOf s t c bb with
        | (none, s) => (s, false)
        | (some (b, e), s) =>
          let v := loadEntry s t c b e
          (flowNotify ((storeEntry s t c b e x).count FT_TABLE.evictions 1 t) 1 t c b e v, true)

/-- A new entry of the present time (R382). -/
def newEntry (s : State) (learned : Bool) (action key data : Nat) : FtEntry :=
  { valid := true, learned := learned, action := action, hitStamp := stampNow s, insStamp := stampNow s, key := key,
    data := data }

/-! ### LPM prefixes (R395 to R398) -/

/-- Address bits of a table's prefixes. -/
def addrBits (s : State) (t : Nat) : Nat := if s.on FT_TABLE.af t then 128 else 32
/-- The address without the bits beyond a length. -/
def prefixAddr (w len a : Nat) : Nat := a >>> (w - len) <<< (w - len)
/-- Units that the stored prefixes take. -/
def lpmUnits (s : State) : Nat :=
  s.ft.lpm.foldl (fun n p => n + if s.on FT_TABLE.af p.table then 4 else 1) 0
/-- The address in a key field: 4 or 16 bytes in network byte order (R396). -/
def lpmAddr (s : State) (t key : Nat) : Nat := ofBe (leBytes (addrBits s t / 8) key)
/-- An exact prefix of a table. -/
def findPrefix (s : State) (t addr len : Nat) : Option LpmPrefix :=
  s.ft.lpm.find? fun p => decide (p.table = t) && decide (p.addr = addr) && decide (p.len = len)
/-- The store without one prefix. -/
def dropPrefix (s : State) (p : LpmPrefix) : State :=
  { s with ft := { s.ft with lpm := s.ft.lpm.filter fun x => decide (x ≠ p) } }
/-- The store with one more prefix. -/
def addPrefix (s : State) (p : LpmPrefix) : State := { s with ft := { s.ft with lpm := s.ft.lpm ++ [p] } }

/-! ### Operations of the command ports (R384 to R388) -/

/-- Result codes. -/
def ftOk : Nat := 0
/-- The key or prefix is present. -/
def ftExists : Nat := 1
/-- It is absent. -/
def ftNotFound : Nat := 2
/-- No place. -/
def ftFull : Nat := 3
/-- The table is not valid and ready. -/
def ftBadTable : Nat := 4
/-- The operation does not fit. -/
def ftBadArg : Nat := 5

/-- Entry fields read back into a port (R387). -/
def readBack (s : State) (o : FtOp) (x : FtEntry) : State :=
  if o.first then
    ((((s.wr FT_CMD.action x.action o.port).wr FT_CMD.learned (flag x.learned) o.port).wr FT_CMD.hit_stamp x.hitStamp
      o.port).wr FT_CMD.key x.key o.port).wr FT_CMD.data x.data o.port
  else s

/-- An operation on an exact-match key. -/
def emOp (s : State) (o : FtOp) : State × Nat :=
  let t := o.table
  let c := o.copy
  let key := o.key % 2 ^ (8 * keyBytes s t)
  let s := if o.op = 6 then s else readBuckets s t c key 0
  match o.op, findKey s t c key with
  | 1, some _ => (s, ftExists)
  | 2, none => (s, ftNotFound)
  | 4, none => (s, ftNotFound)
  | 5, none => (s, ftNotFound)
  | 2, some (b, e) => (storeEntry s t c b e { loadEntry s t c b e with action := o.action, data := o.data }, ftOk)
  | 3, some (b, e) => (storeEntry s t c b e { loadEntry s t c b e with action := o.action, data := o.data }, ftOk)
  | 4, some (b, e) => (clearEntry s t c b e, ftOk)
  | 5, some (b, e) => (readBack s o (loadEntry s t c b e), ftOk)
  | 6, _ =>
    let b := bitsAt o.arg 0 23
    let e := if isWide s t then bitsAt o.arg 24 2 / 2 else bitsAt o.arg 24 2
    if bucketsOf s t ≤ b then (s, ftBadArg)
    else if (loadEntry s t c b e).valid then (readBack s o (loadEntry s t c b e), ftOk) else (s, ftNotFound)
  | _, none =>
    let (s, ok) := placeKey s t c (newEntry s false o.action key o.data) o.noEvict
    (s, if ok then ftOk else ftFull)
  | _, _ => (s, ftBadArg)

/-- An operation on an LPM prefix. -/
def lpmOp (s : State) (o : FtOp) : State × Nat :=
  let t := o.table
  let w := addrBits s t
  let len := bitsAt o.arg 0 8
  let addr := prefixAddr w len (lpmAddr s t o.key)
  let new : LpmPrefix := ⟨t, addr, len, o.action, o.data % 65536⟩
  if w < len then (s, ftBadArg)
  else match o.op, findPrefix s t addr len with
    | 1, some _ => (s, ftExists)
    | 2, none => (s, ftNotFound)
    | 4, none => (s, ftNotFound)
    | 5, none => (s, ftNotFound)
    | 4, some p => (countEntries (dropPrefix s p) t 0 false, ftOk)
    | 5, some p =>
      (if o.first then (s.wr FT_CMD.action p.action o.port).wr FT_CMD.data p.result o.port else s, ftOk)
    | _, some p => (addPrefix (dropPrefix s p) new, ftOk)
    | _, none =>
      if 1048576 < lpmUnits s + (if s.on FT_TABLE.af t then 4 else 1) then (s, ftFull)
      else (countEntries (addPrefix s new) t 0 true, ftOk)

/-- The place of a ternary table's entry in its pipeline's array. -/
def ternKey (s : State) (t i : Nat) : Nat := s.rd FT_TABLE.tpipe t * 4096 + s.rd FT_TABLE.first t + i

/-- An operation on a ternary entry (R399). -/
def ternOp (s : State) (o : FtOp) : State × Nat :=
  let i := bitsAt o.arg 0 12
  let k := ternKey s o.table i
  let old := Map.get s.ft.tern k
  if s.rd FT_TABLE.count o.table ≤ i then (s, ftBadArg)
  else if o.op = 8 then
    let x : TernEntry := ⟨o.tValid, o.key, o.mask, o.action, o.data⟩
    let s := { s with ft := { s.ft with tern := Map.set s.ft.tern k x } }
    (if x.valid = old.valid then s else countEntries s o.table 0 x.valid, ftOk)
  else
    ((((((s.wr FT_CMD.action old.action o.port).wr FT_CMD.t_valid (flag old.valid) o.port).wr FT_CMD.key old.value
      o.port).wr FT_CMD.mask old.mask o.port).wr FT_CMD.data old.data o.port), ftOk)

/-- The operation fits the kind of table (R386). -/
def opFits (kind op : Nat) : Bool :=
  match kind with
  | 1 => decide (1 ≤ op) && decide (op ≤ 6)
  | 2 => (decide (1 ≤ op) && decide (op ≤ 5)) || op = 7
  | 3 => op = 8 || op = 9
  | _ => false

/-- A table takes part in lookups as far as its own bits say: valid and ready. -/
def tableLive (s : State) (t : Nat) : Bool := s.on FT_TABLE.valid t && s.on FT_TABLE.ready t

/-- The TABLE record of an operation performed: op, action, arg, key, mask and data (R913). -/
def deltaTable (s : State) (o : FtOp) : State :=
  delta s 0x0A (o.table * 2 + o.copy) (leBytes 1 o.op ++ leBytes 1 o.action ++ leBytes 2 (flag o.noEvict + 2 * flag o.tValid)
    ++ leBytes 4 o.arg ++ leBytes 64 o.key ++ leBytes 64 o.mask ++ leBytes 32 o.data)

/-- One copy carries out an operation (R386). -/
def performOp (s : State) (o : FtOp) : State × Nat :=
  let kind := s.rd FT_TABLE.kind o.table
  if !tableLive s o.table then (s, ftBadTable)
  else if !opFits kind o.op then (s, ftBadArg)
  else if o.op = 7 then
    ({ s with ft := { s.ft with results := Map.set s.ft.results (o.arg % 65536) o.data } }, ftOk)
  else match kind with
    | 1 => emOp s o
    | 2 => lpmOp s o
    | _ => ternOp s o

/-- A port's operation has ended at a copy: its result, and busy while another copy has it to carry out (R384). -/
def endOp (s : State) (o : FtOp) (r : Nat) : State :=
  let s := if o.copy = 0 then s.wr FT_CMD.result0 r o.port else s.wr FT_CMD.result1 r o.port
  s.wr FT_CMD.busy (flag (s.ft.waiting.any fun x => decide (x.port = o.port))) o.port

/-- The audit is walking the copy, so that its update unit carries out nothing else (R402). -/
def walked (s : State) (t c : Nat) : Bool := decide (s.ft.walk = some (t, c))

/-- An operation reaches a copy's update unit: it is carried out, or waits for the walk to end. -/
def submitOp (s : State) (o : FtOp) : State :=
  if walked s o.table o.copy && tableLive s o.table then
    ({ s with ft := { s.ft with waiting := s.ft.waiting ++ [o] } }).wr FT_CMD.busy 1 o.port
  else
    let (s, r) := performOp s o
    endOp (deltaTable s o) o r

/-- The copies that a port's operation addresses (R385). -/
def addressed (s : State) (t copies : Nat) : List Nat :=
  if twoCopies s t then [0, 1].filter fun c => copies.testBit c else [0]

/-- A write of go = 1 to a command port with an operation code (R384, R385). -/
def ftCommand (who : Initiator) (port op : Nat) (s : State) : State :=
  setupWrite FT_CMD.go port 1 who s fun s =>
    if s.on FT_CMD.busy port then s.wr (lockedWriteField .ft) 1
    else
      let s := s.wr FT_CMD.op op port
      let t := s.rd FT_CMD.table port
      let cs := addressed s t (s.rd FT_CMD.copies port)
      if cs.isEmpty && tableLive s t then (s.wr FT_CMD.result0 ftBadArg port).wr FT_CMD.result1 ftBadArg port
      else
        let mk := fun (c : Nat) (first : Bool) => FtOp.mk port c op t (s.rd FT_CMD.key port) (s.rd FT_CMD.mask port)
          (s.rd FT_CMD.data port) (s.rd FT_CMD.action port) (s.rd FT_CMD.arg port) (s.on FT_CMD.no_evict port)
          (s.on FT_CMD.t_valid port) first
        let cs := if cs.isEmpty then [0] else cs
        cs.foldl (fun s c => submitOp s (mk c (some c = cs.head?))) s

/-- The port numbers are 0 to 7. -/
def ftPort (who : Initiator) (port op : Nat) (s : State) : State := if port < 8 then ftCommand who port op s else s

/-- INSERT: adds a key or prefix (R386). -/
def execFtInsert (who : Initiator) (port : Nat) (s : State) : Out := run s (ftPort who port 1)
/-- UPDATE: rewrites the action and data of a present key (R386, R387). -/
def execFtUpdate (who : Initiator) (port : Nat) (s : State) : Out := run s (ftPort who port 2)
/-- UPSERT: UPDATE of a present key, INSERT of an absent one (R386, R387). -/
def execFtUpsert (who : Initiator) (port : Nat) (s : State) : Out := run s (ftPort who port 3)
/-- DELETE: removes a key or prefix (R386). -/
def execFtDelete (who : Initiator) (port : Nat) (s : State) : Out := run s (ftPort who port 4)
/-- LOOKUP: reads back the entry of a key or prefix (R386, R387). -/
def execFtLookup (who : Initiator) (port : Nat) (s : State) : Out := run s (ftPort who port 5)
/-- READ_SLOT: reads back the entry at a bucket and slot (R386, R387). -/
def execFtReadSlot (who : Initiator) (port : Nat) (s : State) : Out := run s (ftPort who port 6)
/-- WRITE_RESULT: writes an LPM result record (R386, R398). -/
def execFtWriteResult (who : Initiator) (port : Nat) (s : State) : Out := run s (ftPort who port 7)
/-- TERN_WRITE: writes a ternary entry (R399). -/
def execFtTernWrite (who : Initiator) (port : Nat) (s : State) : Out := run s (ftPort who port 8)
/-- TERN_READ: reads back a ternary entry (R386, R387). -/
def execFtTernRead (who : Initiator) (port : Nat) (s : State) : Out := run s (ftPort who port 9)

/-! ### Validity of tables (R369 to R371) -/

/-- Two ranges of numbers overlap. -/
def overlaps (a n b m : Nat) : Bool := decide (a < b + m) && decide (b < a + n)

/-- The last bucket that a memory holds, plus 1 (R369). -/
def memBuckets (s : State) (mem : Bool) : Nat := if mem then s.areas.flow * 4096 else 114688

/-- Buckets of all copies of a table. -/
def allBuckets (s : State) (t : Nat) : Nat := (copiesOf s t).length * bucketsOf s t

/-- The bucket geometry of an exact-match table is free (R369). -/
def emGeometryOk (s : State) (t : Nat) : Bool :=
  decide (s.rd FT_TABLE.base t + allBuckets s t ≤ memBuckets s (s.on FT_TABLE.mem t))
    && (List.range 64).all fun u =>
      !(s.on FT_TABLE.valid u && decide (s.rd FT_TABLE.kind u = 1)
        && decide (s.rd FT_TABLE.mem u = s.rd FT_TABLE.mem t)
        && overlaps (s.rd FT_TABLE.base t) (allBuckets s t) (s.rd FT_TABLE.base u) (allBuckets s u))

/-- The range of a ternary table is free (R369). -/
def ternGeometryOk (s : State) (t : Nat) : Bool :=
  decide (s.rd FT_TABLE.count t ≠ 0) && decide (s.rd FT_TABLE.first t + s.rd FT_TABLE.count t ≤ 4096)
    && (List.range 64).all fun u =>
      !(s.on FT_TABLE.valid u && decide (s.rd FT_TABLE.kind u = 3)
        && decide (s.rd FT_TABLE.tpipe u = s.rd FT_TABLE.tpipe t)
        && overlaps (s.rd FT_TABLE.first t) (s.rd FT_TABLE.count t) (s.rd FT_TABLE.first u) (s.rd FT_TABLE.count u))

/-- The descriptor passes the checks of R369. -/
def descriptorOk (s : State) (t : Nat) : Bool :=
  let k := s.rd FT_TABLE.kind t
  let n := s.rd FT_TABLE.log2_buckets t
  let kw := s.rd FT_TABLE.key_words t
  decide (k ≠ 0) && decide (1 ≤ kw) && decide (kw ≤ 16) && decide (4 ≤ n) && decide (n ≤ 23)
    && !(s.on FT_TABLE.learn_en t && (decide (k ≠ 1) || !s.on FT_TABLE.per_pipe t))
    && (decide (k ≠ 1) || emGeometryOk s t) && (decide (k ≠ 3) || ternGeometryOk s t)

/-- TABLE_VALIDATE: a write of valid = 1 to a table that is not valid (R369, R370). -/
def execTableValidate (who : Initiator) (table : Nat) (s : State) : Out :=
  run s fun s => setupWrite FT_TABLE.valid table 1 who s fun s =>
    if 64 ≤ table || s.on FT_TABLE.valid table then s
    else if descriptorOk s table then (s.wr FT_TABLE.valid 1 table).wr FT_TABLE.ready 0 table
    else s.wr FT_TABLE.geo_err 1 table

/-- Every entry of an exact-match copy becomes invalid: bit 0 of each listed entry's first byte (R370). -/
def clearCopy (s : State) (t c : Nat) : State :=
  let lo := bucketAddr s t c 0
  let n := bucketsOf s t * 256
  let hits := s.mem.filterMap fun p =>
    if lo ≤ p.1 ∧ p.1 < lo + n ∧ (p.1 - lo) % entrySize s t = 0 then some (p.1, p.2) else none
  hits.foldl (fun s p => memStore s p.1 [BitVec.ofNat 8 (p.2.toNat / 2 * 2)]) s

/-- Every copy of a table cleared (R370). -/
def clearTable (s : State) (t : Nat) : State :=
  match s.rd FT_TABLE.kind t with
  | 1 => (copiesOf s t).foldl (fun s c => clearCopy s t c) s
  | 2 => { s with ft := { s.ft with lpm := s.ft.lpm.filter fun p => decide (p.table ≠ t) } }
  | _ =>
    let lo := ternKey s t 0
    let keep := s.ft.tern.filter fun p => decide (p.1 < lo) || decide (lo + s.rd FT_TABLE.count t ≤ p.1)
    { s with ft := { s.ft with tern := keep } }

/-- TABLE_CLEAR_DONE: the copies of a valid table are cleared and it is ready (R370). -/
def execTableClearDone (table : Nat) (s : State) : Out :=
  run s fun s =>
    if decide (table < 64) && s.on FT_TABLE.valid table && !s.on FT_TABLE.ready table then
      (((clearTable s table).wr FT_TABLE.entries 0 table).wr FT_TABLE.faulted 0 table).wr FT_TABLE.ready 1 table
    else s

/-- The operations that waited for a copy are carried out in their order. -/
def releaseWaiting (s : State) (t c : Nat) : State :=
  let mine := s.ft.waiting.filter fun o => decide (o.table = t) && decide (o.copy = c)
  let s := { s with ft := { s.ft with
    waiting := s.ft.waiting.filter fun o => !(decide (o.table = t) && decide (o.copy = c)) } }
  mine.foldl submitOp s

/-- TABLE_INVALIDATE: a write of valid = 0 takes effect at once; queued operations end BAD_TABLE (R371). -/
def execTableInvalidate (who : Initiator) (table : Nat) (s : State) : Out :=
  run s fun s => setupWrite FT_TABLE.valid table 0 who s fun s =>
    if 64 ≤ table then s
    else
      let s := (s.wr FT_TABLE.valid 0 table).wr FT_TABLE.ready 0 table
      releaseWaiting (releaseWaiting s table 0) table 1

/-! ### Lookups (R366, R367, R377, R397, R400) -/

/-- A table's own state allows its use by lookups (R367). -/
def usable (s : State) (t : Nat) : Bool := enabled s .ft && tableLive s t && !s.on FT_TABLE.faulted t

/-- An exact-match lookup of a stage: the action and data of a hit, and the stamp write it sends (R365, R377, R392). -/
def emLookup (s : State) (pipe t klen key acct : Nat) : State × Option (Nat × Nat) :=
  let s := pmc s 0x202 pipe 1 (some acct)
  if !emBindingOk s t klen || !usable s t then (s, none)
  else
    let c := if twoCopies s t then pipe else 0
    let found := findKey s t c key
    let x := found.map fun p => loadEntry s t c p.1 p.2
    let s := readBuckets s t c key acct
    match found, x with
    | some (b, e), some x =>
      let s := pmc s 0x203 pipe 1 (some acct)
      let s := if x.hitStamp = stampNow s then s
        else { s with ft := { s.ft with stamps := s.ft.stamps ++ [⟨t, c, b, e, key⟩] } }
      (s, some (x.action, x.data))
    | _, _ => (s, none)

/-- The longest stored prefix that covers an address (R397). -/
def longestPrefix (s : State) (t addr : Nat) : Option LpmPrefix :=
  let w := addrBits s t
  (s.ft.lpm.filter fun p => decide (p.table = t) && decide (prefixAddr w p.len addr = p.addr)).foldl
    (fun best p => match best with
      | none => some p
      | some b => if b.len < p.len then some p else some b) none

/-- The ternary entry that hits a 64-byte key (R400). -/
def ternHit (s : State) (t key : Nat) : Option TernEntry :=
  ((List.range (s.rd FT_TABLE.count t)).find? fun i =>
    let x := Map.get s.ft.tern (ternKey s t i)
    x.valid && decide (key &&& x.mask = x.value &&& x.mask)).map fun i => Map.get s.ft.tern (ternKey s t i)

/-- An lt lookup of a stage. -/
def ltLookup (s : State) (pipe t klen key : Nat) : Option (Nat × Nat) :=
  if !ltBindingOk s pipe t klen || !usable s t then none
  else if s.rd FT_TABLE.kind t = 2 then
    (longestPrefix s t (lpmAddr s t key)).map fun p => (p.action, Map.get s.ft.results p.result)
  else (ternHit s t key).map fun x => (x.action, x.data)

/-! ### Learning (R389, R390) -/

/-- A LEARN instruction of a pass: the learn is queued, dropped on a full queue, or refused (R372, R389, R390). -/
def learnRequest (s : State) (pipe t key data : Nat) : State :=
  if !enabled s .ft then s
  else if 64 ≤ t || !tableLive s t || !s.on FT_TABLE.learn_en t then s.count FT_LEARN_STAT.learn_refused 1 pipe
  else if 256 ≤ (Map.get s.ft.learns pipe).length then s.count FT_LEARN_STAT.learn_drop 1 pipe
  else
    let k := (key >>> (32 * s.rd FT_TABLE.learn_koff t)) % 2 ^ (8 * keyBytes s t)
    let r : LearnReq := ⟨t, k, s.rd FT_TABLE.learn_action t, data⟩
    { s with ft := { s.ft with learns := Map.upd s.ft.learns pipe fun l => l ++ [r] } }

/-- A learn at the update unit of a pipeline's copy (R390). -/
def applyLearn (s : State) (pipe : Nat) (r : LearnReq) : State :=
  let t := r.table
  if !tableLive s t || decide (s.rd FT_TABLE.kind t ≠ 1) then s
  else
    let c := if twoCopies s t then pipe else 0
    let s := readBuckets s t c r.key 0
    match findKey s t c r.key with
    | none =>
      let (s, ok) := placeKey s t c (newEntry s true r.action r.key r.data) false
      if ok then s.count FT_LEARN_STAT.learned 1 pipe else s.count FT_LEARN_STAT.learn_drop 1 pipe
    | some (b, e) =>
      let x := loadEntry s t c b e
      let x := if x.learned && s.on FT_TABLE.learn_update t then { x with action := r.action, data := r.data } else x
      (storeEntry s t c b e { x with hitStamp := stampNow s }).count FT_LEARN_STAT.refreshed 1 pipe

/-- LEARN_APPLY: the update unit takes the oldest queued learn of a pipeline (R372, R390, R402). -/
def execLearnApply (pipe : Nat) (s : State) : Out :=
  run s fun s =>
    match Map.get s.ft.learns pipe with
    | [] => s
    | r :: rest =>
      if !enabled s .ft || walked s r.table (if twoCopies s r.table then pipe else 0) then s
      else applyLearn { s with ft := { s.ft with learns := Map.set s.ft.learns pipe rest } } pipe r

/-! ### Stamps and ageing (R392 to R394) -/

/-- The slot of a request still holds its key. -/
def stillHolds (s : State) (r : SlotReq) : Bool :=
  let x := loadEntry s r.table r.copy r.bucket r.slot
  tableLive s r.table && x.valid && decide (x.key = r.key)

/-- STAMP_WRITE: the oldest stamp write for a copy (R372, R392, R402). -/
def execStampWrite (table copy : Nat) (s : State) : Out :=
  run s fun s =>
    match s.ft.stamps.find? fun r => decide (r.table = table) && decide (r.copy = copy) with
    | none => s
    | some r =>
      if !enabled s .ft || walked s table copy then s
      else
        let s := { s with ft := { s.ft with stamps := s.ft.stamps.erase r } }
        if stillHolds s r then
          storeEntry s table copy r.bucket r.slot
            { loadEntry s table copy r.bucket r.slot with hitStamp := stampNow s }
        else s

/-- A stale entry that the table's mode lets go (R393, R406). -/
def ageEligible (s : State) (t : Nat) (x : FtEntry) : Bool :=
  let mode := s.rd FT_TABLE.age_mode t
  let limit := s.rd FT_TABLE.age_limit t
  x.valid && decide (limit ≠ 0) && decide (limit ≤ subMod 32 (stampNow s) x.hitStamp)
    && ((mode = 1 && x.learned) || decide (2 ≤ mode))

/-- The slots of a copy whose entry is listed as in use, in address order. -/
def usedSlots (s : State) (t c : Nat) : List (Nat × Nat) :=
  let lo := bucketAddr s t c 0
  let n := bucketsOf s t * 256
  s.mem.filterMap fun p =>
    if lo ≤ p.1 ∧ p.1 < lo + n ∧ (p.1 - lo) % entrySize s t = 0 ∧ p.2.toNat % 2 = 1 then
      some ((p.1 - lo) / 256, (p.1 - lo) % 256 / entrySize s t)
    else none

/-- AGE_SCAN: the ager reads a copy and sends a removal for each eligible entry (R372, R394). -/
def execAgeScan (table copy : Nat) (s : State) : Out :=
  run s fun s =>
    if enabled s .ft && decide (table < 64) && tableLive s table && decide (s.rd FT_TABLE.kind table = 1)
        && decide (s.rd FT_TABLE.age_mode table ≠ 0) && (copiesOf s table).contains copy then
      let rs := (usedSlots s table copy).filterMap fun p =>
        let x := loadEntry s table copy p.1 p.2
        if ageEligible s table x then some (SlotReq.mk table copy p.1 p.2 x.key) else none
      { s with ft := { s.ft with removals := s.ft.removals ++ rs } }
    else s

/-- AGE_REMOVAL: the oldest removal for a copy, carried out only when the entry is still eligible (R391, R394, R402). -/
def execAgeRemoval (table copy : Nat) (s : State) : Out :=
  run s fun s =>
    match s.ft.removals.find? fun r => decide (r.table = table) && decide (r.copy = copy) with
    | none => s
    | some r =>
      if !enabled s .ft || walked s table copy then s
      else
        let s := { s with ft := { s.ft with removals := s.ft.removals.erase r } }
        let x := loadEntry s table copy r.bucket r.slot
        if stillHolds s r && ageEligible s table x then
          flowNotify ((clearEntry s table copy r.bucket r.slot).count FT_TABLE.aged 1 table) 2 table copy r.bucket r.slot x
        else s

/-! ### The audit (R401 to R404) -/

/-- The CRC that an entry adds to a signature (R401). -/
def signCrc (bs : Bytes) : Nat := crc32cSteps 0xFFFFFFFF bs ^^^ 0xFFFFFFFF

/-- The byte strings of the command entries of a copy (R401). -/
def signedEntries (s : State) (t c : Nat) : List Bytes :=
  match s.rd FT_TABLE.kind t with
  | 1 => (usedSlots s t c).filterMap fun p =>
      let x := loadEntry s t c p.1 p.2
      if x.learned then none else some (leBytes (keyBytes s t) x.key ++ leBytes 1 x.action ++ leBytes 32 x.data)
  | 2 => s.ft.lpm.filterMap fun p =>
      if p.table = t then
        some (beBytes (addrBits s t / 8) p.addr ++ leBytes 1 p.len ++ leBytes 1 p.action ++ leBytes 2 p.result)
      else none
  | _ => (List.range (s.rd FT_TABLE.count t)).filterMap fun i =>
      let x := Map.get s.ft.tern (ternKey s t i)
      if x.valid then some (leBytes 64 x.value ++ leBytes 64 x.mask ++ leBytes 1 x.action ++ leBytes 32 x.data) else none

/-- The copies that an audit run walks, in order (R402). -/
def auditCopies (s : State) : List (Nat × Nat) :=
  ((List.range 64).filter fun t => tableLive s t).flatMap fun t =>
    ((copiesOf s t).filter fun c => s.on FT_SIG.valid t c).map fun c => (t, c)

/-- The first copy of a run at or after a place in the order. -/
def auditFrom (s : State) (t c : Nat) : Option (Nat × Nat) :=
  (auditCopies s).find? fun p => decide (t * 2 + c ≤ p.1 * 2 + p.2)

/-- An audit run starts at its first copy. -/
def startAudit (s : State) : State := { s with ft := { s.ft with walk := auditFrom s 0 0 } }

/-- What a mismatch does beside its report (R404). -/
def auditAct (s : State) (t : Nat) : State :=
  match s.rd FT_TABLE.audit_act t with
  | 0 => s
  | 1 => s.wr FT_TABLE.learn_en 0 t
  | _ => s.wr FT_TABLE.faulted 1 t

/-- The signature observed on a copy is stored, and a mismatch is reported and acted on (R404). -/
def auditResult (s : State) (t c : Nat) : State :=
  let s := if s.rd FT_TABLE.kind t = 1 then loseBadLines s t c (bucketAddr s t c 0) (bucketsOf s t * 256) else s
  let es := signedEntries s t c
  let sum := es.foldl (fun n b => n + signCrc b) 0 % 2 ^ 64
  let s := (s.wr FT_SIG.obs_sum sum t c).wr FT_SIG.obs_count es.length t c
  let bad := decide (s.rd FT_SIG.sum t c ≠ sum) || decide (s.rd FT_SIG.count t c ≠ es.length % 2 ^ 32)
  let s := s.wr FT_SIG.mismatch (flag bad) t c
  if bad then
    raise (auditAct (((s.wr FT_AUDIT_STAT.table t).wr FT_AUDIT_STAT.copy c).wr FT_AUDIT_STAT.mismatch 1) t) 0x0C1
  else s

/-- TABLE_AUDIT_COPY_END: the walk of a copy ends; its waiting operations go on and the next copy is walked (R402,
R404). -/
def execTableAuditCopyEnd (s : State) : Out :=
  run s fun s =>
    match s.ft.walk with
    | none => s
    | some (t, c) =>
      let s := if tableLive s t then auditResult s t c else s
      let s := if s.rd FT_TABLE.kind t = 1 then s.count MNT_ACT.progress (bucketsOf s t) 3 else s
      let s := { s with ft := { s.ft with walk := none } }
      let s := releaseWaiting s t c
      { s with ft := { s.ft with walk := auditFrom s t (c + 1) } }

/-! ### The read of the log of lost entries (R406) -/

/-- FT_LOST_READ: the head entry is returned and removed (R406). -/
def execFtLostRead (who : Initiator) (s : State) : Out :=
  run s fun s => managed .ft who s fun s =>
    let v := s.rd FT_LOST.table + s.rd FT_LOST.copy <<< 6 + s.rd FT_LOST.bucket <<< 8 + s.rd FT_LOST.entry_valid <<< 32
      + s.rd FT_LOST.lost <<< 33
    syncLost { answer s v with ft := { s.ft with lost := s.ft.lost.tail } }

end Sys2Proof.Machine
end

