-- ==== Sys2Proof/Machine/Parser.lean ====
section
/-! DEFINITION. Packets, metadata, the parser and the deparser's edits (R306 to R326). -/
namespace Sys2Proof.Machine

/-! ### The program as a pass sees it (R330, R331) -/

/-- A program field of the bank that a pass uses: the active bank, or the old one while it is still in use. -/
def prog (s : State) (bank : Nat) (d : Desc) (i : Nat := 0) (j : Nat := 0) : Nat :=
  if bank = s.rd PP_PROG_STAT.active_bank 0 then s.rd d i j
  else (Map.find s.pp.oldProg (d.key i j)).getD (s.rd d i j)

/-- The transition fields of a parser state: value, mask, next and valid of transition `t`. -/
def transitionFields : List (Desc × Desc × Desc × Desc) :=
  [(PP_PSTATE.value0, PP_PSTATE.mask0, PP_PSTATE.next0, PP_PSTATE.valid0),
   (PP_PSTATE.value1, PP_PSTATE.mask1, PP_PSTATE.next1, PP_PSTATE.valid1),
   (PP_PSTATE.value2, PP_PSTATE.mask2, PP_PSTATE.next2, PP_PSTATE.valid2),
   (PP_PSTATE.value3, PP_PSTATE.mask3, PP_PSTATE.next3, PP_PSTATE.valid3),
   (PP_PSTATE.value4, PP_PSTATE.mask4, PP_PSTATE.next4, PP_PSTATE.valid4),
   (PP_PSTATE.value5, PP_PSTATE.mask5, PP_PSTATE.next5, PP_PSTATE.valid5)]

/-! ### Internet checksums -/

/-- The sum of 16-bit big-endian words, an odd last byte padded with zero. -/
def wordSum : Bytes → Nat
  | [] => 0
  | [a] => a.toNat * 256
  | a :: b :: rest => a.toNat * 256 + b.toNat + wordSum rest

/-- The ones' complement folding of a sum to 16 bits. -/
def foldSum (x : Nat) : Nat := if x = 0 then 0 else if x % 65535 = 0 then 65535 else x % 65535

/-- The checksum of some bytes: the ones' complement of their folded sum. -/
def inetChecksum (bs : Bytes) : Nat := 65535 - foldSum (wordSum bs)

/-- A checksummed header or segment verifies: the sum with its checksum in place folds to all ones. -/
def inetVerifies (sum : Nat) : Bool := foldSum sum = 65535

/-- The IP header that a transport layer lies in: version and offset. -/
structure IpAt where
  v6  : Bool
  off : Nat
deriving DecidableEq, Repr

/-- The end of the IP payload in the frame, by the header's length field. -/
def ipEnd (f : Bytes) (ip : IpAt) : Nat :=
  min f.length (if ip.v6 then ip.off + 40 + beAt f (ip.off + 4) 2 else ip.off + beAt f (ip.off + 2) 2)

/-- The sum of the pseudo-header of a transport segment of `len` bytes. -/
def pseudoSum (f : Bytes) (ip : IpAt) (proto len : Nat) : Nat :=
  (if ip.v6 then wordSum (slice f (ip.off + 8) 32) else wordSum (slice f (ip.off + 12) 8)) + proto + len % 65536 + len / 65536

/-- The offset of the checksum in a TCP or UDP header. -/
def l4ChecksumAt (proto : Nat) : Nat := if proto = 6 then 16 else 6

/-- The checksum of a TCP or UDP layer is right; a UDP checksum of 0 under IPv4 counts as right (R311). -/
def l4Ok (f : Bytes) (ip : IpAt) (proto off : Nat) : Bool :=
  let stop := ipEnd f ip
  let ck := beAt f (off + l4ChecksumAt proto) 2
  if proto = 17 && ck = 0 && !ip.v6 then true
  else inetVerifies (pseudoSum f ip proto (stop - off) + wordSum (slice f off (stop - off)))

/-! ### The parser (R306 to R312) -/

/-- The parser's progress over a frame. -/
structure Parse where
  info   : Meta
  raised : List (Nat × Nat) := []     -- slow-path reasons raised by the parser, with extras
  ip     : Option IpAt := none        -- nearest earlier IP header
  frag   : Bool := false              -- the walk is inside a fragment, of whichever IP header (R311)
  proto  : Nat := 0                   -- protocol that the last header names for the next one
  ipStop : Option Nat := none         -- end of the last header handled as IPv4 or IPv6
deriving DecidableEq, Repr

/-- A reason raised: its flag, and its extra (R337). -/
def Parse.raise (p : Parse) (code extra : Nat) : Parse :=
  { p with
    raised := p.raised ++ [(code, extra)]
    info := { p.info with slowFlags := p.info.slowFlags ||| 2 ^ code } }

/-- The length of a header at `off` read by state `st` (R307). -/
def headerLength (s : State) (bank pipe st : Nat) (f : Bytes) (off : Nat) : Nat :=
  let w := prog s bank PP_PSTATE.lf_width pipe st
  let field := beAt f (off + prog s bank PP_PSTATE.lf_off pipe st) 2
  let unit := match prog s bank PP_PSTATE.lf_unit pipe st with
    | 0 => 1
    | 1 => 4
    | _ => 8
  prog s bank PP_PSTATE.base_len pipe st
    + (if w = 0 then 0 else bitsAt field (prog s bank PP_PSTATE.lf_lsb pipe st) w * unit)

/-- The state after `st` for the key of a header: the lowest-numbered matching transition, else the default (R308). -/
def nextState (s : State) (bank pipe st : Nat) (f : Bytes) (off : Nat) : Option Nat :=
  let wide := prog s bank PP_PSTATE.key16 pipe st ≠ 0
  let key := beAt f (off + prog s bank PP_PSTATE.key_off pipe st) (if wide then 2 else 1)
  match transitionFields.find? fun t =>
      prog s bank t.2.2.2 pipe st ≠ 0
        && (key &&& prog s bank t.2.1 pipe st) = (prog s bank t.1 pipe st &&& prog s bank t.2.1 pipe st) with
  | some t => some (prog s bank t.2.2.1 pipe st)
  | none => if prog s bank PP_PSTATE.default_valid pipe st ≠ 0 then some (prog s bank PP_PSTATE.default_next pipe st) else none

/-- What an IPv4 header gives (R310, R312). -/
def parseIpv4 (f : Bytes) (off : Nat) (quiet : Bool) (p : Parse) : Parse :=
  let ihl := beAt f off 1 % 16
  let ff := beAt f (off + 6) 2
  let good := inetVerifies (wordSum (slice f off (ihl * 4)))
  let frag := ff.testBit 13 || ff % 8192 ≠ 0
  let p := if good then { p with info := { p.info with ipOk := true } } else if quiet then p else p.raise 4 1
  let p := if 5 < ihl && !quiet then p.raise 2 0 else p
  let p := if frag && !quiet then p.raise 1 0 else p
  { p with ip := some ⟨false, off⟩, frag := p.frag || frag, proto := beAt f (off + 9) 1 }

/-- What a VLAN tag gives: its TCI, the first two bytes of the header. -/
def parseVlan (f : Bytes) (off : Nat) (p : Parse) : Parse :=
  let tci := beAt f off 2
  match p.info.tags with
  | 0 => { p with info := { p.info with outerTci := tci, tags := 1 } }
  | 1 => { p with info := { p.info with innerTci := tci, tags := 2 } }
  | _ => p

/-- What a TCP or UDP layer gives (R311, R312). -/
def parseL4 (f : Bytes) (off : Nat) (quiet : Bool) (p : Parse) : Parse :=
  match p.ip with
  | none => p
  | some ip =>
    if p.frag || !(p.proto = 6 || p.proto = 17) then p
    else if l4Ok f ip p.proto off then { p with info := { p.info with l4Ok := true } }
    else if quiet then p else p.raise 4 2

/-- What the header that state `st` reads gives, beside its place in the layer table. -/
def readHeaderBits (s : State) (bank pipe st : Nat) (f : Bytes) (off : Nat) (quiet : Bool) (p : Parse) : Parse :=
  let has := fun d => prog s bank d pipe st ≠ 0
  let p := if has PP_PSTATE.l4_csum then parseL4 f off quiet p else p
  let p := if has PP_PSTATE.ipv4 then parseIpv4 f off quiet p
    else if has PP_PSTATE.ipv6 then { p with ip := some ⟨true, off⟩, proto := beAt f (off + 6) 1 }
    else { p with proto := beAt f off 1 }
  let p := if has PP_PSTATE.frag6 then
      let p := { p with frag := true }
      if quiet then p else p.raise 1 0
    else p
  if has PP_PSTATE.vlan then parseVlan f off p else p

/-- The walk of the parser from state `st` at byte `off`; `fuel` counts the states still allowed (R308, R309). -/
def parseFrom (s : State) (bank pipe : Nat) (f : Bytes) (quiet : Bool) : Nat → Nat → Nat → Parse → Parse
  | 0, st, _, p => ({ p with info := { p.info with endState := st } }).raise 5 3
  | fuel + 1, st, off, p =>
    let p := { p with info := { p.info with endState := st } }
    let stop := off + headerLength s bank pipe st f off
    let record := prog s bank PP_PSTATE.record pipe st ≠ 0
    if 512 < stop then p.raise 5 2
    else if record && decide (16 ≤ p.info.layers.length) then p.raise 5 3
    else if f.length < stop then p.raise 5 4
    else
      let p := if record then
          { p with info := { p.info with layers := p.info.layers ++ [(off, prog s bank PP_PSTATE.layer_type pipe st)] } }
        else p
      let p := readHeaderBits s bank pipe st f off quiet p
      let isIp := prog s bank PP_PSTATE.ipv4 pipe st ≠ 0 || prog s bank PP_PSTATE.ipv6 pipe st ≠ 0
      let p := { p with
        info := { p.info with hdrLen := stop }
        ipStop := if isIp then some stop else p.ipStop }
      if prog s bank PP_PSTATE.accept pipe st ≠ 0 then p
      else match nextState s bank pipe st f off with
        | none => p.raise 5 1
        | some n => parseFrom s bank pipe f quiet fuel n stop p

/-- The parse of a frame from a state at a byte; packets of sources 1 and 4 raise no checksum, option or fragment reason
(R312). -/
def parse (s : State) (pipe : Nat) (pkt : Packet) (st off : Nat) : Parse :=
  let m := pkt.info
  parseFrom s m.bank pipe pkt.frame (m.source = 1 || m.source = 4) 24 st off { info := m }

/-! ### Metadata as 128 bytes (R313) -/

/-- The layer table as a number. -/
def layerBits (ls : List (Nat × Nat)) : Nat :=
  (ls.foldl (fun (x : Nat × Nat) l => (x.1 + 1, x.2 + (l.1 % 512 + (l.2 % 128) <<< 9) <<< (16 * x.1))) (0, 0)).2

/-- The metadata image (R313). -/
def Meta.image (m : Meta) : Nat :=
  m.arrTt + m.arrFrac <<< 64 + m.inPort <<< 80 + m.source <<< 84 + (flag m.holdover) <<< 87 + m.bank <<< 88
    + (flag m.recirculated) <<< 89 + (flag m.reinjected) <<< 90 + m.account <<< 96 + m.pktLen <<< 112
    + m.handle <<< 128 + m.srcQueue <<< 160 + m.endState <<< 192 + m.layers.length <<< 198 + m.hdrLen <<< 203
    + m.slowFlags <<< 224 + m.slowReason <<< 240 + m.slowExtra <<< 248 + layerBits m.layers <<< 256
    + m.outerTci <<< 512 + m.innerTci <<< 528 + m.tags <<< 544 + m.prio <<< 546 + m.tc <<< 549 + m.colour <<< 552
    + (flag m.ipOk) <<< 554 + (flag m.l4Ok) <<< 555 + m.flowHash <<< 576 + m.flowId <<< 608 + m.destKind <<< 640
    + m.egPort <<< 643 + m.tmGroup <<< 647 + m.destQueue <<< 656 + m.meter <<< 672 + m.mirrorMask <<< 704
    + m.keySlot <<< 736 + (m.scratch % 2 ^ 256) <<< 768

/-- The metadata read back from an image. -/
def metaOf (x : Nat) : Meta :=
  { arrTt := bitsAt x 0 64, arrFrac := bitsAt x 64 16, inPort := bitsAt x 80 4, source := bitsAt x 84 3,
    holdover := bitAt x 87, bank := bitsAt x 88 1, recirculated := bitAt x 89, reinjected := bitAt x 90,
    account := bitsAt x 96 12, pktLen := bitsAt x 112 14, handle := bitsAt x 128 20, srcQueue := bitsAt x 160 16,
    endState := bitsAt x 192 6, hdrLen := bitsAt x 203 10, slowFlags := bitsAt x 224 16, slowReason := bitsAt x 240 8,
    slowExtra := bitsAt x 248 8,
    layers := (List.range (min 16 (bitsAt x 198 5))).map fun i => (bitsAt x (256 + 16 * i) 9, bitsAt x (265 + 16 * i) 7),
    outerTci := bitsAt x 512 16, innerTci := bitsAt x 528 16, tags := bitsAt x 544 2, prio := bitsAt x 546 3,
    tc := bitsAt x 549 3, colour := bitsAt x 552 2, ipOk := bitAt x 554, l4Ok := bitAt x 555,
    flowHash := bitsAt x 576 32, flowId := bitsAt x 608 24, destKind := bitsAt x 640 3, egPort := bitsAt x 643 4,
    tmGroup := bitsAt x 647 9, destQueue := bitsAt x 656 16, meter := bitsAt x 672 20, mirrorMask := bitsAt x 704 16,
    keySlot := bitsAt x 736 20, scratch := bitsAt x 768 256 }

/-! ### Deparser edits (R324 to R326) -/

/-- The kind of header that the program gives a layer type: 4 IPv4, 6 IPv6, 1 a transport layer with a checksum, 0 any
other. -/
def layerKind (s : State) (bank pipe ty : Nat) : Nat :=
  let is := fun d st => prog s bank PP_PSTATE.record pipe st ≠ 0 && prog s bank PP_PSTATE.layer_type pipe st = ty
    && prog s bank d pipe st ≠ 0
  let any := fun d => (List.range 64).any (is d)
  if any PP_PSTATE.ipv4 then 4 else if any PP_PSTATE.ipv6 then 6 else if any PP_PSTATE.l4_csum then 1 else 0

/-- A frame under edit: its bytes, where each parsed layer now stands, its length of parsed headers, its tags, the places
of the layers (of a removed one, where it stood), the bytes of templates put in right before each layer, the layers whose
bytes were edited, and the edits refused. -/
structure Editing where
  frame   : Bytes
  offs    : List (Option Nat)
  hdrLen  : Nat
  tags    : Nat
  places  : List Nat := offs.map fun x => x.getD 0
  before  : List (Nat × Nat) := []
  touched : List Nat := []
  refused : Nat := 0
deriving DecidableEq, Repr

/-- Bytes put in at an offset before layer `l`; layers behind it, and layer `l` and later ones at it, move. -/
def Editing.insertAt (e : Editing) (l o : Nat) (bs : Bytes) : Editing :=
  let moved := fun (i y : Nat) => if o < y || (decide (o = y) && decide (l ≤ i)) then y + bs.length else y
  let ids := List.range e.offs.length
  { e with
    frame := e.frame.take o ++ bs ++ e.frame.drop o
    offs := ids.map fun i => ((e.offs[i]?).join).map (moved i)
    places := ids.map fun i => moved i (nth e.places i 0)
    hdrLen := if o ≤ e.hdrLen then e.hdrLen + bs.length else e.hdrLen }

/-- Bytes taken out from `o` up to `o + n`; layers inside are removed, their place is where the cut is (`back` bytes behind
it), and later ones move. -/
def Editing.removeAt (e : Editing) (o n : Nat) (back : Nat := 0) : Editing :=
  { e with
    frame := e.frame.take o ++ e.frame.drop (o + n)
    places := e.places.map fun y => if y < o then y else if y < o + n then o + back else y - n
    offs := e.offs.map fun x => match x with
      | none => none
      | some y => if y < o then some y else if y < o + n then none else some (y - n)
    hdrLen := if o + n ≤ e.hdrLen then e.hdrLen - n else min e.hdrLen o }

/-- Where a layer stands, if no edit has removed it. -/
def Editing.at (e : Editing) (l : Nat) : Option Nat := (e.offs[l]?).join

/-- Bytes of a layer overwritten. -/
def Editing.put (e : Editing) (l o : Nat) (bs : Bytes) : Editing :=
  { e with frame := overlay e.frame o bs, touched := e.touched ++ [l] }

/-- Where the bytes before layer `q` end: at its place, ahead of the templates put in right before it; behind the last
layer, the end of the parsed headers. -/
def Editing.endBefore (e : Editing) (q : Nat) : Nat :=
  match e.places[q]? with
  | some y => y - ((e.before.filter fun x => decide (x.1 = q)).map (·.2)).sum
  | none => e.hdrLen

/-- Where the TTL or hop limit of an IP layer of a kind stands. -/
def ttlAt (kind o : Nat) : Nat := if kind = 4 then o + 8 else o + 7

/-- One edit (R323 codes 0x0E to 0x14, R325). -/
def applyEdit (s : State) (bank pipe : Nat) (types : List Nat) (e : Editing) (x : Edit) : Editing :=
  match x.code with
  | 0x0E => match e.at x.p with
    | none => e
    | some o =>
      let at_ := ttlAt (layerKind s bank pipe (nth types x.p 0)) o
      let t := beAt e.frame at_ 1
      if t ≤ 1 then e else e.put x.p at_ (beBytes 1 (t - 1))
  | 0x0F =>
    if 2 ≤ e.tags then { e with refused := e.refused + 1 }
    else
      let tpid := if x.p % 2 = 0 then 0x8100 else 0x88A8
      { e.insertAt 0 12 (beBytes 2 tpid ++ beBytes 2 x.value) with tags := e.tags + 1 }
  | 0x10 => if e.tags = 0 then e else { e.removeAt 12 4 2 with tags := e.tags - 1 }
  | 0x11 => if e.tags = 0 then e else { e with frame := overlay e.frame 14 (beBytes 2 x.value) }
  | 0x12 => match e.at x.p with
    | none => e
    | some o => e.put x.p (o + x.q / 4) (beBytes (x.q % 4 + 1) x.value)
  | 0x13 => match e.at x.p with
    | none => e
    | some o =>
      let t := x.value % 256
      let n := min 120 (prog s bank PP_ENCAP.length pipe t)
      { e.insertAt x.p o (leBytes n (prog s bank PP_ENCAP.bytes pipe t)) with before := e.before ++ [(x.p, n)] }
  | 0x14 => match e.at x.p with
    | none => e
    | some o =>
      let stop := e.endBefore x.q
      if o < stop then e.removeAt o (stop - o) else e
  | _ => e

/-- The transport protocol that a layer after an IP header holds: by the IPv4 protocol field, the IPv6 next header, or
the first byte of the header between. -/
def protoOf (f : Bytes) (ip : IpAt) (prev : Nat) : Nat :=
  if prev = ip.off then beAt f (ip.off + (if ip.v6 then 6 else 9)) 1 else beAt f prev 1

/-- The nearest earlier IP header of layer `l`, and the offset of the layer before `l`. -/
def ipBefore (s : State) (bank pipe : Nat) (types : List Nat) (offs : List (Option Nat)) (l : Nat) : Option (IpAt × Nat) :=
  let before := (List.range l).filterMap fun i => ((offs[i]?).join).map fun o => (o, layerKind s bank pipe (nth types i 0))
  match (before.filter fun x => x.2 = 4 || x.2 = 6).getLast?, before.getLast? with
  | some x, some p => some (⟨x.2 = 6, x.1⟩, p.1)
  | _, _ => none

/-- The IPv4 header checksum of an edited header rewritten (R326). -/
def fixIpv4 (f : Bytes) (o : Nat) : Bytes :=
  let n := beAt f o 1 % 16 * 4
  let zeroed := overlay f (o + 10) [0, 0]
  overlay f (o + 10) (beBytes 2 (inetChecksum (slice zeroed o n)))

/-- The sum that a transport checksum covers, with the checksum itself taken as zero. -/
def l4Sum (f : Bytes) (ip : IpAt) (proto o : Nat) : Nat :=
  let z := overlay f (o + l4ChecksumAt proto) [0, 0]
  pseudoSum f ip proto (ipEnd f ip - o) + wordSum (slice z o (ipEnd f ip - o))

/-- The transport checksum at `o` updated for what its sum has changed by, unless it was a UDP checksum of 0 (R326). -/
def fixL4 (f0 : Bytes) (ip0 : IpAt) (o0 : Nat) (f : Bytes) (ip : IpAt) (proto o : Nat) : Bytes :=
  let c := beAt f0 (o0 + l4ChecksumAt proto) 2
  let a := foldSum (l4Sum f0 ip0 proto o0) % 65535
  let b := foldSum (l4Sum f ip proto o) % 65535
  if (proto = 17 && c = 0) || a = b then f
  else
    let x := (65535 - c + b + 65535 - a) % 65535
    let n := 65535 - (if x = 0 then 65535 else x)
    overlay f (o + l4ChecksumAt proto) (beBytes 2 (if proto = 17 && n = 0 then 65535 else n))

/-- The checksums of one layer after the edits (R326). -/
def fixLayer (s : State) (bank pipe : Nat) (types : List Nat) (f0 : Bytes) (offs0 : List (Option Nat)) (e : Editing)
    (l : Nat) : Editing :=
  match e.at l with
  | none => e
  | some o =>
    let k := layerKind s bank pipe (nth types l 0)
    if k = 4 then (if e.touched.contains l then { e with frame := fixIpv4 e.frame o } else e)
    else if k = 1 then
      match ipBefore s bank pipe types e.offs l, ipBefore s bank pipe types offs0 l, (offs0[l]?).join with
      | some (ip, prev), some (ip0, _), some o0 =>
        let proto := protoOf e.frame ip prev
        if proto = 6 || proto = 17 then { e with frame := fixL4 f0 ip0 o0 e.frame ip proto o } else e
      | _, _, _ => e
    else e

/-- The layer types of a pass. -/
def layerTypes (p : Pass) : List Nat := p.pkt.info.layers.map fun l => l.2

/-- The frame of a pass before its edits. -/
def unedited (p : Pass) : Editing :=
  let m := p.pkt.info
  let offs := (List.range m.layers.length).map fun i =>
    if p.gone.contains i then none else some (nth m.layers i (0, 0)).1
  { frame := p.pkt.frame, offs := offs, hdrLen := m.hdrLen, tags := m.tags, places := m.layers.map fun l => l.1 }

/-- The frame of a pass after the edits recorded so far, in the order in which they ran, at most 16 (R325). -/
def edited (s : State) (pipe : Nat) (p : Pass) : Editing :=
  (p.edits.take (16 - p.spent)).foldl (applyEdit s p.pkt.info.bank pipe (layerTypes p)) (unedited p)

/-- The deparser: the edits, and then the checksums, those of inner layers before those that cover them (R325, R326). -/
def deparse (s : State) (pipe : Nat) (p : Pass) : Editing :=
  let e := edited s pipe p
  if p.edits.isEmpty then e
  else (List.range (layerTypes p).length).reverse.foldl
    (fixLayer s p.pkt.info.bank pipe (layerTypes p) p.pkt.frame (unedited p).offs) e

end Sys2Proof.Machine
end

