-- ==== Sys2Proof/Machine/Ports.lean ====
section
/-! DEFINITION. Ethernet ports: quads, rates, packet-buffer lines and flow control toward the peer (R284 to R301). -/
namespace Sys2Proof.Machine

/-! ### Quads and ports (R285, R286) -/

/-- The ports that quad `n` takes part in: its own lanes, and an 800GbE port of its half. -/
def quadPorts (s : State) (n : Nat) : List Nat :=
  (List.range 16).filter fun p => isPort s p
    && (decide (p / 4 = n) || (decide (portRate s p = 800) && decide (p / 8 = n / 2)))

/-- The longest frame of a port with FCS, clamped (R361). -/
def portMtu (s : State) (p : Nat) : Nat := max 64 (min 9600 (s.rd PP_PORT.mtu p))

/-- The port runs and its link is up. -/
def portUp (s : State) (p : Nat) : Bool := isPort s p && s.on PP_PORT.enable p && s.on PP_PORT_STAT.link_up p

/-- Picoseconds of the time clock since reset, which pause times run by. -/
def clockPs (s : State) : Nat := s.tt.ticks * 8000

/-- A pause time of some quanta on a port, in ps: 512 bit times each (R438). -/
def quantaPs (s : State) (p n : Nat) : Nat := if portRate s p = 0 then 0 else n * 512 * 1000 / portRate s p

/-! ### Packet-buffer lines (R297, R298, R341) -/

/-- Lines of the packet buffer (law 3 of R268). -/
def totalLines : Nat := 1048576

/-- Lines that a frame of some bytes takes: two of metadata, and the frame (R341). -/
def linesFor (len : Nat) : Nat := 2 + ceilDiv len 64

/-- Lines held by packets. -/
def heldAll (s : State) : Nat := s.pp.holds.foldl (fun n h => n + h.lines) 0

/-- Free lines. -/
def freeLineCount (s : State) : Nat := totalLines - heldAll s

/-- Lines held of a port, of one priority or of all (R298). -/
def heldLines (s : State) (p : Nat) (q : Option Nat) : Nat :=
  s.pp.holds.foldl (fun n h =>
    if h.port = some p ∧ (q = none ∨ q = some h.prio) then n + h.lines else n) 0

/-- A run of lines, as its first line and its length, put in its place. -/
def insertRun (r : Nat × Nat) : List (Nat × Nat) → List (Nat × Nat)
  | [] => [r]
  | x :: rest => if r.1 < x.1 then r :: x :: rest else x :: insertRun r rest

/-- The runs of lines in use, rising. -/
def takenRuns (hs : List Hold) : List (Nat × Nat) :=
  (hs.flatMap fun h => h.apart.map fun l => (l, 1)).foldl (fun rs r => insertRun r rs)
    ((hs.filter fun h => h.apart.isEmpty).map fun h => (h.handle, h.lines))

/-- The first run of `n` free lines among rising runs in use. -/
def firstFit (n : Nat) : Nat → List (Nat × Nat) → Option Nat
  | from_, [] => if from_ + n ≤ totalLines then some from_ else none
  | from_, r :: rest => if from_ + n ≤ r.1 then some from_ else firstFit n (max from_ (r.1 + r.2)) rest

/-- The `n` lowest free lines among rising runs in use. -/
def lowestFree : Nat → Nat → List (Nat × Nat) → List Nat
  | n, from_, [] => (List.range n).map fun i => from_ + i
  | n, from_, r :: rest =>
    let k := min n (r.1 - from_)
    (List.range k).map (fun i => from_ + i) ++ lowestFree (n - k) (max from_ (r.1 + r.2)) rest

/-- The hold of `n` lines for a packet: a run where there is one, else the lowest free lines. -/
def placeHold (n : Nat) (port : Option Nat) (prio : Nat) (hs : List Hold) : Hold :=
  match firstFit n 0 (takenRuns hs) with
  | some h => { handle := h, lines := n, port := port, prio := prio }
  | none =>
    let ls := lowestFree n 0 (takenRuns hs)
    { handle := ls.headD 0, lines := n, port := port, prio := prio, apart := ls }

/-- A hold put in its place by handle. -/
def insertHold (h : Hold) : List Hold → List Hold
  | [] => [h]
  | x :: rest => if h.handle < x.handle then h :: x :: rest else x :: insertHold h rest

/-- Lines for a packet: its handle and the state, where there are enough. -/
def allocate (s : State) (n : Nat) (port : Option Nat) (prio acct : Nat) : Option (Nat × State) :=
  if freeLineCount s < n then none
  else
    let h := placeHold n port prio s.pp.holds
    let s := sramAccess s n acct
    some (h.handle, { s with pp := { s.pp with holds := insertHold h s.pp.holds } })

/-- The hold of a handle. -/
def holdOf (s : State) (handle : Nat) : Option Hold := s.pp.holds.find? fun h => decide (h.handle = handle)

/-! ### Flow control toward the peer (R299 to R301) -/

/-- A priority joins the frame to be generated: the last one while 64 ns have not passed since its first, else a new one
(R301). -/
def joinGroup (tick q : Nat) (paused : Bool) : List PauseGroup → List PauseGroup
  | [] => [⟨tick, 2 ^ q, putBit 0 q paused⟩]
  | [g] => if tick < g.tick + 8 then [{ g with mask := g.mask ||| 2 ^ q, on := putBit g.on q paused }]
      else [g, ⟨tick, 2 ^ q, putBit 0 q paused⟩]
  | g :: rest => g :: joinGroup tick q paused rest

/-- A priority begins or ends to be paused, or is refreshed: a generated frame of the port carries it. -/
def markPause (s : State) (p q : Nat) (paused : Bool) : State :=
  let s := s.wr PP_PORT_STAT.xoff_sent (putBit (s.rd PP_PORT_STAT.xoff_sent p) q paused) p
  let gen := Map.upd s.pp.genPause p (joinGroup s.tt.ticks q paused)
  { s with pp := { s.pp with genPause := gen, pauseSent := Map.set s.pp.pauseSent (p * 8 + q) (s.tt.ticks + 1) } }

/-- The held count that decides the pause of a priority: its own under PFC, all under PAUSE (R299, R300). -/
def pauseCount (s : State) (p q : Nat) : Nat :=
  if s.rd PP_PORT.fc_mode p = 1 then heldLines s p none else heldLines s p (some q)

/-- The priorities that a port's flow control acts on. -/
def pausePriorities (s : State) (p : Nat) : List Nat :=
  match s.rd PP_PORT.fc_mode p with
  | 1 => List.range 8
  | 2 => (List.range 8).filter fun q => (s.rd PP_PORT.pfc_en p).testBit q
  | _ => []

/-- One priority after a change of its held count (R299). -/
def pauseStep (p : Nat) (s : State) (q : Nat) : State :=
  let n := pauseCount s p q
  let paused := (s.rd PP_PORT_STAT.xoff_sent p).testBit q
  if !paused && decide (s.rd PP_PORT_PFC.xoff p ≤ n) then markPause s p q true
  else if paused && decide (n < s.rd PP_PORT_PFC.xon p) then markPause s p q false
  else s

/-- The flow control of a port after a change of its held counts; none while its link is down (R296, R299, R300). -/
def pauseCheck (s : State) (p : Nat) : State :=
  if portUp s p then (pausePriorities s p).foldl (pauseStep p) s else s

/-- A packet's lines become free (R298, R416). -/
def freeHandle (s : State) (handle : Nat) : State :=
  match holdOf s handle with
  | none => s
  | some h =>
    let s := { s with pp := { s.pp with holds := s.pp.holds.filter fun x => decide (x ≠ h) } }
    match h.port with
    | none => s
    | some p => pauseCheck s p

/-- The lines of a packet after it needs `n` of them, in a run where `run` asks for one: the handle and the state; none
where there are no such lines (R341). -/
def reseat (s : State) (handle n : Nat) (run : Bool) : Option (Nat × State) :=
  match holdOf s handle with
  | none => some (handle, s)
  | some h =>
    if n ≤ h.lines && (!run || h.apart.isEmpty) then some (handle, s)
    else
      let others := s.pp.holds.filter fun x => decide (x ≠ h)
      let h' := placeHold (max n h.lines) h.port h.prio others
      if freeLineCount s + h.lines < h'.lines || (run && !h'.apart.isEmpty) then none
      else
        let s := { s with pp := { s.pp with holds := insertHold h' others } }
        some (h'.handle, match h.port with
          | none => s
          | some p => pauseCheck s p)

/-- A refresh of a paused priority falls due: half the pause time has passed and the count is at or above xon. -/
def refreshDue (s : State) (p q : Nat) : Bool :=
  (s.rd PP_PORT_STAT.xoff_sent p).testBit q && decide (s.rd PP_PORT_PFC.xon p ≤ pauseCount s p q)
    && decide (Map.get s.pp.pauseSent (p * 8 + q) ≠ 0)
    && decide ((Map.get s.pp.pauseSent (p * 8 + q) - 1) * 8000 + quantaPs s p (s.rd PP_PORT_PFC.quanta p) / 2 ≤ clockPs s)

/-- PFC_REFRESH: the priorities of a port whose refresh falls due are sent again, and changes are acted on (R299,
R300). -/
def execPfcRefresh (port : Nat) (s : State) : Out :=
  run s fun s =>
    if portUp s port then
      let s := pauseCheck s port
      (pausePriorities s port).foldl (fun t q => if refreshDue t port q then markPause t port q true else t) s
    else s

/-- The generated frame of a group of priorities (R299 to R301). -/
def pauseFrame (s : State) (p : Nat) (g : PauseGroup) : Bytes :=
  let mask := g.mask
  let quanta := s.rd PP_PORT_PFC.quanta p
  let time := fun q => if g.on.testBit q then quanta else 0
  let head := beBytes 6 0x0180C2000001 ++ beBytes 6 (s.rd PP_PORT_MAC.mac p) ++ beBytes 2 0x8808
  let body :=
    if s.rd PP_PORT.fc_mode p = 1 then beBytes 2 0x0001 ++ beBytes 2 (time 0)
    else beBytes 2 0x0101 ++ beBytes 2 mask ++ (List.range 8).flatMap fun q => beBytes 2 (if mask.testBit q then time q else 0)
  fitBytes 60 (head ++ body)

/-! ### The link (R294, R296) -/

/-- The lanes of a port have left electrical idle: their serdes group is calibrated, and its reference clock was present
(R883, R960). -/
def portClocked (s : State) (p : Nat) : Bool :=
  s.start.serdes.contains (2 + p / 8) && s.on (if p < 8 then DEV_CLK_STAT.eth0 else DEV_CLK_STAT.eth1)

/-- LINK_CHANGE: a port's link comes up or goes down (R294, R296). -/
def execLinkChange (port : Nat) (up : Bool) (s : State) : Out :=
  run s fun s =>
    let up := up && isPort s port && s.on PP_PORT.enable port && portClocked s port
    if 16 ≤ port || decide (s.on PP_PORT_STAT.link_up port = up) then s
    else
      let s := (((s.wr PP_PORT_STAT.link_up (flag up) port).wr PP_PORT_STAT.align (flag up) port).wr
        PP_PORT_STAT.fec_lock (flag up) port).wr PP_PORT_STAT.link_change 1 port
      let trained := up && s.on PP_PORT.lt_en port && decide (2 ≤ s.rd PP_PORT.pmd port)
      let s := s.wr PP_PORT_STAT.lt_done (flag trained) port
      let s :=
        if up then s
        else
          let s := (s.wr PP_PORT_STAT.xoff_sent 0 port).wr TM_PORT.paused 0 port
          { s with
            pp := { s.pp with
              genPause := Map.set s.pp.genPause port []
              pauseSent := s.pp.pauseSent.filter fun x => decide (x.1 / 8 ≠ port) }
            tm := { s.tm with pauseEnd := s.tm.pauseEnd.filter fun x => decide (x.1 / 8 ≠ port) } }
      raise s 0x0A0

end Sys2Proof.Machine
end

