-- ==== Sys2Proof/Machine/TrafficManager.lean ====
section
/-! DEFINITION. The traffic manager: admission, round robin in bytes, shapers, gate lists, pauses, departures and meters
(chapter Traffic manager). -/
namespace Sys2Proof.Machine

/-! ### Egress queues (R408, R409, R416) -/

/-- The number of an egress queue. -/
def tmKey (p g c : Nat) : Nat := p * 4096 + g * 8 + c
/-- The frames of an egress queue, oldest first. -/
def tmQueue (s : State) (k : Nat) : List TmFrame := Map.get s.tm.queues k
/-- What a port sends. -/
def tmSending (s : State) (p : Nat) : Sending := (Map.find s.tm.sending p).getD .idle
/-- A port's sending set. -/
def setSending (s : State) (p : Nat) (x : Sending) : State :=
  { s with tm := { s.tm with sending := Map.setD s.tm.sending p x .idle } }

/-- The lines that an egress queue holds, its frame on the wire included (R416). -/
def queueLines (s : State) (k : Nat) : Nat :=
  let onWire := match tmSending s (k / 4096) with
    | .frame k' f => if k' = k then f.lines else 0
    | _ => 0
  (tmQueue s k).foldl (fun n f => n + f.lines) onWire

/-- A group counter: 0 tx_frames, 1 tx_bytes, 2 drop_limit, 3 drop_colour, 4 drop_budget (R447). -/
def countGroup (s : State) (pg n amount : Nat) : State :=
  { s with tm := { s.tm with counters := Map.upd s.tm.counters (pg * 8 + n) fun x => (x + amount) % 2 ^ 64 } }

/-! ### Admission (R415 to R417) -/

/-- The first test that drops a frame at enqueue: its counter is a port counter (left) or a group counter (right). -/
def admissionDrop (s : State) (p g c colour lines : Nat) : Option (Nat ⊕ Nat) :=
  let pg := p * 512 + g
  let held := queueLines s (tmKey p g c)
  if !isPort s p || !s.on PP_PORT.enable p then some (.inl 0)
  else if !s.on TM_GROUP.valid pg then some (.inl 1)
  else if s.on TM_GROUP.budget_en pg && refuses s (s.rd TM_GROUP.account pg) then some (.inr 4)
  else if colour = 2 ∧ s.rd TM_GROUP.r_limit pg ≤ held then some (.inr 3)
  else if colour = 1 ∧ s.rd TM_GROUP.y_limit pg ≤ held then some (.inr 3)
  else if s.rd TM_GROUP.q_limit pg < held + lines then some (.inr 2)
  else none

/-- The lines that a packet holds. -/
def packetLines (s : State) (handle : Nat) : Nat := ((holdOf s handle).map (·.lines)).getD 0

/-- A frame enters its egress queue, or is dropped, counted and its lines freed (R415, R416). -/
def tmEnqueue (s : State) (p g c colour : Nat) (pkt : Packet) : State :=
  let lines := packetLines s pkt.info.handle
  match admissionDrop s p g c colour lines with
  | some (.inl n) => freeHandle (s.count TM_PORT_CNT.count 1 p n) pkt.info.handle
  | some (.inr n) => freeHandle (countGroup s (p * 512 + g) n 1) pkt.info.handle
  | none => { s with tm := { s.tm with queues := Map.upd s.tm.queues (tmKey p g c) fun l => l ++ [⟨pkt, lines⟩] } }

/-! ### Shapers (R423 to R428) -/

/-- The shaper lets a frame be chosen: it is off, or its level is above 0 (R411, R412). -/
def shaperOpen (s : State) (x : Shaper) : Bool := !shaperOn s x || decide (0 < shaperLevel s x)

/-- One refill, limited to the depth (R423). -/
def refillShaper (s : State) (x : Shaper) : State :=
  if shaperOn s x then
    let add := s.rd x.rate x.i x.j * s.rd TM_CFG.refill_ns * 65536 / 8000000
    setLevel s x (min (shaperLevel s x + (add : Int)) ((s.rd x.depth x.i x.j * 65536 : Nat) : Int))
  else s

/-- The charged length of a frame in one shaper (R424). -/
def chargedLength (s : State) (x : Shaper) (len : Nat) : Nat :=
  (max 1 (((max len 60 + 4 : Nat) : Int) + signed 7 (s.rd x.ohead x.i x.j))).toNat

/-- A started frame is charged to a shaper of its path (R424). -/
def chargeShaper (len : Nat) (s : State) (x : Shaper) : State :=
  if shaperOn s x then setLevel s x (shaperLevel s x - ((chargedLength s x len * 65536 : Nat) : Int)) else s

/-- Every shaper that is on. -/
def allShapers (s : State) : List Shaper :=
  (List.range 16).map portShaper ++ (List.range 16).flatMap (fun p => (List.range 8).map (classShaper p))
    ++ (listedMembers s TM_GROUP.shape_en).map groupShaper

/-- What happens at a refill boundary: TM adopts what it has been asked to apply, and then every shaper is refilled (R423,
R425, R427). -/
def refillAll (s : State) : State :=
  let s := if applyAsked s .tm then applyBank .tm s else s
  let s := (allShapers s).foldl refillShaper s
  { s with tm := { s.tm with lastRefill := now s } }

/-- REFILL_BOUNDARY: one refill, however many boundaries have been crossed (R423, R425, R427, R428). -/
def execRefillBoundary (s : State) : Out :=
  run s fun s => if enabled s .tm && refillDue s && !dueBefore s (refillTime s) then refillAll s else s

/-! ### Gate lists (R429 to R437) -/

/-- Entry `i` of list `l` of a port: its open mask and interval. -/
def gateEntry (s : State) (p l i : Nat) : Nat × Nat :=
  (s.rd TM_GATE.open (p * 2 + l) i, s.rd TM_GATE.interval_ns (p * 2 + l) i)

/-- The number of entries of a list: up to the first with end set, else 256 (R429). -/
def gateCount (s : State) (p l : Nat) : Nat :=
  (((List.range 256).find? fun i => s.on TM_GATE.end_ (p * 2 + l) i).getD 255) + 1

/-- The sum of a list's intervals. -/
def gateSum (s : State) (p l : Nat) : Nat :=
  (List.range (gateCount s p l)).foldl (fun n i => n + (gateEntry s p l i).2) 0

/-- A list's cycle (R430). -/
def gateCycle (s : State) (p l : Nat) : Nat :=
  let c := if l = 0 then s.rd TM_GATE_CYCLE.cycle0 p else s.rd TM_GATE_CYCLE.cycle1 p
  if c = 0 then gateSum s p l else c

/-- The segments of a list over one cycle: entry number, open mask and length; entries are cut at the end of the cycle,
and the last one holds until it (R429, R430). -/
def gateSegments (s : State) (p l : Nat) : List (Nat × Nat × Nat) :=
  let n := gateCount s p l
  let cycle := gateCycle s p l
  let r := (List.range n).foldl (fun (x : Nat × List (Nat × Nat × Nat)) i =>
    let e := gateEntry s p l i
    let len := min e.2 (cycle - x.1)
    if len = 0 then x else (x.1 + len, x.2 ++ [(i, e.1, len)])) (0, [])
  if r.1 < cycle then
    match r.2.getLast? with
    | some (i, o, len) => r.2.dropLast ++ [(i, o, len + (cycle - r.1))]
    | none => [(n - 1, (gateEntry s p l (n - 1)).1, cycle)]
  else r.2

/-- The active list of a port. -/
def activeList (s : State) (p : Nat) : Nat := s.rd TM_GATE_CTL.active p

/-- Gates apply to a port (R437). -/
def gated (s : State) (p : Nat) : Bool := s.on TM_GATE_CTL.gate_en p && s.on TM_GATE_CTL.adopted p

/-- The place in the cycle now (R431). -/
def gatePos (s : State) (p : Nat) : Nat :=
  let c : Int := ((gateCycle s p (activeList s p) : Nat) : Int)
  if c = 0 then 0 else (((now s : Int) - ((Map.get s.tm.origin p : Nat) : Int)) % c).toNat

/-- The segments from a place in the cycle on, the first one cut to what is left of it, and round to where they began. -/
def segmentsFrom : Nat → List (Nat × Nat × Nat) → List (Nat × Nat × Nat) → List (Nat × Nat × Nat)
  | _, [], done => done
  | pos, (i, o, len) :: rest, done =>
    if pos < len then (i, o, len - pos) :: rest ++ done ++ (if pos = 0 then [] else [(i, o, pos)])
    else segmentsFrom (pos - len) rest (done ++ [(i, o, len)])

/-- What is ahead of a port's gates over one cycle from now. -/
def gateAhead (s : State) (p : Nat) : List (Nat × Nat × Nat) :=
  segmentsFrom (gatePos s p) (gateSegments s p (activeList s p)) []

/-- The gate state and the entry of the active list now. -/
def gateNow (s : State) (p : Nat) : Nat × Nat :=
  match gateAhead s p with
  | (i, o, _) :: _ => (o, i)
  | [] => (0xFF, 0)

/-- Gate `c` of a port is open now. -/
def gateOpen (s : State) (p c : Nat) : Bool := !gated s p || (gateNow s p).1.testBit c

/-- The time that class `c` stays open from the start of some segments; none when all of them are open. -/
def openRun (c : Nat) : List (Nat × Nat × Nat) → Option Nat
  | [] => none
  | (_, o, len) :: rest => if o.testBit c then (openRun c rest).map fun n => n + len else some 0

/-- The gate window of a class in ns; none when it has no limit (R432). -/
def gateWindow (s : State) (p c : Nat) : Option Nat :=
  let run := if gated s p then openRun c (gateAhead s p) else none
  let a := Map.get s.tm.armed p
  let cut := if a.on && s.on TM_GATE_CTL.gate_en p then some (a.tt - now s) else none
  match run, cut with
  | none, none => none
  | some n, none => some n
  | none, some m => some (if gated s p then min m (gateCycle s p (activeList s p)) else m)
  | some n, some m => some (min n m)

/-- The wire time of a frame on a port, in ps (R432). -/
def wirePs (s : State) (p len : Nat) : Nat := (max len 60 + 24) * 8000 / max 1 (portRate s p)

/-- The longest continuous open window of a class in the active list, in ns; none when it is always open (R433). -/
def longestOpen (s : State) (p c : Nat) : Option Nat :=
  let segs := gateSegments s p (activeList s p)
  if segs.all fun x => x.2.1.testBit c then none
  else
    some (((segs ++ segs).foldl (fun (x : Nat × Nat) g =>
      let cur := if g.2.1.testBit c then x.1 + g.2.2 else 0
      (cur, max x.2 cur)) (0, 0)).2)

/-- TM_PORT shows the gate state and the entry (R447). -/
def syncGate (s : State) (p : Nat) : State :=
  if gated s p then (s.wr TM_PORT.open (gateNow s p).1 p).wr TM_PORT.entry (gateNow s p).2 p
  else s.wr TM_PORT.open 0xFF p

/-- GATE_ARM: a write of arm = 1 arms or replaces an adoption (R434, R436). -/
def execGateArm (who : Initiator) (port : Nat) (s : State) : Out :=
  run s fun s => setupWrite TM_GATE_CTL.arm port 1 who s fun s =>
    if 16 ≤ port then s
    else
      let tt := s.rd TM_GATE_TT.adopt_tt port
      let s := s.wr TM_GATE_CTL.arm 1 port
      let late := decide (tt < now s)
      let s := if late then s.wr TM_GATE_CTL.late 1 port else s
      let tick := if late then s.tt.ticks + 1 else 0
      { s with tm := { s.tm with armed := Map.set s.tm.armed port ⟨true, s.rd TM_GATE_CTL.adopt_list port, tt, tick⟩ } }

/-- A write of arm = 0 ends what was armed. -/
def gateDisarm (s : State) (port : Nat) : State :=
  { s with tm := { s.tm with armed := Map.set s.tm.armed port {} } }.wr TM_GATE_CTL.arm 0 port

/-- GATE_ADOPTION: at adopt_tt the named list becomes active, or is rejected (R434, R435). -/
def execGateAdoption (port : Nat) (s : State) : Out :=
  run s fun s =>
    let a := Map.get s.tm.armed port
    if a.on && decide (port < 16) && decide (a.tt ≤ now s) && decide (a.tick ≤ s.tt.ticks) && !dueBefore s a.tt then
      let s := if applicationFirst s .tm a.tt && (!enabled s .tm || refillDue s) then
        (if refillDue s then refillAll s else applyBank .tm s) else s
      let s := gateDisarm s port
      if gateCycle s port a.list = 0 then s.wr (applyRejectField .tm) 1
      else
        let s := (s.wr TM_GATE_CTL.active a.list port).wr TM_GATE_CTL.adopted 1 port
        raise (syncGate { s with tm := { s.tm with origin := Map.set s.tm.origin port a.tt } } port) 0x0E0
    else s

/-- GATE_ENTRY_CHANGE: the class gates follow the entry that track time has reached (R430, R431). -/
def execGateEntryChange (port : Nat) (s : State) : Out :=
  run s fun s => if port < 16 then syncGate s port else s

/-! ### Pauses (R438) -/

/-- One class of a port is paused for some quanta; 0 ends its pause. -/
def pauseClass (s : State) (p c quanta : Nat) : State :=
  let s := s.wr TM_PORT.paused (putBit (s.rd TM_PORT.paused p) c (decide (quanta ≠ 0))) p
  let t := if quanta = 0 then 0 else clockPs s + quantaPs s p quanta
  { s with tm := { s.tm with pauseEnd := Map.set s.tm.pauseEnd (p * 8 + c) t } }

/-- A received PAUSE frame of a time, on a port that uses PAUSE (R438). -/
def takePause (s : State) (p time : Nat) : State :=
  if s.rd PP_PORT.fc_mode p = 1 then (List.range 8).foldl (fun t c => pauseClass t p c time) s else s

/-- A received PFC frame: its enable vector and its eight times (R438). -/
def takePfc (s : State) (p vec : Nat) (times : Nat → Nat) : State :=
  if s.rd PP_PORT.fc_mode p = 2 then
    (List.range 8).foldl (fun t q =>
      if vec.testBit q && (t.rd PP_PORT.pfc_en p).testBit q then pauseClass t p q (times q) else t) s
  else s

/-- PAUSE_EXPIRY: a class whose pause time has run out may send again (R438). -/
def execPauseExpiry (port : Nat) (s : State) : Out :=
  run s fun s =>
    if 16 ≤ port then s
    else (List.range 8).foldl (fun t c =>
      if (t.rd TM_PORT.paused port).testBit c && decide (Map.get t.tm.pauseEnd (port * 8 + c) ≤ clockPs t)
      then pauseClass t port c 0 else t) s

/-! ### Weighted round robin in bytes (R421, R422) -/

/-- A child's quota in the round: raised by weight * 256 at its first visit. -/
def Wrr.eff (w : Wrr) (weight c : Nat) : Int :=
  if Map.get w.seen c = w.round then Map.get w.quota c else Map.get w.quota c + ((max 1 weight * 256 : Nat) : Int)

/-- A child's first visit in the round recorded. -/
def Wrr.open_ (w : Wrr) (weight c : Nat) : Wrr :=
  { w with quota := Map.set w.quota c (w.eff weight c), seen := Map.set w.seen c w.round }

/-- A round ends: positive quotas are discarded and negative ones kept. -/
def Wrr.next (w : Wrr) : Wrr :=
  { w with round := w.round + 1, quota := w.quota.filter fun p => decide (p.2 < 0), visit := none, held := [] }

/-- The next child to visit: in ascending order after the last one, with quota left; new rounds begin where none has. -/
def Wrr.choose (weight : Nat → Nat) (ready : List Nat) : Nat → Wrr → Option (Nat × Wrr)
  | 0, _ => none
  | fuel + 1, w =>
    let rich := ready.filter fun c => decide (0 < w.eff (weight c) c)
    let after := rich.find? fun c => match w.last with
      | some l => decide (l < c)
      | none => true
    match (match after with | some c => some c | none => rich.head?) with
    | some c => some (c, { (w.open_ (weight c) c) with last := some c, visit := some (c, 0) })
    | none => if ready.isEmpty then none else Wrr.choose weight ready fuel (ready.foldl (fun w c => w.open_ (weight c) c) w).next

/-- A visit that a pause interrupted resumes, with what it had left, once its child may send again (R438); else the next
visit begins.  Raised by at least 256 bytes a round, a quota is above 0 within 128 rounds: a frame takes at most 16,408. -/
def Wrr.begin_ (w : Wrr) (weight : Nat → Nat) (ready : List Nat) : Option (Nat × Wrr) :=
  match ready.find? fun c => decide (Map.get w.held c ≠ 0) && decide (0 < Map.get w.quota c) with
  | some c => some (c, { w with last := some c, visit := some (c, Map.get w.held c - 1), held := Map.set w.held c 0 })
  | none => Wrr.choose weight ready 128 w

/-- The child that a choice falls to: the visit in progress goes on while it may; one whose child is paused is kept for
the end of the pause (R438). -/
def Wrr.pick (w : Wrr) (weight burst : Nat → Nat) (paused : Nat → Bool) (ready : List Nat) : Option (Nat × Wrr) :=
  match w.visit with
  | some (c, n) =>
    let mayGoOn := decide (n < burst c) && decide (0 < Map.get w.quota c)
    if ready.contains c && mayGoOn then some (c, w)
    else if paused c && mayGoOn then Wrr.begin_ { w with visit := none, held := Map.set w.held c (n + 1) } weight ready
    else Wrr.begin_ { w with visit := none } weight ready
  | none => w.begin_ weight ready

/-- A frame of the child has been sent: its wire length leaves the quota. -/
def Wrr.spend (w : Wrr) (c len : Nat) : Wrr :=
  { w with
    quota := Map.upd w.quota c fun q => q - ((max len 60 + 24 : Nat) : Int)
    visit := match w.visit with
      | some (c', n) => if c' = c then some (c, n + 1) else w.visit
      | none => some (c, 1) }

/-! ### The choice of a port (R410 to R414, R418 to R422, R432, R433, R439) -/

/-- An earlier frame of the same NET_TX queue, bound for the same port and class or not yet through its pipeline, has
not left (R250, R439). -/
def heldForOrder (s : State) (p c : Nat) (f : TmFrame) : Bool :=
  let q := f.pkt.info.srcQueue
  let earlier := fun x : Packet => decide (x.info.source = 1) && decide (x.info.srcQueue = q) && decide (x.order < f.pkt.order)
  decide (f.pkt.info.source = 1) &&
    ((s.tm.queues.any fun e => decide (e.1 / 4096 = p) && decide (e.1 % 8 = c) && e.2.any fun x => earlier x.pkt)
      || (s.pp.inputs.any fun e => e.2.any fun x => earlier x.pkt)
      || (s.pp.passes.any fun e => e.2.any fun x => earlier x.pkt)
      || ((queueInt s q).entries.any fun e => e.op = 0x10 && e.outcome.isNone && e.decided.isNone && decide (e.order < f.pkt.order)))

/-- A group's account passes the budget test (R419, R420). -/
def budgetPasses (s : State) (pg : Nat) : Bool :=
  !s.on TM_GROUP.budget_en pg || eligible s (s.rd TM_GROUP.account pg)

/-- The head frame fits the gate window of its class (R432). -/
def fitsWindow (s : State) (p c len : Nat) : Bool :=
  match gateWindow s p c with
  | none => true
  | some n => decide (wirePs s p len ≤ n * 1000)

/-- Queue (p, g, c) is eligible but for its class's window (R411). -/
def queueEligible (s : State) (p g c : Nat) : Bool :=
  match tmQueue s (tmKey p g c) with
  | [] => false
  | f :: _ =>
    let pg := p * 512 + g
    s.on TM_GROUP.valid pg && shaperOpen s (groupShaper pg) && budgetPasses s pg && !heldForOrder s p c f
      && fitsWindow s p c f.pkt.frame.length

/-- The groups of a port with frames in a class, rising. -/
def busyGroups (s : State) (p c : Nat) : List Nat :=
  s.tm.queues.filterMap fun e => if e.1 / 4096 = p ∧ e.1 % 8 = c then some (e.1 % 4096 / 8) else none

/-- The eligible groups of a class of a port. -/
def readyGroups (s : State) (p c : Nat) : List Nat := (busyGroups s p c).filter fun g => queueEligible s p g c

/-- Class `c` of a port is paused, and its pause time has not run out (R438). -/
def classPaused (s : State) (p c : Nat) : Bool :=
  (s.rd TM_PORT.paused p).testBit c && decide (clockPs s < Map.get s.tm.pauseEnd (p * 8 + c))

/-- Class `c` of a port is eligible (R412). -/
def classEligible (s : State) (p c : Nat) : Bool :=
  !(readyGroups s p c).isEmpty && gateOpen s p c && !classPaused s p c
    && shaperOpen s (classShaper p c) && shaperOpen s (portShaper p)

/-- The class that a choice falls to, and the round robin after it (R410). -/
def chooseClass (s : State) (p : Nat) : Option (Nat × State) :=
  let ready := (List.range 8).filter (classEligible s p)
  match (ready.filter fun c => (s.rd TM_PORT.sp p).testBit c).getLast? with
  | some c => some (c, s)
  | none =>
    ((Map.get s.tm.classes p).pick (fun c => s.rd TM_CLASS.weight p c) (fun c => s.rd TM_CLASS.burst_m1 p c + 1)
      (classPaused s p) ready).map
      fun x => (x.1, { s with tm := { s.tm with classes := Map.set s.tm.classes p x.2 } })

/-- The queue that a class picks (R410). -/
def chooseGroup (s : State) (p c : Nat) : Option (Nat × State) :=
  ((Map.get s.tm.groups (p * 8 + c)).pick (fun g => s.rd TM_GROUP.weight (p * 512 + g))
    (fun g => s.rd TM_GROUP.burst_m1 (p * 512 + g) + 1) (fun _ => false) (readyGroups s p c)).map
    fun x => (x.1, { s with tm := { s.tm with groups := Map.set s.tm.groups (p * 8 + c) x.2 } })

/-- The head frame of a queue removed. -/
def popQueue (s : State) (k : Nat) : State := { s with tm := { s.tm with queues := Map.upd s.tm.queues k List.tail } }

/-- Head frames that no open window of their class can hold are dropped (R433). -/
def dropOversize (s : State) (p : Nat) : State :=
  if !gated s p then s
  else (s.tm.queues.filter fun e => decide (e.1 / 4096 = p)).foldl (fun t e =>
    match tmQueue t e.1, longestOpen t p (e.1 % 8) with
    | f :: _, some n =>
      if n * 1000 < wirePs t p f.pkt.frame.length then
        freeHandle ((popQueue t e.1).count TM_PORT_CNT.count 1 p 2) f.pkt.info.handle
      else t
    | _, _ => t) s

/-! ### Departure timestamps (R62 to R66) -/

/-- A UDP port of PTP. -/
def ptpPort (n : Nat) : Bool := n = 319 || n = 320

/-- The offset of a PTP header in a frame: after Ethertype 0x88F7, or in UDP to port 319 or 320, behind up to two tags. -/
def ptpAt (f : Bytes) : Option Nat :=
  let isTag := fun o => beAt f o 2 = 0x8100 || beAt f o 2 = 0x88A8
  let o := if isTag 12 then (if isTag 16 then 20 else 16) else 12
  let ip := o + 2
  if beAt f o 2 = 0x88F7 then some ip
  else if beAt f o 2 = 0x0800 then
    let l4 := ip + beAt f ip 1 % 16 * 4
    if beAt f (ip + 9) 1 = 17 ∧ ptpPort (beAt f (l4 + 2) 2) then some (l4 + 8) else none
  else if beAt f o 2 = 0x86DD then
    if beAt f (ip + 6) 1 = 17 ∧ ptpPort (beAt f (ip + 42) 2) then some (ip + 48) else none
  else none

/-- The frame is a PTP event message: message types 0 to 3. -/
def isPtpEvent (f : Bytes) : Bool :=
  match ptpAt f with
  | some o => decide (o + 34 ≤ f.length) && decide (beAt f o 1 % 16 ≤ 3)
  | none => false

/-- The PTP sequenceId of a frame; 0 for a frame that is not PTP (R65). -/
def ptpSeqId (f : Bytes) : Nat :=
  match ptpAt f with
  | some o => beAt f (o + 30) 2
  | none => 0

/-- The UDP checksum of a frame with a PTP message rewritten, where there is one. -/
def fixPtpChecksum (f : Bytes) (ptp : Nat) : Bytes :=
  let isTag := fun o => beAt f o 2 = 0x8100 || beAt f o 2 = 0x88A8
  let o := if isTag 12 then (if isTag 16 then 20 else 16) else 12
  let ip := o + 2
  if beAt f o 2 = 0x88F7 ∨ beAt f (ptp - 2) 2 = 0 then f
  else
    let at_ : IpAt := ⟨decide (beAt f o 2 = 0x86DD), ip⟩
    let udp := ptp - 8
    let stop := ipEnd f at_
    let g := overlay f (ptp - 2) [0, 0]
    let c := 65535 - foldSum (pseudoSum g at_ 17 (stop - udp) + wordSum (slice g udp (stop - udp)))
    overlay g (ptp - 2) (beBytes 2 (if c = 0 then 65535 else c))

/-- A one-step port writes the departure time into an outgoing Sync message (R64). -/
def oneStep (s : State) (p : Nat) (f : Bytes) : Bytes :=
  match ptpAt f with
  | some o =>
    if s.on TT_PORT_LAT.one_step p ∧ o + 44 ≤ f.length ∧ beAt f o 1 % 16 = 0 then
      let t := (departureStamp s p).1
      fixPtpChecksum (overlay f (o + 34) (beBytes 6 (t / 10 ^ 9) ++ beBytes 4 (t % 10 ^ 9))) o
    else f
  | none => f

/-- The timestamp of a departing frame is pushed where one is due (R65, R66). -/
def stampDeparture (s : State) (p : Nat) (x : Packet) : State :=
  if (isPtpEvent x.frame && !s.on TT_PORT_LAT.one_step p) || x.tsReq then
    let t := departureStamp s p
    pushTxStamp s p ⟨t.1, t.2, ptpSeqId x.frame⟩
  else s

/-- A frame starts on the wire: its shapers and rounds are charged and its timestamp taken (R424, R65). -/
def startFrame (s : State) (p g c : Nat) (f : TmFrame) (strict : Bool) : State :=
  let len := f.pkt.frame.length
  let s := [groupShaper (p * 512 + g), classShaper p c, portShaper p].foldl (chargeShaper len) (popQueue s (tmKey p g c))
  let classes := if strict then s.tm.classes else Map.upd s.tm.classes p fun w => w.spend c len
  let s := { s with tm := { s.tm with
    classes := classes
    groups := Map.upd s.tm.groups (p * 8 + c) fun w => w.spend g len } }
  let s := stampDeparture s p f.pkt
  setSending s p (.frame (tmKey p g c) { f with pkt := { f.pkt with frame := oneStep s p f.pkt.frame } })

/-- A chosen frame that the MAC discards: the link is down, or the frame is longer than the port's mtu (R292). -/
def macDiscard (s : State) (p : Nat) (f : TmFrame) : Option Nat :=
  if !portUp s p then some 13 else if portMtu s p < f.pkt.frame.length + 4 then some 12 else none

/-- The frame that a choice falls to: it starts, or is discarded at the MAC. -/
def sendChosen (s : State) (p : Nat) : State :=
  match chooseClass s p with
  | none => s
  | some (c, s1) =>
    match chooseGroup s1 p c with
    | none => s
    | some (g, s2) =>
      match tmQueue s2 (tmKey p g c) with
      | [] => s
      | f :: _ =>
        match macDiscard s2 p f with
        | some n => freeHandle ((popQueue s (tmKey p g c)).count PP_PORT_CNT.count 1 p n) f.pkt.info.handle
        | none => startFrame s2 p g c f ((s.rd TM_PORT.sp p).testBit c)

/-- A head frame of the port does not fit its window (R785). -/
def someUnfit (s : State) (p : Nat) : Bool :=
  s.tm.queues.any fun e => decide (e.1 / 4096 = p) && match e.2 with
    | f :: _ => !fitsWindow s p (e.1 % 8) f.pkt.frame.length
    | [] => false

/-- The oldest generated frame of a port whose link is up, once the 64 ns in which it gathers have passed (R301). -/
def readyPause (s : State) (p : Nat) : Option (PauseGroup × List PauseGroup) :=
  match Map.get s.pp.genPause p with
  | [] => none
  | g :: rest => if portUp s p && decide (g.tick + 8 ≤ s.tt.ticks) then some (g, rest) else none

/-- PORT_CHOICE: a free port chooses a generated pause frame, else a class and queue (R410). -/
def execPortChoice (port : Nat) (s : State) : Out :=
  run s fun s =>
    if !isPort s port || !enabled s .tm || decide (tmSending s port ≠ .idle) then s
    else
      match readyPause s port with
      | some (g, rest) =>
        setSending { s with pp := { s.pp with genPause := Map.set s.pp.genPause port rest } } port (.pause (pauseFrame s port g))
      | none =>
        let s := dropOversize s port
        let s := if someUnfit s port then pmc s 0x303 port 1 none else s
        sendChosen s port

/-- Energy and counts of the 64-byte units that a port has sent or received (R83). -/
def ethUnits (s : State) (p bytes acct : Nat) : State :=
  activity s (108 + p / 4) 4 2 (ceilDiv bytes 64) acct

/-- A frame as it stands on the wire: with its FCS appended (R64, R291). -/
def withFcs (f : Bytes) : Bytes := f ++ leBytes 4 (crc32 f)

/-- FRAME_TX_DONE: the last byte of a frame leaves the MAC and its lines are freed (R291, R298, R416). -/
def execFrameTxDone (port : Nat) (s : State) : Out :=
  run s fun s =>
    match tmSending s port with
    | .idle => s
    | .pause bs =>
      let s := (setSending s port .idle).count PP_PORT_CNT.count 1 port 11
      ethUnits { s with pp := { s.pp with txDone := s.pp.txDone ++ [(port, withFcs bs)] } } port 64 0
    | .frame k f =>
      let wire := withFcs (fitBytes (max 60 f.pkt.frame.length) f.pkt.frame)
      let bytes := wire.length
      let acct := f.pkt.info.account
      let s := ((setSending s port .idle).count PP_PORT_CNT.count 1 port 9).count PP_PORT_CNT.count bytes port 10
      let pg := port * 512 + k % 4096 / 8
      let s := countGroup (countGroup s pg 0 1) pg 1 bytes
      let s := sramAccess (ethUnits s port bytes acct) f.lines acct
      let s := pmc (pmc s 0x300 port 1 (some acct)) 0x301 port bytes (some acct)
      freeHandle { s with pp := { s.pp with txDone := s.pp.txDone ++ [(port, wire)] } } f.pkt.info.handle

/-! ### Meters (R440 to R445) -/

/-- The bytes that a rate adds over some nanoseconds, in 2^-16 byte. -/
def meterGain (kbps e : Nat) : Nat := kbps * e * 65536 / 8000000

/-- A meter brought up to date (R440). -/
def Meter.update (m : Meter) (tt : Nat) : Meter :=
  let e := tt - m.last
  { m with
    tc := min (m.tc + meterGain m.cir e) (m.cbs * 65536)
    tp := min (m.tp + meterGain m.pir e) (m.pbs * 65536)
    last := tt }

/-- The colour of a packet and the meter after it (R440, R441). -/
def Meter.colour (m : Meter) (len incoming : Nat) : Nat × Meter :=
  let b := ((max 0 (((max len 60 + 4 : Nat) : Int) + signed 7 m.overhead)).toNat) * 65536
  let inc := if m.aware then incoming else 0
  if inc = 2 ∨ m.tp < b then (2, m)
  else if inc = 1 ∨ m.tc < b then (1, { m with tp := m.tp - b })
  else (0, { m with tp := m.tp - b, tc := m.tc - b })

/-- The address of a meter's record (R32). -/
def meterAddr (s : State) (m : Nat) : Nat := areaBase s 5 + 0x500000 + m * 32

/-- A METER action: the colour after it (R440 to R443). -/
def meterApply (s : State) (m len incoming acct : Nat) : Nat × State :=
  let x := Map.get s.tm.meters m
  let s := g6Access s (meterAddr s m) false acct
  if !x.valid then (incoming, s)
  else
    let (colour, x) := (x.update (now s)).colour len incoming
    (colour, g6Access { s with tm := { s.tm with meters := Map.set s.tm.meters m x } } (meterAddr s m) true acct)

/-- METER_READ: a meter's fields and levels reach TM_MCMD (R447). -/
def execMeterRead (who : Initiator) (s : State) : Out :=
  run s fun s => setupWrite TM_MCMD.go 0 1 who s fun s =>
    let x := Map.get s.tm.meters (s.rd TM_MCMD.index)
    let s := g6Access s (meterAddr s (s.rd TM_MCMD.index)) false 0
    let s := ((((s.wr TM_MCMD.write 0).wr TM_MCMD.cir_kbps x.cir).wr TM_MCMD.pir_kbps x.pir).wr TM_MCMD.cbs x.cbs).wr
      TM_MCMD.pbs x.pbs
    let s := ((s.wr TM_MCMD.valid (flag x.valid)).wr TM_MCMD.aware (flag x.aware)).wr TM_MCMD.overhead x.overhead
    (s.wr TM_MCMD.tc_level x.tc).wr TM_MCMD.tp_level x.tp

/-- METER_WRITE: the meter is brought up to date at its old rates and takes the new fields (R444, R447). -/
def execMeterWrite (who : Initiator) (s : State) : Out :=
  run s fun s => setupWrite TM_MCMD.go 0 1 who s fun s =>
    let s := s.wr TM_MCMD.write 1
    let m := s.rd TM_MCMD.index
    let x := (Map.get s.tm.meters m).update (now s)
    let keep := s.on TM_MCMD.keep
    let cbs := s.rd TM_MCMD.cbs
    let pbs := s.rd TM_MCMD.pbs
    let ovh := s.rd TM_MCMD.overhead
    let x' : Meter := {
      cir := s.rd TM_MCMD.cir_kbps, pir := s.rd TM_MCMD.pir_kbps, cbs := cbs, pbs := pbs,
      valid := s.on TM_MCMD.valid, aware := s.on TM_MCMD.aware,
      overhead := if signed 7 ovh < -32 then 0 else ovh,
      tc := if keep then min x.tc (cbs * 65536) else cbs * 65536,
      tp := if keep then min x.tp (pbs * 65536) else pbs * 65536, last := x.last }
    g6Access (g6Access { s with tm := { s.tm with meters := Map.set s.tm.meters m x' } } (meterAddr s m) false 0)
      (meterAddr s m) true 0

/-- A meter whose line cannot be read becomes invalid and is reported (R445). -/
def loseMeter (s : State) (m : Nat) : State :=
  raise (({ s with tm := { s.tm with meters := Map.upd s.tm.meters m fun x => { x with valid := false } } } : State).count
    TM_METER_LOST.count) 0x0E1

/-- TM_COUNTER_SNAPSHOT: a group counter is read, and cleared with clear = 1, in one step (R447). -/
def execTmCounterSnapshot (who : Initiator) (s : State) : Out :=
  run s fun s => setupWrite TM_CNT_ADDR.go 0 1 who s fun s =>
    let k := s.rd TM_CNT_ADDR.group * 8 + s.rd TM_CNT_ADDR.n
    let s := s.wr TM_CNT_DATA.count (if s.rd TM_CNT_ADDR.n ≤ 4 then Map.get s.tm.counters k else 0)
    if s.on TM_CNT_ADDR.clear then { s with tm := { s.tm with counters := Map.set s.tm.counters k 0 } } else s

end Sys2Proof.Machine
end

