-- ==== Sys2Proof/Machine/Cycles.lean ====
section
/-! DEFINITION. What the performance counters count in every cycle of a clock, at each tick of the time clock (R777, R785). -/
namespace Sys2Proof.Machine

/-- Cycles of a clock of `n / d` cycles in a tick that end in the tick just passed. -/
def cyclesOf (s : State) (n d : Nat) : Nat := s.tt.ticks * n / d - (s.tt.ticks - 1) * n / d

/-- Cycles of the 1.6 GHz fabric clock in the tick. -/
def cyclesOfFabric (s : State) : Nat := cyclesOf s 64 5
/-- Cycles of the 1.35 GHz pipeline clock in the tick. -/
def pipeCycles (s : State) : Nat := cyclesOf s 54 5

/-- An event counted on each of some instances for which a condition holds. -/
def countWhere (event cycles n : Nat) (p : Nat → Bool) (s : State) : State :=
  (List.range n).foldl (fun t i => if p i then pmc t event i cycles none else t) s

/-- Some record ring is stalled. -/
def someStalled (s : State) : Bool := (listedMembers s CQ_CTX.stalled).any fun r => s.on CQ_CTX.stalled r

/-- A core has started threads, and every one of them is in WAIT. -/
def coreWaits (s : State) (c : Nat) : Bool :=
  let started := ((List.range 8).map fun j => c * 8 + j).filter fun t => decide (threadState s t ≠ thStopped)
  !started.isEmpty && started.all fun t => decide (threadState s t = thWait)

/-- The events that are counted by the cycle. -/
def countCycles (s : State) : State :=
  if !enabled s .pmc then s
  else
    let t := if someStalled s then pmc s 0x103 0 (cyclesOfFabric s) none else s
    let t := countWhere 0x302 (pipeCycles s) 16 (fun p => (List.range 8).any (classPaused s p)) t
    let t := countWhere 0x501 (pipeCycles s) 24 (fun c => (coreUnit s c).isSome) t
    let t := countWhere 0x700 16 64 (fun c => decide (domainState s c = .on)) t
    countWhere 0x703 16 64 (coreWaits s) t

end Sys2Proof.Machine
end

