-- ==== Sys2Proof/Machine/Esp.lean ====
section
/-! DEFINITION. Inline ESP: encapsulation, checks, sequence numbers and the anti-replay window (R602 to R606). -/
namespace Sys2Proof.Machine

/-! ### Formats (R585, R602) -/

/-- Pad bytes 1, 2, 3: the fewest that make payload, pad and 2 trailer bytes a multiple of 4 (R585). -/
def espPad (n : Nat) : Bytes := ([1, 2, 3] : List Nat).map (BitVec.ofNat 8) |>.take ((4 - (n + 2) % 4) % 4)

/-- The AAD of an ESP packet (R602). -/
def espAad (x seq : Nat) : Bytes :=
  beBytes 4 (slotSpi x) ++ (if slotEsn x then beBytes 4 (seq / 2 ^ 32) else []) ++ beBytes 4 (seq % 2 ^ 32)

/-- Where the protocol or Next Header field of an IP header stands. -/
def protoAt (ip : IpAt) : Nat := ip.off + (if ip.v6 then 6 else 9)

/-- The length field of an IP header changed by some bytes. -/
def addIpLength (f : Bytes) (ip : IpAt) (n : Nat) : Bytes :=
  let at_ := ip.off + (if ip.v6 then 4 else 2)
  overlay f at_ (beBytes 2 ((beAt f at_ 2 + n) % 65536))

/-- The checksum of an IPv4 header rewritten; IPv6 has none. -/
def fixIpHeader (f : Bytes) (ip : IpAt) : Bytes := if ip.v6 then f else fixIpv4 f ip.off

/-- The text that ESP encrypts from offset `o`: payload, padding, pad length and Next Header (R603 step 4). -/
def espText (f : Bytes) (ip : IpAt) (o : Nat) : Bytes :=
  let payload := f.drop o
  let pad := espPad payload.length
  payload ++ pad ++ [BitVec.ofNat 8 pad.length] ++ slice f (protoAt ip) 1

/-- A frame encapsulated and encrypted from offset `o` under a slot with a sequence number (R603 steps 3 to 8). -/
def espSeal (x : Nat) (f : Bytes) (ip : IpAt) (o seq : Nat) : Bytes :=
  let iv := beBytes 8 seq
  let text := espText f ip o
  let nonce := slotSalt x ++ iv
  let cipher := aeadSeal x nonce text
  let icv := aeadIcv x nonce (espAad x seq) cipher (slotIcv x)
  let g := f.take o ++ (beBytes 4 (slotSpi x) ++ beBytes 4 (seq % 2 ^ 32) ++ iv) ++ cipher ++ icv
  fixIpHeader (addIpLength (overlay g (protoAt ip) (beBytes 1 50)) ip (g.length - f.length)) ip

/-! ### Sequence numbers and the window (R604 checks 3 and 9, R605) -/

/-- The whole sequence number of a received packet, inferred with esn = 1 per RFC 4303 Appendix A; none for one that
would lie before the first.  PRESUMED: the appendix is not in the spec. -/
def espSeqOf (x low : Nat) : Option Nat :=
  if !slotEsn x then some low
  else
    let th := slotSeq x / 2 ^ 32
    let tl := slotSeq x % 2 ^ 32
    if 1023 ≤ tl then some (if tl - 1023 ≤ low then th * 2 ^ 32 + low else (th + 1) * 2 ^ 32 + low)
    else if tl + 2 ^ 32 - 1023 ≤ low then (if th = 0 then none else some ((th - 1) * 2 ^ 32 + low))
    else some (th * 2 ^ 32 + low)

/-- The window of a slot; bit `i` stands for the number `i` below the highest. -/
def windowOf (s : State) (x : Nat) : Nat := leAt (ledgerLoad s (windowPlace x) 128) 0 128

/-- A sequence number is a replay (R604). -/
def isReplay (s : State) (x seq : Nat) : Bool :=
  decide (seq + 1024 ≤ slotSeq x) || (decide (seq ≤ slotSeq x) && (windowOf s x).testBit (slotSeq x - seq))

/-- The window bit of a number set and seq raised, in one update (R605), for an account; a REPLAY record follows in mirrored
operation. -/
def acceptSeq (s : State) (k seq acct : Nat) : State :=
  let x := slotImage s k
  let w := windowOf s x
  let up := seq - slotSeq x
  let w' := if slotSeq x < seq then (if 1024 ≤ up then 1 else ((w <<< up) % 2 ^ 1024) ||| 1)
    else w ||| 2 ^ (slotSeq x - seq)
  let o := windowPlace x
  let s := ledgerStore (ledgerAccess (ledgerAccess s o 128 false acct) o 128 true acct) o (leBytes 128 w')
  delta (putSlot s k 192 64 (max seq (slotSeq x))) 0x0D k (leBytes 8 (max seq (slotSeq x)) ++ leBytes 128 w')

/-! ### The checks of a received packet (R604) -/

/-- The counters of CIP_ESP_CNT. -/
def espKeyInvalid : Nat := 0
/-- bad_format. -/
def espBadFormat : Nat := 1
/-- replay. -/
def espReplay : Nat := 2
/-- exhausted. -/
def espExhausted : Nat := 3
/-- auth_fail. -/
def espAuthFail : Nat := 4
/-- dummy. -/
def espDummy : Nat := 5
/-- esp_busy. -/
def espBusy : Nat := 6

/-- Checks 1 to 3 of a packet whose ESP header begins at `o`: the failing counter, or the sequence number. -/
def espBefore (s : State) (k : Nat) (f : Bytes) (o : Nat) : Nat ⊕ Nat :=
  let x := slotImage s k
  if slotMode x = 0 || !slotEsp x || slotOutbound x || beAt f o 4 ≠ slotSpi x || !slotUsable s k then .inl espKeyInvalid
  else if f.length < o + 8 + 8 + 2 + slotIcv x then .inl espBadFormat
  else match espSeqOf x (beAt f (o + 4) 4) with
    | none => .inl espReplay
    | some seq => if isReplay s x seq then .inl espReplay else .inr seq

/-- The text of a packet, or the counter of the check that fails from the ICV on (checks 5 to 8): the text without its
trailer, and the Next Header. -/
def espAfter (x : Nat) (f : Bytes) (o seq : Nat) : Nat ⊕ (Bytes × Nat) :=
  let iv := slice f (o + 8) 8
  let n := f.length - (o + 16) - slotIcv x
  let cipher := slice f (o + 16) n
  let nonce := slotSalt x ++ iv
  if aeadIcv x nonce (espAad x seq) cipher (slotIcv x) ≠ f.drop (o + 16 + n) then .inl espAuthFail
  else
    let text := aeadOpen x nonce cipher
    let next := beAt text (n - 1) 1
    let pad := beAt text (n - 2) 1
    let padBytes := slice text (n - 2 - pad) pad
    if n < 2 + pad || padBytes ≠ (List.range pad).map (fun i => BitVec.ofNat 8 (i + 1)) then .inl espBadFormat
    else if slotTunnel x && next ≠ 4 && next ≠ 41 then .inl espBadFormat
    else if next = 59 then .inl espDummy
    else .inr (text.take (n - 2 - pad), next)

/-- The frame with the ESP header, IV, padding, trailer and ICV removed, and the preceding IP header naming the inner
protocol (R605). -/
def espStrip (f : Bytes) (ip : IpAt) (o : Nat) (text : Bytes) (next : Nat) : Bytes :=
  fixIpHeader (overlay (f.take o ++ text) (protoAt ip) (beBytes 1 next)) ip

end Sys2Proof.Machine
end

