-- ==== Sys2Proof/Machine/Pipeline.lean ====
section
/-! DEFINITION. The packet pipelines: pass entry, match-action stages, the cipher point, the deparser and the fates
(R303 to R359). -/
namespace Sys2Proof.Machine

/-! ### Counters and lines -/

/-- The pipeline of a port (R26). -/
def pipeOf (p : Nat) : Nat := p / 8

/-- A pipeline counter advanced (R358). -/
def pipeCount (s : State) (pipe n : Nat) : State := s.count PP_PIPE_CNT.count 1 pipe n

/-- The address of a packet-buffer line (R341). -/
def lineAddr (h : Nat) : Nat := sramBase + h * 64
/-- A packet's metadata and frame stored in its lines (R341). -/
def storeLines (s : State) (p : Packet) : State :=
  memStore (memStore s (lineAddr p.info.handle) (leBytes 128 p.info.image)) (lineAddr (p.info.handle + 2)) p.frame
/-- The metadata in a packet's lines. -/
def loadMeta (s : State) (h : Nat) : Meta := metaOf (ofLe (memLoad s (lineAddr h) 128))
/-- The frame in a packet's lines. -/
def loadFrame (s : State) (h len : Nat) : Bytes := memLoad s (lineAddr (h + 2)) len

/-! ### Reception (R289, R290, R295 to R302) -/

/-- The priority of a received frame: the PCP of the outer tag, or the port's. -/
def rxPriority (s : State) (p : Nat) (f : Bytes) : Nat :=
  let ty := beAt f 12 2
  if ty = 0x8100 ∨ ty = 0x88A8 then beAt f 14 2 / 8192 else s.rd PP_PORT.def_prio p

/-- A port counter advanced (R357). -/
def portCount (s : State) (p n amount : Nat) : State := s.count PP_PORT_CNT.count amount p n

/-- The counter of a frame that the MAC discards: the first case of R289 that matches, and R295. -/
def rxDiscard (s : State) (p : Nat) (f : Bytes) (uncorrected : Nat) : Option Nat :=
  let n := f.length
  if uncorrected ≠ 0 || leAt f (n - 4) 4 ≠ crc32 (f.take (n - 4)) then some 2
  else if n < 64 then some 3
  else if portMtu s p < n then some 4
  else if !s.on PP_PORT.enable p || !enabled s .pp then some 6
  else none

/-- A received MAC Control frame is consumed (R302, R438). -/
def rxControl (s : State) (p : Nat) (f : Bytes) : State :=
  match beAt f 14 2 with
  | 0x0001 => takePause (portCount s p 7 1) p (beAt f 16 2)
  | 0x0101 => takePfc (portCount s p 7 1) p (beAt f 16 2) fun q => beAt f (18 + 2 * q) 2
  | _ => portCount s p 8 1

/-- The metadata of a received frame (R314). -/
def rxMeta (s : State) (p handle len prio : Nat) : Meta :=
  let t := arrivalStamp s p
  { arrTt := t.1, arrFrac := t.2, inPort := p, source := 0, holdover := inHoldover s,
    account := s.rd PP_PORT.account p, pktLen := len, handle := handle, prio := prio }

/-- A frame without its FCS is admitted into the packet buffer, or discarded for want of lines (R290, R297, R298). -/
def admitFrame (s : State) (p : Nat) (f : Bytes) : State :=
  let prio := rxPriority s p f
  let n := linesFor f.length
  let acct := s.rd PP_PORT.account p
  if s.rd PP_PORT_BUF.buf_limit p < heldLines s p none + n then portCount s p 5 1
  else match allocate s n (some p) prio acct with
    | none => portCount s p 5 1
    | some (h, s1) =>
      pauseCheck (putInput s1 (pipeOf p) 0 { pkt := { frame := f, info := rxMeta s p h f.length prio } }) p

/-- FRAME_RECEIVE: a frame with its FCS arrives at a MAC, with the FEC codewords corrected and not correctable in it. -/
def execFrameReceive (port : Nat) (frame : Bytes) (corrected uncorrected : Nat) (s : State) : Out :=
  run s fun s =>
    if !isPort s port || (s.on PP_PORT.enable port && !s.on PP_PORT_STAT.link_up port) then s
    else
      let s := portCount (portCount s port 14 corrected) port 15 uncorrected
      match rxDiscard s port frame uncorrected with
      | some n => portCount s port n 1
      | none =>
        let s := ethUnits s port frame.length (s.rd PP_PORT.account port)
        let f := frame.take (frame.length - 4)
        if beAt f 12 2 = 0x8808 then rxControl s port f
        else admitFrame (portCount (portCount s port 0 1) port 1 frame.length) port f

/-! ### Keys (R316 to R318) -/

/-- Byte `i` of a layer of the frame; zero beyond the layer table or the frame. -/
def layerByte (p : Pass) (layer i : Nat) : Byte :=
  match p.pkt.info.layers[layer]? with
  | none => 0
  | some l => if p.gone.contains layer then 0 else p.pkt.frame.getD (l.1 + i) 0

/-- The four bytes of selector `i` of a stage. -/
def selectorBytes (s : State) (pipe n : Nat) (p : Pass) (i : Nat) : Bytes :=
  let f := fun d : Desc => prog s p.pkt.info.bank { d with lo := d.lo + 16 * i } pipe n
  let off := f PP_STAGE.offset0
  if f PP_STAGE.valid0 = 0 then [0, 0, 0, 0]
  else if f PP_STAGE.src0 = 0 then (List.range 4).map fun k => layerByte p (f PP_STAGE.layer0) (off + k)
  else (List.range 4).map fun k => if off + k < 128 then BitVec.ofNat 8 (bitsAt p.pkt.info.image (8 * (off + k)) 8) else 0

/-- The 64 bytes of a stage's key, as a number with byte 0 lowest. -/
def stageKey (s : State) (pipe n : Nat) (p : Pass) : Nat :=
  ofLe ((List.range 16).flatMap fun i => selectorBytes s pipe n p i)

/-- The part of the stage key that a lookup uses (R318). -/
def lookupKey (key koff klen : Nat) : Nat := (key >>> (32 * koff)) % 2 ^ (32 * keyLen klen)

/-! ### Slow-path reasons (R337, R338) -/

/-- A class L field of PP_SLOW or PP_MIRROR as it stood when a pass entered: its unit boundary is the packet (R10). -/
def liveAt (live : Map Nat) (d : Desc) (i : Nat) : Nat := Map.getD live (d.key i 0) d.reset

/-- The fields of PP_SLOW and PP_MIRROR that do not hold their reset values. -/
def liveFields (s : State) : Map Nat :=
  let within := fun (d : Desc) n k => decide (d.key 0 0 ≤ k) && decide (k < d.key n 0)
  s.regs.filter fun x => within PP_SLOW.mode 8 x.1 || within PP_MIRROR.valid 16 x.1

/-- The mode of a reason for a pass: 3 acts as 1, and mode 2 of RECIRC_REFUSED as 1 (R336, R337). -/
def slowMode (p : Pass) (r : Nat) : Nat :=
  let m := liveAt p.live PP_SLOW.mode r
  if m = 3 ∨ (m = 2 ∧ r = 6) then 1 else m

/-- A reason raised in a stage. -/
def raiseReason (p : Pass) (code extra : Nat) : Pass :=
  { p with
    raised := p.raised ++ [(code, extra)]
    pkt := { p.pkt with info := { p.pkt.info with slowFlags := p.pkt.info.slowFlags ||| 2 ^ code } } }

/-- The raised reason of the lowest code whose mode `q` accepts, with its extra. -/
def lowestRaised (p : Pass) (q : Nat → Bool) : Option (Nat × Nat) :=
  (p.raised.filter fun r => q (slowMode p r.1)).foldl (fun best r => match best with
    | none => some r
    | some b => if r.1 < b.1 then some r else some b) none

/-! ### Actions (R322 to R324, R328) -/

/-- A change of the metadata of a pass. -/
def Pass.setInfo (p : Pass) (f : Meta → Meta) : Pass := { p with pkt := { p.pkt with info := f p.pkt.info } }

/-- Bytes written to scratch from byte `o`; bytes beyond 31 are not written. -/
def putScratch (scratch o : Nat) (bs : Bytes) : Nat :=
  (bs.foldl (fun (x : Nat × Nat) b => (x.1 + 1, if x.1 < 32 then putBits x.2 (8 * x.1) 8 b.toNat else x.2)) (o, scratch)).2

/-- The kind of the header of a layer of a pass. -/
def passLayerKind (s : State) (pipe : Nat) (p : Pass) (l : Nat) : Nat :=
  match p.pkt.info.layers[l]? with
  | none => 0
  | some x => layerKind s p.pkt.info.bank pipe x.2

/-- The edit reaches into the encrypted part of the frame (R603). -/
def editSealed (p : Pass) (e : Edit) : Bool :=
  match p.sealFrom with
  | none => false
  | some l => match e.code with
    | 0x0E | 0x12 | 0x13 => decide (l ≤ e.p)
    | 0x14 => decide (l < e.q) || decide (l ≤ e.p)
    | _ => false

/-- An edit recorded for the deparser; one beyond the 16th, or in the encrypted part, is refused (R325, R603). -/
def recordEdit (s : State) (pipe : Nat) (p : Pass) (e : Edit) : State × Pass :=
  if 16 ≤ p.edits.length + p.spent || editSealed p e then (pipeCount s pipe 9, p)
  else (s, { p with edits := p.edits ++ [e] })

/-- The TTL or hop limit of a layer after the edits recorded so far; none for a layer that one of them removed. -/
def ttlNow (s : State) (pipe : Nat) (p : Pass) (kind l : Nat) : Option Nat :=
  let e := edited s pipe p
  (e.at l).map fun o => beAt e.frame (ttlAt kind o) 1

/-- DEC_TTL: on a TTL of 0 or 1, as the edits before it leave it, it raises TTL_EXPIRED (R324, R325). -/
def decTtl (s : State) (pipe : Nat) (p : Pass) (e : Edit) : State × Pass :=
  let k := passLayerKind s pipe p e.p
  if k ≠ 4 ∧ k ≠ 6 then (pipeCount s pipe 9, p)
  else if 16 ≤ p.edits.length + p.spent || editSealed p e then recordEdit s pipe p e
  else match ttlNow s pipe p k e.p with
    | some t => if t ≤ 1 then (s, raiseReason p 3 (e.p % 256)) else recordEdit s pipe p e
    | none => recordEdit s pipe p e

/-- RECIRCULATE (R335). -/
def recirculate (s : State) (pipe : Nat) (p : Pass) : Pass :=
  if p.pkt.info.recirculated then raiseReason p 6 1
  else if 64 ≤ (inputOf s pipe 2).length then raiseReason p 6 2
  else { p.setInfo (fun m => { m with destKind := 5 }) with recirc := true }

/-- The offset of flow counter `i` of a pipeline in the ledger and telemetry area (R32, R359). -/
def flowPlace (pipe i : Nat) : Nat := 0x2D00000 + (pipe * 131072 + i) * 16

/-- A flow counter: its packets and its bytes. -/
def flowCount (s : State) (pipe i : Nat) : Nat × Nat :=
  let b := ledgerLoad s (flowPlace pipe i) 16
  (leAt b 0 8, leAt b 8 8)

/-- A flow counter set. -/
def putFlow (s : State) (pipe i packets bytes : Nat) : State :=
  ledgerStore s (flowPlace pipe i) (leBytes 8 packets ++ leBytes 8 bytes)

/-- A flow counter advanced for an account (R323, R359). -/
def countFlow (s : State) (pipe i len acct : Nat) : State :=
  let c := flowCount s pipe i
  let o := flowPlace pipe i
  putFlow (ledgerAccess (ledgerAccess s o 16 false acct) o 16 true acct) pipe i (c.1 + 1) (c.2 + len)

/-- One action instruction of stage `n`, with the stage key and the hit's data (R323). -/
def runInstr (pipe n key : Nat) (code p q value imm scratchData : Nat) (x : State × Pass) : State × Pass :=
  let s := x.1
  let a := x.2
  let m := a.pkt.info
  let info := fun f => (s, a.setInfo f)
  let edit : Edit := ⟨code, p, q, value⟩
  let late := decide (prog s m.bank PP_CFG.cipher_after pipe < n)
  match code with
  | 0x01 => info fun m => { m with scratch := putScratch m.scratch p (leBytes (min q 4) value) }
  | 0x02 => info fun m =>
      { m with scratch := putScratch m.scratch (imm % 32) ((List.range (q % 4 + 1)).map fun i => layerByte a p (q / 4 + i)) }
  | 0x03 => info fun m => { m with account := value % 4096 }
  | 0x04 => info fun m => { m with tc := value % 8 }
  | 0x05 => info fun m => { m with destKind := 1, egPort := value % 16, tmGroup := value / 16 % 512 }
  | 0x06 => info fun m => { m with destKind := 2, destQueue := value % 65536 }
  | 0x07 => info fun m => { m with destKind := 3 }
  | 0x08 => (s, { a.setInfo (fun m => { m with destKind := 6 }) with drop := true })
  | 0x09 => (s, raiseReason a 7 (value % 256))
  | 0x0A => (s, recirculate s pipe a)
  | 0x0B =>
      let k := value % 2 ^ 20
      let (colour, s) := meterApply s k a.pkt.frame.length m.colour m.account
      (s, a.setInfo fun m => { m with colour := colour, meter := k })
  | 0x0C => (countFlow s pipe (value % 131072) m.pktLen m.account, a)
  | 0x0D => info fun m => { m with mirrorMask := m.mirrorMask ||| 2 ^ (value % 16) }
  | 0x0E => decTtl s pipe a edit
  | 0x0F | 0x10 | 0x11 | 0x12 | 0x13 | 0x14 => recordEdit s pipe a edit
  | 0x15 => if late then (pipeCount s pipe 9, a)
      else (s, { a.setInfo (fun m => { m with keySlot := value % 2 ^ 20 }) with esp := some (.decrypt (value % 2 ^ 20) (q % 64)) })
  | 0x16 => if late then (pipeCount s pipe 9, a)
      else (s, { a.setInfo (fun m => { m with keySlot := value % 2 ^ 20 }) with esp := some (.encrypt (value % 2 ^ 20) p) })
  | 0x17 => (learnRequest s pipe (value % 256) key scratchData, a)
  | 0x18 =>
      let bs := slice (leBytes 64 key) (4 * (p % 16)) (4 * keyLen (q % 16))
      info fun m => { m with flowHash := crc32cSteps 0 bs ^^^ 0xFFFFFFFF }
  | 0x19 => info fun m => { m with flowId := value % 2 ^ 24 }
  | 0x1A => info fun m => { m with colour := min 2 (value % 4) }
  | _ => x

/-- The eight instructions of an action, in order (R316, R319, R322). -/
def runAction (pipe n key id data : Nat) (x : State × Pass) : State × Pass :=
  (List.range 8).foldl (fun x i =>
    let f := fun d : Desc => prog x.1 x.2.pkt.info.bank d pipe ((n * 256 + id) * 8 + i)
    let imm := f PP_ACTION.imm
    let value := if f PP_ACTION.ds = 0 then imm else bitsAt data (32 * f PP_ACTION.dw) 32
    runInstr pipe n key (f PP_ACTION.code) (f PP_ACTION.p) (f PP_ACTION.q) value imm x.2.pkt.info.scratch x) x

/-- The action of a lookup's result: the hit's, or the lookup's miss action (R319). -/
def runResult (pipe n key miss : Nat) (r : Option (Nat × Nat)) (x : State × Pass) : State × Pass :=
  match r with
  | some (action, data) => runAction pipe n key action data x
  | none => runAction pipe n key miss 0 x

/-- One stage: its lookups, and their actions in order (R319). -/
def runStage (pipe : Nat) (x : State × Pass) (n : Nat) : State × Pass :=
  let s := x.1
  let p := x.2
  let f := fun d : Desc => prog s p.pkt.info.bank d pipe n
  if f PP_STAGE.em0_en = 0 && f PP_STAGE.em1_en = 0 && f PP_STAGE.lt_en = 0 && f PP_STAGE.always_en = 0 then x
  else
    let key := stageKey s pipe n p
    let acct := p.pkt.info.account
    let em := fun (s : State) (en table koff klen : Desc) =>
      if f en = 0 then (s, none)
      else emLookup s pipe (f table) (f klen) (lookupKey key (f koff) (f klen)) acct
    let r0 := em s PP_STAGE.em0_en PP_STAGE.em0_table PP_STAGE.em0_koff PP_STAGE.em0_klen
    let r1 := em r0.1 PP_STAGE.em1_en PP_STAGE.em1_table PP_STAGE.em1_koff PP_STAGE.em1_klen
    let lt := ltLookup r1.1 pipe (f PP_STAGE.lt_table) (f PP_STAGE.lt_klen)
      (lookupKey key (f PP_STAGE.lt_koff) (f PP_STAGE.lt_klen))
    let x := (r1.1, p)
    let x := if f PP_STAGE.em0_en = 0 then x else runResult pipe n key (f PP_STAGE.miss0) r0.2 x
    let x := if f PP_STAGE.em1_en = 0 then x else runResult pipe n key (f PP_STAGE.miss1) r1.2 x
    let x := if f PP_STAGE.lt_en = 0 then x else runResult pipe n key (f PP_STAGE.miss2) lt x
    if f PP_STAGE.always_en = 0 then x else runAction pipe n key (f PP_STAGE.always_act) 0 x

/-- A packet goes through the stages from `a` up to, not including, `b`; each powered group that it enters is charged
(R83, R321). -/
def runStages (pipe a b : Nat) (x : State × Pass) : State × Pass :=
  ((List.range 12).filter fun n => decide (a ≤ n) && decide (n < b)).foldl (fun x n =>
    let d := 112 + 4 * pipe + n / 3
    let charge := (n % 3 = 0 || n = a) && domainState x.1 d = .on
    let s := if charge then activity x.1 d 5 2 1 x.2.pkt.info.account else x.1
    runStage pipe (s, x.2) n) x

/-- The stage after the cipher point of a pass (R328). -/
def afterCipher (s : State) (pipe : Nat) (p : Pass) : Nat := prog s p.pkt.info.bank PP_CFG.cipher_after pipe + 1

/-- Packets that wait at the cipher point of a pipeline. -/
def atCipher (s : State) (pipe : Nat) : List Pass := (Map.get s.pp.passes pipe).filter fun p => p.esp.isSome && !p.lost

/-- A packet dropped at the cipher point, counted in CIP_ESP_CNT (R329). -/
def loseAtCipher (s : State) (pipe n : Nat) (p : Pass) : State × Pass :=
  (s.count CIP_ESP_CNT.count 1 pipe n, { p with lost := true, esp := none, stage := 12 })

/-- A pass goes on from its stage: to the cipher point where an ESP action awaits it, else to the deparser; a packet that
finds the cipher queue full or the engine disabled is dropped (R328, R593, R610). -/
def advancePass (s : State) (pipe : Nat) (p : Pass) : State × Pass :=
  let c := afterCipher s pipe p
  if c ≤ p.stage then
    let x := runStages pipe p.stage 12 (s, p)
    (x.1, { x.2 with stage := 12 })
  else
    let x := runStages pipe p.stage c (s, p)
    if x.2.esp.isNone then
      let y := runStages pipe c 12 x
      (y.1, { y.2 with stage := 12 })
    else if 64 ≤ (atCipher s pipe).length || !enabled s .cip then loseAtCipher x.1 pipe espBusy x.2
    else (x.1, { x.2 with stage := c })

/-! ### Pass entry (R304, R305, R314, R315, R339) -/

/-- The metadata of a pass at its start; a host or Trallasy packet arrives when it first enters a pipeline (R313 to R315). -/
def entryMeta (s : State) (pipe source : Nat) (m : Meta) : Meta :=
  let bank := s.rd PP_PROG_STAT.active_bank pipe
  match source with
  | 2 => { arrTt := m.arrTt, arrFrac := m.arrFrac, inPort := m.inPort, source := m.source, holdover := m.holdover,
           account := m.account, srcQueue := m.srcQueue, flowHash := m.flowHash, flowId := m.flowId, scratch := m.scratch,
           pktLen := m.pktLen, handle := m.handle, prio := if m.source = 0 then m.prio else 0,
           recirculated := true, bank := bank }
  | 3 => { m with reinjected := true, bank := bank }
  | 0 => { m with bank := bank }
  | _ => { m with arrTt := now s, arrFrac := nowFrac s, holdover := inHoldover s, bank := bank }

/-- Metadata without what a parser has filled in: a parse starts from it (R314, R345). -/
def Meta.unparsed (m : Meta) : Meta :=
  { m with endState := 0, hdrLen := 0, layers := [], outerTci := 0, innerTci := 0, tags := 0, ipOk := false, l4Ok := false }

/-- A pass after its parse; a reason of mode 0 or 1 decides its fate before stage 0 (R339). -/
def parsePass (s : State) (pipe : Nat) (p : Pass) : Pass :=
  let pkt := { p.pkt with info := p.pkt.info.unparsed }
  let r := parse s pipe pkt (prog s p.pkt.info.bank PP_CFG.start_state pipe) 0
  let ip : IpAt := r.ip.getD ⟨false, 0⟩
  let p := { p with pkt := { p.pkt with info := r.info }, raised := r.raised, ipV6 := ip.v6, ipOff := ip.off, ipStop := r.ipStop }
  match lowestRaised p fun m => decide (m ≤ 1) with
  | some _ => { p with early := true, stage := 12 }
  | none => p

/-- A pass that enters without a parse: the last IP header is the last one of its layer table, with its length by its own
bytes (R329, R345). -/
def unparsedPass (s : State) (pipe : Nat) (p : Pass) : Pass :=
  let m := p.pkt.info
  let kinds := m.layers.map fun l => (l.1, layerKind s m.bank pipe l.2)
  match (kinds.filter fun x => decide (x.2 = 4 ∨ x.2 = 6)).getLast? with
  | none => p
  | some x =>
    let len := if x.2 = 6 then 40 else beAt p.pkt.frame x.1 1 % 16 * 4
    { p with ipV6 := x.2 = 6, ipOff := x.1, ipStop := some (x.1 + len) }

/-- A packet enters its pipeline and runs to the cipher point or the deparser. -/
def startPass (s : State) (pipe source : Nat) (w : Waiting) : State :=
  let info := entryMeta s pipe source w.pkt.info
  let pkt := { w.pkt with info := info }
  let p : Pass := { pkt := pkt, orig := pkt, stage := min w.stage 12, live := liveFields s }
  let s := pipeCount (pipeCount s pipe 0) pipe (match source with
    | 0 => 1
    | 1 => 2
    | 2 => 3
    | 3 => 4
    | _ => 5)
  let s := pmc s 0x200 pipe 1 (some info.account)
  let p := if w.reparse then parsePass s pipe p else unparsedPass s pipe p
  let x := if p.stage = 12 then (s, p) else advancePass s pipe p
  { x.1 with pp := { x.1.pp with passes := Map.upd x.1.pp.passes pipe fun l => l ++ [x.2] } }

/-- The inputs that share the slot by weighted round robin, with their weights; 0 counts as 1 (R304). -/
def sharedInputs (s : State) (pipe : Nat) : List (Nat × Nat) :=
  [(1, max 1 (s.rd PP_ARB.w_htx pipe)), (3, max 1 (s.rd PP_ARB.w_rly pipe)), (4, max 1 (s.rd PP_ARB.w_trn pipe))]

/-- The shared input that takes the next slot: one slot per turn, in ascending order after the last one served, among those
that hold a packet and have slots of their weight left in the round; when none has any left a new round begins (R304). -/
def shareSlot (s : State) (pipe : Nat) : Option (Nat × State) :=
  let busy := (sharedInputs s pipe).filter fun x => !(inputOf s pipe x.1).isEmpty
  let turn := Map.get s.pp.turn pipe
  let used := fun k => Map.get s.pp.credits (inKey pipe k)
  let open_ := busy.filter fun x => decide (used x.1 < x.2)
  let fresh := open_.isEmpty
  let among := if fresh then busy else open_
  match (match among.find? fun x => decide (turn < x.1) with | some x => some x | none => among.head?) with
  | none => none
  | some x =>
    let old := if fresh then (sharedInputs s pipe).foldl (fun m y => Map.set m (inKey pipe y.1) 0) s.pp.credits else s.pp.credits
    let now_ := if fresh then 1 else used x.1 + 1
    some (x.1, { s with pp := { s.pp with
      turn := Map.set s.pp.turn pipe x.1, credits := Map.set old (inKey pipe x.1) now_ } })

/-- The recirculation budget allows a slot in this window (R305). -/
def recircAllowed (s : State) (pipe : Nat) : Bool := decide (Map.get s.pp.recircUse pipe < 30)

/-- The input that takes the slot of a cycle (R304). -/
def slotInput (s : State) (pipe : Nat) : Option (Nat × State) :=
  if !(inputOf s pipe 0).isEmpty then some (0, s)
  else if !(inputOf s pipe 2).isEmpty && recircAllowed s pipe then
    some (2, { s with pp := { s.pp with recircUse := Map.upd s.pp.recircUse pipe fun n => n + 1 } })
  else shareSlot s pipe

/-- One cycle of a pipeline's clock counted; a window of 256 cycles ends (R305). -/
def pipeCycle (s : State) (pipe : Nat) : State :=
  let n := Map.get s.pp.cycle pipe + 1
  { s with pp := { s.pp with
      cycle := Map.set s.pp.cycle pipe (n % 256)
      recircUse := if n % 256 = 0 then Map.set s.pp.recircUse pipe 0 else s.pp.recircUse } }

/-- PASS_ENTER: in one cycle of a pipeline, at most one packet takes the slot and starts its pass. -/
def execPassEnter (pipe : Nat) (s : State) : Out :=
  run s fun s =>
    if decide (2 ≤ pipe) || !enabled s .pp then s
    else match slotInput s pipe with
      | none => pipeCycle (pmc s 0x201 pipe 1 none) pipe
      | some (source, s) =>
        match inputOf s pipe source with
        | [] => s
        | w :: rest =>
          let s := { s with pp := { s.pp with inputs := Map.set s.pp.inputs (inKey pipe source) rest } }
          pipeCycle (startPass s pipe source w) pipe

/-! ### The cipher point (R329, R602 to R607) -/

/-- The pass at the cipher point that a pipeline's turn falls to: the oldest one waiting there; the two pipelines take
turns, after any URGENT job (R586). -/
def cipherTurn (s : State) (pipe : Nat) : Option Pass :=
  let other := (atCipher s (1 - pipe)).isEmpty
  let mine := other || decide (Map.get s.cip.turns 6 ≠ pipe + 1)
  if mine then (atCipher s pipe).head? else none

/-- The first pass of a pipeline that waits at the cipher point replaced. -/
def replaceAtCipher (p' : Pass) : List Pass → List Pass
  | [] => []
  | p :: rest => if p.esp.isSome && !p.lost then p' :: rest else p :: replaceAtCipher p' rest

/-- A pass after its cipher step goes on, and takes its place among the passes again. -/
def resumePass (s : State) (pipe : Nat) (p : Pass) : State :=
  let x := if p.lost then (s, p) else advancePass s pipe { p with esp := none }
  let s := { x.1 with cip := { x.1.cip with turns := Map.set x.1.cip.turns 6 (pipe + 1) } }
  { s with pp := { s.pp with passes := Map.upd s.pp.passes pipe (replaceAtCipher x.2) } }

/-- The cipher step of a packet fails: it is dropped and counted. -/
def failCipher (s : State) (pipe n : Nat) (p : Pass) : State :=
  let x := loseAtCipher s pipe n p
  resumePass x.1 pipe x.2

/-- A URGENT job that can be dispatched goes before inline packets (R586, R587). -/
def urgentWaits (s : State) : Bool :=
  s.cip.jobs.any fun j => match entryOf s j.queue j.sseq with
    | some e => decide (e.at 8 24 3 = 7) && decide (queueFn s j.queue = 0) && eligible s (queueAccount s j.queue)
    | none => false

/-- The frame of a pass encapsulated and encrypted, with the edits recorded so far performed first (R603). -/
def sealPass (s : State) (pipe : Nat) (x : Nat) (layer seq : Nat) (ip : IpAt) (o : Nat) (e : Editing) (p : Pass) : Pass :=
  let frame := espSeal x e.frame ip o seq
  let m := p.pkt.info
  let layers := (List.range m.layers.length).map fun i =>
    let y := (e.at i).getD 0
    ((if o ≤ y then y + 16 else y), (nth m.layers i (0, 0)).2)
  { p with
    pkt := { p.pkt with frame := frame, info := { m with layers := layers, pktLen := frame.length, hdrLen := e.hdrLen, tags := e.tags } }
    gone := (List.range m.layers.length).filter fun i => (e.at i).isNone
    spent := p.spent + p.edits.length
    edits := []
    sealFrom := some layer
    stage := afterCipher s pipe p }

/-- ESP_ENCRYPT: at the cipher point an outbound ESP packet takes a count and a sequence number and is encrypted. -/
def execEspEncrypt (pipe : Nat) (s : State) : Out :=
  run s fun s =>
    match cipherTurn s pipe with
    | none => s
    | some p =>
      match p.esp with
      | some (.encrypt k layer) =>
        if !enabled s .cip then failCipher s pipe espBusy p
        else if urgentWaits s then s
        else
          let x := slotImage s k
          if slotMode x = 0 || !slotEsp x || !slotOutbound x || !slotUsable s k then failCipher s pipe espKeyInvalid p
          else
            let e := deparse s pipe p
            let types := p.pkt.info.layers.map fun l => l.2
            match e.at layer, ipBefore s p.pkt.info.bank pipe types e.offs layer with
            | some o, some (ip, _) =>
              match freeCore s with
              | none => s
              | some (c, s1) =>
                match takeCount s1 k with
                | .waits s2 => s2
                | .refused s2 => failCipher s2 pipe espExhausted p
                | .taken s2 =>
                  let seq := slotSeq x + 1
                  let acct := p.pkt.info.account
                  let s3 := readSlot (putSlot s2 k 192 64 seq) c k acct
                  let s4 := cipherBlocks (s3.count CIP_CNT.count 1 1) c (espText e.frame ip o).length acct
                  let s5 := s4.count PP_PIPE_CNT.count e.refused pipe 9
                  resumePass (touchDomain s5 (72 + c)) pipe (sealPass s5 pipe x layer seq ip o e p)
            | _, _ => failCipher s pipe espBadFormat p
      | _ => s

/-- A decrypted packet is parsed again from where its ESP header began (R329). -/
def reparsePass (s : State) (pipe st o : Nat) (ip : IpAt) (frame : Bytes) (p : Pass) : Pass :=
  let m := p.pkt.info
  let info := { m with layers := m.layers.filter (fun l => decide (l.1 < o)), pktLen := frame.length, hdrLen := o, l4Ok := false }
  let quiet := m.source = 1 || m.source = 4
  let start : Parse := { info := info, raised := p.raised, ip := some ip, ipStop := some o, proto := beAt frame (protoAt ip) 1 }
  let r := parseFrom s m.bank pipe frame quiet 24 st o start
  let last := r.ip.getD ip
  { p with
    pkt := { p.pkt with frame := frame, info := r.info }, raised := r.raised
    ipV6 := last.v6, ipOff := last.off, ipStop := r.ipStop
    stage := afterCipher s pipe p }

/-- ESP_DECRYPT: at the cipher point an inbound ESP packet is checked and decrypted, and parsed again, or dropped. -/
def execEspDecrypt (pipe : Nat) (s : State) : Out :=
  run s fun s =>
    match cipherTurn s pipe with
    | none => s
    | some p =>
      match p.esp with
      | some (.decrypt k st) =>
        if !enabled s .cip then failCipher s pipe espBusy p
        else if urgentWaits s then s
        else
          let f := p.pkt.frame
          let o := p.ipStop.getD 0
          let ip : IpAt := ⟨p.ipV6, p.ipOff⟩
          if p.ipStop.isNone then failCipher s pipe espBadFormat p
          else match espBefore s k f o with
            | .inl n => failCipher s pipe n p
            | .inr seq =>
              match freeCore s with
              | none => s
              | some (c, s1) =>
                match takeCount s1 k with
                | .waits s2 => s2
                | .refused s2 => failCipher s2 pipe espExhausted p
                | .taken s2 =>
                  let x := slotImage s2 k
                  let acct := p.pkt.info.account
                  let s3 := touchDomain (cipherBlocks (readSlot s2 c k acct) c (f.length - (o + 16) - slotIcv x) acct) (72 + c)
                  match espAfter x f o seq with
                  | .inl n => failCipher s3 pipe n p
                  | .inr (text, next) =>
                    if isReplay s3 x seq then failCipher s3 pipe espReplay p
                    else
                      let s4 := (acceptSeq s3 k seq acct).count CIP_CNT.count 1 2
                      resumePass s4 pipe (reparsePass s4 pipe st o ip (espStrip f ip o text next) p)
      | _ => s

/-! ### Delivery to host queues (R350 to R352) -/

/-- A NET_POST_RX entry that R349 forbids: its buffer is too short, or a reserved bit is 1. -/
def badPost (e : Entry) : Bool := e.at 0x10 0 14 < 64 || e.at 0x10 16 16 ≠ 0 || e.at 0x14 0 96 ≠ 0

/-- The earliest-accepted NET_POST_RX of a queue that holds no frame, whether its own command has run or it may run now
(R350). -/
def postedBuffer (s : State) (q : Nat) : Option Entry :=
  (queueInt s q).entries.find? fun e =>
    decide (e.op = 0x11) && e.outcome.isNone && e.decided.isNone && (e.begun || (mayBegin s e && !badPost e))

/-- What delivery of a frame comes to. -/
inductive Delivery where
  | done (s : State)
  | noBuffer
  | waits (s : State)
deriving Repr

/-- The prefix of a delivered frame (R352). -/
def rxPrefix (m : Meta) : Bytes :=
  leBytes 8 m.arrTt ++ leBytes 4 (m.arrFrac + m.inPort * 2 ^ 16 + m.source * 2 ^ 20) ++ leBytes 4 m.flowHash ++ leBytes 16 m.scratch

/-- The record's extra for a delivered frame (R351). -/
def rxExtra (m : Meta) (len : Nat) (truncated mirror : Bool) : Nat :=
  len + flag truncated * 2 ^ 14 + flag mirror * 2 ^ 15 + m.inPort * 2 ^ 16 + flag m.ipOk * 2 ^ 20 + flag m.l4Ok * 2 ^ 21

/-- A frame is delivered to a NET_RX queue (R350, R351). -/
def deliver (s : State) (q : Nat) (m : Meta) (frame : Bytes) (mirror : Bool) : Delivery :=
  if queueState s q ≠ qActive || s.rd WQ_CTX.type q ≠ 2 then .noBuffer
  else match postedBuffer s q with
    | none => .noBuffer
    | some e =>
      let s := begin_ s q e.sseq
      let f := queueFn s q
      let room := e.at 0x10 0 14
      let pre := if bitAt e.raw (8 * 0x10 + 14) then rxPrefix m else []
      let body := frame.take (room - pre.length)
      let data := pre ++ body
      if !fnLive s f then .noBuffer
      else match translateRange s f (bitAt e.raw (8 * 0x10 + 15)) (e.at 8 0 64) data.length true with
        | .miss a => .waits (requestTranslation s f a)
        | .fault => .done (finishWith (faultTaken s f) q e.sseq stBusError)
        | .ok ps =>
          let s := sramAccess (entryWrite s q e.sseq ps data) (ceilDiv frame.length 64) m.account
          let extra := rxExtra m frame.length (decide (body.length < frame.length)) mirror
          .done (finish s q e.sseq { status := stOk, bytes := body.length, extra := extra })

/-! ### The slow path (R341 to R344) -/

/-- The channel of a reason for a pipeline. -/
def slowChannel (p : Pass) (r pipe : Nat) : Nat := liveAt p.live (if pipe = 0 then PP_SLOW.ch0 else PP_SLOW.ch1) r

/-- The baton of a slow-path packet (R342). -/
def slowBaton (x : SlowItem) : Nat :=
  let m := x.pkt.info
  x.reason + x.extra <<< 8 + x.pipe <<< 16 + m.source <<< 17 + m.inPort <<< 20 + m.handle <<< 32 + m.pktLen <<< 64
    + m.account <<< 96 + m.arrTt <<< 128 + (m.scratch % 2 ^ 256) <<< 256

/-- A packet that goes to the slow path takes a run of lines, as R341 asks, and is put into them; none while there is no
such run. -/
def gather (s : State) (x : SlowItem) : Option (State × SlowItem) :=
  (reseat s x.pkt.info.handle (linesFor x.pkt.frame.length) true).map fun r =>
    let pkt := { x.pkt with info := { x.pkt.info with handle := r.1 } }
    (storeLines r.2 pkt, { x with pkt := pkt })

/-- A baton of the slow path is sent where its channel grants a credit; the packet is then in firmware's hands (R341,
R343, R344). -/
def sendSlow (s : State) (x : SlowItem) : Option State :=
  (gather s x).bind fun g =>
    (deviceSend g.1 (srcSlow x.pipe) x.channel (slowBaton g.2) x.pkt.info.account).map fun s =>
      let s := pmc (s.count PP_SLOW_CNT.sent 1 x.reason) 0x204 x.pipe 1 (some x.pkt.info.account)
      { s with pp := { s.pp with slowOut := s.pp.slowOut ++ [g.2.pkt.info.handle] } }

/-- A slow-path packet without a credit waits in the queue of its pipeline, or is dropped where the queue is full (R343). -/
def waitSlow (s : State) (x : SlowItem) : State :=
  if 4096 ≤ (Map.get s.pp.slow x.pipe).length then
    freeHandle (raise (s.count PP_SLOW_CNT.dropped 1 x.reason) 0x0A1) x.pkt.info.handle
  else { s with pp := { s.pp with slow := Map.upd s.pp.slow x.pipe fun l => l ++ [x] } }

/-- A packet with a deciding reason: its baton is sent where no earlier packet of its channel waits and the channel grants a
credit; else the packet waits (R342, R343). -/
def toSlow (s : State) (pipe reason extra channel : Nat) (pkt : Packet) : State :=
  let pkt := { pkt with info := { pkt.info with slowReason := reason, slowExtra := extra, destKind := 4 } }
  let x : SlowItem := ⟨pipe, reason, extra, channel, pkt⟩
  if (Map.get s.pp.slow pipe).any fun y => decide (y.channel = x.channel) then waitSlow s x
  else (sendSlow s x).getD (waitSlow s x)

/-- The first packet of a slow-path queue whose channel grants a credit; packets of one channel keep their order. -/
def sendFirst (s : State) (pipe : Nat) : List SlowItem → List SlowItem → State
  | _, [] => s
  | before, x :: rest =>
    if before.any fun y => decide (y.channel = x.channel) then sendFirst s pipe (before ++ [x]) rest
    else match sendSlow s x with
      | some s => { s with pp := { s.pp with slow := Map.set s.pp.slow pipe (before ++ rest) } }
      | none => sendFirst s pipe (before ++ [x]) rest

/-- SLOW_PATH_BATON: a slow-path packet's baton is sent once its channel grants a credit. -/
def execSlowPathBaton (pipe : Nat) (s : State) : Out :=
  run s fun s => if pipe < 2 then sendFirst s pipe [] (Map.get s.pp.slow pipe) else s

/-! ### Mirroring (R353 to R356) -/

/-- The copy of a packet for a session: cut, and charged to the session's account. -/
def mirrorCopy (live : Map Nat) (m : Nat) (p : Packet) : Packet :=
  let t := liveAt live PP_MIRROR.trunc m
  let frame := if t = 0 then p.frame else p.frame.take t
  { p with
    frame := frame, tsReq := false
    info := { p.info with
      account := liveAt live PP_MIRROR.account m, pktLen := frame.length, tc := liveAt live PP_MIRROR.tc m } }

/-- A copy goes to its target, or is dropped and counted (R355, R356). -/
def sendCopy (s : State) (pipe : Nat) (live : Map Nat) (m : Nat) (p : Packet) : State :=
  let c := mirrorCopy live m p
  let dropped := pipeCount s pipe 8
  let target := liveAt live PP_MIRROR.target m
  if freeLineCount s < 65536 then dropped
  else match liveAt live PP_MIRROR.kind m with
    | 0 =>
      let port := target % 16
      match allocate s (linesFor c.frame.length) none 0 c.info.account with
      | none => dropped
      | some (h, s1) =>
        let c := { c with info := { c.info with handle := h, destKind := 1, egPort := port, tmGroup := 0, source := 0 } }
        if (admissionDrop s1 port 0 c.info.tc 0 (linesFor c.frame.length)).isSome then dropped
        else tmEnqueue s1 port 0 c.info.tc 0 c
    | 1 => match deliver s target c.info c.frame true with
      | .done s => s
      | _ => dropped
    | _ =>
      match allocate s (linesFor c.frame.length) none 0 c.info.account with
      | none => dropped
      | some (h, s1) =>
        let c := { c with info := { c.info with handle := h, slowReason := 7, slowExtra := 0xFF, destKind := 4 } }
        match sendSlow s1 ⟨pipe, 7, 0xFF, target % 4096, c⟩ with
        | some s => s
        | none => dropped

/-- The copies of one point that a pass has requested; every sample-th request of a session is copied (R353, R354). -/
def mirrorPoint (pipe point mask : Nat) (live : Map Nat) (p : Packet) (s : State) : State :=
  ((List.range 16).filter fun m => mask.testBit m && decide (liveAt live PP_MIRROR.point m = point)
      && decide (liveAt live PP_MIRROR.valid m ≠ 0) && decide (liveAt live PP_MIRROR.kind m ≠ 3)).foldl (fun t m =>
    let n := Map.get t.pp.mirror m + 1
    let full := decide (max 1 (liveAt live PP_MIRROR.sample m) ≤ n)
    let t := { t with pp := { t.pp with mirror := Map.set t.pp.mirror m (if full then 0 else n) } }
    if full then sendCopy t pipe live m p else t) s

/-! ### The end of a pass (R325 to R327, R334, R340) -/

/-- What becomes of a packet (R327). -/
inductive Fate where
  | drop
  | lost
  | reasonDrop (reason : Nat)
  | slow (reason extra channel : Nat)
  | recirculate
  | port (p g : Nat)
  | host (q : Nat)
  | trallasy
  | noDest
deriving DecidableEq, Repr

/-- The fate of a pass: the first that applies (R327, R339). -/
def fateOf (pipe : Nat) (p : Pass) : Fate :=
  let m := p.pkt.info
  if p.lost then .lost
  else if p.early then
    match lowestRaised p fun x => decide (x ≤ 1) with
    | some (r, x) => if slowMode p r = 1 then .reasonDrop r else .slow r x (slowChannel p r pipe)
    | none => .noDest
  else if p.drop then .drop
  else match lowestRaised p fun x => decide (x = 1), lowestRaised p fun x => decide (x = 0) with
    | some (r, _), _ => .reasonDrop r
    | none, some (r, x) => .slow r x (slowChannel p r pipe)
    | none, none =>
      if p.recirc then .recirculate
      else match m.destKind with
        | 1 => .port m.egPort m.tmGroup
        | 2 => .host m.destQueue
        | 3 => .trallasy
        | _ => .noDest

/-- A packet of source 1 or 4 may take neither the slow path nor recirculation (R340). -/
def diverted (p : Pass) (f : Fate) : Bool :=
  (p.pkt.info.source = 1 || p.pkt.info.source = 4) && (match f with
    | .slow _ _ _ => true
    | .recirculate => true
    | _ => false)

/-- A frame that no NET_RX queue takes is dropped and counted (R350). -/
def noBuffer (s : State) (pipe handle : Nat) : State := freeHandle (pipeCount s pipe 7) handle

/-- A packet as the deparser leaves it goes to its fate; none when the delivery must wait for a translation. -/
def takeFate (s : State) (pipe : Nat) (f : Fate) (pkt : Packet) : State ⊕ State :=
  let h := pkt.info.handle
  match f with
  | .drop => .inl (freeHandle (pipeCount s pipe 11) h)
  | .lost => .inl (freeHandle s h)
  | .reasonDrop r => .inl (freeHandle (s.count PP_SLOW_CNT.dropped 1 r) h)
  | .slow r x c => .inl (toSlow s pipe r x c pkt)
  | .recirculate => .inl (putInput s pipe 2 { pkt := pkt })
  | .port p g => .inl (tmEnqueue s p g pkt.info.tc pkt.info.colour pkt)
  | .host q => match deliver s q pkt.info pkt.frame false with
    | .done s => .inl (freeHandle s h)
    | .noBuffer => .inl (noBuffer s pipe h)
    | .waits s => .inr s
  | .trallasy => .inl { s with pp := { s.pp with toTrn := s.pp.toTrn ++ [(pipe, pkt)] } }
  | .noDest => .inl (freeHandle (pipeCount s pipe 10) h)

/-- No pass of another bank than the active one is left in a pipeline. -/
def drained (s : State) (pipe : Nat) : Bool :=
  (Map.get s.pp.passes pipe).all fun p => decide (p.pkt.info.bank = s.rd PP_PROG_STAT.active_bank pipe)

/-- The last pass of the old bank has left: the copy of the new bank into the old one begins (R332). -/
def checkDrained (s : State) (pipe : Nat) : State :=
  if s.on PP_PROG_STAT.draining pipe && drained s pipe then
    (s.wr PP_PROG_STAT.draining 0 pipe).wr PP_PROG_STAT.copying 1 pipe
  else s

/-- The packet of a pass as the deparser leaves it; an early fate and a packet lost keep the frame as it is. -/
def deparsed (s : State) (pipe : Nat) (p : Pass) : Packet × Nat :=
  if p.early || p.lost then (p.pkt, 0)
  else
    let e := deparse s pipe p
    ({ p.pkt with frame := e.frame, info := { p.pkt.info with pktLen := e.frame.length, tags := e.tags } }, e.refused)

/-- A packet that its edits made longer takes the lines for it, where there are enough free ones. -/
def grown (s : State) (p : Packet) : State × Packet :=
  match reseat s p.info.handle (linesFor p.frame.length) false with
  | none => (s, p)
  | some r => (r.2, { p with info := { p.info with handle := r.1 } })

/-- PASS_END: the oldest pass of a pipeline reaches the end of its deparser: its edits are applied, its copies made, and
the packet goes to its fate. -/
def execPassEnd (pipe : Nat) (s : State) : Out :=
  run s fun s =>
    match Map.get s.pp.passes pipe with
    | [] => s
    | p :: rest =>
      if p.stage < 12 then s
      else
        let f := fateOf pipe p
        let d := deparsed s pipe p
        let left := { s with pp := { s.pp with passes := Map.set s.pp.passes pipe rest } }
        let dropped := f = .drop || f = .lost || f = .noDest || diverted p f || (match f with
          | .reasonDrop _ => true
          | _ => false)
        let mask := p.pkt.info.mirrorMask
        let copies := fun t =>
          (if dropped then t else mirrorPoint pipe 1 mask p.live d.1 t) |> mirrorPoint pipe 0 mask p.live p.orig
        let out :=
          if diverted p f then .inl (freeHandle (pipeCount left pipe 6) d.1.info.handle)
          else if dropped then takeFate left pipe f d.1
          else
            let g := grown left d.1
            takeFate g.1 pipe f g.2
        match out with
        | .inl t => checkDrained (copies (t.count PP_PIPE_CNT.count d.2 pipe 9)) pipe
        | .inr t => { s with hif := t.hif, regs := t.regs, pmcWraps := t.pmcWraps }

/-! ### Reinject batons (R344 to R346) -/

/-- The head baton that a pipeline has taken from its reinject channel. -/
def headReinject (s : State) (pipe : Nat) : Option Baton := (Map.get s.rly.reinject pipe).head?

/-- The command of a baton. -/
def batonCmd (b : Baton) : Nat := bitsAt b.image 0 3

/-- The head baton is done with, and its sender gets its packet event once the packet's lines have been read (R687). -/
def endReinject (s : State) (pipe : Nat) (b : Baton) : State :=
  let s := { s with rly := { s.rly with reinject := Map.upd s.rly.reinject pipe List.tail } }
  if b.source < 512 then packetEvent s b.source else s

/-- The packet that a baton names, as its lines hold it now. -/
def batonPacket (s : State) (b : Baton) : Packet :=
  let h := bitsAt b.image 32 20
  let len := bitsAt b.image 64 14
  { frame := loadFrame s h len, info := { loadMeta s h with handle := h, pktLen := len } }

/-- A baton with the command acts on a handle that firmware holds; on any other handle it does nothing, and a packet with a
bad line is dropped (R275, R895). -/
def onReinject (pipe cmd : Nat) (act : Baton → Packet → State → State ⊕ State) (s : State) : State :=
  match headReinject s pipe with
  | none => s
  | some b =>
    if batonCmd b ≠ cmd then s
    else
      let p := batonPacket s b
      if !s.pp.slowOut.contains p.info.handle then endReinject s pipe b
      else if memBad s (lineAddr p.info.handle) (128 + p.frame.length) then
        let s := { s with pp := { s.pp with slowOut := s.pp.slowOut.erase p.info.handle } }
        endReinject (freeHandle (detFailed s) p.info.handle) pipe b
      else
        let s1 := sramAccess s (linesFor p.frame.length) p.info.account
        let s1 := { s1 with pp := { s1.pp with slowOut := s1.pp.slowOut.erase p.info.handle } }
        match act b p s1 with
        | .inl t => endReinject t pipe b
        | .inr t => { s with hif := t.hif, regs := t.regs, pmcWraps := t.pmcWraps }

/-- REINJECT: cmd 1 returns the packet to a stage of the pipeline. -/
def execReinject (pipe : Nat) (s : State) : Out :=
  run s (onReinject pipe 1 fun b p s =>
    let stage := bitsAt b.image 4 4
    .inl (putInput s pipe 3 ⟨p, stage, decide (stage = 0) && bitAt b.image 8⟩))

/-- SEND_TO_PORT: cmd 2 hands the packet to the traffic manager; its colour is green. -/
def execSendToPort (pipe : Nat) (s : State) : Out :=
  run s (onReinject pipe 2 fun b p s =>
    let tc := bitsAt b.image 109 3
    .inl (tmEnqueue s (bitsAt b.image 96 4) (bitsAt b.image 100 9) tc 0 { p with info := { p.info with tc := tc, colour := 0 } }))

/-- DELIVER_TO_HOST: cmd 3 delivers the packet to a NET_RX queue. -/
def execDeliverToHost (pipe : Nat) (s : State) : Out :=
  run s (onReinject pipe 3 fun b p s => takeFate s pipe (.host (bitsAt b.image 112 16)) p)

/-- FREE: cmd 4 frees the packet's lines. -/
def execFreeLines (pipe : Nat) (s : State) : Out :=
  run s (onReinject pipe 4 fun _ p s => .inl (freeHandle s p.info.handle))

/-- REINJECT_BAD: a baton with cmd 5 to 7, or 0, is discarded; 5 to 7 are counted. -/
def execReinjectBad (pipe : Nat) (s : State) : Out :=
  run s fun s =>
    match headReinject s pipe with
    | none => s
    | some b =>
      if 1 ≤ batonCmd b ∧ batonCmd b ≤ 4 then s
      else
        let s := if batonCmd b = 0 then s else pipeCount s pipe 12
        { s with rly := { s.rly with reinject := Map.upd s.rly.reinject pipe List.tail } }

/-! ### Host transmit and receive entries (R347 to R349) -/

/-- NET_SEND: an entry's frame is read into the packet buffer for its pipeline; `ok` is false when the read failed after
the host interface's retry. -/
def execNetSend (q sseq : Nat) (ok : Bool) (frame : Bytes) (s : State) : Out :=
  run s fun s =>
    match beginnable s q sseq 0x10 with
    | none => s
    | some e =>
      let len := e.at 0x10 0 14
      if len < 14 || 9596 < len || e.at 0x10 17 15 ≠ 0 || e.at 0x18 0 64 ≠ 0 then finishWith (begin_ s q sseq) q sseq stInvalid
      else withRanges s q sseq (bitAt e.raw (8 * 0x10 + 15)) [(e.at 8 0 64, len, false)] fun _ =>
        let s := begin_ s q sseq
        let acct := queueAccount s q
        if !ok then finishWith s q sseq stBusError
        else match allocate s (linesFor len) none 0 acct with
          | none => updEntry s q sseq fun e => { e with begun := false }
          | some (h, s) =>
            let pipe := e.at 0x10 14 1
            let info : Meta := {
              source := 1, account := acct, pktLen := len, handle := h, srcQueue := q, scratch := e.at 0x14 0 32 }
            let pkt : Packet := ⟨fitBytes len frame, info, bitAt e.raw (8 * 0x10 + 16), e.order⟩
            finish (putInput (chargeRead s q len) pipe 1 { pkt := pkt }) q sseq { status := stOk, bytes := len }

/-- NET_POST_RX: an entry posts a host buffer for received frames. -/
def execNetPostRx (q sseq : Nat) (s : State) : Out :=
  run s fun s =>
    match beginnable s q sseq 0x11 with
    | none => s
    | some e =>
      let s := begin_ s q sseq
      if badPost e then finishWith s q sseq stInvalid else s

/-! ### Setup of the pipelines (R287, R321, R330 to R333, R359) -/

/-- The power of the Ethernet domains follows the ports that are enabled on their lanes (R79). -/
def ethPower (s : State) : State :=
  (List.range 4).foldl (fun t n =>
    if (quadPorts t n).any fun p => t.on PP_PORT.enable p then wakeDomain t (108 + n)
    else if domainState t (108 + n) = .on then setDomain t (108 + n) .switchingOff else t) s

/-- PP_ETH_MODE_WRITE: the mode of a quad is written while every port that it takes part in
is disabled (R287, R967). -/
def execPpEthModeWrite (who : Initiator) (quad mode : Nat) (s : State) : Out :=
  run s fun s => setupWrite PP_ETH_MODE.quad0 0 (mode <<< (3 * quad)) who s fun s =>
    let d := match quad with
      | 0 => PP_ETH_MODE.quad0
      | 1 => PP_ETH_MODE.quad1
      | 2 => PP_ETH_MODE.quad2
      | _ => PP_ETH_MODE.quad3
    if 4 ≤ quad then s
    else if (quadPorts s quad).any fun p => s.on PP_PORT.enable p then
      (if s.rd d = mode % 8 then s else s.wr (lockedWriteField .pp) 1)
    else ethPower (s.wr d mode)

/-- FLOW_COUNTER_SNAPSHOT: a flow counter is read, and cleared with clear = 1, in one step. -/
def execFlowCounterSnapshot (who : Initiator) (s : State) : Out :=
  run s fun s => setupWrite PP_CNT_ADDR.go 0 1 who s fun s =>
    let pipe := s.rd PP_CNT_ADDR.pipe
    let i := s.rd PP_CNT_ADDR.index
    let c := flowCount s pipe i
    let s := (s.wr PP_CNT_DATA.packets c.1).wr PP_CNT_DATA.bytes c.2
    let s := ledgerAccess s (flowPlace pipe i) 16 false 0
    if s.on PP_CNT_ADDR.clear then putFlow (ledgerAccess s (flowPlace pipe i) 16 true 0) pipe i 0 0 else s

/-- A stage field has a value other than 0 in the active bank, the old one or the staging bank. -/
def stageFieldUsed (s : State) (d : Desc) (pipe n : Nat) : Bool :=
  let k := d.key pipe n
  s.on d pipe n || decide ((Map.find s.staged k).getD 0 ≠ 0) || decide ((Map.find s.pp.oldProg k).getD 0 ≠ 0)

/-- A stage is not empty in one of the banks (R321). -/
def stageUsed (s : State) (pipe n : Nat) : Bool :=
  [PP_STAGE.em0_en, PP_STAGE.em1_en, PP_STAGE.lt_en, PP_STAGE.always_en].any fun d => stageFieldUsed s d pipe n

/-- The power of a pipeline's groups of stages follows the program (R321). -/
def ppPower (s : State) : State :=
  ((List.range 2).flatMap fun p => (List.range 4).map fun g => (p, g)).foldl (fun t x =>
    let d := 112 + 4 * x.1 + x.2
    if (List.range 3).any fun i => stageUsed t x.1 (3 * x.2 + i) then wakeDomain t d
    else if domainState t d = .on then setDomain t d .switchingOff else t) s

/-- The fields of the program: the program memories and the class S fields of PP_CFG. -/
def isProgramKey (k : Nat) : Bool :=
  let off := k / 8 - Blk.pp.base
  decide (0x10000 ≤ off) || (decide (0x100 ≤ off) && decide (off < 0x108)) || (decide (0x140 ≤ off) && decide (off < 0x148))

/-- What passes of the old bank still see: the values before the application of every program field that it changed. -/
def programBefore (s0 s : State) : Map Nat :=
  ((s0.staged.map Prod.fst).filter isProgramKey).foldl (fun m k =>
    let old := Map.find s0.regs k
    let new := Map.find s.regs k
    if old = new then m else Map.insert m k (old.getD 0)) []

/-- After an application of PP both pipelines use the new bank, and drain the old one (R330, R331, R333). -/
def switchBanks (s0 s : State) : State :=
  let s := { s with pp := { s.pp with oldProg := programBefore s0 s } }
  let s := (List.range 2).foldl (fun t p =>
    checkDrained ((t.wr PP_PROG_STAT.active_bank (1 - t.rd PP_PROG_STAT.active_bank p) p).wr PP_PROG_STAT.draining 1 p) p) s
  ppPower (raise s 0x0A2)

/-- Neither pipeline drains or copies: PP may apply (R333). -/
def ppSafePoint (s : State) : Bool :=
  (List.range 2).all fun p => !s.on PP_PROG_STAT.draining p && !s.on PP_PROG_STAT.copying p

/-- BANK_COPY_DONE: the new bank of a pipeline has been copied into the old one (R332). -/
def execBankCopyDone (pipe : Nat) (s : State) : Out :=
  run s fun s =>
    if pipe < 2 && s.on PP_PROG_STAT.copying pipe then
      let s := s.wr PP_PROG_STAT.copying 0 pipe
      if ppSafePoint s then ppPower { s with pp := { s.pp with oldProg := [] } } else s
    else s

end Sys2Proof.Machine
end

