-- ==== Sys2Proof/Machine/Cipher.lean ====
section
/-! DEFINITION. The cipher engine: key loads, the scheduler, lookaside jobs and XTS data units (R574 to R601). -/
namespace Sys2Proof.Machine

/-! ### Key loads (R574 to R578) -/

/-- The image that a KEY_LOAD gives a slot: its bytes, used 0, the time, and the limit of R576. -/
def loadedSlot (s : State) (e : Entry) : Nat :=
  let x := e.at 0x20 0 256 + (e.at 0x40 0 512) <<< 512
  let limit := if slotLimit x = 0 || 2 ^ 31 < slotLimit x then 2 ^ 31 else slotLimit x
  putBits (putBits (putBits x 64 32 limit) 96 32 0) 256 64 (now s)

/-- The two halves of an XTS key are equal. -/
def xtsHalvesEqual (e : Entry) : Bool :=
  match e.at 0x20 0 4 with
  | 3 => e.at 0x40 0 128 = e.at 0x50 0 128
  | 4 => e.at 0x40 0 256 = e.at 0x60 0 256
  | _ => false

/-- The cases of R575. -/
def keyLoadInvalid (s : State) (q : Nat) (e : Entry) : Bool :=
  let k := e.at 8 0 20
  let mode := e.at 0x20 0 4
  let icv := e.at 0x20 8 2
  let len := e.at 0x20 16 7
  let esp := e.at 0x20 4 1 = 1
  !slotUsable s k || !slotOwned s k (queueFn s q)
    || (e.at 8 20 1 = 0 &&
      (e.at 8 21 11 ≠ 0 || e.at 0xC 0 160 ≠ 0 || e.at 0x20 10 6 ≠ 0 || e.at 0x20 23 9 ≠ 0 || e.at 0x24 16 16 ≠ 0
        || 9 ≤ mode || (esp && !isAead mode) || icv = 3 || (icv ≠ 0 && mode = 5)
        || (isHmac mode && (len = 0 || 64 < len)) || xtsHalvesEqual e))

/-- The slot is written, and the loads of it are counted (R576). -/
def writeKey (s : State) (k image acct : Nat) : State :=
  let s := setSlot s k image
  let s := if slotEsp image && !slotOutbound image then
      ledgerStore (ledgerAccess s (windowPlace image) 128 true acct) (windowPlace image) (List.replicate 128 0)
    else s
  let s := { s with cip := { s.cip with
    gens := Map.upd s.cip.gens k fun n => n + 1
    refused := s.cip.refused.filter fun x => decide (x ≠ k)
    reserve := Map.set s.cip.reserve k none } }
  let a := areaBase s 3 + k * 128
  deltaSlot (g6Access (g6Access s a true acct) (a + 64) true acct) k

/-- KEY_LOAD: an entry writes or clears its key slot (R575, R576). -/
def execKeyLoad (q sseq : Nat) (s : State) : Out :=
  run s fun s =>
    match beginnable s q sseq 0x41 with
    | none => s
    | some e =>
      let s := begin_ s q sseq
      if keyLoadInvalid s q e then finishWith s q sseq stInvalid
      else
        let s := writeKey s (e.at 8 0 20) (if e.at 8 20 1 = 1 then 0 else loadedSlot s e) (queueAccount s q)
        updEntry s q sseq fun e => { e with mark := s.cip.started + 1 }

/-- An invocation that bound a slot before some point is still running. -/
def boundEarlier (s : State) (k mark : Nat) : Bool :=
  let hit := fun u : CoreUnit => decide (u.slot = some k) && decide (u.order < mark)
  (s.cip.cores.any fun c => c.2.any hit) || s.cip.suspended.any hit

/-- KEY_LOAD_DRAINED: every invocation that bound the earlier contents has finished, and the load ends (R577, R578). -/
def execKeyLoadDrained (q sseq : Nat) (s : State) : Out :=
  run s fun s =>
    match entryOf s q sseq with
    | none => s
    | some e =>
      if e.op = 0x41 ∧ e.mark ≠ 0 ∧ !boundEarlier s (e.at 8 0 20) (e.mark - 1) then
        finish (updEntry s q sseq fun e => { e with mark := 0 }) q sseq { status := stOk }
      else s

/-! ### Lookaside jobs (R594 to R599) -/

/-- The tag length that an AEAD job asks for. -/
def jobTag (e : Entry) : Nat := match e.at 0x2C 1 2 with
  | 0 => 16
  | 1 => 12
  | _ => 8

/-- A job retires KEY_INVALID: the cases of R596. -/
def jobKeyInvalid (s : State) (e : Entry) : Bool :=
  let op := e.at 8 20 4
  let x := slotImage s (e.at 8 0 20)
  let mode := slotMode x
  let len := e.at 0xC 0 32
  let du := if e.at 0x2C 0 1 = 0 then 512 else 4096
  op ≠ 2 && (mode = 0 || slotEsp x || (op ≤ 1 && 5 < mode) || (3 ≤ op && !isHmac mode) || (e.at 0x2C 1 2 ≠ 0 && mode = 5)
    || (e.at 0x28 0 16 ≠ 0 && isXts mode) || (isXts mode && (len < 16 || (0 < len % du && len % du < 16))))

/-- Bytes of the MAC that a slot gives. -/
def macBytes (x : Nat) : Nat := digestBytes (slotMode x - 6)

/-- The ranges that a job reads: text with the tag to verify, AAD, and the MAC to verify (R597). -/
def jobReads (s : State) (e : Entry) : List (Nat × Nat × Bool) :=
  let op := e.at 8 20 4
  let len := e.at 0xC 0 32
  let x := slotImage s (e.at 8 0 20)
  let aead := op ≤ 1 && isAead (slotMode x)
  let text := (e.at 0x10 0 64, len + (if op = 1 && aead then jobTag e else 0), false)
  let aad := if aead then [(e.at 0x20 0 64, e.at 0x28 0 16, false)] else []
  let mac := if op = 4 then [(e.at 0x18 0 64, macBytes x, false)] else []
  text :: (aad ++ mac)

/-- An accepted CIP_JOB of an operation begins: it retires KEY_INVALID or BUS_ERROR, or waits for a core with what it has
read; `check` is the tag or MAC that it is to verify. -/
def startJob (q sseq op : Nat) (ok : Bool) (text aad check : Bytes) (s : State) : State :=
  match beginnable s q sseq 0x40 with
  | none => s
  | some e =>
    if e.at 8 20 4 ≠ op then s
    else if jobKeyInvalid s e then finishWith (begin_ s q sseq) q sseq stKeyInvalid
    else withRanges s q sseq (e.at 8 27 1 = 1) (jobReads s e) fun _ =>
      let s := begin_ s q sseq
      if !ok then finishWith s q sseq stBusError
      else
        let len := e.at 0xC 0 32
        let s := chargeRead s q ((jobReads s e).foldl (fun n r => n + r.2.1) 0)
        let j : CipJob := ⟨q, sseq, fitBytes len text, fitBytes (e.at 0x28 0 16) aad, check⟩
        { s with cip := { s.cip with jobs := s.cip.jobs ++ [j] } }

/-- ENCRYPT: a job encrypts its text. -/
def execEncryptJob (q sseq : Nat) (ok : Bool) (text aad : Bytes) (s : State) : Out :=
  run s (startJob q sseq 0 ok text aad [])
/-- DECRYPT: a job decrypts its text and verifies its tag. -/
def execDecryptJob (q sseq : Nat) (ok : Bool) (text aad tag : Bytes) (s : State) : Out :=
  run s (startJob q sseq 1 ok text aad tag)
/-- HASH: a job computes a digest. -/
def execHashJob (q sseq : Nat) (ok : Bool) (text : Bytes) (s : State) : Out :=
  run s (startJob q sseq 2 ok text [] [])
/-- MAC: a job computes a MAC. -/
def execMacJob (q sseq : Nat) (ok : Bool) (text : Bytes) (s : State) : Out :=
  run s (startJob q sseq 3 ok text [] [])
/-- MAC_VERIFY: a job verifies a MAC. -/
def execMacVerifyJob (q sseq : Nat) (ok : Bool) (text mac : Bytes) (s : State) : Out :=
  run s (startJob q sseq 4 ok text [] mac)

/-! ### The scheduler (R586 to R592) -/

/-- The class of a job (R586, R587). -/
def jobClass (s : State) (q : Nat) (e : Entry) : Nat :=
  let p := e.at 8 24 3
  if p = 7 ∧ queueFn s q = 0 then 7 else if 5 ≤ p then 4 else p

/-- The waiting jobs of a class whose account is eligible (R589). -/
def jobsOfClass (s : State) (c : Nat) : List CipJob :=
  s.cip.jobs.filter fun j => match entryOf s j.queue j.sseq with
    | some e => decide (jobClass s j.queue e = c) && eligible s (queueAccount s j.queue)
    | none => false

/-- The job of a class that round robin among the queues picks; `last` is the queue last served, plus 1. -/
def pickJob (last : Nat) (js : List CipJob) : Option CipJob :=
  let later := js.filter fun j => decide (last ≤ j.queue)
  let best := fun l : List CipJob => l.foldl (fun (b : Option CipJob) j => match b with
    | none => some j
    | some x => if j.queue < x.queue then some j else some x) none
  best (if later.isEmpty then js else later)

/-- The device is in start-up, test or recovery: phases 0, 1, 3 and 4 (R591, R838). -/
def maySuspend (s : State) : Bool := decide (s.rd BOOT_STATUS.phase ≠ 2)

/-- A job on a core may be suspended: it is of class 4 or lower. -/
def suspendable (u : CoreUnit) : Bool :=
  decide (u.cls ≤ 4) && match u.work with
    | .job _ _ => true
    | _ => false

/-- The core whose job is suspended: the lowest class, and among equals the one started last (R591). -/
def victimCore (s : State) : Option (Nat × CoreUnit) :=
  (List.range 24).foldl (fun best c => match coreUnit s c with
    | some u => if !suspendable u then best else match best with
      | none => some (c, u)
      | some (_, v) => if u.cls < v.cls ∨ (u.cls = v.cls ∧ v.order < u.order) then some (c, u) else best
    | none => best) none

/-- A powered core is free. -/
def poweredFree (s : State) : Bool :=
  (List.range 24).any fun c => (coreUnit s c).isNone && decide (domainState s (72 + c) = .on)

/-- A core for a unit of a class, after a suspension where R591 calls for one. -/
def coreFor (s : State) (cls : Nat) : Option (Nat × State) :=
  if cls = 7 && !poweredFree s && maySuspend s then
    match victimCore s with
    | some (c, u) =>
      let s := (setCore s c none).count CIP_CNT.count 1 4
      some (c, { s with cip := { s.cip with suspended := s.cip.suspended ++ [u] } })
    | none => freeCore s
  else freeCore s

/-- A unit is placed on a core. -/
def placeUnit (s : State) (c src : Nat) (u : CoreUnit) : State :=
  let s := setCore s c (some u)
  { s with cip := { s.cip with started := s.cip.started + 1, turns := Map.set s.cip.turns u.cls (src + 1) } }

/-- A job is dispatched: it binds its slot and takes its count, or retires (R577, R580, R596). -/
def dispatchJob (s0 : State) (cls : Nat) (j : CipJob) (e : Entry) : State :=
  match coreFor s0 cls with
  | none => s0
  | some (c, s) =>
    let acct := queueAccount s j.queue
    let k := e.at 8 0 20
    let unit := fun (t : State) (slot : Option Nat) => (⟨.job j.queue j.sseq, slot, Map.get t.cip.gens k, slotImage t k, j.text,
      j.aad, j.check, decide (e.at 8 20 4 = 0), e.at 0x30 0 128, cls, t.cip.started, acct⟩ : CoreUnit)
    if e.at 8 20 4 = 2 then placeUnit (dropJob s j) c j.queue (unit s none)
    else if jobKeyInvalid s e then finishWith (dropJob s0 j) j.queue j.sseq stKeyInvalid
    else match takeCount s k with
      | .waits t => { s0 with cip := { s0.cip with reserve := t.cip.reserve }, deltas := t.deltas, pseq := t.pseq, regs := t.regs }
      | .refused t => finishWith (dropJob t j) j.queue j.sseq stKeyExhausted
      | .taken t => placeUnit (dropJob (readSlot t c k acct) j) c j.queue (unit t (some k))

/-- A slot that a volume with xts may not use: empty, with esp, or of a mode other than 3 or 4 (R601). -/
def xtsSlotBad (s : State) (k : Nat) : Bool :=
  let x := slotImage s k
  slotMode x = 0 || slotEsp x || !isXts (slotMode x)

/-- The next data unit of the block unit is dispatched: it takes its count, or its command retires (R600, R601). -/
def dispatchXts (s0 : State) (w : XtsWork) : State :=
  match freeCore s0, blkCmd s0 w.queue w.sseq with
  | some (c, s), some cmd =>
    let acct := queueAccount s w.queue
    if xtsSlotBad s w.slot then finishWith (dropXts s0 w.queue w.sseq) w.queue w.sseq stKeyInvalid
    else match takeCount s w.slot with
      | .waits t => { s0 with cip := { s0.cip with reserve := t.cip.reserve }, deltas := t.deltas, pseq := t.pseq, regs := t.regs }
      | .refused t => finishWith (dropXts t w.queue w.sseq) w.queue w.sseq stKeyExhausted
      | .taken t =>
        let at_ := stageBase t + cmd.buf.getD 0 + w.next * w.size
        if !w.enc && memBad t at_ w.size then stageRefused s0 cmd
        else
        let text := if w.enc then fitBytes w.size (slice cmd.plain (w.next * w.size) w.size) else memLoad t at_ w.size
        let u : CoreUnit := ⟨.xts w.queue w.sseq w.next, some w.slot, Map.get t.cip.gens w.slot, slotImage t w.slot, text, [], [],
          w.enc, w.lba + w.next, 5, t.cip.started, acct⟩
        let t := placeUnit (readSlot t c w.slot acct) c 65538 u
        let step := mapIf (fun y => decide (y = w)) (fun y => { y with next := y.next + 1 }) t.cip.xts
        { t with cip := { t.cip with xts := step.filter fun y => decide (y.next < y.count) } }
  | _, _ => s0

/-- A job of the highest of some classes that has one is dispatched. -/
def dispatchFrom (s : State) : List Nat → State
  | [] => s
  | c :: rest =>
    match pickJob (Map.get s.cip.turns c) (jobsOfClass s c) with
    | some j => match entryOf s j.queue j.sseq with
      | some e => dispatchJob s c j e
      | none => s
    | none => dispatchFrom s rest

/-- Units of work that wait for a core: jobs, packets at the cipher points, and data units of the block unit. -/
def coreDemand (s : State) : Nat :=
  s.cip.jobs.length + (atCipher s 0).length + (atCipher s 1).length + (s.cip.xts.map fun w => w.count - w.next).sum

/-- Cores that may take work now: powered and free. -/
def readyCores (s : State) : Nat :=
  ((List.range 24).filter fun c => (coreUnit s c).isNone && decide (domainState s (72 + c) = .on)).length

/-- The scheduler wakes cores ahead of need while more work waits than the powered cores can take, at most `n` of them; which
of the cores that are off, the spec leaves open (R117). -/
def wakeAhead : Nat → State → State
  | 0, s => s
  | n + 1, s =>
    if coreDemand s ≤ readyCores s then s
    else match freePick s ((List.range 24).filter fun c => domainState s (72 + c) = .off) with
      | (some c, t) => wakeAhead n (wakeDomain t (72 + c))
      | (none, _) => s

/-- CIPHER_DISPATCH: cores are woken ahead of need (R117), and the scheduler dispatches a unit by class and round robin;
an inline packet that is next is taken by its own command. -/
def execCipherDispatch (s : State) : Out :=
  run s fun s =>
    if !enabled s .cip then s
    else
    let s := wakeAhead 24 s
    if !(jobsOfClass s 7).isEmpty then dispatchFrom s [7]
    else if !(atCipher s 0).isEmpty || !(atCipher s 1).isEmpty then s
    else match s.cip.xts with
      | w :: _ => dispatchXts s w
      | [] => dispatchFrom s [4, 3, 2, 1, 0]

/-! ### The end of a unit (R585, R597 to R599, R609) -/

/-- The text of an XTS job, data unit by data unit with rising tweaks (R594). -/
def xtsText (x : Nat) (enc : Bool) (du : Nat) : Nat → Nat → Bytes → Bytes
  | 0, _, _ => []
  | fuel + 1, tweak, text =>
    if text.isEmpty then []
    else xtsUnit x enc tweak (text.take du) ++ xtsText x enc du fuel ((tweak + 1) % 2 ^ 128) (text.drop du)

/-- What a job writes, and whether its tag or MAC verifies (R597, R598). -/
def jobResult (e : Entry) (u : CoreUnit) : Bytes × Bool :=
  let x := u.image
  let nonce := leBytes 12 u.tweak
  match e.at 8 20 4 with
  | 0 =>
    if isAead (slotMode x) then
      let c := aeadSeal x nonce u.text
      (c ++ aeadIcv x nonce u.aad c (jobTag e), true)
    else (xtsText x true (if e.at 0x2C 0 1 = 0 then 512 else 4096) (u.text.length / 16 + 1) u.tweak u.text, true)
  | 1 =>
    if isAead (slotMode x) then
      if aeadIcv x nonce u.aad u.text (jobTag e) = u.check then (aeadOpen x nonce u.text, true)
      else (List.replicate u.text.length 0, false)
    else (xtsText x false (if e.at 0x2C 0 1 = 0 then 512 else 4096) (u.text.length / 16 + 1) u.tweak u.text, true)
  | 2 => (digest (e.at 8 28 2) u.text, true)
  | 3 => (slotMac x u.text, true)
  | _ => ([], decide (slotMac x u.text = u.check))

/-- The source and destination ranges of a job overlap and are not equal: its output is undefined (R597). -/
def jobOverlaps (e : Entry) (u : CoreUnit) (n : Nat) : Bool :=
  let a := e.at 0x10 0 64
  let b := e.at 0x18 0 64
  let m := e.at 0xC 0 32 + (if e.at 8 20 4 = 1 && isAead (slotMode u.image) then jobTag e else 0)
  a ≠ b && decide (a < b + n) && decide (b < a + m)

/-- A finished job writes its output and finishes; a write that fails finishes BUS_ERROR, and what it leaves at the
destination is open (R598, R599). -/
def endJob (s : State) (q sseq : Nat) (e : Entry) (u : CoreUnit) (writeOk : Bool) : State :=
  let r := jobResult e u
  let extra := match u.slot with
    | some _ => slotLimit u.image - slotUsed u.image
    | none => 0
  withRanges s q sseq (e.at 8 27 1 = 1) [(e.at 0x18 0 64, r.1.length, true)] fun ps =>
    let x := if (jobOverlaps e u r.1.length && r.2) || !writeOk then freeBytes r.1.length s else (r.1, s)
    let s := entryWrite x.2 q sseq (ps.headD []) x.1
    if !writeOk then finishWith s q sseq stBusError
    else if !r.2 then finish s q sseq { status := stAuthFail }
    else finish s q sseq { status := stOk, bytes := e.at 0xC 0 32, extra := extra }

/-- The blocks of a unit, charged to its account and counted (R590). -/
def chargeUnit (s : State) (c : Nat) (u : CoreUnit) : State := cipherBlocks s c (u.text.length + u.aad.length) u.acct

/-- A finished data unit reaches its place: staging for a write, and the command for a read (R600). -/
def endXts (s : State) (u : CoreUnit) (q sseq i : Nat) : State :=
  match blkCmd s q sseq with
  | none => s
  | some cmd =>
    let out := xtsUnit u.image u.enc u.tweak u.text
    let s := updCmd s q sseq fun c => { c with units := Map.insert c.units i out }
    let a := stageBase s + cmd.buf.getD 0 + i * u.text.length
    if u.enc then
      memStore ((List.range (u.text.length / 64)).foldl (fun t i => g6Access t (a + 64 * i) true u.acct) s) a out
    else s

/-- The source of a unit fails detection too; which of the three places held it, R276 and R609 leave open. -/
def sourceFailed (s : State) (q sseq : Nat) : State :=
  finishWith (freeWord s).2 q sseq stDetectedFault (1 + (freeWord s).1 % 3)

/-- CIPHER_UNIT_DONE: a core finishes its unit; `sourceOk` is false when the unit's output and then its source failed
detection, and `writeOk` when a host write failed (R588, R599, R609). -/
def execCipherUnitDone (core : Nat) (sourceOk writeOk : Bool) (s : State) : Out :=
  run s fun s =>
    match coreUnit s core with
    | none => s
    | some u =>
      match u.work with
      | .xts q sseq i =>
        let s := (releaseCore (chargeUnit s core u) core).count CIP_CNT.count 1 3
        if sourceOk then endXts s u q sseq i
        else if u.enc then sourceFailed (dropXts s q sseq) q sseq
        else finishWith (dropXts s q sseq) q sseq stDetectedFault 2
      | .job q sseq =>
        let free := fun t => (releaseCore (chargeUnit t core u) core).count CIP_CNT.count 1 0
        match entryOf s q sseq with
        | none => free s
        | some e =>
          if e.outcome.isSome || e.decided.isSome then free s
          else if !sourceOk then sourceFailed (free s) q sseq
          else
            let t := endJob s q sseq e u writeOk
            match entryOf t q sseq with
            | some e' => if e'.outcome.isSome then free t else t
            | none => free t

/-! ### Registers (R573, R584, R611, R612) -/

/-- A CIP_KCMD action ends with a result. -/
def endKcmd (s : State) (action result : Nat) : State := ((s.wr CIP_KCMD.action action).wr CIP_KCMD.busy 0).wr CIP_KCMD.result result

/-- KEY_SLOT_READ: CIP_KCMD READ returns a slot with its key bytes 0. -/
def execKeySlotRead (who : Initiator) (s : State) : Out :=
  run s fun s => setupWrite CIP_KCMD.go 0 1 who s fun s =>
    let k := s.rd CIP_KCMD.slot
    if !slotUsable s k then endKcmd s 0 1
    else (endKcmd s 0 0).wr CIP_KCMD_REC.image (slotImage s k % 2 ^ 512)

/-- LOWER: CIP_KCMD LOWER sets a lower limit. -/
def execKeyLower (who : Initiator) (s : State) : Out :=
  run s fun s => setupWrite CIP_KCMD.go 0 1 who s fun s =>
    let k := s.rd CIP_KCMD.slot
    let limit := s.rd CIP_KCMD.limit
    if !slotUsable s k then endKcmd s 1 1
    else if slotLimit (slotImage s k) ≤ limit then endKcmd s 1 2
    else deltaSlot (endKcmd (putSlot s k 64 32 limit) 1 0) k

/-- A slot of a block is not empty. -/
def blockInUse (s : State) (b : Nat) : Bool := s.cip.slots.any fun p => decide (p.1 / 1024 = b) && decide (slotMode p.2 ≠ 0)

/-- KEY_BLOCK_WRITE: the owner of a block of slots changes while every slot of it is empty (R612, R967). -/
def execKeyBlockWrite (who : Initiator) (block value : Nat) (s : State) : Out :=
  run s fun s => setupWrite CIP_KEY_BLOCK.pf block value who s fun s =>
    if 1024 ≤ block then s
    else if blockInUse s block then
      (if ownerWord s CIP_KEY_BLOCK.pf CIP_KEY_BLOCK.is_vf CIP_KEY_BLOCK.vf CIP_KEY_BLOCK.valid block = value % 2 ^ 17 then s
       else s.wr (lockedWriteField .cip) 1)
    else writeOwner s CIP_KEY_BLOCK.pf CIP_KEY_BLOCK.is_vf CIP_KEY_BLOCK.vf CIP_KEY_BLOCK.valid block value

/-- CIP_KEYQ_READ: a read removes the head of the log (R611). -/
def execCipKeyqRead (who : Initiator) (s : State) : Out :=
  run s fun s => managed .cip who s fun s =>
    let v := s.rd CIP_KEYQ.slot + (s.rd CIP_KEYQ.event) <<< 20 + (s.rd CIP_KEYQ.entry_valid) <<< 22 + (s.rd CIP_KEYQ.lost) <<< 32
    answer (syncKeyq { s with cip := { s.cip with keyq := s.cip.keyq.tail } }) v

end Sys2Proof.Machine
end

