-- ==== Sys2Proof/Machine/Blocks.lean ====
section
/-! DEFINITION. Block commands: staging, the backend interface, freezes, error logs and self-tests (R543 to R567). -/
namespace Sys2Proof.Machine

/-- A block counter advanced: 0 dispatched, 1 replies, 2 reply_bad, 3 late_reply, 4 cancels, 5 staging_wait, 6 freezes. -/
def blkCount_ (s : State) (n : Nat) : State := s.count BLK_CNT.count 1 n

/-- The entry of a block command goes on: its status is neither decided nor on its way. -/
def openEntry (s : State) (q sseq : Nat) : Option Entry :=
  (entryOf s q sseq).filter fun e => e.outcome.isNone && e.decided.isNone

/-! ### Staging (R546, R547) -/

/-- Bytes of block staging. -/
def stageSize (s : State) : Nat := s.areas.blkStage * 0x100000

/-- The buffers in use, as offsets with lengths, rising. -/
def buffersInUse (s : State) : List (Nat × Nat) :=
  (s.blk.cmds.filterMap fun c => c.buf.map fun o => (o, blkBytes c)).mergeSort fun a b => decide (a.1 ≤ b.1)

/-- The first free place of some bytes among buffers in order. -/
def freePlace (size n : Nat) : Nat → List (Nat × Nat) → Option Nat
  | from_, [] => if from_ + n ≤ size then some from_ else none
  | from_, (o, k) :: rest => if from_ + n ≤ o then some from_ else freePlace size n (max from_ (o + k)) rest

/-- A command whose staging request waits is counted, once (R547). -/
def waitCounted (s : State) (r : Nat × Nat) : State :=
  match blkCmd s r.1 r.2 with
  | some c => if c.waiting then s else blkCount_ (updCmd s r.1 r.2 fun c => { c with waiting := true }) 5
  | none => s

/-- STAGING_GRANT: the request at the head of the order is granted when space is free, and its command begins executing;
when too little is free it waits and every later request waits behind it, each command counted once. -/
def execStagingGrant (s : State) : Out :=
  run s fun s =>
    match s.blk.requests with
    | [] => s
    | (q, sseq) :: rest =>
      match blkCmd s q sseq, openEntry s q sseq with
      | some c, some e =>
        if !mayBegin s e then s
        else match freePlace (stageSize s) (blkBytes c) 0 (buffersInUse s) with
          | some o =>
            let s := updCmd (begin_ s q sseq) q sseq fun c => { c with buf := some o }
            { s with blk := { s.blk with requests := rest } }
          | none => s.blk.requests.foldl waitCounted s
      | _, _ => { s with blk := { s.blk with requests := rest } }

/-- XTS work for every data unit of a command (R534, R600); a volume whose slot may not be used ends the command here (R601). -/
def pushXts (s : State) (c : BlkCmd) (enc : Bool) : State :=
  let w : XtsWork := { queue := c.queue, sseq := c.sseq, enc := enc, slot := volSlot c.vol, size := volBs c.vol,
                       lba := blkLba c.raw, count := blkCount c.raw }
  if xtsSlotBad s w.slot then finishWith s c.queue c.sseq stKeyInvalid
  else { s with cip := { s.cip with xts := s.cip.xts ++ [w] } }

/-- The lines of a staging buffer written or read, charged to the queue's account. -/
def stageLines (s : State) (c : BlkCmd) (write : Bool) : State :=
  let a := stageBase s + c.buf.getD 0
  (List.range (ceilDiv (blkBytes c) 64)).foldl (fun t i => g6Access t (a + 64 * i) write (queueAccount s c.queue)) s

/-- BLK_WRITE: the host data of a granted command is moved into its buffer, through the cipher engine under XTS; `ok` is
false when the read failed after the host interface's retry (R546, R548). -/
def execBlkWrite (q sseq : Nat) (ok : Bool) (data : Bytes) (s : State) : Out :=
  run s fun s =>
    match blkCmd s q sseq, openEntry s q sseq with
    | some c, some e =>
      if e.op ≠ 0x31 || c.moved || c.buf.isNone then s
      else withRanges s q sseq (e.at 8 16 1 = 1) [(e.at 0x18 0 64, blkBytes c, false)] fun _ =>
        if !ok then finishWith s q sseq stBusError
        else
          let bs := fitBytes (blkBytes c) data
          let s := chargeRead s q bs.length
          if volXts c.vol then
            pushXts (updCmd s q sseq fun c => { c with moved := true, plain := bs, units := [] }) c true
          else
            stageLines (memStore (updCmd s q sseq fun c => { c with moved := true }) (stageBase s + c.buf.getD 0) bs) c true
    | _, _ => s

/-- Every data unit of a command has been through the cipher engine. -/
def unitsDone (c : BlkCmd) : Bool := !volXts c.vol || decide (c.units.length = blkCount c.raw)

/-- STAGING_COMPLETE: a write's data has been moved into staging, so the command may be dispatched (R546). -/
def execStagingComplete (q sseq : Nat) (s : State) : Out :=
  run s fun s =>
    match blkCmd s q sseq with
    | none => s
    | some c => if c.moved && unitsDone c then updCmd s q sseq fun c => { c with staged := true, plain := [] } else s

/-- What a read moves to the host: its data units as decrypted under XTS, else its buffer (R546, R600). -/
def readBackData (s : State) (c : BlkCmd) : Bytes :=
  if volXts c.vol then (List.range (blkCount c.raw)).flatMap fun i => Map.getD c.units i []
  else memLoad s (stageBase s + c.buf.getD 0) (blkBytes c)

/-- BLK_READ: after an OK reply the data is moved to the host, as decrypted under XTS, and the command finishes; `ok` is
false when a host write failed (R539, R546, R548). -/
def execBlkRead (q sseq : Nat) (ok : Bool) (s : State) : Out :=
  run s fun s =>
    match blkCmd s q sseq, openEntry s q sseq with
    | some c, some e =>
      if e.op ≠ 0x30 || c.sent || !unitsDone c || (c.reply.map (·.result)) ≠ some 0 then s
      else if !volXts c.vol && memBad s (stageBase s + c.buf.getD 0) (blkBytes c) then stageRefused s c
      else withRanges s q sseq (e.at 8 16 1 = 1) [(e.at 0x18 0 64, blkBytes c, true)] fun ps =>
        let data := readBackData s c
        let s := entryWrite (stageLines s c false) q sseq (ps.headD []) data
        let s := updCmd s q sseq fun c => { c with buf := none }
        if ok then finish s q sseq { status := stOk, bytes := data.length } else finishWith s q sseq stBusError
    | _, _ => s

/-! ### Dispatch and replies (R542, R550 to R553) -/

/-- A request for the backend with its operation, blocks and staging address (R550). -/
def requestBaton (s : State) (c : BlkCmd) (op lba n staging : Nat) : Nat :=
  let write := flag (blkOp c.raw = 0x31)
  op + (write * bitsAt c.raw 81 1) <<< 4 + (flag (bitAt c.vol 1)) <<< 5 + c.queue <<< 16 + c.slot <<< 32 + c.gen <<< 40
    + blkVolume c.raw <<< 64 + volCookie c.vol <<< 96 + lba <<< 128 + n <<< 192
    + (if op = 4 ∨ op = 5 then 0 else bitsAt c.raw 256 32) <<< 224 + staging <<< 256 + queueAccount s c.queue <<< 320

/-- The request of a read, write, trim or flush. -/
def commandBaton (s : State) (c : BlkCmd) : Nat :=
  let staging := stageBase s + c.buf.getD 0
  match blkOp c.raw with
  | 0x30 => requestBaton s c 1 (blkLba c.raw) (blkCount c.raw) staging
  | 0x31 => requestBaton s c 2 (blkLba c.raw) (blkCount c.raw) staging
  | 0x33 => requestBaton s c 3 (blkLba c.raw) (blkCount c.raw) 0
  | _ => requestBaton s c 4 0 0 0

/-- A command's slot takes its next generation (R551). -/
def nextGen (s : State) (c : BlkCmd) : BlkCmd := { c with gen := addMod 8 (Map.get s.blk.gens (c.queue * 256 + c.slot)) 1 }

/-- A request is sent where the channel grants a credit: the command is dispatched (R550, R551). -/
def sendRequest (s : State) (c : BlkCmd) (baton : Nat) : State :=
  match deviceSend s srcBlock (volChannel c.vol) baton (queueAccount s c.queue) with
  | none => s
  | some s =>
    let s := updCmd (begin_ s c.queue c.sseq) c.queue c.sseq fun x => { x with sent := true, gen := c.gen }
    blkCount_ { s with blk := { s.blk with gens := Map.set s.blk.gens (c.queue * 256 + c.slot) c.gen } } 0

/-- The CANCEL of an orphan is sent where its channel grants a credit (R555). -/
def sendCancel (s : State) (q sseq : Nat) : State :=
  match s.blk.cmds.find? fun c => decide (c.queue = q) && decide (c.sseq = sseq) && c.orphan with
  | none => s
  | some c =>
    match s.blk.cancels.find? fun x => decide (bitsAt x 16 16 = q) && decide (bitsAt x 32 8 = c.slot) with
    | none => s
    | some x =>
      match deviceSend s srcBlock (x / 2 ^ 512) (x % 2 ^ 512) (queueAccount s q) with
      | none => s
      | some s => blkCount_ { s with blk := { s.blk with cancels := s.blk.cancels.erase x } } 4

/-- BACKEND_DISPATCH: a command free of earlier conflicts takes a credit of be_ch and its request is sent; for an orphan
it is its CANCEL. -/
def execBackendDispatch (q sseq : Nat) (s : State) : Out :=
  run s fun s =>
    match blkCmd s q sseq with
    | some c => if cmdReady s c then sendRequest s (nextGen s c) (commandBaton s (nextGen s c)) else s
    | none => sendCancel s q sseq

/-- The status that a result gives (R552). -/
def resultStatus (verify : Bool) (r : Nat) : Nat :=
  match r with
  | 0 => stOk
  | 2 => stBlockRange
  | 3 => stUnsupported
  | 4 => if verify then stSelfTestFail else stMediaError
  | _ => stMediaError

/-- The reply of a VERIFY: the self-test goes on, or ends (R564, R566). -/
def testReply (s : State) (c : BlkCmd) (r : BlkReply) : State :=
  let v := blkVolume c.raw
  let s := endUnit s c.queue c.sseq
  let fin := fun (t : State) (st x : Nat) => finish t c.queue c.sseq { status := st, extra := x }
  if r.result ≠ 0 then fin s (resultStatus true r.result) (c.phase + 1)
  else if c.phase = 1 then
    if bitsAt c.raw 80 2 = 1 then fin s stOk 0 else updCmd s c.queue c.sseq fun x => { x with phase := 2 }
  else
    let next := volTestNext (volRecord s v) + max 1 (s.rd BLK_CFG.seg_blocks)
    let s := storeVol s v (putBits (volRecord s v) 208 48 (min next (volCapacity c.vol))) (queueAccount s c.queue)
    if volCapacity c.vol ≤ next then fin s stOk 0 else s

/-- A reply of a command's backend. -/
def takeReply (s : State) (c : BlkCmd) (r : BlkReply) : State :=
  let ok := r.result = 0
  let s := updCmd s c.queue c.sseq fun x => { x with sent := false, reply := some r }
  match blkOp c.raw with
  | 0x34 => testReply s c r
  | 0x30 =>
    let s := updCmd s c.queue c.sseq fun x => { x with done := true, units := [] }
    if ok then (if volXts c.vol then pushXts s c false else s)
    else finish (updCmd s c.queue c.sseq fun x => { x with buf := none }) c.queue c.sseq { status := resultStatus false r.result }
  | op =>
    let s := updCmd s c.queue c.sseq fun x => { x with done := true, buf := none }
    finish s c.queue c.sseq { status := resultStatus false r.result, bytes := if ok && op = 0x31 then blkBytes c else 0 }

/-- BACKEND_REPLY: the oldest reply on reply_ch completes its command, or is counted as bad or late (R551 to R553, R555). -/
def execBackendReply (s : State) : Out :=
  run s fun s =>
    match s.rly.replies with
    | [] => s
    | b :: rest =>
      let x := b.image
      let s := { s with rly := { s.rly with replies := rest } }
      match s.blk.cmds.find? fun c => c.sent && decide (c.queue = bitsAt x 16 16) && decide (c.slot = bitsAt x 32 8)
          && decide (c.gen = bitsAt x 40 8) with
      | none => blkCount_ s 2
      | some c =>
        let s := blkCount_ s 1
        if c.orphan then
          syncOrphans (blkCount_ { s with blk := { s.blk with cmds := s.blk.cmds.filter fun y => decide (y ≠ c) } } 3)
        else takeReply s c ⟨bitsAt x 8 8, bitsAt x 64 32, bitsAt x 128 64⟩

/-! ### Flush and trim (R544, R545) -/

/-- A command without data, at the point at which it begins: it waits for its dispatch. -/
def beginNoData (q sseq op : Nat) (s : State) : State :=
  match blkCmd s q sseq, openEntry s q sseq with
  | some c, some e =>
    if e.op = op && cmdReady s c then sendRequest s (nextGen s c) (commandBaton s (nextGen s c)) else s
  | _, _ => s

/-- BLK_FLUSH: a FLUSH request is sent once every earlier write and trim of the queue on the volume is done (R541, R545). -/
def execBlkFlush (q sseq : Nat) (s : State) : Out := run s (beginNoData q sseq 0x32)
/-- BLK_TRIM: a TRIM request is sent once no earlier conflicting command is open (R538, R542). -/
def execBlkTrim (q sseq : Nat) (s : State) : Out := run s (beginNoData q sseq 0x33)

/-! ### Self-tests (R556, R564 to R566) -/

/-- BLK_SELF_TEST: the pattern goes from staging through the cipher engine and back; `good` tells whether it came back
unchanged. -/
def execBlkSelfTest (q sseq : Nat) (good : Bool) (s : State) : Out :=
  run s fun s =>
    match beginnable s q sseq 0x34 with
    | none => s
    | some _ =>
      let s := begin_ s q sseq
      if good then updCmd s q sseq fun c => { c with phase := 1 }
      else finish s q sseq { status := stSelfTestFail, extra := 1 }

/-- A command of any queue naming a volume waits for dispatch (R565). -/
def volumeBusy (s : State) (v : Nat) : Bool :=
  s.blk.cmds.any fun c => decide (blkVolume c.raw = v) && decide (blkOp c.raw ≠ 0x34) && !c.sent && !c.done && !c.orphan

/-- A VERIFY is in flight on a volume. -/
def verifyInFlight (s : State) (v : Nat) : Bool :=
  s.blk.cmds.any fun c => decide (blkVolume c.raw = v) && decide (blkOp c.raw = 0x34) && c.sent

/-- VERIFY_DISPATCH: a VERIFY of a self-test is dispatched while no command waits on its volume (R564, R565). -/
def execVerifyDispatch (q sseq : Nat) (s : State) : Out :=
  run s fun s =>
    match blkCmd s q sseq, openEntry s q sseq with
    | some c, some _ =>
      let v := blkVolume c.raw
      if blkOp c.raw ≠ 0x34 || c.phase = 0 || c.sent || volumeBusy s v || verifyInFlight s v then s
      else
        let c := nextGen s c
        if c.phase = 1 then sendRequest s c (requestBaton s c 5 0 0 0)
        else
          let at_ := volTestNext (volRecord s v)
          sendRequest s c (requestBaton s c 5 at_ (min (max 1 (s.rd BLK_CFG.seg_blocks)) (volCapacity c.vol - at_)) 0)
    | _, _ => s

/-! ### Freeze, log and resume (R557 to R563) -/

/-- An entry that a freeze ends: not decided, not dispatched, and no ABORT whose request has been sent (R559). -/
def freezeEnds (s : State) (q : Nat) (e : Entry) : Bool :=
  let dispatched := match blkCmd s q e.sseq with
    | some c => c.sent || c.reply.isSome || c.again
    | none => false
  e.decided.isNone && !dispatched && !(e.op = 2 && e.begun)

/-- The queue freezes: BLK_FROZENQ records it, and the entries not dispatched retire QUEUE_FROZEN (R558, R559). -/
def freezeQueue (s : State) (q st : Nat) : State :=
  let s := setQueueState (leaveActive s q) q qFrozen
  let s := ((s.wr BLK_FROZENQ.queue q).wr BLK_FROZENQ.status st).countSat BLK_FROZENQ.count
  let s := raise (blkCount_ s 6) 0x120
  (queueInt s q).entries.foldl (fun t e =>
    if freezeEnds t q e then decideEntry (blkLeave t q e.sseq) q e { status := stQueueFrozen } else t) s

/-- A freezing status reaches the retirement unit of a block queue (R558, R560). -/
def blkOutcome (s : State) (q : Nat) (e : Entry) (st : Nat) : State :=
  let freezes := s.rd WQ_CTX.type q = 4 && blkFreezing st && (match blkCmd s q e.sseq with
    | some c => volFreezes c.vol
    | none => false)
  if !freezes then s
  else if queueState s q = qActive then freezeQueue s q st
  else if queueState s q = qMigrating ∧ (queueInt s q).preFreeze = qActive then updQueue s q fun x => { x with preFreeze := qFrozen }
  else s

/-- The lines of an error log read, charged to an account (R29, R531). -/
def logLines (s : State) (q acct : Nat) : State :=
  (List.range 8).foldl (fun u i => g6Access u (logBase u q + 64 * i) false acct) s

/-- BLK_LOG_READ: the target's error log is written to the host, and emptied with clear = 1 (R562). -/
def execBlkLogRead (q sseq : Nat) (s : State) : Out :=
  run s fun s =>
    match beginnable s q sseq 0x35 with
    | none => s
    | some e =>
      let t := e.at 8 0 16
      withRanges s q sseq (e.at 8 16 1 = 1) [(e.at 0x10 0 64, 512, true)] fun ps =>
        let l := blkLog s t
        let s := logLines s t (queueAccount s q)
        let data := fitBytes 512 (l.entries.flatMap fun x => leBytes 32 x)
        let s := entryWrite (begin_ s q sseq) q sseq (ps.headD []) data
        let s := if e.at 8 17 1 = 1 then { s with blk := { s.blk with logs := Map.set s.blk.logs t { l with entries := [], lost := 0 } } }
          else s
        finish s q sseq { status := stOk, extra := l.entries.length + (l.lost % 2 ^ 24) <<< 8 }

/-- BLK_RESUME: the target returns from FROZEN to ACTIVE (R236, R563). -/
def execBlkResume (q sseq : Nat) (s : State) : Out :=
  run s fun s =>
    match beginnable s q sseq 0x36 with
    | none => s
    | some e =>
      let t := e.at 8 0 16
      let s := begin_ s q sseq
      finish (if queueState s t = qFrozen then setQueueState s t qActive else s) q sseq { status := stOk }

/-! ### Volume records and registers (R531, R533, R567) -/

/-- A BLK_VCMD action ends with a result. -/
def endVcmd (s : State) (action result : Nat) : State := ((s.wr BLK_VCMD.action action).wr BLK_VCMD.busy 0).wr BLK_VCMD.result result

/-- A reserved bit of a record image is 1. -/
def volReservedBad (x : Nat) : Bool :=
  bitsAt x 5 3 ≠ 0 || bitsAt x 24 8 ≠ 0 || bitsAt x 52 12 ≠ 0 || bitsAt x 112 16 ≠ 0 || bitsAt x 140 20 ≠ 0
    || bitsAt x 194 14 ≠ 0 || bitsAt x 256 256 ≠ 0

/-- VOLUME_WRITE: BLK_VCMD WRITE stores a record; test and test_next of the image are ignored. -/
def execVolumeWrite (who : Initiator) (s : State) : Out :=
  run s fun s => setupWrite BLK_VCMD.go 0 1 who s fun s =>
    let v := s.rd BLK_VCMD.volume
    let x := s.rd BLK_VCMD_REC.image
    if s.areas.blkStage = 0 then endVcmd s 0 3
    else if volValid x && (volCapacity x = 0 || volReservedBad x) then endVcmd s 0 1
    else if volTest (volRecord s v) ≠ 0 then endVcmd s 0 2
    else
      let y := putBits (putBits x 192 2 0) 208 48 0
      endVcmd (delta (storeVol s v y 0) 0x09 v (leBytes 64 y)) 0 0

/-- VOLUME_READ: BLK_VCMD READ returns a record. -/
def execVolumeRead (who : Initiator) (s : State) : Out :=
  run s fun s => setupWrite BLK_VCMD.go 0 1 who s fun s =>
    if s.areas.blkStage = 0 then endVcmd s 1 3
    else
      let v := s.rd BLK_VCMD.volume
      endVcmd ((volLine s v false 0).wr BLK_VCMD_REC.image (volRecord s v)) 1 0

/-- BLK_FROZENQ_READ: a read returns and clears the count. -/
def execBlkFrozenqRead (who : Initiator) (s : State) : Out :=
  run s fun s => managed .blk who s fun s =>
    answer (s.wr BLK_FROZENQ.count 0)
      (s.rd BLK_FROZENQ.queue + (s.rd BLK_FROZENQ.status) <<< 16 + (s.rd BLK_FROZENQ.count) <<< 24)

end Sys2Proof.Machine
end

