-- ==== Sys2Proof/Machine/Boot.lean ====
section
/-! DEFINITION. Boot: the Fythal container and its authentication, stage one, recovery, fuses, locks, measurements and the
release of processors (chapter Boot, images and keys). -/
namespace Sys2Proof.Machine

/-! ### Phases (R836, R837) -/

/-- BOOT_STATUS.phase. -/
def bootPhase (s : State) : Nat := s.rd BOOT_STATUS.phase
/-- ROM. -/
def phRom : Nat := 0
/-- START. -/
def phStart : Nat := 1
/-- SERVICE. -/
def phService : Nat := 2
/-- TEST. -/
def phTest : Nat := 3
/-- RECOVERY. -/
def phRecovery : Nat := 4

/-- The phase changes, which raises BOOT_PHASE (R837, R872). -/
def setPhase (s : State) (p : Nat) : State := raise (s.wr BOOT_STATUS.phase p) 0x1E1

/-- A steward in supervisor mode. -/
def supervisorSends (s : State) : Initiator → Bool
  | .steward k => !(stewardInt s k).user
  | _ => false

/-- A write that only a steward in supervisor mode can make; anyone else's is ignored (R837, R856, R882). -/
def supervisorWrite (who : Initiator) (s : State) (f : State → State) : State := if supervisorSends s who then f s else s

/-- PHASE_REQUEST: BOOT_CTL.phase_req written (R837). -/
def execPhaseRequest (who : Initiator) (req : Nat) (s : State) : Out :=
  run s fun s => supervisorWrite who s fun s =>
    let p := bootPhase s
    if (p = phStart && req % 8 = phService) || (p = phService && req % 8 = phTest) || (p = phTest && req % 8 = phService) then
      setPhase s (req % 8)
    else s

/-- Configuration Request Retry Status ends once hw_ready is 1 and the ROM has finished stage-one authentication or
entered RECOVERY (R880). -/
def syncCrs (s : State) : State :=
  if s.on DEV_STATUS.hw_ready && decide (bootPhase s ≠ phRom) then s.wr DEV_STATUS.crs 0 else s

/-! ### The Fythal container (R842 to R849, R853) -/

/-- `n` bytes of a slot at an offset; what the image does not list is 0. -/
def SlotImage.at_ (x : SlotImage) (o n : Nat) : Bytes := fitBytes n (slice x.bytes o n)
/-- A little-endian field of `n` bytes at an offset of a slot. -/
def SlotImage.field (x : SlotImage) (o n : Nat) : Nat := ofLe (x.at_ o n)
/-- The bytes are all 0. -/
def SlotImage.zero (x : SlotImage) (o n : Nat) : Bool := decide (x.field o n = 0)

/-- Offset of the last sector of a slot, which holds only the commit word (R842). -/
def commitSector : Nat := 0x17FF000

/-- The commit word is valid (R843). -/
def SlotImage.committed (x : SlotImage) : Bool := commitVerifies x.commit (x.field 0x10 4) (x.at_ 0 0x100)

/-- The header's svn, key_index and seq (R846). -/
def SlotImage.svn (x : SlotImage) : Nat := x.field 0x0C 1
/-- The root key that signed the image. -/
def SlotImage.key (x : SlotImage) : Nat := x.field 0x0D 1 % 4
/-- The update sequence. -/
def SlotImage.seq (x : SlotImage) : Nat := x.field 0x10 4
/-- Entries of the section table. -/
def SlotImage.count (x : SlotImage) : Nat := x.field 6 1

/-- A section of a container (R847). -/
structure Section where
  type   : Nat
  length : Nat
  offset : Nat
  load   : Nat
  entry  : Nat
  digest : Bytes
deriving DecidableEq, Repr

/-- Entry `i` of the section table. -/
def SlotImage.section_ (x : SlotImage) (i : Nat) : Section :=
  let o := 0x100 + i * 128
  ⟨x.field o 1, x.field (o + 4) 4, x.field (o + 8) 4, x.field (o + 0x10) 8, x.field (o + 0x18) 8, x.at_ (o + 0x20) 48⟩

/-- The sections of a container. -/
def SlotImage.sections (x : SlotImage) : List Section := (List.range x.count).map x.section_
/-- The first section of a type. -/
def SlotImage.find (x : SlotImage) (t : Nat) : Option Section := x.sections.find? fun y => decide (y.type = t)
/-- Sections of a type. -/
def SlotImage.ofType (x : SlotImage) (t : Nat) : Nat := (x.sections.filter fun y => decide (y.type = t)).length
/-- The bytes of a section. -/
def SlotImage.body (x : SlotImage) (y : Section) : Bytes := x.at_ y.offset y.length

/-- SHA-384 as 48 bytes. -/
def sha384 (bs : Bytes) : Bytes := fitBytes 48 (sha2 1 bs)

/-- The manifest (R846, R847). -/
def SlotImage.manifest (x : SlotImage) : Bytes := x.at_ 0 0x900

/-- The key hash of a container (R848, R849). -/
def SlotImage.keyHash (x : SlotImage) : Nat := ofLe (sha384 (x.at_ 0x900 97 ++ x.at_ 0x980 2592))

/-- The reserved fields of a table entry are 0, and its type and its place are ones that R847 allows. -/
def SlotImage.entryOk (x : SlotImage) (i : Nat) : Bool :=
  let o := 0x100 + i * 128
  let y := x.section_ i
  x.zero (o + 2) 2 && x.zero (o + 0xC) 4 && x.zero (o + 0x50) 48 && decide (1 ≤ y.type) && decide (y.type ≤ 5)
    && decide (y.offset % 4096 = 0) && decide (0x3000 ≤ y.offset) && decide (y.offset + y.length ≤ commitSector)

/-- Two sections share no byte. -/
def Section.apart (a b : Section) : Bool := decide (a.offset + a.length ≤ b.offset) || decide (b.offset + b.length ≤ a.offset)

/-- The STAGE1 section lies within steward 0's memory, and its entry within the section (R853). -/
def Section.stage1Ok (y : Section) : Bool :=
  let base := sramBase + 0x09A00000
  decide (base ≤ y.load) && decide (y.load + y.length ≤ base + 0x100000) && decide (y.load ≤ y.entry)
    && decide (y.entry < y.load + y.length)

/-- The second check of R850 passes. -/
def SlotImage.headerOk (x : SlotImage) : Bool :=
  decide (x.field 0 4 = 0x48545946) && decide (x.field 4 2 = 1) && decide (x.field 8 2 = 0x1600)
    && (x.field 0xA 2).testBit 2 && decide (1 ≤ x.count) && decide (x.count ≤ 16)
    && x.zero 7 1 && decide (x.field 0xC 4 >>> 10 = 0) && x.zero 0x14 4 && x.zero 0x20 224
    && ((List.range 16).all fun i => if i < x.count then x.entryOk i else x.zero (0x100 + i * 128) 128)
    && decide (List.Pairwise (fun a b => Section.apart a b = true) x.sections)
    && decide (x.ofType 1 = 1) && decide (x.ofType 4 ≤ 1)
    && (match x.find 1 with
      | none => false
      | some y => y.stage1Ok)

/-! ### Root keys (R855) -/

/-- The value of the thermometer counter: the index of the highest blown bit plus 1. -/
def svnCount (bits : Nat) : Nat := (List.range 128).foldl (fun n i => if bits.testBit i then i + 1 else n) 0
/-- The fuse hash of a root key; 0: unprogrammed. -/
def rootHash (s : State) (k : Nat) : Nat := Map.get s.boot.hashes k
/-- A root key is programmed and unrevoked. -/
def keyUsable (s : State) (k : Nat) : Bool := decide (rootHash s k ≠ 0) && !s.boot.revoked.testBit k

/-- BOOT_FUSE_STAT shows the fuses (R855). -/
def syncFuses (s : State) : State :=
  let prog := (List.range 4).foldl (fun x k => x + (flag (decide (rootHash s k ≠ 0))) <<< k) 0
  (((s.wr BOOT_FUSE_STAT.svn_count (svnCount s.boot.svn)).wr BOOT_FUSE_STAT.programmed prog).wr BOOT_FUSE_STAT.revoked
    s.boot.revoked).wr BOOT_FUSE_STAT.flags s.boot.flags

/-! ### The configuration record (R858, R859) -/

/-- Bytes of the 17 sectors of a ledger checkpoint (R126). -/
def checkpointBytes : Nat := 17 * 4096

/-- A little-endian field of `n` bytes of a record. -/
def recField (r : Bytes) (o n : Nat) : Nat := leAt (fitBytes 256 r) o n

/-- The PF images of a record. -/
def recPfs (r : Bytes) : List Nat := (List.range 8).map fun p => recField r (0x60 + p * 8) 8

/-- The area sizes of a record. -/
def recAreas (r : Bytes) : Areas :=
  ⟨recField r 8 2, recField r 0xA 2, recField r 0xC 2, recField r 0xE 2, recField r 0x10 2, recField r 0x12 2,
    recField r 0x1C 2⟩

/-- The record is valid (R30, R858). -/
def recordOk (s : State) (r : Bytes) : Bool :=
  let a := recAreas r
  let off := recField r 0x14 4
  let len := recField r 0x18 4
  decide (a.flow ≤ 2048) && decide (a.conn ≤ 256) && decide (a.rgn ≤ 256) && decide (a.key ≤ 128)
    && decide (a.stage ≤ 16384) && decide (a.ledger ≤ 64) && decide (50 ≤ a.ledger)
    && (decide (a.blkStage = 0) || decide (36 + a.blkStage ≤ a.stage))
    && decide (a.flow + a.conn + a.rgn + a.key + a.stage + a.ledger ≤ 23808)
    && decide (0x3000000 ≤ off) && decide (off + len ≤ 0x4000000 + Config.flashExtra) && decide (2 * checkpointBytes ≤ len)
    && pfCfgOk (strapLinks s) (recPfs r)

/-- The record fields of HIF_PF_CFG[p] take an image. -/
def putPfCfg (s : State) (p v : Nat) : State :=
  [HIF_PF_CFG.enable, HIF_PF_CFG.link, HIF_PF_CFG.total_vfs, HIF_PF_CFG.vf_first, HIF_PF_CFG.vf_db_log2,
    HIF_PF_CFG.bar4_log2, HIF_PF_CFG.pf_vec, HIF_PF_CFG.vf_vec].foldl (fun t d => t.wr d (bitsAt v d.lo d.width) p) s

/-- A GDDR6 layout and PF images are in force, and HIF is locked (R859). -/
def putLayout (s : State) (a : Areas) (pfs : List Nat) : State :=
  let s := (List.range 8).foldl (fun t p => putPfCfg t p (nth pfs p 0)) { s with areas := a }
  s.wr (lockField .hif) 1

/-- The recovery defaults: PF 0 on host link 0 with 16 vectors, no VFs and no BAR4, and no GDDR6 areas (R865). -/
def recoveryDefaults (s : State) : State :=
  putLayout { s with boot := { s.boot with record := [] } } {} [1 + 16 <<< 38]

/-- The configuration record of an image is applied, or the recovery defaults where it has none (R852, R859). -/
def applyRecord (s : State) (x : SlotImage) : State :=
  match x.find 4 with
  | none => recoveryDefaults s
  | some y =>
    let r := fitBytes 256 (x.body y)
    putLayout { s with boot := { s.boot with record := r } } (recAreas r) (recPfs r)

/-! ### Authentication (R850) -/

/-- A section matches its digest. -/
def SlotImage.matchesDigest (x : SlotImage) (t : Nat) : Bool :=
  match x.find t with
  | none => true
  | some y => decide (sha384 (x.body y) = y.digest)

/-- The code of the first check of R850 after the commit word that fails; 1 BOOTED where none does. -/
def checkImage (s : State) (x : SlotImage) : Nat :=
  if !x.headerOk then 3
  else if !keyUsable s x.key then 4
  else if x.keyHash ≠ rootHash s x.key then 5
  else if x.svn < svnCount s.boot.svn then 6
  else if !x.ecdsa then 7
  else if !x.mldsa then 8
  else if !(x.matchesDigest 1 && x.matchesDigest 4) then 9
  else match x.find 4 with
    | none => 1
    | some y => if recordOk s (x.body y) then 1 else 10

/-! ### Sources (R839 to R845) -/

/-- The strap as the fuses let it act (R839, R840). -/
def bootSrc (s : State) : Nat :=
  let b := s.rd DEV_STRAP.boot_src
  let b := if 6 ≤ b then 5 else b
  let b := if s.boot.flags.testBit 0 && (b = 3 || b = 4) then 0 else b
  if s.boot.flags.testBit 1 && b = 4 then 3 else b

/-- The flashes in the order in which they are tried. -/
def flashOrder (s : State) : List Nat :=
  match bootSrc s with
  | 0 => [0, 1]
  | 1 => [1, 0]
  | 2 => [0]
  | _ => []

/-- PCIe is a recovery source. -/
def pcieRecovers (s : State) : Bool := decide (bootSrc s ≠ 4)
/-- The UART is a recovery source. -/
def uartRecovers (s : State) : Bool := decide (bootSrc s ≠ 3) && !s.boot.flags.testBit 1

/-- What the ROM finds: the code and seq of each attempt, and the attempt that booted. -/
structure Scan where
  codes : List (Nat × Nat × Nat) := []     -- attempt, code, seq
  won   : Option (Nat × SlotImage) := none
deriving DecidableEq, Repr

/-- The slot of an attempt, where its flash answers. -/
def slotOf (slots : List (Option SlotImage)) (i : Nat) : Option SlotImage := nth slots i none

/-- One slot that is not tried: skipped, unreadable or without a valid commit word. -/
def slotOut (s : State) (slots : List (Option SlotImage)) (i : Nat) : Option Nat :=
  if (s.rd BOOT_CTL.skip).testBit i then some 12
  else match slotOf slots i with
    | none => some 11
    | some x => if x.committed then none else some 2

/-- The slots of a flash that are tried, in order: descending seq, slot A first among equals (R844). -/
def slotOrder (s : State) (slots : List (Option SlotImage)) (f : Nat) : List (Nat × SlotImage) :=
  let get := fun i => if (slotOut s slots i).isSome then none else (slotOf slots i).map fun x => (i, x)
  match get (2 * f), get (2 * f + 1) with
  | some a, some b => if a.2.seq < b.2.seq then [b, a] else [a, b]
  | some a, none => [a]
  | none, some b => [b]
  | none, none => []

/-- One slot is checked, unless an image has passed already. -/
def trySlot (s : State) (c : Scan) (p : Nat × SlotImage) : Scan :=
  if c.won.isSome then c
  else
    let r := checkImage s p.2
    { codes := c.codes ++ [(p.1, r, p.2.seq)], won := if r = 1 then some p else none }

/-- The slots of one flash are tried. -/
def scanFlash (s : State) (slots : List (Option SlotImage)) (c : Scan) (f : Nat) : Scan :=
  if c.won.isSome then c
  else
    let out := [2 * f, 2 * f + 1].filterMap fun i => (slotOut s slots i).map fun r => (i, r, 0)
    (slotOrder s slots f).foldl (trySlot s) { c with codes := c.codes ++ out }

/-- The ROM tries every flash of its order. -/
def scanBoot (s : State) (slots : List (Option SlotImage)) : Scan := (flashOrder s).foldl (scanFlash s slots) {}

/-- BOOT_ATTEMPT takes what the ROM recorded. -/
def recordScan (s : State) (c : Scan) : State :=
  c.codes.foldl (fun t p => (t.wr BOOT_ATTEMPT.code p.2.1 p.1).wr BOOT_ATTEMPT.seq p.2.2 p.1) s

/-! ### Stage one (R852) -/

/-- A measurement is extended by 48 bytes (R862). -/
def extendMeas (s : State) (m : Nat) (d : Bytes) : State :=
  s.wr BOOT_MEAS.meas (ofLe (sha384 (leBytes 48 (s.rd BOOT_MEAS.meas m) ++ d))) m

/-- BOOT_SEAL of the image to be booted (R860). -/
def sealOf (s : State) (x : SlotImage) : Nat :=
  ofLe (fitBytes 32 (hmac 1 (leBytes 32 s.boot.uds) (leBytes 1 x.key ++ leBytes 1 x.svn ++ leBytes 48 (rootHash s x.key))))

/-- Steward 0 is released at an address in supervisor mode (R852, R863). -/
def releaseSteward (s : State) (k pc : Nat) : State :=
  setPc (updSteward s k fun x => { x with running := true, locked := false, sleeping := false, user := false, ie := false })
    (512 + k) pc

/-- Steps 2 to 6 of R852 for an image from a source. -/
def launchImage (s : State) (x : SlotImage) (source slot : Nat) : State :=
  match x.find 1 with
  | none => s
  | some y =>
    let s := extendMeas (extendMeas s 0 (sha384 x.manifest)) 1 y.digest
    let s := memStore (s.wr BOOT_SEAL.seal (sealOf s x)) y.load (x.body y)
    let s := (((s.wr BOOT_STATUS.source source).wr BOOT_STATUS.slot slot).wr BOOT_STATUS.svn x.svn).wr BOOT_STATUS.key_index
      x.key
    let s := setPhase (s.wr BOOT_STATUS.seq x.seq) phStart
    let s := if s.boot.flags.testBit 2 then s.wr BOOT_LOCK.debug_lock 1 else s
    syncCrs (releaseSteward s 0 y.entry)

/-- The ROM runs and tries its sources (R839, R875). -/
def romRuns (s : State) : Bool := decide (bootPhase s = phRom) && s.start.steward && !s.on DEV_STATUS.hw_fault

/-- STAGE1_RELEASE: a slot of the flashes passes authentication, and stage one is released (R850, R852). -/
def execStage1Release (slots : List (Option SlotImage)) (s : State) : Out :=
  run s fun s =>
    if !romRuns s then s
    else
      let c := scanBoot s slots
      match c.won with
      | none => s
      | some (i, x) => launchImage (applyRecord (recordScan s c) x) x (i / 2) (i % 2)

/-- The phase becomes RECOVERY with its defaults (R865, R880). -/
def enterRecovery (s : State) : State := syncCrs (setPhase (recoveryDefaults s) phRecovery)

/-- RECOVERY_ENTRY: every source has failed, or the strap selects recovery (R865). -/
def execRecoveryEntry (slots : List (Option SlotImage)) (s : State) : Out :=
  run s fun s =>
    if !romRuns s then s
    else
      let c := scanBoot s slots
      if c.won.isSome then s else enterRecovery (recordScan s c)

/-! ### Recovery images (R866 to R869) -/

/-- The largest image: 24 MiB (R868). -/
def slotBytes : Nat := 0x1800000

/-- A recovery image has been checked (R868, R869). -/
def finishRecovery (s : State) (source code : Nat) (x : SlotImage) : State :=
  let s := ((s.wr BOOT_RCV_STAT.code code).wr BOOT_RCV_STAT.source source).countSat BOOT_RCV_STAT.attempts
  if code = 1 then launchImage s x source 0 else s

/-- RECOVERY_READ: BOOT_RCV_CTL written with go: the image is read into the packet buffer and checked (R866, R868); `ok`: the
read of the image through PF 0 succeeded. -/
def execRecoveryRead (who : Initiator) (len : Nat) (ok : Bool) (image : SlotImage) (s : State) : Out :=
  run s fun s => setupWrite BOOT_RCV_CTL.len 0 (len % 2 ^ 25 + 2 ^ 25) who s fun s =>
    if bootPhase s ≠ phRecovery || !pcieRecovers s then s
    else if slotBytes < len % 2 ^ 25 then s.wr (lockedWriteField .boot) 1
    else
      let s := s.wr BOOT_RCV_CTL.len len
      let x := { image with bytes := fitBytes (len % 2 ^ 25) image.bytes }
      if !fnLive s 0 || !ok then finishRecovery s 2 11 x
      else finishRecovery (memStore s sramBase x.bytes) 2 (checkImage s x) x

/-- The ROM answers a UART block with a byte. -/
def uartReply (s : State) (b : Nat) : State := { s with boot := { s.boot with uartOut := s.boot.uartOut ++ [b] } }

/-- A UART block reaches the ROM: its CRC is checked over the type, the length and the data (R867). -/
def uartBlock (type : Nat) (data : Bytes) (crc : Nat) (s : State) (f : State → State) : State :=
  if bootPhase s ≠ phRecovery || !uartRecovers s then s
  else if 4096 < data.length then uartReply s 0x18
  else if crc16 (leBytes 1 type ++ leBytes 2 data.length ++ data) ≠ crc then uartReply s 0x15
  else f s

/-- DATA: a block of the recovery image (R867, R868). -/
def execUartData (bytes : Bytes) (crc : Nat) (s : State) : Out :=
  run s fun s => uartBlock 1 bytes crc s fun s =>
    if slotBytes < s.boot.image.length + bytes.length then uartReply s 0x18
    else uartReply { s with boot := { s.boot with image := s.boot.image ++ bytes } } 0x06

/-- UART_END: the image received is checked, and the code of the result sent (R867 to R869). -/
def execUartEnd (crc : Nat) (ecdsa mldsa : Bool) (s : State) : Out :=
  run s fun s => uartBlock 2 [] crc s fun s =>
    let x : SlotImage := ⟨s.boot.image, 0, ecdsa, mldsa⟩
    let r := checkImage s x
    uartReply (finishRecovery (uartReply { s with boot := { s.boot with image := [] } } 0x06) 3 r x) r

/-- UART_ABORT: the image received is discarded (R867). -/
def execUartAbort (crc : Nat) (s : State) : Out :=
  run s fun s => uartBlock 3 [] crc s fun s => uartReply { s with boot := { s.boot with image := [] } } 0x06

/-! ### Fuse commands (R856, R857, R953) -/

/-- A fuse command ends with a result. -/
def fuseEnd (s : State) (r : Nat) : State := raise (syncFuses (s.wr BOOT_FCMD.result r)) 0x1E0

/-- A fuse command: the fields written, then LOCKED once fuse_lock is set; `f` answers the result and the state. -/
def fuseCommand (who : Initiator) (action key value : Nat) (s : State) (f : State → Nat × State) : State :=
  supervisorWrite who s fun s =>
    let s := ((s.wr BOOT_FCMD.action action).wr BOOT_FCMD.key key).wr BOOT_FCMD.value value
    if s.on BOOT_LOCK.fuse_lock then fuseEnd s 2
    else
      let x := f s
      fuseEnd x.2 x.1

/-- Bits are blown: with VPP_FUSE too low none reads back, and the command fails (R953). -/
def blow (vpp : Bool) (s t : State) : Nat × State := if vpp then (0, t) else (4, s)

/-- The bits of the counter from its value up to, and without, another value (R856, R857). -/
def svnUpTo (bits v : Nat) : Nat :=
  (List.range v).foldl (fun b i => if svnCount bits ≤ i ∧ i < 128 then putBit b i true else b) bits

/-- SVN_ADVANCE. -/
def execSvnAdvance (who : Initiator) (value : Nat) (vpp : Bool) (s : State) : Out :=
  run s fun s => fuseCommand who 0 (s.rd BOOT_FCMD.key) value s fun s =>
    let v := value % 256
    let c := svnCount s.boot.svn
    if s.rd BOOT_STATUS.svn < v || v < c then (1, s)
    else if v = c then (0, s)
    else blow (vpp && decide (v ≤ 128)) s { s with boot := { s.boot with svn := svnUpTo s.boot.svn v } }

/-- REVOKE. -/
def execRevoke (who : Initiator) (key : Nat) (vpp : Bool) (s : State) : Out :=
  run s fun s => fuseCommand who 1 key (s.rd BOOT_FCMD.value) s fun s =>
    let k := key % 4
    if (List.range 4).all fun j => j = k || !keyUsable s j then (3, s)
    else if s.boot.revoked.testBit k then (0, s)
    else blow vpp s { s with boot := { s.boot with revoked := putBit s.boot.revoked k true } }

/-- PROGRAM_HASH. -/
def execProgramHash (who : Initiator) (key : Nat) (vpp : Bool) (s : State) : Out :=
  run s fun s => fuseCommand who 2 key (s.rd BOOT_FCMD.value) s fun s =>
    let k := key % 4
    let h := s.rd BOOT_FDATA.hash
    if rootHash s k ≠ 0 then (1, s)
    else if h = 0 then (0, s)
    else blow vpp s { s with boot := { s.boot with hashes := Map.set s.boot.hashes k h } }

/-- SET_FLAG. -/
def execSetFlag (who : Initiator) (value : Nat) (vpp : Bool) (s : State) : Out :=
  run s fun s => fuseCommand who 3 (s.rd BOOT_FCMD.key) value s fun s =>
    let fl := s.boot.flags ||| (value % 8)
    if fl = s.boot.flags then (0, s) else blow vpp s { s with boot := { s.boot with flags := fl } }

/-! ### Locks and measurements (R861, R862) -/

/-- BOOT_LOCK_SET: bits of BOOT_LOCK written with 1. -/
def execBootLockSet (who : Initiator) (bits : Nat) (s : State) : Out :=
  run s fun s => setupWrite BOOT_LOCK.uds_lock 0 (bits % 0x10000) who s fun s =>
    [BOOT_LOCK.uds_lock, BOOT_LOCK.seal_lock, BOOT_LOCK.fuse_lock, BOOT_LOCK.debug_lock, BOOT_LOCK.meas_lock].foldl
      (fun t d => t.wr d (t.rd d ||| bitsAt bits d.lo d.width)) s

/-- MEASUREMENT_EXTEND: BOOT_MEAS_CMD written with go. -/
def execMeasurementExtend (who : Initiator) (index : Nat) (s : State) : Out :=
  run s fun s => setupWrite BOOT_MEAS_CMD.index 0 (index % 8 + 8) who s fun s =>
    let m := index % 8
    if (s.rd BOOT_LOCK.meas_lock).testBit m then s.wr (lockViolationField .boot) 1
    else extendMeas s m (leBytes 48 (s.rd BOOT_MEAS_IN.data))

/-! ### Release of processors (R863, R864) -/

/-- The phase is START, SERVICE or TEST. -/
def phaseRuns (s : State) : Bool := decide (1 ≤ bootPhase s) && decide (bootPhase s ≤ 3)

/-- RELAY_RELEASE: BOOT_CTL.relay_release written with 1. -/
def execRelayRelease (who : Initiator) (s : State) : Out :=
  run s fun s => setupWrite BOOT_CTL.phase_req 0 0x10 who s fun s =>
    if phaseRuns s then s.wr BOOT_CTL.relay_release 1 else s

/-- A BOOT_RELEASE bit for a steward is written with 1. -/
def releaseBit (s : State) (k : Nat) : State :=
  let v := s.rd BOOT_VEC.pc k
  if (s.rd BOOT_RELEASE.release).testBit k || !phaseRuns s then s
  else if v % 4 ≠ 0 || !memExists s v then s.wr (applyRejectField .boot) 1
  else releaseSteward (s.wr BOOT_RELEASE.release (putBit (s.rd BOOT_RELEASE.release) k true)) k v

/-- The sender is a steward. -/
def fromSteward : Initiator → Bool
  | .steward _ => true
  | _ => false

/-- BOOT_RELEASE: a steward writes the bits of stewards 1 to 3. -/
def execBootRelease (who : Initiator) (bits : Nat) (s : State) : Out :=
  run s fun s => if fromSteward who then ([1, 2, 3].filter bits.testBit).foldl releaseBit s else s

end Sys2Proof.Machine
end

