-- ==== Sys2Proof/Machine/Counters.lean ====
section
/-! DEFINITION. Software interrupt sources, MSI-X unmasking and the performance counters (chapter Interrupts and
performance counters). -/
namespace Sys2Proof.Machine

/-! ### IRQ_SW_SET and MSI-X -/

/-- The numbers of software sources (R757, R759). -/
def softwareSource (n : Nat) : Bool := decide (0x300 ≤ n) && decide (n ≤ 0x3FF)

/-- IRQ_SW_SET: a write of a number of a software source raises it; any other number is ignored (R759). -/
def execIrqSwSet (who : Initiator) (source : Nat) (s : State) : Out :=
  run s fun s => setupWrite IRQ_SW_SET.source 0 source who s fun s =>
    if softwareSource source then raise s source else s

/-- VECTOR_UNMASK: the function clears the Mask bit of a table entry; a pending vector launches one message (R774). -/
def execVectorUnmask (fn vector : Nat) (s : State) : Out :=
  run s fun s =>
    if vectorCount s fn ≤ vector then s
    else launchPending (updMsix s fn vector fun e => { e with mask := false }) fn vector

/-! ### PMC counters (R777 to R783) -/

/-- One counter sampled: its count, with TT64[15:0] of the sampling in its stamp (R782). -/
def sampleCounter (s : State) (n : Nat) : State := s.wr PMC_CNT.stamp (now s % 65536) n

/-- The image of PMC_CNT[n]. -/
def counterImage (s : State) (n : Nat) : Nat := s.rd PMC_CNT.count n + s.rd PMC_CNT.stamp n <<< 48

/-- The counters that a read covers, within the 32. -/
def coveredCounters (n k : Nat) : List Nat := ((List.range k).map fun i => n + i).filter fun m => decide (m < 32)

/-- PMC_READ: a read that covers `k` counters from counter `n` on samples them in ascending order (R782). -/
def execPmcRead (who : Initiator) (n k : Nat) (s : State) : Out :=
  run s fun s => managed .pmc who (answer s 0) fun s =>
    let s := (coveredCounters n k).foldl sampleCounter s
    answer s ((coveredCounters n k).reverse.foldl (fun v m => v <<< 64 + counterImage s m) 0)

/-- The wrap of counter `n` is carried into the odd counter above it (R780). -/
def carries (s : State) (n : Nat) : Bool := n % 2 = 0 && s.on PMC_SEL.chain (n + 1) && s.on PMC_SEL.enable (n + 1)

/-- What a wrap of counter `n` does (R780, R781). -/
def counterWrap (s : State) (n : Nat) : State :=
  if carries s n then pmcAdd s (n + 1) 1
  else
    let s := s.wr PMC_OVF.ovf (s.rd PMC_OVF.ovf ||| 2 ^ n)
    if s.on PMC_SEL.ovf_irq n then raise s 0x1A0 else s

/-- PMC_COUNTER_WRAP: the oldest wrap that has not been acted on (R781). -/
def execPmcCounterWrap (s : State) : Out :=
  run s fun s =>
    match s.pmcWraps with
    | [] => s
    | n :: rest => counterWrap { s with pmcWraps := rest } n

end Sys2Proof.Machine
end

