-- ==== Sys2Proof/Machine/TrnWire.lean ====
section
/-! DEFINITION. Trallasy packets: their layout on the wire, how the device builds and sends them, and what it reads of a
received one (R449 to R462, R519 to R521). -/
namespace Sys2Proof.Machine

/-! ### Layouts (R450 to R454) -/

/-- The 16-byte Trallasy header: type, the flags of bits [3:0], dst_conn, src_conn and psn. -/
def trnHeader (type flags dst src psn : Nat) : Bytes :=
  beBytes 1 type ++ beBytes 1 (0x10 + flags) ++ beBytes 2 0 ++ beBytes 4 (dst % 2 ^ 24) ++ beBytes 4 (src % 2 ^ 24)
    ++ beBytes 4 (psn % 2 ^ 24)

/-- The flags of byte 1: flagged, first, last, ack_req. -/
def trnFlags (flagged first last ackReq : Bool) : Nat := 8 * flag flagged + 4 * flag first + 2 * flag last + flag ackReq

/-- The 24-byte data extension. -/
def dataExt (roff rkey opLen imm : Nat) : Bytes := beBytes 8 roff ++ beBytes 4 rkey ++ beBytes 4 opLen ++ beBytes 4 imm ++ beBytes 4 0

/-- The 16-byte acknowledgement extension. -/
def ackExt (sack ecn code nakPsn : Nat) : Bytes :=
  beBytes 8 sack ++ beBytes 2 ecn ++ beBytes 1 code ++ beBytes 1 0 ++ beBytes 4 (nakPsn % 2 ^ 24)

/-- Bytes of the extension of a type; a type outside the table has none. -/
def extBytes (type : Nat) : Nat :=
  if 1 ≤ type ∧ type ≤ 4 then 24 else if type = 0x10 ∨ type = 0x11 then 16 else 0

/-! ### Building frames (R456 to R458) -/

/-- The lengths, the ECN field, the identification and the checksums of a frame whose IP header is at `ip` (R456). -/
def sealTrn (f : Bytes) (v6 : Bool) (ip ecn : Nat) : Bytes :=
  let l4 := ip + (if v6 then 40 else 20)
  let udp := f.length - l4
  let f := overlay (overlay f (l4 + 4) (beBytes 2 udp)) (l4 + 6) [0, 0]
  if v6 then
    let f := overlay f (ip + 4) (beBytes 2 udp)
    let f := overlay f (ip + 1) (beBytes 1 (putBits (beAt f (ip + 1) 1) 4 2 ecn))
    let ck := 65535 - foldSum (l4Sum f ⟨true, ip⟩ 17 l4)
    overlay f (l4 + 6) (beBytes 2 (if ck = 0 then 65535 else ck))
  else
    let f := overlay (overlay f (ip + 2) (beBytes 2 (f.length - ip))) (ip + 4) [0, 0]
    fixIpv4 (overlay f (ip + 1) (beBytes 1 (putBits (beAt f (ip + 1) 1) 0 2 ecn))) ip

/-- A frame built from the header template of a context. -/
def templateFrame (x ecn : Nat) (trn : Bytes) : Bytes :=
  let ip := ctxTmplLen x - (if ctxV6 x then 48 else 28)
  sealTrn (ctxTemplate x ++ trn) (ctxV6 x) ip ecn

/-- A reply built from a received frame: the addresses and ports swapped (R457). -/
def replyFrame (p : RxPkt) (trn : Bytes) : Bytes :=
  let l4 := p.off - 8
  let n := if p.v6 then 16 else 4
  let src := p.ip + (if p.v6 then 8 else 12)
  let f := p.frame
  let head := slice f 6 6 ++ slice f 0 6 ++ slice f 12 (src - 12) ++ slice f (src + n) n ++ slice f src n
    ++ slice f (src + 2 * n) (l4 - (src + 2 * n)) ++ slice f (l4 + 2) 2 ++ slice f l4 2 ++ slice f (l4 + 4) 4
  sealTrn (head ++ trn) p.v6 p.ip 0

/-- A frame takes packet-buffer lines and goes to a pipeline's Trallasy transmit input, at once or when delta record
`need` is acknowledged; none without free lines (R458, R918). -/
def sendTrn (s : State) (pipe acct : Nat) (need : Option Nat) (frame : Bytes) : Option State :=
  match allocate s (linesFor frame.length) none 0 acct with
  | none => none
  | some (h, s) =>
    let info : Meta := {
      arrTt := now s, arrFrac := nowFrac s, source := 4, holdover := inHoldover s, account := acct, pktLen := frame.length,
      handle := h }
    let pkt : Packet := { frame := frame, info := info }
    some (match need with
      | some k => publishAt s k (.packet pipe pkt)
      | none => putInput s pipe 4 { pkt := pkt })

/-! ### Received packets (R449, R459) -/

/-- The type of a received packet. -/
def rxType (p : RxPkt) : Nat := beAt p.frame p.off 1
/-- Its flags. -/
def rxFlags (p : RxPkt) : Nat := beAt p.frame (p.off + 1) 1
/-- dst_conn. -/
def rxDst (p : RxPkt) : Nat := beAt p.frame (p.off + 5) 3
/-- src_conn. -/
def rxSrc (p : RxPkt) : Nat := beAt p.frame (p.off + 9) 3
/-- psn. -/
def rxPsn (p : RxPkt) : Nat := beAt p.frame (p.off + 13) 3
/-- ack_req. -/
def rxAckReq (p : RxPkt) : Bool := bitAt (rxFlags p) 0
/-- last. -/
def rxLast (p : RxPkt) : Bool := bitAt (rxFlags p) 1
/-- flagged. -/
def rxFlagged (p : RxPkt) : Bool := bitAt (rxFlags p) 3
/-- roff. -/
def rxRoff (p : RxPkt) : Nat := beAt p.frame (p.off + 16) 8
/-- rkey. -/
def rxRkey (p : RxPkt) : Nat := beAt p.frame (p.off + 24) 4
/-- op_len. -/
def rxOpLen (p : RxPkt) : Nat := beAt p.frame (p.off + 28) 4
/-- imm. -/
def rxImm (p : RxPkt) : Nat := beAt p.frame (p.off + 32) 4
/-- The payload of a data-stream packet. -/
def rxPayload (p : RxPkt) : Bytes := slice p.frame (p.off + 40) (p.len - 40)
/-- sack. -/
def rxSack (p : RxPkt) : Nat := beAt p.frame (p.off + 16) 8
/-- ecn_count. -/
def rxEcnCount (p : RxPkt) : Nat := beAt p.frame (p.off + 24) 2
/-- nak_code. -/
def rxNakCode (p : RxPkt) : Nat := beAt p.frame (p.off + 26) 1
/-- nak_psn. -/
def rxNakPsn (p : RxPkt) : Nat := beAt p.frame (p.off + 29) 3
/-- The IP ECN field is CE. -/
def rxCe (p : RxPkt) : Bool :=
  if p.v6 then decide (bitsAt (beAt p.frame (p.ip + 1) 1) 4 2 = 3) else decide (beAt p.frame (p.ip + 1) 1 % 4 = 3)
/-- The IP source address in the form of peer_addr. -/
def rxPeer (p : RxPkt) : Bytes := if p.v6 then slice p.frame (p.ip + 8) 16 else fitBytes 16 (slice p.frame (p.ip + 12) 4)

/-- A packet of the data stream; a type outside the table counts as one (R462). -/
def isData (type : Nat) : Bool := type ≠ 0x10 && type ≠ 0x11 && type ≠ 0x12

/-- The offset of the header after the Ethernet header and up to two VLAN tags, with its EtherType. -/
def etherPayload (f : Bytes) : Nat × Nat :=
  let tag := fun t : Nat => t = 0x8100 || t = 0x88A8
  let t0 := beAt f 12 2
  if !tag t0 then (14, t0)
  else
    let t1 := beAt f 16 2
    if !tag t1 then (18, t1) else (22, beAt f 20 2)

/-- A frame of the shape of R449 and version 1, with its parts located. -/
def parseTrn (pipe : Nat) (f : Bytes) : Option RxPkt :=
  let (ip, ty) := etherPayload f
  let v6 := decide (ty = 0x86DD)
  let shape := if v6 then decide (beAt f ip 1 / 16 = 6) && decide (beAt f (ip + 6) 1 = 17)
    else decide (ty = 0x0800) && decide (beAt f ip 1 = 0x45) && decide (beAt f (ip + 9) 1 = 17)
      && decide (beAt f (ip + 6) 2 % 16384 = 0)
  let l4 := ip + (if v6 then 40 else 20)
  let stop := if v6 then l4 + beAt f (ip + 4) 2 else ip + beAt f (ip + 2) 2
  let udp := beAt f (l4 + 4) 2
  let off := l4 + 8
  let p : RxPkt := { conn := beAt f (off + 5) 3, pipe := pipe, frame := f, ip := ip, v6 := v6, off := off, len := udp - 8 }
  if shape && decide (stop ≤ f.length) && decide (l4 + udp = stop) && decide (24 + extBytes (rxType p) ≤ udp)
      && decide (rxFlags p / 16 = 1) then some p
  else none

/-! ### The pacer (R519 to R521) -/

/-- The wire length of a frame: its length and 24 bytes. -/
def wireLen (frameLen : Nat) : Nat := frameLen + 24
/-- The depth of a context's pacer: twice the wire length of a full-size data packet. -/
def pacerDepth (x : Nat) : Nat := 2 * wireLen (ctxTmplLen x + 40 + ctxMtu x)

/-- Tokens brought up to date. -/
def refillPacer (x t : Nat) : Nat :=
  let k := min (ctxTokens x + ctxRate x * (t - ctxPaceTt x) / 8000) (pacerDepth x)
  ctxPut (ctxPut x 0x2C 0 32 k) 0x38 0 64 t

/-- The rate is cut by the marks of an ACK or NAK. -/
def onMarks (s : State) (x m : Nat) : Nat :=
  if m = 0 then x
  else
    let cut := min (s.rd TRN_PACER.md * m) (s.rd TRN_PACER.md_cap)
    let rate := max (ctxRate x - ctxRate x * cut / 1024) (s.rd TRN_PACER.min_mbps)
    ctxPut (ctxPut x 0x28 0 32 rate) 0x1C 12 1 1

/-- One leg boundary, under the parameters of its time. -/
def pacerLeg (r : LegRun) (x : Nat) : Nat :=
  let y := if ctxMarked x then ctxPut x 0x1C 4 8 0
    else
      let clean := min (ctxClean x + 1) 255
      let step := r.ai * (if 5 ≤ clean then max 1 r.fi else 1)
      ctxPut (ctxPut x 0x1C 4 8 clean) 0x28 0 32 (min (ctxRate x + step) (ctxMaxMbps x))
  ctxPut y 0x1C 12 1 0

/-- `k` further clean legs, every one of them at or beyond the fifth. -/
def cleanLegs (r : LegRun) (x k : Nat) : Nat :=
  let step := r.ai * max 1 r.fi
  ctxPut (ctxPut x 0x1C 4 8 (min (ctxClean x + k) 255)) 0x28 0 32 (min (ctxRate x + k * step) (ctxMaxMbps x))

/-- Boundaries of a run after the time of the last one applied. -/
def legsOwed (r : LegRun) (t : Nat) : Nat :=
  if t ≤ r.start then r.count else if r.stop ≤ t then 0 else r.stop / r.len - t / r.len

/-- `n` boundaries of a run. -/
def applyRun (r : LegRun) (x n : Nat) : Nat :=
  let y := (List.range (min n 6)).foldl (fun y _ => pacerLeg r y) x
  if 6 < n then cleanLegs r y (n - 6) else y

/-- Every leg boundary passed is applied, in order, as it would have been when it fell (R520). -/
def applyLegs (s : State) (x : Nat) : Nat :=
  if s.tt.lastLeg ≤ ctxLegTt x then x
  else ctxPut (s.trn.legRuns.foldl (fun y r => applyRun r y (legsOwed r (ctxLegTt x))) x) 0xD8 0 64 s.tt.lastLeg

/-- The retransmission timeout in nanoseconds for a number of retries (R496). -/
def rtoNs (s : State) (retries : Nat) : Nat := max 1 (s.rd TRN_CFG.rto_us) * 1000 * 2 ^ retries

/-- The retransmission timer armed from now. -/
def armRto (s : State) (x : Nat) : Nat := ctxPut x 0x30 0 64 (now s + rtoNs s (ctxRetries x))

end Sys2Proof.Machine
end

