-- ==== Sys2Proof/Machine/TrnSend.lean ====
section
/-! DEFINITION. Trallasy transmission: the operations of entries, the pacer, regions registered and revoked, and the commands
of connections (R463 to R486, R493 to R498, R504 to R511, R519 to R529). -/
namespace Sys2Proof.Machine

/-! ### Beginning an operation (R474 to R478, R515, R525) -/

/-- An entry of an operation that was accepted before number `order`, names the connection and has not begun (R476, R479). -/
def earlierOp (s : State) (n order : Nat) : Bool :=
  (liveQueues s).any fun q => decide (s.rd WQ_CTX.type q = 3) && (queueInt s q).entries.any fun x =>
    decide (0x20 ≤ x.op) && decide (x.op ≤ 0x22) && decide (x.at 8 0 24 = n) && decide (x.order < order)
      && !x.begun && x.outcome.isNone && x.decided.isNone

/-- The lowest free read slot of a context. -/
def freeReadSlot (x : Nat) : Option Nat := [0, 1, 2, 3].find? fun i => !slotValid x i

/-- The operation that an entry asks for. -/
def opOf (s : State) (q sseq slot : Nat) (e : Entry) : TrnOp :=
  { id := s.trn.opNo, entry := some (q, sseq), order := e.order, kind := if e.op = 0x20 then 1 else if e.op = 0x21 then 2 else 3
    fn := queueFn s q, len := e.at 0xC 0 32, laddr := e.at 0x10 0 64, ats := bitAt e.raw 88, roff := e.at 0x18 0 64
    rkey := e.at 0x20 0 32, imm := if e.op = 0x21 then e.at 0x24 0 32 else 0, flagged := e.op = 0x21 || e.flagged
    slot := slot }

/-- An operation among those of its connection, in the order of acceptance. -/
def insertOp (o : TrnOp) : List TrnOp → List TrnOp
  | [] => [o]
  | p :: rest => if o.order < p.order then o :: p :: rest else p :: insertOp o rest

/-- An operation joins its connection behind those accepted before it (R476, R479). -/
def addOp (s : State) (n : Nat) (o : TrnOp) : State :=
  updConn { s with trn := { s.trn with opNo := s.trn.opNo + 1 } } n fun c => { c with ops := insertOp o c.ops }

/-- The read slot that a TRN_READ takes: its place, length and translation. -/
def takeSlot (x i laddr len : Nat) (ats : Bool) : Nat :=
  let x := ctxPut x (0x40 + i * 0x10) 0 64 laddr
  ctxPut x (0x48 + i * 0x10) 0 64 (len + (flag true) <<< 56 + (flag ats) <<< 57)

/-- An entry whose connection is on chip begins; a TRN_READ waits for a read slot (R474, R478). -/
def beginOp (s : State) (q sseq n x : Nat) (e : Entry) : State :=
  if ctxState x ≠ 0 && ctxFn x ≠ queueFn s q then finishWith (begin_ s q sseq) q sseq stInvalid
  else if ctxState x ≠ 1 then finishWith (begin_ s q sseq) q sseq stConnectionError
  else if e.op ≠ 0x22 then addOp (begin_ s q sseq) n (opOf s q sseq 0 e)
  else match freeReadSlot x with
    | none => s
    | some i =>
      let o := opOf s q sseq i e
      putCtx (addOp (begin_ s q sseq) n o) n (takeSlot x i o.laddr o.len o.ats)

/-- A transport entry begins executing, in the order of acceptance on its connection and once its context is on chip. -/
def startOp (q sseq op : Nat) (s : State) : State :=
  match beginnable s q sseq op with
  | none => s
  | some e =>
    let n := e.at 8 0 24
    if !enabled s .trn || earlierOp s n e.order then s
    else match chipCtx s n with
      | some x => beginOp s q sseq n x e
      | none => if homeOf s n = .none then finishWith (begin_ s q sseq) q sseq stConnectionError else fetchCtx s n

/-- TRN_WRITE: an entry begins to write to a peer's region. -/
def execTrnWrite (q sseq : Nat) (s : State) : Out := run s (startOp q sseq 0x20)

/-- TRN_WRITE_IMM: an entry begins a flagged write with immediate data (R475). -/
def execTrnWriteImm (q sseq : Nat) (s : State) : Out := run s (startOp q sseq 0x21)

/-- TRN_READ: an entry takes a read slot and begins to read a peer's region. -/
def execTrnRead (q sseq : Nat) (s : State) : Out := run s (startOp q sseq 0x22)

/-! ### Regions (R504 to R511, R523) -/

/-- REGION_REGISTER: a region record is written as VALID; the completion record's extra is the key. -/
def execRegionRegister (q sseq : Nat) (s : State) : Out :=
  run s fun s =>
    match beginnable s q sseq 0x24 with
    | none => s
    | some e =>
      let s := begin_ s q sseq
      let i := e.at 8 0 22
      let x := rgnImage s i
      let len := e.at 0x18 0 64
      if !rgnUsable s i || !rgnOwned s i (queueFn s q) || rgnState x = 1 || rgnState x = 2 || e.at 8 22 2 = 0
          || len = 0 || 2 ^ 40 < len || e.at 8 25 7 ≠ 0 || e.at 0xC 24 8 ≠ 0 || e.at 0x20 0 256 ≠ 0 then
        finishWith s q sseq stInvalid
      else
        let v := 1 + (e.at 8 22 3) <<< 2 + (rgnGen x) <<< 8 + (e.at 0xC 0 24) <<< 32 + (e.at 0x10 0 64) <<< 64 + len <<< 128
          + (now s) <<< 256
        finish (putRgn s i (queueAccount s q) v) q sseq { status := stOk, extra := i * 1024 + rgnGen x }

/-- REGION_REVOKE: a region becomes CLOSING with its generation advanced; a FAULTED one becomes FREE at once. -/
def execRegionRevoke (q sseq : Nat) (s : State) : Out :=
  run s fun s =>
    match beginnable s q sseq 0x25 with
    | none => s
    | some e =>
      let s := begin_ s q sseq
      let key := e.word 2
      let i := key / 1024
      let x := rgnImage s i
      let a := queueAccount s q
      if !rgnUsable s i || !rgnOwned s i (queueFn s q) then finishWith s q sseq stInvalid
      else if rgnState x = 3 then finish (putRgn s i a (putBits x 0 2 0)) q sseq { status := stOk }
      else if rgnState x ≠ 1 || rgnGen x ≠ key % 1024 then finishWith s q sseq stInvalid
      else putRgn s i a (putBits (putBits x 0 2 2) 8 10 (rgnGen x + 1))

/-- The executing REGION_REVOKE of a region. -/
def revokeOf (s : State) (i : Nat) : Option (Nat × Nat) :=
  (liveQueues s).findSome? fun q =>
    ((queueInt s q).entries.find? fun e => decide (e.op = 0x25) && e.begun && e.outcome.isNone
      && decide (e.word 2 / 1024 = i)).map fun e => (q, e.sseq)

/-- REGION_DRAINED: a CLOSING region that no packet uses any more becomes FREE, and its revocation ends (R509, R511). -/
def execRegionDrained (index : Nat) (s : State) : Out :=
  run s fun s =>
    let x := rgnImage s index
    if !rgnUsable s index || rgnState x ≠ 2 || rgnFlight x ≠ 0 then s
    else match revokeOf s index with
      | none => putRgn s index 0 (putBits x 0 2 0)
      | some (q, sseq) => finish (putRgn s index (queueAccount s q) (putBits x 0 2 0)) q sseq { status := stOk }

/-! ### Sending (R477 to R486, R493, R494, R519) -/

/-- The operation whose packets are sent next: the first with packets left, behind none that must go before it (R476). -/
def sendingOp (c : TrnConn) : Option TrnOp := c.ops.find? (·.more)

/-- Payload bytes of the next packet of an operation (R477). -/
def nextBytes (x : Nat) (o : TrnOp) : Nat := if o.kind = 3 then 0 else min (ctxMtu x) (o.len - o.off)

/-- The next packet is the last one of its operation. -/
def nextLast (x : Nat) (o : TrnOp) : Bool := o.kind = 3 || decide (o.off + nextBytes x o = o.len)

/-- The next packet asks for an acknowledgement (R493). -/
def nextAckReq (s : State) (x : Nat) (c : TrnConn) (o : TrnOp) : Bool :=
  nextLast x o || decide (max 1 (s.rd TRN_CFG.ack_every) ≤ c.stream + 1)

/-- The frame of the next packet of an operation, from its header to its payload. -/
def nextFrame (s : State) (n x : Nat) (c : TrnConn) (o : TrnOp) (payload : Bytes) : Bytes :=
  let psn := ctxSndNxt x
  let flags := trnFlags o.flagged (o.count = 0) (nextLast x o) (nextAckReq s x c o)
  let imm := if o.kind = 3 then o.slot + psn <<< 8 else o.imm
  let roff := if o.kind = 4 then o.off else if o.kind = 3 then o.roff else (o.roff + o.off) % 2 ^ 64
  templateFrame x 2 (trnHeader o.kind flags (ctxPeer x) n psn ++ dataExt roff o.rkey o.len imm ++ payload)

/-- The state after a packet has been sent: the context and the operation move on. -/
def afterSend (s : State) (n x : Nat) (c : TrnConn) (o : TrnOp) (bytes : Nat) (frame : Bytes) : State :=
  let psn := ctxSndNxt x
  let x := if c.sent.isEmpty then armRto s x else x
  let x := ctxPut x 0x10 0 24 (psn + 1)
  let x := ctxPut x 0xE0 0 64 (ctxAt x 0xE0 0 64 + bytes)
  let x := if o.kind = 3 then ctxPut x (0x48 + o.slot * 0x10) 32 24 psn else x
  let s := putCtx s n x
  let last := nextLast x o
  let s := updConn s n fun c => { c with
    sent := c.sent ++ [⟨psn, o.id, bytes, frame, false⟩]
    stream := if max 1 (s.rd TRN_CFG.ack_every) ≤ c.stream + 1 then 0 else c.stream + 1 }
  let s := updOp s n o.id fun y => { y with off := y.off + bytes, count := y.count + 1, more := !last, first := some (y.first.getD psn) }
  let s := if o.kind = 4 && last then endFlight s o.region (ctxAccount x) else s
  trnCount (pmc s 0x400 0 1 (some (ctxAccount x))) 0

/-- The NAK of a context: its sequencing information, a code and the PSN refused; the marks are echoed (R492, R521). -/
def ackFrame (n x type code nakPsn : Nat) : Bytes :=
  templateFrame x 0 (trnHeader type 0 (ctxPeer x) n (ctxEpsn x) ++ ackExt (ctxSack x) (ctxMarks x) code nakPsn)

/-- An ACK or NAK leaves, once the partner holds the state that it shows (R492, R518, R521, R918). -/
def sendAck (s : State) (n type code nakPsn : Nat) : Option State :=
  let x := (chipCtx s n).getD 0
  let s := updConn (putCtx s n (ctxPut x 0x1C 16 16 0)) n fun c => { c with ackAt := none }
  let s := if type = 0x11 then trnCount s 9 else s
  sendTrn s (ctxPipe x) (ctxAccount x) (some s.pseq) (ackFrame n x type code nakPsn)

/-- The host data of an operation cannot be read: an entry's operation fails, and a responder's read is refused (R483,
R486). -/
def readFails (s : State) (n x : Nat) (o : TrnOp) : State :=
  let s := faultTaken s o.fn
  if o.kind ≠ 4 then stopOp s n o
  else
    let t := updOp (endFlight s o.region (ctxAccount x)) n o.id fun y => { y with more := false }
    (sendAck (settleOps t n) n 0x11 2 (o.imm >>> 8)).getD s

/-- How many packets an operation takes (R477). -/
def opPackets (x : Nat) (o : TrnOp) : Nat := if o.kind = 3 then 1 else max 1 (ceilDiv o.len (ctxMtu x))

/-- The OP record that reserves the PSNs of an operation is sent before its first packet (R918). -/
def reserveOp (s : State) (n : Nat) (o : TrnOp) : State :=
  if o.count = 0 then
    let x := (chipCtx s n).getD 0
    let (q, sseq) := o.entry.getD (0, 0)
    let body := leBytes 4 (ctxSndNxt x) ++ leBytes 4 (opPackets x o) ++ leBytes 2 q ++ leBytes 2 sseq
      ++ leBytes 4 (flag o.entry.isSome)
    let s := delta s 0x05 n body (ctxAccount x)
    updOp s n o.id fun y => { y with pseq := s.pseq }
  else s

/-- The delta record that an operation's packets wait for. -/
def opNeed (s : State) (n id : Nat) : Nat := (((trnConn s n).ops.find? fun o => decide (o.id = id)).map (·.pseq)).getD 0

/-- A new data-stream packet of an operation, for which the pacer has tokens. -/
def sendNew (s : State) (n x : Nat) (c : TrnConn) (o : TrnOp) (payload : Bytes) : State :=
  let frame := nextFrame s n x c o payload
  let w := wireLen frame.length
  if ctxTokens x < w then putCtx s n x
  else
    let t := reserveOp s n o
    match sendTrn t (ctxPipe x) (ctxAccount x) (some (opNeed t n o.id)) frame with
    | none => putCtx s n x
    | some t =>
      let t := if payload.isEmpty then t else pcieBytes t o.fn payload.length (ctxAccount x)
      afterSend t n (ctxPut x 0x2C 0 32 (ctxTokens x - w)) c o payload.length frame

/-- The next packet of an operation, whose data the host has returned; none is sent while a translation is missing
(R477 to R479, R483, R486). -/
def admitNew (s : State) (n x : Nat) (c : TrnConn) (o : TrnOp) (ok : Bool) (data : Bytes) : State :=
  let bytes := nextBytes x o
  if 1024 ≤ psnSub (ctxSndNxt x) (ctxSndUna x) then putCtx s n x
  else if bytes = 0 then sendNew s n x c o []
  else if !fnLive s o.fn then (if o.kind = 4 then readFails s n x o else s)
  else match translateRange s o.fn o.ats (o.laddr + o.off) bytes false with
    | .miss a => requestTranslation s o.fn a
    | .fault => readFails s n x o
    | .ok _ =>
      if !ok then readFails s n x o
      else sendNew s n x c o (fitBytes bytes data)

/-- A packet that waits to be retransmitted is sent again, with the same bytes (R496 to R498). -/
def sendAgain (s : State) (n x : Nat) (p : TxPkt) : State :=
  let w := wireLen p.frame.length
  if ctxTokens x < w then putCtx s n x
  else match sendTrn s (ctxPipe x) (ctxAccount x) (some (opNeed s n p.op)) p.frame with
    | none => putCtx s n x
    | some t =>
      let t := putCtx t n (ctxPut x 0x2C 0 32 (ctxTokens x - w))
      let t := updConn t n fun c => { c with resend := c.resend.filter fun k => decide (k ≠ p.psn) }
      trnCount (pmc (pmc t 0x400 0 1 (some (ctxAccount x))) 0x401 0 1 (some (ctxAccount x))) 1

/-- The responses to a READ_REQ wait for an entry accepted before it, which goes first in the operation order (R479). -/
def respWaits (s : State) (n : Nat) (o : TrnOp) : Bool := o.kind = 4 && o.count = 0 && earlierOp s n o.order

/-- PACER_ADMIT: the next data-stream packet of a connection, a retransmission before a new one, where the pacer has
tokens for it; `ok` and the data are those of the host read of its payload. -/
def execPacerAdmit (conn : Nat) (ok : Bool) (data : Bytes) (s : State) : Out :=
  run s fun s =>
    let c := trnConn s conn
    match chipCtx s conn with
    | none => s
    | some x =>
      if ctxState x ≠ 1 || c.suspend.isSome || standby s then s
      else
        let x := refillPacer (applyLegs s x) (now s)
        match c.sent.find? fun p => c.resend.contains p.psn with
        | some p => sendAgain s conn x p
        | none => match sendingOp c with
          | some o => if respWaits s conn o then putCtx s conn x else admitNew s conn x c o ok data
          | none => s

/-! ### Timers (R492, R496, R498) -/

/-- RETRANSMIT_TIMEOUT: the retransmission deadline of a connection has passed. -/
def execRetransmitTimeout (conn : Nat) (s : State) : Out :=
  run s fun s =>
    let c := trnConn s conn
    match chipCtx s conn with
    | none => s
    | some x =>
      if ctxState x ≠ 1 || ctxRto x = 0 || now s < ctxRto x then s
      else if s.rd TRN_CFG.max_retry ≤ ctxRetries x then
        connError s conn stRetryExceeded ((c.sent.head?).map (·.op)) none
      else
        let s := trnCount s 13
        let s := putCtx s conn (armRto s (ctxPut x 0x1C 0 4 (ctxRetries x + 1)))
        updConn s conn fun c => { c with resend := c.sent.map (·.psn), sent := c.sent.map fun p => { p with fast := false } }

/-- RETRY_LATER_RESUME: the suspension of a connection ends. -/
def execRetryLaterResume (conn : Nat) (s : State) : Out :=
  run s fun s =>
    match (trnConn s conn).suspend with
    | some t => if now s < t then s else updConn s conn fun c => { c with suspend := none }
    | none => s

/-- ACK_TIMER: the coalescing time has passed since the first accepted packet not yet acknowledged. -/
def execAckTimer (conn : Nat) (s : State) : Out :=
  run s fun s =>
    let ns := if s.rd TRN_CFG.ack_ns = 0 then 64 else s.rd TRN_CFG.ack_ns
    match (trnConn s conn).ackAt, chipCtx s conn with
    | some t, some x => if ctxState x ≠ 1 || now s < t + ns then s else (sendAck s conn 0x10 0 0).getD s
    | _, _ => s

/-! ### Commands of TRN_CCMD (R467 to R472, R527, R528) -/

/-- A reserved bit of a context image is 1. -/
def ctxReserved (x : Nat) : Bool :=
  [(0, 7, 1), (0, 15, 1), (4, 12, 4), (8, 24, 8), (0x10, 24, 8), (0x14, 24, 8), (0x18, 24, 8), (0x1C, 13, 3), (0x48, 59, 5),
    (0x58, 59, 5), (0x68, 59, 5), (0x78, 59, 5), (0xF0, 0, 128)].any fun f => ctxAt x f.1 f.2.1 f.2.2 ≠ 0

/-- A CREATE would end BAD_CTX (R469). -/
def ctxBad (s : State) (x : Nat) : Bool :=
  let base := if ctxV6 x then 62 else 42
  let q := ctxRxQueue x
  !(ctxTmplLen x = base || ctxTmplLen x = base + 4 || ctxTmplLen x = base + 8) || ctxMaxMbps x = 0 || 800000 < ctxMaxMbps x
    || !(s.rd WQ_CTX.type q = 3 && queueOwned s q && queueFn s q = ctxFn x) || ctxReserved x

/-- The fields that CREATE takes from the image (R472). -/
def createFields : List (Nat × Nat × Nat) :=
  [(0, 2, 1), (0, 3, 2), (0, 5, 1), (0, 6, 1), (0, 8, 7), (0, 16, 3), (0, 19, 1), (0, 20, 12), (4, 0, 12), (4, 16, 16), (8, 0, 24),
    (0xC, 0, 32), (0x10, 0, 24), (0x18, 0, 24), (0x80, 0, 576), (0xC8, 0, 128)]

/-- The context of a connection just created. -/
def createdCtx (s : State) (image : Nat) : Nat :=
  let x := createFields.foldl (fun y f => ctxPut y f.1 f.2.1 f.2.2 (ctxAt image f.1 f.2.1 f.2.2)) 1
  let x := ctxPut (ctxPut x 0x14 0 24 (ctxSndNxt x)) 0x28 0 32 (ctxMaxMbps x)
  ctxPut (ctxPut (ctxPut x 0x2C 0 32 (pacerDepth x)) 0x38 0 64 (now s)) 0xD8 0 64 s.tt.lastLeg

/-- A TRN_CCMD action ends with a result. -/
def endCcmd (s : State) (r : Nat) : State :=
  { (s.wr TRN_CCMD.busy 0).wr TRN_CCMD.result r with trn := { s.trn with waitCmd := none } }

/-- CREATE on a context that is on chip, or on a connection without a home. -/
def createConn (s : State) (n x : Nat) : State :=
  let image := s.rd TRN_CCMD_CTX.image
  if n = 0 || homeOf s n = .none then endCcmd s 2
  else if ctxState x ≠ 0 then endCcmd s 1
  else if ctxBad s image then endCcmd s 3
  else endCcmd (updConn (putCtx s n (createdCtx s image)) n fun c => { ready := c.ready }) 0

/-- RESET (R468, R528). -/
def resetConn (s : State) (n x : Nat) : State :=
  if n = 0 || ctxState x = 0 then endCcmd s 1
  else endCcmd (putCtx (endConn s n none none) n (closedCtx x 0)) 0

/-- READ: the whole context at once, with every leg boundary passed (R470, R520). -/
def readConn (s : State) (x : Nat) : State :=
  endCcmd (s.wr TRN_CCMD_CTX.image (if ctxState x = 1 then applyLegs s x else x)) 0

/-- An action on a context. -/
def ccmdOn (s : State) (action n x : Nat) : State :=
  match action with
  | 0 => createConn s n x
  | 1 => resetConn s n x
  | _ => readConn s x

/-- An action of TRN_CCMD is issued; it waits for a context that is not on chip. -/
def trnCcmd (action conn : Nat) (s : State) : State :=
  let n := conn % 2 ^ 24
  if s.on TRN_CCMD.busy then s.wr (lockedWriteField .trn) 1
  else
    let s := ((s.wr TRN_CCMD.conn n).wr TRN_CCMD.action action).wr TRN_CCMD.busy 1
    match chipCtx s n with
    | some x => ccmdOn s action n x
    | none =>
      if n = 0 || homeOf s n = .none then ccmdOn s action n 0
      else { fetchCtx s n with trn := { (fetchCtx s n).trn with waitCmd := some (action, n) } }

/-- CREATE: TRN_CCMD with action CREATE. -/
def execConnCreate (who : Initiator) (conn : Nat) (s : State) : Out := run s fun s => setupWrite TRN_CCMD.go 0 1 who s (trnCcmd 0 conn)

/-- TRN_CONN_RESET: TRN_CCMD with action RESET. -/
def execTrnConnReset (who : Initiator) (conn : Nat) (s : State) : Out := run s fun s => setupWrite TRN_CCMD.go 0 1 who s (trnCcmd 1 conn)

/-- TRN_CONN_READ: TRN_CCMD with action READ. -/
def execTrnConnRead (who : Initiator) (conn : Nat) (s : State) : Out := run s fun s => setupWrite TRN_CCMD.go 0 1 who s (trnCcmd 2 conn)

/-- Every region of a block is FREE or FAULTED (R529). -/
def blockIdle (s : State) (b : Nat) : Bool :=
  (List.range 1024).all fun j => !rgnUsable s (b * 1024 + j) || rgnState (rgnImage s (b * 1024 + j)) = 0
    || rgnState (rgnImage s (b * 1024 + j)) = 3

/-- RGN_BLOCK_WRITE: a write to TRN_RGN_BLOCK[b] (R529, R967). -/
def execRgnBlockWrite (who : Initiator) (b value : Nat) (s : State) : Out :=
  run s fun s => setupWrite TRN_RGN_BLOCK.pf b value who s fun s =>
    if 4096 ≤ b then s
    else if blockIdle s b then
      (((s.wr TRN_RGN_BLOCK.pf (bitsAt value 0 3) b).wr TRN_RGN_BLOCK.is_vf (bitsAt value 3 1) b).wr TRN_RGN_BLOCK.vf
        (bitsAt value 4 12) b).wr TRN_RGN_BLOCK.valid (bitsAt value 16 1) b
    else if ownerWord s TRN_RGN_BLOCK.pf TRN_RGN_BLOCK.is_vf TRN_RGN_BLOCK.vf TRN_RGN_BLOCK.valid b = value % 2 ^ 17 then s
    else s.wr (lockedWriteField .trn) 1

/-- TRN_CONN_ERRQ_READ: the count is returned and cleared. -/
def execTrnConnErrqRead (who : Initiator) (s : State) : Out :=
  run s fun s => managed .trn who (answer s 0) fun s =>
    (answer s (s.rd TRN_CONN_ERRQ.conn + (s.rd TRN_CONN_ERRQ.status) <<< 24 + (s.rd TRN_CONN_ERRQ.count) <<< 32)).wr
      TRN_CONN_ERRQ.count 0

end Sys2Proof.Machine
end

