-- ==== Sys2Proof/Machine/TrnReceive.lean ====
section
/-! DEFINITION. Trallasy reception: dropping, parking and sequencing, the placement of writes, reads and their responses,
acknowledgements, and the fetch of contexts (R457 to R462, R476 to R503, R510 to R518, R521, R524, R827). -/
namespace Sys2Proof.Machine

/-! ### Replies built from the received frame (R457) -/

/-- A RETRY_LATER for a received packet. -/
def sendRetryLater (s : State) (p : RxPkt) : Option State :=
  sendTrn (trnCount s 11) p.pipe 0 none (replyFrame p (trnHeader 0x12 0 (rxSrc p) (rxDst p) (rxPsn p)))

/-- A NAK with code CONN_STATE for a received packet: the expected PSN of a connection in ERROR is that of its context,
whose marks it echoes (R521), and of a connection that is FREE the spec states none. -/
def sendConnState (s : State) (p : RxPkt) (x : Nat) : Option State :=
  let free := ctxState x = 0
  let (v, s1) := freeWord s
  let s := if free then s1 else if ctxMarks x = 0 then s else putCtx s p.conn (ctxPut x 0x1C 16 16 0)
  let epsn := if free then v else ctxEpsn x
  sendTrn (trnCount s 9) p.pipe 0 (some s.pseq) (replyFrame p (trnHeader 0x11 0 (rxSrc p) (rxDst p) epsn
    ++ ackExt (if free then 0 else ctxSack x) (if free then 0 else ctxMarks x) 4 (rxPsn p)))

/-! ### Release of a received packet's lines -/

/-- A received packet has been dealt with: its lines of the packet buffer or of the parking buffer are freed. -/
def releaseRx (s : State) (p : RxPkt) : State :=
  let s := { s with trn := { s.trn with parkFree := s.trn.parkFree + p.lines } }
  match p.handle with
  | some h => freeHandle s h
  | none => s

/-! ### Sequencing (R490 to R492, R499, R500, R521) -/

/-- How the checks of an accepted packet end: placed or answered, refused with a NAK code, dropped with RETRY_LATER, or to
be repeated once a translation is there. -/
inductive Accepted where
  | placed (s : State)
  | refused (code : Nat)
  | later (ring : Nat)
  | waits (s : State)

/-- Set bits at the low end of a bitmap of 64 bits. -/
def lowOnes (b : Nat) : Nat := ((List.range 64).find? fun i => !b.testBit i).getD 64

/-- A packet with the expected PSN has been received: rcv_epsn passes it and every PSN received after it. -/
def advanceEpsn (x : Nat) : Nat :=
  let k := lowOnes (ctxSack x) + 1
  ctxPut (ctxPut x 0x18 0 24 (ctxEpsn x + k)) 0x20 0 64 (ctxSack x >>> k)

/-- A CE mark of an accepted or duplicate packet is counted. -/
def noteMark (s : State) (n : Nat) (p : RxPkt) : State :=
  if rxCe p then
    let x := (chipCtx s n).getD 0
    trnCount (putCtx s n (ctxPut x 0x1C 16 16 (satNat 65535 (ctxMarks x + 1)))) 19
  else s

/-- The packet at the head leaves its connection's list. -/
def popReady (s : State) (n : Nat) : State := updConn s n fun c => { c with ready := c.ready.tail }

/-- A packet is dealt with, with what follows it; without lines for a reply nothing happens. -/
def concludeRx (s : State) (p : RxPkt) (t : Option State) : State :=
  match t with
  | some t => releaseRx t p
  | none => s

/-- A duplicate: its data is discarded and an ACK sent at once. -/
def duplicateRx (s : State) (n : Nat) (p : RxPkt) : Option State := sendAck (noteMark (trnCount s 3) n p) n 0x10 0 0

/-- The receive state of an accepted packet at distance `d` is set, and the packet is acknowledged or refused. -/
def receivedRx (s : State) (n d : Nat) (p : RxPkt) (nak : Option Nat) : Option State :=
  let s := noteMark (trnCount s 2) n p
  let x := (chipCtx s n).getD 0
  let was0 := ctxSack x = 0
  let x := if d = 0 then advanceEpsn x else ctxPut x 0x20 0 64 (ctxSack x ||| 2 ^ (d - 1))
  let s := putCtx s n x
  match nak with
  | some code => sendAck s n 0x11 code (rxPsn p)
  | none =>
    if rxAckReq p || (d ≠ 0 && was0) then sendAck s n 0x10 0 0
    else some (updConn s n fun c => { c with ackAt := some (c.ackAt.getD (now s)) })

/-- A data-stream packet on a READY connection, already taken from its list, under R490; `s0` is the state before. -/
def sequence (s0 s : State) (n x : Nat) (p : RxPkt) (flagged : Bool) (check : State → Accepted) : State :=
  let d := psnSub (rxPsn p) (ctxEpsn x)
  let back := fun t : Option State => match t with
    | some u => releaseRx u p
    | none => s0
  let accept := match check s with
    | .waits t => { s0 with hif := t.hif, regs := t.regs, pmcWraps := t.pmcWraps }
    | .placed t => back (receivedRx t n d p none)
    | .refused code => back (receivedRx (if code = 2 then faultTaken s (ctxFn x) else s) n d p (some code))
    | .later r => back (sendRetryLater (if (placeCause s r) = 0 then s else ringStall s r (placeCause s r)) p)
  if d = 0 then accept
  else if d ≤ 64 then
    if (ctxSack x).testBit (d - 1) then back (duplicateRx s n p)
    else if flagged then back (sendAck (trnCount s 5) n 0x10 0 0)
    else accept
  else if 2 ^ 23 ≤ d then back (duplicateRx s n p)
  else releaseRx (trnCount s 4) p

/-- The function of a connection is a VF that is QUIESCED (R827). -/
def connQuiesced (s : State) (x : Nat) : Bool := quiescedFn s (ctxFn x)

/-- The packet at the head of a connection's list, of one type, is dealt with by its row: a connection that is not READY
answers NAK CONN_STATE (R461), and a QUIESCED function RETRY_LATER, where `held` says so (R827). -/
def onReady (n type : Nat) (held : Nat → RxPkt → Bool) (f : State → State → Nat → RxPkt → State) (s : State) : State :=
  match (trnConn s n).ready.head?, chipCtx s n with
  | some p, some x =>
    if rxType p ≠ type then s
    else
      let t := popReady s n
      if ctxState x ≠ 1 then
        (if isData type then concludeRx s p (sendConnState t p x) else releaseRx t p)
      else if isData type && connQuiesced s x && held x p then concludeRx s p (sendRetryLater t p)
      else f s t x p
  | _, _ => s

/-! ### Key checks and placement (R462, R487, R488, R510 to R512, R811) -/

/-- The code of the first key check that a packet fails, checks 1 to 7; none where it passes them (R512). -/
def keyCheck (s : State) (n x : Nat) (p : RxPkt) (write : Bool) (len : Nat) : Option Nat :=
  let i := rxRkey p / 1024
  let r := rgnImage s i
  if !rgnUsable s i then some 2
  else if rgnGen r ≠ rxRkey p % 1024 then some 1
  else if rgnState r = 2 then some 1
  else if rgnState r ≠ 1 then some 2
  else if !rgnOwned s i (ctxFn x) || (rgnScope r ≠ 0 && rgnScope r ≠ n) then some 2
  else if (if write then !bitAt r 2 else !bitAt r 3) then some 2
  else if rgnLength r < rxRoff p + len then some 2
  else none

/-- The payload of a write placed in its region, after the key check (R491, R510, R512). -/
def placeWrite (s : State) (n x : Nat) (p : RxPkt) : Accepted :=
  let bs := rxPayload p
  let i := rxRkey p / 1024
  if ctxMtu x < bs.length || rxOpLen p < bs.length then .refused 3
  else
    let s := g6Access s (rgnAddr s i) false (ctxAccount x)
    match keyCheck s n x p true bs.length with
    | some code => .refused code
    | none =>
      let r := rgnImage s i
      let f := ctxFn x
      if !fnLive s f then .refused 2
      else match translateRange s f (bitAt r 4) ((rgnBase r + rxRoff p) % 2 ^ 64) bs.length true with
        | .miss a => .waits (requestTranslation s f a)
        | .fault => .refused 2
        | .ok ps =>
          let s := if bs.isEmpty then s else pcieBytes (writePieces s f ps bs) f bs.length (ctxAccount x)
          .placed (putCtx s n (ctxPut x 0xE8 0 64 (ctxAt x 0xE8 0 64 + bs.length)))

/-- The NOTIFY record of a WRITE_IMM (R487). -/
def notifyRecord (s : State) (n x : Nat) (p : RxPkt) : State :=
  let q := ctxRxQueue x
  let r := s.rd WQ_CTX.cq_ring q
  let f := ctxFn x
  let s := if linkOf s f = linkOf s (ringFn s r) then s else putLink s (.zeroRead f ((linkOf s f).getD 0))
  writeRecord (promisePlace s r) r q (placeFor s r) (recordImage stOk 0x21 0 n q 1 (rxOpLen p) (now s) (rxImm p) (inHoldover s))

/-- The placement of a WRITE_IMM packet, whose last packet needs a record place and writes the NOTIFY (R487, R488). -/
def placeImm (s : State) (n x : Nat) (p : RxPkt) : Accepted :=
  let q := ctxRxQueue x
  if rxLast p && (queueState s q = qDisabled || queueState s q = qHalted) then .refused 2
  else if rxLast p && placeCause s (s.rd WQ_CTX.cq_ring q) ≠ 0 then .later (s.rd WQ_CTX.cq_ring q)
  else match placeWrite s n x p with
    | .placed t => .placed (if rxLast p then notifyRecord t n x p else t)
    | r => r

/-- A READ_REQ is taken up in the responder's operation order (R479, R502, R510, R512). -/
def takeRead (s : State) (n x : Nat) (p : RxPkt) : Accepted :=
  let len := rxOpLen p
  let i := rxRkey p / 1024
  if !(rxPayload p).isEmpty || len = 0 then .refused 3
  else
    let s := g6Access s (rgnAddr s i) false (ctxAccount x)
    match keyCheck s n x p false len with
    | some code => .refused code
    | none =>
      let r := rgnImage s i
      let f := ctxFn x
      let a := (rgnBase r + rxRoff p) % 2 ^ 64
      if !fnLive s f then .refused 2
      else match translateRange s f (bitAt r 4) a 1 false with
        | .miss a => .waits (requestTranslation s f a)
        | .fault => .refused 2
        | .ok _ =>
          let s := putRgn s i (ctxAccount x) (putBits r 192 32 (rgnFlight r + 1))
          .placed (addOp s n {
            id := s.trn.opNo, entry := none, order := s.acceptNo, kind := 4, fn := f, len := len, laddr := a, ats := bitAt r 4, roff := 0, rkey := 0
            imm := rxImm p, flagged := false, region := i })

/-- A slot that a READ_RESP belongs to: valid, with the request's PSN. -/
def respSlot (x : Nat) (p : RxPkt) : Option Nat :=
  let i := rxImm p % 4
  if slotValid x i && slotReqPsn x i = rxImm p / 256 then some i else none

/-- The read of a slot has had its last byte: the slot is free, and the operation is done. -/
def closeSlot (s : State) (n i rest : Nat) : State :=
  let x := (chipCtx s n).getD 0
  if rest = 0 then
    let s := putCtx s n (putSlotValid x i 0)
    updConn s n fun c => { c with
      ops := mapIf (fun o => decide (o.kind = 3) && decide (o.slot = i) && o.first.isSome) (fun o => { o with done := true }) c.ops }
  else s

/-- The entry of a read that the connection still carries. -/
def slotEntry (s : State) (n i : Nat) : Option (Nat × Nat) :=
  ((trnConn s n).ops.find? fun o => decide (o.kind = 3) && decide (o.slot = i) && o.first.isSome).bind (·.entry)

/-- The payload of a READ_RESP placed at its slot, or discarded (R480, R483, R484, R811). -/
def placeResp (s : State) (n x : Nat) (p : RxPkt) : Accepted :=
  let bs := rxPayload p
  if ctxMtu x < bs.length || rxOpLen p < bs.length then .refused 3
  else match respSlot x p with
    | none => .placed s
    | some i =>
      let rest := slotRemaining x i - bs.length
      if slotDiscard x i then .placed (closeSlot (putCtx s n (putRemaining x i rest)) n i rest)
      else if rxOpLen p < rxRoff p + bs.length then .refused 3
      else
        let f := ctxFn x
        if !fnLive s f then .refused 2
        else match translateRange s f (slotAts x i) ((slotLaddr x i + rxRoff p) % 2 ^ 64) bs.length true with
          | .miss a => .waits (requestTranslation s f a)
          | .fault =>
            let s := putCtx (faultTaken s f) n (putDiscard (putRemaining x i rest) i 1)
            let s := match (trnConn s n).ops.find? fun o => decide (o.kind = 3) && decide (o.slot = i) && o.first.isSome with
              | some o => stopOp s n o
              | none => s
            .placed (closeSlot s n i rest)
          | .ok ps =>
            let s := putCtx s n (ctxPut (putRemaining x i rest) 0xE8 0 64 (ctxAt x 0xE8 0 64 + bs.length))
            let s := match slotEntry s n i with
              | some (q, sseq) =>
                let s := entryWrite s q sseq ps bs
                updEntry s q sseq fun e => { e with moved := e.moved + bs.length }
              | none => pcieBytes (writePieces s f ps bs) f bs.length (ctxAccount x)
            .placed (settleOps (closeSlot s n i rest) n)

/-! ### The rows of received packets -/

/-- WRITE_RECEIVE: the next packet of a connection is a WRITE. -/
def execWriteReceive (conn : Nat) (s : State) : Out :=
  run s (onReady conn 1 (fun _ _ => true) fun s0 s x p =>
    sequence s0 s conn x p (rxFlagged p || ctxOrd x) fun t => placeWrite t conn x p)

/-- WRITE_IMM_RECEIVE: the next packet of a connection is a WRITE_IMM. -/
def execWriteImmReceive (conn : Nat) (s : State) : Out :=
  run s (onReady conn 2 (fun _ _ => true) fun s0 s x p =>
    sequence s0 s conn x p (rxFlagged p || ctxOrd x) fun t => placeImm t conn x p)

/-- READ_REQ_RECEIVE: the next packet of a connection is a READ_REQ. -/
def execReadReqReceive (conn : Nat) (s : State) : Out :=
  run s (onReady conn 3 (fun _ _ => true) fun s0 s x p =>
    sequence s0 s conn x p (rxFlagged p || ctxOrd x) fun t => takeRead t conn x p)

/-- READ_RESP_RECEIVE: the next packet of a connection is a READ_RESP; it is never flagged (R503). -/
def execReadRespReceive (conn : Nat) (s : State) : Out :=
  run s (onReady conn 4
    (fun x p => match respSlot x p with
      | some i => !slotDiscard x i
      | none => true)
    fun s0 s x p => sequence s0 s conn x p false fun t => placeResp t conn x p)

/-! ### Acknowledgements (R455, R481, R482, R485, R495, R497) -/

/-- An ACK or NAK acknowledges a PSN, counted from snd_una. -/
def acks (x psn sack p : Nat) : Bool :=
  let una := ctxSndUna x
  let i := psnSub p (psn + 1)
  decide (psnSub p una < psnSub psn una)
    || (decide (i < 64) && sack.testBit i && decide (psnSub p una < psnSub (ctxSndNxt x) una))

/-- The bytes of a packet acknowledged count for its write (R481). -/
def ackBytes (s : State) (n : Nat) (p : TxPkt) : State :=
  match ((trnConn s n).ops.find? fun o => decide (o.id = p.op)).bind (·.entry) with
  | some (q, sseq) => updEntry s q sseq fun e => { e with moved := e.moved + p.bytes }
  | none => s

/-- The oldest unacknowledged PSN: the timer and the count of retries follow its advance (R495). -/
def advanceUna (s : State) (n : Nat) : State :=
  let c := trnConn s n
  let x := (chipCtx s n).getD 0
  let una := ((c.sent.head?).map (·.psn)).getD (ctxSndNxt x)
  if una = ctxSndUna x then s
  else
    let x := ctxPut (ctxPut x 0x14 0 24 una) 0x1C 0 4 0
    putCtx s n (if c.sent.isEmpty then ctxPut x 0x30 0 64 0 else armRto s x)

/-- The status that a NAK code gives (R455). -/
def nakStatus (code : Nat) : Nat :=
  if code = 1 then stRegionClosed else if code = 2 then stRemoteAccess else stConnectionError

/-- An operation is refused at a PSN: the earliest NAK in PSN order decides (R481, R482). -/
def refuseOp (psn code : Nat) (o : TrnOp) : TrnOp :=
  let place := psnSub psn (o.first.getD psn)
  let won := match o.refusal with
    | some (k, _, _) => decide (place < k)
    | none => true
  { o with more := false, refusal := if won then some (place, nakStatus code, code) else o.refusal }

/-- A NAK refuses a PSN that the connection has sent: its operation, or the read whose request it was (R482, R485). -/
def refusePsn (s : State) (n psn code : Nat) : State :=
  let c := trnConn s n
  let hit := (c.sent.find? fun p => decide (p.psn = psn)).map (·.op)
  let mine := fun o : TrnOp => decide (hit = some o.id) || (decide (o.kind = 3) && decide (o.first = some psn))
  let ends := c.ops.filter fun o => mine o && decide (o.kind = 4) && o.more
  let s := ends.foldl (fun t o => endFlight t o.region (ctxAccount ((chipCtx t n).getD 0))) s
  let s := updConn s n fun c => { c with
    sent := c.sent.filter fun p => decide (p.psn ≠ psn)
    ops := mapIf mine (refuseOp psn code) c.ops }
  let x := (chipCtx s n).getD 0
  let x := [0, 1, 2, 3].foldl (fun y i => if slotValid y i && slotReqPsn y i = psn then putSlotValid y i 0 else y) x
  if x = (chipCtx s n).getD 0 then s else putCtx s n x

/-- Every packet that an ACK or NAK acknowledges is done with. -/
def takeAcks (s : State) (n x psn sack : Nat) : State :=
  let c := trnConn s n
  let gone := c.sent.filter fun p => acks x psn sack p.psn
  let s := gone.foldl (fun t p => ackBytes t n p) s
  updConn s n fun c => { c with
    sent := c.sent.filter fun p => !acks x psn sack p.psn
    resend := c.resend.filter fun k => !acks x psn sack k }

/-- The PSNs that an acknowledgement shows to be missing under at least three received ones are sent once more (R497). -/
def fastResend (s : State) (n psn sack : Nat) : State :=
  let c := trnConn s n
  let above := fun p => ((List.range 64).filter fun j => sack.testBit j && decide (psnSub p psn < j + 1)).length
  let due := c.sent.filter fun p => !p.fast && decide (psnSub p.psn psn ≤ 64) && decide (3 ≤ above p.psn)
  let s := due.foldl (fun t p => trnCount (updConn t n fun c => { c with
    resend := if c.resend.contains p.psn then c.resend else c.resend ++ [p.psn]
    sent := mapIf (fun y => decide (y.psn = p.psn)) (fun y => { y with fast := true }) c.sent }) 14) s
  s

/-- An ACK, or a NAK that refuses a PSN, on a READY connection (R481, R495, R519). -/
def takeAck (s : State) (n x : Nat) (p : RxPkt) (nak : Bool) : State :=
  let psn := rxPsn p
  if psnSub (ctxSndNxt x) (ctxSndUna x) < psnSub psn (ctxSndUna x) then s
  else
    let code := rxNakCode p
    let s := putCtx s n (onMarks s (applyLegs s x) (rxEcnCount p))
    let fatal := nak && code ≠ 1 && code ≠ 2
    let op := ((trnConn s n).sent.find? fun y => decide (y.psn = rxNakPsn p)).map (·.op)
    let s := if nak && !fatal then refusePsn s n (rxNakPsn p) code
      else if nak then updConn s n fun c => { c with sent := c.sent.filter fun y => decide (y.psn ≠ rxNakPsn p) }
      else s
    let s := advanceUna (takeAcks s n x psn (rxSack p)) n
    if fatal then
      connError (updConn s n fun c => { c with
        ops := mapIf (fun o => decide (op = some o.id)) (fun o => { o with more := true }) c.ops }) n stConnectionError none (op.map fun o => (o, code))
    else settleOps (fastResend s n psn (rxSack p)) n

/-- ACK_RECEIVE: the next packet of a connection is an ACK. -/
def execAckReceive (conn : Nat) (s : State) : Out :=
  run s (onReady conn 0x10 (fun _ _ => false) fun _ s x p => releaseRx (takeAck s conn x p false) p)

/-- NAK_RECEIVE: the next packet of a connection is a NAK. -/
def execNakReceive (conn : Nat) (s : State) : Out :=
  run s (onReady conn 0x11 (fun _ _ => false) fun _ s x p => releaseRx (takeAck (trnCount s 10) conn x p true) p)

/-- RETRY_LATER_RECEIVE: the next packet of a connection is a RETRY_LATER; the packet that it names and those after it wait
to be sent again when the suspension ends (R498). -/
def execRetryLaterReceive (conn : Nat) (s : State) : Out :=
  run s (onReady conn 0x12 (fun _ _ => false) fun _ s x p =>
    let psn := rxPsn p
    let s := if psnSub (ctxSndNxt x) (ctxSndUna x) ≤ psnSub psn (ctxSndUna x) then s
      else
        let s := putCtx (trnCount s 12) conn (armRto s x)
        updConn s conn fun c => { c with
          suspend := some (now s + s.rd TRN_CFG.rl_backoff_us * 1000)
          resend := (c.sent.filter fun y => c.resend.contains y.psn
            || decide (psnSub psn (ctxSndUna x) ≤ psnSub y.psn (ctxSndUna x))).map (·.psn) }
    releaseRx s p)

/-! ### Arrival and parking (R459 to R461, R516 to R518, R524, R910) -/

/-- A packet whose context is at hand: checked against its peer, answered, or passed to sequencing; none without lines for
the answer. -/
def admitRx (s : State) (p : RxPkt) (x : Nat) : Option State :=
  let n := p.conn
  if ctxState x ≠ 1 then
    (if isData (rxType p) then (sendConnState s p x).map fun t => releaseRx t p else some (releaseRx s p))
  else if rxPeer p ≠ ctxPeerAddr x || rxSrc p ≠ ctxPeer x then some (releaseRx (trnCount s 7) p)
  else if isData (rxType p) && (4 < rxType p || rxType p = 0) then
    some (sequence s s n x p (rxFlagged p || ctxOrd x) fun _ => .refused 3)
  else some (updConn s n fun c => { c with ready := c.ready ++ [p] })

/-- A packet that cannot stay parked is dropped with RETRY_LATER (R517). -/
def dropParked (s : State) (p : RxPkt) (cnt : Nat) : Option State :=
  (sendRetryLater s p).map fun t => raise (trnCount (releaseRx t p) cnt) 0x102

/-- A packet is parked, and the fetch of its context begins (R516, R517). -/
def parkRx (s : State) (p : RxPkt) : Option State :=
  let k := ceilDiv p.frame.length 64
  if s.trn.parkFree < k then dropParked s p 15
  else
    let s := releaseRx s p
    some (fetchCtx { s with trn := { s.trn with
      parkFree := s.trn.parkFree - k
      parked := s.trn.parked ++ [{ p with handle := none, lines := k, tt := now s }] } } p.conn)

/-- A packet that has passed the first three cases of R460. -/
def routeRx (s : State) (p : RxPkt) : Option State :=
  let n := p.conn
  if n = 0 || (homeOf s n = .none && (chipCtx s n).isNone) then admitRx s p 0
  else if s.trn.parked.any fun y => decide (y.conn = n) then parkRx s p
  else match chipCtx s n with
    | some x => admitRx s p x
    | none => parkRx s p

/-- TRN_PACKET_RECEIVE: the oldest frame that the pipelines have handed to the engine is dropped, parked, answered or passed
to sequencing. -/
def execTrnPacketReceive (s : State) : Out :=
  run s fun s =>
    match s.pp.toTrn with
    | [] => s
    | (pipe, pkt) :: rest =>
      let t := { s with pp := { s.pp with toTrn := rest } }
      let h := pkt.info.handle
      let flow := pkt.info.flowId
      if !enabled s .trn || standby s then freeHandle (trnCount t 20) h
      else if memBad s (lineAddr (h + 2)) pkt.frame.length then freeHandle (detFailed t) h
      else match parseTrn pipe pkt.frame with
        | none => freeHandle (trnCount t 6) h
        | some p =>
          if flow ≠ 0 ∧ flow ≠ p.conn then freeHandle (trnCount t 8) h
          else (routeRx t { p with handle := some h }).getD s

/-- PARK_TIMEOUT: the oldest packet that has been parked for limit_ns is dropped. -/
def execParkTimeout (s : State) : Out :=
  run s fun s =>
    let lim := if s.rd TRN_PARK_LIMIT.limit_ns = 0 then 100 else s.rd TRN_PARK_LIMIT.limit_ns
    match s.trn.parked.find? fun p => decide (p.tt + lim ≤ now s) with
    | none => s
    | some p => (dropParked { s with trn := { s.trn with parked := s.trn.parked.filter fun y => decide (y ≠ p) } } p 16).getD s

/-- The packets parked for a connection go on, in the order of arrival. -/
def unpark (s : State) (n : Nat) : Option State :=
  (s.trn.parked.filter fun p => decide (p.conn = n)).foldl (fun t p => t.bind fun t => admitRx t p ((chipCtx t n).getD 0))
    (some { s with trn := { s.trn with parked := s.trn.parked.filter fun p => decide (p.conn ≠ n) } })

/-- The TRN_CCMD action that waits for a context takes place. -/
def resumeTrnCcmd (s : State) (n : Nat) : State :=
  match s.trn.waitCmd, chipCtx s n with
  | some (action, m), some x => if m = n then ccmdOn s action n x else s
  | _, _ => s

/-- A context has been fetched. -/
def ctxArrived (s : State) (n x : Nat) (host : Bool) : State :=
  match makeRoom s with
  | none => s
  | some t =>
    let t := cacheCtx { t with trn := { t.trn with fetching := t.trn.fetching.filter fun m => decide (m ≠ n) } } n x
    let a := some (ctxAccount x)
    let t := if host then pmc (pcieBytes t (t.rd TRN_HCTX_CFG.pf) 256 (ctxAccount x)) 0x403 0 1 a
      else (List.range 4).foldl (fun u i => g6Access u (areaBase u 1 + n * 256 + 64 * i) false (ctxAccount x)) (pmc t 0x402 0 1 a)
    match unpark t n with
    | none => s
    | some u => resumeTrnCcmd u n

/-- A fetch has failed after the host interface's retry: what is parked for the connection is dropped (R518), and an action
that waits ends with a result that the spec does not state. -/
def ctxFetchFailed (s : State) (n : Nat) : State :=
  let t := { s with trn := { s.trn with
    fetching := s.trn.fetching.filter fun m => decide (m ≠ n)
    parked := s.trn.parked.filter fun p => decide (p.conn ≠ n) } }
  match (s.trn.parked.filter fun p => decide (p.conn = n)).foldl (fun t p => t.bind fun t => dropParked t p 16) (some t) with
  | none => s
  | some t =>
    let t := raise t 0x101
    match t.trn.waitCmd with
    | some (_, m) => if m = n then endCcmd (freeWord t).2 (freeWord t).1 else t
    | none => t

/-- CONTEXT_FETCH_DONE: the fetch of a context completes; `ok` and the image are those of a host read (R513 to R518). -/
def execContextFetchDone (conn : Nat) (ok : Bool) (image : Nat) (s : State) : Out :=
  run s fun s =>
    if !s.trn.fetching.contains conn then s
    else match homeOf s conn with
      | .memory a => ctxArrived s conn (ofLe (memLoad s a 256)) false
      | .host _ =>
        let o := ReqOwner.context conn
        if readFailed s o then ctxFetchFailed (takeFailure s o) conn
        else if !(s.hif.reqs.any fun r => decide (r.owner = o)) then readHome s conn
        else if ok then ctxArrived (endRead s o) conn image true
        else ctxFetchFailed (endRead s o) conn
      | .none => ctxFetchFailed s conn

end Sys2Proof.Machine
end

