-- ==== Sys2Proof/Machine/Detection.lean ====
section
/-! DEFINITION. Detection codes: the second read, and the recomputation by the owner of a line (R275 to R280, R895). -/
namespace Sys2Proof.Machine

/-- What becomes of an object whose code has fired on both reads: nothing recomputes it, its recomputation cleared the
error, or its recomputation failed (R280, R895). -/
inductive Redo where
  | none (s : State)
  | cleared (s : State)
  | failed (s : State)
deriving Repr

/-! ### Packets (R524, R895) -/

/-- The packet with a handle is removed from wherever it stands but the wire, and its lines are freed. -/
def dropHandle (s : State) (h : Nat) : State :=
  let keep := fun (p : Packet) => decide (p.info.handle ≠ h)
  let clean := fun (m : Map (List Waiting)) => m.map fun e => (e.1, e.2.filter fun w => keep w.pkt)
  let passes := s.pp.passes.map fun e => (e.1, e.2.filter fun w => keep w.pkt)
  let queues := s.tm.queues.map fun e => (e.1, e.2.filter fun f => keep f.pkt)
  let s := { s with
    pp := { s.pp with
      inputs := (clean s.pp.inputs).filter fun e => !e.2.isEmpty
      passes := passes.filter fun e => !e.2.isEmpty
      slow := (s.pp.slow.map fun e => (e.1, e.2.filter fun x => keep x.pkt)).filter fun e => !e.2.isEmpty
      toTrn := s.pp.toTrn.filter fun e => keep e.2 }
    tm := { s.tm with queues := queues.filter fun e => !e.2.isEmpty } }
  freeHandle s h

/-- A line of the packet buffer is lost: the packet that holds it is dropped, without a counter of its own. -/
def loseBufferLine (s : State) (l : Nat) : State :=
  match s.pp.holds.find? fun h =>
      if h.apart.isEmpty then decide (h.handle ≤ l) && decide (l < h.handle + h.lines) else h.apart.contains l with
  | none => s
  | some h => if s.pp.slowOut.contains h.handle then s else dropHandle s h.handle

/-- The parked packet at a place of the order of arrival is dropped without reply (R895). -/
def loseParked (s : State) (n : Nat) : State :=
  match s.trn.parked[n]? with
  | none => s
  | some p => releaseRx { s with trn := { s.trn with parked := s.trn.parked.filter fun x => decide (x ≠ p) } } p

/-! ### Objects on chip and in GDDR6 -/

/-- Queues that have left DISABLED and name a record ring. -/
def ringQueues (s : State) (r : Nat) : List Nat :=
  (liveQueues s).filter fun q => decide (s.rd WQ_CTX.cq_ring q = r)

/-- A key slot is lost: it becomes empty and is reported (R608). -/
def loseSlot (s : State) (k : Nat) : State := pushKeyq (deltaSlot (setSlot s k 0) k) k 3

/-- A region record is lost: its state is FAULTED (R523). -/
def loseRegion (s : State) (i : Nat) : State :=
  let x := rgnImage s i
  putRgn s i 0 (putBits x 0 2 3)

/-- The ledger records of the minute of a lost backlog record are discarded, and the minute counted (R123, R895). -/
def loseLedger (s : State) (i : Nat) : State :=
  match s.nrg.backlog[i]? with
  | none => s
  | some x =>
    let first := s.nrg.lseq - s.nrg.backlog.length
    let kept := s.nrg.backlog.filter fun y => decide (bitsAt y 64 64 ≠ bitsAt x 64 64)
    let numbered := (List.range kept.length).map fun j => putBits (nth kept j 0) 32 32 (first + j)
    let s := { s with nrg := { s.nrg with backlog := numbered, lseq := first + kept.length, lost := s.nrg.lost + 1 } }
    raise (s.wr NRG_STATUS.ledger_overflow 1) 0x066

/-- A ternary line is lost: its entry is cleared and logged (R405). -/
def loseTern (s : State) (t i : Nat) : State :=
  let s := if (Map.get s.ft.tern (ternKey s t i)).valid then countEntries s t 0 false else s
  pushLost { s with ft := { s.ft with tern := Map.set s.ft.tern (ternKey s t i) {} } } t 0 i

/-- The block command whose staging buffer holds an address. -/
def stagedAt (s : State) (a : Nat) : Option BlkCmd :=
  s.blk.cmds.find? fun c => match c.buf with
    | none => false
    | some o => decide (stageBase s + o ≤ a) && decide (a < stageBase s + o + blkBytes c) && !c.orphan

/-- A line of the block area is lost: a volume record becomes invalid, and staged data is recomputed where it can be
(R279, R531, R549). -/
def loseStaging (s : State) (a : Nat) : Redo :=
  let o := a - areaBase s 4
  if s.areas.blkStage ≠ 0 ∧ o < 0x400000 then .failed (setVol s (o / 64) (putBits (volRecord s (o / 64)) 0 1 0))
  else match stagedAt s a with
  | none => .none s
  | some c =>
    if stageSpent c then .failed (stageLost s c) else .cleared (stageLost s c)

/-! ### Owners of lines by address (R28, R31, R32) -/

/-- What the owner of a line does about it, by the line's place in the SRAM; `redone` tells whether the other copy that
the owner recomputes from was good. -/
def ownerSram (s : State) (o : Nat) (redone : Bool) : Redo :=
  if o < 0x04000000 then .none (loseBufferLine s (o / 64))
  else if 0x04800000 ≤ o ∧ o < 0x04C00000 then
    let q := (o - 0x04800000) / 64
    if redone && !memBad s (areaBase s 5 + queueShadow q) 64 then .cleared (fromShadow s qctxFields q (queueShadow q))
    else .failed (queueError s q 0x05 0)
  else .none s

/-- What the owner of a line of the ledger and telemetry area does, by its offset in the area (R32). -/
def ownerLedger (s : State) (o : Nat) : Redo :=
  if 0x500000 ≤ o ∧ o < 0x2500000 then
    let m := (o - 0x500000) / 32
    .failed (loseMeter (loseMeter s m) (m + 1))
  else if 0x3100000 ≤ o then .none (loseLedger s ((o - 0x3100000) / 64))
  else .none s

/-- What the owner of a line does, by the line's place in the fixed GDDR6 areas; relay firmware has no recomputation. -/
def ownerG6 (s : State) (a : Nat) : Redo :=
  let in_ := fun (n : Nat) => decide (areaBase s n ≤ a) && decide (n = 0 ∨ a < areaBase s (n - 1))
  if in_ 1 then
    let n := (a - areaBase s 1) / 256
    if (chipCtx s n).isSome then .cleared s else .failed (ctxLost s n)
  else if in_ 2 then .failed (loseRegion s ((a - areaBase s 2) / 64))
  else if in_ 3 then .failed (loseSlot s ((a - areaBase s 3) / 128))
  else if in_ 4 then loseStaging s a
  else if in_ 5 then ownerLedger s (a - areaBase s 5)
  else .none s

/-- What the owner of the line at an internal address does once both reads have failed (R895). -/
def ownerOf (s : State) (a : Nat) (redone : Bool) : Redo :=
  match bucketOfLine s a with
  | some (t, c, b) => .failed (loseTableLine s a t c b)
  | none => if a < g6Base then ownerSram s (a - sramBase) redone else ownerG6 s a

/-- A line leaves the list of lines whose code is bad. -/
def unpoison (s : State) (l : Nat) : State := { s with poison := s.poison.filter fun x => decide (x ≠ l) }

/-- The event is settled: counted once (R280). -/
def settle : Redo → State
  | .none s => detFailed s
  | .cleared s => detRecomputed s
  | .failed s => detFailed s

/-- The code of a line has fired on both reads. -/
def lineFailed (s : State) (l : Nat) (redone : Bool) : Redo :=
  match ownerOf { s with poison := if s.poison.contains l then s.poison else s.poison ++ [l] } (l * 64) redone with
  | .none t => .none t
  | .cleared t => .cleared (unpoison t l)
  | .failed t => .failed t

/-- A flit with data of an entry has been lost for good: the entry's engine issues nothing more for it, and it ends
DETECTED_FAULT with place 3 (R248, R275, R276); one that has its outcome keeps it. -/
def faultEntry (s : State) (q sseq : Nat) : State :=
  match entryOf s q sseq with
  | none => s
  | some e =>
    if e.outcome.isSome || e.decided.isSome then s
    else match chanOf s q sseq with
      | some c =>
        if (chan s c).ending.isSome then s
        else endChain_ (updChan s c fun x => { x with move := none, fault := 3 }) c 6
      | none =>
        let s := if e.begun then engineStop s q e else s
        updEntry s q sseq fun x => { x with outcome := some { status := stDetectedFault, bytes := x.moved, extra := 3 } }

/-- What the owner of an object does once both reads of it have failed. -/
def objectFailed (s : State) (redone : Bool) : Detection → Redo
  | .line l => lineFailed s l redone
  | .parked n => .none (loseParked s n)
  | .context n =>
    if redone && !((Map.get s.trn.cache n).map (·.dirty)).getD false then .cleared s else .failed (ctxLost s n)
  | .ringContext r =>
    if redone && !memBad s (areaBase s 5 + ringShadow r) 64 then .cleared (fromShadow s rctxFields r (ringShadow r))
    else .failed ((ringQueues s r).foldl (fun t q => queueError t q 0x05 0) s)
  | .keyCache k => if redone then .cleared s else .failed (loseSlot s k)
  | .ternary t i => .failed (loseTern s t i)
  | .lpm t => .failed (if s.rd FT_TABLE.kind t = 2 then s.wr FT_TABLE.faulted 1 t else s)
  | .flit link entry =>
    let s := { s with abc := { s.abc with retrain := if s.abc.retrain.contains link then s.abc.retrain else s.abc.retrain ++ [link] } }
    .failed (match entry with
      | none => s
      | some (q, n) => faultEntry s q n)

/-- The object exists. -/
def detectable (s : State) : Detection → Bool
  | .line l => memExists s (l * 64)
  | .parked n => decide (n < s.trn.parked.length)
  | .context n => (chipCtx s n).isSome
  | _ => true

/-- The replays of a flit are counted: all 8 where it is lost, and else as many as it took, which the spec leaves open (R785,
R895). -/
def countReplays (s : State) (place : Detection) (pass : Bool) : State :=
  match place with
  | .flit _ _ => if pass then pmc (freeWord s).2 0x001 0 (1 + (freeWord s).1 % 8) none else pmc s 0x001 0 8 none
  | _ => s

/-- DETECTION_REREAD: a detection code has fired and the second read, or a replay of the flit, passes or fails; then the
owner recomputes, and `redone` tells whether the copy that it recomputes from was good (R275, R278 to R280, R895). -/
def execDetectionReread (place : Detection) (pass redone : Bool) (s : State) : Out :=
  run s fun s =>
    if !detectable s place then s
    else
      let s := countReplays s place pass
      if pass then detRecomputed s else settle (objectFailed s redone place)

/-- FABRIC_LINK_RETRAIN_END: a fabric link returns to service, and law 2 is checked for it again (R268). -/
def execFabricLinkRetrainEnd (link : Nat) (s : State) : Out :=
  run s fun s => { s with abc := { s.abc with retrain := s.abc.retrain.filter fun x => decide (x ≠ link) } }

end Sys2Proof.Machine
end

