-- ==== Sys2Proof/Machine/Dma.lean ====
section
/-! DEFINITION. The DMA engine: assignment, chains and their instructions, moves and segments, failures and halts (R614 to
R658). -/
namespace Sys2Proof.Machine

/-! ### The end of chains -/

/-- What follows when a channel has returned to IDLE: a relay channel posts a DMA event to its thread (R658). -/
def afterIdle (s0 s : State) (c : Nat) : State :=
  if chState s0 c ≠ chIdle && chState s c = chIdle && isRelayChan s c then dmaEvent s (s.rd DMA_CHAN.thread c) else s

/-- A chain ends with a result, of a pool or a relay channel. -/
def endChannel (s : State) (c r : Nat) : State := afterIdle s (endChain_ s c r) c

/-- A step of a channel that runs: DMA is enabled, the channel is RUNNING, and nothing ends it (R619). -/
def chanReady (s : State) (c : Nat) : Bool :=
  enabled s .dma && decide (c < 256) && decide (chState s c = chRunning) && (chan s c).ending.isNone && !(chan s c).fetching

/-! ### Block fetches (R627, R628, R650, R651) -/

/-- The fetch of the block at an address begins; the slot shows 7 until it is complete. -/
def fetchBlock (s : State) (c a : Nat) (space ats : Bool) : State :=
  let s := ((setChState s c chRunning).wr DMA_CHAN.block a c).wr DMA_CHAN.slot 7 c
  let s := updChan (handBack s c) c fun x => { x with
    space := space, ats := ats, fetching := true, blkBytes := 0, blkRetries := 0 }
  if space then s else issueRead s (chanFn s c) (.chainBlock c)

/-- A failed repetition of a segment or a fetch: repeated, or the channel halts (R650, R652). -/
def haltChannel (s : State) (c : Nat) : State :=
  let s := raise (dmaCount ((((faultTaken s (chanFn s c)).wr DMA_HALTQ.channel c).wr DMA_HALTQ.result 1).countSat DMA_HALTQ.count) 3 1) 0x160
  if isRelayChan s c then
    updChan ((setChState s c chHalted).wr DMA_CHAN.result 1 c) c fun x => { x with fetching := false }
  else endChannel (updChan s c fun x => { x with move := none }) c 1

/-- A segment or a fetch has failed: it is repeated while retries are left (R650). -/
def retryOrHalt (s : State) (c : Nat) : State :=
  let s := faultTaken s (chanFn s c)
  let n := s.rd DMA_CHAN.retries c
  if s.rd DMA_CFG.retry_max ≤ n then haltChannel s c
  else
    let s := dmaCount (s.wr DMA_CHAN.retries (n + 1) c) 2 1
    let s := updChan s c fun x => { x with blkRetries := x.blkRetries + 1 }
    pmc s 0x601 (c / 64) 1 (some (chanAccount s c))

/-- A block that the channel owns begins to run at slot 0; one that it does not own is waited for (R628, R632). -/
def takeBlock (s : State) (c image : Nat) : State :=
  let s := updChan (s.wr DMA_CHAN.retries 0 c) c fun x => { x with fetching := false }
  if image.testBit 0 then
    let s := ((setChState s c chRunning).wr DMA_CHAN.slot 0 c).wr DMA_CHAN.loop_i 0 c
    let s := { s with dma := { s.dma with fetched := Map.set s.dma.fetched (c / 64) (Map.get s.dma.fetched (c / 64) + 1) } }
    updChan s c fun x => { x with block := some image, wait := .none }
  else updChan (setChState s c chWaiting) c fun x => { x with wait := .link (now s) }

/-- The read of a block is issued again, where the channel goes on with its fetch (R650). -/
def fetchAgain (f : Nat) (s : State) (c : Nat) : State := if (chan s c).fetching then issueRead s f (.chainBlock c) else s

/-- CHAIN_BLOCK_FETCH_DONE: the fetch of a channel's block completes; `ok` and the data are those of a host read (R627,
R628, R650, R651). -/
def execChainBlockFetchDone (c : Nat) (ok : Bool) (data : Bytes) (s : State) : Out :=
  run s fun s =>
    let x := chan s c
    let a := s.rd DMA_CHAN.block c
    if !x.fetching || x.ending.isSome then s
    else if x.space then
      if !rangeExists s a 128 || !internalAllowed s c then endChannel (updChan s c fun y => { y with fetching := false }) c 3
      else if memBad s a 128 then endChannel (updChan (detFailed s) c fun y => { y with fetching := false, fault := faultPlace a }) c 6
      else
        let x := areaLoad s a 128
        takeBlock (chargeLines x.2 c a 128 false) c (ofLe x.1)
    else
      let f := chanFn s c
      if !fnLive s f then s
      else match translateRange s f x.ats a 128 false with
        | .miss p => requestTranslation s f p
        | .fault => fetchAgain f (retryOrHalt (endRead s (.chainBlock c)) c) c
        | .ok _ =>
          let s := endRead s (.chainBlock c)
          let s := pcieActivity s 128 (chanAccount s c)
          if ok then takeBlock s c (ofLe (fitBytes 128 data))
          else fetchAgain f (retryOrHalt s c) c

/-- LINK_POLL: a channel that waits for a block reads it again (R628). -/
def execLinkPoll (c : Nat) (s : State) : Out :=
  run s fun s =>
    match (chan s c).wait with
    | .link t =>
      if enabled s .dma && decide (chState s c = chWaiting) && decide (t + max 100 (s.rd DMA_CFG.poll_ns) ≤ now s) && !(chan s c).fetching then
        let s := updChan (dmaCount s 6 1) c fun x => { x with fetching := true, wait := .link (now s) }
        if (chan s c).space then s else issueRead s (chanFn s c) (.chainBlock c)
      else s
    | _ => s

/-! ### Assignment and entries (R620 to R625) -/

/-- Free pool channels of a group, rising. -/
def freePools (s : State) (g : Nat) : List Nat :=
  ((List.range 64).map fun i => g * 64 + i).filter fun c =>
    decide (s.rd DMA_CHAN.mode c = 0) && decide (chState s c = chIdle) && (chan s c).owner.isNone

/-- The channel that the next entry is assigned to: the lowest free one of the group with the most (R623). -/
def poolChannel (s : State) : Option Nat :=
  ((List.range 4).foldl (fun (best : List Nat) g =>
    let f := freePools s g
    if best.length < f.length then f else best) []).head?

/-- The entries at the head of the dispatch queue that have been decided leave it. -/
def liveDispatch (s : State) : List (Nat × Nat) :=
  s.dma.dispatch.filter fun x => match entryOf s x.1 x.2 with
    | some e => e.outcome.isNone && e.decided.isNone
    | none => false

/-- A START, RESUME or RELEASE on its channel, while DMA is enabled: whether it has ended, and the state (R657). -/
def ccmdAct (s : State) (action c : Nat) : State × Bool :=
  let fin := fun (t : State) (r : Nat) => ((t.wr DMA_CCMD.busy 0).wr DMA_CCMD.result r, true)
  if !isRelayChan s c then fin s 1
  else match action with
    | 0 =>
      if chState s c ≠ chIdle then fin s 1
      else if refuses s (s.rd DMA_CHAN.account c) then fin s 2
      else if !eligible s (s.rd DMA_CHAN.account c) then (s, false)
      else
        let s := (s.wr DMA_CHAN.bytes 0 c).wr DMA_CHAN.retries 0 c
        let s := updChan s c fun _ => { started := true }
        fin (fetchBlock s c (s.rd DMA_CHAN.start_addr c * 128) (s.on DMA_CHAN.space c) (s.on DMA_CHAN.ats c)) 0
    | 1 =>
      if chState s c ≠ chHalted then fin s 1
      else
        let s := setChState (s.wr DMA_CHAN.retries 0 c) c chRunning
        if s.rd DMA_CHAN.slot c = 7 then
          let x := chan s c
          let s := updChan s c fun y => { y with fetching := true }
          fin (if x.space then s else issueRead s (chanFn s c) (.chainBlock c)) 0
        else fin s 0
    | 2 =>
      if chState s c ≠ chHalted then fin s 1
      else fin (endChannel (updChan s c fun x => { x with move := none }) c 1) 0
    | _ => fin s 1

/-- A DMA_CCMD action that waits takes effect once it may (R619, R657). -/
def resumeCcmd (s : State) : State :=
  match s.dma.waitCmd with
  | some (action, c) =>
    if enabled s .dma then
      let r := ccmdAct s action c
      if r.2 then { r.1 with dma := { r.1.dma with waitCmd := none } } else s
    else s
  | none => s

/-- DMA_ASSIGN: the entry at the head of the dispatch queue is assigned to a pool channel; a waiting DMA_CCMD action takes
effect where it may (R619, R623, R657). -/
def execDmaAssign (s : State) : Out :=
  run s fun s =>
    let s := resumeCcmd s
    let s := { s with dma := { s.dma with dispatch := liveDispatch s } }
    match s.dma.dispatch with
    | [] => s
    | (q, sseq) :: rest =>
      match entryOf s q sseq, poolChannel s with
      | some e, some c =>
        if !enabled s .dma || !mayBegin s e || !eligible s (queueAccount s q) then s
        else
          let s := begin_ { s with dma := { s.dma with dispatch := rest } } q sseq
          let s := ((setChState s c chRunning).wr DMA_CHAN.bytes 0 c).wr DMA_CHAN.retries 0 c
          updChan s c fun _ => { owner := some (q, sseq) }
      | _, _ => s

/-- The channel that an entry has been assigned to and not yet begun on. -/
def assigned (s : State) (q sseq op : Nat) : Option (Nat × Entry) :=
  match chanOf s q sseq, entryOf s q sseq with
  | some c, some e => if e.op = op && !(chan s c).started && chanReady s c then some (c, e) else none
  | _, _ => none

/-- The addresses of a move violate R640: internal space where it is not allowed, or an address outside it. -/
def movePerm (s : State) (c : Nat) (m : DmaMove) : Bool :=
  ((m.srcInt || m.dstInt) && !internalAllowed s c) || (m.srcInt && !rangeExists s m.src m.len) || (m.dstInt && !rangeExists s m.dst m.len)

/-- DMA_COPY: an assigned entry runs as one move (R624). -/
def execDmaCopy (q sseq : Nat) (s : State) : Out :=
  run s fun s =>
    match assigned s q sseq 0x50 with
    | none => s
    | some (c, e) =>
      let f := fun i => e.at 0x1C i 1 = 1
      let m : DmaMove := { src := e.at 8 0 64, dst := e.at 0x10 0 64, len := e.at 0x18 0 30, srcInt := f 0, dstInt := f 1,
                           srcAts := f 2, dstAts := f 3, verify := f 4 }
      let s := (updChan s c fun x => { x with started := true, copy := true }).wr DMA_CHAN.slot 0 c
      if movePerm s c m then endChannel s c 3
      else if m.len = 0 then endChannel s c 0
      else updChan s c fun x => { x with move := some m }

/-- DMA_RUN_CHAIN: an assigned entry runs the chain at its address (R625). -/
def execDmaRunChain (q sseq : Nat) (s : State) : Out :=
  run s fun s =>
    match assigned s q sseq 0x51 with
    | none => s
    | some (c, e) =>
      fetchBlock (updChan s c fun x => { x with started := true }) c (e.at 8 0 64) (e.at 0x10 0 1 = 1) (e.at 0x10 1 1 = 1)

/-! ### Instructions (R631, R632, R639) -/

/-- Slot `k` of a block. -/
def slotBits (block k : Nat) : Nat := bitsAt block (128 + 128 * k) 128
/-- The operation of an instruction. -/
def slotOp (x : Nat) : Nat := bitsAt x 0 4

/-- A LOOP, a LINK or an END stands in slots `i` up to `k`, walked instruction by instruction. -/
def rangeBad (block k : Nat) : Nat → Nat → Bool
  | 0, _ => false
  | fuel + 1, i =>
    if k ≤ i then false
    else
      let op := slotOp (slotBits block i)
      op = 0 || op = 2 || op = 6 || rangeBad block k fuel (if op = 1 then i + 2 else i + 1)

/-- The instruction at slot `k` of a block ends its chain BAD_INSTR (R639). -/
def badInstr (block k : Nat) : Bool :=
  let x := slotBits block k
  match slotOp x with
  | 0 => bitsAt x 4 124 ≠ 0
  | 1 => k = 6 || bitsAt x 9 23 ≠ 0 || bitsAt x 57 7 ≠ 0 || 16777216 < bitsAt x 32 25
  | 2 => bitsAt x 7 25 ≠ 0 || bitsAt x 64 64 ≠ 0 || k ≤ bitsAt x 4 3 || bitsAt x 32 32 = 0 || rangeBad block k 8 (bitsAt x 4 3)
  | 3 => bitsAt x 4 2 = 3 || bitsAt x 6 26 ≠ 0 || bitsAt x 32 32 ≠ 0 || (bitsAt x 4 2 = 2 && bitsAt x 96 32 ≠ 0)
  | 4 =>
    let kind := bitsAt x 4 3
    4 ≤ kind || bitsAt x 9 23 ≠ 0 || (kind = 0 && bitsAt x 64 2 ≠ 0) || (kind ≠ 0 && (bitsAt x 48 16 ≠ 0 || bitsAt x 64 64 ≠ 0))
      || (kind = 1 && 255 < bitsAt x 32 16) || (kind = 2 && 511 < bitsAt x 32 16)
  | 5 => bitsAt x 4 124 ≠ 0
  | 6 => bitsAt x 4 3 ≠ 0 || bitsAt x 9 23 ≠ 0 || bitsAt x 32 32 ≠ 0 || bitsAt x 64 7 ≠ 0
  | _ => true

/-- The instruction that a channel is about to execute: its slot and its bits. -/
def chanInstr (s : State) (c : Nat) : Option (Nat × Nat × Nat) :=
  match (chan s c).block with
  | some b =>
    let k := s.rd DMA_CHAN.slot c
    if chanReady s c && (chan s c).move.isNone && decide (k ≤ 6) then some (b, k, slotBits b k) else none
  | none => none

/-- An instruction of an operation, where the channel is about to execute a good one of it. -/
def instrOf (s : State) (c op : Nat) : Option (Nat × Nat) :=
  match chanInstr s c with
  | some (b, k, x) => if slotOp x = op ∧ !badInstr b k then some (k, x) else none
  | none => none

/-- Execution goes on at a slot; past slot 6 the chain ends DONE with slot 6 (R632). -/
def goTo (s : State) (c k : Nat) : State := if 6 < k then endChannel (s.wr DMA_CHAN.slot 6 c) c 0 else s.wr DMA_CHAN.slot k c

/-- END: the chain ends DONE and its block is written back. -/
def execEndChain (c : Nat) (s : State) : Out :=
  run s fun s => match instrOf s c 0 with
    | some _ => endChannel s c 0
    | none => s

/-- BAD_INSTR: a bad instruction ends the chain (R639, R655). -/
def execBadInstr (c : Nat) (s : State) : Out :=
  run s fun s => match chanInstr s c with
    | some (b, k, _) => if badInstr b k then endChannel s c 2 else s
    | none => s

/-- The destination of a move of an entry's chain is one of the entry's destination buffers (R229, R277). -/
def noteDest (s : State) (c : Nat) (m : DmaMove) : State :=
  match (chan s c).owner with
  | none => s
  | some (q, sseq) => updEntry s q sseq fun e => { e with dests := e.dests ++ [⟨m.dst, m.len, m.dstInt, m.dstAts⟩] }

/-- MOVE: a move begins; a move of no bytes is done at once (R634, R640, R641). -/
def execChainMove (c : Nat) (s : State) : Out :=
  run s fun s => match instrOf s c 1 with
    | none => s
    | some (k, x) =>
      let b := ((chan s c).block).getD 0
      let y := slotBits b (k + 1)
      let i : Int := (s.rd DMA_CHAN.loop_i c : Nat)
      let at_ := fun base stride => wrapInt 64 ((base : Int) + i * signed 32 stride)
      let m : DmaMove := { src := at_ (bitsAt x 64 64) (bitsAt y 64 32), dst := at_ (bitsAt y 0 64) (bitsAt y 96 32),
                           len := bitsAt x 32 25, srcInt := bitAt x 4, dstInt := bitAt x 5, srcAts := bitAt x 6,
                           dstAts := bitAt x 7, verify := bitAt x 8 }
      if movePerm s c m then endChannel s c 3
      else if m.len = 0 then goTo s c (k + 2)
      else updChan (noteDest (s.wr DMA_CHAN.retries 0 c) c m) c fun z => { z with move := some m }

/-- LOOP: its range runs again until it has run count times (R635). -/
def execChainLoop (c : Nat) (s : State) : Out :=
  run s fun s => match instrOf s c 2 with
    | none => s
    | some (k, x) =>
      let i := s.rd DMA_CHAN.loop_i c + 1
      if i < bitsAt x 32 32 then (s.wr DMA_CHAN.loop_i i c).wr DMA_CHAN.slot (bitsAt x 4 3) c
      else goTo (s.wr DMA_CHAN.loop_i 0 c) c (k + 1)

/-- A WAIT of a kind holds the channel. -/
def beginWait (s : State) (c : Nat) (w : ChanWait) : State := updChan (setChState s c chWaiting) c fun x => { x with wait := w }

/-- DMA_WAIT_UNTIL: a WAIT of kind 0 (R636). -/
def execDmaWaitUntil (c : Nat) (s : State) : Out :=
  run s fun s => match instrOf s c 3 with
    | some (_, x) => if bitsAt x 4 2 = 0 then beginWait s c (.until (bitsAt x 64 64)) else s
    | none => s

/-- DMA_WAIT_DURATION: a WAIT of kind 1 (R636). -/
def execDmaWaitDuration (c : Nat) (s : State) : Out :=
  run s fun s => match instrOf s c 3 with
    | some (_, x) => if bitsAt x 4 2 = 1 then beginWait s c (.until (now s + bitsAt x 64 64)) else s
    | none => s

/-- DMA_WAIT_SEMAPHORE: a WAIT of kind 2 ends at once with the semaphore above 0, else it holds the channel (R636). -/
def execDmaWaitSemaphore (c : Nat) (s : State) : Out :=
  run s fun s => match instrOf s c 3 with
    | some (k, x) =>
      if bitsAt x 4 2 ≠ 2 then s
      else if s.rd DMA_CHAN.sem c ≠ 0 then goTo (s.wr DMA_CHAN.sem (s.rd DMA_CHAN.sem c - 1) c) c (k + 1)
      else beginWait s c (.semaphore (if bitsAt x 64 32 = 0 then none else some (now s + bitsAt x 64 32)))
    | none => s

/-- A WAIT ends, and the channel goes on behind it. -/
def endWait (s : State) (c : Nat) : State :=
  goTo (updChan (setChState s c chRunning) c fun x => { x with wait := .none }) c (s.rd DMA_CHAN.slot c + 1)

/-- DMA_WAIT_EXPIRY: a WAIT's time is reached, its semaphore has risen above 0, or its timeout ends the chain (R636). -/
def execDmaWaitExpiry (c : Nat) (s : State) : Out :=
  run s fun s =>
    if !enabled s .dma then s
    else match (chan s c).wait with
      | .until t => if decide (t ≤ now s) && !dueBefore s t then endWait (applyFirst .dma t s) c else s
      | .semaphore t =>
        if s.rd DMA_CHAN.sem c ≠ 0 then endWait (s.wr DMA_CHAN.sem (s.rd DMA_CHAN.sem c - 1) c) c
        else match t with
          | some t => if decide (t ≤ now s) && !dueBefore s t then endChannel (applyFirst .dma t s) c 5 else s
          | none => s
      | _ => s

/-- A SIGNAL of a kind, once every earlier move is visible; the reads that this needs are started (R637). -/
def signal (s : State) (c kind : Nat) (act : Nat → State → State) : State :=
  match instrOf s c 4 with
  | none => s
  | some (_, x) =>
    if bitsAt x 4 3 ≠ kind then s
    else if movesVisible s c then act x s
    else flushChan s c

/-- The instruction is done, and the next one follows. -/
def nextInstr (s : State) (c : Nat) : State := goTo s c (s.rd DMA_CHAN.slot c + 1)

/-- SIGNAL_WRITE: 4 bytes are written (R637). -/
def execSignalWrite (c : Nat) (s : State) : Out :=
  run s fun s => signal s c 0 fun x s =>
    let space := bitAt x 7
    let a := bitsAt x 64 64
    if space && (!internalAllowed s c || !rangeExists s a 4) then endChannel s c 3
    else match chanWrite s c space (bitAt x 8) a (leBytes 4 (bitsAt x 32 32)) false with
      | .done t => nextInstr t c
      | .waits t => t
      | .fails => haltChannel s c

/-- The semaphore of a channel is one that a chain may signal (R640). -/
def semAllowed (s : State) (c t : Nat) : Bool :=
  if isRelayChan s t then decide (s.rd DMA_CHAN.pf t = chanFn s c)
  else decide (chState s t ≠ chIdle) && decide (chanFn s t = chanFn s c)

/-- SIGNAL_SEM: a channel's semaphore rises by 1 (R637). -/
def execSignalSem (c : Nat) (s : State) : Out :=
  run s fun s => signal s c 1 fun x s =>
    let t := bitsAt x 32 16
    if semAllowed s c t then nextInstr (s.countSat DMA_CHAN.sem 1 t) c else endChannel s c 3

/-- SIGNAL_THREAD: a DMA event is posted to a relay thread (R637). -/
def execSignalThread (c : Nat) (s : State) : Out :=
  run s fun s => signal s c 2 fun x s =>
    if !isRelayChan s c && decide (chanFn s c ≠ 0) then endChannel s c 3
    else nextInstr (dmaEvent s (bitsAt x 32 16)) c

/-- SIGNAL_MSIX: an MSI-X vector of the channel's function is requested (R637). -/
def execSignalMsix (c : Nat) (s : State) : Out :=
  run s fun s => signal s c 3 fun x s =>
    let v := bitsAt x 32 16
    if vectorCount s (chanFn s c) ≤ v then endChannel s c 3
    else nextInstr (publish s (.vector (chanFn s c) v)) c

/-- DMA_HURDLE: a chain HURDLE ends once every earlier move is visible (R633). -/
def execDmaHurdle (c : Nat) (s : State) : Out :=
  run s fun s => match instrOf s c 5 with
    | some _ => if movesVisible s c then nextInstr s c else flushChan s c
    | none => s

/-- LINK: the block is written back, and the next one fetched (R638, R640). -/
def execChainLink (c : Nat) (s : State) : Out :=
  run s fun s => match instrOf s c 6 with
    | none => s
    | some (k, x) =>
      let space := bitAt x 7
      if space && (!internalAllowed s c || !rangeExists s (bitsAt x 64 64) 128) then endChannel s c 3
      else if !movesVisible s c then flushChan s c
      else match writeBack s c 0 k with
        | .waits t => t
        | .fails => haltChannel s c
        | .done t => fetchBlock t c (bitsAt x 64 64) space (bitAt x 8)

/-! ### Segments (R641 to R652) -/

/-- The length of the next segment of a move: up to the next 4 KiB boundary of its destination (R641). -/
def segmentLen (m : DmaMove) : Nat := min (m.len - m.off) (4096 - (m.dst + m.off) % 4096)

/-- The source and destination of a move overlap and are not equal (R646). -/
def moveOverlaps (m : DmaMove) : Bool :=
  m.srcInt = m.dstInt && m.src ≠ m.dst && decide (m.src < m.dst + m.len) && decide (m.dst < m.src + m.len)

/-- The source bytes of the next segment: from internal memory, or as the host returned them; none where the read fails or
must wait. -/
inductive SegmentRead where
  | data (s : State) (bs : Bytes)
  | waits (s : State)
  | fails
  | bad
deriving DecidableEq, Repr

/-- The source of a segment is read. -/
def readSegment (s : State) (c : Nat) (m : DmaMove) (host : Bytes) : SegmentRead :=
  let n := segmentLen m
  let a := m.src + m.off
  if m.srcInt then
    if memBad s a n then .bad
    else
      let x := areaLoad s a n
      .data (chargeLines x.2 c a n false) x.1
  else
    let f := chanFn s c
    if !fnLive s f then .waits s
    else match translateRange s f m.srcAts a n false with
      | .miss x => .waits (requestTranslation s f x)
      | .fault => .fails
      | .ok ps => .data (pcieActivity (issueReads s f ps) n (chanAccount s c)) (fitBytes n host)

/-- The move of a channel is done: its instruction is done, or its DMA_COPY ends. -/
def endMove (s : State) (c : Nat) : State :=
  let s := updChan s c fun x => { x with move := none }
  match (chan s c).ending with
  | some r => endChannel s c r
  | none => if (chan s c).copy then endChannel s c 0 else goTo s c (s.rd DMA_CHAN.slot c + 2)

/-- A segment that is done is counted (R625, R656). -/
def countSegment (s : State) (c n : Nat) : State :=
  let s := dmaCount (dmaCount (s.count DMA_CHAN.bytes n c) 0 1) 1 n
  let s := updChan (s.wr DMA_CHAN.retries 0 c) c fun x => { x with blkBytes := x.blkBytes + n }
  let s := match (chan s c).owner with
    | some (q, sseq) => updEntry s q sseq fun e => { e with moved := s.rd DMA_CHAN.bytes c }
    | none => s
  pmc s 0x600 (c / 64) n (some (chanAccount s c))

/-- The bytes of the last destination word that a segment holds (R647). -/
def lastWord (m : DmaMove) (bs : Bytes) : Bytes :=
  let stop := m.dst + m.len
  bs.drop (bs.length - (stop - max m.dst ((stop - 1) / 8 * 8)))

/-- The segment's writes have been issued: the move goes on, is verified, or is done; a chain that an abort or a stop has
won against ends here (R641, R647, R653). -/
def segmentWritten (s : State) (c : Nat) (m : DmaMove) (bs : Bytes) : State :=
  let n := segmentLen m
  let s := countSegment s c n
  let m' := { m with off := m.off + n }
  match (chan s c).ending with
  | some r => endChannel (updChan s c fun x => { x with move := none }) c r
  | none =>
    if m'.off < m.len then updChan s c fun x => { x with move := some m' }
    else if m.verify then
      let s := updChan (dmaCount s 4 1) c fun x => { x with move := some { m' with check := true, last := lastWord m bs } }
      if m.dstInt then s else issueRead s (chanFn s c) (.segment c)
    else endMove s c

/-- A segment has failed; a chain that an abort or a stop has won against ends, any other repeats or halts (R650, R653). -/
def segmentFailed (s : State) (c : Nat) : State :=
  match (chan s c).ending with
  | some r => endChannel (updChan s c fun x => { x with move := none }) c r
  | none => retryOrHalt s c

/-- A channel whose next segment may move: the move goes on while DMA is enabled. -/
def movingChan (s : State) (c : Nat) : Option DmaMove :=
  if enabled s .dma && decide (chState s c = chRunning) then ((chan s c).move).filter fun m => !m.check else none

/-- A channel has data to move without an answer of the host: an internal source, and a destination that can be written now.
The data of a host source is there when its command comes. -/
def segReady (s : State) (c : Nat) : Bool :=
  match movingChan s c with
  | none => false
  | some m => m.srcInt && (m.dstInt || (fnLive s (chanFn s c)
      && match translateRange s (chanFn s c) m.dstAts (m.dst + m.off) (segmentLen m) true with
        | .miss _ => false
        | _ => true))

/-- How far a channel stands behind the place at which its group's round robin goes on. -/
def turnDist (s : State) (c : Nat) : Nat := (c + 64 - Map.get s.dma.turns (c / 64)) % 64

/-- The move whose next segment a channel's group serves now: its turn has come among the channels of the group that have data
to move (R617). -/
def servedChan (s : State) (c : Nat) : Option DmaMove :=
  (movingChan s c).filter fun _ => ((List.range 64).map fun i => c / 64 * 64 + i).all fun d =>
    decide (turnDist s c ≤ turnDist s d) || !segReady s d

/-- The turn of a channel's group goes on behind the channel. -/
def passTurn (s : State) (c : Nat) : State :=
  { s with dma := { s.dma with turns := Map.set s.dma.turns (c / 64) ((c + 1) % 64) } }

/-- DMA_SEGMENT_DONE: the next segment of a channel's move is read and its writes are issued; `data` is what the host
returned for a host source. -/
def execDmaSegmentDone (c : Nat) (data : Bytes) (s : State) : Out :=
  run s fun s =>
    match servedChan s c with
    | none => s
    | some m => match readSegment s c m data with
      | .waits t => t
      | .fails => segmentFailed s c
      | .bad => endChannel (updChan (detFailed s) c fun x => { x with move := none, fault := faultPlace m.src }) c 6
      | .data t bs =>
        let x := if moveOverlaps m then freeBytes bs.length t else (bs, t)
        match chanWrite x.2 c m.dstInt m.dstAts (m.dst + m.off) x.1 true with
        | .waits u => { s with hif := u.hif }
        | .fails => segmentFailed s c
        | .done u => segmentWritten (passTurn u c) c m bs

/-- DMA_SEGMENT_FAIL: a host request of a segment ends in an error (R649, R650). -/
def execDmaSegmentFail (c : Nat) (s : State) : Out :=
  run s fun s => match movingChan s c with
    | some m => if m.srcInt && m.dstInt then s else segmentFailed s c
    | none => s

/-- The last segment of a move is to be repeated: its bytes no longer count as completed. -/
def undoLast (s : State) (c : Nat) (m : DmaMove) : State :=
  let start := max m.dst ((m.dst + m.len - 1) / 4096 * 4096)
  let n := m.dst + m.len - start
  let s := updChan (s.wr DMA_CHAN.bytes (s.rd DMA_CHAN.bytes c - n) c) c fun x => { x with
    blkBytes := x.blkBytes - n, move := some { m with off := m.len - n, check := false } }
  match (chan s c).owner with
  | some (q, sseq) => updEntry s q sseq fun e => { e with moved := s.rd DMA_CHAN.bytes c }
  | none => s

/-- The last word of a move as its read-back finds it: read from internal memory, or as the host returned it (R647). -/
def lastRead (s : State) (c : Nat) (m : DmaMove) (data : Bytes) : Bytes × State :=
  let n := m.last.length
  if m.dstInt then
    let x := areaLoad s (m.dst + m.len - n) n
    (x.1, chargeLines x.2 c (m.dst + m.len - n) n false)
  else (fitBytes n data, endRead s (.segment c))

/-- VERIFY_READBACK_DONE: the read-back of a move completes and is compared; `ok` and `data` are those of a host read
(R647, R648). -/
def execVerifyReadbackDone (c : Nat) (ok : Bool) (data : Bytes) (s : State) : Out :=
  run s fun s =>
    match (chan s c).move with
    | none => s
    | some m =>
      if !m.check || chState s c ≠ chRunning || !enabled s .dma then s
      else if m.dstInt && memBad s (m.dst + m.len - m.last.length) m.last.length then
        endChannel (updChan (detFailed s) c fun x => { x with move := none, fault := faultPlace m.dst }) c 6
      else
        let x := lastRead s c m data
        let good := m.dstInt || ok
        if good && x.1 = m.last then endMove x.2 c
        else
          let s := if good then dmaCount x.2 5 1 else x.2
          segmentFailed (undoLast s c m) c

/-! ### DMA_CCMD and registers (R615, R619, R656, R657) -/

/-- A DMA_CCMD write with go = 1 (R619, R656, R657). -/
def ccmd (who : Initiator) (action : Nat) (s : State) : State :=
  setupWrite DMA_CCMD.go 0 1 who s fun s =>
    if s.on DMA_CCMD.busy then s.wr (lockedWriteField .dma) 1
    else
      let s := s.wr DMA_CCMD.action action
      let c := s.rd DMA_CCMD.channel
      let wait := fun t : State => { t.wr DMA_CCMD.busy 1 with dma := { t.dma with waitCmd := some (action, c) } }
      if !enabled s .dma then wait s
      else
        let r := ccmdAct s action c
        if r.2 then r.1 else wait s

/-- START: a relay channel's chain is started. -/
def execChainStart (who : Initiator) (s : State) : Out := run s (ccmd who 0)
/-- RESUME: a halted relay channel repeats its failed segment or fetch. -/
def execChainResume (who : Initiator) (s : State) : Out := run s (ccmd who 1)
/-- RELEASE: a halted relay channel writes back its block and returns to IDLE. -/
def execChainRelease (who : Initiator) (s : State) : Out := run s (ccmd who 2)

/-- DMA_CHAN_WRITE: mode, pf and account of a channel are written while it is IDLE; a write of the values in effect leaves
them as they are (R615, R967). -/
def execDmaChanWrite (who : Initiator) (c value : Nat) (s : State) : Out :=
  run s fun s => setupWrite DMA_CHAN.mode c value who s fun s =>
    if 256 ≤ c then s
    else if chState s c ≠ chIdle then
      (if bitsAt value 0 2 = s.rd DMA_CHAN.mode c ∧ bitsAt value 2 3 = s.rd DMA_CHAN.pf c
          ∧ bitsAt value 8 12 = s.rd DMA_CHAN.account c then s
       else s.wr (lockedWriteField .dma) 1)
    else ((s.wr DMA_CHAN.mode (bitsAt value 0 2) c).wr DMA_CHAN.pf (bitsAt value 2 3) c).wr DMA_CHAN.account (bitsAt value 8 12) c

/-- DMA_HALTQ_READ: a read returns and clears the count. -/
def execDmaHaltqRead (who : Initiator) (s : State) : Out :=
  run s fun s => managed .dma who s fun s =>
    answer (s.wr DMA_HALTQ.count 0)
      (s.rd DMA_HALTQ.channel + (s.rd DMA_HALTQ.result) <<< 8 + (s.rd DMA_HALTQ.count) <<< 24)

/-- FLUSH_READ_COMPLETE: a zero-length read on a link completes, for an entry's writes or for the moves of a chain (R249,
R252, R629). -/
def execFlushReadComplete (link q sseq : Nat) (s : State) : Out :=
  run s fun s =>
    if s.flushes.contains (link, q, sseq) then
      let s := endRead { s with flushes := s.flushes.filter fun x => decide (x ≠ (link, q, sseq)) } (.flush link q sseq)
      if q < 0x10000 then flushedEntry s link q sseq
      else
        let c := q - 0x10000
        let s := updChan s c fun x => { x with links := x.links.filter fun l => decide (l ≠ link) }
        match (chan s c).ending with
        | some r => if movesVisible s c && (chan s c).move.isNone then endChannel s c r else s
        | none => s
    else s

end Sys2Proof.Machine
end

