-- ==== Sys2Proof/Machine/Gating.lean ====
section
/-! DEFINITION. The gating of power domains (R79, R114 to R117). -/
namespace Sys2Proof.Machine

/-- A domain has work, so that it is not switched off, or wakes at once after a switch-off that has begun: a thread of a
relay core is not STOPPED, a cluster has a core whose domain is not off, a cipher core holds a job, a port is enabled on a
lane, or a pipeline group has a used stage. -/
def domainBusy (s : State) (d : Nat) : Bool :=
  if d < 64 then (List.range 8).any fun i => decide (s.rd RLY_THCTX.state (8 * d + i) ≠ 0)
  else if d < 72 then (List.range 8).any fun i => decide (domainState s (8 * (d - 64) + i) ≠ .off)
  else if d < 96 then (coreUnit s (d - 72)).isSome
  else if d < 108 then !s.hif.d3AllG6
  else if d < 112 then (quadPorts s (d - 108)).any fun p => s.on PP_PORT.enable p
  else if d < 120 then (List.range 3).any fun i => stageUsed s ((d - 112) / 4) (3 * ((d - 112) % 4) + i)
  else true

/-- Automatic gating of a domain's kind is on (R114). -/
def gateOn (s : State) (d : Nat) : Bool :=
  if d < 72 then s.on NRG_CTL.gate_rly else decide (d < 96) && s.on NRG_CTL.gate_cip

/-- DOMAIN_IDLE_OFF: an idle domain that is gated begins to switch off; a cluster at once when its last core is off (R79,
R114). -/
def execDomainIdleOff (domain : Nat) (s : State) : Out :=
  run s fun s =>
    let idle := (decide (64 ≤ domain) && decide (domain < 72)) || idleLongEnough s domain
    if domainState s domain = .on && gateOn s domain && !domainBusy s domain && idle then setDomain s domain .switchingOff else s

/-- DOMAIN_OFF_COMPLETE: the switch-off sequence runs to the off state; work that has arrived meanwhile wakes the domain
(R116). -/
def execDomainOffComplete (domain : Nat) (s : State) : Out :=
  run s fun s =>
    if domainState s domain ≠ .switchingOff then s
    else
      let s := setDomain s domain .off
      if domain < 120 && domainBusy s domain then wakeDomain s domain else s

/-- DOMAIN_WAKE: work for an off domain wakes it (R115).  GDDR6 and Ethernet domains wake only at the events of R79: their
device leaves D3hot, a port on their lanes is enabled (R114). -/
def execDomainWake (domain : Nat) (s : State) : Out :=
  run s fun s =>
    if domain < 96 || (decide (domain < 112) && domainBusy s domain) then wakeDomain s domain else s

end Sys2Proof.Machine
end

