-- ==== Sys2Proof/Machine/PairCore.lean ====
section
/-! DEFINITION. The pair states: what entering each brings with it, the publications that wait, the alive output, and the
link (chapter Paired operation). -/
namespace Sys2Proof.Machine

/-- UNPAIRED, the first of the pair states (R906). -/
def pUnpaired : Nat := 0
/-- ACTIVE_MIRRORED. -/
def pMirrored : Nat := 1
/-- ACTIVE_HOLD. -/
def pHold : Nat := 2
/-- ACTIVE_SOLO. -/
def pSolo : Nat := 3
/-- STANDBY_SYNC. -/
def pSync : Nat := 4
/-- STANDBY_MIRRORED. -/
def pStandby : Nat := 5
/-- STANDBY_DETACHED. -/
def pDetached : Nat := 6
/-- PROMOTING. -/
def pPromoting : Nat := 7

/-- The typed pair state changed. -/
def updPair (s : State) (f : PairInt → PairInt) : State := { s with pair := f s.pair }

/-- A write to a function's memory that its function does not take now; it waits, so that no record is lost (R217, R809). -/
def pubStuck (s : State) (p : Publication) : Bool :=
  match p.item with
  | .write f _ _ => !fnLive s f
  | _ => false

/-- The publications that wait no longer take place, in their order (R809, R918). -/
def releasePubs (s : State) : State :=
  let held := fun p : Publication => (pubWaits s && !pubFree s p.need) || pubStuck s p
  (s.pubs.filter fun p => !held p).foldl (fun t p => doPublish t p.item) { s with pubs := s.pubs.filter held }

/-- Nothing sent to a partner is awaited any more: records and reservations. -/
def forgetDeltas (s : State) : State := { s with deltas := [], cip := { s.cip with reserve := [] } }

/-- A device that enters a STANDBY state fetches nothing more (R909, R910). -/
def stopFetching (s : State) : State := (liveQueues s).foldl leaveActive s

/-- What the device held of its own queues and rings gives way to the partner's mirror (R915, R917). -/
def clearMirror (s : State) : State :=
  let s := (liveQueues s).foldl (fun t q =>
    updQueue ((queueInt t q).entries.foldl (fun u e => engineStop u q e) t) q fun x => { x with
      entries := [], pads := [], unflushed := [], accepted := 0, retired := 0 }) s
  let s := (listedMembers s CQ_QUOTA_PF.held).foldl (fun t f => t.wr CQ_QUOTA_PF.held 0 f) s
  let s := (listedMembers s CQ_QUOTA_VF.held).foldl (fun t f => t.wr CQ_QUOTA_VF.held 0 f) s
  updPair { s.wr CQ_POOL_STAT.free CQ_POOL_STAT.free.reset with rings := [], abortReqs := [] } fun p => { p with
    expect := none, entries := [], ops := [], records := [] }

/-- The device enters a pair state (R906, R909, R911, R918). -/
def setPair (s : State) (st : Nat) : State :=
  let s1 := s.wr PAIR_STATUS.state st
  match st with
  | 0 => releasePubs (forgetDeltas s1)
  | 1 => releasePubs s1
  | 2 => updPair s1 fun p => { p with holdTt := now s }
  | 3 => releasePubs { forgetDeltas s1 with pseq := 0 }
  | 4 => clearMirror (stopFetching { forgetDeltas s1 with pubs := [] })
  | 5 => if pairState s = pMirrored then updPair (stopFetching (forgetDeltas s1)) fun p => { p with expect := none } else s1
  | 6 => stopFetching { forgetDeltas s1 with pubs := [] }
  | _ => s1

/-! ### PAIR_ALIVE (R904) -/

/-- PAIR_ALIVE is driven high: the block is enabled, no trip holds, and the watchdog is off or has been restarted in
time. -/
def aliveNow (s : State) : Bool :=
  let w := s.rd PAIR_CFG.alive_wdog_us
  enabled s .pair && !s.nrg.tripped
    && (decide (w = 0) || match s.pair.kickTt with
      | none => false
      | some t => decide (now s < t + w * 1000))

/-- The output follows its condition. -/
def updateAlive (s : State) : State := { s with pins := { s.pins with pairAlive := aliveNow s } }

/-! ### The link (R901, R903, R907, R922) -/

/-- The link stops: link_up falls, PAIR_LINK is raised, and a HANDOVER in progress ends REFUSED. -/
def dropPairLink (s : State) : State :=
  let s := updPair (raise ((s.wr PAIR_STATUS.link_up 0).count PAIR_CNT.count 1 3) 0x220) fun p => { p with
    heard := false, conflict := false }
  if s.pair.handover then
    updPair ((s.wr PAIR_CMD.busy 0).wr PAIR_CMD.result 2) fun p => { p with handover := false }
  else s

/-- The device goes on alone (R907). -/
def goSolo (s : State) : State := raise (setPair s pSolo) 0x222

/-- The link goes down: the mirrored states act by the level of PAIR_ALIVE_IN (R907). -/
def pairLinkDown (s : State) : State :=
  if !s.on PAIR_STATUS.link_up then s
  else
    let s := dropPairLink s
    let alive := s.on PAIR_STATUS.peer_alive
    match pairState s with
    | 1 =>
      if !alive then goSolo s
      else
        let t := raise (setPair s pHold) 0x221
        if s.rd PAIR_CFG.hold_us = 0 then goSolo t else t
    | 3 => forgetDeltas s
    | 4 => if alive then raise (setPair s pDetached) 0x221 else s
    | 5 => if alive then raise (setPair s pDetached) 0x221 else s
    | _ => s

/-- ENABLE.enable of PAIR is set: the device takes the role asked for (R907). -/
def pairEnable (s : State) : State :=
  updateAlive (if pairState s = pUnpaired then setPair s (if s.on PAIR_CFG.role_req then pSolo else pDetached) else s)

/-- ENABLE.enable of PAIR is cleared: the lanes and PAIR_ALIVE return to their inert state (R883, R907). -/
def pairDisable (s : State) : State :=
  updateAlive (setPair (if s.on PAIR_STATUS.link_up then dropPairLink s else s) pUnpaired)

/-! ### HANDOVER (R922) -/

/-- No accepted entry is left anywhere. -/
def allRetired (s : State) : Bool := s.queues.all fun p => p.2.entries.isEmpty

/-- A HANDOVER whose entries have all retired and whose records are all acknowledged is complete. -/
def handoverCheck (s : State) : State :=
  if s.pair.handover && pairState s = pMirrored && allRetired s && s.deltas.isEmpty && s.pubs.isEmpty then
    let s := updPair s fun p => { p with handover := false, sent := p.sent ++ [.handover (s.rd PAIR_STATUS.epoch)] }
    setPair ((s.wr PAIR_CMD.busy 0).wr PAIR_CMD.result 0) pStandby
  else s

end Sys2Proof.Machine
end

