-- ==== Sys2Proof/Machine/HostInterface.lean ====
section
/-! DEFINITION. The host interface: configuration requests, BAR4, tags and timeouts, Bus Master Enable, Function Level
Reset, power states and address translation (chapter Host interface and functions). -/
namespace Sys2Proof.Machine

/-! ### Functions and their events (R792, R814) -/

/-- The functions of the VFs of PF `p`. -/
def vfsOf (s : State) (p : Nat) : List Nat :=
  if s.on HIF_PF_CFG.enable p then
    (List.range (s.rd HIF_PF_CFG.total_vfs p)).map fun n => 8 + s.rd HIF_PF_CFG.vf_first p + n
  else []

/-- A function exists (R792, R794). -/
def fnExists (s : State) (f : Nat) : Bool := (pfOf s f).isSome

/-- HIF_PF_CFG shows the configuration state of PF `p`. -/
def syncPf (s : State) (p : Nat) : State :=
  if p < 8 then
    let x := fnSt s p
    (((s.wr HIF_PF_CFG.bme (flag x.bme) p).wr HIF_PF_CFG.dstate (if x.d3 then 3 else 0) p).wr HIF_PF_CFG.flr (flag x.flr)
      p).wr HIF_PF_CFG.ats_en (flag x.atsEn) p
  else s

/-- A change of a function's configuration state, as HIF_PF_CFG shows it. -/
def setFn (s : State) (f : Nat) (g : FnState → FnState) : State := syncPf (updFn s f g) f

/-- An event pushed into HIF_EVQ (R814). -/
def hifEvent (s : State) (f ev : Nat) : State :=
  raise (((s.wr HIF_EVQ.function f).wr HIF_EVQ.event ev).countSat HIF_EVQ.count) 0x1C0

/-- Every pending vector of a function that may launch does (R774, R810). -/
def launchAll (s : State) (f : Nat) : State :=
  (s.hif.msix.filter fun p => decide (p.1 / 4096 = f)).foldl (fun t p => launchPending t f (p.1 % 4096)) s

/-! ### Configuration requests and BAR4 (R790, R798) -/

/-- The completion status of a configuration request: 0 successful, 2 Configuration Request Retry Status. -/
def cfgDone (s : State) (st : Nat) : State := answer s st

/-- The effect of a configuration write on a function. -/
def configWrite (s : State) (f : Nat) : ConfigOp → State
  | .read => s
  | .msix en mask => launchAll (updFn s f fun x => { x with msixEn := en, fnMask := mask }) f
  | .timeout us => updFn s f fun x => { x with ctoUs := if us = 0 then 50000 else us }
  | .tagBits b => updFn s f fun x => { x with tagBits := b }
  | .transfer p r => updFn s f fun x => { x with
      payload := if p = 128 ∨ p = 256 ∨ p = 512 then p else x.payload
      readReq := if r = 128 ∨ r = 256 ∨ r = 512 ∨ r = 1024 ∨ r = 2048 ∨ r = 4096 then r else x.readReq }
  | .pmeEn on => updFn s f fun x => { x with pmeEn := on }
  | .atsEn => setFn s f fun x => { x with atsEn := true }
  | .numVfs n => if f < 8 then s.wr HIF_PF_CFG.num_vfs n f else s

/-- CONFIG_REQUEST: Configuration Request Retry Status until the device is ready; then the request completes (R790, R880). -/
def execConfigRequest (fn : Nat) (op : ConfigOp) (s : State) : Out :=
  run s fun s =>
    if s.on DEV_STATUS.crs then cfgDone s 2
    else if fnExists s fn then cfgDone (configWrite s fn op) 0
    else s

/-- Byte `b` of a PF's BAR4 lies in the aperture (R795). -/
def inBar4 (s : State) (p b len : Nat) : Bool :=
  decide (p < 8) && s.on HIF_PF_CFG.enable p && decide (s.rd HIF_PF_CFG.bar4_log2 p ≠ 0)
    && decide (b + len ≤ 2 ^ s.rd HIF_PF_CFG.bar4_log2 p)

/-- The bytes of a BAR4 range that lie in the GDDR6 window. -/
def bar4Inside (s : State) (p b len : Nat) : Nat := min len (g6Size - (s.rd HIF_PF_CFG.g6_off p + b))

/-- The lines that an access of `n` bytes touches, each charged to the device that holds it (R29). -/
def bar4Lines (s : State) (a n : Nat) (write : Bool) : State :=
  (List.range ((a + n + 63) / 64 - a / 64)).foldl (fun t i => g6Access t ((a / 64 + i) * 64) write 0) s

/-- BAR4_ACCESS: a read of `len` bytes, or a write, at a byte of a PF's BAR4 (R798, R878).  A poisoned completion returns no
data; the read answers 2^(8 len) then, a value that no data has. -/
def execBar4Access (pf off len : Nat) (data : Option Bytes) (s : State) : Out :=
  run s fun s =>
    if !inBar4 s pf off len then s
    else
      let a := g6Base + s.rd HIF_PF_CFG.g6_off pf + off
      let n := if g6Down s then 0 else bar4Inside s pf off len
      match data with
      | some bs => if n = 0 then s else memStore (bar4Lines s a n true) a ((fitBytes len bs).take n)
      | none =>
        if n = 0 then answer s 0
        else if memBad s a n then answer (detFailed (bar4Lines s a n false)) (2 ^ (8 * len))
        else answer (bar4Lines s a n false) (ofLe (memLoad s a n))

/-! ### Tags, timeouts and retry (R802 to R807) -/

/-- The completion timeout of a function in ns (R803). -/
def timeoutNs (s : State) (f : Nat) : Nat := (fnSt s f).ctoUs * 1000

/-- The outstanding request with a tag of a port. -/
def reqOf (s : State) (port tag : Nat) : Option Req :=
  s.hif.reqs.find? fun r => decide (r.port = port) && decide (r.tag = tag)

/-- A request has timed out: its period has passed, or an FLR of its function began 90 ms ago (R803, R813). -/
def timedOut (s : State) (r : Req) : Bool :=
  decide (r.tt + timeoutNs s r.fn ≤ now s) || ((fnSt s r.fn).flr && decide ((fnSt s r.fn).flrTt + 90000000 ≤ now s))

/-- The tag of a request is quarantined for four timeout periods at most (R804); one that returned with its link is free
already (R805). -/
def quarantine (s : State) (r : Req) : State :=
  tagCounts { s with hif := { s.hif with
    reqs := s.hif.reqs.filter fun x => decide (x ≠ r)
    quar := if 4096 ≤ r.tag then s.hif.quar
      else s.hif.quar ++ [⟨r.port, r.tag, now s + 4 * timeoutNs s r.fn, (linkOf s r.fn).getD 0⟩] } } r.port

/-- What the failure of a request comes to at the engine that made it, once the host interface has repeated it (R806), or
where the engine's own chapter lays down the repetition (R162, R649). -/
def requestFailed (s : State) (o : ReqOwner) : State :=
  match o with
  | .ringFetch q => (match (queueInt s q).fetch with
    | none => s
    | some fe => fetchFailed (updQueue s q fun x => { x with fetch := none }) q fe)
  | .context n => ctxFetchFailed s n
  | .chainBlock c =>
    let t := retryOrHalt s c
    if (chan t c).fetching then issueRead t (chanFn t c) (.chainBlock c) else t
  | .segment c => (match (chan s c).move with
    | none => s
    | some m => segmentFailed (if m.check then undoLast s c m else s) c)
  | .translation f page => { s with hif := { s.hif with atcFault := s.hif.atcFault ++ [(f, page)] } }
  | .hostLoad _ => { s with hif := { s.hif with failed := s.hif.failed ++ [o] } }
  | .consumer _ | .flush _ _ _ | .entryRead _ _ | .recovery | .blob _ => s

/-- The engine's own chapter lays down the repetition of a failed request of this owner (R806). -/
def ownRetry : ReqOwner → Bool
  | .ringFetch _ | .chainBlock _ | .segment _ => true
  | _ => false

/-- The failure of a request that has left the list: repeated once with a new tag, or reported (R806); nothing where its
function may issue nothing (R808, R812). -/
def failRequest (s : State) (r : Req) : State :=
  if !fnLive s r.fn then s
  else if ownRetry r.owner || r.again then requestFailed s r.owner
  else issueRead s r.fn r.owner true

/-- COMPLETION_TIMEOUT: the request with a tag of a port times out (R803, R804, R806, R835). -/
def execCompletionTimeout (port tag : Nat) (s : State) : Out :=
  run s fun s =>
    match reqOf s port tag with
    | none => s
    | some r =>
      if timedOut s r then
        failRequest (pmc (raise ((quarantine s r).count HIF_CTO_CNT.count) 0x1C1) 0x901 port 1 none) r
      else s

/-- A quarantined tag becomes free. -/
def freeQuarantine (s : State) (port tag : Nat) : State :=
  tagCounts { s with hif := { s.hif with
    quar := s.hif.quar.filter fun q => !(decide (q.port = port) && decide (q.tag = tag)) } } port

/-- The quarantine of a tag of a port. -/
def quarOf (s : State) (port tag : Nat) : Option Quarantine :=
  s.hif.quar.find? fun q => decide (q.port = port) && decide (q.tag = tag)

/-- LATE_COMPLETION: a completion for a quarantined tag is discarded and frees the tag (R804). -/
def execLateCompletion (port tag : Nat) (s : State) : Out :=
  run s fun s => if (quarOf s port tag).isSome then (freeQuarantine s port tag).count HIF_LATE_CPL.count else s

/-- QUARANTINE_EXPIRY: four timeout periods after the timeout the tag becomes free (R804). -/
def execQuarantineExpiry (port tag : Nat) (s : State) : Out :=
  run s fun s =>
    match quarOf s port tag with
    | none => s
    | some q => if q.freeAt ≤ now s then freeQuarantine s port tag else s

/-! ### Bus Master Enable (R808 to R811) -/

/-- The entry needs an access to host memory to execute (R809). -/
def needsHost (e : Entry) : Bool :=
  e.op = 0x10 || e.op = 0x20 || e.op = 0x21 || e.op = 0x22 || e.op = 0x30 || e.op = 0x31 || e.op = 0x35 || e.op = 0x40
    || (e.op = 0x50 && e.at 0x1C 0 2 ≠ 3) || (e.op = 0x51 && e.at 0x10 0 1 = 0)

/-- Queues that a function owns and that are not DISABLED. -/
def fnQueues (s : State) (f : Nat) : List Nat :=
  (liveQueues s).filter fun q => queueOwned s q && decide (queueFn s q = f)

/-- The entries of a queue that need a host access stop at the end of their atomic units (R809, R815). -/
def stopNeedy (s : State) (q : Nat) : State :=
  retireQueue ((queueInt s q).entries.foldl (fun t e =>
    if needsHost e then stopEntry stAborted stAborted q t e else t) s) q

/-- What a function that loses the right to issue requests does to its queues (R808, R809). -/
def haltQueues (s : State) (f : Nat) : State :=
  (fnQueues s f).foldl (fun t q =>
    stopNeedy (if queueState t q = qActive then setQueueState (leaveActive t q) q qHalted else t) q) s

/-- BME_CLEAR of a function. -/
def execBmeClear (fn : Nat) (s : State) : Out :=
  run s fun s =>
    if (fnSt s fn).bme then hifEvent (haltQueues (setFn s fn fun x => { x with bme := false }) fn) fn 1 else s

/-- What waited for a function that may write again: publications in their order, and ledger records (R123, R809). -/
def resumeWrites (s : State) : State := ledgerRetry (releasePubs s)

/-- BME_SET of a function: pending vectors that are unmasked launch once (R810). -/
def execBmeSet (fn : Nat) (s : State) : Out :=
  run s fun s =>
    if !fnExists s fn || (fnSt s fn).bme then s
    else hifEvent (launchAll (resumeWrites (setFn s fn fun x => { x with bme := true })) fn) fn 2

/-! ### Function Level Reset (R812, R813) -/

/-- The entries of a queue end where they stand: each undecided one is ABORTED (R812, R813). -/
def cutQueue (s : State) (q : Nat) : State :=
  (queueInt s q).entries.foldl (fun t e =>
    if e.decided.isSome then t
    else
      let t := if e.begun then engineStop t q e else t
      updEntry t q e.sseq fun x => { x with
        outcome := none
        decided := some { status := stAborted, bytes := x.moved, tt := now t, hold := inHoldover t } })
    (leaveActive s q)

/-- Relay channels of a PF whose chains have not ended. -/
def relayChans (s : State) (f : Nat) : List Nat :=
  (Map.keys s.dma.chans).filter fun c => isRelayChan s c && decide (chState s c ≠ chIdle) && decide (chanFn s c = f)

/-- The work of a function ends where it stands (R812). -/
def cutFunction (s : State) (f : Nat) : State :=
  let s := setFn s f fun x => { x with flr := true, flrTt := now s }
  let s := (fnQueues s f).foldl cutQueue s
  (relayChans s f).foldl (fun t c => idleChan t c 4) s

/-- The functions that an FLR of a function resets: itself and, for a PF, every VF of its (R812). -/
def flrSet (s : State) (f : Nat) : List Nat := if f < 8 then f :: vfsOf s f else [f]

/-- FLR_START of a function. -/
def execFlrStart (fn : Nat) (s : State) : Out :=
  run s fun s =>
    if !fnExists s fn || (fnSt s fn).flr then s
    else
      let s := (flrSet s fn).foldl cutFunction s
      hifEvent (if fn < 8 then s.wr HIF_PF_CFG.num_vfs 0 fn else s) fn 3

/-- Channels that run entries of a queue are idle. -/
def dropChans (s : State) (q : Nat) : State :=
  ((Map.keys s.dma.chans).filter fun c => ((chan s c).owner.map (·.1)) = some q).foldl (fun t c => idleChan t c 4) s

/-- Every accepted entry of a queue retires without a record, a copy pushed meanwhile is discarded, and the queue becomes
DISABLED; a STOP that waits for it ends (R151, R174, R190, R813). -/
def flrQueue (s : State) (q : Nat) : State :=
  let r := s.rd WQ_CTX.cq_ring q
  let a := queueAccount s q
  let s := leaveActive s q
  let s := (queueInt s q).entries.foldl (fun t e =>
    engineRetired (pmc (releasePlace t r e.place) 0x101 (q / 32) 1 (some a)) q e) s
  let s := dropChans s q
  let s := updQueue s q fun x => { x with
    entries := [], pads := [], unflushed := [], accepted := 0, retired := 0, round := none }
  let s := updRing s r fun x => { x with waiting := x.waiting.filter fun w => decide (w.1 ≠ q) }
  let s := { s with
    flushes := s.flushes.filter fun x => decide (x.2.1 ≠ q)
    dma := { s.dma with dispatch := s.dma.dispatch.filter fun x => decide (x.1 ≠ q) } }
  stopReached (updQueue (setQueueState (clearDeviceFields s q) q qDisabled) q fun x => { x with sbDirty := false }) q

/-- A record ring is reset as under R242, and the records that its backlog holds are discarded (R813). -/
def flrRing (s : State) (r : Nat) : State :=
  let s := (ringInt s r).backlog.foldl (fun t h => vacatePlace t r h.place) s
  let s := ((s.wr CQ_CTX.prod 0 r).wr CQ_CTX.cons_seen 0 r).wr CQ_CTX.promised 0 r
  let s := ((s.wr CQ_CTX.backlog 0 r).wr CQ_CTX.stalled 0 r).wr CQ_CTX.stall_cause 0 r
  deltaRing (updRing s r fun _ => {}) r

/-- Numbers of the connections whose contexts the device can find: on chip, in GDDR6, or written by it to the host tier. -/
def findableConns (s : State) : List Nat :=
  let b := areaBase s 1
  let inMem := (s.mem.filter fun p => decide (b ≤ p.1) && decide (p.1 < b + ctxPlaces s * 256)).map fun p => (p.1 - b) / 256
  let k := hostKey (s.rd TRN_HCTX_CFG.pf) (s.rd TRN_HCTX_BASE.addr)
  let inHost := if s.on TRN_HCTX_CFG.enable then
      (s.hostMem.filter fun p => decide (k ≤ p.1) && decide (p.1 < k + 2 ^ 32)).map fun p => (p.1 - k) / 256
    else []
  (cachedConns s ++ inMem ++ inHost.filter fun n => decide (ctxPlaces s ≤ n)).eraseDups

/-- The context of a connection, wherever the device can find it. -/
def foundCtx (s : State) (n : Nat) : Nat :=
  match knownCtx s n with
  | some x => x
  | none => ofLe (loadBytes s.hostMem (hostKey (s.rd TRN_HCTX_CFG.pf) (s.rd TRN_HCTX_BASE.addr + n * 256)) 256)

/-- Connections of a function that are READY or in ERROR. -/
def fnConns (s : State) (f : Nat) : List Nat :=
  (findableConns s).filter fun n =>
    let x := foundCtx s n
    (ctxState x = 1 || ctxState x = 2) && decide (ctxFn x = f)

/-- A connection is RESET under R468. -/
def flrConn (s : State) (n : Nat) : State :=
  let x := foundCtx s n
  withCtx s n x fun s => putCtx (endConn s n none none) n (closedCtx x 0)

/-- Region blocks that a function owns. -/
def fnRgnBlocks (s : State) (f : Nat) : List Nat :=
  (listedMembers s TRN_RGN_BLOCK.valid).filter fun b => ownerIs (s.rd TRN_RGN_BLOCK.pf b) (s.rd TRN_RGN_BLOCK.is_vf b)
    (s.rd TRN_RGN_BLOCK.vf b) (s.rd TRN_RGN_BLOCK.valid b) f

/-- A VALID region becomes CLOSING with the next generation (R509, R813). -/
def flrRegion (s : State) (i : Nat) : State :=
  let x := rgnImage s i
  if rgnUsable s i && rgnState x = 1 then putRgn s i 0 (putBits (putBits x 0 2 2) 8 10 (rgnGen x + 1)) else s

/-- Key blocks that a function owns. -/
def fnKeyBlocks (s : State) (f : Nat) : List Nat :=
  (listedMembers s CIP_KEY_BLOCK.valid).filter fun b => ownerIs (s.rd CIP_KEY_BLOCK.pf b) (s.rd CIP_KEY_BLOCK.is_vf b)
    (s.rd CIP_KEY_BLOCK.vf b) (s.rd CIP_KEY_BLOCK.valid b) f

/-- Slots in a function's blocks that are not empty. -/
def fnSlots (s : State) (f : Nat) : List Nat :=
  (Map.keys s.cip.slots).filter fun k => (fnKeyBlocks s f).contains (k / 1024)

/-- The ATC entries of a function are discarded (R813, R820). -/
def dropAtc (s : State) (f : Nat) : State :=
  { faultTaken s f with hif := { (faultTaken s f).hif with atc := s.hif.atc.filter fun p => decide (p.1 / 2 ^ 52 ≠ f) } }

/-- Both areas of a VF's mailbox are cleared (R813). -/
def clearMail (s : State) (f : Nat) : State :=
  if f < 8 then s
  else { s with hif := { s.hif with mail := Map.set (Map.set s.hif.mail (2 * (f - 8)) {}) (2 * (f - 8) + 1) {} } }

/-- Every vector of a function is masked and not pending (R813). -/
def clearMsix (s : State) (f : Nat) : State :=
  { s with hif := { s.hif with msix := s.hif.msix.filter fun p => decide (p.1 / 4096 ≠ f) } }

/-- What has not yet been published to a function is discarded (R217, R813). -/
def dropPubs (s : State) (f : Nat) : State :=
  { s with pubs := s.pubs.filter fun p => match p.item with
    | .write g _ _ => decide (g ≠ f)
    | .vector g _ => decide (g ≠ f)
    | .packet _ _ => true }

/-- The GDDR6 domains of R79. -/
def g6Domains : List Nat := (List.range 12).map fun i => 96 + i

/-- Every enabled PF is in D3hot. -/
def allD3 (s : State) : Bool := (List.range 8).all fun p => !s.on HIF_PF_CFG.enable p || (fnSt s p).d3

/-- GDDR6 leaves self-refresh, and its domains wake (R816). -/
def wakeG6 (s : State) : State :=
  if s.hif.d3AllG6 then g6Domains.foldl wakeDomain { s with hif := { s.hif with d3AllG6 := false } } else s

/-- A PF whose reset ends its D3hot returns to D0 with it (R814, R816). -/
def endsD3 (s : State) (f : Nat) : State :=
  if f < 8 && (fnSt s f).d3 then wakeG6 (hifEvent (setFn s f fun _ => {}) f 6) else setFn s f fun _ => {}

/-- The state of a function after its FLR, as the table of R813 lays down. -/
def resetFunction (s : State) (f : Nat) : State :=
  let s := (fnQueues s f).foldl flrQueue s
  let s := ((listedMembers s CQ_CTX.valid).filter fun r => decide (ringFn s r = f)).foldl flrRing s
  let s := dropPubs (dropAtc (clearMail (clearMsix s f) f) f) f
  let s := (fnConns s f).foldl flrConn s
  let s := (fnRgnBlocks s f).foldl (fun t b => (List.range 1024).foldl (fun u j => flrRegion u (b * 1024 + j)) t) s
  let s := (fnSlots s f).foldl (fun t k => writeKey t k 0 0) s
  endsD3 s f

/-- The invocations of a function's key slots have drained (R577, R813). -/
def fnKeysDrained (s : State) (f : Nat) : Bool := (fnSlots s f).all fun k => !boundEarlier s k s.cip.started

/-- No non-posted request of the function is outstanding (R813). -/
def fnQuiet (s : State) (f : Nat) : Bool := s.hif.reqs.all fun r => decide (r.fn ≠ f)

/-- FLR_COMPLETE: once the requests of the function have ended, its state is reset (R813). -/
def execFlrComplete (fn : Nat) (s : State) : Out :=
  run s fun s =>
    if (fnSt s fn).flr && (flrSet s fn).all (fun f => fnQuiet s f && fnKeysDrained s f) then
      hifEvent (endStalls (ledgerRetry ((flrSet s fn).foldl resetFunction s))) fn 4
    else s

/-! ### Power states (R815, R816) -/

/-- D3HOT_ENTRY of a PF. -/
def execD3hotEntry (pf : Nat) (s : State) : Out :=
  run s fun s =>
    if 8 ≤ pf || !fnExists s pf || (fnSt s pf).d3 then s
    else
      let s := hifEvent (setFn s pf fun x => { x with d3 := true }) pf 5
      let s := (pf :: vfsOf s pf).foldl haltQueues s
      if allD3 s then
        g6Domains.foldl (fun t d => setDomain t d .off) { s with hif := { s.hif with d3AllG6 := true } }
      else s

/-- D0_RETURN of a PF: GDDR6 wakes, and pending vectors that are unmasked launch once. -/
def execD0Return (pf : Nat) (s : State) : Out :=
  run s fun s =>
    if 8 ≤ pf || !(fnSt s pf).d3 then s
    else
      let s := hifEvent (setFn s pf fun x => { x with d3 := false }) pf 6
      let s := wakeG6 s
      (pf :: vfsOf s pf).foldl launchAll (resumeWrites s)

/-! ### Address translation (R818 to R820) -/

/-- The key of a cache entry. -/
def atcKey (f page : Nat) : Nat := f * 2 ^ 52 + page

/-- A translation joins the cache; one of the entries gives way when all 32,768 are in use, and which, the spec leaves
open. -/
def fillAtc (s : State) (f page target : Nat) (rd wr : Bool) : State :=
  let x : State := if s.hif.atc.length < 32768 then s
    else match freePick s (Map.keys s.hif.atc) with
      | (some k, t) => { t with hif := { t.hif with atc := Map.set t.hif.atc k {} } }
      | (none, t) => t
  { x with hif := { x.hif with atc := Map.set x.hif.atc (atcKey f page) ⟨target, rd, wr, true⟩ } }

/-- TRANSLATION_RESPONSE: the response to the Translation Request for a page of a function; `ok` is false for an error
(R806, R818). -/
def execTranslationResponse (fn page target : Nat) (rd wr ok : Bool) (s : State) : Out :=
  run s fun s =>
    let o := ReqOwner.translation fn page
    match s.hif.reqs.find? fun r => decide (r.owner = o) with
    | none => s
    | some r =>
      let s := endRead s o
      if !fnLive s fn then s
      else if ok && (rd || wr) && (fnSt s fn).atsEn then fillAtc s fn page target rd wr
      else failRequest s r

/-- INVALIDATE_REQUEST: matching entries are no longer used; the requests of the function that are outstanding hold the
completion back (R819). -/
def execInvalidateRequest (fn itag page pages : Nat) (s : State) : Out :=
  run s fun s =>
    let hit := fun k => decide (atcKey fn page ≤ k) && decide (k < atcKey fn page + pages)
    let mine := s.hif.reqs.filter fun r => decide (r.fn = fn)
    { s with hif := { s.hif with
      atc := s.hif.atc.filter fun p => !hit p.1
      atcFault := s.hif.atcFault.filter fun p => !hit (atcKey p.1 p.2)
      invPending := s.hif.invPending ++ [(fn, itag, mine)] } }

/-- INVALIDATION_COMPLETION: every request that used a matching entry has finished (R819). -/
def execInvalidationCompletion (fn itag : Nat) (s : State) : Out :=
  run s fun s =>
    match s.hif.invPending.find? fun x => decide (x.1 = fn) && decide (x.2.1 = itag) with
    | none => s
    | some x =>
      if x.2.2.any fun r => s.hif.reqs.contains r then s
      else putLink { s with hif := { s.hif with invPending := s.hif.invPending.erase x } } (.invalidationDone fn itag)

/-- ATS_DISABLE: ATS Enable of a function is cleared (R820). -/
def execAtsDisable (fn : Nat) (s : State) : Out :=
  run s fun s => if fnExists s fn then dropAtc (setFn s fn fun x => { x with atsEn := false }) fn else s

/-! ### HIF_EVQ (R814, R832) -/

/-- HIF_EVQ_READ: the count is returned and cleared. -/
def execHifEvqRead (who : Initiator) (s : State) : Out :=
  run s fun s => managed .hif who (answer s 0) fun s =>
    (answer s (s.rd HIF_EVQ.function + s.rd HIF_EVQ.event <<< 13 + s.rd HIF_EVQ.count <<< 24)).wr HIF_EVQ.count 0

end Sys2Proof.Machine
end

