-- ==== Sys2Proof/Machine/Startup.lean ====
section
/-! DEFINITION. Resets, the reset sequence, host links and the SMBus target (chapters Start-up, calibration and
maintenance; Package, pins and electrical). -/
namespace Sys2Proof.Machine

/-! ### Device resets (R873, R948, R957, R958) -/

/-- The pins after a device reset: the inputs as the board drives them, every output inert (R883). -/
def resetPins (p : Pins) : Pins :=
  { p with
    resetN := true, ppsOut := false, ppsSecond := 0, thermAlert := true, thermTrip := true, wakeN := true,
    pairAlive := false, mainRails := true, pme := false }

/-- What a device reset leaves: the fuses, what stands outside the device, and the commands that wait; every other state
is as at reset (R873). -/
def resetBase (s : State) : State :=
  let r := State.reset
  { r with
    pending := s.pending, rdata := s.rdata, links := s.links, hostMem := s.hostMem, fresh := s.fresh
    pins := resetPins s.pins
    hif := { r.hif with perst := s.hif.perst }
    pp := { r.pp with txDone := s.pp.txDone }
    pair := { r.pair with sent := s.pair.sent }
    boot := { r.boot with
      hashes := s.boot.hashes, revoked := s.boot.revoked, svn := s.boot.svn, flags := s.boot.flags, uds := s.boot.uds,
      uartOut := s.boot.uartOut } }

/-- The straps latched (R948, R966). -/
def latchStraps (s : State) (v : Nat) : State :=
  [DEV_STRAP.boot_src, DEV_STRAP.bifur0, DEV_STRAP.bifur1, DEV_STRAP.g6_vddq_sel].foldl
    (fun t d => t.wr d (bitsAt v d.lo d.width)) s

/-- The trip latch survives where VDD_AUX has stayed powered (R119). -/
def tripHeld (s : State) : Bool := s.nrg.tripLatch && (s.pins.mainRails || s.pins.auxRail)

/-- A device reset with a cause: 0 power-on, 1 RESET_N, 2 reboot; a reboot keeps skip (R119, R845, R873). -/
def deviceReset (s : State) (straps cause : Nat) : State :=
  let t := latchStraps (syncFuses (resetBase s)) straps
  let t := (t.wr DEV_RESET_CAUSE.cause cause).wr NRG_STATUS.trip_prior (flag (tripHeld s))
  if cause = 2 then t.wr BOOT_CTL.skip (s.rd BOOT_CTL.skip) else t

/-- DEVICE_RESET: RESET_N rises, after power-up or in service, with the straps as they stand; after a trip only once every
sensor reads below 105 °C, and never while TEST_EN is high (R119, R873, R946, R956, R958). -/
def execDeviceReset (straps : Nat) (cool : Bool) (s : State) : Out :=
  .next (if s.pins.resetN || s.pins.testEn || (s.nrg.tripLatch && !cool) then s
    else deviceReset s straps (if s.pins.mainRails then 1 else 0))

/-- REBOOT: BOOT_CTL.reboot written with 1 (R845, R873, R948). -/
def execReboot (who : Initiator) (straps : Nat) (s : State) : Out :=
  run s fun s => setupWrite BOOT_CTL.phase_req 0 8 who s fun s => deviceReset s straps 2

/-- RESET_N_FALL: RESET_N falls, and the main rails may then be removed; every output is inert (R817, R883, R957, R958). -/
def execResetNFall (railsOff : Bool) (s : State) : Out :=
  .next (
    let pme := if s.pins.resetN then (List.range 8).any fun p => (fnSt s p).pmeEn else s.pins.pme
    { s with pins := { resetPins s.pins with
      resetN := false, mainRails := s.pins.mainRails && !railsOff, pme := pme } })

/-! ### The reset sequence (R875 to R880, R960) -/

/-- Every GDDR6 device has been trained or marked failed. -/
def trainingOver (s : State) : Bool :=
  (List.range 12).all fun d => s.start.trained.contains d || (s.rd DEV_STATUS.g6_fail).testBit d

/-- The steps that R879 names have been performed. -/
def startDone (s : State) : Bool :=
  s.start.pll && s.start.steward && s.start.sram && ([0, 1, 2, 3, 4].all fun g => s.start.serdes.contains g)
    && trainingOver s && (s.start.g6 || g6Down s)

/-- hw_ready becomes 1 once every step is done, and CRS may end (R879, R880, R898). -/
def syncReady (s : State) : State :=
  if startDone s && !s.on DEV_STATUS.hw_ready then
    syncCrs ((s.wr DEV_STATUS.hw_ready 1).wr DEV_STATUS.ready_us (s.tt.ticks * 8 / 1000))
  else s

/-- PLL_LOCK: the PLLs lock, and OSC_IN is recorded (R875, R960). -/
def execPllLock (s : State) : Out :=
  run s fun s =>
    if s.start.pll then s
    else syncReady ({ s with start := { s.start with pll := true } }.wr DEV_CLK_STAT.osc_ok 1)

/-- The bit of DEV_CLK_STAT for a serdes group's reference clock. -/
def serdesClock : Nat → Desc
  | 0 => DEV_CLK_STAT.pcie0
  | 1 => DEV_CLK_STAT.pcie1
  | 2 => DEV_CLK_STAT.eth0
  | 3 => DEV_CLK_STAT.eth1
  | _ => DEV_CLK_STAT.pair

/-- SERDES_CALIBRATED: a serdes group, 0 and 1 PCIe, 2 and 3 Ethernet, 4 Unboken, finishes calibration with its reference
clock present or absent (R875, R960). -/
def execSerdesCalibrated (group : Nat) (present : Bool) (s : State) : Out :=
  run s fun s =>
    if 5 ≤ group || s.start.serdes.contains group || !s.start.pll then s
    else
      let s := { s with start := { s.start with serdes := s.start.serdes ++ [group] } }
      syncReady (s.wr (serdesClock group) (flag present))

/-- The device marks a GDDR6 device failed: the window is disabled, and a ROM that still runs enters RECOVERY (R877,
R878). -/
def g6Failed (s : State) (d : Nat) : State :=
  let s := (s.wr DEV_STATUS.g6_fail (putBit (s.rd DEV_STATUS.g6_fail) d true)).wr DEV_STATUS.hw_fault 1
  if bootPhase s = phRom then enterRecovery s else s

/-- GDDR6_TRAINING_DONE: an attempt on a device ends; the third that fails marks the device (R877, R878). -/
def execGddr6TrainingDone (device : Nat) (pass : Bool) (s : State) : Out :=
  run s fun s =>
    if 12 ≤ device || s.start.trained.contains device || (s.rd DEV_STATUS.g6_fail).testBit device || !s.start.pll then s
    else if pass then
      syncReady { s with start := { s.start with trained := s.start.trained ++ [device] } }
    else
      let n := Map.get s.start.tries device + 1
      let s := { s with start := { s.start with tries := Map.set s.start.tries device n } }
      if 3 ≤ n then syncReady (g6Failed s device) else s

/-- The bytes of a range are 0 with valid codes (R876). -/
def clearRange (s : State) (lo hi : Nat) : State :=
  { s with
    mem := s.mem.filter fun p => !(decide (lo ≤ p.1) && decide (p.1 < hi))
    poison := s.poison.filter fun l => !(decide (lo ≤ l * 64) && decide (l * 64 < hi)) }

/-- Steward memory in global SRAM: 4 MiB (R28). -/
def stewardMemLo : Nat := sramBase + 0x09A00000
/-- Its end. -/
def stewardMemHi : Nat := stewardMemLo + 0x400000

/-- MEMORY_INIT_DONE: a memory finishes initialisation: 0 steward memory, 1 the rest of the SRAM, 2 GDDR6 (R875, R876). -/
def execMemoryInitDone (memory : Nat) (s : State) : Out :=
  run s fun s =>
    if !s.start.pll then s
    else match memory with
      | 0 => if s.start.steward then s
        else syncReady (clearRange { s with start := { s.start with steward := true } } stewardMemLo stewardMemHi)
      | 1 => if s.start.sram then s
        else
          let t := { s with start := { s.start with sram := true } }
          syncReady (clearRange (clearRange t sramBase stewardMemLo) stewardMemHi (sramBase + sramSize))
      | 2 => if s.start.g6 || g6Down s || !trainingOver s then s
        else syncReady (clearRange { s with start := { s.start with g6 := true } } g6Base (g6Base + g6Size))
      | _ => s

/-! ### Host links (R805, R874, R883) -/

/-- A request whose link has gone down gives its tag back (R805). -/
def returnTag (s : State) (r : Req) : State :=
  let k := (s.hif.reqs.foldl (fun n x => max n x.tag) 4095) + 1
  { s with hif := { s.hif with reqs := mapIf (fun x => decide (x = r)) (fun x => { x with tag := k }) s.hif.reqs } }

/-- A host link is down: it leaves the list of links out of Detect, and its tags return (R805). -/
def dropLink (s : State) (link : Nat) : State :=
  let mine := s.hif.reqs.filter fun r => decide (linkOf s r.fn = some link) && decide (r.tag < 4096)
  let s := mine.foldl returnTag s
  tagCounts { s with hif := { s.hif with
    quar := s.hif.quar.filter fun q => decide (q.link ≠ link)
    linksUp := s.hif.linksUp.filter fun l => decide (l ≠ link) } } (link / 4)

/-- PCIE_LINK_DOWN: a host link goes down without PERST_N (R805). -/
def execPcieLinkDown (link : Nat) (s : State) : Out :=
  run s fun s => if s.hif.linksUp.contains link then dropLink s link else s

/-- PCIE_LINK_UP: a host link that the bifurcation provides leaves Detect (R36, R874, R883, R960). -/
def execPcieLinkUp (link : Nat) (s : State) : Out :=
  run s fun s =>
    if s.hif.linksUp.contains link || !(strapLinks s).contains link || Map.get s.hif.perst (link / 4)
        || !s.start.serdes.contains (link / 4) || !s.on (serdesClock (link / 4)) then s
    else { s with hif := { s.hif with linksUp := s.hif.linksUp ++ [link] } }

/-- The functions of the PFs on a port. -/
def portFns (s : State) (port : Nat) : List Nat :=
  ((List.range 8).filter fun p => s.on HIF_PF_CFG.enable p && decide (s.rd HIF_PF_CFG.link p / 4 = port)).flatMap fun p =>
    p :: vfsOf s p

/-- A function is reset without the wait of R813: its requests are dropped with it (R874). -/
def resetAtOnce (s : State) (fs : List Nat) : State :=
  let s := fs.foldl cutFunction s
  let s := { s with hif := { s.hif with reqs := s.hif.reqs.filter fun r => !fs.contains r.fn } }
  let s := fs.foldl resetFunction s
  endStalls (fs.foldl (fun t f => if f < 8 then t.wr HIF_PF_CFG.num_vfs 0 f else t) s)

/-- PERST: PERST_N of a port is asserted, or released (R874). -/
def execPerst (port : Nat) (asserted : Bool) (s : State) : Out :=
  run s fun s =>
    if 2 ≤ port then s
    else
      let s := { s with hif := { s.hif with perst := Map.set s.hif.perst port asserted } }
      if asserted then
        let s := resetAtOnce s (portFns s port)
        ((List.range 4).map fun l => 4 * port + l).foldl dropLink s
      else s

/-! ### The SMBus target (R817, R962) -/

/-- The SMBus target answers reads while the main rails are on (R962). -/
def smbusRead (s : State) (v : Nat) : Out := .next (if s.pins.mainRails then answer s v else s)

/-- SMBUS_READ_TEMPERATURE: command 0x01. -/
def execSmbusReadTemperature (s : State) : Out := smbusRead s (s.rd NRG_THERM_STAT.max_c)

/-- SMBUS_READ_POWER: command 0x02; beads per microsecond are watts. -/
def execSmbusReadPower (s : State) : Out :=
  smbusRead s ((([0, 1, 2].map fun r => s.rd NRG_RAIL_LEG.beads r).foldl (fun a b => a + b) 0) * 10 / max 1 s.nrg.lastUs
    % 0x10000)

/-- SMBUS_READ_STATUS: command 0x03. -/
def execSmbusReadStatus (s : State) : Out :=
  smbusRead s (s.rd DEV_STATUS.hw_ready + s.rd DEV_STATUS.fw_ready * 2 + s.rd DEV_STATUS.hw_fault * 4
    + s.rd DEV_STATUS.crs * 8 + s.rd DEV_STATUS.g6_fail % 16 * 16)

/-- SMBUS_READ_THERMAL: command 0x04. -/
def execSmbusReadThermal (s : State) : Out :=
  smbusRead s (s.rd NRG_STATUS.warn + s.rd NRG_STATUS.throttle * 2 + s.rd NRG_STATUS.critical * 4
    + s.rd NRG_STATUS.trip_prior * 8)

/-- SMBUS_WAKE: command 0x5A with a data byte; 0x01 wakes the board from D3cold (R817, R962). -/
def execSmbusWake (data : Nat) (s : State) : Out :=
  .next (if data = 1 && !s.pins.resetN && !s.pins.mainRails && s.pins.auxRail && s.pins.pme then
    { s with pins := { s.pins with wakeN := false } } else s)

end Sys2Proof.Machine
end

