-- ==== Sys2Proof/Machine/Maintenance.lean ====
section
/-! DEFINITION. Maintenance activities and their arbiter (R884 to R893, R897, R899). -/
namespace Sys2Proof.Machine

/-! ### Activities (R884 to R886) -/

/-- IDLE. -/
def actIdle : Nat := 0
/-- RUNNING. -/
def actRunning : Nat := 1
/-- PAUSED. -/
def actPaused : Nat := 2
/-- PENDING. -/
def actPending : Nat := 3
/-- The state of an activity. -/
def actState (s : State) (a : Nat) : Nat := s.rd MNT_ACT.state a

/-- The activities, in the order of the matrix. -/
def activities : List Nat := [1, 2, 3, 4, 5, 6, 7]

/-- The matrix marks two activities as able to run at the same time (R884). -/
def mayOverlap (a b : Nat) : Bool :=
  [(1, 3), (1, 7), (2, 7), (3, 1), (3, 4), (3, 7), (4, 3), (4, 7), (7, 1), (7, 2), (7, 3), (7, 4)].contains (a, b)

/-- The running activities that an activity conflicts with. -/
def conflictsNow (s : State) (a : Nat) : List Nat :=
  activities.filter fun b => decide (actState s b = actRunning) && !mayOverlap a b

/-- The phase is START or TEST. -/
def startOrTest (s : State) : Bool := decide (bootPhase s = phStart) || decide (bootPhase s = phTest)

/-- The phase and state conditions of an activity hold, for an arg (R886). -/
def actAllowed (s : State) (a arg : Nat) : Bool :=
  match a with
  | 1 | 2 => !g6Down s
  | 5 => startOrTest s && [Blk.wq, .pp, .trn, .blk, .cip, .dma].all fun b => !enabled s b
  | 6 => arg % 2 = 0 || startOrTest s
  | _ => true

/-- ERECAL begins: in mode 1 the static coefficients of the CORE kinds are measured, whose values no rule gives (R893). -/
def beginErecal (s : State) (arg : Nat) : State :=
  let s := { s with mnt := { s.mnt with kSum := [], kLegs := 0, statics := [], applied := 0 } }
  if arg % 2 = 0 then s
  else [0, 1, 2, 5].foldl (fun t k =>
    let x := freeWord t
    { x.2 with mnt := { x.2.mnt with statics := Map.set x.2.mnt.statics k (x.1 % 2 ^ 32 + 1) } }) s

/-- An activity starts with its arg (R885, R899). -/
def startAct (s : State) (a : Nat) : State :=
  let arg := s.rd MNT_ACT.arg a
  let s := { s with mnt := { s.mnt with args := Map.set s.mnt.args a arg } }
  let s := ((s.wr MNT_ACT.state actRunning a).wr MNT_ACT.start_tt (now s) a).wr MNT_ACT.progress 0 a
  let s := s.wr MNT_ACT.fail_code 0 a
  match a with
  | 2 => { s with mnt := { s.mnt with retrain := [] } }
  | 3 => startAudit s
  | 6 => beginErecal s arg
  | _ => s

/-- What a write to MNT_START has come to so far: bits of started, busy_conflict and not_allowed. -/
structure StartBits where
  started : Nat := 0
  busy    : Nat := 0
  denied  : Nat := 0
deriving DecidableEq, Repr

/-- One activity that a write to MNT_START requests (R885, R886, R889). -/
def startOne (x : StartBits × State) (a : Nat) : StartBits × State :=
  let s := x.2
  if !actAllowed s a (s.rd MNT_ACT.arg a) then ({ x.1 with denied := putBit x.1.denied a true }, s)
  else if !(conflictsNow s a).isEmpty || actState s a = actPaused then ({ x.1 with busy := putBit x.1.busy a true }, s)
  else
    let s := { s with mnt := { s.mnt with
      halted := s.mnt.halted.filter fun b => decide (b ≠ a), stopReq := s.mnt.stopReq.filter fun b => decide (b ≠ a) } }
    ({ x.1 with started := putBit x.1.started a true }, startAct s a)

/-- MNT_START written with the start bits [7:1] (R885). -/
def execMntStart (who : Initiator) (bits : Nat) (s : State) : Out :=
  run s fun s => setupWrite MNT_START.start 0 (bits % 256) who s fun s =>
    let x := (activities.filter bits.testBit).foldl startOne ({}, s)
    ((x.2.wr MNT_START.started x.1.started).wr MNT_START.busy_conflict x.1.busy).wr MNT_START.not_allowed x.1.denied

/-- MNT_STOP written with the stop bits [7:1]: the activities named end at their next step boundary (R889). -/
def execMntStop (who : Initiator) (bits : Nat) (s : State) : Out :=
  run s fun s => setupWrite MNT_STOP.stop 0 (bits % 256) who s fun s =>
    let as := activities.filter fun a => bits.testBit a && decide (actState s a ≠ actIdle) && !s.mnt.stopReq.contains a
    { s with mnt := { s.mnt with stopReq := s.mnt.stopReq ++ as } }

/-! ### Automatic starts (R887, R888) -/

/-- A PENDING activity starts once it conflicts with nothing; SCRUB alone in its way enters PAUSED (R887, R888). -/
def tryPending (s : State) (a : Nat) : State :=
  if actState s a ≠ actPending || s.mnt.stopReq.contains a then s
  else match conflictsNow s a with
    | [] => startAct s a
    | [1] => if s.mnt.stopReq.contains 1 then s else startAct (s.wr MNT_ACT.state actPaused 1) a
    | _ => s

/-- SCRUB resumes once nothing runs that it conflicts with (R888). -/
def resumeScrub (s : State) : State :=
  if actState s 1 = actPaused && (conflictsNow s 1).isEmpty then s.wr MNT_ACT.state actRunning 1 else s

/-- An automatic start of an activity is due (R887). -/
def autoDue (s : State) (a : Nat) : Bool :=
  s.on MNT_ACT.auto_en a && decide (actState s a = actIdle) && !s.mnt.halted.contains a
    && decide (s.rd MNT_ACT.end_tt a + s.rd MNT_ACT.period_ms a * 1000000 ≤ now s)

/-- ACTIVITY_AUTO_START: an activity with auto_en starts again, or waits in PENDING (R886 to R888). -/
def execActivityAutoStart (act : Nat) (s : State) : Out :=
  run s fun s =>
    if !activities.contains act || !autoDue s act || !actAllowed s act (s.rd MNT_ACT.arg act) then s
    else if (conflictsNow s act).isEmpty then startAct s act
    else tryPending ((s.wr MNT_ACT.state actPending act).count MNT_ACT.deferrals 1 act) act

/-! ### Ends (R889, R891 to R893) -/

/-- The SRAM outside steward memory is initialised, and the state that it held is as at reset (R28, R892). -/
def reinitSram (s : State) : State :=
  let s := clearRange (clearRange s sramBase stewardMemLo) stewardMemHi (sramBase + sramSize)
  let inCtx := fun (k : Nat) => decide (0x1400000 * 8 ≤ k) && decide (k < 0x1900000 * 8)
  let s := { s with
    regs := s.regs.filter fun p => !inCtx p.1
    queues := [], rings := [], lastQueue := none, pushHeld := 0, abortReqs := [], flushes := []
    pp := { txDone := s.pp.txDone, mirror := s.pp.mirror }
    trn := { opNo := s.trn.opNo }
    ft := {}
    tm := { s.tm with queues := [], sending := [] }
    rly := { s.rly with chans := [], reinject := [], replies := [] } }
  (listedMembers s FT_TABLE.valid).foldl (fun t i => ((t.wr FT_TABLE.valid 0 i).wr FT_TABLE.ready 0 i).wr FT_TABLE.entries 0 i) s

/-- GDDR6 is initialised, and the state that it held is as at reset (R31, R32, R892). -/
def reinitG6 (s : State) : State :=
  let s := clearRange s g6Base (g6Base + g6Size)
  { s with
    cip := { s.cip with slots := [], reserve := [] }
    blk := { s.blk with vols := [], logs := [] }
    tm := { s.tm with meters := [] }
    nrg := { s.nrg with backlog := [] } }

/-- What an activity's end does beside its report. -/
def endEffect (s : State) (a : Nat) : State :=
  match a with
  | 3 => (match s.ft.walk with
    | none => s
    | some (t, c) => releaseWaiting { s with ft := { s.ft with walk := none } } t c)
  | 5 => if (Map.get s.mnt.args 5).testBit 0 then reinitG6 (reinitSram s) else reinitSram s
  | 6 => { s with mnt := { s.mnt with applied := 0 } }
  | _ => s

/-- The devices that G6_RETRAIN has selected: a mask, 0 for every device. -/
def retrainMask (s : State) : Nat :=
  let m := Map.get s.mnt.args 2 % 4096
  if m = 0 then 4095 else m

/-- Steps of a device's retraining (chapter Start-up, calibration and maintenance, the activity table). -/
def retrainSteps : Nat := 64

/-- Lines of the SRAM and GDDR6, each of which a scrub pass reads once. -/
def scrubLines : Nat := sramSize / 64 + g6Size / 64

/-- The work of an activity is over, as far as the device's state tells: SCRUB has read every line, and G6_RETRAIN is
through with every selected device. -/
def actOver (s : State) (a : Nat) : Bool :=
  match a with
  | 1 => decide (scrubLines ≤ s.rd MNT_ACT.progress 1)
  | 2 => (List.range 12).all fun d => !(retrainMask s).testBit d || decide (retrainSteps ≤ Map.get s.mnt.retrain d)
  | 3 => s.ft.walk.isNone
  | 6 => decide (2 ≤ s.mnt.applied)
  | _ => true

/-- The fail code of an activity that ends by itself; 0: PASS (R891 to R893). -/
def failOf (s : State) (a fail : Nat) : Nat :=
  match a with
  | 2 => s.rd MNT_ACT.fail_code 2
  | 6 => if s.mnt.applied = 3 then 1 else 0
  | 4 | 5 => fail % 65536
  | _ => 0

/-- An activity ends with a result and a fail code (R889); one that was PENDING has done no work. -/
def endAct (s : State) (a result code : Nat) : State :=
  let s := if actState s a = actPending then s else endEffect s a
  let s := ((s.wr MNT_ACT.state actIdle a).wr MNT_ACT.result result a).wr MNT_ACT.fail_code code a
  let s := (s.wr MNT_ACT.end_tt (now s) a).count MNT_ACT.runs 1 a
  let s := raise { s with mnt := { s.mnt with stopReq := s.mnt.stopReq.filter fun b => decide (b ≠ a) } } 0x200
  resumeScrub (activities.foldl tryPending s)

/-- ACTIVITY_END: an activity ends by itself with PASS or a fail code, or STOPPED at a step boundary; an audit run
that ends by itself counts in FT_AUDIT_STAT (R402, R889). -/
def execActivityEnd (act fail : Nat) (s : State) : Out :=
  run s fun s =>
    if !activities.contains act || actState s act = actIdle then s
    else if s.mnt.stopReq.contains act then
      endAct { s with mnt := { s.mnt with halted := s.mnt.halted ++ [act] } } act 3 (s.rd MNT_ACT.fail_code act)
    else if actState s act ≠ actRunning || !actOver s act then s
    else
      let c := failOf s act fail
      endAct (if act = 3 then s.count FT_AUDIT_STAT.runs else s) act (if c = 0 then 1 else 2) c

/-! ### Scrubbing (R888, R890, R897) -/

/-- MNT_SCRUB_LOG shows the head of its log. -/
def syncScrub (s : State) : State :=
  match s.mnt.log with
  | [] => (s.wr MNT_SCRUB_LOG.addr 0).wr MNT_SCRUB_LOG.entry_valid 0
  | x :: _ => (s.wr MNT_SCRUB_LOG.addr x).wr MNT_SCRUB_LOG.entry_valid 1

/-- A line that nothing recomputes is logged and reported (R897, R899). -/
def logScrub (s : State) (addr : Nat) : State :=
  let s := if 64 ≤ s.mnt.log.length then s.countSat MNT_SCRUB_LOG.lost
    else syncScrub { s with mnt := { s.mnt with log := s.mnt.log ++ [addr] } }
  raise s 0x201

/-- SCRUB_LINE: SCRUB reads a line; `bad`: both reads fail.  It passes over GDDR6 in self-refresh (R890, R897). -/
def execScrubLine (line : Nat) (bad redone : Bool) (s : State) : Out :=
  run s fun s =>
    if actState s 1 ≠ actRunning || s.mnt.stopReq.contains 1 || !memExists s (line * 64) then s
    else
      let s := s.count MNT_ACT.progress 1 1
      let g6 := decide (g6Base ≤ line * 64)
      if g6 && s.hif.d3AllG6 then s
      else
        let s := if g6 then g6Access s (line * 64) false 0 else sramAccess s 1 0
        if bad || s.poison.contains line then
          let r := lineFailed s line redone
          match r with
          | .none _ => logScrub (settle r) (line * 64)
          | _ => settle r
        else s

/-- SCRUB_LOG_READ: the head of MNT_SCRUB_LOG is returned and removed. -/
def execScrubLogRead (who : Initiator) (s : State) : Out :=
  run s fun s => managed .mnt who (answer s 0) fun s =>
    let v := s.rd MNT_SCRUB_LOG.addr + s.rd MNT_SCRUB_LOG.entry_valid <<< 48 + s.rd MNT_SCRUB_LOG.lost <<< 49
    syncScrub { answer s v with mnt := { s.mnt with log := s.mnt.log.tail } }

/-! ### Retraining (R890, R891) -/

/-- RETRAIN_STEP: a step of G6_RETRAIN on a device; one that fails keeps the training values, is noted, and ends the work on
that device (R891). -/
def execRetrainStep (device : Nat) (ok : Bool) (s : State) : Out :=
  run s fun s =>
    if actState s 2 ≠ actRunning || s.mnt.stopReq.contains 2 || s.hif.d3AllG6 || 12 ≤ device
        || !(retrainMask s).testBit device || retrainSteps ≤ Map.get s.mnt.retrain device then s
    else
      let n := if ok then Map.get s.mnt.retrain device + 1 else retrainSteps
      let s := { s with mnt := { s.mnt with retrain := Map.set s.mnt.retrain device n } }.count MNT_ACT.progress 1 2
      if ok then s else s.wr MNT_ACT.fail_code (device + 1) 2

end Sys2Proof.Machine
end

