-- ==== Sys2Proof/Machine/Migration.lean ====
section
/-! DEFINITION. VF mailboxes and the migration of VFs (chapter Host interface and functions). -/
namespace Sys2Proof.Machine

/-! ### Mailboxes (R821 to R824, R834) -/

/-- The key of an area: the up area carries messages from the VF to its PF. -/
def mailKey (vf : Nat) (up : Bool) : Nat := 2 * vf + flag (!up)
/-- An area of a mailbox. -/
def mailArea (s : State) (vf : Nat) (up : Bool) : MailArea := Map.get s.hif.mail (mailKey vf up)
/-- A change of an area. -/
def updMail (s : State) (vf : Nat) (up : Bool) (f : MailArea → MailArea) : State :=
  { s with hif := { s.hif with mail := Map.upd s.hif.mail (mailKey vf up) f } }

/-- The initiator is the VF of a mailbox. -/
def isVfSide (who : Initiator) (vf : Nat) : Bool := decide (who = .host (8 + vf))
/-- The initiator reaches a VF's mailbox from the PF's side: its PF, or PF 0 or a steward, which reach all of BAR0. -/
def isPfSide (s : State) (who : Initiator) (vf : Nat) : Bool :=
  match who with
  | .host p => p = 0 || (decide (p < 8) && vfInPf s p vf)
  | .steward _ => true
  | .relay _ => false
/-- The initiator writes the message of an area. -/
def isSender (s : State) (who : Initiator) (vf : Nat) (up : Bool) : Bool :=
  if up then isVfSide who vf else isPfSide s who vf
/-- The initiator consumes the message of an area. -/
def isReceiver (s : State) (who : Initiator) (vf : Nat) (up : Bool) : Bool :=
  if up then isPfSide s who vf else isVfSide who vf

/-- A message is outstanding in an area (R822). -/
def mailFull (a : MailArea) : Bool := decide (a.seq ≠ a.ack)

/-- A write ignored under R822 or R823. -/
def mailIgnored (s : State) : State := s.count MBX_CNT.count

/-- MBX_MSGQ shows the head of its log. -/
def syncMsgq (s : State) : State :=
  match s.hif.msgq with
  | [] => (s.wr MBX_MSGQ.vf 0).wr MBX_MSGQ.entry_valid 0
  | v :: _ => (s.wr MBX_MSGQ.vf v).wr MBX_MSGQ.entry_valid 1

/-- The notification toward the PF of a VF: its vector, or an internal source (R824, R835). -/
def notifyPf (s : State) (vf source : Nat) : State :=
  match pfOf s (8 + vf) with
  | none => s
  | some p => if s.on MBX_CFG.route p then raise s source else requestVector s p (s.rd MBX_CFG.vector p)

/-- The notification toward the VF: its vector 0 (R824). -/
def notifyVf (s : State) (vf : Nat) : State := requestVector s (8 + vf) 0

/-- The VF takes its place in MBX_MSGQ; a full log takes no more. -/
def pushMsgq (s : State) (vf : Nat) : State :=
  if 4096 ≤ s.hif.msgq.length then s else syncMsgq { s with hif := { s.hif with msgq := s.hif.msgq ++ [vf] } }

/-- A seq has taken effect in an area (R824). -/
def mailSent (s : State) (vf : Nat) (up : Bool) : State :=
  if up then notifyPf (pushMsgq s vf) vf 0x240 else notifyVf s vf

/-- An ack has taken effect in an area (R824, R835). -/
def mailTaken (s : State) (vf : Nat) (up : Bool) : State := if up then notifyVf s vf else notifyPf s vf 0x241

/-- The offset in BAR0 of a byte of a VF's mailbox. -/
def mailOffset (vf : Nat) (up : Bool) (o : Nat) : Nat := 0x01200000 + vf * 0x200 + (if up then 0 else 0x100) + o

/-- MAILBOX_SEQ_WRITE: the sender of an area writes its seq (R821 to R824). -/
def execMailboxSeqWrite (who : Initiator) (vf : Nat) (up : Bool) (seq : Nat) (s : State) : Out :=
  run s fun s =>
    if 4096 ≤ vf then s
    else if !isSender s who vf up then s
    else barWrite who (mailOffset vf up 0xF4) 4 seq s fun s =>
      let a := mailArea s vf up
      if mailFull a || decide (seq % 65536 ≠ addMod 16 a.ack 1) then mailIgnored s
      else mailSent (updMail s vf up fun a => { a with seq := seq % 65536 }) vf up

/-- MAILBOX_ACK_WRITE: the receiver of an area writes its ack, which must equal seq (R821, R823, R824).  A value that
equals the ack in force changes nothing and notifies nobody. -/
def execMailboxAckWrite (who : Initiator) (vf : Nat) (up : Bool) (ack : Nat) (s : State) : Out :=
  run s fun s =>
    if 4096 ≤ vf then s
    else if !isReceiver s who vf up then s
    else barWrite who (mailOffset vf up 0xF8) 4 ack s fun s =>
      let a := mailArea s vf up
      if ack % 65536 ≠ a.seq then mailIgnored s
      else if !mailFull a then s
      else mailTaken (updMail s vf up fun a => { a with ack := ack % 65536 }) vf up

/-- A write of the message or of len by the sender (R821, R822): `bits` is the place in the image of 240 bytes of data and
1 byte of len. -/
def mailDataWrite (who : Initiator) (vf : Nat) (up : Bool) (off len value : Nat) (s : State) : State :=
  if !isSender s who vf up then s
  else if mailFull (mailArea s vf up) then mailIgnored s
  else updMail s vf up fun a =>
    if off < 0xF0 then { a with data := putBits a.data (8 * off) (8 * min len (0xF0 - off)) value }
    else if off = 0xF0 then { a with len := value % 256 } else a

/-- The 256 bytes of an area. -/
def mailBytes (a : MailArea) : Bytes := leBytes 240 a.data ++ leBytes 4 a.len ++ leBytes 4 a.seq ++ leBytes 8 a.ack

/-- An area read back from its 256 bytes. -/
def mailOfBytes (bs : Bytes) : MailArea := ⟨leAt bs 0 240, leAt bs 0xF0 1, leAt bs 0xF4 2, leAt bs 0xF8 2⟩

/-- MBX_MSGQ_READ: the head is returned and removed. -/
def execMbxMsgqRead (who : Initiator) (s : State) : Out :=
  run s fun s => managed .mbx who (answer s 0) fun s =>
    syncMsgq { answer s (s.rd MBX_MSGQ.vf + s.rd MBX_MSGQ.entry_valid <<< 12) with hif := { s.hif with msgq := s.hif.msgq.tail } }

/-! ### Migration states (R825 to R827, R831) -/

/-- The migration state of a VF. -/
def migOf (s : State) (vf : Nat) : MigState := Map.getD s.hif.mig vf .running

/-- The code of a migration state. -/
def migCode : MigState → Nat
  | .running => 0
  | .draining => 1
  | .quiesced => 2

/-- HIF_MCMD[p].mig_state shows the state of the VF that the page names. -/
def syncMig (s : State) : State :=
  (List.range 8).foldl (fun t p => t.wr HIF_MCMD.mig_state (migCode (migOf t (t.rd HIF_MCMD.vf p))) p) s

/-- The migration state of a VF set. -/
def setMig (s : State) (vf : Nat) (m : MigState) : State :=
  syncMig { s with hif := { s.hif with mig := Map.setD s.hif.mig vf m .running } }

/-- An action of HIF_MCMD[p] ends (R833). -/
def endMcmd (s : State) (p result : Nat) : State := raise ((s.wr HIF_MCMD.busy 0 p).wr HIF_MCMD.result result p) 0x1C2

/-- The initiator reaches page `p` of HIF_MCMD (R796). -/
def reachesMcmd (who : Initiator) (p : Nat) : Bool := isManager who || decide (who = .host p)

/-- A write of go = 1 to HIF_MCMD[p] with an action; `f` carries it out for the VF that the page names. -/
def mcmd (who : Initiator) (p action : Nat) (s : State) (f : Nat → State → State) : State :=
  if 8 ≤ p then s
  else if !reachesMcmd who p then dropAccess s who
  else barWrite who (0x00301000 + p * 0x100) 4 (action <<< 12 + 0x8000) s fun s =>
    if s.on HIF_MCMD.busy p then s.wr (lockedWriteField .hif) 1
    else
      let s := s.wr HIF_MCMD.action action p
      let vf := s.rd HIF_MCMD.vf p
      if vfInPf s p vf then f vf s else endMcmd s p 1

/-- No READ_RESP stream of a function's connections is in progress (R826). -/
def noReadResp (s : State) (f : Nat) : Bool :=
  s.trn.conns.all fun p => decide (ctxFn ((chipCtx s p.1).getD 0) ≠ f) || p.2.ops.all fun o => decide (o.kind ≠ 4)

/-- Every accepted entry of a function has retired. -/
def fnDrained (s : State) (f : Nat) : Bool := (fnQueues s f).all fun q => (queueInt s q).entries.isEmpty

/-- A DRAINING VF with nothing left becomes QUIESCED, and its FREEZE ends (R826). -/
def quiesceCheck (s : State) (vf : Nat) : State :=
  if migOf s vf = .draining && fnDrained s (8 + vf) && noReadResp s (8 + vf) then
    let s := setMig s vf .quiesced
    match Map.get s.hif.freezeBy vf with
    | 0 => s
    | p + 1 => endMcmd { s with hif := { s.hif with freezeBy := Map.set s.hif.freezeBy vf 0 } } p 0
  else s

/-- Every VF under migration is looked at. -/
def quiesceAll (s : State) : State := (Map.keys s.hif.mig).foldl quiesceCheck s

/-- FREEZE: the VF's ACTIVE and FROZEN queues become MIGRATING, and the VF drains (R825, R826). -/
def freezeVf (s : State) (p vf : Nat) : State :=
  if migOf s vf ≠ .running then endMcmd s p 1
  else
    let s := (fnQueues s (8 + vf)).foldl (fun t q =>
      let st := queueState t q
      if st = qActive ∨ st = qFrozen then
        updQueue (setQueueState (leaveActive t q) q qMigrating) q fun x => { x with preFreeze := st }
      else t) s
    let s := setMig (s.wr HIF_MCMD.busy 1 p) vf .draining
    quiesceCheck { s with hif := { s.hif with
      freezeAt := Map.set s.hif.freezeAt vf (now s + 1), freezeBy := Map.set s.hif.freezeBy vf (p + 1) } } vf

/-- FREEZE through HIF_MCMD[p]. -/
def execFreeze (who : Initiator) (p : Nat) (s : State) : Out :=
  run s fun s => mcmd who p 0 s fun vf s => freezeVf s p vf

/-- DRAIN_TIMEOUT: drain_us has passed before the VF is QUIESCED; each unretired entry is stopped (R826). -/
def execDrainTimeout (vf : Nat) (s : State) : Out :=
  run s fun s =>
    match Map.get s.hif.freezeBy vf with
    | 0 => s
    | p + 1 =>
      if decide (migOf s vf = .draining)
          && decide (Map.get s.hif.freezeAt vf + s.rd HIF_MCMD.drain_us p * 1000 ≤ now s + 1) then
        quiesceCheck ((fnQueues s (8 + vf)).foldl (fun t q => retireQueue ((queueInt t q).entries.foldl
          (stopEntry stMigrationFrozen stMigrationFrozen q) t) q) s) vf
      else s

/-- UNFREEZE: each MIGRATING queue returns to the state that it held before the freeze (R236, R831). -/
def unfreezeVf (s : State) (p vf : Nat) : State :=
  if migOf s vf ≠ .quiesced then endMcmd s p 1
  else
    let s := (fnQueues s (8 + vf)).foldl (fun t q =>
      if queueState t q = qMigrating then setQueueState t q (queueInt t q).preFreeze else t) s
    endMcmd (setMig s vf .running) p 0

/-- UNFREEZE through HIF_MCMD[p]. -/
def execUnfreeze (who : Initiator) (p : Nat) (s : State) : Out :=
  run s fun s => mcmd who p 3 s fun vf s => unfreezeVf s p vf

/-! ### The blob (R828, R829) -/

/-- Zeros up to a multiple of 64 bytes. -/
def pad64 (bs : Bytes) : Bytes := bs ++ List.replicate ((64 - bs.length % 64) % 64) 0

/-- Queues of the groups that a function owns, in order. -/
def ownedQueues (s : State) (f : Nat) : List Nat := (groupsOf s f).flatMap fun g => (List.range 32).map fun j => 32 * g + j

/-- Record rings that a function owns, ascending. -/
def ownedRings (s : State) (f : Nat) : List Nat := (listedMembers s CQ_CTX.valid).filter fun r => decide (ringFn s r = f)

/-- The saved context of a queue: its state field holds the state before the freeze. -/
def savedQueue (s : State) (q : Nat) : Nat :=
  let x := contextImage s qctxFields q
  if queueState s q = qMigrating then putBits x WQ_CTX.state.lo WQ_CTX.state.width (queueInt s q).preFreeze else x

/-- The saved part of a ring: its context and its backlog, oldest first. -/
def savedRing (s : State) (r : Nat) : Bytes :=
  leBytes 64 (contextImage s rctxFields r) ++ (ringInt s r).backlog.flatMap fun h => leBytes 32 h.image

/-- The image of an MSI-X table entry. -/
def msixImage (e : MsixEntry) : Nat := e.addr + e.data <<< 64 + (flag e.mask) <<< 96

/-- The MSI-X section: the table, and the pending-bit array. -/
def savedMsix (s : State) (f : Nat) : Bytes :=
  let n := vectorCount s f
  (List.range n).flatMap (fun v => leBytes 16 (msixImage (msixEntry s f v)))
    ++ leBytes (ceilDiv n 64 * 8) ((List.range n).foldl (fun x v => x + (flag (msixEntry s f v).pending) <<< v) 0)

/-- Connections of a function that are not FREE, ascending. -/
def ownedConns (s : State) (f : Nat) : List Nat :=
  ((findableConns s).filter fun n =>
    let x := foundCtx s n
    ctxState x ≠ 0 && decide (ctxFn x = f)).mergeSort

/-- Volumes of a function. -/
def ownedVols (s : State) (f : Nat) : List Nat :=
  (Map.keys s.blk.vols).filter fun v => volValid (volRecord s v) && decide (volFn (volRecord s v) = f)

/-- The key section in clear. -/
def savedKeys (s : State) (f : Nat) : Bytes :=
  (fnKeyBlocks s f).flatMap fun b => (List.range 1024).flatMap fun j => leBytes 128 (slotImage s (b * 1024 + j))

/-- The sections between the header and the keys. -/
def savedBody (s : State) (vf : Nat) : Bytes :=
  let f := 8 + vf
  let cs := ownedConns s f
  let vs := ownedVols s f
  (ownedQueues s f).flatMap (fun q => leBytes 64 (savedQueue s q)) ++ (ownedRings s f).flatMap (savedRing s)
    ++ savedMsix s f ++ mailBytes (mailArea s vf true) ++ mailBytes (mailArea s vf false)
    ++ pad64 (cs.flatMap (leBytes 4)) ++ cs.flatMap (fun n => leBytes 256 (foundCtx s n))
    ++ pad64 (vs.flatMap (leBytes 2)) ++ vs.flatMap (fun v => leBytes 64 (volRecord s v))
    ++ (fnRgnBlocks s f).flatMap (fun b => (List.range 1024).flatMap fun j => leBytes 64 (rgnImage s (b * 1024 + j)))

/-- The header of a blob; `keys` is 1 for wrapped keys and 2 for keys omitted. -/
def blobHeader (s : State) (vf keys total : Nat) : Bytes :=
  let f := 8 + vf
  leBytes 4 1 ++ leBytes 4 vf ++ leBytes 8 (now s) ++ leBytes 2 (groupsOf s f).length ++ leBytes 2 (ownedRings s f).length
    ++ leBytes 4 (ownedConns s f).length ++ leBytes 2 (fnRgnBlocks s f).length ++ leBytes 2 (fnKeyBlocks s f).length
    ++ leBytes 4 ((ownedVols s f).length + keys <<< 16) ++ leBytes 8 total ++ leBytes 24 0

/-- Bytes of a blob. -/
def blobLength (s : State) (vf : Nat) : Nat :=
  64 + (savedBody s vf).length + 131072 * (fnKeyBlocks s (8 + vf)).length + 16 + 8

/-- The nonce of the key section (R829). -/
def wrapNonce (seq vf : Nat) : Bytes := leBytes 4 seq ++ leBytes 4 vf ++ leBytes 4 0

/-- The wrapping slot of page `p` is a slot of PF 0's blocks that wraps under AES-256-GCM (R829). -/
def wrapUsable (s : State) (k : Nat) : Bool :=
  slotUsable s k && slotOwned s k 0 && decide (slotMode (slotImage s k) = 2) && !slotEsp (slotImage s k)

/-- What asking for the wrapping slot's count comes to: the state, and whether the keys are wrapped; none while a
reservation is to be acknowledged (R580, R829, R916). -/
def wrapCount (s : State) (p : Nat) : Option (State × Bool) :=
  let k := s.rd HIF_MCMD.wrap_slot p
  if !s.on HIF_MCMD.wrap_en p || !wrapUsable s k then some (s, false)
  else match takeCount s k with
    | .taken t => some (t, true)
    | .refused t => some (t, false)
    | .waits _ => none

/-- The key section with its tag. -/
def keySection (s : State) (p vf : Nat) (wrapped : Bool) (header : Bytes) : Bytes :=
  let plain := savedKeys s (8 + vf)
  if wrapped then
    let key := slotKey (slotImage s (s.rd HIF_MCMD.wrap_slot p))
    let nonce := wrapNonce (s.rd HIF_MCMD.seq p) vf
    let text := aeadText 2 key nonce plain
    fitBytes plain.length text ++ fitBytes 16 (aeadTag 2 key nonce header text)
  else List.replicate (plain.length + 16) 0

/-- A blob without its commit word. -/
def blobBody (s : State) (p vf : Nat) (wrapped : Bool) : Bytes :=
  let header := blobHeader s vf (if wrapped then 1 else 2) (blobLength s vf)
  header ++ savedBody s vf ++ keySection s p vf wrapped header

/-- The state after the attempt for the wrapping count that waits for the partner's acknowledgement. -/
def wrapWaits (s : State) (p : Nat) : State :=
  match takeCount s (s.rd HIF_MCMD.wrap_slot p) with
  | .waits t => t
  | _ => s

/-- SAVE: the blob is written through PF p, its commit word last; `ok` is false when a write fails (R828, R833). -/
def saveVf (s : State) (p vf : Nat) (ok : Bool) : State :=
  if migOf s vf ≠ .quiesced then endMcmd s p 1
  else
    let n := blobLength s vf
    let s := s.wr HIF_MCMD.blob_len n p
    if s.rd HIF_MCMD.len p < n then endMcmd s p 4
    else match wrapCount s p with
      | none => wrapWaits s p
      | some (t, wrapped) =>
        if !ok || !fnLive t p then endMcmd t p 5
        else
          let body := blobBody t p vf wrapped
          let a := t.rd HIF_MCMD.addr p
          let u := hostWrite (pcieBytes t p n 0) p a body
          endMcmd (hostWrite u p (a + body.length) (leBytes 8 (commitWord (t.rd HIF_MCMD.seq p) body))) p 0

/-- SAVE through HIF_MCMD[p]. -/
def execSave (who : Initiator) (p : Nat) (ok : Bool) (s : State) : Out :=
  run s fun s => mcmd who p 1 s fun vf s => saveVf s p vf ok

/-! ### RESTORE (R830, R831) -/

/-- The sections of a blob, parted. -/
structure Blob where
  header  : Bytes
  queues  : List Bytes
  rings   : List (Bytes × List Bytes)
  msix    : Bytes
  mail    : Bytes
  conns   : List (Nat × Bytes)
  vols    : List (Nat × Bytes)
  regions : Bytes
  keys    : Bytes
  tag     : Bytes
deriving DecidableEq, Repr

/-- `n` pieces of `k` bytes from the front of `bs`. -/
def pieces (n k : Nat) (bs : Bytes) : List Bytes := (List.range n).map fun i => slice bs (i * k) k

/-- The ring sections at the front of some bytes, and what follows them. -/
def takeRings : Nat → Bytes → List (Bytes × List Bytes) × Bytes
  | 0, bs => ([], bs)
  | n + 1, bs =>
    let x := bs.take 64
    let k := bitsAt (ofLe x) CQ_CTX.backlog.lo CQ_CTX.backlog.width
    let r := takeRings n (bs.drop (64 + 32 * k))
    ((x, pieces k 32 (bs.drop 64)) :: r.1, r.2)

/-- Bytes of a padded list of `n` numbers of `k` bytes. -/
def padded (n k : Nat) : Nat := (n * k + 63) / 64 * 64

/-- A blob parted by the counts of its header; `vectors` is the VF's table size. -/
def partBlob (bs : Bytes) (vectors : Nat) : Blob :=
  let groups := leAt bs 0x10 2
  let nr := leAt bs 0x12 2
  let nc := leAt bs 0x14 4
  let nb := leAt bs 0x18 2
  let nk := leAt bs 0x1A 2
  let nv := leAt bs 0x1C 2
  let b1 := bs.drop 64
  let rings := takeRings nr (b1.drop (2048 * groups))
  let b2 := rings.2
  let msixLen := 16 * vectors + ceilDiv vectors 64 * 8
  let b3 := b2.drop msixLen
  let b4 := b3.drop 512
  let b5 := b4.drop (padded nc 4)
  let b6 := b5.drop (256 * nc)
  let b7 := b6.drop (padded nv 2)
  let b8 := b7.drop (64 * nv)
  let b9 := b8.drop (65536 * nb)
  { header := bs.take 64
    queues := pieces (32 * groups) 64 b1
    rings := rings.1
    msix := b2.take msixLen
    mail := b3.take 512
    conns := (List.range nc).map fun i => (leAt b4 (4 * i) 4, slice b5 (256 * i) 256)
    vols := (List.range nv).map fun i => (leAt b6 (2 * i) 2, slice b7 (64 * i) 64)
    regions := b8.take (65536 * nb)
    keys := b9.take (131072 * nk)
    tag := slice b9 (131072 * nk) 16 }

/-- The commit word of a blob verifies (R7, R830). -/
def blobCommitted (bs : Bytes) (seq : Nat) : Bool :=
  let n := leAt bs 0x20 8
  decide (72 ≤ n) && decide (n ≤ bs.length) && decide (leAt bs 0 4 = 1)
    && commitVerifies (leAt bs (n - 8) 8) seq (bs.take (n - 8))

/-- The VF owns what the blob names, and its places are free (R830). -/
def blobFits (s : State) (f : Nat) (bs : Bytes) (b : Blob) : Bool :=
  (fnQueues s f).isEmpty && decide ((groupsOf s f).length = leAt bs 0x10 2) && decide ((ownedRings s f).length = leAt bs 0x12 2)
    && decide ((fnRgnBlocks s f).length = leAt bs 0x18 2) && decide ((fnKeyBlocks s f).length = leAt bs 0x1A 2)
    && b.conns.all (fun c => decide (ctxState (foundCtx s c.1) = 0)) && b.vols.all fun v => !volValid (volRecord s v.1)

/-- A context of 64 bytes written to its fields. -/
def putContext (s : State) (fs : List Desc) (i x : Nat) : State :=
  fs.foldl (fun t d => t.wr d (bitsAt x d.lo d.width) i) s

/-- The owner fields of a function in 16 bits: PF, is_vf and VF. -/
def ownerBits (s : State) (f : Nat) : Nat := if f < 8 then f else (pfOf s f).getD 0 + 8 + (f - 8) <<< 4

/-- A queue restored: MIGRATING, with the state that its UNFREEZE returns it to. -/
def restoreQueue (s : State) (q : Nat) (bs : Bytes) : State :=
  let x := ofLe bs
  let st := bitsAt x WQ_CTX.state.lo WQ_CTX.state.width
  let s := shadowQueue (putContext s qctxFields q x) q
  let s := updQueue s q fun _ => {
    doneSseq := s.rd WQ_CTX.accepted_sseq q, sbHead := s.rd WQ_CTX.done_head q, sbDirty := true, preFreeze := st }
  if st = qActive ∨ st = qFrozen then setQueueState s q qMigrating else deltaQueue s q

/-- One record of a restored backlog takes its place (R211). -/
def restoreHeld (r : Nat) (s : State) (bs : Bytes) : State :=
  let x := ofLe bs
  let place := placeFor s r
  updRing (promisePlace s r) r fun y => { y with backlog := y.backlog ++ [⟨bitsAt x 64 16, x, place⟩] }

/-- A ring restored, owned by the destination VF. -/
def restoreRing (s : State) (f r : Nat) (b : Bytes × List Bytes) : State :=
  let s := putContext s rctxFields r (ofLe b.1)
  let o := ownerBits s f
  let s := ((s.wr CQ_CTX.pf (bitsAt o 0 3) r).wr CQ_CTX.is_vf (bitsAt o 3 1) r).wr CQ_CTX.vf (bitsAt o 4 12) r
  deltaRing (b.2.foldl (restoreHeld r) (updRing ((shadowRing s r).wr CQ_CTX.promised 0 r) r fun _ => {})) r

/-- The MSI-X section restored. -/
def restoreMsix (s : State) (f : Nat) (bs : Bytes) : State :=
  let n := vectorCount s f
  (List.range n).foldl (fun t v =>
    let x := leAt bs (16 * v) 16
    updMsix t f v fun _ => ⟨bitsAt x 0 64, bitsAt x 64 32, bitAt x 96, (leAt bs (16 * n) (ceilDiv n 64 * 8)).testBit v⟩) s

/-- A connection restored, owned by the destination VF. -/
def restoreConn (f : Nat) (s : State) (c : Nat × Bytes) : State :=
  putCtx (updConn s c.1 fun _ => {}) c.1 (ctxPut (ofLe c.2) 0 16 16 (ownerBits s f))

/-- A volume restored, owned by the destination VF. -/
def restoreVol (f : Nat) (s : State) (v : Nat × Bytes) : State :=
  let x := putBits (ofLe v.2) 8 16 (ownerBits s f)
  delta { s with blk := { s.blk with vols := Map.set s.blk.vols v.1 x } } 0x09 v.1 (leBytes 64 x)

/-- The regions of a VF's blocks restored. -/
def restoreRegions (s : State) (f : Nat) (bs : Bytes) : State :=
  let is := (fnRgnBlocks s f).flatMap fun b => (List.range 1024).map fun j => b * 1024 + j
  is.zipIdx.foldl (fun t p =>
    let x := leAt bs (64 * p.2) 64
    if x = rgnImage t p.1 || !rgnUsable t p.1 then t else putRgn t p.1 0 x) s

/-- The key slots of a VF's blocks restored. -/
def restoreKeys (s : State) (f : Nat) (bs : Bytes) : State :=
  let ks := (fnKeyBlocks s f).flatMap fun b => (List.range 1024).map fun j => b * 1024 + j
  ks.zipIdx.foldl (fun t p =>
    let x := leAt bs (128 * p.2) 128
    if x = slotImage t p.1 then t else writeKey t p.1 x 0) s

/-- Every section written into the VF, which is left QUIESCED (R831). -/
def restoreBlob (s : State) (vf : Nat) (b : Blob) (keys : Bytes) : State :=
  let f := 8 + vf
  let s := ((ownedQueues s f).zip b.queues).foldl (fun t p => restoreQueue t p.1 p.2) s
  let s := ((ownedRings s f).zip b.rings).foldl (fun t p => restoreRing t f p.1 p.2) s
  let s := restoreMsix s f b.msix
  let mail := Map.set (Map.set s.hif.mail (mailKey vf true) (mailOfBytes b.mail)) (mailKey vf false)
    (mailOfBytes (b.mail.drop 256))
  let s := { s with hif := { s.hif with mail := mail } }
  let s := b.vols.foldl (restoreVol f) (b.conns.foldl (restoreConn f) s)
  let s := restoreKeys (restoreRegions s f b.regions) f keys
  setMig (dropAtc s f) vf .quiesced

/-- The keys of a blob in clear, with the state after the wrapping slot's count: none when they cannot be unwrapped
(R829, R830). -/
def unwrapKeys (s : State) (p : Nat) (b : Blob) : State × Option Bytes :=
  if leAt b.header 0x1E 2 % 2 = 0 then (s, some (List.replicate b.keys.length 0))
  else match wrapCount s p with
    | none => (wrapWaits s p, none)
    | some (t, false) => (t, none)
    | some (t, true) =>
      let key := slotKey (slotImage t (t.rd HIF_MCMD.wrap_slot p))
      let nonce := wrapNonce (t.rd HIF_MCMD.seq p) (leAt b.header 4 4)
      if fitBytes 16 (aeadTag 2 key nonce b.header b.keys) = b.tag then
        (t, some (fitBytes b.keys.length (aeadText 2 key nonce b.keys)))
      else (t, none)

/-- RESTORE: `data` is what the read of the blob returned, and `ok` false when the read failed (R830, R831, R833). -/
def restoreVf (s : State) (p vf : Nat) (ok : Bool) (data : Bytes) : State :=
  let f := 8 + vf
  let bs := data.take (s.rd HIF_MCMD.len p)
  if !ok || !fnLive s p then endMcmd s p 5
  else if !blobCommitted bs (s.rd HIF_MCMD.seq p) then endMcmd s p 3
  else
    let b := partBlob bs (vectorCount s f)
    if !blobFits s f bs b then endMcmd s p 2
    else match unwrapKeys (pcieActivity s bs.length 0) p b with
      | (t, none) => endMcmd t p 3
      | (t, some keys) => endMcmd (restoreBlob t vf b keys) p 0

/-- RESTORE through HIF_MCMD[p]. -/
def execRestore (who : Initiator) (p : Nat) (ok : Bool) (data : Bytes) (s : State) : Out :=
  run s fun s => mcmd who p 2 s fun vf s => restoreVf s p vf ok data

end Sys2Proof.Machine
end

