-- ==== Sys2Proof/Machine/SetupCommands.lean ====
section
/-! DEFINITION. The commands of setup: writes of registers, of ENABLE, APPLY and APPLY_TIME, and the applications (chapters
Scope and conventions, Host interface and functions). -/
namespace Sys2Proof.Machine

/-! ### ENABLE (R10, R11, R18, R19, R883, R907, R968, R970) -/

/-- What the start of a block brings with it. -/
def blockStarts (b : Blk) (s : State) : State :=
  match b with
  | .dma => resumeCcmd s
  | .pair => pairEnable s
  | .tm => { s with tm := { s.tm with lastRefill := now s } }
  | _ => s

/-- What the stop of a block brings with it: metering ends with NRG, whose allowance is no longer spent while its debt and
the fractions of R89 stay (R970), and PAIR becomes UNPAIRED. -/
def blockStops (b : Blk) (s : State) : State :=
  match b with
  | .nrg => ({ s with nrg := { s.nrg with metering := false, leg := {}, closed := none, short := [] } } : State).wr
      NRG_STATUS.allow_spent 0
  | .pair => pairDisable s
  | _ => s

/-- ENABLE.enable takes a value: a block that its chapter forbids to start stays stopped (R968). -/
def setEnable (b : Blk) (v : Bool) (s : State) : State :=
  if v = enabled s b then s
  else if !v then blockStops b (s.wr (enableField b) 0)
  else if comboOk s b && enableOk s b then blockStarts b (s.wr (enableField b) 1)
  else s.wr (applyRejectField b) 1

/-- ENABLE_WRITE: a block starts or stops (R19, R968). -/
def execEnableWrite (who : Initiator) (b : Blk) (v : Bool) (s : State) : Out :=
  run s fun s => setupWrite (enableField b) 0 (flag v) who s (setEnable b v)

/-- LOCK_SET: the RWL fields of a block become read-only (R17, R18, R19). -/
def execLockSet (who : Initiator) (b : Blk) (s : State) : Out :=
  run s fun s => setupWrite (lockField b) 0 1 who s fun s => if hasLock b then s.wr (lockField b) 1 else s

/-! ### APPLY and APPLY_TIME (R19 to R24) -/

/-- An application is asked for at the next safe point (R19, R23). -/
def askApply (b : Blk) (s : State) : State :=
  if s.applyReq.contains b then s else { s with applyReq := s.applyReq ++ [b] }

/-- The armed application of a block is due: it waits for a safe point (R20, R21). -/
def armedDue (b : Blk) (s : State) : State :=
  if s.armDue.contains b then s else { s with armDue := s.armDue ++ [b] }

/-- The armed application of a block is due no more. -/
def armedOff (b : Blk) (s : State) : State := { s with armDue := s.armDue.filter fun x => decide (x ≠ b) }

/-- APPLY_NOW (R19, R23). -/
def execApplyNow (who : Initiator) (b : Blk) (s : State) : Out :=
  run s fun s => setupWrite (applyNowField b) 0 1 who s (askApply b)

/-- ARM_TIME: a timed application is armed, or takes place at once when its time has passed (R19, R21); with apply_now in
the same write, apply_now takes effect alone (R22). -/
def execArmTime (who : Initiator) (b : Blk) (applyNow : Bool) (s : State) : Out :=
  run s fun s => setupWrite (armTimeField b) 0 1 who s fun s =>
    if applyNow then askApply b s
    else
      let s := s.wr (armTimeField b) 1
      if s.rd (applyTtField b) < now s then armedDue b (s.wr (applyLateField b) 1) else s

/-- DISARM_TIME: the staged writes stay in their bank (R19). -/
def execDisarmTime (who : Initiator) (b : Blk) (s : State) : Out :=
  run s fun s => setupWrite (armTimeField b) 0 0 who s fun s => armedOff b (s.wr (armTimeField b) 0)

/-- APPLY_TIME_WRITE: an armed application moves to the new time (R24). -/
def execApplyTimeWrite (who : Initiator) (b : Blk) (applyTt : Nat) (s : State) : Out :=
  run s fun s => setupWrite (applyTtField b) 0 applyTt who s fun s => armedOff b (s.wr (applyTtField b) applyTt)

/-- ARMED_APPLICATION: the time of an armed application is reached (R20). -/
def execArmedApplication (b : Blk) (s : State) : Out :=
  run s fun s => if s.on (armTimeField b) && decide (s.rd (applyTtField b) ≤ now s) then armedDue b s else s

/-- The block stands at a safe point: at step 1 of a leg boundary for NRG (R971), at a refill boundary for TM (R425), with
neither pipeline draining or copying for PP (R333), and at any step for the others. -/
def atSafePoint (b : Blk) (s : State) : Bool :=
  match b with
  | .nrg => !enabled s .nrg || legDue s
  | .tm => !enabled s .tm || refillDue s
  | .pp => ppSafePoint s
  | _ => true

/-- PP adopts its staging bank, and where it is not rejected its pipelines switch to the new bank (R331 to R333). -/
def ppApply (s : State) : State :=
  let r := s.rd (applyRejectField .pp)
  let t := applyBank .pp (s.wr (applyRejectField .pp) 0)
  if t.on (applyRejectField .pp) then t else switchBanks s (t.wr (applyRejectField .pp) r)

/-- APPLICATION: at a safe point a block adopts its whole staging bank (R13, R16, R19 to R23). -/
def execApplication (b : Blk) (s : State) : Out :=
  run s fun s =>
    if !applyAsked s b || !atSafePoint b s then s
    else match b with
      | .nrg => nrgApply s
      | .pp => ppApply s
      | .tm => if refillDue s then refillAll s else applyBank .tm s
      | _ => applyBank b s

/-! ### The MSI-X window (R797) -/

/-- The function whose MSI-X page holds an offset of BAR0, with the offset in its table, and its vectors. -/
def msixAt (off : Nat) : Option (Nat × Nat) :=
  if 0x2000000 ≤ off ∧ off < 0x2000000 + 8 * 0x9000 then some ((off - 0x2000000) / 0x9000, (off - 0x2000000) % 0x9000)
  else if 0x2100000 ≤ off ∧ off < 0x2100000 + 4096 * 0x1000 then
    some (8 + (off - 0x2100000) / 0x1000, (off - 0x2100000) % 0x1000)
  else none

/-- Where the pending-bit array of a function's page begins. -/
def pbaOffset (f : Nat) : Nat := if f < 8 then 0x8000 else 0x800

/-- A write of some bytes of an MSI-X table; the pending bits are read-only.  A pending vector whose Mask bit it clears
launches its message (R774). -/
def msixWrite (f o len value : Nat) (s : State) : State :=
  if pbaOffset f ≤ o ∨ vectorCount s f ≤ o / 16 then s
  else
    let v := o / 16
    let x := putBits (msixImage (msixEntry s f v)) (o % 16 * 8) (len * 8) value
    launchPending (updMsix s f v fun e => { e with
      addr := bitsAt x 0 64, data := bitsAt x 64 32, mask := x.testBit 96 }) f v

/-! ### REGISTER_WRITE (R8 to R17, R176, R240, R796 to R799, R821, R866, R882, R910, R967, R968) -/

/-- The width and alignment of a host's register access are allowed (R799). -/
def widthOk (who : Initiator) (addr len : Nat) : Bool :=
  match who with
  | .host _ => (decide (len = 4) || decide (len = 8)) && decide (addr % len = 0)
  | _ => true

/-- The initiator reaches the MSI-X page of a function: the function itself, its PF, or whoever reaches all of BAR0
(R796, R797). -/
def reachesMsix (s : State) (who : Initiator) (f off : Nat) : Bool :=
  match who with
  | .host g => reaches who off || decide (g = f) || (decide (g < 8) && ownedByPf s g f)
  | _ => reaches who off

/-- The initiator reaches an offset of BAR0 outside the windows: also a PF its own page of HIF_MCMD (R796). -/
def reachesRegister (who : Initiator) (off : Nat) : Bool :=
  match who with
  | .host g => reaches who off || (decide (g < 8) && decide (0x301000 ≤ off) && decide ((off - 0x301000) / 0x100 = g))
  | _ => reaches who off

/-- An action code that its register's table gives no action: the result that it ends with (R190, R527, R657, R705, R834,
R935). -/
def oddAction (s : State) (r : FieldRef) : State :=
  if r.isField WQ_QCMD.go then
    if s.rd WQ_QCMD.action ≤ 2 then s else s.wr WQ_QCMD.result stInvalid
  else if r.isField DMA_CCMD.go then
    if s.rd DMA_CCMD.action ≤ 2 then s else s.wr DMA_CCMD.result 1
  else if r.isField RLY_TCMD.go then (if s.rd RLY_TCMD.action ≤ 4 then s else s.wr RLY_TCMD.result 1)
  else if r.isField TRN_CCMD.go then
    if s.rd TRN_CCMD.action ≤ 2 then s else s.wr TRN_CCMD.result 3
  else if r.isField HIF_MCMD.go then
    if s.rd HIF_MCMD.action r.i ≤ 3 then s
    else endMcmd s r.i 1
  else if r.isField PAIR_CMD.go then
    if s.rd PAIR_CMD.action ≤ 1 then s else s.wr PAIR_CMD.result 1
  else s

/-- The go bits that a write sets. -/
def goBits (b : Blk) (addr len value : Nat) : List FieldRef :=
  (coveredIn b addr len).filter fun r => r.desc.own && decide (r.desc.acc = .wo) && decide (r.desc.width = 1)
    && decide (mergedValue r addr len value 0 = 1)

/-- The command ports that can stay busy, each by its go and its busy. -/
def busyPorts : List (Desc × Desc) :=
  [(WQ_QCMD.go, WQ_QCMD.busy), (FT_CMD.go, FT_CMD.busy), (TRN_CCMD.go, TRN_CCMD.busy), (DMA_CCMD.go, DMA_CCMD.busy),
   (HIF_MCMD.go, HIF_MCMD.busy), (PAIR_CMD.go, PAIR_CMD.busy)]

/-- A write of go = 1 to a command port that is busy: it is ignored, with the other fields of its bytes (R191, R657). -/
def hitsBusy (s : State) (b : Blk) (addr len value : Nat) : Bool :=
  (goBits b addr len value).any fun r => busyPorts.any fun p => r.isField p.1 && s.on p.2 r.i

/-- What follows a write of some bytes to a block, beside what its fields bring with them; `s0` is the state before. -/
def afterWrite (b : Blk) (addr len value : Nat) (s0 s : State) : State :=
  let s := (goBits b addr len value).foldl oddAction s
  match b with
  | .irq => hostSources s0 (listedMembers s IRQ_SRC.asserted) s
  | .pp => ethPower (if s.regs = s0.regs ∧ s.staged = s0.staged then s else ppPower s)
  | .cq => endStalls s
  | .hif => syncMig s
  | .pair => updateAlive s
  | .tm =>
    (coveredIn .tm addr len).foldl (fun t r =>
      if r.isField TM_GATE_CTL.gate_en then syncGate t r.i
      else if r.isField TM_GATE_CTL.arm && t.on TM_GATE_CTL.arm r.i && decide (mergedValue r addr len value 0 = 0) then
        gateDisarm t r.i
      else t) s
  | .mnt =>
    let on := (coveredIn .mnt addr len).filterMap fun r =>
      if r.isField MNT_ACT.auto_en ∧ mergedValue r addr len value 0 = 1 then some r.i else none
    { s with mnt := { s.mnt with halted := s.mnt.halted.filter fun a => !on.contains a } }
  | _ => s

/-- The steward that runs in supervisor mode, which alone may set fw_ready (R882). -/
def supervisorWrites (s : State) : Initiator → Bool
  | .steward k => !(stewardInt s k).user
  | _ => false

/-- Firmware records STAGE_FAIL in the BOOT_ATTEMPT of the slot that booted; it writes no other code and no other slot
there (R854). -/
def stageFail (who : Initiator) (addr len value : Nat) (s : State) : State :=
  let i := s.rd BOOT_STATUS.source * 2 + s.rd BOOT_STATUS.slot
  let mine := (coveredIn .boot addr len).any fun r =>
    r.isField BOOT_ATTEMPT.code && decide (r.i = i) && decide (mergedValue r addr len value 0 = 13)
  if mine && fromSteward who && phaseRuns s then s.wr BOOT_ATTEMPT.code 13 i else s

/-- A write of some bytes to a block's registers, for an initiator that reaches them. -/
def writeBlock (who : Initiator) (b : Blk) (addr len value : Nat) (s : State) : State :=
  if b = .dev && !((coveredIn .dev addr len).all fun r => !r.isField DEV_CTL.fw_ready) then
    if supervisorWrites s who && decide (value % 2 = 1) then (s.wr DEV_CTL.fw_ready 1).wr DEV_STATUS.fw_ready 1 else s
  else if hitsBusy s b addr len value then s.wr (lockedWriteField b) 1
  else
    let t := afterWrite b addr len value s (blockWrite b addr len value s)
    if b = .boot then stageFail who addr len value t else t

/-- A write of some bytes of BAR0, but for the fields with commands of their own.  A VF's page stands at its place in the
BAR0 of PF 0. -/
def registerWrite (who : Initiator) (addr len value : Nat) (s : State) : State :=
  if !widthOk who addr len then dropAccess s who
  else match msixAt addr with
    | some (f, o) =>
      if reachesMsix s who f addr && !recoveryDrops s who addr then msixWrite f o len value s else dropAccess s who
    | none =>
      if 0x1200000 ≤ addr ∧ addr < 0x1400000 then
        let vf := (addr - 0x1200000) / 0x200
        let o := (addr - 0x1200000) % 0x200
        if !isVfSide who vf && !isPfSide s who vf then dropAccess s who
        else barWrite who addr len value s (mailDataWrite who vf (decide (o < 0x100)) (o % 0x100) len value)
      else match blockOf addr with
        | none => s
        | some b =>
          if 0x1400000 ≤ addr ∧ addr < 0x1800000 then writeQueueContext who ((addr - 0x1400000) / 0x40) (addr % 0x40) len value s
          else if 0x1800000 ≤ addr then writeRingContext who ((addr - 0x1800000) / 0x40) (addr % 0x40) len value s
          else if reachesRegister who addr then barWrite who addr len value s (writeBlock who b addr len value)
          else dropAccess s who

/-- REGISTER_WRITE: a write of `len` bytes at an offset of BAR0, but for the fields that have commands of their own. -/
def execRegisterWrite (who : Initiator) (addr len value : Nat) (s : State) : Out :=
  run s (registerWrite who addr len value)

end Sys2Proof.Machine
end

