-- ==== Sys2Proof/Machine/Outcomes.lean ====
section
/-! DEFINITION. Outcomes that reach their retirement units, scheduled events, and the sweeps of the abacus (R67 to R71, R194
to R199, R268 to R274). -/
namespace Sys2Proof.Machine

/-! ### Outcomes (R193 to R199, R557 to R560, R826, R922) -/

/-- What waits for the retirement of entries looks again: VFs that drain, and a HANDOVER. -/
def afterRetirement (s : State) : State := handoverCheck (quiesceAll s)

/-- An outcome reaches its queue's retirement unit: it decides the status unless one stands already, and may freeze a block
queue. -/
def takeOutcome (s : State) (q : Nat) (e : Entry) (f : Finish) : State :=
  let t := decideEntry s q e f
  if e.decided.isNone then blkOutcome t q e f.status else t

/-- ENTRY_FINISH: an entry's outcome reaches its queue's retirement unit, and decided entries retire in ring order. -/
def execEntryFinish (q sseq : Nat) (s : State) : Out :=
  run s fun s =>
    match entryOf s q sseq with
    | none => s
    | some e => match e.outcome with
      | none => afterRetirement (retireQueue s q)
      | some f => afterRetirement (retireQueue (takeOutcome s q e f) q)

/-! ### Scheduled events (R20, R67 to R71) -/

/-- The next state of an outcome, and the state itself where there is none. -/
def nextOr (s : State) : Out → State
  | .next t => t
  | _ => s

/-- Every armed event whose time has come, the armed applications first (R69). -/
def armaments (s : State) : List (Nat × Armament) :=
  ((Blk.all.filter fun b => armedNow s b && !s.armDue.contains b).map fun b => (s.rd (applyTtField b), .application b))
    ++ dueEvents s

/-- The armed event that fires next: of those whose time has come the one of the lowest time, and among equal times the
first (R67, R69, R70). -/
def dueNext (s : State) : Option (Nat × Armament) :=
  (armaments s).foldl (fun best x => match best with
    | none => some x
    | some y => if x.1 < y.1 then some x else some y) none

/-- An armed event fires. -/
def fireArmed (s : State) : Armament → State
  | .application b => armedDue b s
  | .leg => legBoundary s
  | .refill => refillAll s
  | .gate p => nextOr s (execGateAdoption p s)
  | .timer t => nextOr s (execThreadTimer t s)
  | .wait c => nextOr s (execDmaWaitExpiry c s)

/-- SCHEDULED_EVENT: the next armed event whose time has come fires. -/
def execScheduledEvent (s : State) : Out :=
  run s fun s =>
    match dueNext s with
    | none => s
    | some x => fireArmed s x.2

/-! ### The abacus (R268 to R274) -/

/-- The places of a packet's run of lines, and the lines of the parking buffer in use (R298, R516). -/
def parkedLines (s : State) : Nat :=
  (s.trn.parked ++ s.trn.conns.flatMap fun c => c.2.ready).foldl (fun n p => n + p.lines) 0

/-- The pool slots that the functions hold (R211). -/
def poolHeldSum (s : State) : Nat :=
  ((listedMembers s CQ_QUOTA_PF.held).map fun i => s.rd CQ_QUOTA_PF.held i).sum
    + ((listedMembers s CQ_QUOTA_VF.held).map fun i => s.rd CQ_QUOTA_VF.held i).sum

/-- Law 5 of one shaper, which restarts its count at every check. -/
def checkShaper (s : State) (x : Shaper) : State :=
  if !shaperOn s x then s
  else
    let due := Map.get s.abc.levels x.id + Map.get s.abc.flow x.id
    let s := abcCheck 5 x.id (wrapInt 64 due) (wrapInt 64 (shaperLevel s x)) s
    { s with abc := { s.abc with
      levels := Map.set s.abc.levels x.id (shaperLevel s x), flow := Map.set s.abc.flow x.id 0 } }

/-- Law 4 of one DMA group: the blocks that its channels hold. -/
def blocksHeld (s : State) (g : Nat) : Nat := (s.dma.chans.filter fun p => decide (p.1 / 64 = g) && p.2.block.isSome).length

/-- A host link of a port is up. -/
def portLinked (s : State) (port : Nat) : Bool := s.hif.linksUp.any fun l => decide (l / 4 = port)

/-- The instances of law 2 that may be out of balance: the fabric links that are not at rest, and those found so before. -/
def fabricLinks (s : State) : List Nat :=
  (Map.keys s.abc.fabric ++ (s.abc.open_.filter fun x => decide (x.1 = 2)).map (·.2)).eraseDups

/-- Law 2 of one fabric link, which is suspended while it retrains: the sender's credits, the flits in flight and the
receiver's free places make up its allotment (R268). -/
def checkLink (s : State) (l : Nat) : State :=
  if s.abc.retrain.contains l then s
  else
    let k := Map.get s.abc.fabric l
    abcCheck 2 l (Config.linkCredits l) (Config.linkCredits l + k.flight + k.freed - k.spent) s

/-- ABACUS_SWEEP: every instance of laws 0 to 5, 7 and 8 is checked once, and what is out of balance goes to the abacus log
through its collector (R264 to R271). -/
def execAbacusSweep (s : State) : Out :=
  run s fun s =>
    let s := s.queues.foldl (fun t p => abcCheck 0 p.1 (p.2.accepted - p.2.retired) p.2.entries.length t) s
    let s := abcCheck 1 0 65536 (s.rd CQ_POOL_STAT.free + poolHeldSum s) s
    let s := (fabricLinks s).foldl checkLink s
    let s := abcCheck 3 0 totalLines (freeLineCount s + heldAll s) s
    let s := abcCheck 3 1 32768 (s.trn.parkFree + parkedLines s) s
    let s := (List.range 4).foldl (fun t g => abcCheck 4 g (Map.get t.dma.fetched g - Map.get t.dma.handed g) (blocksHeld t g) t) s
    let s := (allShapers s).foldl checkShaper s
    let s := (List.range 2).foldl (fun t p => if portLinked t p then
      abcCheck 7 p 4096 (t.rd HIF_TAG_STAT.free p + t.rd HIF_TAG_STAT.outstanding p + t.rd HIF_TAG_STAT.quarantined p) t else t) s
    abcDrain ((listedMembers s RLY_CHAN.credits).foldl (fun t c =>
      abcCheck 8 c 16 (t.rd RLY_CHAN.credits c + (Map.get t.rly.chans c).length) t) s)

end Sys2Proof.Machine
end

