-- ==== Sys2Proof/Machine/SetupAccess.lean ====
section
/-! DEFINITION. The setup registers as a core reaches them with its loads and stores: the value that a read returns, what a
read takes away, and what a store brings with it (R8, R35, R719, R723, R796 to R801, R860, R973). -/
namespace Sys2Proof.Machine

/-! ### The capability directory (R800, R801, R973) -/

/-- One entry: id, whether only PF 0 reaches it, offset, and instances. -/
structure DirEntry where
  id    : Nat
  only  : Bool
  off   : Nat
  count : Nat
deriving DecidableEq, Repr

/-- The entries in ascending id. -/
def dirEntries : List DirEntry :=
  [⟨1, false, 0x10000, 1⟩, ⟨2, true, 0x100000, 1⟩, ⟨3, true, 0x200000, 1⟩, ⟨4, false, 0x300000, 1⟩,
   ⟨5, true, 0x400000, 1⟩, ⟨6, true, 0x480000, 1⟩, ⟨7, true, 0x500000, 1⟩, ⟨8, true, 0x600000, 1⟩,
   ⟨9, true, 0x700000, 1⟩, ⟨10, true, 0x800000, 1⟩, ⟨11, true, 0x900000, 1⟩, ⟨12, true, 0xA00000, 1⟩,
   ⟨13, true, 0xB00000, 1⟩, ⟨14, true, 0xC00000, 1⟩, ⟨15, true, 0xD00000, 1⟩, ⟨16, true, 0xE00000, 1⟩,
   ⟨17, true, 0xF00000, 1⟩, ⟨18, true, 0x1000000, 1⟩, ⟨19, true, 0x1100000, 1⟩, ⟨20, true, 0x380000, 1⟩,
   ⟨32, false, 0x1400000, 65536⟩, ⟨33, false, 0x1800000, 16384⟩, ⟨34, false, 0x2000000, 4104⟩, ⟨35, false, 0x1200000, 4096⟩]

/-- The offset of the next entry in ascending order of offset, or the end of BAR0 (R973). -/
def dirEnd (off : Nat) : Nat :=
  dirEntries.foldl (fun best e => if off < e.off ∧ e.off < best then e.off else best) 0x4000000

/-- The connections that R464 allows (R800). -/
def dirConnections (s : State) : Nat := if s.on TRN_HCTX_CFG.enable then 16777215 else ctxPlaces s - 1

/-- The 64-byte header. -/
def dirHeader (s : State) : Bytes :=
  leBytes 4 0x4D584344 ++ leBytes 2 1 ++ leBytes 2 dirEntries.length ++ leBytes 2 0x1600 ++ leBytes 2 0xA2 ++ leBytes 4 0
    ++ leBytes 4 65536 ++ leBytes 4 16384 ++ leBytes 4 (dirConnections s) ++ leBytes 4 4096 ++ leBytes 32 0

/-- One entry of 16 bytes. -/
def dirEntryBytes (e : DirEntry) : Bytes :=
  leBytes 1 e.id ++ leBytes 1 1 ++ leBytes 2 (flag e.only) ++ leBytes 4 e.off ++ leBytes 4 (dirEnd e.off - e.off)
    ++ leBytes 4 e.count

/-- `len` bytes of the directory. -/
def dirRead (s : State) (off len : Nat) : Nat :=
  if off < 0x40 then leAt (dirHeader s) off len
  else match dirEntries[(off - 0x40) / 16]? with
    | none => 0
    | some e => leAt (dirEntryBytes e) (off % 16) len

/-! ### The value of a read -/

/-- A steward in supervisor mode reads the secret registers (R860). -/
def readsSecrets (s : State) (who : Initiator) : Bool := supervisorWrites s who

/-- The remaining slew in whole nanoseconds; what a fraction of one reads as is a free value, the nanosecond below or the one
above (R77). -/
def slewRead (s : State) : Int :=
  let n := s.tt.slew / (nsUnit : Int)
  if s.tt.slew % (nsUnit : Int) = 0 then n else n + ((Config.freeValue s.tt.ticks / 2 % 2 : Nat) : Int)

/-- The value that a field reads as (R8, R14, R77, R95, R102, R431, R860).  Whether REFCLK_TT has edges at this moment (R51) is
free. -/
def fieldRead (who : Initiator) (s : State) (r : FieldRef) : Nat :=
  if r.desc.acc = .wo then 0
  else if r.isField TT_NOW.tt64 then now s
  else if r.isField TT_PHASE_ADJ.slew_ns then wrapInt 32 (slewRead s)
  else if r.isField DEV_CLK_STAT.refclk_tt then Config.freeValue s.tt.ticks % 2
  else if r.isField TM_PORT.open then (if gated s r.i then (gateNow s r.i).1 else 0xFF)
  else if r.isField TM_PORT.entry then (if s.on TM_GATE_CTL.adopted r.i then (gateNow s r.i).2 else 0)
  else if r.isField NRG_STATUS.allow_spent then flag (allowSpent s)
  else if r.isField NRG_ALLOW_USED.used then satNat 0xFFFFFFFF (allowUsed s)
  else if r.isField NRG_ALLOW_USED.debt then satNat 0xFFFFFFFF s.nrg.debt
  else if r.isField NRG_ROD.has_budget then flag (hasBudget s r.i)
  else if r.isField NRG_ROD.leg_est then legEst s r.i
  else if r.isField BOOT_UDS.uds then (if readsSecrets s who && !s.on BOOT_LOCK.uds_lock then s.boot.uds else 0)
  else if r.isField BOOT_SEAL.seal then (if readsSecrets s who && !s.on BOOT_LOCK.seal_lock then r.value s else 0)
  else r.value s

/-- Bits `[lo, lo + w)` of a number laid at bit `k` of a sum of which only the `len` bytes from `off` are kept. -/
def laidAt (k v off len : Nat) : Nat :=
  (if off * 8 ≤ k then v <<< (k - off * 8) else v >>> (off * 8 - k)) % 2 ^ (8 * len)

/-- IRQ_PEND[i] (R787). -/
def irqPend (s : State) (i : Nat) : Nat := (List.range 64).foldl (fun v j => v + s.rd IRQ_SRC.asserted (64 * i + j) <<< j) 0

/-- `len` bytes at an offset of BAR0, for an initiator that reaches them. -/
def registerRead (who : Initiator) (off len : Nat) (s : State) : Nat :=
  if off < 0x10000 then dirRead s off len
  else match msixAt off with
    | some (f, o) =>
      if o < pbaOffset f then
        (if o / 16 < vectorCount s f then bitsAt (msixImage (msixEntry s f (o / 16))) (o % 16 * 8) (len * 8) else 0)
      else
        (List.range (8 * len)).foldl (fun v j =>
          v + (flag (msixEntry s f ((o - pbaOffset f) * 8 + j)).pending) <<< j) 0
    | none =>
      if 0x1200000 ≤ off ∧ off < 0x1400000 then
        let o := (off - 0x1200000) % 0x200
        leAt (mailBytes (mailArea s ((off - 0x1200000) / 0x200) (decide (o < 0x100)))) (o % 0x100) len
      else if 0xD00100 ≤ off ∧ off < 0xD00180 then bitsAt (irqPend s ((off - 0xD00100) / 8)) (off % 8 * 8) (len * 8)
      else match blockOf off with
        | none => 0
        | some b => (coveredIn b off len).foldl (fun v r => v + laidAt (r.desc.key r.i r.j) (fieldRead who s r) off len) 0

/-! ### What a read takes away -/

/-- The register of a field begins at an offset of BAR0: a read there takes the entry that it shows. -/
def pops (d : Desc) (i off : Nat) : Bool := d.key i 0 / 8 = off

/-- The side effect of a read of some bytes, for an initiator that reaches them; `rdata` is no part of it. -/
def readEffect (who : Initiator) (off len : Nat) (s : State) : State :=
  let clears (d : Desc) : Bool := (d.covering off len).isSome
  let after (x : Out) : State := { nextOr s x with rdata := s.rdata }
  if clears TT_NOW.tt64 then after (execTtNowRead who s)
  else if 0x100208 ≤ off && off < 0x100300 && pops TT_TXTS.frac ((off - 0x100200) / 16) off then
    after (execTxtsPop who ((off - 0x100200) / 16) s)
  else if pops DEV_ABC_LOG.tt 0 off then after (execAbacusLogRead who s)
  else if clears WQ_ERRQ.count then after (execWqErrqRead who s)
  else if clears CQ_STALLQ.count then after (execCqStallqRead who s)
  else if clears RLY_STALLQ.count then after (execRlyStallqRead who s)
  else if clears RLY_FAULTQ.count then after (execRlyFaultqRead who s)
  else if clears BLK_FROZENQ.count then after (execBlkFrozenqRead who s)
  else if clears DMA_HALTQ.count then after (execDmaHaltqRead who s)
  else if clears TRN_CONN_ERRQ.count then after (execTrnConnErrqRead who s)
  else if clears HIF_EVQ.count then after (execHifEvqRead who s)
  else if pops FT_LOST.table 0 off then after (execFtLostRead who s)
  else if pops CIP_KEYQ.slot 0 off then after (execCipKeyqRead who s)
  else if pops MBX_MSGQ.vf 0 off then after (execMbxMsgqRead who s)
  else if pops MNT_SCRUB_LOG.addr 0 off then after (execScrubLogRead who s)
  else s

/-- A performance counter read is a sample: its stamp is taken first (R782). -/
def readSample (off len : Nat) (s : State) : State :=
  match (PMC_CNT.count).covering off len with
  | some (n, _) => sampleCounter s n
  | none => match (PMC_CNT.stamp).covering off len with
    | some (n, _) => sampleCounter s n
    | none => s

/-- A core reads some bytes of the setup registers: the value and the state after the read; what it does not reach reads
as 0 (R796). -/
def setupLoad (who : Initiator) (off len : Nat) (s : State) : Nat × State :=
  if !reaches who off then (0, s)
  else
    let s := readSample off len s
    (registerRead who off len s, readEffect who off len s)

/-! ### What a store brings with it -/

/-- The straps as DEV_STRAP shows them. -/
def strapsNow (s : State) : Nat :=
  [DEV_STRAP.boot_src, DEV_STRAP.bifur0, DEV_STRAP.bifur1, DEV_STRAP.g6_vddq_sel].foldl (fun v d => v + s.rd d <<< d.lo) 0

/-- A store at `off` of `len` bytes of `value`: the value of a field's member after it, and whether it covers it. -/
structure Stored where
  off   : Nat
  len   : Nat
  value : Nat
  was   : State
deriving DecidableEq, Repr

/-- The member of a field that a store covers. -/
def Stored.at_ (w : Stored) (d : Desc) : Option Nat := (d.covering w.off w.len).map (·.1)
/-- The store covers the field. -/
def Stored.has (w : Stored) (d : Desc) : Bool := (w.at_ d).isSome
/-- The value of a field's member after the store (R967). -/
def Stored.put (w : Stored) (d : Desc) (i : Nat := 0) : Nat :=
  if (d.covering w.off w.len).isSome then
    mergedValue ⟨d, i, 0⟩ w.off w.len w.value (if d.acc = .wo ∨ d.acc = .w1s then 0 else w.was.rd d i)
  else if d.acc = .wo ∨ d.acc = .w1s then 0 else w.was.rd d i
/-- The store sets a one-bit field. -/
def Stored.sets (w : Stored) (d : Desc) (i : Nat := 0) : Bool := w.has d && w.put d i = 1

/-- The common registers (R19). -/
def storeCommon (who : Initiator) (b : Blk) (w : Stored) (s : State) : State :=
  let en := w.has (enableField b)
  let s := if en then nextOr s (execEnableWrite who b (w.put (enableField b) = 1) s) else s
  let s := if w.sets (lockField b) then nextOr s (execLockSet who b s) else s
  let s := if !w.has (armTimeField b) then s
    else if w.put (armTimeField b) = 1 then nextOr s (execArmTime who b (w.sets (applyNowField b)) s)
    else
      let s := nextOr s (execDisarmTime who b s)
      if w.sets (applyNowField b) then nextOr s (execApplyNow who b s) else s
  if w.has (applyTtField b) then nextOr s (execApplyTimeWrite who b (w.put (applyTtField b)) s) else s

/-- An owner register: its 17 bits after the store. -/
def storedOwner (w : Stored) (pf isVf vf valid : Desc) (i : Nat) : Nat :=
  w.put pf i + w.put isVf i <<< 3 + w.put vf i <<< 4 + w.put valid i <<< 16

/-- The member of an owner register that a store covers. -/
def ownerAt (w : Stored) (fs : List Desc) : Option Nat := fs.findSome? w.at_

/-- TT, NRG and IRQ. -/
def storeTime (who : Initiator) (w : Stored) (s : State) : State :=
  if w.has TT_FREQ_ADJ.adj then nextOr s (execTtFreqAdj who (w.put TT_FREQ_ADJ.adj) s)
  else if w.has TT_PHASE_ADJ.slew_ns then nextOr s (execTtPhaseAdj who (w.put TT_PHASE_ADJ.slew_ns) s)
  else if w.has TT_STEP.delta then nextOr s (execTtStep who (w.put TT_STEP.delta) s)
  else if w.has TT_LOAD.tt64 then nextOr s (execTtLoad who (w.put TT_LOAD.tt64) s)
  else if w.has TT_SERVO.ptp_locked then nextOr s (execTtServoWrite who (w.put TT_SERVO.ptp_locked = 1) s)
  else if w.has NRG_CREDIT.delta then nextOr s (execNrgCredit who (w.put NRG_CREDIT.account) (w.put NRG_CREDIT.delta) s)
  else if w.has NRG_LEDGER_CONS.cons then nextOr s (execLedgerConsWrite who (w.put NRG_LEDGER_CONS.cons) s)
  else if w.sets NRG_SNAP_SEQ.done then nextOr s (execSnapDone who s)
  else if w.has IRQ_SW_SET.source then nextOr s (execIrqSwSet who (w.put IRQ_SW_SET.source) s)
  else s

/-- The bits that a store sets in a register of write-1-to-set or write-only fields. -/
def setBits (w : Stored) (ds : List Desc) : Nat := ds.foldl (fun v d => v + w.put d <<< d.lo) 0

/-- BOOT and MNT.  Whether VPP_FUSE is within its limits is a free value at a store. -/
def storeBoot (who : Initiator) (w : Stored) (s : State) : State :=
  if w.has BOOT_CTL.phase_req then
    let s := if w.put BOOT_CTL.phase_req ≠ 0 then nextOr s (execPhaseRequest who (w.put BOOT_CTL.phase_req) s) else s
    let s := if w.sets BOOT_CTL.relay_release then nextOr s (execRelayRelease who s) else s
    if w.sets BOOT_CTL.reboot then nextOr s (execReboot who (strapsNow s) s) else s
  else if w.sets BOOT_FCMD.go then
    let x := freeWord s
    let vpp := x.1 % 2 = 1
    match s.rd BOOT_FCMD.action with
    | 0 => nextOr s (execSvnAdvance who (s.rd BOOT_FCMD.value) vpp x.2)
    | 1 => nextOr s (execRevoke who (s.rd BOOT_FCMD.key) vpp x.2)
    | 2 => nextOr s (execProgramHash who (s.rd BOOT_FCMD.key) vpp x.2)
    | _ => nextOr s (execSetFlag who (s.rd BOOT_FCMD.value) vpp x.2)
  else if w.has BOOT_LOCK.uds_lock || w.has BOOT_LOCK.meas_lock then
    nextOr s (execBootLockSet who (setBits w
      [BOOT_LOCK.uds_lock, BOOT_LOCK.seal_lock, BOOT_LOCK.fuse_lock, BOOT_LOCK.debug_lock, BOOT_LOCK.meas_lock]) s)
  else if w.sets BOOT_MEAS_CMD.go then nextOr s (execMeasurementExtend who (w.put BOOT_MEAS_CMD.index) s)
  else if w.has BOOT_RELEASE.release then nextOr s (execBootRelease who (w.put BOOT_RELEASE.release) s)
  else if w.has MNT_START.start then nextOr s (execMntStart who (w.put MNT_START.start) s)
  else if w.has MNT_STOP.stop then nextOr s (execMntStop who (w.put MNT_STOP.stop) s)
  else s

/-- BLK, CIP, DMA and RLY. -/
def storeEngine (who : Initiator) (w : Stored) (s : State) : State :=
  if w.sets BLK_VCMD.go then nextOr s (if s.on BLK_VCMD.action then execVolumeRead who s else execVolumeWrite who s)
  else if w.sets CIP_KCMD.go then nextOr s (if s.on CIP_KCMD.action then execKeyLower who s else execKeySlotRead who s)
  else if w.sets DMA_CCMD.go then
    match s.rd DMA_CCMD.action with
    | 0 => nextOr s (execChainStart who s)
    | 1 => nextOr s (execChainResume who s)
    | 2 => nextOr s (execChainRelease who s)
    | _ => s
  else if w.sets RLY_TCMD.go then
    let t := s.rd RLY_TCMD.thread
    match s.rd RLY_TCMD.action with
    | 0 => nextOr s (execRelayStart who t s)
    | 1 => nextOr s (execRelayStop who t s)
    | 2 => nextOr s (execThreadHalt who t s)
    | 3 => nextOr s (execRelayResume who t s)
    | _ => s
  else if w.sets RLY_DBG.go then
    if s.on RLY_DBG.write then nextOr s (execDebugWrite who (s.rd RLY_DBG.thread) (s.rd RLY_DBG.reg) (s.rd RLY_DBG_DATA.data) s)
    else nextOr s (execDebugRead who (s.rd RLY_DBG.thread) (s.rd RLY_DBG.reg) s)
  else s

/-- Owner registers, and the registers of the pool channels. -/
def storeOwners (who : Initiator) (w : Stored) (s : State) : State :=
  match ownerAt w [CIP_KEY_BLOCK.pf, CIP_KEY_BLOCK.vf, CIP_KEY_BLOCK.valid] with
  | some i => nextOr s (execKeyBlockWrite who i
      (storedOwner w CIP_KEY_BLOCK.pf CIP_KEY_BLOCK.is_vf CIP_KEY_BLOCK.vf CIP_KEY_BLOCK.valid i) s)
  | none => match ownerAt w [TRN_RGN_BLOCK.pf, TRN_RGN_BLOCK.vf, TRN_RGN_BLOCK.valid] with
    | some i => nextOr s (execRgnBlockWrite who i
        (storedOwner w TRN_RGN_BLOCK.pf TRN_RGN_BLOCK.is_vf TRN_RGN_BLOCK.vf TRN_RGN_BLOCK.valid i) s)
    | none => match ownerAt w [WQ_GROUP_OWNER.pf, WQ_GROUP_OWNER.vf, WQ_GROUP_OWNER.valid] with
      | some i => nextOr s (execGroupOwnerWrite who i
          (storedOwner w WQ_GROUP_OWNER.pf WQ_GROUP_OWNER.is_vf WQ_GROUP_OWNER.vf WQ_GROUP_OWNER.valid i) s)
      | none => match ownerAt w [DMA_CHAN.mode, DMA_CHAN.account] with
        | some i => nextOr s (execDmaChanWrite who i
            (w.put DMA_CHAN.mode i + w.put DMA_CHAN.pf i <<< 2 + w.put DMA_CHAN.account i <<< 8) s)
        | none => s

/-- The quads with the fields of their modes. -/
def quadFields : List (Nat × Desc) :=
  [(0, PP_ETH_MODE.quad0), (1, PP_ETH_MODE.quad1), (2, PP_ETH_MODE.quad2), (3, PP_ETH_MODE.quad3)]

/-- A store changes the mode of a quad. -/
def changesQuad (w : Stored) (x : Nat × Desc) : Bool := w.has x.2 && w.put x.2 ≠ w.was.rd x.2

/-- A store changes the mode of a quad that refuses it (R287). -/
def quadRefused (w : Stored) : Bool :=
  quadFields.any fun x => changesQuad w x && (quadPorts w.was x.1).any fun p => w.was.on PP_PORT.enable p

/-- The quads whose mode a store changes. -/
def storeQuads (who : Initiator) (w : Stored) (s : State) : State :=
  quadFields.foldl (fun t x => if changesQuad w x then nextOr t (execPpEthModeWrite who x.1 (w.put x.2) t) else t) s

/-- A flow-table command by its operation code (R384). -/
def storeFtCommand (who : Initiator) (p : Nat) (s : State) : State :=
  match s.rd FT_CMD.op p with
  | 1 => nextOr s (execFtInsert who p s)
  | 2 => nextOr s (execFtUpdate who p s)
  | 3 => nextOr s (execFtUpsert who p s)
  | 4 => nextOr s (execFtDelete who p s)
  | 5 => nextOr s (execFtLookup who p s)
  | 6 => nextOr s (execFtReadSlot who p s)
  | 7 => nextOr s (execFtWriteResult who p s)
  | 8 => nextOr s (execFtTernWrite who p s)
  | 9 => nextOr s (execFtTernRead who p s)
  | op => ftCommand who p op s

/-- WQ, PP, FT, TM, TRN and HIF.  SAVE and RESTORE end only with their host accesses, which are commands of their own. -/
def storeQueues (who : Initiator) (w : Stored) (s : State) : State :=
  if w.sets WQ_QCMD.go then
    let q := s.rd WQ_QCMD.queue
    match s.rd WQ_QCMD.action with
    | 0 => nextOr s (execQcmdStart who q s)
    | 1 => nextOr s (execQcmdStop who q s)
    | 2 => nextOr s (execQcmdReset who q s)
    | _ => s
  else if w.sets PP_CNT_ADDR.go then nextOr s (execFlowCounterSnapshot who s)
  else if w.sets TM_MCMD.go then nextOr s (if s.on TM_MCMD.write then execMeterWrite who s else execMeterRead who s)
  else if w.sets TM_CNT_ADDR.go then nextOr s (execTmCounterSnapshot who s)
  else if w.sets TRN_CCMD.go then
    let n := s.rd TRN_CCMD.conn
    match s.rd TRN_CCMD.action with
    | 0 => nextOr s (execConnCreate who n s)
    | 1 => nextOr s (execTrnConnReset who n s)
    | 2 => nextOr s (execTrnConnRead who n s)
    | _ => s
  else match w.at_ FT_CMD.go with
    | some p => if w.sets FT_CMD.go p then storeFtCommand who p s else s
    | none => match w.at_ FT_TABLE.valid with
      | some t => nextOr s (if w.put FT_TABLE.valid t = 1 then execTableValidate who t s else execTableInvalidate who t s)
      | none => match w.at_ TM_GATE_CTL.arm with
        | some p => if w.sets TM_GATE_CTL.arm p then nextOr s (execGateArm who p s) else s
        | none => match w.at_ HIF_MCMD.go with
          | some p =>
            if !w.sets HIF_MCMD.go p then s
            else match s.rd HIF_MCMD.action p with
              | 0 => nextOr s (execFreeze who p s)
              | 3 => nextOr s (execUnfreeze who p s)
              | _ => s
          | none => s

/-- What the fields with commands of their own do at a store. -/
def ownFields (who : Initiator) (b : Blk) (w : Stored) (s : State) : State :=
  let s := storeCommon who b w s
  match b with
  | .tt | .nrg | .irq => storeTime who w s
  | .boot | .mnt => storeBoot who w s
  | .blk | .rly => storeEngine who w s
  | .cip | .dma => storeOwners who w (storeEngine who w s)
  | .pp => storeQuads who w (storeQueues who w s)
  | .wq | .trn => storeOwners who w (storeQueues who w s)
  | .ft | .tm | .hif => storeQueues who w s
  | .dev | .mbx | .cq | .pmc | .pair => s

/-- A mailbox store also reaches the sequence and acknowledgement fields (R821 to R823). -/
def mailStore (who : Initiator) (off len value : Nat) (s : State) : State :=
  let vf := (off - 0x1200000) / 0x200
  let up := decide ((off - 0x1200000) % 0x200 < 0x100)
  let o := (off - 0x1200000) % 0x100
  let s := if o ≤ 0xF4 ∧ 0xF4 < o + len then
    nextOr s (execMailboxSeqWrite who vf up (bitsAt value ((0xF4 - o) * 8) 32) s) else s
  if o ≤ 0xF8 ∧ 0xF8 < o + len then nextOr s (execMailboxAckWrite who vf up (bitsAt value ((0xF8 - o) * 8) 32) s) else s

/-- The store is ignored as a whole: by the class, the lock or the port of a field that it would change, or by a quad of
PP_ETH_MODE whose ports are not all disabled (R191, R287, R967). -/
def storeIgnored (s : State) (b : Blk) (w : Stored) : Bool :=
  writeRefused s b w.off w.len w.value || hitsBusy s b w.off w.len w.value || (b = .pp && quadRefused w)

/-- A core stores some bytes to the setup registers: REGISTER_WRITE, and the commands whose fields it covers. -/
def setupStore (who : Initiator) (off len value : Nat) (s : State) : State :=
  let t := registerWrite who off len value s
  if (msixAt off).isSome then t
  else if 0x1200000 ≤ off ∧ off < 0x1400000 then mailStore who off len value t
  else match blockOf off with
    | none => t
    | some b =>
      let w : Stored := ⟨off, len, value, s⟩
      if storeIgnored s b w then (if b = .pp && quadRefused w then t.wr (lockedWriteField .pp) 1 else t) else ownFields who b w t

end Sys2Proof.Machine
end

