-- ==== Sys2Proof/Machine/PairMirror.lean ====
section
/-! DEFINITION. Delta records: what a snapshot sends, and how a standby applies a record to its mirror (R911 to R917, R932,
R933). -/
namespace Sys2Proof.Machine

/-! ### The snapshot (R917) -/

/-- The members of an array of registers for which a value of any of some fields is listed. -/
def listedOf (s : State) (ds : List Desc) : List Nat := (ds.flatMap (listedMembers s)).eraseDups

/-- The 8-byte words of BAR0 outside the PAIR block that hold a writable value: the CONFIG records of a snapshot. -/
def configWords (s : State) : List Nat :=
  (s.regs.filterMap fun p =>
    let off := p.1 / 64 * 8
    if isPairOff off || decide (0x1200000 ≤ off) then none
    else match blockOf off with
      | none => none
      | some b => if (coveredIn b off 8).any fun r => decide (r.desc.acc = .rw ∨ r.desc.acc = .rwl) then some off else none).eraseDups

/-- A setup word as it stands. -/
def snapConfig (s : State) (off : Nat) : State := deltaConfig s off 8 (registerRead (.steward 0) off 8 s)

/-- The backlog of a ring. -/
def snapBacklog (s : State) (r : Nat) : State :=
  (ringInt s r).backlog.foldl (fun t h => deltaRecord t r h.image 1 (queueAccount t h.queue)) s

/-- The decided, unretired entries of a queue. -/
def snapEntries (s : State) (q : Nat) : State :=
  (queueInt s q).entries.foldl (fun t e => match e.decided with
    | some f => deltaEntry t q e.sseq f
    | none => t) s

/-- The PSN reservations of a connection. -/
def snapOps (s : State) (n : Nat) : State :=
  (trnConn s n).ops.foldl (fun t o => match o.first with
    | none => t
    | some psn =>
      let x := (chipCtx t n).getD 0
      let (q, sseq) := o.entry.getD (0, 0)
      delta t 0x05 n (leBytes 4 psn ++ leBytes 4 (opPackets x o) ++ leBytes 2 q ++ leBytes 2 sseq
        ++ leBytes 4 (flag o.entry.isSome)) (ctxAccount x)) s

/-- The regions in use, by the bytes that memory lists. -/
def listedRegions (s : State) : List Nat :=
  let b := areaBase s 2
  ((s.mem.filter fun p => decide (b ≤ p.1) && decide (p.1 < b + s.areas.rgn * 0x100000)).map fun p => (p.1 - b) / 64).eraseDups

/-- The inbound ESP slots with their windows. -/
def snapReplay (s : State) (k : Nat) : State :=
  let x := slotImage s k
  if slotEsp x && !slotOutbound x then delta s 0x0D k (leBytes 8 (slotSeq x) ++ leBytes 128 (windowOf s x)) else s

/-- The command entries of a table's copy, as the operations that write them. -/
def tableOps (s : State) (t c : Nat) : List FtOp :=
  let op := fun (code key mask data action arg : Nat) => (⟨0, c, code, t, key, mask, data, action, arg, true, true, false⟩ : FtOp)
  match s.rd FT_TABLE.kind t with
  | 1 => (usedSlots s t c).filterMap fun p =>
      let x := loadEntry s t c p.1 p.2
      if x.learned then none else some (op 1 x.key 0 x.data x.action 0)
  | 2 => s.ft.lpm.filterMap fun p =>
      if p.table = t then some (op 1 (ofLe (beBytes (addrBits s t / 8) p.addr)) 0 p.result p.action p.len) else none
  | _ => (List.range (s.rd FT_TABLE.count t)).filterMap fun i =>
      let x := Map.get s.ft.tern (ternKey s t i)
      if x.valid then some (op 8 x.value x.mask x.data x.action i) else none

/-- The tables, with their result records. -/
def snapTables (s : State) : State :=
  let ts := listedMembers s FT_TABLE.valid
  let s := s.ft.results.foldl (fun t p => match ts.find? fun x => decide (t.rd FT_TABLE.kind x = 2) with
    | some x => deltaTable t ⟨0, 0, 7, x, 0, 0, p.2, 0, p.1, false, false, false⟩
    | none => t) s
  ts.foldl (fun t x => (copiesOf t x).foldl (fun u c => (tableOps u x c).foldl deltaTable u) t) s

/-- The snapshot of every mirrored object, and its end (R917). -/
def sendSnapshot (s : State) : State :=
  let s := s.count PAIR_CNT.count 1 7
  let s := (configWords s).foldl snapConfig s
  let qs := listedOf s qctxFields
  let rs := listedOf s rctxFields
  let ns := findableConns s
  let s := qs.foldl (fun t q => snapEntries (deltaQueue t q) q) s
  let s := rs.foldl (fun t r => deltaRing (snapBacklog t r) r) s
  let s := ns.foldl (fun t n => snapOps (delta t 0x06 n (leBytes 256 (foundCtx t n)) (ctxAccount (foundCtx t n))) n) s
  let s := (listedRegions s).foldl (fun t i => delta t 0x07 i (leBytes 64 (rgnImage t i))) s
  let s := (Map.keys s.cip.slots).foldl (fun t k => snapReplay (deltaSlot t k) k) s
  let s := (Map.keys s.blk.vols).foldl (fun t v => delta t 0x09 v (leBytes 64 (volRecord t v))) s
  let s := snapTables s
  delta (mirrorCharges s []) 0x0E 0 []

/-! ### A record's form (R912) -/

/-- A delta record read from its bytes, where its length and its commit word verify. -/
def parseDelta (bs : Bytes) : Option Delta :=
  let n := leAt bs 2 2 * 8
  let body := bs.take (n - 8)
  if 40 ≤ n && decide (n ≤ bs.length) && commitVerifies (leAt bs (n - 8) 8) (leAt bs 8 8 % 2 ^ 32) body then
    some ⟨leAt bs 8 8, leAt bs 0 1, leAt bs 0x18 8, leAt bs 4 2 % 4096, leAt bs 0x10 8, body.drop 0x20⟩
  else none

/-! ### Applying a record (R915, R932, R933) -/

/-- An entry of the mirror is outstanding: it lies among the last slots accepted and not yet passed by the done-head. -/
def outstanding (s : State) (q sseq : Nat) : Bool :=
  decide (subMod 16 (s.rd WQ_CTX.accepted_sseq q) sseq < subMod 32 (s.rd WQ_CTX.accept_index q) (s.rd WQ_CTX.done_head q))

/-- QUEUE: the context, and the statuses and reservations of entries that it shows retired leave the mirror. -/
def applyQueue (s : State) (q x : Nat) : State :=
  let s := shadowQueue (putContext s qctxFields q x) q
  updPair s fun p => { p with
    entries := p.entries.filter fun e => decide (e.1 / 65536 ≠ q) || outstanding s q (e.1 % 65536)
    ops := p.ops.filter fun o => !o.entry || decide (o.queue ≠ q) || outstanding s q o.sseq }

/-- RECORD: a record of the backlog, or one written to its ring, which leaves the backlog where it came from there; the
mirror keeps as many as the ring has slots. -/
def mirrorRecord (s : State) (r image place : Nat) : State :=
  if place = 1 then updRing s r fun x => { x with backlog := x.backlog ++ [⟨bitsAt image 64 16, image, .ring⟩] }
  else
    let mine := s.pair.records.filter fun p => decide (p.1 = r)
    let kept := (mine ++ [(r, image)]).drop (mine.length + 1 - ringSlots s r)
    let s := updPair s fun p => { p with
      records := (p.records.filter fun y => decide (y.1 ≠ r)) ++ kept }
    updRing s r fun x => { x with backlog := x.backlog.tail }

/-- CONN: the context takes its home in GDDR6, or a place on chip. -/
def applyConn (s : State) (n x : Nat) : State :=
  let s := match homeOf s n with
    | .memory a => memStore { s with trn := { s.trn with cache := Map.set s.trn.cache n none } } a (leBytes 256 x)
    | _ =>
      let s := if (chipCtx s n).isSome then s else mirrorRoom s
      { s with trn := { s.trn with cache := Map.set s.trn.cache n (some ⟨x % 2 ^ 2048, true⟩) } }
  updPair s fun p => { p with
    ops := p.ops.filter fun o => o.entry || decide (o.conn ≠ n) || decide (psnSub (ctxSndUna x) o.first < o.count)
      || decide (2 ^ 23 ≤ psnSub (ctxSndUna x) o.first) }

/-- TABLE: the operation on its table and copy. -/
def applyTable (s : State) (obj : Nat) (b : Bytes) : State :=
  let fl := leAt b 2 2
  (performOp s ⟨0, obj % 2, leAt b 0 1, obj / 2, leAt b 8 64, leAt b 72 64, leAt b 136 32, leAt b 1 1, leAt b 4 4,
    fl % 2 = 1, fl / 2 % 2 = 1, false⟩).1

/-- The configuration fields with commands of their own; the commands that act on mirrored objects, the time and the
counters are mirrored otherwise or not at all (R914). -/
def configOwn (b : Blk) (w : Stored) (s : State) : State :=
  let who := Initiator.steward 0
  let s := storeCommon who b w s
  match b with
  | .wq | .trn | .cip | .dma => storeOwners who w s
  | .pp => storeQuads who w s
  | .ft => match w.at_ FT_TABLE.valid with
    | some t =>
      if w.put FT_TABLE.valid t = 1 then nextOr s (execTableClearDone t (nextOr s (execTableValidate who t s)))
      else nextOr s (execTableInvalidate who t s)
    | none => s
  | .tm => match w.at_ TM_GATE_CTL.arm with
    | some p => if w.sets TM_GATE_CTL.arm p then nextOr s (execGateArm who p s) else s
    | none => s
  | _ => s

/-- CONFIG: the bytes that the mask names are written as the host wrote them. -/
def applyConfig (s : State) (obj : Nat) (b : Bytes) : State :=
  let mask := leAt b 8 8 % 256
  match lowestBit 8 mask with
  | none => s
  | some lo =>
    let off := obj + lo
    let len := popCount 8 mask
    let v := bitsAt (leAt b 0 8) (8 * lo) (8 * len)
    if isPairOff off then s
    else
      let t := registerWrite (.steward 0) off len v s
      if 0x1200000 ≤ off then t
      else match blockOf off with
        | none => t
        | some b' => configOwn b' ⟨off, len, v, s⟩ t

/-- REPLAY: the highest sequence number of an inbound slot, with its window. -/
def applyReplay (s : State) (k : Nat) (b : Bytes) : State :=
  let s := putSlot s k 192 64 (leAt b 0 8)
  ledgerStore s (windowPlace (slotImage s k)) (leBytes 128 (leAt b 8 128))

/-- SNAPSHOT_END: the mirror is whole (R907). -/
def applyEnd (s : State) : State := if pairState s = pSync then raise (setPair s pStandby) 0x228 else s

/-- ENTRY: a decided status joins the mirror. -/
def mirrorEntry (s : State) (obj : Nat) (f : Finish) : State :=
  updPair s fun p => { p with entries := Map.set p.entries obj (some f) }

/-- OP: a PSN reservation joins the mirror. -/
def mirrorOp (s : State) (o : OpRecord) : State := updPair s fun p => { p with ops := p.ops ++ [o] }

/-- The change that a record carries (R913). -/
def applyBody (s : State) (d : Delta) : State :=
  let b := d.body
  match d.kind with
  | 0x01 => applyQueue s (d.obj % 65536) (leAt b 0 64)
  | 0x02 => shadowRing (putContext s rctxFields (d.obj % 16384) (leAt b 0 64)) (d.obj % 16384)
  | 0x03 => mirrorRecord s d.obj (leAt b 0 32) (leAt b 32 8)
  | 0x04 => mirrorEntry s d.obj ⟨leAt b 0 1, leAt b 4 4, leAt b 8 4, leAt b 16 8, leAt b 1 1 % 2 = 1⟩
  | 0x05 => mirrorOp s ⟨d.obj, leAt b 0 4 % 2 ^ 24, leAt b 4 4, leAt b 8 2, leAt b 10 2, leAt b 12 4 = 1⟩
  | 0x06 => applyConn s d.obj (leAt b 0 256)
  | 0x07 => if rgnUsable s d.obj then memStore (g6Access s (rgnAddr s d.obj) true d.acct) (rgnAddr s d.obj) (leBytes 64 (leAt b 0 64)) else s
  | 0x08 => setSlot s d.obj (leAt b 0 128)
  | 0x09 => setVol s d.obj (leAt b 0 64)
  | 0x0A => applyTable s d.obj b
  | 0x0B => applyConfig s d.obj b
  | 0x0C => (List.range 4096).foldl (fun t a => t.wr NRG_ROD.balance (leAt b (8 * a) 8) a) s
  | 0x0D => applyReplay s d.obj b
  | 0x0E => applyEnd s
  | _ => s

/-- A record is applied, charged to its account and acknowledged (R915, R933). -/
def applyDelta (s : State) (d : Delta) : State :=
  let s := applyBody (sramAccess s 1 d.acct) d
  updPair ((s.wr PAIR_SEQ.pseq d.pseq).count PAIR_CNT.count 1 1) fun p => { p with
    expect := some (d.pseq + 1), sent := p.sent ++ [.ack d.pseq] }

/-- The record is the next one that the mirror takes. -/
def deltaExpected (s : State) (d : Delta) : Bool :=
  (pairState s = pSync || pairState s = pStandby || pairState s = pPromoting)
    && (match s.pair.expect with
      | none => true
      | some n => decide (d.pseq = n))

end Sys2Proof.Machine
end

