-- ==== Sys2Proof/Machine/Pair.lean ====
section
/-! DEFINITION. The commands of paired operation: the link, heartbeats, delta records, promotion and the baton pass (chapter
Paired operation). -/
namespace Sys2Proof.Machine

/-! ### The link, heartbeats and states (R901 to R909) -/

/-- The codes of the ACTIVE states. -/
def isActivePair (st : Nat) : Bool := decide (1 ≤ st) && decide (st ≤ 3)

/-- The device is fenced: an active partner of a higher epoch, or of an equal one when this is unit 1 (R907, R909). -/
def fencedNow (s : State) : Bool :=
  let e := s.rd PAIR_STATUS.epoch
  isActivePair (s.rd PAIR_STATUS.peer_state)
    && (decide (e < s.pair.peerEpoch) || (decide (e = s.pair.peerEpoch) && s.on PAIR_CFG.unit))

/-- The state changes that follow from the partner as the link shows it (R905, R907, R908). -/
def pairLook (s : State) : State :=
  let peer := s.rd PAIR_STATUS.peer_state
  let same := s.on PAIR_STATUS.cfg_match
  if !s.on PAIR_STATUS.link_up || s.pair.conflict then s
  else match pairState s with
    | 2 => if fencedNow s then raise (setPair s pDetached) 0x225 else if same then setPair s pMirrored else s
    | 3 =>
      if fencedNow s then raise (setPair s pDetached) 0x225
      else if same && peer = pStandby then raise (setPair s pMirrored) 0x228
      else s
    | 6 => if same && isActivePair peer && decide (s.rd PAIR_STATUS.epoch ≤ s.pair.peerEpoch) then setPair s pSync else s
    | _ => s

/-- The digest of the device's configuration record (R905). -/
def configDigest (s : State) : Bytes := sha384 s.boot.record

/-- PAIR_LINK_UP: the lanes are aligned, FEC is locked, and the partner's heartbeat has been received (R903, R905, R908). -/
def execPairLinkUp (s : State) : Out :=
  run s fun s =>
    if !enabled s .pair || s.on PAIR_STATUS.link_up || !s.start.serdes.contains 4 || !s.on DEV_CLK_STAT.pair || !s.pair.heard then s
    else
      let s := updPair (raise (s.wr PAIR_STATUS.link_up 1) 0x220) fun p => { p with
        lastBlock := now s, conflict := decide (p.peerRole = s.rd PAIR_CFG.role_req) }
      let same := decide (s.pair.peerDig = configDigest s)
      let s := s.wr PAIR_STATUS.cfg_match (flag same)
      let s := if same then s else raise s 0x226
      pairLook (if s.pair.conflict then raise s 0x229 else s)

/-- PAIR_LINK_TIMEOUT: 30 µs have passed with no valid block (R903). -/
def execPairLinkTimeout (s : State) : Out :=
  run s fun s => if s.pair.lastBlock + 30000 ≤ now s then pairLinkDown s else s

/-- LANE_ALIGNMENT_LOSS: a lane has lost alignment and takes the link down (R901). -/
def execLaneAlignmentLoss (s : State) : Out := run s pairLinkDown

/-- The partner's state has become STANDBY_SYNC (R917). -/
def snapshotDue (s : State) (was : Nat) : Bool :=
  s.on PAIR_STATUS.link_up && s.on PAIR_STATUS.cfg_match && !s.pair.conflict && isActivePair (pairState s)
    && decide (s.rd PAIR_STATUS.peer_state = pSync) && decide (was ≠ pSync)

/-- HEARTBEAT_RECEIVE: the partner's state, epoch, requested role and configuration digest (R903, R905, R907, R917). -/
def execHeartbeatReceive (state epoch role : Nat) (digest : Bytes) (s : State) : Out :=
  run s fun s =>
    if !enabled s .pair then s
    else
      let was := s.rd PAIR_STATUS.peer_state
      let s := updPair (s.wr PAIR_STATUS.peer_state state) fun p => { p with
        heard := true, peerEpoch := epoch, peerRole := role, peerDig := digest }
      let s := pairLook s
      if snapshotDue s was then sendSnapshot s else s

/-- ALIVE_IN_CHANGE: PAIR_ALIVE_IN takes a level (R904, R907, R920). -/
def execAliveInChange (level : Bool) (s : State) : Out :=
  run s fun s =>
    let s := { s with pins := { s.pins with aliveIn := level } }
    let s := updPair (s.wr PAIR_STATUS.peer_alive (flag level)) fun p => { p with
      lowSince := if level then none else some (p.lowSince.getD (now s)) }
    if !level && pairState s = pHold then goSolo s
    else if level && !s.on PAIR_STATUS.link_up && (pairState s = pSync || pairState s = pStandby) then
      raise (setPair s pDetached) 0x221
    else s

/-- ALIVE_WATCHDOG_EXPIRY: PAIR_KICK has not been written in time, and PAIR_ALIVE falls (R904). -/
def execAliveWatchdogExpiry (s : State) : Out := run s updateAlive

/-- PAIR_KICK: the watchdog restarts (R904). -/
def execPairKick (who : Initiator) (s : State) : Out :=
  run s fun s => setupWrite PAIR_KICK.kick 0 1 who s fun s => updateAlive (updPair s fun p => { p with kickTt := some (now s) })

/-- HOLD_EXPIRY: hold_us have passed in ACTIVE_HOLD (R907). -/
def execHoldExpiry (s : State) : Out :=
  run s fun s =>
    if pairState s = pHold && decide (s.pair.holdTt + s.rd PAIR_CFG.hold_us * 1000 ≤ now s) then goSolo s else s

/-! ### Delta records, acknowledgements and charge reports (R915, R918, R933) -/

/-- DELTA_RECORD_RECEIVE: a record from the active device; one that does not verify or is not the next is discarded. -/
def execDeltaRecordReceive (bytes : Bytes) (s : State) : Out :=
  run s fun s =>
    match parseDelta bytes with
    | some d => if deltaExpected s d then applyDelta s d else s
    | none => s

/-- DELTA_ACK_RECEIVE: the partner holds every record up to a sequence number. -/
def execDeltaAckReceive (pseq : Nat) (s : State) : Out :=
  run s fun s =>
    if s.rd PAIR_ACKED.pseq ≤ pseq && decide (pseq ≤ s.pseq) then
      handoverCheck (releasePubs (({ s with deltas := s.deltas.filter fun d => decide (pseq < d.pseq) } : State).wr PAIR_ACKED.pseq pseq))
    else s

/-- CHARGE_REPORT_RECEIVE: a standby's charge of an account waits for the next commit. -/
def execChargeReportReceive (account beads : Nat) (s : State) : Out :=
  run s fun s =>
    ({ s with nrg := { s.nrg with reports := s.nrg.reports ++ [(account % 4096, beads)] } } : State).count PAIR_CNT.count 1 6

/-! ### Promotion (R920 to R924, R927, R929) -/

/-- A region as it starts on the new active device: no packet uses it, and a CLOSING one becomes FREE (R927). -/
def passRegion (s : State) (i : Nat) : State :=
  let x := putBits (rgnImage s i) 192 32 0
  memStore s (rgnAddr s i) (leBytes 64 (if rgnState x = 2 then putBits x 0 2 0 else x))

/-- The promised places of a ring: its own free slots first, and pool slots for the rest (R211). -/
def passRing (s : State) (r : Nat) : State :=
  let p := s.rd CQ_CTX.promised r
  let own := min p (ringSlots s r - ringUsed s r)
  let f := ringFn s r
  let s := setHeld s f (heldOf s f + (p - own))
  let s := s.wr CQ_POOL_STAT.free (s.rd CQ_POOL_STAT.free - (p - own))
  updRing s r fun x => { x with
    ringHeld := own, poolHeld := p - own
    backlog := (x.backlog.take own).map (fun h => { h with place := .ring })
      ++ (x.backlog.drop own).map fun h => { h with place := .pool } }

/-- Meters start full (R929). -/
def fullMeter (m : Meter) : Meter := { m with tc := m.cbs * 65536, tp := m.pbs * 65536 }

/-- The device promotes: its epoch advances, and the mirrored state becomes its own (R923, R924). -/
def promote (s : State) : State :=
  let s := ((s.count PAIR_STATUS.epoch).wr PAIR_LAST_PASS.tt (now s)).wr PAIR_PASS_STAT.decided 0
  let s := raise (setPair (s.wr PAIR_PASS_STAT.retried 0) pPromoting) 0x223
  let s := (listedRegions s).foldl passRegion s
  let s := (listedOf s rctxFields).foldl passRing s
  { s with tm := { s.tm with meters := s.tm.meters.map fun p => (p.1, fullMeter p.2) } }

/-- PROMOTION_TIMER: PAIR_ALIVE_IN has been low for 30 µs and no valid block has arrived in them (R920). -/
def execPromotionTimer (s : State) : Out :=
  run s fun s =>
    if pairState s = pStandby && s.on PAIR_CFG.auto_promote && !s.on PAIR_STATUS.peer_alive
        && decide (s.pair.lowSince.getD 0 + 30000 ≤ now s) && decide (s.pair.lastBlock + 30000 ≤ now s) then promote s
    else s

/-- PAIR_BLOCK_RECEIVE: a block of 256 bytes, the last 4 its CRC-32, and whether it carries the handover record (R902,
R903, R920, R922).  The other records that it carries are commands of their own. -/
def execPairBlockReceive (data : Bytes) (handover : Bool) (s : State) : Out :=
  run s fun s =>
    if !enabled s .pair || decide (data.length ≠ 256) || decide (crc32 (data.take 252) ≠ leAt data 252 4) then s
    else
      let s := updPair s fun p => { p with lastBlock := now s }
      let s := if pairState s = pStandby && s.on PAIR_CFG.auto_promote && !s.on PAIR_STATUS.peer_alive then
          raise (updPair s fun p => { p with lowSince := some (now s) }) 0x227
        else s
      if handover && pairState s = pStandby then promote s else s

/-- A PAIR_CMD action with its result; a write while one is in progress is ignored. -/
def pairCmd (who : Initiator) (action force : Nat) (s : State) (f : State → State) : State :=
  setupWrite PAIR_CMD.go 0 1 who s fun s =>
    if s.on PAIR_CMD.busy then s.wr (lockedWriteField .pair) 1
    else f ((s.wr PAIR_CMD.action action).wr PAIR_CMD.force force)

/-- PROMOTE through PAIR_CMD (R921). -/
def execPromote (who : Initiator) (force : Bool) (s : State) : Out :=
  run s fun s => pairCmd who 0 (flag force) s fun s =>
    if pairState s = pStandby || (force && (pairState s = pSync || pairState s = pDetached)) then promote (s.wr PAIR_CMD.result 0)
    else s.wr PAIR_CMD.result 1

/-- HANDOVER through PAIR_CMD: acceptance stops on every queue, and the accepted entries run to their retirement (R922). -/
def execHandover (who : Initiator) (s : State) : Out :=
  run s fun s => pairCmd who 1 (s.rd PAIR_CMD.force) s fun s =>
    if pairState s = pMirrored then handoverCheck (updPair (s.wr PAIR_CMD.busy 1) fun p => { p with handover := true })
    else s.wr PAIR_CMD.result 1

/-! ### The baton pass (R925 to R930) -/

/-- What the host's ring shows at an index of a queue: the entry image that the device reads there. -/
def ringImage (images : List (Nat × Nat × Nat)) (q idx : Nat) : Option Nat :=
  (images.find? fun x => decide (x.1 = q) && decide (x.2.1 = idx)).map fun x => x.2.2

/-- The entries of a queue from its done-head to its accept index, read again, with the PADs between them; none where the
ring does not show them.  `fuel` bounds the entries. -/
def rebuild (s : State) (images : List (Nat × Nat × Nat)) (q : Nat) :
    Nat → Nat → List Entry × List (Nat × Nat) → Option (List Entry × List (Nat × Nat))
  | 0, _, done => some done
  | fuel + 1, idx, done =>
    if idx = s.rd WQ_CTX.accept_index q then some done
    else match ringImage images q idx with
      | none => none
      | some raw =>
        let size := bitsAt raw 8 4
        if bitsAt raw 0 8 = 0x7F then
          let e := addMod 32 idx (toRingEnd s q idx)
          rebuild s images q fuel e (done.1, done.2 ++ [(idx, e)])
        else if size = 0 ∨ 8 < size then none
        else rebuild s images q fuel (addMod 32 idx size)
          (done.1 ++ [{ idx := idx, size := size, raw := raw % 2 ^ (256 * size), acceptTt := now s }], done.2)

/-- The place of a rebuilt entry of a ring: a pool slot while the ring's pool slots have no holder each, else a ring slot. -/
def rebuiltPlace (s : State) (r : Nat) : Place :=
  let pool := fun p : Place => decide (p = .pool)
  let holders := (s.queues.flatMap fun p => if s.rd WQ_CTX.cq_ring p.1 = r then p.2.entries.filter fun e => pool e.place else []).length
    + ((ringInt s r).backlog.filter fun h => pool h.place).length
  if holders < (ringInt s r).poolHeld then .pool else .ring

/-- A queue takes its rebuilt entries; the producer beyond the accept index is fetched again (R926). -/
def takeRebuilt (s : State) (q : Nat) (x : List Entry × List (Nat × Nat)) : State :=
  let s := x.1.foldl (fun t e =>
    let e := { e with order := t.acceptNo, place := rebuiltPlace t (t.rd WQ_CTX.cq_ring q), covers := if e.fence then ownCovers t q else [] }
    { updQueue t q (fun y => { y with entries := y.entries ++ [e] }) with acceptNo := t.acceptNo + 1 }) s
  updQueue (s.wr WQ_CTX.fetch_idx (s.rd WQ_CTX.accept_index q) q) q fun y => { y with
    pads := x.2, accepted := x.1.length, retired := 0
    doneSseq := subMod 16 (s.rd WQ_CTX.accepted_sseq q) x.1.length }

/-- Every queue's entries rebuilt; none where a ring does not show them. -/
def rebuildAll (images : List (Nat × Nat × Nat)) : List Nat → State → Option State
  | [], s => some s
  | q :: qs, s =>
    match rebuild s images q (subMod 32 (s.rd WQ_CTX.accept_index q) (s.rd WQ_CTX.done_head q)) (s.rd WQ_CTX.done_head q) ([], []) with
    | none => none
    | some x => rebuildAll images qs (takeRebuilt s q x)

/-- The HURDLEs of the rebuilt entries wait for the members of their groups, whose entries all count as accepted before. -/
def coverRebuilt (s : State) (qs : List Nat) : State :=
  qs.foldl (fun t q => updQueue t q fun x => { x with
    entries := x.entries.map fun e => { e with covers := e.covers ++ groupCovers s q { e with order := s.acceptNo } } }) s

/-- The mirrored REGION record shows the effect of a REGION_REGISTER. -/
def registerShown (s : State) (e : Entry) : Bool :=
  let x := rgnImage s (e.at 8 0 22)
  rgnState x = 1 && bitsAt x 2 3 = e.at 8 22 3 && rgnScope x = e.at 0xC 0 24 && rgnBase x = e.at 0x10 0 64
    && rgnLength x = e.at 0x18 0 64

/-- The mirrored REGION record shows the effect of a REGION_REVOKE. -/
def revokeShown (s : State) (e : Entry) : Bool :=
  let x := rgnImage s (e.word 2 / 1024)
  rgnGen x = (e.word 2 + 1) % 1024 || (rgnGen x = e.word 2 % 1024 && rgnState x = 0)

/-- The mirrored KEY record shows the effect of a KEY_LOAD: the slot but for its counts and its load time. -/
def keyShown (s : State) (e : Entry) : Bool :=
  let strip := fun x : Nat => putBits (putBits (putBits x 96 32 0) 192 64 0) 256 64 0
  let want := if e.at 8 20 1 = 1 then 0 else loadedSlot s e
  strip (slotImage s (e.at 8 0 20)) = strip want

/-- The reservation of an entry's operation in the mirror. -/
def opRecordOf (s : State) (q sseq : Nat) : Option OpRecord :=
  s.pair.ops.find? fun o => o.entry && decide (o.queue = q) && decide (o.sseq = sseq)

/-- How an entry of the mirror retires (R925). -/
inductive PassFate where
  | shown (f : Finish)          -- its ENTRY record's status
  | now_ (status extra : Nat)
  | operation (o : OpRecord)    -- once its packets have ended
  | stays                       -- NET_POST_RX and HURDLE
deriving DecidableEq, Repr

/-- The fate of an entry. -/
def passFate (s : State) (q : Nat) (e : Entry) : PassFate :=
  match Map.get s.pair.entries (q * 65536 + e.sseq) with
  | some f => .shown f
  | none =>
    let ty := s.rd WQ_CTX.type q
    if e.op = 1 then .stays
    else if e.op = 2 then .now_ (if (abortMatch s (bitsAt (e.word 2) 0 16) (e.word 3)).isSome then stAbortLate else stAbortNotFound) 0
    else if e.op = 0x11 ∧ ty = 2 then .stays
    else if e.op = 0x24 ∧ registerShown s e then .now_ stOk (e.at 8 0 22 * 1024 + rgnGen (rgnImage s (e.at 8 0 22)))
    else if (e.op = 0x25 ∧ revokeShown s e) ∨ (e.op = 0x41 ∧ keyShown s e) then .now_ stOk 0
    else if 0x20 ≤ e.op ∧ e.op ≤ 0x22 then
      (match opRecordOf s q e.sseq with
        | some o => .operation o
        | none => .now_ stRetryAfterFailover 0)
    else .now_ stRetryAfterFailover 0

/-- The status of an entry stands, as its retirement unit decides it. -/
def passDecide (s : State) (q : Nat) (e : Entry) (f : Finish) : State :=
  updEntry s q e.sseq fun x => { x with begun := true, decided := some f }

/-- Packets of a reservation that the mirrored context shows acknowledged. -/
def opAcked (x : Nat) (o : OpRecord) : Nat :=
  let k := psnSub (ctxSndUna x) o.first
  if k < 2 ^ 23 then min k o.count else 0

/-- An operation among those of its connection in the order of their PSNs. -/
def placeOp (una : Nat) (y : TrnOp) : List TrnOp → List TrnOp
  | [] => [y]
  | o :: os =>
    if psnSub (y.first.getD 0) una < psnSub (o.first.getD 0) una then y :: o :: os else o :: placeOp una y os

/-- The operation of an entry goes on on its connection, up to its reservation (R927). -/
def resumeOp (s : State) (q : Nat) (e : Entry) (o : OpRecord) : State :=
  let n := e.at 8 0 24
  let x := foundCtx s n
  let k := opAcked x o
  let slot := ([0, 1, 2, 3].find? fun i => slotValid x i && decide (slotReqPsn x i = o.first)).getD 0
  let y := opOf s q e.sseq slot e
  let y := { y with
    first := some o.first, count := k, off := if y.kind = 3 then 0 else min y.len (k * ctxMtu x)
    more := decide (k < o.count), failover := true }
  let x := if y.kind = 3 && slotValid x slot then putDiscard x slot 1 else x
  let s := updConn { s with trn := { s.trn with opNo := s.trn.opNo + 1 } } n fun c => { c with
    ops := placeOp (ctxSndUna x) y c.ops }
  let s := putCtx s n (ctxPut (ctxPut x 0x10 0 24 (ctxSndUna x)) 0x30 0 64 0)
  settleOps (updEntry s q e.sseq fun z => { z with begun := true, inUnit := true }) n

/-- One entry of the mirror at the pass (R925). -/
def passEntry (s : State) (q : Nat) (e : Entry) : State :=
  let done := fun t : State => t.count PAIR_PASS_STAT.decided
  match passFate s q e with
  | .shown f =>
    let t := passDecide (done s) q e f
    (match opRecordOf s q e.sseq with
      | some o => if opAcked (foundCtx s (e.at 8 0 24)) o < o.count then resumeOp t q e o else settleEntry t q e.sseq
      | none => settleEntry t q e.sseq)
  | .now_ st extra =>
    let t := if st = stRetryAfterFailover then s.count PAIR_PASS_STAT.retried else done s
    settleEntry (passDecide t q e { status := st, extra := extra, tt := now s, hold := inHoldover s }) q e.sseq
  | .operation o => resumeOp (s.count PAIR_PASS_STAT.retried) q e o
  | .stays => if e.op = 1 then s else begin_ s q e.sseq

/-- A reservation for which no entry can rebuild the packets: its connection cannot go on. -/
def passLost (s : State) (o : OpRecord) : State :=
  let x := foundCtx s o.conn
  if !o.entry && ctxState x = 1 && decide (opAcked x o < o.count) then
    withCtx s o.conn x fun s => connError s o.conn stConnectionError none none
  else s

/-- The records that the mirror holds for a ring are written to their slots: the old active device may not have. -/
def passRecord (s : State) (r image : Nat) : State :=
  let i := subMod 16 (bitsAt image 240 16) (s.rd CQ_CTX.cseq_base r)
  let at_ := s.rd CQ_CTX.base r + i % ringSlots s r * 32
  match translate s (ringFn s r) (s.on CQ_CTX.ats r) at_ true with
  | .ok a => hostWrite s (ringFn s r) a (leBytes 32 image)
  | _ => s

/-- Every entry of a list of queues meets its fate, in ring order. -/
def passQueues (qs : List Nat) (s : State) : State :=
  qs.foldl (fun t q => (queueInt t q).entries.foldl (fun u e => passEntry u q e) t) s

/-- The functions that own some queues. -/
def ownersOf (s : State) (qs : List Nat) : List Nat := (qs.map (queueFn s)).eraseDups

/-- PASS_COMPLETE: the entries of the mirror, as the hosts' rings show them, meet their fates; the status blocks are written,
vector 0 is sent, and the device is ACTIVE_SOLO (R925 to R930). -/
def execPassComplete (images : List (Nat × Nat × Nat)) (s : State) : Out :=
  run s fun s =>
    if pairState s ≠ pPromoting then s
    else
      let qs := liveQueues s
      match rebuildAll images qs (setPair s pSolo) with
      | none => s
      | some t =>
        let t := coverRebuilt t qs
        let t := t.pair.records.foldl (fun u p => passRecord u p.1 p.2) t
        let t := t.pair.ops.foldl passLost (passQueues qs t)
        let t := qs.foldl retireQueue t
        let t := qs.foldl updateStatus t
        let t := (ownersOf t qs).foldl (fun u f => requestVector u f 0) t
        raise (updPair t fun p => { p with entries := [], ops := [], records := [] }) 0x224

/-! ### PAIR stores of stewards -/

/-- What the PAIR fields with commands of their own do at a store. -/
def storePair (who : Initiator) (w : Stored) (s : State) : State :=
  if w.sets PAIR_KICK.kick then nextOr s (execPairKick who s)
  else if w.sets PAIR_CMD.go then
    match s.rd PAIR_CMD.action with
    | 0 => nextOr s (execPromote who (s.on PAIR_CMD.force) s)
    | 1 => nextOr s (execHandover who s)
    | _ => s
  else s

end Sys2Proof.Machine
end

