-- ==== Sys2Proof/Machine/RelayMemory.lean ====
section
/-! DEFINITION. Loads, stores and atomic accesses of relay threads and stewards, the return of a load, and RLY_TCMD STEP
(R674 to R678, R700, R717 to R731). -/
namespace Sys2Proof.Machine

/-! ### Checks (R717 to R720, R748, R749) -/

/-- A setup register refuses a store. -/
def exSetup : Nat := 9

/-- An access: its size, and whether it stores, reads and modifies, or moves a line. -/
structure AccessKind where
  size   : Nat
  write  : Bool
  atomic : Bool
  line   : Bool
deriving DecidableEq, Repr

/-- A load or store of some bytes. -/
def plainAccess (n : Nat) (write : Bool) : AccessKind := ⟨n, write, false, decide (n = 64)⟩
/-- An AMO or CAS. -/
def atomicAccess : AccessKind := ⟨8, true, true, false⟩

/-- The address lies in the setup-register range. -/
def isSetup (addr : Nat) : Bool := decide (setupBase ≤ addr) && decide (addr < setupBase + 0x4000000)

/-- The initiator as which an agent reaches the setup registers. -/
def initiatorOf (a : Nat) : Initiator := if isThread a then .relay a else .steward (a - 512)

/-- The protection unit refuses an access (R748, R749). -/
def rightsFail (s : State) (a addr : Nat) (k : AccessKind) : Bool :=
  let r := rightsAt s a addr
  (k.write && !r.wr) || ((!k.write || k.atomic) && !r.rd)

/-- The first check of R720 that an access at an address fails, but for the last. -/
def accessFault (s : State) (a addr : Nat) (k : AccessKind) : Option Nat :=
  if addr % k.size ≠ 0 then some exMisaligned
  else if isSetup addr && (k.line || k.atomic || decide (k.size < 4)) then some exMisaligned
  else match resolve s a addr k.size with
    | none => some exAccess
    | some (.ram g) =>
      if inChannelRange g then some exAccess
      else if isThread a && (areaOwner g).any (fun t => decide (t ≠ a)) then some exStaging
      else if rightsFail s a addr k then some exProtection else none
    | some (.window _ _) => if k.atomic || rightsFail s a addr k then some exProtection else none
    | some (.setup off) =>
      if rightsFail s a addr k then some exProtection
      else if k.write && !reaches (initiatorOf a) off then some exSetup else none

/-! ### What an access waits for (R728, R802, R876) -/

/-- A memory at a global address has not been initialised (R876). -/
def memWaits (s : State) (g : Nat) : Bool :=
  if g6Base ≤ g then !s.start.g6 else if stewardBase 0 ≤ g then !s.start.steward else !s.start.sram

/-- The PF through which a host window reaches its link (R37, R807). -/
def windowFn (s : State) (link : Nat) : Option Nat :=
  (List.range 8).find? fun p => s.on HIF_PF_CFG.enable p && decide (s.rd HIF_PF_CFG.link p = link)

/-- A host-window access can be made (R807). -/
def windowOpen (s : State) (link : Nat) : Option Nat := (windowFn s link).filter fun p => fnLive s p

/-- The lane queue of a thread's core is full (R670, R675); accesses to the core's own local memory use no lane (R674). -/
def laneFull (s : State) (a addr : Nat) : Bool :=
  isThread a && !isLocal addr && decide (16 ≤ Map.get s.rly.lane (coreOf a))

/-- The access waits: a HURDLE holds it, its lane queue is full, its memory is not initialised, or no tag is free for its
request. -/
def accessWaits (s : State) (a addr : Nat) (k : AccessKind) : Bool :=
  ((agentInt s a).fence && !(agentInt s a).loads.isEmpty) || laneFull s a addr
    || match resolve s a addr k.size with
      | some (.ram g) => memWaits s g
      | some (.window l _) => !k.write && (windowOpen s l).any fun p => (freeTag s ((linkOf s p).getD 0 / 4)).isNone
      | _ => false

/-- An agent issues an access: `f` is its effect at the place where the address leads. -/
def issueAccess (a : Nat) (regs : List Nat) (addr : Nat) (k : AccessKind) (f : AddrAt → State → State) (s : State) : State :=
  let fault := accessFault s a addr k
  let place := resolve s a addr k.size
  if (fetchFault s a).isNone && fault.isNone && accessWaits s a addr k then s
  else issue a regs (fun s =>
    match fault, place with
    | some c, _ => exception s a c addr
    | none, some x => f x (updAgent s a fun y => { y with fence := false })
    | none, none => s) s

/-! ### Charges (R81, R674) -/

/-- The cluster whose shared memory holds a global address. -/
def clusterMem (g : Nat) : Option Nat :=
  let b := sramBase + 0x08A00000
  if b ≤ g ∧ g < b + 8 * 0x200000 then some ((g - b) / 0x200000) else none

/-- A request of a thread joins the lane queue of its core, and is charged (R81, R675). -/
def laneSlot (s : State) (a : Nat) : State :=
  if isThread a then
    let acct := (threadInt s a).account
    let s := { s with rly := { s.rly with lane := Map.upd s.rly.lane (coreOf a) fun n => n + 1 } }
    pmc (activity s (coreOf a) 0 3 1 acct) 0x702 (coreOf a) 1 (some acct)
  else s

/-- The energy and counts of an access. -/
def chargeAccess (s : State) (a addr : Nat) (write : Bool) : AddrAt → State
  | .ram g =>
    if isLocal addr && isThread a then s
    else
      let s := laneSlot s a
      let acct := agentAccount s a
      match clusterMem g with
      | some c => activity (fabricFlits (needDomain s (64 + c)) 64 acct) (64 + c) 1 2 1 acct
      | none => if g6Base ≤ g then g6Access s g write acct else sramAccess s 1 acct
  | .window l _ => match windowFn (laneSlot s a) l with
    | some p => pcieBytes (laneSlot s a) p 64 (agentAccount s a)
    | none => laneSlot s a
  | .setup _ => laneSlot s a

/-! ### Loads (R717, R718, R721, R724, R807) -/

/-- The address of a host memory request for an offset in a link's window (R37). -/
def windowAddr (s : State) (link off : Nat) : Nat := (s.rd HIF_HWIN_BASE.base link * 2 ^ 40 + off) % 2 ^ 64

/-- A load joins those that are outstanding, and the agent goes on. -/
def pushLoad (s : State) (a : Nat) (l : Load) : State := advance (updAgent s a fun x => { x with loads := x.loads ++ [l] }) a

/-- The effect of a load of `k` into `regs` registers from `rd`. -/
def loadAt (a rd regs addr : Nat) (k : AccessKind) (p : AddrAt) (s : State) : State :=
  let s := chargeAccess s a addr false p
  let l : Load := ⟨rd, regs, k.size, addr, agentPc s a, 0, none, false, 0⟩
  match p with
  | .ram g =>
    let x := areaLoad s g k.size
    pushLoad x.2 a { l with data := ofLe x.1, bad := memBad s g k.size }
  | .window link off => match windowOpen s link with
    | none => pushLoad s a { l with link := some link, bad := true }
    | some f => pushLoad (issueRead s f (.hostLoad a)) a { l with link := some link, host := windowAddr s link off }
  | .setup off =>
    let x := setupLoad (initiatorOf a) off k.size s
    pushLoad x.2 a { l with data := x.1 }

/-- The address ra + sext(imm16). -/
def effAddr (s : State) (a ra imm : Nat) : Nat := w64 (greg s a ra + sext 16 imm)

/-- A load of `n` bytes. -/
def issueLoad (n a rd ra imm : Nat) (s : State) : State :=
  let addr := effAddr s a ra imm
  if waitsForLoad s a [rd, ra] then s else issueAccess a [rd, ra] addr (plainAccess n false) (loadAt a rd 1 addr (plainAccess n false)) s

/-- LDB. -/
def execLdb (agent rd ra imm : Nat) (s : State) : Out := run s (issueLoad 1 agent rd ra imm)
/-- LDH. -/
def execLdh (agent rd ra imm : Nat) (s : State) : Out := run s (issueLoad 2 agent rd ra imm)
/-- LDW. -/
def execLdw (agent rd ra imm : Nat) (s : State) : Out := run s (issueLoad 4 agent rd ra imm)
/-- LDD. -/
def execLdd (agent rd ra imm : Nat) (s : State) : Out := run s (issueLoad 8 agent rd ra imm)

/-- A register group of LDL and STL (R718). -/
def lineGroup (r : Nat) : Bool := r % 32 = 8 || r % 32 = 16 || r % 32 = 24

/-- The registers of a group. -/
def groupRegs (r : Nat) : List Nat := (List.range 8).map fun i => r % 32 + i

/-- A load of a line into a group. -/
def issueLdl (a rd ra imm : Nat) (s : State) : State :=
  if !lineGroup rd then issue a [ra] (fun s => exception s a exIllegal 0) s
  else
    let addr := effAddr s a ra imm
    if waitsForLoad s a (ra :: groupRegs rd) then s
    else issueAccess a (ra :: groupRegs rd) addr (plainAccess 64 false) (loadAt a (rd % 32) 8 addr (plainAccess 64 false)) s

/-- LDL: eight registers take a line. -/
def execLdl (agent rd ra imm : Nat) (s : State) : Out := run s (issueLdl agent rd ra imm)

/-- The registers of a load take its data, 8 bytes each; a load of one register takes the value itself. -/
def takeData (s : State) (a : Nat) (l : Load) (v : Nat) : State :=
  (List.range l.regs).foldl (fun t i => setGreg t a (l.rd + i) (bitsAt v (64 * i) 64)) s

/-- A host load has failed after the retry (R724); one whose result is discarded reports nothing (R667). -/
def hostLoadFailed (s : State) (a : Nat) (l : Load) (link : Nat) : State :=
  if l.regs = 0 then s
  else updAgent (takeData s a l (2 ^ (64 * l.regs) - 1)) a fun x => { x with hostFail := true, hostLink := link }

/-- The data of the oldest load of an agent returns. -/
def returnLoad (s : State) (a : Nat) (l : Load) (data : Bytes) (ok : Bool) : State :=
  let done := updAgent s a fun x => { x with loads := x.loads.tail }
  match l.link with
  | none =>
    if l.regs = 0 then done
    else if l.bad then exceptionAt (detFailed done) a exDetFault l.pc l.addr else takeData done a l l.data
  | some link =>
    if l.size = 0 then done
    else if l.bad then hostLoadFailed done a l link
    else if readFailed s (.hostLoad a) then hostLoadFailed (takeFailure done (.hostLoad a)) a l link
    else if s.hif.reqs.any fun r => decide (r.owner = .hostLoad a) then
      (if ok then takeData (endRead done (.hostLoad a)) a l (ofLe (fitBytes l.size data))
        else hostLoadFailed (endRead done (.hostLoad a)) a l link)
    else s

/-- LOAD_RETURN: the oldest outstanding load of an agent returns; the bytes and whether they are good are the host's where
it comes from a host window (R721 to R724). -/
def execLoadReturn (agent : Nat) (data : Bytes) (ok : Bool) (s : State) : Out :=
  run s fun s => match (agentInt s agent).loads with
    | [] => s
    | l :: _ => returnLoad s agent l data ok

/-! ### Stores (R717, R718, R723, R724) -/

/-- What the fields of a setup store do that have commands of their own beside those of `setupStore`. -/
abbrev StoreHook := Initiator → Stored → State → State

/-- No further field. -/
def noHook : StoreHook := fun _ _ s => s

/-- The effect of a store of `k` with a value. -/
def storeAt (hook : StoreHook) (a addr : Nat) (k : AccessKind) (v : Nat) (p : AddrAt) (s : State) : State :=
  let s := chargeAccess s a addr true p
  match p with
  | .ram g => advance (areaStore s g (leBytes k.size v)) a
  | .window link off => match windowOpen s link with
    | none => advance s a
    | some f =>
      let s := hostWrite s f (windowAddr s link off) (leBytes k.size v)
      advance (updAgent s a fun x => { x with touched := if x.touched.contains link then x.touched else x.touched ++ [link] }) a
  | .setup off =>
    let t := setupStore (initiatorOf a) off k.size v (advance s a)
    hook (initiatorOf a) ⟨off, k.size, v, s⟩ t

/-- A store of `n` bytes. -/
def issueStore (hook : StoreHook) (n a rs ra imm : Nat) (s : State) : State :=
  let addr := effAddr s a ra imm
  if waitsForLoad s a [rs, ra] then s
  else issueAccess a [rs, ra] addr (plainAccess n true) (storeAt hook a addr (plainAccess n true) (greg s a rs % 2 ^ (8 * n))) s

/-- The line that a group stores. -/
def groupValue (s : State) (a r : Nat) : Nat := (List.range 8).foldl (fun v i => v + greg s a (r % 32 + i) <<< (64 * i)) 0

/-- A store of a line from a group. -/
def issueStl (hook : StoreHook) (a rs ra imm : Nat) (s : State) : State :=
  if !lineGroup rs then issue a [ra] (fun s => exception s a exIllegal 0) s
  else
    let addr := effAddr s a ra imm
    if waitsForLoad s a (ra :: groupRegs rs) then s
    else issueAccess a (ra :: groupRegs rs) addr (plainAccess 64 true) (storeAt hook a addr (plainAccess 64 true) (groupValue s a rs)) s

/-! ### Atomic accesses (R725) -/

/-- The new value of an AMO; none for a reserved function. -/
def amoFn (fn old x : Nat) : Option Nat :=
  match fn with
  | 0 => some (w64 (old + x))
  | 1 => some x
  | 2 => some (old &&& x)
  | 3 => some (old ||| x)
  | 4 => some (max old x)
  | _ => none

/-- The effect of an AMO or CAS: the 8 bytes take a value made from the old one, and rd takes the old one. -/
def atomicAt (a rd addr : Nat) (f : Nat → Nat) (p : AddrAt) (s : State) : State :=
  let s := chargeAccess s a addr true p
  match p with
  | .ram g =>
    let x := areaLoad s g 8
    if memBad s g 8 then exception (detFailed s) a exDetFault addr
    else retireTo (areaStore x.2 g (leBytes 8 (f (ofLe x.1)))) a rd (ofLe x.1)
  | _ => s

/-- An AMO. -/
def issueAmo (a rd ra rb fn : Nat) (s : State) : State :=
  let x := greg s a rb
  if waitsForLoad s a [rd, ra, rb] then s
  else if (amoFn fn 0 0).isNone then issue a [] (fun s => exception s a exIllegal 0) s
  else issueAccess a [rd, ra, rb] (greg s a ra) atomicAccess (atomicAt a rd (greg s a ra) fun old => (amoFn fn old x).getD old) s

/-- AMO. -/
def execAmo (agent rd ra rb fn : Nat) (s : State) : Out := run s (issueAmo agent rd ra rb fn)

/-- A CAS. -/
def issueCas (a rd ra rb : Nat) (s : State) : State :=
  let want := greg s a rd
  let new := greg s a rb
  if waitsForLoad s a [rd, ra, rb] then s
  else issueAccess a [rd, ra, rb] (greg s a ra) atomicAccess (atomicAt a rd (greg s a ra) fun old => if old = want then new else old) s

/-- CAS. -/
def execCas (agent rd ra rb : Nat) (s : State) : Out := run s (issueCas agent rd ra rb)

/-! ### STEP (R700, R705, R706) -/

/-- An agent issues the instruction that a word spells. -/
def issueWord (a w : Nat) (s : State) : Out :=
  match decodeRelay w with
  | none => execIllegalInstruction a w s
  | some i => match i with
    | .add rd ra rb => execAdd a rd ra rb s
    | .sub rd ra rb => execSub a rd ra rb s
    | .and rd ra rb => execAnd a rd ra rb s
    | .or rd ra rb => execOr a rd ra rb s
    | .xor rd ra rb => execXor a rd ra rb s
    | .shl rd ra rb => execShl a rd ra rb s
    | .shr rd ra rb => execShr a rd ra rb s
    | .sar rd ra rb => execSar a rd ra rb s
    | .mul rd ra rb => execMul a rd ra rb s
    | .mulhu rd ra rb => execMulhu a rd ra rb s
    | .minu rd ra rb => execMinu a rd ra rb s
    | .maxu rd ra rb => execMaxu a rd ra rb s
    | .slt rd ra rb => execSlt a rd ra rb s
    | .sltu rd ra rb => execSltu a rd ra rb s
    | .crcc rd ra rb fn => execCrcc a rd ra rb fn s
    | .bits rd ra fn => execBits a rd ra fn s
    | .addi rd ra imm => execAddi a rd ra imm s
    | .andi rd ra imm => execAndi a rd ra imm s
    | .ori rd ra imm => execOri a rd ra imm s
    | .xori rd ra imm => execXori a rd ra imm s
    | .shi rd ra imm => execShi a rd ra imm s
    | .slti rd ra imm => execSlti a rd ra imm s
    | .movk rd k imm => execMovk a rd k imm s
    | .addpc rd imm => execAddpc a rd imm s
    | .ldb rd ra imm => execLdb a rd ra imm s
    | .ldh rd ra imm => execLdh a rd ra imm s
    | .ldw rd ra imm => execLdw a rd ra imm s
    | .ldd rd ra imm => execLdd a rd ra imm s
    | .stb rs ra imm => run s (issueStore noHook 1 a rs ra imm)
    | .sth rs ra imm => run s (issueStore noHook 2 a rs ra imm)
    | .stw rs ra imm => run s (issueStore noHook 4 a rs ra imm)
    | .std rs ra imm => run s (issueStore noHook 8 a rs ra imm)
    | .ldl rd ra imm => execLdl a rd ra imm s
    | .stl rs ra imm => run s (issueStl noHook a rs ra imm)
    | .amo rd ra rb fn => execAmo a rd ra rb fn s
    | .cas rd ra rb => execCas a rd ra rb s
    | .beq ra rb off => execBeq a ra rb off s
    | .bne ra rb off => execBne a ra rb off s
    | .blt ra rb off => execBlt a ra rb off s
    | .bge ra rb off => execBge a ra rb off s
    | .bltu ra rb off => execBltu a ra rb off s
    | .bgeu ra rb off => execBgeu a ra rb off s
    | .jal rd off => execJal a rd off s
    | .jalr rd ra imm => execJalr a rd ra imm s
    | .hurdle fn => execRelayHurdle a fn s
    | .bsend rd ra fn => execBsend a rd ra fn s
    | .brecv rd ra fn => execBrecv a rd ra fn s
    | .wait rd mask => execWait a rd mask s
    | .thset rd ra rb n => execThset a rd ra rb n s
    | .thgo rd n => execThgo a rd n s
    | .thstop rd n => execThstop a rd n s
    | .thexit => execThexit a s
    | .brk imm => execBrk a imm s
    | .srr rd n => execSrr a rd n s
    | .srw ra n => execSrw a ra n s
    | .calls imm => execCalls a imm s
    | .sret => execSret a s
    | .sleep => execSleep a s

/-- The word at an agent's pc, where a fetch reaches one. -/
def wordAtPc (s : State) (a : Nat) : Nat :=
  match resolve s a (agentPc s a) 4 with
  | some (.ram g) => ofLe (memLoad s g 4)
  | _ => 0

/-- A HALTED thread issues the instruction at its pc, when its core's turn comes to it, and halts again. -/
def stepThread (s : State) (t : Nat) : State :=
  let turn := Map.get s.rly.lastIssue (coreOf t)
  let s := resumeThread { s with rly := { s.rly with lastIssue := Map.set s.rly.lastIssue (coreOf t) (t % 8) } } t
  let s := nextOr s (issueWord t (wordAtPc s t) s)
  let s := if Map.get s.rly.lastIssue (coreOf t) = t % 8 + 1 then s
    else { s with rly := { s.rly with lastIssue := Map.set s.rly.lastIssue (coreOf t) turn } }
  if threadState s t = thReady ∨ threadState s t = thWait then haltThread s t else s

/-- STEP of a HALTED thread through RLY_TCMD. -/
def execThreadStep (who : Initiator) (thread : Nat) (s : State) : Out :=
  run s (threadCommand who thread 4 (fun s => decide (threadState s thread = thHalted)) fun s => stepThread s thread)

/-- The fields of a steward's store that have commands beside those of `setupStore`: STEP, and those of PAIR. -/
def stewardHook : StoreHook := fun who w s =>
  if w.sets RLY_TCMD.go && decide (s.rd RLY_TCMD.action = 4) then nextOr s (execThreadStep who (s.rd RLY_TCMD.thread) s)
  else storePair who w s

/-- STB. -/
def execStb (agent rs ra imm : Nat) (s : State) : Out := run s (issueStore stewardHook 1 agent rs ra imm)
/-- STH. -/
def execSth (agent rs ra imm : Nat) (s : State) : Out := run s (issueStore stewardHook 2 agent rs ra imm)
/-- STW. -/
def execStw (agent rs ra imm : Nat) (s : State) : Out := run s (issueStore stewardHook 4 agent rs ra imm)
/-- STD. -/
def execStd (agent rs ra imm : Nat) (s : State) : Out := run s (issueStore stewardHook 8 agent rs ra imm)
/-- STL: a line takes eight registers. -/
def execStl (agent rs ra imm : Nat) (s : State) : Out := run s (issueStl stewardHook agent rs ra imm)

end Sys2Proof.Machine
end

