-- ==== Sys2Proof/Machine/Dispatch.lean ====
section
/-! DEFINITION. The dispatch of a command to its meaning: one arm for each row of the table. -/
namespace Sys2Proof.Machine

/-- The effect of a command on everything but the queue of waiting commands. -/
def exec (i : Instr) (s : State) : Host.Outcome State Fault Refusal :=
  match i with
  | .registerWrite who addr len value => Sys2Proof.Machine.execRegisterWrite who addr len value s
  | .enableWrite who b v => Sys2Proof.Machine.execEnableWrite who b v s
  | .lockSet who b => Sys2Proof.Machine.execLockSet who b s
  | .applyNow who b => Sys2Proof.Machine.execApplyNow who b s
  | .armTime who b applyNow => Sys2Proof.Machine.execArmTime who b applyNow s
  | .disarmTime who b => Sys2Proof.Machine.execDisarmTime who b s
  | .applyTimeWrite who b applyTt => Sys2Proof.Machine.execApplyTimeWrite who b applyTt s
  | .armedApplication b => Sys2Proof.Machine.execArmedApplication b s
  | .application b => Sys2Proof.Machine.execApplication b s
  | .bankCopyDone pipe => Sys2Proof.Machine.execBankCopyDone pipe s
  | .scheduledEvent => Sys2Proof.Machine.execScheduledEvent s
  | .ttLoad who value => Sys2Proof.Machine.execTtLoad who value s
  | .ttStep who delta => Sys2Proof.Machine.execTtStep who delta s
  | .ttPhaseAdj who value => Sys2Proof.Machine.execTtPhaseAdj who value s
  | .ttFreqAdj who value => Sys2Proof.Machine.execTtFreqAdj who value s
  | .ttServoWrite who locked => Sys2Proof.Machine.execTtServoWrite who locked s
  | .ttNowRead who => Sys2Proof.Machine.execTtNowRead who s
  | .ppsEdge => Sys2Proof.Machine.execPpsEdge s
  | .ppsWindowExpiry => Sys2Proof.Machine.execPpsWindowExpiry s
  | .servoWatchdogExpiry => Sys2Proof.Machine.execServoWatchdogExpiry s
  | .lockAcquired => Sys2Proof.Machine.execLockAcquired s
  | .refclkFault => Sys2Proof.Machine.execRefclkFault s
  | .txtsPop who port => Sys2Proof.Machine.execTxtsPop who port s
  | .legBoundary => Sys2Proof.Machine.execLegBoundary s
  | .billingMinuteBoundary => Sys2Proof.Machine.execBillingMinuteBoundary s
  | .ppsOutRise => Sys2Proof.Machine.execPpsOutRise s
  | .ppsOutFall => Sys2Proof.Machine.execPpsOutFall s
  | .imonSample core mem io => Sys2Proof.Machine.execImonSample core mem io s
  | .legCommit => Sys2Proof.Machine.execLegCommit s
  | .ledgerMinuteWrite => Sys2Proof.Machine.execLedgerMinuteWrite s
  | .ledgerConsWrite who cons => Sys2Proof.Machine.execLedgerConsWrite who cons s
  | .nrgCredit who account delta => Sys2Proof.Machine.execNrgCredit who account delta s
  | .snapDone who => Sys2Proof.Machine.execSnapDone who s
  | .domainIdleOff domain => Sys2Proof.Machine.execDomainIdleOff domain s
  | .domainOffComplete domain => Sys2Proof.Machine.execDomainOffComplete domain s
  | .domainWake domain => Sys2Proof.Machine.execDomainWake domain s
  | .thermalSample readings => Sys2Proof.Machine.execThermalSample readings s
  | .doorbell fn off len value => Sys2Proof.Machine.execDoorbell fn off len value s
  | .push fn off len image => Sys2Proof.Machine.execPush fn off len image s
  | .arbitrationVisit => Sys2Proof.Machine.execArbitrationVisit s
  | .fetchCompletion q ok data => Sys2Proof.Machine.execFetchCompletion q ok data s
  | .padEntry q => Sys2Proof.Machine.execPadEntry q s
  | .nopEntry q sseq => Sys2Proof.Machine.execNopEntry q sseq s
  | .queueCtlStart q sseq => Sys2Proof.Machine.execQueueCtlStart q sseq s
  | .queueCtlStop q sseq => Sys2Proof.Machine.execQueueCtlStop q sseq s
  | .queueCtlReset q sseq => Sys2Proof.Machine.execQueueCtlReset q sseq s
  | .qcmdStart who queue => Sys2Proof.Machine.execQcmdStart who queue s
  | .qcmdStop who queue => Sys2Proof.Machine.execQcmdStop who queue s
  | .qcmdReset who queue => Sys2Proof.Machine.execQcmdReset who queue s
  | .queueContextWrite who q off len value => Sys2Proof.Machine.execQueueContextWrite who q off len value s
  | .groupOwnerWrite who group value => Sys2Proof.Machine.execGroupOwnerWrite who group value s
  | .wqErrqRead who => Sys2Proof.Machine.execWqErrqRead who s
  | .entryFinish q sseq => Sys2Proof.Machine.execEntryFinish q sseq s
  | .statusBlockUpdate q => Sys2Proof.Machine.execStatusBlockUpdate q s
  | .consumerPoll r ok value => Sys2Proof.Machine.execConsumerPoll r ok value s
  | .moderationTimer r => Sys2Proof.Machine.execModerationTimer r s
  | .abortEntry q sseq => Sys2Proof.Machine.execAbortEntry q sseq s
  | .abortRequestArrival q sseq => Sys2Proof.Machine.execAbortRequestArrival q sseq s
  | .ringContextWrite who r off len value => Sys2Proof.Machine.execRingContextWrite who r off len value s
  | .cqStallqRead who => Sys2Proof.Machine.execCqStallqRead who s
  | .hurdleEntry q sseq => Sys2Proof.Machine.execHurdleEntry q sseq s
  | .hurdleFinish q sseq => Sys2Proof.Machine.execHurdleFinish q sseq s
  | .flushReadComplete link q sseq => Sys2Proof.Machine.execFlushReadComplete link q sseq s
  | .abacusSweep => Sys2Proof.Machine.execAbacusSweep s
  | .abacusLogRead who => Sys2Proof.Machine.execAbacusLogRead who s
  | .detectionReread place pass redone => Sys2Proof.Machine.execDetectionReread place pass redone s
  | .frameReceive port frame corrected uncorrected => Sys2Proof.Machine.execFrameReceive port frame corrected uncorrected s
  | .pfcRefresh port => Sys2Proof.Machine.execPfcRefresh port s
  | .pauseExpiry port => Sys2Proof.Machine.execPauseExpiry port s
  | .linkChange port up => Sys2Proof.Machine.execLinkChange port up s
  | .passEnter pipe => Sys2Proof.Machine.execPassEnter pipe s
  | .espEncrypt pipe => Sys2Proof.Machine.execEspEncrypt pipe s
  | .espDecrypt pipe => Sys2Proof.Machine.execEspDecrypt pipe s
  | .passEnd pipe => Sys2Proof.Machine.execPassEnd pipe s
  | .slowPathBaton pipe => Sys2Proof.Machine.execSlowPathBaton pipe s
  | .reinject pipe => Sys2Proof.Machine.execReinject pipe s
  | .sendToPort pipe => Sys2Proof.Machine.execSendToPort pipe s
  | .deliverToHost pipe => Sys2Proof.Machine.execDeliverToHost pipe s
  | .freeLines pipe => Sys2Proof.Machine.execFreeLines pipe s
  | .reinjectBad pipe => Sys2Proof.Machine.execReinjectBad pipe s
  | .netSend q sseq ok frame => Sys2Proof.Machine.execNetSend q sseq ok frame s
  | .netPostRx q sseq => Sys2Proof.Machine.execNetPostRx q sseq s
  | .ppEthModeWrite who quad mode => Sys2Proof.Machine.execPpEthModeWrite who quad mode s
  | .flowCounterSnapshot who => Sys2Proof.Machine.execFlowCounterSnapshot who s
  | .tableValidate who table => Sys2Proof.Machine.execTableValidate who table s
  | .tableClearDone table => Sys2Proof.Machine.execTableClearDone table s
  | .tableInvalidate who table => Sys2Proof.Machine.execTableInvalidate who table s
  | .ftInsert who port => Sys2Proof.Machine.execFtInsert who port s
  | .ftUpdate who port => Sys2Proof.Machine.execFtUpdate who port s
  | .ftUpsert who port => Sys2Proof.Machine.execFtUpsert who port s
  | .ftDelete who port => Sys2Proof.Machine.execFtDelete who port s
  | .ftLookup who port => Sys2Proof.Machine.execFtLookup who port s
  | .ftReadSlot who port => Sys2Proof.Machine.execFtReadSlot who port s
  | .ftWriteResult who port => Sys2Proof.Machine.execFtWriteResult who port s
  | .ftTernWrite who port => Sys2Proof.Machine.execFtTernWrite who port s
  | .ftTernRead who port => Sys2Proof.Machine.execFtTernRead who port s
  | .learnApply pipe => Sys2Proof.Machine.execLearnApply pipe s
  | .stampWrite table copy => Sys2Proof.Machine.execStampWrite table copy s
  | .ageScan table copy => Sys2Proof.Machine.execAgeScan table copy s
  | .ageRemoval table copy => Sys2Proof.Machine.execAgeRemoval table copy s
  | .tableAuditCopyEnd => Sys2Proof.Machine.execTableAuditCopyEnd s
  | .ftLostRead who => Sys2Proof.Machine.execFtLostRead who s
  | .refillBoundary => Sys2Proof.Machine.execRefillBoundary s
  | .portChoice port => Sys2Proof.Machine.execPortChoice port s
  | .frameTxDone port => Sys2Proof.Machine.execFrameTxDone port s
  | .gateArm who port => Sys2Proof.Machine.execGateArm who port s
  | .gateAdoption port => Sys2Proof.Machine.execGateAdoption port s
  | .gateEntryChange port => Sys2Proof.Machine.execGateEntryChange port s
  | .meterRead who => Sys2Proof.Machine.execMeterRead who s
  | .meterWrite who => Sys2Proof.Machine.execMeterWrite who s
  | .tmCounterSnapshot who => Sys2Proof.Machine.execTmCounterSnapshot who s
  | .trnWrite q sseq => Sys2Proof.Machine.execTrnWrite q sseq s
  | .trnWriteImm q sseq => Sys2Proof.Machine.execTrnWriteImm q sseq s
  | .trnRead q sseq => Sys2Proof.Machine.execTrnRead q sseq s
  | .regionRegister q sseq => Sys2Proof.Machine.execRegionRegister q sseq s
  | .regionRevoke q sseq => Sys2Proof.Machine.execRegionRevoke q sseq s
  | .regionDrained index => Sys2Proof.Machine.execRegionDrained index s
  | .pacerAdmit conn ok data => Sys2Proof.Machine.execPacerAdmit conn ok data s
  | .trnPacketReceive => Sys2Proof.Machine.execTrnPacketReceive s
  | .writeReceive conn => Sys2Proof.Machine.execWriteReceive conn s
  | .writeImmReceive conn => Sys2Proof.Machine.execWriteImmReceive conn s
  | .readReqReceive conn => Sys2Proof.Machine.execReadReqReceive conn s
  | .readRespReceive conn => Sys2Proof.Machine.execReadRespReceive conn s
  | .ackReceive conn => Sys2Proof.Machine.execAckReceive conn s
  | .nakReceive conn => Sys2Proof.Machine.execNakReceive conn s
  | .retryLaterReceive conn => Sys2Proof.Machine.execRetryLaterReceive conn s
  | .retryLaterResume conn => Sys2Proof.Machine.execRetryLaterResume conn s
  | .ackTimer conn => Sys2Proof.Machine.execAckTimer conn s
  | .retransmitTimeout conn => Sys2Proof.Machine.execRetransmitTimeout conn s
  | .contextFetchDone conn ok image => Sys2Proof.Machine.execContextFetchDone conn ok image s
  | .parkTimeout => Sys2Proof.Machine.execParkTimeout s
  | .connCreate who conn => Sys2Proof.Machine.execConnCreate who conn s
  | .trnConnReset who conn => Sys2Proof.Machine.execTrnConnReset who conn s
  | .trnConnRead who conn => Sys2Proof.Machine.execTrnConnRead who conn s
  | .rgnBlockWrite who b value => Sys2Proof.Machine.execRgnBlockWrite who b value s
  | .trnConnErrqRead who => Sys2Proof.Machine.execTrnConnErrqRead who s
  | .blkRead q sseq ok => Sys2Proof.Machine.execBlkRead q sseq ok s
  | .blkWrite q sseq ok data => Sys2Proof.Machine.execBlkWrite q sseq ok data s
  | .blkFlush q sseq => Sys2Proof.Machine.execBlkFlush q sseq s
  | .blkTrim q sseq => Sys2Proof.Machine.execBlkTrim q sseq s
  | .blkSelfTest q sseq good => Sys2Proof.Machine.execBlkSelfTest q sseq good s
  | .blkLogRead q sseq => Sys2Proof.Machine.execBlkLogRead q sseq s
  | .blkResume q sseq => Sys2Proof.Machine.execBlkResume q sseq s
  | .stagingGrant => Sys2Proof.Machine.execStagingGrant s
  | .stagingComplete q sseq => Sys2Proof.Machine.execStagingComplete q sseq s
  | .backendDispatch q sseq => Sys2Proof.Machine.execBackendDispatch q sseq s
  | .backendReply => Sys2Proof.Machine.execBackendReply s
  | .verifyDispatch q sseq => Sys2Proof.Machine.execVerifyDispatch q sseq s
  | .volumeWrite who => Sys2Proof.Machine.execVolumeWrite who s
  | .volumeRead who => Sys2Proof.Machine.execVolumeRead who s
  | .blkFrozenqRead who => Sys2Proof.Machine.execBlkFrozenqRead who s
  | .encryptJob q sseq ok text aad => Sys2Proof.Machine.execEncryptJob q sseq ok text aad s
  | .decryptJob q sseq ok text aad tag => Sys2Proof.Machine.execDecryptJob q sseq ok text aad tag s
  | .hashJob q sseq ok text => Sys2Proof.Machine.execHashJob q sseq ok text s
  | .macJob q sseq ok text => Sys2Proof.Machine.execMacJob q sseq ok text s
  | .macVerifyJob q sseq ok text mac => Sys2Proof.Machine.execMacVerifyJob q sseq ok text mac s
  | .keyLoad q sseq => Sys2Proof.Machine.execKeyLoad q sseq s
  | .keyLoadDrained q sseq => Sys2Proof.Machine.execKeyLoadDrained q sseq s
  | .cipherDispatch => Sys2Proof.Machine.execCipherDispatch s
  | .cipherUnitDone core sourceOk writeOk => Sys2Proof.Machine.execCipherUnitDone core sourceOk writeOk s
  | .keySlotRead who => Sys2Proof.Machine.execKeySlotRead who s
  | .keyLower who => Sys2Proof.Machine.execKeyLower who s
  | .keyBlockWrite who block value => Sys2Proof.Machine.execKeyBlockWrite who block value s
  | .cipKeyqRead who => Sys2Proof.Machine.execCipKeyqRead who s
  | .dmaCopy q sseq => Sys2Proof.Machine.execDmaCopy q sseq s
  | .dmaRunChain q sseq => Sys2Proof.Machine.execDmaRunChain q sseq s
  | .dmaAssign => Sys2Proof.Machine.execDmaAssign s
  | .chainBlockFetchDone c ok data => Sys2Proof.Machine.execChainBlockFetchDone c ok data s
  | .linkPoll c => Sys2Proof.Machine.execLinkPoll c s
  | .endChain c => Sys2Proof.Machine.execEndChain c s
  | .chainMove c => Sys2Proof.Machine.execChainMove c s
  | .chainLoop c => Sys2Proof.Machine.execChainLoop c s
  | .dmaWaitUntil c => Sys2Proof.Machine.execDmaWaitUntil c s
  | .dmaWaitDuration c => Sys2Proof.Machine.execDmaWaitDuration c s
  | .dmaWaitSemaphore c => Sys2Proof.Machine.execDmaWaitSemaphore c s
  | .dmaWaitExpiry c => Sys2Proof.Machine.execDmaWaitExpiry c s
  | .signalWrite c => Sys2Proof.Machine.execSignalWrite c s
  | .signalSem c => Sys2Proof.Machine.execSignalSem c s
  | .signalThread c => Sys2Proof.Machine.execSignalThread c s
  | .signalMsix c => Sys2Proof.Machine.execSignalMsix c s
  | .dmaHurdle c => Sys2Proof.Machine.execDmaHurdle c s
  | .chainLink c => Sys2Proof.Machine.execChainLink c s
  | .dmaSegmentDone c data => Sys2Proof.Machine.execDmaSegmentDone c data s
  | .dmaSegmentFail c => Sys2Proof.Machine.execDmaSegmentFail c s
  | .verifyReadbackDone c ok data => Sys2Proof.Machine.execVerifyReadbackDone c ok data s
  | .chainStart who => Sys2Proof.Machine.execChainStart who s
  | .chainResume who => Sys2Proof.Machine.execChainResume who s
  | .chainRelease who => Sys2Proof.Machine.execChainRelease who s
  | .dmaChanWrite who c value => Sys2Proof.Machine.execDmaChanWrite who c value s
  | .dmaHaltqRead who => Sys2Proof.Machine.execDmaHaltqRead who s
  | .add agent rd ra rb => Sys2Proof.Machine.execAdd agent rd ra rb s
  | .sub agent rd ra rb => Sys2Proof.Machine.execSub agent rd ra rb s
  | .and agent rd ra rb => Sys2Proof.Machine.execAnd agent rd ra rb s
  | .or agent rd ra rb => Sys2Proof.Machine.execOr agent rd ra rb s
  | .xor agent rd ra rb => Sys2Proof.Machine.execXor agent rd ra rb s
  | .shl agent rd ra rb => Sys2Proof.Machine.execShl agent rd ra rb s
  | .shr agent rd ra rb => Sys2Proof.Machine.execShr agent rd ra rb s
  | .sar agent rd ra rb => Sys2Proof.Machine.execSar agent rd ra rb s
  | .mul agent rd ra rb => Sys2Proof.Machine.execMul agent rd ra rb s
  | .mulhu agent rd ra rb => Sys2Proof.Machine.execMulhu agent rd ra rb s
  | .minu agent rd ra rb => Sys2Proof.Machine.execMinu agent rd ra rb s
  | .maxu agent rd ra rb => Sys2Proof.Machine.execMaxu agent rd ra rb s
  | .slt agent rd ra rb => Sys2Proof.Machine.execSlt agent rd ra rb s
  | .sltu agent rd ra rb => Sys2Proof.Machine.execSltu agent rd ra rb s
  | .crcc agent rd ra rb fn => Sys2Proof.Machine.execCrcc agent rd ra rb fn s
  | .bits agent rd ra fn => Sys2Proof.Machine.execBits agent rd ra fn s
  | .addi agent rd ra imm => Sys2Proof.Machine.execAddi agent rd ra imm s
  | .andi agent rd ra imm => Sys2Proof.Machine.execAndi agent rd ra imm s
  | .ori agent rd ra imm => Sys2Proof.Machine.execOri agent rd ra imm s
  | .xori agent rd ra imm => Sys2Proof.Machine.execXori agent rd ra imm s
  | .shi agent rd ra imm => Sys2Proof.Machine.execShi agent rd ra imm s
  | .slti agent rd ra imm => Sys2Proof.Machine.execSlti agent rd ra imm s
  | .movk agent rd k imm => Sys2Proof.Machine.execMovk agent rd k imm s
  | .addpc agent rd imm => Sys2Proof.Machine.execAddpc agent rd imm s
  | .ldb agent rd ra imm => Sys2Proof.Machine.execLdb agent rd ra imm s
  | .ldh agent rd ra imm => Sys2Proof.Machine.execLdh agent rd ra imm s
  | .ldw agent rd ra imm => Sys2Proof.Machine.execLdw agent rd ra imm s
  | .ldd agent rd ra imm => Sys2Proof.Machine.execLdd agent rd ra imm s
  | .stb agent rs ra imm => Sys2Proof.Machine.execStb agent rs ra imm s
  | .sth agent rs ra imm => Sys2Proof.Machine.execSth agent rs ra imm s
  | .stw agent rs ra imm => Sys2Proof.Machine.execStw agent rs ra imm s
  | .std agent rs ra imm => Sys2Proof.Machine.execStd agent rs ra imm s
  | .ldl agent rd ra imm => Sys2Proof.Machine.execLdl agent rd ra imm s
  | .stl agent rs ra imm => Sys2Proof.Machine.execStl agent rs ra imm s
  | .amo agent rd ra rb fn => Sys2Proof.Machine.execAmo agent rd ra rb fn s
  | .cas agent rd ra rb => Sys2Proof.Machine.execCas agent rd ra rb s
  | .beq agent ra rb off => Sys2Proof.Machine.execBeq agent ra rb off s
  | .bne agent ra rb off => Sys2Proof.Machine.execBne agent ra rb off s
  | .blt agent ra rb off => Sys2Proof.Machine.execBlt agent ra rb off s
  | .bge agent ra rb off => Sys2Proof.Machine.execBge agent ra rb off s
  | .bltu agent ra rb off => Sys2Proof.Machine.execBltu agent ra rb off s
  | .bgeu agent ra rb off => Sys2Proof.Machine.execBgeu agent ra rb off s
  | .jal agent rd off => Sys2Proof.Machine.execJal agent rd off s
  | .jalr agent rd ra imm => Sys2Proof.Machine.execJalr agent rd ra imm s
  | .relayHurdle agent fn => Sys2Proof.Machine.execRelayHurdle agent fn s
  | .bsend agent rd ra fn => Sys2Proof.Machine.execBsend agent rd ra fn s
  | .brecv agent rd ra fn => Sys2Proof.Machine.execBrecv agent rd ra fn s
  | .wait agent rd mask => Sys2Proof.Machine.execWait agent rd mask s
  | .thset agent rd ra rb n => Sys2Proof.Machine.execThset agent rd ra rb n s
  | .thgo agent rd n => Sys2Proof.Machine.execThgo agent rd n s
  | .thstop agent rd n => Sys2Proof.Machine.execThstop agent rd n s
  | .thexit agent => Sys2Proof.Machine.execThexit agent s
  | .brk agent imm => Sys2Proof.Machine.execBrk agent imm s
  | .srr agent rd n => Sys2Proof.Machine.execSrr agent rd n s
  | .srw agent ra n => Sys2Proof.Machine.execSrw agent ra n s
  | .calls agent imm => Sys2Proof.Machine.execCalls agent imm s
  | .sret agent => Sys2Proof.Machine.execSret agent s
  | .sleep agent => Sys2Proof.Machine.execSleep agent s
  | .loadReturn agent data ok => Sys2Proof.Machine.execLoadReturn agent data ok s
  | .creditGrant ch => Sys2Proof.Machine.execCreditGrant ch s
  | .threadTimer thread => Sys2Proof.Machine.execThreadTimer thread s
  | .stallDetect core => Sys2Proof.Machine.execStallDetect core s
  | .relayStart who thread => Sys2Proof.Machine.execRelayStart who thread s
  | .relayStop who thread => Sys2Proof.Machine.execRelayStop who thread s
  | .threadHalt who thread => Sys2Proof.Machine.execThreadHalt who thread s
  | .relayResume who thread => Sys2Proof.Machine.execRelayResume who thread s
  | .threadStep who thread => Sys2Proof.Machine.execThreadStep who thread s
  | .debugRead who thread reg => Sys2Proof.Machine.execDebugRead who thread reg s
  | .debugWrite who thread reg value => Sys2Proof.Machine.execDebugWrite who thread reg value s
  | .rlyStallqRead who => Sys2Proof.Machine.execRlyStallqRead who s
  | .rlyFaultqRead who => Sys2Proof.Machine.execRlyFaultqRead who s
  | .interruptDelivery k => Sys2Proof.Machine.execInterruptDelivery k s
  | .ieoi k source => Sys2Proof.Machine.execIeoi k source s
  | .irqSwSet who source => Sys2Proof.Machine.execIrqSwSet who source s
  | .vectorUnmask fn vector => Sys2Proof.Machine.execVectorUnmask fn vector s
  | .pmcRead who n k => Sys2Proof.Machine.execPmcRead who n k s
  | .configRequest fn op => Sys2Proof.Machine.execConfigRequest fn op s
  | .bar4Access pf off len data => Sys2Proof.Machine.execBar4Access pf off len data s
  | .completionTimeout port tag => Sys2Proof.Machine.execCompletionTimeout port tag s
  | .lateCompletion port tag => Sys2Proof.Machine.execLateCompletion port tag s
  | .quarantineExpiry port tag => Sys2Proof.Machine.execQuarantineExpiry port tag s
  | .bmeClear fn => Sys2Proof.Machine.execBmeClear fn s
  | .bmeSet fn => Sys2Proof.Machine.execBmeSet fn s
  | .flrStart fn => Sys2Proof.Machine.execFlrStart fn s
  | .flrComplete fn => Sys2Proof.Machine.execFlrComplete fn s
  | .d3hotEntry pf => Sys2Proof.Machine.execD3hotEntry pf s
  | .d0Return pf => Sys2Proof.Machine.execD0Return pf s
  | .perst port asserted => Sys2Proof.Machine.execPerst port asserted s
  | .translationResponse fn page target rd wr ok => Sys2Proof.Machine.execTranslationResponse fn page target rd wr ok s
  | .invalidateRequest fn itag page pages => Sys2Proof.Machine.execInvalidateRequest fn itag page pages s
  | .invalidationCompletion fn itag => Sys2Proof.Machine.execInvalidationCompletion fn itag s
  | .atsDisable fn => Sys2Proof.Machine.execAtsDisable fn s
  | .mailboxSeqWrite who vf up seq => Sys2Proof.Machine.execMailboxSeqWrite who vf up seq s
  | .mailboxAckWrite who vf up ack => Sys2Proof.Machine.execMailboxAckWrite who vf up ack s
  | .mbxMsgqRead who => Sys2Proof.Machine.execMbxMsgqRead who s
  | .freeze who p => Sys2Proof.Machine.execFreeze who p s
  | .drainTimeout vf => Sys2Proof.Machine.execDrainTimeout vf s
  | .save who p ok => Sys2Proof.Machine.execSave who p ok s
  | .restore who p ok data => Sys2Proof.Machine.execRestore who p ok data s
  | .unfreeze who p => Sys2Proof.Machine.execUnfreeze who p s
  | .hifEvqRead who => Sys2Proof.Machine.execHifEvqRead who s
  | .deviceReset straps cool => Sys2Proof.Machine.execDeviceReset straps cool s
  | .resetNFall railsOff => Sys2Proof.Machine.execResetNFall railsOff s
  | .pllLock => Sys2Proof.Machine.execPllLock s
  | .serdesCalibrated group present => Sys2Proof.Machine.execSerdesCalibrated group present s
  | .gddr6TrainingDone device pass => Sys2Proof.Machine.execGddr6TrainingDone device pass s
  | .memoryInitDone memory => Sys2Proof.Machine.execMemoryInitDone memory s
  | .stage1Release slots => Sys2Proof.Machine.execStage1Release slots s
  | .recoveryEntry slots => Sys2Proof.Machine.execRecoveryEntry slots s
  | .phaseRequest who req => Sys2Proof.Machine.execPhaseRequest who req s
  | .reboot who straps => Sys2Proof.Machine.execReboot who straps s
  | .relayRelease who => Sys2Proof.Machine.execRelayRelease who s
  | .bootRelease who bits => Sys2Proof.Machine.execBootRelease who bits s
  | .svnAdvance who value vpp => Sys2Proof.Machine.execSvnAdvance who value vpp s
  | .revoke who key vpp => Sys2Proof.Machine.execRevoke who key vpp s
  | .programHash who key vpp => Sys2Proof.Machine.execProgramHash who key vpp s
  | .setFlag who value vpp => Sys2Proof.Machine.execSetFlag who value vpp s
  | .bootLockSet who bits => Sys2Proof.Machine.execBootLockSet who bits s
  | .measurementExtend who index => Sys2Proof.Machine.execMeasurementExtend who index s
  | .recoveryRead who len ok image => Sys2Proof.Machine.execRecoveryRead who len ok image s
  | .uartData bytes crc => Sys2Proof.Machine.execUartData bytes crc s
  | .uartEnd crc ecdsa mldsa => Sys2Proof.Machine.execUartEnd crc ecdsa mldsa s
  | .uartAbort crc => Sys2Proof.Machine.execUartAbort crc s
  | .mntStart who bits => Sys2Proof.Machine.execMntStart who bits s
  | .mntStop who bits => Sys2Proof.Machine.execMntStop who bits s
  | .activityAutoStart act => Sys2Proof.Machine.execActivityAutoStart act s
  | .activityEnd act fail => Sys2Proof.Machine.execActivityEnd act fail s
  | .scrubLine line bad redone => Sys2Proof.Machine.execScrubLine line bad redone s
  | .retrainStep device ok => Sys2Proof.Machine.execRetrainStep device ok s
  | .scrubLogRead who => Sys2Proof.Machine.execScrubLogRead who s
  | .pairBlockReceive data handover => Sys2Proof.Machine.execPairBlockReceive data handover s
  | .pairLinkUp => Sys2Proof.Machine.execPairLinkUp s
  | .pairLinkTimeout => Sys2Proof.Machine.execPairLinkTimeout s
  | .heartbeatReceive state epoch role digest => Sys2Proof.Machine.execHeartbeatReceive state epoch role digest s
  | .aliveInChange level => Sys2Proof.Machine.execAliveInChange level s
  | .aliveWatchdogExpiry => Sys2Proof.Machine.execAliveWatchdogExpiry s
  | .pairKick who => Sys2Proof.Machine.execPairKick who s
  | .deltaRecordReceive bytes => Sys2Proof.Machine.execDeltaRecordReceive bytes s
  | .deltaAckReceive pseq => Sys2Proof.Machine.execDeltaAckReceive pseq s
  | .chargeReportReceive account beads => Sys2Proof.Machine.execChargeReportReceive account beads s
  | .holdExpiry => Sys2Proof.Machine.execHoldExpiry s
  | .promotionTimer => Sys2Proof.Machine.execPromotionTimer s
  | .promote who force => Sys2Proof.Machine.execPromote who force s
  | .handover who => Sys2Proof.Machine.execHandover who s
  | .passComplete images => Sys2Proof.Machine.execPassComplete images s
  | .smbusReadTemperature => Sys2Proof.Machine.execSmbusReadTemperature s
  | .smbusReadPower => Sys2Proof.Machine.execSmbusReadPower s
  | .smbusReadStatus => Sys2Proof.Machine.execSmbusReadStatus s
  | .smbusReadThermal => Sys2Proof.Machine.execSmbusReadThermal s
  | .smbusWake data => Sys2Proof.Machine.execSmbusWake data s
  | .slewEnd => Sys2Proof.Machine.execSlewEnd s
  | .pcieLinkDown link => Sys2Proof.Machine.execPcieLinkDown link s
  | .pcieLinkUp link => Sys2Proof.Machine.execPcieLinkUp link s
  | .laneAlignmentLoss => Sys2Proof.Machine.execLaneAlignmentLoss s
  | .pmcCounterWrap => Sys2Proof.Machine.execPmcCounterWrap s
  | .fabricLinkRetrainEnd link => Sys2Proof.Machine.execFabricLinkRetrainEnd link s
  | .illegalInstruction agent word => Sys2Proof.Machine.execIllegalInstruction agent word s
  | .badInstr c => Sys2Proof.Machine.execBadInstr c s

end Sys2Proof.Machine
end

