-- ==== Sys2Proof/Safety.lean ====
section
/-! DEFINITION. What counts as a safe run: no command of the block ends in a fault or a refusal; and the conditions that
the statements name more than once. -/
namespace Sys2Proof

open Machine

/-- An outcome is a next state. -/
def goesOn {σ φ ρ : Type} : Host.Outcome σ φ ρ → Bool
  | .next _ => true
  | _ => false

/-- Every one of the first `k` steps from a state goes on. -/
def safeFor (k : Nat) (s : Machine.State) : Bool := goesOn (core.run k s)

/-- The clocks run: no thermal trip is in force and RESET_N is high (R118, R119, R957). -/
def running (s : Machine.State) : Bool := !stopped s

/-- A write of member `i` of a field by `who` acts on the block and on nothing else: `who` reaches the block (R796), and
the device is neither standby (R910) nor in RECOVERY (R866) nor mirrors its setup to a partner (R914). -/
def writable (who : Initiator) (d : Desc) (i : Nat) (s : Machine.State) : Bool :=
  reaches who (d.key i 0 / 8) && !standby s && !mirrors s && decide (s.rd BOOT_STATUS.phase ≠ 4)

end Sys2Proof
end

