-- ==== Sys2Proof/WellFormed.lean ====
section
/-! DEFINITION. Which commands are well-formed: every operand that names a member of a register array, a function, a queue or
another object lies in the range that the spec gives that object, and every value fits what carries it.  A relay
instruction is well-formed when its fields are (R710 to R712). -/
namespace Sys2Proof

open Machine (RelayInstr)

/-- A sender that exists: one of the 8 PFs and 4,096 VFs, of the 4 stewards or of the 512 relay threads. -/
def whoOk : Initiator → Bool
  | .host fn => decide (fn < 4104)
  | .steward k => decide (k < 4)
  | .relay thread => decide (thread < 512)

/-- An agent that executes relay instructions: a relay thread, or a steward from 512 on. -/
def agentOk (agent : Nat) : Bool := decide (agent < 516)

/-- The operands of a command lie in their ranges. -/
def Instr.wf : Instr → Bool
  | .registerWrite who addr len value => whoOk who && decide (addr < 2 ^ 26) && decide (value < 2 ^ (8 * len))
  | .enableWrite who _ _ => whoOk who
  | .lockSet who _ => whoOk who
  | .applyNow who _ => whoOk who
  | .armTime who _ _ => whoOk who
  | .disarmTime who _ => whoOk who
  | .applyTimeWrite who _ applyTt => whoOk who && decide (applyTt < 2 ^ 64)
  | .armedApplication _ => true
  | .application _ => true
  | .bankCopyDone pipe => decide (pipe < 2)
  | .scheduledEvent => true
  | .ttLoad who value => whoOk who && decide (value < 2 ^ 64)
  | .ttStep who delta => whoOk who && decide (delta < 2 ^ 32)
  | .ttPhaseAdj who value => whoOk who && decide (value < 2 ^ 32)
  | .ttFreqAdj who value => whoOk who && decide (value < 2 ^ 32)
  | .ttServoWrite who _ => whoOk who
  | .ttNowRead who => whoOk who
  | .ppsEdge => true
  | .ppsWindowExpiry => true
  | .servoWatchdogExpiry => true
  | .lockAcquired => true
  | .refclkFault => true
  | .txtsPop who port => whoOk who && decide (port < 16)
  | .legBoundary => true
  | .billingMinuteBoundary => true
  | .ppsOutRise => true
  | .ppsOutFall => true
  | .imonSample core mem io => decide (core < 4096) && decide (mem < 4096) && decide (io < 4096)
  | .legCommit => true
  | .ledgerMinuteWrite => true
  | .ledgerConsWrite who cons => whoOk who && decide (cons < 2 ^ 32)
  | .nrgCredit who account delta => whoOk who && decide (account < 4096) && decide (delta < 2 ^ 48)
  | .snapDone who => whoOk who
  | .domainIdleOff domain => decide (domain < 120)
  | .domainOffComplete domain => decide (domain < 120)
  | .domainWake domain => decide (domain < 120)
  | .thermalSample _ => true
  | .doorbell fn _ len value => decide (fn < 4104) && decide (value < 2 ^ (8 * len))
  | .push fn _ _ image => decide (fn < 4104) && decide (image < 2 ^ 512)
  | .arbitrationVisit => true
  | .fetchCompletion q _ _ => decide (q < 2 ^ 16)
  | .padEntry q => decide (q < 2 ^ 16)
  | .nopEntry q sseq => decide (q < 2 ^ 16) && decide (sseq < 2 ^ 16)
  | .queueCtlStart q sseq => decide (q < 2 ^ 16) && decide (sseq < 2 ^ 16)
  | .queueCtlStop q sseq => decide (q < 2 ^ 16) && decide (sseq < 2 ^ 16)
  | .queueCtlReset q sseq => decide (q < 2 ^ 16) && decide (sseq < 2 ^ 16)
  | .qcmdStart who queue => whoOk who && decide (queue < 2 ^ 16)
  | .qcmdStop who queue => whoOk who && decide (queue < 2 ^ 16)
  | .qcmdReset who queue => whoOk who && decide (queue < 2 ^ 16)
  | .queueContextWrite who q _ len value => whoOk who && decide (q < 2 ^ 16) && decide (value < 2 ^ (8 * len))
  | .groupOwnerWrite who group value => whoOk who && decide (group < 2048) && decide (value < 2 ^ 64)
  | .wqErrqRead who => whoOk who
  | .entryFinish q sseq => decide (q < 2 ^ 16) && decide (sseq < 2 ^ 16)
  | .statusBlockUpdate q => decide (q < 2 ^ 16)
  | .consumerPoll r _ value => decide (r < 2 ^ 14) && decide (value < 2 ^ 32)
  | .moderationTimer r => decide (r < 2 ^ 14)
  | .abortEntry q sseq => decide (q < 2 ^ 16) && decide (sseq < 2 ^ 16)
  | .abortRequestArrival q sseq => decide (q < 2 ^ 16) && decide (sseq < 2 ^ 16)
  | .ringContextWrite who r _ len value => whoOk who && decide (r < 2 ^ 14) && decide (value < 2 ^ (8 * len))
  | .cqStallqRead who => whoOk who
  | .hurdleEntry q sseq => decide (q < 2 ^ 16) && decide (sseq < 2 ^ 16)
  | .hurdleFinish q sseq => decide (q < 2 ^ 16) && decide (sseq < 2 ^ 16)
  | .flushReadComplete link q sseq => decide (link < 8) && decide (q < 2 ^ 16) && decide (sseq < 2 ^ 16)
  | .abacusSweep => true
  | .abacusLogRead who => whoOk who
  | .detectionReread _ _ _ => true
  | .frameReceive port _ _ _ => decide (port < 16)
  | .pfcRefresh port => decide (port < 16)
  | .pauseExpiry port => decide (port < 16)
  | .linkChange port _ => decide (port < 16)
  | .passEnter pipe => decide (pipe < 2)
  | .espEncrypt pipe => decide (pipe < 2)
  | .espDecrypt pipe => decide (pipe < 2)
  | .passEnd pipe => decide (pipe < 2)
  | .slowPathBaton pipe => decide (pipe < 2)
  | .reinject pipe => decide (pipe < 2)
  | .sendToPort pipe => decide (pipe < 2)
  | .deliverToHost pipe => decide (pipe < 2)
  | .freeLines pipe => decide (pipe < 2)
  | .reinjectBad pipe => decide (pipe < 2)
  | .netSend q sseq _ _ => decide (q < 2 ^ 16) && decide (sseq < 2 ^ 16)
  | .netPostRx q sseq => decide (q < 2 ^ 16) && decide (sseq < 2 ^ 16)
  | .ppEthModeWrite who quad mode => whoOk who && decide (quad < 4) && decide (mode < 8)
  | .flowCounterSnapshot who => whoOk who
  | .tableValidate who table => whoOk who && decide (table < 64)
  | .tableClearDone table => decide (table < 64)
  | .tableInvalidate who table => whoOk who && decide (table < 64)
  | .ftInsert who port => whoOk who && decide (port < 8)
  | .ftUpdate who port => whoOk who && decide (port < 8)
  | .ftUpsert who port => whoOk who && decide (port < 8)
  | .ftDelete who port => whoOk who && decide (port < 8)
  | .ftLookup who port => whoOk who && decide (port < 8)
  | .ftReadSlot who port => whoOk who && decide (port < 8)
  | .ftWriteResult who port => whoOk who && decide (port < 8)
  | .ftTernWrite who port => whoOk who && decide (port < 8)
  | .ftTernRead who port => whoOk who && decide (port < 8)
  | .learnApply pipe => decide (pipe < 2)
  | .stampWrite table copy => decide (table < 64) && decide (copy < 2)
  | .ageScan table copy => decide (table < 64) && decide (copy < 2)
  | .ageRemoval table copy => decide (table < 64) && decide (copy < 2)
  | .tableAuditCopyEnd => true
  | .ftLostRead who => whoOk who
  | .refillBoundary => true
  | .portChoice port => decide (port < 16)
  | .frameTxDone port => decide (port < 16)
  | .gateArm who port => whoOk who && decide (port < 16)
  | .gateAdoption port => decide (port < 16)
  | .gateEntryChange port => decide (port < 16)
  | .meterRead who => whoOk who
  | .meterWrite who => whoOk who
  | .tmCounterSnapshot who => whoOk who
  | .trnWrite q sseq => decide (q < 2 ^ 16) && decide (sseq < 2 ^ 16)
  | .trnWriteImm q sseq => decide (q < 2 ^ 16) && decide (sseq < 2 ^ 16)
  | .trnRead q sseq => decide (q < 2 ^ 16) && decide (sseq < 2 ^ 16)
  | .regionRegister q sseq => decide (q < 2 ^ 16) && decide (sseq < 2 ^ 16)
  | .regionRevoke q sseq => decide (q < 2 ^ 16) && decide (sseq < 2 ^ 16)
  | .regionDrained index => decide (index < 2 ^ 24)
  | .pacerAdmit conn _ _ => decide (conn < 2 ^ 24)
  | .trnPacketReceive => true
  | .writeReceive conn => decide (conn < 2 ^ 24)
  | .writeImmReceive conn => decide (conn < 2 ^ 24)
  | .readReqReceive conn => decide (conn < 2 ^ 24)
  | .readRespReceive conn => decide (conn < 2 ^ 24)
  | .ackReceive conn => decide (conn < 2 ^ 24)
  | .nakReceive conn => decide (conn < 2 ^ 24)
  | .retryLaterReceive conn => decide (conn < 2 ^ 24)
  | .retryLaterResume conn => decide (conn < 2 ^ 24)
  | .ackTimer conn => decide (conn < 2 ^ 24)
  | .retransmitTimeout conn => decide (conn < 2 ^ 24)
  | .contextFetchDone conn _ image => decide (conn < 2 ^ 24) && decide (image < 2 ^ 1024)
  | .parkTimeout => true
  | .connCreate who conn => whoOk who && decide (conn < 2 ^ 24)
  | .trnConnReset who conn => whoOk who && decide (conn < 2 ^ 24)
  | .trnConnRead who conn => whoOk who && decide (conn < 2 ^ 24)
  | .rgnBlockWrite who b value => whoOk who && decide (b < 4096) && decide (value < 2 ^ 64)
  | .trnConnErrqRead who => whoOk who
  | .blkRead q sseq _ => decide (q < 2 ^ 16) && decide (sseq < 2 ^ 16)
  | .blkWrite q sseq _ _ => decide (q < 2 ^ 16) && decide (sseq < 2 ^ 16)
  | .blkFlush q sseq => decide (q < 2 ^ 16) && decide (sseq < 2 ^ 16)
  | .blkTrim q sseq => decide (q < 2 ^ 16) && decide (sseq < 2 ^ 16)
  | .blkSelfTest q sseq _ => decide (q < 2 ^ 16) && decide (sseq < 2 ^ 16)
  | .blkLogRead q sseq => decide (q < 2 ^ 16) && decide (sseq < 2 ^ 16)
  | .blkResume q sseq => decide (q < 2 ^ 16) && decide (sseq < 2 ^ 16)
  | .stagingGrant => true
  | .stagingComplete q sseq => decide (q < 2 ^ 16) && decide (sseq < 2 ^ 16)
  | .backendDispatch q sseq => decide (q < 2 ^ 16) && decide (sseq < 2 ^ 16)
  | .backendReply => true
  | .verifyDispatch q sseq => decide (q < 2 ^ 16) && decide (sseq < 2 ^ 16)
  | .volumeWrite who => whoOk who
  | .volumeRead who => whoOk who
  | .blkFrozenqRead who => whoOk who
  | .encryptJob q sseq _ _ _ => decide (q < 2 ^ 16) && decide (sseq < 2 ^ 16)
  | .decryptJob q sseq _ _ _ _ => decide (q < 2 ^ 16) && decide (sseq < 2 ^ 16)
  | .hashJob q sseq _ _ => decide (q < 2 ^ 16) && decide (sseq < 2 ^ 16)
  | .macJob q sseq _ _ => decide (q < 2 ^ 16) && decide (sseq < 2 ^ 16)
  | .macVerifyJob q sseq _ _ _ => decide (q < 2 ^ 16) && decide (sseq < 2 ^ 16)
  | .keyLoad q sseq => decide (q < 2 ^ 16) && decide (sseq < 2 ^ 16)
  | .keyLoadDrained q sseq => decide (q < 2 ^ 16) && decide (sseq < 2 ^ 16)
  | .cipherDispatch => true
  | .cipherUnitDone core _ _ => decide (core < 24)
  | .keySlotRead who => whoOk who
  | .keyLower who => whoOk who
  | .keyBlockWrite who block value => whoOk who && decide (block < 1024) && decide (value < 2 ^ 64)
  | .cipKeyqRead who => whoOk who
  | .dmaCopy q sseq => decide (q < 2 ^ 16) && decide (sseq < 2 ^ 16)
  | .dmaRunChain q sseq => decide (q < 2 ^ 16) && decide (sseq < 2 ^ 16)
  | .dmaAssign => true
  | .chainBlockFetchDone c _ _ => decide (c < 256)
  | .linkPoll c => decide (c < 256)
  | .endChain c => decide (c < 256)
  | .chainMove c => decide (c < 256)
  | .chainLoop c => decide (c < 256)
  | .dmaWaitUntil c => decide (c < 256)
  | .dmaWaitDuration c => decide (c < 256)
  | .dmaWaitSemaphore c => decide (c < 256)
  | .dmaWaitExpiry c => decide (c < 256)
  | .signalWrite c => decide (c < 256)
  | .signalSem c => decide (c < 256)
  | .signalThread c => decide (c < 256)
  | .signalMsix c => decide (c < 256)
  | .dmaHurdle c => decide (c < 256)
  | .chainLink c => decide (c < 256)
  | .dmaSegmentDone c _ => decide (c < 256)
  | .dmaSegmentFail c => decide (c < 256)
  | .verifyReadbackDone c _ _ => decide (c < 256)
  | .chainStart who => whoOk who
  | .chainResume who => whoOk who
  | .chainRelease who => whoOk who
  | .dmaChanWrite who c value => whoOk who && decide (c < 256) && decide (value < 2 ^ 64)
  | .dmaHaltqRead who => whoOk who
  | .add agent rd ra rb => agentOk agent && RelayInstr.wf (.add rd ra rb)
  | .sub agent rd ra rb => agentOk agent && RelayInstr.wf (.sub rd ra rb)
  | .and agent rd ra rb => agentOk agent && RelayInstr.wf (.and rd ra rb)
  | .or agent rd ra rb => agentOk agent && RelayInstr.wf (.or rd ra rb)
  | .xor agent rd ra rb => agentOk agent && RelayInstr.wf (.xor rd ra rb)
  | .shl agent rd ra rb => agentOk agent && RelayInstr.wf (.shl rd ra rb)
  | .shr agent rd ra rb => agentOk agent && RelayInstr.wf (.shr rd ra rb)
  | .sar agent rd ra rb => agentOk agent && RelayInstr.wf (.sar rd ra rb)
  | .mul agent rd ra rb => agentOk agent && RelayInstr.wf (.mul rd ra rb)
  | .mulhu agent rd ra rb => agentOk agent && RelayInstr.wf (.mulhu rd ra rb)
  | .minu agent rd ra rb => agentOk agent && RelayInstr.wf (.minu rd ra rb)
  | .maxu agent rd ra rb => agentOk agent && RelayInstr.wf (.maxu rd ra rb)
  | .slt agent rd ra rb => agentOk agent && RelayInstr.wf (.slt rd ra rb)
  | .sltu agent rd ra rb => agentOk agent && RelayInstr.wf (.sltu rd ra rb)
  | .crcc agent rd ra rb fn => agentOk agent && RelayInstr.wf (.crcc rd ra rb fn)
  | .bits agent rd ra fn => agentOk agent && RelayInstr.wf (.bits rd ra fn)
  | .addi agent rd ra imm => agentOk agent && RelayInstr.wf (.addi rd ra imm)
  | .andi agent rd ra imm => agentOk agent && RelayInstr.wf (.andi rd ra imm)
  | .ori agent rd ra imm => agentOk agent && RelayInstr.wf (.ori rd ra imm)
  | .xori agent rd ra imm => agentOk agent && RelayInstr.wf (.xori rd ra imm)
  | .shi agent rd ra imm => agentOk agent && RelayInstr.wf (.shi rd ra imm)
  | .slti agent rd ra imm => agentOk agent && RelayInstr.wf (.slti rd ra imm)
  | .movk agent rd k imm => agentOk agent && RelayInstr.wf (.movk rd k imm)
  | .addpc agent rd imm => agentOk agent && RelayInstr.wf (.addpc rd imm)
  | .ldb agent rd ra imm => agentOk agent && RelayInstr.wf (.ldb rd ra imm)
  | .ldh agent rd ra imm => agentOk agent && RelayInstr.wf (.ldh rd ra imm)
  | .ldw agent rd ra imm => agentOk agent && RelayInstr.wf (.ldw rd ra imm)
  | .ldd agent rd ra imm => agentOk agent && RelayInstr.wf (.ldd rd ra imm)
  | .stb agent rs ra imm => agentOk agent && RelayInstr.wf (.stb rs ra imm)
  | .sth agent rs ra imm => agentOk agent && RelayInstr.wf (.sth rs ra imm)
  | .stw agent rs ra imm => agentOk agent && RelayInstr.wf (.stw rs ra imm)
  | .std agent rs ra imm => agentOk agent && RelayInstr.wf (.std rs ra imm)
  | .ldl agent rd ra imm => agentOk agent && RelayInstr.wf (.ldl rd ra imm)
  | .stl agent rs ra imm => agentOk agent && RelayInstr.wf (.stl rs ra imm)
  | .amo agent rd ra rb fn => agentOk agent && RelayInstr.wf (.amo rd ra rb fn)
  | .cas agent rd ra rb => agentOk agent && RelayInstr.wf (.cas rd ra rb)
  | .beq agent ra rb off => agentOk agent && RelayInstr.wf (.beq ra rb off)
  | .bne agent ra rb off => agentOk agent && RelayInstr.wf (.bne ra rb off)
  | .blt agent ra rb off => agentOk agent && RelayInstr.wf (.blt ra rb off)
  | .bge agent ra rb off => agentOk agent && RelayInstr.wf (.bge ra rb off)
  | .bltu agent ra rb off => agentOk agent && RelayInstr.wf (.bltu ra rb off)
  | .bgeu agent ra rb off => agentOk agent && RelayInstr.wf (.bgeu ra rb off)
  | .jal agent rd off => agentOk agent && RelayInstr.wf (.jal rd off)
  | .jalr agent rd ra imm => agentOk agent && RelayInstr.wf (.jalr rd ra imm)
  | .relayHurdle agent fn => agentOk agent && RelayInstr.wf (.hurdle fn)
  | .bsend agent rd ra fn => agentOk agent && RelayInstr.wf (.bsend rd ra fn)
  | .brecv agent rd ra fn => agentOk agent && RelayInstr.wf (.brecv rd ra fn)
  | .wait agent rd mask => agentOk agent && RelayInstr.wf (.wait rd mask)
  | .thset agent rd ra rb n => agentOk agent && RelayInstr.wf (.thset rd ra rb n)
  | .thgo agent rd n => agentOk agent && RelayInstr.wf (.thgo rd n)
  | .thstop agent rd n => agentOk agent && RelayInstr.wf (.thstop rd n)
  | .thexit agent => agentOk agent && RelayInstr.wf .thexit
  | .brk agent imm => agentOk agent && RelayInstr.wf (.brk imm)
  | .srr agent rd n => agentOk agent && RelayInstr.wf (.srr rd n)
  | .srw agent ra n => agentOk agent && RelayInstr.wf (.srw ra n)
  | .calls agent imm => agentOk agent && RelayInstr.wf (.calls imm)
  | .sret agent => agentOk agent && RelayInstr.wf .sret
  | .sleep agent => agentOk agent && RelayInstr.wf .sleep
  | .loadReturn agent _ _ => decide (agent < 516)
  | .creditGrant ch => decide (ch < 4096)
  | .threadTimer thread => decide (thread < 512)
  | .stallDetect core => decide (core < 64)
  | .relayStart who thread => whoOk who && decide (thread < 512)
  | .relayStop who thread => whoOk who && decide (thread < 512)
  | .threadHalt who thread => whoOk who && decide (thread < 512)
  | .relayResume who thread => whoOk who && decide (thread < 512)
  | .threadStep who thread => whoOk who && decide (thread < 512)
  | .debugRead who thread reg => whoOk who && decide (thread < 512) && decide (reg < 4096)
  | .debugWrite who thread reg value => whoOk who && decide (thread < 512) && decide (reg < 4096) && decide (value < 2 ^ 64)
  | .rlyStallqRead who => whoOk who
  | .rlyFaultqRead who => whoOk who
  | .interruptDelivery k => decide (k < 4)
  | .ieoi k source => decide (k < 4) && decide (source < 2 ^ 32)
  | .irqSwSet who source => whoOk who && decide (source < 1024)
  | .vectorUnmask fn vector => decide (fn < 4104) && decide (vector < 4096)
  | .pmcRead who n k => whoOk who && decide (n < 32) && decide (k < 32)
  | .configRequest fn _ => decide (fn < 4104)
  | .bar4Access pf _ _ _ => decide (pf < 8)
  | .completionTimeout port tag => decide (port < 2) && decide (tag < 4096)
  | .lateCompletion port tag => decide (port < 2) && decide (tag < 4096)
  | .quarantineExpiry port tag => decide (port < 2) && decide (tag < 4096)
  | .bmeClear fn => decide (fn < 4104)
  | .bmeSet fn => decide (fn < 4104)
  | .flrStart fn => decide (fn < 4104)
  | .flrComplete fn => decide (fn < 4104)
  | .d3hotEntry pf => decide (pf < 8)
  | .d0Return pf => decide (pf < 8)
  | .perst port _ => decide (port < 2)
  | .translationResponse fn page target _ _ _ => decide (fn < 4104) && decide (page < 2 ^ 52) && decide (target < 2 ^ 52)
  | .invalidateRequest fn itag page pages => decide (fn < 4104) && decide (itag < 32) && decide (page < 2 ^ 52) && decide (pages < (2 ^ 52 + 1))
  | .invalidationCompletion fn itag => decide (fn < 4104) && decide (itag < 32)
  | .atsDisable fn => decide (fn < 4104)
  | .mailboxSeqWrite who vf _ seq => whoOk who && decide (vf < 4096) && decide (seq < 2 ^ 32)
  | .mailboxAckWrite who vf _ ack => whoOk who && decide (vf < 4096) && decide (ack < 2 ^ 32)
  | .mbxMsgqRead who => whoOk who
  | .freeze who p => whoOk who && decide (p < 8)
  | .drainTimeout vf => decide (vf < 4096)
  | .save who p _ => whoOk who && decide (p < 8)
  | .restore who p _ _ => whoOk who && decide (p < 8)
  | .unfreeze who p => whoOk who && decide (p < 8)
  | .hifEvqRead who => whoOk who
  | .deviceReset straps _ => decide (straps < 256)
  | .resetNFall _ => true
  | .pllLock => true
  | .serdesCalibrated group _ => decide (group < 5)
  | .gddr6TrainingDone device _ => decide (device < 12)
  | .memoryInitDone memory => decide (memory < 3)
  | .stage1Release _ => true
  | .recoveryEntry _ => true
  | .phaseRequest who req => whoOk who && decide (req < 2 ^ 32)
  | .reboot who straps => whoOk who && decide (straps < 256)
  | .relayRelease who => whoOk who
  | .bootRelease who bs => whoOk who && decide (bs < 2 ^ 32)
  | .svnAdvance who value _ => whoOk who && decide (value < 2 ^ 32)
  | .revoke who key _ => whoOk who && decide (key < 4)
  | .programHash who key _ => whoOk who && decide (key < 4)
  | .setFlag who value _ => whoOk who && decide (value < 2 ^ 32)
  | .bootLockSet who bs => whoOk who && decide (bs < 2 ^ 32)
  | .measurementExtend who index => whoOk who && decide (index < 8)
  | .recoveryRead who _ _ _ => whoOk who
  | .uartData _ crc => decide (crc < 2 ^ 32)
  | .uartEnd crc _ _ => decide (crc < 2 ^ 32)
  | .uartAbort crc => decide (crc < 2 ^ 32)
  | .mntStart who bs => whoOk who && decide (bs < 256)
  | .mntStop who bs => whoOk who && decide (bs < 256)
  | .activityAutoStart act => decide (act < 8)
  | .activityEnd act _ => decide (act < 8)
  | .scrubLine line _ _ => decide (line < 2 ^ 40)
  | .retrainStep device _ => decide (device < 12)
  | .scrubLogRead who => whoOk who
  | .pairBlockReceive _ _ => true
  | .pairLinkUp => true
  | .pairLinkTimeout => true
  | .heartbeatReceive state epoch role _ => decide (state < 8) && decide (epoch < 2 ^ 32) && decide (role < 4)
  | .aliveInChange _ => true
  | .aliveWatchdogExpiry => true
  | .pairKick who => whoOk who
  | .deltaRecordReceive _ => true
  | .deltaAckReceive pseq => decide (pseq < 2 ^ 64)
  | .chargeReportReceive account beads => decide (account < 4096) && decide (beads < 2 ^ 64)
  | .holdExpiry => true
  | .promotionTimer => true
  | .promote who _ => whoOk who
  | .handover who => whoOk who
  | .passComplete _ => true
  | .smbusReadTemperature => true
  | .smbusReadPower => true
  | .smbusReadStatus => true
  | .smbusReadThermal => true
  | .smbusWake data => decide (data < 256)
  | .slewEnd => true
  | .pcieLinkDown link => decide (link < 8)
  | .pcieLinkUp link => decide (link < 8)
  | .laneAlignmentLoss => true
  | .pmcCounterWrap => true
  | .fabricLinkRetrainEnd _ => true
  | .illegalInstruction agent word => decide (agent < 516) && decide (word < 2 ^ 32)
  | .badInstr c => decide (c < 256)

end Sys2Proof
end

