-- ==== Sys2Proof/Certificates/Slice0/Obligations.lean ====
section
/-! DEFINITION. The statements for the provers, taken from the numbered rules of the spec. -/

open Sys2Proof Sys2Proof.Machine

/-- Shown on fields of the TT and HIF blocks. A class L field takes the value at once. A class S field is staged while its
  block is enabled, and APPLY.pending shows it; while the block is stopped it takes a legal value at once, and a
  forbidden value is refused with apply_reject. A write that would change a class X field of an enabled block is
  ignored as a whole and sets locked_write. A 1 written to a W1C bit clears that bit. A write of a read-only register
  changes nothing. A write that would change an RWL field of a locked block is ignored and sets lock_violation. A host
  access that is not 4 or 8 aligned bytes is dropped and counted. -/
def Obligations.RegisterWriteByAccessAndClass : Prop :=
  (∀ (s : State) (who : Initiator) (v : Nat), stopped s = false → writable who TT_SLEW.max_ppm 0 s = true → widthOk
    who 0x100058 4 = true → v < 2 ^ 32 → exec (.registerWrite who 0x100058 4 v) s = .next (s.wr TT_SLEW.max_ppm v)) ∧
  (∀ (s : State) (who : Initiator) (v : Nat), stopped s = false → writable who TT_LEG_LEN.leg_us 0 s = true → widthOk
    who 0x100090 4 = true → enabled s .tt = true → v < 2 ^ 14 → ∃ t, exec (.registerWrite who 0x100090 4 v) s = .next
    t ∧ t.rd TT_LEG_LEN.leg_us = s.rd TT_LEG_LEN.leg_us ∧ Map.find t.staged (TT_LEG_LEN.leg_us.key 0 0) = some v ∧
    t.rd (pendingField .tt) = 1 ∧ t.mem = s.mem ∧ t.links = s.links) ∧
  (∀ (s : State) (who : Initiator) (v : Nat), stopped s = false → writable who TT_LEG_LEN.leg_us 0 s = true → widthOk
    who 0x100090 4 = true → enabled s .tt = false → legLenOk v = true → s.rd TT_LEG_LEN.leg_us < 2 ^ 14 → exec
    (.registerWrite who 0x100090 4 v) s = .next (s.wr TT_LEG_LEN.leg_us v)) ∧
  (∀ (s : State) (who : Initiator) (v : Nat), stopped s = false → writable who TT_LEG_LEN.leg_us 0 s = true → widthOk
    who 0x100090 4 = true → enabled s .tt = false → v < 2 ^ 14 → legLenOk v = false → exec (.registerWrite who
    0x100090 4 v) s = .next (s.wr (applyRejectField .tt) 1)) ∧
  (∀ (s : State) (who : Initiator) (v : Nat), stopped s = false → writable who TT_CTL.refclk_25 0 s = true → widthOk
    who 0x100030 4 = true → enabled s .tt = true → (v / 8) % 2 ≠ s.rd TT_CTL.refclk_25 → s.rd TT_CTL.refclk_25 < 2 →
    exec (.registerWrite who 0x100030 4 v) s = .next (s.wr (lockedWriteField .tt) 1)) ∧
  (∀ (s : State) (who : Initiator), stopped s = false → writable who TT_STATUS.step_refused 0 s = true → widthOk who
    0x100038 4 = true → s.rd TT_STATUS.freq_fault < 2 → ∃ t, exec (.registerWrite who 0x100038 4 0x40) s = .next t ∧
    t.rd TT_STATUS.step_refused = 0 ∧ t.rd TT_STATUS.freq_fault = s.rd TT_STATUS.freq_fault ∧ t.rd TT_STATUS.valid =
    s.rd TT_STATUS.valid ∧ t.mem = s.mem) ∧
  (∀ (s : State) (who : Initiator) (v : Nat), stopped s = false → writable who TT_NOW.tt64 0 s = true → widthOk who
    0x100020 8 = true → exec (.registerWrite who 0x100020 8 v) s = .next (s)) ∧
  (∀ (s : State) (who : Initiator) (v : Nat), stopped s = false → writable who HIF_PF_CFG.pf_vec 0 s = true → widthOk
    who 0x300100 8 = true → s.rd (lockField .hif) = 1 → bitsAt v 38 12 ≠ s.rd HIF_PF_CFG.pf_vec → s.rd
    HIF_PF_CFG.pf_vec < 2 ^ 12 → ∃ t, exec (.registerWrite who 0x300100 8 v) s = .next t ∧ t.rd (lockViolationField
    .hif) = 1 ∧ t.rd HIF_PF_CFG.pf_vec = s.rd HIF_PF_CFG.pf_vec ∧ t.rd HIF_PF_CFG.link = s.rd HIF_PF_CFG.link ∧ t.rd
    HIF_PF_CFG.vf_vec = s.rd HIF_PF_CFG.vf_vec ∧ t.staged = s.staged ∧ t.hif = s.hif ∧ t.mem = s.mem ∧ t.links =
    s.links) ∧
  (∀ (s : State) (fn addr len v : Nat), stopped s = false → len ≠ 4 → len ≠ 8 → exec (.registerWrite (.host fn) addr
    len v) s = .next (s.count HIF_ACC_DROP.count))

/-- A write of ENABLE.enable 0 stops a running block (here every block but NRG and PAIR, whose stop does more), and a
  write of 1 starts TT; a set lock stays; apply_now asks for an application at the next safe point; arm_time arms one,
  one whose time has passed is due at once and sets apply_late, and with apply_now in the same write nothing is armed;
  clearing arm_time disarms it; a write of APPLY_TIME moves it; and it becomes due at its time. -/
def Obligations.CommonRegisterCommands : Prop :=
  (∀ (s : State) (who : Initiator) (b : Blk), stopped s = false → writable who (enableField b) 0 s = true → enabled s
    b = true → b ≠ .nrg → b ≠ .pair → exec (.enableWrite who b false) s = .next (s.wr (enableField b) 0)) ∧
  (∀ (s : State) (who : Initiator), stopped s = false → writable who (enableField .tt) 0 s = true → enabled s .tt =
    false → exec (.enableWrite who .tt true) s = .next (s.wr (enableField .tt) 1)) ∧
  (∀ (s : State) (who : Initiator) (b : Blk), stopped s = false → writable who (lockField b) 0 s = true → hasLock b =
    true → exec (.lockSet who b) s = .next (s.wr (lockField b) 1)) ∧
  (∀ (s : State) (who : Initiator) (b : Blk), stopped s = false → writable who (applyNowField b) 0 s = true →
    s.applyReq.contains b = false → exec (.applyNow who b) s = .next ({ s with applyReq := s.applyReq ++ [b] })) ∧
  (∀ (s : State) (who : Initiator) (b : Blk), stopped s = false → writable who (armTimeField b) 0 s = true → now s ≤
    s.rd (applyTtField b) → exec (.armTime who b false) s = .next (s.wr (armTimeField b) 1)) ∧
  (∀ (s : State) (who : Initiator) (b : Blk), stopped s = false → writable who (armTimeField b) 0 s = true → s.rd
    (applyTtField b) < now s → ∃ t, exec (.armTime who b false) s = .next t ∧ t.rd (armTimeField b) = 1 ∧ t.rd
    (applyLateField b) = 1 ∧ t.armDue.contains b = true ∧ t.rd (applyTtField b) = s.rd (applyTtField b)) ∧
  (∀ (s : State) (who : Initiator) (b : Blk), stopped s = false → writable who (armTimeField b) 0 s = true →
    s.applyReq.contains b = false → exec (.armTime who b true) s = .next ({ s with applyReq := s.applyReq ++ [b] })) ∧
  (∀ (s : State) (who : Initiator) (b : Blk), stopped s = false → writable who (armTimeField b) 0 s = true → exec
    (.disarmTime who b) s = .next (({ s with armDue := s.armDue.filter fun x => decide (x ≠ b) } : State).wr
    (armTimeField b) 0)) ∧
  (∀ (s : State) (who : Initiator) (b : Blk) (v : Nat), stopped s = false → writable who (applyTtField b) 0 s = true →
    exec (.applyTimeWrite who b v) s = .next (({ s with armDue := s.armDue.filter fun x => decide (x ≠ b) } :
    State).wr (applyTtField b) v)) ∧
  (∀ (s : State) (b : Blk), stopped s = false → s.rd (armTimeField b) = 1 → s.rd (applyTtField b) ≤ now s →
    s.armDue.contains b = false → exec (.armedApplication b) s = .next ({ s with armDue := s.armDue ++ [b] }))

/-- With a phase source and a reference period staged in TT and an application asked for: both take effect in one event,
  the bank is empty, pending and arm_time are 0, and where the phase source changes locked and holdover are cleared
  (R61); with the reserved source 3 staged beside it nothing takes effect, the bank is emptied and apply_reject is
  set. A staged leg length alone waits for the minute boundary with pending 1. -/
def Obligations.ApplicationOfTheStagingBank : Prop :=
  (∀ (s : State) (v x : Nat), stopped s = false → s.staged = [(TT_CTL.phase_src.key 0 0, v), (TT_CTL.freq_src.key 0 0,
    x)] → v < 3 → x < 2 → applyAsked s .tt = true → s.tt.legAdopt = none → v ≠ s.rd TT_CTL.phase_src → ∃ t, exec
    (.application .tt) s = .next t ∧ t.rd TT_CTL.phase_src = v ∧ t.rd TT_CTL.freq_src = x ∧ t.staged = [] ∧ t.rd
    (pendingField .tt) = 0 ∧ t.rd (armTimeField .tt) = 0 ∧ t.rd TT_STATUS.locked = 0 ∧ t.rd TT_STATUS.holdover = 0 ∧
    t.tt.slew = s.tt.slew ∧ applyAsked t .tt = false) ∧
  (∀ (s : State) (x : Nat), stopped s = false → s.staged = [(TT_CTL.phase_src.key 0 0, 3), (TT_CTL.freq_src.key 0 0,
    x)] → applyAsked s .tt = true → s.tt.legAdopt = none → ∃ t, exec (.application .tt) s = .next t ∧ t.rd
    TT_CTL.phase_src = s.rd TT_CTL.phase_src ∧ t.rd TT_CTL.freq_src = s.rd TT_CTL.freq_src ∧ t.staged = [] ∧ t.rd
    (pendingField .tt) = 0 ∧ t.rd (applyRejectField .tt) = 1 ∧ t.tt = s.tt ∧ applyAsked t .tt = false) ∧
  (∀ (s : State) (v : Nat), stopped s = false → s.staged = [(TT_LEG_LEN.leg_us.key 0 0, v)] → legLenOk v = true →
    applyAsked s .tt = true → ∃ t, exec (.application .tt) s = .next t ∧ t.rd TT_LEG_LEN.leg_us = s.rd
    TT_LEG_LEN.leg_us ∧ t.tt.legAdopt = some v ∧ t.rd (pendingField .tt) = 1 ∧ t.staged = [])

/-- A write of a TT command register by a host function other than PF 0 is dropped and counted in HIF_ACC_DROP (R796); a
  write by PF 0 to a standby is ignored and counted in PAIR_CNT (R910), and one in RECOVERY is dropped and counted
  (R866). That a drop in RECOVERY counts in HIF_ACC_DROP is the model's reading. -/
def Obligations.SetupWritesOfOthersAreDropped : Prop :=
  (∀ (s : State) (fn v : Nat), stopped s = false → fn ≠ 0 → exec (.ttLoad (.host fn) v) s = .next (s.count
    HIF_ACC_DROP.count)) ∧
  (∀ (s : State) (fn v : Nat), stopped s = false → fn ≠ 0 → exec (.nrgCredit (.host fn) 3 v) s = .next (s.count
    HIF_ACC_DROP.count)) ∧
  (∀ (s : State) (fn : Nat) (b : Blk), stopped s = false → fn ≠ 0 → exec (.applyNow (.host fn) b) s = .next (s.count
    HIF_ACC_DROP.count)) ∧
  (∀ (s : State) (v : Nat), stopped s = false → standby s = true → s.rd BOOT_STATUS.phase ≠ 4 → exec (.ttLoad (.host
    0) v) s = .next (s.count PAIR_CNT.count 1 5)) ∧
  (∀ (s : State) (v : Nat), stopped s = false → s.rd BOOT_STATUS.phase = 4 → exec (.ttLoad (.host 0) v) s = .next
    (s.count HIF_ACC_DROP.count))

/-- While the clocks run and the write reaches its field: TT_LOAD gives TT64 its value for the next tick when valid is 0,
  and is refused otherwise; TT_STEP adds its delta to what the next tick adds when steps are enabled and the delta is
  legal, and is refused otherwise (what the next tick then does is stated with the idle step); TT_PHASE_ADJ adds to
  the remaining slew with saturation; TT_FREQ_ADJ sets the saturated adjustment; a servo report sets ptp_locked and,
  with phase source 2, qualifies or withdraws. A read of TT_NOW returns TT64 and latches the fraction. Nothing else of
  the state changes. -/
def Obligations.TrackTimeWrites : Prop :=
  (∀ (s : State) (who : Initiator) (v : Nat), stopped s = false → writable who TT_LOAD.tt64 0 s = true → s.rd
    TT_STATUS.valid = 0 → v < 2 ^ 64 → exec (.ttLoad who v) s = .next
    ({ s with tt := { s.tt with load := some v, stepBy := 0 } })) ∧
  (∀ (s : State) (who : Initiator) (v : Nat), stopped s = false → writable who TT_LOAD.tt64 0 s = true → s.rd
    TT_STATUS.valid = 1 → exec (.ttLoad who v) s = .next (s.wr TT_STATUS.step_refused 1)) ∧
  (∀ (s : State) (who : Initiator) (d : Nat), stopped s = false → writable who TT_STEP.delta 0 s = true → s.rd
    TT_CTL.step_enable = 1 → 1 ≤ d → d ≤ 1000000000 → exec (.ttStep who d) s = .next
    ({ s with tt := { s.tt with stepBy := s.tt.stepBy + d } })) ∧
  (∀ (s : State) (who : Initiator) (d : Nat), stopped s = false → writable who TT_STEP.delta 0 s = true → (s.rd
    TT_CTL.step_enable = 0 ∨ d = 0 ∨ 1000000000 < d) → exec (.ttStep who d) s = .next (s.wr TT_STATUS.step_refused 1)) ∧
  (∀ (s : State) (who : Initiator) (v : Nat), stopped s = false → writable who TT_PHASE_ADJ.slew_ns 0 s = true →
    (s.tt.slew + signed 32 v * (nsUnit : Int)).natAbs ≤ (2 ^ 31 - 1) * nsUnit → s.tt.slew + signed 32 v * (nsUnit :
    Int) ≠ 0 → exec (.ttPhaseAdj who v) s = .next
    (({ s with tt := { s.tt with slew := s.tt.slew + signed 32 v * (nsUnit : Int), servoTt := now s } } : State).wr
    TT_STATUS.slewing 1)) ∧
  (∀ (s : State) (who : Initiator) (v : Nat), stopped s = false → writable who TT_FREQ_ADJ.adj 0 s = true → -200000000
    ≤ signed 32 v → signed 32 v ≤ 200000000 → exec (.ttFreqAdj who v) s = .next
    (({ s with tt := { s.tt with servoTt := now s } } : State).wr TT_FREQ_ADJ.adj (v % 2 ^ 32))) ∧
  (∀ (s : State) (who : Initiator) (v : Nat), stopped s = false → writable who TT_FREQ_ADJ.adj 0 s = true → 200000000
    < signed 32 v → exec (.ttFreqAdj who v) s = .next (({ s with tt := { s.tt with servoTt := now s } } : State).wr
    TT_FREQ_ADJ.adj 200000000)) ∧
  (∀ (s : State) (who : Initiator), stopped s = false → writable who TT_SERVO.ptp_locked 0 s = true → s.rd
    TT_CTL.phase_src = 2 → s.rd TT_STATUS.holdover = 1 → exec (.ttServoWrite who true) s = .next
    ({ s.wr TT_SERVO.ptp_locked 1 with tt := { s.tt with qualified := true } })) ∧
  (∀ (s : State) (who : Initiator), stopped s = false → writable who TT_SERVO.ptp_locked 0 s = true → s.rd
    TT_CTL.phase_src = 2 → s.rd TT_STATUS.locked = 0 → exec (.ttServoWrite who false) s = .next
    ({ s.wr TT_SERVO.ptp_locked 0 with tt := { s.tt with qualified := false } })) ∧
  (∀ (s : State) (who : Initiator), stopped s = false → reaches who Blk.tt.base = true → exec (.ttNowRead who) s =
    .next ({ s.wr TT_NOW_FRAC.frac (s.tt.sub * 65536 / 10 ^ 18) with rdata := now s }))

/-- A PPS_IN edge is captured and raises TT_PPS, and with a phase source other than 1 does nothing more; while locked, a
  PPS window that closes without an edge and a servo watchdog that runs out start holdover: holdover 1, locked 0,
  TT_HOLD_TT the TT64, TT_HOLDOVER raised; a qualified source whose slew is within the threshold ends holdover; a
  reference fault moves the time clock to the oscillator; a slew that has reached 0 clears slewing; PPS_OUT rises at a
  whole second and falls 100 microseconds after it. -/
def Obligations.TrackTimeEvents : Prop :=
  (∀ (s : State), stopped s = false → ∃ t, exec (.ppsEdge) s = .next t ∧ t.rd TT_PPS_CAP.tt64 = now s % 2 ^ 64 ∧ t.rd
    TT_PPS_CAP_FRAC.frac = nowFrac s % 2 ^ 16 ∧ t.rd IRQ_SRC.asserted 0x040 = 1) ∧
  (∀ (s : State), stopped s = false → s.rd TT_CTL.phase_src ≠ 1 → exec (.ppsEdge) s = .next (raise ((s.wr
    TT_PPS_CAP.tt64 (now s)).wr TT_PPS_CAP_FRAC.frac (nowFrac s)) 0x040)) ∧
  (∀ (s : State) (l : Nat), stopped s = false → s.tt.lastEdge = some l → s.rd TT_CTL.phase_src = 1 → s.rd
    TT_STATUS.locked = 1 → l + 1000000000 + s.rd TT_QUAL.pps_win ≤ now s → ∃ t, exec (.ppsWindowExpiry) s = .next t ∧
    t.rd TT_STATUS.holdover = 1 ∧ t.rd TT_STATUS.locked = 0 ∧ t.rd TT_STATUS.pps_missing = 1 ∧ t.rd TT_HOLD_TT.tt64 =
    now s % 2 ^ 64 ∧ t.rd IRQ_SRC.asserted 0x041 = 1 ∧ t.tt.slew = s.tt.slew ∧ t.rd TT_FREQ_ADJ.adj = s.rd
    TT_FREQ_ADJ.adj) ∧
  (∀ (s : State), stopped s = false → s.rd TT_CTL.phase_src = 2 → s.rd TT_STATUS.locked = 1 → s.rd TT_SERVO.wdog ≠ 0 →
    s.tt.servoTt + s.rd TT_SERVO.wdog * 100000000 ≤ now s → ∃ t, exec (.servoWatchdogExpiry) s = .next t ∧ t.rd
    TT_STATUS.holdover = 1 ∧ t.rd TT_STATUS.locked = 0 ∧ t.rd TT_HOLD_TT.tt64 = now s % 2 ^ 64 ∧ t.rd IRQ_SRC.asserted
    0x041 = 1 ∧ t.tt.slew = s.tt.slew ∧ t.rd TT_FREQ_ADJ.adj = s.rd TT_FREQ_ADJ.adj) ∧
  (∀ (s : State), stopped s = false → s.tt.qualified = true → s.rd TT_STATUS.holdover = 1 → s.tt.slew.natAbs ≤ s.rd
    TT_QUAL.lock_thresh * nsUnit → ∃ t, exec (.lockAcquired) s = .next t ∧ t.rd TT_STATUS.holdover = 0 ∧ t.rd
    TT_STATUS.locked = 1 ∧ t.rd IRQ_SRC.asserted 0x042 = 1 ∧ t.tt.tt = s.tt.tt ∧ t.tt.slew = s.tt.slew) ∧
  (∀ (s : State), stopped s = false → s.rd TT_CTL.freq_src = 1 → s.tt.onOsc = false → exec (.refclkFault) s = .next
    (raise (({ s with tt := { s.tt with onOsc := true } } : State).wr TT_STATUS.freq_fault 1) 0x043)) ∧
  (∀ (s : State), stopped s = false → s.tt.slew = 0 → exec (.slewEnd) s = .next (s.wr TT_STATUS.slewing 0)) ∧
  (∀ (s : State) (who : Initiator) (p : Nat) (x : TxStamp) (l : List TxStamp), stopped s = false → reaches who
    Blk.tt.base = true → p < 16 → Map.get s.tt.txFifo p = x :: l → ∃ t, exec (.txtsPop who p) s = .next t ∧ t.rdata =
    x.frac + x.seqId <<< 16 + 1 <<< 32 ∧ Map.get t.tt.txFifo p = l ∧ t.rd TT_TXTS_STAT.count p = l.length % 2 ^ 7 ∧
    t.mem = s.mem ∧ t.links = s.links) ∧
  (∀ (s : State), stopped s = false → s.rd TT_CTL.pps_out_enable = 1 → s.pins.ppsSecond ≠ now s / 1000000000 + 1 → now
    s % 1000000000 < 100000 → exec (.ppsOutRise) s = .next
    ({ s with pins := { s.pins with ppsOut := true, ppsSecond := now s / 1000000000 + 1 } })) ∧
  (∀ (s : State), stopped s = false → s.pins.ppsOut = true → (s.pins.ppsSecond - 1) * 1000000000 + 100000 ≤ now s →
    exec (.ppsOutFall) s = .next ({ s with pins := { s.pins with ppsOut := false } }))

/-- A leg boundary that is due, with no event of an earlier time due, is reported in TT_LEG_START (its start and the
  boundaries crossed) and kept for the pacers; with NRG stopped, and no rod write, credit or application waiting,
  nothing else changes. With metering running, the counts of the leg that ends become the closed leg, the new leg
  starts empty and takes the leg length in effect, and every enabled account below its burst cap is credited its
  allotment. A billing-minute boundary is a leg boundary first where that is still due, which then adopts a staged leg
  length and clears APPLY.pending when nothing else is staged; it takes the TT64 of the boundary as acted on. -/
def Obligations.LegAndMinuteBoundaries : Prop :=
  (∀ (s : State), stopped s = false → legDue s = true → dueBefore s (legTime s) = false → applicationFirst s .tt
    (legTime s) = false → now s / minuteNs = s.tt.lastLeg / minuteNs → applyAsked s .nrg = false → enabled s .nrg =
    false → s.nrg.rodWrites = [] → s.nrg.rodLate = [] → s.nrg.lateCredits = [] → ∃ t, exec (.legBoundary) s = .next t
    ∧ t = noteLeg s ∧ t.rd TT_LEG_START.start = now s / legNs s * legNs s % 2 ^ 64 ∧ t.rd TT_LEG_START.crossed =
    satNat 65535 (max 1 (now s / legNs s - s.tt.lastLeg / legNs s)) ∧ t.tt.lastLeg = now s ∧ t.tt.forceLeg = false ∧
    t.nrg = s.nrg ∧ t.mem = s.mem) ∧
  (∀ (s : State), stopped s = false → legDue s = true → dueBefore s (legTime s) = false → applicationFirst s .tt
    (legTime s) = false → now s / minuteNs = s.tt.lastLeg / minuteNs → applyAsked s .nrg = false → enabled s .nrg =
    true → s.nrg.metering = true → s.nrg.closed = none → ∃ t, exec (.legBoundary) s = .next t ∧ t.nrg.closed.map
    ClosedLeg.counts = some { s.nrg.leg with unrated := unratedRails s } ∧ t.nrg.leg = {} ∧ t.nrg.metering = true ∧
    t.nrg.legUs = s.rd TT_LEG_LEN.leg_us ∧ t.tt.lastLeg = now s ∧ t.tt.forceLeg = false ∧ t.nrg.rodWrites =
    s.nrg.rodLate ∧ t.nrg.rodLate = [] ∧ t.nrg.lateCredits = []) ∧
  (∀ (s : State) (a : Nat), stopped s = false → legDue s = true → dueBefore s (legTime s) = false → applicationFirst s
    .tt (legTime s) = false → now s / minuteNs = s.tt.lastLeg / minuteNs → applyAsked s .nrg = false → enabled s .nrg
    = true → s.nrg.metering = true → s.nrg.closed = none → a < 4096 → pairState s < 4 → s.nrg.rodWrites = [] →
    s.nrg.lateCredits = [] → s.rd NRG_ROD.enable a = 1 → balanceOf s a < (s.rd NRG_ROD.burst_cap a : Int) → ∃ t, exec
    (.legBoundary) s = .next t ∧ t.rd NRG_ROD.balance a = wrapInt 64 (min (balanceOf s a + (s.rd NRG_ROD.allot a :
    Int)) (s.rd NRG_ROD.burst_cap a)) % 2 ^ 64) ∧
  (∀ (s : State), stopped s = false → minuteReached s = true → legDue s = false → exec (.billingMinuteBoundary) s =
    .next ({ s with tt := { s.tt with lastMinute := now s } })) ∧
  (∀ (s : State) (v : Nat), stopped s = false → minuteReached s = true → legDue s = true → dueBefore s (legTime s) =
    false → applicationFirst s .tt (legTime s) = false → now s / minuteNs ≠ s.tt.lastLeg / minuteNs → applyAsked s
    .nrg = false → enabled s .nrg = false → s.nrg.rodWrites = [] → s.nrg.rodLate = [] → s.nrg.lateCredits = [] →
    s.tt.legAdopt = some v → s.staged = [] → ∃ t, exec (.billingMinuteBoundary) s = .next t ∧ t.rd TT_LEG_LEN.leg_us =
    v % 2 ^ 14 ∧ t.tt.legAdopt = none ∧ t.tt.lastMinute = now s ∧ t.tt.lastLeg = now s ∧ t.rd (pendingField .tt) = 0 ∧
    t.mem = s.mem ∧ t.nrg = s.nrg)

/-- While NRG meters, a sample adds one sample and its power to each rail of the leg in progress, and the static
  coefficient to every domain that is not off. The commit of a closed leg advances NRG_LEG_SEQ, adds the whole beads
  of the three rails (measured or estimated energy and what the leg before left over) to the device energy, keeps what
  is left below a bead, and leaves no closed leg. The consumed of every account grows by its share of the split, and
  its balance falls by it. Without metering a sample changes nothing. -/
def Obligations.MeteringAndCommit : Prop :=
  (∀ (s : State) (c m i : Nat), stopped s = false → enabled s .nrg = true → s.nrg.metering = true → ∃ t, exec
    (.imonSample c m i) s = .next t ∧ (Map.get t.nrg.leg.rails 0).samples = (Map.get s.nrg.leg.rails 0).samples + 1 ∧
    (Map.get t.nrg.leg.rails 0).measured = (Map.get s.nrg.leg.rails 0).measured + samplePower s 0 (c % 4096) ∧
    (Map.get t.nrg.leg.rails 2).measured = (Map.get s.nrg.leg.rails 2).measured + samplePower s 2 (i % 4096) ∧
    t.nrg.leg.act = s.nrg.leg.act ∧ t.tt = s.tt) ∧
  (∀ (s : State) (c m i : Nat), stopped s = false → enabled s .nrg = true → s.nrg.metering = true → exec (.imonSample
    c m i) s = .next (noteAllowance (sendSetPoint (sampleRail (sampleRail (sampleRail (accrueStatic s) 0 c) 1 m) 2
    i)))) ∧
  (∀ (s : State) (c m i : Nat), stopped s = false → s.nrg.metering = false → exec (.imonSample c m i) s = .next (s)) ∧
  (∀ (s : State) (c : ClosedLeg) (a : Nat), stopped s = false → s.nrg.closed = some c → enabled s .nrg = true → a <
    4096 → s.nrg.reports = [] → ∃ t, exec (.legCommit) s = .next t ∧ t.rd NRG_LEG_SEQ.seq = (s.rd NRG_LEG_SEQ.seq + 1)
    % 2 ^ 64 ∧ t.nrg.closed = none ∧ t.nrg.lastUs = c.us ∧ t.rd NRG_DEV_ENERGY.beads = (s.rd NRG_DEV_ENERGY.beads +
    (railMeasured s c.counts 0 + Map.get s.nrg.frac 0) / 65536 + (railMeasured s c.counts 1 + Map.get s.nrg.frac 1) /
    65536 + (railMeasured s c.counts 2 + Map.get s.nrg.frac 2) / 65536) % 2 ^ 64 ∧ Map.get t.nrg.frac 0 =
    (railMeasured s c.counts 0 + Map.get s.nrg.frac 0) % 65536 ∧ t.nrg.leg = s.nrg.leg ∧ t.rd NRG_ROD.consumed a =
    (s.rd NRG_ROD.consumed a + (Map.get ([0, 1, 2].foldl (fun m r => splitRail c.counts r ((railMeasured s c.counts r
    + Map.get s.nrg.frac r) / 65536) m) []) a)) % 2 ^ 64 ∧ balanceOf t a = balanceOf (s.wr NRG_ROD.balance (wrapInt 64
    (balanceOf s a - ((Map.get ([0, 1, 2].foldl (fun m r => splitRail c.counts r ((railMeasured s c.counts r + Map.get
    s.nrg.frac r) / 65536) m) []) a : Nat) : Int))) a) a) ∧
  (∀ (s : State) (c : ClosedLeg), stopped s = false → s.nrg.closed = some c → enabled s .nrg = true → exec
    (.legCommit) s = .next (noteShort (commitLeg (noteShort s) c)))

/-- For every leg, rail and number of whole beads, the charges by account that the split adds sum to exactly that number:
  what the divisions leave over goes to account 0. It holds for every canonical charge map to start from. -/
def Obligations.LegSplitConservesBeads : Prop :=
  ∀ (c : LegCounts) (r beads : Nat) (charge : Map Nat), Map.wf charge 0 = true →
    ((splitRail c r beads charge).map Prod.snd).sum = (charge.map Prod.snd).sum + beads

/-- A credit joins an account's balance, clamped to the signed 64-bit range, and changes nothing else (an account found
  without budget counts as short in the leg); at the tick of a leg boundary that has not been acted on it waits for
  the boundary's allotments. With the ledger off, the minute's snapshot takes the minute number, shows ready and
  raises its source when the one before it has been released, and counts as missed otherwise. With snapshots off, a
  trailer enters a ring with room and the producer is published; a minute that fits nowhere counts as lost with
  ledger_overflow. A consumer write frees slots, and while NRG runs a backlog record then enters a ring with room.
  Releasing a snapshot clears ready. -/
def Obligations.CreditsLedgerAndSnapshots : Prop :=
  (∀ (s : State) (who : Initiator) (a d : Nat), stopped s = false → writable who NRG_CREDIT.account 0 s = true → a <
    4096 → legDue s = false → exec (.nrgCredit who a d) s = .next (noteShort ((noteShort s).wr NRG_ROD.balance
    (wrapInt 64 (clampInt (-(2 ^ 63)) (2 ^ 63 - 1) (balanceOf s a + signed 48 d))) a))) ∧
  (∀ (s : State) (who : Initiator) (a d : Nat), stopped s = false → writable who NRG_CREDIT.account 0 s = true → a <
    4096 → d < 2 ^ 48 → legDue s = true → exec (.nrgCredit who a d) s = .next
    ({ s with nrg := { s.nrg with lateCredits := s.nrg.lateCredits ++ [(a, d)] } })) ∧
  (∀ (s : State) (c : MinuteClose), stopped s = false → s.nrg.minuteDue = some c → enabled s .nrg = true → s.rd
    NRG_CTL.ledger_en = 0 → s.rd NRG_CTL.snap_en = 1 → s.rd NRG_SNAP_SEQ.ready = 0 → ∃ t, exec (.ledgerMinuteWrite) s
    = .next t ∧ t.rd NRG_SNAP_SEQ.seq = c.start / minuteNs % 2 ^ 32 ∧ t.rd NRG_SNAP_SEQ.ready = 1 ∧ t.rd
    IRQ_SRC.asserted 0x067 = 1 ∧ t.nrg.minuteDue = none ∧ t.nrg.lseq = s.nrg.lseq) ∧
  (∀ (s : State) (c : MinuteClose), stopped s = false → s.nrg.minuteDue = some c → enabled s .nrg = true → s.rd
    NRG_CTL.ledger_en = 0 → s.rd NRG_CTL.snap_en = 1 → s.rd NRG_SNAP_SEQ.ready = 1 → exec (.ledgerMinuteWrite) s =
    .next (raise ((({ s with nrg := { s.nrg with minuteDue := none } } : State).countSat NRG_SNAP_SEQ.missed).wr
    NRG_STATUS.snap_missed 1) 0x067)) ∧
  (∀ (s : State) (c : MinuteClose), stopped s = false → s.nrg.minuteDue = some c → enabled s .nrg = true → s.rd
    NRG_CTL.ledger_en = 1 → s.rd NRG_CTL.snap_en = 0 → minuteFits s (c.records.length + 1) = false → exec
    (.ledgerMinuteWrite) s = .next (raise (({ s with nrg := { s.nrg with minuteDue := none, lost := s.nrg.lost + 1 } }
    : State).wr NRG_STATUS.ledger_overflow 1) 0x066)) ∧
  (∀ (s : State) (c : MinuteClose), stopped s = false → s.nrg.minuteDue = some c → enabled s .nrg = true → s.rd
    NRG_CTL.ledger_en = 1 → s.rd NRG_CTL.snap_en = 0 → c.records = [] → s.nrg.backlog = [] → ledgerRoom s = true →
    s.nrg.prod < 2 ^ 32 → ∃ t, exec (.ledgerMinuteWrite) s = .next t ∧ t.nrg.prod = (s.nrg.prod + 1) % 2 ^ 32 ∧ t.rd
    NRG_LEDGER_PROD.prod = (s.nrg.prod + 1) % 2 ^ 32 ∧ t.nrg.lseq = s.nrg.lseq + 1 ∧ t.nrg.lost = 0 ∧ t.nrg.backlog =
    [] ∧ t.rd IRQ_SRC.asserted 0x065 = 1 ∧ t.mem = s.mem) ∧
  (∀ (s : State) (who : Initiator) (v : Nat), stopped s = false → writable who NRG_LEDGER_CONS.cons 0 s = true →
    s.nrg.backlog = [] → exec (.ledgerConsWrite who v) s = .next (s.wr NRG_LEDGER_CONS.cons v)) ∧
  (∀ (s : State) (who : Initiator) (v x : Nat), stopped s = false → writable who NRG_LEDGER_CONS.cons 0 s = true →
    enabled s .nrg = true → s.nrg.backlog = [x] → ledgerRoom (s.wr NRG_LEDGER_CONS.cons v) = true → s.nrg.prod < 2 ^
    32 → ∃ t, exec (.ledgerConsWrite who v) s = .next t ∧ t.nrg.backlog = [] ∧ t.nrg.prod = (s.nrg.prod + 1) % 2 ^ 32
    ∧ t.rd NRG_LEDGER_CONS.cons = v % 2 ^ 32 ∧ t.mem = s.mem) ∧
  (∀ (s : State) (who : Initiator), stopped s = false → writable who NRG_SNAP_SEQ.done 0 s = true → exec (.snapDone
    who) s = .next (s.wr NRG_SNAP_SEQ.ready 0))

/-- An idle, gated, workless domain begins to switch off and NRG_DOM_ON shows it; the switch-off ends in off, or in a wake
  when work has arrived; a wake of an off domain turns it on and counts. A thermal sample shows every sensor, sets the
  warning by its threshold and hysteresis, and a reading above 115 degrees trips: THERM_TRIP_N falls and the clocks
  stop. -/
def Obligations.PowerDomainsAndThermalLevels : Prop :=
  (∀ (s : State) (d : Nat), stopped s = false → domainState s d = .on → gateOn s d = true → domainBusy s d = false → d
    < 120 → idleLongEnough s d = true → ∃ t, exec (.domainIdleOff d) s = .next t ∧ domainState t d = .switchingOff ∧
    (t.rd NRG_DOM_ON.on).testBit d = false ∧ t.mem = s.mem ∧ t.tt = s.tt) ∧
  (∀ (s : State) (d : Nat), stopped s = false → domainState s d = .on → gateOn s d = true → domainBusy s d = false →
    ((64 ≤ d ∧ d < 72) ∨ idleLongEnough s d = true) → exec (.domainIdleOff d) s = .next (setDomain s d .switchingOff)) ∧
  (∀ (s : State) (d : Nat), stopped s = false → domainState s d = .switchingOff → domainBusy s d = false → exec
    (.domainOffComplete d) s = .next (setDomain s d .off)) ∧
  (∀ (s : State) (d : Nat), stopped s = false → domainState s d = .off → (d < 96 ∨ d < 112 ∧ domainBusy s d = true) →
    exec (.domainWake d) s = .next (wakeDomain s d)) ∧
  (∀ (s : State) (d : Nat), stopped s = false → domainState s d = .switchingOff → domainBusy s d = false → d < 120 → ∃
    t, exec (.domainOffComplete d) s = .next t ∧ domainState t d = .off ∧ (t.rd NRG_DOM_ON.on).testBit d = false ∧
    t.nrg.leg = s.nrg.leg ∧ t.mem = s.mem) ∧
  (∀ (s : State) (d : Nat), stopped s = false → domainState s d = .switchingOff → domainBusy s d = true → d < 120 →
    s.nrg.metering = true → ∃ t, exec (.domainOffComplete d) s = .next t ∧ domainState t d = .on ∧ (t.rd
    NRG_DOM_ON.on).testBit d = true ∧ t.rd NRG_WAKES.count = (s.rd NRG_WAKES.count + 1) % 2 ^ 64 ∧ Map.get
    t.nrg.leg.est d = Map.get s.nrg.leg.est d + s.rd NRG_COEF.coef (kindOf d) 1) ∧
  (∀ (s : State) (d : Nat), stopped s = false → domainState s d = .off → d < 96 → s.nrg.metering = true → ∃ t, exec
    (.domainWake d) s = .next t ∧ domainState t d = .on ∧ (t.rd NRG_DOM_ON.on).testBit d = true ∧ t.rd NRG_WAKES.count
    = (s.rd NRG_WAKES.count + 1) % 2 ^ 64 ∧ Map.get t.nrg.leg.est d = Map.get s.nrg.leg.est d + s.rd NRG_COEF.coef
    (kindOf d) 1 ∧ Map.get t.nrg.leg.act (d * 4096) = Map.get s.nrg.leg.act (d * 4096) + s.rd NRG_COEF.coef (kindOf d)
    1) ∧
  (∀ (s : State) (rs : List Nat), stopped s = false → rs.length = 24 → (hottest rs).2 ≤ 460 → ∃ t, exec
    (.thermalSample rs) s = .next t ∧ t.rd NRG_SENSOR.temp_q 3 = rs.getD 3 0 % 2 ^ 12 ∧ t.rd NRG_STATUS.warn = flag
    (levelAfter (s.on NRG_STATUS.warn) (s.rd NRG_THERM.warn_c) (hottest rs).2) ∧ t.rd NRG_STATUS.throttle = flag
    t.nrg.throttle ∧ t.nrg.tripped = s.nrg.tripped ∧ t.pins.thermAlert = !t.on NRG_STATUS.warn ∧ t.tt = s.tt) ∧
  (∀ (s : State) (rs : List Nat), stopped s = false → rs.length = 24 → 460 < (hottest rs).2 → ∃ t, exec
    (.thermalSample rs) s = .next t ∧ t.nrg.tripped = true ∧ t.nrg.tripLatch = true ∧ t.pins.thermTrip = false ∧
    stopped t = true ∧ t.rd NRG_SENSOR.temp_q 23 = rs.getD 23 0 % 2 ^ 12)

/-- A doorbell whose generation matches and whose producer is neither stale nor past the ring sets the producer index and
  nothing else; one with another generation counts as ignored. A push of an entry that carries the next sequence
  number to a queue whose ring is read up to the producer is taken into the push buffer and moves the producer; a push
  to a page that the function does not own counts as ignored. A write beyond the end of BAR2 changes nothing. -/
def Obligations.DoorbellsAndPushes : Prop :=
  (∀ (s : State) (f off v q : Nat), stopped s = false → standby s = false → mirrors s = false → inBar2 s f off = true
    → doorbellQueue s f off = some q → off % 0x80 = 0 → takesDoorbells (queueState s q) = true → bitsAt v 32 8 = s.rd
    WQ_CTX.gen q → subMod 32 (bitsAt v 0 32) (s.rd WQ_CTX.dev_prod q) < 2 ^ 31 → subMod 32 (bitsAt v 0 32) (s.rd
    WQ_CTX.done_head q) ≤ queueSlots s q → q < 65536 → exec (.doorbell f off 8 v) s = .next (s.wr WQ_CTX.dev_prod
    (bitsAt v 0 32) q)) ∧
  (∀ (s : State) (f off v q : Nat), stopped s = false → standby s = false → inBar2 s f off = true → doorbellQueue s f
    off = some q → off % 0x80 = 0 → bitsAt v 32 8 ≠ s.rd WQ_CTX.gen q → exec (.doorbell f off 8 v) s = .next (s.count
    WQ_DB_IGNORED.count)) ∧
  (∀ (s : State) (f off img q : Nat), stopped s = false → standby s = false → mirrors s = false → inBar2 s f off =
    true → doorbellQueue s f off = some q → off % 0x80 = 0x40 → queueState s q = qActive → bitsAt img 8 4 = 1 → s.rd
    WQ_CTX.fetch_idx q = s.rd WQ_CTX.dev_prod q → s.rd WQ_CTX.dev_prod q < 2 ^ 32 → bitsAt img 16 16 = expectedSseq s
    q → s.pushHeld < 256 → (queueInt s q).pushed = none → subMod 32 (s.rd WQ_CTX.dev_prod q + 1) (s.rd
    WQ_CTX.done_head q) ≤ queueSlots s q → q < 65536 → ∃ t, exec (.push f off 64 img) s = .next t ∧ t.rd
    WQ_CTX.dev_prod q = addMod 32 (s.rd WQ_CTX.dev_prod q) 1 ∧ (queueInt t q).pushed = some (s.rd WQ_CTX.dev_prod q,
    img % 2 ^ 256) ∧ t.pushHeld = s.pushHeld + 1 ∧ t.rd WQ_PUSH_TAKEN.count = (s.rd WQ_PUSH_TAKEN.count + 1) % 2 ^
    WQ_PUSH_TAKEN.count.width ∧ t.mem = s.mem ∧ t.hostMem = s.hostMem ∧ t.links = s.links) ∧
  (∀ (s : State) (f off len v : Nat), stopped s = false → inBar2 s f off = false → exec (.doorbell f off len v) s =
    .next (s)) ∧
  (∀ (s : State) (f off len img : Nat), stopped s = false → inBar2 s f off = false → exec (.push f off len img) s =
    .next (s)) ∧
  (∀ (s : State) (f off len img : Nat), stopped s = false → standby s = false → inBar2 s f off = true → doorbellQueue
    s f off = none → exec (.push f off len img) s = .next (s.count WQ_DB_IGNORED.count))

/-- The queue that the arbiter chooses is visited: without a pushed copy a ring read from fetch_idx begins. A completed
  read of one NOP with the next sequence number accepts it: the entry joins the queue, the accept index and sequence
  advance, and the read is over. A failed read is repeated once and then the queue enters ERROR with cause 5. A PAD
  moves fetch_idx to the start of the ring. -/
def Obligations.ArbitrationAndFetch : Prop :=
  (∀ (s : State) (q : Nat), stopped s = false → chooseQueue s = some (q, s) → (queueInt s q).pushed = none → q < 65536
    → ∃ t, exec (.arbitrationVisit) s = .next t ∧ t.lastQueue = some q ∧ (queueInt t q).fetch.map Fetch.start = some
    (s.rd WQ_CTX.fetch_idx q) ∧ (queueInt t q).entries = (queueInt s q).entries ∧ t.mem = s.mem ∧ t.hostMem =
    s.hostMem) ∧
  (∀ (s t : State) (q : Nat), stopped s = false → chooseQueue s = some (q, t) → exec (.arbitrationVisit) s = .next
    (visit t q)) ∧
  (∀ (s : State), stopped s = false → chooseQueue s = none → exec (.arbitrationVisit) s = .next (s)) ∧
  (∀ (s : State) (q : Nat) (fe : Fetch) (data : List Byte), stopped s = false → fetchOut s q = true → (queueInt
    (endRead s (.ringFetch q)) q).fetch = some fe → queueState (endRead s (.ringFetch q)) q = qActive → fnLive
    (endRead s (.ringFetch q)) (queueFn (endRead s (.ringFetch q)) q) = true → exec (.fetchCompletion q true data) s =
    .next (readEntries q fe data fe.slots (updQueue (endRead s (.ringFetch q)) q fun x => { x with fetch := none }) 0
    fe.allow)) ∧
  (∀ (s : State) (q : Nat) (fe : Fetch) (data : List Byte), stopped s = false → fetchOut s q = true → (queueInt
    (endRead s (.ringFetch q)) q).fetch = some fe → queueState (endRead s (.ringFetch q)) q = qActive → exec
    (.fetchCompletion q false data) s = .next (fetchFailed (updQueue (endRead s (.ringFetch q)) q fun x =>
    { x with fetch := none }) q fe)) ∧
  (∀ (s : State) (q : Nat) (fe : Fetch) (ok : Bool) (data : List Byte), stopped s = false → (queueInt (endRead s
    (.ringFetch q)) q).fetch = some fe → queueState (endRead s (.ringFetch q)) q ≠ qActive → exec (.fetchCompletion q
    ok data) s = .next (updQueue (endRead s (.ringFetch q)) q fun x => { x with fetch := none })) ∧
  (∀ (s : State) (q : Nat) (fe : Fetch) (ok : Bool) (data : List Byte), stopped s = false → fetchOut s q = false →
    (queueInt (endRead s (.ringFetch q)) q).fetch = some fe → queueState (endRead s (.ringFetch q)) q = qActive → exec
    (.fetchCompletion q ok data) s = .next (issueFetch (endRead s (.ringFetch q)) q)) ∧
  (∀ (s : State) (q : Nat) (fe : Fetch) (data : List Byte), stopped s = false → q < 65536 → fetchOut s q = true →
    (queueInt s q).fetch = some fe → queueState s q = qActive → fnLive s (queueFn s q) = true → fe.allow = 1 →
    fe.slots = 1 → fe.refuse = false → fe.start < 2 ^ 32 → data.length = 32 → leAt data 0 2 = 0x0100 → leAt data 2 2 =
    expectedSseq s q → subMod 32 (s.rd WQ_CTX.dev_prod q) fe.start ≥ 1 → s.on CQ_CTX.stalled (s.rd WQ_CTX.cq_ring q) =
    false → s.rd WQ_CTX.cq_ring q < 16384 → hurdleHolds s q = false → engineReady s q = true → s.pair.handover = false
    → placeCause s (s.rd WQ_CTX.cq_ring q) = 0 → mirrors s = false → ∃ t, exec (.fetchCompletion q true data) s =
    .next t ∧ (queueInt t q).entries.map Entry.sseq = (queueInt s q).entries.map Entry.sseq ++ [expectedSseq s q] ∧
    t.rd WQ_CTX.accept_index q = addMod 32 fe.start 1 ∧ t.rd WQ_CTX.accepted_sseq q = expectedSseq s q ∧ (queueInt t
    q).fetch = none ∧ t.mem = s.mem ∧ t.hostMem = s.hostMem) ∧
  (∀ (s : State) (q : Nat) (fe : Fetch) (data : List Byte), stopped s = false → q < 65536 → fetchOut s q = true →
    (queueInt s q).fetch = some fe → queueState s q = qActive → fe.retried = true → (queueInt s q).pushed = none → ∃
    t, exec (.fetchCompletion q false data) s = .next t ∧ queueState t q = qError ∧ t.rd WQ_CTX.err_cause q = 5 ∧
    (queueInt t q).fetch = none ∧ t.rd IRQ_SRC.asserted 0x080 = 1 ∧ (queueInt t q).entries = (queueInt s q).entries) ∧
  (∀ (s : State) (q idx : Nat), stopped s = false → q < 65536 → (queueInt s q).padAt = some idx → toRingEnd s q idx ≤
    subMod 32 (s.rd WQ_CTX.dev_prod q) idx → (queueInt s q).padAllow = 0 → ∃ t, exec (.padEntry q) s = .next t ∧ t.rd
    WQ_CTX.fetch_idx q = addMod 32 idx (toRingEnd s q idx) ∧ (queueInt t q).padAt = none ∧ (queueInt t q).entries =
    (queueInt s q).entries ∧ t.mem = s.mem ∧ t.hostMem = s.hostMem ∧ t.links = s.links) ∧
  (∀ (s : State) (q idx : Nat), stopped s = false → (queueInt s q).padAt = some idx → toRingEnd s q idx ≤ subMod 32
    (s.rd WQ_CTX.dev_prod q) idx → (queueInt s q).fetch = none → (queueInt (passPads (updQueue (deltaQueue (s.wr
    WQ_CTX.fetch_idx (addMod 32 idx (toRingEnd s q idx)) q) q) q fun x =>
    { x with padAt := none, pads := x.pads ++ [(idx, addMod 32 idx (toRingEnd s q idx))] }) q) q).padAllow = 0 → exec
    (.padEntry q) s = .next (passPads (updQueue (deltaQueue (s.wr WQ_CTX.fetch_idx (addMod 32 idx (toRingEnd s q idx))
    q) q) q fun x => { x with padAt := none, pads := x.pads ++ [(idx, addMod 32 idx (toRingEnd s q idx))] }) q)) ∧
  (∀ (s : State) (q idx : Nat), stopped s = false → (queueInt s q).padAt = some idx → toRingEnd s q idx ≤ subMod 32
    (s.rd WQ_CTX.dev_prod q) idx → (queueInt s q).fetch = none → 0 < (queueInt s q).padAllow → (passPads (updQueue
    (deltaQueue (s.wr WQ_CTX.fetch_idx (addMod 32 idx (toRingEnd s q idx)) q) q) q fun x =>
    { x with padAt := none, pads := x.pads ++ [(idx, addMod 32 idx (toRingEnd s q idx))] }) q).rd WQ_CTX.dev_prod q ≠
    addMod 32 idx (toRingEnd s q idx) → queueState (passPads (updQueue (deltaQueue (s.wr WQ_CTX.fetch_idx (addMod 32
    idx (toRingEnd s q idx)) q) q) q fun x =>
    { x with padAt := none, pads := x.pads ++ [(idx, addMod 32 idx (toRingEnd s q idx))] }) q) q = qActive → exec
    (.padEntry q) s = .next (startFetch (passPads (updQueue (deltaQueue (s.wr WQ_CTX.fetch_idx (addMod 32 idx
    (toRingEnd s q idx)) q) q) q fun x =>
    { x with padAt := none, pads := x.pads ++ [(idx, addMod 32 idx (toRingEnd s q idx))] }) q) q (addMod 32 idx
    (toRingEnd s q idx)) (queueInt s q).padAllow (queueInt (passPads (updQueue (deltaQueue (s.wr WQ_CTX.fetch_idx
    (addMod 32 idx (toRingEnd s q idx)) q) q) q fun x =>
    { x with padAt := none, pads := x.pads ++ [(idx, addMod 32 idx (toRingEnd s q idx))] }) q) q).padRefuse none
    false))

/-- A NOP that may begin finishes OK and touches no register. START takes a STOPPED target to ACTIVE and RESET takes it to
  DISABLED, and the entry finishes OK; STOP takes an ACTIVE target to STOPPING and the entry waits for it; a target of
  another function makes the entry end INVALID_ENTRY. WQ_QCMD does the same, answers in its result field, and stays
  busy while a STOP is in progress. -/
def Obligations.QueueControl : Prop :=
  (∀ (s : State) (q sseq : Nat) (e : Entry), stopped s = false → beginnable s q sseq 0x00 = some e → ∃ t, exec
    (.nopEntry q sseq) s = .next t ∧ (entryOf t q sseq).bind Entry.outcome = some { status := stOk } ∧ (entryOf t q
    sseq).map Entry.begun = some true ∧ t.regs = s.regs ∧ t.mem = s.mem ∧ t.hostMem = s.hostMem ∧ t.links = s.links) ∧
  (∀ (s : State) (q sseq : Nat) (e : Entry), stopped s = false → beginnable s q sseq 0x00 = some e → exec (.nopEntry q
    sseq) s = .next (finish (begin_ s q sseq) q sseq { status := stOk })) ∧
  (∀ (s : State) (q sseq u : Nat) (e : Entry), stopped s = false → beginnable s q sseq 0x03 = some e → ctlAction e = 0
    → ctlTarget e = u → u ≠ q → ctlOwnerOk s q u = true → namesQuiesced s q u = false → startAllowed s u = true → exec
    (.queueCtlStart q sseq) s = .next (finish (startQueue (begin_ s q sseq) u) q sseq { status := stOk })) ∧
  (∀ (s : State) (q sseq u : Nat) (e : Entry), stopped s = false → beginnable s q sseq 0x03 = some e → ctlAction e = 1
    → ctlTarget e = u → u ≠ q → ctlOwnerOk s q u = true → namesQuiesced s q u = false → stoppable (queueState s u) =
    true → exec (.queueCtlStop q sseq) s = .next (stopQueue (updEntry (begin_ s q sseq) q sseq fun e =>
    { e with waitsFor := some u }) u)) ∧
  (∀ (s : State) (q sseq u : Nat) (e : Entry), stopped s = false → beginnable s q sseq 0x03 = some e → ctlAction e = 2
    → ctlTarget e = u → u ≠ q → ctlOwnerOk s q u = true → namesQuiesced s q u = false → queueState s u = qStopped →
    exec (.queueCtlReset q sseq) s = .next (finish (resetQueue (begin_ s q sseq) u) q sseq { status := stOk })) ∧
  (∀ (s : State) (who : Initiator) (u : Nat), stopped s = false → writable who WQ_QCMD.go 0 s = true → s.rd
    WQ_QCMD.busy = 0 → startAllowed s u = true → exec (.qcmdStart who u) s = .next ((startQueue ((s.wr WQ_QCMD.queue
    u).wr WQ_QCMD.action 0) u).wr WQ_QCMD.result stOk)) ∧
  (∀ (s : State) (who : Initiator) (u : Nat), stopped s = false → writable who WQ_QCMD.go 0 s = true → s.rd
    WQ_QCMD.busy = 0 → startAllowed s u = false → exec (.qcmdStart who u) s = .next (((s.wr WQ_QCMD.queue u).wr
    WQ_QCMD.action 0).wr WQ_QCMD.result stInvalid)) ∧
  (∀ (s : State) (who : Initiator) (u : Nat), stopped s = false → writable who WQ_QCMD.go 0 s = true → s.rd
    WQ_QCMD.busy = 0 → stoppable (queueState s u) = true → exec (.qcmdStop who u) s = .next (stopQueue
    { ((s.wr WQ_QCMD.queue u).wr WQ_QCMD.action 1).wr WQ_QCMD.busy 1 with qcmdStop := some u } u)) ∧
  (∀ (s : State) (who : Initiator) (u : Nat), stopped s = false → writable who WQ_QCMD.go 0 s = true → s.rd
    WQ_QCMD.busy = 0 → queueState s u = qStopped → exec (.qcmdReset who u) s = .next ((resetQueue ((s.wr WQ_QCMD.queue
    u).wr WQ_QCMD.action 2) u).wr WQ_QCMD.result stOk)) ∧
  (∀ (s : State) (q sseq u : Nat) (e : Entry), stopped s = false → beginnable s q sseq 0x03 = some e → ctlAction e = 0
    → ctlTarget e = u → u ≠ q → u < 65536 → ctlOwnerOk s q u = true → namesQuiesced s q u = false → queueState s u =
    qStopped → ∃ t, exec (.queueCtlStart q sseq) s = .next t ∧ (entryOf t q sseq).bind Entry.outcome = some
    { status := stOk } ∧ queueState t u = qActive ∧ t.rd WQ_CTX.dev_prod u = s.rd WQ_CTX.accept_index u % 2 ^ 32 ∧
    t.mem = s.mem) ∧
  (∀ (s : State) (q sseq u : Nat) (e : Entry), stopped s = false → beginnable s q sseq 0x03 = some e → ctlAction e = 0
    → ctlTarget e = u → u ≠ q → ctlOwnerOk s q u = false → namesQuiesced s q u = false → ∃ t, exec (.queueCtlStart q
    sseq) s = .next t ∧ (entryOf t q sseq).bind Entry.outcome = some { status := stInvalid } ∧ t.regs = s.regs ∧ t.mem
    = s.mem ∧ t.hostMem = s.hostMem ∧ t.links = s.links) ∧
  (∀ (s : State) (q sseq u : Nat) (e : Entry), stopped s = false → beginnable s q sseq 0x03 = some e → ctlAction e = 1
    → ctlTarget e = u → u ≠ q → u < 65536 → ctlOwnerOk s q u = true → namesQuiesced s q u = false → queueState s u =
    qActive → (queueInt s u).entries = [] → ∃ t, exec (.queueCtlStop q sseq) s = .next t ∧ queueState t u = qStopping
    ∧ (entryOf t q sseq).bind Entry.waitsFor = some u ∧ (entryOf t q sseq).bind Entry.outcome = none ∧ t.mem = s.mem) ∧
  (∀ (s : State) (q sseq u : Nat) (e : Entry), stopped s = false → beginnable s q sseq 0x03 = some e → ctlAction e = 2
    → ctlTarget e = u → u ≠ q → u < 65536 → ctlOwnerOk s q u = true → namesQuiesced s q u = false → queueState s u =
    qStopped → ∃ t, exec (.queueCtlReset q sseq) s = .next t ∧ (entryOf t q sseq).bind Entry.outcome = some
    { status := stOk } ∧ queueState t u = qDisabled ∧ t.rd WQ_CTX.dev_prod u = 0 ∧ t.rd WQ_CTX.done_head u = 0 ∧ t.mem
    = s.mem) ∧
  (∀ (s : State) (who : Initiator) (u : Nat), stopped s = false → writable who WQ_QCMD.go 0 s = true → s.rd
    WQ_QCMD.busy = 0 → u < 65536 → queueState s u = qStopped → ∃ t, exec (.qcmdStart who u) s = .next t ∧ queueState t
    u = qActive ∧ t.rd WQ_QCMD.result = 0 ∧ t.rd WQ_CTX.fetch_idx u = s.rd WQ_CTX.accept_index u % 2 ^ 32 ∧ t.mem =
    s.mem) ∧
  (∀ (s : State) (who : Initiator) (u : Nat), stopped s = false → writable who WQ_QCMD.go 0 s = true → s.rd
    WQ_QCMD.busy = 0 → u < 65536 → queueState s u = qActive → (queueInt s u).entries = [] → ∃ t, exec (.qcmdStop who
    u) s = .next t ∧ queueState t u = qStopping ∧ t.rd WQ_QCMD.busy = 1 ∧ t.qcmdStop = some u ∧ t.mem = s.mem) ∧
  (∀ (s : State) (who : Initiator) (u : Nat), stopped s = false → writable who WQ_QCMD.go 0 s = true → s.rd
    WQ_QCMD.busy = 0 → u < 65536 → queueState s u = qStopped → ∃ t, exec (.qcmdReset who u) s = .next t ∧ queueState t
    u = qDisabled ∧ t.rd WQ_QCMD.result = 0 ∧ t.rd WQ_CTX.accept_index u = 0 ∧ t.mem = s.mem) ∧
  (∀ (s : State) (who : Initiator) (u : Nat), stopped s = false → writable who WQ_QCMD.go 0 s = true → s.rd
    WQ_QCMD.busy = 1 → exec (.qcmdReset who u) s = .next (s.wr (lockedWriteField .wq) 1))

/-- PF 0 writes the ring base of a DISABLED queue; the same write to a queue in use is ignored as a whole with
  locked_write; a PF that does not own the queue is dropped and counted. The same holds for a ring context. A group
  whose queues are all DISABLED takes a new owner word. Reads of WQ_ERRQ and CQ_STALLQ return and clear their counts. -/
def Obligations.ContextAndOwnerWrites : Prop :=
  (∀ (s : State) (q v : Nat), stopped s = false → q < 65536 → writable (.host 0) WQ_CTX.ring_base q s = true →
    queueState s q = qDisabled → s.rd WQ_CTX.ring_base q < 2 ^ 64 → v < 2 ^ 64 → ∃ t, exec (.queueContextWrite (.host
    0) q 0 8 v) s = .next t ∧ t.rd WQ_CTX.ring_base q = v ∧ t.rd WQ_CTX.status_addr q = s.rd WQ_CTX.status_addr q ∧
    queueState t q = qDisabled ∧ t.mem = s.mem ∧ t.hostMem = s.hostMem ∧ t.links = s.links) ∧
  (∀ (s : State) (q v : Nat), stopped s = false → q < 65536 → writable (.host 0) WQ_CTX.ring_base q s = true →
    queueState s q ≠ qDisabled → s.rd WQ_CTX.ring_base q < 2 ^ 64 → v < 2 ^ 64 → v ≠ s.rd WQ_CTX.ring_base q → ∃ t,
    exec (.queueContextWrite (.host 0) q 0 8 v) s = .next t ∧ t.rd WQ_CTX.ring_base q = s.rd WQ_CTX.ring_base q ∧ t.rd
    (lockedWriteField .wq) = 1 ∧ t.mem = s.mem ∧ t.hostMem = s.hostMem ∧ t.links = s.links) ∧
  (∀ (s : State) (q v p : Nat), stopped s = false → q < 65536 → 1 ≤ p → p < 8 → standby s = false → mirrors s = false
    → s.rd BOOT_STATUS.phase ≠ 4 → queueOwned s q = true → ownedByPf s p (queueFn s q) = false → s.rd WQ_CTX.ring_base
    q < 2 ^ 64 → v < 2 ^ 64 → v ≠ s.rd WQ_CTX.ring_base q → s.rd WQ_PRIV_DROP.count + 1 < 2 ^ WQ_PRIV_DROP.count.width
    → ∃ t, exec (.queueContextWrite (.host p) q 0 8 v) s = .next t ∧ t.rd WQ_CTX.ring_base q = s.rd WQ_CTX.ring_base q
    ∧ t.rd WQ_PRIV_DROP.count = s.rd WQ_PRIV_DROP.count + 1 ∧ t.mem = s.mem ∧ t.hostMem = s.hostMem ∧ t.links =
    s.links) ∧
  (∀ (s : State) (r v : Nat), stopped s = false → r < 16384 → writable (.host 0) CQ_CTX.base r s = true → ringInUse s
    r = false → s.rd CQ_CTX.base r < 2 ^ 64 → v < 2 ^ 64 → ∃ t, exec (.ringContextWrite (.host 0) r 0 8 v) s = .next t
    ∧ t.rd CQ_CTX.base r = v ∧ t.rd CQ_CTX.cons_addr r = s.rd CQ_CTX.cons_addr r ∧ t.mem = s.mem ∧ t.hostMem =
    s.hostMem ∧ t.links = s.links) ∧
  (∀ (s t : State) (q off len v : Nat) (k : Nat), stopped s = false → t = contextWrite (.steward k) .wq (0x01400000 +
    q % 65536 * 0x40 + off % 0x40) len v (decide (queueState s q ≠ qDisabled)) (queueOwned s q) pfMayWriteQueueField
    WQ_PRIV_DROP.count s → exec (.queueContextWrite (.steward k) q off len v) s = .next (if t.regs = s.regs then t
    else deltaQueue (shadowQueue t q) q)) ∧
  (∀ (s t : State) (r off len v : Nat) (k : Nat), stopped s = false → t = contextWrite (.steward k) .cq (0x01800000 +
    r % 16384 * 0x40 + off % 0x40) len v (ringInUse s r) (s.on CQ_CTX.valid r) pfMayWriteRingField CQ_PRIV_DROP.count
    s → exec (.ringContextWrite (.steward k) r off len v) s = .next (if t.regs = s.regs then t else deltaRing
    (shadowRing t r) r)) ∧
  (∀ (s t : State) (p q off len v : Nat), stopped s = false → p < 8 → (len = 4 ∨ len = 8) → off % len = 0 → standby s
    = false → mirrors s = false → s.rd BOOT_STATUS.phase ≠ 4 → t = contextWrite (.host p) .wq (0x01400000 + q % 65536
    * 0x40 + off % 0x40) len v (decide (queueState s q ≠ qDisabled)) (queueOwned s q && ownedByPf s p (queueFn s q))
    pfMayWriteQueueField WQ_PRIV_DROP.count s → exec (.queueContextWrite (.host p) q off len v) s = .next (if t.regs =
    s.regs then t else deltaQueue (shadowQueue t q) q)) ∧
  (∀ (s t : State) (p r off len v : Nat), stopped s = false → p < 8 → (len = 4 ∨ len = 8) → off % len = 0 → standby s
    = false → mirrors s = false → s.rd BOOT_STATUS.phase ≠ 4 → t = contextWrite (.host p) .cq (0x01800000 + r % 16384
    * 0x40 + off % 0x40) len v (ringInUse s r) (s.on CQ_CTX.valid r && ownedByPf s p (ringFn s r)) pfMayWriteRingField
    CQ_PRIV_DROP.count s → exec (.ringContextWrite (.host p) r off len v) s = .next (if t.regs = s.regs then t else
    deltaRing (shadowRing t r) r)) ∧
  (∀ (s : State) (who : Initiator) (g v : Nat), stopped s = false → g < 2048 → writable who WQ_GROUP_OWNER.pf g s =
    true → ((List.range 32).all fun j => queueState s (32 * g + j) = qDisabled) = true → ownerWord s WQ_GROUP_OWNER.pf
    WQ_GROUP_OWNER.is_vf WQ_GROUP_OWNER.vf WQ_GROUP_OWNER.valid g ≠ v % 2 ^ 17 → exec (.groupOwnerWrite who g v) s =
    .next ((((s.wr WQ_GROUP_OWNER.pf (bitsAt v 0 3) g).wr WQ_GROUP_OWNER.is_vf (bitsAt v 3 1) g).wr WQ_GROUP_OWNER.vf
    (bitsAt v 4 12) g).wr WQ_GROUP_OWNER.valid (bitsAt v 16 1) g)) ∧
  (∀ (s : State) (who : Initiator) (g v : Nat), stopped s = false → g < 2048 → writable who WQ_GROUP_OWNER.pf g s =
    true → queueState s (32 * g) ≠ qDisabled → ownerWord s WQ_GROUP_OWNER.pf WQ_GROUP_OWNER.is_vf WQ_GROUP_OWNER.vf
    WQ_GROUP_OWNER.valid g ≠ v % 2 ^ 17 → exec (.groupOwnerWrite who g v) s = .next (s.wr (lockedWriteField .wq) 1)) ∧
  (∀ (s : State) (who : Initiator), stopped s = false → reaches who Blk.wq.base = true → exec (.wqErrqRead who) s =
    .next (({ s with rdata := s.rd WQ_ERRQ.queue + (s.rd WQ_ERRQ.cause) <<< 16 + (s.rd WQ_ERRQ.count) <<< 24 } :
    State).wr WQ_ERRQ.count 0)) ∧
  (∀ (s : State) (who : Initiator), stopped s = false → reaches who Blk.cq.base = true → exec (.cqStallqRead who) s =
    .next (({ s with rdata := s.rd CQ_STALLQ.ring + (s.rd CQ_STALLQ.cause) <<< 14 + (s.rd CQ_STALLQ.count) <<< 24 } :
    State).wr CQ_STALLQ.count 0))

/-- The outcome of the only entry of a queue, with no record wanted, decides and retires it: the queue is empty and the
  done-head stands past the entry. A status block that is dirty is written in two writes, its body and then done_head.
  A consumer index that is not stale or past the producer is taken; any other counts as bad. A ring whose time
  condition is met sends its vector and starts its conditions anew. The zero-length read of an entry that is gone
  leaves no flush in progress. -/
def Obligations.RetirementAndRecords : Prop :=
  (∀ (s : State) (q sseq : Nat) (e : Entry) (f : Finish), stopped s = false → q < 65536 → (queueInt s q).entries = [e]
    → e.sseq = sseq → e.outcome = some f → e.decided = none → f.status = stOk → e.links = [] → e.inUnit = false →
    e.wantsRecord = false → e.op = 0 → s.rd WQ_CTX.type q ≠ 4 → (fnSt s (queueFn s q)).flr = false → s.hif.mig = [] →
    s.pair.handover = false → (queueInt s q).pads = [] → s.rd WQ_CTX.cq_ring q < 16384 → ∃ t, exec (.entryFinish q
    sseq) s = .next t ∧ (queueInt t q).entries = [] ∧ t.rd WQ_CTX.done_head q = addMod 32 e.idx e.size ∧ (queueInt t
    q).retired = (queueInt s q).retired + 1 ∧ (queueInt t q).doneSseq = sseq ∧ t.mem = s.mem ∧ t.hostMem = s.hostMem) ∧
  (∀ (s : State) (q sseq : Nat) (e : Entry) (f : Finish), stopped s = false → entryOf s q sseq = some e → e.outcome =
    some f → exec (.entryFinish q sseq) s = .next (afterRetirement (retireQueue (takeOutcome s q e f) q))) ∧
  (∀ (s : State) (q sseq : Nat) (e : Entry), stopped s = false → entryOf s q sseq = some e → e.outcome = none → exec
    (.entryFinish q sseq) s = .next (afterRetirement (retireQueue s q))) ∧
  (∀ (s : State) (q : Nat), stopped s = false → (queueInt s q).sbDirty = true ∨ (queueInt s q).stallSeen ≠ s.on
    CQ_CTX.stalled (s.rd WQ_CTX.cq_ring q) ∨ (queueState s q = qStopping ∧ (queueInt s q).entries = []) → exec
    (.statusBlockUpdate q) s = .next (updateStatus s q)) ∧
  (∀ (s : State) (q : Nat), stopped s = false → (queueInt s q).sbDirty = false → (queueInt s q).stallSeen = s.on
    CQ_CTX.stalled (s.rd WQ_CTX.cq_ring q) → queueState s q ≠ qStopping → exec (.statusBlockUpdate q) s = .next (s)) ∧
  (∀ (s : State) (r : Nat), stopped s = false → moderationDue s r = true → exec (.moderationTimer r) s = .next
    (ringInterrupt s r)) ∧
  (∀ (s : State) (r v : Nat), stopped s = false → s.rd CQ_CTX.valid r = 1 → fnLive s (ringFn s r) = true → pollDue s r
    = true → v < 2 ^ 32 → subMod 32 v (s.rd CQ_CTX.cons_seen r) < 2 ^ 31 → subMod 32 (s.rd CQ_CTX.prod r) v ≤
    ringSlots s r → exec (.consumerPoll r true v) s = .next (endStalls (drainRing (deltaRing ((updRing s r fun x =>
    { x with pollNow := false, pollAt := s.tt.ticks }).wr CQ_CTX.cons_seen v r) r) r))) ∧
  (∀ (s : State) (r v : Nat), stopped s = false → pollDue s r = false → exec (.consumerPoll r true v) s = .next (s)) ∧
  (∀ (s : State) (q : Nat), stopped s = false → q < 65536 → (queueInt s q).sbDirty = true → queueState s q = qActive →
    fnLive s (queueFn s q) = true → s.rd WQ_CTX.ats q = 0 → pubWaits s = false → ∃ t, exec (.statusBlockUpdate q) s =
    .next t ∧ (queueInt t q).sbDirty = false ∧ (queueInt t q).sbHead = s.rd WQ_CTX.done_head q ∧ t.links.length =
    s.links.length + 2 ∧ loadBytes t.hostMem (hostKey (queueFn s q) (s.rd WQ_CTX.status_addr q)) 4 = leBytes 4 (s.rd
    WQ_CTX.done_head q) ∧ t.regs = s.regs ∧ t.mem = s.mem) ∧
  (∀ (s : State) (r v : Nat), stopped s = false → r < 16384 → s.rd CQ_CTX.valid r = 1 → fnLive s (ringFn s r) = true →
    v < 2 ^ 32 → subMod 32 v (s.rd CQ_CTX.cons_seen r) < 2 ^ 31 → subMod 32 (s.rd CQ_CTX.prod r) v ≤ ringSlots s r →
    (ringInt s r).backlog = [] → pollDue s r = true → ∃ t, exec (.consumerPoll r true v) s = .next t ∧ t.rd
    CQ_CTX.cons_seen r = v ∧ (ringInt t r).backlog = [] ∧ t.mem = s.mem ∧ t.hostMem = s.hostMem) ∧
  (∀ (s : State) (r v : Nat), stopped s = false → s.rd CQ_CTX.valid r = 1 → fnLive s (ringFn s r) = true → v < 2 ^ 32
    → pollDue s r = true → ringSlots s r < subMod 32 (s.rd CQ_CTX.prod r) v → exec (.consumerPoll r true v) s = .next
    ((updRing s r fun x => { x with pollNow := false, pollAt := s.tt.ticks }).count CQ_CONS_BAD.count)) ∧
  (∀ (s : State) (r : Nat), stopped s = false → r < 16384 → moderationDue s r = true → pubWaits s = false → ∃ t, exec
    (.moderationTimer r) s = .next t ∧ (ringInt t r).since = 0 ∧ (ringInt t r).firstTt = none ∧ t.rd
    CQ_CTX.last_irq_tt r = now s % 2 ^ 64 ∧ (ringInt t r).backlog = (ringInt s r).backlog ∧ t.mem = s.mem) ∧
  (∀ (s : State) (l q sseq : Nat), stopped s = false → q < 65536 → s.flushes = [(l, q, sseq)] → s.hif.reqs = [] →
    (queueInt s q).entries = [] → liveQueues s = [q] → listedMembers s CQ_CTX.stalled = [] → ∃ t, exec
    (.flushReadComplete l q sseq) s = .next t ∧ t.flushes = [] ∧ t.regs = s.regs ∧ (queueInt t q).unflushed =
    ((queueInt s q).unflushed.filter fun p => decide (p ≠ (sseq, l))) ∧ t.mem = s.mem) ∧
  (∀ (s : State) (l q sseq : Nat), stopped s = false → (l, q, sseq) ∈ s.flushes → q < 65536 → exec (.flushReadComplete
    l q sseq) s = .next (flushedEntry (endRead
    { s with flushes := s.flushes.filter fun x => decide (x ≠ (l, q, sseq)) } (.flush l q sseq)) l q sseq)) ∧
  (∀ (s : State) (l c sseq : Nat), stopped s = false → (l, 0x10000 + c, sseq) ∈ s.flushes → (chan s c).ending = none →
    exec (.flushReadComplete l (0x10000 + c) sseq) s = .next (updChan (endRead
    { s with flushes := s.flushes.filter fun x => decide (x ≠ (l, 0x10000 + c, sseq)) } (.flush l (0x10000 + c) sseq))
    c fun x => { x with links := x.links.filter fun y => decide (y ≠ l) }))

/-- A HURDLE without a group begins and finishes nothing at once; once everything it covers has finished it ends OK with
  the time since its acceptance in extra. An ABORT of a queue it may act on sends a request; a request that finds no
  entry ends ABORT_NOT_FOUND, one that finds a decided entry ends ABORT_LATE, and one that finds an entry of another
  queue that has not begun ends OK. -/
def Obligations.HurdlesAndAborts : Prop :=
  (∀ (s : State) (q sseq : Nat) (e : Entry), stopped s = false → beginnable s q sseq 0x01 = some e → (e.word
    2).testBit 10 = false → hurdleInvalid s q e = false → ∃ t, exec (.hurdleEntry q sseq) s = .next t ∧ (entryOf t q
    sseq).map Entry.begun = some true ∧ (entryOf t q sseq).bind Entry.outcome = none ∧ (entryOf t q sseq).map
    Entry.covers = some e.covers ∧ t.regs = s.regs ∧ t.mem = s.mem ∧ t.hostMem = s.hostMem ∧ t.links = s.links) ∧
  (∀ (s : State) (q sseq : Nat) (e : Entry), stopped s = false → beginnable s q sseq 0x01 = some e → exec
    (.hurdleEntry q sseq) s = .next (flushCovers (begin_ s q sseq) e.covers)) ∧
  (∀ (s : State) (q sseq : Nat) (e : Entry), stopped s = false → entryOf s q sseq = some e → e.op = 1 → e.begun = true
    → e.outcome = none → e.decided = none → coversDone e = true → exec (.hurdleFinish q sseq) s = .next (finish s q
    sseq { status := stOk, extra := satNat (2 ^ 32 - 1) (now s - e.acceptTt) })) ∧
  (∀ (s : State) (q sseq : Nat) (e : Entry), stopped s = false → beginnable s q sseq 0x02 = some e → ctlOwnerOk s q
    (bitsAt (e.word 2) 0 16) = false → exec (.abortEntry q sseq) s = .next (finish (begin_ s q sseq) q sseq
    { status := stInvalid })) ∧
  (∀ (s : State) (q sseq : Nat) (e : Entry), stopped s = false → beginnable s q sseq 0x02 = some e → ctlOwnerOk s q
    (bitsAt (e.word 2) 0 16) = true → namesQuiesced s q (bitsAt (e.word 2) 0 16) = false → exec (.abortEntry q sseq) s
    = .next ({ begin_ s q sseq with abortReqs := s.abortReqs ++ [⟨q, sseq, bitsAt (e.word 2) 0 16, e.word 3⟩] })) ∧
  (∀ (s : State) (q sseq u tag : Nat) (e : Entry), stopped s = false → s.abortReqs = [⟨q, sseq, u, tag⟩] → abortMatch
    s u tag = some e → e.decided = none → e.begun = false → exec (.abortRequestArrival q sseq) s = .next (retireQueue
    (decideEntry (finish { s with abortReqs := [] } q sseq { status := stOk }) u e
    { status := stAborted, bytes := e.moved }) u)) ∧
  (∀ (s : State) (q sseq u tag : Nat) (e : Entry), stopped s = false → s.abortReqs = [⟨q, sseq, u, tag⟩] → abortMatch
    s u tag = some e → e.decided = none → e.begun = true → exec (.abortRequestArrival q sseq) s = .next (retireQueue
    (stopBegun (finish { s with abortReqs := [] } q sseq { status := stOk }) u e stAborted) u)) ∧
  (∀ (s : State) (q sseq : Nat) (e : Entry), stopped s = false → entryOf s q sseq = some e → e.op = 1 → e.begun = true
    → e.outcome = none → e.decided = none → coversDone e = true → ∃ t, exec (.hurdleFinish q sseq) s = .next t ∧
    (entryOf t q sseq).bind Entry.outcome = some { status := stOk, extra := satNat (2 ^ 32 - 1) (now s - e.acceptTt) }
    ∧ t.regs = s.regs ∧ t.mem = s.mem ∧ t.hostMem = s.hostMem ∧ t.links = s.links) ∧
  (∀ (s : State) (q sseq : Nat) (e : Entry), stopped s = false → beginnable s q sseq 0x02 = some e → ctlOwnerOk s q
    (bitsAt (e.word 2) 0 16) = true → namesQuiesced s q (bitsAt (e.word 2) 0 16) = false → ∃ t, exec (.abortEntry q
    sseq) s = .next t ∧ t.abortReqs = s.abortReqs ++ [⟨q, sseq, bitsAt (e.word 2) 0 16, e.word 3⟩] ∧ (entryOf t q
    sseq).map Entry.begun = some true ∧ t.regs = s.regs ∧ t.mem = s.mem ∧ t.hostMem = s.hostMem ∧ t.links = s.links) ∧
  (∀ (s : State) (q sseq u tag : Nat) (x : Entry), stopped s = false → s.abortReqs = [⟨q, sseq, u, tag⟩] → abortMatch
    s u tag = none → entryOf s q sseq = some x → x.outcome = none → x.decided = none → ∃ t, exec (.abortRequestArrival
    q sseq) s = .next t ∧ (entryOf t q sseq).bind Entry.outcome = some { status := stAbortNotFound } ∧ t.abortReqs =
    [] ∧ t.regs = s.regs ∧ t.mem = s.mem ∧ t.hostMem = s.hostMem ∧ t.links = s.links) ∧
  (∀ (s : State) (q sseq u tag : Nat) (x e : Entry), stopped s = false → s.abortReqs = [⟨q, sseq, u, tag⟩] →
    abortMatch s u tag = some e → e.decided.isSome = true → entryOf s q sseq = some x → x.outcome = none → x.decided =
    none → ∃ t, exec (.abortRequestArrival q sseq) s = .next t ∧ (entryOf t q sseq).bind Entry.outcome = some
    { status := stAbortLate } ∧ t.abortReqs = [] ∧ t.regs = s.regs ∧ t.mem = s.mem ∧ t.hostMem = s.hostMem ∧ t.links =
    s.links)

/-- A good frame on a running port with room is put, without its FCS, at the end of its pipeline's port input; its lines
  are held, and rx_frames and rx_bytes count it. A frame that the MAC or FEC refuses changes nothing but the counters:
  the corrected and uncorrectable codewords, and the one of the first matching case of R289. A link that comes up on a
  running port shows aligned and locked, and one that goes down ends every pause of the port; both set link_change and
  raise their source. A refresh that is due on a port that uses PAUSE marks the priority for the next generated frame. -/
def Obligations.ReceptionLinksAndFlowControl : Prop :=
  (∀ (s : State) (p : Nat) (f : Bytes), stopped s = false → isPort s p = true → rxDiscard s p f 0 = none → beAt
    (f.take (f.length - 4)) 12 2 ≠ 0x8808 → heldLines s p none + linesFor (f.length - 4) ≤ s.rd PP_PORT_BUF.buf_limit
    p → linesFor (f.length - 4) ≤ freeLineCount s → ∃ t, exec (.frameReceive p f 0 0) s = .next t ∧ (inputOf t (pipeOf
    p) 0).map (fun w => w.pkt.frame) = (inputOf s (pipeOf p) 0).map (fun w => w.pkt.frame) ++ [f.take (f.length - 4)]
    ∧ heldAll t = heldAll s + linesFor (f.length - 4) ∧ t.rd PP_PORT_CNT.count p 0 = (s.rd PP_PORT_CNT.count p 0 + 1)
    % 2 ^ 64 ∧ t.rd PP_PORT_CNT.count p 1 = (s.rd PP_PORT_CNT.count p 1 + f.length) % 2 ^ 64 ∧ t.pp.passes =
    s.pp.passes ∧ t.mem = s.mem ∧ t.hostMem = s.hostMem ∧ t.links = s.links) ∧
  (∀ (s : State) (p c u : Nat) (f : Bytes), stopped s = false → isPort s p = true → rxDiscard s p f u = none → beAt
    (f.take (f.length - 4)) 12 2 ≠ 0x8808 → exec (.frameReceive p f c u) s = .next (admitFrame (portCount (portCount
    (ethUnits (portCount (portCount s p 14 c) p 15 u) p f.length (s.rd PP_PORT.account p)) p 0 1) p 1 f.length) p
    (f.take (f.length - 4)))) ∧
  (∀ (s : State) (p c u : Nat) (f : Bytes), stopped s = false → isPort s p = true → rxDiscard s p f u = none → beAt
    (f.take (f.length - 4)) 12 2 = 0x8808 → exec (.frameReceive p f c u) s = .next (rxControl (ethUnits (portCount
    (portCount s p 14 c) p 15 u) p f.length (s.rd PP_PORT.account p)) p (f.take (f.length - 4)))) ∧
  (∀ (s : State) (p : Nat), stopped s = false → portUp s p = true → exec (.pfcRefresh p) s = .next ((pausePriorities
    (pauseCheck s p) p).foldl (fun t q => if refreshDue t p q then markPause t p q true else t) (pauseCheck s p))) ∧
  (∀ (s : State) (p : Nat), stopped s = false → portUp s p = false → exec (.pfcRefresh p) s = .next (s)) ∧
  (∀ (s : State) (p : Nat), stopped s = false → p < 16 → isPort s p = true → s.rd PP_PORT.enable p = 1 → portClocked s
    p = true → s.rd PP_PORT_STAT.link_up p = 0 → exec (.linkChange p true) s = .next (raise (((((s.wr
    PP_PORT_STAT.link_up 1 p).wr PP_PORT_STAT.align 1 p).wr PP_PORT_STAT.fec_lock 1 p).wr PP_PORT_STAT.link_change 1
    p).wr PP_PORT_STAT.lt_done (flag (s.on PP_PORT.lt_en p && decide (2 ≤ s.rd PP_PORT.pmd p))) p) 0x0A0)) ∧
  (∀ (s : State) (p : Nat) (up : Bool), stopped s = false → s.on PP_PORT_STAT.link_up p = (up && isPort s p && s.on
    PP_PORT.enable p && portClocked s p) → exec (.linkChange p up) s = .next (s)) ∧
  (∀ (s : State) (p c u n : Nat) (f : Bytes), stopped s = false → isPort s p = true → rxDiscard s p f u = some n →
    exec (.frameReceive p f c u) s = .next (portCount (portCount (portCount s p 14 c) p 15 u) p n 1)) ∧
  (∀ (s : State) (p : Nat), stopped s = false → isPort s p = true → s.rd PP_PORT.enable p = 1 → portClocked s p = true
    → s.rd PP_PORT_STAT.link_up p = 0 → ∃ t, exec (.linkChange p true) s = .next t ∧ t.rd PP_PORT_STAT.link_up p = 1 ∧
    t.rd PP_PORT_STAT.align p = 1 ∧ t.rd PP_PORT_STAT.fec_lock p = 1 ∧ t.rd PP_PORT_STAT.link_change p = 1 ∧ t.rd
    IRQ_SRC.asserted 0x0A0 = 1 ∧ t.pp = s.pp ∧ t.tm = s.tm ∧ t.mem = s.mem) ∧
  (∀ (s : State) (p : Nat), stopped s = false → p < 16 → s.rd PP_PORT_STAT.link_up p = 1 → ∃ t, exec (.linkChange p
    false) s = .next t ∧ t.rd PP_PORT_STAT.link_up p = 0 ∧ t.rd PP_PORT_STAT.align p = 0 ∧ t.rd PP_PORT_STAT.xoff_sent
    p = 0 ∧ t.rd TM_PORT.paused p = 0 ∧ Map.get t.pp.genPause p = [] ∧ t.rd PP_PORT_STAT.link_change p = 1 ∧ t.rd
    IRQ_SRC.asserted 0x0A0 = 1 ∧ t.pp.holds = s.pp.holds ∧ t.mem = s.mem) ∧
  (∀ (s : State) (p : Nat), stopped s = false → isPort s p = true → s.rd PP_PORT.enable p = 1 → s.rd
    PP_PORT_STAT.link_up p = 1 → s.rd PP_PORT.fc_mode p = 1 → pauseCheck s p = s → refreshDue s p 0 = true → ∃ t, exec
    (.pfcRefresh p) s = .next t ∧ (Map.get t.pp.genPause p).any (fun g => g.mask.testBit 0 && g.on.testBit 0) = true ∧
    Map.get t.pp.pauseSent (p * 8) = s.tt.ticks + 1 ∧ t.pp.holds = s.pp.holds ∧ t.tm = s.tm ∧ t.mem = s.mem ∧
    t.hostMem = s.hostMem ∧ t.links = s.links)

/-- The oldest packet of the port input takes the slot: it leaves the input and one pass is added to the passes in flight.
  A packet that firmware reinjects behind stage 11 without a parse goes straight to the deparser. A cycle without a
  packet only counts. At the end of its deparser the oldest pass leaves the pipeline: one bound for Trallasy reaches
  that engine as the deparser leaves it; one without a destination is dropped, counted, and its lines are freed. A
  pass before its deparser stays where it is. -/
def Obligations.PassesThroughAPipeline : Prop :=
  (∀ (s : State) (pipe : Nat) (w : Waiting) (rest : List Waiting), stopped s = false → pipe < 2 → enabled s .pp = true
    → inputOf s pipe 0 = w :: rest → ∃ t, exec (.passEnter pipe) s = .next t ∧ (Map.get t.pp.passes pipe).length =
    (Map.get s.pp.passes pipe).length + 1 ∧ inputOf t pipe 0 = rest ∧ (Map.get t.pp.passes pipe).take (Map.get
    s.pp.passes pipe).length = (Map.get s.pp.passes pipe) ∧ t.pp.holds = s.pp.holds ∧ t.hostMem = s.hostMem) ∧
  (∀ (s t : State) (pipe src : Nat) (w : Waiting) (rest : List Waiting), stopped s = false → pipe < 2 → enabled s .pp
    = true → slotInput s pipe = some (src, t) → inputOf t pipe src = w :: rest → exec (.passEnter pipe) s = .next
    (pipeCycle (startPass { t with pp := { t.pp with inputs := Map.set t.pp.inputs (inKey pipe src) rest } } pipe src
    w) pipe)) ∧
  (∀ (s : State) (pipe : Nat) (x : Packet), stopped s = false → pipe < 2 → enabled s .pp = true → inputOf s pipe 0 =
    [] → inputOf s pipe 1 = [] → inputOf s pipe 2 = [] → inputOf s pipe 3 = [⟨x, 12, false⟩] → inputOf s pipe 4 = [] →
    ∃ t, exec (.passEnter pipe) s = .next t ∧ Map.get t.pp.passes pipe = (Map.get s.pp.passes pipe) ++ [unparsedPass s
    pipe
    { pkt := { x with info := entryMeta s pipe 3 x.info }, orig := { x with info := entryMeta s pipe 3 x.info }, stage := 12, live := liveFields s }]
    ∧ inputOf t pipe 3 = [] ∧ t.rd PP_PIPE_CNT.count pipe 0 = (s.rd PP_PIPE_CNT.count pipe 0 + 1) % 2 ^ 64 ∧ t.rd
    PP_PIPE_CNT.count pipe 4 = (s.rd PP_PIPE_CNT.count pipe 4 + 1) % 2 ^ 64 ∧ t.mem = s.mem ∧ t.hostMem = s.hostMem ∧
    t.links = s.links) ∧
  (∀ (s : State) (pipe : Nat), stopped s = false → pipe < 2 → enabled s .pp = true → slotInput s pipe = none → exec
    (.passEnter pipe) s = .next (pipeCycle (pmc s 0x201 pipe 1 none) pipe)) ∧
  (∀ (s : State) (pipe : Nat), stopped s = false → enabled s .pp = false → exec (.passEnter pipe) s = .next (s)) ∧
  (∀ (s : State) (pipe : Nat) (p : Pass) (rest : List Pass), stopped s = false → pipe < 2 → (Map.get s.pp.passes pipe)
    = p :: rest → 12 ≤ p.stage → fateOf pipe p = .trallasy → p.pkt.info.mirrorMask = 0 → ∃ t, exec (.passEnd pipe) s =
    .next t ∧ t.pp.toTrn = s.pp.toTrn ++ [(pipe, (grown
    { s with pp := { s.pp with passes := Map.set s.pp.passes pipe rest } } (deparsed s pipe p).1).2)] ∧ Map.get
    t.pp.passes pipe = rest ∧ t.pp.inputs = s.pp.inputs ∧ t.mem = s.mem ∧ t.hostMem = s.hostMem ∧ t.links = s.links) ∧
  (∀ (s : State) (pipe : Nat) (p : Pass) (rest : List Pass), stopped s = false → pipe < 2 → (Map.get s.pp.passes pipe)
    = p :: rest → 12 ≤ p.stage → fateOf pipe p = .noDest → p.pkt.info.mirrorMask = 0 → s.pp.holds =
    [⟨p.pkt.info.handle, 3, none, 0, []⟩] → ∃ t, exec (.passEnd pipe) s = .next t ∧ t.rd PP_PIPE_CNT.count pipe 10 =
    (s.rd PP_PIPE_CNT.count pipe 10 + 1) % 2 ^ 64 ∧ Map.get t.pp.passes pipe = rest ∧ t.pp.holds = [] ∧ t.pp.inputs =
    s.pp.inputs ∧ t.pp.toTrn = s.pp.toTrn ∧ t.mem = s.mem ∧ t.hostMem = s.hostMem ∧ t.links = s.links) ∧
  (∀ (s t : State) (pipe : Nat) (p : Pass) (rest : List Pass), stopped s = false → (Map.get s.pp.passes pipe) = p ::
    rest → 12 ≤ p.stage → diverted p (fateOf pipe p) = false →
    (match fateOf pipe p with | .drop => false | .lost => false | .noDest => false | .reasonDrop _ => false | _ => true) = true
    → takeFate (grown { s with pp := { s.pp with passes := Map.set s.pp.passes pipe rest } } (deparsed s pipe p).1).1
    pipe (fateOf pipe p) (grown { s with pp := { s.pp with passes := Map.set s.pp.passes pipe rest } } (deparsed s
    pipe p).1).2 = .inl t → exec (.passEnd pipe) s = .next (checkDrained (mirrorPoint pipe 0 p.pkt.info.mirrorMask
    p.live p.orig (mirrorPoint pipe 1 p.pkt.info.mirrorMask p.live (deparsed s pipe p).1 (t.count PP_PIPE_CNT.count
    (deparsed s pipe p).2 pipe 9))) pipe)) ∧
  (∀ (s t : State) (pipe : Nat) (p : Pass) (rest : List Pass), stopped s = false → (Map.get s.pp.passes pipe) = p ::
    rest → 12 ≤ p.stage → diverted p (fateOf pipe p) = false → (fateOf pipe p = .drop ∨ fateOf pipe p = .lost ∨ fateOf
    pipe p = .noDest ∨ fateOf pipe p = .reasonDrop (((lowestRaised p fun x => decide (x ≤ 1)).getD (0, 0)).1)) →
    takeFate { s with pp := { s.pp with passes := Map.set s.pp.passes pipe rest } } pipe (fateOf pipe p) (deparsed s
    pipe p).1 = .inl t → exec (.passEnd pipe) s = .next (checkDrained (mirrorPoint pipe 0 p.pkt.info.mirrorMask p.live
    p.orig (t.count PP_PIPE_CNT.count (deparsed s pipe p).2 pipe 9)) pipe)) ∧
  (∀ (s : State) (pipe : Nat) (p : Pass) (rest : List Pass), stopped s = false → (Map.get s.pp.passes pipe) = p ::
    rest → 12 ≤ p.stage → diverted p (fateOf pipe p) = true → exec (.passEnd pipe) s = .next (checkDrained
    (mirrorPoint pipe 0 p.pkt.info.mirrorMask p.live p.orig ((freeHandle (pipeCount
    { s with pp := { s.pp with passes := Map.set s.pp.passes pipe rest } } pipe 6) (deparsed s pipe
    p).1.info.handle).count PP_PIPE_CNT.count (deparsed s pipe p).2 pipe 9)) pipe)) ∧
  (∀ (s : State) (pipe : Nat) (p : Pass) (rest : List Pass), stopped s = false → (Map.get s.pp.passes pipe) = p ::
    rest → p.stage < 12 → exec (.passEnd pipe) s = .next (s))

/-- A slow-path packet whose channel grants a credit leaves its queue and its handle is in firmware's hands. A reinject
  baton for such a handle takes it out of them: cmd 1 puts the packet at the reinjection input with its stage; cmd 2
  hands it to the egress queue that the baton names, green, where admission lets it in; cmd 3 offers it to a NET_RX
  queue, and one without a buffer is dropped and counted; cmd 4 frees its lines. A baton with cmd 5 to 7 is discarded
  and counted. -/
def Obligations.SlowPathAndReinjectBatons : Prop :=
  (∀ (s : State) (pipe : Nat) (x : SlowItem), stopped s = false → pipe < 2 → x.pipe < 2 → x.reason < 8 → Map.get
    s.pp.slow pipe = [x] → (sendSlow s x).isSome = true → (gather s x).map (fun g => g.2) = some x → ∃ t, exec
    (.slowPathBaton pipe) s = .next t ∧ Map.get t.pp.slow pipe = [] ∧ t.pp.slowOut = s.pp.slowOut ++
    [x.pkt.info.handle] ∧ t.rd PP_SLOW_CNT.sent x.reason = (s.rd PP_SLOW_CNT.sent x.reason + 1) % 2 ^ 64 ∧ t.pp.holds
    = s.pp.holds) ∧
  (∀ (s : State) (pipe : Nat), stopped s = false → pipe < 2 → exec (.slowPathBaton pipe) s = .next (sendFirst s pipe
    [] (Map.get s.pp.slow pipe))) ∧
  (∀ (s x : State) (pipe : Nat) (b : Baton), stopped s = false → headReinject s pipe = some b → batonCmd b = 1 →
    s.pp.slowOut.contains (batonPacket s b).info.handle = true → memBad s (lineAddr (batonPacket s b).info.handle)
    (128 + (batonPacket s b).frame.length) = false → x = sramAccess s (linesFor (batonPacket s b).frame.length)
    (batonPacket s b).info.account → exec (.reinject pipe) s = .next (endReinject (putInput
    { x with pp := { x.pp with slowOut := x.pp.slowOut.erase (batonPacket s b).info.handle } } pipe 3
    ⟨batonPacket s b, bitsAt b.image 4 4, decide (bitsAt b.image 4 4 = 0) && bitAt b.image 8⟩) pipe b)) ∧
  (∀ (s x : State) (pipe : Nat) (b : Baton), stopped s = false → headReinject s pipe = some b → batonCmd b = 2 →
    s.pp.slowOut.contains (batonPacket s b).info.handle = true → memBad s (lineAddr (batonPacket s b).info.handle)
    (128 + (batonPacket s b).frame.length) = false → x = sramAccess s (linesFor (batonPacket s b).frame.length)
    (batonPacket s b).info.account → exec (.sendToPort pipe) s = .next (endReinject (tmEnqueue
    { x with pp := { x.pp with slowOut := x.pp.slowOut.erase (batonPacket s b).info.handle } } (bitsAt b.image 96 4)
    (bitsAt b.image 100 9) (bitsAt b.image 109 3) 0
    { batonPacket s b with info := { (batonPacket s b).info with tc := bitsAt b.image 109 3, colour := 0 } }) pipe b)) ∧
  (∀ (s x : State) (pipe : Nat) (b : Baton), stopped s = false → headReinject s pipe = some b → batonCmd b = 4 →
    s.pp.slowOut.contains (batonPacket s b).info.handle = true → memBad s (lineAddr (batonPacket s b).info.handle)
    (128 + (batonPacket s b).frame.length) = false → x = sramAccess s (linesFor (batonPacket s b).frame.length)
    (batonPacket s b).info.account → exec (.freeLines pipe) s = .next (endReinject (freeHandle
    { x with pp := { x.pp with slowOut := x.pp.slowOut.erase (batonPacket s b).info.handle } } (batonPacket s
    b).info.handle) pipe b)) ∧
  (∀ (s x t : State) (pipe : Nat) (b : Baton), stopped s = false → headReinject s pipe = some b → batonCmd b = 3 →
    s.pp.slowOut.contains (batonPacket s b).info.handle = true → memBad s (lineAddr (batonPacket s b).info.handle)
    (128 + (batonPacket s b).frame.length) = false → x = sramAccess s (linesFor (batonPacket s b).frame.length)
    (batonPacket s b).info.account → takeFate
    { x with pp := { x.pp with slowOut := x.pp.slowOut.erase (batonPacket s b).info.handle } } pipe (.host (bitsAt
    b.image 112 16)) (batonPacket s b) = .inl t → exec (.deliverToHost pipe) s = .next (endReinject t pipe b)) ∧
  (∀ (s : State) (pipe : Nat) (b : Baton), stopped s = false → headReinject s pipe = some b → batonCmd b = 1 → 512 ≤
    b.source → memBad s (lineAddr (batonPacket s b).info.handle) (128 + (batonPacket s b).frame.length) = false →
    s.pp.slowOut.contains (batonPacket s b).info.handle = true → ∃ t, exec (.reinject pipe) s = .next t ∧ inputOf t
    pipe 3 = inputOf s pipe 3 ++
    [⟨(batonPacket s b), bitsAt b.image 4 4, decide (bitsAt b.image 4 4 = 0) && bitAt b.image 8⟩] ∧ t.pp.slowOut =
    s.pp.slowOut.erase (batonPacket s b).info.handle ∧ Map.get t.rly.reinject pipe = (Map.get s.rly.reinject
    pipe).tail ∧ t.pp.holds = s.pp.holds ∧ t.mem = s.mem ∧ t.hostMem = s.hostMem ∧ t.links = s.links) ∧
  (∀ (s : State) (pipe : Nat) (b : Baton), stopped s = false → headReinject s pipe = some b → batonCmd b = 2 → 512 ≤
    b.source → memBad s (lineAddr (batonPacket s b).info.handle) (128 + (batonPacket s b).frame.length) = false →
    s.pp.slowOut.contains (batonPacket s b).info.handle = true → admissionDrop s (bitsAt b.image 96 4) (bitsAt b.image
    100 9) (bitsAt b.image 109 3) 0 (packetLines s (batonPacket s b).info.handle) = none → s.nrg.metering = false → ∃
    t, exec (.sendToPort pipe) s = .next t ∧ (tmQueue t (tmKey (bitsAt b.image 96 4) (bitsAt b.image 100 9) (bitsAt
    b.image 109 3))).map (fun f => f.pkt.frame) = (tmQueue s (tmKey (bitsAt b.image 96 4) (bitsAt b.image 100 9)
    (bitsAt b.image 109 3))).map (fun f => f.pkt.frame) ++ [(batonPacket s b).frame] ∧ t.pp.slowOut =
    s.pp.slowOut.erase (batonPacket s b).info.handle ∧ Map.get t.rly.reinject pipe = (Map.get s.rly.reinject
    pipe).tail ∧ t.pp.holds = s.pp.holds ∧ t.mem = s.mem ∧ t.hostMem = s.hostMem ∧ t.links = s.links) ∧
  (∀ (s : State) (pipe : Nat) (b : Baton), stopped s = false → pipe < 2 → headReinject s pipe = some b → batonCmd b =
    3 → 512 ≤ b.source → memBad s (lineAddr (batonPacket s b).info.handle) (128 + (batonPacket s b).frame.length) =
    false → s.pp.slowOut.contains (batonPacket s b).info.handle = true → queueState s (bitsAt b.image 112 16) ≠
    qActive → ∃ t, exec (.deliverToHost pipe) s = .next t ∧ t.rd PP_PIPE_CNT.count pipe 7 = (s.rd PP_PIPE_CNT.count
    pipe 7 + 1) % 2 ^ 64 ∧ t.pp.slowOut = s.pp.slowOut.erase (batonPacket s b).info.handle ∧ Map.get t.rly.reinject
    pipe = (Map.get s.rly.reinject pipe).tail ∧ t.mem = s.mem ∧ t.hostMem = s.hostMem ∧ t.links = s.links) ∧
  (∀ (s : State) (pipe : Nat) (b : Baton), stopped s = false → headReinject s pipe = some b → batonCmd b = 4 → 512 ≤
    b.source → memBad s (lineAddr (batonPacket s b).info.handle) (128 + (batonPacket s b).frame.length) = false →
    s.pp.slowOut.contains (batonPacket s b).info.handle = true → s.pp.holds =
    [⟨(batonPacket s b).info.handle, 3, none, 0, []⟩] → ∃ t, exec (.freeLines pipe) s = .next t ∧ t.pp.holds = [] ∧
    t.pp.slowOut = s.pp.slowOut.erase (batonPacket s b).info.handle ∧ Map.get t.rly.reinject pipe = (Map.get
    s.rly.reinject pipe).tail ∧ t.pp.inputs = s.pp.inputs ∧ t.tm = s.tm ∧ t.mem = s.mem ∧ t.hostMem = s.hostMem ∧
    t.links = s.links) ∧
  (∀ (s : State) (pipe : Nat) (b : Baton), stopped s = false → headReinject s pipe = some b → 5 ≤ batonCmd b → exec
    (.reinjectBad pipe) s = .next
    ({ pipeCount s pipe 12 with rly := { s.rly with reinject := Map.upd s.rly.reinject pipe List.tail } }))

/-- A NET_SEND that may begin, with a legal length and lines for it, puts its frame at the host-transmit input of its
  pipeline and ends OK with the length; one shorter than 14 bytes ends INVALID_ENTRY. A NET_POST_RX begins and waits,
  with nothing decided; one whose buffer is under 64 bytes ends INVALID_ENTRY. A quad takes a new mode while its ports
  are disabled, and refuses it otherwise. A flow counter is shown, and cleared where that is asked. When the copy of a
  bank ends, copying is 0, and with no other pipeline busy the old program is gone. -/
def Obligations.HostFramesAndPipelineSetup : Prop :=
  (∀ (s : State) (q sseq : Nat) (e : Entry) (f : Bytes), stopped s = false → beginnable s q sseq 0x10 = some e → 14 ≤
    e.at 0x10 0 14 → e.at 0x10 0 14 ≤ 9596 → e.at 0x10 17 15 = 0 → e.at 0x18 0 64 = 0 → bitAt e.raw (8 * 0x10 + 15) =
    false → fnLive s (queueFn s q) = true → linesFor (e.at 0x10 0 14) ≤ freeLineCount s → ∃ t, exec (.netSend q sseq
    true f) s = .next t ∧ (entryOf t q sseq).bind Entry.outcome = some { status := stOk, bytes := e.at 0x10 0 14 } ∧
    (inputOf t (e.at 0x10 14 1) 1).map (fun w => w.pkt.frame) = (inputOf s (e.at 0x10 14 1) 1).map (fun w =>
    w.pkt.frame) ++ [fitBytes (e.at 0x10 0 14) f] ∧ heldAll t = heldAll s + linesFor (e.at 0x10 0 14) ∧ t.mem = s.mem
    ∧ t.hostMem = s.hostMem ∧ t.links = s.links) ∧
  (∀ (s t : State) (q sseq h : Nat) (e : Entry) (f : Bytes), stopped s = false → beginnable s q sseq 0x10 = some e →
    14 ≤ e.at 0x10 0 14 → e.at 0x10 0 14 ≤ 9596 → e.at 0x10 17 15 = 0 → e.at 0x18 0 64 = 0 → bitAt e.raw (8 * 0x10 +
    15) = false → fnLive s (queueFn s q) = true → allocate (begin_ s q sseq) (linesFor (e.at 0x10 0 14)) none 0
    (queueAccount s q) = some (h, t) → exec (.netSend q sseq true f) s = .next (finish (putInput (chargeRead t q (e.at
    0x10 0 14)) (e.at 0x10 14 1) 1
    { pkt := ⟨fitBytes (e.at 0x10 0 14) f, { source := 1, account := queueAccount s q, pktLen := e.at 0x10 0 14, handle := h, srcQueue := q, scratch := e.at 0x14 0 32 }, bitAt e.raw (8 * 0x10 + 16), e.order⟩ })
    q sseq { status := stOk, bytes := e.at 0x10 0 14 })) ∧
  (∀ (s : State) (q sseq : Nat) (e : Entry) (f : Bytes), stopped s = false → beginnable s q sseq 0x10 = some e → 14 ≤
    e.at 0x10 0 14 → e.at 0x10 0 14 ≤ 9596 → e.at 0x10 17 15 = 0 → e.at 0x18 0 64 = 0 → bitAt e.raw (8 * 0x10 + 15) =
    false → fnLive s (queueFn s q) = true → exec (.netSend q sseq false f) s = .next (finishWith (begin_ s q sseq) q
    sseq stBusError)) ∧
  (∀ (s : State) (q sseq : Nat) (e : Entry) (f : Bytes) (ok : Bool), stopped s = false → beginnable s q sseq 0x10 =
    some e → (e.at 0x10 0 14 < 14 ∨ 9596 < e.at 0x10 0 14 ∨ e.at 0x10 17 15 ≠ 0 ∨ e.at 0x18 0 64 ≠ 0) → exec (.netSend
    q sseq ok f) s = .next (finishWith (begin_ s q sseq) q sseq stInvalid)) ∧
  (∀ (s : State) (q sseq : Nat) (e : Entry), stopped s = false → beginnable s q sseq 0x11 = some e → badPost e = false
    → exec (.netPostRx q sseq) s = .next (begin_ s q sseq)) ∧
  (∀ (s : State) (q sseq : Nat) (e : Entry), stopped s = false → beginnable s q sseq 0x11 = some e → badPost e = true
    → exec (.netPostRx q sseq) s = .next (finishWith (begin_ s q sseq) q sseq stInvalid)) ∧
  (∀ (s : State) (q sseq : Nat) (e : Entry) (f : Bytes) (ok : Bool), stopped s = false → beginnable s q sseq 0x10 =
    some e → e.at 0x10 0 14 < 14 → ∃ t, exec (.netSend q sseq ok f) s = .next t ∧ (entryOf t q sseq).bind
    Entry.outcome = some { status := stInvalid, bytes := e.moved } ∧ t.regs = s.regs ∧ t.pp = s.pp ∧ t.mem = s.mem ∧
    t.hostMem = s.hostMem ∧ t.links = s.links) ∧
  (∀ (s : State) (q sseq : Nat) (e : Entry), stopped s = false → beginnable s q sseq 0x11 = some e → 64 ≤ e.at 0x10 0
    14 → e.at 0x10 16 16 = 0 → e.at 0x14 0 96 = 0 → ∃ t, exec (.netPostRx q sseq) s = .next t ∧ (entryOf t q sseq).map
    Entry.begun = some true ∧ (entryOf t q sseq).bind Entry.outcome = none ∧ t.regs = s.regs ∧ t.pp = s.pp ∧ t.mem =
    s.mem ∧ t.hostMem = s.hostMem ∧ t.links = s.links) ∧
  (∀ (s : State) (q sseq : Nat) (e : Entry), stopped s = false → beginnable s q sseq 0x11 = some e → e.at 0x10 0 14 <
    64 → ∃ t, exec (.netPostRx q sseq) s = .next t ∧ (entryOf t q sseq).bind Entry.outcome = some
    { status := stInvalid, bytes := e.moved } ∧ t.regs = s.regs ∧ t.pp = s.pp ∧ t.mem = s.mem ∧ t.hostMem = s.hostMem
    ∧ t.links = s.links) ∧
  (∀ (s : State) (who : Initiator) (m : Nat), stopped s = false → writable who PP_ETH_MODE.quad0 0 s = true →
    ((quadPorts s 1).any fun p => s.on PP_PORT.enable p) = false → exec (.ppEthModeWrite who 1 m) s = .next (ethPower
    (s.wr PP_ETH_MODE.quad1 m))) ∧
  (∀ (s : State) (who : Initiator) (m : Nat), stopped s = false → writable who PP_ETH_MODE.quad0 0 s = true →
    ((quadPorts s 0).any fun p => s.on PP_PORT.enable p) = true → s.rd PP_ETH_MODE.quad0 ≠ m % 8 → exec
    (.ppEthModeWrite who 0 m) s = .next (s.wr (lockedWriteField .pp) 1)) ∧
  (∀ (s : State) (who : Initiator), stopped s = false → writable who PP_CNT_ADDR.go 0 s = true → s.rd
    PP_CNT_ADDR.clear = 1 → 50 ≤ s.areas.ledger → s.nrg.metering = false → ∃ t, exec (.flowCounterSnapshot who) s =
    .next t ∧ t.rd PP_CNT_DATA.packets = (flowCount s (s.rd PP_CNT_ADDR.pipe) (s.rd PP_CNT_ADDR.index)).1 % 2 ^ 64 ∧
    t.rd PP_CNT_DATA.bytes = (flowCount s (s.rd PP_CNT_ADDR.pipe) (s.rd PP_CNT_ADDR.index)).2 % 2 ^ 64 ∧ flowCount t
    (s.rd PP_CNT_ADDR.pipe) (s.rd PP_CNT_ADDR.index) = (0, 0) ∧ t.pp = s.pp ∧ t.hostMem = s.hostMem) ∧
  (∀ (s c : State) (who : Initiator), stopped s = false → writable who PP_CNT_ADDR.go 0 s = true → s.rd
    PP_CNT_ADDR.clear = 1 → c = ledgerAccess ((s.wr PP_CNT_DATA.packets (flowCount s (s.rd PP_CNT_ADDR.pipe) (s.rd
    PP_CNT_ADDR.index)).1).wr PP_CNT_DATA.bytes (flowCount s (s.rd PP_CNT_ADDR.pipe) (s.rd PP_CNT_ADDR.index)).2)
    (flowPlace (s.rd PP_CNT_ADDR.pipe) (s.rd PP_CNT_ADDR.index)) 16 false 0 → exec (.flowCounterSnapshot who) s =
    .next (putFlow (ledgerAccess c (flowPlace (s.rd PP_CNT_ADDR.pipe) (s.rd PP_CNT_ADDR.index)) 16 true 0) (s.rd
    PP_CNT_ADDR.pipe) (s.rd PP_CNT_ADDR.index) 0 0)) ∧
  (∀ (s : State) (who : Initiator), stopped s = false → writable who PP_CNT_ADDR.go 0 s = true → s.rd
    PP_CNT_ADDR.clear = 0 → exec (.flowCounterSnapshot who) s = .next (ledgerAccess ((s.wr PP_CNT_DATA.packets
    (flowCount s (s.rd PP_CNT_ADDR.pipe) (s.rd PP_CNT_ADDR.index)).1).wr PP_CNT_DATA.bytes (flowCount s (s.rd
    PP_CNT_ADDR.pipe) (s.rd PP_CNT_ADDR.index)).2) (flowPlace (s.rd PP_CNT_ADDR.pipe) (s.rd PP_CNT_ADDR.index)) 16
    false 0)) ∧
  (∀ (s : State) (pipe : Nat), stopped s = false → pipe < 2 → s.rd PP_PROG_STAT.copying pipe = 1 → s.rd
    PP_PROG_STAT.draining (1 - pipe) = 0 → s.rd PP_PROG_STAT.copying (1 - pipe) = 0 → s.rd PP_PROG_STAT.draining pipe
    = 0 → ∃ t, exec (.bankCopyDone pipe) s = .next t ∧ t.rd PP_PROG_STAT.copying pipe = 0 ∧ t.pp.oldProg = [] ∧
    t.pp.passes = s.pp.passes ∧ t.pp.inputs = s.pp.inputs ∧ t.mem = s.mem ∧ t.hostMem = s.hostMem ∧ t.links = s.links) ∧
  (∀ (s : State) (pipe : Nat), stopped s = false → pipe < 2 → s.rd PP_PROG_STAT.copying pipe = 1 → ppSafePoint (s.wr
    PP_PROG_STAT.copying 0 pipe) = true → exec (.bankCopyDone pipe) s = .next (ppPower
    { s.wr PP_PROG_STAT.copying 0 pipe with pp := { s.pp with oldProg := [] } })) ∧
  (∀ (s : State) (pipe : Nat), stopped s = false → pipe < 2 → s.rd PP_PROG_STAT.copying pipe = 1 → ppSafePoint (s.wr
    PP_PROG_STAT.copying 0 pipe) = false → exec (.bankCopyDone pipe) s = .next (s.wr PP_PROG_STAT.copying 0 pipe)) ∧
  (∀ (s : State) (pipe : Nat), stopped s = false → s.rd PP_PROG_STAT.copying pipe = 0 → exec (.bankCopyDone pipe) s =
    .next (s))

/-- A packet that awaits encryption under a usable outbound ESP slot with a count and a number left, behind an IP header,
  takes both: used and seq of the slot go up by one. A packet that awaits decryption and passes the checks before the
  cipher takes a count; where the checks after it pass too, seq becomes the greater of itself and the packet's number,
  and where one fails seq stays. A packet that finds its slot empty is dropped and counted as key_invalid, and takes
  nothing. -/
def Obligations.InlineEspAtTheCipherPoint : Prop :=
  (∀ (s : State) (pipe k layer o : Nat) (p : Pass) (ip : IpAt × Nat), stopped s = false → enabled s .cip = true →
    urgentWaits s = false → cipherTurn s pipe = some p → p.esp = some (.encrypt k layer) → slotMode (slotImage s k) ≠
    0 → slotEsp (slotImage s k) = true → slotOutbound (slotImage s k) = true → slotUsable s k = true → (deparse s pipe
    p).at layer = some o → ipBefore s p.pkt.info.bank pipe (p.pkt.info.layers.map fun l => l.2) (deparse s pipe
    p).offs layer = some ip → coreUnit s 0 = none → domainState s 72 = .on → slotUsed (slotImage s k) < slotLimit
    (slotImage s k) → seqSpent (slotImage s k) = false → mirrors s = false → ∃ t, exec (.espEncrypt pipe) s = .next t
    ∧ slotUsed (slotImage t k) = slotUsed (slotImage s k) + 1 ∧ slotSeq (slotImage t k) = slotSeq (slotImage s k) + 1
    ∧ slotLimit (slotImage t k) = slotLimit (slotImage s k) ∧ slotKey (slotImage t k) = slotKey (slotImage s k) ∧
    t.hostMem = s.hostMem) ∧
  (∀ (s : State) (pipe k st o seq : Nat) (p : Pass), stopped s = false → enabled s .cip = true → urgentWaits s = false
    → cipherTurn s pipe = some p → p.esp = some (.decrypt k st) → p.ipStop = some o → espBefore s k p.pkt.frame o =
    .inr seq → coreUnit s 0 = none → domainState s 72 = .on → slotUsed (slotImage s k) < slotLimit (slotImage s k) →
    mirrors s = false → ∃ t, exec (.espDecrypt pipe) s = .next t ∧ slotUsed (slotImage t k) = slotUsed (slotImage s k)
    + 1 ∧ (∀ n, espAfter (slotImage s k) p.pkt.frame o seq = .inl n → slotSeq (slotImage t k) = slotSeq (slotImage s
    k)) ∧ (∀ x, espAfter (slotImage s k) p.pkt.frame o seq = .inr x → slotSeq (slotImage t k) = max seq (slotSeq
    (slotImage s k)))) ∧
  (∀ (s : State) (pipe k st : Nat) (p : Pass), stopped s = false → enabled s .cip = true → urgentWaits s = false →
    cipherTurn s pipe = some p → pipe < 2 → p.esp = some (.decrypt k st) → p.ipStop.isSome = true → slotMode
    (slotImage s k) = 0 → ∃ t, exec (.espDecrypt pipe) s = .next t ∧ t.rd CIP_ESP_CNT.count pipe espKeyInvalid = (s.rd
    CIP_ESP_CNT.count pipe espKeyInvalid + 1) % 2 ^ CIP_ESP_CNT.count.width ∧ t.cip.slots = s.cip.slots ∧ (Map.get
    t.pp.passes pipe).length = (Map.get s.pp.passes pipe).length ∧ (Map.get t.pp.passes pipe).any (fun x => x.lost &&
    decide (x.stage = 12)) = true ∧ t.mem = s.mem ∧ t.hostMem = s.hostMem ∧ t.links = s.links) ∧
  (∀ (s : State) (pipe : Nat), stopped s = false → cipherTurn s pipe = none → exec (.espEncrypt pipe) s = .next (s)) ∧
  (∀ (s : State) (pipe : Nat), stopped s = false → cipherTurn s pipe = none → exec (.espDecrypt pipe) s = .next (s)) ∧
  (∀ (s : State) (pipe k l : Nat) (p : Pass), stopped s = false → cipherTurn s pipe = some p → p.esp = some (.encrypt
    k l) → enabled s .cip = false → exec (.espEncrypt pipe) s = .next (failCipher s pipe espBusy p)) ∧
  (∀ (s : State) (pipe k l : Nat) (p : Pass), stopped s = false → cipherTurn s pipe = some p → p.esp = some (.decrypt
    k l) → enabled s .cip = false → exec (.espDecrypt pipe) s = .next (failCipher s pipe espBusy p)) ∧
  (∀ (s : State) (pipe k l : Nat) (p : Pass), stopped s = false → enabled s .cip = true → urgentWaits s = false →
    cipherTurn s pipe = some p → p.esp = some (.encrypt k l) → (slotMode (slotImage s k) = 0 ∨ slotEsp (slotImage s k)
    = false ∨ slotOutbound (slotImage s k) = false ∨ slotUsable s k = false) → exec (.espEncrypt pipe) s = .next
    (failCipher s pipe espKeyInvalid p)) ∧
  (∀ (s : State) (pipe k l n : Nat) (p : Pass), stopped s = false → enabled s .cip = true → urgentWaits s = false →
    cipherTurn s pipe = some p → p.esp = some (.decrypt k l) → p.ipStop.isSome = true → espBefore s k p.pkt.frame
    (p.ipStop.getD 0) = .inl n → exec (.espDecrypt pipe) s = .next (failCipher s pipe n p))

/-- A free port with pauses to tell sends the generated pause frame first. Otherwise the class and group that the rounds
  choose send their head frame: it leaves its queue and is on the wire, as it is on a port without one-step
  timestamps. When the last byte leaves, the port is free, the frame is on the link padded to 60 bytes, and tx_frames
  and tx_bytes count it. A refill is limited to the depth of the shaper. -/
def Obligations.EgressChoiceAndDeparture : Prop :=
  (∀ (s : State) (p : Nat) (g : PauseGroup) (rest : List PauseGroup), stopped s = false → isPort s p = true → enabled
    s .tm = true → tmSending s p = .idle → Map.get s.pp.genPause p = g :: rest → portUp s p = true → g.tick + 8 ≤
    s.tt.ticks → exec (.portChoice p) s = .next (setSending
    { s with pp := { s.pp with genPause := Map.set s.pp.genPause p rest } } p (.pause (pauseFrame s p g)))) ∧
  (∀ (s s1 s2 : State) (p c g : Nat) (f : TmFrame) (rest : List TmFrame), stopped s = false → isPort s p = true →
    enabled s .tm = true → tmSending s p = .idle → readyPause s p = none → gated s p = false → someUnfit s p = false →
    chooseClass s p = some (c, s1) → chooseGroup s1 p c = some (g, s2) → tmQueue s2 (tmKey p g c) = f :: rest →
    macDiscard s2 p f = none → exec (.portChoice p) s = .next (startFrame s2 p g c f ((s.rd TM_PORT.sp p).testBit c))) ∧
  (∀ (s : State) (p : Nat), stopped s = false → (isPort s p = false ∨ enabled s .tm = false ∨ tmSending s p ≠ .idle) →
    exec (.portChoice p) s = .next (s)) ∧
  (∀ (s : State) (p : Nat) (bs : Bytes), stopped s = false → tmSending s p = .pause bs → s.nrg.metering = false → exec
    (.frameTxDone p) s = .next
    ({ (setSending s p .idle).count PP_PORT_CNT.count 1 p 11 with pp := { s.pp with txDone := s.pp.txDone ++ [(p, withFcs bs)] } })) ∧
  (∀ (s s1 s2 : State) (p c g : Nat) (f : TmFrame) (rest : List TmFrame), stopped s = false → isPort s p = true →
    enabled s .tm = true → tmSending s p = .idle → Map.get s.pp.genPause p = [] → gated s p = false → someUnfit s p =
    false → chooseClass s p = some (c, s1) → chooseGroup s1 p c = some (g, s2) → tmQueue s2 (tmKey p g c) = f :: rest
    → macDiscard s2 p f = none → s.rd TT_PORT_LAT.one_step p = 0 → ∃ t, exec (.portChoice p) s = .next t ∧ tmSending t
    p = .frame (tmKey p g c) f ∧ tmQueue t (tmKey p g c) = rest ∧ t.pp.holds = s.pp.holds ∧ t.mem = s.mem ∧ t.hostMem
    = s.hostMem) ∧
  (∀ (s : State) (p k : Nat) (f : TmFrame), stopped s = false → p < 16 → tmSending s p = .frame k f → ∃ t, exec
    (.frameTxDone p) s = .next t ∧ tmSending t p = .idle ∧ t.pp.txDone = s.pp.txDone ++ [(p, withFcs (fitBytes (max 60
    f.pkt.frame.length) f.pkt.frame))] ∧ t.rd PP_PORT_CNT.count p 9 = (s.rd PP_PORT_CNT.count p 9 + 1) % 2 ^ 64 ∧ t.rd
    PP_PORT_CNT.count p 10 = (s.rd PP_PORT_CNT.count p 10 + max 60 f.pkt.frame.length + 4) % 2 ^ 64 ∧ t.tm.queues =
    s.tm.queues ∧ t.mem = s.mem ∧ t.hostMem = s.hostMem ∧ t.links = s.links) ∧
  (∀ (s : State) (p : Nat), stopped s = false → p < 16 → enabled s .tm = true → refillDue s = true → dueBefore s
    (refillTime s) = false → applyAsked s .tm = false → s.rd TM_PORT.shape_en p = 1 → s.rd TM_PORT.depth p < 2 ^ 24 →
    ∃ t, exec (.refillBoundary) s = .next t ∧ shaperLevel t (portShaper p) = min (shaperLevel s (portShaper p) +
    ((s.rd TM_PORT.rate_kbps p * s.rd TM_CFG.refill_ns * 65536 / 8000000 : Nat) : Int)) ((s.rd TM_PORT.depth p * 65536
    : Nat) : Int) ∧ t.tm.lastRefill = now s ∧ t.tm.queues = s.tm.queues ∧ t.pp = s.pp ∧ t.mem = s.mem ∧ t.hostMem =
    s.hostMem ∧ t.links = s.links) ∧
  (∀ (s : State), stopped s = false → enabled s .tm = true → refillDue s = true → dueBefore s (refillTime s) = false →
    exec (.refillBoundary) s = .next (refillAll s)) ∧
  (∀ (s : State), stopped s = false → (enabled s .tm = false ∨ refillDue s = false) → exec (.refillBoundary) s = .next
    (s)) ∧
  (∀ (s x : State) (p k : Nat) (f : TmFrame) (wire : Bytes), stopped s = false → tmSending s p = .frame k f → wire =
    withFcs (fitBytes (max 60 f.pkt.frame.length) f.pkt.frame) → x = countGroup (countGroup (((setSending s p
    .idle).count PP_PORT_CNT.count 1 p 9).count PP_PORT_CNT.count wire.length p 10) (p * 512 + k % 4096 / 8) 0 1) (p *
    512 + k % 4096 / 8) 1 wire.length → exec (.frameTxDone p) s = .next (freeHandle
    { pmc (pmc (sramAccess (ethUnits x p wire.length f.pkt.info.account) f.lines f.pkt.info.account) 0x300 p 1 (some f.pkt.info.account)) 0x301 p wire.length (some f.pkt.info.account) with pp := { s.pp with txDone := s.pp.txDone ++ [(p, wire)] } }
    f.pkt.info.handle))

/-- A write of arm arms the adoption of the named list at its time. At that time a list with a cycle becomes active with
  that origin, adopted shows it and its source is raised; a list without one is refused with apply_reject and the
  active one stays. On a port with gates TM_PORT shows the gates and the entry of now. A class whose pause time has
  run out may send again. A read of a meter brings its rates, bursts, flags and levels into TM_MCMD. A write without
  keep gives it the fields of TM_MCMD and full levels, after it has been brought up to date. A snapshot shows a group
  counter, and clears it in the same step where that is asked; the port's other counters stay. -/
def Obligations.GateListsPausesAndMeters : Prop :=
  (∀ (s : State) (who : Initiator) (p : Nat), stopped s = false → p < 16 → writable who TM_GATE_CTL.arm p s = true →
    now s ≤ s.rd TM_GATE_TT.adopt_tt p → exec (.gateArm who p) s = .next
    ({ s.wr TM_GATE_CTL.arm 1 p with tm := { s.tm with armed := Map.set s.tm.armed p ⟨true, s.rd TM_GATE_CTL.adopt_list p, s.rd TM_GATE_TT.adopt_tt p, 0⟩ } })) ∧
  (∀ (s : State) (p l x : Nat), stopped s = false → p < 16 → l < 2 → Map.get s.tm.armed p = ⟨true, l, x, 0⟩ → x ≤ now
    s → dueBefore s x = false → applicationFirst s .tm x = false → gateCycle s p l ≠ 0 → ∃ t, exec (.gateAdoption p) s
    = .next t ∧ t.rd TM_GATE_CTL.active p = l ∧ t.rd TM_GATE_CTL.adopted p = 1 ∧ t.rd TM_GATE_CTL.arm p = 0 ∧ Map.get
    t.tm.origin p = x ∧ Map.get t.tm.armed p = {} ∧ t.rd IRQ_SRC.asserted 0x0E0 = 1 ∧ t.tm.queues = s.tm.queues ∧
    t.mem = s.mem) ∧
  (∀ (s : State) (p l x : Nat), stopped s = false → p < 16 → Map.get s.tm.armed p = ⟨true, l, x, 0⟩ → x ≤ now s →
    dueBefore s x = false → applicationFirst s .tm x = false → gateCycle s p l = 0 → exec (.gateAdoption p) s = .next
    (((({ s with tm := { s.tm with armed := Map.set s.tm.armed p {} } } : State).wr TM_GATE_CTL.arm 0 p).wr
    (applyRejectField .tm) 1))) ∧
  (∀ (s : State) (p l x : Nat), stopped s = false → p < 16 → Map.get s.tm.armed p = ⟨true, l, x, 0⟩ → x ≤ now s →
    dueBefore s x = false → applicationFirst s .tm x = false → gateCycle s p l ≠ 0 → exec (.gateAdoption p) s = .next
    ((let a := ((gateDisarm s p).wr TM_GATE_CTL.active l p).wr TM_GATE_CTL.adopted 1 p; raise (syncGate { a with tm := { a.tm with origin := Map.set a.tm.origin p x } } p) 0x0E0))) ∧
  (∀ (s : State) (p : Nat), stopped s = false → ((Map.get s.tm.armed p).on = false ∨ now s < (Map.get s.tm.armed
    p).tt) → exec (.gateAdoption p) s = .next (s)) ∧
  (∀ (s : State) (who : Initiator) (p : Nat), stopped s = false → p < 16 → writable who TM_GATE_CTL.arm p s = true →
    s.rd TM_GATE_TT.adopt_tt p < now s → exec (.gateArm who p) s = .next
    ({ (s.wr TM_GATE_CTL.arm 1 p).wr TM_GATE_CTL.late 1 p with tm := { s.tm with armed := Map.set s.tm.armed p ⟨true, s.rd TM_GATE_CTL.adopt_list p, s.rd TM_GATE_TT.adopt_tt p, s.tt.ticks + 1⟩ } })) ∧
  (∀ (s : State) (p : Nat), stopped s = false → p < 16 → gated s p = false → exec (.gateEntryChange p) s = .next (s.wr
    TM_PORT.open 0xFF p)) ∧
  (∀ (s : State) (p : Nat), stopped s = false → p < 16 → gated s p = true → exec (.gateEntryChange p) s = .next ((s.wr
    TM_PORT.open (gateNow s p).1 p).wr TM_PORT.entry (gateNow s p).2 p)) ∧
  (∀ (s : State) (p c : Nat), stopped s = false → p < 16 → c < 8 → (s.rd TM_PORT.paused p).testBit c = true → Map.get
    s.tm.pauseEnd (p * 8 + c) ≤ clockPs s → ∃ t, exec (.pauseExpiry p) s = .next t ∧ (t.rd TM_PORT.paused p).testBit c
    = false ∧ Map.get t.tm.pauseEnd (p * 8 + c) = 0 ∧ t.tm.queues = s.tm.queues ∧ t.pp = s.pp ∧ t.mem = s.mem ∧
    t.hostMem = s.hostMem ∧ t.links = s.links) ∧
  (∀ (s : State) (p : Nat), stopped s = false → p < 16 → exec (.pauseExpiry p) s = .next ((List.range 8).foldl (fun t
    c => if (t.rd TM_PORT.paused p).testBit c && decide (Map.get t.tm.pauseEnd (p * 8 + c) ≤ clockPs t) then
    pauseClass t p c 0 else t) s)) ∧
  (∀ (s : State) (who : Initiator), stopped s = false → writable who TM_MCMD.go 0 s = true → Map.get s.tm.meters (s.rd
    TM_MCMD.index) = ⟨7, 8, 9, 10, true, false, 3, 1234, 99999, 5⟩ → ∃ t, exec (.meterRead who) s = .next t ∧ t.rd
    TM_MCMD.cir_kbps = 7 ∧ t.rd TM_MCMD.pir_kbps = 8 ∧ t.rd TM_MCMD.cbs = 9 ∧ t.rd TM_MCMD.pbs = 10 ∧ t.rd
    TM_MCMD.valid = 1 ∧ t.rd TM_MCMD.aware = 0 ∧ t.rd TM_MCMD.overhead = 3 ∧ t.rd TM_MCMD.tc_level = 1234 ∧ t.rd
    TM_MCMD.tp_level = 99999 ∧ t.tm = s.tm ∧ t.mem = s.mem ∧ t.hostMem = s.hostMem ∧ t.links = s.links) ∧
  (∀ (s : State) (who : Initiator) (x : Meter), stopped s = false → writable who TM_MCMD.go 0 s = true → Map.get
    s.tm.meters (s.rd TM_MCMD.index) = x → exec (.meterRead who) s = .next (((((((((((g6Access s (meterAddr s (s.rd
    TM_MCMD.index)) false 0).wr TM_MCMD.write 0).wr TM_MCMD.cir_kbps x.cir).wr TM_MCMD.pir_kbps x.pir).wr TM_MCMD.cbs
    x.cbs).wr TM_MCMD.pbs x.pbs).wr TM_MCMD.valid (flag x.valid)).wr TM_MCMD.aware (flag x.aware)).wr TM_MCMD.overhead
    x.overhead).wr TM_MCMD.tc_level x.tc).wr TM_MCMD.tp_level x.tp)) ∧
  (∀ (s : State) (who : Initiator) (x : Meter), stopped s = false → writable who TM_MCMD.go 0 s = true → s.rd
    TM_MCMD.keep = 1 → x = (Map.get s.tm.meters (s.rd TM_MCMD.index)).update (now s) → -32 ≤ signed 7 (s.rd
    TM_MCMD.overhead) → exec (.meterWrite who) s = .next (g6Access (g6Access
    { s.wr TM_MCMD.write 1 with tm := { s.tm with meters := Map.set s.tm.meters (s.rd TM_MCMD.index) ⟨s.rd TM_MCMD.cir_kbps, s.rd TM_MCMD.pir_kbps, s.rd TM_MCMD.cbs, s.rd TM_MCMD.pbs, s.on TM_MCMD.valid, s.on TM_MCMD.aware, s.rd TM_MCMD.overhead, min x.tc (s.rd TM_MCMD.cbs * 65536), min x.tp (s.rd TM_MCMD.pbs * 65536), now s⟩ } }
    (meterAddr s (s.rd TM_MCMD.index)) false 0) (meterAddr s (s.rd TM_MCMD.index)) true 0)) ∧
  (∀ (s : State) (who : Initiator), stopped s = false → writable who TM_MCMD.go 0 s = true → s.rd TM_MCMD.keep = 0 →
    signed 7 (s.rd TM_MCMD.overhead) ≥ -32 → ∃ t, exec (.meterWrite who) s = .next t ∧ Map.get t.tm.meters (s.rd
    TM_MCMD.index) =
    ⟨s.rd TM_MCMD.cir_kbps, s.rd TM_MCMD.pir_kbps, s.rd TM_MCMD.cbs, s.rd TM_MCMD.pbs, s.on TM_MCMD.valid, s.on TM_MCMD.aware, s.rd TM_MCMD.overhead, s.rd TM_MCMD.cbs * 65536, s.rd TM_MCMD.pbs * 65536, now s⟩
    ∧ t.tm.queues = s.tm.queues ∧ t.rd TM_MCMD.cir_kbps = s.rd TM_MCMD.cir_kbps ∧ t.mem = s.mem ∧ t.hostMem =
    s.hostMem ∧ t.links = s.links) ∧
  (∀ (s : State) (who : Initiator), stopped s = false → writable who TM_CNT_ADDR.go 0 s = true → s.rd TM_CNT_ADDR.n ≤
    4 → s.rd TM_CNT_ADDR.clear = 1 → exec (.tmCounterSnapshot who) s = .next
    ({ s.wr TM_CNT_DATA.count (Map.get s.tm.counters (s.rd TM_CNT_ADDR.group * 8 + s.rd TM_CNT_ADDR.n)) with tm := { s.tm with counters := Map.set s.tm.counters (s.rd TM_CNT_ADDR.group * 8 + s.rd TM_CNT_ADDR.n) 0 } })) ∧
  (∀ (s : State) (who : Initiator), stopped s = false → writable who TM_CNT_ADDR.go 0 s = true → s.rd TM_CNT_ADDR.n ≤
    4 → s.rd TM_CNT_ADDR.clear = 0 → exec (.tmCounterSnapshot who) s = .next (s.wr TM_CNT_DATA.count (Map.get
    s.tm.counters (s.rd TM_CNT_ADDR.group * 8 + s.rd TM_CNT_ADDR.n))))

/-- On a valid, ready LPM table whose copy no audit walks: INSERT adds an absent prefix with its action and result index;
  a present one ends EXISTS and nothing changes. UPDATE and UPSERT replace a present prefix, and UPSERT adds an absent
  one. DELETE removes a present prefix. LOOKUP brings the action and the result index into the port. WRITE_RESULT
  writes the result record. Each ends with result OK and busy 0. A go to a busy port is refused with locked_write. -/
def Obligations.FlowTableCommandPortsOnPrefixes : Prop :=
  (∀ (s : State) (who : Initiator) (p b : Nat), stopped s = false → p < 8 → b < 64 → writable who FT_CMD.go p s = true
    → s.rd FT_CMD.busy p = 0 → s.rd FT_CMD.table p = b → tableLive s b = true → s.ft.walk = none → s.ft.waiting = [] →
    s.rd FT_TABLE.kind b = 2 → (bitsAt (s.rd FT_CMD.arg p) 0 8) ≤ addrBits s b → findPrefix s b (prefixAddr (addrBits
    s b) (bitsAt (s.rd FT_CMD.arg p) 0 8) (lpmAddr s b (s.rd FT_CMD.key p))) (bitsAt (s.rd FT_CMD.arg p) 0 8) = none →
    lpmUnits s + 4 ≤ 1048576 → ∃ t, exec (.ftInsert who p) s = .next t ∧ t.rd FT_CMD.result0 p = ftOk ∧ t.rd
    FT_CMD.busy p = 0 ∧ t.ft.lpm = s.ft.lpm ++
    [⟨b, (prefixAddr (addrBits s b) (bitsAt (s.rd FT_CMD.arg p) 0 8) (lpmAddr s b (s.rd FT_CMD.key p))), (bitsAt (s.rd FT_CMD.arg p) 0 8), s.rd FT_CMD.action p, s.rd FT_CMD.data p % 65536⟩]
    ∧ t.mem = s.mem ∧ t.hostMem = s.hostMem ∧ t.links = s.links) ∧
  (∀ (s : State) (who : Initiator) (p b : Nat) (x : LpmPrefix), stopped s = false → p < 8 → b < 64 → writable who
    FT_CMD.go p s = true → s.rd FT_CMD.busy p = 0 → s.rd FT_CMD.table p = b → tableLive s b = true → s.ft.walk = none
    → s.ft.waiting = [] → s.rd FT_TABLE.kind b = 2 → (bitsAt (s.rd FT_CMD.arg p) 0 8) ≤ addrBits s b → findPrefix s b
    (prefixAddr (addrBits s b) (bitsAt (s.rd FT_CMD.arg p) 0 8) (lpmAddr s b (s.rd FT_CMD.key p))) (bitsAt (s.rd
    FT_CMD.arg p) 0 8) = some x → ∃ t, exec (.ftInsert who p) s = .next t ∧ t.rd FT_CMD.result0 p = ftExists ∧
    t.ft.lpm = s.ft.lpm ∧ t.mem = s.mem ∧ t.hostMem = s.hostMem ∧ t.links = s.links) ∧
  (∀ (s : State) (who : Initiator) (p b : Nat) (x : LpmPrefix), stopped s = false → p < 8 → b < 64 → writable who
    FT_CMD.go p s = true → s.rd FT_CMD.busy p = 0 → s.rd FT_CMD.table p = b → tableLive s b = true → s.ft.walk = none
    → s.ft.waiting = [] → s.rd FT_TABLE.kind b = 2 → (bitsAt (s.rd FT_CMD.arg p) 0 8) ≤ addrBits s b → findPrefix s b
    (prefixAddr (addrBits s b) (bitsAt (s.rd FT_CMD.arg p) 0 8) (lpmAddr s b (s.rd FT_CMD.key p))) (bitsAt (s.rd
    FT_CMD.arg p) 0 8) = some x → ∃ t, exec (.ftUpdate who p) s = .next t ∧ t.rd FT_CMD.result0 p = ftOk ∧ t.rd
    FT_CMD.busy p = 0 ∧ t.ft.lpm = (s.ft.lpm.filter fun y => decide (y ≠ x)) ++
    [⟨b, (prefixAddr (addrBits s b) (bitsAt (s.rd FT_CMD.arg p) 0 8) (lpmAddr s b (s.rd FT_CMD.key p))), (bitsAt (s.rd FT_CMD.arg p) 0 8), s.rd FT_CMD.action p, s.rd FT_CMD.data p % 65536⟩]
    ∧ t.mem = s.mem ∧ t.hostMem = s.hostMem ∧ t.links = s.links) ∧
  (∀ (s : State) (who : Initiator) (p b : Nat), stopped s = false → p < 8 → b < 64 → writable who FT_CMD.go p s = true
    → s.rd FT_CMD.busy p = 0 → s.rd FT_CMD.table p = b → tableLive s b = true → s.ft.walk = none → s.ft.waiting = [] →
    s.rd FT_TABLE.kind b = 2 → (bitsAt (s.rd FT_CMD.arg p) 0 8) ≤ addrBits s b → findPrefix s b (prefixAddr (addrBits
    s b) (bitsAt (s.rd FT_CMD.arg p) 0 8) (lpmAddr s b (s.rd FT_CMD.key p))) (bitsAt (s.rd FT_CMD.arg p) 0 8) = none →
    lpmUnits s + 4 ≤ 1048576 → ∃ t, exec (.ftUpsert who p) s = .next t ∧ t.rd FT_CMD.result0 p = ftOk ∧ t.rd
    FT_CMD.busy p = 0 ∧ t.ft.lpm = s.ft.lpm ++
    [⟨b, (prefixAddr (addrBits s b) (bitsAt (s.rd FT_CMD.arg p) 0 8) (lpmAddr s b (s.rd FT_CMD.key p))), (bitsAt (s.rd FT_CMD.arg p) 0 8), s.rd FT_CMD.action p, s.rd FT_CMD.data p % 65536⟩]
    ∧ t.mem = s.mem ∧ t.hostMem = s.hostMem ∧ t.links = s.links) ∧
  (∀ (s : State) (who : Initiator) (p b : Nat) (x : LpmPrefix), stopped s = false → p < 8 → b < 64 → writable who
    FT_CMD.go p s = true → s.rd FT_CMD.busy p = 0 → s.rd FT_CMD.table p = b → tableLive s b = true → s.ft.walk = none
    → s.ft.waiting = [] → s.rd FT_TABLE.kind b = 2 → (bitsAt (s.rd FT_CMD.arg p) 0 8) ≤ addrBits s b → findPrefix s b
    (prefixAddr (addrBits s b) (bitsAt (s.rd FT_CMD.arg p) 0 8) (lpmAddr s b (s.rd FT_CMD.key p))) (bitsAt (s.rd
    FT_CMD.arg p) 0 8) = some x → ∃ t, exec (.ftUpsert who p) s = .next t ∧ t.rd FT_CMD.result0 p = ftOk ∧ t.rd
    FT_CMD.busy p = 0 ∧ t.ft.lpm = (s.ft.lpm.filter fun y => decide (y ≠ x)) ++
    [⟨b, (prefixAddr (addrBits s b) (bitsAt (s.rd FT_CMD.arg p) 0 8) (lpmAddr s b (s.rd FT_CMD.key p))), (bitsAt (s.rd FT_CMD.arg p) 0 8), s.rd FT_CMD.action p, s.rd FT_CMD.data p % 65536⟩]
    ∧ t.mem = s.mem ∧ t.hostMem = s.hostMem ∧ t.links = s.links) ∧
  (∀ (s : State) (who : Initiator) (p b : Nat) (x : LpmPrefix), stopped s = false → p < 8 → b < 64 → writable who
    FT_CMD.go p s = true → s.rd FT_CMD.busy p = 0 → s.rd FT_CMD.table p = b → tableLive s b = true → s.ft.walk = none
    → s.ft.waiting = [] → s.rd FT_TABLE.kind b = 2 → (bitsAt (s.rd FT_CMD.arg p) 0 8) ≤ addrBits s b → findPrefix s b
    (prefixAddr (addrBits s b) (bitsAt (s.rd FT_CMD.arg p) 0 8) (lpmAddr s b (s.rd FT_CMD.key p))) (bitsAt (s.rd
    FT_CMD.arg p) 0 8) = some x → ∃ t, exec (.ftDelete who p) s = .next t ∧ t.rd FT_CMD.result0 p = ftOk ∧ t.rd
    FT_CMD.busy p = 0 ∧ t.ft.lpm = (s.ft.lpm.filter fun y => decide (y ≠ x)) ∧ t.mem = s.mem ∧ t.hostMem = s.hostMem ∧
    t.links = s.links) ∧
  (∀ (s : State) (who : Initiator) (p b : Nat) (x : LpmPrefix), stopped s = false → p < 8 → b < 64 → writable who
    FT_CMD.go p s = true → s.rd FT_CMD.busy p = 0 → s.rd FT_CMD.table p = b → tableLive s b = true → s.ft.walk = none
    → s.ft.waiting = [] → s.rd FT_TABLE.kind b = 2 → (bitsAt (s.rd FT_CMD.arg p) 0 8) ≤ addrBits s b → findPrefix s b
    (prefixAddr (addrBits s b) (bitsAt (s.rd FT_CMD.arg p) 0 8) (lpmAddr s b (s.rd FT_CMD.key p))) (bitsAt (s.rd
    FT_CMD.arg p) 0 8) = some x → ∃ t, exec (.ftLookup who p) s = .next t ∧ t.rd FT_CMD.result0 p = ftOk ∧ t.rd
    FT_CMD.busy p = 0 ∧ t.rd FT_CMD.action p = x.action % 256 ∧ t.rd FT_CMD.data p = x.result % 2 ^ 256 ∧ t.ft = s.ft
    ∧ t.mem = s.mem ∧ t.hostMem = s.hostMem ∧ t.links = s.links) ∧
  (∀ (s : State) (who : Initiator) (p b : Nat), stopped s = false → p < 8 → b < 64 → writable who FT_CMD.go p s = true
    → s.rd FT_CMD.busy p = 0 → s.rd FT_CMD.table p = b → tableLive s b = true → s.ft.walk = none → s.ft.waiting = [] →
    s.rd FT_TABLE.kind b = 2 → ∃ t, exec (.ftWriteResult who p) s = .next t ∧ t.rd FT_CMD.result0 p = ftOk ∧ t.rd
    FT_CMD.busy p = 0 ∧ Map.get t.ft.results (s.rd FT_CMD.arg p % 65536) = s.rd FT_CMD.data p ∧ t.ft.lpm = s.ft.lpm ∧
    t.mem = s.mem ∧ t.hostMem = s.hostMem ∧ t.links = s.links) ∧
  (∀ (s a : State) (who : Initiator) (p b : Nat) (cs : List Nat), stopped s = false → p < 8 → writable who FT_CMD.go p
    s = true → s.rd FT_CMD.busy p = 0 → s.rd FT_CMD.table p = b → a = s.wr FT_CMD.op 1 p → cs = addressed a b (s.rd
    FT_CMD.copies p) → cs ≠ [] → exec (.ftInsert who p) s = .next (cs.foldl (fun u c => submitOp u
    ⟨p, c, 1, b, s.rd FT_CMD.key p, s.rd FT_CMD.mask p, s.rd FT_CMD.data p, s.rd FT_CMD.action p, s.rd FT_CMD.arg p, s.on FT_CMD.no_evict p, s.on FT_CMD.t_valid p, decide (some c = cs.head?)⟩)
    a)) ∧
  (∀ (s a : State) (who : Initiator) (p b : Nat) (cs : List Nat), stopped s = false → p < 8 → writable who FT_CMD.go p
    s = true → s.rd FT_CMD.busy p = 0 → s.rd FT_CMD.table p = b → a = s.wr FT_CMD.op 2 p → cs = addressed a b (s.rd
    FT_CMD.copies p) → cs ≠ [] → exec (.ftUpdate who p) s = .next (cs.foldl (fun u c => submitOp u
    ⟨p, c, 2, b, s.rd FT_CMD.key p, s.rd FT_CMD.mask p, s.rd FT_CMD.data p, s.rd FT_CMD.action p, s.rd FT_CMD.arg p, s.on FT_CMD.no_evict p, s.on FT_CMD.t_valid p, decide (some c = cs.head?)⟩)
    a)) ∧
  (∀ (s a : State) (who : Initiator) (p b : Nat) (cs : List Nat), stopped s = false → p < 8 → writable who FT_CMD.go p
    s = true → s.rd FT_CMD.busy p = 0 → s.rd FT_CMD.table p = b → a = s.wr FT_CMD.op 3 p → cs = addressed a b (s.rd
    FT_CMD.copies p) → cs ≠ [] → exec (.ftUpsert who p) s = .next (cs.foldl (fun u c => submitOp u
    ⟨p, c, 3, b, s.rd FT_CMD.key p, s.rd FT_CMD.mask p, s.rd FT_CMD.data p, s.rd FT_CMD.action p, s.rd FT_CMD.arg p, s.on FT_CMD.no_evict p, s.on FT_CMD.t_valid p, decide (some c = cs.head?)⟩)
    a)) ∧
  (∀ (s a : State) (who : Initiator) (p b : Nat) (cs : List Nat), stopped s = false → p < 8 → writable who FT_CMD.go p
    s = true → s.rd FT_CMD.busy p = 0 → s.rd FT_CMD.table p = b → a = s.wr FT_CMD.op 4 p → cs = addressed a b (s.rd
    FT_CMD.copies p) → cs ≠ [] → exec (.ftDelete who p) s = .next (cs.foldl (fun u c => submitOp u
    ⟨p, c, 4, b, s.rd FT_CMD.key p, s.rd FT_CMD.mask p, s.rd FT_CMD.data p, s.rd FT_CMD.action p, s.rd FT_CMD.arg p, s.on FT_CMD.no_evict p, s.on FT_CMD.t_valid p, decide (some c = cs.head?)⟩)
    a)) ∧
  (∀ (s a : State) (who : Initiator) (p b : Nat) (cs : List Nat), stopped s = false → p < 8 → writable who FT_CMD.go p
    s = true → s.rd FT_CMD.busy p = 0 → s.rd FT_CMD.table p = b → a = s.wr FT_CMD.op 5 p → cs = addressed a b (s.rd
    FT_CMD.copies p) → cs ≠ [] → exec (.ftLookup who p) s = .next (cs.foldl (fun u c => submitOp u
    ⟨p, c, 5, b, s.rd FT_CMD.key p, s.rd FT_CMD.mask p, s.rd FT_CMD.data p, s.rd FT_CMD.action p, s.rd FT_CMD.arg p, s.on FT_CMD.no_evict p, s.on FT_CMD.t_valid p, decide (some c = cs.head?)⟩)
    a)) ∧
  (∀ (s a : State) (who : Initiator) (p b : Nat) (cs : List Nat), stopped s = false → p < 8 → writable who FT_CMD.go p
    s = true → s.rd FT_CMD.busy p = 0 → s.rd FT_CMD.table p = b → a = s.wr FT_CMD.op 7 p → cs = addressed a b (s.rd
    FT_CMD.copies p) → cs ≠ [] → exec (.ftWriteResult who p) s = .next (cs.foldl (fun u c => submitOp u
    ⟨p, c, 7, b, s.rd FT_CMD.key p, s.rd FT_CMD.mask p, s.rd FT_CMD.data p, s.rd FT_CMD.action p, s.rd FT_CMD.arg p, s.on FT_CMD.no_evict p, s.on FT_CMD.t_valid p, decide (some c = cs.head?)⟩)
    a)) ∧
  (∀ (s : State) (who : Initiator) (p : Nat), stopped s = false → p < 8 → writable who FT_CMD.go p s = true → s.rd
    FT_CMD.busy p = 1 → exec (.ftInsert who p) s = .next (s.wr (lockedWriteField .ft) 1))

/-- INSERT of an absent key of one word to an exact-match table with a free slot in its first bucket stores a command
  entry there that reads back whole: valid, not learned, with the action, the key, the data and the present time in
  both stamps. READ_SLOT brings the entry of a slot into the port. TERN_WRITE stores value, mask, action, data and
  validity, and TERN_READ brings them back. -/
def Obligations.FlowTableExactMatchAndTernary : Prop :=
  (∀ (s : State) (who : Initiator) (p b e : Nat), stopped s = false → p < 8 → b < 64 → writable who FT_CMD.go p s =
    true → s.rd FT_CMD.busy p = 0 → s.rd FT_CMD.table p = b → tableLive s b = true → s.ft.walk = none → s.ft.waiting =
    [] → s.rd FT_TABLE.kind b = 1 → s.rd FT_TABLE.per_pipe b = 0 → s.rd FT_TABLE.key_words b = 1 → bucketBad s b 0
    (bucketPair s b (s.rd FT_CMD.key p % 2 ^ 32)).1 = false → bucketBad s b 0 (bucketPair s b (s.rd FT_CMD.key p % 2 ^
    32)).2 = false → findKey s b 0 (s.rd FT_CMD.key p % 2 ^ 32) = none → freeSlot s b 0 (bucketPair s b (s.rd
    FT_CMD.key p % 2 ^ 32)).1 = some e → s.rd FT_CMD.action p < 256 → s.rd FT_CMD.data p < 2 ^ 256 → ∃ t, exec
    (.ftInsert who p) s = .next t ∧ t.rd FT_CMD.result0 p = ftOk ∧ t.rd FT_CMD.busy p = 0 ∧ loadEntry t b 0
    (bucketPair s b (s.rd FT_CMD.key p % 2 ^ 32)).1 e = newEntry s false (s.rd FT_CMD.action p) (s.rd FT_CMD.key p % 2
    ^ 32) (s.rd FT_CMD.data p) ∧ t.ft = s.ft ∧ t.hostMem = s.hostMem) ∧
  (∀ (s : State) (who : Initiator) (p b : Nat), stopped s = false → p < 8 → b < 64 → writable who FT_CMD.go p s = true
    → s.rd FT_CMD.busy p = 0 → s.rd FT_CMD.table p = b → tableLive s b = true → s.ft.walk = none → s.ft.waiting = [] →
    s.rd FT_TABLE.kind b = 1 → s.rd FT_TABLE.per_pipe b = 0 → s.rd FT_TABLE.key_words b = 1 → s.rd FT_CMD.arg p = 0 →
    (loadEntry s b 0 0 0).valid = true → s.rd FT_TABLE.log2_buckets b ≤ 23 → ∃ t, exec (.ftReadSlot who p) s = .next t
    ∧ t.rd FT_CMD.result0 p = ftOk ∧ t.rd FT_CMD.busy p = 0 ∧ t.rd FT_CMD.action p = (loadEntry s b 0 0 0).action ∧
    t.rd FT_CMD.key p = (loadEntry s b 0 0 0).key ∧ t.rd FT_CMD.data p = (loadEntry s b 0 0 0).data ∧ t.rd
    FT_CMD.learned p = flag (loadEntry s b 0 0 0).learned ∧ t.ft = s.ft ∧ t.mem = s.mem ∧ t.hostMem = s.hostMem ∧
    t.links = s.links) ∧
  (∀ (s : State) (who : Initiator) (p b : Nat), stopped s = false → p < 8 → b < 64 → writable who FT_CMD.go p s = true
    → s.rd FT_CMD.busy p = 0 → s.rd FT_CMD.table p = b → tableLive s b = true → s.ft.walk = none → s.ft.waiting = [] →
    s.rd FT_TABLE.kind b = 3 → bitsAt (s.rd FT_CMD.arg p) 0 12 < s.rd FT_TABLE.count b → ∃ t, exec (.ftTernWrite who
    p) s = .next t ∧ t.rd FT_CMD.result0 p = ftOk ∧ t.rd FT_CMD.busy p = 0 ∧ Map.get t.ft.tern (ternKey s b (bitsAt
    (s.rd FT_CMD.arg p) 0 12)) =
    ⟨s.on FT_CMD.t_valid p, s.rd FT_CMD.key p, s.rd FT_CMD.mask p, s.rd FT_CMD.action p, s.rd FT_CMD.data p⟩ ∧
    t.ft.lpm = s.ft.lpm ∧ t.mem = s.mem ∧ t.hostMem = s.hostMem ∧ t.links = s.links) ∧
  (∀ (s : State) (who : Initiator) (p b : Nat), stopped s = false → p < 8 → b < 64 → writable who FT_CMD.go p s = true
    → s.rd FT_CMD.busy p = 0 → s.rd FT_CMD.table p = b → tableLive s b = true → s.ft.walk = none → s.ft.waiting = [] →
    s.rd FT_TABLE.kind b = 3 → bitsAt (s.rd FT_CMD.arg p) 0 12 < s.rd FT_TABLE.count b → Map.get s.ft.tern (ternKey s
    b (bitsAt (s.rd FT_CMD.arg p) 0 12)) = ⟨true, 9, 15, 7, 99⟩ → ∃ t, exec (.ftTernRead who p) s = .next t ∧ t.rd
    FT_CMD.result0 p = ftOk ∧ t.rd FT_CMD.busy p = 0 ∧ t.rd FT_CMD.t_valid p = 1 ∧ t.rd FT_CMD.key p = 9 ∧ t.rd
    FT_CMD.mask p = 15 ∧ t.rd FT_CMD.action p = 7 ∧ t.rd FT_CMD.data p = 99 ∧ t.ft = s.ft ∧ t.mem = s.mem ∧ t.hostMem
    = s.hostMem ∧ t.links = s.links) ∧
  (∀ (s a : State) (who : Initiator) (p b : Nat) (cs : List Nat), stopped s = false → p < 8 → writable who FT_CMD.go p
    s = true → s.rd FT_CMD.busy p = 0 → s.rd FT_CMD.table p = b → a = s.wr FT_CMD.op 6 p → cs = addressed a b (s.rd
    FT_CMD.copies p) → cs ≠ [] → exec (.ftReadSlot who p) s = .next (cs.foldl (fun u c => submitOp u
    ⟨p, c, 6, b, s.rd FT_CMD.key p, s.rd FT_CMD.mask p, s.rd FT_CMD.data p, s.rd FT_CMD.action p, s.rd FT_CMD.arg p, s.on FT_CMD.no_evict p, s.on FT_CMD.t_valid p, decide (some c = cs.head?)⟩)
    a)) ∧
  (∀ (s a : State) (who : Initiator) (p b : Nat) (cs : List Nat), stopped s = false → p < 8 → writable who FT_CMD.go p
    s = true → s.rd FT_CMD.busy p = 0 → s.rd FT_CMD.table p = b → a = s.wr FT_CMD.op 8 p → cs = addressed a b (s.rd
    FT_CMD.copies p) → cs ≠ [] → exec (.ftTernWrite who p) s = .next (cs.foldl (fun u c => submitOp u
    ⟨p, c, 8, b, s.rd FT_CMD.key p, s.rd FT_CMD.mask p, s.rd FT_CMD.data p, s.rd FT_CMD.action p, s.rd FT_CMD.arg p, s.on FT_CMD.no_evict p, s.on FT_CMD.t_valid p, decide (some c = cs.head?)⟩)
    a)) ∧
  (∀ (s a : State) (who : Initiator) (p b : Nat) (cs : List Nat), stopped s = false → p < 8 → writable who FT_CMD.go p
    s = true → s.rd FT_CMD.busy p = 0 → s.rd FT_CMD.table p = b → a = s.wr FT_CMD.op 9 p → cs = addressed a b (s.rd
    FT_CMD.copies p) → cs ≠ [] → exec (.ftTernRead who p) s = .next (cs.foldl (fun u c => submitOp u
    ⟨p, c, 9, b, s.rd FT_CMD.key p, s.rd FT_CMD.mask p, s.rd FT_CMD.data p, s.rd FT_CMD.action p, s.rd FT_CMD.arg p, s.on FT_CMD.no_evict p, s.on FT_CMD.t_valid p, decide (some c = cs.head?)⟩)
    a))

/-- A table whose descriptor passes the checks becomes valid and not ready; one that fails sets geo_err; the end of its
  clearing makes it ready and empty; invalidation clears both bits. A learn of a present entry counts as refreshed and
  renews its stamp; a learn of an absent key with a free slot counts as learned. A stamp write renews the stamp of the
  entry that still holds its key. The ager sends a removal for a stale entry, and the removal of one that is stale
  still makes it invalid and counts. -/
def Obligations.FlowTableLifeLearningAndAgeing : Prop :=
  (∀ (s : State) (who : Initiator) (b : Nat), stopped s = false → b < 64 → writable who FT_TABLE.valid b s = true →
    s.rd FT_TABLE.valid b = 0 → descriptorOk s b = true → exec (.tableValidate who b) s = .next ((s.wr FT_TABLE.valid
    1 b).wr FT_TABLE.ready 0 b)) ∧
  (∀ (s : State) (who : Initiator) (b : Nat), stopped s = false → b < 64 → writable who FT_TABLE.valid b s = true →
    s.rd FT_TABLE.valid b = 0 → descriptorOk s b = false → exec (.tableValidate who b) s = .next (s.wr
    FT_TABLE.geo_err 1 b)) ∧
  (∀ (s : State) (b : Nat), stopped s = false → b < 64 → s.rd FT_TABLE.valid b = 1 → s.rd FT_TABLE.ready b = 0 → s.rd
    FT_TABLE.kind b = 2 → ∃ t, exec (.tableClearDone b) s = .next t ∧ t.rd FT_TABLE.ready b = 1 ∧ t.rd
    FT_TABLE.entries b = 0 ∧ t.rd FT_TABLE.faulted b = 0 ∧ t.ft.lpm = (s.ft.lpm.filter fun p => decide (p.table ≠ b))
    ∧ t.ft.tern = s.ft.tern ∧ t.mem = s.mem ∧ t.hostMem = s.hostMem ∧ t.links = s.links) ∧
  (∀ (s : State) (who : Initiator) (b : Nat), stopped s = false → b < 64 → writable who FT_TABLE.valid b s = true →
    s.ft.waiting = [] → exec (.tableInvalidate who b) s = .next ((s.wr FT_TABLE.valid 0 b).wr FT_TABLE.ready 0 b)) ∧
  (∀ (s : State) (pipe b k e a d : Nat) (rest : List LearnReq), stopped s = false → b < 64 → pipe < 2 → Map.get
    s.ft.learns pipe = ⟨b, k, a, d⟩ :: rest → enabled s .ft = true → s.ft.walk = none → tableLive s b = true → s.rd
    FT_TABLE.kind b = 1 → s.rd FT_TABLE.per_pipe b = 0 → s.rd FT_TABLE.key_words b = 1 → bucketBad s b 0 (bucketPair s
    b k).1 = false → bucketBad s b 0 (bucketPair s b k).2 = false → findKey s b 0 k = none → freeSlot s b 0
    (bucketPair s b k).1 = some e → ∃ t, exec (.learnApply pipe) s = .next t ∧ t.rd FT_LEARN_STAT.learned pipe = (s.rd
    FT_LEARN_STAT.learned pipe + 1) % 2 ^ 64 ∧ (loadEntry t b 0 (bucketPair s b k).1 e).valid = true ∧ (loadEntry t b
    0 (bucketPair s b k).1 e).learned = true ∧ Map.get t.ft.learns pipe = rest ∧ t.hostMem = s.hostMem) ∧
  (∀ (s : State) (pipe b k e a d : Nat) (i : Nat) (rest : List LearnReq), stopped s = false → b < 64 → pipe < 2 →
    Map.get s.ft.learns pipe = ⟨b, k, a, d⟩ :: rest → enabled s .ft = true → s.ft.walk = none → tableLive s b = true →
    s.rd FT_TABLE.kind b = 1 → s.rd FT_TABLE.per_pipe b = 0 → s.rd FT_TABLE.key_words b = 1 → bucketBad s b 0
    (bucketPair s b k).1 = false → bucketBad s b 0 (bucketPair s b k).2 = false → findKey s b 0 k = some (i, e) → e <
    4 → ∃ t, exec (.learnApply pipe) s = .next t ∧ t.rd FT_LEARN_STAT.refreshed pipe = (s.rd FT_LEARN_STAT.refreshed
    pipe + 1) % 2 ^ 64 ∧ (loadEntry t b 0 i e).hitStamp = stampNow s ∧ (loadEntry t b 0 i e).insStamp = (loadEntry s b
    0 i e).insStamp ∧ Map.get t.ft.learns pipe = rest ∧ t.hostMem = s.hostMem) ∧
  (∀ (s : State) (b i e k : Nat), stopped s = false → b < 64 → s.ft.stamps = [⟨b, 0, i, e, k⟩] → enabled s .ft = true
    → s.ft.walk = none → stillHolds s ⟨b, 0, i, e, k⟩ = true → s.rd FT_TABLE.key_words b = 1 → e < 4 → ∃ t, exec
    (.stampWrite b 0) s = .next t ∧ (loadEntry t b 0 i e).hitStamp = stampNow s ∧ (loadEntry t b 0 i e).action =
    (loadEntry s b 0 i e).action ∧ (loadEntry t b 0 i e).data = (loadEntry s b 0 i e).data ∧ t.ft.stamps = [] ∧ t.regs
    = s.regs ∧ t.hostMem = s.hostMem) ∧
  (∀ (s : State) (b i e : Nat), stopped s = false → b < 64 → enabled s .ft = true → tableLive s b = true → s.rd
    FT_TABLE.kind b = 1 → s.rd FT_TABLE.age_mode b ≠ 0 → usedSlots s b 0 = [(i, e)] → ageEligible s b (loadEntry s b 0
    i e) = true → exec (.ageScan b 0) s = .next
    ({ s with ft := { s.ft with removals := s.ft.removals ++ [⟨b, 0, i, e, (loadEntry s b 0 i e).key⟩] } })) ∧
  (∀ (s : State) (b i e k : Nat), stopped s = false → b < 64 → s.ft.removals = [⟨b, 0, i, e, k⟩] → enabled s .ft =
    true → s.ft.walk = none → stillHolds s ⟨b, 0, i, e, k⟩ = true → ageEligible s b (loadEntry s b 0 i e) = true →
    s.rd FT_TABLE.notify_en b = 0 → s.rd FT_TABLE.key_words b = 1 → e < 4 → ∃ t, exec (.ageRemoval b 0) s = .next t ∧
    (loadEntry t b 0 i e).valid = false ∧ t.rd FT_TABLE.aged b = (s.rd FT_TABLE.aged b + 1) % 2 ^ 64 ∧ t.ft.removals =
    [] ∧ t.hostMem = s.hostMem) ∧
  (∀ (s : State) (b : Nat), stopped s = false → b < 64 → s.rd FT_TABLE.valid b = 1 → s.rd FT_TABLE.ready b = 0 → exec
    (.tableClearDone b) s = .next ((((clearTable s b).wr FT_TABLE.entries 0 b).wr FT_TABLE.faulted 0 b).wr
    FT_TABLE.ready 1 b)) ∧
  (∀ (s : State) (b : Nat), stopped s = false → (s.rd FT_TABLE.valid b = 0 ∨ s.rd FT_TABLE.ready b = 1) → exec
    (.tableClearDone b) s = .next (s)) ∧
  (∀ (s : State) (who : Initiator) (b : Nat), stopped s = false → b < 64 → writable who FT_TABLE.valid b s = true →
    exec (.tableInvalidate who b) s = .next (releaseWaiting (releaseWaiting ((s.wr FT_TABLE.valid 0 b).wr
    FT_TABLE.ready 0 b) b 0) b 1)) ∧
  (∀ (s : State) (pipe : Nat) (x : LearnReq) (rest : List LearnReq), stopped s = false → Map.get s.ft.learns pipe = x
    :: rest → enabled s .ft = true → s.ft.walk = none → exec (.learnApply pipe) s = .next (applyLearn
    { s with ft := { s.ft with learns := Map.set s.ft.learns pipe rest } } pipe x)) ∧
  (∀ (s : State) (pipe : Nat), stopped s = false → (Map.get s.ft.learns pipe = [] ∨ enabled s .ft = false) → exec
    (.learnApply pipe) s = .next (s)) ∧
  (∀ (s a : State) (b c : Nat) (x : SlotReq), stopped s = false → (s.ft.stamps.find? fun r => decide (r.table = b) &&
    decide (r.copy = c)) = some x → enabled s .ft = true → walked s b c = false → a =
    { s with ft := { s.ft with stamps := s.ft.stamps.erase x } } → exec (.stampWrite b c) s = .next (if stillHolds a x
    then storeEntry a b c x.bucket x.slot { loadEntry a b c x.bucket x.slot with hitStamp := stampNow s } else a)) ∧
  (∀ (s a : State) (b c : Nat) (x : SlotReq), stopped s = false → (s.ft.removals.find? fun r => decide (r.table = b)
    && decide (r.copy = c)) = some x → enabled s .ft = true → walked s b c = false → a =
    { s with ft := { s.ft with removals := s.ft.removals.erase x } } → (stillHolds a x && ageEligible a b (loadEntry a
    b c x.bucket x.slot)) = true → exec (.ageRemoval b c) s = .next (flowNotify ((clearEntry a b c x.bucket
    x.slot).count FT_TABLE.aged 1 b) 2 b c x.bucket x.slot (loadEntry a b c x.bucket x.slot))) ∧
  (∀ (s a : State) (b c : Nat) (x : SlotReq), stopped s = false → (s.ft.removals.find? fun r => decide (r.table = b)
    && decide (r.copy = c)) = some x → enabled s .ft = true → walked s b c = false → a =
    { s with ft := { s.ft with removals := s.ft.removals.erase x } } → (stillHolds a x && ageEligible a b (loadEntry a
    b c x.bucket x.slot)) = false → exec (.ageRemoval b c) s = .next (a))

/-- At the end of the walk of an LPM table whose expected sum and count are those of its entries, the observed signature
  is stored, mismatch is 0, and the walk goes on to the next copy that has a signature. A differing sum sets mismatch,
  in the table's signature and in FT_AUDIT_STAT, and raises its source. A read of FT_LOST returns the head of the log
  and removes it. -/
def Obligations.FlowTableAuditAndLostEntries : Prop :=
  (∀ (s : State) (b : Nat), stopped s = false → b < 64 → s.ft.walk = some (b, 0) → tableLive s b = true → s.rd
    FT_TABLE.kind b = 2 → s.ft.waiting = [] → s.rd FT_SIG.sum b 0 = ((signedEntries s b 0).foldl (fun n x => n +
    signCrc x) 0 % 2 ^ 64) → s.rd FT_SIG.count b 0 = (signedEntries s b 0).length % 2 ^ 32 → ∃ t, exec
    (.tableAuditCopyEnd) s = .next t ∧ t.rd FT_SIG.mismatch b 0 = 0 ∧ t.rd FT_SIG.obs_sum b 0 = ((signedEntries s b
    0).foldl (fun n x => n + signCrc x) 0 % 2 ^ 64) ∧ t.rd FT_SIG.obs_count b 0 = (signedEntries s b 0).length % 2 ^
    32 ∧ t.ft.walk = auditFrom s b 1 ∧ t.ft.lpm = s.ft.lpm ∧ t.mem = s.mem ∧ t.hostMem = s.hostMem ∧ t.links =
    s.links) ∧
  (∀ (s : State) (b : Nat), stopped s = false → b < 64 → s.ft.walk = some (b, 0) → tableLive s b = true → s.rd
    FT_TABLE.kind b = 2 → s.ft.waiting = [] → s.rd FT_SIG.sum b 0 ≠ ((signedEntries s b 0).foldl (fun n x => n +
    signCrc x) 0 % 2 ^ 64) → ∃ t, exec (.tableAuditCopyEnd) s = .next t ∧ t.rd FT_SIG.mismatch b 0 = 1 ∧ t.rd
    FT_AUDIT_STAT.mismatch = 1 ∧ t.rd FT_AUDIT_STAT.table = b ∧ t.rd IRQ_SRC.asserted 0x0C1 = 1 ∧ t.ft.lpm = s.ft.lpm
    ∧ t.mem = s.mem ∧ t.hostMem = s.hostMem) ∧
  (∀ (s : State) (who : Initiator) (x : Nat) (rest : List Nat), stopped s = false → reaches who Blk.ft.base = true →
    s.ft.lost = x :: rest → ∃ t, exec (.ftLostRead who) s = .next t ∧ t.rdata = s.rd FT_LOST.table + s.rd FT_LOST.copy
    <<< 6 + s.rd FT_LOST.bucket <<< 8 + s.rd FT_LOST.entry_valid <<< 32 + s.rd FT_LOST.lost <<< 33 ∧ t.ft.lost = rest
    ∧ t.rd FT_LOST.entry_valid = flag (!rest.isEmpty) ∧ t.rd FT_LOST.lost = s.rd FT_LOST.lost ∧ t.mem = s.mem ∧
    t.hostMem = s.hostMem ∧ t.links = s.links) ∧
  (∀ (s : State) (b : Nat), stopped s = false → b < 64 → s.ft.walk = some (b, 0) → tableLive s b = true → s.rd
    FT_TABLE.kind b = 2 → exec (.tableAuditCopyEnd) s = .next
    ((let u := releaseWaiting { auditResult s b 0 with ft := { (auditResult s b 0).ft with walk := none } } b 0; { u with ft := { u.ft with walk := auditFrom u b 1 } }))) ∧
  (∀ (s : State), stopped s = false → s.ft.walk = none → exec (.tableAuditCopyEnd) s = .next (s)) ∧
  (∀ (s : State) (who : Initiator), stopped s = false → reaches who Blk.ft.base = true → exec (.ftLostRead who) s =
    .next (syncLost
    { s with rdata := s.rd FT_LOST.table + s.rd FT_LOST.copy <<< 6 + s.rd FT_LOST.bucket <<< 8 + s.rd FT_LOST.entry_valid <<< 32 + s.rd FT_LOST.lost <<< 33, ft := { s.ft with lost := s.ft.lost.tail } }))

/-- TRN_WRITE, TRN_WRITE_IMM and TRN_READ on a READY connection of their function begin, and their operation joins the
  connection after those before it; a read takes the lowest free read slot. On a connection that is not READY the
  entry ends CONNECTION_ERROR. REGION_REGISTER writes a VALID record with the entry's base, length and scope under the
  present generation and answers the key. REGION_REVOKE makes it CLOSING with the generation advanced and waits; a
  FAULTED region becomes FREE at once. A CLOSING region that no packet uses becomes FREE, and its revocation ends OK. -/
def Obligations.TransportEntriesAndRegions : Prop :=
  (∀ (s : State) (q sseq x : Nat) (e : Entry), stopped s = false → beginnable s q sseq 0x20 = some e → enabled s .trn
    = true → earlierOp s (e.at 8 0 24) e.order = false → chipCtx s (e.at 8 0 24) = some x → ctxState x = 1 → ctxFn x =
    queueFn s q → ∃ t, exec (.trnWrite q sseq) s = .next t ∧ (trnConn t (e.at 8 0 24)).ops = (trnConn s (e.at 8 0
    24)).ops ++ [opOf s q sseq 0 e] ∧ (entryOf t q sseq).map Entry.begun = some true ∧ t.trn.cache = s.trn.cache ∧
    t.regs = s.regs ∧ t.mem = s.mem ∧ t.hostMem = s.hostMem ∧ t.links = s.links) ∧
  (∀ (s : State) (q sseq x : Nat) (e : Entry), stopped s = false → beginnable s q sseq 0x20 = some e → enabled s .trn
    = true → earlierOp s (e.at 8 0 24) e.order = false → chipCtx s (e.at 8 0 24) = some x → ctxState x = 2 → ctxFn x =
    queueFn s q → ∃ t, exec (.trnWrite q sseq) s = .next t ∧ (entryOf t q sseq).bind Entry.outcome = some
    { status := stConnectionError, bytes := e.moved } ∧ t.trn = s.trn ∧ t.regs = s.regs ∧ t.mem = s.mem ∧ t.hostMem =
    s.hostMem ∧ t.links = s.links) ∧
  (∀ (s : State) (q sseq x : Nat) (e : Entry), stopped s = false → beginnable s q sseq 0x21 = some e → enabled s .trn
    = true → earlierOp s (e.at 8 0 24) e.order = false → chipCtx s (e.at 8 0 24) = some x → ctxState x = 1 → ctxFn x =
    queueFn s q → ∃ t, exec (.trnWriteImm q sseq) s = .next t ∧ (trnConn t (e.at 8 0 24)).ops = (trnConn s (e.at 8 0
    24)).ops ++ [opOf s q sseq 0 e] ∧ (entryOf t q sseq).map Entry.begun = some true ∧ t.trn.cache = s.trn.cache ∧
    t.regs = s.regs ∧ t.mem = s.mem ∧ t.hostMem = s.hostMem ∧ t.links = s.links) ∧
  (∀ (s : State) (q sseq x i : Nat) (e : Entry), stopped s = false → beginnable s q sseq 0x22 = some e → enabled s
    .trn = true → earlierOp s (e.at 8 0 24) e.order = false → chipCtx s (e.at 8 0 24) = some x → ctxState x = 1 →
    ctxFn x = queueFn s q → freeReadSlot x = some i → mirrors s = false → ∃ t, exec (.trnRead q sseq) s = .next t ∧
    (trnConn t (e.at 8 0 24)).ops = (trnConn s (e.at 8 0 24)).ops ++ [opOf s q sseq i e] ∧ (chipCtx t (e.at 8 0
    24)).map (slotValid · i) = some true ∧ (chipCtx t (e.at 8 0 24)).map (slotRemaining · i) = some (e.at 0xC 0 32) ∧
    (entryOf t q sseq).map Entry.begun = some true ∧ t.regs = s.regs ∧ t.mem = s.mem ∧ t.hostMem = s.hostMem ∧ t.links
    = s.links) ∧
  (∀ (s : State) (q sseq i : Nat) (e : Entry), stopped s = false → beginnable s q sseq 0x24 = some e → e.at 8 0 22 = i
    → rgnUsable s i = true → rgnOwned s i (queueFn s q) = true → mirrors s = false → rgnState (rgnImage s i) = 0 →
    e.at 8 22 2 ≠ 0 → e.at 0x18 0 64 ≠ 0 → e.at 0x18 0 64 ≤ 2 ^ 40 → e.at 8 25 7 = 0 → e.at 0xC 24 8 = 0 → e.at 0x20 0
    256 = 0 → now s < 2 ^ 64 → ∃ t, exec (.regionRegister q sseq) s = .next t ∧ (entryOf t q sseq).bind Entry.outcome
    = some { status := stOk, extra := i * 1024 + rgnGen (rgnImage s i) } ∧ rgnState (rgnImage t i) = 1 ∧ rgnGen
    (rgnImage t i) = rgnGen (rgnImage s i) ∧ rgnBase (rgnImage t i) = e.at 0x10 0 64 ∧ rgnLength (rgnImage t i) = e.at
    0x18 0 64 ∧ rgnScope (rgnImage t i) = e.at 0xC 0 24 ∧ t.hostMem = s.hostMem ∧ t.links = s.links) ∧
  (∀ (s : State) (q sseq i : Nat) (e : Entry), stopped s = false → beginnable s q sseq 0x25 = some e → e.word 2 / 1024
    = i → rgnUsable s i = true → rgnOwned s i (queueFn s q) = true → mirrors s = false → rgnState (rgnImage s i) = 1 →
    rgnGen (rgnImage s i) = e.word 2 % 1024 → ∃ t, exec (.regionRevoke q sseq) s = .next t ∧ rgnState (rgnImage t i) =
    2 ∧ rgnGen (rgnImage t i) = (rgnGen (rgnImage s i) + 1) % 1024 ∧ rgnBase (rgnImage t i) = rgnBase (rgnImage s i) ∧
    (entryOf t q sseq).bind Entry.outcome = none ∧ (entryOf t q sseq).map Entry.begun = some true ∧ t.hostMem =
    s.hostMem ∧ t.links = s.links) ∧
  (∀ (s : State) (q sseq i : Nat) (e : Entry), stopped s = false → beginnable s q sseq 0x25 = some e → e.word 2 / 1024
    = i → rgnUsable s i = true → rgnOwned s i (queueFn s q) = true → mirrors s = false → rgnState (rgnImage s i) = 3 →
    ∃ t, exec (.regionRevoke q sseq) s = .next t ∧ (entryOf t q sseq).bind Entry.outcome = some { status := stOk } ∧
    rgnState (rgnImage t i) = 0 ∧ t.hostMem = s.hostMem) ∧
  (∀ (s : State) (i q sseq : Nat) (e : Entry), stopped s = false → rgnUsable s i = true → rgnState (rgnImage s i) = 2
    → rgnFlight (rgnImage s i) = 0 → mirrors s = false → revokeOf s i = some (q, sseq) → entryOf s q sseq = some e →
    e.outcome = none → e.decided = none → ∃ t, exec (.regionDrained i) s = .next t ∧ rgnState (rgnImage t i) = 0 ∧
    (entryOf t q sseq).bind Entry.outcome = some { status := stOk } ∧ t.hostMem = s.hostMem) ∧
  (∀ (s : State) (q sseq x : Nat) (e : Entry), stopped s = false → beginnable s q sseq 0x20 = some e → enabled s .trn
    = true → earlierOp s (e.at 8 0 24) e.order = false → chipCtx s (e.at 8 0 24) = some x → exec (.trnWrite q sseq) s
    = .next (beginOp s q sseq (e.at 8 0 24) x e)) ∧
  (∀ (s : State) (q sseq : Nat) (e : Entry), stopped s = false → beginnable s q sseq 0x20 = some e → enabled s .trn =
    true → earlierOp s (e.at 8 0 24) e.order = false → chipCtx s (e.at 8 0 24) = none → homeOf s (e.at 8 0 24) ≠ .none
    → exec (.trnWrite q sseq) s = .next (fetchCtx s (e.at 8 0 24))) ∧
  (∀ (s : State) (q sseq : Nat) (e : Entry), stopped s = false → beginnable s q sseq 0x20 = some e → enabled s .trn =
    true → earlierOp s (e.at 8 0 24) e.order = false → chipCtx s (e.at 8 0 24) = none → homeOf s (e.at 8 0 24) = .none
    → exec (.trnWrite q sseq) s = .next (finishWith (begin_ s q sseq) q sseq stConnectionError)) ∧
  (∀ (s : State) (q sseq x : Nat) (e : Entry), stopped s = false → beginnable s q sseq 0x21 = some e → enabled s .trn
    = true → earlierOp s (e.at 8 0 24) e.order = false → chipCtx s (e.at 8 0 24) = some x → exec (.trnWriteImm q sseq)
    s = .next (beginOp s q sseq (e.at 8 0 24) x e)) ∧
  (∀ (s : State) (q sseq : Nat) (e : Entry), stopped s = false → beginnable s q sseq 0x21 = some e → enabled s .trn =
    true → earlierOp s (e.at 8 0 24) e.order = false → chipCtx s (e.at 8 0 24) = none → homeOf s (e.at 8 0 24) ≠ .none
    → exec (.trnWriteImm q sseq) s = .next (fetchCtx s (e.at 8 0 24))) ∧
  (∀ (s : State) (q sseq : Nat) (e : Entry), stopped s = false → beginnable s q sseq 0x21 = some e → enabled s .trn =
    true → earlierOp s (e.at 8 0 24) e.order = false → chipCtx s (e.at 8 0 24) = none → homeOf s (e.at 8 0 24) = .none
    → exec (.trnWriteImm q sseq) s = .next (finishWith (begin_ s q sseq) q sseq stConnectionError)) ∧
  (∀ (s : State) (q sseq x : Nat) (e : Entry), stopped s = false → beginnable s q sseq 0x22 = some e → enabled s .trn
    = true → earlierOp s (e.at 8 0 24) e.order = false → chipCtx s (e.at 8 0 24) = some x → exec (.trnRead q sseq) s =
    .next (beginOp s q sseq (e.at 8 0 24) x e)) ∧
  (∀ (s : State) (q sseq : Nat) (e : Entry), stopped s = false → beginnable s q sseq 0x22 = some e → enabled s .trn =
    true → earlierOp s (e.at 8 0 24) e.order = false → chipCtx s (e.at 8 0 24) = none → homeOf s (e.at 8 0 24) ≠ .none
    → exec (.trnRead q sseq) s = .next (fetchCtx s (e.at 8 0 24))) ∧
  (∀ (s : State) (q sseq : Nat) (e : Entry), stopped s = false → beginnable s q sseq 0x22 = some e → enabled s .trn =
    true → earlierOp s (e.at 8 0 24) e.order = false → chipCtx s (e.at 8 0 24) = none → homeOf s (e.at 8 0 24) = .none
    → exec (.trnRead q sseq) s = .next (finishWith (begin_ s q sseq) q sseq stConnectionError)) ∧
  (∀ (s : State) (q sseq i : Nat) (e : Entry), stopped s = false → beginnable s q sseq 0x24 = some e → e.at 8 0 22 = i
    → rgnUsable s i = true → rgnOwned s i (queueFn s q) = true → (rgnState (rgnImage s i) = 0 ∨ rgnState (rgnImage s
    i) = 3) → e.at 8 22 2 ≠ 0 → e.at 0x18 0 64 ≠ 0 → e.at 0x18 0 64 ≤ 2 ^ 40 → e.at 8 25 7 = 0 → e.at 0xC 24 8 = 0 →
    e.at 0x20 0 256 = 0 → exec (.regionRegister q sseq) s = .next (finish (putRgn (begin_ s q sseq) i (queueAccount s
    q) (1 + (e.at 8 22 3) <<< 2 + (rgnGen (rgnImage s i)) <<< 8 + (e.at 0xC 0 24) <<< 32 + (e.at 0x10 0 64) <<< 64 +
    (e.at 0x18 0 64) <<< 128 + (now s) <<< 256)) q sseq
    { status := stOk, extra := i * 1024 + rgnGen (rgnImage s i) })) ∧
  (∀ (s : State) (q sseq i : Nat) (e : Entry), stopped s = false → beginnable s q sseq 0x24 = some e → e.at 8 0 22 = i
    → (rgnUsable s i = false ∨ rgnOwned s i (queueFn s q) = false ∨ rgnState (rgnImage s i) = 1 ∨ rgnState (rgnImage s
    i) = 2 ∨ e.at 8 22 2 = 0 ∨ e.at 0x18 0 64 = 0 ∨ 2 ^ 40 < e.at 0x18 0 64 ∨ e.at 8 25 7 ≠ 0 ∨ e.at 0xC 24 8 ≠ 0 ∨
    e.at 0x20 0 256 ≠ 0) → exec (.regionRegister q sseq) s = .next (finishWith (begin_ s q sseq) q sseq stInvalid)) ∧
  (∀ (s : State) (q sseq i : Nat) (e : Entry), stopped s = false → beginnable s q sseq 0x25 = some e → e.word 2 / 1024
    = i → rgnUsable s i = true → rgnOwned s i (queueFn s q) = true → rgnState (rgnImage s i) = 1 → rgnGen (rgnImage s
    i) = e.word 2 % 1024 → exec (.regionRevoke q sseq) s = .next (putRgn (begin_ s q sseq) i (queueAccount s q)
    (putBits (putBits (rgnImage s i) 0 2 2) 8 10 (rgnGen (rgnImage s i) + 1)))) ∧
  (∀ (s : State) (q sseq i : Nat) (e : Entry), stopped s = false → beginnable s q sseq 0x25 = some e → e.word 2 / 1024
    = i → rgnUsable s i = true → rgnOwned s i (queueFn s q) = true → rgnState (rgnImage s i) = 3 → exec (.regionRevoke
    q sseq) s = .next (finish (putRgn (begin_ s q sseq) i (queueAccount s q) (putBits (rgnImage s i) 0 2 0)) q sseq
    { status := stOk })) ∧
  (∀ (s : State) (q sseq i : Nat) (e : Entry), stopped s = false → beginnable s q sseq 0x25 = some e → e.word 2 / 1024
    = i → (rgnUsable s i = false ∨ rgnOwned s i (queueFn s q) = false ∨ rgnState (rgnImage s i) = 0 ∨ rgnState
    (rgnImage s i) = 2 ∨ rgnState (rgnImage s i) = 1 ∧ rgnGen (rgnImage s i) ≠ e.word 2 % 1024) → exec (.regionRevoke
    q sseq) s = .next (finishWith (begin_ s q sseq) q sseq stInvalid)) ∧
  (∀ (s : State) (i q sseq : Nat), stopped s = false → rgnUsable s i = true → rgnState (rgnImage s i) = 2 → rgnFlight
    (rgnImage s i) = 0 → revokeOf s i = some (q, sseq) → exec (.regionDrained i) s = .next (finish (putRgn s i
    (queueAccount s q) (putBits (rgnImage s i) 0 2 0)) q sseq { status := stOk })) ∧
  (∀ (s : State) (i : Nat), stopped s = false → rgnUsable s i = true → rgnState (rgnImage s i) = 2 → rgnFlight
    (rgnImage s i) = 0 → revokeOf s i = none → exec (.regionDrained i) s = .next (putRgn s i 0 (putBits (rgnImage s i)
    0 2 0))) ∧
  (∀ (s : State) (i : Nat), stopped s = false → (rgnUsable s i = false ∨ rgnState (rgnImage s i) ≠ 2 ∨ rgnFlight
    (rgnImage s i) ≠ 0) → exec (.regionDrained i) s = .next (s))

/-- CREATE of a good image on a FREE connection makes it READY with the image's PSNs and its rate at the cap; RESET frees
  it; READ shows its whole context. Each leaves busy 0 and result 0. A retransmission timeout with retries left marks
  every packet sent for retransmission and counts a retry; without, the connection enters ERROR and raises its source.
  A suspension ends at its time. The acknowledgement timer sends one ACK. A region block takes an owner while its
  regions are idle, and refuses otherwise. A context fetched from GDDR6 comes on chip. -/
def Obligations.ConnectionCommandsAndTimers : Prop :=
  (∀ (s : State) (who : Initiator) (n x : Nat), stopped s = false → writable who TRN_CCMD.go 0 s = true → s.rd
    TRN_CCMD.busy = 0 → n < 2 ^ 24 → n ≠ 0 → chipCtx s n = some x → mirrors s = false → homeOf s n ≠ .none → ctxState
    x = 0 → ctxBad s (s.rd TRN_CCMD_CTX.image) = false → ∃ t, exec (.connCreate who n) s = .next t ∧ (chipCtx t n).map
    ctxState = some 1 ∧ (chipCtx t n).map ctxSndNxt = some (ctxSndNxt (s.rd TRN_CCMD_CTX.image)) ∧ (chipCtx t n).map
    ctxSndUna = some (ctxSndNxt (s.rd TRN_CCMD_CTX.image)) ∧ (chipCtx t n).map ctxEpsn = some (ctxEpsn (s.rd
    TRN_CCMD_CTX.image)) ∧ (chipCtx t n).map ctxRate = some (ctxMaxMbps (s.rd TRN_CCMD_CTX.image)) ∧ t.rd
    TRN_CCMD.busy = 0 ∧ t.rd TRN_CCMD.result = 0 ∧ t.mem = s.mem ∧ t.hostMem = s.hostMem ∧ t.links = s.links) ∧
  (∀ (s : State) (who : Initiator) (n x : Nat), stopped s = false → writable who TRN_CCMD.go 0 s = true → s.rd
    TRN_CCMD.busy = 0 → n < 2 ^ 24 → n ≠ 0 → chipCtx s n = some x → mirrors s = false → ctxState x ≠ 0 → (trnConn s
    n).ops = [] → ∃ t, exec (.trnConnReset who n) s = .next t ∧ (chipCtx t n).map ctxState = some 0 ∧ (trnConn t
    n).sent = [] ∧ t.rd TRN_CCMD.busy = 0 ∧ t.rd TRN_CCMD.result = 0 ∧ t.mem = s.mem ∧ t.hostMem = s.hostMem ∧ t.links
    = s.links) ∧
  (∀ (s : State) (who : Initiator) (n x : Nat), stopped s = false → writable who TRN_CCMD.go 0 s = true → s.rd
    TRN_CCMD.busy = 0 → n < 2 ^ 24 → n ≠ 0 → chipCtx s n = some x → mirrors s = false → ∃ t, exec (.trnConnRead who n)
    s = .next t ∧ t.rd TRN_CCMD_CTX.image = x % 2 ^ 2048 ∧ t.rd TRN_CCMD.busy = 0 ∧ t.rd TRN_CCMD.result = 0 ∧ t.trn =
    { s.trn with waitCmd := none } ∧ t.mem = s.mem ∧ t.hostMem = s.hostMem ∧ t.links = s.links) ∧
  (∀ (s : State) (n x : Nat), stopped s = false → chipCtx s n = some x → ctxState x = 1 → ctxRto x ≠ 0 → ctxRto x ≤
    now s → ctxRetries x < s.rd TRN_CFG.max_retry → ctxRetries x < 15 → mirrors s = false → ∃ t, exec
    (.retransmitTimeout n) s = .next t ∧ (trnConn t n).resend = (trnConn s n).sent.map (·.psn) ∧ (chipCtx t n).map
    ctxRetries = some (ctxRetries x + 1) ∧ (trnConn t n).ops = (trnConn s n).ops ∧ t.mem = s.mem ∧ t.hostMem =
    s.hostMem ∧ t.links = s.links) ∧
  (∀ (s : State) (n x : Nat), stopped s = false → chipCtx s n = some x → ctxState x = 1 → ctxRto x ≠ 0 → ctxRto x ≤
    now s → s.rd TRN_CFG.max_retry ≤ ctxRetries x → (trnConn s n).ops = [] → mirrors s = false → ∃ t, exec
    (.retransmitTimeout n) s = .next t ∧ (chipCtx t n).map ctxState = some 2 ∧ (chipCtx t n).map ctxRto = some 0 ∧
    (trnConn t n).sent = [] ∧ t.rd TRN_CONN_ERRQ.conn = n % 2 ^ 24 ∧ t.rd TRN_CONN_ERRQ.status = stRetryExceeded ∧
    t.rd IRQ_SRC.asserted 0x100 = 1 ∧ t.mem = s.mem) ∧
  (∀ (s : State) (n u : Nat), stopped s = false → (trnConn s n).suspend = some u → u ≤ now s → ∃ t, exec
    (.retryLaterResume n) s = .next t ∧ (trnConn t n).suspend = none ∧ (trnConn t n).sent = (trnConn s n).sent ∧
    (trnConn t n).resend = (trnConn s n).resend ∧ t.regs = s.regs ∧ t.mem = s.mem ∧ t.hostMem = s.hostMem ∧ t.links =
    s.links) ∧
  (∀ (s : State) (n x u : Nat), stopped s = false → (trnConn s n).ackAt = some u → chipCtx s n = some x → ctxState x =
    1 → s.rd TRN_CFG.ack_ns ≠ 0 → u + s.rd TRN_CFG.ack_ns ≤ now s → (sendAck s n 0x10 0 0).isSome = true → mirrors s =
    false → pubWaits s = false → ∃ t, exec (.ackTimer n) s = .next t ∧ (trnConn t n).ackAt = none ∧ (inputOf t
    (ctxPipe x) 4).length = (inputOf s (ctxPipe x) 4).length + 1 ∧ (trnConn t n).ready = (trnConn s n).ready ∧ t.mem =
    s.mem ∧ t.hostMem = s.hostMem ∧ t.links = s.links) ∧
  (∀ (s : State) (who : Initiator) (b v : Nat), stopped s = false → b < 4096 → writable who TRN_RGN_BLOCK.pf b s =
    true → blockIdle s b = true → exec (.rgnBlockWrite who b v) s = .next ((((s.wr TRN_RGN_BLOCK.pf (bitsAt v 0 3)
    b).wr TRN_RGN_BLOCK.is_vf (bitsAt v 3 1) b).wr TRN_RGN_BLOCK.vf (bitsAt v 4 12) b).wr TRN_RGN_BLOCK.valid (bitsAt
    v 16 1) b)) ∧
  (∀ (s : State) (who : Initiator) (b v : Nat), stopped s = false → b < 4096 → writable who TRN_RGN_BLOCK.pf b s =
    true → blockIdle s b = false → ownerWord s TRN_RGN_BLOCK.pf TRN_RGN_BLOCK.is_vf TRN_RGN_BLOCK.vf
    TRN_RGN_BLOCK.valid b ≠ v % 2 ^ 17 → exec (.rgnBlockWrite who b v) s = .next (s.wr (lockedWriteField .trn) 1)) ∧
  (∀ (s : State) (who : Initiator), stopped s = false → reaches who Blk.trn.base = true → exec (.trnConnErrqRead who)
    s = .next
    (({ s with rdata := s.rd TRN_CONN_ERRQ.conn + (s.rd TRN_CONN_ERRQ.status) <<< 24 + (s.rd TRN_CONN_ERRQ.count) <<< 32 }
    : State).wr TRN_CONN_ERRQ.count 0)) ∧
  (∀ (s : State) (n a : Nat) (ok : Bool) (image : Nat), stopped s = false → s.trn.fetching.contains n = true → homeOf
    s n = .memory a → (cachedConns s).length < 32768 → s.trn.parked = [] → s.trn.waitCmd = none → ∃ t, exec
    (.contextFetchDone n ok image) s = .next t ∧ chipCtx t n = some (ofLe (memLoad s a 256)) ∧ t.trn.fetching =
    (s.trn.fetching.filter fun m => decide (m ≠ n)) ∧ t.mem = s.mem ∧ t.hostMem = s.hostMem ∧ t.links = s.links) ∧
  (∀ (s : State) (who : Initiator) (n x : Nat), stopped s = false → writable who TRN_CCMD.go 0 s = true → s.rd
    TRN_CCMD.busy = 0 → n < 2 ^ 24 → chipCtx s n = some x → exec (.connCreate who n) s = .next (createConn (((s.wr
    TRN_CCMD.conn n).wr TRN_CCMD.action 0).wr TRN_CCMD.busy 1) n x)) ∧
  (∀ (s a : State) (who : Initiator) (n : Nat), stopped s = false → writable who TRN_CCMD.go 0 s = true → s.rd
    TRN_CCMD.busy = 0 → n < 2 ^ 24 → n ≠ 0 → chipCtx s n = none → homeOf s n ≠ .none → a = fetchCtx (((s.wr
    TRN_CCMD.conn n).wr TRN_CCMD.action 0).wr TRN_CCMD.busy 1) n → exec (.connCreate who n) s = .next
    ({ a with trn := { a.trn with waitCmd := some (0, n) } })) ∧
  (∀ (s : State) (who : Initiator) (n x : Nat), stopped s = false → writable who TRN_CCMD.go 0 s = true → s.rd
    TRN_CCMD.busy = 0 → n < 2 ^ 24 → chipCtx s n = some x → exec (.trnConnReset who n) s = .next (resetConn (((s.wr
    TRN_CCMD.conn n).wr TRN_CCMD.action 1).wr TRN_CCMD.busy 1) n x)) ∧
  (∀ (s a : State) (who : Initiator) (n : Nat), stopped s = false → writable who TRN_CCMD.go 0 s = true → s.rd
    TRN_CCMD.busy = 0 → n < 2 ^ 24 → n ≠ 0 → chipCtx s n = none → homeOf s n ≠ .none → a = fetchCtx (((s.wr
    TRN_CCMD.conn n).wr TRN_CCMD.action 1).wr TRN_CCMD.busy 1) n → exec (.trnConnReset who n) s = .next
    ({ a with trn := { a.trn with waitCmd := some (1, n) } })) ∧
  (∀ (s : State) (who : Initiator) (n x : Nat), stopped s = false → writable who TRN_CCMD.go 0 s = true → s.rd
    TRN_CCMD.busy = 0 → n < 2 ^ 24 → chipCtx s n = some x → exec (.trnConnRead who n) s = .next (readConn (((s.wr
    TRN_CCMD.conn n).wr TRN_CCMD.action 2).wr TRN_CCMD.busy 1) x)) ∧
  (∀ (s a : State) (who : Initiator) (n : Nat), stopped s = false → writable who TRN_CCMD.go 0 s = true → s.rd
    TRN_CCMD.busy = 0 → n < 2 ^ 24 → n ≠ 0 → chipCtx s n = none → homeOf s n ≠ .none → a = fetchCtx (((s.wr
    TRN_CCMD.conn n).wr TRN_CCMD.action 2).wr TRN_CCMD.busy 1) n → exec (.trnConnRead who n) s = .next
    ({ a with trn := { a.trn with waitCmd := some (2, n) } })) ∧
  (∀ (s : State) (n x : Nat), stopped s = false → chipCtx s n = some x → ctxState x = 1 → ctxRto x ≠ 0 → ctxRto x ≤
    now s → s.rd TRN_CFG.max_retry ≤ ctxRetries x → exec (.retransmitTimeout n) s = .next (connError s n
    stRetryExceeded (((trnConn s n).sent.head?).map fun k => k.op) none)) ∧
  (∀ (s : State) (n x : Nat), stopped s = false → chipCtx s n = some x → ctxState x = 1 → ctxRto x ≠ 0 → ctxRto x ≤
    now s → ctxRetries x < s.rd TRN_CFG.max_retry → exec (.retransmitTimeout n) s = .next (updConn (putCtx (trnCount s
    13) n (armRto (trnCount s 13) (ctxPut x 0x1C 0 4 (ctxRetries x + 1)))) n fun c =>
    { c with resend := c.sent.map fun k => k.psn, sent := c.sent.map fun k => { k with fast := false } })) ∧
  (∀ (s : State) (n u : Nat), stopped s = false → (trnConn s n).suspend = some u → u ≤ now s → exec (.retryLaterResume
    n) s = .next (updConn s n fun c => { c with suspend := none })) ∧
  (∀ (s : State) (n x u : Nat), stopped s = false → (trnConn s n).ackAt = some u → chipCtx s n = some x → ctxState x =
    1 → u + (if s.rd TRN_CFG.ack_ns = 0 then 64 else s.rd TRN_CFG.ack_ns) ≤ now s → exec (.ackTimer n) s = .next
    ((sendAck s n 0x10 0 0).getD s)) ∧
  (∀ (s : State) (n a : Nat) (ok : Bool) (image : Nat), stopped s = false → s.trn.fetching.contains n = true → homeOf
    s n = .memory a → exec (.contextFetchDone n ok image) s = .next (ctxArrived s n (ofLe (memLoad s a 256)) false)) ∧
  (∀ (s : State) (n a image : Nat), stopped s = false → s.trn.fetching.contains n = true → homeOf s n = .host a →
    readFailed s (.context n) = false → (s.hif.reqs.any fun r => decide (r.owner = .context n)) = true → exec
    (.contextFetchDone n true image) s = .next (ctxArrived (endRead s (.context n)) n image true)) ∧
  (∀ (s : State) (n a image : Nat), stopped s = false → s.trn.fetching.contains n = true → homeOf s n = .host a →
    readFailed s (.context n) = false → (s.hif.reqs.any fun r => decide (r.owner = .context n)) = true → exec
    (.contextFetchDone n false image) s = .next (ctxFetchFailed (endRead s (.context n)) n)) ∧
  (∀ (s : State) (n : Nat) (ok : Bool) (image : Nat), stopped s = false → s.trn.fetching.contains n = false → exec
    (.contextFetchDone n ok image) s = .next (s))

/-- On a READY connection the packet with the expected PSN is accepted: a WRITE and a packet of a WRITE_IMM that passes
  the key check has its payload in the region's host memory; a READ_REQ becomes an operation of the connection and one
  packet in flight of its region; a READ_RESP reaches the buffer of its read slot. The expected PSN advances by one.
  An ACK of the last packet leaves nothing unacknowledged, no timer and no retries; a NAK REGION_CLOSED ends the
  operation of its PSN with that status and code; a RETRY_LATER suspends the connection. A packet that the pipelines
  hand over joins its connection; one parked too long is dropped with its source raised. On a READY connection that is
  neither suspended nor owes a retransmission, whose next operation is a read with packets left and whose refilled
  pacer has the tokens for its READ_REQ: the packet takes the next PSN, joins the packets sent, goes to the Trallasy
  input of the connection's pipeline and is counted. -/
def Obligations.TrallasyReceptionAndPacing : Prop :=
  (∀ (s : State) (n x : Nat) (p : RxPkt), stopped s = false → (trnConn s n).ready = [p] → chipCtx s n = some x →
    rxType p = 1 → ctxState x = 1 → p.handle = none → mirrors s = false → connQuiesced s x = false → psnSub (rxPsn p)
    (ctxEpsn x) = 0 → ctxSack x = 0 → rxAckReq p = false → rxCe p = false → (rxPayload p).length ≤ ctxMtu x →
    (rxPayload p).length ≤ rxOpLen p → keyCheck s n x p true (rxPayload p).length = none → fnLive s (ctxFn x) = true →
    bitAt (rgnImage s (rxRkey p / 1024)) 4 = false → ∃ t, exec (.writeReceive n) s = .next t ∧ loadBytes t.hostMem
    (hostKey (ctxFn x) ((rgnBase (rgnImage s (rxRkey p / 1024)) + rxRoff p) % 2 ^ 64)) (rxPayload p).length =
    rxPayload p ∧ (chipCtx t n).map ctxEpsn = some ((ctxEpsn x + 1) % 2 ^ 24) ∧ (trnConn t n).ready = [] ∧ t.rd
    TRN_CNT.count 2 = (s.rd TRN_CNT.count 2 + 1) % 2 ^ 64 ∧ t.mem = s.mem) ∧
  (∀ (s : State) (n x : Nat) (p : RxPkt), stopped s = false → (trnConn s n).ready = [p] → chipCtx s n = some x →
    rxType p = 2 → ctxState x = 1 → p.handle = none → mirrors s = false → connQuiesced s x = false → psnSub (rxPsn p)
    (ctxEpsn x) = 0 → ctxSack x = 0 → rxAckReq p = false → rxCe p = false → (rxPayload p).length ≤ ctxMtu x →
    (rxPayload p).length ≤ rxOpLen p → keyCheck s n x p true (rxPayload p).length = none → fnLive s (ctxFn x) = true →
    bitAt (rgnImage s (rxRkey p / 1024)) 4 = false → rxLast p = false → ∃ t, exec (.writeImmReceive n) s = .next t ∧
    loadBytes t.hostMem (hostKey (ctxFn x) ((rgnBase (rgnImage s (rxRkey p / 1024)) + rxRoff p) % 2 ^ 64)) (rxPayload
    p).length = rxPayload p ∧ (chipCtx t n).map ctxEpsn = some ((ctxEpsn x + 1) % 2 ^ 24) ∧ (trnConn t n).ready = [] ∧
    t.rd TRN_CNT.count 2 = (s.rd TRN_CNT.count 2 + 1) % 2 ^ 64 ∧ t.mem = s.mem) ∧
  (∀ (s : State) (n x : Nat) (p : RxPkt), stopped s = false → (trnConn s n).ready = [p] → chipCtx s n = some x →
    rxType p = 3 → ctxState x = 1 → p.handle = none → mirrors s = false → connQuiesced s x = false → psnSub (rxPsn p)
    (ctxEpsn x) = 0 → ctxSack x = 0 → rxAckReq p = false → rxCe p = false → rxPayload p = [] → rxOpLen p ≠ 0 →
    keyCheck s n x p false (rxOpLen p) = none → fnLive s (ctxFn x) = true → bitAt (rgnImage s (rxRkey p / 1024)) 4 =
    false → ∃ t, exec (.readReqReceive n) s = .next t ∧ (trnConn t n).ops.map TrnOp.kind = (trnConn s n).ops.map
    TrnOp.kind ++ [4] ∧ rgnFlight (rgnImage t (rxRkey p / 1024)) = (rgnFlight (rgnImage s (rxRkey p / 1024)) + 1) % 2
    ^ 32 ∧ (chipCtx t n).map ctxEpsn = some ((ctxEpsn x + 1) % 2 ^ 24) ∧ (trnConn t n).ready = [] ∧ t.rd TRN_CNT.count
    2 = (s.rd TRN_CNT.count 2 + 1) % 2 ^ 64 ∧ t.hostMem = s.hostMem ∧ t.links = s.links) ∧
  (∀ (s : State) (n x i : Nat) (p : RxPkt), stopped s = false → (trnConn s n).ready = [p] → chipCtx s n = some x →
    rxType p = 4 → ctxState x = 1 → p.handle = none → mirrors s = false → connQuiesced s x = false → psnSub (rxPsn p)
    (ctxEpsn x) = 0 → ctxSack x = 0 → rxAckReq p = false → rxCe p = false → respSlot x p = some i → slotDiscard x i =
    false → slotAts x i = false → (rxPayload p).length ≤ ctxMtu x → rxRoff p + (rxPayload p).length ≤ rxOpLen p →
    (rxPayload p).length < slotRemaining x i → (trnConn s n).ops = [] → fnLive s (ctxFn x) = true → ∃ t, exec
    (.readRespReceive n) s = .next t ∧ loadBytes t.hostMem (hostKey (ctxFn x) ((slotLaddr x i + rxRoff p) % 2 ^ 64))
    (rxPayload p).length = rxPayload p ∧ (chipCtx t n).map (slotRemaining · i) = some (slotRemaining x i - (rxPayload
    p).length) ∧ (chipCtx t n).map ctxEpsn = some ((ctxEpsn x + 1) % 2 ^ 24) ∧ (trnConn t n).ready = [] ∧ t.rd
    TRN_CNT.count 2 = (s.rd TRN_CNT.count 2 + 1) % 2 ^ 64 ∧ t.mem = s.mem) ∧
  (∀ (s : State) (n x : Nat) (p : RxPkt) (y : TxPkt), stopped s = false → (trnConn s n).ready = [p] → chipCtx s n =
    some x → rxType p = 0x10 → ctxState x = 1 → p.handle = none → mirrors s = false → (trnConn s n).sent = [y] →
    (trnConn s n).ops = [] → acks x (rxPsn p) (rxSack p) y.psn = true → psnSub (rxPsn p) (ctxSndUna x) ≤ psnSub
    (ctxSndNxt x) (ctxSndUna x) → ctxSndNxt x ≠ ctxSndUna x → ∃ t, exec (.ackReceive n) s = .next t ∧ (trnConn t
    n).sent = [] ∧ (trnConn t n).ready = [] ∧ (chipCtx t n).map ctxSndUna = some (ctxSndNxt x) ∧ (chipCtx t n).map
    ctxRetries = some 0 ∧ (chipCtx t n).map ctxRto = some 0 ∧ t.mem = s.mem ∧ t.hostMem = s.hostMem ∧ t.links =
    s.links) ∧
  (∀ (s : State) (n x q sseq : Nat) (p : RxPkt) (y : TxPkt) (o : TrnOp) (e : Entry), stopped s = false → (trnConn s
    n).ready = [p] → chipCtx s n = some x → rxType p = 0x11 → ctxState x = 1 → p.handle = none → mirrors s = false →
    rxNakCode p = 1 → (trnConn s n).sent = [y] → y.psn = rxNakPsn p → (trnConn s n).ops = [o] → o.id = y.op → o.kind =
    1 → o.more = false → o.fail = false → o.failover = false → o.refusal = none → o.entry = some (q, sseq) → entryOf s
    q sseq = some e → e.outcome = none → e.decided = none → psnSub (rxPsn p) (ctxSndUna x) ≤ psnSub (ctxSndNxt x)
    (ctxSndUna x) → ∃ t, exec (.nakReceive n) s = .next t ∧ (entryOf t q sseq).bind Entry.outcome = some
    { status := stRegionClosed, bytes := e.moved, extra := 1 } ∧ (trnConn t n).ops = [] ∧ (trnConn t n).sent = [] ∧
    t.rd TRN_CNT.count 10 = (s.rd TRN_CNT.count 10 + 1) % 2 ^ 64 ∧ t.mem = s.mem ∧ t.hostMem = s.hostMem ∧ t.links =
    s.links) ∧
  (∀ (s : State) (n x : Nat) (p : RxPkt), stopped s = false → (trnConn s n).ready = [p] → chipCtx s n = some x →
    rxType p = 0x12 → ctxState x = 1 → p.handle = none → mirrors s = false → psnSub (rxPsn p) (ctxSndUna x) < psnSub
    (ctxSndNxt x) (ctxSndUna x) → ∃ t, exec (.retryLaterReceive n) s = .next t ∧ (trnConn t n).suspend = some (now s +
    s.rd TRN_CFG.rl_backoff_us * 1000) ∧ (trnConn t n).resend = ((trnConn s n).sent.filter fun y => (trnConn s
    n).resend.contains y.psn || decide (psnSub (rxPsn p) (ctxSndUna x) ≤ psnSub y.psn (ctxSndUna x))).map (·.psn) ∧
    (trnConn t n).ready = [] ∧ (trnConn t n).sent = (trnConn s n).sent ∧ t.rd TRN_CNT.count 12 = (s.rd TRN_CNT.count
    12 + 1) % 2 ^ 64 ∧ t.mem = s.mem ∧ t.hostMem = s.hostMem ∧ t.links = s.links) ∧
  (∀ (s : State) (x pipe : Nat) (k : Packet) (rest : List (Nat × Packet)) (p : RxPkt), stopped s = false → s.pp.toTrn
    = (pipe, k) :: rest → memBad s (lineAddr (k.info.handle + 2)) k.frame.length = false → enabled s .trn = true →
    standby s = false → parseTrn pipe k.frame = some p → k.info.flowId = 0 → p.conn ≠ 0 → s.trn.parked = [] → chipCtx
    s p.conn = some x → ctxState x = 1 → rxPeer p = ctxPeerAddr x → rxSrc p = ctxPeer x → rxType p = 1 → ∃ t, exec
    (.trnPacketReceive) s = .next t ∧ (trnConn t p.conn).ready = (trnConn s p.conn).ready ++
    [{ p with handle := some k.info.handle }] ∧ t.pp.toTrn = rest ∧ t.trn.cache = s.trn.cache ∧ t.regs = s.regs ∧
    t.mem = s.mem ∧ t.hostMem = s.hostMem ∧ t.links = s.links) ∧
  (∀ (s : State) (p : RxPkt), stopped s = false → s.trn.parked = [p] → s.rd TRN_PARK_LIMIT.limit_ns ≠ 0 → p.tt + s.rd
    TRN_PARK_LIMIT.limit_ns ≤ now s → (sendRetryLater s p).isSome = true → ∃ t, exec (.parkTimeout) s = .next t ∧
    t.trn.parked = [] ∧ t.rd TRN_CNT.count 16 = (s.rd TRN_CNT.count 16 + 1) % 2 ^ 64 ∧ (inputOf t p.pipe 4).length =
    (inputOf s p.pipe 4).length + 1 ∧ t.rd IRQ_SRC.asserted 0x102 = 1 ∧ t.mem = s.mem) ∧
  (∀ (s : State) (n x : Nat) (p : RxPkt), stopped s = false → (trnConn s n).ready.head? = some p → chipCtx s n = some
    x → rxType p = 1 → ctxState x = 1 → connQuiesced s x = false → exec (.writeReceive n) s = .next (sequence s
    (popReady s n) n x p (rxFlagged p || ctxOrd x) fun t => placeWrite t n x p)) ∧
  (∀ (s : State) (n x : Nat) (p : RxPkt), stopped s = false → (trnConn s n).ready.head? = some p → chipCtx s n = some
    x → rxType p = 2 → ctxState x = 1 → connQuiesced s x = false → exec (.writeImmReceive n) s = .next (sequence s
    (popReady s n) n x p (rxFlagged p || ctxOrd x) fun t => placeImm t n x p)) ∧
  (∀ (s : State) (n x : Nat) (p : RxPkt), stopped s = false → (trnConn s n).ready.head? = some p → chipCtx s n = some
    x → rxType p = 3 → ctxState x = 1 → connQuiesced s x = false → exec (.readReqReceive n) s = .next (sequence s
    (popReady s n) n x p (rxFlagged p || ctxOrd x) fun t => takeRead t n x p)) ∧
  (∀ (s : State) (n x : Nat) (p : RxPkt), stopped s = false → (trnConn s n).ready.head? = some p → chipCtx s n = some
    x → rxType p = 4 → ctxState x = 1 → connQuiesced s x = false → exec (.readRespReceive n) s = .next (sequence s
    (popReady s n) n x p false fun t => placeResp t n x p)) ∧
  (∀ (s : State) (n x : Nat) (p : RxPkt), stopped s = false → (trnConn s n).ready.head? = some p → chipCtx s n = some
    x → rxType p = 1 → ctxState x ≠ 1 → exec (.writeReceive n) s = .next (concludeRx s p (sendConnState (popReady s n)
    p x))) ∧
  (∀ (s : State) (n x : Nat) (p : RxPkt), stopped s = false → (trnConn s n).ready.head? = some p → chipCtx s n = some
    x → rxType p = 2 → ctxState x ≠ 1 → exec (.writeImmReceive n) s = .next (concludeRx s p (sendConnState (popReady s
    n) p x))) ∧
  (∀ (s : State) (n x : Nat) (p : RxPkt), stopped s = false → (trnConn s n).ready.head? = some p → chipCtx s n = some
    x → rxType p = 3 → ctxState x ≠ 1 → exec (.readReqReceive n) s = .next (concludeRx s p (sendConnState (popReady s
    n) p x))) ∧
  (∀ (s : State) (n x : Nat) (p : RxPkt), stopped s = false → (trnConn s n).ready.head? = some p → chipCtx s n = some
    x → rxType p = 4 → ctxState x ≠ 1 → exec (.readRespReceive n) s = .next (concludeRx s p (sendConnState (popReady s
    n) p x))) ∧
  (∀ (s : State) (n x : Nat) (p : RxPkt), stopped s = false → (trnConn s n).ready.head? = some p → chipCtx s n = some
    x → rxType p = 0x10 → ctxState x = 1 → exec (.ackReceive n) s = .next (releaseRx (takeAck (popReady s n) n x p
    false) p)) ∧
  (∀ (s : State) (n x : Nat) (p : RxPkt), stopped s = false → (trnConn s n).ready.head? = some p → chipCtx s n = some
    x → rxType p = 0x11 → ctxState x = 1 → exec (.nakReceive n) s = .next (releaseRx (takeAck (trnCount (popReady s n)
    10) n x p true) p)) ∧
  (∀ (s : State) (n x : Nat) (p : RxPkt), stopped s = false → (trnConn s n).ready.head? = some p → chipCtx s n = some
    x → rxType p = 16 → ctxState x ≠ 1 → exec (.ackReceive n) s = .next (releaseRx (popReady s n) p)) ∧
  (∀ (s : State) (n x : Nat) (p : RxPkt), stopped s = false → (trnConn s n).ready.head? = some p → chipCtx s n = some
    x → rxType p = 17 → ctxState x ≠ 1 → exec (.nakReceive n) s = .next (releaseRx (popReady s n) p)) ∧
  (∀ (s : State) (n x : Nat) (p : RxPkt), stopped s = false → (trnConn s n).ready.head? = some p → chipCtx s n = some
    x → rxType p = 18 → ctxState x ≠ 1 → exec (.retryLaterReceive n) s = .next (releaseRx (popReady s n) p)) ∧
  (∀ (s : State) (n x : Nat) (p : RxPkt), stopped s = false → (trnConn s n).ready.head? = some p → chipCtx s n = some
    x → rxType p = 0x12 → ctxState x = 1 → psnSub (ctxSndNxt x) (ctxSndUna x) ≤ psnSub (rxPsn p) (ctxSndUna x) → exec
    (.retryLaterReceive n) s = .next (releaseRx (popReady s n) p)) ∧
  (∀ (s a : State) (n x : Nat) (p : RxPkt), stopped s = false → (trnConn s n).ready.head? = some p → chipCtx s n =
    some x → rxType p = 0x12 → ctxState x = 1 → psnSub (rxPsn p) (ctxSndUna x) < psnSub (ctxSndNxt x) (ctxSndUna x) →
    a = putCtx (trnCount (popReady s n) 12) n (armRto (trnCount (popReady s n) 12) x) → exec (.retryLaterReceive n) s
    = .next (releaseRx (updConn a n fun c =>
    { c with suspend := some (now s + s.rd TRN_CFG.rl_backoff_us * 1000), resend := (c.sent.filter fun y => c.resend.contains y.psn || decide (psnSub (rxPsn p) (ctxSndUna x) ≤ psnSub y.psn (ctxSndUna x))).map fun y => y.psn })
    p)) ∧
  (∀ (s : State) (pipe : Nat) (k : Packet) (rest : List (Nat × Packet)) (p : RxPkt), stopped s = false → s.pp.toTrn =
    (pipe, k) :: rest → memBad s (lineAddr (k.info.handle + 2)) k.frame.length = false → enabled s .trn = true →
    standby s = false → parseTrn pipe k.frame = some p → (k.info.flowId = 0 ∨ k.info.flowId = p.conn) → exec
    (.trnPacketReceive) s = .next ((routeRx { s with pp := { s.pp with toTrn := rest } }
    { p with handle := some k.info.handle }).getD s)) ∧
  (∀ (s : State) (pipe : Nat) (k : Packet) (rest : List (Nat × Packet)), stopped s = false → s.pp.toTrn = (pipe, k) ::
    rest → memBad s (lineAddr (k.info.handle + 2)) k.frame.length = false → enabled s .trn = false → exec
    (.trnPacketReceive) s = .next (freeHandle (trnCount { s with pp := { s.pp with toTrn := rest } } 20)
    k.info.handle)) ∧
  (∀ (s : State) (p : RxPkt), stopped s = false → (s.trn.parked.find? fun y => decide (y.tt + (if s.rd
    TRN_PARK_LIMIT.limit_ns = 0 then 100 else s.rd TRN_PARK_LIMIT.limit_ns) ≤ now s)) = some p → exec (.parkTimeout) s
    = .next ((dropParked { s with trn := { s.trn with parked := s.trn.parked.filter fun y => decide (y ≠ p) } } p
    16).getD s)) ∧
  (∀ (s : State) (n x y : Nat) (o : TrnOp) (ok : Bool) (data : Bytes), stopped s = false → chipCtx s n = some x →
    ctxState x = 1 → (trnConn s n).suspend = none → (trnConn s n).resend = [] → standby s = false → sendingOp (trnConn
    s n) = some o → o.kind = 3 → o.slot < 4 → refillPacer (applyLegs s x) (now s) = y → psnSub (ctxSndNxt y)
    (ctxSndUna y) < 1024 → wireLen (nextFrame s n y (trnConn s n) o []).length ≤ ctxTokens y → linesFor (nextFrame s n
    y (trnConn s n) o []).length ≤ freeLineCount s → mirrors s = false → pubWaits s = false → ∃ t, exec (.pacerAdmit n
    ok data) s = .next t ∧ (trnConn t n).sent.map TxPkt.psn = (trnConn s n).sent.map TxPkt.psn ++ [ctxSndNxt y] ∧
    (chipCtx t n).map ctxSndNxt = some ((ctxSndNxt y + 1) % 2 ^ 24) ∧ (inputOf t (ctxPipe y) 4).map (fun z =>
    z.pkt.frame) = (inputOf s (ctxPipe y) 4).map (fun z => z.pkt.frame) ++ [nextFrame s n y (trnConn s n) o []] ∧ t.rd
    TRN_CNT.count 0 = (s.rd TRN_CNT.count 0 + 1) % 2 ^ 64 ∧ t.mem = s.mem ∧ t.hostMem = s.hostMem ∧ t.links = s.links) ∧
  (∀ (s : State) (n x : Nat) (k : TxPkt) (ok : Bool) (data : Bytes), stopped s = false → chipCtx s n = some x →
    ctxState x = 1 → (trnConn s n).suspend = none → standby s = false → ((trnConn s n).sent.find? fun k => (trnConn s
    n).resend.contains k.psn) = some k → exec (.pacerAdmit n ok data) s = .next (sendAgain s n (refillPacer (applyLegs
    s x) (now s)) k)) ∧
  (∀ (s : State) (n x : Nat) (o : TrnOp) (ok : Bool) (data : Bytes), stopped s = false → chipCtx s n = some x →
    ctxState x = 1 → (trnConn s n).suspend = none → standby s = false → ((trnConn s n).sent.find? fun k => (trnConn s
    n).resend.contains k.psn) = none → sendingOp (trnConn s n) = some o → respWaits s n o = false → exec (.pacerAdmit
    n ok data) s = .next (admitNew s n (refillPacer (applyLegs s x) (now s)) (trnConn s n) o ok data))

/-- The request at the head of the staging order that fits is granted a buffer and its command begins. A write's host data
  is moved into its buffer, and is then staged. A command free of conflicts that is granted a credit is dispatched
  with the next generation of its slot, by its own row or BACKEND_DISPATCH. The OK reply of a write ends it with its
  bytes; a reply that matches no dispatched command counts as bad. After its OK reply a read's data reaches the host
  and it ends OK. Commands are those of volumes without encryption. -/
def Obligations.BlockCommands : Prop :=
  (∀ (s : State) (q sseq o : Nat) (c : BlkCmd) (e : Entry) (rest : List (Nat × Nat)), stopped s = false → blkCmd s q
    sseq = some c → openEntry s q sseq = some e → s.blk.requests = (q, sseq) :: rest → mayBegin s e = true → freePlace
    (stageSize s) (blkBytes c) 0 (buffersInUse s) = some o → ∃ t, exec (.stagingGrant) s = .next t ∧ (blkCmd t q
    sseq).bind BlkCmd.buf = some o ∧ t.blk.requests = rest ∧ (entryOf t q sseq).map Entry.begun = some true ∧ t.regs =
    s.regs ∧ t.mem = s.mem ∧ t.hostMem = s.hostMem ∧ t.links = s.links) ∧
  (∀ (s : State) (q sseq o : Nat) (c : BlkCmd) (e : Entry) (data : Bytes), stopped s = false → blkCmd s q sseq = some
    c → openEntry s q sseq = some e → e.op = 0x31 → c.moved = false → c.buf = some o → e.at 8 16 1 = 0 → fnLive s
    (queueFn s q) = true → volXts c.vol = false → ∃ t, exec (.blkWrite q sseq true data) s = .next t ∧ memLoad t
    (stageBase s + o) (blkBytes c) = fitBytes (blkBytes c) data ∧ (blkCmd t q sseq).map BlkCmd.moved = some true ∧
    t.hostMem = s.hostMem ∧ t.links = s.links) ∧
  (∀ (s : State) (q sseq : Nat) (c : BlkCmd), stopped s = false → blkCmd s q sseq = some c → c.moved = true →
    unitsDone c = true → ∃ t, exec (.stagingComplete q sseq) s = .next t ∧ (blkCmd t q sseq).map BlkCmd.staged = some
    true ∧ t.regs = s.regs ∧ t.queues = s.queues ∧ t.mem = s.mem ∧ t.hostMem = s.hostMem ∧ t.links = s.links) ∧
  (∀ (s : State) (q sseq : Nat) (c : BlkCmd) (e : Entry), stopped s = false → blkCmd s q sseq = some c → openEntry s q
    sseq = some e → e.op = 0x30 → c.sent = false → c.reply.map BlkReply.result = some 0 → volXts c.vol = false →
    memBad s (stageBase s + c.buf.getD 0) (blkBytes c) = false → e.at 8 16 1 = 0 → fnLive s (queueFn s q) = true → ∃
    t, exec (.blkRead q sseq true) s = .next t ∧ (entryOf t q sseq).bind Entry.outcome = some
    { status := stOk, bytes := blkBytes c } ∧ loadBytes t.hostMem (hostKey (queueFn s q) (e.at 0x18 0 64)) (blkBytes
    c) = memLoad s (stageBase s + c.buf.getD 0) (blkBytes c) ∧ (blkCmd t q sseq).bind BlkCmd.buf = none ∧ t.mem =
    s.mem) ∧
  (∀ (s : State) (q sseq : Nat) (c : BlkCmd), stopped s = false → blkCmd s q sseq = some c → cmdReady s c = true →
    (deviceSend s srcBlock (volChannel c.vol) (commandBaton s (nextGen s c)) (queueAccount s c.queue)).isSome = true →
    ∃ t, exec (.backendDispatch q sseq) s = .next t ∧ (blkCmd t q sseq).map BlkCmd.sent = some true ∧ (blkCmd t q
    sseq).map BlkCmd.gen = some (nextGen s c).gen ∧ t.rd BLK_CNT.count 0 = (s.rd BLK_CNT.count 0 + 1) % 2 ^ 64 ∧
    (entryOf t q sseq).map Entry.begun = some true) ∧
  (∀ (s : State) (q sseq : Nat) (c : BlkCmd) (e : Entry), stopped s = false → blkCmd s q sseq = some c → openEntry s q
    sseq = some e → e.op = 0x32 → cmdReady s c = true → (deviceSend s srcBlock (volChannel c.vol) (commandBaton s
    (nextGen s c)) (queueAccount s c.queue)).isSome = true → ∃ t, exec (.blkFlush q sseq) s = .next t ∧ (blkCmd t q
    sseq).map BlkCmd.sent = some true ∧ (blkCmd t q sseq).map BlkCmd.gen = some (nextGen s c).gen ∧ t.rd BLK_CNT.count
    0 = (s.rd BLK_CNT.count 0 + 1) % 2 ^ 64 ∧ (entryOf t q sseq).map Entry.begun = some true) ∧
  (∀ (s : State) (q sseq : Nat) (c : BlkCmd) (e : Entry), stopped s = false → blkCmd s q sseq = some c → openEntry s q
    sseq = some e → e.op = 0x33 → cmdReady s c = true → (deviceSend s srcBlock (volChannel c.vol) (commandBaton s
    (nextGen s c)) (queueAccount s c.queue)).isSome = true → ∃ t, exec (.blkTrim q sseq) s = .next t ∧ (blkCmd t q
    sseq).map BlkCmd.sent = some true ∧ (blkCmd t q sseq).map BlkCmd.gen = some (nextGen s c).gen ∧ t.rd BLK_CNT.count
    0 = (s.rd BLK_CNT.count 0 + 1) % 2 ^ 64 ∧ (entryOf t q sseq).map Entry.begun = some true) ∧
  (∀ (s : State) (b : Baton) (q sseq : Nat) (c : BlkCmd) (e : Entry), stopped s = false → s.rly.replies = [b] →
    s.blk.cmds = [c] → c.queue = q → c.sseq = sseq → c.sent = true → c.orphan = false → q = bitsAt b.image 16 16 →
    c.slot = bitsAt b.image 32 8 → c.gen = bitsAt b.image 40 8 → blkOp c.raw = 0x31 → bitsAt b.image 8 8 = 0 →
    openEntry s q sseq = some e → ∃ t, exec (.backendReply) s = .next t ∧ (entryOf t q sseq).bind Entry.outcome = some
    { status := stOk, bytes := blkBytes c } ∧ t.rly.replies = [] ∧ (blkCmd t q sseq).map BlkCmd.done = some true ∧
    t.rd BLK_CNT.count 1 = (s.rd BLK_CNT.count 1 + 1) % 2 ^ 64 ∧ t.mem = s.mem ∧ t.hostMem = s.hostMem ∧ t.links =
    s.links) ∧
  (∀ (s : State) (b : Baton), stopped s = false → s.rly.replies = [b] → s.blk.cmds = [] → exec (.backendReply) s =
    .next (blkCount_ { s with rly := { s.rly with replies := [] } } 2)) ∧
  (∀ (s : State) (q sseq o : Nat) (c : BlkCmd) (e : Entry) (rest : List (Nat × Nat)), stopped s = false →
    s.blk.requests = (q, sseq) :: rest → blkCmd s q sseq = some c → openEntry s q sseq = some e → mayBegin s e = true
    → freePlace (stageSize s) (blkBytes c) 0 (buffersInUse s) = some o → exec (.stagingGrant) s = .next
    (let t := updCmd (begin_ s q sseq) q sseq fun c => { c with buf := some o }; { t with blk := { t.blk with requests := rest } })) ∧
  (∀ (s : State) (q sseq : Nat) (c : BlkCmd) (e : Entry) (rest : List (Nat × Nat)), stopped s = false → s.blk.requests
    = (q, sseq) :: rest → blkCmd s q sseq = some c → openEntry s q sseq = some e → mayBegin s e = true → freePlace
    (stageSize s) (blkBytes c) 0 (buffersInUse s) = none → exec (.stagingGrant) s = .next (s.blk.requests.foldl
    waitCounted s)) ∧
  (∀ (s : State) (q sseq : Nat) (rest : List (Nat × Nat)), stopped s = false → s.blk.requests = (q, sseq) :: rest →
    (blkCmd s q sseq = none ∨ openEntry s q sseq = none) → exec (.stagingGrant) s = .next
    ({ s with blk := { s.blk with requests := rest } })) ∧
  (∀ (s : State) (q sseq : Nat) (c : BlkCmd) (e : Entry) (data : Bytes) (ps : List (Nat × Nat)), stopped s = false →
    blkCmd s q sseq = some c → openEntry s q sseq = some e → e.op = 0x31 → c.moved = false → c.buf.isSome = true →
    fnLive s (queueFn s q) = true → translateRange s (queueFn s q) (e.at 8 16 1 = 1) (e.at 0x18 0 64) (blkBytes c)
    false = .ok ps → volXts c.vol = false → exec (.blkWrite q sseq true data) s = .next (stageLines (memStore (updCmd
    (chargeRead s q (fitBytes (blkBytes c) data).length) q sseq fun c => { c with moved := true }) (stageBase s +
    c.buf.getD 0) (fitBytes (blkBytes c) data)) c true)) ∧
  (∀ (s : State) (q sseq : Nat) (c : BlkCmd) (e : Entry) (data : Bytes) (ps : List (Nat × Nat)), stopped s = false →
    blkCmd s q sseq = some c → openEntry s q sseq = some e → e.op = 0x31 → c.moved = false → c.buf.isSome = true →
    fnLive s (queueFn s q) = true → translateRange s (queueFn s q) (e.at 8 16 1 = 1) (e.at 0x18 0 64) (blkBytes c)
    false = .ok ps → volXts c.vol = true → exec (.blkWrite q sseq true data) s = .next (pushXts (updCmd (chargeRead s
    q (fitBytes (blkBytes c) data).length) q sseq fun y =>
    { y with moved := true, plain := fitBytes (blkBytes c) data, units := [] }) c true)) ∧
  (∀ (s : State) (q sseq : Nat) (c : BlkCmd) (e : Entry) (data : Bytes) (ps : List (Nat × Nat)), stopped s = false →
    blkCmd s q sseq = some c → openEntry s q sseq = some e → e.op = 0x31 → c.moved = false → c.buf.isSome = true →
    fnLive s (queueFn s q) = true → translateRange s (queueFn s q) (e.at 8 16 1 = 1) (e.at 0x18 0 64) (blkBytes c)
    false = .ok ps → exec (.blkWrite q sseq false data) s = .next (finishWith s q sseq stBusError)) ∧
  (∀ (s : State) (q sseq : Nat) (c : BlkCmd), stopped s = false → blkCmd s q sseq = some c → c.moved = true →
    unitsDone c = true → exec (.stagingComplete q sseq) s = .next (updCmd s q sseq fun c =>
    { c with staged := true, plain := [] })) ∧
  (∀ (s : State) (q sseq : Nat) (c : BlkCmd) (e : Entry) (ps : List (Nat × Nat)), stopped s = false → blkCmd s q sseq
    = some c → openEntry s q sseq = some e → e.op = 0x30 → c.sent = false → unitsDone c = true → c.reply.map
    BlkReply.result = some 0 → (volXts c.vol = true ∨ memBad s (stageBase s + c.buf.getD 0) (blkBytes c) = false) →
    fnLive s (queueFn s q) = true → translateRange s (queueFn s q) (e.at 8 16 1 = 1) (e.at 0x18 0 64) (blkBytes c)
    true = .ok ps → exec (.blkRead q sseq true) s = .next
    (let t := updCmd (entryWrite (stageLines s c false) q sseq ps (readBackData s c)) q sseq fun c => { c with buf := none }; finish t q sseq { status := stOk, bytes := (readBackData s c).length })) ∧
  (∀ (s : State) (q sseq : Nat) (c : BlkCmd) (e : Entry) (ps : List (Nat × Nat)), stopped s = false → blkCmd s q sseq
    = some c → openEntry s q sseq = some e → e.op = 0x30 → c.sent = false → unitsDone c = true → c.reply.map
    BlkReply.result = some 0 → (volXts c.vol = true ∨ memBad s (stageBase s + c.buf.getD 0) (blkBytes c) = false) →
    fnLive s (queueFn s q) = true → translateRange s (queueFn s q) (e.at 8 16 1 = 1) (e.at 0x18 0 64) (blkBytes c)
    true = .ok ps → exec (.blkRead q sseq false) s = .next
    (let t := updCmd (entryWrite (stageLines s c false) q sseq ps (readBackData s c)) q sseq fun c => { c with buf := none }; finishWith t q sseq stBusError)) ∧
  (∀ (s : State) (q sseq : Nat) (c : BlkCmd), stopped s = false → blkCmd s q sseq = some c → cmdReady s c = true →
    exec (.backendDispatch q sseq) s = .next (sendRequest s (nextGen s c) (commandBaton s (nextGen s c)))) ∧
  (∀ (s : State) (q sseq : Nat), stopped s = false → blkCmd s q sseq = none → exec (.backendDispatch q sseq) s = .next
    (sendCancel s q sseq)) ∧
  (∀ (s : State) (q sseq : Nat) (c : BlkCmd) (e : Entry), stopped s = false → blkCmd s q sseq = some c → openEntry s q
    sseq = some e → e.op = 0x32 → cmdReady s c = true → exec (.blkFlush q sseq) s = .next (sendRequest s (nextGen s c)
    (commandBaton s (nextGen s c)))) ∧
  (∀ (s : State) (q sseq : Nat) (c : BlkCmd) (e : Entry), stopped s = false → blkCmd s q sseq = some c → openEntry s q
    sseq = some e → e.op = 0x33 → cmdReady s c = true → exec (.blkTrim q sseq) s = .next (sendRequest s (nextGen s c)
    (commandBaton s (nextGen s c)))) ∧
  (∀ (s : State) (c : BlkCmd) (b : Nat) (t : State), deviceSend s srcBlock (volChannel c.vol) b (queueAccount s
    c.queue) = some t →
    sendRequest s c b = (let u := updCmd (begin_ t c.queue c.sseq) c.queue c.sseq fun x => { x with sent := true, gen := c.gen }; blkCount_ { u with blk := { u.blk with gens := Map.set u.blk.gens (c.queue * 256 + c.slot) c.gen } } 0)) ∧
  (∀ (s : State) (b : Baton) (rest : List Baton) (c : BlkCmd) (u : State), stopped s = false → s.rly.replies = b ::
    rest → (s.blk.cmds.find? fun c => c.sent && decide (c.queue = bitsAt b.image 16 16) && decide (c.slot = bitsAt
    b.image 32 8) && decide (c.gen = bitsAt b.image 40 8)) = some c → c.orphan = false → u = blkCount_
    { s with rly := { s.rly with replies := rest } } 1 → exec (.backendReply) s = .next (takeReply u c
    ⟨bitsAt b.image 8 8, bitsAt b.image 64 32, bitsAt b.image 128 64⟩)) ∧
  (∀ (s : State) (b : Baton) (rest : List Baton), stopped s = false → s.rly.replies = b :: rest → (s.blk.cmds.find?
    fun c => c.sent && decide (c.queue = bitsAt b.image 16 16) && decide (c.slot = bitsAt b.image 32 8) && decide
    (c.gen = bitsAt b.image 40 8)) = none → exec (.backendReply) s = .next (blkCount_
    { s with rly := { s.rly with replies := rest } } 2))

/-- A self-test whose pattern came back goes on to its probe, and one whose pattern did not ends SELF_TEST_FAIL with step
  1; its probe is dispatched while no command waits on its volume. A log read writes the target's error log to the
  host and answers its entries. A resume takes a FROZEN target to ACTIVE. A good record is stored with test and
  test_next 0, and read back; a record without capacity is refused. A read of BLK_FROZENQ returns and clears the
  count. -/
def Obligations.BlockSelfTestsLogsAndVolumes : Prop :=
  (∀ (s : State) (q sseq : Nat) (c : BlkCmd) (e : Entry), stopped s = false → beginnable s q sseq 0x34 = some e →
    blkCmd s q sseq = some c → ∃ t, exec (.blkSelfTest q sseq true) s = .next t ∧ (blkCmd t q sseq).map BlkCmd.phase =
    some 1 ∧ (entryOf t q sseq).map Entry.begun = some true ∧ (entryOf t q sseq).bind Entry.outcome = none ∧ t.regs =
    s.regs ∧ t.mem = s.mem ∧ t.hostMem = s.hostMem ∧ t.links = s.links) ∧
  (∀ (s : State) (q sseq : Nat) (e : Entry), stopped s = false → beginnable s q sseq 0x34 = some e → ∃ t, exec
    (.blkSelfTest q sseq false) s = .next t ∧ (entryOf t q sseq).bind Entry.outcome = some
    { status := stSelfTestFail, extra := 1 } ∧ t.regs = s.regs ∧ t.mem = s.mem ∧ t.hostMem = s.hostMem ∧ t.links =
    s.links) ∧
  (∀ (s : State) (q sseq : Nat) (c : BlkCmd) (e : Entry), stopped s = false → blkCmd s q sseq = some c → openEntry s q
    sseq = some e → blkOp c.raw = 0x34 → c.phase = 1 → c.sent = false → volumeBusy s (blkVolume c.raw) = false →
    verifyInFlight s (blkVolume c.raw) = false → (deviceSend s srcBlock (volChannel c.vol) (requestBaton s (nextGen s
    c) 5 0 0 0) (queueAccount s c.queue)).isSome = true → ∃ t, exec (.verifyDispatch q sseq) s = .next t ∧ (blkCmd t q
    sseq).map BlkCmd.sent = some true ∧ (blkCmd t q sseq).map BlkCmd.gen = some (nextGen s c).gen ∧ t.rd BLK_CNT.count
    0 = (s.rd BLK_CNT.count 0 + 1) % 2 ^ 64 ∧ (entryOf t q sseq).map Entry.begun = some true) ∧
  (∀ (s : State) (q sseq u : Nat) (e : Entry), stopped s = false → beginnable s q sseq 0x35 = some e → e.at 8 0 16 = u
    → e.at 8 16 1 = 0 → e.at 8 17 1 = 1 → fnLive s (queueFn s q) = true → ∃ t, exec (.blkLogRead q sseq) s = .next t ∧
    (entryOf t q sseq).bind Entry.outcome = some
    { status := stOk, extra := (blkLog s u).entries.length + ((blkLog s u).lost % 2 ^ 24) <<< 8 } ∧ loadBytes
    t.hostMem (hostKey (queueFn s q) (e.at 0x10 0 64)) 512 = fitBytes 512 ((blkLog s u).entries.flatMap fun x =>
    leBytes 32 x) ∧ (blkLog t u).entries = [] ∧ (blkLog t u).eseq = (blkLog s u).eseq ∧ t.mem = s.mem) ∧
  (∀ (s : State) (q sseq u : Nat) (e : Entry), stopped s = false → beginnable s q sseq 0x36 = some e → e.at 8 0 16 = u
    → queueState s u = qFrozen → ∃ t, exec (.blkResume q sseq) s = .next t ∧ (entryOf t q sseq).bind Entry.outcome =
    some { status := stOk } ∧ queueState t u = qActive ∧ t.blk = s.blk ∧ t.mem = s.mem ∧ t.hostMem = s.hostMem ∧
    t.links = s.links) ∧
  (∀ (s : State) (who : Initiator), stopped s = false → writable who BLK_VCMD.go 0 s = true → s.areas.blkStage ≠ 0 →
    volValid (s.rd BLK_VCMD_REC.image) = true → volCapacity (s.rd BLK_VCMD_REC.image) ≠ 0 → volReservedBad (s.rd
    BLK_VCMD_REC.image) = false → volTest (volRecord s (s.rd BLK_VCMD.volume)) = 0 → ∃ t, exec (.volumeWrite who) s =
    .next t ∧ volRecord t (s.rd BLK_VCMD.volume) = (putBits (putBits (s.rd BLK_VCMD_REC.image) 192 2 0) 208 48 0) % 2
    ^ 512 ∧ t.rd BLK_VCMD.result = 0 ∧ t.rd BLK_VCMD.busy = 0 ∧ t.blk.cmds = s.blk.cmds ∧ t.mem = s.mem ∧ t.hostMem =
    s.hostMem ∧ t.links = s.links) ∧
  (∀ (s : State) (who : Initiator), stopped s = false → writable who BLK_VCMD.go 0 s = true → s.areas.blkStage ≠ 0 →
    volValid (s.rd BLK_VCMD_REC.image) = true → volCapacity (s.rd BLK_VCMD_REC.image) = 0 → exec (.volumeWrite who) s
    = .next (((s.wr BLK_VCMD.action 0).wr BLK_VCMD.busy 0).wr BLK_VCMD.result 1)) ∧
  (∀ (s : State) (who : Initiator), stopped s = false → writable who BLK_VCMD.go 0 s = true → s.areas.blkStage ≠ 0 →
    exec (.volumeRead who) s = .next (((((volLine s (s.rd BLK_VCMD.volume) false 0).wr BLK_VCMD_REC.image (volRecord s
    (s.rd BLK_VCMD.volume))).wr BLK_VCMD.action 1).wr BLK_VCMD.busy 0).wr BLK_VCMD.result 0)) ∧
  (∀ (s : State) (who : Initiator), stopped s = false → reaches who Blk.blk.base = true → exec (.blkFrozenqRead who) s
    = .next
    (({ s with rdata := s.rd BLK_FROZENQ.queue + (s.rd BLK_FROZENQ.status) <<< 16 + (s.rd BLK_FROZENQ.count) <<< 24 }
    : State).wr BLK_FROZENQ.count 0)) ∧
  (∀ (s : State) (q sseq : Nat), stopped s = false → (beginnable s q sseq 0x34).isSome = true → exec (.blkSelfTest q
    sseq true) s = .next (updCmd (begin_ s q sseq) q sseq fun c => { c with phase := 1 })) ∧
  (∀ (s : State) (q sseq : Nat), stopped s = false → (beginnable s q sseq 0x34).isSome = true → exec (.blkSelfTest q
    sseq false) s = .next (finish (begin_ s q sseq) q sseq { status := stSelfTestFail, extra := 1 })) ∧
  (∀ (s : State) (q sseq : Nat) (c d : BlkCmd) (n : Nat), stopped s = false → blkCmd s q sseq = some c → (openEntry s
    q sseq).isSome = true → blkOp c.raw = 0x34 → c.phase ≠ 0 → c.sent = false → volumeBusy s (blkVolume c.raw) = false
    → verifyInFlight s (blkVolume c.raw) = false → c.phase ≠ 1 → d = nextGen s c → n = volTestNext (volRecord s
    (blkVolume c.raw)) → exec (.verifyDispatch q sseq) s = .next (sendRequest s d (requestBaton s d 5 n (min (max 1
    (s.rd BLK_CFG.seg_blocks)) (volCapacity d.vol - n)) 0))) ∧
  (∀ (s : State) (q sseq : Nat) (c : BlkCmd), stopped s = false → blkCmd s q sseq = some c → (openEntry s q
    sseq).isSome = true → blkOp c.raw = 0x34 → c.phase = 1 → c.sent = false → volumeBusy s (blkVolume c.raw) = false →
    verifyInFlight s (blkVolume c.raw) = false → exec (.verifyDispatch q sseq) s = .next (sendRequest s (nextGen s c)
    (requestBaton s (nextGen s c) 5 0 0 0))) ∧
  (∀ (s : State) (q sseq : Nat) (c : BlkCmd), stopped s = false → blkCmd s q sseq = some c → (openEntry s q
    sseq).isSome = true → blkOp c.raw = 0x34 → (c.phase = 0 ∨ c.sent = true ∨ volumeBusy s (blkVolume c.raw) = true ∨
    verifyInFlight s (blkVolume c.raw) = true) → exec (.verifyDispatch q sseq) s = .next (s)) ∧
  (∀ (s : State) (q sseq : Nat) (e : Entry) (l : BlkLog) (u : State) (ps : List (Nat × Nat)), stopped s = false →
    beginnable s q sseq 0x35 = some e → fnLive s (queueFn s q) = true → translateRange s (queueFn s q) (e.at 8 16 1 =
    1) (e.at 0x10 0 64) 512 true = .ok ps → e.at 8 17 1 = 1 → l = blkLog s (e.at 8 0 16) → u = entryWrite (begin_
    (logLines s (e.at 8 0 16) (queueAccount s q)) q sseq) q sseq ps (fitBytes 512 (l.entries.flatMap fun x => leBytes
    32 x)) → exec (.blkLogRead q sseq) s = .next (finish
    { u with blk := { u.blk with logs := Map.set u.blk.logs (e.at 8 0 16) { l with entries := [], lost := 0 } } } q
    sseq { status := stOk, extra := l.entries.length + (l.lost % 2 ^ 24) <<< 8 })) ∧
  (∀ (s : State) (q sseq : Nat) (e : Entry) (l : BlkLog) (u : State) (ps : List (Nat × Nat)), stopped s = false →
    beginnable s q sseq 0x35 = some e → fnLive s (queueFn s q) = true → translateRange s (queueFn s q) (e.at 8 16 1 =
    1) (e.at 0x10 0 64) 512 true = .ok ps → e.at 8 17 1 ≠ 1 → l = blkLog s (e.at 8 0 16) → u = entryWrite (begin_
    (logLines s (e.at 8 0 16) (queueAccount s q)) q sseq) q sseq ps (fitBytes 512 (l.entries.flatMap fun x => leBytes
    32 x)) → exec (.blkLogRead q sseq) s = .next (finish u q sseq
    { status := stOk, extra := l.entries.length + (l.lost % 2 ^ 24) <<< 8 })) ∧
  (∀ (s : State) (q sseq : Nat) (e : Entry), stopped s = false → beginnable s q sseq 0x36 = some e → queueState
    (begin_ s q sseq) (e.at 8 0 16) = qFrozen → exec (.blkResume q sseq) s = .next (finish (setQueueState (begin_ s q
    sseq) (e.at 8 0 16) qActive) q sseq { status := stOk })) ∧
  (∀ (s : State) (q sseq : Nat) (e : Entry), stopped s = false → beginnable s q sseq 0x36 = some e → queueState
    (begin_ s q sseq) (e.at 8 0 16) ≠ qFrozen → exec (.blkResume q sseq) s = .next (finish (begin_ s q sseq) q sseq
    { status := stOk })) ∧
  (∀ (s : State) (who : Initiator) (y : Nat), stopped s = false → writable who BLK_VCMD.go 0 s = true →
    s.areas.blkStage ≠ 0 → (volValid (s.rd BLK_VCMD_REC.image) = false ∨ volCapacity (s.rd BLK_VCMD_REC.image) ≠ 0 ∧
    volReservedBad (s.rd BLK_VCMD_REC.image) = false) → volTest (volRecord s (s.rd BLK_VCMD.volume)) = 0 → y =
    (putBits (putBits (s.rd BLK_VCMD_REC.image) 192 2 0) 208 48 0) → exec (.volumeWrite who) s = .next (endVcmd (delta
    (storeVol s (s.rd BLK_VCMD.volume) y 0) 0x09 (s.rd BLK_VCMD.volume) (leBytes 64 y)) 0 0)) ∧
  (∀ (s : State) (who : Initiator), stopped s = false → writable who BLK_VCMD.go 0 s = true → s.areas.blkStage = 0 →
    exec (.volumeWrite who) s = .next (endVcmd s 0 3)) ∧
  (∀ (s : State) (who : Initiator), stopped s = false → writable who BLK_VCMD.go 0 s = true → s.areas.blkStage = 0 →
    exec (.volumeRead who) s = .next (endVcmd s 1 3))

/-- A valid KEY_LOAD gives its slot the image of the entry with used 0, and finishes once nothing runs on the old
  contents. ENCRYPT, DECRYPT, HASH, MAC and MAC_VERIFY jobs with a fitting slot begin and wait for a core with what
  they have read; a job without one ends KEY_INVALID. A waiting HASH job of an eligible account is dispatched to a
  core, and its digest reaches the host when the core is done. A slot is shown without its key; its limit is lowered
  and nothing else; a block of empty slots takes an owner; a read of CIP_KEYQ removes its head. -/
def Obligations.CipherJobsAndKeys : Prop :=
  (∀ (s : State) (q sseq k : Nat) (e : Entry), stopped s = false → beginnable s q sseq 0x41 = some e → e.at 8 0 20 = k
    → e.at 8 20 1 = 0 → keyLoadInvalid s q e = false → mirrors s = false → ∃ t, exec (.keyLoad q sseq) s = .next t ∧
    slotImage t k = loadedSlot s e % 2 ^ 1024 ∧ slotUsed (slotImage t k) = 0 ∧ (entryOf t q sseq).map Entry.mark =
    some (s.cip.started + 1) ∧ (entryOf t q sseq).bind Entry.outcome = none ∧ Map.get t.cip.gens k = Map.get
    s.cip.gens k + 1 ∧ t.mem = s.mem ∧ t.hostMem = s.hostMem ∧ t.links = s.links) ∧
  (∀ (s : State) (q sseq : Nat) (e : Entry), stopped s = false → entryOf s q sseq = some e → e.op = 0x41 → e.mark ≠ 0
    → boundEarlier s (e.at 8 0 20) (e.mark - 1) = false → e.outcome = none → e.decided = none → ∃ t, exec
    (.keyLoadDrained q sseq) s = .next t ∧ (entryOf t q sseq).bind Entry.outcome = some { status := stOk } ∧ t.regs =
    s.regs ∧ t.cip = s.cip ∧ t.mem = s.mem ∧ t.hostMem = s.hostMem ∧ t.links = s.links) ∧
  (∀ (s : State) (q sseq : Nat) (e : Entry) (text aad : Bytes), stopped s = false → beginnable s q sseq 0x40 = some e
    → e.at 8 20 4 = 0 → jobKeyInvalid s e = false → e.at 8 27 1 = 0 → fnLive s (queueFn s q) = true → ∃ t, exec
    (.encryptJob q sseq true text aad) s = .next t ∧ t.cip.jobs = s.cip.jobs ++
    [⟨q, sseq, fitBytes (e.at 0xC 0 32) text, fitBytes (e.at 0x28 0 16) aad, []⟩] ∧ (entryOf t q sseq).map Entry.begun
    = some true ∧ (entryOf t q sseq).bind Entry.outcome = none ∧ t.regs = s.regs ∧ t.mem = s.mem ∧ t.hostMem =
    s.hostMem ∧ t.links = s.links) ∧
  (∀ (s : State) (q sseq : Nat) (e : Entry) (text aad tag : Bytes), stopped s = false → beginnable s q sseq 0x40 =
    some e → e.at 8 20 4 = 1 → jobKeyInvalid s e = false → e.at 8 27 1 = 0 → fnLive s (queueFn s q) = true → ∃ t, exec
    (.decryptJob q sseq true text aad tag) s = .next t ∧ t.cip.jobs = s.cip.jobs ++
    [⟨q, sseq, fitBytes (e.at 0xC 0 32) text, fitBytes (e.at 0x28 0 16) aad, tag⟩] ∧ (entryOf t q sseq).map
    Entry.begun = some true ∧ (entryOf t q sseq).bind Entry.outcome = none ∧ t.regs = s.regs ∧ t.mem = s.mem ∧
    t.hostMem = s.hostMem ∧ t.links = s.links) ∧
  (∀ (s : State) (q sseq : Nat) (e : Entry) (text : Bytes), stopped s = false → beginnable s q sseq 0x40 = some e →
    e.at 8 20 4 = 2 → jobKeyInvalid s e = false → e.at 8 27 1 = 0 → fnLive s (queueFn s q) = true → ∃ t, exec
    (.hashJob q sseq true text) s = .next t ∧ t.cip.jobs = s.cip.jobs ++
    [⟨q, sseq, fitBytes (e.at 0xC 0 32) text, fitBytes (e.at 0x28 0 16) [], []⟩] ∧ (entryOf t q sseq).map Entry.begun
    = some true ∧ (entryOf t q sseq).bind Entry.outcome = none ∧ t.regs = s.regs ∧ t.mem = s.mem ∧ t.hostMem =
    s.hostMem ∧ t.links = s.links) ∧
  (∀ (s : State) (q sseq : Nat) (e : Entry) (text : Bytes), stopped s = false → beginnable s q sseq 0x40 = some e →
    e.at 8 20 4 = 3 → jobKeyInvalid s e = false → e.at 8 27 1 = 0 → fnLive s (queueFn s q) = true → ∃ t, exec (.macJob
    q sseq true text) s = .next t ∧ t.cip.jobs = s.cip.jobs ++
    [⟨q, sseq, fitBytes (e.at 0xC 0 32) text, fitBytes (e.at 0x28 0 16) [], []⟩] ∧ (entryOf t q sseq).map Entry.begun
    = some true ∧ (entryOf t q sseq).bind Entry.outcome = none ∧ t.regs = s.regs ∧ t.mem = s.mem ∧ t.hostMem =
    s.hostMem ∧ t.links = s.links) ∧
  (∀ (s : State) (q sseq : Nat) (e : Entry) (text mac : Bytes), stopped s = false → beginnable s q sseq 0x40 = some e
    → e.at 8 20 4 = 4 → jobKeyInvalid s e = false → e.at 8 27 1 = 0 → fnLive s (queueFn s q) = true → ∃ t, exec
    (.macVerifyJob q sseq true text mac) s = .next t ∧ t.cip.jobs = s.cip.jobs ++
    [⟨q, sseq, fitBytes (e.at 0xC 0 32) text, fitBytes (e.at 0x28 0 16) [], mac⟩] ∧ (entryOf t q sseq).map Entry.begun
    = some true ∧ (entryOf t q sseq).bind Entry.outcome = none ∧ t.regs = s.regs ∧ t.mem = s.mem ∧ t.hostMem =
    s.hostMem ∧ t.links = s.links) ∧
  (∀ (s : State) (q sseq : Nat) (e : Entry) (ok : Bool) (text aad : Bytes), stopped s = false → beginnable s q sseq
    0x40 = some e → e.at 8 20 4 = 0 → jobKeyInvalid s e = true → ∃ t, exec (.encryptJob q sseq ok text aad) s = .next
    t ∧ (entryOf t q sseq).bind Entry.outcome = some { status := stKeyInvalid, bytes := e.moved } ∧ t.cip = s.cip ∧
    t.regs = s.regs ∧ t.mem = s.mem ∧ t.hostMem = s.hostMem ∧ t.links = s.links) ∧
  (∀ (s : State) (j : CipJob) (e : Entry), stopped s = false → enabled s .cip = true → s.cip.jobs = [j] → s.cip.xts =
    [] → entryOf s j.queue j.sseq = some e → e.at 8 20 4 = 2 → jobClass s j.queue e = 4 → eligible s (queueAccount s
    j.queue) = true → atCipher s 0 = [] → atCipher s 1 = [] → coreUnit s 0 = none → domainState s 72 = .on → ∃ t, exec
    (.cipherDispatch) s = .next t ∧ t.cip.jobs = [] ∧ t.cip.started = s.cip.started + 1 ∧ ((List.range 24).any fun c
    => decide ((coreUnit t c).map CoreUnit.work = some (.job j.queue j.sseq))) = true ∧ t.mem = s.mem ∧ t.hostMem =
    s.hostMem) ∧
  (∀ (s : State) (c q sseq : Nat) (u : CoreUnit) (e : Entry), stopped s = false → coreUnit s c = some u → u.work =
    .job q sseq → u.slot = none → entryOf s q sseq = some e → e.outcome = none → e.decided = none → e.at 8 20 4 = 2 →
    e.at 8 27 1 = 0 → fnLive s (queueFn s q) = true → jobOverlaps e u (digestBytes (e.at 8 28 2)) = false →
    s.cip.suspended = [] → ∃ t, exec (.cipherUnitDone c true true) s = .next t ∧ (entryOf t q sseq).bind Entry.outcome
    = some { status := stOk, bytes := e.at 0xC 0 32 } ∧ loadBytes t.hostMem (hostKey (queueFn s q) (e.at 0x18 0 64))
    (digestBytes (e.at 8 28 2)) = digest (e.at 8 28 2) u.text ∧ coreUnit t c = none ∧ t.rd CIP_CNT.count 0 = (s.rd
    CIP_CNT.count 0 + 1) % 2 ^ 64 ∧ t.mem = s.mem) ∧
  (∀ (s : State) (who : Initiator) (k : Nat), stopped s = false → writable who CIP_KCMD.go 0 s = true → s.rd
    CIP_KCMD.slot = k → slotUsable s k = true → exec (.keySlotRead who) s = .next (((((s.wr CIP_KCMD.action 0).wr
    CIP_KCMD.busy 0).wr CIP_KCMD.result 0).wr CIP_KCMD_REC.image (slotImage s k % 2 ^ 512)))) ∧
  (∀ (s : State) (who : Initiator) (k : Nat), stopped s = false → writable who CIP_KCMD.go 0 s = true → s.rd
    CIP_KCMD.slot = k → slotUsable s k = true → s.rd CIP_KCMD.limit < slotLimit (slotImage s k) → ∃ t, exec (.keyLower
    who) s = .next t ∧ slotLimit (slotImage t k) = s.rd CIP_KCMD.limit ∧ slotUsed (slotImage t k) = slotUsed
    (slotImage s k) ∧ slotMode (slotImage t k) = slotMode (slotImage s k) ∧ slotKey (slotImage t k) = slotKey
    (slotImage s k) ∧ t.rd CIP_KCMD.result = 0 ∧ t.mem = s.mem ∧ t.hostMem = s.hostMem ∧ t.links = s.links) ∧
  (∀ (s : State) (who : Initiator) (b v : Nat), stopped s = false → b < 1024 → writable who CIP_KEY_BLOCK.pf b s =
    true → blockInUse s b = false → exec (.keyBlockWrite who b v) s = .next ((((s.wr CIP_KEY_BLOCK.pf (bitsAt v 0 3)
    b).wr CIP_KEY_BLOCK.is_vf (bitsAt v 3 1) b).wr CIP_KEY_BLOCK.vf (bitsAt v 4 12) b).wr CIP_KEY_BLOCK.valid (bitsAt
    v 16 1) b)) ∧
  (∀ (s : State) (who : Initiator), stopped s = false → reaches who Blk.cip.base = true → s.cip.keyq = [] → ∃ t, exec
    (.cipKeyqRead who) s = .next t ∧ t.rdata = s.rd CIP_KEYQ.slot + (s.rd CIP_KEYQ.event) <<< 20 + (s.rd
    CIP_KEYQ.entry_valid) <<< 22 + (s.rd CIP_KEYQ.lost) <<< 32 ∧ t.cip.keyq = [] ∧ t.rd CIP_KEYQ.entry_valid = 0 ∧
    t.mem = s.mem ∧ t.hostMem = s.hostMem ∧ t.links = s.links) ∧
  (∀ (s : State) (who : Initiator) (x y : Nat), stopped s = false → reaches who Blk.cip.base = true → s.cip.keyq = [x,
    y] → ∃ t, exec (.cipKeyqRead who) s = .next t ∧ t.cip.keyq = [y] ∧ t.rd CIP_KEYQ.slot = bitsAt y 0 20 ∧ t.rd
    CIP_KEYQ.event = bitsAt y 20 2 ∧ t.rd CIP_KEYQ.entry_valid = 1 ∧ t.rd CIP_KEYQ.lost = s.rd CIP_KEYQ.lost ∧ t.mem =
    s.mem ∧ t.hostMem = s.hostMem ∧ t.links = s.links) ∧
  (∀ (s : State) (q sseq : Nat) (e : Entry) (ok : Bool) (text aad : Bytes), stopped s = false → beginnable s q sseq
    0x40 = some e → e.at 8 20 4 = 0 → jobKeyInvalid s e = true → exec (.encryptJob q sseq ok text aad) s = .next
    (finishWith (begin_ s q sseq) q sseq stKeyInvalid)) ∧
  (∀ (s : State) (q sseq : Nat) (e : Entry) (ok : Bool) (text aad tag : Bytes), stopped s = false → beginnable s q
    sseq 0x40 = some e → e.at 8 20 4 = 1 → jobKeyInvalid s e = true → exec (.decryptJob q sseq ok text aad tag) s =
    .next (finishWith (begin_ s q sseq) q sseq stKeyInvalid)) ∧
  (∀ (s : State) (q sseq : Nat) (e : Entry) (ok : Bool) (text : Bytes), stopped s = false → beginnable s q sseq 0x40 =
    some e → e.at 8 20 4 = 3 → jobKeyInvalid s e = true → exec (.macJob q sseq ok text) s = .next (finishWith (begin_
    s q sseq) q sseq stKeyInvalid)) ∧
  (∀ (s : State) (q sseq : Nat) (e : Entry) (ok : Bool) (text mac : Bytes), stopped s = false → beginnable s q sseq
    0x40 = some e → e.at 8 20 4 = 4 → jobKeyInvalid s e = true → exec (.macVerifyJob q sseq ok text mac) s = .next
    (finishWith (begin_ s q sseq) q sseq stKeyInvalid)) ∧
  (∀ (s : State) (q sseq : Nat) (e : Entry) (text aad : Bytes) (ps : List (List (Nat × Nat))), stopped s = false →
    beginnable s q sseq 0x40 = some e → e.at 8 20 4 = 0 → jobKeyInvalid s e = false → fnLive s (queueFn s q) = true →
    ((jobReads s e).map fun r => translateRange s (queueFn s q) (e.at 8 27 1 = 1) r.1 r.2.1 r.2.2) = ps.map
    RangeXlat.ok → exec (.encryptJob q sseq false text aad) s = .next (finishWith (begin_ s q sseq) q sseq
    stBusError)) ∧
  (∀ (s : State) (q sseq : Nat) (e : Entry) (text aad tag : Bytes) (ps : List (List (Nat × Nat))), stopped s = false →
    beginnable s q sseq 0x40 = some e → e.at 8 20 4 = 1 → jobKeyInvalid s e = false → fnLive s (queueFn s q) = true →
    ((jobReads s e).map fun r => translateRange s (queueFn s q) (e.at 8 27 1 = 1) r.1 r.2.1 r.2.2) = ps.map
    RangeXlat.ok → exec (.decryptJob q sseq false text aad tag) s = .next (finishWith (begin_ s q sseq) q sseq
    stBusError)) ∧
  (∀ (s : State) (q sseq : Nat) (e : Entry) (text : Bytes) (ps : List (List (Nat × Nat))), stopped s = false →
    beginnable s q sseq 0x40 = some e → e.at 8 20 4 = 2 → jobKeyInvalid s e = false → fnLive s (queueFn s q) = true →
    ((jobReads s e).map fun r => translateRange s (queueFn s q) (e.at 8 27 1 = 1) r.1 r.2.1 r.2.2) = ps.map
    RangeXlat.ok → exec (.hashJob q sseq false text) s = .next (finishWith (begin_ s q sseq) q sseq stBusError)) ∧
  (∀ (s : State) (q sseq : Nat) (e : Entry) (text : Bytes) (ps : List (List (Nat × Nat))), stopped s = false →
    beginnable s q sseq 0x40 = some e → e.at 8 20 4 = 3 → jobKeyInvalid s e = false → fnLive s (queueFn s q) = true →
    ((jobReads s e).map fun r => translateRange s (queueFn s q) (e.at 8 27 1 = 1) r.1 r.2.1 r.2.2) = ps.map
    RangeXlat.ok → exec (.macJob q sseq false text) s = .next (finishWith (begin_ s q sseq) q sseq stBusError)) ∧
  (∀ (s : State) (q sseq : Nat) (e : Entry) (text mac : Bytes) (ps : List (List (Nat × Nat))), stopped s = false →
    beginnable s q sseq 0x40 = some e → e.at 8 20 4 = 4 → jobKeyInvalid s e = false → fnLive s (queueFn s q) = true →
    ((jobReads s e).map fun r => translateRange s (queueFn s q) (e.at 8 27 1 = 1) r.1 r.2.1 r.2.2) = ps.map
    RangeXlat.ok → exec (.macVerifyJob q sseq false text mac) s = .next (finishWith (begin_ s q sseq) q sseq
    stBusError)) ∧
  (∀ (s : State) (q sseq : Nat) (e : Entry) (text aad : Bytes) (ps : List (List (Nat × Nat))), stopped s = false →
    beginnable s q sseq 0x40 = some e → e.at 8 20 4 = 0 → jobKeyInvalid s e = false → fnLive s (queueFn s q) = true →
    ((jobReads s e).map fun r => translateRange s (queueFn s q) (e.at 8 27 1 = 1) r.1 r.2.1 r.2.2) = ps.map
    RangeXlat.ok → exec (.encryptJob q sseq true text aad) s = .next
    (let t := chargeRead (begin_ s q sseq) q ((jobReads s e).foldl (fun n r => n + r.2.1) 0); { t with cip := { t.cip with jobs := t.cip.jobs ++ [⟨q, sseq, fitBytes (e.at 0xC 0 32) text, fitBytes (e.at 0x28 0 16) aad, []⟩] } })) ∧
  (∀ (s : State) (q sseq : Nat) (e : Entry) (text aad tag : Bytes) (ps : List (List (Nat × Nat))), stopped s = false →
    beginnable s q sseq 0x40 = some e → e.at 8 20 4 = 1 → jobKeyInvalid s e = false → fnLive s (queueFn s q) = true →
    ((jobReads s e).map fun r => translateRange s (queueFn s q) (e.at 8 27 1 = 1) r.1 r.2.1 r.2.2) = ps.map
    RangeXlat.ok → exec (.decryptJob q sseq true text aad tag) s = .next
    (let t := chargeRead (begin_ s q sseq) q ((jobReads s e).foldl (fun n r => n + r.2.1) 0); { t with cip := { t.cip with jobs := t.cip.jobs ++ [⟨q, sseq, fitBytes (e.at 0xC 0 32) text, fitBytes (e.at 0x28 0 16) aad, tag⟩] } })) ∧
  (∀ (s : State) (q sseq : Nat) (e : Entry) (text : Bytes) (ps : List (List (Nat × Nat))), stopped s = false →
    beginnable s q sseq 0x40 = some e → e.at 8 20 4 = 2 → jobKeyInvalid s e = false → fnLive s (queueFn s q) = true →
    ((jobReads s e).map fun r => translateRange s (queueFn s q) (e.at 8 27 1 = 1) r.1 r.2.1 r.2.2) = ps.map
    RangeXlat.ok → exec (.hashJob q sseq true text) s = .next
    (let t := chargeRead (begin_ s q sseq) q ((jobReads s e).foldl (fun n r => n + r.2.1) 0); { t with cip := { t.cip with jobs := t.cip.jobs ++ [⟨q, sseq, fitBytes (e.at 0xC 0 32) text, fitBytes (e.at 0x28 0 16) [], []⟩] } })) ∧
  (∀ (s : State) (q sseq : Nat) (e : Entry) (text : Bytes) (ps : List (List (Nat × Nat))), stopped s = false →
    beginnable s q sseq 0x40 = some e → e.at 8 20 4 = 3 → jobKeyInvalid s e = false → fnLive s (queueFn s q) = true →
    ((jobReads s e).map fun r => translateRange s (queueFn s q) (e.at 8 27 1 = 1) r.1 r.2.1 r.2.2) = ps.map
    RangeXlat.ok → exec (.macJob q sseq true text) s = .next
    (let t := chargeRead (begin_ s q sseq) q ((jobReads s e).foldl (fun n r => n + r.2.1) 0); { t with cip := { t.cip with jobs := t.cip.jobs ++ [⟨q, sseq, fitBytes (e.at 0xC 0 32) text, fitBytes (e.at 0x28 0 16) [], []⟩] } })) ∧
  (∀ (s : State) (q sseq : Nat) (e : Entry) (text mac : Bytes) (ps : List (List (Nat × Nat))), stopped s = false →
    beginnable s q sseq 0x40 = some e → e.at 8 20 4 = 4 → jobKeyInvalid s e = false → fnLive s (queueFn s q) = true →
    ((jobReads s e).map fun r => translateRange s (queueFn s q) (e.at 8 27 1 = 1) r.1 r.2.1 r.2.2) = ps.map
    RangeXlat.ok → exec (.macVerifyJob q sseq true text mac) s = .next
    (let t := chargeRead (begin_ s q sseq) q ((jobReads s e).foldl (fun n r => n + r.2.1) 0); { t with cip := { t.cip with jobs := t.cip.jobs ++ [⟨q, sseq, fitBytes (e.at 0xC 0 32) text, fitBytes (e.at 0x28 0 16) [], mac⟩] } })) ∧
  (∀ (s : State) (q sseq : Nat) (e : Entry) (u : State), stopped s = false → beginnable s q sseq 0x41 = some e →
    keyLoadInvalid (begin_ s q sseq) q e = false → u = writeKey (begin_ s q sseq) (e.at 8 0 20) (if e.at 8 20 1 = 1
    then 0 else loadedSlot (begin_ s q sseq) e) (queueAccount (begin_ s q sseq) q) → exec (.keyLoad q sseq) s = .next
    (updEntry u q sseq fun e => { e with mark := u.cip.started + 1 })) ∧
  (∀ (s : State) (q sseq : Nat) (e : Entry), stopped s = false → beginnable s q sseq 0x41 = some e → keyLoadInvalid
    (begin_ s q sseq) q e = true → exec (.keyLoad q sseq) s = .next (finishWith (begin_ s q sseq) q sseq stInvalid)) ∧
  (∀ (s : State) (q sseq : Nat) (e : Entry), stopped s = false → entryOf s q sseq = some e → e.op = 0x41 → e.mark ≠ 0
    → boundEarlier s (e.at 8 0 20) (e.mark - 1) = false → exec (.keyLoadDrained q sseq) s = .next (finish (updEntry s
    q sseq fun e => { e with mark := 0 }) q sseq { status := stOk })) ∧
  (∀ (s t : State), stopped s = false → enabled s .cip = true → t = wakeAhead 24 s → jobsOfClass t 7 ≠ [] → exec
    (.cipherDispatch) s = .next (dispatchFrom t [7])) ∧
  (∀ (s t : State), stopped s = false → enabled s .cip = true → t = wakeAhead 24 s → jobsOfClass t 7 = [] → (atCipher
    t 0 ≠ [] ∨ atCipher t 1 ≠ []) → exec (.cipherDispatch) s = .next (t)) ∧
  (∀ (s t : State) (x : XtsWork) (r : List XtsWork), stopped s = false → enabled s .cip = true → t = wakeAhead 24 s →
    jobsOfClass t 7 = [] → atCipher t 0 = [] → atCipher t 1 = [] → t.cip.xts = x :: r → exec (.cipherDispatch) s =
    .next (dispatchXts t x)) ∧
  (∀ (s t : State), stopped s = false → enabled s .cip = true → t = wakeAhead 24 s → jobsOfClass t 7 = [] → atCipher t
    0 = [] → atCipher t 1 = [] → t.cip.xts = [] → exec (.cipherDispatch) s = .next (dispatchFrom t [4, 3, 2, 1, 0])) ∧
  (∀ (s s1 u : State) (c k : Nat) (j : CipJob) (e : Entry), coreFor s (jobClass s j.queue e) = some (c, s1) → e.at 8 0
    20 = k → e.at 8 20 4 ≠ 2 → jobKeyInvalid s e = false → takeCount s1 k = .taken u → dispatchJob s (jobClass s
    j.queue e) j e = placeUnit (dropJob (readSlot u c k (queueAccount s1 j.queue)) j) c j.queue
    ⟨.job j.queue j.sseq, some k, Map.get u.cip.gens k, slotImage u k, j.text, j.aad, j.check, decide (e.at 8 20 4 = 0), e.at 0x30 0 128, jobClass s j.queue e, u.cip.started, queueAccount s1 j.queue⟩) ∧
  (∀ (s s1 u : State) (c k : Nat) (j : CipJob) (e : Entry), coreFor s (jobClass s j.queue e) = some (c, s1) → e.at 8 0
    20 = k → e.at 8 20 4 ≠ 2 → jobKeyInvalid s e = false → takeCount s1 k = .refused u → dispatchJob s (jobClass s
    j.queue e) j e = finishWith (dropJob u j) j.queue j.sseq stKeyExhausted) ∧
  (∀ (s : State) (c q sseq : Nat) (u : CoreUnit) (e : Entry), stopped s = false → coreUnit s c = some u → u.work =
    .job q sseq → entryOf s q sseq = some e → e.outcome = none → e.decided = none → exec (.cipherUnitDone c false
    true) s = .next (sourceFailed ((releaseCore (chargeUnit (s) c u) c).count CIP_CNT.count 1 0) q sseq)) ∧
  (∀ (s : State) (c q sseq : Nat) (u : CoreUnit) (e : Entry), stopped s = false → coreUnit s c = some u → u.work =
    .job q sseq → entryOf s q sseq = some e → e.outcome = none → e.decided = none → ((entryOf (endJob s q sseq e u
    true) q sseq).all fun y => y.outcome.isSome) = true → exec (.cipherUnitDone c true true) s = .next (((releaseCore
    (chargeUnit (endJob s q sseq e u true) c u) c).count CIP_CNT.count 1 0))) ∧
  (∀ (s : State) (c q sseq : Nat) (u : CoreUnit) (e : Entry), stopped s = false → coreUnit s c = some u → u.work =
    .job q sseq → entryOf s q sseq = some e → e.outcome = none → e.decided = none → ((entryOf (endJob s q sseq e u
    false) q sseq).all fun y => y.outcome.isSome) = true → exec (.cipherUnitDone c true false) s = .next
    (((releaseCore (chargeUnit (endJob s q sseq e u false) c u) c).count CIP_CNT.count 1 0))) ∧
  (∀ (s : State) (c q sseq i : Nat) (u : CoreUnit) (t : State), stopped s = false → coreUnit s c = some u → u.work =
    .xts q sseq i → t = (releaseCore (chargeUnit s c u) c).count CIP_CNT.count 1 3 → exec (.cipherUnitDone c true
    true) s = .next (endXts t u q sseq i)) ∧
  (∀ (s : State) (c q sseq i : Nat) (u : CoreUnit) (t : State), stopped s = false → coreUnit s c = some u → u.work =
    .xts q sseq i → t = (releaseCore (chargeUnit s c u) c).count CIP_CNT.count 1 3 → u.enc = true → exec
    (.cipherUnitDone c false true) s = .next (sourceFailed (dropXts t q sseq) q sseq)) ∧
  (∀ (s : State) (c q sseq i : Nat) (u : CoreUnit) (t : State), stopped s = false → coreUnit s c = some u → u.work =
    .xts q sseq i → t = (releaseCore (chargeUnit s c u) c).count CIP_CNT.count 1 3 → u.enc = false → exec
    (.cipherUnitDone c false true) s = .next (finishWith (dropXts t q sseq) q sseq stDetectedFault 2)) ∧
  (∀ (s : State) (who : Initiator) (k : Nat), stopped s = false → writable who CIP_KCMD.go 0 s = true → s.rd
    CIP_KCMD.slot = k → slotUsable s k = true → s.rd CIP_KCMD.limit < slotLimit (slotImage s k) → exec (.keyLower who)
    s = .next (deltaSlot (endKcmd (putSlot s k 64 32 (s.rd CIP_KCMD.limit)) 1 0) k)) ∧
  (∀ (s : State) (who : Initiator), stopped s = false → writable who CIP_KCMD.go 0 s = true → slotUsable s (s.rd
    CIP_KCMD.slot) = true → slotLimit (slotImage s (s.rd CIP_KCMD.slot)) ≤ s.rd CIP_KCMD.limit → exec (.keyLower who)
    s = .next (endKcmd s 1 2)) ∧
  (∀ (s : State) (who : Initiator), stopped s = false → writable who CIP_KCMD.go 0 s = true → slotUsable s (s.rd
    CIP_KCMD.slot) = false → exec (.keyLower who) s = .next (endKcmd s 1 1)) ∧
  (∀ (s : State) (who : Initiator), stopped s = false → reaches who Blk.cip.base = true → exec (.cipKeyqRead who) s =
    .next
    ({ syncKeyq { s with cip := { s.cip with keyq := s.cip.keyq.tail } } with rdata := s.rd CIP_KEYQ.slot + (s.rd CIP_KEYQ.event) <<< 20 + (s.rd CIP_KEYQ.entry_valid) <<< 22 + (s.rd CIP_KEYQ.lost) <<< 32 })) ∧
  (∀ (s : State) (c q sseq : Nat) (u : CoreUnit) (a b : Bool), stopped s = false → coreUnit s c = some u → u.work =
    .job q sseq → entryOf s q sseq = none → exec (.cipherUnitDone c a b) s = .next (((releaseCore (chargeUnit (s) c u)
    c).count CIP_CNT.count 1 0))) ∧
  (∀ (s : State) (c q sseq : Nat) (u : CoreUnit) (a b : Bool), stopped s = false → coreUnit s c = some u → u.work =
    .job q sseq → (entryOf s q sseq).any (fun e => e.outcome.isSome || e.decided.isSome) = true → exec
    (.cipherUnitDone c a b) s = .next (((releaseCore (chargeUnit (s) c u) c).count CIP_CNT.count 1 0))) ∧
  (∀ (s : State) (q sseq : Nat) (e : Entry) (u : CoreUnit) (ps : List (Nat × Nat)), fnLive s (queueFn s q) = true →
    translateRange s (queueFn s q) (e.at 8 27 1 = 1) (e.at 0x18 0 64) (jobResult e u).1.length true = .ok ps →
    (jobResult e u).2 = true → jobOverlaps e u (jobResult e u).1.length = false → endJob s q sseq e u true = finish
    (entryWrite s q sseq ps (jobResult e u).1) q sseq
    { status := stOk, bytes := e.at 0xC 0 32, extra := (u.slot.map fun _ => slotLimit u.image - slotUsed u.image).getD 0 }) ∧
  (∀ (s : State) (q sseq : Nat) (e : Entry) (u : CoreUnit) (ps : List (Nat × Nat)), fnLive s (queueFn s q) = true →
    translateRange s (queueFn s q) (e.at 8 27 1 = 1) (e.at 0x18 0 64) (jobResult e u).1.length true = .ok ps →
    (jobResult e u).2 = false → endJob s q sseq e u true = finish (entryWrite s q sseq ps (jobResult e u).1) q sseq
    { status := stAuthFail })

/-- The first entry waiting for a channel is assigned to the pool channel chosen, and begins. A DMA_COPY between host
  addresses starts its move; a DMA_RUN_CHAIN in internal space starts the fetch of its first block (slot 7). A fetched
  block that the channel owns runs from slot 0; one it does not own makes the channel wait, and a poll that is due
  reads it again. END, a bad instruction and RELEASE write the block back (own 0, result, slot, retries, bytes, TT64)
  and return the channel to IDLE; LINK writes it back and fetches the next block. Blocks here are in internal space,
  and every move is visible. -/
def Obligations.ChainBlocksAndAssignment : Prop :=
  (∀ (s : State) (q sseq c : Nat) (e : Entry), stopped s = false → enabled s .dma = true → s.dma.waitCmd = none →
    s.dma.dispatch = [(q, sseq)] → entryOf s q sseq = some e → e.outcome = none → e.decided = none → poolChannel s =
    some c → mayBegin s e = true → eligible s (queueAccount s q) = true → ∃ t, exec (.dmaAssign) s = .next t ∧ chan t
    c = { owner := some (q, sseq) } ∧ chState t c = chRunning ∧ t.rd DMA_CHAN.bytes c = 0 ∧ t.rd DMA_CHAN.retries c =
    0 ∧ t.dma.dispatch = [] ∧ (entryOf t q sseq).map Entry.begun = some true ∧ t.mem = s.mem ∧ t.hostMem = s.hostMem ∧
    t.links = s.links) ∧
  (∀ (s : State) (q sseq c : Nat) (e : Entry), stopped s = false → chanOf s q sseq = some c → entryOf s q sseq = some
    e → e.op = 0x50 → (chan s c).started = false → chanReady s c = true → e.at 0x1C 0 2 = 0 → e.at 0x18 0 30 ≠ 0 → ∃
    t, exec (.dmaCopy q sseq) s = .next t ∧ (chan t c).move = some
    { src := e.at 8 0 64, dst := e.at 0x10 0 64, len := e.at 0x18 0 30, srcInt := false, dstInt := false, srcAts := decide (e.at 0x1C 2 1 = 1), dstAts := decide (e.at 0x1C 3 1 = 1), verify := decide (e.at 0x1C 4 1 = 1) }
    ∧ (chan t c).copy = true ∧ (chan t c).started = true ∧ t.rd DMA_CHAN.slot c = 0 ∧ t.queues = s.queues ∧ t.mem =
    s.mem ∧ t.hostMem = s.hostMem ∧ t.links = s.links) ∧
  (∀ (s : State) (q sseq c : Nat) (e : Entry), stopped s = false → chanOf s q sseq = some c → entryOf s q sseq = some
    e → e.op = 0x51 → (chan s c).started = false → chanReady s c = true → e.at 0x10 0 1 = 1 → ∃ t, exec (.dmaRunChain
    q sseq) s = .next t ∧ (chan t c).fetching = true ∧ (chan t c).started = true ∧ (chan t c).space = true ∧ (chan t
    c).block = none ∧ t.rd DMA_CHAN.block c = e.at 8 0 64 ∧ t.rd DMA_CHAN.slot c = 7 ∧ chState t c = chRunning ∧ t.mem
    = s.mem ∧ t.hostMem = s.hostMem ∧ t.links = s.links) ∧
  (∀ (s : State) (c : Nat) (ok : Bool) (data : Bytes), stopped s = false → c < 256 → (chan s c).fetching = true →
    (chan s c).ending = none → (chan s c).space = true → rangeExists s (s.rd DMA_CHAN.block c) 128 = true →
    internalAllowed s c = true → memBad s (s.rd DMA_CHAN.block c) 128 = false → placed s (s.rd DMA_CHAN.block c) 128 =
    false → (ofLe (memLoad s (s.rd DMA_CHAN.block c) 128)).testBit 0 = true → ∃ t, exec (.chainBlockFetchDone c ok
    data) s = .next t ∧ (chan t c).block = some (ofLe (memLoad s (s.rd DMA_CHAN.block c) 128)) ∧ (chan t c).fetching =
    false ∧ (chan t c).wait = .none ∧ chState t c = chRunning ∧ t.rd DMA_CHAN.slot c = 0 ∧ t.rd DMA_CHAN.loop_i c = 0
    ∧ t.rd DMA_CHAN.retries c = 0 ∧ t.mem = s.mem ∧ t.hostMem = s.hostMem ∧ t.links = s.links) ∧
  (∀ (s : State) (c : Nat) (ok : Bool) (data : Bytes), stopped s = false → c < 256 → (chan s c).fetching = true →
    (chan s c).ending = none → (chan s c).space = true → rangeExists s (s.rd DMA_CHAN.block c) 128 = true →
    internalAllowed s c = true → memBad s (s.rd DMA_CHAN.block c) 128 = false → placed s (s.rd DMA_CHAN.block c) 128 =
    false → (ofLe (memLoad s (s.rd DMA_CHAN.block c) 128)).testBit 0 = false → ∃ t, exec (.chainBlockFetchDone c ok
    data) s = .next t ∧ (chan t c).block = (chan s c).block ∧ (chan t c).fetching = false ∧ (chan t c).wait = .link
    (now s) ∧ chState t c = chWaiting ∧ t.mem = s.mem ∧ t.hostMem = s.hostMem ∧ t.links = s.links) ∧
  (∀ (s : State) (c tt : Nat), stopped s = false → enabled s .dma = true → (chan s c).wait = .link tt → tt + max 100
    (s.rd DMA_CFG.poll_ns) ≤ now s → (chan s c).fetching = false → (chan s c).space = true → ∃ t, exec (.linkPoll c) s
    = .next t ∧ chan t c = { chan s c with fetching := true, wait := .link (now s) } ∧ t.rd DMA_CNT.count 6 = (s.rd
    DMA_CNT.count 6 + 1) % 2 ^ 64 ∧ t.queues = s.queues ∧ t.mem = s.mem ∧ t.hostMem = s.hostMem ∧ t.links = s.links) ∧
  (∀ (s : State) (c k x : Nat), stopped s = false → instrOf s c 0 = some (k, x) → movesVisible s c = true → (chan s
    c).space = true → placed s (s.rd DMA_CHAN.block c) 4 = false → placed s (s.rd DMA_CHAN.block c + 4) 12 = false → ∃
    t, exec (.endChain c) s = .next t ∧ chState t c = chIdle ∧ t.rd DMA_CHAN.result c = 0 ∧ chan t c = {} ∧ memLoad t
    (s.rd DMA_CHAN.block c) 16 = leBytes 4 (0 <<< 8 + k <<< 16 + (min 7 (chan s c).blkRetries) <<< 19) ++ leBytes 4
    (min (2 ^ 32 - 1) (chan s c).blkBytes) ++ leBytes 8 (now s) ∧ t.rd DMA_CNT.count 7 = (s.rd DMA_CNT.count 7 + 1) %
    2 ^ 64 ∧ t.hostMem = s.hostMem) ∧
  (∀ (s : State) (c b k x : Nat), stopped s = false → chanInstr s c = some (b, k, x) → badInstr b k = true →
    movesVisible s c = true → (chan s c).space = true → placed s (s.rd DMA_CHAN.block c) 4 = false → placed s (s.rd
    DMA_CHAN.block c + 4) 12 = false → ∃ t, exec (.badInstr c) s = .next t ∧ chState t c = chIdle ∧ t.rd
    DMA_CHAN.result c = 2 ∧ chan t c = {} ∧ memLoad t (s.rd DMA_CHAN.block c) 16 = leBytes 4 (2 <<< 8 + k <<< 16 +
    (min 7 (chan s c).blkRetries) <<< 19) ++ leBytes 4 (min (2 ^ 32 - 1) (chan s c).blkBytes) ++ leBytes 8 (now s) ∧
    t.rd DMA_CNT.count 7 = (s.rd DMA_CNT.count 7 + 1) % 2 ^ 64 ∧ t.hostMem = s.hostMem) ∧
  (∀ (s : State) (c k x : Nat), stopped s = false → instrOf s c 6 = some (k, x) → movesVisible s c = true → (chan s
    c).space = true → placed s (s.rd DMA_CHAN.block c) 4 = false → placed s (s.rd DMA_CHAN.block c + 4) 12 = false →
    bitAt x 7 = true → internalAllowed s c = true → rangeExists s (bitsAt x 64 64) 128 = true → ∃ t, exec (.chainLink
    c) s = .next t ∧ (chan t c).fetching = true ∧ (chan t c).block = none ∧ (chan t c).space = true ∧ t.rd
    DMA_CHAN.block c = bitsAt x 64 64 ∧ t.rd DMA_CHAN.slot c = 7 ∧ chState t c = chRunning ∧ memLoad t (s.rd
    DMA_CHAN.block c) 16 = leBytes 4 (0 <<< 8 + k <<< 16 + (min 7 (chan s c).blkRetries) <<< 19) ++ leBytes 4 (min (2
    ^ 32 - 1) (chan s c).blkBytes) ++ leBytes 8 (now s) ∧ t.hostMem = s.hostMem) ∧
  (∀ (s : State) (who : Initiator) (c : Nat), stopped s = false → writable who DMA_CCMD.go 0 s = true → s.rd
    DMA_CCMD.busy = 0 → s.rd DMA_CCMD.channel = c → c < 256 → enabled s .dma = true → isRelayChan s c = true → chState
    s c = chIdle → refuses s (s.rd DMA_CHAN.account c) = false → eligible s (s.rd DMA_CHAN.account c) = true → s.rd
    DMA_CHAN.space c = 1 → ∃ t, exec (.chainStart who) s = .next t ∧ (chan t c).fetching = true ∧ (chan t c).started =
    true ∧ t.rd DMA_CHAN.block c = s.rd DMA_CHAN.start_addr c * 128 % 2 ^ 64 ∧ t.rd DMA_CHAN.slot c = 7 ∧ chState t c
    = chRunning ∧ t.rd DMA_CHAN.bytes c = 0 ∧ t.rd DMA_CCMD.busy = 0 ∧ t.rd DMA_CCMD.result = 0 ∧ t.mem = s.mem ∧
    t.hostMem = s.hostMem ∧ t.links = s.links) ∧
  (∀ (s : State) (who : Initiator) (c : Nat), stopped s = false → writable who DMA_CCMD.go 0 s = true → s.rd
    DMA_CCMD.busy = 0 → s.rd DMA_CCMD.channel = c → c < 256 → enabled s .dma = true → isRelayChan s c = true → chState
    s c = chHalted → s.rd DMA_CHAN.slot c ≠ 7 → exec (.chainResume who) s = .next (((((s.wr DMA_CCMD.action 1).wr
    DMA_CHAN.retries 0 c).wr DMA_CHAN.state chRunning c).wr DMA_CCMD.busy 0).wr DMA_CCMD.result 0)) ∧
  (∀ (s : State) (who : Initiator) (c : Nat), stopped s = false → writable who DMA_CCMD.go 0 s = true → s.rd
    DMA_CCMD.busy = 0 → s.rd DMA_CCMD.channel = c → c < 256 → enabled s .dma = true → isRelayChan s c = true → chState
    s c = chHalted → (chan s c).block.isSome = true → movesVisible s c = true → (chan s c).space = true → placed s
    (s.rd DMA_CHAN.block c) 4 = false → placed s (s.rd DMA_CHAN.block c + 4) 12 = false → ∃ t, exec (.chainRelease
    who) s = .next t ∧ chState t c = chIdle ∧ t.rd DMA_CHAN.result c = 1 ∧ chan t c = {} ∧ memLoad t (s.rd
    DMA_CHAN.block c) 16 = leBytes 4 (1 <<< 8 + s.rd DMA_CHAN.slot c <<< 16 + (min 7 (chan s c).blkRetries) <<< 19) ++
    leBytes 4 (min (2 ^ 32 - 1) (chan s c).blkBytes) ++ leBytes 8 (now s) ∧ t.rd DMA_CNT.count 7 = (s.rd DMA_CNT.count
    7 + 1) % 2 ^ 64 ∧ t.hostMem = s.hostMem ∧ t.rd DMA_CCMD.busy = 0 ∧ t.rd DMA_CCMD.result = 0) ∧
  (∀ (s : State) (who : Initiator) (c v : Nat), stopped s = false → writable who DMA_CHAN.mode c s = true → c < 256 →
    chState s c = chIdle → exec (.dmaChanWrite who c v) s = .next (((s.wr DMA_CHAN.mode (bitsAt v 0 2) c).wr
    DMA_CHAN.pf (bitsAt v 2 3) c).wr DMA_CHAN.account (bitsAt v 8 12) c)) ∧
  (∀ (s : State) (who : Initiator) (c v : Nat), stopped s = false → writable who DMA_CHAN.mode c s = true → c < 256 →
    chState s c ≠ chIdle → (¬ (bitsAt v 0 2 = s.rd DMA_CHAN.mode c ∧ bitsAt v 2 3 = s.rd DMA_CHAN.pf c ∧ bitsAt v 8 12
    = s.rd DMA_CHAN.account c)) → exec (.dmaChanWrite who c v) s = .next (s.wr (lockedWriteField .dma) 1)) ∧
  (∀ (s : State) (who : Initiator), stopped s = false → reaches who Blk.dma.base = true → exec (.dmaHaltqRead who) s =
    .next
    ({ (s.wr DMA_HALTQ.count 0) with rdata := s.rd DMA_HALTQ.channel + (s.rd DMA_HALTQ.result) <<< 8 + (s.rd DMA_HALTQ.count) <<< 24 })) ∧
  (∀ (s t : State) (q sseq c : Nat) (e : Entry) (rest : List (Nat × Nat)), stopped s = false →
    t = (let u := resumeCcmd s; { u with dma := { u.dma with dispatch := liveDispatch u } }) → t.dma.dispatch = (q,
    sseq) :: rest → entryOf t q sseq = some e → poolChannel t = some c → enabled t .dma = true → mayBegin t e = true →
    eligible t (queueAccount t q) = true → exec (.dmaAssign) s = .next (updChan (((setChState (begin_
    { t with dma := { t.dma with dispatch := rest } } q sseq) c chRunning).wr DMA_CHAN.bytes 0 c).wr DMA_CHAN.retries
    0 c) c fun _ => { owner := some (q, sseq) })) ∧
  (∀ (s t : State), stopped s = false →
    t = (let u := resumeCcmd s; { u with dma := { u.dma with dispatch := liveDispatch u } }) → t.dma.dispatch = [] →
    exec (.dmaAssign) s = .next (t)) ∧
  (∀ (s : State) (q sseq c : Nat) (e : Entry) (m : DmaMove) (t : State), stopped s = false → assigned s q sseq 0x50 =
    some (c, e) → m =
    { src := e.at 8 0 64, dst := e.at 0x10 0 64, len := e.at 0x18 0 30, srcInt := decide (e.at 0x1C 0 1 = 1), dstInt := decide (e.at 0x1C 1 1 = 1), srcAts := decide (e.at 0x1C 2 1 = 1), dstAts := decide (e.at 0x1C 3 1 = 1), verify := decide (e.at 0x1C 4 1 = 1) }
    → t = (updChan s c fun x => { x with started := true, copy := true }).wr DMA_CHAN.slot 0 c → exec (.dmaCopy q
    sseq) s = .next (if movePerm t c m then endChannel t c 3 else if m.len = 0 then endChannel t c 0 else updChan t c
    fun x => { x with move := some m })) ∧
  (∀ (s : State) (q sseq c : Nat) (e : Entry), stopped s = false → assigned s q sseq 0x51 = some (c, e) → exec
    (.dmaRunChain q sseq) s = .next (fetchBlock (updChan s c fun x => { x with started := true }) c (e.at 8 0 64)
    (e.at 0x10 0 1 = 1) (e.at 0x10 1 1 = 1))) ∧
  (∀ (s : State) (c : Nat) (ok : Bool) (data : Bytes), stopped s = false → (chan s c).fetching = true → (chan s
    c).ending = none → (chan s c).space = true → rangeExists s (s.rd DMA_CHAN.block c) 128 = true → internalAllowed s
    c = true → memBad s (s.rd DMA_CHAN.block c) 128 = false → exec (.chainBlockFetchDone c ok data) s = .next
    (takeBlock (chargeLines (areaLoad s (s.rd DMA_CHAN.block c) 128).2 c (s.rd DMA_CHAN.block c) 128 false) c (ofLe
    (areaLoad s (s.rd DMA_CHAN.block c) 128).1))) ∧
  (∀ (s : State) (c : Nat) (data : Bytes) (ps : List (Nat × Nat)), stopped s = false → (chan s c).fetching = true →
    (chan s c).ending = none → (chan s c).space = false → fnLive s (chanFn s c) = true → translateRange s (chanFn s c)
    (chan s c).ats (s.rd DMA_CHAN.block c) 128 false = .ok ps → exec (.chainBlockFetchDone c true data) s = .next
    (takeBlock (pcieActivity (endRead s (.chainBlock c)) 128 (chanAccount (endRead s (.chainBlock c)) c)) c (ofLe
    (fitBytes 128 data)))) ∧
  (∀ (s t : State) (c : Nat) (data : Bytes) (ps : List (Nat × Nat)), stopped s = false → (chan s c).fetching = true →
    (chan s c).ending = none → (chan s c).space = false → fnLive s (chanFn s c) = true → translateRange s (chanFn s c)
    (chan s c).ats (s.rd DMA_CHAN.block c) 128 false = .ok ps → t = retryOrHalt (pcieActivity (endRead s (.chainBlock
    c)) 128 (chanAccount (endRead s (.chainBlock c)) c)) c → (chan t c).fetching = true → exec (.chainBlockFetchDone c
    false data) s = .next (issueRead t (chanFn s c) (.chainBlock c))) ∧
  (∀ (s : State) (c tt : Nat) (t : State), stopped s = false → enabled s .dma = true → (chan s c).wait = .link tt → tt
    + max 100 (s.rd DMA_CFG.poll_ns) ≤ now s → (chan s c).fetching = false → t = updChan (dmaCount s 6 1) c (fun x =>
    { x with fetching := true, wait := .link (now s) }) → exec (.linkPoll c) s = .next (if (chan t c).space then t
    else issueRead t (chanFn t c) (.chainBlock c))) ∧
  (∀ (s : State) (c : Nat), stopped s = false → instrOf s c 0 ≠ none → exec (.endChain c) s = .next (endChannel s c
    0)) ∧
  (∀ (s : State) (c b k x : Nat), stopped s = false → chanInstr s c = some (b, k, x) → badInstr b k = true → exec
    (.badInstr c) s = .next (endChannel s c 2)) ∧
  (∀ (s : State) (c k x : Nat), stopped s = false → instrOf s c 6 = some (k, x) → (bitAt x 7 = false ∨ internalAllowed
    s c = true ∧ rangeExists s (bitsAt x 64 64) 128 = true) → movesVisible s c = false → exec (.chainLink c) s = .next
    (flushChan s c)) ∧
  (∀ (s : State) (c k x : Nat), stopped s = false → instrOf s c 6 = some (k, x) → bitAt x 7 = true → (internalAllowed
    s c = false ∨ rangeExists s (bitsAt x 64 64) 128 = false) → exec (.chainLink c) s = .next (endChannel s c 3)) ∧
  (∀ (s t : State) (c k x : Nat), stopped s = false → instrOf s c 6 = some (k, x) → (bitAt x 7 = false ∨
    internalAllowed s c = true ∧ rangeExists s (bitsAt x 64 64) 128 = true) → movesVisible s c = true → writeBack s c
    0 k = .done t → exec (.chainLink c) s = .next (fetchBlock t c (bitsAt x 64 64) (bitAt x 7) (bitAt x 8))) ∧
  (∀ (s t : State) (who : Initiator), stopped s = false → writable who DMA_CCMD.go 0 s = true → s.rd DMA_CCMD.busy = 0
    → enabled s .dma = true → t = s.wr DMA_CCMD.action 0 → (ccmdAct t 0 (t.rd DMA_CCMD.channel)).2 = true → exec
    (.chainStart who) s = .next ((ccmdAct t 0 (t.rd DMA_CCMD.channel)).1)) ∧
  (∀ (s t : State) (who : Initiator), stopped s = false → writable who DMA_CCMD.go 0 s = true → s.rd DMA_CCMD.busy = 0
    → enabled s .dma = true → t = s.wr DMA_CCMD.action 1 → (ccmdAct t 1 (t.rd DMA_CCMD.channel)).2 = true → exec
    (.chainResume who) s = .next ((ccmdAct t 1 (t.rd DMA_CCMD.channel)).1)) ∧
  (∀ (s t : State) (who : Initiator), stopped s = false → writable who DMA_CCMD.go 0 s = true → s.rd DMA_CCMD.busy = 0
    → enabled s .dma = true → t = s.wr DMA_CCMD.action 2 → (ccmdAct t 2 (t.rd DMA_CCMD.channel)).2 = true → exec
    (.chainRelease who) s = .next ((ccmdAct t 2 (t.rd DMA_CCMD.channel)).1)) ∧
  (∀ (s t : State) (who : Initiator), stopped s = false → writable who DMA_CCMD.go 0 s = true → s.rd DMA_CCMD.busy = 0
    → t = s.wr DMA_CCMD.action 0 → enabled s .dma = false → exec (.chainStart who) s = .next
    ({ t.wr DMA_CCMD.busy 1 with dma := { t.dma with waitCmd := some (0, t.rd DMA_CCMD.channel) } })) ∧
  (∀ (s t : State) (who : Initiator), stopped s = false → writable who DMA_CCMD.go 0 s = true → s.rd DMA_CCMD.busy = 0
    → t = s.wr DMA_CCMD.action 1 → enabled s .dma = false → exec (.chainResume who) s = .next
    ({ t.wr DMA_CCMD.busy 1 with dma := { t.dma with waitCmd := some (1, t.rd DMA_CCMD.channel) } })) ∧
  (∀ (s t : State) (who : Initiator), stopped s = false → writable who DMA_CCMD.go 0 s = true → s.rd DMA_CCMD.busy = 0
    → t = s.wr DMA_CCMD.action 2 → enabled s .dma = false → exec (.chainRelease who) s = .next
    ({ t.wr DMA_CCMD.busy 1 with dma := { t.dma with waitCmd := some (2, t.rd DMA_CCMD.channel) } })) ∧
  (∀ (s : State) (who : Initiator), stopped s = false → writable who DMA_CCMD.go 0 s = true → s.rd DMA_CCMD.busy ≠ 0 →
    exec (.chainStart who) s = .next (s.wr (lockedWriteField .dma) 1)) ∧
  (∀ (s : State) (who : Initiator), stopped s = false → writable who DMA_CCMD.go 0 s = true → s.rd DMA_CCMD.busy ≠ 0 →
    exec (.chainResume who) s = .next (s.wr (lockedWriteField .dma) 1)) ∧
  (∀ (s : State) (who : Initiator), stopped s = false → writable who DMA_CCMD.go 0 s = true → s.rd DMA_CCMD.busy ≠ 0 →
    exec (.chainRelease who) s = .next (s.wr (lockedWriteField .dma) 1))

/-- MOVE starts the move of its two slots at the addresses that the loop index gives. LOOP runs its range again until it
  has run count times, and then goes on with the index 0. A WAIT holds the channel until its time, its duration or its
  semaphore; a semaphore above 0 is lowered and does not wait; a reached time ends the WAIT. Once every earlier move
  is visible, a SIGNAL writes 4 bytes, raises a semaphore, posts a DMA event to a thread, or requests an MSI-X vector
  (which stays pending on a masked function), and HURDLE ends. The channel goes on with the next slot. -/
def Obligations.ChainInstructionsWaitsAndSignals : Prop :=
  (∀ (s : State) (c b k x : Nat) (m : DmaMove), stopped s = false → instrOf s c 1 = some (k, x) → (chan s c).block =
    some b → m =
    { src := wrapInt 64 ((bitsAt x 64 64 : Int) + (s.rd DMA_CHAN.loop_i c : Int) * signed 32 (bitsAt (slotBits b (k + 1)) 64 32)), dst := wrapInt 64 ((bitsAt (slotBits b (k + 1)) 0 64 : Int) + (s.rd DMA_CHAN.loop_i c : Int) * signed 32 (bitsAt (slotBits b (k + 1)) 96 32)), len := bitsAt x 32 25, srcInt := bitAt x 4, dstInt := bitAt x 5, srcAts := bitAt x 6, dstAts := bitAt x 7, verify := bitAt x 8 }
    → movePerm s c m = false → m.len ≠ 0 → ∃ t, exec (.chainMove c) s = .next t ∧ (chan t c).move = some m ∧ t.rd
    DMA_CHAN.retries c = 0 ∧ t.rd DMA_CHAN.slot c = k ∧ chState t c = chRunning ∧ t.queues = (noteDest s c m).queues ∧
    t.mem = s.mem ∧ t.hostMem = s.hostMem ∧ t.links = s.links) ∧
  (∀ (s : State) (c k x : Nat), stopped s = false → instrOf s c 2 = some (k, x) → s.rd DMA_CHAN.loop_i c + 1 < bitsAt
    x 32 32 → exec (.chainLoop c) s = .next ((s.wr DMA_CHAN.loop_i (s.rd DMA_CHAN.loop_i c + 1) c).wr DMA_CHAN.slot
    (bitsAt x 4 3) c)) ∧
  (∀ (s : State) (c k x : Nat), stopped s = false → instrOf s c 2 = some (k, x) → bitsAt x 32 32 ≤ s.rd
    DMA_CHAN.loop_i c + 1 → k < 6 → exec (.chainLoop c) s = .next ((s.wr DMA_CHAN.loop_i 0 c).wr DMA_CHAN.slot (k + 1)
    c)) ∧
  (∀ (s : State) (c k x : Nat), stopped s = false → instrOf s c 3 = some (k, x) → bitsAt x 4 2 = 0 → ∃ t, exec
    (.dmaWaitUntil c) s = .next t ∧ (chan t c).wait = .until (bitsAt x 64 64) ∧ chState t c = chWaiting ∧ t.rd
    DMA_CHAN.slot c = s.rd DMA_CHAN.slot c ∧ t.queues = s.queues ∧ t.mem = s.mem ∧ t.hostMem = s.hostMem ∧ t.links =
    s.links) ∧
  (∀ (s : State) (c k x : Nat), stopped s = false → instrOf s c 3 = some (k, x) → bitsAt x 4 2 = 1 → ∃ t, exec
    (.dmaWaitDuration c) s = .next t ∧ (chan t c).wait = .until (now s + bitsAt x 64 64) ∧ chState t c = chWaiting ∧
    t.rd DMA_CHAN.slot c = s.rd DMA_CHAN.slot c ∧ t.queues = s.queues ∧ t.mem = s.mem ∧ t.hostMem = s.hostMem ∧
    t.links = s.links) ∧
  (∀ (s : State) (c k x : Nat), stopped s = false → instrOf s c 3 = some (k, x) → bitsAt x 4 2 = 2 → s.rd DMA_CHAN.sem
    c = 0 → ∃ t, exec (.dmaWaitSemaphore c) s = .next t ∧ (chan t c).wait = .semaphore (if bitsAt x 64 32 = 0 then
    none else some (now s + bitsAt x 64 32)) ∧ chState t c = chWaiting ∧ t.rd DMA_CHAN.slot c = s.rd DMA_CHAN.slot c ∧
    t.queues = s.queues ∧ t.mem = s.mem ∧ t.hostMem = s.hostMem ∧ t.links = s.links) ∧
  (∀ (s : State) (c k x : Nat), stopped s = false → instrOf s c 3 = some (k, x) → bitsAt x 4 2 = 2 → s.rd DMA_CHAN.sem
    c ≠ 0 → k < 6 → exec (.dmaWaitSemaphore c) s = .next ((s.wr DMA_CHAN.sem (s.rd DMA_CHAN.sem c - 1) c).wr
    DMA_CHAN.slot (k + 1) c)) ∧
  (∀ (s : State) (c tt : Nat), stopped s = false → enabled s .dma = true → c < 256 → (chan s c).wait = .until tt → tt
    ≤ now s → dueBefore s tt = false → applicationFirst s .dma tt = false → s.rd DMA_CHAN.slot c < 6 → ∃ t, exec
    (.dmaWaitExpiry c) s = .next t ∧ (chan t c).wait = .none ∧ chState t c = chRunning ∧ t.rd DMA_CHAN.slot c = s.rd
    DMA_CHAN.slot c + 1 ∧ t.mem = s.mem ∧ t.hostMem = s.hostMem ∧ t.links = s.links) ∧
  (∀ (s : State) (c k x : Nat), stopped s = false → instrOf s c 4 = some (k, x) → bitsAt x 4 3 = 0 → bitAt x 7 = true
    → movesVisible s c = true → internalAllowed s c = true → rangeExists s (bitsAt x 64 64) 4 = true → placed s
    (bitsAt x 64 64) 4 = false → k < 6 → ∃ t, exec (.signalWrite c) s = .next t ∧ memLoad t (bitsAt x 64 64) 4 =
    leBytes 4 (bitsAt x 32 32) ∧ t.rd DMA_CHAN.slot c = k + 1 ∧ t.hostMem = s.hostMem ∧ ∀ a, (a < bitsAt x 64 64 ∨
    bitsAt x 64 64 + 4 ≤ a) → memLoad t a 1 = memLoad s a 1) ∧
  (∀ (s : State) (c k x : Nat), stopped s = false → instrOf s c 4 = some (k, x) → bitsAt x 4 3 = 1 → movesVisible s c
    = true → semAllowed s c (bitsAt x 32 16) = true → k < 6 → exec (.signalSem c) s = .next ((s.countSat DMA_CHAN.sem
    1 (bitsAt x 32 16)).wr DMA_CHAN.slot (k + 1) c)) ∧
  (∀ (s : State) (c k x : Nat), stopped s = false → instrOf s c 4 = some (k, x) → bitsAt x 4 3 = 2 → movesVisible s c
    = true → isRelayChan s c = true → threadState s (bitsAt x 32 16) = thReady → k < 6 → exec (.signalThread c) s =
    .next ((s.countSat RLY_THCTX.dma_ev 1 (bitsAt x 32 16)).wr DMA_CHAN.slot (k + 1) c)) ∧
  (∀ (s : State) (c k x : Nat), stopped s = false → instrOf s c 4 = some (k, x) → bitsAt x 4 3 = 3 → movesVisible s c
    = true → bitsAt x 32 16 < vectorCount s (chanFn s c) → pubWaits s = false → fnLive s (chanFn s c) = true → (fnSt s
    (chanFn s c)).msixEn = true → (fnSt s (chanFn s c)).fnMask = true → k < 6 → ∃ t, exec (.signalMsix c) s = .next t
    ∧ (msixEntry t (chanFn s c) (bitsAt x 32 16)).pending = true ∧ t.rd DMA_CHAN.slot c = k + 1 ∧ t.dma = s.dma ∧
    t.mem = s.mem ∧ t.hostMem = s.hostMem ∧ t.links = s.links) ∧
  (∀ (s : State) (c k x : Nat), stopped s = false → instrOf s c 5 = some (k, x) → movesVisible s c = true → k < 6 →
    exec (.dmaHurdle c) s = .next (s.wr DMA_CHAN.slot (k + 1) c)) ∧
  (∀ (s : State) (c k x : Nat) (m : DmaMove), stopped s = false → instrOf s c 1 = some (k, x) → m =
    { src := wrapInt 64 ((bitsAt x 64 64 : Int) + (s.rd DMA_CHAN.loop_i c : Int) * signed 32 (bitsAt (slotBits ((chan s c).block.getD 0) (k + 1)) 64 32)), dst := wrapInt 64 ((bitsAt (slotBits ((chan s c).block.getD 0) (k + 1)) 0 64 : Int) + (s.rd DMA_CHAN.loop_i c : Int) * signed 32 (bitsAt (slotBits ((chan s c).block.getD 0) (k + 1)) 96 32)), len := bitsAt x 32 25, srcInt := bitAt x 4, dstInt := bitAt x 5, srcAts := bitAt x 6, dstAts := bitAt x 7, verify := bitAt x 8 }
    → exec (.chainMove c) s = .next (if movePerm s c m then endChannel s c 3 else if m.len = 0 then goTo s c (k + 2)
    else updChan (noteDest (s.wr DMA_CHAN.retries 0 c) c m) c fun z => { z with move := some m })) ∧
  (∀ (s : State) (c k x : Nat), stopped s = false → instrOf s c 2 = some (k, x) → bitsAt x 32 32 ≤ s.rd
    DMA_CHAN.loop_i c + 1 → exec (.chainLoop c) s = .next (goTo (s.wr DMA_CHAN.loop_i 0 c) c (k + 1))) ∧
  (∀ (s : State) (c k x : Nat), stopped s = false → instrOf s c 3 = some (k, x) → bitsAt x 4 2 = 0 → exec
    (.dmaWaitUntil c) s = .next (beginWait s c (.until (bitsAt x 64 64)))) ∧
  (∀ (s : State) (c k x : Nat), stopped s = false → instrOf s c 3 = some (k, x) → bitsAt x 4 2 = 1 → exec
    (.dmaWaitDuration c) s = .next (beginWait s c (.until (now s + bitsAt x 64 64)))) ∧
  (∀ (s : State) (c k x : Nat), stopped s = false → instrOf s c 3 = some (k, x) → bitsAt x 4 2 = 2 → s.rd DMA_CHAN.sem
    c = 0 → exec (.dmaWaitSemaphore c) s = .next (beginWait s c (.semaphore (if bitsAt x 64 32 = 0 then none else some
    (now s + bitsAt x 64 32))))) ∧
  (∀ (s : State) (c k x : Nat), stopped s = false → instrOf s c 3 = some (k, x) → bitsAt x 4 2 = 2 → s.rd DMA_CHAN.sem
    c ≠ 0 → exec (.dmaWaitSemaphore c) s = .next (goTo (s.wr DMA_CHAN.sem (s.rd DMA_CHAN.sem c - 1) c) c (k + 1))) ∧
  (∀ (s : State) (c tt : Nat), stopped s = false → enabled s .dma = true → (chan s c).wait = .until tt → tt ≤ now s →
    dueBefore s tt = false → exec (.dmaWaitExpiry c) s = .next (endWait (applyFirst .dma tt s) c)) ∧
  (∀ (s : State) (c : Nat) (o : Option Nat), stopped s = false → enabled s .dma = true → (chan s c).wait = .semaphore
    o → s.rd DMA_CHAN.sem c ≠ 0 → exec (.dmaWaitExpiry c) s = .next (endWait (s.wr DMA_CHAN.sem (s.rd DMA_CHAN.sem c -
    1) c) c)) ∧
  (∀ (s : State) (c tt : Nat), stopped s = false → enabled s .dma = true → (chan s c).wait = .semaphore (some tt) →
    s.rd DMA_CHAN.sem c = 0 → tt ≤ now s → dueBefore s tt = false → exec (.dmaWaitExpiry c) s = .next (endChannel
    (applyFirst .dma tt s) c 5)) ∧
  (∀ (s : State) (c k x : Nat), stopped s = false → instrOf s c 4 = some (k, x) → bitsAt x 4 3 = 0 → movesVisible s c
    = false → exec (.signalWrite c) s = .next (flushChan s c)) ∧
  (∀ (s : State) (c k x : Nat), stopped s = false → instrOf s c 4 = some (k, x) → bitsAt x 4 3 = 1 → movesVisible s c
    = false → exec (.signalSem c) s = .next (flushChan s c)) ∧
  (∀ (s : State) (c k x : Nat), stopped s = false → instrOf s c 4 = some (k, x) → bitsAt x 4 3 = 2 → movesVisible s c
    = false → exec (.signalThread c) s = .next (flushChan s c)) ∧
  (∀ (s : State) (c k x : Nat), stopped s = false → instrOf s c 4 = some (k, x) → bitsAt x 4 3 = 3 → movesVisible s c
    = false → exec (.signalMsix c) s = .next (flushChan s c)) ∧
  (∀ (s t : State) (c k x : Nat), stopped s = false → instrOf s c 4 = some (k, x) → bitsAt x 4 3 = 0 → movesVisible s
    c = true → (bitAt x 7 = false ∨ internalAllowed s c = true ∧ rangeExists s (bitsAt x 64 64) 4 = true) → chanWrite
    s c (bitAt x 7) (bitAt x 8) (bitsAt x 64 64) (leBytes 4 (bitsAt x 32 32)) false = .done t → exec (.signalWrite c)
    s = .next (nextInstr t c)) ∧
  (∀ (s : State) (c k x : Nat), stopped s = false → instrOf s c 4 = some (k, x) → bitsAt x 4 3 = 1 → movesVisible s c
    = true → semAllowed s c (bitsAt x 32 16) = true → exec (.signalSem c) s = .next (nextInstr (s.countSat
    DMA_CHAN.sem 1 (bitsAt x 32 16)) c)) ∧
  (∀ (s : State) (c k x : Nat), stopped s = false → instrOf s c 4 = some (k, x) → bitsAt x 4 3 = 1 → movesVisible s c
    = true → semAllowed s c (bitsAt x 32 16) = false → exec (.signalSem c) s = .next (endChannel s c 3)) ∧
  (∀ (s : State) (c k x : Nat), stopped s = false → instrOf s c 4 = some (k, x) → bitsAt x 4 3 = 2 → movesVisible s c
    = true → (isRelayChan s c = true ∨ chanFn s c = 0) → exec (.signalThread c) s = .next (nextInstr (dmaEvent s
    (bitsAt x 32 16)) c)) ∧
  (∀ (s : State) (c k x : Nat), stopped s = false → instrOf s c 4 = some (k, x) → bitsAt x 4 3 = 3 → movesVisible s c
    = true → bitsAt x 32 16 < vectorCount s (chanFn s c) → exec (.signalMsix c) s = .next (nextInstr (publish s
    (.vector (chanFn s c) (bitsAt x 32 16))) c)) ∧
  (∀ (s : State) (c k x : Nat), stopped s = false → instrOf s c 4 = some (k, x) → bitsAt x 4 3 = 3 → movesVisible s c
    = true → vectorCount s (chanFn s c) ≤ bitsAt x 32 16 → exec (.signalMsix c) s = .next (endChannel s c 3)) ∧
  (∀ (s : State) (c k x : Nat), stopped s = false → instrOf s c 5 = some (k, x) → movesVisible s c = true → exec
    (.dmaHurdle c) s = .next (nextInstr s c)) ∧
  (∀ (s : State) (c k x : Nat), stopped s = false → instrOf s c 5 = some (k, x) → movesVisible s c = false → exec
    (.dmaHurdle c) s = .next (flushChan s c))

/-- A segment between internal addresses that do not overlap is copied: the destination of at most 4096 bytes, up to its
  next 4 KiB boundary, holds what the source held, every other byte of memory is unchanged, and its bytes count; the
  move goes on behind it. A segment whose host request failed is repeated while retries are left. A read-back that
  finds the last word of an internal destination as written completes the MOVE, and the channel goes on behind its two
  slots. -/
def Obligations.MovesGoSegmentBySegment : Prop :=
  (∀ (s : State) (c : Nat) (m : DmaMove), stopped s = false → c < 256 → servedChan s c = some m → (chan s c).ending =
    none → m.srcInt = true → m.dstInt = true → memBad s (m.src + m.off) (segmentLen m) = false → placed s (m.src +
    m.off) (segmentLen m) = false → placed s (m.dst + m.off) (segmentLen m) = false → moveOverlaps m = false → m.off +
    segmentLen m < m.len → ∃ t, exec (.dmaSegmentDone c []) s = .next t ∧ memLoad t (m.dst + m.off) (segmentLen m) =
    memLoad s (m.src + m.off) (segmentLen m) ∧ (chan t c).move = some { m with off := m.off + segmentLen m } ∧ t.rd
    DMA_CHAN.bytes c = (s.rd DMA_CHAN.bytes c + segmentLen m) % 2 ^ 64 ∧ t.rd DMA_CHAN.retries c = 0 ∧ t.rd
    DMA_CNT.count 0 = (s.rd DMA_CNT.count 0 + 1) % 2 ^ 64 ∧ t.hostMem = s.hostMem ∧ ∀ a, (a < m.dst + m.off ∨ m.dst +
    m.off + segmentLen m ≤ a) → memLoad t a 1 = memLoad s a 1) ∧
  (∀ (s : State) (c : Nat) (m : DmaMove), stopped s = false → c < 256 → movingChan s c = some m → (chan s c).ending =
    none → m.srcInt = false → s.rd DMA_CHAN.retries c < s.rd DMA_CFG.retry_max → s.rd DMA_CHAN.retries c < 7 → ∃ t,
    exec (.dmaSegmentFail c) s = .next t ∧ t.rd DMA_CHAN.retries c = s.rd DMA_CHAN.retries c + 1 ∧ t.rd DMA_CNT.count
    2 = (s.rd DMA_CNT.count 2 + 1) % 2 ^ 64 ∧ (chan t c).move = some m ∧ (chan t c).blkRetries = (chan s c).blkRetries
    + 1 ∧ chState t c = chRunning ∧ t.mem = s.mem ∧ t.hostMem = s.hostMem ∧ t.links = s.links) ∧
  (∀ (s : State) (c : Nat) (m : DmaMove) (ok : Bool) (data : Bytes), stopped s = false → enabled s .dma = true → c <
    256 → chState s c = chRunning → (chan s c).move = some m → m.check = true → m.dstInt = true → memBad s (m.dst +
    m.len - m.last.length) m.last.length = false → placed s (m.dst + m.len - m.last.length) m.last.length = false →
    memLoad s (m.dst + m.len - m.last.length) m.last.length = m.last → (chan s c).ending = none → (chan s c).copy =
    false → s.rd DMA_CHAN.slot c < 5 → ∃ t, exec (.verifyReadbackDone c ok data) s = .next t ∧ (chan t c).move = none
    ∧ t.rd DMA_CHAN.slot c = s.rd DMA_CHAN.slot c + 2 ∧ chState t c = chRunning ∧ t.queues = s.queues ∧ t.mem = s.mem
    ∧ t.hostMem = s.hostMem ∧ t.links = s.links) ∧
  (∀ (s t : State) (c : Nat) (m : DmaMove) (data bs : Bytes) (u : State), stopped s = false → servedChan s c = some m
    → readSegment s c m data = .data t bs → moveOverlaps m = false → chanWrite t c m.dstInt m.dstAts (m.dst + m.off)
    bs true = .done u → exec (.dmaSegmentDone c data) s = .next (segmentWritten (passTurn u c) c m bs)) ∧
  (∀ (s : State) (c : Nat) (m : DmaMove) (data : Bytes), stopped s = false → servedChan s c = some m → readSegment s c
    m data = .bad → exec (.dmaSegmentDone c data) s = .next (endChannel (updChan (detFailed s) c fun x =>
    { x with move := none, fault := faultPlace m.src }) c 6)) ∧
  (∀ (s : State) (c : Nat) (m : DmaMove) (data : Bytes), stopped s = false → servedChan s c = some m → readSegment s c
    m data = .fails → exec (.dmaSegmentDone c data) s = .next (segmentFailed s c)) ∧
  (∀ (s : State) (c : Nat) (m : DmaMove), stopped s = false → movingChan s c = some m → (m.srcInt = false ∨ m.dstInt =
    false) → exec (.dmaSegmentFail c) s = .next (segmentFailed s c)) ∧
  (∀ (s : State) (c : Nat) (m : DmaMove) (ok : Bool) (data : Bytes), stopped s = false → enabled s .dma = true →
    chState s c = chRunning → (chan s c).move = some m → m.check = true → (m.dstInt = false ∨ memBad s (m.dst + m.len
    - m.last.length) m.last.length = false) → (m.dstInt = true ∨ ok = true) → (lastRead s c m data).1 = m.last → exec
    (.verifyReadbackDone c ok data) s = .next (endMove (lastRead s c m data).2 c)) ∧
  (∀ (s : State) (c : Nat) (m : DmaMove) (ok : Bool) (data : Bytes), stopped s = false → enabled s .dma = true →
    chState s c = chRunning → (chan s c).move = some m → m.check = true → (m.dstInt = false ∨ memBad s (m.dst + m.len
    - m.last.length) m.last.length = false) → (m.dstInt = true ∨ ok = true) → (lastRead s c m data).1 ≠ m.last → exec
    (.verifyReadbackDone c ok data) s = .next (segmentFailed (undoLast (dmaCount (lastRead s c m data).2 5 1) c m) c)) ∧
  (∀ (s : State) (c : Nat) (m : DmaMove) (data : Bytes), stopped s = false → enabled s .dma = true → chState s c =
    chRunning → (chan s c).move = some m → m.check = true → m.dstInt = false → exec (.verifyReadbackDone c false data)
    s = .next (segmentFailed (undoLast (lastRead s c m data).2 c m) c)) ∧
  (∀ (s : State) (c : Nat) (m : DmaMove) (ok : Bool) (data : Bytes), stopped s = false → enabled s .dma = true →
    chState s c = chRunning → (chan s c).move = some m → m.check = true → m.dstInt = true → memBad s (m.dst + m.len -
    m.last.length) m.last.length = true → exec (.verifyReadbackDone c ok data) s = .next (endChannel (updChan
    (detFailed s) c fun x => { x with move := none, fault := faultPlace m.dst }) c 6))

/-- An agent that may issue, and whose registers wait for no load, executes the instruction at its pc: rd takes the value
  that the opcode table gives, modulo 2^64 (g0 stays 0), the pc moves on by 4, and every other register of the agent,
  every other agent, the threads, stewards, channels and memory are unchanged. Shift amounts are taken modulo 64,
  immediates are sign- or zero-extended as the table says, and comparisons yield 0 or 1. -/
def Obligations.RelayArithmetic : Prop :=
  (∀ (s : State) (a rd ra rb fn : Nat) (i : Instr) (v : Nat), stopped s = false → mayIssue s a = true → waitsForLoad s
    a [rd, ra, rb] = false → fetchFault s a = none → (i, v) ∈ [(.add a rd ra rb, greg s a ra + greg s a rb), (.sub a
    rd ra rb, greg s a ra + (2 ^ 64 - greg s a rb % 2 ^ 64)), (.and a rd ra rb, greg s a ra &&& greg s a rb), (.or a
    rd ra rb, greg s a ra ||| greg s a rb), (.xor a rd ra rb, greg s a ra ^^^ greg s a rb), (.shl a rd ra rb, greg s a
    ra * 2 ^ (greg s a rb % 64)), (.shr a rd ra rb, greg s a ra % 2 ^ 64 / 2 ^ (greg s a rb % 64)), (.sar a rd ra rb,
    wrapInt 64 (signed 64 (greg s a ra) / ((2 ^ (greg s a rb % 64) : Nat) : Int))), (.mul a rd ra rb, greg s a ra *
    greg s a rb), (.mulhu a rd ra rb, greg s a ra * greg s a rb / 2 ^ 64), (.minu a rd ra rb, if greg s a ra < greg s
    a rb then greg s a ra else greg s a rb), (.maxu a rd ra rb, if greg s a ra < greg s a rb then greg s a rb else
    greg s a ra), (.slt a rd ra rb, if signed 64 (greg s a ra) < signed 64 (greg s a rb) then 1 else 0), (.sltu a rd
    ra rb, if greg s a ra < greg s a rb then 1 else 0), (.crcc a rd ra rb fn, crcStep fn (fn / 2) (greg s a ra) (greg
    s a rb))] → ∃ t, exec (i) s = .next t ∧ greg t a rd = (if rd % 32 = 0 then 0 else v % 2 ^ 64) ∧ agentPc t a =
    (agentPc s a + 4) % 2 ^ 48 ∧ t.rly.threads = s.rly.threads ∧ t.rly.stewards = s.rly.stewards ∧ t.rly.chans =
    s.rly.chans ∧ t.mem = s.mem ∧ t.hostMem = s.hostMem ∧ t.links = s.links ∧ (∀ r, r % 32 ≠ rd % 32 → greg t a r =
    greg s a r) ∧ (∀ b, b ≠ a → agentInt t b = agentInt s b)) ∧
  (∀ (s : State) (a rd ra imm : Nat) (i : Instr) (v : Nat), stopped s = false → mayIssue s a = true → waitsForLoad s a
    [rd, ra] = false → fetchFault s a = none → (i, v) ∈ [(.bits a rd ra 0, clz64 (greg s a ra)), (.bits a rd ra 1,
    ctz64 (greg s a ra)), (.bits a rd ra 2, popCount 64 (greg s a ra)), (.bits a rd ra 3, ofBe (leBytes 8 (greg s a
    ra))), (.bits a rd ra 4, wrapInt 64 (signed 8 (greg s a ra))), (.bits a rd ra 5, wrapInt 64 (signed 16 (greg s a
    ra))), (.bits a rd ra 6, wrapInt 64 (signed 32 (greg s a ra))), (.addi a rd ra imm, greg s a ra + wrapInt 64
    (signed 16 imm)), (.andi a rd ra imm, greg s a ra &&& imm % 65536), (.ori a rd ra imm, greg s a ra ||| imm %
    65536), (.xori a rd ra imm, greg s a ra ^^^ imm % 65536), (.shi a rd ra (imm % 64), greg s a ra * 2 ^ (imm % 64)),
    (.shi a rd ra (64 + imm % 64), greg s a ra % 2 ^ 64 / 2 ^ (imm % 64)), (.shi a rd ra (128 + imm % 64), wrapInt 64
    (signed 64 (greg s a ra) / ((2 ^ (imm % 64) : Nat) : Int))), (.slti a rd ra imm, if signed 64 (greg s a ra) <
    signed 16 imm then 1 else 0)] → ∃ t, exec (i) s = .next t ∧ greg t a rd = (if rd % 32 = 0 then 0 else v % 2 ^ 64)
    ∧ agentPc t a = (agentPc s a + 4) % 2 ^ 48 ∧ t.rly.threads = s.rly.threads ∧ t.rly.stewards = s.rly.stewards ∧
    t.rly.chans = s.rly.chans ∧ t.mem = s.mem ∧ t.hostMem = s.hostMem ∧ t.links = s.links ∧ (∀ r, r % 32 ≠ rd % 32 →
    greg t a r = greg s a r) ∧ (∀ b, b ≠ a → agentInt t b = agentInt s b)) ∧
  (∀ (s : State) (a rd k imm : Nat) (i : Instr) (v : Nat), stopped s = false → mayIssue s a = true → waitsForLoad s a
    [rd] = false → fetchFault s a = none → (i, v) ∈ [(.movk a rd k imm, putBits (greg s a rd) (16 * (k % 4)) 16 imm),
    (.addpc a rd imm, ((agentPc s a : Int) + signed 16 imm * 4) % 2 ^ 64 |>.toNat)] → ∃ t, exec (i) s = .next t ∧ greg
    t a rd = (if rd % 32 = 0 then 0 else v % 2 ^ 64) ∧ agentPc t a = (agentPc s a + 4) % 2 ^ 48 ∧ t.rly.threads =
    s.rly.threads ∧ t.rly.stewards = s.rly.stewards ∧ t.rly.chans = s.rly.chans ∧ t.mem = s.mem ∧ t.hostMem =
    s.hostMem ∧ t.links = s.links ∧ (∀ r, r % 32 ≠ rd % 32 → greg t a r = greg s a r) ∧ (∀ b, b ≠ a → agentInt t b =
    agentInt s b)) ∧
  (∀ (s : State) (a rd ra rb fn : Nat) (i : Instr) (t : State), stopped s = false → mayIssue s a = true → waitsForLoad
    s a [rd, ra, rb] = false → fetchFault s a = none → (i, t) ∈ [(.add a rd ra rb, retireTo (countIssue s a) a rd
    (greg s a ra + greg s a rb)), (.sub a rd ra rb, retireTo (countIssue s a) a rd (greg s a ra + (2 ^ 64 - greg s a
    rb % 2 ^ 64))), (.and a rd ra rb, retireTo (countIssue s a) a rd (greg s a ra &&& greg s a rb)), (.or a rd ra rb,
    retireTo (countIssue s a) a rd (greg s a ra ||| greg s a rb)), (.xor a rd ra rb, retireTo (countIssue s a) a rd
    (greg s a ra ^^^ greg s a rb)), (.shl a rd ra rb, retireTo (countIssue s a) a rd (greg s a ra * 2 ^ (greg s a rb %
    64))), (.shr a rd ra rb, retireTo (countIssue s a) a rd (greg s a ra % 2 ^ 64 / 2 ^ (greg s a rb % 64))), (.sar a
    rd ra rb, retireTo (countIssue s a) a rd (wrapInt 64 (signed 64 (greg s a ra) / ((2 ^ (greg s a rb % 64) : Nat) :
    Int)))), (.mul a rd ra rb, retireTo (countIssue s a) a rd (greg s a ra * greg s a rb)), (.mulhu a rd ra rb,
    retireTo (countIssue s a) a rd (greg s a ra * greg s a rb / 2 ^ 64)), (.minu a rd ra rb, retireTo (countIssue s a)
    a rd (if greg s a ra < greg s a rb then greg s a ra else greg s a rb)), (.maxu a rd ra rb, retireTo (countIssue s
    a) a rd (if greg s a ra < greg s a rb then greg s a rb else greg s a ra)), (.slt a rd ra rb, retireTo (countIssue
    s a) a rd (if signed 64 (greg s a ra) < signed 64 (greg s a rb) then 1 else 0)), (.sltu a rd ra rb, retireTo
    (countIssue s a) a rd (if greg s a ra < greg s a rb then 1 else 0)), (.crcc a rd ra rb fn, retireTo (countIssue s
    a) a rd (crcStep fn (fn / 2) (greg s a ra) (greg s a rb)))] → exec (i) s = .next (t)) ∧
  (∀ (s : State) (a rd ra imm : Nat) (i : Instr) (t : State), stopped s = false → mayIssue s a = true → waitsForLoad s
    a [rd, ra] = false → fetchFault s a = none → (i, t) ∈ [(.bits a rd ra 0, retireTo (countIssue s a) a rd (clz64
    (greg s a ra))), (.bits a rd ra 1, retireTo (countIssue s a) a rd (ctz64 (greg s a ra))), (.bits a rd ra 2,
    retireTo (countIssue s a) a rd (popCount 64 (greg s a ra))), (.bits a rd ra 3, retireTo (countIssue s a) a rd
    (ofBe (leBytes 8 (greg s a ra)))), (.bits a rd ra 4, retireTo (countIssue s a) a rd (wrapInt 64 (signed 8 (greg s
    a ra)))), (.bits a rd ra 5, retireTo (countIssue s a) a rd (wrapInt 64 (signed 16 (greg s a ra)))), (.bits a rd ra
    6, retireTo (countIssue s a) a rd (wrapInt 64 (signed 32 (greg s a ra)))), (.addi a rd ra imm, retireTo
    (countIssue s a) a rd (greg s a ra + wrapInt 64 (signed 16 imm))), (.andi a rd ra imm, retireTo (countIssue s a) a
    rd (greg s a ra &&& imm % 65536)), (.ori a rd ra imm, retireTo (countIssue s a) a rd (greg s a ra ||| imm %
    65536)), (.xori a rd ra imm, retireTo (countIssue s a) a rd (greg s a ra ^^^ imm % 65536)), (.shi a rd ra (imm %
    64), retireTo (countIssue s a) a rd (greg s a ra * 2 ^ (imm % 64))), (.shi a rd ra (64 + imm % 64), retireTo
    (countIssue s a) a rd (greg s a ra % 2 ^ 64 / 2 ^ (imm % 64))), (.shi a rd ra (128 + imm % 64), retireTo
    (countIssue s a) a rd (wrapInt 64 (signed 64 (greg s a ra) / ((2 ^ (imm % 64) : Nat) : Int)))), (.slti a rd ra
    imm, retireTo (countIssue s a) a rd (if signed 64 (greg s a ra) < signed 16 imm then 1 else 0))] → exec (i) s =
    .next (t)) ∧
  (∀ (s : State) (a rd k imm : Nat) (i : Instr) (t : State), stopped s = false → mayIssue s a = true → waitsForLoad s
    a [rd] = false → fetchFault s a = none → (i, t) ∈ [(.movk a rd k imm, retireTo (countIssue s a) a rd (putBits
    (greg s a rd) (16 * (k % 4)) 16 imm)), (.addpc a rd imm, retireTo (countIssue s a) a rd (((agentPc s a : Int) +
    signed 16 imm * 4) % 2 ^ 64 |>.toNat))] → exec (i) s = .next (t)) ∧
  (∀ (s : State) (a rd ra : Nat), stopped s = false → mayIssue s a = true → waitsForLoad s a [rd, ra] = false →
    fetchFault s a = none → exec (.bits a rd ra 7) s = .next (exception (countIssue s a) a exIllegal 0)) ∧
  (∀ (s : State) (a rd ra imm : Nat), stopped s = false → mayIssue s a = true → waitsForLoad s a [rd, ra] = false →
    fetchFault s a = none → 192 ≤ imm → exec (.shi a rd ra imm) s = .next (exception (countIssue s a) a exIllegal 0))

/-- A branch whose condition holds moves the pc by its sign-extended 16-bit offset times 4, modulo 2^48, and one whose
  condition does not hold by 4; it changes no register. JAL and JALR write pc + 4 to rd and go to their target; a JALR
  whose target is no multiple of 4 leaves a thread FAULTED with MISALIGNED and writes no register. Nothing else of an
  agent, a channel or memory changes. -/
def Obligations.RelayControlFlow : Prop :=
  (∀ (s : State) (a ra rb off : Nat) (i : Instr) (p : Bool), stopped s = false → mayIssue s a = true → waitsForLoad s
    a [ra, rb] = false → fetchFault s a = none → (i, p) ∈ [(.beq a ra rb off, decide (greg s a ra = greg s a rb)),
    (.bne a ra rb off, decide (greg s a ra ≠ greg s a rb)), (.blt a ra rb off, decide (signed 64 (greg s a ra) <
    signed 64 (greg s a rb))), (.bge a ra rb off, decide (signed 64 (greg s a rb) ≤ signed 64 (greg s a ra))), (.bltu
    a ra rb off, decide (greg s a ra < greg s a rb)), (.bgeu a ra rb off, decide (greg s a rb ≤ greg s a ra))] → ∃ t,
    exec (i) s = .next t ∧ agentPc t a = wrapInt 48 ((agentPc s a : Int) + (if p = true then signed 16 off * 4 else
    4)) ∧ t.rly.threads = s.rly.threads ∧ t.rly.stewards = s.rly.stewards ∧ t.rly.chans = s.rly.chans ∧ t.mem = s.mem
    ∧ t.hostMem = s.hostMem ∧ t.links = s.links ∧ (∀ r, greg t a r = greg s a r) ∧ (∀ b, b ≠ a → agentInt t b =
    agentInt s b)) ∧
  (∀ (s : State) (a rd off : Nat), stopped s = false → mayIssue s a = true → waitsForLoad s a [rd] = false →
    fetchFault s a = none → ∃ t, exec (.jal a rd off) s = .next t ∧ greg t a rd = (if rd % 32 = 0 then 0 else (agentPc
    s a + 4) % 2 ^ 64) ∧ agentPc t a = wrapInt 48 ((agentPc s a : Int) + signed 21 off * 4) ∧ t.rly.threads =
    s.rly.threads ∧ t.rly.stewards = s.rly.stewards ∧ t.rly.chans = s.rly.chans ∧ t.mem = s.mem ∧ t.hostMem =
    s.hostMem ∧ t.links = s.links ∧ (∀ r, r % 32 ≠ rd % 32 → greg t a r = greg s a r) ∧ (∀ b, b ≠ a → agentInt t b =
    agentInt s b)) ∧
  (∀ (s : State) (a rd ra imm : Nat), stopped s = false → mayIssue s a = true → waitsForLoad s a [rd, ra] = false →
    fetchFault s a = none → (greg s a ra + wrapInt 64 (signed 16 imm)) % 4 = 0 → ∃ t, exec (.jalr a rd ra imm) s =
    .next t ∧ greg t a rd = (if rd % 32 = 0 then 0 else (agentPc s a + 4) % 2 ^ 64) ∧ agentPc t a = (greg s a ra +
    wrapInt 64 (signed 16 imm)) % 2 ^ 48 ∧ t.rly.threads = s.rly.threads ∧ t.rly.stewards = s.rly.stewards ∧
    t.rly.chans = s.rly.chans ∧ t.mem = s.mem ∧ t.hostMem = s.hostMem ∧ t.links = s.links ∧ (∀ r, r % 32 ≠ rd % 32 →
    greg t a r = greg s a r) ∧ (∀ b, b ≠ a → agentInt t b = agentInt s b)) ∧
  (∀ (s : State) (a rd ra imm : Nat), stopped s = false → mayIssue s a = true → waitsForLoad s a [rd, ra] = false →
    fetchFault s a = none → a < 512 → (greg s a ra + wrapInt 64 (signed 16 imm)) % 4 ≠ 0 → ∃ t, exec (.jalr a rd ra
    imm) s = .next t ∧ threadState t a = thFaulted ∧ t.rd RLY_THCTX.fault_cause a = 5 ∧ t.rd RLY_THCTX.fault_pc a =
    agentPc s a % 2 ^ 48 ∧ agentPc t a = agentPc s a ∧ t.mem = s.mem ∧ t.hostMem = s.hostMem ∧ ∀ r, greg t a r = greg
    s a r) ∧
  (∀ (s : State) (a ra rb off : Nat) (i : Instr) (p : Bool), stopped s = false → mayIssue s a = true → waitsForLoad s
    a [ra, rb] = false → fetchFault s a = none → (i, p) ∈ [(.beq a ra rb off, decide (greg s a ra = greg s a rb)),
    (.bne a ra rb off, decide (greg s a ra ≠ greg s a rb)), (.blt a ra rb off, decide (signed 64 (greg s a ra) <
    signed 64 (greg s a rb))), (.bge a ra rb off, decide (signed 64 (greg s a rb) ≤ signed 64 (greg s a ra))), (.bltu
    a ra rb off, decide (greg s a ra < greg s a rb)), (.bgeu a ra rb off, decide (greg s a rb ≤ greg s a ra))] → exec
    (i) s = .next (if p = true then setPc (countIssue s a) a (agentPc s a + wrapInt 64 (signed 16 off) * 4) else
    advance (countIssue s a) a)) ∧
  (∀ (s : State) (a rd off : Nat), stopped s = false → mayIssue s a = true → waitsForLoad s a [rd] = false →
    fetchFault s a = none → exec (.jal a rd off) s = .next (setPc (setGreg (countIssue s a) a rd (agentPc s a + 4)) a
    (agentPc s a + wrapInt 64 (signed 21 off) * 4))) ∧
  (∀ (s : State) (a rd ra imm : Nat), stopped s = false → mayIssue s a = true → waitsForLoad s a [rd, ra] = false →
    fetchFault s a = none → (greg s a ra + wrapInt 64 (signed 16 imm)) % 2 ^ 64 % 4 = 0 → exec (.jalr a rd ra imm) s =
    .next (setPc (setGreg (countIssue s a) a rd (agentPc s a + 4)) a ((greg s a ra + wrapInt 64 (signed 16 imm)) % 2 ^
    64))) ∧
  (∀ (s : State) (a rd ra imm : Nat), stopped s = false → mayIssue s a = true → waitsForLoad s a [rd, ra] = false →
    fetchFault s a = none → (greg s a ra + wrapInt 64 (signed 16 imm)) % 2 ^ 64 % 4 ≠ 0 → exec (.jalr a rd ra imm) s =
    .next (exception (countIssue s a) a exMisaligned 0))

/-- A word that spells no instruction, the reserved BITS selector, and a misaligned pc leave a thread FAULTED: cause, pc
  and thread are recorded, RLY_FAULTQ shows it and its source is raised. A steward instead enters supervisor mode at
  SVEC (in its own memory): SEPC, the previous mode and enable, and SCAUSE are written, and interrupts are off; CALLS
  and BRK enter with SEPC behind them and their code. SRET returns to SEPC with the previous mode and enable, SLEEP
  stops the steward, and a delivered interrupt pushes the claim stack; IEOI of the claimed source pops it. No register
  or byte of memory changes. -/
def Obligations.RelayExceptionsAndSupervisorEntry : Prop :=
  (∀ (s : State) (a word : Nat), stopped s = false → mayIssue s a = true → waitsForLoad s a [] = false → fetchFault s
    a = none → a < 512 → decodeRelay word = none → ∃ t, exec (.illegalInstruction a word) s = .next t ∧ threadState t
    a = thFaulted ∧ t.rd RLY_THCTX.fault_cause a = 1 ∧ t.rd RLY_THCTX.fault_pc a = agentPc s a % 2 ^ 48 ∧ t.rd
    RLY_FAULTQ.thread = a ∧ t.rd RLY_FAULTQ.cause = 1 ∧ t.rd IRQ_SRC.asserted 0x181 = 1 ∧ agentPc t a = agentPc s a ∧
    t.mem = s.mem ∧ t.hostMem = s.hostMem ∧ ∀ r, greg t a r = greg s a r) ∧
  (∀ (s : State) (a rd ra : Nat), stopped s = false → mayIssue s a = true → waitsForLoad s a [rd, ra] = false →
    fetchFault s a = none → a < 512 → ∃ t, exec (.bits a rd ra 7) s = .next t ∧ threadState t a = thFaulted ∧ t.rd
    RLY_THCTX.fault_cause a = 1 ∧ t.rd RLY_THCTX.fault_pc a = agentPc s a % 2 ^ 48 ∧ t.rd RLY_FAULTQ.thread = a ∧ t.rd
    RLY_FAULTQ.cause = 1 ∧ t.rd IRQ_SRC.asserted 0x181 = 1 ∧ agentPc t a = agentPc s a ∧ t.mem = s.mem ∧ t.hostMem =
    s.hostMem ∧ ∀ r, greg t a r = greg s a r) ∧
  (∀ (s : State) (a : Nat), stopped s = false → mayIssue s a = true → waitsForLoad s a [] = false → a < 512 → agentPc
    s a % 4 ≠ 0 → ∃ t, exec (.thexit a) s = .next t ∧ threadState t a = thFaulted ∧ t.rd RLY_THCTX.fault_cause a = 5 ∧
    t.rd RLY_THCTX.fault_pc a = agentPc s a % 2 ^ 48 ∧ t.rd RLY_FAULTQ.thread = a ∧ t.rd RLY_FAULTQ.cause = 5 ∧ t.rd
    IRQ_SRC.asserted 0x181 = 1 ∧ agentPc t a = agentPc s a ∧ t.mem = s.mem ∧ t.hostMem = s.hostMem ∧ ∀ r, greg t a r =
    greg s a r) ∧
  (∀ (s : State) (a word : Nat), stopped s = false → mayIssue s a = true → waitsForLoad s a [] = false → fetchFault s
    a = none → 512 ≤ a → decodeRelay word = none → (stewardInt s (a - 512)).svec + 4 ≤ 0x40000 → ∃ t, exec
    (.illegalInstruction a word) s = .next t ∧ stewardInt t (a - 512) =
    { stewardInt s (a - 512) with sepc := agentPc s a % 2 ^ 48, pmode := (stewardInt s (a - 512)).user, pie := (stewardInt s (a - 512)).ie, ie := false, user := false, scause := 1, saddr := 0, sleeping := false }
    ∧ agentPc t a = (stewardInt s (a - 512)).svec % 2 ^ 48 ∧ t.regs = s.regs ∧ t.mem = s.mem ∧ t.hostMem = s.hostMem ∧
    t.links = s.links ∧ ∀ r, greg t a r = greg s a r) ∧
  (∀ (s : State) (a imm : Nat), stopped s = false → mayIssue s a = true → waitsForLoad s a [] = false → fetchFault s a
    = none → 512 ≤ a → (stewardInt s (a - 512)).svec + 4 ≤ 0x40000 → ∃ t, exec (.calls a imm) s = .next t ∧ stewardInt
    t (a - 512) =
    { stewardInt s (a - 512) with sepc := (agentPc s a + 4) % 2 ^ 48, pmode := (stewardInt s (a - 512)).user, pie := (stewardInt s (a - 512)).ie, ie := false, user := false, scause := 2 ^ 8 + (imm % 65536) * 2 ^ 16, saddr := 0, sleeping := false }
    ∧ agentPc t a = (stewardInt s (a - 512)).svec % 2 ^ 48 ∧ t.regs = s.regs ∧ t.mem = s.mem ∧ t.hostMem = s.hostMem ∧
    t.links = s.links ∧ ∀ r, greg t a r = greg s a r) ∧
  (∀ (s : State) (a imm : Nat), stopped s = false → mayIssue s a = true → waitsForLoad s a [] = false → fetchFault s a
    = none → 512 ≤ a → (stewardInt s (a - 512)).svec + 4 ≤ 0x40000 → ∃ t, exec (.brk a imm) s = .next t ∧ stewardInt t
    (a - 512) =
    { stewardInt s (a - 512) with sepc := (agentPc s a + 4) % 2 ^ 48, pmode := (stewardInt s (a - 512)).user, pie := (stewardInt s (a - 512)).ie, ie := false, user := false, scause := 3 * 2 ^ 8 + (imm % 65536) * 2 ^ 16, saddr := 0, sleeping := false }
    ∧ agentPc t a = (stewardInt s (a - 512)).svec % 2 ^ 48 ∧ t.regs = s.regs ∧ t.mem = s.mem ∧ t.hostMem = s.hostMem ∧
    t.links = s.links ∧ ∀ r, greg t a r = greg s a r) ∧
  (∀ (s : State) (a imm : Nat), stopped s = false → mayIssue s a = true → waitsForLoad s a [] = false → fetchFault s a
    = none → a < 512 → ∃ t, exec (.brk a imm) s = .next t ∧ threadState t a = thHalted ∧ agentPc t a = (agentPc s a +
    4) % 2 ^ 48 ∧ t.rd RLY_THCTX.pc a = (agentPc s a + 4) % 2 ^ 48 ∧ t.rd IRQ_SRC.asserted 0x182 = 1 ∧ t.mem = s.mem ∧
    t.hostMem = s.hostMem ∧ ∀ r, greg t a r = greg s a r) ∧
  (∀ (s : State) (a : Nat), stopped s = false → mayIssue s a = true → waitsForLoad s a [] = false → fetchFault s a =
    none → 512 ≤ a → (stewardInt s (a - 512)).user = false → ∃ t, exec (.sret a) s = .next t ∧ stewardInt t (a - 512)
    = { stewardInt s (a - 512) with user := (stewardInt s (a - 512)).pmode, ie := (stewardInt s (a - 512)).pie } ∧
    agentPc t a = (stewardInt s (a - 512)).sepc % 2 ^ 48 ∧ t.regs = s.regs ∧ t.mem = s.mem ∧ t.hostMem = s.hostMem ∧
    t.links = s.links ∧ ∀ r, greg t a r = greg s a r) ∧
  (∀ (s : State) (a : Nat), stopped s = false → mayIssue s a = true → waitsForLoad s a [] = false → fetchFault s a =
    none → 512 ≤ a → (stewardInt s (a - 512)).user = false → presented s (a - 512) = none → ∃ t, exec (.sleep a) s =
    .next t ∧ stewardInt t (a - 512) = { stewardInt s (a - 512) with sleeping := true } ∧ agentPc t a = (agentPc s a +
    4) % 2 ^ 48 ∧ t.regs = s.regs ∧ t.mem = s.mem ∧ t.hostMem = s.hostMem ∧ t.links = s.links ∧ ∀ r, greg t a r = greg
    s a r) ∧
  (∀ (s : State) (a : Nat), stopped s = false → mayIssue s a = true → waitsForLoad s a [] = false → fetchFault s a =
    none → 512 ≤ a → (stewardInt s (a - 512)).user = true → (stewardInt s (a - 512)).svec + 4 ≤ 0x40000 → ∃ t, exec
    (.sret a) s = .next t ∧ stewardInt t (a - 512) =
    { stewardInt s (a - 512) with sepc := agentPc s a % 2 ^ 48, pmode := (stewardInt s (a - 512)).user, pie := (stewardInt s (a - 512)).ie, ie := false, user := false, scause := 2, saddr := 0, sleeping := false }
    ∧ agentPc t a = (stewardInt s (a - 512)).svec % 2 ^ 48 ∧ t.regs = s.regs ∧ t.mem = s.mem ∧ t.hostMem = s.hostMem ∧
    t.links = s.links ∧ ∀ r, greg t a r = greg s a r) ∧
  (∀ (s : State) (k n : Nat), stopped s = false → k < 4 → (stewardInt s k).running = true → (stewardInt s k).locked =
    false → (stewardInt s k).ie = true → presented s k = some n → (stewardInt s k).svec + 4 ≤ 0x40000 → ∃ t, exec
    (.interruptDelivery k) s = .next t ∧ Map.get t.claims k =
    { Map.get s.claims k with pri := s.rd IRQ_SRC.priority n, claim := some n, stack := ((Map.get s.claims k).pri, (Map.get s.claims k).claim) :: (Map.get s.claims k).stack }
    ∧ t.rd IRQ_SRC.claimed n = 1 ∧ (stewardInt t k).ie = false ∧ (stewardInt t k).user = false ∧ (stewardInt t k).sepc
    = agentPc s (512 + k) % 2 ^ 48 ∧ (stewardInt t k).scause = 2 ^ 9 ∧ agentPc t (512 + k) = (stewardInt s k).svec % 2
    ^ 48 ∧ t.mem = s.mem ∧ t.hostMem = s.hostMem ∧ t.links = s.links) ∧
  (∀ (s : State) (k n p : Nat) (q : Option Nat) (rest : List (Nat × Option Nat)), stopped s = false → k < 4 → n < 1024
    → (Map.get s.claims k).claim = some n → (Map.get s.claims k).stack = (p, q) :: rest → exec (.ieoi k n) s = .next
    (({ s with claims := Map.set s.claims k { Map.get s.claims k with pri := p, claim := q, stack := rest } } :
    State).wr IRQ_SRC.claimed 0 n)) ∧
  (∀ (s : State) (k n : Nat), stopped s = false → k < 4 → n < 1024 → (Map.get s.claims k).claim ≠ some n → exec (.ieoi
    k n) s = .next (s.wr IRQ_STAT.eoi_bad (s.rd IRQ_STAT.eoi_bad ||| 2 ^ k))) ∧
  (∀ (s : State) (a word : Nat), stopped s = false → mayIssue s a = true → waitsForLoad s a [] = false → fetchFault s
    a = none → decodeRelay word = none → exec (.illegalInstruction a word) s = .next (exception (countIssue s a) a
    exIllegal 0)) ∧
  (∀ (s : State) (a imm : Nat), stopped s = false → mayIssue s a = true → waitsForLoad s a [] = false → fetchFault s a
    = none → 512 ≤ a → exec (.calls a imm) s = .next (enterSupervisor (countIssue s a) (a - 512) (agentPc s a + 4) (2
    ^ 8 + (imm % 65536) * 2 ^ 16) 0)) ∧
  (∀ (s : State) (a imm : Nat), stopped s = false → mayIssue s a = true → waitsForLoad s a [] = false → fetchFault s a
    = none → a < 512 → exec (.calls a imm) s = .next (exception (countIssue s a) a exIllegal 0)) ∧
  (∀ (s : State) (a imm : Nat), stopped s = false → mayIssue s a = true → waitsForLoad s a [] = false → fetchFault s a
    = none → 512 ≤ a → exec (.brk a imm) s = .next (enterSupervisor (countIssue s a) (a - 512) (agentPc s a + 4) (3 *
    2 ^ 8 + (imm % 65536) * 2 ^ 16) 0)) ∧
  (∀ (s : State) (a imm : Nat), stopped s = false → mayIssue s a = true → waitsForLoad s a [] = false → fetchFault s a
    = none → a < 512 → exec (.brk a imm) s = .next (haltThread (advance (countIssue s a) a) a)) ∧
  (∀ (s : State) (a : Nat), stopped s = false → mayIssue s a = true → waitsForLoad s a [] = false → fetchFault s a =
    none → supervisor s a = true → exec (.sret a) s = .next (setPc (updSteward (countIssue s a) (a - 512) fun x =>
    { x with user := x.pmode, ie := x.pie }) a (stewardInt s (a - 512)).sepc)) ∧
  (∀ (s : State) (a : Nat), stopped s = false → mayIssue s a = true → waitsForLoad s a [] = false → fetchFault s a =
    none → supervisor s a = true → exec (.sleep a) s = .next (updSteward (advance (countIssue s a) a) (a - 512) fun x
    => { x with sleeping := !(presented s (a - 512)).isSome || x.ie })) ∧
  (∀ (s : State) (a : Nat), stopped s = false → mayIssue s a = true → waitsForLoad s a [] = false → fetchFault s a =
    none → supervisor s a = false → exec (.sret a) s = .next (exception (countIssue s a) a exPrivileged 0)) ∧
  (∀ (s : State) (a : Nat), stopped s = false → mayIssue s a = true → waitsForLoad s a [] = false → fetchFault s a =
    none → supervisor s a = false → exec (.sleep a) s = .next (exception (countIssue s a) a exPrivileged 0)) ∧
  (∀ (s : State) (k n : Nat), stopped s = false → k < 4 → (stewardInt s k).running = true → (stewardInt s k).locked =
    false → (stewardInt s k).ie = true → presented s k = some n → exec (.interruptDelivery k) s = .next
    (deliverInterrupt s k n)) ∧
  (∀ (s : State) (k n : Nat), stopped s = false → k < 4 → (stewardInt s k).running = true → (stewardInt s k).locked =
    false → (stewardInt s k).ie = false → presented s k = some n → exec (.interruptDelivery k) s = .next (updSteward s
    k fun x => { x with sleeping := false }))

/-- An access that fails no check and waits for nothing, and whose address leads to internal memory: a load joins the
  outstanding loads with the bytes at the address (little-endian, zero-extended; a line for LDL), and the pc moves on;
  when the oldest load returns, its register, or the eight registers of LDL's group, take the data. A store writes the
  low bytes of its register, or a line from its group, and no other byte; AMO and CAS write the new value and give rd
  the old one. Other registers and host memory are unchanged. -/
def Obligations.RelayLoadsStoresAndAtomics : Prop :=
  (∀ (s : State) (a rd ra imm g : Nat), stopped s = false → mayIssue s a = true → waitsForLoad s a [rd, ra] = false →
    fetchFault s a = none → accessFault s a ((greg s a ra + wrapInt 64 (signed 16 imm)) % 2 ^ 64)
    ⟨1, false, false, false⟩ = none → accessWaits s a ((greg s a ra + wrapInt 64 (signed 16 imm)) % 2 ^ 64)
    ⟨1, false, false, false⟩ = false → resolve s a ((greg s a ra + wrapInt 64 (signed 16 imm)) % 2 ^ 64) 1 = some
    (.ram g) → placed s g 1 = false → ∃ t, exec (.ldb a rd ra imm) s = .next t ∧ (agentInt t a).loads = (agentInt s
    a).loads ++
    [⟨rd, 1, 1, (greg s a ra + wrapInt 64 (signed 16 imm)) % 2 ^ 64, agentPc s a, ofLe (memLoad s g 1), none, memBad s g 1, 0⟩]
    ∧ agentPc t a = (agentPc s a + 4) % 2 ^ 48 ∧ t.mem = s.mem ∧ t.hostMem = s.hostMem ∧ t.links = s.links ∧ ∀ r, greg
    t a r = greg s a r) ∧
  (∀ (s : State) (a rd ra imm g : Nat), stopped s = false → mayIssue s a = true → waitsForLoad s a [rd, ra] = false →
    fetchFault s a = none → accessFault s a ((greg s a ra + wrapInt 64 (signed 16 imm)) % 2 ^ 64)
    ⟨2, false, false, false⟩ = none → accessWaits s a ((greg s a ra + wrapInt 64 (signed 16 imm)) % 2 ^ 64)
    ⟨2, false, false, false⟩ = false → resolve s a ((greg s a ra + wrapInt 64 (signed 16 imm)) % 2 ^ 64) 2 = some
    (.ram g) → placed s g 2 = false → ∃ t, exec (.ldh a rd ra imm) s = .next t ∧ (agentInt t a).loads = (agentInt s
    a).loads ++
    [⟨rd, 1, 2, (greg s a ra + wrapInt 64 (signed 16 imm)) % 2 ^ 64, agentPc s a, ofLe (memLoad s g 2), none, memBad s g 2, 0⟩]
    ∧ agentPc t a = (agentPc s a + 4) % 2 ^ 48 ∧ t.mem = s.mem ∧ t.hostMem = s.hostMem ∧ t.links = s.links ∧ ∀ r, greg
    t a r = greg s a r) ∧
  (∀ (s : State) (a rd ra imm g : Nat), stopped s = false → mayIssue s a = true → waitsForLoad s a [rd, ra] = false →
    fetchFault s a = none → accessFault s a ((greg s a ra + wrapInt 64 (signed 16 imm)) % 2 ^ 64)
    ⟨4, false, false, false⟩ = none → accessWaits s a ((greg s a ra + wrapInt 64 (signed 16 imm)) % 2 ^ 64)
    ⟨4, false, false, false⟩ = false → resolve s a ((greg s a ra + wrapInt 64 (signed 16 imm)) % 2 ^ 64) 4 = some
    (.ram g) → placed s g 4 = false → ∃ t, exec (.ldw a rd ra imm) s = .next t ∧ (agentInt t a).loads = (agentInt s
    a).loads ++
    [⟨rd, 1, 4, (greg s a ra + wrapInt 64 (signed 16 imm)) % 2 ^ 64, agentPc s a, ofLe (memLoad s g 4), none, memBad s g 4, 0⟩]
    ∧ agentPc t a = (agentPc s a + 4) % 2 ^ 48 ∧ t.mem = s.mem ∧ t.hostMem = s.hostMem ∧ t.links = s.links ∧ ∀ r, greg
    t a r = greg s a r) ∧
  (∀ (s : State) (a rd ra imm g : Nat), stopped s = false → mayIssue s a = true → waitsForLoad s a [rd, ra] = false →
    fetchFault s a = none → accessFault s a ((greg s a ra + wrapInt 64 (signed 16 imm)) % 2 ^ 64)
    ⟨8, false, false, false⟩ = none → accessWaits s a ((greg s a ra + wrapInt 64 (signed 16 imm)) % 2 ^ 64)
    ⟨8, false, false, false⟩ = false → resolve s a ((greg s a ra + wrapInt 64 (signed 16 imm)) % 2 ^ 64) 8 = some
    (.ram g) → placed s g 8 = false → ∃ t, exec (.ldd a rd ra imm) s = .next t ∧ (agentInt t a).loads = (agentInt s
    a).loads ++
    [⟨rd, 1, 8, (greg s a ra + wrapInt 64 (signed 16 imm)) % 2 ^ 64, agentPc s a, ofLe (memLoad s g 8), none, memBad s g 8, 0⟩]
    ∧ agentPc t a = (agentPc s a + 4) % 2 ^ 48 ∧ t.mem = s.mem ∧ t.hostMem = s.hostMem ∧ t.links = s.links ∧ ∀ r, greg
    t a r = greg s a r) ∧
  (∀ (s : State) (a rd ra imm g : Nat), stopped s = false → mayIssue s a = true → waitsForLoad s a (ra :: groupRegs
    rd) = false → fetchFault s a = none → lineGroup rd = true → accessFault s a ((greg s a ra + wrapInt 64 (signed 16
    imm)) % 2 ^ 64) ⟨64, false, false, true⟩ = none → accessWaits s a ((greg s a ra + wrapInt 64 (signed 16 imm)) % 2
    ^ 64) ⟨64, false, false, true⟩ = false → resolve s a ((greg s a ra + wrapInt 64 (signed 16 imm)) % 2 ^ 64) 64 =
    some (.ram g) → placed s g 64 = false → ∃ t, exec (.ldl a rd ra imm) s = .next t ∧ (agentInt t a).loads =
    (agentInt s a).loads ++
    [⟨(rd % 32), 8, 64, (greg s a ra + wrapInt 64 (signed 16 imm)) % 2 ^ 64, agentPc s a, ofLe (memLoad s g 64), none, memBad s g 64, 0⟩]
    ∧ agentPc t a = (agentPc s a + 4) % 2 ^ 48 ∧ t.mem = s.mem ∧ t.hostMem = s.hostMem ∧ t.links = s.links ∧ ∀ r, greg
    t a r = greg s a r) ∧
  (∀ (s : State) (a : Nat) (l : Load) (rest : List Load) (data : Bytes) (ok : Bool), stopped s = false → (agentInt s
    a).loads = l :: rest → l.link = none → l.bad = false → l.regs = 1 → l.rd % 32 ≠ 0 → ∃ t, exec (.loadReturn a data
    ok) s = .next t ∧ (agentInt t a).loads = rest ∧ greg t a l.rd = l.data % 2 ^ 64 ∧ agentPc t a = agentPc s a ∧
    t.regs = s.regs ∧ t.mem = s.mem ∧ t.hostMem = s.hostMem ∧ t.links = s.links ∧ ∀ r, r % 32 ≠ l.rd % 32 → greg t a r
    = greg s a r) ∧
  (∀ (s : State) (a : Nat) (l : Load) (rest : List Load) (data : Bytes) (ok : Bool), stopped s = false → (agentInt s
    a).loads = l :: rest → l.link = none → l.bad = false → l.regs = 8 → l.rd = 8 → ∃ t, exec (.loadReturn a data ok) s
    = .next t ∧ (agentInt t a).loads = rest ∧ greg t a 8 = bitsAt l.data 0 64 ∧ greg t a 15 = bitsAt l.data 448 64 ∧
    greg t a 7 = greg s a 7 ∧ greg t a 16 = greg s a 16 ∧ t.regs = s.regs ∧ t.mem = s.mem ∧ t.hostMem = s.hostMem ∧
    t.links = s.links) ∧
  (∀ (s : State) (a rs ra imm g : Nat), stopped s = false → mayIssue s a = true → waitsForLoad s a [rs, ra] = false →
    fetchFault s a = none → accessFault s a ((greg s a ra + wrapInt 64 (signed 16 imm)) % 2 ^ 64)
    ⟨1, true, false, false⟩ = none → accessWaits s a ((greg s a ra + wrapInt 64 (signed 16 imm)) % 2 ^ 64)
    ⟨1, true, false, false⟩ = false → resolve s a ((greg s a ra + wrapInt 64 (signed 16 imm)) % 2 ^ 64) 1 = some (.ram
    g) → placed s g 1 = false → ∃ t, exec (.stb a rs ra imm) s = .next t ∧ memLoad t g 1 = leBytes 1 (greg s a rs % 2
    ^ 8) ∧ agentPc t a = (agentPc s a + 4) % 2 ^ 48 ∧ t.hostMem = s.hostMem ∧ (∀ r, greg t a r = greg s a r) ∧ (∀ x,
    (x < g ∨ g + 1 ≤ x) → memLoad t x 1 = memLoad s x 1)) ∧
  (∀ (s : State) (a rs ra imm g : Nat), stopped s = false → mayIssue s a = true → waitsForLoad s a [rs, ra] = false →
    fetchFault s a = none → accessFault s a ((greg s a ra + wrapInt 64 (signed 16 imm)) % 2 ^ 64)
    ⟨2, true, false, false⟩ = none → accessWaits s a ((greg s a ra + wrapInt 64 (signed 16 imm)) % 2 ^ 64)
    ⟨2, true, false, false⟩ = false → resolve s a ((greg s a ra + wrapInt 64 (signed 16 imm)) % 2 ^ 64) 2 = some (.ram
    g) → placed s g 2 = false → ∃ t, exec (.sth a rs ra imm) s = .next t ∧ memLoad t g 2 = leBytes 2 (greg s a rs % 2
    ^ 16) ∧ agentPc t a = (agentPc s a + 4) % 2 ^ 48 ∧ t.hostMem = s.hostMem ∧ (∀ r, greg t a r = greg s a r) ∧ (∀ x,
    (x < g ∨ g + 2 ≤ x) → memLoad t x 1 = memLoad s x 1)) ∧
  (∀ (s : State) (a rs ra imm g : Nat), stopped s = false → mayIssue s a = true → waitsForLoad s a [rs, ra] = false →
    fetchFault s a = none → accessFault s a ((greg s a ra + wrapInt 64 (signed 16 imm)) % 2 ^ 64)
    ⟨4, true, false, false⟩ = none → accessWaits s a ((greg s a ra + wrapInt 64 (signed 16 imm)) % 2 ^ 64)
    ⟨4, true, false, false⟩ = false → resolve s a ((greg s a ra + wrapInt 64 (signed 16 imm)) % 2 ^ 64) 4 = some (.ram
    g) → placed s g 4 = false → ∃ t, exec (.stw a rs ra imm) s = .next t ∧ memLoad t g 4 = leBytes 4 (greg s a rs % 2
    ^ 32) ∧ agentPc t a = (agentPc s a + 4) % 2 ^ 48 ∧ t.hostMem = s.hostMem ∧ (∀ r, greg t a r = greg s a r) ∧ (∀ x,
    (x < g ∨ g + 4 ≤ x) → memLoad t x 1 = memLoad s x 1)) ∧
  (∀ (s : State) (a rs ra imm g : Nat), stopped s = false → mayIssue s a = true → waitsForLoad s a [rs, ra] = false →
    fetchFault s a = none → accessFault s a ((greg s a ra + wrapInt 64 (signed 16 imm)) % 2 ^ 64)
    ⟨8, true, false, false⟩ = none → accessWaits s a ((greg s a ra + wrapInt 64 (signed 16 imm)) % 2 ^ 64)
    ⟨8, true, false, false⟩ = false → resolve s a ((greg s a ra + wrapInt 64 (signed 16 imm)) % 2 ^ 64) 8 = some (.ram
    g) → placed s g 8 = false → ∃ t, exec (.std a rs ra imm) s = .next t ∧ memLoad t g 8 = leBytes 8 (greg s a rs % 2
    ^ 64) ∧ agentPc t a = (agentPc s a + 4) % 2 ^ 48 ∧ t.hostMem = s.hostMem ∧ (∀ r, greg t a r = greg s a r) ∧ (∀ x,
    (x < g ∨ g + 8 ≤ x) → memLoad t x 1 = memLoad s x 1)) ∧
  (∀ (s : State) (a rs ra imm g : Nat), stopped s = false → mayIssue s a = true → waitsForLoad s a (ra :: groupRegs
    rs) = false → fetchFault s a = none → lineGroup rs = true → accessFault s a ((greg s a ra + wrapInt 64 (signed 16
    imm)) % 2 ^ 64) ⟨64, true, false, true⟩ = none → accessWaits s a ((greg s a ra + wrapInt 64 (signed 16 imm)) % 2 ^
    64) ⟨64, true, false, true⟩ = false → resolve s a ((greg s a ra + wrapInt 64 (signed 16 imm)) % 2 ^ 64) 64 = some
    (.ram g) → placed s g 64 = false → ∃ t, exec (.stl a rs ra imm) s = .next t ∧ memLoad t g 64 = leBytes 64
    (groupValue s a rs) ∧ agentPc t a = (agentPc s a + 4) % 2 ^ 48 ∧ t.hostMem = s.hostMem ∧ (∀ r, greg t a r = greg s
    a r) ∧ (∀ x, (x < g ∨ g + 64 ≤ x) → memLoad t x 1 = memLoad s x 1)) ∧
  (∀ (s : State) (a rd ra rb fn v g : Nat), stopped s = false → mayIssue s a = true → waitsForLoad s a [rd, ra, rb] =
    false → fetchFault s a = none → accessFault s a (greg s a ra) ⟨8, true, true, false⟩ = none → accessWaits s a
    (greg s a ra) ⟨8, true, true, false⟩ = false → resolve s a (greg s a ra) 8 = some (.ram g) → placed s g 8 = false
    → memBad s g 8 = false → (fn, v) ∈ [(0, ofLe (memLoad s g 8) + greg s a rb), (1, greg s a rb), (2, ofLe (memLoad s
    g 8) &&& greg s a rb), (3, ofLe (memLoad s g 8) ||| greg s a rb), (4, if ofLe (memLoad s g 8) < greg s a rb then
    greg s a rb else ofLe (memLoad s g 8))] → ∃ t, exec (.amo a rd ra rb fn) s = .next t ∧ memLoad t g 8 = leBytes 8
    (v % 2 ^ 64) ∧ greg t a rd = (if rd % 32 = 0 then 0 else ofLe (memLoad s g 8)) ∧ agentPc t a = (agentPc s a + 4) %
    2 ^ 48 ∧ t.hostMem = s.hostMem ∧ (∀ r, r % 32 ≠ rd % 32 → greg t a r = greg s a r) ∧ (∀ x, (x < g ∨ g + 8 ≤ x) →
    memLoad t x 1 = memLoad s x 1)) ∧
  (∀ (s : State) (a rd ra rb g : Nat), stopped s = false → mayIssue s a = true → waitsForLoad s a [rd, ra, rb] = false
    → fetchFault s a = none → accessFault s a (greg s a ra) ⟨8, true, true, false⟩ = none → accessWaits s a (greg s a
    ra) ⟨8, true, true, false⟩ = false → resolve s a (greg s a ra) 8 = some (.ram g) → placed s g 8 = false → memBad s
    g 8 = false → ∃ t, exec (.cas a rd ra rb) s = .next t ∧ memLoad t g 8 = leBytes 8 (if ofLe (memLoad s g 8) = greg
    s a rd then greg s a rb else ofLe (memLoad s g 8)) ∧ greg t a rd = (if rd % 32 = 0 then 0 else ofLe (memLoad s g
    8)) ∧ agentPc t a = (agentPc s a + 4) % 2 ^ 48 ∧ t.hostMem = s.hostMem ∧ (∀ r, r % 32 ≠ rd % 32 → greg t a r =
    greg s a r) ∧ (∀ x, (x < g ∨ g + 8 ≤ x) → memLoad t x 1 = memLoad s x 1)) ∧
  (∀ (s : State) (a rd ra imm : Nat) (p : AddrAt), stopped s = false → mayIssue s a = true → waitsForLoad s a [rd, ra]
    = false → fetchFault s a = none → accessFault s a ((greg s a ra + wrapInt 64 (signed 16 imm)) % 2 ^ 64)
    ⟨1, false, false, false⟩ = none → accessWaits s a ((greg s a ra + wrapInt 64 (signed 16 imm)) % 2 ^ 64)
    ⟨1, false, false, false⟩ = false → resolve s a ((greg s a ra + wrapInt 64 (signed 16 imm)) % 2 ^ 64) 1 = some p →
    exec (.ldb a rd ra imm) s = .next (loadAt a rd 1 ((greg s a ra + wrapInt 64 (signed 16 imm)) % 2 ^ 64)
    (plainAccess 1 false) p (updAgent (countIssue s a) a fun y => { y with fence := false }))) ∧
  (∀ (s : State) (a rd ra imm c : Nat), stopped s = false → mayIssue s a = true → waitsForLoad s a [rd, ra] = false →
    fetchFault s a = none → accessFault s a ((greg s a ra + wrapInt 64 (signed 16 imm)) % 2 ^ 64)
    ⟨1, false, false, false⟩ = some c → exec (.ldb a rd ra imm) s = .next (exception (countIssue s a) a c ((greg s a
    ra + wrapInt 64 (signed 16 imm)) % 2 ^ 64))) ∧
  (∀ (s : State) (a rd ra imm : Nat) (p : AddrAt), stopped s = false → mayIssue s a = true → waitsForLoad s a [rd, ra]
    = false → fetchFault s a = none → accessFault s a ((greg s a ra + wrapInt 64 (signed 16 imm)) % 2 ^ 64)
    ⟨2, false, false, false⟩ = none → accessWaits s a ((greg s a ra + wrapInt 64 (signed 16 imm)) % 2 ^ 64)
    ⟨2, false, false, false⟩ = false → resolve s a ((greg s a ra + wrapInt 64 (signed 16 imm)) % 2 ^ 64) 2 = some p →
    exec (.ldh a rd ra imm) s = .next (loadAt a rd 1 ((greg s a ra + wrapInt 64 (signed 16 imm)) % 2 ^ 64)
    (plainAccess 2 false) p (updAgent (countIssue s a) a fun y => { y with fence := false }))) ∧
  (∀ (s : State) (a rd ra imm c : Nat), stopped s = false → mayIssue s a = true → waitsForLoad s a [rd, ra] = false →
    fetchFault s a = none → accessFault s a ((greg s a ra + wrapInt 64 (signed 16 imm)) % 2 ^ 64)
    ⟨2, false, false, false⟩ = some c → exec (.ldh a rd ra imm) s = .next (exception (countIssue s a) a c ((greg s a
    ra + wrapInt 64 (signed 16 imm)) % 2 ^ 64))) ∧
  (∀ (s : State) (a rd ra imm : Nat) (p : AddrAt), stopped s = false → mayIssue s a = true → waitsForLoad s a [rd, ra]
    = false → fetchFault s a = none → accessFault s a ((greg s a ra + wrapInt 64 (signed 16 imm)) % 2 ^ 64)
    ⟨4, false, false, false⟩ = none → accessWaits s a ((greg s a ra + wrapInt 64 (signed 16 imm)) % 2 ^ 64)
    ⟨4, false, false, false⟩ = false → resolve s a ((greg s a ra + wrapInt 64 (signed 16 imm)) % 2 ^ 64) 4 = some p →
    exec (.ldw a rd ra imm) s = .next (loadAt a rd 1 ((greg s a ra + wrapInt 64 (signed 16 imm)) % 2 ^ 64)
    (plainAccess 4 false) p (updAgent (countIssue s a) a fun y => { y with fence := false }))) ∧
  (∀ (s : State) (a rd ra imm c : Nat), stopped s = false → mayIssue s a = true → waitsForLoad s a [rd, ra] = false →
    fetchFault s a = none → accessFault s a ((greg s a ra + wrapInt 64 (signed 16 imm)) % 2 ^ 64)
    ⟨4, false, false, false⟩ = some c → exec (.ldw a rd ra imm) s = .next (exception (countIssue s a) a c ((greg s a
    ra + wrapInt 64 (signed 16 imm)) % 2 ^ 64))) ∧
  (∀ (s : State) (a rd ra imm : Nat) (p : AddrAt), stopped s = false → mayIssue s a = true → waitsForLoad s a [rd, ra]
    = false → fetchFault s a = none → accessFault s a ((greg s a ra + wrapInt 64 (signed 16 imm)) % 2 ^ 64)
    ⟨8, false, false, false⟩ = none → accessWaits s a ((greg s a ra + wrapInt 64 (signed 16 imm)) % 2 ^ 64)
    ⟨8, false, false, false⟩ = false → resolve s a ((greg s a ra + wrapInt 64 (signed 16 imm)) % 2 ^ 64) 8 = some p →
    exec (.ldd a rd ra imm) s = .next (loadAt a rd 1 ((greg s a ra + wrapInt 64 (signed 16 imm)) % 2 ^ 64)
    (plainAccess 8 false) p (updAgent (countIssue s a) a fun y => { y with fence := false }))) ∧
  (∀ (s : State) (a rd ra imm c : Nat), stopped s = false → mayIssue s a = true → waitsForLoad s a [rd, ra] = false →
    fetchFault s a = none → accessFault s a ((greg s a ra + wrapInt 64 (signed 16 imm)) % 2 ^ 64)
    ⟨8, false, false, false⟩ = some c → exec (.ldd a rd ra imm) s = .next (exception (countIssue s a) a c ((greg s a
    ra + wrapInt 64 (signed 16 imm)) % 2 ^ 64))) ∧
  (∀ (s : State) (a rd ra imm : Nat) (p : AddrAt), stopped s = false → mayIssue s a = true → waitsForLoad s a (ra ::
    groupRegs rd) = false → fetchFault s a = none → lineGroup rd = true → accessFault s a ((greg s a ra + wrapInt 64
    (signed 16 imm)) % 2 ^ 64) ⟨64, false, false, true⟩ = none → accessWaits s a ((greg s a ra + wrapInt 64 (signed 16
    imm)) % 2 ^ 64) ⟨64, false, false, true⟩ = false → resolve s a ((greg s a ra + wrapInt 64 (signed 16 imm)) % 2 ^
    64) 64 = some p → exec (.ldl a rd ra imm) s = .next (loadAt a (rd % 32) 8 ((greg s a ra + wrapInt 64 (signed 16
    imm)) % 2 ^ 64) (plainAccess 64 false) p (updAgent (countIssue s a) a fun y => { y with fence := false }))) ∧
  (∀ (s : State) (a rd ra imm : Nat), stopped s = false → mayIssue s a = true → waitsForLoad s a [ra] = false →
    fetchFault s a = none → lineGroup rd = false → exec (.ldl a rd ra imm) s = .next (exception (countIssue s a) a
    exIllegal 0)) ∧
  (∀ (s : State) (a rs ra imm : Nat) (p : AddrAt), stopped s = false → mayIssue s a = true → waitsForLoad s a [rs, ra]
    = false → fetchFault s a = none → accessFault s a ((greg s a ra + wrapInt 64 (signed 16 imm)) % 2 ^ 64)
    ⟨1, true, false, false⟩ = none → accessWaits s a ((greg s a ra + wrapInt 64 (signed 16 imm)) % 2 ^ 64)
    ⟨1, true, false, false⟩ = false → resolve s a ((greg s a ra + wrapInt 64 (signed 16 imm)) % 2 ^ 64) 1 = some p →
    exec (.stb a rs ra imm) s = .next (storeAt stewardHook a ((greg s a ra + wrapInt 64 (signed 16 imm)) % 2 ^ 64)
    (plainAccess 1 true) (greg s a rs % 2 ^ (8 * 1)) p (updAgent (countIssue s a) a fun y =>
    { y with fence := false }))) ∧
  (∀ (s : State) (a rs ra imm c : Nat), stopped s = false → mayIssue s a = true → waitsForLoad s a [rs, ra] = false →
    fetchFault s a = none → accessFault s a ((greg s a ra + wrapInt 64 (signed 16 imm)) % 2 ^ 64)
    ⟨1, true, false, false⟩ = some c → exec (.stb a rs ra imm) s = .next (exception (countIssue s a) a c ((greg s a ra
    + wrapInt 64 (signed 16 imm)) % 2 ^ 64))) ∧
  (∀ (s : State) (a rs ra imm : Nat) (p : AddrAt), stopped s = false → mayIssue s a = true → waitsForLoad s a [rs, ra]
    = false → fetchFault s a = none → accessFault s a ((greg s a ra + wrapInt 64 (signed 16 imm)) % 2 ^ 64)
    ⟨2, true, false, false⟩ = none → accessWaits s a ((greg s a ra + wrapInt 64 (signed 16 imm)) % 2 ^ 64)
    ⟨2, true, false, false⟩ = false → resolve s a ((greg s a ra + wrapInt 64 (signed 16 imm)) % 2 ^ 64) 2 = some p →
    exec (.sth a rs ra imm) s = .next (storeAt stewardHook a ((greg s a ra + wrapInt 64 (signed 16 imm)) % 2 ^ 64)
    (plainAccess 2 true) (greg s a rs % 2 ^ (8 * 2)) p (updAgent (countIssue s a) a fun y =>
    { y with fence := false }))) ∧
  (∀ (s : State) (a rs ra imm c : Nat), stopped s = false → mayIssue s a = true → waitsForLoad s a [rs, ra] = false →
    fetchFault s a = none → accessFault s a ((greg s a ra + wrapInt 64 (signed 16 imm)) % 2 ^ 64)
    ⟨2, true, false, false⟩ = some c → exec (.sth a rs ra imm) s = .next (exception (countIssue s a) a c ((greg s a ra
    + wrapInt 64 (signed 16 imm)) % 2 ^ 64))) ∧
  (∀ (s : State) (a rs ra imm : Nat) (p : AddrAt), stopped s = false → mayIssue s a = true → waitsForLoad s a [rs, ra]
    = false → fetchFault s a = none → accessFault s a ((greg s a ra + wrapInt 64 (signed 16 imm)) % 2 ^ 64)
    ⟨4, true, false, false⟩ = none → accessWaits s a ((greg s a ra + wrapInt 64 (signed 16 imm)) % 2 ^ 64)
    ⟨4, true, false, false⟩ = false → resolve s a ((greg s a ra + wrapInt 64 (signed 16 imm)) % 2 ^ 64) 4 = some p →
    exec (.stw a rs ra imm) s = .next (storeAt stewardHook a ((greg s a ra + wrapInt 64 (signed 16 imm)) % 2 ^ 64)
    (plainAccess 4 true) (greg s a rs % 2 ^ (8 * 4)) p (updAgent (countIssue s a) a fun y =>
    { y with fence := false }))) ∧
  (∀ (s : State) (a rs ra imm c : Nat), stopped s = false → mayIssue s a = true → waitsForLoad s a [rs, ra] = false →
    fetchFault s a = none → accessFault s a ((greg s a ra + wrapInt 64 (signed 16 imm)) % 2 ^ 64)
    ⟨4, true, false, false⟩ = some c → exec (.stw a rs ra imm) s = .next (exception (countIssue s a) a c ((greg s a ra
    + wrapInt 64 (signed 16 imm)) % 2 ^ 64))) ∧
  (∀ (s : State) (a rs ra imm : Nat) (p : AddrAt), stopped s = false → mayIssue s a = true → waitsForLoad s a [rs, ra]
    = false → fetchFault s a = none → accessFault s a ((greg s a ra + wrapInt 64 (signed 16 imm)) % 2 ^ 64)
    ⟨8, true, false, false⟩ = none → accessWaits s a ((greg s a ra + wrapInt 64 (signed 16 imm)) % 2 ^ 64)
    ⟨8, true, false, false⟩ = false → resolve s a ((greg s a ra + wrapInt 64 (signed 16 imm)) % 2 ^ 64) 8 = some p →
    exec (.std a rs ra imm) s = .next (storeAt stewardHook a ((greg s a ra + wrapInt 64 (signed 16 imm)) % 2 ^ 64)
    (plainAccess 8 true) (greg s a rs % 2 ^ (8 * 8)) p (updAgent (countIssue s a) a fun y =>
    { y with fence := false }))) ∧
  (∀ (s : State) (a rs ra imm c : Nat), stopped s = false → mayIssue s a = true → waitsForLoad s a [rs, ra] = false →
    fetchFault s a = none → accessFault s a ((greg s a ra + wrapInt 64 (signed 16 imm)) % 2 ^ 64)
    ⟨8, true, false, false⟩ = some c → exec (.std a rs ra imm) s = .next (exception (countIssue s a) a c ((greg s a ra
    + wrapInt 64 (signed 16 imm)) % 2 ^ 64))) ∧
  (∀ (s : State) (a rs ra imm : Nat) (p : AddrAt), stopped s = false → mayIssue s a = true → waitsForLoad s a (ra ::
    groupRegs rs) = false → fetchFault s a = none → lineGroup rs = true → accessFault s a ((greg s a ra + wrapInt 64
    (signed 16 imm)) % 2 ^ 64) ⟨64, true, false, true⟩ = none → accessWaits s a ((greg s a ra + wrapInt 64 (signed 16
    imm)) % 2 ^ 64) ⟨64, true, false, true⟩ = false → resolve s a ((greg s a ra + wrapInt 64 (signed 16 imm)) % 2 ^
    64) 64 = some p → exec (.stl a rs ra imm) s = .next (storeAt stewardHook a ((greg s a ra + wrapInt 64 (signed 16
    imm)) % 2 ^ 64) (plainAccess 64 true) (groupValue s a rs) p (updAgent (countIssue s a) a fun y =>
    { y with fence := false }))) ∧
  (∀ (s : State) (a rs ra imm : Nat), stopped s = false → mayIssue s a = true → waitsForLoad s a [ra] = false →
    fetchFault s a = none → lineGroup rs = false → exec (.stl a rs ra imm) s = .next (exception (countIssue s a) a
    exIllegal 0)) ∧
  (∀ (s : State) (a rd ra rb fn : Nat) (p : AddrAt), stopped s = false → mayIssue s a = true → waitsForLoad s a [rd,
    ra, rb] = false → fetchFault s a = none → accessFault s a (greg s a ra) ⟨8, true, true, false⟩ = none →
    accessWaits s a (greg s a ra) ⟨8, true, true, false⟩ = false → resolve s a (greg s a ra) 8 = some p → fn ≤ 4 →
    exec (.amo a rd ra rb fn) s = .next (atomicAt a rd (greg s a ra) (fun old => (amoFn fn old (greg s a rb)).getD
    old) p (updAgent (countIssue s a) a fun y => { y with fence := false }))) ∧
  (∀ (s : State) (a rd ra rb fn : Nat), stopped s = false → mayIssue s a = true → waitsForLoad s a [rd, ra, rb] =
    false → fetchFault s a = none → 5 ≤ fn → exec (.amo a rd ra rb fn) s = .next (exception (countIssue s a) a
    exIllegal 0)) ∧
  (∀ (s : State) (a rd ra rb : Nat) (p : AddrAt), stopped s = false → mayIssue s a = true → waitsForLoad s a [rd, ra,
    rb] = false → fetchFault s a = none → accessFault s a (greg s a ra) ⟨8, true, true, false⟩ = none → accessWaits s
    a (greg s a ra) ⟨8, true, true, false⟩ = false → resolve s a (greg s a ra) 8 = some p → exec (.cas a rd ra rb) s =
    .next (atomicAt a rd (greg s a ra) (fun old => if old = greg s a rd then greg s a rb else old) p (updAgent
    (countIssue s a) a fun y => { y with fence := false }))) ∧
  (∀ (s : State) (a : Nat) (l : Load) (rest : List Load) (data : Bytes) (ok : Bool), stopped s = false → (agentInt s
    a).loads = l :: rest → exec (.loadReturn a data ok) s = .next (returnLoad s a l data ok))

/-- THSET, THGO and THSTOP of a master thread act on a thread of its core and give rd 0. THEXIT stops its thread. BSEND
  with a free credit queues the staging area's 64 bytes and gives rd 0; BRECV moves the head baton into the receive
  area. CREDIT_GRANT completes a blocked BSEND. WAIT returns the ready sources, or blocks. HURDLE fences the next
  access. SRR and SRW reach special registers; a read of EVCNT clears both counts. An armed timer that is reached
  shows timer_fired; a stalled core is recorded once. -/
def Obligations.RelayThreadsAndBatons : Prop :=
  (∀ (s : State) (a fn : Nat), stopped s = false → mayIssue s a = true → waitsForLoad s a [] = false → fetchFault s a
    = none → (agentInt s a).touched = [] → ∃ t, exec (.relayHurdle a fn) s = .next t ∧ (agentInt t a).fence = true ∧
    (agentInt t a).loads = (agentInt s a).loads ∧ agentPc t a = (agentPc s a + 4) % 2 ^ 48 ∧ t.mem = s.mem ∧ t.hostMem
    = s.hostMem ∧ t.links = s.links ∧ ∀ r, greg t a r = greg s a r) ∧
  (∀ (s : State) (a rd ra fn ch : Nat), stopped s = false → mayIssue s a = true → waitsForLoad s a [rd, ra] = false →
    fetchFault s a = none → a < 512 → bitsAt (greg s a ra) 0 12 = ch → unitChannel s ch = false → (Map.get s.rly.chans
    ch).length < 16 → requesters s ch = [] → Map.get s.rly.receivers ch = [] → ∃ t, exec (.bsend a rd ra fn) s = .next
    t ∧ Map.get t.rly.chans ch = Map.get s.rly.chans ch ++ [⟨stagingImage s a, a⟩] ∧ Map.get t.rly.lastGrant ch = a +
    1 ∧ greg t a rd = 0 ∧ agentPc t a = (agentPc s a + 4) % 2 ^ 48 ∧ t.mem = s.mem ∧ t.hostMem = s.hostMem ∧ t.links =
    s.links) ∧
  (∀ (s : State) (a rd ra fn ch : Nat) (b : Baton) (rest : List Baton), stopped s = false → mayIssue s a = true →
    waitsForLoad s a [rd, ra] = false → fetchFault s a = none → a < 512 → bitsAt (greg s a ra) 0 12 = ch → ch / 512 =
    clusterOf a → unitChannel s ch = false → Map.get s.rly.chans ch = b :: rest → ∃ t, exec (.brecv a rd ra fn) s =
    .next t ∧ memLoad t (receiveAddr a) 64 = leBytes 64 b.image ∧ Map.get t.rly.chans ch = rest ∧ t.rd RLY_CHAN.queued
    ch = rest.length % 2 ^ 5 ∧ greg t a rd = 0 ∧ agentPc t a = (agentPc s a + 4) % 2 ^ 48 ∧ t.hostMem = s.hostMem ∧
    t.links = s.links) ∧
  (∀ (s : State) (a rd mask v : Nat), stopped s = false → mayIssue s a = true → waitsForLoad s a [rd] = false →
    fetchFault s a = none → a < 512 → (mask % 2 = 1 && watchesAbroad s a) = false → v = readyMask s a &&& mask → (v ≠
    0 ∨ mask = 0) → ∃ t, exec (.wait a rd mask) s = .next t ∧ greg t a rd = (if rd % 32 = 0 then 0 else v % 2 ^ 64) ∧
    agentPc t a = (agentPc s a + 4) % 2 ^ 48 ∧ threadState t a = threadState s a ∧ t.mem = s.mem ∧ t.hostMem =
    s.hostMem ∧ t.links = s.links) ∧
  (∀ (s : State) (a rd mask : Nat), stopped s = false → mayIssue s a = true → waitsForLoad s a [rd] = false →
    fetchFault s a = none → a < 512 → (mask % 2 = 1 && watchesAbroad s a) = false → mask ≠ 0 → readyMask s a &&& mask
    = 0 → ∃ t, exec (.wait a rd mask) s = .next t ∧ threadState t a = thWait ∧ (threadInt t a).wait = .events mask rd
    ∧ agentPc t a = agentPc s a ∧ t.mem = s.mem ∧ t.hostMem = s.hostMem ∧ t.links = s.links ∧ ∀ r, greg t a r = greg s
    a r) ∧
  (∀ (s : State) (a rd ra rb n : Nat), stopped s = false → mayIssue s a = true → waitsForLoad s a [rd, ra, rb] = false
    → fetchFault s a = none → a < 512 → a % 8 = 0 → 1 ≤ n → n ≤ 7 → threadState s (a + n) = thStopped → rd % 32 ≠ ra %
    32 → ∃ t, exec (.thset a rd ra rb n) s = .next t ∧ t.rd RLY_THCTX.pc (a + n) = greg s a ra % 2 ^ 48 ∧ t.rd
    RLY_THCTX.arg (a + n) = greg s a rb % 2 ^ 64 ∧ threadState t (a + n) = thStopped ∧ greg t a rd = 0 ∧ agentPc t a =
    (agentPc s a + 4) % 2 ^ 48 ∧ t.mem = s.mem ∧ t.hostMem = s.hostMem ∧ t.links = s.links) ∧
  (∀ (s : State) (a rd n : Nat), stopped s = false → mayIssue s a = true → waitsForLoad s a [rd] = false → fetchFault
    s a = none → a < 512 → a % 8 = 0 → 1 ≤ n → n ≤ 7 → threadState s (a + n) = thStopped → ∃ t, exec (.thgo a rd n) s
    = .next t ∧ threadState t (a + n) = thReady ∧ agentPc t (a + n) = s.rd RLY_THCTX.pc (a + n) ∧ greg t (a + n) 1 =
    s.rd RLY_THCTX.arg (a + n) % 2 ^ 64 ∧ (threadInt t (a + n)).account = s.rd RLY_THCTX.account (a + n) ∧ greg t a rd
    = 0 ∧ agentPc t a = (agentPc s a + 4) % 2 ^ 48 ∧ t.mem = s.mem ∧ t.hostMem = s.hostMem ∧ t.links = s.links) ∧
  (∀ (s : State) (a rd n : Nat), stopped s = false → mayIssue s a = true → waitsForLoad s a [rd] = false → fetchFault
    s a = none → a < 512 → a % 8 = 0 → 1 ≤ n → n ≤ 7 → threadState s (a + n) = thReady → ∃ t, exec (.thstop a rd n) s
    = .next t ∧ threadState t (a + n) = thStopped ∧ t.rd RLY_THCTX.dma_ev (a + n) = 0 ∧ (agentInt t (a + n)).loads =
    (agentInt s (a + n)).loads.map discardLoad ∧ greg t a rd = 0 ∧ agentPc t a = (agentPc s a + 4) % 2 ^ 48 ∧ t.mem =
    s.mem ∧ t.hostMem = s.hostMem ∧ t.links = s.links) ∧
  (∀ (s : State) (a rd n : Nat), stopped s = false → mayIssue s a = true → waitsForLoad s a [rd] = false → fetchFault
    s a = none → a < 512 → a % 8 = 0 → 1 ≤ n → n ≤ 7 → threadState s (a + n) = thFaulted → ∃ t, exec (.thstop a rd n)
    s = .next t ∧ threadState t (a + n) = thFaulted ∧ greg t a rd = (if rd % 32 = 0 then 0 else 1) ∧ agentPc t a =
    (agentPc s a + 4) % 2 ^ 48 ∧ t.mem = s.mem ∧ t.hostMem = s.hostMem ∧ t.links = s.links) ∧
  (∀ (s : State) (a : Nat), stopped s = false → mayIssue s a = true → waitsForLoad s a [] = false → fetchFault s a =
    none → a < 512 → ∃ t, exec (.thexit a) s = .next t ∧ threadState t a = thStopped ∧ agentPc t a = (agentPc s a + 4)
    % 2 ^ 48 ∧ (agentInt t a).loads = (agentInt s a).loads.map discardLoad ∧ t.rd RLY_THCTX.dma_ev a = 0 ∧ t.mem =
    s.mem ∧ t.hostMem = s.hostMem ∧ t.links = s.links ∧ ∀ r, greg t a r = greg s a r) ∧
  (∀ (s : State) (ch t0 rd : Nat), stopped s = false → ch < 4096 → requesters s ch = [t0] → t0 < 512 → Map.get
    s.rly.senders ch = [t0] → (threadInt s t0).wait = .send ch rd → (Map.get s.rly.chans ch).length < 16 → unitChannel
    s ch = false → Map.get s.rly.receivers ch = [] → readyMask s t0 = 0 → ∃ t, exec (.creditGrant ch) s = .next t ∧
    Map.get t.rly.chans ch = Map.get s.rly.chans ch ++ [⟨stagingImage s t0, t0⟩] ∧ Map.get t.rly.senders ch = [] ∧
    threadState t t0 = thReady ∧ greg t t0 rd = 0 ∧ agentPc t t0 = (agentPc s t0 + 4) % 2 ^ 48 ∧ t.mem = s.mem ∧
    t.hostMem = s.hostMem ∧ t.links = s.links) ∧
  (∀ (s : State) (t0 : Nat), stopped s = false → t0 < 512 → (threadInt s t0).armed = true → (threadInt s t0).timer ≤
    now s → threadState s t0 = thReady → ∃ t, exec (.threadTimer t0) s = .next t ∧ t.rd RLY_THCTX.timer_fired t0 = 1 ∧
    (threadInt t t0).armed = false ∧ threadState t t0 = thReady ∧ t.rly.agents = s.rly.agents ∧ t.mem = s.mem ∧
    t.hostMem = s.hostMem ∧ t.links = s.links) ∧
  (∀ (s : State) (c : Nat), stopped s = false → c < 64 → coreStalled s c = true → s.rd RLY_STALL_CYCLES.cycles ≠ 0 →
    s.rd RLY_STALL_CYCLES.cycles ≤ Map.get s.rly.stallFor c → s.rly.stalled.contains c = false → ∃ t, exec
    (.stallDetect c) s = .next t ∧ t.rly.stalled = s.rly.stalled ++ [c] ∧ t.rd RLY_STALLQ.core = c ∧ t.rd
    RLY_STALLQ.count = min 255 (s.rd RLY_STALLQ.count + 1) ∧ t.rd IRQ_SRC.asserted 0x180 = 1 ∧ t.mem = s.mem ∧
    t.hostMem = s.hostMem) ∧
  (∀ (s : State) (a rd n v : Nat), stopped s = false → mayIssue s a = true → waitsForLoad s a [rd] = false →
    fetchFault s a = none → (n, v) ∈ [(0x000, a), (0x003, now s)] → ∃ t, exec (.srr a rd n) s = .next t ∧ greg t a rd
    = (if rd % 32 = 0 then 0 else v % 2 ^ 64) ∧ agentPc t a = (agentPc s a + 4) % 2 ^ 48 ∧ t.mem = s.mem ∧ t.hostMem =
    s.hostMem ∧ t.links = s.links) ∧
  (∀ (s : State) (a rd : Nat), stopped s = false → mayIssue s a = true → waitsForLoad s a [rd] = false → fetchFault s
    a = none → a < 512 → ∃ t, exec (.srr a rd 0x005) s = .next t ∧ greg t a rd = (if rd % 32 = 0 then 0 else (s.rd
    RLY_THCTX.dma_ev a + s.rd RLY_THCTX.pkt_ev a * 256) % 2 ^ 64) ∧ t.rd RLY_THCTX.dma_ev a = 0 ∧ t.rd
    RLY_THCTX.pkt_ev a = 0 ∧ agentPc t a = (agentPc s a + 4) % 2 ^ 48 ∧ t.mem = s.mem ∧ t.hostMem = s.hostMem ∧
    t.links = s.links) ∧
  (∀ (s : State) (a ra : Nat), stopped s = false → mayIssue s a = true → waitsForLoad s a [ra] = false → fetchFault s
    a = none → a < 512 → ∃ t, exec (.srw a ra 0x004) s = .next t ∧ (threadInt t a).timer = greg s a ra ∧ (threadInt t
    a).armed = decide (greg s a ra ≠ 0) ∧ t.rd RLY_THCTX.timer_fired a = 0 ∧ agentPc t a = (agentPc s a + 4) % 2 ^ 48
    ∧ t.mem = s.mem ∧ t.hostMem = s.hostMem ∧ t.links = s.links ∧ ∀ r, greg t a r = greg s a r) ∧
  (∀ (s : State) (a ra : Nat), stopped s = false → mayIssue s a = true → waitsForLoad s a [ra] = false → fetchFault s
    a = none → 512 ≤ a → (stewardInt s (a - 512)).user = false → ∃ t, exec (.srw a ra 0x104) s = .next t ∧ (stewardInt
    t (a - 512)).svec = greg s a ra - greg s a ra % 64 ∧ agentPc t a = (agentPc s a + 4) % 2 ^ 48 ∧ t.regs = s.regs ∧
    t.mem = s.mem ∧ t.hostMem = s.hostMem ∧ t.links = s.links ∧ ∀ r, greg t a r = greg s a r) ∧
  (∀ (s : State) (a fn : Nat), stopped s = false → mayIssue s a = true → waitsForLoad s a [] = false → fetchFault s a
    = none → exec (.relayHurdle a fn) s = .next (advance (fenceAccesses (countIssue s a) a) a)) ∧
  (∀ (s : State) (a rd ra fn ch : Nat), stopped s = false → mayIssue s a = true → waitsForLoad s a [rd, ra] = false →
    fetchFault s a = none → a < 512 → bitsAt (greg s a ra) 0 12 = ch → grantWinner s ch (requesters s ch ++ [a]) =
    some a → exec (.bsend a rd ra fn) s = .next (retireTo (sendStaged (countIssue s a) a ch) a rd 0)) ∧
  (∀ (s : State) (a rd ra fn ch : Nat) (x : Nat), stopped s = false → mayIssue s a = true → waitsForLoad s a [rd, ra]
    = false → fetchFault s a = none → a < 512 → bitsAt (greg s a ra) 0 12 = ch → grantWinner s ch (requesters s ch ++
    [a]) = some x → x ≠ a → exec (.bsend a rd ra fn) s = .next (noCredit (if isThread x then grantThread (countIssue s
    a) x ch else (countIssue s a)) a ch rd (fn % 2 = 1))) ∧
  (∀ (s : State) (a rd ra fn ch : Nat), stopped s = false → mayIssue s a = true → waitsForLoad s a [rd, ra] = false →
    fetchFault s a = none → a < 512 → bitsAt (greg s a ra) 0 12 = ch → grantWinner s ch (requesters s ch ++ [a]) =
    none → exec (.bsend a rd ra fn) s = .next (noCredit (countIssue s a) a ch rd (fn % 2 = 1))) ∧
  (∀ (s : State) (a rd ra fn ch : Nat) (b : Baton) (rest : List Baton), stopped s = false → mayIssue s a = true →
    waitsForLoad s a [rd, ra] = false → fetchFault s a = none → a < 512 → bitsAt (greg s a ra) 0 12 = ch → ch / 512 =
    clusterOf a → unitChannel s ch = false → Map.get s.rly.chans ch = b :: rest → exec (.brecv a rd ra fn) s = .next
    (retireTo (takeBaton (countIssue s a) a ch b) a rd 0)) ∧
  (∀ (s : State) (a rd ra fn ch : Nat), stopped s = false → mayIssue s a = true → waitsForLoad s a [rd, ra] = false →
    fetchFault s a = none → a < 512 → bitsAt (greg s a ra) 0 12 = ch → ch / 512 = clusterOf a → unitChannel s ch =
    false → Map.get s.rly.chans ch = [] → fn % 2 = 1 → exec (.brecv a rd ra fn) s = .next (retireTo (countIssue s a) a
    rd 1)) ∧
  (∀ (s : State) (a rd ra fn ch : Nat), stopped s = false → mayIssue s a = true → waitsForLoad s a [rd, ra] = false →
    fetchFault s a = none → a < 512 → bitsAt (greg s a ra) 0 12 = ch → ch / 512 = clusterOf a → unitChannel s ch =
    false → Map.get s.rly.chans ch = [] → fn % 2 = 0 → exec (.brecv a rd ra fn) s = .next
    (let t := (countIssue s a); syncChan (block { t with rly := { t.rly with receivers := Map.upd t.rly.receivers ch fun l => l ++ [a] } } a (.recv ch rd)) ch)) ∧
  (∀ (s : State) (a rd ra fn ch : Nat), stopped s = false → mayIssue s a = true → waitsForLoad s a [rd, ra] = false →
    fetchFault s a = none → a < 512 → bitsAt (greg s a ra) 0 12 = ch → (ch / 512 ≠ clusterOf a ∨ unitChannel s ch =
    true) → exec (.brecv a rd ra fn) s = .next (exception (countIssue s a) a exChannel 0)) ∧
  (∀ (s : State) (a rd mask : Nat), stopped s = false → mayIssue s a = true → waitsForLoad s a [rd] = false →
    fetchFault s a = none → a < 512 → (mask % 2 = 1 && watchesAbroad s a) = false → (mask = 0 ∨ readyMask s a &&& mask
    ≠ 0) → exec (.wait a rd mask) s = .next (retireTo (countIssue s a) a rd (readyMask s a &&& mask))) ∧
  (∀ (s : State) (a rd mask : Nat), stopped s = false → mayIssue s a = true → waitsForLoad s a [rd] = false →
    fetchFault s a = none → a < 512 → (mask % 2 = 1 && watchesAbroad s a) = false → mask ≠ 0 → readyMask s a &&& mask
    = 0 → exec (.wait a rd mask) s = .next (block (countIssue s a) a (.events mask rd))) ∧
  (∀ (s : State) (a rd ra rb n : Nat), stopped s = false → mayIssue s a = true → waitsForLoad s a [rd, ra, rb] = false
    → fetchFault s a = none → a < 512 → a % 8 = 0 → 1 ≤ n → n ≤ 7 → threadState s (a + n) = thStopped → exec (.thset a
    rd ra rb n) s = .next (retireTo (((countIssue s a).wr RLY_THCTX.pc (greg s a ra) (a + n)).wr RLY_THCTX.arg (greg s
    a rb) (a + n)) a rd 0)) ∧
  (∀ (s : State) (a rd ra rb n : Nat), stopped s = false → mayIssue s a = true → waitsForLoad s a [rd, ra, rb] = false
    → fetchFault s a = none → a < 512 → a % 8 = 0 → 1 ≤ n → n ≤ 7 → threadState s (a + n) ≠ thStopped → exec (.thset a
    rd ra rb n) s = .next (retireTo (countIssue s a) a rd 1)) ∧
  (∀ (s : State) (a rd ra rb n : Nat), stopped s = false → mayIssue s a = true → waitsForLoad s a [rd] = false →
    fetchFault s a = none → a < 512 → a % 8 = 0 → 1 ≤ n → n ≤ 7 → threadState s (a + n) = thStopped → exec (.thgo a rd
    n) s = .next (retireTo (startThread (countIssue s a) (a + n)) a rd 0)) ∧
  (∀ (s : State) (a rd ra rb n : Nat), stopped s = false → mayIssue s a = true → waitsForLoad s a [rd] = false →
    fetchFault s a = none → a < 512 → a % 8 = 0 → 1 ≤ n → n ≤ 7 → threadState s (a + n) ≠ thStopped → exec (.thgo a rd
    n) s = .next (retireTo (countIssue s a) a rd 1)) ∧
  (∀ (s : State) (a rd ra rb n : Nat), stopped s = false → mayIssue s a = true → waitsForLoad s a [rd] = false →
    fetchFault s a = none → a < 512 → a % 8 = 0 → 1 ≤ n → n ≤ 7 → stoppableThread (threadState s (a + n)) = true →
    exec (.thstop a rd n) s = .next (retireTo (stopThread (countIssue s a) (a + n)) a rd 0)) ∧
  (∀ (s : State) (a rd ra rb n : Nat), stopped s = false → mayIssue s a = true → waitsForLoad s a [rd] = false →
    fetchFault s a = none → a < 512 → a % 8 = 0 → 1 ≤ n → n ≤ 7 → stoppableThread (threadState s (a + n)) = false →
    exec (.thstop a rd n) s = .next (retireTo (countIssue s a) a rd 1)) ∧
  (∀ (s : State) (a rd ra rb n : Nat), stopped s = false → mayIssue s a = true → waitsForLoad s a [rd, ra, rb] = false
    → fetchFault s a = none → a < 512 → (a % 8 ≠ 0 ∨ n = 0 ∨ 7 < n) → exec (.thset a rd ra rb n) s = .next (retireTo
    (countIssue s a) a rd 2)) ∧
  (∀ (s : State) (a rd ra rb n : Nat), stopped s = false → mayIssue s a = true → waitsForLoad s a [rd] = false →
    fetchFault s a = none → a < 512 → (a % 8 ≠ 0 ∨ n = 0 ∨ 7 < n) → exec (.thgo a rd n) s = .next (retireTo
    (countIssue s a) a rd 2)) ∧
  (∀ (s : State) (a rd ra rb n : Nat), stopped s = false → mayIssue s a = true → waitsForLoad s a [rd] = false →
    fetchFault s a = none → a < 512 → (a % 8 ≠ 0 ∨ n = 0 ∨ 7 < n) → exec (.thstop a rd n) s = .next (retireTo
    (countIssue s a) a rd 2)) ∧
  (∀ (s : State) (a : Nat), stopped s = false → mayIssue s a = true → waitsForLoad s a [] = false → fetchFault s a =
    none → a < 512 → exec (.thexit a) s = .next (stopThread (advance (countIssue s a) a) a)) ∧
  (∀ (s : State) (a rd ra rb n : Nat), stopped s = false → mayIssue s a = true → waitsForLoad s a [rd, ra, rb] = false
    → fetchFault s a = none → 512 ≤ a → exec (.thset a rd ra rb n) s = .next (exception (countIssue s a) a exIllegal
    0)) ∧
  (∀ (s : State) (a rd n : Nat), stopped s = false → mayIssue s a = true → waitsForLoad s a [rd] = false → fetchFault
    s a = none → 512 ≤ a → exec (.thgo a rd n) s = .next (exception (countIssue s a) a exIllegal 0)) ∧
  (∀ (s : State) (a rd n : Nat), stopped s = false → mayIssue s a = true → waitsForLoad s a [rd] = false → fetchFault
    s a = none → 512 ≤ a → exec (.thstop a rd n) s = .next (exception (countIssue s a) a exIllegal 0)) ∧
  (∀ (s : State) (a : Nat), stopped s = false → mayIssue s a = true → waitsForLoad s a [] = false → fetchFault s a =
    none → 512 ≤ a → exec (.thexit a) s = .next (exception (countIssue s a) a exIllegal 0)) ∧
  (∀ (s : State) (a rd ra fn : Nat), stopped s = false → mayIssue s a = true → waitsForLoad s a [rd, ra] = false →
    fetchFault s a = none → 512 ≤ a → exec (.bsend a rd ra fn) s = .next (exception (countIssue s a) a exIllegal 0)) ∧
  (∀ (s : State) (a rd ra fn : Nat), stopped s = false → mayIssue s a = true → waitsForLoad s a [rd, ra] = false →
    fetchFault s a = none → 512 ≤ a → exec (.brecv a rd ra fn) s = .next (exception (countIssue s a) a exIllegal 0)) ∧
  (∀ (s : State) (a rd mask : Nat), stopped s = false → mayIssue s a = true → waitsForLoad s a [rd] = false →
    fetchFault s a = none → 512 ≤ a → exec (.wait a rd mask) s = .next (exception (countIssue s a) a exIllegal 0)) ∧
  (∀ (s : State) (ch x : Nat), stopped s = false → ch < 4096 → grantWinner s ch (requesters s ch) = some x → x < 512 →
    exec (.creditGrant ch) s = .next (grantThread s x ch)) ∧
  (∀ (s : State) (t0 : Nat), stopped s = false → t0 < 512 → (threadInt s t0).armed = true → (threadInt s t0).timer ≤
    now s → threadState s t0 ≠ thStopped → dueBefore s (threadInt s t0).timer = false → exec (.threadTimer t0) s =
    .next (wakeIfReady ((updThread (applyFirst .rly (threadInt s t0).timer s) t0 fun x =>
    { x with armed := false }).wr RLY_THCTX.timer_fired 1 t0) t0)) ∧
  (∀ (s : State) (c : Nat), stopped s = false → c < 64 → coreStalled s c = true → s.rd RLY_STALL_CYCLES.cycles ≠ 0 →
    s.rd RLY_STALL_CYCLES.cycles ≤ Map.get s.rly.stallFor c → s.rly.stalled.contains c = false → exec (.stallDetect c)
    s = .next (raise ((({ s with rly := { s.rly with stalled := s.rly.stalled ++ [c] } } : State).wr RLY_STALLQ.core
    c).countSat RLY_STALLQ.count) 0x180)) ∧
  (∀ (s : State) (a rd n : Nat), stopped s = false → mayIssue s a = true → waitsForLoad s a [rd] = false → fetchFault
    s a = none → specialFault s a n = none → exec (.srr a rd n) s = .next (retireTo (clearEvents (countIssue s a) a n)
    a rd (specialRead s a n))) ∧
  (∀ (s : State) (a ra n : Nat), stopped s = false → mayIssue s a = true → waitsForLoad s a [ra] = false → fetchFault
    s a = none → specialFault s a n = none → exec (.srw a ra n) s = .next (advance (specialWrite (countIssue s a) a n
    (greg s a ra)) a)) ∧
  (∀ (s : State) (a x n c : Nat), stopped s = false → mayIssue s a = true → waitsForLoad s a [x] = false → fetchFault
    s a = none → specialFault s a n = some c → exec (.srr a x n) s = .next (exception (countIssue s a) a c 0)) ∧
  (∀ (s : State) (a x n c : Nat), stopped s = false → mayIssue s a = true → waitsForLoad s a [x] = false → fetchFault
    s a = none → specialFault s a n = some c → exec (.srw a x n) s = .next (exception (countIssue s a) a c 0))

/-- Through RLY_TCMD a STOPPED thread starts once relay threads are released, any other stops, a READY thread halts at its
  pc, a HALTED one resumes there or executes one ADDI and halts again; result is 0. A START of a thread that is not
  STOPPED gives result 1 and leaves it. The debug unit reads and writes the registers of a HALTED thread. Reads of
  RLY_STALLQ and RLY_FAULTQ return and clear their counts. -/
def Obligations.RelayThreadsUnderSoftwareControl : Prop :=
  (∀ (s : State) (who : Initiator) (t0 : Nat), stopped s = false → writable who RLY_TCMD.go 0 s = true → t0 < 512 →
    threadState s t0 = thStopped → s.rd BOOT_CTL.relay_release = 1 → ∃ t, exec (.relayStart who t0) s = .next t ∧
    threadState t t0 = thReady ∧ agentPc t t0 = s.rd RLY_THCTX.pc t0 ∧ greg t t0 1 = s.rd RLY_THCTX.arg t0 % 2 ^ 64 ∧
    t.rd RLY_TCMD.result = 0 ∧ t.mem = s.mem ∧ t.hostMem = s.hostMem ∧ t.links = s.links) ∧
  (∀ (s : State) (who : Initiator) (t0 : Nat), stopped s = false → writable who RLY_TCMD.go 0 s = true → t0 < 512 →
    threadState s t0 ≠ thStopped → exec (.relayStart who t0) s = .next (((s.wr RLY_TCMD.thread t0).wr RLY_TCMD.action
    0).wr RLY_TCMD.result 1)) ∧
  (∀ (s : State) (who : Initiator) (t0 : Nat), stopped s = false → writable who RLY_TCMD.go 0 s = true → t0 < 512 →
    threadState s t0 ≠ thStopped → ∃ t, exec (.relayStop who t0) s = .next t ∧ threadState t t0 = thStopped ∧
    (agentInt t t0).loads = (agentInt s t0).loads.map discardLoad ∧ t.rd RLY_THCTX.dma_ev t0 = 0 ∧ t.rd
    RLY_TCMD.result = 0 ∧ t.mem = s.mem ∧ t.hostMem = s.hostMem ∧ t.links = s.links) ∧
  (∀ (s : State) (who : Initiator) (t0 : Nat), stopped s = false → writable who RLY_TCMD.go 0 s = true → t0 < 512 →
    threadState s t0 = thReady → ∃ t, exec (.threadHalt who t0) s = .next t ∧ threadState t t0 = thHalted ∧ t.rd
    RLY_THCTX.pc t0 = agentPc s t0 % 2 ^ 48 ∧ t.rd RLY_TCMD.result = 0 ∧ t.rd IRQ_SRC.asserted 0x182 = 1 ∧
    t.rly.agents = s.rly.agents ∧ t.mem = s.mem ∧ t.hostMem = s.hostMem) ∧
  (∀ (s : State) (who : Initiator) (t0 : Nat), stopped s = false → writable who RLY_TCMD.go 0 s = true → t0 < 512 →
    threadState s t0 = thHalted → ∃ t, exec (.relayResume who t0) s = .next t ∧ threadState t t0 = thReady ∧ agentPc t
    t0 = s.rd RLY_THCTX.pc t0 % 2 ^ 48 ∧ t.rd RLY_TCMD.result = 0 ∧ t.rly.chans = s.rly.chans ∧ t.mem = s.mem ∧
    t.hostMem = s.hostMem ∧ t.links = s.links) ∧
  (∀ (s : State) (who : Initiator) (t0 rd ra imm : Nat), stopped s = false → writable who RLY_TCMD.go 0 s = true → t0
    < 512 → threadState s t0 = thHalted → s.on RLY_THCTX.budget_held t0 = false → s.rd RLY_THCTX.pc t0 % 4 = 0 → s.rd
    RLY_THCTX.pc t0 + 4 ≤ 0x40000 → (agentInt s t0).loads = [] → rd % 32 ≠ 0 → decodeRelay (ofLe (memLoad s (localBase
    (coreOf t0) + s.rd RLY_THCTX.pc t0) 4)) = some (.addi rd ra imm) → ∃ t, exec (.threadStep who t0) s = .next t ∧
    threadState t t0 = thHalted ∧ greg t t0 rd = (greg s t0 ra + wrapInt 64 (signed 16 imm)) % 2 ^ 64 ∧ t.rd
    RLY_THCTX.pc t0 = s.rd RLY_THCTX.pc t0 + 4 ∧ agentPc t t0 = s.rd RLY_THCTX.pc t0 + 4 ∧ t.rd RLY_TCMD.result = 0 ∧
    t.mem = s.mem ∧ t.hostMem = s.hostMem) ∧
  (∀ (s : State) (who : Initiator) (t0 r : Nat), stopped s = false → writable who RLY_DBG.go 0 s = true → t0 < 512 →
    threadState s t0 = thHalted → r < 32 → exec (.debugRead who t0 r) s = .next (((((s.wr RLY_DBG.thread t0).wr
    RLY_DBG.reg r).wr RLY_DBG.write 0).wr RLY_DBG.bad_state 0).wr RLY_DBG_DATA.data (greg s t0 r))) ∧
  (∀ (s : State) (who : Initiator) (t0 r v : Nat), stopped s = false → writable who RLY_DBG.go 0 s = true → t0 < 512 →
    threadState s t0 = thHalted → 1 ≤ r → r < 32 → ∃ t, exec (.debugWrite who t0 r v) s = .next t ∧ greg t t0 r = v %
    2 ^ 64 ∧ t.rd RLY_DBG.bad_state = 0 ∧ t.rd RLY_DBG_DATA.data = v % 2 ^ 64 ∧ threadState t t0 = thHalted ∧ t.mem =
    s.mem ∧ t.hostMem = s.hostMem ∧ t.links = s.links ∧ ∀ x, x % 32 ≠ r → greg t t0 x = greg s t0 x) ∧
  (∀ (s : State) (who : Initiator), stopped s = false → reaches who Blk.rly.base = true → exec (.rlyStallqRead who) s
    = .next (({ s with rdata := s.rd RLY_STALLQ.core + (s.rd RLY_STALLQ.count) <<< 24 } : State).wr RLY_STALLQ.count
    0)) ∧
  (∀ (s : State) (who : Initiator), stopped s = false → reaches who Blk.rly.base = true → exec (.rlyFaultqRead who) s
    = .next
    (({ s with rdata := s.rd RLY_FAULTQ.thread + (s.rd RLY_FAULTQ.cause) <<< 16 + (s.rd RLY_FAULTQ.count) <<< 24 } :
    State).wr RLY_FAULTQ.count 0)) ∧
  (∀ (s : State) (who : Initiator) (t0 : Nat), stopped s = false → writable who RLY_TCMD.go 0 s = true → t0 < 512 →
    (threadState s t0 = thStopped ∧ s.on BOOT_CTL.relay_release = true) → exec (.relayStart who t0) s = .next
    (startThread (((s.wr RLY_TCMD.thread t0).wr RLY_TCMD.action 0).wr RLY_TCMD.result 0) t0)) ∧
  (∀ (s : State) (who : Initiator) (t0 : Nat), stopped s = false → writable who RLY_TCMD.go 0 s = true → t0 < 512 →
    threadState s t0 ≠ thStopped → exec (.relayStop who t0) s = .next (stopThread (((s.wr RLY_TCMD.thread t0).wr
    RLY_TCMD.action 1).wr RLY_TCMD.result 0) t0)) ∧
  (∀ (s : State) (who : Initiator) (t0 : Nat), stopped s = false → writable who RLY_TCMD.go 0 s = true → t0 < 512 →
    (threadState s t0 = thReady ∨ threadState s t0 = thWait) → exec (.threadHalt who t0) s = .next (haltThread (((s.wr
    RLY_TCMD.thread t0).wr RLY_TCMD.action 2).wr RLY_TCMD.result 0) t0)) ∧
  (∀ (s : State) (who : Initiator) (t0 : Nat), stopped s = false → writable who RLY_TCMD.go 0 s = true → t0 < 512 →
    threadState s t0 = thHalted → exec (.relayResume who t0) s = .next (resumeThread (((s.wr RLY_TCMD.thread t0).wr
    RLY_TCMD.action 3).wr RLY_TCMD.result 0) t0)) ∧
  (∀ (s : State) (who : Initiator) (t0 : Nat), stopped s = false → writable who RLY_TCMD.go 0 s = true → t0 < 512 →
    threadState s t0 = thHalted → exec (.threadStep who t0) s = .next (stepThread (((s.wr RLY_TCMD.thread t0).wr
    RLY_TCMD.action 4).wr RLY_TCMD.result 0) t0)) ∧
  (∀ (s : State) (who : Initiator) (t0 : Nat), stopped s = false → writable who RLY_TCMD.go 0 s = true → (512 ≤ t0 ∨
    threadState s t0 ≠ thStopped ∨ s.on BOOT_CTL.relay_release = false) → exec (.relayStart who t0) s = .next (((s.wr
    RLY_TCMD.thread t0).wr RLY_TCMD.action 0).wr RLY_TCMD.result 1)) ∧
  (∀ (s : State) (who : Initiator) (t0 : Nat), stopped s = false → writable who RLY_TCMD.go 0 s = true → (512 ≤ t0 ∨
    threadState s t0 = thStopped) → exec (.relayStop who t0) s = .next (((s.wr RLY_TCMD.thread t0).wr RLY_TCMD.action
    1).wr RLY_TCMD.result 1)) ∧
  (∀ (s : State) (who : Initiator) (t0 : Nat), stopped s = false → writable who RLY_TCMD.go 0 s = true → (512 ≤ t0 ∨
    threadState s t0 ≠ thReady ∧ threadState s t0 ≠ thWait) → exec (.threadHalt who t0) s = .next (((s.wr
    RLY_TCMD.thread t0).wr RLY_TCMD.action 2).wr RLY_TCMD.result 1)) ∧
  (∀ (s : State) (who : Initiator) (t0 : Nat), stopped s = false → writable who RLY_TCMD.go 0 s = true → (512 ≤ t0 ∨
    threadState s t0 ≠ thHalted) → exec (.relayResume who t0) s = .next (((s.wr RLY_TCMD.thread t0).wr RLY_TCMD.action
    3).wr RLY_TCMD.result 1)) ∧
  (∀ (s : State) (who : Initiator) (t0 : Nat), stopped s = false → writable who RLY_TCMD.go 0 s = true → (512 ≤ t0 ∨
    threadState s t0 ≠ thHalted) → exec (.threadStep who t0) s = .next (((s.wr RLY_TCMD.thread t0).wr RLY_TCMD.action
    4).wr RLY_TCMD.result 1)) ∧
  (∀ (s : State) (who : Initiator) (t0 r v : Nat), stopped s = false → writable who RLY_DBG.go 0 s = true → debugOk s
    t0 r = true → exec (.debugWrite who t0 r v) s = .next
    (let u := (debugAccess s t0 r 1).wr RLY_DBG_DATA.data v; if r = 32 then setPc (u.wr RLY_THCTX.pc v t0) t0 v else setGreg u t0 r v)) ∧
  (∀ (s : State) (who : Initiator) (t0 r v : Nat), stopped s = false → writable who RLY_DBG.go 0 s = true → debugOk s
    t0 r = false → exec (.debugWrite who t0 r v) s = .next ((debugAccess s t0 r 1).wr RLY_DBG_DATA.data v)) ∧
  (∀ (s : State) (who : Initiator) (t0 r : Nat), stopped s = false → writable who RLY_DBG.go 0 s = true → debugOk s t0
    r = false → exec (.debugRead who t0 r) s = .next (debugAccess s t0 r 0))

/-- For every relay instruction whose fields fit the places that the formats give them, with every operand at every value
  the encoding admits, the decoder of the instruction words that relay threads and stewards fetch answers exactly that
  instruction for its word, and the word fits 32 bits. -/
def Obligations.RelayWordsDecodeAndEncodeAgree : Prop :=
  ∀ i : RelayInstr, i.wf = true → decodeRelay (encodeRelay i) = some i ∧ encodeRelay i < 2 ^ 32

/-- A write of a software source to IRQ_SW_SET sets its asserted bit. Where the source is not routed to the host, that is
  the whole effect. Where it newly meets the conditions of a host source and its unmasked vector of PF 0 may be sent,
  exactly one message with the address and data of its table entry goes out on the link. A number of no software
  source is ignored. -/
def Obligations.RaisedSourceChangesOnlyItsAssertedBit : Prop :=
  (∀ (s : State) (who : Initiator) (n : Nat), stopped s = false → writable who IRQ_SW_SET.source 0 s = true →
    softwareSource n = true → s.rd IRQ_SRC.dest n ≠ 4 → exec (.irqSwSet who n) s = .next (s.wr IRQ_SRC.asserted 1 n)) ∧
  (∀ (s : State) (who : Initiator) (n : Nat), stopped s = false → writable who IRQ_SW_SET.source 0 s = true →
    softwareSource n = true → s.rd IRQ_SRC.dest n = 4 → s.rd IRQ_SRC.asserted n = 0 → s.rd IRQ_CTL.global_en = 1 → 1 ≤
    s.rd IRQ_SRC.priority n → s.rd IRQ_SRC.vector n < vectorCount s 0 → fnLive s 0 = true → (fnSt s 0).msixEn = true →
    (fnSt s 0).fnMask = false → (msixEntry s 0 (s.rd IRQ_SRC.vector n)).mask = false → ∃ t, exec (.irqSwSet who n) s =
    .next t ∧ t.rd IRQ_SRC.asserted n = 1 ∧ t.links = s.links ++ [.message 0 (s.rd IRQ_SRC.vector n) (msixEntry s 0
    (s.rd IRQ_SRC.vector n)).addr (msixEntry s 0 (s.rd IRQ_SRC.vector n)).data] ∧ t.hif = s.hif ∧ t.mem = s.mem ∧
    t.hostMem = s.hostMem) ∧
  (∀ (s : State) (who : Initiator) (n : Nat), stopped s = false → writable who IRQ_SW_SET.source 0 s = true →
    softwareSource n = false → exec (.irqSwSet who n) s = .next (s)) ∧
  (∀ (s : State) (who : Initiator) (n : Nat), stopped s = false → writable who IRQ_SW_SET.source 0 s = true →
    softwareSource n = true → exec (.irqSwSet who n) s = .next (raise s n))

/-- Unmasking a pending vector of a function that may send launches one message with its address and data and clears
  Pending; one that is not pending only loses its Mask bit. A read of a counter stamps it with the low 16 bits of TT64
  and answers both. The oldest wrap of a counter sets its overflow bit and raises the source where the counter asks
  for it, or advances the odd counter that chains it. A read of the abacus log answers the oldest entry's TT64,
  removes it and shows the next one. -/
def Obligations.VectorsCountersAndTheAbacusLog : Prop :=
  (∀ (s : State) (fn v : Nat), stopped s = false → v < vectorCount s fn → (msixEntry s fn v).pending = true → fnLive s
    fn = true → (fnSt s fn).msixEn = true → (fnSt s fn).fnMask = false → ∃ t, exec (.vectorUnmask fn v) s = .next t ∧
    t.links = s.links ++ [.message fn v (msixEntry s fn v).addr (msixEntry s fn v).data] ∧ msixEntry t fn v =
    { (msixEntry s fn v) with mask := false, pending := false } ∧ t.regs = s.regs ∧ t.mem = s.mem ∧ t.hostMem =
    s.hostMem) ∧
  (∀ (s : State) (fn v : Nat), stopped s = false → v < vectorCount s fn → (msixEntry s fn v).pending = false → ∃ t,
    exec (.vectorUnmask fn v) s = .next t ∧ msixEntry t fn v = { (msixEntry s fn v) with mask := false } ∧ t.regs =
    s.regs ∧ t.mem = s.mem ∧ t.hostMem = s.hostMem ∧ t.links = s.links) ∧
  (∀ (s : State) (who : Initiator) (n : Nat), stopped s = false → reaches who Blk.pmc.base = true → n < 32 → exec
    (.pmcRead who n 1) s = .next (({ s with rdata := s.rd PMC_CNT.count n + (now s % 65536) <<< 48 } : State).wr
    PMC_CNT.stamp (now s % 65536) n)) ∧
  (∀ (s : State) (n : Nat) (rest : List Nat), stopped s = false → s.pmcWraps = n :: rest → carries s n = false → s.rd
    PMC_SEL.ovf_irq n = 1 → exec (.pmcCounterWrap) s = .next (raise (({ s with pmcWraps := rest } : State).wr
    PMC_OVF.ovf (s.rd PMC_OVF.ovf ||| 2 ^ n)) 0x1A0)) ∧
  (∀ (s : State) (n : Nat) (rest : List Nat), stopped s = false → s.pmcWraps = n :: rest → carries s n = true → s.rd
    PMC_CNT.count (n + 1) + 1 < 2 ^ 48 → exec (.pmcCounterWrap) s = .next (({ s with pmcWraps := rest } : State).wr
    PMC_CNT.count (s.rd PMC_CNT.count (n + 1) + 1) (n + 1))) ∧
  (∀ (s : State) (who : Initiator) (e x : AbcEntry), stopped s = false → reaches who Blk.dev.base = true → s.abc.log =
    [e, x] → ∃ t, exec (.abacusLogRead who) s = .next t ∧ t.rdata = s.rd DEV_ABC_LOG.tt ∧ t.abc.log = [x] ∧ t.rd
    DEV_ABC_LOG.law = x.law % 2 ^ DEV_ABC_LOG.law.width ∧ t.rd DEV_ABC_LOG.tt = x.tt % 2 ^ 64 ∧ t.rd
    DEV_ABC_LOG_STAT.held = 1 ∧ t.mem = s.mem ∧ t.hostMem = s.hostMem ∧ t.links = s.links) ∧
  (∀ (s : State) (fn v : Nat), stopped s = false → v < vectorCount s fn → exec (.vectorUnmask fn v) s = .next
    (launchPending (updMsix s fn v fun e => { e with mask := false }) fn v)) ∧
  (∀ (s : State) (who : Initiator) (n k : Nat) (t : State), stopped s = false → reaches who Blk.pmc.base = true → t =
    (coveredCounters n k).foldl sampleCounter s → exec (.pmcRead who n k) s = .next
    ({ t with rdata := (coveredCounters n k).reverse.foldl (fun v m => v <<< 64 + counterImage t m) 0 })) ∧
  (∀ (s : State) (n : Nat) (rest : List Nat), stopped s = false → s.pmcWraps = n :: rest → exec (.pmcCounterWrap) s =
    .next (counterWrap { s with pmcWraps := rest } n)) ∧
  (∀ (s : State) (who : Initiator), stopped s = false → reaches who Blk.dev.base = true → exec (.abacusLogRead who) s
    = .next (syncAbcLog { s with rdata := s.rd DEV_ABC_LOG.tt, abc := { s.abc with log := s.abc.log.tail } }))

/-- Until CRS ends every configuration request is answered with retry; then it takes effect on its function and completes.
  A BAR4 access that lies wholly in the GDDR6 window reads or writes those bytes. A request that times out leaves the
  list, its tag is quarantined for four timeout periods, and the source is raised; a late completion or the end of the
  quarantine frees the tag. A good translation joins the cache; an invalidation removes what it matches and completes
  once the requests in flight have; clearing ATS Enable empties the function's cache. -/
def Obligations.HostRequestsTagsAndTranslations : Prop :=
  (∀ (s : State) (fn : Nat) (op : ConfigOp), stopped s = false → s.rd DEV_STATUS.crs = 1 → exec (.configRequest fn op)
    s = .next ({ s with rdata := 2 })) ∧
  (∀ (s : State) (fn b : Nat), stopped s = false → s.rd DEV_STATUS.crs = 0 → fnExists s fn = true → ∃ t, exec
    (.configRequest fn (.tagBits b)) s = .next t ∧ (fnSt t fn).tagBits = b ∧ (fnSt t fn).bme = (fnSt s fn).bme ∧
    t.rdata = 0 ∧ t.regs = s.regs ∧ t.mem = s.mem ∧ t.hostMem = s.hostMem ∧ t.links = s.links) ∧
  (∀ (s : State) (fn : Nat), stopped s = false → s.rd DEV_STATUS.crs = 0 → fnExists s fn = true → fn < 8 → ∃ t, exec
    (.configRequest fn .atsEn) s = .next t ∧ (fnSt t fn).atsEn = true ∧ t.rd HIF_PF_CFG.ats_en fn = 1 ∧ t.rdata = 0 ∧
    t.mem = s.mem ∧ t.hostMem = s.hostMem ∧ t.links = s.links) ∧
  (∀ (s : State) (fn n : Nat), stopped s = false → s.rd DEV_STATUS.crs = 0 → fnExists s fn = true → fn < 8 → exec
    (.configRequest fn (.numVfs n)) s = .next (({ s with rdata := 0 } : State).wr HIF_PF_CFG.num_vfs n fn)) ∧
  (∀ (s : State) (p off n : Nat) (bs : Bytes), stopped s = false → inBar4 s p off n = true → g6Down s = false → n ≠ 0
    → s.rd HIF_PF_CFG.g6_off p + off + n ≤ g6Size → ∃ t, exec (.bar4Access p off n (some bs)) s = .next t ∧ memLoad t
    (g6Base + s.rd HIF_PF_CFG.g6_off p + off) n = fitBytes n bs ∧ t.hostMem = s.hostMem ∧ t.rdata = s.rdata ∧ ∀ a, (a
    < (g6Base + s.rd HIF_PF_CFG.g6_off p + off) ∨ (g6Base + s.rd HIF_PF_CFG.g6_off p + off) + n ≤ a) → memLoad t a 1 =
    memLoad s a 1) ∧
  (∀ (s : State) (p off n : Nat), stopped s = false → inBar4 s p off n = true → g6Down s = false → n ≠ 0 → s.rd
    HIF_PF_CFG.g6_off p + off + n ≤ g6Size → memBad s (g6Base + s.rd HIF_PF_CFG.g6_off p + off) n = false → ∃ t, exec
    (.bar4Access p off n none) s = .next t ∧ t.rdata = ofLe (memLoad s (g6Base + s.rd HIF_PF_CFG.g6_off p + off) n) ∧
    t.mem = s.mem ∧ t.hostMem = s.hostMem ∧ t.links = s.links) ∧
  (∀ (s : State) (port tag : Nat) (r : Req), stopped s = false → reqOf s port tag = some r → timedOut s r = true → tag
    < 4096 → fnLive s r.fn = false → s.hif.reqs = [r] → ∃ t, exec (.completionTimeout port tag) s = .next t ∧
    t.hif.reqs = [] ∧ t.hif.quar = s.hif.quar ++
    [⟨r.port, r.tag, now s + 4 * timeoutNs s r.fn, (linkOf s r.fn).getD 0⟩] ∧ t.rd HIF_CTO_CNT.count = (s.rd
    HIF_CTO_CNT.count + 1) % 2 ^ 64 ∧ t.rd IRQ_SRC.asserted 0x1C1 = 1 ∧ t.mem = s.mem ∧ t.hostMem = s.hostMem) ∧
  (∀ (s : State) (port tag : Nat), stopped s = false → (quarOf s port tag).isSome = true → ∃ t, exec (.lateCompletion
    port tag) s = .next t ∧ quarOf t port tag = none ∧ t.rd HIF_LATE_CPL.count = (s.rd HIF_LATE_CPL.count + 1) % 2 ^
    64 ∧ t.hif.reqs = s.hif.reqs ∧ t.mem = s.mem ∧ t.hostMem = s.hostMem ∧ t.links = s.links) ∧
  (∀ (s : State) (port tag : Nat) (q : Quarantine), stopped s = false → quarOf s port tag = some q → q.freeAt ≤ now s
    → ∃ t, exec (.quarantineExpiry port tag) s = .next t ∧ quarOf t port tag = none ∧ t.rd HIF_LATE_CPL.count = s.rd
    HIF_LATE_CPL.count ∧ t.hif.reqs = s.hif.reqs ∧ t.mem = s.mem ∧ t.hostMem = s.hostMem ∧ t.links = s.links) ∧
  (∀ (s : State) (fn page target : Nat) (wr : Bool) (r : Req), stopped s = false → s.hif.reqs = [r] → r.owner =
    .translation fn page → fnLive s fn = true → (fnSt s fn).atsEn = true → s.hif.atc.length < 32768 → ∃ t, exec
    (.translationResponse fn page target true wr true) s = .next t ∧ Map.get t.hif.atc (atcKey fn page) =
    ⟨target, true, wr, true⟩ ∧ t.hif.reqs = [] ∧ t.mem = s.mem ∧ t.hostMem = s.hostMem ∧ t.links = s.links) ∧
  (∀ (s : State) (fn itag page pages : Nat), stopped s = false → ∃ t, exec (.invalidateRequest fn itag page pages) s =
    .next t ∧ t.hif.invPending = s.hif.invPending ++ [(fn, itag, s.hif.reqs.filter fun r => decide (r.fn = fn))] ∧
    (t.hif.atc.any fun p => decide (atcKey fn page ≤ p.1) && decide (p.1 < atcKey fn page + pages)) = false ∧ t.regs =
    s.regs ∧ t.mem = s.mem ∧ t.hostMem = s.hostMem ∧ t.links = s.links ∧ ∀ k, (k < atcKey fn page ∨ atcKey fn page +
    pages ≤ k) → Map.get t.hif.atc k = Map.get s.hif.atc k) ∧
  (∀ (s : State) (fn itag : Nat), stopped s = false → s.hif.invPending = [(fn, itag, [])] → exec
    (.invalidationCompletion fn itag) s = .next
    ({ s with hif := { s.hif with invPending := [] }, links := s.links ++ [.invalidationDone fn itag] })) ∧
  (∀ (s : State) (fn : Nat), stopped s = false → fnExists s fn = true → ∃ t, exec (.atsDisable fn) s = .next t ∧ (fnSt
    t fn).atsEn = false ∧ (t.hif.atc.any fun p => decide (p.1 / 2 ^ 52 = fn)) = false ∧ (fnSt t fn).bme = (fnSt s
    fn).bme ∧ t.mem = s.mem ∧ t.hostMem = s.hostMem ∧ t.links = s.links) ∧
  (∀ (s : State) (fn : Nat) (op : ConfigOp), stopped s = false → s.rd DEV_STATUS.crs = 0 → fnExists s fn = true → exec
    (.configRequest fn op) s = .next ({ configWrite s fn op with rdata := 0 })) ∧
  (∀ (s : State) (p off n k a : Nat) (bs : Bytes), stopped s = false → inBar4 s p off n = true → a = g6Base + s.rd
    HIF_PF_CFG.g6_off p + off → k = (if g6Down s = true then 0 else bar4Inside s p off n) → exec (.bar4Access p off n
    (some bs)) s = .next (if k = 0 then s else memStore (bar4Lines s a k true) a ((fitBytes n bs).take k))) ∧
  (∀ (s : State) (p off n k a : Nat), stopped s = false → inBar4 s p off n = true → a = g6Base + s.rd
    HIF_PF_CFG.g6_off p + off → k = (if g6Down s = true then 0 else bar4Inside s p off n) → k ≠ 0 → memBad s a k =
    false → exec (.bar4Access p off n none) s = .next ({ bar4Lines s a k false with rdata := ofLe (memLoad s a k) })) ∧
  (∀ (s : State) (p off n k a : Nat), stopped s = false → inBar4 s p off n = true → a = g6Base + s.rd
    HIF_PF_CFG.g6_off p + off → k = (if g6Down s = true then 0 else bar4Inside s p off n) → k ≠ 0 → memBad s a k =
    true → exec (.bar4Access p off n none) s = .next
    ({ detFailed (bar4Lines s a k false) with rdata := 2 ^ (8 * n) })) ∧
  (∀ (s : State) (p off n k a : Nat), stopped s = false → inBar4 s p off n = true → a = g6Base + s.rd
    HIF_PF_CFG.g6_off p + off → k = (if g6Down s = true then 0 else bar4Inside s p off n) → k = 0 → exec (.bar4Access
    p off n none) s = .next ({ s with rdata := 0 })) ∧
  (∀ (s : State) (port tag : Nat) (r : Req), stopped s = false → reqOf s port tag = some r → timedOut s r = true →
    exec (.completionTimeout port tag) s = .next (failRequest (pmc (raise ((quarantine s r).count HIF_CTO_CNT.count)
    0x1C1) 0x901 port 1 none) r)) ∧
  (∀ (s : State) (port tag : Nat), stopped s = false → (quarOf s port tag).isSome = true → exec (.lateCompletion port
    tag) s = .next ((freeQuarantine s port tag).count HIF_LATE_CPL.count)) ∧
  (∀ (s : State) (port tag : Nat) (q : Quarantine), stopped s = false → quarOf s port tag = some q → q.freeAt ≤ now s
    → exec (.quarantineExpiry port tag) s = .next (freeQuarantine s port tag)) ∧
  (∀ (s : State) (fn page target : Nat) (rd wr ok : Bool) (r : Req) (t : State), stopped s = false → (s.hif.reqs.find?
    fun r => decide (r.owner = .translation fn page)) = some r → fnLive s fn = true → (ok && (rd || wr) && (fnSt s
    fn).atsEn) = true → t = endRead s (.translation fn page) → exec (.translationResponse fn page target rd wr ok) s =
    .next (fillAtc t fn page target rd wr)) ∧
  (∀ (s : State) (fn page target : Nat) (rd wr ok : Bool) (r : Req) (t : State), stopped s = false → (s.hif.reqs.find?
    fun r => decide (r.owner = .translation fn page)) = some r → fnLive s fn = true → (ok && (rd || wr) && (fnSt s
    fn).atsEn) = false → t = endRead s (.translation fn page) → exec (.translationResponse fn page target rd wr ok) s
    = .next (failRequest t r)) ∧
  (∀ (s : State) (fn itag page pages : Nat), stopped s = false → exec (.invalidateRequest fn itag page pages) s =
    .next
    ({ s with hif := { s.hif with atc := s.hif.atc.filter fun p => !(decide (atcKey fn page ≤ p.1) && decide (p.1 < atcKey fn page + pages)), atcFault := s.hif.atcFault.filter fun p => !(decide (atcKey fn page ≤ atcKey p.1 p.2) && decide (atcKey p.1 p.2 < atcKey fn page + pages)), invPending := s.hif.invPending ++ [(fn, itag, s.hif.reqs.filter fun r => decide (r.fn = fn))] } })) ∧
  (∀ (s : State) (fn itag : Nat) (x : Nat × Nat × List Req), stopped s = false → (s.hif.invPending.find? fun x =>
    decide (x.1 = fn) && decide (x.2.1 = itag)) = some x → (x.2.2.any fun r => s.hif.reqs.contains r) = false → exec
    (.invalidationCompletion fn itag) s = .next (putLink
    { s with hif := { s.hif with invPending := s.hif.invPending.erase x } } (.invalidationDone fn itag))) ∧
  (∀ (s : State) (fn : Nat), stopped s = false → fnExists s fn = true → exec (.atsDisable fn) s = .next (dropAtc
    (setFn s fn fun x => { x with atsEn := false }) fn))

/-- Clearing BME halts the function's ACTIVE queues; setting it lets the function issue again. An FLR begins with its
  function marked, and once no request is outstanding it ends with the function at its reset state (here of functions
  without queues, connections and keys). A PF enters D3hot and returns to D0. Each is pushed into HIF_EVQ with the
  function and its event code, and raises the source; a read of HIF_EVQ returns and clears its count. PERST_N takes
  its port's links down. -/
def Obligations.FunctionEventsResetsAndPowerStates : Prop :=
  (∀ (s : State) (fn : Nat), stopped s = false → (fnSt s fn).bme = true → fnQueues s fn = [] → ∃ t, exec (.bmeClear
    fn) s = .next t ∧ (fnSt t fn).bme = false ∧ t.rd HIF_EVQ.function = fn % 2 ^ 13 ∧ t.rd HIF_EVQ.event = 1 ∧ t.rd
    HIF_EVQ.count = min 255 (s.rd HIF_EVQ.count + 1) ∧ t.rd IRQ_SRC.asserted 0x1C0 = 1 ∧ t.queues = s.queues ∧ t.mem =
    s.mem ∧ t.hostMem = s.hostMem) ∧
  (∀ (s : State) (fn q : Nat), stopped s = false → (fnSt s fn).bme = true → fnQueues s fn = [q] → queueState s q =
    qActive → (queueInt s q).entries = [] → ∃ t, exec (.bmeClear fn) s = .next t ∧ (fnSt t fn).bme = false ∧
    queueState t q = qHalted ∧ t.rd HIF_EVQ.event = 1 ∧ t.mem = s.mem ∧ t.hostMem = s.hostMem) ∧
  (∀ (s : State) (fn : Nat), stopped s = false → fnExists s fn = true → (fnSt s fn).bme = false → ∃ t, exec (.bmeSet
    fn) s = .next t ∧ (fnSt t fn).bme = true ∧ t.rd HIF_EVQ.function = fn % 2 ^ 13 ∧ t.rd HIF_EVQ.event = 2 ∧ t.rd
    HIF_EVQ.count = min 255 (s.rd HIF_EVQ.count + 1) ∧ t.rd IRQ_SRC.asserted 0x1C0 = 1 ∧ t.queues = s.queues ∧ t.mem =
    s.mem ∧ t.hostMem = s.hostMem) ∧
  (∀ (s : State) (fn : Nat), stopped s = false → fnExists s fn = true → (fnSt s fn).flr = false → (flrSet s fn).all
    (fun f => (fnQueues s f).isEmpty && (relayChans s f).isEmpty) = true → ∃ t, exec (.flrStart fn) s = .next t ∧
    (fnSt t fn).flr = true ∧ (fnSt t fn).flrTt = now s ∧ t.rd HIF_EVQ.function = fn % 2 ^ 13 ∧ t.rd HIF_EVQ.event = 3
    ∧ t.rd HIF_EVQ.count = min 255 (s.rd HIF_EVQ.count + 1) ∧ t.rd IRQ_SRC.asserted 0x1C0 = 1 ∧ t.queues = s.queues ∧
    t.mem = s.mem ∧ t.hostMem = s.hostMem) ∧
  (∀ (s : State) (fn : Nat), stopped s = false → 8 ≤ fn → (fnSt s fn).flr = true → fnQuiet s fn = true → fnQueues s fn
    = [] → ownedRings s fn = [] → fnConns s fn = [] → fnRgnBlocks s fn = [] → fnSlots s fn = [] → ∃ t, exec
    (.flrComplete fn) s = .next t ∧ fnSt t fn = {} ∧ (t.hif.msix.any fun p => decide (p.1 / 4096 = fn)) = false ∧ t.rd
    HIF_EVQ.function = fn % 2 ^ 13 ∧ t.rd HIF_EVQ.event = 4 ∧ t.rd HIF_EVQ.count = min 255 (s.rd HIF_EVQ.count + 1) ∧
    t.rd IRQ_SRC.asserted 0x1C0 = 1 ∧ t.mem = s.mem ∧ t.hostMem = s.hostMem) ∧
  (∀ (s : State) (pf : Nat), stopped s = false → pf < 8 → fnExists s pf = true → (fnSt s pf).d3 = false → (pf :: vfsOf
    s pf).all (fun f => (fnQueues s f).isEmpty) = true → ∃ t, exec (.d3hotEntry pf) s = .next t ∧ (fnSt t pf).d3 =
    true ∧ t.rd HIF_PF_CFG.dstate pf = 3 ∧ t.rd HIF_EVQ.function = pf % 2 ^ 13 ∧ t.rd HIF_EVQ.event = 5 ∧ t.rd
    HIF_EVQ.count = min 255 (s.rd HIF_EVQ.count + 1) ∧ t.rd IRQ_SRC.asserted 0x1C0 = 1 ∧ t.queues = s.queues ∧ t.mem =
    s.mem ∧ t.hostMem = s.hostMem) ∧
  (∀ (s : State) (pf : Nat), stopped s = false → pf < 8 → (fnSt s pf).d3 = true → ∃ t, exec (.d0Return pf) s = .next t
    ∧ (fnSt t pf).d3 = false ∧ t.rd HIF_PF_CFG.dstate pf = 0 ∧ t.rd HIF_EVQ.function = pf % 2 ^ 13 ∧ t.rd
    HIF_EVQ.event = 6 ∧ t.rd HIF_EVQ.count = min 255 (s.rd HIF_EVQ.count + 1) ∧ t.rd IRQ_SRC.asserted 0x1C0 = 1 ∧
    t.queues = s.queues ∧ t.mem = s.mem ∧ t.hostMem = s.hostMem) ∧
  (∀ (s : State) (port : Nat), stopped s = false → port < 2 → portFns s port = [] → s.hif.reqs = [] → ∃ t, exec
    (.perst port true) s = .next t ∧ Map.get t.hif.perst port = true ∧ (t.hif.linksUp.any fun l => decide (l / 4 =
    port)) = false ∧ t.queues = s.queues ∧ t.mem = s.mem ∧ t.hostMem = s.hostMem) ∧
  (∀ (s : State) (port : Nat), stopped s = false → port < 2 → exec (.perst port false) s = .next
    ({ s with hif := { s.hif with perst := Map.set s.hif.perst port false } })) ∧
  (∀ (s t : State) (port : Nat), stopped s = false → port < 2 → t =
    { s with hif := { s.hif with perst := Map.set s.hif.perst port true } } → exec (.perst port true) s = .next
    (((List.range 4).map fun l => 4 * port + l).foldl dropLink (resetAtOnce t (portFns t port)))) ∧
  (∀ (s : State) (who : Initiator), stopped s = false → reaches who Blk.hif.base = true → exec (.hifEvqRead who) s =
    .next (({ s with rdata := s.rd HIF_EVQ.function + (s.rd HIF_EVQ.event) <<< 13 + (s.rd HIF_EVQ.count) <<< 24 } :
    State).wr HIF_EVQ.count 0)) ∧
  (∀ (s : State) (fn : Nat), stopped s = false → (fnSt s fn).bme = true → exec (.bmeClear fn) s = .next (hifEvent
    (haltQueues (setFn s fn fun x => { x with bme := false }) fn) fn 1)) ∧
  (∀ (s : State) (fn : Nat), stopped s = false → fnExists s fn = true → (fnSt s fn).bme = false → exec (.bmeSet fn) s
    = .next (hifEvent (launchAll (resumeWrites (setFn s fn fun x => { x with bme := true })) fn) fn 2)) ∧
  (∀ (s : State) (fn : Nat), stopped s = false → fnExists s fn = true → (fnSt s fn).flr = false → fn < 8 → exec
    (.flrStart fn) s = .next (hifEvent (((flrSet s fn).foldl cutFunction s).wr HIF_PF_CFG.num_vfs 0 fn) fn 3)) ∧
  (∀ (s : State) (fn : Nat), stopped s = false → fnExists s fn = true → (fnSt s fn).flr = false → 8 ≤ fn → exec
    (.flrStart fn) s = .next (hifEvent ((flrSet s fn).foldl cutFunction s) fn 3)) ∧
  (∀ (s : State) (fn : Nat), stopped s = false → (fnSt s fn).flr = true → (flrSet s fn).all (fun f => fnQuiet s f &&
    fnKeysDrained s f) = true → exec (.flrComplete fn) s = .next (hifEvent (endStalls (ledgerRetry ((flrSet s
    fn).foldl resetFunction s))) fn 4)) ∧
  (∀ (s t : State) (pf : Nat), stopped s = false → pf < 8 → fnExists s pf = true → (fnSt s pf).d3 = false → t = (pf ::
    vfsOf s pf).foldl haltQueues (hifEvent (setFn s pf (fun x => { x with d3 := true })) pf 5) → allD3 t = true → exec
    (.d3hotEntry pf) s = .next (g6Domains.foldl (fun u d => setDomain u d .off)
    { t with hif := { t.hif with d3AllG6 := true } })) ∧
  (∀ (s t : State) (pf : Nat), stopped s = false → pf < 8 → fnExists s pf = true → (fnSt s pf).d3 = false → t = (pf ::
    vfsOf s pf).foldl haltQueues (hifEvent (setFn s pf (fun x => { x with d3 := true })) pf 5) → allD3 t = false →
    exec (.d3hotEntry pf) s = .next (t)) ∧
  (∀ (s t : State) (pf : Nat), stopped s = false → pf < 8 → (fnSt s pf).d3 = true → t = hifEvent (setFn s pf (fun x =>
    { x with d3 := false })) pf 6 → s.hif.d3AllG6 = true → exec (.d0Return pf) s = .next ((pf :: vfsOf s pf).foldl
    launchAll (resumeWrites (g6Domains.foldl wakeDomain { t with hif := { t.hif with d3AllG6 := false } })))) ∧
  (∀ (s t : State) (pf : Nat), stopped s = false → pf < 8 → (fnSt s pf).d3 = true → t = hifEvent (setFn s pf (fun x =>
    { x with d3 := false })) pf 6 → s.hif.d3AllG6 = false → exec (.d0Return pf) s = .next ((pf :: vfsOf s pf).foldl
    launchAll (resumeWrites t)))

/-- A sender whose area is free sends with the next seq, and the receiver takes the message with an ack that equals seq; a
  seq while one is outstanding is ignored and counted. A message of a VF joins MBX_MSGQ, whose read removes its head.
  FREEZE of a running VF makes its ACTIVE queue MIGRATING and the VF DRAINING, or QUIESCED at once where nothing is
  left; DRAIN_TIMEOUT quiesces a VF with nothing left; UNFREEZE gives the queue its state back. SAVE of a QUIESCED VF
  writes its blob, and RESTORE of a committed blob without keys that fits leaves the VF QUIESCED with its mailbox;
  each ends with result 0. -/
def Obligations.MailboxesAndMigration : Prop :=
  (∀ (s : State) (who : Initiator) (vf seq : Nat) (up : Bool), stopped s = false → vf < 4096 → isSender s who vf up =
    true → standby s = false → mirrors s = false → s.rd BOOT_STATUS.phase ≠ 4 → mailFull (mailArea s vf up) = false →
    seq % 65536 = addMod 16 (mailArea s vf up).ack 1 → ∃ t, exec (.mailboxSeqWrite who vf up seq) s = .next t ∧
    mailArea t vf up = { (mailArea s vf up) with seq := seq % 65536 } ∧ t.mem = s.mem ∧ t.hostMem = s.hostMem) ∧
  (∀ (s : State) (who : Initiator) (vf seq : Nat), stopped s = false → vf < 4096 → isSender s who vf true = true →
    standby s = false → mirrors s = false → s.rd BOOT_STATUS.phase ≠ 4 → mailFull (mailArea s vf true) = false → seq %
    65536 = addMod 16 (mailArea s vf true).ack 1 → s.hif.msgq = [] → ∃ t, exec (.mailboxSeqWrite who vf true seq) s =
    .next t ∧ t.hif.msgq = [vf] ∧ t.rd MBX_MSGQ.vf = vf ∧ t.rd MBX_MSGQ.entry_valid = 1 ∧ t.mem = s.mem ∧ t.hostMem =
    s.hostMem) ∧
  (∀ (s : State) (who : Initiator) (vf seq : Nat) (up : Bool), stopped s = false → vf < 4096 → isSender s who vf up =
    true → standby s = false → mirrors s = false → s.rd BOOT_STATUS.phase ≠ 4 → mailFull (mailArea s vf up) = true →
    exec (.mailboxSeqWrite who vf up seq) s = .next (s.count MBX_CNT.count)) ∧
  (∀ (s : State) (who : Initiator) (vf ack : Nat) (up : Bool), stopped s = false → vf < 4096 → isReceiver s who vf up
    = true → standby s = false → mirrors s = false → s.rd BOOT_STATUS.phase ≠ 4 → mailFull (mailArea s vf up) = true →
    ack % 65536 = (mailArea s vf up).seq → ∃ t, exec (.mailboxAckWrite who vf up ack) s = .next t ∧ mailArea t vf up =
    { (mailArea s vf up) with ack := ack % 65536 } ∧ t.mem = s.mem ∧ t.hostMem = s.hostMem) ∧
  (∀ (s : State) (who : Initiator) (x y : Nat), stopped s = false → reaches who Blk.mbx.base = true → s.hif.msgq = [x,
    y] → ∃ t, exec (.mbxMsgqRead who) s = .next t ∧ t.rdata = s.rd MBX_MSGQ.vf + (s.rd MBX_MSGQ.entry_valid) <<< 12 ∧
    t.hif.msgq = [y] ∧ t.rd MBX_MSGQ.vf = y % 2 ^ 12 ∧ t.rd MBX_MSGQ.entry_valid = 1 ∧ t.mem = s.mem ∧ t.hostMem =
    s.hostMem ∧ t.links = s.links) ∧
  (∀ (s : State) (who : Initiator) (p vf q : Nat), stopped s = false → p < 8 → reachesMcmd who p = true → standby s =
    false → mirrors s = false → s.rd BOOT_STATUS.phase ≠ 4 → s.rd HIF_MCMD.busy p = 0 → s.rd HIF_MCMD.vf p = vf →
    vfInPf s p vf = true → migOf s vf = .running → fnQueues s (8 + vf) = [q] → queueState s q = qActive → (queueInt s
    q).entries ≠ [] → ∃ t, exec (.freeze who p) s = .next t ∧ queueState t q = qMigrating ∧ migOf t vf = .draining ∧
    Map.get t.hif.freezeBy vf = p + 1 ∧ Map.get t.hif.freezeAt vf = now s + 1 ∧ t.rd HIF_MCMD.busy p = 1 ∧ t.mem =
    s.mem ∧ t.hostMem = s.hostMem ∧ t.links = s.links) ∧
  (∀ (s : State) (who : Initiator) (p vf : Nat), stopped s = false → p < 8 → reachesMcmd who p = true → standby s =
    false → mirrors s = false → s.rd BOOT_STATUS.phase ≠ 4 → s.rd HIF_MCMD.busy p = 0 → s.rd HIF_MCMD.vf p = vf →
    vfInPf s p vf = true → migOf s vf = .running → fnQueues s (8 + vf) = [] → noReadResp s (8 + vf) = true → ∃ t, exec
    (.freeze who p) s = .next t ∧ migOf t vf = .quiesced ∧ t.rd HIF_MCMD.busy p = 0 ∧ t.rd HIF_MCMD.result p = 0 ∧
    t.rd IRQ_SRC.asserted 0x1C2 = 1 ∧ t.mem = s.mem ∧ t.hostMem = s.hostMem) ∧
  (∀ (s : State) (p vf : Nat), stopped s = false → vf < 4096 → Map.get s.hif.freezeBy vf = p + 1 → migOf s vf =
    .draining → Map.get s.hif.freezeAt vf + s.rd HIF_MCMD.drain_us p * 1000 ≤ now s + 1 → fnQueues s (8 + vf) = [] →
    noReadResp s (8 + vf) = true → p < 8 → ∃ t, exec (.drainTimeout vf) s = .next t ∧ migOf t vf = .quiesced ∧ Map.get
    t.hif.freezeBy vf = 0 ∧ t.rd HIF_MCMD.busy p = 0 ∧ t.rd HIF_MCMD.result p = 0 ∧ t.rd IRQ_SRC.asserted 0x1C2 = 1 ∧
    t.mem = s.mem ∧ t.hostMem = s.hostMem) ∧
  (∀ (s : State) (who : Initiator) (p vf q : Nat), stopped s = false → p < 8 → reachesMcmd who p = true → standby s =
    false → mirrors s = false → s.rd BOOT_STATUS.phase ≠ 4 → s.rd HIF_MCMD.busy p = 0 → s.rd HIF_MCMD.vf p = vf →
    vfInPf s p vf = true → migOf s vf = .quiesced → fnQueues s (8 + vf) = [q] → q < 65536 → queueState s q =
    qMigrating → (queueInt s q).preFreeze = qActive → ∃ t, exec (.unfreeze who p) s = .next t ∧ queueState t q =
    qActive ∧ migOf t vf = .running ∧ t.rd HIF_MCMD.busy p = 0 ∧ t.rd HIF_MCMD.result p = 0 ∧ t.rd IRQ_SRC.asserted
    0x1C2 = 1 ∧ t.mem = s.mem ∧ t.hostMem = s.hostMem) ∧
  (∀ (s : State) (who : Initiator) (p vf : Nat), stopped s = false → p < 8 → reachesMcmd who p = true → standby s =
    false → mirrors s = false → s.rd BOOT_STATUS.phase ≠ 4 → s.rd HIF_MCMD.busy p = 0 → s.rd HIF_MCMD.vf p = vf →
    vfInPf s p vf = true → migOf s vf = .quiesced → blobLength s vf ≤ s.rd HIF_MCMD.len p → s.rd HIF_MCMD.wrap_en p =
    0 → fnLive s p = true → ∃ t, exec (.save who p true) s = .next t ∧ loadBytes t.hostMem (hostKey p (s.rd
    HIF_MCMD.addr p)) (blobBody s p vf false).length = blobBody s p vf false ∧ t.rd HIF_MCMD.blob_len p = blobLength s
    vf % 2 ^ 32 ∧ t.rd HIF_MCMD.busy p = 0 ∧ t.rd HIF_MCMD.result p = 0 ∧ t.rd IRQ_SRC.asserted 0x1C2 = 1 ∧ t.mem =
    s.mem) ∧
  (∀ (s : State) (who : Initiator) (p vf : Nat) (data : Bytes), stopped s = false → p < 8 → reachesMcmd who p = true →
    standby s = false → mirrors s = false → s.rd BOOT_STATUS.phase ≠ 4 → s.rd HIF_MCMD.busy p = 0 → s.rd HIF_MCMD.vf p
    = vf → vfInPf s p vf = true → fnLive s p = true → data.length ≤ s.rd HIF_MCMD.len p → blobCommitted data (s.rd
    HIF_MCMD.seq p) = true → blobFits s (8 + vf) data (partBlob data (vectorCount s (8 + vf))) = true → leAt data 0x1E
    2 % 2 = 0 → ∃ t, exec (.restore who p true data) s = .next t ∧ migOf t vf = .quiesced ∧ mailArea t vf true =
    mailOfBytes (partBlob data (vectorCount s (8 + vf))).mail ∧ t.rd HIF_MCMD.busy p = 0 ∧ t.rd HIF_MCMD.result p = 0
    ∧ t.rd IRQ_SRC.asserted 0x1C2 = 1 ∧ t.hostMem = s.hostMem) ∧
  (∀ (s : State) (who : Initiator) (vf seq : Nat) (up : Bool), stopped s = false → vf < 4096 → isSender s who vf up =
    true → standby s = false → mirrors s = false → s.rd BOOT_STATUS.phase ≠ 4 → mailFull (mailArea s vf up) = false →
    seq % 65536 = addMod 16 (mailArea s vf up).ack 1 → exec (.mailboxSeqWrite who vf up seq) s = .next (mailSent
    (updMail s vf up fun a => { a with seq := seq % 65536 }) vf up)) ∧
  (∀ (s : State) (who : Initiator) (vf ack : Nat) (up : Bool), stopped s = false → vf < 4096 → isReceiver s who vf up
    = true → standby s = false → mirrors s = false → s.rd BOOT_STATUS.phase ≠ 4 → mailFull (mailArea s vf up) = true →
    ack % 65536 = (mailArea s vf up).seq → exec (.mailboxAckWrite who vf up ack) s = .next (mailTaken (updMail s vf up
    fun a => { a with ack := ack % 65536 }) vf up)) ∧
  (∀ (s : State) (who : Initiator) (vf ack : Nat) (up : Bool), stopped s = false → vf < 4096 → isReceiver s who vf up
    = true → standby s = false → mirrors s = false → s.rd BOOT_STATUS.phase ≠ 4 → ack % 65536 ≠ (mailArea s vf up).seq
    → exec (.mailboxAckWrite who vf up ack) s = .next (s.count MBX_CNT.count)) ∧
  (∀ (s : State) (who : Initiator), stopped s = false → reaches who Blk.mbx.base = true → exec (.mbxMsgqRead who) s =
    .next (syncMsgq
    { s with rdata := s.rd MBX_MSGQ.vf + (s.rd MBX_MSGQ.entry_valid) <<< 12, hif := { s.hif with msgq := s.hif.msgq.tail } })) ∧
  (∀ (s : State) (vf p : Nat), stopped s = false → Map.get s.hif.freezeBy vf = p + 1 → migOf s vf = .draining →
    Map.get s.hif.freezeAt vf + s.rd HIF_MCMD.drain_us p * 1000 ≤ now s + 1 → exec (.drainTimeout vf) s = .next
    (quiesceCheck ((fnQueues s (8 + vf)).foldl (fun t q => retireQueue ((queueInt t q).entries.foldl (stopEntry
    stMigrationFrozen stMigrationFrozen q) t) q) s) vf)) ∧
  (∀ (s : State) (who : Initiator) (p vf : Nat), stopped s = false → p < 8 → reachesMcmd who p = true → standby s =
    false → mirrors s = false → s.rd BOOT_STATUS.phase ≠ 4 → s.rd HIF_MCMD.busy p = 0 → s.rd HIF_MCMD.vf p = vf →
    vfInPf s p vf = true → exec (.freeze who p) s = .next (freezeVf (s.wr HIF_MCMD.action 0 p) p vf)) ∧
  (∀ (s : State) (who : Initiator) (p vf : Nat) (ok : Bool), stopped s = false → p < 8 → reachesMcmd who p = true →
    standby s = false → mirrors s = false → s.rd BOOT_STATUS.phase ≠ 4 → s.rd HIF_MCMD.busy p = 0 → s.rd HIF_MCMD.vf p
    = vf → vfInPf s p vf = true → exec (.save who p ok) s = .next (saveVf (s.wr HIF_MCMD.action 1 p) p vf ok)) ∧
  (∀ (s : State) (who : Initiator) (p vf : Nat) (ok : Bool) (data : Bytes), stopped s = false → p < 8 → reachesMcmd
    who p = true → standby s = false → mirrors s = false → s.rd BOOT_STATUS.phase ≠ 4 → s.rd HIF_MCMD.busy p = 0 →
    s.rd HIF_MCMD.vf p = vf → vfInPf s p vf = true → exec (.restore who p ok data) s = .next (restoreVf (s.wr
    HIF_MCMD.action 2 p) p vf ok data)) ∧
  (∀ (s : State) (who : Initiator) (p vf : Nat), stopped s = false → p < 8 → reachesMcmd who p = true → standby s =
    false → mirrors s = false → s.rd BOOT_STATUS.phase ≠ 4 → s.rd HIF_MCMD.busy p = 0 → s.rd HIF_MCMD.vf p = vf →
    vfInPf s p vf = true → exec (.unfreeze who p) s = .next (unfreezeVf (s.wr HIF_MCMD.action 3 p) p vf)) ∧
  (∀ (s : State) (who : Initiator) (p : Nat), stopped s = false → p < 8 → reachesMcmd who p = true → standby s = false
    → mirrors s = false → s.rd BOOT_STATUS.phase ≠ 4 → s.rd HIF_MCMD.busy p = 0 → vfInPf s p (s.rd HIF_MCMD.vf p) =
    false → exec (.freeze who p) s = .next (endMcmd (s.wr HIF_MCMD.action 0 p) p 1)) ∧
  (∀ (s : State) (who : Initiator) (p : Nat) (ok : Bool), stopped s = false → p < 8 → reachesMcmd who p = true →
    standby s = false → mirrors s = false → s.rd BOOT_STATUS.phase ≠ 4 → s.rd HIF_MCMD.busy p = 0 → vfInPf s p (s.rd
    HIF_MCMD.vf p) = false → exec (.save who p ok) s = .next (endMcmd (s.wr HIF_MCMD.action 1 p) p 1)) ∧
  (∀ (s : State) (who : Initiator) (p : Nat) (ok : Bool) (data : Bytes), stopped s = false → p < 8 → reachesMcmd who p
    = true → standby s = false → mirrors s = false → s.rd BOOT_STATUS.phase ≠ 4 → s.rd HIF_MCMD.busy p = 0 → vfInPf s
    p (s.rd HIF_MCMD.vf p) = false → exec (.restore who p ok data) s = .next (endMcmd (s.wr HIF_MCMD.action 2 p) p 1)) ∧
  (∀ (s : State) (who : Initiator) (p : Nat), stopped s = false → p < 8 → reachesMcmd who p = true → standby s = false
    → mirrors s = false → s.rd BOOT_STATUS.phase ≠ 4 → s.rd HIF_MCMD.busy p = 0 → vfInPf s p (s.rd HIF_MCMD.vf p) =
    false → exec (.unfreeze who p) s = .next (endMcmd (s.wr HIF_MCMD.action 3 p) p 1)) ∧
  (∀ (s : State) (who : Initiator) (p : Nat), stopped s = false → p < 8 → reachesMcmd who p = true → standby s = false
    → mirrors s = false → s.rd BOOT_STATUS.phase ≠ 4 → s.rd HIF_MCMD.busy p ≠ 0 → exec (.freeze who p) s = .next (s.wr
    (lockedWriteField .hif) 1)) ∧
  (∀ (s : State) (who : Initiator) (p : Nat) (ok : Bool), stopped s = false → p < 8 → reachesMcmd who p = true →
    standby s = false → mirrors s = false → s.rd BOOT_STATUS.phase ≠ 4 → s.rd HIF_MCMD.busy p ≠ 0 → exec (.save who p
    ok) s = .next (s.wr (lockedWriteField .hif) 1)) ∧
  (∀ (s : State) (who : Initiator) (p : Nat) (ok : Bool) (data : Bytes), stopped s = false → p < 8 → reachesMcmd who p
    = true → standby s = false → mirrors s = false → s.rd BOOT_STATUS.phase ≠ 4 → s.rd HIF_MCMD.busy p ≠ 0 → exec
    (.restore who p ok data) s = .next (s.wr (lockedWriteField .hif) 1)) ∧
  (∀ (s : State) (who : Initiator) (p : Nat), stopped s = false → p < 8 → reachesMcmd who p = true → standby s = false
    → mirrors s = false → s.rd BOOT_STATUS.phase ≠ 4 → s.rd HIF_MCMD.busy p ≠ 0 → exec (.unfreeze who p) s = .next
    (s.wr (lockedWriteField .hif) 1))

/-- A rise of RESET_N is a device reset with cause 1, or 0 where the main rails had been off: fuses stay and every block
  state is as at reset (memory, queues, key slots and the start sequence are named), the phase is ROM, CRS is on and
  hw_ready 0, and the straps are latched. trip_prior takes the trip latch where a rail has kept it; after a trip the
  device leaves reset only once it is cool. A reboot is a device reset with cause 2 that keeps skip. A fall of RESET_N
  changes the pins alone. What waits outside the device (the queue of commands, host memory) is kept: the model's own
  choice, in its log. While the main rails are on the four reads answer max_c, the power of the last committed leg in
  tenths of a watt, the low byte of DEV_STATUS, and warn, throttle, critical and trip_prior; they change nothing else,
  and while the rails are off nothing is answered. The wake byte 0x01 drives WAKE_N low where only the auxiliary rail
  is on and a PF had PME_En before; any other byte has no effect. -/
def Obligations.DeviceResetsPinsAndSmbus : Prop :=
  (∀ (s : State) (straps : Nat) (cool : Bool), s.pins.resetN = false → s.pins.testEn = false → s.nrg.tripLatch = false
    → ∃ t, exec (.deviceReset straps cool) s = .next t ∧ t.rd DEV_RESET_CAUSE.cause = (if s.pins.mainRails then 1 else
    0) ∧ t.rd NRG_STATUS.trip_prior = 0 ∧ t.rd BOOT_CTL.skip = 0 ∧ t.mem = [] ∧ t.queues = [] ∧ t.cip = {} ∧ t.start =
    {} ∧ t.pins.resetN = true ∧ t.rd BOOT_STATUS.phase = 0 ∧ t.rd DEV_STATUS.crs = 1 ∧ t.rd DEV_STATUS.hw_ready = 0 ∧
    t.pending = s.pending ∧ t.hostMem = s.hostMem ∧ t.boot.hashes = s.boot.hashes ∧ t.boot.revoked = s.boot.revoked ∧
    t.boot.svn = s.boot.svn ∧ t.boot.flags = s.boot.flags ∧ t.boot.uds = s.boot.uds ∧ t.rd DEV_STRAP.boot_src = straps
    % 8 ∧ t.rd DEV_STRAP.g6_vddq_sel = straps / 2 ^ 7 % 2) ∧
  (∀ (s : State) (straps : Nat), s.pins.resetN = false → s.pins.testEn = false → s.nrg.tripLatch = true → ∃ t, exec
    (.deviceReset straps true) s = .next t ∧ t.rd NRG_STATUS.trip_prior = (if s.pins.mainRails || s.pins.auxRail then
    1 else 0) ∧ t.nrg.tripLatch = false ∧ t.nrg.tripped = false ∧ t.mem = [] ∧ t.queues = [] ∧ t.cip = {} ∧ t.start =
    {} ∧ t.pins.resetN = true ∧ t.rd BOOT_STATUS.phase = 0 ∧ t.rd DEV_STATUS.crs = 1 ∧ t.rd DEV_STATUS.hw_ready = 0 ∧
    t.pending = s.pending ∧ t.hostMem = s.hostMem ∧ t.boot.hashes = s.boot.hashes ∧ t.boot.revoked = s.boot.revoked ∧
    t.boot.svn = s.boot.svn ∧ t.boot.flags = s.boot.flags ∧ t.boot.uds = s.boot.uds) ∧
  (∀ (s : State) (straps : Nat), s.pins.resetN = false → s.nrg.tripLatch = true → exec (.deviceReset straps false) s =
    .next (s)) ∧
  (∀ (s : State) (straps : Nat) (cool : Bool), s.pins.resetN = true → exec (.deviceReset straps cool) s = .next (s)) ∧
  (∀ (s : State) (who : Initiator) (straps : Nat), stopped s = false → writable who BOOT_CTL.phase_req 0 s = true → ∃
    t, exec (.reboot who straps) s = .next t ∧ t.rd DEV_RESET_CAUSE.cause = 2 ∧ t.rd BOOT_CTL.skip = s.rd
    BOOT_CTL.skip % 2 ^ BOOT_CTL.skip.width ∧ t.mem = [] ∧ t.queues = [] ∧ t.cip = {} ∧ t.start = {} ∧ t.pins.resetN =
    true ∧ t.rd BOOT_STATUS.phase = 0 ∧ t.rd DEV_STATUS.crs = 1 ∧ t.rd DEV_STATUS.hw_ready = 0 ∧ t.pending = s.pending
    ∧ t.hostMem = s.hostMem ∧ t.boot.hashes = s.boot.hashes ∧ t.boot.revoked = s.boot.revoked ∧ t.boot.svn =
    s.boot.svn ∧ t.boot.flags = s.boot.flags ∧ t.boot.uds = s.boot.uds ∧ t.rd DEV_STRAP.boot_src = straps % 8 ∧ t.rd
    DEV_STRAP.g6_vddq_sel = straps / 2 ^ 7 % 2) ∧
  (∀ (s : State) (off : Bool), s.pins.resetN = true → ∃ t, exec (.resetNFall off) s = .next t ∧ t.pins.resetN = false
    ∧ t.pins.ppsOut = false ∧ t.pins.thermAlert = true ∧ t.pins.thermTrip = true ∧ t.pins.wakeN = true ∧
    t.pins.pairAlive = false ∧ t.pins.mainRails = (s.pins.mainRails && !off) ∧ t.pins.aliveIn = s.pins.aliveIn ∧
    t.pins.auxRail = s.pins.auxRail ∧ t.regs = s.regs ∧ t.queues = s.queues ∧ t.nrg = s.nrg ∧ t.start = s.start ∧
    t.mem = s.mem ∧ t.hostMem = s.hostMem ∧ t.links = s.links) ∧
  (∀ (s : State) (straps : Nat) (cool : Bool), s.pins.resetN = false → s.pins.testEn = false → (s.nrg.tripLatch =
    false ∨ cool = true) → exec (.deviceReset straps cool) s = .next (deviceReset s straps (if s.pins.mainRails = true
    then 1 else 0))) ∧
  (∀ (s : State) (straps : Nat) (cool : Bool), s.pins.testEn = true → exec (.deviceReset straps cool) s = .next (s)) ∧
  (∀ (s : State) (who : Initiator) (straps : Nat), stopped s = false → writable who BOOT_CTL.phase_req 0 s = true →
    exec (.reboot who straps) s = .next (deviceReset s straps 2)) ∧
  (∀ (s : State) (off : Bool), exec (.resetNFall off) s = .next
    ({ s with pins := { resetPins s.pins with resetN := false, mainRails := s.pins.mainRails && !off, pme := if s.pins.resetN = true then (List.range 8).any (fun p => (fnSt s p).pmeEn) else s.pins.pme } })) ∧
  (∀ (s : State), s.pins.mainRails = true → exec (.smbusReadTemperature) s = .next
    ({ s with rdata := s.rd NRG_THERM_STAT.max_c })) ∧
  (∀ (s : State), s.pins.mainRails = true → exec (.smbusReadPower) s = .next
    ({ s with rdata := (s.rd NRG_RAIL_LEG.beads 0 + s.rd NRG_RAIL_LEG.beads 1 + s.rd NRG_RAIL_LEG.beads 2) * 10 / max 1 s.nrg.lastUs % 0x10000 })) ∧
  (∀ (s : State), s.pins.mainRails = true → exec (.smbusReadStatus) s = .next
    ({ s with rdata := s.rd DEV_STATUS.hw_ready + s.rd DEV_STATUS.fw_ready * 2 + s.rd DEV_STATUS.hw_fault * 4 + s.rd DEV_STATUS.crs * 8 + s.rd DEV_STATUS.g6_fail % 16 * 16 })) ∧
  (∀ (s : State), s.pins.mainRails = true → exec (.smbusReadThermal) s = .next
    ({ s with rdata := s.rd NRG_STATUS.warn + s.rd NRG_STATUS.throttle * 2 + s.rd NRG_STATUS.critical * 4 + s.rd NRG_STATUS.trip_prior * 8 })) ∧
  (∀ (s : State) (c : Instr), s.pins.mainRails = false → (c = .smbusReadTemperature ∨ c = .smbusReadPower ∨ c =
    .smbusReadStatus ∨ c = .smbusReadThermal) → exec (c) s = .next (s)) ∧
  (∀ (s : State), s.pins.resetN = false → s.pins.mainRails = false → s.pins.auxRail = true → s.pins.pme = true → exec
    (.smbusWake 1) s = .next ({ s with pins := { s.pins with wakeN := false } })) ∧
  (∀ (s : State) (b : Nat), b ≠ 1 → exec (.smbusWake b) s = .next (s)) ∧
  (∀ (s : State), s.pins.mainRails = true → exec (.smbusWake 1) s = .next (s))

/-- PLL lock records the oscillator; each serdes group calibrates once with its clock present or absent; a GDDR6 device is
  trained, or after its third failed attempt marked failed, which sets hw_fault. The last step of the sequence sets
  hw_ready and, once the ROM is done, ends CRS. Initialising the steward memory writes its 4 MiB with zeros and leaves
  every other byte of memory. A link of the bifurcation whose group is calibrated with its clock and whose PERST_N is
  high comes up; a link that goes down returns the tags of its requests (here none) and leaves the list. -/
def Obligations.StartSequenceAndHostLinks : Prop :=
  (∀ (s : State), stopped s = false → s.start.pll = false → startDone { s with start := { s.start with pll := true } }
    = false → exec (.pllLock) s = .next (({ s with start := { s.start with pll := true } } : State).wr
    DEV_CLK_STAT.osc_ok 1)) ∧
  (∀ (s : State) (g : Nat) (b : Bool), stopped s = false → g < 5 → s.start.pll = true → s.start.serdes.contains g =
    false → s.rd DEV_STATUS.hw_ready = 0 → startDone
    { s with start := { s.start with serdes := s.start.serdes ++ [g] } } = false → exec (.serdesCalibrated g b) s =
    .next (({ s with start := { s.start with serdes := s.start.serdes ++ [g] } } : State).wr (serdesClock g) (flag b)
    0)) ∧
  (∀ (s : State) (g : Nat) (b : Bool), stopped s = false → g < 5 → s.start.pll = true → s.start.serdes.contains g =
    false → s.rd DEV_STATUS.hw_ready = 0 → s.rd BOOT_STATUS.phase ≠ 0 → startDone
    { s with start := { s.start with serdes := s.start.serdes ++ [g] } } = true → ∃ t, exec (.serdesCalibrated g b) s
    = .next t ∧ t.rd DEV_STATUS.hw_ready = 1 ∧ t.rd DEV_STATUS.crs = 0 ∧ t.rd (serdesClock g) = flag b ∧ t.mem = s.mem
    ∧ t.hostMem = s.hostMem ∧ t.links = s.links) ∧
  (∀ (s : State) (d : Nat), stopped s = false → d < 12 → s.start.pll = true → s.start.trained.contains d = false →
    (s.rd DEV_STATUS.g6_fail).testBit d = false → startDone
    { s with start := { s.start with trained := s.start.trained ++ [d] } } = false → exec (.gddr6TrainingDone d true)
    s = .next ({ s with start := { s.start with trained := s.start.trained ++ [d] } })) ∧
  (∀ (s : State) (d : Nat), stopped s = false → d < 12 → s.start.pll = true → s.start.trained.contains d = false →
    (s.rd DEV_STATUS.g6_fail).testBit d = false → Map.get s.start.tries d < 2 → exec (.gddr6TrainingDone d false) s =
    .next ({ s with start := { s.start with tries := Map.set s.start.tries d (Map.get s.start.tries d + 1) } })) ∧
  (∀ (s : State) (d : Nat), stopped s = false → d < 12 → s.start.pll = true → s.start.trained.contains d = false →
    (s.rd DEV_STATUS.g6_fail).testBit d = false → Map.get s.start.tries d = 2 → s.rd BOOT_STATUS.phase ≠ 0 → ∃ t, exec
    (.gddr6TrainingDone d false) s = .next t ∧ (t.rd DEV_STATUS.g6_fail).testBit d = true ∧ t.rd DEV_STATUS.hw_fault =
    1 ∧ g6Down t = true ∧ t.mem = s.mem ∧ t.hostMem = s.hostMem) ∧
  (∀ (s : State) (d : Nat), stopped s = false → d < 12 → s.start.pll = true → s.start.trained.contains d = false →
    (s.rd DEV_STATUS.g6_fail).testBit d = false → Map.get s.start.tries d = 2 → s.rd BOOT_STATUS.phase = 0 → ∃ t, exec
    (.gddr6TrainingDone d false) s = .next t ∧ (t.rd DEV_STATUS.g6_fail).testBit d = true ∧ t.rd DEV_STATUS.hw_fault =
    1 ∧ t.rd BOOT_STATUS.phase = 4 ∧ t.mem = s.mem ∧ t.hostMem = s.hostMem) ∧
  (∀ (s : State), stopped s = false → s.start.pll = true → s.start.steward = false → startDone
    { s with start := { s.start with steward := true } } = false → ∃ t, exec (.memoryInitDone 0) s = .next t ∧ memLoad
    t stewardMemLo 8 = List.replicate 8 0 ∧ t.start.steward = true ∧ t.regs = s.regs ∧ t.hostMem = s.hostMem ∧ (∀ a,
    stewardMemLo ≤ a → a < stewardMemHi → memLoad t a 1 = [0]) ∧ (∀ a, (a < stewardMemLo ∨ stewardMemHi ≤ a) → memLoad
    t a 1 = memLoad s a 1)) ∧
  (∀ (s : State) (l : Nat), stopped s = false → s.hif.linksUp.contains l = false → (strapLinks s).contains l = true →
    Map.get s.hif.perst (l / 4) = false → s.start.serdes.contains (l / 4) = true → s.rd (serdesClock (l / 4)) = 1 →
    exec (.pcieLinkUp l) s = .next ({ s with hif := { s.hif with linksUp := s.hif.linksUp ++ [l] } })) ∧
  (∀ (s : State) (l : Nat), stopped s = false → s.hif.linksUp.contains l = true → s.hif.reqs = [] → ∃ t, exec
    (.pcieLinkDown l) s = .next t ∧ t.hif.linksUp.contains l = false ∧ t.hif.linksUp = s.hif.linksUp.filter (fun x =>
    decide (x ≠ l)) ∧ t.queues = s.queues ∧ t.mem = s.mem ∧ t.hostMem = s.hostMem) ∧
  (∀ (s : State), stopped s = false → s.start.pll = false → exec (.pllLock) s = .next (syncReady
    (({ s with start := { s.start with pll := true } } : State).wr DEV_CLK_STAT.osc_ok 1))) ∧
  (∀ (s : State) (g : Nat) (b : Bool), stopped s = false → g < 5 → s.start.pll = true → s.start.serdes.contains g =
    false → exec (.serdesCalibrated g b) s = .next (syncReady
    (({ s with start := { s.start with serdes := s.start.serdes ++ [g] } } : State).wr (serdesClock g) (flag b)))) ∧
  (∀ (s : State) (d : Nat), stopped s = false → d < 12 → s.start.pll = true → s.start.trained.contains d = false →
    (s.rd DEV_STATUS.g6_fail).testBit d = false → exec (.gddr6TrainingDone d true) s = .next (syncReady
    { s with start := { s.start with trained := s.start.trained ++ [d] } })) ∧
  (∀ (s : State) (d : Nat), stopped s = false → d < 12 → s.start.pll = true → s.start.trained.contains d = false →
    (s.rd DEV_STATUS.g6_fail).testBit d = false → 2 ≤ Map.get s.start.tries d → exec (.gddr6TrainingDone d false) s =
    .next (syncReady (g6Failed
    { s with start := { s.start with tries := Map.set s.start.tries d (Map.get s.start.tries d + 1) } } d))) ∧
  (∀ (s : State), stopped s = false → s.start.pll = true → s.start.steward = false → exec (.memoryInitDone 0) s =
    .next (syncReady (clearRange { s with start := { s.start with steward := true } } stewardMemLo stewardMemHi))) ∧
  (∀ (s : State), stopped s = false → s.start.pll = true → s.start.sram = false → exec (.memoryInitDone 1) s = .next
    (syncReady (clearRange (clearRange { s with start := { s.start with sram := true } } sramBase stewardMemLo)
    stewardMemHi (sramBase + sramSize)))) ∧
  (∀ (s : State), stopped s = false → s.start.pll = true → s.start.g6 = false → g6Down s = false → trainingOver s =
    true → exec (.memoryInitDone 2) s = .next (syncReady (clearRange { s with start := { s.start with g6 := true } }
    g6Base (g6Base + g6Size)))) ∧
  (∀ (s : State) (l : Nat), stopped s = false → s.hif.linksUp.contains l = true → exec (.pcieLinkDown l) s = .next
    (dropLink s l))

/-- While the ROM runs, the first slot in its order that passes every check is booted: steward 0 runs in supervisor mode
  at the STAGE1 entry, its section stands at its load address, the measurements 0 and 1 are extended, the seal is
  computed, the attempt reads BOOTED and BOOT_STATUS names the source, slot, svn, key and seq, in phase START. Where
  no slot passes, the phase is RECOVERY: PF 0 on host link 0 with 16 vectors, no VFs, no BAR4 and no GDDR6 areas, HIF
  locked, and CRS ends once hw_ready is 1. In RECOVERY a go reads the image through PF 0: without Bus Master Enable or
  where the read fails the attempt ends READ_ERROR; the image stands in the packet buffer; one with a bad header ends
  BAD_HEADER and changes nothing else but BOOT_RCV; one that passes is booted from source 2. UART DATA blocks append
  to the image and are answered 0x06; a CRC mismatch is answered 0x15 and appends nothing; END answers 0x06 and the
  code of the check, booting from source 3 where it passes; ABORT discards the image. -/
def Obligations.StageOneAndRecovery : Prop :=
  (∀ (s : State) (slots : List (Option SlotImage)) (i : Nat) (x : SlotImage) (y : Section), stopped s = false →
    romRuns s = true → (scanBoot s slots).won = some (i, x) → i < 4 → x.find 1 = some y → ∃ t, exec (.stage1Release
    slots) s = .next t ∧ t.rd BOOT_STATUS.source = i / 2 ∧ t.rd BOOT_STATUS.slot = i % 2 ∧ t.rd BOOT_ATTEMPT.code i =
    1 ∧ t.rd BOOT_MEAS.meas 0 = ofLe (sha384 (leBytes 48 (s.rd BOOT_MEAS.meas 0) ++ sha384 x.manifest)) ∧ t.rd
    BOOT_MEAS.meas 1 = ofLe (sha384 (leBytes 48 (s.rd BOOT_MEAS.meas 1) ++ y.digest)) ∧ (stewardInt t 0).running =
    true ∧ (stewardInt t 0).user = false ∧ agentPc t 512 = y.entry % 2 ^ 48 ∧ memLoad t y.load y.length = fitBytes
    y.length (x.body y) ∧ t.rd BOOT_STATUS.phase = 1 ∧ t.rd BOOT_STATUS.svn = x.svn ∧ t.rd BOOT_STATUS.key_index =
    x.key ∧ t.rd BOOT_STATUS.seq = x.seq ∧ t.rd BOOT_SEAL.seal = sealOf s x ∧ t.hostMem = s.hostMem) ∧
  (∀ (s : State) (slots : List (Option SlotImage)), stopped s = false → romRuns s = true → (scanBoot s slots).won =
    none → ∃ t, exec (.recoveryEntry slots) s = .next t ∧ t.rd BOOT_STATUS.phase = 4 ∧ t.rd HIF_PF_CFG.enable 0 = 1 ∧
    t.rd HIF_PF_CFG.link 0 = 0 ∧ t.rd HIF_PF_CFG.total_vfs 0 = 0 ∧ t.rd HIF_PF_CFG.bar4_log2 0 = 0 ∧ t.rd
    HIF_PF_CFG.pf_vec 0 = 16 ∧ t.areas = {} ∧ t.rd (lockField .hif) = 1 ∧ t.mem = s.mem ∧ t.hostMem = s.hostMem ∧
    (s.rd DEV_STATUS.hw_ready = 1 → t.rd DEV_STATUS.crs = 0)) ∧
  (∀ (s : State) (slots : List (Option SlotImage)), stopped s = false → romRuns s = true → (scanBoot s slots).won =
    none → exec (.stage1Release slots) s = .next (s)) ∧
  (∀ (s : State) (slots : List (Option SlotImage)), stopped s = false → romRuns s = false → exec (.stage1Release
    slots) s = .next (s)) ∧
  (∀ (s : State) (slots : List (Option SlotImage)), stopped s = false → romRuns s = false → exec (.recoveryEntry
    slots) s = .next (s)) ∧
  (∀ (s : State) (slots : List (Option SlotImage)) (i : Nat) (x : SlotImage), stopped s = false → romRuns s = true →
    (scanBoot s slots).won = some (i, x) → exec (.stage1Release slots) s = .next (launchImage (applyRecord (recordScan
    s (scanBoot s slots)) x) x (i / 2) (i % 2))) ∧
  (∀ (s : State) (slots : List (Option SlotImage)), stopped s = false → romRuns s = true → (scanBoot s slots).won =
    none → exec (.recoveryEntry slots) s = .next (enterRecovery (recordScan s (scanBoot s slots)))) ∧
  (∀ (s : State) (who : Initiator) (len : Nat) (img : SlotImage), stopped s = false → reaches who
    (BOOT_RCV_CTL.len.key 0 0 / 8) = true → standby s = false → mirrors s = false → s.rd BOOT_STATUS.phase = 4 →
    pcieRecovers s = true → len ≤ slotBytes → fnLive s 0 = false → ∃ t, exec (.recoveryRead who len true img) s =
    .next t ∧ t.rd BOOT_RCV_STAT.code = 11 ∧ t.rd BOOT_RCV_STAT.source = 2 ∧ t.rd BOOT_RCV_STAT.attempts = min 65535
    (s.rd BOOT_RCV_STAT.attempts + 1) ∧ t.rd BOOT_STATUS.phase = 4 ∧ t.mem = s.mem ∧ t.hostMem = s.hostMem ∧ t.links =
    s.links) ∧
  (∀ (s : State) (who : Initiator) (len : Nat) (img : SlotImage), stopped s = false → reaches who
    (BOOT_RCV_CTL.len.key 0 0 / 8) = true → standby s = false → mirrors s = false → s.rd BOOT_STATUS.phase = 4 →
    pcieRecovers s = true → len ≤ slotBytes → ({ img with bytes := fitBytes len img.bytes } : SlotImage).headerOk =
    false → fnLive s 0 = true → ∃ t, exec (.recoveryRead who len true img) s = .next t ∧ t.rd BOOT_RCV_STAT.code = 3 ∧
    t.rd BOOT_RCV_STAT.source = 2 ∧ t.rd BOOT_RCV_CTL.len = len ∧ t.rd BOOT_RCV_STAT.attempts = min 65535 (s.rd
    BOOT_RCV_STAT.attempts + 1) ∧ t.rd BOOT_STATUS.phase = 4 ∧ memLoad t sramBase len = fitBytes len img.bytes ∧
    t.hostMem = s.hostMem ∧ ∀ a, (a < sramBase ∨ sramBase + len ≤ a) → memLoad t a 1 = memLoad s a 1) ∧
  (∀ (s : State) (who : Initiator) (len : Nat) (img : SlotImage) (y : Section), stopped s = false → reaches who
    (BOOT_RCV_CTL.len.key 0 0 / 8) = true → standby s = false → mirrors s = false → s.rd BOOT_STATUS.phase = 4 →
    pcieRecovers s = true → len ≤ slotBytes → fnLive s 0 = true → checkImage (s.wr BOOT_RCV_CTL.len len)
    ({ img with bytes := fitBytes len img.bytes } : SlotImage) = 1 → ({ img with bytes := fitBytes len img.bytes } :
    SlotImage).find 1 = some y → ∃ t, exec (.recoveryRead who len true img) s = .next t ∧ t.rd BOOT_RCV_STAT.code = 1
    ∧ t.rd BOOT_STATUS.source = 2 ∧ t.rd BOOT_STATUS.slot = 0 ∧ (stewardInt t 0).running = true ∧ (stewardInt t
    0).user = false ∧ agentPc t 512 = y.entry % 2 ^ 48 ∧ memLoad t y.load y.length = fitBytes y.length
    (({ img with bytes := fitBytes len img.bytes } : SlotImage).body y) ∧ t.rd BOOT_STATUS.phase = 1 ∧ t.rd
    BOOT_STATUS.svn = ({ img with bytes := fitBytes len img.bytes } : SlotImage).svn ∧ t.rd BOOT_STATUS.key_index =
    ({ img with bytes := fitBytes len img.bytes } : SlotImage).key ∧ t.rd BOOT_STATUS.seq =
    ({ img with bytes := fitBytes len img.bytes } : SlotImage).seq ∧ t.rd BOOT_SEAL.seal = sealOf s
    ({ img with bytes := fitBytes len img.bytes } : SlotImage) ∧ t.hostMem = s.hostMem ∧ t.areas = s.areas) ∧
  (∀ (s : State) (bs : Bytes) (crc : Nat), stopped s = false → s.rd BOOT_STATUS.phase = 4 → uartRecovers s = true →
    bs.length ≤ 4096 → crc16 (leBytes 1 1 ++ leBytes 2 bs.length ++ bs) = crc → s.boot.image.length + bs.length ≤
    slotBytes → exec (.uartData bs crc) s = .next
    ({ s with boot := { s.boot with image := s.boot.image ++ bs, uartOut := s.boot.uartOut ++ [0x06] } })) ∧
  (∀ (s : State) (bs : Bytes) (crc : Nat), stopped s = false → s.rd BOOT_STATUS.phase = 4 → uartRecovers s = true →
    bs.length ≤ 4096 → crc16 (leBytes 1 1 ++ leBytes 2 bs.length ++ bs) ≠ crc → exec (.uartData bs crc) s = .next
    ({ s with boot := { s.boot with uartOut := s.boot.uartOut ++ [0x15] } })) ∧
  (∀ (s : State) (crc : Nat) (m : Bool), stopped s = false → s.rd BOOT_STATUS.phase = 4 → uartRecovers s = true →
    crc16 (leBytes 1 2 ++ leBytes 2 0) = crc → (⟨s.boot.image, 0, true, m⟩ : SlotImage).headerOk = false → ∃ t, exec
    (.uartEnd crc true m) s = .next t ∧ t.rd BOOT_RCV_STAT.code = 3 ∧ t.rd BOOT_RCV_STAT.source = 3 ∧ t.rd
    BOOT_RCV_STAT.attempts = min 65535 (s.rd BOOT_RCV_STAT.attempts + 1) ∧ t.boot.uartOut = s.boot.uartOut ++ [0x06,
    3] ∧ t.boot.image = [] ∧ t.rd BOOT_STATUS.phase = 4 ∧ t.mem = s.mem ∧ t.hostMem = s.hostMem ∧ t.links = s.links) ∧
  (∀ (s : State) (crc : Nat) (y : Section), stopped s = false → s.rd BOOT_STATUS.phase = 4 → uartRecovers s = true →
    crc16 (leBytes 1 2 ++ leBytes 2 0) = crc → checkImage s (⟨s.boot.image, 0, true, true⟩ : SlotImage) = 1 →
    (⟨s.boot.image, 0, true, true⟩ : SlotImage).find 1 = some y → ∃ t, exec (.uartEnd crc true true) s = .next t ∧
    t.rd BOOT_RCV_STAT.code = 1 ∧ t.rd BOOT_STATUS.source = 3 ∧ t.boot.uartOut = s.boot.uartOut ++ [0x06, 1] ∧
    (stewardInt t 0).running = true ∧ (stewardInt t 0).user = false ∧ agentPc t 512 = y.entry % 2 ^ 48 ∧ memLoad t
    y.load y.length = fitBytes y.length ((⟨s.boot.image, 0, true, true⟩ : SlotImage).body y) ∧ t.rd BOOT_STATUS.phase
    = 1 ∧ t.rd BOOT_STATUS.svn = (⟨s.boot.image, 0, true, true⟩ : SlotImage).svn ∧ t.rd BOOT_STATUS.key_index =
    (⟨s.boot.image, 0, true, true⟩ : SlotImage).key ∧ t.rd BOOT_STATUS.seq = (⟨s.boot.image, 0, true, true⟩ :
    SlotImage).seq ∧ t.rd BOOT_SEAL.seal = sealOf s (⟨s.boot.image, 0, true, true⟩ : SlotImage) ∧ t.hostMem =
    s.hostMem ∧ t.areas = s.areas) ∧
  (∀ (s : State) (crc : Nat), stopped s = false → s.rd BOOT_STATUS.phase = 4 → uartRecovers s = true → crc16 (leBytes
    1 3 ++ leBytes 2 0) = crc → exec (.uartAbort crc) s = .next
    ({ s with boot := { s.boot with image := [], uartOut := s.boot.uartOut ++ [0x06] } })) ∧
  (∀ (s t : State) (who : Initiator) (len : Nat) (img : SlotImage) (ok : Bool), stopped s = false → reaches who
    (BOOT_RCV_CTL.len.key 0 0 / 8) = true → standby s = false → mirrors s = false → s.rd BOOT_STATUS.phase = 4 →
    pcieRecovers s = true → len ≤ slotBytes → (fnLive s 0 = false ∨ ok = false) → exec (.recoveryRead who len ok img)
    s = .next (finishRecovery (s.wr BOOT_RCV_CTL.len len) 2 11 ({ img with bytes := fitBytes len img.bytes } :
    SlotImage))) ∧
  (∀ (s : State) (who : Initiator) (len : Nat) (img : SlotImage), stopped s = false → reaches who
    (BOOT_RCV_CTL.len.key 0 0 / 8) = true → standby s = false → mirrors s = false → s.rd BOOT_STATUS.phase = 4 →
    pcieRecovers s = true → len ≤ slotBytes → fnLive s 0 = true → exec (.recoveryRead who len true img) s = .next
    (finishRecovery (memStore (s.wr BOOT_RCV_CTL.len len) sramBase ({ img with bytes := fitBytes len img.bytes } :
    SlotImage).bytes) 2 (checkImage (s.wr BOOT_RCV_CTL.len len) ({ img with bytes := fitBytes len img.bytes } :
    SlotImage)) ({ img with bytes := fitBytes len img.bytes } : SlotImage))) ∧
  (∀ (s : State) (who : Initiator) (len : Nat) (img : SlotImage) (ok : Bool), stopped s = false → reaches who
    (BOOT_RCV_CTL.len.key 0 0 / 8) = true → standby s = false → mirrors s = false → s.rd BOOT_STATUS.phase = 4 →
    pcieRecovers s = true → slotBytes < len → len < 2 ^ 25 → exec (.recoveryRead who len ok img) s = .next (s.wr
    (lockedWriteField .boot) 1)) ∧
  (∀ (s : State) (crc : Nat) (a m : Bool) (t : State), stopped s = false → s.rd BOOT_STATUS.phase = 4 → uartRecovers s
    = true → crc16 (leBytes 1 2 ++ leBytes 2 0) = crc → t = uartReply { s with boot := { s.boot with image := [] } }
    0x06 → exec (.uartEnd crc a m) s = .next (uartReply (finishRecovery t 3 (checkImage s ⟨s.boot.image, 0, a, m⟩)
    ⟨s.boot.image, 0, a, m⟩) (checkImage s ⟨s.boot.image, 0, a, m⟩)))

/-- A steward in supervisor mode moves the phase from START to SERVICE, from SERVICE to TEST and back; any other request
  is ignored. Its fuse commands blow the counter up to a value, a revoked bit, a root hash or flags, end with result 0
  and raise the source; revoking the last usable key ends LAST_KEY, and after fuse_lock every command ends LOCKED,
  with every fuse as before. Bits of BOOT_LOCK are set by 1 and never cleared by a write. A measurement that is not
  locked is extended by BOOT_MEAS_IN; a locked one only reports. relay_release is set in a running phase, and a
  steward releases another at its vector; a bad vector is rejected. -/
def Obligations.PhasesFusesLocksAndReleases : Prop :=
  (∀ (s : State) (who : Initiator) (req : Nat), stopped s = false → supervisorSends s who = true → req < 8 → (s.rd
    BOOT_STATUS.phase = 1 ∧ req = 2) ∨ (s.rd BOOT_STATUS.phase = 2 ∧ req = 3) ∨ (s.rd BOOT_STATUS.phase = 3 ∧ req = 2)
    → ∃ t, exec (.phaseRequest who req) s = .next t ∧ t.rd BOOT_STATUS.phase = req ∧ t.rd IRQ_SRC.asserted 0x1E1 = 1 ∧
    t.mem = s.mem ∧ t.hostMem = s.hostMem) ∧
  (∀ (s : State) (who : Initiator) (req : Nat), stopped s = false → supervisorSends s who = false → exec
    (.phaseRequest who req) s = .next (s)) ∧
  (∀ (s : State) (who : Initiator) (req : Nat), stopped s = false → (s.rd BOOT_STATUS.phase = 0 ∨ s.rd
    BOOT_STATUS.phase = 4) → exec (.phaseRequest who req) s = .next (s)) ∧
  (∀ (s : State) (who : Initiator) (v : Nat), stopped s = false → supervisorSends s who = true → s.rd
    BOOT_LOCK.fuse_lock = 0 → svnCount s.boot.svn < v → v ≤ s.rd BOOT_STATUS.svn → v ≤ 128 → ∃ t, exec (.svnAdvance
    who v true) s = .next t ∧ svnCount t.boot.svn = v ∧ t.rd BOOT_FUSE_STAT.svn_count = v ∧ t.boot.hashes =
    s.boot.hashes ∧ t.boot.revoked = s.boot.revoked ∧ t.boot.flags = s.boot.flags ∧ t.rd BOOT_FCMD.result = 0 ∧ t.rd
    IRQ_SRC.asserted 0x1E0 = 1 ∧ t.mem = s.mem ∧ t.hostMem = s.hostMem) ∧
  (∀ (s : State) (who : Initiator) (k : Nat), stopped s = false → supervisorSends s who = true → s.rd
    BOOT_LOCK.fuse_lock = 0 → k < 4 → s.boot.revoked.testBit k = false → ((List.range 4).all fun j => j = k ||
    !keyUsable s j) = false → ∃ t, exec (.revoke who k true) s = .next t ∧ t.boot.revoked.testBit k = true ∧
    t.boot.hashes = s.boot.hashes ∧ t.boot.svn = s.boot.svn ∧ t.boot.flags = s.boot.flags ∧ t.rd BOOT_FCMD.result = 0
    ∧ t.rd IRQ_SRC.asserted 0x1E0 = 1 ∧ t.mem = s.mem ∧ t.hostMem = s.hostMem) ∧
  (∀ (s : State) (who : Initiator) (k : Nat), stopped s = false → supervisorSends s who = true → s.rd
    BOOT_LOCK.fuse_lock = 0 → k < 4 → ((List.range 4).all fun j => j = k || !keyUsable s j) = true → ∃ t, exec
    (.revoke who k true) s = .next t ∧ t.rd BOOT_FCMD.result = 3 ∧ t.boot.hashes = s.boot.hashes ∧ t.boot.revoked =
    s.boot.revoked ∧ t.boot.svn = s.boot.svn ∧ t.boot.flags = s.boot.flags ∧ t.mem = s.mem ∧ t.hostMem = s.hostMem) ∧
  (∀ (s : State) (who : Initiator) (k : Nat), stopped s = false → supervisorSends s who = true → s.rd
    BOOT_LOCK.fuse_lock = 0 → k < 4 → rootHash s k = 0 → s.rd BOOT_FDATA.hash ≠ 0 → ∃ t, exec (.programHash who k
    true) s = .next t ∧ rootHash t k = s.rd BOOT_FDATA.hash ∧ t.boot.revoked = s.boot.revoked ∧ t.boot.svn =
    s.boot.svn ∧ t.boot.flags = s.boot.flags ∧ t.rd BOOT_FCMD.result = 0 ∧ t.rd IRQ_SRC.asserted 0x1E0 = 1 ∧ t.mem =
    s.mem ∧ t.hostMem = s.hostMem) ∧
  (∀ (s : State) (who : Initiator) (v : Nat), stopped s = false → supervisorSends s who = true → s.rd
    BOOT_LOCK.fuse_lock = 0 → s.boot.flags ||| v % 8 ≠ s.boot.flags → ∃ t, exec (.setFlag who v true) s = .next t ∧
    t.boot.flags = s.boot.flags ||| v % 8 ∧ t.boot.hashes = s.boot.hashes ∧ t.boot.revoked = s.boot.revoked ∧
    t.boot.svn = s.boot.svn ∧ t.rd BOOT_FCMD.result = 0 ∧ t.rd IRQ_SRC.asserted 0x1E0 = 1 ∧ t.mem = s.mem ∧ t.hostMem
    = s.hostMem) ∧
  (∀ (s : State) (who : Initiator) (v k : Nat) (c : Instr), stopped s = false → supervisorSends s who = true → s.rd
    BOOT_LOCK.fuse_lock = 1 → (c = .svnAdvance who v true ∨ c = .revoke who k true ∨ c = .programHash who k true ∨ c =
    .setFlag who v true) → ∃ t, exec (c) s = .next t ∧ t.rd BOOT_FCMD.result = 2 ∧ t.rd IRQ_SRC.asserted 0x1E0 = 1 ∧
    t.boot.hashes = s.boot.hashes ∧ t.boot.revoked = s.boot.revoked ∧ t.boot.svn = s.boot.svn ∧ t.boot.flags =
    s.boot.flags ∧ t.mem = s.mem ∧ t.hostMem = s.hostMem) ∧
  (∀ (s : State) (who : Initiator) (bits : Nat), stopped s = false → writable who BOOT_LOCK.uds_lock 0 s = true → ∃ t,
    exec (.bootLockSet who bits) s = .next t ∧ ([BOOT_LOCK.uds_lock, BOOT_LOCK.seal_lock, BOOT_LOCK.fuse_lock,
    BOOT_LOCK.debug_lock, BOOT_LOCK.meas_lock].all fun d => decide (t.rd d = (s.rd d ||| bitsAt bits d.lo d.width) % 2
    ^ d.width)) = true ∧ t.boot = s.boot ∧ t.mem = s.mem ∧ t.hostMem = s.hostMem ∧ t.links = s.links) ∧
  (∀ (s : State) (who : Initiator) (m : Nat), stopped s = false → writable who BOOT_MEAS_CMD.index 0 s = true → m < 8
    → (s.rd BOOT_LOCK.meas_lock).testBit m = false → exec (.measurementExtend who m) s = .next (s.wr BOOT_MEAS.meas
    (ofLe (sha384 (leBytes 48 (s.rd BOOT_MEAS.meas m) ++ leBytes 48 (s.rd BOOT_MEAS_IN.data)))) m)) ∧
  (∀ (s : State) (who : Initiator) (m : Nat), stopped s = false → writable who BOOT_MEAS_CMD.index 0 s = true → m < 8
    → (s.rd BOOT_LOCK.meas_lock).testBit m = true → exec (.measurementExtend who m) s = .next (s.wr
    (lockViolationField .boot) 1)) ∧
  (∀ (s : State) (who : Initiator), stopped s = false → writable who BOOT_CTL.phase_req 0 s = true → 1 ≤ s.rd
    BOOT_STATUS.phase → s.rd BOOT_STATUS.phase ≤ 3 → exec (.relayRelease who) s = .next (s.wr BOOT_CTL.relay_release
    1)) ∧
  (∀ (s : State) (j k : Nat), stopped s = false → 1 ≤ k → k ≤ 3 → 1 ≤ s.rd BOOT_STATUS.phase → s.rd BOOT_STATUS.phase
    ≤ 3 → (s.rd BOOT_RELEASE.release).testBit k = false → s.rd BOOT_VEC.pc k % 4 = 0 → memExists s (s.rd BOOT_VEC.pc
    k) = true → ∃ t, exec (.bootRelease (.steward j) (2 ^ k)) s = .next t ∧ (t.rd BOOT_RELEASE.release).testBit k =
    true ∧ (stewardInt t k).running = true ∧ (stewardInt t k).user = false ∧ (stewardInt t k).ie = false ∧ agentPc t
    (512 + k) = s.rd BOOT_VEC.pc k % 2 ^ 48 ∧ t.mem = s.mem ∧ t.hostMem = s.hostMem ∧ t.links = s.links) ∧
  (∀ (s : State) (j k : Nat), stopped s = false → 1 ≤ k → k ≤ 3 → 1 ≤ s.rd BOOT_STATUS.phase → s.rd BOOT_STATUS.phase
    ≤ 3 → (s.rd BOOT_RELEASE.release).testBit k = false → (s.rd BOOT_VEC.pc k % 4 ≠ 0 ∨ memExists s (s.rd BOOT_VEC.pc
    k) = false) → exec (.bootRelease (.steward j) (2 ^ k)) s = .next (s.wr (applyRejectField .boot) 1)) ∧
  (∀ (s : State) (who : Initiator) (req : Nat), stopped s = false → supervisorSends s who = true → (s.rd
    BOOT_STATUS.phase = 1 ∧ req % 8 = 2) ∨ (s.rd BOOT_STATUS.phase = 2 ∧ req % 8 = 3) ∨ (s.rd BOOT_STATUS.phase = 3 ∧
    req % 8 = 2) → exec (.phaseRequest who req) s = .next (setPhase s (req % 8))) ∧
  (∀ (s u : State) (who : Initiator) (v : Nat) (vpp : Bool), stopped s = false → supervisorSends s who = true → s.rd
    BOOT_LOCK.fuse_lock = 0 → u = ((s.wr BOOT_FCMD.action 0).wr BOOT_FCMD.key (s.rd BOOT_FCMD.key)).wr BOOT_FCMD.value
    v → (s.rd BOOT_STATUS.svn < v % 256 ∨ v % 256 < svnCount s.boot.svn) → exec (.svnAdvance who v vpp) s = .next
    (fuseEnd u 1)) ∧
  (∀ (s u : State) (who : Initiator) (v : Nat) (vpp : Bool), stopped s = false → supervisorSends s who = true → s.rd
    BOOT_LOCK.fuse_lock = 0 → u = ((s.wr BOOT_FCMD.action 0).wr BOOT_FCMD.key (s.rd BOOT_FCMD.key)).wr BOOT_FCMD.value
    v → v % 256 ≤ s.rd BOOT_STATUS.svn → v % 256 = svnCount s.boot.svn → exec (.svnAdvance who v vpp) s = .next
    (fuseEnd u 0)) ∧
  (∀ (s u : State) (who : Initiator) (v : Nat) (vpp : Bool), stopped s = false → supervisorSends s who = true → s.rd
    BOOT_LOCK.fuse_lock = 0 → u = ((s.wr BOOT_FCMD.action 0).wr BOOT_FCMD.key (s.rd BOOT_FCMD.key)).wr BOOT_FCMD.value
    v → v % 256 ≤ s.rd BOOT_STATUS.svn → svnCount s.boot.svn < v % 256 → vpp = true → v % 256 ≤ 128 → exec
    (.svnAdvance who v vpp) s = .next (fuseEnd { u with boot := { u.boot with svn := svnUpTo s.boot.svn (v % 256) } }
    0)) ∧
  (∀ (s u : State) (who : Initiator) (v : Nat) (vpp : Bool), stopped s = false → supervisorSends s who = true → s.rd
    BOOT_LOCK.fuse_lock = 0 → u = ((s.wr BOOT_FCMD.action 0).wr BOOT_FCMD.key (s.rd BOOT_FCMD.key)).wr BOOT_FCMD.value
    v → v % 256 ≤ s.rd BOOT_STATUS.svn → svnCount s.boot.svn < v % 256 → (vpp = false ∨ 128 < v % 256) → exec
    (.svnAdvance who v vpp) s = .next (fuseEnd u 4)) ∧
  (∀ (s u : State) (who : Initiator) (v : Nat) (vpp : Bool), stopped s = false → supervisorSends s who = true → s.rd
    BOOT_LOCK.fuse_lock = 0 → u = ((s.wr BOOT_FCMD.action 1).wr BOOT_FCMD.key v).wr BOOT_FCMD.value (s.rd
    BOOT_FCMD.value) → ((List.range 4).all fun j => j = v % 4 || !keyUsable s j) = true → exec (.revoke who v vpp) s =
    .next (fuseEnd u 3)) ∧
  (∀ (s u : State) (who : Initiator) (v : Nat) (vpp : Bool), stopped s = false → supervisorSends s who = true → s.rd
    BOOT_LOCK.fuse_lock = 0 → u = ((s.wr BOOT_FCMD.action 1).wr BOOT_FCMD.key v).wr BOOT_FCMD.value (s.rd
    BOOT_FCMD.value) → ((List.range 4).all fun j => j = v % 4 || !keyUsable s j) = false → s.boot.revoked.testBit (v %
    4) = true → exec (.revoke who v vpp) s = .next (fuseEnd u 0)) ∧
  (∀ (s u : State) (who : Initiator) (v : Nat) (vpp : Bool), stopped s = false → supervisorSends s who = true → s.rd
    BOOT_LOCK.fuse_lock = 0 → u = ((s.wr BOOT_FCMD.action 1).wr BOOT_FCMD.key v).wr BOOT_FCMD.value (s.rd
    BOOT_FCMD.value) → ((List.range 4).all fun j => j = v % 4 || !keyUsable s j) = false → s.boot.revoked.testBit (v %
    4) = false → vpp = true → exec (.revoke who v vpp) s = .next (fuseEnd
    { u with boot := { u.boot with revoked := putBit s.boot.revoked (v % 4) true } } 0)) ∧
  (∀ (s u : State) (who : Initiator) (v : Nat) (vpp : Bool), stopped s = false → supervisorSends s who = true → s.rd
    BOOT_LOCK.fuse_lock = 0 → u = ((s.wr BOOT_FCMD.action 1).wr BOOT_FCMD.key v).wr BOOT_FCMD.value (s.rd
    BOOT_FCMD.value) → ((List.range 4).all fun j => j = v % 4 || !keyUsable s j) = false → s.boot.revoked.testBit (v %
    4) = false → vpp = false → exec (.revoke who v vpp) s = .next (fuseEnd u 4)) ∧
  (∀ (s u : State) (who : Initiator) (v : Nat) (vpp : Bool), stopped s = false → supervisorSends s who = true → s.rd
    BOOT_LOCK.fuse_lock = 0 → u = ((s.wr BOOT_FCMD.action 2).wr BOOT_FCMD.key v).wr BOOT_FCMD.value (s.rd
    BOOT_FCMD.value) → rootHash s (v % 4) ≠ 0 → exec (.programHash who v vpp) s = .next (fuseEnd u 1)) ∧
  (∀ (s u : State) (who : Initiator) (v : Nat) (vpp : Bool), stopped s = false → supervisorSends s who = true → s.rd
    BOOT_LOCK.fuse_lock = 0 → u = ((s.wr BOOT_FCMD.action 2).wr BOOT_FCMD.key v).wr BOOT_FCMD.value (s.rd
    BOOT_FCMD.value) → rootHash s (v % 4) = 0 → s.rd BOOT_FDATA.hash = 0 → exec (.programHash who v vpp) s = .next
    (fuseEnd u 0)) ∧
  (∀ (s u : State) (who : Initiator) (v : Nat) (vpp : Bool), stopped s = false → supervisorSends s who = true → s.rd
    BOOT_LOCK.fuse_lock = 0 → u = ((s.wr BOOT_FCMD.action 2).wr BOOT_FCMD.key v).wr BOOT_FCMD.value (s.rd
    BOOT_FCMD.value) → rootHash s (v % 4) = 0 → s.rd BOOT_FDATA.hash ≠ 0 → vpp = true → exec (.programHash who v vpp)
    s = .next (fuseEnd
    { u with boot := { u.boot with hashes := Map.set s.boot.hashes (v % 4) (s.rd BOOT_FDATA.hash) } } 0)) ∧
  (∀ (s u : State) (who : Initiator) (v : Nat) (vpp : Bool), stopped s = false → supervisorSends s who = true → s.rd
    BOOT_LOCK.fuse_lock = 0 → u = ((s.wr BOOT_FCMD.action 2).wr BOOT_FCMD.key v).wr BOOT_FCMD.value (s.rd
    BOOT_FCMD.value) → rootHash s (v % 4) = 0 → s.rd BOOT_FDATA.hash ≠ 0 → vpp = false → exec (.programHash who v vpp)
    s = .next (fuseEnd u 4)) ∧
  (∀ (s u : State) (who : Initiator) (v : Nat) (vpp : Bool), stopped s = false → supervisorSends s who = true → s.rd
    BOOT_LOCK.fuse_lock = 0 → u = ((s.wr BOOT_FCMD.action 3).wr BOOT_FCMD.key (s.rd BOOT_FCMD.key)).wr BOOT_FCMD.value
    v → s.boot.flags ||| (v % 8) = s.boot.flags → exec (.setFlag who v vpp) s = .next (fuseEnd u 0)) ∧
  (∀ (s u : State) (who : Initiator) (v : Nat) (vpp : Bool), stopped s = false → supervisorSends s who = true → s.rd
    BOOT_LOCK.fuse_lock = 0 → u = ((s.wr BOOT_FCMD.action 3).wr BOOT_FCMD.key (s.rd BOOT_FCMD.key)).wr BOOT_FCMD.value
    v → s.boot.flags ||| (v % 8) ≠ s.boot.flags → vpp = true → exec (.setFlag who v vpp) s = .next (fuseEnd
    { u with boot := { u.boot with flags := s.boot.flags ||| (v % 8) } } 0)) ∧
  (∀ (s u : State) (who : Initiator) (v : Nat) (vpp : Bool), stopped s = false → supervisorSends s who = true → s.rd
    BOOT_LOCK.fuse_lock = 0 → u = ((s.wr BOOT_FCMD.action 3).wr BOOT_FCMD.key (s.rd BOOT_FCMD.key)).wr BOOT_FCMD.value
    v → s.boot.flags ||| (v % 8) ≠ s.boot.flags → vpp = false → exec (.setFlag who v vpp) s = .next (fuseEnd u 4)) ∧
  (∀ (s : State) (who : Initiator) (bits : Nat), stopped s = false → writable who BOOT_LOCK.uds_lock 0 s = true → exec
    (.bootLockSet who bits) s = .next ([BOOT_LOCK.uds_lock, BOOT_LOCK.seal_lock, BOOT_LOCK.fuse_lock,
    BOOT_LOCK.debug_lock, BOOT_LOCK.meas_lock].foldl (fun t d => t.wr d (t.rd d ||| bitsAt bits d.lo d.width)) s)) ∧
  (∀ (s : State) (j bits : Nat), stopped s = false → exec (.bootRelease (.steward j) bits) s = .next (([1, 2,
    3].filter bits.testBit).foldl releaseBit s))

/-- A start request of an activity that is allowed and conflicts with no running one starts it; one that conflicts reports
  busy_conflict, one that is not allowed not_allowed, and neither changes its state. A stop request stands until the
  activity's next step boundary. An automatic start that is due runs the activity, waits in PENDING behind a
  conflicting one, or pauses SCRUB where SCRUB alone stands in its way. An activity ends with PASS, FAIL and its code,
  or STOPPED, with its end time, one more run and its source. SCRUB counts each line, and logs and reports one that no
  owner recomputes; a read of the log removes its head. A retraining step counts for its device, of which each has 64;
  one that fails notes its device and ends the work on it (that SCRUB may read its lines in any order, and is over by
  their number, is the model's own choice, log entry 99). An activity whose work is not over goes on. -/
def Obligations.MaintenanceActivities : Prop :=
  (∀ (s : State) (who : Initiator) (a : Nat), stopped s = false → writable who MNT_START.start 0 s = true → 1 ≤ a → a
    ≤ 7 → actAllowed s a (s.rd MNT_ACT.arg a) = true → conflictsNow s a = [] → s.rd MNT_ACT.state a ≠ actPaused → ∃ t,
    exec (.mntStart who (2 ^ a)) s = .next t ∧ t.rd MNT_ACT.state a = actRunning ∧ t.rd MNT_ACT.start_tt a = now s % 2
    ^ 64 ∧ t.rd MNT_ACT.progress a = 0 ∧ t.rd MNT_ACT.fail_code a = 0 ∧ t.rd MNT_START.started = 2 ^ a ∧ t.rd
    MNT_START.busy_conflict = 0 ∧ t.rd MNT_START.not_allowed = 0 ∧ t.mem = s.mem ∧ t.hostMem = s.hostMem) ∧
  (∀ (s : State) (who : Initiator) (a : Nat), stopped s = false → writable who MNT_START.start 0 s = true → 1 ≤ a → a
    ≤ 7 → actAllowed s a (s.rd MNT_ACT.arg a) = true → conflictsNow s a ≠ [] → exec (.mntStart who (2 ^ a)) s = .next
    (((s.wr MNT_START.started 0).wr MNT_START.busy_conflict (2 ^ a)).wr MNT_START.not_allowed 0)) ∧
  (∀ (s : State) (who : Initiator) (a : Nat), stopped s = false → writable who MNT_START.start 0 s = true → 1 ≤ a → a
    ≤ 7 → actAllowed s a (s.rd MNT_ACT.arg a) = false → exec (.mntStart who (2 ^ a)) s = .next (((s.wr
    MNT_START.started 0).wr MNT_START.busy_conflict 0).wr MNT_START.not_allowed (2 ^ a))) ∧
  (∀ (s : State) (who : Initiator) (a : Nat), stopped s = false → writable who MNT_STOP.stop 0 s = true → 1 ≤ a → a ≤
    7 → s.rd MNT_ACT.state a ≠ 0 → s.mnt.stopReq.contains a = false → exec (.mntStop who (2 ^ a)) s = .next
    ({ s with mnt := { s.mnt with stopReq := s.mnt.stopReq ++ [a] } })) ∧
  (∀ (s : State) (who : Initiator) (a : Nat), stopped s = false → writable who MNT_STOP.stop 0 s = true → 1 ≤ a → a ≤
    7 → s.rd MNT_ACT.state a = 0 → exec (.mntStop who (2 ^ a)) s = .next (s)) ∧
  (∀ (s : State) (a : Nat), stopped s = false → 1 ≤ a → a ≤ 7 → autoDue s a = true → actAllowed s a (s.rd MNT_ACT.arg
    a) = true → conflictsNow s a = [] → ∃ t, exec (.activityAutoStart a) s = .next t ∧ t.rd MNT_ACT.state a =
    actRunning ∧ t.rd MNT_ACT.start_tt a = now s % 2 ^ 64 ∧ t.mem = s.mem ∧ t.hostMem = s.hostMem) ∧
  (∀ (s : State) (a b : Nat), stopped s = false → 1 ≤ a → a ≤ 7 → autoDue s a = true → actAllowed s a (s.rd
    MNT_ACT.arg a) = true → conflictsNow s a = [b] → b ≠ 1 → exec (.activityAutoStart a) s = .next ((s.wr
    MNT_ACT.state actPending a).count MNT_ACT.deferrals 1 a)) ∧
  (∀ (s : State) (a : Nat), stopped s = false → 1 ≤ a → a ≤ 7 → autoDue s a = true → actAllowed s a (s.rd MNT_ACT.arg
    a) = true → conflictsNow s a = [1] → s.mnt.stopReq = [] → ∃ t, exec (.activityAutoStart a) s = .next t ∧ t.rd
    MNT_ACT.state a = actRunning ∧ t.rd MNT_ACT.state 1 = actPaused ∧ t.rd MNT_ACT.deferrals a = (s.rd
    MNT_ACT.deferrals a + 1) % 2 ^ 32 ∧ t.mem = s.mem ∧ t.hostMem = s.hostMem) ∧
  (∀ (s : State) (a fail : Nat), stopped s = false → 1 ≤ a → a ≤ 7 → s.rd MNT_ACT.state a = actRunning →
    s.mnt.stopReq.contains a = false → actOver s a = true → (activities.all fun b => b = a || actState s b = 0) = true
    → ∃ t, exec (.activityEnd a fail) s = .next t ∧ t.rd MNT_ACT.result a = (if failOf s a fail = 0 then 1 else 2) ∧
    t.rd MNT_ACT.fail_code a = failOf s a fail % 2 ^ 16 ∧ t.rd MNT_ACT.state a = 0 ∧ t.rd MNT_ACT.end_tt a = now s % 2
    ^ 64 ∧ t.rd MNT_ACT.runs a = (s.rd MNT_ACT.runs a + 1) % 2 ^ 32 ∧ t.rd IRQ_SRC.asserted 0x200 = 1 ∧ t.hostMem =
    s.hostMem) ∧
  (∀ (s : State) (a fail : Nat), stopped s = false → 1 ≤ a → a ≤ 7 → s.rd MNT_ACT.state a ≠ 0 → s.mnt.stopReq = [a] →
    (activities.all fun b => b = a || actState s b = 0) = true → ∃ t, exec (.activityEnd a fail) s = .next t ∧ t.rd
    MNT_ACT.result a = 3 ∧ t.mnt.halted = s.mnt.halted ++ [a] ∧ t.mnt.stopReq = [] ∧ t.rd MNT_ACT.state a = 0 ∧ t.rd
    MNT_ACT.end_tt a = now s % 2 ^ 64 ∧ t.rd MNT_ACT.runs a = (s.rd MNT_ACT.runs a + 1) % 2 ^ 32 ∧ t.rd
    IRQ_SRC.asserted 0x200 = 1 ∧ t.hostMem = s.hostMem) ∧
  (∀ (s : State) (line : Nat), stopped s = false → s.rd MNT_ACT.state 1 = actRunning → s.mnt.stopReq.contains 1 =
    false → memExists s (line * 64) = true → line * 64 < g6Base → s.poison.contains line = false → ∃ t, exec
    (.scrubLine line false true) s = .next t ∧ t.rd MNT_ACT.progress 1 = (s.rd MNT_ACT.progress 1 + 1) % 2 ^ 64 ∧
    t.poison = s.poison ∧ t.mnt = s.mnt ∧ t.mem = s.mem ∧ t.hostMem = s.hostMem) ∧
  (∀ (s : State) (line : Nat), stopped s = false → s.rd MNT_ACT.state 1 = actRunning → s.mnt.stopReq.contains 1 =
    false → stewardMemLo ≤ line * 64 → line * 64 + 64 ≤ stewardMemHi → bucketOfLine s (line * 64) = none →
    s.mnt.log.length < 64 → ∃ t, exec (.scrubLine line true false) s = .next t ∧ t.mnt.log = s.mnt.log ++ [line * 64]
    ∧ t.poison.contains line = true ∧ t.rd IRQ_SRC.asserted 0x201 = 1 ∧ t.mem = s.mem ∧ t.hostMem = s.hostMem) ∧
  (∀ (s : State) (who : Initiator) (x y : Nat), stopped s = false → reaches who Blk.mnt.base = true → s.mnt.log = [x,
    y] → ∃ t, exec (.scrubLogRead who) s = .next t ∧ t.rdata = s.rd MNT_SCRUB_LOG.addr + s.rd
    MNT_SCRUB_LOG.entry_valid <<< 48 + s.rd MNT_SCRUB_LOG.lost <<< 49 ∧ t.mnt.log = [y] ∧ t.rd MNT_SCRUB_LOG.addr = y
    % 2 ^ 48 ∧ t.rd MNT_SCRUB_LOG.entry_valid = 1 ∧ t.mem = s.mem ∧ t.hostMem = s.hostMem ∧ t.links = s.links) ∧
  (∀ (s : State) (d : Nat), stopped s = false → s.rd MNT_ACT.state 2 = actRunning → s.mnt.stopReq.contains 2 = false →
    s.hif.d3AllG6 = false → d < 12 → (retrainMask s).testBit d = true → Map.get s.mnt.retrain d < retrainSteps → exec
    (.retrainStep d true) s = .next
    (({ s with mnt := { s.mnt with retrain := Map.set s.mnt.retrain d (Map.get s.mnt.retrain d + 1) } } : State).count
    MNT_ACT.progress 1 2)) ∧
  (∀ (s : State) (d : Nat), stopped s = false → s.rd MNT_ACT.state 2 = actRunning → s.mnt.stopReq.contains 2 = false →
    s.hif.d3AllG6 = false → d < 12 → (retrainMask s).testBit d = true → Map.get s.mnt.retrain d < retrainSteps → exec
    (.retrainStep d false) s = .next
    ((({ s with mnt := { s.mnt with retrain := Map.set s.mnt.retrain d retrainSteps } } : State).count
    MNT_ACT.progress 1 2).wr MNT_ACT.fail_code (d + 1) 2)) ∧
  (∀ (s : State) (d : Nat) (ok : Bool), stopped s = false → s.rd MNT_ACT.state 2 = actRunning → s.mnt.stopReq.contains
    2 = false → s.hif.d3AllG6 = false → d < 12 → (retrainMask s).testBit d = true → retrainSteps ≤ Map.get
    s.mnt.retrain d → exec (.retrainStep d ok) s = .next (s)) ∧
  (∀ (s : State) (a fail : Nat), stopped s = false → a ∈ activities → s.rd MNT_ACT.state a = actRunning →
    s.mnt.stopReq.contains a = false → actOver s a = true → exec (.activityEnd a fail) s = .next (endAct (if a = 3
    then s.count FT_AUDIT_STAT.runs else s) a (if failOf s a fail = 0 then 1 else 2) (failOf s a fail))) ∧
  (∀ (s : State) (a fail : Nat), stopped s = false → a ∈ activities → s.rd MNT_ACT.state a ≠ actIdle →
    s.mnt.stopReq.contains a = true → exec (.activityEnd a fail) s = .next (endAct
    { s with mnt := { s.mnt with halted := s.mnt.halted ++ [a] } } a 3 (s.rd MNT_ACT.fail_code a))) ∧
  (∀ (s : State) (a fail : Nat), stopped s = false → a ∈ activities → s.rd MNT_ACT.state a = actRunning →
    s.mnt.stopReq.contains a = false → actOver s a = false → exec (.activityEnd a fail) s = .next (s)) ∧
  (∀ (s : State) (line : Nat), stopped s = false → s.rd MNT_ACT.state 1 = actRunning → s.mnt.stopReq.contains 1 =
    false → memExists s (line * 64) = true → line * 64 < g6Base → s.poison.contains line = false → exec (.scrubLine
    line false true) s = .next (sramAccess (s.count MNT_ACT.progress 1 1) 1 0)) ∧
  (∀ (s : State) (line : Nat), stopped s = false → s.rd MNT_ACT.state 1 = actRunning → s.mnt.stopReq.contains 1 =
    false → memExists s (line * 64) = true → g6Base ≤ line * 64 → s.hif.d3AllG6 = false → s.poison.contains line =
    false → exec (.scrubLine line false true) s = .next (g6Access (s.count MNT_ACT.progress 1 1) (line * 64) false 0)) ∧
  (∀ (s : State) (line : Nat) (bad redone : Bool), stopped s = false → s.rd MNT_ACT.state 1 = actRunning →
    s.mnt.stopReq.contains 1 = false → memExists s (line * 64) = true → g6Base ≤ line * 64 → s.hif.d3AllG6 = true →
    exec (.scrubLine line bad redone) s = .next (s.count MNT_ACT.progress 1 1)) ∧
  (∀ (s : State) (line : Nat), stopped s = false → s.rd MNT_ACT.state 1 = actRunning → s.mnt.stopReq.contains 1 =
    false → memExists s (line * 64) = true → stewardMemLo ≤ line * 64 → line * 64 + 64 ≤ stewardMemHi → bucketOfLine s
    (line * 64) = none → exec (.scrubLine line true false) s = .next (logScrub (settle (lineFailed (sramAccess
    (s.count MNT_ACT.progress 1 1) 1 0) line false)) (line * 64))) ∧
  (∀ (s : State) (who : Initiator), stopped s = false → reaches who Blk.mnt.base = true → exec (.scrubLogRead who) s =
    .next (syncScrub
    { s with rdata := s.rd MNT_SCRUB_LOG.addr + s.rd MNT_SCRUB_LOG.entry_valid <<< 48 + s.rd MNT_SCRUB_LOG.lost <<< 49, mnt := { s.mnt with log := s.mnt.log.tail } }))

/-- An armed application whose time has come becomes due for its block's next safe point; the other armed events do what
  their own commands do, a thread's timer setting its timer_fired, and a leg boundary or a refill whose time has come
  takes place; with nothing due nothing changes. A sweep checks only the laws that are enabled: an instance newly out
  of balance is logged with both sides, counted and reported, a balanced one may be logged again later, and nothing
  else of the device changes. A detection event that the second read or a good other copy clears counts as recomputed;
  a lost key slot becomes empty and the event is reported; a flit error retrains its link until the retraining ends. -/
def Obligations.DueEventsTheAbacusAndDetectionCodes : Prop :=
  (∀ (s : State) (tt : Nat) (b : Blk), stopped s = false → dueNext s = some (tt, .application b) → s.armDue.contains b
    = false → exec (.scheduledEvent) s = .next ({ s with armDue := s.armDue ++ [b] })) ∧
  (∀ (s : State) (x : Nat × Armament), stopped s = false → dueNext s = some x → exec (.scheduledEvent) s = .next
    (fireArmed s x.2)) ∧
  (∀ (s : State) (tt : Nat), stopped s = false → dueNext s = some (tt, .leg) → exec (.scheduledEvent) s = .next
    (legBoundary s)) ∧
  (∀ (s : State) (tt : Nat), stopped s = false → dueNext s = some (tt, .refill) → exec (.scheduledEvent) s = .next
    (refillAll s)) ∧
  (∀ (s : State), stopped s = false → dueNext s = none → exec (.scheduledEvent) s = .next (s)) ∧
  (∀ (s : State) (tt n : Nat), stopped s = false → dueNext s = some (tt, .timer n) → ∃ t, exec .scheduledEvent s =
    .next t ∧ exec (.threadTimer n) s = .next t ∧ t.rd RLY_THCTX.timer_fired n = 1) ∧
  (∀ (s : State) (tt n : Nat), stopped s = false → dueNext s = some (tt, .gate n) → ∃ t, exec .scheduledEvent s =
    .next t ∧ exec (.gateAdoption n) s = .next t) ∧
  (∀ (s : State) (tt n : Nat), stopped s = false → dueNext s = some (tt, .wait n) → ∃ t, exec .scheduledEvent s =
    .next t ∧ exec (.dmaWaitExpiry n) s = .next t) ∧
  (∀ (s : State), stopped s = false → s.abc.waiting = [] → s.rd DEV_ABC_CTL.law_en = 0 → ∃ t, exec (.abacusSweep) s =
    .next t ∧ t.abc.log = s.abc.log ∧ t.abc.open_ = s.abc.open_ ∧ t.regs = s.regs ∧ t.mem = s.mem ∧ t.hostMem =
    s.hostMem ∧ t.links = s.links) ∧
  (∀ (s : State), stopped s = false → s.abc.waiting = [] → s.rd DEV_ABC_CTL.law_en = 2 → s.rd CQ_POOL_STAT.free +
    poolHeldSum s ≠ 65536 → s.abc.open_.contains (1, 0) = false → s.abc.log.length < 16 → ∃ t, exec (.abacusSweep) s =
    .next t ∧ t.abc.log = s.abc.log ++ [⟨1, 0, 65536, s.rd CQ_POOL_STAT.free + poolHeldSum s, now s⟩] ∧ t.abc.open_ =
    s.abc.open_ ++ [(1, 0)] ∧ t.rd DEV_ABC_COUNT.count 1 = (s.rd DEV_ABC_COUNT.count 1 + 1) % 2 ^ 64 ∧ t.rd
    IRQ_SRC.asserted 0 = 1 ∧ t.queues = s.queues ∧ t.mem = s.mem ∧ t.hostMem = s.hostMem) ∧
  (∀ (s : State), stopped s = false → s.abc.waiting = [] → s.rd DEV_ABC_CTL.law_en = 2 → s.rd CQ_POOL_STAT.free +
    poolHeldSum s ≠ 65536 → s.abc.open_.contains (1, 0) = true → ∃ t, exec (.abacusSweep) s = .next t ∧ t.abc.log =
    s.abc.log ∧ t.abc.open_ = s.abc.open_ ∧ t.regs = s.regs ∧ t.mem = s.mem ∧ t.hostMem = s.hostMem ∧ t.links =
    s.links) ∧
  (∀ (s : State), stopped s = false → s.abc.waiting = [] → s.rd DEV_ABC_CTL.law_en = 2 → s.rd CQ_POOL_STAT.free +
    poolHeldSum s = 65536 → ∃ t, exec (.abacusSweep) s = .next t ∧ t.abc.log = s.abc.log ∧ t.abc.open_ =
    s.abc.open_.filter (fun x => decide (x ≠ (1, 0))) ∧ t.regs = s.regs ∧ t.mem = s.mem ∧ t.hostMem = s.hostMem ∧
    t.links = s.links) ∧
  (∀ (s : State) (l : Nat) (k : FabricLink), stopped s = false → s.abc.waiting = [] → s.rd DEV_ABC_CTL.law_en = 4 →
    s.abc.fabric = [(l, k)] → s.abc.open_ = [] → s.abc.retrain = [] → k.spent < k.flight + k.freed → s.abc.log.length
    < 16 → ∃ t, exec (.abacusSweep) s = .next t ∧ t.abc.log = s.abc.log ++
    [⟨2, l, Config.linkCredits l, Config.linkCredits l + k.flight + k.freed - k.spent, now s⟩] ∧ t.abc.open_ = [(2,
    l)] ∧ t.rd DEV_ABC_COUNT.count 2 = (s.rd DEV_ABC_COUNT.count 2 + 1) % 2 ^ 64 ∧ t.rd IRQ_SRC.asserted 0 = 1 ∧
    t.queues = s.queues ∧ t.mem = s.mem ∧ t.hostMem = s.hostMem) ∧
  (∀ (s : State) (l : Nat), stopped s = false → s.abc.waiting = [] → s.rd DEV_ABC_CTL.law_en = 4 → Map.keys
    s.abc.fabric = [l] → s.abc.open_ = [] → s.abc.retrain = [l] → ∃ t, exec (.abacusSweep) s = .next t ∧ t.abc.log =
    s.abc.log ∧ t.abc.open_ = [] ∧ t.regs = s.regs ∧ t.mem = s.mem ∧ t.hostMem = s.hostMem ∧ t.links = s.links) ∧
  (∀ (s : State), stopped s = false → s.abc.waiting = [] → s.rd DEV_ABC_CTL.law_en = 8 → freeLineCount s + heldAll s =
    totalLines → s.trn.parkFree + parkedLines s ≠ 32768 → s.abc.open_ = [] → s.abc.log.length < 16 → ∃ t, exec
    (.abacusSweep) s = .next t ∧ t.abc.log = s.abc.log ++ [⟨3, 1, 32768, s.trn.parkFree + parkedLines s, now s⟩] ∧
    t.abc.open_ = [(3, 1)] ∧ t.rd IRQ_SRC.asserted 0 = 1 ∧ t.queues = s.queues ∧ t.mem = s.mem ∧ t.hostMem =
    s.hostMem) ∧
  (∀ (s : State) (x : Detection) (b : Bool), stopped s = false → detectable s x = true → exec (.detectionReread x true
    b) s = .next (pmc (s.wr DEV_DET_COUNT.recomputed (s.rd DEV_DET_COUNT.recomputed + 1)) 3 0 1 none)) ∧
  (∀ (s : State) (k : Nat), stopped s = false → exec (.detectionReread (.keyCache k) false true) s = .next (pmc (s.wr
    DEV_DET_COUNT.recomputed (s.rd DEV_DET_COUNT.recomputed + 1)) 3 0 1 none)) ∧
  (∀ (s : State) (k : Nat), stopped s = false → ∃ t, exec (.detectionReread (.keyCache k) false false) s = .next t ∧
    slotImage t k = 0 ∧ t.rd IRQ_SRC.asserted 0x001 = 1 ∧ t.rd IRQ_SRC.asserted 0x142 = 1 ∧ t.mem = s.mem ∧ t.hostMem
    = s.hostMem) ∧
  (∀ (s : State) (l : Nat), stopped s = false → ∃ t, exec (.detectionReread (.flit l none) false true) s = .next t ∧
    t.abc.retrain.contains l = true ∧ t.rd IRQ_SRC.asserted 0x001 = 1 ∧ t.mem = s.mem ∧ t.hostMem = s.hostMem) ∧
  (∀ (s : State) (l : Nat), stopped s = false → exec (.fabricLinkRetrainEnd l) s = .next
    ({ s with abc := { s.abc with retrain := s.abc.retrain.filter fun x => decide (x ≠ l) } }))

/-- A block with a good CRC restarts the 30 microseconds, and any other is discarded. The link comes up once the lanes,
  the clock and the partner's heartbeat are there, and reports a mismatch of configuration or a conflict of roles; it
  goes down after 30 microseconds without a block or with a lane, and each pair state goes on as its table says by the
  level of PAIR_ALIVE_IN. Heartbeats, PAIR_ALIVE_IN, the watchdog and PAIR_KICK, and the end of ACTIVE_HOLD have their
  effects. A standby applies the next record that verifies and acknowledges it; an acknowledgement frees the records
  and lets what waited for them be published. A standby promotes by its timer, by PROMOTE or by a handover record,
  with its epoch advanced; HANDOVER makes the active device the standby once nothing is left; the pass ends in
  ACTIVE_SOLO. A use in another state ends BAD_STATE. -/
def Obligations.PairedOperation : Prop :=
  (∀ (s : State) (d : Bytes) (h : Bool), stopped s = false → enabled s .pair = true → d.length = 256 → crc32 (d.take
    252) = leAt d 252 4 → s.rd PAIR_STATUS.state ≠ 5 → exec (.pairBlockReceive d h) s = .next
    ({ s with pair := { s.pair with lastBlock := now s } })) ∧
  (∀ (s : State) (d : Bytes) (h : Bool), stopped s = false → crc32 (d.take 252) ≠ leAt d 252 4 → exec
    (.pairBlockReceive d h) s = .next (s)) ∧
  (∀ (s : State) (d : Bytes), stopped s = false → enabled s .pair = true → d.length = 256 → crc32 (d.take 252) = leAt
    d 252 4 → s.rd PAIR_STATUS.state = 5 → s.rd PAIR_CFG.auto_promote = 1 → s.rd PAIR_STATUS.peer_alive = 0 → ∃ t,
    exec (.pairBlockReceive d false) s = .next t ∧ t.pair.lastBlock = now s ∧ t.pair.lowSince = some (now s) ∧ t.rd
    PAIR_STATUS.state = 5 ∧ t.rd IRQ_SRC.asserted 0x227 = 1 ∧ t.mem = s.mem ∧ t.hostMem = s.hostMem) ∧
  (∀ (s : State) (d : Bytes), stopped s = false → enabled s .pair = true → d.length = 256 → crc32 (d.take 252) = leAt
    d 252 4 → s.rd PAIR_STATUS.state = 5 → ∃ t, exec (.pairBlockReceive d true) s = .next t ∧ t.rd PAIR_STATUS.state =
    7 ∧ t.rd PAIR_STATUS.epoch = (s.rd PAIR_STATUS.epoch + 1) % 2 ^ 32 ∧ t.rd PAIR_LAST_PASS.tt = now s % 2 ^ 64 ∧
    t.rd PAIR_PASS_STAT.decided = 0 ∧ t.rd IRQ_SRC.asserted 0x223 = 1 ∧ t.hostMem = s.hostMem) ∧
  (∀ (s : State), stopped s = false → enabled s .pair = true → s.rd PAIR_STATUS.link_up = 0 → s.start.serdes.contains
    4 = true → s.rd DEV_CLK_STAT.pair = 1 → s.pair.heard = true → s.pair.peerDig = configDigest s → s.pair.peerRole ≠
    s.rd PAIR_CFG.role_req → s.rd PAIR_STATUS.state ∈ [0, 1, 4, 5, 7] → ∃ t, exec (.pairLinkUp) s = .next t ∧ t.rd
    PAIR_STATUS.link_up = 1 ∧ t.rd PAIR_STATUS.cfg_match = 1 ∧ t.pair.lastBlock = now s ∧ t.pair.conflict = false ∧
    t.rd PAIR_STATUS.state = s.rd PAIR_STATUS.state ∧ t.rd IRQ_SRC.asserted 0x220 = 1 ∧ t.mem = s.mem ∧ t.hostMem =
    s.hostMem) ∧
  (∀ (s : State), stopped s = false → enabled s .pair = true → s.rd PAIR_STATUS.link_up = 0 → s.start.serdes.contains
    4 = true → s.rd DEV_CLK_STAT.pair = 1 → s.pair.heard = true → s.pair.peerDig = configDigest s → s.pair.peerRole ≠
    s.rd PAIR_CFG.role_req → s.pubs = [] → s.rd PAIR_STATUS.state = 3 → s.rd PAIR_STATUS.peer_state = 5 → ∃ t, exec
    (.pairLinkUp) s = .next t ∧ t.rd PAIR_STATUS.link_up = 1 ∧ t.rd PAIR_STATUS.state = 1 ∧ t.rd IRQ_SRC.asserted
    0x228 = 1 ∧ t.mem = s.mem ∧ t.hostMem = s.hostMem) ∧
  (∀ (s : State), stopped s = false → enabled s .pair = true → s.rd PAIR_STATUS.link_up = 0 → s.start.serdes.contains
    4 = true → s.rd DEV_CLK_STAT.pair = 1 → s.pair.heard = true → s.pair.peerDig ≠ configDigest s → s.pair.peerRole ≠
    s.rd PAIR_CFG.role_req → s.rd PAIR_STATUS.state ∈ [0, 1, 4, 5, 6, 7] → ∃ t, exec (.pairLinkUp) s = .next t ∧ t.rd
    PAIR_STATUS.cfg_match = 0 ∧ t.rd PAIR_STATUS.state = s.rd PAIR_STATUS.state ∧ t.rd IRQ_SRC.asserted 0x226 = 1 ∧
    t.mem = s.mem ∧ t.hostMem = s.hostMem) ∧
  (∀ (s : State), stopped s = false → enabled s .pair = true → s.rd PAIR_STATUS.link_up = 0 → s.start.serdes.contains
    4 = true → s.rd DEV_CLK_STAT.pair = 1 → s.pair.heard = true → s.pair.peerRole = s.rd PAIR_CFG.role_req → ∃ t, exec
    (.pairLinkUp) s = .next t ∧ t.rd PAIR_STATUS.link_up = 1 ∧ t.pair.conflict = true ∧ t.rd PAIR_STATUS.state = s.rd
    PAIR_STATUS.state ∧ t.rd IRQ_SRC.asserted 0x229 = 1 ∧ t.mem = s.mem ∧ t.hostMem = s.hostMem) ∧
  (∀ (s : State), stopped s = false → s.rd PAIR_STATUS.link_up = 1 → s.rd PAIR_STATUS.peer_alive = 0 → s.pubs = [] →
    s.rd PAIR_STATUS.state = 1 → s.pair.lastBlock + 30000 ≤ now s → ∃ t, exec (.pairLinkTimeout) s = .next t ∧ t.rd
    PAIR_STATUS.link_up = 0 ∧ t.rd PAIR_STATUS.state = 3 ∧ t.deltas = [] ∧ t.pseq = 0 ∧ t.rd IRQ_SRC.asserted 0x220 =
    1 ∧ t.rd IRQ_SRC.asserted 0x222 = 1 ∧ t.mem = s.mem ∧ t.hostMem = s.hostMem) ∧
  (∀ (s : State), stopped s = false → s.rd PAIR_STATUS.link_up = 1 → s.rd PAIR_STATUS.peer_alive = 1 → s.rd
    PAIR_STATUS.state = 1 → s.rd PAIR_CFG.hold_us ≠ 0 → s.pair.lastBlock + 30000 ≤ now s → ∃ t, exec
    (.pairLinkTimeout) s = .next t ∧ t.rd PAIR_STATUS.link_up = 0 ∧ t.rd PAIR_STATUS.state = 2 ∧ t.pair.holdTt = now s
    ∧ t.deltas = s.deltas ∧ t.rd IRQ_SRC.asserted 0x221 = 1 ∧ t.mem = s.mem ∧ t.hostMem = s.hostMem) ∧
  (∀ (s : State), stopped s = false → now s < s.pair.lastBlock + 30000 → exec (.pairLinkTimeout) s = .next (s)) ∧
  (∀ (s : State), stopped s = false → s.rd PAIR_STATUS.link_up = 1 → s.rd PAIR_STATUS.peer_alive = 1 → (s.rd
    PAIR_STATUS.state = 4 ∨ s.rd PAIR_STATUS.state = 5) → ∃ t, exec (.laneAlignmentLoss) s = .next t ∧ t.rd
    PAIR_STATUS.link_up = 0 ∧ t.rd PAIR_STATUS.state = 6 ∧ t.pair.heard = false ∧ t.rd IRQ_SRC.asserted 0x220 = 1 ∧
    t.rd IRQ_SRC.asserted 0x221 = 1 ∧ t.mem = s.mem ∧ t.hostMem = s.hostMem) ∧
  (∀ (s : State), stopped s = false → s.rd PAIR_STATUS.link_up = 0 → exec (.laneAlignmentLoss) s = .next (s)) ∧
  (∀ (s : State) (st e r : Nat) (d : Bytes), stopped s = false → enabled s .pair = true → s.rd PAIR_STATUS.link_up = 0
    → exec (.heartbeatReceive st e r d) s = .next
    ({ s.wr PAIR_STATUS.peer_state st with pair := { s.pair with heard := true, peerEpoch := e, peerRole := r, peerDig := d } })) ∧
  (∀ (s : State) (e r : Nat) (d : Bytes), stopped s = false → enabled s .pair = true → s.rd PAIR_STATUS.link_up = 1 →
    s.rd PAIR_STATUS.state = 3 → s.pair.conflict = false → e ≤ s.rd PAIR_STATUS.epoch → s.rd PAIR_STATUS.cfg_match = 1
    → s.pubs = [] → ∃ t, exec (.heartbeatReceive 5 e r d) s = .next t ∧ t.rd PAIR_STATUS.state = 1 ∧ t.rd
    PAIR_STATUS.peer_state = 5 ∧ t.pair.peerEpoch = e ∧ t.rd IRQ_SRC.asserted 0x228 = 1 ∧ t.mem = s.mem ∧ t.hostMem =
    s.hostMem) ∧
  (∀ (s : State) (e r : Nat) (d : Bytes), stopped s = false → enabled s .pair = true → s.rd PAIR_STATUS.link_up = 1 →
    s.rd PAIR_STATUS.state = 3 → s.pair.conflict = false → s.rd PAIR_STATUS.epoch < e → ∃ t, exec (.heartbeatReceive 3
    e r d) s = .next t ∧ t.rd PAIR_STATUS.state = 6 ∧ t.pubs = [] ∧ t.deltas = [] ∧ t.rd IRQ_SRC.asserted 0x225 = 1 ∧
    t.mem = s.mem ∧ t.hostMem = s.hostMem) ∧
  (∀ (s : State), stopped s = false → s.rd PAIR_STATUS.link_up = 1 → exec (.aliveInChange true) s = .next
    ({ s.wr PAIR_STATUS.peer_alive 1 with pins := { s.pins with aliveIn := true }, pair := { s.pair with lowSince := none } })) ∧
  (∀ (s : State), stopped s = false → s.rd PAIR_STATUS.state = 2 → s.pubs = [] → ∃ t, exec (.aliveInChange false) s =
    .next t ∧ t.rd PAIR_STATUS.peer_alive = 0 ∧ t.rd PAIR_STATUS.state = 3 ∧ t.pins.aliveIn = false ∧ t.rd
    IRQ_SRC.asserted 0x222 = 1 ∧ t.mem = s.mem ∧ t.hostMem = s.hostMem) ∧
  (∀ (s : State) (k : Nat), stopped s = false → s.rd PAIR_CFG.alive_wdog_us ≠ 0 → s.pair.kickTt = some k → k + s.rd
    PAIR_CFG.alive_wdog_us * 1000 ≤ now s → exec (.aliveWatchdogExpiry) s = .next
    ({ s with pins := { s.pins with pairAlive := false } })) ∧
  (∀ (s : State) (who : Initiator), stopped s = false → reaches who (PAIR_CMD.go.key 0 0 / 8) = true → s.rd
    BOOT_STATUS.phase ≠ 4 → enabled s .pair = true → exec (.pairKick who) s = .next
    ({ s with pins := { s.pins with pairAlive := true }, pair := { s.pair with kickTt := some (now s) } })) ∧
  (∀ (s : State) (bs : Bytes) (d : Delta), stopped s = false → parseDelta bs = some d → deltaExpected s d = true →
    d.kind = 8 → ∃ t, exec (.deltaRecordReceive bs) s = .next t ∧ slotImage t d.obj = leAt d.body 0 128 % 2 ^ 1024 ∧
    t.rd PAIR_SEQ.pseq = d.pseq % 2 ^ 64 ∧ t.pair.expect = some (d.pseq + 1) ∧ t.pair.sent = s.pair.sent ++ [.ack
    d.pseq] ∧ t.mem = s.mem ∧ t.hostMem = s.hostMem) ∧
  (∀ (s : State) (bs : Bytes) (d : Delta), stopped s = false → parseDelta bs = some d → deltaExpected s d = false →
    exec (.deltaRecordReceive bs) s = .next (s)) ∧
  (∀ (s : State) (bs : Bytes), stopped s = false → parseDelta bs = none → exec (.deltaRecordReceive bs) s = .next (s)) ∧
  (∀ (s : State) (n : Nat), stopped s = false → s.pubs = [] → s.pair.handover = false → s.rd PAIR_ACKED.pseq ≤ n → n ≤
    s.pseq → exec (.deltaAckReceive n) s = .next (({ s with deltas := s.deltas.filter fun d => decide (n < d.pseq) } :
    State).wr PAIR_ACKED.pseq n)) ∧
  (∀ (s : State) (n need f a : Nat) (bs : Bytes), stopped s = false → s.rd PAIR_STATUS.state = 1 → s.pubs =
    [⟨need, .write f a bs⟩] → need ≤ n → s.pair.handover = false → s.rd PAIR_ACKED.pseq ≤ n → n ≤ s.pseq →
    (s.deltas.all fun d => decide (d.pseq ≤ n)) = true → fnLive s f = true → ∃ t, exec (.deltaAckReceive n) s = .next
    t ∧ t.pubs = [] ∧ t.deltas = [] ∧ loadBytes t.hostMem (hostKey f a) bs.length = bs ∧ t.mem = s.mem) ∧
  (∀ (s : State) (a b : Nat), stopped s = false → a < 4096 → exec (.chargeReportReceive a b) s = .next
    (({ s with nrg := { s.nrg with reports := s.nrg.reports ++ [(a, b)] } } : State).count PAIR_CNT.count 1 6)) ∧
  (∀ (s : State), stopped s = false → s.rd PAIR_STATUS.state = 2 → s.pubs = [] → s.pair.holdTt + s.rd PAIR_CFG.hold_us
    * 1000 ≤ now s → ∃ t, exec (.holdExpiry) s = .next t ∧ t.rd PAIR_STATUS.state = 3 ∧ t.deltas = [] ∧ t.pseq = 0 ∧
    t.rd IRQ_SRC.asserted 0x222 = 1 ∧ t.mem = s.mem ∧ t.hostMem = s.hostMem) ∧
  (∀ (s : State), stopped s = false → (s.rd PAIR_STATUS.state ≠ 2 ∨ now s < s.pair.holdTt + s.rd PAIR_CFG.hold_us *
    1000) → exec (.holdExpiry) s = .next (s)) ∧
  (∀ (s : State) (l : Nat), stopped s = false → s.rd PAIR_STATUS.state = 5 → s.rd PAIR_CFG.auto_promote = 1 → s.rd
    PAIR_STATUS.peer_alive = 0 → s.pair.lowSince = some l → l + 30000 ≤ now s → s.pair.lastBlock + 30000 ≤ now s → ∃
    t, exec (.promotionTimer) s = .next t ∧ t.rd PAIR_STATUS.state = 7 ∧ t.rd PAIR_STATUS.epoch = (s.rd
    PAIR_STATUS.epoch + 1) % 2 ^ 32 ∧ t.rd PAIR_LAST_PASS.tt = now s % 2 ^ 64 ∧ t.rd PAIR_PASS_STAT.decided = 0 ∧ t.rd
    IRQ_SRC.asserted 0x223 = 1 ∧ t.hostMem = s.hostMem) ∧
  (∀ (s : State), stopped s = false → (s.rd PAIR_STATUS.state ≠ 5 ∨ s.rd PAIR_CFG.auto_promote = 0 ∨ now s <
    s.pair.lastBlock + 30000) → exec (.promotionTimer) s = .next (s)) ∧
  (∀ (s : State) (who : Initiator) (force : Bool), stopped s = false → reaches who (PAIR_CMD.go.key 0 0 / 8) = true →
    s.rd BOOT_STATUS.phase ≠ 4 → s.rd PAIR_CMD.busy = 0 → s.rd PAIR_STATUS.state = 5 → ∃ t, exec (.promote who force)
    s = .next t ∧ t.rd PAIR_CMD.result = 0 ∧ t.rd PAIR_STATUS.state = 7 ∧ t.rd PAIR_STATUS.epoch = (s.rd
    PAIR_STATUS.epoch + 1) % 2 ^ 32 ∧ t.rd PAIR_LAST_PASS.tt = now s % 2 ^ 64 ∧ t.rd PAIR_PASS_STAT.decided = 0 ∧ t.rd
    IRQ_SRC.asserted 0x223 = 1 ∧ t.hostMem = s.hostMem) ∧
  (∀ (s : State) (who : Initiator), stopped s = false → reaches who (PAIR_CMD.go.key 0 0 / 8) = true → s.rd
    BOOT_STATUS.phase ≠ 4 → s.rd PAIR_CMD.busy = 0 → (s.rd PAIR_STATUS.state = 4 ∨ s.rd PAIR_STATUS.state = 6) → ∃ t,
    exec (.promote who true) s = .next t ∧ t.rd PAIR_CMD.result = 0 ∧ t.rd PAIR_STATUS.state = 7 ∧ t.rd
    PAIR_STATUS.epoch = (s.rd PAIR_STATUS.epoch + 1) % 2 ^ 32 ∧ t.rd PAIR_LAST_PASS.tt = now s % 2 ^ 64 ∧ t.rd
    PAIR_PASS_STAT.decided = 0 ∧ t.rd IRQ_SRC.asserted 0x223 = 1 ∧ t.hostMem = s.hostMem) ∧
  (∀ (s : State) (who : Initiator), stopped s = false → reaches who (PAIR_CMD.go.key 0 0 / 8) = true → s.rd
    BOOT_STATUS.phase ≠ 4 → s.rd PAIR_CMD.busy = 0 → s.rd PAIR_STATUS.state ≠ 5 → exec (.promote who false) s = .next
    (((s.wr PAIR_CMD.action 0).wr PAIR_CMD.force 0).wr PAIR_CMD.result 1)) ∧
  (∀ (s : State) (who : Initiator) (force : Bool), stopped s = false → reaches who (PAIR_CMD.go.key 0 0 / 8) = true →
    s.rd BOOT_STATUS.phase ≠ 4 → s.rd PAIR_CMD.busy = 1 → exec (.promote who force) s = .next (s.wr (lockedWriteField
    .pair) 1)) ∧
  (∀ (s : State) (who : Initiator), stopped s = false → reaches who (PAIR_CMD.go.key 0 0 / 8) = true → s.rd
    BOOT_STATUS.phase ≠ 4 → s.rd PAIR_CMD.busy = 0 → s.rd PAIR_STATUS.state = 1 → s.queues = [] → s.deltas = [] →
    s.pubs = [] → ∃ t, exec (.handover who) s = .next t ∧ t.rd PAIR_STATUS.state = 5 ∧ t.rd PAIR_CMD.busy = 0 ∧ t.rd
    PAIR_CMD.result = 0 ∧ t.pair.handover = false ∧ t.pair.sent = s.pair.sent ++ [.handover (s.rd PAIR_STATUS.epoch)]
    ∧ t.mem = s.mem ∧ t.hostMem = s.hostMem) ∧
  (∀ (s : State) (who : Initiator), stopped s = false → reaches who (PAIR_CMD.go.key 0 0 / 8) = true → s.rd
    BOOT_STATUS.phase ≠ 4 → s.rd PAIR_CMD.busy = 0 → s.rd PAIR_STATUS.state = 1 → allRetired s = false → exec
    (.handover who) s = .next
    ({ (s.wr PAIR_CMD.action 1).wr PAIR_CMD.force (s.rd PAIR_CMD.force) |>.wr PAIR_CMD.busy 1 with pair := { s.pair with handover := true } })) ∧
  (∀ (s : State) (who : Initiator), stopped s = false → reaches who (PAIR_CMD.go.key 0 0 / 8) = true → s.rd
    BOOT_STATUS.phase ≠ 4 → s.rd PAIR_CMD.busy = 0 → s.rd PAIR_STATUS.state ≠ 1 → exec (.handover who) s = .next
    (((s.wr PAIR_CMD.action 1).wr PAIR_CMD.force (s.rd PAIR_CMD.force)).wr PAIR_CMD.result 1)) ∧
  (∀ (s : State) (l : List (Nat × Nat × Nat)), stopped s = false → s.rd PAIR_STATUS.state = 7 → liveQueues s = [] →
    s.pair.ops = [] → s.pair.records = [] → s.pubs = [] → ∃ t, exec (.passComplete l) s = .next t ∧ t.rd
    PAIR_STATUS.state = 3 ∧ t.pseq = 0 ∧ t.pair.entries = [] ∧ t.rd IRQ_SRC.asserted 0x224 = 1 ∧ t.mem = s.mem ∧
    t.hostMem = s.hostMem) ∧
  (∀ (s : State) (l : List (Nat × Nat × Nat)), stopped s = false → s.rd PAIR_STATUS.state ≠ 7 → exec (.passComplete l)
    s = .next (s)) ∧
  (∀ (s : State), stopped s = false → enabled s .pair = true → s.rd PAIR_STATUS.link_up = 0 → s.start.serdes.contains
    4 = true → s.rd DEV_CLK_STAT.pair = 1 → s.pair.heard = true → exec (.pairLinkUp) s = .next
    (let u := (raise (s.wr PAIR_STATUS.link_up 1) 0x220); let u := ({ u with pair := { u.pair with lastBlock := now s, conflict := decide (u.pair.peerRole = u.rd PAIR_CFG.role_req) } } : State); let u := u.wr PAIR_STATUS.cfg_match (if u.pair.peerDig = configDigest u then 1 else 0); let u := (if u.pair.peerDig = configDigest u then u else raise u 0x226); pairLook (if u.pair.conflict = true then raise u 0x229 else u))) ∧
  (∀ (s : State), stopped s = false → (enabled s .pair = false ∨ s.rd PAIR_STATUS.link_up = 1 ∨
    s.start.serdes.contains 4 = false ∨ s.rd DEV_CLK_STAT.pair = 0 ∨ s.pair.heard = false) → exec (.pairLinkUp) s =
    .next (s)) ∧
  (∀ (s : State), stopped s = false → s.pair.lastBlock + 30000 ≤ now s → exec (.pairLinkTimeout) s = .next
    (pairLinkDown s)) ∧
  (∀ (s : State), stopped s = false → exec (.laneAlignmentLoss) s = .next (pairLinkDown s)) ∧
  (∀ (s : State) (bs : Bytes) (d : Delta), stopped s = false → parseDelta bs = some d → deltaExpected s d = true →
    exec (.deltaRecordReceive bs) s = .next (applyDelta s d)) ∧
  (∀ (s : State), stopped s = false → s.rd PAIR_STATUS.state = 2 → s.pair.holdTt + s.rd PAIR_CFG.hold_us * 1000 ≤ now
    s → exec (.holdExpiry) s = .next (goSolo s)) ∧
  (∀ (s : State), stopped s = false → s.rd PAIR_STATUS.state = 5 → s.rd PAIR_CFG.auto_promote = 1 → s.rd
    PAIR_STATUS.peer_alive = 0 → (s.pair.lowSince.getD 0) + 30000 ≤ now s → s.pair.lastBlock + 30000 ≤ now s → exec
    (.promotionTimer) s = .next (promote s)) ∧
  (∀ (s : State) (l : List (Nat × Nat × Nat)) (t : State), stopped s = false → s.rd PAIR_STATUS.state = 7 → rebuildAll
    l (liveQueues s) (setPair s pSolo) = some t → exec (.passComplete l) s = .next
    (let q := (liveQueues s); let u := coverRebuilt t q; let u := u.pair.records.foldl (fun v p => passRecord v p.1 p.2) u; let u := u.pair.ops.foldl passLost (passQueues q u); let u := q.foldl updateStatus (q.foldl retireQueue u); let u := (ownersOf u q).foldl (fun v f => requestVector v f 0) u; raise { u with pair := { u.pair with entries := [], ops := [], records := [] } } 0x224)) ∧
  (∀ (s : State) (l : List (Nat × Nat × Nat)), stopped s = false → s.rd PAIR_STATUS.state = 7 → rebuildAll l
    (liveQueues s) (setPair s pSolo) = none → exec (.passComplete l) s = .next (s))

/-- With commands waiting, a step answers what exec answers for the front command on the state whose queue is the rest. No
  command ends in a fault or a refusal: exec answers a next state for every command and state. With none waiting and
  the clocks stopped nothing changes; with the clocks running and nothing waiting for a tick (no VF draining, no
  HANDOVER, no counter, ring, lane or stalled core), one tick passes: at zero adjustment and zero slew TT64 advances
  by 8 ns and nothing else but the tick count changes; a TT_LOAD that waits gives TT64 its value and fraction 0, sets
  valid and owes a leg boundary, and a TT_STEP that waits adds its delta, each setting the jump flag of the leg. That
  the queue exists, and that an idle step is one tick, is the model's own choice (log entry 1). -/
def Obligations.StepRunsTheFrontCommand : Prop :=
  (∀ (s : State) (c : Instr) (rest : List Instr), s.pending = c :: rest → step s = exec c { s with pending := rest }) ∧
  (∀ (c : Instr) (s : State), ∃ t, exec c s = .next t) ∧
  (∀ (s : State), s.pending = [] → stopped s = true → step s = .next s) ∧
  (∀ (s : State), s.pending = [] → stopped s = false → s.hif.mig = [] → s.pair.handover = false →
    enabled s .pmc = false → s.rings = [] → stalledCores s = [] → s.rly.lane = [] → s.rly.stallFor = [] →
    s.tt.load = none → s.tt.stepBy = 0 → s.rd TT_FREQ_ADJ.adj = 0 → s.tt.slew = 0 → s.tt.sub < nsUnit → step s = .next { s with
      tt := { s.tt with tt := (s.tt.tt + 8) % 2 ^ 64, ticks := s.tt.ticks + 1, jumped := false } }) ∧
  (∀ (s : State) (v : Nat), s.pending = [] → stopped s = false → s.hif.mig = [] → s.pair.handover = false →
    enabled s .pmc = false → s.rings = [] → stalledCores s = [] → s.rly.lane = [] → s.rly.stallFor = [] →
    s.tt.load = some v → s.tt.stepBy = 0 → v < 2 ^ 64 → step s = .next
      (({ s with
        tt := { s.tt with tt := v, sub := 0, ticks := s.tt.ticks + 1, load := none, forceLeg := true, jumped := true },
                nrg := { s.nrg with legFlags := s.nrg.legFlags ||| 2 } } : State).wr TT_STATUS.valid 1)) ∧
  (∀ (s : State) (d : Nat), s.pending = [] → stopped s = false → s.hif.mig = [] → s.pair.handover = false →
    enabled s .pmc = false → s.rings = [] → stalledCores s = [] → s.rly.lane = [] → s.rly.stallFor = [] →
    s.tt.load = none → s.tt.stepBy = d → 0 < d → s.rd TT_FREQ_ADJ.adj = 0 → s.tt.slew = 0 → s.tt.sub < nsUnit →
      step s = .next { s with
        tt := { s.tt with tt := ((s.tt.tt + 8) % 2 ^ 64 + d) % 2 ^ 64, ticks := s.tt.ticks + 1, stepBy := 0, jumped := true },
        nrg := { s.nrg with legFlags := s.nrg.legFlags ||| 2 } })

/-- After reset the phase is ROM, CRS is on, hw_ready, fw_ready and hw_fault are 0, no GDDR6 device is marked failed, the
  pair state is UNPAIRED, TT64 is not valid, every queue is DISABLED, every key slot is 0, the measurements and locks
  are 0, the record pool is whole, all laws of the abacus are enabled with their period, no command waits and the
  clocks run. -/
def Obligations.ResetLeavesTheDevice : Prop :=
  State.reset.rd BOOT_STATUS.phase = 0 ∧ State.reset.rd DEV_STATUS.crs = 1 ∧ State.reset.rd DEV_STATUS.hw_ready = 0 ∧
  State.reset.rd DEV_STATUS.fw_ready = 0 ∧ State.reset.rd DEV_STATUS.hw_fault = 0 ∧ State.reset.rd DEV_STATUS.g6_fail = 0 ∧
  State.reset.rd PAIR_STATUS.state = 0 ∧ State.reset.rd TT_STATUS.valid = 0 ∧ State.reset.rd CQ_POOL_STAT.free = 65536 ∧
  State.reset.rd DEV_ABC_CTL.law_en = 0x1FF ∧ State.reset.rd DEV_ABC_CTL.period_us = 100 ∧
  State.reset.pending = [] ∧ stopped State.reset = false ∧
  (∀ q, q < 65536 → queueState State.reset q = 0) ∧ (∀ k, slotImage State.reset k = 0) ∧
  (∀ m, m < 8 → State.reset.rd BOOT_MEAS.meas m = 0) ∧
  (∀ d ∈ [BOOT_LOCK.uds_lock, BOOT_LOCK.seal_lock, BOOT_LOCK.fuse_lock, BOOT_LOCK.meas_lock], State.reset.rd d = 0)

/-- Of any state, after a store of some bytes in internal memory those bytes are read at its address, every byte outside
  them reads as before, and host memory is unchanged; likewise for a write of a function that may issue to host
  memory, of which the bytes at other addresses and of other functions stay. -/
def Obligations.StoresAreReadBackAndTouchNothingElse : Prop :=
  (∀ (s : State) (a : Nat) (bs : Bytes), memLoad (memStore s a bs) a bs.length = bs ∧
    (∀ x, (x < a ∨ a + bs.length ≤ x) → memLoad (memStore s a bs) x 1 = memLoad s x 1) ∧
    (memStore s a bs).hostMem = s.hostMem) ∧
  (∀ (s : State) (f a : Nat) (bs : Bytes), fnLive s f = true →
    loadBytes (hostWrite s f a bs).hostMem (hostKey f a) bs.length = bs ∧
    (∀ k, (k < hostKey f a ∨ hostKey f a + bs.length ≤ k) →
      loadBytes (hostWrite s f a bs).hostMem k 1 = loadBytes s.hostMem k 1) ∧ (hostWrite s f a bs).mem = s.mem)

/-- The clocks are stopped while a thermal trip holds or RESET_N is low. Of every such state, whatever command stands at
  the front of the queue but DEVICE_RESET, a step leaves the clocks stopped, and every part of the state but the
  queue, the read data of the SMBus and the pins is as it was: no register, memory, queue, engine, link or fuse
  changes. RESET_N_FALL enters such a state from every state. -/
def Obligations.StoppedClocksHoldEverything : Prop :=
  (∀ (s t : State), stopped s = true → (∀ straps cool, s.pending.head? ≠ some (.deviceReset straps cool)) →
    step s = .next t → stopped t = true ∧
      t = { s with pending := s.pending.tail, rdata := t.rdata, pins := t.pins }) ∧
  (∀ (s : State) (off : Bool), ∃ t, exec (.resetNFall off) s = .next t ∧ stopped t = true)
end

