-- ==== Sys2Proof/Laws/Map.lean ====
section
/-! SUPPORT. The laws of the sparse maps: what a read gives after a write, and that a write keeps the canonical form. -/
namespace Sys2Proof.Machine

variable {α : Type}

/-- An inserted value is found at its key. -/
@[simp] theorem Map.getD_insert_same (m : Map α) (k : Nat) (v d : α) : Map.getD (Map.insert m k v) k d = v := by
  induction m with
  | nil => simp [Map.insert, Map.getD]
  | cons p m ih =>
    obtain ⟨k', v'⟩ := p
    simp only [Map.insert]
    split
    · simp [Map.getD]
    · split
      · simp [Map.getD]
      · simp [Map.getD, *]

/-- An insertion leaves every other key. -/
theorem Map.getD_insert_other (m : Map α) {k j : Nat} (v d : α) (h : j ≠ k) :
    Map.getD (Map.insert m k v) j d = Map.getD m j d := by
  induction m with
  | nil => simp [Map.insert, Map.getD, h]
  | cons p m ih =>
    obtain ⟨k', v'⟩ := p
    simp only [Map.insert]
    split
    · simp [Map.getD, h]
    · split
      · subst_vars; simp [Map.getD, h]
      · simp [Map.getD, ih]

/-- A removed key reads as the default. -/
@[simp] theorem Map.getD_erase_same (m : Map α) (k : Nat) (d : α) : Map.getD (Map.erase m k) k d = d := by
  induction m with
  | nil => simp [Map.erase, Map.getD]
  | cons p m ih =>
    obtain ⟨k', v'⟩ := p
    simp only [Map.erase, ne_eq, decide_not] at ih
    by_cases h : k' = k
    · simp [Map.erase, h, ih]
    · simp [Map.erase, h, Map.getD, Ne.symm h, ih]

/-- A removal leaves every other key. -/
theorem Map.getD_erase_other (m : Map α) {k j : Nat} (d : α) (h : j ≠ k) :
    Map.getD (Map.erase m k) j d = Map.getD m j d := by
  induction m with
  | nil => simp [Map.erase, Map.getD]
  | cons p m ih =>
    obtain ⟨k', v'⟩ := p
    simp only [Map.erase, ne_eq, decide_not] at ih
    by_cases hk : k' = k
    · subst hk; simp [Map.erase, Map.getD, h, ih]
    · simp [Map.erase, hk, Map.getD, ih]

/-- A read gives the value written. -/
@[simp] theorem Map.getD_setD_same [DecidableEq α] (m : Map α) (k : Nat) (v d : α) : Map.getD (Map.setD m k v d) k d = v := by
  unfold Map.setD
  split
  · simp [*]
  · simp

/-- A write leaves every other key. -/
theorem Map.getD_setD_other [DecidableEq α] (m : Map α) {k j : Nat} (v d e : α) (h : j ≠ k) :
    Map.getD (Map.setD m k v d) j e = Map.getD m j e := by
  unfold Map.setD
  split
  · exact Map.getD_erase_other m e h
  · exact Map.getD_insert_other m v e h

/-- A read gives the value written, for a map of the type's default. -/
@[simp] theorem Map.get_set_same [DecidableEq α] [Inhabited α] (m : Map α) (k : Nat) (v : α) : Map.get (Map.set m k v) k = v :=
  Map.getD_setD_same m k v default

/-- A write leaves every other key, for a map of the type's default. -/
theorem Map.get_set_other [DecidableEq α] [Inhabited α] (m : Map α) {k j : Nat} (v : α) (h : j ≠ k) :
    Map.get (Map.set m k v) j = Map.get m j :=
  Map.getD_setD_other m v default default h

/-- A change gives the changed value. -/
@[simp] theorem Map.get_upd_same [DecidableEq α] [Inhabited α] (m : Map α) (k : Nat) (f : α → α) :
    Map.get (Map.upd m k f) k = f (Map.get m k) :=
  Map.get_set_same m k _

/-- A change leaves every other key. -/
theorem Map.get_upd_other [DecidableEq α] [Inhabited α] (m : Map α) {k j : Nat} (f : α → α) (h : j ≠ k) :
    Map.get (Map.upd m k f) j = Map.get m j :=
  Map.get_set_other m _ h

/-! ### The canonical form -/

/-- The canonical form, spelled out. -/
theorem Map.wf_iff [DecidableEq α] (m : Map α) (d : α) :
    Map.wf m d = true ↔ m.Pairwise (fun a b => a.1 < b.1) ∧ ∀ p ∈ m, p.2 ≠ d := by
  simp [Map.wf, List.all_eq_true]

/-- A key of a map after an insertion is the inserted one or an old one. -/
theorem Map.mem_insert (m : Map α) (k : Nat) (v : α) (p : Nat × α) (h : p ∈ Map.insert m k v) : p = (k, v) ∨ p ∈ m := by
  induction m with
  | nil => simpa [Map.insert] using h
  | cons q m ih =>
    obtain ⟨k', v'⟩ := q
    simp only [Map.insert] at h
    split at h
    · simpa using h
    · split at h
      · rcases List.mem_cons.1 h with h | h
        · exact .inl h
        · exact .inr (List.mem_cons_of_mem _ h)
      · rcases List.mem_cons.1 h with h | h
        · exact .inr (h ▸ List.mem_cons_self ..)
        · exact (ih h).imp id (List.mem_cons_of_mem _)

/-- An insertion keeps the keys strictly rising. -/
theorem Map.insert_sorted (m : Map α) (k : Nat) (v : α) (h : m.Pairwise (fun a b => a.1 < b.1)) :
    (Map.insert m k v).Pairwise (fun a b => a.1 < b.1) := by
  induction m with
  | nil => simp [Map.insert]
  | cons q m ih =>
    obtain ⟨k', v'⟩ := q
    obtain ⟨hq, hm⟩ := List.pairwise_cons.1 h
    simp only [Map.insert]
    split
    · rename_i hk
      refine List.pairwise_cons.2 ⟨fun p hp => ?_, h⟩
      rcases List.mem_cons.1 hp with rfl | hp
      · exact hk
      · exact Nat.lt_trans hk (hq p hp)
    · split
      · subst_vars
        exact List.pairwise_cons.2 ⟨fun p hp => hq p hp, hm⟩
      · refine List.pairwise_cons.2 ⟨fun p hp => ?_, ih hm⟩
        rcases Map.mem_insert m k v p hp with rfl | hp
        · show k' < k
          omega
        · exact hq p hp

/-- A write keeps the canonical form. -/
theorem Map.setD_wf [DecidableEq α] (m : Map α) (k : Nat) (v d : α) (h : Map.wf m d = true) :
    Map.wf (Map.setD m k v d) d = true := by
  rw [Map.wf_iff] at h ⊢
  unfold Map.setD
  split
  · exact ⟨h.1.filter _, fun p hp => h.2 p ((List.mem_filter.1 hp).1)⟩
  · rename_i hv
    refine ⟨Map.insert_sorted m k v h.1, fun p hp => ?_⟩
    rcases Map.mem_insert m k v p hp with rfl | hp
    · exact hv
    · exact h.2 p hp

/-- A write keeps the canonical form, for a map of the type's default. -/
theorem Map.set_wf [DecidableEq α] [Inhabited α] (m : Map α) (k : Nat) (v : α) (h : Map.wf m default = true) :
    Map.wf (Map.set m k v) default = true :=
  Map.setD_wf m k v default h

/-- Dropping entries keeps the canonical form. -/
theorem Map.filter_wf [DecidableEq α] (m : Map α) (d : α) (f : Nat × α → Bool) (h : Map.wf m d = true) :
    Map.wf (m.filter f) d = true := by
  rw [Map.wf_iff] at h ⊢
  exact ⟨h.1.filter _, fun p hp => h.2 p ((List.mem_filter.1 hp).1)⟩

end Sys2Proof.Machine
end

