-- ==== Sys2Proof/Laws/State.lean ====
section
/-! SUPPORT. What each shared update leaves as it was, field by field. -/
namespace Sys2Proof.Machine

/-- A fold of steps that leave a view of the state leaves it. -/
theorem foldl_frame {α β : Type} (view : State → β) (f : State → α → State) (h : ∀ t x, view (f t x) = view t) (l : List α)
    (s : State) : view (l.foldl f s) = view s := by
  induction l generalizing s with
  | nil => rfl
  | cons x l ih => exact (ih _).trans (h s x)

/-! ### State.wr -/

@[simp] theorem State.wr_pending (s : State) (d : Desc) (v i j : Nat) : (s.wr d v i j).pending = s.pending := by unfold State.wr; split <;> rfl
@[simp] theorem State.wr_staged (s : State) (d : Desc) (v i j : Nat) : (s.wr d v i j).staged = s.staged := by unfold State.wr; split <;> rfl
@[simp] theorem State.wr_applyReq (s : State) (d : Desc) (v i j : Nat) : (s.wr d v i j).applyReq = s.applyReq := by unfold State.wr; split <;> rfl
@[simp] theorem State.wr_armDue (s : State) (d : Desc) (v i j : Nat) : (s.wr d v i j).armDue = s.armDue := by unfold State.wr; split <;> rfl
@[simp] theorem State.wr_rdata (s : State) (d : Desc) (v i j : Nat) : (s.wr d v i j).rdata = s.rdata := by unfold State.wr; split <;> rfl
@[simp] theorem State.wr_tt (s : State) (d : Desc) (v i j : Nat) : (s.wr d v i j).tt = s.tt := by unfold State.wr; split <;> rfl
@[simp] theorem State.wr_nrg (s : State) (d : Desc) (v i j : Nat) : (s.wr d v i j).nrg = s.nrg := by unfold State.wr; split <;> rfl
@[simp] theorem State.wr_claims (s : State) (d : Desc) (v i j : Nat) : (s.wr d v i j).claims = s.claims := by unfold State.wr; split <;> rfl
@[simp] theorem State.wr_pmcWraps (s : State) (d : Desc) (v i j : Nat) : (s.wr d v i j).pmcWraps = s.pmcWraps := by unfold State.wr; split <;> rfl
@[simp] theorem State.wr_queues (s : State) (d : Desc) (v i j : Nat) : (s.wr d v i j).queues = s.queues := by unfold State.wr; split <;> rfl
@[simp] theorem State.wr_lastQueue (s : State) (d : Desc) (v i j : Nat) : (s.wr d v i j).lastQueue = s.lastQueue := by unfold State.wr; split <;> rfl
@[simp] theorem State.wr_pushHeld (s : State) (d : Desc) (v i j : Nat) : (s.wr d v i j).pushHeld = s.pushHeld := by unfold State.wr; split <;> rfl
@[simp] theorem State.wr_qcmdStop (s : State) (d : Desc) (v i j : Nat) : (s.wr d v i j).qcmdStop = s.qcmdStop := by unfold State.wr; split <;> rfl
@[simp] theorem State.wr_rings (s : State) (d : Desc) (v i j : Nat) : (s.wr d v i j).rings = s.rings := by unfold State.wr; split <;> rfl
@[simp] theorem State.wr_acceptNo (s : State) (d : Desc) (v i j : Nat) : (s.wr d v i j).acceptNo = s.acceptNo := by unfold State.wr; split <;> rfl
@[simp] theorem State.wr_abortReqs (s : State) (d : Desc) (v i j : Nat) : (s.wr d v i j).abortReqs = s.abortReqs := by unfold State.wr; split <;> rfl
@[simp] theorem State.wr_pubs (s : State) (d : Desc) (v i j : Nat) : (s.wr d v i j).pubs = s.pubs := by unfold State.wr; split <;> rfl
@[simp] theorem State.wr_deltas (s : State) (d : Desc) (v i j : Nat) : (s.wr d v i j).deltas = s.deltas := by unfold State.wr; split <;> rfl
@[simp] theorem State.wr_pseq (s : State) (d : Desc) (v i j : Nat) : (s.wr d v i j).pseq = s.pseq := by unfold State.wr; split <;> rfl
@[simp] theorem State.wr_flushes (s : State) (d : Desc) (v i j : Nat) : (s.wr d v i j).flushes = s.flushes := by unfold State.wr; split <;> rfl
@[simp] theorem State.wr_hif (s : State) (d : Desc) (v i j : Nat) : (s.wr d v i j).hif = s.hif := by unfold State.wr; split <;> rfl
@[simp] theorem State.wr_links (s : State) (d : Desc) (v i j : Nat) : (s.wr d v i j).links = s.links := by unfold State.wr; split <;> rfl
@[simp] theorem State.wr_hostMem (s : State) (d : Desc) (v i j : Nat) : (s.wr d v i j).hostMem = s.hostMem := by unfold State.wr; split <;> rfl
@[simp] theorem State.wr_mem (s : State) (d : Desc) (v i j : Nat) : (s.wr d v i j).mem = s.mem := by unfold State.wr; split <;> rfl
@[simp] theorem State.wr_poison (s : State) (d : Desc) (v i j : Nat) : (s.wr d v i j).poison = s.poison := by unfold State.wr; split <;> rfl
@[simp] theorem State.wr_fresh (s : State) (d : Desc) (v i j : Nat) : (s.wr d v i j).fresh = s.fresh := by unfold State.wr; split <;> rfl
@[simp] theorem State.wr_abc (s : State) (d : Desc) (v i j : Nat) : (s.wr d v i j).abc = s.abc := by unfold State.wr; split <;> rfl
@[simp] theorem State.wr_areas (s : State) (d : Desc) (v i j : Nat) : (s.wr d v i j).areas = s.areas := by unfold State.wr; split <;> rfl
@[simp] theorem State.wr_pins (s : State) (d : Desc) (v i j : Nat) : (s.wr d v i j).pins = s.pins := by unfold State.wr; split <;> rfl
@[simp] theorem State.wr_pp (s : State) (d : Desc) (v i j : Nat) : (s.wr d v i j).pp = s.pp := by unfold State.wr; split <;> rfl
@[simp] theorem State.wr_rly (s : State) (d : Desc) (v i j : Nat) : (s.wr d v i j).rly = s.rly := by unfold State.wr; split <;> rfl
@[simp] theorem State.wr_ft (s : State) (d : Desc) (v i j : Nat) : (s.wr d v i j).ft = s.ft := by unfold State.wr; split <;> rfl
@[simp] theorem State.wr_tm (s : State) (d : Desc) (v i j : Nat) : (s.wr d v i j).tm = s.tm := by unfold State.wr; split <;> rfl
@[simp] theorem State.wr_cip (s : State) (d : Desc) (v i j : Nat) : (s.wr d v i j).cip = s.cip := by unfold State.wr; split <;> rfl
@[simp] theorem State.wr_blk (s : State) (d : Desc) (v i j : Nat) : (s.wr d v i j).blk = s.blk := by unfold State.wr; split <;> rfl
@[simp] theorem State.wr_dma (s : State) (d : Desc) (v i j : Nat) : (s.wr d v i j).dma = s.dma := by unfold State.wr; split <;> rfl
@[simp] theorem State.wr_trn (s : State) (d : Desc) (v i j : Nat) : (s.wr d v i j).trn = s.trn := by unfold State.wr; split <;> rfl
@[simp] theorem State.wr_pair (s : State) (d : Desc) (v i j : Nat) : (s.wr d v i j).pair = s.pair := by unfold State.wr; split <;> rfl
@[simp] theorem State.wr_boot (s : State) (d : Desc) (v i j : Nat) : (s.wr d v i j).boot = s.boot := by unfold State.wr; split <;> rfl
@[simp] theorem State.wr_start (s : State) (d : Desc) (v i j : Nat) : (s.wr d v i j).start = s.start := by unfold State.wr; split <;> rfl
@[simp] theorem State.wr_mnt (s : State) (d : Desc) (v i j : Nat) : (s.wr d v i j).mnt = s.mnt := by unfold State.wr; split <;> rfl

/-! ### State.count -/

@[simp] theorem State.count_pending (s : State) (d : Desc) (n i j : Nat) : (s.count d n i j).pending = s.pending := by simp [State.count]
@[simp] theorem State.count_staged (s : State) (d : Desc) (n i j : Nat) : (s.count d n i j).staged = s.staged := by simp [State.count]
@[simp] theorem State.count_applyReq (s : State) (d : Desc) (n i j : Nat) : (s.count d n i j).applyReq = s.applyReq := by simp [State.count]
@[simp] theorem State.count_armDue (s : State) (d : Desc) (n i j : Nat) : (s.count d n i j).armDue = s.armDue := by simp [State.count]
@[simp] theorem State.count_rdata (s : State) (d : Desc) (n i j : Nat) : (s.count d n i j).rdata = s.rdata := by simp [State.count]
@[simp] theorem State.count_tt (s : State) (d : Desc) (n i j : Nat) : (s.count d n i j).tt = s.tt := by simp [State.count]
@[simp] theorem State.count_nrg (s : State) (d : Desc) (n i j : Nat) : (s.count d n i j).nrg = s.nrg := by simp [State.count]
@[simp] theorem State.count_claims (s : State) (d : Desc) (n i j : Nat) : (s.count d n i j).claims = s.claims := by simp [State.count]
@[simp] theorem State.count_pmcWraps (s : State) (d : Desc) (n i j : Nat) : (s.count d n i j).pmcWraps = s.pmcWraps := by simp [State.count]
@[simp] theorem State.count_queues (s : State) (d : Desc) (n i j : Nat) : (s.count d n i j).queues = s.queues := by simp [State.count]
@[simp] theorem State.count_lastQueue (s : State) (d : Desc) (n i j : Nat) : (s.count d n i j).lastQueue = s.lastQueue := by simp [State.count]
@[simp] theorem State.count_pushHeld (s : State) (d : Desc) (n i j : Nat) : (s.count d n i j).pushHeld = s.pushHeld := by simp [State.count]
@[simp] theorem State.count_qcmdStop (s : State) (d : Desc) (n i j : Nat) : (s.count d n i j).qcmdStop = s.qcmdStop := by simp [State.count]
@[simp] theorem State.count_rings (s : State) (d : Desc) (n i j : Nat) : (s.count d n i j).rings = s.rings := by simp [State.count]
@[simp] theorem State.count_acceptNo (s : State) (d : Desc) (n i j : Nat) : (s.count d n i j).acceptNo = s.acceptNo := by simp [State.count]
@[simp] theorem State.count_abortReqs (s : State) (d : Desc) (n i j : Nat) : (s.count d n i j).abortReqs = s.abortReqs := by simp [State.count]
@[simp] theorem State.count_pubs (s : State) (d : Desc) (n i j : Nat) : (s.count d n i j).pubs = s.pubs := by simp [State.count]
@[simp] theorem State.count_deltas (s : State) (d : Desc) (n i j : Nat) : (s.count d n i j).deltas = s.deltas := by simp [State.count]
@[simp] theorem State.count_pseq (s : State) (d : Desc) (n i j : Nat) : (s.count d n i j).pseq = s.pseq := by simp [State.count]
@[simp] theorem State.count_flushes (s : State) (d : Desc) (n i j : Nat) : (s.count d n i j).flushes = s.flushes := by simp [State.count]
@[simp] theorem State.count_hif (s : State) (d : Desc) (n i j : Nat) : (s.count d n i j).hif = s.hif := by simp [State.count]
@[simp] theorem State.count_links (s : State) (d : Desc) (n i j : Nat) : (s.count d n i j).links = s.links := by simp [State.count]
@[simp] theorem State.count_hostMem (s : State) (d : Desc) (n i j : Nat) : (s.count d n i j).hostMem = s.hostMem := by simp [State.count]
@[simp] theorem State.count_mem (s : State) (d : Desc) (n i j : Nat) : (s.count d n i j).mem = s.mem := by simp [State.count]
@[simp] theorem State.count_poison (s : State) (d : Desc) (n i j : Nat) : (s.count d n i j).poison = s.poison := by simp [State.count]
@[simp] theorem State.count_fresh (s : State) (d : Desc) (n i j : Nat) : (s.count d n i j).fresh = s.fresh := by simp [State.count]
@[simp] theorem State.count_abc (s : State) (d : Desc) (n i j : Nat) : (s.count d n i j).abc = s.abc := by simp [State.count]
@[simp] theorem State.count_areas (s : State) (d : Desc) (n i j : Nat) : (s.count d n i j).areas = s.areas := by simp [State.count]
@[simp] theorem State.count_pins (s : State) (d : Desc) (n i j : Nat) : (s.count d n i j).pins = s.pins := by simp [State.count]
@[simp] theorem State.count_pp (s : State) (d : Desc) (n i j : Nat) : (s.count d n i j).pp = s.pp := by simp [State.count]
@[simp] theorem State.count_rly (s : State) (d : Desc) (n i j : Nat) : (s.count d n i j).rly = s.rly := by simp [State.count]
@[simp] theorem State.count_ft (s : State) (d : Desc) (n i j : Nat) : (s.count d n i j).ft = s.ft := by simp [State.count]
@[simp] theorem State.count_tm (s : State) (d : Desc) (n i j : Nat) : (s.count d n i j).tm = s.tm := by simp [State.count]
@[simp] theorem State.count_cip (s : State) (d : Desc) (n i j : Nat) : (s.count d n i j).cip = s.cip := by simp [State.count]
@[simp] theorem State.count_blk (s : State) (d : Desc) (n i j : Nat) : (s.count d n i j).blk = s.blk := by simp [State.count]
@[simp] theorem State.count_dma (s : State) (d : Desc) (n i j : Nat) : (s.count d n i j).dma = s.dma := by simp [State.count]
@[simp] theorem State.count_trn (s : State) (d : Desc) (n i j : Nat) : (s.count d n i j).trn = s.trn := by simp [State.count]
@[simp] theorem State.count_pair (s : State) (d : Desc) (n i j : Nat) : (s.count d n i j).pair = s.pair := by simp [State.count]
@[simp] theorem State.count_boot (s : State) (d : Desc) (n i j : Nat) : (s.count d n i j).boot = s.boot := by simp [State.count]
@[simp] theorem State.count_start (s : State) (d : Desc) (n i j : Nat) : (s.count d n i j).start = s.start := by simp [State.count]
@[simp] theorem State.count_mnt (s : State) (d : Desc) (n i j : Nat) : (s.count d n i j).mnt = s.mnt := by simp [State.count]

/-! ### State.countSat -/

@[simp] theorem State.countSat_pending (s : State) (d : Desc) (n i j : Nat) : (s.countSat d n i j).pending = s.pending := by simp [State.countSat]
@[simp] theorem State.countSat_staged (s : State) (d : Desc) (n i j : Nat) : (s.countSat d n i j).staged = s.staged := by simp [State.countSat]
@[simp] theorem State.countSat_applyReq (s : State) (d : Desc) (n i j : Nat) : (s.countSat d n i j).applyReq = s.applyReq := by simp [State.countSat]
@[simp] theorem State.countSat_armDue (s : State) (d : Desc) (n i j : Nat) : (s.countSat d n i j).armDue = s.armDue := by simp [State.countSat]
@[simp] theorem State.countSat_rdata (s : State) (d : Desc) (n i j : Nat) : (s.countSat d n i j).rdata = s.rdata := by simp [State.countSat]
@[simp] theorem State.countSat_tt (s : State) (d : Desc) (n i j : Nat) : (s.countSat d n i j).tt = s.tt := by simp [State.countSat]
@[simp] theorem State.countSat_nrg (s : State) (d : Desc) (n i j : Nat) : (s.countSat d n i j).nrg = s.nrg := by simp [State.countSat]
@[simp] theorem State.countSat_claims (s : State) (d : Desc) (n i j : Nat) : (s.countSat d n i j).claims = s.claims := by simp [State.countSat]
@[simp] theorem State.countSat_pmcWraps (s : State) (d : Desc) (n i j : Nat) : (s.countSat d n i j).pmcWraps = s.pmcWraps := by simp [State.countSat]
@[simp] theorem State.countSat_queues (s : State) (d : Desc) (n i j : Nat) : (s.countSat d n i j).queues = s.queues := by simp [State.countSat]
@[simp] theorem State.countSat_lastQueue (s : State) (d : Desc) (n i j : Nat) : (s.countSat d n i j).lastQueue = s.lastQueue := by simp [State.countSat]
@[simp] theorem State.countSat_pushHeld (s : State) (d : Desc) (n i j : Nat) : (s.countSat d n i j).pushHeld = s.pushHeld := by simp [State.countSat]
@[simp] theorem State.countSat_qcmdStop (s : State) (d : Desc) (n i j : Nat) : (s.countSat d n i j).qcmdStop = s.qcmdStop := by simp [State.countSat]
@[simp] theorem State.countSat_rings (s : State) (d : Desc) (n i j : Nat) : (s.countSat d n i j).rings = s.rings := by simp [State.countSat]
@[simp] theorem State.countSat_acceptNo (s : State) (d : Desc) (n i j : Nat) : (s.countSat d n i j).acceptNo = s.acceptNo := by simp [State.countSat]
@[simp] theorem State.countSat_abortReqs (s : State) (d : Desc) (n i j : Nat) : (s.countSat d n i j).abortReqs = s.abortReqs := by simp [State.countSat]
@[simp] theorem State.countSat_pubs (s : State) (d : Desc) (n i j : Nat) : (s.countSat d n i j).pubs = s.pubs := by simp [State.countSat]
@[simp] theorem State.countSat_deltas (s : State) (d : Desc) (n i j : Nat) : (s.countSat d n i j).deltas = s.deltas := by simp [State.countSat]
@[simp] theorem State.countSat_pseq (s : State) (d : Desc) (n i j : Nat) : (s.countSat d n i j).pseq = s.pseq := by simp [State.countSat]
@[simp] theorem State.countSat_flushes (s : State) (d : Desc) (n i j : Nat) : (s.countSat d n i j).flushes = s.flushes := by simp [State.countSat]
@[simp] theorem State.countSat_hif (s : State) (d : Desc) (n i j : Nat) : (s.countSat d n i j).hif = s.hif := by simp [State.countSat]
@[simp] theorem State.countSat_links (s : State) (d : Desc) (n i j : Nat) : (s.countSat d n i j).links = s.links := by simp [State.countSat]
@[simp] theorem State.countSat_hostMem (s : State) (d : Desc) (n i j : Nat) : (s.countSat d n i j).hostMem = s.hostMem := by simp [State.countSat]
@[simp] theorem State.countSat_mem (s : State) (d : Desc) (n i j : Nat) : (s.countSat d n i j).mem = s.mem := by simp [State.countSat]
@[simp] theorem State.countSat_poison (s : State) (d : Desc) (n i j : Nat) : (s.countSat d n i j).poison = s.poison := by simp [State.countSat]
@[simp] theorem State.countSat_fresh (s : State) (d : Desc) (n i j : Nat) : (s.countSat d n i j).fresh = s.fresh := by simp [State.countSat]
@[simp] theorem State.countSat_abc (s : State) (d : Desc) (n i j : Nat) : (s.countSat d n i j).abc = s.abc := by simp [State.countSat]
@[simp] theorem State.countSat_areas (s : State) (d : Desc) (n i j : Nat) : (s.countSat d n i j).areas = s.areas := by simp [State.countSat]
@[simp] theorem State.countSat_pins (s : State) (d : Desc) (n i j : Nat) : (s.countSat d n i j).pins = s.pins := by simp [State.countSat]
@[simp] theorem State.countSat_pp (s : State) (d : Desc) (n i j : Nat) : (s.countSat d n i j).pp = s.pp := by simp [State.countSat]
@[simp] theorem State.countSat_rly (s : State) (d : Desc) (n i j : Nat) : (s.countSat d n i j).rly = s.rly := by simp [State.countSat]
@[simp] theorem State.countSat_ft (s : State) (d : Desc) (n i j : Nat) : (s.countSat d n i j).ft = s.ft := by simp [State.countSat]
@[simp] theorem State.countSat_tm (s : State) (d : Desc) (n i j : Nat) : (s.countSat d n i j).tm = s.tm := by simp [State.countSat]
@[simp] theorem State.countSat_cip (s : State) (d : Desc) (n i j : Nat) : (s.countSat d n i j).cip = s.cip := by simp [State.countSat]
@[simp] theorem State.countSat_blk (s : State) (d : Desc) (n i j : Nat) : (s.countSat d n i j).blk = s.blk := by simp [State.countSat]
@[simp] theorem State.countSat_dma (s : State) (d : Desc) (n i j : Nat) : (s.countSat d n i j).dma = s.dma := by simp [State.countSat]
@[simp] theorem State.countSat_trn (s : State) (d : Desc) (n i j : Nat) : (s.countSat d n i j).trn = s.trn := by simp [State.countSat]
@[simp] theorem State.countSat_pair (s : State) (d : Desc) (n i j : Nat) : (s.countSat d n i j).pair = s.pair := by simp [State.countSat]
@[simp] theorem State.countSat_boot (s : State) (d : Desc) (n i j : Nat) : (s.countSat d n i j).boot = s.boot := by simp [State.countSat]
@[simp] theorem State.countSat_start (s : State) (d : Desc) (n i j : Nat) : (s.countSat d n i j).start = s.start := by simp [State.countSat]
@[simp] theorem State.countSat_mnt (s : State) (d : Desc) (n i j : Nat) : (s.countSat d n i j).mnt = s.mnt := by simp [State.countSat]

/-! ### answer -/

@[simp] theorem answer_pending (s : State) (v : Nat) : (answer s v).pending = s.pending := rfl
@[simp] theorem answer_regs (s : State) (v : Nat) : (answer s v).regs = s.regs := rfl
@[simp] theorem answer_staged (s : State) (v : Nat) : (answer s v).staged = s.staged := rfl
@[simp] theorem answer_applyReq (s : State) (v : Nat) : (answer s v).applyReq = s.applyReq := rfl
@[simp] theorem answer_armDue (s : State) (v : Nat) : (answer s v).armDue = s.armDue := rfl
@[simp] theorem answer_tt (s : State) (v : Nat) : (answer s v).tt = s.tt := rfl
@[simp] theorem answer_nrg (s : State) (v : Nat) : (answer s v).nrg = s.nrg := rfl
@[simp] theorem answer_claims (s : State) (v : Nat) : (answer s v).claims = s.claims := rfl
@[simp] theorem answer_pmcWraps (s : State) (v : Nat) : (answer s v).pmcWraps = s.pmcWraps := rfl
@[simp] theorem answer_queues (s : State) (v : Nat) : (answer s v).queues = s.queues := rfl
@[simp] theorem answer_lastQueue (s : State) (v : Nat) : (answer s v).lastQueue = s.lastQueue := rfl
@[simp] theorem answer_pushHeld (s : State) (v : Nat) : (answer s v).pushHeld = s.pushHeld := rfl
@[simp] theorem answer_qcmdStop (s : State) (v : Nat) : (answer s v).qcmdStop = s.qcmdStop := rfl
@[simp] theorem answer_rings (s : State) (v : Nat) : (answer s v).rings = s.rings := rfl
@[simp] theorem answer_acceptNo (s : State) (v : Nat) : (answer s v).acceptNo = s.acceptNo := rfl
@[simp] theorem answer_abortReqs (s : State) (v : Nat) : (answer s v).abortReqs = s.abortReqs := rfl
@[simp] theorem answer_pubs (s : State) (v : Nat) : (answer s v).pubs = s.pubs := rfl
@[simp] theorem answer_deltas (s : State) (v : Nat) : (answer s v).deltas = s.deltas := rfl
@[simp] theorem answer_pseq (s : State) (v : Nat) : (answer s v).pseq = s.pseq := rfl
@[simp] theorem answer_flushes (s : State) (v : Nat) : (answer s v).flushes = s.flushes := rfl
@[simp] theorem answer_hif (s : State) (v : Nat) : (answer s v).hif = s.hif := rfl
@[simp] theorem answer_links (s : State) (v : Nat) : (answer s v).links = s.links := rfl
@[simp] theorem answer_hostMem (s : State) (v : Nat) : (answer s v).hostMem = s.hostMem := rfl
@[simp] theorem answer_mem (s : State) (v : Nat) : (answer s v).mem = s.mem := rfl
@[simp] theorem answer_poison (s : State) (v : Nat) : (answer s v).poison = s.poison := rfl
@[simp] theorem answer_fresh (s : State) (v : Nat) : (answer s v).fresh = s.fresh := rfl
@[simp] theorem answer_abc (s : State) (v : Nat) : (answer s v).abc = s.abc := rfl
@[simp] theorem answer_areas (s : State) (v : Nat) : (answer s v).areas = s.areas := rfl
@[simp] theorem answer_pins (s : State) (v : Nat) : (answer s v).pins = s.pins := rfl
@[simp] theorem answer_pp (s : State) (v : Nat) : (answer s v).pp = s.pp := rfl
@[simp] theorem answer_rly (s : State) (v : Nat) : (answer s v).rly = s.rly := rfl
@[simp] theorem answer_ft (s : State) (v : Nat) : (answer s v).ft = s.ft := rfl
@[simp] theorem answer_tm (s : State) (v : Nat) : (answer s v).tm = s.tm := rfl
@[simp] theorem answer_cip (s : State) (v : Nat) : (answer s v).cip = s.cip := rfl
@[simp] theorem answer_blk (s : State) (v : Nat) : (answer s v).blk = s.blk := rfl
@[simp] theorem answer_dma (s : State) (v : Nat) : (answer s v).dma = s.dma := rfl
@[simp] theorem answer_trn (s : State) (v : Nat) : (answer s v).trn = s.trn := rfl
@[simp] theorem answer_pair (s : State) (v : Nat) : (answer s v).pair = s.pair := rfl
@[simp] theorem answer_boot (s : State) (v : Nat) : (answer s v).boot = s.boot := rfl
@[simp] theorem answer_start (s : State) (v : Nat) : (answer s v).start = s.start := rfl
@[simp] theorem answer_mnt (s : State) (v : Nat) : (answer s v).mnt = s.mnt := rfl

/-! ### putLink -/

@[simp] theorem putLink_pending (s : State) (x : LinkItem) : (putLink s x).pending = s.pending := rfl
@[simp] theorem putLink_regs (s : State) (x : LinkItem) : (putLink s x).regs = s.regs := rfl
@[simp] theorem putLink_staged (s : State) (x : LinkItem) : (putLink s x).staged = s.staged := rfl
@[simp] theorem putLink_applyReq (s : State) (x : LinkItem) : (putLink s x).applyReq = s.applyReq := rfl
@[simp] theorem putLink_armDue (s : State) (x : LinkItem) : (putLink s x).armDue = s.armDue := rfl
@[simp] theorem putLink_rdata (s : State) (x : LinkItem) : (putLink s x).rdata = s.rdata := rfl
@[simp] theorem putLink_tt (s : State) (x : LinkItem) : (putLink s x).tt = s.tt := rfl
@[simp] theorem putLink_nrg (s : State) (x : LinkItem) : (putLink s x).nrg = s.nrg := rfl
@[simp] theorem putLink_claims (s : State) (x : LinkItem) : (putLink s x).claims = s.claims := rfl
@[simp] theorem putLink_pmcWraps (s : State) (x : LinkItem) : (putLink s x).pmcWraps = s.pmcWraps := rfl
@[simp] theorem putLink_queues (s : State) (x : LinkItem) : (putLink s x).queues = s.queues := rfl
@[simp] theorem putLink_lastQueue (s : State) (x : LinkItem) : (putLink s x).lastQueue = s.lastQueue := rfl
@[simp] theorem putLink_pushHeld (s : State) (x : LinkItem) : (putLink s x).pushHeld = s.pushHeld := rfl
@[simp] theorem putLink_qcmdStop (s : State) (x : LinkItem) : (putLink s x).qcmdStop = s.qcmdStop := rfl
@[simp] theorem putLink_rings (s : State) (x : LinkItem) : (putLink s x).rings = s.rings := rfl
@[simp] theorem putLink_acceptNo (s : State) (x : LinkItem) : (putLink s x).acceptNo = s.acceptNo := rfl
@[simp] theorem putLink_abortReqs (s : State) (x : LinkItem) : (putLink s x).abortReqs = s.abortReqs := rfl
@[simp] theorem putLink_pubs (s : State) (x : LinkItem) : (putLink s x).pubs = s.pubs := rfl
@[simp] theorem putLink_deltas (s : State) (x : LinkItem) : (putLink s x).deltas = s.deltas := rfl
@[simp] theorem putLink_pseq (s : State) (x : LinkItem) : (putLink s x).pseq = s.pseq := rfl
@[simp] theorem putLink_flushes (s : State) (x : LinkItem) : (putLink s x).flushes = s.flushes := rfl
@[simp] theorem putLink_hif (s : State) (x : LinkItem) : (putLink s x).hif = s.hif := rfl
@[simp] theorem putLink_hostMem (s : State) (x : LinkItem) : (putLink s x).hostMem = s.hostMem := rfl
@[simp] theorem putLink_mem (s : State) (x : LinkItem) : (putLink s x).mem = s.mem := rfl
@[simp] theorem putLink_poison (s : State) (x : LinkItem) : (putLink s x).poison = s.poison := rfl
@[simp] theorem putLink_fresh (s : State) (x : LinkItem) : (putLink s x).fresh = s.fresh := rfl
@[simp] theorem putLink_abc (s : State) (x : LinkItem) : (putLink s x).abc = s.abc := rfl
@[simp] theorem putLink_areas (s : State) (x : LinkItem) : (putLink s x).areas = s.areas := rfl
@[simp] theorem putLink_pins (s : State) (x : LinkItem) : (putLink s x).pins = s.pins := rfl
@[simp] theorem putLink_pp (s : State) (x : LinkItem) : (putLink s x).pp = s.pp := rfl
@[simp] theorem putLink_rly (s : State) (x : LinkItem) : (putLink s x).rly = s.rly := rfl
@[simp] theorem putLink_ft (s : State) (x : LinkItem) : (putLink s x).ft = s.ft := rfl
@[simp] theorem putLink_tm (s : State) (x : LinkItem) : (putLink s x).tm = s.tm := rfl
@[simp] theorem putLink_cip (s : State) (x : LinkItem) : (putLink s x).cip = s.cip := rfl
@[simp] theorem putLink_blk (s : State) (x : LinkItem) : (putLink s x).blk = s.blk := rfl
@[simp] theorem putLink_dma (s : State) (x : LinkItem) : (putLink s x).dma = s.dma := rfl
@[simp] theorem putLink_trn (s : State) (x : LinkItem) : (putLink s x).trn = s.trn := rfl
@[simp] theorem putLink_pair (s : State) (x : LinkItem) : (putLink s x).pair = s.pair := rfl
@[simp] theorem putLink_boot (s : State) (x : LinkItem) : (putLink s x).boot = s.boot := rfl
@[simp] theorem putLink_start (s : State) (x : LinkItem) : (putLink s x).start = s.start := rfl
@[simp] theorem putLink_mnt (s : State) (x : LinkItem) : (putLink s x).mnt = s.mnt := rfl

/-! ### updFn -/

@[simp] theorem updFn_pending (s : State) (f : Nat) (g : FnState → FnState) : (updFn s f g).pending = s.pending := rfl
@[simp] theorem updFn_regs (s : State) (f : Nat) (g : FnState → FnState) : (updFn s f g).regs = s.regs := rfl
@[simp] theorem updFn_staged (s : State) (f : Nat) (g : FnState → FnState) : (updFn s f g).staged = s.staged := rfl
@[simp] theorem updFn_applyReq (s : State) (f : Nat) (g : FnState → FnState) : (updFn s f g).applyReq = s.applyReq := rfl
@[simp] theorem updFn_armDue (s : State) (f : Nat) (g : FnState → FnState) : (updFn s f g).armDue = s.armDue := rfl
@[simp] theorem updFn_rdata (s : State) (f : Nat) (g : FnState → FnState) : (updFn s f g).rdata = s.rdata := rfl
@[simp] theorem updFn_tt (s : State) (f : Nat) (g : FnState → FnState) : (updFn s f g).tt = s.tt := rfl
@[simp] theorem updFn_nrg (s : State) (f : Nat) (g : FnState → FnState) : (updFn s f g).nrg = s.nrg := rfl
@[simp] theorem updFn_claims (s : State) (f : Nat) (g : FnState → FnState) : (updFn s f g).claims = s.claims := rfl
@[simp] theorem updFn_pmcWraps (s : State) (f : Nat) (g : FnState → FnState) : (updFn s f g).pmcWraps = s.pmcWraps := rfl
@[simp] theorem updFn_queues (s : State) (f : Nat) (g : FnState → FnState) : (updFn s f g).queues = s.queues := rfl
@[simp] theorem updFn_lastQueue (s : State) (f : Nat) (g : FnState → FnState) : (updFn s f g).lastQueue = s.lastQueue := rfl
@[simp] theorem updFn_pushHeld (s : State) (f : Nat) (g : FnState → FnState) : (updFn s f g).pushHeld = s.pushHeld := rfl
@[simp] theorem updFn_qcmdStop (s : State) (f : Nat) (g : FnState → FnState) : (updFn s f g).qcmdStop = s.qcmdStop := rfl
@[simp] theorem updFn_rings (s : State) (f : Nat) (g : FnState → FnState) : (updFn s f g).rings = s.rings := rfl
@[simp] theorem updFn_acceptNo (s : State) (f : Nat) (g : FnState → FnState) : (updFn s f g).acceptNo = s.acceptNo := rfl
@[simp] theorem updFn_abortReqs (s : State) (f : Nat) (g : FnState → FnState) : (updFn s f g).abortReqs = s.abortReqs := rfl
@[simp] theorem updFn_pubs (s : State) (f : Nat) (g : FnState → FnState) : (updFn s f g).pubs = s.pubs := rfl
@[simp] theorem updFn_deltas (s : State) (f : Nat) (g : FnState → FnState) : (updFn s f g).deltas = s.deltas := rfl
@[simp] theorem updFn_pseq (s : State) (f : Nat) (g : FnState → FnState) : (updFn s f g).pseq = s.pseq := rfl
@[simp] theorem updFn_flushes (s : State) (f : Nat) (g : FnState → FnState) : (updFn s f g).flushes = s.flushes := rfl
@[simp] theorem updFn_links (s : State) (f : Nat) (g : FnState → FnState) : (updFn s f g).links = s.links := rfl
@[simp] theorem updFn_hostMem (s : State) (f : Nat) (g : FnState → FnState) : (updFn s f g).hostMem = s.hostMem := rfl
@[simp] theorem updFn_mem (s : State) (f : Nat) (g : FnState → FnState) : (updFn s f g).mem = s.mem := rfl
@[simp] theorem updFn_poison (s : State) (f : Nat) (g : FnState → FnState) : (updFn s f g).poison = s.poison := rfl
@[simp] theorem updFn_fresh (s : State) (f : Nat) (g : FnState → FnState) : (updFn s f g).fresh = s.fresh := rfl
@[simp] theorem updFn_abc (s : State) (f : Nat) (g : FnState → FnState) : (updFn s f g).abc = s.abc := rfl
@[simp] theorem updFn_areas (s : State) (f : Nat) (g : FnState → FnState) : (updFn s f g).areas = s.areas := rfl
@[simp] theorem updFn_pins (s : State) (f : Nat) (g : FnState → FnState) : (updFn s f g).pins = s.pins := rfl
@[simp] theorem updFn_pp (s : State) (f : Nat) (g : FnState → FnState) : (updFn s f g).pp = s.pp := rfl
@[simp] theorem updFn_rly (s : State) (f : Nat) (g : FnState → FnState) : (updFn s f g).rly = s.rly := rfl
@[simp] theorem updFn_ft (s : State) (f : Nat) (g : FnState → FnState) : (updFn s f g).ft = s.ft := rfl
@[simp] theorem updFn_tm (s : State) (f : Nat) (g : FnState → FnState) : (updFn s f g).tm = s.tm := rfl
@[simp] theorem updFn_cip (s : State) (f : Nat) (g : FnState → FnState) : (updFn s f g).cip = s.cip := rfl
@[simp] theorem updFn_blk (s : State) (f : Nat) (g : FnState → FnState) : (updFn s f g).blk = s.blk := rfl
@[simp] theorem updFn_dma (s : State) (f : Nat) (g : FnState → FnState) : (updFn s f g).dma = s.dma := rfl
@[simp] theorem updFn_trn (s : State) (f : Nat) (g : FnState → FnState) : (updFn s f g).trn = s.trn := rfl
@[simp] theorem updFn_pair (s : State) (f : Nat) (g : FnState → FnState) : (updFn s f g).pair = s.pair := rfl
@[simp] theorem updFn_boot (s : State) (f : Nat) (g : FnState → FnState) : (updFn s f g).boot = s.boot := rfl
@[simp] theorem updFn_start (s : State) (f : Nat) (g : FnState → FnState) : (updFn s f g).start = s.start := rfl
@[simp] theorem updFn_mnt (s : State) (f : Nat) (g : FnState → FnState) : (updFn s f g).mnt = s.mnt := rfl

/-! ### updMsix -/

@[simp] theorem updMsix_pending (s : State) (f v : Nat) (g : MsixEntry → MsixEntry) : (updMsix s f v g).pending = s.pending := rfl
@[simp] theorem updMsix_regs (s : State) (f v : Nat) (g : MsixEntry → MsixEntry) : (updMsix s f v g).regs = s.regs := rfl
@[simp] theorem updMsix_staged (s : State) (f v : Nat) (g : MsixEntry → MsixEntry) : (updMsix s f v g).staged = s.staged := rfl
@[simp] theorem updMsix_applyReq (s : State) (f v : Nat) (g : MsixEntry → MsixEntry) : (updMsix s f v g).applyReq = s.applyReq := rfl
@[simp] theorem updMsix_armDue (s : State) (f v : Nat) (g : MsixEntry → MsixEntry) : (updMsix s f v g).armDue = s.armDue := rfl
@[simp] theorem updMsix_rdata (s : State) (f v : Nat) (g : MsixEntry → MsixEntry) : (updMsix s f v g).rdata = s.rdata := rfl
@[simp] theorem updMsix_tt (s : State) (f v : Nat) (g : MsixEntry → MsixEntry) : (updMsix s f v g).tt = s.tt := rfl
@[simp] theorem updMsix_nrg (s : State) (f v : Nat) (g : MsixEntry → MsixEntry) : (updMsix s f v g).nrg = s.nrg := rfl
@[simp] theorem updMsix_claims (s : State) (f v : Nat) (g : MsixEntry → MsixEntry) : (updMsix s f v g).claims = s.claims := rfl
@[simp] theorem updMsix_pmcWraps (s : State) (f v : Nat) (g : MsixEntry → MsixEntry) : (updMsix s f v g).pmcWraps = s.pmcWraps := rfl
@[simp] theorem updMsix_queues (s : State) (f v : Nat) (g : MsixEntry → MsixEntry) : (updMsix s f v g).queues = s.queues := rfl
@[simp] theorem updMsix_lastQueue (s : State) (f v : Nat) (g : MsixEntry → MsixEntry) : (updMsix s f v g).lastQueue = s.lastQueue := rfl
@[simp] theorem updMsix_pushHeld (s : State) (f v : Nat) (g : MsixEntry → MsixEntry) : (updMsix s f v g).pushHeld = s.pushHeld := rfl
@[simp] theorem updMsix_qcmdStop (s : State) (f v : Nat) (g : MsixEntry → MsixEntry) : (updMsix s f v g).qcmdStop = s.qcmdStop := rfl
@[simp] theorem updMsix_rings (s : State) (f v : Nat) (g : MsixEntry → MsixEntry) : (updMsix s f v g).rings = s.rings := rfl
@[simp] theorem updMsix_acceptNo (s : State) (f v : Nat) (g : MsixEntry → MsixEntry) : (updMsix s f v g).acceptNo = s.acceptNo := rfl
@[simp] theorem updMsix_abortReqs (s : State) (f v : Nat) (g : MsixEntry → MsixEntry) : (updMsix s f v g).abortReqs = s.abortReqs := rfl
@[simp] theorem updMsix_pubs (s : State) (f v : Nat) (g : MsixEntry → MsixEntry) : (updMsix s f v g).pubs = s.pubs := rfl
@[simp] theorem updMsix_deltas (s : State) (f v : Nat) (g : MsixEntry → MsixEntry) : (updMsix s f v g).deltas = s.deltas := rfl
@[simp] theorem updMsix_pseq (s : State) (f v : Nat) (g : MsixEntry → MsixEntry) : (updMsix s f v g).pseq = s.pseq := rfl
@[simp] theorem updMsix_flushes (s : State) (f v : Nat) (g : MsixEntry → MsixEntry) : (updMsix s f v g).flushes = s.flushes := rfl
@[simp] theorem updMsix_links (s : State) (f v : Nat) (g : MsixEntry → MsixEntry) : (updMsix s f v g).links = s.links := rfl
@[simp] theorem updMsix_hostMem (s : State) (f v : Nat) (g : MsixEntry → MsixEntry) : (updMsix s f v g).hostMem = s.hostMem := rfl
@[simp] theorem updMsix_mem (s : State) (f v : Nat) (g : MsixEntry → MsixEntry) : (updMsix s f v g).mem = s.mem := rfl
@[simp] theorem updMsix_poison (s : State) (f v : Nat) (g : MsixEntry → MsixEntry) : (updMsix s f v g).poison = s.poison := rfl
@[simp] theorem updMsix_fresh (s : State) (f v : Nat) (g : MsixEntry → MsixEntry) : (updMsix s f v g).fresh = s.fresh := rfl
@[simp] theorem updMsix_abc (s : State) (f v : Nat) (g : MsixEntry → MsixEntry) : (updMsix s f v g).abc = s.abc := rfl
@[simp] theorem updMsix_areas (s : State) (f v : Nat) (g : MsixEntry → MsixEntry) : (updMsix s f v g).areas = s.areas := rfl
@[simp] theorem updMsix_pins (s : State) (f v : Nat) (g : MsixEntry → MsixEntry) : (updMsix s f v g).pins = s.pins := rfl
@[simp] theorem updMsix_pp (s : State) (f v : Nat) (g : MsixEntry → MsixEntry) : (updMsix s f v g).pp = s.pp := rfl
@[simp] theorem updMsix_rly (s : State) (f v : Nat) (g : MsixEntry → MsixEntry) : (updMsix s f v g).rly = s.rly := rfl
@[simp] theorem updMsix_ft (s : State) (f v : Nat) (g : MsixEntry → MsixEntry) : (updMsix s f v g).ft = s.ft := rfl
@[simp] theorem updMsix_tm (s : State) (f v : Nat) (g : MsixEntry → MsixEntry) : (updMsix s f v g).tm = s.tm := rfl
@[simp] theorem updMsix_cip (s : State) (f v : Nat) (g : MsixEntry → MsixEntry) : (updMsix s f v g).cip = s.cip := rfl
@[simp] theorem updMsix_blk (s : State) (f v : Nat) (g : MsixEntry → MsixEntry) : (updMsix s f v g).blk = s.blk := rfl
@[simp] theorem updMsix_dma (s : State) (f v : Nat) (g : MsixEntry → MsixEntry) : (updMsix s f v g).dma = s.dma := rfl
@[simp] theorem updMsix_trn (s : State) (f v : Nat) (g : MsixEntry → MsixEntry) : (updMsix s f v g).trn = s.trn := rfl
@[simp] theorem updMsix_pair (s : State) (f v : Nat) (g : MsixEntry → MsixEntry) : (updMsix s f v g).pair = s.pair := rfl
@[simp] theorem updMsix_boot (s : State) (f v : Nat) (g : MsixEntry → MsixEntry) : (updMsix s f v g).boot = s.boot := rfl
@[simp] theorem updMsix_start (s : State) (f v : Nat) (g : MsixEntry → MsixEntry) : (updMsix s f v g).start = s.start := rfl
@[simp] theorem updMsix_mnt (s : State) (f v : Nat) (g : MsixEntry → MsixEntry) : (updMsix s f v g).mnt = s.mnt := rfl

/-! ### putInput -/

@[simp] theorem putInput_pending (s : State) (pipe source : Nat) (w : Waiting) : (putInput s pipe source w).pending = s.pending := rfl
@[simp] theorem putInput_regs (s : State) (pipe source : Nat) (w : Waiting) : (putInput s pipe source w).regs = s.regs := rfl
@[simp] theorem putInput_staged (s : State) (pipe source : Nat) (w : Waiting) : (putInput s pipe source w).staged = s.staged := rfl
@[simp] theorem putInput_applyReq (s : State) (pipe source : Nat) (w : Waiting) : (putInput s pipe source w).applyReq = s.applyReq := rfl
@[simp] theorem putInput_armDue (s : State) (pipe source : Nat) (w : Waiting) : (putInput s pipe source w).armDue = s.armDue := rfl
@[simp] theorem putInput_rdata (s : State) (pipe source : Nat) (w : Waiting) : (putInput s pipe source w).rdata = s.rdata := rfl
@[simp] theorem putInput_tt (s : State) (pipe source : Nat) (w : Waiting) : (putInput s pipe source w).tt = s.tt := rfl
@[simp] theorem putInput_nrg (s : State) (pipe source : Nat) (w : Waiting) : (putInput s pipe source w).nrg = s.nrg := rfl
@[simp] theorem putInput_claims (s : State) (pipe source : Nat) (w : Waiting) : (putInput s pipe source w).claims = s.claims := rfl
@[simp] theorem putInput_pmcWraps (s : State) (pipe source : Nat) (w : Waiting) : (putInput s pipe source w).pmcWraps = s.pmcWraps := rfl
@[simp] theorem putInput_queues (s : State) (pipe source : Nat) (w : Waiting) : (putInput s pipe source w).queues = s.queues := rfl
@[simp] theorem putInput_lastQueue (s : State) (pipe source : Nat) (w : Waiting) : (putInput s pipe source w).lastQueue = s.lastQueue := rfl
@[simp] theorem putInput_pushHeld (s : State) (pipe source : Nat) (w : Waiting) : (putInput s pipe source w).pushHeld = s.pushHeld := rfl
@[simp] theorem putInput_qcmdStop (s : State) (pipe source : Nat) (w : Waiting) : (putInput s pipe source w).qcmdStop = s.qcmdStop := rfl
@[simp] theorem putInput_rings (s : State) (pipe source : Nat) (w : Waiting) : (putInput s pipe source w).rings = s.rings := rfl
@[simp] theorem putInput_acceptNo (s : State) (pipe source : Nat) (w : Waiting) : (putInput s pipe source w).acceptNo = s.acceptNo := rfl
@[simp] theorem putInput_abortReqs (s : State) (pipe source : Nat) (w : Waiting) : (putInput s pipe source w).abortReqs = s.abortReqs := rfl
@[simp] theorem putInput_pubs (s : State) (pipe source : Nat) (w : Waiting) : (putInput s pipe source w).pubs = s.pubs := rfl
@[simp] theorem putInput_deltas (s : State) (pipe source : Nat) (w : Waiting) : (putInput s pipe source w).deltas = s.deltas := rfl
@[simp] theorem putInput_pseq (s : State) (pipe source : Nat) (w : Waiting) : (putInput s pipe source w).pseq = s.pseq := rfl
@[simp] theorem putInput_flushes (s : State) (pipe source : Nat) (w : Waiting) : (putInput s pipe source w).flushes = s.flushes := rfl
@[simp] theorem putInput_hif (s : State) (pipe source : Nat) (w : Waiting) : (putInput s pipe source w).hif = s.hif := rfl
@[simp] theorem putInput_links (s : State) (pipe source : Nat) (w : Waiting) : (putInput s pipe source w).links = s.links := rfl
@[simp] theorem putInput_hostMem (s : State) (pipe source : Nat) (w : Waiting) : (putInput s pipe source w).hostMem = s.hostMem := rfl
@[simp] theorem putInput_mem (s : State) (pipe source : Nat) (w : Waiting) : (putInput s pipe source w).mem = s.mem := rfl
@[simp] theorem putInput_poison (s : State) (pipe source : Nat) (w : Waiting) : (putInput s pipe source w).poison = s.poison := rfl
@[simp] theorem putInput_fresh (s : State) (pipe source : Nat) (w : Waiting) : (putInput s pipe source w).fresh = s.fresh := rfl
@[simp] theorem putInput_abc (s : State) (pipe source : Nat) (w : Waiting) : (putInput s pipe source w).abc = s.abc := rfl
@[simp] theorem putInput_areas (s : State) (pipe source : Nat) (w : Waiting) : (putInput s pipe source w).areas = s.areas := rfl
@[simp] theorem putInput_pins (s : State) (pipe source : Nat) (w : Waiting) : (putInput s pipe source w).pins = s.pins := rfl
@[simp] theorem putInput_rly (s : State) (pipe source : Nat) (w : Waiting) : (putInput s pipe source w).rly = s.rly := rfl
@[simp] theorem putInput_ft (s : State) (pipe source : Nat) (w : Waiting) : (putInput s pipe source w).ft = s.ft := rfl
@[simp] theorem putInput_tm (s : State) (pipe source : Nat) (w : Waiting) : (putInput s pipe source w).tm = s.tm := rfl
@[simp] theorem putInput_cip (s : State) (pipe source : Nat) (w : Waiting) : (putInput s pipe source w).cip = s.cip := rfl
@[simp] theorem putInput_blk (s : State) (pipe source : Nat) (w : Waiting) : (putInput s pipe source w).blk = s.blk := rfl
@[simp] theorem putInput_dma (s : State) (pipe source : Nat) (w : Waiting) : (putInput s pipe source w).dma = s.dma := rfl
@[simp] theorem putInput_trn (s : State) (pipe source : Nat) (w : Waiting) : (putInput s pipe source w).trn = s.trn := rfl
@[simp] theorem putInput_pair (s : State) (pipe source : Nat) (w : Waiting) : (putInput s pipe source w).pair = s.pair := rfl
@[simp] theorem putInput_boot (s : State) (pipe source : Nat) (w : Waiting) : (putInput s pipe source w).boot = s.boot := rfl
@[simp] theorem putInput_start (s : State) (pipe source : Nat) (w : Waiting) : (putInput s pipe source w).start = s.start := rfl
@[simp] theorem putInput_mnt (s : State) (pipe source : Nat) (w : Waiting) : (putInput s pipe source w).mnt = s.mnt := rfl

/-! ### requestVector -/

@[simp] theorem requestVector_pending (s : State) (f v : Nat) : (requestVector s f v).pending = s.pending := by
  unfold requestVector
  repeat' split
  all_goals first | rfl | simp [sendMessage]
@[simp] theorem requestVector_staged (s : State) (f v : Nat) : (requestVector s f v).staged = s.staged := by
  unfold requestVector
  repeat' split
  all_goals first | rfl | simp [sendMessage]
@[simp] theorem requestVector_applyReq (s : State) (f v : Nat) : (requestVector s f v).applyReq = s.applyReq := by
  unfold requestVector
  repeat' split
  all_goals first | rfl | simp [sendMessage]
@[simp] theorem requestVector_armDue (s : State) (f v : Nat) : (requestVector s f v).armDue = s.armDue := by
  unfold requestVector
  repeat' split
  all_goals first | rfl | simp [sendMessage]
@[simp] theorem requestVector_rdata (s : State) (f v : Nat) : (requestVector s f v).rdata = s.rdata := by
  unfold requestVector
  repeat' split
  all_goals first | rfl | simp [sendMessage]
@[simp] theorem requestVector_tt (s : State) (f v : Nat) : (requestVector s f v).tt = s.tt := by
  unfold requestVector
  repeat' split
  all_goals first | rfl | simp [sendMessage]
@[simp] theorem requestVector_nrg (s : State) (f v : Nat) : (requestVector s f v).nrg = s.nrg := by
  unfold requestVector
  repeat' split
  all_goals first | rfl | simp [sendMessage]
@[simp] theorem requestVector_claims (s : State) (f v : Nat) : (requestVector s f v).claims = s.claims := by
  unfold requestVector
  repeat' split
  all_goals first | rfl | simp [sendMessage]
@[simp] theorem requestVector_pmcWraps (s : State) (f v : Nat) : (requestVector s f v).pmcWraps = s.pmcWraps := by
  unfold requestVector
  repeat' split
  all_goals first | rfl | simp [sendMessage]
@[simp] theorem requestVector_queues (s : State) (f v : Nat) : (requestVector s f v).queues = s.queues := by
  unfold requestVector
  repeat' split
  all_goals first | rfl | simp [sendMessage]
@[simp] theorem requestVector_lastQueue (s : State) (f v : Nat) : (requestVector s f v).lastQueue = s.lastQueue := by
  unfold requestVector
  repeat' split
  all_goals first | rfl | simp [sendMessage]
@[simp] theorem requestVector_pushHeld (s : State) (f v : Nat) : (requestVector s f v).pushHeld = s.pushHeld := by
  unfold requestVector
  repeat' split
  all_goals first | rfl | simp [sendMessage]
@[simp] theorem requestVector_qcmdStop (s : State) (f v : Nat) : (requestVector s f v).qcmdStop = s.qcmdStop := by
  unfold requestVector
  repeat' split
  all_goals first | rfl | simp [sendMessage]
@[simp] theorem requestVector_rings (s : State) (f v : Nat) : (requestVector s f v).rings = s.rings := by
  unfold requestVector
  repeat' split
  all_goals first | rfl | simp [sendMessage]
@[simp] theorem requestVector_acceptNo (s : State) (f v : Nat) : (requestVector s f v).acceptNo = s.acceptNo := by
  unfold requestVector
  repeat' split
  all_goals first | rfl | simp [sendMessage]
@[simp] theorem requestVector_abortReqs (s : State) (f v : Nat) : (requestVector s f v).abortReqs = s.abortReqs := by
  unfold requestVector
  repeat' split
  all_goals first | rfl | simp [sendMessage]
@[simp] theorem requestVector_pubs (s : State) (f v : Nat) : (requestVector s f v).pubs = s.pubs := by
  unfold requestVector
  repeat' split
  all_goals first | rfl | simp [sendMessage]
@[simp] theorem requestVector_deltas (s : State) (f v : Nat) : (requestVector s f v).deltas = s.deltas := by
  unfold requestVector
  repeat' split
  all_goals first | rfl | simp [sendMessage]
@[simp] theorem requestVector_pseq (s : State) (f v : Nat) : (requestVector s f v).pseq = s.pseq := by
  unfold requestVector
  repeat' split
  all_goals first | rfl | simp [sendMessage]
@[simp] theorem requestVector_flushes (s : State) (f v : Nat) : (requestVector s f v).flushes = s.flushes := by
  unfold requestVector
  repeat' split
  all_goals first | rfl | simp [sendMessage]
@[simp] theorem requestVector_hostMem (s : State) (f v : Nat) : (requestVector s f v).hostMem = s.hostMem := by
  unfold requestVector
  repeat' split
  all_goals first | rfl | simp [sendMessage]
@[simp] theorem requestVector_mem (s : State) (f v : Nat) : (requestVector s f v).mem = s.mem := by
  unfold requestVector
  repeat' split
  all_goals first | rfl | simp [sendMessage]
@[simp] theorem requestVector_poison (s : State) (f v : Nat) : (requestVector s f v).poison = s.poison := by
  unfold requestVector
  repeat' split
  all_goals first | rfl | simp [sendMessage]
@[simp] theorem requestVector_fresh (s : State) (f v : Nat) : (requestVector s f v).fresh = s.fresh := by
  unfold requestVector
  repeat' split
  all_goals first | rfl | simp [sendMessage]
@[simp] theorem requestVector_abc (s : State) (f v : Nat) : (requestVector s f v).abc = s.abc := by
  unfold requestVector
  repeat' split
  all_goals first | rfl | simp [sendMessage]
@[simp] theorem requestVector_areas (s : State) (f v : Nat) : (requestVector s f v).areas = s.areas := by
  unfold requestVector
  repeat' split
  all_goals first | rfl | simp [sendMessage]
@[simp] theorem requestVector_pins (s : State) (f v : Nat) : (requestVector s f v).pins = s.pins := by
  unfold requestVector
  repeat' split
  all_goals first | rfl | simp [sendMessage]
@[simp] theorem requestVector_pp (s : State) (f v : Nat) : (requestVector s f v).pp = s.pp := by
  unfold requestVector
  repeat' split
  all_goals first | rfl | simp [sendMessage]
@[simp] theorem requestVector_rly (s : State) (f v : Nat) : (requestVector s f v).rly = s.rly := by
  unfold requestVector
  repeat' split
  all_goals first | rfl | simp [sendMessage]
@[simp] theorem requestVector_ft (s : State) (f v : Nat) : (requestVector s f v).ft = s.ft := by
  unfold requestVector
  repeat' split
  all_goals first | rfl | simp [sendMessage]
@[simp] theorem requestVector_tm (s : State) (f v : Nat) : (requestVector s f v).tm = s.tm := by
  unfold requestVector
  repeat' split
  all_goals first | rfl | simp [sendMessage]
@[simp] theorem requestVector_cip (s : State) (f v : Nat) : (requestVector s f v).cip = s.cip := by
  unfold requestVector
  repeat' split
  all_goals first | rfl | simp [sendMessage]
@[simp] theorem requestVector_blk (s : State) (f v : Nat) : (requestVector s f v).blk = s.blk := by
  unfold requestVector
  repeat' split
  all_goals first | rfl | simp [sendMessage]
@[simp] theorem requestVector_dma (s : State) (f v : Nat) : (requestVector s f v).dma = s.dma := by
  unfold requestVector
  repeat' split
  all_goals first | rfl | simp [sendMessage]
@[simp] theorem requestVector_trn (s : State) (f v : Nat) : (requestVector s f v).trn = s.trn := by
  unfold requestVector
  repeat' split
  all_goals first | rfl | simp [sendMessage]
@[simp] theorem requestVector_pair (s : State) (f v : Nat) : (requestVector s f v).pair = s.pair := by
  unfold requestVector
  repeat' split
  all_goals first | rfl | simp [sendMessage]
@[simp] theorem requestVector_boot (s : State) (f v : Nat) : (requestVector s f v).boot = s.boot := by
  unfold requestVector
  repeat' split
  all_goals first | rfl | simp [sendMessage]
@[simp] theorem requestVector_start (s : State) (f v : Nat) : (requestVector s f v).start = s.start := by
  unfold requestVector
  repeat' split
  all_goals first | rfl | simp [sendMessage]
@[simp] theorem requestVector_mnt (s : State) (f v : Nat) : (requestVector s f v).mnt = s.mnt := by
  unfold requestVector
  repeat' split
  all_goals first | rfl | simp [sendMessage]

/-! ### raise -/

@[simp] theorem raise_pending (s : State) (n : Nat) : (raise s n).pending = s.pending := by
  simp only [raise, hostSources, List.foldl_cons, List.foldl_nil]; split <;> simp
@[simp] theorem raise_staged (s : State) (n : Nat) : (raise s n).staged = s.staged := by
  simp only [raise, hostSources, List.foldl_cons, List.foldl_nil]; split <;> simp
@[simp] theorem raise_applyReq (s : State) (n : Nat) : (raise s n).applyReq = s.applyReq := by
  simp only [raise, hostSources, List.foldl_cons, List.foldl_nil]; split <;> simp
@[simp] theorem raise_armDue (s : State) (n : Nat) : (raise s n).armDue = s.armDue := by
  simp only [raise, hostSources, List.foldl_cons, List.foldl_nil]; split <;> simp
@[simp] theorem raise_rdata (s : State) (n : Nat) : (raise s n).rdata = s.rdata := by
  simp only [raise, hostSources, List.foldl_cons, List.foldl_nil]; split <;> simp
@[simp] theorem raise_tt (s : State) (n : Nat) : (raise s n).tt = s.tt := by
  simp only [raise, hostSources, List.foldl_cons, List.foldl_nil]; split <;> simp
@[simp] theorem raise_nrg (s : State) (n : Nat) : (raise s n).nrg = s.nrg := by
  simp only [raise, hostSources, List.foldl_cons, List.foldl_nil]; split <;> simp
@[simp] theorem raise_claims (s : State) (n : Nat) : (raise s n).claims = s.claims := by
  simp only [raise, hostSources, List.foldl_cons, List.foldl_nil]; split <;> simp
@[simp] theorem raise_pmcWraps (s : State) (n : Nat) : (raise s n).pmcWraps = s.pmcWraps := by
  simp only [raise, hostSources, List.foldl_cons, List.foldl_nil]; split <;> simp
@[simp] theorem raise_queues (s : State) (n : Nat) : (raise s n).queues = s.queues := by
  simp only [raise, hostSources, List.foldl_cons, List.foldl_nil]; split <;> simp
@[simp] theorem raise_lastQueue (s : State) (n : Nat) : (raise s n).lastQueue = s.lastQueue := by
  simp only [raise, hostSources, List.foldl_cons, List.foldl_nil]; split <;> simp
@[simp] theorem raise_pushHeld (s : State) (n : Nat) : (raise s n).pushHeld = s.pushHeld := by
  simp only [raise, hostSources, List.foldl_cons, List.foldl_nil]; split <;> simp
@[simp] theorem raise_qcmdStop (s : State) (n : Nat) : (raise s n).qcmdStop = s.qcmdStop := by
  simp only [raise, hostSources, List.foldl_cons, List.foldl_nil]; split <;> simp
@[simp] theorem raise_rings (s : State) (n : Nat) : (raise s n).rings = s.rings := by
  simp only [raise, hostSources, List.foldl_cons, List.foldl_nil]; split <;> simp
@[simp] theorem raise_acceptNo (s : State) (n : Nat) : (raise s n).acceptNo = s.acceptNo := by
  simp only [raise, hostSources, List.foldl_cons, List.foldl_nil]; split <;> simp
@[simp] theorem raise_abortReqs (s : State) (n : Nat) : (raise s n).abortReqs = s.abortReqs := by
  simp only [raise, hostSources, List.foldl_cons, List.foldl_nil]; split <;> simp
@[simp] theorem raise_pubs (s : State) (n : Nat) : (raise s n).pubs = s.pubs := by
  simp only [raise, hostSources, List.foldl_cons, List.foldl_nil]; split <;> simp
@[simp] theorem raise_deltas (s : State) (n : Nat) : (raise s n).deltas = s.deltas := by
  simp only [raise, hostSources, List.foldl_cons, List.foldl_nil]; split <;> simp
@[simp] theorem raise_pseq (s : State) (n : Nat) : (raise s n).pseq = s.pseq := by
  simp only [raise, hostSources, List.foldl_cons, List.foldl_nil]; split <;> simp
@[simp] theorem raise_flushes (s : State) (n : Nat) : (raise s n).flushes = s.flushes := by
  simp only [raise, hostSources, List.foldl_cons, List.foldl_nil]; split <;> simp
@[simp] theorem raise_hostMem (s : State) (n : Nat) : (raise s n).hostMem = s.hostMem := by
  simp only [raise, hostSources, List.foldl_cons, List.foldl_nil]; split <;> simp
@[simp] theorem raise_mem (s : State) (n : Nat) : (raise s n).mem = s.mem := by
  simp only [raise, hostSources, List.foldl_cons, List.foldl_nil]; split <;> simp
@[simp] theorem raise_poison (s : State) (n : Nat) : (raise s n).poison = s.poison := by
  simp only [raise, hostSources, List.foldl_cons, List.foldl_nil]; split <;> simp
@[simp] theorem raise_fresh (s : State) (n : Nat) : (raise s n).fresh = s.fresh := by
  simp only [raise, hostSources, List.foldl_cons, List.foldl_nil]; split <;> simp
@[simp] theorem raise_abc (s : State) (n : Nat) : (raise s n).abc = s.abc := by
  simp only [raise, hostSources, List.foldl_cons, List.foldl_nil]; split <;> simp
@[simp] theorem raise_areas (s : State) (n : Nat) : (raise s n).areas = s.areas := by
  simp only [raise, hostSources, List.foldl_cons, List.foldl_nil]; split <;> simp
@[simp] theorem raise_pins (s : State) (n : Nat) : (raise s n).pins = s.pins := by
  simp only [raise, hostSources, List.foldl_cons, List.foldl_nil]; split <;> simp
@[simp] theorem raise_pp (s : State) (n : Nat) : (raise s n).pp = s.pp := by
  simp only [raise, hostSources, List.foldl_cons, List.foldl_nil]; split <;> simp
@[simp] theorem raise_rly (s : State) (n : Nat) : (raise s n).rly = s.rly := by
  simp only [raise, hostSources, List.foldl_cons, List.foldl_nil]; split <;> simp
@[simp] theorem raise_ft (s : State) (n : Nat) : (raise s n).ft = s.ft := by
  simp only [raise, hostSources, List.foldl_cons, List.foldl_nil]; split <;> simp
@[simp] theorem raise_tm (s : State) (n : Nat) : (raise s n).tm = s.tm := by
  simp only [raise, hostSources, List.foldl_cons, List.foldl_nil]; split <;> simp
@[simp] theorem raise_cip (s : State) (n : Nat) : (raise s n).cip = s.cip := by
  simp only [raise, hostSources, List.foldl_cons, List.foldl_nil]; split <;> simp
@[simp] theorem raise_blk (s : State) (n : Nat) : (raise s n).blk = s.blk := by
  simp only [raise, hostSources, List.foldl_cons, List.foldl_nil]; split <;> simp
@[simp] theorem raise_dma (s : State) (n : Nat) : (raise s n).dma = s.dma := by
  simp only [raise, hostSources, List.foldl_cons, List.foldl_nil]; split <;> simp
@[simp] theorem raise_trn (s : State) (n : Nat) : (raise s n).trn = s.trn := by
  simp only [raise, hostSources, List.foldl_cons, List.foldl_nil]; split <;> simp
@[simp] theorem raise_pair (s : State) (n : Nat) : (raise s n).pair = s.pair := by
  simp only [raise, hostSources, List.foldl_cons, List.foldl_nil]; split <;> simp
@[simp] theorem raise_boot (s : State) (n : Nat) : (raise s n).boot = s.boot := by
  simp only [raise, hostSources, List.foldl_cons, List.foldl_nil]; split <;> simp
@[simp] theorem raise_start (s : State) (n : Nat) : (raise s n).start = s.start := by
  simp only [raise, hostSources, List.foldl_cons, List.foldl_nil]; split <;> simp
@[simp] theorem raise_mnt (s : State) (n : Nat) : (raise s n).mnt = s.mnt := by
  simp only [raise, hostSources, List.foldl_cons, List.foldl_nil]; split <;> simp

/-! ### activity -/

@[simp] theorem activity_pending (s : State) (d k e n acct : Nat) : (activity s d k e n acct).pending = s.pending := by unfold activity; split <;> rfl
@[simp] theorem activity_regs (s : State) (d k e n acct : Nat) : (activity s d k e n acct).regs = s.regs := by unfold activity; split <;> rfl
@[simp] theorem activity_staged (s : State) (d k e n acct : Nat) : (activity s d k e n acct).staged = s.staged := by unfold activity; split <;> rfl
@[simp] theorem activity_applyReq (s : State) (d k e n acct : Nat) : (activity s d k e n acct).applyReq = s.applyReq := by unfold activity; split <;> rfl
@[simp] theorem activity_armDue (s : State) (d k e n acct : Nat) : (activity s d k e n acct).armDue = s.armDue := by unfold activity; split <;> rfl
@[simp] theorem activity_rdata (s : State) (d k e n acct : Nat) : (activity s d k e n acct).rdata = s.rdata := by unfold activity; split <;> rfl
@[simp] theorem activity_tt (s : State) (d k e n acct : Nat) : (activity s d k e n acct).tt = s.tt := by unfold activity; split <;> rfl
@[simp] theorem activity_claims (s : State) (d k e n acct : Nat) : (activity s d k e n acct).claims = s.claims := by unfold activity; split <;> rfl
@[simp] theorem activity_pmcWraps (s : State) (d k e n acct : Nat) : (activity s d k e n acct).pmcWraps = s.pmcWraps := by unfold activity; split <;> rfl
@[simp] theorem activity_queues (s : State) (d k e n acct : Nat) : (activity s d k e n acct).queues = s.queues := by unfold activity; split <;> rfl
@[simp] theorem activity_lastQueue (s : State) (d k e n acct : Nat) : (activity s d k e n acct).lastQueue = s.lastQueue := by unfold activity; split <;> rfl
@[simp] theorem activity_pushHeld (s : State) (d k e n acct : Nat) : (activity s d k e n acct).pushHeld = s.pushHeld := by unfold activity; split <;> rfl
@[simp] theorem activity_qcmdStop (s : State) (d k e n acct : Nat) : (activity s d k e n acct).qcmdStop = s.qcmdStop := by unfold activity; split <;> rfl
@[simp] theorem activity_rings (s : State) (d k e n acct : Nat) : (activity s d k e n acct).rings = s.rings := by unfold activity; split <;> rfl
@[simp] theorem activity_acceptNo (s : State) (d k e n acct : Nat) : (activity s d k e n acct).acceptNo = s.acceptNo := by unfold activity; split <;> rfl
@[simp] theorem activity_abortReqs (s : State) (d k e n acct : Nat) : (activity s d k e n acct).abortReqs = s.abortReqs := by unfold activity; split <;> rfl
@[simp] theorem activity_pubs (s : State) (d k e n acct : Nat) : (activity s d k e n acct).pubs = s.pubs := by unfold activity; split <;> rfl
@[simp] theorem activity_deltas (s : State) (d k e n acct : Nat) : (activity s d k e n acct).deltas = s.deltas := by unfold activity; split <;> rfl
@[simp] theorem activity_pseq (s : State) (d k e n acct : Nat) : (activity s d k e n acct).pseq = s.pseq := by unfold activity; split <;> rfl
@[simp] theorem activity_flushes (s : State) (d k e n acct : Nat) : (activity s d k e n acct).flushes = s.flushes := by unfold activity; split <;> rfl
@[simp] theorem activity_hif (s : State) (d k e n acct : Nat) : (activity s d k e n acct).hif = s.hif := by unfold activity; split <;> rfl
@[simp] theorem activity_links (s : State) (d k e n acct : Nat) : (activity s d k e n acct).links = s.links := by unfold activity; split <;> rfl
@[simp] theorem activity_hostMem (s : State) (d k e n acct : Nat) : (activity s d k e n acct).hostMem = s.hostMem := by unfold activity; split <;> rfl
@[simp] theorem activity_mem (s : State) (d k e n acct : Nat) : (activity s d k e n acct).mem = s.mem := by unfold activity; split <;> rfl
@[simp] theorem activity_poison (s : State) (d k e n acct : Nat) : (activity s d k e n acct).poison = s.poison := by unfold activity; split <;> rfl
@[simp] theorem activity_fresh (s : State) (d k e n acct : Nat) : (activity s d k e n acct).fresh = s.fresh := by unfold activity; split <;> rfl
@[simp] theorem activity_abc (s : State) (d k e n acct : Nat) : (activity s d k e n acct).abc = s.abc := by unfold activity; split <;> rfl
@[simp] theorem activity_areas (s : State) (d k e n acct : Nat) : (activity s d k e n acct).areas = s.areas := by unfold activity; split <;> rfl
@[simp] theorem activity_pins (s : State) (d k e n acct : Nat) : (activity s d k e n acct).pins = s.pins := by unfold activity; split <;> rfl
@[simp] theorem activity_pp (s : State) (d k e n acct : Nat) : (activity s d k e n acct).pp = s.pp := by unfold activity; split <;> rfl
@[simp] theorem activity_rly (s : State) (d k e n acct : Nat) : (activity s d k e n acct).rly = s.rly := by unfold activity; split <;> rfl
@[simp] theorem activity_ft (s : State) (d k e n acct : Nat) : (activity s d k e n acct).ft = s.ft := by unfold activity; split <;> rfl
@[simp] theorem activity_tm (s : State) (d k e n acct : Nat) : (activity s d k e n acct).tm = s.tm := by unfold activity; split <;> rfl
@[simp] theorem activity_cip (s : State) (d k e n acct : Nat) : (activity s d k e n acct).cip = s.cip := by unfold activity; split <;> rfl
@[simp] theorem activity_blk (s : State) (d k e n acct : Nat) : (activity s d k e n acct).blk = s.blk := by unfold activity; split <;> rfl
@[simp] theorem activity_dma (s : State) (d k e n acct : Nat) : (activity s d k e n acct).dma = s.dma := by unfold activity; split <;> rfl
@[simp] theorem activity_trn (s : State) (d k e n acct : Nat) : (activity s d k e n acct).trn = s.trn := by unfold activity; split <;> rfl
@[simp] theorem activity_pair (s : State) (d k e n acct : Nat) : (activity s d k e n acct).pair = s.pair := by unfold activity; split <;> rfl
@[simp] theorem activity_boot (s : State) (d k e n acct : Nat) : (activity s d k e n acct).boot = s.boot := by unfold activity; split <;> rfl
@[simp] theorem activity_start (s : State) (d k e n acct : Nat) : (activity s d k e n acct).start = s.start := by unfold activity; split <;> rfl
@[simp] theorem activity_mnt (s : State) (d k e n acct : Nat) : (activity s d k e n acct).mnt = s.mnt := by unfold activity; split <;> rfl

/-! ### pmcAdd -/

@[simp] theorem pmcAdd_pending (s : State) (n amount : Nat) : (pmcAdd s n amount).pending = s.pending := by simp only [pmcAdd]; split <;> simp
@[simp] theorem pmcAdd_staged (s : State) (n amount : Nat) : (pmcAdd s n amount).staged = s.staged := by simp only [pmcAdd]; split <;> simp
@[simp] theorem pmcAdd_applyReq (s : State) (n amount : Nat) : (pmcAdd s n amount).applyReq = s.applyReq := by simp only [pmcAdd]; split <;> simp
@[simp] theorem pmcAdd_armDue (s : State) (n amount : Nat) : (pmcAdd s n amount).armDue = s.armDue := by simp only [pmcAdd]; split <;> simp
@[simp] theorem pmcAdd_rdata (s : State) (n amount : Nat) : (pmcAdd s n amount).rdata = s.rdata := by simp only [pmcAdd]; split <;> simp
@[simp] theorem pmcAdd_tt (s : State) (n amount : Nat) : (pmcAdd s n amount).tt = s.tt := by simp only [pmcAdd]; split <;> simp
@[simp] theorem pmcAdd_nrg (s : State) (n amount : Nat) : (pmcAdd s n amount).nrg = s.nrg := by simp only [pmcAdd]; split <;> simp
@[simp] theorem pmcAdd_claims (s : State) (n amount : Nat) : (pmcAdd s n amount).claims = s.claims := by simp only [pmcAdd]; split <;> simp
@[simp] theorem pmcAdd_queues (s : State) (n amount : Nat) : (pmcAdd s n amount).queues = s.queues := by simp only [pmcAdd]; split <;> simp
@[simp] theorem pmcAdd_lastQueue (s : State) (n amount : Nat) : (pmcAdd s n amount).lastQueue = s.lastQueue := by simp only [pmcAdd]; split <;> simp
@[simp] theorem pmcAdd_pushHeld (s : State) (n amount : Nat) : (pmcAdd s n amount).pushHeld = s.pushHeld := by simp only [pmcAdd]; split <;> simp
@[simp] theorem pmcAdd_qcmdStop (s : State) (n amount : Nat) : (pmcAdd s n amount).qcmdStop = s.qcmdStop := by simp only [pmcAdd]; split <;> simp
@[simp] theorem pmcAdd_rings (s : State) (n amount : Nat) : (pmcAdd s n amount).rings = s.rings := by simp only [pmcAdd]; split <;> simp
@[simp] theorem pmcAdd_acceptNo (s : State) (n amount : Nat) : (pmcAdd s n amount).acceptNo = s.acceptNo := by simp only [pmcAdd]; split <;> simp
@[simp] theorem pmcAdd_abortReqs (s : State) (n amount : Nat) : (pmcAdd s n amount).abortReqs = s.abortReqs := by simp only [pmcAdd]; split <;> simp
@[simp] theorem pmcAdd_pubs (s : State) (n amount : Nat) : (pmcAdd s n amount).pubs = s.pubs := by simp only [pmcAdd]; split <;> simp
@[simp] theorem pmcAdd_deltas (s : State) (n amount : Nat) : (pmcAdd s n amount).deltas = s.deltas := by simp only [pmcAdd]; split <;> simp
@[simp] theorem pmcAdd_pseq (s : State) (n amount : Nat) : (pmcAdd s n amount).pseq = s.pseq := by simp only [pmcAdd]; split <;> simp
@[simp] theorem pmcAdd_flushes (s : State) (n amount : Nat) : (pmcAdd s n amount).flushes = s.flushes := by simp only [pmcAdd]; split <;> simp
@[simp] theorem pmcAdd_hif (s : State) (n amount : Nat) : (pmcAdd s n amount).hif = s.hif := by simp only [pmcAdd]; split <;> simp
@[simp] theorem pmcAdd_links (s : State) (n amount : Nat) : (pmcAdd s n amount).links = s.links := by simp only [pmcAdd]; split <;> simp
@[simp] theorem pmcAdd_hostMem (s : State) (n amount : Nat) : (pmcAdd s n amount).hostMem = s.hostMem := by simp only [pmcAdd]; split <;> simp
@[simp] theorem pmcAdd_mem (s : State) (n amount : Nat) : (pmcAdd s n amount).mem = s.mem := by simp only [pmcAdd]; split <;> simp
@[simp] theorem pmcAdd_poison (s : State) (n amount : Nat) : (pmcAdd s n amount).poison = s.poison := by simp only [pmcAdd]; split <;> simp
@[simp] theorem pmcAdd_fresh (s : State) (n amount : Nat) : (pmcAdd s n amount).fresh = s.fresh := by simp only [pmcAdd]; split <;> simp
@[simp] theorem pmcAdd_abc (s : State) (n amount : Nat) : (pmcAdd s n amount).abc = s.abc := by simp only [pmcAdd]; split <;> simp
@[simp] theorem pmcAdd_areas (s : State) (n amount : Nat) : (pmcAdd s n amount).areas = s.areas := by simp only [pmcAdd]; split <;> simp
@[simp] theorem pmcAdd_pins (s : State) (n amount : Nat) : (pmcAdd s n amount).pins = s.pins := by simp only [pmcAdd]; split <;> simp
@[simp] theorem pmcAdd_pp (s : State) (n amount : Nat) : (pmcAdd s n amount).pp = s.pp := by simp only [pmcAdd]; split <;> simp
@[simp] theorem pmcAdd_rly (s : State) (n amount : Nat) : (pmcAdd s n amount).rly = s.rly := by simp only [pmcAdd]; split <;> simp
@[simp] theorem pmcAdd_ft (s : State) (n amount : Nat) : (pmcAdd s n amount).ft = s.ft := by simp only [pmcAdd]; split <;> simp
@[simp] theorem pmcAdd_tm (s : State) (n amount : Nat) : (pmcAdd s n amount).tm = s.tm := by simp only [pmcAdd]; split <;> simp
@[simp] theorem pmcAdd_cip (s : State) (n amount : Nat) : (pmcAdd s n amount).cip = s.cip := by simp only [pmcAdd]; split <;> simp
@[simp] theorem pmcAdd_blk (s : State) (n amount : Nat) : (pmcAdd s n amount).blk = s.blk := by simp only [pmcAdd]; split <;> simp
@[simp] theorem pmcAdd_dma (s : State) (n amount : Nat) : (pmcAdd s n amount).dma = s.dma := by simp only [pmcAdd]; split <;> simp
@[simp] theorem pmcAdd_trn (s : State) (n amount : Nat) : (pmcAdd s n amount).trn = s.trn := by simp only [pmcAdd]; split <;> simp
@[simp] theorem pmcAdd_pair (s : State) (n amount : Nat) : (pmcAdd s n amount).pair = s.pair := by simp only [pmcAdd]; split <;> simp
@[simp] theorem pmcAdd_boot (s : State) (n amount : Nat) : (pmcAdd s n amount).boot = s.boot := by simp only [pmcAdd]; split <;> simp
@[simp] theorem pmcAdd_start (s : State) (n amount : Nat) : (pmcAdd s n amount).start = s.start := by simp only [pmcAdd]; split <;> simp
@[simp] theorem pmcAdd_mnt (s : State) (n amount : Nat) : (pmcAdd s n amount).mnt = s.mnt := by simp only [pmcAdd]; split <;> simp

/-! ### pmc -/

@[simp] theorem pmc_pending (s : State) (event inst amount : Nat) (acct : Option Nat) : (pmc s event inst amount acct).pending = s.pending := by
  unfold pmc; split
  · rfl
  · exact foldl_frame (State.pending) _ (fun t n => by split <;> simp) _ _
@[simp] theorem pmc_staged (s : State) (event inst amount : Nat) (acct : Option Nat) : (pmc s event inst amount acct).staged = s.staged := by
  unfold pmc; split
  · rfl
  · exact foldl_frame (State.staged) _ (fun t n => by split <;> simp) _ _
@[simp] theorem pmc_applyReq (s : State) (event inst amount : Nat) (acct : Option Nat) : (pmc s event inst amount acct).applyReq = s.applyReq := by
  unfold pmc; split
  · rfl
  · exact foldl_frame (State.applyReq) _ (fun t n => by split <;> simp) _ _
@[simp] theorem pmc_armDue (s : State) (event inst amount : Nat) (acct : Option Nat) : (pmc s event inst amount acct).armDue = s.armDue := by
  unfold pmc; split
  · rfl
  · exact foldl_frame (State.armDue) _ (fun t n => by split <;> simp) _ _
@[simp] theorem pmc_rdata (s : State) (event inst amount : Nat) (acct : Option Nat) : (pmc s event inst amount acct).rdata = s.rdata := by
  unfold pmc; split
  · rfl
  · exact foldl_frame (State.rdata) _ (fun t n => by split <;> simp) _ _
@[simp] theorem pmc_tt (s : State) (event inst amount : Nat) (acct : Option Nat) : (pmc s event inst amount acct).tt = s.tt := by
  unfold pmc; split
  · rfl
  · exact foldl_frame (State.tt) _ (fun t n => by split <;> simp) _ _
@[simp] theorem pmc_nrg (s : State) (event inst amount : Nat) (acct : Option Nat) : (pmc s event inst amount acct).nrg = s.nrg := by
  unfold pmc; split
  · rfl
  · exact foldl_frame (State.nrg) _ (fun t n => by split <;> simp) _ _
@[simp] theorem pmc_claims (s : State) (event inst amount : Nat) (acct : Option Nat) : (pmc s event inst amount acct).claims = s.claims := by
  unfold pmc; split
  · rfl
  · exact foldl_frame (State.claims) _ (fun t n => by split <;> simp) _ _
@[simp] theorem pmc_queues (s : State) (event inst amount : Nat) (acct : Option Nat) : (pmc s event inst amount acct).queues = s.queues := by
  unfold pmc; split
  · rfl
  · exact foldl_frame (State.queues) _ (fun t n => by split <;> simp) _ _
@[simp] theorem pmc_lastQueue (s : State) (event inst amount : Nat) (acct : Option Nat) : (pmc s event inst amount acct).lastQueue = s.lastQueue := by
  unfold pmc; split
  · rfl
  · exact foldl_frame (State.lastQueue) _ (fun t n => by split <;> simp) _ _
@[simp] theorem pmc_pushHeld (s : State) (event inst amount : Nat) (acct : Option Nat) : (pmc s event inst amount acct).pushHeld = s.pushHeld := by
  unfold pmc; split
  · rfl
  · exact foldl_frame (State.pushHeld) _ (fun t n => by split <;> simp) _ _
@[simp] theorem pmc_qcmdStop (s : State) (event inst amount : Nat) (acct : Option Nat) : (pmc s event inst amount acct).qcmdStop = s.qcmdStop := by
  unfold pmc; split
  · rfl
  · exact foldl_frame (State.qcmdStop) _ (fun t n => by split <;> simp) _ _
@[simp] theorem pmc_rings (s : State) (event inst amount : Nat) (acct : Option Nat) : (pmc s event inst amount acct).rings = s.rings := by
  unfold pmc; split
  · rfl
  · exact foldl_frame (State.rings) _ (fun t n => by split <;> simp) _ _
@[simp] theorem pmc_acceptNo (s : State) (event inst amount : Nat) (acct : Option Nat) : (pmc s event inst amount acct).acceptNo = s.acceptNo := by
  unfold pmc; split
  · rfl
  · exact foldl_frame (State.acceptNo) _ (fun t n => by split <;> simp) _ _
@[simp] theorem pmc_abortReqs (s : State) (event inst amount : Nat) (acct : Option Nat) : (pmc s event inst amount acct).abortReqs = s.abortReqs := by
  unfold pmc; split
  · rfl
  · exact foldl_frame (State.abortReqs) _ (fun t n => by split <;> simp) _ _
@[simp] theorem pmc_pubs (s : State) (event inst amount : Nat) (acct : Option Nat) : (pmc s event inst amount acct).pubs = s.pubs := by
  unfold pmc; split
  · rfl
  · exact foldl_frame (State.pubs) _ (fun t n => by split <;> simp) _ _
@[simp] theorem pmc_deltas (s : State) (event inst amount : Nat) (acct : Option Nat) : (pmc s event inst amount acct).deltas = s.deltas := by
  unfold pmc; split
  · rfl
  · exact foldl_frame (State.deltas) _ (fun t n => by split <;> simp) _ _
@[simp] theorem pmc_pseq (s : State) (event inst amount : Nat) (acct : Option Nat) : (pmc s event inst amount acct).pseq = s.pseq := by
  unfold pmc; split
  · rfl
  · exact foldl_frame (State.pseq) _ (fun t n => by split <;> simp) _ _
@[simp] theorem pmc_flushes (s : State) (event inst amount : Nat) (acct : Option Nat) : (pmc s event inst amount acct).flushes = s.flushes := by
  unfold pmc; split
  · rfl
  · exact foldl_frame (State.flushes) _ (fun t n => by split <;> simp) _ _
@[simp] theorem pmc_hif (s : State) (event inst amount : Nat) (acct : Option Nat) : (pmc s event inst amount acct).hif = s.hif := by
  unfold pmc; split
  · rfl
  · exact foldl_frame (State.hif) _ (fun t n => by split <;> simp) _ _
@[simp] theorem pmc_links (s : State) (event inst amount : Nat) (acct : Option Nat) : (pmc s event inst amount acct).links = s.links := by
  unfold pmc; split
  · rfl
  · exact foldl_frame (State.links) _ (fun t n => by split <;> simp) _ _
@[simp] theorem pmc_hostMem (s : State) (event inst amount : Nat) (acct : Option Nat) : (pmc s event inst amount acct).hostMem = s.hostMem := by
  unfold pmc; split
  · rfl
  · exact foldl_frame (State.hostMem) _ (fun t n => by split <;> simp) _ _
@[simp] theorem pmc_mem (s : State) (event inst amount : Nat) (acct : Option Nat) : (pmc s event inst amount acct).mem = s.mem := by
  unfold pmc; split
  · rfl
  · exact foldl_frame (State.mem) _ (fun t n => by split <;> simp) _ _
@[simp] theorem pmc_poison (s : State) (event inst amount : Nat) (acct : Option Nat) : (pmc s event inst amount acct).poison = s.poison := by
  unfold pmc; split
  · rfl
  · exact foldl_frame (State.poison) _ (fun t n => by split <;> simp) _ _
@[simp] theorem pmc_fresh (s : State) (event inst amount : Nat) (acct : Option Nat) : (pmc s event inst amount acct).fresh = s.fresh := by
  unfold pmc; split
  · rfl
  · exact foldl_frame (State.fresh) _ (fun t n => by split <;> simp) _ _
@[simp] theorem pmc_abc (s : State) (event inst amount : Nat) (acct : Option Nat) : (pmc s event inst amount acct).abc = s.abc := by
  unfold pmc; split
  · rfl
  · exact foldl_frame (State.abc) _ (fun t n => by split <;> simp) _ _
@[simp] theorem pmc_areas (s : State) (event inst amount : Nat) (acct : Option Nat) : (pmc s event inst amount acct).areas = s.areas := by
  unfold pmc; split
  · rfl
  · exact foldl_frame (State.areas) _ (fun t n => by split <;> simp) _ _
@[simp] theorem pmc_pins (s : State) (event inst amount : Nat) (acct : Option Nat) : (pmc s event inst amount acct).pins = s.pins := by
  unfold pmc; split
  · rfl
  · exact foldl_frame (State.pins) _ (fun t n => by split <;> simp) _ _
@[simp] theorem pmc_pp (s : State) (event inst amount : Nat) (acct : Option Nat) : (pmc s event inst amount acct).pp = s.pp := by
  unfold pmc; split
  · rfl
  · exact foldl_frame (State.pp) _ (fun t n => by split <;> simp) _ _
@[simp] theorem pmc_rly (s : State) (event inst amount : Nat) (acct : Option Nat) : (pmc s event inst amount acct).rly = s.rly := by
  unfold pmc; split
  · rfl
  · exact foldl_frame (State.rly) _ (fun t n => by split <;> simp) _ _
@[simp] theorem pmc_ft (s : State) (event inst amount : Nat) (acct : Option Nat) : (pmc s event inst amount acct).ft = s.ft := by
  unfold pmc; split
  · rfl
  · exact foldl_frame (State.ft) _ (fun t n => by split <;> simp) _ _
@[simp] theorem pmc_tm (s : State) (event inst amount : Nat) (acct : Option Nat) : (pmc s event inst amount acct).tm = s.tm := by
  unfold pmc; split
  · rfl
  · exact foldl_frame (State.tm) _ (fun t n => by split <;> simp) _ _
@[simp] theorem pmc_cip (s : State) (event inst amount : Nat) (acct : Option Nat) : (pmc s event inst amount acct).cip = s.cip := by
  unfold pmc; split
  · rfl
  · exact foldl_frame (State.cip) _ (fun t n => by split <;> simp) _ _
@[simp] theorem pmc_blk (s : State) (event inst amount : Nat) (acct : Option Nat) : (pmc s event inst amount acct).blk = s.blk := by
  unfold pmc; split
  · rfl
  · exact foldl_frame (State.blk) _ (fun t n => by split <;> simp) _ _
@[simp] theorem pmc_dma (s : State) (event inst amount : Nat) (acct : Option Nat) : (pmc s event inst amount acct).dma = s.dma := by
  unfold pmc; split
  · rfl
  · exact foldl_frame (State.dma) _ (fun t n => by split <;> simp) _ _
@[simp] theorem pmc_trn (s : State) (event inst amount : Nat) (acct : Option Nat) : (pmc s event inst amount acct).trn = s.trn := by
  unfold pmc; split
  · rfl
  · exact foldl_frame (State.trn) _ (fun t n => by split <;> simp) _ _
@[simp] theorem pmc_pair (s : State) (event inst amount : Nat) (acct : Option Nat) : (pmc s event inst amount acct).pair = s.pair := by
  unfold pmc; split
  · rfl
  · exact foldl_frame (State.pair) _ (fun t n => by split <;> simp) _ _
@[simp] theorem pmc_boot (s : State) (event inst amount : Nat) (acct : Option Nat) : (pmc s event inst amount acct).boot = s.boot := by
  unfold pmc; split
  · rfl
  · exact foldl_frame (State.boot) _ (fun t n => by split <;> simp) _ _
@[simp] theorem pmc_start (s : State) (event inst amount : Nat) (acct : Option Nat) : (pmc s event inst amount acct).start = s.start := by
  unfold pmc; split
  · rfl
  · exact foldl_frame (State.start) _ (fun t n => by split <;> simp) _ _
@[simp] theorem pmc_mnt (s : State) (event inst amount : Nat) (acct : Option Nat) : (pmc s event inst amount acct).mnt = s.mnt := by
  unfold pmc; split
  · rfl
  · exact foldl_frame (State.mnt) _ (fun t n => by split <;> simp) _ _

/-! ### fabricFlits -/

@[simp] theorem fabricFlits_pending (s : State) (bytes acct : Nat) : (fabricFlits s bytes acct).pending = s.pending := by simp [fabricFlits]
@[simp] theorem fabricFlits_staged (s : State) (bytes acct : Nat) : (fabricFlits s bytes acct).staged = s.staged := by simp [fabricFlits]
@[simp] theorem fabricFlits_applyReq (s : State) (bytes acct : Nat) : (fabricFlits s bytes acct).applyReq = s.applyReq := by simp [fabricFlits]
@[simp] theorem fabricFlits_armDue (s : State) (bytes acct : Nat) : (fabricFlits s bytes acct).armDue = s.armDue := by simp [fabricFlits]
@[simp] theorem fabricFlits_rdata (s : State) (bytes acct : Nat) : (fabricFlits s bytes acct).rdata = s.rdata := by simp [fabricFlits]
@[simp] theorem fabricFlits_tt (s : State) (bytes acct : Nat) : (fabricFlits s bytes acct).tt = s.tt := by simp [fabricFlits]
@[simp] theorem fabricFlits_claims (s : State) (bytes acct : Nat) : (fabricFlits s bytes acct).claims = s.claims := by simp [fabricFlits]
@[simp] theorem fabricFlits_queues (s : State) (bytes acct : Nat) : (fabricFlits s bytes acct).queues = s.queues := by simp [fabricFlits]
@[simp] theorem fabricFlits_lastQueue (s : State) (bytes acct : Nat) : (fabricFlits s bytes acct).lastQueue = s.lastQueue := by simp [fabricFlits]
@[simp] theorem fabricFlits_pushHeld (s : State) (bytes acct : Nat) : (fabricFlits s bytes acct).pushHeld = s.pushHeld := by simp [fabricFlits]
@[simp] theorem fabricFlits_qcmdStop (s : State) (bytes acct : Nat) : (fabricFlits s bytes acct).qcmdStop = s.qcmdStop := by simp [fabricFlits]
@[simp] theorem fabricFlits_rings (s : State) (bytes acct : Nat) : (fabricFlits s bytes acct).rings = s.rings := by simp [fabricFlits]
@[simp] theorem fabricFlits_acceptNo (s : State) (bytes acct : Nat) : (fabricFlits s bytes acct).acceptNo = s.acceptNo := by simp [fabricFlits]
@[simp] theorem fabricFlits_abortReqs (s : State) (bytes acct : Nat) : (fabricFlits s bytes acct).abortReqs = s.abortReqs := by simp [fabricFlits]
@[simp] theorem fabricFlits_pubs (s : State) (bytes acct : Nat) : (fabricFlits s bytes acct).pubs = s.pubs := by simp [fabricFlits]
@[simp] theorem fabricFlits_deltas (s : State) (bytes acct : Nat) : (fabricFlits s bytes acct).deltas = s.deltas := by simp [fabricFlits]
@[simp] theorem fabricFlits_pseq (s : State) (bytes acct : Nat) : (fabricFlits s bytes acct).pseq = s.pseq := by simp [fabricFlits]
@[simp] theorem fabricFlits_flushes (s : State) (bytes acct : Nat) : (fabricFlits s bytes acct).flushes = s.flushes := by simp [fabricFlits]
@[simp] theorem fabricFlits_hif (s : State) (bytes acct : Nat) : (fabricFlits s bytes acct).hif = s.hif := by simp [fabricFlits]
@[simp] theorem fabricFlits_links (s : State) (bytes acct : Nat) : (fabricFlits s bytes acct).links = s.links := by simp [fabricFlits]
@[simp] theorem fabricFlits_hostMem (s : State) (bytes acct : Nat) : (fabricFlits s bytes acct).hostMem = s.hostMem := by simp [fabricFlits]
@[simp] theorem fabricFlits_mem (s : State) (bytes acct : Nat) : (fabricFlits s bytes acct).mem = s.mem := by simp [fabricFlits]
@[simp] theorem fabricFlits_poison (s : State) (bytes acct : Nat) : (fabricFlits s bytes acct).poison = s.poison := by simp [fabricFlits]
@[simp] theorem fabricFlits_fresh (s : State) (bytes acct : Nat) : (fabricFlits s bytes acct).fresh = s.fresh := by simp [fabricFlits]
@[simp] theorem fabricFlits_abc (s : State) (bytes acct : Nat) : (fabricFlits s bytes acct).abc = s.abc := by simp [fabricFlits]
@[simp] theorem fabricFlits_areas (s : State) (bytes acct : Nat) : (fabricFlits s bytes acct).areas = s.areas := by simp [fabricFlits]
@[simp] theorem fabricFlits_pins (s : State) (bytes acct : Nat) : (fabricFlits s bytes acct).pins = s.pins := by simp [fabricFlits]
@[simp] theorem fabricFlits_pp (s : State) (bytes acct : Nat) : (fabricFlits s bytes acct).pp = s.pp := by simp [fabricFlits]
@[simp] theorem fabricFlits_rly (s : State) (bytes acct : Nat) : (fabricFlits s bytes acct).rly = s.rly := by simp [fabricFlits]
@[simp] theorem fabricFlits_ft (s : State) (bytes acct : Nat) : (fabricFlits s bytes acct).ft = s.ft := by simp [fabricFlits]
@[simp] theorem fabricFlits_tm (s : State) (bytes acct : Nat) : (fabricFlits s bytes acct).tm = s.tm := by simp [fabricFlits]
@[simp] theorem fabricFlits_cip (s : State) (bytes acct : Nat) : (fabricFlits s bytes acct).cip = s.cip := by simp [fabricFlits]
@[simp] theorem fabricFlits_blk (s : State) (bytes acct : Nat) : (fabricFlits s bytes acct).blk = s.blk := by simp [fabricFlits]
@[simp] theorem fabricFlits_dma (s : State) (bytes acct : Nat) : (fabricFlits s bytes acct).dma = s.dma := by simp [fabricFlits]
@[simp] theorem fabricFlits_trn (s : State) (bytes acct : Nat) : (fabricFlits s bytes acct).trn = s.trn := by simp [fabricFlits]
@[simp] theorem fabricFlits_pair (s : State) (bytes acct : Nat) : (fabricFlits s bytes acct).pair = s.pair := by simp [fabricFlits]
@[simp] theorem fabricFlits_boot (s : State) (bytes acct : Nat) : (fabricFlits s bytes acct).boot = s.boot := by simp [fabricFlits]
@[simp] theorem fabricFlits_start (s : State) (bytes acct : Nat) : (fabricFlits s bytes acct).start = s.start := by simp [fabricFlits]
@[simp] theorem fabricFlits_mnt (s : State) (bytes acct : Nat) : (fabricFlits s bytes acct).mnt = s.mnt := by simp [fabricFlits]

/-! ### g6Access -/

@[simp] theorem g6Access_pending (s : State) (addr : Nat) (write : Bool) (acct : Nat) : (g6Access s addr write acct).pending = s.pending := by simp [g6Access]
@[simp] theorem g6Access_staged (s : State) (addr : Nat) (write : Bool) (acct : Nat) : (g6Access s addr write acct).staged = s.staged := by simp [g6Access]
@[simp] theorem g6Access_applyReq (s : State) (addr : Nat) (write : Bool) (acct : Nat) : (g6Access s addr write acct).applyReq = s.applyReq := by simp [g6Access]
@[simp] theorem g6Access_armDue (s : State) (addr : Nat) (write : Bool) (acct : Nat) : (g6Access s addr write acct).armDue = s.armDue := by simp [g6Access]
@[simp] theorem g6Access_rdata (s : State) (addr : Nat) (write : Bool) (acct : Nat) : (g6Access s addr write acct).rdata = s.rdata := by simp [g6Access]
@[simp] theorem g6Access_tt (s : State) (addr : Nat) (write : Bool) (acct : Nat) : (g6Access s addr write acct).tt = s.tt := by simp [g6Access]
@[simp] theorem g6Access_claims (s : State) (addr : Nat) (write : Bool) (acct : Nat) : (g6Access s addr write acct).claims = s.claims := by simp [g6Access]
@[simp] theorem g6Access_queues (s : State) (addr : Nat) (write : Bool) (acct : Nat) : (g6Access s addr write acct).queues = s.queues := by simp [g6Access]
@[simp] theorem g6Access_lastQueue (s : State) (addr : Nat) (write : Bool) (acct : Nat) : (g6Access s addr write acct).lastQueue = s.lastQueue := by simp [g6Access]
@[simp] theorem g6Access_pushHeld (s : State) (addr : Nat) (write : Bool) (acct : Nat) : (g6Access s addr write acct).pushHeld = s.pushHeld := by simp [g6Access]
@[simp] theorem g6Access_qcmdStop (s : State) (addr : Nat) (write : Bool) (acct : Nat) : (g6Access s addr write acct).qcmdStop = s.qcmdStop := by simp [g6Access]
@[simp] theorem g6Access_rings (s : State) (addr : Nat) (write : Bool) (acct : Nat) : (g6Access s addr write acct).rings = s.rings := by simp [g6Access]
@[simp] theorem g6Access_acceptNo (s : State) (addr : Nat) (write : Bool) (acct : Nat) : (g6Access s addr write acct).acceptNo = s.acceptNo := by simp [g6Access]
@[simp] theorem g6Access_abortReqs (s : State) (addr : Nat) (write : Bool) (acct : Nat) : (g6Access s addr write acct).abortReqs = s.abortReqs := by simp [g6Access]
@[simp] theorem g6Access_pubs (s : State) (addr : Nat) (write : Bool) (acct : Nat) : (g6Access s addr write acct).pubs = s.pubs := by simp [g6Access]
@[simp] theorem g6Access_deltas (s : State) (addr : Nat) (write : Bool) (acct : Nat) : (g6Access s addr write acct).deltas = s.deltas := by simp [g6Access]
@[simp] theorem g6Access_pseq (s : State) (addr : Nat) (write : Bool) (acct : Nat) : (g6Access s addr write acct).pseq = s.pseq := by simp [g6Access]
@[simp] theorem g6Access_flushes (s : State) (addr : Nat) (write : Bool) (acct : Nat) : (g6Access s addr write acct).flushes = s.flushes := by simp [g6Access]
@[simp] theorem g6Access_hif (s : State) (addr : Nat) (write : Bool) (acct : Nat) : (g6Access s addr write acct).hif = s.hif := by simp [g6Access]
@[simp] theorem g6Access_links (s : State) (addr : Nat) (write : Bool) (acct : Nat) : (g6Access s addr write acct).links = s.links := by simp [g6Access]
@[simp] theorem g6Access_hostMem (s : State) (addr : Nat) (write : Bool) (acct : Nat) : (g6Access s addr write acct).hostMem = s.hostMem := by simp [g6Access]
@[simp] theorem g6Access_mem (s : State) (addr : Nat) (write : Bool) (acct : Nat) : (g6Access s addr write acct).mem = s.mem := by simp [g6Access]
@[simp] theorem g6Access_poison (s : State) (addr : Nat) (write : Bool) (acct : Nat) : (g6Access s addr write acct).poison = s.poison := by simp [g6Access]
@[simp] theorem g6Access_fresh (s : State) (addr : Nat) (write : Bool) (acct : Nat) : (g6Access s addr write acct).fresh = s.fresh := by simp [g6Access]
@[simp] theorem g6Access_abc (s : State) (addr : Nat) (write : Bool) (acct : Nat) : (g6Access s addr write acct).abc = s.abc := by simp [g6Access]
@[simp] theorem g6Access_areas (s : State) (addr : Nat) (write : Bool) (acct : Nat) : (g6Access s addr write acct).areas = s.areas := by simp [g6Access]
@[simp] theorem g6Access_pins (s : State) (addr : Nat) (write : Bool) (acct : Nat) : (g6Access s addr write acct).pins = s.pins := by simp [g6Access]
@[simp] theorem g6Access_pp (s : State) (addr : Nat) (write : Bool) (acct : Nat) : (g6Access s addr write acct).pp = s.pp := by simp [g6Access]
@[simp] theorem g6Access_rly (s : State) (addr : Nat) (write : Bool) (acct : Nat) : (g6Access s addr write acct).rly = s.rly := by simp [g6Access]
@[simp] theorem g6Access_ft (s : State) (addr : Nat) (write : Bool) (acct : Nat) : (g6Access s addr write acct).ft = s.ft := by simp [g6Access]
@[simp] theorem g6Access_tm (s : State) (addr : Nat) (write : Bool) (acct : Nat) : (g6Access s addr write acct).tm = s.tm := by simp [g6Access]
@[simp] theorem g6Access_cip (s : State) (addr : Nat) (write : Bool) (acct : Nat) : (g6Access s addr write acct).cip = s.cip := by simp [g6Access]
@[simp] theorem g6Access_blk (s : State) (addr : Nat) (write : Bool) (acct : Nat) : (g6Access s addr write acct).blk = s.blk := by simp [g6Access]
@[simp] theorem g6Access_dma (s : State) (addr : Nat) (write : Bool) (acct : Nat) : (g6Access s addr write acct).dma = s.dma := by simp [g6Access]
@[simp] theorem g6Access_trn (s : State) (addr : Nat) (write : Bool) (acct : Nat) : (g6Access s addr write acct).trn = s.trn := by simp [g6Access]
@[simp] theorem g6Access_pair (s : State) (addr : Nat) (write : Bool) (acct : Nat) : (g6Access s addr write acct).pair = s.pair := by simp [g6Access]
@[simp] theorem g6Access_boot (s : State) (addr : Nat) (write : Bool) (acct : Nat) : (g6Access s addr write acct).boot = s.boot := by simp [g6Access]
@[simp] theorem g6Access_start (s : State) (addr : Nat) (write : Bool) (acct : Nat) : (g6Access s addr write acct).start = s.start := by simp [g6Access]
@[simp] theorem g6Access_mnt (s : State) (addr : Nat) (write : Bool) (acct : Nat) : (g6Access s addr write acct).mnt = s.mnt := by simp [g6Access]

/-! ### sramAccess -/

@[simp] theorem sramAccess_pending (s : State) (n acct : Nat) : (sramAccess s n acct).pending = s.pending := by simp [sramAccess]
@[simp] theorem sramAccess_staged (s : State) (n acct : Nat) : (sramAccess s n acct).staged = s.staged := by simp [sramAccess]
@[simp] theorem sramAccess_applyReq (s : State) (n acct : Nat) : (sramAccess s n acct).applyReq = s.applyReq := by simp [sramAccess]
@[simp] theorem sramAccess_armDue (s : State) (n acct : Nat) : (sramAccess s n acct).armDue = s.armDue := by simp [sramAccess]
@[simp] theorem sramAccess_rdata (s : State) (n acct : Nat) : (sramAccess s n acct).rdata = s.rdata := by simp [sramAccess]
@[simp] theorem sramAccess_tt (s : State) (n acct : Nat) : (sramAccess s n acct).tt = s.tt := by simp [sramAccess]
@[simp] theorem sramAccess_claims (s : State) (n acct : Nat) : (sramAccess s n acct).claims = s.claims := by simp [sramAccess]
@[simp] theorem sramAccess_queues (s : State) (n acct : Nat) : (sramAccess s n acct).queues = s.queues := by simp [sramAccess]
@[simp] theorem sramAccess_lastQueue (s : State) (n acct : Nat) : (sramAccess s n acct).lastQueue = s.lastQueue := by simp [sramAccess]
@[simp] theorem sramAccess_pushHeld (s : State) (n acct : Nat) : (sramAccess s n acct).pushHeld = s.pushHeld := by simp [sramAccess]
@[simp] theorem sramAccess_qcmdStop (s : State) (n acct : Nat) : (sramAccess s n acct).qcmdStop = s.qcmdStop := by simp [sramAccess]
@[simp] theorem sramAccess_rings (s : State) (n acct : Nat) : (sramAccess s n acct).rings = s.rings := by simp [sramAccess]
@[simp] theorem sramAccess_acceptNo (s : State) (n acct : Nat) : (sramAccess s n acct).acceptNo = s.acceptNo := by simp [sramAccess]
@[simp] theorem sramAccess_abortReqs (s : State) (n acct : Nat) : (sramAccess s n acct).abortReqs = s.abortReqs := by simp [sramAccess]
@[simp] theorem sramAccess_pubs (s : State) (n acct : Nat) : (sramAccess s n acct).pubs = s.pubs := by simp [sramAccess]
@[simp] theorem sramAccess_deltas (s : State) (n acct : Nat) : (sramAccess s n acct).deltas = s.deltas := by simp [sramAccess]
@[simp] theorem sramAccess_pseq (s : State) (n acct : Nat) : (sramAccess s n acct).pseq = s.pseq := by simp [sramAccess]
@[simp] theorem sramAccess_flushes (s : State) (n acct : Nat) : (sramAccess s n acct).flushes = s.flushes := by simp [sramAccess]
@[simp] theorem sramAccess_hif (s : State) (n acct : Nat) : (sramAccess s n acct).hif = s.hif := by simp [sramAccess]
@[simp] theorem sramAccess_links (s : State) (n acct : Nat) : (sramAccess s n acct).links = s.links := by simp [sramAccess]
@[simp] theorem sramAccess_hostMem (s : State) (n acct : Nat) : (sramAccess s n acct).hostMem = s.hostMem := by simp [sramAccess]
@[simp] theorem sramAccess_mem (s : State) (n acct : Nat) : (sramAccess s n acct).mem = s.mem := by simp [sramAccess]
@[simp] theorem sramAccess_poison (s : State) (n acct : Nat) : (sramAccess s n acct).poison = s.poison := by simp [sramAccess]
@[simp] theorem sramAccess_fresh (s : State) (n acct : Nat) : (sramAccess s n acct).fresh = s.fresh := by simp [sramAccess]
@[simp] theorem sramAccess_abc (s : State) (n acct : Nat) : (sramAccess s n acct).abc = s.abc := by simp [sramAccess]
@[simp] theorem sramAccess_areas (s : State) (n acct : Nat) : (sramAccess s n acct).areas = s.areas := by simp [sramAccess]
@[simp] theorem sramAccess_pins (s : State) (n acct : Nat) : (sramAccess s n acct).pins = s.pins := by simp [sramAccess]
@[simp] theorem sramAccess_pp (s : State) (n acct : Nat) : (sramAccess s n acct).pp = s.pp := by simp [sramAccess]
@[simp] theorem sramAccess_rly (s : State) (n acct : Nat) : (sramAccess s n acct).rly = s.rly := by simp [sramAccess]
@[simp] theorem sramAccess_ft (s : State) (n acct : Nat) : (sramAccess s n acct).ft = s.ft := by simp [sramAccess]
@[simp] theorem sramAccess_tm (s : State) (n acct : Nat) : (sramAccess s n acct).tm = s.tm := by simp [sramAccess]
@[simp] theorem sramAccess_cip (s : State) (n acct : Nat) : (sramAccess s n acct).cip = s.cip := by simp [sramAccess]
@[simp] theorem sramAccess_blk (s : State) (n acct : Nat) : (sramAccess s n acct).blk = s.blk := by simp [sramAccess]
@[simp] theorem sramAccess_dma (s : State) (n acct : Nat) : (sramAccess s n acct).dma = s.dma := by simp [sramAccess]
@[simp] theorem sramAccess_trn (s : State) (n acct : Nat) : (sramAccess s n acct).trn = s.trn := by simp [sramAccess]
@[simp] theorem sramAccess_pair (s : State) (n acct : Nat) : (sramAccess s n acct).pair = s.pair := by simp [sramAccess]
@[simp] theorem sramAccess_boot (s : State) (n acct : Nat) : (sramAccess s n acct).boot = s.boot := by simp [sramAccess]
@[simp] theorem sramAccess_start (s : State) (n acct : Nat) : (sramAccess s n acct).start = s.start := by simp [sramAccess]
@[simp] theorem sramAccess_mnt (s : State) (n acct : Nat) : (sramAccess s n acct).mnt = s.mnt := by simp [sramAccess]

/-! ### detFailed -/

@[simp] theorem detFailed_pending (s : State) : (detFailed s).pending = s.pending := by simp [detFailed]
@[simp] theorem detFailed_staged (s : State) : (detFailed s).staged = s.staged := by simp [detFailed]
@[simp] theorem detFailed_applyReq (s : State) : (detFailed s).applyReq = s.applyReq := by simp [detFailed]
@[simp] theorem detFailed_armDue (s : State) : (detFailed s).armDue = s.armDue := by simp [detFailed]
@[simp] theorem detFailed_rdata (s : State) : (detFailed s).rdata = s.rdata := by simp [detFailed]
@[simp] theorem detFailed_tt (s : State) : (detFailed s).tt = s.tt := by simp [detFailed]
@[simp] theorem detFailed_nrg (s : State) : (detFailed s).nrg = s.nrg := by simp [detFailed]
@[simp] theorem detFailed_claims (s : State) : (detFailed s).claims = s.claims := by simp [detFailed]
@[simp] theorem detFailed_pmcWraps (s : State) : (detFailed s).pmcWraps = s.pmcWraps := by simp [detFailed]
@[simp] theorem detFailed_queues (s : State) : (detFailed s).queues = s.queues := by simp [detFailed]
@[simp] theorem detFailed_lastQueue (s : State) : (detFailed s).lastQueue = s.lastQueue := by simp [detFailed]
@[simp] theorem detFailed_pushHeld (s : State) : (detFailed s).pushHeld = s.pushHeld := by simp [detFailed]
@[simp] theorem detFailed_qcmdStop (s : State) : (detFailed s).qcmdStop = s.qcmdStop := by simp [detFailed]
@[simp] theorem detFailed_rings (s : State) : (detFailed s).rings = s.rings := by simp [detFailed]
@[simp] theorem detFailed_acceptNo (s : State) : (detFailed s).acceptNo = s.acceptNo := by simp [detFailed]
@[simp] theorem detFailed_abortReqs (s : State) : (detFailed s).abortReqs = s.abortReqs := by simp [detFailed]
@[simp] theorem detFailed_pubs (s : State) : (detFailed s).pubs = s.pubs := by simp [detFailed]
@[simp] theorem detFailed_deltas (s : State) : (detFailed s).deltas = s.deltas := by simp [detFailed]
@[simp] theorem detFailed_pseq (s : State) : (detFailed s).pseq = s.pseq := by simp [detFailed]
@[simp] theorem detFailed_flushes (s : State) : (detFailed s).flushes = s.flushes := by simp [detFailed]
@[simp] theorem detFailed_hostMem (s : State) : (detFailed s).hostMem = s.hostMem := by simp [detFailed]
@[simp] theorem detFailed_mem (s : State) : (detFailed s).mem = s.mem := by simp [detFailed]
@[simp] theorem detFailed_poison (s : State) : (detFailed s).poison = s.poison := by simp [detFailed]
@[simp] theorem detFailed_fresh (s : State) : (detFailed s).fresh = s.fresh := by simp [detFailed]
@[simp] theorem detFailed_abc (s : State) : (detFailed s).abc = s.abc := by simp [detFailed]
@[simp] theorem detFailed_areas (s : State) : (detFailed s).areas = s.areas := by simp [detFailed]
@[simp] theorem detFailed_pins (s : State) : (detFailed s).pins = s.pins := by simp [detFailed]
@[simp] theorem detFailed_pp (s : State) : (detFailed s).pp = s.pp := by simp [detFailed]
@[simp] theorem detFailed_rly (s : State) : (detFailed s).rly = s.rly := by simp [detFailed]
@[simp] theorem detFailed_ft (s : State) : (detFailed s).ft = s.ft := by simp [detFailed]
@[simp] theorem detFailed_tm (s : State) : (detFailed s).tm = s.tm := by simp [detFailed]
@[simp] theorem detFailed_cip (s : State) : (detFailed s).cip = s.cip := by simp [detFailed]
@[simp] theorem detFailed_blk (s : State) : (detFailed s).blk = s.blk := by simp [detFailed]
@[simp] theorem detFailed_dma (s : State) : (detFailed s).dma = s.dma := by simp [detFailed]
@[simp] theorem detFailed_trn (s : State) : (detFailed s).trn = s.trn := by simp [detFailed]
@[simp] theorem detFailed_pair (s : State) : (detFailed s).pair = s.pair := by simp [detFailed]
@[simp] theorem detFailed_boot (s : State) : (detFailed s).boot = s.boot := by simp [detFailed]
@[simp] theorem detFailed_start (s : State) : (detFailed s).start = s.start := by simp [detFailed]
@[simp] theorem detFailed_mnt (s : State) : (detFailed s).mnt = s.mnt := by simp [detFailed]

/-! ### memStore -/

@[simp] theorem memStore_pending (s : State) (a : Nat) (bs : Bytes) : (memStore s a bs).pending = s.pending := by
  unfold memStore
  exact foldl_frame (State.pending) _ (fun t n => by simp) _ _
@[simp] theorem memStore_staged (s : State) (a : Nat) (bs : Bytes) : (memStore s a bs).staged = s.staged := by
  unfold memStore
  exact foldl_frame (State.staged) _ (fun t n => by simp) _ _
@[simp] theorem memStore_applyReq (s : State) (a : Nat) (bs : Bytes) : (memStore s a bs).applyReq = s.applyReq := by
  unfold memStore
  exact foldl_frame (State.applyReq) _ (fun t n => by simp) _ _
@[simp] theorem memStore_armDue (s : State) (a : Nat) (bs : Bytes) : (memStore s a bs).armDue = s.armDue := by
  unfold memStore
  exact foldl_frame (State.armDue) _ (fun t n => by simp) _ _
@[simp] theorem memStore_rdata (s : State) (a : Nat) (bs : Bytes) : (memStore s a bs).rdata = s.rdata := by
  unfold memStore
  exact foldl_frame (State.rdata) _ (fun t n => by simp) _ _
@[simp] theorem memStore_tt (s : State) (a : Nat) (bs : Bytes) : (memStore s a bs).tt = s.tt := by
  unfold memStore
  exact foldl_frame (State.tt) _ (fun t n => by simp) _ _
@[simp] theorem memStore_nrg (s : State) (a : Nat) (bs : Bytes) : (memStore s a bs).nrg = s.nrg := by
  unfold memStore
  exact foldl_frame (State.nrg) _ (fun t n => by simp) _ _
@[simp] theorem memStore_claims (s : State) (a : Nat) (bs : Bytes) : (memStore s a bs).claims = s.claims := by
  unfold memStore
  exact foldl_frame (State.claims) _ (fun t n => by simp) _ _
@[simp] theorem memStore_pmcWraps (s : State) (a : Nat) (bs : Bytes) : (memStore s a bs).pmcWraps = s.pmcWraps := by
  unfold memStore
  exact foldl_frame (State.pmcWraps) _ (fun t n => by simp) _ _
@[simp] theorem memStore_queues (s : State) (a : Nat) (bs : Bytes) : (memStore s a bs).queues = s.queues := by
  unfold memStore
  exact foldl_frame (State.queues) _ (fun t n => by simp) _ _
@[simp] theorem memStore_lastQueue (s : State) (a : Nat) (bs : Bytes) : (memStore s a bs).lastQueue = s.lastQueue := by
  unfold memStore
  exact foldl_frame (State.lastQueue) _ (fun t n => by simp) _ _
@[simp] theorem memStore_pushHeld (s : State) (a : Nat) (bs : Bytes) : (memStore s a bs).pushHeld = s.pushHeld := by
  unfold memStore
  exact foldl_frame (State.pushHeld) _ (fun t n => by simp) _ _
@[simp] theorem memStore_qcmdStop (s : State) (a : Nat) (bs : Bytes) : (memStore s a bs).qcmdStop = s.qcmdStop := by
  unfold memStore
  exact foldl_frame (State.qcmdStop) _ (fun t n => by simp) _ _
@[simp] theorem memStore_rings (s : State) (a : Nat) (bs : Bytes) : (memStore s a bs).rings = s.rings := by
  unfold memStore
  exact foldl_frame (State.rings) _ (fun t n => by simp) _ _
@[simp] theorem memStore_acceptNo (s : State) (a : Nat) (bs : Bytes) : (memStore s a bs).acceptNo = s.acceptNo := by
  unfold memStore
  exact foldl_frame (State.acceptNo) _ (fun t n => by simp) _ _
@[simp] theorem memStore_abortReqs (s : State) (a : Nat) (bs : Bytes) : (memStore s a bs).abortReqs = s.abortReqs := by
  unfold memStore
  exact foldl_frame (State.abortReqs) _ (fun t n => by simp) _ _
@[simp] theorem memStore_pubs (s : State) (a : Nat) (bs : Bytes) : (memStore s a bs).pubs = s.pubs := by
  unfold memStore
  exact foldl_frame (State.pubs) _ (fun t n => by simp) _ _
@[simp] theorem memStore_deltas (s : State) (a : Nat) (bs : Bytes) : (memStore s a bs).deltas = s.deltas := by
  unfold memStore
  exact foldl_frame (State.deltas) _ (fun t n => by simp) _ _
@[simp] theorem memStore_pseq (s : State) (a : Nat) (bs : Bytes) : (memStore s a bs).pseq = s.pseq := by
  unfold memStore
  exact foldl_frame (State.pseq) _ (fun t n => by simp) _ _
@[simp] theorem memStore_flushes (s : State) (a : Nat) (bs : Bytes) : (memStore s a bs).flushes = s.flushes := by
  unfold memStore
  exact foldl_frame (State.flushes) _ (fun t n => by simp) _ _
@[simp] theorem memStore_hostMem (s : State) (a : Nat) (bs : Bytes) : (memStore s a bs).hostMem = s.hostMem := by
  unfold memStore
  exact foldl_frame (State.hostMem) _ (fun t n => by simp) _ _
@[simp] theorem memStore_fresh (s : State) (a : Nat) (bs : Bytes) : (memStore s a bs).fresh = s.fresh := by
  unfold memStore
  exact foldl_frame (State.fresh) _ (fun t n => by simp) _ _
@[simp] theorem memStore_abc (s : State) (a : Nat) (bs : Bytes) : (memStore s a bs).abc = s.abc := by
  unfold memStore
  exact foldl_frame (State.abc) _ (fun t n => by simp) _ _
@[simp] theorem memStore_areas (s : State) (a : Nat) (bs : Bytes) : (memStore s a bs).areas = s.areas := by
  unfold memStore
  exact foldl_frame (State.areas) _ (fun t n => by simp) _ _
@[simp] theorem memStore_pins (s : State) (a : Nat) (bs : Bytes) : (memStore s a bs).pins = s.pins := by
  unfold memStore
  exact foldl_frame (State.pins) _ (fun t n => by simp) _ _
@[simp] theorem memStore_pp (s : State) (a : Nat) (bs : Bytes) : (memStore s a bs).pp = s.pp := by
  unfold memStore
  exact foldl_frame (State.pp) _ (fun t n => by simp) _ _
@[simp] theorem memStore_rly (s : State) (a : Nat) (bs : Bytes) : (memStore s a bs).rly = s.rly := by
  unfold memStore
  exact foldl_frame (State.rly) _ (fun t n => by simp) _ _
@[simp] theorem memStore_ft (s : State) (a : Nat) (bs : Bytes) : (memStore s a bs).ft = s.ft := by
  unfold memStore
  exact foldl_frame (State.ft) _ (fun t n => by simp) _ _
@[simp] theorem memStore_tm (s : State) (a : Nat) (bs : Bytes) : (memStore s a bs).tm = s.tm := by
  unfold memStore
  exact foldl_frame (State.tm) _ (fun t n => by simp) _ _
@[simp] theorem memStore_cip (s : State) (a : Nat) (bs : Bytes) : (memStore s a bs).cip = s.cip := by
  unfold memStore
  exact foldl_frame (State.cip) _ (fun t n => by simp) _ _
@[simp] theorem memStore_blk (s : State) (a : Nat) (bs : Bytes) : (memStore s a bs).blk = s.blk := by
  unfold memStore
  exact foldl_frame (State.blk) _ (fun t n => by simp) _ _
@[simp] theorem memStore_dma (s : State) (a : Nat) (bs : Bytes) : (memStore s a bs).dma = s.dma := by
  unfold memStore
  exact foldl_frame (State.dma) _ (fun t n => by simp) _ _
@[simp] theorem memStore_trn (s : State) (a : Nat) (bs : Bytes) : (memStore s a bs).trn = s.trn := by
  unfold memStore
  exact foldl_frame (State.trn) _ (fun t n => by simp) _ _
@[simp] theorem memStore_pair (s : State) (a : Nat) (bs : Bytes) : (memStore s a bs).pair = s.pair := by
  unfold memStore
  exact foldl_frame (State.pair) _ (fun t n => by simp) _ _
@[simp] theorem memStore_boot (s : State) (a : Nat) (bs : Bytes) : (memStore s a bs).boot = s.boot := by
  unfold memStore
  exact foldl_frame (State.boot) _ (fun t n => by simp) _ _
@[simp] theorem memStore_start (s : State) (a : Nat) (bs : Bytes) : (memStore s a bs).start = s.start := by
  unfold memStore
  exact foldl_frame (State.start) _ (fun t n => by simp) _ _
@[simp] theorem memStore_mnt (s : State) (a : Nat) (bs : Bytes) : (memStore s a bs).mnt = s.mnt := by
  unfold memStore
  exact foldl_frame (State.mnt) _ (fun t n => by simp) _ _

/-! ### hostWrite -/

@[simp] theorem hostWrite_pending (s : State) (f addr : Nat) (bs : Bytes) : (hostWrite s f addr bs).pending = s.pending := by unfold hostWrite; split <;> rfl
@[simp] theorem hostWrite_regs (s : State) (f addr : Nat) (bs : Bytes) : (hostWrite s f addr bs).regs = s.regs := by unfold hostWrite; split <;> rfl
@[simp] theorem hostWrite_staged (s : State) (f addr : Nat) (bs : Bytes) : (hostWrite s f addr bs).staged = s.staged := by unfold hostWrite; split <;> rfl
@[simp] theorem hostWrite_applyReq (s : State) (f addr : Nat) (bs : Bytes) : (hostWrite s f addr bs).applyReq = s.applyReq := by unfold hostWrite; split <;> rfl
@[simp] theorem hostWrite_armDue (s : State) (f addr : Nat) (bs : Bytes) : (hostWrite s f addr bs).armDue = s.armDue := by unfold hostWrite; split <;> rfl
@[simp] theorem hostWrite_rdata (s : State) (f addr : Nat) (bs : Bytes) : (hostWrite s f addr bs).rdata = s.rdata := by unfold hostWrite; split <;> rfl
@[simp] theorem hostWrite_tt (s : State) (f addr : Nat) (bs : Bytes) : (hostWrite s f addr bs).tt = s.tt := by unfold hostWrite; split <;> rfl
@[simp] theorem hostWrite_nrg (s : State) (f addr : Nat) (bs : Bytes) : (hostWrite s f addr bs).nrg = s.nrg := by unfold hostWrite; split <;> rfl
@[simp] theorem hostWrite_claims (s : State) (f addr : Nat) (bs : Bytes) : (hostWrite s f addr bs).claims = s.claims := by unfold hostWrite; split <;> rfl
@[simp] theorem hostWrite_pmcWraps (s : State) (f addr : Nat) (bs : Bytes) : (hostWrite s f addr bs).pmcWraps = s.pmcWraps := by unfold hostWrite; split <;> rfl
@[simp] theorem hostWrite_queues (s : State) (f addr : Nat) (bs : Bytes) : (hostWrite s f addr bs).queues = s.queues := by unfold hostWrite; split <;> rfl
@[simp] theorem hostWrite_lastQueue (s : State) (f addr : Nat) (bs : Bytes) : (hostWrite s f addr bs).lastQueue = s.lastQueue := by unfold hostWrite; split <;> rfl
@[simp] theorem hostWrite_pushHeld (s : State) (f addr : Nat) (bs : Bytes) : (hostWrite s f addr bs).pushHeld = s.pushHeld := by unfold hostWrite; split <;> rfl
@[simp] theorem hostWrite_qcmdStop (s : State) (f addr : Nat) (bs : Bytes) : (hostWrite s f addr bs).qcmdStop = s.qcmdStop := by unfold hostWrite; split <;> rfl
@[simp] theorem hostWrite_rings (s : State) (f addr : Nat) (bs : Bytes) : (hostWrite s f addr bs).rings = s.rings := by unfold hostWrite; split <;> rfl
@[simp] theorem hostWrite_acceptNo (s : State) (f addr : Nat) (bs : Bytes) : (hostWrite s f addr bs).acceptNo = s.acceptNo := by unfold hostWrite; split <;> rfl
@[simp] theorem hostWrite_abortReqs (s : State) (f addr : Nat) (bs : Bytes) : (hostWrite s f addr bs).abortReqs = s.abortReqs := by unfold hostWrite; split <;> rfl
@[simp] theorem hostWrite_pubs (s : State) (f addr : Nat) (bs : Bytes) : (hostWrite s f addr bs).pubs = s.pubs := by unfold hostWrite; split <;> rfl
@[simp] theorem hostWrite_deltas (s : State) (f addr : Nat) (bs : Bytes) : (hostWrite s f addr bs).deltas = s.deltas := by unfold hostWrite; split <;> rfl
@[simp] theorem hostWrite_pseq (s : State) (f addr : Nat) (bs : Bytes) : (hostWrite s f addr bs).pseq = s.pseq := by unfold hostWrite; split <;> rfl
@[simp] theorem hostWrite_flushes (s : State) (f addr : Nat) (bs : Bytes) : (hostWrite s f addr bs).flushes = s.flushes := by unfold hostWrite; split <;> rfl
@[simp] theorem hostWrite_hif (s : State) (f addr : Nat) (bs : Bytes) : (hostWrite s f addr bs).hif = s.hif := by unfold hostWrite; split <;> rfl
@[simp] theorem hostWrite_mem (s : State) (f addr : Nat) (bs : Bytes) : (hostWrite s f addr bs).mem = s.mem := by unfold hostWrite; split <;> rfl
@[simp] theorem hostWrite_poison (s : State) (f addr : Nat) (bs : Bytes) : (hostWrite s f addr bs).poison = s.poison := by unfold hostWrite; split <;> rfl
@[simp] theorem hostWrite_fresh (s : State) (f addr : Nat) (bs : Bytes) : (hostWrite s f addr bs).fresh = s.fresh := by unfold hostWrite; split <;> rfl
@[simp] theorem hostWrite_abc (s : State) (f addr : Nat) (bs : Bytes) : (hostWrite s f addr bs).abc = s.abc := by unfold hostWrite; split <;> rfl
@[simp] theorem hostWrite_areas (s : State) (f addr : Nat) (bs : Bytes) : (hostWrite s f addr bs).areas = s.areas := by unfold hostWrite; split <;> rfl
@[simp] theorem hostWrite_pins (s : State) (f addr : Nat) (bs : Bytes) : (hostWrite s f addr bs).pins = s.pins := by unfold hostWrite; split <;> rfl
@[simp] theorem hostWrite_pp (s : State) (f addr : Nat) (bs : Bytes) : (hostWrite s f addr bs).pp = s.pp := by unfold hostWrite; split <;> rfl
@[simp] theorem hostWrite_rly (s : State) (f addr : Nat) (bs : Bytes) : (hostWrite s f addr bs).rly = s.rly := by unfold hostWrite; split <;> rfl
@[simp] theorem hostWrite_ft (s : State) (f addr : Nat) (bs : Bytes) : (hostWrite s f addr bs).ft = s.ft := by unfold hostWrite; split <;> rfl
@[simp] theorem hostWrite_tm (s : State) (f addr : Nat) (bs : Bytes) : (hostWrite s f addr bs).tm = s.tm := by unfold hostWrite; split <;> rfl
@[simp] theorem hostWrite_cip (s : State) (f addr : Nat) (bs : Bytes) : (hostWrite s f addr bs).cip = s.cip := by unfold hostWrite; split <;> rfl
@[simp] theorem hostWrite_blk (s : State) (f addr : Nat) (bs : Bytes) : (hostWrite s f addr bs).blk = s.blk := by unfold hostWrite; split <;> rfl
@[simp] theorem hostWrite_dma (s : State) (f addr : Nat) (bs : Bytes) : (hostWrite s f addr bs).dma = s.dma := by unfold hostWrite; split <;> rfl
@[simp] theorem hostWrite_trn (s : State) (f addr : Nat) (bs : Bytes) : (hostWrite s f addr bs).trn = s.trn := by unfold hostWrite; split <;> rfl
@[simp] theorem hostWrite_pair (s : State) (f addr : Nat) (bs : Bytes) : (hostWrite s f addr bs).pair = s.pair := by unfold hostWrite; split <;> rfl
@[simp] theorem hostWrite_boot (s : State) (f addr : Nat) (bs : Bytes) : (hostWrite s f addr bs).boot = s.boot := by unfold hostWrite; split <;> rfl
@[simp] theorem hostWrite_start (s : State) (f addr : Nat) (bs : Bytes) : (hostWrite s f addr bs).start = s.start := by unfold hostWrite; split <;> rfl
@[simp] theorem hostWrite_mnt (s : State) (f addr : Nat) (bs : Bytes) : (hostWrite s f addr bs).mnt = s.mnt := by unfold hostWrite; split <;> rfl

end Sys2Proof.Machine
end

