-- ==== Sys2Proof/Laws/Registers.lean ====
section
/-! SUPPORT. What a register field reads after a write of a field, of itself or of another. -/
namespace Sys2Proof.Machine

/-- A member that exists reads the value written, cut to its width. -/
theorem State.rd_wr_same (s : State) (d : Desc) (v i j : Nat) (h : d.has i j = true) :
    (s.wr d v i j).rd d i j = v % 2 ^ d.width := by
  simp [State.wr, State.rd, h]

/-- A write leaves every field member of another bit address. -/
theorem State.rd_wr_other (s : State) (d e : Desc) (v i j k l : Nat) (h : e.key k l ≠ d.key i j) :
    (s.wr d v i j).rd e k l = s.rd e k l := by
  unfold State.wr
  split
  · simp only [State.rd]
    split
    · exact Map.getD_setD_other s.regs _ _ _ h
    · rfl
  · rfl

/-- A member that does not exist holds nothing. -/
theorem State.wr_absent (s : State) (d : Desc) (v i j : Nat) (h : d.has i j = false) : s.wr d v i j = s := by
  simp [State.wr, h]

/-- A counter that exists reads one amount more, modulo its width. -/
theorem State.rd_count_same (s : State) (d : Desc) (n i j : Nat) (h : d.has i j = true) :
    (s.count d n i j).rd d i j = (s.rd d i j + n) % 2 ^ d.width :=
  State.rd_wr_same s d _ i j h

/-- A counter leaves every field member of another bit address. -/
theorem State.rd_count_other (s : State) (d e : Desc) (n i j k l : Nat) (h : e.key k l ≠ d.key i j) :
    (s.count d n i j).rd e k l = s.rd e k l :=
  State.rd_wr_other s d e _ i j k l h

/-- A saturating counter that exists reads the lesser of its sum and its greatest value. -/
theorem State.rd_countSat_same (s : State) (d : Desc) (n i j : Nat) (h : d.has i j = true) :
    (s.countSat d n i j).rd d i j = min (2 ^ d.width - 1) (s.rd d i j + n) := by
  have p : 0 < 2 ^ d.width := Nat.two_pow_pos _
  rw [State.countSat, State.rd_wr_same s d _ i j h]
  unfold satNat
  split
  · rw [Nat.mod_eq_of_lt (by omega)]
    omega
  · rw [Nat.mod_eq_of_lt (by omega)]
    omega

/-- A saturating counter leaves every field member of another bit address. -/
theorem State.rd_countSat_other (s : State) (d e : Desc) (n i j k l : Nat) (h : e.key k l ≠ d.key i j) :
    (s.countSat d n i j).rd e k l = s.rd e k l :=
  State.rd_wr_other s d e _ i j k l h

/-- What is read depends on the registers alone. -/
theorem State.rd_congr {s t : State} (h : t.regs = s.regs) (d : Desc) (i j : Nat) : t.rd d i j = s.rd d i j := by
  simp [State.rd, h]

/-- A one-bit condition after a write of another field member. -/
theorem State.on_wr_other (s : State) (d e : Desc) (v i j k l : Nat) (h : e.key k l ≠ d.key i j) :
    (s.wr d v i j).on e k l = s.on e k l := by
  simp [State.on, State.rd_wr_other s d e v i j k l h]

/-- The registers keep their canonical form with respect to a field's reset value. -/
theorem State.wr_sorted (s : State) (d : Desc) (v i j : Nat) (h : s.regs.Pairwise fun a b => a.1 < b.1) :
    (s.wr d v i j).regs.Pairwise fun a b => a.1 < b.1 := by
  unfold State.wr
  split
  · unfold Map.setD
    split
    · exact h.filter _
    · exact Map.insert_sorted _ _ _ h
  · exact h

end Sys2Proof.Machine
end

