-- ==== Sys2Proof/Laws/Ops.lean ====
section
/-! SUPPORT. What each shared operation can do, said once. -/
namespace Sys2Proof.Machine

/-- While the clocks run, a command has its effect. -/
theorem run_running (s : State) (f : State → State) (h : stopped s = false) : run s f = .next (f s) := by simp [run, h]

/-- While the clocks stand still, a command has no effect. -/
theorem run_stopped (s : State) (f : State → State) (h : stopped s = true) : run s f = .next s := by simp [run, h]

/-- A command always goes on. -/
theorem run_next (s : State) (f : State → State) : ∃ t, run s f = .next t := ⟨_, rfl⟩

/-- A read command by one who reaches its block has its effect. -/
theorem managed_reaches (b : Blk) (who : Initiator) (s : State) (f : State → State) (h : reaches who b.base = true) :
    managed b who s f = f s := by simp [managed, h]

/-- Anyone else reads 0. -/
theorem managed_shut (b : Blk) (who : Initiator) (s : State) (f : State → State) (h : reaches who b.base = false) :
    managed b who s f = answer s 0 := by simp [managed, h]

/-- Without a partner to mirror to, no delta record is sent. -/
theorem delta_alone (s : State) (kind obj : Nat) (body : Bytes) (acct : Nat) (h : mirrors s = false) :
    delta s kind obj body acct = s := by simp [delta, h]

/-- A write to BAR0 acts on the block alone where nothing shuts it out and nothing is mirrored. -/
theorem barWrite_plain (who : Initiator) (off len value : Nat) (s : State) (f : State → State) (h1 : standby s = false)
    (h2 : mirrors s = false) (h3 : s.rd BOOT_STATUS.phase ≠ 4) : barWrite who off len value s f = f s := by
  cases who with
  | host fn =>
    simp only [barWrite, recoveryShut, h3, decide_false, Bool.false_and, h1, Bool.false_eq_true, if_false]
    simp [deltaConfig, delta_alone, h2]
  | steward k => rfl
  | relay t => rfl

/-- A writable field's write acts on the block alone. -/
theorem setupWrite_writable (d : Desc) (i value : Nat) (who : Initiator) (s : State) (f : State → State)
    (h : Sys2Proof.writable who d i s = true) : setupWrite d i value who s f = f s := by
  simp only [Sys2Proof.writable, Bool.and_eq_true, Bool.not_eq_true', decide_eq_true_eq] at h
  obtain ⟨⟨⟨h0, h1⟩, h2⟩, h3⟩ := h
  simp only [setupWrite, h0, if_true]
  exact barWrite_plain who _ _ _ s f h1 h2 h3

/-- A vector request changes its counter, a Pending bit or the link, and nothing else. -/
theorem requestVector_cases (s : State) (f v : Nat) :
    requestVector s f v = s.count IRQ_MSIX_BAD.count ∨
    requestVector s f v = (updMsix s f v fun e => { e with pending := true }) ∨
    requestVector s f v = s ∨ requestVector s f v = sendMessage s f v := by
  unfold requestVector
  repeat' split
  all_goals simp

/-- A source that is raised is asserted, and a source that newly meets the conditions of the host requests its vector. -/
theorem raise_cases (s : State) (n : Nat) :
    raise s n = s.wr IRQ_SRC.asserted 1 n ∨
    raise s n = requestVector (s.wr IRQ_SRC.asserted 1 n) 0 ((s.wr IRQ_SRC.asserted 1 n).rd IRQ_SRC.vector n) := by
  simp only [raise, hostSources, List.foldl_cons, List.foldl_nil]
  split
  · exact .inr rfl
  · exact .inl rfl

/-- A source that is not routed to the host only becomes asserted. -/
theorem raise_local (s : State) (n : Nat) (h : s.rd IRQ_SRC.dest n ≠ 4) : raise s n = s.wr IRQ_SRC.asserted 1 n := by
  have k : IRQ_SRC.dest.key n 0 ≠ IRQ_SRC.asserted.key n 0 := by simp [Desc.key, IRQ_SRC.dest, IRQ_SRC.asserted]
  simp [raise, hostSources, hostSourceMeets, State.rd_wr_other s IRQ_SRC.asserted IRQ_SRC.dest 1 n 0 n 0 k, h]

/-- With metering off, no activity is counted. -/
theorem activity_off (s : State) (d k e n acct : Nat) (h : s.nrg.metering = false) : activity s d k e n acct = s := by
  simp [activity, h]

/-- With the performance counters off, none counts. -/
theorem pmc_off (s : State) (event inst amount : Nat) (acct : Option Nat) (h : enabled s .pmc = false) :
    pmc s event inst amount acct = s := by simp [pmc, h]

/-- With no line of bad code, a store changes memory alone. -/
theorem memStore_clean (s : State) (a : Nat) (bs : Bytes) (h : s.poison = []) :
    memStore s a bs = { s with mem := storeBytes s.mem a bs } := by
  unfold memStore
  rw [h]
  simp only [List.filter_nil, List.foldl_nil]

/-- A function that may issue writes its host memory and puts the write on its link. -/
theorem hostWrite_live (s : State) (f addr : Nat) (bs : Bytes) (h : fnLive s f = true) :
    hostWrite s f addr bs =
      putLink { s with hostMem := storeBytes s.hostMem (hostKey f addr) bs } (.write f addr bs) := by simp [hostWrite, h]

/-- A function that may not issue writes nothing. -/
theorem hostWrite_dead (s : State) (f addr : Nat) (bs : Bytes) (h : fnLive s f = false) : hostWrite s f addr bs = s := by
  simp [hostWrite, h]

/-- A publication takes place at once where none waits. -/
theorem publish_free (s : State) (x : PubItem) (h : pubWaits s = false) : publish s x = doPublish s x := by
  simp [publish, publishAt, h]

/-- A fold over bytes that forces its value is the plain fold. -/
theorem crcFold_eq (f : Nat → Byte → Nat) (bs : Bytes) (reg : Nat) : crcFold f bs reg = bs.foldl f reg := by
  induction bs generalizing reg with
  | nil => cases reg <;> rfl
  | cons b bs ih => cases reg <;> simp [crcFold, ih]

end Sys2Proof.Machine
end

