-- ==== Sys2Proof/Laws/Engines.lean ====
section
/-! SUPPORT. What the operations shared by several engines do where their condition does not hold, and what they come to where
it does: the laws that a proof cites in place of unfolding them. -/
namespace Sys2Proof.Machine

/-! ### The abacus and its collector -/

/-- A collector with nothing waiting leaves the state as it is. -/
theorem abcDrain_idle (s : State) (h : s.abc.waiting = []) : abcDrain s = s := by simp [abcDrain, h, abcServes]

/-- A law that is not enabled is not checked. -/
theorem abcCheck_disabled (law inst x y : Nat) (s : State) (h : (s.rd DEV_ABC_CTL.law_en).testBit law = false) :
    abcCheck law inst x y s = s := by simp [abcCheck, h]

/-- An instance found out of balance before is not logged again. -/
theorem abcCheck_open (law inst x y : Nat) (s : State) (hne : x ≠ y) (h : s.abc.open_.contains (law, inst) = true) :
    abcCheck law inst x y s = s := by
  simp only [abcCheck, if_neg hne, h, if_true, ite_self]

/-! ### Energy and track time -/

/-- With no boundary owed a commit that nothing awaits changes nothing. -/
theorem commitPending_none (s : State) (h : s.nrg.closed = none) : commitPending s = s := by simp [commitPending, h]

/-- Work for a domain that is on needs no wake. -/
theorem needDomain_on (s : State) (d : Nat) (h : domainState s d = .on) : needDomain s d = s := by
  simp [needDomain, wakeDomain, h]

/-- With the NRG block stopped no ledger record is written (R970). -/
theorem ledgerRetry_off (s : State) (h : enabled s .nrg = false) : ledgerRetry s = s := by simp [ledgerRetry, h]

/-- Where no application comes first, a block's event finds the state as it is (R69). -/
theorem applyFirst_none (b : Blk) (t : Nat) (s : State) (h : applicationFirst s b t = false) : applyFirst b t s = s := by
  simp [applyFirst, h]

/-- With no boundary, refill, timer, gate list or wait reached, nothing fires before an event. -/
theorem dueBefore_none (s : State) (t : Nat) (h : dueEvents s = []) : dueBefore s t = false := by simp [dueBefore, h]

/-! ### Round robin -/

/-- With nothing served yet the lowest number is next. -/
theorem nextInTurn_first (xs : List Nat) : nextInTurn none xs = lowestOf xs := rfl

/-! ### Records -/

/-- A ring that is not stalled, or that still has no place, stays as it is (R216). -/
theorem endStall_stays (s : State) (r : Nat) (h : s.on CQ_CTX.stalled r = false ∨ placeCause s r ≠ 0) : endStall s r = s := by
  rcases h with h | h <;> simp [endStall, h]

/-! ### Relay agents -/

/-- An agent whose turn it is not issues nothing (R670, R671). -/
theorem issue_waits (a : Nat) (regs : List Nat) (f : State → State) (s : State) (h : mayIssue s a = false) :
    issue a regs f s = s := by simp [issue, h]

/-- An agent that may issue, waits for no load and whose fetch is good has the effect of its instruction (R709, R721). -/
theorem issue_runs (a : Nat) (regs : List Nat) (f : State → State) (s : State) (h : mayIssue s a = true)
    (hl : waitsForLoad s a regs = false) (hf : fetchFault s a = none) : issue a regs f s = f (countIssue s a) := by
  simp [issue, h, hl, hf]

/-- A fetch that faults takes its exception at the agent's pc (R709). -/
theorem issue_faults (a c : Nat) (regs : List Nat) (f : State → State) (s : State) (h : mayIssue s a = true)
    (hl : waitsForLoad s a regs = false) (hf : fetchFault s a = some c) :
    issue a regs f s = exception s a c (agentPc s a) := by
  simp [issue, h, hl, hf]

/-! ### Memory with structures -/

/-- Where no structure stands, a core's or channel's store is a store in plain memory. -/
theorem areaStore_plain (s : State) (a : Nat) (bs : Bytes) (h : placed s a bs.length = false) :
    areaStore s a bs = memStore s a bs := by simp [areaStore, h]

/-! ### Transport contexts -/

/-- A change of a context on chip is that change alone. -/
theorem withCtx_chip (s : State) (n x : Nat) (f : State → State) (h : (chipCtx s n).isSome = true) : withCtx s n x f = f s := by
  simp [withCtx, h]

end Sys2Proof.Machine
end

