-- ==== Sys2Proof/Laws/Exec.lean ====
section
/-! SUPPORT. No command of the table stops the block. -/
namespace Sys2Proof.Machine

/-- Every command of the table, in every state, answers a next state. -/
theorem exec_next (c : Instr) (s : State) : ∃ t, exec c s = .next t := by
  cases c <;> exact ⟨_, rfl⟩

end Sys2Proof.Machine
end

