-- ==== Sys2Proof/Laws/Memory.lean ====
section
/-! SUPPORT. Memory: single bytes after a store, and that every memory operation keeps the canonical form. -/
namespace Sys2Proof.Machine

/-- The empty memory of a reset is canonical. -/
theorem reset_memory_wf : Memory.wf State.reset.mem = true := rfl

/-- A store of bytes leaves every address before them. -/
theorem get_storeBytes_before (m : Map Byte) (a : Nat) (bs : Bytes) (x : Nat) (h : x < a) :
    Map.get (storeBytes m a bs) x = Map.get m x := by
  induction bs generalizing m a with
  | nil => rfl
  | cons b bs ih =>
    rw [storeBytes, ih _ _ (by omega)]
    exact Map.get_set_other m b (by omega)

/-- A store of bytes leaves every address after them. -/
theorem get_storeBytes_after (m : Map Byte) (a : Nat) (bs : Bytes) (x : Nat) (h : a + bs.length ≤ x) :
    Map.get (storeBytes m a bs) x = Map.get m x := by
  induction bs generalizing m a with
  | nil => rfl
  | cons b bs ih =>
    simp only [List.length_cons] at h
    rw [storeBytes, ih _ _ (by omega)]
    exact Map.get_set_other m b (by omega)

/-- A store of bytes keeps the canonical form. -/
theorem storeBytes_wf (m : Map Byte) (a : Nat) (bs : Bytes) (h : Map.wf m default = true) :
    Map.wf (storeBytes m a bs) default = true := by
  induction bs generalizing m a with
  | nil => exact h
  | cons b bs ih => exact ih _ _ (Map.set_wf m a b h)

/-- What a store in internal memory leaves there. -/
theorem memStore_mem (s : State) (a : Nat) (bs : Bytes) : (memStore s a bs).mem = storeBytes s.mem a bs := by
  unfold memStore
  exact foldl_frame State.mem _ (fun t _ => detFailed_mem t) _ _

/-- A store in internal memory keeps its canonical form. -/
theorem memStore_wf (s : State) (a : Nat) (bs : Bytes) (h : Memory.wf s.mem = true) : Memory.wf (memStore s a bs).mem = true := by
  rw [memStore_mem]
  exact storeBytes_wf s.mem a bs h

/-- A write to host memory keeps its canonical form. -/
theorem hostWrite_wf (s : State) (f addr : Nat) (bs : Bytes) (h : Memory.wf s.hostMem = true) :
    Memory.wf (hostWrite s f addr bs).hostMem = true := by
  unfold hostWrite
  split
  · exact storeBytes_wf s.hostMem _ bs h
  · exact h

/-- Initialising a range keeps the canonical form. -/
theorem clearRange_wf (s : State) (lo hi : Nat) (h : Memory.wf s.mem = true) : Memory.wf (clearRange s lo hi).mem = true :=
  Map.filter_wf s.mem 0 _ h

/-- A device reset leaves a canonical memory. -/
theorem resetBase_wf (s : State) : Memory.wf (resetBase s).mem = true := rfl

end Sys2Proof.Machine
end

