-- ==== Sys2Proof/Laws/Updates.lean ====
section
/-! SUPPORT. What the updates of the typed parts of the state leave as it was, field by field. -/
namespace Sys2Proof.Machine

/-! ### updQueue -/

@[simp] theorem updQueue_pending (s : State) (q : Nat) (f : QueueInt → QueueInt) : (updQueue s q f).pending = s.pending := rfl
@[simp] theorem updQueue_regs (s : State) (q : Nat) (f : QueueInt → QueueInt) : (updQueue s q f).regs = s.regs := rfl
@[simp] theorem updQueue_staged (s : State) (q : Nat) (f : QueueInt → QueueInt) : (updQueue s q f).staged = s.staged := rfl
@[simp] theorem updQueue_applyReq (s : State) (q : Nat) (f : QueueInt → QueueInt) : (updQueue s q f).applyReq = s.applyReq := rfl
@[simp] theorem updQueue_armDue (s : State) (q : Nat) (f : QueueInt → QueueInt) : (updQueue s q f).armDue = s.armDue := rfl
@[simp] theorem updQueue_rdata (s : State) (q : Nat) (f : QueueInt → QueueInt) : (updQueue s q f).rdata = s.rdata := rfl
@[simp] theorem updQueue_tt (s : State) (q : Nat) (f : QueueInt → QueueInt) : (updQueue s q f).tt = s.tt := rfl
@[simp] theorem updQueue_nrg (s : State) (q : Nat) (f : QueueInt → QueueInt) : (updQueue s q f).nrg = s.nrg := rfl
@[simp] theorem updQueue_claims (s : State) (q : Nat) (f : QueueInt → QueueInt) : (updQueue s q f).claims = s.claims := rfl
@[simp] theorem updQueue_pmcWraps (s : State) (q : Nat) (f : QueueInt → QueueInt) : (updQueue s q f).pmcWraps = s.pmcWraps := rfl
@[simp] theorem updQueue_lastQueue (s : State) (q : Nat) (f : QueueInt → QueueInt) : (updQueue s q f).lastQueue = s.lastQueue := rfl
@[simp] theorem updQueue_pushHeld (s : State) (q : Nat) (f : QueueInt → QueueInt) : (updQueue s q f).pushHeld = s.pushHeld := rfl
@[simp] theorem updQueue_qcmdStop (s : State) (q : Nat) (f : QueueInt → QueueInt) : (updQueue s q f).qcmdStop = s.qcmdStop := rfl
@[simp] theorem updQueue_rings (s : State) (q : Nat) (f : QueueInt → QueueInt) : (updQueue s q f).rings = s.rings := rfl
@[simp] theorem updQueue_acceptNo (s : State) (q : Nat) (f : QueueInt → QueueInt) : (updQueue s q f).acceptNo = s.acceptNo := rfl
@[simp] theorem updQueue_abortReqs (s : State) (q : Nat) (f : QueueInt → QueueInt) : (updQueue s q f).abortReqs = s.abortReqs := rfl
@[simp] theorem updQueue_pubs (s : State) (q : Nat) (f : QueueInt → QueueInt) : (updQueue s q f).pubs = s.pubs := rfl
@[simp] theorem updQueue_deltas (s : State) (q : Nat) (f : QueueInt → QueueInt) : (updQueue s q f).deltas = s.deltas := rfl
@[simp] theorem updQueue_pseq (s : State) (q : Nat) (f : QueueInt → QueueInt) : (updQueue s q f).pseq = s.pseq := rfl
@[simp] theorem updQueue_flushes (s : State) (q : Nat) (f : QueueInt → QueueInt) : (updQueue s q f).flushes = s.flushes := rfl
@[simp] theorem updQueue_hif (s : State) (q : Nat) (f : QueueInt → QueueInt) : (updQueue s q f).hif = s.hif := rfl
@[simp] theorem updQueue_links (s : State) (q : Nat) (f : QueueInt → QueueInt) : (updQueue s q f).links = s.links := rfl
@[simp] theorem updQueue_hostMem (s : State) (q : Nat) (f : QueueInt → QueueInt) : (updQueue s q f).hostMem = s.hostMem := rfl
@[simp] theorem updQueue_mem (s : State) (q : Nat) (f : QueueInt → QueueInt) : (updQueue s q f).mem = s.mem := rfl
@[simp] theorem updQueue_poison (s : State) (q : Nat) (f : QueueInt → QueueInt) : (updQueue s q f).poison = s.poison := rfl
@[simp] theorem updQueue_fresh (s : State) (q : Nat) (f : QueueInt → QueueInt) : (updQueue s q f).fresh = s.fresh := rfl
@[simp] theorem updQueue_abc (s : State) (q : Nat) (f : QueueInt → QueueInt) : (updQueue s q f).abc = s.abc := rfl
@[simp] theorem updQueue_areas (s : State) (q : Nat) (f : QueueInt → QueueInt) : (updQueue s q f).areas = s.areas := rfl
@[simp] theorem updQueue_pins (s : State) (q : Nat) (f : QueueInt → QueueInt) : (updQueue s q f).pins = s.pins := rfl
@[simp] theorem updQueue_pp (s : State) (q : Nat) (f : QueueInt → QueueInt) : (updQueue s q f).pp = s.pp := rfl
@[simp] theorem updQueue_rly (s : State) (q : Nat) (f : QueueInt → QueueInt) : (updQueue s q f).rly = s.rly := rfl
@[simp] theorem updQueue_ft (s : State) (q : Nat) (f : QueueInt → QueueInt) : (updQueue s q f).ft = s.ft := rfl
@[simp] theorem updQueue_tm (s : State) (q : Nat) (f : QueueInt → QueueInt) : (updQueue s q f).tm = s.tm := rfl
@[simp] theorem updQueue_cip (s : State) (q : Nat) (f : QueueInt → QueueInt) : (updQueue s q f).cip = s.cip := rfl
@[simp] theorem updQueue_blk (s : State) (q : Nat) (f : QueueInt → QueueInt) : (updQueue s q f).blk = s.blk := rfl
@[simp] theorem updQueue_dma (s : State) (q : Nat) (f : QueueInt → QueueInt) : (updQueue s q f).dma = s.dma := rfl
@[simp] theorem updQueue_trn (s : State) (q : Nat) (f : QueueInt → QueueInt) : (updQueue s q f).trn = s.trn := rfl
@[simp] theorem updQueue_pair (s : State) (q : Nat) (f : QueueInt → QueueInt) : (updQueue s q f).pair = s.pair := rfl
@[simp] theorem updQueue_boot (s : State) (q : Nat) (f : QueueInt → QueueInt) : (updQueue s q f).boot = s.boot := rfl
@[simp] theorem updQueue_start (s : State) (q : Nat) (f : QueueInt → QueueInt) : (updQueue s q f).start = s.start := rfl
@[simp] theorem updQueue_mnt (s : State) (q : Nat) (f : QueueInt → QueueInt) : (updQueue s q f).mnt = s.mnt := rfl

/-! ### updRing -/

@[simp] theorem updRing_pending (s : State) (r : Nat) (f : RingInt → RingInt) : (updRing s r f).pending = s.pending := rfl
@[simp] theorem updRing_regs (s : State) (r : Nat) (f : RingInt → RingInt) : (updRing s r f).regs = s.regs := rfl
@[simp] theorem updRing_staged (s : State) (r : Nat) (f : RingInt → RingInt) : (updRing s r f).staged = s.staged := rfl
@[simp] theorem updRing_applyReq (s : State) (r : Nat) (f : RingInt → RingInt) : (updRing s r f).applyReq = s.applyReq := rfl
@[simp] theorem updRing_armDue (s : State) (r : Nat) (f : RingInt → RingInt) : (updRing s r f).armDue = s.armDue := rfl
@[simp] theorem updRing_rdata (s : State) (r : Nat) (f : RingInt → RingInt) : (updRing s r f).rdata = s.rdata := rfl
@[simp] theorem updRing_tt (s : State) (r : Nat) (f : RingInt → RingInt) : (updRing s r f).tt = s.tt := rfl
@[simp] theorem updRing_nrg (s : State) (r : Nat) (f : RingInt → RingInt) : (updRing s r f).nrg = s.nrg := rfl
@[simp] theorem updRing_claims (s : State) (r : Nat) (f : RingInt → RingInt) : (updRing s r f).claims = s.claims := rfl
@[simp] theorem updRing_pmcWraps (s : State) (r : Nat) (f : RingInt → RingInt) : (updRing s r f).pmcWraps = s.pmcWraps := rfl
@[simp] theorem updRing_queues (s : State) (r : Nat) (f : RingInt → RingInt) : (updRing s r f).queues = s.queues := rfl
@[simp] theorem updRing_lastQueue (s : State) (r : Nat) (f : RingInt → RingInt) : (updRing s r f).lastQueue = s.lastQueue := rfl
@[simp] theorem updRing_pushHeld (s : State) (r : Nat) (f : RingInt → RingInt) : (updRing s r f).pushHeld = s.pushHeld := rfl
@[simp] theorem updRing_qcmdStop (s : State) (r : Nat) (f : RingInt → RingInt) : (updRing s r f).qcmdStop = s.qcmdStop := rfl
@[simp] theorem updRing_acceptNo (s : State) (r : Nat) (f : RingInt → RingInt) : (updRing s r f).acceptNo = s.acceptNo := rfl
@[simp] theorem updRing_abortReqs (s : State) (r : Nat) (f : RingInt → RingInt) : (updRing s r f).abortReqs = s.abortReqs := rfl
@[simp] theorem updRing_pubs (s : State) (r : Nat) (f : RingInt → RingInt) : (updRing s r f).pubs = s.pubs := rfl
@[simp] theorem updRing_deltas (s : State) (r : Nat) (f : RingInt → RingInt) : (updRing s r f).deltas = s.deltas := rfl
@[simp] theorem updRing_pseq (s : State) (r : Nat) (f : RingInt → RingInt) : (updRing s r f).pseq = s.pseq := rfl
@[simp] theorem updRing_flushes (s : State) (r : Nat) (f : RingInt → RingInt) : (updRing s r f).flushes = s.flushes := rfl
@[simp] theorem updRing_hif (s : State) (r : Nat) (f : RingInt → RingInt) : (updRing s r f).hif = s.hif := rfl
@[simp] theorem updRing_links (s : State) (r : Nat) (f : RingInt → RingInt) : (updRing s r f).links = s.links := rfl
@[simp] theorem updRing_hostMem (s : State) (r : Nat) (f : RingInt → RingInt) : (updRing s r f).hostMem = s.hostMem := rfl
@[simp] theorem updRing_mem (s : State) (r : Nat) (f : RingInt → RingInt) : (updRing s r f).mem = s.mem := rfl
@[simp] theorem updRing_poison (s : State) (r : Nat) (f : RingInt → RingInt) : (updRing s r f).poison = s.poison := rfl
@[simp] theorem updRing_fresh (s : State) (r : Nat) (f : RingInt → RingInt) : (updRing s r f).fresh = s.fresh := rfl
@[simp] theorem updRing_abc (s : State) (r : Nat) (f : RingInt → RingInt) : (updRing s r f).abc = s.abc := rfl
@[simp] theorem updRing_areas (s : State) (r : Nat) (f : RingInt → RingInt) : (updRing s r f).areas = s.areas := rfl
@[simp] theorem updRing_pins (s : State) (r : Nat) (f : RingInt → RingInt) : (updRing s r f).pins = s.pins := rfl
@[simp] theorem updRing_pp (s : State) (r : Nat) (f : RingInt → RingInt) : (updRing s r f).pp = s.pp := rfl
@[simp] theorem updRing_rly (s : State) (r : Nat) (f : RingInt → RingInt) : (updRing s r f).rly = s.rly := rfl
@[simp] theorem updRing_ft (s : State) (r : Nat) (f : RingInt → RingInt) : (updRing s r f).ft = s.ft := rfl
@[simp] theorem updRing_tm (s : State) (r : Nat) (f : RingInt → RingInt) : (updRing s r f).tm = s.tm := rfl
@[simp] theorem updRing_cip (s : State) (r : Nat) (f : RingInt → RingInt) : (updRing s r f).cip = s.cip := rfl
@[simp] theorem updRing_blk (s : State) (r : Nat) (f : RingInt → RingInt) : (updRing s r f).blk = s.blk := rfl
@[simp] theorem updRing_dma (s : State) (r : Nat) (f : RingInt → RingInt) : (updRing s r f).dma = s.dma := rfl
@[simp] theorem updRing_trn (s : State) (r : Nat) (f : RingInt → RingInt) : (updRing s r f).trn = s.trn := rfl
@[simp] theorem updRing_pair (s : State) (r : Nat) (f : RingInt → RingInt) : (updRing s r f).pair = s.pair := rfl
@[simp] theorem updRing_boot (s : State) (r : Nat) (f : RingInt → RingInt) : (updRing s r f).boot = s.boot := rfl
@[simp] theorem updRing_start (s : State) (r : Nat) (f : RingInt → RingInt) : (updRing s r f).start = s.start := rfl
@[simp] theorem updRing_mnt (s : State) (r : Nat) (f : RingInt → RingInt) : (updRing s r f).mnt = s.mnt := rfl

/-! ### updConn -/

@[simp] theorem updConn_pending (s : State) (n : Nat) (f : TrnConn → TrnConn) : (updConn s n f).pending = s.pending := rfl
@[simp] theorem updConn_regs (s : State) (n : Nat) (f : TrnConn → TrnConn) : (updConn s n f).regs = s.regs := rfl
@[simp] theorem updConn_staged (s : State) (n : Nat) (f : TrnConn → TrnConn) : (updConn s n f).staged = s.staged := rfl
@[simp] theorem updConn_applyReq (s : State) (n : Nat) (f : TrnConn → TrnConn) : (updConn s n f).applyReq = s.applyReq := rfl
@[simp] theorem updConn_armDue (s : State) (n : Nat) (f : TrnConn → TrnConn) : (updConn s n f).armDue = s.armDue := rfl
@[simp] theorem updConn_rdata (s : State) (n : Nat) (f : TrnConn → TrnConn) : (updConn s n f).rdata = s.rdata := rfl
@[simp] theorem updConn_tt (s : State) (n : Nat) (f : TrnConn → TrnConn) : (updConn s n f).tt = s.tt := rfl
@[simp] theorem updConn_nrg (s : State) (n : Nat) (f : TrnConn → TrnConn) : (updConn s n f).nrg = s.nrg := rfl
@[simp] theorem updConn_claims (s : State) (n : Nat) (f : TrnConn → TrnConn) : (updConn s n f).claims = s.claims := rfl
@[simp] theorem updConn_pmcWraps (s : State) (n : Nat) (f : TrnConn → TrnConn) : (updConn s n f).pmcWraps = s.pmcWraps := rfl
@[simp] theorem updConn_queues (s : State) (n : Nat) (f : TrnConn → TrnConn) : (updConn s n f).queues = s.queues := rfl
@[simp] theorem updConn_lastQueue (s : State) (n : Nat) (f : TrnConn → TrnConn) : (updConn s n f).lastQueue = s.lastQueue := rfl
@[simp] theorem updConn_pushHeld (s : State) (n : Nat) (f : TrnConn → TrnConn) : (updConn s n f).pushHeld = s.pushHeld := rfl
@[simp] theorem updConn_qcmdStop (s : State) (n : Nat) (f : TrnConn → TrnConn) : (updConn s n f).qcmdStop = s.qcmdStop := rfl
@[simp] theorem updConn_rings (s : State) (n : Nat) (f : TrnConn → TrnConn) : (updConn s n f).rings = s.rings := rfl
@[simp] theorem updConn_acceptNo (s : State) (n : Nat) (f : TrnConn → TrnConn) : (updConn s n f).acceptNo = s.acceptNo := rfl
@[simp] theorem updConn_abortReqs (s : State) (n : Nat) (f : TrnConn → TrnConn) : (updConn s n f).abortReqs = s.abortReqs := rfl
@[simp] theorem updConn_pubs (s : State) (n : Nat) (f : TrnConn → TrnConn) : (updConn s n f).pubs = s.pubs := rfl
@[simp] theorem updConn_deltas (s : State) (n : Nat) (f : TrnConn → TrnConn) : (updConn s n f).deltas = s.deltas := rfl
@[simp] theorem updConn_pseq (s : State) (n : Nat) (f : TrnConn → TrnConn) : (updConn s n f).pseq = s.pseq := rfl
@[simp] theorem updConn_flushes (s : State) (n : Nat) (f : TrnConn → TrnConn) : (updConn s n f).flushes = s.flushes := rfl
@[simp] theorem updConn_hif (s : State) (n : Nat) (f : TrnConn → TrnConn) : (updConn s n f).hif = s.hif := rfl
@[simp] theorem updConn_links (s : State) (n : Nat) (f : TrnConn → TrnConn) : (updConn s n f).links = s.links := rfl
@[simp] theorem updConn_hostMem (s : State) (n : Nat) (f : TrnConn → TrnConn) : (updConn s n f).hostMem = s.hostMem := rfl
@[simp] theorem updConn_mem (s : State) (n : Nat) (f : TrnConn → TrnConn) : (updConn s n f).mem = s.mem := rfl
@[simp] theorem updConn_poison (s : State) (n : Nat) (f : TrnConn → TrnConn) : (updConn s n f).poison = s.poison := rfl
@[simp] theorem updConn_fresh (s : State) (n : Nat) (f : TrnConn → TrnConn) : (updConn s n f).fresh = s.fresh := rfl
@[simp] theorem updConn_abc (s : State) (n : Nat) (f : TrnConn → TrnConn) : (updConn s n f).abc = s.abc := rfl
@[simp] theorem updConn_areas (s : State) (n : Nat) (f : TrnConn → TrnConn) : (updConn s n f).areas = s.areas := rfl
@[simp] theorem updConn_pins (s : State) (n : Nat) (f : TrnConn → TrnConn) : (updConn s n f).pins = s.pins := rfl
@[simp] theorem updConn_pp (s : State) (n : Nat) (f : TrnConn → TrnConn) : (updConn s n f).pp = s.pp := rfl
@[simp] theorem updConn_rly (s : State) (n : Nat) (f : TrnConn → TrnConn) : (updConn s n f).rly = s.rly := rfl
@[simp] theorem updConn_ft (s : State) (n : Nat) (f : TrnConn → TrnConn) : (updConn s n f).ft = s.ft := rfl
@[simp] theorem updConn_tm (s : State) (n : Nat) (f : TrnConn → TrnConn) : (updConn s n f).tm = s.tm := rfl
@[simp] theorem updConn_cip (s : State) (n : Nat) (f : TrnConn → TrnConn) : (updConn s n f).cip = s.cip := rfl
@[simp] theorem updConn_blk (s : State) (n : Nat) (f : TrnConn → TrnConn) : (updConn s n f).blk = s.blk := rfl
@[simp] theorem updConn_dma (s : State) (n : Nat) (f : TrnConn → TrnConn) : (updConn s n f).dma = s.dma := rfl
@[simp] theorem updConn_pair (s : State) (n : Nat) (f : TrnConn → TrnConn) : (updConn s n f).pair = s.pair := rfl
@[simp] theorem updConn_boot (s : State) (n : Nat) (f : TrnConn → TrnConn) : (updConn s n f).boot = s.boot := rfl
@[simp] theorem updConn_start (s : State) (n : Nat) (f : TrnConn → TrnConn) : (updConn s n f).start = s.start := rfl
@[simp] theorem updConn_mnt (s : State) (n : Nat) (f : TrnConn → TrnConn) : (updConn s n f).mnt = s.mnt := rfl

/-! ### updAgent -/

@[simp] theorem updAgent_pending (s : State) (a : Nat) (f : AgentInt → AgentInt) : (updAgent s a f).pending = s.pending := rfl
@[simp] theorem updAgent_regs (s : State) (a : Nat) (f : AgentInt → AgentInt) : (updAgent s a f).regs = s.regs := rfl
@[simp] theorem updAgent_staged (s : State) (a : Nat) (f : AgentInt → AgentInt) : (updAgent s a f).staged = s.staged := rfl
@[simp] theorem updAgent_applyReq (s : State) (a : Nat) (f : AgentInt → AgentInt) : (updAgent s a f).applyReq = s.applyReq := rfl
@[simp] theorem updAgent_armDue (s : State) (a : Nat) (f : AgentInt → AgentInt) : (updAgent s a f).armDue = s.armDue := rfl
@[simp] theorem updAgent_rdata (s : State) (a : Nat) (f : AgentInt → AgentInt) : (updAgent s a f).rdata = s.rdata := rfl
@[simp] theorem updAgent_tt (s : State) (a : Nat) (f : AgentInt → AgentInt) : (updAgent s a f).tt = s.tt := rfl
@[simp] theorem updAgent_nrg (s : State) (a : Nat) (f : AgentInt → AgentInt) : (updAgent s a f).nrg = s.nrg := rfl
@[simp] theorem updAgent_claims (s : State) (a : Nat) (f : AgentInt → AgentInt) : (updAgent s a f).claims = s.claims := rfl
@[simp] theorem updAgent_pmcWraps (s : State) (a : Nat) (f : AgentInt → AgentInt) : (updAgent s a f).pmcWraps = s.pmcWraps := rfl
@[simp] theorem updAgent_queues (s : State) (a : Nat) (f : AgentInt → AgentInt) : (updAgent s a f).queues = s.queues := rfl
@[simp] theorem updAgent_lastQueue (s : State) (a : Nat) (f : AgentInt → AgentInt) : (updAgent s a f).lastQueue = s.lastQueue := rfl
@[simp] theorem updAgent_pushHeld (s : State) (a : Nat) (f : AgentInt → AgentInt) : (updAgent s a f).pushHeld = s.pushHeld := rfl
@[simp] theorem updAgent_qcmdStop (s : State) (a : Nat) (f : AgentInt → AgentInt) : (updAgent s a f).qcmdStop = s.qcmdStop := rfl
@[simp] theorem updAgent_rings (s : State) (a : Nat) (f : AgentInt → AgentInt) : (updAgent s a f).rings = s.rings := rfl
@[simp] theorem updAgent_acceptNo (s : State) (a : Nat) (f : AgentInt → AgentInt) : (updAgent s a f).acceptNo = s.acceptNo := rfl
@[simp] theorem updAgent_abortReqs (s : State) (a : Nat) (f : AgentInt → AgentInt) : (updAgent s a f).abortReqs = s.abortReqs := rfl
@[simp] theorem updAgent_pubs (s : State) (a : Nat) (f : AgentInt → AgentInt) : (updAgent s a f).pubs = s.pubs := rfl
@[simp] theorem updAgent_deltas (s : State) (a : Nat) (f : AgentInt → AgentInt) : (updAgent s a f).deltas = s.deltas := rfl
@[simp] theorem updAgent_pseq (s : State) (a : Nat) (f : AgentInt → AgentInt) : (updAgent s a f).pseq = s.pseq := rfl
@[simp] theorem updAgent_flushes (s : State) (a : Nat) (f : AgentInt → AgentInt) : (updAgent s a f).flushes = s.flushes := rfl
@[simp] theorem updAgent_hif (s : State) (a : Nat) (f : AgentInt → AgentInt) : (updAgent s a f).hif = s.hif := rfl
@[simp] theorem updAgent_links (s : State) (a : Nat) (f : AgentInt → AgentInt) : (updAgent s a f).links = s.links := rfl
@[simp] theorem updAgent_hostMem (s : State) (a : Nat) (f : AgentInt → AgentInt) : (updAgent s a f).hostMem = s.hostMem := rfl
@[simp] theorem updAgent_mem (s : State) (a : Nat) (f : AgentInt → AgentInt) : (updAgent s a f).mem = s.mem := rfl
@[simp] theorem updAgent_poison (s : State) (a : Nat) (f : AgentInt → AgentInt) : (updAgent s a f).poison = s.poison := rfl
@[simp] theorem updAgent_fresh (s : State) (a : Nat) (f : AgentInt → AgentInt) : (updAgent s a f).fresh = s.fresh := rfl
@[simp] theorem updAgent_abc (s : State) (a : Nat) (f : AgentInt → AgentInt) : (updAgent s a f).abc = s.abc := rfl
@[simp] theorem updAgent_areas (s : State) (a : Nat) (f : AgentInt → AgentInt) : (updAgent s a f).areas = s.areas := rfl
@[simp] theorem updAgent_pins (s : State) (a : Nat) (f : AgentInt → AgentInt) : (updAgent s a f).pins = s.pins := rfl
@[simp] theorem updAgent_pp (s : State) (a : Nat) (f : AgentInt → AgentInt) : (updAgent s a f).pp = s.pp := rfl
@[simp] theorem updAgent_ft (s : State) (a : Nat) (f : AgentInt → AgentInt) : (updAgent s a f).ft = s.ft := rfl
@[simp] theorem updAgent_tm (s : State) (a : Nat) (f : AgentInt → AgentInt) : (updAgent s a f).tm = s.tm := rfl
@[simp] theorem updAgent_cip (s : State) (a : Nat) (f : AgentInt → AgentInt) : (updAgent s a f).cip = s.cip := rfl
@[simp] theorem updAgent_blk (s : State) (a : Nat) (f : AgentInt → AgentInt) : (updAgent s a f).blk = s.blk := rfl
@[simp] theorem updAgent_dma (s : State) (a : Nat) (f : AgentInt → AgentInt) : (updAgent s a f).dma = s.dma := rfl
@[simp] theorem updAgent_trn (s : State) (a : Nat) (f : AgentInt → AgentInt) : (updAgent s a f).trn = s.trn := rfl
@[simp] theorem updAgent_pair (s : State) (a : Nat) (f : AgentInt → AgentInt) : (updAgent s a f).pair = s.pair := rfl
@[simp] theorem updAgent_boot (s : State) (a : Nat) (f : AgentInt → AgentInt) : (updAgent s a f).boot = s.boot := rfl
@[simp] theorem updAgent_start (s : State) (a : Nat) (f : AgentInt → AgentInt) : (updAgent s a f).start = s.start := rfl
@[simp] theorem updAgent_mnt (s : State) (a : Nat) (f : AgentInt → AgentInt) : (updAgent s a f).mnt = s.mnt := rfl

/-! ### updThread -/

@[simp] theorem updThread_pending (s : State) (t : Nat) (f : ThreadInt → ThreadInt) : (updThread s t f).pending = s.pending := rfl
@[simp] theorem updThread_regs (s : State) (t : Nat) (f : ThreadInt → ThreadInt) : (updThread s t f).regs = s.regs := rfl
@[simp] theorem updThread_staged (s : State) (t : Nat) (f : ThreadInt → ThreadInt) : (updThread s t f).staged = s.staged := rfl
@[simp] theorem updThread_applyReq (s : State) (t : Nat) (f : ThreadInt → ThreadInt) : (updThread s t f).applyReq = s.applyReq := rfl
@[simp] theorem updThread_armDue (s : State) (t : Nat) (f : ThreadInt → ThreadInt) : (updThread s t f).armDue = s.armDue := rfl
@[simp] theorem updThread_rdata (s : State) (t : Nat) (f : ThreadInt → ThreadInt) : (updThread s t f).rdata = s.rdata := rfl
@[simp] theorem updThread_tt (s : State) (t : Nat) (f : ThreadInt → ThreadInt) : (updThread s t f).tt = s.tt := rfl
@[simp] theorem updThread_nrg (s : State) (t : Nat) (f : ThreadInt → ThreadInt) : (updThread s t f).nrg = s.nrg := rfl
@[simp] theorem updThread_claims (s : State) (t : Nat) (f : ThreadInt → ThreadInt) : (updThread s t f).claims = s.claims := rfl
@[simp] theorem updThread_pmcWraps (s : State) (t : Nat) (f : ThreadInt → ThreadInt) : (updThread s t f).pmcWraps = s.pmcWraps := rfl
@[simp] theorem updThread_queues (s : State) (t : Nat) (f : ThreadInt → ThreadInt) : (updThread s t f).queues = s.queues := rfl
@[simp] theorem updThread_lastQueue (s : State) (t : Nat) (f : ThreadInt → ThreadInt) : (updThread s t f).lastQueue = s.lastQueue := rfl
@[simp] theorem updThread_pushHeld (s : State) (t : Nat) (f : ThreadInt → ThreadInt) : (updThread s t f).pushHeld = s.pushHeld := rfl
@[simp] theorem updThread_qcmdStop (s : State) (t : Nat) (f : ThreadInt → ThreadInt) : (updThread s t f).qcmdStop = s.qcmdStop := rfl
@[simp] theorem updThread_rings (s : State) (t : Nat) (f : ThreadInt → ThreadInt) : (updThread s t f).rings = s.rings := rfl
@[simp] theorem updThread_acceptNo (s : State) (t : Nat) (f : ThreadInt → ThreadInt) : (updThread s t f).acceptNo = s.acceptNo := rfl
@[simp] theorem updThread_abortReqs (s : State) (t : Nat) (f : ThreadInt → ThreadInt) : (updThread s t f).abortReqs = s.abortReqs := rfl
@[simp] theorem updThread_pubs (s : State) (t : Nat) (f : ThreadInt → ThreadInt) : (updThread s t f).pubs = s.pubs := rfl
@[simp] theorem updThread_deltas (s : State) (t : Nat) (f : ThreadInt → ThreadInt) : (updThread s t f).deltas = s.deltas := rfl
@[simp] theorem updThread_pseq (s : State) (t : Nat) (f : ThreadInt → ThreadInt) : (updThread s t f).pseq = s.pseq := rfl
@[simp] theorem updThread_flushes (s : State) (t : Nat) (f : ThreadInt → ThreadInt) : (updThread s t f).flushes = s.flushes := rfl
@[simp] theorem updThread_hif (s : State) (t : Nat) (f : ThreadInt → ThreadInt) : (updThread s t f).hif = s.hif := rfl
@[simp] theorem updThread_links (s : State) (t : Nat) (f : ThreadInt → ThreadInt) : (updThread s t f).links = s.links := rfl
@[simp] theorem updThread_hostMem (s : State) (t : Nat) (f : ThreadInt → ThreadInt) : (updThread s t f).hostMem = s.hostMem := rfl
@[simp] theorem updThread_mem (s : State) (t : Nat) (f : ThreadInt → ThreadInt) : (updThread s t f).mem = s.mem := rfl
@[simp] theorem updThread_poison (s : State) (t : Nat) (f : ThreadInt → ThreadInt) : (updThread s t f).poison = s.poison := rfl
@[simp] theorem updThread_fresh (s : State) (t : Nat) (f : ThreadInt → ThreadInt) : (updThread s t f).fresh = s.fresh := rfl
@[simp] theorem updThread_abc (s : State) (t : Nat) (f : ThreadInt → ThreadInt) : (updThread s t f).abc = s.abc := rfl
@[simp] theorem updThread_areas (s : State) (t : Nat) (f : ThreadInt → ThreadInt) : (updThread s t f).areas = s.areas := rfl
@[simp] theorem updThread_pins (s : State) (t : Nat) (f : ThreadInt → ThreadInt) : (updThread s t f).pins = s.pins := rfl
@[simp] theorem updThread_pp (s : State) (t : Nat) (f : ThreadInt → ThreadInt) : (updThread s t f).pp = s.pp := rfl
@[simp] theorem updThread_ft (s : State) (t : Nat) (f : ThreadInt → ThreadInt) : (updThread s t f).ft = s.ft := rfl
@[simp] theorem updThread_tm (s : State) (t : Nat) (f : ThreadInt → ThreadInt) : (updThread s t f).tm = s.tm := rfl
@[simp] theorem updThread_cip (s : State) (t : Nat) (f : ThreadInt → ThreadInt) : (updThread s t f).cip = s.cip := rfl
@[simp] theorem updThread_blk (s : State) (t : Nat) (f : ThreadInt → ThreadInt) : (updThread s t f).blk = s.blk := rfl
@[simp] theorem updThread_dma (s : State) (t : Nat) (f : ThreadInt → ThreadInt) : (updThread s t f).dma = s.dma := rfl
@[simp] theorem updThread_trn (s : State) (t : Nat) (f : ThreadInt → ThreadInt) : (updThread s t f).trn = s.trn := rfl
@[simp] theorem updThread_pair (s : State) (t : Nat) (f : ThreadInt → ThreadInt) : (updThread s t f).pair = s.pair := rfl
@[simp] theorem updThread_boot (s : State) (t : Nat) (f : ThreadInt → ThreadInt) : (updThread s t f).boot = s.boot := rfl
@[simp] theorem updThread_start (s : State) (t : Nat) (f : ThreadInt → ThreadInt) : (updThread s t f).start = s.start := rfl
@[simp] theorem updThread_mnt (s : State) (t : Nat) (f : ThreadInt → ThreadInt) : (updThread s t f).mnt = s.mnt := rfl

/-! ### updSteward -/

@[simp] theorem updSteward_pending (s : State) (k : Nat) (f : StewardInt → StewardInt) : (updSteward s k f).pending = s.pending := rfl
@[simp] theorem updSteward_regs (s : State) (k : Nat) (f : StewardInt → StewardInt) : (updSteward s k f).regs = s.regs := rfl
@[simp] theorem updSteward_staged (s : State) (k : Nat) (f : StewardInt → StewardInt) : (updSteward s k f).staged = s.staged := rfl
@[simp] theorem updSteward_applyReq (s : State) (k : Nat) (f : StewardInt → StewardInt) : (updSteward s k f).applyReq = s.applyReq := rfl
@[simp] theorem updSteward_armDue (s : State) (k : Nat) (f : StewardInt → StewardInt) : (updSteward s k f).armDue = s.armDue := rfl
@[simp] theorem updSteward_rdata (s : State) (k : Nat) (f : StewardInt → StewardInt) : (updSteward s k f).rdata = s.rdata := rfl
@[simp] theorem updSteward_tt (s : State) (k : Nat) (f : StewardInt → StewardInt) : (updSteward s k f).tt = s.tt := rfl
@[simp] theorem updSteward_nrg (s : State) (k : Nat) (f : StewardInt → StewardInt) : (updSteward s k f).nrg = s.nrg := rfl
@[simp] theorem updSteward_claims (s : State) (k : Nat) (f : StewardInt → StewardInt) : (updSteward s k f).claims = s.claims := rfl
@[simp] theorem updSteward_pmcWraps (s : State) (k : Nat) (f : StewardInt → StewardInt) : (updSteward s k f).pmcWraps = s.pmcWraps := rfl
@[simp] theorem updSteward_queues (s : State) (k : Nat) (f : StewardInt → StewardInt) : (updSteward s k f).queues = s.queues := rfl
@[simp] theorem updSteward_lastQueue (s : State) (k : Nat) (f : StewardInt → StewardInt) : (updSteward s k f).lastQueue = s.lastQueue := rfl
@[simp] theorem updSteward_pushHeld (s : State) (k : Nat) (f : StewardInt → StewardInt) : (updSteward s k f).pushHeld = s.pushHeld := rfl
@[simp] theorem updSteward_qcmdStop (s : State) (k : Nat) (f : StewardInt → StewardInt) : (updSteward s k f).qcmdStop = s.qcmdStop := rfl
@[simp] theorem updSteward_rings (s : State) (k : Nat) (f : StewardInt → StewardInt) : (updSteward s k f).rings = s.rings := rfl
@[simp] theorem updSteward_acceptNo (s : State) (k : Nat) (f : StewardInt → StewardInt) : (updSteward s k f).acceptNo = s.acceptNo := rfl
@[simp] theorem updSteward_abortReqs (s : State) (k : Nat) (f : StewardInt → StewardInt) : (updSteward s k f).abortReqs = s.abortReqs := rfl
@[simp] theorem updSteward_pubs (s : State) (k : Nat) (f : StewardInt → StewardInt) : (updSteward s k f).pubs = s.pubs := rfl
@[simp] theorem updSteward_deltas (s : State) (k : Nat) (f : StewardInt → StewardInt) : (updSteward s k f).deltas = s.deltas := rfl
@[simp] theorem updSteward_pseq (s : State) (k : Nat) (f : StewardInt → StewardInt) : (updSteward s k f).pseq = s.pseq := rfl
@[simp] theorem updSteward_flushes (s : State) (k : Nat) (f : StewardInt → StewardInt) : (updSteward s k f).flushes = s.flushes := rfl
@[simp] theorem updSteward_hif (s : State) (k : Nat) (f : StewardInt → StewardInt) : (updSteward s k f).hif = s.hif := rfl
@[simp] theorem updSteward_links (s : State) (k : Nat) (f : StewardInt → StewardInt) : (updSteward s k f).links = s.links := rfl
@[simp] theorem updSteward_hostMem (s : State) (k : Nat) (f : StewardInt → StewardInt) : (updSteward s k f).hostMem = s.hostMem := rfl
@[simp] theorem updSteward_mem (s : State) (k : Nat) (f : StewardInt → StewardInt) : (updSteward s k f).mem = s.mem := rfl
@[simp] theorem updSteward_poison (s : State) (k : Nat) (f : StewardInt → StewardInt) : (updSteward s k f).poison = s.poison := rfl
@[simp] theorem updSteward_fresh (s : State) (k : Nat) (f : StewardInt → StewardInt) : (updSteward s k f).fresh = s.fresh := rfl
@[simp] theorem updSteward_abc (s : State) (k : Nat) (f : StewardInt → StewardInt) : (updSteward s k f).abc = s.abc := rfl
@[simp] theorem updSteward_areas (s : State) (k : Nat) (f : StewardInt → StewardInt) : (updSteward s k f).areas = s.areas := rfl
@[simp] theorem updSteward_pins (s : State) (k : Nat) (f : StewardInt → StewardInt) : (updSteward s k f).pins = s.pins := rfl
@[simp] theorem updSteward_pp (s : State) (k : Nat) (f : StewardInt → StewardInt) : (updSteward s k f).pp = s.pp := rfl
@[simp] theorem updSteward_ft (s : State) (k : Nat) (f : StewardInt → StewardInt) : (updSteward s k f).ft = s.ft := rfl
@[simp] theorem updSteward_tm (s : State) (k : Nat) (f : StewardInt → StewardInt) : (updSteward s k f).tm = s.tm := rfl
@[simp] theorem updSteward_cip (s : State) (k : Nat) (f : StewardInt → StewardInt) : (updSteward s k f).cip = s.cip := rfl
@[simp] theorem updSteward_blk (s : State) (k : Nat) (f : StewardInt → StewardInt) : (updSteward s k f).blk = s.blk := rfl
@[simp] theorem updSteward_dma (s : State) (k : Nat) (f : StewardInt → StewardInt) : (updSteward s k f).dma = s.dma := rfl
@[simp] theorem updSteward_trn (s : State) (k : Nat) (f : StewardInt → StewardInt) : (updSteward s k f).trn = s.trn := rfl
@[simp] theorem updSteward_pair (s : State) (k : Nat) (f : StewardInt → StewardInt) : (updSteward s k f).pair = s.pair := rfl
@[simp] theorem updSteward_boot (s : State) (k : Nat) (f : StewardInt → StewardInt) : (updSteward s k f).boot = s.boot := rfl
@[simp] theorem updSteward_start (s : State) (k : Nat) (f : StewardInt → StewardInt) : (updSteward s k f).start = s.start := rfl
@[simp] theorem updSteward_mnt (s : State) (k : Nat) (f : StewardInt → StewardInt) : (updSteward s k f).mnt = s.mnt := rfl

/-! ### updChan -/

@[simp] theorem updChan_pending (s : State) (c : Nat) (f : ChanInt → ChanInt) : (updChan s c f).pending = s.pending := rfl
@[simp] theorem updChan_regs (s : State) (c : Nat) (f : ChanInt → ChanInt) : (updChan s c f).regs = s.regs := rfl
@[simp] theorem updChan_staged (s : State) (c : Nat) (f : ChanInt → ChanInt) : (updChan s c f).staged = s.staged := rfl
@[simp] theorem updChan_applyReq (s : State) (c : Nat) (f : ChanInt → ChanInt) : (updChan s c f).applyReq = s.applyReq := rfl
@[simp] theorem updChan_armDue (s : State) (c : Nat) (f : ChanInt → ChanInt) : (updChan s c f).armDue = s.armDue := rfl
@[simp] theorem updChan_rdata (s : State) (c : Nat) (f : ChanInt → ChanInt) : (updChan s c f).rdata = s.rdata := rfl
@[simp] theorem updChan_tt (s : State) (c : Nat) (f : ChanInt → ChanInt) : (updChan s c f).tt = s.tt := rfl
@[simp] theorem updChan_nrg (s : State) (c : Nat) (f : ChanInt → ChanInt) : (updChan s c f).nrg = s.nrg := rfl
@[simp] theorem updChan_claims (s : State) (c : Nat) (f : ChanInt → ChanInt) : (updChan s c f).claims = s.claims := rfl
@[simp] theorem updChan_pmcWraps (s : State) (c : Nat) (f : ChanInt → ChanInt) : (updChan s c f).pmcWraps = s.pmcWraps := rfl
@[simp] theorem updChan_queues (s : State) (c : Nat) (f : ChanInt → ChanInt) : (updChan s c f).queues = s.queues := rfl
@[simp] theorem updChan_lastQueue (s : State) (c : Nat) (f : ChanInt → ChanInt) : (updChan s c f).lastQueue = s.lastQueue := rfl
@[simp] theorem updChan_pushHeld (s : State) (c : Nat) (f : ChanInt → ChanInt) : (updChan s c f).pushHeld = s.pushHeld := rfl
@[simp] theorem updChan_qcmdStop (s : State) (c : Nat) (f : ChanInt → ChanInt) : (updChan s c f).qcmdStop = s.qcmdStop := rfl
@[simp] theorem updChan_rings (s : State) (c : Nat) (f : ChanInt → ChanInt) : (updChan s c f).rings = s.rings := rfl
@[simp] theorem updChan_acceptNo (s : State) (c : Nat) (f : ChanInt → ChanInt) : (updChan s c f).acceptNo = s.acceptNo := rfl
@[simp] theorem updChan_abortReqs (s : State) (c : Nat) (f : ChanInt → ChanInt) : (updChan s c f).abortReqs = s.abortReqs := rfl
@[simp] theorem updChan_pubs (s : State) (c : Nat) (f : ChanInt → ChanInt) : (updChan s c f).pubs = s.pubs := rfl
@[simp] theorem updChan_deltas (s : State) (c : Nat) (f : ChanInt → ChanInt) : (updChan s c f).deltas = s.deltas := rfl
@[simp] theorem updChan_pseq (s : State) (c : Nat) (f : ChanInt → ChanInt) : (updChan s c f).pseq = s.pseq := rfl
@[simp] theorem updChan_flushes (s : State) (c : Nat) (f : ChanInt → ChanInt) : (updChan s c f).flushes = s.flushes := rfl
@[simp] theorem updChan_hif (s : State) (c : Nat) (f : ChanInt → ChanInt) : (updChan s c f).hif = s.hif := rfl
@[simp] theorem updChan_links (s : State) (c : Nat) (f : ChanInt → ChanInt) : (updChan s c f).links = s.links := rfl
@[simp] theorem updChan_hostMem (s : State) (c : Nat) (f : ChanInt → ChanInt) : (updChan s c f).hostMem = s.hostMem := rfl
@[simp] theorem updChan_mem (s : State) (c : Nat) (f : ChanInt → ChanInt) : (updChan s c f).mem = s.mem := rfl
@[simp] theorem updChan_poison (s : State) (c : Nat) (f : ChanInt → ChanInt) : (updChan s c f).poison = s.poison := rfl
@[simp] theorem updChan_fresh (s : State) (c : Nat) (f : ChanInt → ChanInt) : (updChan s c f).fresh = s.fresh := rfl
@[simp] theorem updChan_abc (s : State) (c : Nat) (f : ChanInt → ChanInt) : (updChan s c f).abc = s.abc := rfl
@[simp] theorem updChan_areas (s : State) (c : Nat) (f : ChanInt → ChanInt) : (updChan s c f).areas = s.areas := rfl
@[simp] theorem updChan_pins (s : State) (c : Nat) (f : ChanInt → ChanInt) : (updChan s c f).pins = s.pins := rfl
@[simp] theorem updChan_pp (s : State) (c : Nat) (f : ChanInt → ChanInt) : (updChan s c f).pp = s.pp := rfl
@[simp] theorem updChan_rly (s : State) (c : Nat) (f : ChanInt → ChanInt) : (updChan s c f).rly = s.rly := rfl
@[simp] theorem updChan_ft (s : State) (c : Nat) (f : ChanInt → ChanInt) : (updChan s c f).ft = s.ft := rfl
@[simp] theorem updChan_tm (s : State) (c : Nat) (f : ChanInt → ChanInt) : (updChan s c f).tm = s.tm := rfl
@[simp] theorem updChan_cip (s : State) (c : Nat) (f : ChanInt → ChanInt) : (updChan s c f).cip = s.cip := rfl
@[simp] theorem updChan_blk (s : State) (c : Nat) (f : ChanInt → ChanInt) : (updChan s c f).blk = s.blk := rfl
@[simp] theorem updChan_trn (s : State) (c : Nat) (f : ChanInt → ChanInt) : (updChan s c f).trn = s.trn := rfl
@[simp] theorem updChan_pair (s : State) (c : Nat) (f : ChanInt → ChanInt) : (updChan s c f).pair = s.pair := rfl
@[simp] theorem updChan_boot (s : State) (c : Nat) (f : ChanInt → ChanInt) : (updChan s c f).boot = s.boot := rfl
@[simp] theorem updChan_start (s : State) (c : Nat) (f : ChanInt → ChanInt) : (updChan s c f).start = s.start := rfl
@[simp] theorem updChan_mnt (s : State) (c : Nat) (f : ChanInt → ChanInt) : (updChan s c f).mnt = s.mnt := rfl

/-! ### updPair -/

@[simp] theorem updPair_pending (s : State) (f : PairInt → PairInt) : (updPair s f).pending = s.pending := rfl
@[simp] theorem updPair_regs (s : State) (f : PairInt → PairInt) : (updPair s f).regs = s.regs := rfl
@[simp] theorem updPair_staged (s : State) (f : PairInt → PairInt) : (updPair s f).staged = s.staged := rfl
@[simp] theorem updPair_applyReq (s : State) (f : PairInt → PairInt) : (updPair s f).applyReq = s.applyReq := rfl
@[simp] theorem updPair_armDue (s : State) (f : PairInt → PairInt) : (updPair s f).armDue = s.armDue := rfl
@[simp] theorem updPair_rdata (s : State) (f : PairInt → PairInt) : (updPair s f).rdata = s.rdata := rfl
@[simp] theorem updPair_tt (s : State) (f : PairInt → PairInt) : (updPair s f).tt = s.tt := rfl
@[simp] theorem updPair_nrg (s : State) (f : PairInt → PairInt) : (updPair s f).nrg = s.nrg := rfl
@[simp] theorem updPair_claims (s : State) (f : PairInt → PairInt) : (updPair s f).claims = s.claims := rfl
@[simp] theorem updPair_pmcWraps (s : State) (f : PairInt → PairInt) : (updPair s f).pmcWraps = s.pmcWraps := rfl
@[simp] theorem updPair_queues (s : State) (f : PairInt → PairInt) : (updPair s f).queues = s.queues := rfl
@[simp] theorem updPair_lastQueue (s : State) (f : PairInt → PairInt) : (updPair s f).lastQueue = s.lastQueue := rfl
@[simp] theorem updPair_pushHeld (s : State) (f : PairInt → PairInt) : (updPair s f).pushHeld = s.pushHeld := rfl
@[simp] theorem updPair_qcmdStop (s : State) (f : PairInt → PairInt) : (updPair s f).qcmdStop = s.qcmdStop := rfl
@[simp] theorem updPair_rings (s : State) (f : PairInt → PairInt) : (updPair s f).rings = s.rings := rfl
@[simp] theorem updPair_acceptNo (s : State) (f : PairInt → PairInt) : (updPair s f).acceptNo = s.acceptNo := rfl
@[simp] theorem updPair_abortReqs (s : State) (f : PairInt → PairInt) : (updPair s f).abortReqs = s.abortReqs := rfl
@[simp] theorem updPair_pubs (s : State) (f : PairInt → PairInt) : (updPair s f).pubs = s.pubs := rfl
@[simp] theorem updPair_deltas (s : State) (f : PairInt → PairInt) : (updPair s f).deltas = s.deltas := rfl
@[simp] theorem updPair_pseq (s : State) (f : PairInt → PairInt) : (updPair s f).pseq = s.pseq := rfl
@[simp] theorem updPair_flushes (s : State) (f : PairInt → PairInt) : (updPair s f).flushes = s.flushes := rfl
@[simp] theorem updPair_hif (s : State) (f : PairInt → PairInt) : (updPair s f).hif = s.hif := rfl
@[simp] theorem updPair_links (s : State) (f : PairInt → PairInt) : (updPair s f).links = s.links := rfl
@[simp] theorem updPair_hostMem (s : State) (f : PairInt → PairInt) : (updPair s f).hostMem = s.hostMem := rfl
@[simp] theorem updPair_mem (s : State) (f : PairInt → PairInt) : (updPair s f).mem = s.mem := rfl
@[simp] theorem updPair_poison (s : State) (f : PairInt → PairInt) : (updPair s f).poison = s.poison := rfl
@[simp] theorem updPair_fresh (s : State) (f : PairInt → PairInt) : (updPair s f).fresh = s.fresh := rfl
@[simp] theorem updPair_abc (s : State) (f : PairInt → PairInt) : (updPair s f).abc = s.abc := rfl
@[simp] theorem updPair_areas (s : State) (f : PairInt → PairInt) : (updPair s f).areas = s.areas := rfl
@[simp] theorem updPair_pins (s : State) (f : PairInt → PairInt) : (updPair s f).pins = s.pins := rfl
@[simp] theorem updPair_pp (s : State) (f : PairInt → PairInt) : (updPair s f).pp = s.pp := rfl
@[simp] theorem updPair_rly (s : State) (f : PairInt → PairInt) : (updPair s f).rly = s.rly := rfl
@[simp] theorem updPair_ft (s : State) (f : PairInt → PairInt) : (updPair s f).ft = s.ft := rfl
@[simp] theorem updPair_tm (s : State) (f : PairInt → PairInt) : (updPair s f).tm = s.tm := rfl
@[simp] theorem updPair_cip (s : State) (f : PairInt → PairInt) : (updPair s f).cip = s.cip := rfl
@[simp] theorem updPair_blk (s : State) (f : PairInt → PairInt) : (updPair s f).blk = s.blk := rfl
@[simp] theorem updPair_dma (s : State) (f : PairInt → PairInt) : (updPair s f).dma = s.dma := rfl
@[simp] theorem updPair_trn (s : State) (f : PairInt → PairInt) : (updPair s f).trn = s.trn := rfl
@[simp] theorem updPair_boot (s : State) (f : PairInt → PairInt) : (updPair s f).boot = s.boot := rfl
@[simp] theorem updPair_start (s : State) (f : PairInt → PairInt) : (updPair s f).start = s.start := rfl
@[simp] theorem updPair_mnt (s : State) (f : PairInt → PairInt) : (updPair s f).mnt = s.mnt := rfl

/-! ### setSlot -/

@[simp] theorem setSlot_pending (s : State) (k v : Nat) : (setSlot s k v).pending = s.pending := rfl
@[simp] theorem setSlot_regs (s : State) (k v : Nat) : (setSlot s k v).regs = s.regs := rfl
@[simp] theorem setSlot_staged (s : State) (k v : Nat) : (setSlot s k v).staged = s.staged := rfl
@[simp] theorem setSlot_applyReq (s : State) (k v : Nat) : (setSlot s k v).applyReq = s.applyReq := rfl
@[simp] theorem setSlot_armDue (s : State) (k v : Nat) : (setSlot s k v).armDue = s.armDue := rfl
@[simp] theorem setSlot_rdata (s : State) (k v : Nat) : (setSlot s k v).rdata = s.rdata := rfl
@[simp] theorem setSlot_tt (s : State) (k v : Nat) : (setSlot s k v).tt = s.tt := rfl
@[simp] theorem setSlot_nrg (s : State) (k v : Nat) : (setSlot s k v).nrg = s.nrg := rfl
@[simp] theorem setSlot_claims (s : State) (k v : Nat) : (setSlot s k v).claims = s.claims := rfl
@[simp] theorem setSlot_pmcWraps (s : State) (k v : Nat) : (setSlot s k v).pmcWraps = s.pmcWraps := rfl
@[simp] theorem setSlot_queues (s : State) (k v : Nat) : (setSlot s k v).queues = s.queues := rfl
@[simp] theorem setSlot_lastQueue (s : State) (k v : Nat) : (setSlot s k v).lastQueue = s.lastQueue := rfl
@[simp] theorem setSlot_pushHeld (s : State) (k v : Nat) : (setSlot s k v).pushHeld = s.pushHeld := rfl
@[simp] theorem setSlot_qcmdStop (s : State) (k v : Nat) : (setSlot s k v).qcmdStop = s.qcmdStop := rfl
@[simp] theorem setSlot_rings (s : State) (k v : Nat) : (setSlot s k v).rings = s.rings := rfl
@[simp] theorem setSlot_acceptNo (s : State) (k v : Nat) : (setSlot s k v).acceptNo = s.acceptNo := rfl
@[simp] theorem setSlot_abortReqs (s : State) (k v : Nat) : (setSlot s k v).abortReqs = s.abortReqs := rfl
@[simp] theorem setSlot_pubs (s : State) (k v : Nat) : (setSlot s k v).pubs = s.pubs := rfl
@[simp] theorem setSlot_deltas (s : State) (k v : Nat) : (setSlot s k v).deltas = s.deltas := rfl
@[simp] theorem setSlot_pseq (s : State) (k v : Nat) : (setSlot s k v).pseq = s.pseq := rfl
@[simp] theorem setSlot_flushes (s : State) (k v : Nat) : (setSlot s k v).flushes = s.flushes := rfl
@[simp] theorem setSlot_hif (s : State) (k v : Nat) : (setSlot s k v).hif = s.hif := rfl
@[simp] theorem setSlot_links (s : State) (k v : Nat) : (setSlot s k v).links = s.links := rfl
@[simp] theorem setSlot_hostMem (s : State) (k v : Nat) : (setSlot s k v).hostMem = s.hostMem := rfl
@[simp] theorem setSlot_mem (s : State) (k v : Nat) : (setSlot s k v).mem = s.mem := rfl
@[simp] theorem setSlot_poison (s : State) (k v : Nat) : (setSlot s k v).poison = s.poison := rfl
@[simp] theorem setSlot_fresh (s : State) (k v : Nat) : (setSlot s k v).fresh = s.fresh := rfl
@[simp] theorem setSlot_abc (s : State) (k v : Nat) : (setSlot s k v).abc = s.abc := rfl
@[simp] theorem setSlot_areas (s : State) (k v : Nat) : (setSlot s k v).areas = s.areas := rfl
@[simp] theorem setSlot_pins (s : State) (k v : Nat) : (setSlot s k v).pins = s.pins := rfl
@[simp] theorem setSlot_pp (s : State) (k v : Nat) : (setSlot s k v).pp = s.pp := rfl
@[simp] theorem setSlot_rly (s : State) (k v : Nat) : (setSlot s k v).rly = s.rly := rfl
@[simp] theorem setSlot_ft (s : State) (k v : Nat) : (setSlot s k v).ft = s.ft := rfl
@[simp] theorem setSlot_tm (s : State) (k v : Nat) : (setSlot s k v).tm = s.tm := rfl
@[simp] theorem setSlot_blk (s : State) (k v : Nat) : (setSlot s k v).blk = s.blk := rfl
@[simp] theorem setSlot_dma (s : State) (k v : Nat) : (setSlot s k v).dma = s.dma := rfl
@[simp] theorem setSlot_trn (s : State) (k v : Nat) : (setSlot s k v).trn = s.trn := rfl
@[simp] theorem setSlot_pair (s : State) (k v : Nat) : (setSlot s k v).pair = s.pair := rfl
@[simp] theorem setSlot_boot (s : State) (k v : Nat) : (setSlot s k v).boot = s.boot := rfl
@[simp] theorem setSlot_start (s : State) (k v : Nat) : (setSlot s k v).start = s.start := rfl
@[simp] theorem setSlot_mnt (s : State) (k v : Nat) : (setSlot s k v).mnt = s.mnt := rfl

/-! ### setVol -/

@[simp] theorem setVol_pending (s : State) (v x : Nat) : (setVol s v x).pending = s.pending := rfl
@[simp] theorem setVol_regs (s : State) (v x : Nat) : (setVol s v x).regs = s.regs := rfl
@[simp] theorem setVol_staged (s : State) (v x : Nat) : (setVol s v x).staged = s.staged := rfl
@[simp] theorem setVol_applyReq (s : State) (v x : Nat) : (setVol s v x).applyReq = s.applyReq := rfl
@[simp] theorem setVol_armDue (s : State) (v x : Nat) : (setVol s v x).armDue = s.armDue := rfl
@[simp] theorem setVol_rdata (s : State) (v x : Nat) : (setVol s v x).rdata = s.rdata := rfl
@[simp] theorem setVol_tt (s : State) (v x : Nat) : (setVol s v x).tt = s.tt := rfl
@[simp] theorem setVol_nrg (s : State) (v x : Nat) : (setVol s v x).nrg = s.nrg := rfl
@[simp] theorem setVol_claims (s : State) (v x : Nat) : (setVol s v x).claims = s.claims := rfl
@[simp] theorem setVol_pmcWraps (s : State) (v x : Nat) : (setVol s v x).pmcWraps = s.pmcWraps := rfl
@[simp] theorem setVol_queues (s : State) (v x : Nat) : (setVol s v x).queues = s.queues := rfl
@[simp] theorem setVol_lastQueue (s : State) (v x : Nat) : (setVol s v x).lastQueue = s.lastQueue := rfl
@[simp] theorem setVol_pushHeld (s : State) (v x : Nat) : (setVol s v x).pushHeld = s.pushHeld := rfl
@[simp] theorem setVol_qcmdStop (s : State) (v x : Nat) : (setVol s v x).qcmdStop = s.qcmdStop := rfl
@[simp] theorem setVol_rings (s : State) (v x : Nat) : (setVol s v x).rings = s.rings := rfl
@[simp] theorem setVol_acceptNo (s : State) (v x : Nat) : (setVol s v x).acceptNo = s.acceptNo := rfl
@[simp] theorem setVol_abortReqs (s : State) (v x : Nat) : (setVol s v x).abortReqs = s.abortReqs := rfl
@[simp] theorem setVol_pubs (s : State) (v x : Nat) : (setVol s v x).pubs = s.pubs := rfl
@[simp] theorem setVol_deltas (s : State) (v x : Nat) : (setVol s v x).deltas = s.deltas := rfl
@[simp] theorem setVol_pseq (s : State) (v x : Nat) : (setVol s v x).pseq = s.pseq := rfl
@[simp] theorem setVol_flushes (s : State) (v x : Nat) : (setVol s v x).flushes = s.flushes := rfl
@[simp] theorem setVol_hif (s : State) (v x : Nat) : (setVol s v x).hif = s.hif := rfl
@[simp] theorem setVol_links (s : State) (v x : Nat) : (setVol s v x).links = s.links := rfl
@[simp] theorem setVol_hostMem (s : State) (v x : Nat) : (setVol s v x).hostMem = s.hostMem := rfl
@[simp] theorem setVol_mem (s : State) (v x : Nat) : (setVol s v x).mem = s.mem := rfl
@[simp] theorem setVol_poison (s : State) (v x : Nat) : (setVol s v x).poison = s.poison := rfl
@[simp] theorem setVol_fresh (s : State) (v x : Nat) : (setVol s v x).fresh = s.fresh := rfl
@[simp] theorem setVol_abc (s : State) (v x : Nat) : (setVol s v x).abc = s.abc := rfl
@[simp] theorem setVol_areas (s : State) (v x : Nat) : (setVol s v x).areas = s.areas := rfl
@[simp] theorem setVol_pins (s : State) (v x : Nat) : (setVol s v x).pins = s.pins := rfl
@[simp] theorem setVol_pp (s : State) (v x : Nat) : (setVol s v x).pp = s.pp := rfl
@[simp] theorem setVol_rly (s : State) (v x : Nat) : (setVol s v x).rly = s.rly := rfl
@[simp] theorem setVol_ft (s : State) (v x : Nat) : (setVol s v x).ft = s.ft := rfl
@[simp] theorem setVol_tm (s : State) (v x : Nat) : (setVol s v x).tm = s.tm := rfl
@[simp] theorem setVol_cip (s : State) (v x : Nat) : (setVol s v x).cip = s.cip := rfl
@[simp] theorem setVol_dma (s : State) (v x : Nat) : (setVol s v x).dma = s.dma := rfl
@[simp] theorem setVol_trn (s : State) (v x : Nat) : (setVol s v x).trn = s.trn := rfl
@[simp] theorem setVol_pair (s : State) (v x : Nat) : (setVol s v x).pair = s.pair := rfl
@[simp] theorem setVol_boot (s : State) (v x : Nat) : (setVol s v x).boot = s.boot := rfl
@[simp] theorem setVol_start (s : State) (v x : Nat) : (setVol s v x).start = s.start := rfl
@[simp] theorem setVol_mnt (s : State) (v x : Nat) : (setVol s v x).mnt = s.mnt := rfl

end Sys2Proof.Machine
end

