-- ==== Sys2Proof/Tests/Slice0.lean ====
section
/-! SUPPORT. The tests: a state for the hypotheses of every statement, ill-formed commands that the check refuses, and
worked examples. -/
namespace Sys2Proof.Tests

set_option Elab.async false

open Sys2Proof Sys2Proof.Machine

/-! ### States that the tests start from -/

/-- Register fields given values: field, member and value. -/
def withRegs (s : State) (l : List (Desc × Nat × Nat)) : State := l.foldl (fun t x => t.wr x.1 x.2.2 x.2.1) s

/-- A state in which PF 0 may issue requests. -/
def hostOn : State := withRegs { State.reset with hif := { fns := [(0, { bme := true })] } } [(HIF_PF_CFG.enable, 0, 1)]

/-- Queue 3 of PF 0 is ACTIVE on ring 0, with 32 slots and some entries; WQ and CQ run. -/
def queueOn (es : List Entry) : State :=
  withRegs { hostOn with queues := if es.isEmpty then [] else [(3, { entries := es })] }
    [(WQ_GROUP_OWNER.valid, 0, 1), (WQ_CTX.state, 3, 1), (WQ_CTX.log2_slots, 3, 5), (CQ_CTX.valid, 0, 1),
     (CQ_CTX.log2_slots, 0, 6), (enableField .wq, 0, 1), (enableField .cq, 0, 1)]


/-- A Trallasy packet of connection 5 in an IPv4 frame, from its Trallasy header on. -/
def trnRx (t : Bytes) : RxPkt :=
  { conn := 5, pipe := 0, frame := List.replicate 12 0 ++ beBytes 2 0x0800 ++ beBytes 2 0x4500 ++ beBytes 2 (28 + t.length)
      ++ List.replicate 5 0 ++ beBytes 1 17 ++ List.replicate 10 0 ++ beBytes 2 1 ++ beBytes 2 2 ++ beBytes 2 (8 + t.length)
      ++ beBytes 2 0 ++ t,
    ip := 14, v6 := false, off := 42, len := t.length }

/-- Connection 5 has a context on chip. -/
def trnOn (x : Nat) (c : TrnConn) (s : State) : State :=
  { s with trn := { s.trn with cache := [(5, some ⟨x, false⟩)], conns := if c = {} then [] else [(5, c)] } }

/-- Region 3 has a record. -/
def rgnOn (v : Nat) (s : State) : State :=
  let s := withRegs { s with areas := { rgn := 1 } } [(TRN_RGN_BLOCK.valid, 0, 1), (enableField .trn, 0, 1)]
  memStore s (rgnAddr s 3) (leBytes 64 v)

/-- Queue 3 is a block queue with one command in hand; channel 9 and 8 are the pipelines' and 6 is reply_ch. -/
def blkOn (es : List Entry) (cs : List BlkCmd) : State :=
  withRegs { queueOn es with blk := { cmds := cs }, areas := { stage := 100, blkStage := 1 } }
    [(WQ_CTX.type, 3, 4), (PP_CFG.reinject_ch, 0, 9), (PP_CFG.reinject_ch, 1, 8), (BLK_CFG.reply_ch, 0, 6),
     (enableField .blk, 0, 1)]

/-- Relay channel 5 in a state, with its block address in global SRAM; DMA runs. -/
def dmaOn (st : Nat) (x : ChanInt) (s : State) : State :=
  withRegs { s with dma := { chans := if x = {} then [] else [(5, x)] } }
    [(enableField .dma, 0, 1), (DMA_CHAN.state, 5, st), (DMA_CHAN.mode, 5, 1), (DMA_CHAN.block, 5, 0x10000001000)]

/-- Relay thread 8 (the master of core 1) is READY at 0x100 in local memory with some registers. -/
def rlyOn (x : AgentInt) (s : State) : State :=
  withRegs { s with rly := { s.rly with agents := [(8, { x with pc := 0x100 })] },
                    start := { steward := true, sram := true, g6 := true } }
    [(RLY_THCTX.state, 8, thReady), (PP_CFG.reinject_ch, 0, 9), (PP_CFG.reinject_ch, 1, 8), (BLK_CFG.reply_ch, 0, 6),
     (enableField .rly, 0, 1)]

/-- Steward 0 runs at 0x100 in its memory. -/
def stwOn (x : AgentInt) (y : StewardInt) (s : State) : State :=
  { s with rly := { agents := [(512, { x with pc := 0x100 })], stewards := [(0, { y with running := true })] },
           start := { steward := true, sram := true, g6 := true } }

/-- PF 0 is enabled, owns VF 0 and may issue; functions 0 and 8 have these states. -/
def vfOn (p v : FnState) (s : State) : State :=
  withRegs { s with hif := { s.hif with fns := (if p = {} then [] else [(0, p)]) ++ (if v = {} then [] else [(8, v)]) } }
    [(HIF_PF_CFG.enable, 0, 1), (HIF_PF_CFG.total_vfs, 0, 1), (HIF_PF_CFG.pf_vec, 0, 16), (HIF_PF_CFG.vf_vec, 0, 2),
     (HIF_PF_CFG.bar4_log2, 0, 30)]

/-- Queue 3 belongs to VF 0 in a state, with some entries; its record ring is ring 0. -/
def vfQueue (st : Nat) (x : QueueInt) (s : State) : State :=
  withRegs { s with queues := if x = {} then [] else [(3, x)] }
    [(WQ_GROUP_OWNER.valid, 0, 1), (WQ_GROUP_OWNER.is_vf, 0, 1), (WQ_CTX.state, 3, st), (WQ_CTX.log2_slots, 3, 5)]

/-- The blob of VF 0 in `vfOn`, without its commit word. -/
def migBody : Bytes :=
  blobBody (withRegs (vfOn { bme := true } { bme := true } State.reset) [(HIF_MCMD.seq, 0, 7)]) 0 0 false

/-- One bit keeps the register in its width. -/
theorem crcBitMsb_lt (reg : Nat) (b : Bool) : crcBitMsb 16 0x8BB7 reg b < 2 ^ 16 := by
  have h : reg <<< 1 % 2 ^ 16 < 2 ^ 16 := Nat.mod_lt _ (by decide)
  simp only [crcBitMsb]
  split
  · exact h
  · exact Nat.xor_lt_two_pow h (by decide)

/-- One byte keeps the register in its width. -/
theorem crcByteMsb_lt (reg : Nat) (b : Byte) : crcByteMsb 16 0x8BB7 reg b < 2 ^ 16 := by
  simp only [crcByteMsb, List.foldl_cons, List.foldl_nil]
  exact crcBitMsb_lt _ _

/-- A CRC-16 has 16 bits. -/
theorem crc16_lt (bs : Bytes) : crc16 bs < 2 ^ 16 := by
  have h : ∀ (l : Bytes) (r : Nat), r < 2 ^ 16 → crcFold (crcByteMsb 16 0x8BB7) l r < 2 ^ 16 := by
    intro l
    induction l with
    | nil => exact fun r hr => hr
    | cons b l ih => exact fun r _ => by cases r <;> exact ih _ (crcByteMsb_lt _ b)
  exact h bs 0 (by decide)

/-- A body with its commit word is a committed blob. -/
theorem blob_commits (body : Bytes) (seq : Nat) (h1 : leAt body 0x20 8 = body.length + 8) (h2 : leAt body 0 4 = 1)
    (h3 : 64 ≤ body.length) : blobCommitted (body ++ leBytes 8 (commitWord seq body)) seq = true := by
  have len8 : ∀ v, (leBytes 8 v).length = 8 := fun v => rfl
  have at_ : ∀ o n (x : Bytes), o + n ≤ body.length → leAt (body ++ x) o n = leAt body o n := by
    intro o n x h
    unfold leAt slice
    rw [List.drop_append_of_le_length (by omega), List.take_append_of_le_length (by simp; omega)]
  have word : ∀ v, ofLe (leBytes 8 v) % 2 ^ 64 = v % 2 ^ 64 := by
    intro v
    simp only [leBytes, ofLe, BitVec.toNat_ofNat]
    omega
  have last : ∀ v, leAt (body ++ leBytes 8 v) body.length 8 % 2 ^ 64 = v % 2 ^ 64 := by
    intro v
    unfold leAt slice
    rw [List.drop_left, List.take_of_length_le (by simp [len8]), word]
  have small : commitWord seq body % 2 ^ 64 = commitWord seq body := by
    have c : crc16 body < 2 ^ 16 := crc16_lt body
    have d : seq % 2 ^ 32 < 2 ^ 32 := Nat.mod_lt _ (by decide)
    unfold commitWord
    rw [Nat.shiftLeft_eq, Nat.shiftLeft_eq]
    generalize crc16 body = x at c ⊢
    generalize seq % 2 ^ 32 = y at d ⊢
    simp only [commitTag]
    omega
  unfold blobCommitted
  simp only [Bool.and_eq_true, decide_eq_true_eq, commitVerifies]
  rw [at_ _ _ _ (by omega), at_ _ _ _ (by omega), h1, h2]
  refine ⟨⟨⟨by omega, by simp [len8]⟩, rfl⟩, ?_⟩
  simp only [Nat.add_sub_cancel]
  rw [last, small, List.take_left]


/-- The first bytes of a container of one section, STAGE1 of four zero bytes at the start of steward 0's memory, whose
public keys and signatures are zeros: the header and the entry of the section. -/
def bootImage : Bytes :=
  leBytes 4 0x48545946 ++ leBytes 2 1 ++ [1, 0] ++ leBytes 2 0x1600 ++ leBytes 2 4 ++ List.replicate 4 0 ++ leBytes 4 9
    ++ List.replicate 236 0
    ++ [1, 0, 0, 0] ++ leBytes 4 4 ++ leBytes 4 0x3000 ++ leBytes 4 0 ++ leBytes 8 stewardMemLo ++ leBytes 8 stewardMemLo
    ++ [57, 67, 65, 183, 24, 44, 210, 39, 197, 198, 176, 126, 248, 0, 12, 223, 216, 97, 54, 196, 41, 43, 142, 87, 101, 115, 173,
      126, 217, 174, 65, 1, 159, 88, 24, 180, 185, 113, 201, 239, 252, 96, 225, 173, 159, 18, 137, 240]

/-- That container in a slot with its commit word and with signatures that verify. -/
def bootSlot : SlotImage := ⟨bootImage, commitWord 9 (bootImage.take 256), true, true⟩

/-- The SHA-384 of 2,689 zero bytes. -/
def zeroKeyHash : Nat :=
  24198323367232235839902649521441490646999445395848644487611530015139070694157043304535972186236211475951611435195872

/-- The ROM runs with steward memory ready, and root key 0 is the key of zeros. -/
def romOn (s : State) : State :=
  { s with start := { s.start with steward := true }, boot := { s.boot with hashes := [(0, zeroKeyHash)] } }

/-- The ROM waits in RECOVERY, with PF 0 on. -/
def rcvOn : State :=
  withRegs { romOn State.reset with hif := { fns := [(0, { bme := true })] } } [(BOOT_STATUS.phase, 0, 4), (HIF_PF_CFG.enable, 0, 1)]

/-- The supervisor of steward 0. -/
def svc (s : State) : State := withRegs s [(BOOT_STATUS.phase, 0, 1), (BOOT_STATUS.svn, 0, 20)]

/-- PAIR runs in a state, with its link up or down and PAIR_ALIVE_IN high or low. -/
def pairOn (st up alive : Nat) (x : PairInt) : State :=
  { withRegs State.reset [(enableField .pair, 0, 1), (PAIR_STATUS.state, 0, st), (PAIR_STATUS.link_up, 0, up),
      (PAIR_STATUS.peer_alive, 0, alive), (PAIR_STATUS.cfg_match, 0, 1), (DEV_CLK_STAT.pair, 0, 1)] with
    pair := x, start := { serdes := [4] }, tt := { tt := 5000000 } }
/-- A block of zeros with its CRC. -/
def zeroBlock : Bytes := List.replicate 252 0 ++ leBytes 4 (crc32 (List.replicate 252 0))
/-- A KEY record of slot 7 with pair sequence 9, without its commit word. -/
def keyRecord : Bytes :=
  [8, 0] ++ leBytes 2 21 ++ leBytes 4 3 ++ leBytes 8 9 ++ leBytes 8 0 ++ leBytes 8 7 ++ leBytes 128 0x1234
/-- That record. -/
def keyDelta : Bytes := keyRecord ++ leBytes 8 (commitWord 9 keyRecord)

/-- SHA-384 of 2,689 zero bytes. -/
theorem zero_hash : ofLe (sha384 (List.replicate 2689 0)) = zeroKeyHash := by decide +kernel

/-- A container of the zero keys whose other checks pass is booted. -/
theorem boot_checks (s : State) (x : SlotImage) (h1 : x.headerOk = true) (h2 : keyUsable s x.key = true)
    (h3 : x.at_ 0x900 97 ++ x.at_ 0x980 2592 = List.replicate 2689 0) (h4 : rootHash s x.key = zeroKeyHash)
    (h5 : svnCount s.boot.svn ≤ x.svn) (h6 : x.ecdsa = true) (h7 : x.mldsa = true) (h8 : x.matchesDigest 1 = true)
    (h9 : x.find 4 = none) : checkImage s x = 1 := by
  have k : x.keyHash = zeroKeyHash := by rw [SlotImage.keyHash, h3, zero_hash]
  have m : x.matchesDigest 4 = true := by simp [SlotImage.matchesDigest, h9]
  simp [checkImage, h1, h2, k, h4, h6, h7, h8, h9, m, Nat.not_lt.2 h5]

/-- The zero keys of the container. -/
theorem zero_keys (bs : Bytes) (c : Nat) (h : bs.length ≤ 0x900) :
    (⟨bs, c, true, true⟩ : SlotImage).at_ 0x900 97 ++ (⟨bs, c, true, true⟩ : SlotImage).at_ 0x980 2592 =
      List.replicate 2689 0 := by
  have d : ∀ o, 0x900 ≤ o → bs.drop o = [] := fun o ho => List.drop_eq_nil_of_le (by omega)
  have e : ∀ o n, 0x900 ≤ o → (⟨bs, c, true, true⟩ : SlotImage).at_ o n = List.replicate n 0 := by
    intro o n ho
    simp only [SlotImage.at_, slice, fitBytes, d o ho, List.take_nil, List.length_nil, List.nil_append, Nat.sub_zero]
  rw [e _ _ (by decide), e _ _ (by decide), List.replicate_append_replicate]

/-- That container is found in slot 1. -/
theorem boot_won (s : State) (h1 : flashOrder s = [0, 1]) (h2 : (slotOut s [none, some bootSlot] 1) = none)
    (h3 : slotOut s [none, some bootSlot] 0 = some 11) (h4 : checkImage s bootSlot = 1) :
    (scanBoot s [none, some bootSlot]).won = some (1, bootSlot) := by
  simp [scanBoot, h1, scanFlash, slotOrder, h2, h3, slotOf, nth, trySlot, h4]

/-! ### Every statement's hypotheses can be met -/

theorem meets_RegisterWriteByAccessAndClass_1 : ∃ (s : State) (who : Initiator) (v : Nat), (stopped s = false) ∧
  (writable who TT_SLEW.max_ppm 0 s = true) ∧ (widthOk who 0x100058 4 = true) ∧ (v < 2 ^ 32) :=
  ⟨State.reset, .host 0, 500, by decide +kernel⟩

theorem meets_RegisterWriteByAccessAndClass_2 : ∃ (s : State) (who : Initiator) (v : Nat), (stopped s = false) ∧
  (writable who TT_LEG_LEN.leg_us 0 s = true) ∧ (widthOk who 0x100090 4 = true) ∧ (enabled s .tt = true) ∧ (v < 2 ^
  14) :=
  ⟨State.reset.wr (enableField .tt) 1, .host 0, 250, by decide +kernel⟩

theorem meets_RegisterWriteByAccessAndClass_3 : ∃ (s : State) (who : Initiator) (v : Nat), (stopped s = false) ∧
  (writable who TT_LEG_LEN.leg_us 0 s = true) ∧ (widthOk who 0x100090 4 = true) ∧ (enabled s .tt = false) ∧ (legLenOk
  v = true) ∧ (s.rd TT_LEG_LEN.leg_us < 2 ^ 14) :=
  ⟨State.reset, .host 0, 250, by decide +kernel⟩

theorem meets_RegisterWriteByAccessAndClass_4 : ∃ (s : State) (who : Initiator) (v : Nat), (stopped s = false) ∧
  (writable who TT_LEG_LEN.leg_us 0 s = true) ∧ (widthOk who 0x100090 4 = true) ∧ (enabled s .tt = false) ∧ (v < 2 ^
  14) ∧ (legLenOk v = false) :=
  ⟨State.reset, .host 0, 7000, by decide +kernel⟩

theorem meets_RegisterWriteByAccessAndClass_5 : ∃ (s : State) (who : Initiator) (v : Nat), (stopped s = false) ∧
  (writable who TT_CTL.refclk_25 0 s = true) ∧ (widthOk who 0x100030 4 = true) ∧ (enabled s .tt = true) ∧ ((v / 8) % 2
  ≠ s.rd TT_CTL.refclk_25) ∧ (s.rd TT_CTL.refclk_25 < 2) :=
  ⟨State.reset.wr (enableField .tt) 1, .host 0, 0x18, by decide +kernel⟩

theorem meets_RegisterWriteByAccessAndClass_6 : ∃ (s : State) (who : Initiator), (stopped s = false) ∧ (writable who
  TT_STATUS.step_refused 0 s = true) ∧ (widthOk who 0x100038 4 = true) ∧ (s.rd TT_STATUS.freq_fault < 2) :=
  ⟨(State.reset.wr TT_STATUS.step_refused 1).wr TT_STATUS.freq_fault 1, .host 0, by decide +kernel⟩

theorem meets_RegisterWriteByAccessAndClass_7 : ∃ (s : State) (who : Initiator) (_ : Nat), (stopped s = false) ∧
  (writable who TT_NOW.tt64 0 s = true) ∧ (widthOk who 0x100020 8 = true) :=
  ⟨State.reset, .host 0, 5, by decide +kernel⟩

theorem meets_RegisterWriteByAccessAndClass_8 : ∃ (s : State) (who : Initiator) (v : Nat), (stopped s = false) ∧
  (writable who HIF_PF_CFG.pf_vec 0 s = true) ∧ (widthOk who 0x300100 8 = true) ∧ (s.rd (lockField .hif) = 1) ∧
  (bitsAt v 38 12 ≠ s.rd HIF_PF_CFG.pf_vec) ∧ (s.rd HIF_PF_CFG.pf_vec < 2 ^ 12) :=
  ⟨State.reset.wr (lockField .hif) 1, .host 0, 2 ^ 38, by decide +kernel⟩

theorem meets_RegisterWriteByAccessAndClass_9 : ∃ (s : State) (_ _ len _ : Nat), (stopped s = false) ∧ (len ≠ 4) ∧
  (len ≠ 8) :=
  ⟨State.reset, 0, 0x100058, 2, 1, by decide +kernel⟩

theorem meets_CommonRegisterCommands_1 : ∃ (s : State) (who : Initiator) (b : Blk), (stopped s = false) ∧ (writable
  who (enableField b) 0 s = true) ∧ (enabled s b = true) ∧ (b ≠ .nrg) ∧ (b ≠ .pair) :=
  ⟨State.reset.wr (enableField .wq) 1, .host 0, .wq, by decide +kernel⟩

theorem meets_CommonRegisterCommands_2 : ∃ (s : State) (who : Initiator), (stopped s = false) ∧ (writable who
  (enableField .tt) 0 s = true) ∧ (enabled s .tt = false) :=
  ⟨State.reset, .host 0, by decide +kernel⟩

theorem meets_CommonRegisterCommands_3 : ∃ (s : State) (who : Initiator) (b : Blk), (stopped s = false) ∧ (writable
  who (lockField b) 0 s = true) ∧ (hasLock b = true) :=
  ⟨State.reset, .host 0, .boot, by decide +kernel⟩

theorem meets_CommonRegisterCommands_4 : ∃ (s : State) (who : Initiator) (b : Blk), (stopped s = false) ∧ (writable
  who (applyNowField b) 0 s = true) ∧ (s.applyReq.contains b = false) :=
  ⟨State.reset, .host 0, .tm, by decide +kernel⟩

theorem meets_CommonRegisterCommands_5 : ∃ (s : State) (who : Initiator) (b : Blk), (stopped s = false) ∧ (writable
  who (armTimeField b) 0 s = true) ∧ (now s ≤ s.rd (applyTtField b)) :=
  ⟨State.reset.wr (applyTtField .tm) 9, .host 0, .tm, by decide +kernel⟩

theorem meets_CommonRegisterCommands_6 : ∃ (s : State) (who : Initiator) (b : Blk), (stopped s = false) ∧ (writable
  who (armTimeField b) 0 s = true) ∧ (s.rd (applyTtField b) < now s) :=
  ⟨{ State.reset with tt := { tt := 1 } }, .host 0, .tm, by decide +kernel⟩

theorem meets_CommonRegisterCommands_7 : ∃ (s : State) (who : Initiator) (b : Blk), (stopped s = false) ∧ (writable
  who (armTimeField b) 0 s = true) ∧ (s.applyReq.contains b = false) :=
  ⟨State.reset, .host 0, .tm, by decide +kernel⟩

theorem meets_CommonRegisterCommands_8 : ∃ (s : State) (who : Initiator) (b : Blk), (stopped s = false) ∧ (writable
  who (armTimeField b) 0 s = true) :=
  ⟨State.reset.wr (armTimeField .tm) 1, .host 0, .tm, by decide +kernel⟩

theorem meets_CommonRegisterCommands_9 : ∃ (s : State) (who : Initiator) (b : Blk) (_ : Nat), (stopped s = false) ∧
  (writable who (applyTtField b) 0 s = true) :=
  ⟨State.reset.wr (armTimeField .tm) 1, .host 0, .tm, 12, by decide +kernel⟩

theorem meets_CommonRegisterCommands_10 : ∃ (s : State) (b : Blk), (stopped s = false) ∧ (s.rd (armTimeField b) = 1) ∧
  (s.rd (applyTtField b) ≤ now s) ∧ (s.armDue.contains b = false) :=
  ⟨State.reset.wr (armTimeField .tm) 1, .tm, by decide +kernel⟩

theorem meets_ApplicationOfTheStagingBank_1 : ∃ (s : State) (v x : Nat), (stopped s = false) ∧ (s.staged =
  [(TT_CTL.phase_src.key 0 0, v), (TT_CTL.freq_src.key 0 0, x)]) ∧ (v < 3) ∧ (x < 2) ∧ (applyAsked s .tt = true) ∧
  (s.tt.legAdopt = none) ∧ (v ≠ s.rd TT_CTL.phase_src) :=
  ⟨({ State.reset with staged := [(TT_CTL.phase_src.key 0 0, 2), (TT_CTL.freq_src.key 0 0, 1)], applyReq := [.tt] } : State).wr TT_STATUS.locked 1, 2, 1, by decide +kernel⟩

theorem meets_ApplicationOfTheStagingBank_2 : ∃ (s : State) (x : Nat), (stopped s = false) ∧ (s.staged =
  [(TT_CTL.phase_src.key 0 0, 3), (TT_CTL.freq_src.key 0 0, x)]) ∧ (applyAsked s .tt = true) ∧ (s.tt.legAdopt = none)
  :=
  ⟨({ State.reset with staged := [(TT_CTL.phase_src.key 0 0, 3), (TT_CTL.freq_src.key 0 0, 1)], applyReq := [.tt] } : State), 1, by decide +kernel⟩

theorem meets_ApplicationOfTheStagingBank_3 : ∃ (s : State) (v : Nat), (stopped s = false) ∧ (s.staged =
  [(TT_LEG_LEN.leg_us.key 0 0, v)]) ∧ (legLenOk v = true) ∧ (applyAsked s .tt = true) :=
  ⟨{ State.reset with staged := [(TT_LEG_LEN.leg_us.key 0 0, 250)], applyReq := [.tt] }, 250, by decide +kernel⟩

theorem meets_SetupWritesOfOthersAreDropped_1 : ∃ (s : State) (fn _ : Nat), (stopped s = false) ∧ (fn ≠ 0) :=
  ⟨State.reset, 1, 5, by decide +kernel⟩

theorem meets_SetupWritesOfOthersAreDropped_2 : ∃ (s : State) (fn _ : Nat), (stopped s = false) ∧ (fn ≠ 0) :=
  ⟨State.reset, 9, 5, by decide +kernel⟩

theorem meets_SetupWritesOfOthersAreDropped_3 : ∃ (s : State) (fn : Nat) (_ : Blk), (stopped s = false) ∧ (fn ≠ 0) :=
  ⟨State.reset, 8, .tm, by decide +kernel⟩

theorem meets_SetupWritesOfOthersAreDropped_4 : ∃ (s : State) (_ : Nat), (stopped s = false) ∧ (standby s = true) ∧
  (s.rd BOOT_STATUS.phase ≠ 4) :=
  ⟨State.reset.wr PAIR_STATUS.state 5, 5, by decide +kernel⟩

theorem meets_SetupWritesOfOthersAreDropped_5 : ∃ (s : State) (_ : Nat), (stopped s = false) ∧ (s.rd BOOT_STATUS.phase
  = 4) :=
  ⟨State.reset.wr BOOT_STATUS.phase 4, 5, by decide +kernel⟩

theorem meets_TrackTimeWrites_1 : ∃ (s : State) (who : Initiator) (v : Nat), (stopped s = false) ∧ (writable who
  TT_LOAD.tt64 0 s = true) ∧ (s.rd TT_STATUS.valid = 0) ∧ (v < 2 ^ 64) :=
  ⟨State.reset, .steward 0, 77, by decide +kernel⟩

theorem meets_TrackTimeWrites_2 : ∃ (s : State) (who : Initiator) (_ : Nat), (stopped s = false) ∧ (writable who
  TT_LOAD.tt64 0 s = true) ∧ (s.rd TT_STATUS.valid = 1) :=
  ⟨State.reset.wr TT_STATUS.valid 1, .steward 0, 77, by decide +kernel⟩

theorem meets_TrackTimeWrites_3 : ∃ (s : State) (who : Initiator) (d : Nat), (stopped s = false) ∧ (writable who
  TT_STEP.delta 0 s = true) ∧ (s.rd TT_CTL.step_enable = 1) ∧ (1 ≤ d) ∧ (d ≤ 1000000000) :=
  ⟨State.reset.wr TT_CTL.step_enable 1, .steward 0, 1000000000, by decide +kernel⟩

theorem meets_TrackTimeWrites_4 : ∃ (s : State) (who : Initiator) (d : Nat), (stopped s = false) ∧ (writable who
  TT_STEP.delta 0 s = true) ∧ (s.rd TT_CTL.step_enable = 0 ∨ d = 0 ∨ 1000000000 < d) :=
  ⟨State.reset.wr TT_CTL.step_enable 1, .steward 0, 1000000001, by decide +kernel⟩

theorem meets_TrackTimeWrites_5 : ∃ (s : State) (who : Initiator) (v : Nat), (stopped s = false) ∧ (writable who
  TT_PHASE_ADJ.slew_ns 0 s = true) ∧ ((s.tt.slew + signed 32 v * (nsUnit : Int)).natAbs ≤ (2 ^ 31 - 1) * nsUnit) ∧
  (s.tt.slew + signed 32 v * (nsUnit : Int) ≠ 0) :=
  ⟨State.reset, .steward 0, 0xFFFFFFFF, by decide +kernel⟩

theorem meets_TrackTimeWrites_6 : ∃ (s : State) (who : Initiator) (v : Nat), (stopped s = false) ∧ (writable who
  TT_FREQ_ADJ.adj 0 s = true) ∧ (-200000000 ≤ signed 32 v) ∧ (signed 32 v ≤ 200000000) :=
  ⟨State.reset, .steward 0, 200000000, by decide +kernel⟩

theorem meets_TrackTimeWrites_7 : ∃ (s : State) (who : Initiator) (v : Nat), (stopped s = false) ∧ (writable who
  TT_FREQ_ADJ.adj 0 s = true) ∧ (200000000 < signed 32 v) :=
  ⟨State.reset, .steward 0, 200000001, by decide +kernel⟩

theorem meets_TrackTimeWrites_8 : ∃ (s : State) (who : Initiator), (stopped s = false) ∧ (writable who
  TT_SERVO.ptp_locked 0 s = true) ∧ (s.rd TT_CTL.phase_src = 2) ∧ (s.rd TT_STATUS.holdover = 1) :=
  ⟨(State.reset.wr TT_CTL.phase_src 2).wr TT_STATUS.holdover 1, .steward 0, by decide +kernel⟩

theorem meets_TrackTimeWrites_9 : ∃ (s : State) (who : Initiator), (stopped s = false) ∧ (writable who
  TT_SERVO.ptp_locked 0 s = true) ∧ (s.rd TT_CTL.phase_src = 2) ∧ (s.rd TT_STATUS.locked = 0) :=
  ⟨State.reset.wr TT_CTL.phase_src 2, .steward 0, by decide +kernel⟩

theorem meets_TrackTimeWrites_10 : ∃ (s : State) (who : Initiator), (stopped s = false) ∧ (reaches who Blk.tt.base =
  true) :=
  ⟨State.reset, .host 0, by decide +kernel⟩

theorem meets_TrackTimeEvents_1 : ∃ (s : State), (stopped s = false) :=
  ⟨State.reset, by decide +kernel⟩

theorem meets_TrackTimeEvents_2 : ∃ (s : State), (stopped s = false) ∧ (s.rd TT_CTL.phase_src ≠ 1) :=
  ⟨State.reset, by decide +kernel⟩

theorem meets_TrackTimeEvents_3 : ∃ (s : State) (l : Nat), (stopped s = false) ∧ (s.tt.lastEdge = some l) ∧ (s.rd
  TT_CTL.phase_src = 1) ∧ (s.rd TT_STATUS.locked = 1) ∧ (l + 1000000000 + s.rd TT_QUAL.pps_win ≤ now s) :=
  ⟨({ State.reset with tt := { tt := 1000001001, lastEdge := some 1 } } : State).wr TT_CTL.phase_src 1 |>.wr TT_STATUS.locked 1, 1, by decide +kernel⟩

theorem meets_TrackTimeEvents_4 : ∃ (s : State), (stopped s = false) ∧ (s.rd TT_CTL.phase_src = 2) ∧ (s.rd
  TT_STATUS.locked = 1) ∧ (s.rd TT_SERVO.wdog ≠ 0) ∧ (s.tt.servoTt + s.rd TT_SERVO.wdog * 100000000 ≤ now s) :=
  ⟨({ State.reset with tt := { tt := 4000000000 } } : State).wr TT_CTL.phase_src 2 |>.wr TT_STATUS.locked 1, by decide +kernel⟩

theorem meets_TrackTimeEvents_5 : ∃ (s : State), (stopped s = false) ∧ (s.tt.qualified = true) ∧ (s.rd
  TT_STATUS.holdover = 1) ∧ (s.tt.slew.natAbs ≤ s.rd TT_QUAL.lock_thresh * nsUnit) :=
  ⟨({ State.reset with tt := { qualified := true, slew := -50000000000000000000 } } : State).wr TT_STATUS.holdover 1, by decide +kernel⟩

theorem meets_TrackTimeEvents_6 : ∃ (s : State), (stopped s = false) ∧ (s.rd TT_CTL.freq_src = 1) ∧ (s.tt.onOsc =
  false) :=
  ⟨({ State.reset with tt := { onOsc := false } } : State).wr TT_CTL.freq_src 1, by decide +kernel⟩

theorem meets_TrackTimeEvents_7 : ∃ (s : State), (stopped s = false) ∧ (s.tt.slew = 0) :=
  ⟨State.reset, by decide +kernel⟩

theorem meets_TrackTimeEvents_8 : ∃ (s : State) (who : Initiator) (p : Nat) (x : TxStamp) (l : List TxStamp), (stopped
  s = false) ∧ (reaches who Blk.tt.base = true) ∧ (p < 16) ∧ (Map.get s.tt.txFifo p = x :: l) :=
  ⟨{ State.reset with tt := { txFifo := [(15, [⟨9, 3, 1⟩])] } }, .host 0, 15, ⟨9, 3, 1⟩, [], by decide +kernel⟩

theorem meets_TrackTimeEvents_9 : ∃ (s : State), (stopped s = false) ∧ (s.rd TT_CTL.pps_out_enable = 1) ∧
  (s.pins.ppsSecond ≠ now s / 1000000000 + 1) ∧ (now s % 1000000000 < 100000) :=
  ⟨({ State.reset with tt := { tt := 3000000005 } } : State).wr TT_CTL.pps_out_enable 1, by decide +kernel⟩

theorem meets_TrackTimeEvents_10 : ∃ (s : State), (stopped s = false) ∧ (s.pins.ppsOut = true) ∧ ((s.pins.ppsSecond -
  1) * 1000000000 + 100000 ≤ now s) :=
  ⟨{ State.reset with tt := { tt := 3000100000 }, pins := { ppsOut := true, ppsSecond := 4 } }, by decide +kernel⟩

theorem meets_LegAndMinuteBoundaries_1 : ∃ (s : State), (stopped s = false) ∧ (legDue s = true) ∧ (dueBefore s
  (legTime s) = false) ∧ (applicationFirst s .tt (legTime s) = false) ∧ (now s / minuteNs = s.tt.lastLeg / minuteNs) ∧
  (applyAsked s .nrg = false) ∧ (enabled s .nrg = false) ∧ (s.nrg.rodWrites = []) ∧ (s.nrg.rodLate = []) ∧
  (s.nrg.lateCredits = []) :=
  ⟨{ State.reset with tt := { tt := 3500000 } }, by decide +kernel⟩

theorem meets_LegAndMinuteBoundaries_2 : ∃ (s : State), (stopped s = false) ∧ (legDue s = true) ∧ (dueBefore s
  (legTime s) = false) ∧ (applicationFirst s .tt (legTime s) = false) ∧ (now s / minuteNs = s.tt.lastLeg / minuteNs) ∧
  (applyAsked s .nrg = false) ∧ (enabled s .nrg = true) ∧ (s.nrg.metering = true) ∧ (s.nrg.closed = none) :=
  ⟨({ State.reset with tt := { tt := 3500000 }, nrg := { metering := true, leg := { est := [(3, 99)] } } } : State).wr (enableField .nrg) 1, by decide +kernel⟩

theorem meets_LegAndMinuteBoundaries_3 : ∃ (s : State) (a : Nat), (stopped s = false) ∧ (legDue s = true) ∧ (dueBefore
  s (legTime s) = false) ∧ (applicationFirst s .tt (legTime s) = false) ∧ (now s / minuteNs = s.tt.lastLeg / minuteNs)
  ∧ (applyAsked s .nrg = false) ∧ (enabled s .nrg = true) ∧ (s.nrg.metering = true) ∧ (s.nrg.closed = none) ∧ (a <
  4096) ∧ (pairState s < 4) ∧ (s.nrg.rodWrites = []) ∧ (s.nrg.lateCredits = []) ∧ (s.rd NRG_ROD.enable a = 1) ∧
  (balanceOf s a < (s.rd NRG_ROD.burst_cap a : Int)) :=
  ⟨withRegs { State.reset with tt := { tt := 3500000 }, nrg := { metering := true } } [(enableField .nrg, 0, 1), (NRG_ROD.enable, 9, 1), (NRG_ROD.burst_cap, 9, 50), (NRG_ROD.allot, 9, 70)], 9, by decide +kernel⟩

theorem meets_LegAndMinuteBoundaries_4 : ∃ (s : State), (stopped s = false) ∧ (minuteReached s = true) ∧ (legDue s =
  false) :=
  ⟨{ State.reset with tt := { tt := 60000000000, lastLeg := 60000000000, legAdopt := some 250 } }, by decide +kernel⟩

theorem meets_LegAndMinuteBoundaries_5 : ∃ (s : State) (v : Nat), (stopped s = false) ∧ (minuteReached s = true) ∧
  (legDue s = true) ∧ (dueBefore s (legTime s) = false) ∧ (applicationFirst s .tt (legTime s) = false) ∧ (now s /
  minuteNs ≠ s.tt.lastLeg / minuteNs) ∧ (applyAsked s .nrg = false) ∧ (enabled s .nrg = false) ∧ (s.nrg.rodWrites =
  []) ∧ (s.nrg.rodLate = []) ∧ (s.nrg.lateCredits = []) ∧ (s.tt.legAdopt = some v) ∧ (s.staged = []) :=
  ⟨{ State.reset with tt := { tt := 60000000000, legAdopt := some 250 } }, 250, by decide +kernel⟩

theorem meets_MeteringAndCommit_1 : ∃ (s : State) (_ _ _ : Nat), (stopped s = false) ∧ (enabled s .nrg = true) ∧
  (s.nrg.metering = true) :=
  ⟨({ State.reset with nrg := { metering := true } } : State).wr (enableField .nrg) 1 |>.wr NRG_RAIL.fs_ma 4095000 |>.wr NRG_RAIL.v_mv 750, 77, 78, 79, by decide +kernel⟩

theorem meets_MeteringAndCommit_2 : ∃ (s : State) (_ _ _ : Nat), (stopped s = false) ∧ (enabled s .nrg = true) ∧
  (s.nrg.metering = true) :=
  ⟨({ State.reset with nrg := { metering := true } } : State).wr (enableField .nrg) 1 |>.wr NRG_RAIL.fs_ma 4095000 |>.wr NRG_RAIL.v_mv 750, 77, 78, 79, by decide +kernel⟩

theorem meets_MeteringAndCommit_3 : ∃ (s : State) (_ _ _ : Nat), (stopped s = false) ∧ (s.nrg.metering = false) :=
  ⟨State.reset, 77, 78, 79, by decide +kernel⟩

theorem meets_MeteringAndCommit_4 : ∃ (s : State) (c : ClosedLeg) (a : Nat), (stopped s = false) ∧ (s.nrg.closed =
  some c) ∧ (enabled s .nrg = true) ∧ (a < 4096) ∧ (s.nrg.reports = []) :=
  ⟨({ State.reset with nrg := { closed := some ⟨{ est := [(3, 9999999)], act := [(3 * 4096 + 7, 555)] }, 5, none, 0, 250⟩ } } : State).wr (enableField .nrg) 1, ⟨{ est := [(3, 9999999)], act := [(3 * 4096 + 7, 555)] }, 5, none, 0, 250⟩, 7, by decide +kernel⟩

theorem meets_MeteringAndCommit_5 : ∃ (s : State) (c : ClosedLeg), (stopped s = false) ∧ (s.nrg.closed = some c) ∧
  (enabled s .nrg = true) :=
  ⟨({ State.reset with nrg := { closed := some ⟨{ est := [(3, 9999999)], act := [(3 * 4096 + 7, 555)] }, 5, none, 0, 250⟩ } } : State).wr (enableField .nrg) 1, ⟨{ est := [(3, 9999999)], act := [(3 * 4096 + 7, 555)] }, 5, none, 0, 250⟩, by decide +kernel⟩

theorem meets_LegSplitConservesBeads_1 : ∃ (_ : LegCounts) (_ _ : Nat) (charge : Map Nat), (Map.wf charge 0 = true) :=
  ⟨{ est := [(3, 7)] }, 0, 10, [(5, 1)], by decide +kernel⟩

theorem meets_CreditsLedgerAndSnapshots_1 : ∃ (s : State) (who : Initiator) (a _ : Nat), (stopped s = false) ∧
  (writable who NRG_CREDIT.account 0 s = true) ∧ (a < 4096) ∧ (legDue s = false) :=
  ⟨State.reset, .host 0, 4095, 0xFFFFFFFFFFFF, by decide +kernel⟩

theorem meets_CreditsLedgerAndSnapshots_2 : ∃ (s : State) (who : Initiator) (a d : Nat), (stopped s = false) ∧
  (writable who NRG_CREDIT.account 0 s = true) ∧ (a < 4096) ∧ (d < 2 ^ 48) ∧ (legDue s = true) :=
  ⟨{ State.reset with tt := { tt := 3500000 } }, .host 0, 4095, 0xFFFFFFFFFFFF, by decide +kernel⟩

theorem meets_CreditsLedgerAndSnapshots_3 : ∃ (s : State) (c : MinuteClose), (stopped s = false) ∧ (s.nrg.minuteDue =
  some c) ∧ (enabled s .nrg = true) ∧ (s.rd NRG_CTL.ledger_en = 0) ∧ (s.rd NRG_CTL.snap_en = 1) ∧ (s.rd
  NRG_SNAP_SEQ.ready = 0) :=
  ⟨({ State.reset with nrg := { minuteDue := some { start := 120000000000 } } } : State).wr (enableField .nrg) 1 |>.wr NRG_CTL.snap_en 1 |>.wr NRG_ROD.consumed 9 3, { start := 120000000000 }, by decide +kernel⟩

theorem meets_CreditsLedgerAndSnapshots_4 : ∃ (s : State) (c : MinuteClose), (stopped s = false) ∧ (s.nrg.minuteDue =
  some c) ∧ (enabled s .nrg = true) ∧ (s.rd NRG_CTL.ledger_en = 0) ∧ (s.rd NRG_CTL.snap_en = 1) ∧ (s.rd
  NRG_SNAP_SEQ.ready = 1) :=
  ⟨({ State.reset with nrg := { minuteDue := some { start := 120000000000 } } } : State).wr (enableField .nrg) 1 |>.wr NRG_CTL.snap_en 1 |>.wr NRG_SNAP_SEQ.ready 1, { start := 120000000000 }, by decide +kernel⟩

theorem meets_CreditsLedgerAndSnapshots_5 : ∃ (s : State) (c : MinuteClose), (stopped s = false) ∧ (s.nrg.minuteDue =
  some c) ∧ (enabled s .nrg = true) ∧ (s.rd NRG_CTL.ledger_en = 1) ∧ (s.rd NRG_CTL.snap_en = 0) ∧ (minuteFits s
  (c.records.length + 1) = false) :=
  ⟨({ State.reset with nrg := { minuteDue := some { start := 120000000000 } } } : State).wr (enableField .nrg) 1 |>.wr NRG_CTL.ledger_en 1 |>.wr NRG_CTL.snap_en 0, { start := 120000000000 }, by decide +kernel⟩

theorem meets_CreditsLedgerAndSnapshots_6 : ∃ (s : State) (c : MinuteClose), (stopped s = false) ∧ (s.nrg.minuteDue =
  some c) ∧ (enabled s .nrg = true) ∧ (s.rd NRG_CTL.ledger_en = 1) ∧ (s.rd NRG_CTL.snap_en = 0) ∧ (c.records = []) ∧
  (s.nrg.backlog = []) ∧ (ledgerRoom s = true) ∧ (s.nrg.prod < 2 ^ 32) :=
  ⟨({ State.reset with nrg := { minuteDue := some { start := 120000000000 } }, hif := { fns := [(0, { bme := true })] } } : State).wr (enableField .nrg) 1 |>.wr NRG_CTL.ledger_en 1 |>.wr NRG_CTL.snap_en 0 |>.wr HIF_PF_CFG.enable 1, { start := 120000000000 }, by decide +kernel⟩

theorem meets_CreditsLedgerAndSnapshots_7 : ∃ (s : State) (who : Initiator) (_ : Nat), (stopped s = false) ∧ (writable
  who NRG_LEDGER_CONS.cons 0 s = true) ∧ (s.nrg.backlog = []) :=
  ⟨State.reset, .host 0, 7, by decide +kernel⟩

theorem meets_CreditsLedgerAndSnapshots_8 : ∃ (s : State) (who : Initiator) (v x : Nat), (stopped s = false) ∧
  (writable who NRG_LEDGER_CONS.cons 0 s = true) ∧ (enabled s .nrg = true) ∧ (s.nrg.backlog = [x]) ∧ (ledgerRoom (s.wr
  NRG_LEDGER_CONS.cons v) = true) ∧ (s.nrg.prod < 2 ^ 32) :=
  ⟨({ State.reset with nrg := { backlog := [2], prod := 8192 }, hif := { fns := [(0, { bme := true })] } } : State).wr HIF_PF_CFG.enable 1 |>.wr (enableField .nrg) 1, .host 0, 1, 2, by decide +kernel⟩

theorem meets_CreditsLedgerAndSnapshots_9 : ∃ (s : State) (who : Initiator), (stopped s = false) ∧ (writable who
  NRG_SNAP_SEQ.done 0 s = true) :=
  ⟨State.reset, .host 0, by decide +kernel⟩

theorem meets_PowerDomainsAndThermalLevels_1 : ∃ (s : State) (d : Nat), (stopped s = false) ∧ (domainState s d = .on)
  ∧ (gateOn s d = true) ∧ (domainBusy s d = false) ∧ (d < 120) ∧ (idleLongEnough s d = true) :=
  ⟨({ State.reset with tt := { tt := 9000000000 } } : State).wr NRG_CTL.gate_rly 1, 5, by decide +kernel⟩

theorem meets_PowerDomainsAndThermalLevels_2_1 : ∃ (s : State) (d : Nat), (stopped s = false) ∧ (domainState s d =
  .on) ∧ (gateOn s d = true) ∧ (domainBusy s d = false) ∧ ((64 ≤ d ∧ d < 72) ∨ idleLongEnough s d = true) :=
  ⟨({ State.reset with tt := { tt := 9000000000 } } : State).wr NRG_CTL.gate_cip 1, 80, by decide +kernel⟩

theorem meets_PowerDomainsAndThermalLevels_2_2 : ∃ (s : State) (d : Nat), (stopped s = false) ∧ (domainState s d =
  .on) ∧ (gateOn s d = true) ∧ (domainBusy s d = false) ∧ ((64 ≤ d ∧ d < 72) ∨ idleLongEnough s d = true) :=
  ⟨({ State.reset with nrg := { domains := (List.range 8).map fun i => (8 + i, .off) } } : State).wr NRG_CTL.gate_rly 1, 65, by decide +kernel⟩

theorem meets_PowerDomainsAndThermalLevels_3 : ∃ (s : State) (d : Nat), (stopped s = false) ∧ (domainState s d =
  .switchingOff) ∧ (domainBusy s d = false) :=
  ⟨{ State.reset with nrg := { domains := [(80, .switchingOff)] } }, 80, by decide +kernel⟩

theorem meets_PowerDomainsAndThermalLevels_4 : ∃ (s : State) (d : Nat), (stopped s = false) ∧ (domainState s d = .off)
  ∧ (d < 96 ∨ d < 112 ∧ domainBusy s d = true) :=
  ⟨{ State.reset with nrg := { domains := [(97, .off)] } }, 97, by decide +kernel⟩

theorem meets_PowerDomainsAndThermalLevels_5 : ∃ (s : State) (d : Nat), (stopped s = false) ∧ (domainState s d =
  .switchingOff) ∧ (domainBusy s d = false) ∧ (d < 120) :=
  ⟨{ State.reset with nrg := { domains := [(5, .switchingOff)] } }, 5, by decide +kernel⟩

theorem meets_PowerDomainsAndThermalLevels_6 : ∃ (s : State) (d : Nat), (stopped s = false) ∧ (domainState s d =
  .switchingOff) ∧ (domainBusy s d = true) ∧ (d < 120) ∧ (s.nrg.metering = true) :=
  ⟨({ State.reset with nrg := { metering := true, domains := [(5, .switchingOff)] } } : State).wr RLY_THCTX.state 1 41, 5, by decide +kernel⟩

theorem meets_PowerDomainsAndThermalLevels_7 : ∃ (s : State) (d : Nat), (stopped s = false) ∧ (domainState s d = .off)
  ∧ (d < 96) ∧ (s.nrg.metering = true) :=
  ⟨{ State.reset with nrg := { metering := true, domains := [(80, .off)] } }, 80, by decide +kernel⟩

theorem meets_PowerDomainsAndThermalLevels_8 : ∃ (s : State) (rs : List Nat), (stopped s = false) ∧ (rs.length = 24) ∧
  ((hottest rs).2 ≤ 460) :=
  ⟨State.reset.wr NRG_THERM.warn_c 95, [400, 1, 2, 3, 4, 5, 6, 7, 8, 9, 10, 11, 12, 13, 14, 15, 16, 17, 18, 19, 20, 21, 22, 23], by decide +kernel⟩

theorem meets_PowerDomainsAndThermalLevels_9 : ∃ (s : State) (rs : List Nat), (stopped s = false) ∧ (rs.length = 24) ∧
  (460 < (hottest rs).2) :=
  ⟨State.reset, [400, 1, 2, 3, 4, 5, 6, 7, 8, 9, 10, 11, 12, 13, 14, 15, 16, 17, 18, 19, 20, 21, 22, 461], by decide +kernel⟩

theorem meets_DoorbellsAndPushes_1 : ∃ (s : State) (f off v q : Nat), (stopped s = false) ∧ (standby s = false) ∧
  (mirrors s = false) ∧ (inBar2 s f off = true) ∧ (doorbellQueue s f off = some q) ∧ (off % 0x80 = 0) ∧
  (takesDoorbells (queueState s q) = true) ∧ (bitsAt v 32 8 = s.rd WQ_CTX.gen q) ∧ (subMod 32 (bitsAt v 0 32) (s.rd
  WQ_CTX.dev_prod q) < 2 ^ 31) ∧ (subMod 32 (bitsAt v 0 32) (s.rd WQ_CTX.done_head q) ≤ queueSlots s q) ∧ (q < 65536)
  :=
  ⟨queueOn [], 0, 0x180, 7, 3, by decide +kernel⟩

theorem meets_DoorbellsAndPushes_2 : ∃ (s : State) (f off v q : Nat), (stopped s = false) ∧ (standby s = false) ∧
  (inBar2 s f off = true) ∧ (doorbellQueue s f off = some q) ∧ (off % 0x80 = 0) ∧ (bitsAt v 32 8 ≠ s.rd WQ_CTX.gen q)
  :=
  ⟨queueOn [], 0, 0x180, 0x100000007, 3, by decide +kernel⟩

theorem meets_DoorbellsAndPushes_3 : ∃ (s : State) (f off img q : Nat), (stopped s = false) ∧ (standby s = false) ∧
  (mirrors s = false) ∧ (inBar2 s f off = true) ∧ (doorbellQueue s f off = some q) ∧ (off % 0x80 = 0x40) ∧ (queueState
  s q = qActive) ∧ (bitsAt img 8 4 = 1) ∧ (s.rd WQ_CTX.fetch_idx q = s.rd WQ_CTX.dev_prod q) ∧ (s.rd WQ_CTX.dev_prod q
  < 2 ^ 32) ∧ (bitsAt img 16 16 = expectedSseq s q) ∧ (s.pushHeld < 256) ∧ ((queueInt s q).pushed = none) ∧ (subMod 32
  (s.rd WQ_CTX.dev_prod q + 1) (s.rd WQ_CTX.done_head q) ≤ queueSlots s q) ∧ (q < 65536) :=
  ⟨queueOn [], 0, 0x1C0, 0x10100, 3, by decide +kernel⟩

theorem meets_DoorbellsAndPushes_4 : ∃ (s : State) (f off _ _ : Nat), (stopped s = false) ∧ (inBar2 s f off = false)
  :=
  ⟨State.reset, 0, 0x800000, 8, 3, by decide +kernel⟩

theorem meets_DoorbellsAndPushes_5 : ∃ (s : State) (f off _ _ : Nat), (stopped s = false) ∧ (inBar2 s f off = false)
  :=
  ⟨State.reset, 8, 0x1000, 64, 3, by decide +kernel⟩

theorem meets_DoorbellsAndPushes_6 : ∃ (s : State) (f off _ _ : Nat), (stopped s = false) ∧ (standby s = false) ∧
  (inBar2 s f off = true) ∧ (doorbellQueue s f off = none) :=
  ⟨queueOn [], 1, 0x1C0, 64, 3, by decide +kernel⟩

theorem meets_ArbitrationAndFetch_1 : ∃ (s : State) (q : Nat), (stopped s = false) ∧ (chooseQueue s = some (q, s)) ∧
  ((queueInt s q).pushed = none) ∧ (q < 65536) :=
  ⟨withRegs (queueOn []) [(WQ_CTX.dev_prod, 3, 2)], 3, by decide +kernel⟩

theorem meets_ArbitrationAndFetch_2 : ∃ (s t : State) (q : Nat), (stopped s = false) ∧ (chooseQueue s = some (q, t))
  :=
  ⟨withRegs (queueOn []) [(WQ_CTX.dev_prod, 3, 2)], withRegs (queueOn []) [(WQ_CTX.dev_prod, 3, 2)], 3, by decide +kernel⟩

theorem meets_ArbitrationAndFetch_3 : ∃ (s : State), (stopped s = false) ∧ (chooseQueue s = none) :=
  ⟨queueOn [], by decide +kernel⟩

theorem meets_ArbitrationAndFetch_4 : ∃ (s : State) (q : Nat) (fe : Fetch) (_ : List Byte), (stopped s = false) ∧
  (fetchOut s q = true) ∧ ((queueInt (endRead s (.ringFetch q)) q).fetch = some fe) ∧ (queueState (endRead s
  (.ringFetch q)) q = qActive) ∧ (fnLive (endRead s (.ringFetch q)) (queueFn (endRead s (.ringFetch q)) q) = true) :=
  ⟨withRegs { queueOn [] with queues := [(3, { fetch := some ⟨0, 1, 1, false, none, false⟩ })], hif := { fns := [(0, { bme := true })], reqs := [⟨0, 0, 0, .ringFetch 3, false, 0⟩] } } [(WQ_CTX.dev_prod, 3, 1)], 3, ⟨0, 1, 1, false, none, false⟩, leBytes 32 0x10100, by decide +kernel⟩

theorem meets_ArbitrationAndFetch_5 : ∃ (s : State) (q : Nat) (fe : Fetch) (_ : List Byte), (stopped s = false) ∧
  (fetchOut s q = true) ∧ ((queueInt (endRead s (.ringFetch q)) q).fetch = some fe) ∧ (queueState (endRead s
  (.ringFetch q)) q = qActive) :=
  ⟨{ queueOn [] with queues := [(3, { fetch := some ⟨0, 1, 1, false, none, false⟩ })], hif := { fns := [(0, { bme := true })], reqs := [⟨0, 0, 0, .ringFetch 3, false, 0⟩] } }, 3, ⟨0, 1, 1, false, none, false⟩, [], by decide +kernel⟩

theorem meets_ArbitrationAndFetch_6 : ∃ (s : State) (q : Nat) (fe : Fetch) (_ : Bool) (_ : List Byte), (stopped s =
  false) ∧ ((queueInt (endRead s (.ringFetch q)) q).fetch = some fe) ∧ (queueState (endRead s (.ringFetch q)) q ≠
  qActive) :=
  ⟨withRegs { queueOn [] with queues := [(3, { fetch := some ⟨0, 1, 1, false, none, false⟩ })], hif := { fns := [(0, { bme := true })], reqs := [⟨0, 0, 0, .ringFetch 3, false, 0⟩] } } [(WQ_CTX.state, 3, 3)], 3, ⟨0, 1, 1, false, none, false⟩, true, [], by decide +kernel⟩

theorem meets_ArbitrationAndFetch_7 : ∃ (s : State) (q : Nat) (fe : Fetch) (_ : Bool) (_ : List Byte), (stopped s =
  false) ∧ (fetchOut s q = false) ∧ ((queueInt (endRead s (.ringFetch q)) q).fetch = some fe) ∧ (queueState (endRead s
  (.ringFetch q)) q = qActive) :=
  ⟨{ queueOn [] with queues := [(3, { fetch := some ⟨0, 1, 1, false, none, false⟩ })] }, 3, ⟨0, 1, 1, false, none, false⟩, true, [], by decide +kernel⟩

theorem meets_ArbitrationAndFetch_8 : ∃ (s : State) (q : Nat) (fe : Fetch) (data : List Byte), (stopped s = false) ∧
  (q < 65536) ∧ (fetchOut s q = true) ∧ ((queueInt s q).fetch = some fe) ∧ (queueState s q = qActive) ∧ (fnLive s
  (queueFn s q) = true) ∧ (fe.allow = 1) ∧ (fe.slots = 1) ∧ (fe.refuse = false) ∧ (fe.start < 2 ^ 32) ∧ (data.length =
  32) ∧ (leAt data 0 2 = 0x0100) ∧ (leAt data 2 2 = expectedSseq s q) ∧ (subMod 32 (s.rd WQ_CTX.dev_prod q) fe.start ≥
  1) ∧ (s.on CQ_CTX.stalled (s.rd WQ_CTX.cq_ring q) = false) ∧ (s.rd WQ_CTX.cq_ring q < 16384) ∧ (hurdleHolds s q =
  false) ∧ (engineReady s q = true) ∧ (s.pair.handover = false) ∧ (placeCause s (s.rd WQ_CTX.cq_ring q) = 0) ∧
  (mirrors s = false) :=
  ⟨withRegs { queueOn [] with queues := [(3, { fetch := some ⟨0, 1, 1, false, none, false⟩ })], hif := { fns := [(0, { bme := true })], reqs := [⟨0, 0, 0, .ringFetch 3, false, 0⟩] } } [(WQ_CTX.dev_prod, 3, 1)], 3, ⟨0, 1, 1, false, none, false⟩, leBytes 32 0x10100, by decide +kernel⟩

theorem meets_ArbitrationAndFetch_9 : ∃ (s : State) (q : Nat) (fe : Fetch) (_ : List Byte), (stopped s = false) ∧ (q <
  65536) ∧ (fetchOut s q = true) ∧ ((queueInt s q).fetch = some fe) ∧ (queueState s q = qActive) ∧ (fe.retried = true)
  ∧ ((queueInt s q).pushed = none) :=
  ⟨{ queueOn [] with queues := [(3, { fetch := some ⟨0, 1, 1, false, none, true⟩ })], hif := { fns := [(0, { bme := true })], reqs := [⟨0, 0, 0, .ringFetch 3, false, 0⟩] } }, 3, ⟨0, 1, 1, false, none, true⟩, [], by decide +kernel⟩

theorem meets_ArbitrationAndFetch_10 : ∃ (s : State) (q idx : Nat), (stopped s = false) ∧ (q < 65536) ∧ ((queueInt s
  q).padAt = some idx) ∧ (toRingEnd s q idx ≤ subMod 32 (s.rd WQ_CTX.dev_prod q) idx) ∧ ((queueInt s q).padAllow = 0)
  :=
  ⟨withRegs { queueOn [] with queues := [(3, { padAt := some 30 })] } [(WQ_CTX.dev_prod, 3, 33)], 3, 30, by decide +kernel⟩

theorem meets_ArbitrationAndFetch_11 : ∃ (s : State) (q idx : Nat), (stopped s = false) ∧ ((queueInt s q).padAt = some
  idx) ∧ (toRingEnd s q idx ≤ subMod 32 (s.rd WQ_CTX.dev_prod q) idx) ∧ ((queueInt s q).fetch = none) ∧ ((queueInt
  (passPads (updQueue (deltaQueue (s.wr WQ_CTX.fetch_idx (addMod 32 idx (toRingEnd s q idx)) q) q) q fun x =>
  { x with padAt := none, pads := x.pads ++ [(idx, addMod 32 idx (toRingEnd s q idx))] }) q) q).padAllow = 0) :=
  ⟨withRegs { queueOn [] with queues := [(3, { padAt := some 30 })] } [(WQ_CTX.dev_prod, 3, 33)], 3, 30, by decide +kernel⟩

theorem meets_ArbitrationAndFetch_12 : ∃ (s : State) (q idx : Nat), (stopped s = false) ∧ ((queueInt s q).padAt = some
  idx) ∧ (toRingEnd s q idx ≤ subMod 32 (s.rd WQ_CTX.dev_prod q) idx) ∧ ((queueInt s q).fetch = none) ∧ (0 < (queueInt
  s q).padAllow) ∧ ((passPads (updQueue (deltaQueue (s.wr WQ_CTX.fetch_idx (addMod 32 idx (toRingEnd s q idx)) q) q) q
  fun x => { x with padAt := none, pads := x.pads ++ [(idx, addMod 32 idx (toRingEnd s q idx))] }) q).rd
  WQ_CTX.dev_prod q ≠ addMod 32 idx (toRingEnd s q idx)) ∧ (queueState (passPads (updQueue (deltaQueue (s.wr
  WQ_CTX.fetch_idx (addMod 32 idx (toRingEnd s q idx)) q) q) q fun x =>
  { x with padAt := none, pads := x.pads ++ [(idx, addMod 32 idx (toRingEnd s q idx))] }) q) q = qActive) :=
  ⟨withRegs { queueOn [] with queues := [(3, { padAt := some 30, padAllow := 2 })] } [(WQ_CTX.dev_prod, 3, 33)], 3, 30, by decide +kernel⟩

theorem meets_QueueControl_1 : ∃ (s : State) (q sseq : Nat) (e : Entry), (stopped s = false) ∧ (beginnable s q sseq
  0x00 = some e) :=
  ⟨queueOn [{ raw := 0x10100 }], 3, 1, { raw := 0x10100 }, by decide +kernel⟩

theorem meets_QueueControl_2 : ∃ (s : State) (q sseq : Nat) (e : Entry), (stopped s = false) ∧ (beginnable s q sseq
  0x00 = some e) :=
  ⟨queueOn [{ raw := 0x10100 }], 3, 1, { raw := 0x10100 }, by decide +kernel⟩

theorem meets_QueueControl_3 : ∃ (s : State) (q sseq u : Nat) (e : Entry), (stopped s = false) ∧ (beginnable s q sseq
  0x03 = some e) ∧ (ctlAction e = 0) ∧ (ctlTarget e = u) ∧ (u ≠ q) ∧ (ctlOwnerOk s q u = true) ∧ (namesQuiesced s q u
  = false) ∧ (startAllowed s u = true) :=
  ⟨withRegs (queueOn [{ raw := 0x10103 + 5 * 2 ^ 64 }]) [(WQ_CTX.state, 5, 3)], 3, 1, 5, { raw := 0x10103 + 5 * 2 ^ 64 }, by decide +kernel⟩

theorem meets_QueueControl_4 : ∃ (s : State) (q sseq u : Nat) (e : Entry), (stopped s = false) ∧ (beginnable s q sseq
  0x03 = some e) ∧ (ctlAction e = 1) ∧ (ctlTarget e = u) ∧ (u ≠ q) ∧ (ctlOwnerOk s q u = true) ∧ (namesQuiesced s q u
  = false) ∧ (stoppable (queueState s u) = true) :=
  ⟨withRegs (queueOn [{ raw := 0x10103 + 5 * 2 ^ 64 + 2 ^ 80 }]) [(WQ_CTX.state, 5, 1)], 3, 1, 5, { raw := 0x10103 + 5 * 2 ^ 64 + 2 ^ 80 }, by decide +kernel⟩

theorem meets_QueueControl_5 : ∃ (s : State) (q sseq u : Nat) (e : Entry), (stopped s = false) ∧ (beginnable s q sseq
  0x03 = some e) ∧ (ctlAction e = 2) ∧ (ctlTarget e = u) ∧ (u ≠ q) ∧ (ctlOwnerOk s q u = true) ∧ (namesQuiesced s q u
  = false) ∧ (queueState s u = qStopped) :=
  ⟨withRegs (queueOn [{ raw := 0x10103 + 5 * 2 ^ 64 + 2 ^ 81 }]) [(WQ_CTX.state, 5, 3)], 3, 1, 5, { raw := 0x10103 + 5 * 2 ^ 64 + 2 ^ 81 }, by decide +kernel⟩

theorem meets_QueueControl_6 : ∃ (s : State) (who : Initiator) (u : Nat), (stopped s = false) ∧ (writable who
  WQ_QCMD.go 0 s = true) ∧ (s.rd WQ_QCMD.busy = 0) ∧ (startAllowed s u = true) :=
  ⟨withRegs (queueOn []) [(WQ_CTX.state, 5, 3)], .host 0, 5, by decide +kernel⟩

theorem meets_QueueControl_7 : ∃ (s : State) (who : Initiator) (u : Nat), (stopped s = false) ∧ (writable who
  WQ_QCMD.go 0 s = true) ∧ (s.rd WQ_QCMD.busy = 0) ∧ (startAllowed s u = false) :=
  ⟨queueOn [], .host 0, 3, by decide +kernel⟩

theorem meets_QueueControl_8 : ∃ (s : State) (who : Initiator) (u : Nat), (stopped s = false) ∧ (writable who
  WQ_QCMD.go 0 s = true) ∧ (s.rd WQ_QCMD.busy = 0) ∧ (stoppable (queueState s u) = true) :=
  ⟨queueOn [], .host 0, 3, by decide +kernel⟩

theorem meets_QueueControl_9 : ∃ (s : State) (who : Initiator) (u : Nat), (stopped s = false) ∧ (writable who
  WQ_QCMD.go 0 s = true) ∧ (s.rd WQ_QCMD.busy = 0) ∧ (queueState s u = qStopped) :=
  ⟨withRegs (queueOn []) [(WQ_CTX.state, 5, 3)], .host 0, 5, by decide +kernel⟩

theorem meets_QueueControl_10 : ∃ (s : State) (q sseq u : Nat) (e : Entry), (stopped s = false) ∧ (beginnable s q sseq
  0x03 = some e) ∧ (ctlAction e = 0) ∧ (ctlTarget e = u) ∧ (u ≠ q) ∧ (u < 65536) ∧ (ctlOwnerOk s q u = true) ∧
  (namesQuiesced s q u = false) ∧ (queueState s u = qStopped) :=
  ⟨withRegs (queueOn [{ raw := 0x10103 + 5 * 2 ^ 64 }]) [(WQ_CTX.state, 5, 3)], 3, 1, 5, { raw := 0x10103 + 5 * 2 ^ 64 }, by decide +kernel⟩

theorem meets_QueueControl_11 : ∃ (s : State) (q sseq u : Nat) (e : Entry), (stopped s = false) ∧ (beginnable s q sseq
  0x03 = some e) ∧ (ctlAction e = 0) ∧ (ctlTarget e = u) ∧ (u ≠ q) ∧ (ctlOwnerOk s q u = false) ∧ (namesQuiesced s q u
  = false) :=
  ⟨withRegs (queueOn [{ raw := 0x10103 + 37 * 2 ^ 64 }]) [(WQ_GROUP_OWNER.pf, 0, 1), (WQ_GROUP_OWNER.valid, 1, 1), (WQ_GROUP_OWNER.pf, 1, 2)], 3, 1, 37, { raw := 0x10103 + 37 * 2 ^ 64 }, by decide +kernel⟩

theorem meets_QueueControl_12 : ∃ (s : State) (q sseq u : Nat) (e : Entry), (stopped s = false) ∧ (beginnable s q sseq
  0x03 = some e) ∧ (ctlAction e = 1) ∧ (ctlTarget e = u) ∧ (u ≠ q) ∧ (u < 65536) ∧ (ctlOwnerOk s q u = true) ∧
  (namesQuiesced s q u = false) ∧ (queueState s u = qActive) ∧ ((queueInt s u).entries = []) :=
  ⟨withRegs (queueOn [{ raw := 0x10103 + 5 * 2 ^ 64 + 2 ^ 80 }]) [(WQ_CTX.state, 5, 1)], 3, 1, 5, { raw := 0x10103 + 5 * 2 ^ 64 + 2 ^ 80 }, by decide +kernel⟩

theorem meets_QueueControl_13 : ∃ (s : State) (q sseq u : Nat) (e : Entry), (stopped s = false) ∧ (beginnable s q sseq
  0x03 = some e) ∧ (ctlAction e = 2) ∧ (ctlTarget e = u) ∧ (u ≠ q) ∧ (u < 65536) ∧ (ctlOwnerOk s q u = true) ∧
  (namesQuiesced s q u = false) ∧ (queueState s u = qStopped) :=
  ⟨withRegs (queueOn [{ raw := 0x10103 + 5 * 2 ^ 64 + 2 ^ 81 }]) [(WQ_CTX.state, 5, 3)], 3, 1, 5, { raw := 0x10103 + 5 * 2 ^ 64 + 2 ^ 81 }, by decide +kernel⟩

theorem meets_QueueControl_14 : ∃ (s : State) (who : Initiator) (u : Nat), (stopped s = false) ∧ (writable who
  WQ_QCMD.go 0 s = true) ∧ (s.rd WQ_QCMD.busy = 0) ∧ (u < 65536) ∧ (queueState s u = qStopped) :=
  ⟨withRegs (queueOn []) [(WQ_CTX.state, 5, 3)], .host 0, 5, by decide +kernel⟩

theorem meets_QueueControl_15 : ∃ (s : State) (who : Initiator) (u : Nat), (stopped s = false) ∧ (writable who
  WQ_QCMD.go 0 s = true) ∧ (s.rd WQ_QCMD.busy = 0) ∧ (u < 65536) ∧ (queueState s u = qActive) ∧ ((queueInt s
  u).entries = []) :=
  ⟨queueOn [], .host 0, 3, by decide +kernel⟩

theorem meets_QueueControl_16 : ∃ (s : State) (who : Initiator) (u : Nat), (stopped s = false) ∧ (writable who
  WQ_QCMD.go 0 s = true) ∧ (s.rd WQ_QCMD.busy = 0) ∧ (u < 65536) ∧ (queueState s u = qStopped) :=
  ⟨withRegs (queueOn []) [(WQ_CTX.state, 5, 3)], .host 0, 5, by decide +kernel⟩

theorem meets_QueueControl_17 : ∃ (s : State) (who : Initiator) (_ : Nat), (stopped s = false) ∧ (writable who
  WQ_QCMD.go 0 s = true) ∧ (s.rd WQ_QCMD.busy = 1) :=
  ⟨withRegs (queueOn []) [(WQ_QCMD.busy, 0, 1)], .host 0, 5, by decide +kernel⟩

theorem meets_ContextAndOwnerWrites_1 : ∃ (s : State) (q v : Nat), (stopped s = false) ∧ (q < 65536) ∧ (writable
  (.host 0) WQ_CTX.ring_base q s = true) ∧ (queueState s q = qDisabled) ∧ (s.rd WQ_CTX.ring_base q < 2 ^ 64) ∧ (v < 2
  ^ 64) :=
  ⟨State.reset, 9, 0x12345400, by decide +kernel⟩

theorem meets_ContextAndOwnerWrites_2 : ∃ (s : State) (q v : Nat), (stopped s = false) ∧ (q < 65536) ∧ (writable
  (.host 0) WQ_CTX.ring_base q s = true) ∧ (queueState s q ≠ qDisabled) ∧ (s.rd WQ_CTX.ring_base q < 2 ^ 64) ∧ (v < 2
  ^ 64) ∧ (v ≠ s.rd WQ_CTX.ring_base q) :=
  ⟨queueOn [], 3, 0x12345400, by decide +kernel⟩

theorem meets_ContextAndOwnerWrites_3 : ∃ (s : State) (q v p : Nat), (stopped s = false) ∧ (q < 65536) ∧ (1 ≤ p) ∧ (p
  < 8) ∧ (standby s = false) ∧ (mirrors s = false) ∧ (s.rd BOOT_STATUS.phase ≠ 4) ∧ (queueOwned s q = true) ∧
  (ownedByPf s p (queueFn s q) = false) ∧ (s.rd WQ_CTX.ring_base q < 2 ^ 64) ∧ (v < 2 ^ 64) ∧ (v ≠ s.rd
  WQ_CTX.ring_base q) ∧ (s.rd WQ_PRIV_DROP.count + 1 < 2 ^ WQ_PRIV_DROP.count.width) :=
  ⟨queueOn [], 3, 0x12345400, 1, by decide +kernel⟩

theorem meets_ContextAndOwnerWrites_4 : ∃ (s : State) (r v : Nat), (stopped s = false) ∧ (r < 16384) ∧ (writable
  (.host 0) CQ_CTX.base r s = true) ∧ (ringInUse s r = false) ∧ (s.rd CQ_CTX.base r < 2 ^ 64) ∧ (v < 2 ^ 64) :=
  ⟨State.reset, 9, 0x12345400, by decide +kernel⟩

theorem meets_ContextAndOwnerWrites_5 : ∃ (s t : State) (q off len v : Nat) (k : Nat), (stopped s = false) ∧ (t =
  contextWrite (.steward k) .wq (0x01400000 + q % 65536 * 0x40 + off % 0x40) len v (decide (queueState s q ≠
  qDisabled)) (queueOwned s q) pfMayWriteQueueField WQ_PRIV_DROP.count s) :=
  ⟨queueOn [], (queueOn []).wr WQ_CTX.ring_base 0x12345400 9, 9, 64, 8, 0x12345400, 1, by decide +kernel⟩

theorem meets_ContextAndOwnerWrites_6 : ∃ (s t : State) (r off len v : Nat) (k : Nat), (stopped s = false) ∧ (t =
  contextWrite (.steward k) .cq (0x01800000 + r % 16384 * 0x40 + off % 0x40) len v (ringInUse s r) (s.on CQ_CTX.valid
  r) pfMayWriteRingField CQ_PRIV_DROP.count s) :=
  ⟨queueOn [], (queueOn []).wr CQ_CTX.base 0x12345400 9, 9, 64, 8, 0x12345400, 1, by decide +kernel⟩

theorem meets_ContextAndOwnerWrites_7 : ∃ (s t : State) (p q off len v : Nat), (stopped s = false) ∧ (p < 8) ∧ (len =
  4 ∨ len = 8) ∧ (off % len = 0) ∧ (standby s = false) ∧ (mirrors s = false) ∧ (s.rd BOOT_STATUS.phase ≠ 4) ∧ (t =
  contextWrite (.host p) .wq (0x01400000 + q % 65536 * 0x40 + off % 0x40) len v (decide (queueState s q ≠ qDisabled))
  (queueOwned s q && ownedByPf s p (queueFn s q)) pfMayWriteQueueField WQ_PRIV_DROP.count s) :=
  ⟨queueOn [], (queueOn []).wr WQ_CTX.ring_base 0x12345400 9, 0, 9, 0, 8, 0x12345400, by decide +kernel⟩

theorem meets_ContextAndOwnerWrites_8 : ∃ (s t : State) (p r off len v : Nat), (stopped s = false) ∧ (p < 8) ∧ (len =
  4 ∨ len = 8) ∧ (off % len = 0) ∧ (standby s = false) ∧ (mirrors s = false) ∧ (s.rd BOOT_STATUS.phase ≠ 4) ∧ (t =
  contextWrite (.host p) .cq (0x01800000 + r % 16384 * 0x40 + off % 0x40) len v (ringInUse s r) (s.on CQ_CTX.valid r
  && ownedByPf s p (ringFn s r)) pfMayWriteRingField CQ_PRIV_DROP.count s) :=
  ⟨queueOn [], (queueOn []).wr CQ_CTX.base 0x12345400 9, 0, 9, 0, 8, 0x12345400, by decide +kernel⟩

theorem meets_ContextAndOwnerWrites_9 : ∃ (s : State) (who : Initiator) (g v : Nat), (stopped s = false) ∧ (g < 2048)
  ∧ (writable who WQ_GROUP_OWNER.pf g s = true) ∧ (((List.range 32).all fun j => queueState s (32 * g + j) =
  qDisabled) = true) ∧ (ownerWord s WQ_GROUP_OWNER.pf WQ_GROUP_OWNER.is_vf WQ_GROUP_OWNER.vf WQ_GROUP_OWNER.valid g ≠
  v % 2 ^ 17) :=
  ⟨State.reset, .host 0, 2047, 0x10004, by decide +kernel⟩

theorem meets_ContextAndOwnerWrites_10 : ∃ (s : State) (who : Initiator) (g v : Nat), (stopped s = false) ∧ (g < 2048)
  ∧ (writable who WQ_GROUP_OWNER.pf g s = true) ∧ (queueState s (32 * g) ≠ qDisabled) ∧ (ownerWord s WQ_GROUP_OWNER.pf
  WQ_GROUP_OWNER.is_vf WQ_GROUP_OWNER.vf WQ_GROUP_OWNER.valid g ≠ v % 2 ^ 17) :=
  ⟨(queueOn []).wr WQ_CTX.state 1 0, .host 0, 0, 0x10004, by decide +kernel⟩

theorem meets_ContextAndOwnerWrites_11 : ∃ (s : State) (who : Initiator), (stopped s = false) ∧ (reaches who
  Blk.wq.base = true) :=
  ⟨State.reset, .steward 3, by decide +kernel⟩

theorem meets_ContextAndOwnerWrites_12 : ∃ (s : State) (who : Initiator), (stopped s = false) ∧ (reaches who
  Blk.cq.base = true) :=
  ⟨State.reset, .host 0, by decide +kernel⟩

theorem meets_RetirementAndRecords_1 : ∃ (s : State) (q sseq : Nat) (e : Entry) (f : Finish), (stopped s = false) ∧ (q
  < 65536) ∧ ((queueInt s q).entries = [e]) ∧ (e.sseq = sseq) ∧ (e.outcome = some f) ∧ (e.decided = none) ∧ (f.status
  = stOk) ∧ (e.links = []) ∧ (e.inUnit = false) ∧ (e.wantsRecord = false) ∧ (e.op = 0) ∧ (s.rd WQ_CTX.type q ≠ 4) ∧
  ((fnSt s (queueFn s q)).flr = false) ∧ (s.hif.mig = []) ∧ (s.pair.handover = false) ∧ ((queueInt s q).pads = []) ∧
  (s.rd WQ_CTX.cq_ring q < 16384) :=
  ⟨queueOn [{ raw := 0x10100, outcome := some { status := 0 } }], 3, 1, { raw := 0x10100, outcome := some { status := 0 } }, { status := 0 }, by decide +kernel⟩

theorem meets_RetirementAndRecords_2 : ∃ (s : State) (q sseq : Nat) (e : Entry) (f : Finish), (stopped s = false) ∧
  (entryOf s q sseq = some e) ∧ (e.outcome = some f) :=
  ⟨queueOn [{ raw := 0x10100, outcome := some { status := 0 } }], 3, 1, { raw := 0x10100, outcome := some { status := 0 } }, { status := 0 }, by decide +kernel⟩

theorem meets_RetirementAndRecords_3 : ∃ (s : State) (q sseq : Nat) (e : Entry), (stopped s = false) ∧ (entryOf s q
  sseq = some e) ∧ (e.outcome = none) :=
  ⟨queueOn [{ raw := 0x10100 }], 3, 1, { raw := 0x10100 }, by decide +kernel⟩

theorem meets_RetirementAndRecords_4_1 : ∃ (s : State) (q : Nat), (stopped s = false) ∧ ((queueInt s q).sbDirty = true
  ∨ (queueInt s q).stallSeen ≠ s.on CQ_CTX.stalled (s.rd WQ_CTX.cq_ring q) ∨ (queueState s q = qStopping ∧ (queueInt s
  q).entries = [])) :=
  ⟨{ queueOn [] with queues := [(3, { sbDirty := true })] }, 3, by decide +kernel⟩

theorem meets_RetirementAndRecords_4_2 : ∃ (s : State) (q : Nat), (stopped s = false) ∧ ((queueInt s q).sbDirty = true
  ∨ (queueInt s q).stallSeen ≠ s.on CQ_CTX.stalled (s.rd WQ_CTX.cq_ring q) ∨ (queueState s q = qStopping ∧ (queueInt s
  q).entries = [])) :=
  ⟨withRegs (queueOn []) [(CQ_CTX.stalled, 0, 1)], 3, by decide +kernel⟩

theorem meets_RetirementAndRecords_4_3 : ∃ (s : State) (q : Nat), (stopped s = false) ∧ ((queueInt s q).sbDirty = true
  ∨ (queueInt s q).stallSeen ≠ s.on CQ_CTX.stalled (s.rd WQ_CTX.cq_ring q) ∨ (queueState s q = qStopping ∧ (queueInt s
  q).entries = [])) :=
  ⟨withRegs (queueOn []) [(WQ_CTX.state, 3, 2)], 3, by decide +kernel⟩

theorem meets_RetirementAndRecords_5 : ∃ (s : State) (q : Nat), (stopped s = false) ∧ ((queueInt s q).sbDirty = false)
  ∧ ((queueInt s q).stallSeen = s.on CQ_CTX.stalled (s.rd WQ_CTX.cq_ring q)) ∧ (queueState s q ≠ qStopping) :=
  ⟨queueOn [], 3, by decide +kernel⟩

theorem meets_RetirementAndRecords_6 : ∃ (s : State) (r : Nat), (stopped s = false) ∧ (moderationDue s r = true) :=
  ⟨withRegs { queueOn [] with rings := [(0, { since := 2, firstTt := some 5, modNs := 90 })], tt := { tt := 99 } } [(CQ_CTX.irq_en, 0, 1), (CQ_CTX.mod_ns, 0, 90)], 0, by decide +kernel⟩

theorem meets_RetirementAndRecords_7 : ∃ (s : State) (r v : Nat), (stopped s = false) ∧ (s.rd CQ_CTX.valid r = 1) ∧
  (fnLive s (ringFn s r) = true) ∧ (pollDue s r = true) ∧ (v < 2 ^ 32) ∧ (subMod 32 v (s.rd CQ_CTX.cons_seen r) < 2 ^
  31) ∧ (subMod 32 (s.rd CQ_CTX.prod r) v ≤ ringSlots s r) :=
  ⟨withRegs { queueOn [] with rings := [(0, { pollNow := true })] } [(CQ_CTX.prod, 0, 5)], 0, 5, by decide +kernel⟩

theorem meets_RetirementAndRecords_8 : ∃ (s : State) (r _ : Nat), (stopped s = false) ∧ (pollDue s r = false) :=
  ⟨queueOn [], 0, 1, by decide +kernel⟩

theorem meets_RetirementAndRecords_9 : ∃ (s : State) (q : Nat), (stopped s = false) ∧ (q < 65536) ∧ ((queueInt s
  q).sbDirty = true) ∧ (queueState s q = qActive) ∧ (fnLive s (queueFn s q) = true) ∧ (s.rd WQ_CTX.ats q = 0) ∧
  (pubWaits s = false) :=
  ⟨withRegs { queueOn [] with queues := [(3, { sbDirty := true })] } [(WQ_CTX.done_head, 3, 77)], 3, by decide +kernel⟩

theorem meets_RetirementAndRecords_10 : ∃ (s : State) (r v : Nat), (stopped s = false) ∧ (r < 16384) ∧ (s.rd
  CQ_CTX.valid r = 1) ∧ (fnLive s (ringFn s r) = true) ∧ (v < 2 ^ 32) ∧ (subMod 32 v (s.rd CQ_CTX.cons_seen r) < 2 ^
  31) ∧ (subMod 32 (s.rd CQ_CTX.prod r) v ≤ ringSlots s r) ∧ ((ringInt s r).backlog = []) ∧ (pollDue s r = true) :=
  ⟨withRegs { queueOn [] with rings := [(0, { pollNow := true })] } [(CQ_CTX.prod, 0, 5)], 0, 5, by decide +kernel⟩

theorem meets_RetirementAndRecords_11 : ∃ (s : State) (r v : Nat), (stopped s = false) ∧ (s.rd CQ_CTX.valid r = 1) ∧
  (fnLive s (ringFn s r) = true) ∧ (v < 2 ^ 32) ∧ (pollDue s r = true) ∧ (ringSlots s r < subMod 32 (s.rd CQ_CTX.prod
  r) v) :=
  ⟨{ queueOn [] with rings := [(0, { pollNow := true })] }, 0, 1, by decide +kernel⟩

theorem meets_RetirementAndRecords_12 : ∃ (s : State) (r : Nat), (stopped s = false) ∧ (r < 16384) ∧ (moderationDue s
  r = true) ∧ (pubWaits s = false) :=
  ⟨withRegs { queueOn [] with rings := [(0, { since := 2, firstTt := some 5, modNs := 90 })], tt := { tt := 99 } } [(CQ_CTX.irq_en, 0, 1), (CQ_CTX.mod_ns, 0, 90)], 0, by decide +kernel⟩

theorem meets_RetirementAndRecords_13 : ∃ (s : State) (l q sseq : Nat), (stopped s = false) ∧ (q < 65536) ∧ (s.flushes
  = [(l, q, sseq)]) ∧ (s.hif.reqs = []) ∧ ((queueInt s q).entries = []) ∧ (liveQueues s = [q]) ∧ (listedMembers s
  CQ_CTX.stalled = []) :=
  ⟨{ queueOn [] with flushes := [(2, 3, 9)], queues := [(3, { unflushed := [(9, 2)] })] }, 2, 3, 9, by decide +kernel⟩

theorem meets_RetirementAndRecords_14 : ∃ (s : State) (l q sseq : Nat), (stopped s = false) ∧ ((l, q, sseq) ∈
  s.flushes) ∧ (q < 65536) :=
  ⟨{ queueOn [] with flushes := [(2, 3, 9)], queues := [(3, { unflushed := [(9, 2)] })] }, 2, 3, 9, by decide +kernel⟩

theorem meets_RetirementAndRecords_15 : ∃ (s : State) (l c sseq : Nat), (stopped s = false) ∧ ((l, 0x10000 + c, sseq)
  ∈ s.flushes) ∧ ((chan s c).ending = none) :=
  ⟨{ queueOn [] with flushes := [(2, 0x10005, 0)], dma := { chans := [(5, { links := [2] })] } }, 2, 5, 0, by decide +kernel⟩

theorem meets_HurdlesAndAborts_1 : ∃ (s : State) (q sseq : Nat) (e : Entry), (stopped s = false) ∧ (beginnable s q
  sseq 0x01 = some e) ∧ ((e.word 2).testBit 10 = false) ∧ (hurdleInvalid s q e = false) :=
  ⟨queueOn [{ raw := 0x10101 }], 3, 1, { raw := 0x10101 }, by decide +kernel⟩

theorem meets_HurdlesAndAborts_2 : ∃ (s : State) (q sseq : Nat) (e : Entry), (stopped s = false) ∧ (beginnable s q
  sseq 0x01 = some e) :=
  ⟨queueOn [{ raw := 0x10101 }], 3, 1, { raw := 0x10101 }, by decide +kernel⟩

theorem meets_HurdlesAndAborts_3 : ∃ (s : State) (q sseq : Nat) (e : Entry), (stopped s = false) ∧ (entryOf s q sseq =
  some e) ∧ (e.op = 1) ∧ (e.begun = true) ∧ (e.outcome = none) ∧ (e.decided = none) ∧ (coversDone e = true) :=
  ⟨{ queueOn [{ raw := 0x10101, begun := true, acceptTt := 4 }] with tt := { tt := 50 } }, 3, 1, { raw := 0x10101, begun := true, acceptTt := 4 }, by decide +kernel⟩

theorem meets_HurdlesAndAborts_4 : ∃ (s : State) (q sseq : Nat) (e : Entry), (stopped s = false) ∧ (beginnable s q
  sseq 0x02 = some e) ∧ (ctlOwnerOk s q (bitsAt (e.word 2) 0 16) = false) :=
  ⟨withRegs (queueOn [{ raw := 0x10102 + 37 * 2 ^ 64 }]) [(WQ_GROUP_OWNER.pf, 0, 1), (WQ_GROUP_OWNER.valid, 1, 1), (WQ_GROUP_OWNER.pf, 1, 2)], 3, 1, { raw := 0x10102 + 37 * 2 ^ 64 }, by decide +kernel⟩

theorem meets_HurdlesAndAborts_5 : ∃ (s : State) (q sseq : Nat) (e : Entry), (stopped s = false) ∧ (beginnable s q
  sseq 0x02 = some e) ∧ (ctlOwnerOk s q (bitsAt (e.word 2) 0 16) = true) ∧ (namesQuiesced s q (bitsAt (e.word 2) 0 16)
  = false) :=
  ⟨queueOn [{ raw := 0x10102 + 5 * 2 ^ 64 }], 3, 1, { raw := 0x10102 + 5 * 2 ^ 64 }, by decide +kernel⟩

theorem meets_HurdlesAndAborts_6 : ∃ (s : State) (q sseq u tag : Nat) (e : Entry), (stopped s = false) ∧ (s.abortReqs
  = [⟨q, sseq, u, tag⟩]) ∧ (abortMatch s u tag = some e) ∧ (e.decided = none) ∧ (e.begun = false) :=
  ⟨{ queueOn [{ raw := 0x10102 + 5 * 2 ^ 64, begun := true }] with abortReqs := [⟨3, 1, 5, 0⟩], queues := [(3, { entries := [{ raw := 0x10102 + 5 * 2 ^ 64, begun := true }] }), (5, { entries := [{ raw := 0x50120 }] })] }, 3, 1, 5, 0, { raw := 0x50120 }, by decide +kernel⟩

theorem meets_HurdlesAndAborts_7 : ∃ (s : State) (q sseq u tag : Nat) (e : Entry), (stopped s = false) ∧ (s.abortReqs
  = [⟨q, sseq, u, tag⟩]) ∧ (abortMatch s u tag = some e) ∧ (e.decided = none) ∧ (e.begun = true) :=
  ⟨{ queueOn [{ raw := 0x10102 + 5 * 2 ^ 64, begun := true }] with abortReqs := [⟨3, 1, 5, 0⟩], queues := [(3, { entries := [{ raw := 0x10102 + 5 * 2 ^ 64, begun := true }] }), (5, { entries := [{ raw := 0x50120, begun := true }] })] }, 3, 1, 5, 0, { raw := 0x50120, begun := true }, by decide +kernel⟩

theorem meets_HurdlesAndAborts_8 : ∃ (s : State) (q sseq : Nat) (e : Entry), (stopped s = false) ∧ (entryOf s q sseq =
  some e) ∧ (e.op = 1) ∧ (e.begun = true) ∧ (e.outcome = none) ∧ (e.decided = none) ∧ (coversDone e = true) :=
  ⟨{ queueOn [{ raw := 0x10101, begun := true, acceptTt := 4 }] with tt := { tt := 50 } }, 3, 1, { raw := 0x10101, begun := true, acceptTt := 4 }, by decide +kernel⟩

theorem meets_HurdlesAndAborts_9 : ∃ (s : State) (q sseq : Nat) (e : Entry), (stopped s = false) ∧ (beginnable s q
  sseq 0x02 = some e) ∧ (ctlOwnerOk s q (bitsAt (e.word 2) 0 16) = true) ∧ (namesQuiesced s q (bitsAt (e.word 2) 0 16)
  = false) :=
  ⟨queueOn [{ raw := 0x10102 + 5 * 2 ^ 64 }], 3, 1, { raw := 0x10102 + 5 * 2 ^ 64 }, by decide +kernel⟩

theorem meets_HurdlesAndAborts_10 : ∃ (s : State) (q sseq u tag : Nat) (x : Entry), (stopped s = false) ∧ (s.abortReqs
  = [⟨q, sseq, u, tag⟩]) ∧ (abortMatch s u tag = none) ∧ (entryOf s q sseq = some x) ∧ (x.outcome = none) ∧ (x.decided
  = none) :=
  ⟨{ queueOn [{ raw := 0x10102 + 5 * 2 ^ 64, begun := true }] with abortReqs := [⟨3, 1, 5, 0⟩] }, 3, 1, 5, 0, { raw := 0x10102 + 5 * 2 ^ 64, begun := true }, by decide +kernel⟩

theorem meets_HurdlesAndAborts_11 : ∃ (s : State) (q sseq u tag : Nat) (x e : Entry), (stopped s = false) ∧
  (s.abortReqs = [⟨q, sseq, u, tag⟩]) ∧ (abortMatch s u tag = some e) ∧ (e.decided.isSome = true) ∧ (entryOf s q sseq
  = some x) ∧ (x.outcome = none) ∧ (x.decided = none) :=
  ⟨{ queueOn [{ raw := 0x10102 + 5 * 2 ^ 64, begun := true }] with abortReqs := [⟨3, 1, 5, 0⟩], queues := [(3, { entries := [{ raw := 0x10102 + 5 * 2 ^ 64, begun := true }] }), (5, { entries := [{ raw := 0x50120, decided := some { status := 0 } }] })] }, 3, 1, 5, 0, { raw := 0x10102 + 5 * 2 ^ 64, begun := true }, { raw := 0x50120, decided := some { status := 0 } }, by decide +kernel⟩

theorem meets_ReceptionLinksAndFlowControl_1 : ∃ (s : State) (p : Nat) (f : Bytes), (stopped s = false) ∧ (isPort s p
  = true) ∧ (rxDiscard s p f 0 = none) ∧ (beAt (f.take (f.length - 4)) 12 2 ≠ 0x8808) ∧ (heldLines s p none + linesFor
  (f.length - 4) ≤ s.rd PP_PORT_BUF.buf_limit p) ∧ (linesFor (f.length - 4) ≤ freeLineCount s) :=
  ⟨withRegs State.reset [(PP_ETH_MODE.quad0, 0, 1), (PP_PORT.enable, 1, 1), (enableField .pp, 0, 1), (PP_PORT_BUF.buf_limit, 1, 99), (PP_PORT_STAT.link_up, 1, 1)], 1, (List.replicate 60 0 ++ leBytes 4 (crc32 (List.replicate 60 0))), by decide +kernel⟩

theorem meets_ReceptionLinksAndFlowControl_2 : ∃ (s : State) (p _ u : Nat) (f : Bytes), (stopped s = false) ∧ (isPort
  s p = true) ∧ (rxDiscard s p f u = none) ∧ (beAt (f.take (f.length - 4)) 12 2 ≠ 0x8808) :=
  ⟨withRegs State.reset [(PP_ETH_MODE.quad0, 0, 1), (PP_PORT.enable, 1, 1), (enableField .pp, 0, 1), (PP_PORT_BUF.buf_limit, 1, 99), (PP_PORT_STAT.link_up, 1, 1)], 1, 3, 0, (List.replicate 60 0 ++ leBytes 4 (crc32 (List.replicate 60 0))), by decide +kernel⟩

theorem meets_ReceptionLinksAndFlowControl_3 : ∃ (s : State) (p _ u : Nat) (f : Bytes), (stopped s = false) ∧ (isPort
  s p = true) ∧ (rxDiscard s p f u = none) ∧ (beAt (f.take (f.length - 4)) 12 2 = 0x8808) :=
  ⟨withRegs State.reset [(PP_ETH_MODE.quad0, 0, 1), (PP_PORT.enable, 1, 1), (enableField .pp, 0, 1), (PP_PORT_BUF.buf_limit, 1, 99), (PP_PORT_STAT.link_up, 1, 1)], 1, 3, 0, (List.replicate 12 0 ++ beBytes 2 0x8808 ++ List.replicate 46 0 ++ leBytes 4 (crc32 (List.replicate 12 0 ++ beBytes 2 0x8808 ++ List.replicate 46 0))), by decide +kernel⟩

theorem meets_ReceptionLinksAndFlowControl_4 : ∃ (s : State) (p : Nat), (stopped s = false) ∧ (portUp s p = true) :=
  ⟨withRegs State.reset [(PP_ETH_MODE.quad0, 0, 1), (PP_PORT.enable, 1, 1), (enableField .pp, 0, 1), (PP_PORT_BUF.buf_limit, 1, 99), (PP_PORT_STAT.link_up, 1, 1)], 1, by decide +kernel⟩

theorem meets_ReceptionLinksAndFlowControl_5 : ∃ (s : State) (p : Nat), (stopped s = false) ∧ (portUp s p = false) :=
  ⟨State.reset, 1, by decide +kernel⟩

theorem meets_ReceptionLinksAndFlowControl_6 : ∃ (s : State) (p : Nat), (stopped s = false) ∧ (p < 16) ∧ (isPort s p =
  true) ∧ (s.rd PP_PORT.enable p = 1) ∧ (portClocked s p = true) ∧ (s.rd PP_PORT_STAT.link_up p = 0) :=
  ⟨{ withRegs State.reset [(PP_ETH_MODE.quad0, 0, 1), (PP_PORT.enable, 1, 1), (DEV_CLK_STAT.eth0, 0, 1)] with start := { serdes := [2] } }, 1, by decide +kernel⟩

theorem meets_ReceptionLinksAndFlowControl_7 : ∃ (s : State) (p : Nat) (up : Bool), (stopped s = false) ∧ (s.on
  PP_PORT_STAT.link_up p = (up && isPort s p && s.on PP_PORT.enable p && portClocked s p)) :=
  ⟨State.reset, 1, true, by decide +kernel⟩

theorem meets_ReceptionLinksAndFlowControl_8 : ∃ (s : State) (p _ u n : Nat) (f : Bytes), (stopped s = false) ∧
  (isPort s p = true) ∧ (rxDiscard s p f u = some n) :=
  ⟨withRegs State.reset [(PP_ETH_MODE.quad0, 0, 1), (PP_PORT.enable, 1, 1), (enableField .pp, 0, 1), (PP_PORT_BUF.buf_limit, 1, 99), (PP_PORT_STAT.link_up, 1, 1)], 1, 3, 0, 2, List.replicate 64 1, by decide +kernel⟩

theorem meets_ReceptionLinksAndFlowControl_9 : ∃ (s : State) (p : Nat), (stopped s = false) ∧ (isPort s p = true) ∧
  (s.rd PP_PORT.enable p = 1) ∧ (portClocked s p = true) ∧ (s.rd PP_PORT_STAT.link_up p = 0) :=
  ⟨{ withRegs State.reset [(PP_ETH_MODE.quad0, 0, 1), (PP_PORT.enable, 1, 1), (DEV_CLK_STAT.eth0, 0, 1)] with start := { serdes := [2] } }, 1, by decide +kernel⟩

theorem meets_ReceptionLinksAndFlowControl_10 : ∃ (s : State) (p : Nat), (stopped s = false) ∧ (p < 16) ∧ (s.rd
  PP_PORT_STAT.link_up p = 1) :=
  ⟨withRegs State.reset [(PP_ETH_MODE.quad0, 0, 1), (PP_PORT.enable, 1, 1), (enableField .pp, 0, 1), (PP_PORT_BUF.buf_limit, 1, 99), (PP_PORT_STAT.link_up, 1, 1)], 1, by decide +kernel⟩

theorem meets_ReceptionLinksAndFlowControl_11 : ∃ (s : State) (p : Nat), (stopped s = false) ∧ (isPort s p = true) ∧
  (s.rd PP_PORT.enable p = 1) ∧ (s.rd PP_PORT_STAT.link_up p = 1) ∧ (s.rd PP_PORT.fc_mode p = 1) ∧ (pauseCheck s p =
  s) ∧ (refreshDue s p 0 = true) :=
  ⟨withRegs { State.reset with pp := { holds := [⟨0, 9, some 1, 3, []⟩], pauseSent := [(8, 1)] }, tt := { ticks := 99 } } [(PP_ETH_MODE.quad0, 0, 1), (PP_PORT.enable, 1, 1), (enableField .pp, 0, 1), (PP_PORT_BUF.buf_limit, 1, 99), (PP_PORT_STAT.link_up, 1, 1), (PP_PORT.fc_mode, 1, 1), (PP_PORT_PFC.xoff, 1, 20), (PP_PORT_PFC.xon, 1, 5), (PP_PORT_STAT.xoff_sent, 1, 1), (PP_PORT_PFC.quanta, 1, 10)], 1, by decide +kernel⟩

theorem meets_PassesThroughAPipeline_1 : ∃ (s : State) (pipe : Nat) (w : Waiting) (rest : List Waiting), (stopped s =
  false) ∧ (pipe < 2) ∧ (enabled s .pp = true) ∧ (inputOf s pipe 0 = w :: rest) :=
  ⟨withRegs { State.reset with pp := { inputs := [(8, [{ pkt := { frame := List.replicate 60 0 } }])] } } [(enableField .pp, 0, 1)], 1, { pkt := { frame := List.replicate 60 0 } }, [], by decide +kernel⟩

theorem meets_PassesThroughAPipeline_2 : ∃ (s t : State) (pipe src : Nat) (w : Waiting) (rest : List Waiting),
  (stopped s = false) ∧ (pipe < 2) ∧ (enabled s .pp = true) ∧ (slotInput s pipe = some (src, t)) ∧ (inputOf t pipe src
  = w :: rest) :=
  ⟨withRegs { State.reset with pp := { inputs := [(8, [{ pkt := { frame := List.replicate 60 0 } }])] } } [(enableField .pp, 0, 1)], withRegs { State.reset with pp := { inputs := [(8, [{ pkt := { frame := List.replicate 60 0 } }])] } } [(enableField .pp, 0, 1)], 1, 0, { pkt := { frame := List.replicate 60 0 } }, [], by decide +kernel⟩

theorem meets_PassesThroughAPipeline_3 : ∃ (s : State) (pipe : Nat) (x : Packet), (stopped s = false) ∧ (pipe < 2) ∧
  (enabled s .pp = true) ∧ (inputOf s pipe 0 = []) ∧ (inputOf s pipe 1 = []) ∧ (inputOf s pipe 2 = []) ∧ (inputOf s
  pipe 3 = [⟨x, 12, false⟩]) ∧ (inputOf s pipe 4 = []) :=
  ⟨withRegs { State.reset with pp := { inputs := [(11, [⟨{ frame := List.replicate 60 0 }, 12, false⟩])] } } [(enableField .pp, 0, 1)], 1, { frame := List.replicate 60 0 }, by decide +kernel⟩

theorem meets_PassesThroughAPipeline_4 : ∃ (s : State) (pipe : Nat), (stopped s = false) ∧ (pipe < 2) ∧ (enabled s .pp
  = true) ∧ (slotInput s pipe = none) :=
  ⟨withRegs State.reset [(enableField .pp, 0, 1)], 0, by decide +kernel⟩

theorem meets_PassesThroughAPipeline_5 : ∃ (s : State) (_ : Nat), (stopped s = false) ∧ (enabled s .pp = false) :=
  ⟨State.reset, 0, by decide +kernel⟩

theorem meets_PassesThroughAPipeline_6 : ∃ (s : State) (pipe : Nat) (p : Pass) (rest : List Pass), (stopped s = false)
  ∧ (pipe < 2) ∧ ((Map.get s.pp.passes pipe) = p :: rest) ∧ (12 ≤ p.stage) ∧ (fateOf pipe p = .trallasy) ∧
  (p.pkt.info.mirrorMask = 0) :=
  ⟨{ State.reset with pp := { passes := [(1, [{ pkt := { info := { destKind := 3 } }, orig := {}, stage := 12 }])] } }, 1, { pkt := { info := { destKind := 3 } }, orig := {}, stage := 12 }, [], by decide +kernel⟩

theorem meets_PassesThroughAPipeline_7 : ∃ (s : State) (pipe : Nat) (p : Pass) (rest : List Pass), (stopped s = false)
  ∧ (pipe < 2) ∧ ((Map.get s.pp.passes pipe) = p :: rest) ∧ (12 ≤ p.stage) ∧ (fateOf pipe p = .noDest) ∧
  (p.pkt.info.mirrorMask = 0) ∧ (s.pp.holds = [⟨p.pkt.info.handle, 3, none, 0, []⟩]) :=
  ⟨{ State.reset with pp := { holds := [⟨0, 3, none, 0, []⟩], passes := [(1, [{ pkt := {}, orig := {}, stage := 12 }])] } }, 1, { pkt := {}, orig := {}, stage := 12 }, [], by decide +kernel⟩

theorem meets_PassesThroughAPipeline_8 : ∃ (s t : State) (pipe : Nat) (p : Pass) (rest : List Pass), (stopped s =
  false) ∧ ((Map.get s.pp.passes pipe) = p :: rest) ∧ (12 ≤ p.stage) ∧ (diverted p (fateOf pipe p) = false) ∧
  ((match fateOf pipe p with | .drop => false | .lost => false | .noDest => false | .reasonDrop _ => false | _ => true) = true)
  ∧ (takeFate (grown { s with pp := { s.pp with passes := Map.set s.pp.passes pipe rest } } (deparsed s pipe p).1).1
  pipe (fateOf pipe p) (grown { s with pp := { s.pp with passes := Map.set s.pp.passes pipe rest } } (deparsed s pipe
  p).1).2 = .inl t) :=
  ⟨{ State.reset with pp := { passes := [(1, [{ pkt := { info := { destKind := 3 } }, orig := {}, stage := 12 }])] } }, { State.reset with pp := { toTrn := [(1, (deparsed { State.reset with pp := { passes := [(1, [{ pkt := { info := { destKind := 3 } }, orig := {}, stage := 12 }])] } } 1 { pkt := { info := { destKind := 3 } }, orig := {}, stage := 12 }).1)] } }, 1, { pkt := { info := { destKind := 3 } }, orig := {}, stage := 12 }, [], by decide +kernel⟩

theorem meets_PassesThroughAPipeline_9 : ∃ (s t : State) (pipe : Nat) (p : Pass) (rest : List Pass), (stopped s =
  false) ∧ ((Map.get s.pp.passes pipe) = p :: rest) ∧ (12 ≤ p.stage) ∧ (diverted p (fateOf pipe p) = false) ∧ (fateOf
  pipe p = .drop ∨ fateOf pipe p = .lost ∨ fateOf pipe p = .noDest ∨ fateOf pipe p = .reasonDrop (((lowestRaised p fun
  x => decide (x ≤ 1)).getD (0, 0)).1)) ∧ (takeFate
  { s with pp := { s.pp with passes := Map.set s.pp.passes pipe rest } } pipe (fateOf pipe p) (deparsed s pipe p).1 =
  .inl t) :=
  ⟨{ State.reset with pp := { passes := [(1, [{ pkt := {}, orig := {}, stage := 12 }])] } }, Sum.elim id id (takeFate { State.reset with pp := { passes := [] } } 1 .noDest {}), 1, { pkt := {}, orig := {}, stage := 12 }, [], by decide +kernel⟩

theorem meets_PassesThroughAPipeline_10 : ∃ (s : State) (pipe : Nat) (p : Pass) (rest : List Pass), (stopped s =
  false) ∧ ((Map.get s.pp.passes pipe) = p :: rest) ∧ (12 ≤ p.stage) ∧ (diverted p (fateOf pipe p) = true) :=
  ⟨{ State.reset with pp := { passes := [(1, [{ pkt := { info := { source := 1 } }, orig := {}, stage := 12, recirc := true }])] } }, 1, { pkt := { info := { source := 1 } }, orig := {}, stage := 12, recirc := true }, [], by decide +kernel⟩

theorem meets_PassesThroughAPipeline_11 : ∃ (s : State) (pipe : Nat) (p : Pass) (rest : List Pass), (stopped s =
  false) ∧ ((Map.get s.pp.passes pipe) = p :: rest) ∧ (p.stage < 12) :=
  ⟨{ State.reset with pp := { passes := [(1, [{ pkt := {}, orig := {}, stage := 3 }])] } }, 1, { pkt := {}, orig := {}, stage := 3 }, [], by decide +kernel⟩

theorem meets_SlowPathAndReinjectBatons_1 : ∃ (s : State) (pipe : Nat) (x : SlowItem), (stopped s = false) ∧ (pipe <
  2) ∧ (x.pipe < 2) ∧ (x.reason < 8) ∧ (Map.get s.pp.slow pipe = [x]) ∧ ((sendSlow s x).isSome = true) ∧ ((gather s
  x).map (fun g => g.2) = some x) :=
  ⟨withRegs { State.reset with pp := { slow := [(1, [⟨1, 3, 0, 7, {}⟩])] } } [(PP_CFG.reinject_ch, 0, 9), (PP_CFG.reinject_ch, 1, 8), (BLK_CFG.reply_ch, 0, 6)], 1, ⟨1, 3, 0, 7, {}⟩, by decide +kernel⟩

theorem meets_SlowPathAndReinjectBatons_2 : ∃ (s : State) (pipe : Nat), (stopped s = false) ∧ (pipe < 2) :=
  ⟨State.reset, 1, by decide +kernel⟩

theorem meets_SlowPathAndReinjectBatons_3 : ∃ (s x : State) (pipe : Nat) (b : Baton), (stopped s = false) ∧
  (headReinject s pipe = some b) ∧ (batonCmd b = 1) ∧ (s.pp.slowOut.contains (batonPacket s b).info.handle = true) ∧
  (memBad s (lineAddr (batonPacket s b).info.handle) (128 + (batonPacket s b).frame.length) = false) ∧ (x = sramAccess
  s (linesFor (batonPacket s b).frame.length) (batonPacket s b).info.account) :=
  ⟨{ State.reset with rly := { reinject := [(1, [⟨0x900000131, 515⟩])] }, pp := { slowOut := [9], holds := [⟨9, 3, none, 0, []⟩] } }, { State.reset with rly := { reinject := [(1, [⟨0x900000131, 515⟩])] }, pp := { slowOut := [9], holds := [⟨9, 3, none, 0, []⟩] } }, 1, ⟨0x900000131, 515⟩, by decide +kernel⟩

theorem meets_SlowPathAndReinjectBatons_4 : ∃ (s x : State) (pipe : Nat) (b : Baton), (stopped s = false) ∧
  (headReinject s pipe = some b) ∧ (batonCmd b = 2) ∧ (s.pp.slowOut.contains (batonPacket s b).info.handle = true) ∧
  (memBad s (lineAddr (batonPacket s b).info.handle) (128 + (batonPacket s b).frame.length) = false) ∧ (x = sramAccess
  s (linesFor (batonPacket s b).frame.length) (batonPacket s b).info.account) :=
  ⟨{ State.reset with rly := { reinject := [(1, [⟨0x1000000000900000002, 515⟩])] }, pp := { slowOut := [9], holds := [⟨9, 3, none, 0, []⟩] } }, { State.reset with rly := { reinject := [(1, [⟨0x1000000000900000002, 515⟩])] }, pp := { slowOut := [9], holds := [⟨9, 3, none, 0, []⟩] } }, 1, ⟨0x1000000000900000002, 515⟩, by decide +kernel⟩

theorem meets_SlowPathAndReinjectBatons_5 : ∃ (s x : State) (pipe : Nat) (b : Baton), (stopped s = false) ∧
  (headReinject s pipe = some b) ∧ (batonCmd b = 4) ∧ (s.pp.slowOut.contains (batonPacket s b).info.handle = true) ∧
  (memBad s (lineAddr (batonPacket s b).info.handle) (128 + (batonPacket s b).frame.length) = false) ∧ (x = sramAccess
  s (linesFor (batonPacket s b).frame.length) (batonPacket s b).info.account) :=
  ⟨{ State.reset with rly := { reinject := [(1, [⟨0x900000004, 515⟩])] }, pp := { slowOut := [9], holds := [⟨9, 3, none, 0, []⟩] } }, { State.reset with rly := { reinject := [(1, [⟨0x900000004, 515⟩])] }, pp := { slowOut := [9], holds := [⟨9, 3, none, 0, []⟩] } }, 1, ⟨0x900000004, 515⟩, by decide +kernel⟩

theorem meets_SlowPathAndReinjectBatons_6 : ∃ (s x t : State) (pipe : Nat) (b : Baton), (stopped s = false) ∧
  (headReinject s pipe = some b) ∧ (batonCmd b = 3) ∧ (s.pp.slowOut.contains (batonPacket s b).info.handle = true) ∧
  (memBad s (lineAddr (batonPacket s b).info.handle) (128 + (batonPacket s b).frame.length) = false) ∧ (x = sramAccess
  s (linesFor (batonPacket s b).frame.length) (batonPacket s b).info.account) ∧ (takeFate
  { x with pp := { x.pp with slowOut := x.pp.slowOut.erase (batonPacket s b).info.handle } } pipe (.host (bitsAt
  b.image 112 16)) (batonPacket s b) = .inl t) :=
  ⟨{ State.reset with rly := { reinject := [(1, [⟨0x50000000000000000000900000003, 515⟩])] }, pp := { slowOut := [9] } }, { State.reset with rly := { reinject := [(1, [⟨0x50000000000000000000900000003, 515⟩])] }, pp := { slowOut := [9] } }, pipeCount { State.reset with rly := { reinject := [(1, [⟨0x50000000000000000000900000003, 515⟩])] } } 1 7, 1, ⟨0x50000000000000000000900000003, 515⟩, by decide +kernel⟩

theorem meets_SlowPathAndReinjectBatons_7 : ∃ (s : State) (pipe : Nat) (b : Baton), (stopped s = false) ∧
  (headReinject s pipe = some b) ∧ (batonCmd b = 1) ∧ (512 ≤ b.source) ∧ (memBad s (lineAddr (batonPacket s
  b).info.handle) (128 + (batonPacket s b).frame.length) = false) ∧ (s.pp.slowOut.contains (batonPacket s
  b).info.handle = true) :=
  ⟨{ State.reset with rly := { reinject := [(1, [⟨0x900000131, 515⟩])] }, pp := { slowOut := [9], holds := [⟨9, 3, none, 0, []⟩] } }, 1, ⟨0x900000131, 515⟩, by decide +kernel⟩

theorem meets_SlowPathAndReinjectBatons_8 : ∃ (s : State) (pipe : Nat) (b : Baton), (stopped s = false) ∧
  (headReinject s pipe = some b) ∧ (batonCmd b = 2) ∧ (512 ≤ b.source) ∧ (memBad s (lineAddr (batonPacket s
  b).info.handle) (128 + (batonPacket s b).frame.length) = false) ∧ (s.pp.slowOut.contains (batonPacket s
  b).info.handle = true) ∧ (admissionDrop s (bitsAt b.image 96 4) (bitsAt b.image 100 9) (bitsAt b.image 109 3) 0
  (packetLines s (batonPacket s b).info.handle) = none) ∧ (s.nrg.metering = false) :=
  ⟨withRegs { State.reset with rly := { reinject := [(1, [⟨0x1000000000900000002, 515⟩])] }, pp := { slowOut := [9], holds := [⟨9, 3, none, 0, []⟩] } } [(PP_ETH_MODE.quad0, 0, 1), (PP_PORT.enable, 0, 1), (TM_GROUP.valid, 0, 1), (TM_GROUP.q_limit, 0, 99)], 1, ⟨0x1000000000900000002, 515⟩, by decide +kernel⟩

theorem meets_SlowPathAndReinjectBatons_9 : ∃ (s : State) (pipe : Nat) (b : Baton), (stopped s = false) ∧ (pipe < 2) ∧
  (headReinject s pipe = some b) ∧ (batonCmd b = 3) ∧ (512 ≤ b.source) ∧ (memBad s (lineAddr (batonPacket s
  b).info.handle) (128 + (batonPacket s b).frame.length) = false) ∧ (s.pp.slowOut.contains (batonPacket s
  b).info.handle = true) ∧ (queueState s (bitsAt b.image 112 16) ≠ qActive) :=
  ⟨{ State.reset with rly := { reinject := [(1, [⟨0x50000000000000000000900000003, 515⟩])] }, pp := { slowOut := [9], holds := [⟨9, 3, none, 0, []⟩] } }, 1, ⟨0x50000000000000000000900000003, 515⟩, by decide +kernel⟩

theorem meets_SlowPathAndReinjectBatons_10 : ∃ (s : State) (pipe : Nat) (b : Baton), (stopped s = false) ∧
  (headReinject s pipe = some b) ∧ (batonCmd b = 4) ∧ (512 ≤ b.source) ∧ (memBad s (lineAddr (batonPacket s
  b).info.handle) (128 + (batonPacket s b).frame.length) = false) ∧ (s.pp.slowOut.contains (batonPacket s
  b).info.handle = true) ∧ (s.pp.holds = [⟨(batonPacket s b).info.handle, 3, none, 0, []⟩]) :=
  ⟨{ State.reset with rly := { reinject := [(1, [⟨0x900000004, 515⟩])] }, pp := { slowOut := [9], holds := [⟨9, 3, none, 0, []⟩] } }, 1, ⟨0x900000004, 515⟩, by decide +kernel⟩

theorem meets_SlowPathAndReinjectBatons_11 : ∃ (s : State) (pipe : Nat) (b : Baton), (stopped s = false) ∧
  (headReinject s pipe = some b) ∧ (5 ≤ batonCmd b) :=
  ⟨{ State.reset with rly := { reinject := [(1, [⟨0x900000007, 515⟩])] }, pp := { slowOut := [9], holds := [⟨9, 3, none, 0, []⟩] } }, 1, ⟨0x900000007, 515⟩, by decide +kernel⟩

theorem meets_HostFramesAndPipelineSetup_1 : ∃ (s : State) (q sseq : Nat) (e : Entry) (_ : Bytes), (stopped s = false)
  ∧ (beginnable s q sseq 0x10 = some e) ∧ (14 ≤ e.at 0x10 0 14) ∧ (e.at 0x10 0 14 ≤ 9596) ∧ (e.at 0x10 17 15 = 0) ∧
  (e.at 0x18 0 64 = 0) ∧ (bitAt e.raw (8 * 0x10 + 15) = false) ∧ (fnLive s (queueFn s q) = true) ∧ (linesFor (e.at
  0x10 0 14) ≤ freeLineCount s) :=
  ⟨(queueOn [{ raw := 0x10110 + 60 * 2 ^ 128 }]).wr (enableField .pp) 1, 3, 1, { raw := 0x10110 + 60 * 2 ^ 128 }, List.replicate 60 7, by decide +kernel⟩

theorem meets_HostFramesAndPipelineSetup_2 : ∃ (s t : State) (q sseq h : Nat) (e : Entry) (_ : Bytes), (stopped s =
  false) ∧ (beginnable s q sseq 0x10 = some e) ∧ (14 ≤ e.at 0x10 0 14) ∧ (e.at 0x10 0 14 ≤ 9596) ∧ (e.at 0x10 17 15 =
  0) ∧ (e.at 0x18 0 64 = 0) ∧ (bitAt e.raw (8 * 0x10 + 15) = false) ∧ (fnLive s (queueFn s q) = true) ∧ (allocate
  (begin_ s q sseq) (linesFor (e.at 0x10 0 14)) none 0 (queueAccount s q) = some (h, t)) :=
  ⟨(queueOn [{ raw := 0x10110 + 60 * 2 ^ 128 }]).wr (enableField .pp) 1, ((allocate (begin_ ((queueOn [{ raw := 0x10110 + 60 * 2 ^ 128 }]).wr (enableField .pp) 1) 3 1) 3 none 0 0).getD (0, State.reset)).2, 3, 1, 0, { raw := 0x10110 + 60 * 2 ^ 128 }, List.replicate 60 7, by decide +kernel⟩

theorem meets_HostFramesAndPipelineSetup_3 : ∃ (s : State) (q sseq : Nat) (e : Entry) (_ : Bytes), (stopped s = false)
  ∧ (beginnable s q sseq 0x10 = some e) ∧ (14 ≤ e.at 0x10 0 14) ∧ (e.at 0x10 0 14 ≤ 9596) ∧ (e.at 0x10 17 15 = 0) ∧
  (e.at 0x18 0 64 = 0) ∧ (bitAt e.raw (8 * 0x10 + 15) = false) ∧ (fnLive s (queueFn s q) = true) :=
  ⟨(queueOn [{ raw := 0x10110 + 60 * 2 ^ 128 }]).wr (enableField .pp) 1, 3, 1, { raw := 0x10110 + 60 * 2 ^ 128 }, [], by decide +kernel⟩

theorem meets_HostFramesAndPipelineSetup_4_1 : ∃ (s : State) (q sseq : Nat) (e : Entry) (_ : Bytes) (_ : Bool),
  (stopped s = false) ∧ (beginnable s q sseq 0x10 = some e) ∧ (e.at 0x10 0 14 < 14 ∨ 9596 < e.at 0x10 0 14 ∨ e.at 0x10
  17 15 ≠ 0 ∨ e.at 0x18 0 64 ≠ 0) :=
  ⟨(queueOn [{ raw := 0x10110 + 13 * 2 ^ 128 }]).wr (enableField .pp) 1, 3, 1, { raw := 0x10110 + 13 * 2 ^ 128 }, [], true, by decide +kernel⟩

theorem meets_HostFramesAndPipelineSetup_4_2 : ∃ (s : State) (q sseq : Nat) (e : Entry) (_ : Bytes) (_ : Bool),
  (stopped s = false) ∧ (beginnable s q sseq 0x10 = some e) ∧ (e.at 0x10 0 14 < 14 ∨ 9596 < e.at 0x10 0 14 ∨ e.at 0x10
  17 15 ≠ 0 ∨ e.at 0x18 0 64 ≠ 0) :=
  ⟨(queueOn [{ raw := 0x10110 + 9597 * 2 ^ 128 }]).wr (enableField .pp) 1, 3, 1, { raw := 0x10110 + 9597 * 2 ^ 128 }, [], false, by decide +kernel⟩

theorem meets_HostFramesAndPipelineSetup_5 : ∃ (s : State) (q sseq : Nat) (e : Entry), (stopped s = false) ∧
  (beginnable s q sseq 0x11 = some e) ∧ (badPost e = false) :=
  ⟨queueOn [{ raw := 0x10111 + 2048 * 2 ^ 128 }], 3, 1, { raw := 0x10111 + 2048 * 2 ^ 128 }, by decide +kernel⟩

theorem meets_HostFramesAndPipelineSetup_6 : ∃ (s : State) (q sseq : Nat) (e : Entry), (stopped s = false) ∧
  (beginnable s q sseq 0x11 = some e) ∧ (badPost e = true) :=
  ⟨queueOn [{ raw := 0x10111 + 63 * 2 ^ 128 }], 3, 1, { raw := 0x10111 + 63 * 2 ^ 128 }, by decide +kernel⟩

theorem meets_HostFramesAndPipelineSetup_7 : ∃ (s : State) (q sseq : Nat) (e : Entry) (_ : Bytes) (_ : Bool), (stopped
  s = false) ∧ (beginnable s q sseq 0x10 = some e) ∧ (e.at 0x10 0 14 < 14) :=
  ⟨(queueOn [{ raw := 0x10110 + 13 * 2 ^ 128 }]).wr (enableField .pp) 1, 3, 1, { raw := 0x10110 + 13 * 2 ^ 128 }, [], true, by decide +kernel⟩

theorem meets_HostFramesAndPipelineSetup_8 : ∃ (s : State) (q sseq : Nat) (e : Entry), (stopped s = false) ∧
  (beginnable s q sseq 0x11 = some e) ∧ (64 ≤ e.at 0x10 0 14) ∧ (e.at 0x10 16 16 = 0) ∧ (e.at 0x14 0 96 = 0) :=
  ⟨queueOn [{ raw := 0x10111 + 2048 * 2 ^ 128 }], 3, 1, { raw := 0x10111 + 2048 * 2 ^ 128 }, by decide +kernel⟩

theorem meets_HostFramesAndPipelineSetup_9 : ∃ (s : State) (q sseq : Nat) (e : Entry), (stopped s = false) ∧
  (beginnable s q sseq 0x11 = some e) ∧ (e.at 0x10 0 14 < 64) :=
  ⟨queueOn [{ raw := 0x10111 + 63 * 2 ^ 128 }], 3, 1, { raw := 0x10111 + 63 * 2 ^ 128 }, by decide +kernel⟩

theorem meets_HostFramesAndPipelineSetup_10 : ∃ (s : State) (who : Initiator) (_ : Nat), (stopped s = false) ∧
  (writable who PP_ETH_MODE.quad0 0 s = true) ∧ (((quadPorts s 1).any fun p => s.on PP_PORT.enable p) = false) :=
  ⟨State.reset, .host 0, 2, by decide +kernel⟩

theorem meets_HostFramesAndPipelineSetup_11 : ∃ (s : State) (who : Initiator) (m : Nat), (stopped s = false) ∧
  (writable who PP_ETH_MODE.quad0 0 s = true) ∧ (((quadPorts s 0).any fun p => s.on PP_PORT.enable p) = true) ∧ (s.rd
  PP_ETH_MODE.quad0 ≠ m % 8) :=
  ⟨withRegs State.reset [(PP_ETH_MODE.quad0, 0, 1), (PP_PORT.enable, 1, 1), (enableField .pp, 0, 1), (PP_PORT_BUF.buf_limit, 1, 99), (PP_PORT_STAT.link_up, 1, 1)], .host 0, 2, by decide +kernel⟩

theorem meets_HostFramesAndPipelineSetup_12 : ∃ (s : State) (who : Initiator), (stopped s = false) ∧ (writable who
  PP_CNT_ADDR.go 0 s = true) ∧ (s.rd PP_CNT_ADDR.clear = 1) ∧ (50 ≤ s.areas.ledger) ∧ (s.nrg.metering = false) :=
  ⟨(let s := withRegs { State.reset with areas := { ledger := 50 } } [(PP_CNT_ADDR.pipe, 0, 1), (PP_CNT_ADDR.index, 0, 3), (PP_CNT_ADDR.clear, 0, 1)]; putFlow s 1 3 4 500), .host 0, by decide +kernel⟩

theorem meets_HostFramesAndPipelineSetup_13 : ∃ (s c : State) (who : Initiator), (stopped s = false) ∧ (writable who
  PP_CNT_ADDR.go 0 s = true) ∧ (s.rd PP_CNT_ADDR.clear = 1) ∧ (c = ledgerAccess ((s.wr PP_CNT_DATA.packets (flowCount
  s (s.rd PP_CNT_ADDR.pipe) (s.rd PP_CNT_ADDR.index)).1).wr PP_CNT_DATA.bytes (flowCount s (s.rd PP_CNT_ADDR.pipe)
  (s.rd PP_CNT_ADDR.index)).2) (flowPlace (s.rd PP_CNT_ADDR.pipe) (s.rd PP_CNT_ADDR.index)) 16 false 0) :=
  ⟨withRegs { State.reset with areas := { ledger := 50 } } [(PP_CNT_ADDR.index, 0, 3), (PP_CNT_ADDR.clear, 0, 1)], (fun s : State => ledgerAccess ((s.wr PP_CNT_DATA.packets (flowCount s (s.rd PP_CNT_ADDR.pipe) (s.rd PP_CNT_ADDR.index)).1).wr PP_CNT_DATA.bytes (flowCount s (s.rd PP_CNT_ADDR.pipe) (s.rd PP_CNT_ADDR.index)).2) (flowPlace (s.rd PP_CNT_ADDR.pipe) (s.rd PP_CNT_ADDR.index)) 16 false 0) (withRegs { State.reset with areas := { ledger := 50 } } [(PP_CNT_ADDR.index, 0, 3), (PP_CNT_ADDR.clear, 0, 1)]), .host 0, by decide +kernel⟩

theorem meets_HostFramesAndPipelineSetup_14 : ∃ (s : State) (who : Initiator), (stopped s = false) ∧ (writable who
  PP_CNT_ADDR.go 0 s = true) ∧ (s.rd PP_CNT_ADDR.clear = 0) :=
  ⟨State.reset, .host 0, by decide +kernel⟩

theorem meets_HostFramesAndPipelineSetup_15 : ∃ (s : State) (pipe : Nat), (stopped s = false) ∧ (pipe < 2) ∧ (s.rd
  PP_PROG_STAT.copying pipe = 1) ∧ (s.rd PP_PROG_STAT.draining (1 - pipe) = 0) ∧ (s.rd PP_PROG_STAT.copying (1 - pipe)
  = 0) ∧ (s.rd PP_PROG_STAT.draining pipe = 0) :=
  ⟨State.reset.wr PP_PROG_STAT.copying 1 1, 1, by decide +kernel⟩

theorem meets_HostFramesAndPipelineSetup_16 : ∃ (s : State) (pipe : Nat), (stopped s = false) ∧ (pipe < 2) ∧ (s.rd
  PP_PROG_STAT.copying pipe = 1) ∧ (ppSafePoint (s.wr PP_PROG_STAT.copying 0 pipe) = true) :=
  ⟨State.reset.wr PP_PROG_STAT.copying 1 1, 1, by decide +kernel⟩

theorem meets_HostFramesAndPipelineSetup_17 : ∃ (s : State) (pipe : Nat), (stopped s = false) ∧ (pipe < 2) ∧ (s.rd
  PP_PROG_STAT.copying pipe = 1) ∧ (ppSafePoint (s.wr PP_PROG_STAT.copying 0 pipe) = false) :=
  ⟨withRegs State.reset [(PP_PROG_STAT.copying, 1, 1), (PP_PROG_STAT.copying, 0, 1)], 1, by decide +kernel⟩

theorem meets_HostFramesAndPipelineSetup_18 : ∃ (s : State) (pipe : Nat), (stopped s = false) ∧ (s.rd
  PP_PROG_STAT.copying pipe = 0) :=
  ⟨State.reset, 1, by decide +kernel⟩

theorem meets_InlineEspAtTheCipherPoint_1 : ∃ (s : State) (pipe k layer o : Nat) (p : Pass) (ip : IpAt × Nat),
  (stopped s = false) ∧ (enabled s .cip = true) ∧ (urgentWaits s = false) ∧ (cipherTurn s pipe = some p) ∧ (p.esp =
  some (.encrypt k layer)) ∧ (slotMode (slotImage s k) ≠ 0) ∧ (slotEsp (slotImage s k) = true) ∧ (slotOutbound
  (slotImage s k) = true) ∧ (slotUsable s k = true) ∧ ((deparse s pipe p).at layer = some o) ∧ (ipBefore s
  p.pkt.info.bank pipe (p.pkt.info.layers.map fun l => l.2) (deparse s pipe p).offs layer = some ip) ∧ (coreUnit s 0 =
  none) ∧ (domainState s 72 = .on) ∧ (slotUsed (slotImage s k) < slotLimit (slotImage s k)) ∧ (seqSpent (slotImage s
  k) = false) ∧ (mirrors s = false) :=
  ⟨withRegs (withRegs { State.reset with areas := { key := 1 }, cip := { slots := [(5, (1 + 2 ^ 4 + 2 ^ 5 + 99 * 2 ^ 64 + 3 * 2 ^ 192))] }, pp := { passes := [(1, [{ pkt := { frame := List.replicate 60 1, info := { layers := [(14, 9), (34, 8)] } }, orig := {}, stage := 3, esp := some (.encrypt 5 1) }])] } } [(enableField .cip, 0, 1), (PP_CFG.cipher_after, 1, 2)]) [(PP_PSTATE.record, 1, 1), (PP_PSTATE.layer_type, 1, 9), (PP_PSTATE.ipv4, 1, 1)], 1, 5, 1, 34, { pkt := { frame := List.replicate 60 1, info := { layers := [(14, 9), (34, 8)] } }, orig := {}, stage := 3, esp := some (.encrypt 5 1) }, (⟨false, 14⟩, 14), by decide +kernel⟩

theorem meets_InlineEspAtTheCipherPoint_2 : ∃ (s : State) (pipe k st o seq : Nat) (p : Pass), (stopped s = false) ∧
  (enabled s .cip = true) ∧ (urgentWaits s = false) ∧ (cipherTurn s pipe = some p) ∧ (p.esp = some (.decrypt k st)) ∧
  (p.ipStop = some o) ∧ (espBefore s k p.pkt.frame o = .inr seq) ∧ (coreUnit s 0 = none) ∧ (domainState s 72 = .on) ∧
  (slotUsed (slotImage s k) < slotLimit (slotImage s k)) ∧ (mirrors s = false) :=
  ⟨withRegs { State.reset with areas := { key := 1 }, cip := { slots := [(5, (1 + 2 ^ 4 + 99 * 2 ^ 64 + 7 * 2 ^ 128 + 3 * 2 ^ 192))] }, pp := { passes := [(1, [{ pkt := { frame := List.replicate 34 0 ++ beBytes 4 7 ++ beBytes 4 9 ++ List.replicate 60 1, info := { layers := [(14, 9)] } }, orig := {}, stage := 3, esp := some (.decrypt 5 4), ipStop := some 34, ipOff := 14 }])] } } [(enableField .cip, 0, 1), (PP_CFG.cipher_after, 1, 2)], 1, 5, 4, 34, 9, { pkt := { frame := List.replicate 34 0 ++ beBytes 4 7 ++ beBytes 4 9 ++ List.replicate 60 1, info := { layers := [(14, 9)] } }, orig := {}, stage := 3, esp := some (.decrypt 5 4), ipStop := some 34, ipOff := 14 }, by decide +kernel⟩

theorem meets_InlineEspAtTheCipherPoint_3 : ∃ (s : State) (pipe k st : Nat) (p : Pass), (stopped s = false) ∧ (enabled
  s .cip = true) ∧ (urgentWaits s = false) ∧ (cipherTurn s pipe = some p) ∧ (pipe < 2) ∧ (p.esp = some (.decrypt k
  st)) ∧ (p.ipStop.isSome = true) ∧ (slotMode (slotImage s k) = 0) :=
  ⟨withRegs { State.reset with areas := { key := 1 }, cip := { slots := [(5, 0)] }, pp := { passes := [(1, [{ pkt := { frame := List.replicate 34 0 ++ beBytes 4 7 ++ beBytes 4 9 ++ List.replicate 60 1, info := { layers := [(14, 9)] } }, orig := {}, stage := 3, esp := some (.decrypt 5 4), ipStop := some 34, ipOff := 14 }])] } } [(enableField .cip, 0, 1), (PP_CFG.cipher_after, 1, 2)], 1, 5, 4, { pkt := { frame := List.replicate 34 0 ++ beBytes 4 7 ++ beBytes 4 9 ++ List.replicate 60 1, info := { layers := [(14, 9)] } }, orig := {}, stage := 3, esp := some (.decrypt 5 4), ipStop := some 34, ipOff := 14 }, by decide +kernel⟩

theorem meets_InlineEspAtTheCipherPoint_4 : ∃ (s : State) (pipe : Nat), (stopped s = false) ∧ (cipherTurn s pipe =
  none) :=
  ⟨State.reset, 1, by decide +kernel⟩

theorem meets_InlineEspAtTheCipherPoint_5 : ∃ (s : State) (pipe : Nat), (stopped s = false) ∧ (cipherTurn s pipe =
  none) :=
  ⟨State.reset, 1, by decide +kernel⟩

theorem meets_InlineEspAtTheCipherPoint_6 : ∃ (s : State) (pipe k l : Nat) (p : Pass), (stopped s = false) ∧
  (cipherTurn s pipe = some p) ∧ (p.esp = some (.encrypt k l)) ∧ (enabled s .cip = false) :=
  ⟨{ State.reset with pp := { passes := [(1, [{ pkt := { frame := List.replicate 60 1, info := { layers := [(14, 9), (34, 8)] } }, orig := {}, stage := 3, esp := some (.encrypt 5 1) }])] } }, 1, 5, 1, { pkt := { frame := List.replicate 60 1, info := { layers := [(14, 9), (34, 8)] } }, orig := {}, stage := 3, esp := some (.encrypt 5 1) }, by decide +kernel⟩

theorem meets_InlineEspAtTheCipherPoint_7 : ∃ (s : State) (pipe k l : Nat) (p : Pass), (stopped s = false) ∧
  (cipherTurn s pipe = some p) ∧ (p.esp = some (.decrypt k l)) ∧ (enabled s .cip = false) :=
  ⟨{ State.reset with pp := { passes := [(1, [{ pkt := { frame := List.replicate 34 0 ++ beBytes 4 7 ++ beBytes 4 9 ++ List.replicate 60 1, info := { layers := [(14, 9)] } }, orig := {}, stage := 3, esp := some (.decrypt 5 4), ipStop := some 34, ipOff := 14 }])] } }, 1, 5, 4, { pkt := { frame := List.replicate 34 0 ++ beBytes 4 7 ++ beBytes 4 9 ++ List.replicate 60 1, info := { layers := [(14, 9)] } }, orig := {}, stage := 3, esp := some (.decrypt 5 4), ipStop := some 34, ipOff := 14 }, by decide +kernel⟩

theorem meets_InlineEspAtTheCipherPoint_8 : ∃ (s : State) (pipe k l : Nat) (p : Pass), (stopped s = false) ∧ (enabled
  s .cip = true) ∧ (urgentWaits s = false) ∧ (cipherTurn s pipe = some p) ∧ (p.esp = some (.encrypt k l)) ∧ (slotMode
  (slotImage s k) = 0 ∨ slotEsp (slotImage s k) = false ∨ slotOutbound (slotImage s k) = false ∨ slotUsable s k =
  false) :=
  ⟨withRegs { State.reset with areas := { key := 1 }, cip := { slots := [(5, 0)] }, pp := { passes := [(1, [{ pkt := { frame := List.replicate 60 1, info := { layers := [(14, 9), (34, 8)] } }, orig := {}, stage := 3, esp := some (.encrypt 5 1) }])] } } [(enableField .cip, 0, 1), (PP_CFG.cipher_after, 1, 2)], 1, 5, 1, { pkt := { frame := List.replicate 60 1, info := { layers := [(14, 9), (34, 8)] } }, orig := {}, stage := 3, esp := some (.encrypt 5 1) }, by decide +kernel⟩

theorem meets_InlineEspAtTheCipherPoint_9 : ∃ (s : State) (pipe k l n : Nat) (p : Pass), (stopped s = false) ∧
  (enabled s .cip = true) ∧ (urgentWaits s = false) ∧ (cipherTurn s pipe = some p) ∧ (p.esp = some (.decrypt k l)) ∧
  (p.ipStop.isSome = true) ∧ (espBefore s k p.pkt.frame (p.ipStop.getD 0) = .inl n) :=
  ⟨withRegs { State.reset with areas := { key := 1 }, cip := { slots := [(5, 0)] }, pp := { passes := [(1, [{ pkt := { frame := List.replicate 34 0 ++ beBytes 4 7 ++ beBytes 4 9 ++ List.replicate 60 1, info := { layers := [(14, 9)] } }, orig := {}, stage := 3, esp := some (.decrypt 5 4), ipStop := some 34, ipOff := 14 }])] } } [(enableField .cip, 0, 1), (PP_CFG.cipher_after, 1, 2)], 1, 5, 4, 0, { pkt := { frame := List.replicate 34 0 ++ beBytes 4 7 ++ beBytes 4 9 ++ List.replicate 60 1, info := { layers := [(14, 9)] } }, orig := {}, stage := 3, esp := some (.decrypt 5 4), ipStop := some 34, ipOff := 14 }, by decide +kernel⟩

theorem meets_EgressChoiceAndDeparture_1 : ∃ (s : State) (p : Nat) (g : PauseGroup) (rest : List PauseGroup), (stopped
  s = false) ∧ (isPort s p = true) ∧ (enabled s .tm = true) ∧ (tmSending s p = .idle) ∧ (Map.get s.pp.genPause p = g
  :: rest) ∧ (portUp s p = true) ∧ (g.tick + 8 ≤ s.tt.ticks) :=
  ⟨withRegs { State.reset with pp := { genPause := [(1, [⟨3, 3, 1⟩])] }, tt := { ticks := 11 } } [(PP_ETH_MODE.quad0, 0, 1), (PP_PORT.enable, 1, 1), (enableField .pp, 0, 1), (enableField .tm, 0, 1), (PP_PORT_STAT.link_up, 1, 1)], 1, ⟨3, 3, 1⟩, [], by decide +kernel⟩

theorem meets_EgressChoiceAndDeparture_2 : ∃ (s s1 s2 : State) (p c g : Nat) (f : TmFrame) (rest : List TmFrame),
  (stopped s = false) ∧ (isPort s p = true) ∧ (enabled s .tm = true) ∧ (tmSending s p = .idle) ∧ (readyPause s p =
  none) ∧ (gated s p = false) ∧ (someUnfit s p = false) ∧ (chooseClass s p = some (c, s1)) ∧ (chooseGroup s1 p c =
  some (g, s2)) ∧ (tmQueue s2 (tmKey p g c) = f :: rest) ∧ (macDiscard s2 p f = none) :=
  ⟨withRegs { State.reset with tm := { queues := [(4099, [⟨{ frame := List.replicate 60 1 }, 3⟩])] } } ([(PP_ETH_MODE.quad0, 0, 1), (PP_PORT.enable, 1, 1), (enableField .pp, 0, 1), (enableField .tm, 0, 1), (PP_PORT_STAT.link_up, 1, 1)] ++ [(TM_GROUP.valid, 512, 1), (TM_PORT.sp, 1, 8)]), withRegs { State.reset with tm := { queues := [(4099, [⟨{ frame := List.replicate 60 1 }, 3⟩])] } } ([(PP_ETH_MODE.quad0, 0, 1), (PP_PORT.enable, 1, 1), (enableField .pp, 0, 1), (enableField .tm, 0, 1), (PP_PORT_STAT.link_up, 1, 1)] ++ [(TM_GROUP.valid, 512, 1), (TM_PORT.sp, 1, 8)]), ((chooseGroup (withRegs { State.reset with tm := { queues := [(4099, [⟨{ frame := List.replicate 60 1 }, 3⟩])] } } ([(PP_ETH_MODE.quad0, 0, 1), (PP_PORT.enable, 1, 1), (enableField .pp, 0, 1), (enableField .tm, 0, 1), (PP_PORT_STAT.link_up, 1, 1)] ++ [(TM_GROUP.valid, 512, 1), (TM_PORT.sp, 1, 8)])) 1 3).getD (0, State.reset)).2, 1, 3, 0, ⟨{ frame := List.replicate 60 1 }, 3⟩, [], by decide +kernel⟩

theorem meets_EgressChoiceAndDeparture_3 : ∃ (s : State) (p : Nat), (stopped s = false) ∧ (isPort s p = false ∨
  enabled s .tm = false ∨ tmSending s p ≠ .idle) :=
  ⟨State.reset, 1, by decide +kernel⟩

theorem meets_EgressChoiceAndDeparture_4 : ∃ (s : State) (p : Nat) (bs : Bytes), (stopped s = false) ∧ (tmSending s p
  = .pause bs) ∧ (s.nrg.metering = false) :=
  ⟨{ State.reset with tm := { sending := [(1, .pause (List.replicate 60 1))] } }, 1, List.replicate 60 1, by decide +kernel⟩

theorem meets_EgressChoiceAndDeparture_5 : ∃ (s s1 s2 : State) (p c g : Nat) (f : TmFrame) (rest : List TmFrame),
  (stopped s = false) ∧ (isPort s p = true) ∧ (enabled s .tm = true) ∧ (tmSending s p = .idle) ∧ (Map.get
  s.pp.genPause p = []) ∧ (gated s p = false) ∧ (someUnfit s p = false) ∧ (chooseClass s p = some (c, s1)) ∧
  (chooseGroup s1 p c = some (g, s2)) ∧ (tmQueue s2 (tmKey p g c) = f :: rest) ∧ (macDiscard s2 p f = none) ∧ (s.rd
  TT_PORT_LAT.one_step p = 0) :=
  ⟨withRegs { State.reset with tm := { queues := [(4099, [⟨{ frame := List.replicate 60 1 }, 3⟩])] } } ([(PP_ETH_MODE.quad0, 0, 1), (PP_PORT.enable, 1, 1), (enableField .pp, 0, 1), (enableField .tm, 0, 1), (PP_PORT_STAT.link_up, 1, 1)] ++ [(TM_GROUP.valid, 512, 1), (TM_PORT.sp, 1, 8)]), withRegs { State.reset with tm := { queues := [(4099, [⟨{ frame := List.replicate 60 1 }, 3⟩])] } } ([(PP_ETH_MODE.quad0, 0, 1), (PP_PORT.enable, 1, 1), (enableField .pp, 0, 1), (enableField .tm, 0, 1), (PP_PORT_STAT.link_up, 1, 1)] ++ [(TM_GROUP.valid, 512, 1), (TM_PORT.sp, 1, 8)]), ((chooseGroup (withRegs { State.reset with tm := { queues := [(4099, [⟨{ frame := List.replicate 60 1 }, 3⟩])] } } ([(PP_ETH_MODE.quad0, 0, 1), (PP_PORT.enable, 1, 1), (enableField .pp, 0, 1), (enableField .tm, 0, 1), (PP_PORT_STAT.link_up, 1, 1)] ++ [(TM_GROUP.valid, 512, 1), (TM_PORT.sp, 1, 8)])) 1 3).getD (0, State.reset)).2, 1, 3, 0, ⟨{ frame := List.replicate 60 1 }, 3⟩, [], by decide +kernel⟩

theorem meets_EgressChoiceAndDeparture_6 : ∃ (s : State) (p k : Nat) (f : TmFrame), (stopped s = false) ∧ (p < 16) ∧
  (tmSending s p = .frame k f) :=
  ⟨{ State.reset with tm := { sending := [(1, .frame 4099 ⟨{ frame := List.replicate 70 1 }, 3⟩)] }, pp := { holds := [⟨0, 3, some 1, 2, []⟩] } }, 1, 4099, ⟨{ frame := List.replicate 70 1 }, 3⟩, by decide +kernel⟩

theorem meets_EgressChoiceAndDeparture_7 : ∃ (s : State) (p : Nat), (stopped s = false) ∧ (p < 16) ∧ (enabled s .tm =
  true) ∧ (refillDue s = true) ∧ (dueBefore s (refillTime s) = false) ∧ (applyAsked s .tm = false) ∧ (s.rd
  TM_PORT.shape_en p = 1) ∧ (s.rd TM_PORT.depth p < 2 ^ 24) :=
  ⟨withRegs { State.reset with tt := { tt := 5000 } } [(TM_PORT.shape_en, 3, 1), (TM_PORT.rate_kbps, 3, 80000), (enableField .tm, 0, 1)], 3, by decide +kernel⟩

theorem meets_EgressChoiceAndDeparture_8 : ∃ (s : State), (stopped s = false) ∧ (enabled s .tm = true) ∧ (refillDue s
  = true) ∧ (dueBefore s (refillTime s) = false) :=
  ⟨withRegs { State.reset with tt := { tt := 5000 } } [(enableField .tm, 0, 1)], by decide +kernel⟩

theorem meets_EgressChoiceAndDeparture_9 : ∃ (s : State), (stopped s = false) ∧ (enabled s .tm = false ∨ refillDue s =
  false) :=
  ⟨State.reset, by decide +kernel⟩

theorem meets_EgressChoiceAndDeparture_10 : ∃ (s x : State) (p k : Nat) (f : TmFrame) (wire : Bytes), (stopped s =
  false) ∧ (tmSending s p = .frame k f) ∧ (wire = withFcs (fitBytes (max 60 f.pkt.frame.length) f.pkt.frame)) ∧ (x =
  countGroup (countGroup (((setSending s p .idle).count PP_PORT_CNT.count 1 p 9).count PP_PORT_CNT.count wire.length p
  10) (p * 512 + k % 4096 / 8) 0 1) (p * 512 + k % 4096 / 8) 1 wire.length) :=
  ⟨{ State.reset with tm := { sending := [(1, .frame 4099 ⟨{ frame := List.replicate 70 1 }, 3⟩)] } }, countGroup (countGroup (((setSending { State.reset with tm := { sending := [(1, .frame 4099 ⟨{ frame := List.replicate 70 1 }, 3⟩)] } } 1 .idle).count PP_PORT_CNT.count 1 1 9).count PP_PORT_CNT.count 74 1 10) 512 0 1) 512 1 74, 1, 4099, ⟨{ frame := List.replicate 70 1 }, 3⟩, withFcs (List.replicate 70 1), by decide +kernel⟩

theorem meets_GateListsPausesAndMeters_1 : ∃ (s : State) (who : Initiator) (p : Nat), (stopped s = false) ∧ (p < 16) ∧
  (writable who TM_GATE_CTL.arm p s = true) ∧ (now s ≤ s.rd TM_GATE_TT.adopt_tt p) :=
  ⟨State.reset.wr TM_GATE_TT.adopt_tt 500 4, .host 0, 4, by decide +kernel⟩

theorem meets_GateListsPausesAndMeters_2 : ∃ (s : State) (p l x : Nat), (stopped s = false) ∧ (p < 16) ∧ (l < 2) ∧
  (Map.get s.tm.armed p = ⟨true, l, x, 0⟩) ∧ (x ≤ now s) ∧ (dueBefore s x = false) ∧ (applicationFirst s .tm x =
  false) ∧ (gateCycle s p l ≠ 0) :=
  ⟨withRegs { State.reset with tm := { armed := [(4, ⟨true, 1, 9, 0⟩)] }, tt := { tt := 10 } } [(TM_GATE_CYCLE.cycle1, 4, 1000)], 4, 1, 9, by decide +kernel⟩

theorem meets_GateListsPausesAndMeters_3 : ∃ (s : State) (p l x : Nat), (stopped s = false) ∧ (p < 16) ∧ (Map.get
  s.tm.armed p = ⟨true, l, x, 0⟩) ∧ (x ≤ now s) ∧ (dueBefore s x = false) ∧ (applicationFirst s .tm x = false) ∧
  (gateCycle s p l = 0) :=
  ⟨{ State.reset with tm := { armed := [(4, ⟨true, 1, 9, 0⟩)] }, tt := { tt := 10 } }, 4, 1, 9, by decide +kernel⟩

theorem meets_GateListsPausesAndMeters_4 : ∃ (s : State) (p l x : Nat), (stopped s = false) ∧ (p < 16) ∧ (Map.get
  s.tm.armed p = ⟨true, l, x, 0⟩) ∧ (x ≤ now s) ∧ (dueBefore s x = false) ∧ (applicationFirst s .tm x = false) ∧
  (gateCycle s p l ≠ 0) :=
  ⟨withRegs { State.reset with tm := { armed := [(4, ⟨true, 1, 9, 0⟩)] }, tt := { tt := 10 } } [(TM_GATE_CYCLE.cycle1, 4, 1000)], 4, 1, 9, by decide +kernel⟩

theorem meets_GateListsPausesAndMeters_5 : ∃ (s : State) (p : Nat), (stopped s = false) ∧ ((Map.get s.tm.armed p).on =
  false ∨ now s < (Map.get s.tm.armed p).tt) :=
  ⟨State.reset, 4, by decide +kernel⟩

theorem meets_GateListsPausesAndMeters_6 : ∃ (s : State) (who : Initiator) (p : Nat), (stopped s = false) ∧ (p < 16) ∧
  (writable who TM_GATE_CTL.arm p s = true) ∧ (s.rd TM_GATE_TT.adopt_tt p < now s) :=
  ⟨({ State.reset with tt := { tt := 501 } } : State).wr TM_GATE_TT.adopt_tt 500 4, .host 0, 4, by decide +kernel⟩

theorem meets_GateListsPausesAndMeters_7 : ∃ (s : State) (p : Nat), (stopped s = false) ∧ (p < 16) ∧ (gated s p =
  false) :=
  ⟨State.reset, 4, by decide +kernel⟩

theorem meets_GateListsPausesAndMeters_8 : ∃ (s : State) (p : Nat), (stopped s = false) ∧ (p < 16) ∧ (gated s p =
  true) :=
  ⟨withRegs { State.reset with tt := { tt := 10 } } [(TM_GATE_CTL.gate_en, 4, 1), (TM_GATE_CTL.adopted, 4, 1), (TM_GATE_CYCLE.cycle0, 4, 1000)], 4, by decide +kernel⟩

theorem meets_GateListsPausesAndMeters_9 : ∃ (s : State) (p c : Nat), (stopped s = false) ∧ (p < 16) ∧ (c < 8) ∧
  ((s.rd TM_PORT.paused p).testBit c = true) ∧ (Map.get s.tm.pauseEnd (p * 8 + c) ≤ clockPs s) :=
  ⟨withRegs { State.reset with tm := { pauseEnd := [(35, 9000), (36, 99000)] }, tt := { ticks := 5 } } [(TM_PORT.paused, 4, 24)], 4, 3, by decide +kernel⟩

theorem meets_GateListsPausesAndMeters_10 : ∃ (s : State) (p : Nat), (stopped s = false) ∧ (p < 16) :=
  ⟨State.reset, 4, by decide +kernel⟩

theorem meets_GateListsPausesAndMeters_11 : ∃ (s : State) (who : Initiator), (stopped s = false) ∧ (writable who
  TM_MCMD.go 0 s = true) ∧ (Map.get s.tm.meters (s.rd TM_MCMD.index) = ⟨7, 8, 9, 10, true, false, 3, 1234, 99999, 5⟩)
  :=
  ⟨({ State.reset with tm := { meters := [(77, ⟨7, 8, 9, 10, true, false, 3, 1234, 99999, 5⟩)] } } : State).wr TM_MCMD.index 77, .host 0, by decide +kernel⟩

theorem meets_GateListsPausesAndMeters_12 : ∃ (s : State) (who : Initiator) (x : Meter), (stopped s = false) ∧
  (writable who TM_MCMD.go 0 s = true) ∧ (Map.get s.tm.meters (s.rd TM_MCMD.index) = x) :=
  ⟨State.reset, .host 0, {}, by decide +kernel⟩

theorem meets_GateListsPausesAndMeters_13 : ∃ (s : State) (who : Initiator) (x : Meter), (stopped s = false) ∧
  (writable who TM_MCMD.go 0 s = true) ∧ (s.rd TM_MCMD.keep = 1) ∧ (x = (Map.get s.tm.meters (s.rd
  TM_MCMD.index)).update (now s)) ∧ (-32 ≤ signed 7 (s.rd TM_MCMD.overhead)) :=
  ⟨State.reset.wr TM_MCMD.keep 1, .host 0, {}, by decide +kernel⟩

theorem meets_GateListsPausesAndMeters_14 : ∃ (s : State) (who : Initiator), (stopped s = false) ∧ (writable who
  TM_MCMD.go 0 s = true) ∧ (s.rd TM_MCMD.keep = 0) ∧ (signed 7 (s.rd TM_MCMD.overhead) ≥ -32) :=
  ⟨withRegs { State.reset with tt := { tt := 88 } } [(TM_MCMD.index, 0, 77), (TM_MCMD.cir_kbps, 0, 1000), (TM_MCMD.cbs, 0, 64), (TM_MCMD.valid, 0, 1)], .host 0, by decide +kernel⟩

theorem meets_GateListsPausesAndMeters_15 : ∃ (s : State) (who : Initiator), (stopped s = false) ∧ (writable who
  TM_CNT_ADDR.go 0 s = true) ∧ (s.rd TM_CNT_ADDR.n ≤ 4) ∧ (s.rd TM_CNT_ADDR.clear = 1) :=
  ⟨withRegs { State.reset with tm := { counters := [(41, 6)] } } [(TM_CNT_ADDR.group, 0, 5), (TM_CNT_ADDR.n, 0, 1), (TM_CNT_ADDR.clear, 0, 1)], .host 0, by decide +kernel⟩

theorem meets_GateListsPausesAndMeters_16 : ∃ (s : State) (who : Initiator), (stopped s = false) ∧ (writable who
  TM_CNT_ADDR.go 0 s = true) ∧ (s.rd TM_CNT_ADDR.n ≤ 4) ∧ (s.rd TM_CNT_ADDR.clear = 0) :=
  ⟨withRegs { State.reset with tm := { counters := [(41, 6)] } } [(TM_CNT_ADDR.group, 0, 5), (TM_CNT_ADDR.n, 0, 1)], .host 0, by decide +kernel⟩

theorem meets_FlowTableCommandPortsOnPrefixes_1 : ∃ (s : State) (who : Initiator) (p b : Nat), (stopped s = false) ∧
  (p < 8) ∧ (b < 64) ∧ (writable who FT_CMD.go p s = true) ∧ (s.rd FT_CMD.busy p = 0) ∧ (s.rd FT_CMD.table p = b) ∧
  (tableLive s b = true) ∧ (s.ft.walk = none) ∧ (s.ft.waiting = []) ∧ (s.rd FT_TABLE.kind b = 2) ∧ ((bitsAt (s.rd
  FT_CMD.arg p) 0 8) ≤ addrBits s b) ∧ (findPrefix s b (prefixAddr (addrBits s b) (bitsAt (s.rd FT_CMD.arg p) 0 8)
  (lpmAddr s b (s.rd FT_CMD.key p))) (bitsAt (s.rd FT_CMD.arg p) 0 8) = none) ∧ (lpmUnits s + 4 ≤ 1048576) :=
  ⟨withRegs State.reset [(FT_TABLE.valid, 3, 1), (FT_TABLE.ready, 3, 1), (FT_CMD.table, 2, 3), (enableField .ft, 0, 1), (FT_TABLE.kind, 3, 2), (FT_CMD.arg, 2, 8), (FT_CMD.key, 2, 10), (FT_CMD.action, 2, 5), (FT_CMD.data, 2, 77)], .host 0, 2, 3, by decide +kernel⟩

theorem meets_FlowTableCommandPortsOnPrefixes_2 : ∃ (s : State) (who : Initiator) (p b : Nat) (x : LpmPrefix),
  (stopped s = false) ∧ (p < 8) ∧ (b < 64) ∧ (writable who FT_CMD.go p s = true) ∧ (s.rd FT_CMD.busy p = 0) ∧ (s.rd
  FT_CMD.table p = b) ∧ (tableLive s b = true) ∧ (s.ft.walk = none) ∧ (s.ft.waiting = []) ∧ (s.rd FT_TABLE.kind b = 2)
  ∧ ((bitsAt (s.rd FT_CMD.arg p) 0 8) ≤ addrBits s b) ∧ (findPrefix s b (prefixAddr (addrBits s b) (bitsAt (s.rd
  FT_CMD.arg p) 0 8) (lpmAddr s b (s.rd FT_CMD.key p))) (bitsAt (s.rd FT_CMD.arg p) 0 8) = some x) :=
  ⟨withRegs { State.reset with ft := { lpm := [⟨3, 0x0A000000, 8, 4, 66⟩] } } [(FT_TABLE.valid, 3, 1), (FT_TABLE.ready, 3, 1), (FT_CMD.table, 2, 3), (enableField .ft, 0, 1), (FT_TABLE.kind, 3, 2), (FT_CMD.arg, 2, 8), (FT_CMD.key, 2, 10), (FT_CMD.action, 2, 5), (FT_CMD.data, 2, 77)], .host 0, 2, 3, ⟨3, 0x0A000000, 8, 4, 66⟩, by decide +kernel⟩

theorem meets_FlowTableCommandPortsOnPrefixes_3 : ∃ (s : State) (who : Initiator) (p b : Nat) (x : LpmPrefix),
  (stopped s = false) ∧ (p < 8) ∧ (b < 64) ∧ (writable who FT_CMD.go p s = true) ∧ (s.rd FT_CMD.busy p = 0) ∧ (s.rd
  FT_CMD.table p = b) ∧ (tableLive s b = true) ∧ (s.ft.walk = none) ∧ (s.ft.waiting = []) ∧ (s.rd FT_TABLE.kind b = 2)
  ∧ ((bitsAt (s.rd FT_CMD.arg p) 0 8) ≤ addrBits s b) ∧ (findPrefix s b (prefixAddr (addrBits s b) (bitsAt (s.rd
  FT_CMD.arg p) 0 8) (lpmAddr s b (s.rd FT_CMD.key p))) (bitsAt (s.rd FT_CMD.arg p) 0 8) = some x) :=
  ⟨withRegs { State.reset with ft := { lpm := [⟨3, 0x0A000000, 8, 4, 66⟩] } } [(FT_TABLE.valid, 3, 1), (FT_TABLE.ready, 3, 1), (FT_CMD.table, 2, 3), (enableField .ft, 0, 1), (FT_TABLE.kind, 3, 2), (FT_CMD.arg, 2, 8), (FT_CMD.key, 2, 10), (FT_CMD.action, 2, 5), (FT_CMD.data, 2, 77)], .host 0, 2, 3, ⟨3, 0x0A000000, 8, 4, 66⟩, by decide +kernel⟩

theorem meets_FlowTableCommandPortsOnPrefixes_4 : ∃ (s : State) (who : Initiator) (p b : Nat), (stopped s = false) ∧
  (p < 8) ∧ (b < 64) ∧ (writable who FT_CMD.go p s = true) ∧ (s.rd FT_CMD.busy p = 0) ∧ (s.rd FT_CMD.table p = b) ∧
  (tableLive s b = true) ∧ (s.ft.walk = none) ∧ (s.ft.waiting = []) ∧ (s.rd FT_TABLE.kind b = 2) ∧ ((bitsAt (s.rd
  FT_CMD.arg p) 0 8) ≤ addrBits s b) ∧ (findPrefix s b (prefixAddr (addrBits s b) (bitsAt (s.rd FT_CMD.arg p) 0 8)
  (lpmAddr s b (s.rd FT_CMD.key p))) (bitsAt (s.rd FT_CMD.arg p) 0 8) = none) ∧ (lpmUnits s + 4 ≤ 1048576) :=
  ⟨withRegs State.reset [(FT_TABLE.valid, 3, 1), (FT_TABLE.ready, 3, 1), (FT_CMD.table, 2, 3), (enableField .ft, 0, 1), (FT_TABLE.kind, 3, 2), (FT_CMD.arg, 2, 8), (FT_CMD.key, 2, 10), (FT_CMD.action, 2, 5), (FT_CMD.data, 2, 77)], .host 0, 2, 3, by decide +kernel⟩

theorem meets_FlowTableCommandPortsOnPrefixes_5 : ∃ (s : State) (who : Initiator) (p b : Nat) (x : LpmPrefix),
  (stopped s = false) ∧ (p < 8) ∧ (b < 64) ∧ (writable who FT_CMD.go p s = true) ∧ (s.rd FT_CMD.busy p = 0) ∧ (s.rd
  FT_CMD.table p = b) ∧ (tableLive s b = true) ∧ (s.ft.walk = none) ∧ (s.ft.waiting = []) ∧ (s.rd FT_TABLE.kind b = 2)
  ∧ ((bitsAt (s.rd FT_CMD.arg p) 0 8) ≤ addrBits s b) ∧ (findPrefix s b (prefixAddr (addrBits s b) (bitsAt (s.rd
  FT_CMD.arg p) 0 8) (lpmAddr s b (s.rd FT_CMD.key p))) (bitsAt (s.rd FT_CMD.arg p) 0 8) = some x) :=
  ⟨withRegs { State.reset with ft := { lpm := [⟨3, 0x0A000000, 8, 4, 66⟩] } } [(FT_TABLE.valid, 3, 1), (FT_TABLE.ready, 3, 1), (FT_CMD.table, 2, 3), (enableField .ft, 0, 1), (FT_TABLE.kind, 3, 2), (FT_CMD.arg, 2, 8), (FT_CMD.key, 2, 10), (FT_CMD.action, 2, 5), (FT_CMD.data, 2, 77)], .host 0, 2, 3, ⟨3, 0x0A000000, 8, 4, 66⟩, by decide +kernel⟩

theorem meets_FlowTableCommandPortsOnPrefixes_6 : ∃ (s : State) (who : Initiator) (p b : Nat) (x : LpmPrefix),
  (stopped s = false) ∧ (p < 8) ∧ (b < 64) ∧ (writable who FT_CMD.go p s = true) ∧ (s.rd FT_CMD.busy p = 0) ∧ (s.rd
  FT_CMD.table p = b) ∧ (tableLive s b = true) ∧ (s.ft.walk = none) ∧ (s.ft.waiting = []) ∧ (s.rd FT_TABLE.kind b = 2)
  ∧ ((bitsAt (s.rd FT_CMD.arg p) 0 8) ≤ addrBits s b) ∧ (findPrefix s b (prefixAddr (addrBits s b) (bitsAt (s.rd
  FT_CMD.arg p) 0 8) (lpmAddr s b (s.rd FT_CMD.key p))) (bitsAt (s.rd FT_CMD.arg p) 0 8) = some x) :=
  ⟨withRegs { State.reset with ft := { lpm := [⟨3, 0x0A000000, 8, 4, 66⟩] } } [(FT_TABLE.valid, 3, 1), (FT_TABLE.ready, 3, 1), (FT_CMD.table, 2, 3), (enableField .ft, 0, 1), (FT_TABLE.kind, 3, 2), (FT_CMD.arg, 2, 8), (FT_CMD.key, 2, 10), (FT_CMD.action, 2, 5), (FT_CMD.data, 2, 77)], .host 0, 2, 3, ⟨3, 0x0A000000, 8, 4, 66⟩, by decide +kernel⟩

theorem meets_FlowTableCommandPortsOnPrefixes_7 : ∃ (s : State) (who : Initiator) (p b : Nat) (x : LpmPrefix),
  (stopped s = false) ∧ (p < 8) ∧ (b < 64) ∧ (writable who FT_CMD.go p s = true) ∧ (s.rd FT_CMD.busy p = 0) ∧ (s.rd
  FT_CMD.table p = b) ∧ (tableLive s b = true) ∧ (s.ft.walk = none) ∧ (s.ft.waiting = []) ∧ (s.rd FT_TABLE.kind b = 2)
  ∧ ((bitsAt (s.rd FT_CMD.arg p) 0 8) ≤ addrBits s b) ∧ (findPrefix s b (prefixAddr (addrBits s b) (bitsAt (s.rd
  FT_CMD.arg p) 0 8) (lpmAddr s b (s.rd FT_CMD.key p))) (bitsAt (s.rd FT_CMD.arg p) 0 8) = some x) :=
  ⟨withRegs { State.reset with ft := { lpm := [⟨3, 0x0A000000, 8, 4, 66⟩] } } [(FT_TABLE.valid, 3, 1), (FT_TABLE.ready, 3, 1), (FT_CMD.table, 2, 3), (enableField .ft, 0, 1), (FT_TABLE.kind, 3, 2), (FT_CMD.arg, 2, 8), (FT_CMD.key, 2, 10), (FT_CMD.action, 2, 5), (FT_CMD.data, 2, 77)], .host 0, 2, 3, ⟨3, 0x0A000000, 8, 4, 66⟩, by decide +kernel⟩

theorem meets_FlowTableCommandPortsOnPrefixes_8 : ∃ (s : State) (who : Initiator) (p b : Nat), (stopped s = false) ∧
  (p < 8) ∧ (b < 64) ∧ (writable who FT_CMD.go p s = true) ∧ (s.rd FT_CMD.busy p = 0) ∧ (s.rd FT_CMD.table p = b) ∧
  (tableLive s b = true) ∧ (s.ft.walk = none) ∧ (s.ft.waiting = []) ∧ (s.rd FT_TABLE.kind b = 2) :=
  ⟨withRegs State.reset [(FT_TABLE.valid, 3, 1), (FT_TABLE.ready, 3, 1), (FT_CMD.table, 2, 3), (enableField .ft, 0, 1), (FT_TABLE.kind, 3, 2), (FT_CMD.arg, 2, 8), (FT_CMD.key, 2, 10), (FT_CMD.action, 2, 5), (FT_CMD.data, 2, 77)], .host 0, 2, 3, by decide +kernel⟩

theorem meets_FlowTableCommandPortsOnPrefixes_9 : ∃ (s a : State) (who : Initiator) (p b : Nat) (cs : List Nat),
  (stopped s = false) ∧ (p < 8) ∧ (writable who FT_CMD.go p s = true) ∧ (s.rd FT_CMD.busy p = 0) ∧ (s.rd FT_CMD.table
  p = b) ∧ (a = s.wr FT_CMD.op 1 p) ∧ (cs = addressed a b (s.rd FT_CMD.copies p)) ∧ (cs ≠ []) :=
  ⟨withRegs State.reset [(FT_TABLE.valid, 3, 1), (FT_TABLE.ready, 3, 1), (FT_CMD.table, 2, 3), (enableField .ft, 0, 1), (FT_TABLE.kind, 3, 1), (FT_TABLE.per_pipe, 3, 1), (FT_CMD.copies, 2, 3)], (withRegs State.reset [(FT_TABLE.valid, 3, 1), (FT_TABLE.ready, 3, 1), (FT_CMD.table, 2, 3), (enableField .ft, 0, 1), (FT_TABLE.kind, 3, 1), (FT_TABLE.per_pipe, 3, 1), (FT_CMD.copies, 2, 3)]).wr FT_CMD.op 1 2, .host 0, 2, 3, [0, 1], by decide +kernel⟩

theorem meets_FlowTableCommandPortsOnPrefixes_10 : ∃ (s a : State) (who : Initiator) (p b : Nat) (cs : List Nat),
  (stopped s = false) ∧ (p < 8) ∧ (writable who FT_CMD.go p s = true) ∧ (s.rd FT_CMD.busy p = 0) ∧ (s.rd FT_CMD.table
  p = b) ∧ (a = s.wr FT_CMD.op 2 p) ∧ (cs = addressed a b (s.rd FT_CMD.copies p)) ∧ (cs ≠ []) :=
  ⟨withRegs State.reset [(FT_TABLE.valid, 3, 1), (FT_TABLE.ready, 3, 1), (FT_CMD.table, 2, 3), (enableField .ft, 0, 1), (FT_TABLE.kind, 3, 1), (FT_TABLE.per_pipe, 3, 1), (FT_CMD.copies, 2, 3)], (withRegs State.reset [(FT_TABLE.valid, 3, 1), (FT_TABLE.ready, 3, 1), (FT_CMD.table, 2, 3), (enableField .ft, 0, 1), (FT_TABLE.kind, 3, 1), (FT_TABLE.per_pipe, 3, 1), (FT_CMD.copies, 2, 3)]).wr FT_CMD.op 2 2, .host 0, 2, 3, [0, 1], by decide +kernel⟩

theorem meets_FlowTableCommandPortsOnPrefixes_11 : ∃ (s a : State) (who : Initiator) (p b : Nat) (cs : List Nat),
  (stopped s = false) ∧ (p < 8) ∧ (writable who FT_CMD.go p s = true) ∧ (s.rd FT_CMD.busy p = 0) ∧ (s.rd FT_CMD.table
  p = b) ∧ (a = s.wr FT_CMD.op 3 p) ∧ (cs = addressed a b (s.rd FT_CMD.copies p)) ∧ (cs ≠ []) :=
  ⟨withRegs State.reset [(FT_TABLE.valid, 3, 1), (FT_TABLE.ready, 3, 1), (FT_CMD.table, 2, 3), (enableField .ft, 0, 1), (FT_TABLE.kind, 3, 1), (FT_TABLE.per_pipe, 3, 1), (FT_CMD.copies, 2, 3)], (withRegs State.reset [(FT_TABLE.valid, 3, 1), (FT_TABLE.ready, 3, 1), (FT_CMD.table, 2, 3), (enableField .ft, 0, 1), (FT_TABLE.kind, 3, 1), (FT_TABLE.per_pipe, 3, 1), (FT_CMD.copies, 2, 3)]).wr FT_CMD.op 3 2, .host 0, 2, 3, [0, 1], by decide +kernel⟩

theorem meets_FlowTableCommandPortsOnPrefixes_12 : ∃ (s a : State) (who : Initiator) (p b : Nat) (cs : List Nat),
  (stopped s = false) ∧ (p < 8) ∧ (writable who FT_CMD.go p s = true) ∧ (s.rd FT_CMD.busy p = 0) ∧ (s.rd FT_CMD.table
  p = b) ∧ (a = s.wr FT_CMD.op 4 p) ∧ (cs = addressed a b (s.rd FT_CMD.copies p)) ∧ (cs ≠ []) :=
  ⟨withRegs State.reset [(FT_TABLE.valid, 3, 1), (FT_TABLE.ready, 3, 1), (FT_CMD.table, 2, 3), (enableField .ft, 0, 1), (FT_TABLE.kind, 3, 1), (FT_TABLE.per_pipe, 3, 1), (FT_CMD.copies, 2, 3)], (withRegs State.reset [(FT_TABLE.valid, 3, 1), (FT_TABLE.ready, 3, 1), (FT_CMD.table, 2, 3), (enableField .ft, 0, 1), (FT_TABLE.kind, 3, 1), (FT_TABLE.per_pipe, 3, 1), (FT_CMD.copies, 2, 3)]).wr FT_CMD.op 4 2, .host 0, 2, 3, [0, 1], by decide +kernel⟩

theorem meets_FlowTableCommandPortsOnPrefixes_13 : ∃ (s a : State) (who : Initiator) (p b : Nat) (cs : List Nat),
  (stopped s = false) ∧ (p < 8) ∧ (writable who FT_CMD.go p s = true) ∧ (s.rd FT_CMD.busy p = 0) ∧ (s.rd FT_CMD.table
  p = b) ∧ (a = s.wr FT_CMD.op 5 p) ∧ (cs = addressed a b (s.rd FT_CMD.copies p)) ∧ (cs ≠ []) :=
  ⟨withRegs State.reset [(FT_TABLE.valid, 3, 1), (FT_TABLE.ready, 3, 1), (FT_CMD.table, 2, 3), (enableField .ft, 0, 1), (FT_TABLE.kind, 3, 1), (FT_TABLE.per_pipe, 3, 1), (FT_CMD.copies, 2, 3)], (withRegs State.reset [(FT_TABLE.valid, 3, 1), (FT_TABLE.ready, 3, 1), (FT_CMD.table, 2, 3), (enableField .ft, 0, 1), (FT_TABLE.kind, 3, 1), (FT_TABLE.per_pipe, 3, 1), (FT_CMD.copies, 2, 3)]).wr FT_CMD.op 5 2, .host 0, 2, 3, [0, 1], by decide +kernel⟩

theorem meets_FlowTableCommandPortsOnPrefixes_14 : ∃ (s a : State) (who : Initiator) (p b : Nat) (cs : List Nat),
  (stopped s = false) ∧ (p < 8) ∧ (writable who FT_CMD.go p s = true) ∧ (s.rd FT_CMD.busy p = 0) ∧ (s.rd FT_CMD.table
  p = b) ∧ (a = s.wr FT_CMD.op 7 p) ∧ (cs = addressed a b (s.rd FT_CMD.copies p)) ∧ (cs ≠ []) :=
  ⟨withRegs State.reset [(FT_TABLE.valid, 3, 1), (FT_TABLE.ready, 3, 1), (FT_CMD.table, 2, 3), (enableField .ft, 0, 1), (FT_TABLE.kind, 3, 1), (FT_TABLE.per_pipe, 3, 1), (FT_CMD.copies, 2, 3)], (withRegs State.reset [(FT_TABLE.valid, 3, 1), (FT_TABLE.ready, 3, 1), (FT_CMD.table, 2, 3), (enableField .ft, 0, 1), (FT_TABLE.kind, 3, 1), (FT_TABLE.per_pipe, 3, 1), (FT_CMD.copies, 2, 3)]).wr FT_CMD.op 7 2, .host 0, 2, 3, [0, 1], by decide +kernel⟩

theorem meets_FlowTableCommandPortsOnPrefixes_15 : ∃ (s : State) (who : Initiator) (p : Nat), (stopped s = false) ∧ (p
  < 8) ∧ (writable who FT_CMD.go p s = true) ∧ (s.rd FT_CMD.busy p = 1) :=
  ⟨State.reset.wr FT_CMD.busy 1 2, .host 0, 2, by decide +kernel⟩

theorem meets_FlowTableExactMatchAndTernary_1 : ∃ (s : State) (who : Initiator) (p b e : Nat), (stopped s = false) ∧
  (p < 8) ∧ (b < 64) ∧ (writable who FT_CMD.go p s = true) ∧ (s.rd FT_CMD.busy p = 0) ∧ (s.rd FT_CMD.table p = b) ∧
  (tableLive s b = true) ∧ (s.ft.walk = none) ∧ (s.ft.waiting = []) ∧ (s.rd FT_TABLE.kind b = 1) ∧ (s.rd
  FT_TABLE.per_pipe b = 0) ∧ (s.rd FT_TABLE.key_words b = 1) ∧ (bucketBad s b 0 (bucketPair s b (s.rd FT_CMD.key p % 2
  ^ 32)).1 = false) ∧ (bucketBad s b 0 (bucketPair s b (s.rd FT_CMD.key p % 2 ^ 32)).2 = false) ∧ (findKey s b 0 (s.rd
  FT_CMD.key p % 2 ^ 32) = none) ∧ (freeSlot s b 0 (bucketPair s b (s.rd FT_CMD.key p % 2 ^ 32)).1 = some e) ∧ (s.rd
  FT_CMD.action p < 256) ∧ (s.rd FT_CMD.data p < 2 ^ 256) :=
  ⟨withRegs State.reset [(FT_TABLE.valid, 3, 1), (FT_TABLE.ready, 3, 1), (FT_CMD.table, 2, 3), (enableField .ft, 0, 1), (FT_TABLE.kind, 3, 1), (FT_CMD.key, 2, 10), (FT_CMD.action, 2, 5), (FT_CMD.data, 2, 77)], .host 0, 2, 3, 0, by decide +kernel⟩

theorem meets_FlowTableExactMatchAndTernary_2 : ∃ (s : State) (who : Initiator) (p b : Nat), (stopped s = false) ∧ (p
  < 8) ∧ (b < 64) ∧ (writable who FT_CMD.go p s = true) ∧ (s.rd FT_CMD.busy p = 0) ∧ (s.rd FT_CMD.table p = b) ∧
  (tableLive s b = true) ∧ (s.ft.walk = none) ∧ (s.ft.waiting = []) ∧ (s.rd FT_TABLE.kind b = 1) ∧ (s.rd
  FT_TABLE.per_pipe b = 0) ∧ (s.rd FT_TABLE.key_words b = 1) ∧ (s.rd FT_CMD.arg p = 0) ∧ ((loadEntry s b 0 0 0).valid
  = true) ∧ (s.rd FT_TABLE.log2_buckets b ≤ 23) :=
  ⟨withRegs { State.reset with mem := [(sramBase + 0x04E00000, 3), (sramBase + 0x04E00001, 9)] } [(FT_TABLE.valid, 3, 1), (FT_TABLE.ready, 3, 1), (FT_CMD.table, 2, 3), (enableField .ft, 0, 1), (FT_TABLE.kind, 3, 1), (FT_CMD.key, 2, 10), (FT_CMD.action, 2, 5), (FT_CMD.data, 2, 77)], .host 0, 2, 3, by decide +kernel⟩

theorem meets_FlowTableExactMatchAndTernary_3 : ∃ (s : State) (who : Initiator) (p b : Nat), (stopped s = false) ∧ (p
  < 8) ∧ (b < 64) ∧ (writable who FT_CMD.go p s = true) ∧ (s.rd FT_CMD.busy p = 0) ∧ (s.rd FT_CMD.table p = b) ∧
  (tableLive s b = true) ∧ (s.ft.walk = none) ∧ (s.ft.waiting = []) ∧ (s.rd FT_TABLE.kind b = 3) ∧ (bitsAt (s.rd
  FT_CMD.arg p) 0 12 < s.rd FT_TABLE.count b) :=
  ⟨withRegs State.reset [(FT_TABLE.valid, 3, 1), (FT_TABLE.ready, 3, 1), (FT_CMD.table, 2, 3), (enableField .ft, 0, 1), (FT_TABLE.kind, 3, 3), (FT_TABLE.count, 3, 16), (FT_TABLE.first, 3, 32), (FT_CMD.arg, 2, 5), (FT_CMD.key, 2, 10), (FT_CMD.mask, 2, 15), (FT_CMD.t_valid, 2, 1), (FT_CMD.action, 2, 5), (FT_CMD.data, 2, 77)], .host 0, 2, 3, by decide +kernel⟩

theorem meets_FlowTableExactMatchAndTernary_4 : ∃ (s : State) (who : Initiator) (p b : Nat), (stopped s = false) ∧ (p
  < 8) ∧ (b < 64) ∧ (writable who FT_CMD.go p s = true) ∧ (s.rd FT_CMD.busy p = 0) ∧ (s.rd FT_CMD.table p = b) ∧
  (tableLive s b = true) ∧ (s.ft.walk = none) ∧ (s.ft.waiting = []) ∧ (s.rd FT_TABLE.kind b = 3) ∧ (bitsAt (s.rd
  FT_CMD.arg p) 0 12 < s.rd FT_TABLE.count b) ∧ (Map.get s.ft.tern (ternKey s b (bitsAt (s.rd FT_CMD.arg p) 0 12)) =
  ⟨true, 9, 15, 7, 99⟩) :=
  ⟨withRegs { State.reset with ft := { tern := [(37, ⟨true, 9, 15, 7, 99⟩)] } } [(FT_TABLE.valid, 3, 1), (FT_TABLE.ready, 3, 1), (FT_CMD.table, 2, 3), (enableField .ft, 0, 1), (FT_TABLE.kind, 3, 3), (FT_TABLE.count, 3, 16), (FT_TABLE.first, 3, 32), (FT_CMD.arg, 2, 5), (FT_CMD.key, 2, 10), (FT_CMD.mask, 2, 15), (FT_CMD.t_valid, 2, 1), (FT_CMD.action, 2, 5), (FT_CMD.data, 2, 77)], .host 0, 2, 3, by decide +kernel⟩

theorem meets_FlowTableExactMatchAndTernary_5 : ∃ (s a : State) (who : Initiator) (p b : Nat) (cs : List Nat),
  (stopped s = false) ∧ (p < 8) ∧ (writable who FT_CMD.go p s = true) ∧ (s.rd FT_CMD.busy p = 0) ∧ (s.rd FT_CMD.table
  p = b) ∧ (a = s.wr FT_CMD.op 6 p) ∧ (cs = addressed a b (s.rd FT_CMD.copies p)) ∧ (cs ≠ []) :=
  ⟨withRegs State.reset [(FT_TABLE.valid, 3, 1), (FT_TABLE.ready, 3, 1), (FT_CMD.table, 2, 3), (enableField .ft, 0, 1), (FT_TABLE.kind, 3, 1), (FT_TABLE.per_pipe, 3, 1), (FT_CMD.copies, 2, 3)], (withRegs State.reset [(FT_TABLE.valid, 3, 1), (FT_TABLE.ready, 3, 1), (FT_CMD.table, 2, 3), (enableField .ft, 0, 1), (FT_TABLE.kind, 3, 1), (FT_TABLE.per_pipe, 3, 1), (FT_CMD.copies, 2, 3)]).wr FT_CMD.op 6 2, .host 0, 2, 3, [0, 1], by decide +kernel⟩

theorem meets_FlowTableExactMatchAndTernary_6 : ∃ (s a : State) (who : Initiator) (p b : Nat) (cs : List Nat),
  (stopped s = false) ∧ (p < 8) ∧ (writable who FT_CMD.go p s = true) ∧ (s.rd FT_CMD.busy p = 0) ∧ (s.rd FT_CMD.table
  p = b) ∧ (a = s.wr FT_CMD.op 8 p) ∧ (cs = addressed a b (s.rd FT_CMD.copies p)) ∧ (cs ≠ []) :=
  ⟨withRegs State.reset [(FT_TABLE.valid, 3, 1), (FT_TABLE.ready, 3, 1), (FT_CMD.table, 2, 3), (enableField .ft, 0, 1), (FT_TABLE.kind, 3, 1), (FT_TABLE.per_pipe, 3, 1), (FT_CMD.copies, 2, 3)], (withRegs State.reset [(FT_TABLE.valid, 3, 1), (FT_TABLE.ready, 3, 1), (FT_CMD.table, 2, 3), (enableField .ft, 0, 1), (FT_TABLE.kind, 3, 1), (FT_TABLE.per_pipe, 3, 1), (FT_CMD.copies, 2, 3)]).wr FT_CMD.op 8 2, .host 0, 2, 3, [0, 1], by decide +kernel⟩

theorem meets_FlowTableExactMatchAndTernary_7 : ∃ (s a : State) (who : Initiator) (p b : Nat) (cs : List Nat),
  (stopped s = false) ∧ (p < 8) ∧ (writable who FT_CMD.go p s = true) ∧ (s.rd FT_CMD.busy p = 0) ∧ (s.rd FT_CMD.table
  p = b) ∧ (a = s.wr FT_CMD.op 9 p) ∧ (cs = addressed a b (s.rd FT_CMD.copies p)) ∧ (cs ≠ []) :=
  ⟨withRegs State.reset [(FT_TABLE.valid, 3, 1), (FT_TABLE.ready, 3, 1), (FT_CMD.table, 2, 3), (enableField .ft, 0, 1), (FT_TABLE.kind, 3, 1), (FT_TABLE.per_pipe, 3, 1), (FT_CMD.copies, 2, 3)], (withRegs State.reset [(FT_TABLE.valid, 3, 1), (FT_TABLE.ready, 3, 1), (FT_CMD.table, 2, 3), (enableField .ft, 0, 1), (FT_TABLE.kind, 3, 1), (FT_TABLE.per_pipe, 3, 1), (FT_CMD.copies, 2, 3)]).wr FT_CMD.op 9 2, .host 0, 2, 3, [0, 1], by decide +kernel⟩

theorem meets_FlowTableLifeLearningAndAgeing_1 : ∃ (s : State) (who : Initiator) (b : Nat), (stopped s = false) ∧ (b <
  64) ∧ (writable who FT_TABLE.valid b s = true) ∧ (s.rd FT_TABLE.valid b = 0) ∧ (descriptorOk s b = true) :=
  ⟨withRegs State.reset [(FT_TABLE.kind, 3, 1)], .host 0, 3, by decide +kernel⟩

theorem meets_FlowTableLifeLearningAndAgeing_2 : ∃ (s : State) (who : Initiator) (b : Nat), (stopped s = false) ∧ (b <
  64) ∧ (writable who FT_TABLE.valid b s = true) ∧ (s.rd FT_TABLE.valid b = 0) ∧ (descriptorOk s b = false) :=
  ⟨State.reset, .host 0, 3, by decide +kernel⟩

theorem meets_FlowTableLifeLearningAndAgeing_3 : ∃ (s : State) (b : Nat), (stopped s = false) ∧ (b < 64) ∧ (s.rd
  FT_TABLE.valid b = 1) ∧ (s.rd FT_TABLE.ready b = 0) ∧ (s.rd FT_TABLE.kind b = 2) :=
  ⟨withRegs { State.reset with ft := { lpm := [⟨3, 0, 0, 1, 1⟩, ⟨4, 0, 0, 1, 1⟩] } } [(FT_TABLE.kind, 3, 2), (FT_TABLE.valid, 3, 1)], 3, by decide +kernel⟩

theorem meets_FlowTableLifeLearningAndAgeing_4 : ∃ (s : State) (who : Initiator) (b : Nat), (stopped s = false) ∧ (b <
  64) ∧ (writable who FT_TABLE.valid b s = true) ∧ (s.ft.waiting = []) :=
  ⟨withRegs State.reset [(FT_TABLE.valid, 3, 1), (FT_TABLE.ready, 3, 1)], .host 0, 3, by decide +kernel⟩

theorem meets_FlowTableLifeLearningAndAgeing_5 : ∃ (s : State) (pipe b k e a d : Nat) (rest : List LearnReq), (stopped
  s = false) ∧ (b < 64) ∧ (pipe < 2) ∧ (Map.get s.ft.learns pipe = ⟨b, k, a, d⟩ :: rest) ∧ (enabled s .ft = true) ∧
  (s.ft.walk = none) ∧ (tableLive s b = true) ∧ (s.rd FT_TABLE.kind b = 1) ∧ (s.rd FT_TABLE.per_pipe b = 0) ∧ (s.rd
  FT_TABLE.key_words b = 1) ∧ (bucketBad s b 0 (bucketPair s b k).1 = false) ∧ (bucketBad s b 0 (bucketPair s b k).2 =
  false) ∧ (findKey s b 0 k = none) ∧ (freeSlot s b 0 (bucketPair s b k).1 = some e) :=
  ⟨withRegs { State.reset with ft := { learns := [(1, [⟨3, 10, 4, 5⟩])] } } [(FT_TABLE.valid, 3, 1), (FT_TABLE.ready, 3, 1), (FT_CMD.table, 2, 3), (enableField .ft, 0, 1), (FT_TABLE.kind, 3, 1), (FT_CMD.key, 2, 10), (FT_CMD.action, 2, 5), (FT_CMD.data, 2, 77)], 1, 3, 10, 0, 4, 5, [], by decide +kernel⟩

theorem meets_FlowTableLifeLearningAndAgeing_6 : ∃ (s : State) (pipe b k e a d : Nat) (i : Nat) (rest : List
  LearnReq), (stopped s = false) ∧ (b < 64) ∧ (pipe < 2) ∧ (Map.get s.ft.learns pipe = ⟨b, k, a, d⟩ :: rest) ∧
  (enabled s .ft = true) ∧ (s.ft.walk = none) ∧ (tableLive s b = true) ∧ (s.rd FT_TABLE.kind b = 1) ∧ (s.rd
  FT_TABLE.per_pipe b = 0) ∧ (s.rd FT_TABLE.key_words b = 1) ∧ (bucketBad s b 0 (bucketPair s b k).1 = false) ∧
  (bucketBad s b 0 (bucketPair s b k).2 = false) ∧ (findKey s b 0 k = some (i, e)) ∧ (e < 4) :=
  ⟨(let s := withRegs { State.reset with tt := { tt := 0x5000000 }, ft := { learns := [(1, [⟨3, 10, 4, 5⟩])] } } [(FT_TABLE.valid, 3, 1), (FT_TABLE.ready, 3, 1), (FT_CMD.table, 2, 3), (enableField .ft, 0, 1), (FT_TABLE.kind, 3, 1), (FT_CMD.key, 2, 10), (FT_CMD.action, 2, 5), (FT_CMD.data, 2, 77)]; storeEntry s 3 0 (bucketPair s 3 10).1 0 ⟨true, true, 1, 2, 2, 10, 5⟩), 1, 3, 10, 0, 4, 5, (bucketPair (withRegs State.reset [(FT_TABLE.valid, 3, 1), (FT_TABLE.ready, 3, 1), (FT_CMD.table, 2, 3), (enableField .ft, 0, 1), (FT_TABLE.kind, 3, 1), (FT_CMD.key, 2, 10), (FT_CMD.action, 2, 5), (FT_CMD.data, 2, 77)]) 3 10).1, [], by decide +kernel⟩

theorem meets_FlowTableLifeLearningAndAgeing_7 : ∃ (s : State) (b i e k : Nat), (stopped s = false) ∧ (b < 64) ∧
  (s.ft.stamps = [⟨b, 0, i, e, k⟩]) ∧ (enabled s .ft = true) ∧ (s.ft.walk = none) ∧ (stillHolds s ⟨b, 0, i, e, k⟩ =
  true) ∧ (s.rd FT_TABLE.key_words b = 1) ∧ (e < 4) :=
  ⟨(let s := withRegs { State.reset with tt := { tt := 0x5000000 }, ft := { stamps := [⟨3, 0, 2, 1, 10⟩] } } [(FT_TABLE.valid, 3, 1), (FT_TABLE.ready, 3, 1), (FT_CMD.table, 2, 3), (enableField .ft, 0, 1), (FT_TABLE.kind, 3, 1), (FT_CMD.key, 2, 10), (FT_CMD.action, 2, 5), (FT_CMD.data, 2, 77)]; storeEntry s 3 0 2 1 ⟨true, true, 1, 2, 2, 10, 5⟩), 3, 2, 1, 10, by decide +kernel⟩

theorem meets_FlowTableLifeLearningAndAgeing_8 : ∃ (s : State) (b i e : Nat), (stopped s = false) ∧ (b < 64) ∧
  (enabled s .ft = true) ∧ (tableLive s b = true) ∧ (s.rd FT_TABLE.kind b = 1) ∧ (s.rd FT_TABLE.age_mode b ≠ 0) ∧
  (usedSlots s b 0 = [(i, e)]) ∧ (ageEligible s b (loadEntry s b 0 i e) = true) :=
  ⟨(let s := withRegs { State.reset with tt := { tt := 0x5000000 } } [(FT_TABLE.valid, 3, 1), (FT_TABLE.ready, 3, 1), (FT_CMD.table, 2, 3), (enableField .ft, 0, 1), (FT_TABLE.kind, 3, 1), (FT_CMD.key, 2, 10), (FT_CMD.action, 2, 5), (FT_CMD.data, 2, 77), (FT_TABLE.age_mode, 3, 1), (FT_TABLE.age_limit, 3, 2)]; storeEntry s 3 0 2 1 ⟨true, true, 1, 2, 2, 10, 5⟩), 3, 2, 1, by decide +kernel⟩

theorem meets_FlowTableLifeLearningAndAgeing_9 : ∃ (s : State) (b i e k : Nat), (stopped s = false) ∧ (b < 64) ∧
  (s.ft.removals = [⟨b, 0, i, e, k⟩]) ∧ (enabled s .ft = true) ∧ (s.ft.walk = none) ∧ (stillHolds s ⟨b, 0, i, e, k⟩ =
  true) ∧ (ageEligible s b (loadEntry s b 0 i e) = true) ∧ (s.rd FT_TABLE.notify_en b = 0) ∧ (s.rd FT_TABLE.key_words
  b = 1) ∧ (e < 4) :=
  ⟨(let s := withRegs { State.reset with tt := { tt := 0x5000000 }, ft := { removals := [⟨3, 0, 2, 1, 10⟩] } } [(FT_TABLE.valid, 3, 1), (FT_TABLE.ready, 3, 1), (FT_CMD.table, 2, 3), (enableField .ft, 0, 1), (FT_TABLE.kind, 3, 1), (FT_CMD.key, 2, 10), (FT_CMD.action, 2, 5), (FT_CMD.data, 2, 77), (FT_TABLE.age_mode, 3, 1), (FT_TABLE.age_limit, 3, 2)]; storeEntry s 3 0 2 1 ⟨true, true, 1, 2, 2, 10, 5⟩), 3, 2, 1, 10, by decide +kernel⟩

theorem meets_FlowTableLifeLearningAndAgeing_10 : ∃ (s : State) (b : Nat), (stopped s = false) ∧ (b < 64) ∧ (s.rd
  FT_TABLE.valid b = 1) ∧ (s.rd FT_TABLE.ready b = 0) :=
  ⟨withRegs State.reset [(FT_TABLE.kind, 3, 3), (FT_TABLE.valid, 3, 1)], 3, by decide +kernel⟩

theorem meets_FlowTableLifeLearningAndAgeing_11 : ∃ (s : State) (b : Nat), (stopped s = false) ∧ (s.rd FT_TABLE.valid
  b = 0 ∨ s.rd FT_TABLE.ready b = 1) :=
  ⟨State.reset, 3, by decide +kernel⟩

theorem meets_FlowTableLifeLearningAndAgeing_12 : ∃ (s : State) (who : Initiator) (b : Nat), (stopped s = false) ∧ (b
  < 64) ∧ (writable who FT_TABLE.valid b s = true) :=
  ⟨State.reset, .host 0, 3, by decide +kernel⟩

theorem meets_FlowTableLifeLearningAndAgeing_13 : ∃ (s : State) (pipe : Nat) (x : LearnReq) (rest : List LearnReq),
  (stopped s = false) ∧ (Map.get s.ft.learns pipe = x :: rest) ∧ (enabled s .ft = true) ∧ (s.ft.walk = none) :=
  ⟨withRegs { State.reset with ft := { learns := [(1, [⟨3, 10, 4, 5⟩])] } } [(FT_TABLE.valid, 3, 1), (FT_TABLE.ready, 3, 1), (FT_CMD.table, 2, 3), (enableField .ft, 0, 1), (FT_TABLE.kind, 3, 1), (FT_CMD.key, 2, 10), (FT_CMD.action, 2, 5), (FT_CMD.data, 2, 77)], 1, ⟨3, 10, 4, 5⟩, [], by decide +kernel⟩

theorem meets_FlowTableLifeLearningAndAgeing_14 : ∃ (s : State) (pipe : Nat), (stopped s = false) ∧ (Map.get
  s.ft.learns pipe = [] ∨ enabled s .ft = false) :=
  ⟨State.reset, 1, by decide +kernel⟩

theorem meets_FlowTableLifeLearningAndAgeing_15 : ∃ (s a : State) (b c : Nat) (x : SlotReq), (stopped s = false) ∧
  ((s.ft.stamps.find? fun r => decide (r.table = b) && decide (r.copy = c)) = some x) ∧ (enabled s .ft = true) ∧
  (walked s b c = false) ∧ (a = { s with ft := { s.ft with stamps := s.ft.stamps.erase x } }) :=
  ⟨(let s := withRegs { State.reset with tt := { tt := 0x5000000 }, ft := { stamps := [⟨3, 0, 2, 1, 10⟩] } } [(FT_TABLE.valid, 3, 1), (FT_TABLE.ready, 3, 1), (FT_CMD.table, 2, 3), (enableField .ft, 0, 1), (FT_TABLE.kind, 3, 1), (FT_CMD.key, 2, 10), (FT_CMD.action, 2, 5), (FT_CMD.data, 2, 77)]; storeEntry s 3 0 2 1 ⟨true, true, 1, 2, 2, 10, 5⟩), (let s := withRegs { State.reset with tt := { tt := 0x5000000 }, ft := {} } [(FT_TABLE.valid, 3, 1), (FT_TABLE.ready, 3, 1), (FT_CMD.table, 2, 3), (enableField .ft, 0, 1), (FT_TABLE.kind, 3, 1), (FT_CMD.key, 2, 10), (FT_CMD.action, 2, 5), (FT_CMD.data, 2, 77)]; storeEntry s 3 0 2 1 ⟨true, true, 1, 2, 2, 10, 5⟩), 3, 0, ⟨3, 0, 2, 1, 10⟩, by decide +kernel⟩

theorem meets_FlowTableLifeLearningAndAgeing_16 : ∃ (s a : State) (b c : Nat) (x : SlotReq), (stopped s = false) ∧
  ((s.ft.removals.find? fun r => decide (r.table = b) && decide (r.copy = c)) = some x) ∧ (enabled s .ft = true) ∧
  (walked s b c = false) ∧ (a = { s with ft := { s.ft with removals := s.ft.removals.erase x } }) ∧ ((stillHolds a x
  && ageEligible a b (loadEntry a b c x.bucket x.slot)) = true) :=
  ⟨(let s := withRegs { State.reset with tt := { tt := 0x5000000 }, ft := { removals := [⟨3, 0, 2, 1, 10⟩] } } [(FT_TABLE.valid, 3, 1), (FT_TABLE.ready, 3, 1), (FT_CMD.table, 2, 3), (enableField .ft, 0, 1), (FT_TABLE.kind, 3, 1), (FT_CMD.key, 2, 10), (FT_CMD.action, 2, 5), (FT_CMD.data, 2, 77), (FT_TABLE.age_mode, 3, 1), (FT_TABLE.age_limit, 3, 2)]; storeEntry s 3 0 2 1 ⟨true, true, 1, 2, 2, 10, 5⟩), (let s := withRegs { State.reset with tt := { tt := 0x5000000 }, ft := {} } [(FT_TABLE.valid, 3, 1), (FT_TABLE.ready, 3, 1), (FT_CMD.table, 2, 3), (enableField .ft, 0, 1), (FT_TABLE.kind, 3, 1), (FT_CMD.key, 2, 10), (FT_CMD.action, 2, 5), (FT_CMD.data, 2, 77), (FT_TABLE.age_mode, 3, 1), (FT_TABLE.age_limit, 3, 2)]; storeEntry s 3 0 2 1 ⟨true, true, 1, 2, 2, 10, 5⟩), 3, 0, ⟨3, 0, 2, 1, 10⟩, by decide +kernel⟩

theorem meets_FlowTableLifeLearningAndAgeing_17 : ∃ (s a : State) (b c : Nat) (x : SlotReq), (stopped s = false) ∧
  ((s.ft.removals.find? fun r => decide (r.table = b) && decide (r.copy = c)) = some x) ∧ (enabled s .ft = true) ∧
  (walked s b c = false) ∧ (a = { s with ft := { s.ft with removals := s.ft.removals.erase x } }) ∧ ((stillHolds a x
  && ageEligible a b (loadEntry a b c x.bucket x.slot)) = false) :=
  ⟨withRegs { State.reset with ft := { removals := [⟨3, 0, 2, 1, 10⟩] } } [(FT_TABLE.valid, 3, 1), (FT_TABLE.ready, 3, 1), (FT_CMD.table, 2, 3), (enableField .ft, 0, 1), (FT_TABLE.kind, 3, 1), (FT_CMD.key, 2, 10), (FT_CMD.action, 2, 5), (FT_CMD.data, 2, 77)], withRegs State.reset [(FT_TABLE.valid, 3, 1), (FT_TABLE.ready, 3, 1), (FT_CMD.table, 2, 3), (enableField .ft, 0, 1), (FT_TABLE.kind, 3, 1), (FT_CMD.key, 2, 10), (FT_CMD.action, 2, 5), (FT_CMD.data, 2, 77)], 3, 0, ⟨3, 0, 2, 1, 10⟩, by decide +kernel⟩

theorem meets_FlowTableAuditAndLostEntries_1 : ∃ (s : State) (b : Nat), (stopped s = false) ∧ (b < 64) ∧ (s.ft.walk =
  some (b, 0)) ∧ (tableLive s b = true) ∧ (s.rd FT_TABLE.kind b = 2) ∧ (s.ft.waiting = []) ∧ (s.rd FT_SIG.sum b 0 =
  ((signedEntries s b 0).foldl (fun n x => n + signCrc x) 0 % 2 ^ 64)) ∧ (s.rd FT_SIG.count b 0 = (signedEntries s b
  0).length % 2 ^ 32) :=
  ⟨withRegs { State.reset with ft := { walk := some (3, 0) } } [(FT_TABLE.valid, 3, 1), (FT_TABLE.ready, 3, 1), (FT_CMD.table, 2, 3), (enableField .ft, 0, 1), (FT_TABLE.kind, 3, 2), (FT_SIG.valid, 3, 1)], 3, by decide +kernel⟩

theorem meets_FlowTableAuditAndLostEntries_2 : ∃ (s : State) (b : Nat), (stopped s = false) ∧ (b < 64) ∧ (s.ft.walk =
  some (b, 0)) ∧ (tableLive s b = true) ∧ (s.rd FT_TABLE.kind b = 2) ∧ (s.ft.waiting = []) ∧ (s.rd FT_SIG.sum b 0 ≠
  ((signedEntries s b 0).foldl (fun n x => n + signCrc x) 0 % 2 ^ 64)) :=
  ⟨withRegs { State.reset with ft := { walk := some (3, 0) } } [(FT_TABLE.valid, 3, 1), (FT_TABLE.ready, 3, 1), (FT_CMD.table, 2, 3), (enableField .ft, 0, 1), (FT_TABLE.kind, 3, 2), (FT_SIG.valid, 3, 1), (FT_SIG.sum, 3, 8)], 3, by decide +kernel⟩

theorem meets_FlowTableAuditAndLostEntries_3 : ∃ (s : State) (who : Initiator) (x : Nat) (rest : List Nat), (stopped s
  = false) ∧ (reaches who Blk.ft.base = true) ∧ (s.ft.lost = x :: rest) :=
  ⟨{ State.reset with ft := { lost := [0x345, 0x999] } }, .host 0, 0x345, [0x999], by decide +kernel⟩

theorem meets_FlowTableAuditAndLostEntries_4 : ∃ (s : State) (b : Nat), (stopped s = false) ∧ (b < 64) ∧ (s.ft.walk =
  some (b, 0)) ∧ (tableLive s b = true) ∧ (s.rd FT_TABLE.kind b = 2) :=
  ⟨withRegs { State.reset with ft := { walk := some (3, 0) } } [(FT_TABLE.valid, 3, 1), (FT_TABLE.ready, 3, 1), (FT_CMD.table, 2, 3), (enableField .ft, 0, 1), (FT_TABLE.kind, 3, 2), (FT_SIG.valid, 3, 1)], 3, by decide +kernel⟩

theorem meets_FlowTableAuditAndLostEntries_5 : ∃ (s : State), (stopped s = false) ∧ (s.ft.walk = none) :=
  ⟨State.reset, by decide +kernel⟩

theorem meets_FlowTableAuditAndLostEntries_6 : ∃ (s : State) (who : Initiator), (stopped s = false) ∧ (reaches who
  Blk.ft.base = true) :=
  ⟨{ State.reset with ft := { lost := [0x345, 0x999] } }, .host 0, by decide +kernel⟩

theorem meets_TransportEntriesAndRegions_1 : ∃ (s : State) (q sseq x : Nat) (e : Entry), (stopped s = false) ∧
  (beginnable s q sseq 0x20 = some e) ∧ (enabled s .trn = true) ∧ (earlierOp s (e.at 8 0 24) e.order = false) ∧
  (chipCtx s (e.at 8 0 24) = some x) ∧ (ctxState x = 1) ∧ (ctxFn x = queueFn s q) :=
  ⟨trnOn (1 + 42 * 2 ^ 8) {} (withRegs (queueOn [{ raw := 0x20 + 2 ^ 9 + 2 ^ 16 + 5 * 2 ^ 64 + 256 * 2 ^ 96 }]) [(enableField .trn, 0, 1)]), 3, 1, 1 + 42 * 2 ^ 8, { raw := 0x20 + 2 ^ 9 + 2 ^ 16 + 5 * 2 ^ 64 + 256 * 2 ^ 96 }, by decide +kernel⟩

theorem meets_TransportEntriesAndRegions_2 : ∃ (s : State) (q sseq x : Nat) (e : Entry), (stopped s = false) ∧
  (beginnable s q sseq 0x20 = some e) ∧ (enabled s .trn = true) ∧ (earlierOp s (e.at 8 0 24) e.order = false) ∧
  (chipCtx s (e.at 8 0 24) = some x) ∧ (ctxState x = 2) ∧ (ctxFn x = queueFn s q) :=
  ⟨trnOn (2 + 42 * 2 ^ 8) {} (withRegs (queueOn [{ raw := 0x20 + 2 ^ 9 + 2 ^ 16 + 5 * 2 ^ 64 + 256 * 2 ^ 96 }]) [(enableField .trn, 0, 1)]), 3, 1, 2 + 42 * 2 ^ 8, { raw := 0x20 + 2 ^ 9 + 2 ^ 16 + 5 * 2 ^ 64 + 256 * 2 ^ 96 }, by decide +kernel⟩

theorem meets_TransportEntriesAndRegions_3 : ∃ (s : State) (q sseq x : Nat) (e : Entry), (stopped s = false) ∧
  (beginnable s q sseq 0x21 = some e) ∧ (enabled s .trn = true) ∧ (earlierOp s (e.at 8 0 24) e.order = false) ∧
  (chipCtx s (e.at 8 0 24) = some x) ∧ (ctxState x = 1) ∧ (ctxFn x = queueFn s q) :=
  ⟨trnOn (1 + 42 * 2 ^ 8) {} (withRegs (queueOn [{ raw := 0x21 + 2 ^ 9 + 2 ^ 16 + 5 * 2 ^ 64 + 256 * 2 ^ 96 }]) [(enableField .trn, 0, 1)]), 3, 1, 1 + 42 * 2 ^ 8, { raw := 0x21 + 2 ^ 9 + 2 ^ 16 + 5 * 2 ^ 64 + 256 * 2 ^ 96 }, by decide +kernel⟩

theorem meets_TransportEntriesAndRegions_4 : ∃ (s : State) (q sseq x i : Nat) (e : Entry), (stopped s = false) ∧
  (beginnable s q sseq 0x22 = some e) ∧ (enabled s .trn = true) ∧ (earlierOp s (e.at 8 0 24) e.order = false) ∧
  (chipCtx s (e.at 8 0 24) = some x) ∧ (ctxState x = 1) ∧ (ctxFn x = queueFn s q) ∧ (freeReadSlot x = some i) ∧
  (mirrors s = false) :=
  ⟨trnOn (1 + 42 * 2 ^ 8) {} (withRegs (queueOn [{ raw := 0x22 + 2 ^ 9 + 2 ^ 16 + 5 * 2 ^ 64 + 256 * 2 ^ 96 }]) [(enableField .trn, 0, 1)]), 3, 1, 1 + 42 * 2 ^ 8, 0, { raw := 0x22 + 2 ^ 9 + 2 ^ 16 + 5 * 2 ^ 64 + 256 * 2 ^ 96 }, by decide +kernel⟩

theorem meets_TransportEntriesAndRegions_5 : ∃ (s : State) (q sseq i : Nat) (e : Entry), (stopped s = false) ∧
  (beginnable s q sseq 0x24 = some e) ∧ (e.at 8 0 22 = i) ∧ (rgnUsable s i = true) ∧ (rgnOwned s i (queueFn s q) =
  true) ∧ (mirrors s = false) ∧ (rgnState (rgnImage s i) = 0) ∧ (e.at 8 22 2 ≠ 0) ∧ (e.at 0x18 0 64 ≠ 0) ∧ (e.at 0x18
  0 64 ≤ 2 ^ 40) ∧ (e.at 8 25 7 = 0) ∧ (e.at 0xC 24 8 = 0) ∧ (e.at 0x20 0 256 = 0) ∧ (now s < 2 ^ 64) :=
  ⟨rgnOn (7 * 2 ^ 8) (queueOn [{ raw := 0x24 + 2 ^ 9 + 2 ^ 16 + 3 * 2 ^ 64 + 2 ^ 86 + 0x5000 * 2 ^ 128 + 4096 * 2 ^ 192 }]), 3, 1, 3, { raw := 0x24 + 2 ^ 9 + 2 ^ 16 + 3 * 2 ^ 64 + 2 ^ 86 + 0x5000 * 2 ^ 128 + 4096 * 2 ^ 192 }, by decide +kernel⟩

theorem meets_TransportEntriesAndRegions_6 : ∃ (s : State) (q sseq i : Nat) (e : Entry), (stopped s = false) ∧
  (beginnable s q sseq 0x25 = some e) ∧ (e.word 2 / 1024 = i) ∧ (rgnUsable s i = true) ∧ (rgnOwned s i (queueFn s q) =
  true) ∧ (mirrors s = false) ∧ (rgnState (rgnImage s i) = 1) ∧ (rgnGen (rgnImage s i) = e.word 2 % 1024) :=
  ⟨rgnOn (1 + 7 * 2 ^ 8) (queueOn [{ raw := 0x25 + 2 ^ 8 + 2 ^ 16 + (3 * 1024 + 7) * 2 ^ 64 }]), 3, 1, 3, { raw := 0x25 + 2 ^ 8 + 2 ^ 16 + (3 * 1024 + 7) * 2 ^ 64 }, by decide +kernel⟩

theorem meets_TransportEntriesAndRegions_7 : ∃ (s : State) (q sseq i : Nat) (e : Entry), (stopped s = false) ∧
  (beginnable s q sseq 0x25 = some e) ∧ (e.word 2 / 1024 = i) ∧ (rgnUsable s i = true) ∧ (rgnOwned s i (queueFn s q) =
  true) ∧ (mirrors s = false) ∧ (rgnState (rgnImage s i) = 3) :=
  ⟨rgnOn (3 + 7 * 2 ^ 8) (queueOn [{ raw := 0x25 + 2 ^ 8 + 2 ^ 16 + (3 * 1024 + 7) * 2 ^ 64 }]), 3, 1, 3, { raw := 0x25 + 2 ^ 8 + 2 ^ 16 + (3 * 1024 + 7) * 2 ^ 64 }, by decide +kernel⟩

theorem meets_TransportEntriesAndRegions_8 : ∃ (s : State) (i q sseq : Nat) (e : Entry), (stopped s = false) ∧
  (rgnUsable s i = true) ∧ (rgnState (rgnImage s i) = 2) ∧ (rgnFlight (rgnImage s i) = 0) ∧ (mirrors s = false) ∧
  (revokeOf s i = some (q, sseq)) ∧ (entryOf s q sseq = some e) ∧ (e.outcome = none) ∧ (e.decided = none) :=
  ⟨rgnOn (2 + 7 * 2 ^ 8) (queueOn [{ raw := 0x25 + 2 ^ 8 + 2 ^ 16 + (3 * 1024 + 6) * 2 ^ 64, begun := true }]), 3, 3, 1, { raw := 0x25 + 2 ^ 8 + 2 ^ 16 + (3 * 1024 + 6) * 2 ^ 64, begun := true }, by decide +kernel⟩

theorem meets_TransportEntriesAndRegions_9 : ∃ (s : State) (q sseq x : Nat) (e : Entry), (stopped s = false) ∧
  (beginnable s q sseq 0x20 = some e) ∧ (enabled s .trn = true) ∧ (earlierOp s (e.at 8 0 24) e.order = false) ∧
  (chipCtx s (e.at 8 0 24) = some x) :=
  ⟨trnOn (1 + 42 * 2 ^ 8) {} (withRegs (queueOn [{ raw := 0x20 + 2 ^ 9 + 2 ^ 16 + 5 * 2 ^ 64 + 256 * 2 ^ 96 }]) [(enableField .trn, 0, 1)]), 3, 1, 1 + 42 * 2 ^ 8, { raw := 0x20 + 2 ^ 9 + 2 ^ 16 + 5 * 2 ^ 64 + 256 * 2 ^ 96 }, by decide +kernel⟩

theorem meets_TransportEntriesAndRegions_10 : ∃ (s : State) (q sseq : Nat) (e : Entry), (stopped s = false) ∧
  (beginnable s q sseq 0x20 = some e) ∧ (enabled s .trn = true) ∧ (earlierOp s (e.at 8 0 24) e.order = false) ∧
  (chipCtx s (e.at 8 0 24) = none) ∧ (homeOf s (e.at 8 0 24) ≠ .none) :=
  ⟨{ withRegs (queueOn [{ raw := 0x20 + 2 ^ 9 + 2 ^ 16 + 5 * 2 ^ 64 + 256 * 2 ^ 96 }]) [(enableField .trn, 0, 1)] with areas := { conn := 1 } }, 3, 1, { raw := 0x20 + 2 ^ 9 + 2 ^ 16 + 5 * 2 ^ 64 + 256 * 2 ^ 96 }, by decide +kernel⟩

theorem meets_TransportEntriesAndRegions_11 : ∃ (s : State) (q sseq : Nat) (e : Entry), (stopped s = false) ∧
  (beginnable s q sseq 0x20 = some e) ∧ (enabled s .trn = true) ∧ (earlierOp s (e.at 8 0 24) e.order = false) ∧
  (chipCtx s (e.at 8 0 24) = none) ∧ (homeOf s (e.at 8 0 24) = .none) :=
  ⟨withRegs (queueOn [{ raw := 0x20 + 2 ^ 9 + 2 ^ 16 + 5 * 2 ^ 64 + 256 * 2 ^ 96 }]) [(enableField .trn, 0, 1)], 3, 1, { raw := 0x20 + 2 ^ 9 + 2 ^ 16 + 5 * 2 ^ 64 + 256 * 2 ^ 96 }, by decide +kernel⟩

theorem meets_TransportEntriesAndRegions_12 : ∃ (s : State) (q sseq x : Nat) (e : Entry), (stopped s = false) ∧
  (beginnable s q sseq 0x21 = some e) ∧ (enabled s .trn = true) ∧ (earlierOp s (e.at 8 0 24) e.order = false) ∧
  (chipCtx s (e.at 8 0 24) = some x) :=
  ⟨trnOn (1 + 42 * 2 ^ 8) {} (withRegs (queueOn [{ raw := 0x21 + 2 ^ 9 + 2 ^ 16 + 5 * 2 ^ 64 + 256 * 2 ^ 96 }]) [(enableField .trn, 0, 1)]), 3, 1, 1 + 42 * 2 ^ 8, { raw := 0x21 + 2 ^ 9 + 2 ^ 16 + 5 * 2 ^ 64 + 256 * 2 ^ 96 }, by decide +kernel⟩

theorem meets_TransportEntriesAndRegions_13 : ∃ (s : State) (q sseq : Nat) (e : Entry), (stopped s = false) ∧
  (beginnable s q sseq 0x21 = some e) ∧ (enabled s .trn = true) ∧ (earlierOp s (e.at 8 0 24) e.order = false) ∧
  (chipCtx s (e.at 8 0 24) = none) ∧ (homeOf s (e.at 8 0 24) ≠ .none) :=
  ⟨{ withRegs (queueOn [{ raw := 0x21 + 2 ^ 9 + 2 ^ 16 + 5 * 2 ^ 64 + 256 * 2 ^ 96 }]) [(enableField .trn, 0, 1)] with areas := { conn := 1 } }, 3, 1, { raw := 0x21 + 2 ^ 9 + 2 ^ 16 + 5 * 2 ^ 64 + 256 * 2 ^ 96 }, by decide +kernel⟩

theorem meets_TransportEntriesAndRegions_14 : ∃ (s : State) (q sseq : Nat) (e : Entry), (stopped s = false) ∧
  (beginnable s q sseq 0x21 = some e) ∧ (enabled s .trn = true) ∧ (earlierOp s (e.at 8 0 24) e.order = false) ∧
  (chipCtx s (e.at 8 0 24) = none) ∧ (homeOf s (e.at 8 0 24) = .none) :=
  ⟨withRegs (queueOn [{ raw := 0x21 + 2 ^ 9 + 2 ^ 16 + 5 * 2 ^ 64 + 256 * 2 ^ 96 }]) [(enableField .trn, 0, 1)], 3, 1, { raw := 0x21 + 2 ^ 9 + 2 ^ 16 + 5 * 2 ^ 64 + 256 * 2 ^ 96 }, by decide +kernel⟩

theorem meets_TransportEntriesAndRegions_15 : ∃ (s : State) (q sseq x : Nat) (e : Entry), (stopped s = false) ∧
  (beginnable s q sseq 0x22 = some e) ∧ (enabled s .trn = true) ∧ (earlierOp s (e.at 8 0 24) e.order = false) ∧
  (chipCtx s (e.at 8 0 24) = some x) :=
  ⟨trnOn (1 + 42 * 2 ^ 8) {} (withRegs (queueOn [{ raw := 0x22 + 2 ^ 9 + 2 ^ 16 + 5 * 2 ^ 64 + 256 * 2 ^ 96 }]) [(enableField .trn, 0, 1)]), 3, 1, 1 + 42 * 2 ^ 8, { raw := 0x22 + 2 ^ 9 + 2 ^ 16 + 5 * 2 ^ 64 + 256 * 2 ^ 96 }, by decide +kernel⟩

theorem meets_TransportEntriesAndRegions_16 : ∃ (s : State) (q sseq : Nat) (e : Entry), (stopped s = false) ∧
  (beginnable s q sseq 0x22 = some e) ∧ (enabled s .trn = true) ∧ (earlierOp s (e.at 8 0 24) e.order = false) ∧
  (chipCtx s (e.at 8 0 24) = none) ∧ (homeOf s (e.at 8 0 24) ≠ .none) :=
  ⟨{ withRegs (queueOn [{ raw := 0x22 + 2 ^ 9 + 2 ^ 16 + 5 * 2 ^ 64 + 256 * 2 ^ 96 }]) [(enableField .trn, 0, 1)] with areas := { conn := 1 } }, 3, 1, { raw := 0x22 + 2 ^ 9 + 2 ^ 16 + 5 * 2 ^ 64 + 256 * 2 ^ 96 }, by decide +kernel⟩

theorem meets_TransportEntriesAndRegions_17 : ∃ (s : State) (q sseq : Nat) (e : Entry), (stopped s = false) ∧
  (beginnable s q sseq 0x22 = some e) ∧ (enabled s .trn = true) ∧ (earlierOp s (e.at 8 0 24) e.order = false) ∧
  (chipCtx s (e.at 8 0 24) = none) ∧ (homeOf s (e.at 8 0 24) = .none) :=
  ⟨withRegs (queueOn [{ raw := 0x22 + 2 ^ 9 + 2 ^ 16 + 5 * 2 ^ 64 + 256 * 2 ^ 96 }]) [(enableField .trn, 0, 1)], 3, 1, { raw := 0x22 + 2 ^ 9 + 2 ^ 16 + 5 * 2 ^ 64 + 256 * 2 ^ 96 }, by decide +kernel⟩

theorem meets_TransportEntriesAndRegions_18 : ∃ (s : State) (q sseq i : Nat) (e : Entry), (stopped s = false) ∧
  (beginnable s q sseq 0x24 = some e) ∧ (e.at 8 0 22 = i) ∧ (rgnUsable s i = true) ∧ (rgnOwned s i (queueFn s q) =
  true) ∧ (rgnState (rgnImage s i) = 0 ∨ rgnState (rgnImage s i) = 3) ∧ (e.at 8 22 2 ≠ 0) ∧ (e.at 0x18 0 64 ≠ 0) ∧
  (e.at 0x18 0 64 ≤ 2 ^ 40) ∧ (e.at 8 25 7 = 0) ∧ (e.at 0xC 24 8 = 0) ∧ (e.at 0x20 0 256 = 0) :=
  ⟨rgnOn (7 * 2 ^ 8) (queueOn [{ raw := 0x24 + 2 ^ 9 + 2 ^ 16 + 3 * 2 ^ 64 + 2 ^ 86 + 0x5000 * 2 ^ 128 + 4096 * 2 ^ 192 }]), 3, 1, 3, { raw := 0x24 + 2 ^ 9 + 2 ^ 16 + 3 * 2 ^ 64 + 2 ^ 86 + 0x5000 * 2 ^ 128 + 4096 * 2 ^ 192 }, by decide +kernel⟩

theorem meets_TransportEntriesAndRegions_19 : ∃ (s : State) (q sseq i : Nat) (e : Entry), (stopped s = false) ∧
  (beginnable s q sseq 0x24 = some e) ∧ (e.at 8 0 22 = i) ∧ (rgnUsable s i = false ∨ rgnOwned s i (queueFn s q) =
  false ∨ rgnState (rgnImage s i) = 1 ∨ rgnState (rgnImage s i) = 2 ∨ e.at 8 22 2 = 0 ∨ e.at 0x18 0 64 = 0 ∨ 2 ^ 40 <
  e.at 0x18 0 64 ∨ e.at 8 25 7 ≠ 0 ∨ e.at 0xC 24 8 ≠ 0 ∨ e.at 0x20 0 256 ≠ 0) :=
  ⟨rgnOn 1 (queueOn [{ raw := 0x24 + 2 ^ 9 + 2 ^ 16 + 3 * 2 ^ 64 }]), 3, 1, 3, { raw := 0x24 + 2 ^ 9 + 2 ^ 16 + 3 * 2 ^ 64 }, by decide +kernel⟩

theorem meets_TransportEntriesAndRegions_20 : ∃ (s : State) (q sseq i : Nat) (e : Entry), (stopped s = false) ∧
  (beginnable s q sseq 0x25 = some e) ∧ (e.word 2 / 1024 = i) ∧ (rgnUsable s i = true) ∧ (rgnOwned s i (queueFn s q) =
  true) ∧ (rgnState (rgnImage s i) = 1) ∧ (rgnGen (rgnImage s i) = e.word 2 % 1024) :=
  ⟨rgnOn (1 + 7 * 2 ^ 8) (queueOn [{ raw := 0x25 + 2 ^ 8 + 2 ^ 16 + (3 * 1024 + 7) * 2 ^ 64 }]), 3, 1, 3, { raw := 0x25 + 2 ^ 8 + 2 ^ 16 + (3 * 1024 + 7) * 2 ^ 64 }, by decide +kernel⟩

theorem meets_TransportEntriesAndRegions_21 : ∃ (s : State) (q sseq i : Nat) (e : Entry), (stopped s = false) ∧
  (beginnable s q sseq 0x25 = some e) ∧ (e.word 2 / 1024 = i) ∧ (rgnUsable s i = true) ∧ (rgnOwned s i (queueFn s q) =
  true) ∧ (rgnState (rgnImage s i) = 3) :=
  ⟨rgnOn (3 + 7 * 2 ^ 8) (queueOn [{ raw := 0x25 + 2 ^ 8 + 2 ^ 16 + (3 * 1024 + 7) * 2 ^ 64 }]), 3, 1, 3, { raw := 0x25 + 2 ^ 8 + 2 ^ 16 + (3 * 1024 + 7) * 2 ^ 64 }, by decide +kernel⟩

theorem meets_TransportEntriesAndRegions_22_1 : ∃ (s : State) (q sseq i : Nat) (e : Entry), (stopped s = false) ∧
  (beginnable s q sseq 0x25 = some e) ∧ (e.word 2 / 1024 = i) ∧ (rgnUsable s i = false ∨ rgnOwned s i (queueFn s q) =
  false ∨ rgnState (rgnImage s i) = 0 ∨ rgnState (rgnImage s i) = 2 ∨ rgnState (rgnImage s i) = 1 ∧ rgnGen (rgnImage s
  i) ≠ e.word 2 % 1024) :=
  ⟨rgnOn (1 + 7 * 2 ^ 8) (queueOn [{ raw := 0x25 + 2 ^ 8 + 2 ^ 16 + (3 * 1024 + 8) * 2 ^ 64 }]), 3, 1, 3, { raw := 0x25 + 2 ^ 8 + 2 ^ 16 + (3 * 1024 + 8) * 2 ^ 64 }, by decide +kernel⟩

theorem meets_TransportEntriesAndRegions_22_2 : ∃ (s : State) (q sseq i : Nat) (e : Entry), (stopped s = false) ∧
  (beginnable s q sseq 0x25 = some e) ∧ (e.word 2 / 1024 = i) ∧ (rgnUsable s i = false ∨ rgnOwned s i (queueFn s q) =
  false ∨ rgnState (rgnImage s i) = 0 ∨ rgnState (rgnImage s i) = 2 ∨ rgnState (rgnImage s i) = 1 ∧ rgnGen (rgnImage s
  i) ≠ e.word 2 % 1024) :=
  ⟨rgnOn (2 + 7 * 2 ^ 8) (queueOn [{ raw := 0x25 + 2 ^ 8 + 2 ^ 16 + (3 * 1024 + 7) * 2 ^ 64 }]), 3, 1, 3, { raw := 0x25 + 2 ^ 8 + 2 ^ 16 + (3 * 1024 + 7) * 2 ^ 64 }, by decide +kernel⟩

theorem meets_TransportEntriesAndRegions_23 : ∃ (s : State) (i q sseq : Nat), (stopped s = false) ∧ (rgnUsable s i =
  true) ∧ (rgnState (rgnImage s i) = 2) ∧ (rgnFlight (rgnImage s i) = 0) ∧ (revokeOf s i = some (q, sseq)) :=
  ⟨rgnOn (2 + 7 * 2 ^ 8) (queueOn [{ raw := 0x25 + 2 ^ 8 + 2 ^ 16 + (3 * 1024 + 6) * 2 ^ 64, begun := true }]), 3, 3, 1, by decide +kernel⟩

theorem meets_TransportEntriesAndRegions_24 : ∃ (s : State) (i : Nat), (stopped s = false) ∧ (rgnUsable s i = true) ∧
  (rgnState (rgnImage s i) = 2) ∧ (rgnFlight (rgnImage s i) = 0) ∧ (revokeOf s i = none) :=
  ⟨rgnOn (2 + 7 * 2 ^ 8) State.reset, 3, by decide +kernel⟩

theorem meets_TransportEntriesAndRegions_25 : ∃ (s : State) (i : Nat), (stopped s = false) ∧ (rgnUsable s i = false ∨
  rgnState (rgnImage s i) ≠ 2 ∨ rgnFlight (rgnImage s i) ≠ 0) :=
  ⟨State.reset, 3, by decide +kernel⟩

theorem meets_ConnectionCommandsAndTimers_1 : ∃ (s : State) (who : Initiator) (n x : Nat), (stopped s = false) ∧
  (writable who TRN_CCMD.go 0 s = true) ∧ (s.rd TRN_CCMD.busy = 0) ∧ (n < 2 ^ 24) ∧ (n ≠ 0) ∧ (chipCtx s n = some x) ∧
  (mirrors s = false) ∧ (homeOf s n ≠ .none) ∧ (ctxState x = 0) ∧ (ctxBad s (s.rd TRN_CCMD_CTX.image) = false) :=
  ⟨withRegs (trnOn 4 {} { queueOn [] with areas := { conn := 1 } }) [(WQ_CTX.type, 3, 3), (TRN_CCMD_CTX.image, 0, 42 * 2 ^ 8 + 3 * 2 ^ 48 + 9 * 2 ^ 64 + 100 * 2 ^ 96 + 77 * 2 ^ 128)], .host 0, 5, 4, by decide +kernel⟩

theorem meets_ConnectionCommandsAndTimers_2 : ∃ (s : State) (who : Initiator) (n x : Nat), (stopped s = false) ∧
  (writable who TRN_CCMD.go 0 s = true) ∧ (s.rd TRN_CCMD.busy = 0) ∧ (n < 2 ^ 24) ∧ (n ≠ 0) ∧ (chipCtx s n = some x) ∧
  (mirrors s = false) ∧ (ctxState x ≠ 0) ∧ ((trnConn s n).ops = []) :=
  ⟨trnOn 1 { sent := [⟨3, 0, 4, [], false⟩] } State.reset, .host 0, 5, 1, by decide +kernel⟩

theorem meets_ConnectionCommandsAndTimers_3 : ∃ (s : State) (who : Initiator) (n x : Nat), (stopped s = false) ∧
  (writable who TRN_CCMD.go 0 s = true) ∧ (s.rd TRN_CCMD.busy = 0) ∧ (n < 2 ^ 24) ∧ (n ≠ 0) ∧ (chipCtx s n = some x) ∧
  (mirrors s = false) :=
  ⟨trnOn 0x12345 {} State.reset, .host 0, 5, 0x12345, by decide +kernel⟩

theorem meets_ConnectionCommandsAndTimers_4 : ∃ (s : State) (n x : Nat), (stopped s = false) ∧ (chipCtx s n = some x)
  ∧ (ctxState x = 1) ∧ (ctxRto x ≠ 0) ∧ (ctxRto x ≤ now s) ∧ (ctxRetries x < s.rd TRN_CFG.max_retry) ∧ (ctxRetries x <
  15) ∧ (mirrors s = false) :=
  ⟨{ trnOn (1 + 9 * 2 ^ 384) { sent := [⟨3, 0, 4, [], false⟩] } State.reset with tt := { tt := 10 } }, 5, 1 + 9 * 2 ^ 384, by decide +kernel⟩

theorem meets_ConnectionCommandsAndTimers_5 : ∃ (s : State) (n x : Nat), (stopped s = false) ∧ (chipCtx s n = some x)
  ∧ (ctxState x = 1) ∧ (ctxRto x ≠ 0) ∧ (ctxRto x ≤ now s) ∧ (s.rd TRN_CFG.max_retry ≤ ctxRetries x) ∧ ((trnConn s
  n).ops = []) ∧ (mirrors s = false) :=
  ⟨{ trnOn (1 + 7 * 2 ^ 224 + 9 * 2 ^ 384) { sent := [⟨3, 0, 4, [], false⟩] } State.reset with tt := { tt := 10 } }, 5, 1 + 7 * 2 ^ 224 + 9 * 2 ^ 384, by decide +kernel⟩

theorem meets_ConnectionCommandsAndTimers_6 : ∃ (s : State) (n u : Nat), (stopped s = false) ∧ ((trnConn s n).suspend
  = some u) ∧ (u ≤ now s) :=
  ⟨{ trnOn 1 { sent := [⟨3, 0, 4, [], false⟩], resend := [3], suspend := some 9 } State.reset with tt := { tt := 10 } }, 5, 9, by decide +kernel⟩

theorem meets_ConnectionCommandsAndTimers_7 : ∃ (s : State) (n x u : Nat), (stopped s = false) ∧ ((trnConn s n).ackAt
  = some u) ∧ (chipCtx s n = some x) ∧ (ctxState x = 1) ∧ (s.rd TRN_CFG.ack_ns ≠ 0) ∧ (u + s.rd TRN_CFG.ack_ns ≤ now
  s) ∧ ((sendAck s n 0x10 0 0).isSome = true) ∧ (mirrors s = false) ∧ (pubWaits s = false) :=
  ⟨{ trnOn (1 + 42 * 2 ^ 8) { ackAt := some 5 } State.reset with tt := { tt := 9999 } }, 5, 1 + 42 * 2 ^ 8, 5, by decide +kernel⟩

theorem meets_ConnectionCommandsAndTimers_8 : ∃ (s : State) (who : Initiator) (b _ : Nat), (stopped s = false) ∧ (b <
  4096) ∧ (writable who TRN_RGN_BLOCK.pf b s = true) ∧ (blockIdle s b = true) :=
  ⟨State.reset, .host 0, 4095, 0x10012, by decide +kernel⟩

theorem meets_ConnectionCommandsAndTimers_9 : ∃ (s : State) (who : Initiator) (b v : Nat), (stopped s = false) ∧ (b <
  4096) ∧ (writable who TRN_RGN_BLOCK.pf b s = true) ∧ (blockIdle s b = false) ∧ (ownerWord s TRN_RGN_BLOCK.pf
  TRN_RGN_BLOCK.is_vf TRN_RGN_BLOCK.vf TRN_RGN_BLOCK.valid b ≠ v % 2 ^ 17) :=
  ⟨rgnOn 1 State.reset, .host 0, 0, 0x10012, by decide +kernel⟩

theorem meets_ConnectionCommandsAndTimers_10 : ∃ (s : State) (who : Initiator), (stopped s = false) ∧ (reaches who
  Blk.trn.base = true) :=
  ⟨State.reset, .host 0, by decide +kernel⟩

theorem meets_ConnectionCommandsAndTimers_11 : ∃ (s : State) (n a : Nat) (_ : Bool) (_ : Nat), (stopped s = false) ∧
  (s.trn.fetching.contains n = true) ∧ (homeOf s n = .memory a) ∧ ((cachedConns s).length < 32768) ∧ (s.trn.parked =
  []) ∧ (s.trn.waitCmd = none) :=
  ⟨{ State.reset with areas := { conn := 1 }, trn := { fetching := [5] } }, 5, g6Base + g6Size - 0x100000 + 5 * 256, false, 0, by decide +kernel⟩

theorem meets_ConnectionCommandsAndTimers_12 : ∃ (s : State) (who : Initiator) (n x : Nat), (stopped s = false) ∧
  (writable who TRN_CCMD.go 0 s = true) ∧ (s.rd TRN_CCMD.busy = 0) ∧ (n < 2 ^ 24) ∧ (chipCtx s n = some x) :=
  ⟨trnOn 0x12345 {} State.reset, .host 0, 5, 0x12345, by decide +kernel⟩

theorem meets_ConnectionCommandsAndTimers_13 : ∃ (s a : State) (who : Initiator) (n : Nat), (stopped s = false) ∧
  (writable who TRN_CCMD.go 0 s = true) ∧ (s.rd TRN_CCMD.busy = 0) ∧ (n < 2 ^ 24) ∧ (n ≠ 0) ∧ (chipCtx s n = none) ∧
  (homeOf s n ≠ .none) ∧ (a = fetchCtx (((s.wr TRN_CCMD.conn n).wr TRN_CCMD.action 0).wr TRN_CCMD.busy 1) n) :=
  ⟨{ State.reset with areas := { conn := 1 } }, fetchCtx ((({ State.reset with areas := { conn := 1 } } : State).wr TRN_CCMD.conn 5).wr TRN_CCMD.action 0 |>.wr TRN_CCMD.busy 1) 5, .host 0, 5, by decide +kernel⟩

theorem meets_ConnectionCommandsAndTimers_14 : ∃ (s : State) (who : Initiator) (n x : Nat), (stopped s = false) ∧
  (writable who TRN_CCMD.go 0 s = true) ∧ (s.rd TRN_CCMD.busy = 0) ∧ (n < 2 ^ 24) ∧ (chipCtx s n = some x) :=
  ⟨trnOn 0x12345 {} State.reset, .host 0, 5, 0x12345, by decide +kernel⟩

theorem meets_ConnectionCommandsAndTimers_15 : ∃ (s a : State) (who : Initiator) (n : Nat), (stopped s = false) ∧
  (writable who TRN_CCMD.go 0 s = true) ∧ (s.rd TRN_CCMD.busy = 0) ∧ (n < 2 ^ 24) ∧ (n ≠ 0) ∧ (chipCtx s n = none) ∧
  (homeOf s n ≠ .none) ∧ (a = fetchCtx (((s.wr TRN_CCMD.conn n).wr TRN_CCMD.action 1).wr TRN_CCMD.busy 1) n) :=
  ⟨{ State.reset with areas := { conn := 1 } }, fetchCtx ((({ State.reset with areas := { conn := 1 } } : State).wr TRN_CCMD.conn 5).wr TRN_CCMD.action 1 |>.wr TRN_CCMD.busy 1) 5, .host 0, 5, by decide +kernel⟩

theorem meets_ConnectionCommandsAndTimers_16 : ∃ (s : State) (who : Initiator) (n x : Nat), (stopped s = false) ∧
  (writable who TRN_CCMD.go 0 s = true) ∧ (s.rd TRN_CCMD.busy = 0) ∧ (n < 2 ^ 24) ∧ (chipCtx s n = some x) :=
  ⟨trnOn 0x12345 {} State.reset, .host 0, 5, 0x12345, by decide +kernel⟩

theorem meets_ConnectionCommandsAndTimers_17 : ∃ (s a : State) (who : Initiator) (n : Nat), (stopped s = false) ∧
  (writable who TRN_CCMD.go 0 s = true) ∧ (s.rd TRN_CCMD.busy = 0) ∧ (n < 2 ^ 24) ∧ (n ≠ 0) ∧ (chipCtx s n = none) ∧
  (homeOf s n ≠ .none) ∧ (a = fetchCtx (((s.wr TRN_CCMD.conn n).wr TRN_CCMD.action 2).wr TRN_CCMD.busy 1) n) :=
  ⟨{ State.reset with areas := { conn := 1 } }, fetchCtx ((({ State.reset with areas := { conn := 1 } } : State).wr TRN_CCMD.conn 5).wr TRN_CCMD.action 2 |>.wr TRN_CCMD.busy 1) 5, .host 0, 5, by decide +kernel⟩

theorem meets_ConnectionCommandsAndTimers_18 : ∃ (s : State) (n x : Nat), (stopped s = false) ∧ (chipCtx s n = some x)
  ∧ (ctxState x = 1) ∧ (ctxRto x ≠ 0) ∧ (ctxRto x ≤ now s) ∧ (s.rd TRN_CFG.max_retry ≤ ctxRetries x) :=
  ⟨{ trnOn (1 + 7 * 2 ^ 224 + 9 * 2 ^ 384) { sent := [⟨3, 0, 4, [], false⟩] } State.reset with tt := { tt := 10 } }, 5, 1 + 7 * 2 ^ 224 + 9 * 2 ^ 384, by decide +kernel⟩

theorem meets_ConnectionCommandsAndTimers_19 : ∃ (s : State) (n x : Nat), (stopped s = false) ∧ (chipCtx s n = some x)
  ∧ (ctxState x = 1) ∧ (ctxRto x ≠ 0) ∧ (ctxRto x ≤ now s) ∧ (ctxRetries x < s.rd TRN_CFG.max_retry) :=
  ⟨{ trnOn (1 + 9 * 2 ^ 384) { sent := [⟨3, 0, 4, [], false⟩] } State.reset with tt := { tt := 10 } }, 5, 1 + 9 * 2 ^ 384, by decide +kernel⟩

theorem meets_ConnectionCommandsAndTimers_20 : ∃ (s : State) (n u : Nat), (stopped s = false) ∧ ((trnConn s n).suspend
  = some u) ∧ (u ≤ now s) :=
  ⟨{ trnOn 1 { suspend := some 9 } State.reset with tt := { tt := 10 } }, 5, 9, by decide +kernel⟩

theorem meets_ConnectionCommandsAndTimers_21 : ∃ (s : State) (n x u : Nat), (stopped s = false) ∧ ((trnConn s n).ackAt
  = some u) ∧ (chipCtx s n = some x) ∧ (ctxState x = 1) ∧ (u + (if s.rd TRN_CFG.ack_ns = 0 then 64 else s.rd
  TRN_CFG.ack_ns) ≤ now s) :=
  ⟨{ trnOn (1 + 42 * 2 ^ 8) { ackAt := some 5 } State.reset with tt := { tt := 9999 } }, 5, 1 + 42 * 2 ^ 8, 5, by decide +kernel⟩

theorem meets_ConnectionCommandsAndTimers_22 : ∃ (s : State) (n a : Nat) (_ : Bool) (_ : Nat), (stopped s = false) ∧
  (s.trn.fetching.contains n = true) ∧ (homeOf s n = .memory a) :=
  ⟨{ State.reset with areas := { conn := 1 }, trn := { fetching := [5] } }, 5, g6Base + g6Size - 0x100000 + 5 * 256, false, 0, by decide +kernel⟩

theorem meets_ConnectionCommandsAndTimers_23 : ∃ (s : State) (n a _ : Nat), (stopped s = false) ∧
  (s.trn.fetching.contains n = true) ∧ (homeOf s n = .host a) ∧ (readFailed s (.context n) = false) ∧ ((s.hif.reqs.any
  fun r => decide (r.owner = .context n)) = true) :=
  ⟨withRegs { hostOn with hif := { hostOn.hif with reqs := [⟨0, 0, 0, .context 5, false, 0⟩] }, trn := { fetching := [5] } } [(TRN_HCTX_CFG.enable, 0, 1)], 5, 5 * 256, 77, by decide +kernel⟩

theorem meets_ConnectionCommandsAndTimers_24 : ∃ (s : State) (n a _ : Nat), (stopped s = false) ∧
  (s.trn.fetching.contains n = true) ∧ (homeOf s n = .host a) ∧ (readFailed s (.context n) = false) ∧ ((s.hif.reqs.any
  fun r => decide (r.owner = .context n)) = true) :=
  ⟨withRegs { hostOn with hif := { hostOn.hif with reqs := [⟨0, 0, 0, .context 5, false, 0⟩] }, trn := { fetching := [5] } } [(TRN_HCTX_CFG.enable, 0, 1)], 5, 5 * 256, 77, by decide +kernel⟩

theorem meets_ConnectionCommandsAndTimers_25 : ∃ (s : State) (n : Nat) (_ : Bool) (_ : Nat), (stopped s = false) ∧
  (s.trn.fetching.contains n = false) :=
  ⟨State.reset, 5, true, 7, by decide +kernel⟩

theorem meets_TrallasyReceptionAndPacing_1 : ∃ (s : State) (n x : Nat) (p : RxPkt), (stopped s = false) ∧ ((trnConn s
  n).ready = [p]) ∧ (chipCtx s n = some x) ∧ (rxType p = 1) ∧ (ctxState x = 1) ∧ (p.handle = none) ∧ (mirrors s =
  false) ∧ (connQuiesced s x = false) ∧ (psnSub (rxPsn p) (ctxEpsn x) = 0) ∧ (ctxSack x = 0) ∧ (rxAckReq p = false) ∧
  (rxCe p = false) ∧ ((rxPayload p).length ≤ ctxMtu x) ∧ ((rxPayload p).length ≤ rxOpLen p) ∧ (keyCheck s n x p true
  (rxPayload p).length = none) ∧ (fnLive s (ctxFn x) = true) ∧ (bitAt (rgnImage s (rxRkey p / 1024)) 4 = false) :=
  ⟨trnOn (1 + 42 * 2 ^ 8 + 9 * 2 ^ 64 + 7 * 2 ^ 192) { ready := [(trnRx (trnHeader 1 0 5 9 7 ++ dataExt 16 (3 * 1024 + 7) 8 0 ++ [1, 2, 3, 4, 5, 6, 7, 8]))] } (rgnOn (1 + 2 ^ 2 + 2 ^ 3 + 7 * 2 ^ 8 + 0x5000 * 2 ^ 64 + 4096 * 2 ^ 128) hostOn), 5, 1 + 42 * 2 ^ 8 + 9 * 2 ^ 64 + 7 * 2 ^ 192, (trnRx (trnHeader 1 0 5 9 7 ++ dataExt 16 (3 * 1024 + 7) 8 0 ++ [1, 2, 3, 4, 5, 6, 7, 8])), by decide +kernel⟩

theorem meets_TrallasyReceptionAndPacing_2 : ∃ (s : State) (n x : Nat) (p : RxPkt), (stopped s = false) ∧ ((trnConn s
  n).ready = [p]) ∧ (chipCtx s n = some x) ∧ (rxType p = 2) ∧ (ctxState x = 1) ∧ (p.handle = none) ∧ (mirrors s =
  false) ∧ (connQuiesced s x = false) ∧ (psnSub (rxPsn p) (ctxEpsn x) = 0) ∧ (ctxSack x = 0) ∧ (rxAckReq p = false) ∧
  (rxCe p = false) ∧ ((rxPayload p).length ≤ ctxMtu x) ∧ ((rxPayload p).length ≤ rxOpLen p) ∧ (keyCheck s n x p true
  (rxPayload p).length = none) ∧ (fnLive s (ctxFn x) = true) ∧ (bitAt (rgnImage s (rxRkey p / 1024)) 4 = false) ∧
  (rxLast p = false) :=
  ⟨trnOn (1 + 42 * 2 ^ 8 + 9 * 2 ^ 64 + 7 * 2 ^ 192) { ready := [(trnRx (trnHeader 2 0 5 9 7 ++ dataExt 16 (3 * 1024 + 7) 8 0 ++ [1, 2, 3, 4, 5, 6, 7, 8]))] } (rgnOn (1 + 2 ^ 2 + 2 ^ 3 + 7 * 2 ^ 8 + 0x5000 * 2 ^ 64 + 4096 * 2 ^ 128) hostOn), 5, 1 + 42 * 2 ^ 8 + 9 * 2 ^ 64 + 7 * 2 ^ 192, (trnRx (trnHeader 2 0 5 9 7 ++ dataExt 16 (3 * 1024 + 7) 8 0 ++ [1, 2, 3, 4, 5, 6, 7, 8])), by decide +kernel⟩

theorem meets_TrallasyReceptionAndPacing_3 : ∃ (s : State) (n x : Nat) (p : RxPkt), (stopped s = false) ∧ ((trnConn s
  n).ready = [p]) ∧ (chipCtx s n = some x) ∧ (rxType p = 3) ∧ (ctxState x = 1) ∧ (p.handle = none) ∧ (mirrors s =
  false) ∧ (connQuiesced s x = false) ∧ (psnSub (rxPsn p) (ctxEpsn x) = 0) ∧ (ctxSack x = 0) ∧ (rxAckReq p = false) ∧
  (rxCe p = false) ∧ (rxPayload p = []) ∧ (rxOpLen p ≠ 0) ∧ (keyCheck s n x p false (rxOpLen p) = none) ∧ (fnLive s
  (ctxFn x) = true) ∧ (bitAt (rgnImage s (rxRkey p / 1024)) 4 = false) :=
  ⟨trnOn (1 + 42 * 2 ^ 8 + 9 * 2 ^ 64 + 7 * 2 ^ 192) { ready := [(trnRx (trnHeader 3 0 5 9 7 ++ dataExt 16 (3 * 1024 + 7) 8 0 ++ []))] } (rgnOn (1 + 2 ^ 2 + 2 ^ 3 + 7 * 2 ^ 8 + 0x5000 * 2 ^ 64 + 4096 * 2 ^ 128) hostOn), 5, 1 + 42 * 2 ^ 8 + 9 * 2 ^ 64 + 7 * 2 ^ 192, (trnRx (trnHeader 3 0 5 9 7 ++ dataExt 16 (3 * 1024 + 7) 8 0 ++ [])), by decide +kernel⟩

theorem meets_TrallasyReceptionAndPacing_4 : ∃ (s : State) (n x i : Nat) (p : RxPkt), (stopped s = false) ∧ ((trnConn
  s n).ready = [p]) ∧ (chipCtx s n = some x) ∧ (rxType p = 4) ∧ (ctxState x = 1) ∧ (p.handle = none) ∧ (mirrors s =
  false) ∧ (connQuiesced s x = false) ∧ (psnSub (rxPsn p) (ctxEpsn x) = 0) ∧ (ctxSack x = 0) ∧ (rxAckReq p = false) ∧
  (rxCe p = false) ∧ (respSlot x p = some i) ∧ (slotDiscard x i = false) ∧ (slotAts x i = false) ∧ ((rxPayload
  p).length ≤ ctxMtu x) ∧ (rxRoff p + (rxPayload p).length ≤ rxOpLen p) ∧ ((rxPayload p).length < slotRemaining x i) ∧
  ((trnConn s n).ops = []) ∧ (fnLive s (ctxFn x) = true) :=
  ⟨trnOn (1 + 42 * 2 ^ 8 + 9 * 2 ^ 64 + 7 * 2 ^ 192 + 0x7000 * 2 ^ 640 + (100 + 33 * 2 ^ 32 + 2 ^ 56) * 2 ^ 704) { ready := [(trnRx (trnHeader 4 0 5 9 7 ++ dataExt 0 0 100 (1 + 33 * 256) ++ [1, 2, 3, 4, 5, 6, 7, 8]))] } hostOn, 5, 1 + 42 * 2 ^ 8 + 9 * 2 ^ 64 + 7 * 2 ^ 192 + 0x7000 * 2 ^ 640 + (100 + 33 * 2 ^ 32 + 2 ^ 56) * 2 ^ 704, 1, (trnRx (trnHeader 4 0 5 9 7 ++ dataExt 0 0 100 (1 + 33 * 256) ++ [1, 2, 3, 4, 5, 6, 7, 8])), by decide +kernel⟩

theorem meets_TrallasyReceptionAndPacing_5 : ∃ (s : State) (n x : Nat) (p : RxPkt) (y : TxPkt), (stopped s = false) ∧
  ((trnConn s n).ready = [p]) ∧ (chipCtx s n = some x) ∧ (rxType p = 0x10) ∧ (ctxState x = 1) ∧ (p.handle = none) ∧
  (mirrors s = false) ∧ ((trnConn s n).sent = [y]) ∧ ((trnConn s n).ops = []) ∧ (acks x (rxPsn p) (rxSack p) y.psn =
  true) ∧ (psnSub (rxPsn p) (ctxSndUna x) ≤ psnSub (ctxSndNxt x) (ctxSndUna x)) ∧ (ctxSndNxt x ≠ ctxSndUna x) :=
  ⟨trnOn (1 + 6 * 2 ^ 128 + 5 * 2 ^ 160 + 3 * 2 ^ 224 + 99 * 2 ^ 384) { ready := [(trnRx (trnHeader 16 0 5 9 6 ++ ackExt 0 0 0 0 ++ []))], sent := [⟨5, 0, 4, [], false⟩] } State.reset, 5, 1 + 6 * 2 ^ 128 + 5 * 2 ^ 160 + 3 * 2 ^ 224 + 99 * 2 ^ 384, (trnRx (trnHeader 16 0 5 9 6 ++ ackExt 0 0 0 0 ++ [])), ⟨5, 0, 4, [], false⟩, by decide +kernel⟩

theorem meets_TrallasyReceptionAndPacing_6 : ∃ (s : State) (n x q sseq : Nat) (p : RxPkt) (y : TxPkt) (o : TrnOp) (e :
  Entry), (stopped s = false) ∧ ((trnConn s n).ready = [p]) ∧ (chipCtx s n = some x) ∧ (rxType p = 0x11) ∧ (ctxState x
  = 1) ∧ (p.handle = none) ∧ (mirrors s = false) ∧ (rxNakCode p = 1) ∧ ((trnConn s n).sent = [y]) ∧ (y.psn = rxNakPsn
  p) ∧ ((trnConn s n).ops = [o]) ∧ (o.id = y.op) ∧ (o.kind = 1) ∧ (o.more = false) ∧ (o.fail = false) ∧ (o.failover =
  false) ∧ (o.refusal = none) ∧ (o.entry = some (q, sseq)) ∧ (entryOf s q sseq = some e) ∧ (e.outcome = none) ∧
  (e.decided = none) ∧ (psnSub (rxPsn p) (ctxSndUna x) ≤ psnSub (ctxSndNxt x) (ctxSndUna x)) :=
  ⟨trnOn (1 + 6 * 2 ^ 128 + 5 * 2 ^ 160) { ready := [(trnRx (trnHeader 17 0 5 9 5 ++ ackExt 0 0 1 5 ++ []))], sent := [⟨5, 0, 4, [], false⟩], ops := [⟨0, some (3, 1), 0, 1, 0, 4, 0, false, 0, 0, 0, false, 0, 0, 4, false, some 5, 1, 0, false, none, false, false⟩] } (queueOn [{ raw := 0x10120, begun := true }]), 5, 1 + 6 * 2 ^ 128 + 5 * 2 ^ 160, 3, 1, (trnRx (trnHeader 17 0 5 9 5 ++ ackExt 0 0 1 5 ++ [])), ⟨5, 0, 4, [], false⟩, ⟨0, some (3, 1), 0, 1, 0, 4, 0, false, 0, 0, 0, false, 0, 0, 4, false, some 5, 1, 0, false, none, false, false⟩, { raw := 0x10120, begun := true }, by decide +kernel⟩

theorem meets_TrallasyReceptionAndPacing_7 : ∃ (s : State) (n x : Nat) (p : RxPkt), (stopped s = false) ∧ ((trnConn s
  n).ready = [p]) ∧ (chipCtx s n = some x) ∧ (rxType p = 0x12) ∧ (ctxState x = 1) ∧ (p.handle = none) ∧ (mirrors s =
  false) ∧ (psnSub (rxPsn p) (ctxSndUna x) < psnSub (ctxSndNxt x) (ctxSndUna x)) :=
  ⟨trnOn (1 + 6 * 2 ^ 128 + 5 * 2 ^ 160) { ready := [(trnRx (trnHeader 18 0 5 9 5 ++ [] ++ []))] } State.reset, 5, 1 + 6 * 2 ^ 128 + 5 * 2 ^ 160, (trnRx (trnHeader 18 0 5 9 5 ++ [] ++ [])), by decide +kernel⟩

theorem meets_TrallasyReceptionAndPacing_8 : ∃ (s : State) (x pipe : Nat) (k : Packet) (rest : List (Nat × Packet)) (p
  : RxPkt), (stopped s = false) ∧ (s.pp.toTrn = (pipe, k) :: rest) ∧ (memBad s (lineAddr (k.info.handle + 2))
  k.frame.length = false) ∧ (enabled s .trn = true) ∧ (standby s = false) ∧ (parseTrn pipe k.frame = some p) ∧
  (k.info.flowId = 0) ∧ (p.conn ≠ 0) ∧ (s.trn.parked = []) ∧ (chipCtx s p.conn = some x) ∧ (ctxState x = 1) ∧ (rxPeer
  p = ctxPeerAddr x) ∧ (rxSrc p = ctxPeer x) ∧ (rxType p = 1) :=
  ⟨withRegs { trnOn (1 + 42 * 2 ^ 8 + 9 * 2 ^ 64 + 7 * 2 ^ 192) {} State.reset with pp := { toTrn := [(0, { frame := (trnRx (trnHeader 1 0 5 9 7 ++ dataExt 16 (3 * 1024 + 7) 8 0 ++ [1, 2, 3, 4, 5, 6, 7, 8])).frame })] } } [(enableField .trn, 0, 1)], 1 + 42 * 2 ^ 8 + 9 * 2 ^ 64 + 7 * 2 ^ 192, 0, { frame := (trnRx (trnHeader 1 0 5 9 7 ++ dataExt 16 (3 * 1024 + 7) 8 0 ++ [1, 2, 3, 4, 5, 6, 7, 8])).frame }, [], (trnRx (trnHeader 1 0 5 9 7 ++ dataExt 16 (3 * 1024 + 7) 8 0 ++ [1, 2, 3, 4, 5, 6, 7, 8])), by decide +kernel⟩

theorem meets_TrallasyReceptionAndPacing_9 : ∃ (s : State) (p : RxPkt), (stopped s = false) ∧ (s.trn.parked = [p]) ∧
  (s.rd TRN_PARK_LIMIT.limit_ns ≠ 0) ∧ (p.tt + s.rd TRN_PARK_LIMIT.limit_ns ≤ now s) ∧ ((sendRetryLater s p).isSome =
  true) :=
  ⟨{ State.reset with trn := { parked := [(trnRx (trnHeader 1 0 5 9 7 ++ dataExt 16 (3 * 1024 + 7) 8 0 ++ [1, 2, 3, 4, 5, 6, 7, 8]))] }, tt := { tt := 9999 } }, (trnRx (trnHeader 1 0 5 9 7 ++ dataExt 16 (3 * 1024 + 7) 8 0 ++ [1, 2, 3, 4, 5, 6, 7, 8])), by decide +kernel⟩

theorem meets_TrallasyReceptionAndPacing_10 : ∃ (s : State) (n x : Nat) (p : RxPkt), (stopped s = false) ∧ ((trnConn s
  n).ready.head? = some p) ∧ (chipCtx s n = some x) ∧ (rxType p = 1) ∧ (ctxState x = 1) ∧ (connQuiesced s x = false)
  :=
  ⟨trnOn (1 + 42 * 2 ^ 8 + 9 * 2 ^ 64 + 7 * 2 ^ 192) { ready := [(trnRx (trnHeader 1 0 5 9 7 ++ dataExt 16 (3 * 1024 + 7) 8 0 ++ [1, 2, 3, 4, 5, 6, 7, 8]))] } (rgnOn (1 + 2 ^ 2 + 2 ^ 3 + 7 * 2 ^ 8 + 0x5000 * 2 ^ 64 + 4096 * 2 ^ 128) hostOn), 5, 1 + 42 * 2 ^ 8 + 9 * 2 ^ 64 + 7 * 2 ^ 192, (trnRx (trnHeader 1 0 5 9 7 ++ dataExt 16 (3 * 1024 + 7) 8 0 ++ [1, 2, 3, 4, 5, 6, 7, 8])), by decide +kernel⟩

theorem meets_TrallasyReceptionAndPacing_11 : ∃ (s : State) (n x : Nat) (p : RxPkt), (stopped s = false) ∧ ((trnConn s
  n).ready.head? = some p) ∧ (chipCtx s n = some x) ∧ (rxType p = 2) ∧ (ctxState x = 1) ∧ (connQuiesced s x = false)
  :=
  ⟨trnOn (1 + 42 * 2 ^ 8 + 9 * 2 ^ 64 + 7 * 2 ^ 192) { ready := [(trnRx (trnHeader 2 0 5 9 7 ++ dataExt 16 (3 * 1024 + 7) 8 0 ++ [1, 2, 3, 4, 5, 6, 7, 8]))] } (rgnOn (1 + 2 ^ 2 + 2 ^ 3 + 7 * 2 ^ 8 + 0x5000 * 2 ^ 64 + 4096 * 2 ^ 128) hostOn), 5, 1 + 42 * 2 ^ 8 + 9 * 2 ^ 64 + 7 * 2 ^ 192, (trnRx (trnHeader 2 0 5 9 7 ++ dataExt 16 (3 * 1024 + 7) 8 0 ++ [1, 2, 3, 4, 5, 6, 7, 8])), by decide +kernel⟩

theorem meets_TrallasyReceptionAndPacing_12 : ∃ (s : State) (n x : Nat) (p : RxPkt), (stopped s = false) ∧ ((trnConn s
  n).ready.head? = some p) ∧ (chipCtx s n = some x) ∧ (rxType p = 3) ∧ (ctxState x = 1) ∧ (connQuiesced s x = false)
  :=
  ⟨trnOn (1 + 42 * 2 ^ 8 + 9 * 2 ^ 64 + 7 * 2 ^ 192) { ready := [(trnRx (trnHeader 3 0 5 9 7 ++ dataExt 16 (3 * 1024 + 7) 8 0 ++ [1, 2, 3, 4, 5, 6, 7, 8]))] } (rgnOn (1 + 2 ^ 2 + 2 ^ 3 + 7 * 2 ^ 8 + 0x5000 * 2 ^ 64 + 4096 * 2 ^ 128) hostOn), 5, 1 + 42 * 2 ^ 8 + 9 * 2 ^ 64 + 7 * 2 ^ 192, (trnRx (trnHeader 3 0 5 9 7 ++ dataExt 16 (3 * 1024 + 7) 8 0 ++ [1, 2, 3, 4, 5, 6, 7, 8])), by decide +kernel⟩

theorem meets_TrallasyReceptionAndPacing_13 : ∃ (s : State) (n x : Nat) (p : RxPkt), (stopped s = false) ∧ ((trnConn s
  n).ready.head? = some p) ∧ (chipCtx s n = some x) ∧ (rxType p = 4) ∧ (ctxState x = 1) ∧ (connQuiesced s x = false)
  :=
  ⟨trnOn (1 + 42 * 2 ^ 8 + 9 * 2 ^ 64 + 7 * 2 ^ 192) { ready := [(trnRx (trnHeader 4 0 5 9 7 ++ dataExt 0 0 100 (1 + 33 * 256) ++ [1, 2, 3, 4, 5, 6, 7, 8]))] } (rgnOn (1 + 2 ^ 2 + 2 ^ 3 + 7 * 2 ^ 8 + 0x5000 * 2 ^ 64 + 4096 * 2 ^ 128) hostOn), 5, 1 + 42 * 2 ^ 8 + 9 * 2 ^ 64 + 7 * 2 ^ 192, (trnRx (trnHeader 4 0 5 9 7 ++ dataExt 0 0 100 (1 + 33 * 256) ++ [1, 2, 3, 4, 5, 6, 7, 8])), by decide +kernel⟩

theorem meets_TrallasyReceptionAndPacing_14 : ∃ (s : State) (n x : Nat) (p : RxPkt), (stopped s = false) ∧ ((trnConn s
  n).ready.head? = some p) ∧ (chipCtx s n = some x) ∧ (rxType p = 1) ∧ (ctxState x ≠ 1) :=
  ⟨trnOn (2) { ready := [(trnRx (trnHeader 1 0 5 9 7 ++ dataExt 16 (3 * 1024 + 7) 8 0 ++ [1, 2, 3, 4, 5, 6, 7, 8]))] } (rgnOn (1 + 2 ^ 2 + 2 ^ 3 + 7 * 2 ^ 8 + 0x5000 * 2 ^ 64 + 4096 * 2 ^ 128) hostOn), 5, 2, (trnRx (trnHeader 1 0 5 9 7 ++ dataExt 16 (3 * 1024 + 7) 8 0 ++ [1, 2, 3, 4, 5, 6, 7, 8])), by decide +kernel⟩

theorem meets_TrallasyReceptionAndPacing_15 : ∃ (s : State) (n x : Nat) (p : RxPkt), (stopped s = false) ∧ ((trnConn s
  n).ready.head? = some p) ∧ (chipCtx s n = some x) ∧ (rxType p = 2) ∧ (ctxState x ≠ 1) :=
  ⟨trnOn (2) { ready := [(trnRx (trnHeader 2 0 5 9 7 ++ dataExt 16 (3 * 1024 + 7) 8 0 ++ [1, 2, 3, 4, 5, 6, 7, 8]))] } (rgnOn (1 + 2 ^ 2 + 2 ^ 3 + 7 * 2 ^ 8 + 0x5000 * 2 ^ 64 + 4096 * 2 ^ 128) hostOn), 5, 2, (trnRx (trnHeader 2 0 5 9 7 ++ dataExt 16 (3 * 1024 + 7) 8 0 ++ [1, 2, 3, 4, 5, 6, 7, 8])), by decide +kernel⟩

theorem meets_TrallasyReceptionAndPacing_16 : ∃ (s : State) (n x : Nat) (p : RxPkt), (stopped s = false) ∧ ((trnConn s
  n).ready.head? = some p) ∧ (chipCtx s n = some x) ∧ (rxType p = 3) ∧ (ctxState x ≠ 1) :=
  ⟨trnOn (2) { ready := [(trnRx (trnHeader 3 0 5 9 7 ++ dataExt 16 (3 * 1024 + 7) 8 0 ++ [1, 2, 3, 4, 5, 6, 7, 8]))] } (rgnOn (1 + 2 ^ 2 + 2 ^ 3 + 7 * 2 ^ 8 + 0x5000 * 2 ^ 64 + 4096 * 2 ^ 128) hostOn), 5, 2, (trnRx (trnHeader 3 0 5 9 7 ++ dataExt 16 (3 * 1024 + 7) 8 0 ++ [1, 2, 3, 4, 5, 6, 7, 8])), by decide +kernel⟩

theorem meets_TrallasyReceptionAndPacing_17 : ∃ (s : State) (n x : Nat) (p : RxPkt), (stopped s = false) ∧ ((trnConn s
  n).ready.head? = some p) ∧ (chipCtx s n = some x) ∧ (rxType p = 4) ∧ (ctxState x ≠ 1) :=
  ⟨trnOn (2) { ready := [(trnRx (trnHeader 4 0 5 9 7 ++ dataExt 16 (3 * 1024 + 7) 8 0 ++ [1, 2, 3, 4, 5, 6, 7, 8]))] } (rgnOn (1 + 2 ^ 2 + 2 ^ 3 + 7 * 2 ^ 8 + 0x5000 * 2 ^ 64 + 4096 * 2 ^ 128) hostOn), 5, 2, (trnRx (trnHeader 4 0 5 9 7 ++ dataExt 16 (3 * 1024 + 7) 8 0 ++ [1, 2, 3, 4, 5, 6, 7, 8])), by decide +kernel⟩

theorem meets_TrallasyReceptionAndPacing_18 : ∃ (s : State) (n x : Nat) (p : RxPkt), (stopped s = false) ∧ ((trnConn s
  n).ready.head? = some p) ∧ (chipCtx s n = some x) ∧ (rxType p = 0x10) ∧ (ctxState x = 1) :=
  ⟨trnOn (1 + 42 * 2 ^ 8 + 9 * 2 ^ 64 + 7 * 2 ^ 192) { ready := [(trnRx (trnHeader 16 0 5 9 7 ++ ackExt 0 0 0 0 ++ []))] } (rgnOn (1 + 2 ^ 2 + 2 ^ 3 + 7 * 2 ^ 8 + 0x5000 * 2 ^ 64 + 4096 * 2 ^ 128) hostOn), 5, 1 + 42 * 2 ^ 8 + 9 * 2 ^ 64 + 7 * 2 ^ 192, (trnRx (trnHeader 16 0 5 9 7 ++ ackExt 0 0 0 0 ++ [])), by decide +kernel⟩

theorem meets_TrallasyReceptionAndPacing_19 : ∃ (s : State) (n x : Nat) (p : RxPkt), (stopped s = false) ∧ ((trnConn s
  n).ready.head? = some p) ∧ (chipCtx s n = some x) ∧ (rxType p = 0x11) ∧ (ctxState x = 1) :=
  ⟨trnOn (1 + 42 * 2 ^ 8 + 9 * 2 ^ 64 + 7 * 2 ^ 192) { ready := [(trnRx (trnHeader 17 0 5 9 7 ++ ackExt 0 0 1 5 ++ []))] } (rgnOn (1 + 2 ^ 2 + 2 ^ 3 + 7 * 2 ^ 8 + 0x5000 * 2 ^ 64 + 4096 * 2 ^ 128) hostOn), 5, 1 + 42 * 2 ^ 8 + 9 * 2 ^ 64 + 7 * 2 ^ 192, (trnRx (trnHeader 17 0 5 9 7 ++ ackExt 0 0 1 5 ++ [])), by decide +kernel⟩

theorem meets_TrallasyReceptionAndPacing_20 : ∃ (s : State) (n x : Nat) (p : RxPkt), (stopped s = false) ∧ ((trnConn s
  n).ready.head? = some p) ∧ (chipCtx s n = some x) ∧ (rxType p = 16) ∧ (ctxState x ≠ 1) :=
  ⟨trnOn (2) { ready := [(trnRx (trnHeader 16 0 5 9 7 ++ ackExt 0 0 0 0 ++ []))] } (rgnOn (1 + 2 ^ 2 + 2 ^ 3 + 7 * 2 ^ 8 + 0x5000 * 2 ^ 64 + 4096 * 2 ^ 128) hostOn), 5, 2, (trnRx (trnHeader 16 0 5 9 7 ++ ackExt 0 0 0 0 ++ [])), by decide +kernel⟩

theorem meets_TrallasyReceptionAndPacing_21 : ∃ (s : State) (n x : Nat) (p : RxPkt), (stopped s = false) ∧ ((trnConn s
  n).ready.head? = some p) ∧ (chipCtx s n = some x) ∧ (rxType p = 17) ∧ (ctxState x ≠ 1) :=
  ⟨trnOn (2) { ready := [(trnRx (trnHeader 17 0 5 9 7 ++ ackExt 0 0 0 0 ++ []))] } (rgnOn (1 + 2 ^ 2 + 2 ^ 3 + 7 * 2 ^ 8 + 0x5000 * 2 ^ 64 + 4096 * 2 ^ 128) hostOn), 5, 2, (trnRx (trnHeader 17 0 5 9 7 ++ ackExt 0 0 0 0 ++ [])), by decide +kernel⟩

theorem meets_TrallasyReceptionAndPacing_22 : ∃ (s : State) (n x : Nat) (p : RxPkt), (stopped s = false) ∧ ((trnConn s
  n).ready.head? = some p) ∧ (chipCtx s n = some x) ∧ (rxType p = 18) ∧ (ctxState x ≠ 1) :=
  ⟨trnOn (2) { ready := [(trnRx (trnHeader 18 0 5 9 7 ++ ackExt 0 0 0 0 ++ []))] } (rgnOn (1 + 2 ^ 2 + 2 ^ 3 + 7 * 2 ^ 8 + 0x5000 * 2 ^ 64 + 4096 * 2 ^ 128) hostOn), 5, 2, (trnRx (trnHeader 18 0 5 9 7 ++ ackExt 0 0 0 0 ++ [])), by decide +kernel⟩

theorem meets_TrallasyReceptionAndPacing_23 : ∃ (s : State) (n x : Nat) (p : RxPkt), (stopped s = false) ∧ ((trnConn s
  n).ready.head? = some p) ∧ (chipCtx s n = some x) ∧ (rxType p = 0x12) ∧ (ctxState x = 1) ∧ (psnSub (ctxSndNxt x)
  (ctxSndUna x) ≤ psnSub (rxPsn p) (ctxSndUna x)) :=
  ⟨trnOn (1 + 42 * 2 ^ 8 + 9 * 2 ^ 64 + 7 * 2 ^ 192) { ready := [(trnRx (trnHeader 18 0 5 9 7 ++ [] ++ []))] } (rgnOn (1 + 2 ^ 2 + 2 ^ 3 + 7 * 2 ^ 8 + 0x5000 * 2 ^ 64 + 4096 * 2 ^ 128) hostOn), 5, 1 + 42 * 2 ^ 8 + 9 * 2 ^ 64 + 7 * 2 ^ 192, (trnRx (trnHeader 18 0 5 9 7 ++ [] ++ [])), by decide +kernel⟩

theorem meets_TrallasyReceptionAndPacing_24 : ∃ (s a : State) (n x : Nat) (p : RxPkt), (stopped s = false) ∧ ((trnConn
  s n).ready.head? = some p) ∧ (chipCtx s n = some x) ∧ (rxType p = 0x12) ∧ (ctxState x = 1) ∧ (psnSub (rxPsn p)
  (ctxSndUna x) < psnSub (ctxSndNxt x) (ctxSndUna x)) ∧ (a = putCtx (trnCount (popReady s n) 12) n (armRto (trnCount
  (popReady s n) 12) x)) :=
  ⟨trnOn (1 + 6 * 2 ^ 128 + 5 * 2 ^ 160) { ready := [(trnRx (trnHeader 18 0 5 9 5 ++ [] ++ []))] } State.reset, (fun s : State => putCtx (trnCount (popReady s 5) 12) 5 (armRto (trnCount (popReady s 5) 12) (1 + 6 * 2 ^ 128 + 5 * 2 ^ 160))) (trnOn (1 + 6 * 2 ^ 128 + 5 * 2 ^ 160) { ready := [(trnRx (trnHeader 18 0 5 9 5 ++ [] ++ []))] } State.reset), 5, 1 + 6 * 2 ^ 128 + 5 * 2 ^ 160, (trnRx (trnHeader 18 0 5 9 5 ++ [] ++ [])), by decide +kernel⟩

theorem meets_TrallasyReceptionAndPacing_25 : ∃ (s : State) (pipe : Nat) (k : Packet) (rest : List (Nat × Packet)) (p
  : RxPkt), (stopped s = false) ∧ (s.pp.toTrn = (pipe, k) :: rest) ∧ (memBad s (lineAddr (k.info.handle + 2))
  k.frame.length = false) ∧ (enabled s .trn = true) ∧ (standby s = false) ∧ (parseTrn pipe k.frame = some p) ∧
  (k.info.flowId = 0 ∨ k.info.flowId = p.conn) :=
  ⟨withRegs { trnOn (1 + 42 * 2 ^ 8 + 9 * 2 ^ 64 + 7 * 2 ^ 192) {} State.reset with pp := { toTrn := [(0, { frame := (trnRx (trnHeader 1 0 5 9 7 ++ dataExt 16 (3 * 1024 + 7) 8 0 ++ [1, 2, 3, 4, 5, 6, 7, 8])).frame })] } } [(enableField .trn, 0, 1)], 0, { frame := (trnRx (trnHeader 1 0 5 9 7 ++ dataExt 16 (3 * 1024 + 7) 8 0 ++ [1, 2, 3, 4, 5, 6, 7, 8])).frame }, [], (trnRx (trnHeader 1 0 5 9 7 ++ dataExt 16 (3 * 1024 + 7) 8 0 ++ [1, 2, 3, 4, 5, 6, 7, 8])), by decide +kernel⟩

theorem meets_TrallasyReceptionAndPacing_26 : ∃ (s : State) (pipe : Nat) (k : Packet) (rest : List (Nat × Packet)),
  (stopped s = false) ∧ (s.pp.toTrn = (pipe, k) :: rest) ∧ (memBad s (lineAddr (k.info.handle + 2)) k.frame.length =
  false) ∧ (enabled s .trn = false) :=
  ⟨{ State.reset with pp := { toTrn := [(0, {})] } }, 0, {}, [], by decide +kernel⟩

theorem meets_TrallasyReceptionAndPacing_27 : ∃ (s : State) (p : RxPkt), (stopped s = false) ∧ ((s.trn.parked.find?
  fun y => decide (y.tt + (if s.rd TRN_PARK_LIMIT.limit_ns = 0 then 100 else s.rd TRN_PARK_LIMIT.limit_ns) ≤ now s)) =
  some p) :=
  ⟨{ State.reset with trn := { parked := [(trnRx (trnHeader 1 0 5 9 7 ++ dataExt 16 (3 * 1024 + 7) 8 0 ++ [1, 2, 3, 4, 5, 6, 7, 8]))] }, tt := { tt := 9999 } }, (trnRx (trnHeader 1 0 5 9 7 ++ dataExt 16 (3 * 1024 + 7) 8 0 ++ [1, 2, 3, 4, 5, 6, 7, 8])), by decide +kernel⟩

theorem meets_TrallasyReceptionAndPacing_28 : ∃ (s : State) (n x y : Nat) (o : TrnOp) (_ : Bool) (_ : Bytes), (stopped
  s = false) ∧ (chipCtx s n = some x) ∧ (ctxState x = 1) ∧ ((trnConn s n).suspend = none) ∧ ((trnConn s n).resend =
  []) ∧ (standby s = false) ∧ (sendingOp (trnConn s n) = some o) ∧ (o.kind = 3) ∧ (o.slot < 4) ∧ (refillPacer
  (applyLegs s x) (now s) = y) ∧ (psnSub (ctxSndNxt y) (ctxSndUna y) < 1024) ∧ (wireLen (nextFrame s n y (trnConn s n)
  o []).length ≤ ctxTokens y) ∧ (linesFor (nextFrame s n y (trnConn s n) o []).length ≤ freeLineCount s) ∧ (mirrors s
  = false) ∧ (pubWaits s = false) :=
  ⟨trnOn (1 + 42 * 2 ^ 8 + 9 * 2 ^ 64 + 6 * 2 ^ 128 + 6 * 2 ^ 160 + 999 * 2 ^ 352) { ops := [⟨0, some (3, 1), 0, 3, 0, 4, 0, false, 0, 0, 0, false, 0, 0, 0, true, none, 0, 0, false, none, false, false⟩] } State.reset, 5, 1 + 42 * 2 ^ 8 + 9 * 2 ^ 64 + 6 * 2 ^ 128 + 6 * 2 ^ 160 + 999 * 2 ^ 352, refillPacer (1 + 42 * 2 ^ 8 + 9 * 2 ^ 64 + 6 * 2 ^ 128 + 6 * 2 ^ 160 + 999 * 2 ^ 352) 0, ⟨0, some (3, 1), 0, 3, 0, 4, 0, false, 0, 0, 0, false, 0, 0, 0, true, none, 0, 0, false, none, false, false⟩, true, [], by decide +kernel⟩

theorem meets_TrallasyReceptionAndPacing_29 : ∃ (s : State) (n x : Nat) (k : TxPkt) (_ : Bool) (_ : Bytes), (stopped s
  = false) ∧ (chipCtx s n = some x) ∧ (ctxState x = 1) ∧ ((trnConn s n).suspend = none) ∧ (standby s = false) ∧
  (((trnConn s n).sent.find? fun k => (trnConn s n).resend.contains k.psn) = some k) :=
  ⟨trnOn (1 + 42 * 2 ^ 8) { sent := [⟨3, 0, 4, [], false⟩], resend := [3] } State.reset, 5, 1 + 42 * 2 ^ 8, ⟨3, 0, 4, [], false⟩, true, [], by decide +kernel⟩

theorem meets_TrallasyReceptionAndPacing_30 : ∃ (s : State) (n x : Nat) (o : TrnOp) (_ : Bool) (_ : Bytes), (stopped s
  = false) ∧ (chipCtx s n = some x) ∧ (ctxState x = 1) ∧ ((trnConn s n).suspend = none) ∧ (standby s = false) ∧
  (((trnConn s n).sent.find? fun k => (trnConn s n).resend.contains k.psn) = none) ∧ (sendingOp (trnConn s n) = some
  o) ∧ (respWaits s n o = false) :=
  ⟨trnOn (1 + 42 * 2 ^ 8 + 9 * 2 ^ 64 + 6 * 2 ^ 128 + 6 * 2 ^ 160 + 999 * 2 ^ 352) { ops := [⟨0, some (3, 1), 0, 3, 0, 4, 0, false, 0, 0, 0, false, 0, 0, 0, true, none, 0, 0, false, none, false, false⟩] } State.reset, 5, 1 + 42 * 2 ^ 8 + 9 * 2 ^ 64 + 6 * 2 ^ 128 + 6 * 2 ^ 160 + 999 * 2 ^ 352, ⟨0, some (3, 1), 0, 3, 0, 4, 0, false, 0, 0, 0, false, 0, 0, 0, true, none, 0, 0, false, none, false, false⟩, true, [], by decide +kernel⟩

theorem meets_BlockCommands_1 : ∃ (s : State) (q sseq o : Nat) (c : BlkCmd) (e : Entry) (rest : List (Nat × Nat)),
  (stopped s = false) ∧ (blkCmd s q sseq = some c) ∧ (openEntry s q sseq = some e) ∧ (s.blk.requests = (q, sseq) ::
  rest) ∧ (mayBegin s e = true) ∧ (freePlace (stageSize s) (blkBytes c) 0 (buffersInUse s) = some o) :=
  ⟨{ blkOn [{ raw := 0x30 + 2 ^ 9 + 2 ^ 16 + 2 ^ 96 + 0x6000 * 2 ^ 192 }] [{ queue := 3, sseq := 1, order := 0, raw := 0x30 + 2 ^ 9 + 2 ^ 16 + 2 ^ 96 + 0x6000 * 2 ^ 192, vol := (1 + 9 * 2 ^ 64 + 7 * 2 ^ 128) }] with blk := { cmds := [{ queue := 3, sseq := 1, order := 0, raw := 0x30 + 2 ^ 9 + 2 ^ 16 + 2 ^ 96 + 0x6000 * 2 ^ 192, vol := (1 + 9 * 2 ^ 64 + 7 * 2 ^ 128) }], requests := [(3, 1)] } }, 3, 1, 0, { queue := 3, sseq := 1, order := 0, raw := 0x30 + 2 ^ 9 + 2 ^ 16 + 2 ^ 96 + 0x6000 * 2 ^ 192, vol := (1 + 9 * 2 ^ 64 + 7 * 2 ^ 128) }, { raw := 0x30 + 2 ^ 9 + 2 ^ 16 + 2 ^ 96 + 0x6000 * 2 ^ 192 }, [], by decide +kernel⟩

theorem meets_BlockCommands_2 : ∃ (s : State) (q sseq o : Nat) (c : BlkCmd) (e : Entry) (_ : Bytes), (stopped s =
  false) ∧ (blkCmd s q sseq = some c) ∧ (openEntry s q sseq = some e) ∧ (e.op = 0x31) ∧ (c.moved = false) ∧ (c.buf =
  some o) ∧ (e.at 8 16 1 = 0) ∧ (fnLive s (queueFn s q) = true) ∧ (volXts c.vol = false) :=
  ⟨blkOn [{ raw := 0x31 + 2 ^ 9 + 2 ^ 16 + 2 ^ 96 + 0x6000 * 2 ^ 192, begun := true }] [{ queue := 3, sseq := 1, order := 0, raw := 0x31 + 2 ^ 9 + 2 ^ 16 + 2 ^ 96 + 0x6000 * 2 ^ 192, vol := (1 + 9 * 2 ^ 64 + 7 * 2 ^ 128), buf := some 64 }], 3, 1, 64, { queue := 3, sseq := 1, order := 0, raw := 0x31 + 2 ^ 9 + 2 ^ 16 + 2 ^ 96 + 0x6000 * 2 ^ 192, vol := (1 + 9 * 2 ^ 64 + 7 * 2 ^ 128), buf := some 64 }, { raw := 0x31 + 2 ^ 9 + 2 ^ 16 + 2 ^ 96 + 0x6000 * 2 ^ 192, begun := true }, [1, 2, 3], by decide +kernel⟩

theorem meets_BlockCommands_3 : ∃ (s : State) (q sseq : Nat) (c : BlkCmd), (stopped s = false) ∧ (blkCmd s q sseq =
  some c) ∧ (c.moved = true) ∧ (unitsDone c = true) :=
  ⟨blkOn [] [{ queue := 3, sseq := 1, order := 0, raw := 0x31 + 2 ^ 9 + 2 ^ 16 + 2 ^ 96 + 0x6000 * 2 ^ 192, vol := (1 + 9 * 2 ^ 64 + 7 * 2 ^ 128), buf := some 64, moved := true }], 3, 1, { queue := 3, sseq := 1, order := 0, raw := 0x31 + 2 ^ 9 + 2 ^ 16 + 2 ^ 96 + 0x6000 * 2 ^ 192, vol := (1 + 9 * 2 ^ 64 + 7 * 2 ^ 128), buf := some 64, moved := true }, by decide +kernel⟩

theorem meets_BlockCommands_4 : ∃ (s : State) (q sseq : Nat) (c : BlkCmd) (e : Entry), (stopped s = false) ∧ (blkCmd s
  q sseq = some c) ∧ (openEntry s q sseq = some e) ∧ (e.op = 0x30) ∧ (c.sent = false) ∧ (c.reply.map BlkReply.result =
  some 0) ∧ (volXts c.vol = false) ∧ (memBad s (stageBase s + c.buf.getD 0) (blkBytes c) = false) ∧ (e.at 8 16 1 = 0)
  ∧ (fnLive s (queueFn s q) = true) :=
  ⟨blkOn [{ raw := 0x30 + 2 ^ 9 + 2 ^ 16 + 2 ^ 96 + 0x6000 * 2 ^ 192, begun := true }] [{ queue := 3, sseq := 1, order := 0, raw := 0x30 + 2 ^ 9 + 2 ^ 16 + 2 ^ 96 + 0x6000 * 2 ^ 192, vol := (1 + 9 * 2 ^ 64 + 7 * 2 ^ 128), buf := some 64, done := true, reply := some ⟨0, 0, 0⟩ }], 3, 1, { queue := 3, sseq := 1, order := 0, raw := 0x30 + 2 ^ 9 + 2 ^ 16 + 2 ^ 96 + 0x6000 * 2 ^ 192, vol := (1 + 9 * 2 ^ 64 + 7 * 2 ^ 128), buf := some 64, done := true, reply := some ⟨0, 0, 0⟩ }, { raw := 0x30 + 2 ^ 9 + 2 ^ 16 + 2 ^ 96 + 0x6000 * 2 ^ 192, begun := true }, by decide +kernel⟩

theorem meets_BlockCommands_5 : ∃ (s : State) (q sseq : Nat) (c : BlkCmd), (stopped s = false) ∧ (blkCmd s q sseq =
  some c) ∧ (cmdReady s c = true) ∧ ((deviceSend s srcBlock (volChannel c.vol) (commandBaton s (nextGen s c))
  (queueAccount s c.queue)).isSome = true) :=
  ⟨blkOn [{ raw := 0x31 + 2 ^ 9 + 2 ^ 16 + 2 ^ 96 + 0x6000 * 2 ^ 192, begun := true }] [{ queue := 3, sseq := 1, order := 0, raw := 0x31 + 2 ^ 9 + 2 ^ 16 + 2 ^ 96 + 0x6000 * 2 ^ 192, vol := (1 + 9 * 2 ^ 64 + 7 * 2 ^ 128), buf := some 64, moved := true, staged := true }], 3, 1, { queue := 3, sseq := 1, order := 0, raw := 0x31 + 2 ^ 9 + 2 ^ 16 + 2 ^ 96 + 0x6000 * 2 ^ 192, vol := (1 + 9 * 2 ^ 64 + 7 * 2 ^ 128), buf := some 64, moved := true, staged := true }, by decide +kernel⟩

theorem meets_BlockCommands_6 : ∃ (s : State) (q sseq : Nat) (c : BlkCmd) (e : Entry), (stopped s = false) ∧ (blkCmd s
  q sseq = some c) ∧ (openEntry s q sseq = some e) ∧ (e.op = 0x32) ∧ (cmdReady s c = true) ∧ ((deviceSend s srcBlock
  (volChannel c.vol) (commandBaton s (nextGen s c)) (queueAccount s c.queue)).isSome = true) :=
  ⟨blkOn [{ raw := 0x32 + 2 ^ 8 + 2 ^ 16 }] [{ queue := 3, sseq := 1, order := 0, raw := 0x32 + 2 ^ 8 + 2 ^ 16, vol := (1 + 9 * 2 ^ 64 + 7 * 2 ^ 128) }], 3, 1, { queue := 3, sseq := 1, order := 0, raw := 0x32 + 2 ^ 8 + 2 ^ 16, vol := (1 + 9 * 2 ^ 64 + 7 * 2 ^ 128) }, { raw := 0x32 + 2 ^ 8 + 2 ^ 16 }, by decide +kernel⟩

theorem meets_BlockCommands_7 : ∃ (s : State) (q sseq : Nat) (c : BlkCmd) (e : Entry), (stopped s = false) ∧ (blkCmd s
  q sseq = some c) ∧ (openEntry s q sseq = some e) ∧ (e.op = 0x33) ∧ (cmdReady s c = true) ∧ ((deviceSend s srcBlock
  (volChannel c.vol) (commandBaton s (nextGen s c)) (queueAccount s c.queue)).isSome = true) :=
  ⟨blkOn [{ raw := 0x33 + 2 ^ 9 + 2 ^ 16 + 2 ^ 96 }] [{ queue := 3, sseq := 1, order := 0, raw := 0x33 + 2 ^ 9 + 2 ^ 16 + 2 ^ 96, vol := (1 + 9 * 2 ^ 64 + 7 * 2 ^ 128) }], 3, 1, { queue := 3, sseq := 1, order := 0, raw := 0x33 + 2 ^ 9 + 2 ^ 16 + 2 ^ 96, vol := (1 + 9 * 2 ^ 64 + 7 * 2 ^ 128) }, { raw := 0x33 + 2 ^ 9 + 2 ^ 16 + 2 ^ 96 }, by decide +kernel⟩

theorem meets_BlockCommands_8 : ∃ (s : State) (b : Baton) (q sseq : Nat) (c : BlkCmd) (e : Entry), (stopped s = false)
  ∧ (s.rly.replies = [b]) ∧ (s.blk.cmds = [c]) ∧ (c.queue = q) ∧ (c.sseq = sseq) ∧ (c.sent = true) ∧ (c.orphan =
  false) ∧ (q = bitsAt b.image 16 16) ∧ (c.slot = bitsAt b.image 32 8) ∧ (c.gen = bitsAt b.image 40 8) ∧ (blkOp c.raw
  = 0x31) ∧ (bitsAt b.image 8 8 = 0) ∧ (openEntry s q sseq = some e) :=
  ⟨(let s := blkOn [{ raw := 0x31 + 2 ^ 9 + 2 ^ 16 + 2 ^ 96 + 0x6000 * 2 ^ 192, begun := true }] [{ queue := 3, sseq := 1, order := 0, raw := 0x31 + 2 ^ 9 + 2 ^ 16 + 2 ^ 96 + 0x6000 * 2 ^ 192, vol := (1 + 9 * 2 ^ 64 + 7 * 2 ^ 128), buf := some 64, sent := true, gen := 1 }]; { s with rly := { replies := [⟨3 * 2 ^ 16 + 2 ^ 40, 20⟩] } }), ⟨3 * 2 ^ 16 + 2 ^ 40, 20⟩, 3, 1, { queue := 3, sseq := 1, order := 0, raw := 0x31 + 2 ^ 9 + 2 ^ 16 + 2 ^ 96 + 0x6000 * 2 ^ 192, vol := (1 + 9 * 2 ^ 64 + 7 * 2 ^ 128), buf := some 64, sent := true, gen := 1 }, { raw := 0x31 + 2 ^ 9 + 2 ^ 16 + 2 ^ 96 + 0x6000 * 2 ^ 192, begun := true }, by decide +kernel⟩

theorem meets_BlockCommands_9 : ∃ (s : State) (b : Baton), (stopped s = false) ∧ (s.rly.replies = [b]) ∧ (s.blk.cmds =
  []) :=
  ⟨{ State.reset with rly := { replies := [⟨5, 20⟩] } }, ⟨5, 20⟩, by decide +kernel⟩

theorem meets_BlockCommands_10 : ∃ (s : State) (q sseq o : Nat) (c : BlkCmd) (e : Entry) (rest : List (Nat × Nat)),
  (stopped s = false) ∧ (s.blk.requests = (q, sseq) :: rest) ∧ (blkCmd s q sseq = some c) ∧ (openEntry s q sseq = some
  e) ∧ (mayBegin s e = true) ∧ (freePlace (stageSize s) (blkBytes c) 0 (buffersInUse s) = some o) :=
  ⟨{ blkOn [{ raw := 0x30 + 2 ^ 9 + 2 ^ 16 + 2 ^ 96 + 0x6000 * 2 ^ 192 }] [{ queue := 3, sseq := 1, order := 0, raw := 0x30 + 2 ^ 9 + 2 ^ 16 + 2 ^ 96 + 0x6000 * 2 ^ 192, vol := (1 + 9 * 2 ^ 64 + 7 * 2 ^ 128) }] with blk := { cmds := [{ queue := 3, sseq := 1, order := 0, raw := 0x30 + 2 ^ 9 + 2 ^ 16 + 2 ^ 96 + 0x6000 * 2 ^ 192, vol := (1 + 9 * 2 ^ 64 + 7 * 2 ^ 128) }], requests := [(3, 1)] } }, 3, 1, 0, { queue := 3, sseq := 1, order := 0, raw := 0x30 + 2 ^ 9 + 2 ^ 16 + 2 ^ 96 + 0x6000 * 2 ^ 192, vol := (1 + 9 * 2 ^ 64 + 7 * 2 ^ 128) }, { raw := 0x30 + 2 ^ 9 + 2 ^ 16 + 2 ^ 96 + 0x6000 * 2 ^ 192 }, [], by decide +kernel⟩

theorem meets_BlockCommands_11 : ∃ (s : State) (q sseq : Nat) (c : BlkCmd) (e : Entry) (rest : List (Nat × Nat)),
  (stopped s = false) ∧ (s.blk.requests = (q, sseq) :: rest) ∧ (blkCmd s q sseq = some c) ∧ (openEntry s q sseq = some
  e) ∧ (mayBegin s e = true) ∧ (freePlace (stageSize s) (blkBytes c) 0 (buffersInUse s) = none) :=
  ⟨{ blkOn [{ raw := 0x30 + 2 ^ 9 + 2 ^ 16 + 2 ^ 96 + 0x6000 * 2 ^ 192 }] [{ queue := 3, sseq := 1, order := 0, raw := 0x30 + 2 ^ 9 + 2 ^ 16 + 2 ^ 96 + 0x6000 * 2 ^ 192, vol := (1 + 9 * 2 ^ 64 + 7 * 2 ^ 128) }] with blk := { cmds := [{ queue := 3, sseq := 1, order := 0, raw := 0x30 + 2 ^ 9 + 2 ^ 16 + 2 ^ 96 + 0x6000 * 2 ^ 192, vol := (1 + 9 * 2 ^ 64 + 7 * 2 ^ 128) }], requests := [(3, 1)] }, areas := {} }, 3, 1, { queue := 3, sseq := 1, order := 0, raw := 0x30 + 2 ^ 9 + 2 ^ 16 + 2 ^ 96 + 0x6000 * 2 ^ 192, vol := (1 + 9 * 2 ^ 64 + 7 * 2 ^ 128) }, { raw := 0x30 + 2 ^ 9 + 2 ^ 16 + 2 ^ 96 + 0x6000 * 2 ^ 192 }, [], by decide +kernel⟩

theorem meets_BlockCommands_12 : ∃ (s : State) (q sseq : Nat) (rest : List (Nat × Nat)), (stopped s = false) ∧
  (s.blk.requests = (q, sseq) :: rest) ∧ (blkCmd s q sseq = none ∨ openEntry s q sseq = none) :=
  ⟨{ State.reset with blk := { requests := [(3, 1)] } }, 3, 1, [], by decide +kernel⟩

theorem meets_BlockCommands_13 : ∃ (s : State) (q sseq : Nat) (c : BlkCmd) (e : Entry) (_ : Bytes) (ps : List (Nat ×
  Nat)), (stopped s = false) ∧ (blkCmd s q sseq = some c) ∧ (openEntry s q sseq = some e) ∧ (e.op = 0x31) ∧ (c.moved =
  false) ∧ (c.buf.isSome = true) ∧ (fnLive s (queueFn s q) = true) ∧ (translateRange s (queueFn s q) (e.at 8 16 1 = 1)
  (e.at 0x18 0 64) (blkBytes c) false = .ok ps) ∧ (volXts c.vol = false) :=
  ⟨blkOn [{ raw := 0x31 + 2 ^ 9 + 2 ^ 16 + 2 ^ 96 + 0x6000 * 2 ^ 192, begun := true }] [{ queue := 3, sseq := 1, order := 0, raw := 0x31 + 2 ^ 9 + 2 ^ 16 + 2 ^ 96 + 0x6000 * 2 ^ 192, vol := (1 + 9 * 2 ^ 64 + 7 * 2 ^ 128), buf := some 64 }], 3, 1, { queue := 3, sseq := 1, order := 0, raw := 0x31 + 2 ^ 9 + 2 ^ 16 + 2 ^ 96 + 0x6000 * 2 ^ 192, vol := (1 + 9 * 2 ^ 64 + 7 * 2 ^ 128), buf := some 64 }, { raw := 0x31 + 2 ^ 9 + 2 ^ 16 + 2 ^ 96 + 0x6000 * 2 ^ 192, begun := true }, [1, 2, 3], [(0x6000, 512)], by decide +kernel⟩

theorem meets_BlockCommands_14 : ∃ (s : State) (q sseq : Nat) (c : BlkCmd) (e : Entry) (_ : Bytes) (ps : List (Nat ×
  Nat)), (stopped s = false) ∧ (blkCmd s q sseq = some c) ∧ (openEntry s q sseq = some e) ∧ (e.op = 0x31) ∧ (c.moved =
  false) ∧ (c.buf.isSome = true) ∧ (fnLive s (queueFn s q) = true) ∧ (translateRange s (queueFn s q) (e.at 8 16 1 = 1)
  (e.at 0x18 0 64) (blkBytes c) false = .ok ps) ∧ (volXts c.vol = true) :=
  ⟨blkOn [{ raw := 0x31 + 2 ^ 9 + 2 ^ 16 + 2 ^ 96 + 0x6000 * 2 ^ 192, begun := true }] [{ queue := 3, sseq := 1, order := 0, raw := 0x31 + 2 ^ 9 + 2 ^ 16 + 2 ^ 96 + 0x6000 * 2 ^ 192, vol := (1 + 9 * 2 ^ 64 + 7 * 2 ^ 128 + 2 ^ 2), buf := some 64 }], 3, 1, { queue := 3, sseq := 1, order := 0, raw := 0x31 + 2 ^ 9 + 2 ^ 16 + 2 ^ 96 + 0x6000 * 2 ^ 192, vol := (1 + 9 * 2 ^ 64 + 7 * 2 ^ 128 + 2 ^ 2), buf := some 64 }, { raw := 0x31 + 2 ^ 9 + 2 ^ 16 + 2 ^ 96 + 0x6000 * 2 ^ 192, begun := true }, [1, 2, 3], [(0x6000, 512)], by decide +kernel⟩

theorem meets_BlockCommands_15 : ∃ (s : State) (q sseq : Nat) (c : BlkCmd) (e : Entry) (_ : Bytes) (ps : List (Nat ×
  Nat)), (stopped s = false) ∧ (blkCmd s q sseq = some c) ∧ (openEntry s q sseq = some e) ∧ (e.op = 0x31) ∧ (c.moved =
  false) ∧ (c.buf.isSome = true) ∧ (fnLive s (queueFn s q) = true) ∧ (translateRange s (queueFn s q) (e.at 8 16 1 = 1)
  (e.at 0x18 0 64) (blkBytes c) false = .ok ps) :=
  ⟨blkOn [{ raw := 0x31 + 2 ^ 9 + 2 ^ 16 + 2 ^ 96 + 0x6000 * 2 ^ 192, begun := true }] [{ queue := 3, sseq := 1, order := 0, raw := 0x31 + 2 ^ 9 + 2 ^ 16 + 2 ^ 96 + 0x6000 * 2 ^ 192, vol := (1 + 9 * 2 ^ 64 + 7 * 2 ^ 128), buf := some 64 }], 3, 1, { queue := 3, sseq := 1, order := 0, raw := 0x31 + 2 ^ 9 + 2 ^ 16 + 2 ^ 96 + 0x6000 * 2 ^ 192, vol := (1 + 9 * 2 ^ 64 + 7 * 2 ^ 128), buf := some 64 }, { raw := 0x31 + 2 ^ 9 + 2 ^ 16 + 2 ^ 96 + 0x6000 * 2 ^ 192, begun := true }, [1, 2, 3], [(0x6000, 512)], by decide +kernel⟩

theorem meets_BlockCommands_16 : ∃ (s : State) (q sseq : Nat) (c : BlkCmd), (stopped s = false) ∧ (blkCmd s q sseq =
  some c) ∧ (c.moved = true) ∧ (unitsDone c = true) :=
  ⟨blkOn [] [{ queue := 3, sseq := 1, order := 0, raw := 0x31 + 2 ^ 9 + 2 ^ 16 + 2 ^ 96 + 0x6000 * 2 ^ 192, vol := (1 + 9 * 2 ^ 64 + 7 * 2 ^ 128), buf := some 64, moved := true }], 3, 1, { queue := 3, sseq := 1, order := 0, raw := 0x31 + 2 ^ 9 + 2 ^ 16 + 2 ^ 96 + 0x6000 * 2 ^ 192, vol := (1 + 9 * 2 ^ 64 + 7 * 2 ^ 128), buf := some 64, moved := true }, by decide +kernel⟩

theorem meets_BlockCommands_17 : ∃ (s : State) (q sseq : Nat) (c : BlkCmd) (e : Entry) (ps : List (Nat × Nat)),
  (stopped s = false) ∧ (blkCmd s q sseq = some c) ∧ (openEntry s q sseq = some e) ∧ (e.op = 0x30) ∧ (c.sent = false)
  ∧ (unitsDone c = true) ∧ (c.reply.map BlkReply.result = some 0) ∧ (volXts c.vol = true ∨ memBad s (stageBase s +
  c.buf.getD 0) (blkBytes c) = false) ∧ (fnLive s (queueFn s q) = true) ∧ (translateRange s (queueFn s q) (e.at 8 16 1
  = 1) (e.at 0x18 0 64) (blkBytes c) true = .ok ps) :=
  ⟨blkOn [{ raw := 0x30 + 2 ^ 9 + 2 ^ 16 + 2 ^ 96 + 0x6000 * 2 ^ 192, begun := true }] [{ queue := 3, sseq := 1, order := 0, raw := 0x30 + 2 ^ 9 + 2 ^ 16 + 2 ^ 96 + 0x6000 * 2 ^ 192, vol := (1 + 9 * 2 ^ 64 + 7 * 2 ^ 128), buf := some 64, done := true, reply := some ⟨0, 0, 0⟩ }], 3, 1, { queue := 3, sseq := 1, order := 0, raw := 0x30 + 2 ^ 9 + 2 ^ 16 + 2 ^ 96 + 0x6000 * 2 ^ 192, vol := (1 + 9 * 2 ^ 64 + 7 * 2 ^ 128), buf := some 64, done := true, reply := some ⟨0, 0, 0⟩ }, { raw := 0x30 + 2 ^ 9 + 2 ^ 16 + 2 ^ 96 + 0x6000 * 2 ^ 192, begun := true }, [(0x6000, 512)], by decide +kernel⟩

theorem meets_BlockCommands_18 : ∃ (s : State) (q sseq : Nat) (c : BlkCmd) (e : Entry) (ps : List (Nat × Nat)),
  (stopped s = false) ∧ (blkCmd s q sseq = some c) ∧ (openEntry s q sseq = some e) ∧ (e.op = 0x30) ∧ (c.sent = false)
  ∧ (unitsDone c = true) ∧ (c.reply.map BlkReply.result = some 0) ∧ (volXts c.vol = true ∨ memBad s (stageBase s +
  c.buf.getD 0) (blkBytes c) = false) ∧ (fnLive s (queueFn s q) = true) ∧ (translateRange s (queueFn s q) (e.at 8 16 1
  = 1) (e.at 0x18 0 64) (blkBytes c) true = .ok ps) :=
  ⟨blkOn [{ raw := 0x30 + 2 ^ 9 + 2 ^ 16 + 2 ^ 96 + 0x6000 * 2 ^ 192, begun := true }] [{ queue := 3, sseq := 1, order := 0, raw := 0x30 + 2 ^ 9 + 2 ^ 16 + 2 ^ 96 + 0x6000 * 2 ^ 192, vol := (1 + 9 * 2 ^ 64 + 7 * 2 ^ 128), buf := some 64, done := true, reply := some ⟨0, 0, 0⟩ }], 3, 1, { queue := 3, sseq := 1, order := 0, raw := 0x30 + 2 ^ 9 + 2 ^ 16 + 2 ^ 96 + 0x6000 * 2 ^ 192, vol := (1 + 9 * 2 ^ 64 + 7 * 2 ^ 128), buf := some 64, done := true, reply := some ⟨0, 0, 0⟩ }, { raw := 0x30 + 2 ^ 9 + 2 ^ 16 + 2 ^ 96 + 0x6000 * 2 ^ 192, begun := true }, [(0x6000, 512)], by decide +kernel⟩

theorem meets_BlockCommands_19 : ∃ (s : State) (q sseq : Nat) (c : BlkCmd), (stopped s = false) ∧ (blkCmd s q sseq =
  some c) ∧ (cmdReady s c = true) :=
  ⟨blkOn [{ raw := 0x31 + 2 ^ 9 + 2 ^ 16 + 2 ^ 96 + 0x6000 * 2 ^ 192, begun := true }] [{ queue := 3, sseq := 1, order := 0, raw := 0x31 + 2 ^ 9 + 2 ^ 16 + 2 ^ 96 + 0x6000 * 2 ^ 192, vol := (1 + 9 * 2 ^ 64 + 7 * 2 ^ 128), buf := some 64, moved := true, staged := true }], 3, 1, { queue := 3, sseq := 1, order := 0, raw := 0x31 + 2 ^ 9 + 2 ^ 16 + 2 ^ 96 + 0x6000 * 2 ^ 192, vol := (1 + 9 * 2 ^ 64 + 7 * 2 ^ 128), buf := some 64, moved := true, staged := true }, by decide +kernel⟩

theorem meets_BlockCommands_20 : ∃ (s : State) (q sseq : Nat), (stopped s = false) ∧ (blkCmd s q sseq = none) :=
  ⟨State.reset, 3, 1, by decide +kernel⟩

theorem meets_BlockCommands_21 : ∃ (s : State) (q sseq : Nat) (c : BlkCmd) (e : Entry), (stopped s = false) ∧ (blkCmd
  s q sseq = some c) ∧ (openEntry s q sseq = some e) ∧ (e.op = 0x32) ∧ (cmdReady s c = true) :=
  ⟨blkOn [{ raw := 0x32 + 2 ^ 8 + 2 ^ 16 }] [{ queue := 3, sseq := 1, order := 0, raw := 0x32 + 2 ^ 8 + 2 ^ 16, vol := (1 + 9 * 2 ^ 64 + 7 * 2 ^ 128) }], 3, 1, { queue := 3, sseq := 1, order := 0, raw := 0x32 + 2 ^ 8 + 2 ^ 16, vol := (1 + 9 * 2 ^ 64 + 7 * 2 ^ 128) }, { raw := 0x32 + 2 ^ 8 + 2 ^ 16 }, by decide +kernel⟩

theorem meets_BlockCommands_22 : ∃ (s : State) (q sseq : Nat) (c : BlkCmd) (e : Entry), (stopped s = false) ∧ (blkCmd
  s q sseq = some c) ∧ (openEntry s q sseq = some e) ∧ (e.op = 0x33) ∧ (cmdReady s c = true) :=
  ⟨blkOn [{ raw := 0x33 + 2 ^ 9 + 2 ^ 16 + 2 ^ 96 }] [{ queue := 3, sseq := 1, order := 0, raw := 0x33 + 2 ^ 9 + 2 ^ 16 + 2 ^ 96, vol := (1 + 9 * 2 ^ 64 + 7 * 2 ^ 128) }], 3, 1, { queue := 3, sseq := 1, order := 0, raw := 0x33 + 2 ^ 9 + 2 ^ 16 + 2 ^ 96, vol := (1 + 9 * 2 ^ 64 + 7 * 2 ^ 128) }, { raw := 0x33 + 2 ^ 9 + 2 ^ 16 + 2 ^ 96 }, by decide +kernel⟩

theorem meets_BlockCommands_23 : ∃ (s : State) (c : BlkCmd) (b : Nat) (t : State), (deviceSend s srcBlock (volChannel
  c.vol) b (queueAccount s c.queue) = some t) :=
  ⟨blkOn [] [], { queue := 3, sseq := 1, order := 0, raw := 0x32 + 2 ^ 8 + 2 ^ 16, vol := (1 + 9 * 2 ^ 64 + 7 * 2 ^ 128) }, 0, (deviceSend (blkOn [] []) srcBlock 7 0 0).get (by decide +kernel), by decide +kernel⟩

theorem meets_BlockCommands_24 : ∃ (s : State) (b : Baton) (rest : List Baton) (c : BlkCmd) (u : State), (stopped s =
  false) ∧ (s.rly.replies = b :: rest) ∧ ((s.blk.cmds.find? fun c => c.sent && decide (c.queue = bitsAt b.image 16 16)
  && decide (c.slot = bitsAt b.image 32 8) && decide (c.gen = bitsAt b.image 40 8)) = some c) ∧ (c.orphan = false) ∧
  (u = blkCount_ { s with rly := { s.rly with replies := rest } } 1) :=
  ⟨(let s := blkOn [{ raw := 0x31 + 2 ^ 9 + 2 ^ 16 + 2 ^ 96 + 0x6000 * 2 ^ 192, begun := true }] [{ queue := 3, sseq := 1, order := 0, raw := 0x31 + 2 ^ 9 + 2 ^ 16 + 2 ^ 96 + 0x6000 * 2 ^ 192, vol := (1 + 9 * 2 ^ 64 + 7 * 2 ^ 128), buf := some 64, sent := true, gen := 1 }]; { s with rly := { replies := [⟨3 * 2 ^ 16 + 2 ^ 40, 20⟩] } }), ⟨3 * 2 ^ 16 + 2 ^ 40, 20⟩, [], { queue := 3, sseq := 1, order := 0, raw := 0x31 + 2 ^ 9 + 2 ^ 16 + 2 ^ 96 + 0x6000 * 2 ^ 192, vol := (1 + 9 * 2 ^ 64 + 7 * 2 ^ 128), buf := some 64, sent := true, gen := 1 }, blkCount_ { (let s := blkOn [{ raw := 0x31 + 2 ^ 9 + 2 ^ 16 + 2 ^ 96 + 0x6000 * 2 ^ 192, begun := true }] [{ queue := 3, sseq := 1, order := 0, raw := 0x31 + 2 ^ 9 + 2 ^ 16 + 2 ^ 96 + 0x6000 * 2 ^ 192, vol := (1 + 9 * 2 ^ 64 + 7 * 2 ^ 128), buf := some 64, sent := true, gen := 1 }]; { s with rly := { replies := [⟨3 * 2 ^ 16 + 2 ^ 40, 20⟩] } }) with rly := {} } 1, by decide +kernel⟩

theorem meets_BlockCommands_25 : ∃ (s : State) (b : Baton) (rest : List Baton), (stopped s = false) ∧ (s.rly.replies =
  b :: rest) ∧ ((s.blk.cmds.find? fun c => c.sent && decide (c.queue = bitsAt b.image 16 16) && decide (c.slot =
  bitsAt b.image 32 8) && decide (c.gen = bitsAt b.image 40 8)) = none) :=
  ⟨{ State.reset with rly := { replies := [⟨5, 20⟩] } }, ⟨5, 20⟩, [], by decide +kernel⟩

theorem meets_BlockSelfTestsLogsAndVolumes_1 : ∃ (s : State) (q sseq : Nat) (c : BlkCmd) (e : Entry), (stopped s =
  false) ∧ (beginnable s q sseq 0x34 = some e) ∧ (blkCmd s q sseq = some c) :=
  ⟨blkOn [{ raw := 0x34 + 2 ^ 8 + 2 ^ 16 + 2 ^ 80 }] [{ queue := 3, sseq := 1, order := 0, raw := 0x34 + 2 ^ 8 + 2 ^ 16 + 2 ^ 80, vol := (1 + 9 * 2 ^ 64 + 7 * 2 ^ 128) }], 3, 1, { queue := 3, sseq := 1, order := 0, raw := 0x34 + 2 ^ 8 + 2 ^ 16 + 2 ^ 80, vol := (1 + 9 * 2 ^ 64 + 7 * 2 ^ 128) }, { raw := 0x34 + 2 ^ 8 + 2 ^ 16 + 2 ^ 80 }, by decide +kernel⟩

theorem meets_BlockSelfTestsLogsAndVolumes_2 : ∃ (s : State) (q sseq : Nat) (e : Entry), (stopped s = false) ∧
  (beginnable s q sseq 0x34 = some e) :=
  ⟨blkOn [{ raw := 0x34 + 2 ^ 8 + 2 ^ 16 + 2 ^ 80 }] [{ queue := 3, sseq := 1, order := 0, raw := 0x34 + 2 ^ 8 + 2 ^ 16 + 2 ^ 80, vol := (1 + 9 * 2 ^ 64 + 7 * 2 ^ 128) }], 3, 1, { raw := 0x34 + 2 ^ 8 + 2 ^ 16 + 2 ^ 80 }, by decide +kernel⟩

theorem meets_BlockSelfTestsLogsAndVolumes_3 : ∃ (s : State) (q sseq : Nat) (c : BlkCmd) (e : Entry), (stopped s =
  false) ∧ (blkCmd s q sseq = some c) ∧ (openEntry s q sseq = some e) ∧ (blkOp c.raw = 0x34) ∧ (c.phase = 1) ∧ (c.sent
  = false) ∧ (volumeBusy s (blkVolume c.raw) = false) ∧ (verifyInFlight s (blkVolume c.raw) = false) ∧ ((deviceSend s
  srcBlock (volChannel c.vol) (requestBaton s (nextGen s c) 5 0 0 0) (queueAccount s c.queue)).isSome = true) :=
  ⟨blkOn [{ raw := 0x34 + 2 ^ 8 + 2 ^ 16 + 2 ^ 80, begun := true }] [{ queue := 3, sseq := 1, order := 0, raw := 0x34 + 2 ^ 8 + 2 ^ 16 + 2 ^ 80, vol := (1 + 9 * 2 ^ 64 + 7 * 2 ^ 128), phase := 1 }], 3, 1, { queue := 3, sseq := 1, order := 0, raw := 0x34 + 2 ^ 8 + 2 ^ 16 + 2 ^ 80, vol := (1 + 9 * 2 ^ 64 + 7 * 2 ^ 128), phase := 1 }, { raw := 0x34 + 2 ^ 8 + 2 ^ 16 + 2 ^ 80, begun := true }, by decide +kernel⟩

theorem meets_BlockSelfTestsLogsAndVolumes_4 : ∃ (s : State) (q sseq u : Nat) (e : Entry), (stopped s = false) ∧
  (beginnable s q sseq 0x35 = some e) ∧ (e.at 8 0 16 = u) ∧ (e.at 8 16 1 = 0) ∧ (e.at 8 17 1 = 1) ∧ (fnLive s (queueFn
  s q) = true) :=
  ⟨(let s := blkOn [{ raw := 0x35 + 2 ^ 9 + 2 ^ 16 + 5 * 2 ^ 64 + 0x6000 * 2 ^ 128 + 2 ^ 81 }] []; { s with blk := { logs := [(5, ⟨[77, 88], 3, 2⟩)] } }), 3, 1, 5, { raw := 0x35 + 2 ^ 9 + 2 ^ 16 + 5 * 2 ^ 64 + 0x6000 * 2 ^ 128 + 2 ^ 81 }, by decide +kernel⟩

theorem meets_BlockSelfTestsLogsAndVolumes_5 : ∃ (s : State) (q sseq u : Nat) (e : Entry), (stopped s = false) ∧
  (beginnable s q sseq 0x36 = some e) ∧ (e.at 8 0 16 = u) ∧ (queueState s u = qFrozen) :=
  ⟨withRegs (blkOn [{ raw := 0x36 + 2 ^ 8 + 2 ^ 16 + 5 * 2 ^ 64 }] []) [(WQ_CTX.state, 5, 6)], 3, 1, 5, { raw := 0x36 + 2 ^ 8 + 2 ^ 16 + 5 * 2 ^ 64 }, by decide +kernel⟩

theorem meets_BlockSelfTestsLogsAndVolumes_6 : ∃ (s : State) (who : Initiator), (stopped s = false) ∧ (writable who
  BLK_VCMD.go 0 s = true) ∧ (s.areas.blkStage ≠ 0) ∧ (volValid (s.rd BLK_VCMD_REC.image) = true) ∧ (volCapacity (s.rd
  BLK_VCMD_REC.image) ≠ 0) ∧ (volReservedBad (s.rd BLK_VCMD_REC.image) = false) ∧ (volTest (volRecord s (s.rd
  BLK_VCMD.volume)) = 0) :=
  ⟨withRegs (blkOn [] []) [(BLK_VCMD.volume, 0, 4), (BLK_VCMD_REC.image, 0, (1 + 9 * 2 ^ 64 + 7 * 2 ^ 128))], .host 0, by decide +kernel⟩

theorem meets_BlockSelfTestsLogsAndVolumes_7 : ∃ (s : State) (who : Initiator), (stopped s = false) ∧ (writable who
  BLK_VCMD.go 0 s = true) ∧ (s.areas.blkStage ≠ 0) ∧ (volValid (s.rd BLK_VCMD_REC.image) = true) ∧ (volCapacity (s.rd
  BLK_VCMD_REC.image) = 0) :=
  ⟨withRegs (blkOn [] []) [(BLK_VCMD.volume, 0, 4), (BLK_VCMD_REC.image, 0, 1)], .host 0, by decide +kernel⟩

theorem meets_BlockSelfTestsLogsAndVolumes_8 : ∃ (s : State) (who : Initiator), (stopped s = false) ∧ (writable who
  BLK_VCMD.go 0 s = true) ∧ (s.areas.blkStage ≠ 0) :=
  ⟨{ blkOn [] [] with blk := { vols := [(0, 5)] } }, .host 0, by decide +kernel⟩

theorem meets_BlockSelfTestsLogsAndVolumes_9 : ∃ (s : State) (who : Initiator), (stopped s = false) ∧ (reaches who
  Blk.blk.base = true) :=
  ⟨State.reset, .host 0, by decide +kernel⟩

theorem meets_BlockSelfTestsLogsAndVolumes_10 : ∃ (s : State) (q sseq : Nat), (stopped s = false) ∧ ((beginnable s q
  sseq 0x34).isSome = true) :=
  ⟨blkOn [{ raw := 0x34 + 2 ^ 8 + 2 ^ 16 + 2 ^ 80 }] [{ queue := 3, sseq := 1, order := 0, raw := 0x34 + 2 ^ 8 + 2 ^ 16 + 2 ^ 80, vol := (1 + 9 * 2 ^ 64 + 7 * 2 ^ 128) }], 3, 1, by decide +kernel⟩

theorem meets_BlockSelfTestsLogsAndVolumes_11 : ∃ (s : State) (q sseq : Nat), (stopped s = false) ∧ ((beginnable s q
  sseq 0x34).isSome = true) :=
  ⟨blkOn [{ raw := 0x34 + 2 ^ 8 + 2 ^ 16 + 2 ^ 80 }] [{ queue := 3, sseq := 1, order := 0, raw := 0x34 + 2 ^ 8 + 2 ^ 16 + 2 ^ 80, vol := (1 + 9 * 2 ^ 64 + 7 * 2 ^ 128) }], 3, 1, by decide +kernel⟩

theorem meets_BlockSelfTestsLogsAndVolumes_12 : ∃ (s : State) (q sseq : Nat) (c d : BlkCmd) (n : Nat), (stopped s =
  false) ∧ (blkCmd s q sseq = some c) ∧ ((openEntry s q sseq).isSome = true) ∧ (blkOp c.raw = 0x34) ∧ (c.phase ≠ 0) ∧
  (c.sent = false) ∧ (volumeBusy s (blkVolume c.raw) = false) ∧ (verifyInFlight s (blkVolume c.raw) = false) ∧
  (c.phase ≠ 1) ∧ (d = nextGen s c) ∧ (n = volTestNext (volRecord s (blkVolume c.raw))) :=
  ⟨blkOn [{ raw := 0x34 + 2 ^ 8 + 2 ^ 16 + 2 ^ 80, begun := true }] [{ queue := 3, sseq := 1, order := 0, raw := 0x34 + 2 ^ 8 + 2 ^ 16 + 2 ^ 80, vol := (1 + 9 * 2 ^ 64 + 7 * 2 ^ 128), phase := 2 }], 3, 1, { queue := 3, sseq := 1, order := 0, raw := 0x34 + 2 ^ 8 + 2 ^ 16 + 2 ^ 80, vol := (1 + 9 * 2 ^ 64 + 7 * 2 ^ 128), phase := 2 }, { queue := 3, sseq := 1, order := 0, raw := 0x34 + 2 ^ 8 + 2 ^ 16 + 2 ^ 80, vol := (1 + 9 * 2 ^ 64 + 7 * 2 ^ 128), phase := 2, gen := 1 }, 0, by decide +kernel⟩

theorem meets_BlockSelfTestsLogsAndVolumes_13 : ∃ (s : State) (q sseq : Nat) (c : BlkCmd), (stopped s = false) ∧
  (blkCmd s q sseq = some c) ∧ ((openEntry s q sseq).isSome = true) ∧ (blkOp c.raw = 0x34) ∧ (c.phase = 1) ∧ (c.sent =
  false) ∧ (volumeBusy s (blkVolume c.raw) = false) ∧ (verifyInFlight s (blkVolume c.raw) = false) :=
  ⟨blkOn [{ raw := 0x34 + 2 ^ 8 + 2 ^ 16 + 2 ^ 80, begun := true }] [{ queue := 3, sseq := 1, order := 0, raw := 0x34 + 2 ^ 8 + 2 ^ 16 + 2 ^ 80, vol := (1 + 9 * 2 ^ 64 + 7 * 2 ^ 128), phase := 1 }], 3, 1, { queue := 3, sseq := 1, order := 0, raw := 0x34 + 2 ^ 8 + 2 ^ 16 + 2 ^ 80, vol := (1 + 9 * 2 ^ 64 + 7 * 2 ^ 128), phase := 1 }, by decide +kernel⟩

theorem meets_BlockSelfTestsLogsAndVolumes_14 : ∃ (s : State) (q sseq : Nat) (c : BlkCmd), (stopped s = false) ∧
  (blkCmd s q sseq = some c) ∧ ((openEntry s q sseq).isSome = true) ∧ (blkOp c.raw = 0x34) ∧ (c.phase = 0 ∨ c.sent =
  true ∨ volumeBusy s (blkVolume c.raw) = true ∨ verifyInFlight s (blkVolume c.raw) = true) :=
  ⟨blkOn [{ raw := 0x34 + 2 ^ 8 + 2 ^ 16 + 2 ^ 80, begun := true }] [{ queue := 3, sseq := 1, order := 0, raw := 0x34 + 2 ^ 8 + 2 ^ 16 + 2 ^ 80, vol := (1 + 9 * 2 ^ 64 + 7 * 2 ^ 128) }], 3, 1, { queue := 3, sseq := 1, order := 0, raw := 0x34 + 2 ^ 8 + 2 ^ 16 + 2 ^ 80, vol := (1 + 9 * 2 ^ 64 + 7 * 2 ^ 128) }, by decide +kernel⟩

theorem meets_BlockSelfTestsLogsAndVolumes_15 : ∃ (s : State) (q sseq : Nat) (e : Entry) (l : BlkLog) (u : State) (ps
  : List (Nat × Nat)), (stopped s = false) ∧ (beginnable s q sseq 0x35 = some e) ∧ (fnLive s (queueFn s q) = true) ∧
  (translateRange s (queueFn s q) (e.at 8 16 1 = 1) (e.at 0x10 0 64) 512 true = .ok ps) ∧ (e.at 8 17 1 = 1) ∧ (l =
  blkLog s (e.at 8 0 16)) ∧ (u = entryWrite (begin_ (logLines s (e.at 8 0 16) (queueAccount s q)) q sseq) q sseq ps
  (fitBytes 512 (l.entries.flatMap fun x => leBytes 32 x))) :=
  ⟨(let s := blkOn [{ raw := 0x35 + 2 ^ 9 + 2 ^ 16 + 5 * 2 ^ 64 + 0x6000 * 2 ^ 128 + 2 ^ 81 }] []; { s with blk := { logs := [(5, ⟨[77, 88], 3, 2⟩)] } }), 3, 1, { raw := 0x35 + 2 ^ 9 + 2 ^ 16 + 5 * 2 ^ 64 + 0x6000 * 2 ^ 128 + 2 ^ 81 }, ⟨[77, 88], 3, 2⟩, entryWrite (begin_ (logLines ((let s := blkOn [{ raw := 0x35 + 2 ^ 9 + 2 ^ 16 + 5 * 2 ^ 64 + 0x6000 * 2 ^ 128 + 2 ^ 81 }] []; { s with blk := { logs := [(5, ⟨[77, 88], 3, 2⟩)] } })) 5 0) 3 1) 3 1 [(0x6000, 512)] (fitBytes 512 ([77, 88].flatMap fun x => leBytes 32 x)), [(0x6000, 512)], by decide +kernel⟩

theorem meets_BlockSelfTestsLogsAndVolumes_16 : ∃ (s : State) (q sseq : Nat) (e : Entry) (l : BlkLog) (u : State) (ps
  : List (Nat × Nat)), (stopped s = false) ∧ (beginnable s q sseq 0x35 = some e) ∧ (fnLive s (queueFn s q) = true) ∧
  (translateRange s (queueFn s q) (e.at 8 16 1 = 1) (e.at 0x10 0 64) 512 true = .ok ps) ∧ (e.at 8 17 1 ≠ 1) ∧ (l =
  blkLog s (e.at 8 0 16)) ∧ (u = entryWrite (begin_ (logLines s (e.at 8 0 16) (queueAccount s q)) q sseq) q sseq ps
  (fitBytes 512 (l.entries.flatMap fun x => leBytes 32 x))) :=
  ⟨(let s := blkOn [{ raw := 0x35 + 2 ^ 9 + 2 ^ 16 + 5 * 2 ^ 64 + 0x6000 * 2 ^ 128 }] []; { s with blk := { logs := [(5, ⟨[77, 88], 3, 2⟩)] } }), 3, 1, { raw := 0x35 + 2 ^ 9 + 2 ^ 16 + 5 * 2 ^ 64 + 0x6000 * 2 ^ 128 }, ⟨[77, 88], 3, 2⟩, entryWrite (begin_ (logLines ((let s := blkOn [{ raw := 0x35 + 2 ^ 9 + 2 ^ 16 + 5 * 2 ^ 64 + 0x6000 * 2 ^ 128 }] []; { s with blk := { logs := [(5, ⟨[77, 88], 3, 2⟩)] } })) 5 0) 3 1) 3 1 [(0x6000, 512)] (fitBytes 512 ([77, 88].flatMap fun x => leBytes 32 x)), [(0x6000, 512)], by decide +kernel⟩

theorem meets_BlockSelfTestsLogsAndVolumes_17 : ∃ (s : State) (q sseq : Nat) (e : Entry), (stopped s = false) ∧
  (beginnable s q sseq 0x36 = some e) ∧ (queueState (begin_ s q sseq) (e.at 8 0 16) = qFrozen) :=
  ⟨withRegs (blkOn [{ raw := 0x36 + 2 ^ 8 + 2 ^ 16 + 5 * 2 ^ 64 }] []) [(WQ_CTX.state, 5, 6)], 3, 1, { raw := 0x36 + 2 ^ 8 + 2 ^ 16 + 5 * 2 ^ 64 }, by decide +kernel⟩

theorem meets_BlockSelfTestsLogsAndVolumes_18 : ∃ (s : State) (q sseq : Nat) (e : Entry), (stopped s = false) ∧
  (beginnable s q sseq 0x36 = some e) ∧ (queueState (begin_ s q sseq) (e.at 8 0 16) ≠ qFrozen) :=
  ⟨withRegs (blkOn [{ raw := 0x36 + 2 ^ 8 + 2 ^ 16 + 5 * 2 ^ 64 }] []) [(WQ_CTX.state, 5, 1)], 3, 1, { raw := 0x36 + 2 ^ 8 + 2 ^ 16 + 5 * 2 ^ 64 }, by decide +kernel⟩

theorem meets_BlockSelfTestsLogsAndVolumes_19 : ∃ (s : State) (who : Initiator) (y : Nat), (stopped s = false) ∧
  (writable who BLK_VCMD.go 0 s = true) ∧ (s.areas.blkStage ≠ 0) ∧ (volValid (s.rd BLK_VCMD_REC.image) = false ∨
  volCapacity (s.rd BLK_VCMD_REC.image) ≠ 0 ∧ volReservedBad (s.rd BLK_VCMD_REC.image) = false) ∧ (volTest (volRecord
  s (s.rd BLK_VCMD.volume)) = 0) ∧ (y = (putBits (putBits (s.rd BLK_VCMD_REC.image) 192 2 0) 208 48 0)) :=
  ⟨withRegs (blkOn [] []) [(BLK_VCMD.volume, 0, 4), (BLK_VCMD_REC.image, 0, (1 + 9 * 2 ^ 64 + 7 * 2 ^ 128))], .host 0, (1 + 9 * 2 ^ 64 + 7 * 2 ^ 128), by decide +kernel⟩

theorem meets_BlockSelfTestsLogsAndVolumes_20 : ∃ (s : State) (who : Initiator), (stopped s = false) ∧ (writable who
  BLK_VCMD.go 0 s = true) ∧ (s.areas.blkStage = 0) :=
  ⟨State.reset, .host 0, by decide +kernel⟩

theorem meets_BlockSelfTestsLogsAndVolumes_21 : ∃ (s : State) (who : Initiator), (stopped s = false) ∧ (writable who
  BLK_VCMD.go 0 s = true) ∧ (s.areas.blkStage = 0) :=
  ⟨State.reset, .host 0, by decide +kernel⟩

theorem meets_CipherJobsAndKeys_1 : ∃ (s : State) (q sseq k : Nat) (e : Entry), (stopped s = false) ∧ (beginnable s q
  sseq 0x41 = some e) ∧ (e.at 8 0 20 = k) ∧ (e.at 8 20 1 = 0) ∧ (keyLoadInvalid s q e = false) ∧ (mirrors s = false)
  :=
  ⟨withRegs { queueOn [{ raw := 0x41 + 4 * 2 ^ 8 + 2 ^ 16 + 5 * 2 ^ 64 + 2 ^ 256 + 99 * 2 ^ 512 }] with areas := { key := 1 } } [(CIP_KEY_BLOCK.valid, 0, 1)], 3, 1, 5, { raw := 0x41 + 4 * 2 ^ 8 + 2 ^ 16 + 5 * 2 ^ 64 + 2 ^ 256 + 99 * 2 ^ 512 }, by decide +kernel⟩

theorem meets_CipherJobsAndKeys_2 : ∃ (s : State) (q sseq : Nat) (e : Entry), (stopped s = false) ∧ (entryOf s q sseq
  = some e) ∧ (e.op = 0x41) ∧ (e.mark ≠ 0) ∧ (boundEarlier s (e.at 8 0 20) (e.mark - 1) = false) ∧ (e.outcome = none)
  ∧ (e.decided = none) :=
  ⟨queueOn [{ raw := 0x41 + 4 * 2 ^ 8 + 2 ^ 16 + 5 * 2 ^ 64 + 2 ^ 256 + 99 * 2 ^ 512, begun := true, mark := 4 }], 3, 1, { raw := 0x41 + 4 * 2 ^ 8 + 2 ^ 16 + 5 * 2 ^ 64 + 2 ^ 256 + 99 * 2 ^ 512, begun := true, mark := 4 }, by decide +kernel⟩

theorem meets_CipherJobsAndKeys_3 : ∃ (s : State) (q sseq : Nat) (e : Entry) (_ _ : Bytes), (stopped s = false) ∧
  (beginnable s q sseq 0x40 = some e) ∧ (e.at 8 20 4 = 0) ∧ (jobKeyInvalid s e = false) ∧ (e.at 8 27 1 = 0) ∧ (fnLive
  s (queueFn s q) = true) :=
  ⟨{ queueOn [{ raw := 0x40 + 2 ^ 9 + 2 ^ 16 + 5 * 2 ^ 64 + 0 * 2 ^ 84 + 16 * 2 ^ 96 + 0x9000 * 2 ^ 192 }] with cip := { slots := [(5, 1)] } }, 3, 1, { raw := 0x40 + 2 ^ 9 + 2 ^ 16 + 5 * 2 ^ 64 + 0 * 2 ^ 84 + 16 * 2 ^ 96 + 0x9000 * 2 ^ 192 }, [1, 2], [3], by decide +kernel⟩

theorem meets_CipherJobsAndKeys_4 : ∃ (s : State) (q sseq : Nat) (e : Entry) (_ _ _ : Bytes), (stopped s = false) ∧
  (beginnable s q sseq 0x40 = some e) ∧ (e.at 8 20 4 = 1) ∧ (jobKeyInvalid s e = false) ∧ (e.at 8 27 1 = 0) ∧ (fnLive
  s (queueFn s q) = true) :=
  ⟨{ queueOn [{ raw := 0x40 + 2 ^ 9 + 2 ^ 16 + 5 * 2 ^ 64 + 1 * 2 ^ 84 + 16 * 2 ^ 96 + 0x9000 * 2 ^ 192 }] with cip := { slots := [(5, 1)] } }, 3, 1, { raw := 0x40 + 2 ^ 9 + 2 ^ 16 + 5 * 2 ^ 64 + 1 * 2 ^ 84 + 16 * 2 ^ 96 + 0x9000 * 2 ^ 192 }, [1, 2], [3], [4], by decide +kernel⟩

theorem meets_CipherJobsAndKeys_5 : ∃ (s : State) (q sseq : Nat) (e : Entry) (_ : Bytes), (stopped s = false) ∧
  (beginnable s q sseq 0x40 = some e) ∧ (e.at 8 20 4 = 2) ∧ (jobKeyInvalid s e = false) ∧ (e.at 8 27 1 = 0) ∧ (fnLive
  s (queueFn s q) = true) :=
  ⟨{ queueOn [{ raw := 0x40 + 2 ^ 9 + 2 ^ 16 + 5 * 2 ^ 64 + 2 * 2 ^ 84 + 16 * 2 ^ 96 + 0x9000 * 2 ^ 192 }] with cip := { slots := [(5, 1)] } }, 3, 1, { raw := 0x40 + 2 ^ 9 + 2 ^ 16 + 5 * 2 ^ 64 + 2 * 2 ^ 84 + 16 * 2 ^ 96 + 0x9000 * 2 ^ 192 }, [1, 2], by decide +kernel⟩

theorem meets_CipherJobsAndKeys_6 : ∃ (s : State) (q sseq : Nat) (e : Entry) (_ : Bytes), (stopped s = false) ∧
  (beginnable s q sseq 0x40 = some e) ∧ (e.at 8 20 4 = 3) ∧ (jobKeyInvalid s e = false) ∧ (e.at 8 27 1 = 0) ∧ (fnLive
  s (queueFn s q) = true) :=
  ⟨{ queueOn [{ raw := 0x40 + 2 ^ 9 + 2 ^ 16 + 5 * 2 ^ 64 + 3 * 2 ^ 84 + 16 * 2 ^ 96 + 0x9000 * 2 ^ 192 }] with cip := { slots := [(5, 6)] } }, 3, 1, { raw := 0x40 + 2 ^ 9 + 2 ^ 16 + 5 * 2 ^ 64 + 3 * 2 ^ 84 + 16 * 2 ^ 96 + 0x9000 * 2 ^ 192 }, [1, 2], by decide +kernel⟩

theorem meets_CipherJobsAndKeys_7 : ∃ (s : State) (q sseq : Nat) (e : Entry) (_ _ : Bytes), (stopped s = false) ∧
  (beginnable s q sseq 0x40 = some e) ∧ (e.at 8 20 4 = 4) ∧ (jobKeyInvalid s e = false) ∧ (e.at 8 27 1 = 0) ∧ (fnLive
  s (queueFn s q) = true) :=
  ⟨{ queueOn [{ raw := 0x40 + 2 ^ 9 + 2 ^ 16 + 5 * 2 ^ 64 + 4 * 2 ^ 84 + 16 * 2 ^ 96 + 0x9000 * 2 ^ 192 }] with cip := { slots := [(5, 6)] } }, 3, 1, { raw := 0x40 + 2 ^ 9 + 2 ^ 16 + 5 * 2 ^ 64 + 4 * 2 ^ 84 + 16 * 2 ^ 96 + 0x9000 * 2 ^ 192 }, [1, 2], [9], by decide +kernel⟩

theorem meets_CipherJobsAndKeys_8 : ∃ (s : State) (q sseq : Nat) (e : Entry) (_ : Bool) (_ _ : Bytes), (stopped s =
  false) ∧ (beginnable s q sseq 0x40 = some e) ∧ (e.at 8 20 4 = 0) ∧ (jobKeyInvalid s e = true) :=
  ⟨{ queueOn [{ raw := 0x40 + 2 ^ 9 + 2 ^ 16 + 5 * 2 ^ 64 + 0 * 2 ^ 84 + 16 * 2 ^ 96 + 0x9000 * 2 ^ 192 }] with cip := { slots := [(5, 6)] } }, 3, 1, { raw := 0x40 + 2 ^ 9 + 2 ^ 16 + 5 * 2 ^ 64 + 0 * 2 ^ 84 + 16 * 2 ^ 96 + 0x9000 * 2 ^ 192 }, true, [1, 2], [3], by decide +kernel⟩

theorem meets_CipherJobsAndKeys_9 : ∃ (s : State) (j : CipJob) (e : Entry), (stopped s = false) ∧ (enabled s .cip =
  true) ∧ (s.cip.jobs = [j]) ∧ (s.cip.xts = []) ∧ (entryOf s j.queue j.sseq = some e) ∧ (e.at 8 20 4 = 2) ∧ (jobClass
  s j.queue e = 4) ∧ (eligible s (queueAccount s j.queue) = true) ∧ (atCipher s 0 = []) ∧ (atCipher s 1 = []) ∧
  (coreUnit s 0 = none) ∧ (domainState s 72 = .on) :=
  ⟨(let s := queueOn [{ raw := 0x40 + 2 ^ 9 + 2 ^ 16 + 5 * 2 ^ 64 + 2 * 2 ^ 84 + 16 * 2 ^ 96 + 0x9000 * 2 ^ 192 + 4 * 2 ^ 88, begun := true }]; withRegs { s with cip := { jobs := [⟨3, 1, [7], [], []⟩] } } [(enableField .cip, 0, 1)]), ⟨3, 1, [7], [], []⟩, { raw := 0x40 + 2 ^ 9 + 2 ^ 16 + 5 * 2 ^ 64 + 2 * 2 ^ 84 + 16 * 2 ^ 96 + 0x9000 * 2 ^ 192 + 4 * 2 ^ 88, begun := true }, by decide +kernel⟩

theorem meets_CipherJobsAndKeys_10 : ∃ (s : State) (c q sseq : Nat) (u : CoreUnit) (e : Entry), (stopped s = false) ∧
  (coreUnit s c = some u) ∧ (u.work = .job q sseq) ∧ (u.slot = none) ∧ (entryOf s q sseq = some e) ∧ (e.outcome =
  none) ∧ (e.decided = none) ∧ (e.at 8 20 4 = 2) ∧ (e.at 8 27 1 = 0) ∧ (fnLive s (queueFn s q) = true) ∧ (jobOverlaps
  e u (digestBytes (e.at 8 28 2)) = false) ∧ (s.cip.suspended = []) :=
  ⟨(let s := queueOn [{ raw := 0x40 + 2 ^ 9 + 2 ^ 16 + 5 * 2 ^ 64 + 2 * 2 ^ 84 + 16 * 2 ^ 96 + 0x9000 * 2 ^ 192, begun := true }]; { s with cip := { cores := [(7, some ⟨.job 3 1, none, 0, 0, [7], [], [], false, 0, 4, 0, 0⟩)] } }), 7, 3, 1, ⟨.job 3 1, none, 0, 0, [7], [], [], false, 0, 4, 0, 0⟩, { raw := 0x40 + 2 ^ 9 + 2 ^ 16 + 5 * 2 ^ 64 + 2 * 2 ^ 84 + 16 * 2 ^ 96 + 0x9000 * 2 ^ 192, begun := true }, by decide +kernel⟩

theorem meets_CipherJobsAndKeys_11 : ∃ (s : State) (who : Initiator) (k : Nat), (stopped s = false) ∧ (writable who
  CIP_KCMD.go 0 s = true) ∧ (s.rd CIP_KCMD.slot = k) ∧ (slotUsable s k = true) :=
  ⟨({ State.reset with areas := { key := 1 }, cip := { slots := [(5, 1 + 2 ^ 600)] } } : State).wr CIP_KCMD.slot 5, .host 0, 5, by decide +kernel⟩

theorem meets_CipherJobsAndKeys_12 : ∃ (s : State) (who : Initiator) (k : Nat), (stopped s = false) ∧ (writable who
  CIP_KCMD.go 0 s = true) ∧ (s.rd CIP_KCMD.slot = k) ∧ (slotUsable s k = true) ∧ (s.rd CIP_KCMD.limit < slotLimit
  (slotImage s k)) :=
  ⟨({ State.reset with areas := { key := 1 }, cip := { slots := [(5, 1 + 99 * 2 ^ 64)] } } : State).wr CIP_KCMD.slot 5, .host 0, 5, by decide +kernel⟩

theorem meets_CipherJobsAndKeys_13 : ∃ (s : State) (who : Initiator) (b _ : Nat), (stopped s = false) ∧ (b < 1024) ∧
  (writable who CIP_KEY_BLOCK.pf b s = true) ∧ (blockInUse s b = false) :=
  ⟨State.reset, .host 0, 1023, 0x10002, by decide +kernel⟩

theorem meets_CipherJobsAndKeys_14 : ∃ (s : State) (who : Initiator), (stopped s = false) ∧ (reaches who Blk.cip.base
  = true) ∧ (s.cip.keyq = []) :=
  ⟨State.reset, .host 0, by decide +kernel⟩

theorem meets_CipherJobsAndKeys_15 : ∃ (s : State) (who : Initiator) (x y : Nat), (stopped s = false) ∧ (reaches who
  Blk.cip.base = true) ∧ (s.cip.keyq = [x, y]) :=
  ⟨{ State.reset with cip := { keyq := [0x100005, 0x200006] } }, .host 0, 0x100005, 0x200006, by decide +kernel⟩

theorem meets_CipherJobsAndKeys_16 : ∃ (s : State) (q sseq : Nat) (e : Entry) (_ : Bool) (_ _ : Bytes), (stopped s =
  false) ∧ (beginnable s q sseq 0x40 = some e) ∧ (e.at 8 20 4 = 0) ∧ (jobKeyInvalid s e = true) :=
  ⟨{ queueOn [{ raw := 0x40 + 2 ^ 9 + 2 ^ 16 + 5 * 2 ^ 64 + 0 * 2 ^ 84 + 16 * 2 ^ 96 + 0x9000 * 2 ^ 192 }] with cip := { slots := [(5, 6)] } }, 3, 1, { raw := 0x40 + 2 ^ 9 + 2 ^ 16 + 5 * 2 ^ 64 + 0 * 2 ^ 84 + 16 * 2 ^ 96 + 0x9000 * 2 ^ 192 }, true, [1, 2], [3], by decide +kernel⟩

theorem meets_CipherJobsAndKeys_17 : ∃ (s : State) (q sseq : Nat) (e : Entry) (_ : Bool) (_ _ _ : Bytes), (stopped s =
  false) ∧ (beginnable s q sseq 0x40 = some e) ∧ (e.at 8 20 4 = 1) ∧ (jobKeyInvalid s e = true) :=
  ⟨{ queueOn [{ raw := 0x40 + 2 ^ 9 + 2 ^ 16 + 5 * 2 ^ 64 + 1 * 2 ^ 84 + 16 * 2 ^ 96 + 0x9000 * 2 ^ 192 }] with cip := { slots := [(5, 6)] } }, 3, 1, { raw := 0x40 + 2 ^ 9 + 2 ^ 16 + 5 * 2 ^ 64 + 1 * 2 ^ 84 + 16 * 2 ^ 96 + 0x9000 * 2 ^ 192 }, true, [1, 2], [3], [3], by decide +kernel⟩

theorem meets_CipherJobsAndKeys_18 : ∃ (s : State) (q sseq : Nat) (e : Entry) (_ : Bool) (_ : Bytes), (stopped s =
  false) ∧ (beginnable s q sseq 0x40 = some e) ∧ (e.at 8 20 4 = 3) ∧ (jobKeyInvalid s e = true) :=
  ⟨{ queueOn [{ raw := 0x40 + 2 ^ 9 + 2 ^ 16 + 5 * 2 ^ 64 + 3 * 2 ^ 84 + 16 * 2 ^ 96 + 0x9000 * 2 ^ 192 }] with cip := { slots := [(5, 1)] } }, 3, 1, { raw := 0x40 + 2 ^ 9 + 2 ^ 16 + 5 * 2 ^ 64 + 3 * 2 ^ 84 + 16 * 2 ^ 96 + 0x9000 * 2 ^ 192 }, true, [1, 2], by decide +kernel⟩

theorem meets_CipherJobsAndKeys_19 : ∃ (s : State) (q sseq : Nat) (e : Entry) (_ : Bool) (_ _ : Bytes), (stopped s =
  false) ∧ (beginnable s q sseq 0x40 = some e) ∧ (e.at 8 20 4 = 4) ∧ (jobKeyInvalid s e = true) :=
  ⟨{ queueOn [{ raw := 0x40 + 2 ^ 9 + 2 ^ 16 + 5 * 2 ^ 64 + 4 * 2 ^ 84 + 16 * 2 ^ 96 + 0x9000 * 2 ^ 192 }] with cip := { slots := [(5, 1)] } }, 3, 1, { raw := 0x40 + 2 ^ 9 + 2 ^ 16 + 5 * 2 ^ 64 + 4 * 2 ^ 84 + 16 * 2 ^ 96 + 0x9000 * 2 ^ 192 }, true, [1, 2], [3], by decide +kernel⟩

theorem meets_CipherJobsAndKeys_20 : ∃ (s : State) (q sseq : Nat) (e : Entry) (_ _ : Bytes) (ps : List (List (Nat ×
  Nat))), (stopped s = false) ∧ (beginnable s q sseq 0x40 = some e) ∧ (e.at 8 20 4 = 0) ∧ (jobKeyInvalid s e = false)
  ∧ (fnLive s (queueFn s q) = true) ∧ (((jobReads s e).map fun r => translateRange s (queueFn s q) (e.at 8 27 1 = 1)
  r.1 r.2.1 r.2.2) = ps.map RangeXlat.ok) :=
  ⟨{ queueOn [{ raw := 0x40 + 2 ^ 9 + 2 ^ 16 + 5 * 2 ^ 64 + 0 * 2 ^ 84 + 16 * 2 ^ 96 + 0x9000 * 2 ^ 192 }] with cip := { slots := [(5, 1)] } }, 3, 1, { raw := 0x40 + 2 ^ 9 + 2 ^ 16 + 5 * 2 ^ 64 + 0 * 2 ^ 84 + 16 * 2 ^ 96 + 0x9000 * 2 ^ 192 }, [1, 2], [3], [[(0, 16)], [(0, 0)]], by decide +kernel⟩

theorem meets_CipherJobsAndKeys_21 : ∃ (s : State) (q sseq : Nat) (e : Entry) (_ _ _ : Bytes) (ps : List (List (Nat ×
  Nat))), (stopped s = false) ∧ (beginnable s q sseq 0x40 = some e) ∧ (e.at 8 20 4 = 1) ∧ (jobKeyInvalid s e = false)
  ∧ (fnLive s (queueFn s q) = true) ∧ (((jobReads s e).map fun r => translateRange s (queueFn s q) (e.at 8 27 1 = 1)
  r.1 r.2.1 r.2.2) = ps.map RangeXlat.ok) :=
  ⟨{ queueOn [{ raw := 0x40 + 2 ^ 9 + 2 ^ 16 + 5 * 2 ^ 64 + 1 * 2 ^ 84 + 16 * 2 ^ 96 + 0x9000 * 2 ^ 192 }] with cip := { slots := [(5, 1)] } }, 3, 1, { raw := 0x40 + 2 ^ 9 + 2 ^ 16 + 5 * 2 ^ 64 + 1 * 2 ^ 84 + 16 * 2 ^ 96 + 0x9000 * 2 ^ 192 }, [1, 2], [3], [3], [[(0, 32)], [(0, 0)]], by decide +kernel⟩

theorem meets_CipherJobsAndKeys_22 : ∃ (s : State) (q sseq : Nat) (e : Entry) (_ : Bytes) (ps : List (List (Nat ×
  Nat))), (stopped s = false) ∧ (beginnable s q sseq 0x40 = some e) ∧ (e.at 8 20 4 = 2) ∧ (jobKeyInvalid s e = false)
  ∧ (fnLive s (queueFn s q) = true) ∧ (((jobReads s e).map fun r => translateRange s (queueFn s q) (e.at 8 27 1 = 1)
  r.1 r.2.1 r.2.2) = ps.map RangeXlat.ok) :=
  ⟨{ queueOn [{ raw := 0x40 + 2 ^ 9 + 2 ^ 16 + 5 * 2 ^ 64 + 2 * 2 ^ 84 + 16 * 2 ^ 96 + 0x9000 * 2 ^ 192 }] with cip := { slots := [(5, 1)] } }, 3, 1, { raw := 0x40 + 2 ^ 9 + 2 ^ 16 + 5 * 2 ^ 64 + 2 * 2 ^ 84 + 16 * 2 ^ 96 + 0x9000 * 2 ^ 192 }, [1, 2], [[(0, 16)]], by decide +kernel⟩

theorem meets_CipherJobsAndKeys_23 : ∃ (s : State) (q sseq : Nat) (e : Entry) (_ : Bytes) (ps : List (List (Nat ×
  Nat))), (stopped s = false) ∧ (beginnable s q sseq 0x40 = some e) ∧ (e.at 8 20 4 = 3) ∧ (jobKeyInvalid s e = false)
  ∧ (fnLive s (queueFn s q) = true) ∧ (((jobReads s e).map fun r => translateRange s (queueFn s q) (e.at 8 27 1 = 1)
  r.1 r.2.1 r.2.2) = ps.map RangeXlat.ok) :=
  ⟨{ queueOn [{ raw := 0x40 + 2 ^ 9 + 2 ^ 16 + 5 * 2 ^ 64 + 3 * 2 ^ 84 + 16 * 2 ^ 96 + 0x9000 * 2 ^ 192 }] with cip := { slots := [(5, 6)] } }, 3, 1, { raw := 0x40 + 2 ^ 9 + 2 ^ 16 + 5 * 2 ^ 64 + 3 * 2 ^ 84 + 16 * 2 ^ 96 + 0x9000 * 2 ^ 192 }, [1, 2], [[(0, 16)]], by decide +kernel⟩

theorem meets_CipherJobsAndKeys_24 : ∃ (s : State) (q sseq : Nat) (e : Entry) (_ _ : Bytes) (ps : List (List (Nat ×
  Nat))), (stopped s = false) ∧ (beginnable s q sseq 0x40 = some e) ∧ (e.at 8 20 4 = 4) ∧ (jobKeyInvalid s e = false)
  ∧ (fnLive s (queueFn s q) = true) ∧ (((jobReads s e).map fun r => translateRange s (queueFn s q) (e.at 8 27 1 = 1)
  r.1 r.2.1 r.2.2) = ps.map RangeXlat.ok) :=
  ⟨{ queueOn [{ raw := 0x40 + 2 ^ 9 + 2 ^ 16 + 5 * 2 ^ 64 + 4 * 2 ^ 84 + 16 * 2 ^ 96 + 0x9000 * 2 ^ 192 }] with cip := { slots := [(5, 6)] } }, 3, 1, { raw := 0x40 + 2 ^ 9 + 2 ^ 16 + 5 * 2 ^ 64 + 4 * 2 ^ 84 + 16 * 2 ^ 96 + 0x9000 * 2 ^ 192 }, [1, 2], [3], [[(0, 16)], [(0x9000, 32)]], by decide +kernel⟩

theorem meets_CipherJobsAndKeys_25 : ∃ (s : State) (q sseq : Nat) (e : Entry) (_ _ : Bytes) (ps : List (List (Nat ×
  Nat))), (stopped s = false) ∧ (beginnable s q sseq 0x40 = some e) ∧ (e.at 8 20 4 = 0) ∧ (jobKeyInvalid s e = false)
  ∧ (fnLive s (queueFn s q) = true) ∧ (((jobReads s e).map fun r => translateRange s (queueFn s q) (e.at 8 27 1 = 1)
  r.1 r.2.1 r.2.2) = ps.map RangeXlat.ok) :=
  ⟨{ queueOn [{ raw := 0x40 + 2 ^ 9 + 2 ^ 16 + 5 * 2 ^ 64 + 0 * 2 ^ 84 + 16 * 2 ^ 96 + 0x9000 * 2 ^ 192 }] with cip := { slots := [(5, 1)] } }, 3, 1, { raw := 0x40 + 2 ^ 9 + 2 ^ 16 + 5 * 2 ^ 64 + 0 * 2 ^ 84 + 16 * 2 ^ 96 + 0x9000 * 2 ^ 192 }, [1, 2], [3], [[(0, 16)], [(0, 0)]], by decide +kernel⟩

theorem meets_CipherJobsAndKeys_26 : ∃ (s : State) (q sseq : Nat) (e : Entry) (_ _ _ : Bytes) (ps : List (List (Nat ×
  Nat))), (stopped s = false) ∧ (beginnable s q sseq 0x40 = some e) ∧ (e.at 8 20 4 = 1) ∧ (jobKeyInvalid s e = false)
  ∧ (fnLive s (queueFn s q) = true) ∧ (((jobReads s e).map fun r => translateRange s (queueFn s q) (e.at 8 27 1 = 1)
  r.1 r.2.1 r.2.2) = ps.map RangeXlat.ok) :=
  ⟨{ queueOn [{ raw := 0x40 + 2 ^ 9 + 2 ^ 16 + 5 * 2 ^ 64 + 1 * 2 ^ 84 + 16 * 2 ^ 96 + 0x9000 * 2 ^ 192 }] with cip := { slots := [(5, 1)] } }, 3, 1, { raw := 0x40 + 2 ^ 9 + 2 ^ 16 + 5 * 2 ^ 64 + 1 * 2 ^ 84 + 16 * 2 ^ 96 + 0x9000 * 2 ^ 192 }, [1, 2], [3], [3], [[(0, 32)], [(0, 0)]], by decide +kernel⟩

theorem meets_CipherJobsAndKeys_27 : ∃ (s : State) (q sseq : Nat) (e : Entry) (_ : Bytes) (ps : List (List (Nat ×
  Nat))), (stopped s = false) ∧ (beginnable s q sseq 0x40 = some e) ∧ (e.at 8 20 4 = 2) ∧ (jobKeyInvalid s e = false)
  ∧ (fnLive s (queueFn s q) = true) ∧ (((jobReads s e).map fun r => translateRange s (queueFn s q) (e.at 8 27 1 = 1)
  r.1 r.2.1 r.2.2) = ps.map RangeXlat.ok) :=
  ⟨{ queueOn [{ raw := 0x40 + 2 ^ 9 + 2 ^ 16 + 5 * 2 ^ 64 + 2 * 2 ^ 84 + 16 * 2 ^ 96 + 0x9000 * 2 ^ 192 }] with cip := { slots := [(5, 1)] } }, 3, 1, { raw := 0x40 + 2 ^ 9 + 2 ^ 16 + 5 * 2 ^ 64 + 2 * 2 ^ 84 + 16 * 2 ^ 96 + 0x9000 * 2 ^ 192 }, [1, 2], [[(0, 16)]], by decide +kernel⟩

theorem meets_CipherJobsAndKeys_28 : ∃ (s : State) (q sseq : Nat) (e : Entry) (_ : Bytes) (ps : List (List (Nat ×
  Nat))), (stopped s = false) ∧ (beginnable s q sseq 0x40 = some e) ∧ (e.at 8 20 4 = 3) ∧ (jobKeyInvalid s e = false)
  ∧ (fnLive s (queueFn s q) = true) ∧ (((jobReads s e).map fun r => translateRange s (queueFn s q) (e.at 8 27 1 = 1)
  r.1 r.2.1 r.2.2) = ps.map RangeXlat.ok) :=
  ⟨{ queueOn [{ raw := 0x40 + 2 ^ 9 + 2 ^ 16 + 5 * 2 ^ 64 + 3 * 2 ^ 84 + 16 * 2 ^ 96 + 0x9000 * 2 ^ 192 }] with cip := { slots := [(5, 6)] } }, 3, 1, { raw := 0x40 + 2 ^ 9 + 2 ^ 16 + 5 * 2 ^ 64 + 3 * 2 ^ 84 + 16 * 2 ^ 96 + 0x9000 * 2 ^ 192 }, [1, 2], [[(0, 16)]], by decide +kernel⟩

theorem meets_CipherJobsAndKeys_29 : ∃ (s : State) (q sseq : Nat) (e : Entry) (_ _ : Bytes) (ps : List (List (Nat ×
  Nat))), (stopped s = false) ∧ (beginnable s q sseq 0x40 = some e) ∧ (e.at 8 20 4 = 4) ∧ (jobKeyInvalid s e = false)
  ∧ (fnLive s (queueFn s q) = true) ∧ (((jobReads s e).map fun r => translateRange s (queueFn s q) (e.at 8 27 1 = 1)
  r.1 r.2.1 r.2.2) = ps.map RangeXlat.ok) :=
  ⟨{ queueOn [{ raw := 0x40 + 2 ^ 9 + 2 ^ 16 + 5 * 2 ^ 64 + 4 * 2 ^ 84 + 16 * 2 ^ 96 + 0x9000 * 2 ^ 192 }] with cip := { slots := [(5, 6)] } }, 3, 1, { raw := 0x40 + 2 ^ 9 + 2 ^ 16 + 5 * 2 ^ 64 + 4 * 2 ^ 84 + 16 * 2 ^ 96 + 0x9000 * 2 ^ 192 }, [1, 2], [3], [[(0, 16)], [(0x9000, 32)]], by decide +kernel⟩

theorem meets_CipherJobsAndKeys_30 : ∃ (s : State) (q sseq : Nat) (e : Entry) (u : State), (stopped s = false) ∧
  (beginnable s q sseq 0x41 = some e) ∧ (keyLoadInvalid (begin_ s q sseq) q e = false) ∧ (u = writeKey (begin_ s q
  sseq) (e.at 8 0 20) (if e.at 8 20 1 = 1 then 0 else loadedSlot (begin_ s q sseq) e) (queueAccount (begin_ s q sseq)
  q)) :=
  ⟨(withRegs { queueOn [{ raw := 0x41 + 4 * 2 ^ 8 + 2 ^ 16 + 5 * 2 ^ 64 + 2 ^ 256 + 99 * 2 ^ 512 }] with areas := { key := 1 } } [(CIP_KEY_BLOCK.valid, 0, 1)]), 3, 1, { raw := 0x41 + 4 * 2 ^ 8 + 2 ^ 16 + 5 * 2 ^ 64 + 2 ^ 256 + 99 * 2 ^ 512 }, writeKey (begin_ (withRegs { queueOn [{ raw := 0x41 + 4 * 2 ^ 8 + 2 ^ 16 + 5 * 2 ^ 64 + 2 ^ 256 + 99 * 2 ^ 512 }] with areas := { key := 1 } } [(CIP_KEY_BLOCK.valid, 0, 1)]) 3 1) 5 (loadedSlot (begin_ (withRegs { queueOn [{ raw := 0x41 + 4 * 2 ^ 8 + 2 ^ 16 + 5 * 2 ^ 64 + 2 ^ 256 + 99 * 2 ^ 512 }] with areas := { key := 1 } } [(CIP_KEY_BLOCK.valid, 0, 1)]) 3 1) { raw := 0x41 + 4 * 2 ^ 8 + 2 ^ 16 + 5 * 2 ^ 64 + 2 ^ 256 + 99 * 2 ^ 512 }) 0, by decide +kernel⟩

theorem meets_CipherJobsAndKeys_31 : ∃ (s : State) (q sseq : Nat) (e : Entry), (stopped s = false) ∧ (beginnable s q
  sseq 0x41 = some e) ∧ (keyLoadInvalid (begin_ s q sseq) q e = true) :=
  ⟨queueOn [{ raw := 0x41 + 4 * 2 ^ 8 + 2 ^ 16 + 5 * 2 ^ 64 + 2 ^ 256 + 99 * 2 ^ 512 }], 3, 1, { raw := 0x41 + 4 * 2 ^ 8 + 2 ^ 16 + 5 * 2 ^ 64 + 2 ^ 256 + 99 * 2 ^ 512 }, by decide +kernel⟩

theorem meets_CipherJobsAndKeys_32 : ∃ (s : State) (q sseq : Nat) (e : Entry), (stopped s = false) ∧ (entryOf s q sseq
  = some e) ∧ (e.op = 0x41) ∧ (e.mark ≠ 0) ∧ (boundEarlier s (e.at 8 0 20) (e.mark - 1) = false) :=
  ⟨queueOn [{ raw := 0x41 + 4 * 2 ^ 8 + 2 ^ 16 + 5 * 2 ^ 64 + 2 ^ 256 + 99 * 2 ^ 512, begun := true, mark := 4 }], 3, 1, { raw := 0x41 + 4 * 2 ^ 8 + 2 ^ 16 + 5 * 2 ^ 64 + 2 ^ 256 + 99 * 2 ^ 512, begun := true, mark := 4 }, by decide +kernel⟩

theorem meets_CipherJobsAndKeys_33 : ∃ (s t : State), (stopped s = false) ∧ (enabled s .cip = true) ∧ (t = wakeAhead
  24 s) ∧ (jobsOfClass t 7 ≠ []) :=
  ⟨(withRegs { queueOn [{ raw := 0x40 + 2 ^ 9 + 2 ^ 16 + 5 * 2 ^ 64 + 0 * 2 ^ 84 + 16 * 2 ^ 96 + 0x9000 * 2 ^ 192 + 7 * 2 ^ 88, begun := true }] with cip := { jobs := [⟨3, 1, [7], [], []⟩] } } [(enableField .cip, 0, 1)]), (withRegs { queueOn [{ raw := 0x40 + 2 ^ 9 + 2 ^ 16 + 5 * 2 ^ 64 + 0 * 2 ^ 84 + 16 * 2 ^ 96 + 0x9000 * 2 ^ 192 + 7 * 2 ^ 88, begun := true }] with cip := { jobs := [⟨3, 1, [7], [], []⟩] } } [(enableField .cip, 0, 1)]), by decide +kernel⟩

theorem meets_CipherJobsAndKeys_34 : ∃ (s t : State), (stopped s = false) ∧ (enabled s .cip = true) ∧ (t = wakeAhead
  24 s) ∧ (jobsOfClass t 7 = []) ∧ (atCipher t 0 ≠ [] ∨ atCipher t 1 ≠ []) :=
  ⟨(withRegs { queueOn [{ raw := 0x40 + 2 ^ 9 + 2 ^ 16 + 5 * 2 ^ 64 + 0 * 2 ^ 84 + 16 * 2 ^ 96 + 0x9000 * 2 ^ 192 + 7 * 2 ^ 88, begun := true }] with pp := { passes := [(0, [{ pkt := {}, orig := {}, esp := some (.encrypt 5 1) }])] } } [(enableField .cip, 0, 1)]), (withRegs { queueOn [{ raw := 0x40 + 2 ^ 9 + 2 ^ 16 + 5 * 2 ^ 64 + 0 * 2 ^ 84 + 16 * 2 ^ 96 + 0x9000 * 2 ^ 192 + 7 * 2 ^ 88, begun := true }] with pp := { passes := [(0, [{ pkt := {}, orig := {}, esp := some (.encrypt 5 1) }])] } } [(enableField .cip, 0, 1)]), by decide +kernel⟩

theorem meets_CipherJobsAndKeys_35 : ∃ (s t : State) (x : XtsWork) (r : List XtsWork), (stopped s = false) ∧ (enabled
  s .cip = true) ∧ (t = wakeAhead 24 s) ∧ (jobsOfClass t 7 = []) ∧ (atCipher t 0 = []) ∧ (atCipher t 1 = []) ∧
  (t.cip.xts = x :: r) :=
  ⟨(withRegs { queueOn [{ raw := 0x40 + 2 ^ 9 + 2 ^ 16 + 5 * 2 ^ 64 + 0 * 2 ^ 84 + 16 * 2 ^ 96 + 0x9000 * 2 ^ 192 + 7 * 2 ^ 88, begun := true }] with cip := { xts := [⟨3, 1, true, 5, 512, 0, 1, 0⟩] } } [(enableField .cip, 0, 1)]), (withRegs { queueOn [{ raw := 0x40 + 2 ^ 9 + 2 ^ 16 + 5 * 2 ^ 64 + 0 * 2 ^ 84 + 16 * 2 ^ 96 + 0x9000 * 2 ^ 192 + 7 * 2 ^ 88, begun := true }] with cip := { xts := [⟨3, 1, true, 5, 512, 0, 1, 0⟩] } } [(enableField .cip, 0, 1)]), ⟨3, 1, true, 5, 512, 0, 1, 0⟩, [], by decide +kernel⟩

theorem meets_CipherJobsAndKeys_36 : ∃ (s t : State), (stopped s = false) ∧ (enabled s .cip = true) ∧ (t = wakeAhead
  24 s) ∧ (jobsOfClass t 7 = []) ∧ (atCipher t 0 = []) ∧ (atCipher t 1 = []) ∧ (t.cip.xts = []) :=
  ⟨(withRegs { queueOn [{ raw := 0x40 + 2 ^ 9 + 2 ^ 16 + 5 * 2 ^ 64 + 0 * 2 ^ 84 + 16 * 2 ^ 96 + 0x9000 * 2 ^ 192 + 7 * 2 ^ 88, begun := true }] with cip := {} } [(enableField .cip, 0, 1)]), (withRegs { queueOn [{ raw := 0x40 + 2 ^ 9 + 2 ^ 16 + 5 * 2 ^ 64 + 0 * 2 ^ 84 + 16 * 2 ^ 96 + 0x9000 * 2 ^ 192 + 7 * 2 ^ 88, begun := true }] with cip := {} } [(enableField .cip, 0, 1)]), by decide +kernel⟩

theorem meets_CipherJobsAndKeys_37 : ∃ (s s1 u : State) (c k : Nat) (j : CipJob) (e : Entry), (coreFor s (jobClass s
  j.queue e) = some (c, s1)) ∧ (e.at 8 0 20 = k) ∧ (e.at 8 20 4 ≠ 2) ∧ (jobKeyInvalid s e = false) ∧ (takeCount s1 k =
  .taken u) :=
  ⟨(withRegs { queueOn [{ raw := 0x40 + 2 ^ 9 + 2 ^ 16 + 5 * 2 ^ 64 + 0 * 2 ^ 84 + 16 * 2 ^ 96 + 0x9000 * 2 ^ 192 + 7 * 2 ^ 88, begun := true }] with cip := { slots := [(5, 1 + 99 * 2 ^ 64)], jobs := [⟨3, 1, [7], [], []⟩], cores := (List.range 24).map fun c => (c, some ⟨.job 4 1, none, 0, 0, [], [], [], false, 0, 1, 0, 0⟩) } } [(enableField .cip, 0, 1)]), ((coreFor (withRegs { queueOn [{ raw := 0x40 + 2 ^ 9 + 2 ^ 16 + 5 * 2 ^ 64 + 0 * 2 ^ 84 + 16 * 2 ^ 96 + 0x9000 * 2 ^ 192 + 7 * 2 ^ 88, begun := true }] with cip := { slots := [(5, 1 + 99 * 2 ^ 64)], jobs := [⟨3, 1, [7], [], []⟩], cores := (List.range 24).map fun c => (c, some ⟨.job 4 1, none, 0, 0, [], [], [], false, 0, 1, 0, 0⟩) } } [(enableField .cip, 0, 1)]) 7).get (by decide +kernel)).2, putSlot ((coreFor (withRegs { queueOn [{ raw := 0x40 + 2 ^ 9 + 2 ^ 16 + 5 * 2 ^ 64 + 0 * 2 ^ 84 + 16 * 2 ^ 96 + 0x9000 * 2 ^ 192 + 7 * 2 ^ 88, begun := true }] with cip := { slots := [(5, 1 + 99 * 2 ^ 64)], jobs := [⟨3, 1, [7], [], []⟩], cores := (List.range 24).map fun c => (c, some ⟨.job 4 1, none, 0, 0, [], [], [], false, 0, 1, 0, 0⟩) } } [(enableField .cip, 0, 1)]) 7).get (by decide +kernel)).2 5 96 32 1, 0, 5, ⟨3, 1, [7], [], []⟩, { raw := 0x40 + 2 ^ 9 + 2 ^ 16 + 5 * 2 ^ 64 + 0 * 2 ^ 84 + 16 * 2 ^ 96 + 0x9000 * 2 ^ 192 + 7 * 2 ^ 88, begun := true }, by decide +kernel⟩

theorem meets_CipherJobsAndKeys_38 : ∃ (s s1 u : State) (c k : Nat) (j : CipJob) (e : Entry), (coreFor s (jobClass s
  j.queue e) = some (c, s1)) ∧ (e.at 8 0 20 = k) ∧ (e.at 8 20 4 ≠ 2) ∧ (jobKeyInvalid s e = false) ∧ (takeCount s1 k =
  .refused u) :=
  ⟨(withRegs { queueOn [{ raw := 0x40 + 2 ^ 9 + 2 ^ 16 + 5 * 2 ^ 64 + 0 * 2 ^ 84 + 16 * 2 ^ 96 + 0x9000 * 2 ^ 192 + 7 * 2 ^ 88, begun := true }] with cip := { slots := [(5, 1)], jobs := [⟨3, 1, [7], [], []⟩], cores := (List.range 24).map fun c => (c, some ⟨.job 4 1, none, 0, 0, [], [], [], false, 0, 1, 0, 0⟩) } } [(enableField .cip, 0, 1)]), ((coreFor (withRegs { queueOn [{ raw := 0x40 + 2 ^ 9 + 2 ^ 16 + 5 * 2 ^ 64 + 0 * 2 ^ 84 + 16 * 2 ^ 96 + 0x9000 * 2 ^ 192 + 7 * 2 ^ 88, begun := true }] with cip := { slots := [(5, 1)], jobs := [⟨3, 1, [7], [], []⟩], cores := (List.range 24).map fun c => (c, some ⟨.job 4 1, none, 0, 0, [], [], [], false, 0, 1, 0, 0⟩) } } [(enableField .cip, 0, 1)]) 7).get (by decide +kernel)).2, refuseCount ((coreFor (withRegs { queueOn [{ raw := 0x40 + 2 ^ 9 + 2 ^ 16 + 5 * 2 ^ 64 + 0 * 2 ^ 84 + 16 * 2 ^ 96 + 0x9000 * 2 ^ 192 + 7 * 2 ^ 88, begun := true }] with cip := { slots := [(5, 1)], jobs := [⟨3, 1, [7], [], []⟩], cores := (List.range 24).map fun c => (c, some ⟨.job 4 1, none, 0, 0, [], [], [], false, 0, 1, 0, 0⟩) } } [(enableField .cip, 0, 1)]) 7).get (by decide +kernel)).2 5, 0, 5, ⟨3, 1, [7], [], []⟩, { raw := 0x40 + 2 ^ 9 + 2 ^ 16 + 5 * 2 ^ 64 + 0 * 2 ^ 84 + 16 * 2 ^ 96 + 0x9000 * 2 ^ 192 + 7 * 2 ^ 88, begun := true }, by decide +kernel⟩

theorem meets_CipherJobsAndKeys_39 : ∃ (s : State) (c q sseq : Nat) (u : CoreUnit) (e : Entry), (stopped s = false) ∧
  (coreUnit s c = some u) ∧ (u.work = .job q sseq) ∧ (entryOf s q sseq = some e) ∧ (e.outcome = none) ∧ (e.decided =
  none) :=
  ⟨(let s := queueOn [{ raw := 0x40 + 2 ^ 9 + 2 ^ 16 + 5 * 2 ^ 64 + 2 * 2 ^ 84 + 16 * 2 ^ 96 + 0x9000 * 2 ^ 192, begun := true }]; { s with cip := { cores := [(7, some ⟨.job 3 1, none, 0, 0, [7], [], [], false, 0, 4, 0, 0⟩)] } }), 7, 3, 1, ⟨.job 3 1, none, 0, 0, [7], [], [], false, 0, 4, 0, 0⟩, { raw := 0x40 + 2 ^ 9 + 2 ^ 16 + 5 * 2 ^ 64 + 2 * 2 ^ 84 + 16 * 2 ^ 96 + 0x9000 * 2 ^ 192, begun := true }, by decide +kernel⟩

theorem meets_CipherJobsAndKeys_40 : ∃ (s : State) (c q sseq : Nat) (u : CoreUnit) (e : Entry), (stopped s = false) ∧
  (coreUnit s c = some u) ∧ (u.work = .job q sseq) ∧ (entryOf s q sseq = some e) ∧ (e.outcome = none) ∧ (e.decided =
  none) ∧ (((entryOf (endJob s q sseq e u true) q sseq).all fun y => y.outcome.isSome) = true) :=
  ⟨(let s := queueOn [{ raw := 0x40 + 2 ^ 9 + 2 ^ 16 + 5 * 2 ^ 64 + 2 * 2 ^ 84 + 16 * 2 ^ 96 + 0x9000 * 2 ^ 192, begun := true }]; { s with cip := { cores := [(7, some ⟨.job 3 1, none, 0, 0, [7], [], [], false, 0, 4, 0, 0⟩)] } }), 7, 3, 1, ⟨.job 3 1, none, 0, 0, [7], [], [], false, 0, 4, 0, 0⟩, { raw := 0x40 + 2 ^ 9 + 2 ^ 16 + 5 * 2 ^ 64 + 2 * 2 ^ 84 + 16 * 2 ^ 96 + 0x9000 * 2 ^ 192, begun := true }, by decide +kernel⟩

theorem meets_CipherJobsAndKeys_41 : ∃ (s : State) (c q sseq : Nat) (u : CoreUnit) (e : Entry), (stopped s = false) ∧
  (coreUnit s c = some u) ∧ (u.work = .job q sseq) ∧ (entryOf s q sseq = some e) ∧ (e.outcome = none) ∧ (e.decided =
  none) ∧ (((entryOf (endJob s q sseq e u false) q sseq).all fun y => y.outcome.isSome) = true) :=
  ⟨(let s := queueOn [{ raw := 0x40 + 2 ^ 9 + 2 ^ 16 + 5 * 2 ^ 64 + 2 * 2 ^ 84 + 16 * 2 ^ 96 + 0x9000 * 2 ^ 192, begun := true }]; { s with cip := { cores := [(7, some ⟨.job 3 1, none, 0, 0, [7], [], [], false, 0, 4, 0, 0⟩)] } }), 7, 3, 1, ⟨.job 3 1, none, 0, 0, [7], [], [], false, 0, 4, 0, 0⟩, { raw := 0x40 + 2 ^ 9 + 2 ^ 16 + 5 * 2 ^ 64 + 2 * 2 ^ 84 + 16 * 2 ^ 96 + 0x9000 * 2 ^ 192, begun := true }, by decide +kernel⟩

theorem meets_CipherJobsAndKeys_42 : ∃ (s : State) (c q sseq i : Nat) (u : CoreUnit) (t : State), (stopped s = false)
  ∧ (coreUnit s c = some u) ∧ (u.work = .xts q sseq i) ∧ (t = (releaseCore (chargeUnit s c u) c).count CIP_CNT.count 1
  3) :=
  ⟨{ State.reset with cip := { cores := [(7, some ⟨.xts 3 1 0, some 5, 0, 3, [7], [], [], true, 0, 5, 0, 0⟩)] } }, 7, 3, 1, 0, ⟨.xts 3 1 0, some 5, 0, 3, [7], [], [], true, 0, 5, 0, 0⟩, (releaseCore (chargeUnit { State.reset with cip := { cores := [(7, some ⟨.xts 3 1 0, some 5, 0, 3, [7], [], [], true, 0, 5, 0, 0⟩)] } } 7 ⟨.xts 3 1 0, some 5, 0, 3, [7], [], [], true, 0, 5, 0, 0⟩) 7).count CIP_CNT.count 1 3, by decide +kernel⟩

theorem meets_CipherJobsAndKeys_43 : ∃ (s : State) (c q sseq i : Nat) (u : CoreUnit) (t : State), (stopped s = false)
  ∧ (coreUnit s c = some u) ∧ (u.work = .xts q sseq i) ∧ (t = (releaseCore (chargeUnit s c u) c).count CIP_CNT.count 1
  3) ∧ (u.enc = true) :=
  ⟨{ State.reset with cip := { cores := [(7, some ⟨.xts 3 1 0, some 5, 0, 3, [7], [], [], true, 0, 5, 0, 0⟩)] } }, 7, 3, 1, 0, ⟨.xts 3 1 0, some 5, 0, 3, [7], [], [], true, 0, 5, 0, 0⟩, (releaseCore (chargeUnit { State.reset with cip := { cores := [(7, some ⟨.xts 3 1 0, some 5, 0, 3, [7], [], [], true, 0, 5, 0, 0⟩)] } } 7 ⟨.xts 3 1 0, some 5, 0, 3, [7], [], [], true, 0, 5, 0, 0⟩) 7).count CIP_CNT.count 1 3, by decide +kernel⟩

theorem meets_CipherJobsAndKeys_44 : ∃ (s : State) (c q sseq i : Nat) (u : CoreUnit) (t : State), (stopped s = false)
  ∧ (coreUnit s c = some u) ∧ (u.work = .xts q sseq i) ∧ (t = (releaseCore (chargeUnit s c u) c).count CIP_CNT.count 1
  3) ∧ (u.enc = false) :=
  ⟨{ State.reset with cip := { cores := [(7, some ⟨.xts 3 1 0, some 5, 0, 3, [7], [], [], false, 0, 5, 0, 0⟩)] } }, 7, 3, 1, 0, ⟨.xts 3 1 0, some 5, 0, 3, [7], [], [], false, 0, 5, 0, 0⟩, (releaseCore (chargeUnit { State.reset with cip := { cores := [(7, some ⟨.xts 3 1 0, some 5, 0, 3, [7], [], [], false, 0, 5, 0, 0⟩)] } } 7 ⟨.xts 3 1 0, some 5, 0, 3, [7], [], [], false, 0, 5, 0, 0⟩) 7).count CIP_CNT.count 1 3, by decide +kernel⟩

theorem meets_CipherJobsAndKeys_45 : ∃ (s : State) (who : Initiator) (k : Nat), (stopped s = false) ∧ (writable who
  CIP_KCMD.go 0 s = true) ∧ (s.rd CIP_KCMD.slot = k) ∧ (slotUsable s k = true) ∧ (s.rd CIP_KCMD.limit < slotLimit
  (slotImage s k)) :=
  ⟨({ State.reset with areas := { key := 1 }, cip := { slots := [(5, 1 + 99 * 2 ^ 64)] } } : State).wr CIP_KCMD.slot 5, .host 0, 5, by decide +kernel⟩

theorem meets_CipherJobsAndKeys_46 : ∃ (s : State) (who : Initiator), (stopped s = false) ∧ (writable who CIP_KCMD.go
  0 s = true) ∧ (slotUsable s (s.rd CIP_KCMD.slot) = true) ∧ (slotLimit (slotImage s (s.rd CIP_KCMD.slot)) ≤ s.rd
  CIP_KCMD.limit) :=
  ⟨({ State.reset with areas := { key := 1 } } : State).wr CIP_KCMD.slot 5, .host 0, by decide +kernel⟩

theorem meets_CipherJobsAndKeys_47 : ∃ (s : State) (who : Initiator), (stopped s = false) ∧ (writable who CIP_KCMD.go
  0 s = true) ∧ (slotUsable s (s.rd CIP_KCMD.slot) = false) :=
  ⟨State.reset, .host 0, by decide +kernel⟩

theorem meets_CipherJobsAndKeys_48 : ∃ (s : State) (who : Initiator), (stopped s = false) ∧ (reaches who Blk.cip.base
  = true) :=
  ⟨{ State.reset with cip := { keyq := [0x100005, 0x200006] } }, .host 0, by decide +kernel⟩

theorem meets_CipherJobsAndKeys_49 : ∃ (s : State) (c q sseq : Nat) (u : CoreUnit) (_ _ : Bool), (stopped s = false) ∧
  (coreUnit s c = some u) ∧ (u.work = .job q sseq) ∧ (entryOf s q sseq = none) :=
  ⟨(let s := queueOn []; { s with cip := { cores := [(7, some ⟨.job 3 1, none, 0, 0, [7], [], [], false, 0, 4, 0, 0⟩)] } }), 7, 3, 1, ⟨.job 3 1, none, 0, 0, [7], [], [], false, 0, 4, 0, 0⟩, true, true, by decide +kernel⟩

theorem meets_CipherJobsAndKeys_50 : ∃ (s : State) (c q sseq : Nat) (u : CoreUnit) (_ _ : Bool), (stopped s = false) ∧
  (coreUnit s c = some u) ∧ (u.work = .job q sseq) ∧ ((entryOf s q sseq).any (fun e => e.outcome.isSome ||
  e.decided.isSome) = true) :=
  ⟨(let s := queueOn [{ raw := 0x40 + 2 ^ 9 + 2 ^ 16 + 5 * 2 ^ 64 + 2 * 2 ^ 84 + 16 * 2 ^ 96 + 0x9000 * 2 ^ 192, begun := true, outcome := some { status := 4 } }]; { s with cip := { cores := [(7, some ⟨.job 3 1, none, 0, 0, [7], [], [], false, 0, 4, 0, 0⟩)] } }), 7, 3, 1, ⟨.job 3 1, none, 0, 0, [7], [], [], false, 0, 4, 0, 0⟩, true, true, by decide +kernel⟩

theorem meets_CipherJobsAndKeys_51 : ∃ (s : State) (q _ : Nat) (e : Entry) (u : CoreUnit) (ps : List (Nat × Nat)),
  (fnLive s (queueFn s q) = true) ∧ (translateRange s (queueFn s q) (e.at 8 27 1 = 1) (e.at 0x18 0 64) (jobResult e
  u).1.length true = .ok ps) ∧ ((jobResult e u).2 = true) ∧ (jobOverlaps e u (jobResult e u).1.length = false) :=
  ⟨(let s := queueOn [{ raw := 0x40 + 2 ^ 9 + 2 ^ 16 + 5 * 2 ^ 64 + 2 * 2 ^ 84 + 16 * 2 ^ 96 + 0x9000 * 2 ^ 192, begun := true }]; { s with cip := { cores := [(7, some ⟨.job 3 1, none, 0, 0, [7], [], [], false, 0, 4, 0, 0⟩)] } }), 3, 1, { raw := 0x40 + 2 ^ 9 + 2 ^ 16 + 5 * 2 ^ 64 + 2 * 2 ^ 84 + 16 * 2 ^ 96 + 0x9000 * 2 ^ 192, begun := true }, ⟨.job 3 1, none, 0, 0, [7], [], [], false, 0, 4, 0, 0⟩, [(0x9000, 32)], by decide +kernel⟩

theorem meets_CipherJobsAndKeys_52 : ∃ (s : State) (q _ : Nat) (e : Entry) (u : CoreUnit) (ps : List (Nat × Nat)),
  (fnLive s (queueFn s q) = true) ∧ (translateRange s (queueFn s q) (e.at 8 27 1 = 1) (e.at 0x18 0 64) (jobResult e
  u).1.length true = .ok ps) ∧ ((jobResult e u).2 = false) :=
  ⟨(let s := queueOn [{ raw := 0x40 + 2 ^ 9 + 2 ^ 16 + 5 * 2 ^ 64 + 2 * 2 ^ 84 + 16 * 2 ^ 96 + 0x9000 * 2 ^ 192, begun := true }]; { s with cip := { cores := [(7, some ⟨.job 3 1, none, 0, 0, [7], [], [], false, 0, 4, 0, 0⟩)] } }), 3, 1, { raw := 0x40 + 2 ^ 9 + 2 ^ 16 + 5 * 2 ^ 64 + 4 * 2 ^ 84 + 16 * 2 ^ 96 + 0x9000 * 2 ^ 192, begun := true }, ⟨.job 3 1, none, 0, 0, [7], [], [], false, 0, 4, 0, 0⟩, [(0x9000, 0)], by decide +kernel⟩

theorem meets_ChainBlocksAndAssignment_1 : ∃ (s : State) (q sseq c : Nat) (e : Entry), (stopped s = false) ∧ (enabled
  s .dma = true) ∧ (s.dma.waitCmd = none) ∧ (s.dma.dispatch = [(q, sseq)]) ∧ (entryOf s q sseq = some e) ∧ (e.outcome
  = none) ∧ (e.decided = none) ∧ (poolChannel s = some c) ∧ (mayBegin s e = true) ∧ (eligible s (queueAccount s q) =
  true) :=
  ⟨(let s := dmaOn 0 {} (queueOn [{ raw := 0x10250 }]); { s with dma := { s.dma with dispatch := [(3, 1)] } }), 3, 1, 64, { raw := 0x10250 }, by decide +kernel⟩

theorem meets_ChainBlocksAndAssignment_2 : ∃ (s : State) (q sseq c : Nat) (e : Entry), (stopped s = false) ∧ (chanOf s
  q sseq = some c) ∧ (entryOf s q sseq = some e) ∧ (e.op = 0x50) ∧ ((chan s c).started = false) ∧ (chanReady s c =
  true) ∧ (e.at 0x1C 0 2 = 0) ∧ (e.at 0x18 0 30 ≠ 0) :=
  ⟨dmaOn 1 { owner := some (3, 1) } (queueOn [{ raw := 0x10250 + 9 * 2 ^ 64 + 7 * 2 ^ 128 + 100 * 2 ^ 192, begun := true }]), 3, 1, 5, { raw := 0x10250 + 9 * 2 ^ 64 + 7 * 2 ^ 128 + 100 * 2 ^ 192, begun := true }, by decide +kernel⟩

theorem meets_ChainBlocksAndAssignment_3 : ∃ (s : State) (q sseq c : Nat) (e : Entry), (stopped s = false) ∧ (chanOf s
  q sseq = some c) ∧ (entryOf s q sseq = some e) ∧ (e.op = 0x51) ∧ ((chan s c).started = false) ∧ (chanReady s c =
  true) ∧ (e.at 0x10 0 1 = 1) :=
  ⟨dmaOn 1 { owner := some (3, 1) } (queueOn [{ raw := 0x10251 + 0x10000001000 * 2 ^ 64 + 2 ^ 128, begun := true }]), 3, 1, 5, { raw := 0x10251 + 0x10000001000 * 2 ^ 64 + 2 ^ 128, begun := true }, by decide +kernel⟩

theorem meets_ChainBlocksAndAssignment_4 : ∃ (s : State) (c : Nat) (_ : Bool) (_ : Bytes), (stopped s = false) ∧ (c <
  256) ∧ ((chan s c).fetching = true) ∧ ((chan s c).ending = none) ∧ ((chan s c).space = true) ∧ (rangeExists s (s.rd
  DMA_CHAN.block c) 128 = true) ∧ (internalAllowed s c = true) ∧ (memBad s (s.rd DMA_CHAN.block c) 128 = false) ∧
  (placed s (s.rd DMA_CHAN.block c) 128 = false) ∧ ((ofLe (memLoad s (s.rd DMA_CHAN.block c) 128)).testBit 0 = true)
  :=
  ⟨memStore (dmaOn 1 { space := true, fetching := true } hostOn) 0x10000001000 [1], 5, true, [], by decide +kernel⟩

theorem meets_ChainBlocksAndAssignment_5 : ∃ (s : State) (c : Nat) (_ : Bool) (_ : Bytes), (stopped s = false) ∧ (c <
  256) ∧ ((chan s c).fetching = true) ∧ ((chan s c).ending = none) ∧ ((chan s c).space = true) ∧ (rangeExists s (s.rd
  DMA_CHAN.block c) 128 = true) ∧ (internalAllowed s c = true) ∧ (memBad s (s.rd DMA_CHAN.block c) 128 = false) ∧
  (placed s (s.rd DMA_CHAN.block c) 128 = false) ∧ ((ofLe (memLoad s (s.rd DMA_CHAN.block c) 128)).testBit 0 = false)
  :=
  ⟨dmaOn 1 { space := true, fetching := true } hostOn, 5, true, [], by decide +kernel⟩

theorem meets_ChainBlocksAndAssignment_6 : ∃ (s : State) (c tt : Nat), (stopped s = false) ∧ (enabled s .dma = true) ∧
  ((chan s c).wait = .link tt) ∧ (tt + max 100 (s.rd DMA_CFG.poll_ns) ≤ now s) ∧ ((chan s c).fetching = false) ∧
  ((chan s c).space = true) :=
  ⟨(let s := dmaOn 2 { space := true, wait := .link 5 } hostOn; { s with tt := { tt := 1005 } }), 5, 5, by decide +kernel⟩

theorem meets_ChainBlocksAndAssignment_7 : ∃ (s : State) (c k x : Nat), (stopped s = false) ∧ (instrOf s c 0 = some
  (k, x)) ∧ (movesVisible s c = true) ∧ ((chan s c).space = true) ∧ (placed s (s.rd DMA_CHAN.block c) 4 = false) ∧
  (placed s (s.rd DMA_CHAN.block c + 4) 12 = false) :=
  ⟨withRegs (dmaOn 1 { block := some (1 + (0) * 2 ^ 512), space := true } hostOn) [(DMA_CHAN.slot, 5, 3)], 5, 3, 0, by decide +kernel⟩

theorem meets_ChainBlocksAndAssignment_8 : ∃ (s : State) (c b k x : Nat), (stopped s = false) ∧ (chanInstr s c = some
  (b, k, x)) ∧ (badInstr b k = true) ∧ (movesVisible s c = true) ∧ ((chan s c).space = true) ∧ (placed s (s.rd
  DMA_CHAN.block c) 4 = false) ∧ (placed s (s.rd DMA_CHAN.block c + 4) 12 = false) :=
  ⟨withRegs (dmaOn 1 { block := some (1 + (7) * 2 ^ 512), space := true } hostOn) [(DMA_CHAN.slot, 5, 3)], 5, 1 + (7) * 2 ^ 512, 3, 7, by decide +kernel⟩

theorem meets_ChainBlocksAndAssignment_9 : ∃ (s : State) (c k x : Nat), (stopped s = false) ∧ (instrOf s c 6 = some
  (k, x)) ∧ (movesVisible s c = true) ∧ ((chan s c).space = true) ∧ (placed s (s.rd DMA_CHAN.block c) 4 = false) ∧
  (placed s (s.rd DMA_CHAN.block c + 4) 12 = false) ∧ (bitAt x 7 = true) ∧ (internalAllowed s c = true) ∧ (rangeExists
  s (bitsAt x 64 64) 128 = true) :=
  ⟨withRegs (dmaOn 1 { block := some (1 + (6 + 2 ^ 7 + 0x10000002000 * 2 ^ 64) * 2 ^ 128), space := true } hostOn) [], 5, 0, 6 + 2 ^ 7 + 0x10000002000 * 2 ^ 64, by decide +kernel⟩

theorem meets_ChainBlocksAndAssignment_10 : ∃ (s : State) (who : Initiator) (c : Nat), (stopped s = false) ∧ (writable
  who DMA_CCMD.go 0 s = true) ∧ (s.rd DMA_CCMD.busy = 0) ∧ (s.rd DMA_CCMD.channel = c) ∧ (c < 256) ∧ (enabled s .dma =
  true) ∧ (isRelayChan s c = true) ∧ (chState s c = chIdle) ∧ (refuses s (s.rd DMA_CHAN.account c) = false) ∧
  (eligible s (s.rd DMA_CHAN.account c) = true) ∧ (s.rd DMA_CHAN.space c = 1) :=
  ⟨withRegs (dmaOn 0 {} hostOn) [(DMA_CCMD.channel, 0, 5), (DMA_CHAN.space, 5, 1), (DMA_CHAN.start_addr, 5, 0x200000020)], .host 0, 5, by decide +kernel⟩

theorem meets_ChainBlocksAndAssignment_11 : ∃ (s : State) (who : Initiator) (c : Nat), (stopped s = false) ∧ (writable
  who DMA_CCMD.go 0 s = true) ∧ (s.rd DMA_CCMD.busy = 0) ∧ (s.rd DMA_CCMD.channel = c) ∧ (c < 256) ∧ (enabled s .dma =
  true) ∧ (isRelayChan s c = true) ∧ (chState s c = chHalted) ∧ (s.rd DMA_CHAN.slot c ≠ 7) :=
  ⟨withRegs (dmaOn 3 {} hostOn) [(DMA_CCMD.channel, 0, 5)], .host 0, 5, by decide +kernel⟩

theorem meets_ChainBlocksAndAssignment_12 : ∃ (s : State) (who : Initiator) (c : Nat), (stopped s = false) ∧ (writable
  who DMA_CCMD.go 0 s = true) ∧ (s.rd DMA_CCMD.busy = 0) ∧ (s.rd DMA_CCMD.channel = c) ∧ (c < 256) ∧ (enabled s .dma =
  true) ∧ (isRelayChan s c = true) ∧ (chState s c = chHalted) ∧ ((chan s c).block.isSome = true) ∧ (movesVisible s c =
  true) ∧ ((chan s c).space = true) ∧ (placed s (s.rd DMA_CHAN.block c) 4 = false) ∧ (placed s (s.rd DMA_CHAN.block c
  + 4) 12 = false) :=
  ⟨withRegs (dmaOn 3 { block := some (9), space := true } hostOn) [(DMA_CCMD.channel, 0, 5)], .host 0, 5, by decide +kernel⟩

theorem meets_ChainBlocksAndAssignment_13 : ∃ (s : State) (who : Initiator) (c _ : Nat), (stopped s = false) ∧
  (writable who DMA_CHAN.mode c s = true) ∧ (c < 256) ∧ (chState s c = chIdle) :=
  ⟨State.reset, .host 0, 255, 0x1209, by decide +kernel⟩

theorem meets_ChainBlocksAndAssignment_14 : ∃ (s : State) (who : Initiator) (c v : Nat), (stopped s = false) ∧
  (writable who DMA_CHAN.mode c s = true) ∧ (c < 256) ∧ (chState s c ≠ chIdle) ∧ (¬ (bitsAt v 0 2 = s.rd DMA_CHAN.mode
  c ∧ bitsAt v 2 3 = s.rd DMA_CHAN.pf c ∧ bitsAt v 8 12 = s.rd DMA_CHAN.account c)) :=
  ⟨dmaOn 2 {} State.reset, .host 0, 5, 0x1209, by decide +kernel⟩

theorem meets_ChainBlocksAndAssignment_15 : ∃ (s : State) (who : Initiator), (stopped s = false) ∧ (reaches who
  Blk.dma.base = true) :=
  ⟨State.reset.wr DMA_HALTQ.count 3, .host 0, by decide +kernel⟩

theorem meets_ChainBlocksAndAssignment_16 : ∃ (s t : State) (q sseq c : Nat) (e : Entry) (rest : List (Nat × Nat)),
  (stopped s = false) ∧ (t = (let u := resumeCcmd s; { u with dma := { u.dma with dispatch := liveDispatch u } })) ∧
  (t.dma.dispatch = (q, sseq) :: rest) ∧ (entryOf t q sseq = some e) ∧ (poolChannel t = some c) ∧ (enabled t .dma =
  true) ∧ (mayBegin t e = true) ∧ (eligible t (queueAccount t q) = true) :=
  ⟨(let s := dmaOn 0 {} (queueOn [{ raw := 0x10250 }]); { s with dma := { s.dma with dispatch := [(3, 1)] } }), (let s := dmaOn 0 {} (queueOn [{ raw := 0x10250 }]); { s with dma := { s.dma with dispatch := [(3, 1)] } }), 3, 1, 64, { raw := 0x10250 }, [], by decide +kernel⟩

theorem meets_ChainBlocksAndAssignment_17 : ∃ (s t : State), (stopped s = false) ∧
  (t = (let u := resumeCcmd s; { u with dma := { u.dma with dispatch := liveDispatch u } })) ∧ (t.dma.dispatch = [])
  :=
  ⟨State.reset, State.reset, by decide +kernel⟩

theorem meets_ChainBlocksAndAssignment_18 : ∃ (s : State) (q sseq c : Nat) (e : Entry) (m : DmaMove) (t : State),
  (stopped s = false) ∧ (assigned s q sseq 0x50 = some (c, e)) ∧ (m =
  { src := e.at 8 0 64, dst := e.at 0x10 0 64, len := e.at 0x18 0 30, srcInt := decide (e.at 0x1C 0 1 = 1), dstInt := decide (e.at 0x1C 1 1 = 1), srcAts := decide (e.at 0x1C 2 1 = 1), dstAts := decide (e.at 0x1C 3 1 = 1), verify := decide (e.at 0x1C 4 1 = 1) })
  ∧ (t = (updChan s c fun x => { x with started := true, copy := true }).wr DMA_CHAN.slot 0 c) :=
  ⟨(dmaOn 1 { owner := some (3, 1) } (queueOn [{ raw := 0x10250 + 9 * 2 ^ 64 + 7 * 2 ^ 128 + 100 * 2 ^ 192, begun := true }])), 3, 1, 5, { raw := 0x10250 + 9 * 2 ^ 64 + 7 * 2 ^ 128 + 100 * 2 ^ 192, begun := true }, ⟨9, 7, 100, false, false, false, false, false, 0, [], false⟩, (updChan (dmaOn 1 { owner := some (3, 1) } (queueOn [{ raw := 0x10250 + 9 * 2 ^ 64 + 7 * 2 ^ 128 + 100 * 2 ^ 192, begun := true }])) 5 fun x => { x with started := true, copy := true }).wr DMA_CHAN.slot 0 5, by decide +kernel⟩

theorem meets_ChainBlocksAndAssignment_19_1 : ∃ (s : State) (q sseq c : Nat) (e : Entry), (stopped s = false) ∧
  (assigned s q sseq 0x51 = some (c, e)) :=
  ⟨dmaOn 1 { owner := some (3, 1) } (queueOn [{ raw := 0x10251 + 0x10000001000 * 2 ^ 64 + 1 * 2 ^ 128, begun := true }]), 3, 1, 5, { raw := 0x10251 + 0x10000001000 * 2 ^ 64 + 1 * 2 ^ 128, begun := true }, by decide +kernel⟩

theorem meets_ChainBlocksAndAssignment_19_2 : ∃ (s : State) (q sseq c : Nat) (e : Entry), (stopped s = false) ∧
  (assigned s q sseq 0x51 = some (c, e)) :=
  ⟨dmaOn 1 { owner := some (3, 1) } (queueOn [{ raw := 0x10251 + 0x10000001000 * 2 ^ 64 + 0 * 2 ^ 128, begun := true }]), 3, 1, 5, { raw := 0x10251 + 0x10000001000 * 2 ^ 64 + 0 * 2 ^ 128, begun := true }, by decide +kernel⟩

theorem meets_ChainBlocksAndAssignment_20 : ∃ (s : State) (c : Nat) (_ : Bool) (_ : Bytes), (stopped s = false) ∧
  ((chan s c).fetching = true) ∧ ((chan s c).ending = none) ∧ ((chan s c).space = true) ∧ (rangeExists s (s.rd
  DMA_CHAN.block c) 128 = true) ∧ (internalAllowed s c = true) ∧ (memBad s (s.rd DMA_CHAN.block c) 128 = false) :=
  ⟨memStore (dmaOn 1 { space := true, fetching := true } hostOn) 0x10000001000 [1], 5, true, [], by decide +kernel⟩

theorem meets_ChainBlocksAndAssignment_21 : ∃ (s : State) (c : Nat) (_ : Bytes) (ps : List (Nat × Nat)), (stopped s =
  false) ∧ ((chan s c).fetching = true) ∧ ((chan s c).ending = none) ∧ ((chan s c).space = false) ∧ (fnLive s (chanFn
  s c) = true) ∧ (translateRange s (chanFn s c) (chan s c).ats (s.rd DMA_CHAN.block c) 128 false = .ok ps) :=
  ⟨withRegs (dmaOn 1 { fetching := true } hostOn) [(DMA_CHAN.block, 5, 0x4000)], 5, [1], [(0x4000, 128)], by decide +kernel⟩

theorem meets_ChainBlocksAndAssignment_22 : ∃ (s t : State) (c : Nat) (_ : Bytes) (ps : List (Nat × Nat)), (stopped s
  = false) ∧ ((chan s c).fetching = true) ∧ ((chan s c).ending = none) ∧ ((chan s c).space = false) ∧ (fnLive s
  (chanFn s c) = true) ∧ (translateRange s (chanFn s c) (chan s c).ats (s.rd DMA_CHAN.block c) 128 false = .ok ps) ∧
  (t = retryOrHalt (pcieActivity (endRead s (.chainBlock c)) 128 (chanAccount (endRead s (.chainBlock c)) c)) c) ∧
  ((chan t c).fetching = true) :=
  ⟨(withRegs (dmaOn 1 { fetching := true } hostOn) [(DMA_CHAN.block, 5, 0x4000)]), retryOrHalt (pcieActivity (withRegs (dmaOn 1 { fetching := true } hostOn) [(DMA_CHAN.block, 5, 0x4000)]) 128 0) 5, 5, [1], [(0x4000, 128)], by decide +kernel⟩

theorem meets_ChainBlocksAndAssignment_23 : ∃ (s : State) (c tt : Nat) (t : State), (stopped s = false) ∧ (enabled s
  .dma = true) ∧ ((chan s c).wait = .link tt) ∧ (tt + max 100 (s.rd DMA_CFG.poll_ns) ≤ now s) ∧ ((chan s c).fetching =
  false) ∧ (t = updChan (dmaCount s 6 1) c (fun x => { x with fetching := true, wait := .link (now s) })) :=
  ⟨(let s := dmaOn 2 { space := true, wait := .link 5 } hostOn; { s with tt := { tt := 1005 } }), 5, 5, updChan (dmaCount (let s := dmaOn 2 { space := true, wait := .link 5 } hostOn; { s with tt := { tt := 1005 } }) 6 1) 5 fun x => { x with fetching := true, wait := .link 1005 }, by decide +kernel⟩

theorem meets_ChainBlocksAndAssignment_24 : ∃ (s : State) (c : Nat), (stopped s = false) ∧ (instrOf s c 0 ≠ none) :=
  ⟨withRegs (dmaOn 1 { block := some (1 + (0) * 2 ^ 512), space := true } hostOn) [(DMA_CHAN.slot, 5, 3)], 5, by decide +kernel⟩

theorem meets_ChainBlocksAndAssignment_25 : ∃ (s : State) (c b k x : Nat), (stopped s = false) ∧ (chanInstr s c = some
  (b, k, x)) ∧ (badInstr b k = true) :=
  ⟨withRegs (dmaOn 1 { block := some (1 + (7) * 2 ^ 512), space := true } hostOn) [(DMA_CHAN.slot, 5, 3)], 5, 1 + (7) * 2 ^ 512, 3, 7, by decide +kernel⟩

theorem meets_ChainBlocksAndAssignment_26 : ∃ (s : State) (c k x : Nat), (stopped s = false) ∧ (instrOf s c 6 = some
  (k, x)) ∧ (bitAt x 7 = false ∨ internalAllowed s c = true ∧ rangeExists s (bitsAt x 64 64) 128 = true) ∧
  (movesVisible s c = false) :=
  ⟨withRegs (dmaOn 1 { block := some (1 + (6 + 2 ^ 7 + 0x10000002000 * 2 ^ 64) * 2 ^ 128), space := true, links := [0] } hostOn) [], 5, 0, 6 + 2 ^ 7 + 0x10000002000 * 2 ^ 64, by decide +kernel⟩

theorem meets_ChainBlocksAndAssignment_27 : ∃ (s : State) (c k x : Nat), (stopped s = false) ∧ (instrOf s c 6 = some
  (k, x)) ∧ (bitAt x 7 = true) ∧ (internalAllowed s c = false ∨ rangeExists s (bitsAt x 64 64) 128 = false) :=
  ⟨withRegs (dmaOn 1 { block := some (1 + (6 + 2 ^ 7) * 2 ^ 128), space := true } hostOn) [], 5, 0, 6 + 2 ^ 7, by decide +kernel⟩

theorem meets_ChainBlocksAndAssignment_28 : ∃ (s t : State) (c k x : Nat), (stopped s = false) ∧ (instrOf s c 6 = some
  (k, x)) ∧ (bitAt x 7 = false ∨ internalAllowed s c = true ∧ rangeExists s (bitsAt x 64 64) 128 = true) ∧
  (movesVisible s c = true) ∧ (writeBack s c 0 k = .done t) :=
  ⟨(withRegs (dmaOn 1 { block := some (1 + (6 + 2 ^ 7 + 0x10000002000 * 2 ^ 64) * 2 ^ 128), space := true } hostOn) []), ((fun | .done t => some t | _ => none : ChanAccess → Option State) (writeBack (withRegs (dmaOn 1 { block := some (1 + (6 + 2 ^ 7 + 0x10000002000 * 2 ^ 64) * 2 ^ 128), space := true } hostOn) []) 5 0 0)).get (by decide +kernel), 5, 0, 6 + 2 ^ 7 + 0x10000002000 * 2 ^ 64, by decide +kernel⟩

theorem meets_ChainBlocksAndAssignment_29 : ∃ (s t : State) (who : Initiator), (stopped s = false) ∧ (writable who
  DMA_CCMD.go 0 s = true) ∧ (s.rd DMA_CCMD.busy = 0) ∧ (enabled s .dma = true) ∧ (t = s.wr DMA_CCMD.action 0) ∧
  ((ccmdAct t 0 (t.rd DMA_CCMD.channel)).2 = true) :=
  ⟨withRegs (dmaOn 0 {} hostOn) [(DMA_CCMD.channel, 0, 5), (DMA_CHAN.space, 5, 1)], (withRegs (dmaOn 0 {} hostOn) [(DMA_CCMD.channel, 0, 5), (DMA_CHAN.space, 5, 1)]).wr DMA_CCMD.action 0, .host 0, by decide +kernel⟩

theorem meets_ChainBlocksAndAssignment_30 : ∃ (s t : State) (who : Initiator), (stopped s = false) ∧ (writable who
  DMA_CCMD.go 0 s = true) ∧ (s.rd DMA_CCMD.busy = 0) ∧ (enabled s .dma = true) ∧ (t = s.wr DMA_CCMD.action 1) ∧
  ((ccmdAct t 1 (t.rd DMA_CCMD.channel)).2 = true) :=
  ⟨withRegs (dmaOn 3 {} hostOn) [(DMA_CCMD.channel, 0, 5)], (withRegs (dmaOn 3 {} hostOn) [(DMA_CCMD.channel, 0, 5)]).wr DMA_CCMD.action 1, .host 0, by decide +kernel⟩

theorem meets_ChainBlocksAndAssignment_31 : ∃ (s t : State) (who : Initiator), (stopped s = false) ∧ (writable who
  DMA_CCMD.go 0 s = true) ∧ (s.rd DMA_CCMD.busy = 0) ∧ (enabled s .dma = true) ∧ (t = s.wr DMA_CCMD.action 2) ∧
  ((ccmdAct t 2 (t.rd DMA_CCMD.channel)).2 = true) :=
  ⟨withRegs (dmaOn 3 {} hostOn) [(DMA_CCMD.channel, 0, 5)], (withRegs (dmaOn 3 {} hostOn) [(DMA_CCMD.channel, 0, 5)]).wr DMA_CCMD.action 2, .host 0, by decide +kernel⟩

theorem meets_ChainBlocksAndAssignment_32 : ∃ (s t : State) (who : Initiator), (stopped s = false) ∧ (writable who
  DMA_CCMD.go 0 s = true) ∧ (s.rd DMA_CCMD.busy = 0) ∧ (t = s.wr DMA_CCMD.action 0) ∧ (enabled s .dma = false) :=
  ⟨hostOn, hostOn.wr DMA_CCMD.action 0, .host 0, by decide +kernel⟩

theorem meets_ChainBlocksAndAssignment_33 : ∃ (s t : State) (who : Initiator), (stopped s = false) ∧ (writable who
  DMA_CCMD.go 0 s = true) ∧ (s.rd DMA_CCMD.busy = 0) ∧ (t = s.wr DMA_CCMD.action 1) ∧ (enabled s .dma = false) :=
  ⟨hostOn, hostOn.wr DMA_CCMD.action 1, .host 0, by decide +kernel⟩

theorem meets_ChainBlocksAndAssignment_34 : ∃ (s t : State) (who : Initiator), (stopped s = false) ∧ (writable who
  DMA_CCMD.go 0 s = true) ∧ (s.rd DMA_CCMD.busy = 0) ∧ (t = s.wr DMA_CCMD.action 2) ∧ (enabled s .dma = false) :=
  ⟨hostOn, hostOn.wr DMA_CCMD.action 2, .host 0, by decide +kernel⟩

theorem meets_ChainBlocksAndAssignment_35 : ∃ (s : State) (who : Initiator), (stopped s = false) ∧ (writable who
  DMA_CCMD.go 0 s = true) ∧ (s.rd DMA_CCMD.busy ≠ 0) :=
  ⟨hostOn.wr DMA_CCMD.busy 1, .host 0, by decide +kernel⟩

theorem meets_ChainBlocksAndAssignment_36 : ∃ (s : State) (who : Initiator), (stopped s = false) ∧ (writable who
  DMA_CCMD.go 0 s = true) ∧ (s.rd DMA_CCMD.busy ≠ 0) :=
  ⟨hostOn.wr DMA_CCMD.busy 1, .host 0, by decide +kernel⟩

theorem meets_ChainBlocksAndAssignment_37 : ∃ (s : State) (who : Initiator), (stopped s = false) ∧ (writable who
  DMA_CCMD.go 0 s = true) ∧ (s.rd DMA_CCMD.busy ≠ 0) :=
  ⟨hostOn.wr DMA_CCMD.busy 1, .host 0, by decide +kernel⟩

theorem meets_ChainInstructionsWaitsAndSignals_1 : ∃ (s : State) (c b k x : Nat) (m : DmaMove), (stopped s = false) ∧
  (instrOf s c 1 = some (k, x)) ∧ ((chan s c).block = some b) ∧ (m =
  { src := wrapInt 64 ((bitsAt x 64 64 : Int) + (s.rd DMA_CHAN.loop_i c : Int) * signed 32 (bitsAt (slotBits b (k + 1)) 64 32)), dst := wrapInt 64 ((bitsAt (slotBits b (k + 1)) 0 64 : Int) + (s.rd DMA_CHAN.loop_i c : Int) * signed 32 (bitsAt (slotBits b (k + 1)) 96 32)), len := bitsAt x 32 25, srcInt := bitAt x 4, dstInt := bitAt x 5, srcAts := bitAt x 6, dstAts := bitAt x 7, verify := bitAt x 8 })
  ∧ (movePerm s c m = false) ∧ (m.len ≠ 0) :=
  ⟨withRegs (dmaOn 1 { block := some (1 + (1 + 100 * 2 ^ 32 + 9 * 2 ^ 64) * 2 ^ 128 + (7 + 0xFFFFFFFE * 2 ^ 64 + 7 * 2 ^ 96) * 2 ^ 256), space := true } hostOn) [(DMA_CHAN.loop_i, 5, 2)], 5, 1 + (1 + 100 * 2 ^ 32 + 9 * 2 ^ 64) * 2 ^ 128 + (7 + 0xFFFFFFFE * 2 ^ 64 + 7 * 2 ^ 96) * 2 ^ 256, 0, 1 + 100 * 2 ^ 32 + 9 * 2 ^ 64, ⟨5, 21, 100, false, false, false, false, false, 0, [], false⟩, by decide +kernel⟩

theorem meets_ChainInstructionsWaitsAndSignals_2 : ∃ (s : State) (c k x : Nat), (stopped s = false) ∧ (instrOf s c 2 =
  some (k, x)) ∧ (s.rd DMA_CHAN.loop_i c + 1 < bitsAt x 32 32) :=
  ⟨withRegs (dmaOn 1 { block := some (1 + (5) * 2 ^ 128 + (2 + 3 * 2 ^ 32) * 2 ^ 256), space := true } hostOn) [(DMA_CHAN.loop_i, 5, 1), (DMA_CHAN.slot, 5, 1)], 5, 1, 2 + 3 * 2 ^ 32, by decide +kernel⟩

theorem meets_ChainInstructionsWaitsAndSignals_3 : ∃ (s : State) (c k x : Nat), (stopped s = false) ∧ (instrOf s c 2 =
  some (k, x)) ∧ (bitsAt x 32 32 ≤ s.rd DMA_CHAN.loop_i c + 1) ∧ (k < 6) :=
  ⟨withRegs (dmaOn 1 { block := some (1 + (5) * 2 ^ 128 + (2 + 3 * 2 ^ 32) * 2 ^ 256), space := true } hostOn) [(DMA_CHAN.loop_i, 5, 2), (DMA_CHAN.slot, 5, 1)], 5, 1, 2 + 3 * 2 ^ 32, by decide +kernel⟩

theorem meets_ChainInstructionsWaitsAndSignals_4 : ∃ (s : State) (c k x : Nat), (stopped s = false) ∧ (instrOf s c 3 =
  some (k, x)) ∧ (bitsAt x 4 2 = 0) :=
  ⟨withRegs (dmaOn 1 { block := some (1 + (3 + 77 * 2 ^ 64) * 2 ^ 128), space := true } hostOn) [], 5, 0, 3 + 77 * 2 ^ 64, by decide +kernel⟩

theorem meets_ChainInstructionsWaitsAndSignals_5 : ∃ (s : State) (c k x : Nat), (stopped s = false) ∧ (instrOf s c 3 =
  some (k, x)) ∧ (bitsAt x 4 2 = 1) :=
  ⟨withRegs (dmaOn 1 { block := some (1 + (3 + 2 ^ 4 + 77 * 2 ^ 64) * 2 ^ 128), space := true } hostOn) [], 5, 0, 3 + 2 ^ 4 + 77 * 2 ^ 64, by decide +kernel⟩

theorem meets_ChainInstructionsWaitsAndSignals_6 : ∃ (s : State) (c k x : Nat), (stopped s = false) ∧ (instrOf s c 3 =
  some (k, x)) ∧ (bitsAt x 4 2 = 2) ∧ (s.rd DMA_CHAN.sem c = 0) :=
  ⟨withRegs (dmaOn 1 { block := some (1 + (3 + 2 ^ 5 + 77 * 2 ^ 64) * 2 ^ 128), space := true } hostOn) [], 5, 0, 3 + 2 ^ 5 + 77 * 2 ^ 64, by decide +kernel⟩

theorem meets_ChainInstructionsWaitsAndSignals_7 : ∃ (s : State) (c k x : Nat), (stopped s = false) ∧ (instrOf s c 3 =
  some (k, x)) ∧ (bitsAt x 4 2 = 2) ∧ (s.rd DMA_CHAN.sem c ≠ 0) ∧ (k < 6) :=
  ⟨withRegs (dmaOn 1 { block := some (1 + (3 + 2 ^ 5 + 77 * 2 ^ 64) * 2 ^ 128), space := true } hostOn) [(DMA_CHAN.sem, 5, 9)], 5, 0, 3 + 2 ^ 5 + 77 * 2 ^ 64, by decide +kernel⟩

theorem meets_ChainInstructionsWaitsAndSignals_8 : ∃ (s : State) (c tt : Nat), (stopped s = false) ∧ (enabled s .dma =
  true) ∧ (c < 256) ∧ ((chan s c).wait = .until tt) ∧ (tt ≤ now s) ∧ (dueBefore s tt = false) ∧ (applicationFirst s
  .dma tt = false) ∧ (s.rd DMA_CHAN.slot c < 6) :=
  ⟨(let s := dmaOn 2 { wait := .until 5 } hostOn; { s with tt := { tt := 5 } }), 5, 5, by decide +kernel⟩

theorem meets_ChainInstructionsWaitsAndSignals_9 : ∃ (s : State) (c k x : Nat), (stopped s = false) ∧ (instrOf s c 4 =
  some (k, x)) ∧ (bitsAt x 4 3 = 0) ∧ (bitAt x 7 = true) ∧ (movesVisible s c = true) ∧ (internalAllowed s c = true) ∧
  (rangeExists s (bitsAt x 64 64) 4 = true) ∧ (placed s (bitsAt x 64 64) 4 = false) ∧ (k < 6) :=
  ⟨withRegs (dmaOn 1 { block := some (1 + (4 + 2 ^ 7 + 0x12345678 * 2 ^ 32 + 0x10000003000 * 2 ^ 64) * 2 ^ 128), space := true } hostOn) [], 5, 0, 4 + 2 ^ 7 + 0x12345678 * 2 ^ 32 + 0x10000003000 * 2 ^ 64, by decide +kernel⟩

theorem meets_ChainInstructionsWaitsAndSignals_10 : ∃ (s : State) (c k x : Nat), (stopped s = false) ∧ (instrOf s c 4
  = some (k, x)) ∧ (bitsAt x 4 3 = 1) ∧ (movesVisible s c = true) ∧ (semAllowed s c (bitsAt x 32 16) = true) ∧ (k < 6)
  :=
  ⟨withRegs (dmaOn 1 { block := some (1 + (4 + 2 ^ 4 + 5 * 2 ^ 32) * 2 ^ 128), space := true } hostOn) [], 5, 0, 4 + 2 ^ 4 + 5 * 2 ^ 32, by decide +kernel⟩

theorem meets_ChainInstructionsWaitsAndSignals_11 : ∃ (s : State) (c k x : Nat), (stopped s = false) ∧ (instrOf s c 4
  = some (k, x)) ∧ (bitsAt x 4 3 = 2) ∧ (movesVisible s c = true) ∧ (isRelayChan s c = true) ∧ (threadState s (bitsAt
  x 32 16) = thReady) ∧ (k < 6) :=
  ⟨withRegs (dmaOn 1 { block := some (1 + (4 + 2 ^ 5 + 7 * 2 ^ 32) * 2 ^ 128), space := true } hostOn) [(RLY_THCTX.state, 7, thReady)], 5, 0, 4 + 2 ^ 5 + 7 * 2 ^ 32, by decide +kernel⟩

theorem meets_ChainInstructionsWaitsAndSignals_12 : ∃ (s : State) (c k x : Nat), (stopped s = false) ∧ (instrOf s c 4
  = some (k, x)) ∧ (bitsAt x 4 3 = 3) ∧ (movesVisible s c = true) ∧ (bitsAt x 32 16 < vectorCount s (chanFn s c)) ∧
  (pubWaits s = false) ∧ (fnLive s (chanFn s c) = true) ∧ ((fnSt s (chanFn s c)).msixEn = true) ∧ ((fnSt s (chanFn s
  c)).fnMask = true) ∧ (k < 6) :=
  ⟨withRegs (dmaOn 1 { block := some (1 + (4 + 3 * 2 ^ 4 + 7 * 2 ^ 32) * 2 ^ 128), space := true } { hostOn with hif := { fns := [(0, { bme := true, msixEn := true, fnMask := true })] } }) [(HIF_PF_CFG.pf_vec, 0, 16)], 5, 0, 4 + 3 * 2 ^ 4 + 7 * 2 ^ 32, by decide +kernel⟩

theorem meets_ChainInstructionsWaitsAndSignals_13 : ∃ (s : State) (c k x : Nat), (stopped s = false) ∧ (instrOf s c 5
  = some (k, x)) ∧ (movesVisible s c = true) ∧ (k < 6) :=
  ⟨withRegs (dmaOn 1 { block := some (1 + (5) * 2 ^ 128), space := true } hostOn) [], 5, 0, 5, by decide +kernel⟩

theorem meets_ChainInstructionsWaitsAndSignals_14 : ∃ (s : State) (c k x : Nat) (m : DmaMove), (stopped s = false) ∧
  (instrOf s c 1 = some (k, x)) ∧ (m =
  { src := wrapInt 64 ((bitsAt x 64 64 : Int) + (s.rd DMA_CHAN.loop_i c : Int) * signed 32 (bitsAt (slotBits ((chan s c).block.getD 0) (k + 1)) 64 32)), dst := wrapInt 64 ((bitsAt (slotBits ((chan s c).block.getD 0) (k + 1)) 0 64 : Int) + (s.rd DMA_CHAN.loop_i c : Int) * signed 32 (bitsAt (slotBits ((chan s c).block.getD 0) (k + 1)) 96 32)), len := bitsAt x 32 25, srcInt := bitAt x 4, dstInt := bitAt x 5, srcAts := bitAt x 6, dstAts := bitAt x 7, verify := bitAt x 8 })
  :=
  ⟨withRegs (dmaOn 1 { block := some (1 + (1 + 100 * 2 ^ 32 + 9 * 2 ^ 64) * 2 ^ 128 + (7 + 0xFFFFFFFE * 2 ^ 64 + 7 * 2 ^ 96) * 2 ^ 256), space := true } hostOn) [(DMA_CHAN.loop_i, 5, 2)], 5, 0, 1 + 100 * 2 ^ 32 + 9 * 2 ^ 64, ⟨5, 21, 100, false, false, false, false, false, 0, [], false⟩, by decide +kernel⟩

theorem meets_ChainInstructionsWaitsAndSignals_15 : ∃ (s : State) (c k x : Nat), (stopped s = false) ∧ (instrOf s c 2
  = some (k, x)) ∧ (bitsAt x 32 32 ≤ s.rd DMA_CHAN.loop_i c + 1) :=
  ⟨withRegs (dmaOn 1 { block := some (1 + (5) * 2 ^ 128 + (2 + 3 * 2 ^ 32) * 2 ^ 256), space := true } hostOn) [(DMA_CHAN.loop_i, 5, 2), (DMA_CHAN.slot, 5, 1)], 5, 1, 2 + 3 * 2 ^ 32, by decide +kernel⟩

theorem meets_ChainInstructionsWaitsAndSignals_16 : ∃ (s : State) (c k x : Nat), (stopped s = false) ∧ (instrOf s c 3
  = some (k, x)) ∧ (bitsAt x 4 2 = 0) :=
  ⟨withRegs (dmaOn 1 { block := some (1 + (3 + 77 * 2 ^ 64) * 2 ^ 128), space := true } hostOn) [], 5, 0, 3 + 77 * 2 ^ 64, by decide +kernel⟩

theorem meets_ChainInstructionsWaitsAndSignals_17 : ∃ (s : State) (c k x : Nat), (stopped s = false) ∧ (instrOf s c 3
  = some (k, x)) ∧ (bitsAt x 4 2 = 1) :=
  ⟨withRegs (dmaOn 1 { block := some (1 + (3 + 2 ^ 4 + 77 * 2 ^ 64) * 2 ^ 128), space := true } hostOn) [], 5, 0, 3 + 2 ^ 4 + 77 * 2 ^ 64, by decide +kernel⟩

theorem meets_ChainInstructionsWaitsAndSignals_18 : ∃ (s : State) (c k x : Nat), (stopped s = false) ∧ (instrOf s c 3
  = some (k, x)) ∧ (bitsAt x 4 2 = 2) ∧ (s.rd DMA_CHAN.sem c = 0) :=
  ⟨withRegs (dmaOn 1 { block := some (1 + (3 + 2 ^ 5 + 77 * 2 ^ 64) * 2 ^ 128), space := true } hostOn) [], 5, 0, 3 + 2 ^ 5 + 77 * 2 ^ 64, by decide +kernel⟩

theorem meets_ChainInstructionsWaitsAndSignals_19 : ∃ (s : State) (c k x : Nat), (stopped s = false) ∧ (instrOf s c 3
  = some (k, x)) ∧ (bitsAt x 4 2 = 2) ∧ (s.rd DMA_CHAN.sem c ≠ 0) :=
  ⟨withRegs (dmaOn 1 { block := some (1 + (3 + 2 ^ 5 + 77 * 2 ^ 64) * 2 ^ 128), space := true } hostOn) [(DMA_CHAN.sem, 5, 9)], 5, 0, 3 + 2 ^ 5 + 77 * 2 ^ 64, by decide +kernel⟩

theorem meets_ChainInstructionsWaitsAndSignals_20 : ∃ (s : State) (c tt : Nat), (stopped s = false) ∧ (enabled s .dma
  = true) ∧ ((chan s c).wait = .until tt) ∧ (tt ≤ now s) ∧ (dueBefore s tt = false) :=
  ⟨(let s := dmaOn 2 { wait := .until 5 } hostOn; { s with tt := { tt := 5 } }), 5, 5, by decide +kernel⟩

theorem meets_ChainInstructionsWaitsAndSignals_21 : ∃ (s : State) (c : Nat) (o : Option Nat), (stopped s = false) ∧
  (enabled s .dma = true) ∧ ((chan s c).wait = .semaphore o) ∧ (s.rd DMA_CHAN.sem c ≠ 0) :=
  ⟨(dmaOn 2 { wait := .semaphore none } hostOn).wr DMA_CHAN.sem 2 5, 5, none, by decide +kernel⟩

theorem meets_ChainInstructionsWaitsAndSignals_22 : ∃ (s : State) (c tt : Nat), (stopped s = false) ∧ (enabled s .dma
  = true) ∧ ((chan s c).wait = .semaphore (some tt)) ∧ (s.rd DMA_CHAN.sem c = 0) ∧ (tt ≤ now s) ∧ (dueBefore s tt =
  false) :=
  ⟨(let s := dmaOn 2 { wait := .semaphore (some 5) } hostOn; { s with tt := { tt := 5 } }), 5, 5, by decide +kernel⟩

theorem meets_ChainInstructionsWaitsAndSignals_23 : ∃ (s : State) (c k x : Nat), (stopped s = false) ∧ (instrOf s c 4
  = some (k, x)) ∧ (bitsAt x 4 3 = 0) ∧ (movesVisible s c = false) :=
  ⟨withRegs (dmaOn 1 { block := some (1 + (4 + 0 * 2 ^ 4 + 2 ^ 32) * 2 ^ 128), space := true, links := [0] } hostOn) [], 5, 0, 4 + 0 * 2 ^ 4 + 2 ^ 32, by decide +kernel⟩

theorem meets_ChainInstructionsWaitsAndSignals_24 : ∃ (s : State) (c k x : Nat), (stopped s = false) ∧ (instrOf s c 4
  = some (k, x)) ∧ (bitsAt x 4 3 = 1) ∧ (movesVisible s c = false) :=
  ⟨withRegs (dmaOn 1 { block := some (1 + (4 + 1 * 2 ^ 4 + 2 ^ 32) * 2 ^ 128), space := true, links := [0] } hostOn) [], 5, 0, 4 + 1 * 2 ^ 4 + 2 ^ 32, by decide +kernel⟩

theorem meets_ChainInstructionsWaitsAndSignals_25 : ∃ (s : State) (c k x : Nat), (stopped s = false) ∧ (instrOf s c 4
  = some (k, x)) ∧ (bitsAt x 4 3 = 2) ∧ (movesVisible s c = false) :=
  ⟨withRegs (dmaOn 1 { block := some (1 + (4 + 2 * 2 ^ 4 + 2 ^ 32) * 2 ^ 128), space := true, links := [0] } hostOn) [], 5, 0, 4 + 2 * 2 ^ 4 + 2 ^ 32, by decide +kernel⟩

theorem meets_ChainInstructionsWaitsAndSignals_26 : ∃ (s : State) (c k x : Nat), (stopped s = false) ∧ (instrOf s c 4
  = some (k, x)) ∧ (bitsAt x 4 3 = 3) ∧ (movesVisible s c = false) :=
  ⟨withRegs (dmaOn 1 { block := some (1 + (4 + 3 * 2 ^ 4 + 2 ^ 32) * 2 ^ 128), space := true, links := [0] } hostOn) [], 5, 0, 4 + 3 * 2 ^ 4 + 2 ^ 32, by decide +kernel⟩

theorem meets_ChainInstructionsWaitsAndSignals_27 : ∃ (s t : State) (c k x : Nat), (stopped s = false) ∧ (instrOf s c
  4 = some (k, x)) ∧ (bitsAt x 4 3 = 0) ∧ (movesVisible s c = true) ∧ (bitAt x 7 = false ∨ internalAllowed s c = true
  ∧ rangeExists s (bitsAt x 64 64) 4 = true) ∧ (chanWrite s c (bitAt x 7) (bitAt x 8) (bitsAt x 64 64) (leBytes 4
  (bitsAt x 32 32)) false = .done t) :=
  ⟨(withRegs (dmaOn 1 { block := some (1 + (4 + 0x12345678 * 2 ^ 32 + 0x3000 * 2 ^ 64) * 2 ^ 128), space := true } hostOn) []), ((fun | .done t => some t | _ => none : ChanAccess → Option State) (chanWrite (withRegs (dmaOn 1 { block := some (1 + (4 + 0x12345678 * 2 ^ 32 + 0x3000 * 2 ^ 64) * 2 ^ 128), space := true } hostOn) []) 5 false false 0x3000 (leBytes 4 0x12345678) false)).get (by decide +kernel), 5, 0, 4 + 0x12345678 * 2 ^ 32 + 0x3000 * 2 ^ 64, by decide +kernel⟩

theorem meets_ChainInstructionsWaitsAndSignals_28 : ∃ (s : State) (c k x : Nat), (stopped s = false) ∧ (instrOf s c 4
  = some (k, x)) ∧ (bitsAt x 4 3 = 1) ∧ (movesVisible s c = true) ∧ (semAllowed s c (bitsAt x 32 16) = true) :=
  ⟨withRegs (dmaOn 1 { block := some (1 + (4 + 2 ^ 4 + 5 * 2 ^ 32) * 2 ^ 128), space := true } hostOn) [], 5, 0, 4 + 2 ^ 4 + 5 * 2 ^ 32, by decide +kernel⟩

theorem meets_ChainInstructionsWaitsAndSignals_29 : ∃ (s : State) (c k x : Nat), (stopped s = false) ∧ (instrOf s c 4
  = some (k, x)) ∧ (bitsAt x 4 3 = 1) ∧ (movesVisible s c = true) ∧ (semAllowed s c (bitsAt x 32 16) = false) :=
  ⟨withRegs (dmaOn 1 { block := some (1 + (4 + 2 ^ 4 + 7 * 2 ^ 32) * 2 ^ 128), space := true } hostOn) [], 5, 0, 4 + 2 ^ 4 + 7 * 2 ^ 32, by decide +kernel⟩

theorem meets_ChainInstructionsWaitsAndSignals_30 : ∃ (s : State) (c k x : Nat), (stopped s = false) ∧ (instrOf s c 4
  = some (k, x)) ∧ (bitsAt x 4 3 = 2) ∧ (movesVisible s c = true) ∧ (isRelayChan s c = true ∨ chanFn s c = 0) :=
  ⟨withRegs (dmaOn 1 { block := some (1 + (4 + 2 ^ 5 + 7 * 2 ^ 32) * 2 ^ 128), space := true } hostOn) [(RLY_THCTX.state, 7, thReady)], 5, 0, 4 + 2 ^ 5 + 7 * 2 ^ 32, by decide +kernel⟩

theorem meets_ChainInstructionsWaitsAndSignals_31 : ∃ (s : State) (c k x : Nat), (stopped s = false) ∧ (instrOf s c 4
  = some (k, x)) ∧ (bitsAt x 4 3 = 3) ∧ (movesVisible s c = true) ∧ (bitsAt x 32 16 < vectorCount s (chanFn s c)) :=
  ⟨withRegs (dmaOn 1 { block := some (1 + (4 + 3 * 2 ^ 4 + 7 * 2 ^ 32) * 2 ^ 128), space := true } hostOn) [(HIF_PF_CFG.pf_vec, 0, 16)], 5, 0, 4 + 3 * 2 ^ 4 + 7 * 2 ^ 32, by decide +kernel⟩

theorem meets_ChainInstructionsWaitsAndSignals_32 : ∃ (s : State) (c k x : Nat), (stopped s = false) ∧ (instrOf s c 4
  = some (k, x)) ∧ (bitsAt x 4 3 = 3) ∧ (movesVisible s c = true) ∧ (vectorCount s (chanFn s c) ≤ bitsAt x 32 16) :=
  ⟨withRegs (dmaOn 1 { block := some (1 + (4 + 3 * 2 ^ 4 + 7 * 2 ^ 32) * 2 ^ 128), space := true } hostOn) [], 5, 0, 4 + 3 * 2 ^ 4 + 7 * 2 ^ 32, by decide +kernel⟩

theorem meets_ChainInstructionsWaitsAndSignals_33 : ∃ (s : State) (c k x : Nat), (stopped s = false) ∧ (instrOf s c 5
  = some (k, x)) ∧ (movesVisible s c = true) :=
  ⟨withRegs (dmaOn 1 { block := some (1 + (5) * 2 ^ 128), space := true } hostOn) [], 5, 0, 5, by decide +kernel⟩

theorem meets_ChainInstructionsWaitsAndSignals_34 : ∃ (s : State) (c k x : Nat), (stopped s = false) ∧ (instrOf s c 5
  = some (k, x)) ∧ (movesVisible s c = false) :=
  ⟨withRegs (dmaOn 1 { block := some (1 + (5) * 2 ^ 128), space := true, links := [0] } hostOn) [], 5, 0, 5, by decide +kernel⟩

theorem meets_MovesGoSegmentBySegment_1 : ∃ (s : State) (c : Nat) (m : DmaMove), (stopped s = false) ∧ (c < 256) ∧
  (servedChan s c = some m) ∧ ((chan s c).ending = none) ∧ (m.srcInt = true) ∧ (m.dstInt = true) ∧ (memBad s (m.src +
  m.off) (segmentLen m) = false) ∧ (placed s (m.src + m.off) (segmentLen m) = false) ∧ (placed s (m.dst + m.off)
  (segmentLen m) = false) ∧ (moveOverlaps m = false) ∧ (m.off + segmentLen m < m.len) :=
  ⟨memStore (dmaOn 1 { move := some ⟨0x10000004FFE, 0x10000008FFE, 100, true, true, false, false, false, 0, [], false⟩ } hostOn) 0x10000004FFE [7, 8], 5, ⟨0x10000004FFE, 0x10000008FFE, 100, true, true, false, false, false, 0, [], false⟩, by decide +kernel⟩

theorem meets_MovesGoSegmentBySegment_2 : ∃ (s : State) (c : Nat) (m : DmaMove), (stopped s = false) ∧ (c < 256) ∧
  (movingChan s c = some m) ∧ ((chan s c).ending = none) ∧ (m.srcInt = false) ∧ (s.rd DMA_CHAN.retries c < s.rd
  DMA_CFG.retry_max) ∧ (s.rd DMA_CHAN.retries c < 7) :=
  ⟨dmaOn 1 { move := some ⟨4096, 0x10000008FFE, 100, false, true, false, false, false, 0, [], false⟩ } hostOn, 5, ⟨4096, 0x10000008FFE, 100, false, true, false, false, false, 0, [], false⟩, by decide +kernel⟩

theorem meets_MovesGoSegmentBySegment_3 : ∃ (s : State) (c : Nat) (m : DmaMove) (_ : Bool) (_ : Bytes), (stopped s =
  false) ∧ (enabled s .dma = true) ∧ (c < 256) ∧ (chState s c = chRunning) ∧ ((chan s c).move = some m) ∧ (m.check =
  true) ∧ (m.dstInt = true) ∧ (memBad s (m.dst + m.len - m.last.length) m.last.length = false) ∧ (placed s (m.dst +
  m.len - m.last.length) m.last.length = false) ∧ (memLoad s (m.dst + m.len - m.last.length) m.last.length = m.last) ∧
  ((chan s c).ending = none) ∧ ((chan s c).copy = false) ∧ (s.rd DMA_CHAN.slot c < 5) :=
  ⟨memStore (dmaOn 1 { move := some ⟨4096, 0x10000008000, 8, false, true, false, false, true, 8, [1, 2], true⟩ } hostOn) 0x10000008006 [1, 2], 5, ⟨4096, 0x10000008000, 8, false, true, false, false, true, 8, [1, 2], true⟩, false, [], by decide +kernel⟩

theorem meets_MovesGoSegmentBySegment_4 : ∃ (s t : State) (c : Nat) (m : DmaMove) (data bs : Bytes) (u : State),
  (stopped s = false) ∧ (servedChan s c = some m) ∧ (readSegment s c m data = .data t bs) ∧ (moveOverlaps m = false) ∧
  (chanWrite t c m.dstInt m.dstAts (m.dst + m.off) bs true = .done u) :=
  ⟨(memStore (dmaOn 1 { move := some ⟨0x10000004FFE, 0x10000008FFE, 100, true, true, false, false, false, 0, [], false⟩ } hostOn) 0x10000004FFE [7, 8]), (chargeLines (memStore (dmaOn 1 { move := some ⟨0x10000004FFE, 0x10000008FFE, 100, true, true, false, false, false, 0, [], false⟩ } hostOn) 0x10000004FFE [7, 8]) 5 0x10000004FFE 2 false), 5, ⟨0x10000004FFE, 0x10000008FFE, 100, true, true, false, false, false, 0, [], false⟩, [3, 4], [7, 8], ((fun | .done t => some t | _ => none : ChanAccess → Option State) (chanWrite (chargeLines (memStore (dmaOn 1 { move := some ⟨0x10000004FFE, 0x10000008FFE, 100, true, true, false, false, false, 0, [], false⟩ } hostOn) 0x10000004FFE [7, 8]) 5 0x10000004FFE 2 false) 5 true false 0x10000008FFE [7, 8] true)).get (by decide +kernel), by decide +kernel⟩

theorem meets_MovesGoSegmentBySegment_5 : ∃ (s : State) (c : Nat) (m : DmaMove) (data : Bytes), (stopped s = false) ∧
  (servedChan s c = some m) ∧ (readSegment s c m data = .bad) :=
  ⟨{ (dmaOn 1 { move := some ⟨0x10000004000, 0x10000008000, 100, true, true, false, false, false, 0, [], false⟩ } hostOn) with poison := [0x10000004000 / 64] }, 5, ⟨0x10000004000, 0x10000008000, 100, true, true, false, false, false, 0, [], false⟩, [], by decide +kernel⟩

theorem meets_MovesGoSegmentBySegment_6 : ∃ (s : State) (c : Nat) (m : DmaMove) (data : Bytes), (stopped s = false) ∧
  (servedChan s c = some m) ∧ (readSegment s c m data = .fails) :=
  ⟨(let s := dmaOn 1 { move := some ⟨0x4000, 0x10000008FFE, 100, false, true, true, false, false, 0, [], false⟩ } hostOn; { s with hif := { fns := [(0, { bme := true })] } }), 5, ⟨0x4000, 0x10000008FFE, 100, false, true, true, false, false, 0, [], false⟩, [], by decide +kernel⟩

theorem meets_MovesGoSegmentBySegment_7 : ∃ (s : State) (c : Nat) (m : DmaMove), (stopped s = false) ∧ (movingChan s c
  = some m) ∧ (m.srcInt = false ∨ m.dstInt = false) :=
  ⟨dmaOn 1 { move := some ⟨4096, 0x10000008FFE, 100, false, true, false, false, false, 0, [], false⟩ } hostOn, 5, ⟨4096, 0x10000008FFE, 100, false, true, false, false, false, 0, [], false⟩, by decide +kernel⟩

theorem meets_MovesGoSegmentBySegment_8_1 : ∃ (s : State) (c : Nat) (m : DmaMove) (ok : Bool) (data : Bytes), (stopped
  s = false) ∧ (enabled s .dma = true) ∧ (chState s c = chRunning) ∧ ((chan s c).move = some m) ∧ (m.check = true) ∧
  (m.dstInt = false ∨ memBad s (m.dst + m.len - m.last.length) m.last.length = false) ∧ (m.dstInt = true ∨ ok = true)
  ∧ ((lastRead s c m data).1 = m.last) :=
  ⟨memStore (dmaOn 1 { move := some ⟨4096, 0x10000008000, 8, false, true, false, false, true, 8, [1, 2], true⟩ } hostOn) 0x10000008006 [1, 2], 5, ⟨4096, 0x10000008000, 8, false, true, false, false, true, 8, [1, 2], true⟩, false, [], by decide +kernel⟩

theorem meets_MovesGoSegmentBySegment_8_2 : ∃ (s : State) (c : Nat) (m : DmaMove) (ok : Bool) (data : Bytes), (stopped
  s = false) ∧ (enabled s .dma = true) ∧ (chState s c = chRunning) ∧ ((chan s c).move = some m) ∧ (m.check = true) ∧
  (m.dstInt = false ∨ memBad s (m.dst + m.len - m.last.length) m.last.length = false) ∧ (m.dstInt = true ∨ ok = true)
  ∧ ((lastRead s c m data).1 = m.last) :=
  ⟨dmaOn 1 { move := some ⟨4096, 0x8000, 8, false, false, false, false, true, 8, [1, 2], true⟩ } hostOn, 5, ⟨4096, 0x8000, 8, false, false, false, false, true, 8, [1, 2], true⟩, true, [1, 2], by decide +kernel⟩

theorem meets_MovesGoSegmentBySegment_9 : ∃ (s : State) (c : Nat) (m : DmaMove) (ok : Bool) (data : Bytes), (stopped s
  = false) ∧ (enabled s .dma = true) ∧ (chState s c = chRunning) ∧ ((chan s c).move = some m) ∧ (m.check = true) ∧
  (m.dstInt = false ∨ memBad s (m.dst + m.len - m.last.length) m.last.length = false) ∧ (m.dstInt = true ∨ ok = true)
  ∧ ((lastRead s c m data).1 ≠ m.last) :=
  ⟨dmaOn 1 { move := some ⟨4096, 0x8000, 8, false, false, false, false, true, 8, [1, 2], true⟩ } hostOn, 5, ⟨4096, 0x8000, 8, false, false, false, false, true, 8, [1, 2], true⟩, true, [1, 3], by decide +kernel⟩

theorem meets_MovesGoSegmentBySegment_10 : ∃ (s : State) (c : Nat) (m : DmaMove) (_ : Bytes), (stopped s = false) ∧
  (enabled s .dma = true) ∧ (chState s c = chRunning) ∧ ((chan s c).move = some m) ∧ (m.check = true) ∧ (m.dstInt =
  false) :=
  ⟨dmaOn 1 { move := some ⟨4096, 0x8000, 8, false, false, false, false, true, 8, [1, 2], true⟩ } hostOn, 5, ⟨4096, 0x8000, 8, false, false, false, false, true, 8, [1, 2], true⟩, [1, 2], by decide +kernel⟩

theorem meets_MovesGoSegmentBySegment_11 : ∃ (s : State) (c : Nat) (m : DmaMove) (_ : Bool) (_ : Bytes), (stopped s =
  false) ∧ (enabled s .dma = true) ∧ (chState s c = chRunning) ∧ ((chan s c).move = some m) ∧ (m.check = true) ∧
  (m.dstInt = true) ∧ (memBad s (m.dst + m.len - m.last.length) m.last.length = true) :=
  ⟨{ memStore (dmaOn 1 { move := some ⟨4096, 0x10000008000, 8, false, true, false, false, true, 8, [1, 2], true⟩ } hostOn) 0x10000008006 [1, 2] with poison := [0x10000008000 / 64] }, 5, ⟨4096, 0x10000008000, 8, false, true, false, false, true, 8, [1, 2], true⟩, false, [], by decide +kernel⟩

theorem meets_RelayArithmetic_1_1 : ∃ (s : State) (a rd ra rb fn : Nat) (i : Instr) (v : Nat), (stopped s = false) ∧
  (mayIssue s a = true) ∧ (waitsForLoad s a [rd, ra, rb] = false) ∧ (fetchFault s a = none) ∧ ((i, v) ∈ [(.add a rd ra
  rb, greg s a ra + greg s a rb), (.sub a rd ra rb, greg s a ra + (2 ^ 64 - greg s a rb % 2 ^ 64)), (.and a rd ra rb,
  greg s a ra &&& greg s a rb), (.or a rd ra rb, greg s a ra ||| greg s a rb), (.xor a rd ra rb, greg s a ra ^^^ greg
  s a rb), (.shl a rd ra rb, greg s a ra * 2 ^ (greg s a rb % 64)), (.shr a rd ra rb, greg s a ra % 2 ^ 64 / 2 ^ (greg
  s a rb % 64)), (.sar a rd ra rb, wrapInt 64 (signed 64 (greg s a ra) / ((2 ^ (greg s a rb % 64) : Nat) : Int))),
  (.mul a rd ra rb, greg s a ra * greg s a rb), (.mulhu a rd ra rb, greg s a ra * greg s a rb / 2 ^ 64), (.minu a rd
  ra rb, if greg s a ra < greg s a rb then greg s a ra else greg s a rb), (.maxu a rd ra rb, if greg s a ra < greg s a
  rb then greg s a rb else greg s a ra), (.slt a rd ra rb, if signed 64 (greg s a ra) < signed 64 (greg s a rb) then 1
  else 0), (.sltu a rd ra rb, if greg s a ra < greg s a rb then 1 else 0), (.crcc a rd ra rb fn, crcStep fn (fn / 2)
  (greg s a ra) (greg s a rb))]) :=
  ⟨rlyOn { g := [(3, 0x8000000000000005), (4, 0xFFFFFFFF0000F080), (5, 77)] } State.reset, 8, 6, 3, 4, 5, .add 8 6 3 4, greg (rlyOn { g := [(3, 0x8000000000000005), (4, 0xFFFFFFFF0000F080), (5, 77)] } State.reset) 8 3 + greg (rlyOn { g := [(3, 0x8000000000000005), (4, 0xFFFFFFFF0000F080), (5, 77)] } State.reset) 8 4, by decide +kernel⟩

theorem meets_RelayArithmetic_1_2 : ∃ (s : State) (a rd ra rb fn : Nat) (i : Instr) (v : Nat), (stopped s = false) ∧
  (mayIssue s a = true) ∧ (waitsForLoad s a [rd, ra, rb] = false) ∧ (fetchFault s a = none) ∧ ((i, v) ∈ [(.add a rd ra
  rb, greg s a ra + greg s a rb), (.sub a rd ra rb, greg s a ra + (2 ^ 64 - greg s a rb % 2 ^ 64)), (.and a rd ra rb,
  greg s a ra &&& greg s a rb), (.or a rd ra rb, greg s a ra ||| greg s a rb), (.xor a rd ra rb, greg s a ra ^^^ greg
  s a rb), (.shl a rd ra rb, greg s a ra * 2 ^ (greg s a rb % 64)), (.shr a rd ra rb, greg s a ra % 2 ^ 64 / 2 ^ (greg
  s a rb % 64)), (.sar a rd ra rb, wrapInt 64 (signed 64 (greg s a ra) / ((2 ^ (greg s a rb % 64) : Nat) : Int))),
  (.mul a rd ra rb, greg s a ra * greg s a rb), (.mulhu a rd ra rb, greg s a ra * greg s a rb / 2 ^ 64), (.minu a rd
  ra rb, if greg s a ra < greg s a rb then greg s a ra else greg s a rb), (.maxu a rd ra rb, if greg s a ra < greg s a
  rb then greg s a rb else greg s a ra), (.slt a rd ra rb, if signed 64 (greg s a ra) < signed 64 (greg s a rb) then 1
  else 0), (.sltu a rd ra rb, if greg s a ra < greg s a rb then 1 else 0), (.crcc a rd ra rb fn, crcStep fn (fn / 2)
  (greg s a ra) (greg s a rb))]) :=
  ⟨rlyOn { g := [(3, 0x8000000000000005), (4, 0xFFFFFFFF0000F080), (5, 77)] } State.reset, 8, 6, 3, 4, 5, .sub 8 6 3 4, greg (rlyOn { g := [(3, 0x8000000000000005), (4, 0xFFFFFFFF0000F080), (5, 77)] } State.reset) 8 3 + (2 ^ 64 - greg (rlyOn { g := [(3, 0x8000000000000005), (4, 0xFFFFFFFF0000F080), (5, 77)] } State.reset) 8 4 % 2 ^ 64), by decide +kernel⟩

theorem meets_RelayArithmetic_1_3 : ∃ (s : State) (a rd ra rb fn : Nat) (i : Instr) (v : Nat), (stopped s = false) ∧
  (mayIssue s a = true) ∧ (waitsForLoad s a [rd, ra, rb] = false) ∧ (fetchFault s a = none) ∧ ((i, v) ∈ [(.add a rd ra
  rb, greg s a ra + greg s a rb), (.sub a rd ra rb, greg s a ra + (2 ^ 64 - greg s a rb % 2 ^ 64)), (.and a rd ra rb,
  greg s a ra &&& greg s a rb), (.or a rd ra rb, greg s a ra ||| greg s a rb), (.xor a rd ra rb, greg s a ra ^^^ greg
  s a rb), (.shl a rd ra rb, greg s a ra * 2 ^ (greg s a rb % 64)), (.shr a rd ra rb, greg s a ra % 2 ^ 64 / 2 ^ (greg
  s a rb % 64)), (.sar a rd ra rb, wrapInt 64 (signed 64 (greg s a ra) / ((2 ^ (greg s a rb % 64) : Nat) : Int))),
  (.mul a rd ra rb, greg s a ra * greg s a rb), (.mulhu a rd ra rb, greg s a ra * greg s a rb / 2 ^ 64), (.minu a rd
  ra rb, if greg s a ra < greg s a rb then greg s a ra else greg s a rb), (.maxu a rd ra rb, if greg s a ra < greg s a
  rb then greg s a rb else greg s a ra), (.slt a rd ra rb, if signed 64 (greg s a ra) < signed 64 (greg s a rb) then 1
  else 0), (.sltu a rd ra rb, if greg s a ra < greg s a rb then 1 else 0), (.crcc a rd ra rb fn, crcStep fn (fn / 2)
  (greg s a ra) (greg s a rb))]) :=
  ⟨rlyOn { g := [(3, 0x8000000000000005), (4, 0xFFFFFFFF0000F080), (5, 77)] } State.reset, 8, 6, 3, 4, 5, .and 8 6 3 4, greg (rlyOn { g := [(3, 0x8000000000000005), (4, 0xFFFFFFFF0000F080), (5, 77)] } State.reset) 8 3 &&& greg (rlyOn { g := [(3, 0x8000000000000005), (4, 0xFFFFFFFF0000F080), (5, 77)] } State.reset) 8 4, by decide +kernel⟩

theorem meets_RelayArithmetic_1_4 : ∃ (s : State) (a rd ra rb fn : Nat) (i : Instr) (v : Nat), (stopped s = false) ∧
  (mayIssue s a = true) ∧ (waitsForLoad s a [rd, ra, rb] = false) ∧ (fetchFault s a = none) ∧ ((i, v) ∈ [(.add a rd ra
  rb, greg s a ra + greg s a rb), (.sub a rd ra rb, greg s a ra + (2 ^ 64 - greg s a rb % 2 ^ 64)), (.and a rd ra rb,
  greg s a ra &&& greg s a rb), (.or a rd ra rb, greg s a ra ||| greg s a rb), (.xor a rd ra rb, greg s a ra ^^^ greg
  s a rb), (.shl a rd ra rb, greg s a ra * 2 ^ (greg s a rb % 64)), (.shr a rd ra rb, greg s a ra % 2 ^ 64 / 2 ^ (greg
  s a rb % 64)), (.sar a rd ra rb, wrapInt 64 (signed 64 (greg s a ra) / ((2 ^ (greg s a rb % 64) : Nat) : Int))),
  (.mul a rd ra rb, greg s a ra * greg s a rb), (.mulhu a rd ra rb, greg s a ra * greg s a rb / 2 ^ 64), (.minu a rd
  ra rb, if greg s a ra < greg s a rb then greg s a ra else greg s a rb), (.maxu a rd ra rb, if greg s a ra < greg s a
  rb then greg s a rb else greg s a ra), (.slt a rd ra rb, if signed 64 (greg s a ra) < signed 64 (greg s a rb) then 1
  else 0), (.sltu a rd ra rb, if greg s a ra < greg s a rb then 1 else 0), (.crcc a rd ra rb fn, crcStep fn (fn / 2)
  (greg s a ra) (greg s a rb))]) :=
  ⟨rlyOn { g := [(3, 0x8000000000000005), (4, 0xFFFFFFFF0000F080), (5, 77)] } State.reset, 8, 6, 3, 4, 5, .or 8 6 3 4, greg (rlyOn { g := [(3, 0x8000000000000005), (4, 0xFFFFFFFF0000F080), (5, 77)] } State.reset) 8 3 ||| greg (rlyOn { g := [(3, 0x8000000000000005), (4, 0xFFFFFFFF0000F080), (5, 77)] } State.reset) 8 4, by decide +kernel⟩

theorem meets_RelayArithmetic_1_5 : ∃ (s : State) (a rd ra rb fn : Nat) (i : Instr) (v : Nat), (stopped s = false) ∧
  (mayIssue s a = true) ∧ (waitsForLoad s a [rd, ra, rb] = false) ∧ (fetchFault s a = none) ∧ ((i, v) ∈ [(.add a rd ra
  rb, greg s a ra + greg s a rb), (.sub a rd ra rb, greg s a ra + (2 ^ 64 - greg s a rb % 2 ^ 64)), (.and a rd ra rb,
  greg s a ra &&& greg s a rb), (.or a rd ra rb, greg s a ra ||| greg s a rb), (.xor a rd ra rb, greg s a ra ^^^ greg
  s a rb), (.shl a rd ra rb, greg s a ra * 2 ^ (greg s a rb % 64)), (.shr a rd ra rb, greg s a ra % 2 ^ 64 / 2 ^ (greg
  s a rb % 64)), (.sar a rd ra rb, wrapInt 64 (signed 64 (greg s a ra) / ((2 ^ (greg s a rb % 64) : Nat) : Int))),
  (.mul a rd ra rb, greg s a ra * greg s a rb), (.mulhu a rd ra rb, greg s a ra * greg s a rb / 2 ^ 64), (.minu a rd
  ra rb, if greg s a ra < greg s a rb then greg s a ra else greg s a rb), (.maxu a rd ra rb, if greg s a ra < greg s a
  rb then greg s a rb else greg s a ra), (.slt a rd ra rb, if signed 64 (greg s a ra) < signed 64 (greg s a rb) then 1
  else 0), (.sltu a rd ra rb, if greg s a ra < greg s a rb then 1 else 0), (.crcc a rd ra rb fn, crcStep fn (fn / 2)
  (greg s a ra) (greg s a rb))]) :=
  ⟨rlyOn { g := [(3, 0x8000000000000005), (4, 0xFFFFFFFF0000F080), (5, 77)] } State.reset, 8, 6, 3, 4, 5, .xor 8 6 3 4, greg (rlyOn { g := [(3, 0x8000000000000005), (4, 0xFFFFFFFF0000F080), (5, 77)] } State.reset) 8 3 ^^^ greg (rlyOn { g := [(3, 0x8000000000000005), (4, 0xFFFFFFFF0000F080), (5, 77)] } State.reset) 8 4, by decide +kernel⟩

theorem meets_RelayArithmetic_1_6 : ∃ (s : State) (a rd ra rb fn : Nat) (i : Instr) (v : Nat), (stopped s = false) ∧
  (mayIssue s a = true) ∧ (waitsForLoad s a [rd, ra, rb] = false) ∧ (fetchFault s a = none) ∧ ((i, v) ∈ [(.add a rd ra
  rb, greg s a ra + greg s a rb), (.sub a rd ra rb, greg s a ra + (2 ^ 64 - greg s a rb % 2 ^ 64)), (.and a rd ra rb,
  greg s a ra &&& greg s a rb), (.or a rd ra rb, greg s a ra ||| greg s a rb), (.xor a rd ra rb, greg s a ra ^^^ greg
  s a rb), (.shl a rd ra rb, greg s a ra * 2 ^ (greg s a rb % 64)), (.shr a rd ra rb, greg s a ra % 2 ^ 64 / 2 ^ (greg
  s a rb % 64)), (.sar a rd ra rb, wrapInt 64 (signed 64 (greg s a ra) / ((2 ^ (greg s a rb % 64) : Nat) : Int))),
  (.mul a rd ra rb, greg s a ra * greg s a rb), (.mulhu a rd ra rb, greg s a ra * greg s a rb / 2 ^ 64), (.minu a rd
  ra rb, if greg s a ra < greg s a rb then greg s a ra else greg s a rb), (.maxu a rd ra rb, if greg s a ra < greg s a
  rb then greg s a rb else greg s a ra), (.slt a rd ra rb, if signed 64 (greg s a ra) < signed 64 (greg s a rb) then 1
  else 0), (.sltu a rd ra rb, if greg s a ra < greg s a rb then 1 else 0), (.crcc a rd ra rb fn, crcStep fn (fn / 2)
  (greg s a ra) (greg s a rb))]) :=
  ⟨rlyOn { g := [(3, 0x8000000000000005), (4, 0xFFFFFFFF0000F080), (5, 77)] } State.reset, 8, 6, 3, 4, 5, .shl 8 6 3 4, greg (rlyOn { g := [(3, 0x8000000000000005), (4, 0xFFFFFFFF0000F080), (5, 77)] } State.reset) 8 3 * 2 ^ (greg (rlyOn { g := [(3, 0x8000000000000005), (4, 0xFFFFFFFF0000F080), (5, 77)] } State.reset) 8 4 % 64), by decide +kernel⟩

theorem meets_RelayArithmetic_1_7 : ∃ (s : State) (a rd ra rb fn : Nat) (i : Instr) (v : Nat), (stopped s = false) ∧
  (mayIssue s a = true) ∧ (waitsForLoad s a [rd, ra, rb] = false) ∧ (fetchFault s a = none) ∧ ((i, v) ∈ [(.add a rd ra
  rb, greg s a ra + greg s a rb), (.sub a rd ra rb, greg s a ra + (2 ^ 64 - greg s a rb % 2 ^ 64)), (.and a rd ra rb,
  greg s a ra &&& greg s a rb), (.or a rd ra rb, greg s a ra ||| greg s a rb), (.xor a rd ra rb, greg s a ra ^^^ greg
  s a rb), (.shl a rd ra rb, greg s a ra * 2 ^ (greg s a rb % 64)), (.shr a rd ra rb, greg s a ra % 2 ^ 64 / 2 ^ (greg
  s a rb % 64)), (.sar a rd ra rb, wrapInt 64 (signed 64 (greg s a ra) / ((2 ^ (greg s a rb % 64) : Nat) : Int))),
  (.mul a rd ra rb, greg s a ra * greg s a rb), (.mulhu a rd ra rb, greg s a ra * greg s a rb / 2 ^ 64), (.minu a rd
  ra rb, if greg s a ra < greg s a rb then greg s a ra else greg s a rb), (.maxu a rd ra rb, if greg s a ra < greg s a
  rb then greg s a rb else greg s a ra), (.slt a rd ra rb, if signed 64 (greg s a ra) < signed 64 (greg s a rb) then 1
  else 0), (.sltu a rd ra rb, if greg s a ra < greg s a rb then 1 else 0), (.crcc a rd ra rb fn, crcStep fn (fn / 2)
  (greg s a ra) (greg s a rb))]) :=
  ⟨rlyOn { g := [(3, 0x8000000000000005), (4, 0xFFFFFFFF0000F080), (5, 77)] } State.reset, 8, 6, 3, 4, 5, .shr 8 6 3 4, greg (rlyOn { g := [(3, 0x8000000000000005), (4, 0xFFFFFFFF0000F080), (5, 77)] } State.reset) 8 3 % 2 ^ 64 / 2 ^ (greg (rlyOn { g := [(3, 0x8000000000000005), (4, 0xFFFFFFFF0000F080), (5, 77)] } State.reset) 8 4 % 64), by decide +kernel⟩

theorem meets_RelayArithmetic_1_8 : ∃ (s : State) (a rd ra rb fn : Nat) (i : Instr) (v : Nat), (stopped s = false) ∧
  (mayIssue s a = true) ∧ (waitsForLoad s a [rd, ra, rb] = false) ∧ (fetchFault s a = none) ∧ ((i, v) ∈ [(.add a rd ra
  rb, greg s a ra + greg s a rb), (.sub a rd ra rb, greg s a ra + (2 ^ 64 - greg s a rb % 2 ^ 64)), (.and a rd ra rb,
  greg s a ra &&& greg s a rb), (.or a rd ra rb, greg s a ra ||| greg s a rb), (.xor a rd ra rb, greg s a ra ^^^ greg
  s a rb), (.shl a rd ra rb, greg s a ra * 2 ^ (greg s a rb % 64)), (.shr a rd ra rb, greg s a ra % 2 ^ 64 / 2 ^ (greg
  s a rb % 64)), (.sar a rd ra rb, wrapInt 64 (signed 64 (greg s a ra) / ((2 ^ (greg s a rb % 64) : Nat) : Int))),
  (.mul a rd ra rb, greg s a ra * greg s a rb), (.mulhu a rd ra rb, greg s a ra * greg s a rb / 2 ^ 64), (.minu a rd
  ra rb, if greg s a ra < greg s a rb then greg s a ra else greg s a rb), (.maxu a rd ra rb, if greg s a ra < greg s a
  rb then greg s a rb else greg s a ra), (.slt a rd ra rb, if signed 64 (greg s a ra) < signed 64 (greg s a rb) then 1
  else 0), (.sltu a rd ra rb, if greg s a ra < greg s a rb then 1 else 0), (.crcc a rd ra rb fn, crcStep fn (fn / 2)
  (greg s a ra) (greg s a rb))]) :=
  ⟨rlyOn { g := [(3, 0x8000000000000005), (4, 0xFFFFFFFF0000F080), (5, 77)] } State.reset, 8, 6, 3, 4, 5, .sar 8 6 3 4, wrapInt 64 (signed 64 (greg (rlyOn { g := [(3, 0x8000000000000005), (4, 0xFFFFFFFF0000F080), (5, 77)] } State.reset) 8 3) / ((2 ^ (greg (rlyOn { g := [(3, 0x8000000000000005), (4, 0xFFFFFFFF0000F080), (5, 77)] } State.reset) 8 4 % 64) : Nat) : Int)), by decide +kernel⟩

theorem meets_RelayArithmetic_1_9 : ∃ (s : State) (a rd ra rb fn : Nat) (i : Instr) (v : Nat), (stopped s = false) ∧
  (mayIssue s a = true) ∧ (waitsForLoad s a [rd, ra, rb] = false) ∧ (fetchFault s a = none) ∧ ((i, v) ∈ [(.add a rd ra
  rb, greg s a ra + greg s a rb), (.sub a rd ra rb, greg s a ra + (2 ^ 64 - greg s a rb % 2 ^ 64)), (.and a rd ra rb,
  greg s a ra &&& greg s a rb), (.or a rd ra rb, greg s a ra ||| greg s a rb), (.xor a rd ra rb, greg s a ra ^^^ greg
  s a rb), (.shl a rd ra rb, greg s a ra * 2 ^ (greg s a rb % 64)), (.shr a rd ra rb, greg s a ra % 2 ^ 64 / 2 ^ (greg
  s a rb % 64)), (.sar a rd ra rb, wrapInt 64 (signed 64 (greg s a ra) / ((2 ^ (greg s a rb % 64) : Nat) : Int))),
  (.mul a rd ra rb, greg s a ra * greg s a rb), (.mulhu a rd ra rb, greg s a ra * greg s a rb / 2 ^ 64), (.minu a rd
  ra rb, if greg s a ra < greg s a rb then greg s a ra else greg s a rb), (.maxu a rd ra rb, if greg s a ra < greg s a
  rb then greg s a rb else greg s a ra), (.slt a rd ra rb, if signed 64 (greg s a ra) < signed 64 (greg s a rb) then 1
  else 0), (.sltu a rd ra rb, if greg s a ra < greg s a rb then 1 else 0), (.crcc a rd ra rb fn, crcStep fn (fn / 2)
  (greg s a ra) (greg s a rb))]) :=
  ⟨rlyOn { g := [(3, 0x8000000000000005), (4, 0xFFFFFFFF0000F080), (5, 77)] } State.reset, 8, 6, 3, 4, 5, .mul 8 6 3 4, greg (rlyOn { g := [(3, 0x8000000000000005), (4, 0xFFFFFFFF0000F080), (5, 77)] } State.reset) 8 3 * greg (rlyOn { g := [(3, 0x8000000000000005), (4, 0xFFFFFFFF0000F080), (5, 77)] } State.reset) 8 4, by decide +kernel⟩

theorem meets_RelayArithmetic_1_10 : ∃ (s : State) (a rd ra rb fn : Nat) (i : Instr) (v : Nat), (stopped s = false) ∧
  (mayIssue s a = true) ∧ (waitsForLoad s a [rd, ra, rb] = false) ∧ (fetchFault s a = none) ∧ ((i, v) ∈ [(.add a rd ra
  rb, greg s a ra + greg s a rb), (.sub a rd ra rb, greg s a ra + (2 ^ 64 - greg s a rb % 2 ^ 64)), (.and a rd ra rb,
  greg s a ra &&& greg s a rb), (.or a rd ra rb, greg s a ra ||| greg s a rb), (.xor a rd ra rb, greg s a ra ^^^ greg
  s a rb), (.shl a rd ra rb, greg s a ra * 2 ^ (greg s a rb % 64)), (.shr a rd ra rb, greg s a ra % 2 ^ 64 / 2 ^ (greg
  s a rb % 64)), (.sar a rd ra rb, wrapInt 64 (signed 64 (greg s a ra) / ((2 ^ (greg s a rb % 64) : Nat) : Int))),
  (.mul a rd ra rb, greg s a ra * greg s a rb), (.mulhu a rd ra rb, greg s a ra * greg s a rb / 2 ^ 64), (.minu a rd
  ra rb, if greg s a ra < greg s a rb then greg s a ra else greg s a rb), (.maxu a rd ra rb, if greg s a ra < greg s a
  rb then greg s a rb else greg s a ra), (.slt a rd ra rb, if signed 64 (greg s a ra) < signed 64 (greg s a rb) then 1
  else 0), (.sltu a rd ra rb, if greg s a ra < greg s a rb then 1 else 0), (.crcc a rd ra rb fn, crcStep fn (fn / 2)
  (greg s a ra) (greg s a rb))]) :=
  ⟨rlyOn { g := [(3, 0x8000000000000005), (4, 0xFFFFFFFF0000F080), (5, 77)] } State.reset, 8, 6, 3, 4, 5, .mulhu 8 6 3 4, greg (rlyOn { g := [(3, 0x8000000000000005), (4, 0xFFFFFFFF0000F080), (5, 77)] } State.reset) 8 3 * greg (rlyOn { g := [(3, 0x8000000000000005), (4, 0xFFFFFFFF0000F080), (5, 77)] } State.reset) 8 4 / 2 ^ 64, by decide +kernel⟩

theorem meets_RelayArithmetic_1_11 : ∃ (s : State) (a rd ra rb fn : Nat) (i : Instr) (v : Nat), (stopped s = false) ∧
  (mayIssue s a = true) ∧ (waitsForLoad s a [rd, ra, rb] = false) ∧ (fetchFault s a = none) ∧ ((i, v) ∈ [(.add a rd ra
  rb, greg s a ra + greg s a rb), (.sub a rd ra rb, greg s a ra + (2 ^ 64 - greg s a rb % 2 ^ 64)), (.and a rd ra rb,
  greg s a ra &&& greg s a rb), (.or a rd ra rb, greg s a ra ||| greg s a rb), (.xor a rd ra rb, greg s a ra ^^^ greg
  s a rb), (.shl a rd ra rb, greg s a ra * 2 ^ (greg s a rb % 64)), (.shr a rd ra rb, greg s a ra % 2 ^ 64 / 2 ^ (greg
  s a rb % 64)), (.sar a rd ra rb, wrapInt 64 (signed 64 (greg s a ra) / ((2 ^ (greg s a rb % 64) : Nat) : Int))),
  (.mul a rd ra rb, greg s a ra * greg s a rb), (.mulhu a rd ra rb, greg s a ra * greg s a rb / 2 ^ 64), (.minu a rd
  ra rb, if greg s a ra < greg s a rb then greg s a ra else greg s a rb), (.maxu a rd ra rb, if greg s a ra < greg s a
  rb then greg s a rb else greg s a ra), (.slt a rd ra rb, if signed 64 (greg s a ra) < signed 64 (greg s a rb) then 1
  else 0), (.sltu a rd ra rb, if greg s a ra < greg s a rb then 1 else 0), (.crcc a rd ra rb fn, crcStep fn (fn / 2)
  (greg s a ra) (greg s a rb))]) :=
  ⟨rlyOn { g := [(3, 0x8000000000000005), (4, 0xFFFFFFFF0000F080), (5, 77)] } State.reset, 8, 6, 3, 4, 5, .minu 8 6 3 4, if greg (rlyOn { g := [(3, 0x8000000000000005), (4, 0xFFFFFFFF0000F080), (5, 77)] } State.reset) 8 3 < greg (rlyOn { g := [(3, 0x8000000000000005), (4, 0xFFFFFFFF0000F080), (5, 77)] } State.reset) 8 4 then greg (rlyOn { g := [(3, 0x8000000000000005), (4, 0xFFFFFFFF0000F080), (5, 77)] } State.reset) 8 3 else greg (rlyOn { g := [(3, 0x8000000000000005), (4, 0xFFFFFFFF0000F080), (5, 77)] } State.reset) 8 4, by decide +kernel⟩

theorem meets_RelayArithmetic_1_12 : ∃ (s : State) (a rd ra rb fn : Nat) (i : Instr) (v : Nat), (stopped s = false) ∧
  (mayIssue s a = true) ∧ (waitsForLoad s a [rd, ra, rb] = false) ∧ (fetchFault s a = none) ∧ ((i, v) ∈ [(.add a rd ra
  rb, greg s a ra + greg s a rb), (.sub a rd ra rb, greg s a ra + (2 ^ 64 - greg s a rb % 2 ^ 64)), (.and a rd ra rb,
  greg s a ra &&& greg s a rb), (.or a rd ra rb, greg s a ra ||| greg s a rb), (.xor a rd ra rb, greg s a ra ^^^ greg
  s a rb), (.shl a rd ra rb, greg s a ra * 2 ^ (greg s a rb % 64)), (.shr a rd ra rb, greg s a ra % 2 ^ 64 / 2 ^ (greg
  s a rb % 64)), (.sar a rd ra rb, wrapInt 64 (signed 64 (greg s a ra) / ((2 ^ (greg s a rb % 64) : Nat) : Int))),
  (.mul a rd ra rb, greg s a ra * greg s a rb), (.mulhu a rd ra rb, greg s a ra * greg s a rb / 2 ^ 64), (.minu a rd
  ra rb, if greg s a ra < greg s a rb then greg s a ra else greg s a rb), (.maxu a rd ra rb, if greg s a ra < greg s a
  rb then greg s a rb else greg s a ra), (.slt a rd ra rb, if signed 64 (greg s a ra) < signed 64 (greg s a rb) then 1
  else 0), (.sltu a rd ra rb, if greg s a ra < greg s a rb then 1 else 0), (.crcc a rd ra rb fn, crcStep fn (fn / 2)
  (greg s a ra) (greg s a rb))]) :=
  ⟨rlyOn { g := [(3, 0x8000000000000005), (4, 0xFFFFFFFF0000F080), (5, 77)] } State.reset, 8, 6, 3, 4, 5, .maxu 8 6 3 4, if greg (rlyOn { g := [(3, 0x8000000000000005), (4, 0xFFFFFFFF0000F080), (5, 77)] } State.reset) 8 3 < greg (rlyOn { g := [(3, 0x8000000000000005), (4, 0xFFFFFFFF0000F080), (5, 77)] } State.reset) 8 4 then greg (rlyOn { g := [(3, 0x8000000000000005), (4, 0xFFFFFFFF0000F080), (5, 77)] } State.reset) 8 4 else greg (rlyOn { g := [(3, 0x8000000000000005), (4, 0xFFFFFFFF0000F080), (5, 77)] } State.reset) 8 3, by decide +kernel⟩

theorem meets_RelayArithmetic_1_13 : ∃ (s : State) (a rd ra rb fn : Nat) (i : Instr) (v : Nat), (stopped s = false) ∧
  (mayIssue s a = true) ∧ (waitsForLoad s a [rd, ra, rb] = false) ∧ (fetchFault s a = none) ∧ ((i, v) ∈ [(.add a rd ra
  rb, greg s a ra + greg s a rb), (.sub a rd ra rb, greg s a ra + (2 ^ 64 - greg s a rb % 2 ^ 64)), (.and a rd ra rb,
  greg s a ra &&& greg s a rb), (.or a rd ra rb, greg s a ra ||| greg s a rb), (.xor a rd ra rb, greg s a ra ^^^ greg
  s a rb), (.shl a rd ra rb, greg s a ra * 2 ^ (greg s a rb % 64)), (.shr a rd ra rb, greg s a ra % 2 ^ 64 / 2 ^ (greg
  s a rb % 64)), (.sar a rd ra rb, wrapInt 64 (signed 64 (greg s a ra) / ((2 ^ (greg s a rb % 64) : Nat) : Int))),
  (.mul a rd ra rb, greg s a ra * greg s a rb), (.mulhu a rd ra rb, greg s a ra * greg s a rb / 2 ^ 64), (.minu a rd
  ra rb, if greg s a ra < greg s a rb then greg s a ra else greg s a rb), (.maxu a rd ra rb, if greg s a ra < greg s a
  rb then greg s a rb else greg s a ra), (.slt a rd ra rb, if signed 64 (greg s a ra) < signed 64 (greg s a rb) then 1
  else 0), (.sltu a rd ra rb, if greg s a ra < greg s a rb then 1 else 0), (.crcc a rd ra rb fn, crcStep fn (fn / 2)
  (greg s a ra) (greg s a rb))]) :=
  ⟨rlyOn { g := [(3, 0x8000000000000005), (4, 0xFFFFFFFF0000F080), (5, 77)] } State.reset, 8, 6, 3, 4, 5, .slt 8 6 3 4, if signed 64 (greg (rlyOn { g := [(3, 0x8000000000000005), (4, 0xFFFFFFFF0000F080), (5, 77)] } State.reset) 8 3) < signed 64 (greg (rlyOn { g := [(3, 0x8000000000000005), (4, 0xFFFFFFFF0000F080), (5, 77)] } State.reset) 8 4) then 1 else 0, by decide +kernel⟩

theorem meets_RelayArithmetic_1_14 : ∃ (s : State) (a rd ra rb fn : Nat) (i : Instr) (v : Nat), (stopped s = false) ∧
  (mayIssue s a = true) ∧ (waitsForLoad s a [rd, ra, rb] = false) ∧ (fetchFault s a = none) ∧ ((i, v) ∈ [(.add a rd ra
  rb, greg s a ra + greg s a rb), (.sub a rd ra rb, greg s a ra + (2 ^ 64 - greg s a rb % 2 ^ 64)), (.and a rd ra rb,
  greg s a ra &&& greg s a rb), (.or a rd ra rb, greg s a ra ||| greg s a rb), (.xor a rd ra rb, greg s a ra ^^^ greg
  s a rb), (.shl a rd ra rb, greg s a ra * 2 ^ (greg s a rb % 64)), (.shr a rd ra rb, greg s a ra % 2 ^ 64 / 2 ^ (greg
  s a rb % 64)), (.sar a rd ra rb, wrapInt 64 (signed 64 (greg s a ra) / ((2 ^ (greg s a rb % 64) : Nat) : Int))),
  (.mul a rd ra rb, greg s a ra * greg s a rb), (.mulhu a rd ra rb, greg s a ra * greg s a rb / 2 ^ 64), (.minu a rd
  ra rb, if greg s a ra < greg s a rb then greg s a ra else greg s a rb), (.maxu a rd ra rb, if greg s a ra < greg s a
  rb then greg s a rb else greg s a ra), (.slt a rd ra rb, if signed 64 (greg s a ra) < signed 64 (greg s a rb) then 1
  else 0), (.sltu a rd ra rb, if greg s a ra < greg s a rb then 1 else 0), (.crcc a rd ra rb fn, crcStep fn (fn / 2)
  (greg s a ra) (greg s a rb))]) :=
  ⟨rlyOn { g := [(3, 0x8000000000000005), (4, 0xFFFFFFFF0000F080), (5, 77)] } State.reset, 8, 6, 3, 4, 5, .sltu 8 6 3 4, if greg (rlyOn { g := [(3, 0x8000000000000005), (4, 0xFFFFFFFF0000F080), (5, 77)] } State.reset) 8 3 < greg (rlyOn { g := [(3, 0x8000000000000005), (4, 0xFFFFFFFF0000F080), (5, 77)] } State.reset) 8 4 then 1 else 0, by decide +kernel⟩

theorem meets_RelayArithmetic_1_15 : ∃ (s : State) (a rd ra rb fn : Nat) (i : Instr) (v : Nat), (stopped s = false) ∧
  (mayIssue s a = true) ∧ (waitsForLoad s a [rd, ra, rb] = false) ∧ (fetchFault s a = none) ∧ ((i, v) ∈ [(.add a rd ra
  rb, greg s a ra + greg s a rb), (.sub a rd ra rb, greg s a ra + (2 ^ 64 - greg s a rb % 2 ^ 64)), (.and a rd ra rb,
  greg s a ra &&& greg s a rb), (.or a rd ra rb, greg s a ra ||| greg s a rb), (.xor a rd ra rb, greg s a ra ^^^ greg
  s a rb), (.shl a rd ra rb, greg s a ra * 2 ^ (greg s a rb % 64)), (.shr a rd ra rb, greg s a ra % 2 ^ 64 / 2 ^ (greg
  s a rb % 64)), (.sar a rd ra rb, wrapInt 64 (signed 64 (greg s a ra) / ((2 ^ (greg s a rb % 64) : Nat) : Int))),
  (.mul a rd ra rb, greg s a ra * greg s a rb), (.mulhu a rd ra rb, greg s a ra * greg s a rb / 2 ^ 64), (.minu a rd
  ra rb, if greg s a ra < greg s a rb then greg s a ra else greg s a rb), (.maxu a rd ra rb, if greg s a ra < greg s a
  rb then greg s a rb else greg s a ra), (.slt a rd ra rb, if signed 64 (greg s a ra) < signed 64 (greg s a rb) then 1
  else 0), (.sltu a rd ra rb, if greg s a ra < greg s a rb then 1 else 0), (.crcc a rd ra rb fn, crcStep fn (fn / 2)
  (greg s a ra) (greg s a rb))]) :=
  ⟨rlyOn { g := [(3, 0x8000000000000005), (4, 0xFFFFFFFF0000F080), (5, 77)] } State.reset, 8, 6, 3, 4, 5, .crcc 8 6 3 4 5, crcStep 5 (5 / 2) (greg (rlyOn { g := [(3, 0x8000000000000005), (4, 0xFFFFFFFF0000F080), (5, 77)] } State.reset) 8 3) (greg (rlyOn { g := [(3, 0x8000000000000005), (4, 0xFFFFFFFF0000F080), (5, 77)] } State.reset) 8 4), by decide +kernel⟩

theorem meets_RelayArithmetic_2_1 : ∃ (s : State) (a rd ra imm : Nat) (i : Instr) (v : Nat), (stopped s = false) ∧
  (mayIssue s a = true) ∧ (waitsForLoad s a [rd, ra] = false) ∧ (fetchFault s a = none) ∧ ((i, v) ∈ [(.bits a rd ra 0,
  clz64 (greg s a ra)), (.bits a rd ra 1, ctz64 (greg s a ra)), (.bits a rd ra 2, popCount 64 (greg s a ra)), (.bits a
  rd ra 3, ofBe (leBytes 8 (greg s a ra))), (.bits a rd ra 4, wrapInt 64 (signed 8 (greg s a ra))), (.bits a rd ra 5,
  wrapInt 64 (signed 16 (greg s a ra))), (.bits a rd ra 6, wrapInt 64 (signed 32 (greg s a ra))), (.addi a rd ra imm,
  greg s a ra + wrapInt 64 (signed 16 imm)), (.andi a rd ra imm, greg s a ra &&& imm % 65536), (.ori a rd ra imm, greg
  s a ra ||| imm % 65536), (.xori a rd ra imm, greg s a ra ^^^ imm % 65536), (.shi a rd ra (imm % 64), greg s a ra * 2
  ^ (imm % 64)), (.shi a rd ra (64 + imm % 64), greg s a ra % 2 ^ 64 / 2 ^ (imm % 64)), (.shi a rd ra (128 + imm %
  64), wrapInt 64 (signed 64 (greg s a ra) / ((2 ^ (imm % 64) : Nat) : Int))), (.slti a rd ra imm, if signed 64 (greg
  s a ra) < signed 16 imm then 1 else 0)]) :=
  ⟨rlyOn { g := [(3, 0x8000000000000005), (4, 0xFFFFFFFF0000F080), (5, 77)] } State.reset, 8, 4, 4, 0xFF83, .bits 8 4 4 0, clz64 (greg (rlyOn { g := [(3, 0x8000000000000005), (4, 0xFFFFFFFF0000F080), (5, 77)] } State.reset) 8 4), by decide +kernel⟩

theorem meets_RelayArithmetic_2_2 : ∃ (s : State) (a rd ra imm : Nat) (i : Instr) (v : Nat), (stopped s = false) ∧
  (mayIssue s a = true) ∧ (waitsForLoad s a [rd, ra] = false) ∧ (fetchFault s a = none) ∧ ((i, v) ∈ [(.bits a rd ra 0,
  clz64 (greg s a ra)), (.bits a rd ra 1, ctz64 (greg s a ra)), (.bits a rd ra 2, popCount 64 (greg s a ra)), (.bits a
  rd ra 3, ofBe (leBytes 8 (greg s a ra))), (.bits a rd ra 4, wrapInt 64 (signed 8 (greg s a ra))), (.bits a rd ra 5,
  wrapInt 64 (signed 16 (greg s a ra))), (.bits a rd ra 6, wrapInt 64 (signed 32 (greg s a ra))), (.addi a rd ra imm,
  greg s a ra + wrapInt 64 (signed 16 imm)), (.andi a rd ra imm, greg s a ra &&& imm % 65536), (.ori a rd ra imm, greg
  s a ra ||| imm % 65536), (.xori a rd ra imm, greg s a ra ^^^ imm % 65536), (.shi a rd ra (imm % 64), greg s a ra * 2
  ^ (imm % 64)), (.shi a rd ra (64 + imm % 64), greg s a ra % 2 ^ 64 / 2 ^ (imm % 64)), (.shi a rd ra (128 + imm %
  64), wrapInt 64 (signed 64 (greg s a ra) / ((2 ^ (imm % 64) : Nat) : Int))), (.slti a rd ra imm, if signed 64 (greg
  s a ra) < signed 16 imm then 1 else 0)]) :=
  ⟨rlyOn { g := [(3, 0x8000000000000005), (4, 0xFFFFFFFF0000F080), (5, 77)] } State.reset, 8, 4, 4, 0xFF83, .bits 8 4 4 1, ctz64 (greg (rlyOn { g := [(3, 0x8000000000000005), (4, 0xFFFFFFFF0000F080), (5, 77)] } State.reset) 8 4), by decide +kernel⟩

theorem meets_RelayArithmetic_2_3 : ∃ (s : State) (a rd ra imm : Nat) (i : Instr) (v : Nat), (stopped s = false) ∧
  (mayIssue s a = true) ∧ (waitsForLoad s a [rd, ra] = false) ∧ (fetchFault s a = none) ∧ ((i, v) ∈ [(.bits a rd ra 0,
  clz64 (greg s a ra)), (.bits a rd ra 1, ctz64 (greg s a ra)), (.bits a rd ra 2, popCount 64 (greg s a ra)), (.bits a
  rd ra 3, ofBe (leBytes 8 (greg s a ra))), (.bits a rd ra 4, wrapInt 64 (signed 8 (greg s a ra))), (.bits a rd ra 5,
  wrapInt 64 (signed 16 (greg s a ra))), (.bits a rd ra 6, wrapInt 64 (signed 32 (greg s a ra))), (.addi a rd ra imm,
  greg s a ra + wrapInt 64 (signed 16 imm)), (.andi a rd ra imm, greg s a ra &&& imm % 65536), (.ori a rd ra imm, greg
  s a ra ||| imm % 65536), (.xori a rd ra imm, greg s a ra ^^^ imm % 65536), (.shi a rd ra (imm % 64), greg s a ra * 2
  ^ (imm % 64)), (.shi a rd ra (64 + imm % 64), greg s a ra % 2 ^ 64 / 2 ^ (imm % 64)), (.shi a rd ra (128 + imm %
  64), wrapInt 64 (signed 64 (greg s a ra) / ((2 ^ (imm % 64) : Nat) : Int))), (.slti a rd ra imm, if signed 64 (greg
  s a ra) < signed 16 imm then 1 else 0)]) :=
  ⟨rlyOn { g := [(3, 0x8000000000000005), (4, 0xFFFFFFFF0000F080), (5, 77)] } State.reset, 8, 4, 4, 0xFF83, .bits 8 4 4 2, popCount 64 (greg (rlyOn { g := [(3, 0x8000000000000005), (4, 0xFFFFFFFF0000F080), (5, 77)] } State.reset) 8 4), by decide +kernel⟩

theorem meets_RelayArithmetic_2_4 : ∃ (s : State) (a rd ra imm : Nat) (i : Instr) (v : Nat), (stopped s = false) ∧
  (mayIssue s a = true) ∧ (waitsForLoad s a [rd, ra] = false) ∧ (fetchFault s a = none) ∧ ((i, v) ∈ [(.bits a rd ra 0,
  clz64 (greg s a ra)), (.bits a rd ra 1, ctz64 (greg s a ra)), (.bits a rd ra 2, popCount 64 (greg s a ra)), (.bits a
  rd ra 3, ofBe (leBytes 8 (greg s a ra))), (.bits a rd ra 4, wrapInt 64 (signed 8 (greg s a ra))), (.bits a rd ra 5,
  wrapInt 64 (signed 16 (greg s a ra))), (.bits a rd ra 6, wrapInt 64 (signed 32 (greg s a ra))), (.addi a rd ra imm,
  greg s a ra + wrapInt 64 (signed 16 imm)), (.andi a rd ra imm, greg s a ra &&& imm % 65536), (.ori a rd ra imm, greg
  s a ra ||| imm % 65536), (.xori a rd ra imm, greg s a ra ^^^ imm % 65536), (.shi a rd ra (imm % 64), greg s a ra * 2
  ^ (imm % 64)), (.shi a rd ra (64 + imm % 64), greg s a ra % 2 ^ 64 / 2 ^ (imm % 64)), (.shi a rd ra (128 + imm %
  64), wrapInt 64 (signed 64 (greg s a ra) / ((2 ^ (imm % 64) : Nat) : Int))), (.slti a rd ra imm, if signed 64 (greg
  s a ra) < signed 16 imm then 1 else 0)]) :=
  ⟨rlyOn { g := [(3, 0x8000000000000005), (4, 0xFFFFFFFF0000F080), (5, 77)] } State.reset, 8, 4, 4, 0xFF83, .bits 8 4 4 3, ofBe (leBytes 8 (greg (rlyOn { g := [(3, 0x8000000000000005), (4, 0xFFFFFFFF0000F080), (5, 77)] } State.reset) 8 4)), by decide +kernel⟩

theorem meets_RelayArithmetic_2_5 : ∃ (s : State) (a rd ra imm : Nat) (i : Instr) (v : Nat), (stopped s = false) ∧
  (mayIssue s a = true) ∧ (waitsForLoad s a [rd, ra] = false) ∧ (fetchFault s a = none) ∧ ((i, v) ∈ [(.bits a rd ra 0,
  clz64 (greg s a ra)), (.bits a rd ra 1, ctz64 (greg s a ra)), (.bits a rd ra 2, popCount 64 (greg s a ra)), (.bits a
  rd ra 3, ofBe (leBytes 8 (greg s a ra))), (.bits a rd ra 4, wrapInt 64 (signed 8 (greg s a ra))), (.bits a rd ra 5,
  wrapInt 64 (signed 16 (greg s a ra))), (.bits a rd ra 6, wrapInt 64 (signed 32 (greg s a ra))), (.addi a rd ra imm,
  greg s a ra + wrapInt 64 (signed 16 imm)), (.andi a rd ra imm, greg s a ra &&& imm % 65536), (.ori a rd ra imm, greg
  s a ra ||| imm % 65536), (.xori a rd ra imm, greg s a ra ^^^ imm % 65536), (.shi a rd ra (imm % 64), greg s a ra * 2
  ^ (imm % 64)), (.shi a rd ra (64 + imm % 64), greg s a ra % 2 ^ 64 / 2 ^ (imm % 64)), (.shi a rd ra (128 + imm %
  64), wrapInt 64 (signed 64 (greg s a ra) / ((2 ^ (imm % 64) : Nat) : Int))), (.slti a rd ra imm, if signed 64 (greg
  s a ra) < signed 16 imm then 1 else 0)]) :=
  ⟨rlyOn { g := [(3, 0x8000000000000005), (4, 0xFFFFFFFF0000F080), (5, 77)] } State.reset, 8, 4, 4, 0xFF83, .bits 8 4 4 4, wrapInt 64 (signed 8 (greg (rlyOn { g := [(3, 0x8000000000000005), (4, 0xFFFFFFFF0000F080), (5, 77)] } State.reset) 8 4)), by decide +kernel⟩

theorem meets_RelayArithmetic_2_6 : ∃ (s : State) (a rd ra imm : Nat) (i : Instr) (v : Nat), (stopped s = false) ∧
  (mayIssue s a = true) ∧ (waitsForLoad s a [rd, ra] = false) ∧ (fetchFault s a = none) ∧ ((i, v) ∈ [(.bits a rd ra 0,
  clz64 (greg s a ra)), (.bits a rd ra 1, ctz64 (greg s a ra)), (.bits a rd ra 2, popCount 64 (greg s a ra)), (.bits a
  rd ra 3, ofBe (leBytes 8 (greg s a ra))), (.bits a rd ra 4, wrapInt 64 (signed 8 (greg s a ra))), (.bits a rd ra 5,
  wrapInt 64 (signed 16 (greg s a ra))), (.bits a rd ra 6, wrapInt 64 (signed 32 (greg s a ra))), (.addi a rd ra imm,
  greg s a ra + wrapInt 64 (signed 16 imm)), (.andi a rd ra imm, greg s a ra &&& imm % 65536), (.ori a rd ra imm, greg
  s a ra ||| imm % 65536), (.xori a rd ra imm, greg s a ra ^^^ imm % 65536), (.shi a rd ra (imm % 64), greg s a ra * 2
  ^ (imm % 64)), (.shi a rd ra (64 + imm % 64), greg s a ra % 2 ^ 64 / 2 ^ (imm % 64)), (.shi a rd ra (128 + imm %
  64), wrapInt 64 (signed 64 (greg s a ra) / ((2 ^ (imm % 64) : Nat) : Int))), (.slti a rd ra imm, if signed 64 (greg
  s a ra) < signed 16 imm then 1 else 0)]) :=
  ⟨rlyOn { g := [(3, 0x8000000000000005), (4, 0xFFFFFFFF0000F080), (5, 77)] } State.reset, 8, 4, 4, 0xFF83, .bits 8 4 4 5, wrapInt 64 (signed 16 (greg (rlyOn { g := [(3, 0x8000000000000005), (4, 0xFFFFFFFF0000F080), (5, 77)] } State.reset) 8 4)), by decide +kernel⟩

theorem meets_RelayArithmetic_2_7 : ∃ (s : State) (a rd ra imm : Nat) (i : Instr) (v : Nat), (stopped s = false) ∧
  (mayIssue s a = true) ∧ (waitsForLoad s a [rd, ra] = false) ∧ (fetchFault s a = none) ∧ ((i, v) ∈ [(.bits a rd ra 0,
  clz64 (greg s a ra)), (.bits a rd ra 1, ctz64 (greg s a ra)), (.bits a rd ra 2, popCount 64 (greg s a ra)), (.bits a
  rd ra 3, ofBe (leBytes 8 (greg s a ra))), (.bits a rd ra 4, wrapInt 64 (signed 8 (greg s a ra))), (.bits a rd ra 5,
  wrapInt 64 (signed 16 (greg s a ra))), (.bits a rd ra 6, wrapInt 64 (signed 32 (greg s a ra))), (.addi a rd ra imm,
  greg s a ra + wrapInt 64 (signed 16 imm)), (.andi a rd ra imm, greg s a ra &&& imm % 65536), (.ori a rd ra imm, greg
  s a ra ||| imm % 65536), (.xori a rd ra imm, greg s a ra ^^^ imm % 65536), (.shi a rd ra (imm % 64), greg s a ra * 2
  ^ (imm % 64)), (.shi a rd ra (64 + imm % 64), greg s a ra % 2 ^ 64 / 2 ^ (imm % 64)), (.shi a rd ra (128 + imm %
  64), wrapInt 64 (signed 64 (greg s a ra) / ((2 ^ (imm % 64) : Nat) : Int))), (.slti a rd ra imm, if signed 64 (greg
  s a ra) < signed 16 imm then 1 else 0)]) :=
  ⟨rlyOn { g := [(3, 0x8000000000000005), (4, 0xFFFFFFFF0000F080), (5, 77)] } State.reset, 8, 4, 4, 0xFF83, .bits 8 4 4 6, wrapInt 64 (signed 32 (greg (rlyOn { g := [(3, 0x8000000000000005), (4, 0xFFFFFFFF0000F080), (5, 77)] } State.reset) 8 4)), by decide +kernel⟩

theorem meets_RelayArithmetic_2_8 : ∃ (s : State) (a rd ra imm : Nat) (i : Instr) (v : Nat), (stopped s = false) ∧
  (mayIssue s a = true) ∧ (waitsForLoad s a [rd, ra] = false) ∧ (fetchFault s a = none) ∧ ((i, v) ∈ [(.bits a rd ra 0,
  clz64 (greg s a ra)), (.bits a rd ra 1, ctz64 (greg s a ra)), (.bits a rd ra 2, popCount 64 (greg s a ra)), (.bits a
  rd ra 3, ofBe (leBytes 8 (greg s a ra))), (.bits a rd ra 4, wrapInt 64 (signed 8 (greg s a ra))), (.bits a rd ra 5,
  wrapInt 64 (signed 16 (greg s a ra))), (.bits a rd ra 6, wrapInt 64 (signed 32 (greg s a ra))), (.addi a rd ra imm,
  greg s a ra + wrapInt 64 (signed 16 imm)), (.andi a rd ra imm, greg s a ra &&& imm % 65536), (.ori a rd ra imm, greg
  s a ra ||| imm % 65536), (.xori a rd ra imm, greg s a ra ^^^ imm % 65536), (.shi a rd ra (imm % 64), greg s a ra * 2
  ^ (imm % 64)), (.shi a rd ra (64 + imm % 64), greg s a ra % 2 ^ 64 / 2 ^ (imm % 64)), (.shi a rd ra (128 + imm %
  64), wrapInt 64 (signed 64 (greg s a ra) / ((2 ^ (imm % 64) : Nat) : Int))), (.slti a rd ra imm, if signed 64 (greg
  s a ra) < signed 16 imm then 1 else 0)]) :=
  ⟨rlyOn { g := [(3, 0x8000000000000005), (4, 0xFFFFFFFF0000F080), (5, 77)] } State.reset, 8, 4, 4, 0xFF83, .addi 8 4 4 0xFF83, greg (rlyOn { g := [(3, 0x8000000000000005), (4, 0xFFFFFFFF0000F080), (5, 77)] } State.reset) 8 4 + wrapInt 64 (signed 16 0xFF83), by decide +kernel⟩

theorem meets_RelayArithmetic_2_9 : ∃ (s : State) (a rd ra imm : Nat) (i : Instr) (v : Nat), (stopped s = false) ∧
  (mayIssue s a = true) ∧ (waitsForLoad s a [rd, ra] = false) ∧ (fetchFault s a = none) ∧ ((i, v) ∈ [(.bits a rd ra 0,
  clz64 (greg s a ra)), (.bits a rd ra 1, ctz64 (greg s a ra)), (.bits a rd ra 2, popCount 64 (greg s a ra)), (.bits a
  rd ra 3, ofBe (leBytes 8 (greg s a ra))), (.bits a rd ra 4, wrapInt 64 (signed 8 (greg s a ra))), (.bits a rd ra 5,
  wrapInt 64 (signed 16 (greg s a ra))), (.bits a rd ra 6, wrapInt 64 (signed 32 (greg s a ra))), (.addi a rd ra imm,
  greg s a ra + wrapInt 64 (signed 16 imm)), (.andi a rd ra imm, greg s a ra &&& imm % 65536), (.ori a rd ra imm, greg
  s a ra ||| imm % 65536), (.xori a rd ra imm, greg s a ra ^^^ imm % 65536), (.shi a rd ra (imm % 64), greg s a ra * 2
  ^ (imm % 64)), (.shi a rd ra (64 + imm % 64), greg s a ra % 2 ^ 64 / 2 ^ (imm % 64)), (.shi a rd ra (128 + imm %
  64), wrapInt 64 (signed 64 (greg s a ra) / ((2 ^ (imm % 64) : Nat) : Int))), (.slti a rd ra imm, if signed 64 (greg
  s a ra) < signed 16 imm then 1 else 0)]) :=
  ⟨rlyOn { g := [(3, 0x8000000000000005), (4, 0xFFFFFFFF0000F080), (5, 77)] } State.reset, 8, 4, 4, 0xFF83, .andi 8 4 4 0xFF83, greg (rlyOn { g := [(3, 0x8000000000000005), (4, 0xFFFFFFFF0000F080), (5, 77)] } State.reset) 8 4 &&& 0xFF83 % 65536, by decide +kernel⟩

theorem meets_RelayArithmetic_2_10 : ∃ (s : State) (a rd ra imm : Nat) (i : Instr) (v : Nat), (stopped s = false) ∧
  (mayIssue s a = true) ∧ (waitsForLoad s a [rd, ra] = false) ∧ (fetchFault s a = none) ∧ ((i, v) ∈ [(.bits a rd ra 0,
  clz64 (greg s a ra)), (.bits a rd ra 1, ctz64 (greg s a ra)), (.bits a rd ra 2, popCount 64 (greg s a ra)), (.bits a
  rd ra 3, ofBe (leBytes 8 (greg s a ra))), (.bits a rd ra 4, wrapInt 64 (signed 8 (greg s a ra))), (.bits a rd ra 5,
  wrapInt 64 (signed 16 (greg s a ra))), (.bits a rd ra 6, wrapInt 64 (signed 32 (greg s a ra))), (.addi a rd ra imm,
  greg s a ra + wrapInt 64 (signed 16 imm)), (.andi a rd ra imm, greg s a ra &&& imm % 65536), (.ori a rd ra imm, greg
  s a ra ||| imm % 65536), (.xori a rd ra imm, greg s a ra ^^^ imm % 65536), (.shi a rd ra (imm % 64), greg s a ra * 2
  ^ (imm % 64)), (.shi a rd ra (64 + imm % 64), greg s a ra % 2 ^ 64 / 2 ^ (imm % 64)), (.shi a rd ra (128 + imm %
  64), wrapInt 64 (signed 64 (greg s a ra) / ((2 ^ (imm % 64) : Nat) : Int))), (.slti a rd ra imm, if signed 64 (greg
  s a ra) < signed 16 imm then 1 else 0)]) :=
  ⟨rlyOn { g := [(3, 0x8000000000000005), (4, 0xFFFFFFFF0000F080), (5, 77)] } State.reset, 8, 4, 4, 0xFF83, .ori 8 4 4 0xFF83, greg (rlyOn { g := [(3, 0x8000000000000005), (4, 0xFFFFFFFF0000F080), (5, 77)] } State.reset) 8 4 ||| 0xFF83 % 65536, by decide +kernel⟩

theorem meets_RelayArithmetic_2_11 : ∃ (s : State) (a rd ra imm : Nat) (i : Instr) (v : Nat), (stopped s = false) ∧
  (mayIssue s a = true) ∧ (waitsForLoad s a [rd, ra] = false) ∧ (fetchFault s a = none) ∧ ((i, v) ∈ [(.bits a rd ra 0,
  clz64 (greg s a ra)), (.bits a rd ra 1, ctz64 (greg s a ra)), (.bits a rd ra 2, popCount 64 (greg s a ra)), (.bits a
  rd ra 3, ofBe (leBytes 8 (greg s a ra))), (.bits a rd ra 4, wrapInt 64 (signed 8 (greg s a ra))), (.bits a rd ra 5,
  wrapInt 64 (signed 16 (greg s a ra))), (.bits a rd ra 6, wrapInt 64 (signed 32 (greg s a ra))), (.addi a rd ra imm,
  greg s a ra + wrapInt 64 (signed 16 imm)), (.andi a rd ra imm, greg s a ra &&& imm % 65536), (.ori a rd ra imm, greg
  s a ra ||| imm % 65536), (.xori a rd ra imm, greg s a ra ^^^ imm % 65536), (.shi a rd ra (imm % 64), greg s a ra * 2
  ^ (imm % 64)), (.shi a rd ra (64 + imm % 64), greg s a ra % 2 ^ 64 / 2 ^ (imm % 64)), (.shi a rd ra (128 + imm %
  64), wrapInt 64 (signed 64 (greg s a ra) / ((2 ^ (imm % 64) : Nat) : Int))), (.slti a rd ra imm, if signed 64 (greg
  s a ra) < signed 16 imm then 1 else 0)]) :=
  ⟨rlyOn { g := [(3, 0x8000000000000005), (4, 0xFFFFFFFF0000F080), (5, 77)] } State.reset, 8, 4, 4, 0xFF83, .xori 8 4 4 0xFF83, greg (rlyOn { g := [(3, 0x8000000000000005), (4, 0xFFFFFFFF0000F080), (5, 77)] } State.reset) 8 4 ^^^ 0xFF83 % 65536, by decide +kernel⟩

theorem meets_RelayArithmetic_2_12 : ∃ (s : State) (a rd ra imm : Nat) (i : Instr) (v : Nat), (stopped s = false) ∧
  (mayIssue s a = true) ∧ (waitsForLoad s a [rd, ra] = false) ∧ (fetchFault s a = none) ∧ ((i, v) ∈ [(.bits a rd ra 0,
  clz64 (greg s a ra)), (.bits a rd ra 1, ctz64 (greg s a ra)), (.bits a rd ra 2, popCount 64 (greg s a ra)), (.bits a
  rd ra 3, ofBe (leBytes 8 (greg s a ra))), (.bits a rd ra 4, wrapInt 64 (signed 8 (greg s a ra))), (.bits a rd ra 5,
  wrapInt 64 (signed 16 (greg s a ra))), (.bits a rd ra 6, wrapInt 64 (signed 32 (greg s a ra))), (.addi a rd ra imm,
  greg s a ra + wrapInt 64 (signed 16 imm)), (.andi a rd ra imm, greg s a ra &&& imm % 65536), (.ori a rd ra imm, greg
  s a ra ||| imm % 65536), (.xori a rd ra imm, greg s a ra ^^^ imm % 65536), (.shi a rd ra (imm % 64), greg s a ra * 2
  ^ (imm % 64)), (.shi a rd ra (64 + imm % 64), greg s a ra % 2 ^ 64 / 2 ^ (imm % 64)), (.shi a rd ra (128 + imm %
  64), wrapInt 64 (signed 64 (greg s a ra) / ((2 ^ (imm % 64) : Nat) : Int))), (.slti a rd ra imm, if signed 64 (greg
  s a ra) < signed 16 imm then 1 else 0)]) :=
  ⟨rlyOn { g := [(3, 0x8000000000000005), (4, 0xFFFFFFFF0000F080), (5, 77)] } State.reset, 8, 4, 4, 0xFF83, .shi 8 4 4 (0xFF83 % 64), greg (rlyOn { g := [(3, 0x8000000000000005), (4, 0xFFFFFFFF0000F080), (5, 77)] } State.reset) 8 4 * 2 ^ (0xFF83 % 64), by decide +kernel⟩

theorem meets_RelayArithmetic_2_13 : ∃ (s : State) (a rd ra imm : Nat) (i : Instr) (v : Nat), (stopped s = false) ∧
  (mayIssue s a = true) ∧ (waitsForLoad s a [rd, ra] = false) ∧ (fetchFault s a = none) ∧ ((i, v) ∈ [(.bits a rd ra 0,
  clz64 (greg s a ra)), (.bits a rd ra 1, ctz64 (greg s a ra)), (.bits a rd ra 2, popCount 64 (greg s a ra)), (.bits a
  rd ra 3, ofBe (leBytes 8 (greg s a ra))), (.bits a rd ra 4, wrapInt 64 (signed 8 (greg s a ra))), (.bits a rd ra 5,
  wrapInt 64 (signed 16 (greg s a ra))), (.bits a rd ra 6, wrapInt 64 (signed 32 (greg s a ra))), (.addi a rd ra imm,
  greg s a ra + wrapInt 64 (signed 16 imm)), (.andi a rd ra imm, greg s a ra &&& imm % 65536), (.ori a rd ra imm, greg
  s a ra ||| imm % 65536), (.xori a rd ra imm, greg s a ra ^^^ imm % 65536), (.shi a rd ra (imm % 64), greg s a ra * 2
  ^ (imm % 64)), (.shi a rd ra (64 + imm % 64), greg s a ra % 2 ^ 64 / 2 ^ (imm % 64)), (.shi a rd ra (128 + imm %
  64), wrapInt 64 (signed 64 (greg s a ra) / ((2 ^ (imm % 64) : Nat) : Int))), (.slti a rd ra imm, if signed 64 (greg
  s a ra) < signed 16 imm then 1 else 0)]) :=
  ⟨rlyOn { g := [(3, 0x8000000000000005), (4, 0xFFFFFFFF0000F080), (5, 77)] } State.reset, 8, 4, 4, 0xFF83, .shi 8 4 4 (64 + 0xFF83 % 64), greg (rlyOn { g := [(3, 0x8000000000000005), (4, 0xFFFFFFFF0000F080), (5, 77)] } State.reset) 8 4 % 2 ^ 64 / 2 ^ (0xFF83 % 64), by decide +kernel⟩

theorem meets_RelayArithmetic_2_14 : ∃ (s : State) (a rd ra imm : Nat) (i : Instr) (v : Nat), (stopped s = false) ∧
  (mayIssue s a = true) ∧ (waitsForLoad s a [rd, ra] = false) ∧ (fetchFault s a = none) ∧ ((i, v) ∈ [(.bits a rd ra 0,
  clz64 (greg s a ra)), (.bits a rd ra 1, ctz64 (greg s a ra)), (.bits a rd ra 2, popCount 64 (greg s a ra)), (.bits a
  rd ra 3, ofBe (leBytes 8 (greg s a ra))), (.bits a rd ra 4, wrapInt 64 (signed 8 (greg s a ra))), (.bits a rd ra 5,
  wrapInt 64 (signed 16 (greg s a ra))), (.bits a rd ra 6, wrapInt 64 (signed 32 (greg s a ra))), (.addi a rd ra imm,
  greg s a ra + wrapInt 64 (signed 16 imm)), (.andi a rd ra imm, greg s a ra &&& imm % 65536), (.ori a rd ra imm, greg
  s a ra ||| imm % 65536), (.xori a rd ra imm, greg s a ra ^^^ imm % 65536), (.shi a rd ra (imm % 64), greg s a ra * 2
  ^ (imm % 64)), (.shi a rd ra (64 + imm % 64), greg s a ra % 2 ^ 64 / 2 ^ (imm % 64)), (.shi a rd ra (128 + imm %
  64), wrapInt 64 (signed 64 (greg s a ra) / ((2 ^ (imm % 64) : Nat) : Int))), (.slti a rd ra imm, if signed 64 (greg
  s a ra) < signed 16 imm then 1 else 0)]) :=
  ⟨rlyOn { g := [(3, 0x8000000000000005), (4, 0xFFFFFFFF0000F080), (5, 77)] } State.reset, 8, 4, 4, 0xFF83, .shi 8 4 4 (128 + 0xFF83 % 64), wrapInt 64 (signed 64 (greg (rlyOn { g := [(3, 0x8000000000000005), (4, 0xFFFFFFFF0000F080), (5, 77)] } State.reset) 8 4) / ((2 ^ (0xFF83 % 64) : Nat) : Int)), by decide +kernel⟩

theorem meets_RelayArithmetic_2_15 : ∃ (s : State) (a rd ra imm : Nat) (i : Instr) (v : Nat), (stopped s = false) ∧
  (mayIssue s a = true) ∧ (waitsForLoad s a [rd, ra] = false) ∧ (fetchFault s a = none) ∧ ((i, v) ∈ [(.bits a rd ra 0,
  clz64 (greg s a ra)), (.bits a rd ra 1, ctz64 (greg s a ra)), (.bits a rd ra 2, popCount 64 (greg s a ra)), (.bits a
  rd ra 3, ofBe (leBytes 8 (greg s a ra))), (.bits a rd ra 4, wrapInt 64 (signed 8 (greg s a ra))), (.bits a rd ra 5,
  wrapInt 64 (signed 16 (greg s a ra))), (.bits a rd ra 6, wrapInt 64 (signed 32 (greg s a ra))), (.addi a rd ra imm,
  greg s a ra + wrapInt 64 (signed 16 imm)), (.andi a rd ra imm, greg s a ra &&& imm % 65536), (.ori a rd ra imm, greg
  s a ra ||| imm % 65536), (.xori a rd ra imm, greg s a ra ^^^ imm % 65536), (.shi a rd ra (imm % 64), greg s a ra * 2
  ^ (imm % 64)), (.shi a rd ra (64 + imm % 64), greg s a ra % 2 ^ 64 / 2 ^ (imm % 64)), (.shi a rd ra (128 + imm %
  64), wrapInt 64 (signed 64 (greg s a ra) / ((2 ^ (imm % 64) : Nat) : Int))), (.slti a rd ra imm, if signed 64 (greg
  s a ra) < signed 16 imm then 1 else 0)]) :=
  ⟨rlyOn { g := [(3, 0x8000000000000005), (4, 0xFFFFFFFF0000F080), (5, 77)] } State.reset, 8, 4, 4, 0xFF83, .slti 8 4 4 0xFF83, if signed 64 (greg (rlyOn { g := [(3, 0x8000000000000005), (4, 0xFFFFFFFF0000F080), (5, 77)] } State.reset) 8 4) < signed 16 0xFF83 then 1 else 0, by decide +kernel⟩

theorem meets_RelayArithmetic_3_1 : ∃ (s : State) (a rd k imm : Nat) (i : Instr) (v : Nat), (stopped s = false) ∧
  (mayIssue s a = true) ∧ (waitsForLoad s a [rd] = false) ∧ (fetchFault s a = none) ∧ ((i, v) ∈ [(.movk a rd k imm,
  putBits (greg s a rd) (16 * (k % 4)) 16 imm), (.addpc a rd imm, ((agentPc s a : Int) + signed 16 imm * 4) % 2 ^ 64
  |>.toNat)]) :=
  ⟨rlyOn { g := [(3, 0x8000000000000005), (4, 0xFFFFFFFF0000F080), (5, 77)] } State.reset, 8, 5, 2, 0xFF83, .movk 8 5 2 0xFF83, putBits (greg (rlyOn { g := [(3, 0x8000000000000005), (4, 0xFFFFFFFF0000F080), (5, 77)] } State.reset) 8 5) (16 * (2 % 4)) 16 0xFF83, by decide +kernel⟩

theorem meets_RelayArithmetic_3_2 : ∃ (s : State) (a rd k imm : Nat) (i : Instr) (v : Nat), (stopped s = false) ∧
  (mayIssue s a = true) ∧ (waitsForLoad s a [rd] = false) ∧ (fetchFault s a = none) ∧ ((i, v) ∈ [(.movk a rd k imm,
  putBits (greg s a rd) (16 * (k % 4)) 16 imm), (.addpc a rd imm, ((agentPc s a : Int) + signed 16 imm * 4) % 2 ^ 64
  |>.toNat)]) :=
  ⟨rlyOn { g := [(3, 0x8000000000000005), (4, 0xFFFFFFFF0000F080), (5, 77)] } State.reset, 8, 5, 2, 0xFF83, .addpc 8 5 0xFF83, ((agentPc (rlyOn { g := [(3, 0x8000000000000005), (4, 0xFFFFFFFF0000F080), (5, 77)] } State.reset) 8 : Int) + signed 16 0xFF83 * 4) % 2 ^ 64 |>.toNat, by decide +kernel⟩

theorem meets_RelayArithmetic_4_1 : ∃ (s : State) (a rd ra rb fn : Nat) (i : Instr) (t : State), (stopped s = false) ∧
  (mayIssue s a = true) ∧ (waitsForLoad s a [rd, ra, rb] = false) ∧ (fetchFault s a = none) ∧ ((i, t) ∈ [(.add a rd ra
  rb, retireTo (countIssue s a) a rd (greg s a ra + greg s a rb)), (.sub a rd ra rb, retireTo (countIssue s a) a rd
  (greg s a ra + (2 ^ 64 - greg s a rb % 2 ^ 64))), (.and a rd ra rb, retireTo (countIssue s a) a rd (greg s a ra &&&
  greg s a rb)), (.or a rd ra rb, retireTo (countIssue s a) a rd (greg s a ra ||| greg s a rb)), (.xor a rd ra rb,
  retireTo (countIssue s a) a rd (greg s a ra ^^^ greg s a rb)), (.shl a rd ra rb, retireTo (countIssue s a) a rd
  (greg s a ra * 2 ^ (greg s a rb % 64))), (.shr a rd ra rb, retireTo (countIssue s a) a rd (greg s a ra % 2 ^ 64 / 2
  ^ (greg s a rb % 64))), (.sar a rd ra rb, retireTo (countIssue s a) a rd (wrapInt 64 (signed 64 (greg s a ra) / ((2
  ^ (greg s a rb % 64) : Nat) : Int)))), (.mul a rd ra rb, retireTo (countIssue s a) a rd (greg s a ra * greg s a
  rb)), (.mulhu a rd ra rb, retireTo (countIssue s a) a rd (greg s a ra * greg s a rb / 2 ^ 64)), (.minu a rd ra rb,
  retireTo (countIssue s a) a rd (if greg s a ra < greg s a rb then greg s a ra else greg s a rb)), (.maxu a rd ra rb,
  retireTo (countIssue s a) a rd (if greg s a ra < greg s a rb then greg s a rb else greg s a ra)), (.slt a rd ra rb,
  retireTo (countIssue s a) a rd (if signed 64 (greg s a ra) < signed 64 (greg s a rb) then 1 else 0)), (.sltu a rd ra
  rb, retireTo (countIssue s a) a rd (if greg s a ra < greg s a rb then 1 else 0)), (.crcc a rd ra rb fn, retireTo
  (countIssue s a) a rd (crcStep fn (fn / 2) (greg s a ra) (greg s a rb)))]) :=
  ⟨rlyOn { g := [(3, 0x8000000000000005), (4, 0xFFFFFFFF0000F080), (5, 77)] } State.reset, 8, 6, 3, 4, 5, .add 8 6 3 4, retireTo (countIssue (rlyOn { g := [(3, 0x8000000000000005), (4, 0xFFFFFFFF0000F080), (5, 77)] } State.reset) 8) 8 6 (greg (rlyOn { g := [(3, 0x8000000000000005), (4, 0xFFFFFFFF0000F080), (5, 77)] } State.reset) 8 3 + greg (rlyOn { g := [(3, 0x8000000000000005), (4, 0xFFFFFFFF0000F080), (5, 77)] } State.reset) 8 4), by decide +kernel⟩

theorem meets_RelayArithmetic_5_1 : ∃ (s : State) (a rd ra imm : Nat) (i : Instr) (t : State), (stopped s = false) ∧
  (mayIssue s a = true) ∧ (waitsForLoad s a [rd, ra] = false) ∧ (fetchFault s a = none) ∧ ((i, t) ∈ [(.bits a rd ra 0,
  retireTo (countIssue s a) a rd (clz64 (greg s a ra))), (.bits a rd ra 1, retireTo (countIssue s a) a rd (ctz64 (greg
  s a ra))), (.bits a rd ra 2, retireTo (countIssue s a) a rd (popCount 64 (greg s a ra))), (.bits a rd ra 3, retireTo
  (countIssue s a) a rd (ofBe (leBytes 8 (greg s a ra)))), (.bits a rd ra 4, retireTo (countIssue s a) a rd (wrapInt
  64 (signed 8 (greg s a ra)))), (.bits a rd ra 5, retireTo (countIssue s a) a rd (wrapInt 64 (signed 16 (greg s a
  ra)))), (.bits a rd ra 6, retireTo (countIssue s a) a rd (wrapInt 64 (signed 32 (greg s a ra)))), (.addi a rd ra
  imm, retireTo (countIssue s a) a rd (greg s a ra + wrapInt 64 (signed 16 imm))), (.andi a rd ra imm, retireTo
  (countIssue s a) a rd (greg s a ra &&& imm % 65536)), (.ori a rd ra imm, retireTo (countIssue s a) a rd (greg s a ra
  ||| imm % 65536)), (.xori a rd ra imm, retireTo (countIssue s a) a rd (greg s a ra ^^^ imm % 65536)), (.shi a rd ra
  (imm % 64), retireTo (countIssue s a) a rd (greg s a ra * 2 ^ (imm % 64))), (.shi a rd ra (64 + imm % 64), retireTo
  (countIssue s a) a rd (greg s a ra % 2 ^ 64 / 2 ^ (imm % 64))), (.shi a rd ra (128 + imm % 64), retireTo (countIssue
  s a) a rd (wrapInt 64 (signed 64 (greg s a ra) / ((2 ^ (imm % 64) : Nat) : Int)))), (.slti a rd ra imm, retireTo
  (countIssue s a) a rd (if signed 64 (greg s a ra) < signed 16 imm then 1 else 0))]) :=
  ⟨rlyOn { g := [(3, 0x8000000000000005), (4, 0xFFFFFFFF0000F080), (5, 77)] } State.reset, 8, 4, 4, 0xFF83, .bits 8 4 4 0, retireTo (countIssue (rlyOn { g := [(3, 0x8000000000000005), (4, 0xFFFFFFFF0000F080), (5, 77)] } State.reset) 8) 8 4 (clz64 (greg (rlyOn { g := [(3, 0x8000000000000005), (4, 0xFFFFFFFF0000F080), (5, 77)] } State.reset) 8 4)), by decide +kernel⟩

theorem meets_RelayArithmetic_6_1 : ∃ (s : State) (a rd k imm : Nat) (i : Instr) (t : State), (stopped s = false) ∧
  (mayIssue s a = true) ∧ (waitsForLoad s a [rd] = false) ∧ (fetchFault s a = none) ∧ ((i, t) ∈ [(.movk a rd k imm,
  retireTo (countIssue s a) a rd (putBits (greg s a rd) (16 * (k % 4)) 16 imm)), (.addpc a rd imm, retireTo
  (countIssue s a) a rd (((agentPc s a : Int) + signed 16 imm * 4) % 2 ^ 64 |>.toNat))]) :=
  ⟨rlyOn { g := [(3, 0x8000000000000005), (4, 0xFFFFFFFF0000F080), (5, 77)] } State.reset, 8, 5, 2, 0xFF83, .movk 8 5 2 0xFF83, retireTo (countIssue (rlyOn { g := [(3, 0x8000000000000005), (4, 0xFFFFFFFF0000F080), (5, 77)] } State.reset) 8) 8 5 (putBits (greg (rlyOn { g := [(3, 0x8000000000000005), (4, 0xFFFFFFFF0000F080), (5, 77)] } State.reset) 8 5) (16 * (2 % 4)) 16 0xFF83), by decide +kernel⟩

theorem meets_RelayArithmetic_7 : ∃ (s : State) (a rd ra : Nat), (stopped s = false) ∧ (mayIssue s a = true) ∧
  (waitsForLoad s a [rd, ra] = false) ∧ (fetchFault s a = none) :=
  ⟨rlyOn { g := [(3, 0x8000000000000005), (4, 0xFFFFFFFF0000F080), (5, 77)] } State.reset, 8, 3, 4, by decide +kernel⟩

theorem meets_RelayArithmetic_8 : ∃ (s : State) (a rd ra imm : Nat), (stopped s = false) ∧ (mayIssue s a = true) ∧
  (waitsForLoad s a [rd, ra] = false) ∧ (fetchFault s a = none) ∧ (192 ≤ imm) :=
  ⟨rlyOn { g := [(3, 0x8000000000000005), (4, 0xFFFFFFFF0000F080), (5, 77)] } State.reset, 8, 3, 4, 192, by decide +kernel⟩

theorem meets_RelayControlFlow_1_1 : ∃ (s : State) (a ra rb off : Nat) (i : Instr) (p : Bool), (stopped s = false) ∧
  (mayIssue s a = true) ∧ (waitsForLoad s a [ra, rb] = false) ∧ (fetchFault s a = none) ∧ ((i, p) ∈ [(.beq a ra rb
  off, decide (greg s a ra = greg s a rb)), (.bne a ra rb off, decide (greg s a ra ≠ greg s a rb)), (.blt a ra rb off,
  decide (signed 64 (greg s a ra) < signed 64 (greg s a rb))), (.bge a ra rb off, decide (signed 64 (greg s a rb) ≤
  signed 64 (greg s a ra))), (.bltu a ra rb off, decide (greg s a ra < greg s a rb)), (.bgeu a ra rb off, decide (greg
  s a rb ≤ greg s a ra))]) :=
  ⟨rlyOn { g := [(3, 0x8000000000000005), (4, 0xFFFFFFFF0000F080), (5, 77)] } State.reset, 8, 3, 3, 0xFFF0, .beq 8 3 3 0xFFF0, decide (greg (rlyOn { g := [(3, 0x8000000000000005), (4, 0xFFFFFFFF0000F080), (5, 77)] } State.reset) 8 3 = greg (rlyOn { g := [(3, 0x8000000000000005), (4, 0xFFFFFFFF0000F080), (5, 77)] } State.reset) 8 3), by decide +kernel⟩

theorem meets_RelayControlFlow_1_2 : ∃ (s : State) (a ra rb off : Nat) (i : Instr) (p : Bool), (stopped s = false) ∧
  (mayIssue s a = true) ∧ (waitsForLoad s a [ra, rb] = false) ∧ (fetchFault s a = none) ∧ ((i, p) ∈ [(.beq a ra rb
  off, decide (greg s a ra = greg s a rb)), (.bne a ra rb off, decide (greg s a ra ≠ greg s a rb)), (.blt a ra rb off,
  decide (signed 64 (greg s a ra) < signed 64 (greg s a rb))), (.bge a ra rb off, decide (signed 64 (greg s a rb) ≤
  signed 64 (greg s a ra))), (.bltu a ra rb off, decide (greg s a ra < greg s a rb)), (.bgeu a ra rb off, decide (greg
  s a rb ≤ greg s a ra))]) :=
  ⟨rlyOn { g := [(3, 0x8000000000000005), (4, 0xFFFFFFFF0000F080), (5, 77)] } State.reset, 8, 3, 3, 0xFFF0, .bne 8 3 3 0xFFF0, decide (greg (rlyOn { g := [(3, 0x8000000000000005), (4, 0xFFFFFFFF0000F080), (5, 77)] } State.reset) 8 3 ≠ greg (rlyOn { g := [(3, 0x8000000000000005), (4, 0xFFFFFFFF0000F080), (5, 77)] } State.reset) 8 3), by decide +kernel⟩

theorem meets_RelayControlFlow_1_3 : ∃ (s : State) (a ra rb off : Nat) (i : Instr) (p : Bool), (stopped s = false) ∧
  (mayIssue s a = true) ∧ (waitsForLoad s a [ra, rb] = false) ∧ (fetchFault s a = none) ∧ ((i, p) ∈ [(.beq a ra rb
  off, decide (greg s a ra = greg s a rb)), (.bne a ra rb off, decide (greg s a ra ≠ greg s a rb)), (.blt a ra rb off,
  decide (signed 64 (greg s a ra) < signed 64 (greg s a rb))), (.bge a ra rb off, decide (signed 64 (greg s a rb) ≤
  signed 64 (greg s a ra))), (.bltu a ra rb off, decide (greg s a ra < greg s a rb)), (.bgeu a ra rb off, decide (greg
  s a rb ≤ greg s a ra))]) :=
  ⟨rlyOn { g := [(3, 0x8000000000000005), (4, 0xFFFFFFFF0000F080), (5, 77)] } State.reset, 8, 3, 3, 0xFFF0, .blt 8 3 3 0xFFF0, decide (signed 64 (greg (rlyOn { g := [(3, 0x8000000000000005), (4, 0xFFFFFFFF0000F080), (5, 77)] } State.reset) 8 3) < signed 64 (greg (rlyOn { g := [(3, 0x8000000000000005), (4, 0xFFFFFFFF0000F080), (5, 77)] } State.reset) 8 3)), by decide +kernel⟩

theorem meets_RelayControlFlow_1_4 : ∃ (s : State) (a ra rb off : Nat) (i : Instr) (p : Bool), (stopped s = false) ∧
  (mayIssue s a = true) ∧ (waitsForLoad s a [ra, rb] = false) ∧ (fetchFault s a = none) ∧ ((i, p) ∈ [(.beq a ra rb
  off, decide (greg s a ra = greg s a rb)), (.bne a ra rb off, decide (greg s a ra ≠ greg s a rb)), (.blt a ra rb off,
  decide (signed 64 (greg s a ra) < signed 64 (greg s a rb))), (.bge a ra rb off, decide (signed 64 (greg s a rb) ≤
  signed 64 (greg s a ra))), (.bltu a ra rb off, decide (greg s a ra < greg s a rb)), (.bgeu a ra rb off, decide (greg
  s a rb ≤ greg s a ra))]) :=
  ⟨rlyOn { g := [(3, 0x8000000000000005), (4, 0xFFFFFFFF0000F080), (5, 77)] } State.reset, 8, 3, 3, 0xFFF0, .bge 8 3 3 0xFFF0, decide (signed 64 (greg (rlyOn { g := [(3, 0x8000000000000005), (4, 0xFFFFFFFF0000F080), (5, 77)] } State.reset) 8 3) ≤ signed 64 (greg (rlyOn { g := [(3, 0x8000000000000005), (4, 0xFFFFFFFF0000F080), (5, 77)] } State.reset) 8 3)), by decide +kernel⟩

theorem meets_RelayControlFlow_1_5 : ∃ (s : State) (a ra rb off : Nat) (i : Instr) (p : Bool), (stopped s = false) ∧
  (mayIssue s a = true) ∧ (waitsForLoad s a [ra, rb] = false) ∧ (fetchFault s a = none) ∧ ((i, p) ∈ [(.beq a ra rb
  off, decide (greg s a ra = greg s a rb)), (.bne a ra rb off, decide (greg s a ra ≠ greg s a rb)), (.blt a ra rb off,
  decide (signed 64 (greg s a ra) < signed 64 (greg s a rb))), (.bge a ra rb off, decide (signed 64 (greg s a rb) ≤
  signed 64 (greg s a ra))), (.bltu a ra rb off, decide (greg s a ra < greg s a rb)), (.bgeu a ra rb off, decide (greg
  s a rb ≤ greg s a ra))]) :=
  ⟨rlyOn { g := [(3, 0x8000000000000005), (4, 0xFFFFFFFF0000F080), (5, 77)] } State.reset, 8, 3, 3, 0xFFF0, .bltu 8 3 3 0xFFF0, decide (greg (rlyOn { g := [(3, 0x8000000000000005), (4, 0xFFFFFFFF0000F080), (5, 77)] } State.reset) 8 3 < greg (rlyOn { g := [(3, 0x8000000000000005), (4, 0xFFFFFFFF0000F080), (5, 77)] } State.reset) 8 3), by decide +kernel⟩

theorem meets_RelayControlFlow_1_6 : ∃ (s : State) (a ra rb off : Nat) (i : Instr) (p : Bool), (stopped s = false) ∧
  (mayIssue s a = true) ∧ (waitsForLoad s a [ra, rb] = false) ∧ (fetchFault s a = none) ∧ ((i, p) ∈ [(.beq a ra rb
  off, decide (greg s a ra = greg s a rb)), (.bne a ra rb off, decide (greg s a ra ≠ greg s a rb)), (.blt a ra rb off,
  decide (signed 64 (greg s a ra) < signed 64 (greg s a rb))), (.bge a ra rb off, decide (signed 64 (greg s a rb) ≤
  signed 64 (greg s a ra))), (.bltu a ra rb off, decide (greg s a ra < greg s a rb)), (.bgeu a ra rb off, decide (greg
  s a rb ≤ greg s a ra))]) :=
  ⟨rlyOn { g := [(3, 0x8000000000000005), (4, 0xFFFFFFFF0000F080), (5, 77)] } State.reset, 8, 3, 3, 0xFFF0, .bgeu 8 3 3 0xFFF0, decide (greg (rlyOn { g := [(3, 0x8000000000000005), (4, 0xFFFFFFFF0000F080), (5, 77)] } State.reset) 8 3 ≤ greg (rlyOn { g := [(3, 0x8000000000000005), (4, 0xFFFFFFFF0000F080), (5, 77)] } State.reset) 8 3), by decide +kernel⟩

theorem meets_RelayControlFlow_1_7 : ∃ (s : State) (a ra rb off : Nat) (i : Instr) (p : Bool), (stopped s = false) ∧
  (mayIssue s a = true) ∧ (waitsForLoad s a [ra, rb] = false) ∧ (fetchFault s a = none) ∧ ((i, p) ∈ [(.beq a ra rb
  off, decide (greg s a ra = greg s a rb)), (.bne a ra rb off, decide (greg s a ra ≠ greg s a rb)), (.blt a ra rb off,
  decide (signed 64 (greg s a ra) < signed 64 (greg s a rb))), (.bge a ra rb off, decide (signed 64 (greg s a rb) ≤
  signed 64 (greg s a ra))), (.bltu a ra rb off, decide (greg s a ra < greg s a rb)), (.bgeu a ra rb off, decide (greg
  s a rb ≤ greg s a ra))]) :=
  ⟨rlyOn { g := [(3, 0x8000000000000005), (4, 0xFFFFFFFF0000F080), (5, 77)] } State.reset, 8, 3, 4, 0xFFF0, .beq 8 3 4 0xFFF0, decide (greg (rlyOn { g := [(3, 0x8000000000000005), (4, 0xFFFFFFFF0000F080), (5, 77)] } State.reset) 8 3 = greg (rlyOn { g := [(3, 0x8000000000000005), (4, 0xFFFFFFFF0000F080), (5, 77)] } State.reset) 8 4), by decide +kernel⟩

theorem meets_RelayControlFlow_1_8 : ∃ (s : State) (a ra rb off : Nat) (i : Instr) (p : Bool), (stopped s = false) ∧
  (mayIssue s a = true) ∧ (waitsForLoad s a [ra, rb] = false) ∧ (fetchFault s a = none) ∧ ((i, p) ∈ [(.beq a ra rb
  off, decide (greg s a ra = greg s a rb)), (.bne a ra rb off, decide (greg s a ra ≠ greg s a rb)), (.blt a ra rb off,
  decide (signed 64 (greg s a ra) < signed 64 (greg s a rb))), (.bge a ra rb off, decide (signed 64 (greg s a rb) ≤
  signed 64 (greg s a ra))), (.bltu a ra rb off, decide (greg s a ra < greg s a rb)), (.bgeu a ra rb off, decide (greg
  s a rb ≤ greg s a ra))]) :=
  ⟨rlyOn { g := [(3, 0x8000000000000005), (4, 0xFFFFFFFF0000F080), (5, 77)] } State.reset, 8, 3, 4, 0xFFF0, .bne 8 3 4 0xFFF0, decide (greg (rlyOn { g := [(3, 0x8000000000000005), (4, 0xFFFFFFFF0000F080), (5, 77)] } State.reset) 8 3 ≠ greg (rlyOn { g := [(3, 0x8000000000000005), (4, 0xFFFFFFFF0000F080), (5, 77)] } State.reset) 8 4), by decide +kernel⟩

theorem meets_RelayControlFlow_1_9 : ∃ (s : State) (a ra rb off : Nat) (i : Instr) (p : Bool), (stopped s = false) ∧
  (mayIssue s a = true) ∧ (waitsForLoad s a [ra, rb] = false) ∧ (fetchFault s a = none) ∧ ((i, p) ∈ [(.beq a ra rb
  off, decide (greg s a ra = greg s a rb)), (.bne a ra rb off, decide (greg s a ra ≠ greg s a rb)), (.blt a ra rb off,
  decide (signed 64 (greg s a ra) < signed 64 (greg s a rb))), (.bge a ra rb off, decide (signed 64 (greg s a rb) ≤
  signed 64 (greg s a ra))), (.bltu a ra rb off, decide (greg s a ra < greg s a rb)), (.bgeu a ra rb off, decide (greg
  s a rb ≤ greg s a ra))]) :=
  ⟨rlyOn { g := [(3, 0x8000000000000005), (4, 0xFFFFFFFF0000F080), (5, 77)] } State.reset, 8, 3, 4, 0xFFF0, .blt 8 3 4 0xFFF0, decide (signed 64 (greg (rlyOn { g := [(3, 0x8000000000000005), (4, 0xFFFFFFFF0000F080), (5, 77)] } State.reset) 8 3) < signed 64 (greg (rlyOn { g := [(3, 0x8000000000000005), (4, 0xFFFFFFFF0000F080), (5, 77)] } State.reset) 8 4)), by decide +kernel⟩

theorem meets_RelayControlFlow_1_10 : ∃ (s : State) (a ra rb off : Nat) (i : Instr) (p : Bool), (stopped s = false) ∧
  (mayIssue s a = true) ∧ (waitsForLoad s a [ra, rb] = false) ∧ (fetchFault s a = none) ∧ ((i, p) ∈ [(.beq a ra rb
  off, decide (greg s a ra = greg s a rb)), (.bne a ra rb off, decide (greg s a ra ≠ greg s a rb)), (.blt a ra rb off,
  decide (signed 64 (greg s a ra) < signed 64 (greg s a rb))), (.bge a ra rb off, decide (signed 64 (greg s a rb) ≤
  signed 64 (greg s a ra))), (.bltu a ra rb off, decide (greg s a ra < greg s a rb)), (.bgeu a ra rb off, decide (greg
  s a rb ≤ greg s a ra))]) :=
  ⟨rlyOn { g := [(3, 0x8000000000000005), (4, 0xFFFFFFFF0000F080), (5, 77)] } State.reset, 8, 3, 4, 0xFFF0, .bge 8 3 4 0xFFF0, decide (signed 64 (greg (rlyOn { g := [(3, 0x8000000000000005), (4, 0xFFFFFFFF0000F080), (5, 77)] } State.reset) 8 4) ≤ signed 64 (greg (rlyOn { g := [(3, 0x8000000000000005), (4, 0xFFFFFFFF0000F080), (5, 77)] } State.reset) 8 3)), by decide +kernel⟩

theorem meets_RelayControlFlow_1_11 : ∃ (s : State) (a ra rb off : Nat) (i : Instr) (p : Bool), (stopped s = false) ∧
  (mayIssue s a = true) ∧ (waitsForLoad s a [ra, rb] = false) ∧ (fetchFault s a = none) ∧ ((i, p) ∈ [(.beq a ra rb
  off, decide (greg s a ra = greg s a rb)), (.bne a ra rb off, decide (greg s a ra ≠ greg s a rb)), (.blt a ra rb off,
  decide (signed 64 (greg s a ra) < signed 64 (greg s a rb))), (.bge a ra rb off, decide (signed 64 (greg s a rb) ≤
  signed 64 (greg s a ra))), (.bltu a ra rb off, decide (greg s a ra < greg s a rb)), (.bgeu a ra rb off, decide (greg
  s a rb ≤ greg s a ra))]) :=
  ⟨rlyOn { g := [(3, 0x8000000000000005), (4, 0xFFFFFFFF0000F080), (5, 77)] } State.reset, 8, 3, 4, 0xFFF0, .bltu 8 3 4 0xFFF0, decide (greg (rlyOn { g := [(3, 0x8000000000000005), (4, 0xFFFFFFFF0000F080), (5, 77)] } State.reset) 8 3 < greg (rlyOn { g := [(3, 0x8000000000000005), (4, 0xFFFFFFFF0000F080), (5, 77)] } State.reset) 8 4), by decide +kernel⟩

theorem meets_RelayControlFlow_1_12 : ∃ (s : State) (a ra rb off : Nat) (i : Instr) (p : Bool), (stopped s = false) ∧
  (mayIssue s a = true) ∧ (waitsForLoad s a [ra, rb] = false) ∧ (fetchFault s a = none) ∧ ((i, p) ∈ [(.beq a ra rb
  off, decide (greg s a ra = greg s a rb)), (.bne a ra rb off, decide (greg s a ra ≠ greg s a rb)), (.blt a ra rb off,
  decide (signed 64 (greg s a ra) < signed 64 (greg s a rb))), (.bge a ra rb off, decide (signed 64 (greg s a rb) ≤
  signed 64 (greg s a ra))), (.bltu a ra rb off, decide (greg s a ra < greg s a rb)), (.bgeu a ra rb off, decide (greg
  s a rb ≤ greg s a ra))]) :=
  ⟨rlyOn { g := [(3, 0x8000000000000005), (4, 0xFFFFFFFF0000F080), (5, 77)] } State.reset, 8, 3, 4, 0xFFF0, .bgeu 8 3 4 0xFFF0, decide (greg (rlyOn { g := [(3, 0x8000000000000005), (4, 0xFFFFFFFF0000F080), (5, 77)] } State.reset) 8 4 ≤ greg (rlyOn { g := [(3, 0x8000000000000005), (4, 0xFFFFFFFF0000F080), (5, 77)] } State.reset) 8 3), by decide +kernel⟩

theorem meets_RelayControlFlow_2_1 : ∃ (s : State) (a rd _ : Nat), (stopped s = false) ∧ (mayIssue s a = true) ∧
  (waitsForLoad s a [rd] = false) ∧ (fetchFault s a = none) :=
  ⟨rlyOn { g := [(3, 0x8000000000000005), (4, 0xFFFFFFFF0000F080), (5, 77)] } State.reset, 8, 31, 0x1FFFFE, by decide +kernel⟩

theorem meets_RelayControlFlow_2_2 : ∃ (s : State) (a rd _ : Nat), (stopped s = false) ∧ (mayIssue s a = true) ∧
  (waitsForLoad s a [rd] = false) ∧ (fetchFault s a = none) :=
  ⟨rlyOn { g := [(3, 0x8000000000000005), (4, 0xFFFFFFFF0000F080), (5, 77)] } State.reset, 8, 0, 9, by decide +kernel⟩

theorem meets_RelayControlFlow_3 : ∃ (s : State) (a rd ra imm : Nat), (stopped s = false) ∧ (mayIssue s a = true) ∧
  (waitsForLoad s a [rd, ra] = false) ∧ (fetchFault s a = none) ∧ ((greg s a ra + wrapInt 64 (signed 16 imm)) % 4 = 0)
  :=
  ⟨rlyOn { g := [(3, 0x8000000000000005), (4, 0xFFFFFFFF0000F080), (5, 77)] } State.reset, 8, 5, 5, 0xFFFF, by decide +kernel⟩

theorem meets_RelayControlFlow_4 : ∃ (s : State) (a rd ra imm : Nat), (stopped s = false) ∧ (mayIssue s a = true) ∧
  (waitsForLoad s a [rd, ra] = false) ∧ (fetchFault s a = none) ∧ (a < 512) ∧ ((greg s a ra + wrapInt 64 (signed 16
  imm)) % 4 ≠ 0) :=
  ⟨rlyOn { g := [(3, 0x8000000000000005), (4, 0xFFFFFFFF0000F080), (5, 77)] } State.reset, 8, 5, 5, 0, by decide +kernel⟩

theorem meets_RelayControlFlow_5_1 : ∃ (s : State) (a ra rb off : Nat) (i : Instr) (p : Bool), (stopped s = false) ∧
  (mayIssue s a = true) ∧ (waitsForLoad s a [ra, rb] = false) ∧ (fetchFault s a = none) ∧ ((i, p) ∈ [(.beq a ra rb
  off, decide (greg s a ra = greg s a rb)), (.bne a ra rb off, decide (greg s a ra ≠ greg s a rb)), (.blt a ra rb off,
  decide (signed 64 (greg s a ra) < signed 64 (greg s a rb))), (.bge a ra rb off, decide (signed 64 (greg s a rb) ≤
  signed 64 (greg s a ra))), (.bltu a ra rb off, decide (greg s a ra < greg s a rb)), (.bgeu a ra rb off, decide (greg
  s a rb ≤ greg s a ra))]) :=
  ⟨rlyOn { g := [(3, 0x8000000000000005), (4, 0xFFFFFFFF0000F080), (5, 77)] } State.reset, 8, 3, 3, 0xFFF0, .beq 8 3 3 0xFFF0, decide (greg (rlyOn { g := [(3, 0x8000000000000005), (4, 0xFFFFFFFF0000F080), (5, 77)] } State.reset) 8 3 = greg (rlyOn { g := [(3, 0x8000000000000005), (4, 0xFFFFFFFF0000F080), (5, 77)] } State.reset) 8 3), by decide +kernel⟩

theorem meets_RelayControlFlow_6 : ∃ (s : State) (a rd _ : Nat), (stopped s = false) ∧ (mayIssue s a = true) ∧
  (waitsForLoad s a [rd] = false) ∧ (fetchFault s a = none) :=
  ⟨rlyOn { g := [(3, 0x8000000000000005), (4, 0xFFFFFFFF0000F080), (5, 77)] } State.reset, 8, 31, 0x1FFFFE, by decide +kernel⟩

theorem meets_RelayControlFlow_7 : ∃ (s : State) (a rd ra imm : Nat), (stopped s = false) ∧ (mayIssue s a = true) ∧
  (waitsForLoad s a [rd, ra] = false) ∧ (fetchFault s a = none) ∧ ((greg s a ra + wrapInt 64 (signed 16 imm)) % 2 ^ 64
  % 4 = 0) :=
  ⟨rlyOn { g := [(3, 0x8000000000000005), (4, 0xFFFFFFFF0000F080), (5, 77)] } State.reset, 8, 5, 5, 0xFFFF, by decide +kernel⟩

theorem meets_RelayControlFlow_8 : ∃ (s : State) (a rd ra imm : Nat), (stopped s = false) ∧ (mayIssue s a = true) ∧
  (waitsForLoad s a [rd, ra] = false) ∧ (fetchFault s a = none) ∧ ((greg s a ra + wrapInt 64 (signed 16 imm)) % 2 ^ 64
  % 4 ≠ 0) :=
  ⟨rlyOn { g := [(3, 0x8000000000000005), (4, 0xFFFFFFFF0000F080), (5, 77)] } State.reset, 8, 5, 5, 0, by decide +kernel⟩

theorem meets_RelayExceptionsAndSupervisorEntry_1 : ∃ (s : State) (a word : Nat), (stopped s = false) ∧ (mayIssue s a
  = true) ∧ (waitsForLoad s a [] = false) ∧ (fetchFault s a = none) ∧ (a < 512) ∧ (decodeRelay word = none) :=
  ⟨rlyOn { g := [(3, 0x8000000000000005), (4, 0xFFFFFFFF0000F080), (5, 77)] } State.reset, 8, 2 ^ 32 - 1, by decide +kernel⟩

theorem meets_RelayExceptionsAndSupervisorEntry_2 : ∃ (s : State) (a rd ra : Nat), (stopped s = false) ∧ (mayIssue s a
  = true) ∧ (waitsForLoad s a [rd, ra] = false) ∧ (fetchFault s a = none) ∧ (a < 512) :=
  ⟨rlyOn { g := [(3, 0x8000000000000005), (4, 0xFFFFFFFF0000F080), (5, 77)] } State.reset, 8, 3, 4, by decide +kernel⟩

theorem meets_RelayExceptionsAndSupervisorEntry_3 : ∃ (s : State) (a : Nat), (stopped s = false) ∧ (mayIssue s a =
  true) ∧ (waitsForLoad s a [] = false) ∧ (a < 512) ∧ (agentPc s a % 4 ≠ 0) :=
  ⟨{ rlyOn { g := [(3, 0x8000000000000005), (4, 0xFFFFFFFF0000F080), (5, 77)] } State.reset with rly := { agents := [(8, { pc := 0x102 })] } }, 8, by decide +kernel⟩

theorem meets_RelayExceptionsAndSupervisorEntry_4 : ∃ (s : State) (a word : Nat), (stopped s = false) ∧ (mayIssue s a
  = true) ∧ (waitsForLoad s a [] = false) ∧ (fetchFault s a = none) ∧ (512 ≤ a) ∧ (decodeRelay word = none) ∧
  ((stewardInt s (a - 512)).svec + 4 ≤ 0x40000) :=
  ⟨stwOn { g := [(3, 0x2345)] } { user := true, ie := true, svec := 0x400, sepc := 0x888 } State.reset, 512, 2 ^ 32 - 1, by decide +kernel⟩

theorem meets_RelayExceptionsAndSupervisorEntry_5 : ∃ (s : State) (a _ : Nat), (stopped s = false) ∧ (mayIssue s a =
  true) ∧ (waitsForLoad s a [] = false) ∧ (fetchFault s a = none) ∧ (512 ≤ a) ∧ ((stewardInt s (a - 512)).svec + 4 ≤
  0x40000) :=
  ⟨stwOn { g := [(3, 0x2345)] } { user := true, ie := true, svec := 0x400, sepc := 0x888 } State.reset, 512, 7, by decide +kernel⟩

theorem meets_RelayExceptionsAndSupervisorEntry_6 : ∃ (s : State) (a _ : Nat), (stopped s = false) ∧ (mayIssue s a =
  true) ∧ (waitsForLoad s a [] = false) ∧ (fetchFault s a = none) ∧ (512 ≤ a) ∧ ((stewardInt s (a - 512)).svec + 4 ≤
  0x40000) :=
  ⟨stwOn { g := [(3, 0x2345)] } { user := true, ie := true, svec := 0x400, sepc := 0x888 } State.reset, 512, 7, by decide +kernel⟩

theorem meets_RelayExceptionsAndSupervisorEntry_7 : ∃ (s : State) (a _ : Nat), (stopped s = false) ∧ (mayIssue s a =
  true) ∧ (waitsForLoad s a [] = false) ∧ (fetchFault s a = none) ∧ (a < 512) :=
  ⟨rlyOn { g := [(3, 0x8000000000000005), (4, 0xFFFFFFFF0000F080), (5, 77)] } State.reset, 8, 7, by decide +kernel⟩

theorem meets_RelayExceptionsAndSupervisorEntry_8 : ∃ (s : State) (a : Nat), (stopped s = false) ∧ (mayIssue s a =
  true) ∧ (waitsForLoad s a [] = false) ∧ (fetchFault s a = none) ∧ (512 ≤ a) ∧ ((stewardInt s (a - 512)).user =
  false) :=
  ⟨stwOn { g := [(3, 0x2345)] } { pmode := true, pie := true, svec := 0x400, sepc := 0x888 } State.reset, 512, by decide +kernel⟩

theorem meets_RelayExceptionsAndSupervisorEntry_9 : ∃ (s : State) (a : Nat), (stopped s = false) ∧ (mayIssue s a =
  true) ∧ (waitsForLoad s a [] = false) ∧ (fetchFault s a = none) ∧ (512 ≤ a) ∧ ((stewardInt s (a - 512)).user =
  false) ∧ (presented s (a - 512) = none) :=
  ⟨stwOn { g := [(3, 0x2345)] } { pmode := true, pie := true, svec := 0x400, sepc := 0x888 } State.reset, 512, by decide +kernel⟩

theorem meets_RelayExceptionsAndSupervisorEntry_10 : ∃ (s : State) (a : Nat), (stopped s = false) ∧ (mayIssue s a =
  true) ∧ (waitsForLoad s a [] = false) ∧ (fetchFault s a = none) ∧ (512 ≤ a) ∧ ((stewardInt s (a - 512)).user = true)
  ∧ ((stewardInt s (a - 512)).svec + 4 ≤ 0x40000) :=
  ⟨stwOn { g := [(3, 0x2345)] } { user := true, ie := true, svec := 0x400, sepc := 0x888 } State.reset, 512, by decide +kernel⟩

theorem meets_RelayExceptionsAndSupervisorEntry_11 : ∃ (s : State) (k n : Nat), (stopped s = false) ∧ (k < 4) ∧
  ((stewardInt s k).running = true) ∧ ((stewardInt s k).locked = false) ∧ ((stewardInt s k).ie = true) ∧ (presented s
  k = some n) ∧ ((stewardInt s k).svec + 4 ≤ 0x40000) :=
  ⟨withRegs (stwOn { g := [(3, 0x2345)] } { user := true, ie := true, svec := 0x400, sepc := 0x888 } State.reset) [(IRQ_CTL.global_en, 0, 1), (IRQ_SRC.asserted, 0x182, 1), (IRQ_SRC.priority, 0x182, 3)], 0, 0x182, by decide +kernel⟩

theorem meets_RelayExceptionsAndSupervisorEntry_12 : ∃ (s : State) (k n p : Nat) (q : Option Nat) (rest : List (Nat ×
  Option Nat)), (stopped s = false) ∧ (k < 4) ∧ (n < 1024) ∧ ((Map.get s.claims k).claim = some n) ∧ ((Map.get
  s.claims k).stack = (p, q) :: rest) :=
  ⟨{ State.reset with claims := [(1, { pri := 5, claim := some 0x182, stack := [(2, some 7), (0, none)] })] }, 1, 0x182, 2, some 7, [(0, none)], by decide +kernel⟩

theorem meets_RelayExceptionsAndSupervisorEntry_13 : ∃ (s : State) (k n : Nat), (stopped s = false) ∧ (k < 4) ∧ (n <
  1024) ∧ ((Map.get s.claims k).claim ≠ some n) :=
  ⟨State.reset, 1, 0x182, by decide +kernel⟩

theorem meets_RelayExceptionsAndSupervisorEntry_14_1 : ∃ (s : State) (a word : Nat), (stopped s = false) ∧ (mayIssue s
  a = true) ∧ (waitsForLoad s a [] = false) ∧ (fetchFault s a = none) ∧ (decodeRelay word = none) :=
  ⟨rlyOn { g := [(3, 0x8000000000000005), (4, 0xFFFFFFFF0000F080), (5, 77)] } State.reset, 8, 2 ^ 32 - 1, by decide +kernel⟩

theorem meets_RelayExceptionsAndSupervisorEntry_14_2 : ∃ (s : State) (a word : Nat), (stopped s = false) ∧ (mayIssue s
  a = true) ∧ (waitsForLoad s a [] = false) ∧ (fetchFault s a = none) ∧ (decodeRelay word = none) :=
  ⟨stwOn { g := [(3, 0x2345)] } { user := true, ie := true, svec := 0x400, sepc := 0x888 } State.reset, 512, 2 ^ 32 - 1, by decide +kernel⟩

theorem meets_RelayExceptionsAndSupervisorEntry_15 : ∃ (s : State) (a _ : Nat), (stopped s = false) ∧ (mayIssue s a =
  true) ∧ (waitsForLoad s a [] = false) ∧ (fetchFault s a = none) ∧ (512 ≤ a) :=
  ⟨stwOn { g := [(3, 0x2345)] } { user := true, ie := true, svec := 0x400, sepc := 0x888 } State.reset, 512, 7, by decide +kernel⟩

theorem meets_RelayExceptionsAndSupervisorEntry_16 : ∃ (s : State) (a _ : Nat), (stopped s = false) ∧ (mayIssue s a =
  true) ∧ (waitsForLoad s a [] = false) ∧ (fetchFault s a = none) ∧ (a < 512) :=
  ⟨rlyOn { g := [(3, 0x8000000000000005), (4, 0xFFFFFFFF0000F080), (5, 77)] } State.reset, 8, 7, by decide +kernel⟩

theorem meets_RelayExceptionsAndSupervisorEntry_17 : ∃ (s : State) (a _ : Nat), (stopped s = false) ∧ (mayIssue s a =
  true) ∧ (waitsForLoad s a [] = false) ∧ (fetchFault s a = none) ∧ (512 ≤ a) :=
  ⟨stwOn { g := [(3, 0x2345)] } { user := true, ie := true, svec := 0x400, sepc := 0x888 } State.reset, 512, 7, by decide +kernel⟩

theorem meets_RelayExceptionsAndSupervisorEntry_18 : ∃ (s : State) (a _ : Nat), (stopped s = false) ∧ (mayIssue s a =
  true) ∧ (waitsForLoad s a [] = false) ∧ (fetchFault s a = none) ∧ (a < 512) :=
  ⟨rlyOn { g := [(3, 0x8000000000000005), (4, 0xFFFFFFFF0000F080), (5, 77)] } State.reset, 8, 7, by decide +kernel⟩

theorem meets_RelayExceptionsAndSupervisorEntry_19 : ∃ (s : State) (a : Nat), (stopped s = false) ∧ (mayIssue s a =
  true) ∧ (waitsForLoad s a [] = false) ∧ (fetchFault s a = none) ∧ (supervisor s a = true) :=
  ⟨stwOn { g := [(3, 0x2345)] } { pmode := true, pie := true, svec := 0x400, sepc := 0x888 } State.reset, 512, by decide +kernel⟩

theorem meets_RelayExceptionsAndSupervisorEntry_20 : ∃ (s : State) (a : Nat), (stopped s = false) ∧ (mayIssue s a =
  true) ∧ (waitsForLoad s a [] = false) ∧ (fetchFault s a = none) ∧ (supervisor s a = true) :=
  ⟨stwOn { g := [(3, 0x2345)] } { pmode := true, pie := true, svec := 0x400, sepc := 0x888 } State.reset, 512, by decide +kernel⟩

theorem meets_RelayExceptionsAndSupervisorEntry_21_1 : ∃ (s : State) (a : Nat), (stopped s = false) ∧ (mayIssue s a =
  true) ∧ (waitsForLoad s a [] = false) ∧ (fetchFault s a = none) ∧ (supervisor s a = false) :=
  ⟨stwOn { g := [(3, 0x2345)] } { user := true, ie := true, svec := 0x400, sepc := 0x888 } State.reset, 512, by decide +kernel⟩

theorem meets_RelayExceptionsAndSupervisorEntry_21_2 : ∃ (s : State) (a : Nat), (stopped s = false) ∧ (mayIssue s a =
  true) ∧ (waitsForLoad s a [] = false) ∧ (fetchFault s a = none) ∧ (supervisor s a = false) :=
  ⟨rlyOn { g := [(3, 0x8000000000000005), (4, 0xFFFFFFFF0000F080), (5, 77)] } State.reset, 8, by decide +kernel⟩

theorem meets_RelayExceptionsAndSupervisorEntry_22_1 : ∃ (s : State) (a : Nat), (stopped s = false) ∧ (mayIssue s a =
  true) ∧ (waitsForLoad s a [] = false) ∧ (fetchFault s a = none) ∧ (supervisor s a = false) :=
  ⟨stwOn { g := [(3, 0x2345)] } { user := true, ie := true, svec := 0x400, sepc := 0x888 } State.reset, 512, by decide +kernel⟩

theorem meets_RelayExceptionsAndSupervisorEntry_22_2 : ∃ (s : State) (a : Nat), (stopped s = false) ∧ (mayIssue s a =
  true) ∧ (waitsForLoad s a [] = false) ∧ (fetchFault s a = none) ∧ (supervisor s a = false) :=
  ⟨rlyOn { g := [(3, 0x8000000000000005), (4, 0xFFFFFFFF0000F080), (5, 77)] } State.reset, 8, by decide +kernel⟩

theorem meets_RelayExceptionsAndSupervisorEntry_23 : ∃ (s : State) (k n : Nat), (stopped s = false) ∧ (k < 4) ∧
  ((stewardInt s k).running = true) ∧ ((stewardInt s k).locked = false) ∧ ((stewardInt s k).ie = true) ∧ (presented s
  k = some n) :=
  ⟨withRegs (stwOn { g := [(3, 0x2345)] } { user := true, ie := true, svec := 0x400, sepc := 0x888 } State.reset) [(IRQ_CTL.global_en, 0, 1), (IRQ_SRC.asserted, 0x182, 1), (IRQ_SRC.priority, 0x182, 3)], 0, 0x182, by decide +kernel⟩

theorem meets_RelayExceptionsAndSupervisorEntry_24 : ∃ (s : State) (k n : Nat), (stopped s = false) ∧ (k < 4) ∧
  ((stewardInt s k).running = true) ∧ ((stewardInt s k).locked = false) ∧ ((stewardInt s k).ie = false) ∧ (presented s
  k = some n) :=
  ⟨withRegs (stwOn { g := [(3, 0x2345)] } { user := true, sleeping := true, svec := 0x400, sepc := 0x888 } State.reset) [(IRQ_CTL.global_en, 0, 1), (IRQ_SRC.asserted, 0x182, 1), (IRQ_SRC.priority, 0x182, 3)], 0, 0x182, by decide +kernel⟩

theorem meets_RelayLoadsStoresAndAtomics_1 : ∃ (s : State) (a rd ra imm g : Nat), (stopped s = false) ∧ (mayIssue s a
  = true) ∧ (waitsForLoad s a [rd, ra] = false) ∧ (fetchFault s a = none) ∧ (accessFault s a ((greg s a ra + wrapInt
  64 (signed 16 imm)) % 2 ^ 64) ⟨1, false, false, false⟩ = none) ∧ (accessWaits s a ((greg s a ra + wrapInt 64 (signed
  16 imm)) % 2 ^ 64) ⟨1, false, false, false⟩ = false) ∧ (resolve s a ((greg s a ra + wrapInt 64 (signed 16 imm)) % 2
  ^ 64) 1 = some (.ram g)) ∧ (placed s g 1 = false) :=
  ⟨memStore (rlyOn { g := [(3, 0x240), (4, 0xAABBCCDD99887766), (5, 0x1122334455667788), (8, 3), (15, 9)] } State.reset) 0x10007A40240 [1, 2, 3, 4, 5, 6, 7, 0x88], 8, 7, 3, 0, 0x10007A40240, by decide +kernel⟩

theorem meets_RelayLoadsStoresAndAtomics_2 : ∃ (s : State) (a rd ra imm g : Nat), (stopped s = false) ∧ (mayIssue s a
  = true) ∧ (waitsForLoad s a [rd, ra] = false) ∧ (fetchFault s a = none) ∧ (accessFault s a ((greg s a ra + wrapInt
  64 (signed 16 imm)) % 2 ^ 64) ⟨2, false, false, false⟩ = none) ∧ (accessWaits s a ((greg s a ra + wrapInt 64 (signed
  16 imm)) % 2 ^ 64) ⟨2, false, false, false⟩ = false) ∧ (resolve s a ((greg s a ra + wrapInt 64 (signed 16 imm)) % 2
  ^ 64) 2 = some (.ram g)) ∧ (placed s g 2 = false) :=
  ⟨memStore (rlyOn { g := [(3, 0x240), (4, 0xAABBCCDD99887766), (5, 0x1122334455667788), (8, 3), (15, 9)] } State.reset) 0x10007A40240 [1, 2, 3, 4, 5, 6, 7, 0x88], 8, 7, 3, 0, 0x10007A40240, by decide +kernel⟩

theorem meets_RelayLoadsStoresAndAtomics_3 : ∃ (s : State) (a rd ra imm g : Nat), (stopped s = false) ∧ (mayIssue s a
  = true) ∧ (waitsForLoad s a [rd, ra] = false) ∧ (fetchFault s a = none) ∧ (accessFault s a ((greg s a ra + wrapInt
  64 (signed 16 imm)) % 2 ^ 64) ⟨4, false, false, false⟩ = none) ∧ (accessWaits s a ((greg s a ra + wrapInt 64 (signed
  16 imm)) % 2 ^ 64) ⟨4, false, false, false⟩ = false) ∧ (resolve s a ((greg s a ra + wrapInt 64 (signed 16 imm)) % 2
  ^ 64) 4 = some (.ram g)) ∧ (placed s g 4 = false) :=
  ⟨memStore (rlyOn { g := [(3, 0x240), (4, 0xAABBCCDD99887766), (5, 0x1122334455667788), (8, 3), (15, 9)] } State.reset) 0x10007A40240 [1, 2, 3, 4, 5, 6, 7, 0x88], 8, 7, 3, 0, 0x10007A40240, by decide +kernel⟩

theorem meets_RelayLoadsStoresAndAtomics_4 : ∃ (s : State) (a rd ra imm g : Nat), (stopped s = false) ∧ (mayIssue s a
  = true) ∧ (waitsForLoad s a [rd, ra] = false) ∧ (fetchFault s a = none) ∧ (accessFault s a ((greg s a ra + wrapInt
  64 (signed 16 imm)) % 2 ^ 64) ⟨8, false, false, false⟩ = none) ∧ (accessWaits s a ((greg s a ra + wrapInt 64 (signed
  16 imm)) % 2 ^ 64) ⟨8, false, false, false⟩ = false) ∧ (resolve s a ((greg s a ra + wrapInt 64 (signed 16 imm)) % 2
  ^ 64) 8 = some (.ram g)) ∧ (placed s g 8 = false) :=
  ⟨memStore (rlyOn { g := [(3, 0x240), (4, 0xAABBCCDD99887766), (5, 0x1122334455667788), (8, 3), (15, 9)] } State.reset) 0x10007A40240 [1, 2, 3, 4, 5, 6, 7, 0x88], 8, 7, 3, 0, 0x10007A40240, by decide +kernel⟩

theorem meets_RelayLoadsStoresAndAtomics_5 : ∃ (s : State) (a rd ra imm g : Nat), (stopped s = false) ∧ (mayIssue s a
  = true) ∧ (waitsForLoad s a (ra :: groupRegs rd) = false) ∧ (fetchFault s a = none) ∧ (lineGroup rd = true) ∧
  (accessFault s a ((greg s a ra + wrapInt 64 (signed 16 imm)) % 2 ^ 64) ⟨64, false, false, true⟩ = none) ∧
  (accessWaits s a ((greg s a ra + wrapInt 64 (signed 16 imm)) % 2 ^ 64) ⟨64, false, false, true⟩ = false) ∧ (resolve
  s a ((greg s a ra + wrapInt 64 (signed 16 imm)) % 2 ^ 64) 64 = some (.ram g)) ∧ (placed s g 64 = false) :=
  ⟨memStore (rlyOn { g := [(3, 0x240), (4, 0xAABBCCDD99887766), (5, 0x1122334455667788), (8, 3), (15, 9)] } State.reset) 0x10007A40240 [1, 2, 3, 4, 5, 6, 7, 0x88], 8, 16, 3, 0, 0x10007A40240, by decide +kernel⟩

theorem meets_RelayLoadsStoresAndAtomics_6 : ∃ (s : State) (a : Nat) (l : Load) (rest : List Load) (_ : Bytes) (_ :
  Bool), (stopped s = false) ∧ ((agentInt s a).loads = l :: rest) ∧ (l.link = none) ∧ (l.bad = false) ∧ (l.regs = 1) ∧
  (l.rd % 32 ≠ 0) :=
  ⟨rlyOn { loads := [⟨7, 1, 8, 0, 0, 99, none, false, 0⟩] } State.reset, 8, ⟨7, 1, 8, 0, 0, 99, none, false, 0⟩, [], [], true, by decide +kernel⟩

theorem meets_RelayLoadsStoresAndAtomics_7 : ∃ (s : State) (a : Nat) (l : Load) (rest : List Load) (_ : Bytes) (_ :
  Bool), (stopped s = false) ∧ ((agentInt s a).loads = l :: rest) ∧ (l.link = none) ∧ (l.bad = false) ∧ (l.regs = 8) ∧
  (l.rd = 8) :=
  ⟨rlyOn { loads := [⟨8, 8, 64, 0, 0, 99 + 5 * 2 ^ 448, none, false, 0⟩] } State.reset, 8, ⟨8, 8, 64, 0, 0, 99 + 5 * 2 ^ 448, none, false, 0⟩, [], [], true, by decide +kernel⟩

theorem meets_RelayLoadsStoresAndAtomics_8 : ∃ (s : State) (a rs ra imm g : Nat), (stopped s = false) ∧ (mayIssue s a
  = true) ∧ (waitsForLoad s a [rs, ra] = false) ∧ (fetchFault s a = none) ∧ (accessFault s a ((greg s a ra + wrapInt
  64 (signed 16 imm)) % 2 ^ 64) ⟨1, true, false, false⟩ = none) ∧ (accessWaits s a ((greg s a ra + wrapInt 64 (signed
  16 imm)) % 2 ^ 64) ⟨1, true, false, false⟩ = false) ∧ (resolve s a ((greg s a ra + wrapInt 64 (signed 16 imm)) % 2 ^
  64) 1 = some (.ram g)) ∧ (placed s g 1 = false) :=
  ⟨memStore (rlyOn { g := [(3, 0x240), (4, 0xAABBCCDD99887766), (5, 0x1122334455667788), (8, 3), (15, 9)] } State.reset) 0x10007A40240 [1, 2, 3, 4, 5, 6, 7, 0x88], 8, 4, 3, 0, 0x10007A40240, by decide +kernel⟩

theorem meets_RelayLoadsStoresAndAtomics_9 : ∃ (s : State) (a rs ra imm g : Nat), (stopped s = false) ∧ (mayIssue s a
  = true) ∧ (waitsForLoad s a [rs, ra] = false) ∧ (fetchFault s a = none) ∧ (accessFault s a ((greg s a ra + wrapInt
  64 (signed 16 imm)) % 2 ^ 64) ⟨2, true, false, false⟩ = none) ∧ (accessWaits s a ((greg s a ra + wrapInt 64 (signed
  16 imm)) % 2 ^ 64) ⟨2, true, false, false⟩ = false) ∧ (resolve s a ((greg s a ra + wrapInt 64 (signed 16 imm)) % 2 ^
  64) 2 = some (.ram g)) ∧ (placed s g 2 = false) :=
  ⟨memStore (rlyOn { g := [(3, 0x240), (4, 0xAABBCCDD99887766), (5, 0x1122334455667788), (8, 3), (15, 9)] } State.reset) 0x10007A40240 [1, 2, 3, 4, 5, 6, 7, 0x88], 8, 4, 3, 0, 0x10007A40240, by decide +kernel⟩

theorem meets_RelayLoadsStoresAndAtomics_10 : ∃ (s : State) (a rs ra imm g : Nat), (stopped s = false) ∧ (mayIssue s a
  = true) ∧ (waitsForLoad s a [rs, ra] = false) ∧ (fetchFault s a = none) ∧ (accessFault s a ((greg s a ra + wrapInt
  64 (signed 16 imm)) % 2 ^ 64) ⟨4, true, false, false⟩ = none) ∧ (accessWaits s a ((greg s a ra + wrapInt 64 (signed
  16 imm)) % 2 ^ 64) ⟨4, true, false, false⟩ = false) ∧ (resolve s a ((greg s a ra + wrapInt 64 (signed 16 imm)) % 2 ^
  64) 4 = some (.ram g)) ∧ (placed s g 4 = false) :=
  ⟨memStore (rlyOn { g := [(3, 0x240), (4, 0xAABBCCDD99887766), (5, 0x1122334455667788), (8, 3), (15, 9)] } State.reset) 0x10007A40240 [1, 2, 3, 4, 5, 6, 7, 0x88], 8, 4, 3, 0, 0x10007A40240, by decide +kernel⟩

theorem meets_RelayLoadsStoresAndAtomics_11 : ∃ (s : State) (a rs ra imm g : Nat), (stopped s = false) ∧ (mayIssue s a
  = true) ∧ (waitsForLoad s a [rs, ra] = false) ∧ (fetchFault s a = none) ∧ (accessFault s a ((greg s a ra + wrapInt
  64 (signed 16 imm)) % 2 ^ 64) ⟨8, true, false, false⟩ = none) ∧ (accessWaits s a ((greg s a ra + wrapInt 64 (signed
  16 imm)) % 2 ^ 64) ⟨8, true, false, false⟩ = false) ∧ (resolve s a ((greg s a ra + wrapInt 64 (signed 16 imm)) % 2 ^
  64) 8 = some (.ram g)) ∧ (placed s g 8 = false) :=
  ⟨memStore (rlyOn { g := [(3, 0x240), (4, 0xAABBCCDD99887766), (5, 0x1122334455667788), (8, 3), (15, 9)] } State.reset) 0x10007A40240 [1, 2, 3, 4, 5, 6, 7, 0x88], 8, 4, 3, 0, 0x10007A40240, by decide +kernel⟩

theorem meets_RelayLoadsStoresAndAtomics_12 : ∃ (s : State) (a rs ra imm g : Nat), (stopped s = false) ∧ (mayIssue s a
  = true) ∧ (waitsForLoad s a (ra :: groupRegs rs) = false) ∧ (fetchFault s a = none) ∧ (lineGroup rs = true) ∧
  (accessFault s a ((greg s a ra + wrapInt 64 (signed 16 imm)) % 2 ^ 64) ⟨64, true, false, true⟩ = none) ∧
  (accessWaits s a ((greg s a ra + wrapInt 64 (signed 16 imm)) % 2 ^ 64) ⟨64, true, false, true⟩ = false) ∧ (resolve s
  a ((greg s a ra + wrapInt 64 (signed 16 imm)) % 2 ^ 64) 64 = some (.ram g)) ∧ (placed s g 64 = false) :=
  ⟨memStore (rlyOn { g := [(3, 0x240), (4, 0xAABBCCDD99887766), (5, 0x1122334455667788), (8, 3), (15, 9)] } State.reset) 0x10007A40240 [1, 2, 3, 4, 5, 6, 7, 0x88], 8, 8, 3, 0, 0x10007A40240, by decide +kernel⟩

theorem meets_RelayLoadsStoresAndAtomics_13_1 : ∃ (s : State) (a rd ra rb fn v g : Nat), (stopped s = false) ∧
  (mayIssue s a = true) ∧ (waitsForLoad s a [rd, ra, rb] = false) ∧ (fetchFault s a = none) ∧ (accessFault s a (greg s
  a ra) ⟨8, true, true, false⟩ = none) ∧ (accessWaits s a (greg s a ra) ⟨8, true, true, false⟩ = false) ∧ (resolve s a
  (greg s a ra) 8 = some (.ram g)) ∧ (placed s g 8 = false) ∧ (memBad s g 8 = false) ∧ ((fn, v) ∈ [(0, ofLe (memLoad s
  g 8) + greg s a rb), (1, greg s a rb), (2, ofLe (memLoad s g 8) &&& greg s a rb), (3, ofLe (memLoad s g 8) ||| greg
  s a rb), (4, if ofLe (memLoad s g 8) < greg s a rb then greg s a rb else ofLe (memLoad s g 8))]) :=
  ⟨memStore (rlyOn { g := [(3, 0x240), (4, 0xAABBCCDD99887766), (5, 0x1122334455667788), (8, 3), (15, 9)] } State.reset) 0x10007A40240 [1, 2, 3, 4, 5, 6, 7, 0x88], 8, 7, 3, 5, 0, ofLe (memLoad (memStore (rlyOn { g := [(3, 0x240), (4, 0xAABBCCDD99887766), (5, 0x1122334455667788), (8, 3), (15, 9)] } State.reset) 0x10007A40240 [1, 2, 3, 4, 5, 6, 7, 0x88]) 0x10007A40240 8) + greg (memStore (rlyOn { g := [(3, 0x240), (4, 0xAABBCCDD99887766), (5, 0x1122334455667788), (8, 3), (15, 9)] } State.reset) 0x10007A40240 [1, 2, 3, 4, 5, 6, 7, 0x88]) 8 5, 0x10007A40240, by decide +kernel⟩

theorem meets_RelayLoadsStoresAndAtomics_13_2 : ∃ (s : State) (a rd ra rb fn v g : Nat), (stopped s = false) ∧
  (mayIssue s a = true) ∧ (waitsForLoad s a [rd, ra, rb] = false) ∧ (fetchFault s a = none) ∧ (accessFault s a (greg s
  a ra) ⟨8, true, true, false⟩ = none) ∧ (accessWaits s a (greg s a ra) ⟨8, true, true, false⟩ = false) ∧ (resolve s a
  (greg s a ra) 8 = some (.ram g)) ∧ (placed s g 8 = false) ∧ (memBad s g 8 = false) ∧ ((fn, v) ∈ [(0, ofLe (memLoad s
  g 8) + greg s a rb), (1, greg s a rb), (2, ofLe (memLoad s g 8) &&& greg s a rb), (3, ofLe (memLoad s g 8) ||| greg
  s a rb), (4, if ofLe (memLoad s g 8) < greg s a rb then greg s a rb else ofLe (memLoad s g 8))]) :=
  ⟨memStore (rlyOn { g := [(3, 0x240), (4, 0xAABBCCDD99887766), (5, 0x1122334455667788), (8, 3), (15, 9)] } State.reset) 0x10007A40240 [1, 2, 3, 4, 5, 6, 7, 0x88], 8, 7, 3, 5, 1, greg (memStore (rlyOn { g := [(3, 0x240), (4, 0xAABBCCDD99887766), (5, 0x1122334455667788), (8, 3), (15, 9)] } State.reset) 0x10007A40240 [1, 2, 3, 4, 5, 6, 7, 0x88]) 8 5, 0x10007A40240, by decide +kernel⟩

theorem meets_RelayLoadsStoresAndAtomics_13_3 : ∃ (s : State) (a rd ra rb fn v g : Nat), (stopped s = false) ∧
  (mayIssue s a = true) ∧ (waitsForLoad s a [rd, ra, rb] = false) ∧ (fetchFault s a = none) ∧ (accessFault s a (greg s
  a ra) ⟨8, true, true, false⟩ = none) ∧ (accessWaits s a (greg s a ra) ⟨8, true, true, false⟩ = false) ∧ (resolve s a
  (greg s a ra) 8 = some (.ram g)) ∧ (placed s g 8 = false) ∧ (memBad s g 8 = false) ∧ ((fn, v) ∈ [(0, ofLe (memLoad s
  g 8) + greg s a rb), (1, greg s a rb), (2, ofLe (memLoad s g 8) &&& greg s a rb), (3, ofLe (memLoad s g 8) ||| greg
  s a rb), (4, if ofLe (memLoad s g 8) < greg s a rb then greg s a rb else ofLe (memLoad s g 8))]) :=
  ⟨memStore (rlyOn { g := [(3, 0x240), (4, 0xAABBCCDD99887766), (5, 0x1122334455667788), (8, 3), (15, 9)] } State.reset) 0x10007A40240 [1, 2, 3, 4, 5, 6, 7, 0x88], 8, 7, 3, 5, 2, ofLe (memLoad (memStore (rlyOn { g := [(3, 0x240), (4, 0xAABBCCDD99887766), (5, 0x1122334455667788), (8, 3), (15, 9)] } State.reset) 0x10007A40240 [1, 2, 3, 4, 5, 6, 7, 0x88]) 0x10007A40240 8) &&& greg (memStore (rlyOn { g := [(3, 0x240), (4, 0xAABBCCDD99887766), (5, 0x1122334455667788), (8, 3), (15, 9)] } State.reset) 0x10007A40240 [1, 2, 3, 4, 5, 6, 7, 0x88]) 8 5, 0x10007A40240, by decide +kernel⟩

theorem meets_RelayLoadsStoresAndAtomics_13_4 : ∃ (s : State) (a rd ra rb fn v g : Nat), (stopped s = false) ∧
  (mayIssue s a = true) ∧ (waitsForLoad s a [rd, ra, rb] = false) ∧ (fetchFault s a = none) ∧ (accessFault s a (greg s
  a ra) ⟨8, true, true, false⟩ = none) ∧ (accessWaits s a (greg s a ra) ⟨8, true, true, false⟩ = false) ∧ (resolve s a
  (greg s a ra) 8 = some (.ram g)) ∧ (placed s g 8 = false) ∧ (memBad s g 8 = false) ∧ ((fn, v) ∈ [(0, ofLe (memLoad s
  g 8) + greg s a rb), (1, greg s a rb), (2, ofLe (memLoad s g 8) &&& greg s a rb), (3, ofLe (memLoad s g 8) ||| greg
  s a rb), (4, if ofLe (memLoad s g 8) < greg s a rb then greg s a rb else ofLe (memLoad s g 8))]) :=
  ⟨memStore (rlyOn { g := [(3, 0x240), (4, 0xAABBCCDD99887766), (5, 0x1122334455667788), (8, 3), (15, 9)] } State.reset) 0x10007A40240 [1, 2, 3, 4, 5, 6, 7, 0x88], 8, 7, 3, 5, 3, ofLe (memLoad (memStore (rlyOn { g := [(3, 0x240), (4, 0xAABBCCDD99887766), (5, 0x1122334455667788), (8, 3), (15, 9)] } State.reset) 0x10007A40240 [1, 2, 3, 4, 5, 6, 7, 0x88]) 0x10007A40240 8) ||| greg (memStore (rlyOn { g := [(3, 0x240), (4, 0xAABBCCDD99887766), (5, 0x1122334455667788), (8, 3), (15, 9)] } State.reset) 0x10007A40240 [1, 2, 3, 4, 5, 6, 7, 0x88]) 8 5, 0x10007A40240, by decide +kernel⟩

theorem meets_RelayLoadsStoresAndAtomics_13_5 : ∃ (s : State) (a rd ra rb fn v g : Nat), (stopped s = false) ∧
  (mayIssue s a = true) ∧ (waitsForLoad s a [rd, ra, rb] = false) ∧ (fetchFault s a = none) ∧ (accessFault s a (greg s
  a ra) ⟨8, true, true, false⟩ = none) ∧ (accessWaits s a (greg s a ra) ⟨8, true, true, false⟩ = false) ∧ (resolve s a
  (greg s a ra) 8 = some (.ram g)) ∧ (placed s g 8 = false) ∧ (memBad s g 8 = false) ∧ ((fn, v) ∈ [(0, ofLe (memLoad s
  g 8) + greg s a rb), (1, greg s a rb), (2, ofLe (memLoad s g 8) &&& greg s a rb), (3, ofLe (memLoad s g 8) ||| greg
  s a rb), (4, if ofLe (memLoad s g 8) < greg s a rb then greg s a rb else ofLe (memLoad s g 8))]) :=
  ⟨memStore (rlyOn { g := [(3, 0x240), (4, 0xAABBCCDD99887766), (5, 0x1122334455667788), (8, 3), (15, 9)] } State.reset) 0x10007A40240 [1, 2, 3, 4, 5, 6, 7, 0x88], 8, 7, 3, 5, 4, if ofLe (memLoad (memStore (rlyOn { g := [(3, 0x240), (4, 0xAABBCCDD99887766), (5, 0x1122334455667788), (8, 3), (15, 9)] } State.reset) 0x10007A40240 [1, 2, 3, 4, 5, 6, 7, 0x88]) 0x10007A40240 8) < greg (memStore (rlyOn { g := [(3, 0x240), (4, 0xAABBCCDD99887766), (5, 0x1122334455667788), (8, 3), (15, 9)] } State.reset) 0x10007A40240 [1, 2, 3, 4, 5, 6, 7, 0x88]) 8 5 then greg (memStore (rlyOn { g := [(3, 0x240), (4, 0xAABBCCDD99887766), (5, 0x1122334455667788), (8, 3), (15, 9)] } State.reset) 0x10007A40240 [1, 2, 3, 4, 5, 6, 7, 0x88]) 8 5 else ofLe (memLoad (memStore (rlyOn { g := [(3, 0x240), (4, 0xAABBCCDD99887766), (5, 0x1122334455667788), (8, 3), (15, 9)] } State.reset) 0x10007A40240 [1, 2, 3, 4, 5, 6, 7, 0x88]) 0x10007A40240 8), 0x10007A40240, by decide +kernel⟩

theorem meets_RelayLoadsStoresAndAtomics_14_1 : ∃ (s : State) (a rd ra rb g : Nat), (stopped s = false) ∧ (mayIssue s
  a = true) ∧ (waitsForLoad s a [rd, ra, rb] = false) ∧ (fetchFault s a = none) ∧ (accessFault s a (greg s a ra)
  ⟨8, true, true, false⟩ = none) ∧ (accessWaits s a (greg s a ra) ⟨8, true, true, false⟩ = false) ∧ (resolve s a (greg
  s a ra) 8 = some (.ram g)) ∧ (placed s g 8 = false) ∧ (memBad s g 8 = false) :=
  ⟨memStore (rlyOn { g := [(3, 0x240), (4, 0xAABBCCDD99887766), (5, 0x1122334455667788), (8, 3), (15, 9)] } State.reset) 0x10007A40240 [1, 2, 3, 4, 5, 6, 7, 0x88], 8, 7, 3, 5, 0x10007A40240, by decide +kernel⟩

theorem meets_RelayLoadsStoresAndAtomics_14_2 : ∃ (s : State) (a rd ra rb g : Nat), (stopped s = false) ∧ (mayIssue s
  a = true) ∧ (waitsForLoad s a [rd, ra, rb] = false) ∧ (fetchFault s a = none) ∧ (accessFault s a (greg s a ra)
  ⟨8, true, true, false⟩ = none) ∧ (accessWaits s a (greg s a ra) ⟨8, true, true, false⟩ = false) ∧ (resolve s a (greg
  s a ra) 8 = some (.ram g)) ∧ (placed s g 8 = false) ∧ (memBad s g 8 = false) :=
  ⟨setGreg (memStore (rlyOn { g := [(3, 0x240), (4, 0xAABBCCDD99887766), (5, 0x1122334455667788), (8, 3), (15, 9)] } State.reset) 0x10007A40240 [1, 2, 3, 4, 5, 6, 7, 0x88]) 8 7 0x8807060504030201, 8, 7, 3, 5, 0x10007A40240, by decide +kernel⟩

theorem meets_RelayLoadsStoresAndAtomics_15_1 : ∃ (s : State) (a rd ra imm : Nat) (p : AddrAt), (stopped s = false) ∧
  (mayIssue s a = true) ∧ (waitsForLoad s a [rd, ra] = false) ∧ (fetchFault s a = none) ∧ (accessFault s a ((greg s a
  ra + wrapInt 64 (signed 16 imm)) % 2 ^ 64) ⟨1, false, false, false⟩ = none) ∧ (accessWaits s a ((greg s a ra +
  wrapInt 64 (signed 16 imm)) % 2 ^ 64) ⟨1, false, false, false⟩ = false) ∧ (resolve s a ((greg s a ra + wrapInt 64
  (signed 16 imm)) % 2 ^ 64) 1 = some p) :=
  ⟨memStore (rlyOn { g := [(3, 0x240), (4, 0xAABBCCDD99887766), (5, 0x1122334455667788), (8, 3), (15, 9)] } State.reset) 0x10007A40240 [1, 2, 3, 4, 5, 6, 7, 0x88], 8, 7, 3, 0, .ram 0x10007A40240, by decide +kernel⟩

theorem meets_RelayLoadsStoresAndAtomics_16 : ∃ (s : State) (a rd ra imm c : Nat), (stopped s = false) ∧ (mayIssue s a
  = true) ∧ (waitsForLoad s a [rd, ra] = false) ∧ (fetchFault s a = none) ∧ (accessFault s a ((greg s a ra + wrapInt
  64 (signed 16 imm)) % 2 ^ 64) ⟨1, false, false, false⟩ = some c) :=
  ⟨setGreg (memStore (rlyOn { g := [(3, 0x240), (4, 0xAABBCCDD99887766), (5, 0x1122334455667788), (8, 3), (15, 9)] } State.reset) 0x10007A40240 [1, 2, 3, 4, 5, 6, 7, 0x88]) 8 3 0x0F00000000000000, 8, 7, 3, 0, 3, by decide +kernel⟩

theorem meets_RelayLoadsStoresAndAtomics_17_1 : ∃ (s : State) (a rd ra imm : Nat) (p : AddrAt), (stopped s = false) ∧
  (mayIssue s a = true) ∧ (waitsForLoad s a [rd, ra] = false) ∧ (fetchFault s a = none) ∧ (accessFault s a ((greg s a
  ra + wrapInt 64 (signed 16 imm)) % 2 ^ 64) ⟨2, false, false, false⟩ = none) ∧ (accessWaits s a ((greg s a ra +
  wrapInt 64 (signed 16 imm)) % 2 ^ 64) ⟨2, false, false, false⟩ = false) ∧ (resolve s a ((greg s a ra + wrapInt 64
  (signed 16 imm)) % 2 ^ 64) 2 = some p) :=
  ⟨memStore (rlyOn { g := [(3, 0x240), (4, 0xAABBCCDD99887766), (5, 0x1122334455667788), (8, 3), (15, 9)] } State.reset) 0x10007A40240 [1, 2, 3, 4, 5, 6, 7, 0x88], 8, 7, 3, 0, .ram 0x10007A40240, by decide +kernel⟩

theorem meets_RelayLoadsStoresAndAtomics_18 : ∃ (s : State) (a rd ra imm c : Nat), (stopped s = false) ∧ (mayIssue s a
  = true) ∧ (waitsForLoad s a [rd, ra] = false) ∧ (fetchFault s a = none) ∧ (accessFault s a ((greg s a ra + wrapInt
  64 (signed 16 imm)) % 2 ^ 64) ⟨2, false, false, false⟩ = some c) :=
  ⟨setGreg (memStore (rlyOn { g := [(3, 0x240), (4, 0xAABBCCDD99887766), (5, 0x1122334455667788), (8, 3), (15, 9)] } State.reset) 0x10007A40240 [1, 2, 3, 4, 5, 6, 7, 0x88]) 8 3 0x0F00000000000000, 8, 7, 3, 0, 3, by decide +kernel⟩

theorem meets_RelayLoadsStoresAndAtomics_19_1 : ∃ (s : State) (a rd ra imm : Nat) (p : AddrAt), (stopped s = false) ∧
  (mayIssue s a = true) ∧ (waitsForLoad s a [rd, ra] = false) ∧ (fetchFault s a = none) ∧ (accessFault s a ((greg s a
  ra + wrapInt 64 (signed 16 imm)) % 2 ^ 64) ⟨4, false, false, false⟩ = none) ∧ (accessWaits s a ((greg s a ra +
  wrapInt 64 (signed 16 imm)) % 2 ^ 64) ⟨4, false, false, false⟩ = false) ∧ (resolve s a ((greg s a ra + wrapInt 64
  (signed 16 imm)) % 2 ^ 64) 4 = some p) :=
  ⟨memStore (rlyOn { g := [(3, 0x240), (4, 0xAABBCCDD99887766), (5, 0x1122334455667788), (8, 3), (15, 9)] } State.reset) 0x10007A40240 [1, 2, 3, 4, 5, 6, 7, 0x88], 8, 7, 3, 0, .ram 0x10007A40240, by decide +kernel⟩

theorem meets_RelayLoadsStoresAndAtomics_19_2 : ∃ (s : State) (a rd ra imm : Nat) (p : AddrAt), (stopped s = false) ∧
  (mayIssue s a = true) ∧ (waitsForLoad s a [rd, ra] = false) ∧ (fetchFault s a = none) ∧ (accessFault s a ((greg s a
  ra + wrapInt 64 (signed 16 imm)) % 2 ^ 64) ⟨4, false, false, false⟩ = none) ∧ (accessWaits s a ((greg s a ra +
  wrapInt 64 (signed 16 imm)) % 2 ^ 64) ⟨4, false, false, false⟩ = false) ∧ (resolve s a ((greg s a ra + wrapInt 64
  (signed 16 imm)) % 2 ^ 64) 4 = some p) :=
  ⟨stwOn { g := [(3, 0x3F0000000100)] } {} State.reset, 512, 7, 3, 0, .setup 0x100, by decide +kernel⟩

theorem meets_RelayLoadsStoresAndAtomics_19_3 : ∃ (s : State) (a rd ra imm : Nat) (p : AddrAt), (stopped s = false) ∧
  (mayIssue s a = true) ∧ (waitsForLoad s a [rd, ra] = false) ∧ (fetchFault s a = none) ∧ (accessFault s a ((greg s a
  ra + wrapInt 64 (signed 16 imm)) % 2 ^ 64) ⟨4, false, false, false⟩ = none) ∧ (accessWaits s a ((greg s a ra +
  wrapInt 64 (signed 16 imm)) % 2 ^ 64) ⟨4, false, false, false⟩ = false) ∧ (resolve s a ((greg s a ra + wrapInt 64
  (signed 16 imm)) % 2 ^ 64) 4 = some p) :=
  ⟨stwOn { g := [(3, 0x200000000000)] } {} State.reset, 512, 7, 3, 0, .window 0 0, by decide +kernel⟩

theorem meets_RelayLoadsStoresAndAtomics_20 : ∃ (s : State) (a rd ra imm c : Nat), (stopped s = false) ∧ (mayIssue s a
  = true) ∧ (waitsForLoad s a [rd, ra] = false) ∧ (fetchFault s a = none) ∧ (accessFault s a ((greg s a ra + wrapInt
  64 (signed 16 imm)) % 2 ^ 64) ⟨4, false, false, false⟩ = some c) :=
  ⟨setGreg (memStore (rlyOn { g := [(3, 0x240), (4, 0xAABBCCDD99887766), (5, 0x1122334455667788), (8, 3), (15, 9)] } State.reset) 0x10007A40240 [1, 2, 3, 4, 5, 6, 7, 0x88]) 8 3 0x0F00000000000000, 8, 7, 3, 0, 3, by decide +kernel⟩

theorem meets_RelayLoadsStoresAndAtomics_21_1 : ∃ (s : State) (a rd ra imm : Nat) (p : AddrAt), (stopped s = false) ∧
  (mayIssue s a = true) ∧ (waitsForLoad s a [rd, ra] = false) ∧ (fetchFault s a = none) ∧ (accessFault s a ((greg s a
  ra + wrapInt 64 (signed 16 imm)) % 2 ^ 64) ⟨8, false, false, false⟩ = none) ∧ (accessWaits s a ((greg s a ra +
  wrapInt 64 (signed 16 imm)) % 2 ^ 64) ⟨8, false, false, false⟩ = false) ∧ (resolve s a ((greg s a ra + wrapInt 64
  (signed 16 imm)) % 2 ^ 64) 8 = some p) :=
  ⟨memStore (rlyOn { g := [(3, 0x240), (4, 0xAABBCCDD99887766), (5, 0x1122334455667788), (8, 3), (15, 9)] } State.reset) 0x10007A40240 [1, 2, 3, 4, 5, 6, 7, 0x88], 8, 7, 3, 0, .ram 0x10007A40240, by decide +kernel⟩

theorem meets_RelayLoadsStoresAndAtomics_21_2 : ∃ (s : State) (a rd ra imm : Nat) (p : AddrAt), (stopped s = false) ∧
  (mayIssue s a = true) ∧ (waitsForLoad s a [rd, ra] = false) ∧ (fetchFault s a = none) ∧ (accessFault s a ((greg s a
  ra + wrapInt 64 (signed 16 imm)) % 2 ^ 64) ⟨8, false, false, false⟩ = none) ∧ (accessWaits s a ((greg s a ra +
  wrapInt 64 (signed 16 imm)) % 2 ^ 64) ⟨8, false, false, false⟩ = false) ∧ (resolve s a ((greg s a ra + wrapInt 64
  (signed 16 imm)) % 2 ^ 64) 8 = some p) :=
  ⟨stwOn { g := [(3, 0x3F0000000100)] } {} State.reset, 512, 7, 3, 0, .setup 0x100, by decide +kernel⟩

theorem meets_RelayLoadsStoresAndAtomics_21_3 : ∃ (s : State) (a rd ra imm : Nat) (p : AddrAt), (stopped s = false) ∧
  (mayIssue s a = true) ∧ (waitsForLoad s a [rd, ra] = false) ∧ (fetchFault s a = none) ∧ (accessFault s a ((greg s a
  ra + wrapInt 64 (signed 16 imm)) % 2 ^ 64) ⟨8, false, false, false⟩ = none) ∧ (accessWaits s a ((greg s a ra +
  wrapInt 64 (signed 16 imm)) % 2 ^ 64) ⟨8, false, false, false⟩ = false) ∧ (resolve s a ((greg s a ra + wrapInt 64
  (signed 16 imm)) % 2 ^ 64) 8 = some p) :=
  ⟨stwOn { g := [(3, 0x200000000000)] } {} State.reset, 512, 7, 3, 0, .window 0 0, by decide +kernel⟩

theorem meets_RelayLoadsStoresAndAtomics_22 : ∃ (s : State) (a rd ra imm c : Nat), (stopped s = false) ∧ (mayIssue s a
  = true) ∧ (waitsForLoad s a [rd, ra] = false) ∧ (fetchFault s a = none) ∧ (accessFault s a ((greg s a ra + wrapInt
  64 (signed 16 imm)) % 2 ^ 64) ⟨8, false, false, false⟩ = some c) :=
  ⟨setGreg (memStore (rlyOn { g := [(3, 0x240), (4, 0xAABBCCDD99887766), (5, 0x1122334455667788), (8, 3), (15, 9)] } State.reset) 0x10007A40240 [1, 2, 3, 4, 5, 6, 7, 0x88]) 8 3 0x0F00000000000000, 8, 7, 3, 0, 3, by decide +kernel⟩

theorem meets_RelayLoadsStoresAndAtomics_23 : ∃ (s : State) (a rd ra imm : Nat) (p : AddrAt), (stopped s = false) ∧
  (mayIssue s a = true) ∧ (waitsForLoad s a (ra :: groupRegs rd) = false) ∧ (fetchFault s a = none) ∧ (lineGroup rd =
  true) ∧ (accessFault s a ((greg s a ra + wrapInt 64 (signed 16 imm)) % 2 ^ 64) ⟨64, false, false, true⟩ = none) ∧
  (accessWaits s a ((greg s a ra + wrapInt 64 (signed 16 imm)) % 2 ^ 64) ⟨64, false, false, true⟩ = false) ∧ (resolve
  s a ((greg s a ra + wrapInt 64 (signed 16 imm)) % 2 ^ 64) 64 = some p) :=
  ⟨memStore (rlyOn { g := [(3, 0x240), (4, 0xAABBCCDD99887766), (5, 0x1122334455667788), (8, 3), (15, 9)] } State.reset) 0x10007A40240 [1, 2, 3, 4, 5, 6, 7, 0x88], 8, 16, 3, 0, .ram 0x10007A40240, by decide +kernel⟩

theorem meets_RelayLoadsStoresAndAtomics_24 : ∃ (s : State) (a rd ra _ : Nat), (stopped s = false) ∧ (mayIssue s a =
  true) ∧ (waitsForLoad s a [ra] = false) ∧ (fetchFault s a = none) ∧ (lineGroup rd = false) :=
  ⟨memStore (rlyOn { g := [(3, 0x240), (4, 0xAABBCCDD99887766), (5, 0x1122334455667788), (8, 3), (15, 9)] } State.reset) 0x10007A40240 [1, 2, 3, 4, 5, 6, 7, 0x88], 8, 17, 3, 0, by decide +kernel⟩

theorem meets_RelayLoadsStoresAndAtomics_25_1 : ∃ (s : State) (a rs ra imm : Nat) (p : AddrAt), (stopped s = false) ∧
  (mayIssue s a = true) ∧ (waitsForLoad s a [rs, ra] = false) ∧ (fetchFault s a = none) ∧ (accessFault s a ((greg s a
  ra + wrapInt 64 (signed 16 imm)) % 2 ^ 64) ⟨1, true, false, false⟩ = none) ∧ (accessWaits s a ((greg s a ra +
  wrapInt 64 (signed 16 imm)) % 2 ^ 64) ⟨1, true, false, false⟩ = false) ∧ (resolve s a ((greg s a ra + wrapInt 64
  (signed 16 imm)) % 2 ^ 64) 1 = some p) :=
  ⟨memStore (rlyOn { g := [(3, 0x240), (4, 0xAABBCCDD99887766), (5, 0x1122334455667788), (8, 3), (15, 9)] } State.reset) 0x10007A40240 [1, 2, 3, 4, 5, 6, 7, 0x88], 8, 7, 3, 0, .ram 0x10007A40240, by decide +kernel⟩

theorem meets_RelayLoadsStoresAndAtomics_26 : ∃ (s : State) (a rs ra imm c : Nat), (stopped s = false) ∧ (mayIssue s a
  = true) ∧ (waitsForLoad s a [rs, ra] = false) ∧ (fetchFault s a = none) ∧ (accessFault s a ((greg s a ra + wrapInt
  64 (signed 16 imm)) % 2 ^ 64) ⟨1, true, false, false⟩ = some c) :=
  ⟨setGreg (memStore (rlyOn { g := [(3, 0x240), (4, 0xAABBCCDD99887766), (5, 0x1122334455667788), (8, 3), (15, 9)] } State.reset) 0x10007A40240 [1, 2, 3, 4, 5, 6, 7, 0x88]) 8 3 0x0F00000000000000, 8, 7, 3, 0, 3, by decide +kernel⟩

theorem meets_RelayLoadsStoresAndAtomics_27_1 : ∃ (s : State) (a rs ra imm : Nat) (p : AddrAt), (stopped s = false) ∧
  (mayIssue s a = true) ∧ (waitsForLoad s a [rs, ra] = false) ∧ (fetchFault s a = none) ∧ (accessFault s a ((greg s a
  ra + wrapInt 64 (signed 16 imm)) % 2 ^ 64) ⟨2, true, false, false⟩ = none) ∧ (accessWaits s a ((greg s a ra +
  wrapInt 64 (signed 16 imm)) % 2 ^ 64) ⟨2, true, false, false⟩ = false) ∧ (resolve s a ((greg s a ra + wrapInt 64
  (signed 16 imm)) % 2 ^ 64) 2 = some p) :=
  ⟨memStore (rlyOn { g := [(3, 0x240), (4, 0xAABBCCDD99887766), (5, 0x1122334455667788), (8, 3), (15, 9)] } State.reset) 0x10007A40240 [1, 2, 3, 4, 5, 6, 7, 0x88], 8, 7, 3, 0, .ram 0x10007A40240, by decide +kernel⟩

theorem meets_RelayLoadsStoresAndAtomics_28 : ∃ (s : State) (a rs ra imm c : Nat), (stopped s = false) ∧ (mayIssue s a
  = true) ∧ (waitsForLoad s a [rs, ra] = false) ∧ (fetchFault s a = none) ∧ (accessFault s a ((greg s a ra + wrapInt
  64 (signed 16 imm)) % 2 ^ 64) ⟨2, true, false, false⟩ = some c) :=
  ⟨setGreg (memStore (rlyOn { g := [(3, 0x240), (4, 0xAABBCCDD99887766), (5, 0x1122334455667788), (8, 3), (15, 9)] } State.reset) 0x10007A40240 [1, 2, 3, 4, 5, 6, 7, 0x88]) 8 3 0x0F00000000000000, 8, 7, 3, 0, 3, by decide +kernel⟩

theorem meets_RelayLoadsStoresAndAtomics_29_1 : ∃ (s : State) (a rs ra imm : Nat) (p : AddrAt), (stopped s = false) ∧
  (mayIssue s a = true) ∧ (waitsForLoad s a [rs, ra] = false) ∧ (fetchFault s a = none) ∧ (accessFault s a ((greg s a
  ra + wrapInt 64 (signed 16 imm)) % 2 ^ 64) ⟨4, true, false, false⟩ = none) ∧ (accessWaits s a ((greg s a ra +
  wrapInt 64 (signed 16 imm)) % 2 ^ 64) ⟨4, true, false, false⟩ = false) ∧ (resolve s a ((greg s a ra + wrapInt 64
  (signed 16 imm)) % 2 ^ 64) 4 = some p) :=
  ⟨memStore (rlyOn { g := [(3, 0x240), (4, 0xAABBCCDD99887766), (5, 0x1122334455667788), (8, 3), (15, 9)] } State.reset) 0x10007A40240 [1, 2, 3, 4, 5, 6, 7, 0x88], 8, 7, 3, 0, .ram 0x10007A40240, by decide +kernel⟩

theorem meets_RelayLoadsStoresAndAtomics_29_2 : ∃ (s : State) (a rs ra imm : Nat) (p : AddrAt), (stopped s = false) ∧
  (mayIssue s a = true) ∧ (waitsForLoad s a [rs, ra] = false) ∧ (fetchFault s a = none) ∧ (accessFault s a ((greg s a
  ra + wrapInt 64 (signed 16 imm)) % 2 ^ 64) ⟨4, true, false, false⟩ = none) ∧ (accessWaits s a ((greg s a ra +
  wrapInt 64 (signed 16 imm)) % 2 ^ 64) ⟨4, true, false, false⟩ = false) ∧ (resolve s a ((greg s a ra + wrapInt 64
  (signed 16 imm)) % 2 ^ 64) 4 = some p) :=
  ⟨stwOn { g := [(3, 0x200000000000)] } {} State.reset, 512, 7, 3, 0, .window 0 0, by decide +kernel⟩

theorem meets_RelayLoadsStoresAndAtomics_30 : ∃ (s : State) (a rs ra imm c : Nat), (stopped s = false) ∧ (mayIssue s a
  = true) ∧ (waitsForLoad s a [rs, ra] = false) ∧ (fetchFault s a = none) ∧ (accessFault s a ((greg s a ra + wrapInt
  64 (signed 16 imm)) % 2 ^ 64) ⟨4, true, false, false⟩ = some c) :=
  ⟨setGreg (memStore (rlyOn { g := [(3, 0x240), (4, 0xAABBCCDD99887766), (5, 0x1122334455667788), (8, 3), (15, 9)] } State.reset) 0x10007A40240 [1, 2, 3, 4, 5, 6, 7, 0x88]) 8 3 0x0F00000000000000, 8, 7, 3, 0, 3, by decide +kernel⟩

theorem meets_RelayLoadsStoresAndAtomics_31_1 : ∃ (s : State) (a rs ra imm : Nat) (p : AddrAt), (stopped s = false) ∧
  (mayIssue s a = true) ∧ (waitsForLoad s a [rs, ra] = false) ∧ (fetchFault s a = none) ∧ (accessFault s a ((greg s a
  ra + wrapInt 64 (signed 16 imm)) % 2 ^ 64) ⟨8, true, false, false⟩ = none) ∧ (accessWaits s a ((greg s a ra +
  wrapInt 64 (signed 16 imm)) % 2 ^ 64) ⟨8, true, false, false⟩ = false) ∧ (resolve s a ((greg s a ra + wrapInt 64
  (signed 16 imm)) % 2 ^ 64) 8 = some p) :=
  ⟨memStore (rlyOn { g := [(3, 0x240), (4, 0xAABBCCDD99887766), (5, 0x1122334455667788), (8, 3), (15, 9)] } State.reset) 0x10007A40240 [1, 2, 3, 4, 5, 6, 7, 0x88], 8, 7, 3, 0, .ram 0x10007A40240, by decide +kernel⟩

theorem meets_RelayLoadsStoresAndAtomics_31_2 : ∃ (s : State) (a rs ra imm : Nat) (p : AddrAt), (stopped s = false) ∧
  (mayIssue s a = true) ∧ (waitsForLoad s a [rs, ra] = false) ∧ (fetchFault s a = none) ∧ (accessFault s a ((greg s a
  ra + wrapInt 64 (signed 16 imm)) % 2 ^ 64) ⟨8, true, false, false⟩ = none) ∧ (accessWaits s a ((greg s a ra +
  wrapInt 64 (signed 16 imm)) % 2 ^ 64) ⟨8, true, false, false⟩ = false) ∧ (resolve s a ((greg s a ra + wrapInt 64
  (signed 16 imm)) % 2 ^ 64) 8 = some p) :=
  ⟨stwOn { g := [(3, 0x200000000000)] } {} State.reset, 512, 7, 3, 0, .window 0 0, by decide +kernel⟩

theorem meets_RelayLoadsStoresAndAtomics_32 : ∃ (s : State) (a rs ra imm c : Nat), (stopped s = false) ∧ (mayIssue s a
  = true) ∧ (waitsForLoad s a [rs, ra] = false) ∧ (fetchFault s a = none) ∧ (accessFault s a ((greg s a ra + wrapInt
  64 (signed 16 imm)) % 2 ^ 64) ⟨8, true, false, false⟩ = some c) :=
  ⟨setGreg (memStore (rlyOn { g := [(3, 0x240), (4, 0xAABBCCDD99887766), (5, 0x1122334455667788), (8, 3), (15, 9)] } State.reset) 0x10007A40240 [1, 2, 3, 4, 5, 6, 7, 0x88]) 8 3 0x0F00000000000000, 8, 7, 3, 0, 3, by decide +kernel⟩

theorem meets_RelayLoadsStoresAndAtomics_33 : ∃ (s : State) (a rs ra imm : Nat) (p : AddrAt), (stopped s = false) ∧
  (mayIssue s a = true) ∧ (waitsForLoad s a (ra :: groupRegs rs) = false) ∧ (fetchFault s a = none) ∧ (lineGroup rs =
  true) ∧ (accessFault s a ((greg s a ra + wrapInt 64 (signed 16 imm)) % 2 ^ 64) ⟨64, true, false, true⟩ = none) ∧
  (accessWaits s a ((greg s a ra + wrapInt 64 (signed 16 imm)) % 2 ^ 64) ⟨64, true, false, true⟩ = false) ∧ (resolve s
  a ((greg s a ra + wrapInt 64 (signed 16 imm)) % 2 ^ 64) 64 = some p) :=
  ⟨memStore (rlyOn { g := [(3, 0x240), (4, 0xAABBCCDD99887766), (5, 0x1122334455667788), (8, 3), (15, 9)] } State.reset) 0x10007A40240 [1, 2, 3, 4, 5, 6, 7, 0x88], 8, 8, 3, 0, .ram 0x10007A40240, by decide +kernel⟩

theorem meets_RelayLoadsStoresAndAtomics_34 : ∃ (s : State) (a rs ra _ : Nat), (stopped s = false) ∧ (mayIssue s a =
  true) ∧ (waitsForLoad s a [ra] = false) ∧ (fetchFault s a = none) ∧ (lineGroup rs = false) :=
  ⟨memStore (rlyOn { g := [(3, 0x240), (4, 0xAABBCCDD99887766), (5, 0x1122334455667788), (8, 3), (15, 9)] } State.reset) 0x10007A40240 [1, 2, 3, 4, 5, 6, 7, 0x88], 8, 17, 3, 0, by decide +kernel⟩

theorem meets_RelayLoadsStoresAndAtomics_35 : ∃ (s : State) (a rd ra rb fn : Nat) (p : AddrAt), (stopped s = false) ∧
  (mayIssue s a = true) ∧ (waitsForLoad s a [rd, ra, rb] = false) ∧ (fetchFault s a = none) ∧ (accessFault s a (greg s
  a ra) ⟨8, true, true, false⟩ = none) ∧ (accessWaits s a (greg s a ra) ⟨8, true, true, false⟩ = false) ∧ (resolve s a
  (greg s a ra) 8 = some p) ∧ (fn ≤ 4) :=
  ⟨memStore (rlyOn { g := [(3, 0x240), (4, 0xAABBCCDD99887766), (5, 0x1122334455667788), (8, 3), (15, 9)] } State.reset) 0x10007A40240 [1, 2, 3, 4, 5, 6, 7, 0x88], 8, 7, 3, 5, 4, .ram 0x10007A40240, by decide +kernel⟩

theorem meets_RelayLoadsStoresAndAtomics_36 : ∃ (s : State) (a rd ra rb fn : Nat), (stopped s = false) ∧ (mayIssue s a
  = true) ∧ (waitsForLoad s a [rd, ra, rb] = false) ∧ (fetchFault s a = none) ∧ (5 ≤ fn) :=
  ⟨memStore (rlyOn { g := [(3, 0x240), (4, 0xAABBCCDD99887766), (5, 0x1122334455667788), (8, 3), (15, 9)] } State.reset) 0x10007A40240 [1, 2, 3, 4, 5, 6, 7, 0x88], 8, 7, 3, 5, 5, by decide +kernel⟩

theorem meets_RelayLoadsStoresAndAtomics_37 : ∃ (s : State) (a rd ra rb : Nat) (p : AddrAt), (stopped s = false) ∧
  (mayIssue s a = true) ∧ (waitsForLoad s a [rd, ra, rb] = false) ∧ (fetchFault s a = none) ∧ (accessFault s a (greg s
  a ra) ⟨8, true, true, false⟩ = none) ∧ (accessWaits s a (greg s a ra) ⟨8, true, true, false⟩ = false) ∧ (resolve s a
  (greg s a ra) 8 = some p) :=
  ⟨memStore (rlyOn { g := [(3, 0x240), (4, 0xAABBCCDD99887766), (5, 0x1122334455667788), (8, 3), (15, 9)] } State.reset) 0x10007A40240 [1, 2, 3, 4, 5, 6, 7, 0x88], 8, 7, 3, 5, .ram 0x10007A40240, by decide +kernel⟩

theorem meets_RelayLoadsStoresAndAtomics_38 : ∃ (s : State) (a : Nat) (l : Load) (rest : List Load) (_ : Bytes) (_ :
  Bool), (stopped s = false) ∧ ((agentInt s a).loads = l :: rest) :=
  ⟨rlyOn { loads := [⟨7, 1, 8, 0, 0, 99, none, false, 0⟩] } State.reset, 8, ⟨7, 1, 8, 0, 0, 99, none, false, 0⟩, [], [], true, by decide +kernel⟩

theorem meets_RelayThreadsAndBatons_1 : ∃ (s : State) (a _ : Nat), (stopped s = false) ∧ (mayIssue s a = true) ∧
  (waitsForLoad s a [] = false) ∧ (fetchFault s a = none) ∧ ((agentInt s a).touched = []) :=
  ⟨rlyOn {} State.reset, 8, 0, by decide +kernel⟩

theorem meets_RelayThreadsAndBatons_2 : ∃ (s : State) (a rd ra _ ch : Nat), (stopped s = false) ∧ (mayIssue s a =
  true) ∧ (waitsForLoad s a [rd, ra] = false) ∧ (fetchFault s a = none) ∧ (a < 512) ∧ (bitsAt (greg s a ra) 0 12 = ch)
  ∧ (unitChannel s ch = false) ∧ ((Map.get s.rly.chans ch).length < 16) ∧ (requesters s ch = []) ∧ (Map.get
  s.rly.receivers ch = []) :=
  ⟨memStore (withRegs (rlyOn { g := [(3, 0x2340), (4, 90), (6, 1)] } State.reset) [(RLY_THCTX.state, 9, 0)]) 0x10007A7FC00 [7, 8], 8, 7, 4, 1, 90, by decide +kernel⟩

theorem meets_RelayThreadsAndBatons_3 : ∃ (s : State) (a rd ra _ ch : Nat) (b : Baton) (rest : List Baton), (stopped s
  = false) ∧ (mayIssue s a = true) ∧ (waitsForLoad s a [rd, ra] = false) ∧ (fetchFault s a = none) ∧ (a < 512) ∧
  (bitsAt (greg s a ra) 0 12 = ch) ∧ (ch / 512 = clusterOf a) ∧ (unitChannel s ch = false) ∧ (Map.get s.rly.chans ch =
  b :: rest) :=
  ⟨(let s := rlyOn { g := [(4, 90)] } State.reset; { s with rly := { s.rly with chans := [(90, [⟨77, 3⟩])] } }), 8, 7, 4, 0, 90, ⟨77, 3⟩, [], by decide +kernel⟩

theorem meets_RelayThreadsAndBatons_4_1 : ∃ (s : State) (a rd mask v : Nat), (stopped s = false) ∧ (mayIssue s a =
  true) ∧ (waitsForLoad s a [rd] = false) ∧ (fetchFault s a = none) ∧ (a < 512) ∧ ((mask % 2 = 1 && watchesAbroad s a)
  = false) ∧ (v = readyMask s a &&& mask) ∧ (v ≠ 0 ∨ mask = 0) :=
  ⟨rlyOn {} State.reset, 8, 7, 0, 0, by decide +kernel⟩

theorem meets_RelayThreadsAndBatons_4_2 : ∃ (s : State) (a rd mask v : Nat), (stopped s = false) ∧ (mayIssue s a =
  true) ∧ (waitsForLoad s a [rd] = false) ∧ (fetchFault s a = none) ∧ (a < 512) ∧ ((mask % 2 = 1 && watchesAbroad s a)
  = false) ∧ (v = readyMask s a &&& mask) ∧ (v ≠ 0 ∨ mask = 0) :=
  ⟨withRegs (rlyOn {} State.reset) [(RLY_THCTX.timer_fired, 8, 1)], 8, 7, 6, 2, by decide +kernel⟩

theorem meets_RelayThreadsAndBatons_5 : ∃ (s : State) (a rd mask : Nat), (stopped s = false) ∧ (mayIssue s a = true) ∧
  (waitsForLoad s a [rd] = false) ∧ (fetchFault s a = none) ∧ (a < 512) ∧ ((mask % 2 = 1 && watchesAbroad s a) =
  false) ∧ (mask ≠ 0) ∧ (readyMask s a &&& mask = 0) :=
  ⟨rlyOn {} State.reset, 8, 7, 6, by decide +kernel⟩

theorem meets_RelayThreadsAndBatons_6 : ∃ (s : State) (a rd ra rb n : Nat), (stopped s = false) ∧ (mayIssue s a =
  true) ∧ (waitsForLoad s a [rd, ra, rb] = false) ∧ (fetchFault s a = none) ∧ (a < 512) ∧ (a % 8 = 0) ∧ (1 ≤ n) ∧ (n ≤
  7) ∧ (threadState s (a + n) = thStopped) ∧ (rd % 32 ≠ ra % 32) :=
  ⟨withRegs (rlyOn { g := [(3, 0x2340), (4, 9), (6, 1)] } State.reset) [(RLY_THCTX.state, 9, 0)], 8, 7, 3, 4, 1, by decide +kernel⟩

theorem meets_RelayThreadsAndBatons_7 : ∃ (s : State) (a rd n : Nat), (stopped s = false) ∧ (mayIssue s a = true) ∧
  (waitsForLoad s a [rd] = false) ∧ (fetchFault s a = none) ∧ (a < 512) ∧ (a % 8 = 0) ∧ (1 ≤ n) ∧ (n ≤ 7) ∧
  (threadState s (a + n) = thStopped) :=
  ⟨withRegs (rlyOn { g := [(3, 0x2340), (4, 9), (6, 1)] } State.reset) [(RLY_THCTX.state, 9, 0), (RLY_THCTX.pc, 9, 0x2340), (RLY_THCTX.arg, 9, 5), (RLY_THCTX.account, 9, 6)], 8, 6, 1, by decide +kernel⟩

theorem meets_RelayThreadsAndBatons_8 : ∃ (s : State) (a rd n : Nat), (stopped s = false) ∧ (mayIssue s a = true) ∧
  (waitsForLoad s a [rd] = false) ∧ (fetchFault s a = none) ∧ (a < 512) ∧ (a % 8 = 0) ∧ (1 ≤ n) ∧ (n ≤ 7) ∧
  (threadState s (a + n) = thReady) :=
  ⟨withRegs (rlyOn { g := [(3, 0x2340), (4, 9), (6, 1)] } State.reset) [(RLY_THCTX.state, 9, 1)], 8, 6, 1, by decide +kernel⟩

theorem meets_RelayThreadsAndBatons_9 : ∃ (s : State) (a rd n : Nat), (stopped s = false) ∧ (mayIssue s a = true) ∧
  (waitsForLoad s a [rd] = false) ∧ (fetchFault s a = none) ∧ (a < 512) ∧ (a % 8 = 0) ∧ (1 ≤ n) ∧ (n ≤ 7) ∧
  (threadState s (a + n) = thFaulted) :=
  ⟨withRegs (rlyOn { g := [(3, 0x2340), (4, 9), (6, 1)] } State.reset) [(RLY_THCTX.state, 9, 4)], 8, 6, 1, by decide +kernel⟩

theorem meets_RelayThreadsAndBatons_10 : ∃ (s : State) (a : Nat), (stopped s = false) ∧ (mayIssue s a = true) ∧
  (waitsForLoad s a [] = false) ∧ (fetchFault s a = none) ∧ (a < 512) :=
  ⟨rlyOn {} State.reset, 8, by decide +kernel⟩

theorem meets_RelayThreadsAndBatons_11 : ∃ (s : State) (ch t0 rd : Nat), (stopped s = false) ∧ (ch < 4096) ∧
  (requesters s ch = [t0]) ∧ (t0 < 512) ∧ (Map.get s.rly.senders ch = [t0]) ∧ ((threadInt s t0).wait = .send ch rd) ∧
  ((Map.get s.rly.chans ch).length < 16) ∧ (unitChannel s ch = false) ∧ (Map.get s.rly.receivers ch = []) ∧ (readyMask
  s t0 = 0) :=
  ⟨(let s := withRegs (rlyOn { g := [(7, 5)] } State.reset) [(RLY_THCTX.state, 8, thWait)]; { s with rly := { s.rly with threads := [(8, { wait := .send 90 7 })], senders := [(90, [8])] } }), 90, 8, 7, by decide +kernel⟩

theorem meets_RelayThreadsAndBatons_12 : ∃ (s : State) (t0 : Nat), (stopped s = false) ∧ (t0 < 512) ∧ ((threadInt s
  t0).armed = true) ∧ ((threadInt s t0).timer ≤ now s) ∧ (threadState s t0 = thReady) :=
  ⟨(let s := rlyOn {} State.reset; { s with rly := { s.rly with threads := [(8, { timer := 5, armed := true })] }, tt := { tt := 5 } }), 8, by decide +kernel⟩

theorem meets_RelayThreadsAndBatons_13 : ∃ (s : State) (c : Nat), (stopped s = false) ∧ (c < 64) ∧ (coreStalled s c =
  true) ∧ (s.rd RLY_STALL_CYCLES.cycles ≠ 0) ∧ (s.rd RLY_STALL_CYCLES.cycles ≤ Map.get s.rly.stallFor c) ∧
  (s.rly.stalled.contains c = false) :=
  ⟨withRegs { State.reset with rly := { threads := [(8, { wait := .recv 90 7 })], stallFor := [(1, 16)] } } [(RLY_THCTX.state, 8, thWait), (RLY_STALL_CYCLES.cycles, 0, 9)], 1, by decide +kernel⟩

theorem meets_RelayThreadsAndBatons_14_1 : ∃ (s : State) (a rd n v : Nat), (stopped s = false) ∧ (mayIssue s a = true)
  ∧ (waitsForLoad s a [rd] = false) ∧ (fetchFault s a = none) ∧ ((n, v) ∈ [(0x000, a), (0x003, now s)]) :=
  ⟨rlyOn {} State.reset, 8, 7, 0, 8, by decide +kernel⟩

theorem meets_RelayThreadsAndBatons_14_2 : ∃ (s : State) (a rd n v : Nat), (stopped s = false) ∧ (mayIssue s a = true)
  ∧ (waitsForLoad s a [rd] = false) ∧ (fetchFault s a = none) ∧ ((n, v) ∈ [(0x000, a), (0x003, now s)]) :=
  ⟨rlyOn {} State.reset, 8, 7, 3, 0, by decide +kernel⟩

theorem meets_RelayThreadsAndBatons_15 : ∃ (s : State) (a rd : Nat), (stopped s = false) ∧ (mayIssue s a = true) ∧
  (waitsForLoad s a [rd] = false) ∧ (fetchFault s a = none) ∧ (a < 512) :=
  ⟨withRegs (rlyOn {} State.reset) [(RLY_THCTX.dma_ev, 8, 3), (RLY_THCTX.pkt_ev, 8, 4)], 8, 7, by decide +kernel⟩

theorem meets_RelayThreadsAndBatons_16 : ∃ (s : State) (a ra : Nat), (stopped s = false) ∧ (mayIssue s a = true) ∧
  (waitsForLoad s a [ra] = false) ∧ (fetchFault s a = none) ∧ (a < 512) :=
  ⟨rlyOn { g := [(3, 0x8000000000000005), (4, 0xFFFFFFFF0000F080), (5, 77)] } State.reset, 8, 5, by decide +kernel⟩

theorem meets_RelayThreadsAndBatons_17 : ∃ (s : State) (a ra : Nat), (stopped s = false) ∧ (mayIssue s a = true) ∧
  (waitsForLoad s a [ra] = false) ∧ (fetchFault s a = none) ∧ (512 ≤ a) ∧ ((stewardInt s (a - 512)).user = false) :=
  ⟨stwOn { g := [(3, 0x2345)] } { pmode := true, pie := true, svec := 0x400, sepc := 0x888 } State.reset, 512, 3, by decide +kernel⟩

theorem meets_RelayThreadsAndBatons_18 : ∃ (s : State) (a _ : Nat), (stopped s = false) ∧ (mayIssue s a = true) ∧
  (waitsForLoad s a [] = false) ∧ (fetchFault s a = none) :=
  ⟨rlyOn {} State.reset, 8, 0, by decide +kernel⟩

theorem meets_RelayThreadsAndBatons_19 : ∃ (s : State) (a rd ra _ ch : Nat), (stopped s = false) ∧ (mayIssue s a =
  true) ∧ (waitsForLoad s a [rd, ra] = false) ∧ (fetchFault s a = none) ∧ (a < 512) ∧ (bitsAt (greg s a ra) 0 12 = ch)
  ∧ (grantWinner s ch (requesters s ch ++ [a]) = some a) :=
  ⟨withRegs (rlyOn { g := [(3, 0x2340), (4, 9), (6, 1)] } State.reset) [(RLY_THCTX.state, 9, 0)], 8, 7, 4, 1, 9, by decide +kernel⟩

theorem meets_RelayThreadsAndBatons_20 : ∃ (s : State) (a rd ra _ ch : Nat) (x : Nat), (stopped s = false) ∧ (mayIssue
  s a = true) ∧ (waitsForLoad s a [rd, ra] = false) ∧ (fetchFault s a = none) ∧ (a < 512) ∧ (bitsAt (greg s a ra) 0 12
  = ch) ∧ (grantWinner s ch (requesters s ch ++ [a]) = some x) ∧ (x ≠ a) :=
  ⟨(let s := withRegs (rlyOn { g := [(3, 0x2340), (4, 9), (6, 1)] } State.reset) [(RLY_THCTX.state, 9, 0)]; { s with rly := { s.rly with senders := [(9, [9])], lastGrant := [(9, 9)] } }), 8, 7, 4, 0, 9, 9, by decide +kernel⟩

theorem meets_RelayThreadsAndBatons_21_1 : ∃ (s : State) (a rd ra _ ch : Nat), (stopped s = false) ∧ (mayIssue s a =
  true) ∧ (waitsForLoad s a [rd, ra] = false) ∧ (fetchFault s a = none) ∧ (a < 512) ∧ (bitsAt (greg s a ra) 0 12 = ch)
  ∧ (grantWinner s ch (requesters s ch ++ [a]) = none) :=
  ⟨(let s := withRegs (rlyOn { g := [(3, 0x2340), (4, 9), (6, 1)] } State.reset) [(RLY_THCTX.state, 9, 0)]; { s with rly := { s.rly with chans := [(9, List.replicate 16 ⟨0, 0⟩)] } }), 8, 7, 4, 0, 9, by decide +kernel⟩

theorem meets_RelayThreadsAndBatons_21_2 : ∃ (s : State) (a rd ra _ ch : Nat), (stopped s = false) ∧ (mayIssue s a =
  true) ∧ (waitsForLoad s a [rd, ra] = false) ∧ (fetchFault s a = none) ∧ (a < 512) ∧ (bitsAt (greg s a ra) 0 12 = ch)
  ∧ (grantWinner s ch (requesters s ch ++ [a]) = none) :=
  ⟨(let s := withRegs (rlyOn { g := [(3, 0x2340), (4, 9), (6, 1)] } State.reset) [(RLY_THCTX.state, 9, 0)]; { s with rly := { s.rly with chans := [(9, List.replicate 16 ⟨0, 0⟩)] } }), 8, 7, 4, 1, 9, by decide +kernel⟩

theorem meets_RelayThreadsAndBatons_22 : ∃ (s : State) (a rd ra _ ch : Nat) (b : Baton) (rest : List Baton), (stopped
  s = false) ∧ (mayIssue s a = true) ∧ (waitsForLoad s a [rd, ra] = false) ∧ (fetchFault s a = none) ∧ (a < 512) ∧
  (bitsAt (greg s a ra) 0 12 = ch) ∧ (ch / 512 = clusterOf a) ∧ (unitChannel s ch = false) ∧ (Map.get s.rly.chans ch =
  b :: rest) :=
  ⟨(let s := rlyOn { g := [(4, 90)] } State.reset; { s with rly := { s.rly with chans := [(90, [⟨77, 3⟩])] } }), 8, 7, 4, 0, 90, ⟨77, 3⟩, [], by decide +kernel⟩

theorem meets_RelayThreadsAndBatons_23 : ∃ (s : State) (a rd ra fn ch : Nat), (stopped s = false) ∧ (mayIssue s a =
  true) ∧ (waitsForLoad s a [rd, ra] = false) ∧ (fetchFault s a = none) ∧ (a < 512) ∧ (bitsAt (greg s a ra) 0 12 = ch)
  ∧ (ch / 512 = clusterOf a) ∧ (unitChannel s ch = false) ∧ (Map.get s.rly.chans ch = []) ∧ (fn % 2 = 1) :=
  ⟨rlyOn { g := [(4, 90)] } State.reset, 8, 7, 4, 1, 90, by decide +kernel⟩

theorem meets_RelayThreadsAndBatons_24 : ∃ (s : State) (a rd ra fn ch : Nat), (stopped s = false) ∧ (mayIssue s a =
  true) ∧ (waitsForLoad s a [rd, ra] = false) ∧ (fetchFault s a = none) ∧ (a < 512) ∧ (bitsAt (greg s a ra) 0 12 = ch)
  ∧ (ch / 512 = clusterOf a) ∧ (unitChannel s ch = false) ∧ (Map.get s.rly.chans ch = []) ∧ (fn % 2 = 0) :=
  ⟨rlyOn { g := [(4, 90)] } State.reset, 8, 7, 4, 0, 90, by decide +kernel⟩

theorem meets_RelayThreadsAndBatons_25 : ∃ (s : State) (a rd ra _ ch : Nat), (stopped s = false) ∧ (mayIssue s a =
  true) ∧ (waitsForLoad s a [rd, ra] = false) ∧ (fetchFault s a = none) ∧ (a < 512) ∧ (bitsAt (greg s a ra) 0 12 = ch)
  ∧ (ch / 512 ≠ clusterOf a ∨ unitChannel s ch = true) :=
  ⟨rlyOn { g := [(4, 900)] } State.reset, 8, 7, 4, 0, 900, by decide +kernel⟩

theorem meets_RelayThreadsAndBatons_26_1 : ∃ (s : State) (a rd mask : Nat), (stopped s = false) ∧ (mayIssue s a =
  true) ∧ (waitsForLoad s a [rd] = false) ∧ (fetchFault s a = none) ∧ (a < 512) ∧ ((mask % 2 = 1 && watchesAbroad s a)
  = false) ∧ (mask = 0 ∨ readyMask s a &&& mask ≠ 0) :=
  ⟨rlyOn {} State.reset, 8, 7, 0, by decide +kernel⟩

theorem meets_RelayThreadsAndBatons_26_2 : ∃ (s : State) (a rd mask : Nat), (stopped s = false) ∧ (mayIssue s a =
  true) ∧ (waitsForLoad s a [rd] = false) ∧ (fetchFault s a = none) ∧ (a < 512) ∧ ((mask % 2 = 1 && watchesAbroad s a)
  = false) ∧ (mask = 0 ∨ readyMask s a &&& mask ≠ 0) :=
  ⟨withRegs (rlyOn {} State.reset) [(RLY_THCTX.timer_fired, 8, 1)], 8, 7, 6, by decide +kernel⟩

theorem meets_RelayThreadsAndBatons_27 : ∃ (s : State) (a rd mask : Nat), (stopped s = false) ∧ (mayIssue s a = true)
  ∧ (waitsForLoad s a [rd] = false) ∧ (fetchFault s a = none) ∧ (a < 512) ∧ ((mask % 2 = 1 && watchesAbroad s a) =
  false) ∧ (mask ≠ 0) ∧ (readyMask s a &&& mask = 0) :=
  ⟨rlyOn {} State.reset, 8, 7, 6, by decide +kernel⟩

theorem meets_RelayThreadsAndBatons_28 : ∃ (s : State) (a rd ra rb n : Nat), (stopped s = false) ∧ (mayIssue s a =
  true) ∧ (waitsForLoad s a [rd, ra, rb] = false) ∧ (fetchFault s a = none) ∧ (a < 512) ∧ (a % 8 = 0) ∧ (1 ≤ n) ∧ (n ≤
  7) ∧ (threadState s (a + n) = thStopped) :=
  ⟨withRegs (rlyOn { g := [(3, 0x2340), (4, 9), (6, 1)] } State.reset) [(RLY_THCTX.state, 9, 0)], 8, 7, 3, 4, 1, by decide +kernel⟩

theorem meets_RelayThreadsAndBatons_29 : ∃ (s : State) (a rd ra rb n : Nat), (stopped s = false) ∧ (mayIssue s a =
  true) ∧ (waitsForLoad s a [rd, ra, rb] = false) ∧ (fetchFault s a = none) ∧ (a < 512) ∧ (a % 8 = 0) ∧ (1 ≤ n) ∧ (n ≤
  7) ∧ (threadState s (a + n) ≠ thStopped) :=
  ⟨withRegs (rlyOn { g := [(3, 0x2340), (4, 9), (6, 1)] } State.reset) [(RLY_THCTX.state, 9, 1)], 8, 7, 3, 4, 1, by decide +kernel⟩

theorem meets_RelayThreadsAndBatons_30 : ∃ (s : State) (a rd _ _ n : Nat), (stopped s = false) ∧ (mayIssue s a = true)
  ∧ (waitsForLoad s a [rd] = false) ∧ (fetchFault s a = none) ∧ (a < 512) ∧ (a % 8 = 0) ∧ (1 ≤ n) ∧ (n ≤ 7) ∧
  (threadState s (a + n) = thStopped) :=
  ⟨withRegs (rlyOn { g := [(3, 0x2340), (4, 9), (6, 1)] } State.reset) [(RLY_THCTX.state, 9, 0)], 8, 7, 3, 4, 1, by decide +kernel⟩

theorem meets_RelayThreadsAndBatons_31 : ∃ (s : State) (a rd _ _ n : Nat), (stopped s = false) ∧ (mayIssue s a = true)
  ∧ (waitsForLoad s a [rd] = false) ∧ (fetchFault s a = none) ∧ (a < 512) ∧ (a % 8 = 0) ∧ (1 ≤ n) ∧ (n ≤ 7) ∧
  (threadState s (a + n) ≠ thStopped) :=
  ⟨withRegs (rlyOn { g := [(3, 0x2340), (4, 9), (6, 1)] } State.reset) [(RLY_THCTX.state, 9, 1)], 8, 7, 3, 4, 1, by decide +kernel⟩

theorem meets_RelayThreadsAndBatons_32 : ∃ (s : State) (a rd _ _ n : Nat), (stopped s = false) ∧ (mayIssue s a = true)
  ∧ (waitsForLoad s a [rd] = false) ∧ (fetchFault s a = none) ∧ (a < 512) ∧ (a % 8 = 0) ∧ (1 ≤ n) ∧ (n ≤ 7) ∧
  (stoppableThread (threadState s (a + n)) = true) :=
  ⟨withRegs (rlyOn { g := [(3, 0x2340), (4, 9), (6, 1)] } State.reset) [(RLY_THCTX.state, 9, 1)], 8, 7, 3, 4, 1, by decide +kernel⟩

theorem meets_RelayThreadsAndBatons_33 : ∃ (s : State) (a rd _ _ n : Nat), (stopped s = false) ∧ (mayIssue s a = true)
  ∧ (waitsForLoad s a [rd] = false) ∧ (fetchFault s a = none) ∧ (a < 512) ∧ (a % 8 = 0) ∧ (1 ≤ n) ∧ (n ≤ 7) ∧
  (stoppableThread (threadState s (a + n)) = false) :=
  ⟨withRegs (rlyOn { g := [(3, 0x2340), (4, 9), (6, 1)] } State.reset) [(RLY_THCTX.state, 9, 4)], 8, 7, 3, 4, 1, by decide +kernel⟩

theorem meets_RelayThreadsAndBatons_34 : ∃ (s : State) (a rd ra rb n : Nat), (stopped s = false) ∧ (mayIssue s a =
  true) ∧ (waitsForLoad s a [rd, ra, rb] = false) ∧ (fetchFault s a = none) ∧ (a < 512) ∧ (a % 8 ≠ 0 ∨ n = 0 ∨ 7 < n)
  :=
  ⟨withRegs (rlyOn { g := [(3, 0x2340), (4, 9), (6, 1)] } State.reset) [(RLY_THCTX.state, 9, 0)], 8, 7, 3, 4, 8, by decide +kernel⟩

theorem meets_RelayThreadsAndBatons_35 : ∃ (s : State) (a rd _ _ n : Nat), (stopped s = false) ∧ (mayIssue s a = true)
  ∧ (waitsForLoad s a [rd] = false) ∧ (fetchFault s a = none) ∧ (a < 512) ∧ (a % 8 ≠ 0 ∨ n = 0 ∨ 7 < n) :=
  ⟨withRegs (rlyOn { g := [(3, 0x2340), (4, 9), (6, 1)] } State.reset) [(RLY_THCTX.state, 9, 0)], 8, 7, 3, 4, 8, by decide +kernel⟩

theorem meets_RelayThreadsAndBatons_36 : ∃ (s : State) (a rd _ _ n : Nat), (stopped s = false) ∧ (mayIssue s a = true)
  ∧ (waitsForLoad s a [rd] = false) ∧ (fetchFault s a = none) ∧ (a < 512) ∧ (a % 8 ≠ 0 ∨ n = 0 ∨ 7 < n) :=
  ⟨withRegs (rlyOn { g := [(3, 0x2340), (4, 9), (6, 1)] } State.reset) [(RLY_THCTX.state, 9, 0)], 8, 7, 3, 4, 8, by decide +kernel⟩

theorem meets_RelayThreadsAndBatons_37 : ∃ (s : State) (a : Nat), (stopped s = false) ∧ (mayIssue s a = true) ∧
  (waitsForLoad s a [] = false) ∧ (fetchFault s a = none) ∧ (a < 512) :=
  ⟨rlyOn {} State.reset, 8, by decide +kernel⟩

theorem meets_RelayThreadsAndBatons_38 : ∃ (s : State) (a rd ra rb _ : Nat), (stopped s = false) ∧ (mayIssue s a =
  true) ∧ (waitsForLoad s a [rd, ra, rb] = false) ∧ (fetchFault s a = none) ∧ (512 ≤ a) :=
  ⟨stwOn { g := [(3, 0x2345)] } { user := true, ie := true, svec := 0x400, sepc := 0x888 } State.reset, 512, 3, 3, 3, 3, by decide +kernel⟩

theorem meets_RelayThreadsAndBatons_39 : ∃ (s : State) (a rd _ : Nat), (stopped s = false) ∧ (mayIssue s a = true) ∧
  (waitsForLoad s a [rd] = false) ∧ (fetchFault s a = none) ∧ (512 ≤ a) :=
  ⟨stwOn { g := [(3, 0x2345)] } { user := true, ie := true, svec := 0x400, sepc := 0x888 } State.reset, 512, 3, 3, by decide +kernel⟩

theorem meets_RelayThreadsAndBatons_40 : ∃ (s : State) (a rd _ : Nat), (stopped s = false) ∧ (mayIssue s a = true) ∧
  (waitsForLoad s a [rd] = false) ∧ (fetchFault s a = none) ∧ (512 ≤ a) :=
  ⟨stwOn { g := [(3, 0x2345)] } { user := true, ie := true, svec := 0x400, sepc := 0x888 } State.reset, 512, 3, 3, by decide +kernel⟩

theorem meets_RelayThreadsAndBatons_41 : ∃ (s : State) (a : Nat), (stopped s = false) ∧ (mayIssue s a = true) ∧
  (waitsForLoad s a [] = false) ∧ (fetchFault s a = none) ∧ (512 ≤ a) :=
  ⟨stwOn { g := [(3, 0x2345)] } { user := true, ie := true, svec := 0x400, sepc := 0x888 } State.reset, 512, by decide +kernel⟩

theorem meets_RelayThreadsAndBatons_42 : ∃ (s : State) (a rd ra _ : Nat), (stopped s = false) ∧ (mayIssue s a = true)
  ∧ (waitsForLoad s a [rd, ra] = false) ∧ (fetchFault s a = none) ∧ (512 ≤ a) :=
  ⟨stwOn { g := [(3, 0x2345)] } { user := true, ie := true, svec := 0x400, sepc := 0x888 } State.reset, 512, 3, 3, 3, by decide +kernel⟩

theorem meets_RelayThreadsAndBatons_43 : ∃ (s : State) (a rd ra _ : Nat), (stopped s = false) ∧ (mayIssue s a = true)
  ∧ (waitsForLoad s a [rd, ra] = false) ∧ (fetchFault s a = none) ∧ (512 ≤ a) :=
  ⟨stwOn { g := [(3, 0x2345)] } { user := true, ie := true, svec := 0x400, sepc := 0x888 } State.reset, 512, 3, 3, 3, by decide +kernel⟩

theorem meets_RelayThreadsAndBatons_44 : ∃ (s : State) (a rd _ : Nat), (stopped s = false) ∧ (mayIssue s a = true) ∧
  (waitsForLoad s a [rd] = false) ∧ (fetchFault s a = none) ∧ (512 ≤ a) :=
  ⟨stwOn { g := [(3, 0x2345)] } { user := true, ie := true, svec := 0x400, sepc := 0x888 } State.reset, 512, 3, 3, by decide +kernel⟩

theorem meets_RelayThreadsAndBatons_45 : ∃ (s : State) (ch x : Nat), (stopped s = false) ∧ (ch < 4096) ∧ (grantWinner
  s ch (requesters s ch) = some x) ∧ (x < 512) :=
  ⟨(let s := withRegs (rlyOn { g := [(7, 5)] } State.reset) [(RLY_THCTX.state, 8, thWait)]; { s with rly := { s.rly with threads := [(8, { wait := .send 90 7 })], senders := [(90, [8])] } }), 90, 8, by decide +kernel⟩

theorem meets_RelayThreadsAndBatons_46 : ∃ (s : State) (t0 : Nat), (stopped s = false) ∧ (t0 < 512) ∧ ((threadInt s
  t0).armed = true) ∧ ((threadInt s t0).timer ≤ now s) ∧ (threadState s t0 ≠ thStopped) ∧ (dueBefore s (threadInt s
  t0).timer = false) :=
  ⟨(let s := rlyOn {} State.reset; { s with rly := { s.rly with threads := [(8, { timer := 5, armed := true })] }, tt := { tt := 5 } }), 8, by decide +kernel⟩

theorem meets_RelayThreadsAndBatons_47 : ∃ (s : State) (c : Nat), (stopped s = false) ∧ (c < 64) ∧ (coreStalled s c =
  true) ∧ (s.rd RLY_STALL_CYCLES.cycles ≠ 0) ∧ (s.rd RLY_STALL_CYCLES.cycles ≤ Map.get s.rly.stallFor c) ∧
  (s.rly.stalled.contains c = false) :=
  ⟨withRegs { State.reset with rly := { threads := [(8, { wait := .recv 90 7 })], stallFor := [(1, 16)] } } [(RLY_THCTX.state, 8, thWait), (RLY_STALL_CYCLES.cycles, 0, 9)], 1, by decide +kernel⟩

theorem meets_RelayThreadsAndBatons_48_1 : ∃ (s : State) (a rd n : Nat), (stopped s = false) ∧ (mayIssue s a = true) ∧
  (waitsForLoad s a [rd] = false) ∧ (fetchFault s a = none) ∧ (specialFault s a n = none) :=
  ⟨rlyOn {} State.reset, 8, 7, 5, by decide +kernel⟩

theorem meets_RelayThreadsAndBatons_48_2 : ∃ (s : State) (a rd n : Nat), (stopped s = false) ∧ (mayIssue s a = true) ∧
  (waitsForLoad s a [rd] = false) ∧ (fetchFault s a = none) ∧ (specialFault s a n = none) :=
  ⟨stwOn { g := [(3, 0x2345)] } { pmode := true, pie := true, svec := 0x400, sepc := 0x888 } State.reset, 512, 7, 0x104, by decide +kernel⟩

theorem meets_RelayThreadsAndBatons_49_1 : ∃ (s : State) (a ra n : Nat), (stopped s = false) ∧ (mayIssue s a = true) ∧
  (waitsForLoad s a [ra] = false) ∧ (fetchFault s a = none) ∧ (specialFault s a n = none) :=
  ⟨rlyOn {} State.reset, 8, 7, 4, by decide +kernel⟩

theorem meets_RelayThreadsAndBatons_49_2 : ∃ (s : State) (a ra n : Nat), (stopped s = false) ∧ (mayIssue s a = true) ∧
  (waitsForLoad s a [ra] = false) ∧ (fetchFault s a = none) ∧ (specialFault s a n = none) :=
  ⟨stwOn { g := [(3, 0x2345)] } { pmode := true, pie := true, svec := 0x400, sepc := 0x888 } State.reset, 512, 3, 0x104, by decide +kernel⟩

theorem meets_RelayThreadsAndBatons_50_1 : ∃ (s : State) (a x n c : Nat), (stopped s = false) ∧ (mayIssue s a = true)
  ∧ (waitsForLoad s a [x] = false) ∧ (fetchFault s a = none) ∧ (specialFault s a n = some c) :=
  ⟨rlyOn {} State.reset, 8, 7, 0x104, 2, by decide +kernel⟩

theorem meets_RelayThreadsAndBatons_50_2 : ∃ (s : State) (a x n c : Nat), (stopped s = false) ∧ (mayIssue s a = true)
  ∧ (waitsForLoad s a [x] = false) ∧ (fetchFault s a = none) ∧ (specialFault s a n = some c) :=
  ⟨stwOn { g := [(3, 0x2345)] } { user := true, ie := true, svec := 0x400, sepc := 0x888 } State.reset, 512, 3, 0x104, 2, by decide +kernel⟩

theorem meets_RelayThreadsAndBatons_51_1 : ∃ (s : State) (a x n c : Nat), (stopped s = false) ∧ (mayIssue s a = true)
  ∧ (waitsForLoad s a [x] = false) ∧ (fetchFault s a = none) ∧ (specialFault s a n = some c) :=
  ⟨rlyOn {} State.reset, 8, 7, 0x104, 2, by decide +kernel⟩

theorem meets_RelayThreadsAndBatons_51_2 : ∃ (s : State) (a x n c : Nat), (stopped s = false) ∧ (mayIssue s a = true)
  ∧ (waitsForLoad s a [x] = false) ∧ (fetchFault s a = none) ∧ (specialFault s a n = some c) :=
  ⟨stwOn { g := [(3, 0x2345)] } { user := true, ie := true, svec := 0x400, sepc := 0x888 } State.reset, 512, 3, 0x104, 2, by decide +kernel⟩

theorem meets_RelayThreadsUnderSoftwareControl_1 : ∃ (s : State) (who : Initiator) (t0 : Nat), (stopped s = false) ∧
  (writable who RLY_TCMD.go 0 s = true) ∧ (t0 < 512) ∧ (threadState s t0 = thStopped) ∧ (s.rd BOOT_CTL.relay_release =
  1) :=
  ⟨withRegs State.reset [(BOOT_CTL.relay_release, 0, 1), (RLY_THCTX.pc, 9, 0x2340), (RLY_THCTX.arg, 9, 5)], .host 0, 9, by decide +kernel⟩

theorem meets_RelayThreadsUnderSoftwareControl_2 : ∃ (s : State) (who : Initiator) (t0 : Nat), (stopped s = false) ∧
  (writable who RLY_TCMD.go 0 s = true) ∧ (t0 < 512) ∧ (threadState s t0 ≠ thStopped) :=
  ⟨rlyOn {} State.reset, .host 0, 8, by decide +kernel⟩

theorem meets_RelayThreadsUnderSoftwareControl_3 : ∃ (s : State) (who : Initiator) (t0 : Nat), (stopped s = false) ∧
  (writable who RLY_TCMD.go 0 s = true) ∧ (t0 < 512) ∧ (threadState s t0 ≠ thStopped) :=
  ⟨rlyOn {} State.reset, .host 0, 8, by decide +kernel⟩

theorem meets_RelayThreadsUnderSoftwareControl_4 : ∃ (s : State) (who : Initiator) (t0 : Nat), (stopped s = false) ∧
  (writable who RLY_TCMD.go 0 s = true) ∧ (t0 < 512) ∧ (threadState s t0 = thReady) :=
  ⟨rlyOn {} State.reset, .host 0, 8, by decide +kernel⟩

theorem meets_RelayThreadsUnderSoftwareControl_5 : ∃ (s : State) (who : Initiator) (t0 : Nat), (stopped s = false) ∧
  (writable who RLY_TCMD.go 0 s = true) ∧ (t0 < 512) ∧ (threadState s t0 = thHalted) :=
  ⟨withRegs (rlyOn {} State.reset) [(RLY_THCTX.state, 8, thHalted), (RLY_THCTX.pc, 8, 0x2340)], .host 0, 8, by decide +kernel⟩

theorem meets_RelayThreadsUnderSoftwareControl_6 : ∃ (s : State) (who : Initiator) (t0 rd ra imm : Nat), (stopped s =
  false) ∧ (writable who RLY_TCMD.go 0 s = true) ∧ (t0 < 512) ∧ (threadState s t0 = thHalted) ∧ (s.on
  RLY_THCTX.budget_held t0 = false) ∧ (s.rd RLY_THCTX.pc t0 % 4 = 0) ∧ (s.rd RLY_THCTX.pc t0 + 4 ≤ 0x40000) ∧
  ((agentInt s t0).loads = []) ∧ (rd % 32 ≠ 0) ∧ (decodeRelay (ofLe (memLoad s (localBase (coreOf t0) + s.rd
  RLY_THCTX.pc t0) 4)) = some (.addi rd ra imm)) :=
  ⟨memStore (withRegs (rlyOn { g := [(3, 5)] } State.reset) [(RLY_THCTX.state, 8, thHalted), (RLY_THCTX.pc, 8, 0x2340)]) (localBase 1 + 0x2340) (leBytes 4 (encodeRelay (.addi 7 3 0xFFFF))), .host 0, 8, 7, 3, 0xFFFF, by decide +kernel⟩

theorem meets_RelayThreadsUnderSoftwareControl_7 : ∃ (s : State) (who : Initiator) (t0 r : Nat), (stopped s = false) ∧
  (writable who RLY_DBG.go 0 s = true) ∧ (t0 < 512) ∧ (threadState s t0 = thHalted) ∧ (r < 32) :=
  ⟨withRegs (rlyOn { g := [(3, 5)] } State.reset) [(RLY_THCTX.state, 8, thHalted)], .host 0, 8, 3, by decide +kernel⟩

theorem meets_RelayThreadsUnderSoftwareControl_8 : ∃ (s : State) (who : Initiator) (t0 r _ : Nat), (stopped s = false)
  ∧ (writable who RLY_DBG.go 0 s = true) ∧ (t0 < 512) ∧ (threadState s t0 = thHalted) ∧ (1 ≤ r) ∧ (r < 32) :=
  ⟨withRegs (rlyOn { g := [(3, 5)] } State.reset) [(RLY_THCTX.state, 8, thHalted)], .host 0, 8, 3, 77, by decide +kernel⟩

theorem meets_RelayThreadsUnderSoftwareControl_9 : ∃ (s : State) (who : Initiator), (stopped s = false) ∧ (reaches who
  Blk.rly.base = true) :=
  ⟨State.reset.wr RLY_STALLQ.count 3, .host 0, by decide +kernel⟩

theorem meets_RelayThreadsUnderSoftwareControl_10 : ∃ (s : State) (who : Initiator), (stopped s = false) ∧ (reaches
  who Blk.rly.base = true) :=
  ⟨State.reset.wr RLY_FAULTQ.count 3, .host 0, by decide +kernel⟩

theorem meets_RelayThreadsUnderSoftwareControl_11 : ∃ (s : State) (who : Initiator) (t0 : Nat), (stopped s = false) ∧
  (writable who RLY_TCMD.go 0 s = true) ∧ (t0 < 512) ∧ (threadState s t0 = thStopped ∧ s.on BOOT_CTL.relay_release =
  true) :=
  ⟨withRegs (rlyOn {} State.reset) [(RLY_THCTX.state, 8, thStopped), (BOOT_CTL.relay_release, 0, 1)], .host 0, 8, by decide +kernel⟩

theorem meets_RelayThreadsUnderSoftwareControl_12 : ∃ (s : State) (who : Initiator) (t0 : Nat), (stopped s = false) ∧
  (writable who RLY_TCMD.go 0 s = true) ∧ (t0 < 512) ∧ (threadState s t0 ≠ thStopped) :=
  ⟨withRegs (rlyOn {} State.reset) [(RLY_THCTX.state, 8, thWait), (BOOT_CTL.relay_release, 0, 1)], .host 0, 8, by decide +kernel⟩

theorem meets_RelayThreadsUnderSoftwareControl_13 : ∃ (s : State) (who : Initiator) (t0 : Nat), (stopped s = false) ∧
  (writable who RLY_TCMD.go 0 s = true) ∧ (t0 < 512) ∧ (threadState s t0 = thReady ∨ threadState s t0 = thWait) :=
  ⟨withRegs (rlyOn {} State.reset) [(RLY_THCTX.state, 8, thWait), (BOOT_CTL.relay_release, 0, 1)], .host 0, 8, by decide +kernel⟩

theorem meets_RelayThreadsUnderSoftwareControl_14 : ∃ (s : State) (who : Initiator) (t0 : Nat), (stopped s = false) ∧
  (writable who RLY_TCMD.go 0 s = true) ∧ (t0 < 512) ∧ (threadState s t0 = thHalted) :=
  ⟨withRegs (rlyOn {} State.reset) [(RLY_THCTX.state, 8, thHalted), (BOOT_CTL.relay_release, 0, 1)], .host 0, 8, by decide +kernel⟩

theorem meets_RelayThreadsUnderSoftwareControl_15 : ∃ (s : State) (who : Initiator) (t0 : Nat), (stopped s = false) ∧
  (writable who RLY_TCMD.go 0 s = true) ∧ (t0 < 512) ∧ (threadState s t0 = thHalted) :=
  ⟨withRegs (rlyOn {} State.reset) [(RLY_THCTX.state, 8, thHalted), (BOOT_CTL.relay_release, 0, 1)], .host 0, 8, by decide +kernel⟩

theorem meets_RelayThreadsUnderSoftwareControl_16 : ∃ (s : State) (who : Initiator) (t0 : Nat), (stopped s = false) ∧
  (writable who RLY_TCMD.go 0 s = true) ∧ (512 ≤ t0 ∨ threadState s t0 ≠ thStopped ∨ s.on BOOT_CTL.relay_release =
  false) :=
  ⟨withRegs (rlyOn {} State.reset) [(RLY_THCTX.state, 8, thReady)], .host 0, 8, by decide +kernel⟩

theorem meets_RelayThreadsUnderSoftwareControl_17 : ∃ (s : State) (who : Initiator) (t0 : Nat), (stopped s = false) ∧
  (writable who RLY_TCMD.go 0 s = true) ∧ (512 ≤ t0 ∨ threadState s t0 = thStopped) :=
  ⟨withRegs (rlyOn {} State.reset) [(RLY_THCTX.state, 8, thStopped)], .host 0, 8, by decide +kernel⟩

theorem meets_RelayThreadsUnderSoftwareControl_18 : ∃ (s : State) (who : Initiator) (t0 : Nat), (stopped s = false) ∧
  (writable who RLY_TCMD.go 0 s = true) ∧ (512 ≤ t0 ∨ threadState s t0 ≠ thReady ∧ threadState s t0 ≠ thWait) :=
  ⟨withRegs (rlyOn {} State.reset) [(RLY_THCTX.state, 8, thHalted)], .host 0, 8, by decide +kernel⟩

theorem meets_RelayThreadsUnderSoftwareControl_19 : ∃ (s : State) (who : Initiator) (t0 : Nat), (stopped s = false) ∧
  (writable who RLY_TCMD.go 0 s = true) ∧ (512 ≤ t0 ∨ threadState s t0 ≠ thHalted) :=
  ⟨withRegs (rlyOn {} State.reset) [(RLY_THCTX.state, 8, thReady)], .host 0, 8, by decide +kernel⟩

theorem meets_RelayThreadsUnderSoftwareControl_20 : ∃ (s : State) (who : Initiator) (t0 : Nat), (stopped s = false) ∧
  (writable who RLY_TCMD.go 0 s = true) ∧ (512 ≤ t0 ∨ threadState s t0 ≠ thHalted) :=
  ⟨withRegs (rlyOn {} State.reset) [(RLY_THCTX.state, 8, thReady)], .host 0, 8, by decide +kernel⟩

theorem meets_RelayThreadsUnderSoftwareControl_21_1 : ∃ (s : State) (who : Initiator) (t0 r _ : Nat), (stopped s =
  false) ∧ (writable who RLY_DBG.go 0 s = true) ∧ (debugOk s t0 r = true) :=
  ⟨withRegs (rlyOn { g := [(3, 5)] } State.reset) [(RLY_THCTX.state, 8, thHalted)], .host 0, 8, 3, 77, by decide +kernel⟩

theorem meets_RelayThreadsUnderSoftwareControl_21_2 : ∃ (s : State) (who : Initiator) (t0 r _ : Nat), (stopped s =
  false) ∧ (writable who RLY_DBG.go 0 s = true) ∧ (debugOk s t0 r = true) :=
  ⟨withRegs (rlyOn { g := [(3, 5)] } State.reset) [(RLY_THCTX.state, 8, thHalted)], .host 0, 8, 32, 77, by decide +kernel⟩

theorem meets_RelayThreadsUnderSoftwareControl_22 : ∃ (s : State) (who : Initiator) (t0 r _ : Nat), (stopped s =
  false) ∧ (writable who RLY_DBG.go 0 s = true) ∧ (debugOk s t0 r = false) :=
  ⟨rlyOn {} State.reset, .host 0, 8, 3, 77, by decide +kernel⟩

theorem meets_RelayThreadsUnderSoftwareControl_23 : ∃ (s : State) (who : Initiator) (t0 r : Nat), (stopped s = false)
  ∧ (writable who RLY_DBG.go 0 s = true) ∧ (debugOk s t0 r = false) :=
  ⟨rlyOn {} State.reset, .host 0, 8, 3, by decide +kernel⟩

theorem meets_RelayWordsDecodeAndEncodeAgree_1 : ∃ (i : RelayInstr), (i.wf = true) :=
  ⟨.amo 31 30 29 4, by decide +kernel⟩

theorem meets_RaisedSourceChangesOnlyItsAssertedBit_1 : ∃ (s : State) (who : Initiator) (n : Nat), (stopped s = false)
  ∧ (writable who IRQ_SW_SET.source 0 s = true) ∧ (softwareSource n = true) ∧ (s.rd IRQ_SRC.dest n ≠ 4) :=
  ⟨State.reset, .host 0, 0x300, by decide +kernel⟩

theorem meets_RaisedSourceChangesOnlyItsAssertedBit_2 : ∃ (s : State) (who : Initiator) (n : Nat), (stopped s = false)
  ∧ (writable who IRQ_SW_SET.source 0 s = true) ∧ (softwareSource n = true) ∧ (s.rd IRQ_SRC.dest n = 4) ∧ (s.rd
  IRQ_SRC.asserted n = 0) ∧ (s.rd IRQ_CTL.global_en = 1) ∧ (1 ≤ s.rd IRQ_SRC.priority n) ∧ (s.rd IRQ_SRC.vector n <
  vectorCount s 0) ∧ (fnLive s 0 = true) ∧ ((fnSt s 0).msixEn = true) ∧ ((fnSt s 0).fnMask = false) ∧ ((msixEntry s 0
  (s.rd IRQ_SRC.vector n)).mask = false) :=
  ⟨(let s := vfOn { bme := true, msixEn := true } {} State.reset; withRegs { s with hif := { s.hif with msix := [(2, ⟨0x1000, 77, false, false⟩)] } } [(IRQ_CTL.global_en, 0, 1), (IRQ_SRC.dest, 0x300, 4), (IRQ_SRC.priority, 0x300, 1), (IRQ_SRC.vector, 0x300, 2)]), .host 0, 0x300, by decide +kernel⟩

theorem meets_RaisedSourceChangesOnlyItsAssertedBit_3 : ∃ (s : State) (who : Initiator) (n : Nat), (stopped s = false)
  ∧ (writable who IRQ_SW_SET.source 0 s = true) ∧ (softwareSource n = false) :=
  ⟨State.reset, .host 0, 0x2FF, by decide +kernel⟩

theorem meets_RaisedSourceChangesOnlyItsAssertedBit_4 : ∃ (s : State) (who : Initiator) (n : Nat), (stopped s = false)
  ∧ (writable who IRQ_SW_SET.source 0 s = true) ∧ (softwareSource n = true) :=
  ⟨State.reset, .host 0, 0x300, by decide +kernel⟩

theorem meets_VectorsCountersAndTheAbacusLog_1 : ∃ (s : State) (fn v : Nat), (stopped s = false) ∧ (v < vectorCount s
  fn) ∧ ((msixEntry s fn v).pending = true) ∧ (fnLive s fn = true) ∧ ((fnSt s fn).msixEn = true) ∧ ((fnSt s fn).fnMask
  = false) :=
  ⟨(let s := vfOn { bme := true, msixEn := true } {} State.reset; { s with hif := { s.hif with msix := [(2, ⟨0x1000, 77, true, true⟩)] } }), 0, 2, by decide +kernel⟩

theorem meets_VectorsCountersAndTheAbacusLog_2 : ∃ (s : State) (fn v : Nat), (stopped s = false) ∧ (v < vectorCount s
  fn) ∧ ((msixEntry s fn v).pending = false) :=
  ⟨vfOn {} {} State.reset, 0, 2, by decide +kernel⟩

theorem meets_VectorsCountersAndTheAbacusLog_3 : ∃ (s : State) (who : Initiator) (n : Nat), (stopped s = false) ∧
  (reaches who Blk.pmc.base = true) ∧ (n < 32) :=
  ⟨{ State.reset.wr PMC_CNT.count 9 31 with tt := { tt := 77777 } }, .host 0, 31, by decide +kernel⟩

theorem meets_VectorsCountersAndTheAbacusLog_4 : ∃ (s : State) (n : Nat) (rest : List Nat), (stopped s = false) ∧
  (s.pmcWraps = n :: rest) ∧ (carries s n = false) ∧ (s.rd PMC_SEL.ovf_irq n = 1) :=
  ⟨{ State.reset.wr PMC_SEL.ovf_irq 1 3 with pmcWraps := [3, 5] }, 3, [5], by decide +kernel⟩

theorem meets_VectorsCountersAndTheAbacusLog_5 : ∃ (s : State) (n : Nat) (rest : List Nat), (stopped s = false) ∧
  (s.pmcWraps = n :: rest) ∧ (carries s n = true) ∧ (s.rd PMC_CNT.count (n + 1) + 1 < 2 ^ 48) :=
  ⟨{ (State.reset.wr PMC_SEL.chain 1 5).wr PMC_SEL.enable 1 5 with pmcWraps := [4] }, 4, [], by decide +kernel⟩

theorem meets_VectorsCountersAndTheAbacusLog_6 : ∃ (s : State) (who : Initiator) (e x : AbcEntry), (stopped s = false)
  ∧ (reaches who Blk.dev.base = true) ∧ (s.abc.log = [e, x]) :=
  ⟨{ State.reset with abc := { log := [⟨1, 2, 3, 4, 5⟩, ⟨6, 7, 8, 9, 10⟩] } }, .host 0, ⟨1, 2, 3, 4, 5⟩, ⟨6, 7, 8, 9, 10⟩, by decide +kernel⟩

theorem meets_VectorsCountersAndTheAbacusLog_7 : ∃ (s : State) (fn v : Nat), (stopped s = false) ∧ (v < vectorCount s
  fn) :=
  ⟨(let s := vfOn { bme := true, msixEn := true } {} State.reset; { s with hif := { s.hif with msix := [(2, ⟨0x1000, 77, true, true⟩)] } }), 0, 2, by decide +kernel⟩

theorem meets_VectorsCountersAndTheAbacusLog_8 : ∃ (s : State) (who : Initiator) (n k : Nat) (t : State), (stopped s =
  false) ∧ (reaches who Blk.pmc.base = true) ∧ (t = (coveredCounters n k).foldl sampleCounter s) :=
  ⟨{ State.reset.wr PMC_CNT.count 9 31 with tt := { tt := 77777 } }, .host 0, 30, 2, (sampleCounter (sampleCounter { State.reset.wr PMC_CNT.count 9 31 with tt := { tt := 77777 } } 30) 31), by decide +kernel⟩

theorem meets_VectorsCountersAndTheAbacusLog_9 : ∃ (s : State) (n : Nat) (rest : List Nat), (stopped s = false) ∧
  (s.pmcWraps = n :: rest) :=
  ⟨{ State.reset.wr PMC_SEL.ovf_irq 1 3 with pmcWraps := [3, 5] }, 3, [5], by decide +kernel⟩

theorem meets_VectorsCountersAndTheAbacusLog_10 : ∃ (s : State) (who : Initiator), (stopped s = false) ∧ (reaches who
  Blk.dev.base = true) :=
  ⟨{ State.reset with abc := { log := [⟨1, 2, 3, 4, 5⟩, ⟨6, 7, 8, 9, 10⟩] } }, .host 0, by decide +kernel⟩

theorem meets_HostRequestsTagsAndTranslations_1 : ∃ (s : State) (_ : Nat) (_ : ConfigOp), (stopped s = false) ∧ (s.rd
  DEV_STATUS.crs = 1) :=
  ⟨State.reset.wr DEV_STATUS.crs 1, 0, .read, by decide +kernel⟩

theorem meets_HostRequestsTagsAndTranslations_2 : ∃ (s : State) (fn _ : Nat), (stopped s = false) ∧ (s.rd
  DEV_STATUS.crs = 0) ∧ (fnExists s fn = true) :=
  ⟨withRegs (vfOn { bme := true } { bme := true } State.reset) [(DEV_STATUS.crs, 0, 0)], 8, 10, by decide +kernel⟩

theorem meets_HostRequestsTagsAndTranslations_3 : ∃ (s : State) (fn : Nat), (stopped s = false) ∧ (s.rd DEV_STATUS.crs
  = 0) ∧ (fnExists s fn = true) ∧ (fn < 8) :=
  ⟨withRegs (vfOn { bme := true } { bme := true } State.reset) [(DEV_STATUS.crs, 0, 0)], 0, by decide +kernel⟩

theorem meets_HostRequestsTagsAndTranslations_4 : ∃ (s : State) (fn _ : Nat), (stopped s = false) ∧ (s.rd
  DEV_STATUS.crs = 0) ∧ (fnExists s fn = true) ∧ (fn < 8) :=
  ⟨withRegs (vfOn { bme := true } { bme := true } State.reset) [(DEV_STATUS.crs, 0, 0)], 0, 1, by decide +kernel⟩

theorem meets_HostRequestsTagsAndTranslations_5 : ∃ (s : State) (p off n : Nat) (_ : Bytes), (stopped s = false) ∧
  (inBar4 s p off n = true) ∧ (g6Down s = false) ∧ (n ≠ 0) ∧ (s.rd HIF_PF_CFG.g6_off p + off + n ≤ g6Size) :=
  ⟨vfOn { bme := true } { bme := true } State.reset, 0, 0x40, 4, [1, 2, 3, 4], by decide +kernel⟩

theorem meets_HostRequestsTagsAndTranslations_6 : ∃ (s : State) (p off n : Nat), (stopped s = false) ∧ (inBar4 s p off
  n = true) ∧ (g6Down s = false) ∧ (n ≠ 0) ∧ (s.rd HIF_PF_CFG.g6_off p + off + n ≤ g6Size) ∧ (memBad s (g6Base + s.rd
  HIF_PF_CFG.g6_off p + off) n = false) :=
  ⟨memStore (vfOn { bme := true } { bme := true } State.reset) (g6Base + 0x40) [1, 2, 3, 4], 0, 0x40, 4, by decide +kernel⟩

theorem meets_HostRequestsTagsAndTranslations_7 : ∃ (s : State) (port tag : Nat) (r : Req), (stopped s = false) ∧
  (reqOf s port tag = some r) ∧ (timedOut s r = true) ∧ (tag < 4096) ∧ (fnLive s r.fn = false) ∧ (s.hif.reqs = [r]) :=
  ⟨(let s := { (vfOn { bme := true } {} State.reset) with tt := { tt := 50000000 } }; { s with hif := { s.hif with reqs := [⟨0, 5, 8, .hostLoad 8, true, 0⟩] } }), 0, 5, ⟨0, 5, 8, .hostLoad 8, true, 0⟩, by decide +kernel⟩

theorem meets_HostRequestsTagsAndTranslations_8 : ∃ (s : State) (port tag : Nat), (stopped s = false) ∧ ((quarOf s
  port tag).isSome = true) :=
  ⟨(let s := vfOn { bme := true } { bme := true } State.reset; { s with hif := { s.hif with quar := [⟨0, 5, 999, 0⟩] } }), 0, 5, by decide +kernel⟩

theorem meets_HostRequestsTagsAndTranslations_9 : ∃ (s : State) (port tag : Nat) (q : Quarantine), (stopped s = false)
  ∧ (quarOf s port tag = some q) ∧ (q.freeAt ≤ now s) :=
  ⟨{ (let s := vfOn { bme := true } { bme := true } State.reset; { s with hif := { s.hif with quar := [⟨0, 5, 999, 0⟩] } }) with tt := { tt := 999 } }, 0, 5, ⟨0, 5, 999, 0⟩, by decide +kernel⟩

theorem meets_HostRequestsTagsAndTranslations_10 : ∃ (s : State) (fn page _ : Nat) (_ : Bool) (r : Req), (stopped s =
  false) ∧ (s.hif.reqs = [r]) ∧ (r.owner = .translation fn page) ∧ (fnLive s fn = true) ∧ ((fnSt s fn).atsEn = true) ∧
  (s.hif.atc.length < 32768) :=
  ⟨(let s := vfOn { bme := true } { bme := true, atsEn := true } State.reset; { s with hif := { s.hif with reqs := [⟨0, 5, 8, .translation 8 77, false, 0⟩] } }), 8, 77, 99, false, ⟨0, 5, 8, .translation 8 77, false, 0⟩, by decide +kernel⟩

theorem meets_HostRequestsTagsAndTranslations_11 : ∃ (s : State) (_ _ _ _ : Nat), (stopped s = false) :=
  ⟨(let s := vfOn { bme := true } { bme := true } State.reset; { s with hif := { s.hif with reqs := [⟨0, 5, 8, .hostLoad 8, true, 0⟩], atc := [(8 * 2 ^ 52 + 77, ⟨5, true, true, true⟩)] } }), 8, 3, 77, 1, by decide +kernel⟩

theorem meets_HostRequestsTagsAndTranslations_12 : ∃ (s : State) (fn itag : Nat), (stopped s = false) ∧
  (s.hif.invPending = [(fn, itag, [])]) :=
  ⟨(let s := vfOn { bme := true } { bme := true } State.reset; { s with hif := { s.hif with invPending := [(8, 3, [])] } }), 8, 3, by decide +kernel⟩

theorem meets_HostRequestsTagsAndTranslations_13 : ∃ (s : State) (fn : Nat), (stopped s = false) ∧ (fnExists s fn =
  true) :=
  ⟨(let s := vfOn { bme := true } { bme := true, atsEn := true } State.reset; { s with hif := { s.hif with atc := [(8 * 2 ^ 52 + 77, ⟨5, true, true, true⟩)] } }), 8, by decide +kernel⟩

theorem meets_HostRequestsTagsAndTranslations_14 : ∃ (s : State) (fn : Nat) (_ : ConfigOp), (stopped s = false) ∧
  (s.rd DEV_STATUS.crs = 0) ∧ (fnExists s fn = true) :=
  ⟨withRegs (vfOn { bme := true } { bme := true } State.reset) [(DEV_STATUS.crs, 0, 0)], 0, .pmeEn true, by decide +kernel⟩

theorem meets_HostRequestsTagsAndTranslations_15 : ∃ (s : State) (p off n k a : Nat) (_ : Bytes), (stopped s = false)
  ∧ (inBar4 s p off n = true) ∧ (a = g6Base + s.rd HIF_PF_CFG.g6_off p + off) ∧ (k = (if g6Down s = true then 0 else
  bar4Inside s p off n)) :=
  ⟨vfOn { bme := true } { bme := true } State.reset, 0, 0x40, 4, 4, g6Base + 0x40, [1, 2, 3, 4], by decide +kernel⟩

theorem meets_HostRequestsTagsAndTranslations_16 : ∃ (s : State) (p off n k a : Nat), (stopped s = false) ∧ (inBar4 s
  p off n = true) ∧ (a = g6Base + s.rd HIF_PF_CFG.g6_off p + off) ∧ (k = (if g6Down s = true then 0 else bar4Inside s
  p off n)) ∧ (k ≠ 0) ∧ (memBad s a k = false) :=
  ⟨memStore (vfOn { bme := true } { bme := true } State.reset) (g6Base + 0x40) [1, 2, 3, 4], 0, 0x40, 4, 4, g6Base + 0x40, by decide +kernel⟩

theorem meets_HostRequestsTagsAndTranslations_17 : ∃ (s : State) (p off n k a : Nat), (stopped s = false) ∧ (inBar4 s
  p off n = true) ∧ (a = g6Base + s.rd HIF_PF_CFG.g6_off p + off) ∧ (k = (if g6Down s = true then 0 else bar4Inside s
  p off n)) ∧ (k ≠ 0) ∧ (memBad s a k = true) :=
  ⟨{ (vfOn { bme := true } { bme := true } State.reset) with poison := [(g6Base + 0x40) / 64] }, 0, 0x40, 4, 4, g6Base + 0x40, by decide +kernel⟩

theorem meets_HostRequestsTagsAndTranslations_18 : ∃ (s : State) (p off n k a : Nat), (stopped s = false) ∧ (inBar4 s
  p off n = true) ∧ (a = g6Base + s.rd HIF_PF_CFG.g6_off p + off) ∧ (k = (if g6Down s = true then 0 else bar4Inside s
  p off n)) ∧ (k = 0) :=
  ⟨(vfOn { bme := true } { bme := true } State.reset).wr HIF_PF_CFG.g6_off g6Size 0, 0, 0x40, 4, 0, g6Base + g6Size + 0x40, by decide +kernel⟩

theorem meets_HostRequestsTagsAndTranslations_19 : ∃ (s : State) (port tag : Nat) (r : Req), (stopped s = false) ∧
  (reqOf s port tag = some r) ∧ (timedOut s r = true) :=
  ⟨(let s := { (vfOn { bme := true } {} State.reset) with tt := { tt := 50000000 } }; { s with hif := { s.hif with reqs := [⟨0, 5, 8, .hostLoad 8, true, 0⟩] } }), 0, 5, ⟨0, 5, 8, .hostLoad 8, true, 0⟩, by decide +kernel⟩

theorem meets_HostRequestsTagsAndTranslations_20 : ∃ (s : State) (port tag : Nat), (stopped s = false) ∧ ((quarOf s
  port tag).isSome = true) :=
  ⟨(let s := vfOn { bme := true } { bme := true } State.reset; { s with hif := { s.hif with quar := [⟨0, 5, 999, 0⟩] } }), 0, 5, by decide +kernel⟩

theorem meets_HostRequestsTagsAndTranslations_21 : ∃ (s : State) (port tag : Nat) (q : Quarantine), (stopped s =
  false) ∧ (quarOf s port tag = some q) ∧ (q.freeAt ≤ now s) :=
  ⟨{ (let s := vfOn { bme := true } { bme := true } State.reset; { s with hif := { s.hif with quar := [⟨0, 5, 999, 0⟩] } }) with tt := { tt := 999 } }, 0, 5, ⟨0, 5, 999, 0⟩, by decide +kernel⟩

theorem meets_HostRequestsTagsAndTranslations_22 : ∃ (s : State) (fn page _ : Nat) (rd wr ok : Bool) (r : Req) (t :
  State), (stopped s = false) ∧ ((s.hif.reqs.find? fun r => decide (r.owner = .translation fn page)) = some r) ∧
  (fnLive s fn = true) ∧ ((ok && (rd || wr) && (fnSt s fn).atsEn) = true) ∧ (t = endRead s (.translation fn page)) :=
  ⟨((let s := vfOn { bme := true } { bme := true, atsEn := true } State.reset; { s with hif := { s.hif with reqs := [⟨0, 5, 8, .translation 8 77, false, 0⟩] } })), 8, 77, 99, true, false, true, ⟨0, 5, 8, .translation 8 77, false, 0⟩, endRead ((let s := vfOn { bme := true } { bme := true, atsEn := true } State.reset; { s with hif := { s.hif with reqs := [⟨0, 5, 8, .translation 8 77, false, 0⟩] } })) (.translation 8 77), by decide +kernel⟩

theorem meets_HostRequestsTagsAndTranslations_23 : ∃ (s : State) (fn page _ : Nat) (rd wr ok : Bool) (r : Req) (t :
  State), (stopped s = false) ∧ ((s.hif.reqs.find? fun r => decide (r.owner = .translation fn page)) = some r) ∧
  (fnLive s fn = true) ∧ ((ok && (rd || wr) && (fnSt s fn).atsEn) = false) ∧ (t = endRead s (.translation fn page)) :=
  ⟨((let s := vfOn { bme := true } { bme := true, atsEn := true } State.reset; { s with hif := { s.hif with reqs := [⟨0, 5, 8, .translation 8 77, false, 0⟩] } })), 8, 77, 99, true, false, false, ⟨0, 5, 8, .translation 8 77, false, 0⟩, endRead ((let s := vfOn { bme := true } { bme := true, atsEn := true } State.reset; { s with hif := { s.hif with reqs := [⟨0, 5, 8, .translation 8 77, false, 0⟩] } })) (.translation 8 77), by decide +kernel⟩

theorem meets_HostRequestsTagsAndTranslations_24 : ∃ (s : State) (_ _ _ _ : Nat), (stopped s = false) :=
  ⟨(let s := vfOn { bme := true } { bme := true } State.reset; { s with hif := { s.hif with reqs := [⟨0, 5, 8, .hostLoad 8, true, 0⟩], atc := [(8 * 2 ^ 52 + 77, ⟨5, true, true, true⟩)] } }), 8, 3, 77, 1, by decide +kernel⟩

theorem meets_HostRequestsTagsAndTranslations_25 : ∃ (s : State) (fn itag : Nat) (x : Nat × Nat × List Req), (stopped
  s = false) ∧ ((s.hif.invPending.find? fun x => decide (x.1 = fn) && decide (x.2.1 = itag)) = some x) ∧ ((x.2.2.any
  fun r => s.hif.reqs.contains r) = false) :=
  ⟨(let s := vfOn { bme := true } { bme := true } State.reset; { s with hif := { s.hif with invPending := [(8, 3, [])] } }), 8, 3, (8, 3, []), by decide +kernel⟩

theorem meets_HostRequestsTagsAndTranslations_26 : ∃ (s : State) (fn : Nat), (stopped s = false) ∧ (fnExists s fn =
  true) :=
  ⟨(let s := vfOn { bme := true } { bme := true, atsEn := true } State.reset; { s with hif := { s.hif with atc := [(8 * 2 ^ 52 + 77, ⟨5, true, true, true⟩)] } }), 8, by decide +kernel⟩

theorem meets_FunctionEventsResetsAndPowerStates_1 : ∃ (s : State) (fn : Nat), (stopped s = false) ∧ ((fnSt s fn).bme
  = true) ∧ (fnQueues s fn = []) :=
  ⟨vfOn { bme := true } { bme := true } State.reset, 8, by decide +kernel⟩

theorem meets_FunctionEventsResetsAndPowerStates_2 : ∃ (s : State) (fn q : Nat), (stopped s = false) ∧ ((fnSt s
  fn).bme = true) ∧ (fnQueues s fn = [q]) ∧ (queueState s q = qActive) ∧ ((queueInt s q).entries = []) :=
  ⟨vfQueue 1 {} (vfOn { bme := true } { bme := true } State.reset), 8, 3, by decide +kernel⟩

theorem meets_FunctionEventsResetsAndPowerStates_3 : ∃ (s : State) (fn : Nat), (stopped s = false) ∧ (fnExists s fn =
  true) ∧ ((fnSt s fn).bme = false) :=
  ⟨vfOn { bme := true } {} State.reset, 8, by decide +kernel⟩

theorem meets_FunctionEventsResetsAndPowerStates_4_1 : ∃ (s : State) (fn : Nat), (stopped s = false) ∧ (fnExists s fn
  = true) ∧ ((fnSt s fn).flr = false) ∧ ((flrSet s fn).all (fun f => (fnQueues s f).isEmpty && (relayChans s
  f).isEmpty) = true) :=
  ⟨vfOn { bme := true } { bme := true } State.reset, 8, by decide +kernel⟩

theorem meets_FunctionEventsResetsAndPowerStates_4_2 : ∃ (s : State) (fn : Nat), (stopped s = false) ∧ (fnExists s fn
  = true) ∧ ((fnSt s fn).flr = false) ∧ ((flrSet s fn).all (fun f => (fnQueues s f).isEmpty && (relayChans s
  f).isEmpty) = true) :=
  ⟨vfOn { bme := true } { bme := true } State.reset, 0, by decide +kernel⟩

theorem meets_FunctionEventsResetsAndPowerStates_5 : ∃ (s : State) (fn : Nat), (stopped s = false) ∧ (8 ≤ fn) ∧ ((fnSt
  s fn).flr = true) ∧ (fnQuiet s fn = true) ∧ (fnQueues s fn = []) ∧ (ownedRings s fn = []) ∧ (fnConns s fn = []) ∧
  (fnRgnBlocks s fn = []) ∧ (fnSlots s fn = []) :=
  ⟨vfOn { bme := true } { bme := true, flr := true } State.reset, 8, by decide +kernel⟩

theorem meets_FunctionEventsResetsAndPowerStates_6 : ∃ (s : State) (pf : Nat), (stopped s = false) ∧ (pf < 8) ∧
  (fnExists s pf = true) ∧ ((fnSt s pf).d3 = false) ∧ ((pf :: vfsOf s pf).all (fun f => (fnQueues s f).isEmpty) =
  true) :=
  ⟨vfOn { bme := true } { bme := true } State.reset, 0, by decide +kernel⟩

theorem meets_FunctionEventsResetsAndPowerStates_7 : ∃ (s : State) (pf : Nat), (stopped s = false) ∧ (pf < 8) ∧ ((fnSt
  s pf).d3 = true) :=
  ⟨vfOn { bme := true, d3 := true } {} State.reset, 0, by decide +kernel⟩

theorem meets_FunctionEventsResetsAndPowerStates_8 : ∃ (s : State) (port : Nat), (stopped s = false) ∧ (port < 2) ∧
  (portFns s port = []) ∧ (s.hif.reqs = []) :=
  ⟨(let s := State.reset; { s with hif := { s.hif with linksUp := [0, 4, 5] } }), 1, by decide +kernel⟩

theorem meets_FunctionEventsResetsAndPowerStates_9 : ∃ (s : State) (port : Nat), (stopped s = false) ∧ (port < 2) :=
  ⟨State.reset, 1, by decide +kernel⟩

theorem meets_FunctionEventsResetsAndPowerStates_10 : ∃ (s t : State) (port : Nat), (stopped s = false) ∧ (port < 2) ∧
  (t = { s with hif := { s.hif with perst := Map.set s.hif.perst port true } }) :=
  ⟨State.reset, { State.reset with hif := { State.reset.hif with perst := Map.set State.reset.hif.perst 1 true } }, 1, by decide +kernel⟩

theorem meets_FunctionEventsResetsAndPowerStates_11 : ∃ (s : State) (who : Initiator), (stopped s = false) ∧ (reaches
  who Blk.hif.base = true) :=
  ⟨State.reset.wr HIF_EVQ.count 3, .host 0, by decide +kernel⟩

theorem meets_FunctionEventsResetsAndPowerStates_12 : ∃ (s : State) (fn : Nat), (stopped s = false) ∧ ((fnSt s fn).bme
  = true) :=
  ⟨vfQueue 1 {} (vfOn { bme := true } { bme := true } State.reset), 8, by decide +kernel⟩

theorem meets_FunctionEventsResetsAndPowerStates_13 : ∃ (s : State) (fn : Nat), (stopped s = false) ∧ (fnExists s fn =
  true) ∧ ((fnSt s fn).bme = false) :=
  ⟨vfOn { bme := true } {} State.reset, 8, by decide +kernel⟩

theorem meets_FunctionEventsResetsAndPowerStates_14 : ∃ (s : State) (fn : Nat), (stopped s = false) ∧ (fnExists s fn =
  true) ∧ ((fnSt s fn).flr = false) ∧ (fn < 8) :=
  ⟨vfOn { bme := true } { bme := true } State.reset, 0, by decide +kernel⟩

theorem meets_FunctionEventsResetsAndPowerStates_15 : ∃ (s : State) (fn : Nat), (stopped s = false) ∧ (fnExists s fn =
  true) ∧ ((fnSt s fn).flr = false) ∧ (8 ≤ fn) :=
  ⟨vfOn { bme := true } { bme := true } State.reset, 8, by decide +kernel⟩

theorem meets_FunctionEventsResetsAndPowerStates_16 : ∃ (s : State) (fn : Nat), (stopped s = false) ∧ ((fnSt s fn).flr
  = true) ∧ ((flrSet s fn).all (fun f => fnQuiet s f && fnKeysDrained s f) = true) :=
  ⟨vfOn { bme := true } { bme := true, flr := true } State.reset, 8, by decide +kernel⟩

theorem meets_FunctionEventsResetsAndPowerStates_17 : ∃ (s t : State) (pf : Nat), (stopped s = false) ∧ (pf < 8) ∧
  (fnExists s pf = true) ∧ ((fnSt s pf).d3 = false) ∧ (t = (pf :: vfsOf s pf).foldl haltQueues (hifEvent (setFn s pf
  (fun x => { x with d3 := true })) pf 5)) ∧ (allD3 t = true) :=
  ⟨vfOn { bme := true } { bme := true } State.reset, [0, 8].foldl haltQueues (hifEvent (setFn (vfOn { bme := true } { bme := true } State.reset) 0 fun x => { x with d3 := true }) 0 5), 0, by decide +kernel⟩

theorem meets_FunctionEventsResetsAndPowerStates_18 : ∃ (s t : State) (pf : Nat), (stopped s = false) ∧ (pf < 8) ∧
  (fnExists s pf = true) ∧ ((fnSt s pf).d3 = false) ∧ (t = (pf :: vfsOf s pf).foldl haltQueues (hifEvent (setFn s pf
  (fun x => { x with d3 := true })) pf 5)) ∧ (allD3 t = false) :=
  ⟨((vfOn { bme := true } { bme := true } State.reset).wr HIF_PF_CFG.enable 1 1), [0, 8].foldl haltQueues (hifEvent (setFn ((vfOn { bme := true } { bme := true } State.reset).wr HIF_PF_CFG.enable 1 1) 0 fun x => { x with d3 := true }) 0 5), 0, by decide +kernel⟩

theorem meets_FunctionEventsResetsAndPowerStates_19 : ∃ (s t : State) (pf : Nat), (stopped s = false) ∧ (pf < 8) ∧
  ((fnSt s pf).d3 = true) ∧ (t = hifEvent (setFn s pf (fun x => { x with d3 := false })) pf 6) ∧ (s.hif.d3AllG6 =
  true) :=
  ⟨(let s := vfOn { bme := true, d3 := true } {} State.reset; { s with hif := { s.hif with d3AllG6 := true } }), hifEvent (setFn (let s := vfOn { bme := true, d3 := true } {} State.reset; { s with hif := { s.hif with d3AllG6 := true } }) 0 fun x => { x with d3 := false }) 0 6, 0, by decide +kernel⟩

theorem meets_FunctionEventsResetsAndPowerStates_20 : ∃ (s t : State) (pf : Nat), (stopped s = false) ∧ (pf < 8) ∧
  ((fnSt s pf).d3 = true) ∧ (t = hifEvent (setFn s pf (fun x => { x with d3 := false })) pf 6) ∧ (s.hif.d3AllG6 =
  false) :=
  ⟨(let s := vfOn { bme := true, d3 := true } {} State.reset; { s with hif := { s.hif with d3AllG6 := false } }), hifEvent (setFn (let s := vfOn { bme := true, d3 := true } {} State.reset; { s with hif := { s.hif with d3AllG6 := false } }) 0 fun x => { x with d3 := false }) 0 6, 0, by decide +kernel⟩

theorem meets_MailboxesAndMigration_1 : ∃ (s : State) (who : Initiator) (vf seq : Nat) (up : Bool), (stopped s =
  false) ∧ (vf < 4096) ∧ (isSender s who vf up = true) ∧ (standby s = false) ∧ (mirrors s = false) ∧ (s.rd
  BOOT_STATUS.phase ≠ 4) ∧ (mailFull (mailArea s vf up) = false) ∧ (seq % 65536 = addMod 16 (mailArea s vf up).ack 1)
  :=
  ⟨vfOn { bme := true } { bme := true } State.reset, .host 0, 0, 1, false, by decide +kernel⟩

theorem meets_MailboxesAndMigration_2 : ∃ (s : State) (who : Initiator) (vf seq : Nat), (stopped s = false) ∧ (vf <
  4096) ∧ (isSender s who vf true = true) ∧ (standby s = false) ∧ (mirrors s = false) ∧ (s.rd BOOT_STATUS.phase ≠ 4) ∧
  (mailFull (mailArea s vf true) = false) ∧ (seq % 65536 = addMod 16 (mailArea s vf true).ack 1) ∧ (s.hif.msgq = [])
  :=
  ⟨vfOn { bme := true } { bme := true } State.reset, .host 8, 0, 1, by decide +kernel⟩

theorem meets_MailboxesAndMigration_3 : ∃ (s : State) (who : Initiator) (vf _ : Nat) (up : Bool), (stopped s = false)
  ∧ (vf < 4096) ∧ (isSender s who vf up = true) ∧ (standby s = false) ∧ (mirrors s = false) ∧ (s.rd BOOT_STATUS.phase
  ≠ 4) ∧ (mailFull (mailArea s vf up) = true) :=
  ⟨(let s := vfOn { bme := true } { bme := true } State.reset; { s with hif := { s.hif with mail := [(1, { seq := 5 })] } }), .host 0, 0, 1, false, by decide +kernel⟩

theorem meets_MailboxesAndMigration_4 : ∃ (s : State) (who : Initiator) (vf ack : Nat) (up : Bool), (stopped s =
  false) ∧ (vf < 4096) ∧ (isReceiver s who vf up = true) ∧ (standby s = false) ∧ (mirrors s = false) ∧ (s.rd
  BOOT_STATUS.phase ≠ 4) ∧ (mailFull (mailArea s vf up) = true) ∧ (ack % 65536 = (mailArea s vf up).seq) :=
  ⟨(let s := vfOn { bme := true } { bme := true } State.reset; { s with hif := { s.hif with mail := [(0, { seq := 5 })] } }), .host 0, 0, 5, true, by decide +kernel⟩

theorem meets_MailboxesAndMigration_5 : ∃ (s : State) (who : Initiator) (x y : Nat), (stopped s = false) ∧ (reaches
  who Blk.mbx.base = true) ∧ (s.hif.msgq = [x, y]) :=
  ⟨(let s := vfOn { bme := true } { bme := true } State.reset; { s with hif := { s.hif with msgq := [7, 9] } }), .host 0, 7, 9, by decide +kernel⟩

theorem meets_MailboxesAndMigration_6 : ∃ (s : State) (who : Initiator) (p vf q : Nat), (stopped s = false) ∧ (p < 8)
  ∧ (reachesMcmd who p = true) ∧ (standby s = false) ∧ (mirrors s = false) ∧ (s.rd BOOT_STATUS.phase ≠ 4) ∧ (s.rd
  HIF_MCMD.busy p = 0) ∧ (s.rd HIF_MCMD.vf p = vf) ∧ (vfInPf s p vf = true) ∧ (migOf s vf = .running) ∧ (fnQueues s (8
  + vf) = [q]) ∧ (queueState s q = qActive) ∧ ((queueInt s q).entries ≠ []) :=
  ⟨vfQueue 1 { entries := [{ raw := 0x10000 }] } (vfOn { bme := true } { bme := true } State.reset), .host 0, 0, 0, 3, by decide +kernel⟩

theorem meets_MailboxesAndMigration_7 : ∃ (s : State) (who : Initiator) (p vf : Nat), (stopped s = false) ∧ (p < 8) ∧
  (reachesMcmd who p = true) ∧ (standby s = false) ∧ (mirrors s = false) ∧ (s.rd BOOT_STATUS.phase ≠ 4) ∧ (s.rd
  HIF_MCMD.busy p = 0) ∧ (s.rd HIF_MCMD.vf p = vf) ∧ (vfInPf s p vf = true) ∧ (migOf s vf = .running) ∧ (fnQueues s (8
  + vf) = []) ∧ (noReadResp s (8 + vf) = true) :=
  ⟨vfOn { bme := true } { bme := true } State.reset, .host 0, 0, 0, by decide +kernel⟩

theorem meets_MailboxesAndMigration_8 : ∃ (s : State) (p vf : Nat), (stopped s = false) ∧ (vf < 4096) ∧ (Map.get
  s.hif.freezeBy vf = p + 1) ∧ (migOf s vf = .draining) ∧ (Map.get s.hif.freezeAt vf + s.rd HIF_MCMD.drain_us p * 1000
  ≤ now s + 1) ∧ (fnQueues s (8 + vf) = []) ∧ (noReadResp s (8 + vf) = true) ∧ (p < 8) :=
  ⟨{ (let s := vfOn { bme := true } { bme := true } State.reset; { s with hif := { s.hif with freezeBy := [(0, 1)], mig := [(0, .draining)] } }) with tt := { tt := 10000000 } }, 0, 0, by decide +kernel⟩

theorem meets_MailboxesAndMigration_9 : ∃ (s : State) (who : Initiator) (p vf q : Nat), (stopped s = false) ∧ (p < 8)
  ∧ (reachesMcmd who p = true) ∧ (standby s = false) ∧ (mirrors s = false) ∧ (s.rd BOOT_STATUS.phase ≠ 4) ∧ (s.rd
  HIF_MCMD.busy p = 0) ∧ (s.rd HIF_MCMD.vf p = vf) ∧ (vfInPf s p vf = true) ∧ (migOf s vf = .quiesced) ∧ (fnQueues s
  (8 + vf) = [q]) ∧ (q < 65536) ∧ (queueState s q = qMigrating) ∧ ((queueInt s q).preFreeze = qActive) :=
  ⟨(let s := vfQueue qMigrating { preFreeze := qActive } (vfOn { bme := true } { bme := true } State.reset); { s with hif := { s.hif with mig := [(0, .quiesced)] } }), .host 0, 0, 0, 3, by decide +kernel⟩

theorem meets_MailboxesAndMigration_10 : ∃ (s : State) (who : Initiator) (p vf : Nat), (stopped s = false) ∧ (p < 8) ∧
  (reachesMcmd who p = true) ∧ (standby s = false) ∧ (mirrors s = false) ∧ (s.rd BOOT_STATUS.phase ≠ 4) ∧ (s.rd
  HIF_MCMD.busy p = 0) ∧ (s.rd HIF_MCMD.vf p = vf) ∧ (vfInPf s p vf = true) ∧ (migOf s vf = .quiesced) ∧ (blobLength s
  vf ≤ s.rd HIF_MCMD.len p) ∧ (s.rd HIF_MCMD.wrap_en p = 0) ∧ (fnLive s p = true) :=
  ⟨(let s := withRegs (vfOn { bme := true } { bme := true } State.reset) [(HIF_MCMD.len, 0, 0x100000), (HIF_MCMD.addr, 0, 0x5000), (HIF_MCMD.seq, 0, 7)]; { s with hif := { s.hif with mig := [(0, .quiesced)] } }), .host 0, 0, 0, by decide +kernel⟩

theorem meets_MailboxesAndMigration_11 : ∃ (s : State) (who : Initiator) (p vf : Nat) (data : Bytes), (stopped s =
  false) ∧ (p < 8) ∧ (reachesMcmd who p = true) ∧ (standby s = false) ∧ (mirrors s = false) ∧ (s.rd BOOT_STATUS.phase
  ≠ 4) ∧ (s.rd HIF_MCMD.busy p = 0) ∧ (s.rd HIF_MCMD.vf p = vf) ∧ (vfInPf s p vf = true) ∧ (fnLive s p = true) ∧
  (data.length ≤ s.rd HIF_MCMD.len p) ∧ (blobCommitted data (s.rd HIF_MCMD.seq p) = true) ∧ (blobFits s (8 + vf) data
  (partBlob data (vectorCount s (8 + vf))) = true) ∧ (leAt data 0x1E 2 % 2 = 0) :=
  ⟨withRegs (vfOn { bme := true } { bme := true } State.reset) [(HIF_MCMD.len, 0, 0x100000), (HIF_MCMD.addr, 0, 0x5000), (HIF_MCMD.seq, 0, 7)], .host 0, 0, 0, migBody ++ leBytes 8 (commitWord 7 migBody), by
    iterate 11 refine ⟨by decide +kernel, ?_⟩
    exact ⟨blob_commits migBody 7 (by decide +kernel) (by decide +kernel) (by decide +kernel), by decide +kernel, by decide +kernel⟩⟩

theorem meets_MailboxesAndMigration_12 : ∃ (s : State) (who : Initiator) (vf seq : Nat) (up : Bool), (stopped s =
  false) ∧ (vf < 4096) ∧ (isSender s who vf up = true) ∧ (standby s = false) ∧ (mirrors s = false) ∧ (s.rd
  BOOT_STATUS.phase ≠ 4) ∧ (mailFull (mailArea s vf up) = false) ∧ (seq % 65536 = addMod 16 (mailArea s vf up).ack 1)
  :=
  ⟨vfOn { bme := true } { bme := true } State.reset, .host 0, 0, 1, false, by decide +kernel⟩

theorem meets_MailboxesAndMigration_13 : ∃ (s : State) (who : Initiator) (vf ack : Nat) (up : Bool), (stopped s =
  false) ∧ (vf < 4096) ∧ (isReceiver s who vf up = true) ∧ (standby s = false) ∧ (mirrors s = false) ∧ (s.rd
  BOOT_STATUS.phase ≠ 4) ∧ (mailFull (mailArea s vf up) = true) ∧ (ack % 65536 = (mailArea s vf up).seq) :=
  ⟨(let s := vfOn { bme := true } { bme := true } State.reset; { s with hif := { s.hif with mail := [(0, { seq := 5 })] } }), .host 0, 0, 5, true, by decide +kernel⟩

theorem meets_MailboxesAndMigration_14 : ∃ (s : State) (who : Initiator) (vf ack : Nat) (up : Bool), (stopped s =
  false) ∧ (vf < 4096) ∧ (isReceiver s who vf up = true) ∧ (standby s = false) ∧ (mirrors s = false) ∧ (s.rd
  BOOT_STATUS.phase ≠ 4) ∧ (ack % 65536 ≠ (mailArea s vf up).seq) :=
  ⟨vfOn { bme := true } { bme := true } State.reset, .host 0, 0, 5, true, by decide +kernel⟩

theorem meets_MailboxesAndMigration_15 : ∃ (s : State) (who : Initiator), (stopped s = false) ∧ (reaches who
  Blk.mbx.base = true) :=
  ⟨(let s := vfOn { bme := true } { bme := true } State.reset; { s with hif := { s.hif with msgq := [7, 9] } }), .host 0, by decide +kernel⟩

theorem meets_MailboxesAndMigration_16 : ∃ (s : State) (vf p : Nat), (stopped s = false) ∧ (Map.get s.hif.freezeBy vf
  = p + 1) ∧ (migOf s vf = .draining) ∧ (Map.get s.hif.freezeAt vf + s.rd HIF_MCMD.drain_us p * 1000 ≤ now s + 1) :=
  ⟨{ (let s := vfOn { bme := true } { bme := true } State.reset; { s with hif := { s.hif with freezeBy := [(0, 1)], mig := [(0, .draining)] } }) with tt := { tt := 10000000 } }, 0, 0, by decide +kernel⟩

theorem meets_MailboxesAndMigration_17 : ∃ (s : State) (who : Initiator) (p vf : Nat), (stopped s = false) ∧ (p < 8) ∧
  (reachesMcmd who p = true) ∧ (standby s = false) ∧ (mirrors s = false) ∧ (s.rd BOOT_STATUS.phase ≠ 4) ∧ (s.rd
  HIF_MCMD.busy p = 0) ∧ (s.rd HIF_MCMD.vf p = vf) ∧ (vfInPf s p vf = true) :=
  ⟨vfOn { bme := true } { bme := true } State.reset, .host 0, 0, 0, by decide +kernel⟩

theorem meets_MailboxesAndMigration_18 : ∃ (s : State) (who : Initiator) (p vf : Nat) (_ : Bool), (stopped s = false)
  ∧ (p < 8) ∧ (reachesMcmd who p = true) ∧ (standby s = false) ∧ (mirrors s = false) ∧ (s.rd BOOT_STATUS.phase ≠ 4) ∧
  (s.rd HIF_MCMD.busy p = 0) ∧ (s.rd HIF_MCMD.vf p = vf) ∧ (vfInPf s p vf = true) :=
  ⟨vfOn { bme := true } { bme := true } State.reset, .host 0, 0, 0, true, by decide +kernel⟩

theorem meets_MailboxesAndMigration_19 : ∃ (s : State) (who : Initiator) (p vf : Nat) (_ : Bool) (_ : Bytes), (stopped
  s = false) ∧ (p < 8) ∧ (reachesMcmd who p = true) ∧ (standby s = false) ∧ (mirrors s = false) ∧ (s.rd
  BOOT_STATUS.phase ≠ 4) ∧ (s.rd HIF_MCMD.busy p = 0) ∧ (s.rd HIF_MCMD.vf p = vf) ∧ (vfInPf s p vf = true) :=
  ⟨vfOn { bme := true } { bme := true } State.reset, .host 0, 0, 0, true, [], by decide +kernel⟩

theorem meets_MailboxesAndMigration_20 : ∃ (s : State) (who : Initiator) (p vf : Nat), (stopped s = false) ∧ (p < 8) ∧
  (reachesMcmd who p = true) ∧ (standby s = false) ∧ (mirrors s = false) ∧ (s.rd BOOT_STATUS.phase ≠ 4) ∧ (s.rd
  HIF_MCMD.busy p = 0) ∧ (s.rd HIF_MCMD.vf p = vf) ∧ (vfInPf s p vf = true) :=
  ⟨vfOn { bme := true } { bme := true } State.reset, .host 0, 0, 0, by decide +kernel⟩

theorem meets_MailboxesAndMigration_21 : ∃ (s : State) (who : Initiator) (p : Nat), (stopped s = false) ∧ (p < 8) ∧
  (reachesMcmd who p = true) ∧ (standby s = false) ∧ (mirrors s = false) ∧ (s.rd BOOT_STATUS.phase ≠ 4) ∧ (s.rd
  HIF_MCMD.busy p = 0) ∧ (vfInPf s p (s.rd HIF_MCMD.vf p) = false) :=
  ⟨(vfOn { bme := true } { bme := true } State.reset).wr HIF_MCMD.vf 9 0, .host 0, 0, by decide +kernel⟩

theorem meets_MailboxesAndMigration_22 : ∃ (s : State) (who : Initiator) (p : Nat) (_ : Bool), (stopped s = false) ∧
  (p < 8) ∧ (reachesMcmd who p = true) ∧ (standby s = false) ∧ (mirrors s = false) ∧ (s.rd BOOT_STATUS.phase ≠ 4) ∧
  (s.rd HIF_MCMD.busy p = 0) ∧ (vfInPf s p (s.rd HIF_MCMD.vf p) = false) :=
  ⟨(vfOn { bme := true } { bme := true } State.reset).wr HIF_MCMD.vf 9 0, .host 0, 0, true, by decide +kernel⟩

theorem meets_MailboxesAndMigration_23 : ∃ (s : State) (who : Initiator) (p : Nat) (_ : Bool) (_ : Bytes), (stopped s
  = false) ∧ (p < 8) ∧ (reachesMcmd who p = true) ∧ (standby s = false) ∧ (mirrors s = false) ∧ (s.rd
  BOOT_STATUS.phase ≠ 4) ∧ (s.rd HIF_MCMD.busy p = 0) ∧ (vfInPf s p (s.rd HIF_MCMD.vf p) = false) :=
  ⟨(vfOn { bme := true } { bme := true } State.reset).wr HIF_MCMD.vf 9 0, .host 0, 0, true, [], by decide +kernel⟩

theorem meets_MailboxesAndMigration_24 : ∃ (s : State) (who : Initiator) (p : Nat), (stopped s = false) ∧ (p < 8) ∧
  (reachesMcmd who p = true) ∧ (standby s = false) ∧ (mirrors s = false) ∧ (s.rd BOOT_STATUS.phase ≠ 4) ∧ (s.rd
  HIF_MCMD.busy p = 0) ∧ (vfInPf s p (s.rd HIF_MCMD.vf p) = false) :=
  ⟨(vfOn { bme := true } { bme := true } State.reset).wr HIF_MCMD.vf 9 0, .host 0, 0, by decide +kernel⟩

theorem meets_MailboxesAndMigration_25 : ∃ (s : State) (who : Initiator) (p : Nat), (stopped s = false) ∧ (p < 8) ∧
  (reachesMcmd who p = true) ∧ (standby s = false) ∧ (mirrors s = false) ∧ (s.rd BOOT_STATUS.phase ≠ 4) ∧ (s.rd
  HIF_MCMD.busy p ≠ 0) :=
  ⟨(vfOn { bme := true } { bme := true } State.reset).wr HIF_MCMD.busy 1 0, .host 0, 0, by decide +kernel⟩

theorem meets_MailboxesAndMigration_26 : ∃ (s : State) (who : Initiator) (p : Nat) (_ : Bool), (stopped s = false) ∧
  (p < 8) ∧ (reachesMcmd who p = true) ∧ (standby s = false) ∧ (mirrors s = false) ∧ (s.rd BOOT_STATUS.phase ≠ 4) ∧
  (s.rd HIF_MCMD.busy p ≠ 0) :=
  ⟨(vfOn { bme := true } { bme := true } State.reset).wr HIF_MCMD.busy 1 0, .host 0, 0, true, by decide +kernel⟩

theorem meets_MailboxesAndMigration_27 : ∃ (s : State) (who : Initiator) (p : Nat) (_ : Bool) (_ : Bytes), (stopped s
  = false) ∧ (p < 8) ∧ (reachesMcmd who p = true) ∧ (standby s = false) ∧ (mirrors s = false) ∧ (s.rd
  BOOT_STATUS.phase ≠ 4) ∧ (s.rd HIF_MCMD.busy p ≠ 0) :=
  ⟨(vfOn { bme := true } { bme := true } State.reset).wr HIF_MCMD.busy 1 0, .host 0, 0, true, [], by decide +kernel⟩

theorem meets_MailboxesAndMigration_28 : ∃ (s : State) (who : Initiator) (p : Nat), (stopped s = false) ∧ (p < 8) ∧
  (reachesMcmd who p = true) ∧ (standby s = false) ∧ (mirrors s = false) ∧ (s.rd BOOT_STATUS.phase ≠ 4) ∧ (s.rd
  HIF_MCMD.busy p ≠ 0) :=
  ⟨(vfOn { bme := true } { bme := true } State.reset).wr HIF_MCMD.busy 1 0, .host 0, 0, by decide +kernel⟩

theorem meets_DeviceResetsPinsAndSmbus_1_1 : ∃ (s : State) (_ : Nat) (_ : Bool), (s.pins.resetN = false) ∧
  (s.pins.testEn = false) ∧ (s.nrg.tripLatch = false) :=
  ⟨{ withRegs { State.reset with mem := [(5, 6)], pending := [.pllLock], boot := { flags := 2, svn := 7 }, start := { pll := true }, queues := [(3, { preFreeze := 2 })] } [(BOOT_STATUS.phase, 0, 2), (BOOT_CTL.skip, 0, 5)] with pins := { resetN := false } }, 0x86, false, by decide +kernel⟩

theorem meets_DeviceResetsPinsAndSmbus_1_2 : ∃ (s : State) (_ : Nat) (_ : Bool), (s.pins.resetN = false) ∧
  (s.pins.testEn = false) ∧ (s.nrg.tripLatch = false) :=
  ⟨{ withRegs { State.reset with mem := [(5, 6)], pending := [.pllLock], boot := { flags := 2, svn := 7 }, start := { pll := true }, queues := [(3, { preFreeze := 2 })] } [(BOOT_STATUS.phase, 0, 2), (BOOT_CTL.skip, 0, 5)] with pins := { resetN := false, mainRails := false } }, 1, true, by decide +kernel⟩

theorem meets_DeviceResetsPinsAndSmbus_2 : ∃ (s : State) (_ : Nat), (s.pins.resetN = false) ∧ (s.pins.testEn = false)
  ∧ (s.nrg.tripLatch = true) :=
  ⟨{ { withRegs { State.reset with mem := [(5, 6)], pending := [.pllLock], boot := { flags := 2, svn := 7 }, start := { pll := true }, queues := [(3, { preFreeze := 2 })] } [(BOOT_STATUS.phase, 0, 2), (BOOT_CTL.skip, 0, 5)] with pins := { resetN := false } } with nrg := { tripped := true, tripLatch := true } }, 1, by decide +kernel⟩

theorem meets_DeviceResetsPinsAndSmbus_3 : ∃ (s : State) (_ : Nat), (s.pins.resetN = false) ∧ (s.nrg.tripLatch = true)
  :=
  ⟨{ { withRegs { State.reset with mem := [(5, 6)], pending := [.pllLock], boot := { flags := 2, svn := 7 }, start := { pll := true }, queues := [(3, { preFreeze := 2 })] } [(BOOT_STATUS.phase, 0, 2), (BOOT_CTL.skip, 0, 5)] with pins := { resetN := false } } with nrg := { tripped := true, tripLatch := true } }, 1, by decide +kernel⟩

theorem meets_DeviceResetsPinsAndSmbus_4 : ∃ (s : State) (_ : Nat) (_ : Bool), (s.pins.resetN = true) :=
  ⟨State.reset, 1, true, by decide +kernel⟩

theorem meets_DeviceResetsPinsAndSmbus_5 : ∃ (s : State) (who : Initiator) (_ : Nat), (stopped s = false) ∧ (writable
  who BOOT_CTL.phase_req 0 s = true) :=
  ⟨withRegs { State.reset with mem := [(5, 6)], pending := [.pllLock], boot := { flags := 2, svn := 7 }, start := { pll := true }, queues := [(3, { preFreeze := 2 })] } [(BOOT_STATUS.phase, 0, 2), (BOOT_CTL.skip, 0, 5)], .host 0, 2, by decide +kernel⟩

theorem meets_DeviceResetsPinsAndSmbus_6_1 : ∃ (s : State) (_ : Bool), (s.pins.resetN = true) :=
  ⟨State.reset, true, by decide +kernel⟩

theorem meets_DeviceResetsPinsAndSmbus_6_2 : ∃ (s : State) (_ : Bool), (s.pins.resetN = true) :=
  ⟨State.reset, false, by decide +kernel⟩

theorem meets_DeviceResetsPinsAndSmbus_7_1 : ∃ (s : State) (_ : Nat) (cool : Bool), (s.pins.resetN = false) ∧
  (s.pins.testEn = false) ∧ (s.nrg.tripLatch = false ∨ cool = true) :=
  ⟨{ withRegs { State.reset with mem := [(5, 6)], pending := [.pllLock], boot := { flags := 2, svn := 7 }, start := { pll := true }, queues := [(3, { preFreeze := 2 })] } [(BOOT_STATUS.phase, 0, 2), (BOOT_CTL.skip, 0, 5)] with pins := { resetN := false } }, 0x86, false, by decide +kernel⟩

theorem meets_DeviceResetsPinsAndSmbus_7_2 : ∃ (s : State) (_ : Nat) (cool : Bool), (s.pins.resetN = false) ∧
  (s.pins.testEn = false) ∧ (s.nrg.tripLatch = false ∨ cool = true) :=
  ⟨{ withRegs { State.reset with mem := [(5, 6)], pending := [.pllLock], boot := { flags := 2, svn := 7 }, start := { pll := true }, queues := [(3, { preFreeze := 2 })] } [(BOOT_STATUS.phase, 0, 2), (BOOT_CTL.skip, 0, 5)] with pins := { resetN := false, mainRails := false } }, 1, true, by decide +kernel⟩

theorem meets_DeviceResetsPinsAndSmbus_8 : ∃ (s : State) (_ : Nat) (_ : Bool), (s.pins.testEn = true) :=
  ⟨{ withRegs { State.reset with mem := [(5, 6)], pending := [.pllLock], boot := { flags := 2, svn := 7 }, start := { pll := true }, queues := [(3, { preFreeze := 2 })] } [(BOOT_STATUS.phase, 0, 2), (BOOT_CTL.skip, 0, 5)] with pins := { resetN := false, testEn := true } }, 1, true, by decide +kernel⟩

theorem meets_DeviceResetsPinsAndSmbus_9 : ∃ (s : State) (who : Initiator) (_ : Nat), (stopped s = false) ∧ (writable
  who BOOT_CTL.phase_req 0 s = true) :=
  ⟨withRegs { State.reset with mem := [(5, 6)], pending := [.pllLock], boot := { flags := 2, svn := 7 }, start := { pll := true }, queues := [(3, { preFreeze := 2 })] } [(BOOT_STATUS.phase, 0, 2), (BOOT_CTL.skip, 0, 5)], .host 0, 2, by decide +kernel⟩

theorem meets_DeviceResetsPinsAndSmbus_11 : ∃ (s : State), (s.pins.mainRails = true) :=
  ⟨State.reset, by decide +kernel⟩

theorem meets_DeviceResetsPinsAndSmbus_12 : ∃ (s : State), (s.pins.mainRails = true) :=
  ⟨State.reset.wr NRG_RAIL_LEG.beads 5000 1, by decide +kernel⟩

theorem meets_DeviceResetsPinsAndSmbus_13 : ∃ (s : State), (s.pins.mainRails = true) :=
  ⟨State.reset, by decide +kernel⟩

theorem meets_DeviceResetsPinsAndSmbus_14 : ∃ (s : State), (s.pins.mainRails = true) :=
  ⟨State.reset, by decide +kernel⟩

theorem meets_DeviceResetsPinsAndSmbus_15 : ∃ (s : State) (c : Instr), (s.pins.mainRails = false) ∧ (c =
  .smbusReadTemperature ∨ c = .smbusReadPower ∨ c = .smbusReadStatus ∨ c = .smbusReadThermal) :=
  ⟨{ State.reset with pins := { mainRails := false } }, .smbusReadPower, by decide +kernel⟩

theorem meets_DeviceResetsPinsAndSmbus_16 : ∃ (s : State), (s.pins.resetN = false) ∧ (s.pins.mainRails = false) ∧
  (s.pins.auxRail = true) ∧ (s.pins.pme = true) :=
  ⟨{ State.reset with pins := { mainRails := false, resetN := false, pme := true } }, by decide +kernel⟩

theorem meets_DeviceResetsPinsAndSmbus_17 : ∃ (_ : State) (b : Nat), (b ≠ 1) :=
  ⟨State.reset, 0, by decide +kernel⟩

theorem meets_DeviceResetsPinsAndSmbus_18 : ∃ (s : State), (s.pins.mainRails = true) :=
  ⟨State.reset, by decide +kernel⟩

theorem meets_StartSequenceAndHostLinks_1 : ∃ (s : State), (stopped s = false) ∧ (s.start.pll = false) ∧ (startDone
  { s with start := { s.start with pll := true } } = false) :=
  ⟨State.reset, by decide +kernel⟩

theorem meets_StartSequenceAndHostLinks_2 : ∃ (s : State) (g : Nat) (_ : Bool), (stopped s = false) ∧ (g < 5) ∧
  (s.start.pll = true) ∧ (s.start.serdes.contains g = false) ∧ (s.rd DEV_STATUS.hw_ready = 0) ∧ (startDone
  { s with start := { s.start with serdes := s.start.serdes ++ [g] } } = false) :=
  ⟨(let s := State.reset; { s with start := { s.start with pll := true, serdes := [0, 1, 2, 3] } }), 4, true, by decide +kernel⟩

theorem meets_StartSequenceAndHostLinks_3 : ∃ (s : State) (g : Nat) (_ : Bool), (stopped s = false) ∧ (g < 5) ∧
  (s.start.pll = true) ∧ (s.start.serdes.contains g = false) ∧ (s.rd DEV_STATUS.hw_ready = 0) ∧ (s.rd
  BOOT_STATUS.phase ≠ 0) ∧ (startDone { s with start := { s.start with serdes := s.start.serdes ++ [g] } } = true) :=
  ⟨(let s := State.reset.wr BOOT_STATUS.phase 1; { s with start := { s.start with pll := true, serdes := [0, 1, 2, 4], steward := true, sram := true, g6 := true, trained := List.range 12 } }), 3, false, by decide +kernel⟩

theorem meets_StartSequenceAndHostLinks_4 : ∃ (s : State) (d : Nat), (stopped s = false) ∧ (d < 12) ∧ (s.start.pll =
  true) ∧ (s.start.trained.contains d = false) ∧ ((s.rd DEV_STATUS.g6_fail).testBit d = false) ∧ (startDone
  { s with start := { s.start with trained := s.start.trained ++ [d] } } = false) :=
  ⟨(let s := State.reset; { s with start := { s.start with pll := true } }), 11, by decide +kernel⟩

theorem meets_StartSequenceAndHostLinks_5 : ∃ (s : State) (d : Nat), (stopped s = false) ∧ (d < 12) ∧ (s.start.pll =
  true) ∧ (s.start.trained.contains d = false) ∧ ((s.rd DEV_STATUS.g6_fail).testBit d = false) ∧ (Map.get
  s.start.tries d < 2) :=
  ⟨(let s := State.reset; { s with start := { s.start with pll := true, tries := [(3, 1)] } }), 3, by decide +kernel⟩

theorem meets_StartSequenceAndHostLinks_6 : ∃ (s : State) (d : Nat), (stopped s = false) ∧ (d < 12) ∧ (s.start.pll =
  true) ∧ (s.start.trained.contains d = false) ∧ ((s.rd DEV_STATUS.g6_fail).testBit d = false) ∧ (Map.get
  s.start.tries d = 2) ∧ (s.rd BOOT_STATUS.phase ≠ 0) :=
  ⟨(let s := State.reset.wr BOOT_STATUS.phase 1; { s with start := { s.start with pll := true, tries := [(3, 2)] } }), 3, by decide +kernel⟩

theorem meets_StartSequenceAndHostLinks_7 : ∃ (s : State) (d : Nat), (stopped s = false) ∧ (d < 12) ∧ (s.start.pll =
  true) ∧ (s.start.trained.contains d = false) ∧ ((s.rd DEV_STATUS.g6_fail).testBit d = false) ∧ (Map.get
  s.start.tries d = 2) ∧ (s.rd BOOT_STATUS.phase = 0) :=
  ⟨(let s := State.reset; { s with start := { s.start with pll := true, tries := [(3, 2)] } }), 3, by decide +kernel⟩

theorem meets_StartSequenceAndHostLinks_8 : ∃ (s : State), (stopped s = false) ∧ (s.start.pll = true) ∧
  (s.start.steward = false) ∧ (startDone { s with start := { s.start with steward := true } } = false) :=
  ⟨(let s := { State.reset with mem := [(stewardMemLo, 7), (stewardMemHi, 3)] }; { s with start := { s.start with pll := true } }), by decide +kernel⟩

theorem meets_StartSequenceAndHostLinks_9 : ∃ (s : State) (l : Nat), (stopped s = false) ∧ (s.hif.linksUp.contains l =
  false) ∧ ((strapLinks s).contains l = true) ∧ (Map.get s.hif.perst (l / 4) = false) ∧ (s.start.serdes.contains (l /
  4) = true) ∧ (s.rd (serdesClock (l / 4)) = 1) :=
  ⟨(let s := withRegs State.reset [(DEV_CLK_STAT.pcie1, 0, 1)]; { s with start := { s.start with pll := true, serdes := [0, 1] } }), 4, by decide +kernel⟩

theorem meets_StartSequenceAndHostLinks_10 : ∃ (s : State) (l : Nat), (stopped s = false) ∧ (s.hif.linksUp.contains l
  = true) ∧ (s.hif.reqs = []) :=
  ⟨{ State.reset with hif := { linksUp := [0, 4] } }, 4, by decide +kernel⟩

theorem meets_StartSequenceAndHostLinks_11 : ∃ (s : State), (stopped s = false) ∧ (s.start.pll = false) :=
  ⟨State.reset, by decide +kernel⟩

theorem meets_StartSequenceAndHostLinks_12 : ∃ (s : State) (g : Nat) (_ : Bool), (stopped s = false) ∧ (g < 5) ∧
  (s.start.pll = true) ∧ (s.start.serdes.contains g = false) :=
  ⟨(let s := State.reset; { s with start := { s.start with pll := true, serdes := [0, 1, 2, 3] } }), 4, true, by decide +kernel⟩

theorem meets_StartSequenceAndHostLinks_13 : ∃ (s : State) (d : Nat), (stopped s = false) ∧ (d < 12) ∧ (s.start.pll =
  true) ∧ (s.start.trained.contains d = false) ∧ ((s.rd DEV_STATUS.g6_fail).testBit d = false) :=
  ⟨(let s := State.reset; { s with start := { s.start with pll := true } }), 11, by decide +kernel⟩

theorem meets_StartSequenceAndHostLinks_14 : ∃ (s : State) (d : Nat), (stopped s = false) ∧ (d < 12) ∧ (s.start.pll =
  true) ∧ (s.start.trained.contains d = false) ∧ ((s.rd DEV_STATUS.g6_fail).testBit d = false) ∧ (2 ≤ Map.get
  s.start.tries d) :=
  ⟨(let s := State.reset; { s with start := { s.start with pll := true, tries := [(3, 2)] } }), 3, by decide +kernel⟩

theorem meets_StartSequenceAndHostLinks_15 : ∃ (s : State), (stopped s = false) ∧ (s.start.pll = true) ∧
  (s.start.steward = false) :=
  ⟨(let s := { State.reset with mem := [(stewardMemLo, 7), (stewardMemHi, 3)] }; { s with start := { s.start with pll := true } }), by decide +kernel⟩

theorem meets_StartSequenceAndHostLinks_16 : ∃ (s : State), (stopped s = false) ∧ (s.start.pll = true) ∧ (s.start.sram
  = false) :=
  ⟨(let s := { State.reset with mem := [(sramBase, 7), (stewardMemLo, 3)] }; { s with start := { s.start with pll := true } }), by decide +kernel⟩

theorem meets_StartSequenceAndHostLinks_17 : ∃ (s : State), (stopped s = false) ∧ (s.start.pll = true) ∧ (s.start.g6 =
  false) ∧ (g6Down s = false) ∧ (trainingOver s = true) :=
  ⟨(let s := { State.reset with mem := [(g6Base, 7)] }; { s with start := { s.start with pll := true, trained := List.range 12 } }), by decide +kernel⟩

theorem meets_StartSequenceAndHostLinks_18 : ∃ (s : State) (l : Nat), (stopped s = false) ∧ (s.hif.linksUp.contains l
  = true) :=
  ⟨{ State.reset with hif := { linksUp := [0, 4] } }, 4, by decide +kernel⟩

theorem meets_StageOneAndRecovery_1 : ∃ (s : State) (slots : List (Option SlotImage)) (i : Nat) (x : SlotImage) (y :
  Section), (stopped s = false) ∧ (romRuns s = true) ∧ ((scanBoot s slots).won = some (i, x)) ∧ (i < 4) ∧ (x.find 1 =
  some y) :=
  ⟨romOn State.reset, [none, some bootSlot], 1, bootSlot, ⟨1, 4, 0x3000, stewardMemLo, stewardMemLo, bootSlot.at_ 0x120 48⟩, by decide +kernel, by decide +kernel, boot_won _ (by decide +kernel) (by decide +kernel) (by decide +kernel) (boot_checks _ _ (by decide +kernel) (by decide +kernel) (zero_keys _ _ (by decide +kernel)) (by decide +kernel) (by decide +kernel) rfl rfl (by decide +kernel) (by decide +kernel)), by decide +kernel, by decide +kernel⟩

theorem meets_StageOneAndRecovery_2 : ∃ (s : State) (slots : List (Option SlotImage)), (stopped s = false) ∧ (romRuns
  s = true) ∧ ((scanBoot s slots).won = none) :=
  ⟨romOn State.reset, [none, some ⟨bootImage, 0, true, true⟩], by decide +kernel⟩

theorem meets_StageOneAndRecovery_3 : ∃ (s : State) (slots : List (Option SlotImage)), (stopped s = false) ∧ (romRuns
  s = true) ∧ ((scanBoot s slots).won = none) :=
  ⟨romOn State.reset, [], by decide +kernel⟩

theorem meets_StageOneAndRecovery_4 : ∃ (s : State) (_ : List (Option SlotImage)), (stopped s = false) ∧ (romRuns s =
  false) :=
  ⟨State.reset, [], by decide +kernel⟩

theorem meets_StageOneAndRecovery_5 : ∃ (s : State) (_ : List (Option SlotImage)), (stopped s = false) ∧ (romRuns s =
  false) :=
  ⟨State.reset, [], by decide +kernel⟩

theorem meets_StageOneAndRecovery_6 : ∃ (s : State) (slots : List (Option SlotImage)) (i : Nat) (x : SlotImage),
  (stopped s = false) ∧ (romRuns s = true) ∧ ((scanBoot s slots).won = some (i, x)) :=
  ⟨romOn State.reset, [none, some bootSlot], 1, bootSlot, by decide +kernel, by decide +kernel, boot_won _ (by decide +kernel) (by decide +kernel) (by decide +kernel) (boot_checks _ _ (by decide +kernel) (by decide +kernel) (zero_keys _ _ (by decide +kernel)) (by decide +kernel) (by decide +kernel) rfl rfl (by decide +kernel) (by decide +kernel))⟩

theorem meets_StageOneAndRecovery_7 : ∃ (s : State) (slots : List (Option SlotImage)), (stopped s = false) ∧ (romRuns
  s = true) ∧ ((scanBoot s slots).won = none) :=
  ⟨romOn State.reset, [none, some ⟨bootImage, 0, true, true⟩], by decide +kernel⟩

theorem meets_StageOneAndRecovery_8 : ∃ (s : State) (who : Initiator) (len : Nat) (_ : SlotImage), (stopped s = false)
  ∧ (reaches who (BOOT_RCV_CTL.len.key 0 0 / 8) = true) ∧ (standby s = false) ∧ (mirrors s = false) ∧ (s.rd
  BOOT_STATUS.phase = 4) ∧ (pcieRecovers s = true) ∧ (len ≤ slotBytes) ∧ (fnLive s 0 = false) :=
  ⟨{ rcvOn with hif := {} }, .host 0, 16, bootSlot, by decide +kernel⟩

theorem meets_StageOneAndRecovery_9 : ∃ (s : State) (who : Initiator) (len : Nat) (img : SlotImage), (stopped s =
  false) ∧ (reaches who (BOOT_RCV_CTL.len.key 0 0 / 8) = true) ∧ (standby s = false) ∧ (mirrors s = false) ∧ (s.rd
  BOOT_STATUS.phase = 4) ∧ (pcieRecovers s = true) ∧ (len ≤ slotBytes) ∧
  (({ img with bytes := fitBytes len img.bytes } : SlotImage).headerOk = false) ∧ (fnLive s 0 = true) :=
  ⟨rcvOn, .host 0, 16, bootSlot, by decide +kernel⟩

theorem meets_StageOneAndRecovery_10 : ∃ (s : State) (who : Initiator) (len : Nat) (img : SlotImage) (y : Section),
  (stopped s = false) ∧ (reaches who (BOOT_RCV_CTL.len.key 0 0 / 8) = true) ∧ (standby s = false) ∧ (mirrors s =
  false) ∧ (s.rd BOOT_STATUS.phase = 4) ∧ (pcieRecovers s = true) ∧ (len ≤ slotBytes) ∧ (fnLive s 0 = true) ∧
  (checkImage (s.wr BOOT_RCV_CTL.len len) ({ img with bytes := fitBytes len img.bytes } : SlotImage) = 1) ∧
  (({ img with bytes := fitBytes len img.bytes } : SlotImage).find 1 = some y) :=
  ⟨rcvOn, .host 0, 384, bootSlot, ⟨1, 4, 0x3000, stewardMemLo, stewardMemLo, bootSlot.at_ 0x120 48⟩, by
    iterate 8 refine ⟨by decide +kernel, ?_⟩
    exact ⟨boot_checks _ _ (by decide +kernel) (by decide +kernel) (zero_keys _ _ (by decide +kernel)) (by decide +kernel) (by decide +kernel) rfl rfl (by decide +kernel) (by decide +kernel), by decide +kernel⟩⟩

theorem meets_StageOneAndRecovery_11 : ∃ (s : State) (bs : Bytes) (crc : Nat), (stopped s = false) ∧ (s.rd
  BOOT_STATUS.phase = 4) ∧ (uartRecovers s = true) ∧ (bs.length ≤ 4096) ∧ (crc16 (leBytes 1 1 ++ leBytes 2 bs.length
  ++ bs) = crc) ∧ (s.boot.image.length + bs.length ≤ slotBytes) :=
  ⟨{ rcvOn with boot := { image := [1, 2] } }, [3, 4], crc16 [1, 2, 0, 3, 4], by decide +kernel⟩

theorem meets_StageOneAndRecovery_12 : ∃ (s : State) (bs : Bytes) (crc : Nat), (stopped s = false) ∧ (s.rd
  BOOT_STATUS.phase = 4) ∧ (uartRecovers s = true) ∧ (bs.length ≤ 4096) ∧ (crc16 (leBytes 1 1 ++ leBytes 2 bs.length
  ++ bs) ≠ crc) :=
  ⟨rcvOn, [3, 4], 5, by decide +kernel⟩

theorem meets_StageOneAndRecovery_13 : ∃ (s : State) (crc : Nat) (m : Bool), (stopped s = false) ∧ (s.rd
  BOOT_STATUS.phase = 4) ∧ (uartRecovers s = true) ∧ (crc16 (leBytes 1 2 ++ leBytes 2 0) = crc) ∧
  ((⟨s.boot.image, 0, true, m⟩ : SlotImage).headerOk = false) :=
  ⟨rcvOn, crc16 [2, 0, 0], true, by decide +kernel⟩

theorem meets_StageOneAndRecovery_14 : ∃ (s : State) (crc : Nat) (y : Section), (stopped s = false) ∧ (s.rd
  BOOT_STATUS.phase = 4) ∧ (uartRecovers s = true) ∧ (crc16 (leBytes 1 2 ++ leBytes 2 0) = crc) ∧ (checkImage s
  (⟨s.boot.image, 0, true, true⟩ : SlotImage) = 1) ∧ ((⟨s.boot.image, 0, true, true⟩ : SlotImage).find 1 = some y) :=
  ⟨{ rcvOn with boot := { rcvOn.boot with image := bootImage } }, crc16 [2, 0, 0], ⟨1, 4, 0x3000, stewardMemLo, stewardMemLo, bootSlot.at_ 0x120 48⟩, by decide +kernel, by decide +kernel, by decide +kernel, by decide +kernel, boot_checks _ _ (by decide +kernel) (by decide +kernel) (zero_keys _ _ (by decide +kernel)) (by decide +kernel) (by decide +kernel) rfl rfl (by decide +kernel) (by decide +kernel), by decide +kernel⟩

theorem meets_StageOneAndRecovery_15 : ∃ (s : State) (crc : Nat), (stopped s = false) ∧ (s.rd BOOT_STATUS.phase = 4) ∧
  (uartRecovers s = true) ∧ (crc16 (leBytes 1 3 ++ leBytes 2 0) = crc) :=
  ⟨{ rcvOn with boot := { image := [1, 2] } }, crc16 [3, 0, 0], by decide +kernel⟩

theorem meets_StageOneAndRecovery_16 : ∃ (s _ : State) (who : Initiator) (len : Nat) (_ : SlotImage) (ok : Bool),
  (stopped s = false) ∧ (reaches who (BOOT_RCV_CTL.len.key 0 0 / 8) = true) ∧ (standby s = false) ∧ (mirrors s =
  false) ∧ (s.rd BOOT_STATUS.phase = 4) ∧ (pcieRecovers s = true) ∧ (len ≤ slotBytes) ∧ (fnLive s 0 = false ∨ ok =
  false) :=
  ⟨{ rcvOn with hif := {} }, State.reset, .host 0, 16, bootSlot, true, by decide +kernel⟩

theorem meets_StageOneAndRecovery_17 : ∃ (s : State) (who : Initiator) (len : Nat) (_ : SlotImage), (stopped s =
  false) ∧ (reaches who (BOOT_RCV_CTL.len.key 0 0 / 8) = true) ∧ (standby s = false) ∧ (mirrors s = false) ∧ (s.rd
  BOOT_STATUS.phase = 4) ∧ (pcieRecovers s = true) ∧ (len ≤ slotBytes) ∧ (fnLive s 0 = true) :=
  ⟨rcvOn, .host 0, 16, bootSlot, by decide +kernel⟩

theorem meets_StageOneAndRecovery_18 : ∃ (s : State) (who : Initiator) (len : Nat) (_ : SlotImage) (_ : Bool),
  (stopped s = false) ∧ (reaches who (BOOT_RCV_CTL.len.key 0 0 / 8) = true) ∧ (standby s = false) ∧ (mirrors s =
  false) ∧ (s.rd BOOT_STATUS.phase = 4) ∧ (pcieRecovers s = true) ∧ (slotBytes < len) ∧ (len < 2 ^ 25) :=
  ⟨rcvOn, .host 0, 0x1800001, bootSlot, true, by decide +kernel⟩

theorem meets_StageOneAndRecovery_19 : ∃ (s : State) (crc : Nat) (_ _ : Bool) (t : State), (stopped s = false) ∧ (s.rd
  BOOT_STATUS.phase = 4) ∧ (uartRecovers s = true) ∧ (crc16 (leBytes 1 2 ++ leBytes 2 0) = crc) ∧ (t = uartReply
  { s with boot := { s.boot with image := [] } } 0x06) :=
  ⟨rcvOn, crc16 [2, 0, 0], true, true, uartReply { rcvOn with boot := { rcvOn.boot with image := [] } } 0x06, by decide +kernel⟩

theorem meets_PhasesFusesLocksAndReleases_1_1 : ∃ (s : State) (who : Initiator) (req : Nat), (stopped s = false) ∧
  (supervisorSends s who = true) ∧ (req < 8) ∧ ((s.rd BOOT_STATUS.phase = 1 ∧ req = 2) ∨ (s.rd BOOT_STATUS.phase = 2 ∧
  req = 3) ∨ (s.rd BOOT_STATUS.phase = 3 ∧ req = 2)) :=
  ⟨State.reset.wr BOOT_STATUS.phase 1, .steward 0, 2, by decide +kernel⟩

theorem meets_PhasesFusesLocksAndReleases_1_2 : ∃ (s : State) (who : Initiator) (req : Nat), (stopped s = false) ∧
  (supervisorSends s who = true) ∧ (req < 8) ∧ ((s.rd BOOT_STATUS.phase = 1 ∧ req = 2) ∨ (s.rd BOOT_STATUS.phase = 2 ∧
  req = 3) ∨ (s.rd BOOT_STATUS.phase = 3 ∧ req = 2)) :=
  ⟨State.reset.wr BOOT_STATUS.phase 2, .steward 0, 3, by decide +kernel⟩

theorem meets_PhasesFusesLocksAndReleases_1_3 : ∃ (s : State) (who : Initiator) (req : Nat), (stopped s = false) ∧
  (supervisorSends s who = true) ∧ (req < 8) ∧ ((s.rd BOOT_STATUS.phase = 1 ∧ req = 2) ∨ (s.rd BOOT_STATUS.phase = 2 ∧
  req = 3) ∨ (s.rd BOOT_STATUS.phase = 3 ∧ req = 2)) :=
  ⟨State.reset.wr BOOT_STATUS.phase 3, .steward 0, 2, by decide +kernel⟩

theorem meets_PhasesFusesLocksAndReleases_2 : ∃ (s : State) (who : Initiator) (_ : Nat), (stopped s = false) ∧
  (supervisorSends s who = false) :=
  ⟨State.reset, .host 0, 2, by decide +kernel⟩

theorem meets_PhasesFusesLocksAndReleases_3 : ∃ (s : State) (_ : Initiator) (_ : Nat), (stopped s = false) ∧ (s.rd
  BOOT_STATUS.phase = 0 ∨ s.rd BOOT_STATUS.phase = 4) :=
  ⟨State.reset, .steward 0, 2, by decide +kernel⟩

theorem meets_PhasesFusesLocksAndReleases_4_1 : ∃ (s : State) (who : Initiator) (v : Nat), (stopped s = false) ∧
  (supervisorSends s who = true) ∧ (s.rd BOOT_LOCK.fuse_lock = 0) ∧ (svnCount s.boot.svn < v) ∧ (v ≤ s.rd
  BOOT_STATUS.svn) ∧ (v ≤ 128) :=
  ⟨{ svc State.reset with boot := { svn := 5 } }, .steward 0, 7, by decide +kernel⟩

theorem meets_PhasesFusesLocksAndReleases_4_2 : ∃ (s : State) (who : Initiator) (v : Nat), (stopped s = false) ∧
  (supervisorSends s who = true) ∧ (s.rd BOOT_LOCK.fuse_lock = 0) ∧ (svnCount s.boot.svn < v) ∧ (v ≤ s.rd
  BOOT_STATUS.svn) ∧ (v ≤ 128) :=
  ⟨(svc State.reset).wr BOOT_STATUS.svn 200, .steward 0, 128, by decide +kernel⟩

theorem meets_PhasesFusesLocksAndReleases_5 : ∃ (s : State) (who : Initiator) (k : Nat), (stopped s = false) ∧
  (supervisorSends s who = true) ∧ (s.rd BOOT_LOCK.fuse_lock = 0) ∧ (k < 4) ∧ (s.boot.revoked.testBit k = false) ∧
  (((List.range 4).all fun j => j = k || !keyUsable s j) = false) :=
  ⟨{ State.reset with boot := { hashes := [(0, 1), (3, 4)] } }, .steward 0, 3, by decide +kernel⟩

theorem meets_PhasesFusesLocksAndReleases_6 : ∃ (s : State) (who : Initiator) (k : Nat), (stopped s = false) ∧
  (supervisorSends s who = true) ∧ (s.rd BOOT_LOCK.fuse_lock = 0) ∧ (k < 4) ∧ (((List.range 4).all fun j => j = k ||
  !keyUsable s j) = true) :=
  ⟨State.reset, .steward 0, 0, by decide +kernel⟩

theorem meets_PhasesFusesLocksAndReleases_7 : ∃ (s : State) (who : Initiator) (k : Nat), (stopped s = false) ∧
  (supervisorSends s who = true) ∧ (s.rd BOOT_LOCK.fuse_lock = 0) ∧ (k < 4) ∧ (rootHash s k = 0) ∧ (s.rd
  BOOT_FDATA.hash ≠ 0) :=
  ⟨State.reset.wr BOOT_FDATA.hash 77, .steward 0, 3, by decide +kernel⟩

theorem meets_PhasesFusesLocksAndReleases_8 : ∃ (s : State) (who : Initiator) (v : Nat), (stopped s = false) ∧
  (supervisorSends s who = true) ∧ (s.rd BOOT_LOCK.fuse_lock = 0) ∧ (s.boot.flags ||| v % 8 ≠ s.boot.flags) :=
  ⟨State.reset, .steward 0, 4, by decide +kernel⟩

theorem meets_PhasesFusesLocksAndReleases_9 : ∃ (s : State) (who : Initiator) (v k : Nat) (c : Instr), (stopped s =
  false) ∧ (supervisorSends s who = true) ∧ (s.rd BOOT_LOCK.fuse_lock = 1) ∧ (c = .svnAdvance who v true ∨ c = .revoke
  who k true ∨ c = .programHash who k true ∨ c = .setFlag who v true) :=
  ⟨State.reset.wr BOOT_LOCK.fuse_lock 1, .steward 0, 3, 2, .revoke (.steward 0) 2 true, by decide +kernel⟩

theorem meets_PhasesFusesLocksAndReleases_10 : ∃ (s : State) (who : Initiator) (_ : Nat), (stopped s = false) ∧
  (writable who BOOT_LOCK.uds_lock 0 s = true) :=
  ⟨State.reset.wr BOOT_LOCK.seal_lock 1, .host 0, 0x104, by decide +kernel⟩

theorem meets_PhasesFusesLocksAndReleases_11 : ∃ (s : State) (who : Initiator) (m : Nat), (stopped s = false) ∧
  (writable who BOOT_MEAS_CMD.index 0 s = true) ∧ (m < 8) ∧ ((s.rd BOOT_LOCK.meas_lock).testBit m = false) :=
  ⟨State.reset, .steward 0, 7, by decide +kernel⟩

theorem meets_PhasesFusesLocksAndReleases_12 : ∃ (s : State) (who : Initiator) (m : Nat), (stopped s = false) ∧
  (writable who BOOT_MEAS_CMD.index 0 s = true) ∧ (m < 8) ∧ ((s.rd BOOT_LOCK.meas_lock).testBit m = true) :=
  ⟨State.reset.wr BOOT_LOCK.meas_lock 8, .steward 0, 3, by decide +kernel⟩

theorem meets_PhasesFusesLocksAndReleases_13 : ∃ (s : State) (who : Initiator), (stopped s = false) ∧ (writable who
  BOOT_CTL.phase_req 0 s = true) ∧ (1 ≤ s.rd BOOT_STATUS.phase) ∧ (s.rd BOOT_STATUS.phase ≤ 3) :=
  ⟨State.reset.wr BOOT_STATUS.phase 2, .host 0, by decide +kernel⟩

theorem meets_PhasesFusesLocksAndReleases_14_1 : ∃ (s : State) (_ k : Nat), (stopped s = false) ∧ (1 ≤ k) ∧ (k ≤ 3) ∧
  (1 ≤ s.rd BOOT_STATUS.phase) ∧ (s.rd BOOT_STATUS.phase ≤ 3) ∧ ((s.rd BOOT_RELEASE.release).testBit k = false) ∧
  (s.rd BOOT_VEC.pc k % 4 = 0) ∧ (memExists s (s.rd BOOT_VEC.pc k) = true) :=
  ⟨withRegs State.reset [(BOOT_STATUS.phase, 0, 1), (BOOT_VEC.pc, 2, stewardMemLo)], 0, 2, by decide +kernel⟩

theorem meets_PhasesFusesLocksAndReleases_14_2 : ∃ (s : State) (_ k : Nat), (stopped s = false) ∧ (1 ≤ k) ∧ (k ≤ 3) ∧
  (1 ≤ s.rd BOOT_STATUS.phase) ∧ (s.rd BOOT_STATUS.phase ≤ 3) ∧ ((s.rd BOOT_RELEASE.release).testBit k = false) ∧
  (s.rd BOOT_VEC.pc k % 4 = 0) ∧ (memExists s (s.rd BOOT_VEC.pc k) = true) :=
  ⟨withRegs State.reset [(BOOT_STATUS.phase, 0, 3), (BOOT_VEC.pc, 1, stewardMemLo)], 0, 1, by decide +kernel⟩

theorem meets_PhasesFusesLocksAndReleases_15 : ∃ (s : State) (_ k : Nat), (stopped s = false) ∧ (1 ≤ k) ∧ (k ≤ 3) ∧ (1
  ≤ s.rd BOOT_STATUS.phase) ∧ (s.rd BOOT_STATUS.phase ≤ 3) ∧ ((s.rd BOOT_RELEASE.release).testBit k = false) ∧ (s.rd
  BOOT_VEC.pc k % 4 ≠ 0 ∨ memExists s (s.rd BOOT_VEC.pc k) = false) :=
  ⟨withRegs State.reset [(BOOT_STATUS.phase, 0, 1), (BOOT_VEC.pc, 2, 6)], 0, 2, by decide +kernel⟩

theorem meets_PhasesFusesLocksAndReleases_16 : ∃ (s : State) (who : Initiator) (req : Nat), (stopped s = false) ∧
  (supervisorSends s who = true) ∧ ((s.rd BOOT_STATUS.phase = 1 ∧ req % 8 = 2) ∨ (s.rd BOOT_STATUS.phase = 2 ∧ req % 8
  = 3) ∨ (s.rd BOOT_STATUS.phase = 3 ∧ req % 8 = 2)) :=
  ⟨State.reset.wr BOOT_STATUS.phase 1, .steward 0, 2, by decide +kernel⟩

theorem meets_PhasesFusesLocksAndReleases_17 : ∃ (s u : State) (who : Initiator) (v : Nat) (_ : Bool), (stopped s =
  false) ∧ (supervisorSends s who = true) ∧ (s.rd BOOT_LOCK.fuse_lock = 0) ∧ (u = ((s.wr BOOT_FCMD.action 0).wr
  BOOT_FCMD.key (s.rd BOOT_FCMD.key)).wr BOOT_FCMD.value v) ∧ (s.rd BOOT_STATUS.svn < v % 256 ∨ v % 256 < svnCount
  s.boot.svn) :=
  ⟨State.reset, (((State.reset).wr BOOT_FCMD.action 0).wr BOOT_FCMD.key ((State.reset).rd BOOT_FCMD.key)).wr BOOT_FCMD.value 7, .steward 0, 7, true, by decide +kernel⟩

theorem meets_PhasesFusesLocksAndReleases_18 : ∃ (s u : State) (who : Initiator) (v : Nat) (_ : Bool), (stopped s =
  false) ∧ (supervisorSends s who = true) ∧ (s.rd BOOT_LOCK.fuse_lock = 0) ∧ (u = ((s.wr BOOT_FCMD.action 0).wr
  BOOT_FCMD.key (s.rd BOOT_FCMD.key)).wr BOOT_FCMD.value v) ∧ (v % 256 ≤ s.rd BOOT_STATUS.svn) ∧ (v % 256 = svnCount
  s.boot.svn) :=
  ⟨State.reset, (((State.reset).wr BOOT_FCMD.action 0).wr BOOT_FCMD.key ((State.reset).rd BOOT_FCMD.key)).wr BOOT_FCMD.value 0, .steward 0, 0, true, by decide +kernel⟩

theorem meets_PhasesFusesLocksAndReleases_19 : ∃ (s u : State) (who : Initiator) (v : Nat) (vpp : Bool), (stopped s =
  false) ∧ (supervisorSends s who = true) ∧ (s.rd BOOT_LOCK.fuse_lock = 0) ∧ (u = ((s.wr BOOT_FCMD.action 0).wr
  BOOT_FCMD.key (s.rd BOOT_FCMD.key)).wr BOOT_FCMD.value v) ∧ (v % 256 ≤ s.rd BOOT_STATUS.svn) ∧ (svnCount s.boot.svn
  < v % 256) ∧ (vpp = true) ∧ (v % 256 ≤ 128) :=
  ⟨svc State.reset, (((svc State.reset).wr BOOT_FCMD.action 0).wr BOOT_FCMD.key ((svc State.reset).rd BOOT_FCMD.key)).wr BOOT_FCMD.value 7, .steward 0, 7, true, by decide +kernel⟩

theorem meets_PhasesFusesLocksAndReleases_20 : ∃ (s u : State) (who : Initiator) (v : Nat) (vpp : Bool), (stopped s =
  false) ∧ (supervisorSends s who = true) ∧ (s.rd BOOT_LOCK.fuse_lock = 0) ∧ (u = ((s.wr BOOT_FCMD.action 0).wr
  BOOT_FCMD.key (s.rd BOOT_FCMD.key)).wr BOOT_FCMD.value v) ∧ (v % 256 ≤ s.rd BOOT_STATUS.svn) ∧ (svnCount s.boot.svn
  < v % 256) ∧ (vpp = false ∨ 128 < v % 256) :=
  ⟨svc State.reset, (((svc State.reset).wr BOOT_FCMD.action 0).wr BOOT_FCMD.key ((svc State.reset).rd BOOT_FCMD.key)).wr BOOT_FCMD.value 7, .steward 0, 7, false, by decide +kernel⟩

theorem meets_PhasesFusesLocksAndReleases_21 : ∃ (s u : State) (who : Initiator) (v : Nat) (_ : Bool), (stopped s =
  false) ∧ (supervisorSends s who = true) ∧ (s.rd BOOT_LOCK.fuse_lock = 0) ∧ (u = ((s.wr BOOT_FCMD.action 1).wr
  BOOT_FCMD.key v).wr BOOT_FCMD.value (s.rd BOOT_FCMD.value)) ∧ (((List.range 4).all fun j => j = v % 4 || !keyUsable
  s j) = true) :=
  ⟨State.reset, (((State.reset).wr BOOT_FCMD.action 1).wr BOOT_FCMD.key 0).wr BOOT_FCMD.value ((State.reset).rd BOOT_FCMD.value), .steward 0, 0, true, by decide +kernel⟩

theorem meets_PhasesFusesLocksAndReleases_22 : ∃ (s u : State) (who : Initiator) (v : Nat) (_ : Bool), (stopped s =
  false) ∧ (supervisorSends s who = true) ∧ (s.rd BOOT_LOCK.fuse_lock = 0) ∧ (u = ((s.wr BOOT_FCMD.action 1).wr
  BOOT_FCMD.key v).wr BOOT_FCMD.value (s.rd BOOT_FCMD.value)) ∧ (((List.range 4).all fun j => j = v % 4 || !keyUsable
  s j) = false) ∧ (s.boot.revoked.testBit (v % 4) = true) :=
  ⟨{ State.reset with boot := { hashes := [(0, 1), (3, 4)], revoked := 2 } }, ((({ State.reset with boot := { hashes := [(0, 1), (3, 4)], revoked := 2 } }).wr BOOT_FCMD.action 1).wr BOOT_FCMD.key 1).wr BOOT_FCMD.value (({ State.reset with boot := { hashes := [(0, 1), (3, 4)], revoked := 2 } }).rd BOOT_FCMD.value), .steward 0, 1, true, by decide +kernel⟩

theorem meets_PhasesFusesLocksAndReleases_23 : ∃ (s u : State) (who : Initiator) (v : Nat) (vpp : Bool), (stopped s =
  false) ∧ (supervisorSends s who = true) ∧ (s.rd BOOT_LOCK.fuse_lock = 0) ∧ (u = ((s.wr BOOT_FCMD.action 1).wr
  BOOT_FCMD.key v).wr BOOT_FCMD.value (s.rd BOOT_FCMD.value)) ∧ (((List.range 4).all fun j => j = v % 4 || !keyUsable
  s j) = false) ∧ (s.boot.revoked.testBit (v % 4) = false) ∧ (vpp = true) :=
  ⟨{ State.reset with boot := { hashes := [(0, 1), (3, 4)] } }, ((({ State.reset with boot := { hashes := [(0, 1), (3, 4)] } }).wr BOOT_FCMD.action 1).wr BOOT_FCMD.key 3).wr BOOT_FCMD.value (({ State.reset with boot := { hashes := [(0, 1), (3, 4)] } }).rd BOOT_FCMD.value), .steward 0, 3, true, by decide +kernel⟩

theorem meets_PhasesFusesLocksAndReleases_24 : ∃ (s u : State) (who : Initiator) (v : Nat) (vpp : Bool), (stopped s =
  false) ∧ (supervisorSends s who = true) ∧ (s.rd BOOT_LOCK.fuse_lock = 0) ∧ (u = ((s.wr BOOT_FCMD.action 1).wr
  BOOT_FCMD.key v).wr BOOT_FCMD.value (s.rd BOOT_FCMD.value)) ∧ (((List.range 4).all fun j => j = v % 4 || !keyUsable
  s j) = false) ∧ (s.boot.revoked.testBit (v % 4) = false) ∧ (vpp = false) :=
  ⟨{ State.reset with boot := { hashes := [(0, 1), (3, 4)] } }, ((({ State.reset with boot := { hashes := [(0, 1), (3, 4)] } }).wr BOOT_FCMD.action 1).wr BOOT_FCMD.key 3).wr BOOT_FCMD.value (({ State.reset with boot := { hashes := [(0, 1), (3, 4)] } }).rd BOOT_FCMD.value), .steward 0, 3, false, by decide +kernel⟩

theorem meets_PhasesFusesLocksAndReleases_25 : ∃ (s u : State) (who : Initiator) (v : Nat) (_ : Bool), (stopped s =
  false) ∧ (supervisorSends s who = true) ∧ (s.rd BOOT_LOCK.fuse_lock = 0) ∧ (u = ((s.wr BOOT_FCMD.action 2).wr
  BOOT_FCMD.key v).wr BOOT_FCMD.value (s.rd BOOT_FCMD.value)) ∧ (rootHash s (v % 4) ≠ 0) :=
  ⟨{ State.reset with boot := { hashes := [(0, 1), (3, 4)] } }, ((({ State.reset with boot := { hashes := [(0, 1), (3, 4)] } }).wr BOOT_FCMD.action 2).wr BOOT_FCMD.key 3).wr BOOT_FCMD.value (({ State.reset with boot := { hashes := [(0, 1), (3, 4)] } }).rd BOOT_FCMD.value), .steward 0, 3, true, by decide +kernel⟩

theorem meets_PhasesFusesLocksAndReleases_26 : ∃ (s u : State) (who : Initiator) (v : Nat) (_ : Bool), (stopped s =
  false) ∧ (supervisorSends s who = true) ∧ (s.rd BOOT_LOCK.fuse_lock = 0) ∧ (u = ((s.wr BOOT_FCMD.action 2).wr
  BOOT_FCMD.key v).wr BOOT_FCMD.value (s.rd BOOT_FCMD.value)) ∧ (rootHash s (v % 4) = 0) ∧ (s.rd BOOT_FDATA.hash = 0)
  :=
  ⟨{ State.reset with boot := { hashes := [(0, 1), (3, 4)] } }, ((({ State.reset with boot := { hashes := [(0, 1), (3, 4)] } }).wr BOOT_FCMD.action 2).wr BOOT_FCMD.key 1).wr BOOT_FCMD.value (({ State.reset with boot := { hashes := [(0, 1), (3, 4)] } }).rd BOOT_FCMD.value), .steward 0, 1, true, by decide +kernel⟩

theorem meets_PhasesFusesLocksAndReleases_27 : ∃ (s u : State) (who : Initiator) (v : Nat) (vpp : Bool), (stopped s =
  false) ∧ (supervisorSends s who = true) ∧ (s.rd BOOT_LOCK.fuse_lock = 0) ∧ (u = ((s.wr BOOT_FCMD.action 2).wr
  BOOT_FCMD.key v).wr BOOT_FCMD.value (s.rd BOOT_FCMD.value)) ∧ (rootHash s (v % 4) = 0) ∧ (s.rd BOOT_FDATA.hash ≠ 0)
  ∧ (vpp = true) :=
  ⟨State.reset.wr BOOT_FDATA.hash 77, (((State.reset.wr BOOT_FDATA.hash 77).wr BOOT_FCMD.action 2).wr BOOT_FCMD.key 3).wr BOOT_FCMD.value ((State.reset.wr BOOT_FDATA.hash 77).rd BOOT_FCMD.value), .steward 0, 3, true, by decide +kernel⟩

theorem meets_PhasesFusesLocksAndReleases_28 : ∃ (s u : State) (who : Initiator) (v : Nat) (vpp : Bool), (stopped s =
  false) ∧ (supervisorSends s who = true) ∧ (s.rd BOOT_LOCK.fuse_lock = 0) ∧ (u = ((s.wr BOOT_FCMD.action 2).wr
  BOOT_FCMD.key v).wr BOOT_FCMD.value (s.rd BOOT_FCMD.value)) ∧ (rootHash s (v % 4) = 0) ∧ (s.rd BOOT_FDATA.hash ≠ 0)
  ∧ (vpp = false) :=
  ⟨State.reset.wr BOOT_FDATA.hash 77, (((State.reset.wr BOOT_FDATA.hash 77).wr BOOT_FCMD.action 2).wr BOOT_FCMD.key 3).wr BOOT_FCMD.value ((State.reset.wr BOOT_FDATA.hash 77).rd BOOT_FCMD.value), .steward 0, 3, false, by decide +kernel⟩

theorem meets_PhasesFusesLocksAndReleases_29 : ∃ (s u : State) (who : Initiator) (v : Nat) (_ : Bool), (stopped s =
  false) ∧ (supervisorSends s who = true) ∧ (s.rd BOOT_LOCK.fuse_lock = 0) ∧ (u = ((s.wr BOOT_FCMD.action 3).wr
  BOOT_FCMD.key (s.rd BOOT_FCMD.key)).wr BOOT_FCMD.value v) ∧ (s.boot.flags ||| (v % 8) = s.boot.flags) :=
  ⟨State.reset, (((State.reset).wr BOOT_FCMD.action 3).wr BOOT_FCMD.key ((State.reset).rd BOOT_FCMD.key)).wr BOOT_FCMD.value 0, .steward 0, 0, true, by decide +kernel⟩

theorem meets_PhasesFusesLocksAndReleases_30 : ∃ (s u : State) (who : Initiator) (v : Nat) (vpp : Bool), (stopped s =
  false) ∧ (supervisorSends s who = true) ∧ (s.rd BOOT_LOCK.fuse_lock = 0) ∧ (u = ((s.wr BOOT_FCMD.action 3).wr
  BOOT_FCMD.key (s.rd BOOT_FCMD.key)).wr BOOT_FCMD.value v) ∧ (s.boot.flags ||| (v % 8) ≠ s.boot.flags) ∧ (vpp = true)
  :=
  ⟨State.reset, (((State.reset).wr BOOT_FCMD.action 3).wr BOOT_FCMD.key ((State.reset).rd BOOT_FCMD.key)).wr BOOT_FCMD.value 4, .steward 0, 4, true, by decide +kernel⟩

theorem meets_PhasesFusesLocksAndReleases_31 : ∃ (s u : State) (who : Initiator) (v : Nat) (vpp : Bool), (stopped s =
  false) ∧ (supervisorSends s who = true) ∧ (s.rd BOOT_LOCK.fuse_lock = 0) ∧ (u = ((s.wr BOOT_FCMD.action 3).wr
  BOOT_FCMD.key (s.rd BOOT_FCMD.key)).wr BOOT_FCMD.value v) ∧ (s.boot.flags ||| (v % 8) ≠ s.boot.flags) ∧ (vpp =
  false) :=
  ⟨State.reset, (((State.reset).wr BOOT_FCMD.action 3).wr BOOT_FCMD.key ((State.reset).rd BOOT_FCMD.key)).wr BOOT_FCMD.value 4, .steward 0, 4, false, by decide +kernel⟩

theorem meets_PhasesFusesLocksAndReleases_32 : ∃ (s : State) (who : Initiator) (_ : Nat), (stopped s = false) ∧
  (writable who BOOT_LOCK.uds_lock 0 s = true) :=
  ⟨State.reset.wr BOOT_LOCK.seal_lock 1, .host 0, 0x104, by decide +kernel⟩

theorem meets_PhasesFusesLocksAndReleases_33 : ∃ (s : State) (_ _ : Nat), (stopped s = false) :=
  ⟨withRegs State.reset [(BOOT_STATUS.phase, 0, 1), (BOOT_VEC.pc, 2, stewardMemLo)], 0, 2, by decide +kernel⟩

theorem meets_MaintenanceActivities_1_1 : ∃ (s : State) (who : Initiator) (a : Nat), (stopped s = false) ∧ (writable
  who MNT_START.start 0 s = true) ∧ (1 ≤ a) ∧ (a ≤ 7) ∧ (actAllowed s a (s.rd MNT_ACT.arg a) = true) ∧ (conflictsNow s
  a = []) ∧ (s.rd MNT_ACT.state a ≠ actPaused) :=
  ⟨State.reset, .host 0, 1, by decide +kernel⟩

theorem meets_MaintenanceActivities_1_2 : ∃ (s : State) (who : Initiator) (a : Nat), (stopped s = false) ∧ (writable
  who MNT_START.start 0 s = true) ∧ (1 ≤ a) ∧ (a ≤ 7) ∧ (actAllowed s a (s.rd MNT_ACT.arg a) = true) ∧ (conflictsNow s
  a = []) ∧ (s.rd MNT_ACT.state a ≠ actPaused) :=
  ⟨State.reset, .steward 1, 7, by decide +kernel⟩

theorem meets_MaintenanceActivities_1_3 : ∃ (s : State) (who : Initiator) (a : Nat), (stopped s = false) ∧ (writable
  who MNT_START.start 0 s = true) ∧ (1 ≤ a) ∧ (a ≤ 7) ∧ (actAllowed s a (s.rd MNT_ACT.arg a) = true) ∧ (conflictsNow s
  a = []) ∧ (s.rd MNT_ACT.state a ≠ actPaused) :=
  ⟨State.reset, .host 0, 6, by decide +kernel⟩

theorem meets_MaintenanceActivities_2 : ∃ (s : State) (who : Initiator) (a : Nat), (stopped s = false) ∧ (writable who
  MNT_START.start 0 s = true) ∧ (1 ≤ a) ∧ (a ≤ 7) ∧ (actAllowed s a (s.rd MNT_ACT.arg a) = true) ∧ (conflictsNow s a ≠
  []) :=
  ⟨withRegs (State.reset) [(MNT_ACT.state, 2, 1)], .host 0, 1, by decide +kernel⟩

theorem meets_MaintenanceActivities_3 : ∃ (s : State) (who : Initiator) (a : Nat), (stopped s = false) ∧ (writable who
  MNT_START.start 0 s = true) ∧ (1 ≤ a) ∧ (a ≤ 7) ∧ (actAllowed s a (s.rd MNT_ACT.arg a) = false) :=
  ⟨State.reset, .host 0, 5, by decide +kernel⟩

theorem meets_MaintenanceActivities_4 : ∃ (s : State) (who : Initiator) (a : Nat), (stopped s = false) ∧ (writable who
  MNT_STOP.stop 0 s = true) ∧ (1 ≤ a) ∧ (a ≤ 7) ∧ (s.rd MNT_ACT.state a ≠ 0) ∧ (s.mnt.stopReq.contains a = false) :=
  ⟨withRegs (State.reset) [(MNT_ACT.state, 2, 1)], .host 0, 2, by decide +kernel⟩

theorem meets_MaintenanceActivities_5 : ∃ (s : State) (who : Initiator) (a : Nat), (stopped s = false) ∧ (writable who
  MNT_STOP.stop 0 s = true) ∧ (1 ≤ a) ∧ (a ≤ 7) ∧ (s.rd MNT_ACT.state a = 0) :=
  ⟨State.reset, .host 0, 2, by decide +kernel⟩

theorem meets_MaintenanceActivities_6 : ∃ (s : State) (a : Nat), (stopped s = false) ∧ (1 ≤ a) ∧ (a ≤ 7) ∧ (autoDue s
  a = true) ∧ (actAllowed s a (s.rd MNT_ACT.arg a) = true) ∧ (conflictsNow s a = []) :=
  ⟨{ State.reset with tt := { tt := 86400000000000 } }, 1, by decide +kernel⟩

theorem meets_MaintenanceActivities_7 : ∃ (s : State) (a b : Nat), (stopped s = false) ∧ (1 ≤ a) ∧ (a ≤ 7) ∧ (autoDue
  s a = true) ∧ (actAllowed s a (s.rd MNT_ACT.arg a) = true) ∧ (conflictsNow s a = [b]) ∧ (b ≠ 1) :=
  ⟨{ withRegs (State.reset) [(MNT_ACT.state, 4, 1)] with tt := { tt := 86400000000000 } }, 2, 4, by decide +kernel⟩

theorem meets_MaintenanceActivities_8 : ∃ (s : State) (a : Nat), (stopped s = false) ∧ (1 ≤ a) ∧ (a ≤ 7) ∧ (autoDue s
  a = true) ∧ (actAllowed s a (s.rd MNT_ACT.arg a) = true) ∧ (conflictsNow s a = [1]) ∧ (s.mnt.stopReq = []) :=
  ⟨{ withRegs (State.reset) [(MNT_ACT.state, 1, 1)] with tt := { tt := 86400000000000 } }, 2, by decide +kernel⟩

theorem meets_MaintenanceActivities_9_1 : ∃ (s : State) (a _ : Nat), (stopped s = false) ∧ (1 ≤ a) ∧ (a ≤ 7) ∧ (s.rd
  MNT_ACT.state a = actRunning) ∧ (s.mnt.stopReq.contains a = false) ∧ (actOver s a = true) ∧ ((activities.all fun b
  => b = a || actState s b = 0) = true) :=
  ⟨withRegs (State.reset) [(MNT_ACT.state, 4, 1)], 4, 7, by decide +kernel⟩

theorem meets_MaintenanceActivities_9_2 : ∃ (s : State) (a _ : Nat), (stopped s = false) ∧ (1 ≤ a) ∧ (a ≤ 7) ∧ (s.rd
  MNT_ACT.state a = actRunning) ∧ (s.mnt.stopReq.contains a = false) ∧ (actOver s a = true) ∧ ((activities.all fun b
  => b = a || actState s b = 0) = true) :=
  ⟨withRegs (State.reset) [(MNT_ACT.state, 5, 1)], 5, 7, by decide +kernel⟩

theorem meets_MaintenanceActivities_9_3 : ∃ (s : State) (a _ : Nat), (stopped s = false) ∧ (1 ≤ a) ∧ (a ≤ 7) ∧ (s.rd
  MNT_ACT.state a = actRunning) ∧ (s.mnt.stopReq.contains a = false) ∧ (actOver s a = true) ∧ ((activities.all fun b
  => b = a || actState s b = 0) = true) :=
  ⟨(let s := withRegs (State.reset) [(MNT_ACT.state, 2, 1), (MNT_ACT.fail_code, 2, 3)]; { s with mnt := { s.mnt with retrain := [(0, 64), (1, 64), (2, 64), (3, 64), (4, 64), (5, 64), (6, 64), (7, 64), (8, 64), (9, 64), (10, 64), (11, 64)] } }), 2, 0, by decide +kernel⟩

theorem meets_MaintenanceActivities_9_4 : ∃ (s : State) (a _ : Nat), (stopped s = false) ∧ (1 ≤ a) ∧ (a ≤ 7) ∧ (s.rd
  MNT_ACT.state a = actRunning) ∧ (s.mnt.stopReq.contains a = false) ∧ (actOver s a = true) ∧ ((activities.all fun b
  => b = a || actState s b = 0) = true) :=
  ⟨(let s := withRegs (State.reset) [(MNT_ACT.state, 6, 1)]; { s with mnt := { s.mnt with applied := 3 } }), 6, 0, by decide +kernel⟩

theorem meets_MaintenanceActivities_10 : ∃ (s : State) (a _ : Nat), (stopped s = false) ∧ (1 ≤ a) ∧ (a ≤ 7) ∧ (s.rd
  MNT_ACT.state a ≠ 0) ∧ (s.mnt.stopReq = [a]) ∧ ((activities.all fun b => b = a || actState s b = 0) = true) :=
  ⟨(let s := withRegs (State.reset) [(MNT_ACT.state, 2, 1)]; { s with mnt := { s.mnt with stopReq := [2] } }), 2, 0, by decide +kernel⟩

theorem meets_MaintenanceActivities_11 : ∃ (s : State) (line : Nat), (stopped s = false) ∧ (s.rd MNT_ACT.state 1 =
  actRunning) ∧ (s.mnt.stopReq.contains 1 = false) ∧ (memExists s (line * 64) = true) ∧ (line * 64 < g6Base) ∧
  (s.poison.contains line = false) :=
  ⟨withRegs (State.reset) [(MNT_ACT.state, 1, 1)], stewardMemLo / 64, by decide +kernel⟩

theorem meets_MaintenanceActivities_12 : ∃ (s : State) (line : Nat), (stopped s = false) ∧ (s.rd MNT_ACT.state 1 =
  actRunning) ∧ (s.mnt.stopReq.contains 1 = false) ∧ (stewardMemLo ≤ line * 64) ∧ (line * 64 + 64 ≤ stewardMemHi) ∧
  (bucketOfLine s (line * 64) = none) ∧ (s.mnt.log.length < 64) :=
  ⟨withRegs (State.reset) [(MNT_ACT.state, 1, 1)], stewardMemLo / 64 + 5, by decide +kernel⟩

theorem meets_MaintenanceActivities_13 : ∃ (s : State) (who : Initiator) (x y : Nat), (stopped s = false) ∧ (reaches
  who Blk.mnt.base = true) ∧ (s.mnt.log = [x, y]) :=
  ⟨(let s := State.reset; { s with mnt := { s.mnt with log := [64, 128] } }), .host 0, 64, 128, by decide +kernel⟩

theorem meets_MaintenanceActivities_14_1 : ∃ (s : State) (d : Nat), (stopped s = false) ∧ (s.rd MNT_ACT.state 2 =
  actRunning) ∧ (s.mnt.stopReq.contains 2 = false) ∧ (s.hif.d3AllG6 = false) ∧ (d < 12) ∧ ((retrainMask s).testBit d =
  true) ∧ (Map.get s.mnt.retrain d < retrainSteps) :=
  ⟨withRegs (State.reset) [(MNT_ACT.state, 2, 1)], 11, by decide +kernel⟩

theorem meets_MaintenanceActivities_14_2 : ∃ (s : State) (d : Nat), (stopped s = false) ∧ (s.rd MNT_ACT.state 2 =
  actRunning) ∧ (s.mnt.stopReq.contains 2 = false) ∧ (s.hif.d3AllG6 = false) ∧ (d < 12) ∧ ((retrainMask s).testBit d =
  true) ∧ (Map.get s.mnt.retrain d < retrainSteps) :=
  ⟨withRegs (State.reset) [(MNT_ACT.state, 2, 1)], 0, by decide +kernel⟩

theorem meets_MaintenanceActivities_15_1 : ∃ (s : State) (d : Nat), (stopped s = false) ∧ (s.rd MNT_ACT.state 2 =
  actRunning) ∧ (s.mnt.stopReq.contains 2 = false) ∧ (s.hif.d3AllG6 = false) ∧ (d < 12) ∧ ((retrainMask s).testBit d =
  true) ∧ (Map.get s.mnt.retrain d < retrainSteps) :=
  ⟨withRegs (State.reset) [(MNT_ACT.state, 2, 1)], 11, by decide +kernel⟩

theorem meets_MaintenanceActivities_15_2 : ∃ (s : State) (d : Nat), (stopped s = false) ∧ (s.rd MNT_ACT.state 2 =
  actRunning) ∧ (s.mnt.stopReq.contains 2 = false) ∧ (s.hif.d3AllG6 = false) ∧ (d < 12) ∧ ((retrainMask s).testBit d =
  true) ∧ (Map.get s.mnt.retrain d < retrainSteps) :=
  ⟨withRegs (State.reset) [(MNT_ACT.state, 2, 1)], 0, by decide +kernel⟩

theorem meets_MaintenanceActivities_16 : ∃ (s : State) (d : Nat) (_ : Bool), (stopped s = false) ∧ (s.rd MNT_ACT.state
  2 = actRunning) ∧ (s.mnt.stopReq.contains 2 = false) ∧ (s.hif.d3AllG6 = false) ∧ (d < 12) ∧ ((retrainMask s).testBit
  d = true) ∧ (retrainSteps ≤ Map.get s.mnt.retrain d) :=
  ⟨(let s := withRegs (State.reset) [(MNT_ACT.state, 2, 1)]; { s with mnt := { s.mnt with retrain := [(0, 64), (1, 64), (2, 64), (3, 64), (4, 64), (5, 64), (6, 64), (7, 64), (8, 64), (9, 64), (10, 64), (11, 64)] } }), 3, true, by decide +kernel⟩

theorem meets_MaintenanceActivities_17_1 : ∃ (s : State) (a _ : Nat), (stopped s = false) ∧ (a ∈ activities) ∧ (s.rd
  MNT_ACT.state a = actRunning) ∧ (s.mnt.stopReq.contains a = false) ∧ (actOver s a = true) :=
  ⟨withRegs (State.reset) [(MNT_ACT.state, 4, 1)], 4, 7, by decide +kernel⟩

theorem meets_MaintenanceActivities_17_2 : ∃ (s : State) (a _ : Nat), (stopped s = false) ∧ (a ∈ activities) ∧ (s.rd
  MNT_ACT.state a = actRunning) ∧ (s.mnt.stopReq.contains a = false) ∧ (actOver s a = true) :=
  ⟨withRegs (State.reset) [(MNT_ACT.state, 3, 1)], 3, 7, by decide +kernel⟩

theorem meets_MaintenanceActivities_18 : ∃ (s : State) (a _ : Nat), (stopped s = false) ∧ (a ∈ activities) ∧ (s.rd
  MNT_ACT.state a ≠ actIdle) ∧ (s.mnt.stopReq.contains a = true) :=
  ⟨(let s := withRegs (State.reset) [(MNT_ACT.state, 2, 1)]; { s with mnt := { s.mnt with stopReq := [2] } }), 2, 0, by decide +kernel⟩

theorem meets_MaintenanceActivities_19_1 : ∃ (s : State) (a _ : Nat), (stopped s = false) ∧ (a ∈ activities) ∧ (s.rd
  MNT_ACT.state a = actRunning) ∧ (s.mnt.stopReq.contains a = false) ∧ (actOver s a = false) :=
  ⟨withRegs (State.reset) [(MNT_ACT.state, 1, 1)], 1, 0, by decide +kernel⟩

theorem meets_MaintenanceActivities_19_2 : ∃ (s : State) (a _ : Nat), (stopped s = false) ∧ (a ∈ activities) ∧ (s.rd
  MNT_ACT.state a = actRunning) ∧ (s.mnt.stopReq.contains a = false) ∧ (actOver s a = false) :=
  ⟨withRegs (State.reset) [(MNT_ACT.state, 2, 1)], 2, 0, by decide +kernel⟩

theorem meets_MaintenanceActivities_20 : ∃ (s : State) (line : Nat), (stopped s = false) ∧ (s.rd MNT_ACT.state 1 =
  actRunning) ∧ (s.mnt.stopReq.contains 1 = false) ∧ (memExists s (line * 64) = true) ∧ (line * 64 < g6Base) ∧
  (s.poison.contains line = false) :=
  ⟨withRegs (State.reset) [(MNT_ACT.state, 1, 1)], stewardMemLo / 64, by decide +kernel⟩

theorem meets_MaintenanceActivities_21 : ∃ (s : State) (line : Nat), (stopped s = false) ∧ (s.rd MNT_ACT.state 1 =
  actRunning) ∧ (s.mnt.stopReq.contains 1 = false) ∧ (memExists s (line * 64) = true) ∧ (g6Base ≤ line * 64) ∧
  (s.hif.d3AllG6 = false) ∧ (s.poison.contains line = false) :=
  ⟨withRegs (State.reset) [(MNT_ACT.state, 1, 1)], g6Base / 64 + 7, by decide +kernel⟩

theorem meets_MaintenanceActivities_22 : ∃ (s : State) (line : Nat) (_ _ : Bool), (stopped s = false) ∧ (s.rd
  MNT_ACT.state 1 = actRunning) ∧ (s.mnt.stopReq.contains 1 = false) ∧ (memExists s (line * 64) = true) ∧ (g6Base ≤
  line * 64) ∧ (s.hif.d3AllG6 = true) :=
  ⟨{ withRegs (State.reset) [(MNT_ACT.state, 1, 1)] with hif := { d3AllG6 := true } }, g6Base / 64 + 7, true, false, by decide +kernel⟩

theorem meets_MaintenanceActivities_23 : ∃ (s : State) (line : Nat), (stopped s = false) ∧ (s.rd MNT_ACT.state 1 =
  actRunning) ∧ (s.mnt.stopReq.contains 1 = false) ∧ (memExists s (line * 64) = true) ∧ (stewardMemLo ≤ line * 64) ∧
  (line * 64 + 64 ≤ stewardMemHi) ∧ (bucketOfLine s (line * 64) = none) :=
  ⟨withRegs (State.reset) [(MNT_ACT.state, 1, 1)], stewardMemLo / 64 + 5, by decide +kernel⟩

theorem meets_MaintenanceActivities_24 : ∃ (s : State) (who : Initiator), (stopped s = false) ∧ (reaches who
  Blk.mnt.base = true) :=
  ⟨(let s := State.reset; { s with mnt := { s.mnt with log := [64, 128] } }), .host 0, by decide +kernel⟩

theorem meets_DueEventsTheAbacusAndDetectionCodes_1 : ∃ (s : State) (tt : Nat) (b : Blk), (stopped s = false) ∧
  (dueNext s = some (tt, .application b)) ∧ (s.armDue.contains b = false) :=
  ⟨withRegs State.reset [(armTimeField .pp, 0, 1)], 0, .pp, by decide +kernel⟩

theorem meets_DueEventsTheAbacusAndDetectionCodes_2_1 : ∃ (s : State) (x : Nat × Armament), (stopped s = false) ∧
  (dueNext s = some x) :=
  ⟨withRegs State.reset [(armTimeField .pp, 0, 1)], (0, .application .pp), by decide +kernel⟩

theorem meets_DueEventsTheAbacusAndDetectionCodes_2_2 : ∃ (s : State) (x : Nat × Armament), (stopped s = false) ∧
  (dueNext s = some x) :=
  ⟨{ State.reset with tt := { lastLeg := 0, tt := 2000000 } }, (1000000, .leg), by decide +kernel⟩

theorem meets_DueEventsTheAbacusAndDetectionCodes_3 : ∃ (s : State) (tt : Nat), (stopped s = false) ∧ (dueNext s =
  some (tt, .leg)) :=
  ⟨{ State.reset with tt := { lastLeg := 0, tt := 2000000 } }, 1000000, by decide +kernel⟩

theorem meets_DueEventsTheAbacusAndDetectionCodes_4 : ∃ (s : State) (tt : Nat), (stopped s = false) ∧ (dueNext s =
  some (tt, .refill)) :=
  ⟨(let s := State.reset.wr (enableField .tm) 1; { s with tt := { s.tt with tt := 20000, lastLeg := 0 } }), 1000, by decide +kernel⟩

theorem meets_DueEventsTheAbacusAndDetectionCodes_5 : ∃ (s : State), (stopped s = false) ∧ (dueNext s = none) :=
  ⟨State.reset, by decide +kernel⟩

theorem meets_DueEventsTheAbacusAndDetectionCodes_6 : ∃ (s : State) (tt n : Nat), (stopped s = false) ∧ (dueNext s =
  some (tt, .timer n)) :=
  ⟨{ withRegs State.reset [(RLY_THCTX.state, 8, 2)] with rly := { threads := [(8, { armed := true })] } }, 0, 8, by decide +kernel⟩

theorem meets_DueEventsTheAbacusAndDetectionCodes_7 : ∃ (s : State) (tt n : Nat), (stopped s = false) ∧ (dueNext s =
  some (tt, .gate n)) :=
  ⟨{ State.reset with tm := { armed := [(3, { on := true })] } }, 0, 3, by decide +kernel⟩

theorem meets_DueEventsTheAbacusAndDetectionCodes_8 : ∃ (s : State) (tt n : Nat), (stopped s = false) ∧ (dueNext s =
  some (tt, .wait n)) :=
  ⟨{ State.reset.wr (enableField .dma) 1 with dma := { chans := [(5, { wait := .until 0 })] } }, 0, 5, by decide +kernel⟩

theorem meets_DueEventsTheAbacusAndDetectionCodes_9 : ∃ (s : State), (stopped s = false) ∧ (s.abc.waiting = []) ∧
  (s.rd DEV_ABC_CTL.law_en = 0) :=
  ⟨withRegs State.reset [(DEV_ABC_CTL.law_en, 0, 0), (CQ_POOL_STAT.free, 0, 3)], by decide +kernel⟩

theorem meets_DueEventsTheAbacusAndDetectionCodes_10 : ∃ (s : State), (stopped s = false) ∧ (s.abc.waiting = []) ∧
  (s.rd DEV_ABC_CTL.law_en = 2) ∧ (s.rd CQ_POOL_STAT.free + poolHeldSum s ≠ 65536) ∧ (s.abc.open_.contains (1, 0) =
  false) ∧ (s.abc.log.length < 16) :=
  ⟨withRegs State.reset [(DEV_ABC_CTL.law_en, 0, 2), (CQ_POOL_STAT.free, 0, 3)], by decide +kernel⟩

theorem meets_DueEventsTheAbacusAndDetectionCodes_11 : ∃ (s : State), (stopped s = false) ∧ (s.abc.waiting = []) ∧
  (s.rd DEV_ABC_CTL.law_en = 2) ∧ (s.rd CQ_POOL_STAT.free + poolHeldSum s ≠ 65536) ∧ (s.abc.open_.contains (1, 0) =
  true) :=
  ⟨{ withRegs State.reset [(DEV_ABC_CTL.law_en, 0, 2), (CQ_POOL_STAT.free, 0, 3)] with abc := { open_ := [(1, 0)] } }, by decide +kernel⟩

theorem meets_DueEventsTheAbacusAndDetectionCodes_12 : ∃ (s : State), (stopped s = false) ∧ (s.abc.waiting = []) ∧
  (s.rd DEV_ABC_CTL.law_en = 2) ∧ (s.rd CQ_POOL_STAT.free + poolHeldSum s = 65536) :=
  ⟨{ withRegs State.reset [(DEV_ABC_CTL.law_en, 0, 2)] with abc := { open_ := [(1, 0), (3, 0)] } }, by decide +kernel⟩

theorem meets_DueEventsTheAbacusAndDetectionCodes_13 : ∃ (s : State) (l : Nat) (k : FabricLink), (stopped s = false) ∧
  (s.abc.waiting = []) ∧ (s.rd DEV_ABC_CTL.law_en = 4) ∧ (s.abc.fabric = [(l, k)]) ∧ (s.abc.open_ = []) ∧
  (s.abc.retrain = []) ∧ (k.spent < k.flight + k.freed) ∧ (s.abc.log.length < 16) :=
  ⟨{ withRegs State.reset [(DEV_ABC_CTL.law_en, 0, 4)] with abc := { fabric := [(7, { flight := 2 })] } }, 7, { flight := 2 }, by decide +kernel⟩

theorem meets_DueEventsTheAbacusAndDetectionCodes_14 : ∃ (s : State) (l : Nat), (stopped s = false) ∧ (s.abc.waiting =
  []) ∧ (s.rd DEV_ABC_CTL.law_en = 4) ∧ (Map.keys s.abc.fabric = [l]) ∧ (s.abc.open_ = []) ∧ (s.abc.retrain = [l]) :=
  ⟨{ withRegs State.reset [(DEV_ABC_CTL.law_en, 0, 4)] with abc := { fabric := [(7, { flight := 2 })], retrain := [7] } }, 7, by decide +kernel⟩

theorem meets_DueEventsTheAbacusAndDetectionCodes_15 : ∃ (s : State), (stopped s = false) ∧ (s.abc.waiting = []) ∧
  (s.rd DEV_ABC_CTL.law_en = 8) ∧ (freeLineCount s + heldAll s = totalLines) ∧ (s.trn.parkFree + parkedLines s ≠
  32768) ∧ (s.abc.open_ = []) ∧ (s.abc.log.length < 16) :=
  ⟨{ withRegs State.reset [(DEV_ABC_CTL.law_en, 0, 8)] with trn := { parkFree := 5 } }, by decide +kernel⟩

theorem meets_DueEventsTheAbacusAndDetectionCodes_16 : ∃ (s : State) (x : Detection) (_ : Bool), (stopped s = false) ∧
  (detectable s x = true) :=
  ⟨State.reset, .keyCache 7, false, by decide +kernel⟩

theorem meets_DueEventsTheAbacusAndDetectionCodes_17 : ∃ (s : State) (_ : Nat), (stopped s = false) :=
  ⟨State.reset, 7, by decide +kernel⟩

theorem meets_DueEventsTheAbacusAndDetectionCodes_18 : ∃ (s : State) (_ : Nat), (stopped s = false) :=
  ⟨{ State.reset with cip := { slots := [(7, 5)] } }, 7, by decide +kernel⟩

theorem meets_DueEventsTheAbacusAndDetectionCodes_19 : ∃ (s : State) (_ : Nat), (stopped s = false) :=
  ⟨State.reset, 7, by decide +kernel⟩

theorem meets_DueEventsTheAbacusAndDetectionCodes_20 : ∃ (s : State) (_ : Nat), (stopped s = false) :=
  ⟨{ State.reset with abc := { retrain := [7] } }, 7, by decide +kernel⟩

theorem meets_PairedOperation_1 : ∃ (s : State) (d : Bytes) (_ : Bool), (stopped s = false) ∧ (enabled s .pair = true)
  ∧ (d.length = 256) ∧ (crc32 (d.take 252) = leAt d 252 4) ∧ (s.rd PAIR_STATUS.state ≠ 5) :=
  ⟨pairOn 3 1 1 {}, zeroBlock, true, by decide +kernel⟩

theorem meets_PairedOperation_2 : ∃ (s : State) (d : Bytes) (_ : Bool), (stopped s = false) ∧ (crc32 (d.take 252) ≠
  leAt d 252 4) :=
  ⟨pairOn 5 1 1 {}, List.replicate 256 0, true, by decide +kernel⟩

theorem meets_PairedOperation_3 : ∃ (s : State) (d : Bytes), (stopped s = false) ∧ (enabled s .pair = true) ∧
  (d.length = 256) ∧ (crc32 (d.take 252) = leAt d 252 4) ∧ (s.rd PAIR_STATUS.state = 5) ∧ (s.rd PAIR_CFG.auto_promote
  = 1) ∧ (s.rd PAIR_STATUS.peer_alive = 0) :=
  ⟨pairOn 5 1 0 {}, zeroBlock, by decide +kernel⟩

theorem meets_PairedOperation_4 : ∃ (s : State) (d : Bytes), (stopped s = false) ∧ (enabled s .pair = true) ∧
  (d.length = 256) ∧ (crc32 (d.take 252) = leAt d 252 4) ∧ (s.rd PAIR_STATUS.state = 5) :=
  ⟨pairOn 5 1 1 {}, zeroBlock, by decide +kernel⟩

theorem meets_PairedOperation_5 : ∃ (s : State), (stopped s = false) ∧ (enabled s .pair = true) ∧ (s.rd
  PAIR_STATUS.link_up = 0) ∧ (s.start.serdes.contains 4 = true) ∧ (s.rd DEV_CLK_STAT.pair = 1) ∧ (s.pair.heard = true)
  ∧ (s.pair.peerDig = configDigest s) ∧ (s.pair.peerRole ≠ s.rd PAIR_CFG.role_req) ∧ (s.rd PAIR_STATUS.state ∈ [0, 1,
  4, 5, 7]) :=
  ⟨pairOn 5 0 1 { heard := true, peerRole := 1, peerDig := sha384 [] }, by decide +kernel⟩

theorem meets_PairedOperation_6 : ∃ (s : State), (stopped s = false) ∧ (enabled s .pair = true) ∧ (s.rd
  PAIR_STATUS.link_up = 0) ∧ (s.start.serdes.contains 4 = true) ∧ (s.rd DEV_CLK_STAT.pair = 1) ∧ (s.pair.heard = true)
  ∧ (s.pair.peerDig = configDigest s) ∧ (s.pair.peerRole ≠ s.rd PAIR_CFG.role_req) ∧ (s.pubs = []) ∧ (s.rd
  PAIR_STATUS.state = 3) ∧ (s.rd PAIR_STATUS.peer_state = 5) :=
  ⟨withRegs (pairOn 3 0 1 { heard := true, peerRole := 1, peerDig := sha384 [] }) [(PAIR_STATUS.peer_state, 0, 5)], by decide +kernel⟩

theorem meets_PairedOperation_7 : ∃ (s : State), (stopped s = false) ∧ (enabled s .pair = true) ∧ (s.rd
  PAIR_STATUS.link_up = 0) ∧ (s.start.serdes.contains 4 = true) ∧ (s.rd DEV_CLK_STAT.pair = 1) ∧ (s.pair.heard = true)
  ∧ (s.pair.peerDig ≠ configDigest s) ∧ (s.pair.peerRole ≠ s.rd PAIR_CFG.role_req) ∧ (s.rd PAIR_STATUS.state ∈ [0, 1,
  4, 5, 6, 7]) :=
  ⟨pairOn 6 0 1 { heard := true, peerRole := 1 }, by decide +kernel⟩

theorem meets_PairedOperation_8 : ∃ (s : State), (stopped s = false) ∧ (enabled s .pair = true) ∧ (s.rd
  PAIR_STATUS.link_up = 0) ∧ (s.start.serdes.contains 4 = true) ∧ (s.rd DEV_CLK_STAT.pair = 1) ∧ (s.pair.heard = true)
  ∧ (s.pair.peerRole = s.rd PAIR_CFG.role_req) :=
  ⟨pairOn 3 0 1 { heard := true }, by decide +kernel⟩

theorem meets_PairedOperation_9 : ∃ (s : State), (stopped s = false) ∧ (s.rd PAIR_STATUS.link_up = 1) ∧ (s.rd
  PAIR_STATUS.peer_alive = 0) ∧ (s.pubs = []) ∧ (s.rd PAIR_STATUS.state = 1) ∧ (s.pair.lastBlock + 30000 ≤ now s) :=
  ⟨pairOn 1 1 0 {}, by decide +kernel⟩

theorem meets_PairedOperation_10 : ∃ (s : State), (stopped s = false) ∧ (s.rd PAIR_STATUS.link_up = 1) ∧ (s.rd
  PAIR_STATUS.peer_alive = 1) ∧ (s.rd PAIR_STATUS.state = 1) ∧ (s.rd PAIR_CFG.hold_us ≠ 0) ∧ (s.pair.lastBlock + 30000
  ≤ now s) :=
  ⟨pairOn 1 1 1 {}, by decide +kernel⟩

theorem meets_PairedOperation_11 : ∃ (s : State), (stopped s = false) ∧ (now s < s.pair.lastBlock + 30000) :=
  ⟨pairOn 1 1 1 { lastBlock := 4980000 }, by decide +kernel⟩

theorem meets_PairedOperation_12_1 : ∃ (s : State), (stopped s = false) ∧ (s.rd PAIR_STATUS.link_up = 1) ∧ (s.rd
  PAIR_STATUS.peer_alive = 1) ∧ (s.rd PAIR_STATUS.state = 4 ∨ s.rd PAIR_STATUS.state = 5) :=
  ⟨pairOn 5 1 1 {}, by decide +kernel⟩

theorem meets_PairedOperation_12_2 : ∃ (s : State), (stopped s = false) ∧ (s.rd PAIR_STATUS.link_up = 1) ∧ (s.rd
  PAIR_STATUS.peer_alive = 1) ∧ (s.rd PAIR_STATUS.state = 4 ∨ s.rd PAIR_STATUS.state = 5) :=
  ⟨pairOn 4 1 1 {}, by decide +kernel⟩

theorem meets_PairedOperation_13 : ∃ (s : State), (stopped s = false) ∧ (s.rd PAIR_STATUS.link_up = 0) :=
  ⟨pairOn 5 0 1 {}, by decide +kernel⟩

theorem meets_PairedOperation_14 : ∃ (s : State) (_ _ _ : Nat) (_ : Bytes), (stopped s = false) ∧ (enabled s .pair =
  true) ∧ (s.rd PAIR_STATUS.link_up = 0) :=
  ⟨pairOn 5 0 1 {}, 3, 1, 1, [7], by decide +kernel⟩

theorem meets_PairedOperation_15 : ∃ (s : State) (e _ : Nat) (_ : Bytes), (stopped s = false) ∧ (enabled s .pair =
  true) ∧ (s.rd PAIR_STATUS.link_up = 1) ∧ (s.rd PAIR_STATUS.state = 3) ∧ (s.pair.conflict = false) ∧ (e ≤ s.rd
  PAIR_STATUS.epoch) ∧ (s.rd PAIR_STATUS.cfg_match = 1) ∧ (s.pubs = []) :=
  ⟨pairOn 3 1 1 {}, 0, 1, [], by decide +kernel⟩

theorem meets_PairedOperation_16 : ∃ (s : State) (e _ : Nat) (_ : Bytes), (stopped s = false) ∧ (enabled s .pair =
  true) ∧ (s.rd PAIR_STATUS.link_up = 1) ∧ (s.rd PAIR_STATUS.state = 3) ∧ (s.pair.conflict = false) ∧ (s.rd
  PAIR_STATUS.epoch < e) :=
  ⟨pairOn 3 1 1 {}, 1, 1, [], by decide +kernel⟩

theorem meets_PairedOperation_17 : ∃ (s : State), (stopped s = false) ∧ (s.rd PAIR_STATUS.link_up = 1) :=
  ⟨pairOn 5 1 0 {}, by decide +kernel⟩

theorem meets_PairedOperation_18 : ∃ (s : State), (stopped s = false) ∧ (s.rd PAIR_STATUS.state = 2) ∧ (s.pubs = [])
  :=
  ⟨pairOn 2 0 1 {}, by decide +kernel⟩

theorem meets_PairedOperation_19 : ∃ (s : State) (k : Nat), (stopped s = false) ∧ (s.rd PAIR_CFG.alive_wdog_us ≠ 0) ∧
  (s.pair.kickTt = some k) ∧ (k + s.rd PAIR_CFG.alive_wdog_us * 1000 ≤ now s) :=
  ⟨pairOn 3 0 1 { kickTt := some 7 }, 7, by decide +kernel⟩

theorem meets_PairedOperation_20 : ∃ (s : State) (who : Initiator), (stopped s = false) ∧ (reaches who
  (PAIR_CMD.go.key 0 0 / 8) = true) ∧ (s.rd BOOT_STATUS.phase ≠ 4) ∧ (enabled s .pair = true) :=
  ⟨pairOn 5 0 1 {}, .host 0, by decide +kernel⟩

theorem meets_PairedOperation_21 : ∃ (s : State) (bs : Bytes) (d : Delta), (stopped s = false) ∧ (parseDelta bs = some
  d) ∧ (deltaExpected s d = true) ∧ (d.kind = 8) :=
  ⟨pairOn 5 1 1 { expect := some 9 }, keyDelta, ⟨9, 8, 7, 3, 0, (keyDelta.take 160).drop 32⟩, by decide +kernel⟩

theorem meets_PairedOperation_22 : ∃ (s : State) (bs : Bytes) (d : Delta), (stopped s = false) ∧ (parseDelta bs = some
  d) ∧ (deltaExpected s d = false) :=
  ⟨pairOn 5 1 1 { expect := some 10 }, keyDelta, ⟨9, 8, 7, 3, 0, (keyDelta.take 160).drop 32⟩, by decide +kernel⟩

theorem meets_PairedOperation_23 : ∃ (s : State) (bs : Bytes), (stopped s = false) ∧ (parseDelta bs = none) :=
  ⟨pairOn 5 1 1 {}, keyRecord, by decide +kernel⟩

theorem meets_PairedOperation_24 : ∃ (s : State) (n : Nat), (stopped s = false) ∧ (s.pubs = []) ∧ (s.pair.handover =
  false) ∧ (s.rd PAIR_ACKED.pseq ≤ n) ∧ (n ≤ s.pseq) :=
  ⟨{ pairOn 1 1 1 {} with pseq := 2, deltas := [⟨1, 8, 7, 0, 0, []⟩, ⟨2, 8, 7, 0, 0, []⟩] }, 1, by decide +kernel⟩

theorem meets_PairedOperation_25 : ∃ (s : State) (n need f a : Nat) (bs : Bytes), (stopped s = false) ∧ (s.rd
  PAIR_STATUS.state = 1) ∧ (s.pubs = [⟨need, .write f a bs⟩]) ∧ (need ≤ n) ∧ (s.pair.handover = false) ∧ (s.rd
  PAIR_ACKED.pseq ≤ n) ∧ (n ≤ s.pseq) ∧ ((s.deltas.all fun d => decide (d.pseq ≤ n)) = true) ∧ (fnLive s f = true) :=
  ⟨{ withRegs (pairOn 1 1 1 {}) [(HIF_PF_CFG.enable, 0, 1)] with hif := { fns := [(0, { bme := true })] }, pseq := 2, deltas := [⟨2, 8, 7, 0, 0, []⟩], pubs := [⟨2, .write 0 0x100 [1, 2, 3]⟩] }, 2, 2, 0, 0x100, [1, 2, 3], by decide +kernel⟩

theorem meets_PairedOperation_26 : ∃ (s : State) (a _ : Nat), (stopped s = false) ∧ (a < 4096) :=
  ⟨State.reset, 4095, 77, by decide +kernel⟩

theorem meets_PairedOperation_27 : ∃ (s : State), (stopped s = false) ∧ (s.rd PAIR_STATUS.state = 2) ∧ (s.pubs = []) ∧
  (s.pair.holdTt + s.rd PAIR_CFG.hold_us * 1000 ≤ now s) :=
  ⟨pairOn 2 0 1 {}, by decide +kernel⟩

theorem meets_PairedOperation_28 : ∃ (s : State), (stopped s = false) ∧ (s.rd PAIR_STATUS.state ≠ 2 ∨ now s <
  s.pair.holdTt + s.rd PAIR_CFG.hold_us * 1000) :=
  ⟨pairOn 2 0 1 { holdTt := 4500000 }, by decide +kernel⟩

theorem meets_PairedOperation_29 : ∃ (s : State) (l : Nat), (stopped s = false) ∧ (s.rd PAIR_STATUS.state = 5) ∧ (s.rd
  PAIR_CFG.auto_promote = 1) ∧ (s.rd PAIR_STATUS.peer_alive = 0) ∧ (s.pair.lowSince = some l) ∧ (l + 30000 ≤ now s) ∧
  (s.pair.lastBlock + 30000 ≤ now s) :=
  ⟨pairOn 5 0 0 { lowSince := some 9 }, 9, by decide +kernel⟩

theorem meets_PairedOperation_30 : ∃ (s : State), (stopped s = false) ∧ (s.rd PAIR_STATUS.state ≠ 5 ∨ s.rd
  PAIR_CFG.auto_promote = 0 ∨ now s < s.pair.lastBlock + 30000) :=
  ⟨pairOn 3 0 0 {}, by decide +kernel⟩

theorem meets_PairedOperation_31 : ∃ (s : State) (who : Initiator) (_ : Bool), (stopped s = false) ∧ (reaches who
  (PAIR_CMD.go.key 0 0 / 8) = true) ∧ (s.rd BOOT_STATUS.phase ≠ 4) ∧ (s.rd PAIR_CMD.busy = 0) ∧ (s.rd
  PAIR_STATUS.state = 5) :=
  ⟨pairOn 5 1 1 {}, .steward 1, false, by decide +kernel⟩

theorem meets_PairedOperation_32 : ∃ (s : State) (who : Initiator), (stopped s = false) ∧ (reaches who
  (PAIR_CMD.go.key 0 0 / 8) = true) ∧ (s.rd BOOT_STATUS.phase ≠ 4) ∧ (s.rd PAIR_CMD.busy = 0) ∧ (s.rd
  PAIR_STATUS.state = 4 ∨ s.rd PAIR_STATUS.state = 6) :=
  ⟨pairOn 6 0 1 {}, .host 0, by decide +kernel⟩

theorem meets_PairedOperation_33 : ∃ (s : State) (who : Initiator), (stopped s = false) ∧ (reaches who
  (PAIR_CMD.go.key 0 0 / 8) = true) ∧ (s.rd BOOT_STATUS.phase ≠ 4) ∧ (s.rd PAIR_CMD.busy = 0) ∧ (s.rd
  PAIR_STATUS.state ≠ 5) :=
  ⟨pairOn 4 0 1 {}, .host 0, by decide +kernel⟩

theorem meets_PairedOperation_34 : ∃ (s : State) (who : Initiator) (_ : Bool), (stopped s = false) ∧ (reaches who
  (PAIR_CMD.go.key 0 0 / 8) = true) ∧ (s.rd BOOT_STATUS.phase ≠ 4) ∧ (s.rd PAIR_CMD.busy = 1) :=
  ⟨withRegs (pairOn 1 1 1 {}) [(PAIR_CMD.busy, 0, 1)], .host 0, true, by decide +kernel⟩

theorem meets_PairedOperation_35 : ∃ (s : State) (who : Initiator), (stopped s = false) ∧ (reaches who
  (PAIR_CMD.go.key 0 0 / 8) = true) ∧ (s.rd BOOT_STATUS.phase ≠ 4) ∧ (s.rd PAIR_CMD.busy = 0) ∧ (s.rd
  PAIR_STATUS.state = 1) ∧ (s.queues = []) ∧ (s.deltas = []) ∧ (s.pubs = []) :=
  ⟨pairOn 1 1 1 {}, .host 0, by decide +kernel⟩

theorem meets_PairedOperation_36 : ∃ (s : State) (who : Initiator), (stopped s = false) ∧ (reaches who
  (PAIR_CMD.go.key 0 0 / 8) = true) ∧ (s.rd BOOT_STATUS.phase ≠ 4) ∧ (s.rd PAIR_CMD.busy = 0) ∧ (s.rd
  PAIR_STATUS.state = 1) ∧ (allRetired s = false) :=
  ⟨{ pairOn 1 1 1 {} with queues := [(3, { entries := [{}] })] }, .host 0, by decide +kernel⟩

theorem meets_PairedOperation_37 : ∃ (s : State) (who : Initiator), (stopped s = false) ∧ (reaches who
  (PAIR_CMD.go.key 0 0 / 8) = true) ∧ (s.rd BOOT_STATUS.phase ≠ 4) ∧ (s.rd PAIR_CMD.busy = 0) ∧ (s.rd
  PAIR_STATUS.state ≠ 1) :=
  ⟨pairOn 3 1 1 {}, .host 0, by decide +kernel⟩

theorem meets_PairedOperation_38 : ∃ (s : State) (_ : List (Nat × Nat × Nat)), (stopped s = false) ∧ (s.rd
  PAIR_STATUS.state = 7) ∧ (liveQueues s = []) ∧ (s.pair.ops = []) ∧ (s.pair.records = []) ∧ (s.pubs = []) :=
  ⟨pairOn 7 0 0 {}, [], by decide +kernel⟩

theorem meets_PairedOperation_39 : ∃ (s : State) (_ : List (Nat × Nat × Nat)), (stopped s = false) ∧ (s.rd
  PAIR_STATUS.state ≠ 7) :=
  ⟨pairOn 3 0 0 {}, [], by decide +kernel⟩

theorem meets_PairedOperation_40_1 : ∃ (s : State), (stopped s = false) ∧ (enabled s .pair = true) ∧ (s.rd
  PAIR_STATUS.link_up = 0) ∧ (s.start.serdes.contains 4 = true) ∧ (s.rd DEV_CLK_STAT.pair = 1) ∧ (s.pair.heard = true)
  :=
  ⟨pairOn 5 0 1 { heard := true, peerRole := 1, peerDig := sha384 [] }, by decide +kernel⟩

theorem meets_PairedOperation_40_2 : ∃ (s : State), (stopped s = false) ∧ (enabled s .pair = true) ∧ (s.rd
  PAIR_STATUS.link_up = 0) ∧ (s.start.serdes.contains 4 = true) ∧ (s.rd DEV_CLK_STAT.pair = 1) ∧ (s.pair.heard = true)
  :=
  ⟨pairOn 3 0 1 { heard := true }, by decide +kernel⟩

theorem meets_PairedOperation_41_1 : ∃ (s : State), (stopped s = false) ∧ (enabled s .pair = false ∨ s.rd
  PAIR_STATUS.link_up = 1 ∨ s.start.serdes.contains 4 = false ∨ s.rd DEV_CLK_STAT.pair = 0 ∨ s.pair.heard = false) :=
  ⟨pairOn 5 1 1 { heard := true }, by decide +kernel⟩

theorem meets_PairedOperation_41_2 : ∃ (s : State), (stopped s = false) ∧ (enabled s .pair = false ∨ s.rd
  PAIR_STATUS.link_up = 1 ∨ s.start.serdes.contains 4 = false ∨ s.rd DEV_CLK_STAT.pair = 0 ∨ s.pair.heard = false) :=
  ⟨pairOn 5 0 1 {}, by decide +kernel⟩

theorem meets_PairedOperation_42_1 : ∃ (s : State), (stopped s = false) ∧ (s.pair.lastBlock + 30000 ≤ now s) :=
  ⟨pairOn 1 1 0 {}, by decide +kernel⟩

theorem meets_PairedOperation_42_2 : ∃ (s : State), (stopped s = false) ∧ (s.pair.lastBlock + 30000 ≤ now s) :=
  ⟨pairOn 6 1 1 {}, by decide +kernel⟩

theorem meets_PairedOperation_43_1 : ∃ (s : State), (stopped s = false) :=
  ⟨pairOn 4 1 1 {}, by decide +kernel⟩

theorem meets_PairedOperation_43_2 : ∃ (s : State), (stopped s = false) :=
  ⟨pairOn 1 1 1 {}, by decide +kernel⟩

theorem meets_PairedOperation_44 : ∃ (s : State) (bs : Bytes) (d : Delta), (stopped s = false) ∧ (parseDelta bs = some
  d) ∧ (deltaExpected s d = true) :=
  ⟨pairOn 5 1 1 { expect := some 9 }, keyDelta, ⟨9, 8, 7, 3, 0, (keyDelta.take 160).drop 32⟩, by decide +kernel⟩

theorem meets_PairedOperation_45 : ∃ (s : State), (stopped s = false) ∧ (s.rd PAIR_STATUS.state = 2) ∧ (s.pair.holdTt
  + s.rd PAIR_CFG.hold_us * 1000 ≤ now s) :=
  ⟨pairOn 2 0 1 {}, by decide +kernel⟩

theorem meets_PairedOperation_46_1 : ∃ (s : State), (stopped s = false) ∧ (s.rd PAIR_STATUS.state = 5) ∧ (s.rd
  PAIR_CFG.auto_promote = 1) ∧ (s.rd PAIR_STATUS.peer_alive = 0) ∧ ((s.pair.lowSince.getD 0) + 30000 ≤ now s) ∧
  (s.pair.lastBlock + 30000 ≤ now s) :=
  ⟨pairOn 5 0 0 { lowSince := some 9 }, by decide +kernel⟩

theorem meets_PairedOperation_46_2 : ∃ (s : State), (stopped s = false) ∧ (s.rd PAIR_STATUS.state = 5) ∧ (s.rd
  PAIR_CFG.auto_promote = 1) ∧ (s.rd PAIR_STATUS.peer_alive = 0) ∧ ((s.pair.lowSince.getD 0) + 30000 ≤ now s) ∧
  (s.pair.lastBlock + 30000 ≤ now s) :=
  ⟨pairOn 5 0 0 {}, by decide +kernel⟩

theorem meets_PairedOperation_47 : ∃ (s : State) (l : List (Nat × Nat × Nat)) (t : State), (stopped s = false) ∧ (s.rd
  PAIR_STATUS.state = 7) ∧ (rebuildAll l (liveQueues s) (setPair s pSolo) = some t) :=
  ⟨(let s := pairOn 7 0 0 {}; s), [], setPair (pairOn 7 0 0 {}) pSolo, rfl, rfl, rfl⟩

theorem meets_PairedOperation_48 : ∃ (s : State) (l : List (Nat × Nat × Nat)), (stopped s = false) ∧ (s.rd
  PAIR_STATUS.state = 7) ∧ (rebuildAll l (liveQueues s) (setPair s pSolo) = none) :=
  ⟨withRegs (pairOn 7 0 0 {}) [(WQ_CTX.state, 3, 3), (WQ_CTX.accept_index, 3, 1)], [], by decide +kernel⟩

theorem meets_StepRunsTheFrontCommand_1 : ∃ (s : State) (c : Instr) (rest : List Instr), (s.pending = c :: rest) :=
  ⟨{ State.reset with pending := [.pllLock] }, .pllLock, [], by decide +kernel⟩

theorem meets_StepRunsTheFrontCommand_2 : ∃ (s : State), (s.pending = []) ∧ (stopped s = true) :=
  ⟨{ State.reset with nrg := { tripped := true } }, by decide +kernel⟩

theorem meets_StepRunsTheFrontCommand_3 : ∃ (s : State), (s.pending = []) ∧ (stopped s = false) ∧ (s.hif.mig = []) ∧
  (s.pair.handover = false) ∧ (enabled s .pmc = false) ∧ (s.rings = []) ∧ (stalledCores s = []) ∧ (s.rly.lane = []) ∧
  (s.rly.stallFor = []) ∧ (s.tt.load = none) ∧ (s.tt.stepBy = 0) ∧ (s.rd TT_FREQ_ADJ.adj = 0) ∧ (s.tt.slew = 0) ∧
  (s.tt.sub < nsUnit) :=
  ⟨State.reset, by decide +kernel⟩

theorem meets_StepRunsTheFrontCommand_4 : ∃ (s : State) (v : Nat), (s.pending = []) ∧ (stopped s = false) ∧ (s.hif.mig
  = []) ∧ (s.pair.handover = false) ∧ (enabled s .pmc = false) ∧ (s.rings = []) ∧ (stalledCores s = []) ∧ (s.rly.lane
  = []) ∧ (s.rly.stallFor = []) ∧ (s.tt.load = some v) ∧ (s.tt.stepBy = 0) ∧ (v < 2 ^ 64) :=
  ⟨{ State.reset with tt := { load := some 77 } }, 77, by decide +kernel⟩

theorem meets_StepRunsTheFrontCommand_5 : ∃ (s : State) (d : Nat), (s.pending = []) ∧ (stopped s = false) ∧ (s.hif.mig
  = []) ∧ (s.pair.handover = false) ∧ (enabled s .pmc = false) ∧ (s.rings = []) ∧ (stalledCores s = []) ∧ (s.rly.lane
  = []) ∧ (s.rly.stallFor = []) ∧ (s.tt.load = none) ∧ (s.tt.stepBy = d) ∧ (0 < d) ∧ (s.rd TT_FREQ_ADJ.adj = 0) ∧
  (s.tt.slew = 0) ∧ (s.tt.sub < nsUnit) :=
  ⟨{ State.reset with tt := { stepBy := 9 } }, 9, by decide +kernel⟩

theorem meets_ResetLeavesTheDevice_1 : ∃ (q : Nat), (q < 65536) :=
  ⟨65535, by decide +kernel⟩

theorem meets_ResetLeavesTheDevice_2 : ∃ (m : Nat), (m < 8) :=
  ⟨7, by decide +kernel⟩

theorem meets_StoresAreReadBackAndTouchNothingElse_1 : ∃ (s : State) (f : Nat), (fnLive s f = true) :=
  ⟨hostOn, 0, by decide +kernel⟩

theorem meets_StoppedClocksHoldEverything_1 : ∃ (s t : State), (stopped s = true) ∧ ((∀ straps cool, s.pending.head? ≠
  some (.deviceReset straps cool))) ∧ (step s = .next t) :=
  ⟨{ State.reset with nrg := { tripped := true }, pending := [.pllLock] }, { State.reset with nrg := { tripped := true } }, by decide +kernel, by intro _ _ h; simp at h, rfl⟩

/-! ### Ill-formed commands -/

/-- Operands out of range are refused, part 1. -/
theorem test_ill_formed_1 : ([
    .registerWrite (.host 4104) 0 0 0,
    .registerWrite (.host 0) (2 ^ 26) 0 0,
    .registerWrite (.host 0) 0 0 1,
    .enableWrite (.host 4104) .dev false,
    .lockSet (.host 4104) .dev,
    .applyNow (.host 4104) .dev,
    .armTime (.host 4104) .dev false,
    .disarmTime (.host 4104) .dev,
    .applyTimeWrite (.host 4104) .dev 0,
    .applyTimeWrite (.host 0) .dev (2 ^ 64),
    .bankCopyDone 2,
    .ttLoad (.host 4104) 0,
    .ttLoad (.host 0) (2 ^ 64),
    .ttStep (.host 4104) 0,
    .ttStep (.host 0) (2 ^ 32),
    .ttPhaseAdj (.host 4104) 0,
    .ttPhaseAdj (.host 0) (2 ^ 32),
    .ttFreqAdj (.host 4104) 0,
    .ttFreqAdj (.host 0) (2 ^ 32),
    .ttServoWrite (.host 4104) false,
    .ttNowRead (.host 4104),
    .txtsPop (.host 4104) 0,
    .txtsPop (.host 0) 16,
    .imonSample 4096 0 0] : List Instr).all (fun c => !c.wf) = true := by decide +kernel

/-- Operands out of range are refused, part 2. -/
theorem test_ill_formed_2 : ([
    .imonSample 0 4096 0,
    .imonSample 0 0 4096,
    .ledgerConsWrite (.host 4104) 0,
    .ledgerConsWrite (.host 0) (2 ^ 32),
    .nrgCredit (.host 4104) 0 0,
    .nrgCredit (.host 0) 4096 0,
    .nrgCredit (.host 0) 0 (2 ^ 48),
    .snapDone (.host 4104),
    .domainIdleOff 120,
    .domainOffComplete 120,
    .domainWake 120,
    .doorbell 4104 0 0 0,
    .doorbell 0 0 0 1,
    .push 4104 0 0 0,
    .push 0 0 0 (2 ^ 512),
    .fetchCompletion 65536 false [],
    .padEntry 65536,
    .nopEntry 65536 0,
    .nopEntry 0 65536,
    .queueCtlStart 65536 0,
    .queueCtlStart 0 65536,
    .queueCtlStop 65536 0,
    .queueCtlStop 0 65536,
    .queueCtlReset 65536 0] : List Instr).all (fun c => !c.wf) = true := by decide +kernel

/-- Operands out of range are refused, part 3. -/
theorem test_ill_formed_3 : ([
    .queueCtlReset 0 65536,
    .qcmdStart (.host 4104) 0,
    .qcmdStart (.host 0) 65536,
    .qcmdStop (.host 4104) 0,
    .qcmdStop (.host 0) 65536,
    .qcmdReset (.host 4104) 0,
    .qcmdReset (.host 0) 65536,
    .queueContextWrite (.host 4104) 0 0 0 0,
    .queueContextWrite (.host 0) 65536 0 0 0,
    .queueContextWrite (.host 0) 0 0 0 1,
    .groupOwnerWrite (.host 4104) 0 0,
    .groupOwnerWrite (.host 0) 2048 0,
    .groupOwnerWrite (.host 0) 0 (2 ^ 64),
    .wqErrqRead (.host 4104),
    .entryFinish 65536 0,
    .entryFinish 0 65536,
    .statusBlockUpdate 65536,
    .consumerPoll 16384 false 0,
    .consumerPoll 0 false (2 ^ 32),
    .moderationTimer 16384,
    .abortEntry 65536 0,
    .abortEntry 0 65536,
    .abortRequestArrival 65536 0,
    .abortRequestArrival 0 65536] : List Instr).all (fun c => !c.wf) = true := by decide +kernel

/-- Operands out of range are refused, part 4. -/
theorem test_ill_formed_4 : ([
    .ringContextWrite (.host 4104) 0 0 0 0,
    .ringContextWrite (.host 0) 16384 0 0 0,
    .ringContextWrite (.host 0) 0 0 0 1,
    .cqStallqRead (.host 4104),
    .hurdleEntry 65536 0,
    .hurdleEntry 0 65536,
    .hurdleFinish 65536 0,
    .hurdleFinish 0 65536,
    .flushReadComplete 8 0 0,
    .flushReadComplete 0 65536 0,
    .flushReadComplete 0 0 65536,
    .abacusLogRead (.host 4104),
    .frameReceive 16 [] 0 0,
    .pfcRefresh 16,
    .pauseExpiry 16,
    .linkChange 16 false,
    .passEnter 2,
    .espEncrypt 2,
    .espDecrypt 2,
    .passEnd 2,
    .slowPathBaton 2,
    .reinject 2,
    .sendToPort 2,
    .deliverToHost 2] : List Instr).all (fun c => !c.wf) = true := by decide +kernel

/-- Operands out of range are refused, part 5. -/
theorem test_ill_formed_5 : ([
    .freeLines 2,
    .reinjectBad 2,
    .netSend 65536 0 false [],
    .netSend 0 65536 false [],
    .netPostRx 65536 0,
    .netPostRx 0 65536,
    .ppEthModeWrite (.host 4104) 0 0,
    .ppEthModeWrite (.host 0) 4 0,
    .ppEthModeWrite (.host 0) 0 8,
    .flowCounterSnapshot (.host 4104),
    .tableValidate (.host 4104) 0,
    .tableValidate (.host 0) 64,
    .tableClearDone 64,
    .tableInvalidate (.host 4104) 0,
    .tableInvalidate (.host 0) 64,
    .ftInsert (.host 4104) 0,
    .ftInsert (.host 0) 8,
    .ftUpdate (.host 4104) 0,
    .ftUpdate (.host 0) 8,
    .ftUpsert (.host 4104) 0,
    .ftUpsert (.host 0) 8,
    .ftDelete (.host 4104) 0,
    .ftDelete (.host 0) 8,
    .ftLookup (.host 4104) 0] : List Instr).all (fun c => !c.wf) = true := by decide +kernel

/-- Operands out of range are refused, part 6. -/
theorem test_ill_formed_6 : ([
    .ftLookup (.host 0) 8,
    .ftReadSlot (.host 4104) 0,
    .ftReadSlot (.host 0) 8,
    .ftWriteResult (.host 4104) 0,
    .ftWriteResult (.host 0) 8,
    .ftTernWrite (.host 4104) 0,
    .ftTernWrite (.host 0) 8,
    .ftTernRead (.host 4104) 0,
    .ftTernRead (.host 0) 8,
    .learnApply 2,
    .stampWrite 64 0,
    .stampWrite 0 2,
    .ageScan 64 0,
    .ageScan 0 2,
    .ageRemoval 64 0,
    .ageRemoval 0 2,
    .ftLostRead (.host 4104),
    .portChoice 16,
    .frameTxDone 16,
    .gateArm (.host 4104) 0,
    .gateArm (.host 0) 16,
    .gateAdoption 16,
    .gateEntryChange 16,
    .meterRead (.host 4104)] : List Instr).all (fun c => !c.wf) = true := by decide +kernel

/-- Operands out of range are refused, part 7. -/
theorem test_ill_formed_7 : ([
    .meterWrite (.host 4104),
    .tmCounterSnapshot (.host 4104),
    .trnWrite 65536 0,
    .trnWrite 0 65536,
    .trnWriteImm 65536 0,
    .trnWriteImm 0 65536,
    .trnRead 65536 0,
    .trnRead 0 65536,
    .regionRegister 65536 0,
    .regionRegister 0 65536,
    .regionRevoke 65536 0,
    .regionRevoke 0 65536,
    .regionDrained (2 ^ 24),
    .pacerAdmit (2 ^ 24) false [],
    .writeReceive (2 ^ 24),
    .writeImmReceive (2 ^ 24),
    .readReqReceive (2 ^ 24),
    .readRespReceive (2 ^ 24),
    .ackReceive (2 ^ 24),
    .nakReceive (2 ^ 24),
    .retryLaterReceive (2 ^ 24),
    .retryLaterResume (2 ^ 24),
    .ackTimer (2 ^ 24),
    .retransmitTimeout (2 ^ 24)] : List Instr).all (fun c => !c.wf) = true := by decide +kernel

/-- Operands out of range are refused, part 8. -/
theorem test_ill_formed_8 : ([
    .contextFetchDone (2 ^ 24) false 0,
    .contextFetchDone 0 false (2 ^ 1024),
    .connCreate (.host 4104) 0,
    .connCreate (.host 0) (2 ^ 24),
    .trnConnReset (.host 4104) 0,
    .trnConnReset (.host 0) (2 ^ 24),
    .trnConnRead (.host 4104) 0,
    .trnConnRead (.host 0) (2 ^ 24),
    .rgnBlockWrite (.host 4104) 0 0,
    .rgnBlockWrite (.host 0) 4096 0,
    .rgnBlockWrite (.host 0) 0 (2 ^ 64),
    .trnConnErrqRead (.host 4104),
    .blkRead 65536 0 false,
    .blkRead 0 65536 false,
    .blkWrite 65536 0 false [],
    .blkWrite 0 65536 false [],
    .blkFlush 65536 0,
    .blkFlush 0 65536,
    .blkTrim 65536 0,
    .blkTrim 0 65536,
    .blkSelfTest 65536 0 false,
    .blkSelfTest 0 65536 false,
    .blkLogRead 65536 0,
    .blkLogRead 0 65536] : List Instr).all (fun c => !c.wf) = true := by decide +kernel

/-- Operands out of range are refused, part 9. -/
theorem test_ill_formed_9 : ([
    .blkResume 65536 0,
    .blkResume 0 65536,
    .stagingComplete 65536 0,
    .stagingComplete 0 65536,
    .backendDispatch 65536 0,
    .backendDispatch 0 65536,
    .verifyDispatch 65536 0,
    .verifyDispatch 0 65536,
    .volumeWrite (.host 4104),
    .volumeRead (.host 4104),
    .blkFrozenqRead (.host 4104),
    .encryptJob 65536 0 false [] [],
    .encryptJob 0 65536 false [] [],
    .decryptJob 65536 0 false [] [] [],
    .decryptJob 0 65536 false [] [] [],
    .hashJob 65536 0 false [],
    .hashJob 0 65536 false [],
    .macJob 65536 0 false [],
    .macJob 0 65536 false [],
    .macVerifyJob 65536 0 false [] [],
    .macVerifyJob 0 65536 false [] [],
    .keyLoad 65536 0,
    .keyLoad 0 65536,
    .keyLoadDrained 65536 0] : List Instr).all (fun c => !c.wf) = true := by decide +kernel

/-- Operands out of range are refused, part 10. -/
theorem test_ill_formed_10 : ([
    .keyLoadDrained 0 65536,
    .cipherUnitDone 24 false false,
    .keySlotRead (.host 4104),
    .keyLower (.host 4104),
    .keyBlockWrite (.host 4104) 0 0,
    .keyBlockWrite (.host 0) 1024 0,
    .keyBlockWrite (.host 0) 0 (2 ^ 64),
    .cipKeyqRead (.host 4104),
    .dmaCopy 65536 0,
    .dmaCopy 0 65536,
    .dmaRunChain 65536 0,
    .dmaRunChain 0 65536,
    .chainBlockFetchDone 256 false [],
    .linkPoll 256,
    .endChain 256,
    .chainMove 256,
    .chainLoop 256,
    .dmaWaitUntil 256,
    .dmaWaitDuration 256,
    .dmaWaitSemaphore 256,
    .dmaWaitExpiry 256,
    .signalWrite 256,
    .signalSem 256,
    .signalThread 256] : List Instr).all (fun c => !c.wf) = true := by decide +kernel

/-- Operands out of range are refused, part 11. -/
theorem test_ill_formed_11 : ([
    .signalMsix 256,
    .dmaHurdle 256,
    .chainLink 256,
    .dmaSegmentDone 256 [],
    .dmaSegmentFail 256,
    .verifyReadbackDone 256 false [],
    .chainStart (.host 4104),
    .chainResume (.host 4104),
    .chainRelease (.host 4104),
    .dmaChanWrite (.host 4104) 0 0,
    .dmaChanWrite (.host 0) 256 0,
    .dmaChanWrite (.host 0) 0 (2 ^ 64),
    .dmaHaltqRead (.host 4104),
    .add 516 0 0 0,
    .add 0 (2 ^ 40) 0 0,
    .sub 516 0 0 0,
    .sub 0 (2 ^ 40) 0 0,
    .and 516 0 0 0,
    .and 0 (2 ^ 40) 0 0,
    .or 516 0 0 0,
    .or 0 (2 ^ 40) 0 0,
    .xor 516 0 0 0,
    .xor 0 (2 ^ 40) 0 0,
    .shl 516 0 0 0] : List Instr).all (fun c => !c.wf) = true := by decide +kernel

/-- Operands out of range are refused, part 12. -/
theorem test_ill_formed_12 : ([
    .shl 0 (2 ^ 40) 0 0,
    .shr 516 0 0 0,
    .shr 0 (2 ^ 40) 0 0,
    .sar 516 0 0 0,
    .sar 0 (2 ^ 40) 0 0,
    .mul 516 0 0 0,
    .mul 0 (2 ^ 40) 0 0,
    .mulhu 516 0 0 0,
    .mulhu 0 (2 ^ 40) 0 0,
    .minu 516 0 0 0,
    .minu 0 (2 ^ 40) 0 0,
    .maxu 516 0 0 0,
    .maxu 0 (2 ^ 40) 0 0,
    .slt 516 0 0 0,
    .slt 0 (2 ^ 40) 0 0,
    .sltu 516 0 0 0,
    .sltu 0 (2 ^ 40) 0 0,
    .crcc 516 0 0 0 0,
    .crcc 0 (2 ^ 40) 0 0 0,
    .bits 516 0 0 0,
    .bits 0 (2 ^ 40) 0 0,
    .addi 516 0 0 0,
    .addi 0 (2 ^ 40) 0 0,
    .andi 516 0 0 0] : List Instr).all (fun c => !c.wf) = true := by decide +kernel

/-- Operands out of range are refused, part 13. -/
theorem test_ill_formed_13 : ([
    .andi 0 (2 ^ 40) 0 0,
    .ori 516 0 0 0,
    .ori 0 (2 ^ 40) 0 0,
    .xori 516 0 0 0,
    .xori 0 (2 ^ 40) 0 0,
    .shi 516 0 0 0,
    .shi 0 (2 ^ 40) 0 0,
    .slti 516 0 0 0,
    .slti 0 (2 ^ 40) 0 0,
    .movk 516 0 0 0,
    .movk 0 (2 ^ 40) 0 0,
    .addpc 516 0 0,
    .addpc 0 (2 ^ 40) 0,
    .ldb 516 0 0 0,
    .ldb 0 (2 ^ 40) 0 0,
    .ldh 516 0 0 0,
    .ldh 0 (2 ^ 40) 0 0,
    .ldw 516 0 0 0,
    .ldw 0 (2 ^ 40) 0 0,
    .ldd 516 0 0 0,
    .ldd 0 (2 ^ 40) 0 0,
    .stb 516 0 0 0,
    .stb 0 (2 ^ 40) 0 0,
    .sth 516 0 0 0] : List Instr).all (fun c => !c.wf) = true := by decide +kernel

/-- Operands out of range are refused, part 14. -/
theorem test_ill_formed_14 : ([
    .sth 0 (2 ^ 40) 0 0,
    .stw 516 0 0 0,
    .stw 0 (2 ^ 40) 0 0,
    .std 516 0 0 0,
    .std 0 (2 ^ 40) 0 0,
    .ldl 516 0 0 0,
    .ldl 0 (2 ^ 40) 0 0,
    .stl 516 0 0 0,
    .stl 0 (2 ^ 40) 0 0,
    .amo 516 0 0 0 0,
    .amo 0 (2 ^ 40) 0 0 0,
    .cas 516 0 0 0,
    .cas 0 (2 ^ 40) 0 0,
    .beq 516 0 0 0,
    .beq 0 (2 ^ 40) 0 0,
    .bne 516 0 0 0,
    .bne 0 (2 ^ 40) 0 0,
    .blt 516 0 0 0,
    .blt 0 (2 ^ 40) 0 0,
    .bge 516 0 0 0,
    .bge 0 (2 ^ 40) 0 0,
    .bltu 516 0 0 0,
    .bltu 0 (2 ^ 40) 0 0,
    .bgeu 516 0 0 0] : List Instr).all (fun c => !c.wf) = true := by decide +kernel

/-- Operands out of range are refused, part 15. -/
theorem test_ill_formed_15 : ([
    .bgeu 0 (2 ^ 40) 0 0,
    .jal 516 0 0,
    .jal 0 (2 ^ 40) 0,
    .jalr 516 0 0 0,
    .jalr 0 (2 ^ 40) 0 0,
    .relayHurdle 516 0,
    .relayHurdle 0 (2 ^ 40),
    .bsend 516 0 0 0,
    .bsend 0 (2 ^ 40) 0 0,
    .brecv 516 0 0 0,
    .brecv 0 (2 ^ 40) 0 0,
    .wait 516 0 0,
    .wait 0 (2 ^ 40) 0,
    .thset 516 0 0 0 0,
    .thset 0 (2 ^ 40) 0 0 0,
    .thgo 516 0 0,
    .thgo 0 (2 ^ 40) 0,
    .thstop 516 0 0,
    .thstop 0 (2 ^ 40) 0,
    .thexit 516,
    .brk 516 0,
    .brk 0 (2 ^ 40),
    .srr 516 0 0,
    .srr 0 (2 ^ 40) 0] : List Instr).all (fun c => !c.wf) = true := by decide +kernel

/-- Operands out of range are refused, part 16. -/
theorem test_ill_formed_16 : ([
    .srw 516 0 0,
    .srw 0 (2 ^ 40) 0,
    .calls 516 0,
    .calls 0 (2 ^ 40),
    .sret 516,
    .sleep 516,
    .loadReturn 516 [] false,
    .creditGrant 4096,
    .threadTimer 512,
    .stallDetect 64,
    .relayStart (.host 4104) 0,
    .relayStart (.host 0) 512,
    .relayStop (.host 4104) 0,
    .relayStop (.host 0) 512,
    .threadHalt (.host 4104) 0,
    .threadHalt (.host 0) 512,
    .relayResume (.host 4104) 0,
    .relayResume (.host 0) 512,
    .threadStep (.host 4104) 0,
    .threadStep (.host 0) 512,
    .debugRead (.host 4104) 0 0,
    .debugRead (.host 0) 512 0,
    .debugRead (.host 0) 0 4096,
    .debugWrite (.host 4104) 0 0 0] : List Instr).all (fun c => !c.wf) = true := by decide +kernel

/-- Operands out of range are refused, part 17. -/
theorem test_ill_formed_17 : ([
    .debugWrite (.host 0) 512 0 0,
    .debugWrite (.host 0) 0 4096 0,
    .debugWrite (.host 0) 0 0 (2 ^ 64),
    .rlyStallqRead (.host 4104),
    .rlyFaultqRead (.host 4104),
    .interruptDelivery 4,
    .ieoi 4 0,
    .ieoi 0 (2 ^ 32),
    .irqSwSet (.host 4104) 0,
    .irqSwSet (.host 0) 1024,
    .vectorUnmask 4104 0,
    .vectorUnmask 0 4096,
    .pmcRead (.host 4104) 0 0,
    .pmcRead (.host 0) 32 0,
    .pmcRead (.host 0) 0 32,
    .configRequest 4104 default,
    .bar4Access 8 0 0 none,
    .completionTimeout 2 0,
    .completionTimeout 0 4096,
    .lateCompletion 2 0,
    .lateCompletion 0 4096,
    .quarantineExpiry 2 0,
    .quarantineExpiry 0 4096,
    .bmeClear 4104] : List Instr).all (fun c => !c.wf) = true := by decide +kernel

/-- Operands out of range are refused, part 18. -/
theorem test_ill_formed_18 : ([
    .bmeSet 4104,
    .flrStart 4104,
    .flrComplete 4104,
    .d3hotEntry 8,
    .d0Return 8,
    .perst 2 false,
    .translationResponse 4104 0 0 false false false,
    .translationResponse 0 (2 ^ 52) 0 false false false,
    .translationResponse 0 0 (2 ^ 52) false false false,
    .invalidateRequest 4104 0 0 0,
    .invalidateRequest 0 32 0 0,
    .invalidateRequest 0 0 (2 ^ 52) 0,
    .invalidateRequest 0 0 0 ((2 ^ 52 + 1)),
    .invalidationCompletion 4104 0,
    .invalidationCompletion 0 32,
    .atsDisable 4104,
    .mailboxSeqWrite (.host 4104) 0 false 0,
    .mailboxSeqWrite (.host 0) 4096 false 0,
    .mailboxSeqWrite (.host 0) 0 false (2 ^ 32),
    .mailboxAckWrite (.host 4104) 0 false 0,
    .mailboxAckWrite (.host 0) 4096 false 0,
    .mailboxAckWrite (.host 0) 0 false (2 ^ 32),
    .mbxMsgqRead (.host 4104),
    .freeze (.host 4104) 0] : List Instr).all (fun c => !c.wf) = true := by decide +kernel

/-- Operands out of range are refused, part 19. -/
theorem test_ill_formed_19 : ([
    .freeze (.host 0) 8,
    .drainTimeout 4096,
    .save (.host 4104) 0 false,
    .save (.host 0) 8 false,
    .restore (.host 4104) 0 false [],
    .restore (.host 0) 8 false [],
    .unfreeze (.host 4104) 0,
    .unfreeze (.host 0) 8,
    .hifEvqRead (.host 4104),
    .deviceReset 256 false,
    .serdesCalibrated 5 false,
    .gddr6TrainingDone 12 false,
    .memoryInitDone 3,
    .phaseRequest (.host 4104) 0,
    .phaseRequest (.host 0) (2 ^ 32),
    .reboot (.host 4104) 0,
    .reboot (.host 0) 256,
    .relayRelease (.host 4104),
    .bootRelease (.host 4104) 0,
    .bootRelease (.host 0) (2 ^ 32),
    .svnAdvance (.host 4104) 0 false,
    .svnAdvance (.host 0) (2 ^ 32) false,
    .revoke (.host 4104) 0 false,
    .revoke (.host 0) 4 false] : List Instr).all (fun c => !c.wf) = true := by decide +kernel

/-- Operands out of range are refused, part 20. -/
theorem test_ill_formed_20 : ([
    .programHash (.host 4104) 0 false,
    .programHash (.host 0) 4 false,
    .setFlag (.host 4104) 0 false,
    .setFlag (.host 0) (2 ^ 32) false,
    .bootLockSet (.host 4104) 0,
    .bootLockSet (.host 0) (2 ^ 32),
    .measurementExtend (.host 4104) 0,
    .measurementExtend (.host 0) 8,
    .recoveryRead (.host 4104) 0 false default,
    .uartData [] (2 ^ 32),
    .uartEnd (2 ^ 32) false false,
    .uartAbort (2 ^ 32),
    .mntStart (.host 4104) 0,
    .mntStart (.host 0) 256,
    .mntStop (.host 4104) 0,
    .mntStop (.host 0) 256,
    .activityAutoStart 8,
    .activityEnd 8 0,
    .scrubLine (2 ^ 40) false false,
    .retrainStep 12 false,
    .scrubLogRead (.host 4104),
    .heartbeatReceive 8 0 0 [],
    .heartbeatReceive 0 (2 ^ 32) 0 [],
    .heartbeatReceive 0 0 4 []] : List Instr).all (fun c => !c.wf) = true := by decide +kernel

/-- Operands out of range are refused, part 21. -/
theorem test_ill_formed_21 : ([
    .pairKick (.host 4104),
    .deltaAckReceive (2 ^ 64),
    .chargeReportReceive 4096 0,
    .chargeReportReceive 0 (2 ^ 64),
    .promote (.host 4104) false,
    .handover (.host 4104),
    .smbusWake 256,
    .pcieLinkDown 8,
    .pcieLinkUp 8,
    .illegalInstruction 516 0,
    .illegalInstruction 0 (2 ^ 32),
    .badInstr 256] : List Instr).all (fun c => !c.wf) = true := by decide +kernel

/-! ### Worked examples of the spec and test vectors of the standards -/

/-- The example of chapter Relay instruction set: SRR, ADDI, STL, BSEND and BNE as words. -/
theorem test_relay_words : [0xE0C00007, 0x40A00140, 0x85060000, 0xC0E50001, 0x94E00006].map decodeRelay =
    [some (.srr 6 7), some (.addi 5 0 0x140), some (.stl 8 6 0), some (.bsend 7 5 1), some (.bne 7 0 6)] := by decide +kernel

/-- The example of chapter Architecture: with every area at its maximum the firmware area ends below offset 0x1_2400_0000. -/
theorem test_area_maxima :
    areaBase { State.reset with areas := { flow := 2048, conn := 256, rgn := 256, key := 128, stage := 16384, ledger := 64 } } 5 =
      g6Base + 0x124000000 := by decide +kernel

/-- FIPS 180-4: SHA-256 of "abc". -/
theorem test_sha256 : ofBe (sha2 0 [0x61, 0x62, 0x63]) =
    0xBA7816BF8F01CFEA414140DE5DAE2223B00361A396177A9CB410FF61F20015AD := by decide +kernel

/-- FIPS 180-4: SHA-384 of "abc". -/
theorem test_sha384 : ofBe (sha2 1 [0x61, 0x62, 0x63]) =
    0xCB00753F45A35E8BB5A03D699AC65007272C32AB0EDED1631A8B605A43FF5BED8086072BA1E7CC2358BAECA134C825A7 := by decide +kernel

/-- FIPS 197, appendix C.1: one block under AES-128, and back. -/
theorem test_aes128 :
    let ks := aesKeys (beBytes 16 0x000102030405060708090A0B0C0D0E0F)
    let c := [0x69, 0xC4, 0xE0, 0xD8, 0x6A, 0x7B, 0x04, 0x30, 0xD8, 0xCD, 0xB7, 0x80, 0x70, 0xB4, 0xC5, 0x5A]
    aesBlock ks ((List.range 16).map (17 * ·)) = c ∧ aesUnblock ks c = (List.range 16).map (17 * ·) := by decide +kernel

/-- The first test cases of GCM: AES-128 under the zero key and nonce, without text and with one block of zeros. -/
theorem test_gcm :
    ofBe (gcmTag (beBytes 16 0) (beBytes 12 0) [] []) = 0x58E2FCCEFA7E3061367F1D57A4E7455A ∧
    ofBe (gcmText (beBytes 16 0) (beBytes 12 0) (beBytes 16 0)) = 0x0388DACE60B6A392F328C2B971B2FE78 ∧
    ofBe (gcmTag (beBytes 16 0) (beBytes 12 0) [] (beBytes 16 0x0388DACE60B6A392F328C2B971B2FE78)) =
      0xAB6E47D42CEC13BDF53A67B21257BDDF := by decide +kernel

/-- RFC 8439, section 2.3.2: a block of ChaCha20. -/
theorem test_chacha : ofBe ((chachaBlock ((List.range 32).map (BitVec.ofNat 8 ·)) (beBytes 12 0x000000090000004A00000000) 1).take 16) =
    0x10F1E7E4D13B5915500FDD1FA32071C4 := by decide +kernel

/-- IEEE 1619, vector 1: AES-128-XTS of 32 zero bytes under zero keys and tweak 0. -/
theorem test_xts : ofBe (xtsData true (beBytes 32 0) 0 (beBytes 32 0)) =
    0x917CF69EBD68B2EC9B9FE9A3EADDA692CD43D2F59598ED858C02C2652FBF922E := by decide +kernel

/-- R7's parameters on the check string: CRC-16 of "123456789" is 0xD0DB, and CRC-32 0xCBF43926. -/
theorem test_crcs : crc16 ((List.range 9).map fun i => BitVec.ofNat 8 (0x31 + i)) = 0xD0DB ∧
    crc32 ((List.range 9).map fun i => BitVec.ofNat 8 (0x31 + i)) = 0xCBF43926 := by decide +kernel

/-- Twice the same step from the same queue: the front command is taken and the rest waits. -/
theorem test_step_takes_front : (match step { State.reset with pending := [.pllLock, .pllLock] } with
    | .next t => decide (t.pending = [.pllLock]) && t.start.pll
    | _ => false) = true := by decide +kernel

end Sys2Proof.Tests
end

section
/-! SUPPORT. What the writes of ENABLE, APPLY and APPLY_TIME do while the clocks run and the field is writable (R10, R11,
R18 to R24), and the obligation O2 that they settle. -/
namespace Sys2Proof.Machine

/-! ### The common registers as fields of the register store -/

theorem armTimeField_key (b : Blk) : (armTimeField b).key 0 0 = b.base * 8 + 65 := by
  simp only [Desc.key, armTimeField, reg1]; omega

theorem applyTtField_key (b : Blk) : (applyTtField b).key 0 0 = b.base * 8 + 128 := by
  simp only [Desc.key, applyTtField, reg1]; omega

theorem applyLateField_key (b : Blk) : (applyLateField b).key 0 0 = b.base * 8 + 194 := by
  simp only [Desc.key, applyLateField, reg1]; omega

/-- Setting arm_time leaves the time of the application. -/
theorem rd_applyTt_wr_armTime (s : State) (b : Blk) (v : Nat) :
    (s.wr (armTimeField b) v).rd (applyTtField b) = s.rd (applyTtField b) :=
  State.rd_wr_other s _ _ v 0 0 0 0 (by rw [armTimeField_key, applyTtField_key]; omega)

/-- Setting apply_late leaves the time of the application. -/
theorem rd_applyTt_wr_applyLate (s : State) (b : Blk) (v : Nat) :
    (s.wr (applyLateField b) v).rd (applyTtField b) = s.rd (applyTtField b) :=
  State.rd_wr_other s _ _ v 0 0 0 0 (by rw [applyLateField_key, applyTtField_key]; omega)

/-- Setting apply_late leaves arm_time. -/
theorem rd_armTime_wr_applyLate (s : State) (b : Blk) (v : Nat) :
    (s.wr (applyLateField b) v).rd (armTimeField b) = s.rd (armTimeField b) :=
  State.rd_wr_other s _ _ v 0 0 0 0 (by rw [applyLateField_key, armTimeField_key]; omega)

/-- A write of a register leaves the time. -/
@[simp] theorem now_wr (s : State) (d : Desc) (v i j : Nat) : now (s.wr d v i j) = now s := by
  rw [now, now, State.wr_tt]

/-! ### Stop and start of a block (R11, R18, R968) -/

/-- The stop of a block other than NRG and PAIR brings nothing with it. -/
theorem blockStops_plain {b : Blk} (s : State) (hnrg : b ≠ .nrg) (hpair : b ≠ .pair) : blockStops b s = s := by
  unfold blockStops
  split
  · exact absurd rfl hnrg
  · exact absurd rfl hpair
  · rfl

/-- A running block stops when 0 is written. -/
theorem setEnable_stop {s : State} {b : Blk} (h : enabled s b = true) :
    setEnable b false s = blockStops b (s.wr (enableField b) 0) := by simp [setEnable, h]

/-- The start of TT brings nothing with it. -/
theorem blockStarts_tt (s : State) : blockStarts .tt s = s := rfl

/-- A stopped block starts when 1 is written and nothing in its chapter forbids the start. -/
theorem setEnable_start {s : State} {b : Blk} (h : enabled s b = false) (hc : comboOk s b = true)
    (ho : enableOk s b = true) : setEnable b true s = blockStarts b (s.wr (enableField b) 1) := by
  simp [setEnable, h, hc, ho]

/-! ### Applications asked for and due (R19 to R24) -/

theorem askApply_new {s : State} {b : Blk} (h : s.applyReq.contains b = false) :
    askApply b s = { s with applyReq := s.applyReq ++ [b] } := by
  rw [askApply, h, if_neg Bool.false_ne_true]

theorem armedDue_new {s : State} {b : Blk} (h : s.armDue.contains b = false) :
    armedDue b s = { s with armDue := s.armDue ++ [b] } := by
  rw [armedDue, h, if_neg Bool.false_ne_true]

/-- An application that is made due is due, whether it was before or not. -/
theorem armedDue_contains (b : Blk) (s : State) : (armedDue b s).armDue.contains b = true := by
  unfold armedDue
  split
  case isTrue h => exact h
  case isFalse => simp

/-- An application made due changes no register. -/
@[simp] theorem rd_armedDue (b : Blk) (s : State) (d : Desc) (i j : Nat) : (armedDue b s).rd d i j = s.rd d i j :=
  State.rd_congr (by unfold armedDue; split <;> rfl) d i j

/-- That an application is due no more, and a write of a register, take effect in either order. -/
theorem armedOff_wr (b : Blk) (s : State) (d : Desc) (v i j : Nat) :
    armedOff b (s.wr d v i j) = (armedOff b s).wr d v i j := by
  unfold State.wr
  split <;> rfl

/-! ### What the commands do on a writable field -/

section Writable

variable {s : State} {who : Initiator} {b : Blk}

/-- While the clocks run, a write command on a writable field has its effect on the block alone. -/
theorem run_setupWrite {d : Desc} {i : Nat} (hrun : stopped s = false) (hw : writable who d i s = true) (value : Nat)
    (f : State → State) : run s (fun s => setupWrite d i value who s f) = .next (f s) := by
  rw [run_running s _ hrun, setupWrite_writable d i value who s f hw]

theorem exec_enableWrite_writable (hrun : stopped s = false) (hw : writable who (enableField b) 0 s = true) (v : Bool) :
    exec (.enableWrite who b v) s = .next (setEnable b v s) :=
  run_setupWrite hrun hw _ _

theorem exec_lockSet_writable (hrun : stopped s = false) (hw : writable who (lockField b) 0 s = true)
    (hlock : hasLock b = true) : exec (.lockSet who b) s = .next (s.wr (lockField b) 1) :=
  (run_setupWrite hrun hw _ _).trans (by rw [if_pos hlock])

theorem exec_applyNow_writable (hrun : stopped s = false) (hw : writable who (applyNowField b) 0 s = true) :
    exec (.applyNow who b) s = .next (askApply b s) :=
  run_setupWrite hrun hw _ _

/-- With apply_now in the same write, the write only asks for an application (R22). -/
theorem exec_armTime_applyNow (hrun : stopped s = false) (hw : writable who (armTimeField b) 0 s = true) :
    exec (.armTime who b true) s = .next (askApply b s) :=
  (run_setupWrite hrun hw _ _).trans (by rw [if_pos rfl])

/-- A time that has not passed is armed; a time equal to now counts as not passed, which is the model's reading of R21
(entry 15 of the assumption log). -/
theorem exec_armTime_ahead (hrun : stopped s = false) (hw : writable who (armTimeField b) 0 s = true)
    (htime : now s ≤ s.rd (applyTtField b)) : exec (.armTime who b false) s = .next (s.wr (armTimeField b) 1) :=
  (run_setupWrite hrun hw _ _).trans (by
    simp only [Bool.false_eq_true, if_false, rd_applyTt_wr_armTime, now_wr, if_neg (Nat.not_lt.2 htime)])

/-- A time that has passed is armed, late and due at once (R21). -/
theorem exec_armTime_late (hrun : stopped s = false) (hw : writable who (armTimeField b) 0 s = true)
    (htime : s.rd (applyTtField b) < now s) : exec (.armTime who b false) s =
      .next (armedDue b ((s.wr (armTimeField b) 1).wr (applyLateField b) 1)) :=
  (run_setupWrite hrun hw _ _).trans (by
    simp only [Bool.false_eq_true, if_false, rd_applyTt_wr_armTime, now_wr, if_pos htime])

theorem exec_disarmTime_writable (hrun : stopped s = false) (hw : writable who (armTimeField b) 0 s = true) :
    exec (.disarmTime who b) s = .next ((armedOff b s).wr (armTimeField b) 0) :=
  (run_setupWrite hrun hw _ _).trans (by rw [armedOff_wr])

theorem exec_applyTimeWrite_writable (hrun : stopped s = false) (hw : writable who (applyTtField b) 0 s = true) (v : Nat) :
    exec (.applyTimeWrite who b v) s = .next ((armedOff b s).wr (applyTtField b) v) :=
  (run_setupWrite hrun hw _ _).trans (by rw [armedOff_wr])

/-- An armed application whose time is reached is due (R20). -/
theorem exec_armedApplication_reached (hrun : stopped s = false) (harmed : s.rd (armTimeField b) = 1)
    (htime : s.rd (applyTtField b) ≤ now s) : exec (.armedApplication b) s = .next (armedDue b s) :=
  (run_running s _ hrun).trans (by
    have hon : s.on (armTimeField b) = true := by simp [State.on, harmed]
    simp [hon, htime])

end Writable

/-! ### The registers after a late arming -/

/-- What stands after a timed application is armed too late: it is armed and marked late, at the same time (R21). -/
theorem rd_after_late_arming (s : State) (b : Blk) :
    let t := armedDue b ((s.wr (armTimeField b) 1).wr (applyLateField b) 1)
    t.rd (armTimeField b) = 1 ∧ t.rd (applyLateField b) = 1 ∧ t.rd (applyTtField b) = s.rd (applyTtField b) := by
  simp only [rd_armedDue]
  refine ⟨?_, ?_, ?_⟩
  · rw [rd_armTime_wr_applyLate]
    exact State.rd_wr_same s (armTimeField b) 1 0 0 rfl
  · exact State.rd_wr_same _ (applyLateField b) 1 0 0 rfl
  · rw [rd_applyTt_wr_applyLate, rd_applyTt_wr_armTime]

/-- Settles O2: each command on a writable field is a `run` of a `setupWrite` that goes through, so that each clause is the
equation of the command's own effect. -/
theorem commonRegisterCommands : Obligations.CommonRegisterCommands := by
  unfold Obligations.CommonRegisterCommands
  refine ⟨?stop, ?startTt, ?lock, ?applyNow, ?armAhead, ?armLate, ?armWithApplyNow, ?disarm, ?applyTime, ?reached⟩
  case stop =>
    intro s who b hrun hw hon hnrg hpair
    rw [exec_enableWrite_writable hrun hw, setEnable_stop hon, blockStops_plain _ hnrg hpair]
  case startTt =>
    intro s who hrun hw hoff
    rw [exec_enableWrite_writable hrun hw, setEnable_start hoff rfl rfl, blockStarts_tt]
  case lock => exact fun s who b hrun hw hlock => exec_lockSet_writable hrun hw hlock
  case applyNow =>
    intro s who b hrun hw hnew
    rw [exec_applyNow_writable hrun hw, askApply_new hnew]
  case armAhead => exact fun s who b hrun hw htime => exec_armTime_ahead hrun hw htime
  case armLate =>
    intro s who b hrun hw htime
    obtain ⟨harmed, hlate, htt⟩ := rd_after_late_arming s b
    exact ⟨_, exec_armTime_late hrun hw htime, harmed, hlate, armedDue_contains b _, htt⟩
  case armWithApplyNow =>
    intro s who b hrun hw hnew
    rw [exec_armTime_applyNow hrun hw, askApply_new hnew]
  case disarm => exact fun s who b hrun hw => exec_disarmTime_writable hrun hw
  case applyTime => exact fun s who b v hrun hw => exec_applyTimeWrite_writable hrun hw v
  case reached =>
    intro s b hrun harmed htime hnew
    rw [exec_armedApplication_reached hrun harmed htime, armedDue_new hnew]

end Sys2Proof.Machine
end

section
/-! SUPPORT. The commands and events of track time while the clocks run (R44 to R66, R76, R77), and the obligations O5 and
O6 that they settle. -/
namespace Sys2Proof.Machine

/-! ### One-bit fields, integers, and the order of changes -/

theorem on_of_rd_one {s : State} {d : Desc} {i j : Nat} (h : s.rd d i j = 1) : s.on d i j = true := by
  simp [State.on, h]

theorem on_of_rd_zero {s : State} {d : Desc} {i j : Nat} (h : s.rd d i j = 0) : s.on d i j = false := by
  simp [State.on, h]

theorem clampInt_inside {lo hi x : Int} (hlo : lo ≤ x) (hhi : x ≤ hi) : clampInt lo hi x = x := by
  rw [clampInt, if_neg (by omega), if_neg (by omega)]

theorem clampInt_above {lo hi x : Int} (hle : lo ≤ hi) (h : hi < x) : clampInt lo hi x = hi := by
  rw [clampInt, if_neg (by omega), if_pos h]

/-- The signed reading and the wrapping of an integer are inverse on the low bits. -/
theorem wrapInt_signed (w v : Nat) : wrapInt w (signed w v) = v % 2 ^ w := by
  have hmod : signed w v % ((2 ^ w : Nat) : Int) = ((v % 2 ^ w : Nat) : Int) := by
    unfold signed
    dsimp only
    split
    · rw [← Int.natCast_emod, Nat.mod_mod]
    · rw [Int.sub_emod_right, ← Int.natCast_emod, Nat.mod_mod]
  rw [wrapInt, hmod, Int.toNat_natCast]

/-- A write of a register and the feeding of the servo's watchdog take effect in either order. -/
theorem feedServo_wr (s : State) (d : Desc) (v i j : Nat) :
    feedServo (s.wr d v i j) = (feedServo s).wr d v i j := by
  unfold State.wr
  split <;> rfl

/-- Of two answers with a register written between them, the second stands. -/
theorem answer_wr_answer (s : State) (x y : Nat) (d : Desc) (v i j : Nat) :
    answer ((answer s x).wr d v i j) y = answer (s.wr d v i j) y := by
  unfold State.wr
  split <;> rfl

/-! ### What a raised source leaves in the registers -/

/-- A vector request changes no register but the count of bad vectors. -/
theorem rd_requestVector_other (s : State) (f v : Nat) (e : Desc) (k l : Nat)
    (h : e.key k l ≠ IRQ_MSIX_BAD.count.key 0 0) : (requestVector s f v).rd e k l = s.rd e k l := by
  rcases requestVector_cases s f v with hbad | hpending | hnothing | hsent
  · rw [hbad, State.rd_count_other _ _ _ _ _ _ _ _ h]
  · rw [hpending, State.rd_congr (updMsix_regs s f v _)]
  · rw [hnothing]
  · rw [hsent]
    exact State.rd_congr rfl e k l

/-- A raised source changes no register but its asserted bit and the count of bad vectors. -/
theorem rd_raise_other (s : State) (n : Nat) (e : Desc) (k l : Nat) (hbit : e.key k l ≠ IRQ_SRC.asserted.key n 0)
    (hbad : e.key k l ≠ IRQ_MSIX_BAD.count.key 0 0) : (raise s n).rd e k l = s.rd e k l := by
  rcases raise_cases s n with h | h
  · rw [h, State.rd_wr_other _ _ _ _ _ _ _ _ hbit]
  · rw [h, rd_requestVector_other _ _ _ _ _ _ hbad, State.rd_wr_other _ _ _ _ _ _ _ _ hbit]

/-- A raised source is asserted (R756). -/
theorem rd_raise_asserted (s : State) {n : Nat} (hn : n < 1024) : (raise s n).rd IRQ_SRC.asserted n = 1 := by
  have hset : (s.wr IRQ_SRC.asserted 1 n).rd IRQ_SRC.asserted n = 1 :=
    State.rd_wr_same s IRQ_SRC.asserted 1 n 0 (by simp [Desc.has, IRQ_SRC.asserted, hn])
  have hbad : IRQ_SRC.asserted.key n 0 ≠ IRQ_MSIX_BAD.count.key 0 0 := by
    simp only [Desc.key, IRQ_SRC.asserted, IRQ_MSIX_BAD.count]; omega
  rcases raise_cases s n with h | h
  · rw [h, hset]
  · rw [h, rd_requestVector_other _ _ _ _ _ _ hbad, hset]

/-! ### The slew (R48) -/

/-- A slew that does not saturate is the sum. -/
theorem addSlew_within {s : State} {ns : Int}
    (h : (s.tt.slew + ns * (nsUnit : Int)).natAbs ≤ (2 ^ 31 - 1) * nsUnit) :
    addSlew s ns = noteSlew { s with tt := { s.tt with slew := s.tt.slew + ns * (nsUnit : Int) } } := by
  have hcast : (((2 ^ 31 - 1) * nsUnit : Nat) : Int) = (2 ^ 31 - 1) * (nsUnit : Int) := rfl
  rw [addSlew, clampInt_inside (by omega) (by omega)]

/-- A slew that remains shows in TT_STATUS.slewing. -/
theorem noteSlew_remaining {s : State} (h : s.tt.slew ≠ 0) : noteSlew s = s.wr TT_STATUS.slewing 1 := if_neg h

/-- A change of the slew changes no register but TT_STATUS.slewing. -/
theorem rd_addSlew_other (s : State) (ns : Int) (e : Desc) (k l : Nat) (h : e.key k l ≠ TT_STATUS.slewing.key 0 0) :
    (addSlew s ns).rd e k l = s.rd e k l := by
  unfold addSlew noteSlew
  dsimp only
  split
  · rfl
  · rw [State.rd_wr_other _ _ _ _ _ _ _ _ h]
    rfl

/-! ### The commands on a writable field -/

section Writable

variable {s : State} {who : Initiator}

theorem exec_ttLoad_writable (hrun : stopped s = false) (hw : writable who TT_LOAD.tt64 0 s = true) (v : Nat) :
    exec (.ttLoad who v) s = .next (if s.on TT_STATUS.valid then s.wr TT_STATUS.step_refused 1
      else { s with tt := { s.tt with load := some (v % 2 ^ 64), stepBy := 0 } }) :=
  run_setupWrite hrun hw _ _

theorem exec_ttStep_writable (hrun : stopped s = false) (hw : writable who TT_STEP.delta 0 s = true) (d : Nat) :
    exec (.ttStep who d) s = .next (if s.on TT_CTL.step_enable && decide (1 ≤ d) && decide (d ≤ 1000000000) then
      { s with tt := { s.tt with stepBy := s.tt.stepBy + d } } else s.wr TT_STATUS.step_refused 1) :=
  run_setupWrite hrun hw _ _

/-- A step is refused where steps are not enabled or its delta is not legal (R47, R77). -/
theorem exec_ttStep_refused (hrun : stopped s = false) (hw : writable who TT_STEP.delta 0 s = true) {d : Nat}
    (hbad : s.rd TT_CTL.step_enable = 0 ∨ d = 0 ∨ 1000000000 < d) :
    exec (.ttStep who d) s = .next (s.wr TT_STATUS.step_refused 1) := by
  rw [exec_ttStep_writable hrun hw, if_neg]
  simp only [Bool.and_eq_true, decide_eq_true_eq]
  rintro ⟨⟨hon, hpos⟩, hle⟩
  rcases hbad with hoff | hzero | hlong
  · exact absurd hon (by simp [on_of_rd_zero hoff])
  · omega
  · omega

theorem exec_ttPhaseAdj_writable (hrun : stopped s = false) (hw : writable who TT_PHASE_ADJ.slew_ns 0 s = true) (v : Nat) :
    exec (.ttPhaseAdj who v) s = .next (feedServo (addSlew s (signed 32 v))) :=
  run_setupWrite hrun hw _ _

/-- The clamped adjustment is written and the servo's watchdog is fed (R53, R77). -/
theorem exec_ttFreqAdj_writable (hrun : stopped s = false) (hw : writable who TT_FREQ_ADJ.adj 0 s = true) (v : Nat) :
    exec (.ttFreqAdj who v) s = .next ((feedServo s).wr TT_FREQ_ADJ.adj
      (wrapInt 32 (clampInt (-200000000) 200000000 (signed 32 v)))) :=
  (run_setupWrite hrun hw _ _).trans (by rw [feedServo_wr])

/-- A report of lock qualifies phase source 2 in holdover (R57). -/
theorem exec_ttServoWrite_qualifies (hrun : stopped s = false) (hw : writable who TT_SERVO.ptp_locked 0 s = true)
    (hsrc : s.rd TT_CTL.phase_src = 2) (hhold : s.rd TT_STATUS.holdover = 1) : exec (.ttServoWrite who true) s =
      .next { s.wr TT_SERVO.ptp_locked 1 with tt := { s.tt with qualified := true } } :=
  (run_setupWrite hrun hw _ _).trans (by
    simp (disch := decide) [State.rd_wr_other, State.on_wr_other, hsrc, on_of_rd_one hhold, flag])

/-- A report of no lock, from a source that is not locked to, withdraws the qualification (R57, R60). -/
theorem exec_ttServoWrite_withdraws (hrun : stopped s = false) (hw : writable who TT_SERVO.ptp_locked 0 s = true)
    (hsrc : s.rd TT_CTL.phase_src = 2) (hfree : s.rd TT_STATUS.locked = 0) : exec (.ttServoWrite who false) s =
      .next { s.wr TT_SERVO.ptp_locked 0 with tt := { s.tt with qualified := false } } :=
  (run_setupWrite hrun hw _ _).trans (by
    simp (disch := decide) [State.rd_wr_other, State.on_wr_other, hsrc, on_of_rd_zero hfree, flag])

theorem exec_ttNowRead_reaches (hrun : stopped s = false) (hreach : reaches who Blk.tt.base = true) :
    exec (.ttNowRead who) s = .next (answer (s.wr TT_NOW_FRAC.frac (nowFrac s)) (now s)) := by
  change execTtNowRead who s = _
  rw [execTtNowRead, run_running s _ hrun, managed_reaches _ _ _ _ hreach, answer_wr_answer]
  rfl

end Writable

/-- Settles O5: each command on a writable field is the equation of its own effect, and each clause takes the branch that
its hypotheses choose.  That several steps before a tick add up and a load drops them is the model's choice (entry 21 of
the assumption log). -/
theorem trackTimeWrites : Obligations.TrackTimeWrites := by
  unfold Obligations.TrackTimeWrites
  refine ⟨?load, ?loadRefused, ?step, ?stepRefused, ?phaseAdj, ?freqAdj, ?freqAdjAbove, ?servoLocked, ?servoFree, ?nowRead⟩
  case load =>
    intro s who v hrun hw hinvalid hv
    rw [exec_ttLoad_writable hrun hw, on_of_rd_zero hinvalid, if_neg Bool.false_ne_true, Nat.mod_eq_of_lt hv]
  case loadRefused =>
    intro s who v hrun hw hvalid
    rw [exec_ttLoad_writable hrun hw, on_of_rd_one hvalid, if_pos rfl]
  case step =>
    intro s who d hrun hw hon hpos hle
    rw [exec_ttStep_writable hrun hw, if_pos (by simp [on_of_rd_one hon, hpos, hle])]
  case stepRefused => exact fun s who d hrun hw hbad => exec_ttStep_refused hrun hw hbad
  case phaseAdj =>
    intro s who v hrun hw hfits hslew
    rw [exec_ttPhaseAdj_writable hrun hw, addSlew_within hfits, noteSlew_remaining hslew, feedServo_wr]
    rfl
  case freqAdj =>
    intro s who v hrun hw hlo hhi
    rw [exec_ttFreqAdj_writable hrun hw, clampInt_inside hlo hhi, wrapInt_signed]
    rfl
  case freqAdjAbove =>
    intro s who v hrun hw hhi
    rw [exec_ttFreqAdj_writable hrun hw, clampInt_above (by decide) hhi]
    rfl
  case servoLocked => exact fun s who hrun hw hsrc hhold => exec_ttServoWrite_qualifies hrun hw hsrc hhold
  case servoFree => exact fun s who hrun hw hsrc hfree => exec_ttServoWrite_withdraws hrun hw hsrc hfree
  case nowRead => exact fun s who hrun hreach => exec_ttNowRead_reaches hrun hreach

/-! ### An edge on PPS_IN (R49, R56, R60) -/

/-- The edge is captured with its fraction and TT_PPS is raised. -/
def captureEdge (s : State) : State :=
  raise ((s.wr TT_PPS_CAP.tt64 (now s)).wr TT_PPS_CAP_FRAC.frac (nowFrac s)) 0x040

/-- An edge toward qualification changes no register but TT_STATUS.slewing. -/
theorem rd_countEdge_other (s : State) (e : Desc) (k l : Nat) (h : e.key k l ≠ TT_STATUS.slewing.key 0 0) :
    (countEdge s).rd e k l = s.rd e k l := by
  unfold countEdge
  extract_lets follows c s1
  split
  · rw [rd_addSlew_other _ _ _ _ _ h]
    rfl
  · rfl

/-- With a phase source other than 1 an edge is captured and does nothing more. -/
theorem exec_ppsEdge_otherSource {s : State} (hrun : stopped s = false) (hsrc : s.rd TT_CTL.phase_src ≠ 1) :
    exec .ppsEdge s = .next (captureEdge s) := by
  have hsame : (captureEdge s).rd TT_CTL.phase_src = s.rd TT_CTL.phase_src := by
    simp (disch := decide) only [captureEdge, rd_raise_other, State.rd_wr_other]
  change execPpsEdge s = _
  rw [execPpsEdge, run_running s _ hrun]
  refine congrArg _ (if_pos ?_)
  rw [Bool.or_eq_true]
  exact .inl (decide_eq_true (hsame ▸ hsrc))

/-- Whatever else an edge does, the registers but TT_STATUS.slewing are those of its capture. -/
theorem exec_ppsEdge_registers {s : State} (hrun : stopped s = false) : ∃ t, exec .ppsEdge s = .next t ∧
    ∀ (e : Desc) (k l : Nat), e.key k l ≠ TT_STATUS.slewing.key 0 0 → t.rd e k l = (captureEdge s).rd e k l := by
  change ∃ t, execPpsEdge s = _ ∧ _
  rw [execPpsEdge, run_running s _ hrun]
  refine ⟨_, rfl, fun e k l h => ?_⟩
  dsimp only
  split
  · rfl
  · split
    · split
      · rfl
      · split <;> rfl
    · exact rd_countEdge_other _ e k l h

/-- What an edge leaves in the capture registers, and its source. -/
theorem rd_captureEdge (s : State) : (captureEdge s).rd TT_PPS_CAP.tt64 = now s % 2 ^ 64 ∧
    (captureEdge s).rd TT_PPS_CAP_FRAC.frac = nowFrac s % 2 ^ 16 ∧ (captureEdge s).rd IRQ_SRC.asserted 0x040 = 1 := by
  refine ⟨?_, ?_, rd_raise_asserted _ (by decide)⟩
  · simp (disch := decide) only [captureEdge, rd_raise_other, State.rd_wr_other]
    exact State.rd_wr_same s TT_PPS_CAP.tt64 _ 0 0 rfl
  · simp (disch := decide) only [captureEdge, rd_raise_other]
    exact State.rd_wr_same _ TT_PPS_CAP_FRAC.frac _ 0 0 rfl

/-! ### Holdover and lock (R53, R54, R58, R60) -/

/-- A source that has qualified has to qualify anew. -/
def unqualify (s : State) : State := { s with tt := { s.tt with qualified := false, qualCount := 0 } }

@[simp] theorem rd_unqualify (s : State) (d : Desc) (i j : Nat) : (unqualify s).rd d i j = s.rd d i j := rfl

@[simp] theorem rd_legFlag (s : State) (b : Nat) (d : Desc) (i j : Nat) : (legFlag s b).rd d i j = s.rd d i j := rfl

/-- The start of holdover in its parts (R54). -/
theorem startHoldover_eq (s : State) : startHoldover s = raise (legFlag (unqualify
    (((s.wr TT_STATUS.holdover 1).wr TT_STATUS.locked 0).wr TT_HOLD_TT.tt64 (now s))) 0) 0x041 := rfl

/-- The registers and the source that report the start of holdover (R54). -/
theorem rd_startHoldover (s : State) : (startHoldover s).rd TT_STATUS.holdover = 1 ∧
    (startHoldover s).rd TT_STATUS.locked = 0 ∧ (startHoldover s).rd TT_HOLD_TT.tt64 = now s % 2 ^ 64 ∧
    (startHoldover s).rd IRQ_SRC.asserted 0x041 = 1 := by
  rw [startHoldover_eq]
  refine ⟨?_, ?_, ?_, rd_raise_asserted _ (by decide)⟩
  · simp (disch := decide) only [rd_raise_other, rd_legFlag, rd_unqualify, State.rd_wr_other]
    exact State.rd_wr_same s TT_STATUS.holdover 1 0 0 rfl
  · simp (disch := decide) only [rd_raise_other, rd_legFlag, rd_unqualify, State.rd_wr_other]
    exact State.rd_wr_same _ TT_STATUS.locked 0 0 0 rfl
  · simp (disch := decide) only [rd_raise_other, rd_legFlag, rd_unqualify]
    exact State.rd_wr_same _ TT_HOLD_TT.tt64 _ 0 0 rfl

/-- The start of holdover leaves the frequency adjustment (R54) and TT_STATUS.pps_missing. -/
theorem rd_startHoldover_kept (s : State) : (startHoldover s).rd TT_FREQ_ADJ.adj = s.rd TT_FREQ_ADJ.adj ∧
    (startHoldover s).rd TT_STATUS.pps_missing = s.rd TT_STATUS.pps_missing := by
  rw [startHoldover_eq]
  constructor <;>
    simp (disch := decide) only [rd_raise_other, rd_legFlag, rd_unqualify, State.rd_wr_other]

/-- The start of holdover leaves the remaining slew (R54). -/
theorem startHoldover_slew (s : State) : (startHoldover s).tt.slew = s.tt.slew := by
  simp [startHoldover_eq, legFlag, unqualify]

/-- A window that closes without an edge while locked starts holdover, with pps_missing set (R53). -/
theorem exec_ppsWindowExpiry_closes {s : State} {l : Nat} (hrun : stopped s = false) (hlast : s.tt.lastEdge = some l)
    (hsrc : s.rd TT_CTL.phase_src = 1) (hlocked : s.rd TT_STATUS.locked = 1)
    (htime : l + 1000000000 + s.rd TT_QUAL.pps_win ≤ now s) :
    exec .ppsWindowExpiry s = .next (startHoldover (s.wr TT_STATUS.pps_missing 1)) := by
  change execPpsWindowExpiry s = _
  rw [execPpsWindowExpiry, run_running s _ hrun]
  simp only [hlast]
  rw [if_pos]
  simp only [Bool.and_eq_true, decide_eq_true_eq]
  exact ⟨⟨hsrc, on_of_rd_one hlocked⟩, htime⟩

/-- A servo watchdog that runs out while locked starts holdover (R53). -/
theorem exec_servoWatchdogExpiry_runsOut {s : State} (hrun : stopped s = false) (hsrc : s.rd TT_CTL.phase_src = 2)
    (hlocked : s.rd TT_STATUS.locked = 1) (hwdog : s.rd TT_SERVO.wdog ≠ 0)
    (htime : s.tt.servoTt + s.rd TT_SERVO.wdog * 100000000 ≤ now s) :
    exec .servoWatchdogExpiry s = .next (startHoldover s) := by
  change execServoWatchdogExpiry s = _
  rw [execServoWatchdogExpiry, run_running s _ hrun, if_pos]
  simp only [Bool.and_eq_true, decide_eq_true_eq]
  exact ⟨⟨⟨hsrc, on_of_rd_one hlocked⟩, hwdog⟩, htime⟩

/-- The end of holdover: locked again, and TT_LOCKED raised (R58). -/
def endHoldover (s : State) : State :=
  raise (unqualify ((s.wr TT_STATUS.holdover 0).wr TT_STATUS.locked 1)) 0x042

/-- A qualified source whose slew is within the threshold ends holdover (R58). -/
theorem exec_lockAcquired_holdover {s : State} (hrun : stopped s = false) (hqual : s.tt.qualified = true)
    (hhold : s.rd TT_STATUS.holdover = 1) (hslew : s.tt.slew.natAbs ≤ s.rd TT_QUAL.lock_thresh * nsUnit) :
    exec .lockAcquired s = .next (endHoldover s) := by
  change execLockAcquired s = _
  rw [execLockAcquired, run_running s _ hrun, if_pos]
  · rfl
  · simp only [Bool.and_eq_true, Bool.or_eq_true, decide_eq_true_eq]
    exact ⟨⟨hqual, .inl (on_of_rd_one hhold)⟩, hslew⟩

theorem rd_endHoldover (s : State) : (endHoldover s).rd TT_STATUS.holdover = 0 ∧
    (endHoldover s).rd TT_STATUS.locked = 1 ∧ (endHoldover s).rd IRQ_SRC.asserted 0x042 = 1 := by
  refine ⟨?_, ?_, rd_raise_asserted _ (by decide)⟩
  · simp (disch := decide) only [endHoldover, rd_raise_other, rd_unqualify, State.rd_wr_other]
    exact State.rd_wr_same s TT_STATUS.holdover 0 0 0 rfl
  · simp (disch := decide) only [endHoldover, rd_raise_other, rd_unqualify]
    exact State.rd_wr_same _ TT_STATUS.locked 1 0 0 rfl

/-- The end of holdover leaves the time and the remaining slew. -/
theorem endHoldover_time (s : State) : (endHoldover s).tt.tt = s.tt.tt ∧ (endHoldover s).tt.slew = s.tt.slew := by
  simp [endHoldover, unqualify]

/-! ### A frequency fault, and the end of a slew (R48, R51) -/

theorem exec_refclkFault_onReference {s : State} (hrun : stopped s = false) (hsrc : s.rd TT_CTL.freq_src = 1)
    (hosc : s.tt.onOsc = false) : exec .refclkFault s =
      .next (raise (({ s with tt := { s.tt with onOsc := true } } : State).wr TT_STATUS.freq_fault 1) 0x043) := by
  change execRefclkFault s = _
  rw [execRefclkFault, run_running s _ hrun, if_pos]
  simp only [Bool.and_eq_true, Bool.not_eq_true']
  exact ⟨on_of_rd_one hsrc, hosc⟩

theorem exec_slewEnd_ended {s : State} (hrun : stopped s = false) (hslew : s.tt.slew = 0) :
    exec .slewEnd s = .next (s.wr TT_STATUS.slewing 0) := by
  change execSlewEnd s = _
  rw [execSlewEnd, run_running s _ hrun, if_pos hslew]

/-! ### TX timestamps (R65, R77) -/

/-- The FIFO registers of a port are register writes alone: what no register write changes they leave. -/
theorem syncTxts_keeps {β : Type} (view : State → β)
    (h : ∀ (t : State) (d : Desc) (v i j : Nat), view (t.wr d v i j) = view t) (s : State) (p : Nat) :
    view (syncTxts s p) = view s := by
  unfold syncTxts
  dsimp only
  split <;> simp only [h]

/-- The count of a port shows the length of its FIFO. -/
theorem rd_syncTxts_count (s : State) {p : Nat} (hp : p < 16) :
    (syncTxts s p).rd TT_TXTS_STAT.count p = (txFifo s p).length % 2 ^ 7 := by
  have hcount : (s.wr TT_TXTS_STAT.count (txFifo s p).length p).rd TT_TXTS_STAT.count p = (txFifo s p).length % 2 ^ 7 :=
    State.rd_wr_same s TT_TXTS_STAT.count _ p 0 (by simp [Desc.has, TT_TXTS_STAT.count, hp])
  have hkey : ∀ d ∈ [TT_TXTS.tt64, TT_TXTS.frac, TT_TXTS.seq_id, TT_TXTS.entry_valid],
      TT_TXTS_STAT.count.key p 0 ≠ d.key p 0 := by
    simp only [List.forall_mem_cons, Desc.key, TT_TXTS_STAT.count, TT_TXTS.tt64, TT_TXTS.frac, TT_TXTS.seq_id,
      TT_TXTS.entry_valid]
    refine ⟨?_, ?_, ?_, ?_, by simp⟩ <;> omega
  simp only [List.forall_mem_cons] at hkey
  obtain ⟨htt, hfrac, hseq, hvalid, -⟩ := hkey
  unfold syncTxts
  dsimp only
  split <;>
    rw [State.rd_wr_other _ _ _ _ _ _ _ _ hvalid, State.rd_wr_other _ _ _ _ _ _ _ _ hseq,
      State.rd_wr_other _ _ _ _ _ _ _ _ hfrac, State.rd_wr_other _ _ _ _ _ _ _ _ htt, hcount]

@[simp] theorem txFifo_answer (s : State) (v p : Nat) : txFifo (answer s v) p = txFifo s p := rfl

/-- A port's timestamp FIFO set to a list. -/
def setTxFifo (s : State) (p : Nat) (l : List TxStamp) : State :=
  { s with tt := { s.tt with txFifo := Map.set s.tt.txFifo p l } }

@[simp] theorem txFifo_setTxFifo (s : State) (p : Nat) (l : List TxStamp) : txFifo (setTxFifo s p l) p = l :=
  Map.get_set_same s.tt.txFifo p l

/-- A read takes the head of a port's FIFO that is not empty, and answers it (R77). -/
theorem exec_txtsPop_head {s : State} {who : Initiator} {p : Nat} {x : TxStamp} {l : List TxStamp}
    (hrun : stopped s = false) (hreach : reaches who Blk.tt.base = true) (hp : p < 16) (hfifo : txFifo s p = x :: l) :
    exec (.txtsPop who p) s =
      .next (syncTxts (answer (setTxFifo s p l) (x.frac + x.seqId <<< 16 + 1 <<< 32)) p) := by
  change execTxtsPop who p s = _
  rw [execTxtsPop, run_running s _ hrun, managed_reaches _ _ _ _ hreach, if_neg (Nat.not_le.2 hp)]
  simp only [txFifo_answer, hfifo, List.tail_cons]
  rfl

/-! ### PPS_OUT (R76) -/

theorem exec_ppsOutRise_rises {s : State} (hrun : stopped s = false) (hon : s.rd TT_CTL.pps_out_enable = 1)
    (hnew : s.pins.ppsSecond ≠ now s / 1000000000 + 1) (htime : now s % 1000000000 < 100000) : exec .ppsOutRise s =
      .next { s with pins := { s.pins with ppsOut := true, ppsSecond := now s / 1000000000 + 1 } } := by
  change execPpsOutRise s = _
  rw [execPpsOutRise, run_running s _ hrun, if_pos]
  simp only [Bool.and_eq_true, decide_eq_true_eq]
  exact ⟨⟨on_of_rd_one hon, hnew⟩, htime⟩

theorem exec_ppsOutFall_falls {s : State} (hrun : stopped s = false) (hhigh : s.pins.ppsOut = true)
    (htime : (s.pins.ppsSecond - 1) * 1000000000 + 100000 ≤ now s) : exec .ppsOutFall s =
      .next { s with pins := { s.pins with ppsOut := false } } := by
  change execPpsOutFall s = _
  rw [execPpsOutFall, run_running s _ hrun, if_pos]
  simp only [Bool.and_eq_true, decide_eq_true_eq]
  exact ⟨hhigh, htime⟩

/-- Settles O6: each event whose condition holds is an equation of its effect, and the registers it names are read from that
effect.  When a source counts as qualified, and the single rise of PPS_OUT in each second, are the model's reading (entries
23 and 25 of the assumption log). -/
theorem trackTimeEvents : Obligations.TrackTimeEvents := by
  unfold Obligations.TrackTimeEvents
  refine ⟨?edge, ?otherSource, ?ppsWindow, ?watchdog, ?holdoverEnds, ?refclk, ?slewEnds, ?txPop, ?ppsRise, ?ppsFall⟩
  case edge =>
    intro s hrun
    obtain ⟨t, hexec, hregs⟩ := exec_ppsEdge_registers hrun
    obtain ⟨htt, hfrac, hraised⟩ := rd_captureEdge s
    exact ⟨t, hexec, (hregs _ _ _ (by decide)).trans htt, (hregs _ _ _ (by decide)).trans hfrac,
      (hregs _ _ _ (by decide)).trans hraised⟩
  case otherSource => exact fun s hrun hsrc => exec_ppsEdge_otherSource hrun hsrc
  case ppsWindow =>
    intro s l hrun hlast hsrc hlocked htime
    obtain ⟨hhold, hfree, htt, hraised⟩ := rd_startHoldover (s.wr TT_STATUS.pps_missing 1)
    obtain ⟨hadj, hmissing⟩ := rd_startHoldover_kept (s.wr TT_STATUS.pps_missing 1)
    refine ⟨_, exec_ppsWindowExpiry_closes hrun hlast hsrc hlocked htime, hhold, hfree, ?_, ?_, hraised, ?_, ?_⟩
    · exact hmissing.trans (State.rd_wr_same s TT_STATUS.pps_missing 1 0 0 rfl)
    · rw [htt, now_wr]
    · rw [startHoldover_slew, State.wr_tt]
    · exact hadj.trans (State.rd_wr_other s _ _ 1 0 0 0 0 (by decide))
  case watchdog =>
    intro s hrun hsrc hlocked hwdog htime
    obtain ⟨hhold, hfree, htt, hraised⟩ := rd_startHoldover s
    obtain ⟨hadj, -⟩ := rd_startHoldover_kept s
    exact ⟨_, exec_servoWatchdogExpiry_runsOut hrun hsrc hlocked hwdog htime, hhold, hfree, htt, hraised,
      startHoldover_slew s, hadj⟩
  case holdoverEnds =>
    intro s hrun hqual hhold hslew
    obtain ⟨hended, hlocked, hraised⟩ := rd_endHoldover s
    obtain ⟨htt, hsame⟩ := endHoldover_time s
    exact ⟨_, exec_lockAcquired_holdover hrun hqual hhold hslew, hended, hlocked, hraised, htt, hsame⟩
  case refclk => exact fun s hrun hsrc hosc => exec_refclkFault_onReference hrun hsrc hosc
  case slewEnds => exact fun s hrun hslew => exec_slewEnd_ended hrun hslew
  case txPop =>
    intro s who p x l hrun hreach hp hfifo
    refine ⟨_, exec_txtsPop_head hrun hreach hp hfifo, ?_, ?_, ?_, ?_, ?_⟩
    · rw [syncTxts_keeps State.rdata State.wr_rdata]
      rfl
    · rw [syncTxts_keeps State.tt State.wr_tt]
      exact txFifo_setTxFifo s p l
    · rw [rd_syncTxts_count _ hp]
      exact congrArg (fun q => q.length % 2 ^ 7) (txFifo_setTxFifo s p l)
    · rw [syncTxts_keeps State.mem State.wr_mem]
      rfl
    · rw [syncTxts_keeps State.links State.wr_links]
      rfl
  case ppsRise => exact fun s hrun hon hnew htime => exec_ppsOutRise_rises hrun hon hnew htime
  case ppsFall => exact fun s hrun hhigh htime => exec_ppsOutFall_falls hrun hhigh htime

end Sys2Proof.Machine
end

section
/-! SUPPORT. The words of the relay instruction set (R709 to R712): the fields of a word of each format, and the obligation
O44 that they settle. -/
namespace Sys2Proof.Machine

/-! ### The fields of a word -/

section Fields

variable {op rd ra rb fn imm off : Nat}

theorem wordR_op (hrd : rd < 32) (hra : ra < 32) (hrb : rb < 32) (hfn : fn < 2048) :
    wordR op rd ra rb fn / 2 ^ 26 = op := by unfold wordR; omega

theorem wordR_rd (hrd : rd < 32) (hra : ra < 32) (hrb : rb < 32) (hfn : fn < 2048) :
    wordR op rd ra rb fn / 2 ^ 21 % 32 = rd := by unfold wordR; omega

theorem wordR_ra (hra : ra < 32) (hrb : rb < 32) (hfn : fn < 2048) :
    wordR op rd ra rb fn / 2 ^ 16 % 32 = ra := by unfold wordR; omega

theorem wordR_rb (hrb : rb < 32) (hfn : fn < 2048) : wordR op rd ra rb fn / 2 ^ 11 % 32 = rb := by
  unfold wordR; omega

theorem wordR_fn (hfn : fn < 2048) : wordR op rd ra rb fn % 2048 = fn := by unfold wordR; omega

/-- A word of format R with no field but its operation code has nothing in the place of an offset either. -/
theorem wordR_off_zero : wordR op 0 0 0 0 % 2 ^ 21 = 0 := by unfold wordR; omega

theorem wordR_lt (hop : op < 64) (hrd : rd < 32) (hra : ra < 32) (hrb : rb < 32) (hfn : fn < 2048) :
    wordR op rd ra rb fn < 2 ^ 32 := by unfold wordR; omega

theorem wordI_op (hrd : rd < 32) (hra : ra < 32) (himm : imm < 65536) : wordI op rd ra imm / 2 ^ 26 = op := by
  unfold wordI; omega

theorem wordI_rd (hrd : rd < 32) (hra : ra < 32) (himm : imm < 65536) : wordI op rd ra imm / 2 ^ 21 % 32 = rd := by
  unfold wordI; omega

theorem wordI_ra (hra : ra < 32) (himm : imm < 65536) : wordI op rd ra imm / 2 ^ 16 % 32 = ra := by
  unfold wordI; omega

theorem wordI_imm (himm : imm < 65536) : wordI op rd ra imm % 65536 = imm := by unfold wordI; omega

theorem wordI_lt (hop : op < 64) (hrd : rd < 32) (hra : ra < 32) (himm : imm < 65536) :
    wordI op rd ra imm < 2 ^ 32 := by unfold wordI; omega

theorem wordJ_op (hrd : rd < 32) (hoff : off < 2 ^ 21) : wordJ op rd off / 2 ^ 26 = op := by unfold wordJ; omega

theorem wordJ_rd (hrd : rd < 32) (hoff : off < 2 ^ 21) : wordJ op rd off / 2 ^ 21 % 32 = rd := by unfold wordJ; omega

theorem wordJ_off (hoff : off < 2 ^ 21) : wordJ op rd off % 2 ^ 21 = off := by unfold wordJ; omega

theorem wordJ_lt (hop : op < 64) (hrd : rd < 32) (hoff : off < 2 ^ 21) : wordJ op rd off < 2 ^ 32 := by
  unfold wordJ; omega

end Fields

/-- Settles O44: the word of each instruction gives back the operation code and the fields of its format; where the decoder
looks at reserved fields or at the range of a field, the instruction is well-formed. -/
theorem relayWordsDecodeAndEncodeAgree : Obligations.RelayWordsDecodeAndEncodeAgree := by
  unfold Obligations.RelayWordsDecodeAndEncodeAgree
  intro i hwf
  cases i with
  | add | sub | and | or | xor | shl | shr | sar | mul | mulhu | minu | maxu | slt | sltu | cas | crcc | amo | thset
  | bits | bsend | brecv | thgo | thstop | hurdle | thexit | sret | sleep =>
    simp only [RelayInstr.wf, Bool.and_eq_true, decide_eq_true_eq] at hwf
    constructor
    · simp (disch := omega) only [decodeRelay, encodeRelay, wordR_op, wordR_rd, wordR_ra, wordR_rb, wordR_fn,
        wordR_off_zero]
      exact if_pos (by simp [hwf])
    · exact wordR_lt (by omega) (by omega) (by omega) (by omega) (by omega)
  | addi | andi | ori | xori | slti | ldb | ldh | ldw | ldd | stb | sth | stw | std | beq | bne | blt | bge | bltu
  | bgeu | jalr =>
    simp only [RelayInstr.wf, Bool.and_eq_true, decide_eq_true_eq] at hwf
    constructor
    · simp (disch := omega) only [decodeRelay, encodeRelay, wordI_op, wordI_rd, wordI_ra, wordI_imm]
    · exact wordI_lt (by omega) (by omega) (by omega) (by omega)
  | shi | movk | addpc | ldl | stl | wait | brk | srr | srw | calls =>
    simp only [RelayInstr.wf, Bool.and_eq_true, Bool.or_eq_true, decide_eq_true_eq] at hwf
    constructor
    · simp (disch := omega) only [decodeRelay, encodeRelay, wordI_op, wordI_rd, wordI_ra, wordI_imm]
      exact if_pos (by simp [hwf])
    · exact wordI_lt (by omega) (by omega) (by omega) (by omega)
  | jal =>
    simp only [RelayInstr.wf, Bool.and_eq_true, decide_eq_true_eq] at hwf
    constructor
    · simp (disch := omega) only [decodeRelay, encodeRelay, wordJ_op, wordJ_rd, wordJ_off]
    · exact wordJ_lt (by omega) (by omega) (by omega)

end Sys2Proof.Machine
end

section
/-! SUPPORT. The stopped clocks (R118, R957): what a command can do while they stand still, and the obligation O60 that it
settles. -/
namespace Sys2Proof.Machine

/-- The device with other read data and other pins, and all else as it was. -/
def sameButPins (s t : State) : Prop := stopped t = true ∧ t = { s with rdata := t.rdata, pins := t.pins }

theorem sameButPins_refl {s : State} (h : stopped s = true) : sameButPins s s := ⟨h, rfl⟩

/-- A pulled RESET_N stops the clocks. -/
theorem stopped_of_resetN_low {s : State} (h : s.pins.resetN = false) : stopped s = true := by
  simp [stopped, heldInReset, h]

/-- A read of the SMBus target moves at most the read data (R962). -/
theorem smbusRead_sameButPins {s t : State} {v : Nat} (h : stopped s = true) (he : smbusRead s v = .next t) :
    sameButPins s t := by
  cases he
  split
  · exact ⟨h, rfl⟩
  · exact sameButPins_refl h

/-- The wake byte moves at most WAKE_N (R963). -/
theorem smbusWake_sameButPins {s t : State} {data : Nat} (h : stopped s = true)
    (he : exec (.smbusWake data) s = .next t) : sameButPins s t := by
  cases he
  split
  · exact ⟨h, rfl⟩
  · exact sameButPins_refl h

/-- A fall of RESET_N moves the pins alone, and leaves the clocks stopped. -/
theorem resetNFall_sameButPins {s t : State} {off : Bool} (he : exec (.resetNFall off) s = .next t) :
    sameButPins s t := by
  cases he
  exact ⟨stopped_of_resetN_low rfl, rfl⟩

/-- A meaning that waits for the clocks changes nothing. -/
theorem sameButPins_run {s t : State} {f : State → State} (h : stopped s = true) (he : run s f = .next t) :
    sameButPins s t := by
  rw [run_stopped s f h] at he
  cases he
  exact sameButPins_refl h

/-- While the clocks stand still no command but a device reset reaches beyond the read data and the pins. -/
theorem exec_sameButPins {c : Instr} {s t : State} (h : stopped s = true)
    (hc : ∀ straps cool, c ≠ .deviceReset straps cool) (he : exec c s = .next t) : sameButPins s t := by
  cases c
  case deviceReset straps cool => exact absurd rfl (hc straps cool)
  case resetNFall => exact resetNFall_sameButPins he
  case smbusReadTemperature | smbusReadPower | smbusReadStatus | smbusReadThermal => exact smbusRead_sameButPins h he
  case smbusWake => exact smbusWake_sameButPins h he
  all_goals
    unfold exec at he
    exact sameButPins_run h he

/-- Taking a command from the queue leaves the clocks as they are. -/
theorem stopped_pending (s : State) (l : List Instr) : stopped { s with pending := l } = stopped s := rfl

/-- Settles O60: every meaning but those of a device reset, RESET_N and the SMBus is a `run`, which changes nothing while
the clocks stand still; that these alone act on the always-on clock is the model's reading (entry 10 of the assumption
log). -/
theorem stoppedClocksHoldEverything : Obligations.StoppedClocksHoldEverything := by
  unfold Obligations.StoppedClocksHoldEverything
  refine ⟨fun s t hstop hfront hstep => ?_, fun s off => ⟨_, rfl, stopped_of_resetN_low rfl⟩⟩
  unfold step at hstep
  cases hq : s.pending with
  | nil =>
    rw [hq] at hstep
    cases (run_stopped s _ hstop).symm.trans hstep
    exact ⟨hstop, by rw [List.tail_nil, ← hq]⟩
  | cons c rest =>
    rw [hq] at hstep hfront
    have hc : ∀ straps cool, c ≠ .deviceReset straps cool := fun straps cool hc => hfront straps cool (by rw [hc]; rfl)
    exact exec_sameButPins (s := { s with pending := rest }) hstop hc hstep

end Sys2Proof.Machine
end

section
/-! SUPPORT. Bytes read back after a store (R5, R808), and the obligation O59 that they settle. -/
namespace Sys2Proof.Machine

/-- Bytes stored are the bytes read. -/
theorem loadBytes_storeBytes_same (m : Map Byte) (a : Nat) (bs : Bytes) :
    loadBytes (storeBytes m a bs) a bs.length = bs := by
  induction bs generalizing m a with
  | nil => rfl
  | cons b bs ih =>
    rw [List.length_cons, loadBytes, storeBytes, ih, get_storeBytes_before _ _ _ _ (Nat.lt_succ_self a),
      Map.get_set_same]

/-- A byte outside the stored ones reads as before. -/
theorem loadBytes_one_storeBytes_outside (m : Map Byte) (a : Nat) (bs : Bytes) (x : Nat)
    (h : x < a ∨ a + bs.length ≤ x) : loadBytes (storeBytes m a bs) x 1 = loadBytes m x 1 := by
  have hget : Map.get (storeBytes m a bs) x = Map.get m x :=
    h.elim (get_storeBytes_before m a bs x) (get_storeBytes_after m a bs x)
  simp only [loadBytes, hget]

/-- What a write of a function that may issue leaves in host memory. -/
theorem hostWrite_hostMem_live {s : State} {f : Nat} (a : Nat) (bs : Bytes) (h : fnLive s f = true) :
    (hostWrite s f a bs).hostMem = storeBytes s.hostMem (hostKey f a) bs := by
  rw [hostWrite_live s f a bs h, putLink_hostMem]

/-- Settles O59: both memories are sparse maps, of which a store sets the stored addresses one after the other. -/
theorem storesAreReadBackAndTouchNothingElse : Obligations.StoresAreReadBackAndTouchNothingElse := by
  unfold Obligations.StoresAreReadBackAndTouchNothingElse
  refine ⟨fun s a bs => ⟨?_, fun x hx => ?_, memStore_hostMem s a bs⟩,
    fun s f a bs hlive => ⟨?_, fun k hk => ?_, hostWrite_mem s f a bs⟩⟩
  · rw [memLoad, memStore_mem, loadBytes_storeBytes_same]
  · rw [memLoad, memLoad, memStore_mem, loadBytes_one_storeBytes_outside _ _ _ _ hx]
  · rw [hostWrite_hostMem_live a bs hlive, loadBytes_storeBytes_same]
  · rw [hostWrite_hostMem_live a bs hlive, loadBytes_one_storeBytes_outside _ _ _ _ hk]

end Sys2Proof.Machine
end

section
/-! SUPPORT. The split of whole beads loses and creates none (R89), and the obligation O9 that this settles. -/
namespace Sys2Proof.Machine

/-- The sum of the values a map lists. -/
def Map.total (m : Map Nat) : Nat := (m.map Prod.snd).sum

@[simp] theorem Map.total_nil : Map.total [] = 0 := rfl

@[simp] theorem Map.total_cons (p : Nat × Nat) (m : Map Nat) : Map.total (p :: m) = p.2 + Map.total m := rfl

/-- A key below every listed one reads as the default. -/
theorem Map.getD_eq_of_lt (m : Map Nat) (k d : Nat) (h : ∀ p ∈ m, k < p.1) : Map.getD m k d = d := by
  induction m with
  | nil => rfl
  | cons p m ih =>
    obtain ⟨hp, hm⟩ := List.forall_mem_cons.1 h
    rw [Map.getD, if_neg (Nat.ne_of_lt hp), ih hm]

/-- An insertion adds its value, less what the key held. -/
theorem Map.total_insert (m : Map Nat) (k v : Nat) (h : m.Pairwise fun a b => a.1 < b.1) :
    Map.total (Map.insert m k v) + Map.getD m k 0 = Map.total m + v := by
  induction m with
  | nil => simp [Map.insert, Map.getD]
  | cons p m ih =>
    obtain ⟨k', v'⟩ := p
    obtain ⟨hp, hm⟩ := List.pairwise_cons.1 h
    rcases Nat.lt_trichotomy k k' with hlt | rfl | hgt
    · have habsent : Map.getD m k 0 = 0 := Map.getD_eq_of_lt m k 0 fun q hq => Nat.lt_trans hlt (hp q hq)
      simp only [Map.insert, if_pos hlt, Map.getD, if_neg (Nat.ne_of_lt hlt), habsent, Map.total_cons]
      omega
    · simp only [Map.insert, Nat.lt_irrefl, if_false, if_true, Map.getD, Map.total_cons]
      omega
    · have hih := ih hm
      simp only [Map.insert, if_neg (Nat.lt_asymm hgt), if_neg (Nat.ne_of_gt hgt), Map.getD, Map.total_cons]
      omega

/-- A removal takes what the key held. -/
theorem Map.total_erase (m : Map Nat) (k : Nat) (h : m.Pairwise fun a b => a.1 < b.1) :
    Map.total (Map.erase m k) + Map.getD m k 0 = Map.total m := by
  induction m with
  | nil => rfl
  | cons p m ih =>
    obtain ⟨k', v'⟩ := p
    obtain ⟨hp, hm⟩ := List.pairwise_cons.1 h
    have hih := ih hm
    by_cases hk : k' = k
    · subst hk
      have habsent : Map.getD m k' 0 = 0 := Map.getD_eq_of_lt m k' 0 hp
      simp only [Map.erase, ne_eq, decide_not] at hih ⊢
      simp only [List.filter_cons, decide_true, Bool.not_true, Bool.false_eq_true, if_false, Map.getD, if_true,
        Map.total_cons]
      omega
    · simp only [Map.erase, ne_eq, decide_not] at hih ⊢
      simp only [List.filter_cons, hk, decide_false, Bool.not_false, if_true, Map.getD, if_neg (Ne.symm hk),
        Map.total_cons]
      omega

/-- A canonical map whose values sum to what the first one's do and `n` more. -/
def Gains (m t : Map Nat) (n : Nat) : Prop := Map.wf t 0 = true ∧ Map.total t = Map.total m + n

/-- A charge adds exactly its beads. -/
theorem addCharge_gains (m : Map Nat) (a n : Nat) (h : Map.wf m 0 = true) : Gains m (addCharge m a n) n := by
  refine ⟨Map.setD_wf m a _ 0 h, ?_⟩
  obtain ⟨hsorted, -⟩ := (Map.wf_iff m 0).1 h
  unfold addCharge Map.set Map.setD Map.get
  split
  case isTrue hzero =>
    have herase := Map.total_erase m a hsorted
    have hdef : (default : Nat) = 0 := rfl
    rw [hdef] at hzero
    omega
  case isFalse =>
    have hinsert := Map.total_insert m a (Map.getD m a default + n) hsorted
    have hdef : (default : Nat) = 0 := rfl
    rw [hdef] at hinsert ⊢
    omega

theorem Gains.trans {m t u : Map Nat} {n k : Nat} (h : Gains m t n) (h' : Gains t u k) : Gains m u (n + k) :=
  ⟨h'.1, by rw [h'.2, h.2, Nat.add_assoc]⟩

/-- Shares rounded down together do not exceed the rounded-down share of the sum. -/
theorem sum_shares_le (ps : List (Nat × Nat)) (beads w : Nat) :
    (ps.map fun p => beads * p.2 / w).sum ≤ beads * (ps.map Prod.snd).sum / w := by
  induction ps with
  | nil => simp
  | cons p ps ih =>
    calc ((p :: ps).map fun p => beads * p.2 / w).sum
        = beads * p.2 / w + (ps.map fun p => beads * p.2 / w).sum := by simp
      _ ≤ beads * p.2 / w + beads * (ps.map Prod.snd).sum / w := Nat.add_le_add_left ih _
      _ ≤ (beads * p.2 + beads * (ps.map Prod.snd).sum) / w := Nat.div_add_div_le_add_div
      _ = beads * ((p :: ps).map Prod.snd).sum / w := by simp [Nat.mul_add]

/-- Shares of the whole by weight do not exceed it. -/
theorem sum_shares_le_whole (ps : List (Nat × Nat)) (beads : Nat) :
    (ps.map fun p => beads * p.2 / (ps.map Prod.snd).sum).sum ≤ beads :=
  Nat.le_trans (sum_shares_le ps beads _) (Nat.div_le_of_le_mul (Nat.le_of_eq (Nat.mul_comm _ _)))

/-- Shares handed out one after the other, where each hand-out adds exactly its share, add what they sum to. -/
theorem foldl_shares_gain (f : Map Nat → Nat × Nat → Nat → Map Nat) (share : Nat × Nat → Nat)
    (hf : ∀ m p, Map.wf m 0 = true → Gains m (f m p (share p)) (share p)) (ps : List (Nat × Nat)) (m : Map Nat) (k : Nat)
    (h : Map.wf m 0 = true) :
    let x := ps.foldl (fun (x : Map Nat × Nat) p => (f x.1 p (share p), x.2 + share p)) (m, k)
    Gains m x.1 (ps.map share).sum ∧ x.2 = k + (ps.map share).sum := by
  induction ps generalizing m k with
  | nil => exact ⟨⟨h, rfl⟩, rfl⟩
  | cons p ps ih =>
    have hstep := hf m p h
    obtain ⟨hgain, hsum⟩ := ih (f m p (share p)) (k + share p) hstep.1
    exact ⟨by simpa using hstep.trans hgain, by simpa [Nat.add_assoc] using hsum⟩

/-- A running sum of second components. -/
theorem foldl_add_snd (ps : List (Nat × Nat)) (k : Nat) :
    ps.foldl (fun t p => t + p.2) k = k + (ps.map Prod.snd).sum := by
  induction ps generalizing k with
  | nil => rfl
  | cons p ps ih => simp [ih, Nat.add_assoc]

/-- The split of a domain's share among its accounts adds exactly the share. -/
theorem splitDomain_gains (c : LegCounts) (charge : Map Nat) (d share : Nat) (h : Map.wf charge 0 = true) :
    Gains charge (splitDomain c charge d share) share := by
  unfold splitDomain
  extract_lets acts total r
  split
  case isTrue => exact addCharge_gains charge 0 share h
  case isFalse =>
    have htotal : total = (acts.map Prod.snd).sum := (foldl_add_snd acts 0).trans (Nat.zero_add _)
    obtain ⟨hgain, hsum⟩ := foldl_shares_gain (fun m p n => addCharge m (p.1 % 4096) n) (fun p => share * p.2 / total)
      (fun m p hm => addCharge_gains m _ _ hm) acts charge 0 h
    have hle : (acts.map fun p => share * p.2 / total).sum ≤ share := htotal ▸ sum_shares_le_whole acts share
    have hrest := hgain.trans (addCharge_gains r.1 0 (share - r.2) hgain.1)
    have heq : (acts.map fun p => share * p.2 / total).sum + (share - r.2) = share := by
      have : r.2 = (acts.map fun p => share * p.2 / total).sum := hsum.trans (Nat.zero_add _)
      omega
    rwa [heq] at hrest

/-- The estimate of a rail is the sum over its own domains. -/
theorem railEst_eq_sum (c : LegCounts) (r : Nat) :
    railEst c r = ((c.est.filter fun p => decide (railOf p.1 = r)).map Prod.snd).sum := by
  have hfold : ∀ (l : List (Nat × Nat)) (k : Nat), l.foldl (fun t p => if railOf p.1 = r then t + p.2 else t) k =
      k + ((l.filter fun p => decide (railOf p.1 = r)).map Prod.snd).sum := by
    intro l
    induction l with
    | nil => exact fun k => rfl
    | cons p l ih =>
      intro k
      by_cases hp : railOf p.1 = r <;> simp [ih, hp, Nat.add_assoc]
  exact (hfold c.est 0).trans (Nat.zero_add _)

/-- The share of a domain in its rail's beads. -/
def domainShare (beads w : Nat) (p : Nat × Nat) : Nat := if w = 0 then 0 else beads * p.2 / w

theorem domainShare_unweighted {w : Nat} (beads : Nat) (h : w = 0) : domainShare beads w = fun _ => 0 :=
  funext fun _ => if_pos h

theorem domainShare_weighted {w : Nat} (beads : Nat) (h : w ≠ 0) : domainShare beads w = fun p => beads * p.2 / w :=
  funext fun _ => if_neg h

theorem sum_map_zero {α : Type} (l : List α) : (l.map fun _ => 0).sum = 0 := by
  rw [List.map_const', List.sum_replicate_nat, Nat.mul_zero]

/-- The split of a rail's beads adds exactly those beads. -/
theorem splitRail_gains (c : LegCounts) (r beads : Nat) (charge : Map Nat) (h : Map.wf charge 0 = true) :
    Gains charge (splitRail c r beads charge) beads := by
  unfold splitRail
  extract_lets ds w x
  obtain ⟨hgain, hsum⟩ := foldl_shares_gain (fun m p n => splitDomain c m p.1 n) (domainShare beads w)
    (fun m p hm => splitDomain_gains c m _ _ hm) ds charge 0 h
  have hw : w = (ds.map Prod.snd).sum := railEst_eq_sum c r
  have hle : (ds.map (domainShare beads w)).sum ≤ beads := by
    by_cases hzero : w = 0
    · rw [domainShare_unweighted beads hzero, sum_map_zero]
      exact Nat.zero_le beads
    · rw [domainShare_weighted beads hzero]
      exact hw ▸ sum_shares_le_whole ds beads
  have hrest := hgain.trans (addCharge_gains x.1 0 (beads - x.2) hgain.1)
  have heq : (ds.map (domainShare beads w)).sum + (beads - x.2) = beads := by
    have : x.2 = (ds.map (domainShare beads w)).sum := hsum.trans (Nat.zero_add _)
    omega
  rwa [heq] at hrest

/-- Settles O9: the shares by weight, rounded down, never exceed the whole, and account 0 takes what they leave. -/
theorem legSplitConservesBeads : Obligations.LegSplitConservesBeads := by
  unfold Obligations.LegSplitConservesBeads
  exact fun c r beads charge h => (splitRail_gains c r beads charge h).2

end Sys2Proof.Machine
end

section
/-! SUPPORT. A write of the leg length of a stopped TT also restarts the leg (R73): the refutation of O1. -/
namespace Sys2Proof.Machine

/-- The device after reset, one tick of the time clock later: TT is stopped and the last leg boundary stands at 0. -/
def oneTickAfterReset : State := { State.reset with tt := { State.reset.tt with tt := 8, ticks := 1 } }

/-- Its clocks run. -/
example : stopped oneTickAfterReset = false := by decide +kernel

/-- The time of the last leg boundary that an outcome leaves. -/
def lastLegAfter : Out → Option Nat
  | .next t => some t.tt.lastLeg
  | _ => none

/-- Writing the leg length of a stopped TT makes now the start of the leg in progress (R73). -/
theorem lastLegAfter_legLenWrite :
    lastLegAfter (exec (.registerWrite (.host 0) 0x100090 4 250) oneTickAfterReset) = some 8 := by decide +kernel

/-- Refutes O1: a legal leg length written by PF 0 while TT is stopped changes more than the register.  The leg in progress
then starts at the time of the write (R73), which after one tick is not where it started before. -/
theorem not_registerWriteByAccessAndClass : ¬ Obligations.RegisterWriteByAccessAndClass := by
  unfold Obligations.RegisterWriteByAccessAndClass
  rintro ⟨-, -, hdirect, -⟩
  have hwrite := hdirect oneTickAfterReset (.host 0) 250 (by decide +kernel) (by decide +kernel) (by decide +kernel)
    (by decide +kernel) (by decide +kernel) (by decide +kernel)
  have hkept : some 8 = some (oneTickAfterReset.wr TT_LEG_LEN.leg_us 250).tt.lastLeg := by
    rw [← lastLegAfter_legLenWrite, hwrite, lastLegAfter]
  rw [State.wr_tt] at hkept
  exact absurd hkept (by decide)

end Sys2Proof.Machine
end

section
/-! SUPPORT. A tick of the time clock forgets the mark of a core that is stalled no more (R692): the refutation of O57. -/
namespace Sys2Proof.Machine

/-- The device after reset with core 0 recorded as stalled, none of whose threads waits. -/
def staleStallMark : State := { State.reset with rly := { State.reset.rly with stalled := [0] } }

/-- Its clocks run. -/
example : stopped staleStallMark = false := by decide +kernel

/-- The cores that an outcome leaves recorded as stalled. -/
def stalledAfter : Out → Option (List Nat)
  | .next t => some t.rly.stalled
  | _ => none

/-- A tick drops the mark of a core that is found stalled no more, so that it may be recorded again (R693). -/
theorem stalledAfter_idleStep : stalledAfter (step staleStallMark) = some [] := by decide +kernel

/-- Refutes O57: an idle step does more than advance the time where a core recorded as stalled is stalled no more, which no
hypothesis of its fourth clause excludes. -/
theorem not_stepRunsTheFrontCommand : ¬ Obligations.StepRunsTheFrontCommand := by
  unfold Obligations.StepRunsTheFrontCommand
  rintro ⟨-, -, -, hidle, -⟩
  have hstep := hidle staleStallMark rfl (by decide +kernel) rfl rfl (by decide +kernel) rfl (by decide +kernel) rfl rfl
    rfl rfl (by decide +kernel) rfl (by decide)
  have hkept : some [] = some staleStallMark.rly.stalled := by
    rw [← stalledAfter_idleStep, hstep, stalledAfter]
  exact absurd hkept (by decide)

end Sys2Proof.Machine
end

section
/-! SUPPORT. What stands in the registers right after a reset, and the obligation O58 that this settles. -/
namespace Sys2Proof.Machine

/-- A key above every listed one reads as the default. -/
theorem Map.getD_eq_of_gt {α : Type} (m : Map α) (k : Nat) (d : α) (h : ∀ p ∈ m, p.1 < k) : Map.getD m k d = d := by
  induction m with
  | nil => rfl
  | cons p m ih =>
    obtain ⟨hp, hm⟩ := List.forall_mem_cons.1 h
    rw [Map.getD, if_neg (Nat.ne_of_gt hp), ih hm]

/-- The members whose value at reset is not the one of the other members lie below the queue contexts. -/
theorem reset_regs_below_contexts : ∀ p ∈ State.reset.regs, p.1 < 0x1400000 * 8 := by decide +kernel

/-- A member at or above the queue contexts holds the reset value of its field. -/
theorem rd_reset_context (d : Desc) (i j : Nat) (h : 0x1400000 * 8 ≤ d.key i j) : State.reset.rd d i j = d.reset := by
  unfold State.rd
  split
  · exact Map.getD_eq_of_gt _ _ _ fun p hp => Nat.lt_of_lt_of_le (reset_regs_below_contexts p hp) h
  · rfl

/-- After reset every queue is DISABLED. -/
theorem queueState_reset (q : Nat) : queueState State.reset q = 0 :=
  rd_reset_context WQ_CTX.state q 0 (by simp only [Desc.key, WQ_CTX.state]; omega)

/-- Settles O58: single registers are read from the reset store; the contexts lie above all that the store lists. -/
theorem resetLeavesTheDevice : Obligations.ResetLeavesTheDevice := by
  unfold Obligations.ResetLeavesTheDevice
  refine ⟨by decide +kernel, by decide +kernel, by decide +kernel, by decide +kernel, by decide +kernel, by decide +kernel,
    by decide +kernel, by decide +kernel, by decide +kernel, by decide +kernel, by decide +kernel, rfl, by decide +kernel,
    fun q _ => queueState_reset q, fun _ => rfl, by decide +kernel, by decide +kernel⟩

end Sys2Proof.Machine
end

section
/-! SUPPORT. Writes of setup that reach nothing (R796, R866, R910), and the obligation O4 that they settle. -/
namespace Sys2Proof.Machine

/-- A function other than PF 0 acts on no block of the whole device. -/
theorem reaches_otherFn {fn : Nat} (off : Nat) (h : fn ≠ 0) : reaches (.host fn) off = false := by
  simp [reaches, isManager, h]

/-- PF 0 reaches every block. -/
theorem reaches_pf0 (off : Nat) : reaches (.host 0) off = true := by simp [reaches, isManager]

/-- A host's access that is dropped is counted. -/
theorem dropAccess_host (s : State) (fn : Nat) : dropAccess s (.host fn) = s.count HIF_ACC_DROP.count := rfl

/-- A write by one who does not reach the block is dropped (R796). -/
theorem setupWrite_shut {d : Desc} {i : Nat} {who : Initiator} (value : Nat) (s : State) (f : State → State)
    (h : reaches who (d.key i 0 / 8) = false) : setupWrite d i value who s f = dropAccess s who := by
  simp [setupWrite, h]

/-- In RECOVERY a host's write to a register of no recovery image is dropped (R866). -/
theorem barWrite_recovery {s : State} {fn off : Nat} (len value : Nat) (f : State → State)
    (h : recoveryShut s off = true) : barWrite (.host fn) off len value s f = dropAccess s (.host fn) := by
  simp [barWrite, h]

/-- A standby ignores a host's write outside the pair's registers, and counts it (R910). -/
theorem barWrite_standby {s : State} {fn off : Nat} (len value : Nat) (f : State → State)
    (h : recoveryShut s off = false) (hpair : isPairOff off = false) (hstandby : standby s = true) :
    barWrite (.host fn) off len value s f = s.count PAIR_CNT.count 1 5 := by
  simp [barWrite, h, hpair, hstandby]

/-- A write command of setup by a function other than PF 0 is dropped (R796). -/
theorem run_setupWrite_otherFn {s : State} {d : Desc} {i fn : Nat} (value : Nat) (f : State → State)
    (hrun : stopped s = false) (h : fn ≠ 0) :
    run s (fun s => setupWrite d i value (.host fn) s f) = .next (s.count HIF_ACC_DROP.count) := by
  rw [run_running s _ hrun, setupWrite_shut _ _ _ (reaches_otherFn _ h), dropAccess_host]

/-- A write of TT_LOAD by PF 0 is a write to BAR0 at the offset of that register. -/
theorem exec_ttLoad_pf0 {s : State} (hrun : stopped s = false) (v : Nat) : ∃ len value f,
    exec (.ttLoad (.host 0) v) s = .next (barWrite (.host 0) (TT_LOAD.tt64.key 0 0 / 32 * 4) len value s f) := by
  change ∃ len value f, execTtLoad (.host 0) v s = _
  rw [execTtLoad, run_running s _ hrun, setupWrite, reaches_pf0, if_pos rfl]
  exact ⟨_, _, _, rfl⟩

/-- Settles O4: a write command is a `setupWrite`, which drops what does not reach its block, and else a `barWrite`, which
looks at RECOVERY first and then at the standby states.  That a drop in RECOVERY counts in HIF_ACC_DROP is the model's
reading. -/
theorem setupWritesOfOthersAreDropped : Obligations.SetupWritesOfOthersAreDropped := by
  unfold Obligations.SetupWritesOfOthersAreDropped
  refine ⟨?load, ?credit, ?apply, ?standby, ?recovery⟩
  case load => exact fun s fn v hrun hfn => run_setupWrite_otherFn _ _ hrun hfn
  case credit => exact fun s fn v hrun hfn => run_setupWrite_otherFn _ _ hrun hfn
  case apply => exact fun s fn b hrun hfn => run_setupWrite_otherFn _ _ hrun hfn
  case standby =>
    intro s v hrun hstandby hphase
    obtain ⟨len, value, f, hexec⟩ := exec_ttLoad_pf0 hrun v
    have hopen : recoveryShut s (TT_LOAD.tt64.key 0 0 / 32 * 4) = false := by simp [recoveryShut, hphase]
    rw [hexec, barWrite_standby len value f hopen (by decide) hstandby]
  case recovery =>
    intro s v hrun hphase
    obtain ⟨len, value, f, hexec⟩ := exec_ttLoad_pf0 hrun v
    have hshut : recoveryShut s (TT_LOAD.tt64.key 0 0 / 32 * 4) = true := by rw [recoveryShut, hphase]; decide
    rw [hexec, barWrite_recovery len value f hshut, dropAccess_host]

end Sys2Proof.Machine
end

section
/-! SUPPORT. The application of the staging bank of TT (R13, R16, R23, R61, R73, R74), and the obligation O3 that it
settles. -/
namespace Sys2Proof.Machine

/-! ### The bank as field members -/

/-- The only member of a field that is no array. -/
def onlyMember (d : Desc) : FieldRef := ⟨d, 0, 0⟩

/-- The field members of TT that the keys of its staged fields name. -/
theorem stagedMember_tt :
    (∀ d ∈ [TT_CTL.phase_src, TT_CTL.freq_src, TT_LEG_LEN.leg_us], blockOf (d.key 0 0 / 8) = some .tt ∧
      (coveredIn .tt (d.key 0 0 / 8) 1).find? (fun r => decide (r.desc.key r.i r.j = d.key 0 0)) = some (onlyMember d)) := by
  decide +kernel

theorem stagedOf_tt_cons {s : State} {d : Desc} {v : Nat} {l : Map Nat} (hs : s.staged = (d.key 0 0, v) :: l)
    (hd : d ∈ [TT_CTL.phase_src, TT_CTL.freq_src, TT_LEG_LEN.leg_us]) :
    stagedOf s .tt = (onlyMember d, v) :: stagedOf { s with staged := l } .tt := by
  obtain ⟨hblock, hfind⟩ := stagedMember_tt d hd
  simp only [stagedOf, hs, List.filterMap_cons, hblock, decide_true, if_true, hfind, Option.map_some]

theorem stagedOf_nil {s : State} (hs : s.staged = []) (b : Blk) : stagedOf s b = [] := by
  simp only [stagedOf, hs, List.filterMap_nil]

/-- A bank of two staged fields of TT. -/
theorem stagedOf_tt_two {s : State} {d e : Desc} {v x : Nat} (hs : s.staged = [(d.key 0 0, v), (e.key 0 0, x)])
    (hd : d ∈ [TT_CTL.phase_src, TT_CTL.freq_src, TT_LEG_LEN.leg_us])
    (he : e ∈ [TT_CTL.phase_src, TT_CTL.freq_src, TT_LEG_LEN.leg_us]) :
    stagedOf s .tt = [(onlyMember d, v), (onlyMember e, x)] := by
  rw [stagedOf_tt_cons hs hd, stagedOf_tt_cons rfl he, stagedOf_nil rfl]

/-! ### The bank emptied -/

/-- The state in which the bank of TT has been emptied and nothing is asked for any more. -/
def bankEmptied (s : State) (ks : List Nat) : State := (unstage (endApply .tt s) ks).wr (pendingField .tt) 0

theorem rd_bankEmptied_other (s : State) (ks : List Nat) (e : Desc) (k l : Nat)
    (harm : e.key k l ≠ (armTimeField .tt).key 0 0) (hpend : e.key k l ≠ (pendingField .tt).key 0 0) :
    (bankEmptied s ks).rd e k l = s.rd e k l := by
  rw [bankEmptied, State.rd_wr_other _ _ _ _ _ _ _ _ hpend]
  exact State.rd_wr_other _ _ _ _ _ _ _ _ harm

theorem rd_bankEmptied_pending (s : State) (ks : List Nat) : (bankEmptied s ks).rd (pendingField .tt) = 0 :=
  State.rd_wr_same _ (pendingField .tt) 0 0 0 rfl

theorem rd_bankEmptied_armTime (s : State) (ks : List Nat) : (bankEmptied s ks).rd (armTimeField .tt) = 0 := by
  rw [bankEmptied, State.rd_wr_other _ _ _ _ _ _ _ _ (by decide)]
  exact State.rd_wr_same _ (armTimeField .tt) 0 0 0 rfl

@[simp] theorem bankEmptied_tt (s : State) (ks : List Nat) : (bankEmptied s ks).tt = s.tt := by
  simp [bankEmptied, unstage, endApply]

theorem bankEmptied_staged (s : State) (ks : List Nat) :
    (bankEmptied s ks).staged = s.staged.filter fun p => !ks.contains p.1 := by
  simp [bankEmptied, unstage, endApply]

/-- No block is asked to apply, by what stands beside the registers. -/
def askedNowhere (s : State) (b : Blk) : Prop := s.applyReq.contains b = false ∧ s.armDue.contains b = false

theorem bankEmptied_askedNowhere (s : State) (ks : List Nat) : askedNowhere (bankEmptied s ks) .tt := by
  simp [askedNowhere, bankEmptied, unstage, endApply]

theorem applyAsked_none {s : State} {b : Blk} (h : askedNowhere s b) (harm : s.rd (armTimeField b) = 0) :
    applyAsked s b = false := by
  obtain ⟨hreq, hdue⟩ := h
  simp only [applyAsked, hreq, hdue, armedNow, on_of_rd_zero harm, Bool.false_and, Bool.or_self]

/-! ### What follows from the adopted fields -/

theorem rd_newPhaseSource_other (s : State) (e : Desc) (k l : Nat) (hlock : e.key k l ≠ TT_STATUS.locked.key 0 0)
    (hhold : e.key k l ≠ TT_STATUS.holdover.key 0 0) : (newPhaseSource s).rd e k l = s.rd e k l := by
  have hregs : (newPhaseSource s).rd e k l = ((s.wr TT_STATUS.locked 0).wr TT_STATUS.holdover 0).rd e k l := rfl
  rw [hregs, State.rd_wr_other _ _ _ _ _ _ _ _ hhold, State.rd_wr_other _ _ _ _ _ _ _ _ hlock]

/-- A change of the phase source clears locked and holdover (R61). -/
theorem rd_newPhaseSource (s : State) :
    (newPhaseSource s).rd TT_STATUS.locked = 0 ∧ (newPhaseSource s).rd TT_STATUS.holdover = 0 := by
  have hregs : ∀ e k l, (newPhaseSource s).rd e k l = ((s.wr TT_STATUS.locked 0).wr TT_STATUS.holdover 0).rd e k l :=
    fun _ _ _ => rfl
  refine ⟨?_, ?_⟩
  · rw [hregs, State.rd_wr_other _ _ _ _ _ _ _ _ (by decide)]
    exact State.rd_wr_same _ TT_STATUS.locked 0 0 0 rfl
  · rw [hregs]
    exact State.rd_wr_same _ TT_STATUS.holdover 0 0 0 rfl

/-- A new frequency source moves the time clock to its source and changes no register. -/
def newFreqSource (s : State) : State := { s with tt := { s.tt with onOsc := !s.on TT_CTL.freq_src } }

@[simp] theorem rd_newFreqSource (s : State) (d : Desc) (i j : Nat) : (newFreqSource s).rd d i j = s.rd d i j := rfl

theorem onEffect_freqSrc (s0 s : State) : onEffect s0 s (onlyMember TT_CTL.freq_src) = newFreqSource s := rfl

theorem onEffect_phaseSrc {s0 s : State} (h : s0.rd TT_CTL.phase_src ≠ s.rd TT_CTL.phase_src) :
    onEffect s0 s (onlyMember TT_CTL.phase_src) = newPhaseSource s := by
  unfold onEffect
  rw [if_neg (by decide), if_pos (by decide), if_neg h]

theorem fieldOk_phaseSrc (s : State) (v : Nat) : fieldOk s (onlyMember TT_CTL.phase_src) v = decide (v ≠ 3) := rfl

theorem fieldOk_freqSrc (s : State) (v : Nat) : fieldOk s (onlyMember TT_CTL.freq_src) v = true := rfl

theorem fieldOk_legUs (s : State) (v : Nat) : fieldOk s (onlyMember TT_LEG_LEN.leg_us) v = legLenOk v := rfl

/-- With no leg length waiting APPLY.pending stays as it is. -/
theorem keepPending_none {s : State} (h : s.tt.legAdopt = none) : keepPending .tt s = s := by
  simp [keepPending, h]

/-- With a leg length waiting APPLY.pending shows it (R74). -/
theorem keepPending_some {s : State} {v : Nat} (h : s.tt.legAdopt = some v) :
    keepPending .tt s = s.wr (pendingField .tt) 1 := by
  simp [keepPending, h]

/-! ### The application -/

/-- TT adopts its bank as soon as it is asked to. -/
theorem exec_application_tt {s : State} (hrun : stopped s = false) (hask : applyAsked s .tt = true) :
    exec (.application .tt) s = .next (applyBank .tt s) := by
  change execApplication .tt s = _
  rw [execApplication, run_running s _ hrun]
  simp [hask, atSafePoint]

/-- Of a bank whose values are allowed, without a leg length, every field takes its value and what follows from it. -/
theorem applyBank_tt_adopts {s : State} {ws : List (FieldRef × Nat)} (hws : stagedOf s .tt = ws)
    (hok : ∀ t : State, ws.all (fun w => fieldOk t w.1 w.2) = true) (hnow : ∀ w ∈ ws, appliedNow w.1 = true)
    {s1 : State} (hs1 : s1 = bankEmptied s (ws.map fun w => w.1.desc.key w.1.i w.1.j)) :
    applyBank .tt s = keepPending .tt (ws.foldl (fun t w => onEffect s t w.1) (adoptRaw s1 ws)) := by
  have heff : ws.filter (fun w => appliedNow w.1) = ws := List.filter_eq_self.2 hnow
  have hleg : ws.find? (fun w => !appliedNow w.1) = none := List.find?_eq_none.2 fun w hw => by simp [hnow w hw]
  unfold applyBank
  simp only [hws, hok, heff, hleg]
  rw [hs1]
  rfl

/-- A bank with a value that is not allowed is emptied and rejected as a whole (R16). -/
theorem applyBank_tt_rejects {s : State} {ws : List (FieldRef × Nat)} (hws : stagedOf s .tt = ws)
    (hbad : ∀ t : State, ws.all (fun w => fieldOk t w.1 w.2) = false) : applyBank .tt s = keepPending .tt
      ((bankEmptied s (ws.map fun w => w.1.desc.key w.1.i w.1.j)).wr (applyRejectField .tt) 1) := by
  unfold applyBank
  simp only [hws, hbad, Bool.false_and, Bool.false_eq_true, if_false]
  rfl

/-- The keys of a phase source and a frequency source. -/
def sourceKeys : List Nat := [TT_CTL.phase_src.key 0 0, TT_CTL.freq_src.key 0 0]

/-- The sources of phase and frequency adopted, with what follows from each. -/
def sourcesAdopted (s : State) (v x : Nat) : State :=
  newFreqSource (newPhaseSource ((s.wr TT_CTL.phase_src v).wr TT_CTL.freq_src x))

theorem applyBank_sources {s : State} {v x : Nat}
    (hs : s.staged = [(TT_CTL.phase_src.key 0 0, v), (TT_CTL.freq_src.key 0 0, x)]) (hv : v < 3)
    (hleg : s.tt.legAdopt = none) (hnew : v ≠ s.rd TT_CTL.phase_src) :
    applyBank .tt s = sourcesAdopted (bankEmptied s sourceKeys) v x := by
  have hphase : s.rd TT_CTL.phase_src ≠ (((bankEmptied s sourceKeys).wr TT_CTL.phase_src v).wr TT_CTL.freq_src x).rd
      TT_CTL.phase_src := by
    rw [State.rd_wr_other _ _ _ _ _ _ _ _ (by decide), State.rd_wr_same _ TT_CTL.phase_src v 0 0 rfl,
      Nat.mod_eq_of_lt (Nat.lt_trans hv (by decide))]
    exact hnew.symm
  have hkeep : (sourcesAdopted (bankEmptied s sourceKeys) v x).tt.legAdopt = none := by
    simp [sourcesAdopted, newFreqSource, newPhaseSource, hleg]
  rw [applyBank_tt_adopts (stagedOf_tt_two hs (by simp) (by simp)) (fun t => ?ok) ?now rfl]
  case ok => simp [fieldOk_phaseSrc, fieldOk_freqSrc, Nat.ne_of_lt hv]
  case now => exact List.forall_mem_cons.2 ⟨rfl, List.forall_mem_singleton.2 rfl⟩
  rw [← keepPending_none hkeep, sourcesAdopted, ← onEffect_freqSrc s, ← onEffect_phaseSrc hphase]
  rfl

/-- The registers after the sources of phase and frequency have been adopted (R61). -/
theorem rd_sourcesAdopted (s : State) (ks : List Nat) {v x : Nat} (hv : v < 3) (hx : x < 2) :
    let t := sourcesAdopted (bankEmptied s ks) v x
    t.rd TT_CTL.phase_src = v ∧ t.rd TT_CTL.freq_src = x ∧ t.rd (pendingField .tt) = 0 ∧
      t.rd (armTimeField .tt) = 0 ∧ t.rd TT_STATUS.locked = 0 ∧ t.rd TT_STATUS.holdover = 0 := by
  obtain ⟨hlock, hhold⟩ := rd_newPhaseSource (((bankEmptied s ks).wr TT_CTL.phase_src v).wr TT_CTL.freq_src x)
  have hvmod : v % 2 ^ TT_CTL.phase_src.width = v := Nat.mod_eq_of_lt (Nat.lt_trans hv (by decide))
  have hxmod : x % 2 ^ TT_CTL.freq_src.width = x := Nat.mod_eq_of_lt hx
  refine ⟨?_, ?_, ?_, ?_, hlock, hhold⟩ <;>
    simp (disch := decide) only [sourcesAdopted, rd_newFreqSource, rd_newPhaseSource_other]
  · rw [State.rd_wr_other _ _ _ _ _ _ _ _ (by decide), State.rd_wr_same _ TT_CTL.phase_src v 0 0 rfl, hvmod]
  · rw [State.rd_wr_same _ TT_CTL.freq_src x 0 0 rfl, hxmod]
  · simp (disch := decide) only [State.rd_wr_other, rd_bankEmptied_pending]
  · simp (disch := decide) only [State.rd_wr_other, rd_bankEmptied_armTime]

/-- An adoption of sources leaves what stands beside the registers as the emptied bank left it, but for track time. -/
theorem sourcesAdopted_frame (s : State) (v x : Nat) : (sourcesAdopted s v x).staged = s.staged ∧
    (sourcesAdopted s v x).applyReq = s.applyReq ∧ (sourcesAdopted s v x).armDue = s.armDue ∧
    (sourcesAdopted s v x).tt.slew = s.tt.slew := by
  simp [sourcesAdopted, newFreqSource, newPhaseSource]

theorem applyBank_sources_rejected {s : State} {x : Nat}
    (hs : s.staged = [(TT_CTL.phase_src.key 0 0, 3), (TT_CTL.freq_src.key 0 0, x)]) (hleg : s.tt.legAdopt = none) :
    applyBank .tt s = (bankEmptied s sourceKeys).wr (applyRejectField .tt) 1 := by
  rw [applyBank_tt_rejects (stagedOf_tt_two hs (by simp) (by simp)) (fun t => by simp [fieldOk_phaseSrc]),
    keepPending_none (by simp [hleg])]
  rfl

/-- An allowed leg length, staged alone, waits for the minute boundary (R74). -/
theorem applyBank_legLength {s : State} {v : Nat} (hs : s.staged = [(TT_LEG_LEN.leg_us.key 0 0, v)])
    (hv : legLenOk v = true) : ∃ t : State, t.tt.legAdopt = some v ∧ t.staged = [] ∧
      (∀ e : Desc, t.rd e = (bankEmptied s [TT_LEG_LEN.leg_us.key 0 0]).rd e) ∧
      applyBank .tt s = t.wr (pendingField .tt) 1 := by
  let t0 := bankEmptied s [TT_LEG_LEN.leg_us.key 0 0]
  refine ⟨{ t0 with tt := { t0.tt with legAdopt := some v } }, rfl, ?_, fun e => rfl, ?_⟩
  · change t0.staged = []
    rw [bankEmptied_staged, hs]
    simp
  · rw [← keepPending_some rfl]
    have hws : stagedOf s .tt = [(onlyMember TT_LEG_LEN.leg_us, v)] := by
      rw [stagedOf_tt_cons hs (by simp), stagedOf_nil rfl]
    unfold applyBank
    simp only [hws, List.all_cons, List.all_nil, fieldOk_legUs, hv]
    rfl

/-- Settles O3: the bank is taken as field members and values, of which either all take effect, with what follows from each,
or none does.  That a rejected bank is emptied is the model's choice (entry 13 of the assumption log). -/
theorem applicationOfTheStagingBank : Obligations.ApplicationOfTheStagingBank := by
  unfold Obligations.ApplicationOfTheStagingBank
  refine ⟨?adopted, ?rejected, ?legLength⟩
  case adopted =>
    intro s v x hrun hs hv hx hask hleg hnew
    obtain ⟨hphase, hfreq, hpend, harm, hlock, hhold⟩ := rd_sourcesAdopted s sourceKeys hv hx
    obtain ⟨hstaged, hreq, hdue, hslew⟩ := sourcesAdopted_frame (bankEmptied s sourceKeys) v x
    refine ⟨_, (exec_application_tt hrun hask).trans (by rw [applyBank_sources hs hv hleg hnew]), hphase, hfreq, ?_,
      hpend, harm, hlock, hhold, ?_, applyAsked_none ?_ harm⟩
    · rw [hstaged, bankEmptied_staged, hs]
      simp [sourceKeys]
    · rw [hslew, bankEmptied_tt]
    · rw [askedNowhere, hreq, hdue]
      exact bankEmptied_askedNowhere s sourceKeys
  case rejected =>
    intro s x hrun hs hask hleg
    refine ⟨_, (exec_application_tt hrun hask).trans (by rw [applyBank_sources_rejected hs hleg]), ?_, ?_, ?_, ?_, ?_,
      ?_, applyAsked_none ?_ ?_⟩
    · simp (disch := decide) only [State.rd_wr_other, rd_bankEmptied_other]
    · simp (disch := decide) only [State.rd_wr_other, rd_bankEmptied_other]
    · rw [State.wr_staged, bankEmptied_staged, hs]
      simp [sourceKeys]
    · rw [State.rd_wr_other _ _ _ _ _ _ _ _ (by decide), rd_bankEmptied_pending]
    · exact State.rd_wr_same _ (applyRejectField .tt) 1 0 0 rfl
    · rw [State.wr_tt, bankEmptied_tt]
    · rw [askedNowhere, State.wr_applyReq, State.wr_armDue]
      exact bankEmptied_askedNowhere s sourceKeys
    · rw [State.rd_wr_other _ _ _ _ _ _ _ _ (by decide), rd_bankEmptied_armTime]
  case legLength =>
    intro s v hrun hs hv hask
    obtain ⟨t, hadopt, hstaged, hregs, happly⟩ := applyBank_legLength hs hv
    refine ⟨_, (exec_application_tt hrun hask).trans (by rw [happly]), ?_, ?_, ?_, ?_⟩
    · rw [State.rd_wr_other _ _ _ _ _ _ _ _ (by decide), hregs, rd_bankEmptied_other _ _ _ _ _ (by decide) (by decide)]
    · rw [State.wr_tt, hadopt]
    · exact State.rd_wr_same _ (pendingField .tt) 1 0 0 rfl
    · rw [State.wr_staged, hstaged]

end Sys2Proof.Machine
end

section
/-! SUPPORT. The registers and pc of a relay agent, and what the issue of an instruction leaves (R668, R708, R709, R721). -/
namespace Sys2Proof.Machine

/-! ### The agents as a map -/

@[simp] theorem agentInt_updAgent_same (s : State) (a : Nat) (f : AgentInt → AgentInt) :
    agentInt (updAgent s a f) a = f (agentInt s a) := Map.get_upd_same s.rly.agents a f

theorem agentInt_updAgent_other (s : State) {a b : Nat} (f : AgentInt → AgentInt) (h : b ≠ a) :
    agentInt (updAgent s a f) b = agentInt s b := Map.get_upd_other s.rly.agents f h

/-- What an agent holds depends on the map of the agents alone. -/
theorem agentInt_congr {s t : State} (h : t.rly.agents = s.rly.agents) (a : Nat) : agentInt t a = agentInt s a := by
  rw [agentInt, agentInt, h]

theorem greg_congr {s t : State} {a : Nat} (h : agentInt t a = agentInt s a) (r : Nat) : greg t a r = greg s a r := by
  rw [greg, greg, h]

theorem agentPc_congr {s t : State} {a : Nat} (h : agentInt t a = agentInt s a) : agentPc t a = agentPc s a := by
  rw [agentPc, agentPc, h]

/-! ### General registers (R708) -/

/-- A register written reads as the low 64 bits; g0 reads as 0. -/
theorem greg_setGreg_same (s : State) (a r v : Nat) :
    greg (setGreg s a r v) a r = if r % 32 = 0 then 0 else v % 2 ^ 64 := by
  unfold greg setGreg
  split
  · rfl
  · simp

theorem greg_setGreg_other (s : State) (a v : Nat) {r q : Nat} (h : q % 32 ≠ r % 32) :
    greg (setGreg s a r v) a q = greg s a q := by
  unfold greg setGreg
  split
  · rfl
  · split
    · rfl
    · rw [agentInt_updAgent_same]
      exact Map.get_set_other _ _ h

/-- A register write looks at the low 64 bits of its value. -/
theorem setGreg_congr (s : State) (a r : Nat) {v x : Nat} (h : v % 2 ^ 64 = x % 2 ^ 64) :
    setGreg s a r v = setGreg s a r x := by
  rw [setGreg, setGreg, h]

@[simp] theorem agentPc_setGreg (s : State) (a r v : Nat) : agentPc (setGreg s a r v) a = agentPc s a := by
  unfold agentPc setGreg
  split
  · rfl
  · rw [agentInt_updAgent_same]

theorem agentInt_setGreg_other (s : State) (r v : Nat) {a b : Nat} (h : b ≠ a) :
    agentInt (setGreg s a r v) b = agentInt s b := by
  unfold setGreg
  split
  · rfl
  · exact agentInt_updAgent_other s _ h

/-! ### The pc (R708) -/

@[simp] theorem agentPc_setPc (s : State) (a pc : Nat) : agentPc (setPc s a pc) a = pc % 2 ^ 48 := by
  rw [agentPc, setPc, agentInt_updAgent_same]

/-- A change of the pc leaves every register. -/
@[simp] theorem greg_setPc (s : State) (a pc r : Nat) : greg (setPc s a pc) a r = greg s a r := by
  rw [greg, setPc, agentInt_updAgent_same, greg]

theorem agentInt_setPc_other (s : State) (pc : Nat) {a b : Nat} (h : b ≠ a) :
    agentInt (setPc s a pc) b = agentInt s b := agentInt_updAgent_other s _ h

/-- The pc set is cut to 48 bits. -/
theorem setPc_congr (s : State) (a : Nat) {pc x : Nat} (h : pc % 2 ^ 48 = x % 2 ^ 48) : setPc s a pc = setPc s a x := by
  rw [setPc, setPc, h]

/-! ### What changes of an agent's own part leave -/

/-- All that an agent's registers and pc are no part of: the rest of the relay cores, memory, the links. -/
def sameBesideAgents (s t : State) : Prop :=
  t.rly.threads = s.rly.threads ∧ t.rly.stewards = s.rly.stewards ∧ t.rly.chans = s.rly.chans ∧ t.mem = s.mem ∧
    t.hostMem = s.hostMem ∧ t.links = s.links

theorem sameBesideAgents_refl (s : State) : sameBesideAgents s s := ⟨rfl, rfl, rfl, rfl, rfl, rfl⟩

theorem sameBesideAgents.trans {s t u : State} (h : sameBesideAgents s t) (h' : sameBesideAgents t u) :
    sameBesideAgents s u := by
  obtain ⟨h1, h2, h3, h4, h5, h6⟩ := h
  obtain ⟨k1, k2, k3, k4, k5, k6⟩ := h'
  exact ⟨k1.trans h1, k2.trans h2, k3.trans h3, k4.trans h4, k5.trans h5, k6.trans h6⟩

theorem sameBesideAgents_updAgent (s : State) (a : Nat) (f : AgentInt → AgentInt) :
    sameBesideAgents s (updAgent s a f) := ⟨rfl, rfl, rfl, rfl, rfl, rfl⟩

theorem sameBesideAgents_setGreg (s : State) (a r v : Nat) : sameBesideAgents s (setGreg s a r v) := by
  unfold setGreg
  split
  · exact sameBesideAgents_refl s
  · exact sameBesideAgents_updAgent s a _

theorem sameBesideAgents_setPc (s : State) (a pc : Nat) : sameBesideAgents s (setPc s a pc) :=
  sameBesideAgents_updAgent s a _

/-! ### The issue itself -/

/-- The issue of an instruction is counted beside the agents. -/
@[simp] theorem countIssue_agents (s : State) (a : Nat) : (countIssue s a).rly.agents = s.rly.agents := by
  unfold countIssue
  split <;> simp

theorem sameBesideAgents_countIssue (s : State) (a : Nat) : sameBesideAgents s (countIssue s a) := by
  unfold countIssue
  split
  · simp [sameBesideAgents]
  · exact sameBesideAgents_refl s

@[simp] theorem agentInt_countIssue (s : State) (a b : Nat) : agentInt (countIssue s a) b = agentInt s b :=
  agentInt_congr (countIssue_agents s a) b

@[simp] theorem greg_countIssue (s : State) (a b r : Nat) : greg (countIssue s a) b r = greg s b r :=
  greg_congr (agentInt_countIssue s a b) r

@[simp] theorem agentPc_countIssue (s : State) (a b : Nat) : agentPc (countIssue s a) b = agentPc s b :=
  agentPc_congr (agentInt_countIssue s a b)

/-! ### A result and the next instruction -/

/-- A result is cut to 64 bits. -/
theorem retireTo_congr (s : State) (a rd : Nat) {v x : Nat} (h : v % 2 ^ 64 = x % 2 ^ 64) :
    retireTo s a rd v = retireTo s a rd x := by
  rw [retireTo, retireTo, setGreg_congr s a rd h]

/-- What an issued instruction with a result leaves: rd, the pc, and everything else. -/
theorem retireTo_countIssue (s : State) (a rd v : Nat) :
    let t := retireTo (countIssue s a) a rd v
    greg t a rd = (if rd % 32 = 0 then 0 else v % 2 ^ 64) ∧ agentPc t a = (agentPc s a + 4) % 2 ^ 48 ∧
      t.rly.threads = s.rly.threads ∧ t.rly.stewards = s.rly.stewards ∧ t.rly.chans = s.rly.chans ∧ t.mem = s.mem ∧
      t.hostMem = s.hostMem ∧ t.links = s.links ∧ (∀ r, r % 32 ≠ rd % 32 → greg t a r = greg s a r) ∧
      (∀ b, b ≠ a → agentInt t b = agentInt s b) := by
  have hframe : sameBesideAgents s (retireTo (countIssue s a) a rd v) :=
    ((sameBesideAgents_countIssue s a).trans (sameBesideAgents_setGreg _ a rd v)).trans (sameBesideAgents_setPc _ a _)
  obtain ⟨hthreads, hstewards, hchans, hmem, hhost, hlinks⟩ := hframe
  refine ⟨?_, ?_, hthreads, hstewards, hchans, hmem, hhost, hlinks, fun r hr => ?_, fun b hb => ?_⟩ <;>
    simp only [retireTo, advance]
  · rw [greg_setPc, greg_setGreg_same]
  · simp
  · rw [greg_setPc, greg_setGreg_other _ _ _ hr, greg_countIssue]
  · rw [agentInt_setPc_other _ _ hb, agentInt_setGreg_other _ _ _ hb, agentInt_countIssue]

end Sys2Proof.Machine
end

section
/-! SUPPORT. The arithmetic, logic and constant instructions of a relay agent (R712, R713, R716), and the obligation O38 that
they settle. -/
namespace Sys2Proof.Machine

section Issued

variable {s : State} {a rd ra rb fn imm k : Nat}

/-- An instruction issued while the clocks run has its effect on the state that has counted it. -/
theorem run_issue {regs : List Nat} (f : State → State) (hrun : stopped s = false) (hmay : mayIssue s a = true)
    (hload : waitsForLoad s a regs = false) (hfetch : fetchFault s a = none) :
    run s (issue a regs f) = .next (f (countIssue s a)) := by
  rw [run_running s _ hrun, issue_runs a regs f s hmay hload hfetch]

/-- An instruction of three registers writes what its function gives, modulo 2^64. -/
theorem run_issueAlu (f : Nat → Nat → Nat) {v : Nat} (hrun : stopped s = false) (hmay : mayIssue s a = true)
    (hload : waitsForLoad s a [rd, ra, rb] = false) (hfetch : fetchFault s a = none)
    (hv : f (greg s a ra) (greg s a rb) % 2 ^ 64 = v % 2 ^ 64) :
    run s (issueAlu f a rd ra rb) = .next (retireTo (countIssue s a) a rd v) := by
  refine (run_issue _ hrun hmay hload hfetch).trans (congrArg _ (retireTo_congr _ a rd ?_))
  rw [greg_countIssue, greg_countIssue, w64, Nat.mod_mod, hv]

/-- An instruction of two registers writes what its function gives, modulo 2^64. -/
theorem run_issueImm (f : Nat → Nat) {v : Nat} (hrun : stopped s = false) (hmay : mayIssue s a = true)
    (hload : waitsForLoad s a [rd, ra] = false) (hfetch : fetchFault s a = none)
    (hv : f (greg s a ra) % 2 ^ 64 = v % 2 ^ 64) :
    run s (issueImm f a rd ra) = .next (retireTo (countIssue s a) a rd v) := by
  refine (run_issue _ hrun hmay hload hfetch).trans (congrArg _ (retireTo_congr _ a rd ?_))
  rw [greg_countIssue, w64, Nat.mod_mod, hv]

/-- BITS with a selector that has a function writes its value. -/
theorem exec_bits_some {v : Nat} (hrun : stopped s = false) (hmay : mayIssue s a = true)
    (hload : waitsForLoad s a [rd, ra] = false) (hfetch : fetchFault s a = none)
    (hv : bitsFn fn (greg s a ra) = some v) :
    exec (.bits a rd ra fn) s = .next (retireTo (countIssue s a) a rd v) := by
  refine (run_issue _ hrun hmay hload hfetch).trans ?_
  simp only [greg_countIssue, hv]

/-- BITS with the reserved selector is ILLEGAL (R711). -/
theorem exec_bits_none (hrun : stopped s = false) (hmay : mayIssue s a = true)
    (hload : waitsForLoad s a [rd, ra] = false) (hfetch : fetchFault s a = none)
    (hv : bitsFn fn (greg s a ra) = none) :
    exec (.bits a rd ra fn) s = .next (exception (countIssue s a) a exIllegal 0) := by
  refine (run_issue _ hrun hmay hload hfetch).trans ?_
  simp only [greg_countIssue, hv]

/-- SHI with a kind that exists writes the shifted value, modulo 2^64. -/
theorem exec_shi_some {u v : Nat} (hrun : stopped s = false) (hmay : mayIssue s a = true)
    (hload : waitsForLoad s a [rd, ra] = false) (hfetch : fetchFault s a = none)
    (hu : shiFn imm (greg s a ra) = some u) (hv : u % 2 ^ 64 = v % 2 ^ 64) :
    exec (.shi a rd ra imm) s = .next (retireTo (countIssue s a) a rd v) := by
  refine (run_issue _ hrun hmay hload hfetch).trans ?_
  simp only [greg_countIssue, hu]
  rw [retireTo_congr _ a rd hv]

/-- SHI with the reserved kind or bit is ILLEGAL (R711). -/
theorem exec_shi_none (hrun : stopped s = false) (hmay : mayIssue s a = true)
    (hload : waitsForLoad s a [rd, ra] = false) (hfetch : fetchFault s a = none)
    (hv : shiFn imm (greg s a ra) = none) :
    exec (.shi a rd ra imm) s = .next (exception (countIssue s a) a exIllegal 0) := by
  refine (run_issue _ hrun hmay hload hfetch).trans ?_
  simp only [greg_countIssue, hv]

/-! ### The values of the table in the model's operations -/

theorem sub64_mod (x y : Nat) : sub64 x y % 2 ^ 64 = (x + (2 ^ 64 - y % 2 ^ 64)) % 2 ^ 64 := by
  unfold sub64 w64
  omega

theorem shl64_mod (x n : Nat) : shl64 x n % 2 ^ 64 = x * 2 ^ (n % 64) % 2 ^ 64 := by
  rw [shl64, w64, Nat.mod_mod, Nat.shiftLeft_eq]

/-- The lesser of two numbers, by the comparison that finds the other one greater. -/
theorem min_eq_ite (x y : Nat) : min x y = if x < y then x else y := by
  split <;> omega

theorem max_eq_ite (x y : Nat) : max x y = if x < y then y else x := by
  split <;> omega

theorem shr64_eq (x n : Nat) : shr64 x n = x % 2 ^ 64 / 2 ^ (n % 64) := by
  rw [shr64, w64, Nat.shiftRight_eq_div_pow]

/-- A number below half the range is its own signed reading, and one from half on is read as negative. -/
theorem signed_wrapInt {w : Nat} {x : Int} (hw : 0 < w) (hlo : -(2 ^ (w - 1) : Nat) ≤ x) (hhi : x < (2 ^ (w - 1) : Nat)) :
    signed w (wrapInt w x) = x := by
  obtain ⟨n, rfl⟩ : ∃ n, w = n + 1 := ⟨w - 1, by omega⟩
  simp only [Nat.add_sub_cancel] at hlo hhi
  have hpow : (2 : Nat) ^ (n + 1) = 2 * 2 ^ n := by rw [Nat.pow_succ, Nat.mul_comm]
  simp only [signed, wrapInt, Nat.add_sub_cancel, hpow]
  generalize (2 : Nat) ^ n = p at hlo hhi ⊢
  rcases Int.lt_or_le x 0 with hneg | hpos
  · have hmod : x % ((2 * p : Nat) : Int) = x + (2 * p : Nat) := by
      rw [← Int.add_emod_right, Int.emod_eq_of_lt (by omega) (by omega)]
    rw [hmod, Nat.mod_eq_of_lt (by omega), if_neg (by omega)]
    omega
  · rw [Int.emod_eq_of_lt hpos (by omega), Nat.mod_eq_of_lt (by omega), if_pos (by omega)]
    omega

/-- The signed reading of `w` bits lies in their range. -/
theorem signed_range {w : Nat} (hw : 0 < w) (v : Nat) :
    -(2 ^ (w - 1) : Nat) ≤ signed w v ∧ signed w v < (2 ^ (w - 1) : Nat) := by
  obtain ⟨n, rfl⟩ : ∃ n, w = n + 1 := ⟨w - 1, by omega⟩
  have hpow : (2 : Nat) ^ (n + 1) = 2 * 2 ^ n := by rw [Nat.pow_succ, Nat.mul_comm]
  have hlt : v % 2 ^ (n + 1) < 2 ^ (n + 1) := Nat.mod_lt _ (Nat.two_pow_pos _)
  simp only [signed, Nat.add_sub_cancel, hpow] at hlt ⊢
  generalize (2 : Nat) ^ n = p at hlt ⊢
  split <;> omega

/-- Sign extension keeps the signed reading. -/
theorem signed_sext16 (v : Nat) : signed 64 (sext 16 v) = signed 16 v := by
  obtain ⟨hlo, hhi⟩ := signed_range (w := 16) (by decide) v
  exact signed_wrapInt (by decide) (by omega) (by omega)

theorem flag_decide (p : Prop) [Decidable p] : flag (decide p) = if p then 1 else 0 := by
  unfold flag
  by_cases h : p <;> simp [h]

/-- A sum with a multiple of a wrapped integer, wrapped to no more bits. -/
theorem add_wrapInt_mul_mod {w u : Nat} (h : w ≤ u) (x c : Nat) (y : Int) :
    (x + wrapInt u y * c) % 2 ^ w = wrapInt w (x + y * c) := by
  have hpos : ((2 ^ u : Nat) : Int) ≠ 0 := Int.natCast_ne_zero.mpr (Nat.ne_of_gt (Nat.two_pow_pos u))
  have hdvd : ((2 ^ w : Nat) : Int) ∣ ((2 ^ u : Nat) : Int) := Int.natCast_dvd_natCast.mpr (Nat.pow_dvd_pow 2 h)
  have hy : ((wrapInt u y : Nat) : Int) = y % ((2 ^ u : Nat) : Int) :=
    Int.toNat_of_nonneg (Int.emod_nonneg _ hpos)
  have hcong : (x + y % ((2 ^ u : Nat) : Int) * c) % ((2 ^ w : Nat) : Int) = (x + y * c) % ((2 ^ w : Nat) : Int) := by
    rw [Int.add_emod, Int.mul_emod, Int.emod_emod_of_dvd y hdvd, ← Int.mul_emod, ← Int.add_emod]
  have hcast : (((x + wrapInt u y * c) % 2 ^ w : Nat) : Int) = (x + y * c) % ((2 ^ w : Nat) : Int) := by
    rw [Int.natCast_emod, Int.natCast_add, Int.natCast_mul, hy]
    exact hcong
  exact ((congrArg Int.toNat hcast.symm).trans (Int.toNat_natCast _)).symm

/-! ### The shifts by an immediate amount (R712) -/

theorem shiFn_left (n x : Nat) : shiFn (n % 64) x = some (shl64 x (n % 64)) := by
  rw [shiFn, show n % 64 / 64 = 0 by omega]
  rfl

theorem shiFn_right (n x : Nat) : shiFn (64 + n % 64) x = some (shr64 x (64 + n % 64)) := by
  rw [shiFn, show (64 + n % 64) / 64 = 1 by omega]
  rfl

theorem shiFn_arithmetic (n x : Nat) : shiFn (128 + n % 64) x = some (sar64 x (128 + n % 64)) := by
  rw [shiFn, show (128 + n % 64) / 64 = 2 by omega]
  rfl

theorem shiFn_reserved {n : Nat} (x : Nat) (h : 192 ≤ n) : shiFn n x = none := by
  obtain ⟨k, hk⟩ : ∃ k, n / 64 = k + 3 := ⟨n / 64 - 3, by omega⟩
  rw [shiFn, hk]
  rfl

/-! ### The rows of the opcode table -/

/-- The instructions of three registers, each with the value that it gives rd. -/
def aluRows (s : State) (a rd ra rb fn : Nat) : List (Instr × Nat) :=
  [(.add a rd ra rb, greg s a ra + greg s a rb),
   (.sub a rd ra rb, greg s a ra + (2 ^ 64 - greg s a rb % 2 ^ 64)),
   (.and a rd ra rb, greg s a ra &&& greg s a rb),
   (.or a rd ra rb, greg s a ra ||| greg s a rb),
   (.xor a rd ra rb, greg s a ra ^^^ greg s a rb),
   (.shl a rd ra rb, greg s a ra * 2 ^ (greg s a rb % 64)),
   (.shr a rd ra rb, greg s a ra % 2 ^ 64 / 2 ^ (greg s a rb % 64)),
   (.sar a rd ra rb, wrapInt 64 (signed 64 (greg s a ra) / ((2 ^ (greg s a rb % 64) : Nat) : Int))),
   (.mul a rd ra rb, greg s a ra * greg s a rb),
   (.mulhu a rd ra rb, greg s a ra * greg s a rb / 2 ^ 64),
   (.minu a rd ra rb, if greg s a ra < greg s a rb then greg s a ra else greg s a rb),
   (.maxu a rd ra rb, if greg s a ra < greg s a rb then greg s a rb else greg s a ra),
   (.slt a rd ra rb, if signed 64 (greg s a ra) < signed 64 (greg s a rb) then 1 else 0),
   (.sltu a rd ra rb, if greg s a ra < greg s a rb then 1 else 0),
   (.crcc a rd ra rb fn, crcStep fn (fn / 2) (greg s a ra) (greg s a rb))]

/-- The instructions of two registers, or one and an immediate, each with the value that it gives rd. -/
def immRows (s : State) (a rd ra imm : Nat) : List (Instr × Nat) :=
  [(.bits a rd ra 0, clz64 (greg s a ra)), (.bits a rd ra 1, ctz64 (greg s a ra)),
   (.bits a rd ra 2, popCount 64 (greg s a ra)), (.bits a rd ra 3, ofBe (leBytes 8 (greg s a ra))),
   (.bits a rd ra 4, wrapInt 64 (signed 8 (greg s a ra))), (.bits a rd ra 5, wrapInt 64 (signed 16 (greg s a ra))),
   (.bits a rd ra 6, wrapInt 64 (signed 32 (greg s a ra))),
   (.addi a rd ra imm, greg s a ra + wrapInt 64 (signed 16 imm)),
   (.andi a rd ra imm, greg s a ra &&& imm % 65536), (.ori a rd ra imm, greg s a ra ||| imm % 65536),
   (.xori a rd ra imm, greg s a ra ^^^ imm % 65536),
   (.shi a rd ra (imm % 64), greg s a ra * 2 ^ (imm % 64)),
   (.shi a rd ra (64 + imm % 64), greg s a ra % 2 ^ 64 / 2 ^ (imm % 64)),
   (.shi a rd ra (128 + imm % 64), wrapInt 64 (signed 64 (greg s a ra) / ((2 ^ (imm % 64) : Nat) : Int))),
   (.slti a rd ra imm, if signed 64 (greg s a ra) < signed 16 imm then 1 else 0)]

/-- The instructions that make constants, each with the value that it gives rd. -/
def constRows (s : State) (a rd k imm : Nat) : List (Instr × Nat) :=
  [(.movk a rd k imm, putBits (greg s a rd) (16 * (k % 4)) 16 imm),
   (.addpc a rd imm, (((agentPc s a : Int) + signed 16 imm * 4) % 2 ^ 64).toNat)]

/-- Each row of three registers writes its value to rd and moves the pc on. -/
theorem exec_aluRows {i : Instr} {v : Nat} (hrun : stopped s = false) (hmay : mayIssue s a = true)
    (hload : waitsForLoad s a [rd, ra, rb] = false) (hfetch : fetchFault s a = none)
    (h : (i, v) ∈ aluRows s a rd ra rb fn) : exec i s = .next (retireTo (countIssue s a) a rd v) := by
  have halu := fun f v => run_issueAlu f (v := v) hrun hmay hload hfetch
  simp only [aluRows, List.mem_cons, Prod.mk.injEq, List.not_mem_nil, or_false] at h
  rcases h with ⟨rfl, rfl⟩ | ⟨rfl, rfl⟩ | ⟨rfl, rfl⟩ | ⟨rfl, rfl⟩ | ⟨rfl, rfl⟩ | ⟨rfl, rfl⟩ | ⟨rfl, rfl⟩ | ⟨rfl, rfl⟩ |
    ⟨rfl, rfl⟩ | ⟨rfl, rfl⟩ | ⟨rfl, rfl⟩ | ⟨rfl, rfl⟩ | ⟨rfl, rfl⟩ | ⟨rfl, rfl⟩ | ⟨rfl, rfl⟩
  · exact halu _ _ rfl
  · exact halu _ _ (sub64_mod _ _)
  · exact halu _ _ rfl
  · exact halu _ _ rfl
  · exact halu _ _ rfl
  · exact halu _ _ (shl64_mod _ _)
  · exact halu _ _ (by rw [shr64_eq])
  · exact halu _ _ rfl
  · exact halu _ _ rfl
  · exact halu _ _ rfl
  · exact halu _ _ (by rw [min_eq_ite])
  · exact halu _ _ (by rw [max_eq_ite])
  · exact halu _ _ (by rw [slt64, flag_decide])
  · exact halu _ _ (by rw [flag_decide])
  · exact halu _ _ rfl

/-- Each row of two registers, or one and an immediate, writes its value to rd and moves the pc on. -/
theorem exec_immRows {i : Instr} {v : Nat} (hrun : stopped s = false) (hmay : mayIssue s a = true)
    (hload : waitsForLoad s a [rd, ra] = false) (hfetch : fetchFault s a = none)
    (h : (i, v) ∈ immRows s a rd ra imm) : exec i s = .next (retireTo (countIssue s a) a rd v) := by
  have hbits := fun fn v => exec_bits_some (fn := fn) (v := v) hrun hmay hload hfetch
  have himm := fun f v => run_issueImm f (v := v) hrun hmay hload hfetch
  have hshi := fun n u v => exec_shi_some (imm := n) (u := u) (v := v) hrun hmay hload hfetch
  simp only [immRows, List.mem_cons, Prod.mk.injEq, List.not_mem_nil, or_false] at h
  rcases h with ⟨rfl, rfl⟩ | ⟨rfl, rfl⟩ | ⟨rfl, rfl⟩ | ⟨rfl, rfl⟩ | ⟨rfl, rfl⟩ | ⟨rfl, rfl⟩ | ⟨rfl, rfl⟩ | ⟨rfl, rfl⟩ |
    ⟨rfl, rfl⟩ | ⟨rfl, rfl⟩ | ⟨rfl, rfl⟩ | ⟨rfl, rfl⟩ | ⟨rfl, rfl⟩ | ⟨rfl, rfl⟩ | ⟨rfl, rfl⟩
  · exact hbits _ _ rfl
  · exact hbits _ _ rfl
  · exact hbits _ _ rfl
  · exact hbits _ _ rfl
  · exact hbits _ _ rfl
  · exact hbits _ _ rfl
  · exact hbits _ _ rfl
  · exact himm _ _ rfl
  · exact himm _ _ rfl
  · exact himm _ _ rfl
  · exact himm _ _ rfl
  · exact hshi _ _ _ (shiFn_left imm _) (by rw [shl64_mod, Nat.mod_mod])
  · exact hshi _ _ _ (shiFn_right imm _) (by rw [shr64_eq, Nat.add_mod_left, Nat.mod_mod])
  · exact hshi _ _ _ (shiFn_arithmetic imm _) (by rw [sar64, show (128 + imm % 64) % 64 = imm % 64 by omega])
  · exact himm _ _ (by rw [slt64, flag_decide, signed_sext16])

/-- Each row that makes a constant writes its value to rd and moves the pc on. -/
theorem exec_constRows {i : Instr} {v : Nat} (hrun : stopped s = false) (hmay : mayIssue s a = true)
    (hload : waitsForLoad s a [rd] = false) (hfetch : fetchFault s a = none)
    (h : (i, v) ∈ constRows s a rd k imm) : exec i s = .next (retireTo (countIssue s a) a rd v) := by
  simp only [constRows, List.mem_cons, Prod.mk.injEq, List.not_mem_nil, or_false] at h
  rcases h with ⟨rfl, rfl⟩ | ⟨rfl, rfl⟩
  · exact (run_issue _ hrun hmay hload hfetch).trans (by rw [greg_countIssue])
  · refine (run_issue _ hrun hmay hload hfetch).trans ?_
    rw [agentPc_countIssue, w64, sext, add_wrapInt_mul_mod (Nat.le_refl 64)]
    rfl

end Issued

/-- Settles O38: the rows of the opcode table are each the issue of an instruction with a result, of which one lemma says
what it leaves; a word without a meaning is an exception. -/
theorem relayArithmetic : Obligations.RelayArithmetic := by
  unfold Obligations.RelayArithmetic
  refine ⟨?alu, ?imm, ?const, ?aluState, ?immState, ?constState, ?bitsReserved, ?shiReserved⟩
  case alu =>
    intro s a rd ra rb fn i v hrun hmay hload hfetch h
    exact ⟨_, exec_aluRows (fn := fn) hrun hmay hload hfetch h, retireTo_countIssue s a rd v⟩
  case imm =>
    intro s a rd ra imm i v hrun hmay hload hfetch h
    exact ⟨_, exec_immRows hrun hmay hload hfetch h, retireTo_countIssue s a rd v⟩
  case const =>
    intro s a rd k imm i v hrun hmay hload hfetch h
    exact ⟨_, exec_constRows hrun hmay hload hfetch h, retireTo_countIssue s a rd v⟩
  case aluState =>
    intro s a rd ra rb fn i t hrun hmay hload hfetch h
    obtain ⟨⟨j, v⟩, hmem, heq⟩ := List.mem_map (f := fun p => (p.1, retireTo (countIssue s a) a rd p.2))
      (l := aluRows s a rd ra rb fn) |>.1 h
    cases heq
    exact exec_aluRows hrun hmay hload hfetch hmem
  case immState =>
    intro s a rd ra imm i t hrun hmay hload hfetch h
    obtain ⟨⟨j, v⟩, hmem, heq⟩ := List.mem_map (f := fun p => (p.1, retireTo (countIssue s a) a rd p.2))
      (l := immRows s a rd ra imm) |>.1 h
    cases heq
    exact exec_immRows hrun hmay hload hfetch hmem
  case constState =>
    intro s a rd k imm i t hrun hmay hload hfetch h
    obtain ⟨⟨j, v⟩, hmem, heq⟩ := List.mem_map (f := fun p => (p.1, retireTo (countIssue s a) a rd p.2))
      (l := constRows s a rd k imm) |>.1 h
    cases heq
    exact exec_constRows hrun hmay hload hfetch hmem
  case bitsReserved => exact fun s a rd ra hrun hmay hload hfetch => exec_bits_none hrun hmay hload hfetch rfl
  case shiReserved =>
    exact fun s a rd ra imm hrun hmay hload hfetch himm => exec_shi_none hrun hmay hload hfetch (shiFn_reserved _ himm)

end Sys2Proof.Machine
end

section
/-! SUPPORT. Exceptions, supervisor entry and return (R702, R738 to R745), and the obligations O39 and O40 that rest on
them. -/
namespace Sys2Proof.Machine

/-! ### A thread that stops issuing -/

/-- What leaves the agents and both memories as they are. -/
def keepsAgents (s t : State) : Prop := t.rly.agents = s.rly.agents ∧ t.mem = s.mem ∧ t.hostMem = s.hostMem

theorem keepsAgents.trans {s t u : State} (h : keepsAgents s t) (h' : keepsAgents t u) : keepsAgents s u := by
  obtain ⟨h1, h2, h3⟩ := h
  obtain ⟨k1, k2, k3⟩ := h'
  exact ⟨k1.trans h1, k2.trans h2, k3.trans h3⟩

theorem keepsAgents_syncChan (s : State) (ch : Nat) : keepsAgents s (syncChan s ch) := by
  simp [keepsAgents, syncChan]

theorem keepsAgents_leaveWait (s : State) (t : Nat) : keepsAgents s (leaveWait s t) := by
  unfold leaveWait
  dsimp only
  split
  · exact keepsAgents.trans ⟨rfl, rfl, rfl⟩ (keepsAgents_syncChan _ _)
  · exact keepsAgents.trans ⟨rfl, rfl, rfl⟩ (keepsAgents_syncChan _ _)
  · exact ⟨rfl, rfl, rfl⟩

theorem keepsAgents_countIssue (s : State) (a : Nat) : keepsAgents s (countIssue s a) := by
  obtain ⟨-, -, -, hmem, hhost, -⟩ := sameBesideAgents_countIssue s a
  exact ⟨countIssue_agents s a, hmem, hhost⟩

theorem keepsAgents_faultThread (s : State) (t cause pc addr : Nat) : keepsAgents s (faultThread s t cause pc addr) := by
  refine (keepsAgents_leaveWait s t).trans ?_
  simp [keepsAgents, faultThread, setThreadState]

/-- What the agents' registers show after the agents have been kept. -/
theorem keepsAgents.view {s t : State} (h : keepsAgents s t) (a : Nat) :
    agentPc t a = agentPc s a ∧ t.mem = s.mem ∧ t.hostMem = s.hostMem ∧ ∀ r, greg t a r = greg s a r := by
  obtain ⟨hagents, hmem, hhost⟩ := h
  have hagent := agentInt_congr hagents a
  exact ⟨agentPc_congr hagent, hmem, hhost, greg_congr hagent⟩

/-- A faulting thread is FAULTED, recorded in its context and in RLY_FAULTQ, and its source raised (R702). -/
theorem rd_faultThread (s : State) {t : Nat} (cause pc addr : Nat) (ht : t < 512) :
    let u := faultThread s t cause pc addr
    threadState u t = thFaulted ∧ u.rd RLY_THCTX.fault_cause t = cause % 2 ^ 8 ∧ u.rd RLY_THCTX.fault_pc t = pc % 2 ^ 48 ∧
      u.rd RLY_FAULTQ.thread = t ∧ u.rd RLY_FAULTQ.cause = cause % 2 ^ 8 ∧ u.rd IRQ_SRC.asserted 0x181 = 1 := by
  have hstate := fun v s => State.rd_wr_same s RLY_THCTX.state v t 0 (by simp [Desc.has, RLY_THCTX.state, ht])
  have hcause := fun v s => State.rd_wr_same s RLY_THCTX.fault_cause v t 0 (by simp [Desc.has, RLY_THCTX.fault_cause, ht])
  have hpc := fun v s => State.rd_wr_same s RLY_THCTX.fault_pc v t 0 (by simp [Desc.has, RLY_THCTX.fault_pc, ht])
  have hthread := fun v s => State.rd_wr_same s RLY_FAULTQ.thread v 0 0 rfl
  have hqcause := fun v s => State.rd_wr_same s RLY_FAULTQ.cause v 0 0 rfl
  refine ⟨?_, ?_, ?_, ?_, ?_, rd_raise_asserted _ (by decide)⟩ <;>
    simp (disch := simp only [Desc.key, RLY_THCTX.state, RLY_THCTX.fault_cause, RLY_THCTX.fault_pc, RLY_THCTX.fault_addr,
      RLY_THCTX.pc, RLY_FAULTQ.thread, RLY_FAULTQ.cause, RLY_FAULTQ.count, IRQ_SRC.asserted, IRQ_MSIX_BAD.count]; omega)
      only [threadState, faultThread, setThreadState, rd_raise_other, State.rd_countSat_other, State.rd_wr_other, hstate,
        hcause, hpc, hthread, hqcause]
  · rfl
  · rfl
  · rfl
  · exact Nat.mod_eq_of_lt ht
  · rfl

/-- An exception of a thread is a fault of the thread at its pc. -/
theorem exception_thread {s : State} {a : Nat} (cause addr : Nat) (ha : a < 512) :
    exception s a cause addr = faultThread s a cause (agentPc s a) addr := by
  simp [exception, exceptionAt, isThread, ha]

/-- An issued instruction that raises an exception leaves its thread FAULTED, with every register and byte as before. -/
theorem exception_countIssue_thread (s : State) {a : Nat} (cause addr : Nat) (ha : a < 512) :
    let u := exception (countIssue s a) a cause addr
    (threadState u a = thFaulted ∧ u.rd RLY_THCTX.fault_cause a = cause % 2 ^ 8 ∧
      u.rd RLY_THCTX.fault_pc a = agentPc s a % 2 ^ 48 ∧ u.rd RLY_FAULTQ.thread = a ∧
      u.rd RLY_FAULTQ.cause = cause % 2 ^ 8 ∧ u.rd IRQ_SRC.asserted 0x181 = 1) ∧
      agentPc u a = agentPc s a ∧ u.mem = s.mem ∧ u.hostMem = s.hostMem ∧ ∀ r, greg u a r = greg s a r := by
  rw [exception_thread _ _ ha, agentPc_countIssue]
  exact ⟨rd_faultThread _ _ _ _ ha, ((keepsAgents_countIssue s a).trans (keepsAgents_faultThread _ _ _ _ _)).view a⟩

end Sys2Proof.Machine
end

section
/-! SUPPORT. The branches and jumps of a relay agent (R714, R715), and the obligation O39 that they settle. -/
namespace Sys2Proof.Machine

section Issued

variable {s : State} {a rd ra rb off imm : Nat}

/-- A branch moves the pc by its offset where its condition holds, and to the next instruction where not. -/
theorem run_issueBranch (p : Nat → Nat → Bool) {c : Bool} (hrun : stopped s = false) (hmay : mayIssue s a = true)
    (hload : waitsForLoad s a [ra, rb] = false) (hfetch : fetchFault s a = none)
    (hc : p (greg s a ra) (greg s a rb) = c) : run s (issueBranch p a ra rb off) = .next (if c = true then
      setPc (countIssue s a) a (agentPc s a + wrapInt 64 (signed 16 off) * 4) else advance (countIssue s a) a) := by
  refine (run_issue _ hrun hmay hload hfetch).trans ?_
  rw [greg_countIssue, greg_countIssue, hc, agentPc_countIssue]
  rfl

/-- The branches, each with its condition. -/
def branchRows (s : State) (a ra rb off : Nat) : List (Instr × Bool) :=
  [(.beq a ra rb off, decide (greg s a ra = greg s a rb)), (.bne a ra rb off, decide (greg s a ra ≠ greg s a rb)),
   (.blt a ra rb off, decide (signed 64 (greg s a ra) < signed 64 (greg s a rb))),
   (.bge a ra rb off, decide (signed 64 (greg s a rb) ≤ signed 64 (greg s a ra))),
   (.bltu a ra rb off, decide (greg s a ra < greg s a rb)), (.bgeu a ra rb off, decide (greg s a rb ≤ greg s a ra))]

theorem exec_branchRows {i : Instr} {p : Bool} (hrun : stopped s = false) (hmay : mayIssue s a = true)
    (hload : waitsForLoad s a [ra, rb] = false) (hfetch : fetchFault s a = none)
    (h : (i, p) ∈ branchRows s a ra rb off) : exec i s = .next (if p = true then
      setPc (countIssue s a) a (agentPc s a + wrapInt 64 (signed 16 off) * 4) else advance (countIssue s a) a) := by
  have hbranch := fun q c => run_issueBranch (off := off) q (c := c) hrun hmay hload hfetch
  simp only [branchRows, List.mem_cons, Prod.mk.injEq, List.not_mem_nil, or_false] at h
  rcases h with ⟨rfl, rfl⟩ | ⟨rfl, rfl⟩ | ⟨rfl, rfl⟩ | ⟨rfl, rfl⟩ | ⟨rfl, rfl⟩ | ⟨rfl, rfl⟩
  · exact hbranch _ _ rfl
  · exact hbranch _ _ rfl
  · exact hbranch _ _ rfl
  · exact hbranch _ _ (by rw [slt64, ← decide_not, decide_eq_decide, Int.not_lt])
  · exact hbranch _ _ rfl
  · exact hbranch _ _ rfl

/-- JAL writes the address after it to rd and moves the pc by its offset. -/
theorem exec_jal_issued (hrun : stopped s = false) (hmay : mayIssue s a = true)
    (hload : waitsForLoad s a [rd] = false) (hfetch : fetchFault s a = none) : exec (.jal a rd off) s =
      .next (setPc (setGreg (countIssue s a) a rd (agentPc s a + 4)) a (agentPc s a + wrapInt 64 (signed 21 off) * 4)) := by
  refine (run_issue _ hrun hmay hload hfetch).trans ?_
  rw [agentPc_countIssue]
  rfl

/-- JALR with an aligned target writes the address after it to rd and goes to its target. -/
theorem exec_jalr_aligned (hrun : stopped s = false) (hmay : mayIssue s a = true)
    (hload : waitsForLoad s a [rd, ra] = false) (hfetch : fetchFault s a = none)
    (halign : (greg s a ra + wrapInt 64 (signed 16 imm)) % 2 ^ 64 % 4 = 0) : exec (.jalr a rd ra imm) s =
      .next (setPc (setGreg (countIssue s a) a rd (agentPc s a + 4)) a
        ((greg s a ra + wrapInt 64 (signed 16 imm)) % 2 ^ 64)) := by
  refine (run_issue _ hrun hmay hload hfetch).trans ?_
  rw [agentPc_countIssue, greg_countIssue]
  exact congrArg _ (if_neg (Classical.not_not.mpr halign))

/-- JALR with a target that is no multiple of 4 is MISALIGNED and writes nothing (R715). -/
theorem exec_jalr_misaligned (hrun : stopped s = false) (hmay : mayIssue s a = true)
    (hload : waitsForLoad s a [rd, ra] = false) (hfetch : fetchFault s a = none)
    (halign : (greg s a ra + wrapInt 64 (signed 16 imm)) % 2 ^ 64 % 4 ≠ 0) :
    exec (.jalr a rd ra imm) s = .next (exception (countIssue s a) a exMisaligned 0) := by
  refine (run_issue _ hrun hmay hload hfetch).trans ?_
  rw [greg_countIssue]
  exact congrArg _ (if_pos halign)

end Issued

/-- What an issued jump with a return address leaves: rd, the pc, and everything else. -/
theorem setPc_setGreg_countIssue (s : State) (a rd v pc : Nat) :
    let t := setPc (setGreg (countIssue s a) a rd v) a pc
    greg t a rd = (if rd % 32 = 0 then 0 else v % 2 ^ 64) ∧ agentPc t a = pc % 2 ^ 48 ∧
      t.rly.threads = s.rly.threads ∧ t.rly.stewards = s.rly.stewards ∧ t.rly.chans = s.rly.chans ∧ t.mem = s.mem ∧
      t.hostMem = s.hostMem ∧ t.links = s.links ∧ (∀ r, r % 32 ≠ rd % 32 → greg t a r = greg s a r) ∧
      (∀ b, b ≠ a → agentInt t b = agentInt s b) := by
  obtain ⟨hthreads, hstewards, hchans, hmem, hhost, hlinks⟩ := ((sameBesideAgents_countIssue s a).trans
    (sameBesideAgents_setGreg _ a rd v)).trans (sameBesideAgents_setPc _ a pc)
  refine ⟨?_, agentPc_setPc _ a pc, hthreads, hstewards, hchans, hmem, hhost, hlinks, fun r hr => ?_, fun b hb => ?_⟩
  · rw [greg_setPc, greg_setGreg_same]
  · rw [greg_setPc, greg_setGreg_other _ _ _ hr, greg_countIssue]
  · rw [agentInt_setPc_other _ _ hb, agentInt_setGreg_other _ _ _ hb, agentInt_countIssue]

/-- What an issued move of the pc leaves: no register, and nothing beside its agent. -/
theorem setPc_countIssue (s : State) (a pc : Nat) :
    let t := setPc (countIssue s a) a pc
    agentPc t a = pc % 2 ^ 48 ∧ t.rly.threads = s.rly.threads ∧ t.rly.stewards = s.rly.stewards ∧
      t.rly.chans = s.rly.chans ∧ t.mem = s.mem ∧ t.hostMem = s.hostMem ∧ t.links = s.links ∧
      (∀ r, greg t a r = greg s a r) ∧ (∀ b, b ≠ a → agentInt t b = agentInt s b) := by
  obtain ⟨hthreads, hstewards, hchans, hmem, hhost, hlinks⟩ := (sameBesideAgents_countIssue s a).trans
    (sameBesideAgents_setPc _ a pc)
  refine ⟨agentPc_setPc _ a pc, hthreads, hstewards, hchans, hmem, hhost, hlinks, fun r => ?_, fun b hb => ?_⟩
  · rw [greg_setPc, greg_countIssue]
  · rw [agentInt_setPc_other _ _ hb, agentInt_countIssue]

/-- The pc after a taken or a passed branch, as an integer. -/
theorem branch_pc (pc off : Nat) (p : Bool) :
    (if p = true then pc + wrapInt 64 (signed 16 off) * 4 else pc + 4) % 2 ^ 48 =
      wrapInt 48 ((pc : Int) + if p = true then signed 16 off * 4 else 4) := by
  cases p
  · exact (Int.toNat_natCast _).symm
  · exact add_wrapInt_mul_mod (by decide) pc 4 (signed 16 off)

/-- Settles O39: branches and jumps move the pc, those with a return address write rd, and a misaligned target is an
exception.  That its fault address is 0 is the model's choice (entry 64 of the assumption log). -/
theorem relayControlFlow : Obligations.RelayControlFlow := by
  unfold Obligations.RelayControlFlow
  refine ⟨?branch, ?jal, ?jalr, ?jalrFault, ?branchState, ?jalState, ?jalrState, ?jalrException⟩
  case branch =>
    intro s a ra rb off i p hrun hmay hload hfetch h
    have hexec : exec i s = .next (setPc (countIssue s a) a
        (if p = true then agentPc s a + wrapInt 64 (signed 16 off) * 4 else agentPc s a + 4)) := by
      rw [exec_branchRows hrun hmay hload hfetch h, apply_ite (setPc _ a), advance, agentPc_countIssue]
    obtain ⟨hpc, hframe⟩ := setPc_countIssue s a
      (if p = true then agentPc s a + wrapInt 64 (signed 16 off) * 4 else agentPc s a + 4)
    exact ⟨_, hexec, hpc.trans (branch_pc _ _ _), hframe⟩
  case jal =>
    intro s a rd off hrun hmay hload hfetch
    obtain ⟨hrd, hpc, hframe⟩ := setPc_setGreg_countIssue s a rd (agentPc s a + 4)
      (agentPc s a + wrapInt 64 (signed 21 off) * 4)
    exact ⟨_, exec_jal_issued hrun hmay hload hfetch, hrd, hpc.trans (add_wrapInt_mul_mod (by decide) _ 4 _), hframe⟩
  case jalr =>
    intro s a rd ra imm hrun hmay hload hfetch halign
    obtain ⟨hrd, hpc, hframe⟩ := setPc_setGreg_countIssue s a rd (agentPc s a + 4)
      ((greg s a ra + wrapInt 64 (signed 16 imm)) % 2 ^ 64)
    exact ⟨_, exec_jalr_aligned hrun hmay hload hfetch (by omega), hrd, hpc.trans (by omega), hframe⟩
  case jalrFault =>
    intro s a rd ra imm hrun hmay hload hfetch ha halign
    obtain ⟨⟨hstate, hcause, hpc, -⟩, hframe⟩ := exception_countIssue_thread s exMisaligned 0 ha
    exact ⟨_, exec_jalr_misaligned hrun hmay hload hfetch (by omega), hstate, hcause, hpc, hframe⟩
  case branchState => exact fun s a ra rb off i p hrun hmay hload hfetch h => exec_branchRows hrun hmay hload hfetch h
  case jalState => exact fun s a rd off hrun hmay hload hfetch => exec_jal_issued hrun hmay hload hfetch
  case jalrState =>
    exact fun s a rd ra imm hrun hmay hload hfetch halign => exec_jalr_aligned hrun hmay hload hfetch halign
  case jalrException =>
    exact fun s a rd ra imm hrun hmay hload hfetch halign => exec_jalr_misaligned hrun hmay hload hfetch halign

end Sys2Proof.Machine
end

section
/-! SUPPORT. Supervisor entry and return of stewards, halts of threads, and the claim stack (R736 to R745, R761 to R765),
and the obligation O40 that they settle. -/
namespace Sys2Proof.Machine

/-! ### Stewards as a map -/

@[simp] theorem stewardInt_updSteward_same (s : State) (k : Nat) (f : StewardInt → StewardInt) :
    stewardInt (updSteward s k f) k = f (stewardInt s k) := Map.get_upd_same s.rly.stewards k f

@[simp] theorem stewardInt_setPc (s : State) (a pc k : Nat) : stewardInt (setPc s a pc) k = stewardInt s k := rfl

@[simp] theorem agentInt_updSteward (s : State) (k : Nat) (f : StewardInt → StewardInt) (a : Nat) :
    agentInt (updSteward s k f) a = agentInt s a := rfl

/-- What leaves the registers, both memories, the links and the registers of an agent as they are. -/
def keepsRegisters (a : Nat) (s t : State) : Prop :=
  t.regs = s.regs ∧ t.mem = s.mem ∧ t.hostMem = s.hostMem ∧ t.links = s.links ∧ ∀ r, greg t a r = greg s a r

/-- The issue of a steward's instruction is not counted. -/
theorem countIssue_steward (s : State) {a : Nat} (ha : 512 ≤ a) : countIssue s a = s := by
  simp [countIssue, isThread, Nat.not_lt.2 ha]

/-! ### Supervisor entry (R738, R742) -/

/-- A steward after its entry into supervisor mode. -/
def entered (x : StewardInt) (sepc scause saddr : Nat) : StewardInt :=
  { x with sepc := sepc % 2 ^ 48, pmode := x.user, pie := x.ie, ie := false, user := false, scause := scause,
           saddr := saddr, sleeping := false }

/-- An address in a steward's own memory resolves. -/
theorem resolve_steward_local {s : State} {k addr : Nat} (h : addr + 4 ≤ 0x40000) :
    (resolve s (512 + k) addr 4).isNone = false := by
  simp [resolve, h]

/-- With SVEC in the steward's own memory the entry changes the steward and its pc alone. -/
theorem enterSupervisor_local {s : State} {k : Nat} (sepc scause saddr : Nat) (h : (stewardInt s k).svec + 4 ≤ 0x40000) :
    enterSupervisor s k sepc scause saddr =
      setPc (updSteward s k fun x => entered x sepc scause saddr) (512 + k) (stewardInt s k).svec := by
  unfold enterSupervisor
  dsimp only
  rw [if_neg]
  · rw [stewardInt_updSteward_same]
    rfl
  · rw [vectorFails, stewardInt_setPc, stewardInt_updSteward_same, resolve_steward_local h]
    exact Bool.false_ne_true

/-- What an entry through SVEC in the steward's own memory leaves. -/
theorem enterSupervisor_view {s : State} {k : Nat} (sepc scause saddr : Nat) (h : (stewardInt s k).svec + 4 ≤ 0x40000) :
    let t := enterSupervisor s k sepc scause saddr
    stewardInt t k = entered (stewardInt s k) sepc scause saddr ∧ agentPc t (512 + k) = (stewardInt s k).svec % 2 ^ 48 ∧
      keepsRegisters (512 + k) s t := by
  rw [enterSupervisor_local sepc scause saddr h]
  refine ⟨?_, agentPc_setPc _ _ _, rfl, rfl, rfl, rfl, fun r => ?_⟩
  · rw [stewardInt_setPc, stewardInt_updSteward_same]
  · rw [greg_setPc, greg, agentInt_updSteward, greg]

/-- An exception of a steward enters supervisor mode with its cause. -/
theorem exception_steward {s : State} {a : Nat} (cause addr : Nat) (ha : 512 ≤ a) :
    exception s a cause addr = enterSupervisor s (a - 512) (agentPc s a) cause addr := by
  simp [exception, exceptionAt, isThread, Nat.not_lt.2 ha]

/-! ### The instructions -/

section Issued

variable {s : State} {a imm word : Nat}

theorem exec_illegalInstruction_issued (hrun : stopped s = false) (hmay : mayIssue s a = true)
    (hload : waitsForLoad s a [] = false) (hfetch : fetchFault s a = none) (hword : decodeRelay word = none) :
    exec (.illegalInstruction a word) s = .next (exception (countIssue s a) a exIllegal 0) := by
  change execIllegalInstruction a word s = _
  rw [execIllegalInstruction, run_running s _ hrun, hword, Option.isNone_none, if_pos rfl,
    issue_runs a _ _ s hmay hload hfetch]

theorem exec_calls_steward (hrun : stopped s = false) (hmay : mayIssue s a = true)
    (hload : waitsForLoad s a [] = false) (hfetch : fetchFault s a = none) (ha : 512 ≤ a) : exec (.calls a imm) s =
      .next (enterSupervisor (countIssue s a) (a - 512) (agentPc s a + 4) (2 ^ 8 + (imm % 65536) * 2 ^ 16) 0) := by
  refine (run_issue _ hrun hmay hload hfetch).trans ?_
  simp only [isThread, Nat.not_lt.2 ha, decide_false, Bool.false_eq_true, if_false, agentPc_countIssue, Nat.shiftLeft_eq,
    Nat.one_mul]

theorem exec_calls_thread (hrun : stopped s = false) (hmay : mayIssue s a = true)
    (hload : waitsForLoad s a [] = false) (hfetch : fetchFault s a = none) (ha : a < 512) :
    exec (.calls a imm) s = .next (exception (countIssue s a) a exIllegal 0) := by
  refine (run_issue _ hrun hmay hload hfetch).trans ?_
  simp only [isThread, ha, decide_true, if_true]

theorem exec_brk_steward (hrun : stopped s = false) (hmay : mayIssue s a = true)
    (hload : waitsForLoad s a [] = false) (hfetch : fetchFault s a = none) (ha : 512 ≤ a) : exec (.brk a imm) s =
      .next (enterSupervisor (countIssue s a) (a - 512) (agentPc s a + 4) (3 * 2 ^ 8 + (imm % 65536) * 2 ^ 16) 0) := by
  refine (run_issue _ hrun hmay hload hfetch).trans ?_
  simp only [isThread, Nat.not_lt.2 ha, decide_false, Bool.false_eq_true, if_false, agentPc_countIssue, Nat.shiftLeft_eq]

theorem exec_brk_thread (hrun : stopped s = false) (hmay : mayIssue s a = true)
    (hload : waitsForLoad s a [] = false) (hfetch : fetchFault s a = none) (ha : a < 512) :
    exec (.brk a imm) s = .next (haltThread (advance (countIssue s a) a) a) := by
  refine (run_issue _ hrun hmay hload hfetch).trans ?_
  simp only [isThread, ha, decide_true, if_true]

/-- The issue of an instruction leaves the mode of the stewards. -/
theorem supervisor_countIssue (s : State) (a b : Nat) : supervisor (countIssue s a) b = supervisor s b := by
  obtain ⟨-, hstewards, -⟩ := sameBesideAgents_countIssue s a
  rw [supervisor, supervisor, stewardInt, stewardInt, hstewards]

/-- A steward that is not in user mode is in supervisor mode. -/
theorem supervisor_of_mode (ha : 512 ≤ a) (hmode : (stewardInt s (a - 512)).user = false) : supervisor s a = true := by
  simp [supervisor, isThread, Nat.not_lt.2 ha, hmode]

theorem not_supervisor_of_user (hmode : (stewardInt s (a - 512)).user = true) : supervisor s a = false := by
  simp [supervisor, hmode]

/-- Whoever is in supervisor mode is a steward. -/
theorem steward_of_supervisor (h : supervisor s a = true) : 512 ≤ a := by
  rcases Nat.lt_or_ge a 512 with hlt | hge
  · simp [supervisor, isThread, hlt] at h
  · exact hge

theorem exec_sret_supervisor (hrun : stopped s = false) (hmay : mayIssue s a = true)
    (hload : waitsForLoad s a [] = false) (hfetch : fetchFault s a = none) (hsup : supervisor s a = true) :
    exec (.sret a) s = .next (setPc (updSteward (countIssue s a) (a - 512) fun x => { x with user := x.pmode, ie := x.pie })
      a (stewardInt s (a - 512)).sepc) := by
  refine (run_issue _ hrun hmay hload hfetch).trans ?_
  rw [countIssue_steward s (steward_of_supervisor hsup), hsup, if_pos rfl]

theorem exec_sret_user (hrun : stopped s = false) (hmay : mayIssue s a = true)
    (hload : waitsForLoad s a [] = false) (hfetch : fetchFault s a = none) (hsup : supervisor s a = false) :
    exec (.sret a) s = .next (exception (countIssue s a) a exPrivileged 0) := by
  refine (run_issue _ hrun hmay hload hfetch).trans ?_
  rw [supervisor_countIssue, hsup, if_neg Bool.false_ne_true]

theorem exec_sleep_supervisor (hrun : stopped s = false) (hmay : mayIssue s a = true)
    (hload : waitsForLoad s a [] = false) (hfetch : fetchFault s a = none) (hsup : supervisor s a = true) :
    exec (.sleep a) s = .next (updSteward (advance (countIssue s a) a) (a - 512)
      fun x => { x with sleeping := !(presented s (a - 512)).isSome || x.ie }) := by
  refine (run_issue _ hrun hmay hload hfetch).trans ?_
  rw [countIssue_steward s (steward_of_supervisor hsup), hsup, if_pos rfl]

theorem exec_sleep_user (hrun : stopped s = false) (hmay : mayIssue s a = true)
    (hload : waitsForLoad s a [] = false) (hfetch : fetchFault s a = none) (hsup : supervisor s a = false) :
    exec (.sleep a) s = .next (exception (countIssue s a) a exPrivileged 0) := by
  refine (run_issue _ hrun hmay hload hfetch).trans ?_
  rw [supervisor_countIssue, hsup, if_neg Bool.false_ne_true]

/-- A misaligned pc is MISALIGNED at the fetch, whatever the word (R709). -/
theorem exec_thexit_misaligned (hrun : stopped s = false) (hmay : mayIssue s a = true)
    (hload : waitsForLoad s a [] = false) (halign : agentPc s a % 4 ≠ 0) :
    exec (.thexit a) s = .next (exception s a exMisaligned (agentPc s a)) := by
  have hfetch : fetchFault s a = some exMisaligned := if_pos halign
  exact (run_running s _ hrun).trans (by rw [issue_faults a _ _ _ s hmay hload hfetch])

/-- What an issued instruction of a steward that enters supervisor mode leaves. -/
theorem enterSupervisor_countIssue (sepc scause saddr : Nat) (ha : 512 ≤ a)
    (hvec : (stewardInt s (a - 512)).svec + 4 ≤ 0x40000) :
    let t := enterSupervisor (countIssue s a) (a - 512) sepc scause saddr
    stewardInt t (a - 512) = entered (stewardInt s (a - 512)) sepc scause saddr ∧
      agentPc t a = (stewardInt s (a - 512)).svec % 2 ^ 48 ∧ keepsRegisters a s t := by
  have hview := enterSupervisor_view sepc scause saddr hvec
  rw [Nat.add_sub_cancel' ha] at hview
  rwa [countIssue_steward s ha]

end Issued

/-! ### A thread that halts (R696, R745) -/

theorem keepsAgents_haltThread (s : State) (t : Nat) : keepsAgents s (haltThread s t) := by
  refine (keepsAgents_leaveWait s t).trans ?_
  simp [keepsAgents, haltThread, setThreadState, unstall]

/-- A halting thread is HALTED, shows its pc, and raises its source (R696). -/
theorem rd_haltThread (s : State) {t : Nat} (ht : t < 512) :
    threadState (haltThread s t) t = thHalted ∧ (haltThread s t).rd RLY_THCTX.pc t = agentPc s t % 2 ^ 48 ∧
      (haltThread s t).rd IRQ_SRC.asserted 0x182 = 1 := by
  have hpc : agentPc (unstall (setThreadState (leaveWait s t) t thHalted) t) t = agentPc s t :=
    agentPc_congr (agentInt_congr ((State.wr_rly _ _ _ _ _ ▸ (keepsAgents_leaveWait s t).1 :)) t)
  refine ⟨?_, ?_, rd_raise_asserted _ (by decide)⟩
  · simp (disch := simp only [Desc.key, RLY_THCTX.state, RLY_THCTX.budget_held, RLY_THCTX.pc, IRQ_SRC.asserted,
      IRQ_MSIX_BAD.count]; omega) only [threadState, haltThread, rd_raise_other, State.rd_wr_other]
    exact State.rd_wr_same _ RLY_THCTX.state thHalted t 0 (by simp [Desc.has, RLY_THCTX.state, ht])
  · simp (disch := simp only [Desc.key, RLY_THCTX.state, RLY_THCTX.budget_held, RLY_THCTX.pc, IRQ_SRC.asserted,
      IRQ_MSIX_BAD.count]; omega) only [haltThread, rd_raise_other, State.rd_wr_other]
    rw [State.rd_wr_same _ RLY_THCTX.pc _ t 0 (by simp [Desc.has, RLY_THCTX.pc, ht]), hpc]
    rfl

/-! ### Interrupts (R761 to R765) -/

/-- A fold that keeps its choice or takes the element at hand ends with its first choice or an element. -/
theorem foldl_choice_mem {f : Option Nat → Nat → Option Nat} (hf : ∀ o m, f o m = o ∨ f o m = some m) (l : List Nat)
    {o : Option Nat} {b : Nat} (h : l.foldl f o = some b) : o = some b ∨ b ∈ l := by
  induction l generalizing o with
  | nil => exact .inl h
  | cons m l ih =>
    rcases ih h with hchoice | hmem
    · rcases hf o m with hkeep | htake
      · exact .inl (hkeep ▸ hchoice)
      · exact .inr (List.mem_cons.2 (.inl (Option.some.inj (htake.symm.trans hchoice)).symm))
    · exact .inr (List.mem_cons_of_mem m hmem)

/-- A source presented to a steward is one of the sources asserted. -/
theorem presented_mem {s : State} {k n : Nat} (h : presented s k = some n) : n ∈ listedMembers s IRQ_SRC.asserted := by
  refine (List.mem_filter.1 ((foldl_choice_mem (fun o m => ?_) _ h).resolve_left nofun)).1
  cases o with
  | none => exact .inr rfl
  | some b =>
    dsimp only
    split
    · exact .inr rfl
    · exact .inl rfl

/-- The members that the register store lists of an array exist in it. -/
theorem lt_of_mem_listedMembers {s : State} {d : Desc} {n : Nat} (h : n ∈ listedMembers s d) : n < d.n1 := by
  obtain ⟨p, -, hp⟩ := List.mem_filterMap.1 h
  split at hp
  case isTrue hbounds =>
    cases hp
    exact hbounds.2.2
  case isFalse => exact nomatch hp

/-- A steward with interrupts enabled takes the source presented to it (R762). -/
theorem exec_interruptDelivery_enabled {s : State} {k n : Nat} (hrun : stopped s = false) (hk : k < 4)
    (hon : (stewardInt s k).running = true) (hlocked : (stewardInt s k).locked = false)
    (hie : (stewardInt s k).ie = true) (hn : presented s k = some n) :
    exec (.interruptDelivery k) s = .next (deliverInterrupt s k n) := by
  change execInterruptDelivery k s = _
  rw [execInterruptDelivery, run_running s _ hrun]
  simp [hk, hon, hlocked, hie, hn]

/-- A steward with interrupts off only ends its SLEEP (R744). -/
theorem exec_interruptDelivery_disabled {s : State} {k n : Nat} (hrun : stopped s = false) (hk : k < 4)
    (hon : (stewardInt s k).running = true) (hlocked : (stewardInt s k).locked = false)
    (hie : (stewardInt s k).ie = false) (hn : presented s k = some n) :
    exec (.interruptDelivery k) s = .next (updSteward s k fun x => { x with sleeping := false }) := by
  change execInterruptDelivery k s = _
  rw [execInterruptDelivery, run_running s _ hrun]
  simp [hk, hon, hlocked, hie, hn]

/-- The claim of a source, pushed on what the steward had claimed before (R762). -/
def pushClaim (s : State) (k n : Nat) : State :=
  ({ s with claims := Map.set s.claims k { Map.get s.claims k with
    pri := s.rd IRQ_SRC.priority n, claim := some n,
    stack := ((Map.get s.claims k).pri, (Map.get s.claims k).claim) :: (Map.get s.claims k).stack } } : State).wr
    IRQ_SRC.claimed 1 n

/-- A delivered interrupt pushes its claim and enters supervisor mode at the steward's pc. -/
theorem deliverInterrupt_eq (s : State) (k n : Nat) :
    deliverInterrupt s k n = enterSupervisor (pushClaim s k n) k (agentPc s (512 + k)) (2 <<< 8) 0 := rfl

theorem stewardInt_pushClaim (s : State) (k n j : Nat) : stewardInt (pushClaim s k n) j = stewardInt s j := by
  simp [stewardInt, pushClaim]

theorem get_claims_pushClaim (s : State) (k n : Nat) : Map.get (pushClaim s k n).claims k = { Map.get s.claims k with
    pri := s.rd IRQ_SRC.priority n, claim := some n,
    stack := ((Map.get s.claims k).pri, (Map.get s.claims k).claim) :: (Map.get s.claims k).stack } := by
  rw [pushClaim, State.wr_claims]
  exact Map.get_set_same _ _ _

/-- IEOI of the claimed source pops the claim stack (R764). -/
theorem exec_ieoi_claimed {s : State} {k n p : Nat} {q : Option Nat} {rest : List (Nat × Option Nat)}
    (hrun : stopped s = false) (hk : k < 4) (hn : n < 1024) (hclaim : (Map.get s.claims k).claim = some n)
    (hstack : (Map.get s.claims k).stack = (p, q) :: rest) : exec (.ieoi k n) s = .next (({ s with
      claims := Map.set s.claims k { Map.get s.claims k with pri := p, claim := q, stack := rest } } : State).wr
      IRQ_SRC.claimed 0 n) := by
  change execIeoi k n s = _
  rw [execIeoi, run_running s _ hrun, if_pos hk, Nat.mod_eq_of_lt hn, endInterrupt]
  simp only [hclaim, hstack, if_true]

/-- IEOI of another source only sets the steward's bit of eoi_bad (R765). -/
theorem exec_ieoi_unclaimed {s : State} {k n : Nat} (hrun : stopped s = false) (hk : k < 4) (hn : n < 1024)
    (hclaim : (Map.get s.claims k).claim ≠ some n) :
    exec (.ieoi k n) s = .next (s.wr IRQ_STAT.eoi_bad (s.rd IRQ_STAT.eoi_bad ||| 2 ^ k)) := by
  change execIeoi k n s = _
  rw [execIeoi, run_running s _ hrun, if_pos hk, Nat.mod_eq_of_lt hn, endInterrupt]
  exact congrArg _ (if_neg hclaim)

/-- Settles O40: exceptions fault a thread and enter supervisor mode of a steward; the instructions of a steward are
equations of its own part, and an interrupt pushes and pops the claim stack. -/
theorem relayExceptionsAndSupervisorEntry : Obligations.RelayExceptionsAndSupervisorEntry := by
  unfold Obligations.RelayExceptionsAndSupervisorEntry
  refine ⟨?illegalThread, ?bitsThread, ?misaligned, ?illegalSteward, ?calls, ?brkSteward, ?brkThread, ?sret, ?sleep,
    ?sretUser, ?delivery, ?ieoi, ?ieoiBad, ?illegalState, ?callsState, ?callsThread, ?brkState, ?brkThreadState, ?sretState,
    ?sleepState, ?sretPrivileged, ?sleepPrivileged, ?deliveryState, ?deliveryOff⟩
  case illegalThread =>
    intro s a word hrun hmay hload hfetch ha hword
    obtain ⟨⟨hstate, hcause, hpc, hthread, hqcause, hraised⟩, hframe⟩ := exception_countIssue_thread s exIllegal 0 ha
    exact ⟨_, exec_illegalInstruction_issued hrun hmay hload hfetch hword, hstate, hcause, hpc, hthread, hqcause, hraised,
      hframe⟩
  case bitsThread =>
    intro s a rd ra hrun hmay hload hfetch ha
    obtain ⟨⟨hstate, hcause, hpc, hthread, hqcause, hraised⟩, hframe⟩ := exception_countIssue_thread s exIllegal 0 ha
    exact ⟨_, exec_bits_none hrun hmay hload hfetch rfl, hstate, hcause, hpc, hthread, hqcause, hraised, hframe⟩
  case misaligned =>
    intro s a hrun hmay hload ha halign
    obtain ⟨hstate, hcause, hpc, hthread, hqcause, hraised⟩ := rd_faultThread s exMisaligned (agentPc s a) (agentPc s a) ha
    refine ⟨_, exec_thexit_misaligned hrun hmay hload halign, ?_⟩
    rw [exception_thread _ _ ha]
    exact ⟨hstate, hcause, hpc, hthread, hqcause, hraised, (keepsAgents_faultThread s a _ _ _).view a⟩
  case illegalSteward =>
    intro s a word hrun hmay hload hfetch ha hword hvec
    refine ⟨_, exec_illegalInstruction_issued hrun hmay hload hfetch hword, ?_⟩
    rw [exception_steward _ _ ha, agentPc_countIssue]
    exact enterSupervisor_countIssue _ _ _ ha hvec
  case calls =>
    intro s a imm hrun hmay hload hfetch ha hvec
    exact ⟨_, exec_calls_steward hrun hmay hload hfetch ha, enterSupervisor_countIssue _ _ _ ha hvec⟩
  case brkSteward =>
    intro s a imm hrun hmay hload hfetch ha hvec
    exact ⟨_, exec_brk_steward hrun hmay hload hfetch ha, enterSupervisor_countIssue _ _ _ ha hvec⟩
  case brkThread =>
    intro s a imm hrun hmay hload hfetch ha
    obtain ⟨hstate, hpc, hraised⟩ := rd_haltThread (advance (countIssue s a) a) ha
    obtain ⟨hagents, hmem, hhost⟩ := keepsAgents_haltThread (advance (countIssue s a) a) a
    obtain ⟨-, -, -, -, hmem', hhost', -, hregs, -⟩ := setPc_countIssue s a (agentPc (countIssue s a) a + 4)
    have hagent := agentInt_congr hagents a
    have hnext : agentPc (advance (countIssue s a) a) a = (agentPc s a + 4) % 2 ^ 48 := by
      rw [advance, agentPc_setPc, agentPc_countIssue]
    refine ⟨_, exec_brk_thread hrun hmay hload hfetch ha, hstate, ?_, ?_, hraised, hmem.trans hmem', hhost.trans hhost',
      fun r => (greg_congr hagent r).trans (hregs r)⟩
    · rw [agentPc_congr hagent, hnext]
    · rw [hpc, hnext, Nat.mod_mod]
  case sret =>
    intro s a hrun hmay hload hfetch ha hmode
    refine ⟨_, exec_sret_supervisor hrun hmay hload hfetch (supervisor_of_mode ha hmode), ?_⟩
    rw [countIssue_steward s ha]
    refine ⟨?_, agentPc_setPc _ _ _, rfl, rfl, rfl, rfl, fun r => ?_⟩
    · rw [stewardInt_setPc, stewardInt_updSteward_same]
    · rw [greg_setPc, greg, agentInt_updSteward, greg]
  case sleep =>
    intro s a hrun hmay hload hfetch ha hmode hnone
    refine ⟨_, exec_sleep_supervisor hrun hmay hload hfetch (supervisor_of_mode ha hmode), ?_⟩
    rw [countIssue_steward s ha, advance, hnone]
    refine ⟨?_, ?_, rfl, rfl, rfl, rfl, fun r => ?_⟩
    · rw [stewardInt_updSteward_same]
      rfl
    · rw [agentPc, agentInt_updSteward]
      exact agentPc_setPc _ _ _
    · rw [greg, agentInt_updSteward]
      exact greg_setPc _ _ _ _
  case sretUser =>
    intro s a hrun hmay hload hfetch ha hmode hvec
    refine ⟨_, exec_sret_user hrun hmay hload hfetch (not_supervisor_of_user hmode), ?_⟩
    rw [exception_steward _ _ ha, agentPc_countIssue]
    exact enterSupervisor_countIssue _ _ _ ha hvec
  case delivery =>
    intro s k n hrun hk hon hlocked hie hn hvec
    have hlt : n < 1024 := lt_of_mem_listedMembers (presented_mem hn)
    have hvec' : (stewardInt (pushClaim s k n) k).svec + 4 ≤ 0x40000 := by rwa [stewardInt_pushClaim]
    refine ⟨_, exec_interruptDelivery_enabled hrun hk hon hlocked hie hn, ?_⟩
    obtain ⟨hsteward, hpc, hregs, hmem, hhost, hlinks, -⟩ := enterSupervisor_view (agentPc s (512 + k)) (2 <<< 8) 0 hvec'
    rw [deliverInterrupt_eq]
    refine ⟨?_, ?_, ?_, ?_, ?_, ?_, ?_, ?_, ?_, ?_⟩
    · rw [← get_claims_pushClaim, enterSupervisor_local _ _ _ hvec']
      rfl
    · rw [State.rd_congr hregs, pushClaim]
      exact State.rd_wr_same _ IRQ_SRC.claimed 1 n 0 (by simp [Desc.has, IRQ_SRC.claimed, hlt])
    · rw [hsteward, entered]
    · rw [hsteward, entered]
    · rw [hsteward, entered]
    · rw [hsteward, entered]
      rfl
    · rw [hpc, stewardInt_pushClaim]
    · rw [hmem, pushClaim, State.wr_mem]
    · rw [hhost, pushClaim, State.wr_hostMem]
    · rw [hlinks, pushClaim, State.wr_links]
  case ieoi => exact fun s k n p q rest hrun hk hn hclaim hstack => exec_ieoi_claimed hrun hk hn hclaim hstack
  case ieoiBad => exact fun s k n hrun hk hn hclaim => exec_ieoi_unclaimed hrun hk hn hclaim
  case illegalState =>
    exact fun s a word hrun hmay hload hfetch hword => exec_illegalInstruction_issued hrun hmay hload hfetch hword
  case callsState => exact fun s a imm hrun hmay hload hfetch ha => exec_calls_steward hrun hmay hload hfetch ha
  case callsThread => exact fun s a imm hrun hmay hload hfetch ha => exec_calls_thread hrun hmay hload hfetch ha
  case brkState => exact fun s a imm hrun hmay hload hfetch ha => exec_brk_steward hrun hmay hload hfetch ha
  case brkThreadState => exact fun s a imm hrun hmay hload hfetch ha => exec_brk_thread hrun hmay hload hfetch ha
  case sretState => exact fun s a hrun hmay hload hfetch hsup => exec_sret_supervisor hrun hmay hload hfetch hsup
  case sleepState => exact fun s a hrun hmay hload hfetch hsup => exec_sleep_supervisor hrun hmay hload hfetch hsup
  case sretPrivileged => exact fun s a hrun hmay hload hfetch hsup => exec_sret_user hrun hmay hload hfetch hsup
  case sleepPrivileged => exact fun s a hrun hmay hload hfetch hsup => exec_sleep_user hrun hmay hload hfetch hsup
  case deliveryState =>
    exact fun s k n hrun hk hon hlocked hie hn => exec_interruptDelivery_enabled hrun hk hon hlocked hie hn
  case deliveryOff =>
    exact fun s k n hrun hk hon hlocked hie hn => exec_interruptDelivery_disabled hrun hk hon hlocked hie hn

end Sys2Proof.Machine
end

section
/-! SUPPORT. The accesses of a relay agent to memory (R674 to R676, R714, R721 to R724): what is charged for one, how one is
issued, and what a load, a store and an atomic access do at a place in internal memory; and the obligation O41 that they
settle. -/
namespace Sys2Proof.Machine

/-! ### What the charge of an access leaves -/

/-- The parts of a state that the charge of an access, and the count of an instruction, leave: the agents, memory with its bad
lines and its areas, host memory and the links. -/
def accessView (s : State) : Map AgentInt × Map Byte × Map Byte × List Nat × Areas × List LinkItem :=
  (s.rly.agents, s.mem, s.hostMem, s.poison, s.areas, s.links)

@[simp] theorem accessView_wr (s : State) (d : Desc) (v i j : Nat) : accessView (s.wr d v i j) = accessView s := by
  simp [accessView]

@[simp] theorem accessView_count (s : State) (d : Desc) (n i j : Nat) : accessView (s.count d n i j) = accessView s := by
  simp [accessView]

@[simp] theorem accessView_addAct (s : State) (d a w : Nat) : accessView (addAct s d a w) = accessView s := rfl

@[simp] theorem accessView_addEst (s : State) (d w : Nat) : accessView (addEst s d w) = accessView s := rfl

@[simp] theorem accessView_activity (s : State) (d k e n acct : Nat) : accessView (activity s d k e n acct) = accessView s := by
  unfold activity
  split <;> rfl

@[simp] theorem accessView_pmc (s : State) (event inst amount : Nat) (acct : Option Nat) :
    accessView (pmc s event inst amount acct) = accessView s := by
  unfold pmc
  split
  · rfl
  · refine foldl_frame accessView _ (fun t n => ?_) _ _
    split
    · unfold pmcAdd
      dsimp only
      split <;> simp [accessView]
    · rfl

@[simp] theorem accessView_fabricFlits (s : State) (bytes acct : Nat) : accessView (fabricFlits s bytes acct) = accessView s := by
  rw [fabricFlits, accessView_pmc, accessView_activity]

@[simp] theorem accessView_setDomain (s : State) (d : Nat) (x : DomainState) : accessView (setDomain s d x) = accessView s := by
  unfold setDomain
  dsimp only
  split
  · split
    · exact (accessView_wr _ _ _ _ _).trans (accessView_wr _ _ _ _ _)
    · exact accessView_wr _ _ _ _ _
  · split
    · exact accessView_wr _ _ _ _ _
    · rfl

@[simp] theorem accessView_wakeDomain (s : State) (d : Nat) : accessView (wakeDomain s d) = accessView s := by
  unfold wakeDomain
  dsimp only
  split
  · split <;> simp
  · rfl

@[simp] theorem accessView_needDomain (s : State) (d : Nat) : accessView (needDomain s d) = accessView s := by
  unfold needDomain
  split <;> simp

@[simp] theorem accessView_laneSlot (s : State) (a : Nat) : accessView (laneSlot s a) = accessView s := by
  unfold laneSlot
  split
  · dsimp only
    rw [accessView_pmc, accessView_activity]
    rfl
  · rfl

/-- An access of internal memory is charged beside the agents, memory and the links. -/
@[simp] theorem accessView_chargeAccess_ram (s : State) (a addr g : Nat) (write : Bool) :
    accessView (chargeAccess s a addr write (.ram g)) = accessView s := by
  unfold chargeAccess
  dsimp only
  split
  · rfl
  · split
    · simp
    · split <;> simp [g6Access, sramAccess]

@[simp] theorem accessView_countIssue (s : State) (a : Nat) : accessView (countIssue s a) = accessView s := by
  unfold countIssue
  split
  · simp only [accessView_pmc, accessView_activity, accessView_count, accessView_wr]
    rfl
  · rfl

/-! ### What looks at those parts alone -/

section View

variable {s t : State}

theorem agentInt_of_accessView (h : accessView t = accessView s) (a : Nat) : agentInt t a = agentInt s a :=
  agentInt_congr (congrArg (fun v => v.1) h) a

theorem mem_of_accessView (h : accessView t = accessView s) : t.mem = s.mem := congrArg (fun v => v.2.1) h

theorem hostMem_of_accessView (h : accessView t = accessView s) : t.hostMem = s.hostMem := congrArg (fun v => v.2.2.1) h

theorem links_of_accessView (h : accessView t = accessView s) : t.links = s.links := congrArg (fun v => v.2.2.2.2.2) h

theorem memLoad_of_accessView (h : accessView t = accessView s) (g n : Nat) : memLoad t g n = memLoad s g n := by
  rw [memLoad, memLoad, mem_of_accessView h]

theorem memBad_of_accessView (h : accessView t = accessView s) (g n : Nat) : memBad t g n = memBad s g n := by
  rw [memBad, memBad, show t.poison = s.poison from congrArg (fun v => v.2.2.2.1) h]

/-- Where a structure stands depends on the sizes of the areas alone (R30, R31). -/
theorem placed_of_areas (h : t.areas = s.areas) (g n : Nat) : placed t g n = placed s g n := by
  have hbase (i : Nat) : areaBase t i = areaBase s i := by simp only [areaBase, areaSizes, h]
  have hg6 (x : Nat) : placeInG6 t x = placeInG6 s x := by simp only [placeInG6, hbase, h]
  have hplace (x : Nat) : placeAt t x = placeAt s x := by rw [placeAt, placeAt, hg6]
  rw [placed, placed, hplace, hplace]

theorem placed_of_accessView (h : accessView t = accessView s) (g n : Nat) : placed t g n = placed s g n :=
  placed_of_areas (congrArg (fun v => v.2.2.2.2.1) h) g n

end View

/-! ### The issue of an access -/

section Issued

variable {s : State} {a addr : Nat} {regs : List Nat} {k : AccessKind} {p : AddrAt} {f : AddrAt → State → State}

/-- The state on which an issued access has its effect: the instruction is counted, and the fence that held it is over. -/
def accessed (s : State) (a : Nat) : State := updAgent (countIssue s a) a fun y => { y with fence := false }

theorem issueAccess_runs (hmay : mayIssue s a = true) (hload : waitsForLoad s a regs = false)
    (hfetch : fetchFault s a = none) (hfault : accessFault s a addr k = none) (hwait : accessWaits s a addr k = false)
    (hplace : resolve s a addr k.size = some p) : issueAccess a regs addr k f s = f p (accessed s a) := by
  unfold issueAccess
  simp only [hfetch, hfault, hwait, hplace, Option.isNone_none, Bool.and_false, Bool.false_eq_true, if_false]
  exact issue_runs a regs _ s hmay hload hfetch

theorem issueAccess_faults {c : Nat} (hmay : mayIssue s a = true) (hload : waitsForLoad s a regs = false)
    (hfetch : fetchFault s a = none) (hfault : accessFault s a addr k = some c) :
    issueAccess a regs addr k f s = exception (countIssue s a) a c addr := by
  unfold issueAccess
  simp only [hfault, Option.isNone_some, Bool.and_false, Bool.false_and, Bool.false_eq_true, if_false]
  exact issue_runs a regs _ s hmay hload hfetch

end Issued

/-! ### The effects of the charge on an issued access -/

section Charged

variable (s : State) (a addr g : Nat) (write : Bool)

/-- The state of an access of internal memory once it is charged. -/
def charged : State := chargeAccess (accessed s a) a addr write (.ram g)

theorem accessView_charged : accessView (charged s a addr g write) =
    accessView (updAgent s a fun y => { y with fence := false }) := by
  have hagents := congrArg (fun v => Map.upd v.1 a fun y => { y with fence := false }) (accessView_countIssue s a)
  have hrest := congrArg Prod.snd (accessView_countIssue s a)
  exact (accessView_chargeAccess_ram _ a addr g write).trans (Prod.ext hagents hrest)

theorem agentInt_charged : agentInt (charged s a addr g write) a = { agentInt s a with fence := false } :=
  (agentInt_of_accessView (accessView_charged s a addr g write) a).trans (agentInt_updAgent_same s a _)

theorem greg_charged (r : Nat) : greg (charged s a addr g write) a r = greg s a r := by
  rw [greg, greg, agentInt_charged]

theorem agentPc_charged : agentPc (charged s a addr g write) a = agentPc s a := by
  rw [agentPc, agentPc, agentInt_charged]

theorem memLoad_charged (x n : Nat) : memLoad (charged s a addr g write) x n = memLoad s x n :=
  memLoad_of_accessView (accessView_charged s a addr g write) x n

theorem memBad_charged (x n : Nat) : memBad (charged s a addr g write) x n = memBad s x n :=
  memBad_of_accessView (accessView_charged s a addr g write) x n

theorem placed_charged (x n : Nat) : placed (charged s a addr g write) x n = placed s x n :=
  placed_of_accessView (accessView_charged s a addr g write) x n

theorem mem_charged : (charged s a addr g write).mem = s.mem :=
  (mem_of_accessView (accessView_charged s a addr g write)).trans rfl

theorem hostMem_charged : (charged s a addr g write).hostMem = s.hostMem :=
  (hostMem_of_accessView (accessView_charged s a addr g write)).trans rfl

theorem links_charged : (charged s a addr g write).links = s.links :=
  (links_of_accessView (accessView_charged s a addr g write)).trans rfl

end Charged

/-! ### Loads, stores and atomic accesses of plain internal memory -/

/-! ### Bytes and their numbers -/

theorem leBytes_length (n v : Nat) : (leBytes n v).length = n := by
  induction n generalizing v with
  | zero => rfl
  | succ n ih => rw [leBytes, List.length_cons, ih]

/-- The bytes of a number are those of its low bits. -/
theorem leBytes_mod (n v : Nat) : leBytes n (v % 2 ^ (8 * n)) = leBytes n v := by
  induction n generalizing v with
  | zero => rfl
  | succ n ih =>
    have hlow : BitVec.ofNat 8 (v % 2 ^ (8 * (n + 1))) = BitVec.ofNat 8 v := by
      apply BitVec.eq_of_toNat_eq
      rw [BitVec.toNat_ofNat, BitVec.toNat_ofNat, Nat.mod_mod_of_dvd _ (Nat.pow_dvd_pow 2 (by omega))]
    have hhigh : v % 2 ^ (8 * (n + 1)) / 256 = v / 256 % 2 ^ (8 * n) := by
      rw [Nat.mul_succ, Nat.pow_add, Nat.mul_comm, Nat.mod_mul_right_div_self]
    rw [leBytes, leBytes, hlow, hhigh, ih]

theorem loadBytes_length (m : Map Byte) (a n : Nat) : (loadBytes m a n).length = n := by
  induction n generalizing a with
  | zero => rfl
  | succ n ih => rw [loadBytes, List.length_cons, ih]

theorem ofLe_lt (bs : Bytes) : ofLe bs < 2 ^ (8 * bs.length) := by
  induction bs with
  | nil => decide
  | cons b bs ih =>
    have hb := b.isLt
    rw [ofLe, List.length_cons, Nat.mul_succ, Nat.pow_add]
    omega

section Ram

variable {s : State} {a addr g n : Nat} {k : AccessKind}

theorem areaLoad_plain (h : placed s g n = false) : areaLoad s g n = (memLoad s g n, s) := by
  simp [areaLoad, h]

/-- A load of plain internal memory joins the outstanding loads with its bytes. -/
theorem loadAt_ram (rd regs : Nat) (h : placed s g k.size = false) :
    let t := loadAt a rd regs addr k (.ram g) (accessed s a)
    (agentInt t a).loads = (agentInt s a).loads ++ [⟨rd, regs, k.size, addr, agentPc s a, ofLe (memLoad s g k.size), none,
      memBad s g k.size, 0⟩] ∧ agentPc t a = (agentPc s a + 4) % 2 ^ 48 ∧ t.mem = s.mem ∧ t.hostMem = s.hostMem ∧
      t.links = s.links ∧ ∀ r, greg t a r = greg s a r := by
  have hplaced : areaLoad (charged s a addr g false) g k.size = (memLoad s g k.size, charged s a addr g false) := by
    rw [areaLoad_plain ((placed_charged s a addr g false g k.size).trans h), memLoad_charged]
  have heq : loadAt a rd regs addr k (.ram g) (accessed s a) = pushLoad (charged s a addr g false) a ⟨rd, regs, k.size, addr,
      agentPc s a, ofLe (memLoad s g k.size), none, memBad s g k.size, 0⟩ := by
    have hpc := agentPc_charged s a addr g false
    have hbad := memBad_charged s a addr g false g k.size
    unfold charged at hplaced hpc hbad ⊢
    simp only [loadAt, hplaced, hpc, hbad]
  dsimp only
  rw [heq]
  refine ⟨?_, ?_, mem_charged s a addr g false, hostMem_charged s a addr g false, links_charged s a addr g false,
    fun r => ?_⟩
  · simp [pushLoad, advance, setPc, agentInt_charged]
  · simp [pushLoad, advance, setPc, agentPc, agentInt_charged]
  · rw [pushLoad, advance, greg_setPc, greg, agentInt_updAgent_same, agentInt_charged, greg]

/-- The bytes stored in plain internal memory, and all that the store leaves. -/
theorem areaStore_ram {bs : Bytes} (h : placed s g bs.length = false) :
    let t := areaStore s g bs
    memLoad t g bs.length = bs ∧ (∀ b, agentInt t b = agentInt s b) ∧ t.hostMem = s.hostMem ∧
      ∀ x, (x < g ∨ g + bs.length ≤ x) → memLoad t x 1 = memLoad s x 1 := by
  dsimp only
  rw [areaStore_plain s g bs h]
  refine ⟨?_, agentInt_congr (by rw [memStore_rly]), by simp, fun x hx => ?_⟩
  · rw [memLoad, memStore_mem, loadBytes_storeBytes_same]
  · rw [memLoad, memLoad, memStore_mem, loadBytes_one_storeBytes_outside _ _ _ _ hx]

/-- A store in plain internal memory writes the low bytes of its value, and the agent goes on. -/
theorem storeAt_ram (hook : StoreHook) (v : Nat) (h : placed s g k.size = false) :
    let t := storeAt hook a addr k v (.ram g) (accessed s a)
    memLoad t g k.size = leBytes k.size v ∧ agentPc t a = (agentPc s a + 4) % 2 ^ 48 ∧ t.hostMem = s.hostMem ∧
      (∀ r, greg t a r = greg s a r) ∧ ∀ x, (x < g ∨ g + k.size ≤ x) → memLoad t x 1 = memLoad s x 1 := by
  have hlen : (leBytes k.size v).length = k.size := leBytes_length k.size v
  obtain ⟨hbytes, hagent, hhost, hother⟩ := areaStore_ram (s := charged s a addr g true) (g := g) (bs := leBytes k.size v)
    (by rw [hlen, placed_charged, h])
  rw [hlen] at hbytes hother
  have hagent := hagent a
  rw [agentInt_charged] at hagent
  refine ⟨hbytes, ?_, hhost.trans (hostMem_charged s a addr g true), fun r => ?_,
    fun x hx => (hother x hx).trans (memLoad_charged s a addr g true x 1)⟩
  · change agentPc (advance (areaStore (charged s a addr g true) g (leBytes k.size v)) a) a = _
    rw [advance, agentPc_setPc, agentPc, hagent, agentPc]
  · change greg (advance (areaStore (charged s a addr g true) g (leBytes k.size v)) a) a r = _
    rw [advance, greg_setPc, greg, hagent, greg]

/-- An atomic access of plain internal memory with a good code writes the new value, and rd takes the old one. -/
theorem atomicAt_ram (rd : Nat) (f : Nat → Nat) {v : Nat} (h : placed s g 8 = false) (hbad : memBad s g 8 = false)
    (hf : f (ofLe (memLoad s g 8)) = v) :
    let t := atomicAt a rd addr f (.ram g) (accessed s a)
    memLoad t g 8 = leBytes 8 v ∧ greg t a rd = (if rd % 32 = 0 then 0 else ofLe (memLoad s g 8)) ∧
      agentPc t a = (agentPc s a + 4) % 2 ^ 48 ∧ t.hostMem = s.hostMem ∧
      (∀ r, r % 32 ≠ rd % 32 → greg t a r = greg s a r) ∧ ∀ x, (x < g ∨ g + 8 ≤ x) → memLoad t x 1 = memLoad s x 1 := by
  have hlen : (leBytes 8 v).length = 8 := leBytes_length 8 v
  have hold : ofLe (memLoad s g 8) < 2 ^ 64 := by
    have hlt := ofLe_lt (memLoad s g 8)
    rwa [memLoad, loadBytes_length] at hlt
  obtain ⟨hbytes, hagent, hhost, hother⟩ := areaStore_ram (s := charged s a addr g true) (g := g) (bs := leBytes 8 v)
    (by rw [hlen, placed_charged, h])
  rw [hlen] at hbytes hother
  have hagent := hagent a
  rw [agentInt_charged] at hagent
  have heq : atomicAt a rd addr f (.ram g) (accessed s a) =
      retireTo (areaStore (charged s a addr g true) g (leBytes 8 v)) a rd (ofLe (memLoad s g 8)) := by
    have hload : areaLoad (charged s a addr g true) g 8 = (memLoad s g 8, charged s a addr g true) := by
      rw [areaLoad_plain ((placed_charged s a addr g true g 8).trans h), memLoad_charged]
    have hgood : memBad (charged s a addr g true) g 8 = false := (memBad_charged s a addr g true g 8).trans hbad
    unfold charged at hload hgood ⊢
    simp only [atomicAt, hload, hgood, hf, Bool.false_eq_true, if_false]
  dsimp only
  rw [heq]
  obtain ⟨-, -, -, hmem, hkeep, -⟩ :=
    (sameBesideAgents_setGreg (areaStore (charged s a addr g true) g (leBytes 8 v)) a rd (ofLe (memLoad s g 8))).trans
      (sameBesideAgents_setPc _ a _)
  refine ⟨(congrArg (loadBytes · g 8) hmem).trans hbytes, ?_, ?_, (hkeep.trans hhost).trans (hostMem_charged s a addr g true),
    fun r hr => ?_, fun x hx => ((congrArg (loadBytes · x 1) hmem).trans (hother x hx)).trans (memLoad_charged s a addr g true x 1)⟩
  · rw [retireTo, advance, greg_setPc, greg_setGreg_same, Nat.mod_eq_of_lt hold]
  · rw [retireTo, advance, agentPc_setPc, agentPc_setGreg, agentPc, hagent, agentPc]
  · rw [retireTo, advance, greg_setPc, greg_setGreg_other _ _ _ hr, greg, hagent, greg]

end Ram

/-! ### The instructions -/

section Instructions

variable {s : State} {a rd ra rb imm fn n : Nat} {p : AddrAt}

theorem run_issueLoad (hrun : stopped s = false) (hmay : mayIssue s a = true) (hload : waitsForLoad s a [rd, ra] = false)
    (hfetch : fetchFault s a = none) (hfault : accessFault s a (effAddr s a ra imm) (plainAccess n false) = none)
    (hwait : accessWaits s a (effAddr s a ra imm) (plainAccess n false) = false)
    (hplace : resolve s a (effAddr s a ra imm) n = some p) :
    run s (issueLoad n a rd ra imm) =
      .next (loadAt a rd 1 (effAddr s a ra imm) (plainAccess n false) p (accessed s a)) := by
  rw [run_running s _ hrun, issueLoad, hload]
  exact congrArg Host.Outcome.next (issueAccess_runs hmay hload hfetch hfault hwait hplace)

theorem run_issueLoad_faults {c : Nat} (hrun : stopped s = false) (hmay : mayIssue s a = true)
    (hload : waitsForLoad s a [rd, ra] = false) (hfetch : fetchFault s a = none)
    (hfault : accessFault s a (effAddr s a ra imm) (plainAccess n false) = some c) :
    run s (issueLoad n a rd ra imm) = .next (exception (countIssue s a) a c (effAddr s a ra imm)) := by
  rw [run_running s _ hrun, issueLoad, hload]
  exact congrArg Host.Outcome.next (issueAccess_faults hmay hload hfetch hfault)

/-- A load whose address leads to plain internal memory. -/
theorem run_issueLoad_ram {g : Nat} (hrun : stopped s = false) (hmay : mayIssue s a = true)
    (hload : waitsForLoad s a [rd, ra] = false)
    (hfetch : fetchFault s a = none) (hfault : accessFault s a (effAddr s a ra imm) (plainAccess n false) = none)
    (hwait : accessWaits s a (effAddr s a ra imm) (plainAccess n false) = false)
    (hplace : resolve s a (effAddr s a ra imm) n = some (.ram g)) (hplain : placed s g n = false) :
    ∃ t, run s (issueLoad n a rd ra imm) = .next t ∧
      (agentInt t a).loads = (agentInt s a).loads ++ [⟨rd, 1, n, effAddr s a ra imm, agentPc s a, ofLe (memLoad s g n), none,
        memBad s g n, 0⟩] ∧
      agentPc t a = (agentPc s a + 4) % 2 ^ 48 ∧ t.mem = s.mem ∧ t.hostMem = s.hostMem ∧ t.links = s.links ∧
      ∀ r, greg t a r = greg s a r :=
  ⟨_, run_issueLoad hrun hmay hload hfetch hfault hwait hplace, loadAt_ram rd 1 hplain⟩

theorem run_issueLdl (hrun : stopped s = false) (hmay : mayIssue s a = true)
    (hload : waitsForLoad s a (ra :: groupRegs rd) = false) (hfetch : fetchFault s a = none) (hgroup : lineGroup rd = true)
    (hfault : accessFault s a (effAddr s a ra imm) (plainAccess 64 false) = none)
    (hwait : accessWaits s a (effAddr s a ra imm) (plainAccess 64 false) = false)
    (hplace : resolve s a (effAddr s a ra imm) 64 = some p) :
    run s (issueLdl a rd ra imm) =
      .next (loadAt a (rd % 32) 8 (effAddr s a ra imm) (plainAccess 64 false) p (accessed s a)) := by
  rw [run_running s _ hrun, issueLdl, hgroup, hload]
  exact congrArg Host.Outcome.next (issueAccess_runs hmay hload hfetch hfault hwait hplace)

theorem run_issueLdl_illegal (hrun : stopped s = false) (hmay : mayIssue s a = true) (hload : waitsForLoad s a [ra] = false)
    (hfetch : fetchFault s a = none) (hgroup : lineGroup rd = false) :
    run s (issueLdl a rd ra imm) = .next (exception (countIssue s a) a exIllegal 0) := by
  rw [run_running s _ hrun, issueLdl, hgroup]
  exact congrArg Host.Outcome.next (issue_runs a [ra] (fun t => exception t a exIllegal 0) s hmay hload hfetch)

theorem run_issueStore {hook : StoreHook} {rs : Nat} (hrun : stopped s = false) (hmay : mayIssue s a = true)
    (hload : waitsForLoad s a [rs, ra] = false)
    (hfetch : fetchFault s a = none) (hfault : accessFault s a (effAddr s a ra imm) (plainAccess n true) = none)
    (hwait : accessWaits s a (effAddr s a ra imm) (plainAccess n true) = false)
    (hplace : resolve s a (effAddr s a ra imm) n = some p) :
    run s (issueStore hook n a rs ra imm) =
      .next (storeAt hook a (effAddr s a ra imm) (plainAccess n true) (greg s a rs % 2 ^ (8 * n)) p (accessed s a)) := by
  rw [run_running s _ hrun, issueStore, hload]
  exact congrArg Host.Outcome.next (issueAccess_runs hmay hload hfetch hfault hwait hplace)

theorem run_issueStore_faults {hook : StoreHook} {rs c : Nat} (hrun : stopped s = false) (hmay : mayIssue s a = true)
    (hload : waitsForLoad s a [rs, ra] = false) (hfetch : fetchFault s a = none)
    (hfault : accessFault s a (effAddr s a ra imm) (plainAccess n true) = some c) :
    run s (issueStore hook n a rs ra imm) = .next (exception (countIssue s a) a c (effAddr s a ra imm)) := by
  rw [run_running s _ hrun, issueStore, hload]
  exact congrArg Host.Outcome.next (issueAccess_faults hmay hload hfetch hfault)

/-- A store whose address leads to plain internal memory. -/
theorem run_issueStore_ram {hook : StoreHook} {rs g : Nat} (hrun : stopped s = false) (hmay : mayIssue s a = true)
    (hload : waitsForLoad s a [rs, ra] = false)
    (hfetch : fetchFault s a = none) (hfault : accessFault s a (effAddr s a ra imm) (plainAccess n true) = none)
    (hwait : accessWaits s a (effAddr s a ra imm) (plainAccess n true) = false)
    (hplace : resolve s a (effAddr s a ra imm) n = some (.ram g)) (hplain : placed s g n = false) :
    ∃ t, run s (issueStore hook n a rs ra imm) = .next t ∧ memLoad t g n = leBytes n (greg s a rs % 2 ^ (8 * n)) ∧
      agentPc t a = (agentPc s a + 4) % 2 ^ 48 ∧ t.hostMem = s.hostMem ∧ (∀ r, greg t a r = greg s a r) ∧
      ∀ x, (x < g ∨ g + n ≤ x) → memLoad t x 1 = memLoad s x 1 :=
  ⟨_, run_issueStore hrun hmay hload hfetch hfault hwait hplace, storeAt_ram hook _ hplain⟩

theorem run_issueStl {hook : StoreHook} {rs : Nat} (hrun : stopped s = false) (hmay : mayIssue s a = true)
    (hload : waitsForLoad s a (ra :: groupRegs rs) = false) (hfetch : fetchFault s a = none) (hgroup : lineGroup rs = true)
    (hfault : accessFault s a (effAddr s a ra imm) (plainAccess 64 true) = none)
    (hwait : accessWaits s a (effAddr s a ra imm) (plainAccess 64 true) = false)
    (hplace : resolve s a (effAddr s a ra imm) 64 = some p) :
    run s (issueStl hook a rs ra imm) =
      .next (storeAt hook a (effAddr s a ra imm) (plainAccess 64 true) (groupValue s a rs) p (accessed s a)) := by
  rw [run_running s _ hrun, issueStl, hgroup, hload]
  exact congrArg Host.Outcome.next (issueAccess_runs hmay hload hfetch hfault hwait hplace)

theorem run_issueStl_illegal {hook : StoreHook} {rs : Nat} (hrun : stopped s = false) (hmay : mayIssue s a = true)
    (hload : waitsForLoad s a [ra] = false) (hfetch : fetchFault s a = none) (hgroup : lineGroup rs = false) :
    run s (issueStl hook a rs ra imm) = .next (exception (countIssue s a) a exIllegal 0) := by
  rw [run_running s _ hrun, issueStl, hgroup]
  exact congrArg Host.Outcome.next (issue_runs a [ra] (fun t => exception t a exIllegal 0) s hmay hload hfetch)

/-- The functions of AMO are 0 to 4 (R714). -/
theorem amoFn_isNone (old x : Nat) : (amoFn fn old x).isNone = decide (5 ≤ fn) := by
  match fn with
  | 0 | 1 | 2 | 3 | 4 => rfl
  | _ + 5 => simp [amoFn]

theorem run_issueAmo (hrun : stopped s = false) (hmay : mayIssue s a = true) (hload : waitsForLoad s a [rd, ra, rb] = false)
    (hfetch : fetchFault s a = none) (hfault : accessFault s a (greg s a ra) atomicAccess = none)
    (hwait : accessWaits s a (greg s a ra) atomicAccess = false) (hplace : resolve s a (greg s a ra) 8 = some p)
    (hfn : fn ≤ 4) : run s (issueAmo a rd ra rb fn) =
      .next (atomicAt a rd (greg s a ra) (fun old => (amoFn fn old (greg s a rb)).getD old) p (accessed s a)) := by
  rw [run_running s _ hrun, issueAmo, hload, amoFn_isNone, decide_eq_false (by omega)]
  exact congrArg Host.Outcome.next (issueAccess_runs hmay hload hfetch hfault hwait hplace)

theorem run_issueAmo_illegal (hrun : stopped s = false) (hmay : mayIssue s a = true)
    (hload : waitsForLoad s a [rd, ra, rb] = false) (hfetch : fetchFault s a = none) (hfn : 5 ≤ fn) :
    run s (issueAmo a rd ra rb fn) = .next (exception (countIssue s a) a exIllegal 0) := by
  rw [run_running s _ hrun, issueAmo, hload, amoFn_isNone, decide_eq_true hfn]
  exact congrArg Host.Outcome.next (issue_runs a [] (fun t => exception t a exIllegal 0) s hmay rfl hfetch)

theorem run_issueCas (hrun : stopped s = false) (hmay : mayIssue s a = true) (hload : waitsForLoad s a [rd, ra, rb] = false)
    (hfetch : fetchFault s a = none) (hfault : accessFault s a (greg s a ra) atomicAccess = none)
    (hwait : accessWaits s a (greg s a ra) atomicAccess = false) (hplace : resolve s a (greg s a ra) 8 = some p) :
    run s (issueCas a rd ra rb) =
      .next (atomicAt a rd (greg s a ra) (fun old => if old = greg s a rd then greg s a rb else old) p (accessed s a)) := by
  rw [run_running s _ hrun, issueCas, hload]
  exact congrArg Host.Outcome.next (issueAccess_runs hmay hload hfetch hfault hwait hplace)

/-! ### The oldest load returns -/

theorem exec_loadReturn_oldest {l : Load} {rest : List Load} (data : Bytes) (ok : Bool) (hrun : stopped s = false)
    (hloads : (agentInt s a).loads = l :: rest) :
    exec (.loadReturn a data ok) s = .next (returnLoad s a l data ok) := by
  change execLoadReturn a data ok s = _
  rw [execLoadReturn, run_running s _ hrun, hloads]

/-- The agents' loads after the oldest one has returned. -/
def loadGone (s : State) (a : Nat) : State := updAgent s a fun x => { x with loads := x.loads.tail }

theorem returnLoad_internal {l : Load} (data : Bytes) (ok : Bool) (hlink : l.link = none) (hbad : l.bad = false)
    (hregs : l.regs ≠ 0) : returnLoad s a l data ok = takeData (loadGone s a) a l l.data := by
  simp only [returnLoad, hlink, hbad, hregs, if_false, Bool.false_eq_true]
  rfl

theorem greg_loadGone (r : Nat) : greg (loadGone s a) a r = greg s a r := by
  rw [greg, loadGone, agentInt_updAgent_same, greg]

theorem agentPc_loadGone : agentPc (loadGone s a) a = agentPc s a := by
  rw [agentPc, loadGone, agentInt_updAgent_same, agentPc]

theorem loads_setGreg (s : State) (a r v : Nat) : (agentInt (setGreg s a r v) a).loads = (agentInt s a).loads := by
  unfold setGreg
  split
  · rfl
  · rw [agentInt_updAgent_same]

theorem regs_setGreg (s : State) (a r v : Nat) : (setGreg s a r v).regs = s.regs := by
  unfold setGreg
  split <;> rfl

/-- The data of a load changes registers of its agent only. -/
theorem takeData_keeps (s : State) (a : Nat) (l : Load) (v : Nat) :
    let t := takeData s a l v
    (agentInt t a).loads = (agentInt s a).loads ∧ agentPc t a = agentPc s a ∧ t.regs = s.regs ∧ t.mem = s.mem ∧
      t.hostMem = s.hostMem ∧ t.links = s.links := by
  have hbeside (t : State) (i : Nat) := sameBesideAgents_setGreg t a (l.rd + i) (bitsAt v (64 * i) 64)
  refine ⟨?_, ?_, ?_, ?_, ?_, ?_⟩
  · exact foldl_frame (fun t => (agentInt t a).loads) _ (fun t i => loads_setGreg t a _ _) _ _
  · exact foldl_frame (agentPc · a) _ (fun t i => agentPc_setGreg t a _ _) _ _
  · exact foldl_frame State.regs _ (fun t i => regs_setGreg t a _ _) _ _
  · refine foldl_frame State.mem _ (fun t i => ?_) _ _
    obtain ⟨-, -, -, hmem, -, -⟩ := hbeside t i
    exact hmem
  · refine foldl_frame State.hostMem _ (fun t i => ?_) _ _
    obtain ⟨-, -, -, -, hhost, -⟩ := hbeside t i
    exact hhost
  · refine foldl_frame State.links _ (fun t i => ?_) _ _
    obtain ⟨-, -, -, -, -, hlinks⟩ := hbeside t i
    exact hlinks

theorem takeData_one (s : State) (a : Nat) {l : Load} (v : Nat) (h : l.regs = 1) :
    takeData s a l v = setGreg s a l.rd (v % 2 ^ 64) := by
  simp [takeData, h, bitsAt]

theorem takeData_line (s : State) (a : Nat) {l : Load} (v : Nat) (h : l.regs = 8) (hrd : l.rd = 8) :
    let t := takeData s a l v
    greg t a 8 = bitsAt v 0 64 ∧ greg t a 15 = bitsAt v 448 64 ∧ greg t a 7 = greg s a 7 ∧ greg t a 16 = greg s a 16 := by
  have hfits (i : Nat) : bitsAt v i 64 % 2 ^ 64 = bitsAt v i 64 := by rw [bitsAt, Nat.mod_mod]
  simp only [takeData, h, hrd, List.range, List.range.loop, List.foldl_cons, List.foldl_nil]
  simp (disch := decide) only [greg_setGreg_other, greg_setGreg_same, hfits, and_true, and_self]
  exact ⟨rfl, rfl⟩

end Instructions

/-- Settles O41: an access that fails no check and waits for nothing has its effect at its place once the instruction is
counted and charged, and neither touches the agents, memory or the links.  That a load reads when it is issued and returns
oldest first, and that AMO and CAS write their result in their own step, is the model's choice (assumption log, entry 63). -/
theorem relayLoadsStoresAndAtomics : Obligations.RelayLoadsStoresAndAtomics := by
  unfold Obligations.RelayLoadsStoresAndAtomics
  refine ⟨?ldb, ?ldh, ?ldw, ?ldd, ?ldl, ?one, ?line, ?stb, ?sth, ?stw, ?std, ?stl, ?amo, ?cas,
    fun _ _ _ _ _ _ hrun => run_issueLoad (n := 1) hrun, fun _ _ _ _ _ _ hrun => run_issueLoad_faults (n := 1) hrun,
    fun _ _ _ _ _ _ hrun => run_issueLoad (n := 2) hrun, fun _ _ _ _ _ _ hrun => run_issueLoad_faults (n := 2) hrun,
    fun _ _ _ _ _ _ hrun => run_issueLoad (n := 4) hrun, fun _ _ _ _ _ _ hrun => run_issueLoad_faults (n := 4) hrun,
    fun _ _ _ _ _ _ hrun => run_issueLoad (n := 8) hrun, fun _ _ _ _ _ _ hrun => run_issueLoad_faults (n := 8) hrun,
    fun _ _ _ _ _ _ hrun => run_issueLdl hrun, fun _ _ _ _ _ hrun => run_issueLdl_illegal hrun,
    fun _ _ _ _ _ _ hrun => run_issueStore (n := 1) hrun, fun _ _ _ _ _ _ hrun => run_issueStore_faults (n := 1) hrun,
    fun _ _ _ _ _ _ hrun => run_issueStore (n := 2) hrun, fun _ _ _ _ _ _ hrun => run_issueStore_faults (n := 2) hrun,
    fun _ _ _ _ _ _ hrun => run_issueStore (n := 4) hrun, fun _ _ _ _ _ _ hrun => run_issueStore_faults (n := 4) hrun,
    fun _ _ _ _ _ _ hrun => run_issueStore (n := 8) hrun, fun _ _ _ _ _ _ hrun => run_issueStore_faults (n := 8) hrun,
    fun _ _ _ _ _ _ hrun => run_issueStl hrun, fun _ _ _ _ _ hrun => run_issueStl_illegal hrun,
    fun _ _ _ _ _ _ _ hrun => run_issueAmo hrun, fun _ _ _ _ _ _ hrun => run_issueAmo_illegal hrun,
    fun _ _ _ _ _ _ hrun => run_issueCas hrun, fun _ _ _ _ data ok hrun => exec_loadReturn_oldest data ok hrun⟩
  case ldb => exact fun _ _ _ _ _ _ hrun => run_issueLoad_ram (n := 1) hrun
  case ldh => exact fun _ _ _ _ _ _ hrun => run_issueLoad_ram (n := 2) hrun
  case ldw => exact fun _ _ _ _ _ _ hrun => run_issueLoad_ram (n := 4) hrun
  case ldd => exact fun _ _ _ _ _ _ hrun => run_issueLoad_ram (n := 8) hrun
  case ldl =>
    intro s a rd ra imm g hrun hmay hload hfetch hgroup hfault hwait hplace hplain
    exact ⟨_, run_issueLdl hrun hmay hload hfetch hgroup hfault hwait hplace, loadAt_ram (rd % 32) 8 hplain⟩
  case stb => exact fun _ _ _ _ _ _ hrun => run_issueStore_ram (n := 1) hrun
  case sth => exact fun _ _ _ _ _ _ hrun => run_issueStore_ram (n := 2) hrun
  case stw => exact fun _ _ _ _ _ _ hrun => run_issueStore_ram (n := 4) hrun
  case std => exact fun _ _ _ _ _ _ hrun => run_issueStore_ram (n := 8) hrun
  case stl =>
    intro s a rs ra imm g hrun hmay hload hfetch hgroup hfault hwait hplace hplain
    exact ⟨_, run_issueStl hrun hmay hload hfetch hgroup hfault hwait hplace, storeAt_ram stewardHook _ hplain⟩
  case amo =>
    intro s a rd ra rb fn v g hrun hmay hload hfetch hfault hwait hplace hplain hbad hv
    have hfn : fn ≤ 4 := by
      simp only [List.mem_cons, Prod.mk.injEq, List.not_mem_nil, or_false] at hv
      omega
    have hvalue : (amoFn fn (ofLe (memLoad s g 8)) (greg s a rb)).getD (ofLe (memLoad s g 8)) % 2 ^ 64 = v % 2 ^ 64 := by
      simp only [List.mem_cons, Prod.mk.injEq, List.not_mem_nil, or_false] at hv
      rcases hv with ⟨rfl, rfl⟩ | ⟨rfl, rfl⟩ | ⟨rfl, rfl⟩ | ⟨rfl, rfl⟩ | ⟨rfl, rfl⟩
      · exact Nat.mod_mod _ _
      · rfl
      · rfl
      · rfl
      · exact congrArg (· % 2 ^ 64) (max_eq_ite _ _)
    rw [← hvalue, leBytes_mod 8]
    exact ⟨_, run_issueAmo hrun hmay hload hfetch hfault hwait hplace hfn, atomicAt_ram rd _ hplain hbad rfl⟩
  case cas =>
    intro s a rd ra rb g hrun hmay hload hfetch hfault hwait hplace hplain hbad
    exact ⟨_, run_issueCas hrun hmay hload hfetch hfault hwait hplace, atomicAt_ram rd _ hplain hbad rfl⟩
  case one =>
    intro s a l rest data ok hrun hloads hlink hbad hregs hrd
    obtain ⟨hgone, hpc, hstore, hmem, hhost, hlinks⟩ := takeData_keeps (loadGone s a) a l l.data
    refine ⟨_, (exec_loadReturn_oldest data ok hrun hloads).trans
      (congrArg _ (returnLoad_internal data ok hlink hbad (by omega))), ?_, ?_, hpc.trans agentPc_loadGone, hstore, hmem, hhost,
      hlinks, fun r hr => ?_⟩
    · rw [hgone, loadGone, agentInt_updAgent_same, hloads]; rfl
    · rw [takeData_one _ _ _ hregs, greg_setGreg_same, if_neg hrd, Nat.mod_mod]
    · rw [takeData_one _ _ _ hregs, greg_setGreg_other _ _ _ hr, greg_loadGone]
  case line =>
    intro s a l rest data ok hrun hloads hlink hbad hregs hrd
    obtain ⟨hgone, hpc, hstore, hmem, hhost, hlinks⟩ := takeData_keeps (loadGone s a) a l l.data
    obtain ⟨h8, h15, h7, h16⟩ := takeData_line (loadGone s a) a l.data hregs hrd
    refine ⟨_, (exec_loadReturn_oldest data ok hrun hloads).trans
      (congrArg _ (returnLoad_internal data ok hlink hbad (by omega))), ?_, h8, h15, h7.trans (greg_loadGone 7),
      h16.trans (greg_loadGone 16), hstore, hmem, hhost, hlinks⟩
    rw [hgone, loadGone, agentInt_updAgent_same, hloads]; rfl

end Sys2Proof.Machine
end

section
/-! SUPPORT. An armed timer does not fire while an earlier event is due (R70): the refutation of O42. -/
namespace Sys2Proof.Machine

/-- Two running threads whose timers are armed for 5 and 9 ns, at the time 20 ns. -/
def twoTimersDue : State :=
  setThreadState (setThreadState { State.reset with
    tt := { tt := 20 }
    rly := { threads := [(0, { timer := 5, armed := true }), (1, { timer := 9, armed := true })] } } 0 thReady) 1 thReady

/-- Its clocks run. -/
example : stopped twoTimersDue = false := by decide +kernel

/-- Whether an outcome shows that the timer of thread 1 has fired. -/
def secondTimerFired : Out → Option Nat
  | .next t => some (t.rd RLY_THCTX.timer_fired 1)
  | _ => none

/-- The later timer waits for the earlier one. -/
theorem secondTimerFired_threadTimer : secondTimerFired (exec (.threadTimer 1) twoTimersDue) = some 0 := by decide +kernel

/-- Refutes O42: its twelfth clause has an armed timer that is reached fire at once, while an event that was due earlier,
here the timer of another thread, fires first (R70) and keeps it from doing so. -/
theorem not_relayThreadsAndBatons : ¬ Obligations.RelayThreadsAndBatons := by
  unfold Obligations.RelayThreadsAndBatons
  rintro ⟨-, -, -, -, -, -, -, -, -, -, -, htimer, -⟩
  obtain ⟨t, hexec, hfired, -⟩ := htimer twoTimersDue 1 (by decide +kernel) (by decide) (by decide +kernel) (by decide +kernel)
    (by decide +kernel)
  have hshown : some 0 = some 1 := by
    rw [← secondTimerFired_threadTimer, hexec, secondTimerFired, hfired]
  exact absurd hshown (by decide)

end Sys2Proof.Machine
end

section
/-! SUPPORT. Field arrays that share no bit: what is read of one after a write of the other, and what the accounting of work,
raised sources and stores leave in the registers. -/
namespace Sys2Proof.Machine

/-! ### Arrays that share no bit -/

/-- The bit address of an array's first member, and of its last. -/
def Desc.first (d : Desc) : Nat := d.base * 8 + d.lo
def Desc.last (d : Desc) : Nat := (d.base + (d.n1 - 1) * d.s1 + (d.n2 - 1) * d.s2) * 8 + d.lo

/-- The step, in bits, that the members of two arrays have in common. -/
def Desc.stride (d e : Desc) : Nat := 8 * Nat.gcd (Nat.gcd d.s1 d.s2) (Nat.gcd e.s1 e.s2)

/-- No member of one array is at the bit address of a member of the other: the arrays stand one after the other, or they
stand at different places of a common step. -/
def Desc.apart (d e : Desc) : Bool :=
  decide (d.last < e.first) || decide (e.last < d.first) || decide (d.first % d.stride e ≠ e.first % d.stride e)

theorem Desc.has_bounds {d : Desc} {i j : Nat} (h : d.has i j = true) : i < d.n1 ∧ j < d.n2 := by
  simpa [Desc.has] using h

theorem Desc.first_le_key (d : Desc) (i j : Nat) : d.first ≤ d.key i j := by
  unfold Desc.first Desc.key
  omega

theorem Desc.key_le_last {d : Desc} {i j : Nat} (h : d.has i j = true) : d.key i j ≤ d.last := by
  obtain ⟨hi, hj⟩ := Desc.has_bounds h
  have h1 : i * d.s1 ≤ (d.n1 - 1) * d.s1 := Nat.mul_le_mul_right _ (by omega)
  have h2 : j * d.s2 ≤ (d.n2 - 1) * d.s2 := Nat.mul_le_mul_right _ (by omega)
  unfold Desc.last Desc.key
  omega

/-- The members of an array stand at one place of every step that divides its own. -/
theorem Desc.key_mod {d : Desc} {g : Nat} (i j : Nat) (h1 : g ∣ 8 * d.s1) (h2 : g ∣ 8 * d.s2) :
    d.key i j % g = d.first % g := by
  obtain ⟨x, hx⟩ := h1
  obtain ⟨y, hy⟩ := h2
  have hkey : d.key i j = d.first + g * (i * x + j * y) := by
    calc d.key i j = d.first + (i * (8 * d.s1) + j * (8 * d.s2)) := by
          rw [Desc.key, Desc.first, Nat.mul_left_comm i, Nat.mul_left_comm j]
          omega
      _ = d.first + g * (i * x + j * y) := by rw [hx, hy, Nat.mul_add, Nat.mul_left_comm g i, Nat.mul_left_comm g j]
  rw [hkey, Nat.add_mul_mod_self_left]

theorem Desc.stride_dvd (d e : Desc) : d.stride e ∣ 8 * d.s1 ∧ d.stride e ∣ 8 * d.s2 ∧ d.stride e ∣ 8 * e.s1 ∧ d.stride e ∣ 8 * e.s2 := by
  have hd := Nat.gcd_dvd_left (Nat.gcd d.s1 d.s2) (Nat.gcd e.s1 e.s2)
  have he := Nat.gcd_dvd_right (Nat.gcd d.s1 d.s2) (Nat.gcd e.s1 e.s2)
  exact ⟨Nat.mul_dvd_mul_left 8 (Nat.dvd_trans hd (Nat.gcd_dvd_left _ _)), Nat.mul_dvd_mul_left 8 (Nat.dvd_trans hd (Nat.gcd_dvd_right _ _)),
    Nat.mul_dvd_mul_left 8 (Nat.dvd_trans he (Nat.gcd_dvd_left _ _)), Nat.mul_dvd_mul_left 8 (Nat.dvd_trans he (Nat.gcd_dvd_right _ _))⟩

theorem Desc.key_ne_of_apart {d e : Desc} {i j k l : Nat} (h : d.apart e = true) (hd : d.has i j = true) (he : e.has k l = true) :
    e.key k l ≠ d.key i j := by
  have hd1 := d.first_le_key i j
  have hd2 := Desc.key_le_last hd
  have he1 := e.first_le_key k l
  have he2 := Desc.key_le_last he
  simp only [Desc.apart, Bool.or_eq_true, decide_eq_true_eq] at h
  rcases h with (h | h) | h
  · omega
  · omega
  · obtain ⟨h1, h2, h3, h4⟩ := d.stride_dvd e
    intro hkey
    rw [← Desc.key_mod i j h1 h2, ← Desc.key_mod k l h3 h4, hkey] at h
    exact h rfl

/-! ### Reads after writes of arrays apart -/

section Reads

variable (s : State) {d e : Desc} (v n i j k l : Nat)

theorem State.rd_wr_apart (h : d.apart e = true) : (s.wr d v i j).rd e k l = s.rd e k l := by
  cases hd : d.has i j with
  | false => rw [State.wr_absent s d v i j hd]
  | true => cases he : e.has k l with
    | false => simp [State.rd, he]
    | true => exact State.rd_wr_other s d e v i j k l (Desc.key_ne_of_apart h hd he)

theorem State.on_wr_apart (h : d.apart e = true) : (s.wr d v i j).on e k l = s.on e k l := by
  rw [State.on, State.on, State.rd_wr_apart s v i j k l h]

theorem State.rd_count_apart (h : d.apart e = true) : (s.count d n i j).rd e k l = s.rd e k l :=
  State.rd_wr_apart s _ i j k l h

theorem State.rd_countSat_apart (h : d.apart e = true) : (s.countSat d n i j).rd e k l = s.rd e k l :=
  State.rd_wr_apart s _ i j k l h

/-- A write of one member of an array leaves its other members. -/
theorem State.rd_wr_member {i k : Nat} (hstep : 0 < d.s1) (h : k ≠ i) : (s.wr d v i).rd d k = s.rd d k := by
  refine State.rd_wr_other _ _ _ _ _ _ _ _ fun hkey => h ?_
  unfold Desc.key at hkey
  exact Nat.eq_of_mul_eq_mul_right hstep (by omega)

/-! ### Accounting, raised sources and stores -/

theorem rd_pmcAdd (h : PMC_CNT.count.apart e = true) : (pmcAdd s n v).rd e k l = s.rd e k l := by
  unfold pmcAdd
  dsimp only
  split
  · exact State.rd_wr_apart s _ _ _ k l h
  · exact State.rd_wr_apart s _ _ _ k l h

theorem rd_pmc (event inst amount : Nat) (acct : Option Nat) (h : PMC_CNT.count.apart e = true) :
    (pmc s event inst amount acct).rd e k l = s.rd e k l := by
  unfold pmc
  split
  · rfl
  · refine foldl_frame (fun t => t.rd e k l) _ (fun t n => ?_) _ _
    split
    · exact rd_pmcAdd t _ _ k l h
    · rfl

theorem rd_activity (d k' c n' acct : Nat) : (activity s d k' c n' acct).rd e k l = s.rd e k l :=
  State.rd_congr (by simp) e k l

theorem rd_fabricFlits (bytes acct : Nat) (h : PMC_CNT.count.apart e = true) :
    (fabricFlits s bytes acct).rd e k l = s.rd e k l := by
  rw [fabricFlits, rd_pmc _ _ _ _ _ _ _ h, rd_activity]

theorem rd_g6Access (addr acct : Nat) (write : Bool) (h : PMC_CNT.count.apart e = true) :
    (g6Access s addr write acct).rd e k l = s.rd e k l := by
  rw [g6Access, rd_pmc _ _ _ _ _ _ _ h, rd_activity, rd_fabricFlits _ _ _ _ _ h]

theorem rd_sramAccess (acct : Nat) (h : PMC_CNT.count.apart e = true) : (sramAccess s n acct).rd e k l = s.rd e k l := by
  rw [sramAccess, rd_pmc _ _ _ _ _ _ _ h, rd_activity, rd_fabricFlits _ _ _ _ _ h]

theorem rd_requestVector (f : Nat) (h : IRQ_MSIX_BAD.count.apart e = true) : (requestVector s f v).rd e k l = s.rd e k l := by
  rcases requestVector_cases s f v with hbad | hpending | hnothing | hsent
  · rw [hbad, State.rd_count_apart _ _ _ _ _ _ h]
  · rw [hpending, State.rd_congr (updMsix_regs s f v _)]
  · rw [hnothing]
  · rw [hsent]
    exact State.rd_congr rfl e k l

theorem rd_raise (hbit : IRQ_SRC.asserted.apart e = true) (hbad : IRQ_MSIX_BAD.count.apart e = true) :
    (raise s n).rd e k l = s.rd e k l := by
  rcases raise_cases s n with h | h
  · rw [h, State.rd_wr_apart _ _ _ _ _ _ hbit]
  · rw [h, rd_requestVector _ _ _ _ _ hbad, State.rd_wr_apart _ _ _ _ _ _ hbit]

theorem rd_detFailed (hbit : IRQ_SRC.asserted.apart e = true) (hbad : IRQ_MSIX_BAD.count.apart e = true)
    (hdet : DEV_DET_COUNT.failed.apart e = true) : (detFailed s).rd e k l = s.rd e k l := by
  rw [detFailed, rd_raise _ _ _ _ hbit hbad, State.rd_countSat_apart _ _ _ _ _ _ hdet]

theorem rd_memStore (a : Nat) (bs : Bytes) (hbit : IRQ_SRC.asserted.apart e = true) (hbad : IRQ_MSIX_BAD.count.apart e = true)
    (hdet : DEV_DET_COUNT.failed.apart e = true) : (memStore s a bs).rd e k l = s.rd e k l := by
  unfold memStore
  exact foldl_frame (fun t => t.rd e k l) _ (fun t _ => rd_detFailed t k l hbit hbad hdet) _ _

theorem rd_hostWrite (f a : Nat) (bs : Bytes) : (hostWrite s f a bs).rd e k l = s.rd e k l := State.rd_congr (by simp) e k l

end Reads

end Sys2Proof.Machine
end

section
/-! SUPPORT. The instructions of a DMA chain (R631 to R641), and the obligation O36 that they settle. -/
namespace Sys2Proof.Machine

section Executing

variable {s : State} {c k x op : Nat}

/-- A channel about to execute an instruction is one of the 256, RUNNING, at the instruction's slot, and moves nothing. -/
theorem instrOf_some (h : instrOf s c op = some (k, x)) :
    c < 256 ∧ chState s c = chRunning ∧ s.rd DMA_CHAN.slot c = k ∧ k ≤ 6 ∧
      ∃ b, (chan s c).block = some b ∧ x = slotBits b k ∧ slotOp x = op ∧ badInstr b k = false := by
  unfold instrOf chanInstr at h
  split at h
  · rename_i b k' x' hinstr
    split at hinstr
    · rename_i b' hblock
      dsimp only at hinstr
      split at hinstr
      · rename_i hready
        obtain ⟨rfl, rfl, rfl⟩ : b' = b ∧ s.rd DMA_CHAN.slot c = k' ∧ slotBits b' (s.rd DMA_CHAN.slot c) = x' := by
          simpa using hinstr
        split at h
        · rename_i hop
          obtain ⟨rfl, rfl⟩ : s.rd DMA_CHAN.slot c = k ∧ slotBits b' (s.rd DMA_CHAN.slot c) = x := by simpa using h
          simp only [Bool.and_eq_true, decide_eq_true_eq] at hready
          obtain ⟨⟨hchan, -⟩, hk⟩ := hready
          simp only [chanReady, Bool.and_eq_true, decide_eq_true_eq] at hchan
          obtain ⟨⟨⟨⟨-, hc⟩, hstate⟩, -⟩, -⟩ := hchan
          exact ⟨hc, hstate, rfl, hk, b', hblock, rfl, hop.1, by simpa using hop.2⟩
        · exact absurd h (by simp)
      · exact absurd hinstr (by simp)
    · exact absurd hinstr (by simp)
  · exact absurd h (by simp)

@[simp] theorem chan_updChan_same (s : State) (c : Nat) (f : ChanInt → ChanInt) : chan (updChan s c f) c = f (chan s c) :=
  Map.get_upd_same s.dma.chans c f

theorem chan_congr {t : State} (h : t.dma = s.dma) (c : Nat) : chan t c = chan s c := by rw [chan, chan, h]

/-- A channel's state code is what it was set to. -/
theorem chState_setChState {st : Nat} (hc : c < 256) (hst : st < 4) : chState (setChState s c st) c = st :=
  (State.rd_wr_same s DMA_CHAN.state st c 0 (by simp [Desc.has, DMA_CHAN.state, hc])).trans (Nat.mod_eq_of_lt hst)

theorem rd_slot_wr {v : Nat} (hc : c < 256) : (s.wr DMA_CHAN.slot v c).rd DMA_CHAN.slot c = v % 2 ^ 3 :=
  State.rd_wr_same s DMA_CHAN.slot v c 0 (by simp [Desc.has, DMA_CHAN.slot, hc])

/-- A slot of the block follows. -/
theorem goTo_slot {n : Nat} (h : n ≤ 6) : goTo s c n = s.wr DMA_CHAN.slot n c := if_neg (by omega)

theorem nextInstr_slot {t : State} (hslot : t.rd DMA_CHAN.slot c = k) (hk : k < 6) :
    nextInstr t c = t.wr DMA_CHAN.slot (k + 1) c := by
  rw [nextInstr, hslot, goTo_slot (by omega)]

theorem nextInstr_goTo {t : State} (hslot : t.rd DMA_CHAN.slot c = k) : nextInstr t c = goTo t c (k + 1) := by
  rw [nextInstr, hslot]

/-- What a WAIT that begins leaves. -/
theorem beginWait_view (w : ChanWait) (hc : c < 256) :
    let t := beginWait s c w
    (chan t c).wait = w ∧ chState t c = chWaiting ∧ t.rd DMA_CHAN.slot c = s.rd DMA_CHAN.slot c ∧ t.queues = s.queues ∧
      t.mem = s.mem ∧ t.hostMem = s.hostMem ∧ t.links = s.links := by
  refine ⟨?_, chState_setChState hc (by decide), State.rd_wr_apart _ _ _ _ _ _ (by decide), ?_, ?_, ?_, ?_⟩
  · rw [beginWait, chan_updChan_same]
  all_goals simp [beginWait, setChState]

/-! ### The SIGNAL instructions -/

theorem signal_visible {kind : Nat} (act : Nat → State → State) (h : instrOf s c 4 = some (k, x)) (hkind : bitsAt x 4 3 = kind)
    (hvis : movesVisible s c = true) : signal s c kind act = act x s := by
  simp [signal, h, hkind, hvis]

theorem signal_waits {kind : Nat} (act : Nat → State → State) (h : instrOf s c 4 = some (k, x)) (hkind : bitsAt x 4 3 = kind)
    (hvis : movesVisible s c = false) : signal s c kind act = flushChan s c := by
  simp [signal, h, hkind, hvis]

theorem run_signal_waits {kind : Nat} {act : Nat → State → State} (hrun : stopped s = false) (h : instrOf s c 4 = some (k, x))
    (hkind : bitsAt x 4 3 = kind) (hvis : movesVisible s c = false) :
    run s (fun s => signal s c kind act) = .next (flushChan s c) := by
  rw [run_running s _ hrun, signal_waits act h hkind hvis]

/-- The lines of a channel's access are charged beside memory and the channel's context. -/
theorem chargeLines_keeps (s : State) (c a n : Nat) (write : Bool) :
    let t := chargeLines s c a n write
    t.areas = s.areas ∧ t.mem = s.mem ∧ t.hostMem = s.hostMem ∧ t.dma = s.dma := by
  refine ⟨?_, ?_, ?_, ?_⟩
  · exact foldl_frame State.areas _ (fun t i => by split <;> simp) _ _
  · exact foldl_frame State.mem _ (fun t i => by split <;> simp) _ _
  · exact foldl_frame State.hostMem _ (fun t i => by split <;> simp) _ _
  · exact foldl_frame State.dma _ (fun t i => by split <;> simp) _ _

theorem rd_chargeLines (s : State) (c a n : Nat) (write : Bool) {e : Desc} (i j : Nat) (h : PMC_CNT.count.apart e = true) :
    (chargeLines s c a n write).rd e i j = s.rd e i j := by
  refine foldl_frame (fun t => t.rd e i j) _ (fun t m => ?_) _ _
  split
  · exact rd_sramAccess t _ _ _ _ h
  · exact rd_g6Access t _ _ _ _ _ h

end Executing

/-! ### The instructions -/

section Instructions

variable {s : State} {c k x tt : Nat}

theorem exec_chainMove_at {m : DmaMove} (hrun : stopped s = false) (hinstr : instrOf s c 1 = some (k, x))
    (hm : m = { src := wrapInt 64 ((bitsAt x 64 64 : Int) +
        (s.rd DMA_CHAN.loop_i c : Int) * signed 32 (bitsAt (slotBits ((chan s c).block.getD 0) (k + 1)) 64 32))
                dst := wrapInt 64 ((bitsAt (slotBits ((chan s c).block.getD 0) (k + 1)) 0 64 : Int) +
        (s.rd DMA_CHAN.loop_i c : Int) * signed 32 (bitsAt (slotBits ((chan s c).block.getD 0) (k + 1)) 96 32))
                len := bitsAt x 32 25, srcInt := bitAt x 4, dstInt := bitAt x 5, srcAts := bitAt x 6, dstAts := bitAt x 7
                verify := bitAt x 8 }) :
    exec (.chainMove c) s = .next (if movePerm s c m then endChannel s c 3 else if m.len = 0 then goTo s c (k + 2)
      else updChan (noteDest (s.wr DMA_CHAN.retries 0 c) c m) c fun z => { z with move := some m }) := by
  change execChainMove c s = _
  rw [execChainMove, run_running s _ hrun, hm]
  simp only [hinstr]

theorem exec_chainLoop_again (hrun : stopped s = false) (hinstr : instrOf s c 2 = some (k, x))
    (hcount : s.rd DMA_CHAN.loop_i c + 1 < bitsAt x 32 32) : exec (.chainLoop c) s =
      .next ((s.wr DMA_CHAN.loop_i (s.rd DMA_CHAN.loop_i c + 1) c).wr DMA_CHAN.slot (bitsAt x 4 3) c) := by
  change execChainLoop c s = _
  rw [execChainLoop, run_running s _ hrun]
  simp only [hinstr, hcount, if_true]

theorem exec_chainLoop_done (hrun : stopped s = false) (hinstr : instrOf s c 2 = some (k, x))
    (hcount : bitsAt x 32 32 ≤ s.rd DMA_CHAN.loop_i c + 1) :
    exec (.chainLoop c) s = .next (goTo (s.wr DMA_CHAN.loop_i 0 c) c (k + 1)) := by
  change execChainLoop c s = _
  rw [execChainLoop, run_running s _ hrun]
  simp only [hinstr, if_neg (Nat.not_lt.mpr hcount)]

theorem exec_dmaWaitUntil_begins (hrun : stopped s = false) (hinstr : instrOf s c 3 = some (k, x)) (hkind : bitsAt x 4 2 = 0) :
    exec (.dmaWaitUntil c) s = .next (beginWait s c (.until (bitsAt x 64 64))) := by
  change execDmaWaitUntil c s = _
  rw [execDmaWaitUntil, run_running s _ hrun]
  simp only [hinstr, hkind, if_true]

theorem exec_dmaWaitDuration_begins (hrun : stopped s = false) (hinstr : instrOf s c 3 = some (k, x))
    (hkind : bitsAt x 4 2 = 1) :
    exec (.dmaWaitDuration c) s = .next (beginWait s c (.until (now s + bitsAt x 64 64))) := by
  change execDmaWaitDuration c s = _
  rw [execDmaWaitDuration, run_running s _ hrun]
  simp only [hinstr, hkind, if_true]

theorem exec_dmaWaitSemaphore_begins (hrun : stopped s = false) (hinstr : instrOf s c 3 = some (k, x))
    (hkind : bitsAt x 4 2 = 2) (hsem : s.rd DMA_CHAN.sem c = 0) : exec (.dmaWaitSemaphore c) s =
      .next (beginWait s c (.semaphore (if bitsAt x 64 32 = 0 then none else some (now s + bitsAt x 64 32)))) := by
  change execDmaWaitSemaphore c s = _
  rw [execDmaWaitSemaphore, run_running s _ hrun]
  simp only [hinstr, hkind, hsem, ne_eq, not_true_eq_false, if_false]

theorem exec_dmaWaitSemaphore_passes (hrun : stopped s = false) (hinstr : instrOf s c 3 = some (k, x))
    (hkind : bitsAt x 4 2 = 2) (hsem : s.rd DMA_CHAN.sem c ≠ 0) : exec (.dmaWaitSemaphore c) s =
      .next (goTo (s.wr DMA_CHAN.sem (s.rd DMA_CHAN.sem c - 1) c) c (k + 1)) := by
  change execDmaWaitSemaphore c s = _
  rw [execDmaWaitSemaphore, run_running s _ hrun]
  simp only [hinstr, hkind, hsem, ne_eq, not_true_eq_false, not_false_eq_true, if_true, if_false]

theorem exec_dmaWaitExpiry_until (hrun : stopped s = false) (hon : enabled s .dma = true)
    (hwait : (chan s c).wait = .until tt) (htime : tt ≤ now s) (hdue : dueBefore s tt = false) :
    exec (.dmaWaitExpiry c) s = .next (endWait (applyFirst .dma tt s) c) := by
  change execDmaWaitExpiry c s = _
  rw [execDmaWaitExpiry, run_running s _ hrun]
  simp [hon, hwait, htime, hdue]

theorem exec_dmaWaitExpiry_semaphore {o : Option Nat} (hrun : stopped s = false) (hon : enabled s .dma = true)
    (hwait : (chan s c).wait = .semaphore o) (hsem : s.rd DMA_CHAN.sem c ≠ 0) :
    exec (.dmaWaitExpiry c) s = .next (endWait (s.wr DMA_CHAN.sem (s.rd DMA_CHAN.sem c - 1) c) c) := by
  change execDmaWaitExpiry c s = _
  rw [execDmaWaitExpiry, run_running s _ hrun]
  simp [hon, hwait, hsem]

theorem exec_dmaWaitExpiry_timeout (hrun : stopped s = false) (hon : enabled s .dma = true)
    (hwait : (chan s c).wait = .semaphore (some tt)) (hsem : s.rd DMA_CHAN.sem c = 0) (htime : tt ≤ now s)
    (hdue : dueBefore s tt = false) : exec (.dmaWaitExpiry c) s = .next (endChannel (applyFirst .dma tt s) c 5) := by
  change execDmaWaitExpiry c s = _
  rw [execDmaWaitExpiry, run_running s _ hrun]
  simp [hon, hwait, hsem, htime, hdue]

theorem exec_signalWrite_visible (hrun : stopped s = false) (hinstr : instrOf s c 4 = some (k, x)) (hkind : bitsAt x 4 3 = 0)
    (hvis : movesVisible s c = true) {t : State}
    (hspace : bitAt x 7 = false ∨ internalAllowed s c = true ∧ rangeExists s (bitsAt x 64 64) 4 = true)
    (hdone : chanWrite s c (bitAt x 7) (bitAt x 8) (bitsAt x 64 64) (leBytes 4 (bitsAt x 32 32)) false = .done t) :
    exec (.signalWrite c) s = .next (nextInstr t c) := by
  have hlegal : (bitAt x 7 && (!internalAllowed s c || !rangeExists s (bitsAt x 64 64) 4)) = false := by
    rcases hspace with h | ⟨h1, h2⟩
    · simp [h]
    · simp [h1, h2]
  change execSignalWrite c s = _
  rw [execSignalWrite, run_running s _ hrun, signal_visible _ hinstr hkind hvis]
  simp only [hlegal, hdone, Bool.false_eq_true, if_false]

theorem exec_signalSem_visible (hrun : stopped s = false) (hinstr : instrOf s c 4 = some (k, x)) (hkind : bitsAt x 4 3 = 1)
    (hvis : movesVisible s c = true) : exec (.signalSem c) s =
      .next (if semAllowed s c (bitsAt x 32 16) then nextInstr (s.countSat DMA_CHAN.sem 1 (bitsAt x 32 16)) c
        else endChannel s c 3) := by
  change execSignalSem c s = _
  rw [execSignalSem, run_running s _ hrun, signal_visible _ hinstr hkind hvis]

theorem exec_signalThread_visible (hrun : stopped s = false) (hinstr : instrOf s c 4 = some (k, x)) (hkind : bitsAt x 4 3 = 2)
    (hvis : movesVisible s c = true) (hmay : isRelayChan s c = true ∨ chanFn s c = 0) :
    exec (.signalThread c) s = .next (nextInstr (dmaEvent s (bitsAt x 32 16)) c) := by
  have hallowed : (!isRelayChan s c && decide (chanFn s c ≠ 0)) = false := by
    rcases hmay with h | h <;> simp [h]
  change execSignalThread c s = _
  rw [execSignalThread, run_running s _ hrun, signal_visible _ hinstr hkind hvis]
  simp only [hallowed, Bool.false_eq_true, if_false]

theorem exec_signalMsix_visible (hrun : stopped s = false) (hinstr : instrOf s c 4 = some (k, x)) (hkind : bitsAt x 4 3 = 3)
    (hvis : movesVisible s c = true) : exec (.signalMsix c) s =
      .next (if vectorCount s (chanFn s c) ≤ bitsAt x 32 16 then endChannel s c 3
        else nextInstr (publish s (.vector (chanFn s c) (bitsAt x 32 16))) c) := by
  change execSignalMsix c s = _
  rw [execSignalMsix, run_running s _ hrun, signal_visible _ hinstr hkind hvis]

theorem exec_dmaHurdle_at (hrun : stopped s = false) (hinstr : instrOf s c 5 = some (k, x)) :
    exec (.dmaHurdle c) s = .next (if movesVisible s c then nextInstr s c else flushChan s c) := by
  change execDmaHurdle c s = _
  rw [execDmaHurdle, run_running s _ hrun]
  simp only [hinstr]

/-- A DMA event for a thread that runs is counted. -/
theorem dmaEvent_ready {n : Nat} (h : threadState s n = thReady) : dmaEvent s n = s.countSat RLY_THCTX.dma_ev 1 n := by
  have hstate : threadState (s.countSat RLY_THCTX.dma_ev 1 n) n = thReady :=
    (State.rd_countSat_apart _ _ _ _ _ _ (by decide)).trans h
  rw [dmaEvent, h, if_neg (by decide), wakeIfReady]
  split
  · rw [if_neg]
    rw [hstate]
    exact fun hwait => absurd hwait.1 (by decide)
  · rfl

@[simp] theorem msixEntry_updMsix_same (s : State) (f v : Nat) (g : MsixEntry → MsixEntry) :
    msixEntry (updMsix s f v g) f v = g (msixEntry s f v) := Map.get_upd_same s.hif.msix _ g

/-- A vector requested of a masked function stays pending in its table, and nothing is put on the link (R771). -/
theorem requestVector_masked {f v : Nat} (hvec : v < vectorCount s f) (hlive : fnLive s f = true)
    (hen : (fnSt s f).msixEn = true) (hmask : (fnSt s f).fnMask = true) :
    requestVector s f v = updMsix s f v fun e => { e with pending := true } := by
  simp [requestVector, Nat.not_le.mpr hvec, hlive, hen, hmask]

end Instructions

/-- Settles O36: each instruction has its effect on the channel that is about to execute it, and the channel goes on. -/
theorem chainInstructionsWaitsAndSignals : Obligations.ChainInstructionsWaitsAndSignals := by
  unfold Obligations.ChainInstructionsWaitsAndSignals
  refine ⟨?move, ?loopAgain, ?loopDone, ?waitUntil, ?waitDuration, ?waitSem, ?passSem, ?expiry, ?write, ?sem, ?thread, ?msix,
    ?hurdle, fun s c k x m hrun hinstr hm => exec_chainMove_at hrun hinstr hm,
    fun s c k x hrun hinstr hcount => exec_chainLoop_done hrun hinstr hcount,
    fun s c k x hrun hinstr hkind => exec_dmaWaitUntil_begins hrun hinstr hkind,
    fun s c k x hrun hinstr hkind => exec_dmaWaitDuration_begins hrun hinstr hkind,
    fun s c k x hrun hinstr hkind hsem => exec_dmaWaitSemaphore_begins hrun hinstr hkind hsem,
    fun s c k x hrun hinstr hkind hsem => exec_dmaWaitSemaphore_passes hrun hinstr hkind hsem,
    fun s c tt hrun hon hwait htime hdue => exec_dmaWaitExpiry_until hrun hon hwait htime hdue,
    fun s c o hrun hon hwait hsem => exec_dmaWaitExpiry_semaphore hrun hon hwait hsem,
    fun s c tt hrun hon hwait hsem htime hdue => exec_dmaWaitExpiry_timeout hrun hon hwait hsem htime hdue,
    ?flushWrite, ?flushSem, ?flushThread, ?flushMsix,
    fun s t c k x hrun hinstr hkind hvis hspace hdone => exec_signalWrite_visible hrun hinstr hkind hvis hspace hdone,
    ?semDone, ?semShut, fun s c k x hrun hinstr hkind hvis hmay => exec_signalThread_visible hrun hinstr hkind hvis hmay,
    ?msixDone, ?msixShut, ?hurdleDone, ?hurdleWaits⟩
  case move =>
    intro s c b k x m hrun hinstr hblock hm hperm hlen
    obtain ⟨hc, hstate, hslot, -, -⟩ := instrOf_some hinstr
    refine ⟨_, exec_chainMove_at (m := m) hrun hinstr (by rw [hblock]; exact hm), ?_⟩
    rw [hperm, if_neg Bool.false_ne_true, if_neg hlen]
    have hregs : (noteDest (s.wr DMA_CHAN.retries 0 c) c m).regs = (s.wr DMA_CHAN.retries 0 c).regs := by
      unfold noteDest
      split <;> rfl
    have hkeep : let t := noteDest (s.wr DMA_CHAN.retries 0 c) c m
        t.mem = s.mem ∧ t.hostMem = s.hostMem ∧ t.links = s.links ∧ t.queues = (noteDest s c m).queues := by
      have hchan : chan (s.wr DMA_CHAN.retries 0 c) c = chan s c := chan_congr (by simp) c
      unfold noteDest
      rw [hchan]
      split <;> simp [updEntry, updQueue]
    obtain ⟨hmem, hhost, hlinks, hqueues⟩ := hkeep
    refine ⟨?_, ?_, ?_, ?_, hqueues, hmem, hhost, hlinks⟩
    · rw [chan_updChan_same]
    · refine (State.rd_congr hregs _ _ _).trans (State.rd_wr_same _ _ _ _ _ ?_)
      simp [Desc.has, DMA_CHAN.retries, hc]
    · exact ((State.rd_congr hregs _ _ _).trans (State.rd_wr_apart _ _ _ _ _ _ (by decide))).trans hslot
    · exact ((State.rd_congr hregs _ _ _).trans (State.rd_wr_apart _ _ _ _ _ _ (by decide))).trans hstate
  case loopAgain => exact fun s c k x hrun hinstr hcount => exec_chainLoop_again hrun hinstr hcount
  case loopDone =>
    intro s c k x hrun hinstr hcount hk
    rw [exec_chainLoop_done hrun hinstr hcount, goTo_slot (by omega)]
  case waitUntil =>
    intro s c k x hrun hinstr hkind
    exact ⟨_, exec_dmaWaitUntil_begins hrun hinstr hkind, beginWait_view _ (instrOf_some hinstr).1⟩
  case waitDuration =>
    intro s c k x hrun hinstr hkind
    exact ⟨_, exec_dmaWaitDuration_begins hrun hinstr hkind, beginWait_view _ (instrOf_some hinstr).1⟩
  case waitSem =>
    intro s c k x hrun hinstr hkind hsem
    exact ⟨_, exec_dmaWaitSemaphore_begins hrun hinstr hkind hsem, beginWait_view _ (instrOf_some hinstr).1⟩
  case passSem =>
    intro s c k x hrun hinstr hkind hsem hk
    rw [exec_dmaWaitSemaphore_passes hrun hinstr hkind hsem, goTo_slot (by omega)]
  case expiry =>
    intro s c tt hrun hon hc hwait htime hdue hfirst hslot
    refine ⟨_, exec_dmaWaitExpiry_until hrun hon hwait htime hdue, ?_⟩
    rw [applyFirst_none _ _ _ hfirst, endWait, goTo_slot (by omega)]
    refine ⟨?_, ?_, ?_, by simp [setChState], by simp [setChState], by simp [setChState]⟩
    · rw [chan_congr (State.wr_dma _ _ _ _ _), chan_updChan_same]
    · rw [chState, State.rd_wr_apart _ _ _ _ _ _ (by decide)]
      exact chState_setChState hc (by decide)
    · rw [rd_slot_wr hc, Nat.mod_eq_of_lt (by omega)]
  case write =>
    intro s c k x hrun hinstr hkind hint hvis hallowed hrange hplain hk
    obtain ⟨hc, -, hslot, -, -⟩ := instrOf_some hinstr
    have hlen : (leBytes 4 (bitsAt x 32 32)).length = 4 := leBytes_length 4 _
    obtain ⟨hareas, hmem, hhost, -⟩ := chargeLines_keeps s c (bitsAt x 64 64) 4 true
    obtain ⟨hbytes, -, hkeep, hother⟩ := areaStore_ram (s := chargeLines s c (bitsAt x 64 64) 4 true) (g := bitsAt x 64 64)
      (bs := leBytes 4 (bitsAt x 32 32)) (by rw [hlen, placed_of_areas hareas, hplain])
    rw [hlen] at hbytes hother
    have hmemLoad (t : State) (v a n : Nat) : memLoad (t.wr DMA_CHAN.slot v c) a n = memLoad t a n := by
      rw [memLoad, State.wr_mem, memLoad]
    refine ⟨_, exec_signalWrite_visible hrun hinstr hkind hvis (.inr ⟨hallowed, hrange⟩) (by rw [hint]; rfl), ?_⟩
    rw [hlen, nextInstr_slot (k := k) _ hk]
    · refine ⟨(hmemLoad _ _ _ _).trans hbytes, by rw [rd_slot_wr hc, Nat.mod_eq_of_lt (by omega)], (State.wr_hostMem _ _ _ _ _).trans (hkeep.trans hhost),
        fun a ha => ((hmemLoad _ _ _ _).trans (hother a ha)).trans (congrArg (loadBytes · a 1) hmem)⟩
    · rw [areaStore_plain _ _ _ (by rw [hlen, placed_of_areas hareas, hplain]), rd_memStore _ _ _ _ _ (by decide) (by decide)
        (by decide), rd_chargeLines _ _ _ _ _ _ _ (by decide)]
      exact hslot
  case sem =>
    intro s c k x hrun hinstr hkind hvis hallowed hk
    obtain ⟨-, -, hslot, -, -⟩ := instrOf_some hinstr
    rw [exec_signalSem_visible hrun hinstr hkind hvis, hallowed, if_pos rfl,
      nextInstr_slot ((State.rd_countSat_apart _ _ _ _ _ _ (by decide)).trans hslot) hk]
  case thread =>
    intro s c k x hrun hinstr hkind hvis hrelay hready hk
    obtain ⟨-, -, hslot, -, -⟩ := instrOf_some hinstr
    rw [exec_signalThread_visible hrun hinstr hkind hvis (.inl hrelay), dmaEvent_ready hready,
      nextInstr_slot ((State.rd_countSat_apart _ _ _ _ _ _ (by decide)).trans hslot) hk]
  case msix =>
    intro s c k x hrun hinstr hkind hvis hvec hfree hlive hen hmask hk
    obtain ⟨hc, -, hslot, -, -⟩ := instrOf_some hinstr
    refine ⟨_, exec_signalMsix_visible hrun hinstr hkind hvis, ?_⟩
    rw [if_neg (Nat.not_le.mpr hvec), publish_free _ _ hfree, doPublish, requestVector_masked hvec hlive hen hmask,
      nextInstr_slot (k := k) (t := updMsix _ _ _ _) hslot hk]
    refine ⟨?_, by rw [rd_slot_wr hc, Nat.mod_eq_of_lt (by omega)], by simp, by simp, by simp, by simp⟩
    rw [msixEntry, State.wr_hif, ← msixEntry, msixEntry_updMsix_same]
  case hurdle =>
    intro s c k x hrun hinstr hvis hk
    obtain ⟨-, -, hslot, -, -⟩ := instrOf_some hinstr
    rw [exec_dmaHurdle_at hrun hinstr, hvis, if_pos rfl, nextInstr_slot hslot hk]
  case flushWrite => exact fun s c k x hrun hinstr hkind hvis => run_signal_waits hrun hinstr hkind hvis
  case flushSem => exact fun s c k x hrun hinstr hkind hvis => run_signal_waits hrun hinstr hkind hvis
  case flushThread => exact fun s c k x hrun hinstr hkind hvis => run_signal_waits hrun hinstr hkind hvis
  case flushMsix => exact fun s c k x hrun hinstr hkind hvis => run_signal_waits hrun hinstr hkind hvis
  case semDone =>
    intro s c k x hrun hinstr hkind hvis hallowed
    rw [exec_signalSem_visible hrun hinstr hkind hvis, hallowed, if_pos rfl]
  case semShut =>
    intro s c k x hrun hinstr hkind hvis hshut
    rw [exec_signalSem_visible hrun hinstr hkind hvis, hshut, if_neg Bool.false_ne_true]
  case msixDone =>
    intro s c k x hrun hinstr hkind hvis hvec
    rw [exec_signalMsix_visible hrun hinstr hkind hvis, if_neg (Nat.not_le.mpr hvec)]
  case msixShut =>
    intro s c k x hrun hinstr hkind hvis hvec
    rw [exec_signalMsix_visible hrun hinstr hkind hvis, if_pos hvec]
  case hurdleDone =>
    intro s c k x hrun hinstr hvis
    rw [exec_dmaHurdle_at hrun hinstr, hvis, if_pos rfl]
  case hurdleWaits =>
    intro s c k x hrun hinstr hvis
    rw [exec_dmaHurdle_at hrun hinstr, hvis, if_neg Bool.false_ne_true]

end Sys2Proof.Machine
end

section
/-! SUPPORT. The segments of a DMA move (R641, R646 to R650, R656), and the obligation O37 that they settle. -/
namespace Sys2Proof.Machine

theorem State.rd_count_member (s : State) {d : Desc} (n : Nat) {i k : Nat} (hstep : 0 < d.s1) (h : k ≠ i) :
    (s.count d n i).rd d k = s.rd d k := State.rd_wr_member s _ hstep h

theorem rd_updChan (s : State) (c : Nat) (f : ChanInt → ChanInt) (d : Desc) (i j : Nat) : (updChan s c f).rd d i j = s.rd d i j :=
  State.rd_congr (updChan_regs s c f) d i j

theorem memLoad_updChan (s : State) (c : Nat) (f : ChanInt → ChanInt) (a n : Nat) : memLoad (updChan s c f) a n = memLoad s a n := by
  rw [memLoad, memLoad, updChan_mem]

section Segment

variable {s : State} {c : Nat}

theorem servedChan_moving {m : DmaMove} (h : servedChan s c = some m) : movingChan s c = some m :=
  (Option.filter_eq_some_iff.mp h).1

/-- A channel whose move goes on is RUNNING and awaits no read-back. -/
theorem movingChan_some {m : DmaMove} (h : movingChan s c = some m) :
    enabled s .dma = true ∧ chState s c = chRunning ∧ (chan s c).move = some m ∧ m.check = false := by
  unfold movingChan at h
  split at h
  · rename_i hready
    obtain ⟨hmove, hcheck⟩ := Option.filter_eq_some_iff.mp h
    simp only [Bool.and_eq_true, decide_eq_true_eq] at hready
    exact ⟨hready.1, hready.2, hmove, by simpa using hcheck⟩
  · exact absurd h (by simp)

/-- The bytes of a chain's move, noted in the entry that the chain belongs to. -/
def noteMoved (s : State) (c : Nat) : State :=
  match (chan s c).owner with
  | some (q, sseq) => updEntry s q sseq fun e => { e with moved := s.rd DMA_CHAN.bytes c }
  | none => s

theorem noteMoved_keeps (s : State) (c : Nat) : let t := noteMoved s c
    t.regs = s.regs ∧ t.dma = s.dma ∧ t.mem = s.mem ∧ t.hostMem = s.hostMem := by
  unfold noteMoved
  split <;> exact ⟨rfl, rfl, rfl, rfl⟩

/-- The registers that count a segment, before its entry takes note. -/
def segmentCounted (s : State) (c n : Nat) : State :=
  updChan ((dmaCount (dmaCount (s.count DMA_CHAN.bytes n c) 0 1) 1 n).wr DMA_CHAN.retries 0 c) c
    fun x => { x with blkBytes := x.blkBytes + n }

theorem countSegment_eq (s : State) (c n : Nat) : countSegment s c n =
    pmc (noteMoved (segmentCounted s c n) c) 0x600 (c / 64) n
      (some (chanAccount (noteMoved (segmentCounted s c n) c) c)) := rfl

theorem dma_countSegment (s : State) (c n : Nat) : (countSegment s c n).dma = (segmentCounted s c n).dma := by
  obtain ⟨-, hdma, -, -⟩ := noteMoved_keeps (segmentCounted s c n) c
  rw [countSegment_eq, pmc_dma, hdma]

theorem chan_segmentCounted (s : State) (c n : Nat) :
    chan (segmentCounted s c n) c = { chan s c with blkBytes := (chan s c).blkBytes + n } := by
  rw [segmentCounted, chan_updChan_same, chan_congr (s := s) (by simp [dmaCount])]

theorem chan_countSegment (s : State) (c n : Nat) :
    chan (countSegment s c n) c = { chan s c with blkBytes := (chan s c).blkBytes + n } :=
  (chan_congr (dma_countSegment s c n) c).trans (chan_segmentCounted s c n)

/-- What the count of a segment leaves in the registers and in memory. -/
theorem countSegment_view (s : State) {c : Nat} (n : Nat) (hc : c < 256) : let t := countSegment s c n
    t.rd DMA_CHAN.bytes c = (s.rd DMA_CHAN.bytes c + n) % 2 ^ 64 ∧ t.rd DMA_CHAN.retries c = 0 ∧
      t.rd DMA_CNT.count 0 = (s.rd DMA_CNT.count 0 + 1) % 2 ^ 64 ∧ t.mem = s.mem ∧ t.hostMem = s.hostMem := by
  obtain ⟨hregs, -, hmem, hhost⟩ := noteMoved_keeps (segmentCounted s c n) c
  have hrd (d : Desc) (i : Nat) (h : PMC_CNT.count.apart d = true) :
      (countSegment s c n).rd d i = (segmentCounted s c n).rd d i := by
    rw [countSegment_eq, rd_pmc _ _ _ _ _ _ _ h, State.rd_congr hregs]
  have hrd' (d : Desc) (i : Nat) (h : DMA_CHAN.retries.apart d = true) :
      (segmentCounted s c n).rd d i = (dmaCount (dmaCount (s.count DMA_CHAN.bytes n c) 0 1) 1 n).rd d i := by
    rw [segmentCounted, State.rd_congr (updChan_regs _ _ _), State.rd_wr_apart _ _ _ _ _ _ h]
  refine ⟨?_, ?_, ?_, ?_, ?_⟩
  · rw [hrd _ _ (by decide), hrd' _ _ (by decide), dmaCount, State.rd_count_apart _ _ _ _ _ _ (by decide), dmaCount,
      State.rd_count_apart _ _ _ _ _ _ (by decide)]
    exact State.rd_count_same _ _ _ _ _ (by simp [Desc.has, DMA_CHAN.bytes, hc])
  · rw [hrd _ _ (by decide), segmentCounted, State.rd_congr (updChan_regs _ _ _)]
    exact State.rd_wr_same _ _ _ _ _ (by simp [Desc.has, DMA_CHAN.retries, hc])
  · rw [hrd _ _ (by decide), hrd' _ _ (by decide), dmaCount, State.rd_count_member _ _ (by decide) (by decide), dmaCount,
      State.rd_count_same _ _ _ _ _ (by decide), State.rd_count_apart _ _ _ _ _ _ (by decide)]
    rfl
  · rw [countSegment_eq, pmc_mem, hmem]
    simp [segmentCounted, dmaCount]
  · rw [countSegment_eq, pmc_hostMem, hhost]
    simp [segmentCounted, dmaCount]

/-- A segment written that is not the last one leaves the move behind it. -/
theorem segmentWritten_goesOn {m : DmaMove} (bs : Bytes) (hend : (chan s c).ending = none)
    (hmore : m.off + segmentLen m < m.len) : segmentWritten s c m bs =
      updChan (countSegment s c (segmentLen m)) c fun x => { x with move := some { m with off := m.off + segmentLen m } } := by
  unfold segmentWritten
  simp only [chan_countSegment, hend, hmore, if_true]

/-- A channel to which internal memory alone is charged is left with its context and registers. -/
theorem noteLink_keeps (s : State) (c : Nat) (move : Bool) : let t := noteLink s c move
    t.regs = s.regs ∧ t.mem = s.mem ∧ t.hostMem = s.hostMem := by
  unfold noteLink
  split
  · exact ⟨rfl, rfl, rfl⟩
  · dsimp only
    split <;> split <;> exact ⟨rfl, rfl, rfl⟩

/-! ### The instructions -/

variable {m : DmaMove} {data : Bytes} {ok : Bool}

theorem exec_dmaSegmentDone_written {t u : State} {bs : Bytes} (hrun : stopped s = false) (hserved : servedChan s c = some m)
    (hread : readSegment s c m data = .data t bs) (hoverlap : moveOverlaps m = false)
    (hwrite : chanWrite t c m.dstInt m.dstAts (m.dst + m.off) bs true = .done u) :
    exec (.dmaSegmentDone c data) s = .next (segmentWritten (passTurn u c) c m bs) := by
  change execDmaSegmentDone c data s = _
  rw [execDmaSegmentDone, run_running s _ hrun]
  simp only [hserved, hread, hoverlap, hwrite, Bool.false_eq_true, if_false]

theorem exec_dmaSegmentDone_bad (hrun : stopped s = false) (hserved : servedChan s c = some m)
    (hread : readSegment s c m data = .bad) : exec (.dmaSegmentDone c data) s = .next (endChannel
      (updChan (detFailed s) c fun x => { x with move := none, fault := faultPlace m.src }) c 6) := by
  change execDmaSegmentDone c data s = _
  rw [execDmaSegmentDone, run_running s _ hrun]
  simp only [hserved, hread]

theorem exec_dmaSegmentDone_fails (hrun : stopped s = false) (hserved : servedChan s c = some m)
    (hread : readSegment s c m data = .fails) : exec (.dmaSegmentDone c data) s = .next (segmentFailed s c) := by
  change execDmaSegmentDone c data s = _
  rw [execDmaSegmentDone, run_running s _ hrun]
  simp only [hserved, hread]

theorem exec_dmaSegmentFail_host (hrun : stopped s = false) (hmoving : movingChan s c = some m)
    (hhost : m.srcInt = false ∨ m.dstInt = false) : exec (.dmaSegmentFail c) s = .next (segmentFailed s c) := by
  have hinternal : (m.srcInt && m.dstInt) = false := by rcases hhost with h | h <;> simp [h]
  change execDmaSegmentFail c s = _
  rw [execDmaSegmentFail, run_running s _ hrun]
  simp only [hmoving, hinternal, Bool.false_eq_true, if_false]

/-- A segment between internal addresses with good codes is read whole. -/
theorem readSegment_internal (hint : m.srcInt = true) (hgood : memBad s (m.src + m.off) (segmentLen m) = false)
    (hplain : placed s (m.src + m.off) (segmentLen m) = false) : readSegment s c m data =
      .data (chargeLines s c (m.src + m.off) (segmentLen m) false) (memLoad s (m.src + m.off) (segmentLen m)) := by
  simp only [readSegment, hint, hgood, areaLoad_plain hplain, Bool.false_eq_true, if_true, if_false]

section ReadBack

theorem exec_verifyReadbackDone_compared (hrun : stopped s = false) (hon : enabled s .dma = true)
    (hstate : chState s c = chRunning) (hmove : (chan s c).move = some m) (hcheck : m.check = true)
    (hgood : m.dstInt = false ∨ memBad s (m.dst + m.len - m.last.length) m.last.length = false) :
    exec (.verifyReadbackDone c ok data) s = .next (
      if (m.dstInt || ok) && (lastRead s c m data).1 = m.last then endMove (lastRead s c m data).2 c
      else segmentFailed (undoLast (if m.dstInt || ok then dmaCount (lastRead s c m data).2 5 1
        else (lastRead s c m data).2) c m) c) := by
  have hread : (m.dstInt && memBad s (m.dst + m.len - m.last.length) m.last.length) = false := by
    rcases hgood with h | h <;> simp [h]
  change execVerifyReadbackDone c ok data s = _
  rw [execVerifyReadbackDone, run_running s _ hrun]
  simp only [hmove, hcheck, hstate, hon, hread, Bool.not_true, Bool.or_false, decide_not, decide_true,
    Bool.false_eq_true, if_false, ne_eq]

theorem exec_verifyReadbackDone_bad (hrun : stopped s = false) (hon : enabled s .dma = true)
    (hstate : chState s c = chRunning) (hmove : (chan s c).move = some m) (hcheck : m.check = true) (hint : m.dstInt = true)
    (hbad : memBad s (m.dst + m.len - m.last.length) m.last.length = true) : exec (.verifyReadbackDone c ok data) s =
      .next (endChannel (updChan (detFailed s) c fun x => { x with move := none, fault := faultPlace m.dst }) c 6) := by
  change execVerifyReadbackDone c ok data s = _
  rw [execVerifyReadbackDone, run_running s _ hrun]
  simp only [hmove, hcheck, hstate, hon, hint, hbad, Bool.not_true, Bool.or_false, decide_not, decide_true,
    Bool.and_self, Bool.false_eq_true, if_false, if_true, ne_eq]

end ReadBack

/-- The failure of a segment or a fetch with retries left is counted. -/
def failureCounted (s : State) (c : Nat) : State :=
  updChan (dmaCount ((faultTaken s (chanFn s c)).wr DMA_CHAN.retries (s.rd DMA_CHAN.retries c + 1) c) 2 1) c
    fun x => { x with blkRetries := x.blkRetries + 1 }

/-- A segment that failed with retries left is repeated. -/
theorem segmentFailed_repeats (hend : (chan s c).ending = none) (hretry : s.rd DMA_CHAN.retries c < s.rd DMA_CFG.retry_max) :
    segmentFailed s c = pmc (failureCounted s c) 0x601 (c / 64) 1 (some (chanAccount (failureCounted s c) c)) := by
  rw [segmentFailed, hend]
  exact if_neg (Nat.not_le.mpr hretry)

theorem chan_failureCounted (s : State) (c : Nat) :
    chan (failureCounted s c) c = { chan s c with blkRetries := (chan s c).blkRetries + 1 } := by
  rw [failureCounted, chan_updChan_same, chan_congr (s := s)]
  rw [dmaCount, State.count_dma, State.wr_dma]
  rfl

theorem failureCounted_view (s : State) {c : Nat} (hc : c < 256) (hfits : s.rd DMA_CHAN.retries c < 7) :
    let t := failureCounted s c
    t.rd DMA_CHAN.retries c = s.rd DMA_CHAN.retries c + 1 ∧ t.rd DMA_CNT.count 2 = (s.rd DMA_CNT.count 2 + 1) % 2 ^ 64 ∧
      chState t c = chState s c ∧ t.mem = s.mem ∧ t.hostMem = s.hostMem ∧ t.links = s.links := by
  have hregs := updChan_regs (dmaCount ((faultTaken s (chanFn s c)).wr DMA_CHAN.retries (s.rd DMA_CHAN.retries c + 1) c) 2 1) c
    fun x => { x with blkRetries := x.blkRetries + 1 }
  have hfault : (faultTaken s (chanFn s c)).regs = s.regs := rfl
  refine ⟨?_, ?_, ?_, ?_, ?_, ?_⟩
  · rw [failureCounted, State.rd_congr hregs, dmaCount, State.rd_count_apart _ _ _ _ _ _ (by decide),
      State.rd_wr_same _ _ _ _ _ (by simp [Desc.has, DMA_CHAN.retries, hc])]
    exact Nat.mod_eq_of_lt (show _ < 2 ^ 3 by omega)
  · rw [failureCounted, State.rd_congr hregs, dmaCount, State.rd_count_same _ _ _ _ _ (by decide),
      State.rd_wr_apart _ _ _ _ _ _ (by decide), State.rd_congr hfault]
    rfl
  · rw [chState, failureCounted, State.rd_congr hregs, dmaCount, State.rd_count_apart _ _ _ _ _ _ (by decide),
      State.rd_wr_apart _ _ _ _ _ _ (by decide), State.rd_congr hfault, chState]
  all_goals simp [failureCounted, dmaCount, faultTaken]

/-- The lines of a channel's access are charged beside the queues and the links. -/
theorem chargeLines_beside (s : State) (c a n : Nat) (write : Bool) : let t := chargeLines s c a n write
    t.queues = s.queues ∧ t.links = s.links :=
  ⟨foldl_frame State.queues _ (fun t i => by split <;> simp) _ _, foldl_frame State.links _ (fun t i => by split <;> simp) _ _⟩

/-! ### A copy within internal memory -/

/-- The bytes of a segment charged, read and stored. -/
def internalCopy (s : State) (c src dst n : Nat) : State :=
  areaStore (chargeLines (chargeLines s c src n false) c dst (memLoad s src n).length true) dst (memLoad s src n)

theorem internalCopy_view (s : State) (c src dst n : Nat) (hplain : placed s dst n = false) : let t := internalCopy s c src dst n
    memLoad t dst n = memLoad s src n ∧ t.dma = s.dma ∧ t.hostMem = s.hostMem ∧
      ∀ a, (a < dst ∨ dst + n ≤ a) → memLoad t a 1 = memLoad s a 1 := by
  have hlen : (memLoad s src n).length = n := loadBytes_length _ _ _
  obtain ⟨hareas, hmem, hhost, hdma⟩ := chargeLines_keeps s c src n false
  obtain ⟨hareas', hmem', hhost', hdma'⟩ :=
    chargeLines_keeps (chargeLines s c src n false) c dst (memLoad s src n).length true
  have hplain' : placed (chargeLines (chargeLines s c src n false) c dst (memLoad s src n).length true) dst
      (memLoad s src n).length = false := by
    rw [placed_of_areas (hareas'.trans hareas), hlen, hplain]
  obtain ⟨hbytes, -, hkeep, hother⟩ := areaStore_ram hplain'
  have hdma'' := congrArg State.dma (areaStore_plain _ dst (memLoad s src n) hplain')
  rw [memStore_dma] at hdma''
  rw [hlen] at hbytes
  refine ⟨by rw [internalCopy, hlen, hbytes], (hdma''.trans hdma').trans hdma, (hkeep.trans hhost').trans hhost,
    fun a ha => (hother a (by rwa [hlen])).trans (congrArg (loadBytes · a 1) (hmem'.trans hmem))⟩

theorem rd_internalCopy (s : State) (c src dst n : Nat) (hplain : placed s dst n = false) {d : Desc} (i : Nat)
    (hpmc : PMC_CNT.count.apart d = true) (hbit : IRQ_SRC.asserted.apart d = true)
    (hbad : IRQ_MSIX_BAD.count.apart d = true) (hdet : DEV_DET_COUNT.failed.apart d = true) :
    (internalCopy s c src dst n).rd d i = s.rd d i := by
  obtain ⟨hareas, -, -, -⟩ := chargeLines_keeps s c src n false
  obtain ⟨hareas', -, -, -⟩ := chargeLines_keeps (chargeLines s c src n false) c dst (memLoad s src n).length true
  rw [internalCopy, areaStore_plain, rd_memStore _ _ _ _ _ hbit hbad hdet, rd_chargeLines _ _ _ _ _ _ _ hpmc,
    rd_chargeLines _ _ _ _ _ _ _ hpmc]
  rw [placed_of_areas (hareas'.trans hareas), memLoad, loadBytes_length, hplain]

/-- A move done leaves the channel at the slot behind it. -/
theorem endMove_goesOn (hend : (chan s c).ending = none) (hcopy : (chan s c).copy = false) (hslot : s.rd DMA_CHAN.slot c < 5) :
    endMove s c = (updChan s c fun x => { x with move := none }).wr DMA_CHAN.slot (s.rd DMA_CHAN.slot c + 2) c := by
  unfold endMove
  simp only [chan_updChan_same, hend, hcopy, Bool.false_eq_true, if_false, State.rd_congr (updChan_regs _ _ _)]
  exact goTo_slot (by omega)

end Segment

/-- Settles O37: a segment is read from its source and written at its destination, and the move goes on behind it. -/
theorem movesGoSegmentBySegment : Obligations.MovesGoSegmentBySegment := by
  unfold Obligations.MovesGoSegmentBySegment
  refine ⟨?copied, ?repeated, ?readBack,
    fun s t c m data bs u hrun hserved hread hoverlap hwrite => exec_dmaSegmentDone_written hrun hserved hread hoverlap hwrite,
    fun s c m data hrun hserved hread => exec_dmaSegmentDone_bad hrun hserved hread,
    fun s c m data hrun hserved hread => exec_dmaSegmentDone_fails hrun hserved hread,
    fun s c m hrun hmoving hhost => exec_dmaSegmentFail_host hrun hmoving hhost, ?equal, ?differs, ?hostFails,
    fun s c m ok data hrun hon hstate hmove hcheck hint hbad =>
      exec_verifyReadbackDone_bad hrun hon hstate hmove hcheck hint hbad⟩
  case copied =>
    intro s c m hrun hc hserved hend hsrc hdst hgood hsplain hdplain hoverlap hmore
    obtain ⟨hbytes, hdma, hhost, hother⟩ := internalCopy_view s c (m.src + m.off) (m.dst + m.off) (segmentLen m) hdplain
    have hrd := fun {d : Desc} => rd_internalCopy s c (m.src + m.off) (m.dst + m.off) (segmentLen m) hdplain (d := d)
    generalize hu : internalCopy s c (m.src + m.off) (m.dst + m.off) (segmentLen m) = u at hbytes hdma hhost hother hrd
    have hchan : chan (passTurn u c) c = chan s c := by
      change Map.get u.dma.chans c = _
      rw [hdma, chan]
    have hpass (d : Desc) (i : Nat) : (passTurn u c).rd d i = u.rd d i := State.rd_congr rfl _ _ _
    obtain ⟨hcount, hretries, hsegments, hmem, hhost'⟩ := countSegment_view (passTurn u c) (segmentLen m) hc
    have hload (a k : Nat) : memLoad (countSegment (passTurn u c) c (segmentLen m)) a k = memLoad u a k := by
      rw [memLoad, hmem]
      rfl
    refine ⟨_, exec_dmaSegmentDone_written (u := u) hrun hserved (readSegment_internal hsrc hgood hsplain) hoverlap
      (by rw [hdst, ← hu]; rfl), ?_⟩
    rw [segmentWritten_goesOn _ (by rw [hchan]; exact hend) hmore, rd_updChan, rd_updChan, rd_updChan, chan_updChan_same,
      hcount, hsegments, hretries, hpass, hpass, hrd c (by decide) (by decide) (by decide) (by decide),
      hrd 0 (by decide) (by decide) (by decide) (by decide), updChan_hostMem, hhost']
    simp only [memLoad_updChan, hload]
    exact ⟨hbytes, trivial, trivial, trivial, trivial, hhost, hother⟩
  case repeated =>
    intro s c m hrun hc hmoving hend hhost hretry hfits
    obtain ⟨-, hstate, hmove, -⟩ := movingChan_some hmoving
    obtain ⟨hretries, hcount, hkept, hmem, hhostMem, hlinks⟩ := failureCounted_view s hc hfits
    have hchan := chan_failureCounted s c
    refine ⟨_, exec_dmaSegmentFail_host hrun hmoving (.inl hhost), ?_⟩
    rw [segmentFailed_repeats hend hretry, rd_pmc _ _ _ _ _ _ _ (by decide), rd_pmc _ _ _ _ _ _ _ (by decide),
      chan_congr (pmc_dma _ _ _ _ _), hchan, chState, rd_pmc _ _ _ _ _ _ _ (by decide), pmc_mem, pmc_hostMem, pmc_links]
    exact ⟨hretries, hcount, hmove, rfl, hkept.trans hstate, hmem, hhostMem, hlinks⟩
  case readBack =>
    intro s c m ok data hrun hon hc hstate hmove hcheck hint hgood hplain hlast hend hcopy hslot
    obtain ⟨-, hmem, hhost, hdma⟩ := chargeLines_keeps s c (m.dst + m.len - m.last.length) m.last.length false
    obtain ⟨hqueues, hlinks⟩ := chargeLines_beside s c (m.dst + m.len - m.last.length) m.last.length false
    have hread : lastRead s c m data = (m.last, chargeLines s c (m.dst + m.len - m.last.length) m.last.length false) := by
      simp only [lastRead, hint, areaLoad_plain hplain, hlast, if_true]
    have hrd {d : Desc} := rd_chargeLines s c (m.dst + m.len - m.last.length) m.last.length false c 0 (e := d)
    generalize chargeLines s c (m.dst + m.len - m.last.length) m.last.length false = t at hmem hhost hdma hqueues hlinks hread hrd
    have hchan : chan t c = chan s c := chan_congr hdma c
    refine ⟨_, exec_verifyReadbackDone_compared hrun hon hstate hmove hcheck (.inr hgood), ?_⟩
    rw [hread, hint, if_pos (by simp), endMove_goesOn (by rw [hchan]; exact hend) (by rw [hchan]; exact hcopy)
      (by rw [hrd (by decide)]; exact hslot), hrd (by decide)]
    refine ⟨?_, ?_, ?_, ?_, ?_, ?_, ?_⟩
    · rw [chan_congr (State.wr_dma _ _ _ _ _), chan_updChan_same]
    · rw [rd_slot_wr hc, Nat.mod_eq_of_lt (by omega)]
    · rw [chState, State.rd_wr_apart _ _ _ _ _ _ (by decide)]
      exact (hrd (by decide)).trans hstate
    · rw [State.wr_queues, updChan_queues, hqueues]
    · rw [State.wr_mem, updChan_mem, hmem]
    · rw [State.wr_hostMem, updChan_hostMem, hhost]
    · rw [State.wr_links, updChan_links, hlinks]
  case equal =>
    intro s c m ok data hrun hon hstate hmove hcheck hgood hok hlast
    have hread : (m.dstInt || ok) = true := by rcases hok with h | h <;> simp [h]
    rw [exec_verifyReadbackDone_compared hrun hon hstate hmove hcheck hgood, hread, hlast]
    simp
  case differs =>
    intro s c m ok data hrun hon hstate hmove hcheck hgood hok hlast
    have hread : (m.dstInt || ok) = true := by rcases hok with h | h <;> simp [h]
    rw [exec_verifyReadbackDone_compared hrun hon hstate hmove hcheck hgood, hread]
    simp [hlast]
  case hostFails =>
    intro s c m data hrun hon hstate hmove hcheck hint
    rw [exec_verifyReadbackDone_compared hrun hon hstate hmove hcheck (.inl hint), hint]
    simp

end Sys2Proof.Machine
end

section
/-! SUPPORT. The passes of a pipeline (R303 to R305, R327 to R332, R339 to R341), and the obligation O19 that they settle. -/
namespace Sys2Proof.Machine

/-! ### What the stages of a pass leave -/

/-- The parts of a state that the stages of a pass leave: the packets, host memory, and the cipher engine. -/
def passView (s : State) : PpState × Map Byte × CipState := (s.pp, s.hostMem, s.cip)

@[simp] theorem passView_activity (s : State) (d k e n acct : Nat) : passView (activity s d k e n acct) = passView s := by
  simp [passView]

@[simp] theorem passView_pmc (s : State) (event inst amount : Nat) (acct : Option Nat) :
    passView (pmc s event inst amount acct) = passView s := by simp [passView]

@[simp] theorem passView_g6Access (s : State) (a acct : Nat) (write : Bool) : passView (g6Access s a write acct) = passView s := by
  simp [passView]

@[simp] theorem passView_sramAccess (s : State) (n acct : Nat) : passView (sramAccess s n acct) = passView s := by
  simp [passView]

@[simp] theorem passView_memStore (s : State) (a : Nat) (bs : Bytes) : passView (memStore s a bs) = passView s := by
  simp [passView]

@[simp] theorem passView_detFailed (s : State) : passView (detFailed s) = passView s := by simp [passView]

@[simp] theorem passView_raise (s : State) (n : Nat) : passView (raise s n) = passView s := by simp [passView]

@[simp] theorem passView_wr (s : State) (d : Desc) (v i j : Nat) : passView (s.wr d v i j) = passView s := by simp [passView]

@[simp] theorem passView_count (s : State) (d : Desc) (n i j : Nat) : passView (s.count d n i j) = passView s := by
  simp [passView]

@[simp] theorem passView_countSat (s : State) (d : Desc) (n i j : Nat) : passView (s.countSat d n i j) = passView s := by
  simp [passView]

@[simp] theorem passView_ft (s : State) (x : FtState) : passView { s with ft := x } = passView s := rfl

@[simp] theorem passView_tm (s : State) (x : TmState) : passView { s with tm := x } = passView s := rfl

@[simp] theorem passView_poison (s : State) (x : List Nat) : passView { s with poison := x } = passView s := rfl

/-- A pair's state keeps the view where an operation of the stages keeps it. -/
theorem passView_foldl {α β : Type} (f : State × β → α → State × β) (h : ∀ x a, passView (f x a).1 = passView x.1) (l : List α)
    (x : State × β) : passView (l.foldl f x).1 = passView x.1 := by
  induction l generalizing x with
  | nil => rfl
  | cons a l ih => rw [List.foldl_cons, ih, h]

@[simp] theorem passView_chargeEntry (s : State) (t a : Nat) : passView (chargeEntry s t a) = passView s := by
  unfold chargeEntry
  dsimp only
  split
  · exact foldl_frame passView _ (fun u i => passView_g6Access u _ _ _) _ _
  · exact passView_sramAccess _ _ _

@[simp] theorem passView_clearEntry (s : State) (t c b e : Nat) : passView (clearEntry s t c b e) = passView s := by
  unfold clearEntry
  dsimp only
  split
  · simp [countEntries, storeEntry]
  · rfl

@[simp] theorem passView_syncLost (s : State) : passView (syncLost s) = passView s := by
  unfold syncLost
  split <;> simp

@[simp] theorem passView_pushLost (s : State) (t c b : Nat) : passView (pushLost s t c b) = passView s := by
  unfold pushLost
  dsimp only
  split <;> simp

@[simp] theorem passView_loseBadLines (s : State) (t c lo n : Nat) : passView (loseBadLines s t c lo n) = passView s :=
  foldl_frame passView _ (fun u l => by simp [loseTableLine]) _ _

@[simp] theorem passView_readBuckets (s : State) (t c key acct : Nat) : passView (readBuckets s t c key acct) = passView s := by
  have hcharge (bb : Nat × Nat) : passView (chargeBuckets s t c acct bb) = passView s := by
    unfold chargeBuckets
    split
    · exact foldl_frame passView _ (fun u b => foldl_frame passView _ (fun v i => passView_g6Access v _ _ _) _ _) _ _
    · exact passView_sramAccess _ _ _
  simp [readBuckets, hcharge]

@[simp] theorem passView_emLookup (s : State) (pipe t klen key acct : Nat) :
    passView (emLookup s pipe t klen key acct).1 = passView s := by
  unfold emLookup
  dsimp only
  split
  · simp
  · split
    · simp only [apply_ite passView, passView_ft, passView_pmc, passView_readBuckets, ite_self]
    · simp

@[simp] theorem passView_learnRequest (s : State) (pipe t key data : Nat) :
    passView (learnRequest s pipe t key data) = passView s := by
  unfold learnRequest
  split
  · rfl
  · split
    · simp
    · split <;> simp

@[simp] theorem passView_meterApply (s : State) (m len incoming acct : Nat) :
    passView (meterApply s m len incoming acct).2 = passView s := by
  unfold meterApply
  dsimp only
  split <;> simp only [passView_g6Access, passView_tm]

@[simp] theorem passView_ledgerAccess (s : State) (o n : Nat) (write : Bool) (acct : Nat) :
    passView (ledgerAccess s o n write acct) = passView s :=
  foldl_frame passView _ (fun t _ => passView_g6Access t _ _ _) _ _

@[simp] theorem passView_countFlow (s : State) (pipe i len acct : Nat) : passView (countFlow s pipe i len acct) = passView s := by
  unfold countFlow putFlow ledgerStore
  dsimp only
  split <;> simp

@[simp] theorem passView_recordEdit (s : State) (pipe : Nat) (p : Pass) (e : Edit) :
    passView (recordEdit s pipe p e).1 = passView s := by
  unfold recordEdit
  split
  · exact passView_count _ _ _ _ _
  · rfl

@[simp] theorem passView_decTtl (s : State) (pipe : Nat) (p : Pass) (e : Edit) :
    passView (decTtl s pipe p e).1 = passView s := by
  unfold decTtl
  dsimp only
  split
  · exact passView_count _ _ _ _ _
  · split
    · simp
    · split
      · split <;> simp
      · simp

@[simp] theorem passView_runInstr (pipe n key code p q value imm data : Nat) (x : State × Pass) :
    passView (runInstr pipe n key code p q value imm data x).1 = passView x.1 := by
  have hcipher (a b : Pass) (late : Bool) : passView (if late then (pipeCount x.1 pipe 9, a) else (x.1, b)).1 = passView x.1 := by
    split
    · exact passView_count _ _ _ _ _
    · rfl
  unfold runInstr
  extract_lets s a m info edit late
  split
  case h_11 => rw [passView_meterApply]
  case h_12 => rw [passView_countFlow]
  case h_14 => rw [passView_decTtl]
  case h_15 | h_16 | h_17 | h_18 | h_19 | h_20 => rw [passView_recordEdit]
  case h_21 | h_22 => rw [hcipher]
  case h_23 => rw [passView_learnRequest]
  all_goals rfl

@[simp] theorem passView_runAction (pipe n key id data : Nat) (x : State × Pass) :
    passView (runAction pipe n key id data x).1 = passView x.1 :=
  passView_foldl _ (fun x _ => passView_runInstr _ _ _ _ _ _ _ _ _ x) _ x

@[simp] theorem passView_runResult (pipe n key miss : Nat) (r : Option (Nat × Nat)) (x : State × Pass) :
    passView (runResult pipe n key miss r x).1 = passView x.1 := by
  unfold runResult
  split <;> simp

@[simp] theorem passView_runStage (pipe : Nat) (x : State × Pass) (n : Nat) :
    passView (runStage pipe x n).1 = passView x.1 := by
  have hlookup (s : State) (en tab klen key acct : Nat) :
      passView (if en = 0 then (s, none) else emLookup s pipe tab klen key acct).1 = passView s := by
    split <;> simp
  have hresult (c : Nat) (key miss : Nat) (r : Option (Nat × Nat)) (y : State × Pass) :
      passView (if c = 0 then y else runResult pipe n key miss r y).1 = passView y.1 := by
    split <;> simp
  unfold runStage
  dsimp only
  split
  · rfl
  · split <;> simp only [passView_runAction, hresult, hlookup]

theorem passView_runStages (pipe a b : Nat) (x : State × Pass) : passView (runStages pipe a b x).1 = passView x.1 := by
  refine passView_foldl _ (fun x n => ?_) _ x
  dsimp only
  rw [passView_runStage]
  dsimp only
  split <;> simp

theorem passView_advancePass (s : State) (pipe : Nat) (p : Pass) : passView (advancePass s pipe p).1 = passView s := by
  unfold advancePass
  dsimp only
  split
  · exact passView_runStages _ _ _ _
  · split
    · exact (passView_runStages _ _ _ _).trans (passView_runStages _ _ _ _)
    · split
      · exact (passView_count _ _ _ _ _).trans (passView_runStages _ _ _ _)
      · exact passView_runStages _ _ _ _

/-! ### A packet enters -/

section Entering

variable {s : State} {pipe : Nat}

/-- The place of an input among the counters of a pipeline (R358). -/
def inputCounter : Nat → Nat
  | 0 => 1
  | 1 => 2
  | 2 => 3
  | 3 => 4
  | _ => 5

/-- The entry of a packet, counted. -/
def entryCounted (s : State) (pipe source acct : Nat) : State :=
  pmc (pipeCount (pipeCount s pipe 0) pipe (inputCounter source)) 0x200 pipe 1 (some acct)

/-- The pass of a packet before its parse. -/
def newPass (s : State) (pipe source : Nat) (w : Waiting) : Pass :=
  { pkt := { w.pkt with info := entryMeta s pipe source w.pkt.info }
    orig := { w.pkt with info := entryMeta s pipe source w.pkt.info }, stage := min w.stage 12, live := liveFields s }

/-- The pass of a packet when it has run to the cipher point or the deparser, and the state that this leaves. -/
def passRun (s : State) (pipe : Nat) (w : Waiting) (p : Pass) : State × Pass :=
  let q := if w.reparse then parsePass s pipe p else unparsedPass s pipe p
  if q.stage = 12 then (s, q) else advancePass s pipe q

theorem startPass_eq (s : State) (pipe source : Nat) (w : Waiting) :
    let x := passRun (entryCounted s pipe source (entryMeta s pipe source w.pkt.info).account) pipe w (newPass s pipe source w)
    startPass s pipe source w = { x.1 with pp := { x.1.pp with passes := Map.upd x.1.pp.passes pipe fun l => l ++ [x.2] } } := rfl

theorem passView_passRun (s : State) (pipe : Nat) (w : Waiting) (p : Pass) : passView (passRun s pipe w p).1 = passView s := by
  have hrun (q : Pass) : passView (if q.stage = 12 then (s, q) else advancePass s pipe q).1 = passView s := by
    split
    · rfl
    · exact passView_advancePass s pipe q
  exact hrun _

theorem passView_entryCounted (s : State) (pipe source acct : Nat) : passView (entryCounted s pipe source acct) = passView s := by
  simp only [entryCounted, passView_pmc, pipeCount, passView_count]

/-- A packet's pass joins the passes in flight of its pipeline, and nothing else of the packets changes. -/
theorem startPass_pp (s : State) (pipe source : Nat) (w : Waiting) : ∃ p,
    (startPass s pipe source w).pp = { s.pp with passes := Map.upd s.pp.passes pipe fun l => l ++ [p] } ∧
      (startPass s pipe source w).hostMem = s.hostMem := by
  have hview := (passView_passRun (entryCounted s pipe source (entryMeta s pipe source w.pkt.info).account) pipe w
    (newPass s pipe source w)).trans (passView_entryCounted _ _ _ _)
  have hpp : (passRun (entryCounted s pipe source (entryMeta s pipe source w.pkt.info).account) pipe w
    (newPass s pipe source w)).1.pp = s.pp := congrArg Prod.fst hview
  refine ⟨(passRun (entryCounted s pipe source (entryMeta s pipe source w.pkt.info).account) pipe w
    (newPass s pipe source w)).2, ?_, congrArg (fun v => v.2.1) hview⟩
  rw [startPass_eq, hpp]

/-- The cycle of a packet that takes the slot. -/
theorem exec_passEnter_takes {t : State} {src : Nat} {w : Waiting} {rest : List Waiting} (hrun : stopped s = false)
    (hpipe : pipe < 2) (hon : enabled s .pp = true) (hslot : slotInput s pipe = some (src, t))
    (hwait : inputOf t pipe src = w :: rest) : exec (.passEnter pipe) s = .next (pipeCycle (startPass
      { t with pp := { t.pp with inputs := Map.set t.pp.inputs (inKey pipe src) rest } } pipe src w) pipe) := by
  change execPassEnter pipe s = _
  rw [execPassEnter, run_running s _ hrun]
  simp only [Nat.not_le.mpr hpipe, hon, hslot, hwait, decide_false, Bool.not_true, Bool.or_self, Bool.false_eq_true, if_false]

theorem exec_passEnter_idle (hrun : stopped s = false) (hpipe : pipe < 2) (hon : enabled s .pp = true)
    (hslot : slotInput s pipe = none) : exec (.passEnter pipe) s = .next (pipeCycle (pmc s 0x201 pipe 1 none) pipe) := by
  change execPassEnter pipe s = _
  rw [execPassEnter, run_running s _ hrun]
  simp only [Nat.not_le.mpr hpipe, hon, hslot, decide_false, Bool.not_true, Bool.or_self, Bool.false_eq_true, if_false]

theorem exec_passEnter_off (hrun : stopped s = false) (hoff : enabled s .pp = false) :
    exec (.passEnter pipe) s = .next s := by
  change execPassEnter pipe s = _
  rw [execPassEnter, run_running s _ hrun]
  simp only [hoff, Bool.not_false, Bool.or_true, if_true]

/-- The port input comes before all others (R304). -/
theorem slotInput_port (h : inputOf s pipe 0 ≠ []) : slotInput s pipe = some (0, s) := by
  simp [slotInput, h]

/-- The only input with a packet takes the slot, and its turn is noted (R304). -/
theorem slotInput_reinjection {x : Waiting} (h0 : inputOf s pipe 0 = []) (h1 : inputOf s pipe 1 = [])
    (h2 : inputOf s pipe 2 = []) (h3 : inputOf s pipe 3 = [x]) (h4 : inputOf s pipe 4 = []) :
    ∃ credits, slotInput s pipe = some (3, { s with pp := { s.pp with
      turn := Map.set s.pp.turn pipe 3, credits := credits } }) := by
  have hbusy : (sharedInputs s pipe).filter (fun y => !(inputOf s pipe y.1).isEmpty) = [(3, max 1 (s.rd PP_ARB.w_rly pipe))] := by
    simp [sharedInputs, h1, h3, h4]
  have hshared : slotInput s pipe = shareSlot s pipe := by simp [slotInput, h0, h2]
  rw [hshared]
  unfold shareSlot
  simp only [hbusy, List.filter_cons, List.filter_nil]
  by_cases hopen : Map.get s.pp.credits (inKey pipe 3) < max 1 (s.rd PP_ARB.w_rly pipe) <;>
    by_cases hturn : Map.get s.pp.turn pipe < 3 <;> simp [hopen, hturn]

/-- What the program says of a layer type is beside the counters of a pipeline. -/
theorem layerKind_entryCounted (s : State) (pipe source acct bank ty : Nat) :
    layerKind (entryCounted s pipe source acct) bank pipe ty = layerKind s bank pipe ty := by
  have hrd (d : Desc) (i j : Nat) (hpmc : PMC_CNT.count.apart d = true) (hcnt : PP_PIPE_CNT.count.apart d = true) :
      (entryCounted s pipe source acct).rd d i j = s.rd d i j := by
    rw [entryCounted, rd_pmc _ _ _ _ _ _ _ hpmc, pipeCount, State.rd_count_apart _ _ _ _ _ _ hcnt, pipeCount,
      State.rd_count_apart _ _ _ _ _ _ hcnt]
  have hpp : (entryCounted s pipe source acct).pp = s.pp := congrArg Prod.fst (passView_entryCounted s pipe source acct)
  have hprog (d : Desc) (i j : Nat) (hpmc : PMC_CNT.count.apart d = true) (hcnt : PP_PIPE_CNT.count.apart d = true) :
      prog (entryCounted s pipe source acct) bank d i j = prog s bank d i j := by
    rw [prog, prog, hrd _ _ _ (by decide) (by decide), hrd _ _ _ hpmc hcnt, hpp]
  unfold layerKind
  simp (disch := decide) only [hprog]

theorem unparsedPass_entryCounted (s : State) (pipe source acct : Nat) (p : Pass) :
    unparsedPass (entryCounted s pipe source acct) pipe p = unparsedPass s pipe p := by
  simp only [unparsedPass, layerKind_entryCounted]

theorem stage_unparsedPass (s : State) (pipe : Nat) (p : Pass) : (unparsedPass s pipe p).stage = p.stage := by
  unfold unparsedPass
  dsimp only
  split <;> rfl

/-- A packet that goes straight to the deparser without a parse. -/
theorem startPass_unparsed (s : State) (pipe source : Nat) (x : Packet) :
    startPass s pipe source ⟨x, 12, false⟩ =
      let t := entryCounted s pipe source (entryMeta s pipe source x.info).account
      { t with pp := { t.pp with passes := Map.upd t.pp.passes pipe fun l =>
          l ++ [unparsedPass s pipe (newPass s pipe source ⟨x, 12, false⟩)] } } := by
  have hstage (t : State) : (unparsedPass t pipe (newPass s pipe source ⟨x, 12, false⟩)).stage = 12 := stage_unparsedPass _ _ _
  rw [startPass_eq]
  simp only [passRun, Bool.false_eq_true, if_false, hstage, if_true, unparsedPass_entryCounted]

/-- A counter of a pipeline leaves its other counters. -/
theorem rd_pipeCnt_other (s : State) (k pipe : Nat) {n m : Nat} (h : m ≠ n) :
    (s.count PP_PIPE_CNT.count k pipe n).rd PP_PIPE_CNT.count pipe m = s.rd PP_PIPE_CNT.count pipe m :=
  State.rd_count_other _ _ _ _ _ _ _ _ (by simp only [Desc.key, PP_PIPE_CNT.count]; omega)

theorem rd_pipeCycle (s : State) (pipe : Nat) (d : Desc) (i j : Nat) : (pipeCycle s pipe).rd d i j = s.rd d i j :=
  State.rd_congr rfl _ _ _

/-- What the entry of a packet that goes straight to the deparser leaves. -/
theorem startPass_unparsed_view (s : State) {pipe : Nat} (x : Packet) (hpipe : pipe < 2) :
    let t := startPass s pipe 3 ⟨x, 12, false⟩
    t.pp = { s.pp with passes := Map.upd s.pp.passes pipe fun l => l ++ [unparsedPass s pipe (newPass s pipe 3 ⟨x, 12, false⟩)] } ∧
      t.rd PP_PIPE_CNT.count pipe 0 = (s.rd PP_PIPE_CNT.count pipe 0 + 1) % 2 ^ 64 ∧
      t.rd PP_PIPE_CNT.count pipe 4 = (s.rd PP_PIPE_CNT.count pipe 4 + 1) % 2 ^ 64 ∧ t.mem = s.mem ∧
      t.hostMem = s.hostMem ∧ t.links = s.links := by
  have hpp (n : Nat) : (entryCounted s pipe 3 n).pp = s.pp := congrArg Prod.fst (passView_entryCounted s pipe 3 n)
  rw [startPass_unparsed]
  refine ⟨?_, ?_, ?_, ?_, ?_, ?_⟩
  · dsimp only
    rw [hpp]
  · refine (State.rd_congr (s := entryCounted s pipe 3 (entryMeta s pipe 3 x.info).account) rfl _ _ _).trans ?_
    rw [entryCounted, rd_pmc _ _ _ _ _ _ _ (by decide), pipeCount, rd_pipeCnt_other _ _ _ (by decide)]
    exact State.rd_count_same _ _ _ _ _ (by simp [Desc.has, PP_PIPE_CNT.count, hpipe])
  · refine (State.rd_congr (s := entryCounted s pipe 3 (entryMeta s pipe 3 x.info).account) rfl _ _ _).trans ?_
    rw [entryCounted, rd_pmc _ _ _ _ _ _ _ (by decide), pipeCount]
    refine (State.rd_count_same _ _ _ _ _ (by simp [Desc.has, PP_PIPE_CNT.count, hpipe, inputCounter])).trans ?_
    rw [pipeCount, inputCounter, rd_pipeCnt_other _ _ _ (by decide)]
    rfl
  all_goals simp [entryCounted, pipeCount]

end Entering

/-! ### A pass leaves -/

section Leaving

variable {s : State} {pipe : Nat} {p : Pass} {rest : List Pass}

/-- A pipeline without its oldest pass. -/
def passGone (s : State) (pipe : Nat) (rest : List Pass) : State :=
  { s with pp := { s.pp with passes := Map.set s.pp.passes pipe rest } }

theorem exec_passEnd_early (hrun : stopped s = false) (hpass : Map.get s.pp.passes pipe = p :: rest) (hstage : p.stage < 12) :
    exec (.passEnd pipe) s = .next s := by
  change execPassEnd pipe s = _
  rw [execPassEnd, run_running s _ hrun]
  simp only [hpass, hstage, if_true]

theorem exec_passEnd_delivered {t : State} (hrun : stopped s = false) (hpass : Map.get s.pp.passes pipe = p :: rest)
    (hstage : 12 ≤ p.stage) (hdiv : diverted p (fateOf pipe p) = false)
    (hgoes : (match fateOf pipe p with | .drop => false | .lost => false | .noDest => false | .reasonDrop _ => false | _ => true) = true)
    (hfate : takeFate (grown (passGone s pipe rest) (deparsed s pipe p).1).1 pipe (fateOf pipe p)
      (grown (passGone s pipe rest) (deparsed s pipe p).1).2 = .inl t) :
    exec (.passEnd pipe) s = .next (checkDrained (mirrorPoint pipe 0 p.pkt.info.mirrorMask p.live p.orig
      (mirrorPoint pipe 1 p.pkt.info.mirrorMask p.live (deparsed s pipe p).1
        (t.count PP_PIPE_CNT.count (deparsed s pipe p).2 pipe 9))) pipe) := by
  change execPassEnd pipe s = _
  rw [execPassEnd, run_running s _ hrun]
  simp only [hpass, Nat.not_lt.mpr hstage, if_false]
  cases hf : fateOf pipe p <;> rw [hf] at hdiv hgoes hfate <;> unfold passGone at hfate
  case drop | lost | reasonDrop | noDest => exact absurd hgoes Bool.false_ne_true
  all_goals simp [hdiv, hfate]

theorem exec_passEnd_dropped {t : State} (hrun : stopped s = false) (hpass : Map.get s.pp.passes pipe = p :: rest)
    (hstage : 12 ≤ p.stage) (hdiv : diverted p (fateOf pipe p) = false) {r : Nat}
    (hdrop : fateOf pipe p = .drop ∨ fateOf pipe p = .lost ∨ fateOf pipe p = .noDest ∨ fateOf pipe p = .reasonDrop r)
    (hfate : takeFate (passGone s pipe rest) pipe (fateOf pipe p) (deparsed s pipe p).1 = .inl t) :
    exec (.passEnd pipe) s = .next (checkDrained (mirrorPoint pipe 0 p.pkt.info.mirrorMask p.live p.orig
      (t.count PP_PIPE_CNT.count (deparsed s pipe p).2 pipe 9)) pipe) := by
  change execPassEnd pipe s = _
  rw [execPassEnd, run_running s _ hrun]
  unfold passGone at hfate
  rcases hdrop with h | h | h | h <;> simp_all [Nat.not_lt.mpr hstage]

theorem exec_passEnd_diverted (hrun : stopped s = false) (hpass : Map.get s.pp.passes pipe = p :: rest)
    (hstage : 12 ≤ p.stage) (hdiv : diverted p (fateOf pipe p) = true) :
    exec (.passEnd pipe) s = .next (checkDrained (mirrorPoint pipe 0 p.pkt.info.mirrorMask p.live p.orig
      ((freeHandle (pipeCount (passGone s pipe rest) pipe 6) (deparsed s pipe p).1.info.handle).count PP_PIPE_CNT.count
        (deparsed s pipe p).2 pipe 9)) pipe) := by
  change execPassEnd pipe s = _
  rw [execPassEnd, run_running s _ hrun]
  simp only [hpass, Nat.not_lt.mpr hstage, hdiv, if_false, Bool.or_true, Bool.true_or, if_true]
  rfl

/-- A pass without copies to make asks for none. -/
theorem mirrorPoint_none (pipe point : Nat) (live : Map Nat) (x : Packet) (s : State) :
    mirrorPoint pipe point 0 live x s = s := by
  have hnone : ((List.range 16).filter fun m => (0 : Nat).testBit m && decide (liveAt live PP_MIRROR.point m = point)
      && decide (liveAt live PP_MIRROR.valid m ≠ 0) && decide (liveAt live PP_MIRROR.kind m ≠ 3)) = [] :=
    List.filter_eq_nil_iff.mpr fun m _ => by
      rw [Nat.zero_testBit, Bool.false_and, Bool.false_and, Bool.false_and]
      exact Bool.false_ne_true
  rw [mirrorPoint, hnone, List.foldl_nil]

/-- The parts of a state that the lines of a packet and the pauses of a port are no part of. -/
def besideLines (s : State) : List (Nat × Packet) × Map (List Pass) × Map (List Waiting) × Map Byte × Map Byte × List LinkItem :=
  (s.pp.toTrn, s.pp.passes, s.pp.inputs, s.mem, s.hostMem, s.links)

theorem besideLines_pauseCheck (s : State) (p : Nat) : besideLines (pauseCheck s p) = besideLines s := by
  have hmark (t : State) (q : Nat) (paused : Bool) : besideLines (markPause t p q paused) = besideLines t := by
    simp [besideLines, markPause]
  unfold pauseCheck
  split
  · refine foldl_frame besideLines _ (fun t q => ?_) _ _
    unfold pauseStep
    dsimp only
    split
    · exact hmark t q true
    · split
      · exact hmark t q false
      · rfl
  · rfl

/-- The longer run of lines that a packet takes changes the held lines and the pauses alone. -/
theorem besideLines_grown (s : State) (x : Packet) : besideLines (grown s x).1 = besideLines s := by
  unfold grown
  split
  · rfl
  · rename_i r hseat
    unfold reseat at hseat
    split at hseat
    · obtain rfl := Option.some.inj hseat
      rfl
    · rename_i h hhold
      dsimp only at hseat
      split at hseat
      · obtain rfl := Option.some.inj hseat
        rfl
      · split at hseat
        · exact absurd hseat (by simp)
        · obtain rfl := Option.some.inj hseat
          dsimp only
          split
          · rfl
          · exact (besideLines_pauseCheck _ _).trans rfl

theorem checkDrained_keeps (s : State) (pipe : Nat) : let t := checkDrained s pipe
    t.pp = s.pp ∧ t.mem = s.mem ∧ t.hostMem = s.hostMem ∧ t.links = s.links := by
  unfold checkDrained
  split <;> simp

theorem rd_checkDrained (s : State) (pipe : Nat) {d : Desc} (i j : Nat) (hdrain : PP_PROG_STAT.draining.apart d = true)
    (hcopy : PP_PROG_STAT.copying.apart d = true) : (checkDrained s pipe).rd d i j = s.rd d i j := by
  unfold checkDrained
  split
  · rw [State.rd_wr_apart _ _ _ _ _ _ hcopy, State.rd_wr_apart _ _ _ _ _ _ hdrain]
  · rfl

end Leaving

/-- Settles O19: the input that the round of the slot chooses gives its oldest packet, whose pass joins those in flight; the
oldest pass at the end of its deparser leaves by its fate. -/
theorem passesThroughAPipeline : Obligations.PassesThroughAPipeline := by
  unfold Obligations.PassesThroughAPipeline
  refine ⟨?port, fun s t pipe src w rest hrun hpipe hon hslot hwait => exec_passEnter_takes hrun hpipe hon hslot hwait,
    ?reinjected, fun s pipe hrun hpipe hon hslot => exec_passEnter_idle hrun hpipe hon hslot,
    fun s pipe hrun hoff => exec_passEnter_off hrun hoff, ?trallasy, ?noDest,
    fun s t pipe p rest hrun hpass hstage hdiv hgoes hfate => exec_passEnd_delivered hrun hpass hstage hdiv hgoes hfate,
    fun s t pipe p rest hrun hpass hstage hdiv hdrop hfate => exec_passEnd_dropped hrun hpass hstage hdiv hdrop hfate,
    fun s pipe p rest hrun hpass hstage hdiv => exec_passEnd_diverted hrun hpass hstage hdiv,
    fun s pipe p rest hrun hpass hstage => exec_passEnd_early hrun hpass hstage⟩
  case port =>
    intro s pipe w rest hrun hpipe hon hwait
    obtain ⟨p, hpp, hhost⟩ := startPass_pp { s with pp := { s.pp with inputs := Map.set s.pp.inputs (inKey pipe 0) rest } } pipe 0 w
    refine ⟨_, exec_passEnter_takes hrun hpipe hon (slotInput_port (by simp [hwait])) hwait, ?_⟩
    unfold pipeCycle inputOf
    simp only [hpp, hhost, Map.get_upd_same, Map.get_set_same, List.length_append, List.length_singleton, List.take_left']
    simp
  case reinjected =>
    intro s pipe x hrun hpipe hon h0 h1 h2 h3 h4
    obtain ⟨credits, hslot⟩ := slotInput_reinjection h0 h1 h2 h3 h4
    refine ⟨_, exec_passEnter_takes hrun hpipe hon hslot h3, ?_⟩
    let r : State := { s with pp := { s.pp with
      turn := Map.set s.pp.turn pipe 3, credits := credits, inputs := Map.set s.pp.inputs (inKey pipe 3) [] } }
    obtain ⟨hpp, hslots, hgiven, hmem, hhost, hlinks⟩ := startPass_unparsed_view r x hpipe
    have hr (n : Nat) : r.rd PP_PIPE_CNT.count pipe n = s.rd PP_PIPE_CNT.count pipe n := State.rd_congr rfl _ _ _
    rw [rd_pipeCycle, rd_pipeCycle, hslots, hgiven, hr, hr]
    unfold pipeCycle inputOf
    dsimp only
    rw [hpp]
    refine ⟨?_, Map.get_set_same s.pp.inputs (inKey pipe 3) [], rfl, rfl, hmem, hhost, hlinks⟩
    change Map.get (Map.upd s.pp.passes pipe fun l => l ++ [_]) pipe = _
    rw [Map.get_upd_same]
    rfl
  case trallasy =>
    intro s pipe p rest hrun hpipe hpass hstage hfate hmask
    have hview := besideLines_grown (passGone s pipe rest) (deparsed s pipe p).1
    simp only [besideLines, Prod.mk.injEq] at hview
    obtain ⟨htrn, hpasses, hinputs, hmem, hhost, hlinks⟩ := hview
    refine ⟨_, exec_passEnd_delivered hrun hpass hstage (by rw [hfate]; simp [diverted]) (by rw [hfate]) (by rw [hfate]; rfl), ?_⟩
    rw [hmask, mirrorPoint_none, mirrorPoint_none]
    obtain ⟨hpp, hmem', hhost', hlinks'⟩ := checkDrained_keeps (State.count { (grown (passGone s pipe rest) (deparsed s pipe p).1).1
      with pp := { (grown (passGone s pipe rest) (deparsed s pipe p).1).1.pp with
        toTrn := (grown (passGone s pipe rest) (deparsed s pipe p).1).1.pp.toTrn ++
          [(pipe, (grown (passGone s pipe rest) (deparsed s pipe p).1).2)] } }
      PP_PIPE_CNT.count (deparsed s pipe p).2 pipe 9) pipe
    rw [hpp, hmem', hhost', hlinks', State.count_pp, State.count_mem, State.count_hostMem, State.count_links]
    dsimp only
    rw [htrn, hpasses, hinputs, hmem, hhost, hlinks]
    exact ⟨rfl, Map.get_set_same _ _ _, rfl, rfl, rfl, rfl⟩
  case noDest =>
    intro s pipe p rest hrun hpipe hpass hstage hfate hmask hholds
    refine ⟨_, exec_passEnd_dropped (r := 0) hrun hpass hstage (by rw [hfate]; simp [diverted]) (by simp [hfate])
      (by rw [hfate]; rfl), ?_⟩
    rw [hmask, mirrorPoint_none]
    have hhandle : (deparsed s pipe p).1.info.handle = p.pkt.info.handle := by
      unfold deparsed
      split <;> rfl
    have hfree : freeHandle (pipeCount (passGone s pipe rest) pipe 10) p.pkt.info.handle =
        { pipeCount (passGone s pipe rest) pipe 10 with
          pp := { (pipeCount (passGone s pipe rest) pipe 10).pp with holds := [] } } := by
      have hheld : (pipeCount (passGone s pipe rest) pipe 10).pp.holds = [⟨p.pkt.info.handle, 3, none, 0, []⟩] := by
        rw [pipeCount, State.count_pp]
        exact hholds
      simp [freeHandle, holdOf, hheld]
    rw [hhandle, hfree]
    generalize hu : ({ pipeCount (passGone s pipe rest) pipe 10 with
      pp := { (pipeCount (passGone s pipe rest) pipe 10).pp with holds := [] } } : State) = u
    obtain ⟨hpp, hmem, hhost, hlinks⟩ := checkDrained_keeps (u.count PP_PIPE_CNT.count (deparsed s pipe p).2 pipe 9) pipe
    have hcount : u.rd PP_PIPE_CNT.count pipe 10 = (s.rd PP_PIPE_CNT.count pipe 10 + 1) % 2 ^ 64 := by
      rw [← hu]
      exact State.rd_count_same (passGone s pipe rest) PP_PIPE_CNT.count 1 pipe 10 (by simp [Desc.has, PP_PIPE_CNT.count, hpipe])
    have hupp : u.pp = { s.pp with passes := Map.set s.pp.passes pipe rest, holds := [] } := by
      rw [← hu, pipeCount, State.count_pp]
      rfl
    rw [hpp, hmem, hhost, hlinks, State.count_pp, State.count_mem, State.count_hostMem, State.count_links, hupp,
      rd_checkDrained _ _ _ _ (by decide) (by decide), rd_pipeCnt_other _ _ _ (by decide), hcount]
    refine ⟨rfl, Map.get_set_same _ _ _, rfl, rfl, rfl, ?_, ?_, ?_⟩ <;> rw [← hu] <;> simp [pipeCount, passGone]

end Sys2Proof.Machine
end

section
/-! SUPPORT. A sequence number inferred beyond 64 bits is taken modulo 2^64 by the slot: the refutation of O22. -/
namespace Sys2Proof.Machine

/-- An inbound ESP slot of AES-GCM-128 with the key 0 and extended sequence numbers: limit 99, spi 7, and seq the greatest number
of 64 bits. -/
def lastNumberSlot : Nat := 1 + 2 ^ 4 + 2 ^ 7 + 99 * 2 ^ 64 + 7 * 2 ^ 128 + (2 ^ 64 - 1) * 2 ^ 192

/-- A packet under that slot with the low number 5, whose ICV is the one of the number 2^64 + 5, and whose text is empty behind
an IPv4 trailer. -/
def wrappedFrame : Bytes :=
  List.replicate 34 0 ++ beBytes 4 7 ++ beBytes 4 5 ++ List.replicate 8 0 ++ [3, 140] ++
    [14, 69, 1, 98, 182, 3, 61, 249, 168, 130, 187, 167, 212, 162, 8, 208]

/-- The pass of that packet at the cipher point. -/
def wrappedPass : Pass :=
  { pkt := { frame := wrappedFrame, info := { layers := [(14, 9)] } }, orig := {}, stage := 3, esp := some (.decrypt 5 4),
    ipStop := some 34, ipOff := 14 }

/-- A device whose pipeline 1 holds that pass, with the slot at 5. -/
def wrappedDevice : State :=
  let s := { State.reset with
    areas := { key := 1 }
    cip := { slots := [(5, lastNumberSlot)] }
    pp := { passes := [(1, [wrappedPass])] } }
  (s.wr (enableField .cip) 1).wr PP_CFG.cipher_after 2 1

/-- Its clocks run. -/
example : stopped wrappedDevice = false := by decide +kernel

/-- The packet passes the checks after the cipher. -/
theorem espAfter_wrapped : espAfter (slotImage wrappedDevice 5) wrappedFrame 34 (2 ^ 64 + 5) = .inr ([], 4) := by decide +kernel

/-- The number of a slot has 64 bits. -/
theorem slotSeq_lt (x : Nat) : slotSeq x < 2 ^ 64 := Nat.mod_lt _ (by decide)

/-- Refutes O22: its second clause has seq of the slot become the packet's number wherever that is the greater. The number that
the model infers with esn for a low number behind the greatest one of 64 bits is 2^64 and more, which no slot can hold. -/
theorem not_inlineEspAtTheCipherPoint : ¬ Obligations.InlineEspAtTheCipherPoint := by
  unfold Obligations.InlineEspAtTheCipherPoint
  rintro ⟨-, hdecrypt, -⟩
  obtain ⟨t, -, -, -, hseq⟩ := hdecrypt wrappedDevice 1 5 4 34 (2 ^ 64 + 5) wrappedPass (by decide +kernel) (by decide +kernel)
    (by decide +kernel) (by decide +kernel) rfl rfl (by decide +kernel) (by decide +kernel) (by decide +kernel)
    (by decide +kernel) (by decide +kernel)
  have htaken : slotSeq (slotImage t 5) = max (2 ^ 64 + 5) (slotSeq (slotImage wrappedDevice 5)) := hseq _ espAfter_wrapped
  have hfits := slotSeq_lt (slotImage t 5)
  omega

end Sys2Proof.Machine
end

section
/-! SUPPORT. What an outcome shows, for refutations by a concrete state; and the refutation of O27: a stamp write is counted by a
performance counter that counts memory accesses. -/
namespace Sys2Proof.Machine

/-- A part of the state that an outcome leaves, where it leaves one. -/
def observed {α : Type} (f : State → α) : Out → Option α
  | .next t => some (f t)
  | _ => none

/-- Two values of a part of the state after one instruction agree. -/
theorem observed_of_exec {α : Type} {f : State → α} {i : Instr} {s t : State} {v : α} (hshown : observed f (exec i s) = some v)
    (hexec : exec i s = .next t) : f t = v := by
  rw [hexec] at hshown
  exact Option.some.inj hshown

/-- An SRAM table with one stale entry and a stamp write for it, while counter 0 counts the accesses to SRAM. -/
def countedStamp : State :=
  let s := { State.reset with
    tt := { tt := 0x5000000 }
    ft := { stamps := [⟨3, 0, 2, 1, 10⟩] } }
  let s := ((s.wr FT_TABLE.valid 1 3).wr FT_TABLE.ready 1 3).wr FT_TABLE.kind 1 3
  let s := (s.wr (enableField .ft) 1).wr (enableField .pmc) 1
  let s := storeEntry s 3 0 2 1 ⟨true, true, 1, 2, 2, 10, 5⟩
  ((s.wr PMC_SEL.event 2 0).wr PMC_SEL.instance 0xFFF 0).wr PMC_SEL.enable 1 0

/-- Its clocks run. -/
example : stopped countedStamp = false := by decide +kernel

/-- The counter has counted the line of the entry. -/
theorem observed_stampWrite : observed (·.rd PMC_CNT.count) (exec (.stampWrite 3 0) countedStamp) = some 1 := by decide +kernel

/-- Refutes O27: its seventh clause has a stamp write leave every register as it was. The write of the entry is an access to SRAM,
which a performance counter that selects such accesses counts (R777). -/
theorem not_flowTableLifeLearningAndAgeing : ¬ Obligations.FlowTableLifeLearningAndAgeing := by
  unfold Obligations.FlowTableLifeLearningAndAgeing
  rintro ⟨-, -, -, -, -, -, hstamp, -⟩
  obtain ⟨t, hexec, -, -, -, -, hregs, -⟩ := hstamp countedStamp 3 2 1 10 (by decide +kernel) (by decide) (by decide +kernel)
    (by decide +kernel) (by decide +kernel) (by decide +kernel) (by decide +kernel) (by decide)
  have hcounted : t.rd PMC_CNT.count = 1 := observed_of_exec observed_stampWrite hexec
  have hkept : t.rd PMC_CNT.count = countedStamp.rd PMC_CNT.count := State.rd_congr hregs _ _ _
  rw [hcounted] at hkept
  exact absurd hkept (by decide +kernel)

end Sys2Proof.Machine
end

section
/-! SUPPORT. A read of a READY connection brings its context up to date with the legs passed (R520): the refutation of O30. -/
namespace Sys2Proof.Machine

/-- Connection 5 READY on chip with a context of the leg at 0, when the leg boundary at 1 ms has passed. -/
def legBehind : State :=
  { State.reset with
    tt := { State.reset.tt with tt := 1000000, lastLeg := 1000000 }
    trn := { State.reset.trn with cache := [(5, some ⟨1, false⟩)] } }

/-- Its clocks run. -/
example : stopped legBehind = false := by decide +kernel

/-- The image that READ shows notes the boundary, so that it is not the one on chip. -/
theorem observed_trnConnRead :
    observed (fun t => decide (t.rd TRN_CCMD_CTX.image = 1 % 2 ^ 2048)) (exec (.trnConnRead (.host 0) 5) legBehind) = some false := by
  decide +kernel

/-- Refutes O30: its third clause has READ show the context as it stands on chip. For a READY connection the legs that have passed
are applied first, so that the whole context is shown at the time of the read (R470, R520). -/
theorem not_connectionCommandsAndTimers : ¬ Obligations.ConnectionCommandsAndTimers := by
  unfold Obligations.ConnectionCommandsAndTimers
  rintro ⟨-, -, hread, -⟩
  obtain ⟨t, hexec, himage, -⟩ := hread legBehind (.host 0) 5 1 (by decide +kernel) (by decide +kernel) (by decide +kernel)
    (by decide) (by decide) (by decide +kernel) (by decide +kernel)
  exact of_decide_eq_false (observed_of_exec observed_trnConnRead hexec) himage

end Sys2Proof.Machine
end

section
/-! SUPPORT. Command ports of the flow tables: what a port's operation is, how it ends, and what it leaves; and the operations on LPM
prefixes (O25). -/
namespace Sys2Proof.Machine

/-! ### A port's operation -/

/-- The operation that a go of a port submits for a copy. -/
def portOp (s : State) (p op c : Nat) (first : Bool) : FtOp :=
  ⟨p, c, op, s.rd FT_CMD.table p, s.rd FT_CMD.key p, s.rd FT_CMD.mask p, s.rd FT_CMD.data p, s.rd FT_CMD.action p, s.rd FT_CMD.arg p,
    s.on FT_CMD.no_evict p, s.on FT_CMD.t_valid p, first⟩

/-- The state in which a port shows the operation that it carries out. -/
def opShown (s : State) (p op : Nat) : State := s.wr FT_CMD.op op p

section Port

variable {s : State} {who : Initiator} {p op : Nat}

theorem rd_opShown {e : Desc} (h : FT_CMD.op.apart e = true) (i j : Nat) : (opShown s p op).rd e i j = s.rd e i j :=
  State.rd_wr_apart s _ _ _ _ _ h

theorem on_opShown {e : Desc} (h : FT_CMD.op.apart e = true) (i j : Nat) : (opShown s p op).on e i j = s.on e i j :=
  State.on_wr_apart s _ _ _ _ _ h

theorem tableLive_opShown (t : Nat) : tableLive (opShown s p op) t = tableLive s t := by
  simp (disch := decide) only [tableLive, on_opShown]

theorem twoCopies_opShown (t : Nat) : twoCopies (opShown s p op) t = twoCopies s t := by
  simp (disch := decide) only [twoCopies, on_opShown, rd_opShown]

@[simp] theorem opShown_ft : (opShown s p op).ft = s.ft := State.wr_ft _ _ _ _ _
@[simp] theorem opShown_mem : (opShown s p op).mem = s.mem := State.wr_mem _ _ _ _ _
@[simp] theorem opShown_hostMem : (opShown s p op).hostMem = s.hostMem := State.wr_hostMem _ _ _ _ _
@[simp] theorem opShown_links : (opShown s p op).links = s.links := State.wr_links _ _ _ _ _

/-- A go of a free port submits its operation to every copy that it addresses. -/
theorem run_ftPort {cs : List Nat} (hrun : stopped s = false) (hp : p < 8) (hw : writable who FT_CMD.go p s = true)
    (hbusy : s.rd FT_CMD.busy p = 0)
    (hcs : cs = addressed (opShown s p op) (s.rd FT_CMD.table p) (s.rd FT_CMD.copies p)) (hsome : cs ≠ []) :
    run s (ftPort who p op) = .next (cs.foldl (fun u c => submitOp u (portOp s p op c (decide (some c = cs.head?)))) (opShown s p op)) := by
  have hempty : cs.isEmpty = false := List.isEmpty_eq_false_iff.mpr hsome
  rw [run_running s _ hrun, ftPort, if_pos hp, ftCommand, setupWrite_writable _ _ _ _ _ _ hw, on_of_rd_zero hbusy]
  simp (disch := decide) only [← opShown.eq_def, rd_opShown, on_opShown, ← hcs, hempty, Bool.false_and, Bool.false_eq_true, if_false]
  rfl

/-- A go of a port that is busy is refused. -/
theorem run_ftPort_busy (hrun : stopped s = false) (hp : p < 8) (hw : writable who FT_CMD.go p s = true)
    (hbusy : s.rd FT_CMD.busy p = 1) : run s (ftPort who p op) = .next (s.wr (lockedWriteField .ft) 1) := by
  rw [run_running s _ hrun, ftPort, if_pos hp, ftCommand, setupWrite_writable _ _ _ _ _ _ hw, on_of_rd_one hbusy, if_pos rfl]

/-- What a port's operation on the only copy of a live table leaves, where no audit walks. -/
def portDone (s : State) (p op : Nat) : State :=
  let o := portOp s p op 0 true
  let x := performOp (opShown s p op) o
  endOp (deltaTable x.1 o) o x.2

theorem run_ftPort_single (hrun : stopped s = false) (hp : p < 8) (hw : writable who FT_CMD.go p s = true)
    (hbusy : s.rd FT_CMD.busy p = 0) (htwo : twoCopies s (s.rd FT_CMD.table p) = false) (hwalk : s.ft.walk = none) :
    run s (ftPort who p op) = .next (portDone s p op) := by
  have hone : [0] = addressed (opShown s p op) (s.rd FT_CMD.table p) (s.rd FT_CMD.copies p) := by
    rw [addressed, twoCopies_opShown, htwo, if_neg (by decide)]
  rw [run_ftPort hrun hp hw hbusy hone (by decide)]
  have hfree : walked (opShown s p op) (s.rd FT_CMD.table p) 0 = false := by simp [walked, hwalk]
  simp only [List.foldl_cons, List.foldl_nil, List.head?_cons, decide_true, submitOp, portOp, hfree, Bool.false_and,
    Bool.false_eq_true, if_false]
  rfl

end Port

/-! ### How an operation ends -/

section Ends

variable {s : State} {o : FtOp} {r : Nat}

theorem deltaTable_frame (s : State) (o : FtOp) : (deltaTable s o).ft = s.ft ∧ (deltaTable s o).mem = s.mem ∧
    (deltaTable s o).hostMem = s.hostMem ∧ (deltaTable s o).links = s.links := by
  unfold deltaTable delta
  split <;> simp

theorem endOp_frame (s : State) (o : FtOp) (r : Nat) : (endOp s o r).ft = s.ft ∧ (endOp s o r).mem = s.mem ∧
    (endOp s o r).hostMem = s.hostMem ∧ (endOp s o r).links = s.links := by
  unfold endOp
  dsimp only
  split <;> simp

theorem rd_deltaTable {e : Desc} (hseq : PAIR_SEQ.pseq.apart e = true) (hcnt : PAIR_CNT.count.apart e = true) (i j : Nat) :
    (deltaTable s o).rd e i j = s.rd e i j := by
  unfold deltaTable delta
  split
  · rw [State.rd_count_apart _ _ _ _ _ _ hcnt, State.rd_wr_apart _ _ _ _ _ _ hseq]
    exact State.rd_congr (s := s) rfl e i j
  · rfl

theorem rd_endOp {e : Desc} (h0 : FT_CMD.result0.apart e = true) (h1 : FT_CMD.result1.apart e = true)
    (hbusy : FT_CMD.busy.apart e = true) (i j : Nat) : (endOp s o r).rd e i j = s.rd e i j := by
  unfold endOp
  dsimp only
  rw [State.rd_wr_apart _ _ _ _ _ _ hbusy]
  split
  · exact State.rd_wr_apart _ _ _ _ _ _ h0
  · exact State.rd_wr_apart _ _ _ _ _ _ h1

theorem rd_endOp_result0 (hport : o.port < 8) (hcopy : o.copy = 0) (hr : r < 8) : (endOp s o r).rd FT_CMD.result0 o.port = r := by
  unfold endOp
  dsimp only
  rw [State.rd_wr_apart _ _ _ _ _ _ (by decide), if_pos hcopy,
    State.rd_wr_same s FT_CMD.result0 r o.port 0 (by simp [Desc.has, FT_CMD.result0, hport])]
  exact Nat.mod_eq_of_lt hr

theorem rd_endOp_busy (hport : o.port < 8) (hwaiting : s.ft.waiting = []) : (endOp s o r).rd FT_CMD.busy o.port = 0 := by
  unfold endOp
  dsimp only
  rw [State.rd_wr_same _ FT_CMD.busy _ o.port 0 (by simp [Desc.has, FT_CMD.busy, hport])]
  split <;> simp [hwaiting, flag]

/-- A port whose operation is done shows its result and is free; the tables, memory and links are as the operation left them. -/
theorem portDone_ends {p op : Nat} {u : State} (hp : p < 8) (hr : r < 8) (hwaiting : u.ft.waiting = [])
    (hperform : performOp (opShown s p op) (portOp s p op 0 true) = (u, r)) :
    (portDone s p op).rd FT_CMD.result0 p = r ∧ (portDone s p op).rd FT_CMD.busy p = 0 ∧ (portDone s p op).ft = u.ft ∧
      (portDone s p op).mem = u.mem ∧ (portDone s p op).hostMem = u.hostMem ∧ (portDone s p op).links = u.links := by
  have hdone : portDone s p op = endOp (deltaTable u (portOp s p op 0 true)) (portOp s p op 0 true) r := by
    rw [portDone, hperform]
  obtain ⟨hft, hmem, hhost, hlinks⟩ := endOp_frame (deltaTable u (portOp s p op 0 true)) (portOp s p op 0 true) r
  obtain ⟨hft', hmem', hhost', hlinks'⟩ := deltaTable_frame u (portOp s p op 0 true)
  rw [hdone]
  exact ⟨rd_endOp_result0 (o := portOp s p op 0 true) hp rfl hr, rd_endOp_busy (o := portOp s p op 0 true) hp (hft' ▸ hwaiting),
    hft.trans hft', hmem.trans hmem', hhost.trans hhost', hlinks.trans hlinks'⟩

/-- A register that ending an operation does not touch is as the operation left it. -/
theorem rd_portDone {p op : Nat} {u : State} {e : Desc} (hperform : performOp (opShown s p op) (portOp s p op 0 true) = (u, r))
    (hseq : PAIR_SEQ.pseq.apart e = true) (hcnt : PAIR_CNT.count.apart e = true) (h0 : FT_CMD.result0.apart e = true)
    (h1 : FT_CMD.result1.apart e = true) (hbusy : FT_CMD.busy.apart e = true) (i j : Nat) :
    (portDone s p op).rd e i j = u.rd e i j := by
  rw [portDone, hperform, rd_endOp h0 h1 hbusy, rd_deltaTable hseq hcnt]

end Ends

/-! ### Operations on LPM prefixes -/

section Lpm

variable {s : State} {who : Initiator} {p op : Nat}

theorem addrBits_opShown (t : Nat) : addrBits (opShown s p op) t = addrBits s t := by
  simp (disch := decide) only [addrBits, on_opShown]

theorem findPrefix_opShown (t addr len : Nat) : findPrefix (opShown s p op) t addr len = findPrefix s t addr len := by
  rw [findPrefix, opShown_ft, findPrefix]

theorem lpmUnits_opShown : lpmUnits (opShown s p op) = lpmUnits s := by
  simp (disch := decide) only [lpmUnits, on_opShown, opShown_ft]

/-- The prefix that a port names, and the one that it would store. -/
def portLength (s : State) (p : Nat) : Nat := bitsAt (s.rd FT_CMD.arg p) 0 8
def portAddr (s : State) (p : Nat) : Nat :=
  prefixAddr (addrBits s (s.rd FT_CMD.table p)) (portLength s p) (lpmAddr s (s.rd FT_CMD.table p) (s.rd FT_CMD.key p))
def portPrefix (s : State) (p : Nat) : LpmPrefix :=
  ⟨s.rd FT_CMD.table p, portAddr s p, portLength s p, s.rd FT_CMD.action p, s.rd FT_CMD.data p % 65536⟩
def portFinds (s : State) (p : Nat) : Option LpmPrefix :=
  findPrefix s (s.rd FT_CMD.table p) (portAddr s p) (portLength s p)

/-- What an operation on a prefix answers, by its code and by the prefix that it finds. -/
def lpmAnswer (s v : State) (p op : Nat) : State × Nat :=
  let t := s.rd FT_CMD.table p
  match op, portFinds s p with
  | 1, some _ => (v, ftExists)
  | 2, none => (v, ftNotFound)
  | 4, none => (v, ftNotFound)
  | 5, none => (v, ftNotFound)
  | 4, some x => (countEntries (dropPrefix v x) t 0 false, ftOk)
  | 5, some x => ((v.wr FT_CMD.action x.action p).wr FT_CMD.data x.result p, ftOk)
  | _, some x => (addPrefix (dropPrefix v x) (portPrefix s p), ftOk)
  | _, none =>
    if 1048576 < lpmUnits s + (if s.on FT_TABLE.af t then 4 else 1) then (v, ftFull)
    else (countEntries (addPrefix v (portPrefix s p)) t 0 true, ftOk)

theorem performOp_lpm (hlive : tableLive s (s.rd FT_CMD.table p) = true) (hkind : s.rd FT_TABLE.kind (s.rd FT_CMD.table p) = 2)
    (hlen : portLength s p ≤ addrBits s (s.rd FT_CMD.table p)) (hop : 1 ≤ op ∧ op ≤ 5) :
    performOp (opShown s p op) (portOp s p op 0 true) = lpmAnswer s (opShown s p op) p op := by
  have hfits : opFits 2 op = true := by simp [opFits, hop.1, hop.2]
  have hword : ¬ op = 7 := by omega
  have hshort : ¬ addrBits s (s.rd FT_CMD.table p) < bitsAt (s.rd FT_CMD.arg p) 0 8 := Nat.not_lt.mpr hlen
  simp (disch := decide) only [performOp, portOp, tableLive_opShown, hlive, rd_opShown, hkind, hfits, hword, Bool.not_true,
    Bool.false_eq_true, if_false]
  simp (disch := decide) only [lpmOp, addrBits_opShown, lpmAddr, hshort, if_false, if_true, lpmUnits_opShown, on_opShown,
    findPrefix_opShown]
  rfl

theorem twoCopies_other {t : Nat} (hkind : s.rd FT_TABLE.kind t ≠ 1) : twoCopies s t = false := by simp [twoCopies, hkind]

variable (hrun : stopped s = false) (hp : p < 8) (hw : writable who FT_CMD.go p s = true) (hbusy : s.rd FT_CMD.busy p = 0)
  (hlive : tableLive s (s.rd FT_CMD.table p) = true) (hwalk : s.ft.walk = none) (hwaiting : s.ft.waiting = [])
  (hkind : s.rd FT_TABLE.kind (s.rd FT_CMD.table p) = 2)

include hrun hp hw hbusy hlive hwalk hwaiting hkind

/-- What a port does to an LPM table, by what its operation answers. -/
theorem run_lpm (hlen : portLength s p ≤ addrBits s (s.rd FT_CMD.table p)) (hop : 1 ≤ op ∧ op ≤ 5) {u : State} {r : Nat}
    (hanswer : lpmAnswer s (opShown s p op) p op = (u, r)) (hr : r < 8) (hkeeps : u.ft.waiting = s.ft.waiting) :
    run s (ftPort who p op) = .next (portDone s p op) ∧ (portDone s p op).rd FT_CMD.result0 p = r ∧
      (portDone s p op).rd FT_CMD.busy p = 0 ∧ (portDone s p op).ft = u.ft ∧ (portDone s p op).mem = u.mem ∧
      (portDone s p op).hostMem = u.hostMem ∧ (portDone s p op).links = u.links := by
  have hperform := (performOp_lpm hlive hkind hlen hop).trans hanswer
  exact ⟨run_ftPort_single hrun hp hw hbusy (twoCopies_other (by rw [hkind]; decide)) hwalk,
    portDone_ends hp hr (hkeeps.trans hwaiting) hperform⟩

end Lpm

end Sys2Proof.Machine
end

section
/-! SUPPORT. What the command ports do to an LPM table (O25). -/
namespace Sys2Proof.Machine

section Answers

variable {s v : State} {p : Nat} {x : LpmPrefix}

theorem countEntries_frame (s : State) (t c : Nat) (up : Bool) : (countEntries s t c up).ft = s.ft ∧
    (countEntries s t c up).mem = s.mem ∧ (countEntries s t c up).hostMem = s.hostMem ∧
    (countEntries s t c up).links = s.links := by
  unfold countEntries
  simp

/-- The store with one more prefix, counted. -/
def prefixAdded (s v : State) (p : Nat) : State :=
  countEntries (addPrefix v (portPrefix s p)) (s.rd FT_CMD.table p) 0 true

theorem lpmAnswer_absent (hfind : portFinds s p = none) (hroom : lpmUnits s + 4 ≤ 1048576) {op : Nat} (hop : op = 1 ∨ op = 3) :
    lpmAnswer s v p op = (prefixAdded s v p, ftOk) := by
  have hfits : ¬ 1048576 < lpmUnits s + (if s.on FT_TABLE.af (s.rd FT_CMD.table p) then 4 else 1) := by split <;> omega
  rcases hop with rfl | rfl <;> simp only [lpmAnswer, hfind, hfits, if_false, prefixAdded]

theorem lpmAnswer_exists (hfind : portFinds s p = some x) : lpmAnswer s v p 1 = (v, ftExists) := by
  simp only [lpmAnswer, hfind]

theorem lpmAnswer_replaced (hfind : portFinds s p = some x) {op : Nat} (hop : op = 2 ∨ op = 3) :
    lpmAnswer s v p op = (addPrefix (dropPrefix v x) (portPrefix s p), ftOk) := by
  rcases hop with rfl | rfl <;> simp only [lpmAnswer, hfind]

theorem lpmAnswer_dropped (hfind : portFinds s p = some x) :
    lpmAnswer s v p 4 = (countEntries (dropPrefix v x) (s.rd FT_CMD.table p) 0 false, ftOk) := by
  simp only [lpmAnswer, hfind]

theorem lpmAnswer_lookup (hfind : portFinds s p = some x) :
    lpmAnswer s v p 5 = ((v.wr FT_CMD.action x.action p).wr FT_CMD.data x.result p, ftOk) := by
  simp only [lpmAnswer, hfind]

/-- WRITE_RESULT on an LPM table stores the record. -/
theorem performOp_result (hlive : tableLive s (s.rd FT_CMD.table p) = true) (hkind : s.rd FT_TABLE.kind (s.rd FT_CMD.table p) = 2) :
    performOp (opShown s p 7) (portOp s p 7 0 true) =
      ({ opShown s p 7 with
          ft := { (opShown s p 7).ft with
            results := Map.set (opShown s p 7).ft.results (s.rd FT_CMD.arg p % 65536) (s.rd FT_CMD.data p) } }, ftOk) := by
  have hfits : opFits 2 7 = true := by decide
  simp (disch := decide) only [performOp, portOp, tableLive_opShown, hlive, rd_opShown, hkind, hfits, Bool.not_true,
    Bool.false_eq_true, if_false, if_true]

end Answers

section Clauses

variable {s : State} {who : Initiator} {p : Nat} {x : LpmPrefix} (hrun : stopped s = false) (hp : p < 8)
  (hw : writable who FT_CMD.go p s = true) (hbusy : s.rd FT_CMD.busy p = 0)
  (hlive : tableLive s (s.rd FT_CMD.table p) = true) (hwalk : s.ft.walk = none) (hwaiting : s.ft.waiting = [])
  (hkind : s.rd FT_TABLE.kind (s.rd FT_CMD.table p) = 2) (hlen : portLength s p ≤ addrBits s (s.rd FT_CMD.table p))

include hrun hp hw hbusy hlive hwalk hwaiting hkind hlen

/-- An absent prefix is added. -/
theorem run_lpm_absent (hfind : portFinds s p = none) (hroom : lpmUnits s + 4 ≤ 1048576) {op : Nat} (hop : op = 1 ∨ op = 3) :
    ∃ t, run s (ftPort who p op) = .next t ∧ t.rd FT_CMD.result0 p = ftOk ∧ t.rd FT_CMD.busy p = 0 ∧
      t.ft.lpm = s.ft.lpm ++ [portPrefix s p] ∧ t.mem = s.mem ∧ t.hostMem = s.hostMem ∧ t.links = s.links := by
  obtain ⟨hft, hmem, hhost, hlinks⟩ :=
    countEntries_frame (addPrefix (opShown s p op) (portPrefix s p)) (s.rd FT_CMD.table p) 0 true
  obtain ⟨hexec, hresult, hfree, hft', hmem', hhost', hlinks'⟩ := run_lpm hrun hp hw hbusy hlive hwalk hwaiting hkind hlen (by omega)
    (lpmAnswer_absent (v := opShown s p op) hfind hroom hop) (by decide)
    (by rw [prefixAdded, hft, addPrefix, opShown_ft])
  refine ⟨_, hexec, hresult, hfree, ?_, (hmem'.trans hmem).trans opShown_mem, (hhost'.trans hhost).trans opShown_hostMem,
    (hlinks'.trans hlinks).trans opShown_links⟩
  rw [hft', prefixAdded, hft, addPrefix, opShown_ft]

/-- A present prefix is replaced. -/
theorem run_lpm_replaced (hfind : portFinds s p = some x) {op : Nat} (hop : op = 2 ∨ op = 3) :
    ∃ t, run s (ftPort who p op) = .next t ∧ t.rd FT_CMD.result0 p = ftOk ∧ t.rd FT_CMD.busy p = 0 ∧
      t.ft.lpm = (s.ft.lpm.filter fun y => decide (y ≠ x)) ++ [portPrefix s p] ∧ t.mem = s.mem ∧ t.hostMem = s.hostMem ∧
      t.links = s.links := by
  obtain ⟨hexec, hresult, hfree, hft, hmem, hhost, hlinks⟩ := run_lpm hrun hp hw hbusy hlive hwalk hwaiting hkind hlen (by omega)
    (lpmAnswer_replaced (v := opShown s p op) hfind hop) (by decide) (by rw [addPrefix, dropPrefix, opShown_ft])
  refine ⟨_, hexec, hresult, hfree, ?_, hmem.trans opShown_mem, hhost.trans opShown_hostMem, hlinks.trans opShown_links⟩
  rw [hft, addPrefix, dropPrefix, opShown_ft]

/-- INSERT of a present prefix changes nothing. -/
theorem run_lpm_exists (hfind : portFinds s p = some x) :
    ∃ t, run s (ftPort who p 1) = .next t ∧ t.rd FT_CMD.result0 p = ftExists ∧ t.ft.lpm = s.ft.lpm ∧ t.mem = s.mem ∧
      t.hostMem = s.hostMem ∧ t.links = s.links := by
  obtain ⟨hexec, hresult, -, hft, hmem, hhost, hlinks⟩ := run_lpm hrun hp hw hbusy hlive hwalk hwaiting hkind hlen (by omega)
    (lpmAnswer_exists (v := opShown s p 1) hfind) (by decide) (by rw [opShown_ft])
  exact ⟨_, hexec, hresult, by rw [hft, opShown_ft], hmem.trans opShown_mem, hhost.trans opShown_hostMem, hlinks.trans opShown_links⟩

/-- DELETE removes a present prefix. -/
theorem run_lpm_dropped (hfind : portFinds s p = some x) :
    ∃ t, run s (ftPort who p 4) = .next t ∧ t.rd FT_CMD.result0 p = ftOk ∧ t.rd FT_CMD.busy p = 0 ∧
      t.ft.lpm = (s.ft.lpm.filter fun y => decide (y ≠ x)) ∧ t.mem = s.mem ∧ t.hostMem = s.hostMem ∧ t.links = s.links := by
  obtain ⟨hft, hmem, hhost, hlinks⟩ := countEntries_frame (dropPrefix (opShown s p 4) x) (s.rd FT_CMD.table p) 0 false
  obtain ⟨hexec, hresult, hfree, hft', hmem', hhost', hlinks'⟩ := run_lpm hrun hp hw hbusy hlive hwalk hwaiting hkind hlen (by omega)
    (lpmAnswer_dropped (v := opShown s p 4) hfind) (by decide) (by rw [hft, dropPrefix, opShown_ft])
  refine ⟨_, hexec, hresult, hfree, ?_, (hmem'.trans hmem).trans opShown_mem, (hhost'.trans hhost).trans opShown_hostMem,
    (hlinks'.trans hlinks).trans opShown_links⟩
  rw [hft', hft, dropPrefix, opShown_ft]

/-- LOOKUP brings a prefix's action and result index into the port. -/
theorem run_lpm_lookup (hfind : portFinds s p = some x) :
    ∃ t, run s (ftPort who p 5) = .next t ∧ t.rd FT_CMD.result0 p = ftOk ∧ t.rd FT_CMD.busy p = 0 ∧
      t.rd FT_CMD.action p = x.action % 256 ∧ t.rd FT_CMD.data p = x.result % 2 ^ 256 ∧ t.ft = s.ft ∧ t.mem = s.mem ∧
      t.hostMem = s.hostMem ∧ t.links = s.links := by
  have hanswer := lpmAnswer_lookup (v := opShown s p 5) hfind
  have hperform := (performOp_lpm hlive hkind hlen (by omega)).trans hanswer
  obtain ⟨hexec, hresult, hfree, hft, hmem, hhost, hlinks⟩ := run_lpm hrun hp hw hbusy hlive hwalk hwaiting hkind hlen (by omega)
    hanswer (by decide) (by simp)
  refine ⟨_, hexec, hresult, hfree, ?_, ?_, by rw [hft]; simp, by rw [hmem]; simp, by rw [hhost]; simp, by rw [hlinks]; simp⟩
  · rw [rd_portDone hperform (by decide) (by decide) (by decide) (by decide) (by decide), State.rd_wr_apart _ _ _ _ _ _ (by decide)]
    exact State.rd_wr_same _ FT_CMD.action _ p 0 (by simp [Desc.has, FT_CMD.action, hp])
  · rw [rd_portDone hperform (by decide) (by decide) (by decide) (by decide) (by decide)]
    exact State.rd_wr_same _ FT_CMD.data _ p 0 (by simp [Desc.has, FT_CMD.data, hp])

omit hlen in
/-- WRITE_RESULT writes the result record. -/
theorem run_lpm_result :
    ∃ t, run s (ftPort who p 7) = .next t ∧ t.rd FT_CMD.result0 p = ftOk ∧ t.rd FT_CMD.busy p = 0 ∧
      Map.get t.ft.results (s.rd FT_CMD.arg p % 65536) = s.rd FT_CMD.data p ∧ t.ft.lpm = s.ft.lpm ∧ t.mem = s.mem ∧
      t.hostMem = s.hostMem ∧ t.links = s.links := by
  obtain ⟨hresult, hfree, hft, hmem, hhost, hlinks⟩ := portDone_ends hp (by decide) (by simpa using hwaiting)
    (performOp_result hlive hkind)
  refine ⟨_, run_ftPort_single hrun hp hw hbusy (twoCopies_other (by rw [hkind]; decide)) hwalk, hresult, hfree, ?_, ?_, ?_, ?_, ?_⟩
  · rw [hft]
    exact Map.get_set_same _ _ _
  · rw [hft, opShown_ft]
  · exact hmem.trans opShown_mem
  · exact hhost.trans opShown_hostMem
  · exact hlinks.trans opShown_links

end Clauses

/-- Settles O25: an operation on an LPM table is that of its only copy, and a go submits one operation to each copy addressed. -/
theorem flowTableCommandPortsOnPrefixes : Obligations.FlowTableCommandPortsOnPrefixes := by
  unfold Obligations.FlowTableCommandPortsOnPrefixes
  refine ⟨?insert, ?exist, ?update, ?upsertNew, ?upsert, ?delete, ?lookup, ?result, ?go1, ?go2, ?go3, ?go4, ?go5, ?go7, ?busy⟩
  case insert =>
    rintro s who p b hrun hp - hw hbusy rfl hlive hwalk hwaiting hkind hlen hfind hroom
    exact run_lpm_absent hrun hp hw hbusy hlive hwalk hwaiting hkind hlen hfind hroom (.inl rfl)
  case exist =>
    rintro s who p b x hrun hp - hw hbusy rfl hlive hwalk hwaiting hkind hlen hfind
    exact run_lpm_exists hrun hp hw hbusy hlive hwalk hwaiting hkind hlen hfind
  case update =>
    rintro s who p b x hrun hp - hw hbusy rfl hlive hwalk hwaiting hkind hlen hfind
    exact run_lpm_replaced hrun hp hw hbusy hlive hwalk hwaiting hkind hlen hfind (.inl rfl)
  case upsertNew =>
    rintro s who p b hrun hp - hw hbusy rfl hlive hwalk hwaiting hkind hlen hfind hroom
    exact run_lpm_absent hrun hp hw hbusy hlive hwalk hwaiting hkind hlen hfind hroom (.inr rfl)
  case upsert =>
    rintro s who p b x hrun hp - hw hbusy rfl hlive hwalk hwaiting hkind hlen hfind
    exact run_lpm_replaced hrun hp hw hbusy hlive hwalk hwaiting hkind hlen hfind (.inr rfl)
  case delete =>
    rintro s who p b x hrun hp - hw hbusy rfl hlive hwalk hwaiting hkind hlen hfind
    exact run_lpm_dropped hrun hp hw hbusy hlive hwalk hwaiting hkind hlen hfind
  case lookup =>
    rintro s who p b x hrun hp - hw hbusy rfl hlive hwalk hwaiting hkind hlen hfind
    exact run_lpm_lookup hrun hp hw hbusy hlive hwalk hwaiting hkind hlen hfind
  case result =>
    rintro s who p b hrun hp - hw hbusy rfl hlive hwalk hwaiting hkind
    exact run_lpm_result hrun hp hw hbusy hlive hwalk hwaiting hkind
  case busy => exact fun s who p hrun hp hw hbusy => run_ftPort_busy hrun hp hw hbusy
  all_goals
    rintro s a who p b cs hrun hp hw hbusy rfl rfl hcs hsome
    exact run_ftPort hrun hp hw hbusy hcs hsome

end Sys2Proof.Machine
end

section
/-! SUPPORT. An enabled port whose link is down takes no frame: the refutation of O18. -/
namespace Sys2Proof.Machine

/-- Port 1 enabled in a quad of four lanes, with its link down. -/
def linkDownPort : State := (State.reset.wr PP_ETH_MODE.quad0 1).wr PP_PORT.enable 1 1

/-- Its clocks run. -/
example : stopped linkDownPort = false := by decide +kernel

/-- A frame at that port counts as no FCS error. -/
theorem observed_frameReceive : observed (·.rd PP_PORT_CNT.count 1 2) (exec (.frameReceive 1 [] 0 1) linkDownPort) = some 0 := by
  decide +kernel

/-- Refutes O18: its eighth clause has a frame that the MAC refuses counted on every port. A port that is enabled while its link is
down takes no part, and a frame there changes nothing. -/
theorem not_receptionLinksAndFlowControl : ¬ Obligations.ReceptionLinksAndFlowControl := by
  unfold Obligations.ReceptionLinksAndFlowControl
  rintro ⟨-, -, -, -, -, -, -, hrefused, -⟩
  have hexec := hrefused linkDownPort 1 0 1 2 [] (by decide +kernel) (by decide +kernel) (by decide +kernel)
  have hcounted := observed_of_exec observed_frameReceive hexec
  exact absurd hcounted (by decide +kernel)

end Sys2Proof.Machine
end

section
/-! SUPPORT. Exact-match and ternary entries are written where they are then read (O26). -/
namespace Sys2Proof.Machine

/-! ### Numbers as bytes -/

theorem ofLe_leBytes (n v : Nat) : ofLe (leBytes n v) = v % 2 ^ (8 * n) := by
  induction n generalizing v with
  | zero => simp [leBytes, ofLe, Nat.mod_one]
  | succ n ih =>
    rw [leBytes, ofLe, ih, BitVec.toNat_ofNat, Nat.mul_succ, Nat.add_comm (8 * n) 8, Nat.pow_add]
    exact (Nat.mod_mul).symm

/-- The low bytes of a number stand before the others. -/
theorem leBytes_add (m n v : Nat) : leBytes (m + n) v = leBytes m v ++ leBytes n (v / 2 ^ (8 * m)) := by
  induction m generalizing v with
  | zero => simp [leBytes]
  | succ m ih =>
    rw [Nat.add_right_comm, leBytes, ih, leBytes, List.cons_append, Nat.div_div_eq_div_mul, Nat.mul_succ, Nat.pow_add, Nat.mul_comm 256]

/-- A number is read back from its place among other bytes. -/
theorem leAt_leBytes {before after : Bytes} {n v o : Nat} (ho : before.length = o) (hv : v < 2 ^ (8 * n)) :
    leAt (before ++ (leBytes n v ++ after)) o n = v := by
  rw [leAt, slice, ← ho, List.drop_left, List.take_append_of_le_length (Nat.le_of_eq (leBytes_length ..).symm),
    List.take_of_length_le (Nat.le_of_eq (leBytes_length ..)), ofLe_leBytes, Nat.mod_eq_of_lt hv]

/-! ### States in which the tables stand alike -/

/-- The fields that the work of the tables, its accounting, its reports and its records leave as they are. -/
def Desc.beside (e : Desc) : Bool :=
  [PMC_CNT.count, IRQ_SRC.asserted, IRQ_MSIX_BAD.count, DEV_DET_COUNT.failed, PAIR_SEQ.pseq, PAIR_CNT.count, FT_CMD.op, FT_CMD.result0,
    FT_CMD.result1, FT_CMD.busy, FT_TABLE.entries].all fun d => d.apart e

theorem Desc.apart_of_beside {e : Desc} (h : e.beside = true) {d : Desc}
    (hd : d ∈ [PMC_CNT.count, IRQ_SRC.asserted, IRQ_MSIX_BAD.count, DEV_DET_COUNT.failed, PAIR_SEQ.pseq, PAIR_CNT.count, FT_CMD.op,
      FT_CMD.result0, FT_CMD.result1, FT_CMD.busy, FT_TABLE.entries]) : d.apart e = true :=
  List.all_eq_true.mp h d hd

/-- The tables stand at the same places: the descriptors and the areas are alike. -/
structure SameShape (s t : State) : Prop where
  areas : t.areas = s.areas
  reads : ∀ (e : Desc) (i j : Nat), e.beside = true → t.rd e i j = s.rd e i j

namespace SameShape

variable {s t u : State}

theorem refl (s : State) : SameShape s s := ⟨rfl, fun _ _ _ _ => rfl⟩

theorem trans (h : SameShape s t) (h' : SameShape t u) : SameShape s u :=
  ⟨h'.areas.trans h.areas, fun e i j he => (h'.reads e i j he).trans (h.reads e i j he)⟩

theorem on (h : SameShape s t) {e : Desc} (he : e.beside = true) (i j : Nat) : t.on e i j = s.on e i j := by
  rw [State.on, State.on, h.reads e i j he]

theorem wr (s : State) {d : Desc} (v i j : Nat)
    (hd : d ∈ [PMC_CNT.count, IRQ_SRC.asserted, IRQ_MSIX_BAD.count, DEV_DET_COUNT.failed, PAIR_SEQ.pseq, PAIR_CNT.count, FT_CMD.op,
      FT_CMD.result0, FT_CMD.result1, FT_CMD.busy, FT_TABLE.entries]) : SameShape s (s.wr d v i j) :=
  ⟨State.wr_areas _ _ _ _ _, fun _ _ _ he => State.rd_wr_apart s v i j _ _ (Desc.apart_of_beside he hd)⟩

theorem memStore (s : State) (a : Nat) (bs : Bytes) : SameShape s (memStore s a bs) :=
  ⟨by simp, fun _ i j he => rd_memStore s i j a bs (Desc.apart_of_beside he (by simp)) (Desc.apart_of_beside he (by simp))
    (Desc.apart_of_beside he (by simp))⟩

theorem countEntries (s : State) (t c : Nat) (up : Bool) : SameShape s (countEntries s t c up) := wr s _ _ _ (by simp)

theorem deltaTable (s : State) (o : FtOp) : SameShape s (deltaTable s o) where
  areas := by
    unfold Machine.deltaTable delta
    split <;> simp
  reads e i j he := rd_deltaTable (Desc.apart_of_beside he (by simp)) (Desc.apart_of_beside he (by simp)) i j

theorem endOp (s : State) (o : FtOp) (r : Nat) : SameShape s (endOp s o r) where
  areas := by
    unfold Machine.endOp
    dsimp only
    split <;> simp
  reads e i j he := rd_endOp (Desc.apart_of_beside he (by simp)) (Desc.apart_of_beside he (by simp))
    (Desc.apart_of_beside he (by simp)) i j

theorem isWide (h : SameShape s t) (b : Nat) : isWide t b = isWide s b := by
  rw [Machine.isWide, h.reads _ _ _ (by decide), Machine.isWide]

theorem keyBytes (h : SameShape s t) (b : Nat) : keyBytes t b = keyBytes s b := by
  rw [Machine.keyBytes, h.reads _ _ _ (by decide), Machine.keyBytes]

theorem entrySize (h : SameShape s t) (b : Nat) : entrySize t b = entrySize s b := by
  rw [Machine.entrySize, h.isWide, Machine.entrySize]

theorem bucketAddr (h : SameShape s t) (b c i : Nat) : bucketAddr t b c i = bucketAddr s b c i := by
  simp only [Machine.bucketAddr, tableMem, copyFirst, bucketsOf, areaBase, areaSizes, h.areas,
    h.on (e := FT_TABLE.mem) (by decide), h.reads FT_TABLE.base _ _ (by decide), h.reads FT_TABLE.log2_buckets _ _ (by decide)]

theorem entryAddr (h : SameShape s t) (b c i e : Nat) : entryAddr t b c i e = entryAddr s b c i e := by
  rw [Machine.entryAddr, h.bucketAddr, h.entrySize, Machine.entryAddr]

theorem loadEntry_of_mem (h : SameShape s t) (hmem : t.mem = s.mem) (b c i e : Nat) : loadEntry t b c i e = loadEntry s b c i e := by
  simp only [loadEntry, memLoad, hmem, h.entryAddr, h.entrySize, h.keyBytes, h.isWide]

theorem bucketPair (h : SameShape s t) (b key : Nat) : bucketPair t b key = bucketPair s b key := by
  simp only [Machine.bucketPair, h.keyBytes, h.reads FT_TABLE.log2_buckets _ _ (by decide),
    h.reads FT_TABLE.seed0 _ _ (by decide), h.reads FT_TABLE.seed1 _ _ (by decide)]

end SameShape

/-- The tables stand alike, and hold the same. -/
structure SameTables (s t : State) : Prop extends SameShape s t where
  ft : t.ft = s.ft
  mem : t.mem = s.mem
  poison : t.poison = s.poison
  tt : t.tt = s.tt
  hostMem : t.hostMem = s.hostMem
  links : t.links = s.links

namespace SameTables

variable {s t u : State}

theorem refl (s : State) : SameTables s s := ⟨.refl s, rfl, rfl, rfl, rfl, rfl, rfl⟩

theorem trans (h : SameTables s t) (h' : SameTables t u) : SameTables s u :=
  ⟨h.toSameShape.trans h'.toSameShape, h'.ft.trans h.ft, h'.mem.trans h.mem, h'.poison.trans h.poison, h'.tt.trans h.tt,
    h'.hostMem.trans h.hostMem, h'.links.trans h.links⟩

theorem foldl {α : Type} (f : State → α → State) (hf : ∀ t x, SameTables t (f t x)) (l : List α) (s : State) :
    SameTables s (l.foldl f s) := by
  induction l generalizing s with
  | nil => exact refl s
  | cons x xs ih => exact (hf s x).trans (ih (f s x))

theorem opShown (s : State) (p op : Nat) : SameTables s (opShown s p op) :=
  ⟨SameShape.wr s _ _ _ (by simp), opShown_ft, opShown_mem, State.wr_poison _ _ _ _ _, State.wr_tt _ _ _ _ _, opShown_hostMem,
    opShown_links⟩

theorem g6Access (s : State) (a acct : Nat) (w : Bool) : SameTables s (g6Access s a w acct) :=
  ⟨⟨by simp, fun _ i j he => rd_g6Access s i j a acct w (Desc.apart_of_beside he (by simp))⟩, by simp, by simp, by simp, by simp,
    by simp, by simp⟩

theorem sramAccess (s : State) (n acct : Nat) : SameTables s (sramAccess s n acct) :=
  ⟨⟨by simp, fun _ i j he => rd_sramAccess s n i j acct (Desc.apart_of_beside he (by simp))⟩, by simp, by simp, by simp, by simp,
    by simp, by simp⟩

theorem chargeBuckets (s : State) (t c acct : Nat) (bb : Nat × Nat) : SameTables s (chargeBuckets s t c acct bb) := by
  unfold Machine.chargeBuckets
  split
  · exact foldl _ (fun v b => foldl _ (fun w i => g6Access w _ _ _) _ v) _ s
  · exact sramAccess s _ _

theorem chargeEntry (s : State) (t a : Nat) : SameTables s (chargeEntry s t a) := by
  unfold Machine.chargeEntry
  dsimp only
  split
  · exact foldl _ (fun v i => g6Access v _ _ _) _ s
  · exact sramAccess s _ _

theorem loadEntry (h : SameTables s t) (b c i e : Nat) : loadEntry t b c i e = loadEntry s b c i e :=
  h.toSameShape.loadEntry_of_mem h.mem b c i e

theorem slotsOf (h : SameTables s t) (b : Nat) : slotsOf t b = slotsOf s b := by
  rw [Machine.slotsOf, h.isWide, Machine.slotsOf]

theorem bucketBad (h : SameTables s t) (b c i : Nat) : bucketBad t b c i = bucketBad s b c i := by
  rw [Machine.bucketBad, h.poison, h.bucketAddr, Machine.bucketBad]

theorem findKey (h : SameTables s t) (b c key : Nat) : findKey t b c key = findKey s b c key := by
  simp only [Machine.findKey, slotWith, h.bucketPair, h.bucketBad, h.slotsOf, h.loadEntry]

theorem freeSlot (h : SameTables s t) (b c i : Nat) : freeSlot t b c i = freeSlot s b c i := by
  simp only [Machine.freeSlot, h.slotsOf, h.loadEntry]

theorem newEntry (h : SameTables s t) (l : Bool) (a k d : Nat) : newEntry t l a k d = newEntry s l a k d := by
  rw [Machine.newEntry, stampNow, now, h.tt, Machine.newEntry, stampNow, now]

/-- The buckets of a table stand at lines of memory. -/
theorem bucketAddr_line (s : State) (b c i : Nat) : Machine.bucketAddr s b c i % 64 = 0 := by
  unfold Machine.bucketAddr tableMem areaBase g6Base g6Size sramBase
  split <;> omega

/-- Nothing is lost in a bucket without a bad line. -/
theorem loseBadLines_good {b c i : Nat} (hgood : Machine.bucketBad s b c i = false) :
    loseBadLines s b c (Machine.bucketAddr s b c i) 256 = s := by
  have hnone : (s.poison.filter fun l => lineTouched (Machine.bucketAddr s b c i) 256 l) = [] := by
    refine List.filter_eq_nil_iff.mpr fun l hl => ?_
    have hline := bucketAddr_line s b c i
    have hout := List.any_eq_false.mp hgood l hl
    simp only [lineTouched, Bool.and_eq_true, decide_eq_true_eq, not_and] at hout ⊢
    omega
  rw [loseBadLines, hnone, List.foldl_nil]

/-- A read of two buckets without a bad line is only charged. -/
theorem readBuckets {b c key acct : Nat} (h1 : Machine.bucketBad s b c (Machine.bucketPair s b key).1 = false)
    (h2 : Machine.bucketBad s b c (Machine.bucketPair s b key).2 = false) : SameTables s (readBuckets s b c key acct) := by
  have hsame := chargeBuckets s b c acct (Machine.bucketPair s b key)
  unfold Machine.readBuckets
  dsimp only
  rw [loseBadLines_good ((hsame.bucketBad _ _ _).trans h1), loseBadLines_good ((hsame.bucketBad _ _ _).trans h2)]
  exact hsame

end SameTables

/-! ### An entry stored is the entry read -/

section Stored

variable {s : State} {b : Nat}

theorem storeEntry_frame (s : State) (b c i e : Nat) (x : FtEntry) : SameShape s (storeEntry s b c i e x) ∧
    (storeEntry s b c i e x).mem = storeBytes s.mem (entryAddr s b c i e) (entryBytes (isWide s b) x) ∧
    (storeEntry s b c i e x).ft = s.ft ∧ (storeEntry s b c i e x).hostMem = s.hostMem := by
  have hcharged := SameTables.chargeEntry s b (entryAddr s b c i e)
  unfold storeEntry
  exact ⟨hcharged.toSameShape.trans (SameShape.memStore _ _ _), by rw [memStore_mem, hcharged.mem], by rw [memStore_ft, hcharged.ft],
    by rw [memStore_hostMem, hcharged.hostMem]⟩

/-- The first word of an entry shows its flags and its action. -/
theorem word_bits (v l : Bool) {a : Nat} (ha : a < 256) :
    (flag v + 2 * flag l + a * 256).testBit 0 = v ∧ (flag v + 2 * flag l + a * 256).testBit 1 = l ∧
      bitsAt (flag v + 2 * flag l + a * 256) 8 8 = a := by
  refine ⟨?_, ?_, ?_⟩
  · cases v <;> cases l <;> simp [flag, Nat.testBit_eq_decide_div_mod_eq] <;> omega
  · cases v <;> cases l <;> simp [flag, Nat.testBit_eq_decide_div_mod_eq] <;> omega
  · cases v <;> cases l <;> simp [flag, bitsAt, Nat.shiftRight_eq_div_pow] <;> omega

/-- An entry of a table with keys of one word fits its 64 bytes, and is read back whole. -/
theorem loadEntry_storeEntry {c i e : Nat} {x : FtEntry} (hwords : s.rd FT_TABLE.key_words b = 1) (haction : x.action < 256)
    (hhit : x.hitStamp < 2 ^ 32) (hins : x.insStamp < 2 ^ 32) (hkey : x.key < 2 ^ 32) (hdata : x.data < 2 ^ 256) :
    loadEntry (storeEntry s b c i e x) b c i e = x := by
  have hnarrow : isWide s b = false := by simp [isWide, hwords]
  have hbytes : keyBytes s b = 4 := by rw [keyBytes, hwords]
  obtain ⟨hshape, hmem, -, -⟩ := storeEntry_frame s b c i e x
  have hlength : (entryBytes false x).length = entrySize s b := by
    simp [entryBytes, leBytes_length, entrySize, hnarrow]
  have hloaded : memLoad (storeEntry s b c i e x) (entryAddr s b c i e) (entrySize s b) = entryBytes false x := by
    rw [memLoad, hmem, hnarrow, ← hlength, loadBytes_storeBytes_same]
  obtain ⟨hvalid, hlearned, hact⟩ := word_bits x.valid x.learned haction
  have hword : flag x.valid + 2 * flag x.learned + x.action * 256 < 2 ^ (8 * 4) := by
    cases x.valid <;> cases x.learned <;> simp [flag] <;> omega
  have hsplit : leBytes 20 x.key = leBytes 4 x.key ++ leBytes 16 (x.key / 2 ^ (8 * 4)) := leBytes_add 4 16 x.key
  have hform : entryBytes false x = leBytes 4 (flag x.valid + 2 * flag x.learned + x.action * 256) ++ (leBytes 4 x.hitStamp ++
      (leBytes 4 x.insStamp ++ (leBytes 4 x.key ++ (leBytes 16 (x.key / 2 ^ (8 * 4)) ++ (leBytes 32 x.data ++ []))))) := by
    simp only [entryBytes, Bool.false_eq_true, if_false, hsplit, List.append_assoc, List.append_nil]
  have h0 : leAt (entryBytes false x) 0 4 = flag x.valid + 2 * flag x.learned + x.action * 256 := by
    rw [hform]
    exact leAt_leBytes (before := []) rfl hword
  have h4 : leAt (entryBytes false x) 4 4 = x.hitStamp := by
    rw [hform]
    exact leAt_leBytes (leBytes_length _ _) hhit
  have h8 : leAt (entryBytes false x) 8 4 = x.insStamp := by
    rw [hform, ← List.append_assoc]
    exact leAt_leBytes (by simp [leBytes_length]) hins
  have h12 : leAt (entryBytes false x) 12 4 = x.key := by
    rw [hform, ← List.append_assoc, ← List.append_assoc]
    exact leAt_leBytes (by simp [leBytes_length]) hkey
  have h32 : leAt (entryBytes false x) 32 32 = x.data := by
    rw [hform, ← List.append_assoc, ← List.append_assoc, ← List.append_assoc, ← List.append_assoc]
    exact leAt_leBytes (by simp [leBytes_length]) hdata
  unfold loadEntry
  rw [hshape.entryAddr, hshape.entrySize, hshape.keyBytes, hshape.isWide, hloaded, hbytes, hnarrow]
  simp only [Bool.false_eq_true, if_false, h0, h4, h8, h12, h32, hvalid, hlearned, hact]

end Stored

end Sys2Proof.Machine
end

section
/-! SUPPORT. The command ports on exact-match and ternary tables, and the obligation O26 that they settle. -/
namespace Sys2Proof.Machine

/-- A number that fits a width is as it is in a wider one. -/
theorem mod_wider {v m w : Nat} (h : v < 2 ^ m) (hw : m ≤ w) : v % 2 ^ w = v :=
  Nat.mod_eq_of_lt (Nat.lt_of_lt_of_le h (Nat.pow_le_pow_right (by decide) hw))

section Exact

variable {s : State} {who : Initiator} {p op : Nat}

theorem performOp_exact (hlive : tableLive s (s.rd FT_CMD.table p) = true) (hkind : s.rd FT_TABLE.kind (s.rd FT_CMD.table p) = 1)
    (hop : 1 ≤ op ∧ op ≤ 6) :
    performOp (opShown s p op) (portOp s p op 0 true) = emOp (opShown s p op) (portOp s p op 0 true) := by
  have hfits : opFits 1 op = true := by simp [opFits, hop.1, hop.2]
  have hword : ¬ op = 7 := by omega
  simp (disch := decide) only [performOp, portOp, tableLive_opShown, hlive, rd_opShown, hkind, hfits, hword, Bool.not_true,
    Bool.false_eq_true, if_false]

/-- What a port's operation left before it ended has the tables where they are after it. -/
theorem portDone_shape {u : State} {r : Nat} (hperform : performOp (opShown s p op) (portOp s p op 0 true) = (u, r)) :
    SameShape u (portDone s p op) := by
  rw [portDone, hperform]
  exact (SameShape.deltaTable _ _).trans (SameShape.endOp _ _ _)

/-- A field of a port that no end of an operation shows is as the operation left it. -/
theorem rd_portDone_kept {u : State} {r : Nat} {e : Desc}
    (hperform : performOp (opShown s p op) (portOp s p op 0 true) = (u, r))
    (h : [PAIR_SEQ.pseq, PAIR_CNT.count, FT_CMD.result0, FT_CMD.result1, FT_CMD.busy].all (·.apart e) = true) (i : Nat) :
    (portDone s p op).rd e i = u.rd e i := by
  simp only [List.all_cons, List.all_nil, Bool.and_true, Bool.and_eq_true] at h
  obtain ⟨hseq, hcnt, h0, h1, hbusy⟩ := h
  exact rd_portDone hperform hseq hcnt h0 h1 hbusy i 0

theorem stampNow_lt (s : State) : stampNow s < 2 ^ 32 := Nat.mod_lt _ (by decide)

/-- INSERT of an absent key where its first bucket has room stores a command entry there. -/
theorem emOp_insert {e : Nat} (hwords : s.rd FT_TABLE.key_words (s.rd FT_CMD.table p) = 1)
    (hgood : bucketBad s (s.rd FT_CMD.table p) 0 (bucketPair s (s.rd FT_CMD.table p) (s.rd FT_CMD.key p % 2 ^ 32)).1 = false)
    (hgood' : bucketBad s (s.rd FT_CMD.table p) 0 (bucketPair s (s.rd FT_CMD.table p) (s.rd FT_CMD.key p % 2 ^ 32)).2 = false)
    (hfind : findKey s (s.rd FT_CMD.table p) 0 (s.rd FT_CMD.key p % 2 ^ 32) = none)
    (hfree : freeSlot s (s.rd FT_CMD.table p) 0 (bucketPair s (s.rd FT_CMD.table p) (s.rd FT_CMD.key p % 2 ^ 32)).1 = some e) :
    ∃ v, SameTables s v ∧ emOp (opShown s p 1) (portOp s p 1 0 true) =
      (countEntries (storeEntry v (s.rd FT_CMD.table p) 0 (bucketPair s (s.rd FT_CMD.table p) (s.rd FT_CMD.key p % 2 ^ 32)).1 e
        (newEntry s false (s.rd FT_CMD.action p) (s.rd FT_CMD.key p % 2 ^ 32) (s.rd FT_CMD.data p))) (s.rd FT_CMD.table p) 0 true,
        ftOk) := by
  have hshown := SameTables.opShown s p 1
  have hbytes : keyBytes (opShown s p 1) (s.rd FT_CMD.table p) = 4 := by rw [hshown.keyBytes, keyBytes, hwords]
  have hread : SameTables s (readBuckets (opShown s p 1) (s.rd FT_CMD.table p) 0 (s.rd FT_CMD.key p % 2 ^ 32) 0) :=
    hshown.trans (SameTables.readBuckets (by rw [hshown.bucketPair, hshown.bucketBad, hgood])
      (by rw [hshown.bucketPair, hshown.bucketBad, hgood']))
  refine ⟨_, hread, ?_⟩
  have hplace : placeKey (readBuckets (opShown s p 1) (s.rd FT_CMD.table p) 0 (s.rd FT_CMD.key p % 2 ^ 32) 0) (s.rd FT_CMD.table p) 0
      (newEntry s false (s.rd FT_CMD.action p) (s.rd FT_CMD.key p % 2 ^ 32) (s.rd FT_CMD.data p)) (s.on FT_CMD.no_evict p) =
      (countEntries (storeEntry (readBuckets (opShown s p 1) (s.rd FT_CMD.table p) 0 (s.rd FT_CMD.key p % 2 ^ 32) 0)
        (s.rd FT_CMD.table p) 0 (bucketPair s (s.rd FT_CMD.table p) (s.rd FT_CMD.key p % 2 ^ 32)).1 e
        (newEntry s false (s.rd FT_CMD.action p) (s.rd FT_CMD.key p % 2 ^ 32) (s.rd FT_CMD.data p))) (s.rd FT_CMD.table p) 0 true,
        true) := by
    unfold placeKey
    simp only [hread.bucketPair, hread.freeSlot]
    rw [show (newEntry s false (s.rd FT_CMD.action p) (s.rd FT_CMD.key p % 2 ^ 32) (s.rd FT_CMD.data p)).key =
      s.rd FT_CMD.key p % 2 ^ 32 from rfl, hfree]
  unfold emOp
  simp only [portOp, hbytes, Nat.reduceMul, Nat.reduceEqDiff, if_false, hread.findKey, hfind, hread.newEntry, hplace, if_true]

/-- READ_SLOT of a valid entry in the first slot reads it back. -/
theorem emOp_readSlot (hwords : s.rd FT_TABLE.key_words (s.rd FT_CMD.table p) = 1) (harg : s.rd FT_CMD.arg p = 0)
    (hvalid : (loadEntry s (s.rd FT_CMD.table p) 0 0 0).valid = true) :
    emOp (opShown s p 6) (portOp s p 6 0 true) =
      (readBack (opShown s p 6) (portOp s p 6 0 true) (loadEntry s (s.rd FT_CMD.table p) 0 0 0), ftOk) := by
  have hshown := SameTables.opShown s p 6
  have hnarrow : isWide (opShown s p 6) (s.rd FT_CMD.table p) = false := by rw [hshown.isWide, isWide, hwords]; rfl
  have hb : ¬ bucketsOf (opShown s p 6) (s.rd FT_CMD.table p) ≤ 0 :=
    Nat.not_le.mpr (Nat.pos_of_ne_zero (by simp [bucketsOf]))
  have hbucket : bitsAt 0 0 23 = 0 := rfl
  have hslot : bitsAt 0 24 2 = 0 := rfl
  unfold emOp
  simp only [portOp, harg, if_true, hnarrow, Bool.false_eq_true, if_false, hbucket, hslot, if_neg hb, hshown.loadEntry, hvalid]

theorem rd_readBack {o : FtOp} {x : FtEntry} (hport : o.port < 8) (hfirst : o.first = true) :
    (readBack s o x).rd FT_CMD.action o.port = x.action % 2 ^ 8 ∧ (readBack s o x).rd FT_CMD.learned o.port = flag x.learned % 2 ∧
      (readBack s o x).rd FT_CMD.key o.port = x.key % 2 ^ FT_CMD.key.width ∧ (readBack s o x).rd FT_CMD.data o.port = x.data % 2 ^ 256 := by
  unfold readBack
  rw [if_pos hfirst]
  refine ⟨?_, ?_, ?_, ?_⟩
  · rw [State.rd_wr_apart _ _ _ _ _ _ (by decide), State.rd_wr_apart _ _ _ _ _ _ (by decide),
      State.rd_wr_apart _ _ _ _ _ _ (by decide), State.rd_wr_apart _ _ _ _ _ _ (by decide)]
    exact State.rd_wr_same _ FT_CMD.action _ _ 0 (by simp [Desc.has, FT_CMD.action, hport])
  · rw [State.rd_wr_apart _ _ _ _ _ _ (by decide), State.rd_wr_apart _ _ _ _ _ _ (by decide),
      State.rd_wr_apart _ _ _ _ _ _ (by decide)]
    exact State.rd_wr_same _ FT_CMD.learned _ _ 0 (by simp [Desc.has, FT_CMD.learned, hport])
  · rw [State.rd_wr_apart _ _ _ _ _ _ (by decide)]
    exact State.rd_wr_same _ FT_CMD.key _ _ 0 (by simp [Desc.has, FT_CMD.key, hport])
  · exact State.rd_wr_same _ FT_CMD.data _ _ 0 (by simp [Desc.has, FT_CMD.data, hport])

theorem readBack_frame (s : State) (o : FtOp) (x : FtEntry) : (readBack s o x).ft = s.ft ∧ (readBack s o x).mem = s.mem ∧
    (readBack s o x).hostMem = s.hostMem ∧ (readBack s o x).links = s.links := by
  unfold readBack
  split <;> simp

/-- The fields of an entry as loaded fit a port's fields. -/
theorem loadEntry_fits (hwords : s.rd FT_TABLE.key_words op = 1) (c b e : Nat) :
    (loadEntry s op c b e).action < 2 ^ 8 ∧ (loadEntry s op c b e).key < 2 ^ 32 ∧ (loadEntry s op c b e).data < 2 ^ 256 := by
  have hle (bs : Bytes) (o n : Nat) : leAt bs o n < 2 ^ (8 * n) :=
    Nat.lt_of_lt_of_le (ofLe_lt _) (Nat.pow_le_pow_right (by decide) (Nat.mul_le_mul_left 8 (List.length_take_le _ _)))
  refine ⟨Nat.mod_lt _ (by decide), ?_, hle _ _ 32⟩
  unfold loadEntry
  dsimp only
  rw [keyBytes, hwords]
  exact hle _ _ 4

end Exact

/-! ### Ternary entries -/

section Ternary

variable {s : State} {who : Initiator} {p op : Nat}

theorem ternKey_opShown (t i : Nat) : ternKey (opShown s p op) t i = ternKey s t i := by
  simp (disch := decide) only [ternKey, rd_opShown]

theorem performOp_tern (hlive : tableLive s (s.rd FT_CMD.table p) = true) (hkind : s.rd FT_TABLE.kind (s.rd FT_CMD.table p) = 3)
    (hop : op = 8 ∨ op = 9) :
    performOp (opShown s p op) (portOp s p op 0 true) = ternOp (opShown s p op) (portOp s p op 0 true) := by
  have hfits : opFits 3 op = true := by rcases hop with rfl | rfl <;> rfl
  have hword : ¬ op = 7 := by omega
  simp (disch := decide) only [performOp, portOp, tableLive_opShown, hlive, rd_opShown, hkind, hfits, hword, Bool.not_true,
    Bool.false_eq_true, if_false]

/-- The entry that a port would store. -/
def portTern (s : State) (p : Nat) : TernEntry :=
  ⟨s.on FT_CMD.t_valid p, s.rd FT_CMD.key p, s.rd FT_CMD.mask p, s.rd FT_CMD.action p, s.rd FT_CMD.data p⟩

/-- The place of the entry that a port names. -/
def portPlace (s : State) (p : Nat) : Nat := ternKey s (s.rd FT_CMD.table p) (bitsAt (s.rd FT_CMD.arg p) 0 12)

/-- TERN_WRITE stores the entry, and counts where its validity changes. -/
theorem ternOp_write (hplace : bitsAt (s.rd FT_CMD.arg p) 0 12 < s.rd FT_TABLE.count (s.rd FT_CMD.table p)) :
    ∃ u, ternOp (opShown s p 8) (portOp s p 8 0 true) = (u, ftOk) ∧
      u.ft = { s.ft with tern := Map.set s.ft.tern (portPlace s p) (portTern s p) } ∧ u.mem = s.mem ∧ u.hostMem = s.hostMem ∧
      u.links = s.links := by
  unfold ternOp
  simp (disch := decide) only [portOp, rd_opShown, if_neg (Nat.not_le.mpr hplace), if_true, ternKey_opShown, ← portPlace.eq_def]
  refine ⟨_, rfl, ?_⟩
  split
  · simp [portTern]
  · obtain ⟨hft, hmem, hhost, hlinks⟩ := countEntries_frame
      { opShown s p 8 with ft := { (opShown s p 8).ft with tern := Map.set (opShown s p 8).ft.tern (portPlace s p) (portTern s p) } }
      (s.rd FT_CMD.table p) 0 (portTern s p).valid
    exact ⟨hft.trans (by rw [opShown_ft]), hmem.trans opShown_mem, hhost.trans opShown_hostMem, hlinks.trans opShown_links⟩

/-- TERN_READ brings an entry into the port. -/
def ternShown (s : State) (p : Nat) (x : TernEntry) : State :=
  ((((s.wr FT_CMD.action x.action p).wr FT_CMD.t_valid (flag x.valid) p).wr FT_CMD.key x.value p).wr FT_CMD.mask x.mask p).wr
    FT_CMD.data x.data p

theorem ternOp_read (hplace : bitsAt (s.rd FT_CMD.arg p) 0 12 < s.rd FT_TABLE.count (s.rd FT_CMD.table p)) :
    ternOp (opShown s p 9) (portOp s p 9 0 true) = (ternShown (opShown s p 9) p (Map.get s.ft.tern (portPlace s p)), ftOk) := by
  unfold ternOp
  simp (disch := decide) only [portOp, rd_opShown, if_neg (Nat.not_le.mpr hplace), ternKey_opShown, ← portPlace.eq_def, opShown_ft,
    Nat.reduceEqDiff, if_false]
  rfl

theorem rd_ternShown (x : TernEntry) (hp : p < 8) :
    (ternShown s p x).rd FT_CMD.action p = x.action % 2 ^ 8 ∧ (ternShown s p x).rd FT_CMD.t_valid p = flag x.valid % 2 ∧
      (ternShown s p x).rd FT_CMD.key p = x.value % 2 ^ FT_CMD.key.width ∧ (ternShown s p x).rd FT_CMD.mask p = x.mask % 2 ^ FT_CMD.mask.width ∧
      (ternShown s p x).rd FT_CMD.data p = x.data % 2 ^ 256 := by
  unfold ternShown
  refine ⟨?_, ?_, ?_, ?_, ?_⟩
  · rw [State.rd_wr_apart _ _ _ _ _ _ (by decide), State.rd_wr_apart _ _ _ _ _ _ (by decide),
      State.rd_wr_apart _ _ _ _ _ _ (by decide), State.rd_wr_apart _ _ _ _ _ _ (by decide)]
    exact State.rd_wr_same _ FT_CMD.action _ _ 0 (by simp [Desc.has, FT_CMD.action, hp])
  · rw [State.rd_wr_apart _ _ _ _ _ _ (by decide), State.rd_wr_apart _ _ _ _ _ _ (by decide),
      State.rd_wr_apart _ _ _ _ _ _ (by decide)]
    exact State.rd_wr_same _ FT_CMD.t_valid _ _ 0 (by simp [Desc.has, FT_CMD.t_valid, hp])
  · rw [State.rd_wr_apart _ _ _ _ _ _ (by decide), State.rd_wr_apart _ _ _ _ _ _ (by decide)]
    exact State.rd_wr_same _ FT_CMD.key _ _ 0 (by simp [Desc.has, FT_CMD.key, hp])
  · rw [State.rd_wr_apart _ _ _ _ _ _ (by decide)]
    exact State.rd_wr_same _ FT_CMD.mask _ _ 0 (by simp [Desc.has, FT_CMD.mask, hp])
  · exact State.rd_wr_same _ FT_CMD.data _ _ 0 (by simp [Desc.has, FT_CMD.data, hp])

end Ternary

/-- Settles O26: the operation of a port is that of its table's only copy, which stores and loads the entry's bytes, or the entry of
the pipeline's array. That TERN_READ brings back mask and t_valid too is the model's choice (log entry 70). -/
theorem flowTableExactMatchAndTernary : Obligations.FlowTableExactMatchAndTernary := by
  unfold Obligations.FlowTableExactMatchAndTernary
  refine ⟨?insert, ?readSlot, ?ternWrite, ?ternRead, ?go6, ?go8, ?go9⟩
  case insert =>
    rintro s who p b e hrun hp - hw hbusy rfl hlive hwalk hwaiting hkind hone hwords hgood hgood' hfind hfree haction hdata
    obtain ⟨v, hsame, hop⟩ := emOp_insert hwords hgood hgood' hfind hfree
    have hperform := (performOp_exact hlive hkind (by omega)).trans hop
    obtain ⟨-, hmem, hft, hhost⟩ := storeEntry_frame v (s.rd FT_CMD.table p) 0
      (bucketPair s (s.rd FT_CMD.table p) (s.rd FT_CMD.key p % 2 ^ 32)).1 e
      (newEntry s false (s.rd FT_CMD.action p) (s.rd FT_CMD.key p % 2 ^ 32) (s.rd FT_CMD.data p))
    obtain ⟨hft', hmem', hhost', -⟩ := countEntries_frame (storeEntry v (s.rd FT_CMD.table p) 0
      (bucketPair s (s.rd FT_CMD.table p) (s.rd FT_CMD.key p % 2 ^ 32)).1 e
      (newEntry s false (s.rd FT_CMD.action p) (s.rd FT_CMD.key p % 2 ^ 32) (s.rd FT_CMD.data p))) (s.rd FT_CMD.table p) 0 true
    have hkeeps := (hft'.trans hft).trans hsame.ft
    obtain ⟨hresult, hdone, htables, hbytes, hmemory, -⟩ := portDone_ends hp (by decide) (by rw [hkeeps, hwaiting]) hperform
    refine ⟨_, run_ftPort_single hrun hp hw hbusy (by simp [twoCopies, State.on, hone]) hwalk, hresult, hdone, ?_,
      htables.trans hkeeps, hmemory.trans ((hhost'.trans hhost).trans hsame.hostMem)⟩
    rw [((SameShape.countEntries _ _ _ _).trans (portDone_shape hperform)).loadEntry_of_mem (hbytes.trans hmem')]
    exact loadEntry_storeEntry ((hsame.reads _ _ _ (by decide)).trans hwords) haction (stampNow_lt s) (stampNow_lt s)
      (Nat.mod_lt _ (by decide)) hdata
  case readSlot =>
    rintro s who p b hrun hp - hw hbusy rfl hlive hwalk hwaiting hkind hone hwords harg hvalid -
    have hperform := (performOp_exact hlive hkind (by omega)).trans (emOp_readSlot hwords harg hvalid)
    obtain ⟨hft, hmem, hhost, hlinks⟩ := readBack_frame (opShown s p 6) (portOp s p 6 0 true)
      (loadEntry s (s.rd FT_CMD.table p) 0 0 0)
    obtain ⟨hresult, hdone, hft', hmem', hhost', hlinks'⟩ := portDone_ends hp (by decide) (by rw [hft, opShown_ft, hwaiting]) hperform
    obtain ⟨haction, hlearned, hkey, hdata⟩ := rd_readBack (s := opShown s p 6) (o := portOp s p 6 0 true)
      (x := loadEntry s (s.rd FT_CMD.table p) 0 0 0) hp rfl
    obtain ⟨hact, hfit, hwide⟩ := loadEntry_fits hwords 0 0 0
    refine ⟨_, run_ftPort_single hrun hp hw hbusy (by simp [twoCopies, State.on, hone]) hwalk, hresult, hdone,
      (rd_portDone_kept hperform (by decide) _).trans (haction.trans (Nat.mod_eq_of_lt hact)),
      (rd_portDone_kept hperform (by decide) _).trans (hkey.trans (mod_wider hfit (by decide))),
      (rd_portDone_kept hperform (by decide) _).trans (hdata.trans (Nat.mod_eq_of_lt hwide)), ?_,
      (hft'.trans hft).trans opShown_ft, (hmem'.trans hmem).trans opShown_mem, (hhost'.trans hhost).trans opShown_hostMem,
      (hlinks'.trans hlinks).trans opShown_links⟩
    refine (rd_portDone_kept hperform (by decide) _).trans (hlearned.trans ?_)
    cases (loadEntry s (s.rd FT_CMD.table p) 0 0 0).learned <;> rfl
  case ternWrite =>
    rintro s who p b hrun hp - hw hbusy rfl hlive hwalk hwaiting hkind hplace
    obtain ⟨u, hop, hft, hmem, hhost, hlinks⟩ := ternOp_write hplace
    have hperform := (performOp_tern hlive hkind (.inl rfl)).trans hop
    obtain ⟨hresult, hdone, hft', hmem', hhost', hlinks'⟩ := portDone_ends hp (by decide) (by rw [hft, hwaiting]) hperform
    have hkey : (portDone s p 8).ft.tern = Map.set s.ft.tern (portPlace s p) (portTern s p) := by rw [hft', hft]
    refine ⟨_, run_ftPort_single hrun hp hw hbusy (twoCopies_other (by rw [hkind]; decide)) hwalk, hresult, hdone, ?_,
      by rw [hft', hft], hmem'.trans hmem, hhost'.trans hhost, hlinks'.trans hlinks⟩
    rw [hkey]
    exact Map.get_set_same _ _ _
  case ternRead =>
    rintro s who p b hrun hp - hw hbusy rfl hlive hwalk hwaiting hkind hplace hentry
    have hop := ternOp_read hplace
    rw [portPlace, hentry] at hop
    have hperform := (performOp_tern hlive hkind (.inr rfl)).trans hop
    obtain ⟨hresult, hdone, hft, hmem, hhost, hlinks⟩ := portDone_ends hp (by decide) (by simpa [ternShown] using hwaiting) hperform
    obtain ⟨haction, hvalid, hkey, hmask, hdata⟩ := rd_ternShown (s := opShown s p 9) ⟨true, 9, 15, 7, 99⟩ hp
    exact ⟨_, run_ftPort_single hrun hp hw hbusy (twoCopies_other (by rw [hkind]; decide)) hwalk, hresult, hdone,
      (rd_portDone_kept hperform (by decide) _).trans hvalid, (rd_portDone_kept hperform (by decide) _).trans (hkey.trans (mod_wider (m := 4) (by decide) (by decide))),
      (rd_portDone_kept hperform (by decide) _).trans (hmask.trans (mod_wider (m := 4) (by decide) (by decide))), (rd_portDone_kept hperform (by decide) _).trans haction, (rd_portDone_kept hperform (by decide) _).trans hdata, by rw [hft]; simp [ternShown],
      by rw [hmem]; simp [ternShown], by rw [hhost]; simp [ternShown], by rw [hlinks]; simp [ternShown]⟩
  all_goals
    rintro s a who p b cs hrun hp hw hbusy rfl rfl hcs hsome
    exact run_ftPort hrun hp hw hbusy hcs hsome

end Sys2Proof.Machine
end

section
/-! SUPPORT. The end of an audited copy and the log of lost entries (O28). -/
namespace Sys2Proof.Machine

/-! ### The log of lost entries -/

section Lost

variable {s : State} {who : Initiator}

/-- The log without its head, which a read has answered as `v`. -/
def lostPopped (s : State) (v : Nat) : State := { s with rdata := v, ft := { s.ft with lost := s.ft.lost.tail } }

theorem exec_ftLostRead (hrun : stopped s = false) (hreach : reaches who Blk.ft.base = true) :
    exec (.ftLostRead who) s = .next (syncLost (lostPopped s (s.rd FT_LOST.table + s.rd FT_LOST.copy <<< 6 + s.rd FT_LOST.bucket <<< 8 +
      s.rd FT_LOST.entry_valid <<< 32 + s.rd FT_LOST.lost <<< 33))) := by
  have hmanaged (f : State → State) : managed .ft who s f = f s := if_pos hreach
  change execFtLostRead who s = _
  rw [execFtLostRead, run_running s _ hrun, hmanaged]
  simp only [lostPopped, answer]

theorem lostPopped_frame (s : State) (v : Nat) : (lostPopped s v).rdata = v ∧ (lostPopped s v).ft.lost = s.ft.lost.tail ∧
    (lostPopped s v).mem = s.mem ∧ (lostPopped s v).hostMem = s.hostMem ∧ (lostPopped s v).links = s.links ∧
    (lostPopped s v).rd FT_LOST.lost = s.rd FT_LOST.lost := ⟨rfl, rfl, rfl, rfl, rfl, rfl⟩

theorem syncLost_frame (s : State) : (syncLost s).ft = s.ft ∧ (syncLost s).rdata = s.rdata ∧ (syncLost s).mem = s.mem ∧
    (syncLost s).hostMem = s.hostMem ∧ (syncLost s).links = s.links ∧ (syncLost s).rd FT_LOST.lost = s.rd FT_LOST.lost := by
  unfold syncLost
  split <;> simp (disch := decide) [State.rd_wr_apart]

/-- entry_valid shows whether the log holds an entry. -/
theorem syncLost_valid (s : State) : (syncLost s).rd FT_LOST.entry_valid = flag (!s.ft.lost.isEmpty) := by
  unfold syncLost
  split
  next hnone =>
    rw [hnone]
    exact State.rd_wr_same _ FT_LOST.entry_valid 0 0 0 rfl
  next hsome =>
    rw [hsome]
    exact State.rd_wr_same _ FT_LOST.entry_valid 1 0 0 rfl

end Lost

/-! ### The end of a copy's walk -/

section Audit

variable {s : State} {b : Nat}

/-- The signature observed on a copy. -/
def signSum (s : State) (b : Nat) : Nat := (signedEntries s b 0).foldl (fun n x => n + signCrc x) 0 % 2 ^ 64

/-- A signature as observed, with its verdict. -/
def signatureShown (s : State) (b : Nat) (bad : Bool) : State :=
  ((s.wr FT_SIG.obs_sum (signSum s b) b 0).wr FT_SIG.obs_count (signedEntries s b 0).length b 0).wr FT_SIG.mismatch (flag bad) b 0

theorem auditResult_lpm (hkind : s.rd FT_TABLE.kind b = 2) {bad : Bool}
    (hbad : bad = (decide (s.rd FT_SIG.sum b 0 ≠ signSum s b) ||
      decide (s.rd FT_SIG.count b 0 ≠ (signedEntries s b 0).length % 2 ^ 32))) :
    auditResult s b 0 = if bad then
      raise (auditAct ((((signatureShown s b bad).wr FT_AUDIT_STAT.table b).wr FT_AUDIT_STAT.copy 0).wr FT_AUDIT_STAT.mismatch 1) b) 0x0C1
    else signatureShown s b bad := by
  have hkind' : ¬ s.rd FT_TABLE.kind b = 1 := by omega
  unfold auditResult
  simp (disch := decide) only [hkind', if_false, State.rd_wr_apart]
  rw [hbad]
  rfl

theorem rd_auditAct {e : Desc} (h : FT_TABLE.learn_en.apart e = true) (h' : FT_TABLE.faulted.apart e = true) (i j : Nat) :
    (auditAct s b).rd e i j = s.rd e i j := by
  unfold auditAct
  split
  · rfl
  · exact State.rd_wr_apart s _ _ _ _ _ h
  · exact State.rd_wr_apart s _ _ _ _ _ h'

theorem auditAct_frame (s : State) (b : Nat) : (auditAct s b).ft = s.ft ∧ (auditAct s b).mem = s.mem ∧
    (auditAct s b).hostMem = s.hostMem := by
  unfold auditAct
  split <;> simp

theorem rd_signatureShown {e : Desc} (hsum : FT_SIG.obs_sum.apart e = true) (hcount : FT_SIG.obs_count.apart e = true)
    (hbad : FT_SIG.mismatch.apart e = true) (bad : Bool) (i j : Nat) : (signatureShown s b bad).rd e i j = s.rd e i j := by
  rw [signatureShown, State.rd_wr_apart _ _ _ _ _ _ hbad, State.rd_wr_apart _ _ _ _ _ _ hcount, State.rd_wr_apart _ _ _ _ _ _ hsum]

theorem rd_signatureShown_verdict (hb : b < 64) (bad : Bool) : (signatureShown s b bad).rd FT_SIG.mismatch b 0 = flag bad := by
  rw [signatureShown, State.rd_wr_same _ FT_SIG.mismatch _ b 0 (by simp [Desc.has, FT_SIG.mismatch, hb])]
  cases bad <;> rfl

theorem rd_signatureShown_observed (hb : b < 64) (bad : Bool) : (signatureShown s b bad).rd FT_SIG.obs_sum b 0 = signSum s b ∧
    (signatureShown s b bad).rd FT_SIG.obs_count b 0 = (signedEntries s b 0).length % 2 ^ 32 := by
  unfold signatureShown
  rw [State.rd_wr_apart _ _ _ _ _ _ (by decide), State.rd_wr_apart _ _ _ _ _ _ (by decide),
    State.rd_wr_same _ FT_SIG.obs_sum _ b 0 (by simp [Desc.has, FT_SIG.obs_sum, hb]), State.rd_wr_apart _ _ _ _ _ _ (by decide),
    State.rd_wr_same _ FT_SIG.obs_count _ b 0 (by simp [Desc.has, FT_SIG.obs_count, hb])]
  exact ⟨Nat.mod_mod _ _, rfl⟩

theorem signatureShown_frame (s : State) (b : Nat) (bad : Bool) : (signatureShown s b bad).ft = s.ft ∧ (signatureShown s b bad).mem = s.mem ∧
    (signatureShown s b bad).hostMem = s.hostMem ∧ (signatureShown s b bad).links = s.links := by
  unfold signatureShown
  simp

/-- What the end of a copy's walk leaves, from the state in which its signature has been compared. -/
def walkEnded (a : State) (b : Nat) : State :=
  let u := releaseWaiting { a with ft := { a.ft with walk := none } } b 0
  { u with ft := { u.ft with walk := auditFrom u b 1 } }

/-- With nothing waiting, the walk goes on to the next copy that has a signature. -/
theorem walkEnded_idle {a : State} (hwaiting : a.ft.waiting = []) :
    walkEnded a b = { a with ft := { a.ft with walk := auditFrom { a with ft := { a.ft with walk := none } } b 1 } } := by
  have hrelease : releaseWaiting { a with ft := { a.ft with walk := none } } b 0 = { a with ft := { a.ft with walk := none } } := by
    unfold releaseWaiting
    simp only [hwaiting, List.filter_nil, List.foldl_nil]
  rw [walkEnded, hrelease]

/-- Which copies the audit walks depends on the tables' descriptors and on the signatures that are valid. -/
theorem auditFrom_congr {a : State} (h : ∀ e ∈ [FT_TABLE.valid, FT_TABLE.ready, FT_TABLE.kind, FT_TABLE.per_pipe, FT_SIG.valid],
    ∀ i j, a.rd e i j = s.rd e i j) (t c : Nat) : auditFrom a t c = auditFrom s t c := by
  have hread {e : Desc} (he : e ∈ [FT_TABLE.valid, FT_TABLE.ready, FT_TABLE.kind, FT_TABLE.per_pipe, FT_SIG.valid]) (i j : Nat) :
      a.rd e i j = s.rd e i j := h e he i j
  simp only [auditFrom, auditCopies, tableLive, copiesOf, twoCopies, State.on, hread (e := FT_TABLE.valid) (by simp),
    hread (e := FT_TABLE.ready) (by simp), hread (e := FT_TABLE.kind) (by simp), hread (e := FT_TABLE.per_pipe) (by simp),
    hread (e := FT_SIG.valid) (by simp)]
  rfl

/-- A mismatch, reported and acted on. -/
def mismatchReported (s : State) (b : Nat) : State :=
  raise (auditAct ((((signatureShown s b true).wr FT_AUDIT_STAT.table b).wr FT_AUDIT_STAT.copy 0).wr FT_AUDIT_STAT.mismatch 1) b) 0x0C1

theorem auditResult_good (hkind : s.rd FT_TABLE.kind b = 2) (hsum : s.rd FT_SIG.sum b 0 = signSum s b)
    (hcount : s.rd FT_SIG.count b 0 = (signedEntries s b 0).length % 2 ^ 32) : auditResult s b 0 = signatureShown s b false := by
  rw [auditResult_lpm hkind (bad := false) (by simp [hsum, hcount]), if_neg (by decide)]

theorem auditResult_bad (hkind : s.rd FT_TABLE.kind b = 2) (hsum : s.rd FT_SIG.sum b 0 ≠ signSum s b) :
    auditResult s b 0 = mismatchReported s b := by
  rw [auditResult_lpm hkind (bad := true) (by simp [hsum]), if_pos rfl, mismatchReported]

theorem rd_mismatchReported {e : Desc} (h : [IRQ_SRC.asserted, IRQ_MSIX_BAD.count, FT_TABLE.learn_en, FT_TABLE.faulted,
    FT_AUDIT_STAT.mismatch, FT_AUDIT_STAT.copy, FT_AUDIT_STAT.table].all (·.apart e) = true) (i j : Nat) :
    (mismatchReported s b).rd e i j = (signatureShown s b true).rd e i j := by
  simp only [List.all_cons, List.all_nil, Bool.and_true, Bool.and_eq_true] at h
  obtain ⟨hbit, hirq, hlearn, hfault, hbad, hcopy, htable⟩ := h
  rw [mismatchReported, rd_raise _ _ _ _ hbit hirq, rd_auditAct hlearn hfault, State.rd_wr_apart _ _ _ _ _ _ hbad,
    State.rd_wr_apart _ _ _ _ _ _ hcopy, State.rd_wr_apart _ _ _ _ _ _ htable]

theorem rd_mismatchReported_stat (hb : b < 64) : (mismatchReported s b).rd FT_AUDIT_STAT.mismatch = 1 ∧
    (mismatchReported s b).rd FT_AUDIT_STAT.table = b := by
  unfold mismatchReported
  rw [rd_raise _ _ _ _ (by decide) (by decide), rd_auditAct (by decide) (by decide), rd_raise _ _ _ _ (by decide) (by decide),
    rd_auditAct (by decide) (by decide), State.rd_wr_same _ FT_AUDIT_STAT.mismatch 1 0 0 rfl,
    State.rd_wr_apart _ _ _ _ _ _ (by decide), State.rd_wr_apart _ _ _ _ _ _ (by decide),
    State.rd_wr_same _ FT_AUDIT_STAT.table b 0 0 rfl]
  exact ⟨rfl, Nat.mod_eq_of_lt hb⟩

theorem mismatchReported_frame (s : State) (b : Nat) : (mismatchReported s b).ft = s.ft ∧ (mismatchReported s b).mem = s.mem ∧
    (mismatchReported s b).hostMem = s.hostMem := by
  obtain ⟨hft, hmem, hhost⟩ := auditAct_frame
    ((((signatureShown s b true).wr FT_AUDIT_STAT.table b).wr FT_AUDIT_STAT.copy 0).wr FT_AUDIT_STAT.mismatch 1) b
  obtain ⟨hft', hmem', hhost', -⟩ := signatureShown_frame s b true
  unfold mismatchReported
  exact ⟨by rw [raise_ft, hft]; simpa using hft', by rw [raise_mem, hmem]; simpa using hmem',
    by rw [raise_hostMem, hhost]; simpa using hhost'⟩

theorem auditResult_kind (hkind : s.rd FT_TABLE.kind b = 2) : (auditResult s b 0).rd FT_TABLE.kind b = 2 := by
  rw [auditResult_lpm hkind rfl]
  split
  · rw [rd_raise _ _ _ _ (by decide) (by decide), rd_auditAct (by decide) (by decide), State.rd_wr_apart _ _ _ _ _ _ (by decide),
      State.rd_wr_apart _ _ _ _ _ _ (by decide), State.rd_wr_apart _ _ _ _ _ _ (by decide),
      rd_signatureShown (by decide) (by decide) (by decide), hkind]
  · rw [rd_signatureShown (by decide) (by decide) (by decide), hkind]

theorem exec_auditEnd_none (hrun : stopped s = false) (hwalk : s.ft.walk = none) : exec .tableAuditCopyEnd s = .next s := by
  change execTableAuditCopyEnd s = _
  rw [execTableAuditCopyEnd, run_running s _ hrun, hwalk]

theorem exec_auditEnd (hrun : stopped s = false) (hwalk : s.ft.walk = some (b, 0)) (hlive : tableLive s b = true)
    (hkind : s.rd FT_TABLE.kind b = 2) : exec .tableAuditCopyEnd s = .next (walkEnded (auditResult s b 0) b) := by
  have hkind' : ¬ (auditResult s b 0).rd FT_TABLE.kind b = 1 := by rw [auditResult_kind hkind]; decide
  change execTableAuditCopyEnd s = _
  rw [execTableAuditCopyEnd, run_running s _ hrun]
  simp only [hwalk, hlive, if_true, hkind', if_false]
  rfl

end Audit

/-- Settles O28: the end of a walk stores the signature observed, compares it, and goes on; a read of the log removes its head. -/
theorem flowTableAuditAndLostEntries : Obligations.FlowTableAuditAndLostEntries := by
  unfold Obligations.FlowTableAuditAndLostEntries
  refine ⟨?good, ?bad, ?lost, fun s b hrun hb hwalk hlive hkind => exec_auditEnd hrun hwalk hlive hkind,
    fun s hrun hwalk => exec_auditEnd_none hrun hwalk, ?read⟩
  case good =>
    intro s b hrun hb hwalk hlive hkind hwaiting hsum hcount
    obtain ⟨hft, hmem, hhost, hlinks⟩ := signatureShown_frame s b false
    obtain ⟨hobs, hobs'⟩ := rd_signatureShown_observed (s := s) hb false
    refine ⟨_, exec_auditEnd hrun hwalk hlive hkind, ?_⟩
    rw [auditResult_good hkind hsum hcount, walkEnded_idle (by rw [hft, hwaiting])]
    refine ⟨?_, ?_, ?_, ?_, by rw [hft], hmem, hhost, hlinks⟩
    · exact (State.rd_congr (s := signatureShown s b false) rfl _ _ _).trans (rd_signatureShown_verdict hb false)
    · exact (State.rd_congr (s := signatureShown s b false) rfl _ _ _).trans hobs
    · exact (State.rd_congr (s := signatureShown s b false) rfl _ _ _).trans hobs'
    · refine auditFrom_congr (fun e he i j => ?_) b 1
      refine (State.rd_congr (s := signatureShown s b false) rfl _ _ _).trans ?_
      simp only [List.mem_cons, List.not_mem_nil, or_false] at he
      rcases he with rfl | rfl | rfl | rfl | rfl <;> exact rd_signatureShown (by decide) (by decide) (by decide) _ _ _
  case bad =>
    intro s b hrun hb hwalk hlive hkind hwaiting hsum
    obtain ⟨hft, hmem, hhost⟩ := mismatchReported_frame s b
    obtain ⟨hbad, htable⟩ := rd_mismatchReported_stat (s := s) hb
    refine ⟨_, exec_auditEnd hrun hwalk hlive hkind, ?_⟩
    rw [auditResult_bad hkind hsum, walkEnded_idle (by rw [hft, hwaiting])]
    have hread (e : Desc) (i j : Nat) {a : FtState} : ({ mismatchReported s b with ft := a } : State).rd e i j =
        (mismatchReported s b).rd e i j := State.rd_congr (s := mismatchReported s b) rfl _ _ _
    refine ⟨?_, (hread _ _ _).trans hbad, (hread _ _ _).trans htable, (hread _ _ _).trans (rd_raise_asserted _ (by decide)),
      by rw [hft], hmem, hhost⟩
    rw [hread, rd_mismatchReported (by decide), rd_signatureShown_verdict hb true, flag, if_pos rfl]
  case read =>
    intro s who hrun hreach
    exact exec_ftLostRead hrun hreach
  case lost =>
    intro s who x rest hrun hreach hlost
    refine ⟨_, exec_ftLostRead hrun hreach, ?_⟩
    generalize hv : s.rd FT_LOST.table + s.rd FT_LOST.copy <<< 6 + s.rd FT_LOST.bucket <<< 8 + s.rd FT_LOST.entry_valid <<< 32 +
      s.rd FT_LOST.lost <<< 33 = v
    obtain ⟨hft, hdata, hmem, hhost, hlinks, hcount⟩ := syncLost_frame (lostPopped s v)
    obtain ⟨hdata', hlost', hmem', hhost', hlinks', hcount'⟩ := lostPopped_frame s v
    have htail : (lostPopped s v).ft.lost = rest := by rw [hlost', hlost, List.tail_cons]
    exact ⟨hdata.trans hdata', by rw [hft, htail], by rw [syncLost_valid, htail], hcount.trans hcount', hmem.trans hmem',
      hhost.trans hhost', hlinks.trans hlinks'⟩

end Sys2Proof.Machine
end

section
/-! SUPPORT. A ring read of a queue that translates (R177), of a function without translation: the refutation of O13. -/
namespace Sys2Proof.Machine

/-- Queue 3 of PF 0, ACTIVE on ring 0 with two slots produced, whose ring is read with translation, while the function's ATS Enable
is 0. -/
def untranslatedQueue : State :=
  let s := { State.reset with hif := { fns := [(0, { bme := true })] } }
  let s := (s.wr HIF_PF_CFG.enable 1).wr WQ_GROUP_OWNER.valid 1
  let s := (((s.wr WQ_CTX.state 1 3).wr WQ_CTX.log2_slots 5 3).wr WQ_CTX.ats 1 3).wr WQ_CTX.dev_prod 2 3
  let s := (s.wr CQ_CTX.valid 1).wr CQ_CTX.log2_slots 6
  (s.wr (enableField .wq) 1).wr (enableField .cq) 1

/-- Its clocks run. -/
example : stopped untranslatedQueue = false := by decide +kernel

/-- The translation fails, and no ring read is in progress. -/
theorem observed_arbitrationVisit :
    observed (fun t => (queueInt t 3).fetch.map Fetch.start) (exec .arbitrationVisit untranslatedQueue) = some none := by
  decide +kernel

/-- Refutes O13: its first clause has a visit begin a ring read of every queue. A queue whose ring address needs a translation that
its function does not get reads nothing. -/
theorem not_arbitrationAndFetch : ¬ Obligations.ArbitrationAndFetch := by
  unfold Obligations.ArbitrationAndFetch
  rintro ⟨hvisit, -⟩
  obtain ⟨t, hexec, -, hfetch, -⟩ := hvisit untranslatedQueue 3 (by decide +kernel) (by decide +kernel) (by decide +kernel) (by decide)
  rw [observed_of_exec (f := fun t => (queueInt t 3).fetch.map Fetch.start) observed_arbitrationVisit hexec] at hfetch
  exact absurd hfetch (by simp)

end Sys2Proof.Machine
end

section
/-! SUPPORT. Vectors of a function after a write of a register that it does not stand in, and software sources (O45). -/
namespace Sys2Proof.Machine

/-! ### What a function may do after a register write -/

/-- The fields that say whose a function is, how many vectors it has, and whether it may issue requests. -/
def functionFields : List Desc :=
  [HIF_PF_CFG.enable, HIF_PF_CFG.total_vfs, HIF_PF_CFG.vf_first, HIF_PF_CFG.pf_vec, HIF_PF_CFG.vf_vec, PAIR_STATUS.state]

section Functions

variable {s : State} {d : Desc} {v i j : Nat}

theorem State.rd_wr_function (h : functionFields.all (d.apart ·) = true) {e : Desc} (he : e ∈ functionFields) (k l : Nat) :
    (s.wr d v i j).rd e k l = s.rd e k l :=
  State.rd_wr_apart s _ _ _ _ _ (List.all_eq_true.mp h e he)

theorem pfOf_wr (h : functionFields.all (d.apart ·) = true) (f : Nat) : pfOf (s.wr d v i j) f = pfOf s f := by
  simp only [pfOf, vfInPf, State.on, State.rd_wr_function h (e := HIF_PF_CFG.enable) (by simp [functionFields]),
    State.rd_wr_function h (e := HIF_PF_CFG.total_vfs) (by simp [functionFields]),
    State.rd_wr_function h (e := HIF_PF_CFG.vf_first) (by simp [functionFields])]
  rfl

theorem vectorCount_wr (h : functionFields.all (d.apart ·) = true) (f : Nat) :
    vectorCount (s.wr d v i j) f = vectorCount s f := by
  simp only [vectorCount, pfOf_wr h, State.rd_wr_function h (e := HIF_PF_CFG.pf_vec) (by simp [functionFields]),
    State.rd_wr_function h (e := HIF_PF_CFG.vf_vec) (by simp [functionFields])]

theorem fnLive_wr (h : functionFields.all (d.apart ·) = true) (f : Nat) : fnLive (s.wr d v i j) f = fnLive s f := by
  simp only [fnLive, pfOf_wr h, fnSt, State.wr_hif, standby, pairState,
    State.rd_wr_function h (e := PAIR_STATUS.state) (by simp [functionFields])]
  rfl

end Functions

/-! ### Software sources -/

section Sources

variable {s : State} {who : Initiator} {n : Nat}

theorem exec_irqSwSet (hrun : stopped s = false) (hw : writable who IRQ_SW_SET.source 0 s = true) (hn : softwareSource n = true) :
    exec (.irqSwSet who n) s = .next (raise s n) := by
  change execIrqSwSet who n s = _
  rw [execIrqSwSet, run_setupWrite hrun hw, if_pos hn]

theorem exec_irqSwSet_other (hrun : stopped s = false) (hw : writable who IRQ_SW_SET.source 0 s = true)
    (hn : softwareSource n = false) : exec (.irqSwSet who n) s = .next s := by
  change execIrqSwSet who n s = _
  rw [execIrqSwSet, run_setupWrite hrun hw, hn, if_neg (by decide)]

theorem softwareSource_lt (hn : softwareSource n = true) : n < 1024 := by
  simp only [softwareSource, Bool.and_eq_true, decide_eq_true_eq] at hn
  omega

/-- A source that newly meets the conditions of a host source requests its vector. -/
theorem raise_host (hn : n < 1024) (hdest : s.rd IRQ_SRC.dest n = 4) (hfree : s.rd IRQ_SRC.asserted n = 0)
    (hglobal : s.rd IRQ_CTL.global_en = 1) (hprio : 1 ≤ s.rd IRQ_SRC.priority n) :
    raise s n = requestVector (s.wr IRQ_SRC.asserted 1 n) 0 (s.rd IRQ_SRC.vector n) := by
  have hset : (s.wr IRQ_SRC.asserted 1 n).on IRQ_SRC.asserted n = true :=
    on_of_rd_one (State.rd_wr_same s IRQ_SRC.asserted 1 n 0 (by simp [Desc.has, IRQ_SRC.asserted, hn]))
  have hbefore : hostSourceMeets s n = false := by simp [hostSourceMeets, on_of_rd_zero hfree]
  have hafter : hostSourceMeets (s.wr IRQ_SRC.asserted 1 n) n = true := by
    simp (disch := decide) [hostSourceMeets, hset, State.on_wr_apart, State.rd_wr_apart, on_of_rd_one hglobal, hdest, hprio]
  simp (disch := decide) only [raise, hostSources, List.foldl_cons, List.foldl_nil, hbefore, hafter, Bool.not_false, Bool.and_self,
    if_true, State.rd_wr_apart]

/-- A vector that may be sent is sent. -/
theorem requestVector_sent {f v : Nat} (hvec : v < vectorCount s f) (hlive : fnLive s f = true) (hen : (fnSt s f).msixEn = true)
    (hfn : (fnSt s f).fnMask = false) (hmask : (msixEntry s f v).mask = false) : requestVector s f v = sendMessage s f v := by
  simp [requestVector, Nat.not_le.mpr hvec, hlive, hen, hfn, hmask]

end Sources

/-- Settles O45: a software source is raised like any other. -/
theorem raisedSourceChangesOnlyItsAssertedBit : Obligations.RaisedSourceChangesOnlyItsAssertedBit := by
  unfold Obligations.RaisedSourceChangesOnlyItsAssertedBit
  refine ⟨fun s who n hrun hw hn hdest => ?_, ?sent, fun s who n hrun hw hn => exec_irqSwSet_other hrun hw hn,
    fun s who n hrun hw hn => exec_irqSwSet hrun hw hn⟩
  · rw [exec_irqSwSet hrun hw hn, raise_local s n hdest]
  case sent =>
    intro s who n hrun hw hn hdest hfree hglobal hprio hvec hlive hen hfn hmask
    have hhif : (s.wr IRQ_SRC.asserted 1 n).hif = s.hif := State.wr_hif _ _ _ _ _
    have hsend : raise s n = sendMessage (s.wr IRQ_SRC.asserted 1 n) 0 (s.rd IRQ_SRC.vector n) := by
      rw [raise_host (softwareSource_lt hn) hdest hfree hglobal hprio]
      exact requestVector_sent (by rw [vectorCount_wr (by decide)]; exact hvec) (by rw [fnLive_wr (by decide)]; exact hlive)
        (by rw [fnSt, hhif]; exact hen) (by rw [fnSt, hhif]; exact hfn) (by rw [msixEntry, hhif]; exact hmask)
    refine ⟨_, (exec_irqSwSet hrun hw hn).trans (congrArg _ hsend), ?_, ?_, ?_, ?_, ?_⟩
    · rw [← hsend, rd_raise_asserted s (softwareSource_lt hn)]
    · rw [sendMessage, putLink, msixEntry, hhif, State.wr_links]
      rfl
    · exact hhif
    · exact State.wr_mem _ _ _ _ _
    · exact State.wr_hostMem _ _ _ _ _

end Sys2Proof.Machine
end

section
/-! SUPPORT. A pushed PAD carries no sequence number (R136) and is never taken: the refutation of O12. -/
namespace Sys2Proof.Machine

/-- Queue 3 of PF 0, ACTIVE on ring 0 with 32 slots, none of which is produced. -/
def readyQueue : State :=
  let s := { State.reset with hif := { fns := [(0, { bme := true })] } }
  let s := (s.wr HIF_PF_CFG.enable 1).wr WQ_GROUP_OWNER.valid 1
  let s := ((s.wr WQ_CTX.state 1 3).wr WQ_CTX.log2_slots 5 3).wr CQ_CTX.valid 1
  ((s.wr CQ_CTX.log2_slots 6).wr (enableField .wq) 1).wr (enableField .cq) 1

/-- Its clocks run. -/
example : stopped readyQueue = false := by decide +kernel

/-- A PAD of one slot whose bits [31:16] are the next sequence number. -/
def paddedPush : Nat := 0x7F + 1 <<< 8 + 1 <<< 16

/-- The PAD is deferred: no push is counted as taken. -/
theorem observed_push : observed (·.rd WQ_PUSH_TAKEN.count) (exec (.push 0 (3 * 0x80 + 0x40) 64 paddedPush) readyQueue) = some 0 := by
  decide +kernel

/-- Refutes O12: its third clause has every push that carries the next sequence number taken. A PAD carries none (R136), so that
what stands in the place of one is no reason to take it. -/
theorem not_doorbellsAndPushes : ¬ Obligations.DoorbellsAndPushes := by
  unfold Obligations.DoorbellsAndPushes
  rintro ⟨-, -, hpush, -⟩
  obtain ⟨t, hexec, -, -, -, htaken, -⟩ := hpush readyQueue 0 (3 * 0x80 + 0x40) paddedPush 3 (by decide +kernel) (by decide +kernel)
    (by decide +kernel) (by decide +kernel) (by decide +kernel) (by decide) (by decide +kernel) (by decide) (by decide +kernel)
    (by decide +kernel) (by decide +kernel) (by decide +kernel) (by decide +kernel) (by decide +kernel) (by decide)
  rw [observed_of_exec observed_push hexec] at htaken
  exact absurd htaken (by decide +kernel)

end Sys2Proof.Machine
end

section
/-! SUPPORT. A channel that does not stand in its waiting state polls no block: the refutation of O35. -/
namespace Sys2Proof.Machine

/-- Channel 5 with a LINK poll due at 1005 ns, whose state is RUNNING and not WAITING. -/
def runningLink : State :=
  let s := { State.reset with
    tt := { State.reset.tt with tt := 1005 }
    dma := { State.reset.dma with chans := [(5, { space := true, wait := .link 5 })] } }
  (s.wr (enableField .dma) 1).wr DMA_CHAN.state chRunning 5

/-- Its clocks run. -/
example : stopped runningLink = false := by decide +kernel

/-- No block fetch begins. -/
theorem observed_linkPoll : observed (fun t => (chan t 5).fetching) (exec (.linkPoll 5) runningLink) = some false := by decide +kernel

/-- Refutes O35: its sixth clause has every poll that is due read the block again, whatever the state of the channel. Only a channel
in the WAITING state polls. -/
theorem not_chainBlocksAndAssignment : ¬ Obligations.ChainBlocksAndAssignment := by
  unfold Obligations.ChainBlocksAndAssignment
  rintro ⟨-, -, -, -, -, hpoll, -⟩
  obtain ⟨t, hexec, hchan, -⟩ := hpoll runningLink 5 5 (by decide +kernel) (by decide +kernel) (by decide +kernel) (by decide +kernel)
    (by decide +kernel) (by decide +kernel)
  have hidle : (chan t 5).fetching = false := observed_of_exec (f := fun t => (chan t 5).fetching) observed_linkPoll hexec
  rw [hchan] at hidle
  exact absurd hidle (by decide)

end Sys2Proof.Machine
end

section
/-! SUPPORT. The data that a job reads crosses the fabric, and is counted there (R785): the refutation of O34. -/
namespace Sys2Proof.Machine

/-- An ENCRYPT entry of key slot 5 with 16 bytes of text. -/
def encryptEntry : Entry := { raw := 0x40 + 2 ^ 9 + 2 ^ 16 + 5 * 2 ^ 64 + 16 * 2 ^ 96 + 0x9000 * 2 ^ 192 }

/-- Queue 3 with that entry and its slot, while counter 0 counts fabric flits. -/
def countedJob : State :=
  let s := { readyQueue with
    queues := [(3, { entries := [encryptEntry] })]
    cip := { slots := [(5, 1)] } }
  ((s.wr (enableField .pmc) 1).wr PMC_SEL.instance 0xFFF 0).wr PMC_SEL.enable 1 0

/-- Its clocks run. -/
example : stopped countedJob = false := by decide +kernel

/-- The counter has counted the flits of the job's reads. -/
theorem observed_encryptJob :
    observed (fun t => decide (t.rd PMC_CNT.count = 0)) (exec (.encryptJob 3 1 true [1, 2] [3]) countedJob) = some false := by
  decide +kernel

/-- Refutes O34: its third clause has a job that begins leave every register as it was. What the job reads crosses the fabric, and a
performance counter that selects fabric flits counts them. -/
theorem not_cipherJobsAndKeys : ¬ Obligations.CipherJobsAndKeys := by
  unfold Obligations.CipherJobsAndKeys
  rintro ⟨-, -, hbegin, -⟩
  obtain ⟨t, hexec, -, -, -, hregs, -⟩ := hbegin countedJob 3 1 encryptEntry [1, 2] [3] (by decide +kernel) (by decide +kernel)
    (by decide +kernel) (by decide +kernel) (by decide +kernel) (by decide +kernel)
  have hkept : t.rd PMC_CNT.count = countedJob.rd PMC_CNT.count := State.rd_congr hregs _ _ _
  exact of_decide_eq_false (observed_of_exec (f := fun t => decide (t.rd PMC_CNT.count = 0)) observed_encryptJob hexec)
    (hkept.trans (by decide +kernel))

end Sys2Proof.Machine
end

section
/-! SUPPORT. No instruction issues while the RLY block is disabled: the refutation of O43. -/
namespace Sys2Proof.Machine

/-- Thread 8 HALTED before an ADDI that adds 4 to register 3, with RLY disabled as after reset. -/
def haltedThread : State :=
  let s := { State.reset with start := { State.reset.start with steward := true, sram := true, g6 := true } }
  memStore ((s.wr RLY_THCTX.state thHalted 8).wr RLY_THCTX.pc 0x2340 8) (localBase 1 + 0x2340) (leBytes 4 (encodeRelay (.addi 7 3 4)))

/-- Its clocks run. -/
example : stopped haltedThread = false := by decide +kernel

/-- The step executes nothing. -/
theorem observed_threadStep : observed (greg · 8 7) (exec (.threadStep (.host 0) 8) haltedThread) = some 0 := by decide +kernel

/-- Refutes O43: its sixth clause has a HALTED thread execute its ADDI on a step whether RLY runs or not. While the block is disabled
no instruction issues. -/
theorem not_relayThreadsUnderSoftwareControl : ¬ Obligations.RelayThreadsUnderSoftwareControl := by
  unfold Obligations.RelayThreadsUnderSoftwareControl
  rintro ⟨-, -, -, -, -, hstep, -⟩
  obtain ⟨t, hexec, -, hreg, -⟩ := hstep haltedThread (.host 0) 8 7 3 4 (by decide +kernel) (by decide +kernel) (by decide)
    (by decide +kernel) (by decide +kernel) (by decide +kernel) (by decide +kernel) (by decide +kernel) (by decide)
    (by decide +kernel)
  rw [observed_of_exec (f := (greg · 8 7)) observed_threadStep hexec] at hreg
  exact absurd hreg (by decide +kernel)

end Sys2Proof.Machine
end

section
/-! SUPPORT. A hurdle that begins over a write not yet flushed starts its zero-length read (R252): the refutation of O17. -/
namespace Sys2Proof.Machine

/-- A HURDLE entry that covers a decided entry whose writes to host link 0 no read has followed. -/
def coveringHurdle : Entry := { raw := 0x01 + 2 ^ 16, covers := [⟨5, 9, false, [0]⟩] }

/-- Queue 3 with that entry. -/
def hurdleQueue : State := { readyQueue with queues := [(3, { entries := [coveringHurdle] })] }

/-- Its clocks run. -/
example : stopped hurdleQueue = false := by decide +kernel

/-- The zero-length read goes out on the link. -/
theorem observed_hurdleEntry : observed (·.links) (exec (.hurdleEntry 3 1) hurdleQueue) = some [.zeroRead 0 0] := by decide +kernel

/-- Refutes O17: its first clause has a HURDLE that begins put nothing on the links. Where it covers an entry whose writes no
zero-length read has followed, it starts that read (R252). -/
theorem not_hurdlesAndAborts : ¬ Obligations.HurdlesAndAborts := by
  unfold Obligations.HurdlesAndAborts
  rintro ⟨hbegin, -⟩
  obtain ⟨t, hexec, -, -, -, -, -, -, hlinks⟩ := hbegin hurdleQueue 3 1 coveringHurdle (by decide +kernel) (by decide +kernel)
    (by decide +kernel) (by decide +kernel)
  rw [observed_of_exec observed_hurdleEntry hexec] at hlinks
  exact absurd hlinks (by decide +kernel)

end Sys2Proof.Machine
end

section
/-! SUPPORT. Vectors unmasked, counters read and wrapped, and the abacus log (O46). -/
namespace Sys2Proof.Machine

/-! ### Unmasking a vector -/

section Vectors

variable {s : State} {f v : Nat}

@[simp] theorem msixEntry_updMsix (g : MsixEntry → MsixEntry) : msixEntry (updMsix s f v g) f v = g (msixEntry s f v) :=
  Map.get_upd_same _ _ _

theorem exec_vectorUnmask (hrun : stopped s = false) (hvec : v < vectorCount s f) : exec (.vectorUnmask f v) s =
    .next (launchPending (updMsix s f v fun e => { e with mask := false }) f v) := by
  change execVectorUnmask f v s = _
  rw [execVectorUnmask, run_running s _ hrun, if_neg (by omega)]

theorem launchPending_idle (hpending : (msixEntry s f v).pending = false) : launchPending s f v = s := by
  simp [launchPending, hpending]

/-- A pending vector that may be sent goes out once, with the address and data of its entry. -/
theorem launchPending_sent (hpending : (msixEntry s f v).pending = true) (hlive : fnLive s f = true)
    (hen : (fnSt s f).msixEn = true) (hfn : (fnSt s f).fnMask = false) (hmask : (msixEntry s f v).mask = false) :
    launchPending s f v = putLink (updMsix s f v fun e => { e with pending := false })
      (.message f v (msixEntry s f v).addr (msixEntry s f v).data) := by
  simp [launchPending, sendMessage, hpending, hlive, hen, hfn, hmask]

end Vectors

/-! ### Counters -/

section Counters

variable {s : State} {who : Initiator} {n k : Nat} {rest : List Nat}

theorem exec_pmcRead (hrun : stopped s = false) (hreach : reaches who Blk.pmc.base = true) : exec (.pmcRead who n k) s =
    .next (answer ((coveredCounters n k).foldl sampleCounter s)
      ((coveredCounters n k).reverse.foldl (fun v m => v <<< 64 + counterImage ((coveredCounters n k).foldl sampleCounter s) m) 0)) := by
  have hmanaged (f : State → State) : managed .pmc who (answer s 0) f = f (answer s 0) := if_pos hreach
  have hsampled (l : List Nat) : ∀ t : State, l.foldl sampleCounter (answer t 0) = answer (l.foldl sampleCounter t) 0 := by
    induction l with
    | nil => exact fun _ => rfl
    | cons m l ih =>
      intro t
      rw [List.foldl_cons, List.foldl_cons, ← ih]
      congr 1
      simp only [sampleCounter, State.wr, answer, now]
      split <;> rfl
  change execPmcRead who n k s = _
  rw [execPmcRead, run_running s _ hrun, hmanaged]
  simp only [hsampled]
  rfl

theorem coveredCounters_one (hn : n < 32) : coveredCounters n 1 = [n] := by
  simp [coveredCounters, hn]

theorem rd_stamp_sampled (hn : n < 32) : (sampleCounter s n).rd PMC_CNT.stamp n = now s % 65536 := by
  have h := State.rd_wr_same s PMC_CNT.stamp (now s % 65536) n 0 (by simp [Desc.has, PMC_CNT.stamp, hn])
  rw [sampleCounter, h, show PMC_CNT.stamp.width = 16 from rfl]
  omega

theorem rd_count_sampled : (sampleCounter s n).rd PMC_CNT.count n = s.rd PMC_CNT.count n :=
  State.rd_wr_apart _ _ _ _ _ _ (by decide)

theorem counterImage_sampled (hn : n < 32) :
    counterImage (sampleCounter s n) n = s.rd PMC_CNT.count n + (now s % 65536) <<< 48 := by
  unfold counterImage
  rw [rd_stamp_sampled hn, rd_count_sampled]

theorem exec_pmcCounterWrap (hrun : stopped s = false) (hwraps : s.pmcWraps = n :: rest) :
    exec (.pmcCounterWrap) s = .next (counterWrap { s with pmcWraps := rest } n) := by
  change execPmcCounterWrap s = _
  rw [execPmcCounterWrap, run_running s _ hrun, hwraps]

theorem counterWrap_reported (hcarries : carries s n = false) (hirq : s.rd PMC_SEL.ovf_irq n = 1) :
    counterWrap s n = raise (s.wr PMC_OVF.ovf (s.rd PMC_OVF.ovf ||| 2 ^ n)) 0x1A0 := by
  have hon : (s.wr PMC_OVF.ovf (s.rd PMC_OVF.ovf ||| 2 ^ n)).on PMC_SEL.ovf_irq n = true := by
    rw [State.on_wr_apart _ _ _ _ _ _ (by decide)]
    exact on_of_rd_one hirq
  simp only [counterWrap, hcarries, hon, if_true, Bool.false_eq_true, if_false]

theorem counterWrap_carried (hcarries : carries s n = true) (hlt : s.rd PMC_CNT.count (n + 1) + 1 < 2 ^ 48) :
    counterWrap s n = s.wr PMC_CNT.count (s.rd PMC_CNT.count (n + 1) + 1) (n + 1) := by
  rw [counterWrap, if_pos hcarries, pmcAdd, if_neg (by omega)]

end Counters

/-! ### The abacus log -/

section Log

variable {s : State} {who : Initiator}

theorem exec_abacusLogRead (hrun : stopped s = false) (hreach : reaches who Blk.dev.base = true) : exec (.abacusLogRead who) s =
    .next (syncAbcLog { s with rdata := s.rd DEV_ABC_LOG.tt, abc := { s.abc with log := s.abc.log.tail } }) := by
  have hmanaged (f : State → State) : managed .dev who (answer s 0) f = f (answer s 0) := if_pos hreach
  change execAbacusLogRead who s = _
  rw [execAbacusLogRead, run_running s _ hrun, hmanaged]
  rfl

/-- What the log registers show of a log with entries; nothing but registers is written. -/
theorem syncAbcLog_held {x : AbcEntry} {l : List AbcEntry} (hlog : s.abc.log = x :: l) :
    syncAbcLog s = ((((((s.wr DEV_ABC_LOG_STAT.held (l.length + 1)).wr DEV_ABC_LOG.law x.law).wr DEV_ABC_LOG.instance x.inst).wr
      DEV_ABC_LOG.expected x.expected).wr DEV_ABC_LOG.observed x.observed).wr DEV_ABC_LOG.tt x.tt) := by
  simp only [syncAbcLog, State.wr_abc, hlog, List.length_cons]

end Log

/-- Settles O46: vectors, counters and the abacus log, by what each command does to the part it names. That the counters of one
read share the time of its stamp, and that a carry asks for an enabled odd counter, is the model's choice (log entry 82). -/
theorem vectorsCountersAndTheAbacusLog : Obligations.VectorsCountersAndTheAbacusLog := by
  unfold Obligations.VectorsCountersAndTheAbacusLog
  refine ⟨?launched, ?quiet, ?read, ?reported, ?carried, ?log, fun s f v hrun hvec => exec_vectorUnmask hrun hvec,
    ?reads, fun s n rest hrun hwraps => exec_pmcCounterWrap hrun hwraps, fun s who hrun hreach => exec_abacusLogRead hrun hreach⟩
  case launched =>
    intro s f v hrun hvec hpending hlive hen hfn
    refine ⟨_, (exec_vectorUnmask hrun hvec).trans (congrArg _ (launchPending_sent ?_ hlive hen hfn ?_)), ?_, ?_, rfl, rfl, rfl⟩
    · rw [msixEntry_updMsix]; exact hpending
    · rw [msixEntry_updMsix]
    · rw [msixEntry_updMsix]; rfl
    · exact (msixEntry_updMsix _).trans (by rw [msixEntry_updMsix])
  case quiet =>
    intro s f v hrun hvec hpending
    refine ⟨_, (exec_vectorUnmask hrun hvec).trans (congrArg _ (launchPending_idle ?_)), msixEntry_updMsix _, rfl, rfl, rfl, rfl⟩
    rw [msixEntry_updMsix]; exact hpending
  case read =>
    intro s who n hrun hreach hn
    rw [exec_pmcRead hrun hreach, coveredCounters_one hn]
    simp only [List.foldl_cons, List.foldl_nil, List.reverse_cons, List.reverse_nil, List.nil_append, Nat.zero_shiftLeft,
      Nat.zero_add, counterImage_sampled hn]
    simp only [sampleCounter, State.wr, answer]
    split <;> rfl
  case reported =>
    intro s n rest hrun hwraps hcarries hirq
    exact (exec_pmcCounterWrap hrun hwraps).trans
      (congrArg _ (counterWrap_reported (s := { s with pmcWraps := rest }) hcarries hirq))
  case carried =>
    intro s n rest hrun hwraps hcarries hlt
    exact (exec_pmcCounterWrap hrun hwraps).trans
      (congrArg _ (counterWrap_carried (s := { s with pmcWraps := rest }) hcarries hlt))
  case log =>
    intro s who e x hrun hreach hlog
    refine ⟨_, (exec_abacusLogRead hrun hreach).trans (congrArg _ (syncAbcLog_held (x := x) (l := []) (by simp [hlog]))), ?_⟩
    simp (disch := decide) only [State.rd_wr_apart, State.rd_wr_same, State.wr_rdata, State.wr_abc, State.wr_mem, State.wr_hostMem,
      State.wr_links, hlog, List.tail_cons, List.length_nil, true_and, and_true]
    exact ⟨rfl, rfl⟩
  case reads =>
    rintro s who n k t hrun hreach rfl
    exact exec_pmcRead hrun hreach

end Sys2Proof.Machine
end

section
/-! SUPPORT. Fields of a number: what is read of one after another is replaced. -/
namespace Sys2Proof.Machine

theorem bitsAt_eq (v lo w : Nat) : bitsAt v lo w = v / 2 ^ lo % 2 ^ w := by rw [bitsAt, Nat.shiftRight_eq_div_pow]

/-- A number with a field replaced: what stands below the field, the new value, and what stands above it. -/
theorem putBits_eq (v lo w x : Nat) :
    putBits v lo w x = v % 2 ^ lo + 2 ^ lo * (x % 2 ^ w + 2 ^ w * (v / 2 ^ lo / 2 ^ w)) := by
  have hv : v = v % 2 ^ lo + 2 ^ lo * (v / 2 ^ lo % 2 ^ w + 2 ^ w * (v / 2 ^ lo / 2 ^ w)) := by
    rw [Nat.mod_add_div, Nat.mod_add_div]
  have hgap : v - v / 2 ^ lo % 2 ^ w * 2 ^ lo = v % 2 ^ lo + 2 ^ lo * (2 ^ w * (v / 2 ^ lo / 2 ^ w)) :=
    Nat.sub_eq_of_eq_add (hv.trans (by
      rw [Nat.mul_add, Nat.mul_comm (v / 2 ^ lo % 2 ^ w)]
      omega))
  rw [putBits, bitsAt_eq, Nat.shiftLeft_eq, Nat.shiftLeft_eq, hgap, Nat.mul_add, Nat.mul_comm (x % 2 ^ w)]
  omega

theorem bitsAt_putBits_same (v lo w x : Nat) : bitsAt (putBits v lo w x) lo w = x % 2 ^ w := by
  rw [bitsAt_eq, putBits_eq, Nat.add_mul_div_left _ _ (Nat.two_pow_pos lo),
    Nat.div_eq_of_lt (Nat.mod_lt v (Nat.two_pow_pos lo)), Nat.zero_add, Nat.add_mul_mod_self_left, Nat.mod_mod]

/-- A field above the replaced one. -/
theorem bitsAt_putBits_above (v x : Nat) {lo w l u : Nat} (h : lo + w ≤ l) : bitsAt (putBits v lo w x) l u = bitsAt v l u := by
  obtain ⟨d, rfl⟩ := Nat.exists_eq_add_of_le h
  have hpow : 2 ^ (lo + w + d) = 2 ^ lo * 2 ^ w * 2 ^ d := by rw [Nat.pow_add, Nat.pow_add]
  rw [bitsAt_eq, bitsAt_eq, putBits_eq, hpow, ← Nat.div_div_eq_div_mul, ← Nat.div_div_eq_div_mul,
    Nat.add_mul_div_left _ _ (Nat.two_pow_pos lo), Nat.div_eq_of_lt (Nat.mod_lt v (Nat.two_pow_pos lo)), Nat.zero_add,
    Nat.add_mul_div_left _ _ (Nat.two_pow_pos w), Nat.div_eq_of_lt (Nat.mod_lt x (Nat.two_pow_pos w)), Nat.zero_add,
    ← Nat.div_div_eq_div_mul, ← Nat.div_div_eq_div_mul]

/-- A field of the low bits alone. -/
theorem bitsAt_mod (v : Nat) {n l u : Nat} (h : l + u ≤ n) : bitsAt (v % 2 ^ n) l u = bitsAt v l u := by
  obtain ⟨d, rfl⟩ := Nat.exists_eq_add_of_le h
  rw [bitsAt_eq, bitsAt_eq, Nat.add_assoc, Nat.pow_add, Nat.mod_mul_right_div_self, Nat.pow_add,
    Nat.mod_mul_right_mod]

/-- A field below the replaced one. -/
theorem bitsAt_putBits_below (v x : Nat) {lo w l u : Nat} (h : l + u ≤ lo) : bitsAt (putBits v lo w x) l u = bitsAt v l u := by
  rw [← bitsAt_mod _ h, putBits_eq, Nat.add_mul_mod_self_left, Nat.mod_mod, bitsAt_mod _ h]

theorem bitAt_eq (v i : Nat) : bitAt v i = decide (bitsAt v i 1 = 1) := by
  rw [bitAt, Nat.testBit_eq_decide_div_mod_eq, bitsAt_eq, Nat.pow_one]

/-- A bit is as it was put. -/
theorem testBit_putBit (v i : Nat) (b : Bool) : (putBit v i b).testBit i = b := by
  have h := bitAt_eq (putBit v i b) i
  rw [putBit, bitsAt_putBits_same] at h
  rw [putBit]
  exact h.trans (by cases b <;> rfl)

end Sys2Proof.Machine
end

section
/-! SUPPORT. Domains that switch off and wake, and thermal samples (O11). -/
namespace Sys2Proof.Machine

/-! ### The state of a domain -/

section Domains

variable {s : State} {d : Nat} {x : DomainState}

@[simp] theorem setDomain_mem (s : State) (d : Nat) (x : DomainState) : (setDomain s d x).mem = s.mem := by
  unfold setDomain
  split <;> split <;> simp

@[simp] theorem setDomain_tt (s : State) (d : Nat) (x : DomainState) : (setDomain s d x).tt = s.tt := by
  unfold setDomain
  split <;> split <;> simp

@[simp] theorem setDomain_hif (s : State) (d : Nat) (x : DomainState) : (setDomain s d x).hif = s.hif := by
  unfold setDomain
  split <;> split <;> simp

@[simp] theorem setDomain_cip (s : State) (d : Nat) (x : DomainState) : (setDomain s d x).cip = s.cip := by
  unfold setDomain
  split <;> split <;> simp

@[simp] theorem setDomain_pp (s : State) (d : Nat) (x : DomainState) : (setDomain s d x).pp = s.pp := by
  unfold setDomain
  split <;> split <;> simp

@[simp] theorem setDomain_staged (s : State) (d : Nat) (x : DomainState) : (setDomain s d x).staged = s.staged := by
  unfold setDomain
  split <;> split <;> simp

theorem setDomain_nrg (s : State) (d : Nat) (x : DomainState) :
    (setDomain s d x).nrg = { s.nrg with domains := Map.set s.nrg.domains d x } := by
  unfold setDomain
  split <;> split <;> simp

theorem domainState_setDomain_same (s : State) (d : Nat) (x : DomainState) : domainState (setDomain s d x) d = x := by
  rw [domainState, setDomain_nrg]
  exact Map.get_set_same _ _ _

theorem domainState_setDomain_other {k : Nat} (h : k ≠ d) : domainState (setDomain s d x) k = domainState s k := by
  rw [domainState, setDomain_nrg]
  exact Map.get_set_other _ _ h

theorem rd_setDomain {e : Desc} (hon : NRG_DOM_ON.on.apart e = true) (hpow : CIP_STAT.powered.apart e = true) (i j : Nat) :
    (setDomain s d x).rd e i j = s.rd e i j := by
  unfold setDomain
  split <;> split <;> simp only [State.rd_wr_apart _ _ _ _ _ _ hon, State.rd_wr_apart _ _ _ _ _ _ hpow] <;> exact State.rd_congr rfl _ _ _

theorem testBit_domOn_setDomain (hd : d < 120) : ((setDomain s d x).rd NRG_DOM_ON.on).testBit d = decide (x = .on) := by
  have hbit (v : Nat) : ((putBit v d (decide (x = .on))) % 2 ^ NRG_DOM_ON.on.width).testBit d = decide (x = .on) := by
    rw [Nat.testBit_mod_two_pow, testBit_putBit]
    simp [NRG_DOM_ON.on, hd]
  unfold setDomain
  simp only [if_pos hd]
  split
  · rw [State.rd_wr_apart _ _ _ _ _ _ (by decide), State.rd_wr_same _ _ _ _ _ (by decide), hbit]
  · rw [State.rd_wr_same _ _ _ _ _ (by decide), hbit]

/-- A domain's own state says nothing of whether it has work. -/
theorem domainBusy_setDomain : domainBusy (setDomain s d x) d = domainBusy s d := by
  unfold domainBusy
  split
  · simp (disch := decide) only [rd_setDomain]
  split
  · rw [Bool.eq_iff_iff, List.any_eq_true, List.any_eq_true]
    refine exists_congr fun i => and_congr_right fun hi => ?_
    have hlt := List.mem_range.mp hi
    rw [domainState_setDomain_other (by omega)]
  split
  · rw [coreUnit, setDomain_cip]; rfl
  split
  · rw [setDomain_hif]
  split
  · have hrate (p : Nat) : portRate (setDomain s d x) p = portRate s p := by
      simp (disch := decide) only [portRate, quadMode, rd_setDomain]
      rfl
    have hports (n : Nat) : quadPorts (setDomain s d x) n = quadPorts s n := by simp only [quadPorts, isPort, hrate]
    simp (disch := decide) only [hports, State.on, rd_setDomain]
  split
  · simp (disch := decide) only [stageUsed, stageFieldUsed, List.any_cons, List.any_nil, State.on, rd_setDomain, setDomain_pp,
      setDomain_staged]
  · rfl

/-! ### Switching off and waking -/

theorem exec_domainIdleOff (hrun : stopped s = false) (hstate : domainState s d = .on) (hgate : gateOn s d = true)
    (hbusy : domainBusy s d = false) (hidle : (64 ≤ d ∧ d < 72) ∨ idleLongEnough s d = true) :
    exec (.domainIdleOff d) s = .next (setDomain s d .switchingOff) := by
  change execDomainIdleOff d s = _
  rw [execDomainIdleOff, run_running s _ hrun]
  rcases hidle with ⟨hlo, hhi⟩ | hidle
  · simp [hstate, hgate, hbusy, hlo, hhi]
  · simp [hstate, hgate, hbusy, hidle]

theorem exec_domainOffComplete (hrun : stopped s = false) (hstate : domainState s d = .switchingOff) :
    exec (.domainOffComplete d) s =
      .next (if d < 120 && domainBusy s d then wakeDomain (setDomain s d .off) d else setDomain s d .off) := by
  change execDomainOffComplete d s = _
  rw [execDomainOffComplete, run_running s _ hrun]
  simp only [hstate, ne_eq, not_true_eq_false, if_false, domainBusy_setDomain]

theorem exec_domainWake (hrun : stopped s = false) (h : d < 96 ∨ d < 112 ∧ domainBusy s d = true) :
    exec (.domainWake d) s = .next (wakeDomain s d) := by
  change execDomainWake d s = _
  rw [execDomainWake, run_running s _ hrun, if_pos]
  simpa using h

theorem rd_addEst (s : State) (d w : Nat) (e : Desc) (i j : Nat) : (addEst s d w).rd e i j = s.rd e i j := rfl

theorem rd_addAct (s : State) (d a w : Nat) (e : Desc) (i j : Nat) : (addAct s d a w).rd e i j = s.rd e i j := rfl

/-- The wake of an off domain while NRG meters. -/
theorem wakeDomain_metered (hstate : domainState s d = .off) (hmeter : s.nrg.metering = true) : wakeDomain s d =
    addAct (addEst (pmc ((setDomain s d .on).count NRG_WAKES.count) 0xA00 0 1 none) d (s.rd NRG_COEF.coef (kindOf d) 1)) d 0
      (s.rd NRG_COEF.coef (kindOf d) 1) := by
  have hm : (pmc ((setDomain s d .on).count NRG_WAKES.count) 0xA00 0 1 none).nrg.metering = true := by
    rw [pmc_nrg, State.count_nrg, setDomain_nrg]
    exact hmeter
  rw [wakeDomain, if_pos hstate]
  simp only [hm, if_true]

theorem domainState_wakeDomain (hstate : domainState s d = .off) (hmeter : s.nrg.metering = true) :
    domainState (wakeDomain s d) d = .on := by
  rw [wakeDomain_metered hstate hmeter, domainState]
  simp only [addAct, addEst, pmc_nrg, State.count_nrg]
  exact domainState_setDomain_same s d .on

theorem rd_wakeDomain (hstate : domainState s d = .off) (hmeter : s.nrg.metering = true) {e : Desc}
    (he : PMC_CNT.count.apart e = true) (i j : Nat) :
    (wakeDomain s d).rd e i j = ((setDomain s d .on).count NRG_WAKES.count).rd e i j := by
  rw [wakeDomain_metered hstate hmeter, rd_addAct, rd_addEst, rd_pmc _ _ _ _ _ _ _ he]

theorem testBit_domOn_wakeDomain (hstate : domainState s d = .off) (hmeter : s.nrg.metering = true) (hd : d < 120) :
    ((wakeDomain s d).rd NRG_DOM_ON.on).testBit d = true := by
  rw [rd_wakeDomain hstate hmeter (by decide), State.rd_count_apart _ _ _ _ _ _ (by decide), testBit_domOn_setDomain hd]
  rfl

theorem rd_wakes_wakeDomain (hstate : domainState s d = .off) (hmeter : s.nrg.metering = true) :
    (wakeDomain s d).rd NRG_WAKES.count = (s.rd NRG_WAKES.count + 1) % 2 ^ 64 := by
  rw [rd_wakeDomain hstate hmeter (by decide), State.count, State.rd_wr_same _ _ _ _ _ (by decide),
    rd_setDomain (by decide) (by decide)]
  rfl

theorem est_wakeDomain (hstate : domainState s d = .off) (hmeter : s.nrg.metering = true) :
    Map.get (wakeDomain s d).nrg.leg.est d = Map.get s.nrg.leg.est d + s.rd NRG_COEF.coef (kindOf d) 1 := by
  rw [wakeDomain_metered hstate hmeter]
  simp only [addAct, addEst, pmc_nrg, State.count_nrg, setDomain_nrg, Map.get_set_same]

theorem act_wakeDomain (hstate : domainState s d = .off) (hmeter : s.nrg.metering = true) :
    Map.get (wakeDomain s d).nrg.leg.act (d * 4096) = Map.get s.nrg.leg.act (d * 4096) + s.rd NRG_COEF.coef (kindOf d) 1 := by
  rw [wakeDomain_metered hstate hmeter]
  simp only [addAct, addEst, pmc_nrg, State.count_nrg, setDomain_nrg, Nat.add_zero, Map.get_set_same]

end Domains

/-! ### Thermal samples -/

section Thermal

variable {s : State} {rs : List Nat}

/-- The sensors of a list of readings, from sensor `i` on. -/
def showReadings (rs : List Nat) (i : Nat) (s : State) : State :=
  (rs.foldl (fun (x : Nat × State) q => (x.1 + 1, x.2.wr NRG_SENSOR.temp_q q x.1)) (i, s)).2

theorem showReadings_cons (q : Nat) (rs : List Nat) (i : Nat) (s : State) :
    showReadings (q :: rs) i s = showReadings rs (i + 1) (s.wr NRG_SENSOR.temp_q q i) := rfl

theorem showReadings_op (op : State → α) (hop : ∀ (t : State) (v i : Nat), op (t.wr NRG_SENSOR.temp_q v i) = op t) (rs : List Nat) :
    ∀ (i : Nat) (s : State), op (showReadings rs i s) = op s := by
  induction rs with
  | nil => exact fun _ _ => rfl
  | cons q rs ih =>
    intro i s
    rw [showReadings_cons, ih, hop]

theorem rd_showReadings_below (rs : List Nat) {k i : Nat} (h : k < i) (s : State) :
    (showReadings rs i s).rd NRG_SENSOR.temp_q k = s.rd NRG_SENSOR.temp_q k := by
  induction rs generalizing i s with
  | nil => rfl
  | cons q rs ih => rw [showReadings_cons, ih (by omega), State.rd_wr_member _ _ (by decide) (by omega)]

theorem rd_showReadings (rs : List Nat) {k i : Nat} (h : k < rs.length) (hlen : rs.length + i ≤ 24) (s : State) :
    (showReadings rs i s).rd NRG_SENSOR.temp_q (i + k) = rs.getD k 0 % 2 ^ 12 := by
  induction rs generalizing i k s with
  | nil => simp at h
  | cons q rs ih =>
    rw [List.length_cons] at h hlen
    rw [showReadings_cons]
    cases k with
    | zero =>
      change (showReadings rs (i + 1) (s.wr NRG_SENSOR.temp_q q i)).rd NRG_SENSOR.temp_q i = q % 2 ^ 12
      rw [rd_showReadings_below rs (by omega)]
      have hi : i < 24 := by omega
      exact State.rd_wr_same s NRG_SENSOR.temp_q q i 0 (by simp [Desc.has, NRG_SENSOR.temp_q, hi])
    | succ k => rw [← Nat.add_assoc, Nat.add_right_comm, ih (by omega) (by omega)]; rfl

/-- The three levels after a reading of `t` quarters of a degree. -/
def thermalLevels (s : State) (t : Int) : State :=
  let s := thermalLevel s NRG_STATUS.warn (s.rd NRG_THERM.warn_c) 0x062 t
  let s := thermalLevel s NRG_STATUS.throttle (s.rd NRG_THERM.throttle_c) 0x063 t
  thermalLevel s NRG_STATUS.critical 110 0x064 t

/-- Throttling and the alert pin follow the levels. -/
def followLevels (s : State) : State :=
  let thr := s.on NRG_STATUS.throttle
  let s := { s with nrg := { s.nrg with throttle := thr }, pins := { s.pins with thermAlert := !s.on NRG_STATUS.warn } }
  if thr then legFlag s 5 else s

/-- What a sample does once its sensors are shown. -/
def thermalFollow (s : State) (t : Int) : State := noteAllowance (followLevels (thermalLevels s t))

/-- The clocks stop at a trip (R118, R119). -/
def trip (s : State) : State :=
  { s with nrg := { s.nrg with tripped := true, tripLatch := true },
           pins := { s.pins with thermTrip := false, thermAlert := true, ppsOut := false, pairAlive := false } }

/-- The sensors shown, with the hottest of them. -/
def showSensors (s : State) (rs : List Nat) : State :=
  ((showReadings rs 0 s).wr NRG_THERM_STAT.max_c (wrapInt 8 ((hottest rs).2 / 4))).wr NRG_THERM_STAT.hottest (hottest rs).1

theorem execThermalSample_eq (rs : List Nat) (s : State) : execThermalSample rs s = run s fun s =>
    let rs := (rs ++ List.replicate (24 - rs.length) 0).take 24
    if 460 < (hottest rs).2 then trip (thermalFollow (showSensors s rs) (hottest rs).2)
    else thermalFollow (showSensors s rs) (hottest rs).2 := by
  unfold execThermalSample thermalFollow followLevels thermalLevels showSensors showReadings trip
  generalize noteAllowance = note
  generalize thermalLevel = level
  generalize State.wr = write
  rfl

theorem exec_thermalSample (hrun : stopped s = false) (hlen : rs.length = 24) : exec (.thermalSample rs) s =
    .next (if 460 < (hottest rs).2 then trip (thermalFollow (showSensors s rs) (hottest rs).2)
      else thermalFollow (showSensors s rs) (hottest rs).2) := by
  have hall : (rs ++ List.replicate (24 - rs.length) 0).take 24 = rs := by
    rw [hlen, Nat.sub_self, List.replicate_zero, List.append_nil, ← hlen, List.take_length]
  change execThermalSample rs s = _
  rw [execThermalSample_eq, run_running s _ hrun]
  simp only [hall]

theorem rd_thermalLevel {d e : Desc} {thresh src : Nat} {t : Int} (hd : d.apart e = true)
    (hbit : IRQ_SRC.asserted.apart e = true) (hbad : IRQ_MSIX_BAD.count.apart e = true) (i j : Nat) :
    (thermalLevel s d thresh src t).rd e i j = s.rd e i j := by
  unfold thermalLevel
  dsimp only
  split
  · rw [rd_raise _ _ _ _ hbit hbad, State.rd_wr_apart _ _ _ _ _ _ hd]
  · rw [State.rd_wr_apart _ _ _ _ _ _ hd]

theorem rd_thermalLevel_same {d : Desc} {thresh src : Nat} {t : Int} (hhas : d.has 0 0 = true) (hwidth : 0 < d.width)
    (hbit : IRQ_SRC.asserted.apart d = true) (hbad : IRQ_MSIX_BAD.count.apart d = true) :
    (thermalLevel s d thresh src t).rd d = flag (levelAfter (s.on d) thresh t) := by
  have hflag (b : Bool) : flag b % 2 ^ d.width = flag b := by
    refine Nat.mod_eq_of_lt (Nat.lt_of_le_of_lt ?_ (Nat.one_lt_two_pow (Nat.ne_of_gt hwidth)))
    cases b <;> decide
  unfold thermalLevel
  dsimp only
  split
  · rw [rd_raise _ _ _ _ hbit hbad, State.rd_wr_same _ _ _ _ _ hhas, hflag]
  · rw [State.rd_wr_same _ _ _ _ _ hhas, hflag]

theorem rd_noteAllowance {e : Desc} (hspent : NRG_STATUS.allow_spent.apart e = true) (hbit : IRQ_SRC.asserted.apart e = true)
    (hbad : IRQ_MSIX_BAD.count.apart e = true) (i j : Nat) : (noteAllowance s).rd e i j = s.rd e i j := by
  unfold noteAllowance
  dsimp only
  split
  · rw [rd_raise _ _ _ _ hbit hbad]
    exact State.rd_wr_apart _ _ _ _ _ _ hspent
  · exact State.rd_wr_apart _ _ _ _ _ _ hspent

/-- What a part of the state that neither registers nor the flags of the leg are in keeps of the level and allowance steps. -/
theorem noteAllowance_op (op : State → α) (hwr : ∀ (t : State) d v i j, op (t.wr d v i j) = op t) (hraise : ∀ t n, op (raise t n) = op t)
    (hflag : ∀ t b, op (legFlag t b) = op t) (s : State) : op (noteAllowance s) = op s := by
  unfold noteAllowance
  dsimp only
  split
  · rw [hraise, hflag, hwr]
  · rw [hwr]

theorem thermalLevel_op (op : State → α) (hwr : ∀ (t : State) d v i j, op (t.wr d v i j) = op t) (hraise : ∀ t n, op (raise t n) = op t)
    (s : State) (d : Desc) (thresh src : Nat) (t : Int) : op (thermalLevel s d thresh src t) = op s := by
  unfold thermalLevel
  dsimp only
  split
  · rw [hraise, hwr]
  · rw [hwr]

theorem rd_followLevels (s : State) (e : Desc) (i j : Nat) : (followLevels s).rd e i j = s.rd e i j := by
  unfold followLevels
  dsimp only
  split <;> exact State.rd_congr rfl _ _ _

theorem rd_thermalFollow {e : Desc} (hspent : NRG_STATUS.allow_spent.apart e = true) (hbit : IRQ_SRC.asserted.apart e = true)
    (hbad : IRQ_MSIX_BAD.count.apart e = true) (t : Int) (i j : Nat) :
    (thermalFollow s t).rd e i j = (thermalLevels s t).rd e i j := by
  rw [thermalFollow, rd_noteAllowance hspent hbit hbad, rd_followLevels]

theorem rd_warn_thermalLevels (t : Int) :
    (thermalLevels s t).rd NRG_STATUS.warn = flag (levelAfter (s.on NRG_STATUS.warn) (s.rd NRG_THERM.warn_c) t) := by
  unfold thermalLevels
  dsimp only
  rw [rd_thermalLevel (by decide) (by decide) (by decide), rd_thermalLevel (by decide) (by decide) (by decide),
    rd_thermalLevel_same (by decide) (by decide) (by decide) (by decide)]

theorem rd_throttle_thermalLevels (t : Int) :
    (thermalLevels s t).rd NRG_STATUS.throttle = flag ((thermalLevels s t).on NRG_STATUS.throttle) := by
  have h : ∃ b, (thermalLevels s t).rd NRG_STATUS.throttle = flag b := by
    unfold thermalLevels
    dsimp only
    rw [rd_thermalLevel (by decide) (by decide) (by decide), rd_thermalLevel_same (by decide) (by decide) (by decide) (by decide)]
    exact ⟨_, rfl⟩
  obtain ⟨b, hb⟩ := h
  rw [State.on, hb]
  cases b <;> rfl

theorem rd_sensor_thermalLevels (t : Int) (k : Nat) :
    (thermalLevels s t).rd NRG_SENSOR.temp_q k = s.rd NRG_SENSOR.temp_q k := by
  unfold thermalLevels
  dsimp only
  rw [rd_thermalLevel (by decide) (by decide) (by decide), rd_thermalLevel (by decide) (by decide) (by decide),
    rd_thermalLevel (by decide) (by decide) (by decide)]

theorem thermalLevels_op (op : State → α) (hwr : ∀ (t : State) d v i j, op (t.wr d v i j) = op t)
    (hraise : ∀ t n, op (raise t n) = op t) (s : State) (t : Int) : op (thermalLevels s t) = op s := by
  have hlevel := thermalLevel_op op hwr hraise
  exact (hlevel _ _ _ _ _).trans ((hlevel _ _ _ _ _).trans (hlevel _ _ _ _ _))

theorem thermalFollow_op (op : State → α) (hwr : ∀ (t : State) d v i j, op (t.wr d v i j) = op t)
    (hraise : ∀ t n, op (raise t n) = op t) (hflag : ∀ t b, op (legFlag t b) = op t) (s : State) (t : Int) :
    op (thermalFollow s t) = op (followLevels (thermalLevels s t)) := noteAllowance_op op hwr hraise hflag _

theorem followLevels_tt (s : State) : (followLevels s).tt = s.tt := by
  unfold followLevels
  dsimp only
  split <;> rfl

theorem followLevels_throttle (s : State) : (followLevels s).nrg.throttle = s.on NRG_STATUS.throttle := by
  unfold followLevels
  dsimp only
  split
  · simp only [legFlag]
  · rfl

theorem followLevels_tripped (s : State) : (followLevels s).nrg.tripped = s.nrg.tripped := by
  unfold followLevels
  dsimp only
  split <;> rfl

theorem followLevels_thermAlert (s : State) : (followLevels s).pins.thermAlert = !s.on NRG_STATUS.warn := by
  unfold followLevels
  dsimp only
  split <;> rfl

/-! ### The sensors -/

theorem rd_sensor_showSensors (hlen : rs.length = 24) {k : Nat} (hk : k < 24) :
    (showSensors s rs).rd NRG_SENSOR.temp_q k = rs.getD k 0 % 2 ^ 12 := by
  have h := rd_showReadings rs (k := k) (i := 0) (by omega) (by omega) s
  rw [Nat.zero_add] at h
  rw [showSensors, State.rd_wr_apart _ _ _ _ _ _ (by decide), State.rd_wr_apart _ _ _ _ _ _ (by decide), h]

theorem rd_showSensors {e : Desc} (hq : NRG_SENSOR.temp_q.apart e = true) (hmax : NRG_THERM_STAT.max_c.apart e = true)
    (hhot : NRG_THERM_STAT.hottest.apart e = true) (i j : Nat) : (showSensors s rs).rd e i j = s.rd e i j := by
  rw [showSensors, State.rd_wr_apart _ _ _ _ _ _ hhot, State.rd_wr_apart _ _ _ _ _ _ hmax]
  exact showReadings_op (fun t => t.rd e i j) (fun t v k => State.rd_wr_apart t _ _ _ _ _ hq) rs 0 s

theorem showSensors_op (op : State → α) (hwr : ∀ (t : State) d v i j, op (t.wr d v i j) = op t) : op (showSensors s rs) = op s := by
  rw [showSensors, hwr, hwr]
  exact showReadings_op op (fun t v i => hwr t _ v i 0) rs 0 s

end Thermal

/-- Settles O11: domains switch off and wake by their state and their work, and a sample moves the levels and may trip. -/
theorem powerDomainsAndThermalLevels : Obligations.PowerDomainsAndThermalLevels := by
  unfold Obligations.PowerDomainsAndThermalLevels
  refine ⟨?idleOff, fun s d hrun hstate hgate hbusy hidle => exec_domainIdleOff hrun hstate hgate hbusy hidle, ?off,
    fun s d hrun _ h => exec_domainWake hrun h, ?offQuiet, ?offBusy, ?wake, ?levels, ?trips⟩
  case idleOff =>
    intro s d hrun hstate hgate hbusy hd hidle
    exact ⟨_, exec_domainIdleOff hrun hstate hgate hbusy (.inr hidle), domainState_setDomain_same _ _ _,
      testBit_domOn_setDomain hd, by simp, by simp⟩
  case off =>
    intro s d hrun hstate hbusy
    rw [exec_domainOffComplete hrun hstate, hbusy, Bool.and_false, if_neg (by decide)]
  case offQuiet =>
    intro s d hrun hstate hbusy hd
    refine ⟨setDomain s d .off, ?_, domainState_setDomain_same _ _ _, testBit_domOn_setDomain hd, by simp [setDomain_nrg], by simp⟩
    rw [exec_domainOffComplete hrun hstate, hbusy, Bool.and_false, if_neg (by decide)]
  case offBusy =>
    intro s d hrun hstate hbusy hd hmeter
    have hoff := domainState_setDomain_same s d .off
    have hm : (setDomain s d .off).nrg.metering = true := by rw [setDomain_nrg]; exact hmeter
    refine ⟨wakeDomain (setDomain s d .off) d, ?_, domainState_wakeDomain hoff hm, testBit_domOn_wakeDomain hoff hm hd, ?_, ?_⟩
    · rw [exec_domainOffComplete hrun hstate, hbusy, Bool.and_true, if_pos (decide_eq_true hd)]
    · rw [rd_wakes_wakeDomain hoff hm, rd_setDomain (by decide) (by decide)]
    · rw [est_wakeDomain hoff hm, rd_setDomain (by decide) (by decide), setDomain_nrg]
  case wake =>
    intro s d hrun hstate hd hmeter
    exact ⟨_, exec_domainWake hrun (.inl hd), domainState_wakeDomain hstate hmeter,
      testBit_domOn_wakeDomain hstate hmeter (by omega), rd_wakes_wakeDomain hstate hmeter, est_wakeDomain hstate hmeter,
      act_wakeDomain hstate hmeter⟩
  case levels =>
    intro s rs hrun hlen hcool
    refine ⟨thermalFollow (showSensors s rs) (hottest rs).2, ?_, ?_, ?_, ?_, ?_, ?_, ?_⟩
    · rw [exec_thermalSample hrun hlen, if_neg (by omega)]
    · rw [rd_thermalFollow (by decide) (by decide) (by decide), rd_sensor_thermalLevels, rd_sensor_showSensors hlen (by decide)]
    · rw [rd_thermalFollow (by decide) (by decide) (by decide), rd_warn_thermalLevels, State.on,
        rd_showSensors (by decide) (by decide) (by decide), rd_showSensors (by decide) (by decide) (by decide)]
      rfl
    · rw [rd_thermalFollow (by decide) (by decide) (by decide), rd_throttle_thermalLevels,
        thermalFollow_op (fun t => t.nrg.throttle) (by simp) (by simp) (fun _ _ => rfl), followLevels_throttle]
    · rw [thermalFollow_op (fun t => t.nrg.tripped) (by simp) (by simp) (fun _ _ => rfl), followLevels_tripped,
        thermalLevels_op (fun t => t.nrg.tripped) (by simp) (by simp), showSensors_op (fun t => t.nrg.tripped) (by simp)]
    · rw [thermalFollow_op (fun t => t.pins.thermAlert) (by simp) (by simp) (fun _ _ => rfl), followLevels_thermAlert, State.on,
        State.on, rd_thermalFollow (by decide) (by decide) (by decide)]
    · rw [thermalFollow_op State.tt (by simp) (by simp) (fun _ _ => rfl), followLevels_tt,
        thermalLevels_op State.tt (by simp) (by simp), showSensors_op State.tt (by simp)]
  case trips =>
    intro s rs hrun hlen hhot
    refine ⟨_, (exec_thermalSample hrun hlen).trans (by rw [if_pos hhot]), rfl, rfl, rfl, rfl, ?_⟩
    have hregs (x : State) : (trip x).rd NRG_SENSOR.temp_q 23 = x.rd NRG_SENSOR.temp_q 23 := rfl
    rw [hregs, rd_thermalFollow (by decide) (by decide) (by decide), rd_sensor_thermalLevels, rd_sensor_showSensors hlen (by decide)]

end Sys2Proof.Machine
end

section
/-! SUPPORT. What a free port sends, the end of a frame, and refills (O23). -/
namespace Sys2Proof.Machine

/-! ### The choice of a free port -/

section Choice

variable {s s1 s2 : State} {p c g k : Nat} {f : TmFrame} {rest : List TmFrame}

theorem exec_portChoice_pause (hrun : stopped s = false) (hport : isPort s p = true) (hen : enabled s .tm = true)
    (hidle : tmSending s p = .idle) {x : PauseGroup} {l : List PauseGroup} (hready : readyPause s p = some (x, l)) :
    exec (.portChoice p) s = .next (setSending { s with pp := { s.pp with genPause := Map.set s.pp.genPause p l } } p
      (.pause (pauseFrame s p x))) := by
  change execPortChoice p s = _
  rw [execPortChoice, run_running s _ hrun]
  simp [hport, hen, hidle, hready]

theorem exec_portChoice_idle (hrun : stopped s = false)
    (h : isPort s p = false ∨ enabled s .tm = false ∨ tmSending s p ≠ .idle) : exec (.portChoice p) s = .next s := by
  change execPortChoice p s = _
  rw [execPortChoice, run_running s _ hrun, if_pos]
  simpa [Bool.or_eq_true, or_assoc] using h

/-- The frame that the rounds choose starts on the wire. -/
theorem exec_portChoice_frame (hrun : stopped s = false) (hport : isPort s p = true) (hen : enabled s .tm = true)
    (hidle : tmSending s p = .idle) (hready : readyPause s p = none) (hgated : gated s p = false) (hfit : someUnfit s p = false)
    (hclass : chooseClass s p = some (c, s1)) (hgroup : chooseGroup s1 p c = some (g, s2))
    (hqueue : tmQueue s2 (tmKey p g c) = f :: rest) (hmac : macDiscard s2 p f = none) :
    exec (.portChoice p) s = .next (startFrame s2 p g c f ((s.rd TM_PORT.sp p).testBit c)) := by
  have hdrop : dropOversize s p = s := by rw [dropOversize, hgated]; rfl
  change execPortChoice p s = _
  rw [execPortChoice, run_running s _ hrun]
  simp [hport, hen, hidle, hready, hdrop, hfit, sendChosen, hclass, hgroup, hqueue, hmac]

/-- The rounds of a choice change the rounds alone. -/
theorem chooseClass_op {α : Type} (op : State → α) (hop : ∀ t x, op { t with tm := x } = op t)
    (h : chooseClass s p = some (c, s1)) : op s1 = op s := by
  unfold chooseClass at h
  dsimp only at h
  split at h
  · obtain ⟨-, rfl⟩ := Prod.mk.inj (Option.some.inj h)
    rfl
  · obtain ⟨x, -, hx⟩ := Option.map_eq_some_iff.mp h
    obtain ⟨-, rfl⟩ := Prod.mk.inj hx
    exact hop _ _

theorem chooseGroup_op {α : Type} (op : State → α) (hop : ∀ t x, op { t with tm := x } = op t)
    (h : chooseGroup s p c = some (g, s1)) : op s1 = op s := by
  obtain ⟨x, -, hx⟩ := Option.map_eq_some_iff.mp h
  obtain ⟨-, rfl⟩ := Prod.mk.inj hx
  exact hop _ _

/-! ### A frame on the wire -/

theorem setLevel_op {α : Type} (op : State → α) (hwr : ∀ (t : State) d v i j, op (t.wr d v i j) = op t)
    (habc : ∀ t x, op { t with abc := x } = op t) (t : State) (x : Shaper) (v : Int) : op (setLevel t x v) = op t := by
  unfold setLevel
  dsimp only
  rw [habc, hwr]

theorem chargeShaper_op {α : Type} (op : State → α) (hwr : ∀ (t : State) d v i j, op (t.wr d v i j) = op t)
    (habc : ∀ t x, op { t with abc := x } = op t) (len : Nat) (t : State) (x : Shaper) : op (chargeShaper len t x) = op t := by
  unfold chargeShaper
  split
  · exact setLevel_op op hwr habc _ _ _
  · rfl

theorem syncTxts_op {α : Type} (op : State → α) (hwr : ∀ (t : State) d v i j, op (t.wr d v i j) = op t) (t : State) (p : Nat) :
    op (syncTxts t p) = op t := by
  unfold syncTxts
  dsimp only
  split <;> simp only [hwr]

theorem stampDeparture_op {α : Type} (op : State → α) (hwr : ∀ (t : State) d v i j, op (t.wr d v i j) = op t)
    (hraise : ∀ t n, op (raise t n) = op t) (htt : ∀ t x, op { t with tt := x } = op t) (t : State) (p : Nat) (x : Packet) :
    op (stampDeparture t p x) = op t := by
  unfold stampDeparture pushTxStamp
  dsimp only
  split
  · split
    · exact hwr _ _ _ _ _
    · rw [hraise, syncTxts_op op hwr, htt]
  · rfl

/-- What a frame's start leaves: all but registers, TM, the timestamps and the abacus. -/
theorem startFrame_op {α : Type} (op : State → α) (hwr : ∀ (t : State) d v i j, op (t.wr d v i j) = op t)
    (hraise : ∀ t n, op (raise t n) = op t) (htt : ∀ t x, op { t with tt := x } = op t)
    (htm : ∀ t x, op { t with tm := x } = op t) (habc : ∀ t x, op { t with abc := x } = op t) (strict : Bool) :
    op (startFrame s p g c f strict) = op s := by
  have hcharge := chargeShaper_op op hwr habc f.pkt.frame.length
  unfold startFrame setSending
  dsimp only [List.foldl_cons, List.foldl_nil]
  rw [htm, stampDeparture_op op hwr hraise htt, htm, hcharge, hcharge, hcharge]
  exact htm _ _

theorem tmQueue_startFrame (hqueue : tmQueue s (tmKey p g c) = f :: rest) (strict : Bool) :
    tmQueue (startFrame s p g c f strict) (tmKey p g c) = rest := by
  have hcharge := chargeShaper_op (fun t => t.tm.queues) (by simp) (fun _ _ => rfl) f.pkt.frame.length
  have hqueues : (startFrame s p g c f strict).tm.queues = (popQueue s (tmKey p g c)).tm.queues := by
    unfold startFrame setSending
    dsimp only [List.foldl_cons, List.foldl_nil]
    rw [stampDeparture_op (fun t => t.tm.queues) (by simp) (by simp) (fun _ _ => rfl)]
    exact (hcharge _ _).trans ((hcharge _ _).trans (hcharge _ _))
  rw [tmQueue, hqueues, popQueue]
  exact (Map.get_upd_same _ _ _).trans (by rw [← tmQueue, hqueue, List.tail_cons])

theorem Map.getD_find {α : Type} (m : Map α) (k : Nat) (d : α) : (Map.find m k).getD d = Map.getD m k d := by
  induction m with
  | nil => rfl
  | cons x m ih =>
    simp only [Map.find, Map.getD]
    split
    · rfl
    · exact ih

theorem tmSending_setSending (s : State) (p : Nat) (x : Sending) : tmSending (setSending s p x) p = x := by
  rw [tmSending, Map.getD_find]
  exact Map.getD_setD_same _ _ _ _

theorem rd_setLevel {e : Desc} (x : Shaper) (h : x.level.apart e = true) (v : Int) (i j : Nat) :
    (setLevel s x v).rd e i j = s.rd e i j := State.rd_wr_apart s _ _ _ _ _ h

theorem rd_chargeShaper {e : Desc} (x : Shaper) (h : x.level.apart e = true) (len i j : Nat) :
    (chargeShaper len s x).rd e i j = s.rd e i j := by
  unfold chargeShaper
  split
  · exact rd_setLevel x h _ i j
  · rfl

theorem rd_stampDeparture_oneStep (x : Packet) (q i j : Nat) :
    (stampDeparture s q x).rd TT_PORT_LAT.one_step i j = s.rd TT_PORT_LAT.one_step i j := by
  unfold stampDeparture pushTxStamp syncTxts
  dsimp only
  split
  · split
    · exact State.rd_wr_apart _ _ _ _ _ _ (by decide)
    · rw [rd_raise _ _ _ _ (by decide) (by decide)]
      split <;> simp (disch := decide) only [State.rd_wr_apart] <;> rfl
  · rfl

/-- A port without one-step timestamps sends the frame as it stands. -/
theorem oneStep_off (h : s.rd TT_PORT_LAT.one_step p = 0) (bs : Bytes) : oneStep s p bs = bs := by
  unfold oneStep
  split
  · rw [if_neg]
    simp [on_of_rd_zero h]
  · rfl

theorem tmSending_startFrame (honestep : s.rd TT_PORT_LAT.one_step p = 0) (strict : Bool) :
    tmSending (startFrame s p g c f strict) p = .frame (tmKey p g c) f := by
  unfold startFrame
  dsimp only [List.foldl_cons, List.foldl_nil]
  rw [tmSending_setSending, oneStep_off]
  rw [rd_stampDeparture_oneStep]
  exact (rd_chargeShaper (portShaper p) (show TM_PORT.level.apart _ = true by decide) _ p 0).trans
    ((rd_chargeShaper (classShaper p c) (show TM_CLASS.level.apart _ = true by decide) _ p 0).trans
      ((rd_chargeShaper (groupShaper (p * 512 + g)) (show TM_GROUP.level.apart _ = true by decide) _ p 0).trans honestep))

end Choice

/-! ### The end of a frame -/

section Departure

variable {s : State} {p k : Nat} {f : TmFrame}

theorem exec_frameTxDone_pause (hrun : stopped s = false) {bs : Bytes} (hsending : tmSending s p = .pause bs)
    (hmeter : s.nrg.metering = false) : exec (.frameTxDone p) s =
      .next { (setSending s p .idle).count PP_PORT_CNT.count 1 p 11 with
        pp := { s.pp with txDone := s.pp.txDone ++ [(p, withFcs bs)] } } := by
  have hunits (t : State) (n a : Nat) (ht : t.nrg.metering = false) : ethUnits t p n a = t := by
    simp [ethUnits, activity, ht]
  have hm : ((setSending s p .idle).count PP_PORT_CNT.count 1 p 11).nrg.metering = false := by
    rw [State.count_nrg]
    exact hmeter
  change execFrameTxDone p s = _
  rw [execFrameTxDone, run_running s _ hrun]
  simp only [hsending]
  rw [hunits]
  · rw [State.count_pp]
    rfl
  · exact hm

/-- The counters and accounts of a frame that has left. -/
def frameLeft (s : State) (p k : Nat) (f : TmFrame) (wire : Bytes) : State :=
  let acct := f.pkt.info.account
  let pg := p * 512 + k % 4096 / 8
  let x := countGroup (countGroup (((setSending s p .idle).count PP_PORT_CNT.count 1 p 9).count PP_PORT_CNT.count wire.length p 10)
    pg 0 1) pg 1 wire.length
  pmc (pmc (sramAccess (ethUnits x p wire.length acct) f.lines acct) 0x300 p 1 (some acct)) 0x301 p wire.length (some acct)

/-- A frame on the link: padded to 60 bytes, with its FCS. -/
def wireFrame (f : TmFrame) : Bytes := withFcs (fitBytes (max 60 f.pkt.frame.length) f.pkt.frame)

theorem wireFrame_length (f : TmFrame) : (wireFrame f).length = max 60 f.pkt.frame.length + 4 := by
  rw [wireFrame, withFcs, List.length_append, leBytes_length, fitBytes, List.length_append, List.length_take, List.length_replicate]
  omega

@[simp] theorem frameLeft_pp (wire : Bytes) : (frameLeft s p k f wire).pp = s.pp := by
  simp [frameLeft, ethUnits, countGroup, setSending]

theorem exec_frameTxDone_frame (hrun : stopped s = false) (hsending : tmSending s p = .frame k f) : exec (.frameTxDone p) s =
    .next (freeHandle { frameLeft s p k f (wireFrame f) with
      pp := { s.pp with txDone := s.pp.txDone ++ [(p, wireFrame f)] } } f.pkt.info.handle) := by
  change execFrameTxDone p s = _
  rw [execFrameTxDone, run_running s _ hrun]
  have hpp := frameLeft_pp (s := s) (p := p) (k := k) (f := f) (wireFrame f)
  obtain ⟨x, hx⟩ : ∃ x, frameLeft s p k f (wireFrame f) = x := ⟨_, rfl⟩
  rw [hx] at hpp
  rw [hx, ← hpp]
  simp only [frameLeft, wireFrame] at hx
  simp only [hsending, hx, wireFrame]

theorem markPause_txDone (s : State) (p q : Nat) (b : Bool) : (markPause s p q b).pp.txDone = s.pp.txDone := by
  simp [markPause]

theorem markPause_op {α : Type} (op : State → α) (hwr : ∀ (t : State) v i, op (t.wr PP_PORT_STAT.xoff_sent v i) = op t)
    (hpp : ∀ t x, op { t with pp := x } = op t) (s : State) (p q : Nat) (b : Bool) : op (markPause s p q b) = op s := by
  unfold markPause
  dsimp only
  rw [hpp, hwr]

/-- What keeps the marks of the pauses keeps the check of a port's flow control. -/
theorem pauseCheck_op {α : Type} (op : State → α) (hmark : ∀ t p q b, op (markPause t p q b) = op t) (s : State) (p : Nat) :
    op (pauseCheck s p) = op s := by
  unfold pauseCheck
  split
  · refine foldl_frame op _ (fun t q => ?_) _ _
    unfold pauseStep
    dsimp only
    split
    · exact hmark _ _ _ _
    split
    · exact hmark _ _ _ _
    · rfl
  · rfl

theorem freeHandle_op {α : Type} (op : State → α) (hmark : ∀ t p q b, op (markPause t p q b) = op t)
    (hholds : ∀ (t : State) x, op { t with pp := { t.pp with holds := x } } = op t) (s : State) (h : Nat) :
    op (freeHandle s h) = op s := by
  unfold freeHandle
  split
  · rfl
  · dsimp only
    split
    · exact hholds _ _
    · rw [pauseCheck_op op hmark]
      exact hholds _ _

/-- The counters of a port's frames and bytes sent, once a frame has left. -/
theorem rd_portCnt_frameLeft {wire : Bytes} {n : Nat} :
    (frameLeft s p k f wire).rd PP_PORT_CNT.count p n =
      ((s.count PP_PORT_CNT.count 1 p 9).count PP_PORT_CNT.count wire.length p 10).rd PP_PORT_CNT.count p n := by
  unfold frameLeft
  dsimp only
  rw [rd_pmc _ _ _ _ _ _ _ (by decide), rd_pmc _ _ _ _ _ _ _ (by decide), rd_sramAccess _ _ _ _ _ (by decide), ethUnits,
    rd_activity]
  simp only [countGroup, State.count]
  refine State.rd_congr ?_ _ _ _
  simp only [State.wr, setSending]
  split <;> split <;> rfl

theorem rd_portCnt_sent (hp : p < 16) (n : Nat) :
    ((s.count PP_PORT_CNT.count 1 p 9).count PP_PORT_CNT.count n p 10).rd PP_PORT_CNT.count p 9 =
      (s.rd PP_PORT_CNT.count p 9 + 1) % 2 ^ 64 ∧
    ((s.count PP_PORT_CNT.count 1 p 9).count PP_PORT_CNT.count n p 10).rd PP_PORT_CNT.count p 10 =
      (s.rd PP_PORT_CNT.count p 10 + n) % 2 ^ 64 := by
  have hhas (j : Nat) (hj : j < 16) : PP_PORT_CNT.count.has p j = true := by simp [Desc.has, PP_PORT_CNT.count, hp, hj]
  have hkey (j l : Nat) (hjl : j ≠ l) : PP_PORT_CNT.count.key p j ≠ PP_PORT_CNT.count.key p l := by
    simp [Desc.key, PP_PORT_CNT.count]
    omega
  constructor
  · rw [State.count, State.rd_wr_other _ _ _ _ _ _ _ _ (hkey 9 10 (by decide)), State.count,
      State.rd_wr_same _ _ _ _ _ (hhas 9 (by decide))]
    rfl
  · rw [State.count, State.rd_wr_same _ _ _ _ _ (hhas 10 (by decide)), State.count,
      State.rd_wr_other _ _ _ _ _ _ _ _ (hkey 10 9 (by decide))]
    rfl

end Departure

/-! ### Refills -/

section Refill

variable {s : State} {p : Nat}

theorem exec_refillBoundary (hrun : stopped s = false) (hen : enabled s .tm = true) (hdue : refillDue s = true)
    (hbefore : dueBefore s (refillTime s) = false) : exec (.refillBoundary) s = .next (refillAll s) := by
  change execRefillBoundary s = _
  rw [execRefillBoundary, run_running s _ hrun, hen, hdue, hbefore]
  rfl

/-- The level of a shaper after its refill (R423). -/
def refilledLevel (s : State) (x : Shaper) : Int :=
  min (shaperLevel s x + ((s.rd x.rate x.i x.j * s.rd TM_CFG.refill_ns * 65536 / 8000000 : Nat) : Int))
    ((s.rd x.depth x.i x.j * 65536 : Nat) : Int)

theorem refillShaper_eq (s : State) (x : Shaper) :
    refillShaper s x = if shaperOn s x then setLevel s x (refilledLevel s x) else s := rfl

theorem refillShaper_op {α : Type} (op : State → α) (hset : ∀ t x v, op (setLevel t x v) = op t) (s : State) (x : Shaper) :
    op (refillShaper s x) = op s := by
  unfold refillShaper
  split
  · exact hset _ _ _
  · rfl

theorem refillAll_op {α : Type} (op : State → α) (hset : ∀ t x v, op (setLevel t x v) = op t)
    (hlast : ∀ (t : State) x, op { t with tm := { t.tm with lastRefill := x } } = op t) (hasked : applyAsked s .tm = false) :
    op (refillAll s) = op s := by
  unfold refillAll
  rw [hasked]
  exact (hlast _ _).trans (foldl_frame op refillShaper (refillShaper_op op hset) _ _)

theorem foldl_frame_mem {α β σ : Type} (op : σ → α) (f : σ → β → σ) (l : List β) (h : ∀ t, ∀ x ∈ l, op (f t x) = op t) (t : σ) :
    op (l.foldl f t) = op t := by
  induction l generalizing t with
  | nil => rfl
  | cons x l ih => rw [List.foldl_cons, ih fun u y hy => h u y (List.mem_cons_of_mem x hy), h t x List.mem_cons_self]

/-- What the refill of a port's shaper reads and writes. -/
def portShaperView (p : Nat) (s : State) : Nat × Nat × Nat × Nat × Nat :=
  (s.rd TM_PORT.shape_en p, s.rd TM_PORT.rate_kbps p, s.rd TM_PORT.depth p, s.rd TM_CFG.refill_ns, s.rd TM_PORT.level p)

theorem rd_refillShaper {e : Desc} {x : Shaper} (h : x.level.apart e = true) (t : State) (i j : Nat) :
    (refillShaper t x).rd e i j = t.rd e i j := by
  unfold refillShaper
  split
  · exact rd_setLevel x h _ i j
  · rfl

theorem setLevel_regs (s : State) (x : Shaper) (v : Int) : (setLevel s x v).regs = (s.wr x.level (wrapInt 64 v) x.i x.j).regs := rfl

theorem rd_setLevel_port (q : Nat) (v : Int) (t : State) :
    (setLevel t (portShaper q) v).rd TM_PORT.level p = (t.wr TM_PORT.level (wrapInt 64 v) q).rd TM_PORT.level p :=
  State.rd_congr (setLevel_regs t (portShaper q) v) _ _ _

/-- The refill of a class or a group leaves a port's shaper. -/
theorem portShaperView_refill_other {x : Shaper} (h : x.level = TM_CLASS.level ∨ x.level = TM_GROUP.level) (t : State) :
    portShaperView p (refillShaper t x) = portShaperView p t := by
  have hrd (e : Desc) (hc : TM_CLASS.level.apart e = true) (hg : TM_GROUP.level.apart e = true) (i j : Nat) :
      (refillShaper t x).rd e i j = t.rd e i j := by
    refine rd_refillShaper ?_ t i j
    rcases h with h | h
    · rw [h]; exact hc
    · rw [h]; exact hg
  simp (disch := decide) only [portShaperView, hrd]

theorem portShaper_level (q : Nat) : (portShaper q).level = TM_PORT.level := rfl

theorem portShaperView_tm (s : State) (x : TmState) : portShaperView p { s with tm := x } = portShaperView p s := rfl

theorem portShaperView_refill_port {q : Nat} (h : p ≠ q) (t : State) :
    portShaperView p (refillShaper t (portShaper q)) = portShaperView p t := by
  have hlevel : (refillShaper t (portShaper q)).rd TM_PORT.level p = t.rd TM_PORT.level p := by
    rw [refillShaper_eq]
    split
    · rw [rd_setLevel_port, State.rd_wr_member _ _ (by decide) h]
    · rfl
  have hrd (e : Desc) (he : TM_PORT.level.apart e = true) (i j : Nat) : (refillShaper t (portShaper q)).rd e i j = t.rd e i j :=
    rd_refillShaper (x := portShaper q) (by rw [portShaper_level]; exact he) t i j
  simp (disch := decide) only [portShaperView, hrd, hlevel]

theorem portShaperView_refill_ports (l : List Nat) (h : p ∉ l) (t : State) :
    portShaperView p ((l.map portShaper).foldl refillShaper t) = portShaperView p t := by
  refine foldl_frame_mem (portShaperView p) _ _ (fun u x hx => ?_) t
  obtain ⟨q, hq, rfl⟩ := List.mem_map.mp hx
  exact portShaperView_refill_port (by rintro rfl; exact h hq) u

/-- The level of a port's shaper after a refill: its own refill is the only one that reaches it. -/
theorem shaperLevel_refillAll (hp : p < 16) (hasked : applyAsked s .tm = false) (hshape : s.rd TM_PORT.shape_en p = 1)
    (hdepth : s.rd TM_PORT.depth p < 2 ^ 24) : shaperLevel (refillAll s) (portShaper p) =
      min (shaperLevel s (portShaper p) + ((s.rd TM_PORT.rate_kbps p * s.rd TM_CFG.refill_ns * 65536 / 8000000 : Nat) : Int))
        ((s.rd TM_PORT.depth p * 65536 : Nat) : Int) := by
  obtain ⟨l1, l2, hl⟩ := List.append_of_mem (List.mem_range.mpr hp)
  have hnodup : (l1 ++ p :: l2).Nodup := hl ▸ List.nodup_range
  obtain ⟨hnot, -⟩ := List.nodup_cons.mp (List.perm_middle.nodup_iff.mp hnodup)
  rw [List.mem_append, not_or] at hnot
  obtain ⟨hnot1, hnot2⟩ := hnot
  have hrest (t : State) : portShaperView p (((List.range 16).flatMap (fun q => (List.range 8).map (classShaper q)) ++
      (listedMembers s TM_GROUP.shape_en).map groupShaper).foldl refillShaper t) = portShaperView p t := by
    refine foldl_frame_mem (portShaperView p) _ _ (fun u x hx => portShaperView_refill_other ?_ u) t
    rcases List.mem_append.mp hx with hx | hx
    · obtain ⟨q, -, hx⟩ := List.mem_flatMap.mp hx
      obtain ⟨c, -, rfl⟩ := List.mem_map.mp hx
      exact .inl rfl
    · obtain ⟨g, -, rfl⟩ := List.mem_map.mp hx
      exact .inr rfl
  have hbefore := portShaperView_refill_ports l1 hnot1 s
  generalize hu : (l1.map portShaper).foldl refillShaper s = u at hbefore
  have hafter : portShaperView p (refillAll s) = portShaperView p (refillShaper u (portShaper p)) := by
    have hall : allShapers s = l1.map portShaper ++ (portShaper p :: (l2.map portShaper ++
        ((List.range 16).flatMap (fun q => (List.range 8).map (classShaper q)) ++
          (listedMembers s TM_GROUP.shape_en).map groupShaper))) := by
      rw [allShapers, hl]
      simp
    rw [refillAll, hasked, if_neg (by decide)]
    dsimp only
    rw [portShaperView_tm, hall, List.foldl_append, hu, List.foldl_cons, List.foldl_append, hrest,
      portShaperView_refill_ports l2 hnot2]
  simp only [portShaperView, Prod.mk.injEq] at hbefore hafter
  obtain ⟨hu1, hu2, hu3, hu4, hu5⟩ := hbefore
  obtain ⟨-, -, -, -, hlevel⟩ := hafter
  have hon : shaperOn u (portShaper p) = true := on_of_rd_one (hu1.trans hshape)
  have hset : (refillShaper u (portShaper p)).rd TM_PORT.level p =
      wrapInt 64 (refilledLevel u (portShaper p)) % 2 ^ TM_PORT.level.width := by
    rw [refillShaper_eq, if_pos hon, rd_setLevel_port, State.rd_wr_same u TM_PORT.level _ p 0 (by simp [Desc.has, TM_PORT.level, hp])]
  have hsame : shaperLevel u (portShaper p) = shaperLevel s (portShaper p) := congrArg (signed 64) hu5
  have hsigned (v : Nat) : signed 64 (v % 2 ^ TM_PORT.level.width) = signed 64 v := by
    rw [show TM_PORT.level.width = 64 from rfl]
    simp only [signed, Nat.mod_mod]
  have htarget : refilledLevel u (portShaper p) = min (shaperLevel s (portShaper p) +
      ((s.rd TM_PORT.rate_kbps p * s.rd TM_CFG.refill_ns * 65536 / 8000000 : Nat) : Int))
        ((s.rd TM_PORT.depth p * 65536 : Nat) : Int) := by
    rw [← hu2, ← hu3, ← hu4, ← hsame]
    rfl
  have hread : shaperLevel (refillAll s) (portShaper p) = signed 64 ((refillAll s).rd TM_PORT.level p) := rfl
  rw [hread, hlevel, hset, hsigned, htarget]
  obtain ⟨hlo, hhi⟩ := signed_range (w := 64) (by decide) (s.rd TM_PORT.level p)
  change -_ ≤ shaperLevel s (portShaper p) at hlo
  have hrange : (2 ^ (64 - 1) : Nat) = 9223372036854775808 := by decide
  rw [hrange] at hlo
  have hd : s.rd TM_PORT.depth p < 16777216 := hdepth
  refine signed_wrapInt (by decide) ?_ ?_
  · rw [hrange]
    exact Int.le_min.mpr ⟨by omega, by omega⟩
  · rw [hrange]
    exact Int.lt_of_le_of_lt (Int.min_le_right _ _) (by omega)

end Refill

/-- Settles O23: the pause frame first, then the frame that the rounds choose; the end of a frame; a refill to the depth. -/
theorem egressChoiceAndDeparture : Obligations.EgressChoiceAndDeparture := by
  unfold Obligations.EgressChoiceAndDeparture
  refine ⟨?pause, ?chosen, fun s p hrun h => exec_portChoice_idle hrun h,
    fun s p bs hrun hsending hmeter => exec_frameTxDone_pause hrun hsending hmeter, ?starts, ?departs, ?refill,
    fun s hrun hen hdue hbefore => exec_refillBoundary hrun hen hdue hbefore, ?notDue, ?departure⟩
  case pause =>
    intro s p g rest hrun hport hen hidle hgen hup htick
    refine exec_portChoice_pause hrun hport hen hidle ?_
    simp [readyPause, hgen, hup, htick]
  case chosen =>
    intro s s1 s2 p c g f rest hrun hport hen hidle hready hgated hfit hclass hgroup hqueue hmac
    exact exec_portChoice_frame hrun hport hen hidle hready hgated hfit hclass hgroup hqueue hmac
  case starts =>
    intro s s1 s2 p c g f rest hrun hport hen hidle hgen hgated hfit hclass hgroup hqueue hmac honestep
    have hready : readyPause s p = none := by simp [readyPause, hgen]
    have hrounds {α : Type} (op : State → α) (hop : ∀ t x, op { t with tm := x } = op t) : op s2 = op s :=
      (chooseGroup_op op hop hgroup).trans (chooseClass_op op hop hclass)
    have hframe {α : Type} (op : State → α) (hwr : ∀ (t : State) d v i j, op (t.wr d v i j) = op t)
        (hraise : ∀ t n, op (raise t n) = op t) (htt : ∀ t x, op { t with tt := x } = op t)
        (htm : ∀ t x, op { t with tm := x } = op t) (habc : ∀ t x, op { t with abc := x } = op t) :
        op (startFrame s2 p g c f ((s.rd TM_PORT.sp p).testBit c)) = op s :=
      (startFrame_op op hwr hraise htt htm habc _).trans (hrounds op htm)
    refine ⟨_, exec_portChoice_frame hrun hport hen hidle hready hgated hfit hclass hgroup hqueue hmac,
      tmSending_startFrame ?_ _, tmQueue_startFrame hqueue _, ?_, ?_, ?_⟩
    · exact (hrounds (fun t => t.rd TT_PORT_LAT.one_step p) (fun _ _ => rfl)).trans honestep
    · exact hframe (fun t => t.pp.holds) (by simp) (by simp) (fun _ _ => rfl) (fun _ _ => rfl) (fun _ _ => rfl)
    · exact hframe State.mem (by simp) (by simp) (fun _ _ => rfl) (fun _ _ => rfl) (fun _ _ => rfl)
    · exact hframe State.hostMem (by simp) (by simp) (fun _ _ => rfl) (fun _ _ => rfl) (fun _ _ => rfl)
  case departs =>
    intro s p k f hrun hp hsending
    have hfree {α : Type} (op : State → α) (hwr : ∀ (t : State) v i, op (t.wr PP_PORT_STAT.xoff_sent v i) = op t)
        (hpp : ∀ t x, op { t with pp := x } = op t) (t : State) (x : PpState) (h : Nat) :
        op (freeHandle { t with pp := x } h) = op t :=
      (freeHandle_op op (markPause_op op hwr hpp) (fun _ _ => hpp _ _) _ _).trans (hpp _ _)
    obtain ⟨hframes, hbytes⟩ := rd_portCnt_sent (s := s) hp (wireFrame f).length
    refine ⟨_, exec_frameTxDone_frame hrun hsending, ?_, ?_, ?_, ?_, ?_, ?_, ?_, ?_⟩
    · have htm := hfree State.tm (by simp) (fun _ _ => rfl) (frameLeft s p k f (wireFrame f))
        { s.pp with txDone := s.pp.txDone ++ [(p, wireFrame f)] } f.pkt.info.handle
      rw [tmSending, htm]
      simp only [frameLeft, pmc_tm, sramAccess_tm, ethUnits, activity_tm, countGroup, State.count_tm]
      exact tmSending_setSending s p .idle
    · exact freeHandle_op (fun t => t.pp.txDone) (fun t p q b => markPause_txDone t p q b) (fun _ _ => rfl) _ _
    · rw [hfree (fun t => t.rd PP_PORT_CNT.count p 9) (fun t v i => State.rd_wr_apart _ _ _ _ _ _ (by decide)) (fun _ _ => rfl),
        rd_portCnt_frameLeft, hframes]
    · rw [hfree (fun t => t.rd PP_PORT_CNT.count p 10) (fun t v i => State.rd_wr_apart _ _ _ _ _ _ (by decide)) (fun _ _ => rfl),
        rd_portCnt_frameLeft, hbytes, wireFrame_length, Nat.add_assoc]
    · rw [hfree (fun t => t.tm.queues) (by simp) (fun _ _ => rfl)]
      simp [frameLeft, ethUnits, countGroup, setSending]
    · rw [hfree State.mem (by simp) (fun _ _ => rfl)]
      simp [frameLeft, ethUnits, countGroup, setSending]
    · rw [hfree State.hostMem (by simp) (fun _ _ => rfl)]
      simp [frameLeft, ethUnits, countGroup, setSending]
    · rw [hfree State.links (by simp) (fun _ _ => rfl)]
      simp [frameLeft, ethUnits, countGroup, setSending]
  case refill =>
    intro s p hrun hp hen hdue hbefore hasked hshape hdepth
    refine ⟨_, exec_refillBoundary hrun hen hdue hbefore, shaperLevel_refillAll hp hasked hshape hdepth, ?_, ?_, ?_, ?_, ?_, ?_⟩
    · rw [refillAll, hasked, if_neg (by decide)]
      exact congrArg TtState.tt (foldl_frame State.tt refillShaper
        (refillShaper_op State.tt (setLevel_op State.tt (by simp) fun _ _ => rfl)) _ _)
    · exact refillAll_op (fun t => t.tm.queues) (setLevel_op (fun t => t.tm.queues) (by simp) fun _ _ => rfl) (fun _ _ => rfl) hasked
    · exact refillAll_op State.pp (setLevel_op State.pp (by simp) fun _ _ => rfl) (fun _ _ => rfl) hasked
    · exact refillAll_op State.mem (setLevel_op State.mem (by simp) fun _ _ => rfl) (fun _ _ => rfl) hasked
    · exact refillAll_op State.hostMem (setLevel_op State.hostMem (by simp) fun _ _ => rfl) (fun _ _ => rfl) hasked
    · exact refillAll_op State.links (setLevel_op State.links (by simp) fun _ _ => rfl) (fun _ _ => rfl) hasked
  case notDue =>
    intro s hrun h
    change execRefillBoundary s = _
    rw [execRefillBoundary, run_running s _ hrun, if_neg]
    rcases h with h | h <;> simp [h]
  case departure =>
    rintro s x p k f wire hrun hsending rfl rfl
    rw [exec_frameTxDone_frame hrun hsending]
    have hpp := frameLeft_pp (s := s) (p := p) (k := k) (f := f) (wireFrame f)
    obtain ⟨x, hx⟩ : ∃ x, frameLeft s p k f (wireFrame f) = x := ⟨_, rfl⟩
    rw [hx] at hpp ⊢
    rw [← hpp]
    simp only [frameLeft, wireFrame] at hx
    simp only [hx, wireFrame]

end Sys2Proof.Machine
end

section
/-! SUPPORT. A context's shadow copy in the ledger and telemetry area follows its software fields (R896): the refutation of O15. -/
namespace Sys2Proof.Machine

/-- A device whose ledger and telemetry area is configured with 64 MiB. -/
def shadowedDevice : State := { State.reset with areas := { ledger := 64 } }

/-- Its clocks run. -/
example : stopped shadowedDevice = false := by decide +kernel

/-- The shadow copy of queue 3 stands in internal memory after the write of its ring base. -/
theorem observed_queueContextWrite :
    observed (fun t => decide (t.mem = [])) (exec (.queueContextWrite (.host 0) 3 0 8 0x1000) shadowedDevice) = some false := by
  decide +kernel

/-- Refutes O15: its first clause has a write of a queue context leave internal memory. Where the ledger and telemetry area is
configured, the write reaches the shadow copy of the context, which stands in that area (R896). -/
theorem not_contextAndOwnerWrites : ¬ Obligations.ContextAndOwnerWrites := by
  unfold Obligations.ContextAndOwnerWrites
  rintro ⟨hwrite, -⟩
  obtain ⟨t, hexec, -, -, -, hmem, -⟩ := hwrite shadowedDevice 3 0x1000 (by decide +kernel) (by decide) (by decide +kernel)
    (by decide +kernel) (by decide +kernel) (by decide)
  have hkept : t.mem = [] := hmem.trans (by decide +kernel)
  exact of_decide_eq_false (observed_of_exec (f := fun t => decide (t.mem = [])) observed_queueContextWrite hexec) hkept

end Sys2Proof.Machine
end

section
/-! SUPPORT. A packet that goes to the slow path takes the lines that it needs there (R341): the refutation of O20. -/
namespace Sys2Proof.Machine

/-- A packet in the lines from 0 on, which waits for channel 7. -/
def slowItem : SlowItem := ⟨1, 3, 0, 7, {}⟩

/-- Pipeline 1 with that packet, which holds one line of the two that its metadata fill; the other channels have their own numbers. -/
def slowPipe : State :=
  let s := { State.reset with pp := { slow := [(1, [slowItem])], holds := [⟨0, 1, none, 0, []⟩] } }
  ((s.wr PP_CFG.reinject_ch 9 0).wr PP_CFG.reinject_ch 8 1).wr BLK_CFG.reply_ch 6

/-- Its clocks run. -/
example : stopped slowPipe = false := by decide +kernel

/-- The packet holds two lines once its baton has been sent. -/
theorem observed_slowPathBaton : observed (·.pp.holds) (exec (.slowPathBaton 1) slowPipe) = some [⟨0, 2, none, 0, []⟩] := by
  decide +kernel

/-- Refutes O20: its first clause has the lines held be as before once a slow-path packet's baton is sent. A packet that holds fewer
lines than its metadata and frame need takes them then (R341), here without a new handle. -/
theorem not_slowPathAndReinjectBatons : ¬ Obligations.SlowPathAndReinjectBatons := by
  unfold Obligations.SlowPathAndReinjectBatons
  rintro ⟨hsend, -⟩
  obtain ⟨t, hexec, -, -, -, hholds⟩ := hsend slowPipe 1 slowItem (by decide +kernel) (by decide) (by decide) (by decide)
    (by decide +kernel) (by decide +kernel) (by decide +kernel)
  rw [observed_of_exec observed_slowPathBaton hexec] at hholds
  exact absurd hholds (by decide +kernel)

end Sys2Proof.Machine
end

section
/-! SUPPORT. A commit leaves the rod of an account without a charge as it is: the refutation of O8. -/
namespace Sys2Proof.Machine

/-- NRG with an empty closed leg, and a register store that lists a consumed count of 65 bits for account 5. -/
def wideRod : State :=
  let s := State.reset.wr (enableField .nrg) 1
  { s with
    regs := Map.insert s.regs (NRG_ROD.consumed.key 5 0) (2 ^ 64)
    nrg := { s.nrg with closed := some {} } }

/-- Its clocks run. -/
example : stopped wideRod = false := by decide +kernel

/-- The count is as before the commit. -/
theorem observed_legCommit : observed (·.rd NRG_ROD.consumed 5) (exec .legCommit wideRod) = some (2 ^ 64) := by decide +kernel

/-- Refutes O8: its fourth clause has every account's consumed count advance modulo 2^64, of every state. A commit does not touch the
rod of an account without a charge, so that a value wider than its field, which no step writes but the clause admits, stays. -/
theorem not_meteringAndCommit : ¬ Obligations.MeteringAndCommit := by
  unfold Obligations.MeteringAndCommit
  rintro ⟨-, -, -, hcommit, -⟩
  obtain ⟨t, hexec, -, -, -, -, -, -, hconsumed, -⟩ := hcommit wideRod {} 5 (by decide +kernel) (by decide +kernel)
    (by decide +kernel) (by decide) (by decide +kernel)
  rw [observed_of_exec observed_legCommit hexec] at hconsumed
  exact absurd hconsumed (by decide +kernel)

end Sys2Proof.Machine
end

section
/-! SUPPORT. Credits, the ledger of a minute, its consumer, and snapshots (O10). -/
namespace Sys2Proof.Machine

section Credits

variable {s : State} {who : Initiator} {a d : Nat}

theorem exec_nrgCredit (hrun : stopped s = false) (hw : writable who NRG_CREDIT.account 0 s = true) (hdue : legDue s = false) :
    exec (.nrgCredit who a d) s = .next (noteShort (creditRod (noteShort s) a d)) := by
  change execNrgCredit who a d s = _
  rw [execNrgCredit, run_setupWrite hrun hw, hdue, if_neg (by decide)]

theorem exec_nrgCredit_late (hrun : stopped s = false) (hw : writable who NRG_CREDIT.account 0 s = true) (hdue : legDue s = true) :
    exec (.nrgCredit who a d) s =
      .next { s with nrg := { s.nrg with lateCredits := s.nrg.lateCredits ++ [(a % 4096, d % 2 ^ 48)] } } := by
  change execNrgCredit who a d s = _
  rw [execNrgCredit, run_setupWrite hrun hw, if_pos hdue]

end Credits

/-! ### A minute that is due -/

section Minute

variable {s : State} {c : MinuteClose}

/-- The minute is taken up. -/
def takeMinute (s : State) : State := { s with nrg := { s.nrg with minuteDue := none } }

theorem exec_ledgerMinuteWrite (hrun : stopped s = false) (hdue : s.nrg.minuteDue = some c) (hen : enabled s .nrg = true) :
    exec (.ledgerMinuteWrite) s = .next (writeMinute (takeSnapshot (takeMinute s) c.start) c) := by
  change execLedgerMinuteWrite s = _
  rw [execLedgerMinuteWrite, run_running s _ hrun]
  simp only [hdue, hen, if_true]
  rfl

theorem writeMinute_off (hoff : s.rd NRG_CTL.ledger_en = 0) : writeMinute s c = s := by
  simp [writeMinute, on_of_rd_zero hoff]

theorem takeSnapshot_off {start : Nat} (hoff : s.rd NRG_CTL.snap_en = 0) : takeSnapshot s start = s := by
  simp [takeSnapshot, on_of_rd_zero hoff]

/-- A minute while the snapshot before it has not been released (R125). -/
theorem takeSnapshot_missed {start : Nat} (hon : s.rd NRG_CTL.snap_en = 1) (hready : s.rd NRG_SNAP_SEQ.ready = 1) :
    takeSnapshot s start = raise ((s.countSat NRG_SNAP_SEQ.missed).wr NRG_STATUS.snap_missed 1) 0x067 := by
  simp [takeSnapshot, on_of_rd_one hon, on_of_rd_one hready]

/-- The rods' values, copied to the snapshot (R124). -/
def copyRods (s : State) : State :=
  (listedMembers s NRG_ROD.consumed ++ listedMembers s NRG_ROD.balance ++ listedMembers s NRG_SNAP.consumed ++
    listedMembers s NRG_SNAP.balance).foldl (fun t a =>
      (t.wr NRG_SNAP.consumed (t.rd NRG_ROD.consumed a) a).wr NRG_SNAP.balance (t.rd NRG_ROD.balance a) a) s

theorem takeSnapshot_taken {start : Nat} (hon : s.rd NRG_CTL.snap_en = 1) (hready : s.rd NRG_SNAP_SEQ.ready = 0) :
    takeSnapshot s start = raise (((copyRods s).wr NRG_SNAP_SEQ.seq (start / minuteNs)).wr NRG_SNAP_SEQ.ready 1) 0x067 := by
  simp [takeSnapshot, copyRods, on_of_rd_one hon, on_of_rd_zero hready]

theorem rd_copyRods {e : Desc} (hc : NRG_SNAP.consumed.apart e = true) (hb : NRG_SNAP.balance.apart e = true) (i j : Nat) :
    (copyRods s).rd e i j = s.rd e i j := by
  refine foldl_frame (fun t => t.rd e i j) _ (fun t a => ?_) _ _
  rw [State.rd_wr_apart _ _ _ _ _ _ hb, State.rd_wr_apart _ _ _ _ _ _ hc]

theorem copyRods_nrg : (copyRods s).nrg = s.nrg := by
  refine foldl_frame State.nrg _ (fun t a => ?_) _ _
  rw [State.wr_nrg, State.wr_nrg]

theorem writeMinute_lost (hon : s.rd NRG_CTL.ledger_en = 1) (hfits : minuteFits s (c.records.length + 1) = false) :
    writeMinute s c = raise (({ s with nrg := { s.nrg with lost := s.nrg.lost + 1 } } : State).wr NRG_STATUS.ledger_overflow 1)
      0x066 := by
  simp [writeMinute, on_of_rd_one hon, hfits]

/-- The trailer of a minute. -/
def trailer (s : State) (c : MinuteClose) : Nat :=
  ledgerImage 2 c.flags c.start 0 c.legs c.beads c.energy c.records.length s.nrg.lost

/-- A minute without records is its trailer. -/
theorem writeMinute_trailer (hon : s.rd NRG_CTL.ledger_en = 1) (hfits : minuteFits s 1 = true) (hnone : c.records = []) :
    writeMinute s c = ledgerDeliver { s with nrg := { s.nrg with lost := 0 } } (trailer s c) := by
  simp [writeMinute, on_of_rd_one hon, hfits, hnone, trailer]

theorem shiftLeft_mod_256 (v : Nat) {k : Nat} (h : 8 ≤ k) : v <<< k % 256 = 0 := by
  obtain ⟨n, rfl⟩ := Nat.exists_eq_add_of_le h
  rw [Nat.shiftLeft_eq, Nat.pow_add, show v * (2 ^ 8 * 2 ^ n) = 256 * (v * 2 ^ n) from Nat.mul_left_comm v 256 (2 ^ n), Nat.mul_mod_right]

theorem type_ledgerImage (t f m a l b n p e q : Nat) : (ledgerImage t f m a l b n p e + q <<< 32) % 256 = t % 256 := by
  have h (x v : Nat) {k : Nat} (hk : 8 ≤ k) : (x + v <<< k) % 256 = x % 256 := by
    rw [Nat.add_mod, shiftLeft_mod_256 v hk, Nat.add_zero, Nat.mod_mod]
  unfold ledgerImage
  rw [h _ _ (by decide), h _ _ (by decide), h _ _ (by decide), h _ _ (by decide), h _ _ (by decide), h _ _ (by decide),
    h _ _ (by decide), h _ _ (by decide), h _ _ (by decide)]

/-- A stamped trailer shows its type. -/
theorem type_trailer (s t : State) (c : MinuteClose) : (stampLseq t (trailer s c)).1 % 256 = 2 :=
  type_ledgerImage _ _ _ _ _ _ _ _ _ _

theorem fits_of_room (hempty : s.nrg.backlog = []) (hroom : ledgerRoom s = true) : minuteFits s 1 = true := by
  simp only [ledgerRoom, Bool.and_eq_true, decide_eq_true_eq] at hroom
  obtain ⟨hlive, hlt⟩ := hroom
  simp [minuteFits, hempty, hlive]
  omega

end Minute

/-! ### A record enters the ring -/

section Ring

variable {s : State} {image : Nat}

@[simp] theorem ledgerPut_nrg : (ledgerPut s image).nrg = { s.nrg with prod := addMod 32 s.nrg.prod 1 } := by
  unfold ledgerPut
  dsimp only
  split <;> simp

@[simp] theorem ledgerPut_mem : (ledgerPut s image).mem = s.mem := by
  unfold ledgerPut
  dsimp only
  split <;> simp

theorem rd_ledgerPut {e : Desc} (hprod : NRG_LEDGER_PROD.prod.apart e = true) (hbit : IRQ_SRC.asserted.apart e = true)
    (hbad : IRQ_MSIX_BAD.count.apart e = true) (i j : Nat) : (ledgerPut s image).rd e i j = s.rd e i j := by
  unfold ledgerPut
  dsimp only
  split
  · rw [rd_requestVector _ _ _ _ _ hbad, rd_raise _ _ _ _ hbit hbad, State.rd_wr_apart _ _ _ _ _ _ hprod]
    exact rd_hostWrite s i j _ _ _
  · exact rd_hostWrite s i j _ _ _

theorem rd_wr_prod (s : State) (n : Nat) : (s.wr NRG_LEDGER_PROD.prod (addMod 32 n 1)).rd NRG_LEDGER_PROD.prod = (n + 1) % 2 ^ 32 := by
  rw [State.rd_wr_same s NRG_LEDGER_PROD.prod _ 0 0 (by decide), addMod, show NRG_LEDGER_PROD.prod.width = 32 from rfl, Nat.mod_mod]

/-- What is left of a trailer once it is in the ring: the producer shown, its source raised and its vector requested (R122). -/
theorem ledgerPut_trailer (htype : image % 256 = 2) :
    ∃ (t : State) (f v : Nat), ledgerPut s image = requestVector (raise (t.wr NRG_LEDGER_PROD.prod (addMod 32 s.nrg.prod 1)) 0x065) f v := by
  unfold ledgerPut
  dsimp only
  rw [if_pos htype, hostWrite_nrg]
  exact ⟨_, _, _, rfl⟩

/-- After a trailer the producer is published (R122). -/
theorem rd_prod_ledgerPut (htype : image % 256 = 2) :
    (ledgerPut s image).rd NRG_LEDGER_PROD.prod = (s.nrg.prod + 1) % 2 ^ 32 := by
  obtain ⟨t, f, v, hput⟩ := ledgerPut_trailer (s := s) htype
  rw [hput, rd_requestVector _ _ _ _ _ (by decide), rd_raise _ _ _ _ (by decide) (by decide), rd_wr_prod]

theorem asserted_ledgerPut (htype : image % 256 = 2) : (ledgerPut s image).rd IRQ_SRC.asserted 0x065 = 1 := by
  obtain ⟨t, f, v, hput⟩ := ledgerPut_trailer (s := s) htype
  rw [hput, rd_requestVector _ _ _ _ _ (by decide)]
  exact rd_raise_asserted _ (by decide)

theorem stampLseq_snd : (stampLseq s image).2 = { s with nrg := { s.nrg with lseq := s.nrg.lseq + 1 } } := rfl

theorem ledgerDeliver_room (hempty : s.nrg.backlog = []) (hroom : ledgerRoom s = true) :
    ledgerDeliver s image = ledgerPut (stampLseq s image).2 (stampLseq s image).1 := by
  have hbacklog : (stampLseq s image).2.nrg.backlog.isEmpty = true := by rw [stampLseq_snd, hempty]; rfl
  have hstamped : ledgerRoom (stampLseq s image).2 = true := by rw [stampLseq_snd]; exact hroom
  unfold ledgerDeliver
  generalize stampLseq s image = x at hbacklog hstamped ⊢
  dsimp only
  rw [hbacklog, hstamped, Bool.and_true, if_pos rfl]

theorem ledgerRetry_empty (hempty : s.nrg.backlog = []) : ledgerRetry s = s := by
  simp [ledgerRetry, drainLedger, hempty]

/-- The only record of the backlog enters a ring with room (R123). -/
theorem ledgerRetry_one {x : Nat} (hen : enabled s .nrg = true) (hone : s.nrg.backlog = [x]) (hroom : ledgerRoom s = true) :
    ledgerRetry s = ledgerPut { s with nrg := { s.nrg with backlog := [] } } x := by
  simp [ledgerRetry, hen, drainLedger, hone, hroom]

theorem exec_ledgerConsWrite {who : Initiator} {v : Nat} (hrun : stopped s = false)
    (hw : writable who NRG_LEDGER_CONS.cons 0 s = true) :
    exec (.ledgerConsWrite who v) s = .next (ledgerRetry (s.wr NRG_LEDGER_CONS.cons v)) := by
  change execLedgerConsWrite who v s = _
  rw [execLedgerConsWrite, run_setupWrite hrun hw]

end Ring

/-- Settles O10: a credit to a balance, a minute's snapshot and records, and the consumer that frees slots. That a minute write looks
at ledger_en, snap_en and ready (log entry 124), and what fits into the ring and the backlog (log entry 126), is the model's
choice. -/
theorem creditsLedgerAndSnapshots : Obligations.CreditsLedgerAndSnapshots := by
  unfold Obligations.CreditsLedgerAndSnapshots
  refine ⟨?credit, ?late, ?taken, ?missed, ?lost, ?trailed, ?freed, ?retried, ?released⟩
  case credit =>
    intro s who a d hrun hw ha hdue
    rw [exec_nrgCredit hrun hw hdue, creditRod, Nat.mod_eq_of_lt ha]
    rfl
  case late =>
    intro s who a d hrun hw ha hd hdue
    rw [exec_nrgCredit_late hrun hw hdue, Nat.mod_eq_of_lt ha, Nat.mod_eq_of_lt hd]
  case taken =>
    intro s c hrun hdue hen hledger hsnap hready
    have htaken := takeSnapshot_taken (s := takeMinute s) (start := c.start) hsnap hready
    have hoff : (takeSnapshot (takeMinute s) c.start).rd NRG_CTL.ledger_en = 0 := by
      rw [htaken, rd_raise _ _ _ _ (by decide) (by decide), State.rd_wr_apart _ _ _ _ _ _ (by decide),
        State.rd_wr_apart _ _ _ _ _ _ (by decide), rd_copyRods (by decide) (by decide)]
      exact hledger
    refine ⟨_, (exec_ledgerMinuteWrite hrun hdue hen).trans (congrArg _ ((writeMinute_off hoff).trans htaken)), ?_, ?_, ?_, ?_, ?_⟩
    · rw [rd_raise _ _ _ _ (by decide) (by decide), State.rd_wr_apart _ _ _ _ _ _ (by decide),
        State.rd_wr_same _ _ _ _ _ (by decide)]
      rfl
    · rw [rd_raise _ _ _ _ (by decide) (by decide), State.rd_wr_same _ _ _ _ _ (by decide)]
      rfl
    · exact rd_raise_asserted _ (by decide)
    · rw [raise_nrg, State.wr_nrg, State.wr_nrg, copyRods_nrg]
      rfl
    · rw [raise_nrg, State.wr_nrg, State.wr_nrg, copyRods_nrg]
      rfl
  case missed =>
    intro s c hrun hdue hen hledger hsnap hready
    have hmissed := takeSnapshot_missed (s := takeMinute s) (start := c.start) hsnap hready
    have hoff : (takeSnapshot (takeMinute s) c.start).rd NRG_CTL.ledger_en = 0 := by
      rw [hmissed, rd_raise _ _ _ _ (by decide) (by decide), State.rd_wr_apart _ _ _ _ _ _ (by decide),
        State.rd_countSat_apart _ _ _ _ _ _ (by decide)]
      exact hledger
    exact (exec_ledgerMinuteWrite hrun hdue hen).trans (congrArg _ ((writeMinute_off hoff).trans hmissed))
  case lost =>
    intro s c hrun hdue hen hledger hsnap hfits
    rw [exec_ledgerMinuteWrite hrun hdue hen, takeSnapshot_off (s := takeMinute s) hsnap]
    exact congrArg _ (writeMinute_lost (s := takeMinute s) hledger hfits)
  case trailed =>
    intro s c hrun hdue hen hledger hsnap hnone hempty hroom hprod
    have hfits : minuteFits (takeMinute s) 1 = true := fits_of_room hempty hroom
    have hdeliver : writeMinute (takeMinute s) c = ledgerPut _ _ :=
      (writeMinute_trailer (s := takeMinute s) hledger hfits hnone).trans (ledgerDeliver_room hempty hroom)
    refine ⟨_, (exec_ledgerMinuteWrite hrun hdue hen).trans (congrArg _
      ((congrArg (writeMinute · c) (takeSnapshot_off (s := takeMinute s) hsnap)).trans hdeliver)), ?_, ?_, ?_, ?_, ?_, ?_, ?_⟩
    · rw [ledgerPut_nrg]; rfl
    · exact rd_prod_ledgerPut (type_trailer _ _ _)
    · rw [ledgerPut_nrg]; rfl
    · rw [ledgerPut_nrg]; rfl
    · rw [ledgerPut_nrg]; exact hempty
    · exact asserted_ledgerPut (type_trailer _ _ _)
    · rw [ledgerPut_mem]; rfl
  case freed =>
    intro s who v hrun hw hempty
    rw [exec_ledgerConsWrite hrun hw, ledgerRetry_empty (by rw [State.wr_nrg]; exact hempty)]
  case retried =>
    intro s who v x hrun hw hen hone hroom hprod
    have hen' : enabled (s.wr NRG_LEDGER_CONS.cons v) .nrg = true := by
      rw [enabled, State.on_wr_apart _ _ _ _ _ _ (by decide)]; exact hen
    refine ⟨_, (exec_ledgerConsWrite hrun hw).trans (congrArg _
      (ledgerRetry_one hen' (by rw [State.wr_nrg]; exact hone) hroom)), ?_, ?_, ?_, ?_⟩
    · rw [ledgerPut_nrg]
    · rw [ledgerPut_nrg, State.wr_nrg]; rfl
    · rw [rd_ledgerPut (by decide) (by decide) (by decide)]
      exact State.rd_wr_same s NRG_LEDGER_CONS.cons v 0 0 (by decide)
    · rw [ledgerPut_mem, State.wr_mem]
  case released =>
    intro s who hrun hw
    change execSnapDone who s = _
    rw [execSnapDone, run_setupWrite hrun hw]

end Sys2Proof.Machine
end

section
/-! SUPPORT. Gate lists, pauses, meters and group counters (O24). -/
namespace Sys2Proof.Machine

/-! ### Gate lists -/

section Gates

variable {s : State} {who : Initiator} {p l x : Nat}

theorem exec_gateArm (hrun : stopped s = false) (hp : p < 16) (hw : writable who TM_GATE_CTL.arm p s = true)
    (htime : now s ≤ s.rd TM_GATE_TT.adopt_tt p) : exec (.gateArm who p) s = .next { s.wr TM_GATE_CTL.arm 1 p with
      tm := { s.tm with armed := Map.set s.tm.armed p ⟨true, s.rd TM_GATE_CTL.adopt_list p, s.rd TM_GATE_TT.adopt_tt p, 0⟩ } } := by
  have hlate : decide (s.rd TM_GATE_TT.adopt_tt p < now s) = false := decide_eq_false (by omega)
  have hnow : now (s.wr TM_GATE_CTL.arm 1 p) = now s := by rw [now, State.wr_tt]; rfl
  have hlist : (s.wr TM_GATE_CTL.arm 1 p).rd TM_GATE_CTL.adopt_list p = s.rd TM_GATE_CTL.adopt_list p :=
    State.rd_wr_apart _ _ _ _ _ _ (by decide)
  change execGateArm who p s = _
  rw [execGateArm, run_setupWrite hrun hw, if_neg (by omega)]
  simp only [hnow, hlate, hlist, State.wr_tm, Bool.false_eq_true, if_false]

theorem exec_gateArm_late (hrun : stopped s = false) (hp : p < 16) (hw : writable who TM_GATE_CTL.arm p s = true)
    (htime : s.rd TM_GATE_TT.adopt_tt p < now s) : exec (.gateArm who p) s =
      .next { (s.wr TM_GATE_CTL.arm 1 p).wr TM_GATE_CTL.late 1 p with tm := { s.tm with
        armed := Map.set s.tm.armed p ⟨true, s.rd TM_GATE_CTL.adopt_list p, s.rd TM_GATE_TT.adopt_tt p, s.tt.ticks + 1⟩ } } := by
  have hnow : now (s.wr TM_GATE_CTL.arm 1 p) = now s := by rw [now, State.wr_tt]; rfl
  have hlist : ((s.wr TM_GATE_CTL.arm 1 p).wr TM_GATE_CTL.late 1 p).rd TM_GATE_CTL.adopt_list p = s.rd TM_GATE_CTL.adopt_list p := by
    simp (disch := decide) only [State.rd_wr_apart]
  change execGateArm who p s = _
  rw [execGateArm, run_setupWrite hrun hw, if_neg (by omega)]
  simp only [hnow, decide_eq_true htime, hlist, State.wr_tm, State.wr_tt, if_true]

theorem gateDisarm_tm : (gateDisarm s p).tm = { s.tm with armed := Map.set s.tm.armed p {} } := State.wr_tm _ _ _ _ _

theorem rd_gateDisarm {e : Desc} (h : TM_GATE_CTL.arm.apart e = true) (i j : Nat) : (gateDisarm s p).rd e i j = s.rd e i j :=
  State.rd_wr_apart { s with tm := { s.tm with armed := Map.set s.tm.armed p {} } } _ _ _ _ _ h

theorem gateCycle_gateDisarm : gateCycle (gateDisarm s p) p l = gateCycle s p l := by
  simp (disch := decide) only [gateCycle, gateSum, gateCount, gateEntry, State.on, rd_gateDisarm]

/-- An armed adoption whose time has come. -/
theorem exec_gateAdoption (hrun : stopped s = false) (hp : p < 16) (harmed : Map.get s.tm.armed p = ⟨true, l, x, 0⟩)
    (htime : x ≤ now s) (hbefore : dueBefore s x = false) (hfirst : applicationFirst s .tm x = false) :
    exec (.gateAdoption p) s = .next (if gateCycle s p l = 0 then (gateDisarm s p).wr (applyRejectField .tm) 1
      else
        let a := ((gateDisarm s p).wr TM_GATE_CTL.active l p).wr TM_GATE_CTL.adopted 1 p
        raise (syncGate { a with tm := { a.tm with origin := Map.set a.tm.origin p x } } p) 0x0E0) := by
  change execGateAdoption p s = _
  rw [execGateAdoption, run_running s _ hrun]
  simp only [harmed, hp, htime, hbefore, hfirst, decide_true, Nat.zero_le, Bool.not_false, Bool.and_self, Bool.false_and, if_true,
    Bool.false_eq_true, if_false, gateCycle_gateDisarm]

theorem exec_gateAdoption_none (hrun : stopped s = false)
    (h : (Map.get s.tm.armed p).on = false ∨ now s < (Map.get s.tm.armed p).tt) : exec (.gateAdoption p) s = .next s := by
  change execGateAdoption p s = _
  rw [execGateAdoption, run_running s _ hrun]
  dsimp only
  rw [if_neg]
  rcases h with h | h
  · simp [h]
  · simp [Nat.not_le.mpr h]

theorem rd_syncGate {e : Desc} (ho : TM_PORT.open.apart e = true) (he : TM_PORT.entry.apart e = true) (i j : Nat) :
    (syncGate s p).rd e i j = s.rd e i j := by
  unfold syncGate
  split
  · rw [State.rd_wr_apart _ _ _ _ _ _ he, State.rd_wr_apart _ _ _ _ _ _ ho]
  · rw [State.rd_wr_apart _ _ _ _ _ _ ho]

theorem syncGate_op {α : Type} (op : State → α) (hwr : ∀ (t : State) d v i j, op (t.wr d v i j) = op t) : op (syncGate s p) = op s := by
  unfold syncGate
  split
  · rw [hwr, hwr]
  · rw [hwr]

/-- The state in which a list has been adopted. -/
def adoptGate (s : State) (p l x : Nat) : State :=
  let a := ((gateDisarm s p).wr TM_GATE_CTL.active l p).wr TM_GATE_CTL.adopted 1 p
  raise (syncGate { a with tm := { a.tm with origin := Map.set a.tm.origin p x } } p) 0x0E0

theorem rd_adoptGate {e : Desc} (ho : TM_PORT.open.apart e = true) (he : TM_PORT.entry.apart e = true)
    (hbit : IRQ_SRC.asserted.apart e = true) (hbad : IRQ_MSIX_BAD.count.apart e = true) (i j : Nat) :
    (adoptGate s p l x).rd e i j = (((gateDisarm s p).wr TM_GATE_CTL.active l p).wr TM_GATE_CTL.adopted 1 p).rd e i j := by
  unfold adoptGate
  dsimp only
  rw [rd_raise _ _ _ _ hbit hbad, rd_syncGate ho he]
  rfl

theorem adoptGate_tm : (adoptGate s p l x).tm =
    { s.tm with armed := Map.set s.tm.armed p {}, origin := Map.set s.tm.origin p x } := by
  unfold adoptGate
  dsimp only
  rw [raise_tm, syncGate_op State.tm (by simp)]
  simp [gateDisarm_tm]

theorem adoptGate_mem : (adoptGate s p l x).mem = s.mem := by
  unfold adoptGate
  dsimp only
  rw [raise_mem, syncGate_op State.mem (by simp)]
  simp [gateDisarm]

end Gates

/-! ### Pauses -/

section Pauses

variable {s : State} {p c : Nat}

theorem testBit_putBit_other (v : Nat) {i k : Nat} (b : Bool) (h : k ≠ i) : (putBit v i b).testBit k = v.testBit k := by
  have hbit : bitsAt (putBits v i 1 b.toNat) k 1 = bitsAt v k 1 := by
    rcases Nat.lt_or_gt_of_ne h with h | h
    · exact bitsAt_putBits_below _ _ h
    · exact bitsAt_putBits_above _ _ h
  have hleft := bitAt_eq (putBit v i b) k
  rw [putBit, hbit, ← bitAt_eq] at hleft
  exact hleft

/-- A class whose pause time has run out. -/
def pauseOver (s : State) (p c : Nat) : Bool :=
  (s.rd TM_PORT.paused p).testBit c && decide (Map.get s.tm.pauseEnd (p * 8 + c) ≤ clockPs s)

/-- One class of an expiry. -/
def expireClass (p : Nat) (s : State) (c : Nat) : State := if pauseOver s p c then pauseClass s p c 0 else s

theorem exec_pauseExpiry (hrun : stopped s = false) (hp : p < 16) :
    exec (.pauseExpiry p) s = .next ((List.range 8).foldl (expireClass p) s) := by
  change execPauseExpiry p s = _
  rw [execPauseExpiry, run_running s _ hrun, if_neg (by omega)]
  rfl

theorem expireClass_op {α : Type} (op : State → α) (hwr : ∀ (t : State) d v i j, op (t.wr d v i j) = op t)
    (hend : ∀ (t : State) x, op { t with tm := { t.tm with pauseEnd := x } } = op t) (s : State) (c : Nat) :
    op (expireClass p s c) = op s := by
  unfold expireClass pauseClass
  split
  · exact (hend _ _).trans (hwr _ _ _ _ _)
  · rfl

/-- What a pause of class `c` is seen by. -/
def pauseView (p c : Nat) (s : State) : Bool × Nat × Nat :=
  ((s.rd TM_PORT.paused p).testBit c, Map.get s.tm.pauseEnd (p * 8 + c), s.tt.ticks)

theorem pauseView_expire_other {d : Nat} (hp : p < 16) (hc : c < 8) (h : c ≠ d) (s : State) :
    pauseView p c (expireClass p s d) = pauseView p c s := by
  unfold expireClass
  split
  · have hbit : ((pauseClass s p d 0).rd TM_PORT.paused p).testBit c = (s.rd TM_PORT.paused p).testBit c := by
      have hrd : (pauseClass s p d 0).rd TM_PORT.paused p = putBit (s.rd TM_PORT.paused p) d false % 2 ^ TM_PORT.paused.width :=
        State.rd_wr_same s TM_PORT.paused _ p 0 (by simp [Desc.has, TM_PORT.paused, hp])
      rw [hrd, Nat.testBit_mod_two_pow, testBit_putBit_other _ _ h]
      simp [TM_PORT.paused, hc]
    have hend : Map.get (pauseClass s p d 0).tm.pauseEnd (p * 8 + c) = Map.get s.tm.pauseEnd (p * 8 + c) := by
      rw [pauseClass]
      simp only [State.wr_tm]
      exact Map.get_set_other _ _ (by omega)
    have htime : (pauseClass s p d 0).tt.ticks = s.tt.ticks := by simp [pauseClass]
    rw [pauseView, hbit, hend, htime]
    rfl
  · rfl

theorem pauseView_expire_same (hp : p < 16) (hover : pauseOver s p c = true) :
    pauseView p c (expireClass p s c) = (false, 0, s.tt.ticks) := by
  have hrd : (pauseClass s p c 0).rd TM_PORT.paused p = putBit (s.rd TM_PORT.paused p) c false % 2 ^ TM_PORT.paused.width :=
    State.rd_wr_same s TM_PORT.paused _ p 0 (by simp [Desc.has, TM_PORT.paused, hp])
  have hend : Map.get (pauseClass s p c 0).tm.pauseEnd (p * 8 + c) = 0 := by
    rw [pauseClass]
    simp only [if_true, State.wr_tm, Map.get_set_same]
  have htime : (pauseClass s p c 0).tt.ticks = s.tt.ticks := by simp [pauseClass]
  rw [expireClass, if_pos hover, pauseView, hrd, hend, htime, Nat.testBit_mod_two_pow, testBit_putBit, Bool.and_false]

/-- An expiry ends the pause of a class whose time has run out. -/
theorem pauseView_expiry (hp : p < 16) (hc : c < 8) (hover : pauseOver s p c = true) :
    pauseView p c ((List.range 8).foldl (expireClass p) s) = (false, 0, s.tt.ticks) := by
  obtain ⟨l1, l2, hl⟩ := List.append_of_mem (List.mem_range.mpr hc)
  have hnodup : (l1 ++ c :: l2).Nodup := hl ▸ List.nodup_range
  obtain ⟨hnot, -⟩ := List.nodup_cons.mp (List.perm_middle.nodup_iff.mp hnodup)
  rw [List.mem_append, not_or] at hnot
  obtain ⟨hnot1, hnot2⟩ := hnot
  have hother (l : List Nat) (h : c ∉ l) (t : State) : pauseView p c (l.foldl (expireClass p) t) = pauseView p c t :=
    foldl_frame_mem (pauseView p c) _ _ (fun u d hd => pauseView_expire_other hp hc (by rintro rfl; exact h hd) u) t
  have hfirst := hother l1 hnot1 s
  generalize hu : l1.foldl (expireClass p) s = u at hfirst
  rw [hl, List.foldl_append, List.foldl_cons, hother l2 hnot2, hu]
  simp only [pauseView, Prod.mk.injEq] at hfirst
  obtain ⟨hbit, hend, htime⟩ := hfirst
  rw [pauseView_expire_same hp, htime]
  simp only [pauseOver, Bool.and_eq_true, decide_eq_true_eq] at hover ⊢
  rw [hbit, hend, clockPs, htime]
  exact hover

end Pauses

/-! ### Meters and counters -/

section Meters

variable {s : State} {who : Initiator}

/-- The fields of a meter, shown. -/
def showMeter (s : State) (x : Meter) : State :=
  (((((((((s.wr TM_MCMD.write 0).wr TM_MCMD.cir_kbps x.cir).wr TM_MCMD.pir_kbps x.pir).wr TM_MCMD.cbs x.cbs).wr
    TM_MCMD.pbs x.pbs).wr TM_MCMD.valid (flag x.valid)).wr TM_MCMD.aware (flag x.aware)).wr TM_MCMD.overhead x.overhead).wr
      TM_MCMD.tc_level x.tc).wr TM_MCMD.tp_level x.tp

theorem exec_meterRead (hrun : stopped s = false) (hw : writable who TM_MCMD.go 0 s = true) : exec (.meterRead who) s =
    .next (showMeter (g6Access s (meterAddr s (s.rd TM_MCMD.index)) false 0) (Map.get s.tm.meters (s.rd TM_MCMD.index))) := by
  change execMeterRead who s = _
  rw [execMeterRead, run_setupWrite hrun hw]
  rfl

/-- The meter that a write leaves: its fields as TM_MCMD has them, its levels full or kept (R444, R447). -/
def writtenMeter (s : State) : Meter :=
  let x := (Map.get s.tm.meters (s.rd TM_MCMD.index)).update (now s)
  let keep := s.on TM_MCMD.keep
  { cir := s.rd TM_MCMD.cir_kbps, pir := s.rd TM_MCMD.pir_kbps, cbs := s.rd TM_MCMD.cbs, pbs := s.rd TM_MCMD.pbs,
    valid := s.on TM_MCMD.valid, aware := s.on TM_MCMD.aware,
    overhead := if signed 7 (s.rd TM_MCMD.overhead) < -32 then 0 else s.rd TM_MCMD.overhead,
    tc := if keep then min x.tc (s.rd TM_MCMD.cbs * 65536) else s.rd TM_MCMD.cbs * 65536,
    tp := if keep then min x.tp (s.rd TM_MCMD.pbs * 65536) else s.rd TM_MCMD.pbs * 65536, last := now s }

theorem meterAddr_congr {t : State} (h : t.areas = s.areas) (m : Nat) : meterAddr t m = meterAddr s m := by
  simp only [meterAddr, areaBase, areaSizes, h]

theorem exec_meterWrite (hrun : stopped s = false) (hw : writable who TM_MCMD.go 0 s = true) : exec (.meterWrite who) s =
    .next (g6Access (g6Access { s.wr TM_MCMD.write 1 with tm := { s.tm with
      meters := Map.set s.tm.meters (s.rd TM_MCMD.index) (writtenMeter s) } } (meterAddr s (s.rd TM_MCMD.index)) false 0)
      (meterAddr s (s.rd TM_MCMD.index)) true 0) := by
  have hrd {e : Desc} (h : TM_MCMD.write.apart e = true) : (s.wr TM_MCMD.write 1).rd e = s.rd e :=
    State.rd_wr_apart _ _ _ _ _ _ h
  have hon {e : Desc} (h : TM_MCMD.write.apart e = true) : (s.wr TM_MCMD.write 1).on e = s.on e :=
    State.on_wr_apart _ _ _ _ _ _ h
  have hnow : now (s.wr TM_MCMD.write 1) = now s := by rw [now, State.wr_tt]; rfl
  have haddr (t : State) (ht : t.areas = s.areas) := meterAddr_congr ht (s.rd TM_MCMD.index)
  change execMeterWrite who s = _
  rw [execMeterWrite, run_setupWrite hrun hw]
  simp (disch := decide) only [hrd, hon, hnow, State.wr_tm, writtenMeter, Meter.update]
  rw [haddr _ (State.wr_areas _ _ _ _ _)]

theorem exec_tmCounterSnapshot (hrun : stopped s = false) (hw : writable who TM_CNT_ADDR.go 0 s = true)
    (hn : s.rd TM_CNT_ADDR.n ≤ 4) : exec (.tmCounterSnapshot who) s =
      .next (let k := s.rd TM_CNT_ADDR.group * 8 + s.rd TM_CNT_ADDR.n
        let t := s.wr TM_CNT_DATA.count (Map.get s.tm.counters k)
        if s.on TM_CNT_ADDR.clear then { t with tm := { s.tm with counters := Map.set s.tm.counters k 0 } } else t) := by
  change execTmCounterSnapshot who s = _
  rw [execTmCounterSnapshot, run_setupWrite hrun hw]
  simp only [if_pos hn, State.wr_tm, State.on_wr_apart _ _ _ _ _ _ (show TM_CNT_DATA.count.apart TM_CNT_ADDR.clear = true by decide)]

end Meters

/-- Settles O24: gate lists by their arming and adoption, pauses by their end, meters and group counters by what TM_MCMD and
TM_CNT_ADDR name. That a read of a meter leaves it not brought up to date is the model's choice (log entry 50). -/
theorem gateListsPausesAndMeters : Obligations.GateListsPausesAndMeters := by
  unfold Obligations.GateListsPausesAndMeters
  refine ⟨fun s who p hrun hp hw htime => exec_gateArm hrun hp hw htime, ?adopted, ?refused, ?adopts,
    fun s p hrun h => exec_gateAdoption_none hrun h, fun s who p hrun hp hw htime => exec_gateArm_late hrun hp hw htime, ?ungated,
    ?gated, ?expired, fun s p hrun hp => exec_pauseExpiry hrun hp, ?shown, ?read, ?kept, ?full, ?cleared, ?counted⟩
  case adopted =>
    intro s p l x hrun hp hl harmed htime hbefore hfirst hcycle
    have hhas (d : Desc) (h1 : d.n1 = 16) (h2 : d.n2 = 1) : d.has p 0 = true := by simp [Desc.has, h1, h2, hp]
    refine ⟨adoptGate s p l x, ?_, ?_, ?_, ?_, ?_, ?_, ?_, ?_, ?_⟩
    · rw [exec_gateAdoption hrun hp harmed htime hbefore hfirst, if_neg hcycle]
      rfl
    · rw [rd_adoptGate (by decide) (by decide) (by decide) (by decide), State.rd_wr_apart _ _ _ _ _ _ (by decide),
        State.rd_wr_same _ _ _ _ _ (hhas _ rfl rfl)]
      exact Nat.mod_eq_of_lt hl
    · rw [rd_adoptGate (by decide) (by decide) (by decide) (by decide), State.rd_wr_same _ _ _ _ _ (hhas _ rfl rfl)]
      rfl
    · rw [rd_adoptGate (by decide) (by decide) (by decide) (by decide), State.rd_wr_apart _ _ _ _ _ _ (by decide),
        State.rd_wr_apart _ _ _ _ _ _ (by decide), gateDisarm, State.rd_wr_same _ _ _ _ _ (hhas _ rfl rfl)]
      rfl
    · simp only [adoptGate_tm, Map.get_set_same]
    · simp only [adoptGate_tm, Map.get_set_same]
    · exact rd_raise_asserted _ (by decide)
    · rw [adoptGate_tm]
    · exact adoptGate_mem
  case refused =>
    intro s p l x hrun hp harmed htime hbefore hfirst hcycle
    rw [exec_gateAdoption hrun hp harmed htime hbefore hfirst, if_pos hcycle]
    rfl
  case adopts =>
    intro s p l x hrun hp harmed htime hbefore hfirst hcycle
    rw [exec_gateAdoption hrun hp harmed htime hbefore hfirst, if_neg hcycle]
  case ungated =>
    intro s p hrun hp hgated
    change execGateEntryChange p s = _
    rw [execGateEntryChange, run_running s _ hrun, if_pos hp, syncGate, hgated, if_neg (by decide)]
  case gated =>
    intro s p hrun hp hgated
    change execGateEntryChange p s = _
    rw [execGateEntryChange, run_running s _ hrun, if_pos hp, syncGate, if_pos hgated]
  case expired =>
    intro s p c hrun hp hc hbit hend
    have hover : pauseOver s p c = true := by simp [pauseOver, hbit, hend]
    have hview := pauseView_expiry hp hc hover
    simp only [pauseView, Prod.mk.injEq] at hview
    obtain ⟨hpaused, hzero, -⟩ := hview
    have hkept {α : Type} (op : State → α) (hwr : ∀ (t : State) d v i j, op (t.wr d v i j) = op t)
        (htm : ∀ (t : State) x, op { t with tm := { t.tm with pauseEnd := x } } = op t) :
        op ((List.range 8).foldl (expireClass p) s) = op s := foldl_frame op _ (expireClass_op op hwr htm) _ _
    exact ⟨_, exec_pauseExpiry hrun hp, hpaused, hzero, hkept (fun t => t.tm.queues) (by simp) (fun _ _ => rfl),
      hkept State.pp (by simp) (fun _ _ => rfl), hkept State.mem (by simp) (fun _ _ => rfl),
      hkept State.hostMem (by simp) (fun _ _ => rfl), hkept State.links (by simp) (fun _ _ => rfl)⟩
  case shown =>
    intro s who hrun hw hmeter
    refine ⟨_, exec_meterRead hrun hw, ?_⟩
    rw [hmeter]
    simp (disch := decide) only [showMeter, State.rd_wr_apart, State.rd_wr_same, State.wr_tm, State.wr_mem, State.wr_hostMem,
      State.wr_links, g6Access_tm, g6Access_mem, g6Access_hostMem, g6Access_links, and_true]
    decide
  case read =>
    rintro s who x hrun hw rfl
    exact exec_meterRead hrun hw
  case kept =>
    rintro s who x hrun hw hkeep rfl hovh
    rw [exec_meterWrite hrun hw]
    simp only [writtenMeter, on_of_rd_one hkeep, if_true, if_neg (Int.not_lt.mpr hovh)]
  case full =>
    intro s who hrun hw hkeep hovh
    refine ⟨_, exec_meterWrite hrun hw, ?_, ?_, ?_, ?_, ?_, ?_⟩
    · rw [g6Access_tm, g6Access_tm, Map.get_set_same]
      simp only [writtenMeter, on_of_rd_zero hkeep, if_neg (Int.not_lt.mpr hovh), Bool.false_eq_true, if_false]
    · rw [g6Access_tm, g6Access_tm]
    · rw [rd_g6Access _ _ _ _ _ _ (by decide), rd_g6Access _ _ _ _ _ _ (by decide)]
      exact State.rd_wr_apart s _ _ _ _ _ (by decide)
    · simp
    · simp
    · simp
  case cleared =>
    intro s who hrun hw hn hclear
    rw [exec_tmCounterSnapshot hrun hw hn]
    simp only [on_of_rd_one hclear, if_true]
  case counted =>
    intro s who hrun hw hn hclear
    rw [exec_tmCounterSnapshot hrun hw hn]
    simp only [on_of_rd_zero hclear, Bool.false_eq_true, if_false]

end Sys2Proof.Machine
end

section
/-! SUPPORT. Queues share a record ring: what one queue's retirement lets the ring's writer accept is another's (R263 to R265). The
refutation of O16. -/
namespace Sys2Proof.Machine

/-- An entry without a record that has ended OK. -/
def endedEntry : Entry := { raw := 2 ^ 16, begun := true, outcome := some { status := 0 } }

/-- An entry with a record, decided. -/
def recordedEntry : Entry := { raw := 2 ^ 13 + 2 ^ 16, begun := true, decided := some { status := 0 } }

/-- Queues 3 and 4 on ring 0, at whose writer the result of queue 4 waits. -/
def sharedRing : State :=
  let s := { readyQueue with
    queues := [(3, { entries := [endedEntry] }), (4, { entries := [recordedEntry] })]
    rings := [(0, { waiting := [(4, 1)] })] }
  (s.wr WQ_CTX.state 1 4).wr WQ_CTX.log2_slots 5 4

/-- Its clocks run. -/
example : stopped sharedRing = false := by decide +kernel

/-- The record of queue 4 stands in host memory once the entry of queue 3 has finished. -/
theorem observed_entryFinish : observed (fun t => decide (t.hostMem = [])) (exec (.entryFinish 3 1) sharedRing) = some false := by
  decide +kernel

/-- Refutes O16: its first clause has the retirement of an entry without a record leave host memory. The ring's writer, which the
step serves, accepts with it a result of another queue of the ring, whose record reaches the host. -/
theorem not_retirementAndRecords : ¬ Obligations.RetirementAndRecords := by
  unfold Obligations.RetirementAndRecords
  rintro ⟨hretire, -⟩
  obtain ⟨t, hexec, -, -, -, -, -, hhost⟩ := hretire sharedRing 3 1 endedEntry { status := 0 } (by decide +kernel) (by decide)
    (by decide +kernel) (by decide +kernel) (by decide +kernel) (by decide +kernel) (by decide +kernel) (by decide +kernel)
    (by decide +kernel) (by decide +kernel) (by decide +kernel) (by decide +kernel) (by decide +kernel) (by decide +kernel)
    (by decide +kernel) (by decide +kernel) (by decide +kernel)
  have hkept : t.hostMem = [] := hhost.trans (by decide +kernel)
  exact of_decide_eq_false (observed_of_exec (f := fun t => decide (t.hostMem = [])) observed_entryFinish hexec) hkept

end Sys2Proof.Machine
end

section
/-! SUPPORT. A record of an aborted entry is accepted in another queue's STOP, and its destination becomes undefined (R228, R229): the
refutation of O14. -/
namespace Sys2Proof.Machine
open Config

/-! ### What a retirement leaves of internal memory -/

section Memory

variable (s : State)

theorem delta_mem (kind obj : Nat) (body : Bytes) (acct : Nat) : (delta s kind obj body acct).mem = s.mem := by
  unfold delta
  split
  · simp
  · rfl

theorem blkLeave_mem (q sseq : Nat) : (blkLeave s q sseq).mem = s.mem := by
  unfold blkLeave
  split
  · rfl
  · dsimp only
    split
    · simp only [storeVol, setVol, volLine]
      split
      · rfl
      · exact g6Access_mem _ _ _ _
    · rfl

theorem engineRetired_mem (q : Nat) (e : Entry) : (engineRetired s q e).mem = s.mem := by
  unfold engineRetired
  split
  · exact blkLeave_mem s q e.sseq
  · rfl

theorem passPads_mem (q : Nat) : (passPads s q).mem = s.mem := by
  unfold passPads
  split
  · rfl
  · exact (delta_mem _ _ _ _ _).trans (State.wr_mem _ _ _ _ _)

theorem offerResults_mem (q : Nat) : (offerResults s q).mem = s.mem := by
  unfold offerResults
  dsimp only
  split <;> rfl

theorem freeBytes_mem (n : Nat) : (freeBytes n s).2.mem = s.mem := rfl

theorem askSlot_direct {r : Nat} (h : s.on CQ_CTX.ats r = false) : askSlot s r = s := by
  simp [askSlot, translate, h]

/-- A record that joins the backlog of a ring without address translation. -/
theorem writeRecord_mem {r queue image : Nat} {place : Place} (hback : (ringInt s r).backlog.isEmpty = false)
    (hats : s.on CQ_CTX.ats r = false) : (writeRecord s r queue place image).mem = s.mem := by
  rw [writeRecord, hback, Bool.false_and, if_neg (by decide)]
  dsimp only
  rw [askSlot_direct s hats]
  exact (delta_mem _ _ _ _ _).trans ((delta_mem _ _ _ _ _).trans (State.wr_mem _ _ _ _ _))

/-- The head of a queue retires into a backlog: only its ruined destinations change internal memory. -/
theorem retireHead_mem {q : Nat} {e : Entry} {f : Finish} (hrec : writesRecord e f = true)
    (hback : (ringInt (ruinDests s q e f.status) (s.rd WQ_CTX.cq_ring q)).backlog.isEmpty = false)
    (hats : (ruinDests s q e f.status).on CQ_CTX.ats (s.rd WQ_CTX.cq_ring q) = false) :
    (retireHead s q e f).mem = (ruinDests s q e f.status).mem := by
  unfold retireHead
  dsimp only
  rw [if_pos hrec, passPads_mem, engineRetired_mem, pmc_mem]
  have hhead (t : State) : (deltaQueue (t.wr WQ_CTX.done_head (addMod 32 e.idx e.size) q) q).mem = t.mem :=
    (delta_mem _ _ _ _ _).trans (State.wr_mem _ _ _ _ _)
  split
  · exact (hhead _).trans (writeRecord_mem _ hback hats)
  · exact (hhead _).trans (writeRecord_mem _ hback hats)

end Memory

/-! ### The counterexample -/

/-- An aborted entry, which had begun to write one byte of internal memory. -/
def abortedEntry : Entry :=
  { raw := 2 ^ 16, begun := true, decided := some { status := stAborted }, dests := [⟨sramBase, 1, true, false⟩] }

/-- Queue 3 is idle; the result of queue 4 waits at the writer of their ring, whose backlog holds a record.  The byte differs from the
value that will be drawn for it. -/
def ruinableByte : State :=
  let s := { readyQueue with
    queues := [(4, { entries := [abortedEntry] })]
    rings := [(0, { waiting := [(4, 1)], backlog := [⟨5, 0, .ring⟩] })]
    mem := [(sramBase, freeByte 0 + 1)] }
  (s.wr WQ_CTX.state 1 4).wr WQ_CTX.log2_slots 5 4

/-- Its clocks run. -/
example : stopped ruinableByte = false := by decide +kernel

/-- Queue 3 has left ACTIVE. -/
def leftActive : State :=
  let s := { ((ruinableByte.wr WQ_QCMD.queue 3).wr WQ_QCMD.action 1).wr WQ_QCMD.busy 1 with qcmdStop := some 3 }
  setQueueState (leaveActive s 3) 3 qStopping

/-- It has nothing to retire. -/
def stoppingQueue : State := offerResults leftActive 3

/-- The ring's writer has chosen the result of queue 4. -/
def servedRing : State := updRing stoppingQueue 0 fun x => { x with
  lastSrc := some 4, taken := x.taken + 1, waiting := x.waiting.filter fun w => decide (w ≠ (4, abortedEntry.sseq)) }

/-- Queue 4 has retired its entry. -/
def retiredQueue : State := offerResults (retireHead servedRing 4 abortedEntry { status := stAborted }) 4

theorem serveRing_stoppingQueue : serveRing stoppingQueue 0 = some retiredQueue := by
  have hnext : nextInTurn (ringInt stoppingQueue 0).lastSrc (((ringInt stoppingQueue 0).waiting.map (·.1)).filter fun q =>
      (headReady stoppingQueue q).isSome) = some 4 := by decide +kernel
  have hready : headReady stoppingQueue 4 = some (abortedEntry, { status := stAborted }) := by decide +kernel
  have hcycles : ¬ fabricCycles stoppingQueue ≤ (ringInt stoppingQueue 0).taken := by decide +kernel
  have hnone : (queueInt (retireHead servedRing 4 abortedEntry { status := stAborted }) 4).entries.length = 0 := by decide +kernel
  unfold serveRing
  dsimp only
  rw [if_neg hcycles, hnext]
  dsimp only
  rw [hready]
  change some (offerResults (retireFree 4 (queueInt (retireHead servedRing 4 abortedEntry { status := stAborted }) 4).entries.length
    (retireHead servedRing 4 abortedEntry { status := stAborted })) 4) = _
  rw [hnone]
  rfl

theorem retireQueue_leftActive : retireQueue leftActive 3 = retiredQueue := by
  have hentries : (queueInt leftActive 3).entries.length = 0 := by decide +kernel
  have hring : leftActive.rd WQ_CTX.cq_ring 3 = 0 := by decide +kernel
  have hlast : serveRing retiredQueue 0 = none := by
    rw [← Option.isNone_iff_eq_none]
    decide +kernel
  have hstalls : listedMembers retiredQueue CQ_CTX.stalled = [] := by decide +kernel
  have hserve : serveResults 0 13 stoppingQueue = retiredQueue := by
    rw [serveResults, serveRing_stoppingQueue]
    dsimp only
    rw [serveResults, hlast]
  rw [retireQueue, hring, hentries, retireFree, ← stoppingQueue, hserve, endStalls, hstalls, List.foldl_nil]

theorem exec_qcmdStop_ruinableByte : exec (.qcmdStop (.host 0) 3) ruinableByte = .next retiredQueue := by
  have hrun : stopped ruinableByte = false := by decide +kernel
  have hw : writable (.host 0) WQ_QCMD.go 0 ruinableByte = true := by decide +kernel
  have hstoppable : stoppable (queueState ruinableByte 3) = true := by decide +kernel
  have hbusy : ruinableByte.on WQ_QCMD.busy = false := by decide +kernel
  have hidle : (queueInt leftActive 3).entries = [] := by decide +kernel
  change execQcmdStop (.host 0) 3 ruinableByte = _
  rw [execQcmdStop, run_running _ _ hrun, queueCommand, setupWrite_writable _ _ _ _ _ _ hw, hbusy, hstoppable, if_neg (by decide)]
  dsimp only
  rw [if_pos rfl, stopQueue, ← leftActive, hidle, List.foldl_nil, retireQueue_leftActive]

theorem backlog_ruined : (ringInt (ruinDests servedRing 4 abortedEntry stAborted) 0).backlog.isEmpty = false := by decide +kernel

theorem ats_ruined : (ruinDests servedRing 4 abortedEntry stAborted).on CQ_CTX.ats 0 = false := by decide +kernel

theorem ring_servedRing : servedRing.rd WQ_CTX.cq_ring 4 = 0 := by decide +kernel

/-- The aborted entry has one destination, which is plain memory. -/
theorem mem_ruinDests : (ruinDests servedRing 4 abortedEntry stAborted).mem = storeBytes servedRing.mem sramBase [freeByte 0] := by
  have hplaced : placed (freeBytes 1 servedRing).2 sramBase 1 = false := by decide +kernel
  have hexists : rangeExists servedRing sramBase 1 = true := by decide +kernel
  have hdests : entryDests servedRing 4 abortedEntry = [⟨sramBase, 1, true, false⟩] := by decide +kernel
  have hfresh : servedRing.fresh = 0 := by decide +kernel
  have hbytes : (freeBytes 1 servedRing).1 = [freeByte 0] := by
    simp [freeBytes, hfresh]
  have hlength : ([freeByte 0] : Bytes).length = 1 := rfl
  rw [ruinDests, if_pos (by decide), hdests, List.foldl_cons, List.foldl_nil, ruinDest]
  dsimp only
  rw [if_pos rfl, if_pos hexists, areaStore, hbytes, hlength, hplaced, if_neg (by decide), memStore_mem, freeBytes_mem]

/-- The byte has the value drawn for it. -/
theorem mem_retiredQueue : Map.get retiredQueue.mem sramBase = freeByte 0 := by
  have hoffer : retiredQueue.mem = (retireHead servedRing 4 abortedEntry { status := stAborted }).mem := by
    rw [retiredQueue, offerResults_mem]
  rw [hoffer, retireHead_mem _ (by decide) (by rw [ring_servedRing]; exact backlog_ruined)
    (by rw [ring_servedRing]; exact ats_ruined), mem_ruinDests]
  exact Map.get_set_same _ _ _

theorem mem_ruinableByte : Map.get ruinableByte.mem sramBase = freeByte 0 + 1 := by
  have hmem : ruinableByte.mem = [(sramBase, freeByte 0 + 1)] := by
    simp only [ruinableByte, State.wr_mem]
  rw [hmem]
  simp [Map.get, Map.getD]

/-- Refutes O14: its fifteenth clause has the STOP of an idle queue leave internal memory. The ring's writer, which the step serves,
accepts with it the result of another queue of the ring; an aborted entry's destination becomes undefined as it retires. -/
theorem not_queueControl : ¬ Obligations.QueueControl := by
  unfold Obligations.QueueControl
  rintro ⟨-, -, -, -, -, -, -, -, -, -, -, -, -, -, hstop, -⟩
  obtain ⟨t, hexec, -, -, -, hmem⟩ := hstop ruinableByte (.host 0) 3 (by decide +kernel) (by decide +kernel) (by decide +kernel)
    (by decide) (by decide +kernel) (by decide +kernel)
  have ht : t = retiredQueue := Host.Outcome.next.inj (hexec.symm.trans exec_qcmdStop_ruinableByte)
  have hsame : freeByte 0 + 1 = freeByte 0 := by rw [← mem_ruinableByte, ← hmem, ht, mem_retiredQueue]
  generalize freeByte 0 = b at hsame
  revert b
  decide

end Sys2Proof.Machine
end

section
/-! SUPPORT. The operations of a connection stand in the order of their entries' acceptance (R476, R479): the refutation of O29. -/
namespace Sys2Proof.Machine

/-- A TRN_WRITE of 256 bytes on connection 5, accepted first. -/
def earlyWrite : Entry := { raw := 0x20 + 2 ^ 16 + 5 * 2 ^ 64 + 256 * 2 ^ 96 }

/-- An operation of an entry that was accepted later. -/
def laterOp : TrnOp :=
  { id := 9, entry := some (4, 1), order := 7, kind := 1, fn := 0, len := 64, laddr := 0, ats := false, roff := 0, rkey := 0, imm := 0,
    flagged := false }

/-- Queue 3 with that entry, and connection 5 READY with that operation. -/
def laterFirst : State :=
  { readyQueue.wr (enableField .trn) 1 with
    queues := [(3, { entries := [earlyWrite] })]
    trn := { cache := [(5, some ⟨1, false⟩)], conns := [(5, { ops := [laterOp] })] } }

/-- Its clocks run. -/
example : stopped laterFirst = false := by decide +kernel

/-- The write's operation stands before the later one. -/
theorem observed_trnWrite : observed (fun t => (trnConn t 5).ops.map (·.order)) (exec (.trnWrite 3 1) laterFirst) = some [0, 7] := by
  decide +kernel

/-- Refutes O29: its first clause has the operation of an entry that begins stand behind all others of its connection. It stands in
the order of acceptance, before the operation of an entry that was accepted later. -/
theorem not_transportEntriesAndRegions : ¬ Obligations.TransportEntriesAndRegions := by
  unfold Obligations.TransportEntriesAndRegions
  rintro ⟨hbegin, -⟩
  obtain ⟨t, hexec, hops, -⟩ := hbegin laterFirst 3 1 1 earlyWrite (by decide +kernel) (by decide +kernel) (by decide +kernel)
    (by decide +kernel) (by decide +kernel) (by decide +kernel) (by decide +kernel)
  have horder := observed_of_exec (f := fun t => (trnConn t 5).ops.map (·.order)) observed_trnWrite hexec
  have hlast : (trnConn t 5).ops.map (·.order) = [7, 0] := by
    rw [show (5 : Nat) = earlyWrite.at 8 0 24 by decide +kernel, hops]
    decide +kernel
  exact absurd (horder.symm.trans hlast) (by decide)

end Sys2Proof.Machine
end

section
/-! SUPPORT. A store into a part of a line with a bad code reports it (R972): the refutation of O32. -/
namespace Sys2Proof.Machine

/-- A BLK_WRITE of one block. -/
def diskWrite : Entry := { raw := 0x31 + 2 ^ 16 + 2 ^ 96 + 0x6000 * 2 ^ 192, begun := true }

/-- Its command, whose buffer begins within a line. -/
def blockCmd : BlkCmd := { queue := 3, sseq := 1, order := 0, raw := diskWrite.raw, vol := 1 + 9 * 2 ^ 64 + 7 * 2 ^ 128, buf := some 32 }

/-- Queue 3 with that entry; the first line of block staging has a bad code, and source 1 goes to vector 0 of PF 0. -/
def spoiltStaging : State :=
  let s := { readyQueue with
    hif := { fns := [(0, { bme := true, msixEn := true })], msix := [(0, { mask := false })] }
    queues := [(3, { entries := [diskWrite] })]
    blk := { cmds := [blockCmd] }
    areas := { stage := 100, blkStage := 1 } }
  let s := { s with poison := [stageBase s / 64] }
  (((s.wr HIF_PF_CFG.pf_vec 1).wr IRQ_CTL.global_en 1).wr IRQ_SRC.dest 4 1).wr IRQ_SRC.priority 1 1

/-- Its clocks run. -/
example : stopped spoiltStaging = false := by decide +kernel

/-- The report's message is on the link. -/
theorem observed_blkWrite : observed (fun t => decide (t.links = [])) (exec (.blkWrite 3 1 true []) spoiltStaging) = some false := by
  decide +kernel

/-- Refutes O32: its second clause has a write's move into its buffer put nothing on the links. A store into a part of a line whose code
is bad reports a detection event (R972), whose source may request a vector of the host. -/
theorem not_blockCommands : ¬ Obligations.BlockCommands := by
  unfold Obligations.BlockCommands
  rintro ⟨-, hwrite, -⟩
  obtain ⟨t, hexec, -, -, -, hlinks⟩ := hwrite spoiltStaging 3 1 32 blockCmd diskWrite [] (by decide +kernel) (by decide +kernel)
    (by decide +kernel) (by decide +kernel) (by decide +kernel) (by decide +kernel) (by decide +kernel) (by decide +kernel)
    (by decide +kernel)
  have hkept : t.links = [] := hlinks.trans (by decide +kernel)
  exact of_decide_eq_false (observed_of_exec (f := fun t => decide (t.links = [])) observed_blkWrite hexec) hkept

end Sys2Proof.Machine
end

section
/-! SUPPORT. A READ_REQ joins the operations of its connection in the order of acceptance (R476, R479): the refutation of O31. -/
namespace Sys2Proof.Machine

/-- Connection 5: READY, with the peer connection 42 and the expected PSN 7. -/
def expectsSeven : Nat := 1 + 42 * 2 ^ 8 + 9 * 2 ^ 64 + 7 * 2 ^ 192

/-- A READ_REQ of 8 bytes of region 3 with generation 7 and PSN 7. -/
def readOfRegion : RxPkt :=
  { conn := 5, pipe := 0, frame := List.replicate 4 0 ++ trnHeader 3 0 5 9 7 ++ dataExt 16 (3 * 1024 + 7) 8 0, ip := 0, v6 := false,
    off := 4, len := 40 }

/-- Region 3: VALID, of any connection of PF 0, to be read and written, 4096 bytes long. -/
def sharedRegion : Nat := 1 + 2 ^ 2 + 2 ^ 3 + 7 * 2 ^ 8 + 0x5000 * 2 ^ 64 + 4096 * 2 ^ 128

/-- That packet is the next of connection 5, one of whose operations was accepted later. -/
def laterPending : State :=
  let s := { readyQueue.wr (enableField .trn) 1 with
    areas := { rgn := 1 }
    trn := { cache := [(5, some ⟨expectsSeven, false⟩)], conns := [(5, { ops := [laterOp], ready := [readOfRegion] })] } }
  memStore (s.wr TRN_RGN_BLOCK.valid 1) (rgnAddr s 3) (leBytes 64 sharedRegion)

/-- Its clocks run. -/
example : stopped laterPending = false := by decide +kernel

/-- The responses stand before the later operation. -/
theorem observed_readReq : observed (fun t => (trnConn t 5).ops.map TrnOp.kind) (exec (.readReqReceive 5) laterPending) = some [4, 1] := by
  decide +kernel

/-- Refutes O31: its third clause has the responses to a READ_REQ stand behind every operation of the connection. They stand in the
order of acceptance, before an operation that was accepted later. -/
theorem not_trallasyReceptionAndPacing : ¬ Obligations.TrallasyReceptionAndPacing := by
  unfold Obligations.TrallasyReceptionAndPacing
  rintro ⟨-, -, hread, -⟩
  obtain ⟨t, hexec, hops, -⟩ := hread laterPending 5 expectsSeven readOfRegion (by decide +kernel) (by decide +kernel)
    (by decide +kernel) (by decide +kernel) (by decide +kernel) (by decide +kernel) (by decide +kernel) (by decide +kernel)
    (by decide +kernel) (by decide +kernel) (by decide +kernel) (by decide +kernel) (by decide +kernel) (by decide +kernel)
    (by decide +kernel) (by decide +kernel) (by decide +kernel)
  rw [observed_of_exec (f := fun t => (trnConn t 5).ops.map TrnOp.kind) observed_readReq hexec] at hops
  exact absurd hops (by decide +kernel)

end Sys2Proof.Machine
end

section
/-! SUPPORT. The next due event and the command that fires it look a thread up in two ways: the refutation of O55. -/
namespace Sys2Proof.Machine

/-- A running thread 8 that the thread table lists twice, first disarmed and then with its timer armed. -/
def listedTwice : State :=
  { State.reset.wr RLY_THCTX.state thReady 8 with rly := { threads := [(8, {}), (8, { armed := true })] } }

/-- Its clocks run. -/
example : stopped listedTwice = false := by decide +kernel

/-- The event that is due leaves timer_fired as it is: the thread that is looked up is disarmed. -/
theorem observed_scheduledEvent : observed (·.rd RLY_THCTX.timer_fired 8) (exec .scheduledEvent listedTwice) = some 0 := by
  decide +kernel

/-- Refutes O55: its sixth clause has the timer that is due set timer_fired, of every state. Where a thread table, which the clause does
not require to list each thread once, lists one twice, the second place makes its timer due and the first one is disarmed. -/
theorem not_dueEventsTheAbacusAndDetectionCodes : ¬ Obligations.DueEventsTheAbacusAndDetectionCodes := by
  unfold Obligations.DueEventsTheAbacusAndDetectionCodes
  rintro ⟨-, -, -, -, -, htimer, -⟩
  obtain ⟨t, hexec, -, hfired⟩ := htimer listedTwice 0 8 (by decide +kernel) (by decide +kernel)
  rw [observed_of_exec observed_scheduledEvent hexec] at hfired
  exact absurd hfired (by decide)

end Sys2Proof.Machine
end

section
/-! SUPPORT. A write that waits for its function goes out when the function may write again (R809): the refutation of O48. -/
namespace Sys2Proof.Machine

/-- PF 0 without Bus Master Enable, and a write of one byte to its memory that waits for it. -/
def heldWrite : State := { State.reset with pubs := [⟨0, .write 0 0x1000 [1]⟩] }.wr HIF_PF_CFG.enable 1

/-- Its clocks run. -/
example : stopped heldWrite = false := by decide +kernel

/-- The byte reaches host memory once Bus Master Enable is set. -/
theorem observed_bmeSet : observed (fun t => decide (t.hostMem = [])) (exec (.bmeSet 0) heldWrite) = some false := by decide +kernel

/-- Refutes O48: its third clause has the setting of Bus Master Enable leave host memory. A write that waited for the function goes
out with it. -/
theorem not_functionEventsResetsAndPowerStates : ¬ Obligations.FunctionEventsResetsAndPowerStates := by
  unfold Obligations.FunctionEventsResetsAndPowerStates
  rintro ⟨-, -, hset, -⟩
  obtain ⟨t, hexec, -, -, -, -, -, -, -, hhost⟩ := hset heldWrite 0 (by decide +kernel) (by decide +kernel) (by decide +kernel)
  have hkept : t.hostMem = [] := hhost.trans (by decide +kernel)
  exact of_decide_eq_false (observed_of_exec (f := fun t => decide (t.hostMem = [])) observed_bmeSet hexec) hkept

end Sys2Proof.Machine
end

section
/-! SUPPORT. What a raised source and a masked write to a poisoned line leave of a state. -/
namespace Sys2Proof.Machine

section Views

variable {α : Type} (op : State → α) (hwr : ∀ (t : State) d v i j, op (t.wr d v i j) = op t)
  (hmsix : ∀ (t : State) m, op { t with hif := { t.hif with msix := m } } = op t)
  (hlinks : ∀ (t : State) l, op { t with links := l } = op t)

include hwr hmsix hlinks

/-- A vector request reaches registers, the MSI-X tables and the links alone. -/
theorem requestVector_op (s : State) (f v : Nat) : op (requestVector s f v) = op s := by
  rcases requestVector_cases s f v with h | h | h | h <;> rw [h]
  · exact hwr s _ _ _ _
  · exact hmsix s _
  · exact hlinks s _

theorem raise_op (s : State) (n : Nat) : op (raise s n) = op s := by
  rcases raise_cases s n with h | h <;> rw [h]
  · exact hwr s _ _ _ _
  · rw [requestVector_op op hwr hmsix hlinks, hwr]

theorem detFailed_op (s : State) : op (detFailed s) = op s := by
  rw [detFailed, raise_op op hwr hmsix hlinks]
  exact hwr s _ _ _ _

/-- A store reaches, beside memory, what the report of a line whose code stays bad reaches. -/
theorem memStore_op (hmem : ∀ (t : State) m p, op { t with mem := m, poison := p } = op t) (s : State) (a : Nat) (bs : Bytes) :
    op (memStore s a bs) = op s := by
  rw [memStore, foldl_frame op _ (fun t _ => detFailed_op op hwr hmsix hlinks t), hmem]

end Views

/-- An asserted source stays so when any source is raised. -/
theorem rd_raise_kept {s : State} {k n : Nat} (hk : k < 1024) (h : s.rd IRQ_SRC.asserted k = 1) :
    (raise s n).rd IRQ_SRC.asserted k = 1 := by
  by_cases hn : n = k
  · rw [hn, rd_raise_asserted s hk]
  · have hset : (s.wr IRQ_SRC.asserted 1 n).rd IRQ_SRC.asserted k = 1 := by
      rw [State.rd_wr_member s _ (by decide) (by simpa using fun hkn => hn hkn.symm)]
      exact h
    rcases raise_cases s n with hr | hr <;> rw [hr]
    · exact hset
    · rw [rd_requestVector _ _ _ _ _ (by decide), hset]

end Sys2Proof.Machine
end

section
/-! SUPPORT. Configuration requests, BAR4, tags and address translation (O47). -/
namespace Sys2Proof.Machine

section Requests

variable {s : State} {fn p off n port tag : Nat}

/-! ### Configuration requests -/

theorem exec_configRequest_retry (op : ConfigOp) (hrun : stopped s = false) (hcrs : s.rd DEV_STATUS.crs = 1) :
    exec (.configRequest fn op) s = .next { s with rdata := 2 } := by
  change execConfigRequest fn op s = _
  rw [execConfigRequest, run_running s _ hrun, if_pos (on_of_rd_one hcrs)]
  rfl

theorem exec_configRequest (op : ConfigOp) (hrun : stopped s = false) (hcrs : s.rd DEV_STATUS.crs = 0) (hfn : fnExists s fn = true) :
    exec (.configRequest fn op) s = .next { configWrite s fn op with rdata := 0 } := by
  change execConfigRequest fn op s = _
  rw [execConfigRequest, run_running s _ hrun, on_of_rd_zero hcrs, if_neg (by decide), if_pos hfn]
  rfl

@[simp] theorem fnSt_updFn (g : FnState → FnState) : fnSt (updFn s fn g) fn = g (fnSt s fn) := Map.get_upd_same _ _ _

theorem syncPf_op {α : Type} (op : State → α) (hwr : ∀ (t : State) d v i j, op (t.wr d v i j) = op t) : op (syncPf s p) = op s := by
  unfold syncPf
  split
  · rw [hwr, hwr, hwr, hwr]
  · rfl

theorem fnSt_setFn (g : FnState → FnState) : fnSt (setFn s fn g) fn = g (fnSt s fn) := by
  rw [setFn, fnSt, syncPf_op (fun t => t.hif) (by simp)]
  exact fnSt_updFn g

theorem rd_syncPf_atsEn (hp : p < 8) : (syncPf s p).rd HIF_PF_CFG.ats_en p = flag (fnSt s p).atsEn := by
  rw [syncPf, if_pos hp]
  simp only [State.rd_wr_same _ HIF_PF_CFG.ats_en _ p 0 (by simp [Desc.has, HIF_PF_CFG.ats_en, hp])]
  cases (fnSt s p).atsEn <;> rfl

/-- Whether a function may issue requests follows the fields that say so, and its configuration state. -/
theorem fnLive_congr {t : State} (hrd : ∀ e ∈ functionFields, ∀ k l, t.rd e k l = s.rd e k l) (hfns : t.hif.fns = s.hif.fns) :
    fnLive t fn = fnLive s fn := by
  have hpf : pfOf t fn = pfOf s fn := by
    simp only [pfOf, vfInPf, State.on, hrd HIF_PF_CFG.enable (by simp [functionFields]),
      hrd HIF_PF_CFG.total_vfs (by simp [functionFields]), hrd HIF_PF_CFG.vf_first (by simp [functionFields])]
    rfl
  simp only [fnLive, hpf, fnSt, hfns, standby, pairState, hrd PAIR_STATUS.state (by simp [functionFields])]
  rfl

/-! ### BAR4 -/

theorem exec_bar4Access (data : Option Bytes) (hrun : stopped s = false) (hin : inBar4 s p off n = true) :
    exec (.bar4Access p off n data) s = .next (
      let a := g6Base + s.rd HIF_PF_CFG.g6_off p + off
      let k := if g6Down s = true then 0 else bar4Inside s p off n
      match data with
      | some bs => if k = 0 then s else memStore (bar4Lines s a k true) a ((fitBytes n bs).take k)
      | none =>
        if k = 0 then { s with rdata := 0 }
        else if memBad s a k then { detFailed (bar4Lines s a k false) with rdata := 2 ^ (8 * n) }
        else { bar4Lines s a k false with rdata := ofLe (memLoad s a k) }) := by
  change execBar4Access p off n data s = _
  rw [execBar4Access, run_running s _ hrun, hin, if_neg (by decide)]
  rfl

/-- Lines charged to their devices: the counters alone see them. -/
theorem bar4Lines_op {α : Type} (op : State → α) (h : ∀ t a b c, op (g6Access t a b c) = op t) (a k : Nat) (w : Bool) :
    op (bar4Lines s a k w) = op s := foldl_frame op _ (fun t _ => h t _ _ _) _ _

theorem bar4Inside_all (hfit : s.rd HIF_PF_CFG.g6_off p + off + n ≤ g6Size) : bar4Inside s p off n = n := by
  rw [bar4Inside]
  omega

/-! ### Tags -/

theorem exec_completionTimeout {r : Req} (hrun : stopped s = false) (hreq : reqOf s port tag = some r) (hout : timedOut s r = true) :
    exec (.completionTimeout port tag) s =
      .next (failRequest (pmc (raise ((quarantine s r).count HIF_CTO_CNT.count) 0x1C1) 0x901 port 1 none) r) := by
  change execCompletionTimeout port tag s = _
  rw [execCompletionTimeout, run_running s _ hrun]
  simp only [hreq, hout, if_true]

theorem exec_lateCompletion (hrun : stopped s = false) (hquar : (quarOf s port tag).isSome = true) :
    exec (.lateCompletion port tag) s = .next ((freeQuarantine s port tag).count HIF_LATE_CPL.count) := by
  change execLateCompletion port tag s = _
  rw [execLateCompletion, run_running s _ hrun, if_pos hquar]

theorem exec_quarantineExpiry {q : Quarantine} (hrun : stopped s = false) (hquar : quarOf s port tag = some q)
    (hfree : q.freeAt ≤ now s) : exec (.quarantineExpiry port tag) s = .next (freeQuarantine s port tag) := by
  change execQuarantineExpiry port tag s = _
  rw [execQuarantineExpiry, run_running s _ hrun]
  simp only [hquar, hfree, if_true]

/-- The counts of a port are registers. -/
theorem tagCounts_op {α : Type} (op : State → α) (hwr : ∀ (t : State) d v i j, op (t.wr d v i j) = op t) : op (tagCounts s port) = op s := by
  rw [tagCounts, hwr, hwr, hwr]

theorem rd_tagCounts {e : Desc} (h1 : HIF_TAG_STAT.free.apart e = true) (h2 : HIF_TAG_STAT.outstanding.apart e = true)
    (h3 : HIF_TAG_STAT.quarantined.apart e = true) (i : Nat) : (tagCounts s port).rd e i = s.rd e i := by
  rw [tagCounts, State.rd_wr_apart _ _ _ _ _ _ h3, State.rd_wr_apart _ _ _ _ _ _ h2, State.rd_wr_apart _ _ _ _ _ _ h1]

/-- A freed tag is in quarantine no more. -/
theorem quarOf_filter (l : List Quarantine) :
    ((l.filter fun q => !(decide (q.port = port) && decide (q.tag = tag))).find? fun q => decide (q.port = port) && decide (q.tag = tag))
      = none := by
  rw [List.find?_eq_none]
  intro q hq
  simpa only [Bool.not_eq_true', Bool.not_eq_true] using (List.mem_filter.mp hq).2

theorem quarOf_freeQuarantine : quarOf (freeQuarantine s port tag) port tag = none := by
  rw [quarOf, freeQuarantine, tagCounts_op State.hif (by simp)]
  exact quarOf_filter _

theorem freeQuarantine_op {α : Type} (op : State → α) (hwr : ∀ (t : State) d v i j, op (t.wr d v i j) = op t)
    (hquar : ∀ (t : State) q, op { t with hif := { t.hif with quar := q } } = op t) : op (freeQuarantine s port tag) = op s := by
  rw [freeQuarantine, tagCounts_op op hwr, hquar]

/-! ### Translations -/

theorem exec_translationResponse {page target : Nat} {rd wr ok : Bool} {r : Req} (hrun : stopped s = false)
    (hreq : (s.hif.reqs.find? fun r => decide (r.owner = .translation fn page)) = some r) (hlive : fnLive s fn = true) :
    exec (.translationResponse fn page target rd wr ok) s = .next (if (ok && (rd || wr) && (fnSt s fn).atsEn) = true then
      fillAtc (endRead s (.translation fn page)) fn page target rd wr else failRequest (endRead s (.translation fn page)) r) := by
  have hend : endRead s (.translation fn page) =
      tagCounts { s with hif := { s.hif with reqs := s.hif.reqs.filter fun x => decide (x ≠ r) } } r.port := by
    simp only [endRead, hreq]
  have hl : fnLive (endRead s (.translation fn page)) fn = true := by
    rw [hend, tagCounts, fnLive_wr (by decide), fnLive_wr (by decide), fnLive_wr (by decide)]
    exact hlive
  have hats : (fnSt (endRead s (.translation fn page)) fn).atsEn = (fnSt s fn).atsEn := by
    rw [hend, fnSt, tagCounts_op State.hif (by simp)]
    rfl
  change execTranslationResponse fn page target rd wr ok s = _
  rw [execTranslationResponse, run_running s _ hrun]
  simp only [hreq, hl, hats, Bool.not_true, Bool.false_eq_true, if_false]

theorem exec_invalidateRequest {itag page pages : Nat} (hrun : stopped s = false) :
    exec (.invalidateRequest fn itag page pages) s = .next { s with hif := { s.hif with
      atc := s.hif.atc.filter fun p => !(decide (atcKey fn page ≤ p.1) && decide (p.1 < atcKey fn page + pages))
      atcFault := s.hif.atcFault.filter fun p =>
        !(decide (atcKey fn page ≤ atcKey p.1 p.2) && decide (atcKey p.1 p.2 < atcKey fn page + pages))
      invPending := s.hif.invPending ++ [(fn, itag, s.hif.reqs.filter fun r => decide (r.fn = fn))] } } := by
  change execInvalidateRequest fn itag page pages s = _
  rw [execInvalidateRequest, run_running s _ hrun]

theorem exec_invalidationCompletion {itag : Nat} {x : Nat × Nat × List Req} (hrun : stopped s = false)
    (hx : (s.hif.invPending.find? fun x => decide (x.1 = fn) && decide (x.2.1 = itag)) = some x)
    (hdone : (x.2.2.any fun r => s.hif.reqs.contains r) = false) : exec (.invalidationCompletion fn itag) s =
      .next (putLink { s with hif := { s.hif with invPending := s.hif.invPending.erase x } } (.invalidationDone fn itag)) := by
  change execInvalidationCompletion fn itag s = _
  rw [execInvalidationCompletion, run_running s _ hrun]
  simp only [hx, hdone, Bool.false_eq_true, if_false]

theorem exec_atsDisable (hrun : stopped s = false) (hfn : fnExists s fn = true) :
    exec (.atsDisable fn) s = .next (dropAtc (setFn s fn fun x => { x with atsEn := false }) fn) := by
  change execAtsDisable fn s = _
  rw [execAtsDisable, run_running s _ hrun, if_pos hfn]

/-- A key outside those that a filter takes out keeps its value. -/
theorem Map.get_filter_kept {α : Type} [Inhabited α] (m : Map α) (f : Nat × α → Bool) (k : Nat) (h : ∀ v, f (k, v) = true) :
    Map.get (m.filter f : Map α) k = Map.get m k := by
  unfold Map.get
  induction m with
  | nil => rfl
  | cons x xs ih =>
    obtain ⟨i, v⟩ := x
    by_cases hi : i = k
    · subst hi
      rw [List.filter_cons_of_pos (h v)]
      simp [Map.getD]
    · cases hf : f (i, v) with
      | true =>
        rw [List.filter_cons_of_pos hf]
        simpa [Map.getD, Ne.symm hi] using ih
      | false =>
        rw [List.filter_cons_of_neg (by simp [hf])]
        simpa [Map.getD, Ne.symm hi] using ih

theorem fitBytes_length (k : Nat) (bs : Bytes) : (fitBytes k bs).length = k := by
  rw [fitBytes, List.length_append, List.length_take, List.length_replicate]
  omega

end Requests

/-- Settles O47: requests, tags and translations by the lists that hold them. That completions answer 0 and 2 in rdata, how a
poisoned answer shows, and that an invalidation waits for every outstanding request of its function, are the model's choices
(log entries 20, 84 and 86). -/
theorem hostRequestsTagsAndTranslations : Obligations.HostRequestsTagsAndTranslations := by
  unfold Obligations.HostRequestsTagsAndTranslations
  refine ⟨fun s fn op hrun hcrs => exec_configRequest_retry op hrun hcrs, ?bits, ?ats, ?vfs, ?stored, ?loaded, ?timeout, ?late, ?freed,
    ?filled, ?invalidated, ?completed, ?disabled, fun s fn op hrun hcrs hfn => exec_configRequest op hrun hcrs hfn, ?written, ?read,
    ?poisoned, ?outside, fun s port tag r hrun hreq hout => exec_completionTimeout hrun hreq hout,
    fun s port tag hrun hquar => exec_lateCompletion hrun hquar,
    fun s port tag q hrun hquar hfree => exec_quarantineExpiry hrun hquar hfree, ?joins, ?fails,
    fun s fn itag page pages hrun => exec_invalidateRequest hrun,
    fun s fn itag x hrun hx hdone => exec_invalidationCompletion hrun hx hdone, fun s fn hrun hfn => exec_atsDisable hrun hfn⟩
  case bits =>
    intro s fn b hrun hcrs hfn
    have hst : fnSt (updFn s fn fun x => { x with tagBits := b }) fn = { fnSt s fn with tagBits := b } := fnSt_updFn _
    exact ⟨_, exec_configRequest _ hrun hcrs hfn, congrArg FnState.tagBits hst, (congrArg FnState.bme hst).trans rfl, rfl, rfl, rfl, rfl, rfl⟩
  case ats =>
    intro s fn hrun hcrs hfn hlt
    have hkept {α : Type} (op : State → α) (hwr : ∀ (t : State) d v i j, op (t.wr d v i j) = op t)
        (hfns : ∀ (t : State) f g, op (updFn t f g) = op t) : op (setFn s fn fun x => { x with atsEn := true }) = op s := by
      rw [setFn, syncPf_op op hwr, hfns]
    refine ⟨_, exec_configRequest _ hrun hcrs hfn, congrArg FnState.atsEn (fnSt_setFn _), ?_, rfl,
      hkept State.mem (by simp) (by simp), hkept State.hostMem (by simp) (by simp), hkept State.links (by simp) (by simp)⟩
    refine (rd_syncPf_atsEn hlt).trans ?_
    rw [fnSt_updFn]
    rfl
  case vfs =>
    intro s fn n hrun hcrs hfn hlt
    rw [exec_configRequest _ hrun hcrs hfn, configWrite, if_pos hlt, State.wr, State.wr]
    split <;> rfl
  case stored =>
    intro s p off n bs hrun hin hdown hn hfit
    have hlen : (fitBytes n bs).take n = fitBytes n bs := List.take_of_length_le (Nat.le_of_eq (fitBytes_length ..))
    have hmem (a : Nat) : (bar4Lines s a n true).mem = s.mem := bar4Lines_op State.mem (by simp) _ _ _
    refine ⟨_, exec_bar4Access (some bs) hrun hin, ?_⟩
    simp only [hdown, Bool.false_eq_true, if_false, bar4Inside_all hfit, hn, hlen, memStore_hostMem, memStore_rdata]
    refine ⟨?_, bar4Lines_op State.hostMem (by simp) _ _ _, bar4Lines_op State.rdata (by simp) _ _ _, fun a ha => ?_⟩
    · have hread := loadBytes_storeBytes_same s.mem (g6Base + s.rd HIF_PF_CFG.g6_off p + off) (fitBytes n bs)
      rw [fitBytes_length] at hread
      rw [memLoad, memStore_mem, hmem, hread]
    · rw [memLoad, memStore_mem, hmem]
      exact loadBytes_one_storeBytes_outside _ _ _ _ (by rwa [fitBytes_length])
  case loaded =>
    intro s p off n hrun hin hdown hn hfit hgood
    refine ⟨_, exec_bar4Access none hrun hin, ?_⟩
    simp only [hdown, Bool.false_eq_true, if_false, bar4Inside_all hfit, hn, hgood]
    exact ⟨trivial, bar4Lines_op State.mem (by simp) _ _ _, bar4Lines_op State.hostMem (by simp) _ _ _,
      bar4Lines_op State.links (by simp) _ _ _⟩
  case timeout =>
    intro s port tag r hrun hreq hout htag hdead hreqs
    obtain ⟨-, rfl⟩ : r.port = port ∧ r.tag = tag := by simpa using List.find?_some hreq
    have hquar : quarantine s r = tagCounts { s with hif := { s.hif with
        reqs := [], quar := s.hif.quar ++ [⟨r.port, r.tag, now s + 4 * timeoutNs s r.fn, (linkOf s r.fn).getD 0⟩] } } r.port := by
      rw [quarantine, if_neg (Nat.not_le.mpr htag), hreqs]
      simp
    have hkept {α : Type} (op : State → α) (hwr : ∀ (t : State) d v i j, op (t.wr d v i j) = op t)
        (hmsix : ∀ (t : State) m, op { t with hif := { t.hif with msix := m } } = op t)
        (hlinks : ∀ (t : State) l, op { t with links := l } = op t) (hpmc : ∀ t a b c d, op (pmc t a b c d) = op t) :
        op (pmc (raise ((quarantine s r).count HIF_CTO_CNT.count) 0x1C1) 0x901 port 1 none) = op (quarantine s r) := by
      rw [hpmc, raise_op op hwr hmsix hlinks, State.count, hwr]
    have hfns : (pmc (raise ((quarantine s r).count HIF_CTO_CNT.count) 0x1C1) 0x901 port 1 none).hif.fns = s.hif.fns := by
      rw [hkept (fun t => t.hif.fns) (by simp) (fun _ _ => rfl) (fun _ _ => rfl) (by simp), hquar, tagCounts_op State.hif (by simp)]
    have hdead' : fnLive (pmc (raise ((quarantine s r).count HIF_CTO_CNT.count) 0x1C1) 0x901 port 1 none) r.fn = false := by
      rw [← hdead]
      refine fnLive_congr (fun e he k l => ?_) hfns
      have hap (d : Desc) (h : functionFields.all (d.apart ·) = true) : d.apart e = true := List.all_eq_true.mp h e he
      rw [rd_pmc _ _ _ _ _ _ _ (hap _ (by decide)), rd_raise _ _ _ _ (hap _ (by decide)) (hap _ (by decide)),
        State.rd_count_apart _ _ _ _ _ _ (hap _ (by decide)), hquar, tagCounts, State.rd_wr_apart _ _ _ _ _ _ (hap _ (by decide)),
        State.rd_wr_apart _ _ _ _ _ _ (hap _ (by decide)), State.rd_wr_apart _ _ _ _ _ _ (hap _ (by decide))]
      rfl
    refine ⟨_, exec_completionTimeout hrun hreq hout, ?_⟩
    rw [failRequest, hdead', if_pos (by decide)]
    refine ⟨?_, ?_, ?_, ?_, ?_, ?_⟩
    · rw [hkept (fun t => t.hif.reqs) (by simp) (fun _ _ => rfl) (fun _ _ => rfl) (by simp), hquar, tagCounts_op State.hif (by simp)]
    · rw [hkept (fun t => t.hif.quar) (by simp) (fun _ _ => rfl) (fun _ _ => rfl) (by simp), hquar, tagCounts_op State.hif (by simp)]
    · rw [rd_pmc _ _ _ _ _ _ _ (by decide), rd_raise _ _ _ _ (by decide) (by decide),
        State.rd_count_same _ HIF_CTO_CNT.count 1 0 0 (by decide), hquar, rd_tagCounts (by decide) (by decide) (by decide)]
      rfl
    · rw [rd_pmc _ _ _ _ _ _ _ (by decide), rd_raise_asserted _ (by decide)]
    · rw [hkept State.mem (by simp) (fun _ _ => rfl) (fun _ _ => rfl) (by simp), hquar, tagCounts_op State.mem (by simp)]
    · rw [hkept State.hostMem (by simp) (fun _ _ => rfl) (fun _ _ => rfl) (by simp), hquar, tagCounts_op State.hostMem (by simp)]
  case late =>
    intro s port tag hrun hquar
    have hkept {α : Type} (op : State → α) (hwr : ∀ (t : State) d v i j, op (t.wr d v i j) = op t)
        (hq : ∀ (t : State) q, op { t with hif := { t.hif with quar := q } } = op t) :
        op ((freeQuarantine s port tag).count HIF_LATE_CPL.count) = op s := by
      rw [State.count, hwr, freeQuarantine_op op hwr hq]
    refine ⟨_, exec_lateCompletion hrun hquar, ?_, ?_, hkept (fun t => t.hif.reqs) (by simp) (fun _ _ => rfl),
      hkept State.mem (by simp) (fun _ _ => rfl), hkept State.hostMem (by simp) (fun _ _ => rfl),
      hkept State.links (by simp) (fun _ _ => rfl)⟩
    · rw [quarOf, State.count_hif]
      exact quarOf_freeQuarantine
    · rw [State.rd_count_same _ HIF_LATE_CPL.count 1 0 0 (by decide), freeQuarantine,
        rd_tagCounts (by decide) (by decide) (by decide)]
      rfl
  case freed =>
    intro s port tag q hrun hquar hfree
    refine ⟨_, exec_quarantineExpiry hrun hquar hfree, quarOf_freeQuarantine, ?_,
      freeQuarantine_op (fun t => t.hif.reqs) (by simp) (fun _ _ => rfl), freeQuarantine_op State.mem (by simp) (fun _ _ => rfl),
      freeQuarantine_op State.hostMem (by simp) (fun _ _ => rfl), freeQuarantine_op State.links (by simp) (fun _ _ => rfl)⟩
    rw [freeQuarantine, rd_tagCounts (by decide) (by decide) (by decide)]
    rfl
  case filled =>
    intro s fn page target wr r hrun hreqs howner hlive hats hroom
    have hfind : (s.hif.reqs.find? fun r => decide (r.owner = .translation fn page)) = some r := by simp [hreqs, howner]
    have hend : endRead s (.translation fn page) = tagCounts { s with hif := { s.hif with reqs := [] } } r.port := by
      simp only [endRead, hfind]
      rw [hreqs]
      simp
    have hhif : (endRead s (.translation fn page)).hif = { s.hif with reqs := [] } := by rw [hend, tagCounts_op State.hif (by simp)]
    refine ⟨_, exec_translationResponse hrun hfind hlive, ?_⟩
    rw [hats, if_pos (by simp), fillAtc, hhif, if_pos hroom]
    refine ⟨Map.get_set_same _ _ _, congrArg HifState.reqs hhif, ?_⟩
    simp only [hend]
    exact ⟨tagCounts_op State.mem (by simp), tagCounts_op State.hostMem (by simp),
      tagCounts_op State.links (by simp)⟩
  case invalidated =>
    intro s fn itag page pages hrun
    refine ⟨_, exec_invalidateRequest hrun, rfl, ?_, rfl, rfl, rfl, rfl, fun k hk => Map.get_filter_kept _ _ _ fun v => ?_⟩
    · rw [List.any_eq_false]
      intro p hp
      simpa only [Bool.not_eq_true', Bool.not_eq_true] using (List.mem_filter.mp hp).2
    · simp only [Bool.not_eq_true', Bool.and_eq_false_iff, decide_eq_false_iff_not]
      omega
  case completed =>
    intro s fn itag hrun hpending
    rw [exec_invalidationCompletion (x := (fn, itag, [])) hrun (by simp [hpending]) (by simp), putLink, hpending]
    simp
  case disabled =>
    intro s fn hrun hfn
    have hkept {α : Type} (op : State → α) (hwr : ∀ (t : State) d v i j, op (t.wr d v i j) = op t)
        (hfns : ∀ (t : State) f g, op (updFn t f g) = op t) : op (setFn s fn fun x => { x with atsEn := false }) = op s := by
      rw [setFn, syncPf_op op hwr, hfns]
    have hst := fnSt_setFn (s := s) (fn := fn) fun x => { x with atsEn := false }
    refine ⟨_, exec_atsDisable hrun hfn, congrArg FnState.atsEn hst, ?_, (congrArg FnState.bme hst).trans rfl,
      hkept State.mem (by simp) (by simp), hkept State.hostMem (by simp) (by simp), hkept State.links (by simp) (by simp)⟩
    rw [List.any_eq_false]
    intro p hp
    simpa using (List.mem_filter.mp hp).2
  case written =>
    rintro s p off n k a bs hrun hin rfl rfl
    exact exec_bar4Access (some bs) hrun hin
  case read =>
    rintro s p off n k a hrun hin rfl rfl hk hgood
    rw [exec_bar4Access none hrun hin]
    simp only [hk, hgood, if_false, Bool.false_eq_true]
  case poisoned =>
    rintro s p off n k a hrun hin rfl rfl hk hbad
    rw [exec_bar4Access none hrun hin]
    simp only [hk, hbad, if_false, if_true]
  case outside =>
    rintro s p off n k a hrun hin rfl rfl hk
    rw [exec_bar4Access none hrun hin]
    simp only [hk, if_true]
  case joins =>
    rintro s fn page target rd wr ok r t hrun hreq hlive hgood rfl
    rw [exec_translationResponse hrun hreq hlive, if_pos hgood]
  case fails =>
    rintro s fn page target rd wr ok r t hrun hreq hlive hbad rfl
    rw [exec_translationResponse hrun hreq hlive, hbad, if_neg (by decide)]

end Sys2Proof.Machine
end

section
/-! SUPPORT. The steps of the start sequence, and host links that come and go (O51). -/
namespace Sys2Proof.Machine

section Start

variable {s : State} {g d l : Nat}

/-! ### Commands -/

theorem exec_pllLock (hrun : stopped s = false) (hpll : s.start.pll = false) :
    exec .pllLock s = .next (syncReady ({ s with start := { s.start with pll := true } }.wr DEV_CLK_STAT.osc_ok 1)) := by
  change execPllLock s = _
  rw [execPllLock, run_running s _ hrun, hpll, if_neg (by decide)]

theorem exec_serdesCalibrated (b : Bool) (hrun : stopped s = false) (hg : g < 5) (hpll : s.start.pll = true)
    (hnew : s.start.serdes.contains g = false) : exec (.serdesCalibrated g b) s =
      .next (syncReady ({ s with start := { s.start with serdes := s.start.serdes ++ [g] } }.wr (serdesClock g) (flag b))) := by
  change execSerdesCalibrated g b s = _
  rw [execSerdesCalibrated, run_running s _ hrun, if_neg (by simpa [Nat.not_le.mpr hg, hpll] using hnew)]

theorem exec_gddr6TrainingDone (b : Bool) (hrun : stopped s = false) (hd : d < 12) (hpll : s.start.pll = true)
    (hnew : s.start.trained.contains d = false) (hgood : (s.rd DEV_STATUS.g6_fail).testBit d = false) :
    exec (.gddr6TrainingDone d b) s = .next (
      if b then syncReady { s with start := { s.start with trained := s.start.trained ++ [d] } }
      else
        let n := Map.get s.start.tries d + 1
        let t := { s with start := { s.start with tries := Map.set s.start.tries d n } }
        if 3 ≤ n then syncReady (g6Failed t d) else t) := by
  change execGddr6TrainingDone d b s = _
  rw [execGddr6TrainingDone, run_running s _ hrun, if_neg (by simpa [Nat.not_le.mpr hd, hpll, hgood] using hnew)]

theorem exec_memoryInitDone_steward (hrun : stopped s = false) (hpll : s.start.pll = true) (hfirst : s.start.steward = false) :
    exec (.memoryInitDone 0) s =
      .next (syncReady (clearRange { s with start := { s.start with steward := true } } stewardMemLo stewardMemHi)) := by
  change execMemoryInitDone 0 s = _
  rw [execMemoryInitDone, run_running s _ hrun, if_neg (by simp [hpll])]
  exact congrArg _ (if_neg (by simp [hfirst]))

theorem exec_pcieLinkDown (hrun : stopped s = false) (hup : s.hif.linksUp.contains l = true) :
    exec (.pcieLinkDown l) s = .next (dropLink s l) := by
  change execPcieLinkDown l s = _
  rw [execPcieLinkDown, run_running s _ hrun, if_pos hup]

/-! ### The end of the sequence -/

theorem startDone_wr (e : Desc) (v i j : Nat) (he : e.apart DEV_STATUS.g6_fail = true) (he' : e.apart DEV_STATUS.hw_fault = true) :
    startDone (s.wr e v i j) = startDone s := by
  simp only [startDone, trainingOver, g6Down, State.wr_start, State.rd_wr_apart s _ _ _ _ _ he, State.on_wr_apart s _ _ _ _ _ he']

theorem syncReady_early (h : startDone s = false) : syncReady s = s := by simp [syncReady, h]

/-- At the end of the sequence hw_ready is set, and CRS ends where the ROM is done. -/
theorem syncReady_done (hdone : startDone s = true) (hready : s.rd DEV_STATUS.hw_ready = 0) (hphase : s.rd BOOT_STATUS.phase ≠ 0) :
    syncReady s = ((s.wr DEV_STATUS.hw_ready 1).wr DEV_STATUS.ready_us (s.tt.ticks * 8 / 1000)).wr DEV_STATUS.crs 0 := by
  have hset : ((s.wr DEV_STATUS.hw_ready 1).wr DEV_STATUS.ready_us (s.tt.ticks * 8 / 1000)).on DEV_STATUS.hw_ready = true := by
    rw [State.on_wr_apart _ _ _ _ _ _ (by decide)]
    exact on_of_rd_one (State.rd_wr_same s DEV_STATUS.hw_ready 1 0 0 (by decide))
  have hrom : bootPhase ((s.wr DEV_STATUS.hw_ready 1).wr DEV_STATUS.ready_us (s.tt.ticks * 8 / 1000)) ≠ phRom := by
    rw [bootPhase, State.rd_wr_apart _ _ _ _ _ _ (by decide), State.rd_wr_apart _ _ _ _ _ _ (by decide)]
    exact hphase
  rw [syncReady, hdone, on_of_rd_zero hready, if_pos (by decide), syncCrs, hset, if_pos (by simpa using hrom)]

/-- The end of the sequence writes registers alone. -/
theorem syncReady_op {α : Type} (op : State → α) (hwr : ∀ (t : State) d v i j, op (t.wr d v i j) = op t) : op (syncReady s) = op s := by
  unfold syncReady syncCrs
  split
  · split
    · rw [hwr, hwr, hwr]
    · rw [hwr, hwr]
  · rfl

theorem rd_syncReady {e : Desc} (h1 : DEV_STATUS.hw_ready.apart e = true) (h2 : DEV_STATUS.ready_us.apart e = true)
    (h3 : DEV_STATUS.crs.apart e = true) (i : Nat) : (syncReady s).rd e i = s.rd e i := by
  have hready : ((s.wr DEV_STATUS.hw_ready 1).wr DEV_STATUS.ready_us (s.tt.ticks * 8 / 1000)).rd e i = s.rd e i := by
    rw [State.rd_wr_apart _ _ _ _ _ _ h2, State.rd_wr_apart _ _ _ _ _ _ h1]
  unfold syncReady syncCrs
  split
  · split
    · rw [State.rd_wr_apart _ _ _ _ _ _ h3, hready]
    · exact hready
  · rfl

/-! ### RECOVERY (R865) -/

/-- The fields of HIF_PF_CFG that a configuration record sets. -/
def recordFields : List Desc :=
  [HIF_PF_CFG.enable, HIF_PF_CFG.link, HIF_PF_CFG.total_vfs, HIF_PF_CFG.vf_first, HIF_PF_CFG.vf_db_log2, HIF_PF_CFG.bar4_log2,
    HIF_PF_CFG.pf_vec, HIF_PF_CFG.vf_vec]

theorem putPfCfg_op {α : Type} (op : State → α) (hwr : ∀ (t : State) d v i j, op (t.wr d v i j) = op t) (p v : Nat) :
    op (putPfCfg s p v) = op s := foldl_frame op _ (fun t _ => hwr t _ _ _ _) _ _

theorem rd_putPfCfg {e : Desc} (he : recordFields.all (·.apart e) = true) (p v i : Nat) : (putPfCfg s p v).rd e i = s.rd e i :=
  foldl_frame_mem (fun t => t.rd e i) _ _ (fun t d hd => State.rd_wr_apart t _ _ _ _ _ (List.all_eq_true.mp he d hd)) _

theorem putLayout_op {α : Type} (op : State → α) (hwr : ∀ (t : State) d v i j, op (t.wr d v i j) = op t) (a : Areas) (pfs : List Nat) :
    op (putLayout s a pfs) = op { s with areas := a } := by
  rw [putLayout, hwr]
  exact foldl_frame op _ (fun t p => putPfCfg_op op hwr p _) _ _

theorem rd_putLayout {e : Desc} (he : recordFields.all (·.apart e) = true) (hlock : (lockField .hif).apart e = true) (a : Areas)
    (pfs : List Nat) (i : Nat) : (putLayout s a pfs).rd e i = s.rd e i := by
  rw [putLayout, State.rd_wr_apart _ _ _ _ _ _ hlock]
  exact foldl_frame (fun t => t.rd e i) _ (fun t p => rd_putPfCfg he p _ i) _ _

theorem syncCrs_op {α : Type} (op : State → α) (hwr : ∀ (t : State) d v i j, op (t.wr d v i j) = op t) : op (syncCrs s) = op s := by
  unfold syncCrs
  split
  · exact hwr _ _ _ _ _
  · rfl

theorem rd_syncCrs {e : Desc} (h : DEV_STATUS.crs.apart e = true) (i : Nat) : (syncCrs s).rd e i = s.rd e i := by
  unfold syncCrs
  split
  · exact State.rd_wr_apart _ _ _ _ _ _ h
  · rfl

theorem setPhase_op {α : Type} (op : State → α) (hwr : ∀ (t : State) d v i j, op (t.wr d v i j) = op t)
    (hraise : ∀ t n, op (raise t n) = op t) (p : Nat) : op (setPhase s p) = op s := by rw [setPhase, hraise, hwr]

theorem rd_setPhase_phase (p : Nat) (hp : p < 8) : (setPhase s p).rd BOOT_STATUS.phase = p := by
  rw [setPhase, rd_raise _ _ _ _ (by decide) (by decide), State.rd_wr_same s BOOT_STATUS.phase p 0 0 (by decide)]
  exact Nat.mod_eq_of_lt hp

theorem rd_setPhase {e : Desc} (hphase : BOOT_STATUS.phase.apart e = true) (hbit : IRQ_SRC.asserted.apart e = true)
    (hbad : IRQ_MSIX_BAD.count.apart e = true) (p i : Nat) : (setPhase s p).rd e i = s.rd e i := by
  rw [setPhase, rd_raise _ _ _ _ hbit hbad, State.rd_wr_apart _ _ _ _ _ _ hphase]

/-- RECOVERY changes registers, the record and the areas, and raises a source. -/
theorem enterRecovery_op {α : Type} (op : State → α) (hwr : ∀ (t : State) d v i j, op (t.wr d v i j) = op t)
    (hraise : ∀ t n, op (raise t n) = op t) (hlayout : ∀ (t : State) a b, op { t with boot := b, areas := a } = op t) :
    op (enterRecovery s) = op s := by
  rw [enterRecovery, syncCrs_op op hwr, setPhase_op op hwr hraise, recoveryDefaults, putLayout_op op hwr]
  exact hlayout s _ _

theorem rd_enterRecovery_phase : (enterRecovery s).rd BOOT_STATUS.phase = 4 := by
  rw [enterRecovery, rd_syncCrs (by decide)]
  exact rd_setPhase_phase 4 (by decide)

theorem rd_enterRecovery {e : Desc} (he : recordFields.all (·.apart e) = true)
    (hs : [lockField .hif, BOOT_STATUS.phase, IRQ_SRC.asserted, IRQ_MSIX_BAD.count, DEV_STATUS.crs].all (·.apart e) = true) (i : Nat) :
    (enterRecovery s).rd e i = s.rd e i := by
  simp only [List.all_cons, List.all_nil, Bool.and_true, Bool.and_eq_true] at hs
  obtain ⟨hlock, hphase, hbit, hbad, hcrs⟩ := hs
  rw [enterRecovery, rd_syncCrs hcrs, rd_setPhase hphase hbit hbad, recoveryDefaults, rd_putLayout he hlock]
  rfl

/-! ### A GDDR6 device that fails -/

/-- A GDDR6 device marked failed. -/
def markFailed (s : State) (d : Nat) : State :=
  (s.wr DEV_STATUS.g6_fail (putBit (s.rd DEV_STATUS.g6_fail) d true)).wr DEV_STATUS.hw_fault 1

theorem g6Failed_eq : g6Failed s d = if bootPhase (markFailed s d) = phRom then enterRecovery (markFailed s d) else markFailed s d :=
  rfl

theorem rd_markFailed_fault : (markFailed s d).rd DEV_STATUS.hw_fault = 1 :=
  State.rd_wr_same _ DEV_STATUS.hw_fault 1 0 0 (by decide)

theorem rd_markFailed_device (hd : d < 12) : ((markFailed s d).rd DEV_STATUS.g6_fail).testBit d = true := by
  rw [markFailed, State.rd_wr_apart _ _ _ _ _ _ (by decide), State.rd_wr_same s DEV_STATUS.g6_fail _ 0 0 (by decide),
    show DEV_STATUS.g6_fail.width = 12 from rfl, Nat.testBit_mod_two_pow, testBit_putBit]
  simpa using hd

theorem markFailed_op {α : Type} (op : State → α) (hwr : ∀ (t : State) d v i j, op (t.wr d v i j) = op t) :
    op (markFailed s d) = op s := by rw [markFailed, hwr, hwr]

theorem bootPhase_markFailed : bootPhase (markFailed s d) = s.rd BOOT_STATUS.phase := by
  rw [bootPhase, markFailed, State.rd_wr_apart _ _ _ _ _ _ (by decide), State.rd_wr_apart _ _ _ _ _ _ (by decide)]

/-- The third attempt that fails marks the device. -/
theorem exec_thirdFailure (hrun : stopped s = false) (hd : d < 12) (hpll : s.start.pll = true)
    (hnew : s.start.trained.contains d = false) (hgood : (s.rd DEV_STATUS.g6_fail).testBit d = false)
    (htries : Map.get s.start.tries d = 2) : exec (.gddr6TrainingDone d false) s = .next (syncReady (g6Failed { s with start :=
      { s.start with tries := Map.set s.start.tries d (Map.get s.start.tries d + 1) } } d)) := by
  rw [exec_gddr6TrainingDone false hrun hd hpll hnew hgood, if_neg (by decide)]
  simp only [if_pos (show 3 ≤ Map.get s.start.tries d + 1 by omega)]

/-! ### Memory and links -/

/-- A key that a map does not list reads as the default. -/
theorem Map.get_unlisted {α : Type} [Inhabited α] (m : Map α) (k : Nat) (h : ∀ p ∈ m, p.1 ≠ k) : Map.get m k = default := by
  unfold Map.get
  induction m with
  | nil => rfl
  | cons p m ih =>
    obtain ⟨hp, hm⟩ := List.forall_mem_cons.1 h
    rw [Map.getD, if_neg hp.symm, ih hm]

theorem memLoad_clearRange_inside {lo hi a : Nat} (hlo : lo ≤ a) (hhi : a < hi) : memLoad (clearRange s lo hi) a 1 = [0] := by
  have hzero : Map.get (clearRange s lo hi).mem a = 0 := Map.get_unlisted _ _ fun p hp hpa => by
    simpa [hpa, hlo, hhi] using (List.mem_filter.mp hp).2
  simp only [memLoad, loadBytes, hzero]

/-- Several bytes of a cleared range are 0. -/
theorem memLoad_clearRange {lo hi : Nat} (n a : Nat) (hlo : lo ≤ a) (hhi : a + n ≤ hi) :
    memLoad (clearRange s lo hi) a n = List.replicate n 0 := by
  induction n generalizing a with
  | zero => rfl
  | succ n ih =>
    have hone := memLoad_clearRange_inside (s := s) hlo (show a < hi by omega)
    simp only [memLoad, loadBytes, List.cons.injEq, and_true] at hone
    rw [memLoad, loadBytes, hone, List.replicate_succ]
    exact congrArg _ (ih (a + 1) (by omega) (by omega))

theorem memLoad_clearRange_outside {lo hi a : Nat} (ha : a < lo ∨ hi ≤ a) : memLoad (clearRange s lo hi) a 1 = memLoad s a 1 := by
  have hkept : Map.get (clearRange s lo hi).mem a = Map.get s.mem a := Map.get_filter_kept _ _ _ fun v => by
    simp only [Bool.not_eq_true', Bool.and_eq_false_iff, decide_eq_false_iff_not]
    omega
  simp only [memLoad, loadBytes, hkept]

/-- Without requests a link that goes down only leaves the list, with its quarantines. -/
theorem dropLink_idle (hreqs : s.hif.reqs = []) : dropLink s l = tagCounts { s with hif := { s.hif with
    quar := s.hif.quar.filter fun q => decide (q.link ≠ l)
    linksUp := s.hif.linksUp.filter fun x => decide (x ≠ l) } } (l / 4) := by
  rw [dropLink, hreqs]
  rfl

/-! ### The clocks of the serdes groups -/

theorem serdesClock_member (g : Nat) : (serdesClock g).has 0 0 = true := by
  unfold serdesClock
  split <;> decide

theorem serdesClock_width (g : Nat) : (serdesClock g).width = 1 := by
  unfold serdesClock
  split <;> rfl

/-- The clock of a group stands apart from the other fields of the start sequence. -/
theorem serdesClock_apart (g : Nat) :
    [DEV_STATUS.g6_fail, DEV_STATUS.hw_fault, DEV_STATUS.hw_ready, BOOT_STATUS.phase].all ((serdesClock g).apart ·) = true ∧
      [DEV_STATUS.hw_ready, DEV_STATUS.ready_us, DEV_STATUS.crs].all (·.apart (serdesClock g)) = true := by
  unfold serdesClock
  split <;> decide

theorem startDone_serdesClock (g v : Nat) : startDone (s.wr (serdesClock g) v) = startDone s := by
  have h := (serdesClock_apart g).1
  simp only [List.all_cons, List.all_nil, Bool.and_true, Bool.and_eq_true] at h
  exact startDone_wr _ _ _ _ h.1 h.2.1

end Start

/-- Settles O51: each step of the sequence is one change, after which the sequence may be over; links by their list. -/
theorem startSequenceAndHostLinks : Obligations.StartSequenceAndHostLinks := by
  unfold Obligations.StartSequenceAndHostLinks
  refine ⟨?locked, ?calibrated, ?ready, ?trained, ?again, ?marked, ?recovery, ?steward, ?up, ?down, fun s hrun hpll => exec_pllLock hrun hpll,
    fun s g b hrun hg hpll hnew => exec_serdesCalibrated b hrun hg hpll hnew, ?passes, ?fails, ?first, ?second, ?third,
    fun s l hrun hup => exec_pcieLinkDown hrun hup⟩
  case locked =>
    intro s hrun hpll hearly
    rw [exec_pllLock hrun hpll, syncReady_early]
    rw [startDone_wr _ _ _ _ (by decide) (by decide)]
    exact hearly
  case calibrated =>
    intro s g b hrun hg hpll hnew hready hearly
    rw [exec_serdesCalibrated b hrun hg hpll hnew, syncReady_early]
    rw [startDone_serdesClock]
    exact hearly
  case ready =>
    intro s g b hrun hg hpll hnew hready hphase hdone
    obtain ⟨hfields, hlater⟩ := serdesClock_apart g
    simp only [List.all_cons, List.all_nil, Bool.and_true, Bool.and_eq_true] at hfields hlater
    obtain ⟨-, -, hapart, happhase⟩ := hfields
    obtain ⟨h1, h2, h3⟩ := hlater
    have hend := syncReady_done
      (s := { s with start := { s.start with serdes := s.start.serdes ++ [g] } }.wr (serdesClock g) (flag b))
      (by rw [startDone_serdesClock]; exact hdone) (by rw [State.rd_wr_apart _ _ _ _ _ _ hapart]; exact hready)
      (by rw [State.rd_wr_apart _ _ _ _ _ _ happhase]; exact hphase)
    refine ⟨_, exec_serdesCalibrated b hrun hg hpll hnew, ?_, ?_, ?_, ?_, ?_, ?_⟩
    · rw [hend, State.rd_wr_apart _ _ _ _ _ _ (by decide), State.rd_wr_apart _ _ _ _ _ _ (by decide),
        State.rd_wr_same _ DEV_STATUS.hw_ready 1 0 0 (by decide)]
      rfl
    · rw [hend, State.rd_wr_same _ DEV_STATUS.crs 0 0 0 (by decide)]
      rfl
    · rw [rd_syncReady h1 h2 h3, State.rd_wr_same _ _ _ _ _ (serdesClock_member g), serdesClock_width]
      cases b <;> rfl
    · rw [syncReady_op State.mem (by simp), State.wr_mem]
    · rw [syncReady_op State.hostMem (by simp), State.wr_hostMem]
    · rw [syncReady_op State.links (by simp), State.wr_links]
  case trained =>
    intro s d hrun hd hpll hnew hgood hearly
    rw [exec_gddr6TrainingDone true hrun hd hpll hnew hgood, if_pos rfl, syncReady_early hearly]
  case again =>
    intro s d hrun hd hpll hnew hgood htries
    rw [exec_gddr6TrainingDone false hrun hd hpll hnew hgood, if_neg (by decide)]
    simp only [if_neg (show ¬3 ≤ Map.get s.start.tries d + 1 by omega)]
  case marked =>
    intro s d hrun hd hpll hnew hgood htries hphase
    refine ⟨_, exec_thirdFailure hrun hd hpll hnew hgood htries, ?_⟩
    rw [g6Failed_eq, bootPhase_markFailed, if_neg (by exact hphase)]
    have hfault : (syncReady (markFailed { s with start := { s.start with
        tries := Map.set s.start.tries d (Map.get s.start.tries d + 1) } } d)).rd DEV_STATUS.hw_fault = 1 := by
      rw [rd_syncReady (by decide) (by decide) (by decide), rd_markFailed_fault]
    refine ⟨?_, hfault, on_of_rd_one hfault, ?_, ?_⟩
    · rw [rd_syncReady (by decide) (by decide) (by decide), rd_markFailed_device hd]
    · rw [syncReady_op State.mem (by simp), markFailed_op State.mem (by simp)]
    · rw [syncReady_op State.hostMem (by simp), markFailed_op State.hostMem (by simp)]
  case recovery =>
    intro s d hrun hd hpll hnew hgood htries hphase
    refine ⟨_, exec_thirdFailure hrun hd hpll hnew hgood htries, ?_⟩
    rw [g6Failed_eq, bootPhase_markFailed, if_pos (by exact hphase)]
    refine ⟨?_, ?_, ?_, ?_, ?_⟩
    · rw [rd_syncReady (by decide) (by decide) (by decide), rd_enterRecovery (by decide) (by decide), rd_markFailed_device hd]
    · rw [rd_syncReady (by decide) (by decide) (by decide), rd_enterRecovery (by decide) (by decide), rd_markFailed_fault]
    · rw [rd_syncReady (by decide) (by decide) (by decide), rd_enterRecovery_phase]
    · rw [syncReady_op State.mem (by simp), enterRecovery_op State.mem (by simp) (by simp) (fun _ _ _ => rfl),
        markFailed_op State.mem (by simp)]
    · rw [syncReady_op State.hostMem (by simp), enterRecovery_op State.hostMem (by simp) (by simp) (fun _ _ _ => rfl),
        markFailed_op State.hostMem (by simp)]
  case steward =>
    intro s hrun hpll hfirst hearly
    have hclear : startDone (clearRange { s with start := { s.start with steward := true } } stewardMemLo stewardMemHi) = false := hearly
    refine ⟨clearRange { s with start := { s.start with steward := true } } stewardMemLo stewardMemHi, ?_,
      memLoad_clearRange 8 stewardMemLo (Nat.le_refl _) (by decide), rfl, rfl, rfl,
      fun a hlo hhi => memLoad_clearRange_inside hlo hhi, fun a ha => memLoad_clearRange_outside ha⟩
    rw [exec_memoryInitDone_steward hrun hpll hfirst, syncReady_early hclear]
  case up =>
    intro s l hrun hdown hstrap hperst hserdes hclock
    change execPcieLinkUp l s = _
    rw [execPcieLinkUp, run_running s _ hrun, if_neg (by simp only [hdown, hstrap, hperst, hserdes, on_of_rd_one hclock]; decide)]
  case down =>
    intro s l hrun hup hreqs
    refine ⟨_, exec_pcieLinkDown hrun hup, ?_⟩
    rw [dropLink_idle hreqs, tagCounts_op State.hif (by simp), tagCounts_op State.queues (by simp), tagCounts_op State.mem (by simp),
      tagCounts_op State.hostMem (by simp)]
    exact ⟨by simp, rfl, rfl, rfl, rfl⟩
  case passes =>
    intro s d hrun hd hpll hnew hgood
    rw [exec_gddr6TrainingDone true hrun hd hpll hnew hgood, if_pos rfl]
  case fails =>
    intro s d hrun hd hpll hnew hgood htries
    rw [exec_gddr6TrainingDone false hrun hd hpll hnew hgood, if_neg (by decide)]
    simp only [if_pos (show 3 ≤ Map.get s.start.tries d + 1 by omega)]
  case first =>
    intro s hrun hpll hfirst
    exact exec_memoryInitDone_steward hrun hpll hfirst
  case second =>
    intro s hrun hpll hfirst
    change execMemoryInitDone 1 s = _
    rw [execMemoryInitDone, run_running s _ hrun, if_neg (by simp [hpll])]
    exact congrArg _ (if_neg (by simp [hfirst]))
  case third =>
    intro s hrun hpll hfirst hup hover
    change execMemoryInitDone 2 s = _
    rw [execMemoryInitDone, run_running s _ hrun, if_neg (by simp [hpll])]
    exact congrArg _ (if_neg (by simp [hfirst, hup, hover]))

end Sys2Proof.Machine
end

section
/-! SUPPORT. Device resets, the pins, and the SMBus target (O50). -/
namespace Sys2Proof.Machine

section Pins

variable {s : State} {straps cause : Nat} {cool : Bool}

/-! ### What a device reset leaves -/

/-- The fields that a device reset writes after every register has taken its reset value. -/
def resetFields : List Desc :=
  [BOOT_FUSE_STAT.svn_count, BOOT_FUSE_STAT.programmed, BOOT_FUSE_STAT.revoked, BOOT_FUSE_STAT.flags, DEV_STRAP.boot_src,
    DEV_STRAP.bifur0, DEV_STRAP.bifur1, DEV_STRAP.g6_vddq_sel, DEV_RESET_CAUSE.cause, NRG_STATUS.trip_prior, BOOT_CTL.skip]

theorem syncFuses_op {α : Type} (op : State → α) (hwr : ∀ (t : State) d v i j, op (t.wr d v i j) = op t) (t : State) :
    op (syncFuses t) = op t := by rw [syncFuses, hwr, hwr, hwr, hwr]

theorem latchStraps_op {α : Type} (op : State → α) (hwr : ∀ (t : State) d v i j, op (t.wr d v i j) = op t) (t : State) :
    op (latchStraps t straps) = op t := foldl_frame op _ (fun t _ => hwr t _ _ _ _) _ _

/-- A part of the state without registers is, after a device reset, as what the reset leaves. -/
theorem deviceReset_op {α : Type} (op : State → α) (hwr : ∀ (t : State) d v i j, op (t.wr d v i j) = op t) :
    op (deviceReset s straps cause) = op (resetBase s) := by
  unfold deviceReset
  split
  · rw [hwr, hwr, hwr, latchStraps_op op hwr, syncFuses_op op hwr]
  · rw [hwr, hwr, latchStraps_op op hwr, syncFuses_op op hwr]

theorem rd_syncFuses {e : Desc} (he : [BOOT_FUSE_STAT.svn_count, BOOT_FUSE_STAT.programmed, BOOT_FUSE_STAT.revoked,
    BOOT_FUSE_STAT.flags].all (·.apart e) = true) (t : State) : (syncFuses t).rd e = t.rd e := by
  simp only [List.all_cons, List.all_nil, Bool.and_true, Bool.and_eq_true] at he
  obtain ⟨h1, h2, h3, h4⟩ := he
  rw [syncFuses, State.rd_wr_apart _ _ _ _ _ _ h4, State.rd_wr_apart _ _ _ _ _ _ h3, State.rd_wr_apart _ _ _ _ _ _ h2,
    State.rd_wr_apart _ _ _ _ _ _ h1]

theorem rd_latchStraps {e : Desc} (he : [DEV_STRAP.boot_src, DEV_STRAP.bifur0, DEV_STRAP.bifur1, DEV_STRAP.g6_vddq_sel].all (·.apart e) = true)
    (t : State) : (latchStraps t straps).rd e = t.rd e :=
  foldl_frame_mem (fun t => t.rd e) _ _ (fun t d hd => State.rd_wr_apart t _ _ _ _ _ (List.all_eq_true.mp he d hd)) _

/-- The other registers hold their reset values. -/
theorem rd_deviceReset {e : Desc} (he : resetFields.all (·.apart e) = true) : (deviceReset s straps cause).rd e = State.reset.rd e := by
  have hap {d : Desc} (hd : d ∈ resetFields) : d.apart e = true := List.all_eq_true.mp he d hd
  have hbase : (latchStraps (syncFuses (resetBase s)) straps).rd e = State.reset.rd e := by
    rw [rd_latchStraps, rd_syncFuses]
    · rfl
    · exact List.all_eq_true.mpr fun d hd => hap (List.mem_of_mem_take (i := 4) hd)
    · exact List.all_eq_true.mpr fun d hd => hap (List.mem_of_mem_drop (i := 4) (List.mem_of_mem_take (i := 4) hd))
  unfold deviceReset
  split
  · rw [State.rd_wr_apart _ _ _ _ _ _ (hap (by simp [resetFields])), State.rd_wr_apart _ _ _ _ _ _ (hap (by simp [resetFields])),
      State.rd_wr_apart _ _ _ _ _ _ (hap (by simp [resetFields])), hbase]
  · rw [State.rd_wr_apart _ _ _ _ _ _ (hap (by simp [resetFields])), State.rd_wr_apart _ _ _ _ _ _ (hap (by simp [resetFields])), hbase]

theorem rd_deviceReset_cause (hc : cause < 4) : (deviceReset s straps cause).rd DEV_RESET_CAUSE.cause = cause := by
  have hset (t : State) : (t.wr DEV_RESET_CAUSE.cause cause).rd DEV_RESET_CAUSE.cause = cause := by
    rw [State.rd_wr_same t DEV_RESET_CAUSE.cause cause 0 0 (by decide)]
    exact Nat.mod_eq_of_lt hc
  unfold deviceReset
  split
  · rw [State.rd_wr_apart _ _ _ _ _ _ (by decide), State.rd_wr_apart _ _ _ _ _ _ (by decide), hset]
  · rw [State.rd_wr_apart _ _ _ _ _ _ (by decide), hset]

theorem rd_deviceReset_trip : (deviceReset s straps cause).rd NRG_STATUS.trip_prior = flag (tripHeld s) := by
  have hset (t : State) : (t.wr NRG_STATUS.trip_prior (flag (tripHeld s))).rd NRG_STATUS.trip_prior = flag (tripHeld s) := by
    rw [State.rd_wr_same t NRG_STATUS.trip_prior _ 0 0 (by decide)]
    cases tripHeld s <;> rfl
  unfold deviceReset
  split
  · rw [State.rd_wr_apart _ _ _ _ _ _ (by decide), hset]
  · exact hset _

/-- A strap as it is latched. -/
theorem rd_deviceReset_strap : (deviceReset s straps cause).rd DEV_STRAP.boot_src = straps % 8 ∧
    (deviceReset s straps cause).rd DEV_STRAP.g6_vddq_sel = straps / 2 ^ 7 % 2 := by
  have hkept {e : Desc} (h1 : DEV_RESET_CAUSE.cause.apart e = true) (h2 : NRG_STATUS.trip_prior.apart e = true)
      (h3 : BOOT_CTL.skip.apart e = true) :
      (deviceReset s straps cause).rd e = (latchStraps (syncFuses (resetBase s)) straps).rd e := by
    unfold deviceReset
    split
    · rw [State.rd_wr_apart _ _ _ _ _ _ h3, State.rd_wr_apart _ _ _ _ _ _ h2, State.rd_wr_apart _ _ _ _ _ _ h1]
    · rw [State.rd_wr_apart _ _ _ _ _ _ h2, State.rd_wr_apart _ _ _ _ _ _ h1]
  constructor
  · rw [hkept (by decide) (by decide) (by decide)]
    simp (disch := decide) only [latchStraps, List.foldl_cons, List.foldl_nil, State.rd_wr_apart, State.rd_wr_same]
    rw [bitsAt_eq]
    simp [DEV_STRAP.boot_src]
  · rw [hkept (by decide) (by decide) (by decide)]
    simp (disch := decide) only [latchStraps, List.foldl_cons, List.foldl_nil, State.rd_wr_same]
    rw [bitsAt_eq]
    simp [DEV_STRAP.g6_vddq_sel]

/-- A reboot keeps skip, and any other reset clears it. -/
theorem rd_deviceReset_skip : (deviceReset s straps cause).rd BOOT_CTL.skip =
    if cause = 2 then s.rd BOOT_CTL.skip % 2 ^ BOOT_CTL.skip.width else State.reset.rd BOOT_CTL.skip := by
  unfold deviceReset
  split
  · exact State.rd_wr_same _ _ _ _ _ (by decide)
  · rw [State.rd_wr_apart _ _ _ _ _ _ (by decide), State.rd_wr_apart _ _ _ _ _ _ (by decide), rd_latchStraps (by decide),
      rd_syncFuses (by decide)]
    rfl

/-- What every device reset leaves of the state, whatever its cause. -/
theorem deviceReset_state : (deviceReset s straps cause).mem = [] ∧ (deviceReset s straps cause).queues = [] ∧
    (deviceReset s straps cause).cip = {} ∧ (deviceReset s straps cause).start = {} ∧
    (deviceReset s straps cause).pins.resetN = true ∧ (deviceReset s straps cause).rd BOOT_STATUS.phase = 0 ∧
    (deviceReset s straps cause).rd DEV_STATUS.crs = 1 ∧ (deviceReset s straps cause).rd DEV_STATUS.hw_ready = 0 ∧
    (deviceReset s straps cause).pending = s.pending ∧ (deviceReset s straps cause).hostMem = s.hostMem ∧
    (deviceReset s straps cause).boot.hashes = s.boot.hashes ∧ (deviceReset s straps cause).boot.revoked = s.boot.revoked ∧
    (deviceReset s straps cause).boot.svn = s.boot.svn ∧ (deviceReset s straps cause).boot.flags = s.boot.flags ∧
    (deviceReset s straps cause).boot.uds = s.boot.uds := by
  rw [rd_deviceReset (by decide), rd_deviceReset (by decide), rd_deviceReset (by decide), deviceReset_op State.mem (by simp),
    deviceReset_op State.queues (by simp), deviceReset_op State.cip (by simp), deviceReset_op State.start (by simp),
    deviceReset_op State.pins (by simp), deviceReset_op State.pending (by simp), deviceReset_op State.hostMem (by simp),
    deviceReset_op State.boot (by simp)]
  exact ⟨rfl, rfl, rfl, rfl, rfl, by decide +kernel, by decide +kernel, by decide +kernel, rfl, rfl, rfl, rfl, rfl, rfl, rfl⟩

/-! ### Commands -/

theorem exec_deviceReset (hlow : s.pins.resetN = false) (htest : s.pins.testEn = false) (hcool : s.nrg.tripLatch = false ∨ cool = true) :
    exec (.deviceReset straps cool) s = .next (deviceReset s straps (if s.pins.mainRails = true then 1 else 0)) := by
  change execDeviceReset straps cool s = _
  rw [execDeviceReset, hlow, htest, if_neg]
  rcases hcool with h | h <;> simp [h]

theorem exec_deviceReset_shut (hshut : s.pins.resetN = true ∨ s.pins.testEn = true ∨ s.nrg.tripLatch = true ∧ cool = false) :
    exec (.deviceReset straps cool) s = .next s := by
  change execDeviceReset straps cool s = _
  rw [execDeviceReset, if_pos]
  rcases hshut with h | h | ⟨h, hc⟩
  · simp [h]
  · simp [h]
  · simp [h, hc]

theorem exec_reboot {who : Initiator} (hrun : stopped s = false) (hw : writable who BOOT_CTL.phase_req 0 s = true) :
    exec (.reboot who straps) s = .next (deviceReset s straps 2) := by
  change execReboot who straps s = _
  rw [execReboot, run_setupWrite hrun hw]

theorem smbusRead_on (v : Nat) (hon : s.pins.mainRails = true) : smbusRead s v = .next { s with rdata := v } := by
  rw [smbusRead, if_pos hon]
  rfl

theorem exec_smbusReadTemperature (hon : s.pins.mainRails = true) :
    exec .smbusReadTemperature s = .next { s with rdata := s.rd NRG_THERM_STAT.max_c } := by
  change execSmbusReadTemperature s = _
  rw [execSmbusReadTemperature, smbusRead_on _ hon]

theorem sum_of_three (f : Nat → Nat) : ([0, 1, 2].map f).foldl (fun a b => a + b) 0 = f 0 + f 1 + f 2 := by simp

theorem exec_smbusReadPower (hon : s.pins.mainRails = true) : exec .smbusReadPower s = .next { s with
    rdata := (s.rd NRG_RAIL_LEG.beads 0 + s.rd NRG_RAIL_LEG.beads 1 + s.rd NRG_RAIL_LEG.beads 2) * 10 / max 1 s.nrg.lastUs
      % 0x10000 } := by
  change execSmbusReadPower s = _
  rw [execSmbusReadPower, sum_of_three, smbusRead_on _ hon]

theorem exec_smbusReadStatus (hon : s.pins.mainRails = true) : exec .smbusReadStatus s = .next { s with
    rdata := s.rd DEV_STATUS.hw_ready + s.rd DEV_STATUS.fw_ready * 2 + s.rd DEV_STATUS.hw_fault * 4 + s.rd DEV_STATUS.crs * 8
      + s.rd DEV_STATUS.g6_fail % 16 * 16 } := by
  change execSmbusReadStatus s = _
  rw [execSmbusReadStatus, smbusRead_on _ hon]

theorem exec_smbusReadThermal (hon : s.pins.mainRails = true) : exec .smbusReadThermal s = .next { s with
    rdata := s.rd NRG_STATUS.warn + s.rd NRG_STATUS.throttle * 2 + s.rd NRG_STATUS.critical * 4 + s.rd NRG_STATUS.trip_prior * 8 } := by
  change execSmbusReadThermal s = _
  rw [execSmbusReadThermal, smbusRead_on _ hon]

theorem smbusRead_off (v : Nat) (hoff : s.pins.mainRails = false) : smbusRead s v = .next s := by
  rw [smbusRead, hoff, if_neg (by decide)]

end Pins

/-- Settles O50: a device reset by what it leaves, the pins and the SMBus by their own commands. That straps and cool stand in the
command, and that the power is cut to tenths of a watt, are the model's choices (log entries 97 and 102). -/
theorem deviceResetsPinsAndSmbus : Obligations.DeviceResetsPinsAndSmbus := by
  unfold Obligations.DeviceResetsPinsAndSmbus
  refine ⟨?rise, ?tripped, fun s straps _ htrip => exec_deviceReset_shut (.inr (.inr ⟨htrip, rfl⟩)),
    fun s straps cool hhigh => exec_deviceReset_shut (.inl hhigh), ?reboot, ?fall,
    fun s straps cool hlow htest hcool => exec_deviceReset hlow htest hcool,
    fun s straps cool htest => exec_deviceReset_shut (.inr (.inl htest)), fun s who straps hrun hw => exec_reboot hrun hw,
    fun s off => rfl, fun s hon => exec_smbusReadTemperature hon, fun s hon => exec_smbusReadPower hon,
    fun s hon => exec_smbusReadStatus hon, fun s hon => exec_smbusReadThermal hon, ?dark, ?wake, ?other, ?awake⟩
  case rise =>
    intro s straps cool hlow htest htrip
    obtain ⟨hmem, hqueues, hcip, hstart, hpin, hphase, hcrs, hready, hpending, hhost, hhashes, hrevoked, hsvn, hflags, huds⟩ :=
      deviceReset_state (s := s) (straps := straps) (cause := if s.pins.mainRails = true then 1 else 0)
    refine ⟨_, exec_deviceReset hlow htest (.inl htrip), rd_deviceReset_cause (by split <;> decide), ?_, ?_, hmem, hqueues, hcip, hstart,
      hpin, hphase, hcrs, hready, hpending, hhost, hhashes, hrevoked, hsvn, hflags, huds, rd_deviceReset_strap.1, rd_deviceReset_strap.2⟩
    · rw [rd_deviceReset_trip, tripHeld, htrip]
      rfl
    · rw [rd_deviceReset_skip, if_neg (by split <;> decide)]
      decide +kernel
  case tripped =>
    intro s straps hlow htest htrip
    obtain ⟨hmem, hqueues, hcip, hstart, hpin, hphase, hcrs, hready, hpending, hhost, hhashes, hrevoked, hsvn, hflags, huds⟩ :=
      deviceReset_state (s := s) (straps := straps) (cause := if s.pins.mainRails = true then 1 else 0)
    refine ⟨_, exec_deviceReset hlow htest (.inr rfl), ?_, ?_, ?_, hmem, hqueues, hcip, hstart, hpin, hphase, hcrs, hready, hpending, hhost,
      hhashes, hrevoked, hsvn, hflags, huds⟩
    · rw [rd_deviceReset_trip, tripHeld, htrip]
      cases s.pins.mainRails <;> cases s.pins.auxRail <;> rfl
    · rw [deviceReset_op State.nrg (by simp)]
      rfl
    · rw [deviceReset_op State.nrg (by simp)]
      rfl
  case reboot =>
    intro s who straps hrun hw
    obtain ⟨hmem, hqueues, hcip, hstart, hpin, hphase, hcrs, hready, hpending, hhost, hhashes, hrevoked, hsvn, hflags, huds⟩ :=
      deviceReset_state (s := s) (straps := straps) (cause := 2)
    exact ⟨_, exec_reboot hrun hw, rd_deviceReset_cause (by decide), rd_deviceReset_skip, hmem, hqueues, hcip, hstart, hpin, hphase, hcrs,
      hready, hpending, hhost, hhashes, hrevoked, hsvn, hflags, huds, rd_deviceReset_strap.1, rd_deviceReset_strap.2⟩
  case fall =>
    intro s off hhigh
    exact ⟨_, rfl, rfl, rfl, rfl, rfl, rfl, rfl, rfl, rfl, rfl, rfl, rfl, rfl, rfl, rfl, rfl, rfl⟩
  case dark =>
    rintro s c hoff (rfl | rfl | rfl | rfl) <;> exact smbusRead_off _ hoff
  case wake =>
    intro s hlow hmain haux hpme
    change execSmbusWake 1 s = _
    rw [execSmbusWake, if_pos (by simp [hlow, hmain, haux, hpme])]
  case other =>
    intro s b hb
    change execSmbusWake b s = _
    rw [execSmbusWake, if_neg (by simp [hb])]
  case awake =>
    intro s hmain
    change execSmbusWake 1 s = _
    rw [execSmbusWake, if_neg (by simp [hmain])]

end Sys2Proof.Machine
end

section
/-! SUPPORT. Phase requests, fuse commands, locks, measurements and releases of processors (O53). -/
namespace Sys2Proof.Machine

/-! ### The thermometer counter of the SVN fuses (R856) -/

/-- The index above the last number that a test accepts. -/
theorem foldl_last (test : Nat → Bool) (n v : Nat) (hv : v ≤ n) (hlast : v = 0 ∨ test (v - 1) = true)
    (hnone : ∀ i, v ≤ i → i < n → test i = false) : (List.range n).foldl (fun k i => if test i then i + 1 else k) 0 = v := by
  induction n with
  | zero => exact (Nat.le_zero.mp hv).symm
  | succ n ih =>
    rw [List.range_succ, List.foldl_append, List.foldl_cons, List.foldl_nil]
    rcases Nat.lt_or_eq_of_le hv with hlt | rfl
    · rw [hnone n (by omega) (by omega), if_neg (by decide)]
      exact ih (by omega) fun i hi hin => hnone i hi (by omega)
    · rw [if_pos (by simpa using hlast)]

/-- No number from the result of that fold on passes the test. -/
theorem foldl_last_none (test : Nat → Bool) (n i : Nat) (hi : (List.range n).foldl (fun k i => if test i then i + 1 else k) 0 ≤ i)
    (hn : i < n) : test i = false := by
  induction n with
  | zero => omega
  | succ n ih =>
    rw [List.range_succ, List.foldl_append, List.foldl_cons, List.foldl_nil] at hi
    cases hlast : test n with
    | true =>
      rw [hlast, if_pos rfl] at hi
      omega
    | false =>
      rw [hlast, if_neg (by decide)] at hi
      rcases Nat.lt_or_eq_of_le (Nat.lt_succ_iff.mp hn) with hlt | rfl
      · exact ih hi hlt
      · exact hlast

/-- Bits blown among the first `v`. -/
theorem testBit_blown (blow : Nat → Prop) [DecidablePred blow] (b v j : Nat) :
    ((List.range v).foldl (fun b i => if blow i then putBit b i true else b) b).testBit j = (decide (j < v ∧ blow j) || b.testBit j) := by
  induction v with
  | zero => simp
  | succ v ih =>
    rw [List.range_succ, List.foldl_append, List.foldl_cons, List.foldl_nil]
    by_cases hj : j = v
    · subst hj
      by_cases hb : blow j
      · rw [if_pos hb, testBit_putBit]
        simp [hb]
      · rw [if_neg hb, ih]
        simp [hb]
    · have hlt : (j < v + 1 ∧ blow j) ↔ (j < v ∧ blow j) := and_congr_left fun _ => by omega
      rw [← decide_eq_decide.mpr hlt.symm, ← ih]
      split
      · rw [testBit_putBit_other _ _ hj]
      · rfl

/-- The counter advanced to a value shows it. -/
theorem svnCount_svnUpTo {b v : Nat} (hlt : svnCount b < v) (hv : v ≤ 128) : svnCount (svnUpTo b v) = v := by
  have hbit (j : Nat) : (svnUpTo b v).testBit j = (decide (j < v ∧ svnCount b ≤ j ∧ j < 128) || b.testBit j) :=
    testBit_blown (fun i => svnCount b ≤ i ∧ i < 128) b v j
  refine foldl_last _ 128 v hv (.inr ?_) fun i hi hn => ?_
  · rw [hbit, decide_eq_true (by omega), Bool.true_or]
  · rw [hbit, decide_eq_false (by omega), Bool.false_or]
    exact foldl_last_none _ 128 i (by exact Nat.le_trans (Nat.le_of_lt hlt) hi) hn

section Fuses

variable {s : State} {who : Initiator} {v k : Nat} {vpp : Bool}

/-! ### Fuse commands -/

/-- The fields of BOOT_FCMD that a fuse command writes. -/
def fuseFields (s : State) (a k v : Nat) : State := ((s.wr BOOT_FCMD.action a).wr BOOT_FCMD.key k).wr BOOT_FCMD.value v

theorem rd_fuseFields {e : Desc} (he : [BOOT_FCMD.action, BOOT_FCMD.key, BOOT_FCMD.value].all (·.apart e) = true) (a : Nat) :
    (fuseFields s a k v).rd e = s.rd e := by
  simp only [List.all_cons, List.all_nil, Bool.and_true, Bool.and_eq_true] at he
  obtain ⟨h1, h2, h3⟩ := he
  rw [fuseFields, State.rd_wr_apart _ _ _ _ _ _ h3, State.rd_wr_apart _ _ _ _ _ _ h2, State.rd_wr_apart _ _ _ _ _ _ h1]

theorem fuseFields_op {α : Type} (op : State → α) (hwr : ∀ (t : State) d v i j, op (t.wr d v i j) = op t) (a : Nat) :
    op (fuseFields s a k v) = op s := by rw [fuseFields, hwr, hwr, hwr]

theorem fuseCommand_free (a : Nat) (f : State → Nat × State) (hsup : supervisorSends s who = true)
    (hfree : s.rd BOOT_LOCK.fuse_lock = 0) :
    fuseCommand who a k v s f = fuseEnd (f (fuseFields s a k v)).2 (f (fuseFields s a k v)).1 := by
  have hlock : (fuseFields s a k v).on BOOT_LOCK.fuse_lock = false :=
    on_of_rd_zero ((rd_fuseFields (by decide) a).trans hfree)
  rw [fuseCommand, supervisorWrite, if_pos hsup]
  exact if_neg (by rw [← Bool.not_eq_true] at hlock; exact hlock)

theorem fuseCommand_locked (a : Nat) (f : State → Nat × State) (hsup : supervisorSends s who = true)
    (hlocked : s.rd BOOT_LOCK.fuse_lock = 1) : fuseCommand who a k v s f = fuseEnd (fuseFields s a k v) 2 := by
  have hlock : (fuseFields s a k v).on BOOT_LOCK.fuse_lock = true :=
    on_of_rd_one ((rd_fuseFields (by decide) a).trans hlocked)
  rw [fuseCommand, supervisorWrite, if_pos hsup]
  exact if_pos hlock

/-- The end of a fuse command: BOOT_FUSE_STAT and the result are shown, and the source raised. -/
theorem fuseEnd_op {α : Type} (op : State → α) (hwr : ∀ (t : State) d v i j, op (t.wr d v i j) = op t)
    (hraise : ∀ t n, op (raise t n) = op t) (r : Nat) : op (fuseEnd s r) = op s := by
  rw [fuseEnd, hraise, syncFuses_op op hwr, hwr]

theorem fuseEnd_kept (r : Nat) : (fuseEnd s r).boot = s.boot ∧ (fuseEnd s r).mem = s.mem ∧ (fuseEnd s r).hostMem = s.hostMem :=
  ⟨fuseEnd_op State.boot (by simp) (by simp) r, fuseEnd_op State.mem (by simp) (by simp) r,
    fuseEnd_op State.hostMem (by simp) (by simp) r⟩

/-- A fuse command whose fuses are `b` leaves both memories. -/
theorem fuseEnd_fuseFields (b : BootInt) (a r : Nat) :
    (fuseEnd { fuseFields s a k v with boot := b } r).boot = b ∧ (fuseEnd { fuseFields s a k v with boot := b } r).mem = s.mem ∧
      (fuseEnd { fuseFields s a k v with boot := b } r).hostMem = s.hostMem := by
  obtain ⟨hboot, hmem, hhost⟩ := fuseEnd_kept (s := { fuseFields s a k v with boot := b }) r
  exact ⟨hboot, hmem.trans (fuseFields_op (s := s) (k := k) (v := v) State.mem (by simp) a), hhost.trans (fuseFields_op (s := s) (k := k) (v := v) State.hostMem (by simp) a)⟩

/-- A fuse command that blows nothing leaves the fuses and both memories. -/
theorem fuseEnd_unchanged (a r : Nat) : (fuseEnd (fuseFields s a k v) r).boot = s.boot ∧ (fuseEnd (fuseFields s a k v) r).mem = s.mem ∧
    (fuseEnd (fuseFields s a k v) r).hostMem = s.hostMem := by
  obtain ⟨hboot, hmem, hhost⟩ := fuseEnd_kept (s := fuseFields s a k v) r
  exact ⟨hboot.trans (fuseFields_op (s := s) (k := k) (v := v) State.boot (by simp) a), hmem.trans (fuseFields_op (s := s) (k := k) (v := v) State.mem (by simp) a),
    hhost.trans (fuseFields_op (s := s) (k := k) (v := v) State.hostMem (by simp) a)⟩

theorem rd_fuseEnd_result (hr : k < 8) : (fuseEnd s k).rd BOOT_FCMD.result = k := by
  rw [fuseEnd, rd_raise _ _ _ _ (by decide) (by decide), rd_syncFuses (by decide), State.rd_wr_same s BOOT_FCMD.result k 0 0 (by decide)]
  exact Nat.mod_eq_of_lt hr

theorem rd_fuseEnd_asserted (r : Nat) : (fuseEnd s r).rd IRQ_SRC.asserted 0x1E0 = 1 := rd_raise_asserted _ (by decide)

theorem rd_fuseEnd_count (r : Nat) : (fuseEnd s r).rd BOOT_FUSE_STAT.svn_count = svnCount s.boot.svn % 256 := by
  rw [fuseEnd, rd_raise _ _ _ _ (by decide) (by decide), syncFuses, State.rd_wr_apart _ _ _ _ _ _ (by decide),
    State.rd_wr_apart _ _ _ _ _ _ (by decide), State.rd_wr_apart _ _ _ _ _ _ (by decide),
    State.rd_wr_same _ BOOT_FUSE_STAT.svn_count _ 0 0 (by decide), State.wr_boot]
  rfl

theorem exec_svnAdvance (hrun : stopped s = false) (hsup : supervisorSends s who = true) (hfree : s.rd BOOT_LOCK.fuse_lock = 0) :
    exec (.svnAdvance who v vpp) s = .next (
      let u := fuseFields s 0 (s.rd BOOT_FCMD.key) v
      if s.rd BOOT_STATUS.svn < v % 256 ∨ v % 256 < svnCount s.boot.svn then fuseEnd u 1
      else if v % 256 = svnCount s.boot.svn then fuseEnd u 0
      else if vpp = true ∧ v % 256 ≤ 128 then fuseEnd { u with boot := { u.boot with svn := svnUpTo s.boot.svn (v % 256) } } 0
      else fuseEnd u 4) := by
  have hboot : (fuseFields s 0 (s.rd BOOT_FCMD.key) v).boot = s.boot := fuseFields_op State.boot (by simp) _
  change execSvnAdvance who v vpp s = _
  rw [execSvnAdvance, run_running s _ hrun, fuseCommand_free _ _ hsup hfree]
  simp only [rd_fuseFields (e := BOOT_STATUS.svn) (by decide), hboot, Bool.or_eq_true, decide_eq_true_eq, blow, Bool.and_eq_true]
  split
  · rfl
  · split
    · rfl
    · split <;> rfl

theorem keyUsable_congr {t : State} (h : t.boot = s.boot) (j : Nat) : keyUsable t j = keyUsable s j := by
  rw [keyUsable, rootHash, h]
  rfl

theorem exec_revoke (hrun : stopped s = false) (hsup : supervisorSends s who = true) (hfree : s.rd BOOT_LOCK.fuse_lock = 0) :
    exec (.revoke who v vpp) s = .next (
      let u := fuseFields s 1 v (s.rd BOOT_FCMD.value)
      if ((List.range 4).all fun j => j = v % 4 || !keyUsable s j) = true then fuseEnd u 3
      else if s.boot.revoked.testBit (v % 4) = true then fuseEnd u 0
      else if vpp = true then fuseEnd { u with boot := { u.boot with revoked := putBit s.boot.revoked (v % 4) true } } 0
      else fuseEnd u 4) := by
  have hboot : (fuseFields s 1 v (s.rd BOOT_FCMD.value)).boot = s.boot := fuseFields_op State.boot (by simp) _
  change execRevoke who v vpp s = _
  rw [execRevoke, run_running s _ hrun, fuseCommand_free _ _ hsup hfree]
  have hkey (j : Nat) : keyUsable (fuseFields s 1 v (s.rd BOOT_FCMD.value)) j = keyUsable s j :=
    keyUsable_congr hboot j
  simp only [hkey, hboot, blow]
  by_cases hlast : ((List.range 4).all fun j => decide (j = v % 4) || !keyUsable s j) = true
  · rw [if_pos hlast]
    exact congrArg _ (if_pos hlast).symm
  · rw [if_neg hlast]
    refine congrArg _ (Eq.trans ?_ (if_neg hlast).symm)
    split
    · rfl
    · split <;> rfl

theorem exec_programHash (hrun : stopped s = false) (hsup : supervisorSends s who = true) (hfree : s.rd BOOT_LOCK.fuse_lock = 0) :
    exec (.programHash who v vpp) s = .next (
      let u := fuseFields s 2 v (s.rd BOOT_FCMD.value)
      if rootHash s (v % 4) ≠ 0 then fuseEnd u 1
      else if s.rd BOOT_FDATA.hash = 0 then fuseEnd u 0
      else if vpp = true then fuseEnd { u with boot := { u.boot with
        hashes := Map.set s.boot.hashes (v % 4) (s.rd BOOT_FDATA.hash) } } 0
      else fuseEnd u 4) := by
  have hboot : (fuseFields s 2 v (s.rd BOOT_FCMD.value)).boot = s.boot := fuseFields_op State.boot (by simp) _
  change execProgramHash who v vpp s = _
  rw [execProgramHash, run_running s _ hrun, fuseCommand_free _ _ hsup hfree]
  simp only [rootHash, rd_fuseFields (e := BOOT_FDATA.hash) (by decide), hboot, blow]
  split
  · rfl
  · split
    · rfl
    · split <;> rfl

theorem exec_setFlag (hrun : stopped s = false) (hsup : supervisorSends s who = true) (hfree : s.rd BOOT_LOCK.fuse_lock = 0) :
    exec (.setFlag who v vpp) s = .next (
      let u := fuseFields s 3 (s.rd BOOT_FCMD.key) v
      if s.boot.flags ||| (v % 8) = s.boot.flags then fuseEnd u 0
      else if vpp = true then fuseEnd { u with boot := { u.boot with flags := s.boot.flags ||| (v % 8) } } 0
      else fuseEnd u 4) := by
  have hboot : (fuseFields s 3 (s.rd BOOT_FCMD.key) v).boot = s.boot := fuseFields_op State.boot (by simp) _
  change execSetFlag who v vpp s = _
  rw [execSetFlag, run_running s _ hrun, fuseCommand_free _ _ hsup hfree]
  simp only [hboot, blow]
  split
  · rfl
  · split <;> rfl

/-- After fuse_lock every fuse command ends LOCKED. -/
theorem exec_fuse_locked {c : Instr} (hrun : stopped s = false) (hsup : supervisorSends s who = true)
    (hlocked : s.rd BOOT_LOCK.fuse_lock = 1)
    (hc : c = .svnAdvance who v true ∨ c = .revoke who k true ∨ c = .programHash who k true ∨ c = .setFlag who v true) :
    ∃ a k' v', exec c s = .next (fuseEnd (fuseFields s a k' v') 2) := by
  rcases hc with rfl | rfl | rfl | rfl
  · refine ⟨0, s.rd BOOT_FCMD.key, v, ?_⟩
    change execSvnAdvance who v true s = _
    rw [execSvnAdvance, run_running s _ hrun, fuseCommand_locked _ _ hsup hlocked]
  · refine ⟨1, k, s.rd BOOT_FCMD.value, ?_⟩
    change execRevoke who k true s = _
    rw [execRevoke, run_running s _ hrun, fuseCommand_locked _ _ hsup hlocked]
  · refine ⟨2, k, s.rd BOOT_FCMD.value, ?_⟩
    change execProgramHash who k true s = _
    rw [execProgramHash, run_running s _ hrun, fuseCommand_locked _ _ hsup hlocked]
  · refine ⟨3, s.rd BOOT_FCMD.key, v, ?_⟩
    change execSetFlag who v true s = _
    rw [execSetFlag, run_running s _ hrun, fuseCommand_locked _ _ hsup hlocked]

/-! ### Phases, locks, measurements and releases -/

theorem exec_phaseRequest_shut {req : Nat} (hrun : stopped s = false) (hsup : supervisorSends s who = false) :
    exec (.phaseRequest who req) s = .next s := by
  change execPhaseRequest who req s = _
  rw [execPhaseRequest, run_running s _ hrun, supervisorWrite, hsup, if_neg (by decide)]

theorem exec_phaseRequest_ignored {req : Nat} (hrun : stopped s = false) (hphase : s.rd BOOT_STATUS.phase = 0 ∨ s.rd BOOT_STATUS.phase = 4) :
    exec (.phaseRequest who req) s = .next s := by
  change execPhaseRequest who req s = _
  rw [execPhaseRequest, run_running s _ hrun, supervisorWrite]
  have hnone : bootPhase s ≠ phStart ∧ bootPhase s ≠ phService ∧ bootPhase s ≠ phTest := by
    rcases hphase with h | h <;> simp [bootPhase, h, phStart, phService, phTest]
  obtain ⟨h1, h2, h3⟩ := hnone
  simp [h1, h2, h3]

theorem exec_phaseRequest {req : Nat} (hrun : stopped s = false) (hsup : supervisorSends s who = true)
    (hreq : (s.rd BOOT_STATUS.phase = 1 ∧ req % 8 = 2) ∨ (s.rd BOOT_STATUS.phase = 2 ∧ req % 8 = 3) ∨
      (s.rd BOOT_STATUS.phase = 3 ∧ req % 8 = 2)) : exec (.phaseRequest who req) s = .next (setPhase s (req % 8)) := by
  change execPhaseRequest who req s = _
  rw [execPhaseRequest, run_running s _ hrun, supervisorWrite, if_pos hsup]
  refine congrArg _ (if_pos ?_)
  rcases hreq with ⟨hp, hr⟩ | ⟨hp, hr⟩ | ⟨hp, hr⟩ <;> simp [bootPhase, hp, hr, phStart, phService, phTest]

/-- The locks of BOOT_LOCK. -/
def bootLocks : List Desc :=
  [BOOT_LOCK.uds_lock, BOOT_LOCK.seal_lock, BOOT_LOCK.fuse_lock, BOOT_LOCK.debug_lock, BOOT_LOCK.meas_lock]

/-- Bits of BOOT_LOCK written with 1 join those that are set. -/
def setLocks (s : State) (bits : Nat) : State := bootLocks.foldl (fun t d => t.wr d (t.rd d ||| bitsAt bits d.lo d.width)) s

theorem exec_bootLockSet {bits : Nat} (hrun : stopped s = false) (hw : writable who BOOT_LOCK.uds_lock 0 s = true) :
    exec (.bootLockSet who bits) s = .next (setLocks s bits) := by
  change execBootLockSet who bits s = _
  rw [execBootLockSet, run_setupWrite hrun hw]
  rfl

/-- Fields apart from one another that are written one after another: each holds its own value. -/
theorem rd_foldl_locks (bits : Nat) (l : List Desc) (happart : l.Pairwise fun a b => a.apart b = true ∧ b.apart a = true)
    (hhas : ∀ d ∈ l, d.has 0 0 = true) (s : State) (d : Desc) (hd : d ∈ l) :
    (l.foldl (fun t d => t.wr d (t.rd d ||| bitsAt bits d.lo d.width)) s).rd d = (s.rd d ||| bitsAt bits d.lo d.width) % 2 ^ d.width := by
  induction l generalizing s with
  | nil => cases hd
  | cons e l ih =>
    obtain ⟨he, hl⟩ := List.pairwise_cons.mp happart
    rw [List.foldl_cons]
    rcases List.mem_cons.mp hd with rfl | hin
    · rw [foldl_frame_mem (fun t => t.rd d) _ _ (fun t e' he' => State.rd_wr_apart t _ _ _ _ _ (he e' he').2),
        State.rd_wr_same _ _ _ _ _ (hhas d hd)]
    · rw [ih hl (fun x hx => hhas x (List.mem_cons_of_mem _ hx)) _ hin, State.rd_wr_apart _ _ _ _ _ _ (he d hin).1]

theorem rd_setLocks (bits : Nat) {d : Desc} (hd : d ∈ bootLocks) :
    (setLocks s bits).rd d = (s.rd d ||| bitsAt bits d.lo d.width) % 2 ^ d.width :=
  rd_foldl_locks bits bootLocks (by decide) (by decide) s d hd

theorem exec_bootRelease {j bits : Nat} (hrun : stopped s = false) :
    exec (.bootRelease (.steward j) bits) s = .next (([1, 2, 3].filter bits.testBit).foldl releaseBit s) := by
  change execBootRelease (.steward j) bits s = _
  rw [execBootRelease, run_running s _ hrun]
  rfl

/-- A released steward runs in supervisor mode with interrupts off, and nothing else of it changes. -/
theorem stewardInt_releaseSteward (pc : Nat) : stewardInt (releaseSteward s k pc) k =
    { stewardInt s k with running := true, locked := false, sleeping := false, user := false, ie := false } :=
  Map.get_upd_same s.rly.stewards k fun x => { x with running := true, locked := false, sleeping := false, user := false, ie := false }

theorem agentPc_releaseSteward (pc : Nat) : agentPc (releaseSteward s k pc) (512 + k) = pc % 2 ^ 48 := by
  have hset : agentInt (releaseSteward s k pc) (512 + k) = { agentInt s (512 + k) with pc := pc % 2 ^ 48 } :=
    Map.get_upd_same s.rly.agents (512 + k) fun x => { x with pc := pc % 2 ^ 48 }
  rw [agentPc, hset]

/-- A release reaches the relay part alone. -/
theorem releaseSteward_op {α : Type} (op : State → α) (hrly : ∀ (t : State) r, op { t with rly := r } = op t) (pc : Nat) :
    op (releaseSteward s k pc) = op s := (hrly _ _).trans (hrly _ _)

/-- The bit of one steward. -/
theorem filter_stewards (h1 : 1 ≤ k) (h3 : k ≤ 3) : [1, 2, 3].filter (2 ^ k).testBit = [k] := by
  obtain rfl | rfl | rfl : k = 1 ∨ k = 2 ∨ k = 3 := by omega
  all_goals decide

end Fuses

/-- Settles O53: phase requests by the phase, fuse commands by what they ask for, locks and releases by their bits. That an svn above
128 ends PROGRAM_FAIL, and that other senders are ignored, are the model's choices (log entries 95 and 94). -/
theorem phasesFusesLocksAndReleases : Obligations.PhasesFusesLocksAndReleases := by
  unfold Obligations.PhasesFusesLocksAndReleases
  refine ⟨?phase, fun s who req hrun hsup => exec_phaseRequest_shut hrun hsup,
    fun s who req hrun hphase => exec_phaseRequest_ignored hrun hphase, ?advanced, ?revoked, ?lastKey, ?hashed, ?flagged, ?locked, ?locks,
    ?extended, ?shut, ?relay, ?released, ?badVector, fun s who req hrun hsup hreq => exec_phaseRequest hrun hsup hreq, ?svnRange, ?svnSame,
    ?svnBlown, ?svnFails, ?keyLast, ?keyGone, ?keyBlown, ?keyFails, ?hashTaken, ?hashZero, ?hashBlown, ?hashFails, ?flagSame, ?flagBlown,
    ?flagFails, fun s who bits hrun hw => exec_bootLockSet hrun hw, fun s j bits hrun => exec_bootRelease hrun⟩
  case phase =>
    intro s who req hrun hsup hreq hmove
    have hmod : req % 8 = req := Nat.mod_eq_of_lt hreq
    refine ⟨_, exec_phaseRequest hrun hsup (by rwa [hmod]), ?_, rd_raise_asserted _ (by decide), setPhase_op State.mem (by simp) (by simp) _,
      setPhase_op State.hostMem (by simp) (by simp) _⟩
    rw [hmod, rd_setPhase_phase req hreq]
  case advanced =>
    intro s who v hrun hsup hfree hlow hhigh hv
    have hmod : v % 256 = v := Nat.mod_eq_of_lt (by omega)
    have hexec := exec_svnAdvance (v := v) (vpp := true) hrun hsup hfree
    dsimp only at hexec
    rw [hmod, if_neg (by omega), if_neg (by omega), if_pos ⟨rfl, hv⟩] at hexec
    obtain ⟨hboot, hmem, hhost⟩ := fuseEnd_fuseFields (s := s) (k := s.rd BOOT_FCMD.key) (v := v)
      { (fuseFields s 0 (s.rd BOOT_FCMD.key) v).boot with svn := svnUpTo s.boot.svn v } 0 0
    have hkept : (fuseFields s 0 (s.rd BOOT_FCMD.key) v).boot = s.boot := fuseFields_op State.boot (by simp) _
    refine ⟨_, hexec, ?_, ?_, ?_, ?_, ?_, rd_fuseEnd_result (by decide), rd_fuseEnd_asserted _, hmem, hhost⟩
    · rw [hboot]
      exact svnCount_svnUpTo hlow hv
    · rw [rd_fuseEnd_count]
      exact (congrArg (· % 256) (svnCount_svnUpTo hlow hv)).trans hmod
    · rw [hboot, hkept]
    · rw [hboot, hkept]
    · rw [hboot, hkept]
  case revoked =>
    intro s who k hrun hsup hfree hk hnew hother
    have hmod : k % 4 = k := Nat.mod_eq_of_lt hk
    have hexec := exec_revoke (v := k) (vpp := true) hrun hsup hfree
    dsimp only at hexec
    rw [hmod, if_neg (by rw [hother]; decide), if_neg (by rw [hnew]; decide), if_pos rfl] at hexec
    obtain ⟨hboot, hmem, hhost⟩ := fuseEnd_fuseFields (s := s) (k := k) (v := s.rd BOOT_FCMD.value)
      { (fuseFields s 1 k (s.rd BOOT_FCMD.value)).boot with revoked := putBit s.boot.revoked k true } 1 0
    have hkept : (fuseFields s 1 k (s.rd BOOT_FCMD.value)).boot = s.boot := fuseFields_op State.boot (by simp) _
    refine ⟨_, hexec, ?_, ?_, ?_, ?_, rd_fuseEnd_result (by decide), rd_fuseEnd_asserted _, hmem, hhost⟩
    · rw [hboot]
      exact testBit_putBit _ _ _
    · rw [hboot, hkept]
    · rw [hboot, hkept]
    · rw [hboot, hkept]
  case lastKey =>
    intro s who k hrun hsup hfree hk hlast
    have hexec := exec_revoke (v := k) (vpp := true) hrun hsup hfree
    dsimp only at hexec
    rw [Nat.mod_eq_of_lt hk, if_pos hlast] at hexec
    obtain ⟨hboot, hmem, hhost⟩ := fuseEnd_unchanged (s := s) (k := k) (v := s.rd BOOT_FCMD.value) 1 3
    exact ⟨_, hexec, rd_fuseEnd_result (by decide), by rw [hboot], by rw [hboot], by rw [hboot], by rw [hboot], hmem, hhost⟩
  case hashed =>
    intro s who k hrun hsup hfree hk hnew hdata
    have hmod : k % 4 = k := Nat.mod_eq_of_lt hk
    have hexec := exec_programHash (v := k) (vpp := true) hrun hsup hfree
    dsimp only at hexec
    rw [hmod, if_neg (by simp [hnew]), if_neg hdata, if_pos rfl] at hexec
    obtain ⟨hboot, hmem, hhost⟩ := fuseEnd_fuseFields (s := s) (k := k) (v := s.rd BOOT_FCMD.value)
      { (fuseFields s 2 k (s.rd BOOT_FCMD.value)).boot with hashes := Map.set s.boot.hashes k (s.rd BOOT_FDATA.hash) } 2 0
    have hkept : (fuseFields s 2 k (s.rd BOOT_FCMD.value)).boot = s.boot := fuseFields_op State.boot (by simp) _
    refine ⟨_, hexec, ?_, ?_, ?_, ?_, rd_fuseEnd_result (by decide), rd_fuseEnd_asserted _, hmem, hhost⟩
    · rw [rootHash, hboot]
      exact Map.get_set_same _ _ _
    · rw [hboot, hkept]
    · rw [hboot, hkept]
    · rw [hboot, hkept]
  case flagged =>
    intro s who v hrun hsup hfree hnew
    have hexec := exec_setFlag (v := v) (vpp := true) hrun hsup hfree
    dsimp only at hexec
    rw [if_neg hnew, if_pos rfl] at hexec
    obtain ⟨hboot, hmem, hhost⟩ := fuseEnd_fuseFields (s := s) (k := s.rd BOOT_FCMD.key) (v := v)
      { (fuseFields s 3 (s.rd BOOT_FCMD.key) v).boot with flags := s.boot.flags ||| v % 8 } 3 0
    have hkept : (fuseFields s 3 (s.rd BOOT_FCMD.key) v).boot = s.boot := fuseFields_op State.boot (by simp) _
    refine ⟨_, hexec, by rw [hboot], ?_, ?_, ?_, rd_fuseEnd_result (by decide), rd_fuseEnd_asserted _, hmem, hhost⟩
    · rw [hboot, hkept]
    · rw [hboot, hkept]
    · rw [hboot, hkept]
  case locked =>
    intro s who v k c hrun hsup hlocked hc
    obtain ⟨a, k', v', hexec⟩ := exec_fuse_locked hrun hsup hlocked hc
    obtain ⟨hboot, hmem, hhost⟩ := fuseEnd_unchanged (s := s) (k := k') (v := v') a 2
    exact ⟨_, hexec, rd_fuseEnd_result (by decide), rd_fuseEnd_asserted _, by rw [hboot], by rw [hboot], by rw [hboot], by rw [hboot],
      hmem, hhost⟩
  case locks =>
    intro s who bits hrun hw
    have hkept {α : Type} (op : State → α) (hwr : ∀ (t : State) d v i j, op (t.wr d v i j) = op t) : op (setLocks s bits) = op s :=
      foldl_frame op _ (fun t _ => hwr t _ _ _ _) _ _
    refine ⟨_, exec_bootLockSet hrun hw, ?_, hkept State.boot (by simp), hkept State.mem (by simp), hkept State.hostMem (by simp),
      hkept State.links (by simp)⟩
    exact List.all_eq_true.mpr fun d hd => decide_eq_true (rd_setLocks bits hd)
  case extended =>
    intro s who m hrun hw hm hopen
    change execMeasurementExtend who m s = _
    rw [execMeasurementExtend, run_setupWrite hrun hw, Nat.mod_eq_of_lt hm, if_neg (by rw [hopen]; decide)]
    rfl
  case shut =>
    intro s who m hrun hw hm hshut
    change execMeasurementExtend who m s = _
    rw [execMeasurementExtend, run_setupWrite hrun hw, Nat.mod_eq_of_lt hm, if_pos hshut]
  case relay =>
    intro s who hrun hw hlow hhigh
    change execRelayRelease who s = _
    rw [execRelayRelease, run_setupWrite hrun hw, if_pos (by simp [phaseRuns, bootPhase, hlow, hhigh])]
  case released =>
    intro s j k hrun h1 h3 hlow hhigh hnew hvec hexists
    have hruns : phaseRuns s = true := by simp [phaseRuns, bootPhase, hlow, hhigh]
    have hint := stewardInt_releaseSteward (s := s.wr BOOT_RELEASE.release (putBit (s.rd BOOT_RELEASE.release) k true)) (k := k)
      (s.rd BOOT_VEC.pc k)
    refine ⟨releaseSteward (s.wr BOOT_RELEASE.release (putBit (s.rd BOOT_RELEASE.release) k true)) k (s.rd BOOT_VEC.pc k),
      (exec_bootRelease hrun).trans ?_, ?_, by rw [hint], by rw [hint], by rw [hint], agentPc_releaseSteward _, ?_, ?_, ?_⟩
    · rw [filter_stewards h1 h3, List.foldl_cons, List.foldl_nil, releaseBit, hnew, hruns, if_neg (by decide),
        if_neg (by simp [hvec, hexists])]
    · rw [releaseSteward_op (fun t => t.rd BOOT_RELEASE.release) (fun _ _ => rfl),
        State.rd_wr_same s BOOT_RELEASE.release _ 0 0 (by decide), show BOOT_RELEASE.release.width = 4 from rfl, Nat.testBit_mod_two_pow,
        testBit_putBit]
      simpa using Nat.lt_succ_of_le h3
    · rw [releaseSteward_op State.mem (fun _ _ => rfl), State.wr_mem]
    · rw [releaseSteward_op State.hostMem (fun _ _ => rfl), State.wr_hostMem]
    · rw [releaseSteward_op State.links (fun _ _ => rfl), State.wr_links]
  case badVector =>
    intro s j k hrun h1 h3 hlow hhigh hnew hbad
    have hruns : phaseRuns s = true := by simp [phaseRuns, bootPhase, hlow, hhigh]
    rw [exec_bootRelease hrun, filter_stewards h1 h3, List.foldl_cons, List.foldl_nil, releaseBit, hnew, hruns, if_neg (by decide),
      if_pos (by rcases hbad with h | h <;> simp [h])]
  case svnRange =>
    rintro s u who v vpp hrun hsup hfree rfl hbad
    exact (exec_svnAdvance hrun hsup hfree).trans (congrArg _ (if_pos hbad))
  case svnSame =>
    rintro s u who v vpp hrun hsup hfree rfl hle hsame
    exact (exec_svnAdvance hrun hsup hfree).trans (congrArg _ ((if_neg (by omega)).trans (if_pos hsame)))
  case svnBlown =>
    rintro s u who v vpp hrun hsup hfree rfl hle hlow hvpp hv
    exact (exec_svnAdvance hrun hsup hfree).trans
      (congrArg _ ((if_neg (by omega)).trans ((if_neg (by omega)).trans (if_pos ⟨hvpp, hv⟩))))
  case svnFails =>
    rintro s u who v vpp hrun hsup hfree rfl hle hlow hfail
    refine (exec_svnAdvance hrun hsup hfree).trans
      (congrArg _ ((if_neg (by omega)).trans ((if_neg (by omega)).trans (if_neg ?_))))
    rintro ⟨hvpp, hv⟩
    rcases hfail with h | h
    · exact absurd (h.symm.trans hvpp) (by decide)
    · omega
  case keyLast =>
    rintro s u who v vpp hrun hsup hfree rfl hlast
    exact (exec_revoke hrun hsup hfree).trans (congrArg _ (if_pos hlast))
  case keyGone =>
    rintro s u who v vpp hrun hsup hfree rfl hother hgone
    exact (exec_revoke hrun hsup hfree).trans (congrArg _ ((if_neg (by rw [hother]; decide)).trans (if_pos hgone)))
  case keyBlown =>
    rintro s u who v vpp hrun hsup hfree rfl hother hnew hvpp
    have hboot : (fuseFields s 1 v (s.rd BOOT_FCMD.value)).boot = s.boot := fuseFields_op State.boot (by simp) _
    exact (exec_revoke hrun hsup hfree).trans (congrArg _ ((if_neg (by rw [hother]; decide)).trans
      ((if_neg (by rw [hnew]; decide)).trans (if_pos hvpp))))
  case keyFails =>
    rintro s u who v vpp hrun hsup hfree rfl hother hnew hvpp
    exact (exec_revoke hrun hsup hfree).trans (congrArg _ ((if_neg (by rw [hother]; decide)).trans
      ((if_neg (by rw [hnew]; decide)).trans (if_neg (by rw [hvpp]; decide)))))
  case hashTaken =>
    rintro s u who v vpp hrun hsup hfree rfl htaken
    exact (exec_programHash hrun hsup hfree).trans (congrArg _ (if_pos htaken))
  case hashZero =>
    rintro s u who v vpp hrun hsup hfree rfl hnew hzero
    exact (exec_programHash hrun hsup hfree).trans (congrArg _ ((if_neg (Classical.not_not.mpr hnew)).trans (if_pos hzero)))
  case hashBlown =>
    rintro s u who v vpp hrun hsup hfree rfl hnew hdata hvpp
    exact (exec_programHash hrun hsup hfree).trans
      (congrArg _ ((if_neg (Classical.not_not.mpr hnew)).trans ((if_neg hdata).trans (if_pos hvpp))))
  case hashFails =>
    rintro s u who v vpp hrun hsup hfree rfl hnew hdata hvpp
    exact (exec_programHash hrun hsup hfree).trans
      (congrArg _ ((if_neg (Classical.not_not.mpr hnew)).trans ((if_neg hdata).trans (if_neg (by rw [hvpp]; decide)))))
  case flagSame =>
    rintro s u who v vpp hrun hsup hfree rfl hsame
    exact (exec_setFlag hrun hsup hfree).trans (congrArg _ (if_pos hsame))
  case flagBlown =>
    rintro s u who v vpp hrun hsup hfree rfl hnew hvpp
    exact (exec_setFlag hrun hsup hfree).trans (congrArg _ ((if_neg hnew).trans (if_pos hvpp)))
  case flagFails =>
    rintro s u who v vpp hrun hsup hfree rfl hnew hvpp
    exact (exec_setFlag hrun hsup hfree).trans (congrArg _ ((if_neg hnew).trans (if_neg (by rw [hvpp]; decide))))

end Sys2Proof.Machine
end

section
/-! SUPPORT. The entries of a queue: how one is found, begins and finishes (R194). -/
namespace Sys2Proof.Machine

/-- The first accepted element after those accepted have changed without leaving the test. -/
theorem find?_mapIf {α : Type} (p : α → Bool) (f : α → α) (hf : ∀ x, p x = true → p (f x) = true) (l : List α) :
    (mapIf p f l).find? p = (l.find? p).map f := by
  induction l with
  | nil => rfl
  | cons x l ih =>
    rw [mapIf, List.map_cons]
    cases hx : p x with
    | true => rw [if_pos rfl, List.find?_cons_of_pos (hf x hx), List.find?_cons_of_pos hx, Option.map_some]
    | false =>
      rw [if_neg (by decide), List.find?_cons_of_neg (by simp [hx]), List.find?_cons_of_neg (by simp [hx])]
      exact ih

section Entries

variable {s : State} {q n : Nat} {e : Entry}

/-- A change of an entry that keeps its sequence number is found under that number. -/
theorem entryOf_updEntry {f : Entry → Entry} (hf : ∀ e, (f e).sseq = e.sseq) :
    entryOf (updEntry s q n f) q n = (entryOf s q n).map f := by
  have hqueue : queueInt (updEntry s q n f) q =
      { queueInt s q with entries := mapIf (fun e => decide (e.sseq = n)) f (queueInt s q).entries } :=
    Map.get_upd_same s.queues q fun x => { x with entries := mapIf (fun e => decide (e.sseq = n)) f x.entries }
  rw [entryOf, hqueue]
  exact find?_mapIf _ _ (fun x hx => by rw [hf]; exact hx) _

/-- A change of an entry reaches the queues alone. -/
theorem updEntry_op {α : Type} (op : State → α) (hop : ∀ (t : State) x, op { t with queues := x } = op t) (f : Entry → Entry) :
    op (updEntry s q n f) = op s := hop _ _

theorem entryOf_congr {t : State} (h : t.queues = s.queues) : entryOf t q n = entryOf s q n := by rw [entryOf, queueInt, h]; rfl

theorem entryOf_begin (h : entryOf s q n = some e) : entryOf (begin_ s q n) q n = some { e with begun := true } := by
  rw [begin_, entryOf_updEntry (f := fun e => { e with begun := true }) fun _ => rfl, h, Option.map_some]

theorem begin_op {α : Type} (op : State → α) (hop : ∀ (t : State) x, op { t with queues := x } = op t) : op (begin_ s q n) = op s :=
  updEntry_op op hop _

/-- An entry that may begin has neither begun nor an outcome. -/
theorem beginnable_some {o : Nat} (h : beginnable s q n o = some e) :
    entryOf s q n = some e ∧ e.op = o ∧ e.begun = false ∧ e.outcome = none ∧ e.decided = none := by
  obtain ⟨hentry, hmay⟩ := Option.filter_eq_some_iff.mp h
  simp only [mayBegin, Bool.and_eq_true, decide_eq_true_eq, Bool.not_eq_true', Option.isNone_iff_eq_none] at hmay
  obtain ⟨hop, ⟨⟨⟨⟨hbegun, hout⟩, hdec⟩, -⟩, -⟩, -⟩ := hmay
  exact ⟨hentry, hop, hbegun, hout, hdec⟩

/-- What a report that it has finished leaves of an entry. -/
def finishedEntry (f : Finish) (e : Entry) : Entry :=
  if e.outcome.isNone && e.decided.isNone then { e with outcome := some f, inUnit := false } else { e with inUnit := false }

theorem finishedEntry_open (f : Finish) (hout : e.outcome = none) (hdec : e.decided = none) :
    finishedEntry f e = { e with outcome := some f, inUnit := false } := by
  rw [finishedEntry, hout, hdec, if_pos (by decide)]

/-- The report of an entry that is not decided changes that entry alone. -/
theorem finish_open (f : Finish) (h : entryOf s q n = some e) (hdec : e.decided = none) :
    finish s q n f = updEntry s q n (finishedEntry f) := by
  have hsseq (e : Entry) : (finishedEntry f e).sseq = e.sseq := by
    rw [finishedEntry]
    split <;> rfl
  have hkept : (finishedEntry f e).decided = none := by
    rw [finishedEntry]
    split <;> exact hdec
  have hfound : entryOf (updEntry s q n (finishedEntry f)) q n = some (finishedEntry f e) := by
    rw [entryOf_updEntry hsseq, h, Option.map_some]
  change settleEntry (updEntry s q n (finishedEntry f)) q n = _
  rw [settleEntry, hfound]
  simp only [hkept, Option.isSome_none, Bool.false_and, Bool.false_eq_true, if_false]

theorem entryOf_finish (f : Finish) (h : entryOf s q n = some e) (hout : e.outcome = none) (hdec : e.decided = none) :
    entryOf (finish s q n f) q n = some { e with outcome := some f, inUnit := false } := by
  rw [finish_open f h hdec, entryOf_updEntry, h, Option.map_some, finishedEntry_open f hout hdec]
  intro e
  rw [finishedEntry]
  split <;> rfl

theorem finish_op {α : Type} (op : State → α) (hop : ∀ (t : State) x, op { t with queues := x } = op t) (f : Finish)
    (h : entryOf s q n = some e) (hdec : e.decided = none) : op (finish s q n f) = op s := by
  rw [finish_open f h hdec, updEntry_op op hop]

theorem finishWith_eq (st x : Nat) (h : entryOf s q n = some e) :
    finishWith s q n st x = finish s q n { status := st, bytes := e.moved, extra := x } := by simp only [finishWith, h]

/-- An entry that begins and finishes in one step. -/
theorem outcome_finish_begin (f : Finish) (h : entryOf s q n = some e) (hout : e.outcome = none) (hdec : e.decided = none) :
    (entryOf (finish (begin_ s q n) q n f) q n).bind Entry.outcome = some f := by
  rw [entryOf_finish f (entryOf_begin h) hout hdec]
  rfl

theorem finish_begin_op {α : Type} (op : State → α) (hop : ∀ (t : State) x, op { t with queues := x } = op t) (f : Finish)
    (h : entryOf s q n = some e) (hdec : e.decided = none) : op (finish (begin_ s q n) q n f) = op s := by
  rw [finish_op op hop f (entryOf_begin h) hdec, begin_op op hop]

end Entries

end Sys2Proof.Machine
end

section
/-! SUPPORT. Host frames, quad modes, flow counters and bank copies (R287, R321, R332, R341, R349, R359), and the obligation O21
that they settle. -/
namespace Sys2Proof.Machine

section Frames

variable {s t : State} {q n : Nat} {e : Entry} {f : Bytes}

/-! ### Lines of the packet buffer -/

theorem foldl_lines_insertHold (h : Hold) (l : List Hold) (k : Nat) :
    (insertHold h l).foldl (fun n h => n + h.lines) k = l.foldl (fun n h => n + h.lines) k + h.lines := by
  have hshift (l : List Hold) (k m : Nat) :
      l.foldl (fun n h => n + h.lines) (k + m) = l.foldl (fun n h => n + h.lines) k + m := by
    induction l generalizing k with
    | nil => rfl
    | cons x l ih => rw [List.foldl_cons, List.foldl_cons, Nat.add_right_comm, ih]
  induction l generalizing k with
  | nil => rfl
  | cons x l ih =>
    rw [insertHold]
    split
    · rw [List.foldl_cons, hshift]
    · rw [List.foldl_cons, List.foldl_cons, ih]

theorem lines_placeHold (m : Nat) (port : Option Nat) (prio : Nat) (hs : List Hold) : (placeHold m port prio hs).lines = m := by
  unfold placeHold
  split <;> rfl

/-- The state once lines have been taken for a packet. -/
def taken (s : State) (m : Nat) (port : Option Nat) (prio acct : Nat) : State :=
  let u := sramAccess s m acct
  { u with pp := { u.pp with holds := insertHold (placeHold m port prio s.pp.holds) u.pp.holds } }

theorem allocate_room {m : Nat} (port : Option Nat) (prio acct : Nat) (h : m ≤ freeLineCount s) :
    allocate s m port prio acct = some ((placeHold m port prio s.pp.holds).handle, taken s m port prio acct) := if_neg (by omega)

theorem heldAll_taken (m : Nat) (port : Option Nat) (prio acct : Nat) : heldAll (taken s m port prio acct) = heldAll s + m := by
  have hholds : (sramAccess s m acct).pp.holds = s.pp.holds := by simp
  simp only [heldAll, taken, hholds]
  rw [foldl_lines_insertHold, lines_placeHold]

/-- The packet of a NET_SEND entry, with its handle. -/
def hostPacket (s : State) (q h : Nat) (e : Entry) (f : Bytes) : Packet :=
  let info : Meta := {
    source := 1, account := queueAccount s q, pktLen := e.at 0x10 0 14, handle := h, srcQueue := q, scratch := e.at 0x14 0 32 }
  ⟨fitBytes (e.at 0x10 0 14) f, info, bitAt e.raw (8 * 0x10 + 16), e.order⟩

/-! ### NET_SEND and NET_POST_RX -/

/-- A range that needs no translation leads where it says. -/
theorem withRanges_plain (q n : Nat) (r : Nat × Nat × Bool) (k : List (List (Nat × Nat)) → State) (h : fnLive s (queueFn s q) = true) :
    withRanges s q n false [r] k = k [[(r.1, r.2.1)]] := by simp [withRanges, h, translateRange]

/-- What NET_SEND does with an entry that is well formed. -/
theorem exec_netSend (ok : Bool) (hrun : stopped s = false) (he : beginnable s q n 0x10 = some e) (hlo : 14 ≤ e.at 0x10 0 14)
    (hhi : e.at 0x10 0 14 ≤ 9596) (hr : e.at 0x10 17 15 = 0) (hr' : e.at 0x18 0 64 = 0) (hats : bitAt e.raw (8 * 0x10 + 15) = false)
    (hlive : fnLive s (queueFn s q) = true) : exec (.netSend q n ok f) s = .next (
      if !ok then finishWith (begin_ s q n) q n stBusError
      else match allocate (begin_ s q n) (linesFor (e.at 0x10 0 14)) none 0 (queueAccount s q) with
        | none => updEntry (begin_ s q n) q n fun e => { e with begun := false }
        | some (h, u) => finish (putInput (chargeRead u q (e.at 0x10 0 14)) (e.at 0x10 14 1) 1 { pkt := hostPacket s q h e f }) q n
            { status := stOk, bytes := e.at 0x10 0 14 }) := by
  change execNetSend q n ok f s = _
  rw [execNetSend, run_running s _ hrun, he]
  dsimp only
  rw [if_neg (by simp [hr, hr']; omega), hats, withRanges_plain q n _ _ hlive]
  rfl

theorem exec_netSend_invalid (ok : Bool) (hrun : stopped s = false) (he : beginnable s q n 0x10 = some e)
    (hbad : e.at 0x10 0 14 < 14 ∨ 9596 < e.at 0x10 0 14 ∨ e.at 0x10 17 15 ≠ 0 ∨ e.at 0x18 0 64 ≠ 0) :
    exec (.netSend q n ok f) s = .next (finishWith (begin_ s q n) q n stInvalid) := by
  change execNetSend q n ok f s = _
  rw [execNetSend, run_running s _ hrun, he]
  exact congrArg _ (if_pos (by simpa [or_assoc] using hbad))

theorem exec_netPostRx (hrun : stopped s = false) (he : beginnable s q n 0x11 = some e) :
    exec (.netPostRx q n) s = .next (if badPost e then finishWith (begin_ s q n) q n stInvalid else begin_ s q n) := by
  change execNetPostRx q n s = _
  rw [execNetPostRx, run_running s _ hrun, he]

/-- The state of a frame's lines taken, its read charged and the frame put at its input. -/
def sent (s : State) (q m : Nat) (pipe : Nat) (w : Waiting) : State :=
  putInput (chargeRead (taken s (linesFor m) none 0 (queueAccount s q)) q m) pipe 1 w

/-- A part of the state that neither energy nor the packets are in is kept by the frame of an entry. -/
theorem sent_kept {m pipe : Nat} {w : Waiting} : (sent s q m pipe w).queues = s.queues ∧ (sent s q m pipe w).mem = s.mem ∧
    (sent s q m pipe w).hostMem = s.hostMem ∧ (sent s q m pipe w).links = s.links := by
  simp [sent, chargeRead, pcieActivity, taken]

theorem inputOf_putInput (s : State) (pipe source : Nat) (w : Waiting) :
    inputOf (putInput s pipe source w) pipe source = inputOf s pipe source ++ [w] :=
  Map.get_upd_same s.pp.inputs (inKey pipe source) fun l => l ++ [w]

theorem inputOf_sent (m pipe : Nat) (w : Waiting) : inputOf (sent s q m pipe w) pipe 1 = inputOf s pipe 1 ++ [w] := by
  rw [sent, inputOf_putInput, inputOf]
  simp [chargeRead, pcieActivity, taken, inputOf]

theorem heldAll_sent (m pipe : Nat) (w : Waiting) : heldAll (sent s q m pipe w) = heldAll s + linesFor m := by
  have hpp : (chargeRead (taken s (linesFor m) none 0 (queueAccount s q)) q m).pp = (taken s (linesFor m) none 0 (queueAccount s q)).pp := by
    simp [chargeRead, pcieActivity]
  rw [← heldAll_taken (linesFor m) none 0 (queueAccount s q), heldAll, heldAll, ← hpp]
  rfl

end Frames

/-! ### Domains and programs -/

section Powers

variable {s : State}

theorem setDomain_op {α : Type} (op : State → α) (hwr : ∀ (t : State) d v i j, op (t.wr d v i j) = op t)
    (hnrg : ∀ (t : State) x, op { t with nrg := x } = op t) (s : State) (d : Nat) (x : DomainState) : op (setDomain s d x) = op s := by
  unfold setDomain
  dsimp only
  split <;> split <;> simp only [hwr, hnrg]

theorem wakeDomain_op {α : Type} (op : State → α) (hwr : ∀ (t : State) d v i j, op (t.wr d v i j) = op t)
    (hnrg : ∀ (t : State) x, op { t with nrg := x } = op t) (hpmc : ∀ (t : State) e i n a, op (pmc t e i n a) = op t) (s : State)
    (d : Nat) : op (wakeDomain s d) = op s := by
  unfold wakeDomain
  dsimp only
  split
  · split
    · rw [addAct, hnrg, addEst, hnrg, hpmc, State.count, hwr, setDomain_op op hwr hnrg]
    · rw [hpmc, State.count, hwr, setDomain_op op hwr hnrg]
  · rfl

theorem rd_wakes {e : Desc} (hon : NRG_DOM_ON.on.apart e = true) (hpow : CIP_STAT.powered.apart e = true)
    (hwake : NRG_WAKES.count.apart e = true) (hpmc : PMC_CNT.count.apart e = true) (s : State) (d i j : Nat) :
    (wakeDomain s d).rd e i j = s.rd e i j := by
  unfold wakeDomain
  dsimp only
  split
  · split
    · rw [rd_addAct, rd_addEst, rd_pmc _ _ _ _ _ _ _ hpmc, State.rd_count_apart _ _ _ _ _ _ hwake, rd_setDomain hon hpow]
    · rw [rd_pmc _ _ _ _ _ _ _ hpmc, State.rd_count_apart _ _ _ _ _ _ hwake, rd_setDomain hon hpow]
  · rfl

theorem ppPower_op {α : Type} (op : State → α) (hwr : ∀ (t : State) d v i j, op (t.wr d v i j) = op t)
    (hnrg : ∀ (t : State) x, op { t with nrg := x } = op t) (hpmc : ∀ (t : State) e i n a, op (pmc t e i n a) = op t) (s : State) :
    op (ppPower s) = op s := by
  refine foldl_frame op _ (fun t x => ?_) _ _
  dsimp only
  split
  · exact wakeDomain_op op hwr hnrg hpmc _ _
  · split
    · exact setDomain_op op hwr hnrg _ _ _
    · rfl

theorem rd_ppPower {e : Desc} (hon : NRG_DOM_ON.on.apart e = true) (hpow : CIP_STAT.powered.apart e = true)
    (hwake : NRG_WAKES.count.apart e = true) (hpmc : PMC_CNT.count.apart e = true) (s : State) (i j : Nat) :
    (ppPower s).rd e i j = s.rd e i j := by
  refine foldl_frame (fun t => t.rd e i j) _ (fun t x => ?_) _ _
  dsimp only
  split
  · exact rd_wakes hon hpow hwake hpmc _ _ _ _
  · split
    · exact rd_setDomain hon hpow _ _
    · rfl

theorem exec_bankCopyDone {pipe : Nat} (hrun : stopped s = false) (hpipe : pipe < 2) (hcopy : s.rd PP_PROG_STAT.copying pipe = 1) :
    exec (.bankCopyDone pipe) s = .next (
      if ppSafePoint (s.wr PP_PROG_STAT.copying 0 pipe) then
        ppPower { s.wr PP_PROG_STAT.copying 0 pipe with pp := { s.pp with oldProg := [] } }
      else s.wr PP_PROG_STAT.copying 0 pipe) := by
  change execBankCopyDone pipe s = _
  rw [execBankCopyDone, run_running s _ hrun, on_of_rd_one hcopy, Bool.and_true, if_pos (decide_eq_true hpipe)]
  simp only [State.wr_pp]

theorem exec_bankCopyDone_idle {pipe : Nat} (hrun : stopped s = false) (hcopy : s.rd PP_PROG_STAT.copying pipe = 0) :
    exec (.bankCopyDone pipe) s = .next s := by
  change execBankCopyDone pipe s = _
  rw [execBankCopyDone, run_running s _ hrun, on_of_rd_zero hcopy, Bool.and_false]
  rfl

/-- With the copy over and the other pipeline quiet, PP may apply. -/
theorem ppSafePoint_copied {pipe : Nat} (hpipe : pipe < 2) (hdrain : s.rd PP_PROG_STAT.draining pipe = 0)
    (hother : s.rd PP_PROG_STAT.draining (1 - pipe) = 0) (hcopy : s.rd PP_PROG_STAT.copying (1 - pipe) = 0) :
    ppSafePoint (s.wr PP_PROG_STAT.copying 0 pipe) = true := by
  have hquiet : ∀ p < 2, (s.wr PP_PROG_STAT.copying 0 pipe).rd PP_PROG_STAT.draining p = 0 ∧
      (s.wr PP_PROG_STAT.copying 0 pipe).rd PP_PROG_STAT.copying p = 0 := by
    intro p hp
    rw [State.rd_wr_apart _ _ _ _ _ _ (by decide)]
    by_cases h : p = pipe
    · subst h
      exact ⟨hdrain, by rw [State.rd_wr_same _ _ _ _ _ (by simp [Desc.has, PP_PROG_STAT.copying, hp])]; rfl⟩
    · obtain rfl : p = 1 - pipe := by omega
      exact ⟨hother, by rw [State.rd_wr_member _ _ (by decide) h, hcopy]⟩
  rw [ppSafePoint, List.all_eq_true]
  intro p hp
  obtain ⟨hd, hc⟩ := hquiet p (List.mem_range.mp hp)
  rw [on_of_rd_zero hd, on_of_rd_zero hc]
  rfl

/-! ### Quad modes and flow counters -/

theorem exec_ppEthModeWrite_idle {who : Initiator} {m : Nat} (hrun : stopped s = false)
    (hw : writable who PP_ETH_MODE.quad0 0 s = true) (hidle : ((quadPorts s 1).any fun p => s.on PP_PORT.enable p) = false) :
    exec (.ppEthModeWrite who 1 m) s = .next (ethPower (s.wr PP_ETH_MODE.quad1 m)) := by
  refine (run_setupWrite hrun hw (m <<< (3 * 1)) _).trans ?_
  exact congrArg Host.Outcome.next ((if_neg (by decide)).trans (if_neg (ne_true_of_eq_false hidle)))

theorem exec_ppEthModeWrite_busy {who : Initiator} {m : Nat} (hrun : stopped s = false)
    (hw : writable who PP_ETH_MODE.quad0 0 s = true) (hbusy : ((quadPorts s 0).any fun p => s.on PP_PORT.enable p) = true)
    (hchange : s.rd PP_ETH_MODE.quad0 ≠ m % 8) : exec (.ppEthModeWrite who 0 m) s = .next (s.wr (lockedWriteField .pp) 1) := by
  refine (run_setupWrite hrun hw (m <<< (3 * 0)) _).trans ?_
  exact congrArg Host.Outcome.next ((if_neg (by decide)).trans ((if_pos hbusy).trans (if_neg hchange)))

/-- A flow counter shown, with its lines read. -/
def flowShown (s : State) : State :=
  let c := flowCount s (s.rd PP_CNT_ADDR.pipe) (s.rd PP_CNT_ADDR.index)
  ledgerAccess ((s.wr PP_CNT_DATA.packets c.1).wr PP_CNT_DATA.bytes c.2) (flowPlace (s.rd PP_CNT_ADDR.pipe) (s.rd PP_CNT_ADDR.index))
    16 false 0

/-- A flow counter shown and cleared. -/
def flowCleared (s : State) : State :=
  putFlow (ledgerAccess (flowShown s) (flowPlace (s.rd PP_CNT_ADDR.pipe) (s.rd PP_CNT_ADDR.index)) 16 true 0)
    (s.rd PP_CNT_ADDR.pipe) (s.rd PP_CNT_ADDR.index) 0 0

theorem rd_ledgerAccess {e : Desc} (h : PMC_CNT.count.apart e = true) (s : State) (o n : Nat) (write : Bool) (acct i j : Nat) :
    (ledgerAccess s o n write acct).rd e i j = s.rd e i j :=
  foldl_frame (fun t => t.rd e i j) _ (fun _ _ => rd_g6Access _ _ _ _ _ _ h) _ _

theorem ledgerAccess_op {α : Type} (op : State → α) (hop : ∀ (t : State) a w c, op (g6Access t a w c) = op t) (s : State) (o n : Nat)
    (write : Bool) (acct : Nat) : op (ledgerAccess s o n write acct) = op s := foldl_frame op _ (fun _ _ => hop _ _ _ _) _ _

theorem rd_flowShown {e : Desc} (hp : PP_CNT_DATA.packets.apart e = true) (hb : PP_CNT_DATA.bytes.apart e = true)
    (hpmc : PMC_CNT.count.apart e = true) (i j : Nat) : (flowShown s).rd e i j = s.rd e i j := by
  rw [flowShown, rd_ledgerAccess hpmc, State.rd_wr_apart _ _ _ _ _ _ hb, State.rd_wr_apart _ _ _ _ _ _ hp]

theorem rd_packets_flowShown :
    (flowShown s).rd PP_CNT_DATA.packets = (flowCount s (s.rd PP_CNT_ADDR.pipe) (s.rd PP_CNT_ADDR.index)).1 % 2 ^ 64 := by
  rw [flowShown, rd_ledgerAccess (by decide), State.rd_wr_apart _ _ _ _ _ _ (by decide), State.rd_wr_same _ _ _ _ _ (by decide),
    show PP_CNT_DATA.packets.width = 64 from rfl]

theorem rd_bytes_flowShown :
    (flowShown s).rd PP_CNT_DATA.bytes = (flowCount s (s.rd PP_CNT_ADDR.pipe) (s.rd PP_CNT_ADDR.index)).2 % 2 ^ 64 := by
  rw [flowShown, rd_ledgerAccess (by decide), State.rd_wr_same _ _ _ _ _ (by decide),
    show PP_CNT_DATA.bytes.width = 64 from rfl]

theorem exec_flowCounterSnapshot {who : Initiator} (hrun : stopped s = false) (hw : writable who PP_CNT_ADDR.go 0 s = true) :
    exec (.flowCounterSnapshot who) s = .next (if s.on PP_CNT_ADDR.clear then flowCleared s else flowShown s) := by
  change execFlowCounterSnapshot who s = _
  have hclear : (flowShown s).on PP_CNT_ADDR.clear = s.on PP_CNT_ADDR.clear := by
    rw [State.on, State.on, rd_flowShown (by decide) (by decide) (by decide)]
  rw [execFlowCounterSnapshot, run_setupWrite hrun hw, ← hclear]
  rfl

theorem rd_putFlow {e : Desc} (hbit : IRQ_SRC.asserted.apart e = true) (hbad : IRQ_MSIX_BAD.count.apart e = true)
    (hdet : DEV_DET_COUNT.failed.apart e = true) (s : State) (pipe k a b i j : Nat) : (putFlow s pipe k a b).rd e i j = s.rd e i j := by
  unfold putFlow ledgerStore
  split
  · exact rd_memStore _ _ _ _ _ hbit hbad hdet
  · rfl

theorem putFlow_op {α : Type} (op : State → α) (hop : ∀ (t : State) a bs, op (memStore t a bs) = op t) (s : State) (pipe k a b : Nat) :
    op (putFlow s pipe k a b) = op s := by
  unfold putFlow ledgerStore
  split
  · exact hop _ _ _
  · rfl

theorem areaBase_congr {t : State} (h : t.areas = s.areas) (k : Nat) : areaBase t k = areaBase s k := by
  rw [areaBase, areaBase, areaSizes, areaSizes, h]

/-- A flow counter set to zero where the area holds it reads as zero. -/
theorem flowCount_putFlow_zero (s : State) (pipe k : Nat) (harea : 50 ≤ s.areas.ledger) :
    flowCount (putFlow s pipe k 0 0) pipe k = (0, 0) := by
  have hplace : areaBase (putFlow s pipe k 0 0) 5 = areaBase s 5 := areaBase_congr (by simp [putFlow, ledgerStore, harea]) 5
  have hmem : memLoad (putFlow s pipe k 0 0) (areaBase s 5 + flowPlace pipe k) 16 = leBytes 8 0 ++ leBytes 8 0 := by
    rw [putFlow, ledgerStore, if_pos harea, memLoad, memStore_mem]
    exact loadBytes_storeBytes_same _ _ (leBytes 8 0 ++ leBytes 8 0)
  have harea' : 50 ≤ (putFlow s pipe k 0 0).areas.ledger := by simp [putFlow, ledgerStore, harea]
  rw [flowCount, ledgerLoad, if_pos harea', hplace, hmem]
  decide

end Powers

/-! ### The obligation -/

theorem netSend_ends {s : State} {q n : Nat} {e : Entry} {f : Bytes} (hrun : stopped s = false) (he : beginnable s q n 0x10 = some e)
    (hlo : 14 ≤ e.at 0x10 0 14) (hhi : e.at 0x10 0 14 ≤ 9596) (hr : e.at 0x10 17 15 = 0) (hr' : e.at 0x18 0 64 = 0)
    (hats : bitAt e.raw (8 * 0x10 + 15) = false) (hlive : fnLive s (queueFn s q) = true)
    (hroom : linesFor (e.at 0x10 0 14) ≤ freeLineCount s) : ∃ t, exec (.netSend q n true f) s = .next t ∧
      (entryOf t q n).bind Entry.outcome = some { status := stOk, bytes := e.at 0x10 0 14 } ∧
      (inputOf t (e.at 0x10 14 1) 1).map (fun w => w.pkt.frame) =
        (inputOf s (e.at 0x10 14 1) 1).map (fun w => w.pkt.frame) ++ [fitBytes (e.at 0x10 0 14) f] ∧
      heldAll t = heldAll s + linesFor (e.at 0x10 0 14) ∧ t.mem = s.mem ∧ t.hostMem = s.hostMem ∧ t.links = s.links := by
  obtain ⟨hentry, -, -, hout, hdec⟩ := beginnable_some he
  have hacct : queueAccount s q = queueAccount (begin_ s q n) q := rfl
  obtain ⟨w, hw, hexec⟩ : ∃ w : Waiting, w.pkt.frame = fitBytes (e.at 0x10 0 14) f ∧ exec (.netSend q n true f) s = .next
      (finish (sent (begin_ s q n) q (e.at 0x10 0 14) (e.at 0x10 14 1) w) q n { status := stOk, bytes := e.at 0x10 0 14 }) := by
    refine ⟨{ pkt := hostPacket s q (placeHold (linesFor (e.at 0x10 0 14)) none 0 (begin_ s q n).pp.holds).handle e f }, rfl, ?_⟩
    rw [exec_netSend true hrun he hlo hhi hr hr' hats hlive, if_neg (by decide), allocate_room (s := begin_ s q n) _ _ _ hroom, hacct]
    rfl
  obtain ⟨hqueues, hmem, hhost, hlinks⟩ := sent_kept (s := begin_ s q n) (q := q) (m := e.at 0x10 0 14) (pipe := e.at 0x10 14 1) (w := w)
  have hfound : entryOf (sent (begin_ s q n) q (e.at 0x10 0 14) (e.at 0x10 14 1) w) q n = some { e with begun := true } := by
    rw [entryOf_congr hqueues, entryOf_begin hentry]
  have hkept {α : Type} (op : State → α) (hop : ∀ (t : State) x, op { t with queues := x } = op t) :
      op (finish (sent (begin_ s q n) q (e.at 0x10 0 14) (e.at 0x10 14 1) w) q n { status := stOk, bytes := e.at 0x10 0 14 }) =
        op (sent (begin_ s q n) q (e.at 0x10 0 14) (e.at 0x10 14 1) w) := finish_op op hop _ hfound hdec
  refine ⟨_, hexec, ?_, ?_, ?_, (hkept State.mem fun _ _ => rfl).trans hmem, (hkept State.hostMem fun _ _ => rfl).trans hhost,
    (hkept State.links fun _ _ => rfl).trans hlinks⟩
  · rw [entryOf_finish _ hfound hout hdec]
    rfl
  · rw [hkept (fun t => inputOf t (e.at 0x10 14 1) 1) fun _ _ => rfl, inputOf_sent, List.map_append, List.map_singleton, hw]
    rfl
  · rw [hkept heldAll fun _ _ => rfl, heldAll_sent]
    rfl

/-- An entry that begins and ends INVALID_ENTRY changes nothing but the queues. -/
theorem invalid_ends {s : State} {q n o : Nat} {e : Entry} (he : beginnable s q n o = some e) :
    (entryOf (finishWith (begin_ s q n) q n stInvalid) q n).bind Entry.outcome = some { status := stInvalid, bytes := e.moved } ∧
      ∀ {α : Type} (op : State → α), (∀ (t : State) x, op { t with queues := x } = op t) →
        op (finishWith (begin_ s q n) q n stInvalid) = op s := by
  obtain ⟨hentry, -, -, hout, hdec⟩ := beginnable_some he
  rw [finishWith_eq _ _ (entryOf_begin hentry)]
  exact ⟨outcome_finish_begin _ hentry hout hdec, fun op hop => finish_begin_op op hop _ hentry hdec⟩

theorem flowSnapshot_clears {s : State} {who : Initiator} (hrun : stopped s = false) (hw : writable who PP_CNT_ADDR.go 0 s = true)
    (hclear : s.rd PP_CNT_ADDR.clear = 1) (harea : 50 ≤ s.areas.ledger) : ∃ t, exec (.flowCounterSnapshot who) s = .next t ∧
      t.rd PP_CNT_DATA.packets = (flowCount s (s.rd PP_CNT_ADDR.pipe) (s.rd PP_CNT_ADDR.index)).1 % 2 ^ 64 ∧
      t.rd PP_CNT_DATA.bytes = (flowCount s (s.rd PP_CNT_ADDR.pipe) (s.rd PP_CNT_ADDR.index)).2 % 2 ^ 64 ∧
      flowCount t (s.rd PP_CNT_ADDR.pipe) (s.rd PP_CNT_ADDR.index) = (0, 0) ∧ t.pp = s.pp ∧ t.hostMem = s.hostMem := by
  have hledger : ∀ t : State, ∀ o n w, (ledgerAccess t o n w 0).areas = t.areas := fun t o n w =>
    ledgerAccess_op State.areas (by simp) t o n w 0
  have hrd (e : Desc) (hbit : IRQ_SRC.asserted.apart e = true) (hbad : IRQ_MSIX_BAD.count.apart e = true)
      (hdet : DEV_DET_COUNT.failed.apart e = true) (hpmc : PMC_CNT.count.apart e = true) :
      (flowCleared s).rd e = (flowShown s).rd e := by
    rw [flowCleared, rd_putFlow hbit hbad hdet, rd_ledgerAccess hpmc]
  refine ⟨flowCleared s, ?_, ?_, ?_, ?_, ?_, ?_⟩
  · rw [exec_flowCounterSnapshot hrun hw, if_pos (on_of_rd_one hclear)]
  · rw [hrd _ (by decide) (by decide) (by decide) (by decide), rd_packets_flowShown]
  · rw [hrd _ (by decide) (by decide) (by decide) (by decide), rd_bytes_flowShown]
  · refine flowCount_putFlow_zero _ _ _ ?_
    rw [hledger, flowShown, hledger, State.wr_areas, State.wr_areas]
    exact harea
  · rw [flowCleared, putFlow_op State.pp (by simp), ledgerAccess_op State.pp (by simp), flowShown, ledgerAccess_op State.pp (by simp)]
    simp
  · rw [flowCleared, putFlow_op State.hostMem (by simp), ledgerAccess_op State.hostMem (by simp), flowShown,
      ledgerAccess_op State.hostMem (by simp)]
    simp

/-- Settles O21: NET_SEND takes lines and puts its frame at its input, the entries that R349 forbids end INVALID_ENTRY, and a bank
copy that ends with the other pipeline quiet is a safe point. -/
theorem hostFramesAndPipelineSetup : Obligations.HostFramesAndPipelineSetup := by
  unfold Obligations.HostFramesAndPipelineSetup
  refine ⟨fun s q n e f hrun he hlo hhi hr hr' hats hlive hroom => netSend_ends hrun he hlo hhi hr hr' hats hlive hroom, ?allocated,
    ?failed, fun s q n e f ok hrun he hbad => exec_netSend_invalid ok hrun he hbad, ?post, ?badPost, ?short, ?posted, ?shortPost,
    fun s who m hrun hw hidle => exec_ppEthModeWrite_idle hrun hw hidle,
    fun s who m hrun hw hbusy hchange => exec_ppEthModeWrite_busy hrun hw hbusy hchange,
    fun s who hrun hw hclear harea _ => flowSnapshot_clears hrun hw hclear harea, ?cleared, ?shown, ?copied, ?safe, ?notSafe,
    fun s pipe hrun hcopy => exec_bankCopyDone_idle hrun hcopy⟩
  case allocated =>
    intro s t q n h e f hrun he hlo hhi hr hr' hats hlive halloc
    rw [exec_netSend true hrun he hlo hhi hr hr' hats hlive, if_neg (by decide), halloc]
    rfl
  case failed =>
    intro s q n e f hrun he hlo hhi hr hr' hats hlive
    rw [exec_netSend false hrun he hlo hhi hr hr' hats hlive, if_pos (by decide)]
  case post =>
    intro s q n e hrun he hgood
    rw [exec_netPostRx hrun he, if_neg (by simp [hgood])]
  case badPost =>
    intro s q n e hrun he hbad
    rw [exec_netPostRx hrun he, if_pos hbad]
  case short =>
    intro s q n e f ok hrun he hshort
    obtain ⟨hout, hop⟩ := invalid_ends he
    exact ⟨_, exec_netSend_invalid ok hrun he (.inl hshort), hout, hop State.regs fun _ _ => rfl, hop State.pp fun _ _ => rfl,
      hop State.mem fun _ _ => rfl, hop State.hostMem fun _ _ => rfl, hop State.links fun _ _ => rfl⟩
  case posted =>
    intro s q n e hrun he hlen hr hr'
    obtain ⟨hentry, -, -, hout, -⟩ := beginnable_some he
    have hgood : badPost e = false := by simp [badPost, hr, hr', hlen]
    refine ⟨begin_ s q n, ?_, ?_, ?_, rfl, rfl, rfl, rfl, rfl⟩
    · rw [exec_netPostRx hrun he, if_neg (by simp [hgood])]
    · rw [entryOf_begin hentry]
      rfl
    · rw [entryOf_begin hentry]
      exact hout
  case shortPost =>
    intro s q n e hrun he hshort
    have hbad : badPost e = true := by simp [badPost, hshort]
    obtain ⟨hout, hop⟩ := invalid_ends he
    exact ⟨_, (exec_netPostRx hrun he).trans (by rw [if_pos hbad]), hout, hop State.regs fun _ _ => rfl, hop State.pp fun _ _ => rfl,
      hop State.mem fun _ _ => rfl, hop State.hostMem fun _ _ => rfl, hop State.links fun _ _ => rfl⟩
  case cleared =>
    intro s c who hrun hw hclear hc
    rw [exec_flowCounterSnapshot hrun hw, if_pos (on_of_rd_one hclear), hc]
    rfl
  case shown =>
    intro s who hrun hw hclear
    rw [exec_flowCounterSnapshot hrun hw, if_neg (by simp [on_of_rd_zero hclear])]
    rfl
  case copied =>
    intro s pipe hrun hpipe hcopy hother hcopied hdrain
    have hsafe := ppSafePoint_copied hpipe hdrain hother hcopied
    refine ⟨_, (exec_bankCopyDone hrun hpipe hcopy).trans (by rw [if_pos hsafe]), ?_, ?_, ?_, ?_, ?_, ?_, ?_⟩
    · rw [rd_ppPower (by decide) (by decide) (by decide) (by decide)]
      exact State.rd_wr_same s PP_PROG_STAT.copying 0 pipe 0 (by simp [Desc.has, PP_PROG_STAT.copying, hpipe])
    · rw [ppPower_op (fun t => t.pp.oldProg) (by simp) (fun _ _ => rfl) (by simp)]
    · rw [ppPower_op (fun t => t.pp.passes) (by simp) (fun _ _ => rfl) (by simp)]
    · rw [ppPower_op (fun t => t.pp.inputs) (by simp) (fun _ _ => rfl) (by simp)]
    · exact (ppPower_op State.mem (by simp) (fun _ _ => rfl) (by simp) _).trans (State.wr_mem _ _ _ _ _)
    · exact (ppPower_op State.hostMem (by simp) (fun _ _ => rfl) (by simp) _).trans (State.wr_hostMem _ _ _ _ _)
    · exact (ppPower_op State.links (by simp) (fun _ _ => rfl) (by simp) _).trans (State.wr_links _ _ _ _ _)
  case safe =>
    intro s pipe hrun hpipe hcopy hsafe
    rw [exec_bankCopyDone hrun hpipe hcopy, if_pos hsafe]
  case notSafe =>
    intro s pipe hrun hpipe hcopy hunsafe
    rw [exec_bankCopyDone hrun hpipe hcopy, if_neg (by simp [hunsafe])]

end Sys2Proof.Machine
end

section
/-! SUPPORT. Self-tests, error logs, resumption and volume records (R531 to R567), and the obligation O33 that they settle. -/
namespace Sys2Proof.Machine

/-! ### What a baton that a device unit sends leaves -/

section Batons

variable {s t : State}

/-- The registers that a baton's way to its receiver writes. -/
def batonFields : List Desc :=
  [RLY_CHAN.queued, RLY_CHAN.credits, RLY_CHAN.receivers, RLY_CHAN.senders, RLY_THCTX.state, RLY_THCTX.budget_held]

variable {α : Type} (op : State → α) (hwr : ∀ (t : State) d v i j, d ∈ batonFields → op (t.wr d v i j) = op t)
  (hrly : ∀ (t : State) x, op { t with rly := x } = op t)

include hwr in
theorem syncChan_op (s : State) (ch : Nat) : op (syncChan s ch) = op s := by
  unfold syncChan
  dsimp only
  simp only [batonFields, List.mem_cons, List.not_mem_nil, or_false] at hwr
  rw [hwr _ _ _ _ _ (by simp), hwr _ _ _ _ _ (by simp), hwr _ _ _ _ _ (by simp), hwr _ _ _ _ _ (by simp)]

include hwr hrly in
theorem completeWait_op (s : State) (t rd v : Nat) : op (completeWait s t rd v) = op s := by
  have hthread (u : State) (f : ThreadInt → ThreadInt) : op (updThread u t f) = op u := hrly _ _
  have hagent (u : State) (f : AgentInt → AgentInt) : op (updAgent u t f) = op u := hrly _ _
  have hgreg : op (setGreg s t rd v) = op s := by
    unfold setGreg
    split
    · rfl
    · exact hagent _ _
  rw [completeWait, makeReady, hwr _ _ _ _ _ (by simp [batonFields]), setThreadState, hwr _ _ _ _ _ (by simp [batonFields]), hthread,
    unstall, hrly, setPc, hagent, hgreg]

include hwr hrly in
theorem leaveWait_op (s : State) (t : Nat) : op (leaveWait s t) = op s := by
  have hthread (u : State) (f : ThreadInt → ThreadInt) : op (updThread u t f) = op u := hrly _ _
  unfold leaveWait
  split
  · rw [syncChan_op op hwr, hthread, hrly]
  · rw [syncChan_op op hwr, hthread, hrly]
  · exact hthread _ _

include hwr hrly in
theorem wakeWatchers_op (s : State) (ch : Nat) : op (wakeWatchers s ch) = op s := by
  refine foldl_frame op _ (fun t x => ?_) _ _
  unfold wakeIfReady
  split
  · split
    · exact completeWait_op op hwr hrly _ _ _ _
    · rfl
  · rfl

variable (hstore : ∀ (t : State) a bs, op (memStore t a bs) = op t)

include hwr hrly hstore in
theorem putBaton_op (s : State) (ch : Nat) (b : Baton) : op (putBaton s ch b) = op s := by
  have hunit (u : State) : op (unitTake u ch b) = op u := by
    unfold unitTake
    split <;> exact hrly _ _
  unfold putBaton
  dsimp only
  split
  · rw [hunit, hrly]
  · split
    · split
      · rw [completeWait_op op hwr hrly, receiveBaton, hstore, leaveWait_op op hwr hrly, hrly]
      · rw [leaveWait_op op hwr hrly, hrly]
    · rw [wakeWatchers_op op hwr hrly, syncChan_op op hwr, hrly, hrly]

include hwr hrly hstore in
theorem deviceSend_op (hflits : ∀ (t : State) n a, op (fabricFlits t n a) = op t) {source ch image acct : Nat}
    (h : deviceSend s source ch image acct = some t) : op t = op s := by
  obtain ⟨-, h⟩ := Option.ite_none_right_eq_some.mp h
  rw [← Option.some.inj h, putBaton_op op hwr hrly hstore, hflits]

end Batons

/-! ### Block commands -/

section Commands

variable {s t : State} {q n : Nat} {c : BlkCmd} {e : Entry}

theorem blkCmd_key (h : blkCmd s q n = some c) : c.queue = q ∧ c.sseq = n := by
  have := List.find?_some h
  simp only [Bool.and_eq_true, decide_eq_true_eq] at this
  exact this.1

/-- A change of a command that keeps what it is found by is found. -/
theorem blkCmd_updCmd {f : BlkCmd → BlkCmd} (hf : ∀ c, (f c).queue = c.queue ∧ (f c).sseq = c.sseq ∧ (f c).orphan = c.orphan) :
    blkCmd (updCmd s q n f) q n = (blkCmd s q n).map f := by
  refine find?_mapIf _ _ (fun x hx => ?_) _
  obtain ⟨hqueue, hsseq, horphan⟩ := hf x
  rwa [hqueue, hsseq, horphan]

theorem blkCmd_congr (h : t.blk.cmds = s.blk.cmds) : blkCmd t q n = blkCmd s q n := by rw [blkCmd, blkCmd, h]

theorem exec_blkSelfTest (good : Bool) (hrun : stopped s = false) (he : (beginnable s q n 0x34).isSome = true) :
    exec (.blkSelfTest q n good) s = .next (if good then updCmd (begin_ s q n) q n fun c => { c with phase := 1 }
      else finish (begin_ s q n) q n { status := stSelfTestFail, extra := 1 }) := by
  obtain ⟨e, he⟩ := Option.isSome_iff_exists.mp he
  change execBlkSelfTest q n good s = _
  rw [execBlkSelfTest, run_running s _ hrun, he]

theorem exec_verifyDispatch_held (hrun : stopped s = false) (hc : blkCmd s q n = some c) (ho : (openEntry s q n).isSome = true)
    (hheld : c.phase = 0 ∨ c.sent = true ∨ volumeBusy s (blkVolume c.raw) = true ∨ verifyInFlight s (blkVolume c.raw) = true) :
    exec (.verifyDispatch q n) s = .next s := by
  obtain ⟨e, ho⟩ := Option.isSome_iff_exists.mp ho
  change execVerifyDispatch q n s = _
  rw [execVerifyDispatch, run_running s _ hrun, hc, ho]
  exact congrArg _ (if_pos (by rcases hheld with h | h | h | h <;> simp [h]))

theorem exec_verifyDispatch (hrun : stopped s = false) (hc : blkCmd s q n = some c) (ho : (openEntry s q n).isSome = true)
    (hop : blkOp c.raw = 0x34) (hphase : c.phase ≠ 0) (hsent : c.sent = false) (hbusy : volumeBusy s (blkVolume c.raw) = false)
    (hflight : verifyInFlight s (blkVolume c.raw) = false) : exec (.verifyDispatch q n) s = .next (
      let d := nextGen s c
      let k := volTestNext (volRecord s (blkVolume c.raw))
      if c.phase = 1 then sendRequest s d (requestBaton s d 5 0 0 0)
      else sendRequest s d (requestBaton s d 5 k (min (max 1 (s.rd BLK_CFG.seg_blocks)) (volCapacity d.vol - k)) 0)) := by
  obtain ⟨e, ho⟩ := Option.isSome_iff_exists.mp ho
  change execVerifyDispatch q n s = _
  rw [execVerifyDispatch, run_running s _ hrun, hc, ho]
  exact congrArg _ (if_neg (by simp [hop, hphase, hsent, hbusy, hflight]))

/-- The dispatch of a command whose channel grants a credit. -/
theorem sendRequest_granted {b : Nat} {u : State} (h : deviceSend s srcBlock (volChannel c.vol) b (queueAccount s c.queue) = some u) :
    sendRequest s c b =
      let t := updCmd (begin_ u c.queue c.sseq) c.queue c.sseq fun x => { x with sent := true, gen := c.gen }
      blkCount_ { t with blk := { t.blk with gens := Map.set t.blk.gens (c.queue * 256 + c.slot) c.gen } } 0 := by
  rw [sendRequest, h]

theorem verifyDispatch_sends (hrun : stopped s = false) (hc : blkCmd s q n = some c) (ho : openEntry s q n = some e)
    (hop : blkOp c.raw = 0x34) (hphase : c.phase = 1) (hsent : c.sent = false) (hbusy : volumeBusy s (blkVolume c.raw) = false)
    (hflight : verifyInFlight s (blkVolume c.raw) = false) (hgrant : (deviceSend s srcBlock (volChannel c.vol)
      (requestBaton s (nextGen s c) 5 0 0 0) (queueAccount s c.queue)).isSome = true) :
    ∃ t, exec (.verifyDispatch q n) s = .next t ∧ (blkCmd t q n).map BlkCmd.sent = some true ∧
      (blkCmd t q n).map BlkCmd.gen = some (nextGen s c).gen ∧
      t.rd BLK_CNT.count 0 = (s.rd BLK_CNT.count 0 + 1) % 2 ^ 64 ∧ (entryOf t q n).map Entry.begun = some true := by
  obtain ⟨u, hu⟩ := Option.isSome_iff_exists.mp hgrant
  obtain ⟨rfl, rfl⟩ := blkCmd_key hc
  have hentry : entryOf s c.queue c.sseq = some e := (Option.filter_eq_some_iff.mp ho).1
  have hcmds : u.blk.cmds = s.blk.cmds := deviceSend_op (fun t => t.blk.cmds) (by simp) (fun _ _ => rfl) (by simp) (by simp) hu
  have hqueues : u.queues = s.queues := deviceSend_op State.queues (by simp) (fun _ _ => rfl) (by simp) (by simp) hu
  have hcount : u.rd BLK_CNT.count 0 = s.rd BLK_CNT.count 0 := by
    refine deviceSend_op (fun t => t.rd BLK_CNT.count 0) (fun t d v i j hd => State.rd_wr_apart _ _ _ _ _ _ ?_) (fun _ _ => rfl)
      (fun t a bs => rd_memStore _ _ _ _ _ (by decide) (by decide) (by decide)) (fun t k a => rd_fabricFlits _ _ _ _ _ (by decide)) hu
    exact List.all_eq_true.mp (by decide : batonFields.all (fun d => d.apart BLK_CNT.count) = true) d hd
  have hexec := (exec_verifyDispatch hrun hc (by rw [ho]; rfl) hop (by rw [hphase]; decide) hsent hbusy hflight).trans
    (congrArg _ ((if_pos hphase).trans (sendRequest_granted (c := nextGen s c) hu)))
  have hcmd : blkCmd (updCmd (begin_ u c.queue c.sseq) c.queue c.sseq fun x => { x with sent := true, gen := (nextGen s c).gen })
      c.queue c.sseq = some { c with sent := true, gen := (nextGen s c).gen } := by
    rw [blkCmd_updCmd (f := fun x => { x with sent := true, gen := (nextGen s c).gen }) fun x => ⟨rfl, rfl, rfl⟩, blkCmd_congr (t := begin_ u c.queue c.sseq) (s := s) hcmds, hc, Option.map_some]
  have hbegun : entryOf (begin_ u c.queue c.sseq) c.queue c.sseq = some { e with begun := true } :=
    entryOf_begin ((entryOf_congr hqueues).trans hentry)
  refine ⟨_, hexec, ?_, ?_, ?_, ?_⟩
  · rw [blkCount_, blkCmd_congr (congrArg BlkState.cmds (State.count_blk _ _ _ _ _))]
    exact congrArg (Option.map BlkCmd.sent) hcmd
  · rw [blkCount_, blkCmd_congr (congrArg BlkState.cmds (State.count_blk _ _ _ _ _))]
    exact congrArg (Option.map BlkCmd.gen) hcmd
  · rw [blkCount_, State.rd_count_same _ _ _ _ _ (by decide)]
    exact congrArg (fun x => (x + 1) % 2 ^ 64) hcount
  · rw [blkCount_, entryOf_congr (State.count_queues _ _ _ _ _)]
    exact congrArg (Option.map Entry.begun) hbegun

/-! ### Delta records, queues and their states -/

theorem delta_op {α : Type} (op : State → α) (hwr : ∀ (t : State) d v i j, op (t.wr d v i j) = op t)
    (hdeltas : ∀ (t : State) p x, op { t with pseq := p, deltas := x } = op t) (s : State) (kind obj : Nat) (body : Bytes) (acct : Nat) :
    op (delta s kind obj body acct) = op s := by
  unfold delta
  split
  · rw [State.count, hwr, hwr, hdeltas]
  · rfl

theorem rd_delta {d : Desc} (hseq : PAIR_SEQ.pseq.apart d = true) (hcnt : PAIR_CNT.count.apart d = true) (s : State) (kind obj : Nat)
    (body : Bytes) (acct i j : Nat) : (delta s kind obj body acct).rd d i j = s.rd d i j := by
  unfold delta
  split
  · rw [State.rd_count_apart _ _ _ _ _ _ hcnt, State.rd_wr_apart _ _ _ _ _ _ hseq]
    rfl
  · rfl

theorem setQueueState_op {α : Type} (op : State → α) (hwr : ∀ (t : State) d v i j, op (t.wr d v i j) = op t)
    (hdeltas : ∀ (t : State) p x, op { t with pseq := p, deltas := x } = op t)
    (hqueues : ∀ (t : State) x, op { t with queues := x } = op t) (s : State) (k st : Nat) : op (setQueueState s k st) = op s :=
  (hqueues _ _).trans ((delta_op op hwr hdeltas _ _ _ _ _).trans (hwr _ _ _ _ _))

/-- What changes nothing of a queue's entries leaves every entry. -/
theorem entryOf_updQueue (s : State) (k : Nat) {f : QueueInt → QueueInt} (hf : ∀ x, (f x).entries = x.entries) :
    entryOf (updQueue s k f) q n = entryOf s q n := by
  have hqueue : (queueInt (updQueue s k f) q).entries = (queueInt s q).entries := by
    by_cases h : q = k
    · subst h
      exact (congrArg QueueInt.entries (Map.get_upd_same s.queues q f)).trans (hf _)
    · exact congrArg QueueInt.entries (Map.get_upd_other s.queues f h)
  rw [entryOf, hqueue]
  rfl

theorem entryOf_setQueueState (s : State) (k st : Nat) : entryOf (setQueueState s k st) q n = entryOf s q n := by
  have hqueues : (deltaQueue (s.wr WQ_CTX.state st k) k).queues = s.queues :=
    (delta_op State.queues (by simp) (fun _ _ _ => rfl) _ _ _ _ _).trans (State.wr_queues _ _ _ _ _)
  exact (entryOf_updQueue (f := fun x => { x with sbDirty := true }) _ k fun _ => rfl).trans (entryOf_congr hqueues)

theorem queueState_setQueueState {k st : Nat} (hk : WQ_CTX.state.has k 0 = true) (hst : st < 2 ^ WQ_CTX.state.width) : queueState (setQueueState s k st) k = st := by
  have h : queueState (setQueueState s k st) k = (delta (s.wr WQ_CTX.state st k) 0x01 k
      (leBytes 64 (contextImage (s.wr WQ_CTX.state st k) qctxFields k)) ((s.wr WQ_CTX.state st k).rd WQ_CTX.account k)).rd
      WQ_CTX.state k := rfl
  rw [h, rd_delta (by decide) (by decide), State.rd_wr_same _ _ _ _ _ hk, Nat.mod_eq_of_lt hst]

/-- A field that reads other than its reset value is one of its array. -/
theorem has_of_rd {d : Desc} {k : Nat} (h : s.rd d k ≠ d.reset) : d.has k 0 = true := by
  rcases Bool.eq_false_or_eq_true (d.has k 0) with hin | hno
  · exact hin
  · exact absurd (if_neg (ne_true_of_eq_false hno)) h

theorem exec_blkResume (hrun : stopped s = false) (he : beginnable s q n 0x36 = some e) : exec (.blkResume q n) s = .next (
    finish (if queueState (begin_ s q n) (e.at 8 0 16) = qFrozen then setQueueState (begin_ s q n) (e.at 8 0 16) qActive
      else begin_ s q n) q n { status := stOk }) := by
  change execBlkResume q n s = _
  rw [execBlkResume, run_running s _ hrun, he]

theorem blkResume_activates {u : Nat} (hrun : stopped s = false) (he : beginnable s q n 0x36 = some e) (hu : e.at 8 0 16 = u)
    (hfrozen : queueState s u = qFrozen) : ∃ t, exec (.blkResume q n) s = .next t ∧
      (entryOf t q n).bind Entry.outcome = some { status := stOk } ∧ queueState t u = qActive ∧ t.blk = s.blk ∧ t.mem = s.mem ∧
      t.hostMem = s.hostMem ∧ t.links = s.links := by
  obtain ⟨hentry, -, -, hout, hdec⟩ := beginnable_some he
  subst hu
  have hbegun : entryOf (setQueueState (begin_ s q n) (e.at 8 0 16) qActive) q n = some { e with begun := true } := by
    rw [entryOf_setQueueState, entryOf_begin hentry]
  have hkept {α : Type} (op : State → α) (hwr : ∀ (t : State) d v i j, op (t.wr d v i j) = op t)
      (hdeltas : ∀ (t : State) p x, op { t with pseq := p, deltas := x } = op t)
      (hqueues : ∀ (t : State) x, op { t with queues := x } = op t) :
      op (finish (setQueueState (begin_ s q n) (e.at 8 0 16) qActive) q n { status := stOk }) = op s := by
    rw [finish_op op hqueues _ hbegun hdec, setQueueState_op op hwr hdeltas hqueues, begin_op op hqueues]
  have hhas : WQ_CTX.state.has (e.at 8 0 16) 0 = true := has_of_rd (s := s) (by rw [← queueState, hfrozen]; decide)
  refine ⟨_, (exec_blkResume hrun he).trans (congrArg (fun x => Host.Outcome.next (finish x q n { status := stOk })) (if_pos hfrozen)),
    ?_, ?_, hkept State.blk (by simp) (fun _ _ _ => rfl) (fun _ _ => rfl), hkept State.mem (by simp) (fun _ _ _ => rfl) (fun _ _ => rfl),
    hkept State.hostMem (by simp) (fun _ _ _ => rfl) (fun _ _ => rfl), hkept State.links (by simp) (fun _ _ _ => rfl) (fun _ _ => rfl)⟩
  · rw [entryOf_finish _ hbegun hout hdec]
    rfl
  · rw [finish_op (fun t => queueState t (e.at 8 0 16)) (fun _ _ => rfl) _ hbegun hdec, queueState_setQueueState hhas (by decide)]

/-! ### Error logs -/

/-- A range that is translated. -/
theorem withRanges_one {ats : Bool} {r : Nat × Nat × Bool} {ps : List (Nat × Nat)} (k : List (List (Nat × Nat)) → State)
    (hlive : fnLive s (queueFn s q) = true) (hps : translateRange s (queueFn s q) ats r.1 r.2.1 r.2.2 = .ok ps) :
    withRanges s q n ats [r] k = k [ps] := by simp [withRanges, hlive, hps]

/-- The error log `k` emptied, of which `l` has been read. -/
def logEmptied (u : State) (k : Nat) (l : BlkLog) : State :=
  { u with blk := { u.blk with logs := Map.set u.blk.logs k { l with entries := [], lost := 0 } } }

/-- The 512 bytes of an error log. -/
def logImage (l : BlkLog) : Bytes := fitBytes 512 (l.entries.flatMap fun x => leBytes 32 x)

/-- The state once an entry has written an error log to the host. -/
def logWritten (s : State) (q n k : Nat) (ps : List (Nat × Nat)) : State :=
  entryWrite (begin_ (logLines s k (queueAccount s q)) q n) q n ps (logImage (blkLog s k))

theorem exec_blkLogRead {ps : List (Nat × Nat)} (hrun : stopped s = false) (he : beginnable s q n 0x35 = some e)
    (hlive : fnLive s (queueFn s q) = true)
    (hps : translateRange s (queueFn s q) (e.at 8 16 1 = 1) (e.at 0x10 0 64) 512 true = .ok ps) : exec (.blkLogRead q n) s = .next (
      let u := logWritten s q n (e.at 8 0 16) ps
      let l := blkLog s (e.at 8 0 16)
      finish (if e.at 8 17 1 = 1 then logEmptied u (e.at 8 0 16) l else u) q n
        { status := stOk, extra := l.entries.length + (l.lost % 2 ^ 24) <<< 8 }) := by
  change execBlkLogRead q n s = _
  rw [execBlkLogRead, run_running s _ hrun, he]
  exact congrArg Host.Outcome.next (withRanges_one _ hlive hps)

theorem logLines_op {α : Type} (op : State → α) (hop : ∀ (t : State) a w c, op (g6Access t a w c) = op t) (s : State) (k acct : Nat) :
    op (logLines s k acct) = op s := foldl_frame op _ (fun _ _ => hop _ _ _ _) _ _

/-- Data of an entry that goes to one piece of the host's memory. -/
theorem entryWrite_op {α : Type} (op : State → α) (hqueues : ∀ (t : State) x, op { t with queues := x } = op t)
    (hhost : ∀ (t : State) f a bs, op (hostWrite t f a bs) = op t) (hpcie : ∀ (t : State) f k a, op (pcieBytes t f k a) = op t)
    (s : State) (q n : Nat) (r : Nat × Nat) (bs : Bytes) : op (entryWrite s q n [r] bs) = op s := by
  unfold entryWrite
  dsimp only
  split
  · rw [hpcie, writePieces, writePieces, hhost]
  · rw [updEntry_op op hqueues, hpcie, writePieces, writePieces, hhost]

theorem entryOf_entryWrite (r : Nat × Nat) (bs : Bytes) (h : entryOf s q n = some e) :
    ∃ e', entryOf (entryWrite s q n [r] bs) q n = some e' ∧ e'.outcome = e.outcome ∧ e'.decided = e.decided := by
  have hfound : entryOf (pcieBytes (writePieces s (queueFn s q) [r] bs) (queueFn s q) bs.length (queueAccount s q)) q n = some e := by
    rw [entryOf_congr (s := s) (by simp [pcieBytes, pcieActivity, writePieces]), h]
  unfold entryWrite
  dsimp only
  split
  · exact ⟨e, hfound, rfl, rfl⟩
  · rw [entryOf_updEntry, hfound]
    · refine ⟨_, rfl, ?_, ?_⟩ <;> dsimp only <;> split <;> rfl
    · intro e
      split <;> rfl

theorem hostMem_entryWrite {r : Nat × Nat} {bs : Bytes} (hlive : fnLive s (queueFn s q) = true) (hlen : bs.length ≤ r.2) :
    (entryWrite s q n [r] bs).hostMem = storeBytes s.hostMem (hostKey (queueFn s q) r.1) bs := by
  have hwritten : (writePieces s (queueFn s q) [r] bs).hostMem = storeBytes s.hostMem (hostKey (queueFn s q) r.1) bs := by
    rw [writePieces, writePieces, hostWrite_hostMem_live _ _ hlive, List.take_of_length_le hlen]
  unfold entryWrite
  dsimp only
  split
  · simpa [pcieBytes, pcieActivity] using hwritten
  · rw [updEntry_op State.hostMem fun _ _ => rfl]
    simpa [pcieBytes, pcieActivity] using hwritten

theorem blkLog_logEmptied (u : State) (k : Nat) (l : BlkLog) : blkLog (logEmptied u k l) k = { l with entries := [], lost := 0 } :=
  Map.get_set_same _ _ _

theorem beginLog_op {α : Type} (op : State → α) (hqueues : ∀ (t : State) x, op { t with queues := x } = op t)
    (hline : ∀ (t : State) a w c, op (g6Access t a w c) = op t) (k acct : Nat) : op (begin_ (logLines s k acct) q n) = op s := by
  rw [begin_op op hqueues, logLines_op op hline]

theorem logWritten_op {α : Type} (op : State → α) (hqueues : ∀ (t : State) x, op { t with queues := x } = op t)
    (hhost : ∀ (t : State) f a bs, op (hostWrite t f a bs) = op t) (hpcie : ∀ (t : State) f k a, op (pcieBytes t f k a) = op t)
    (hline : ∀ (t : State) a w c, op (g6Access t a w c) = op t) (k : Nat) (r : Nat × Nat) : op (logWritten s q n k [r]) = op s := by
  rw [logWritten, entryWrite_op op hqueues hhost hpcie, beginLog_op op hqueues hline]

theorem entryOf_logWritten (k : Nat) (r : Nat × Nat) (h : entryOf s q n = some e) :
    ∃ e', entryOf (logWritten s q n k [r]) q n = some e' ∧ e'.outcome = e.outcome ∧ e'.decided = e.decided :=
  (entryOf_entryWrite r _ (entryOf_begin ((entryOf_congr (logLines_op State.queues (by simp) s k (queueAccount s q))).trans h))).imp
    fun _ h => h

/-- An error log written to one piece of the host's memory is read there. -/
theorem loadBytes_logWritten (k a : Nat) (hlive : fnLive s (queueFn s q) = true) :
    loadBytes (logWritten s q n k [(a, 512)]).hostMem (hostKey (queueFn s q) a) 512 = logImage (blkLog s k) := by
  have hlen : (logImage (blkLog s k)).length = 512 := fitBytes_length _ _
  have hrd (d : Desc) (hd : PMC_CNT.count.apart d = true) (i j : Nat) :
      (begin_ (logLines s k (queueAccount s q)) q n).rd d i j = s.rd d i j :=
    beginLog_op (fun t => t.rd d i j) (fun _ _ => rfl) (fun _ _ _ _ => rd_g6Access _ _ _ _ _ _ hd) _ _
  have hfn : queueFn (begin_ (logLines s k (queueAccount s q)) q n) q = queueFn s q := by
    rw [queueFn, hrd _ (by decide), hrd _ (by decide), hrd _ (by decide), ← queueFn]
  have hblive : fnLive (begin_ (logLines s k (queueAccount s q)) q n) (queueFn s q) = true := by
    rw [← hlive]
    refine fnLive_congr (fun d hd i j => hrd d ?_ i j) (beginLog_op (fun t => t.hif.fns) (fun _ _ => rfl) (by simp) _ _)
    exact List.all_eq_true.mp (by decide : functionFields.all (PMC_CNT.count.apart ·) = true) d hd
  have hwritten := hostMem_entryWrite (q := q) (n := n) (r := (a, 512)) (hfn.symm ▸ hblive) (Nat.le_of_eq hlen)
  have h := loadBytes_storeBytes_same (begin_ (logLines s k (queueAccount s q)) q n).hostMem (hostKey (queueFn s q) a)
    (logImage (blkLog s k))
  rw [hlen] at h
  rw [logWritten, hwritten, hfn, h]

theorem blkLogRead_clears {u : Nat} (hrun : stopped s = false) (he : beginnable s q n 0x35 = some e) (hu : e.at 8 0 16 = u)
    (hats : e.at 8 16 1 = 0) (hclear : e.at 8 17 1 = 1) (hlive : fnLive s (queueFn s q) = true) :
    ∃ t, exec (.blkLogRead q n) s = .next t ∧ (entryOf t q n).bind Entry.outcome =
        some { status := stOk, extra := (blkLog s u).entries.length + ((blkLog s u).lost % 2 ^ 24) <<< 8 } ∧
      loadBytes t.hostMem (hostKey (queueFn s q) (e.at 0x10 0 64)) 512 =
        fitBytes 512 ((blkLog s u).entries.flatMap fun x => leBytes 32 x) ∧
      (blkLog t u).entries = [] ∧ (blkLog t u).eseq = (blkLog s u).eseq ∧ t.mem = s.mem := by
  obtain ⟨hentry, -, -, hout, hdec⟩ := beginnable_some he
  subst hu
  obtain ⟨e', he', hout', hdec'⟩ := entryOf_logWritten (e.at 8 0 16) (e.at 0x10 0 64, 512) hentry
  have hfound : entryOf (logEmptied (logWritten s q n (e.at 8 0 16) [(e.at 0x10 0 64, 512)]) (e.at 8 0 16) (blkLog s (e.at 8 0 16))) q n =
      some e' := he'
  have hexec := (exec_blkLogRead hrun he hlive (ps := [(e.at 0x10 0 64, 512)]) (by rw [hats]; rfl)).trans
    (congrArg (fun x => Host.Outcome.next (finish x q n _)) (if_pos hclear))
  refine ⟨_, hexec, ?_, ?_, ?_, ?_, ?_⟩
  · rw [entryOf_finish _ hfound (hout'.trans hout) (hdec'.trans hdec)]
    rfl
  · rw [finish_op State.hostMem (fun _ _ => rfl) _ hfound (hdec'.trans hdec)]
    exact loadBytes_logWritten _ _ hlive
  · rw [finish_op (fun t => blkLog t (e.at 8 0 16)) (fun _ _ => rfl) _ hfound (hdec'.trans hdec), blkLog_logEmptied]
  · rw [finish_op (fun t => blkLog t (e.at 8 0 16)) (fun _ _ => rfl) _ hfound (hdec'.trans hdec), blkLog_logEmptied]
  · exact (finish_op State.mem (fun _ _ => rfl) _ hfound (hdec'.trans hdec)).trans
      (logWritten_op State.mem (fun _ _ => rfl) (by simp) (by simp [pcieBytes, pcieActivity]) (by simp) _ _)

/-! ### Volume records -/

section Volumes

variable {who : Initiator}

theorem exec_volumeWrite_absent (hrun : stopped s = false) (hw : writable who BLK_VCMD.go 0 s = true) (hnone : s.areas.blkStage = 0) :
    exec (.volumeWrite who) s = .next (endVcmd s 0 3) :=
  (run_setupWrite hrun hw 1 _).trans (congrArg Host.Outcome.next (if_pos hnone))

theorem exec_volumeWrite_refused (hrun : stopped s = false) (hw : writable who BLK_VCMD.go 0 s = true) (hsome : s.areas.blkStage ≠ 0)
    (hvalid : volValid (s.rd BLK_VCMD_REC.image) = true) (hcap : volCapacity (s.rd BLK_VCMD_REC.image) = 0) :
    exec (.volumeWrite who) s = .next (endVcmd s 0 1) :=
  (run_setupWrite hrun hw 1 _).trans
    (congrArg Host.Outcome.next ((if_neg hsome).trans (if_pos (by rw [hvalid, hcap]; rfl))))

/-- The record that a write stores. -/
def writtenVol (s : State) : Nat := putBits (putBits (s.rd BLK_VCMD_REC.image) 192 2 0) 208 48 0

theorem exec_volumeWrite_good (hrun : stopped s = false) (hw : writable who BLK_VCMD.go 0 s = true) (hsome : s.areas.blkStage ≠ 0)
    (hgood : (volValid (s.rd BLK_VCMD_REC.image) &&
      (decide (volCapacity (s.rd BLK_VCMD_REC.image) = 0) || volReservedBad (s.rd BLK_VCMD_REC.image))) = false)
    (htest : volTest (volRecord s (s.rd BLK_VCMD.volume)) = 0) : exec (.volumeWrite who) s = .next
      (endVcmd (delta (storeVol s (s.rd BLK_VCMD.volume) (writtenVol s) 0) 0x09 (s.rd BLK_VCMD.volume) (leBytes 64 (writtenVol s))) 0 0) :=
  (run_setupWrite hrun hw 1 _).trans
    (congrArg Host.Outcome.next ((if_neg hsome).trans ((if_neg (ne_true_of_eq_false hgood)).trans (if_neg (Classical.not_not.mpr htest)))))

theorem exec_volumeWrite {y : Nat} (hrun : stopped s = false) (hw : writable who BLK_VCMD.go 0 s = true) (hsome : s.areas.blkStage ≠ 0)
    (hgood : (volValid (s.rd BLK_VCMD_REC.image) &&
      (decide (volCapacity (s.rd BLK_VCMD_REC.image) = 0) || volReservedBad (s.rd BLK_VCMD_REC.image))) = false)
    (htest : volTest (volRecord s (s.rd BLK_VCMD.volume)) = 0) (hy : y = putBits (putBits (s.rd BLK_VCMD_REC.image) 192 2 0) 208 48 0) :
    exec (.volumeWrite who) s = .next
      (endVcmd (delta (storeVol s (s.rd BLK_VCMD.volume) y 0) 0x09 (s.rd BLK_VCMD.volume) (leBytes 64 y)) 0 0) := by
  rw [exec_volumeWrite_good hrun hw hsome hgood htest, hy, writtenVol]

theorem exec_volumeRead_absent (hrun : stopped s = false) (hw : writable who BLK_VCMD.go 0 s = true) (hnone : s.areas.blkStage = 0) :
    exec (.volumeRead who) s = .next (endVcmd s 1 3) :=
  (run_setupWrite hrun hw 1 _).trans (congrArg Host.Outcome.next (if_pos hnone))

theorem exec_volumeRead (hrun : stopped s = false) (hw : writable who BLK_VCMD.go 0 s = true) (hsome : s.areas.blkStage ≠ 0) :
    exec (.volumeRead who) s = .next (endVcmd
      ((volLine s (s.rd BLK_VCMD.volume) false 0).wr BLK_VCMD_REC.image (volRecord s (s.rd BLK_VCMD.volume))) 1 0) :=
  (run_setupWrite hrun hw 1 _).trans (congrArg Host.Outcome.next (if_neg hsome))

theorem endVcmd_op {α : Type} (op : State → α) (hwr : ∀ (t : State) d v i j, op (t.wr d v i j) = op t) (s : State) (a r : Nat) :
    op (endVcmd s a r) = op s := by rw [endVcmd, hwr, hwr, hwr]

theorem storeVol_op {α : Type} (op : State → α) (hblk : ∀ (t : State) x, op { t with blk := { t.blk with vols := x } } = op t)
    (hline : ∀ (t : State) a w c, op (g6Access t a w c) = op t) (s : State) (v x acct : Nat) : op (storeVol s v x acct) = op s := by
  rw [storeVol, setVol, hblk, volLine]
  split
  · rfl
  · exact hline _ _ _ _

theorem vols_storeVol (s : State) (v x acct : Nat) :
    (storeVol s v x acct).blk.vols = Map.set (volLine s v true acct).blk.vols v (x % 2 ^ 512) := rfl

theorem volumeWrite_stores (hrun : stopped s = false) (hw : writable who BLK_VCMD.go 0 s = true) (hsome : s.areas.blkStage ≠ 0)
    (hcap : volCapacity (s.rd BLK_VCMD_REC.image) ≠ 0) (hgood : volReservedBad (s.rd BLK_VCMD_REC.image) = false)
    (htest : volTest (volRecord s (s.rd BLK_VCMD.volume)) = 0) : ∃ t, exec (.volumeWrite who) s = .next t ∧
      volRecord t (s.rd BLK_VCMD.volume) = (putBits (putBits (s.rd BLK_VCMD_REC.image) 192 2 0) 208 48 0) % 2 ^ 512 ∧
      t.rd BLK_VCMD.result = 0 ∧ t.rd BLK_VCMD.busy = 0 ∧ t.blk.cmds = s.blk.cmds ∧ t.mem = s.mem ∧ t.hostMem = s.hostMem ∧
      t.links = s.links := by
  have hkept {α : Type} (op : State → α) (hwr : ∀ (t : State) d v i j, op (t.wr d v i j) = op t)
      (hdeltas : ∀ (t : State) p x, op { t with pseq := p, deltas := x } = op t) (u : State) (k : Nat) (bs : Bytes) :
      op (endVcmd (delta u 0x09 k bs) 0 0) = op u := by rw [endVcmd_op op hwr, delta_op op hwr hdeltas]
  have hall {α : Type} (op : State → α) (hwr : ∀ (t : State) d v i j, op (t.wr d v i j) = op t)
      (hdeltas : ∀ (t : State) p x, op { t with pseq := p, deltas := x } = op t)
      (hblk : ∀ (t : State) x, op { t with blk := { t.blk with vols := x } } = op t)
      (hline : ∀ (t : State) a w c, op (g6Access t a w c) = op t) (v x k : Nat) (bs : Bytes) :
      op (endVcmd (delta (storeVol s v x 0) 0x09 k bs) 0 0) = op s := by
    rw [hkept op hwr hdeltas, storeVol_op op hblk hline]
  refine ⟨_, exec_volumeWrite hrun hw hsome (by simp [hcap, hgood]) htest rfl, ?_, ?_, ?_,
    hall (fun t => t.blk.cmds) (by simp) (fun _ _ _ => rfl) (fun _ _ => rfl) (by simp) _ _ _ _,
    hall State.mem (by simp) (fun _ _ _ => rfl) (fun _ _ => rfl) (by simp) _ _ _ _,
    hall State.hostMem (by simp) (fun _ _ _ => rfl) (fun _ _ => rfl) (by simp) _ _ _ _,
    hall State.links (by simp) (fun _ _ _ => rfl) (fun _ _ => rfl) (by simp) _ _ _ _⟩
  · rw [hkept (fun t => volRecord t (s.rd BLK_VCMD.volume)) (by simp [volRecord]) (fun _ _ _ => rfl), volRecord,
      storeVol_op State.areas (fun _ _ => rfl) (by simp), if_neg hsome, vols_storeVol, Map.get_set_same]
  · rw [endVcmd, State.rd_wr_same _ _ _ _ _ (by decide)]
    rfl
  · rw [endVcmd, State.rd_wr_apart _ _ _ _ _ _ (by decide), State.rd_wr_same _ _ _ _ _ (by decide)]
    rfl

end Volumes

/-- Settles O33: a self-test's probe is dispatched over the granted credit, an error log is written to the host before it is cleared,
and a record is stored with test and test_next 0. -/
theorem blockSelfTestsLogsAndVolumes : Obligations.BlockSelfTestsLogsAndVolumes := by
  unfold Obligations.BlockSelfTestsLogsAndVolumes
  refine ⟨?good, ?bad, fun s q n c e hrun hc ho hop hphase hsent hbusy hflight hgrant =>
      verifyDispatch_sends hrun hc ho hop hphase hsent hbusy hflight hgrant,
    fun s q n u e hrun he hu hats hclear hlive => blkLogRead_clears hrun he hu hats hclear hlive,
    fun s q n u e hrun he hu hfrozen => blkResume_activates hrun he hu hfrozen,
    fun s who hrun hw hsome _ hcap hgood htest => volumeWrite_stores hrun hw hsome hcap hgood htest,
    fun s who hrun hw hsome hvalid hcap => exec_volumeWrite_refused hrun hw hsome hvalid hcap,
    fun s who hrun hw hsome => exec_volumeRead hrun hw hsome, ?frozenq, fun s q n hrun he => exec_blkSelfTest true hrun he,
    fun s q n hrun he => exec_blkSelfTest false hrun he, ?later, ?probe, fun s q n c hrun hc ho _ hheld =>
      exec_verifyDispatch_held hrun hc ho hheld, ?cleared, ?kept, ?resumed, ?notFrozen, ?written,
    fun s who hrun hw hnone => exec_volumeWrite_absent hrun hw hnone, fun s who hrun hw hnone => exec_volumeRead_absent hrun hw hnone⟩
  case good =>
    intro s q n c e hrun he hc
    obtain ⟨hentry, -, -, hout, -⟩ := beginnable_some he
    refine ⟨_, exec_blkSelfTest true hrun (by rw [he]; rfl), ?_, ?_, ?_, rfl, rfl, rfl, rfl⟩
    · rw [if_pos rfl, blkCmd_updCmd (f := fun c => { c with phase := 1 }) fun c => ⟨rfl, rfl, rfl⟩,
        blkCmd_congr (t := begin_ s q n) (s := s) rfl, hc]
      rfl
    · exact congrArg (Option.map Entry.begun) (entryOf_begin hentry)
    · exact (congrArg (fun x => Option.bind x Entry.outcome) (entryOf_begin hentry)).trans hout
  case bad =>
    intro s q n e hrun he
    obtain ⟨hentry, -, -, hout, hdec⟩ := beginnable_some he
    have hop {α : Type} (op : State → α) (hop : ∀ (t : State) x, op { t with queues := x } = op t) :=
      finish_begin_op op hop { status := stSelfTestFail, extra := 1 } hentry hdec
    exact ⟨_, exec_blkSelfTest false hrun (by rw [he]; rfl), outcome_finish_begin _ hentry hout hdec, hop State.regs fun _ _ => rfl,
      hop State.mem fun _ _ => rfl, hop State.hostMem fun _ _ => rfl, hop State.links fun _ _ => rfl⟩
  case frozenq =>
    intro s who hrun hr
    change execBlkFrozenqRead who s = _
    rw [execBlkFrozenqRead, run_running s _ hrun, managed, if_pos hr, answer]
    unfold State.wr
    split <;> rfl
  case later =>
    intro s q n c d k hrun hc ho hop hphase hsent hbusy hflight hother hd hk
    subst hd hk
    exact (exec_verifyDispatch hrun hc ho hop hphase hsent hbusy hflight).trans (congrArg Host.Outcome.next (if_neg hother))
  case probe =>
    intro s q n c hrun hc ho hop hphase hsent hbusy hflight
    exact (exec_verifyDispatch hrun hc ho hop (by rw [hphase]; decide) hsent hbusy hflight).trans
      (congrArg Host.Outcome.next (if_pos hphase))
  case cleared =>
    intro s q n e l u ps hrun he hlive hps hclear hl hu
    subst hl hu
    rw [exec_blkLogRead hrun he hlive hps]
    exact congrArg (fun x => Host.Outcome.next (finish x q n _)) (if_pos hclear)
  case kept =>
    intro s q n e l u ps hrun he hlive hps hkeep hl hu
    subst hl hu
    rw [exec_blkLogRead hrun he hlive hps]
    exact congrArg (fun x => Host.Outcome.next (finish x q n _)) (if_neg hkeep)
  case resumed =>
    intro s q n e hrun he hfrozen
    rw [exec_blkResume hrun he, if_pos hfrozen]
  case notFrozen =>
    intro s q n e hrun he hother
    rw [exec_blkResume hrun he, if_neg hother]
  case written =>
    intro s who y hrun hw hsome hgood htest hy
    refine exec_volumeWrite hrun hw hsome ?_ htest hy
    rcases hgood with hfree | ⟨hcap, hgood⟩
    · rw [hfree, Bool.false_and]
    · simp [hcap, hgood]

end Commands

end Sys2Proof.Machine
end

section
/-! SUPPORT. Stage one and recovery (R850 to R869), and the obligation O52 that they settle. -/
namespace Sys2Proof.Machine

section Boot

variable {s : State} {slots : List (Option SlotImage)} {x : SlotImage} {y : Section}

/-! ### Numbers of an image -/

theorem ofLe_fitBytes_lt (n : Nat) (bs : Bytes) : ofLe (fitBytes n bs) < 2 ^ (8 * n) := by
  have h := ofLe_lt (fitBytes n bs)
  rwa [fitBytes_length] at h

theorem field_lt (x : SlotImage) (o n : Nat) : x.field o n < 2 ^ (8 * n) := ofLe_fitBytes_lt n _

theorem sealOf_lt (s : State) (x : SlotImage) : sealOf s x < 2 ^ 256 := ofLe_fitBytes_lt 32 _

theorem ofLe_sha384_lt (bs : Bytes) : ofLe (sha384 bs) < 2 ^ BOOT_MEAS.meas.width :=
  Nat.lt_of_lt_of_eq (ofLe_fitBytes_lt 48 _) (congrArg (2 ^ ·) (by decide))

theorem body_length (x : SlotImage) (y : Section) : (x.body y).length = y.length := fitBytes_length _ _

theorem fitBytes_self (bs : Bytes) : fitBytes bs.length bs = bs := by
  rw [fitBytes, List.take_length, Nat.sub_self, List.replicate_zero, List.append_nil]

/-- The seal rests on the device secret and the root hashes alone. -/
theorem sealOf_congr {t : State} (huds : t.boot.uds = s.boot.uds) (hhashes : t.boot.hashes = s.boot.hashes) :
    sealOf t x = sealOf s x := by
  rw [sealOf, rootHash, huds, hhashes]
  rfl

/-! ### What the ROM records -/

/-- The attempt that booted is the last one recorded. -/
def WonLast (c : Scan) : Prop := ∀ i x, c.won = some (i, x) → ∃ pre, c.codes = pre ++ [(i, 1, x.seq)]

theorem wonLast_trySlot (s : State) (p : Nat × SlotImage) {c : Scan} (h : WonLast c) : WonLast (trySlot s c p) := by
  unfold trySlot
  split
  · exact h
  · intro i x hwon
    dsimp only at hwon ⊢
    split at hwon
    case isTrue hr =>
      cases hwon
      exact ⟨c.codes, by rw [hr]⟩
    case isFalse => cases hwon

theorem foldl_wonLast {α : Type} (f : Scan → α → Scan) (hf : ∀ c a, WonLast c → WonLast (f c a)) (l : List α) (c : Scan)
    (h : WonLast c) : WonLast (l.foldl f c) := by
  induction l generalizing c with
  | nil => exact h
  | cons a l ih => exact ih _ (hf _ _ h)

theorem wonLast_scanBoot (s : State) (slots : List (Option SlotImage)) : WonLast (scanBoot s slots) := by
  refine foldl_wonLast _ (fun c f h => ?_) _ _ fun i x hwon => nomatch hwon
  unfold scanFlash
  split
  · exact h
  case isFalse hnone =>
    refine foldl_wonLast _ (fun c p h => wonLast_trySlot s p h) _ _ fun i x hwon => ?_
    exact absurd (Option.isSome_of_eq_some hwon) hnone

theorem recordScan_op {α : Type} (op : State → α) (hwr : ∀ (t : State) d v i j, op (t.wr d v i j) = op t) (c : Scan) :
    op (recordScan s c) = op s := foldl_frame op _ (fun t p => by rw [hwr, hwr]) _ _

theorem rd_recordScan {e : Desc} (hcode : BOOT_ATTEMPT.code.apart e = true) (hseq : BOOT_ATTEMPT.seq.apart e = true) (c : Scan) (i : Nat) :
    (recordScan s c).rd e i = s.rd e i :=
  foldl_frame (fun t => t.rd e i) _ (fun t p => by rw [State.rd_wr_apart _ _ _ _ _ _ hseq, State.rd_wr_apart _ _ _ _ _ _ hcode]) _ _

theorem rd_code_recordScan {i : Nat} (hi : i < 4) (hwon : (scanBoot s slots).won = some (i, x)) :
    (recordScan s (scanBoot s slots)).rd BOOT_ATTEMPT.code i = 1 := by
  obtain ⟨pre, hcodes⟩ := wonLast_scanBoot s slots i x hwon
  rw [recordScan, hcodes, List.foldl_append, List.foldl_cons, List.foldl_nil, State.rd_wr_apart _ _ _ _ _ _ (by decide),
    State.rd_wr_same _ _ _ _ _ (by simp [Desc.has, BOOT_ATTEMPT.code, hi])]
  rfl

/-! ### Releasing stage one -/

/-- The two measurements of an image's manifest and its STAGE1 section. -/
def measured (s : State) (x : SlotImage) (y : Section) : State := extendMeas (extendMeas s 0 (sha384 x.manifest)) 1 y.digest

/-- The section at its load address, with the seal computed. -/
def loaded (s : State) (x : SlotImage) (y : Section) : State :=
  memStore ((measured s x y).wr BOOT_SEAL.seal (sealOf (measured s x y) x)) y.load (x.body y)

/-- What BOOT_STATUS says of an image. -/
def named (s : State) (x : SlotImage) (source slot : Nat) : State :=
  ((((s.wr BOOT_STATUS.source source).wr BOOT_STATUS.slot slot).wr BOOT_STATUS.svn x.svn).wr BOOT_STATUS.key_index x.key).wr
    BOOT_STATUS.seq x.seq

/-- Stage one runs at an address. -/
def started (s : State) (pc : Nat) : State :=
  let u := setPhase s phStart
  syncCrs (releaseSteward (if u.boot.flags.testBit 2 then u.wr BOOT_LOCK.debug_lock 1 else u) 0 pc)

theorem launchImage_found (h : x.find 1 = some y) (source slot : Nat) :
    launchImage s x source slot = started (named (loaded s x y) x source slot) y.entry := by
  rw [launchImage, h]
  rfl

theorem debugLocked_op {α : Type} (op : State → α) (hwr : ∀ (t : State) d v i j, op (t.wr d v i j) = op t) (c : Bool) (s : State) :
    op (if c then s.wr BOOT_LOCK.debug_lock 1 else s) = op s := by
  split
  · exact hwr _ _ _ _ _
  · rfl

theorem started_op {α : Type} (op : State → α) (hwr : ∀ (t : State) d v i j, op (t.wr d v i j) = op t)
    (hraise : ∀ t n, op (raise t n) = op t) (hrly : ∀ (t : State) r, op { t with rly := r } = op t) (pc : Nat) :
    op (started s pc) = op s := by
  rw [started, syncCrs_op op hwr, releaseSteward_op op hrly, debugLocked_op op hwr, setPhase_op op hwr hraise]

theorem stewardInt_started (pc : Nat) : (stewardInt (started s pc) 0).running = true ∧ (stewardInt (started s pc) 0).user = false := by
  have h := stewardInt_releaseSteward (s := if (setPhase s phStart).boot.flags.testBit 2 then (setPhase s phStart).wr BOOT_LOCK.debug_lock 1
    else setPhase s phStart) (k := 0) pc
  rw [started, syncCrs_op (fun t => stewardInt t 0) (by simp [stewardInt]), h]
  exact ⟨rfl, rfl⟩

theorem agentPc_started (pc : Nat) : agentPc (started s pc) 512 = pc % 2 ^ 48 := by
  rw [started, syncCrs_op (fun t => agentPc t 512) (by simp [agentPc, agentInt])]
  exact agentPc_releaseSteward (k := 0) pc

theorem rd_started {e : Desc}
    (he : [BOOT_STATUS.phase, IRQ_SRC.asserted, IRQ_MSIX_BAD.count, BOOT_LOCK.debug_lock, DEV_STATUS.crs].all (·.apart e) = true)
    (pc i : Nat) : (started s pc).rd e i = s.rd e i := by
  simp only [List.all_cons, List.all_nil, Bool.and_true, Bool.and_eq_true] at he
  obtain ⟨hphase, hbit, hbad, hlock, hcrs⟩ := he
  rw [started, rd_syncCrs hcrs, releaseSteward_op (fun t => t.rd e i) fun _ _ => rfl]
  split
  · rw [State.rd_wr_apart _ _ _ _ _ _ hlock, rd_setPhase hphase hbit hbad]
  · exact rd_setPhase hphase hbit hbad _ _

theorem rd_phase_started (pc : Nat) : (started s pc).rd BOOT_STATUS.phase = 1 := by
  rw [started, rd_syncCrs (by decide), releaseSteward_op (fun t => t.rd BOOT_STATUS.phase) fun _ _ => rfl]
  split
  · rw [State.rd_wr_apart _ _ _ _ _ _ (by decide), phStart, rd_setPhase_phase _ (by decide)]
  · rw [phStart, rd_setPhase_phase _ (by decide)]

theorem named_op {α : Type} (op : State → α) (hwr : ∀ (t : State) d v i j, op (t.wr d v i j) = op t) (source slot : Nat) :
    op (named s x source slot) = op s := by rw [named, hwr, hwr, hwr, hwr, hwr]

theorem measured_op {α : Type} (op : State → α) (hwr : ∀ (t : State) d v i j, op (t.wr d v i j) = op t) : op (measured s x y) = op s := by
  rw [measured, extendMeas, extendMeas, hwr, hwr]

theorem loaded_op {α : Type} (op : State → α) (hwr : ∀ (t : State) d v i j, op (t.wr d v i j) = op t)
    (hstore : ∀ (t : State) a bs, op (memStore t a bs) = op t) : op (loaded s x y) = op s := by
  rw [loaded, hstore, hwr, measured_op op hwr]

/-- A part of the state that no register, no memory and no agent is in is kept by a launch. -/
theorem launchImage_op {α : Type} (op : State → α) (hwr : ∀ (t : State) d v i j, op (t.wr d v i j) = op t)
    (hraise : ∀ t n, op (raise t n) = op t) (hrly : ∀ (t : State) r, op { t with rly := r } = op t)
    (hstore : ∀ (t : State) a bs, op (memStore t a bs) = op t) (source slot : Nat) : op (launchImage s x source slot) = op s := by
  cases h : x.find 1 with
  | none => rw [launchImage, h]
  | some y => rw [launchImage_found h, started_op op hwr hraise hrly, named_op op hwr, loaded_op op hwr hstore]

/-- The fields that a launch writes. -/
def launchFields : List Desc :=
  [BOOT_MEAS.meas, BOOT_SEAL.seal, BOOT_STATUS.source, BOOT_STATUS.slot, BOOT_STATUS.svn, BOOT_STATUS.key_index, BOOT_STATUS.seq,
    BOOT_STATUS.phase, IRQ_SRC.asserted, IRQ_MSIX_BAD.count, DEV_DET_COUNT.failed, BOOT_LOCK.debug_lock, DEV_STATUS.crs]

theorem rd_loaded {e : Desc} (hmeas : BOOT_MEAS.meas.apart e = true) (hseal : BOOT_SEAL.seal.apart e = true)
    (hbit : IRQ_SRC.asserted.apart e = true) (hbad : IRQ_MSIX_BAD.count.apart e = true) (hdet : DEV_DET_COUNT.failed.apart e = true)
    (i : Nat) : (loaded s x y).rd e i = s.rd e i := by
  rw [loaded, rd_memStore _ _ _ _ _ hbit hbad hdet, State.rd_wr_apart _ _ _ _ _ _ hseal, measured, extendMeas,
    State.rd_wr_apart _ _ _ _ _ _ hmeas, extendMeas, State.rd_wr_apart _ _ _ _ _ _ hmeas]

theorem rd_launchImage {e : Desc} (he : launchFields.all (·.apart e) = true) (source slot i : Nat) :
    (launchImage s x source slot).rd e i = s.rd e i := by
  cases h : x.find 1 with
  | none => rw [launchImage, h]
  | some y =>
    simp only [launchFields, List.all_cons, List.all_nil, Bool.and_true, Bool.and_eq_true] at he
    obtain ⟨hmeas, hseal, hsource, hslot, hsvn, hkey, hseq, hphase, hbit, hbad, hdet, hlock, hcrs⟩ := he
    rw [launchImage_found h, rd_started (by simp [hphase, hbit, hbad, hlock, hcrs]), named, State.rd_wr_apart _ _ _ _ _ _ hseq,
      State.rd_wr_apart _ _ _ _ _ _ hkey, State.rd_wr_apart _ _ _ _ _ _ hsvn, State.rd_wr_apart _ _ _ _ _ _ hslot,
      State.rd_wr_apart _ _ _ _ _ _ hsource, rd_loaded hmeas hseal hbit hbad hdet]

/-- What a launch leaves of an image whose STAGE1 section is found. -/
structure Launched (s : State) (x : SlotImage) (y : Section) (source slot : Nat) (t : State) : Prop where
  source : t.rd BOOT_STATUS.source = source
  slot : t.rd BOOT_STATUS.slot = slot
  running : (stewardInt t 0).running = true
  supervisor : (stewardInt t 0).user = false
  pc : agentPc t 512 = y.entry % 2 ^ 48
  section_ : memLoad t y.load y.length = fitBytes y.length (x.body y)
  phase : t.rd BOOT_STATUS.phase = 1
  svn : t.rd BOOT_STATUS.svn = x.svn
  key : t.rd BOOT_STATUS.key_index = x.key
  seq : t.rd BOOT_STATUS.seq = x.seq
  sealed : t.rd BOOT_SEAL.seal = sealOf s x

theorem Launched.of_seal {s' : State} {source slot : Nat} {t : State} (hl : Launched s x y source slot t) (h : sealOf s x = sealOf s' x) :
    Launched s' x y source slot t := { hl with sealed := hl.sealed.trans h }

theorem launched (h : x.find 1 = some y) {source slot : Nat} (hsource : source < 8) (hslot : slot < 2) :
    Launched s x y source slot (launchImage s x source slot) := by
  rw [launchImage_found h]
  obtain ⟨hrunning, huser⟩ := stewardInt_started (s := named (loaded s x y) x source slot) y.entry
  refine ⟨?_, ?_, hrunning, huser, agentPc_started _, ?_, rd_phase_started _, ?_, ?_, ?_, ?_⟩
  · rw [rd_started (by decide), named]
    simp (disch := decide) only [State.rd_wr_apart, State.rd_wr_same]
    exact Nat.mod_eq_of_lt hsource
  · rw [rd_started (by decide), named]
    simp (disch := decide) only [State.rd_wr_apart, State.rd_wr_same]
    exact Nat.mod_eq_of_lt hslot
  · rw [started_op (fun t => memLoad t y.load y.length) (by simp [memLoad]) (by simp [memLoad]) (fun _ _ => rfl),
      named_op (fun t => memLoad t y.load y.length) (by simp [memLoad]), memLoad, loaded, memStore_mem]
    have hlen := body_length x y
    rw [← hlen, loadBytes_storeBytes_same, fitBytes_self]
  · rw [rd_started (by decide), named]
    simp (disch := decide) only [State.rd_wr_apart, State.rd_wr_same]
    exact Nat.mod_eq_of_lt (field_lt x 0x0C 1)
  · rw [rd_started (by decide), named]
    simp (disch := decide) only [State.rd_wr_apart, State.rd_wr_same]
    exact Nat.mod_eq_of_lt (Nat.mod_lt _ (by decide))
  · rw [rd_started (by decide), named, State.rd_wr_same _ _ _ _ _ (by decide)]
    exact Nat.mod_eq_of_lt (field_lt x 0x10 4)
  · rw [rd_started (by decide), named]
    simp (disch := decide) only [State.rd_wr_apart]
    rw [loaded, rd_memStore _ _ _ _ _ (by decide) (by decide) (by decide), State.rd_wr_same _ _ _ _ _ (by decide),
      sealOf_congr (measured_op (fun t => t.boot.uds) (by simp)) (measured_op (fun t => t.boot.hashes) (by simp))]
    exact Nat.mod_eq_of_lt (sealOf_lt s x)

/-- The measurements that a launch extends. -/
theorem rd_meas_launchImage (h : x.find 1 = some y) (source slot : Nat) :
    (launchImage s x source slot).rd BOOT_MEAS.meas 0 = ofLe (sha384 (leBytes 48 (s.rd BOOT_MEAS.meas 0) ++ sha384 x.manifest)) ∧
      (launchImage s x source slot).rd BOOT_MEAS.meas 1 = ofLe (sha384 (leBytes 48 (s.rd BOOT_MEAS.meas 1) ++ y.digest)) := by
  have hframe (i : Nat) : (launchImage s x source slot).rd BOOT_MEAS.meas i = (measured s x y).rd BOOT_MEAS.meas i := by
    rw [launchImage_found h, rd_started (by decide), named]
    simp (disch := decide) only [State.rd_wr_apart]
    rw [loaded, rd_memStore _ _ _ _ _ (by decide) (by decide) (by decide), State.rd_wr_apart _ _ _ _ _ _ (by decide)]
  constructor
  · rw [hframe, measured, extendMeas, State.rd_wr_member _ _ (by decide) (by decide), extendMeas,
      State.rd_wr_same _ _ _ _ _ (by decide), Nat.mod_eq_of_lt (ofLe_sha384_lt _)]
  · rw [hframe, measured, extendMeas, State.rd_wr_same _ _ _ _ _ (by decide), Nat.mod_eq_of_lt (ofLe_sha384_lt _), extendMeas,
      State.rd_wr_member _ _ (by decide) (by decide)]

/-! ### The configuration record and RECOVERY -/

theorem applyRecord_eq (s : State) (x : SlotImage) : ∃ a pfs record, applyRecord s x = putLayout { s with boot := { s.boot with
    record := record } } a pfs := by
  unfold applyRecord
  split <;> exact ⟨_, _, _, rfl⟩

theorem applyRecord_op {α : Type} (op : State → α) (hwr : ∀ (t : State) d v i j, op (t.wr d v i j) = op t)
    (hrecord : ∀ (t : State) a r, op { t with boot := { t.boot with record := r }, areas := a } = op t) :
    op (applyRecord s x) = op s := by
  obtain ⟨a, pfs, record, h⟩ := applyRecord_eq s x
  rw [h, putLayout_op op hwr]
  exact hrecord s a record

theorem rd_applyRecord {e : Desc} (he : recordFields.all (·.apart e) = true) (hlock : (lockField .hif).apart e = true) (i : Nat) :
    (applyRecord s x).rd e i = s.rd e i := by
  obtain ⟨a, pfs, record, h⟩ := applyRecord_eq s x
  rw [h, rd_putLayout he hlock]
  rfl

/-- The fields of another function's record are its own. -/
theorem rd_putPfCfg_other {e : Desc} (he : e ∈ recordFields) {p : Nat} (hp : p ∈ (List.range 8).tail) (v : Nat) :
    (putPfCfg s p v).rd e 0 = s.rd e 0 := by
  have hkeys : ∀ d ∈ recordFields, ∀ e ∈ recordFields, ∀ p ∈ (List.range 8).tail, e.key 0 0 ≠ d.key p 0 := by decide
  exact foldl_frame_mem (fun t : State => t.rd e 0) _ _ (fun t d hd => State.rd_wr_other _ _ _ _ _ _ _ _ (hkeys d hd e he p hp)) _

/-- The image of PF 0 stands in its fields. -/
theorem rd_putLayout_pf0 {e : Desc} (he : e ∈ recordFields) (s : State) (a : Areas) (v : Nat) (pfs : List Nat) :
    (putLayout s a (v :: pfs)).rd e 0 = (putPfCfg { s with areas := a } 0 v).rd e 0 := by
  have hlock : (lockField .hif).apart e = true :=
    List.all_eq_true.mp (by decide : recordFields.all (fun e => (lockField .hif).apart e) = true) e he
  have hrange : List.range 8 = 0 :: (List.range 8).tail := rfl
  rw [putLayout, State.rd_wr_apart _ _ _ _ _ _ hlock, hrange, List.foldl_cons]
  exact foldl_frame_mem (fun t : State => t.rd e 0) _ _ (fun t p hp => rd_putPfCfg_other he hp _) _

theorem rd_recoveryDefaults {e : Desc} (he : e ∈ recordFields) :
    (recoveryDefaults s).rd e 0 = (putPfCfg { s with boot := { s.boot with record := [] }, areas := {} } 0 (1 + 16 <<< 38)).rd e 0 :=
  rd_putLayout_pf0 he _ _ _ _

/-- The recovery defaults of PF 0 (R865). -/
theorem rd_enterRecovery_pf0 : (enterRecovery s).rd HIF_PF_CFG.enable 0 = 1 ∧ (enterRecovery s).rd HIF_PF_CFG.link 0 = 0 ∧
    (enterRecovery s).rd HIF_PF_CFG.total_vfs 0 = 0 ∧ (enterRecovery s).rd HIF_PF_CFG.bar4_log2 0 = 0 ∧
    (enterRecovery s).rd HIF_PF_CFG.pf_vec 0 = 16 := by
  have hframe (e : Desc) (he : e ∈ recordFields) : (enterRecovery s).rd e 0 = (recoveryDefaults s).rd e 0 := by
    have hapart : ∀ e ∈ recordFields, (DEV_STATUS.crs.apart e && BOOT_STATUS.phase.apart e && IRQ_SRC.asserted.apart e &&
      IRQ_MSIX_BAD.count.apart e) = true := by decide
    have h := hapart e he
    simp only [Bool.and_eq_true] at h
    obtain ⟨⟨⟨hcrs, hphase⟩, hbit⟩, hbad⟩ := h
    rw [enterRecovery, rd_syncCrs hcrs, rd_setPhase hphase hbit hbad]
  refine ⟨?_, ?_, ?_, ?_, ?_⟩
  all_goals rw [hframe _ (by simp [recordFields]), rd_recoveryDefaults (by simp [recordFields]), putPfCfg]
  all_goals simp (disch := decide) only [List.foldl_cons, List.foldl_nil, State.rd_wr_apart, State.rd_wr_same]
  all_goals decide

theorem rd_lock_enterRecovery : (enterRecovery s).rd (lockField .hif) = 1 := by
  rw [enterRecovery, rd_syncCrs (by decide), rd_setPhase (by decide) (by decide) (by decide), recoveryDefaults, putLayout,
    State.rd_wr_same _ _ _ _ _ (by decide)]
  rfl

theorem enterRecovery_areas : (enterRecovery s).areas = {} := by
  rw [enterRecovery, syncCrs_op State.areas (by simp), setPhase_op State.areas (by simp) (by simp), recoveryDefaults,
    putLayout_op State.areas (by simp)]

theorem rd_crs_enterRecovery (hready : s.rd DEV_STATUS.hw_ready = 1) : (enterRecovery s).rd DEV_STATUS.crs = 0 := by
  have hon : (setPhase (recoveryDefaults s) phRecovery).on DEV_STATUS.hw_ready = true := by
    refine on_of_rd_one ?_
    rw [rd_setPhase (by decide) (by decide) (by decide), recoveryDefaults, rd_putLayout (by decide) (by decide)]
    exact hready
  have hphase : bootPhase (setPhase (recoveryDefaults s) phRecovery) = 4 := rd_setPhase_phase 4 (by decide)
  rw [enterRecovery, syncCrs, hon, hphase, if_pos (by decide), State.rd_wr_same _ _ _ _ _ (by decide)]
  rfl

/-! ### The commands -/

theorem exec_stage1Release_idle (hrun : stopped s = false) (hidle : romRuns s = false) : exec (.stage1Release slots) s = .next s := by
  change execStage1Release slots s = _
  rw [execStage1Release, run_running s _ hrun, hidle]
  rfl

theorem exec_stage1Release_none (hrun : stopped s = false) (hwon : (scanBoot s slots).won = none) :
    exec (.stage1Release slots) s = .next s := by
  change execStage1Release slots s = _
  rw [execStage1Release, run_running s _ hrun]
  dsimp only
  rw [hwon, ite_self]

theorem exec_stage1Release {i : Nat} (hrun : stopped s = false) (hrom : romRuns s = true) (hwon : (scanBoot s slots).won = some (i, x)) :
    exec (.stage1Release slots) s = .next (launchImage (applyRecord (recordScan s (scanBoot s slots)) x) x (i / 2) (i % 2)) := by
  change execStage1Release slots s = _
  rw [execStage1Release, run_running s _ hrun, hrom]
  dsimp only
  rw [hwon]
  rfl

theorem exec_recoveryEntry_idle (hrun : stopped s = false) (hidle : romRuns s = false) : exec (.recoveryEntry slots) s = .next s := by
  change execRecoveryEntry slots s = _
  rw [execRecoveryEntry, run_running s _ hrun, hidle]
  rfl

theorem exec_recoveryEntry (hrun : stopped s = false) (hrom : romRuns s = true) (hwon : (scanBoot s slots).won = none) :
    exec (.recoveryEntry slots) s = .next (enterRecovery (recordScan s (scanBoot s slots))) := by
  change execRecoveryEntry slots s = _
  rw [execRecoveryEntry, run_running s _ hrun, hrom]
  dsimp only
  rw [hwon, Bool.not_true, if_neg Bool.false_ne_true, Option.isSome_none, if_neg Bool.false_ne_true]

/-- A write of the registers of a recovery image is open to whoever reaches them, in every phase. -/
theorem setupWrite_recovery {who : Initiator} (value : Nat) (f : State → State)
    (hreach : reaches who (BOOT_RCV_CTL.len.key 0 0 / 8) = true) (hstandby : standby s = false) (hmirrors : mirrors s = false) :
    setupWrite BOOT_RCV_CTL.len 0 value who s f = f s := by
  have hopen : recoveryShut s (BOOT_RCV_CTL.len.key 0 0 / 32 * 4) = false := by
    rw [recoveryShut, show (!(decide (0xF00700 ≤ BOOT_RCV_CTL.len.key 0 0 / 32 * 4) &&
      decide (BOOT_RCV_CTL.len.key 0 0 / 32 * 4 < 0xF00718))) = false by decide, Bool.and_false]
  rw [setupWrite, if_pos hreach]
  cases who with
  | host fn =>
    rw [barWrite, hopen, if_neg (by decide), hstandby, if_neg (by decide), ite_eq_right_iff.mpr fun h => absurd h (by decide)]
    rw [deltaConfig, delta_alone _ _ _ _ _ hmirrors]
  | steward k => rfl
  | relay k => rfl

/-- The image that a read of some bytes brings. -/
def readImage (img : SlotImage) (len : Nat) : SlotImage := { img with bytes := fitBytes len img.bytes }

theorem exec_recoveryRead {who : Initiator} {len : Nat} {img : SlotImage} (ok : Bool) (hrun : stopped s = false)
    (hreach : reaches who (BOOT_RCV_CTL.len.key 0 0 / 8) = true) (hstandby : standby s = false) (hmirrors : mirrors s = false)
    (hphase : s.rd BOOT_STATUS.phase = 4) (hpcie : pcieRecovers s = true) (hlen : len < 2 ^ 25) :
    exec (.recoveryRead who len ok img) s = .next (
      if slotBytes < len then s.wr (lockedWriteField .boot) 1
      else if !fnLive s 0 || !ok then finishRecovery (s.wr BOOT_RCV_CTL.len len) 2 11 (readImage img len)
      else finishRecovery (memStore (s.wr BOOT_RCV_CTL.len len) sramBase (readImage img len).bytes) 2
        (checkImage (s.wr BOOT_RCV_CTL.len len) (readImage img len)) (readImage img len)) := by
  change execRecoveryRead who len ok img s = _
  have hlive : fnLive (s.wr BOOT_RCV_CTL.len len) 0 = fnLive s 0 := fnLive_wr (by decide) 0
  have hsize : len % 2 ^ 25 = len := Nat.mod_eq_of_lt hlen
  rw [execRecoveryRead, run_running s _ hrun, setupWrite_recovery _ _ hreach hstandby hmirrors,
    if_neg (by simp [bootPhase, hphase, phRecovery, hpcie])]
  simp only [hsize, hlive, readImage]

/-- The blocks that the ROM takes over the UART (R867). -/
theorem uartBlock_good {type crc : Nat} {data : Bytes} (f : State → State) (hphase : s.rd BOOT_STATUS.phase = 4)
    (huart : uartRecovers s = true) (hlen : data.length ≤ 4096) (hcrc : crc16 (leBytes 1 type ++ leBytes 2 data.length ++ data) = crc) :
    uartBlock type data crc s f = f s := by
  rw [uartBlock, if_neg (by simp [bootPhase, hphase, phRecovery, huart]), if_neg (by omega), if_neg (Classical.not_not.mpr hcrc)]

/-- The result of a recovery image. -/
def recovered (s : State) (source code : Nat) : State :=
  ((s.wr BOOT_RCV_STAT.code code).wr BOOT_RCV_STAT.source source).countSat BOOT_RCV_STAT.attempts

theorem recovered_op {α : Type} (op : State → α) (hwr : ∀ (t : State) d v i j, op (t.wr d v i j) = op t) (source code : Nat) :
    op (recovered s source code) = op s := by rw [recovered, State.countSat, hwr, hwr, hwr]

theorem finishRecovery_failed {code : Nat} (hcode : code ≠ 1) (source : Nat) (x : SlotImage) :
    finishRecovery s source code x = recovered s source code := if_neg hcode

theorem finishRecovery_passed (source : Nat) (x : SlotImage) :
    finishRecovery s source 1 x = launchImage (recovered s source 1) x source 0 := rfl

/-- The registers that a checked recovery image leaves. -/
theorem rd_finishRecovery {source code : Nat} (x : SlotImage) (hcode : code < 256) (hsource : source < 256) :
    (finishRecovery s source code x).rd BOOT_RCV_STAT.code = code ∧
      (finishRecovery s source code x).rd BOOT_RCV_STAT.source = source ∧
      (finishRecovery s source code x).rd BOOT_RCV_STAT.attempts = min 65535 (s.rd BOOT_RCV_STAT.attempts + 1) := by
  have hframe (e : Desc) (he : launchFields.all (·.apart e) = true) : (finishRecovery s source code x).rd e =
      (recovered s source code).rd e := by
    unfold finishRecovery
    dsimp only
    split
    · exact rd_launchImage he _ _ _
    · rfl
  refine ⟨?_, ?_, ?_⟩
  · rw [hframe _ (by decide), recovered, State.rd_countSat_apart _ _ _ _ _ _ (by decide), State.rd_wr_apart _ _ _ _ _ _ (by decide),
      State.rd_wr_same _ _ _ _ _ (by decide)]
    exact Nat.mod_eq_of_lt hcode
  · rw [hframe _ (by decide), recovered, State.rd_countSat_apart _ _ _ _ _ _ (by decide), State.rd_wr_same _ _ _ _ _ (by decide)]
    exact Nat.mod_eq_of_lt hsource
  · rw [hframe _ (by decide), recovered, State.rd_countSat_same _ _ _ _ _ (by decide), State.rd_wr_apart _ _ _ _ _ _ (by decide),
      State.rd_wr_apart _ _ _ _ _ _ (by decide)]
    rfl

theorem checkImage_badHeader (h : x.headerOk = false) : checkImage s x = 3 := by rw [checkImage, h]; rfl

/-- A recovery image that passes, read or received. -/
theorem launched_recovered (h : x.find 1 = some y) {source : Nat} (hsource : source < 8) :
    Launched s x y source 0 (finishRecovery s source 1 x) := by
  have hl := launched (s := recovered s source 1) h hsource (show 0 < 2 by decide)
  rw [finishRecovery_passed]
  have hseal : sealOf (recovered s source 1) x = sealOf s x := sealOf_congr (recovered_op (fun t => t.boot.uds) (by simp) _ _)
    (recovered_op (fun t => t.boot.hashes) (by simp) _ _)
  exact hl.of_seal hseal

theorem finishRecovery_passed_op {α : Type} (op : State → α) (hwr : ∀ (t : State) d v i j, op (t.wr d v i j) = op t)
    (hraise : ∀ t n, op (raise t n) = op t) (hrly : ∀ (t : State) r, op { t with rly := r } = op t)
    (hstore : ∀ (t : State) a bs, op (memStore t a bs) = op t) (source : Nat) : op (finishRecovery s source 1 x) = op s := by
  rw [finishRecovery_passed, launchImage_op op hwr hraise hrly hstore, recovered_op op hwr]

/-! ### The clauses -/

theorem stage1_boots {i : Nat} (hrun : stopped s = false) (hrom : romRuns s = true) (hwon : (scanBoot s slots).won = some (i, x))
    (hi : i < 4) (h : x.find 1 = some y) : ∃ t, exec (.stage1Release slots) s = .next t ∧ Launched s x y (i / 2) (i % 2) t ∧
      t.rd BOOT_ATTEMPT.code i = 1 ∧
      t.rd BOOT_MEAS.meas 0 = ofLe (sha384 (leBytes 48 (s.rd BOOT_MEAS.meas 0) ++ sha384 x.manifest)) ∧
      t.rd BOOT_MEAS.meas 1 = ofLe (sha384 (leBytes 48 (s.rd BOOT_MEAS.meas 1) ++ y.digest)) ∧ t.hostMem = s.hostMem := by
  have hkept {α : Type} (op : State → α) (hwr : ∀ (t : State) d v i j, op (t.wr d v i j) = op t)
      (hrecord : ∀ (t : State) a r, op { t with boot := { t.boot with record := r }, areas := a } = op t) :
      op (applyRecord (recordScan s (scanBoot s slots)) x) = op s := by rw [applyRecord_op op hwr hrecord, recordScan_op op hwr]
  have hmeas (k : Nat) : (applyRecord (recordScan s (scanBoot s slots)) x).rd BOOT_MEAS.meas k = s.rd BOOT_MEAS.meas k := by
    rw [rd_applyRecord (by decide) (by decide), rd_recordScan (by decide) (by decide)]
  have hl := launched (s := applyRecord (recordScan s (scanBoot s slots)) x) h (source := i / 2) (slot := i % 2) (by omega) (by omega)
  have hseal := sealOf_congr (x := x) (hkept (fun t => t.boot.uds) (by simp) fun _ _ _ => rfl)
    (hkept (fun t => t.boot.hashes) (by simp) fun _ _ _ => rfl)
  obtain ⟨hmeas0, hmeas1⟩ := rd_meas_launchImage (s := applyRecord (recordScan s (scanBoot s slots)) x) h (i / 2) (i % 2)
  rw [hmeas] at hmeas0 hmeas1
  refine ⟨_, exec_stage1Release hrun hrom hwon, hl.of_seal hseal, ?_, hmeas0, hmeas1, ?_⟩
  · rw [rd_launchImage (by decide), rd_applyRecord (by decide) (by decide), rd_code_recordScan hi hwon]
  · exact (launchImage_op State.hostMem (by simp) (by simp) (fun _ _ => rfl) (by simp) _ _).trans
      (hkept State.hostMem (by simp) fun _ _ _ => rfl)

theorem recovery_enters (hrun : stopped s = false) (hrom : romRuns s = true) (hwon : (scanBoot s slots).won = none) :
    ∃ t, exec (.recoveryEntry slots) s = .next t ∧ t.rd BOOT_STATUS.phase = 4 ∧ t.rd HIF_PF_CFG.enable 0 = 1 ∧
      t.rd HIF_PF_CFG.link 0 = 0 ∧ t.rd HIF_PF_CFG.total_vfs 0 = 0 ∧ t.rd HIF_PF_CFG.bar4_log2 0 = 0 ∧
      t.rd HIF_PF_CFG.pf_vec 0 = 16 ∧ t.areas = {} ∧ t.rd (lockField .hif) = 1 ∧ t.mem = s.mem ∧ t.hostMem = s.hostMem ∧
      (s.rd DEV_STATUS.hw_ready = 1 → t.rd DEV_STATUS.crs = 0) := by
  have hkept {α : Type} (op : State → α) (hwr : ∀ (t : State) d v i j, op (t.wr d v i j) = op t) (hraise : ∀ t n, op (raise t n) = op t)
      (hlayout : ∀ (t : State) a b, op { t with boot := b, areas := a } = op t) :
      op (enterRecovery (recordScan s (scanBoot s slots))) = op s := by
    rw [enterRecovery_op op hwr hraise hlayout, recordScan_op op hwr]
  obtain ⟨henable, hlink, hvfs, hbar4, hvec⟩ := rd_enterRecovery_pf0 (s := recordScan s (scanBoot s slots))
  refine ⟨_, exec_recoveryEntry hrun hrom hwon, rd_enterRecovery_phase, henable, hlink, hvfs, hbar4, hvec, enterRecovery_areas,
    rd_lock_enterRecovery, hkept State.mem (by simp) (by simp) fun _ _ _ => rfl, hkept State.hostMem (by simp) (by simp) fun _ _ _ => rfl,
    fun hready => rd_crs_enterRecovery ?_⟩
  rw [rd_recordScan (by decide) (by decide), hready]

section Reads

variable {who : Initiator} {len : Nat} {img : SlotImage} (hrun : stopped s = false)
  (hreach : reaches who (BOOT_RCV_CTL.len.key 0 0 / 8) = true) (hstandby : standby s = false) (hmirrors : mirrors s = false)
  (hphase : s.rd BOOT_STATUS.phase = 4) (hpcie : pcieRecovers s = true) (hlen : len ≤ slotBytes)

include hlen in
theorem len_fits : len < 2 ^ 25 := Nat.lt_of_le_of_lt hlen (by decide)

include hrun hreach hstandby hmirrors hphase hpcie hlen

theorem recoveryRead_fails {ok : Bool} (hfail : fnLive s 0 = false ∨ ok = false) : exec (.recoveryRead who len ok img) s =
    .next (finishRecovery (s.wr BOOT_RCV_CTL.len len) 2 11 (readImage img len)) := by
  rw [exec_recoveryRead ok hrun hreach hstandby hmirrors hphase hpcie (len_fits hlen), if_neg (by omega), if_pos]
  rcases hfail with h | h <;> simp [h]

theorem recoveryRead_checks (hlive : fnLive s 0 = true) : exec (.recoveryRead who len true img) s =
    .next (finishRecovery (memStore (s.wr BOOT_RCV_CTL.len len) sramBase (readImage img len).bytes) 2
      (checkImage (s.wr BOOT_RCV_CTL.len len) (readImage img len)) (readImage img len)) := by
  rw [exec_recoveryRead true hrun hreach hstandby hmirrors hphase hpcie (len_fits hlen), if_neg (by omega), if_neg (by simp [hlive])]

theorem recoveryRead_unread (hdead : fnLive s 0 = false) : ∃ t, exec (.recoveryRead who len true img) s = .next t ∧
    t.rd BOOT_RCV_STAT.code = 11 ∧ t.rd BOOT_RCV_STAT.source = 2 ∧
    t.rd BOOT_RCV_STAT.attempts = min 65535 (s.rd BOOT_RCV_STAT.attempts + 1) ∧ t.rd BOOT_STATUS.phase = 4 ∧ t.mem = s.mem ∧
    t.hostMem = s.hostMem ∧ t.links = s.links := by
  obtain ⟨hcode, hsource, hattempts⟩ := rd_finishRecovery (s := s.wr BOOT_RCV_CTL.len len) (source := 2) (code := 11) (readImage img len)
    (by decide) (by decide)
  rw [State.rd_wr_apart _ _ _ _ _ _ (by decide)] at hattempts
  refine ⟨_, recoveryRead_fails hrun hreach hstandby hmirrors hphase hpcie hlen (.inl hdead), hcode, hsource, hattempts, ?_, ?_, ?_, ?_⟩
  all_goals rw [finishRecovery_failed (by decide)]
  · rw [recovered, State.rd_countSat_apart _ _ _ _ _ _ (by decide), State.rd_wr_apart _ _ _ _ _ _ (by decide),
      State.rd_wr_apart _ _ _ _ _ _ (by decide), State.rd_wr_apart _ _ _ _ _ _ (by decide), hphase]
  · rw [recovered_op State.mem (by simp), State.wr_mem]
  · rw [recovered_op State.hostMem (by simp), State.wr_hostMem]
  · rw [recovered_op State.links (by simp), State.wr_links]

theorem recoveryRead_badHeader (hheader : (readImage img len).headerOk = false) (hlive : fnLive s 0 = true) :
    ∃ t, exec (.recoveryRead who len true img) s = .next t ∧ t.rd BOOT_RCV_STAT.code = 3 ∧ t.rd BOOT_RCV_STAT.source = 2 ∧
      t.rd BOOT_RCV_CTL.len = len ∧ t.rd BOOT_RCV_STAT.attempts = min 65535 (s.rd BOOT_RCV_STAT.attempts + 1) ∧
      t.rd BOOT_STATUS.phase = 4 ∧ memLoad t sramBase len = fitBytes len img.bytes ∧ t.hostMem = s.hostMem ∧
      ∀ a, (a < sramBase ∨ sramBase + len ≤ a) → memLoad t a 1 = memLoad s a 1 := by
  obtain ⟨hcode, hsource, hattempts⟩ := rd_finishRecovery (s := memStore (s.wr BOOT_RCV_CTL.len len) sramBase (readImage img len).bytes)
    (source := 2) (code := 3) (readImage img len) (by decide) (by decide)
  rw [rd_memStore _ _ _ _ _ (by decide) (by decide) (by decide), State.rd_wr_apart _ _ _ _ _ _ (by decide)] at hattempts
  have hsize : (readImage img len).bytes.length = len := fitBytes_length _ _
  have hmem : (recovered (memStore (s.wr BOOT_RCV_CTL.len len) sramBase (readImage img len).bytes) 2 3).mem =
      storeBytes s.mem sramBase (readImage img len).bytes := by
    rw [recovered_op State.mem (by simp), memStore_mem, State.wr_mem]
  refine ⟨_, (recoveryRead_checks hrun hreach hstandby hmirrors hphase hpcie hlen hlive).trans (by rw [checkImage_badHeader hheader]),
    hcode, hsource, ?_, hattempts, ?_, ?_, ?_, fun a ha => ?_⟩
  all_goals rw [finishRecovery_failed (by decide)]
  · rw [recovered, State.rd_countSat_apart _ _ _ _ _ _ (by decide), State.rd_wr_apart _ _ _ _ _ _ (by decide),
      State.rd_wr_apart _ _ _ _ _ _ (by decide), rd_memStore _ _ _ _ _ (by decide) (by decide) (by decide),
      State.rd_wr_same _ _ _ _ _ (by decide)]
    exact Nat.mod_eq_of_lt (len_fits hlen)
  · rw [recovered, State.rd_countSat_apart _ _ _ _ _ _ (by decide), State.rd_wr_apart _ _ _ _ _ _ (by decide),
      State.rd_wr_apart _ _ _ _ _ _ (by decide), rd_memStore _ _ _ _ _ (by decide) (by decide) (by decide),
      State.rd_wr_apart _ _ _ _ _ _ (by decide), hphase]
  · have hload := loadBytes_storeBytes_same s.mem sramBase (readImage img len).bytes
    rw [hsize] at hload
    rw [memLoad, hmem, hload, readImage]
  · rw [recovered_op State.hostMem (by simp), memStore_hostMem, State.wr_hostMem]
  · rw [memLoad, hmem, loadBytes_one_storeBytes_outside _ _ _ _ (by rw [hsize]; exact ha), memLoad]

theorem recoveryRead_boots (hlive : fnLive s 0 = true) (hcheck : checkImage (s.wr BOOT_RCV_CTL.len len) (readImage img len) = 1)
    (hfind : (readImage img len).find 1 = some y) : ∃ t, exec (.recoveryRead who len true img) s = .next t ∧
      t.rd BOOT_RCV_STAT.code = 1 ∧ Launched s (readImage img len) y 2 0 t ∧ t.hostMem = s.hostMem ∧ t.areas = s.areas := by
  obtain ⟨hcode, -, -⟩ := rd_finishRecovery (s := memStore (s.wr BOOT_RCV_CTL.len len) sramBase (readImage img len).bytes)
    (source := 2) (code := 1) (readImage img len) (by decide) (by decide)
  have hl := launched_recovered (s := memStore (s.wr BOOT_RCV_CTL.len len) sramBase (readImage img len).bytes) hfind
    (source := 2) (by decide)
  have hseal := sealOf_congr (x := readImage img len) (s := s) (t := memStore (s.wr BOOT_RCV_CTL.len len) sramBase
    (readImage img len).bytes) (by simp) (by simp)
  refine ⟨_, (recoveryRead_checks hrun hreach hstandby hmirrors hphase hpcie hlen hlive).trans (by rw [hcheck]), hcode,
    hl.of_seal hseal, ?_, ?_⟩
  · rw [finishRecovery_passed_op State.hostMem (by simp) (by simp) (fun _ _ => rfl) (by simp), memStore_hostMem, State.wr_hostMem]
  · rw [finishRecovery_passed_op State.areas (by simp) (by simp) (fun _ _ => rfl) (by simp), memStore_areas, State.wr_areas]

end Reads

theorem uartOut_uartReply (s : State) (b : Nat) : (uartReply s b).boot.uartOut = s.boot.uartOut ++ [b] := rfl

theorem uartReply_op {α : Type} (op : State → α) (hout : ∀ (t : State) x, op { t with boot := { t.boot with uartOut := x } } = op t)
    (s : State) (b : Nat) : op (uartReply s b) = op s := hout _ _

theorem Launched.uartReply {source slot : Nat} {t : State} (hl : Launched s x y source slot t) (b : Nat) :
    Launched s x y source slot (uartReply t b) :=
  ⟨hl.source, hl.slot, hl.running, hl.supervisor, hl.pc, hl.section_, hl.phase, hl.svn, hl.key, hl.seq, hl.sealed⟩

section Uart

variable {crc : Nat} (hrun : stopped s = false) (hphase : s.rd BOOT_STATUS.phase = 4) (huart : uartRecovers s = true)

include hrun hphase huart

theorem exec_uartData {bs : Bytes} (hlen : bs.length ≤ 4096) (hcrc : crc16 (leBytes 1 1 ++ leBytes 2 bs.length ++ bs) = crc)
    (hroom : s.boot.image.length + bs.length ≤ slotBytes) : exec (.uartData bs crc) s =
      .next { s with boot := { s.boot with image := s.boot.image ++ bs, uartOut := s.boot.uartOut ++ [0x06] } } := by
  change execUartData bs crc s = _
  rw [execUartData, run_running s _ hrun, uartBlock_good _ hphase huart hlen hcrc, if_neg (by omega)]
  rfl

theorem exec_uartData_bad {bs : Bytes} (hlen : bs.length ≤ 4096) (hcrc : crc16 (leBytes 1 1 ++ leBytes 2 bs.length ++ bs) ≠ crc) :
    exec (.uartData bs crc) s = .next { s with boot := { s.boot with uartOut := s.boot.uartOut ++ [0x15] } } := by
  change execUartData bs crc s = _
  rw [execUartData, run_running s _ hrun, uartBlock, if_neg (by simp [bootPhase, hphase, phRecovery, huart]), if_neg (by omega),
    if_pos hcrc]
  rfl

theorem exec_uartAbort (hcrc : crc16 (leBytes 1 3 ++ leBytes 2 0) = crc) : exec (.uartAbort crc) s =
    .next { s with boot := { s.boot with image := [], uartOut := s.boot.uartOut ++ [0x06] } } := by
  change execUartAbort crc s = _
  rw [execUartAbort, run_running s _ hrun, uartBlock_good _ hphase huart (by decide)
    (by rwa [List.append_nil, List.length_nil])]
  rfl

/-- The ROM has the whole image, and answers 0x06 first. -/
def received (s : State) : State := uartReply { s with boot := { s.boot with image := [] } } 0x06

theorem exec_uartEnd (a m : Bool) (hcrc : crc16 (leBytes 1 2 ++ leBytes 2 0) = crc) : exec (.uartEnd crc a m) s =
    .next (uartReply (finishRecovery (received s) 3 (checkImage s ⟨s.boot.image, 0, a, m⟩) ⟨s.boot.image, 0, a, m⟩)
      (checkImage s ⟨s.boot.image, 0, a, m⟩)) := by
  change execUartEnd crc a m s = _
  rw [execUartEnd, run_running s _ hrun, uartBlock_good _ hphase huart (by decide)
    (by rwa [List.append_nil, List.length_nil])]
  rfl

theorem uartEnd_badHeader (m : Bool) (hcrc : crc16 (leBytes 1 2 ++ leBytes 2 0) = crc)
    (hheader : (⟨s.boot.image, 0, true, m⟩ : SlotImage).headerOk = false) : ∃ t, exec (.uartEnd crc true m) s = .next t ∧
      t.rd BOOT_RCV_STAT.code = 3 ∧ t.rd BOOT_RCV_STAT.source = 3 ∧
      t.rd BOOT_RCV_STAT.attempts = min 65535 (s.rd BOOT_RCV_STAT.attempts + 1) ∧ t.boot.uartOut = s.boot.uartOut ++ [0x06, 3] ∧
      t.boot.image = [] ∧ t.rd BOOT_STATUS.phase = 4 ∧ t.mem = s.mem ∧ t.hostMem = s.hostMem ∧ t.links = s.links := by
  obtain ⟨hcode, hsource, hattempts⟩ := rd_finishRecovery (s := received s) (source := 3) (code := 3) ⟨s.boot.image, 0, true, m⟩
    (by decide) (by decide)
  refine ⟨uartReply (finishRecovery (received s) 3 3 ⟨s.boot.image, 0, true, m⟩) 3, (exec_uartEnd hrun hphase huart true m hcrc).trans (by rw [checkImage_badHeader hheader]), ?_, ?_, ?_,
    ?_, ?_, ?_, ?_, ?_, ?_⟩
  · rw [uartReply_op (fun t => t.rd BOOT_RCV_STAT.code) fun _ _ => rfl, hcode]
  · rw [uartReply_op (fun t => t.rd BOOT_RCV_STAT.source) fun _ _ => rfl, hsource]
  · rw [uartReply_op (fun t => t.rd BOOT_RCV_STAT.attempts) fun _ _ => rfl, hattempts]
    rfl
  all_goals rw [finishRecovery_failed (by decide)]
  · have hout : (recovered (received s) 3 3).boot.uartOut = s.boot.uartOut ++ [0x06] :=
      recovered_op (fun t => t.boot.uartOut) (by simp) _ _
    rw [uartOut_uartReply, hout, List.append_assoc]
    rfl
  · rw [uartReply_op (fun t => t.boot.image) fun _ _ => rfl, recovered_op (fun t => t.boot.image) (by simp)]
    rfl
  · rw [uartReply_op (fun t => t.rd BOOT_STATUS.phase) fun _ _ => rfl, recovered, State.rd_countSat_apart _ _ _ _ _ _ (by decide),
      State.rd_wr_apart _ _ _ _ _ _ (by decide), State.rd_wr_apart _ _ _ _ _ _ (by decide), ← hphase]
    rfl
  · rw [uartReply_op State.mem fun _ _ => rfl, recovered_op State.mem (by simp)]
    rfl
  · rw [uartReply_op State.hostMem fun _ _ => rfl, recovered_op State.hostMem (by simp)]
    rfl
  · rw [uartReply_op State.links fun _ _ => rfl, recovered_op State.links (by simp)]
    rfl

theorem uartEnd_boots (hcrc : crc16 (leBytes 1 2 ++ leBytes 2 0) = crc)
    (hcheck : checkImage s (⟨s.boot.image, 0, true, true⟩ : SlotImage) = 1)
    (hfind : (⟨s.boot.image, 0, true, true⟩ : SlotImage).find 1 = some y) : ∃ t, exec (.uartEnd crc true true) s = .next t ∧
      t.rd BOOT_RCV_STAT.code = 1 ∧ t.boot.uartOut = s.boot.uartOut ++ [0x06, 1] ∧
      Launched s ⟨s.boot.image, 0, true, true⟩ y 3 0 t ∧ t.hostMem = s.hostMem ∧ t.areas = s.areas := by
  obtain ⟨hcode, -, -⟩ := rd_finishRecovery (s := received s) (source := 3) (code := 1) ⟨s.boot.image, 0, true, true⟩ (by decide)
    (by decide)
  have hl := launched_recovered (s := received s) hfind (source := 3) (by decide)
  have hkept {α : Type} (op : State → α) (hwr : ∀ (t : State) d v i j, op (t.wr d v i j) = op t) (hraise : ∀ t n, op (raise t n) = op t)
      (hrly : ∀ (t : State) r, op { t with rly := r } = op t) (hstore : ∀ (t : State) a bs, op (memStore t a bs) = op t) :=
    finishRecovery_passed_op (s := received s) (x := ⟨s.boot.image, 0, true, true⟩) op hwr hraise hrly hstore 3
  refine ⟨uartReply (finishRecovery (received s) 3 1 ⟨s.boot.image, 0, true, true⟩) 1,
    (exec_uartEnd hrun hphase huart true true hcrc).trans (by rw [hcheck]), ?_, ?_,
    (hl.of_seal (s' := s) (sealOf_congr rfl rfl)).uartReply 1, ?_, ?_⟩
  · rw [uartReply_op (fun t => t.rd BOOT_RCV_STAT.code) fun _ _ => rfl, hcode]
  · have hout : (finishRecovery (received s) 3 1 ⟨s.boot.image, 0, true, true⟩).boot.uartOut = s.boot.uartOut ++ [0x06] :=
      hkept (fun t => t.boot.uartOut) (by simp) (by simp) (fun _ _ => rfl) (by simp)
    rw [uartOut_uartReply, hout, List.append_assoc]
    rfl
  · rw [uartReply_op State.hostMem fun _ _ => rfl, hkept State.hostMem (by simp) (by simp) (fun _ _ => rfl) (by simp)]
    rfl
  · rw [uartReply_op State.areas fun _ _ => rfl, hkept State.areas (by simp) (by simp) (fun _ _ => rfl) (by simp)]
    rfl

end Uart

end Boot

/-- Settles O52: the attempt that boots is the last one recorded, and a launch, a recovery entry and a checked recovery image each are
one change of the state. That an image stands from the first byte of the packet buffer and that an oversize go sets locked_write (log
entry 92), and that HIF is locked in RECOVERY and END answers 0x06 before the code (log entry 93), are the model's choices. -/
theorem stageOneAndRecovery : Obligations.StageOneAndRecovery := by
  unfold Obligations.StageOneAndRecovery
  refine ⟨?boots, fun s slots hrun hrom hwon => recovery_enters hrun hrom hwon, fun s slots hrun _ hwon => exec_stage1Release_none hrun hwon,
    fun s slots hrun hidle => exec_stage1Release_idle hrun hidle, fun s slots hrun hidle => exec_recoveryEntry_idle hrun hidle,
    fun s slots i x hrun hrom hwon => exec_stage1Release hrun hrom hwon,
    fun s slots hrun hrom hwon => exec_recoveryEntry hrun hrom hwon,
    fun s who len img hrun hreach hstandby hmirrors hphase hpcie hlen hdead =>
      recoveryRead_unread hrun hreach hstandby hmirrors hphase hpcie hlen hdead,
    fun s who len img hrun hreach hstandby hmirrors hphase hpcie hlen hheader hlive =>
      recoveryRead_badHeader hrun hreach hstandby hmirrors hphase hpcie hlen hheader hlive, ?readBoots,
    fun s bs crc hrun hphase huart hlen hcrc hroom => exec_uartData hrun hphase huart hlen hcrc hroom,
    fun s bs crc hrun hphase huart hlen hcrc => exec_uartData_bad hrun hphase huart hlen hcrc,
    fun s crc m hrun hphase huart hcrc hheader => uartEnd_badHeader hrun hphase huart m hcrc hheader, ?uartBoots,
    fun s crc hrun hphase huart hcrc => exec_uartAbort hrun hphase huart hcrc,
    fun s t who len img ok hrun hreach hstandby hmirrors hphase hpcie hlen hfail =>
      recoveryRead_fails hrun hreach hstandby hmirrors hphase hpcie hlen hfail,
    fun s who len img hrun hreach hstandby hmirrors hphase hpcie hlen hlive =>
      recoveryRead_checks hrun hreach hstandby hmirrors hphase hpcie hlen hlive, ?oversize, ?received⟩
  case boots =>
    intro s slots i x y hrun hrom hwon hi hfind
    obtain ⟨t, hexec, hl, hcode, hmeas0, hmeas1, hhost⟩ := stage1_boots hrun hrom hwon hi hfind
    exact ⟨t, hexec, hl.source, hl.slot, hcode, hmeas0, hmeas1, hl.running, hl.supervisor, hl.pc, hl.section_, hl.phase, hl.svn, hl.key,
      hl.seq, hl.sealed, hhost⟩
  case readBoots =>
    intro s who len img y hrun hreach hstandby hmirrors hphase hpcie hlen hlive hcheck hfind
    obtain ⟨t, hexec, hcode, hl, hhost, hareas⟩ :=
      recoveryRead_boots hrun hreach hstandby hmirrors hphase hpcie hlen hlive hcheck hfind
    exact ⟨t, hexec, hcode, hl.source, hl.slot, hl.running, hl.supervisor, hl.pc, hl.section_, hl.phase, hl.svn, hl.key, hl.seq,
      hl.sealed, hhost, hareas⟩
  case uartBoots =>
    intro s crc y hrun hphase huart hcrc hcheck hfind
    obtain ⟨t, hexec, hcode, hout, hl, hhost, hareas⟩ := uartEnd_boots hrun hphase huart hcrc hcheck hfind
    exact ⟨t, hexec, hcode, hl.source, hout, hl.running, hl.supervisor, hl.pc, hl.section_, hl.phase, hl.svn, hl.key, hl.seq, hl.sealed,
      hhost, hareas⟩
  case oversize =>
    intro s who len img ok hrun hreach hstandby hmirrors hphase hpcie hbig hlen
    rw [exec_recoveryRead ok hrun hreach hstandby hmirrors hphase hpcie hlen, if_pos hbig]
  case received =>
    intro s crc a m t hrun hphase huart hcrc ht
    subst ht
    exact exec_uartEnd hrun hphase huart a m hcrc

end Sys2Proof.Machine
end

section
/-! SUPPORT. What the operations of the flow tables leave of the rest of the device (R377 to R406). -/
namespace Sys2Proof.Machine

/-- The registers that an operation of the flow tables writes by itself. -/
def tableFields : List Desc :=
  [FT_TABLE.entries, FT_TABLE.evictions, FT_CMD.action, FT_CMD.learned, FT_CMD.hit_stamp, FT_CMD.key, FT_CMD.data, FT_CMD.t_valid,
    FT_CMD.mask, FT_CMD.result0, FT_CMD.result1, FT_CMD.busy, FT_LOST.table, FT_LOST.copy, FT_LOST.bucket, FT_LOST.entry_valid,
    FT_LOST.lost, FT_NOTIFY_DROP.count, PAIR_SEQ.pseq, PAIR_CNT.count] ++ batonFields

/-- The registers that the stores, the charges and the sources of an operation write. -/
def chargeFields : List Desc := [PMC_CNT.count, IRQ_SRC.asserted, IRQ_MSIX_BAD.count, DEV_DET_COUNT.failed]

/-- A part of the state that no operation of the flow tables reaches. -/
structure BesideTables {α : Type} (op : State → α) : Prop where
  wr : ∀ (t : State) d v i j, d ∈ tableFields → op (t.wr d v i j) = op t
  ft : ∀ (t : State) x, op { t with ft := x } = op t
  fresh : ∀ (t : State) x, op { t with fresh := x } = op t
  poison : ∀ (t : State) x, op { t with poison := x } = op t
  rly : ∀ (t : State) x, op { t with rly := x } = op t
  deltas : ∀ (t : State) p x, op { t with pseq := p, deltas := x } = op t
  store : ∀ t a bs, op (memStore t a bs) = op t
  g6 : ∀ t a w c, op (g6Access t a w c) = op t
  sram : ∀ t n c, op (sramAccess t n c) = op t
  flits : ∀ t n c, op (fabricFlits t n c) = op t
  raised : ∀ t n, op (raise t n) = op t
  failed : ∀ t, op (detFailed t) = op t

namespace BesideTables

/-- A register apart from those that an operation writes. -/
theorem rd {e : Desc} (h : tableFields.all (·.apart e) = true) (hc : chargeFields.all (·.apart e) = true) (i : Nat) :
    BesideTables fun t => t.rd e i := by
  simp only [chargeFields, List.all_cons, List.all_nil, Bool.and_true, Bool.and_eq_true] at hc
  obtain ⟨hpmc, hbit, hbad, hdet⟩ := hc
  exact ⟨fun t d v k j hd => State.rd_wr_apart _ _ _ _ _ _ (List.all_eq_true.mp h d hd), fun _ _ => rfl, fun _ _ => rfl, fun _ _ => rfl,
    fun _ _ => rfl, fun _ _ _ => rfl, fun t a bs => rd_memStore _ _ _ _ _ hbit hbad hdet, fun _ _ _ _ => rd_g6Access _ _ _ _ _ _ hpmc,
    fun _ _ _ => rd_sramAccess _ _ _ _ _ hpmc, fun _ _ _ => rd_fabricFlits _ _ _ _ _ hpmc, fun _ _ => rd_raise _ _ _ _ hbit hbad,
    fun _ => rd_detFailed _ _ _ hbit hbad hdet⟩

variable {α : Type} {op : State → α} (h : BesideTables op)

include h

theorem countEntries (s : State) (t c : Nat) (up : Bool) : op (countEntries s t c up) = op s := h.wr _ _ _ _ _ (by simp [tableFields])

theorem chargeEntry (s : State) (t a : Nat) : op (chargeEntry s t a) = op s := by
  unfold Machine.chargeEntry
  dsimp only
  split
  · exact foldl_frame op _ (fun u i => h.g6 _ _ _ _) _ _
  · exact h.sram _ _ _

theorem storeEntry (s : State) (t c b e : Nat) (x : FtEntry) : op (storeEntry s t c b e x) = op s := by
  rw [Machine.storeEntry, h.store, h.chargeEntry]

theorem clearEntry (s : State) (t c b e : Nat) : op (clearEntry s t c b e) = op s := by
  unfold Machine.clearEntry
  dsimp only
  split
  · rw [h.countEntries, h.storeEntry]
  · rfl

theorem pushLost (s : State) (t c b : Nat) : op (pushLost s t c b) = op s := by
  have hsync (u : State) : op (syncLost u) = op u := by
    unfold syncLost
    split <;> repeat rw [h.wr _ _ _ _ _ (by simp [tableFields])]
  unfold Machine.pushLost
  dsimp only
  rw [h.raised]
  split
  · exact h.wr _ _ _ _ _ (by simp [tableFields])
  · rw [hsync, h.ft]

theorem readBuckets (s : State) (t c key acct : Nat) : op (readBuckets s t c key acct) = op s := by
  have hlose (u : State) (lo n : Nat) : op (loseBadLines u t c lo n) = op u :=
    foldl_frame op _ (fun u l => by rw [loseTableLine, h.pushLost, h.poison, h.clearEntry, h.failed]) _ _
  have hcharge (u : State) (bb : Nat × Nat) : op (chargeBuckets u t c acct bb) = op u := by
    unfold chargeBuckets
    split
    · exact foldl_frame op _ (fun u b => foldl_frame op _ (fun v i => h.g6 _ _ _ _) _ _) _ _
    · exact h.sram _ _ _
  rw [Machine.readBuckets, hlose, hlose, hcharge]

theorem flowNotify (s : State) (ev t c b e : Nat) (x : FtEntry) : op (flowNotify s ev t c b e x) = op s := by
  unfold Machine.flowNotify
  split
  · split
    case h_1 u hu =>
      exact deviceSend_op op (fun t d v i j hd => h.wr t d v i j (List.mem_append_right _ hd)) h.rly h.store h.flits hu
    case h_2 => exact h.wr _ _ _ _ _ (by simp [tableFields])
  · rfl

theorem pickSlot (t slots b : Nat) (path : List (Nat × Nat)) (fuel : Nat) (s : State) : op (pickSlot t slots b path fuel s).2 = op s := by
  induction fuel generalizing s with
  | zero => rfl
  | succ fuel ih =>
    unfold Machine.pickSlot
    dsimp only
    split
    · rw [ih, h.ft]
    · exact h.ft _ _

theorem searchPath (t c fuel b : Nat) (path : List (Nat × Nat)) (s : State) : op (searchPath t c fuel b path s).2 = op s := by
  induction fuel generalizing s b path with
  | zero => rfl
  | succ fuel ih =>
    have hpick := h.pickSlot t (slotsOf s t) b path (slotsOf s t) s
    unfold Machine.searchPath
    split
    case h_1 u hu =>
      rw [hu] at hpick
      exact hpick
    case h_2 e u hu =>
      rw [hu] at hpick
      dsimp only
      split
      · exact hpick
      · exact (ih _ _ _).trans hpick

theorem applyPath (t c : Nat) (path : List (Nat × Nat)) (b e : Nat) (s : State) : op (applyPath s t c path b e).1 = op s := by
  induction path generalizing s b e with
  | nil => rfl
  | cons p path ih => rw [Machine.applyPath, ih, h.storeEntry]

theorem victimOf (s : State) (t c : Nat) (bb : Nat × Nat) : op (victimOf s t c bb).2 = op s := by
  unfold Machine.victimOf
  dsimp only
  split
  · rfl
  · exact (h.ft _ _).trans (h.fresh _ _)
  · rfl

theorem placeKey (s : State) (t c : Nat) (x : FtEntry) (noEvict : Bool) : op (placeKey s t c x noEvict).1 = op s := by
  unfold Machine.placeKey
  dsimp only
  split
  · rw [h.countEntries, h.storeEntry]
  · rw [h.countEntries, h.storeEntry]
  · have hsearch := h.searchPath t c 8 (bucketPair s t x.key).1 [] s
    split
    case h_1 path b f u hu =>
      rw [hu] at hsearch
      dsimp only
      rw [h.countEntries, h.storeEntry, h.applyPath]
      exact hsearch
    case h_2 u hu =>
      rw [hu] at hsearch
      split
      · exact hsearch
      · have hvictim := h.victimOf u t c (bucketPair s t x.key)
        split
        case h_1 v hv =>
          rw [hv] at hvictim
          exact hvictim.trans hsearch
        case h_2 b e v hv =>
          rw [hv] at hvictim
          dsimp only
          rw [h.flowNotify, State.count, h.wr _ _ _ _ _ (by simp [tableFields]), h.storeEntry]
          exact hvictim.trans hsearch

theorem readBack (s : State) (o : FtOp) (x : FtEntry) : op (readBack s o x) = op s := by
  unfold Machine.readBack
  split
  · repeat rw [h.wr _ _ _ _ _ (by simp [tableFields])]
  · rfl

theorem emOp (s : State) (o : FtOp) : op (emOp s o).1 = op s := by
  have hread : op (if o.op = 6 then s else Machine.readBuckets s o.table o.copy (o.key % 2 ^ (8 * keyBytes s o.table)) 0) = op s := by
    split
    · rfl
    · exact h.readBuckets _ _ _ _ _
  unfold Machine.emOp
  extract_lets t c key u b e
  split
  case h_5 | h_6 => exact (h.storeEntry _ _ _ _ _ _).trans hread
  case h_7 => exact (h.clearEntry _ _ _ _ _).trans hread
  case h_8 => exact (h.readBack _ _ _).trans hread
  case h_9 =>
    split
    · exact hread
    · split
      · exact (h.readBack _ _ _).trans hread
      · exact hread
  case h_10 => exact (h.placeKey _ _ _ _ _).trans hread
  all_goals exact hread

theorem lpmOp (s : State) (o : FtOp) : op (lpmOp s o).1 = op s := by
  have hadd (p : LpmPrefix) : op (Machine.countEntries (addPrefix s p) o.table 0 true) = op s := by
    rw [h.countEntries]
    exact h.ft _ _
  unfold Machine.lpmOp
  dsimp only
  split
  · rfl
  · split
    · rfl
    · rfl
    · rfl
    · rfl
    · rw [h.countEntries, dropPrefix, h.ft]
    · split
      · rw [h.wr _ _ _ _ _ (by simp [tableFields]), h.wr _ _ _ _ _ (by simp [tableFields])]
      · rfl
    · rw [addPrefix, h.ft, dropPrefix, h.ft]
    · rw [apply_ite Prod.fst, apply_ite op, hadd, ite_self]

theorem ternOp (s : State) (o : FtOp) : op (ternOp s o).1 = op s := by
  unfold Machine.ternOp
  dsimp only
  split
  · rfl
  · split
    · split
      · exact h.ft _ _
      · rw [h.countEntries, h.ft]
    · repeat rw [h.wr _ _ _ _ _ (by simp [tableFields])]

theorem performOp (s : State) (o : FtOp) : op (performOp s o).1 = op s := by
  unfold Machine.performOp
  dsimp only
  split
  · rfl
  · split
    · rfl
    · split
      · exact h.ft _ _
      · split
        · exact h.emOp _ _
        · exact h.lpmOp _ _
        · exact h.ternOp _ _

theorem submitOp (s : State) (o : FtOp) : op (submitOp s o) = op s := by
  have hend (u : State) (r : Nat) : op (endOp u o r) = op u := by
    unfold endOp
    dsimp only
    rw [h.wr _ _ _ _ _ (by simp [tableFields])]
    split
    · exact h.wr _ _ _ _ _ (by simp [tableFields])
    · exact h.wr _ _ _ _ _ (by simp [tableFields])
  have hdelta (u : State) : op (deltaTable u o) = op u := by
    unfold deltaTable delta
    split
    · rw [State.count, h.wr _ _ _ _ _ (by simp [tableFields]), h.wr _ _ _ _ _ (by simp [tableFields]), h.deltas]
    · rfl
  unfold Machine.submitOp
  split
  · rw [h.wr _ _ _ _ _ (by simp [tableFields]), h.ft]
  · dsimp only
    rw [hend, hdelta, h.performOp]

theorem releaseWaiting (s : State) (t c : Nat) : op (releaseWaiting s t c) = op s := by
  rw [Machine.releaseWaiting, foldl_frame op _ (fun u o => h.submitOp u o), h.ft]

end BesideTables

end Sys2Proof.Machine
end

section
/-! SUPPORT. Maintenance activities and scrubbing (R884 to R899), and the obligation O54 that they settle. -/
namespace Sys2Proof.Machine

/-- A value outside those that a filter takes out is kept. -/
theorem Map.getD_filter_kept {α : Type} (m : Map α) (f : Nat × α → Bool) (k : Nat) (d : α) (h : ∀ v, f (k, v) = true) :
    Map.getD (m.filter f : Map α) k d = Map.getD m k d := by
  induction m with
  | nil => rfl
  | cons x xs ih =>
    obtain ⟨i, v⟩ := x
    by_cases hi : k = i
    · subst hi
      rw [List.filter_cons_of_pos (h v), Map.getD, Map.getD, if_pos rfl, if_pos rfl]
    · have hrest : Map.getD ((i, v) :: xs : Map α) k d = Map.getD (xs : Map α) k d := by rw [Map.getD, if_neg hi]
      rw [hrest, ← ih, List.filter_cons]
      split
      · rw [Map.getD, if_neg hi]
      · rfl

section Activities

variable {s : State} {who : Initiator} {a : Nat}

theorem mem_activities (h1 : 1 ≤ a) (h7 : a ≤ 7) : a ∈ activities := by
  simp only [activities, List.mem_cons, List.not_mem_nil, or_false]
  omega

theorem has_act (h7 : a ≤ 7) : a < 8 := Nat.lt_succ_of_le h7

/-- An activity's registers stand apart from one another, and each member of an array from the others. -/
theorem actState_wr_other {b : Nat} (v : Nat) (h : b ≠ a) : actState (s.wr MNT_ACT.state v a) b = actState s b :=
  State.rd_wr_member _ _ (by decide) h

/-! ### Starts -/

/-- The registers of an activity that starts. -/
def startShown (s : State) (a : Nat) : State :=
  (((s.wr MNT_ACT.state actRunning a).wr MNT_ACT.start_tt (now s) a).wr MNT_ACT.progress 0 a).wr MNT_ACT.fail_code 0 a

/-- What a start changes beside its registers. -/
theorem startAct_op {α : Type} (op : State → α) (hmnt : ∀ (t : State) x, op { t with mnt := x } = op t)
    (hft : ∀ (t : State) x, op { t with ft := x } = op t) (hfresh : ∀ (t : State) x, op { t with fresh := x } = op t) :
    op (startAct s a) = op (startShown { s with mnt := { s.mnt with args := Map.set s.mnt.args a (s.rd MNT_ACT.arg a) } } a) := by
  unfold startAct
  dsimp only
  split
  · exact hmnt _ _
  · exact hft _ _
  · unfold beginErecal
    dsimp only
    split
    · exact hmnt _ _
    · refine (foldl_frame op _ (fun t k => ?_) _ _).trans (hmnt _ _)
      exact (hmnt (freeWord t).2 _).trans (hfresh t _)
  · rfl

/-- What a start leaves of an activity's registers, and of the other activities. -/
structure Started (s : State) (a : Nat) (t : State) : Prop where
  state : t.rd MNT_ACT.state a = actRunning
  start_tt : t.rd MNT_ACT.start_tt a = now s % 2 ^ 64
  progress : t.rd MNT_ACT.progress a = 0
  fail_code : t.rd MNT_ACT.fail_code a = 0
  others : ∀ b, b ≠ a → t.rd MNT_ACT.state b = s.rd MNT_ACT.state b
  deferrals : ∀ b, t.rd MNT_ACT.deferrals b = s.rd MNT_ACT.deferrals b
  mem : t.mem = s.mem
  hostMem : t.hostMem = s.hostMem

theorem started_startAct (h7 : a ≤ 7) : Started s a (startAct s a) := by
  have hlt := has_act h7
  have hrd (d : Desc) (b : Nat) : (startAct s a).rd d b =
      (startShown { s with mnt := { s.mnt with args := Map.set s.mnt.args a (s.rd MNT_ACT.arg a) } } a).rd d b :=
    startAct_op (fun t => t.rd d b) (fun _ _ => rfl) (fun _ _ => rfl) fun _ _ => rfl
  refine ⟨?_, ?_, ?_, ?_, fun b hb => ?_, fun b => ?_, ?_, ?_⟩
  · rw [hrd, startShown]
    simp (disch := decide) only [State.rd_wr_apart]
    rw [State.rd_wr_same _ _ _ _ _ (by simp [Desc.has, MNT_ACT.state, hlt])]
    rfl
  · rw [hrd, startShown]
    simp (disch := decide) only [State.rd_wr_apart]
    rw [State.rd_wr_same _ _ _ _ _ (by simp [Desc.has, MNT_ACT.start_tt, hlt])]
    rfl
  · rw [hrd, startShown]
    simp (disch := decide) only [State.rd_wr_apart]
    rw [State.rd_wr_same _ _ _ _ _ (by simp [Desc.has, MNT_ACT.progress, hlt])]
    rfl
  · rw [hrd, startShown, State.rd_wr_same _ _ _ _ _ (by simp [Desc.has, MNT_ACT.fail_code, hlt])]
    rfl
  · rw [hrd, startShown]
    simp (disch := decide) only [State.rd_wr_apart]
    exact State.rd_wr_member _ _ (by decide) hb
  · rw [hrd, startShown]
    simp (disch := decide) only [State.rd_wr_apart]
    rfl
  · rw [startAct_op State.mem (fun _ _ => rfl) (fun _ _ => rfl) fun _ _ => rfl]
    simp [startShown]
  · rw [startAct_op State.hostMem (fun _ _ => rfl) (fun _ _ => rfl) fun _ _ => rfl]
    simp [startShown]

/-- The bits of one activity name it alone. -/
theorem named_activities (h1 : 1 ≤ a) (h7 : a ≤ 7) : (activities.filter (2 ^ a).testBit) = [a] ∧ putBit 0 a true = 2 ^ a := by
  obtain rfl | rfl | rfl | rfl | rfl | rfl | rfl : a = 1 ∨ a = 2 ∨ a = 3 ∨ a = 4 ∨ a = 5 ∨ a = 6 ∨ a = 7 := by omega
  all_goals decide

/-- The bits of a start request, shown. -/
def startBits (s : State) (x : StartBits) : State :=
  ((s.wr MNT_START.started x.started).wr MNT_START.busy_conflict x.busy).wr MNT_START.not_allowed x.denied

theorem exec_mntStart (hrun : stopped s = false) (hw : writable who MNT_START.start 0 s = true) (h1 : 1 ≤ a) (h7 : a ≤ 7) :
    exec (.mntStart who (2 ^ a)) s = .next (startBits (startOne ({}, s) a).2 (startOne ({}, s) a).1) := by
  change execMntStart who (2 ^ a) s = _
  rw [execMntStart, run_setupWrite hrun hw, (named_activities h1 h7).1]
  rfl

theorem startOne_denied (x : StartBits) (h : actAllowed s a (s.rd MNT_ACT.arg a) = false) :
    startOne (x, s) a = ({ x with denied := putBit x.denied a true }, s) := by rw [startOne, h]; rfl

theorem startOne_busy (x : StartBits) (h : actAllowed s a (s.rd MNT_ACT.arg a) = true) (hbusy : conflictsNow s a ≠ []) :
    startOne (x, s) a = ({ x with busy := putBit x.busy a true }, s) := by
  rw [startOne, h, if_neg (by decide), if_pos]
  simp [hbusy]

/-- A start takes the activity out of those halted, and drops its stop request. -/
def unstopped (s : State) (a : Nat) : State :=
  { s with mnt := { s.mnt with
      halted := s.mnt.halted.filter fun b => decide (b ≠ a), stopReq := s.mnt.stopReq.filter fun b => decide (b ≠ a) } }

theorem startOne_free (x : StartBits) (h : actAllowed s a (s.rd MNT_ACT.arg a) = true) (hfree : conflictsNow s a = [])
    (hpaused : s.rd MNT_ACT.state a ≠ actPaused) :
    startOne (x, s) a = ({ x with started := putBit x.started a true }, startAct (unstopped s a) a) := by
  rw [startOne, h, if_neg (by decide), if_neg]
  · rfl
  · simp [hfree, actState, hpaused]

theorem exec_mntStop (hrun : stopped s = false) (hw : writable who MNT_STOP.stop 0 s = true) (h1 : 1 ≤ a) (h7 : a ≤ 7) :
    exec (.mntStop who (2 ^ a)) s = .next { s with mnt := { s.mnt with stopReq := s.mnt.stopReq ++
      (if s.rd MNT_ACT.state a ≠ 0 ∧ s.mnt.stopReq.contains a = false then [a] else []) } } := by
  change execMntStop who (2 ^ a) s = _
  have hfilter : (activities.filter fun b => (2 ^ a).testBit b && decide (actState s b ≠ actIdle) && !s.mnt.stopReq.contains b) =
      if s.rd MNT_ACT.state a ≠ 0 ∧ s.mnt.stopReq.contains a = false then [a] else [] := by
    have hsplit : (activities.filter fun b => (2 ^ a).testBit b && decide (actState s b ≠ actIdle) && !s.mnt.stopReq.contains b) =
        (activities.filter (2 ^ a).testBit).filter fun b => decide (actState s b ≠ actIdle) && !s.mnt.stopReq.contains b := by
      rw [List.filter_filter]
      exact List.filter_congr fun b _ => by rw [Bool.and_assoc, Bool.and_comm]
    rw [hsplit, (named_activities h1 h7).1, List.filter_cons, List.filter_nil]
    exact ite_congr (propext (by rw [Bool.and_eq_true, decide_eq_true_eq, Bool.not_eq_true']; rfl)) (fun _ => rfl) fun _ => rfl
  rw [execMntStop, run_setupWrite hrun hw, hfilter]

/-! ### Automatic starts -/

theorem autoDue_idle (h : autoDue s a = true) : actState s a = actIdle := by
  simp only [autoDue, Bool.and_eq_true, decide_eq_true_eq] at h
  exact h.1.1.2

theorem exec_activityAutoStart (hrun : stopped s = false) (h1 : 1 ≤ a) (h7 : a ≤ 7) (hdue : autoDue s a = true)
    (hallow : actAllowed s a (s.rd MNT_ACT.arg a) = true) : exec (.activityAutoStart a) s = .next (
      if (conflictsNow s a).isEmpty then startAct s a
      else tryPending ((s.wr MNT_ACT.state actPending a).count MNT_ACT.deferrals 1 a) a) := by
  change execActivityAutoStart a s = _
  have hmem : activities.contains a = true := by simpa using mem_activities h1 h7
  rw [execActivityAutoStart, run_running s _ hrun, hmem, hdue, hallow]
  rfl

/-- The state of an activity that waits in PENDING, with its deferral counted. -/
def deferred (s : State) (a : Nat) : State := (s.wr MNT_ACT.state actPending a).count MNT_ACT.deferrals 1 a

theorem actState_deferred (h7 : a ≤ 7) (b : Nat) : actState (deferred s a) b = if b = a then actPending else actState s b := by
  rw [actState, deferred, State.rd_count_apart _ _ _ _ _ _ (by decide)]
  split
  case isTrue h =>
    subst h
    rw [State.rd_wr_same _ _ _ _ _ (by simp [Desc.has, MNT_ACT.state, has_act h7])]
    rfl
  case isFalse h => exact actState_wr_other _ h

theorem conflictsNow_deferred (h7 : a ≤ 7) (hidle : actState s a = actIdle) : conflictsNow (deferred s a) a = conflictsNow s a := by
  refine List.filter_congr fun b _ => ?_
  rw [actState_deferred h7]
  split
  case isTrue h => rw [h, hidle]; rfl
  case isFalse => rfl

theorem tryPending_deferred (h7 : a ≤ 7) (hstop : s.mnt.stopReq.contains a = false) (hidle : actState s a = actIdle) :
    tryPending (deferred s a) a = match conflictsNow s a with
      | [] => startAct (deferred s a) a
      | [1] => if s.mnt.stopReq.contains 1 then deferred s a else startAct ((deferred s a).wr MNT_ACT.state actPaused 1) a
      | _ => deferred s a := by
  have hmnt : (deferred s a).mnt = s.mnt := by simp [deferred]
  rw [tryPending, conflictsNow_deferred h7 hidle, hmnt]
  refine if_neg ?_
  rw [actState_deferred h7, if_pos rfl, hstop]
  decide

/-! ### Ends -/

/-- A register outside the contexts in SRAM is kept while the SRAM is initialised. -/
theorem rd_reinitSram {d : Desc} (i : Nat) (hplace : d.has i 0 = true → d.key i 0 < 0x1400000 * 8)
    (hapart : [FT_TABLE.valid, FT_TABLE.ready, FT_TABLE.entries].all (·.apart d) = true) : (reinitSram s).rd d i = s.rd d i := by
  simp only [List.all_cons, List.all_nil, Bool.and_true, Bool.and_eq_true] at hapart
  obtain ⟨hvalid, hready, hentries⟩ := hapart
  rw [reinitSram, foldl_frame (fun t => t.rd d i) _ fun t k => by
    rw [State.rd_wr_apart _ _ _ _ _ _ hentries, State.rd_wr_apart _ _ _ _ _ _ hready, State.rd_wr_apart _ _ _ _ _ _ hvalid]]
  unfold State.rd
  split
  case isTrue h =>
    refine Map.getD_filter_kept _ _ _ _ fun v => ?_
    simp [Nat.not_le.mpr (hplace h)]
  case isFalse => rfl

/-- What initialising the SRAM leaves: host memory, time and the maintenance activities. -/
theorem reinitSram_op {α : Type} (op : State → α)
    (hop : ∀ t u : State, t.hostMem = u.hostMem → t.tt = u.tt → t.mnt = u.mnt → op t = op u) : op (reinitSram s) = op s := by
  have hwr (t : State) (d : Desc) (v i : Nat) : op (t.wr d v i) = op t := hop _ _ (by simp) (by simp) (by simp)
  rw [reinitSram, foldl_frame op _ fun t k => by rw [hwr, hwr, hwr]]
  exact hop _ _ rfl rfl rfl

/-- The operations of the flow tables leave host memory, time and the maintenance activities. -/
theorem BesideTables.of_kept {α : Type} (op : State → α)
    (hop : ∀ t u : State, t.hostMem = u.hostMem → t.tt = u.tt → t.mnt = u.mnt → op t = op u) : BesideTables op :=
  ⟨fun _ _ _ _ _ _ => hop _ _ (by simp) (by simp) (by simp), fun _ _ => hop _ _ rfl rfl rfl, fun _ _ => hop _ _ rfl rfl rfl,
    fun _ _ => hop _ _ rfl rfl rfl, fun _ _ => hop _ _ rfl rfl rfl, fun _ _ _ => hop _ _ rfl rfl rfl,
    fun _ _ _ => hop _ _ (by simp) (by simp) (by simp), fun _ _ _ _ => hop _ _ (by simp) (by simp) (by simp),
    fun _ _ _ => hop _ _ (by simp) (by simp) (by simp), fun _ _ _ => hop _ _ (by simp) (by simp) (by simp),
    fun _ _ => hop _ _ (by simp) (by simp) (by simp), fun _ => hop _ _ (by simp) (by simp) (by simp)⟩

/-- What an activity's work leaves as it ends. -/
theorem endEffect_op {α : Type} (op : State → α) (ht : BesideTables op) (hsram : ∀ t, op (reinitSram t) = op t)
    (hg6 : ∀ t, op (reinitG6 t) = op t) (happlied : ∀ t : State, op { t with mnt := { t.mnt with applied := 0 } } = op t) :
    op (endEffect s a) = op s := by
  unfold endEffect
  split
  · split
    · rfl
    · rw [ht.releaseWaiting, ht.ft]
  · split
    · rw [hg6, hsram]
    · exact hsram _
  · exact happlied _
  · rfl

/-- The report of an activity that has ended. -/
def endReport (s : State) (a result code : Nat) : State :=
  let s := ((s.wr MNT_ACT.state actIdle a).wr MNT_ACT.result result a).wr MNT_ACT.fail_code code a
  let s := (s.wr MNT_ACT.end_tt (now s) a).count MNT_ACT.runs 1 a
  raise { s with mnt := { s.mnt with stopReq := s.mnt.stopReq.filter fun b => decide (b ≠ a) } } 0x200

/-- Every other activity is as before, and the one that has ended is idle. -/
theorem actState_endReport (h7 : a ≤ 7) (result code b : Nat) :
    actState (endReport s a result code) b = if b = a then 0 else actState s b := by
  have hreport (u : State) : (raise { u with mnt := { u.mnt with stopReq := u.mnt.stopReq.filter fun b => decide (b ≠ a) } } 0x200).rd
      MNT_ACT.state b = u.rd MNT_ACT.state b := rd_raise _ _ _ _ (by decide) (by decide)
  rw [actState, endReport, hreport, State.rd_count_apart _ _ _ _ _ _ (by decide)]
  simp (disch := decide) only [State.rd_wr_apart]
  split
  case isTrue h =>
    subst h
    rw [State.rd_wr_same _ _ _ _ _ (by simp [Desc.has, MNT_ACT.state, has_act h7])]
    rfl
  case isFalse h => exact State.rd_wr_member _ _ (by decide) h

/-- With every activity idle nothing waits, and SCRUB is not paused. -/
theorem tryPending_idle (h : ∀ b ∈ activities, actState s b = 0) : resumeScrub (activities.foldl tryPending s) = s := by
  have hone : ∀ b ∈ activities, tryPending s b = s := fun b hb => by
    rw [tryPending, h b hb]
    rfl
  have hfold : activities.foldl tryPending s = s := by
    simp only [activities, List.foldl_cons, List.foldl_nil]
    repeat rw [hone _ (by simp [activities])]
  rw [hfold, resumeScrub, h 1 (by simp [activities])]
  rfl

/-- What an activity's end leaves when no other activity runs or waits. -/
structure Ended (s : State) (a result code : Nat) (t : State) : Prop where
  result : t.rd MNT_ACT.result a = result % 256
  fail_code : t.rd MNT_ACT.fail_code a = code % 2 ^ 16
  state : t.rd MNT_ACT.state a = 0
  end_tt : t.rd MNT_ACT.end_tt a = now s % 2 ^ 64
  runs : t.rd MNT_ACT.runs a = (s.rd MNT_ACT.runs a + 1) % 2 ^ 32
  asserted : t.rd IRQ_SRC.asserted 0x200 = 1
  halted : t.mnt.halted = s.mnt.halted
  stopReq : t.mnt.stopReq = s.mnt.stopReq.filter fun b => decide (b ≠ a)
  hostMem : t.hostMem = s.hostMem

/-- The state that an activity's report starts from. -/
def endWork (s : State) (a : Nat) : State := if actState s a = actPending then s else endEffect s a

theorem endWork_op {α : Type} (op : State → α) (h : op (endEffect s a) = op s) : op (endWork s a) = op s := by
  unfold endWork
  split
  · rfl
  · exact h

/-- The work of an activity leaves the registers of every activity. -/
theorem rd_endWork {d : Desc} (b : Nat) (htables : tableFields.all (·.apart d) = true) (hcharges : chargeFields.all (·.apart d) = true)
    (hplace : d.has b 0 = true → d.key b 0 < 0x1400000 * 8)
    (hapart : [FT_TABLE.valid, FT_TABLE.ready, FT_TABLE.entries].all (·.apart d) = true) : (endWork s a).rd d b = s.rd d b :=
  endWork_op (fun t => t.rd d b) (endEffect_op _ (.rd htables hcharges b) (fun _ => rd_reinitSram b hplace hapart) (fun _ => rfl) fun _ => rfl)

theorem actPlace {d : Desc} {b : Nat} (hbase : d.base = 0x01000100) (hn : d.n1 = 8) (hstep : d.s1 = 0x40) (hlo : d.lo < 512)
    (h : d.has b 0 = true) : d.key b 0 < 0x1400000 * 8 := by
  have hb : b < 8 := hn ▸ (of_decide_eq_true (Bool.and_eq_true .. ▸ h).1)
  rw [Desc.key, hbase, hstep]
  omega

/-- The work of an activity leaves host memory, time, and the requests to stop. -/
theorem endWork_kept : (endWork s a).hostMem = s.hostMem ∧ now (endWork s a) = now s ∧ (endWork s a).mnt.halted = s.mnt.halted ∧
    (endWork s a).mnt.stopReq = s.mnt.stopReq := by
  have hall {α : Type} (op : State → α) (hop : ∀ t u : State, t.hostMem = u.hostMem → t.tt = u.tt → t.mnt = u.mnt → op t = op u)
      (happlied : ∀ t : State, op { t with mnt := { t.mnt with applied := 0 } } = op t) : op (endWork s a) = op s :=
    endWork_op op (endEffect_op op (.of_kept op hop) (fun _ => reinitSram_op op hop) (fun _ => hop _ _ rfl rfl rfl) happlied)
  exact ⟨hall State.hostMem (fun _ _ h _ _ => h) fun _ => rfl, hall now (fun _ _ _ h _ => by rw [now, now, h]) fun _ => rfl,
    hall (fun t => t.mnt.halted) (fun _ _ _ _ h => congrArg _ h) fun _ => rfl,
    hall (fun t => t.mnt.stopReq) (fun _ _ _ _ h => congrArg _ h) fun _ => rfl⟩

theorem ended_endAct (h7 : a ≤ 7) (result code : Nat) (hquiet : ∀ b ∈ activities, b = a ∨ actState s b = 0) :
    Ended s a result code (endAct s a result code) := by
  have hlt := has_act h7
  obtain ⟨hhost, hnow, hhalted, hstop⟩ := endWork_kept (s := s) (a := a)
  have hstate (b : Nat) : actState (endWork s a) b = actState s b :=
    rd_endWork b (by decide) (by decide) (actPlace rfl rfl rfl (by decide)) (by decide)
  have hruns : (endWork s a).rd MNT_ACT.runs a = s.rd MNT_ACT.runs a :=
    rd_endWork a (by decide) (by decide) (actPlace rfl rfl rfl (by decide)) (by decide)
  have hend : endAct s a result code = endReport (endWork s a) a result code := by
    change resumeScrub (activities.foldl tryPending (endReport (endWork s a) a result code)) = _
    refine tryPending_idle fun b hb => ?_
    rw [actState_endReport h7, hstate]
    split
    case isTrue => rfl
    case isFalse h => exact (hquiet b hb).resolve_left h
  have hreport {d : Desc} (hbit : IRQ_SRC.asserted.apart d = true) (hbad : IRQ_MSIX_BAD.count.apart d = true) (u : State) (b : Nat) :
      (raise { u with mnt := { u.mnt with stopReq := u.mnt.stopReq.filter fun b => decide (b ≠ a) } } 0x200).rd d b = u.rd d b :=
    rd_raise _ _ _ _ hbit hbad
  rw [hend, endReport]
  refine ⟨?_, ?_, ?_, ?_, ?_, rd_raise_asserted _ (by decide), ?_, ?_, ?_⟩
  · rw [hreport (by decide) (by decide), State.rd_count_apart _ _ _ _ _ _ (by decide)]
    simp (disch := decide) only [State.rd_wr_apart]
    rw [State.rd_wr_same _ _ _ _ _ (by simp [Desc.has, MNT_ACT.result, hlt])]
    rfl
  · rw [hreport (by decide) (by decide), State.rd_count_apart _ _ _ _ _ _ (by decide)]
    simp (disch := decide) only [State.rd_wr_apart]
    rw [State.rd_wr_same _ _ _ _ _ (by simp [Desc.has, MNT_ACT.fail_code, hlt])]
    rfl
  · exact (actState_endReport h7 result code a).trans (if_pos rfl)
  · rw [hreport (by decide) (by decide), State.rd_count_apart _ _ _ _ _ _ (by decide),
      State.rd_wr_same _ _ _ _ _ (by simp [Desc.has, MNT_ACT.end_tt, hlt])]
    exact congrArg (· % 2 ^ 64) (Eq.trans (by simp [now]) hnow)
  · rw [hreport (by decide) (by decide), State.rd_count_same _ _ _ _ _ (by simp [Desc.has, MNT_ACT.runs, hlt])]
    simp (disch := decide) only [State.rd_wr_apart]
    rw [hruns]
    rfl
  · simp [hhalted]
  · simp [hstop]
  · simp [hhost]

/-! ### Step boundaries -/

theorem exec_activityEnd (hrun : stopped s = false) (ha : a ∈ activities) (hstate : s.rd MNT_ACT.state a = actRunning)
    (hstop : s.mnt.stopReq.contains a = false) (hover : actOver s a = true) (fail : Nat) : exec (.activityEnd a fail) s =
      .next (endAct (if a = 3 then s.count FT_AUDIT_STAT.runs else s) a (if failOf s a fail = 0 then 1 else 2) (failOf s a fail)) := by
  change execActivityEnd a fail s = _
  have hidle : ¬ ((!activities.contains a) = true ∨ actState s a = actIdle) := by
    rw [actState, hstate, List.contains_iff_mem.mpr ha]
    decide
  have hover' : ¬ (decide (actState s a ≠ actRunning) || !actOver s a) = true := by
    rw [actState, hstate, hover]
    decide
  rw [execActivityEnd, run_running s _ hrun]
  dsimp only
  rw [if_neg (by simpa using hidle), hstop, if_neg (by decide), if_neg hover']

theorem exec_activityEnd_stopped (hrun : stopped s = false) (ha : a ∈ activities) (hstate : s.rd MNT_ACT.state a ≠ actIdle)
    (hstop : s.mnt.stopReq.contains a = true) (fail : Nat) : exec (.activityEnd a fail) s =
      .next (endAct { s with mnt := { s.mnt with halted := s.mnt.halted ++ [a] } } a 3 (s.rd MNT_ACT.fail_code a)) := by
  change execActivityEnd a fail s = _
  have hidle : ¬ ((!activities.contains a) = true ∨ actState s a = actIdle) := by
    rw [List.contains_iff_mem.mpr ha]
    simpa [actState] using hstate
  rw [execActivityEnd, run_running s _ hrun]
  dsimp only
  rw [if_neg (by simpa using hidle), hstop, if_pos rfl]

theorem exec_activityEnd_working (hrun : stopped s = false) (ha : a ∈ activities) (hstate : s.rd MNT_ACT.state a = actRunning)
    (hstop : s.mnt.stopReq.contains a = false) (hover : actOver s a = false) (fail : Nat) : exec (.activityEnd a fail) s = .next s := by
  change execActivityEnd a fail s = _
  have hidle : ¬ ((!activities.contains a) = true ∨ actState s a = actIdle) := by
    rw [actState, hstate, List.contains_iff_mem.mpr ha]
    decide
  rw [execActivityEnd, run_running s _ hrun]
  dsimp only
  rw [if_neg (by simpa using hidle), hstop, if_neg (by decide), if_pos (by simp [hover])]

/-- A retraining step of a device that G6_RETRAIN has selected and not finished (R891). -/
theorem exec_retrainStep {d : Nat} (hrun : stopped s = false) (hstate : s.rd MNT_ACT.state 2 = actRunning)
    (hstop : s.mnt.stopReq.contains 2 = false) (hawake : s.hif.d3AllG6 = false) (hd : d < 12) (hmask : (retrainMask s).testBit d = true)
    (hleft : Map.get s.mnt.retrain d < retrainSteps) (ok : Bool) : exec (.retrainStep d ok) s = .next (
      let n := if ok then Map.get s.mnt.retrain d + 1 else retrainSteps
      let s := { s with mnt := { s.mnt with retrain := Map.set s.mnt.retrain d n } }.count MNT_ACT.progress 1 2
      if ok then s else s.wr MNT_ACT.fail_code (d + 1) 2) := by
  change execRetrainStep d ok s = _
  rw [execRetrainStep, run_running s _ hrun, if_neg]
  simp only [actState, hstate, hstop, hawake, hmask, Bool.or_eq_true, decide_eq_true_eq, not_or]
  refine ⟨⟨⟨⟨⟨?_, ?_⟩, ?_⟩, ?_⟩, ?_⟩, ?_⟩
  · simp
  · decide
  · decide
  · omega
  · decide
  · omega

theorem exec_retrainStep_through {d : Nat} (hrun : stopped s = false) (hdone : retrainSteps ≤ Map.get s.mnt.retrain d) (ok : Bool) :
    exec (.retrainStep d ok) s = .next s := by
  change execRetrainStep d ok s = _
  rw [execRetrainStep, run_running s _ hrun, if_pos]
  simp [hdone]

/-! ### Scrubbing -/

/-- A line that SCRUB may read. -/
theorem exec_scrubLine {line : Nat} (hrun : stopped s = false) (hstate : s.rd MNT_ACT.state 1 = actRunning)
    (hstop : s.mnt.stopReq.contains 1 = false) (hexists : memExists s (line * 64) = true) (bad redone : Bool) :
    exec (.scrubLine line bad redone) s = .next (
      let s := s.count MNT_ACT.progress 1 1
      let g6 := decide (g6Base ≤ line * 64)
      if g6 && s.hif.d3AllG6 then s
      else
        let s := if g6 then g6Access s (line * 64) false 0 else sramAccess s 1 0
        if bad || s.poison.contains line then
          let r := lineFailed s line redone
          match r with
          | .none _ => logScrub (settle r) (line * 64)
          | _ => settle r
        else s) := by
  change execScrubLine line bad redone s = _
  rw [execScrubLine, run_running s _ hrun]
  refine congrArg Host.Outcome.next (if_neg ?_)
  rw [actState, hstate, hstop, hexists]
  decide

/-- A good line of SRAM is read, and counted. -/
theorem exec_scrubLine_good_sram {line : Nat} (hrun : stopped s = false) (hstate : s.rd MNT_ACT.state 1 = actRunning)
    (hstop : s.mnt.stopReq.contains 1 = false) (hexists : memExists s (line * 64) = true) (hlow : line * 64 < g6Base)
    (hgood : s.poison.contains line = false) :
    exec (.scrubLine line false true) s = .next (sramAccess (s.count MNT_ACT.progress 1 1) 1 0) := by
  have hg6 : decide (g6Base ≤ line * 64) = false := decide_eq_false (Nat.not_le.mpr hlow)
  have hpoison : (sramAccess (s.count MNT_ACT.progress 1 1) 1 0).poison = s.poison := by simp
  rw [exec_scrubLine hrun hstate hstop hexists]
  dsimp only
  rw [hg6, Bool.false_and, if_neg (by decide), if_neg (c := false = true) (by decide), hpoison, hgood, if_neg (by decide)]

/-- A good line of GDDR6 is read, and counted. -/
theorem exec_scrubLine_good_g6 {line : Nat} (hrun : stopped s = false) (hstate : s.rd MNT_ACT.state 1 = actRunning)
    (hstop : s.mnt.stopReq.contains 1 = false) (hexists : memExists s (line * 64) = true) (hhigh : g6Base ≤ line * 64)
    (hawake : s.hif.d3AllG6 = false) (hgood : s.poison.contains line = false) :
    exec (.scrubLine line false true) s = .next (g6Access (s.count MNT_ACT.progress 1 1) (line * 64) false 0) := by
  have hg6 : decide (g6Base ≤ line * 64) = true := decide_eq_true hhigh
  have hpoison : (g6Access (s.count MNT_ACT.progress 1 1) (line * 64) false 0).poison = s.poison := by simp
  have hawake' : (s.count MNT_ACT.progress 1 1).hif.d3AllG6 = false := by simp [hawake]
  rw [exec_scrubLine hrun hstate hstop hexists]
  dsimp only
  rw [hg6, Bool.true_and, hawake', if_neg (by decide), if_pos rfl, hpoison, hgood, if_neg (by decide)]

/-- GDDR6 in self-refresh is passed over (R897). -/
theorem exec_scrubLine_asleep {line : Nat} (hrun : stopped s = false) (hstate : s.rd MNT_ACT.state 1 = actRunning)
    (hstop : s.mnt.stopReq.contains 1 = false) (hexists : memExists s (line * 64) = true) (hhigh : g6Base ≤ line * 64)
    (hasleep : s.hif.d3AllG6 = true) (bad redone : Bool) :
    exec (.scrubLine line bad redone) s = .next (s.count MNT_ACT.progress 1 1) := by
  have hg6 : decide (g6Base ≤ line * 64) = true := decide_eq_true hhigh
  have hasleep' : (s.count MNT_ACT.progress 1 1).hif.d3AllG6 = true := by simp [hasleep]
  rw [exec_scrubLine hrun hstate hstop hexists]
  dsimp only
  rw [hg6, Bool.true_and, hasleep', if_pos rfl]

/-- The bucket of a line is found by the tables' descriptors alone. -/
theorem bucketOfLine_congr {t : State} (addr : Nat) (hareas : t.areas = s.areas)
    (hrd : ∀ d ∈ [FT_TABLE.valid, FT_TABLE.kind, FT_TABLE.per_pipe, FT_TABLE.mem, FT_TABLE.base, FT_TABLE.log2_buckets],
      ∀ i, t.rd d i = s.rd d i) : bucketOfLine t addr = bucketOfLine s addr := by
  simp only [List.mem_cons, List.not_mem_nil, or_false, forall_eq_or_imp, forall_eq] at hrd
  obtain ⟨hvalid, hkind, hpipe, hmem, hbase, hbuckets⟩ := hrd
  simp only [bucketOfLine, copiesOf, twoCopies, bucketAddr, copyFirst, bucketsOf, tableMem, areaBase_congr hareas, State.on, hvalid,
    hkind, hpipe, hmem, hbase, hbuckets]
  rfl

/-- A line of steward memory that no flow table holds: nothing recomputes it. -/
theorem lineFailed_steward {line : Nat} (hlo : stewardMemLo ≤ line * 64) (hhi : line * 64 + 64 ≤ stewardMemHi)
    (hbucket : bucketOfLine s (line * 64) = none) (redone : Bool) : lineFailed s line redone =
      .none { s with poison := if s.poison.contains line then s.poison else s.poison ++ [line] } := by
  have hplace : ¬ line * 64 - sramBase < 0x04000000 ∧ ¬ (0x04800000 ≤ line * 64 - sramBase ∧ line * 64 - sramBase < 0x04C00000) ∧
      line * 64 < g6Base := by
    have hsram : sramBase = 0x010000000000 := rfl
    have hg6 : g6Base = 0x100000000000 := rfl
    have hfrom : 0x010000000000 + 0x09A00000 ≤ line * 64 := hlo
    have hto : line * 64 + 64 ≤ 0x010000000000 + 0x09E00000 := hhi
    omega
  obtain ⟨hbuffer, hqueue, hg6⟩ := hplace
  have hsame := (bucketOfLine_congr (s := s) (t := { s with poison := if s.poison.contains line then s.poison else s.poison ++ [line] })
    (line * 64) rfl fun _ _ _ => rfl).trans hbucket
  rw [lineFailed, ownerOf, hsame]
  dsimp only
  rw [if_pos hg6, ownerSram, if_neg hbuffer, if_neg hqueue]

/-- The state in which SCRUB has read a line of SRAM. -/
def scrubRead (s : State) : State := sramAccess (s.count MNT_ACT.progress 1 1) 1 0

theorem rd_scrubRead {d : Desc} (i : Nat) (hpmc : PMC_CNT.count.apart d = true) (hprogress : MNT_ACT.progress.apart d = true) :
    (scrubRead s).rd d i = s.rd d i := by
  rw [scrubRead, rd_sramAccess _ _ _ _ _ hpmc, State.rd_count_apart _ _ _ _ _ _ hprogress]

theorem bucketOfLine_scrubRead (addr : Nat) : bucketOfLine (scrubRead s) addr = bucketOfLine s addr := by
  refine bucketOfLine_congr addr (by simp [scrubRead]) fun d hd i => rd_scrubRead i ?_ ?_
  · exact (List.all_eq_true (p := (PMC_CNT.count.apart ·))).mp (by decide) d hd
  · exact (List.all_eq_true (p := (MNT_ACT.progress.apart ·))).mp (by decide) d hd

/-- The state in which a line of steward memory is lost, counted, logged and reported. -/
def scrubLost (s : State) (line : Nat) : State :=
  logScrub (detFailed { scrubRead s with
    poison := if (scrubRead s).poison.contains line then (scrubRead s).poison else (scrubRead s).poison ++ [line] }) (line * 64)

/-- A bad line of steward memory is logged and reported: nothing recomputes it (R897). -/
theorem exec_scrubLine_bad_steward {line : Nat} (hrun : stopped s = false) (hstate : s.rd MNT_ACT.state 1 = actRunning)
    (hstop : s.mnt.stopReq.contains 1 = false) (hlo : stewardMemLo ≤ line * 64) (hhi : line * 64 + 64 ≤ stewardMemHi)
    (hbucket : bucketOfLine s (line * 64) = none) : exec (.scrubLine line true false) s = .next (scrubLost s line) ∧
      scrubLost s line = logScrub (settle (lineFailed (scrubRead s) line false)) (line * 64) := by
  have hfrom : 0x010000000000 + 0x09A00000 ≤ line * 64 := hlo
  have hto : line * 64 + 64 ≤ 0x010000000000 + 0x09E00000 := hhi
  have hg6 : decide (g6Base ≤ line * 64) = false := decide_eq_false (by
    have hbase : g6Base = 0x100000000000 := rfl
    omega)
  have hexists : memExists s (line * 64) = true := by
    have hbase : sramBase = 0x010000000000 := rfl
    have hsize : sramBase + sramSize = 0x010000000000 + 0x0A000000 := rfl
    rw [memExists, Bool.or_eq_true, Bool.and_eq_true, decide_eq_true_eq, decide_eq_true_eq]
    omega
  have hfail := lineFailed_steward (s := scrubRead s) hlo hhi ((bucketOfLine_scrubRead _).trans hbucket) false
  refine ⟨?_, ?_⟩
  · rw [exec_scrubLine hrun hstate hstop hexists]
    dsimp only
    rw [hg6, Bool.false_and, if_neg (by decide), if_neg (c := false = true) (by decide), Bool.true_or, if_pos rfl]
    change Host.Outcome.next (match lineFailed (scrubRead s) line false with
      | .none _ => logScrub (settle (lineFailed (scrubRead s) line false)) (line * 64)
      | _ => settle (lineFailed (scrubRead s) line false)) = _
    rw [hfail]
    rfl
  · rw [hfail]
    rfl

/-- MNT_SCRUB_LOG shows the head of its log, and nothing else changes. -/
theorem syncScrub_op {α : Type} (op : State → α) (hwr : ∀ (t : State) d v i j, op (t.wr d v i j) = op t) : op (syncScrub s) = op s := by
  unfold syncScrub
  split <;> rw [hwr, hwr]

/-- With room in the log, a lost line joins it. -/
theorem logScrub_room (hroom : s.mnt.log.length < 64) (addr : Nat) :
    logScrub s addr = raise (syncScrub { s with mnt := { s.mnt with log := s.mnt.log ++ [addr] } }) 0x201 := by
  rw [logScrub, if_neg (Nat.not_le.mpr hroom)]

theorem scrubLost_parts {line : Nat} (hroom : s.mnt.log.length < 64) :
    (scrubLost s line).mnt.log = s.mnt.log ++ [line * 64] ∧ (scrubLost s line).poison.contains line = true ∧
    (scrubLost s line).rd IRQ_SRC.asserted 0x201 = 1 ∧ (scrubLost s line).mem = s.mem ∧ (scrubLost s line).hostMem = s.hostMem := by
  have hroom' : (detFailed { scrubRead s with
      poison := if (scrubRead s).poison.contains line then (scrubRead s).poison else (scrubRead s).poison ++ [line] }).mnt.log.length < 64 := by
    simpa [scrubRead] using hroom
  rw [scrubLost, logScrub_room hroom']
  refine ⟨?_, ?_, rd_raise_asserted _ (by decide), ?_, ?_⟩
  · rw [raise_mnt, syncScrub_op State.mnt (by simp)]
    simp [scrubRead]
  · rw [raise_poison, syncScrub_op State.poison (by simp), detFailed_poison]
    dsimp only
    split
    case isTrue h => exact h
    case isFalse => simp
  · rw [raise_mem, syncScrub_op State.mem (by simp)]
    simp [scrubRead]
  · rw [raise_hostMem, syncScrub_op State.hostMem (by simp)]
    simp [scrubRead]

/-- A start request's bits stand apart from the activities' registers. -/
theorem rd_startBits (x : StartBits) {d : Desc} (b : Nat)
    (hapart : [MNT_START.started, MNT_START.busy_conflict, MNT_START.not_allowed].all (·.apart d) = true) :
    (startBits s x).rd d b = s.rd d b := by
  simp only [List.all_cons, List.all_nil, Bool.and_true, Bool.and_eq_true] at hapart
  obtain ⟨hstarted, hbusy, hdenied⟩ := hapart
  rw [startBits, State.rd_wr_apart _ _ _ _ _ _ hdenied, State.rd_wr_apart _ _ _ _ _ _ hbusy, State.rd_wr_apart _ _ _ _ _ _ hstarted]

theorem rd_startBits_shown (x : StartBits) : (startBits s x).rd MNT_START.started = x.started % 2 ^ 8 ∧
    (startBits s x).rd MNT_START.busy_conflict = x.busy % 2 ^ 8 ∧ (startBits s x).rd MNT_START.not_allowed = x.denied % 2 ^ 8 := by
  rw [startBits]
  refine ⟨?_, ?_, State.rd_wr_same _ _ _ _ _ (by decide)⟩
  · rw [State.rd_wr_apart _ _ _ _ _ _ (by decide), State.rd_wr_apart _ _ _ _ _ _ (by decide)]
    exact State.rd_wr_same _ _ _ _ _ (by decide)
  · rw [State.rd_wr_apart _ _ _ _ _ _ (by decide)]
    exact State.rd_wr_same _ _ _ _ _ (by decide)

/-- A free activity that is allowed starts, and the request shows it. -/
theorem exec_mntStart_started (hrun : stopped s = false) (hw : writable who MNT_START.start 0 s = true) (h1 : 1 ≤ a) (h7 : a ≤ 7)
    (hallow : actAllowed s a (s.rd MNT_ACT.arg a) = true) (hfree : conflictsNow s a = []) (hpaused : s.rd MNT_ACT.state a ≠ actPaused) :
    ∃ t, exec (.mntStart who (2 ^ a)) s = .next t ∧ Started s a t ∧ t.rd MNT_START.started = 2 ^ a ∧
      t.rd MNT_START.busy_conflict = 0 ∧ t.rd MNT_START.not_allowed = 0 := by
  have hbit : putBit 0 a true = 2 ^ a := (named_activities h1 h7).2
  have hfit : 2 ^ a % 2 ^ 8 = 2 ^ a := Nat.mod_eq_of_lt (Nat.pow_lt_pow_right (by decide) (has_act h7))
  obtain ⟨hstate, htime, hprogress, hfail, hothers, hdeferrals, hmem, hhost⟩ := started_startAct (s := unstopped s a) h7
  obtain ⟨hstarted, hbusy, hdenied⟩ := rd_startBits_shown (s := startAct (unstopped s a) a) { ({} : StartBits) with started := putBit 0 a true }
  refine ⟨startBits (startAct (unstopped s a) a) { ({} : StartBits) with started := putBit 0 a true }, ?_, ⟨?_, ?_, ?_, ?_, fun b hb => ?_,
    fun b => ?_, ?_, ?_⟩, ?_, hbusy, hdenied⟩
  · rw [exec_mntStart hrun hw h1 h7, startOne_free _ hallow hfree hpaused]
  · rw [rd_startBits _ _ (by decide), hstate]
  · rw [rd_startBits _ _ (by decide), htime]
    rfl
  · rw [rd_startBits _ _ (by decide), hprogress]
  · rw [rd_startBits _ _ (by decide), hfail]
  · rw [rd_startBits _ _ (by decide), hothers b hb]
    rfl
  · rw [rd_startBits _ _ (by decide), hdeferrals b]
    rfl
  · simp only [startBits, State.wr_mem]
    exact hmem
  · simp only [startBits, State.wr_hostMem]
    exact hhost
  · rw [hstarted, hbit, hfit]

/-- An automatic start behind SCRUB alone pauses SCRUB and runs. -/
theorem started_pausing (h7 : a ≤ 7) (hother : a ≠ 1) : ∃ t, startAct ((deferred s a).wr MNT_ACT.state actPaused 1) a = t ∧
    t.rd MNT_ACT.state a = actRunning ∧ t.rd MNT_ACT.state 1 = actPaused ∧
    t.rd MNT_ACT.deferrals a = (s.rd MNT_ACT.deferrals a + 1) % 2 ^ 32 ∧ t.mem = s.mem ∧ t.hostMem = s.hostMem := by
  obtain ⟨hstate, -, -, -, hothers, hdeferrals, hmem, hhost⟩ := started_startAct (s := (deferred s a).wr MNT_ACT.state actPaused 1) h7
  refine ⟨_, rfl, hstate, ?_, ?_, ?_, ?_⟩
  · rw [hothers 1 (Ne.symm hother)]
    exact State.rd_wr_same _ _ _ _ _ (by decide)
  · rw [hdeferrals, State.rd_wr_apart _ _ _ _ _ _ (by decide), deferred,
      State.rd_count_same _ _ _ _ _ (by simp [Desc.has, MNT_ACT.deferrals, has_act h7]), State.rd_wr_apart _ _ _ _ _ _ (by decide)]
    rfl
  · rw [hmem]
    simp [deferred]
  · rw [hhost]
    simp [deferred]

/-- An activity that a running one other than SCRUB alone stands in the way of waits. -/
theorem tryPending_waits {b : Nat} (h7 : a ≤ 7) (hidle : actState s a = actIdle) (hbusy : conflictsNow s a = [b]) (hb : b ≠ 1) :
    tryPending (deferred s a) a = deferred s a := by
  rw [tryPending, conflictsNow_deferred h7 hidle, hbusy]
  split
  · rfl
  · split
    case h_1 h => exact absurd h (by simp)
    case h_2 h => exact absurd (List.cons.inj h).1 hb
    case h_3 => rfl

/-- The state in which an audit run that has ended is counted. -/
def audited (s : State) (a : Nat) : State := if a = 3 then s.count FT_AUDIT_STAT.runs else s

theorem rd_audited {d : Desc} (b : Nat) (h : FT_AUDIT_STAT.runs.apart d = true) : (audited s a).rd d b = s.rd d b := by
  unfold audited
  split
  · exact State.rd_count_apart _ _ _ _ _ _ h
  · rfl

theorem now_audited : now (audited s a) = now s := by
  unfold audited
  split
  · simp [now]
  · rfl

theorem hostMem_audited : (audited s a).hostMem = s.hostMem := by
  unfold audited
  split
  · simp
  · rfl

theorem quiet_iff : (activities.all fun b => b = a || actState s b = 0) = true ↔ ∀ b ∈ activities, b = a ∨ actState s b = 0 := by
  simp only [List.all_eq_true, Bool.or_eq_true, decide_eq_true_eq]

/-- The state in which an activity joins those halted at a step boundary. -/
def haltedAt (s : State) (a : Nat) : State := { s with mnt := { s.mnt with halted := s.mnt.halted ++ [a] } }

/-- A step boundary with a stop request: the activity is halted and reported (R889). -/
theorem exec_activityEnd_halted (hrun : stopped s = false) (h1 : 1 ≤ a) (h7 : a ≤ 7) (hstate : s.rd MNT_ACT.state a ≠ 0)
    (hstop : s.mnt.stopReq = [a]) (hquiet : (activities.all fun b => b = a || actState s b = 0) = true) (fail : Nat) :
    ∃ t, exec (.activityEnd a fail) s = .next t ∧ t.rd MNT_ACT.result a = 3 ∧ t.mnt.halted = s.mnt.halted ++ [a] ∧
      t.mnt.stopReq = [] ∧ t.rd MNT_ACT.state a = 0 ∧ t.rd MNT_ACT.end_tt a = now s % 2 ^ 64 ∧
      t.rd MNT_ACT.runs a = (s.rd MNT_ACT.runs a + 1) % 2 ^ 32 ∧ t.rd IRQ_SRC.asserted 0x200 = 1 ∧ t.hostMem = s.hostMem := by
  obtain ⟨hresult, -, hidle, htime, hruns, hasserted, hhalted, hleft, hhost⟩ :=
    ended_endAct (s := haltedAt s a) h7 3 (s.rd MNT_ACT.fail_code a) (quiet_iff.mp hquiet)
  have hexec : exec (.activityEnd a fail) s = .next (endAct (haltedAt s a) a 3 (s.rd MNT_ACT.fail_code a)) :=
    exec_activityEnd_stopped hrun (mem_activities h1 h7) hstate (by simp [hstop]) fail
  have hnow : now (haltedAt s a) = now s := rfl
  have hrd : (haltedAt s a).rd MNT_ACT.runs a = s.rd MNT_ACT.runs a := rfl
  have hnone : ((haltedAt s a).mnt.stopReq.filter fun b => decide (b ≠ a)) = [] := by simp [haltedAt, hstop]
  rw [hnow] at htime
  rw [hrd] at hruns
  exact ⟨_, hexec, hresult, hhalted, hleft.trans hnone, hidle, htime, hruns, hasserted, hhost⟩

/-- The log after its head has been read: the next entry is shown. -/
theorem scrubLogRead_parts (v y : Nat) {t : State} (h : t = syncScrub { s with rdata := v, mnt := { s.mnt with log := [y] } }) :
    t.rdata = v ∧ t.mnt.log = [y] ∧ t.rd MNT_SCRUB_LOG.addr = y % 2 ^ 48 ∧ t.rd MNT_SCRUB_LOG.entry_valid = 1 ∧
      t.mem = s.mem ∧ t.hostMem = s.hostMem ∧ t.links = s.links := by
  have hshown : t = (({ s with rdata := v, mnt := { s.mnt with log := [y] } } : State).wr MNT_SCRUB_LOG.addr y).wr
      MNT_SCRUB_LOG.entry_valid 1 := h
  subst hshown
  refine ⟨by simp, by simp, ?_, State.rd_wr_same _ _ _ _ _ (by decide), by simp, by simp, by simp⟩
  rw [State.rd_wr_apart _ _ _ _ _ _ (by decide)]
  exact State.rd_wr_same _ _ _ _ _ (by decide)

/-- An activity conflicts only with running ones, and it is idle when its automatic start is due. -/
theorem running_of_conflict {b : Nat} (h : b ∈ conflictsNow s a) : actState s b = actRunning := by
  have hb := (List.mem_filter.mp h).2
  rw [Bool.and_eq_true, decide_eq_true_eq] at hb
  exact hb.1

/-- A read of the log answers the word `v` that MNT_SCRUB_LOG shows, and removes the head. -/
theorem exec_scrubLogRead {v : Nat} (hrun : stopped s = false) (hreach : reaches who Blk.mnt.base = true)
    (hword : s.rd MNT_SCRUB_LOG.addr + s.rd MNT_SCRUB_LOG.entry_valid <<< 48 + s.rd MNT_SCRUB_LOG.lost <<< 49 = v) :
    exec (.scrubLogRead who) s = .next (syncScrub { s with rdata := v, mnt := { s.mnt with log := s.mnt.log.tail } }) := by
  change execScrubLogRead who s = _
  have hrd (d : Desc) : (answer s 0).rd d = s.rd d := rfl
  rw [execScrubLogRead, run_running s _ hrun, managed_reaches _ _ _ _ hreach]
  dsimp only
  simp only [hrd]
  rw [hword]
  rfl

theorem exec_scrubLogRead_parts {v x y : Nat} (hrun : stopped s = false) (hreach : reaches who Blk.mnt.base = true)
    (hlog : s.mnt.log = [x, y])
    (hword : s.rd MNT_SCRUB_LOG.addr + s.rd MNT_SCRUB_LOG.entry_valid <<< 48 + s.rd MNT_SCRUB_LOG.lost <<< 49 = v) :
    ∃ t, exec (.scrubLogRead who) s = .next t ∧ t.rdata = v ∧ t.mnt.log = [y] ∧ t.rd MNT_SCRUB_LOG.addr = y % 2 ^ 48 ∧
      t.rd MNT_SCRUB_LOG.entry_valid = 1 ∧ t.mem = s.mem ∧ t.hostMem = s.hostMem ∧ t.links = s.links :=
  ⟨_, exec_scrubLogRead hrun hreach hword, scrubLogRead_parts v y (by rw [hlog]; rfl)⟩

end Activities

/-- Settles O54: an activity's own registers stand apart from everything that its start or its end touches.  That SCRUB may read its
lines in any order and pauses at once in the step of another activity's automatic start is the model's choice (log entry 99). -/
theorem maintenanceActivities : Obligations.MaintenanceActivities := by
  unfold Obligations.MaintenanceActivities
  refine ⟨?started, ?busy, ?denied, fun s who a hrun hw h1 h7 hstate hstop => ?stop, fun s who a hrun hw h1 h7 hstate => ?stopIdle,
    ?autoStart, ?autoWaits, ?autoPauses, ?ends, ?stops, ?scrubGood, ?scrubLost, ?logRead,
    fun s d hrun hstate hstop hawake hd hmask hleft => exec_retrainStep hrun hstate hstop hawake hd hmask hleft true,
    fun s d hrun hstate hstop hawake hd hmask hleft => exec_retrainStep hrun hstate hstop hawake hd hmask hleft false,
    fun s d ok hrun _ _ _ _ _ hdone => exec_retrainStep_through hrun hdone ok,
    fun s a fail hrun ha hstate hstop hover => exec_activityEnd hrun ha hstate hstop hover fail,
    fun s a fail hrun ha hstate hstop => exec_activityEnd_stopped hrun ha hstate hstop fail,
    fun s a fail hrun ha hstate hstop hover => exec_activityEnd_working hrun ha hstate hstop hover fail,
    fun s line hrun hstate hstop hexists hlow hgood => exec_scrubLine_good_sram hrun hstate hstop hexists hlow hgood,
    fun s line hrun hstate hstop hexists hhigh hawake hgood => exec_scrubLine_good_g6 hrun hstate hstop hexists hhigh hawake hgood,
    fun s line bad redone hrun hstate hstop hexists hhigh hasleep =>
      exec_scrubLine_asleep hrun hstate hstop hexists hhigh hasleep bad redone, ?scrubBad,
    fun s who hrun hreach => exec_scrubLogRead hrun hreach rfl⟩
  case started =>
    intro s who a hrun hw h1 h7 hallow hfree hpaused
    obtain ⟨t, hexec, ⟨hstate, htime, hprogress, hfail, -, -, hmem, hhost⟩, hstarted, hbusy, hdenied⟩ :=
      exec_mntStart_started hrun hw h1 h7 hallow hfree hpaused
    exact ⟨t, hexec, hstate, htime, hprogress, hfail, hstarted, hbusy, hdenied, hmem, hhost⟩
  case busy =>
    intro s who a hrun hw h1 h7 hallow hbusy
    rw [exec_mntStart hrun hw h1 h7, startOne_busy _ hallow hbusy, ← (named_activities h1 h7).2]
    rfl
  case denied =>
    intro s who a hrun hw h1 h7 hdenied
    rw [exec_mntStart hrun hw h1 h7, startOne_denied _ hdenied, ← (named_activities h1 h7).2]
    rfl
  case stop => rw [exec_mntStop hrun hw h1 h7, if_pos ⟨hstate, hstop⟩]
  case stopIdle => rw [exec_mntStop hrun hw h1 h7, if_neg (fun h => h.1 hstate), List.append_nil]
  case autoStart =>
    intro s a hrun h1 h7 hdue hallow hfree
    obtain ⟨hstate, htime, -, -, -, -, hmem, hhost⟩ := started_startAct (s := s) h7
    exact ⟨_, (exec_activityAutoStart hrun h1 h7 hdue hallow).trans (by rw [hfree]; rfl), hstate, htime, hmem, hhost⟩
  case autoWaits =>
    intro s a b hrun h1 h7 hdue hallow hbusy hb
    refine (exec_activityAutoStart hrun h1 h7 hdue hallow).trans ?_
    rw [← deferred, tryPending_waits h7 (autoDue_idle hdue) hbusy hb, hbusy]
    rfl
  case autoPauses =>
    intro s a hrun h1 h7 hdue hallow hbusy hnone
    have hidle := autoDue_idle hdue
    have hother : a ≠ 1 := fun h => by
      have hrunning := running_of_conflict (s := s) (a := a) (b := 1) (by simp [hbusy])
      rw [← h, hidle] at hrunning
      exact absurd hrunning (by decide)
    obtain ⟨t, ht, hparts⟩ := started_pausing (s := s) h7 hother
    refine ⟨t, (exec_activityAutoStart hrun h1 h7 hdue hallow).trans ?_, hparts⟩
    rw [← deferred, tryPending_deferred h7 (by rw [hnone]; rfl) hidle, hbusy, hnone, ← ht]
    rfl
  case ends =>
    intro s a fail hrun h1 h7 hstate hstop hover hquiet
    have hended := ended_endAct (s := audited s a) h7 (if failOf s a fail = 0 then 1 else 2) (failOf s a fail) (fun b hb =>
      (quiet_iff.mp hquiet b hb).imp_right fun h => (rd_audited b (by decide)).trans h)
    refine ⟨_, exec_activityEnd hrun (mem_activities h1 h7) hstate hstop hover fail, hended.result.trans ?_, hended.fail_code,
      hended.state, hended.end_tt.trans ?_, hended.runs.trans ?_, hended.asserted, hended.hostMem.trans ?_⟩
    · split <;> rfl
    · rw [now_audited]
    · rw [rd_audited a (by decide)]
    · exact hostMem_audited
  case stops =>
    intro s a fail hrun h1 h7 hstate hstop hquiet
    exact exec_activityEnd_halted hrun h1 h7 hstate hstop hquiet fail
  case scrubGood =>
    intro s line hrun hstate hstop hexists hlow hgood
    refine ⟨_, exec_scrubLine_good_sram hrun hstate hstop hexists hlow hgood, ?_, by simp, by simp, by simp, by simp⟩
    rw [rd_sramAccess _ _ _ _ _ (by decide), State.rd_count_same _ _ _ _ _ (by decide)]
    rfl
  case scrubLost =>
    intro s line hrun hstate hstop hlo hhi hbucket hroom
    exact ⟨_, (exec_scrubLine_bad_steward hrun hstate hstop hlo hhi hbucket).1, scrubLost_parts hroom⟩
  case logRead =>
    intro s who x y hrun hreach hlog
    exact exec_scrubLogRead_parts hrun hreach hlog rfl
  case scrubBad =>
    intro s line hrun hstate hstop _ hlo hhi hbucket
    obtain ⟨hexec, hlost⟩ := exec_scrubLine_bad_steward hrun hstate hstop hlo hhi hbucket
    rw [hexec, hlost]
    rfl

end Sys2Proof.Machine
end

section
/-! SUPPORT. Paired operation (R901 to R930), and the obligation O56 that it settles. -/
namespace Sys2Proof.Machine

section Pairing

variable {s : State} {who : Initiator}

/-! ### Entering a pair state -/

theorem releasePubs_none (h : s.pubs = []) : releasePubs s = s := by
  have hset (x : List Publication) (hx : x = s.pubs) : { s with pubs := x } = s := by rw [hx]
  rw [releasePubs, h]
  exact hset _ h.symm

theorem setPair_mirrored (h : s.pubs = []) : setPair s 1 = s.wr PAIR_STATUS.state 1 :=
  releasePubs_none (s := s.wr PAIR_STATUS.state 1) (by simpa using h)

/-- The state of a device that is alone. -/
def soloed (s : State) : State := { forgetDeltas (s.wr PAIR_STATUS.state 3) with pseq := 0 }

theorem setPair_solo (h : s.pubs = []) : setPair s 3 = soloed s :=
  releasePubs_none (s := soloed s) (by simpa [soloed, forgetDeltas] using h)

theorem rd_soloed {d : Desc} (i : Nat) (h : PAIR_STATUS.state.apart d = true) : (soloed s).rd d i = s.rd d i :=
  State.rd_wr_apart s _ _ _ _ _ h

theorem rd_state_soloed : (soloed s).rd PAIR_STATUS.state = 3 := State.rd_wr_same s PAIR_STATUS.state 3 0 0 (by decide)

/-- A queue that leaves ACTIVE keeps what neither its own state, the pushed copies nor their count hold. -/
theorem leaveActive_op {α : Type} (op : State → α) (hcount : ∀ t : State, op (t.count WQ_PUSH_DEFER.count) = op t)
    (hheld : ∀ (t : State) n, op { t with pushHeld := n } = op t) (hqueues : ∀ (t : State) x, op { t with queues := x } = op t)
    (q : Nat) : op (leaveActive s q) = op s := by
  have hpush : op (match (queueInt s q).pushed with
      | none => s
      | some _ => { s.count WQ_PUSH_DEFER.count with pushHeld := s.pushHeld - 1 }) = op s := by
    split
    · rfl
    · rw [hheld, hcount]
  exact (hqueues _ _).trans hpush

/-- A standby that waits apart from its partner: it sends nothing, and fetches nothing. -/
theorem setPair_detached_op {α : Type} (op : State → α) (hcount : ∀ t : State, op (t.count WQ_PUSH_DEFER.count) = op t)
    (hheld : ∀ (t : State) n, op { t with pushHeld := n } = op t) (hqueues : ∀ (t : State) x, op { t with queues := x } = op t) :
    op (setPair s 6) = op { forgetDeltas (s.wr PAIR_STATUS.state 6) with pubs := [] } :=
  foldl_frame op _ (fun _ q => leaveActive_op op hcount hheld hqueues q) _ _

/-- What entering STANDBY_DETACHED leaves. -/
structure Detached (s t : State) : Prop where
  state : t.rd PAIR_STATUS.state = 6
  pubs : t.pubs = []
  deltas : t.deltas = []
  mem : t.mem = s.mem
  hostMem : t.hostMem = s.hostMem
  pair : t.pair = s.pair
  kept : ∀ d : Desc, WQ_PUSH_DEFER.count.apart d = true → PAIR_STATUS.state.apart d = true → ∀ i, t.rd d i = s.rd d i

theorem detached_setPair : Detached s (setPair s 6) := by
  have hrd (d : Desc) (h : WQ_PUSH_DEFER.count.apart d = true) (i : Nat) :
      (setPair s 6).rd d i = (s.wr PAIR_STATUS.state 6).rd d i :=
    setPair_detached_op (fun t => t.rd d i) (fun _ => State.rd_count_apart _ _ _ _ _ _ h) (fun _ _ => rfl) fun _ _ => rfl
  refine ⟨?_, ?_, ?_, ?_, ?_, ?_, fun d hpush hstate i => ?_⟩
  · rw [hrd _ (by decide), State.rd_wr_same _ _ _ _ _ (by decide)]
    rfl
  · exact setPair_detached_op State.pubs (by simp) (fun _ _ => rfl) fun _ _ => rfl
  · exact setPair_detached_op State.deltas (by simp) (fun _ _ => rfl) fun _ _ => rfl
  · rw [setPair_detached_op State.mem (by simp) (fun _ _ => rfl) fun _ _ => rfl]
    simp [forgetDeltas]
  · rw [setPair_detached_op State.hostMem (by simp) (fun _ _ => rfl) fun _ _ => rfl]
    simp [forgetDeltas]
  · rw [setPair_detached_op State.pair (by simp) (fun _ _ => rfl) fun _ _ => rfl]
    simp [forgetDeltas]
  · rw [hrd d hpush, State.rd_wr_apart _ _ _ _ _ _ hstate]

/-! ### The link goes down -/

/-- What the stop of the link leaves (R907). -/
structure LinkDropped (s t : State) : Prop where
  linkUp : t.rd PAIR_STATUS.link_up = 0
  asserted : t.rd IRQ_SRC.asserted 0x220 = 1
  heard : t.pair.heard = false
  state : t.rd PAIR_STATUS.state = s.rd PAIR_STATUS.state
  alive : t.rd PAIR_STATUS.peer_alive = s.rd PAIR_STATUS.peer_alive
  hold : t.rd PAIR_CFG.hold_us = s.rd PAIR_CFG.hold_us
  time : now t = now s
  pubs : t.pubs = s.pubs
  deltas : t.deltas = s.deltas
  mem : t.mem = s.mem
  hostMem : t.hostMem = s.hostMem

/-- The link has stopped. -/
def linkStopped (s : State) : State :=
  updPair (raise ((s.wr PAIR_STATUS.link_up 0).count PAIR_CNT.count 1 3) 0x220) fun p => { p with heard := false, conflict := false }

/-- A HANDOVER in progress ends REFUSED as the link stops. -/
theorem dropPairLink_op {α : Type} (op : State → α) (hbusy : ∀ t : State, op (t.wr PAIR_CMD.busy 0) = op t)
    (hresult : ∀ t : State, op (t.wr PAIR_CMD.result 2) = op t)
    (hpair : ∀ (t : State) x, op { t with pair := { t.pair with handover := x } } = op t) :
    op (dropPairLink s) = op (linkStopped s) := by
  change op (if (linkStopped s).pair.handover then
    updPair (((linkStopped s).wr PAIR_CMD.busy 0).wr PAIR_CMD.result 2) fun p => { p with handover := false } else linkStopped s) = _
  split
  · exact (hpair _ _).trans ((hresult _).trans (hbusy _))
  · rfl

theorem linkDropped_dropPairLink : LinkDropped s (dropPairLink s) := by
  have hrd {d : Desc} (i : Nat) (hbusy : PAIR_CMD.busy.apart d = true) (hresult : PAIR_CMD.result.apart d = true) :
      (dropPairLink s).rd d i = (raise ((s.wr PAIR_STATUS.link_up 0).count PAIR_CNT.count 1 3) 0x220).rd d i :=
    dropPairLink_op (fun t => t.rd d i) (fun _ => State.rd_wr_apart _ _ _ _ _ _ hbusy) (fun _ => State.rd_wr_apart _ _ _ _ _ _ hresult)
      fun _ _ => rfl
  have hkept {d : Desc} (hbusy : PAIR_CMD.busy.apart d = true) (hresult : PAIR_CMD.result.apart d = true)
      (hbit : IRQ_SRC.asserted.apart d = true) (hbad : IRQ_MSIX_BAD.count.apart d = true) (hcount : PAIR_CNT.count.apart d = true) :
      (dropPairLink s).rd d = (s.wr PAIR_STATUS.link_up 0).rd d := by
    rw [hrd 0 hbusy hresult, rd_raise _ _ _ _ hbit hbad, State.rd_count_apart _ _ _ _ _ _ hcount]
  have hop {α : Type} (op : State → α) (hwr : ∀ (t : State) d v, op (t.wr d v) = op t)
      (hpair : ∀ (t : State) x, op { t with pair := { t.pair with handover := x } } = op t) : op (dropPairLink s) = op (linkStopped s) :=
    dropPairLink_op op (fun _ => hwr _ _ _) (fun _ => hwr _ _ _) hpair
  refine ⟨?_, ?_, ?_, ?_, ?_, ?_, ?_, ?_, ?_, ?_, ?_⟩
  · rw [hkept (by decide) (by decide) (by decide) (by decide) (by decide), State.rd_wr_same _ _ _ _ _ (by decide)]
    rfl
  · rw [hrd _ (by decide) (by decide), rd_raise_asserted _ (by decide)]
  · exact hop (fun t => t.pair.heard) (by simp) fun _ _ => rfl
  · rw [hkept (by decide) (by decide) (by decide) (by decide) (by decide), State.rd_wr_apart _ _ _ _ _ _ (by decide)]
  · rw [hkept (by decide) (by decide) (by decide) (by decide) (by decide), State.rd_wr_apart _ _ _ _ _ _ (by decide)]
  · rw [hkept (by decide) (by decide) (by decide) (by decide) (by decide), State.rd_wr_apart _ _ _ _ _ _ (by decide)]
  · rw [hop now (by simp [now]) fun _ _ => rfl]
    simp [now, linkStopped, updPair]
  · rw [hop State.pubs (by simp) fun _ _ => rfl]
    simp [linkStopped, updPair]
  · rw [hop State.deltas (by simp) fun _ _ => rfl]
    simp [linkStopped, updPair]
  · rw [hop State.mem (by simp) fun _ _ => rfl]
    simp [linkStopped, updPair]
  · rw [hop State.hostMem (by simp) fun _ _ => rfl]
    simp [linkStopped, updPair]

theorem pairLinkDown_down (h : s.rd PAIR_STATUS.link_up = 0) : pairLinkDown s = s := by
  rw [pairLinkDown, on_of_rd_zero h]
  rfl

theorem pairLinkDown_solo (hup : s.rd PAIR_STATUS.link_up = 1) (hstate : s.rd PAIR_STATUS.state = 1)
    (halive : s.rd PAIR_STATUS.peer_alive = 0) : pairLinkDown s = goSolo (dropPairLink s) := by
  have hdropped := linkDropped_dropPairLink (s := s)
  have hst : pairState (dropPairLink s) = 1 := hdropped.state.trans hstate
  have hal : (dropPairLink s).on PAIR_STATUS.peer_alive = false := on_of_rd_zero (hdropped.alive.trans halive)
  rw [pairLinkDown, on_of_rd_one hup]
  dsimp only
  rw [hst, hal]
  rfl

theorem pairLinkDown_hold (hup : s.rd PAIR_STATUS.link_up = 1) (hstate : s.rd PAIR_STATUS.state = 1)
    (halive : s.rd PAIR_STATUS.peer_alive = 1) (hhold : s.rd PAIR_CFG.hold_us ≠ 0) :
    pairLinkDown s = raise (setPair (dropPairLink s) 2) 0x221 := by
  have hdropped := linkDropped_dropPairLink (s := s)
  have hst : pairState (dropPairLink s) = 1 := hdropped.state.trans hstate
  have hal : (dropPairLink s).on PAIR_STATUS.peer_alive = true := on_of_rd_one (hdropped.alive.trans halive)
  rw [pairLinkDown, on_of_rd_one hup]
  dsimp only
  rw [hst, hal, hdropped.hold, if_neg hhold]
  rfl

theorem pairLinkDown_detached (hup : s.rd PAIR_STATUS.link_up = 1) (hstate : s.rd PAIR_STATUS.state = 4 ∨ s.rd PAIR_STATUS.state = 5)
    (halive : s.rd PAIR_STATUS.peer_alive = 1) : pairLinkDown s = raise (setPair (dropPairLink s) 6) 0x221 := by
  have hdropped := linkDropped_dropPairLink (s := s)
  have hst : pairState (dropPairLink s) = 4 ∨ pairState (dropPairLink s) = 5 :=
    hstate.imp hdropped.state.trans hdropped.state.trans
  have hal : (dropPairLink s).on PAIR_STATUS.peer_alive = true := on_of_rd_one (hdropped.alive.trans halive)
  rw [pairLinkDown, on_of_rd_one hup]
  dsimp only
  rcases hst with h | h
  · rw [h, hal]
    rfl
  · rw [h, hal]
    rfl

/-- What going on alone leaves, with nothing that waits to be published (R907). -/
structure Alone (s t : State) : Prop where
  state : t.rd PAIR_STATUS.state = 3
  deltas : t.deltas = []
  pseq : t.pseq = 0
  asserted : t.rd IRQ_SRC.asserted 0x222 = 1
  mem : t.mem = s.mem
  hostMem : t.hostMem = s.hostMem
  pins : t.pins = s.pins
  earlier : ∀ k < 1024, s.rd IRQ_SRC.asserted k = 1 → t.rd IRQ_SRC.asserted k = 1
  kept : ∀ d : Desc, PAIR_STATUS.state.apart d = true → IRQ_SRC.asserted.apart d = true → IRQ_MSIX_BAD.count.apart d = true →
    ∀ i, t.rd d i = s.rd d i

theorem alone_goSolo (h : s.pubs = []) : Alone s (goSolo s) := by
  have hsolo : goSolo s = raise (soloed s) 0x222 := by rw [goSolo, pSolo, setPair_solo h]
  rw [hsolo]
  refine ⟨?_, ?_, ?_, rd_raise_asserted _ (by decide), ?_, ?_, ?_, fun k hk hset => rd_raise_kept hk ?_, fun d hstate hbit hbad i => ?_⟩
  · rw [rd_raise _ _ _ _ (by decide) (by decide), rd_state_soloed]
  · rw [raise_deltas]
    rfl
  · rw [raise_pseq]
    rfl
  · simp [soloed, forgetDeltas]
  · simp [soloed, forgetDeltas]
  · simp [soloed, forgetDeltas]
  · rw [rd_soloed k (by decide), hset]
  · rw [rd_raise _ _ _ _ hbit hbad, rd_soloed i hstate]

theorem exec_pairLinkTimeout (hrun : stopped s = false) (hdue : s.pair.lastBlock + 30000 ≤ now s) :
    exec .pairLinkTimeout s = .next (pairLinkDown s) := by
  change execPairLinkTimeout s = _
  rw [execPairLinkTimeout, run_running s _ hrun, if_pos hdue]

theorem exec_pairLinkTimeout_early (hrun : stopped s = false) (hearly : now s < s.pair.lastBlock + 30000) :
    exec .pairLinkTimeout s = .next s := by
  change execPairLinkTimeout s = _
  rw [execPairLinkTimeout, run_running s _ hrun, if_neg (Nat.not_le.mpr hearly)]

theorem exec_laneAlignmentLoss (hrun : stopped s = false) : exec .laneAlignmentLoss s = .next (pairLinkDown s) := run_running s _ hrun

/-- The link of the active device goes down with the partner's alive signal low: it goes on alone. -/
theorem pairLinkDown_solo_parts (hup : s.rd PAIR_STATUS.link_up = 1) (hstate : s.rd PAIR_STATUS.state = 1)
    (halive : s.rd PAIR_STATUS.peer_alive = 0) (hpubs : s.pubs = []) : ∃ t, pairLinkDown s = t ∧ t.rd PAIR_STATUS.link_up = 0 ∧
      t.rd PAIR_STATUS.state = 3 ∧ t.deltas = [] ∧ t.pseq = 0 ∧ t.rd IRQ_SRC.asserted 0x220 = 1 ∧ t.rd IRQ_SRC.asserted 0x222 = 1 ∧
      t.mem = s.mem ∧ t.hostMem = s.hostMem := by
  have hdropped := linkDropped_dropPairLink (s := s)
  have halone := alone_goSolo (hdropped.pubs.trans hpubs)
  refine ⟨_, pairLinkDown_solo hup hstate halive, ?_, halone.state, halone.deltas, halone.pseq,
    halone.earlier _ (by decide) hdropped.asserted, halone.asserted, halone.mem.trans hdropped.mem, halone.hostMem.trans hdropped.hostMem⟩
  rw [halone.kept _ (by decide) (by decide) (by decide), hdropped.linkUp]

/-- The link of the active device goes down with the partner's alive signal high: it holds. -/
theorem pairLinkDown_hold_parts (hup : s.rd PAIR_STATUS.link_up = 1) (hstate : s.rd PAIR_STATUS.state = 1)
    (halive : s.rd PAIR_STATUS.peer_alive = 1) (hhold : s.rd PAIR_CFG.hold_us ≠ 0) : ∃ t, pairLinkDown s = t ∧
      t.rd PAIR_STATUS.link_up = 0 ∧ t.rd PAIR_STATUS.state = 2 ∧ t.pair.holdTt = now s ∧ t.deltas = s.deltas ∧
      t.rd IRQ_SRC.asserted 0x221 = 1 ∧ t.mem = s.mem ∧ t.hostMem = s.hostMem := by
  have hdropped := linkDropped_dropPairLink (s := s)
  have hset : setPair (dropPairLink s) 2 = updPair ((dropPairLink s).wr PAIR_STATUS.state 2) fun p => { p with holdTt := now (dropPairLink s) } := rfl
  refine ⟨_, pairLinkDown_hold hup hstate halive hhold, ?_, ?_, ?_, ?_, rd_raise_asserted _ (by decide), ?_, ?_⟩
  · rw [rd_raise _ _ _ _ (by decide) (by decide)]
    exact (State.rd_wr_apart (dropPairLink s) _ _ _ _ _ (by decide)).trans hdropped.linkUp
  · rw [rd_raise _ _ _ _ (by decide) (by decide)]
    exact State.rd_wr_same (dropPairLink s) PAIR_STATUS.state 2 0 0 (by decide)
  · rw [raise_pair]
    exact hdropped.time
  · rw [raise_deltas, hset]
    simp [updPair, hdropped.deltas]
  · rw [raise_mem, hset]
    simp [updPair, hdropped.mem]
  · rw [raise_hostMem, hset]
    simp [updPair, hdropped.hostMem]

/-- The link of a standby goes down with the partner's alive signal high: it is detached. -/
theorem pairLinkDown_detached_parts (hup : s.rd PAIR_STATUS.link_up = 1)
    (hstate : s.rd PAIR_STATUS.state = 4 ∨ s.rd PAIR_STATUS.state = 5) (halive : s.rd PAIR_STATUS.peer_alive = 1) :
    ∃ t, pairLinkDown s = t ∧ t.rd PAIR_STATUS.link_up = 0 ∧ t.rd PAIR_STATUS.state = 6 ∧ t.pair.heard = false ∧
      t.rd IRQ_SRC.asserted 0x220 = 1 ∧ t.rd IRQ_SRC.asserted 0x221 = 1 ∧ t.mem = s.mem ∧ t.hostMem = s.hostMem := by
  have hdropped := linkDropped_dropPairLink (s := s)
  have hdetached := detached_setPair (s := dropPairLink s)
  refine ⟨_, pairLinkDown_detached hup hstate halive, ?_, ?_, ?_, rd_raise_kept (by decide) ?_, rd_raise_asserted _ (by decide), ?_, ?_⟩
  · rw [rd_raise _ _ _ _ (by decide) (by decide), hdetached.kept _ (by decide) (by decide), hdropped.linkUp]
  · rw [rd_raise _ _ _ _ (by decide) (by decide), hdetached.state]
  · rw [raise_pair, hdetached.pair, hdropped.heard]
  · rw [hdetached.kept _ (by decide) (by decide), hdropped.asserted]
  · rw [raise_mem, hdetached.mem, hdropped.mem]
  · rw [raise_hostMem, hdetached.hostMem, hdropped.hostMem]

/-! ### The partner as the link shows it -/

theorem pairLook_shut (h : s.rd PAIR_STATUS.link_up = 0 ∨ s.pair.conflict = true) : pairLook s = s := by
  rw [pairLook]
  refine if_pos ?_
  rcases h with h | h
  · rw [on_of_rd_zero h]
    rfl
  · rw [h, Bool.or_true]

/-- In a state that does not depend on the partner nothing follows from it. -/
theorem pairLook_kept (h : s.rd PAIR_STATUS.state ∈ [0, 1, 4, 5, 7]) : pairLook s = s := by
  have hcases : pairState s = 0 ∨ pairState s = 1 ∨ pairState s = 4 ∨ pairState s = 5 ∨ pairState s = 7 := by simpa [pairState] using h
  unfold pairLook
  dsimp only
  split
  · rfl
  · rcases hcases with h | h | h | h | h
    all_goals
      rw [h]
      rfl

/-- A detached standby waits for a partner of the same configuration. -/
theorem pairLook_unmatched (h : s.rd PAIR_STATUS.state = 6) (hmatch : s.rd PAIR_STATUS.cfg_match = 0) : pairLook s = s := by
  have hst : pairState s = 6 := h
  unfold pairLook
  dsimp only
  split
  · rfl
  · rw [hst, on_of_rd_zero hmatch]
    rfl

/-- A device alone is mirrored once its partner stands by. -/
theorem pairLook_mirrored (hup : s.rd PAIR_STATUS.link_up = 1) (hconflict : s.pair.conflict = false) (hstate : s.rd PAIR_STATUS.state = 3)
    (hmatch : s.rd PAIR_STATUS.cfg_match = 1) (hpeer : s.rd PAIR_STATUS.peer_state = 5) : pairLook s = raise (setPair s 1) 0x228 := by
  have hst : pairState s = 3 := hstate
  have hfence : fencedNow s = false := by
    rw [fencedNow, hpeer]
    rfl
  rw [pairLook, on_of_rd_one hup, hconflict]
  rw [hst, hfence, on_of_rd_one hmatch, hpeer]
  rfl

/-- A device alone is fenced by an active partner of a higher epoch. -/
theorem pairLook_fenced (hup : s.rd PAIR_STATUS.link_up = 1) (hconflict : s.pair.conflict = false) (hstate : s.rd PAIR_STATUS.state = 3)
    (hpeer : s.rd PAIR_STATUS.peer_state = 3) (hepoch : s.rd PAIR_STATUS.epoch < s.pair.peerEpoch) :
    pairLook s = raise (setPair s 6) 0x225 := by
  have hst : pairState s = 3 := hstate
  have hfence : fencedNow s = true := by
    rw [fencedNow, hpeer, decide_eq_true hepoch]
    rfl
  rw [pairLook, on_of_rd_one hup, hconflict]
  rw [hst, hfence]
  rfl

/-! ### The link comes up -/

/-- The link is up, and the partner's role is compared. -/
def linkRaised (s : State) : State :=
  updPair (raise (s.wr PAIR_STATUS.link_up 1) 0x220) fun p => { p with
    lastBlock := now s, conflict := decide (p.peerRole = s.rd PAIR_CFG.role_req) }

/-- The partner's configuration is compared. -/
def linkMatched (s : State) : State :=
  if s.pair.peerDig = configDigest s then s.wr PAIR_STATUS.cfg_match 1 else raise (s.wr PAIR_STATUS.cfg_match 0) 0x226

/-- A conflict of roles is reported. -/
def linkJudged (s : State) : State := if s.pair.conflict = true then raise s 0x229 else s

theorem exec_pairLinkUp (hrun : stopped s = false) (hon : enabled s .pair = true) (hdown : s.rd PAIR_STATUS.link_up = 0)
    (hlanes : s.start.serdes.contains 4 = true) (hclock : s.rd DEV_CLK_STAT.pair = 1) (hheard : s.pair.heard = true) :
    exec .pairLinkUp s = .next (pairLook (linkJudged (linkMatched (linkRaised s)))) := by
  change execPairLinkUp s = _
  rw [execPairLinkUp, run_running s _ hrun, hon, on_of_rd_zero hdown, hlanes, on_of_rd_one hclock, hheard, if_neg (by decide)]
  change Host.Outcome.next (pairLook (linkJudged (
    if decide ((linkRaised s).pair.peerDig = configDigest (linkRaised s)) = true then
      (linkRaised s).wr PAIR_STATUS.cfg_match (flag (decide ((linkRaised s).pair.peerDig = configDigest (linkRaised s))))
    else raise ((linkRaised s).wr PAIR_STATUS.cfg_match (flag (decide ((linkRaised s).pair.peerDig = configDigest (linkRaised s))))) 0x226))) = _
  unfold linkMatched
  by_cases h : (linkRaised s).pair.peerDig = configDigest (linkRaised s)
  · rw [if_pos (decide_eq_true h), decide_eq_true h, if_pos h]
    rfl
  · rw [if_neg (by simpa using h), decide_eq_false h, if_neg h]
    rfl

theorem exec_pairLinkUp_waits (hrun : stopped s = false) (h : enabled s .pair = false ∨ s.rd PAIR_STATUS.link_up = 1 ∨
    s.start.serdes.contains 4 = false ∨ s.rd DEV_CLK_STAT.pair = 0 ∨ s.pair.heard = false) : exec .pairLinkUp s = .next s := by
  change execPairLinkUp s = _
  rw [execPairLinkUp, run_running s _ hrun, if_pos]
  rcases h with h | h | h | h | h
  · simp [h]
  · simp [on_of_rd_one h]
  · rw [h]
    simp
  · simp [on_of_rd_zero h]
  · simp [h]

/-- What the comparisons leave as the link comes up. -/
structure LinkShown (s t : State) : Prop where
  linkUp : t.rd PAIR_STATUS.link_up = 1
  asserted : t.rd IRQ_SRC.asserted 0x220 = 1
  same : s.pair.peerDig = configDigest s → t.rd PAIR_STATUS.cfg_match = 1
  differ : s.pair.peerDig ≠ configDigest s → t.rd PAIR_STATUS.cfg_match = 0 ∧ t.rd IRQ_SRC.asserted 0x226 = 1
  clash : s.pair.peerRole = s.rd PAIR_CFG.role_req → t.pair.conflict = true ∧ t.rd IRQ_SRC.asserted 0x229 = 1
  agree : s.pair.peerRole ≠ s.rd PAIR_CFG.role_req → t.pair.conflict = false
  state : t.rd PAIR_STATUS.state = s.rd PAIR_STATUS.state
  peer : t.rd PAIR_STATUS.peer_state = s.rd PAIR_STATUS.peer_state
  lastBlock : t.pair.lastBlock = now s
  pubs : t.pubs = s.pubs
  mem : t.mem = s.mem
  hostMem : t.hostMem = s.hostMem

theorem rd_linkRaised {d : Desc} (i : Nat) (hbit : IRQ_SRC.asserted.apart d = true) (hbad : IRQ_MSIX_BAD.count.apart d = true) :
    (linkRaised s).rd d i = (s.wr PAIR_STATUS.link_up 1).rd d i := rd_raise _ _ _ _ hbit hbad

theorem rd_linkMatched {d : Desc} (hbit : IRQ_SRC.asserted.apart d = true) (hbad : IRQ_MSIX_BAD.count.apart d = true)
    (hmatch : PAIR_STATUS.cfg_match.apart d = true) : (linkMatched s).rd d = s.rd d := by
  unfold linkMatched
  split
  · exact State.rd_wr_apart _ _ _ _ _ _ hmatch
  · rw [rd_raise _ _ _ _ hbit hbad, State.rd_wr_apart _ _ _ _ _ _ hmatch]

theorem rd_linkJudged {d : Desc} (hbit : IRQ_SRC.asserted.apart d = true) (hbad : IRQ_MSIX_BAD.count.apart d = true) :
    (linkJudged s).rd d = s.rd d := by
  unfold linkJudged
  split
  · exact rd_raise _ _ _ _ hbit hbad
  · rfl

/-- A part of the state that neither registers nor interrupts hold is kept by the comparisons. -/
theorem linkShown_op {α : Type} (op : State → α) (hwr : ∀ (t : State) d v i j, op (t.wr d v i j) = op t)
    (hraise : ∀ t n, op (raise t n) = op t) : op (linkJudged (linkMatched s)) = op s := by
  have hmatched : op (linkMatched s) = op s := by
    unfold linkMatched
    split
    · exact hwr _ _ _ _ _
    · rw [hraise, hwr]
  unfold linkJudged
  split
  · rw [hraise, hmatched]
  · exact hmatched

theorem asserted_linkJudged {k : Nat} (hk : k < 1024) (h : s.rd IRQ_SRC.asserted k = 1) : (linkJudged s).rd IRQ_SRC.asserted k = 1 := by
  unfold linkJudged
  split
  · exact rd_raise_kept hk h
  · exact h

theorem asserted_linkMatched {k : Nat} (hk : k < 1024) (h : s.rd IRQ_SRC.asserted k = 1) : (linkMatched s).rd IRQ_SRC.asserted k = 1 := by
  unfold linkMatched
  split
  · rw [State.rd_wr_apart _ _ _ _ _ _ (by decide), h]
  · exact rd_raise_kept hk (by rw [State.rd_wr_apart _ _ _ _ _ _ (by decide), h])

theorem linkShown : LinkShown s (linkJudged (linkMatched (linkRaised s))) := by
  have hrole : (linkRaised s).pair.conflict = decide (s.pair.peerRole = s.rd PAIR_CFG.role_req) := by simp [linkRaised, updPair]
  have hsame : (linkRaised s).pair.peerDig = configDigest (linkRaised s) ↔ s.pair.peerDig = configDigest s := by
    simp [linkRaised, updPair, configDigest]
  have hconflict : (linkMatched (linkRaised s)).pair.conflict = (linkRaised s).pair.conflict := by
    unfold linkMatched
    split <;> simp
  have hpair : (linkJudged (linkMatched (linkRaised s))).pair = (linkRaised s).pair := linkShown_op State.pair (by simp) (by simp)
  have hkept {d : Desc} (hbit : IRQ_SRC.asserted.apart d = true) (hbad : IRQ_MSIX_BAD.count.apart d = true)
      (hmatch : PAIR_STATUS.cfg_match.apart d = true) : (linkJudged (linkMatched (linkRaised s))).rd d = (s.wr PAIR_STATUS.link_up 1).rd d := by
    rw [rd_linkJudged hbit hbad, rd_linkMatched hbit hbad hmatch, rd_linkRaised 0 hbit hbad]
  refine ⟨?_, asserted_linkJudged (by decide) (asserted_linkMatched (by decide) (rd_raise_asserted _ (by decide))), fun h => ?_, fun h => ⟨?_, ?_⟩,
    fun h => ⟨?_, ?_⟩, fun h => ?_, ?_, ?_, ?_, ?_, ?_, ?_⟩
  · rw [hkept (by decide) (by decide) (by decide), State.rd_wr_same _ _ _ _ _ (by decide)]
    rfl
  · rw [rd_linkJudged (by decide) (by decide), linkMatched, if_pos (hsame.mpr h), State.rd_wr_same _ _ _ _ _ (by decide)]
    rfl
  · rw [rd_linkJudged (by decide) (by decide), linkMatched, if_neg (fun hd => h (hsame.mp hd)), rd_raise _ _ _ _ (by decide) (by decide),
      State.rd_wr_same _ _ _ _ _ (by decide)]
    rfl
  · refine asserted_linkJudged (by decide) ?_
    rw [linkMatched, if_neg (fun hd => h (hsame.mp hd)), rd_raise_asserted _ (by decide)]
  · rw [hpair, hrole, decide_eq_true h]
  · rw [linkJudged, if_pos (by rw [hconflict, hrole, decide_eq_true h]), rd_raise_asserted _ (by decide)]
  · rw [hpair, hrole, decide_eq_false h]
  · rw [hkept (by decide) (by decide) (by decide), State.rd_wr_apart _ _ _ _ _ _ (by decide)]
  · rw [hkept (by decide) (by decide) (by decide), State.rd_wr_apart _ _ _ _ _ _ (by decide)]
  · rw [hpair]
    rfl
  · rw [linkShown_op State.pubs (by simp) (by simp)]
    simp [linkRaised, updPair]
  · rw [linkShown_op State.mem (by simp) (by simp)]
    simp [linkRaised, updPair]
  · rw [linkShown_op State.hostMem (by simp) (by simp)]
    simp [linkRaised, updPair]

/-- What follows once a device alone is mirrored. -/
structure Mirrored (s t : State) : Prop where
  state : t.rd PAIR_STATUS.state = 1
  asserted : t.rd IRQ_SRC.asserted 0x228 = 1
  kept : ∀ d : Desc, PAIR_STATUS.state.apart d = true → IRQ_SRC.asserted.apart d = true → IRQ_MSIX_BAD.count.apart d = true →
    t.rd d = s.rd d
  pair : t.pair = s.pair
  mem : t.mem = s.mem
  hostMem : t.hostMem = s.hostMem

theorem mirrored_raise (hpubs : s.pubs = []) : Mirrored s (raise (setPair s 1) 0x228) := by
  rw [setPair_mirrored hpubs]
  refine ⟨?_, rd_raise_asserted _ (by decide), fun d hstate hbit hbad => ?_, by simp, by simp, by simp⟩
  · rw [rd_raise _ _ _ _ (by decide) (by decide), State.rd_wr_same _ _ _ _ _ (by decide)]
    rfl
  · rw [rd_raise _ _ _ _ hbit hbad, State.rd_wr_apart _ _ _ _ _ _ hstate]

/-! ### Heartbeats -/

/-- The partner's heartbeat is shown. -/
def heardFrom (s : State) (state epoch role : Nat) (digest : Bytes) : State :=
  { s.wr PAIR_STATUS.peer_state state with
    pair := { s.pair with heard := true, peerEpoch := epoch, peerRole := role, peerDig := digest } }

theorem rd_heardFrom {d : Desc} {state epoch role : Nat} {digest : Bytes} (h : PAIR_STATUS.peer_state.apart d = true) :
    (heardFrom s state epoch role digest).rd d = s.rd d := State.rd_wr_apart s _ _ _ _ _ h

theorem exec_heartbeatReceive {state epoch role : Nat} {digest : Bytes} (hrun : stopped s = false) (hon : enabled s .pair = true)
    (hdue : snapshotDue (pairLook (heardFrom s state epoch role digest)) (s.rd PAIR_STATUS.peer_state) = false) :
    exec (.heartbeatReceive state epoch role digest) s = .next (pairLook (heardFrom s state epoch role digest)) := by
  change execHeartbeatReceive state epoch role digest s = _
  rw [execHeartbeatReceive, run_running s _ hrun, hon, if_neg (by decide)]
  exact congrArg Host.Outcome.next (if_neg (Bool.eq_false_iff.mp hdue))

theorem snapshotDue_shut (was : Nat) (h : s.rd PAIR_STATUS.link_up = 0) : snapshotDue s was = false := by
  rw [snapshotDue, on_of_rd_zero h]
  rfl

theorem snapshotDue_synced (was : Nat) (h : s.rd PAIR_STATUS.peer_state = 5) : snapshotDue s was = false := by
  rw [snapshotDue, h]
  simp [pSync]

theorem snapshotDue_detached (was : Nat) (h : s.rd PAIR_STATUS.state = 6) : snapshotDue s was = false := by
  have hst : pairState s = 6 := h
  rw [snapshotDue, hst]
  simp [isActivePair]

theorem exec_heartbeatReceive_unlinked {state epoch role : Nat} {digest : Bytes} (hrun : stopped s = false)
    (hon : enabled s .pair = true) (hdown : s.rd PAIR_STATUS.link_up = 0) :
    exec (.heartbeatReceive state epoch role digest) s = .next (heardFrom s state epoch role digest) := by
  have hdown' : (heardFrom s state epoch role digest).rd PAIR_STATUS.link_up = 0 := (rd_heardFrom (by decide)).trans hdown
  have hlook := pairLook_shut (Or.inl hdown')
  rw [exec_heartbeatReceive hrun hon (by rw [hlook, snapshotDue_shut _ hdown']), hlook]

/-- The heartbeat of a mirrored standby: the device alone is mirrored. -/
theorem exec_heartbeatReceive_mirrored {epoch role : Nat} {digest : Bytes} (hrun : stopped s = false) (hon : enabled s .pair = true)
    (hup : s.rd PAIR_STATUS.link_up = 1) (hstate : s.rd PAIR_STATUS.state = 3) (hconflict : s.pair.conflict = false)
    (hmatch : s.rd PAIR_STATUS.cfg_match = 1) (hpubs : s.pubs = []) : ∃ t, exec (.heartbeatReceive 5 epoch role digest) s = .next t ∧
      t.rd PAIR_STATUS.state = 1 ∧ t.rd PAIR_STATUS.peer_state = 5 ∧ t.pair.peerEpoch = epoch ∧ t.rd IRQ_SRC.asserted 0x228 = 1 ∧
      t.mem = s.mem ∧ t.hostMem = s.hostMem := by
  have hpeer : (heardFrom s 5 epoch role digest).rd PAIR_STATUS.peer_state = 5 :=
    State.rd_wr_same s PAIR_STATUS.peer_state 5 0 0 (by decide)
  have hlook : pairLook (heardFrom s 5 epoch role digest) = raise (setPair (heardFrom s 5 epoch role digest) 1) 0x228 :=
    pairLook_mirrored ((rd_heardFrom (by decide)).trans hup) hconflict ((rd_heardFrom (by decide)).trans hstate)
      ((rd_heardFrom (by decide)).trans hmatch) hpeer
  have hmirrored := mirrored_raise (s := heardFrom s 5 epoch role digest) (by simpa [heardFrom] using hpubs)
  have hpeer' := (hmirrored.kept PAIR_STATUS.peer_state (by decide) (by decide) (by decide)).trans hpeer
  have hexec := exec_heartbeatReceive (s := s) (state := 5) (epoch := epoch) (role := role) (digest := digest) hrun hon
    (by rw [hlook, snapshotDue_synced _ hpeer'])
  rw [hlook] at hexec
  refine ⟨_, hexec, hmirrored.state, hpeer', ?_, hmirrored.asserted, hmirrored.mem.trans (by simp [heardFrom]),
    hmirrored.hostMem.trans (by simp [heardFrom])⟩
  rw [hmirrored.pair, heardFrom]

/-- The heartbeat of an active partner of a higher epoch: the device alone is fenced. -/
theorem exec_heartbeatReceive_fenced {epoch role : Nat} {digest : Bytes} (hrun : stopped s = false) (hon : enabled s .pair = true)
    (hup : s.rd PAIR_STATUS.link_up = 1) (hstate : s.rd PAIR_STATUS.state = 3) (hconflict : s.pair.conflict = false)
    (hepoch : s.rd PAIR_STATUS.epoch < epoch) : ∃ t, exec (.heartbeatReceive 3 epoch role digest) s = .next t ∧
      t.rd PAIR_STATUS.state = 6 ∧ t.pubs = [] ∧ t.deltas = [] ∧ t.rd IRQ_SRC.asserted 0x225 = 1 ∧
      t.mem = s.mem ∧ t.hostMem = s.hostMem := by
  have hpeer : (heardFrom s 3 epoch role digest).rd PAIR_STATUS.peer_state = 3 :=
    State.rd_wr_same s PAIR_STATUS.peer_state 3 0 0 (by decide)
  have hlook : pairLook (heardFrom s 3 epoch role digest) = raise (setPair (heardFrom s 3 epoch role digest) 6) 0x225 :=
    pairLook_fenced ((rd_heardFrom (by decide)).trans hup) hconflict ((rd_heardFrom (by decide)).trans hstate) hpeer
      (by rw [rd_heardFrom (by decide)]; exact hepoch)
  have hdetached := detached_setPair (s := heardFrom s 3 epoch role digest)
  have hstate' : (raise (setPair (heardFrom s 3 epoch role digest) 6) 0x225).rd PAIR_STATUS.state = 6 := by
    rw [rd_raise _ _ _ _ (by decide) (by decide), hdetached.state]
  have hexec := exec_heartbeatReceive (s := s) (state := 3) (epoch := epoch) (role := role) (digest := digest) hrun hon
    (by rw [hlook, snapshotDue_detached _ hstate'])
  rw [hlook] at hexec
  refine ⟨_, hexec, hstate', ?_, ?_, rd_raise_asserted _ (by decide), ?_, ?_⟩
  · rw [raise_pubs, hdetached.pubs]
  · rw [raise_deltas, hdetached.deltas]
  · rw [raise_mem, hdetached.mem]
    simp [heardFrom]
  · rw [raise_hostMem, hdetached.hostMem]
    simp [heardFrom]

/-! ### The alive signals -/

/-- PAIR_ALIVE_IN takes a level. -/
def aliveShown (s : State) (level : Bool) : State :=
  { s.wr PAIR_STATUS.peer_alive (flag level) with
    pins := { s.pins with aliveIn := level }
    pair := { s.pair with lowSince := if level then none else some (s.pair.lowSince.getD (now s)) } }

theorem rd_aliveShown {d : Desc} (level : Bool) (h : PAIR_STATUS.peer_alive.apart d = true) : (aliveShown s level).rd d = s.rd d :=
  State.rd_wr_apart s _ _ _ _ _ h

theorem exec_aliveInChange (hrun : stopped s = false) (level : Bool) : exec (.aliveInChange level) s = .next (
    if !level && pairState (aliveShown s level) = pHold then goSolo (aliveShown s level)
    else if level && !(aliveShown s level).on PAIR_STATUS.link_up && (pairState (aliveShown s level) = pSync ||
      pairState (aliveShown s level) = pStandby) then raise (setPair (aliveShown s level) pDetached) 0x221
    else aliveShown s level) := by
  change execAliveInChange level s = _
  rw [execAliveInChange, run_running s _ hrun]
  rfl

theorem exec_aliveInChange_high (hrun : stopped s = false) (hup : s.rd PAIR_STATUS.link_up = 1) :
    exec (.aliveInChange true) s = .next (aliveShown s true) := by
  have hon : (aliveShown s true).on PAIR_STATUS.link_up = true := on_of_rd_one ((rd_aliveShown true (by decide)).trans hup)
  rw [exec_aliveInChange hrun, hon]
  rfl

theorem exec_aliveInChange_low (hrun : stopped s = false) (hstate : s.rd PAIR_STATUS.state = 2) :
    exec (.aliveInChange false) s = .next (goSolo (aliveShown s false)) := by
  have hhold : pairState (aliveShown s false) = pHold := (rd_aliveShown false (by decide)).trans hstate
  rw [exec_aliveInChange hrun, hhold]
  rfl

theorem exec_aliveWatchdogExpiry {k : Nat} (hrun : stopped s = false) (hon : s.rd PAIR_CFG.alive_wdog_us ≠ 0)
    (hkick : s.pair.kickTt = some k) (hlate : k + s.rd PAIR_CFG.alive_wdog_us * 1000 ≤ now s) :
    exec .aliveWatchdogExpiry s = .next { s with pins := { s.pins with pairAlive := false } } := by
  have hdead : aliveNow s = false := by
    rw [aliveNow, hkick]
    simp [hon, hlate]
  refine (run_running s updateAlive hrun).trans ?_
  rw [updateAlive, hdead]

/-- A write of a PAIR register reaches the block on a standby too. -/
theorem setupWrite_pair {d : Desc} (value : Nat) (f : State → State) (hreach : reaches who (d.key 0 0 / 8) = true)
    (hoff : isPairOff (d.key 0 0 / 32 * 4) = true) (hphase : s.rd BOOT_STATUS.phase ≠ 4) : setupWrite d 0 value who s f = f s := by
  have hopen : recoveryShut s (d.key 0 0 / 32 * 4) = false := by rw [recoveryShut, decide_eq_false hphase, Bool.false_and]
  rw [setupWrite, if_pos hreach]
  cases who with
  | host fn => rw [barWrite, hopen, if_neg (by decide), if_pos hoff]
  | steward k => rfl
  | relay k => rfl

theorem exec_pairKick (hrun : stopped s = false) (hreach : reaches who (PAIR_CMD.go.key 0 0 / 8) = true)
    (hphase : s.rd BOOT_STATUS.phase ≠ 4) (hon : enabled s .pair = true) : exec (.pairKick who) s =
      .next { s with pins := { s.pins with pairAlive := true }, pair := { s.pair with kickTt := some (now s) } } := by
  have hreach' : reaches who (PAIR_KICK.kick.key 0 0 / 8) = true := by
    cases who with
    | host fn => exact hreach
    | steward k => rfl
    | relay k => exact absurd (show relayReaches (PAIR_CMD.go.key 0 0 / 8) = true from hreach) (by decide)
  have htrip : s.nrg.tripped = false := (Bool.or_eq_false_iff.mp hrun).1
  have halive : aliveNow (updPair s fun p => { p with kickTt := some (now s) }) = true := by
    have hw (w : Nat) : (decide (w = 0) || decide (now s < now s + w * 1000)) = true := by
      rw [Bool.or_eq_true, decide_eq_true_eq, decide_eq_true_eq]
      omega
    change (enabled s .pair && !s.nrg.tripped && (decide (s.rd PAIR_CFG.alive_wdog_us = 0) ||
      decide (now s < now s + s.rd PAIR_CFG.alive_wdog_us * 1000))) = true
    rw [hon, htrip, hw]
    rfl
  change execPairKick who s = _
  rw [execPairKick, run_running s _ hrun, setupWrite_pair 1 _ hreach' (by decide) hphase, updateAlive, halive]
  rfl

theorem exec_holdExpiry (hrun : stopped s = false) (hstate : s.rd PAIR_STATUS.state = 2)
    (hdue : s.pair.holdTt + s.rd PAIR_CFG.hold_us * 1000 ≤ now s) : exec .holdExpiry s = .next (goSolo s) := by
  have hst : pairState s = pHold := hstate
  change execHoldExpiry s = _
  rw [execHoldExpiry, run_running s _ hrun, if_pos]
  rw [hst, decide_eq_true hdue]
  decide

theorem exec_holdExpiry_early (hrun : stopped s = false)
    (h : s.rd PAIR_STATUS.state ≠ 2 ∨ now s < s.pair.holdTt + s.rd PAIR_CFG.hold_us * 1000) : exec .holdExpiry s = .next s := by
  change execHoldExpiry s = _
  rw [execHoldExpiry, run_running s _ hrun, if_neg]
  rw [Bool.and_eq_true, decide_eq_true_eq, decide_eq_true_eq]
  rintro ⟨hstate, hdue⟩
  rcases h with h | h
  · exact h hstate
  · exact absurd hdue (Nat.not_le.mpr h)

/-! ### Delta records and acknowledgements -/

theorem exec_deltaRecordReceive {bs : Bytes} {d : Delta} (hrun : stopped s = false) (hparse : parseDelta bs = some d)
    (hnext : deltaExpected s d = true) : exec (.deltaRecordReceive bs) s = .next (applyDelta s d) := by
  change execDeltaRecordReceive bs s = _
  rw [execDeltaRecordReceive, run_running s _ hrun, hparse]
  exact congrArg Host.Outcome.next (if_pos hnext)

theorem exec_deltaRecordReceive_other {bs : Bytes} {d : Delta} (hrun : stopped s = false) (hparse : parseDelta bs = some d)
    (hnext : deltaExpected s d = false) : exec (.deltaRecordReceive bs) s = .next s := by
  change execDeltaRecordReceive bs s = _
  rw [execDeltaRecordReceive, run_running s _ hrun, hparse]
  exact congrArg Host.Outcome.next (if_neg (Bool.eq_false_iff.mp hnext))

theorem exec_deltaRecordReceive_bad {bs : Bytes} (hrun : stopped s = false) (hparse : parseDelta bs = none) :
    exec (.deltaRecordReceive bs) s = .next s := by
  change execDeltaRecordReceive bs s = _
  rw [execDeltaRecordReceive, run_running s _ hrun, hparse]

theorem slotImage_setSlot (k v : Nat) : slotImage (setSlot s k v) k = v % 2 ^ 1024 := Map.get_set_same _ _ _

/-- A KEY record sets its slot. -/
theorem applyDelta_key {d : Delta} (hkind : d.kind = 8) : applyDelta s d =
    updPair (((setSlot (sramAccess s 1 d.acct) d.obj (leAt d.body 0 128)).wr PAIR_SEQ.pseq d.pseq).count PAIR_CNT.count 1 1) fun p => { p with
      expect := some (d.pseq + 1), sent := p.sent ++ [.ack d.pseq] } := by
  have hbody : applyBody (sramAccess s 1 d.acct) d = setSlot (sramAccess s 1 d.acct) d.obj (leAt d.body 0 128) := by
    rw [applyBody, hkind]
    rfl
  rw [applyDelta, hbody]

theorem applyDelta_key_parts {d : Delta} (hkind : d.kind = 8) : slotImage (applyDelta s d) d.obj = leAt d.body 0 128 % 2 ^ 1024 ∧
    (applyDelta s d).rd PAIR_SEQ.pseq = d.pseq % 2 ^ 64 ∧ (applyDelta s d).pair.expect = some (d.pseq + 1) ∧
    (applyDelta s d).pair.sent = s.pair.sent ++ [.ack d.pseq] ∧ (applyDelta s d).mem = s.mem ∧ (applyDelta s d).hostMem = s.hostMem := by
  rw [applyDelta_key hkind]
  refine ⟨?_, ?_, rfl, ?_, ?_, ?_⟩
  · have hslots (u : State) (v : Nat) (f : PairInt → PairInt) :
        slotImage (updPair ((u.wr PAIR_SEQ.pseq v).count PAIR_CNT.count 1 1) f) d.obj = slotImage u d.obj := by simp [slotImage, updPair]
    exact (hslots _ _ _).trans (slotImage_setSlot _ _)
  · refine (State.rd_count_apart _ _ _ _ _ _ (by decide)).trans ?_
    exact State.rd_wr_same _ PAIR_SEQ.pseq _ 0 0 (by decide)
  · simp [updPair, setSlot, -Nat.reducePow]
  · simp [updPair, setSlot, -Nat.reducePow]
  · simp [updPair, setSlot, -Nat.reducePow]

/-- The records up to a sequence number are acknowledged. -/
def acked (s : State) (n : Nat) : State :=
  ({ s with deltas := s.deltas.filter fun d => decide (n < d.pseq) } : State).wr PAIR_ACKED.pseq n

theorem exec_deltaAckReceive {n : Nat} (hrun : stopped s = false) (hlo : s.rd PAIR_ACKED.pseq ≤ n) (hhi : n ≤ s.pseq) :
    exec (.deltaAckReceive n) s = .next (handoverCheck (releasePubs (acked s n))) := by
  change execDeltaAckReceive n s = _
  rw [execDeltaAckReceive, run_running s _ hrun, if_pos (by simp [hlo, hhi])]
  rfl

theorem handoverCheck_none (h : s.pair.handover = false) : handoverCheck s = s := by
  rw [handoverCheck, h]
  rfl

/-- The write that waited is published once its records are acknowledged. -/
theorem releasePubs_acked {n need f a : Nat} {bs : Bytes} (hstate : s.rd PAIR_STATUS.state = 1)
    (hpubs : s.pubs = [⟨need, .write f a bs⟩]) (hall : (s.deltas.all fun d => decide (d.pseq ≤ n)) = true) (hlive : fnLive s f = true) :
    releasePubs (acked s n) = hostWrite { acked s n with pubs := [] } f a bs ∧ (acked s n).deltas = [] ∧
      fnLive { acked s n with pubs := [] } f = true := by
  have hdeltas : s.deltas.filter (fun d => decide (n < d.pseq)) = [] := by
    rw [List.filter_eq_nil_iff]
    intro d hd
    have hle := List.all_eq_true.mp hall d hd
    simpa using hle
  have hst : pairState (acked s n) = 1 := (State.rd_wr_apart _ _ _ _ _ _ (by decide)).trans hstate
  have hnone : (acked s n).deltas = [] := by simp [acked, hdeltas]
  have hfree : pubFree (acked s n) need = true := by
    rw [pubFree, hst, hnone]
    rfl
  have hlive' : fnLive (acked s n) f = true := (fnLive_wr (by decide) f).trans hlive
  have hstuck : pubStuck (acked s n) ⟨need, .write f a bs⟩ = false := by
    rw [pubStuck]
    dsimp only
    rw [hlive']
    rfl
  have hpubs' : (acked s n).pubs = [⟨need, .write f a bs⟩] := by simp [acked, hpubs]
  have hheld : ((pubWaits (acked s n) && !pubFree (acked s n) need) || pubStuck (acked s n) ⟨need, .write f a bs⟩) = false := by
    rw [hfree, hstuck, Bool.not_true, Bool.and_false, Bool.or_false]
  refine ⟨?_, hnone, hlive'⟩
  unfold releasePubs
  dsimp only
  rw [hpubs', List.filter_cons, List.filter_cons, hheld]
  rfl

/-! ### Promotion -/

/-- A store leaves every source that is asserted. -/
theorem asserted_memStore {k : Nat} (hk : k < 1024) (a : Nat) (bs : Bytes) (h : s.rd IRQ_SRC.asserted k = 1) :
    (memStore s a bs).rd IRQ_SRC.asserted k = 1 := by
  rw [memStore]
  refine List.foldlRecOn _ _ (motive := fun t : State => t.rd IRQ_SRC.asserted k = 1) h fun t ht _ _ => ?_
  refine rd_raise_kept hk ?_
  rw [State.rd_countSat_apart _ _ _ _ _ _ (by decide), ht]

/-- The mirrored regions and rings become the device's own. -/
def passed (s : State) : State := (listedOf ((listedRegions s).foldl passRegion s) rctxFields).foldl passRing ((listedRegions s).foldl passRegion s)

theorem passRing_op {α : Type} (op : State → α) (hpf : ∀ (t : State) v i, op (t.wr CQ_QUOTA_PF.held v i) = op t)
    (hvf : ∀ (t : State) v i, op (t.wr CQ_QUOTA_VF.held v i) = op t) (hfree : ∀ (t : State) v, op (t.wr CQ_POOL_STAT.free v) = op t)
    (hrings : ∀ (t : State) x, op { t with rings := x } = op t) (r : Nat) : op (passRing s r) = op s := by
  have hheld (t : State) (f n : Nat) : op (setHeld t f n) = op t := by
    unfold setHeld
    split
    · exact hpf _ _ _
    · exact hvf _ _ _
  unfold passRing
  dsimp only
  exact (hrings _ _).trans ((hfree _ _).trans (hheld _ _ _))

theorem passed_op {α : Type} (op : State → α) (hpf : ∀ (t : State) v i, op (t.wr CQ_QUOTA_PF.held v i) = op t)
    (hvf : ∀ (t : State) v i, op (t.wr CQ_QUOTA_VF.held v i) = op t) (hfree : ∀ (t : State) v, op (t.wr CQ_POOL_STAT.free v) = op t)
    (hrings : ∀ (t : State) x, op { t with rings := x } = op t) (hstore : ∀ t a bs, op (memStore t a bs) = op t) : op (passed s) = op s := by
  rw [passed, foldl_frame op _ (fun t r => passRing_op op hpf hvf hfree hrings r)]
  exact foldl_frame op _ (fun t i => hstore _ _ _) _ _

theorem asserted_passed {k : Nat} (hk : k < 1024) (h : s.rd IRQ_SRC.asserted k = 1) : (passed s).rd IRQ_SRC.asserted k = 1 := by
  have hregions : ((listedRegions s).foldl passRegion s).rd IRQ_SRC.asserted k = 1 :=
    List.foldlRecOn _ _ (motive := fun t : State => t.rd IRQ_SRC.asserted k = 1) h fun t ht _ _ => asserted_memStore hk _ _ ht
  rw [passed, foldl_frame (fun t : State => t.rd IRQ_SRC.asserted k) _ fun t r => passRing_op (fun t => t.rd IRQ_SRC.asserted k)
    (fun _ _ _ => State.rd_wr_apart _ _ _ _ _ _ (by decide)) (fun _ _ _ => State.rd_wr_apart _ _ _ _ _ _ (by decide))
    (fun _ _ => State.rd_wr_apart _ _ _ _ _ _ (by decide)) (fun _ _ => rfl) r]
  exact hregions

/-- The registers of a promotion. -/
def promoting (s : State) : State :=
  ((((s.count PAIR_STATUS.epoch).wr PAIR_LAST_PASS.tt (now s)).wr PAIR_PASS_STAT.decided 0).wr PAIR_PASS_STAT.retried 0).wr PAIR_STATUS.state 7

theorem setPair_promoting : setPair s 7 = s.wr PAIR_STATUS.state 7 := rfl

/-- Every meter starts full (R929). -/
def metersFull (s : State) : State := { s with tm := { s.tm with meters := s.tm.meters.map fun p => (p.1, fullMeter p.2) } }

theorem rd_metersFull (d : Desc) (i : Nat) : (metersFull s).rd d i = s.rd d i := rfl

theorem metersFull_hostMem : (metersFull s).hostMem = s.hostMem := rfl

theorem promote_eq : promote s = metersFull (passed (raise (promoting s) 0x223)) := by
  rw [promote, pPromoting, setPair_promoting]
  unfold metersFull passed promoting
  dsimp only

/-- What a promotion leaves (R923, R924). -/
structure Promoted (s t : State) : Prop where
  state : t.rd PAIR_STATUS.state = 7
  epoch : t.rd PAIR_STATUS.epoch = (s.rd PAIR_STATUS.epoch + 1) % 2 ^ 32
  time : t.rd PAIR_LAST_PASS.tt = now s % 2 ^ 64
  decided : t.rd PAIR_PASS_STAT.decided = 0
  asserted : t.rd IRQ_SRC.asserted 0x223 = 1
  result : t.rd PAIR_CMD.result = s.rd PAIR_CMD.result
  hostMem : t.hostMem = s.hostMem

theorem rd_promote {d : Desc} (hpf : CQ_QUOTA_PF.held.apart d = true) (hvf : CQ_QUOTA_VF.held.apart d = true)
    (hfree : CQ_POOL_STAT.free.apart d = true) (hbit : IRQ_SRC.asserted.apart d = true) (hbad : IRQ_MSIX_BAD.count.apart d = true)
    (hdet : DEV_DET_COUNT.failed.apart d = true) : (promote s).rd d = (promoting s).rd d := by
  have hpassed : (passed (raise (promoting s) 0x223)).rd d = (raise (promoting s) 0x223).rd d :=
    passed_op (fun t => t.rd d) (fun _ _ _ => State.rd_wr_apart _ _ _ _ _ _ hpf) (fun _ _ _ => State.rd_wr_apart _ _ _ _ _ _ hvf)
      (fun _ _ => State.rd_wr_apart _ _ _ _ _ _ hfree) (fun _ _ => rfl) fun _ _ _ => rd_memStore _ _ _ _ _ hbit hbad hdet
  rw [promote_eq, rd_metersFull, hpassed, rd_raise _ _ _ _ hbit hbad]

theorem promoted : Promoted s (promote s) := by
  refine ⟨?_, ?_, ?_, ?_, ?_, ?_, ?_⟩
  · rw [rd_promote (by decide) (by decide) (by decide) (by decide) (by decide) (by decide)]
    exact State.rd_wr_same _ PAIR_STATUS.state 7 0 0 (by decide)
  · rw [rd_promote (by decide) (by decide) (by decide) (by decide) (by decide) (by decide), promoting]
    simp (disch := decide) only [State.rd_wr_apart]
    exact State.rd_count_same _ PAIR_STATUS.epoch 1 0 0 (by decide)
  · rw [rd_promote (by decide) (by decide) (by decide) (by decide) (by decide) (by decide), promoting]
    simp (disch := decide) only [State.rd_wr_apart]
    exact State.rd_wr_same _ PAIR_LAST_PASS.tt _ 0 0 (by decide)
  · rw [rd_promote (by decide) (by decide) (by decide) (by decide) (by decide) (by decide), promoting]
    simp (disch := decide) only [State.rd_wr_apart]
    exact State.rd_wr_same _ PAIR_PASS_STAT.decided 0 0 0 (by decide)
  · rw [promote_eq, rd_metersFull]
    exact asserted_passed (by decide) (rd_raise_asserted _ (by decide))
  · rw [rd_promote (by decide) (by decide) (by decide) (by decide) (by decide) (by decide), promoting]
    simp (disch := decide) only [State.rd_wr_apart, State.rd_count_apart]
  · have hpassed : (passed (raise (promoting s) 0x223)).hostMem = (raise (promoting s) 0x223).hostMem :=
      passed_op State.hostMem (by simp) (by simp) (by simp) (fun _ _ => rfl) (by simp)
    rw [promote_eq, metersFull_hostMem, hpassed]
    simp [promoting]

theorem exec_promotionTimer (hrun : stopped s = false) (hstate : s.rd PAIR_STATUS.state = 5) (hauto : s.rd PAIR_CFG.auto_promote = 1)
    (halive : s.rd PAIR_STATUS.peer_alive = 0) (hlow : s.pair.lowSince.getD 0 + 30000 ≤ now s) (hblock : s.pair.lastBlock + 30000 ≤ now s) :
    exec .promotionTimer s = .next (promote s) := by
  have hst : pairState s = pStandby := hstate
  change execPromotionTimer s = _
  rw [execPromotionTimer, run_running s _ hrun, if_pos]
  rw [hst, on_of_rd_one hauto, on_of_rd_zero halive, decide_eq_true hlow, decide_eq_true hblock]
  decide

theorem exec_promotionTimer_waits (hrun : stopped s = false)
    (h : s.rd PAIR_STATUS.state ≠ 5 ∨ s.rd PAIR_CFG.auto_promote = 0 ∨ now s < s.pair.lastBlock + 30000) :
    exec .promotionTimer s = .next s := by
  change execPromotionTimer s = _
  rw [execPromotionTimer, run_running s _ hrun, if_neg]
  simp only [Bool.and_eq_true, decide_eq_true_eq, not_and]
  rintro ⟨⟨⟨hstate, hauto⟩, -⟩, -⟩ hblock
  rcases h with h | h | h
  · exact h hstate
  · rw [on_of_rd_zero h] at hauto
    exact Bool.false_ne_true hauto
  · exact absurd hblock (Nat.not_le.mpr h)

/-! ### Blocks of the pair link -/

/-- A valid block restarts the 30 µs. -/
def blockSeen (s : State) : State := { s with pair := { s.pair with lastBlock := now s } }

/-- A standby whose partner's alive signal is low is told of the block. -/
def blockJudged (s : State) : State :=
  if pairState s = pStandby && s.on PAIR_CFG.auto_promote && !s.on PAIR_STATUS.peer_alive then
    raise (updPair s fun p => { p with lowSince := some (now s) }) 0x227
  else s

theorem exec_pairBlockReceive {data : Bytes} {handover : Bool} (hrun : stopped s = false) (hon : enabled s .pair = true)
    (hlen : data.length = 256) (hcrc : crc32 (data.take 252) = leAt data 252 4) : exec (.pairBlockReceive data handover) s =
      .next (if handover && pairState (blockJudged (blockSeen s)) = pStandby then promote (blockJudged (blockSeen s))
        else blockJudged (blockSeen s)) := by
  change execPairBlockReceive data handover s = _
  rw [execPairBlockReceive, run_running s _ hrun, hon, decide_eq_false (Classical.not_not.mpr hlen), decide_eq_false (Classical.not_not.mpr hcrc),
    if_neg (by decide)]
  rfl

theorem exec_pairBlockReceive_bad {data : Bytes} {handover : Bool} (hrun : stopped s = false)
    (hcrc : crc32 (data.take 252) ≠ leAt data 252 4) : exec (.pairBlockReceive data handover) s = .next s := by
  change execPairBlockReceive data handover s = _
  rw [execPairBlockReceive, run_running s _ hrun, if_pos]
  rw [decide_eq_true hcrc, Bool.or_true]

theorem pairState_blockJudged : pairState (blockJudged s) = pairState s := by
  unfold blockJudged
  split
  · exact rd_raise _ _ _ _ (by decide) (by decide)
  · rfl

theorem blockJudged_other (h : s.rd PAIR_STATUS.state ≠ 5) : blockJudged s = s := by
  have hst : decide (pairState s = pStandby) = false := decide_eq_false h
  rw [blockJudged, hst]
  rfl

theorem exec_pairBlockReceive_other {data : Bytes} {handover : Bool} (hrun : stopped s = false) (hon : enabled s .pair = true)
    (hlen : data.length = 256) (hcrc : crc32 (data.take 252) = leAt data 252 4) (hstate : s.rd PAIR_STATUS.state ≠ 5) :
    exec (.pairBlockReceive data handover) s = .next (blockSeen s) := by
  have hother : blockJudged (blockSeen s) = blockSeen s := blockJudged_other hstate
  have hst : decide (pairState (blockSeen s) = pStandby) = false := decide_eq_false hstate
  rw [exec_pairBlockReceive hrun hon hlen hcrc, hother, hst, Bool.and_false]
  rfl

/-- A block that reaches a standby whose partner's alive signal is low. -/
theorem exec_pairBlockReceive_low {data : Bytes} (hrun : stopped s = false) (hon : enabled s .pair = true)
    (hlen : data.length = 256) (hcrc : crc32 (data.take 252) = leAt data 252 4) (hstate : s.rd PAIR_STATUS.state = 5)
    (hauto : s.rd PAIR_CFG.auto_promote = 1) (halive : s.rd PAIR_STATUS.peer_alive = 0) : ∃ t,
      exec (.pairBlockReceive data false) s = .next t ∧ t.pair.lastBlock = now s ∧ t.pair.lowSince = some (now s) ∧
      t.rd PAIR_STATUS.state = 5 ∧ t.rd IRQ_SRC.asserted 0x227 = 1 ∧ t.mem = s.mem ∧ t.hostMem = s.hostMem := by
  have hst : pairState (blockSeen s) = pStandby := hstate
  have hjudged : blockJudged (blockSeen s) = raise (updPair (blockSeen s) fun p => { p with lowSince := some (now (blockSeen s)) }) 0x227 := by
    rw [blockJudged, hst, on_of_rd_one (s := blockSeen s) hauto, on_of_rd_zero (s := blockSeen s) halive]
    rfl
  refine ⟨_, (exec_pairBlockReceive hrun hon hlen hcrc).trans (congrArg _ (if_neg Bool.false_ne_true)), ?_⟩
  rw [hjudged]
  refine ⟨?_, ?_, ?_, rd_raise_asserted _ (by decide), ?_, ?_⟩
  · rw [raise_pair]
    rfl
  · rw [raise_pair]
    rfl
  · rw [rd_raise _ _ _ _ (by decide) (by decide)]
    exact hstate
  · rw [raise_mem]
    rfl
  · rw [raise_hostMem]
    rfl

/-- A block with the handover record promotes a standby. -/
theorem exec_pairBlockReceive_handover {data : Bytes} (hrun : stopped s = false) (hon : enabled s .pair = true)
    (hlen : data.length = 256) (hcrc : crc32 (data.take 252) = leAt data 252 4) (hstate : s.rd PAIR_STATUS.state = 5) :
    exec (.pairBlockReceive data true) s = .next (promote (blockJudged (blockSeen s))) := by
  have hst : pairState (blockJudged (blockSeen s)) = pStandby := pairState_blockJudged.trans hstate
  rw [exec_pairBlockReceive hrun hon hlen hcrc, hst]
  rfl

theorem promoted_blockJudged : Promoted s (promote (blockJudged (blockSeen s))) := by
  obtain ⟨hstate, hepoch, htime, hdecided, hasserted, hresult, hhost⟩ := promoted (s := blockJudged (blockSeen s))
  have hrd {d : Desc} (hbit : IRQ_SRC.asserted.apart d = true) (hbad : IRQ_MSIX_BAD.count.apart d = true) :
      (blockJudged (blockSeen s)).rd d = s.rd d := by
    unfold blockJudged
    split
    · exact rd_raise _ _ _ _ hbit hbad
    · rfl
  have hop {α : Type} (op : State → α) (hraise : ∀ t n, op (raise t n) = op t) (hpair : ∀ (t : State) x, op { t with pair := x } = op t) :
      op (blockJudged (blockSeen s)) = op s := by
    unfold blockJudged
    split
    · rw [hraise]
      exact (hpair _ _).trans (hpair _ _)
    · exact hpair _ _
  refine ⟨hstate, ?_, ?_, hdecided, hasserted, ?_, hhost.trans (hop State.hostMem (by simp) fun _ _ => rfl)⟩
  · rw [hepoch, hrd (by decide) (by decide)]
  · rw [htime, hop now (by simp [now]) fun _ _ => rfl]
  · rw [hresult, hrd (by decide) (by decide)]

/-! ### PAIR_CMD -/

theorem pairCmd_idle (action force : Nat) (f : State → State) (hreach : reaches who (PAIR_CMD.go.key 0 0 / 8) = true)
    (hphase : s.rd BOOT_STATUS.phase ≠ 4) (hidle : s.rd PAIR_CMD.busy = 0) :
    pairCmd who action force s f = f ((s.wr PAIR_CMD.action action).wr PAIR_CMD.force force) := by
  rw [pairCmd, setupWrite_pair 1 _ hreach (by decide) hphase, on_of_rd_zero hidle]
  rfl

theorem pairCmd_busy (action force : Nat) (f : State → State) (hreach : reaches who (PAIR_CMD.go.key 0 0 / 8) = true)
    (hphase : s.rd BOOT_STATUS.phase ≠ 4) (hbusy : s.rd PAIR_CMD.busy = 1) :
    pairCmd who action force s f = s.wr (lockedWriteField .pair) 1 := by
  rw [pairCmd, setupWrite_pair 1 _ hreach (by decide) hphase, on_of_rd_one hbusy]
  rfl

/-- The command's operands are shown. -/
def cmdShown (s : State) (action force : Nat) : State := (s.wr PAIR_CMD.action action).wr PAIR_CMD.force force

theorem rd_cmdShown {d : Desc} (action force : Nat) (haction : PAIR_CMD.action.apart d = true) (hforce : PAIR_CMD.force.apart d = true) :
    (cmdShown s action force).rd d = s.rd d := by
  rw [cmdShown, State.rd_wr_apart _ _ _ _ _ _ hforce, State.rd_wr_apart _ _ _ _ _ _ haction]

theorem exec_promote {force : Bool} (hrun : stopped s = false) (hreach : reaches who (PAIR_CMD.go.key 0 0 / 8) = true)
    (hphase : s.rd BOOT_STATUS.phase ≠ 4) (hidle : s.rd PAIR_CMD.busy = 0) (hstate : s.rd PAIR_STATUS.state = 5 ∨
      force = true ∧ (s.rd PAIR_STATUS.state = 4 ∨ s.rd PAIR_STATUS.state = 6)) :
    exec (.promote who force) s = .next (promote ((cmdShown s 0 (flag force)).wr PAIR_CMD.result 0)) := by
  have hst : pairState (cmdShown s 0 (flag force)) = s.rd PAIR_STATUS.state := rd_cmdShown _ _ (by decide) (by decide)
  change execPromote who force s = _
  rw [execPromote, run_running s _ hrun, pairCmd_idle _ _ _ hreach hphase hidle]
  refine congrArg Host.Outcome.next (if_pos ?_)
  change (decide (pairState (cmdShown s 0 (flag force)) = pStandby) || (force && (decide (pairState (cmdShown s 0 (flag force)) = pSync) ||
    decide (pairState (cmdShown s 0 (flag force)) = pDetached)))) = true
  rw [hst]
  rcases hstate with h | ⟨hforce, h | h⟩
  · rw [h]
    rfl
  · rw [hforce, h]
    rfl
  · rw [hforce, h]
    rfl

theorem exec_promote_refused (hrun : stopped s = false) (hreach : reaches who (PAIR_CMD.go.key 0 0 / 8) = true)
    (hphase : s.rd BOOT_STATUS.phase ≠ 4) (hidle : s.rd PAIR_CMD.busy = 0) (hstate : s.rd PAIR_STATUS.state ≠ 5) :
    exec (.promote who false) s = .next ((cmdShown s 0 0).wr PAIR_CMD.result 1) := by
  have hst : decide (pairState (cmdShown s 0 0) = pStandby) = false :=
    decide_eq_false fun h => hstate ((rd_cmdShown 0 0 (by decide) (by decide)).symm.trans h)
  change execPromote who false s = _
  rw [execPromote, run_running s _ hrun, pairCmd_idle _ _ _ hreach hphase hidle]
  refine congrArg Host.Outcome.next (if_neg ?_)
  change ¬ (decide (pairState (cmdShown s 0 0) = pStandby) || false) = true
  rw [hst]
  decide

theorem exec_promote_busy {force : Bool} (hrun : stopped s = false) (hreach : reaches who (PAIR_CMD.go.key 0 0 / 8) = true)
    (hphase : s.rd BOOT_STATUS.phase ≠ 4) (hbusy : s.rd PAIR_CMD.busy = 1) :
    exec (.promote who force) s = .next (s.wr (lockedWriteField .pair) 1) := by
  change execPromote who force s = _
  rw [execPromote, run_running s _ hrun, pairCmd_busy _ _ _ hreach hphase hbusy]

theorem exec_promote_parts {force : Bool} (hrun : stopped s = false) (hreach : reaches who (PAIR_CMD.go.key 0 0 / 8) = true)
    (hphase : s.rd BOOT_STATUS.phase ≠ 4) (hidle : s.rd PAIR_CMD.busy = 0) (hstate : s.rd PAIR_STATUS.state = 5 ∨
      force = true ∧ (s.rd PAIR_STATUS.state = 4 ∨ s.rd PAIR_STATUS.state = 6)) : ∃ t, exec (.promote who force) s = .next t ∧
      t.rd PAIR_CMD.result = 0 ∧ t.rd PAIR_STATUS.state = 7 ∧ t.rd PAIR_STATUS.epoch = (s.rd PAIR_STATUS.epoch + 1) % 2 ^ 32 ∧
      t.rd PAIR_LAST_PASS.tt = now s % 2 ^ 64 ∧ t.rd PAIR_PASS_STAT.decided = 0 ∧ t.rd IRQ_SRC.asserted 0x223 = 1 ∧
      t.hostMem = s.hostMem := by
  obtain ⟨hstate', hepoch, htime, hdecided, hasserted, hresult, hhost⟩ :=
    promoted (s := (cmdShown s 0 (flag force)).wr PAIR_CMD.result 0)
  refine ⟨_, exec_promote hrun hreach hphase hidle hstate, ?_, hstate', ?_, ?_, hdecided, hasserted, hhost.trans (by simp [cmdShown])⟩
  · rw [hresult, State.rd_wr_same _ _ _ _ _ (by decide)]
    rfl
  · rw [hepoch, State.rd_wr_apart _ _ _ _ _ _ (by decide), rd_cmdShown _ _ (by decide) (by decide)]
  · rw [htime]
    exact congrArg (· % 2 ^ 64) (by simp [now, cmdShown])

/-! ### Handover -/

/-- A HANDOVER is in progress. -/
def handingOver (s : State) : State :=
  { (cmdShown s 1 (s.rd PAIR_CMD.force)).wr PAIR_CMD.busy 1 with pair := { s.pair with handover := true } }

theorem rd_handingOver {d : Desc} (haction : PAIR_CMD.action.apart d = true) (hforce : PAIR_CMD.force.apart d = true)
    (hbusy : PAIR_CMD.busy.apart d = true) : (handingOver s).rd d = s.rd d :=
  (State.rd_wr_apart _ _ _ _ _ _ hbusy).trans (rd_cmdShown _ _ haction hforce)

theorem exec_handover (hrun : stopped s = false) (hreach : reaches who (PAIR_CMD.go.key 0 0 / 8) = true)
    (hphase : s.rd BOOT_STATUS.phase ≠ 4) (hidle : s.rd PAIR_CMD.busy = 0) (hstate : s.rd PAIR_STATUS.state = 1) :
    exec (.handover who) s = .next (handoverCheck (handingOver s)) := by
  have hst : pairState (cmdShown s 1 (s.rd PAIR_CMD.force)) = pMirrored := (rd_cmdShown _ _ (by decide) (by decide)).trans hstate
  have hpair : handingOver s =
      updPair ((cmdShown s 1 (s.rd PAIR_CMD.force)).wr PAIR_CMD.busy 1) fun p => { p with handover := true } := by
    simp [handingOver, updPair, cmdShown]
  change execHandover who s = _
  rw [execHandover, run_running s _ hrun, pairCmd_idle _ _ _ hreach hphase hidle, hpair]
  exact congrArg Host.Outcome.next (if_pos hst)

theorem exec_handover_refused (hrun : stopped s = false) (hreach : reaches who (PAIR_CMD.go.key 0 0 / 8) = true)
    (hphase : s.rd BOOT_STATUS.phase ≠ 4) (hidle : s.rd PAIR_CMD.busy = 0) (hstate : s.rd PAIR_STATUS.state ≠ 1) :
    exec (.handover who) s = .next ((cmdShown s 1 (s.rd PAIR_CMD.force)).wr PAIR_CMD.result 1) := by
  have hst : pairState (cmdShown s 1 (s.rd PAIR_CMD.force)) ≠ pMirrored := fun h =>
    hstate ((rd_cmdShown _ _ (by decide) (by decide)).symm.trans h)
  change execHandover who s = _
  rw [execHandover, run_running s _ hrun, pairCmd_idle _ _ _ hreach hphase hidle]
  exact congrArg Host.Outcome.next (if_neg hst)

theorem allRetired_handingOver : allRetired (handingOver s) = allRetired s := by simp [allRetired, handingOver, cmdShown]

theorem handoverCheck_waits (h : allRetired s = false) : handoverCheck s = s := by
  rw [handoverCheck, h, Bool.and_false]
  rfl

/-- The handover record is on the link, and the command is over. -/
def handedOver (s : State) : State :=
  ((updPair s fun p => { p with handover := false, sent := p.sent ++ [.handover (s.rd PAIR_STATUS.epoch)] }).wr PAIR_CMD.busy 0).wr
    PAIR_CMD.result 0

theorem handoverCheck_done (hhandover : s.pair.handover = true) (hstate : s.rd PAIR_STATUS.state = 1) (hqueues : s.queues = [])
    (hdeltas : s.deltas = []) (hpubs : s.pubs = []) : handoverCheck s = setPair (handedOver s) 5 := by
  have hst : pairState s = pMirrored := hstate
  have hretired : allRetired s = true := by
    rw [allRetired, hqueues]
    rfl
  rw [handoverCheck, hhandover, hst, hretired, hdeltas, hpubs]
  rfl

/-- The active device stands by: it sends and fetches nothing, and expects any record. -/
theorem setPair_standby (hstate : s.rd PAIR_STATUS.state = 1) : setPair s 5 =
    updPair (stopFetching (forgetDeltas (s.wr PAIR_STATUS.state 5))) fun p => { p with expect := none } := if_pos hstate

/-- The state of a device that stands by after a handover. -/
def standingBy (s : State) : State :=
  updPair (stopFetching (forgetDeltas (s.wr PAIR_STATUS.state 5))) fun p => { p with expect := none }

theorem standingBy_op {α : Type} (op : State → α) (hcount : ∀ t : State, op (t.count WQ_PUSH_DEFER.count) = op t)
    (hheld : ∀ (t : State) n, op { t with pushHeld := n } = op t) (hqueues : ∀ (t : State) x, op { t with queues := x } = op t)
    (hexpect : ∀ t : State, op { t with pair := { t.pair with expect := none } } = op t) :
    op (standingBy s) = op (forgetDeltas (s.wr PAIR_STATUS.state 5)) :=
  (hexpect _).trans (foldl_frame op _ (fun _ q => leaveActive_op op hcount hheld hqueues q) _ _)

/-- What standing by leaves. -/
structure StandingBy (s t : State) : Prop where
  state : t.rd PAIR_STATUS.state = 5
  kept : ∀ d : Desc, WQ_PUSH_DEFER.count.apart d = true → PAIR_STATUS.state.apart d = true → t.rd d = s.rd d
  handover : t.pair.handover = s.pair.handover
  sent : t.pair.sent = s.pair.sent
  mem : t.mem = s.mem
  hostMem : t.hostMem = s.hostMem

theorem standingBy_parts : StandingBy s (standingBy s) := by
  have hrd (d : Desc) (h : WQ_PUSH_DEFER.count.apart d = true) : (standingBy s).rd d = (s.wr PAIR_STATUS.state 5).rd d :=
    standingBy_op (fun t => t.rd d) (fun _ => State.rd_count_apart _ _ _ _ _ _ h) (fun _ _ => rfl) (fun _ _ => rfl) fun _ => rfl
  refine ⟨?_, fun d hpush hstate => ?_, ?_, ?_, ?_, ?_⟩
  · rw [hrd _ (by decide)]
    exact State.rd_wr_same _ PAIR_STATUS.state 5 0 0 (by decide)
  · rw [hrd d hpush, State.rd_wr_apart _ _ _ _ _ _ hstate]
  · rw [standingBy_op (fun t => t.pair.handover) (by simp) (fun _ _ => rfl) (fun _ _ => rfl) fun _ => rfl]
    simp [forgetDeltas]
  · rw [standingBy_op (fun t => t.pair.sent) (by simp) (fun _ _ => rfl) (fun _ _ => rfl) fun _ => rfl]
    simp [forgetDeltas]
  · rw [standingBy_op State.mem (by simp) (fun _ _ => rfl) (fun _ _ => rfl) fun _ => rfl]
    simp [forgetDeltas]
  · rw [standingBy_op State.hostMem (by simp) (fun _ _ => rfl) (fun _ _ => rfl) fun _ => rfl]
    simp [forgetDeltas]

/-- A HANDOVER with nothing left is complete at once. -/
theorem handoverCheck_handingOver (hstate : s.rd PAIR_STATUS.state = 1) (hqueues : s.queues = []) (hdeltas : s.deltas = [])
    (hpubs : s.pubs = []) : handoverCheck (handingOver s) = standingBy (handedOver (handingOver s)) := by
  have hstate' : (handingOver s).rd PAIR_STATUS.state = 1 := (rd_handingOver (by decide) (by decide) (by decide)).trans hstate
  have hdone : handoverCheck (handingOver s) = setPair (handedOver (handingOver s)) 5 :=
    handoverCheck_done rfl hstate' (by simp [handingOver, cmdShown, hqueues]) (by simp [handingOver, cmdShown, hdeltas])
      (by simp [handingOver, cmdShown, hpubs])
  have hstate'' : (handedOver (handingOver s)).rd PAIR_STATUS.state = 1 :=
    (State.rd_wr_apart _ _ _ _ _ _ (by decide)).trans ((State.rd_wr_apart _ _ _ _ _ _ (by decide)).trans hstate')
  rw [hdone, setPair_standby hstate'', standingBy]

theorem handedOver_pair : (handedOver s).pair.handover = false ∧
    (handedOver s).pair.sent = s.pair.sent ++ [.handover (s.rd PAIR_STATUS.epoch)] := by
  constructor <;> simp [handedOver, updPair]

theorem rd_handedOver : (handedOver s).rd PAIR_CMD.busy = 0 ∧ (handedOver s).rd PAIR_CMD.result = 0 := by
  refine ⟨?_, State.rd_wr_same _ PAIR_CMD.result 0 0 0 (by decide)⟩
  rw [handedOver, State.rd_wr_apart _ _ _ _ _ _ (by decide)]
  exact State.rd_wr_same _ PAIR_CMD.busy 0 0 0 (by decide)

theorem exec_handover_done (hrun : stopped s = false) (hreach : reaches who (PAIR_CMD.go.key 0 0 / 8) = true)
    (hphase : s.rd BOOT_STATUS.phase ≠ 4) (hidle : s.rd PAIR_CMD.busy = 0) (hstate : s.rd PAIR_STATUS.state = 1) (hqueues : s.queues = [])
    (hdeltas : s.deltas = []) (hpubs : s.pubs = []) : ∃ t, exec (.handover who) s = .next t ∧ t.rd PAIR_STATUS.state = 5 ∧
      t.rd PAIR_CMD.busy = 0 ∧ t.rd PAIR_CMD.result = 0 ∧ t.pair.handover = false ∧
      t.pair.sent = s.pair.sent ++ [.handover (s.rd PAIR_STATUS.epoch)] ∧ t.mem = s.mem ∧ t.hostMem = s.hostMem := by
  have hby := standingBy_parts (s := handedOver (handingOver s))
  obtain ⟨hbusy, hresult⟩ := rd_handedOver (s := handingOver s)
  obtain ⟨hended, hsent⟩ := handedOver_pair (s := handingOver s)
  have hepoch : (handingOver s).rd PAIR_STATUS.epoch = s.rd PAIR_STATUS.epoch := rd_handingOver (by decide) (by decide) (by decide)
  rw [hepoch] at hsent
  have hexec := exec_handover hrun hreach hphase hidle hstate
  rw [handoverCheck_handingOver hstate hqueues hdeltas hpubs] at hexec
  refine ⟨_, hexec, hby.state, (hby.kept _ (by decide) (by decide)).trans hbusy, (hby.kept _ (by decide) (by decide)).trans hresult,
    hby.handover.trans hended, hby.sent.trans hsent, hby.mem.trans ?_, hby.hostMem.trans ?_⟩
  · simp [handedOver, updPair, handingOver, cmdShown]
  · simp [handedOver, updPair, handingOver, cmdShown]

/-! ### The baton pass -/

/-- The mirror's entries have met their fates, and the device is alone. -/
def passOver (t : State) (qs : List Nat) : State :=
  let u := coverRebuilt t qs
  let u := u.pair.records.foldl (fun v p => passRecord v p.1 p.2) u
  let u := u.pair.ops.foldl passLost (passQueues qs u)
  let u := qs.foldl updateStatus (qs.foldl retireQueue u)
  let u := (ownersOf u qs).foldl (fun v f => requestVector v f 0) u
  raise { u with pair := { u.pair with entries := [], ops := [], records := [] } } 0x224

theorem exec_passComplete {images : List (Nat × Nat × Nat)} {t : State} (hrun : stopped s = false) (hstate : s.rd PAIR_STATUS.state = 7)
    (hrebuilt : rebuildAll images (liveQueues s) (setPair s pSolo) = some t) :
    exec (.passComplete images) s = .next (passOver t (liveQueues s)) := by
  change execPassComplete images s = _
  rw [execPassComplete, run_running s _ hrun, if_neg (Classical.not_not.mpr (show pairState s = pPromoting from hstate))]
  dsimp only
  rw [hrebuilt]
  rfl

theorem exec_passComplete_torn {images : List (Nat × Nat × Nat)} (hrun : stopped s = false) (hstate : s.rd PAIR_STATUS.state = 7)
    (hrebuilt : rebuildAll images (liveQueues s) (setPair s pSolo) = none) : exec (.passComplete images) s = .next s := by
  change execPassComplete images s = _
  rw [execPassComplete, run_running s _ hrun, if_neg (Classical.not_not.mpr (show pairState s = pPromoting from hstate))]
  dsimp only
  rw [hrebuilt]

theorem exec_passComplete_other {images : List (Nat × Nat × Nat)} (hrun : stopped s = false) (hstate : s.rd PAIR_STATUS.state ≠ 7) :
    exec (.passComplete images) s = .next s := by
  change execPassComplete images s = _
  rw [execPassComplete, run_running s _ hrun]
  exact congrArg Host.Outcome.next (if_pos hstate)

/-- With nothing to rebuild, no reservation and no record, the pass only ends. -/
theorem passOver_empty (hops : s.pair.ops = []) (hrecords : s.pair.records = []) :
    passOver s [] = raise { s with pair := { s.pair with entries := [], ops := [], records := [] } } 0x224 := by
  simp [passOver, coverRebuilt, passQueues, ownersOf, hops, hrecords]

theorem exec_passComplete_empty {images : List (Nat × Nat × Nat)} (hrun : stopped s = false) (hstate : s.rd PAIR_STATUS.state = 7)
    (hqueues : liveQueues s = []) (hops : s.pair.ops = []) (hrecords : s.pair.records = []) (hpubs : s.pubs = []) : ∃ t,
      exec (.passComplete images) s = .next t ∧ t.rd PAIR_STATUS.state = 3 ∧ t.pseq = 0 ∧ t.pair.entries = [] ∧
      t.rd IRQ_SRC.asserted 0x224 = 1 ∧ t.mem = s.mem ∧ t.hostMem = s.hostMem := by
  have hpair : (soloed s).pair = s.pair := by simp [soloed, forgetDeltas]
  have hrebuilt : rebuildAll images (liveQueues s) (setPair s pSolo) = some (soloed s) := by
    have hnil (u : State) : rebuildAll images [] u = some u := rfl
    have hsolo : setPair s pSolo = soloed s := setPair_solo hpubs
    rw [hqueues, hnil, hsolo]
  refine ⟨_, exec_passComplete hrun hstate hrebuilt, ?_⟩
  rw [hqueues, passOver_empty (by rw [hpair, hops]) (by rw [hpair, hrecords])]
  refine ⟨?_, ?_, ?_, rd_raise_asserted _ (by decide), ?_, ?_⟩
  · rw [rd_raise _ _ _ _ (by decide) (by decide)]
    exact rd_state_soloed
  · rw [raise_pseq]
    rfl
  · rw [raise_pair]
  · rw [raise_mem]
    simp [soloed, forgetDeltas]
  · rw [raise_hostMem]
    simp [soloed, forgetDeltas]

theorem exec_chargeReportReceive {a b : Nat} (hrun : stopped s = false) (ha : a < 4096) : exec (.chargeReportReceive a b) s =
    .next (({ s with nrg := { s.nrg with reports := s.nrg.reports ++ [(a, b)] } } : State).count PAIR_CNT.count 1 6) := by
  change execChargeReportReceive a b s = _
  rw [execChargeReportReceive, run_running s _ hrun, Nat.mod_eq_of_lt ha]

theorem exec_deltaAckReceive_published {n need f a : Nat} {bs : Bytes} (hrun : stopped s = false) (hstate : s.rd PAIR_STATUS.state = 1)
    (hpubs : s.pubs = [⟨need, .write f a bs⟩]) (hhandover : s.pair.handover = false) (hlo : s.rd PAIR_ACKED.pseq ≤ n) (hhi : n ≤ s.pseq)
    (hall : (s.deltas.all fun d => decide (d.pseq ≤ n)) = true) (hlive : fnLive s f = true) : ∃ t,
      exec (.deltaAckReceive n) s = .next t ∧ t.pubs = [] ∧ t.deltas = [] ∧ loadBytes t.hostMem (hostKey f a) bs.length = bs ∧
      t.mem = s.mem := by
  obtain ⟨hpublish, hdeltas, hlive'⟩ := releasePubs_acked hstate hpubs hall hlive
  have hchecked : handoverCheck (releasePubs (acked s n)) = hostWrite { acked s n with pubs := [] } f a bs := by
    rw [hpublish]
    exact handoverCheck_none (by simp [acked, hhandover])
  refine ⟨_, (exec_deltaAckReceive hrun hlo hhi).trans (congrArg _ hchecked), by simp, ?_, ?_, ?_⟩
  · rw [hostWrite_deltas, hdeltas]
  · rw [hostWrite_hostMem_live a bs hlive', loadBytes_storeBytes_same]
  · simp [acked]

/-- A partner of another configuration: nothing follows but in a device that is alone or holds. -/
theorem pairLook_differing (hdiffers : s.pair.peerDig ≠ configDigest s) (hstate : s.rd PAIR_STATUS.state ∈ [0, 1, 4, 5, 6, 7]) :
    pairLook (linkJudged (linkMatched (linkRaised s))) = linkJudged (linkMatched (linkRaised s)) := by
  have hshown := linkShown (s := s)
  by_cases h : s.rd PAIR_STATUS.state = 6
  · exact pairLook_unmatched (hshown.state.trans h) (hshown.differ hdiffers).1
  · refine pairLook_kept ?_
    rw [hshown.state]
    simpa [h] using hstate

/-- The link comes up with a partner of the same configuration and another role. -/
theorem exec_pairLinkUp_kept (hrun : stopped s = false) (hon : enabled s .pair = true) (hdown : s.rd PAIR_STATUS.link_up = 0)
    (hlanes : s.start.serdes.contains 4 = true) (hclock : s.rd DEV_CLK_STAT.pair = 1) (hheard : s.pair.heard = true)
    (hkept : pairLook (linkJudged (linkMatched (linkRaised s))) = linkJudged (linkMatched (linkRaised s))) : ∃ t,
      exec .pairLinkUp s = .next t ∧ LinkShown s t := by
  refine ⟨_, exec_pairLinkUp hrun hon hdown hlanes hclock hheard, ?_⟩
  rw [hkept]
  exact linkShown

theorem exec_pairLinkUp_mirrored (hrun : stopped s = false) (hon : enabled s .pair = true) (hdown : s.rd PAIR_STATUS.link_up = 0)
    (hlanes : s.start.serdes.contains 4 = true) (hclock : s.rd DEV_CLK_STAT.pair = 1) (hheard : s.pair.heard = true)
    (hsame : s.pair.peerDig = configDigest s) (hrole : s.pair.peerRole ≠ s.rd PAIR_CFG.role_req) (hpubs : s.pubs = [])
    (hstate : s.rd PAIR_STATUS.state = 3) (hpeer : s.rd PAIR_STATUS.peer_state = 5) : ∃ t, exec .pairLinkUp s = .next t ∧
      t.rd PAIR_STATUS.link_up = 1 ∧ t.rd PAIR_STATUS.state = 1 ∧ t.rd IRQ_SRC.asserted 0x228 = 1 ∧ t.mem = s.mem ∧
      t.hostMem = s.hostMem := by
  have hshown := linkShown (s := s)
  have hlook := pairLook_mirrored hshown.linkUp (hshown.agree hrole) (hshown.state.trans hstate) (hshown.same hsame)
    (hshown.peer.trans hpeer)
  have hmirrored := mirrored_raise (hshown.pubs.trans hpubs)
  refine ⟨_, (exec_pairLinkUp hrun hon hdown hlanes hclock hheard).trans (congrArg _ hlook), ?_, hmirrored.state, hmirrored.asserted,
    hmirrored.mem.trans hshown.mem, hmirrored.hostMem.trans hshown.hostMem⟩
  rw [hmirrored.kept _ (by decide) (by decide) (by decide), hshown.linkUp]

/-- The comparisons, as they follow one another. -/
def linkChecked (s : State) : State :=
  let u := s.wr PAIR_STATUS.cfg_match (if s.pair.peerDig = configDigest s then 1 else 0)
  let u := if u.pair.peerDig = configDigest u then u else raise u 0x226
  if u.pair.conflict = true then raise u 0x229 else u

theorem linkChecked_eq : linkJudged (linkMatched s) = linkChecked s := by
  have hdigest (v : Nat) : (s.wr PAIR_STATUS.cfg_match v).pair.peerDig = configDigest (s.wr PAIR_STATUS.cfg_match v) ↔
      s.pair.peerDig = configDigest s := by simp [configDigest]
  unfold linkChecked linkJudged linkMatched
  dsimp only
  by_cases h : s.pair.peerDig = configDigest s
  · rw [if_pos h, if_pos h, if_pos ((hdigest 1).mpr h)]
  · rw [if_neg h, if_neg h, if_neg fun hd => h ((hdigest 0).mp hd)]

/-- The state in which the link is up, by what it reads then. -/
theorem linkRaised_eq : linkRaised s = { raise (s.wr PAIR_STATUS.link_up 1) 0x220 with
    pair := { (raise (s.wr PAIR_STATUS.link_up 1) 0x220).pair with
      lastBlock := now s
      conflict := decide ((raise (s.wr PAIR_STATUS.link_up 1) 0x220).pair.peerRole =
        (raise (s.wr PAIR_STATUS.link_up 1) 0x220).rd PAIR_CFG.role_req) } } := by
  have hrole : (raise (s.wr PAIR_STATUS.link_up 1) 0x220).rd PAIR_CFG.role_req = s.rd PAIR_CFG.role_req := by
    rw [rd_raise _ _ _ _ (by decide) (by decide), State.rd_wr_apart _ _ _ _ _ _ (by decide)]
  rw [hrole]
  rfl

end Pairing

/-- Settles O56: each pair state is entered by writes that stand apart from what the statement reads, and what a promotion or a pass
walks through touches neither host memory nor the pair's own registers.  The corners of the transitions (log entry 106), those of the
pass (entry 108) and the bit order of the block's CRC-32 (entry 109) are the model's choices. -/
theorem pairedOperation : Obligations.PairedOperation := by
  unfold Obligations.PairedOperation
  refine ⟨fun s d h hrun hon hlen hcrc hstate => exec_pairBlockReceive_other hrun hon hlen hcrc hstate,
    fun s d h hrun hcrc => exec_pairBlockReceive_bad hrun hcrc,
    fun s d hrun hon hlen hcrc hstate hauto halive => exec_pairBlockReceive_low hrun hon hlen hcrc hstate hauto halive,
    ?handoverBlock, ?linkUp, ?linkMirrored, ?linkDiffers, ?linkClash, ?linkSolo, ?linkHold,
    fun s hrun hearly => exec_pairLinkTimeout_early hrun hearly, ?linkDetached, ?noLink,
    fun s st e r d hrun hon hdown => exec_heartbeatReceive_unlinked hrun hon hdown,
    fun s e r d hrun hon hup hstate hconflict _ hmatch hpubs =>
      exec_heartbeatReceive_mirrored hrun hon hup hstate hconflict hmatch hpubs,
    fun s e r d hrun hon hup hstate hconflict hepoch => exec_heartbeatReceive_fenced hrun hon hup hstate hconflict hepoch,
    fun s hrun hup => exec_aliveInChange_high hrun hup, ?aliveLow,
    fun s k hrun hon hkick hlate => exec_aliveWatchdogExpiry hrun hon hkick hlate,
    fun s who hrun hreach hphase hon => exec_pairKick hrun hreach hphase hon,
    fun s bs d hrun hparse hnext hkind => ⟨_, exec_deltaRecordReceive hrun hparse hnext, applyDelta_key_parts hkind⟩,
    fun s bs d hrun hparse hnext => exec_deltaRecordReceive_other hrun hparse hnext,
    fun s bs hrun hparse => exec_deltaRecordReceive_bad hrun hparse, ?ack,
    fun s n need f a bs hrun hstate hpubs _ hhandover hlo hhi hall hlive =>
      exec_deltaAckReceive_published hrun hstate hpubs hhandover hlo hhi hall hlive,
    fun s a b hrun ha => exec_chargeReportReceive hrun ha, ?hold, fun s hrun h => exec_holdExpiry_early hrun h, ?timer,
    fun s hrun h => exec_promotionTimer_waits hrun h,
    fun s who force hrun hreach hphase hidle hstate => exec_promote_parts hrun hreach hphase hidle (Or.inl hstate),
    fun s who hrun hreach hphase hidle hstate => exec_promote_parts hrun hreach hphase hidle (Or.inr ⟨rfl, hstate⟩),
    fun s who hrun hreach hphase hidle hstate => exec_promote_refused hrun hreach hphase hidle hstate,
    fun s who force hrun hreach hphase hbusy => exec_promote_busy hrun hreach hphase hbusy,
    fun s who hrun hreach hphase hidle hstate hqueues hdeltas hpubs =>
      exec_handover_done hrun hreach hphase hidle hstate hqueues hdeltas hpubs, ?handoverWaits,
    fun s who hrun hreach hphase hidle hstate => exec_handover_refused hrun hreach hphase hidle hstate,
    fun s l hrun hstate hqueues hops hrecords hpubs => exec_passComplete_empty hrun hstate hqueues hops hrecords hpubs,
    fun s l hrun hstate => exec_passComplete_other hrun hstate, ?linkUpChain,
    fun s hrun h => exec_pairLinkUp_waits hrun h, fun s hrun hdue => exec_pairLinkTimeout hrun hdue,
    fun s hrun => exec_laneAlignmentLoss hrun, fun s bs d hrun hparse hnext => exec_deltaRecordReceive hrun hparse hnext,
    fun s hrun hstate hdue => exec_holdExpiry hrun hstate hdue,
    fun s hrun hstate hauto halive hlow hblock => exec_promotionTimer hrun hstate hauto halive hlow hblock,
    fun s l t hrun hstate hrebuilt => exec_passComplete hrun hstate hrebuilt,
    fun s l hrun hstate hrebuilt => exec_passComplete_torn hrun hstate hrebuilt⟩
  case handoverBlock =>
    intro s d hrun hon hlen hcrc hstate
    obtain ⟨hstate', hepoch, htime, hdecided, hasserted, -, hhost⟩ := promoted_blockJudged (s := s)
    exact ⟨_, exec_pairBlockReceive_handover hrun hon hlen hcrc hstate, hstate', hepoch, htime, hdecided, hasserted, hhost⟩
  case linkUp =>
    intro s hrun hon hdown hlanes hclock hheard hsame hrole hstate
    obtain ⟨t, hexec, hshown⟩ := exec_pairLinkUp_kept hrun hon hdown hlanes hclock hheard
      (pairLook_kept (linkShown.state.symm ▸ hstate))
    exact ⟨t, hexec, hshown.linkUp, hshown.same hsame, hshown.lastBlock, hshown.agree hrole, hshown.state, hshown.asserted,
      hshown.mem, hshown.hostMem⟩
  case linkMirrored =>
    intro s hrun hon hdown hlanes hclock hheard hsame hrole hpubs hstate hpeer
    exact exec_pairLinkUp_mirrored hrun hon hdown hlanes hclock hheard hsame hrole hpubs hstate hpeer
  case linkDiffers =>
    intro s hrun hon hdown hlanes hclock hheard hdiffers hrole hstate
    obtain ⟨t, hexec, hshown⟩ := exec_pairLinkUp_kept hrun hon hdown hlanes hclock hheard (pairLook_differing hdiffers hstate)
    exact ⟨t, hexec, (hshown.differ hdiffers).1, hshown.state, (hshown.differ hdiffers).2, hshown.mem, hshown.hostMem⟩
  case linkClash =>
    intro s hrun hon hdown hlanes hclock hheard hrole
    obtain ⟨t, hexec, hshown⟩ := exec_pairLinkUp_kept hrun hon hdown hlanes hclock hheard
      (pairLook_shut (Or.inr (linkShown.clash hrole).1))
    exact ⟨t, hexec, hshown.linkUp, (hshown.clash hrole).1, hshown.state, (hshown.clash hrole).2, hshown.mem, hshown.hostMem⟩
  case linkSolo =>
    intro s hrun hup halive hpubs hstate hdue
    obtain ⟨t, ht, hparts⟩ := pairLinkDown_solo_parts hup hstate halive hpubs
    exact ⟨t, (exec_pairLinkTimeout hrun hdue).trans (congrArg _ ht), hparts⟩
  case linkHold =>
    intro s hrun hup halive hstate hhold hdue
    obtain ⟨t, ht, hparts⟩ := pairLinkDown_hold_parts hup hstate halive hhold
    exact ⟨t, (exec_pairLinkTimeout hrun hdue).trans (congrArg _ ht), hparts⟩
  case linkDetached =>
    intro s hrun hup halive hstate
    obtain ⟨t, ht, hparts⟩ := pairLinkDown_detached_parts hup hstate halive
    exact ⟨t, (exec_laneAlignmentLoss hrun).trans (congrArg _ ht), hparts⟩
  case noLink =>
    intro s hrun hdown
    rw [exec_laneAlignmentLoss hrun, pairLinkDown_down hdown]
  case aliveLow =>
    intro s hrun hstate hpubs
    have halone := alone_goSolo (s := aliveShown s false) (by simpa [aliveShown] using hpubs)
    refine ⟨_, exec_aliveInChange_low hrun hstate, ?_, halone.state, ?_, halone.asserted, halone.mem.trans (by simp [aliveShown]),
      halone.hostMem.trans (by simp [aliveShown])⟩
    · rw [halone.kept _ (by decide) (by decide) (by decide)]
      exact State.rd_wr_same s PAIR_STATUS.peer_alive 0 0 0 (by decide)
    · rw [halone.pins, aliveShown]
  case ack =>
    intro s n hrun hpubs hhandover hlo hhi
    have hnone : releasePubs (acked s n) = acked s n := releasePubs_none (by simpa [acked] using hpubs)
    rw [exec_deltaAckReceive hrun hlo hhi, hnone, handoverCheck_none (by simpa [acked] using hhandover)]
    rfl
  case hold =>
    intro s hrun hstate hpubs hdue
    have halone := alone_goSolo hpubs
    exact ⟨_, exec_holdExpiry hrun hstate hdue, halone.state, halone.deltas, halone.pseq, halone.asserted, halone.mem, halone.hostMem⟩
  case timer =>
    intro s l hrun hstate hauto halive hlow hlow' hblock
    obtain ⟨hstate', hepoch, htime, hdecided, hasserted, -, hhost⟩ := promoted (s := s)
    exact ⟨_, exec_promotionTimer hrun hstate hauto halive (by rw [hlow]; exact hlow') hblock, hstate', hepoch, htime, hdecided,
      hasserted, hhost⟩
  case handoverWaits =>
    intro s who hrun hreach hphase hidle hstate hleft
    rw [exec_handover hrun hreach hphase hidle hstate, handoverCheck_waits (allRetired_handingOver.trans hleft)]
    rfl
  case linkUpChain =>
    intro s hrun hon hdown hlanes hclock hheard
    exact (exec_pairLinkUp hrun hon hdown hlanes hclock hheard).trans (congrArg (Host.Outcome.next ∘ pairLook)
      (linkChecked_eq.trans (congrArg linkChecked linkRaised_eq)))

end Sys2Proof.Machine
end

section
/-! SUPPORT. The blob of a VF (R828, R829), and the refutation of O49: a blob of more than 2^64 bytes wraps around onto itself. -/
namespace Sys2Proof.Machine

section Blob

variable {s : State}

/-! ### What a blob is made of when the VF owns nothing but its vectors -/

/-- The device holds nothing for any VF but an MSI-X table of `n` vectors for VF 0. -/
structure Bare (s : State) (n : Nat) : Prop where
  mem : s.mem = []
  hostMem : s.hostMem = []
  cache : s.trn.cache = []
  vols : s.blk.vols = []
  groups : listedMembers s WQ_GROUP_OWNER.valid = []
  rings : listedMembers s CQ_CTX.valid = []
  regions : listedMembers s TRN_RGN_BLOCK.valid = []
  keys : listedMembers s CIP_KEY_BLOCK.valid = []
  vectors : vectorCount s 8 = n

/-- A write of a field below an array leaves the members that the store lists for it. -/
theorem listedMembers_wr {d e : Desc} {i : Nat} (v : Nat) (h : d.key i 0 < e.key 0 0) : listedMembers (s.wr d v i) e = listedMembers s e := by
  have hnone (x : Nat) : (fun p : Nat × Nat => if e.key 0 0 ≤ p.1 ∧ (p.1 - e.key 0 0) % (e.s1 * 8) = 0 ∧
      (p.1 - e.key 0 0) / (e.s1 * 8) < e.n1 then some ((p.1 - e.key 0 0) / (e.s1 * 8)) else none) (d.key i 0, x) = none :=
    if_neg fun hin => absurd hin.1 (Nat.not_le.mpr h)
  have hinsert (m : Map Nat) (f : Nat × Nat → Option Nat) (k x : Nat) (hf : ∀ y, f (k, y) = none) :
      (Map.insert m k x).filterMap f = m.filterMap f := by
    induction m with
    | nil => exact List.filterMap_cons_none (hf x)
    | cons p m ih =>
      rw [Map.insert]
      split
      · exact List.filterMap_cons_none (hf x)
      · split
        case isTrue hk =>
          have hp : f p = none := by
            obtain ⟨k', v'⟩ := p
            have hkey : k = k' := hk
            rw [← hkey, hf]
          rw [List.filterMap_cons_none (hf x), List.filterMap_cons_none hp]
        case isFalse => rw [List.filterMap_cons, List.filterMap_cons, ih]
  have herase (m : Map Nat) (f : Nat × Nat → Option Nat) (k : Nat) (hf : ∀ y, f (k, y) = none) :
      (Map.erase m k).filterMap f = m.filterMap f := by
    rw [Map.erase, List.filterMap_filter]
    refine congrArg (fun g => m.filterMap g) (funext fun p => ?_)
    obtain ⟨k', v'⟩ := p
    by_cases hk : k' = k
    · rw [hk, hf]
      exact ite_self none
    · exact if_pos (decide_eq_true hk)
  unfold listedMembers State.wr
  split
  · dsimp only
    unfold Map.setD
    split
    · exact herase _ _ _ hnone
    · exact hinsert _ _ _ _ hnone
  · rfl

/-- A write to page 0 of HIF_MCMD leaves all of it. -/
theorem Bare.wr {n : Nat} (h : Bare s n) {d : Desc} (v : Nat) (hplace : d.key 0 0 < TRN_RGN_BLOCK.valid.key 0 0)
    (hq : d.key 0 0 < WQ_GROUP_OWNER.valid.key 0 0) (hapart : functionFields.all (d.apart ·) = true) (hvec : d.apart HIF_PF_CFG.vf_vec = true) :
    Bare (s.wr d v) n := by
  have hrings : d.key 0 0 < CQ_CTX.valid.key 0 0 := Nat.lt_trans hplace (by decide)
  have hkeys : d.key 0 0 < CIP_KEY_BLOCK.valid.key 0 0 := Nat.lt_trans hplace (by decide)
  refine ⟨by simp [h.mem], by simp [h.hostMem], by simp [h.cache], by simp [h.vols], (listedMembers_wr v hq).trans h.groups,
    (listedMembers_wr v hrings).trans h.rings, (listedMembers_wr v hplace).trans h.regions, (listedMembers_wr v hkeys).trans h.keys, ?_⟩
  have hcount : vectorCount (s.wr d v) 8 = vectorCount s 8 := by
    simp only [vectorCount, pfOf_wr hapart, State.rd_wr_apart _ _ _ _ _ _ hvec]
    rw [if_neg (by decide), if_neg (by decide)]
  exact hcount.trans h.vectors

theorem mailBytes_length (a : MailArea) : (mailBytes a).length = 256 := by simp [mailBytes, leBytes_length]

namespace Bare

variable {n : Nat} (h : Bare s n)
include h

theorem conns : ownedConns s 8 = [] := by
  have hnone : findableConns s = [] := by
    simp [findableConns, cachedConns, h.mem, h.hostMem, h.cache, Map.keys]
  rw [ownedConns, hnone]
  simp

theorem owned : ownedQueues s 8 = [] ∧ ownedRings s 8 = [] ∧ ownedVols s 8 = [] ∧ fnRgnBlocks s 8 = [] ∧ fnKeyBlocks s 8 = [] := by
  simp [ownedQueues, groupsOf, ownedRings, ownedVols, fnRgnBlocks, fnKeyBlocks, h.groups, h.rings, h.vols, h.regions, h.keys, Map.keys]

theorem savedMsix_length : (savedMsix s 8).length = 16 * n + ceilDiv n 64 * 8 := by
  rw [savedMsix, h.vectors, List.length_append, leBytes_length, List.length_flatMap]
  simp only [leBytes_length]
  rw [List.map_const', List.sum_replicate_nat, List.length_range, Nat.mul_comm n]

theorem savedBody_length : (savedBody s 0).length = 16 * n + ceilDiv n 64 * 8 + 512 := by
  obtain ⟨hqueues, hrings, hvols, hregions, -⟩ := h.owned
  simp [savedBody, hqueues, hrings, hvols, hregions, h.conns, h.savedMsix_length, mailBytes_length, pad64]

theorem blobLength_eq : blobLength s 0 = 16 * n + ceilDiv n 64 * 8 + 600 := by
  obtain ⟨-, -, -, -, hkeys⟩ := h.owned
  simp [blobLength, h.savedBody_length, hkeys]
  omega

/-- Bytes 40 to 47 of a blob are among the zeros that end its header. -/
theorem blobBody_zeros (p : Nat) : ∃ front rest, front.length = 40 ∧ rest.length = 16 * n + ceilDiv n 64 * 8 + 544 ∧
    blobBody s p 0 false = front ++ (leBytes 8 0 ++ rest) := by
  obtain ⟨-, -, -, -, hkeys⟩ := h.owned
  refine ⟨leBytes 4 1 ++ leBytes 4 0 ++ leBytes 8 (now s) ++ leBytes 2 (groupsOf s 8).length ++ leBytes 2 (ownedRings s 8).length
    ++ leBytes 4 (ownedConns s 8).length ++ leBytes 2 (fnRgnBlocks s 8).length ++ leBytes 2 (fnKeyBlocks s 8).length
    ++ leBytes 4 ((ownedVols s 8).length + 2 <<< 16) ++ leBytes 8 (blobLength s 0),
    leBytes 16 0 ++ savedBody s 0 ++ List.replicate ((savedKeys s 8).length + 16) 0, ?_, ?_, ?_⟩
  · simp [leBytes_length]
  · simp [leBytes_length, h.savedBody_length, savedKeys, hkeys]
    omega
  · have hzeros : leBytes 24 0 = leBytes 8 0 ++ leBytes 16 0 := rfl
    simp only [blobBody, blobHeader, keySection, hzeros, Bool.false_eq_true, if_false, List.append_assoc]

end Bare

/-! ### SAVE of PF 0 -/

theorem exec_save_page {p vf : Nat} {ok : Bool} (hrun : stopped s = false) (hp : p < 8) (hidle : s.rd HIF_MCMD.busy p = 0)
    (hvf : s.rd HIF_MCMD.vf p = vf) (hin : vfInPf s p vf = true) :
    exec (.save (.steward 0) p ok) s = .next (saveVf (s.wr HIF_MCMD.action 1 p) p vf ok) := by
  have hvf' : (s.wr HIF_MCMD.action 1 p).rd HIF_MCMD.vf p = vf := (State.rd_wr_apart _ _ _ _ _ _ (by decide)).trans hvf
  have hin' : vfInPf (s.wr HIF_MCMD.action 1 p) p vf = true := by
    simp only [vfInPf, State.on]
    simp (disch := decide) only [State.rd_wr_apart]
    exact hin
  change execSave (.steward 0) p ok s = _
  rw [execSave, run_running s _ hrun, mcmd, if_neg (Nat.not_le.mpr hp), if_neg (c := (!reachesMcmd (.steward 0) p) = true) Bool.false_ne_true]
  change Host.Outcome.next (if s.on HIF_MCMD.busy p = true then _ else
    if vfInPf (s.wr HIF_MCMD.action 1 p) p ((s.wr HIF_MCMD.action 1 p).rd HIF_MCMD.vf p) = true then
      saveVf (s.wr HIF_MCMD.action 1 p) p ((s.wr HIF_MCMD.action 1 p).rd HIF_MCMD.vf p) ok else _) = _
  rw [on_of_rd_zero hidle, if_neg (by decide), hvf', if_pos hin']

theorem fnLive_pcieBytes (f bytes acct : Nat) {fn : Nat} : fnLive (pcieBytes s f bytes acct) fn = fnLive s fn := by
  refine fnLive_congr (fun e he k l => ?_) (by simp [pcieBytes, pcieActivity])
  have hpmc : PMC_CNT.count.apart e = true := (List.all_eq_true (p := (PMC_CNT.count.apart ·))).mp (by decide) e he
  rw [pcieBytes, rd_pmc _ _ _ _ _ _ _ hpmc, pcieActivity, rd_activity, rd_fabricFlits _ _ _ _ _ hpmc]

theorem fnLive_hostWrite {f : Nat} (a : Nat) (bs : Bytes) {fn : Nat} : fnLive (hostWrite s f a bs) fn = fnLive s fn :=
  fnLive_congr (fun e _ k l => State.rd_congr (by simp) e k l) (by simp)

/-- The state in which the length of the blob is shown. -/
def lengthShown (s : State) (p vf : Nat) : State := s.wr HIF_MCMD.blob_len (blobLength s vf) p

/-- The blob is written, and its commit word behind it. -/
theorem saveVf_hostMem {p vf : Nat} (hmig : migOf s vf = .quiesced) (hfits : blobLength s vf ≤ s.rd HIF_MCMD.len p)
    (hwrap : s.rd HIF_MCMD.wrap_en p = 0) (hlive : fnLive s p = true) : ∃ m c, (saveVf s p vf true).hostMem =
      storeBytes m (hostKey p (s.rd HIF_MCMD.addr p + (blobBody (lengthShown s p vf) p vf false).length))
        (leBytes 8 (commitWord c (blobBody (lengthShown s p vf) p vf false))) := by
  have hlen : ¬ (lengthShown s p vf).rd HIF_MCMD.len p < blobLength s vf := by
    rw [lengthShown, State.rd_wr_apart _ _ _ _ _ _ (by decide)]
    exact Nat.not_lt.mpr hfits
  have hcount : wrapCount (lengthShown s p vf) p = some (lengthShown s p vf, false) := by
    have hoff : (lengthShown s p vf).rd HIF_MCMD.wrap_en p = 0 := (State.rd_wr_apart _ _ _ _ _ _ (by decide)).trans hwrap
    rw [wrapCount, on_of_rd_zero hoff]
    rfl
  have haddr : (lengthShown s p vf).rd HIF_MCMD.addr p = s.rd HIF_MCMD.addr p := State.rd_wr_apart _ _ _ _ _ _ (by decide)
  have hlive' : fnLive (lengthShown s p vf) p = true := (fnLive_wr (by decide) p).trans hlive
  have hsave : saveVf s p vf true = endMcmd (hostWrite (hostWrite (pcieBytes (lengthShown s p vf) p (blobLength s vf) 0) p
      (s.rd HIF_MCMD.addr p) (blobBody (lengthShown s p vf) p vf false)) p
      (s.rd HIF_MCMD.addr p + (blobBody (lengthShown s p vf) p vf false).length)
      (leBytes 8 (commitWord ((lengthShown s p vf).rd HIF_MCMD.seq p) (blobBody (lengthShown s p vf) p vf false)))) p 0 := by
    rw [saveVf, if_neg (Classical.not_not.mpr hmig)]
    change (if (lengthShown s p vf).rd HIF_MCMD.len p < blobLength s vf then _ else _) = _
    rw [if_neg hlen, ← lengthShown, hcount]
    dsimp only
    rw [hlive', if_neg (by decide), haddr]
  have hmoved : fnLive (pcieBytes (lengthShown s p vf) p (blobLength s vf) 0) p = true := (fnLive_pcieBytes _ _ _).trans hlive'
  refine ⟨(hostWrite (pcieBytes (lengthShown s p vf) p (blobLength s vf) 0) p (s.rd HIF_MCMD.addr p)
    (blobBody (lengthShown s p vf) p vf false)).hostMem, (lengthShown s p vf).rd HIF_MCMD.seq p, ?_⟩
  rw [hsave, endMcmd, raise_hostMem, State.wr_hostMem, State.wr_hostMem]
  exact hostWrite_hostMem_live _ _ ((fnLive_hostWrite _ _).trans hmoved)

/-! ### Bytes of a load -/

theorem drop_loadBytes (m : Map Byte) (a i n : Nat) : (loadBytes m a (i + n)).drop i = loadBytes m (a + i) n := by
  induction i generalizing a with
  | zero => simp
  | succ i ih =>
    rw [Nat.add_right_comm, loadBytes, List.drop_succ_cons, ih, Nat.add_assoc, Nat.add_comm 1 i]

theorem take_loadBytes (m : Map Byte) (a i n : Nat) : (loadBytes m a (i + n)).take i = loadBytes m a i := by
  induction i generalizing a with
  | zero => rfl
  | succ i ih => rw [Nat.add_right_comm, loadBytes, loadBytes, List.take_succ_cons, ih]

/-- The middle of a load. -/
theorem loadBytes_middle {m : Map Byte} {a : Nat} {front mid rest : Bytes}
    (h : loadBytes m a (front ++ (mid ++ rest)).length = front ++ (mid ++ rest)) : loadBytes m (a + front.length) mid.length = mid := by
  rw [List.length_append, List.length_append] at h
  have hdrop := congrArg (List.drop front.length) h
  rw [drop_loadBytes, List.drop_left] at hdrop
  have htake := congrArg (List.take mid.length) hdrop
  rwa [take_loadBytes, List.take_left] at htake

end Blob

/-! ### The counterexample -/

/-- A field stored without regard to its width. -/
def stored (m : Map Nat) (d : Desc) (v : Nat) : Map Nat := Map.insert m (d.key 0 0) v

/-- Vectors of a VF whose blob wraps around to byte 40 of its own header. -/
def wrapVectors : Nat := 64 * 1984097473044341307

/-- VF 0 of PF 0, QUIESCED, with as many vectors. -/
def wrappingVf : State :=
  { State.reset with
    regs := stored (stored (stored (stored resetRegs HIF_PF_CFG.enable 1) HIF_PF_CFG.total_vfs 1) HIF_PF_CFG.vf_vec wrapVectors)
      HIF_MCMD.len (2 ^ 128)
    hif := { State.reset.hif with mig := [(0, .quiesced)], fns := [(0, { bme := true })] } }

/-- Its clocks run. -/
example : stopped wrappingVf = false := by decide +kernel

theorem bare_wrappingVf : Bare wrappingVf wrapVectors :=
  ⟨by decide +kernel, by decide +kernel, by decide +kernel, by decide +kernel, by decide +kernel, by decide +kernel, by decide +kernel,
    by decide +kernel, by decide +kernel⟩

/-- The state in which PF 0 saves it. -/
def savingVf : State := wrappingVf.wr HIF_MCMD.action 1

theorem bare_savingVf : Bare savingVf wrapVectors := bare_wrappingVf.wr _ (by decide) (by decide) (by decide) (by decide)

/-- The commit word stands where the blob's own header was. -/
theorem place_of_commit : hostKey 0 (savingVf.rd HIF_MCMD.addr 0 + (blobBody (lengthShown savingVf 0 0) 0 0 false).length) = 40 := by
  have hshown : Bare (lengthShown savingVf 0 0) wrapVectors :=
    bare_savingVf.wr _ (by decide) (by decide) (by decide) (by decide)
  obtain ⟨front, rest, hfront, hrest, hbody⟩ := hshown.blobBody_zeros 0
  have haddr : savingVf.rd HIF_MCMD.addr 0 = 0 := by decide +kernel
  rw [haddr, hbody, List.length_append, List.length_append, hfront, hrest, leBytes_length]
  decide +kernel

theorem fits_wrappingVf : blobLength wrappingVf 0 ≤ wrappingVf.rd HIF_MCMD.len 0 := by
  rw [bare_wrappingVf.blobLength_eq]
  decide +kernel

theorem fits_savingVf : blobLength savingVf 0 ≤ savingVf.rd HIF_MCMD.len 0 := by
  rw [bare_savingVf.blobLength_eq]
  decide +kernel

/-- The tag of a commit word fills its low bits. -/
theorem commitTag_low (x y : Nat) : (commitTag + x <<< 16 + y <<< 32) % 2 ^ 8 ≠ 0 := by
  have htag : commitTag = 0xC0A1 := rfl
  rw [Nat.shiftLeft_eq, Nat.shiftLeft_eq, htag]
  omega

/-- A commit word is not 0: its tag is not. -/
theorem leBytes_commitWord_ne (seq : Nat) (bs : Bytes) : leBytes 8 (commitWord seq bs) ≠ leBytes 8 0 := by
  intro h
  have hbyte : commitWord seq bs % 2 ^ 8 = 0 := by simpa using congrArg BitVec.toNat (List.cons.inj h).1
  exact commitTag_low _ _ hbyte

/-- Refutes O49: its tenth clause has the whole blob stand in host memory in every state in which SAVE succeeds.  It ranges over all
states, also over those whose registers hold more than their width: VF 0 has so many vectors that its blob (whose form is the model's
choice, log entry 89) is longer than the 2^64 bytes of a function's memory, and the commit word is written over bytes 40 to 47 of the
header, which are 0. -/
theorem not_mailboxesAndMigration : ¬ Obligations.MailboxesAndMigration := by
  unfold Obligations.MailboxesAndMigration
  rintro ⟨-, -, -, -, -, -, -, -, -, hsave, -⟩
  obtain ⟨t, hexec, hblob, -⟩ := hsave wrappingVf (.steward 0) 0 0 (by decide +kernel) (by decide) (by decide) (by decide +kernel)
    (by decide +kernel) (by decide +kernel) (by decide +kernel) (by decide +kernel) (by decide +kernel) (by decide +kernel)
    fits_wrappingVf (by decide +kernel) (by decide +kernel)
  obtain ⟨m, c, hmem⟩ := saveVf_hostMem (s := savingVf) (p := 0) (vf := 0) (by decide +kernel) fits_savingVf (by decide +kernel)
    (by decide +kernel)
  have hsaved : exec (.save (.steward 0) 0 true) wrappingVf = .next (saveVf savingVf 0 0 true) :=
    exec_save_page (by decide +kernel) (by decide) (by decide +kernel) (by decide +kernel) (by decide +kernel)
  have ht : t = saveVf savingVf 0 0 true := Host.Outcome.next.inj (hexec.symm.trans hsaved)
  obtain ⟨front, rest, hfront, -, hbody⟩ := bare_wrappingVf.blobBody_zeros 0
  have haddr : hostKey 0 (wrappingVf.rd HIF_MCMD.addr 0) = 0 := by decide +kernel
  rw [haddr, hbody] at hblob
  have hzeros := loadBytes_middle hblob
  rw [hfront, leBytes_length, ht, hmem, place_of_commit] at hzeros
  have hcommit := loadBytes_storeBytes_same m 40 (leBytes 8 (commitWord c (blobBody (lengthShown savingVf 0 0) 0 0 false)))
  rw [leBytes_length] at hcommit
  exact leBytes_commitWord_ne _ _ (hcommit.symm.trans hzeros)

end Sys2Proof.Machine
end
